-- ==== Sys2Proof/Word.lean ====
section
/-! DEFINITION. The word types of the block, a sparse table of values by number, and a bit range of a word. -/

namespace Sys2Proof

/-- R4: every register of the peripheral region is 32 bits wide. -/
abbrev Word := BitVec 32
/-- R53: a 64-bit counter occupies two words. -/
abbrev Word64 := BitVec 64
abbrev Byte := BitVec 8

/-- A table of values by number. A number it does not list holds the table's default; see Machine/Tbl.lean. -/
abbrev Tbl (α : Type) := List (Nat × α)

/-- A bit range of a register, as the spec's tables give it: its lowest bit and its width. -/
structure Fld where
  lo : Nat
  w : Nat
  deriving DecidableEq, Repr

/-- The requesters of the module (spec/02, "Requester codes"). -/
inductive Req where
  | a0 | a1 | a2 | a3 | sup | host | access | cde | island
  deriving DecidableEq, Repr

/-- The 4-bit requester code of spec/02. -/
def Req.code : Req → Nat
  | .a0 => 0 | .a1 => 1 | .a2 => 2 | .a3 => 3 | .sup => 4 | .host => 5 | .access => 6 | .cde => 7 | .island => 8

/-- The requester of a code; 0x9 to 0xF are reserved, never issued. -/
def Req.ofCode? : Nat → Option Req
  | 0 => some .a0 | 1 => some .a1 | 2 => some .a2 | 3 => some .a3 | 4 => some .sup | 5 => some .host
  | 6 => some .access | 7 => some .cde | 8 => some .island | _ => none

/-- Application core c, for c = 0 to 3. -/
def Req.core : Fin 4 → Req
  | 0 => .a0 | 1 => .a1 | 2 => .a2 | 3 => .a3

end Sys2Proof
end

