-- ==== Sys2Proof/Syntax.lean ====
section
/-! DEFINITION. The commands of the block: one constructor per row of spec/opcode_table.json, in the table's order, with
the row's operands. What an environment supplies (a frame, a measured value, an answer from a bus) is an operand. -/

namespace Sys2Proof

/-- The width of a bus access (R4: only aligned 32-bit accesses are allowed in the peripheral region). -/
inductive Width where
  | byte | half | word
  deriving DecidableEq, Repr

/-- What a power die's own measurement shows of a channel at a trip, in the units of CH_FAULT_REC1 and CH_FAULT_REC2:
current in 10 mA, junction temperature in °C plus 50, feed and output voltage in 10 mV. -/
structure Measured where
  i : BitVec 16
  tj : BitVec 8
  vfeed : BitVec 16
  vout : BitVec 16
  deriving DecidableEq, Repr

/-- What else falls in the PWR cycle in which a power die detects a trip cause of a channel: the other causes of 1, 2, 3 and 11
that it detects on the channel (R136), and whether the boundary of the channel's pending set does (R137). -/
structure SameCycle where
  also : List Nat := []
  boundary : Bool := false
  deriving DecidableEq, Repr

/-- A trip cause as it is detected: the die's measurement, and what else falls in that cycle. -/
structure Sample extends Measured, SameCycle
  deriving DecidableEq, Repr

/-- Three consecutive 4 µs current samples in mA, with what a trip they cause records (R122). -/
structure EnvSample extends Sample where
  ma : Vector Nat 3
  deriving DecidableEq, Repr

/-- A channel, and the current of its load in mA (R99, R121). -/
structure LoadAt where
  ch : Fin 192
  ma : Nat
  deriving DecidableEq, Repr

/-- A power die, and the samples of its feed over 10 µs in 10 mV (R143, R194). -/
structure FeedAt where
  n : Fin 4
  feed : List Nat
  deriving DecidableEq, Repr

/-- A channel whose off-state cycle falls due, and whether its clamp has ended (R176). -/
structure CycleAt where
  ch : Fin 192
  clamped : Bool
  deriving DecidableEq, Repr

/-- VBOOST in 0.1 V, and whether the boost converter is at its current limit (R241). -/
structure BoostAt where
  v : Nat
  ilim : Bool
  deriving DecidableEq, Repr

/-- What the field die measures in a millisecond: voltage and current of every point, in the units of FP_MEAS, and L+ in 0.1 V
(R266, R268). -/
structure FieldMeas where
  ms : List (BitVec 16 × BitVec 16)
  lplus : Nat
  deriving DecidableEq, Repr

/-- A core, and how many instructions have entered its decode since the interval began (R301). -/
structure DecodeAt where
  c : Fin 4
  entered : Nat
  deriving DecidableEq, Repr

/-- The 64-bit counters that are read and written as two words (R53, R54, R295). In hpm c j, j is 0 for mcycle, 2 for
minstret and 3 to 14 for mhpmcounterj of core c. -/
inductive Ctr64 where
  | mtime | pwrTime (n : Fin 4) | energy (ch : Fin 192) | rtc | hpm (c : Fin 4) (j : Fin 15)
  deriving DecidableEq, Repr

/-- The lock groups that a LOCK bit closes (R43). -/
inductive LockGroup where
  | sys | hsp
  deriving DecidableEq, Repr

/-- One 4 µs current sample of a channel (R167, R169): the current in mA, whether it counts for CH_I_ON (taken while
driven, from 20 µs after the on edge), the latest output-voltage sample of the same drive state in 10 mV; whether it was
taken in STARTING, and whether the limiter then held it at the segment ceiling (R184). -/
structure ISample where
  ma : Int
  on : Bool
  v : Int
  starting : Bool := false
  limited : Bool := false
  deriving DecidableEq, Repr

/-- What the die's sampling of a channel gives for one 1 ms window: its current samples, its output-voltage samples in
10 mV, and the latest junction temperature in °C plus 50 (R167). -/
structure ChanWin where
  cur : List ISample
  vout : List Int
  tj : BitVec 8
  deriving DecidableEq, Repr

/-- A sample of a start's first 200 µs (R184): current in mA and output voltage in 10 mV, every 4 µs from the grant. -/
structure EarlySample where
  ma : Int
  v : Int
  deriving DecidableEq, Repr

/-- A stretch of a clamp (R129): the load current in mA, the voltages at the two sides of the switch in 10 mV (of a channel the feed
and the output, of a valve the select's pin and ground, of a field point L+ and the point), and how long they held in ns. -/
structure ClampPart where
  ma : Nat
  vfeed : Int
  vout : Int
  ns : Nat
  deriving DecidableEq, Repr

/-- A raw current sample of a stream (R172): its 14-bit code, and whether the output was driven. -/
structure RawSample where
  code : BitVec 14
  driven : Bool
  deriving DecidableEq, Repr

/-- A reflection the sampler finds (R189): its delay in ps and its coefficient in 1/4096. -/
structure Reflection where
  ps : Nat
  rho : Int
  deriving DecidableEq, Repr

/-- A sample of a sink at the end of an on-pulse (R201): its number, its headroom in 10 mV, its current in 0.01 mA, and
whether the pulse began in the sub-period before the one that ends (R199). -/
structure LedSample where
  s : Fin 24
  hr : Nat
  i : Nat
  spilled : Bool := false
  deriving DecidableEq, Repr


/-- The atomic accesses of the application cores (R276). -/
inductive AtomicOp where
  | lr | sc | swap | add | xor | and | or | min | max | minu | maxu
  deriving DecidableEq, Repr


/-- A CAN frame as it is received (R364): its identifier (a standard one in bits 28 to 18), format bits, DLC and data
words (byte 0 in the highest byte of the first). -/
structure CanFrame where
  xtd : Bool
  id : BitVec 29
  dlc : Fin 16
  fdf : Bool
  brs : Bool
  esi : Bool
  rtr : Bool
  data : List Word
  deriving DecidableEq, Repr

/-- What a CAN controller receives: a valid frame, or one with an error, after which a dominant bit followed the error
flag or not (ISO 11898-1, R359). -/
inductive CanRx where
  | valid (f : CanFrame)
  | error (dominant : Bool)
  deriving DecidableEq, Repr

/-- How a transmit attempt ends (R359 to R361, R369): acknowledged; arbitration lost; an acknowledge error, with or
without a dominant bit during the error flag; another error, which raises TEC or (a recessive stuff bit of the
arbitration field, ISO 11898-1) does not. -/
inductive TxEnd where
  | done
  | lost
  | ackError (dominant : Bool)
  | error (counted : Bool)
  deriving DecidableEq, Repr

/-- How a LIN frame on the bus ends (R378): its response's bytes, checksum included; a published response that ended
without an error; a bit error, framing error or sync error, with the bytes seen before it. -/
inductive LinEnd where
  | response (bytes : List Byte)
  | sent
  | bit (bytes : List Byte)
  | framing (bytes : List Byte)
  | sync
  deriving DecidableEq, Repr


/-- How the activation of an armed package goes (R494 to R497): it commits; it fails before WRITE, in part part (15: none), in
BACKUP or else in DECRYPT; it fails from WRITE on, or an interrupted one is restored; the restore fails; the supply is lost
in a phase (1 DECRYPT, 2 BACKUP, 3 WRITE or CHECK, 4 restoring). -/
inductive Activation where
  | commits
  | rejected (part : Fin 16) (backup : Bool)
  | restored (part : Fin 16)
  | restoreFails (part : Fin 16)
  | cut (phase : Fin 5)
  deriving DecidableEq, Repr

/-- What a start of the control die finds (R390, R391, R412): the 40 MHz crystal within its window; the supervisor
firmware and the application image verified; the dies whose links train, as a mask over d; the migration outcome, records
migrated and versions (word 5 of the boot report); the time it takes in µs; a log record whose programming the supply loss
interrupted (R471); and how an activation that is due goes. -/
structure StartEnv where
  xtal : Bool := true
  supOk : Bool := true
  appOk : Bool := true
  links : BitVec 8 := 0xFE
  migration : Word := 0
  micros : Nat := 0
  torn : Bool := false
  act : Activation := .commits
  deriving DecidableEq, Repr

/-- A wake source (R393): its bit of SEN_WAKE_SRC, and the input of an SI, PATROL or TAMPER wake. -/
structure WakeAt where
  bit : Fin 19
  input : Fin 64
  deriving DecidableEq, Repr


/-- What the access die hears (R441, R443, R455): an answer with its nonce and proof; energy that does not decode; a token in
enrolment mode, with its identity, nonce, proof under the transport key and ranged distance in cm; its confirmation of
the token key. -/
inductive TokenRx where
  | answer (nonce proof : BitVec 128)
  | noise
  | enrolling (ident : BitVec 64) (nonce proof : BitVec 128) (cm : Nat)
  | confirm
  deriving DecidableEq, Repr


/-- One command. The comment of a constructor is its row's rule and what the row says. -/
inductive Instr where
  /-- R17: The 40 MHz crystal stays outside 40 MHz ± 2 % for 8 µs, so the clock monitor declares it failed and starts the failure sequence. -/
  | xtal40Fail
  /-- R20: The 32.768 kHz crystal stops or is absent, so the RTC runs from the 1 MHz RC and EV011 is raised once. -/
  | xtal32kLoss
  /-- R531: The 32.768 kHz crystal is not running 1 s after power-on, which counts as a loss. -/
  | xtal32kStartTimeout
  /-- R21: The RADIO crystal is lost, so ranging stops and RADIO_XTAL_OK clears. -/
  | radioXtalLoss
  /-- R24: A posted-write frame arrives at a remote die, is accepted in sequence order and lands, or is ignored and counted under R34. -/
  | postedWriteFrame (d : Fin 8) (addr : BitVec 24) (data : Word) (rq : Req) (seq : BitVec 6) (crc : BitVec 16)
  /-- R22: A read-request frame arrives at a remote die, which answers it with a read response. -/
  | readRequestFrame (d : Fin 8) (addr : BitVec 24) (rq : Req) (seq : BitVec 6) (crc : BitVec 16)
  /-- R22: A read-response frame reaches D0 and completes the held read. -/
  | readResponseFrame (d : Fin 8) (data : Word) (err : BitVec 4) (seq : BitVec 6) (crc : BitVec 16)
  /-- R24: An acknowledge frame resolves the outstanding frames up to the named sequence number, and the posted writes they carried count as acknowledged. -/
  | acknowledgeFrame (d : Fin 8) (seq : BitVec 6) (crc : BitVec 16)
  /-- R24: A negative acknowledge makes the sender resend the named frame and every later frame, go-back-N. -/
  | negativeAcknowledgeFrame (d : Fin 8) (seq : BitVec 6) (crc : BitVec 16)
  /-- R268: A status-push frame carries Faceplate source data from a remote die to D0. -/
  | statusPushFrame (d : Fin 8) (first : BitVec 10) (ws : List Word) (lows : List (BitVec 15)) (crc : BitVec 16)
  /-- R293: An event frame from a remote die reaches the event router and raises its event. -/
  | eventFrame (d : Fin 8) (ev : BitVec 8) (detail : BitVec 24) (crc : BitVec 16)
  /-- R29: A keep-alive reports the die state and HOLD_TIME remaining, and the first one after retraining re-establishes the link. -/
  | keepAliveFrame (d : Fin 8) (st : BitVec 8) (holdLeft : BitVec 16) (crc : BitVec 16)
  /-- R25: A frame's eighth attempt fails, so the transfer fails with LINK_FAIL, the link is declared down and it retrains. -/
  | linkRetryExhausted (d : Fin 8)
  /-- R28: A remote die has received no valid frame for its loss time and declares its link lost. -/
  | linkLossTimeout (d : Fin 8)
  /-- R28: A remote die receives the training sequence of a retrain and declares its link lost. -/
  | trainingSequenceReceived (d : Fin 8)
  /-- R29: The supervisor acknowledges a re-established link, so HELD outputs return to command and the die raises EV052 + n if any of its channels entered LIMP. -/
  | linkAcknowledge (d : Fin 8)
  /-- R30: A 10 ms retry-count window ends, and DEGRADED clears if the window held fewer than 64 retries. -/
  | retryWindowEnd (d : Fin 8)
  /-- R28: A supervisor write of RETRAIN forces the link down and retrains it. -/
  | sysLinkRetrain (rq : Req) (d : Fin 8)
  /-- R57: A target on an up link gives no response within 20 µs, and the access completes with TIMEOUT. -/
  | accessTimeout (rq : Req) (write : Bool) (addr : Word)
  /-- R58: One of a requester's eight outstanding remote posted writes resolves, releasing a held ninth write. -/
  | postedWriteSlotFree (rq : Req)
  /-- R42: A write to a register that has no row of its own, applied field by field under the register types, locks, ownership and R34. -/
  | registerWrite (rq : Req) (user : Bool) (w : Width) (addr : Word) (data : Word)
  /-- R43: A write of 1 to a LOCK bit closes its lock group until the block's next reset. -/
  | lockGroupClose (rq : Req) (g : LockGroup)
  /-- R386: A block's idle count expires with no access and no activity of its own, and the block enters CLOCK_GATED. -/
  | blockIdleGate (b : Fin 19)
  /-- R66: A read of SYS_DRAIN holds the requester until its earlier posted writes have resolved. -/
  | sysDrainRead (rq : Req)
  /-- R66: The drain's last write resolves, and the read returns DONE with the FAILED count, which then resets. -/
  | sysDrainDone (rq : Req)
  /-- R67: A read of a die's ORDER_TOKEN waits for every write already sent on that die's link. -/
  | orderTokenRead (rq : Req) (d : Fin 8)
  /-- R67: The covered writes have landed, and ORDER_TOKEN returns its LANDED count. -/
  | orderTokenDone (rq : Req) (d : Fin 8)
  /-- R37: An alias read returns one bit of the target without any read side effect. -/
  | aliasRead (rq : Req) (user : Bool) (w : Width) (addr : Word)
  /-- R38: An alias write changes only the addressed bit, as one operation applied at the target block. -/
  | aliasWrite (rq : Req) (user : Bool) (w : Width) (addr : Word) (data : Word)
  /-- R53: A read of a 64-bit counter's low half latches the high half for the reading requester. -/
  | counter64LowRead (rq : Req) (c : Ctr64)
  /-- R53: A read of the high half returns that requester's latched value. -/
  | counter64HighRead (rq : Req) (c : Ctr64)
  /-- R54: A write of a 64-bit counter's high half is held in the staging word. -/
  | counter64HighWrite (rq : Req) (c : Ctr64) (data : Word)
  /-- R54: A write of the low half applies the staged high half and the new low half together, and the staging word returns to zero. -/
  | counter64LowWrite (rq : Req) (c : Ctr64) (data : Word)
  /-- R91: A CH_CMD write with APPLY = 1 stores the fields and captures the channel's shadow into its pending set. -/
  | chCmdApply (rq : Req) (ch : Fin 192) (data : Word)
  /-- R141: A REARM write takes a LATCHED_OFF channel to OFF once its cooling condition is met. -/
  | chCmdRearm (rq : Req) (ch : Fin 192) (data : Word)
  /-- R91: A write of GO captures every masked channel in one PWR cycle, skipping those in the states of R95. -/
  | pwrCommitGo (rq : Req) (n : Fin 4) (data : Word)
  /-- R90: The die's 100 kHz commit clock ticks and applies the pending sets of channels that are not in PWM. -/
  | commitTick (n : Fin 4)
  /-- R81: A channel's PWM boundary begins a new period, which applies its pending set and any graceful disable. -/
  | pwmPeriodStart (ch : Fin 192)
  /-- R110: The scheduler re-examines pending requests, at least every 10 µs, and grants in order as many as fit. -/
  | schedReexamine (n : Fin 4)
  /-- R112: A request reaches DEFER_MAX × 100 µs of waiting and is granted at the cap, with counting, a Q10 record and EV040 + n. -/
  | deferCapExpire (ch : Fin 192)
  /-- R102: An inrush profile segment ends, so the booking falls, and after the last segment the channel enters ON or PWM. -/
  | profileSegmentEnd (ch : Fin 192)
  /-- R116: A write of IS_BUDGET changes the budget, revokes no grant and triggers a re-examination. -/
  | isBudgetWrite (rq : Req) (n : Fin 4) (data : Word)
  /-- R116: A write of IS_CTRL.ENABLE = 0 grants every waiting request at once and every later request on arrival. -/
  | isEnableWrite (rq : Req) (n : Fin 4) (data : Word)
  /-- R112: A DEFER_MAX write applies at once, cap-granting every request that has already waited that long. -/
  | isDeferMaxWrite (rq : Req) (n : Fin 4) (data : Word)
  /-- R73: A PWR_PAIR write changes the pair bits whose members are OFF or DISABLED and refuses and counts the others. -/
  | pwrPairWrite (rq : Req) (n : Fin 4) (data : Word)
  /-- R88: A supervisor write of CH_OWNER changes the owner at once and reloads the shadows from the active set. -/
  | chOwnerWrite (rq : Req) (ch : Fin 192) (data : Word)
  /-- R121: The load is held at the ceiling in force after STARTING, so the channel enters LIMITING. -/
  | currentAtCeiling (l : LoadAt)
  /-- R99: The current falls below the ceiling, so a LIMITING channel returns to ON or PWM. -/
  | currentBelowCeiling (l : LoadAt)
  /-- R120: The fast comparator sees the hard short threshold, turns the channel off within 2 µs and declares cause 1. -/
  | hardShortTrip (ch : Fin 192) (m : Sample)
  /-- R122: Three consecutive 4 µs samples lie above ceiling × ENV_FACTOR, so cause 2 is declared. -/
  | envelopeOvercurrent (ch : Fin 192) (m : EnvSample)
  /-- R123: The output stays below the held-short threshold at the ceiling for the held-short time, so cause 1 is declared. -/
  | heldShortTimeout (ch : Fin 192) (m : Sample)
  /-- R124: The channel has been in LIMITING longer than LIMIT_TIME, so cause 2 is declared. -/
  | limitTimeExpire (ch : Fin 192) (m : Sample)
  /-- R126: The junction reaches the absolute thermal shutdown level, so the channel turns off within 20 µs with cause 3. -/
  | thermalShutdown (ch : Fin 192) (m : Sample)
  /-- R126: The junction crosses the thermal warning level, setting or clearing TJ_WARN. -/
  | tjWarnChange (ch : Fin 192) (on : Bool)
  /-- R130: An inductive clamp ends, CH_CLAMP is updated, and an excess over the allowance declares cause 8. -/
  | clampEnd (ch : Fin 192) (parts : List ClampPart) (tj : BitVec 8) (m : Sample)
  /-- R131: At each whole millisecond the wire level x is updated, WIRE_WARN follows, and x reaching 1 with WIRE_EN trips cause 11. -/
  | wireModelUpdate (ch : Fin 192) (y : SameCycle) (m : Measured)
  /-- R139: A COOLDOWN back-off expires, and the retry start is requested if the cooling condition is met. -/
  | backoffExpire (ch : Fin 192)
  /-- R127: A junction or wire level reaches its cooling condition, releasing a waiting retry or allowing REARM. -/
  | coolingConditionMet (ch : Fin 192)
  /-- R140: The channel has spent 1 s in ON, PWM or LIMITING without a trip, so its retry count returns to zero. -/
  | retryCountClearTimer (ch : Fin 192)
  /-- R147: The output lies above the feed by the reverse threshold for 20 µs, so cause 7 is declared and a driven channel goes fully on. -/
  | reverseDetect (ch : Fin 192)
  /-- R147: The output has been less than 0.2 V above the feed for 100 µs, so REVERSE clears. -/
  | reverseClear (ch : Fin 192)
  /-- R148: The feed crosses 6 V, setting or clearing SCALED. -/
  | feedScaledChange (n : Fin 4) (below : Bool)
  /-- R149: The feed stays below the undervoltage level for 10 µs, so every driven channel turns off with cause 9. -/
  | feedUndervoltage (n : Fin 4) (ms : List Sample)
  /-- R149: The feed has been above the recovery level for 1 ms, so the cause-9 channels request their starts. -/
  | feedUvRecovery (n : Fin 4)
  /-- R150: The feed stays above the overvoltage level for 10 µs, so the non-sealed driven channels turn off with cause 10. -/
  | feedOvervoltage (n : Fin 4) (ms : List Sample)
  /-- R150: The feed has been below the overvoltage recovery level for 1 ms, so the cause-10 channels request their starts. -/
  | feedOvRecovery (n : Fin 4)
  /-- R143: A 10 µs feed average falls more than 3 V below the 10 ms average, so new grants freeze for 1 ms and PWR_DIP_CNT increments. -/
  | feedDipDetect (x : FeedAt)
  /-- R143: The 1 ms freeze expires, and grants resume. -/
  | feedFreezeEnd (n : Fin 4)
  /-- R153: A write of DIS = 1 disables the channel, forced at once or gracefully at its next boundary. -/
  | chDisableSet (rq : Req) (ch : Fin 192) (force : Bool)
  /-- R154: A write of DIS = 0 returns a DISABLED channel to OFF with its retry count at zero. -/
  | chEnable (rq : Req) (ch : Fin 192)
  /-- R157: HOLD_TIME expires, so every HELD channel enters LIMP under LIMP_MODE and counts cause 13, and valves follow their limp modes. -/
  | pwrHoldTimeExpire (n : Fin 4)
  /-- R160: A die-local reset of a remote die turns its outputs off at once and clears its records and counters. -/
  | dieLocalReset (d : Fin 8)
  /-- R161: Loss of the module supply turns every channel off, and only the bypass paths keep conducting. -/
  | moduleSupplyLoss
  /-- R167: A 1 ms measurement window ends, all reported values and feed averages are written in one PWR cycle, and CH_MEAS_SEQ increments. -/
  | measWindowEnd (n : Fin 4) (ws : List ChanWin) (feed : List Nat) (early : List (Nat × List EarlySample)) (vlv : List (BitVec 16 × BitVec 16))
  /-- R186: No settled pair of windows is found within 2 s of the grant, so identification ends UNSETTLED. -/
  | lidUnsettledTimeout (ch : Fin 192)
  /-- R172: A 130-word raw current packet is filled and pushed to Q24 + n, or dropped whole and counted. -/
  | streamPacketComplete (n : Fin 4) (samples : List RawSample) (odd : List (BitVec 14))
  /-- R173: A PWR_STREAM_CTRL write takes effect at the next packet boundary. -/
  | streamCtrlWrite (rq : Req) (n : Fin 4) (data : Word)
  /-- R174: An on-state diagnosis window ends as a candidate or not, updating UNCONFIRMED and OPEN_ON. -/
  | onStateWindowEnd (ch : Fin 192) (samples : List Int)
  /-- R176: An off-state diagnosis cycle begins in an undriven output, every OFF_INTERVAL in OFF or in a long PWM off-time. -/
  | offDiagCycleStart (x : CycleAt)
  /-- R144: The 200 µs pull-down phase ends, and an output above 50 % declares cause 6, or cause 4 is confirmed. -/
  | pullDownPhaseEnd (ch : Fin 192) (above : Bool)
  /-- R177: The pull-up phase ends with an open or load-present outcome, which can declare cause 5. -/
  | pullUpPhaseEnd (ch : Fin 192) (v : BitVec 16) (vfeed : BitVec 16)
  /-- R180: A write of PWR_XC_CTRL.GO starts a cross-coupling test, or it is refused. -/
  | xcGo (rq : Req) (n : Fin 4) (data : Word)
  /-- R181: The 50 µs source pulse ends, and the test ends DONE with the HIT masks and EV060 + n. -/
  | xcPulseEnd (n : Fin 4) (rose : BitVec 48)
  /-- R187: A write of PWR_TDR_CTRL.GO starts a reflectometry run, or it is refused. -/
  | tdrGo (rq : Req) (n : Fin 4) (data : Word)
  /-- R190: A write of STOP ends a reflectometry run ABORTED. -/
  | tdrStop (rq : Req) (n : Fin 4) (data : Word)
  /-- R166: The commitment falls to 90 % or below, and the reflectometry resumes from its step. -/
  | tdrResume (n : Fin 4)
  /-- R191: A run finishes its 4096 steps, sends its packet to Q28 and raises EV060 + n. -/
  | tdrRunComplete (n : Fin 4) (found : List Reflection) (trace : List Word)
  /-- R192: A write of MEAS_TERM requests a termination measurement on a bus. -/
  | cantMeasTerm (rq : Req) (n : Fin 6) (data : Word)
  /-- R192: A write of MEAS_STEP requests a first-step distance measurement on a bus. -/
  | cantMeasStep (rq : Req) (n : Fin 6) (data : Word)
  /-- R192: The bus has been idle for 11 recessive bits, so a waiting or paused measurement runs or resumes. -/
  | cantBusIdle (n : Fin 6)
  /-- R193: A start of frame or a transmit request pauses a bus-health measurement at once. -/
  | cantMeasPause (n : Fin 6)
  /-- R193: A bus-health measurement completes with its result, and EV070 is raised. -/
  | cantMeasDone (n : Fin 6) (step : Bool) (ohm : BitVec 16) (found : Option Reflection)
  /-- R193: A measurement not finished 1 s after it began ends ABORTED. -/
  | cantMeasTimeout (n : Fin 6) (step : Bool)
  /-- R195: No L+ value has crossed the barrier for 5 ms, so the LPLUS register's STALE sets. -/
  | lplusStaleTimeout
  /-- R202: At a 256 µs sub-period boundary, new sink values apply and the headroom converter moves VSET from h_min. -/
  | ledSubperiodBoundary (samples : List LedSample) (ilim : Bool)
  /-- R206: A sink junction reaches thermal shutdown, so the sink enters COOL. -/
  | lsThermalShutdown (x : Fin 24)
  /-- R206: A COOL sink falls to the restart level and restarts automatically. -/
  | lsThermalRestart (x : Fin 24)
  /-- R200: A write of LS_CTRL.APPLY captures the sink's shadows for the next sub-period boundary. -/
  | lsCtrlApply (rq : Req) (x : Fin 24) (data : Word)
  /-- R207: A write of LS_CTRL.REARM takes a FAULT sink to OFF, unless a fault in the same cycle wins. -/
  | lsCtrlRearm (rq : Req) (x : Fin 24) (data : Word)
  /-- R200: A write of LED_COMMIT.GO captures every masked sink in one AON cycle. -/
  | ledCommitGo (rq : Req) (data : Word)
  /-- R205: The converter stays at its current limit for 1 ms, or above VMAX + 3 V for 100 µs, so it stops, its sinks enter VLED_WAIT and EV074 is raised. -/
  | ledHrStop
  /-- R205: 100 ms after a stop the converter restarts from 12 V, unless a fourth stop within 10 s has latched it. -/
  | ledHrRestart
  /-- R205: A write of LED_HR_CTRL.REARM releases a latched converter. -/
  | ledHrRearm (rq : Req) (data : Word)
  /-- R211: An NTC input is converted every 10 ms into a temperature, and an out-of-range resistance sets FAULT and raises EV076. -/
  | ntcConversion (t : Fin 8) (ohm : Nat)
  /-- R212: Every 100 ms, a group with an NTC computes its target factor and moves F by at most 8. -/
  | derateUpdate (g : Fin 12)
  /-- R213: Within 2 ms of a change in a group's output or state, the supervisor applies ON or OFF to the member load channels. -/
  | lfMemberChannelSync (g : Fin 12)
  /-- R216: A write of LF_CFG.EN = 0 turns the member sinks off at the next boundary and applies OFF to the member channels. -/
  | lfDisable (rq : Req) (g : Fin 12) (data : Word)
  /-- R217: A pattern engine's 1 ms tick runs its timed and untimed steps, updating lanes, jumps, sync marks, HALT and ERROR. -/
  | peTick (e : Fin 8)
  /-- R219: A write of PE_CTRL.START restarts the engine at START_STEP with its loop counters reset. -/
  | peCtrlStart (rq : Req) (e : Fin 8) (data : Word)
  /-- R219: A write of PE_CTRL.STOP ends the engine under END_MODE. -/
  | peCtrlStop (rq : Req) (e : Fin 8) (data : Word)
  /-- R221: A flasher's on-phase begins and applies the active mode to its masked channels as starts. -/
  | flashOnPhaseStart (n : Fin 4) (k : Fin 4)
  /-- R222: An on-phase ends, the mean currents are checked against OUT_THR for OUTAGE, and the off-phase applies OFF. -/
  | flashOnPhaseEnd (n : Fin 4) (k : Fin 4) (means : List Nat)
  /-- R223: The supervisor relays an engine's sync mark to a SYNC flasher within 2 ms, which starts or restarts an on-phase. -/
  | flashSyncRelay (n : Fin 4) (k : Fin 4)
  /-- R214: The supervisor relays a flasher's OUTAGE to its engine's group within 2 ms. -/
  | flashOutageRelay (n : Fin 4) (k : Fin 4)
  /-- R224: LED_HOLD_TIME expires, and each HELD sink takes its LIMP_MODE. -/
  | ledHoldTimeExpire
  /-- R233: A write of REQ = 1 requests a valve on, and it enters WAIT_OVERLAP, WAIT_BOOST or PEAK. -/
  | vlvCmdReqSet (rq : Req) (v : Fin 16) (data : Word) (vboost : Nat)
  /-- R237: A write of REQ = 0 withdraws a waiting request or starts DECAY. -/
  | vlvCmdReqClear (rq : Req) (v : Fin 16) (data : Word)
  /-- R244: A write of VLV_CMD.REARM takes a FAULT valve to OFF, after cooling where required. -/
  | vlvCmdRearm (rq : Req) (v : Fin 16) (data : Word) (cool : Bool)
  /-- R234: PEAK_T ends, and the valve passes to HOLD or faults with code 3 as an open coil. -/
  | peakTExpire (v : Fin 16) (ma : Nat)
  /-- R242: VBOOST reaches PWR_VB_THR, and valves in WAIT_BOOST pass to PEAK. -/
  | vboostReady (n : Fin 4) (vboost : BoostAt)
  /-- R242: A valve has been in WAIT_BOOST for NR_MAX, so hardware clears REQ and the request times out. -/
  | nrMaxExpire (v : Fin 16)
  /-- R239: A request has waited OVERLAP_MAX for a peak slot, so it ends, counted as an overlap timeout. -/
  | overlapMaxExpire (v : Fin 16)
  /-- R235: ON_MAX expires, so hardware clears REQ and the valve decays off with code 6 counted. -/
  | onMaxExpire (v : Fin 16)
  /-- R236: The select duty has been 100 % for 10 ms with the current below 90 % of HOLD_I, so HOLD_LOW sets and code 7 is counted. -/
  | holdLowDetect (v : Fin 16)
  /-- R236: The hold current reaches HOLD_I, and HOLD_LOW clears. -/
  | holdLowClear (v : Fin 16)
  /-- R228: The coil current reaches zero after fast decay, so the valve goes OFF and the clamp energy is checked. -/
  | valveDecayEnd (v : Fin 16) (parts : List ClampPart) (tj : BitVec 8)
  /-- R244: A high-side hard trip or thermal shutdown faults every valve of the group with code 1. -/
  | vgHighSideTrip (g : Fin 8)
  /-- R244: A select overcurrent trip turns the valve off within 2 µs with code 2. -/
  | vlvSelectOvercurrent (v : Fin 16)
  /-- R244: A select thermal shutdown faults the valve with code 4. -/
  | vlvSelectThermal (v : Fin 16)
  /-- R245: A write of VLV_CFG.EN = 0 ends PEAK or HOLD with fast decay and cancels waiting requests. -/
  | vlvDisable (rq : Req) (v : Fin 16) (data : Word)
  /-- R245: A write of EN = 1 returns the valve to OFF. -/
  | vlvEnable (rq : Req) (v : Fin 16) (data : Word)
  /-- R231: A VG_CFG.PAR write parallels or separates the die's two groups when all four valves are OFF or DISABLED, and is refused otherwise. -/
  | vgParWrite (rq : Req) (g : Fin 8) (data : Word)
  /-- R249: On a 1 ms AON tick that is a multiple of SCAN, the due input groups start their wetting pulses. -/
  | siScanTick
  /-- R251: An input sample is converted and debounced, and VALUE or BAND may change. -/
  | siConversionDone (n : Fin 64) (code : Nat)
  /-- R254: A read of SI_STATE0 latches SI_STATE1 for the reading requester. -/
  | siState0Read (rq : Req)
  /-- R255: An edge at a wake comparator with WAKE_EN wakes the module in PARK or PATROL. -/
  | siWakeEdge (n : Fin 64) (rising : Bool) (env : StartEnv)
  /-- R261: A field input's new level has held for FILT, so VALUE changes and is counted, recorded and raised. -/
  | fpFilterExpire (p : Fin 32) (level : Bool)
  /-- R262: An input's current stays below WB_THR for WB_TIME, so WIRE_BREAK sets. -/
  | fpWireBreakDetect (p : Fin 32)
  /-- R262: The input's current has been at or above WB_THR for WB_TIME, so WIRE_BREAK clears. -/
  | fpWireBreakClear (p : Fin 32)
  /-- R263: A write of FP_CMD.ON drives or releases a field output. -/
  | fpCmdOnWrite (rq : Req) (p : Fin 32) (on : Bool)
  /-- R263: A write of FP_CMD.REARM takes a FAULT output to OFF once the switch is below 150 °C. -/
  | fpCmdRearm (rq : Req) (p : Fin 32) (data : Word) (cool : Bool)
  /-- R263: An output held at its current limit for 1 ms faults with code 1, into FAULT or COOLDOWN. -/
  | fpShort (p : Fin 32) (hot : Bool)
  /-- R263: An output's thermal shutdown faults it with code 2. -/
  | fpThermalShutdown (p : Fin 32)
  /-- R263: 100 ms into COOLDOWN, with the switch below 150 °C, an AUTO_RETRY output restarts. -/
  | fpCooldownRestart (p : Fin 32)
  /-- R264: An ON output draws less than 5 mA for 10 ms, so OPEN_LOAD sets. -/
  | fpOpenLoadDetect (p : Fin 32)
  /-- R264: The output has drawn at least 5 mA for 10 ms, so OPEN_LOAD clears. -/
  | fpOpenLoadClear (p : Fin 32)
  /-- R264: An output's clamp ends, and an energy excess is fault code 2. -/
  | fpClampEnd (p : Fin 32) (parts : List ClampPart) (tj : BitVec 8)
  /-- R265: A write of FP_CFG.EN = 0 turns the output off and the point enters DISABLED. -/
  | fpDisable (rq : Req) (p : Fin 32) (data : Word)
  /-- R260: A write of FP_CFG.MODE changes the point's mode, or is refused while an output is active. -/
  | fpModeWrite (rq : Req) (p : Fin 32) (data : Word)
  /-- R266: L+ is outside UV–OV for 1 ms, so SUPPLY_FAULT sets and ON outputs enter WAIT_SUPPLY. -/
  | fldSupplyFault (tooHigh : Bool)
  /-- R266: L+ has been within UV + 1 V to OV − 1 V for 10 ms, so SUPPLY_FAULT clears and WAIT_SUPPLY outputs restart. -/
  | fldSupplyRecover
  /-- R268: Once per millisecond, the field die pushes every point's FP_MEAS to D0. -/
  | fpMeasPush (x : FieldMeas)
  /-- R269: FLD_HOLD_TIME expires, and each HELD output follows its LIMP_MODE. -/
  | fldHoldTimeExpire
  /-- R269: The barrier's power is lost, so the field die stops and its outputs go off. -/
  | barrierPowerLoss
  /-- R279: SYS_MTIME reaches a core's SYS_MTIMECMP, so mip.MTIP sets. -/
  | mtimecmpReached (c : Fin 4)
  /-- R272: A write to mcounteren is ignored, counted in SYS_LOCKVIOL_CNT_SYS, and raises EV004. -/
  | mcounterenWrite (c : Fin 4) (data : Word)
  /-- R275: A FENCE.I makes the executing core's instruction fetches see its earlier stores. -/
  | fenceI (c : Fin 4)
  /-- R64: A FENCE with I or O orders the issue of peripheral accesses at the core only. -/
  | fenceIo (c : Fin 4) (pred : BitVec 4) (succ : BitVec 4)
  /-- R276: An LR, SC or AMO acts on SRAM with a 32-byte reservation, and raises an access fault elsewhere. -/
  | atomicAccess (c : Fin 4) (user : Bool) (op : AtomicOp) (addr : Word) (data : Word)
  /-- R277: A cache-line parity error is corrected by refetch, or faults the access with syndrome ECC for a dirty line. -/
  | cacheParityError (c : Fin 4) (addr : Word) (dirty : Bool) (write : Bool)
  /-- R283: An SRAM read finds an ECC error, which is corrected and written back, or completes with a bus error of syndrome ECC. -/
  | sramEccError (rq : Req) (addr : Word) (double : Bool) (fetch : Bool)
  /-- R281: The two supervisor cores' outputs differ, causing a control-die reset with cause LOCKSTEP. -/
  | lockstepMismatch (env : StartEnv)
  /-- R274: An NVM program or erase completes and invalidates the affected cache lines in every core. -/
  | nvmOpComplete (lo : Word) (n : Nat)
  /-- R289: A read of EVR_CLAIM returns and removes the highest-priority pending source above the threshold at that target. -/
  | evrClaimRead (rq : Req) (t : Fin 7)
  /-- R292: A write of 1 to an EVR_SWRAISE bit raises the software event EV240 + j. -/
  | evrSwraiseWrite (rq : Req) (data : Word)
  /-- R291: An EVR_ROUTE write updates the route from the next cycle, keeping TARGET bit 4 unless the supervisor writes it. -/
  | evrRouteWrite (rq : Req) (k : Fin 256) (data : Word)
  /-- R300: A performance counter wraps to zero, so its OF sets and the overflow interrupt may assert. -/
  | hpmCounterWrap (c : Fin 4) (j : Fin 12)
  /-- R295: A counter CSR write stages the high half or applies the pair with the low half, and clears OF. -/
  | hpmCsrWrite (c : Fin 4) (csr : BitVec 12) (data : Word)
  /-- R301: BASE + L instructions have entered decode, so one instruction is tagged and the LFSR advances. -/
  | msampTag (x : DecodeAt)
  /-- R301: The tagged instruction retires, is flushed or traps, so its record is written and VALID sets. -/
  | msampRecord (c : Fin 4) (pc : Word) (lat0 : Word) (outcome : BitVec 2) (slot : Bool) (retire : BitVec 8)
  /-- R301: A write to MSAMP_CTL clears VALID and restarts the sampling interval. -/
  | msampCtlWrite (c : Fin 4) (data : Word)
  /-- R303: Each PERIOD while the window is open, the engine captures all counters and writes a 512-byte record, or drops it. -/
  | cdeSnapshot (wfi : BitVec 4)
  /-- R302: 10 s after the module leaves LIMP the dump window closes. -/
  | cdeWindowClose
  /-- R307: HSP_CS_N falls, capturing the in-frame status word and the SPI mode. -/
  | hspCsFall (mode3 : Bool)
  /-- R309: A NOP frame returns only the status word. -/
  | hspNop (addr : BitVec 24)
  /-- R312: A WRITE frame posts its whole words to consecutive addresses where the host may write. -/
  | hspWrite (addr : BitVec 24) (ws : List Word) (part : Bool)
  /-- R309: A WRITE_FIXED frame posts every whole word to one address. -/
  | hspWriteFixed (addr : BitVec 24) (ws : List Word) (part : Bool)
  /-- R315: A FETCH frame returns the deferred-read response, which is released only if the frame ends after its last word. -/
  | hspFetch (addr : BitVec 24) (words : Nat)
  /-- R310: A WRITE_PKT frame delivers one packet whole to a queue, with the end mark on its last word. -/
  | hspWritePkt (addr : BitVec 24) (ws : List Word) (part : Bool)
  /-- R309: An FP_READ frame reads words of the Faceplate front buffer from one snapshot. -/
  | hspFpRead (addr : BitVec 24) (words : Nat)
  /-- R309: A WAKE frame records the host as a wake source and raises EV021. -/
  | hspWake (addr : BitVec 24) (env : StartEnv)
  /-- R314: A READ_REQ frame starts 1–16 deferred reads of consecutive addresses when HSP_CS_N rises. -/
  | hspReadReq (n : Fin 16) (addr : BitVec 24)
  /-- R314: A READ_REQ_FIXED frame starts deferred reads of one address. -/
  | hspReadReqFixed (n : Fin 16) (addr : BitVec 24)
  /-- R314: The last deferred read completes, so DEFER_READY sets and EV017 is raised. -/
  | deferredReadsDone
  /-- R317: At each 50 µs tick a Faceplate refresh is assembled in the back buffer, or skipped while a swap waits. -/
  | fpCaptureTick (ms : Bool)
  /-- R318: 30 µs after a tick, or when an open frame ends, the buffers swap and FP_SEQ increments. -/
  | fpSwap
  /-- R327: A producer's write to Q_PUSH appends a word without an end mark. -/
  | qPushWrite (rq : Req) (q : Fin 32) (data : Word)
  /-- R327: A write to Q_PUSH_EOP appends a word with an end mark and commits the packet. -/
  | qPushEopWrite (rq : Req) (q : Fin 32) (data : Word)
  /-- R329: A consumer's read of Q_POP returns and removes the oldest word, or underruns. -/
  | qPopRead (rq : Req) (q : Fin 32)
  /-- R328: The draining bank is empty and the filling bank ends in an end mark, so the banks swap. -/
  | qBankSwap (q : Fin 32)
  /-- R330: A write of Q_PROD_CTRL.MARK sets the rewind mark at a packet start. -/
  | qMark (rq : Req) (q : Fin 32)
  /-- R330: A write of REWIND returns the write pointer to the mark and discards the words after it. -/
  | qRewind (rq : Req) (q : Fin 32)
  /-- R325: A supervisor write of Q_CFG.EN = 1 enables a configured, non-overlapping queue, or is refused. -/
  | qEnable (rq : Req) (q : Fin 32) (data : Word)
  /-- R529: A write of Q_CFG.EN = 0 empties the queue at once. -/
  | qDisable (rq : Req) (q : Fin 32) (data : Word)
  /-- R331: A hardware producer writes a whole packet to a queue if there is room, and otherwise drops it whole. -/
  | hwPacketPush (q : Fin 32) (ws : List Word)
  /-- R344: A held completion finds room of 34 words in its completion queue and is written. -/
  | cmdCompletionFlush (rq : Req)
  /-- R347: The NOP command completes with no effect. -/
  | nop (rq : Req)
  /-- R3: GET_VERSION returns the firmware versions of the supervisor, the application and every die. -/
  | getVersion (rq : Req)
  /-- R349: CMD_CANCEL withdraws a command of the same requester that has not started, or reports LATE or NOT_FOUND. -/
  | cmdCancel (rq : Req)
  /-- R349: CMD_ABORT stops an abortable command of the same requester that has started. -/
  | cmdAbort (rq : Req)
  /-- R341: GET_LIMITS returns table use, the requester's entries and quota, and its range mask. -/
  | getLimits (rq : Req)
  /-- R343: SET_QUOTA sets a requester's command quota until the control-die reset. -/
  | setQuota (rq : Req)
  /-- R415: GET_BOOT_REPORT returns the boot report words. -/
  | getBootReport (rq : Req)
  /-- R466: CFG_WRITE programs a configuration record for the next STARTUP, and refuses sealed-policy records. -/
  | cfgWrite (rq : Req)
  /-- R291: EVR_SET_ROUTE writes a source's route, keeping TARGET bit 4. -/
  | evrSetRoute (rq : Req)
  /-- R405: SYS_RESET schedules a control-die reset 100 µs later, or makes a die-local reset of D2–D7. -/
  | sysReset (rq : Req)
  /-- R405: 100 µs after SYS_RESET or UPD_ACTIVATE completes, the control-die reset takes place. -/
  | sysResetDelayExpire (env : StartEnv)
  /-- R352: CH_SET writes CH_PWM and CH_CMD on the owner's behalf and returns CH_STATUS. -/
  | chSet (rq : Req)
  /-- R97: CH_SET_CFG writes CH_CFG, which is used from the next capture. -/
  | chSetCfg (rq : Req)
  /-- R97: CH_COMMIT writes the masks and GO as one step for channels that the requester owns. -/
  | chCommit (rq : Req)
  /-- R88: CH_SET_OWNER changes a channel's owner. -/
  | chSetOwner (rq : Req)
  /-- R153: The CH_DISABLE command disables or enables a channel, and completes on DISABLED entry. -/
  | chDisable (rq : Req)
  /-- R141: The CH_REARM command writes REARM and returns CH_STATUS and CH_PROT_STATUS. -/
  | chRearm (rq : Req)
  /-- R151: CH_SET_PROT writes the protection, wire and limp configuration of a channel. -/
  | chSetProt (rq : Req)
  /-- R73: CH_SET_PAIR parallels or separates a pair. -/
  | chSetPair (rq : Req)
  /-- R168: CH_GET returns a channel's status and measured values from one window. -/
  | chGet (rq : Req)
  /-- R103: PROFILE_WRITE writes a user inrush profile 7–15 for later starts. -/
  | profileWrite (rq : Req)
  /-- R116: IS_SET writes a die's IS_CTRL and IS_BUDGET. -/
  | isSet (rq : Req)
  /-- R157: HOLD_SET writes a power die's HOLD_TIME. -/
  | holdSet (rq : Req)
  /-- R221: FLASH_SET configures a flasher and its masks. -/
  | flashSet (rq : Req)
  /-- R176: OL_SET writes a channel's open-load configuration and threshold. -/
  | olSet (rq : Req)
  /-- R183: LID_ARM arms identification and completes with the result, or on a wait timeout. -/
  | lidArm (rq : Req)
  /-- R183: The LID_ARM wait expires, clearing ARM and completing TIMEOUT. -/
  | lidArmWaitExpire (ch : Fin 192)
  /-- R187: The TDR_RUN command starts reflectometry and completes when the run ends. -/
  | tdrRun (rq : Req)
  /-- R180: The XC_TEST command runs a cross-coupling test and returns its masks. -/
  | xcTest (rq : Req)
  /-- R173: STREAM_SET writes a die's stream control. -/
  | streamSet (rq : Req)
  /-- R192: The CANT_HEALTH command runs a bus-health measurement and returns its result. -/
  | cantHealth (rq : Req)
  /-- R200: LS_SET writes a sink's shadows and captures them if APPLY. -/
  | lsSet (rq : Req)
  /-- R213: The LS_CFG command writes a sink's configuration. -/
  | lsCfg (rq : Req)
  /-- R207: The LS_REARM command re-arms a sink and returns LS_STATUS. -/
  | lsRearm (rq : Req)
  /-- R200: The LED_COMMIT command captures the sinks of a mask together. -/
  | ledCommit (rq : Req)
  /-- R213: LF_SET configures a lighting group and its members, or is refused whole. -/
  | lfSet (rq : Req)
  /-- R212: LF_DERATE writes a group's derating parameters. -/
  | lfDerate (rq : Req)
  /-- R215: LF_REARM re-arms a group's members and returns a FAILED group to ACTIVE. -/
  | lfRearm (rq : Req)
  /-- R220: PE_LOAD writes program steps of a stopped pattern engine. -/
  | peLoad (rq : Req)
  /-- R219: The PE_START command writes PE_CTRL with START. -/
  | peStart (rq : Req)
  /-- R219: The PE_STOP command stops an engine, reporting ABORT_LATE when a HALT wins. -/
  | peStop (rq : Req) (tick : Bool)
  /-- R202: LED_HR_SET writes the headroom converter control. -/
  | ledHrSet (rq : Req)
  /-- R211: NTC_SET writes an NTC's B and R25. -/
  | ntcSet (rq : Req)
  /-- R224: LED_HOLD_SET writes LED_HOLD_TIME. -/
  | ledHoldSet (rq : Req)
  /-- R237: The VLV_REQ command requests a valve on or off, and completes on PEAK, OFF or a timeout. -/
  | vlvReq (rq : Req) (vboost : Nat)
  /-- R245: VLV_SET writes a valve's peak, hold and configuration. -/
  | vlvSet (rq : Req)
  /-- R244: The VLV_REARM command re-arms a faulted valve. -/
  | vlvRearm (rq : Req) (cool : Bool)
  /-- R231: VG_SET writes a valve group's configuration. -/
  | vgSet (rq : Req)
  /-- R241: VB_SET writes VB_CTRL and every die's PWR_VB_THR in a safe order. -/
  | vbSet (rq : Req)
  /-- R256: SI_SET writes an input's configuration and thresholds. -/
  | siSet (rq : Req)
  /-- R252: SI_LADDER writes a ladder table's boundaries. -/
  | siLadder (rq : Req)
  /-- R254: SI_READ returns a coherent image of all inputs and the tamper word. -/
  | siRead (rq : Req)
  /-- R260: FP_SET_CFG writes a field point's configuration. -/
  | fpSetCfg (rq : Req)
  /-- R263: FP_OUT switches a field output on or off. -/
  | fpOut (rq : Req)
  /-- R263: The FP_REARM command re-arms a faulted field output. -/
  | fpRearm (rq : Req) (cool : Bool)
  /-- R267: FLD_SUP_SET writes the field supply configuration. -/
  | fldSupSet (rq : Req)
  /-- R269: FLD_HOLD_SET writes FLD_HOLD_TIME. -/
  | fldHoldSet (rq : Req)
  /-- R370: CAN_TX transmits a frame through a reserved buffer and completes with its outcome. -/
  | canTx (rq : Req)
  /-- R356: CAN_CFG writes a disabled controller's timing and mode. -/
  | canCfg (rq : Req)
  /-- R371: The CAN_ENABLE command enables or disables a controller, completing a disable at the end of the current frame. -/
  | canEnable (rq : Req) (receiving : Bool)
  /-- R367: CAN_FILTER writes an acceptance filter. -/
  | canFilter (rq : Req)
  /-- R372: CAN_SELWAKE writes selective wake settings of CAN0–CAN3. -/
  | canSelwake (rq : Req)
  /-- R376: LIN_SCHED writes schedule entries. -/
  | linSched (rq : Req)
  /-- R379: LIN_MODE sets the role and requests sleep or wake. -/
  | linMode (rq : Req)
  /-- R377: LIN_RESP fills a response table entry. -/
  | linResp (rq : Req)
  /-- R483: SVC_STATUS returns the UDS session, the security level and the transfer state. -/
  | svcStatus (rq : Req)
  /-- R382: MODE_REQ requests a mode, and for a parking mode commits entry and runs it. -/
  | modeReq (rq : Req) (early : Bool)
  /-- R397: RET_SET writes the retention bank selection. -/
  | retSet (rq : Req)
  /-- R401: PATROL_SET writes the patrol sequencer registers. -/
  | patrolSet (rq : Req)
  /-- R425: NM_SET writes the node byte, the controllers, OFFENDER_TIME and FALSE_WAKE_TIMEOUT. -/
  | nmSet (rq : Req)
  /-- R421: NM_AWAKE sets or clears the module's awake request. -/
  | nmAwake (rq : Req)
  /-- R426: NM_OFFENDERS returns the offender table. -/
  | nmOffenders (rq : Req)
  /-- R431: WAKE_PULSE starts one pulse on WAKE_OUT. -/
  | wakePulse (rq : Req)
  /-- R448: ACC_STATUS returns enrolled slots, the last decision and the polling state. -/
  | accStatus (rq : Req)
  /-- R446: ACC_LOCATE runs a locate round over every enabled zone. -/
  | accLocate (rq : Req)
  /-- R455: ACC_ENROL enrols a token in a slot in SERVICE. -/
  | accEnrol (rq : Req)
  /-- R455: No token is found within 60 s, so enrolment completes TIMEOUT. -/
  | accEnrolTimeout
  /-- R456: ACC_REVOKE destroys a slot's token key and frees the slot. -/
  | accRevoke (rq : Req)
  /-- R454: ACC_CFG writes the access configuration, possibly renaming the START_ENABLE channel. -/
  | accCfg (rq : Req)
  /-- R461: SEC_ATTEST queues a signed attestation of the device state. -/
  | secAttest (rq : Req)
  /-- R460: SEC_CERT writes the device certificate to SRAM. -/
  | secCert (rq : Req)
  /-- R464: SEAL_INSTALL verifies a signed policy blob and stores it for the next STARTUP. -/
  | sealInstall (rq : Req)
  /-- R476: LOG_STATUS returns the log's head, mark and reserve state. -/
  | logStatus (rq : Req)
  /-- R477: LOG_EXPORT seals and sends records, signature and an end packet to Q29. -/
  | logExport (rq : Req)
  /-- R478: LOG_ACK verifies an authority blob and moves the export mark, freeing slots. -/
  | logAck (rq : Req)
  /-- R479: LOG_ERASE erases the log and restarts it with a LOG_ERASED record. -/
  | logErase (rq : Req)
  /-- R462: KEY_SLOT_WRITE writes an authority key slot once, in SERVICE. -/
  | keySlotWrite (rq : Req)
  /-- R498: UPD_STATUS returns the staging state, the staged version and the last activation outcome. -/
  | updStatus (rq : Req)
  /-- R493: UPD_ACTIVATE arms a VALID package and resets the control die to activate it. -/
  | updActivate (rq : Req)
  /-- R302: CDE_SET writes the counter dump engine's control, base and size. -/
  | cdeSet (rq : Req)
  /-- R303: CDE_GET returns the counter dump engine's status, sequence and drop count. -/
  | cdeGet (rq : Req)
  /-- R369: A write of 1 to a CAN_TXREQ bit makes a transmit buffer pending. -/
  | canTxreqWrite (rq : Req) (n : Fin 9) (w : Fin 2) (data : Word)
  /-- R370: A CAN_TXCANCEL write cancels a buffer before its SOF, or marks the cancel late. -/
  | canTxcancelWrite (rq : Req) (n : Fin 9) (w : Fin 2) (data : Word)
  /-- R356: A write of CAN_MODE.EN = 1 enables the controller, or is refused with CFG_BAD. -/
  | canEnSet (rq : Req) (n : Fin 9) (data : Word)
  /-- R371: A write of EN = 0 lets the frame on the bus finish and cancels the other pending buffers. -/
  | canEnClear (rq : Req) (n : Fin 9) (data : Word) (receiving : Bool)
  /-- R359: A write of RECOVER starts bus-off recovery. -/
  | canRecover (rq : Req) (n : Fin 9) (data : Word)
  /-- R359: 128 occurrences of 11 recessive bits end bus-off, and TEC and REC return to zero. -/
  | canBusoffRecovered (n : Fin 9)
  /-- R369: The bus becomes free, and the pending buffers enter arbitration with the lowest identifier first. -/
  | canArbitrationStart (n : Fin 9)
  /-- R369: A transmit attempt ends, transmitted, lost or in error, writing its outcome or rejoining arbitration. -/
  | canTxAttemptEnd (n : Fin 9) (how : TxEnd) (tdcv : BitVec 7)
  /-- R367: A received frame is filtered into a receive buffer or the receive queue, or is discarded. -/
  | canFrameReceived (n : Fin 9) (rx : CanRx) (sof : Word)
  /-- R365: A read of W0 of a receive buffer locks the buffer for the reading requester. -/
  | canMbW0Read (rq : Req) (n : Fin 9)
  /-- R365: A read of the buffer's last word releases the lock and stores any frame in the pending slot. -/
  | canMbLastRead (rq : Req) (n : Fin 9)
  /-- R365: A lock held for more than 1 ms is released by hardware and counted. -/
  | canMbLockTimeout (n : Fin 9) (b : Fin 64)
  /-- R372: In PARK or PATROL a transceiver decodes a frame that may wake the module or move the error count. -/
  | swkFrameDecoded (n : Fin 4) (rx : CanRx) (env : StartEnv)
  /-- R373: A transceiver sees the ISO 11898-2 wake-up pattern and wakes the module. -/
  | canWakePattern (n : Fin 9) (env : StartEnv)
  /-- R376: A commander's slot ends, and it sends the next header. -/
  | linSlotEnd (n : Fin 4)
  /-- R378: A LIN frame is received or fails, and becomes one packet in its queue. -/
  | linFrameReceived (n : Fin 4) (how : LinEnd)
  /-- R378: A response has not ended within 1.4 × (LENGTH + 1) × 10 bit times, so the frame is NO_RESPONSE or FRAMING. -/
  | linResponseTimeout (n : Fin 4) (bytes : List Byte)
  /-- R379: A write of LIN_CTRL.SLEEP makes a commander send go-to-sleep at the slot's end and then sleep. -/
  | linSleepWrite (rq : Req) (n : Fin 4) (data : Word)
  /-- R379: A write of LIN_CTRL.WAKE sends a 1 ms dominant wake-up pulse. -/
  | linWakeWrite (rq : Req) (n : Fin 4) (data : Word)
  /-- R379: 100 ms after the wake-up pulse, a commander resumes its schedule. -/
  | linWakeResume (n : Fin 4)
  /-- R379: A responder sees no bus activity for 4 s and sleeps. -/
  | linBusInactivity (n : Fin 4)
  /-- R379: A dominant level of 150 µs or more followed by recessive wakes a sleeping controller or the module. -/
  | linWakeSignal (n : Fin 4) (env : StartEnv)
  /-- R379: The bus is held dominant for 10 ms, so STATE becomes bus fault. -/
  | linBusFault (n : Fin 4)
  /-- R379: The bus has been recessive for 10 ms, so STATE returns to active. -/
  | linBusFaultClear (n : Fin 4)
  /-- R395: A write to SYS_PAD_RELEASE releases held pad groups, and the pins follow their blocks. -/
  | padRelease (rq : Req) (data : Word)
  /-- R399: A write of RET_ACK starts zero-filling a LOST bank. -/
  | retAckWrite (rq : Req) (data : Word)
  /-- R399: The zero-fill completes, and the bank's LOST bit clears. -/
  | retFillComplete (k : Fin 32)
  /-- R401: Every INTERVAL the patrol sequencer samples the patrol inputs and wakes the module on a mismatch. -/
  | patrolCycle (codes : List (Fin 64 × Fin 1024)) (env : StartEnv)
  /-- R403: Every SNIFF_INT in PATROL the access die listens for a token blink, which wakes the module. -/
  | sniffWindow (slot : Option (Fin 10)) (env : StartEnv)
  /-- R404: PAT_ALARM seconds after commitment, the module wakes with source ALARM. -/
  | patAlarmExpire (env : StartEnv)
  /-- R412: VSEN rises above the power-on threshold, every die resets and STARTUP runs. -/
  | modulePowerOn (env : StartEnv)
  /-- R409: VSEN falls below the power-on reset level, and the sentinel writes the RTC count into the brown-out cell. -/
  | vsenFall
  /-- R407: VSEN stays low for 100 µs, causing a module power-on recorded as POWER_ON or BROWN_OUT. -/
  | vsenLowTimeout (brown : Bool) (env : StartEnv)
  /-- R409: VSEN recovers within 100 µs, so the brown-out cell is discarded. -/
  | vsenEarlyRecovery
  /-- R519: RESET_N is held low for at least 1 µs, causing a control-die reset. -/
  | resetNLow (env : StartEnv)
  /-- R405: A write of GO with KEY 0x5A5A causes a control-die reset with cause SOFTWARE. -/
  | sysSwresetGo (rq : Req) (env : StartEnv)
  /-- R408: A write of SYS_WDT_KICK.KICK restarts the application watchdog count. -/
  | wdtKick (rq : Req)
  /-- R408: Half of TIMEOUT passes without a kick, and EV134 is raised. -/
  | wdtHalfTime
  /-- R408: The watchdog reaches TIMEOUT, causing a control-die reset with cause WDOG_APP. -/
  | wdtTimeout (env : StartEnv)
  /-- R408: The supervisor's internal watchdog expires, causing a reset with cause WDOG_SUP. -/
  | supWdtTimeout (env : StartEnv)
  /-- R411: The LIMP retry time expires in the repeated-resets case, causing a reset with cause LIMP_RETRY. -/
  | limpRetryExpire (env : StartEnv)
  /-- R420: A network-management frame is examined, updating presence, awake maps, ALL_READY and lone-awake state. -/
  | nmFrameReceived (n : Fin 8) (f : CanFrame)
  /-- R421: Every CYCLE the module sends its own network-management frame. -/
  | nmCycleExpire
  /-- R421: A change of NM_LOCAL.AWAKE sends a frame within 1 ms. -/
  | nmLocalAwakeWrite (rq : Req) (data : Word)
  /-- R423: A node's last frame becomes older than 3 × CYCLE, and it leaves the present set. -/
  | nmNodeAbsent (node : Fin 256)
  /-- R425: LONE_TIME reaches OFFENDER_TIME, so the offence is entered, EV145 raised and logged. -/
  | nmOffenceBegin
  /-- R427: A write of NM_OFF_CLEAR empties the offender table. -/
  | nmOffClear (rq : Req) (data : Word)
  /-- R429: The false-wake timer expires, and the module returns to PARK or PATROL with EV146. -/
  | falseWakeTimeout
  /-- R430: An accepted WAKE_IN pulse wakes the module or raises EV147, and is forwarded to WAKE_OUT. -/
  | wakeInPulse (env : StartEnv)
  /-- R430: A WAKE_OUT pulse ends after PULSE. -/
  | wakeOutPulseEnd
  /-- R432: The BLANK time after a WAKE_OUT pulse ends, and WAKE_IN is accepted again. -/
  | wakeBlankEnd
  /-- R433: With the sentinel running and WAKE_IN low for 100 µs, the ring bypass opens. -/
  | wakeBypassOpen
  /-- R440: A round starts once the previous one ends, checking the antennas and sending a wake burst. -/
  | accRoundStart (antFault : BitVec 4)
  /-- R441: After the wake burst, a poll with a fresh nonce and slot permutation is sent. -/
  | accPoll
  /-- R441: A token's answer arrives in its slot window. -/
  | accTokenResponse (w : Fin 10) (rx : TokenRx)
  /-- R443: The slot windows end, and corrupted windows lead to a retry poll or a persistent-collision denial. -/
  | accSlotWindowsEnd
  /-- R442: A token accepts A_M and the session opens, or authentication fails with EV164. -/
  | accSessionOpen (slot : Fin 10) (accepted : Bool)
  /-- R445: A double-sided two-way ranging exchange on one port ends with a distance or a corrupted window. -/
  | accRangingExchange (slot : Fin 10) (port : Fin 4) (cm : Option Nat)
  /-- R446: The round's outcome is decided and recorded, with EV160. -/
  | accRoundDecide
  /-- R451: Each PERIOD a release frame falls due and is requested, or waits for the previous outcome. -/
  | accReleasePeriod
  /-- R440: A token's button blink is heard in a listen window, and the module polls at once. -/
  | accBlink (slot : Fin 10) (antFault : BitVec 4)
  /-- R448: POLL_DAYS days pass since the last valid use, so polling stops with EV165. -/
  | accPollDaysExpire
  /-- R473: 10 min pass with records appended since the last seal, so a seal starts. -/
  | sealTimerExpire
  /-- R461: A signing job ends: a seal's signature is written with EV192, or an attestation completes, and the next job starts. -/
  | signJobComplete
  /-- R467: A sealed channel has driven 1 s without a trip, so the interruption ends with EV199. -/
  | sealedInterruptionEnd (k : Fin 4) (byMax : BitVec 16) (limited : Bool)
  /-- R468: Bypass conduction outside an interruption stops, raising EV200 and writing a record. -/
  | bypassIntervalEnd (k : Fin 4) (high : BitVec 16) (avg : BitVec 16) (limited : Bool) (planned : Bool)
  /-- R467: A supervisor write of PWR_SEAL_ACK frees recorder entries. -/
  | pwrSealAck (rq : Req) (data : Word)
  /-- R482: DiagnosticSessionControl opens a session, entering or leaving SERVICE. -/
  | diagnosticSessionControl (session : BitVec 8)
  /-- R485: ECUReset hardReset causes a control-die reset, with cause UPDATE when an activation is armed. -/
  | ecuReset (kind : BitVec 8) (env : StartEnv)
  /-- R486: ReadDataByIdentifier returns a supported DID. -/
  | readDataByIdentifier (did : BitVec 16)
  /-- R487: The ERASE_STAGING routine empties staging. -/
  | eraseStaging
  /-- R492: The CHECK_PACKAGE routine starts checking a received package. -/
  | checkPackage
  /-- R492: The check ends, and staging becomes VALID or INVALID with EV209 or EV210. -/
  | checkPackageDone
  /-- R487: The ARM_ACTIVATION routine arms a VALID package, with EV211. -/
  | armActivation
  /-- R487: The DISARM routine returns an ARMED package to VALID. -/
  | disarm
  /-- R487: RoutineControl sub-function 0x03 returns a routine's results. -/
  | routineResults (rid : BitVec 16)
  /-- R487: Every 2 s while a routine runs, the module answers NRC 0x78. -/
  | routinePendingResponse
  /-- R488: RequestDownload discards any staged package and starts RECEIVING. -/
  | requestDownload (format : BitVec 8) (lengths : BitVec 8) (addr : Word) (size : Word)
  /-- R488: TransferData writes one block of the package into staging. -/
  | transferData (counter : BitVec 8) (bytes : List Byte) (programmed : Bool)
  /-- R488: RequestTransferExit ends the transfer, and staging becomes RECEIVED with EV208. -/
  | requestTransferExit
  /-- R482: TesterPresent restarts the S3 timeout. -/
  | testerPresent
  /-- R483: SecurityAccess is not supported and completes with NRC 0x11. -/
  | securityAccess (sub : BitVec 8)
  /-- R482: The 5 s S3 timeout expires, so the session returns to default and a RECEIVING transfer is invalidated. -/
  | s3Timeout
  /-- R510: A load-measure window ends, and its UTIL and PEAK fields update. -/
  | loadWindowEnd (k : Fin 3) (util : BitVec 8) (links : List (BitVec 8))
  /-- R531: The 32.768 kHz crystal starts or resumes running, so XTAL32K_PRESENT sets and the RTC leaves the 1 MHz RC, clearing ON_RC. -/
  | xtal32kStart
  /-- R21: The RADIO crystal runs within its window again, so RADIO_XTAL_OK sets and ranging becomes possible. -/
  | radioXtalReturn
  /-- R398: A selected bank's retention supply falls below the droop comparator threshold while parked, and its droop latch sets. -/
  | retentionDroop (bank : Option (Fin 32)) (changed : Bool)
  /-- R358: A controller with FD_EN = 0 that stopped decoding at an FD frame counts 11 recessive bits and rejoins the bus. -/
  | canFdFrameRejoin (n : Fin 9)
  /-- R377: A responder receives a header, and publishes the response from its table if the identifier is held there. -/
  | linHeaderReceived (n : Fin 4) (ident : BitVec 6)
  /-- R310: A host frame with fewer than 32 clocks or an unlisted opcode ends and is refused with code SHORT or BAD_OPCODE, counted, recorded and raising EV018. -/
  | hspShortOrBadOpcodeFrame (clocks : Nat) (op : BitVec 8) (addr : BitVec 24)
  /-- R338: A command packet whose opcode is undefined or reserved completes BAD_OPCODE without effect. -/
  | badOpcodeCommand (rq : Req)
  /-- R485: A UDS request for a service that R485 does not list completes with NRC 0x11. -/
  | unsupportedServiceRequest (sid : BitVec 8)
  /-- R263: An AUTO_RETRY field output in COOLDOWN whose 100 ms has passed restarts when its switch cools below 150 °C. -/
  | fpSwitchBelow150c (p : Fin 32)
  deriving DecidableEq, Repr

end Sys2Proof
end

