-- ==== Sys2Proof/Decode.lean ====
section
/-! DEFINITION. The commands that words spell. spec/opcode_table.json gives no row any bits: a command is an event at the
module, and its operands stand in Sys2Proof.Instr as data. (The bit layouts the spec does give, of frames, packets and
registers, are read where they are used: Machine/Links.lean, Machine/HostPort.lean, Machine/CmdTake.lean, Machine/Regs.lean.) -/

namespace Sys2Proof

/-- The command a table word spells: none, since no row has bits. Assumption log 2 (DESIGN CHOICE). -/
def decodeTableWord (_nbits _w : Nat) : Option Instr := none

end Sys2Proof
end

