-- ==== Sys2Proof/Config.lean ====
section
/-! DEFINITION. What an implementation of the module fixes and what the spec leaves open: constants with no body, so
that no proof can rest on a value of theirs. Each is named in the assumption log. -/

namespace Sys2Proof.Config

/-- spec/01, DIE_ID.SILICON and spec/13, SYS_ID: the silicon revision of die d. Assumption log 6 (DESIGN CHOICE). -/
opaque siliconRev : Nat → Byte
/-- The words of an event record in Q10 (R47): the event number, the object's number and a fresh number. The spec gives
the record no format. Assumption log 7 (DESIGN CHOICE). -/
opaque q10Record : Nat → Nat → Nat → List Word

/-- R181: the local channels of power die n whose output stayed below 50 % of the feed before a cross-coupling pulse.
Assumption log 31 (DESIGN CHOICE). -/
opaque outputsLow : Nat → Nat → BitVec 48

/-- R211: the temperature an NTC shows where its formula has no value (R25 or B is 0), by resistance and NTC_CFG.
Assumption log 35 (DESIGN CHOICE). -/
opaque ntcTemp : Nat → Word → BitVec 16

/-- R212: the mean temperature of a group's NTC over the last 1 s while the NTC has had no conversion in it, by group.
Assumption log 35 (DESIGN CHOICE). -/
opaque ntcMean : Nat → Nat
/-- What a register's field shows for a value that its format cannot hold, where the spec states none. Assumption log 35 (DESIGN CHOICE). -/
opaque outOfFormat : Int → Word
/-- R184, R186: a quotient of the load identification whose divisor is 0, by its dividend. Assumption log 35 (DESIGN CHOICE). -/
opaque noQuotient : Rat → Rat

/-- R192: KIND of a step measurement that finds no impedance step. Assumption log 35 (DESIGN CHOICE). -/
opaque noStepKind : BitVec 2

/-- SHA-256, byte 0 of the hash in the highest bits (R470). Assumption log 8 (DESIGN CHOICE). -/
opaque sha256 : List Byte → BitVec 256
/-- R459: the device identity public key: its byte k, and its 32 bytes. Assumption log 8 (DESIGN CHOICE). -/
opaque devicePublicByte : Nat → Byte
def devicePublicKey : List Byte := (List.range 32).map devicePublicByte
/-- Byte k of the device's SLH-DSA-SHA2-128f signature over a message (R460, R473). Assumption log 8 (DESIGN CHOICE). -/
opaque signature : List Byte → Nat → Byte
/-- An SLH-DSA-SHA2-128s signature over a message verifies under a public key of eight words (R463). Assumption log 8 (DESIGN CHOICE). -/
opaque verifies : List Word → List Byte → List Byte → Bool

/-- R359 (ISO 11898-1): REC after a correct reception while it was above 127 lies between 119 and 127. Assumption log 59 (PRESUMED). -/
opaque recAfter : Nat → Nat
/-- R451: the first 8 bytes of AES-128-CMAC under the immobiliser key over a message, byte 0 highest. Assumption log 8 (DESIGN CHOICE). -/
opaque immoMac : List Byte → BitVec 64

/-- R442: AES-128 encryption of a block under a key. Assumption log 8 (DESIGN CHOICE). -/
opaque aesEncrypt : BitVec 128 → BitVec 128 → BitVec 128
/-- R442: AES-128-CMAC of a message under a key. Assumption log 8 (DESIGN CHOICE). -/
opaque aesCmac : BitVec 128 → List Byte → BitVec 128
/-- R441, R455: 128 bits from the TRNG, by the number of the draw. Assumption log 8 (DESIGN CHOICE). -/
opaque trng : Nat → BitVec 128
/-- R443: the number of a fresh random slot order, by the number of the draw. Assumption log 8 (DESIGN CHOICE). -/
opaque slotOrder : Nat → Nat

/-- R296, R298: how often an event of core c happens in a microsecond, by the number of the draw, the core and the event code (with the
mode and threshold that count it). The pipeline's events are not modelled. Assumption log 10 (DESIGN CHOICE). -/
opaque eventAdds : Nat → Nat → Nat → Nat
/-- R272: mtval of an illegal-instruction exception (RISC-V: zero or the instruction), by the number of the draw.
Assumption log 11 (DESIGN CHOICE). -/
opaque illegalTval : Nat → Word
/-- R276: a misaligned LR, SC or AMO raises an address-misaligned exception; else an access fault (RISC-V leaves the choice).
Assumption log 11 (DESIGN CHOICE). -/
opaque atomicMisaligned : Bool

/-- R530: the boot ROM's byte at an address; and what a byte of NVM holds where the spec gives its contents no layout, by the number
of the draw and the address (R284). Assumption log 83 (DESIGN CHOICE). -/
opaque romByte : Nat → Byte
/-- Assumption log 83 (DESIGN CHOICE). -/
opaque nvmByte : Nat → Nat → Byte

/-- The firmware versions at manufacture, in the GET_VERSION encoding: 1 to 7 the dies, 8 the application. Assumption log 6 (DESIGN CHOICE). -/
opaque firmware : Nat → Word
/-- R490, R492: a package's manifest signature verifies under its signer (0 or 1). Assumption log 8 (DESIGN CHOICE). -/
opaque packageVerifies : Nat → List Byte → List Byte → Bool
/-- CFG_WRITE, R466: the configuration record of a number holds sealed policy; the spec gives the numbers no meaning.
Assumption log 9 (DESIGN CHOICE). -/
opaque policyRecord : Nat → Bool
/-- R492: the content key of a package unwraps. Assumption log 8 (DESIGN CHOICE). -/
opaque keyUnwraps : List Byte → Bool
/-- R492: the plaintext of part k of a package, if its GCM tag is correct. Assumption log 8 (DESIGN CHOICE). -/
opaque partPlain : List Byte → Nat → Option (List Byte)
/-- R490, R492: a firmware image's header signature verifies, by kind and plaintext. Assumption log 8 (DESIGN CHOICE). -/
opaque imageVerifies : Nat → List Byte → Bool
/-- R460: byte k of Ibulo's signature over the certificate body; R486: byte k of the device's ML-KEM-768 encapsulation key.
Assumption log 8 (DESIGN CHOICE). -/
opaque certSignature : Nat → Byte
/-- Assumption log 8 (DESIGN CHOICE). -/
opaque encapsulationKey : Nat → Byte

end Sys2Proof.Config
end

