-- ==== Sys2Proof/Machine/Tbl.lean ====
section
/-! DEFINITION. Sparse tables in one canonical form (numbers strictly rising, no entry equal to its default), and
reading and writing a bit range of a word. -/

namespace Sys2Proof

/-- The value of number k: the first entry listed for it, else the default d k. -/
def Tbl.get {α : Type} (d : Nat → α) : Tbl α → Nat → α
  | [], k => d k
  | (i, a) :: t, k => if i = k then a else Tbl.get d t k

/-- Insert an entry before the first greater number. -/
def Tbl.ins {α : Type} (k : Nat) (a : α) : Tbl α → Tbl α
  | [] => [(k, a)]
  | (i, b) :: t => if k < i then (k, a) :: (i, b) :: t else (i, b) :: Tbl.ins k a t

/-- Forget the entries of number k. -/
def Tbl.del {α : Type} (k : Nat) : Tbl α → Tbl α
  | [] => []
  | (i, b) :: t => if i = k then Tbl.del k t else (i, b) :: Tbl.del k t

/-- Write value a at number k; writing the default removes the entry. -/
def Tbl.set {α : Type} [DecidableEq α] (d : Nat → α) (t : Tbl α) (k : Nat) (a : α) : Tbl α :=
  if a = d k then Tbl.del k t else Tbl.ins k a (Tbl.del k t)

/-- Forget every entry whose number lies in [lo, hi): those numbers then hold their defaults again. -/
def Tbl.clear {α : Type} (lo hi : Nat) : Tbl α → Tbl α
  | [] => []
  | (i, b) :: t => if lo ≤ i ∧ i < hi then Tbl.clear lo hi t else (i, b) :: Tbl.clear lo hi t

/-- Numbers strictly rising, all above the bound b, and no entry equal to its default. -/
def Tbl.wfFrom {α : Type} [DecidableEq α] (d : Nat → α) : Option Nat → Tbl α → Bool
  | _, [] => true
  | b, (i, a) :: t => (match b with | none => true | some j => decide (j < i)) && decide (a ≠ d i) && Tbl.wfFrom d (some i) t

/-- The canonical form. -/
def Tbl.wf {α : Type} [DecidableEq α] (d : Nat → α) (t : Tbl α) : Bool := Tbl.wfFrom d none t

/-- The field's value in a word. -/
def Fld.get (f : Fld) (x : Word) : Nat := x.toNat / 2 ^ f.lo % 2 ^ f.w

/-- The word with the field's bits replaced by the low bits of v. -/
def Fld.put (f : Fld) (x : Word) (v : Nat) : Word :=
  BitVec.ofNat 32 (x.toNat / 2 ^ (f.lo + f.w) * 2 ^ (f.lo + f.w) + v % 2 ^ f.w * 2 ^ f.lo + x.toNat % 2 ^ f.lo)

/-- A word that holds v in the field and 0 elsewhere. -/
def Fld.of (f : Fld) (v : Nat) : Word := f.put 0 v

/-- The largest value of the field. -/
def Fld.max (f : Fld) : Nat := 2 ^ f.w - 1

/-- A field held between two bounds. -/
def Fld.clamp (f : Fld) (lo hi : Nat) (x : Word) : Word := f.put x (Nat.max lo (Nat.min hi (f.get x)))
/-- A field whose 0 reads back as 1. -/
def Fld.some1 (f : Fld) (x : Word) : Word := if f.get x = 0 then f.put x 1 else x
/-- A field that a value p holds of leaves unchanged. -/
def Fld.keep (f : Fld) (p : Nat → Bool) (old x : Word) : Word := if p (f.get x) then f.put x (f.get old) else x

end Sys2Proof
end

