-- ==== Sys2Proof/Machine/State.lean ====
section
/-! DEFINITION. The state of the ZV8192 as plain data. Everything software can read as a register stands in ONE table
of words (Chip.regs), keyed by the register's address, so that a register has one home; the other fields hold what the
spec gives the module beside its registers (sequence numbers, queue banks, captured sets, running profiles, waiting
requests, the sessions and stores of the firmware functions). A number a table does not list holds the table's default. -/

namespace Sys2Proof.Machine

/-- No command of this model ends in a fault: the spec reports every failed access in SYS_BUSFAULT and goes on (R56).
The one constructor is raised by nothing. -/
inductive Fault where
  /-- Raised by no command; safe. -/
  | none
  deriving DecidableEq, Repr

/-- Why a command has no meaning here. -/
inductive Refusal where
  /-- The arm of a command this model gives no meaning to; raised by Machine/Dispatch.lean alone; safe. -/
  | notModelled (mnemonic : String)
  deriving DecidableEq, Repr

/-- A frame that D0 has sent on a Dowel link and that is not acknowledged yet (R24, R25): its sequence number, its
requester, whether it is a posted write (else a read request), the address (of an alias word, where the access is one, R41)
and data, whether it has landed, and how often it has been sent. -/
structure Sent where
  seq : Nat
  rq : Req
  write : Bool
  addr : Nat
  data : Word
  landed : Bool
  tries : Nat := 1
  deriving DecidableEq, Repr

/-- What a Dowel link holds beside its registers (R22 to R30): the next sequence number D0 gives and the one the remote
die accepts next, the unacknowledged frames (oldest first), the numbers of writes sent and landed on the link since it
came up, the answers the remote die has not yet delivered, the negative acknowledge it last sent and the one D0 last sent
(R23), whether the remote die has declared its link lost, whether a re-established link still waits for the supervisor's acknowledgement, and
the retries of the present 10 ms window (R30). -/
structure Link where
  txSeq : Nat := 0
  rxSeq : Nat := 0
  sent : List Sent := []
  total : Nat := 0
  landed : Nat := 0
  answers : List (Nat × Word) := []
  nack : Option Nat := none
  back : Option Nat := none
  lost : Bool := false
  unacked : Bool := false
  retries : Nat := 0
  deriving DecidableEq, Repr

/-- A peripheral access that waits because its requester is held (R57, R58, R66, R67): a write or a read, of an alias word
where its address lies in the alias region; a read of SYS_DRAIN; a read of a die's ORDER_TOKEN; the host's deferred reads
(R314); a packet that the host writes to a queue (R310). -/
inductive Held where
  | write (a : Nat) (x : Word)
  | read (a : Nat)
  | drain
  | token (d : Nat)
  | reads
  | packet (q : Nat) (ws : List Word)
  deriving DecidableEq, Repr

/-- What the fabric holds for one requester: the accesses that wait while it is held, in the order of their issue (a ninth
write waits here, R58); its failed posted writes since its last SYS_DRAIN read (R66); whether a SYS_DRAIN read of it waits; and
the die and number of writes an ORDER_TOKEN read of it waits for (R67). -/
structure BusReq where
  held : List Held := []
  failed : Nat := 0
  drain : Bool := false
  order : Option (Nat × Nat) := none
  deriving DecidableEq, Repr

/-- The last read answered to a requester: its address, its data, and the syndrome of a failed read (0: none). -/
structure Resp where
  addr : Nat := 0
  data : Word := 0
  err : Nat := 0
  deriving DecidableEq, Repr

/-- A word of a queue bank with its end-mark bit (R325). -/
structure QWord where
  data : Word
  eop : Bool
  deriving DecidableEq, Repr

/-- The two banks of a queue, oldest word first (R325 to R332): the filling and the draining bank, the number of the
filling bank, the rewind mark as an offset in the filling bank, and whether words are dropped up to the next end mark. -/
structure Queue where
  fill : List QWord := []
  drain : List QWord := []
  bank : Nat := 0
  mark : Option Nat := none
  dropping : Bool := false
  deriving DecidableEq, Repr


/-- A deferred read of the host port (R314): the host address of its first word, whether every word is read from that one
address, the number of words, and whether the host's accesses that were held before it have gone out. -/
structure Defer where
  addr : Nat
  fixed : Bool
  count : Nat
  turn : Bool := true
  deriving DecidableEq, Repr

/-- What the host port and the Faceplate window hold beside their registers (R306 to R321): whether control-die accesses are
taken (R320); whether a frame is open, in SPI mode 3 and in quad mode; whether the previous frame was refused; the status word
of the frame and the words the last frame returned; the deferred read in progress; the response that waits, as the host
address of its first word and its words with their syndromes (0: none); the front and back buffers by offset, whether the
back buffer waits for its swap, and the words the other dies have pushed, by offset (R268, R317). -/
structure HspX where
  ready : Bool := false
  inFrame : Bool := false
  mode3 : Bool := false
  quad : Bool := false
  frameErr : Bool := false
  status : Word := 0
  out : List Word := []
  busy : Option Defer := none
  resp : Option (Nat × List (Word × Nat)) := none
  front : Tbl Word := []
  back : Option (Tbl Word) := none
  pushed : Tbl (Option Word) := []
  deriving DecidableEq, Repr
/-- A channel's shadow captured in one cycle (R90): its CH_CMD, CH_PWM and CH_CFG words. -/
structure ChSet where
  cmd : Word
  pwm : Word
  cfg : Word
  deriving DecidableEq, Repr

/-- A running load identification (R184): the PWR_TIME of its grant, the 1 ms windows since (their end in PWR_TIME, mean
current in mA and mean output voltage in 10 mV), newest first, the number of them that ended after the profile, the
highest current sample in STARTING in mA, whether a sample was at a segment ceiling, and the samples of the first 200 µs with the
feed's 1 ms average then, in 10 mV. -/
structure LidRun where
  t0 : Nat
  wins : List (Nat × Rat × Rat) := []
  settled : Nat := 0
  peak : Int := 0
  limited : Bool := false
  early : List EarlySample := []
  feed : Nat := 0
  deriving DecidableEq, Repr

/-- What a channel holds beside its registers: the captured set not yet applied (R90) and whether it applies at the
next commit tick (R92); the profile segments still to run, the running one first, as (ceiling in percent, duration in
10 µs) (R102, R103), and the ENV_FACTOR of the profile last run (R122); the cause whose cooling condition applies
(R127, R132); whether its back-off has expired (R139); the wire level x (R131); the on-time in ticks of the PWM period
in progress (R80, R83) and the delay in ticks before the first period (R81); the consecutive candidate windows (R175)
and open outcomes (R177); the phase of the off-state cycle (0 none, 1 pull-down, 2 pull-up) (R176); the periods since the
last diagnostic stretch, the ticks still owed and the duty and period it began with (R178, R179); the fraction of a
millijoule of the energy counter in units of 40 pJ (R169); the running identification (R183); the mean of the squared current
samples of the last 1 ms window in mA² (R131); and the PWR_TIME at which its last profile ended (R174). -/
structure ChanX where
  pend : Option ChSet := none
  align : Bool := false
  segs : List (Nat × Nat) := []
  env : Nat := 130
  lastTrip : Nat := 0
  boDone : Bool := false
  level : Rat := 0
  onTicks : Nat := 0
  delay : Nat := 0
  onCand : Nat := 0
  offOpen : Nat := 0
  cycle : Nat := 0
  periods : Nat := 0
  owed : Int := 0
  stretched : Nat × Nat := (0, 0)
  eFrac : Nat := 0
  lid : Option LidRun := none
  msq : Rat := 0
  ranAt : Option Nat := none
  deriving DecidableEq, Repr

/-- A reflectometry run (R187, R188): its PWR_TDR_CTRL and PWR_TDR_CFG words at GO, and the pulses sent. -/
structure TdrRun where
  ctrl : Word
  cfg : Word
  pulses : Nat := 0
  deriving DecidableEq, Repr

/-- A start request that waits for its die's scheduler (R108): the channel's number, its priority class, the
PWR_TIME of its arrival, and whether it asks for a cross-coupling pulse in place of a start (R181). -/
structure StartReq where
  ch : Nat
  prio : Nat
  since : Nat
  pulse : Bool
  deriving DecidableEq, Repr

/-- What a power die holds beside its registers: its start requests in order of arrival (R108), and whether any of its
channels entered LIMP since its link was last acknowledged (R157); the source of a cross-coupling test in progress and
whether its pulse is granted (R181); the decimation of the stream in force (R171) and the PWR_TIME of the first sample of
the packet in progress in half microseconds (R172); the feed's ten most recent 1 ms averages, newest first (R194); the
reflectometry run (R187). -/
structure DieX where
  reqs : List StartReq := []
  limped : Bool := false
  xc : Option (Nat × Bool) := none
  decim : Nat := 0
  streamAt : Nat := 0
  feedAvgs : List Nat := []
  tdr : Option TdrRun := none
  deriving DecidableEq, Repr

/-- What an application core holds beside its CSRs: the SRAM line its reservation covers (R276), the lines whose copy
in its instruction cache may be older than memory (R275), whether a tagged instruction is in flight (R301), whether it is in
reset (R304), the last exception an access gave it, as its cause and mtval (R56, R272, R276), whether it runs in user mode (else
in machine mode, R271), and the performance counter written in the present microsecond (R55). Assumption log 1 (DESIGN CHOICE),
22 (DEDUCED), 82 (DESIGN CHOICE). -/
structure CoreX where
  reserve : Option Nat := none
  stale : List Nat := []
  tagged : Bool := false
  inReset : Bool := true
  trap : Option (Nat × Nat) := none
  user : Bool := false
  wrote : Option Nat := none
  deriving DecidableEq, Repr

/-- The two bus-health measurements of a CAN transceiver (R192, R193): 0 none, 1 waiting for an idle bus, 2 running,
3 paused. -/
structure CantX where
  term : Nat := 0
  step : Nat := 0
  deriving DecidableEq, Repr

/-- A sink's values captured in one AON cycle or in force (R200): LS_ISET, LS_DUTY, LS_CFG and LS_CTRL.EN. -/
structure SinkSet where
  iset : Word
  duty : Word
  cfg : Word
  en : Bool
  deriving DecidableEq, Repr

/-- An on-pulse of a sink (R198, R199): the set current with which it began, in 1/1023 of 0.01 mA, its ticks, and its start
in µs after that of its sub-period. -/
structure LedPulse where
  set : Nat
  ticks : Nat
  start : Nat
  deriving DecidableEq, Repr

/-- What a sink holds beside its registers: the values in force and the captured ones not yet applied (R200), the
consecutive samples that look open and short (R206), the state it runs in while HELD or LIMP, as a code of
LS_STATUS.STATE (R224), whether REARM took it to OFF and neither a capture nor a group re-arm has followed (R207, R215), the
pulse that begins in the sub-period under way, and one of the sub-period before that runs into it (R199). -/
structure SinkX where
  act : SinkSet := ⟨0, 0, 0xF03C0000, false⟩
  pend : Option SinkSet := none
  opens : Nat := 0
  shorts : Nat := 0
  sub : Nat := 0
  rearmed : Bool := false
  pulse : Option LedPulse := none
  spill : Option LedPulse := none
  deriving DecidableEq, Repr

/-- What a pattern engine holds beside its registers (R217, R219): the ticks left of the running step; a ramp as its lane
mask, the lanes' values when it began, its level and its length in ticks; the engine whose sync mark it waits for and
whether it waits without limit; its two loop counters; and a fade as the lanes' values when it began and the ticks
since. -/
structure EngX where
  left : Nat := 0
  ramp : Option (Nat × List Nat × Nat × Nat) := none
  waits : Option Nat := none
  forever : Bool := false
  cnt0 : Nat := 0
  cnt1 : Nat := 0
  fade : Option (List Nat × Nat) := none
  deriving DecidableEq, Repr

/-- The input that a valve group's high-side switch takes (R226). -/
inductive HsInput where
  | off | vboost | feed
  deriving DecidableEq, Repr

/-- What a valve holds beside its registers: the state it runs in while HELD or LIMP, as a code of VLV_STATUS.STATE
(R246); whether its switch has yet to cool below 150 °C after a fault of code 1 or 4 (R244); and whether a REQ = 1 written
during its decay waits for the decay's end (R237). -/
structure ValveX where
  sub : Nat := 0
  hot : Bool := false
  again : Bool := false
  deriving DecidableEq, Repr

/-- The configuration that a sample of a switch input uses (R250): the SI_CFG and SI_THR words and the boundaries of its
ladder table. -/
structure SiRun where
  cfg : Word
  thr : Word
  bounds : List Nat
  deriving DecidableEq, Repr

/-- What a switch input holds beside its registers: the configuration of the sample in progress (R250); the level or band its
consecutive samples agree on and their number (R251, R252); the level of the last sample; the loop state agreed on and the
number of agreeing samples (R258); and whether the counts restart after the sample in progress (R253). -/
structure SiX where
  run : Option SiRun := none
  cand : Nat := 0
  cnt : Nat := 0
  last : Bool := false
  tcand : Nat := 0
  tcnt : Nat := 0
  restart : Bool := false
  deriving DecidableEq, Repr

/-- What a field point holds beside its registers: the state it runs in while HELD or LIMP, as a code of
FP_STATUS.STATE (R269); whether its switch is at 150 °C or above since a fault, and whether the 100 ms of its COOLDOWN
have passed (R263); whether its clamp acts (R265). -/
structure FpX where
  sub : Nat := 0
  hot : Bool := false
  waited : Bool := false
  clamping : Bool := false
  deriving DecidableEq, Repr

/-- What a message buffer holds beside its words and its CAN_MB_STAT (R365): the code of the requester that holds its
lock, and the frame in its pending slot, as W0, W1, W2 and the data words. -/
structure MbX where
  owner : Option Nat := none
  slot : Option (List Word) := none
  deriving DecidableEq, Repr

/-- What a CAN controller holds beside its registers: TEC and REC (R359); the buffer whose frame is on the bus; the run
of acknowledge errors (R361); whether EN was cleared while a frame was on the bus (R371); whether bus-off recovery has
started (R359); whether it waits for 11 recessive bits after an FD frame (R358). -/
structure CanX where
  tec : Nat := 0
  rec_ : Nat := 0
  cur : Option Nat := none
  alone : Nat := 0
  stopping : Bool := false
  recovering : Bool := false
  rejoin : Bool := false
  deriving DecidableEq, Repr

/-- What a LIN controller holds beside its registers (R376 to R379): the running entry's word; the frame on the bus, as
identifier, whether this controller publishes its response, and the time of its break; whether LIN_SCHED_START was
written since the last slot's end, whether a go-to-sleep waits for the slot's end, whether the slot has ended while its
frame still runs, and whether a commander waits for the 100 ms after a wake-up pulse. -/
structure LinX where
  entry : Option Word := none
  frame : Option (Nat × Bool × Word) := none
  restart : Bool := false
  sleepDue : Bool := false
  late : Bool := false
  waking : Bool := false
  deriving DecidableEq, Repr

/-- What the configuration records give the supervisor at STARTUP (R335, R343, R381, R411, R412, R490, R455): the target
mode; the requester masks of the ranges 0x10 to 0xC0, bit c for requester code c; the quotas by requester code; the LIMP
retry time in s; the register writes that configure queues, owners, channels, profiles, lighting and inputs, in their
order; the calibration records of the lamps (R208), eight words each; the transport keys by token identity; and the fleet
key IDs. Assumption log 9 (DESIGN CHOICE). -/
structure BootCfg where
  target : Nat := 4
  masks : List Nat := [47, 47, 47, 47, 47, 47, 47, 47, 47, 47, 47, 47]
  quotas : List Nat := [24, 24, 24, 24, 0, 32]
  limpRetry : Nat := 60
  writes : List (Nat × Word) := []
  cals : List (List Word) := []
  transport : List (BitVec 64 × BitVec 128) := []
  fleet : List (BitVec 128) := []
  deriving DecidableEq, Repr, Inhabited

/-- What a mode change or a reset holds beside the registers: the droop latches of the banks and the banks whose
signature will not match (R398), and whether the supervisor's own retained state is lost (R392); the banks that are being
zero-filled (R399); the cause of a control-die reset that is due (R405); the RTC counts of recent crashes (R410); the
brown-out cell's count, and the supply loss still to be logged (R409); a parking mode whose entry is not committed yet
(R388); the RTC count at which RETAIN began, and the field and access dies' registers kept by the supervisor (R385).
Whether half of the watchdog time has passed since a kick (R408), whether the module left LIMP less than 10 s ago (R302), and
whether INTA_N and INTB_N were low when their pads were latched (R395). The events due while the event router is off, in
their order (R56, R258, R383). -/
structure ModeX where
  droop : BitVec 32 := 0
  changed : BitVec 32 := 0
  supLost : Bool := false
  filling : BitVec 32 := 0
  resetDue : Option Nat := none
  crashes : List Nat := []
  cell : Option Nat := none
  loss : Option (Nat × Nat) := none
  entry : Option Nat := none
  parkedAt : Nat := 0
  kept : Tbl Word := []
  limpWin : Bool := false
  wdtHalf : Bool := false
  intA : Bool := false
  intB : Bool := false
  late : List Nat := []
  deriving DecidableEq, Repr

/-- What the network-management helper holds beside its registers (R420 to R427): the nodes whose last frame had
SLEEP_READY set; the controller of each node's last frame; its frame counter; the time the lone-awake interval began, in µs
of SYS_MTIME, and seconds of it known to have passed beside those; whether its offence has begun, and the table entry
that counts it with the DURATION it had before; the controllers it has sent on since STANDBY entry, all before the first
(R421); the node of the last offence and the µs of SYS_MTIME it began at (R427). -/
structure NmX where
  ready : List Nat := []
  ctl : Tbl Nat := []
  count : Nat := 0
  loneSince : Nat := 0
  lonePlus : Nat := 0
  begun : Bool := false
  entry : Option (Nat × Nat) := none
  sentOn : List Nat := [0, 1, 2, 3, 4, 5, 6, 7]
  begunAt : Option (Nat × Nat) := none
  deriving DecidableEq, Repr

/-- What a round of the access function holds (R440 to R447): its trigger, active zone and blinking slot; whether it has
started; the polls sent, the present poll's slot order and nonce, whether its windows have ended, the slots corrupted
since it and those corrupted after every poll; the answers that await acceptance, as (slot, token nonce); the slots
authenticated, failed, and excluded by revocation. -/
structure Round where
  trig : Nat
  zone : Option Nat := none
  blink : Nat := 15
  started : Bool := false
  polls : Nat := 0
  order : List Nat := []
  nonce : BitVec 128 := 0
  ended : Bool := false
  hit : List Nat := []
  always : List Nat := []
  answered : List (Nat × BitVec 128) := []
  auth : List Nat := []
  failed : List Nat := []
  gone : List Nat := []
  deriving DecidableEq, Repr

/-- An enrolment in progress (R455): its requester and tag, its slot, the nonce of its poll; from step 5 on the token's
identity and the key sent to it. -/
structure Enrol where
  rq : Req
  tag : Nat
  slot : Nat
  nonce : BitVec 128 := 0
  given : Option (BitVec 64 × BitVec 128) := none
  deriving DecidableEq, Repr

/-- What the access function holds beside its registers: the running round, the pending trigger and the one merged behind
a pending ACC_LOCATE, as (trigger, zone, blinking slot) (R439); the token keys in the security island and the identities by slot, and the
transport keys by identity (R455); the RTC count of the last valid use (R448); the start of the next block of rolling
counts in NVM, the next count and its block's end (R451); the deciding slot of the release; a frame that waits for the
previous outcome, and whether it releases; the enrolment. -/
structure AccX where
  round : Option Round := none
  pend : Option (Nat × Option Nat × Nat) := none
  pend2 : Option (Nat × Option Nat × Nat) := none
  keys : Tbl (BitVec 128) := []
  ids : Tbl (BitVec 64) := []
  transport : List (BitVec 64 × BitVec 128) := []
  lastUse : Nat := 0
  nextBlock : Nat := 0
  count : Nat := 0
  blockEnd : Nat := 0
  slot : Nat := 15
  frameWait : Option Bool := none
  enrol : Option Enrol := none
  deriving DecidableEq, Repr

/-- A Grain log record (R470): its slot, type, flags, epoch, RTC count, SEQ, payload (byte k in bits 8k to 8k + 7) and LINK
(byte 0 in the highest bits). -/
structure Rec where
  slot : Nat
  typ : Nat
  flags : Nat
  epoch : Nat
  rtc : Nat
  seq : Nat
  pay : BitVec 128
  link : BitVec 256
  deriving DecidableEq, Repr

/-- A folded type (R475): its summary counter and the times of its first and last fold. -/
structure Fold where
  typ : Nat
  count : Nat
  first : Nat
  last : Nat
  deriving DecidableEq, Repr

/-- A signing job (R461): a seal of a record into a signature slot, or an attestation of a command. -/
inductive SignJob where
  | sealing (seq slot : Nat) (msg : List Byte)
  | attest (rq : Req) (tag dest : Nat) (body : List Byte)
  deriving DecidableEq, Repr

/-- An attestation that waits for the signer: its requester, tag, destination and nonce, and whether it has waited for
a seal (R461). -/
structure AttWait where
  rq : Req
  tag : Nat
  dest : Nat
  nonce : List Word
  waited : Bool
  deriving DecidableEq, Repr

/-- An export in progress (R477): its command's requester and tag; the records still to send; the seal that ends it (none while
the export waits for it); the next packet number and signature chunk; the records sent; the SEQ that the seal must cover and, once
sending, the SEQ and LINK last sent. -/
structure Export where
  rq : Req
  tag : Nat
  todo : List Rec
  final : Option Rec
  pkt : Nat
  chunk : Nat
  sent : Nat
  lastSeq : Nat
  lastLink : BitVec 256
  deriving DecidableEq, Repr

/-- R466: a requester's refused writes: the SYS_MTIME of its last REFUSED_WRITE record; the writes held back since, and the
first of those, as kind, address and data. -/
structure Refusals where
  last : Option Nat := none
  held : Nat := 0
  first : Option (Nat × Nat × Word) := none
  deriving DecidableEq, Repr

/-- The Grain log and its signer (R461, R470 to R480): the records not yet acknowledged in order of SEQ, the export mark and the
LINK of the record before it; SEQ of the next record, EPOCH, the LINK of the newest record (none before the first); the records ever written into the main ring
and into the reserve; the folded types; the records lost since the last RECORDS_LOST record, security-class and of the
recorder; the number of seals, the SEQ and signature slot of the newest, and what the two slots sign; whether records
were appended since the last seal; the running job, and the seal and attestations that wait; records held during
an erasure; records of events in a mode in which the supervisor is off; the export in progress; the time of the last
REFUSED_WRITE record of a requester and the refusals held back since (R466). Assumption log 45 (DESIGN CHOICE). -/
structure Grain where
  recs : List Rec := []
  nextSeq : Nat := 0
  epoch : Nat := 0
  link : Option (BitVec 256) := none
  mark : Nat := 0
  markLink : Option (BitVec 256) := none
  mainCnt : Nat := 0
  resCnt : Nat := 0
  folds : List Fold := []
  lost : Nat := 0
  recLost : Nat := 0
  seals : Nat := 0
  lastSeal : Nat := 0
  sealSlot : Nat := 1
  sig0 : List Byte := []
  sig1 : List Byte := []
  dirty : Bool := false
  job : Option SignJob := none
  sealWait : Bool := false
  attWait : List AttWait := []
  held : List (Nat × BitVec 128) := []
  late : List (Nat × BitVec 128) := []
  exp : Option Export := none
  refused : Tbl Refusals := []
  deriving DecidableEq, Repr

/-- What power die 3's recorder and the supervisor hold beside the entry registers (R467): of the interruption of a
sealed channel the entry that holds it, its start and the start of its present drive in PWR_TIME (µs), its trips and
whether its bypass conducted; by entry, whether its INTERRUPT_BEGIN and its last record are written to the log; the start
of a bypass interval. -/
structure SealX where
  entry : Option Nat := none
  start : Nat := 0
  drive : Nat := 0
  trips : Nat := 0
  bypass : Bool := false
  byStart : Option Nat := none
  byEntry : Option Nat := none
  deriving DecidableEq, Repr

/-- The sealed policy (R464): its version; per channel HOLD, PARK_BYPASS and the CH_PROT_CFG, CH_WIRE_CFG and CH_CFG
words; per input BIND and the SI_CFG and SI_THR words. -/
structure Policy where
  version : Nat := 0
  chans : List (Bool × Bool × Word × Word × Word) := []
  inputs : List (Bool × Word × Word) := []
  deriving DecidableEq, Repr

/-- The update function (R482, R487, R488, R493 to R498): the UDS session; the staging state (0 EMPTY, 1 RECEIVING, 2
RECEIVED, 3 VALID, 4 INVALID, 5 ARMED); the announced size, the bytes received in their order and the next block counter;
the check result and failing part, and whether a check runs; the stored SVN; the last activation outcome word, and whether
its record is still to be written; the activation phase that a supply loss cut (0 none, 1 DECRYPT, 2 BACKUP, 3 WRITE or
CHECK, 4 restoring); the active versions (0 supervisor, 1 to 7 dies, 8 application); the active schema's version; the mode
that SERVICE was entered from, and whether that was STARTUP; the response last given. -/
structure UpdX where
  session : Nat := 1
  staging : Nat := 0
  size : Nat := 0
  data : List Byte := []
  block : Nat := 1
  result : Nat := 0
  failing : Nat := 0xFF
  checking : Bool := false
  storedSvn : Nat := 0
  outcome : Word := 0
  owed : Bool := false
  journal : Nat := 0
  vers : Tbl Word := []
  schema : Nat := 0
  back : Nat := 4
  fromStart : Bool := false
  reply : List Byte := []
  deriving DecidableEq, Repr

/-- A command in flight (R341): its requester, opcode and tag, its payload words from w1 on, the number of the object it
waits for, whether it has started, and whether a CMD_CANCEL or CMD_ABORT came too late for it (R349). -/
structure Cmd where
  rq : Req
  op : Nat
  tag : Nat
  w : List Word := []
  obj : Nat := 0
  started : Bool := false
  cancelLate : Bool := false
  abortLate : Bool := false
  deriving DecidableEq, Repr

/-- The module: its registers, and everything it holds beside them. Assumption log 5 (DESIGN CHOICE). -/
structure Chip where
  /-- Every register software can read, by address; a register not listed holds its reset value (Machine/Regs.lean). -/
  regs : Tbl Word := []
  /-- Addresses of the WO1 registers already written since their block's reset (R42, R44). -/
  wo1 : Tbl Bool := []
  /-- 64-bit counters by the address of their low half (R53), the latched high halves by 16 times that address plus the
  requester code, and the staged high halves (R54). -/
  ctr : Tbl Word64 := []
  latch : Tbl Word := []
  stage : Tbl Word := []
  /-- The model's own counter: the number of the next free value (Config). -/
  fresh : Nat := 0
  /-- Fraction of an RTC tick already passed, in 1/1,000,000 tick (R394). -/
  rtcAcc : Nat := 0
  links : Tbl Link := []
  bus : Tbl BusReq := []
  resp : Tbl Resp := []
  /-- The sources pending at each event router target (R288). -/
  evPend : Tbl (BitVec 256) := []
  queues : Tbl Queue := []
  cores : Tbl CoreX := []
  chans : Tbl ChanX := []
  dies : Tbl DieX := []
  cants : Tbl CantX := []
  /-- The supervisor's command table: commands in flight, oldest first (R341), and completions held for room (R344). -/
  cmds : List Cmd := []
  heldComps : List (Req × List Word) := []
  sinks : Tbl SinkX := []
  /-- The sub-period under way of the sinks' frame, and that frame's number modulo 16 (R198, R203). -/
  subp : Nat := 0
  ledFrame : Nat := 0
  engines : Tbl EngX := []
  /-- By flasher 4n + k: its engine's sync mark is not relayed yet (R223); its OUTAGE as last relayed (R214). -/
  flashMark : Tbl Bool := []
  flashOut : Tbl Bool := []
  /-- By flasher 4n + k: the length of its present phase in µs; 0 without a timer (R222). -/
  flashLen : Tbl Nat := []
  /-- The times of the headroom converter's stops in the last 10 s, newest first, in µs (R205). -/
  hrStops : List Nat := []
  /-- The temperatures that an NTC showed at its conversions of the last 1 s, newest first (R212). -/
  ntcHist : Tbl (List Nat) := []
  valves : Tbl ValveX := []
  /-- By power die: the valves in WAIT_OVERLAP, oldest first (R238); VBOOST at the die's input as last compared, in
  0.1 V (R241). -/
  valveWait : Tbl (List Nat) := []
  vboost : Tbl Nat := []
  /-- By valve group: the input that its high-side switch takes (R226). VBOOST as last seen, in 0.1 V (R241). -/
  hsInput : Tbl HsInput := []
  vbRail : Nat := 0
  sis : Tbl SiX := []
  /-- The 1 ms ticks of the AON domain counted for SCAN (R249). -/
  siTick : Nat := 0
  /-- The first group of inputs that has not begun its pulses since the last scan tick, and the µs since that tick (R249). -/
  siNext : Nat := 8
  siSince : Nat := 0
  fps : Tbl FpX := []
  /-- The words of message buffer b of controller n at 32(64n + b) (R364), what a buffer holds beside them at 64n + b, and
  CAN_MB_SEL of a requester at 16n + its code (R363). -/
  mbs : Tbl Word := []
  mbx : Tbl MbX := []
  mbSel : Tbl Nat := []
  cans : Tbl CanX := []
  lins : Tbl LinX := []
  nm : NmX := {}
  /-- R433: the bypass joins WAKE_IN to WAKE_OUT. -/
  bypass : Bool := true
  /-- The 32.768 kHz crystal and the RADIO crystal run (R21, R531). -/
  x32 : Bool := false
  radio : Bool := false
  acc : AccX := {}
  /-- The configuration records as CFG_WRITE stored them, by record number and word; what they decode to, used from the next
  STARTUP, and what is in force (R412). -/
  records : Tbl (Tbl Word) := []
  stored : BootCfg := {}
  cfg : BootCfg := {}
  modex : ModeX := {}
  upd : UpdX := {}
  /-- The supervisor's quotas by requester code (R343). -/
  quotas : List Nat := [24, 24, 24, 24, 0, 32]
  hsp : HspX := {}
  /-- The loads of the last windows, newest first: 0 command, 1 fabric, 2 NVM (R510). -/
  loads : Tbl (List Nat) := []
  grain : Grain := {}
  /-- By sealed channel 188 to 191: its interruption and bypass interval. -/
  sealx : Tbl SealX := []
  /-- By recorder entry: whether its begin record, and its last record, are in the log (R467). -/
  entBegun : Tbl Bool := []
  entDone : Tbl Bool := []
  /-- By recorder entry: the INTERRUPT_END payload of an interruption that ended before its begin record was written (R467). -/
  entEnd : Tbl (BitVec 128) := []
  /-- The policy stored in NVM, in force from the next STARTUP (R464). -/
  policy : Policy := {}
  /-- The authority public keys by slot (R462). -/
  authKeys : Tbl (List Word) := []
  deriving DecidableEq, Repr

/-- The whole machine: the commands that wait, first in first out; the module; and its 8 MiB of SRAM, a list of
(address, byte) pairs in canonical form in which an unlisted byte of SRAM reads as 0 (R405 zero-fills every bank).
Assumption log 2 (DESIGN CHOICE). -/
structure State where
  pending : List Instr := []
  chip : Chip := {}
  sram : List Host.Cell := []
  deriving DecidableEq, Repr

/-- Power-on, before STARTUP begins (R405, R412): no command waits, every register holds its reset value (Machine/Regs.lean; SYS_MODE
shows STARTUP), no link is up, the cores are in reset, the log and the stores of NVM are empty, and no byte of SRAM is listed.
Assumption log 4 (DESIGN CHOICE), 5 (DESIGN CHOICE). -/
def State.reset : State := { pending := [], chip := {}, sram := [] }

end Sys2Proof.Machine
end

