-- ==== Sys2Proof/Machine/Regs.lean ====
section
/-! DEFINITION. The register map: one address per register the spec names (R), one bit range per field (F), and
one descriptor per register (RegDesc) with the kinds of its bits as the spec's tables give them (R42). Every address,
range, kind and reset value is the spec's; the file of spec/ that holds a register's table is named beside it. -/

namespace Sys2Proof.Machine

/-- R98: the register block of channel ch (die ch / 48, local channel ch % 48). -/
def chBase (ch : Nat) : Nat := 0x40200000 + ch / 48 * 0x80000 + ch % 48 * 0x100
/-- R225: the register block of valve group g (die g / 2, group g % 2 of it). -/
def vgBase (g : Nat) : Nat := 0x40270000 + g / 2 * 0x80000 + g % 2 * 0x1000
/-- R225: the register block of valve v (group v / 2, valve v % 2 of it). -/
def vlvBase (v : Nat) : Nat := vgBase (v / 2) + 0x100 + v % 2 * 0x40

namespace R
-- spec/13_power_modes.md
def SYS_ID : Nat := 0x40000000
def SYS_MODE : Nat := 0x40000004
def SYS_RESET_CAUSE : Nat := 0x40000008
def SYS_SWRESET : Nat := 0x4000000C
def SYS_WDT_CFG : Nat := 0x40000010
def SYS_WDT_KICK : Nat := 0x40000014
def SYS_LOCK : Nat := 0x40000018
def SYS_RESET_CNT : Nat := 0x4000001C
def SYS_WAKE_CNT : Nat := 0x40000020
def SYS_PAD_HOLD : Nat := 0x40000024
def SYS_PAD_RELEASE : Nat := 0x40000028
def SYS_BOOT_REPORT (w : Nat) : Nat := 0x40000080 + w * 0x4
-- spec/01_architecture.md
def SYS_LINK_CTRL (d : Nat) : Nat := 0x40000100 + d * 0x20
def SYS_LINK_STATUS (d : Nat) : Nat := 0x40000104 + d * 0x20
def SYS_LINK_CRCERR_CNT (d : Nat) : Nat := 0x40000108 + d * 0x20
def SYS_LINK_RETRY_CNT (d : Nat) : Nat := 0x4000010C + d * 0x20
def SYS_LINK_DOWN_CNT (d : Nat) : Nat := 0x40000110 + d * 0x20
def SYS_LINK_UTIL (d : Nat) : Nat := 0x40000114 + d * 0x20
def SYS_CLK_STATUS : Nat := 0x40000200
-- spec/02_register_conventions.md
def SYS_DRAIN : Nat := 0x40000300
def SYS_BUSFAULT : Nat := 0x40000304
def SYS_BUSFAULT_ADDR : Nat := 0x40000308
def SYS_BUSFAULT_CNT : Nat := 0x4000030C
def SYS_LOCKVIOL_CNT (x : Nat) : Nat := 0x40000340 + x * 0x4
-- spec/09_processors.md
def SYS_MTIME_LO : Nat := 0x40000400
def SYS_MTIME_HI : Nat := 0x40000404
def SYS_MTIMECMP_LO (c : Nat) : Nat := 0x40000410 + c * 0x8
def SYS_MTIMECMP_HI (c : Nat) : Nat := 0x40000414 + c * 0x8
def SYS_MSIP (c : Nat) : Nat := 0x40000430 + c * 0x4
-- spec/13_power_modes.md
def SYS_BLK_POWER (b : Nat) : Nat := 0x40000500 + b * 0x4
-- spec/18_performance.md
def SYS_LOAD_CMD : Nat := 0x40000600
def SYS_LOAD_FABRIC : Nat := 0x40000604
def SYS_LOAD_NVM : Nat := 0x40000608
-- spec/09_processors.md
def EVR_ROUTE (k : Nat) : Nat := 0x40010000 + k * 0x4
def EVR_CNT (k : Nat) : Nat := 0x40010400 + k * 0x4
def EVR_SWRAISE : Nat := 0x40010800
def EVR_THRESH (t : Nat) : Nat := 0x40011000 + t * 0x100
def EVR_CLAIM (t : Nat) : Nat := 0x40011004 + t * 0x100
def EVR_MERGE_CNT (t : Nat) : Nat := 0x40011008 + t * 0x100
def EVR_PEND (t w : Nat) : Nat := 0x40011020 + t * 0x100 + w * 0x4
-- spec/10_host_port.md
def Q_CFG (q : Nat) : Nat := 0x40020000 + q * 0x40
def Q_COUNT (q : Nat) : Nat := 0x40020004 + q * 0x40
def Q_PKTS (q : Nat) : Nat := 0x40020008 + q * 0x40
def Q_PKT_CNT (q : Nat) : Nat := 0x4002000C + q * 0x40
def Q_PUSH (q : Nat) : Nat := 0x40020010 + q * 0x40
def Q_PUSH_EOP (q : Nat) : Nat := 0x40020014 + q * 0x40
def Q_POP (q : Nat) : Nat := 0x40020018 + q * 0x40
def Q_PROD_CTRL (q : Nat) : Nat := 0x4002001C + q * 0x40
def Q_STATUS (q : Nat) : Nat := 0x40020020 + q * 0x40
def Q_DROP_CNT (q : Nat) : Nat := 0x40020024 + q * 0x40
def Q_REFUSED_CNT (q : Nat) : Nat := 0x40020028 + q * 0x40
def Q_UNDERRUN_CNT (q : Nat) : Nat := 0x4002002C + q * 0x40
def HSP_CFG : Nat := 0x40030000
def HSP_HOST_BANKS : Nat := 0x40030004
def HSP_LOCK : Nat := 0x40030008
def HSP_ERR_INFO : Nat := 0x4003000C
def HSP_ERR_ADDR : Nat := 0x40030010
def HSP_FRAME_CNT : Nat := 0x40030014
def HSP_FRAME_ERR_CNT : Nat := 0x40030018
def HSP_REFUSED_CNT : Nat := 0x4003001C
def HSP_FP_SKIP_CNT : Nat := 0x40030020
-- spec/09_processors.md
def CDE_CTRL : Nat := 0x40040000
def CDE_BASE : Nat := 0x40040004
def CDE_SIZE : Nat := 0x40040008
def CDE_WRPTR : Nat := 0x4004000C
def CDE_STATUS : Nat := 0x40040010
def CDE_SEQ : Nat := 0x40040014
def CDE_DROP_CNT : Nat := 0x40040018
def CDE_WRAP_CNT : Nat := 0x4004001C
-- spec/13_power_modes.md
def RET_SEL : Nat := 0x40050000
def RET_STATUS : Nat := 0x40050004
def RET_ACK : Nat := 0x40050008
def RET_CAUSE_SIG : Nat := 0x4005000C
def RET_CAUSE_DROOP : Nat := 0x40050010
def RET_KEPT : Nat := 0x40050014
def RET_LOST_CNT : Nat := 0x40050018
-- spec/09_processors.md
def SRC_ECC_CORR_CNT : Nat := 0x40050100
def SRC_ECC_UNCORR_CNT : Nat := 0x40050104
def SRC_ECC_LAST : Nat := 0x40050108
-- spec/12_can_lin.md
def CAN_MODE (n : Nat) : Nat := 0x40080000 + n * 0x1000
def CAN_NBT (n : Nat) : Nat := 0x40080004 + n * 0x1000
def CAN_DBT (n : Nat) : Nat := 0x40080008 + n * 0x1000
def CAN_TDC (n : Nat) : Nat := 0x4008000C + n * 0x1000
def CAN_STATUS (n : Nat) : Nat := 0x40080010 + n * 0x1000
def CAN_ERR (n : Nat) : Nat := 0x40080014 + n * 0x1000
def CAN_TXREQ (n w : Nat) : Nat := 0x40080020 + n * 0x1000 + w * 0x4
def CAN_TXCANCEL (n w : Nat) : Nat := 0x40080028 + n * 0x1000 + w * 0x4
def CAN_TXPEND (n w : Nat) : Nat := 0x40080030 + n * 0x1000 + w * 0x4
def CAN_RXFULL (n w : Nat) : Nat := 0x40080038 + n * 0x1000 + w * 0x4
def CAN_MB_SEL (n : Nat) : Nat := 0x40080040 + n * 0x1000
def CAN_MB_RSV (n w : Nat) : Nat := 0x40080044 + n * 0x1000 + w * 0x4
def CAN_MB_OVR_CNT (n : Nat) : Nat := 0x40080050 + n * 0x1000
def CAN_LOCK_TO_CNT (n : Nat) : Nat := 0x40080054 + n * 0x1000
def CAN_RX_NOMATCH_CNT (n : Nat) : Nat := 0x40080058 + n * 0x1000
def CAN_RX_DROP_CNT (n : Nat) : Nat := 0x4008005C + n * 0x1000
def CAN_ALONE_CNT (n : Nat) : Nat := 0x40080060 + n * 0x1000
def CAN_BUSOFF_CNT (n : Nat) : Nat := 0x40080064 + n * 0x1000
def CAN_MB_W (n w : Nat) : Nat := 0x40080100 + n * 0x1000 + w * 0x4
def CAN_FLT_ID (n f : Nat) : Nat := 0x40080200 + n * 0x1000 + f * 0x8
def CAN_FLT_MASK (n f : Nat) : Nat := 0x40080204 + n * 0x1000 + f * 0x8
def CAN_MB_STAT (n b : Nat) : Nat := 0x40080400 + n * 0x1000 + b * 0x4
def LIN_CTRL (n : Nat) : Nat := 0x40090000 + n * 0x400
def LIN_CFG (n : Nat) : Nat := 0x40090004 + n * 0x400
def LIN_SCHED_START (n : Nat) : Nat := 0x40090008 + n * 0x400
def LIN_STATUS (n : Nat) : Nat := 0x4009000C + n * 0x400
def LIN_ERR_CNT (n : Nat) : Nat := 0x40090010 + n * 0x400
def LIN_SCHED_E (n e : Nat) : Nat := 0x40090100 + n * 0x400 + e * 0x4
def LIN_RESP_CFG (n r : Nat) : Nat := 0x40090200 + n * 0x400 + r * 0x10
def LIN_RESP_D0 (n r : Nat) : Nat := 0x40090204 + n * 0x400 + r * 0x10
def LIN_RESP_D1 (n r : Nat) : Nat := 0x40090208 + n * 0x400 + r * 0x10
-- spec/14_network_wake.md
def NM_CTRL : Nat := 0x400A0000
def NM_CFG : Nat := 0x400A0004
def NM_ID : Nat := 0x400A0008
def NM_CYCLE : Nat := 0x400A000C
def NM_LOCAL : Nat := 0x400A0010
def NM_STATUS : Nat := 0x400A0014
def NM_OFF_CLEAR : Nat := 0x400A0018
def NM_FW_STATUS : Nat := 0x400A001C
def NM_FALSE_WAKE_CNT : Nat := 0x400A0020
def NM_BAD_FRAME_CNT : Nat := 0x400A0024
def NM_OFF_LOST_CNT : Nat := 0x400A0028
def NM_PRESENT_MAP (w : Nat) : Nat := 0x400A0040 + w * 0x4
def NM_AWAKE_MAP (w : Nat) : Nat := 0x400A0060 + w * 0x4
def NM_OFF_ENTRY (e : Nat) : Nat := 0x400A0100 + e * 0x8
def NM_OFF_DURATION (e : Nat) : Nat := 0x400A0104 + e * 0x8
-- spec/16_security.md
def SEC_JOB (w : Nat) : Nat := 0x400C0000 + w * 0x4
def SEC_LOG_HEAD : Nat := 0x400C1000
def SEC_LOG_MARK : Nat := 0x400C1004
def SEC_LOG_STATUS : Nat := 0x400C1008
def SEC_SEAL_SEQ : Nat := 0x400C100C
def SEC_POLICY : Nat := 0x400C1010
def SEC_AUTH : Nat := 0x400C1014
def SEC_AUTH_CNT : Nat := 0x400C1018
def SEC_SEAL_MAP : Nat := 0x400C101C
def SEC_FOLD_CNT : Nat := 0x400C1020
def SEC_LOST_CNT : Nat := 0x400C1024
-- spec/01_architecture.md
def SEN_DIE_ID : Nat := 0x40100000
-- spec/02_register_conventions.md
def SEN_ORDER_TOKEN : Nat := 0x40100004
-- spec/01_architecture.md
def SEN_FOREIGN_WR_CNT : Nat := 0x40100008
-- spec/13_power_modes.md
def SEN_WAKE_SRC : Nat := 0x40100100
def SEN_WAKE_FIRST : Nat := 0x40100104
def SEN_WAKE_CNT : Nat := 0x40100108
-- spec/05_measurement.md
def SEN_RAIL (r : Nat) : Nat := 0x40110100 + r * 0x4
-- spec/13_power_modes.md
def SEN_RTC_LO : Nat := 0x40120000
def SEN_RTC_HI : Nat := 0x40120004
def SEN_RTC_STATUS : Nat := 0x40120008
def PAT_CTRL : Nat := 0x40130000
def PAT_EXPECT : Nat := 0x40130004
def PAT_SNIFF : Nat := 0x40130008
def PAT_ALARM : Nat := 0x4013000C
def PAT_STATUS : Nat := 0x40130010
def PAT_CYCLE_CNT : Nat := 0x40130014
def PAT_MISMATCH_CNT : Nat := 0x40130018
-- spec/08_inputs_field.md
def SI_CFG (i : Nat) : Nat := 0x40140000 + i * 0x20
def SI_THR (i : Nat) : Nat := 0x40140004 + i * 0x20
def SI_STATUS (i : Nat) : Nat := 0x40140008 + i * 0x20
def SI_CHG_CNT (i : Nat) : Nat := 0x4014000C + i * 0x20
def SI_LT_B (t b : Nat) : Nat := 0x40141000 + t * 0x20 + b * 0x4
def SI_STATE0 : Nat := 0x40142000
def SI_STATE1 : Nat := 0x40142004
def SI_PATROL_REFUSED_CNT : Nat := 0x40142008
-- spec/06_lighting.md
def LS_ISET (s : Nat) : Nat := 0x40150000 + s * 0x20
def LS_DUTY (s : Nat) : Nat := 0x40150004 + s * 0x20
def LS_CFG (s : Nat) : Nat := 0x40150008 + s * 0x20
def LS_CAL (s : Nat) : Nat := 0x4015000C + s * 0x20
def LS_CTRL (s : Nat) : Nat := 0x40150010 + s * 0x20
def LS_STATUS (s : Nat) : Nat := 0x40150014 + s * 0x20
def LS_MEAS (s : Nat) : Nat := 0x40150018 + s * 0x20
def LS_FAULT_CNT (s : Nat) : Nat := 0x4015001C + s * 0x20
def LED_HR_CTRL : Nat := 0x40150400
def LED_HR_STATUS : Nat := 0x40150404
def LED_HR_RESTART_CNT : Nat := 0x40150408
def LED_COMMIT_MASK : Nat := 0x40150410
def LED_COMMIT : Nat := 0x40150414
def LED_HOLD_TIME : Nat := 0x40150418
def LF_CFG (g : Nat) : Nat := 0x40150500 + g * 0x20
def LF_LEVEL (g : Nat) : Nat := 0x40150504 + g * 0x20
def LF_DERATE (g : Nat) : Nat := 0x40150508 + g * 0x20
def LF_CH01 (g : Nat) : Nat := 0x4015050C + g * 0x20
def LF_CH23 (g : Nat) : Nat := 0x40150510 + g * 0x20
def LF_STATUS (g : Nat) : Nat := 0x40150514 + g * 0x20
def PE_CTRL (e : Nat) : Nat := 0x40151000 + e * 0x200
def PE_STATUS (e : Nat) : Nat := 0x40151004 + e * 0x200
def PE_LANE (e j : Nat) : Nat := 0x40151008 + e * 0x200 + j * 0x4
def PE_STEP (e i : Nat) : Nat := 0x40151100 + e * 0x200 + i * 0x4
def NTC_CFG (t : Nat) : Nat := 0x40160000 + t * 0x10
def NTC_TEMP (t : Nat) : Nat := 0x40160004 + t * 0x10
-- spec/07_valves.md
def VB_CTRL : Nat := 0x40170000
def VB_STATUS : Nat := 0x40170004
-- spec/12_can_lin.md
def SEN_SWK_CTRL (n : Nat) : Nat := 0x40180000 + n * 0x100
def SEN_SWK_ID (n : Nat) : Nat := 0x40180004 + n * 0x100
def SEN_SWK_IDMASK (n : Nat) : Nat := 0x40180008 + n * 0x100
def SEN_SWK_DATA (n w : Nat) : Nat := 0x4018000C + n * 0x100 + w * 0x4
def SEN_SWK_DMASK (n w : Nat) : Nat := 0x40180014 + n * 0x100 + w * 0x4
def SEN_SWK_ERR (n : Nat) : Nat := 0x4018001C + n * 0x100
-- spec/05_measurement.md
def SEN_CANT_HLTH_CTRL (n : Nat) : Nat := 0x40180080 + n * 0x100
def SEN_CANT_HLTH_TERM (n : Nat) : Nat := 0x40180084 + n * 0x100
def SEN_CANT_HLTH_STEP (n : Nat) : Nat := 0x40180088 + n * 0x100
-- spec/14_network_wake.md
def WR_CFG : Nat := 0x401A0000
def WR_FWD_LOCAL : Nat := 0x401A0004
def WR_STATUS : Nat := 0x401A0008
def WR_IN_CNT : Nat := 0x401A000C
def WR_OUT_CNT : Nat := 0x401A0010
def WR_BLANKED_CNT : Nat := 0x401A0014
-- spec/01_architecture.md
def PWR_DIE_ID (n : Nat) : Nat := 0x40240000 + n * 0x80000
-- spec/02_register_conventions.md
def PWR_ORDER_TOKEN (n : Nat) : Nat := 0x40240004 + n * 0x80000
-- spec/01_architecture.md
def PWR_FOREIGN_WR_CNT (n : Nat) : Nat := 0x40240008 + n * 0x80000
-- spec/03_channels_switching.md
def CH_CMD (ch : Nat) : Nat := chBase ch
def CH_PWM (ch : Nat) : Nat := chBase ch + 0x4
def CH_CFG (ch : Nat) : Nat := chBase ch + 0x8
def CH_OWNER (ch : Nat) : Nat := chBase ch + 0xC
def CH_ACTIVE_CMD (ch : Nat) : Nat := chBase ch + 0x10
def CH_ACTIVE_PWM (ch : Nat) : Nat := chBase ch + 0x14
def CH_ACTIVE_CFG (ch : Nat) : Nat := chBase ch + 0x18
def CH_STATUS (ch : Nat) : Nat := chBase ch + 0x1C
def CH_NOTOWNER_CNT (ch : Nat) : Nat := chBase ch + 0x20
def CH_START_CNT (ch : Nat) : Nat := chBase ch + 0x24
def CH_DEFER_CNT (ch : Nat) : Nat := chBase ch + 0x28
def CH_CAPGRANT_CNT (ch : Nat) : Nat := chBase ch + 0x2C
-- spec/04_channels_protection.md
def CH_PROT_CFG (ch : Nat) : Nat := chBase ch + 0x30
def CH_WIRE_CFG (ch : Nat) : Nat := chBase ch + 0x34
def CH_LIMP_CFG (ch : Nat) : Nat := chBase ch + 0x38
def CH_PROT_STATUS (ch : Nat) : Nat := chBase ch + 0x3C
def CH_WIRE_LEVEL (ch : Nat) : Nat := chBase ch + 0x40
def CH_FAULT_REC0 (ch : Nat) : Nat := chBase ch + 0x44
def CH_FAULT_REC1 (ch : Nat) : Nat := chBase ch + 0x48
def CH_FAULT_REC2 (ch : Nat) : Nat := chBase ch + 0x4C
def CH_FAULT_TIME (ch : Nat) : Nat := chBase ch + 0x50
def CH_CLAMP (ch : Nat) : Nat := chBase ch + 0x54
def CH_DISABLE (ch : Nat) : Nat := chBase ch + 0x58
-- spec/05_measurement.md
def CH_I_AVG (ch : Nat) : Nat := chBase ch + 0x60
def CH_I_MIN (ch : Nat) : Nat := chBase ch + 0x64
def CH_I_MAX (ch : Nat) : Nat := chBase ch + 0x68
def CH_I_ON (ch : Nat) : Nat := chBase ch + 0x6C
def CH_VOLT (ch : Nat) : Nat := chBase ch + 0x70
def CH_TJ (ch : Nat) : Nat := chBase ch + 0x74
def CH_MEAS_SEQ (ch : Nat) : Nat := chBase ch + 0x78
def CH_ENERGY_LO (ch : Nat) : Nat := chBase ch + 0x80
def CH_ENERGY_HI (ch : Nat) : Nat := chBase ch + 0x84
-- spec/04_channels_protection.md
def CH_CAUSE_CNT (ch w : Nat) : Nat := chBase ch + 0xA0 + w * 0x4
-- spec/05_measurement.md
def CH_OL_CFG (ch : Nat) : Nat := chBase ch + 0xB0
def CH_OL_THR (ch : Nat) : Nat := chBase ch + 0xB4
def CH_OL_STATUS (ch : Nat) : Nat := chBase ch + 0xB8
def CH_LID_CTRL (ch : Nat) : Nat := chBase ch + 0xBC
def CH_LID_R (ch : Nat) : Nat := chBase ch + 0xC0
def CH_LID_L (ch : Nat) : Nat := chBase ch + 0xC4
def CH_LID_C (ch : Nat) : Nat := chBase ch + 0xC8
def CH_LID_SHAPE (ch : Nat) : Nat := chBase ch + 0xCC
def CH_LID_RESULT (ch : Nat) : Nat := chBase ch + 0xD0
-- spec/03_channels_switching.md
def PWR_COMMIT_MASK0 (n : Nat) : Nat := 0x40240100 + n * 0x80000
def PWR_COMMIT_MASK1 (n : Nat) : Nat := 0x40240104 + n * 0x80000
def PWR_COMMIT (n : Nat) : Nat := 0x40240108 + n * 0x80000
def PWR_COMMIT_CNT (n : Nat) : Nat := 0x4024010C + n * 0x80000
def PWR_COMMIT_OVERRUN_CNT (n : Nat) : Nat := 0x40240110 + n * 0x80000
def PWR_PAIR (n : Nat) : Nat := 0x40240200 + n * 0x80000
def PWR_PAIR_REFUSED_CNT (n : Nat) : Nat := 0x40240204 + n * 0x80000
-- spec/04_channels_protection.md
def PWR_HOLD_TIME (n : Nat) : Nat := 0x40240300 + n * 0x80000
def PWR_PROT_STATUS (n : Nat) : Nat := 0x40240304 + n * 0x80000
def PWR_TIME_LO (n : Nat) : Nat := 0x40240308 + n * 0x80000
def PWR_TIME_HI (n : Nat) : Nat := 0x4024030C + n * 0x80000
def PWR_DIP_CNT (n : Nat) : Nat := 0x40240310 + n * 0x80000
-- spec/05_measurement.md
def PWR_STREAM_CTRL (n : Nat) : Nat := 0x40240400 + n * 0x80000
def PWR_STREAM_STATUS (n : Nat) : Nat := 0x40240404 + n * 0x80000
def PWR_STREAM_DROP_CNT (n : Nat) : Nat := 0x40240408 + n * 0x80000
def PWR_FEED_AVG (n : Nat) : Nat := 0x40240500 + n * 0x80000
def PWR_FEED_RANGE (n : Nat) : Nat := 0x40240504 + n * 0x80000
def PWR_TDR_CTRL (n : Nat) : Nat := 0x40240600 + n * 0x80000
def PWR_TDR_CFG (n : Nat) : Nat := 0x40240604 + n * 0x80000
def PWR_TDR_STATUS (n : Nat) : Nat := 0x40240608 + n * 0x80000
def PWR_XC_CTRL (n : Nat) : Nat := 0x40240700 + n * 0x80000
def PWR_XC_STATUS (n : Nat) : Nat := 0x40240704 + n * 0x80000
def PWR_XC_WATCH0 (n : Nat) : Nat := 0x40240708 + n * 0x80000
def PWR_XC_WATCH1 (n : Nat) : Nat := 0x4024070C + n * 0x80000
def PWR_XC_HIT0 (n : Nat) : Nat := 0x40240710 + n * 0x80000
def PWR_XC_HIT1 (n : Nat) : Nat := 0x40240714 + n * 0x80000
def PWR_HK_STATUS (n : Nat) : Nat := 0x40240800 + n * 0x80000
def PWR_LID_SKIP_CNT (n : Nat) : Nat := 0x40240804 + n * 0x80000
-- spec/06_lighting.md
def PWR_FLASH_CFG (n k : Nat) : Nat := 0x40240900 + n * 0x80000 + k * 0x10
def PWR_FLASH_MASK0 (n k : Nat) : Nat := 0x40240904 + n * 0x80000 + k * 0x10
def PWR_FLASH_MASK1 (n k : Nat) : Nat := 0x40240908 + n * 0x80000 + k * 0x10
def PWR_FLASH_STATUS (n k : Nat) : Nat := 0x4024090C + n * 0x80000 + k * 0x10
-- spec/07_valves.md
def PWR_VB_THR (n : Nat) : Nat := 0x40240A00 + n * 0x80000
-- spec/16_security.md
def PWR_SEAL_STATUS : Nat := 0x403C0B00
def PWR_SEAL_ACK : Nat := 0x403C0B04
def PWR_SEAL_LOST_CNT : Nat := 0x403C0B08
def PWR_SEAL_KIND (e : Nat) : Nat := 0x403C0C00 + e * 0x20
def PWR_SEAL_DATA (e w : Nat) : Nat := 0x403C0C04 + e * 0x20 + w * 0x4
-- spec/03_channels_switching.md
def IP_HDR (n k : Nat) : Nat := 0x40250000 + n * 0x80000 + k * 0x100
def IP_SEG (n k s : Nat) : Nat := 0x40250004 + n * 0x80000 + k * 0x100 + s * 0x4
def IS_CTRL (n : Nat) : Nat := 0x40260000 + n * 0x80000
def IS_BUDGET (n : Nat) : Nat := 0x40260004 + n * 0x80000
def IS_STATUS (n : Nat) : Nat := 0x40260008 + n * 0x80000
def IS_DEFER_CNT (n : Nat) : Nat := 0x4026000C + n * 0x80000
def IS_CAPGRANT_CNT (n : Nat) : Nat := 0x40260010 + n * 0x80000
-- spec/07_valves.md
def VG_CFG (g : Nat) : Nat := vgBase g
def VG_STATUS (g : Nat) : Nat := vgBase g + 0x4
def VG_OVERLAP_DEFER_CNT (g : Nat) : Nat := vgBase g + 0x10
def VG_OVERLAP_TO_CNT (g : Nat) : Nat := vgBase g + 0x14
def VG_NR_DEFER_CNT (g : Nat) : Nat := vgBase g + 0x18
def VG_NR_TO_CNT (g : Nat) : Nat := vgBase g + 0x1C
def VG_FEEDPEAK_CNT (g : Nat) : Nat := vgBase g + 0x20
def VG_PAR_REFUSED_CNT (g : Nat) : Nat := vgBase g + 0x24
def VLV_PEAK (v : Nat) : Nat := vlvBase v
def VLV_HOLD (v : Nat) : Nat := vlvBase v + 0x4
def VLV_CFG (v : Nat) : Nat := vlvBase v + 0x8
def VLV_CMD (v : Nat) : Nat := vlvBase v + 0xC
def VLV_STATUS (v : Nat) : Nat := vlvBase v + 0x10
def VLV_MEAS (v : Nat) : Nat := vlvBase v + 0x14
def VLV_CLAMP (v : Nat) : Nat := vlvBase v + 0x18
def VLV_FAULT_CNT (v : Nat) : Nat := vlvBase v + 0x1C
def VLV_CODE_CNT (v : Nat) : Nat := vlvBase v + 0x20
def VLV_ON_CNT (v : Nat) : Nat := vlvBase v + 0x24
-- spec/01_architecture.md
def FLD_DIE_ID : Nat := 0x40400000
-- spec/02_register_conventions.md
def FLD_ORDER_TOKEN : Nat := 0x40400004
-- spec/01_architecture.md
def FLD_FOREIGN_WR_CNT : Nat := 0x40400008
-- spec/08_inputs_field.md
def FLD_HOLD_TIME : Nat := 0x40400100
def FLD_IN_STATE : Nat := 0x40400104
def FLD_MODE_REFUSED_CNT : Nat := 0x40400108
def FLD_STATUS : Nat := 0x4040010C
def FP_CFG (p : Nat) : Nat := 0x40410000 + p * 0x100
def FP_CMD (p : Nat) : Nat := 0x40410004 + p * 0x100
def FP_STATUS (p : Nat) : Nat := 0x40410008 + p * 0x100
def FP_MEAS (p : Nat) : Nat := 0x4041000C + p * 0x100
def FP_CHG_CNT (p : Nat) : Nat := 0x40410010 + p * 0x100
def FP_FAULT_CNT (p : Nat) : Nat := 0x40410014 + p * 0x100
def FLD_SUP_CFG : Nat := 0x40420000
def FLD_SUP_STATUS : Nat := 0x40420004
def FLD_SUP_FAULT_CNT : Nat := 0x40420008
-- spec/01_architecture.md
def ACC_DIE_ID : Nat := 0x40480000
-- spec/02_register_conventions.md
def ACC_ORDER_TOKEN : Nat := 0x40480004
-- spec/01_architecture.md
def ACC_FOREIGN_WR_CNT : Nat := 0x40480008
-- spec/15_access.md
def ACC_CFG0 : Nat := 0x40480100
def ACC_CFG1 : Nat := 0x40480104
def ACC_CFG2 : Nat := 0x40480108
def ACC_CFG3 : Nat := 0x4048010C
def ACC_STATE : Nat := 0x40480110
def ACC_LAST : Nat := 0x40480114
def ACC_ENROLLED : Nat := 0x40480118
def ACC_ROUND_CNT : Nat := 0x40480120
def ACC_AUTH_FAIL_CNT : Nat := 0x40480124
def ACC_COLLISION_CNT : Nat := 0x40480128
def ACC_JAM_CNT : Nat := 0x4048012C
def ACC_RELEASE_CNT : Nat := 0x40480130
def ACC_UNLOGGED_CNT : Nat := 0x40480134
def ACC_TRIG_MERGE_CNT : Nat := 0x40480138
def ACC_ZONE (z : Nat) : Nat := 0x40480200 + z * 0x4
def UWB_STATUS : Nat := 0x40490000
def ACC_SLOT_RES (s : Nat) : Nat := 0x404A0000 + s * 0x10
def ACC_SLOT_D01 (s : Nat) : Nat := 0x404A0004 + s * 0x10
def ACC_SLOT_D23 (s : Nat) : Nat := 0x404A0008 + s * 0x10
-- spec/09_processors.md
def CSR_MHPMEVENT (c j : Nat) : Nat := 0x100000C80 + c * 0x4000 + j * 0x4
def MSAMP_CTL (c : Nat) : Nat := 0x100001F00 + c * 0x4000
def MSAMP_SEED (c : Nat) : Nat := 0x100001F04 + c * 0x4000
def MSAMP_PC (c : Nat) : Nat := 0x100001F08 + c * 0x4000
def MSAMP_LAT0 (c : Nat) : Nat := 0x100001F0C + c * 0x4000
def MSAMP_LAT1 (c : Nat) : Nat := 0x100001F10 + c * 0x4000
def CSR_PMPCFG (c w : Nat) : Nat := 0x100000E80 + c * 0x4000 + w * 0x4
def CSR_PMPADDR (c w : Nat) : Nat := 0x100000EC0 + c * 0x4000 + w * 0x4
def CSR_MCOUNTINHIBIT (c : Nat) : Nat := 0x100000C80 + c * 0x4000
def CSR_SATP (c : Nat) : Nat := 0x100000600 + c * 0x4000
def CSR_MISA (c : Nat) : Nat := 0x100000C04 + c * 0x4000
def CSR_MEDELEG (c : Nat) : Nat := 0x100000C08 + c * 0x4000
def CSR_MIDELEG (c : Nat) : Nat := 0x100000C0C + c * 0x4000
def CSR_MCOUNTEREN (c : Nat) : Nat := 0x100000C18 + c * 0x4000
def CSR_MVENDORID (c : Nat) : Nat := 0x100003C44 + c * 0x4000
def CSR_MARCHID (c : Nat) : Nat := 0x100003C48 + c * 0x4000
def CSR_MIMPID (c : Nat) : Nat := 0x100003C4C + c * 0x4000
def CSR_MHARTID (c : Nat) : Nat := 0x100003C50 + c * 0x4000
end R

namespace F
def SYS_ID_ID : Fld := ⟨0, 32⟩
def SYS_MODE_LIMP_CAUSE : Fld := ⟨12, 4⟩
def SYS_MODE_PREV : Fld := ⟨4, 4⟩
def SYS_MODE_MODE : Fld := ⟨0, 4⟩
def SYS_RESET_CAUSE_CAUSE : Fld := ⟨0, 8⟩
def SYS_SWRESET_KEY : Fld := ⟨16, 16⟩
def SYS_SWRESET_GO : Fld := ⟨0, 1⟩
def SYS_WDT_CFG_EN : Fld := ⟨31, 1⟩
def SYS_WDT_CFG_TIMEOUT : Fld := ⟨0, 16⟩
def SYS_WDT_KICK_KICK : Fld := ⟨0, 1⟩
def SYS_LOCK_LOCK : Fld := ⟨0, 1⟩
def SYS_RESET_CNT_COUNT : Fld := ⟨0, 32⟩
def SYS_WAKE_CNT_COUNT : Fld := ⟨0, 32⟩
def SYS_PAD_HOLD_HELD : Fld := ⟨0, 32⟩
def SYS_PAD_RELEASE_RELEASE : Fld := ⟨0, 32⟩
def SYS_BOOT_REPORT_WORD : Fld := ⟨0, 32⟩
def SYS_LINK_CTRL_RETRAIN : Fld := ⟨2, 1⟩
def SYS_LINK_CTRL_EV_DEGRADED_EN : Fld := ⟨1, 1⟩
def SYS_LINK_CTRL_EV_UP_EN : Fld := ⟨0, 1⟩
def SYS_LINK_STATUS_REMOTE_STATE : Fld := ⟨8, 8⟩
def SYS_LINK_STATUS_DEGRADED : Fld := ⟨2, 1⟩
def SYS_LINK_STATUS_TRAINING : Fld := ⟨1, 1⟩
def SYS_LINK_STATUS_UP : Fld := ⟨0, 1⟩
def SYS_LINK_CRCERR_CNT_COUNT : Fld := ⟨0, 32⟩
def SYS_LINK_RETRY_CNT_COUNT : Fld := ⟨0, 32⟩
def SYS_LINK_DOWN_CNT_COUNT : Fld := ⟨0, 32⟩
def SYS_LINK_UTIL_UTIL : Fld := ⟨0, 8⟩
def SYS_CLK_STATUS_RADIO_XTAL_OK : Fld := ⟨6, 1⟩
def SYS_CLK_STATUS_CORE_ON_BACKUP : Fld := ⟨5, 1⟩
def SYS_CLK_STATUS_SUP_PLL_LOCK : Fld := ⟨4, 1⟩
def SYS_CLK_STATUS_CAN_PLL_LOCK : Fld := ⟨3, 1⟩
def SYS_CLK_STATUS_CORE_PLL_LOCK : Fld := ⟨2, 1⟩
def SYS_CLK_STATUS_XTAL32K_PRESENT : Fld := ⟨1, 1⟩
def SYS_CLK_STATUS_XTAL40_OK : Fld := ⟨0, 1⟩
def SYS_DRAIN_DONE : Fld := ⟨31, 1⟩
def SYS_DRAIN_FAILED : Fld := ⟨0, 16⟩
def SYS_BUSFAULT_WRITE : Fld := ⟨8, 1⟩
def SYS_BUSFAULT_REQUESTER : Fld := ⟨4, 4⟩
def SYS_BUSFAULT_SYNDROME : Fld := ⟨0, 4⟩
def SYS_BUSFAULT_ADDR_ADDR : Fld := ⟨0, 32⟩
def SYS_BUSFAULT_CNT_COUNT : Fld := ⟨0, 32⟩
def SYS_LOCKVIOL_CNT_COUNT : Fld := ⟨0, 16⟩
def SYS_MTIME_LO_TIME : Fld := ⟨0, 32⟩
def SYS_MTIME_HI_TIME : Fld := ⟨0, 32⟩
def SYS_MTIMECMP_LO_CMP : Fld := ⟨0, 32⟩
def SYS_MTIMECMP_HI_CMP : Fld := ⟨0, 32⟩
def SYS_MSIP_MSIP : Fld := ⟨0, 1⟩
def SYS_BLK_POWER_STATE : Fld := ⟨16, 2⟩
def SYS_BLK_POWER_GATE_EN : Fld := ⟨15, 1⟩
def SYS_BLK_POWER_IDLE : Fld := ⟨0, 15⟩
def SYS_LOAD_CMD_PEAK : Fld := ⟨16, 8⟩
def SYS_LOAD_CMD_IN_FLIGHT : Fld := ⟨8, 8⟩
def SYS_LOAD_CMD_UTIL : Fld := ⟨0, 8⟩
def SYS_LOAD_FABRIC_PEAK : Fld := ⟨16, 8⟩
def SYS_LOAD_FABRIC_UTIL : Fld := ⟨0, 8⟩
def SYS_LOAD_NVM_PEAK : Fld := ⟨16, 8⟩
def SYS_LOAD_NVM_UTIL : Fld := ⟨0, 8⟩
def EVR_ROUTE_PRIO : Fld := ⟨8, 4⟩
def EVR_ROUTE_TARGET : Fld := ⟨0, 7⟩
def EVR_CNT_COUNT : Fld := ⟨0, 32⟩
def EVR_SWRAISE_RAISE : Fld := ⟨0, 16⟩
def EVR_THRESH_THRESH : Fld := ⟨0, 4⟩
def EVR_CLAIM_VALID : Fld := ⟨31, 1⟩
def EVR_CLAIM_SOURCE : Fld := ⟨0, 8⟩
def EVR_MERGE_CNT_COUNT : Fld := ⟨0, 32⟩
def EVR_PEND_PEND : Fld := ⟨0, 32⟩
def Q_CFG_EN : Fld := ⟨31, 1⟩
def Q_CFG_PROD : Fld := ⟨27, 4⟩
def Q_CFG_CONS : Fld := ⟨23, 4⟩
def Q_CFG_SIZE : Fld := ⟨14, 9⟩
def Q_CFG_BASE : Fld := ⟨0, 10⟩
def Q_COUNT_WORDS : Fld := ⟨16, 16⟩
def Q_COUNT_FREE : Fld := ⟨0, 16⟩
def Q_PKTS_HEAD_LEN : Fld := ⟨16, 16⟩
def Q_PKTS_PKTS : Fld := ⟨0, 16⟩
def Q_PKT_CNT_COUNT : Fld := ⟨0, 32⟩
def Q_PUSH_DATA : Fld := ⟨0, 32⟩
def Q_PUSH_EOP_DATA : Fld := ⟨0, 32⟩
def Q_POP_DATA : Fld := ⟨0, 32⟩
def Q_PROD_CTRL_REWIND : Fld := ⟨1, 1⟩
def Q_PROD_CTRL_MARK : Fld := ⟨0, 1⟩
def Q_STATUS_MARK_SET : Fld := ⟨2, 1⟩
def Q_STATUS_IN_PACKET : Fld := ⟨1, 1⟩
def Q_STATUS_FILL_BANK : Fld := ⟨0, 1⟩
def Q_DROP_CNT_COUNT : Fld := ⟨0, 32⟩
def Q_REFUSED_CNT_COUNT : Fld := ⟨0, 32⟩
def Q_UNDERRUN_CNT_COUNT : Fld := ⟨0, 32⟩
def HSP_CFG_QUAD : Fld := ⟨31, 1⟩
def HSP_CFG_INT_OD : Fld := ⟨30, 1⟩
def HSP_CFG_SRAM_HI : Fld := ⟨29, 1⟩
def HSP_HOST_BANKS_BANKS : Fld := ⟨0, 32⟩
def HSP_LOCK_LOCK : Fld := ⟨0, 1⟩
def HSP_ERR_INFO_CODE : Fld := ⟨8, 4⟩
def HSP_ERR_INFO_OPCODE : Fld := ⟨0, 8⟩
def HSP_ERR_ADDR_ADDR : Fld := ⟨0, 24⟩
def HSP_FRAME_CNT_COUNT : Fld := ⟨0, 32⟩
def HSP_FRAME_ERR_CNT_COUNT : Fld := ⟨0, 32⟩
def HSP_REFUSED_CNT_COUNT : Fld := ⟨0, 32⟩
def HSP_FP_SKIP_CNT_COUNT : Fld := ⟨0, 32⟩
def CDE_CTRL_EN : Fld := ⟨31, 1⟩
def CDE_CTRL_PERIOD : Fld := ⟨0, 17⟩
def CDE_BASE_ADDR : Fld := ⟨9, 23⟩
def CDE_SIZE_RECORDS : Fld := ⟨0, 16⟩
def CDE_WRPTR_INDEX : Fld := ⟨0, 16⟩
def CDE_STATUS_WRITING : Fld := ⟨2, 1⟩
def CDE_STATUS_WINDOW : Fld := ⟨1, 1⟩
def CDE_STATUS_RUNNING : Fld := ⟨0, 1⟩
def CDE_SEQ_SEQ : Fld := ⟨0, 32⟩
def CDE_DROP_CNT_COUNT : Fld := ⟨0, 32⟩
def CDE_WRAP_CNT_COUNT : Fld := ⟨0, 32⟩
def RET_SEL_BANKS : Fld := ⟨0, 32⟩
def RET_STATUS_LOST : Fld := ⟨0, 32⟩
def RET_ACK_ACK : Fld := ⟨0, 32⟩
def RET_CAUSE_SIG_SIG : Fld := ⟨0, 32⟩
def RET_CAUSE_DROOP_DROOP : Fld := ⟨0, 32⟩
def RET_KEPT_KEPT : Fld := ⟨0, 32⟩
def RET_LOST_CNT_COUNT : Fld := ⟨0, 32⟩
def SRC_ECC_CORR_CNT_COUNT : Fld := ⟨0, 32⟩
def SRC_ECC_UNCORR_CNT_COUNT : Fld := ⟨0, 32⟩
def SRC_ECC_LAST_ADDR : Fld := ⟨0, 32⟩
def CAN_MODE_EN : Fld := ⟨31, 1⟩
def CAN_MODE_FD_EN : Fld := ⟨30, 1⟩
def CAN_MODE_LISTEN_ONLY : Fld := ⟨29, 1⟩
def CAN_MODE_AUTO_RECOVER : Fld := ⟨28, 1⟩
def CAN_MODE_ALONE_SUSPEND : Fld := ⟨27, 1⟩
def CAN_MODE_RECOVER : Fld := ⟨26, 1⟩
def CAN_NBT_BRP : Fld := ⟨24, 8⟩
def CAN_NBT_TSEG1 : Fld := ⟨16, 8⟩
def CAN_NBT_TSEG2 : Fld := ⟨8, 7⟩
def CAN_NBT_SJW : Fld := ⟨0, 7⟩
def CAN_DBT_BRP : Fld := ⟨24, 6⟩
def CAN_DBT_TSEG1 : Fld := ⟨16, 6⟩
def CAN_DBT_TSEG2 : Fld := ⟨8, 5⟩
def CAN_DBT_SJW : Fld := ⟨0, 5⟩
def CAN_TDC_EN : Fld := ⟨31, 1⟩
def CAN_TDC_TDCO : Fld := ⟨16, 7⟩
def CAN_TDC_TDCF : Fld := ⟨8, 7⟩
def CAN_TDC_TDCV : Fld := ⟨0, 7⟩
def CAN_STATUS_CFG_BAD : Fld := ⟨6, 1⟩
def CAN_STATUS_BUS_ALONE : Fld := ⟨5, 1⟩
def CAN_STATUS_ERR_STATE : Fld := ⟨3, 2⟩
def CAN_STATUS_TX_ACTIVE : Fld := ⟨2, 1⟩
def CAN_STATUS_RX_ACTIVE : Fld := ⟨1, 1⟩
def CAN_STATUS_IDLE : Fld := ⟨0, 1⟩
def CAN_ERR_TEC : Fld := ⟨8, 8⟩
def CAN_ERR_REC : Fld := ⟨0, 8⟩
def CAN_TXREQ_REQ : Fld := ⟨0, 32⟩
def CAN_TXCANCEL_CANCEL : Fld := ⟨0, 32⟩
def CAN_TXPEND_PEND : Fld := ⟨0, 32⟩
def CAN_RXFULL_FULL : Fld := ⟨0, 32⟩
def CAN_MB_SEL_MB : Fld := ⟨0, 6⟩
def CAN_MB_RSV_RSV : Fld := ⟨0, 32⟩
def CAN_MB_OVR_CNT_COUNT : Fld := ⟨0, 32⟩
def CAN_LOCK_TO_CNT_COUNT : Fld := ⟨0, 32⟩
def CAN_RX_NOMATCH_CNT_COUNT : Fld := ⟨0, 32⟩
def CAN_RX_DROP_CNT_COUNT : Fld := ⟨0, 32⟩
def CAN_ALONE_CNT_COUNT : Fld := ⟨0, 32⟩
def CAN_BUSOFF_CNT_COUNT : Fld := ⟨0, 32⟩
def CAN_MB_W_DATA : Fld := ⟨0, 32⟩
def CAN_FLT_ID_EN : Fld := ⟨31, 1⟩
def CAN_FLT_ID_XTD : Fld := ⟨29, 1⟩
def CAN_FLT_ID_ID : Fld := ⟨0, 29⟩
def CAN_FLT_MASK_MASK : Fld := ⟨0, 29⟩
def CAN_MB_STAT_ATTEMPTS : Fld := ⟨8, 8⟩
def CAN_MB_STAT_OUTCOME : Fld := ⟨5, 3⟩
def CAN_MB_STAT_CANCEL_LATE : Fld := ⟨4, 1⟩
def CAN_MB_STAT_LOCKED : Fld := ⟨3, 1⟩
def CAN_MB_STAT_SLOT_HELD : Fld := ⟨2, 1⟩
def CAN_MB_STAT_TX_PEND : Fld := ⟨1, 1⟩
def CAN_MB_STAT_FULL : Fld := ⟨0, 1⟩
def LIN_CTRL_WAKE : Fld := ⟨13, 1⟩
def LIN_CTRL_SLEEP : Fld := ⟨12, 1⟩
def LIN_CTRL_ROLE : Fld := ⟨8, 2⟩
def LIN_CFG_BAUD : Fld := ⟨0, 16⟩
def LIN_SCHED_START_ENTRY : Fld := ⟨0, 6⟩
def LIN_STATUS_ENTRY : Fld := ⟨8, 6⟩
def LIN_STATUS_STATE : Fld := ⟨0, 2⟩
def LIN_ERR_CNT_COUNT : Fld := ⟨0, 32⟩
def LIN_SCHED_E_ENTRY : Fld := ⟨0, 32⟩
def LIN_RESP_CFG_VALID : Fld := ⟨31, 1⟩
def LIN_RESP_CFG_CLASSIC : Fld := ⟨27, 1⟩
def LIN_RESP_CFG_LENGTH : Fld := ⟨20, 4⟩
def LIN_RESP_CFG_ID : Fld := ⟨0, 6⟩
def LIN_RESP_D0_DATA : Fld := ⟨0, 32⟩
def LIN_RESP_D1_DATA : Fld := ⟨0, 32⟩
def NM_CTRL_EN : Fld := ⟨31, 1⟩
def NM_CTRL_FW_MASK : Fld := ⟨16, 8⟩
def NM_CTRL_CTRL_MASK : Fld := ⟨8, 8⟩
def NM_CTRL_NODE : Fld := ⟨0, 8⟩
def NM_CFG_OFFENDER_TIME : Fld := ⟨16, 16⟩
def NM_CFG_FALSE_WAKE_TIMEOUT : Fld := ⟨0, 16⟩
def NM_ID_XTD : Fld := ⟨31, 1⟩
def NM_ID_BASE : Fld := ⟨8, 21⟩
def NM_CYCLE_CYCLE : Fld := ⟨0, 16⟩
def NM_LOCAL_WAKE_REASON : Fld := ⟨8, 8⟩
def NM_LOCAL_AWAKE : Fld := ⟨0, 1⟩
def NM_STATUS_ALL_READY : Fld := ⟨31, 1⟩
def NM_STATUS_LONE_VALID : Fld := ⟨30, 1⟩
def NM_STATUS_LONE : Fld := ⟨16, 8⟩
def NM_STATUS_LONE_TIME : Fld := ⟨0, 16⟩
def NM_OFF_CLEAR_CLEAR : Fld := ⟨0, 1⟩
def NM_FW_STATUS_ARMED : Fld := ⟨1, 1⟩
def NM_FW_STATUS_CHECKED : Fld := ⟨0, 1⟩
def NM_FALSE_WAKE_CNT_COUNT : Fld := ⟨0, 32⟩
def NM_BAD_FRAME_CNT_COUNT : Fld := ⟨0, 32⟩
def NM_OFF_LOST_CNT_COUNT : Fld := ⟨0, 32⟩
def NM_PRESENT_MAP_MAP : Fld := ⟨0, 32⟩
def NM_AWAKE_MAP_MAP : Fld := ⟨0, 32⟩
def NM_OFF_ENTRY_COUNT : Fld := ⟨8, 8⟩
def NM_OFF_ENTRY_NODE : Fld := ⟨0, 8⟩
def NM_OFF_DURATION_DURATION : Fld := ⟨0, 32⟩
def SEC_JOB_WORD : Fld := ⟨0, 32⟩
def SEC_LOG_HEAD_SEQ : Fld := ⟨0, 32⟩
def SEC_LOG_MARK_SEQ : Fld := ⟨0, 32⟩
def SEC_LOG_STATUS_LOG_FULL : Fld := ⟨31, 1⟩
def SEC_LOG_STATUS_FOLDING : Fld := ⟨30, 1⟩
def SEC_LOG_STATUS_SEALING : Fld := ⟨29, 1⟩
def SEC_LOG_STATUS_ERASING : Fld := ⟨28, 1⟩
def SEC_LOG_STATUS_RESERVE_USED : Fld := ⟨0, 16⟩
def SEC_SEAL_SEQ_SEQ : Fld := ⟨0, 32⟩
def SEC_POLICY_VERSION : Fld := ⟨0, 32⟩
def SEC_AUTH_SLOTS_CLOSED : Fld := ⟨4, 1⟩
def SEC_AUTH_WRITTEN : Fld := ⟨0, 4⟩
def SEC_AUTH_CNT_COUNT : Fld := ⟨0, 32⟩
def SEC_SEAL_MAP_BOUND : Fld := ⟨8, 4⟩
def SEC_SEAL_MAP_PARK_BYPASS : Fld := ⟨4, 4⟩
def SEC_SEAL_MAP_HOLD : Fld := ⟨0, 4⟩
def SEC_FOLD_CNT_COUNT : Fld := ⟨0, 32⟩
def SEC_LOST_CNT_COUNT : Fld := ⟨0, 32⟩
def SEN_DIE_ID_FAMILY : Fld := ⟨24, 8⟩
def SEN_DIE_ID_INDEX : Fld := ⟨16, 8⟩
def SEN_DIE_ID_KIND : Fld := ⟨8, 8⟩
def SEN_DIE_ID_SILICON : Fld := ⟨0, 8⟩
def SEN_ORDER_TOKEN_LANDED : Fld := ⟨0, 32⟩
def SEN_FOREIGN_WR_CNT_COUNT : Fld := ⟨0, 16⟩
def SEN_WAKE_SRC_SWK_ERR : Fld := ⟨18, 1⟩
def SEN_WAKE_SRC_HOST : Fld := ⟨17, 1⟩
def SEN_WAKE_SRC_ALARM : Fld := ⟨16, 1⟩
def SEN_WAKE_SRC_ACCESS : Fld := ⟨15, 1⟩
def SEN_WAKE_SRC_TAMPER : Fld := ⟨14, 1⟩
def SEN_WAKE_SRC_PATROL : Fld := ⟨13, 1⟩
def SEN_WAKE_SRC_SI : Fld := ⟨12, 1⟩
def SEN_WAKE_SRC_WAKE_IN : Fld := ⟨11, 1⟩
def SEN_WAKE_SRC_LIN : Fld := ⟨7, 4⟩
def SEN_WAKE_SRC_SVC : Fld := ⟨6, 1⟩
def SEN_WAKE_SRC_CAN : Fld := ⟨0, 6⟩
def SEN_WAKE_FIRST_VALID : Fld := ⟨31, 1⟩
def SEN_WAKE_FIRST_BIT : Fld := ⟨8, 5⟩
def SEN_WAKE_FIRST_INPUT : Fld := ⟨0, 6⟩
def SEN_WAKE_CNT_COUNT : Fld := ⟨0, 32⟩
def SEN_RAIL_STALE : Fld := ⟨31, 1⟩
def SEN_RAIL_MIN : Fld := ⟨16, 15⟩
def SEN_RAIL_AVG : Fld := ⟨0, 16⟩
def SEN_RTC_LO_TIME : Fld := ⟨0, 32⟩
def SEN_RTC_HI_TIME : Fld := ⟨0, 32⟩
def SEN_RTC_STATUS_GAP : Fld := ⟨1, 1⟩
def SEN_RTC_STATUS_ON_RC : Fld := ⟨0, 1⟩
def PAT_CTRL_INTERVAL : Fld := ⟨0, 14⟩
def PAT_EXPECT_CARE : Fld := ⟨16, 16⟩
def PAT_EXPECT_EXPECT : Fld := ⟨0, 16⟩
def PAT_SNIFF_EN : Fld := ⟨31, 1⟩
def PAT_SNIFF_WINDOW : Fld := ⟨16, 8⟩
def PAT_SNIFF_SNIFF_INT : Fld := ⟨0, 16⟩
def PAT_ALARM_SECONDS : Fld := ⟨0, 32⟩
def PAT_STATUS_SLOT_MAP : Fld := ⟨16, 16⟩
def PAT_STATUS_VALUE : Fld := ⟨0, 16⟩
def PAT_CYCLE_CNT_COUNT : Fld := ⟨0, 32⟩
def PAT_MISMATCH_CNT_COUNT : Fld := ⟨0, 32⟩
def SI_CFG_EN : Fld := ⟨31, 1⟩
def SI_CFG_PATROL : Fld := ⟨30, 1⟩
def SI_CFG_WAKE_EN : Fld := ⟨29, 1⟩
def SI_CFG_WAKE_EDGE : Fld := ⟨27, 2⟩
def SI_CFG_REC : Fld := ⟨26, 1⟩
def SI_CFG_EV_EN : Fld := ⟨25, 1⟩
def SI_CFG_LADDER : Fld := ⟨24, 1⟩
def SI_CFG_LTAB : Fld := ⟨21, 3⟩
def SI_CFG_POL : Fld := ⟨20, 1⟩
def SI_CFG_INVERT : Fld := ⟨19, 1⟩
def SI_CFG_IWET : Fld := ⟨16, 3⟩
def SI_CFG_PULSE : Fld := ⟨13, 3⟩
def SI_CFG_SCAN : Fld := ⟨10, 3⟩
def SI_CFG_DEB : Fld := ⟨6, 4⟩
def SI_THR_THR_HI : Fld := ⟨16, 10⟩
def SI_THR_THR_LO : Fld := ⟨0, 10⟩
def SI_STATUS_LOCKED : Fld := ⟨31, 1⟩
def SI_STATUS_TAMPER : Fld := ⟨26, 2⟩
def SI_STATUS_BAND : Fld := ⟨23, 3⟩
def SI_STATUS_VALUE : Fld := ⟨22, 1⟩
def SI_STATUS_CODE : Fld := ⟨0, 10⟩
def SI_CHG_CNT_COUNT : Fld := ⟨0, 32⟩
def SI_LT_B_BOUND : Fld := ⟨0, 10⟩
def SI_STATE0_VALUE : Fld := ⟨0, 32⟩
def SI_STATE1_VALUE : Fld := ⟨0, 32⟩
def SI_PATROL_REFUSED_CNT_COUNT : Fld := ⟨0, 32⟩
def LS_ISET_CODE : Fld := ⟨0, 10⟩
def LS_DUTY_DUTY : Fld := ⟨0, 12⟩
def LS_CFG_GROUP : Fld := ⟨28, 4⟩
def LS_CFG_LANE : Fld := ⟨24, 3⟩
def LS_CFG_SHORT_HR : Fld := ⟨16, 8⟩
def LS_CFG_LIMP_MODE : Fld := ⟨14, 2⟩
def LS_CFG_LIMP_DUTY : Fld := ⟨0, 12⟩
def LS_CAL_COLOUR : Fld := ⟨24, 3⟩
def LS_CAL_BIN : Fld := ⟨16, 8⟩
def LS_CAL_I_TRIM : Fld := ⟨8, 8⟩
def LS_CAL_D_TRIM : Fld := ⟨0, 8⟩
def LS_CTRL_REARM : Fld := ⟨2, 1⟩
def LS_CTRL_APPLY : Fld := ⟨1, 1⟩
def LS_CTRL_EN : Fld := ⟨0, 1⟩
def LS_STATUS_D_EFF : Fld := ⟨12, 12⟩
def LS_STATUS_CAL_DEFAULT : Fld := ⟨11, 1⟩
def LS_STATUS_UNTRACKED : Fld := ⟨10, 1⟩
def LS_STATUS_HEADROOM_LOW : Fld := ⟨9, 1⟩
def LS_STATUS_FAULT : Fld := ⟨4, 4⟩
def LS_STATUS_STATE : Fld := ⟨0, 4⟩
def LS_MEAS_HEADROOM : Fld := ⟨16, 16⟩
def LS_MEAS_I : Fld := ⟨0, 16⟩
def LS_FAULT_CNT_COUNT : Fld := ⟨0, 32⟩
def LED_HR_CTRL_EN : Fld := ⟨31, 1⟩
def LED_HR_CTRL_REARM : Fld := ⟨30, 1⟩
def LED_HR_CTRL_VMAX : Fld := ⟨16, 10⟩
def LED_HR_CTRL_TARGET : Fld := ⟨0, 8⟩
def LED_HR_STATUS_VSET : Fld := ⟨16, 16⟩
def LED_HR_STATUS_NEEDIEST : Fld := ⟨8, 5⟩
def LED_HR_STATUS_FAULT_LATCHED : Fld := ⟨3, 1⟩
def LED_HR_STATUS_RESTARTING : Fld := ⟨2, 1⟩
def LED_HR_STATUS_ILIM : Fld := ⟨1, 1⟩
def LED_HR_STATUS_AT_VMAX : Fld := ⟨0, 1⟩
def LED_HR_RESTART_CNT_COUNT : Fld := ⟨0, 32⟩
def LED_COMMIT_MASK_MASK : Fld := ⟨0, 24⟩
def LED_COMMIT_GO : Fld := ⟨0, 1⟩
def LED_HOLD_TIME_HOLD : Fld := ⟨0, 10⟩
def LF_CFG_EN : Fld := ⟨31, 1⟩
def LF_CFG_AON : Fld := ⟨30, 1⟩
def LF_CFG_SRC : Fld := ⟨28, 2⟩
def LF_CFG_ENGINE : Fld := ⟨24, 3⟩
def LF_CFG_NTC_SEL : Fld := ⟨20, 4⟩
def LF_LEVEL_LEVEL : Fld := ⟨0, 12⟩
def LF_DERATE_T_START : Fld := ⟨24, 8⟩
def LF_DERATE_T_END : Fld := ⟨16, 8⟩
def LF_DERATE_F_MIN : Fld := ⟨8, 8⟩
def LF_DERATE_F_FAIL : Fld := ⟨0, 8⟩
def LF_CH01_VALID1 : Fld := ⟨31, 1⟩
def LF_CH01_CHAN1 : Fld := ⟨16, 8⟩
def LF_CH01_VALID0 : Fld := ⟨15, 1⟩
def LF_CH01_CHAN0 : Fld := ⟨0, 8⟩
def LF_CH23_VALID3 : Fld := ⟨31, 1⟩
def LF_CH23_CHAN3 : Fld := ⟨16, 8⟩
def LF_CH23_VALID2 : Fld := ⟨15, 1⟩
def LF_CH23_CHAN2 : Fld := ⟨0, 8⟩
def LF_STATUS_F : Fld := ⟨16, 11⟩
def LF_STATUS_DERATING : Fld := ⟨3, 1⟩
def LF_STATUS_OUTAGE : Fld := ⟨2, 1⟩
def LF_STATUS_STATE : Fld := ⟨0, 2⟩
def PE_CTRL_START : Fld := ⟨31, 1⟩
def PE_CTRL_STOP : Fld := ⟨30, 1⟩
def PE_CTRL_GAMMA : Fld := ⟨29, 1⟩
def PE_CTRL_END_MODE : Fld := ⟨28, 1⟩
def PE_CTRL_FADE_T : Fld := ⟨16, 12⟩
def PE_CTRL_START_STEP : Fld := ⟨0, 6⟩
def PE_STATUS_SEQ : Fld := ⟨16, 16⟩
def PE_STATUS_STEP : Fld := ⟨8, 6⟩
def PE_STATUS_STATUS : Fld := ⟨0, 4⟩
def PE_LANE_HI : Fld := ⟨16, 12⟩
def PE_LANE_LO : Fld := ⟨0, 12⟩
def PE_STEP_STEP : Fld := ⟨0, 32⟩
def NTC_CFG_B : Fld := ⟨16, 16⟩
def NTC_CFG_R25 : Fld := ⟨0, 16⟩
def NTC_TEMP_FAULT : Fld := ⟨31, 1⟩
def NTC_TEMP_TEMP : Fld := ⟨0, 16⟩
def VB_CTRL_EN : Fld := ⟨31, 1⟩
def VB_CTRL_VSET : Fld := ⟨0, 10⟩
def VB_STATUS_ILIM : Fld := ⟨1, 1⟩
def VB_STATUS_REGULATING : Fld := ⟨0, 1⟩
def SEN_SWK_CTRL_EN : Fld := ⟨31, 1⟩
def SEN_SWK_CTRL_DMODE : Fld := ⟨30, 1⟩
def SEN_SWK_CTRL_DLC : Fld := ⟨16, 4⟩
def SEN_SWK_CTRL_RATE : Fld := ⟨0, 2⟩
def SEN_SWK_ID_XTD : Fld := ⟨29, 1⟩
def SEN_SWK_ID_ID : Fld := ⟨0, 29⟩
def SEN_SWK_IDMASK_MASK : Fld := ⟨0, 29⟩
def SEN_SWK_DATA_DATA : Fld := ⟨0, 32⟩
def SEN_SWK_DMASK_DMASK : Fld := ⟨0, 32⟩
def SEN_SWK_ERR_COUNT : Fld := ⟨0, 6⟩
def SEN_CANT_HLTH_CTRL_VF : Fld := ⟨16, 7⟩
def SEN_CANT_HLTH_CTRL_MEAS_STEP : Fld := ⟨1, 1⟩
def SEN_CANT_HLTH_CTRL_MEAS_TERM : Fld := ⟨0, 1⟩
def SEN_CANT_HLTH_TERM_SEQ : Fld := ⟨24, 8⟩
def SEN_CANT_HLTH_TERM_STATUS : Fld := ⟨20, 4⟩
def SEN_CANT_HLTH_TERM_R_TERM : Fld := ⟨0, 16⟩
def SEN_CANT_HLTH_STEP_SEQ : Fld := ⟨24, 8⟩
def SEN_CANT_HLTH_STEP_STATUS : Fld := ⟨20, 4⟩
def SEN_CANT_HLTH_STEP_KIND : Fld := ⟨18, 2⟩
def SEN_CANT_HLTH_STEP_DIST : Fld := ⟨0, 16⟩
def WR_CFG_FWD_EN : Fld := ⟨31, 1⟩
def WR_CFG_PULSE : Fld := ⟨8, 8⟩
def WR_CFG_BLANK : Fld := ⟨0, 8⟩
def WR_FWD_LOCAL_MASK : Fld := ⟨0, 32⟩
def WR_STATUS_BLANKING : Fld := ⟨2, 1⟩
def WR_STATUS_OUT_ACTIVE : Fld := ⟨1, 1⟩
def WR_STATUS_IN_LEVEL : Fld := ⟨0, 1⟩
def WR_IN_CNT_COUNT : Fld := ⟨0, 32⟩
def WR_OUT_CNT_COUNT : Fld := ⟨0, 32⟩
def WR_BLANKED_CNT_COUNT : Fld := ⟨0, 32⟩
def PWR_DIE_ID_FAMILY : Fld := ⟨24, 8⟩
def PWR_DIE_ID_INDEX : Fld := ⟨16, 8⟩
def PWR_DIE_ID_KIND : Fld := ⟨8, 8⟩
def PWR_DIE_ID_SILICON : Fld := ⟨0, 8⟩
def PWR_ORDER_TOKEN_LANDED : Fld := ⟨0, 32⟩
def PWR_FOREIGN_WR_CNT_COUNT : Fld := ⟨0, 16⟩
def CH_CMD_APPLY : Fld := ⟨31, 1⟩
def CH_CMD_REARM : Fld := ⟨30, 1⟩
def CH_CMD_DUTY : Fld := ⟨16, 12⟩
def CH_CMD_CEIL : Fld := ⟨8, 8⟩
def CH_CMD_MODE : Fld := ⟨0, 3⟩
def CH_PWM_PHASE : Fld := ⟨20, 12⟩
def CH_PWM_PERIOD : Fld := ⟨0, 19⟩
def CH_CFG_SLEW : Fld := ⟨6, 3⟩
def CH_CFG_PRIO : Fld := ⟨4, 2⟩
def CH_CFG_PROFILE : Fld := ⟨0, 4⟩
def CH_OWNER_OWNER : Fld := ⟨0, 4⟩
def CH_ACTIVE_CMD_DUTY : Fld := ⟨16, 12⟩
def CH_ACTIVE_CMD_CEIL : Fld := ⟨8, 8⟩
def CH_ACTIVE_CMD_MODE : Fld := ⟨0, 3⟩
def CH_ACTIVE_PWM_PHASE : Fld := ⟨20, 12⟩
def CH_ACTIVE_PWM_PERIOD : Fld := ⟨0, 19⟩
def CH_ACTIVE_CFG_SLEW : Fld := ⟨6, 3⟩
def CH_ACTIVE_CFG_PRIO : Fld := ⟨4, 2⟩
def CH_ACTIVE_CFG_PROFILE : Fld := ⟨0, 4⟩
def CH_STATUS_SEALED : Fld := ⟨16, 1⟩
def CH_STATUS_START_ENABLE : Fld := ⟨15, 1⟩
def CH_STATUS_PROFILE_FALLBACK : Fld := ⟨14, 1⟩
def CH_STATUS_PERIOD_CLAMPED : Fld := ⟨13, 1⟩
def CH_STATUS_DUTY_LIMITED : Fld := ⟨12, 1⟩
def CH_STATUS_PAIR_ODD : Fld := ⟨11, 1⟩
def CH_STATUS_PAIRED : Fld := ⟨10, 1⟩
def CH_STATUS_PENDING_APPLY : Fld := ⟨9, 1⟩
def CH_STATUS_PENDING_GRANT : Fld := ⟨8, 1⟩
def CH_STATUS_CAUSE : Fld := ⟨4, 4⟩
def CH_STATUS_STATE : Fld := ⟨0, 4⟩
def CH_NOTOWNER_CNT_COUNT : Fld := ⟨0, 32⟩
def CH_START_CNT_COUNT : Fld := ⟨0, 32⟩
def CH_DEFER_CNT_COUNT : Fld := ⟨0, 32⟩
def CH_CAPGRANT_CNT_COUNT : Fld := ⟨0, 32⟩
def CH_PROT_CFG_LIMIT_TIME : Fld := ⟨24, 8⟩
def CH_PROT_CFG_BACKOFF_BASE : Fld := ⟨16, 8⟩
def CH_PROT_CFG_RETRY_MAX : Fld := ⟨8, 4⟩
def CH_WIRE_CFG_WIRE_EN : Fld := ⟨31, 1⟩
def CH_WIRE_CFG_TAU : Fld := ⟨16, 12⟩
def CH_WIRE_CFG_I_RATED : Fld := ⟨0, 10⟩
def CH_LIMP_CFG_LIMP_MODE : Fld := ⟨0, 2⟩
def CH_PROT_STATUS_HOLD_SUB : Fld := ⟨20, 4⟩
def CH_PROT_STATUS_RETRY_NUM : Fld := ⟨16, 4⟩
def CH_PROT_STATUS_BYPASS_ON : Fld := ⟨7, 1⟩
def CH_PROT_STATUS_DISABLE_PENDING : Fld := ⟨6, 1⟩
def CH_PROT_STATUS_REVERSE : Fld := ⟨5, 1⟩
def CH_PROT_STATUS_SHORT_SUPPLY : Fld := ⟨4, 1⟩
def CH_PROT_STATUS_WIRE_WARN : Fld := ⟨3, 1⟩
def CH_PROT_STATUS_TJ_WARN : Fld := ⟨2, 1⟩
def CH_PROT_STATUS_COOLING : Fld := ⟨1, 1⟩
def CH_WIRE_LEVEL_OVER : Fld := ⟨16, 1⟩
def CH_WIRE_LEVEL_LEVEL : Fld := ⟨0, 16⟩
def CH_FAULT_REC0_SEQ : Fld := ⟨16, 8⟩
def CH_FAULT_REC0_NEIGHBOUR_INRUSH : Fld := ⟨15, 1⟩
def CH_FAULT_REC0_IN_HOLD : Fld := ⟨14, 1⟩
def CH_FAULT_REC0_FROZEN : Fld := ⟨13, 1⟩
def CH_FAULT_REC0_RETRY_NUM : Fld := ⟨8, 4⟩
def CH_FAULT_REC0_PRIOR_STATE : Fld := ⟨4, 4⟩
def CH_FAULT_REC0_CAUSE : Fld := ⟨0, 4⟩
def CH_FAULT_REC1_I_TRIP : Fld := ⟨16, 16⟩
def CH_FAULT_REC1_TJ : Fld := ⟨0, 8⟩
def CH_FAULT_REC2_VFEED : Fld := ⟨16, 16⟩
def CH_FAULT_REC2_VOUT : Fld := ⟨0, 16⟩
def CH_FAULT_TIME_TIME : Fld := ⟨0, 32⟩
def CH_CLAMP_E_LAST : Fld := ⟨16, 16⟩
def CH_CLAMP_E_ALLOW : Fld := ⟨0, 16⟩
def CH_DISABLE_FORCE : Fld := ⟨1, 1⟩
def CH_DISABLE_DIS : Fld := ⟨0, 1⟩
def CH_I_AVG_I : Fld := ⟨0, 32⟩
def CH_I_MIN_I : Fld := ⟨0, 32⟩
def CH_I_MAX_I : Fld := ⟨0, 32⟩
def CH_I_ON_I : Fld := ⟨0, 32⟩
def CH_VOLT_VFEED : Fld := ⟨16, 16⟩
def CH_VOLT_VOUT : Fld := ⟨0, 16⟩
def CH_TJ_TJ : Fld := ⟨0, 8⟩
def CH_MEAS_SEQ_SEQ : Fld := ⟨0, 16⟩
def CH_ENERGY_LO_E : Fld := ⟨0, 32⟩
def CH_ENERGY_HI_E : Fld := ⟨0, 32⟩
def CH_CAUSE_CNT_B3 : Fld := ⟨24, 8⟩
def CH_CAUSE_CNT_B2 : Fld := ⟨16, 8⟩
def CH_CAUSE_CNT_B1 : Fld := ⟨8, 8⟩
def CH_CAUSE_CNT_B0 : Fld := ⟨0, 8⟩
def CH_OL_CFG_STRETCH_EN : Fld := ⟨31, 1⟩
def CH_OL_CFG_OFF_EN : Fld := ⟨30, 1⟩
def CH_OL_CFG_OFF_THR : Fld := ⟨28, 2⟩
def CH_OL_CFG_OFF_CONFIRM : Fld := ⟨24, 4⟩
def CH_OL_CFG_ON_CONFIRM : Fld := ⟨20, 4⟩
def CH_OL_CFG_OFF_INTERVAL : Fld := ⟨12, 8⟩
def CH_OL_CFG_STRETCH_N : Fld := ⟨0, 12⟩
def CH_OL_THR_ON_THR : Fld := ⟨0, 10⟩
def CH_OL_STATUS_VOFF : Fld := ⟨16, 16⟩
def CH_OL_STATUS_DIAG_STARVED : Fld := ⟨4, 1⟩
def CH_OL_STATUS_STRETCHING : Fld := ⟨3, 1⟩
def CH_OL_STATUS_UNCONFIRMED : Fld := ⟨2, 1⟩
def CH_OL_STATUS_OPEN_OFF : Fld := ⟨1, 1⟩
def CH_OL_STATUS_OPEN_ON : Fld := ⟨0, 1⟩
def CH_LID_CTRL_ARM : Fld := ⟨31, 1⟩
def CH_LID_R_R : Fld := ⟨0, 32⟩
def CH_LID_L_L : Fld := ⟨0, 32⟩
def CH_LID_C_C : Fld := ⟨0, 32⟩
def CH_LID_SHAPE_TD : Fld := ⟨16, 16⟩
def CH_LID_SHAPE_K : Fld := ⟨0, 8⟩
def CH_LID_RESULT_SEQ : Fld := ⟨24, 8⟩
def CH_LID_RESULT_LIMITED : Fld := ⟨23, 1⟩
def CH_LID_RESULT_STATUS : Fld := ⟨16, 4⟩
def CH_LID_RESULT_CONF : Fld := ⟨8, 2⟩
def CH_LID_RESULT_TYPE : Fld := ⟨0, 4⟩
def PWR_COMMIT_MASK0_MASK : Fld := ⟨0, 32⟩
def PWR_COMMIT_MASK1_MASK : Fld := ⟨0, 16⟩
def PWR_COMMIT_ALIGN : Fld := ⟨1, 1⟩
def PWR_COMMIT_GO : Fld := ⟨0, 1⟩
def PWR_COMMIT_CNT_COUNT : Fld := ⟨0, 32⟩
def PWR_COMMIT_OVERRUN_CNT_COUNT : Fld := ⟨0, 32⟩
def PWR_PAIR_PAIR : Fld := ⟨0, 24⟩
def PWR_PAIR_REFUSED_CNT_COUNT : Fld := ⟨0, 32⟩
def PWR_HOLD_TIME_HOLD : Fld := ⟨0, 10⟩
def PWR_PROT_STATUS_HOLD_LEFT : Fld := ⟨16, 16⟩
def PWR_PROT_STATUS_LIMP : Fld := ⟨5, 1⟩
def PWR_PROT_STATUS_HOLDING : Fld := ⟨4, 1⟩
def PWR_PROT_STATUS_FROZEN : Fld := ⟨3, 1⟩
def PWR_PROT_STATUS_OV : Fld := ⟨2, 1⟩
def PWR_PROT_STATUS_UV : Fld := ⟨1, 1⟩
def PWR_PROT_STATUS_SCALED : Fld := ⟨0, 1⟩
def PWR_TIME_LO_TIME : Fld := ⟨0, 32⟩
def PWR_TIME_HI_TIME : Fld := ⟨0, 32⟩
def PWR_DIP_CNT_COUNT : Fld := ⟨0, 32⟩
def PWR_STREAM_CTRL_EN : Fld := ⟨31, 1⟩
def PWR_STREAM_CTRL_DECIM : Fld := ⟨8, 3⟩
def PWR_STREAM_CTRL_SRC : Fld := ⟨0, 6⟩
def PWR_STREAM_STATUS_SEQ : Fld := ⟨16, 16⟩
def PWR_STREAM_STATUS_SRC : Fld := ⟨8, 6⟩
def PWR_STREAM_STATUS_ACTIVE : Fld := ⟨0, 1⟩
def PWR_STREAM_DROP_CNT_COUNT : Fld := ⟨0, 32⟩
def PWR_FEED_AVG_AVG10 : Fld := ⟨16, 16⟩
def PWR_FEED_AVG_AVG1 : Fld := ⟨0, 16⟩
def PWR_FEED_RANGE_MAX : Fld := ⟨16, 16⟩
def PWR_FEED_RANGE_MIN : Fld := ⟨0, 16⟩
def PWR_TDR_CTRL_GO : Fld := ⟨31, 1⟩
def PWR_TDR_CTRL_STOP : Fld := ⟨30, 1⟩
def PWR_TDR_CTRL_SRC : Fld := ⟨8, 6⟩
def PWR_TDR_CTRL_TRACE : Fld := ⟨7, 1⟩
def PWR_TDR_CTRL_VF : Fld := ⟨0, 7⟩
def PWR_TDR_CFG_AVG : Fld := ⟨8, 7⟩
def PWR_TDR_CFG_THR : Fld := ⟨0, 7⟩
def PWR_TDR_STATUS_SEQ : Fld := ⟨16, 16⟩
def PWR_TDR_STATUS_STATUS : Fld := ⟨12, 4⟩
def PWR_TDR_STATUS_STEP : Fld := ⟨0, 12⟩
def PWR_XC_CTRL_GO : Fld := ⟨31, 1⟩
def PWR_XC_CTRL_SRC : Fld := ⟨0, 6⟩
def PWR_XC_STATUS_SEQ : Fld := ⟨16, 16⟩
def PWR_XC_STATUS_STATUS : Fld := ⟨12, 4⟩
def PWR_XC_STATUS_SRC : Fld := ⟨0, 6⟩
def PWR_XC_WATCH0_MASK : Fld := ⟨0, 32⟩
def PWR_XC_WATCH1_MASK : Fld := ⟨0, 16⟩
def PWR_XC_HIT0_MASK : Fld := ⟨0, 32⟩
def PWR_XC_HIT1_MASK : Fld := ⟨0, 16⟩
def PWR_HK_STATUS_COMMIT : Fld := ⟨16, 8⟩
def PWR_HK_STATUS_LID_RUNNING : Fld := ⟨8, 4⟩
def PWR_HK_STATUS_TDR_PAUSED : Fld := ⟨0, 1⟩
def PWR_LID_SKIP_CNT_COUNT : Fld := ⟨0, 32⟩
def PWR_FLASH_CFG_EN : Fld := ⟨31, 1⟩
def PWR_FLASH_CFG_SYNC : Fld := ⟨30, 1⟩
def PWR_FLASH_CFG_OUT_FAST : Fld := ⟨29, 1⟩
def PWR_FLASH_CFG_SYNC_PE : Fld := ⟨26, 3⟩
def PWR_FLASH_CFG_ON_T : Fld := ⟨10, 10⟩
def PWR_FLASH_CFG_OFF_T : Fld := ⟨0, 10⟩
def PWR_FLASH_MASK0_MASK : Fld := ⟨0, 32⟩
def PWR_FLASH_MASK1_OUT_THR : Fld := ⟨16, 16⟩
def PWR_FLASH_MASK1_MASK : Fld := ⟨0, 16⟩
def PWR_FLASH_STATUS_OUTAGE : Fld := ⟨31, 1⟩
def PWR_FLASH_STATUS_PHASE : Fld := ⟨30, 1⟩
def PWR_VB_THR_THR : Fld := ⟨0, 10⟩
def PWR_SEAL_STATUS_ENTRIES : Fld := ⟨16, 8⟩
def PWR_SEAL_STATUS_BYPASS : Fld := ⟨4, 4⟩
def PWR_SEAL_STATUS_INTERRUPTED : Fld := ⟨0, 4⟩
def PWR_SEAL_ACK_ACK : Fld := ⟨0, 16⟩
def PWR_SEAL_LOST_CNT_COUNT : Fld := ⟨0, 32⟩
def PWR_SEAL_KIND_VALID : Fld := ⟨31, 1⟩
def PWR_SEAL_KIND_OPEN : Fld := ⟨30, 1⟩
def PWR_SEAL_KIND_TYPE : Fld := ⟨0, 8⟩
def PWR_SEAL_DATA_DATA : Fld := ⟨0, 32⟩
def IP_HDR_ENV_FACTOR : Fld := ⟨8, 8⟩
def IP_HDR_NSEG : Fld := ⟨0, 4⟩
def IP_SEG_CEIL_PCT : Fld := ⟨16, 7⟩
def IP_SEG_DUR : Fld := ⟨0, 16⟩
def IS_CTRL_ENABLE : Fld := ⟨8, 1⟩
def IS_CTRL_DEFER_MAX : Fld := ⟨0, 8⟩
def IS_BUDGET_BUDGET : Fld := ⟨0, 12⟩
def IS_STATUS_FROZEN : Fld := ⟨18, 1⟩
def IS_STATUS_PENDING : Fld := ⟨12, 6⟩
def IS_STATUS_BOOKED : Fld := ⟨0, 12⟩
def IS_DEFER_CNT_COUNT : Fld := ⟨0, 32⟩
def IS_CAPGRANT_CNT_COUNT : Fld := ⟨0, 32⟩
def VG_CFG_PAR : Fld := ⟨31, 1⟩
def VG_CFG_OVERLAP_MAX : Fld := ⟨16, 8⟩
def VG_CFG_NR_MODE : Fld := ⟨8, 1⟩
def VG_CFG_NR_MAX : Fld := ⟨0, 8⟩
def VG_STATUS_PEAKS : Fld := ⟨16, 2⟩
def VG_STATUS_HS_ON : Fld := ⟨8, 1⟩
def VG_STATUS_PAIRED : Fld := ⟨0, 1⟩
def VG_OVERLAP_DEFER_CNT_COUNT : Fld := ⟨0, 32⟩
def VG_OVERLAP_TO_CNT_COUNT : Fld := ⟨0, 32⟩
def VG_NR_DEFER_CNT_COUNT : Fld := ⟨0, 32⟩
def VG_NR_TO_CNT_COUNT : Fld := ⟨0, 32⟩
def VG_FEEDPEAK_CNT_COUNT : Fld := ⟨0, 32⟩
def VG_PAR_REFUSED_CNT_COUNT : Fld := ⟨0, 32⟩
def VLV_PEAK_PEAK_T : Fld := ⟨16, 16⟩
def VLV_PEAK_PEAK_I : Fld := ⟨0, 10⟩
def VLV_HOLD_HOLD_FREQ : Fld := ⟨16, 16⟩
def VLV_HOLD_HOLD_I : Fld := ⟨0, 8⟩
def VLV_CFG_EN : Fld := ⟨31, 1⟩
def VLV_CFG_HOLD_SRC : Fld := ⟨30, 1⟩
def VLV_CFG_LIMP_MODE : Fld := ⟨28, 2⟩
def VLV_CFG_ON_MAX : Fld := ⟨0, 12⟩
def VLV_CMD_REARM : Fld := ⟨1, 1⟩
def VLV_CMD_REQ : Fld := ⟨0, 1⟩
def VLV_STATUS_HOLD_LOW : Fld := ⟨12, 1⟩
def VLV_STATUS_FEED_PEAK : Fld := ⟨11, 1⟩
def VLV_STATUS_FAULT : Fld := ⟨4, 4⟩
def VLV_STATUS_STATE : Fld := ⟨0, 4⟩
def VLV_MEAS_I_MAX : Fld := ⟨16, 16⟩
def VLV_MEAS_I_AVG : Fld := ⟨0, 16⟩
def VLV_CLAMP_E_LAST : Fld := ⟨16, 16⟩
def VLV_CLAMP_E_ALLOW : Fld := ⟨0, 16⟩
def VLV_FAULT_CNT_COUNT : Fld := ⟨0, 32⟩
def VLV_CODE_CNT_COUNT : Fld := ⟨0, 32⟩
def VLV_ON_CNT_COUNT : Fld := ⟨0, 32⟩
def FLD_DIE_ID_FAMILY : Fld := ⟨24, 8⟩
def FLD_DIE_ID_INDEX : Fld := ⟨16, 8⟩
def FLD_DIE_ID_KIND : Fld := ⟨8, 8⟩
def FLD_DIE_ID_SILICON : Fld := ⟨0, 8⟩
def FLD_ORDER_TOKEN_LANDED : Fld := ⟨0, 32⟩
def FLD_FOREIGN_WR_CNT_COUNT : Fld := ⟨0, 16⟩
def FLD_HOLD_TIME_HOLD : Fld := ⟨0, 10⟩
def FLD_IN_STATE_VALUE : Fld := ⟨0, 32⟩
def FLD_MODE_REFUSED_CNT_COUNT : Fld := ⟨0, 32⟩
def FLD_STATUS_LIMP : Fld := ⟨1, 1⟩
def FLD_STATUS_HOLDING : Fld := ⟨0, 1⟩
def FP_CFG_MODE : Fld := ⟨30, 2⟩
def FP_CFG_LIMP_MODE : Fld := ⟨28, 2⟩
def FP_CFG_EN : Fld := ⟨27, 1⟩
def FP_CFG_WB_EN : Fld := ⟨26, 1⟩
def FP_CFG_WB_THR : Fld := ⟨24, 2⟩
def FP_CFG_AUTO_RETRY : Fld := ⟨23, 1⟩
def FP_CFG_OL_EN : Fld := ⟨22, 1⟩
def FP_CFG_INVERT : Fld := ⟨21, 1⟩
def FP_CFG_REC : Fld := ⟨20, 1⟩
def FP_CFG_EV_EN : Fld := ⟨19, 1⟩
def FP_CFG_FILT : Fld := ⟨8, 8⟩
def FP_CFG_WB_TIME : Fld := ⟨0, 8⟩
def FP_CMD_REARM : Fld := ⟨1, 1⟩
def FP_CMD_ON : Fld := ⟨0, 1⟩
def FP_STATUS_SUPPLY_MASKED : Fld := ⟨11, 1⟩
def FP_STATUS_WIRE_BREAK : Fld := ⟨10, 1⟩
def FP_STATUS_OPEN_LOAD : Fld := ⟨9, 1⟩
def FP_STATUS_VALUE : Fld := ⟨8, 1⟩
def FP_STATUS_FAULT : Fld := ⟨4, 4⟩
def FP_STATUS_STATE : Fld := ⟨0, 4⟩
def FP_MEAS_V : Fld := ⟨16, 16⟩
def FP_MEAS_I : Fld := ⟨0, 16⟩
def FP_CHG_CNT_COUNT : Fld := ⟨0, 32⟩
def FP_FAULT_CNT_COUNT : Fld := ⟨0, 32⟩
def FLD_SUP_CFG_MODE : Fld := ⟨31, 1⟩
def FLD_SUP_CFG_OV : Fld := ⟨16, 9⟩
def FLD_SUP_CFG_UV : Fld := ⟨0, 9⟩
def FLD_SUP_STATUS_SUPPLY_FAULT : Fld := ⟨2, 1⟩
def FLD_SUP_STATUS_OV : Fld := ⟨1, 1⟩
def FLD_SUP_STATUS_UV : Fld := ⟨0, 1⟩
def FLD_SUP_FAULT_CNT_COUNT : Fld := ⟨0, 32⟩
def ACC_DIE_ID_FAMILY : Fld := ⟨24, 8⟩
def ACC_DIE_ID_INDEX : Fld := ⟨16, 8⟩
def ACC_DIE_ID_KIND : Fld := ⟨8, 8⟩
def ACC_DIE_ID_SILICON : Fld := ⟨0, 8⟩
def ACC_ORDER_TOKEN_LANDED : Fld := ⟨0, 32⟩
def ACC_FOREIGN_WR_CNT_COUNT : Fld := ⟨0, 16⟩
def ACC_CFG0_POLL_DAYS : Fld := ⟨24, 8⟩
def ACC_CFG0_SE_LIMP : Fld := ⟨14, 2⟩
def ACC_CFG0_CHAN : Fld := ⟨13, 1⟩
def ACC_CFG0_STS_CFG : Fld := ⟨12, 1⟩
def ACC_CFG0_SE_CH : Fld := ⟨0, 8⟩
def ACC_CFG1_H1_EN : Fld := ⟨31, 1⟩
def ACC_CFG1_H1_ZONE : Fld := ⟨28, 3⟩
def ACC_CFG1_H1_SI : Fld := ⟨22, 6⟩
def ACC_CFG1_H0_EN : Fld := ⟨15, 1⟩
def ACC_CFG1_H0_ZONE : Fld := ⟨12, 3⟩
def ACC_CFG1_H0_SI : Fld := ⟨6, 6⟩
def ACC_CFG2_KEY_EN : Fld := ⟨31, 1⟩
def ACC_CFG2_KEY_SI : Fld := ⟨24, 6⟩
def ACC_CFG2_START_EN : Fld := ⟨23, 1⟩
def ACC_CFG2_START_ZONE : Fld := ⟨20, 3⟩
def ACC_CFG2_START_SI : Fld := ⟨14, 6⟩
def ACC_CFG3_IMMO_EN : Fld := ⟨31, 1⟩
def ACC_CFG3_IMMO_CAN : Fld := ⟨28, 3⟩
def ACC_CFG3_PERIOD : Fld := ⟨16, 8⟩
def ACC_CFG3_IMMO_ID : Fld := ⟨0, 11⟩
def ACC_STATE_POLL_STOPPED : Fld := ⟨31, 1⟩
def ACC_STATE_RELEASED : Fld := ⟨30, 1⟩
def ACC_STATE_ROUND : Fld := ⟨29, 1⟩
def ACC_STATE_DAYS : Fld := ⟨0, 16⟩
def ACC_LAST_OUTCOME : Fld := ⟨28, 4⟩
def ACC_LAST_TRIGGER : Fld := ⟨24, 4⟩
def ACC_LAST_SLOT : Fld := ⟨20, 4⟩
def ACC_LAST_ZONE : Fld := ⟨16, 4⟩
def ACC_LAST_DIST : Fld := ⟨0, 16⟩
def ACC_ENROLLED_SLOTS : Fld := ⟨0, 10⟩
def ACC_ROUND_CNT_COUNT : Fld := ⟨0, 32⟩
def ACC_AUTH_FAIL_CNT_COUNT : Fld := ⟨0, 32⟩
def ACC_COLLISION_CNT_COUNT : Fld := ⟨0, 32⟩
def ACC_JAM_CNT_COUNT : Fld := ⟨0, 32⟩
def ACC_RELEASE_CNT_COUNT : Fld := ⟨0, 32⟩
def ACC_UNLOGGED_CNT_COUNT : Fld := ⟨0, 32⟩
def ACC_TRIG_MERGE_CNT_COUNT : Fld := ⟨0, 32⟩
def ACC_ZONE_EN : Fld := ⟨31, 1⟩
def ACC_ZONE_OUT_EN : Fld := ⟨30, 1⟩
def ACC_ZONE_ANT_IN : Fld := ⟨28, 2⟩
def ACC_ZONE_ANT_OUT : Fld := ⟨26, 2⟩
def ACC_ZONE_R_OUT : Fld := ⟨10, 10⟩
def ACC_ZONE_R_IN : Fld := ⟨0, 10⟩
def UWB_STATUS_ANT_FAULT : Fld := ⟨4, 4⟩
def UWB_STATUS_ACTIVE : Fld := ⟨0, 1⟩
def ACC_SLOT_RES_RESULT : Fld := ⟨28, 4⟩
def ACC_SLOT_RES_ZONE : Fld := ⟨24, 4⟩
def ACC_SLOT_RES_SEQ : Fld := ⟨0, 16⟩
def ACC_SLOT_D01_D1 : Fld := ⟨16, 16⟩
def ACC_SLOT_D01_D0 : Fld := ⟨0, 16⟩
def ACC_SLOT_D23_D3 : Fld := ⟨16, 16⟩
def ACC_SLOT_D23_D2 : Fld := ⟨0, 16⟩
def CSR_MHPMEVENT_OF : Fld := ⟨31, 1⟩
def CSR_MHPMEVENT_INTEN : Fld := ⟨30, 1⟩
def CSR_MHPMEVENT_UINH : Fld := ⟨29, 1⟩
def CSR_MHPMEVENT_MINH : Fld := ⟨28, 1⟩
def CSR_MHPMEVENT_MODE : Fld := ⟨26, 2⟩
def CSR_MHPMEVENT_THRESH : Fld := ⟨20, 6⟩
def CSR_MHPMEVENT_EVENT : Fld := ⟨8, 8⟩
def MSAMP_CTL_EN : Fld := ⟨31, 1⟩
def MSAMP_CTL_INTEN : Fld := ⟨30, 1⟩
def MSAMP_CTL_JITTER : Fld := ⟨20, 4⟩
def MSAMP_CTL_BASE : Fld := ⟨0, 20⟩
def MSAMP_SEED_SEED : Fld := ⟨0, 16⟩
def MSAMP_PC_PC : Fld := ⟨0, 32⟩
def MSAMP_LAT0_EXEC : Fld := ⟨24, 8⟩
def MSAMP_LAT0_ISSUE : Fld := ⟨16, 8⟩
def MSAMP_LAT0_DECODE : Fld := ⟨8, 8⟩
def MSAMP_LAT0_FETCH : Fld := ⟨0, 8⟩
def MSAMP_LAT1_VALID : Fld := ⟨31, 1⟩
def MSAMP_LAT1_OUTCOME : Fld := ⟨29, 2⟩
def MSAMP_LAT1_SLOT : Fld := ⟨28, 1⟩
def MSAMP_LAT1_RETIRE : Fld := ⟨0, 8⟩
def CSR_PMPCFG_CFG : Fld := ⟨0, 32⟩
def CSR_PMPADDR_ADDR : Fld := ⟨0, 32⟩
def CSR_MCOUNTINHIBIT_HPM : Fld := ⟨3, 12⟩
def CSR_MCOUNTINHIBIT_IR : Fld := ⟨2, 1⟩
def CSR_MCOUNTINHIBIT_CY : Fld := ⟨0, 1⟩
def CSR_SATP_SATP : Fld := ⟨0, 32⟩
def CSR_MISA_MISA : Fld := ⟨0, 32⟩
def CSR_MEDELEG_DELEG : Fld := ⟨0, 32⟩
def CSR_MIDELEG_DELEG : Fld := ⟨0, 32⟩
def CSR_MCOUNTEREN_EN : Fld := ⟨0, 32⟩
def CSR_MVENDORID_ID : Fld := ⟨0, 32⟩
def CSR_MARCHID_ID : Fld := ⟨0, 32⟩
def CSR_MIMPID_ID : Fld := ⟨0, 32⟩
def CSR_MHARTID_ID : Fld := ⟨0, 32⟩
end F

/-- The registers the spec names, one name each. -/
inductive RegId where
  | SYS_ID | SYS_MODE | SYS_RESET_CAUSE | SYS_SWRESET | SYS_WDT_CFG | SYS_WDT_KICK | SYS_LOCK | SYS_RESET_CNT
  | SYS_WAKE_CNT | SYS_PAD_HOLD | SYS_PAD_RELEASE | SYS_BOOT_REPORT | SYS_LINK_CTRL | SYS_LINK_STATUS | SYS_LINK_CRCERR_CNT | SYS_LINK_RETRY_CNT
  | SYS_LINK_DOWN_CNT | SYS_LINK_UTIL | SYS_CLK_STATUS | SYS_DRAIN | SYS_BUSFAULT | SYS_BUSFAULT_ADDR | SYS_BUSFAULT_CNT | SYS_LOCKVIOL_CNT
  | SYS_MTIME_LO | SYS_MTIME_HI | SYS_MTIMECMP_LO | SYS_MTIMECMP_HI | SYS_MSIP | SYS_BLK_POWER | SYS_LOAD_CMD | SYS_LOAD_FABRIC
  | SYS_LOAD_NVM | EVR_ROUTE | EVR_CNT | EVR_SWRAISE | EVR_THRESH | EVR_CLAIM | EVR_MERGE_CNT | EVR_PEND
  | Q_CFG | Q_COUNT | Q_PKTS | Q_PKT_CNT | Q_PUSH | Q_PUSH_EOP | Q_POP | Q_PROD_CTRL
  | Q_STATUS | Q_DROP_CNT | Q_REFUSED_CNT | Q_UNDERRUN_CNT | HSP_CFG | HSP_HOST_BANKS | HSP_LOCK | HSP_ERR_INFO
  | HSP_ERR_ADDR | HSP_FRAME_CNT | HSP_FRAME_ERR_CNT | HSP_REFUSED_CNT | HSP_FP_SKIP_CNT | CDE_CTRL | CDE_BASE | CDE_SIZE
  | CDE_WRPTR | CDE_STATUS | CDE_SEQ | CDE_DROP_CNT | CDE_WRAP_CNT | RET_SEL | RET_STATUS | RET_ACK
  | RET_CAUSE_SIG | RET_CAUSE_DROOP | RET_KEPT | RET_LOST_CNT | SRC_ECC_CORR_CNT | SRC_ECC_UNCORR_CNT | SRC_ECC_LAST | CAN_MODE
  | CAN_NBT | CAN_DBT | CAN_TDC | CAN_STATUS | CAN_ERR | CAN_TXREQ | CAN_TXCANCEL | CAN_TXPEND
  | CAN_RXFULL | CAN_MB_SEL | CAN_MB_RSV | CAN_MB_OVR_CNT | CAN_LOCK_TO_CNT | CAN_RX_NOMATCH_CNT | CAN_RX_DROP_CNT | CAN_ALONE_CNT
  | CAN_BUSOFF_CNT | CAN_MB_W | CAN_FLT_ID | CAN_FLT_MASK | CAN_MB_STAT | LIN_CTRL | LIN_CFG | LIN_SCHED_START
  | LIN_STATUS | LIN_ERR_CNT | LIN_SCHED_E | LIN_RESP_CFG | LIN_RESP_D0 | LIN_RESP_D1 | NM_CTRL | NM_CFG
  | NM_ID | NM_CYCLE | NM_LOCAL | NM_STATUS | NM_OFF_CLEAR | NM_FW_STATUS | NM_FALSE_WAKE_CNT | NM_BAD_FRAME_CNT
  | NM_OFF_LOST_CNT | NM_PRESENT_MAP | NM_AWAKE_MAP | NM_OFF_ENTRY | NM_OFF_DURATION | SEC_JOB | SEC_LOG_HEAD | SEC_LOG_MARK
  | SEC_LOG_STATUS | SEC_SEAL_SEQ | SEC_POLICY | SEC_AUTH | SEC_AUTH_CNT | SEC_SEAL_MAP | SEC_FOLD_CNT | SEC_LOST_CNT
  | SEN_DIE_ID | SEN_ORDER_TOKEN | SEN_FOREIGN_WR_CNT | SEN_WAKE_SRC | SEN_WAKE_FIRST | SEN_WAKE_CNT | SEN_RAIL | SEN_RTC_LO
  | SEN_RTC_HI | SEN_RTC_STATUS | PAT_CTRL | PAT_EXPECT | PAT_SNIFF | PAT_ALARM | PAT_STATUS | PAT_CYCLE_CNT
  | PAT_MISMATCH_CNT | SI_CFG | SI_THR | SI_STATUS | SI_CHG_CNT | SI_LT_B | SI_STATE0 | SI_STATE1
  | SI_PATROL_REFUSED_CNT | LS_ISET | LS_DUTY | LS_CFG | LS_CAL | LS_CTRL | LS_STATUS | LS_MEAS
  | LS_FAULT_CNT | LED_HR_CTRL | LED_HR_STATUS | LED_HR_RESTART_CNT | LED_COMMIT_MASK | LED_COMMIT | LED_HOLD_TIME | LF_CFG
  | LF_LEVEL | LF_DERATE | LF_CH01 | LF_CH23 | LF_STATUS | PE_CTRL | PE_STATUS | PE_LANE
  | PE_STEP | NTC_CFG | NTC_TEMP | VB_CTRL | VB_STATUS | SEN_SWK_CTRL | SEN_SWK_ID | SEN_SWK_IDMASK
  | SEN_SWK_DATA | SEN_SWK_DMASK | SEN_SWK_ERR | SEN_CANT_HLTH_CTRL | SEN_CANT_HLTH_TERM | SEN_CANT_HLTH_STEP | WR_CFG | WR_FWD_LOCAL
  | WR_STATUS | WR_IN_CNT | WR_OUT_CNT | WR_BLANKED_CNT | PWR_DIE_ID | PWR_ORDER_TOKEN | PWR_FOREIGN_WR_CNT | CH_CMD
  | CH_PWM | CH_CFG | CH_OWNER | CH_ACTIVE_CMD | CH_ACTIVE_PWM | CH_ACTIVE_CFG | CH_STATUS | CH_NOTOWNER_CNT
  | CH_START_CNT | CH_DEFER_CNT | CH_CAPGRANT_CNT | CH_PROT_CFG | CH_WIRE_CFG | CH_LIMP_CFG | CH_PROT_STATUS | CH_WIRE_LEVEL
  | CH_FAULT_REC0 | CH_FAULT_REC1 | CH_FAULT_REC2 | CH_FAULT_TIME | CH_CLAMP | CH_DISABLE | CH_I_AVG | CH_I_MIN
  | CH_I_MAX | CH_I_ON | CH_VOLT | CH_TJ | CH_MEAS_SEQ | CH_ENERGY_LO | CH_ENERGY_HI | CH_CAUSE_CNT
  | CH_OL_CFG | CH_OL_THR | CH_OL_STATUS | CH_LID_CTRL | CH_LID_R | CH_LID_L | CH_LID_C | CH_LID_SHAPE
  | CH_LID_RESULT | PWR_COMMIT_MASK0 | PWR_COMMIT_MASK1 | PWR_COMMIT | PWR_COMMIT_CNT | PWR_COMMIT_OVERRUN_CNT | PWR_PAIR | PWR_PAIR_REFUSED_CNT
  | PWR_HOLD_TIME | PWR_PROT_STATUS | PWR_TIME_LO | PWR_TIME_HI | PWR_DIP_CNT | PWR_STREAM_CTRL | PWR_STREAM_STATUS | PWR_STREAM_DROP_CNT
  | PWR_FEED_AVG | PWR_FEED_RANGE | PWR_TDR_CTRL | PWR_TDR_CFG | PWR_TDR_STATUS | PWR_XC_CTRL | PWR_XC_STATUS | PWR_XC_WATCH0
  | PWR_XC_WATCH1 | PWR_XC_HIT0 | PWR_XC_HIT1 | PWR_HK_STATUS | PWR_LID_SKIP_CNT | PWR_FLASH_CFG | PWR_FLASH_MASK0 | PWR_FLASH_MASK1
  | PWR_FLASH_STATUS | PWR_VB_THR | PWR_SEAL_STATUS | PWR_SEAL_ACK | PWR_SEAL_LOST_CNT | PWR_SEAL_KIND | PWR_SEAL_DATA | IP_HDR
  | IP_SEG | IS_CTRL | IS_BUDGET | IS_STATUS | IS_DEFER_CNT | IS_CAPGRANT_CNT | VG_CFG | VG_STATUS
  | VG_OVERLAP_DEFER_CNT | VG_OVERLAP_TO_CNT | VG_NR_DEFER_CNT | VG_NR_TO_CNT | VG_FEEDPEAK_CNT | VG_PAR_REFUSED_CNT | VLV_PEAK | VLV_HOLD
  | VLV_CFG | VLV_CMD | VLV_STATUS | VLV_MEAS | VLV_CLAMP | VLV_FAULT_CNT | VLV_CODE_CNT | VLV_ON_CNT
  | FLD_DIE_ID | FLD_ORDER_TOKEN | FLD_FOREIGN_WR_CNT | FLD_HOLD_TIME | FLD_IN_STATE | FLD_MODE_REFUSED_CNT | FLD_STATUS | FP_CFG
  | FP_CMD | FP_STATUS | FP_MEAS | FP_CHG_CNT | FP_FAULT_CNT | FLD_SUP_CFG | FLD_SUP_STATUS | FLD_SUP_FAULT_CNT
  | ACC_DIE_ID | ACC_ORDER_TOKEN | ACC_FOREIGN_WR_CNT | ACC_CFG0 | ACC_CFG1 | ACC_CFG2 | ACC_CFG3 | ACC_STATE
  | ACC_LAST | ACC_ENROLLED | ACC_ROUND_CNT | ACC_AUTH_FAIL_CNT | ACC_COLLISION_CNT | ACC_JAM_CNT | ACC_RELEASE_CNT | ACC_UNLOGGED_CNT
  | ACC_TRIG_MERGE_CNT | ACC_ZONE | UWB_STATUS | ACC_SLOT_RES | ACC_SLOT_D01 | ACC_SLOT_D23 | CSR_MHPMEVENT | MSAMP_CTL
  | MSAMP_SEED | MSAMP_PC | MSAMP_LAT0 | MSAMP_LAT1 | CSR_PMPCFG | CSR_PMPADDR | CSR_MCOUNTINHIBIT | CSR_SATP
  | CSR_MISA | CSR_MEDELEG | CSR_MIDELEG | CSR_MCOUNTEREN | CSR_MVENDORID | CSR_MARCHID | CSR_MIMPID | CSR_MHARTID
  deriving DecidableEq, Repr

/-- One register of the map: its name, the address of its first copy, the (count, stride, first index) of each of its
index levels, and the masks of its bits by kind: rw (RW and CNT), rwl (RWL of its block's lock group), rws (RWL that
only a sealing closes), w1p, wo1; every other bit is RO or reserved (R5, R42). reset is the word after its reset. -/
structure RegDesc where
  id : RegId
  base : Nat
  reps : List (Nat × Nat × Nat)
  rw : Nat
  rwl : Nat
  rws : Nat
  w1p : Nat
  wo1 : Nat
  reset : Nat
  deriving DecidableEq, Repr

def sysRegs : List RegDesc := [
  ⟨.SYS_ID, 0x40000000, [], 0, 0, 0, 0, 0, 0x5A000000⟩,
  ⟨.SYS_MODE, 0x40000004, [], 0, 0, 0, 0, 0, 0x55⟩,
  ⟨.SYS_RESET_CAUSE, 0x40000008, [], 0, 0, 0, 0, 0, 1⟩,
  ⟨.SYS_SWRESET, 0x4000000C, [], 0, 0, 0, 0xFFFF0001, 0, 0⟩,
  ⟨.SYS_WDT_CFG, 0x40000010, [], 0, 0x8000FFFF, 0, 0, 0, 0x64⟩,
  ⟨.SYS_WDT_KICK, 0x40000014, [], 0, 0, 0, 1, 0, 0⟩,
  ⟨.SYS_LOCK, 0x40000018, [], 0, 0, 0, 0, 1, 0⟩,
  ⟨.SYS_RESET_CNT, 0x4000001C, [], 0xFFFFFFFF, 0, 0, 0, 0, 0⟩,
  ⟨.SYS_WAKE_CNT, 0x40000020, [], 0xFFFFFFFF, 0, 0, 0, 0, 0⟩,
  ⟨.SYS_PAD_HOLD, 0x40000024, [], 0, 0, 0, 0, 0, 0⟩,
  ⟨.SYS_PAD_RELEASE, 0x40000028, [], 0, 0, 0, 0xFFFFFFFF, 0, 0⟩,
  ⟨.SYS_BOOT_REPORT, 0x40000080, [(32, 0x4, 0)], 0, 0, 0, 0, 0, 0⟩,
  ⟨.SYS_LINK_CTRL, 0x40000120, [(7, 0x20, 1)], 3, 0, 0, 4, 0, 3⟩,
  ⟨.SYS_LINK_STATUS, 0x40000124, [(7, 0x20, 1)], 0, 0, 0, 0, 0, 2⟩,
  ⟨.SYS_LINK_CRCERR_CNT, 0x40000128, [(7, 0x20, 1)], 0xFFFFFFFF, 0, 0, 0, 0, 0⟩,
  ⟨.SYS_LINK_RETRY_CNT, 0x4000012C, [(7, 0x20, 1)], 0xFFFFFFFF, 0, 0, 0, 0, 0⟩,
  ⟨.SYS_LINK_DOWN_CNT, 0x40000130, [(7, 0x20, 1)], 0xFFFFFFFF, 0, 0, 0, 0, 0⟩,
  ⟨.SYS_LINK_UTIL, 0x40000134, [(7, 0x20, 1)], 0, 0, 0, 0, 0, 0⟩,
  ⟨.SYS_CLK_STATUS, 0x40000200, [], 0, 0, 0, 0, 0, 0⟩,
  ⟨.SYS_DRAIN, 0x40000300, [], 0, 0, 0, 0, 0, 0x80000000⟩,
  ⟨.SYS_BUSFAULT, 0x40000304, [], 0, 0, 0, 0, 0, 0⟩,
  ⟨.SYS_BUSFAULT_ADDR, 0x40000308, [], 0, 0, 0, 0, 0, 0⟩,
  ⟨.SYS_BUSFAULT_CNT, 0x4000030C, [], 0xFFFFFFFF, 0, 0, 0, 0, 0⟩,
  ⟨.SYS_LOCKVIOL_CNT, 0x40000340, [(7, 0x4, 0)], 0xFFFF, 0, 0, 0, 0, 0⟩,
  ⟨.SYS_LOCKVIOL_CNT, 0x40000360, [(22, 0x4, 8)], 0xFFFF, 0, 0, 0, 0, 0⟩,
  ⟨.SYS_MTIME_LO, 0x40000400, [], 0xFFFFFFFF, 0, 0, 0, 0, 0⟩,
  ⟨.SYS_MTIME_HI, 0x40000404, [], 0xFFFFFFFF, 0, 0, 0, 0, 0⟩,
  ⟨.SYS_MTIMECMP_LO, 0x40000410, [(4, 0x8, 0)], 0xFFFFFFFF, 0, 0, 0, 0, 0xFFFFFFFF⟩,
  ⟨.SYS_MTIMECMP_HI, 0x40000414, [(4, 0x8, 0)], 0xFFFFFFFF, 0, 0, 0, 0, 0xFFFFFFFF⟩,
  ⟨.SYS_MSIP, 0x40000430, [(4, 0x4, 0)], 1, 0, 0, 0, 0, 0⟩,
  ⟨.SYS_BLK_POWER, 0x40000500, [(19, 0x4, 0)], 0xFFFF, 0, 0, 0, 0, 0x8040⟩,
  ⟨.SYS_LOAD_CMD, 0x40000600, [], 0, 0, 0, 0, 0, 0⟩,
  ⟨.SYS_LOAD_FABRIC, 0x40000604, [], 0, 0, 0, 0, 0, 0⟩,
  ⟨.SYS_LOAD_NVM, 0x40000608, [], 0, 0, 0, 0, 0, 0⟩]

def evrRegs : List RegDesc := [
  ⟨.EVR_ROUTE, 0x40010000, [(256, 0x4, 0)], 0xF7F, 0, 0, 0, 0, 0x110⟩,
  ⟨.EVR_CNT, 0x40010400, [(256, 0x4, 0)], 0xFFFFFFFF, 0, 0, 0, 0, 0⟩,
  ⟨.EVR_SWRAISE, 0x40010800, [], 0, 0, 0, 0xFFFF, 0, 0⟩,
  ⟨.EVR_THRESH, 0x40011000, [(7, 0x100, 0)], 0xF, 0, 0, 0, 0, 0⟩,
  ⟨.EVR_CLAIM, 0x40011004, [(7, 0x100, 0)], 0, 0, 0, 0, 0, 0⟩,
  ⟨.EVR_MERGE_CNT, 0x40011008, [(7, 0x100, 0)], 0xFFFFFFFF, 0, 0, 0, 0, 0⟩,
  ⟨.EVR_PEND, 0x40011020, [(7, 0x100, 0), (8, 0x4, 0)], 0, 0, 0, 0, 0, 0⟩]

def queRegs : List RegDesc := [
  ⟨.Q_CFG, 0x40020000, [(32, 0x40, 0)], 0xFFFFC3FF, 0, 0, 0, 0, 0⟩,
  ⟨.Q_COUNT, 0x40020004, [(32, 0x40, 0)], 0, 0, 0, 0, 0, 0⟩,
  ⟨.Q_PKTS, 0x40020008, [(32, 0x40, 0)], 0, 0, 0, 0, 0, 0⟩,
  ⟨.Q_PKT_CNT, 0x4002000C, [(32, 0x40, 0)], 0xFFFFFFFF, 0, 0, 0, 0, 0⟩,
  ⟨.Q_PUSH, 0x40020010, [(32, 0x40, 0)], 0xFFFFFFFF, 0, 0, 0, 0, 0⟩,
  ⟨.Q_PUSH_EOP, 0x40020014, [(32, 0x40, 0)], 0xFFFFFFFF, 0, 0, 0, 0, 0⟩,
  ⟨.Q_POP, 0x40020018, [(32, 0x40, 0)], 0, 0, 0, 0, 0, 0⟩,
  ⟨.Q_PROD_CTRL, 0x4002001C, [(32, 0x40, 0)], 0, 0, 0, 3, 0, 0⟩,
  ⟨.Q_STATUS, 0x40020020, [(32, 0x40, 0)], 0, 0, 0, 0, 0, 0⟩,
  ⟨.Q_DROP_CNT, 0x40020024, [(32, 0x40, 0)], 0xFFFFFFFF, 0, 0, 0, 0, 0⟩,
  ⟨.Q_REFUSED_CNT, 0x40020028, [(32, 0x40, 0)], 0xFFFFFFFF, 0, 0, 0, 0, 0⟩,
  ⟨.Q_UNDERRUN_CNT, 0x4002002C, [(32, 0x40, 0)], 0xFFFFFFFF, 0, 0, 0, 0, 0⟩]

def hspRegs : List RegDesc := [
  ⟨.HSP_CFG, 0x40030000, [], 0xC0000000, 0x20000000, 0, 0, 0, 0x40000000⟩,
  ⟨.HSP_HOST_BANKS, 0x40030004, [], 0, 0xFFFFFFFF, 0, 0, 0, 0⟩,
  ⟨.HSP_LOCK, 0x40030008, [], 0, 0, 0, 0, 1, 0⟩,
  ⟨.HSP_ERR_INFO, 0x4003000C, [], 0, 0, 0, 0, 0, 0⟩,
  ⟨.HSP_ERR_ADDR, 0x40030010, [], 0, 0, 0, 0, 0, 0⟩,
  ⟨.HSP_FRAME_CNT, 0x40030014, [], 0xFFFFFFFF, 0, 0, 0, 0, 0⟩,
  ⟨.HSP_FRAME_ERR_CNT, 0x40030018, [], 0xFFFFFFFF, 0, 0, 0, 0, 0⟩,
  ⟨.HSP_REFUSED_CNT, 0x4003001C, [], 0xFFFFFFFF, 0, 0, 0, 0, 0⟩,
  ⟨.HSP_FP_SKIP_CNT, 0x40030020, [], 0xFFFFFFFF, 0, 0, 0, 0, 0⟩]

def cdeRegs : List RegDesc := [
  ⟨.CDE_CTRL, 0x40040000, [], 0x8001FFFF, 0, 0, 0, 0, 0x3E8⟩,
  ⟨.CDE_BASE, 0x40040004, [], 0xFFFFFE00, 0, 0, 0, 0, 0⟩,
  ⟨.CDE_SIZE, 0x40040008, [], 0xFFFF, 0, 0, 0, 0, 1⟩,
  ⟨.CDE_WRPTR, 0x4004000C, [], 0xFFFF, 0, 0, 0, 0, 0⟩,
  ⟨.CDE_STATUS, 0x40040010, [], 0, 0, 0, 0, 0, 0⟩,
  ⟨.CDE_SEQ, 0x40040014, [], 0, 0, 0, 0, 0, 0⟩,
  ⟨.CDE_DROP_CNT, 0x40040018, [], 0xFFFFFFFF, 0, 0, 0, 0, 0⟩,
  ⟨.CDE_WRAP_CNT, 0x4004001C, [], 0xFFFFFFFF, 0, 0, 0, 0, 0⟩]

def srcRegs : List RegDesc := [
  ⟨.RET_SEL, 0x40050000, [], 0xFFFFFFFF, 0, 0, 0, 0, 0⟩,
  ⟨.RET_STATUS, 0x40050004, [], 0, 0, 0, 0, 0, 0⟩,
  ⟨.RET_ACK, 0x40050008, [], 0, 0, 0, 0xFFFFFFFF, 0, 0⟩,
  ⟨.RET_CAUSE_SIG, 0x4005000C, [], 0, 0, 0, 0, 0, 0⟩,
  ⟨.RET_CAUSE_DROOP, 0x40050010, [], 0, 0, 0, 0, 0, 0⟩,
  ⟨.RET_KEPT, 0x40050014, [], 0, 0, 0, 0, 0, 0⟩,
  ⟨.RET_LOST_CNT, 0x40050018, [], 0xFFFFFFFF, 0, 0, 0, 0, 0⟩,
  ⟨.SRC_ECC_CORR_CNT, 0x40050100, [], 0xFFFFFFFF, 0, 0, 0, 0, 0⟩,
  ⟨.SRC_ECC_UNCORR_CNT, 0x40050104, [], 0xFFFFFFFF, 0, 0, 0, 0, 0⟩,
  ⟨.SRC_ECC_LAST, 0x40050108, [], 0, 0, 0, 0, 0, 0⟩]

def canRegs : List RegDesc := [
  ⟨.CAN_MODE, 0x40080000, [(9, 0x1000, 0)], 0xF8000000, 0, 0, 0x4000000, 0, 0x50000000⟩,
  ⟨.CAN_NBT, 0x40080004, [(9, 0x1000, 0)], 0xFFFF7F7F, 0, 0, 0, 0, 0x13E0F0F⟩,
  ⟨.CAN_DBT, 0x40080008, [(9, 0x1000, 0)], 0x3F3F1F1F, 0, 0, 0, 0, 0x10E0303⟩,
  ⟨.CAN_TDC, 0x4008000C, [(9, 0x1000, 0)], 0x807F7F00, 0, 0, 0, 0, 0⟩,
  ⟨.CAN_STATUS, 0x40080010, [(9, 0x1000, 0)], 0, 0, 0, 0, 0, 0x18⟩,
  ⟨.CAN_ERR, 0x40080014, [(9, 0x1000, 0)], 0, 0, 0, 0, 0, 0⟩,
  ⟨.CAN_TXREQ, 0x40080020, [(9, 0x1000, 0), (2, 0x4, 0)], 0, 0, 0, 0xFFFFFFFF, 0, 0⟩,
  ⟨.CAN_TXCANCEL, 0x40080028, [(9, 0x1000, 0), (2, 0x4, 0)], 0, 0, 0, 0xFFFFFFFF, 0, 0⟩,
  ⟨.CAN_TXPEND, 0x40080030, [(9, 0x1000, 0), (2, 0x4, 0)], 0, 0, 0, 0, 0, 0⟩,
  ⟨.CAN_RXFULL, 0x40080038, [(9, 0x1000, 0), (2, 0x4, 0)], 0, 0, 0, 0, 0, 0⟩,
  ⟨.CAN_MB_SEL, 0x40080040, [(9, 0x1000, 0)], 0x3F, 0, 0, 0, 0, 0⟩,
  ⟨.CAN_MB_RSV, 0x40080044, [(9, 0x1000, 0), (2, 0x4, 0)], 0xFFFFFFFF, 0, 0, 0, 0, 0⟩,
  ⟨.CAN_MB_OVR_CNT, 0x40080050, [(9, 0x1000, 0)], 0xFFFFFFFF, 0, 0, 0, 0, 0⟩,
  ⟨.CAN_LOCK_TO_CNT, 0x40080054, [(9, 0x1000, 0)], 0xFFFFFFFF, 0, 0, 0, 0, 0⟩,
  ⟨.CAN_RX_NOMATCH_CNT, 0x40080058, [(9, 0x1000, 0)], 0xFFFFFFFF, 0, 0, 0, 0, 0⟩,
  ⟨.CAN_RX_DROP_CNT, 0x4008005C, [(9, 0x1000, 0)], 0xFFFFFFFF, 0, 0, 0, 0, 0⟩,
  ⟨.CAN_ALONE_CNT, 0x40080060, [(9, 0x1000, 0)], 0xFFFFFFFF, 0, 0, 0, 0, 0⟩,
  ⟨.CAN_BUSOFF_CNT, 0x40080064, [(9, 0x1000, 0)], 0xFFFFFFFF, 0, 0, 0, 0, 0⟩,
  ⟨.CAN_MB_W, 0x40080100, [(9, 0x1000, 0), (19, 0x4, 0)], 0xFFFFFFFF, 0, 0, 0, 0, 0⟩,
  ⟨.CAN_FLT_ID, 0x40080200, [(9, 0x1000, 0), (64, 0x8, 0)], 0xBFFFFFFF, 0, 0, 0, 0, 0⟩,
  ⟨.CAN_FLT_MASK, 0x40080204, [(9, 0x1000, 0), (64, 0x8, 0)], 0x1FFFFFFF, 0, 0, 0, 0, 0⟩,
  ⟨.CAN_MB_STAT, 0x40080400, [(9, 0x1000, 0), (64, 0x4, 0)], 0, 0, 0, 0, 0, 0⟩]

def linRegs : List RegDesc := [
  ⟨.LIN_CTRL, 0x40090000, [(4, 0x400, 0)], 0x300, 0, 0, 0x3000, 0, 0⟩,
  ⟨.LIN_CFG, 0x40090004, [(4, 0x400, 0)], 0xFFFF, 0, 0, 0, 0, 0x4B00⟩,
  ⟨.LIN_SCHED_START, 0x40090008, [(4, 0x400, 0)], 0x3F, 0, 0, 0, 0, 0⟩,
  ⟨.LIN_STATUS, 0x4009000C, [(4, 0x400, 0)], 0, 0, 0, 0, 0, 3⟩,
  ⟨.LIN_ERR_CNT, 0x40090010, [(4, 0x400, 0)], 0xFFFFFFFF, 0, 0, 0, 0, 0⟩,
  ⟨.LIN_SCHED_E, 0x40090100, [(4, 0x400, 0), (64, 0x4, 0)], 0xF8F0FF3F, 0, 0, 0, 0, 0⟩,
  ⟨.LIN_RESP_CFG, 0x40090200, [(4, 0x400, 0), (16, 0x10, 0)], 0x88F0003F, 0, 0, 0, 0, 0x100000⟩,
  ⟨.LIN_RESP_D0, 0x40090204, [(4, 0x400, 0), (16, 0x10, 0)], 0xFFFFFFFF, 0, 0, 0, 0, 0⟩,
  ⟨.LIN_RESP_D1, 0x40090208, [(4, 0x400, 0), (16, 0x10, 0)], 0xFFFFFFFF, 0, 0, 0, 0, 0⟩]

def nmhRegs : List RegDesc := [
  ⟨.NM_CTRL, 0x400A0000, [], 0x80FFFFFF, 0, 0, 0, 0, 0⟩,
  ⟨.NM_CFG, 0x400A0004, [], 0xFFFFFFFF, 0, 0, 0, 0, 0x3C05DC⟩,
  ⟨.NM_ID, 0x400A0008, [], 0x9FFFFF00, 0, 0, 0, 0, 0x500⟩,
  ⟨.NM_CYCLE, 0x400A000C, [], 0xFFFF, 0, 0, 0, 0, 0x1F4⟩,
  ⟨.NM_LOCAL, 0x400A0010, [], 1, 0, 0, 0, 0, 0⟩,
  ⟨.NM_STATUS, 0x400A0014, [], 0, 0, 0, 0, 0, 0⟩,
  ⟨.NM_OFF_CLEAR, 0x400A0018, [], 0, 0, 0, 1, 0, 0⟩,
  ⟨.NM_FW_STATUS, 0x400A001C, [], 0, 0, 0, 0, 0, 0⟩,
  ⟨.NM_FALSE_WAKE_CNT, 0x400A0020, [], 0xFFFFFFFF, 0, 0, 0, 0, 0⟩,
  ⟨.NM_BAD_FRAME_CNT, 0x400A0024, [], 0xFFFFFFFF, 0, 0, 0, 0, 0⟩,
  ⟨.NM_OFF_LOST_CNT, 0x400A0028, [], 0xFFFFFFFF, 0, 0, 0, 0, 0⟩,
  ⟨.NM_PRESENT_MAP, 0x400A0040, [(8, 0x4, 0)], 0, 0, 0, 0, 0, 0⟩,
  ⟨.NM_AWAKE_MAP, 0x400A0060, [(8, 0x4, 0)], 0, 0, 0, 0, 0, 0⟩,
  ⟨.NM_OFF_ENTRY, 0x400A0100, [(16, 0x8, 0)], 0, 0, 0, 0, 0, 0⟩,
  ⟨.NM_OFF_DURATION, 0x400A0104, [(16, 0x8, 0)], 0, 0, 0, 0, 0, 0⟩]

def secRegs : List RegDesc := [
  ⟨.SEC_JOB, 0x400C0000, [(1024, 0x4, 0)], 0xFFFFFFFF, 0, 0, 0, 0, 0⟩,
  ⟨.SEC_LOG_HEAD, 0x400C1000, [], 0, 0, 0, 0, 0, 0⟩,
  ⟨.SEC_LOG_MARK, 0x400C1004, [], 0, 0, 0, 0, 0, 0⟩,
  ⟨.SEC_LOG_STATUS, 0x400C1008, [], 0, 0, 0, 0, 0, 0⟩,
  ⟨.SEC_SEAL_SEQ, 0x400C100C, [], 0, 0, 0, 0, 0, 0⟩,
  ⟨.SEC_POLICY, 0x400C1010, [], 0, 0, 0, 0, 0, 0⟩,
  ⟨.SEC_AUTH, 0x400C1014, [], 0, 0, 0, 0, 0, 0⟩,
  ⟨.SEC_AUTH_CNT, 0x400C1018, [], 0, 0, 0, 0, 0, 0⟩,
  ⟨.SEC_SEAL_MAP, 0x400C101C, [], 0, 0, 0, 0, 0, 0⟩,
  ⟨.SEC_FOLD_CNT, 0x400C1020, [], 0, 0, 0, 0, 0, 0⟩,
  ⟨.SEC_LOST_CNT, 0x400C1024, [], 0, 0, 0, 0, 0, 0⟩]

def senRegs0 : List RegDesc := [
  ⟨.SEN_DIE_ID, 0x40100000, [], 0, 0, 0, 0, 0, 0x5A000000⟩,
  ⟨.SEN_ORDER_TOKEN, 0x40100004, [], 0, 0, 0, 0, 0, 0⟩,
  ⟨.SEN_FOREIGN_WR_CNT, 0x40100008, [], 0xFFFF, 0, 0, 0, 0, 0⟩,
  ⟨.SEN_WAKE_SRC, 0x40100100, [], 0, 0, 0, 0, 0, 0⟩,
  ⟨.SEN_WAKE_FIRST, 0x40100104, [], 0, 0, 0, 0, 0, 0⟩,
  ⟨.SEN_WAKE_CNT, 0x40100108, [], 0xFFFFFFFF, 0, 0, 0, 0, 0⟩,
  ⟨.SEN_RAIL, 0x40110100, [(4, 0x4, 0)], 0, 0, 0, 0, 0, 0⟩,
  ⟨.SEN_RTC_LO, 0x40120000, [], 0, 0, 0, 0, 0, 0⟩,
  ⟨.SEN_RTC_HI, 0x40120004, [], 0, 0, 0, 0, 0, 0⟩,
  ⟨.SEN_RTC_STATUS, 0x40120008, [], 0, 0, 0, 0, 0, 1⟩,
  ⟨.PAT_CTRL, 0x40130000, [], 0x3FFF, 0, 0, 0, 0, 0x32⟩,
  ⟨.PAT_EXPECT, 0x40130004, [], 0xFFFFFFFF, 0, 0, 0, 0, 0⟩,
  ⟨.PAT_SNIFF, 0x40130008, [], 0x80FFFFFF, 0, 0, 0, 0, 0xA01F4⟩,
  ⟨.PAT_ALARM, 0x4013000C, [], 0xFFFFFFFF, 0, 0, 0, 0, 0⟩,
  ⟨.PAT_STATUS, 0x40130010, [], 0, 0, 0, 0, 0, 0⟩,
  ⟨.PAT_CYCLE_CNT, 0x40130014, [], 0xFFFFFFFF, 0, 0, 0, 0, 0⟩,
  ⟨.PAT_MISMATCH_CNT, 0x40130018, [], 0xFFFFFFFF, 0, 0, 0, 0, 0⟩,
  ⟨.SI_CFG, 0x40140000, [(64, 0x20, 0)], 0, 0, 0xFFFFFFC0, 0, 0, 0x2022CC0⟩,
  ⟨.SI_THR, 0x40140004, [(64, 0x20, 0)], 0, 0, 0x3FF03FF, 0, 0, 0xC80064⟩,
  ⟨.SI_STATUS, 0x40140008, [(64, 0x20, 0)], 0, 0, 0, 0, 0, 0⟩,
  ⟨.SI_CHG_CNT, 0x4014000C, [(64, 0x20, 0)], 0xFFFFFFFF, 0, 0, 0, 0, 0⟩,
  ⟨.SI_LT_B, 0x40141000, [(8, 0x20, 0), (7, 0x4, 0)], 0x3FF, 0, 0, 0, 0, 0x3FF⟩,
  ⟨.SI_STATE0, 0x40142000, [], 0, 0, 0, 0, 0, 0⟩,
  ⟨.SI_STATE1, 0x40142004, [], 0, 0, 0, 0, 0, 0⟩,
  ⟨.SI_PATROL_REFUSED_CNT, 0x40142008, [], 0xFFFFFFFF, 0, 0, 0, 0, 0⟩,
  ⟨.LS_ISET, 0x40150000, [(24, 0x20, 0)], 0x3FF, 0, 0, 0, 0, 0⟩,
  ⟨.LS_DUTY, 0x40150004, [(24, 0x20, 0)], 0xFFF, 0, 0, 0, 0, 0⟩,
  ⟨.LS_CFG, 0x40150008, [(24, 0x20, 0)], 0xF7FFCFFF, 0, 0, 0, 0, 0xF03C0000⟩,
  ⟨.LS_CAL, 0x4015000C, [(24, 0x20, 0)], 0x7FFFFFF, 0, 0, 0, 0, 0⟩,
  ⟨.LS_CTRL, 0x40150010, [(24, 0x20, 0)], 1, 0, 0, 6, 0, 0⟩,
  ⟨.LS_STATUS, 0x40150014, [(24, 0x20, 0)], 0, 0, 0, 0, 0, 0⟩,
  ⟨.LS_MEAS, 0x40150018, [(24, 0x20, 0)], 0, 0, 0, 0, 0, 0⟩,
  ⟨.LS_FAULT_CNT, 0x4015001C, [(24, 0x20, 0)], 0xFFFFFFFF, 0, 0, 0, 0, 0⟩,
  ⟨.LED_HR_CTRL, 0x40150400, [], 0x83FF00FF, 0, 0, 0x40000000, 0, 0x1E0003C⟩,
  ⟨.LED_HR_STATUS, 0x40150404, [], 0, 0, 0, 0, 0, 0⟩,
  ⟨.LED_HR_RESTART_CNT, 0x40150408, [], 0xFFFFFFFF, 0, 0, 0, 0, 0⟩,
  ⟨.LED_COMMIT_MASK, 0x40150410, [], 0xFFFFFF, 0, 0, 0, 0, 0⟩,
  ⟨.LED_COMMIT, 0x40150414, [], 0, 0, 0, 1, 0, 0⟩,
  ⟨.LED_HOLD_TIME, 0x40150418, [], 0x3FF, 0, 0, 0, 0, 0x32⟩,
  ⟨.LF_CFG, 0x40150500, [(12, 0x20, 0)], 0xF7F00000, 0, 0, 0, 0, 0xF00000⟩]

def senRegs1 : List RegDesc := [
  ⟨.LF_LEVEL, 0x40150504, [(12, 0x20, 0)], 0xFFF, 0, 0, 0, 0, 0⟩,
  ⟨.LF_DERATE, 0x40150508, [(12, 0x20, 0)], 0xFFFFFFFF, 0, 0, 0, 0, 0x879B8080⟩,
  ⟨.LF_CH01, 0x4015050C, [(12, 0x20, 0)], 0x80FF80FF, 0, 0, 0, 0, 0⟩,
  ⟨.LF_CH23, 0x40150510, [(12, 0x20, 0)], 0x80FF80FF, 0, 0, 0, 0, 0⟩,
  ⟨.LF_STATUS, 0x40150514, [(12, 0x20, 0)], 0, 0, 0, 0, 0, 0x4000000⟩,
  ⟨.PE_CTRL, 0x40151000, [(8, 0x200, 0)], 0x3FFF003F, 0, 0, 0xC0000000, 0, 0x1F40000⟩,
  ⟨.PE_STATUS, 0x40151004, [(8, 0x200, 0)], 0, 0, 0, 0, 0, 0⟩,
  ⟨.PE_LANE, 0x40151008, [(8, 0x200, 0), (4, 0x4, 0)], 0, 0, 0, 0, 0, 0⟩,
  ⟨.PE_STEP, 0x40151100, [(8, 0x200, 0), (64, 0x4, 0)], 0xFFFFFFFF, 0, 0, 0, 0, 0⟩,
  ⟨.NTC_CFG, 0x40160000, [(8, 0x10, 0)], 0xFFFFFFFF, 0, 0, 0, 0, 0xD6B0064⟩,
  ⟨.NTC_TEMP, 0x40160004, [(8, 0x10, 0)], 0, 0, 0, 0, 0, 0⟩,
  ⟨.VB_CTRL, 0x40170000, [], 0x800003FF, 0, 0, 0, 0, 0x1E0⟩,
  ⟨.VB_STATUS, 0x40170004, [], 0, 0, 0, 0, 0, 0⟩,
  ⟨.SEN_SWK_CTRL, 0x40180000, [(4, 0x100, 0)], 0xC00F0003, 0, 0, 0, 0, 0x80002⟩,
  ⟨.SEN_SWK_ID, 0x40180004, [(4, 0x100, 0)], 0x3FFFFFFF, 0, 0, 0, 0, 0⟩,
  ⟨.SEN_SWK_IDMASK, 0x40180008, [(4, 0x100, 0)], 0x1FFFFFFF, 0, 0, 0, 0, 0x1FFFFFFF⟩,
  ⟨.SEN_SWK_DATA, 0x4018000C, [(4, 0x100, 0), (2, 0x4, 0)], 0xFFFFFFFF, 0, 0, 0, 0, 0⟩,
  ⟨.SEN_SWK_DMASK, 0x40180014, [(4, 0x100, 0), (2, 0x4, 0)], 0xFFFFFFFF, 0, 0, 0, 0, 0xFFFFFFFF⟩,
  ⟨.SEN_SWK_ERR, 0x4018001C, [(4, 0x100, 0)], 0, 0, 0, 0, 0, 0⟩,
  ⟨.SEN_CANT_HLTH_CTRL, 0x40180080, [(6, 0x100, 0)], 0x7F0000, 0, 0, 3, 0, 0x420000⟩,
  ⟨.SEN_CANT_HLTH_TERM, 0x40180084, [(6, 0x100, 0)], 0, 0, 0, 0, 0, 0⟩,
  ⟨.SEN_CANT_HLTH_STEP, 0x40180088, [(6, 0x100, 0)], 0, 0, 0, 0, 0, 0⟩,
  ⟨.WR_CFG, 0x401A0000, [], 0x8000FFFF, 0, 0, 0, 0, 0x80000532⟩,
  ⟨.WR_FWD_LOCAL, 0x401A0004, [], 0xFFFFFFFF, 0, 0, 0, 0, 0x2B000⟩,
  ⟨.WR_STATUS, 0x401A0008, [], 0, 0, 0, 0, 0, 0⟩,
  ⟨.WR_IN_CNT, 0x401A000C, [], 0xFFFFFFFF, 0, 0, 0, 0, 0⟩,
  ⟨.WR_OUT_CNT, 0x401A0010, [], 0xFFFFFFFF, 0, 0, 0, 0, 0⟩,
  ⟨.WR_BLANKED_CNT, 0x401A0014, [], 0xFFFFFFFF, 0, 0, 0, 0, 0⟩]

def senRegs : List RegDesc := senRegs0 ++ senRegs1

def pwrRegs0 : List RegDesc := [
  ⟨.PWR_DIE_ID, 0x40240000, [(4, 0x80000, 0)], 0, 0, 0, 0, 0, 0x5A000000⟩,
  ⟨.PWR_ORDER_TOKEN, 0x40240004, [(4, 0x80000, 0)], 0, 0, 0, 0, 0, 0⟩,
  ⟨.PWR_FOREIGN_WR_CNT, 0x40240008, [(4, 0x80000, 0)], 0xFFFF, 0, 0, 0, 0, 0⟩,
  ⟨.CH_CMD, 0x40200000, [(4, 0x80000, 0), (48, 0x100, 0)], 0xFFFFF07, 0, 0, 0xC0000000, 0, 0⟩,
  ⟨.CH_PWM, 0x40200004, [(4, 0x80000, 0), (48, 0x100, 0)], 0xFFF7FFFF, 0, 0, 0, 0, 0xC350⟩,
  ⟨.CH_CFG, 0x40200008, [(4, 0x80000, 0), (48, 0x100, 0)], 0x1FF, 0, 0, 0, 0, 0xF6⟩,
  ⟨.CH_OWNER, 0x4020000C, [(4, 0x80000, 0), (48, 0x100, 0)], 0, 0, 0xF, 0, 0, 4⟩,
  ⟨.CH_ACTIVE_CMD, 0x40200010, [(4, 0x80000, 0), (48, 0x100, 0)], 0, 0, 0, 0, 0, 0⟩,
  ⟨.CH_ACTIVE_PWM, 0x40200014, [(4, 0x80000, 0), (48, 0x100, 0)], 0, 0, 0, 0, 0, 0xC350⟩,
  ⟨.CH_ACTIVE_CFG, 0x40200018, [(4, 0x80000, 0), (48, 0x100, 0)], 0, 0, 0, 0, 0, 0xF6⟩,
  ⟨.CH_STATUS, 0x4020001C, [(4, 0x80000, 0), (48, 0x100, 0)], 0, 0, 0, 0, 0, 0⟩,
  ⟨.CH_NOTOWNER_CNT, 0x40200020, [(4, 0x80000, 0), (48, 0x100, 0)], 0xFFFFFFFF, 0, 0, 0, 0, 0⟩,
  ⟨.CH_START_CNT, 0x40200024, [(4, 0x80000, 0), (48, 0x100, 0)], 0xFFFFFFFF, 0, 0, 0, 0, 0⟩,
  ⟨.CH_DEFER_CNT, 0x40200028, [(4, 0x80000, 0), (48, 0x100, 0)], 0xFFFFFFFF, 0, 0, 0, 0, 0⟩,
  ⟨.CH_CAPGRANT_CNT, 0x4020002C, [(4, 0x80000, 0), (48, 0x100, 0)], 0xFFFFFFFF, 0, 0, 0, 0, 0⟩,
  ⟨.CH_PROT_CFG, 0x40200030, [(4, 0x80000, 0), (48, 0x100, 0)], 0, 0, 0xFFFF0F00, 0, 0, 0x140A0300⟩,
  ⟨.CH_WIRE_CFG, 0x40200034, [(4, 0x80000, 0), (48, 0x100, 0)], 0, 0, 0x8FFF03FF, 0, 0, 0x80000000⟩,
  ⟨.CH_LIMP_CFG, 0x40200038, [(4, 0x80000, 0), (48, 0x100, 0)], 0, 0, 3, 0, 0, 0⟩,
  ⟨.CH_PROT_STATUS, 0x4020003C, [(4, 0x80000, 0), (48, 0x100, 0)], 0, 0, 0, 0, 0, 0⟩,
  ⟨.CH_WIRE_LEVEL, 0x40200040, [(4, 0x80000, 0), (48, 0x100, 0)], 0, 0, 0, 0, 0, 0⟩,
  ⟨.CH_FAULT_REC0, 0x40200044, [(4, 0x80000, 0), (48, 0x100, 0)], 0, 0, 0, 0, 0, 0⟩,
  ⟨.CH_FAULT_REC1, 0x40200048, [(4, 0x80000, 0), (48, 0x100, 0)], 0, 0, 0, 0, 0, 0⟩,
  ⟨.CH_FAULT_REC2, 0x4020004C, [(4, 0x80000, 0), (48, 0x100, 0)], 0, 0, 0, 0, 0, 0⟩,
  ⟨.CH_FAULT_TIME, 0x40200050, [(4, 0x80000, 0), (48, 0x100, 0)], 0, 0, 0, 0, 0, 0⟩,
  ⟨.CH_CLAMP, 0x40200054, [(4, 0x80000, 0), (48, 0x100, 0)], 0, 0, 0, 0, 0, 0⟩,
  ⟨.CH_DISABLE, 0x40200058, [(4, 0x80000, 0), (48, 0x100, 0)], 0, 0, 3, 0, 0, 0⟩,
  ⟨.CH_I_AVG, 0x40200060, [(4, 0x80000, 0), (48, 0x100, 0)], 0, 0, 0, 0, 0, 0⟩,
  ⟨.CH_I_MIN, 0x40200064, [(4, 0x80000, 0), (48, 0x100, 0)], 0, 0, 0, 0, 0, 0⟩,
  ⟨.CH_I_MAX, 0x40200068, [(4, 0x80000, 0), (48, 0x100, 0)], 0, 0, 0, 0, 0, 0⟩,
  ⟨.CH_I_ON, 0x4020006C, [(4, 0x80000, 0), (48, 0x100, 0)], 0, 0, 0, 0, 0, 0⟩,
  ⟨.CH_VOLT, 0x40200070, [(4, 0x80000, 0), (48, 0x100, 0)], 0, 0, 0, 0, 0, 0⟩,
  ⟨.CH_TJ, 0x40200074, [(4, 0x80000, 0), (48, 0x100, 0)], 0, 0, 0, 0, 0, 0⟩,
  ⟨.CH_MEAS_SEQ, 0x40200078, [(4, 0x80000, 0), (48, 0x100, 0)], 0, 0, 0, 0, 0, 0⟩,
  ⟨.CH_ENERGY_LO, 0x40200080, [(4, 0x80000, 0), (48, 0x100, 0)], 0xFFFFFFFF, 0, 0, 0, 0, 0⟩,
  ⟨.CH_ENERGY_HI, 0x40200084, [(4, 0x80000, 0), (48, 0x100, 0)], 0xFFFFFFFF, 0, 0, 0, 0, 0⟩,
  ⟨.CH_CAUSE_CNT, 0x402000A0, [(4, 0x80000, 0), (48, 0x100, 0), (1, 0x4, 0)], 0xFFFFFF00, 0, 0, 0, 0, 0⟩,
  ⟨.CH_CAUSE_CNT, 0x402000A4, [(4, 0x80000, 0), (48, 0x100, 0), (2, 0x4, 1)], 0xFFFFFFFF, 0, 0, 0, 0, 0⟩,
  ⟨.CH_CAUSE_CNT, 0x402000AC, [(4, 0x80000, 0), (48, 0x100, 0), (1, 0x4, 3)], 0xFFFF, 0, 0, 0, 0, 0⟩,
  ⟨.CH_OL_CFG, 0x402000B0, [(4, 0x80000, 0), (48, 0x100, 0)], 0xFFFFFFFF, 0, 0, 0, 0, 0xD330A100⟩,
  ⟨.CH_OL_THR, 0x402000B4, [(4, 0x80000, 0), (48, 0x100, 0)], 0x3FF, 0, 0, 0, 0, 0⟩,
  ⟨.CH_OL_STATUS, 0x402000B8, [(4, 0x80000, 0), (48, 0x100, 0)], 0, 0, 0, 0, 0, 0⟩,
  ⟨.CH_LID_CTRL, 0x402000BC, [(4, 0x80000, 0), (48, 0x100, 0)], 0x80000000, 0, 0, 0, 0, 0⟩]

def pwrRegs1 : List RegDesc := [
  ⟨.CH_LID_R, 0x402000C0, [(4, 0x80000, 0), (48, 0x100, 0)], 0, 0, 0, 0, 0, 0⟩,
  ⟨.CH_LID_L, 0x402000C4, [(4, 0x80000, 0), (48, 0x100, 0)], 0, 0, 0, 0, 0, 0⟩,
  ⟨.CH_LID_C, 0x402000C8, [(4, 0x80000, 0), (48, 0x100, 0)], 0, 0, 0, 0, 0, 0⟩,
  ⟨.CH_LID_SHAPE, 0x402000CC, [(4, 0x80000, 0), (48, 0x100, 0)], 0, 0, 0, 0, 0, 0⟩,
  ⟨.CH_LID_RESULT, 0x402000D0, [(4, 0x80000, 0), (48, 0x100, 0)], 0, 0, 0, 0, 0, 0⟩,
  ⟨.PWR_COMMIT_MASK0, 0x40240100, [(4, 0x80000, 0)], 0xFFFFFFFF, 0, 0, 0, 0, 0⟩,
  ⟨.PWR_COMMIT_MASK1, 0x40240104, [(4, 0x80000, 0)], 0xFFFF, 0, 0, 0, 0, 0⟩,
  ⟨.PWR_COMMIT, 0x40240108, [(4, 0x80000, 0)], 2, 0, 0, 1, 0, 0⟩,
  ⟨.PWR_COMMIT_CNT, 0x4024010C, [(4, 0x80000, 0)], 0xFFFFFFFF, 0, 0, 0, 0, 0⟩,
  ⟨.PWR_COMMIT_OVERRUN_CNT, 0x40240110, [(4, 0x80000, 0)], 0xFFFFFFFF, 0, 0, 0, 0, 0⟩,
  ⟨.PWR_PAIR, 0x40240200, [(4, 0x80000, 0)], 0xFFFFFF, 0, 0, 0, 0, 0⟩,
  ⟨.PWR_PAIR_REFUSED_CNT, 0x40240204, [(4, 0x80000, 0)], 0xFFFFFFFF, 0, 0, 0, 0, 0⟩,
  ⟨.PWR_HOLD_TIME, 0x40240300, [(4, 0x80000, 0)], 0x3FF, 0, 0, 0, 0, 0x32⟩,
  ⟨.PWR_PROT_STATUS, 0x40240304, [(4, 0x80000, 0)], 0, 0, 0, 0, 0, 0⟩,
  ⟨.PWR_TIME_LO, 0x40240308, [(4, 0x80000, 0)], 0, 0, 0, 0, 0, 0⟩,
  ⟨.PWR_TIME_HI, 0x4024030C, [(4, 0x80000, 0)], 0, 0, 0, 0, 0, 0⟩,
  ⟨.PWR_DIP_CNT, 0x40240310, [(4, 0x80000, 0)], 0xFFFFFFFF, 0, 0, 0, 0, 0⟩,
  ⟨.PWR_STREAM_CTRL, 0x40240400, [(4, 0x80000, 0)], 0x8000073F, 0, 0, 0, 0, 0⟩,
  ⟨.PWR_STREAM_STATUS, 0x40240404, [(4, 0x80000, 0)], 0, 0, 0, 0, 0, 0⟩,
  ⟨.PWR_STREAM_DROP_CNT, 0x40240408, [(4, 0x80000, 0)], 0xFFFFFFFF, 0, 0, 0, 0, 0⟩,
  ⟨.PWR_FEED_AVG, 0x40240500, [(4, 0x80000, 0)], 0, 0, 0, 0, 0, 0⟩,
  ⟨.PWR_FEED_RANGE, 0x40240504, [(4, 0x80000, 0)], 0, 0, 0, 0, 0, 0⟩,
  ⟨.PWR_TDR_CTRL, 0x40240600, [(4, 0x80000, 0)], 0x3FFF, 0, 0, 0xC0000000, 0, 0x3E⟩,
  ⟨.PWR_TDR_CFG, 0x40240604, [(4, 0x80000, 0)], 0x7F7F, 0, 0, 0, 0, 0x1005⟩,
  ⟨.PWR_TDR_STATUS, 0x40240608, [(4, 0x80000, 0)], 0, 0, 0, 0, 0, 0⟩,
  ⟨.PWR_XC_CTRL, 0x40240700, [(4, 0x80000, 0)], 0x3F, 0, 0, 0x80000000, 0, 0⟩,
  ⟨.PWR_XC_STATUS, 0x40240704, [(4, 0x80000, 0)], 0, 0, 0, 0, 0, 0⟩,
  ⟨.PWR_XC_WATCH0, 0x40240708, [(4, 0x80000, 0)], 0, 0, 0, 0, 0, 0⟩,
  ⟨.PWR_XC_WATCH1, 0x4024070C, [(4, 0x80000, 0)], 0, 0, 0, 0, 0, 0⟩,
  ⟨.PWR_XC_HIT0, 0x40240710, [(4, 0x80000, 0)], 0, 0, 0, 0, 0, 0⟩,
  ⟨.PWR_XC_HIT1, 0x40240714, [(4, 0x80000, 0)], 0, 0, 0, 0, 0, 0⟩,
  ⟨.PWR_HK_STATUS, 0x40240800, [(4, 0x80000, 0)], 0, 0, 0, 0, 0, 0x320000⟩,
  ⟨.PWR_LID_SKIP_CNT, 0x40240804, [(4, 0x80000, 0)], 0xFFFFFFFF, 0, 0, 0, 0, 0⟩,
  ⟨.PWR_FLASH_CFG, 0x40240900, [(4, 0x80000, 0), (4, 0x10, 0)], 0xFC0FFFFF, 0, 0, 0, 0, 0x5354D⟩,
  ⟨.PWR_FLASH_MASK0, 0x40240904, [(4, 0x80000, 0), (4, 0x10, 0)], 0xFFFFFFFF, 0, 0, 0, 0, 0⟩,
  ⟨.PWR_FLASH_MASK1, 0x40240908, [(4, 0x80000, 0), (4, 0x10, 0)], 0xFFFFFFFF, 0, 0, 0, 0, 0⟩,
  ⟨.PWR_FLASH_STATUS, 0x4024090C, [(4, 0x80000, 0), (4, 0x10, 0)], 0, 0, 0, 0, 0, 0⟩,
  ⟨.PWR_VB_THR, 0x40240A00, [(4, 0x80000, 0)], 0x3FF, 0, 0, 0, 0, 0x1B0⟩,
  ⟨.PWR_SEAL_STATUS, 0x403C0B00, [], 0, 0, 0, 0, 0, 0⟩,
  ⟨.PWR_SEAL_ACK, 0x403C0B04, [], 0, 0, 0, 0xFFFF, 0, 0⟩]

def pwrRegs2 : List RegDesc := [
  ⟨.PWR_SEAL_LOST_CNT, 0x403C0B08, [], 0, 0, 0, 0, 0, 0⟩,
  ⟨.PWR_SEAL_KIND, 0x403C0C00, [(16, 0x20, 0)], 0, 0, 0, 0, 0, 0⟩,
  ⟨.PWR_SEAL_DATA, 0x403C0C04, [(16, 0x20, 0), (4, 0x4, 0)], 0, 0, 0, 0, 0, 0⟩,
  ⟨.IP_HDR, 0x40250000, [(4, 0x80000, 0), (16, 0x100, 0)], 0xFF0F, 0, 0, 0, 0, 0x8200⟩,
  ⟨.IP_SEG, 0x40250004, [(4, 0x80000, 0), (16, 0x100, 0), (8, 0x4, 0)], 0x7FFFFF, 0, 0, 0, 0, 0⟩,
  ⟨.IS_CTRL, 0x40260000, [(4, 0x80000, 0)], 0x1FF, 0, 0, 0, 0, 0x114⟩,
  ⟨.IS_BUDGET, 0x40260004, [(4, 0x80000, 0)], 0xFFF, 0, 0, 0, 0, 0x640⟩,
  ⟨.IS_STATUS, 0x40260008, [(4, 0x80000, 0)], 0, 0, 0, 0, 0, 0⟩,
  ⟨.IS_DEFER_CNT, 0x4026000C, [(4, 0x80000, 0)], 0xFFFFFFFF, 0, 0, 0, 0, 0⟩,
  ⟨.IS_CAPGRANT_CNT, 0x40260010, [(4, 0x80000, 0)], 0xFFFFFFFF, 0, 0, 0, 0, 0⟩,
  ⟨.VG_CFG, 0x40270000, [(4, 0x80000, 0), (2, 0x1000, 0)], 0x80FF01FF, 0, 0, 0, 0, 0xA0014⟩,
  ⟨.VG_STATUS, 0x40270004, [(4, 0x80000, 0), (2, 0x1000, 0)], 0, 0, 0, 0, 0, 0⟩,
  ⟨.VG_OVERLAP_DEFER_CNT, 0x40270010, [(4, 0x80000, 0), (2, 0x1000, 0)], 0xFFFFFFFF, 0, 0, 0, 0, 0⟩,
  ⟨.VG_OVERLAP_TO_CNT, 0x40270014, [(4, 0x80000, 0), (2, 0x1000, 0)], 0xFFFFFFFF, 0, 0, 0, 0, 0⟩,
  ⟨.VG_NR_DEFER_CNT, 0x40270018, [(4, 0x80000, 0), (2, 0x1000, 0)], 0xFFFFFFFF, 0, 0, 0, 0, 0⟩,
  ⟨.VG_NR_TO_CNT, 0x4027001C, [(4, 0x80000, 0), (2, 0x1000, 0)], 0xFFFFFFFF, 0, 0, 0, 0, 0⟩,
  ⟨.VG_FEEDPEAK_CNT, 0x40270020, [(4, 0x80000, 0), (2, 0x1000, 0)], 0xFFFFFFFF, 0, 0, 0, 0, 0⟩,
  ⟨.VG_PAR_REFUSED_CNT, 0x40270024, [(4, 0x80000, 0), (2, 0x1000, 0)], 0xFFFFFFFF, 0, 0, 0, 0, 0⟩,
  ⟨.VLV_PEAK, 0x40270100, [(4, 0x80000, 0), (2, 0x1000, 0), (2, 0x40, 0)], 0xFFFF03FF, 0, 0, 0, 0, 0x3200C8⟩,
  ⟨.VLV_HOLD, 0x40270104, [(4, 0x80000, 0), (2, 0x1000, 0), (2, 0x40, 0)], 0xFFFF00FF, 0, 0, 0, 0, 0x320032⟩,
  ⟨.VLV_CFG, 0x40270108, [(4, 0x80000, 0), (2, 0x1000, 0), (2, 0x40, 0)], 0xF0000FFF, 0, 0, 0, 0, 0xC0000000⟩,
  ⟨.VLV_CMD, 0x4027010C, [(4, 0x80000, 0), (2, 0x1000, 0), (2, 0x40, 0)], 1, 0, 0, 2, 0, 0⟩,
  ⟨.VLV_STATUS, 0x40270110, [(4, 0x80000, 0), (2, 0x1000, 0), (2, 0x40, 0)], 0, 0, 0, 0, 0, 0⟩,
  ⟨.VLV_MEAS, 0x40270114, [(4, 0x80000, 0), (2, 0x1000, 0), (2, 0x40, 0)], 0, 0, 0, 0, 0, 0⟩,
  ⟨.VLV_CLAMP, 0x40270118, [(4, 0x80000, 0), (2, 0x1000, 0), (2, 0x40, 0)], 0, 0, 0, 0, 0, 0⟩,
  ⟨.VLV_FAULT_CNT, 0x4027011C, [(4, 0x80000, 0), (2, 0x1000, 0), (2, 0x40, 0)], 0xFFFFFFFF, 0, 0, 0, 0, 0⟩,
  ⟨.VLV_CODE_CNT, 0x40270120, [(4, 0x80000, 0), (2, 0x1000, 0), (2, 0x40, 0)], 0xFFFFFF, 0, 0, 0, 0, 0⟩,
  ⟨.VLV_ON_CNT, 0x40270124, [(4, 0x80000, 0), (2, 0x1000, 0), (2, 0x40, 0)], 0xFFFFFFFF, 0, 0, 0, 0, 0⟩]

def pwrRegs : List RegDesc := pwrRegs0 ++ pwrRegs1 ++ pwrRegs2

def fldRegs : List RegDesc := [
  ⟨.FLD_DIE_ID, 0x40400000, [], 0, 0, 0, 0, 0, 0x5A000000⟩,
  ⟨.FLD_ORDER_TOKEN, 0x40400004, [], 0, 0, 0, 0, 0, 0⟩,
  ⟨.FLD_FOREIGN_WR_CNT, 0x40400008, [], 0xFFFF, 0, 0, 0, 0, 0⟩,
  ⟨.FLD_HOLD_TIME, 0x40400100, [], 0x3FF, 0, 0, 0, 0, 0x32⟩,
  ⟨.FLD_IN_STATE, 0x40400104, [], 0, 0, 0, 0, 0, 0⟩,
  ⟨.FLD_MODE_REFUSED_CNT, 0x40400108, [], 0xFFFFFFFF, 0, 0, 0, 0, 0⟩,
  ⟨.FLD_STATUS, 0x4040010C, [], 0, 0, 0, 0, 0, 0⟩,
  ⟨.FP_CFG, 0x40410000, [(32, 0x100, 0)], 0xFFF8FFFF, 0, 0, 0, 0, 0x49481E32⟩,
  ⟨.FP_CMD, 0x40410004, [(32, 0x100, 0)], 1, 0, 0, 2, 0, 0⟩,
  ⟨.FP_STATUS, 0x40410008, [(32, 0x100, 0)], 0, 0, 0, 0, 0, 0⟩,
  ⟨.FP_MEAS, 0x4041000C, [(32, 0x100, 0)], 0, 0, 0, 0, 0, 0⟩,
  ⟨.FP_CHG_CNT, 0x40410010, [(32, 0x100, 0)], 0xFFFFFFFF, 0, 0, 0, 0, 0⟩,
  ⟨.FP_FAULT_CNT, 0x40410014, [(32, 0x100, 0)], 0xFFFFFFFF, 0, 0, 0, 0, 0⟩,
  ⟨.FLD_SUP_CFG, 0x40420000, [], 0x81FF01FF, 0, 0, 0, 0, 0x14A00B4⟩,
  ⟨.FLD_SUP_STATUS, 0x40420004, [], 0, 0, 0, 0, 0, 0⟩,
  ⟨.FLD_SUP_FAULT_CNT, 0x40420008, [], 0xFFFFFFFF, 0, 0, 0, 0, 0⟩]

def accRegs : List RegDesc := [
  ⟨.ACC_DIE_ID, 0x40480000, [], 0, 0, 0, 0, 0, 0x5A000000⟩,
  ⟨.ACC_ORDER_TOKEN, 0x40480004, [], 0, 0, 0, 0, 0, 0⟩,
  ⟨.ACC_FOREIGN_WR_CNT, 0x40480008, [], 0xFFFF, 0, 0, 0, 0, 0⟩,
  ⟨.ACC_CFG0, 0x40480100, [], 0xFF00F0FF, 0, 0, 0, 0, 0x150000BB⟩,
  ⟨.ACC_CFG1, 0x40480104, [], 0xFFC0FFC0, 0, 0, 0, 0, 0⟩,
  ⟨.ACC_CFG2, 0x40480108, [], 0xBFFFC000, 0, 0, 0, 0, 0⟩,
  ⟨.ACC_CFG3, 0x4048010C, [], 0xF0FF07FF, 0, 0, 0, 0, 0xA0000⟩,
  ⟨.ACC_STATE, 0x40480110, [], 0, 0, 0, 0, 0, 0⟩,
  ⟨.ACC_LAST, 0x40480114, [], 0, 0, 0, 0, 0, 0xFF0000⟩,
  ⟨.ACC_ENROLLED, 0x40480118, [], 0, 0, 0, 0, 0, 0⟩,
  ⟨.ACC_ROUND_CNT, 0x40480120, [], 0xFFFFFFFF, 0, 0, 0, 0, 0⟩,
  ⟨.ACC_AUTH_FAIL_CNT, 0x40480124, [], 0xFFFFFFFF, 0, 0, 0, 0, 0⟩,
  ⟨.ACC_COLLISION_CNT, 0x40480128, [], 0xFFFFFFFF, 0, 0, 0, 0, 0⟩,
  ⟨.ACC_JAM_CNT, 0x4048012C, [], 0xFFFFFFFF, 0, 0, 0, 0, 0⟩,
  ⟨.ACC_RELEASE_CNT, 0x40480130, [], 0xFFFFFFFF, 0, 0, 0, 0, 0⟩,
  ⟨.ACC_UNLOGGED_CNT, 0x40480134, [], 0xFFFFFFFF, 0, 0, 0, 0, 0⟩,
  ⟨.ACC_TRIG_MERGE_CNT, 0x40480138, [], 0xFFFFFFFF, 0, 0, 0, 0, 0⟩,
  ⟨.ACC_ZONE, 0x40480200, [(8, 0x4, 0)], 0xFC0FFFFF, 0, 0, 0, 0, 0⟩,
  ⟨.UWB_STATUS, 0x40490000, [], 0, 0, 0, 0, 0, 0⟩,
  ⟨.ACC_SLOT_RES, 0x404A0000, [(10, 0x10, 0)], 0, 0, 0, 0, 0, 0xF000000⟩,
  ⟨.ACC_SLOT_D01, 0x404A0004, [(10, 0x10, 0)], 0, 0, 0, 0, 0, 0xFFFFFFFF⟩,
  ⟨.ACC_SLOT_D23, 0x404A0008, [(10, 0x10, 0)], 0, 0, 0, 0, 0, 0xFFFFFFFF⟩]

def csrRegs : List RegDesc := [
  ⟨.CSR_MHPMEVENT, 0x100000C8C, [(4, 0x4000, 0), (12, 0x4, 3)], 0x7FF0FF00, 0, 0, 0, 0, 0⟩,
  ⟨.MSAMP_CTL, 0x100001F00, [(4, 0x4000, 0)], 0xC0FFFFFF, 0, 0, 0, 0, 1⟩,
  ⟨.MSAMP_SEED, 0x100001F04, [(4, 0x4000, 0)], 0xFFFF, 0, 0, 0, 0, 0xACE1⟩,
  ⟨.MSAMP_PC, 0x100001F08, [(4, 0x4000, 0)], 0, 0, 0, 0, 0, 0⟩,
  ⟨.MSAMP_LAT0, 0x100001F0C, [(4, 0x4000, 0)], 0, 0, 0, 0, 0, 0⟩,
  ⟨.MSAMP_LAT1, 0x100001F10, [(4, 0x4000, 0)], 0, 0, 0, 0, 0, 0⟩,
  ⟨.CSR_PMPCFG, 0x100000E80, [(4, 0x4000, 0), (4, 0x4, 0)], 0xFFFFFFFF, 0, 0, 0, 0, 0⟩,
  ⟨.CSR_PMPADDR, 0x100000EC0, [(4, 0x4000, 0), (16, 0x4, 0)], 0xFFFFFFFF, 0, 0, 0, 0, 0⟩,
  ⟨.CSR_MCOUNTINHIBIT, 0x100000C80, [(4, 0x4000, 0)], 0x7FFD, 0, 0, 0, 0, 0⟩,
  ⟨.CSR_SATP, 0x100000600, [(4, 0x4000, 0)], 0, 0, 0, 0, 0, 0⟩,
  ⟨.CSR_MISA, 0x100000C04, [(4, 0x4000, 0)], 0, 0, 0, 0, 0, 0x40101125⟩,
  ⟨.CSR_MEDELEG, 0x100000C08, [(4, 0x4000, 0)], 0, 0, 0, 0, 0, 0⟩,
  ⟨.CSR_MIDELEG, 0x100000C0C, [(4, 0x4000, 0)], 0, 0, 0, 0, 0, 0⟩,
  ⟨.CSR_MCOUNTEREN, 0x100000C18, [(4, 0x4000, 0)], 0, 0, 0, 0, 0, 0⟩,
  ⟨.CSR_MVENDORID, 0x100003C44, [(4, 0x4000, 0)], 0, 0, 0, 0, 0, 0⟩,
  ⟨.CSR_MARCHID, 0x100003C48, [(4, 0x4000, 0)], 0, 0, 0, 0, 0, 0x80005A08⟩,
  ⟨.CSR_MIMPID, 0x100003C4C, [(4, 0x4000, 0)], 0, 0, 0, 0, 0, 0x10000⟩,
  ⟨.CSR_MHARTID, 0x100003C50, [(4, 0x4000, 0)], 0, 0, 0, 0, 0, 0⟩]

/-- The blocks of the address map, each with the range its registers lie in and its descriptors (R31). -/
def regBlocks : List (Nat × Nat × List RegDesc) := [
  (0x40000000, 0x40010000, sysRegs), (0x40010000, 0x40020000, evrRegs), (0x40020000, 0x40030000, queRegs),
  (0x40030000, 0x40040000, hspRegs), (0x40040000, 0x40050000, cdeRegs), (0x40050000, 0x40060000, srcRegs),
  (0x40080000, 0x40089000, canRegs), (0x40090000, 0x40091000, linRegs), (0x400A0000, 0x400B0000, nmhRegs),
  (0x400C0000, 0x400D0000, secRegs), (0x40100000, 0x40200000, senRegs), (0x40200000, 0x40400000, pwrRegs),
  (0x40400000, 0x40480000, fldRegs), (0x40480000, 0x40500000, accRegs), (0x100000000, 0x100010000, csrRegs)]

/-- The indices of the copy at offset o of a register with these index levels, if o is one of its copies. -/
def repIndex : List (Nat × Nat × Nat) → Nat → Option (List Nat)
  | [], o => if o = 0 then some [] else none
  | (n, s, f) :: l, o => if o / s < n then (repIndex l (o % s)).map ((f + o / s) :: ·) else none

/-- The register at address a of a list of descriptors, with its indices. -/
def findIn : List RegDesc → Nat → Option (RegDesc × List Nat)
  | [], _ => none
  | d :: l, a => if d.base ≤ a then
      match repIndex d.reps (a - d.base) with
      | some ix => some (d, ix)
      | none => findIn l a
    else findIn l a

/-- The descriptors of the block that address a lies in. -/
def blockDescs : List (Nat × Nat × List RegDesc) → Nat → List RegDesc
  | [], _ => []
  | (lo, hi, ds) :: l, a => if lo ≤ a ∧ a < hi then ds else blockDescs l a

/-- The register at address a, with its indices; none at an unassigned offset (R6). -/
def findReg (a : Nat) : Option (RegDesc × List Nat) := findIn (blockDescs regBlocks a) a

/-- R70: the class of a local channel: 0 for H, 1 for M, 2 for L. -/
def chClass (l : Nat) : Nat := if l < 8 then 0 else if l < 24 then 1 else 2

/-- R151: CH188 to CH191 are the sealed channels. -/
def isSealed (ch : Nat) : Bool := 188 ≤ ch && ch < 192

/-- R104: the presets, as lists of (ceiling in percent, duration in 10 µs). -/
def presetSegs : Nat → List (Nat × Nat)
  | 0 => [(100, 200), (60, 800), (30, 4000)]
  | 1 => [(50, 20), (20, 200)]
  | 2 => [(80, 2000), (50, 8000), (30, 20000)]
  | 3 => [(60, 5000), (40, 45000)]
  | 4 => [(40, 500), (25, 4500)]
  | 5 => [(100, 10), (50, 50), (20, 400)]
  | 6 => [(100, 100), (50, 900)]
  | _ => []

/-- R333: producer and consumer codes of queue q at reset (0xF: hardware, 0x9: none). -/
def queueRoles (q : Nat) : Nat × Nat :=
  if q = 0 then (5, 4) else if q = 1 then (4, 5) else if q < 6 then (q - 2, 4) else if q < 10 then (4, q - 6)
  else if q = 19 then (0xF, 4) else if q < 29 then (0xF, 0) else if q = 29 then (4, 5) else (9, 9)

/-- The reset value of a register's copy, where the spec gives it per die, class, channel, profile or queue; else its
descriptor's value. SILICON and the revision byte of SYS_ID are of the silicon (Config). -/
def resetOf (d : RegDesc) (ix : List Nat) : Word :=
  match d.id, ix with
  | .SYS_ID, _ => F.SYS_ID_ID.of (0x5A000000 + (Config.siliconRev 0).toNat)
  | .SEN_DIE_ID, _ => F.SEN_DIE_ID_SILICON.put (.ofNat 32 0x5A010100) (Config.siliconRev 1).toNat
  | .PWR_DIE_ID, n :: _ => F.PWR_DIE_ID_SILICON.put (.ofNat 32 (0x5A000200 + (n + 2) * 0x10000)) (Config.siliconRev (n + 2)).toNat
  | .FLD_DIE_ID, _ => F.FLD_DIE_ID_SILICON.put (.ofNat 32 0x5A060300) (Config.siliconRev 6).toNat
  | .ACC_DIE_ID, _ => F.ACC_DIE_ID_SILICON.put (.ofNat 32 0x5A070400) (Config.siliconRev 7).toNat
  | .CH_OWNER, n :: l :: _ => .ofNat 32 (if n * 48 + l = 187 then 6 else 4)
  | .CH_STATUS, n :: l :: _ =>
    .ofNat 32 ((if isSealed (n * 48 + l) then 0x10000 else 0) + (if n * 48 + l = 187 then 0x8000 else 0))
  | .CH_LIMP_CFG, n :: l :: _ => .ofNat 32 (if isSealed (n * 48 + l) then 1 else 0)
  | .CH_WIRE_CFG, _ :: l :: _ =>
    .ofNat 32 (0x80000000 + (match chClass l with
      | 0 => 550 * 0x10000 + 270 | 1 => 280 * 0x10000 + 160 | _ => 160 * 0x10000 + 100))
  | .CH_OL_THR, _ :: l :: _ => .ofNat 32 (match chClass l with | 0 => 300 | 1 => 100 | _ => 20)
  | .CH_PROT_STATUS, n :: l :: _ => .ofNat 32 (if n = 3 ∧ 46 ≤ l then 0x80 else 0)
  | .IP_HDR, _ :: k :: _ => .ofNat 32 (130 * 256 + (presetSegs k).length)
  | .IP_SEG, _ :: k :: s :: _ => match (presetSegs k)[s]? with | some (c, t) => .ofNat 32 (c * 0x10000 + t) | none => 0
  | .Q_CFG, q :: _ => .ofNat 32 ((queueRoles q).1 * 2 ^ 27 + (queueRoles q).2 * 2 ^ 23)
  | .CSR_MHARTID, c :: _ => .ofNat 32 c
  | _, _ => .ofNat 32 d.reset

/-- What the register at address a holds after its reset; 0 at an unassigned offset (R6). -/
def resetWord (a : Nat) : Word := match findReg a with | some (d, ix) => resetOf d ix | none => 0

end Sys2Proof.Machine
end

