-- ==== Sys2Proof/Machine/Ops.lean ====
section
/-! DEFINITION. The named operations of the module that every family uses: reading and writing registers and fields,
counting, raising events, bus errors and lock violations, requests and their answers, links and posted writes. -/

namespace Sys2Proof.Machine
open Sys2Proof

/-! ### Registers -/

/-- A value as a field of maximum hi shows it; free where the format cannot hold it (Config.outOfFormat). Assumption log 35 (DESIGN CHOICE). -/
def fitted (hi : Nat) (v : Int) : Nat := if 0 ≤ v ∧ v ≤ hi then v.toNat else (Config.outOfFormat v).toNat % (hi + 1)

/-- The word the register table holds at an address. -/
def Chip.rd (c : Chip) (a : Nat) : Word := Tbl.get resetWord c.regs a
/-- Put a word at an address of the register table. -/
def Chip.wr (c : Chip) (a : Nat) (x : Word) : Chip := { c with regs := Tbl.set resetWord c.regs a x }
/-- A field of the register at an address. -/
def Chip.fget (c : Chip) (a : Nat) (f : Fld) : Nat := f.get (c.rd a)
/-- A one-bit field of the register at an address. -/
def Chip.flag (c : Chip) (a : Nat) (f : Fld) : Bool := c.fget a f == 1
/-- Put a value into a field of the register at an address. -/
def Chip.fset (c : Chip) (a : Nat) (f : Fld) (v : Nat) : Chip := c.wr a (f.put (c.rd a) v)
/-- Put a truth value into a one-bit field. -/
def Chip.fbit (c : Chip) (a : Nat) (f : Fld) (b : Bool) : Chip := c.fset a f b.toNat
/-- R45: add n to the 32-bit counter at an address, which stops at its all-ones value. -/
def Chip.bump (c : Chip) (a : Nat) (n : Nat := 1) : Chip := c.wr a (.ofNat 32 (min 0xFFFFFFFF ((c.rd a).toNat + n)))
/-- R45: count once in a 32-bit counter that wraps. -/
def Chip.bumpWrap (c : Chip) (a : Nat) : Chip := c.wr a (c.rd a + 1)
/-- R45: count once in a field that stops at its all-ones value. -/
def Chip.fbump (c : Chip) (a : Nat) (f : Fld) : Chip := c.fset a f (min f.max (c.fget a f + 1))
/-- Count once in a field that wraps. -/
def Chip.fbumpWrap (c : Chip) (a : Nat) (f : Fld) : Chip := c.fset a f (c.fget a f + 1)
/-- Registers of an address range hold their reset values again. -/
def Chip.clearRegs (c : Chip) (lo hi : Nat) : Chip :=
  { c with regs := c.regs.clear lo hi, wo1 := c.wo1.clear lo hi, ctr := c.ctr.clear lo hi, stage := c.stage.clear lo hi
           latch := c.latch.clear (lo * 16) (hi * 16) }

/-- Byte k (0 lowest) of a word, as a bit range. -/
def byteFld (k : Nat) : Fld := ⟨8 * k, 8⟩
/-- Bit k of a word, as a bit range. -/
def bitFld (k : Nat) : Fld := ⟨k, 1⟩

/-! ### 64-bit counters (R53, R54) -/

def Ctr64.lo : Ctr64 → Nat
  | .mtime => R.SYS_MTIME_LO
  | .pwrTime n => R.PWR_TIME_LO n
  | .energy ch => R.CH_ENERGY_LO ch
  | .rtc => R.SEN_RTC_LO
  | .hpm c j => 0x100000000 + c * 0x4000 + 4 * (0xB00 + j)

def Chip.ctr64 (c : Chip) (a : Nat) : Word64 := Tbl.get (fun _ => 0) c.ctr a
def Chip.setCtr64 (c : Chip) (a : Nat) (x : Word64) : Chip := { c with ctr := Tbl.set (fun _ => 0) c.ctr a x }
def Chip.latchOf (c : Chip) (a : Nat) (rq : Req) : Word := Tbl.get (fun _ => 0) c.latch (a * 16 + rq.code)
def Chip.setLatch (c : Chip) (a : Nat) (rq : Req) (x : Word) : Chip :=
  { c with latch := Tbl.set (fun _ => 0) c.latch (a * 16 + rq.code) x }
def Chip.staged (c : Chip) (a : Nat) : Word := Tbl.get (fun _ => 0) c.stage a
def Chip.setStaged (c : Chip) (a : Nat) (x : Word) : Chip := { c with stage := Tbl.set (fun _ => 0) c.stage a x }

/-! ### The tables of hidden state -/

def Chip.link (c : Chip) (d : Nat) : Link := Tbl.get (fun _ => {}) c.links d
def Chip.setLink (c : Chip) (d : Nat) (l : Link) : Chip := { c with links := Tbl.set (fun _ => {}) c.links d l }
def Chip.busOf (c : Chip) (rq : Req) : BusReq := Tbl.get (fun _ => {}) c.bus rq.code
def Chip.setBus (c : Chip) (rq : Req) (b : BusReq) : Chip := { c with bus := Tbl.set (fun _ => {}) c.bus rq.code b }
def Chip.respOf (c : Chip) (rq : Req) : Resp := Tbl.get (fun _ => {}) c.resp rq.code
def Chip.core (c : Chip) (k : Nat) : CoreX := Tbl.get (fun _ => {}) c.cores k
def Chip.setCore (c : Chip) (k : Nat) (x : CoreX) : Chip := { c with cores := Tbl.set (fun _ => {}) c.cores k x }
def Chip.chan (c : Chip) (ch : Nat) : ChanX := Tbl.get (fun _ => {}) c.chans ch
def Chip.setChan (c : Chip) (ch : Nat) (x : ChanX) : Chip := { c with chans := Tbl.set (fun _ => {}) c.chans ch x }
def Chip.die (c : Chip) (n : Nat) : DieX := Tbl.get (fun _ => {}) c.dies n
def Chip.setDie (c : Chip) (n : Nat) (x : DieX) : Chip := { c with dies := Tbl.set (fun _ => {}) c.dies n x }
def Chip.queue (c : Chip) (q : Nat) : Queue := Tbl.get (fun _ => {}) c.queues q
def Chip.setQueue (c : Chip) (q : Nat) (x : Queue) : Chip := { c with queues := Tbl.set (fun _ => {}) c.queues q x }

/-- Answer a read of a requester. -/
def Chip.answer (c : Chip) (rq : Req) (a : Nat) (x : Word) (err : Nat := 0) : Chip :=
  { c with resp := Tbl.set (fun _ => {}) c.resp rq.code ⟨a, x, err⟩ }

/-- The number of a fresh free value, and the module that has given it out. Assumption log 77 (DESIGN CHOICE). -/
def Chip.draw (c : Chip) : Nat × Chip := (c.fresh, { c with fresh := c.fresh + 1 })

/-- A command's outcome when it changes nothing but the module. -/
def State.onChip (s : State) (f : Chip → Chip) : State := { s with chip := f s.chip }

/-! ### Events (R288 to R292) -/

/-- The sources pending at an event router target. -/
def Chip.pendAt (c : Chip) (t : Nat) : BitVec 256 := Tbl.get (fun _ => 0) c.evPend t
def Chip.setPendAt (c : Chip) (t : Nat) (x : BitVec 256) : Chip := { c with evPend := Tbl.set (fun _ => 0) c.evPend t x }

/-- R288: a raise of source k at target t, if k's mask holds t: pending, or merged and counted. -/
def Chip.raiseAt (k t : Nat) (c : Chip) : Chip :=
  if (c.fget (R.EVR_ROUTE k) F.EVR_ROUTE_TARGET).testBit t then
    if (c.pendAt t).getLsbD k then c.bump (R.EVR_MERGE_CNT t)
    else c.setPendAt t (c.pendAt t ||| (1#256 <<< k))
  else c

/-- R59, R386: an access to a clock-gated block, or activity of its own, restarts its clock. Assumption log 25 (DEDUCED). -/
def Chip.ungate (c : Chip) (b : Nat) : Chip := c.fset (R.SYS_BLK_POWER b) F.SYS_BLK_POWER_STATE 0

/-- R288: a raise of source k is counted, and becomes pending or is merged at every target of its mask. In the parking modes
the router is off (R383). Assumption log 17 (DESIGN CHOICE). -/
def Chip.raise (c : Chip) (k : Nat) : Chip :=
  if c.fget R.SYS_MODE F.SYS_MODE_MODE < 3 then c else (c.ungate 0).bump (R.EVR_CNT k) |>.raiseAt k 0 |>.raiseAt k 1 |>.raiseAt k 2 |>.raiseAt k 3 |>.raiseAt k 4 |>.raiseAt k 5 |>.raiseAt k 6

/-- R56, R258, R383: an event that is due whatever the mode: while the router is off it waits, and is raised when the router is
powered again. Assumption log 81 (DESIGN CHOICE). -/
def Chip.raiseEver (c : Chip) (k : Nat) : Chip :=
  if c.fget R.SYS_MODE F.SYS_MODE_MODE < 3 then { c with modex := { c.modex with late := c.modex.late ++ [k] } } else c.raise k

/-- The events that waited for the router are raised. Assumption log 81 (DESIGN CHOICE). -/
def Chip.raiseLate (c : Chip) : Chip := c.modex.late.foldl Chip.raise { c with modex := { c.modex with late := [] } }

/-- R289: the claimable source at target t among sources below n: the highest priority above the threshold, the lowest
number first among equals. -/
def Chip.bestClaim (c : Chip) (t : Nat) : Nat → Option Nat
  | 0 => none
  | k + 1 =>
    let prio (j : Nat) := c.fget (R.EVR_ROUTE j) F.EVR_ROUTE_PRIO
    let ok := (c.pendAt t).getLsbD k && c.fget (R.EVR_THRESH t) F.EVR_THRESH_THRESH < prio k
    match c.bestClaim t k with
    | none => if ok then some k else none
    | some b => if ok && prio b < prio k then some k else some b

/-- R289: what a claim at target t would return at this moment. -/
def Chip.claimWord (c : Chip) (t : Nat) : Word :=
  match c.bestClaim t 256 with
  | some k => F.EVR_CLAIM_SOURCE.put (F.EVR_CLAIM_VALID.of 1) k
  | none => 0

/-- R289: a target is interrupted while a source pending at it has a priority above its threshold. -/
def Chip.interrupted (c : Chip) (t : Nat) : Bool := (c.bestClaim t 256).isSome

/-! ### Links, lock violations and bus errors -/

/-- R29: the link of die d is up. D0 itself needs no link. -/
def Chip.linkUp (c : Chip) (d : Nat) : Bool := d == 0 || c.flag (R.SYS_LINK_STATUS d) F.SYS_LINK_STATUS_UP

/-- R159, R293: a raise on die d travels over its link, and is never delivered while the link is down. Assumption log 17 (DESIGN CHOICE). -/
def Chip.raiseFrom (c : Chip) (d k : Nat) : Chip := if c.linkUp d then c.raise k else c

/-- Physical die of an address (0 for D0) (R31). -/
def dieOf (a : Nat) : Nat :=
  if 0x40100000 ≤ a ∧ a < 0x40200000 then 1
  else if 0x40200000 ≤ a ∧ a < 0x40400000 then 2 + (a - 0x40200000) / 0x80000
  else if 0x40400000 ≤ a ∧ a < 0x40480000 then 6
  else if 0x40480000 ≤ a ∧ a < 0x40500000 then 7
  else 0

/-- First address of remote die d (R31). -/
def dieBase (d : Nat) : Nat :=
  if d = 1 then 0x40100000 else if d = 6 then 0x40400000 else if d = 7 then 0x40480000 else 0x40200000 + (d - 2) * 0x80000
/-- First address past remote die d. -/
def dieEnd (d : Nat) : Nat := if d = 1 then 0x40200000 else dieBase d + 0x80000

/-- The die header register at offset o of remote die d: power and other dies place their die-level registers at
different offsets (spec/01, "Inside each power die"). -/
def dieHeader (d o : Nat) : Nat := dieBase d + (if 2 ≤ d ∧ d ≤ 5 then 0x40000 else 0) + o

/-- spec/02, "Lock-violation counters": the index of the LOCKVIOL_CNT of the block that holds address a. -/
def lockViolIndex (a : Nat) : Nat :=
  if a < 0x40010000 then 0 else if a < 0x40020000 then 1 else if a < 0x40030000 then 2 else if a < 0x40040000 then 3
  else if a < 0x40050000 then 4 else if a < 0x40060000 then 5 else if a < 0x40070000 then 6
  else if a < 0x40088000 then 8 + (a - 0x40080000) / 0x1000 else if a < 0x40090000 then 16
  else if a < 0x400A0000 then 17 + (a - 0x40090000) / 0x400 else if a < 0x400C0000 then 21
  else if a < 0x40100000 then 22 else if a < 0x40200000 then 23
  else if a < 0x40400000 then 24 + (a - 0x40200000) / 0x80000 else if a < 0x40480000 then 28 else 29

/-- Count a lock violation, or a refused pointer write, of the block that holds address a (R49, R51). A violation on a
remote die is reported over its link. A refused pointer write is counted only and raises no EV004: R51 names the count
alone. Assumption log 75 (DEDUCED). -/
def Chip.lockCount (c : Chip) (a : Nat) : Chip :=
  if c.linkUp (dieOf a) then c.fbump (R.SYS_LOCKVIOL_CNT (lockViolIndex a)) F.SYS_LOCKVIOL_CNT_COUNT else c

/-- R49: a lock violation at address a is counted once and raises EV004 once. -/
def Chip.lockViolation (c : Chip) (a : Nat) : Chip := (c.lockCount a).raiseFrom (dieOf a) 4

/-- The syndromes of SYS_BUSFAULT (R56). -/
inductive Syndrome where
  | decode | size | readOnly | timeout | linkFail | blockOff | poison | ecc
  deriving DecidableEq, Repr

def Syndrome.code : Syndrome → Nat
  | .decode => 1 | .size => 2 | .readOnly => 3 | .timeout => 4 | .linkFail => 5 | .blockOff => 6 | .poison => 7 | .ecc => 8

/-- R56: a bus error is recorded in SYS_BUSFAULT, counted, and raises EV003. -/
def Chip.busError (c : Chip) (write : Bool) (rq : Req) (sy : Syndrome) (a : Nat) : Chip :=
  let w := F.SYS_BUSFAULT_SYNDROME.put (F.SYS_BUSFAULT_REQUESTER.put (F.SYS_BUSFAULT_WRITE.of write.toNat) rq.code) sy.code
  c.wr R.SYS_BUSFAULT w |>.wr R.SYS_BUSFAULT_ADDR (.ofNat 32 a) |>.bump R.SYS_BUSFAULT_CNT |>.raiseEver 3

/-- R66: one more posted write of a requester has failed; its count stops at 0xFFFF. -/
def Chip.countFailed (c : Chip) (rq : Req) : Chip :=
  let b := c.busOf rq
  c.setBus rq { b with failed := min 0xFFFF (b.failed + 1) }

/-- A posted write to a remote die that fails: dropped, recorded, counted for its requester's SYS_DRAIN (R25, R27, R66). -/
def Chip.failWrite (c : Chip) (rq : Req) (sy : Syndrome) (a : Nat) : Chip := (c.busError true rq sy a).countFailed rq

/-- An exception of an application core: its cause and mtval; it is taken in machine mode (R271). Assumption log 1 (DESIGN CHOICE). -/
def Chip.coreTrap (c : Chip) (rq : Req) (cause a : Nat) : Chip :=
  if rq.code < 4 then c.setCore rq.code { c.core rq.code with trap := some (cause, a), user := false } else c

/-- A read that fails is delivered to its requester with a bus error; on an application core it is a load access fault (R56). -/
def Chip.failRead (c : Chip) (rq : Req) (sy : Syndrome) (a : Nat) : Chip :=
  ((c.busError false rq sy a).answer rq a 0 sy.code).coreTrap rq 5 a

/-- R57, R27: a frame that can no longer complete fails with syndrome sy. -/
def Chip.failSent (sy : Syndrome) (c : Chip) (x : Sent) : Chip :=
  if x.write then c.failWrite x.rq sy x.addr else c.failRead x.rq sy x.addr

/-- The posted writes of a requester to remote dies that are not acknowledged yet (R58). -/
def Chip.outstanding (c : Chip) (rq : Req) : Nat :=
  ([1, 2, 3, 4, 5, 6, 7].map fun d => ((c.link d).sent.filter fun x => x.write && x.rq == rq).length).sum

/-- R27: requesters whose ORDER_TOKEN read waits on die d get a bus error. -/
def Chip.failOrder (d : Nat) (c : Chip) (rq : Req) : Chip :=
  match (c.busOf rq).order with
  | some (d', _) => if d' = d then (c.setBus rq { c.busOf rq with order := none }).failRead rq .linkFail (dieHeader d 4) else c
  | none => c

def allReqs : List Req := [.a0, .a1, .a2, .a3, .sup, .host, .access, .cde, .island]

/-- Ones in a number's low n bits. -/
def ones : Nat → Nat → Nat
  | 0, _ => 0
  | n + 1, v => v % 2 + ones n (v / 2)

/-- R322: the die that the Faceplate word at an offset comes from; 0 for D0's own. -/
def fpDie (o : Nat) : Nat :=
  if 0x40 ≤ o ∧ o < 0x340 then 2 + (o - 0x40) / 192 else if 0x340 ≤ o ∧ o < 0x640 then 2 + (o - 0x340) / 192
  else if 0x640 ≤ o ∧ o < 0x700 then 2 + (o - 0x640) / 48 else if 0x700 ≤ o ∧ o < 0x740 then 2 + (o - 0x700) / 16
  else if 0x740 ≤ o ∧ o < 0x7E0 then 1 else if 0x7E0 ≤ o ∧ o < 0x880 then 6
  else if 0x880 ≤ o ∧ o < 0x890 then 2 + (o - 0x880) / 4 else if 0x890 ≤ o ∧ o < 0x8A0 then 1 else 0

/-- R25, R27: the link of die d is declared down and retrains: UP clears, TRAINING sets, the count rises, every frame
not acknowledged fails with LINK_FAIL, and both ends number their frames from 0 again. -/
def Chip.linkDown (c : Chip) (d : Nat) : Chip :=
  let l := c.link d
  let c := c.fset (R.SYS_LINK_STATUS d) F.SYS_LINK_STATUS_UP 0 |>.fset (R.SYS_LINK_STATUS d) F.SYS_LINK_STATUS_TRAINING 1
    |>.bump (R.SYS_LINK_DOWN_CNT d) |>.setLink d { lost := l.lost, unacked := l.unacked }
  let c := { c with hsp := { c.hsp with pushed := c.hsp.pushed.filter fun x => fpDie x.1 ≠ d } }
  allReqs.foldl (Chip.failOrder d) (l.sent.foldl (Chip.failSent .linkFail) c)

/-- A value one greater, in the 6-bit sequence numbers of a link. -/
def seqNext (n : Nat) : Nat := (n + 1) % 64

end Sys2Proof.Machine
end

