-- ==== Sys2Proof/Machine/Queue.lean ====
section
/-! DEFINITION. The queue engine (R325 to R333, R529): pushing, committing, popping, swapping, marking, enabling. -/

namespace Sys2Proof.Machine
open Sys2Proof

/-- The event a committed packet of queue q raises (R324; Q11 to Q23: spec/12, first table). -/
def queueEvent (q : Nat) : Option Nat :=
  if q = 1 then some 16 else if 6 ≤ q ∧ q ≤ 9 then some (20 + q) else if q = 10 then some 30
  else if 11 ≤ q ∧ q ≤ 18 then some (77 + q) else if q = 19 then some 96 else if 20 ≤ q ∧ q ≤ 23 then some (77 + q)
  else if 24 ≤ q ∧ q ≤ 27 then some (12 + q) else if q = 28 ∨ q = 29 then some (4 + q)
  else if q = 30 ∨ q = 31 then some (4 + q) else none

def Chip.qEnabled (c : Chip) (q : Nat) : Bool := c.flag (R.Q_CFG q) F.Q_CFG_EN
/-- Words of one bank of queue q (R325). -/
def Chip.qSize (c : Chip) (q : Nat) : Nat := 64 * c.fget (R.Q_CFG q) F.Q_CFG_SIZE
/-- Free words in the filling bank; 0 while the queue is disabled (R529). -/
def Chip.qFree (c : Chip) (q : Nat) : Nat := if c.qEnabled q then c.qSize q - (c.queue q).fill.length else 0

/-- Words of a bank up to and including its last end mark. -/
def wholeLen : List QWord → Nat
  | [] => 0
  | w :: l => if w.eop || l.any (·.eop) then 1 + wholeLen l else 0

/-- Whole packets in a bank. -/
def packets (l : List QWord) : Nat := (l.filter (·.eop)).length

/-- Words of the first packet of a bank; 0 if no whole packet starts it. -/
def headLen : List QWord → Nat
  | [] => 0
  | w :: l => if w.eop then 1 else if l.any (·.eop) then 1 + headLen l else 0

/-- Q_COUNT.WORDS: the words of whole packets waiting in both banks. -/
def Queue.words (x : Queue) : Nat := wholeLen x.drain + wholeLen x.fill
/-- Q_PKTS.PKTS: whole packets waiting. -/
def Queue.pkts (x : Queue) : Nat := packets x.drain + packets x.fill
/-- Q_PKTS.HEAD_LEN: length of the oldest whole packet. -/
def Queue.head (x : Queue) : Nat := if x.drain.isEmpty then headLen x.fill else headLen x.drain
/-- Q_STATUS.IN_PACKET: the last word written lacks an end mark. -/
def Queue.inPacket (x : Queue) : Bool := match x.fill.getLast? with | some w => !w.eop | none => false
/-- The last word written carries an end mark, or the filling bank is empty: a packet start (R330). -/
def Queue.atStart (x : Queue) : Bool := !x.inPacket && !x.dropping

/-- R331: a packet dropped whole is counted and raises EV024. -/
def Chip.qDrop (c : Chip) (q : Nat) : Chip := (c.bump (R.Q_DROP_CNT q)).raise 24
/-- R326, R325: a refused access to a queue is counted and raises EV025. -/
def Chip.qRefuse (c : Chip) (q : Nat) : Chip := (c.bump (R.Q_REFUSED_CNT q)).raise 25

/-- R327: a packet is committed: Q_PKT_CNT counts and the queue's event is raised. -/
def Chip.qCommitted (c : Chip) (q : Nat) : Chip :=
  let c := (c.ungate 1).bumpWrap (R.Q_PKT_CNT q)
  match queueEvent q with | some k => c.raise k | none => c

/-- R327, R331: append a word to the filling bank. A word that finds it full discards the packet in progress back to
its start, and words are dropped up to and including the next end mark; an end mark clears the rewind mark (R330). -/
def Chip.qPush (c : Chip) (q : Nat) (x : Word) (eop : Bool) : Chip :=
  let s := c.queue q
  let mark := if eop then none else s.mark
  if s.dropping then c.setQueue q { s with dropping := !eop, mark := mark }
  else if s.fill.length < c.qSize q then
    let c := c.setQueue q { s with fill := s.fill ++ [⟨x, eop⟩], mark := mark }
    if eop then c.qCommitted q else c
  else (c.setQueue q { s with fill := s.fill.take (wholeLen s.fill), dropping := !eop, mark := mark }).qDrop q

/-- The words of a packet, the end mark on the last. -/
def packetWords : List Word → List QWord
  | [] => []
  | [x] => [⟨x, true⟩]
  | x :: l => ⟨x, false⟩ :: packetWords l

/-- R331, R529: a hardware producer checks for room before it writes a packet; with none, or into a disabled queue, the
packet is dropped whole. -/
def Chip.hwPush (c : Chip) (q : Nat) (ws : List Word) : Chip :=
  if ws = [] then c
  else if ws.length ≤ c.qFree q then
    (c.setQueue q { c.queue q with fill := (c.queue q).fill ++ packetWords ws }).qCommitted q
  else c.qDrop q

/-- R47: an event record of Q10. Its format is free (Config.q10Record). Assumption log 7 (DESIGN CHOICE). -/
def Chip.q10 (c : Chip) (k obj : Nat) : Chip :=
  let (n, c) := c.draw
  c.hwPush 10 (Config.q10Record k obj n)

/-- R159: an event record of a remote die is never delivered while its link is down. Assumption log 7 (DESIGN CHOICE). -/
def Chip.q10From (c : Chip) (d k obj : Nat) : Chip := if c.linkUp d then c.q10 k obj else c

/-- R328: the banks swap when the draining bank is empty and the filling bank ends in an end mark. Assumption log 75 (DEDUCED). -/
def Chip.qSwap (c : Chip) (q : Nat) : Chip :=
  let s := c.queue q
  if s.drain.isEmpty && !s.fill.isEmpty && !s.inPacket then
    c.setQueue q { s with fill := [], drain := s.fill, bank := 1 - s.bank, mark := s.mark.map fun _ => 0 }
  else c

/-- R329, R529: a pop by the consumer returns the oldest word of the draining bank and removes it; with none it returns
0, counts an underrun and raises EV025. -/
def Chip.qPop (c : Chip) (q : Nat) : Word × Chip :=
  match (c.queue q).drain with
  | w :: l => if c.qEnabled q then (w.data, c.setQueue q { c.queue q with drain := l })
              else (0, (c.bump (R.Q_UNDERRUN_CNT q)).raise 25)
  | [] => (0, (c.bump (R.Q_UNDERRUN_CNT q)).raise 25)

def Chip.isProducer (c : Chip) (rq : Req) (q : Nat) : Bool := c.fget (R.Q_CFG q) F.Q_CFG_PROD == rq.code
def Chip.isConsumer (c : Chip) (rq : Req) (q : Nat) : Bool := c.fget (R.Q_CFG q) F.Q_CFG_CONS == rq.code

/-- R326, R329: a read of Q_POP. -/
def Chip.popRead (c : Chip) (rq : Req) (q : Nat) : Word × Chip :=
  if c.isConsumer rq q then c.qPop q else (0, c.qRefuse q)

/-- R326, R327, R529: a write to Q_PUSH or Q_PUSH_EOP. -/
def Chip.pushWrite (c : Chip) (rq : Req) (q : Nat) (x : Word) (eop : Bool) : Chip :=
  if c.isProducer rq q && c.qEnabled q then c.qPush q x eop else c.qRefuse q

/-- R330: MARK at a packet start sets the rewind mark; elsewhere it is refused under the pointer rule of R51. Assumption log 75 (DEDUCED). -/
def Chip.qMark (c : Chip) (q : Nat) : Chip :=
  let s := c.queue q
  if s.atStart then c.setQueue q { s with mark := some s.fill.length } else c.lockCount (R.Q_PROD_CTRL q)

/-- R330: REWIND returns the write pointer to the mark and discards the words after it. Assumption log 75 (DEDUCED). -/
def Chip.qRewind (c : Chip) (q : Nat) : Chip :=
  let s := c.queue q
  match s.mark with
  | some k => c.setQueue q { s with fill := s.fill.take k, dropping := false }
  | none => c

/-- A write to Q_PROD_CTRL (R326, R330, R529). -/
def Chip.prodCtrl (c : Chip) (rq : Req) (q : Nat) (x : Word) : Chip :=
  if c.isProducer rq q && c.qEnabled q then
    let c := if F.Q_PROD_CTRL_MARK.get x = 1 then c.qMark q else c
    if F.Q_PROD_CTRL_REWIND.get x = 1 then c.qRewind q else c
  else c.qRefuse q

/-- The pool units a queue occupies (R325). -/
def qUnits (cfg : Word) : Nat × Nat := (F.Q_CFG_BASE.get cfg, F.Q_CFG_BASE.get cfg + 2 * F.Q_CFG_SIZE.get cfg)

/-- R325: a configuration may be enabled: it has a size, stays in the 1,024 units of the pool and overlaps no other
enabled queue. -/
def Chip.qMayEnable (c : Chip) (q : Nat) (cfg : Word) : Bool :=
  0 < F.Q_CFG_SIZE.get cfg && (qUnits cfg).2 ≤ 1024 &&
  (List.range 32).all fun j => j == q || !c.qEnabled j ||
    (qUnits cfg).2 ≤ (qUnits (c.rd (R.Q_CFG j))).1 || (qUnits (c.rd (R.Q_CFG j))).2 ≤ (qUnits cfg).1

/-- Q_CFG's writable fields: PROD on Q30 and Q31 only, CONS except on Q00 to Q09 and Q19, a SIZE above 256 reads back
as 256 (spec/10, "Queue registers"). -/
def qCfgMerge (q : Nat) (old x : Word) : Word :=
  let x := F.Q_CFG_SIZE.put x (min 256 (F.Q_CFG_SIZE.get x))
  let x := if q = 30 ∨ q = 31 then x else F.Q_CFG_PROD.put x (F.Q_CFG_PROD.get old)
  let x := if q < 10 ∨ q = 19 then F.Q_CFG_CONS.put x (F.Q_CFG_CONS.get old) else x
  ⟨⟨x.toNat / 2 ^ 14 * 2 ^ 14 % 2 ^ 32 + x.toNat % 2 ^ 10, by omega⟩⟩

/-- R325, R529: a write of Q_CFG. Only the supervisor's counts; SIZE and BASE keep their values while EN stays 1; an
enable that R325 does not allow leaves EN at 0 and is counted; EN = 0 empties the queue at once. -/
def Chip.qCfgWrite (c : Chip) (rq : Req) (q : Nat) (x : Word) : Chip :=
  if rq ≠ .sup then c.qRefuse q else
  let old := c.rd (R.Q_CFG q)
  let new := qCfgMerge q old x
  let change := F.Q_CFG_SIZE.get new ≠ F.Q_CFG_SIZE.get old ∨ F.Q_CFG_BASE.get new ≠ F.Q_CFG_BASE.get old
  if F.Q_CFG_EN.get x = 0 then (c.wr (R.Q_CFG q) (if c.qEnabled q ∧ change then
      F.Q_CFG_SIZE.put (F.Q_CFG_BASE.put new (F.Q_CFG_BASE.get old)) (F.Q_CFG_SIZE.get old) else new)).setQueue q {}
    |> fun c' => if c.qEnabled q ∧ change then c'.lockCount (R.Q_CFG q) else c'
  else if c.qEnabled q then
    let keep := F.Q_CFG_SIZE.put (F.Q_CFG_BASE.put new (F.Q_CFG_BASE.get old)) (F.Q_CFG_SIZE.get old)
    let c' := c.wr (R.Q_CFG q) keep
    if change then c'.lockCount (R.Q_CFG q) else c'
  else if c.qMayEnable q new then (c.wr (R.Q_CFG q) new).setQueue q {}
  else (c.wr (R.Q_CFG q) (F.Q_CFG_EN.put new 0)).qRefuse q

/-- R310, R331, R529: a packet delivered whole: dropped whole and counted when an enabled queue cannot take it, refused
and counted once by a disabled queue or from a requester that is not the producer. -/
def Chip.packetWrite (c : Chip) (rq : Req) (q : Nat) (ws : List Word) : Chip :=
  if c.isProducer rq q && c.qEnabled q then (packetWords ws).foldl (fun c w => c.qPush q w.data w.eop) c else c.qRefuse q

end Sys2Proof.Machine
end

