-- ==== Sys2Proof/Machine/CmdOps.lean ====
section
/-! DEFINITION. Completions of Ngalo commands (R334, R339 to R345): what the events that end long commands call. -/

namespace Sys2Proof.Machine
open Sys2Proof

/-- R334: the completion queue of a requester. -/
def compQueue : Req → Nat
  | .a0 => 6 | .a1 => 7 | .a2 => 8 | .a3 => 9 | _ => 1

/-- R340: the completion statuses. -/
inductive CmdStatus where
  | ok | cancelled | aborted | disabled | blockOff | badOpcode | badArg | notOwner | denied | busy | timeout | overlapTimeout | logFull
  deriving DecidableEq, Repr

def CmdStatus.code : CmdStatus → Nat
  | .ok => 0 | .cancelled => 1 | .aborted => 2 | .disabled => 3 | .blockOff => 4 | .badOpcode => 5 | .badArg => 6 | .notOwner => 7
  | .denied => 8 | .busy => 9 | .timeout => 10 | .overlapTimeout => 11 | .logFull => 12

/-- R339: the DETAIL word. -/
def detail (arg reason obj : Nat) : Word := .ofNat 32 (arg % 256 * 2 ^ 24 + reason % 256 * 2 ^ 16 + obj % 2 ^ 16)

/-- Low word of SYS_MTIME. -/
def Chip.mtimeLo (c : Chip) : Word := (c.ctr64 R.SYS_MTIME_LO).setWidth 32

/-- R339: a completion packet; flags holds ABORT_LATE, CANCEL_LATE and DUP_TAG at their places in word 0. -/
def Chip.compPacket (c : Chip) (op tag : Nat) (st : CmdStatus) (flags : Nat) (res : List Word) : List Word :=
  .ofNat 32 (op * 2 ^ 24 + tag * 2 ^ 16 + st.code * 2 ^ 12 + flags + (res.length + 1)) :: c.mtimeLo :: res

/-- R344: a completion is written to the requester's completion queue, or held until it fits, which raises EV225. Assumption log 49 (DEDUCED). -/
def Chip.deliver (c : Chip) (rq : Req) (ws : List Word) : Chip :=
  if (c.heldComps.all fun h => h.1 ≠ rq) ∧ ws.length ≤ c.qFree (compQueue rq) then c.hwPush (compQueue rq) ws
  else { c with heldComps := c.heldComps ++ [(rq, ws)] }.raise 225

/-- A command completes: exactly one completion (R339). -/
def Chip.complete (c : Chip) (rq : Req) (op tag : Nat) (st : CmdStatus) (res : List Word) (flags : Nat := 0) : Chip :=
  c.deliver rq (c.compPacket op tag st flags res)

/-- R349: the late flags of a command in flight; they accompany OK alone. -/
def Cmd.flags (k : Cmd) (st : CmdStatus) : Nat :=
  if st = .ok then k.abortLate.toNat * 2048 + k.cancelLate.toNat * 1024 else 0

/-- R339: the OBJECT of a command in flight: the number it waits for without the model's marks (a buffer, a kind of
measurement, a direction). -/
def Cmd.object (k : Cmd) : Nat :=
  if k.op = 0x35 then k.obj % 8 else if k.op = 0x50 then k.obj % 16
  else if k.op = 0x68 then (if 1024 ≤ k.obj then k.obj - 1024 else k.obj / 64) else k.obj

/-- The commands in flight that p picks complete: OK with results, another status with its DETAIL. -/
def Chip.finish (c : Chip) (p : Cmd → Bool) (st : CmdStatus) (res : List Word) : Chip :=
  (c.cmds.filter p).foldl (fun c k => c.complete k.rq k.op k.tag st (if st = .ok then res else [detail 0xFF 0 k.object]) (k.flags st))
    { c with cmds := c.cmds.filter fun k => !p k }

/-- A command in flight of an opcode on an object. -/
def onObj (op obj : Nat) (k : Cmd) : Bool := k.op == op && k.obj == obj

/-- The commands of an opcode on an object have started (R349). -/
def Chip.startCmds (c : Chip) (p : Cmd → Bool) : Chip :=
  { c with cmds := c.cmds.map fun k => if p k then { k with started := true } else k }

end Sys2Proof.Machine
end

