-- ==== Sys2Proof/Machine/LogOps.lean ====
section
/-! DEFINITION. The Grain log's records, chain, ring, reserve and seals (R461, R466, R470 to R476), as the events that write
records call them. -/

namespace Sys2Proof.Machine
open Sys2Proof

def Chip.mode (c : Chip) : Nat := c.fget R.SYS_MODE F.SYS_MODE_MODE
/-- R380: the control die is powered: every mode but STORAGE, PARK and PATROL. -/
def Chip.awake (c : Chip) : Bool := 3 ≤ c.mode

def Chip.setGrain (c : Chip) (g : Grain) : Chip := { c with grain := g }
def Chip.rtcLo (c : Chip) : Nat := (c.ctr64 R.SEN_RTC_LO).toNat % 2 ^ 32

/-- A record's payload from fields (offset in bytes, bytes, value), little-endian (R470, R472). -/
def payload (l : List (Nat × Nat × Nat)) : BitVec 128 :=
  .ofNat 128 ((l.map fun x => x.2.2 % 256 ^ x.2.1 * 256 ^ x.1).sum)

/-- n bytes of a value, lowest first. -/
def leBytes : Nat → Nat → List Byte
  | 0, _ => []
  | n + 1, v => .ofNat 8 v :: leBytes n (v / 256)

/-- n bytes of a value, highest first. -/
def beBytes (n v : Nat) : List Byte := (leBytes n v).reverse

/-- Bytes 0 to 31 of a record (R470). -/
def Rec.head (r : Rec) : List Byte :=
  [.ofNat 8 r.typ, .ofNat 8 r.flags] ++ leBytes 2 r.epoch ++ leBytes 8 r.rtc ++ leBytes 4 r.seq ++ leBytes 16 r.pay.toNat
/-- The 64 bytes of a record. -/
def Rec.bytes (r : Rec) : List Byte := r.head ++ beBytes 32 r.link.toNat

/-- R470: the LINK before the first record. -/
def firstLink : BitVec 256 := Config.sha256 Config.devicePublicKey
def Grain.lastLink (g : Grain) : BitVec 256 := g.link.getD firstLink

/-- R474: slots of the main ring and of the reserve, and records of a 4 KiB sector. -/
def mainSlots : Nat := 61440
def reserveSlots : Nat := 4096

def Grain.inReserve (g : Grain) : List Rec := g.recs.filter fun r => mainSlots ≤ r.slot
/-- R474: the main ring has room: the writer is within a sector, or the next one holds no record not yet acknowledged. -/
def Grain.mainRoom (g : Grain) : Bool :=
  g.mainCnt % 64 ≠ 0 || g.recs.all fun r => r.slot / 64 ≠ g.mainCnt % mainSlots / 64
/-- R476: the reserve has room. -/
def Grain.reserveRoom (g : Grain) : Bool := g.inReserve.length < reserveSlots

/-- R470: the next record, in the chain. -/
def Grain.mkRec (g : Grain) (typ : Nat) (pay : BitVec 128) (reserve late : Bool) (rtc : Nat) : Rec :=
  let slot := if reserve then mainSlots + g.resCnt % reserveSlots else g.mainCnt % mainSlots
  let r : Rec := ⟨slot, typ, reserve.toNat + 2 * late.toNat, g.epoch % 2 ^ 16, rtc, g.nextSeq, pay, 0⟩
  { r with link := Config.sha256 (beBytes 32 g.lastLink.toNat ++ r.head) }

/-- Append a record to the chain. -/
def Grain.push (g : Grain) (r : Rec) : Grain :=
  { g with recs := g.recs ++ [r], nextSeq := g.nextSeq + 1, link := some r.link, dirty := r.typ ≠ 0x80
           mainCnt := if r.slot < mainSlots then g.mainCnt + 1 else g.mainCnt
           resCnt := if r.slot < mainSlots then g.resCnt else g.resCnt + 1 }

/-- The log's registers (SEC_LOG_HEAD, SEC_LOG_MARK, SEC_LOG_STATUS, SEC_FOLD_CNT) follow it. -/
def Chip.logSync (c : Chip) : Chip :=
  let g := c.grain
  c.wr R.SEC_LOG_HEAD (.ofNat 32 g.nextSeq) |>.wr R.SEC_LOG_MARK (.ofNat 32 g.mark)
    |>.fset R.SEC_LOG_STATUS F.SEC_LOG_STATUS_RESERVE_USED ((g.inReserve.length + 15) / 16)
    |>.wr R.SEC_FOLD_CNT (.ofNat 32 (g.folds.map (·.count)).sum)

def Chip.logFull (c : Chip) : Bool := c.flag R.SEC_LOG_STATUS F.SEC_LOG_STATUS_LOG_FULL
def Chip.folding (c : Chip) : Bool := c.flag R.SEC_LOG_STATUS F.SEC_LOG_STATUS_FOLDING
def Chip.erasing (c : Chip) : Bool := c.flag R.SEC_LOG_STATUS F.SEC_LOG_STATUS_ERASING

/-- Write a record, to the main ring or to the reserve. -/
def Chip.logWrite (c : Chip) (typ : Nat) (pay : BitVec 128) (reserve late : Bool) : Chip :=
  let g := c.grain
  (c.setGrain (g.push (g.mkRec typ pay reserve late (c.ctr64 R.SEN_RTC_LO).toNat))).logSync

/-- R476: the reserve is full. -/
def Chip.checkFull (c : Chip) : Chip :=
  if c.grain.reserveRoom || c.logFull then c else (c.fset R.SEC_LOG_STATUS F.SEC_LOG_STATUS_LOG_FULL 1).raise 193

/-- R476: a security-class record cannot be written. -/
def Chip.logLost (c : Chip) : Chip := (c.bump R.SEC_LOST_CNT).setGrain { c.grain with lost := c.grain.lost + 1 }

/-- R475: a security-class record goes to the reserve. -/
def Chip.logReserve (c : Chip) (typ : Nat) (pay : BitVec 128) (late : Bool) : Chip :=
  if c.grain.reserveRoom then (c.logWrite typ pay true late).checkFull else c.logLost

/-- The summary counters with one more record of a type at a time. -/
def addFold (typ t : Nat) : List Fold → List Fold
  | [] => [⟨typ, 1, t, t⟩]
  | f :: l => if f.typ = typ then { f with count := f.count + 1, last := t } :: l else f :: addFold typ t l

/-- R475: an ordinary record is folded. -/
def Chip.logFold (c : Chip) (typ : Nat) : Chip := (c.setGrain { c.grain with folds := addFold typ c.rtcLo c.grain.folds }).logSync

/-- R475: folding begins: SATURATED goes to the reserve, EV195. -/
def Chip.beginFolding (c : Chip) : Chip :=
  if c.folding then c
  else ((c.fset R.SEC_LOG_STATUS F.SEC_LOG_STATUS_FOLDING 1).logReserve 0x8F (payload [(0, 4, c.grain.mark)]) false).raise 195

/-- R474, R475, R479: append a record of a type; codes from 0x80 on are security-class. -/
def Chip.logAdd (c : Chip) (typ : Nat) (pay : BitVec 128) (late : Bool) : Chip :=
  if c.erasing then
    if c.grain.held.length < 257 then c.setGrain { c.grain with held := c.grain.held ++ [(typ, pay)] }
    else if typ < 0x80 then c.logFold typ else c.logLost
  else if c.grain.mainRoom then c.logWrite typ pay false late
  else
    let c := c.beginFolding
    if typ < 0x80 then c.logFold typ else c.logReserve typ pay late

/-- R459: the device ID. -/
def deviceId : List Byte := (beBytes 32 (Config.sha256 Config.devicePublicKey).toNat).take 16

/-- R473: what the signer signs for the seal record of a SEQ and LINK. -/
def sealMsg (seq : Nat) (link : BitVec 256) : List Byte := [0x47, 0x52, 0x4E, 0x31] ++ deviceId ++ leBytes 4 seq ++ beBytes 32 link.toNat

/-- R473: a seal starts: its SEAL record is appended, and the signer signs its SEQ and LINK. -/
def Chip.startSeal (c : Chip) : Chip :=
  let g := c.grain
  let slot := 1 - g.sealSlot
  let c := c.logAdd 0x80 (payload [(0, 4, g.seals), (4, 4, g.lastSeal), (8, 1, slot)]) false
  if c.grain.nextSeq = g.nextSeq then c
  else
    let seq := c.grain.nextSeq - 1
    let msg := sealMsg seq c.grain.lastLink
    (c.setGrain { c.grain with seals := g.seals + 1, sealSlot := slot, dirty := false, job := some (.sealing seq slot msg) }).fset
      R.SEC_LOG_STATUS F.SEC_LOG_STATUS_SEALING 1

/-- R460: the attestation body of a nonce. -/
def Chip.attestBody (c : Chip) (nonce : List Word) : List Byte :=
  let newest := c.grain.nextSeq - 1
  [1, 0, 0, 0] ++ nonce.flatMap (fun w => leBytes 4 w.toNat) ++ deviceId ++
  (List.range 9).flatMap (fun k => leBytes 4 (c.rd (R.SYS_BOOT_REPORT (6 + k))).toNat) ++
  leBytes 4 (c.rd R.SEC_POLICY).toNat ++ leBytes 4 newest ++ beBytes 32 c.grain.lastLink.toNat ++
  [.ofNat 8 (c.rd R.SEC_AUTH).toNat, 0, 0, 0] ++ leBytes 4 (c.rd R.SEC_AUTH_CNT).toNat ++ leBytes 8 (c.ctr64 R.SEN_RTC_LO).toNat

/-- R473: a waiting seal may start: not while the control die is powered down, nor while the log is erased (R479). -/
def Chip.sealReady (c : Chip) : Bool := c.grain.sealWait && c.awake && !c.erasing

/-- R461: the signer is free: the pending seal starts. -/
def Chip.takeSeal (c : Chip) : Chip :=
  (c.setGrain { c.grain with sealWait := false, attWait := c.grain.attWait.map fun x => { x with waited := true } }).startSeal

/-- R461: the signer is free: the oldest attestation starts. -/
def Chip.takeAttest (c : Chip) : Chip :=
  match c.grain.attWait with
  | a :: l => (c.setGrain { c.grain with attWait := l, job := some (.attest a.rq a.tag a.dest (c.attestBody a.nonce)) }).startCmds
      fun k => k.op == 0xA0 && k.rq == a.rq && k.tag == a.tag
  | [] => c

/-- R461: the signer, if free, takes the next job: a pending seal first, unless the oldest attestation has already waited
for one seal. A seal whose record the full log cannot take leaves the signer to the attestation. Assumption log 48 (DEDUCED). -/
def Chip.nextJob (c : Chip) : Chip :=
  if c.grain.job.isSome then c
  else
    let first := match c.grain.attWait with | a :: _ => !a.waited | [] => true
    let c := if c.sealReady && first then c.takeSeal else c
    if c.grain.job.isSome then c else c.takeAttest

/-- R473: a seal falls due; at most one waits. -/
def Chip.sealDue (c : Chip) : Chip := (c.setGrain { c.grain with sealWait := true }).nextJob

/-- The type of the newest record, if one was written since the SEQ of the next record was n. -/
def Grain.newest (g : Grain) (n : Nat) : Nat := if g.nextSeq = n then 0 else (g.recs.getLast?.map (·.typ)).getD 0

/-- A record is appended, and a seal falls due after a security-class record other than a SEAL (R473). While the control
die is powered down the record waits, and is then written LATE. -/
def Chip.log (c : Chip) (typ : Nat) (pay : BitVec 128) (late : Bool := false) : Chip :=
  if c.awake then
    let n := c.grain.nextSeq
    let c := c.logAdd typ pay late
    if 0x80 < c.grain.newest n then c.sealDue else c
  else c.setGrain { c.grain with late := c.grain.late ++ [(typ, pay)] }

/-- R467, R472, R476: a RECORDS_LOST record, if records were lost since the last or LOG_FULL has cleared, once the log can take it. -/
def Chip.logLostRecord (c : Chip) (cleared : Bool := false) : Chip :=
  if (c.grain.lost = 0 ∧ c.grain.recLost = 0 ∧ !cleared) ∨ c.logFull ∨ c.erasing then c
  else
    let c := c.log 0x92 (payload [(0, 4, c.grain.lost), (4, 4, c.grain.recLost)])
    c.setGrain { c.grain with lost := 0, recLost := 0 }

/-- R50, R466: a refused write is logged, at most one record per requester per second; the next one counts those held
back and names the first of the writes it stands for. kind: 0 security lock violation, 1 sealed channel or input, 2 mailbox.
Assumption log 47 (DEDUCED). -/
def Chip.refusedWrite (c : Chip) (rq : Req) (kind addr : Nat) (data : Word) : Chip :=
  let now := (c.ctr64 R.SYS_MTIME_LO).toNat
  let x := Tbl.get (fun _ => {}) c.grain.refused rq.code
  let wait := match x.last with | some t => decide (now < t + 1000000) | none => false
  let put (c : Chip) (y : Refusals) : Chip := c.setGrain { c.grain with refused := Tbl.set (fun _ => {}) c.grain.refused rq.code y }
  let (k, a, d) := x.first.getD (kind, addr, data)
  if wait then put c { x with held := x.held + 1, first := some (k, a, d) }
  else (put c { last := some now }).log 0x8B
    (payload [(0, 1, rq.code), (1, 1, k), (2, 2, min 0xFFFF (x.held + 1)), (4, 4, a), (8, 4, d.toNat)])

/-- R351: a refused command is logged and raises EV226. -/
def Chip.refusedCommand (c : Chip) (rq : Req) (op status : Nat) (w1 : Word) : Chip :=
  (c.log 0x8A (payload [(0, 1, rq.code), (1, 1, op), (2, 1, status), (4, 4, w1.toNat)])).raise 226

/-! ### Power die 3's recorder (R467 to R469) -/

def Chip.sealX (c : Chip) (ch : Nat) : SealX := Tbl.get (fun _ => {}) c.sealx ch
def Chip.setSealX (c : Chip) (ch : Nat) (x : SealX) : Chip := { c with sealx := Tbl.set (fun _ => {}) c.sealx ch x }
/-- The policy in force holds the sealed channel on (SEC_SEAL_MAP). -/
def Chip.policyHold (c : Chip) (ch : Nat) : Bool := (c.fget R.SEC_SEAL_MAP F.SEC_SEAL_MAP_HOLD).testBit (ch - 188)

def Chip.entryValid (c : Chip) (e : Nat) : Bool := c.flag (R.PWR_SEAL_KIND e) F.PWR_SEAL_KIND_VALID
def Chip.entryFree (c : Chip) : Option Nat := (List.range 16).find? fun e => !c.entryValid e
def Chip.entryCount (c : Chip) : Chip :=
  c.fset R.PWR_SEAL_STATUS F.PWR_SEAL_STATUS_ENTRIES ((List.range 16).filter c.entryValid).length

/-- An entry's type, OPEN bit and payload (bits 8k to 8k + 7 are byte k). -/
def Chip.setEntry (c : Chip) (e typ : Nat) (isOpen : Bool) (pay : BitVec 128) : Chip :=
  let k := F.PWR_SEAL_KIND_VALID.put (F.PWR_SEAL_KIND_OPEN.put (F.PWR_SEAL_KIND_TYPE.of typ) isOpen.toNat) 1
  ((List.range 4).foldl (fun c w => c.wr (R.PWR_SEAL_DATA e w) ((pay >>> (32 * w)).setWidth 32)) (c.wr (R.PWR_SEAL_KIND e) k)).entryCount

def Chip.entryPay (c : Chip) (e : Nat) : BitVec 128 :=
  c.rd (R.PWR_SEAL_DATA e 3) ++ c.rd (R.PWR_SEAL_DATA e 2) ++ c.rd (R.PWR_SEAL_DATA e 1) ++ c.rd (R.PWR_SEAL_DATA e 0)

def Chip.begun (c : Chip) (e : Nat) : Bool := Tbl.get (fun _ => false) c.entBegun e
def Chip.recorded (c : Chip) (e : Nat) : Bool := Tbl.get (fun _ => false) c.entDone e
def Chip.setBegun (c : Chip) (e : Nat) (b : Bool) : Chip := { c with entBegun := Tbl.set (fun _ => false) c.entBegun e b }
def Chip.setRecorded (c : Chip) (e : Nat) (b : Bool) : Chip := { c with entDone := Tbl.set (fun _ => false) c.entDone e b }

/-- The supervisor converts a PWR_TIME low word (µs) to an RTC low word (1/32768 s) by the two counts now (R472). -/
def Chip.toRtc (c : Chip) (t : Nat) : Nat :=
  let age := ((c.ctr64 (R.PWR_TIME_LO 3)).toNat + 2 ^ 32 - t % 2 ^ 32) % 2 ^ 32
  (c.rtcLo + 2 ^ 32 - age * 32768 / 1000000 % 2 ^ 32) % 2 ^ 32

/-- Replace the 4-byte field at byte o of a payload. -/
def payPut (p : BitVec 128) (o v : Nat) : BitVec 128 :=
  .ofNat 128 (p.toNat / 256 ^ (o + 4) * 256 ^ (o + 4) + v % 2 ^ 32 * 256 ^ o + p.toNat % 256 ^ o)
def payGet (p : BitVec 128) (o n : Nat) : Nat := p.toNat / 256 ^ o % 256 ^ n

/-- Where an entry's payload holds its start time: byte 4 of 0x81 and 0x83, byte 12 of 0x82 (R472). -/
def startOffset (typ : Nat) : Nat := if typ = 0x82 then 12 else 4

/-- The record of an entry as it stands, its start time converted. -/
def Chip.logEntry (late : Bool) (c : Chip) (e : Nat) : Chip :=
  let typ := c.fget (R.PWR_SEAL_KIND e) F.PWR_SEAL_KIND_TYPE
  let pay := c.entryPay e
  c.log typ (payPut pay (startOffset typ) (c.toRtc (payGet pay (startOffset typ) 4))) late

/-- R467: the supervisor writes the records an entry still owes: INTERRUPT_BEGIN, and INTERRUPT_END or BYPASS_INTERVAL
once it is closed. It does so while the link of power die 3 is up and acknowledged. An entry that closed before its begin
record was written holds both payloads until then. Assumption log 48 (DEDUCED). -/
def Chip.writeEntry (late : Bool) (c : Chip) (e : Nat) : Chip :=
  if c.entryValid e && c.linkUp 5 && !(c.link 5).unacked && c.awake then
    let first := c.fget (R.PWR_SEAL_KIND e) F.PWR_SEAL_KIND_TYPE = 0x81
    let isOpen := c.flag (R.PWR_SEAL_KIND e) F.PWR_SEAL_KIND_OPEN
    let c := if first ∧ ¬ c.begun e then Chip.logEntry late (c.setBegun e true) e else c
    if isOpen ∨ c.recorded e then c
    else
      let c := if first then c.setEntry e 0x82 false (Tbl.get (fun _ => 0) c.entEnd e) else c
      Chip.logEntry late (c.setRecorded e true) e
  else c

/-- R467: entries opened while the link was down are written once it is acknowledged. -/
def Chip.writeEntries (c : Chip) : Chip := ((List.range 16).foldl (Chip.writeEntry true) c)

/-- R467: no entry is free. -/
def Chip.entryLost (c : Chip) : Chip :=
  let c := (c.bump R.PWR_SEAL_LOST_CNT).raiseFrom 5 201
  (c.setGrain { c.grain with recLost := c.grain.recLost + 1 }).logLostRecord

/-- R467: sealed channel ch, held on by the policy, stops driving: an interruption opens; a trip within one is counted.
before is its state, cause the cause shown. -/
def Chip.interruptBegin (c : Chip) (ch before cause : Nat) : Chip :=
  let x := c.sealX ch
  if isSealed ch ∧ c.policyHold ch then
    if c.flag R.PWR_SEAL_STATUS (bitFld (ch - 188)) then c.setSealX ch { x with trips := x.trips + 1 }
    else
      let t := (c.ctr64 (R.PWR_TIME_LO 3)).toNat
      let pay := payload [(0, 1, ch), (1, 1, cause), (2, 1, before), (4, 4, t),
        (8, 2, (c.rd (R.CH_I_AVG ch)).toNat / 10), (10, 2, c.fget (R.PWR_FEED_AVG 3) F.PWR_FEED_AVG_AVG1)]
      let byp := decide (190 ≤ ch)
      let c := (c.fbit R.PWR_SEAL_STATUS (bitFld (ch - 188)) true).raiseFrom 5 198
      match c.entryFree with
      | some e => ((c.setSealX ch { x with entry := some e, start := t, drive := t, trips := if cause = 0 then 0 else 1, bypass := byp }).setEntry e 0x81 true pay
          |>.setBegun e false |>.setRecorded e false).writeEntry false e
      | none => (c.setSealX ch { x with entry := none, start := t, drive := t, trips := if cause = 0 then 0 else 1, bypass := byp }).entryLost
  else c

/-- R467: a sealed channel starts to drive. -/
def Chip.sealDrive (c : Chip) (ch : Nat) : Chip :=
  if isSealed ch then c.setSealX ch { c.sealX ch with drive := (c.ctr64 (R.PWR_TIME_LO 3)).toNat } else c

/-- R467: the channel has driven 1 s without a trip: the interruption ends. byMax is its highest bypass current in 10 mA,
limited whether the bypass limited it. -/
def Chip.interruptEnd (c : Chip) (ch byMax : Nat) (limited : Bool) : Chip :=
  let x := c.sealX ch
  if c.flag R.PWR_SEAL_STATUS (bitFld (ch - 188)) then
    let pay := payload [(0, 1, ch), (1, 1, min 255 x.trips), (2, 1, x.bypass.toNat + 2 * (x.bypass && limited).toNat),
      (4, 4, (x.drive - x.start) / 1000), (8, 2, (c.rd (R.CH_I_AVG ch)).toNat / 10), (10, 2, if x.bypass then byMax else 0), (12, 4, x.start)]
    let c := ((c.fbit R.PWR_SEAL_STATUS (bitFld (ch - 188)) false).setSealX ch { x with entry := none }).raiseFrom 5 199
    match x.entry with
    | some e =>
      if c.begun e then (c.setEntry e 0x82 false pay).writeEntry false e
      else ({ c with entEnd := Tbl.set (fun _ => 0) c.entEnd e pay }.fset (R.PWR_SEAL_KIND e) F.PWR_SEAL_KIND_OPEN 0).writeEntry true e
    | none => c
  else c

/-- R467: entries of a mask are freed. -/
def Chip.freeEntries (c : Chip) (mask : Nat) : Chip :=
  (((List.range 16).filter mask.testBit).foldl (fun c e => c.wr (R.PWR_SEAL_KIND e) 0) c).entryCount

/-- R468: BYP190 or BYP191 begins to conduct outside an interruption. -/
def Chip.bypassBegin (c : Chip) (ch : Nat) : Chip :=
  let x := c.sealX ch
  if 190 ≤ ch ∧ x.byStart.isNone then
    let t := (c.ctr64 (R.PWR_TIME_LO 3)).toNat
    let c := c.fbit R.PWR_SEAL_STATUS (bitFld (4 + ch - 188)) true
    match c.entryFree with
    | some e => c.setSealX ch { x with byStart := some t, byEntry := some e } |>.setEntry e 0x83 true (payload [(0, 1, ch), (4, 4, t)])
        |>.setBegun e true |>.setRecorded e false
    | none => (c.setSealX ch { x with byStart := some t, byEntry := none }).entryLost
  else c

/-- R468: the conduction stops: EV200, and a BYPASS_INTERVAL record. -/
def Chip.bypassEnd (c : Chip) (ch high avg : Nat) (limited planned : Bool) : Chip :=
  let x := c.sealX ch
  match x.byStart with
  | none => c
  | some t =>
    let now := (c.ctr64 (R.PWR_TIME_LO 3)).toNat
    let pay := payload [(0, 1, ch), (1, 1, limited.toNat + 2 * planned.toNat), (4, 4, t), (8, 4, (now - t) / 1000), (12, 2, high), (14, 2, avg)]
    let c := ((c.fbit R.PWR_SEAL_STATUS (bitFld (4 + ch - 188)) false).setSealX ch { x with byStart := none, byEntry := none }).raiseFrom 5 200
    match x.byEntry with
    | some e => (c.setEntry e 0x83 false pay).writeEntry false e
    | none => c

end Sys2Proof.Machine
end

