-- ==== Sys2Proof/Machine/CanOps.lean ====
section
/-! DEFINITION. The CAN controllers' message buffers, transmissions and error states (R355 to R371), and the immobiliser's
frames (R450 to R452). Controller 8 is the service controller (R374). -/

namespace Sys2Proof.Machine
open Sys2Proof

/-! ### Message buffers (R363 to R366) -/

def Chip.mbWord (c : Chip) (n b w : Nat) : Word := Tbl.get (fun _ => 0) c.mbs (32 * (64 * n + b) + w)
def Chip.setMbWord (c : Chip) (n b w : Nat) (x : Word) : Chip := { c with mbs := Tbl.set (fun _ => 0) c.mbs (32 * (64 * n + b) + w) x }
def Chip.mbX (c : Chip) (n b : Nat) : MbX := Tbl.get (fun _ => {}) c.mbx (64 * n + b)
def Chip.setMbX (c : Chip) (n b : Nat) (x : MbX) : Chip := { c with mbx := Tbl.set (fun _ => {}) c.mbx (64 * n + b) x }
/-- R363: the buffer a requester has selected. -/
def Chip.mbSelOf (c : Chip) (n : Nat) (rq : Req) : Nat := Tbl.get (fun _ => 0) c.mbSel (16 * n + rq.code)
def Chip.setMbSel (c : Chip) (n : Nat) (rq : Req) (b : Nat) : Chip :=
  { c with mbSel := Tbl.set (fun _ => 0) c.mbSel (16 * n + rq.code) (b % 64) }
def Chip.can (c : Chip) (n : Nat) : CanX := Tbl.get (fun _ => {}) c.cans n
def Chip.setCan (c : Chip) (n : Nat) (x : CanX) : Chip := { c with cans := Tbl.set (fun _ => {}) c.cans n x }

/-- R364: the fields of a buffer's W0 and W1. -/
def mbKind : Fld := ⟨30, 2⟩
def mbXtd : Fld := ⟨29, 1⟩
def mbId : Fld := ⟨0, 29⟩
def mbDlc : Fld := ⟨28, 4⟩
def mbFdf : Fld := ⟨27, 1⟩
def mbBrs : Fld := ⟨26, 1⟩
def mbEsi : Fld := ⟨25, 1⟩
def mbRtr : Fld := ⟨24, 1⟩
def mbOneShot : Fld := ⟨23, 1⟩
def mbFilter : Fld := ⟨16, 6⟩

def Chip.mbKindOf (c : Chip) (n b : Nat) : Nat := mbKind.get (c.mbWord n b 0)

/-- R364: the data bytes of a frame with this W1; a remote frame has none. -/
def frameBytes (w1 : Word) : Nat :=
  let d := mbDlc.get w1
  if mbFdf.get w1 = 0 ∧ mbRtr.get w1 = 1 then 0
  else if d ≤ 8 then d
  else if mbFdf.get w1 = 0 then 8
  else [12, 16, 20, 24, 32, 48, 64].getD (d - 9) 64

/-- R364: the last word of a buffer whose W1 is w1. -/
def lastWord (w1 : Word) : Nat := 2 + (frameBytes w1 + 3) / 4

/-- A buffer's bit in a pair of registers, as the address of the register and the bit. -/
def mbBit (r0 r1 b : Nat) : Nat × Fld := (if b < 32 then r0 else r1, bitFld (b % 32))

def Chip.mbPend (c : Chip) (n b : Nat) : Bool := c.flag (R.CAN_MB_STAT n b) F.CAN_MB_STAT_TX_PEND
/-- TX_PEND of a buffer and its bit in CAN_TXPEND. -/
def Chip.setMbPend (c : Chip) (n b : Nat) (v : Bool) : Chip :=
  let p := mbBit (R.CAN_TXPEND n 0) (R.CAN_TXPEND n 1) b
  (c.fbit (R.CAN_MB_STAT n b) F.CAN_MB_STAT_TX_PEND v).fbit p.1 p.2 v
def Chip.mbFull (c : Chip) (n b : Nat) : Bool := c.flag (R.CAN_MB_STAT n b) F.CAN_MB_STAT_FULL
/-- FULL of a buffer and its bit in CAN_RXFULL. -/
def Chip.setMbFull (c : Chip) (n b : Nat) (v : Bool) : Chip :=
  let p := mbBit (R.CAN_RXFULL n 0) (R.CAN_RXFULL n 1) b
  (c.fbit (R.CAN_MB_STAT n b) F.CAN_MB_STAT_FULL v).fbit p.1 p.2 v

/-- R366: the buffer is reserved for the CAN_TX command. -/
def Chip.mbReserved (c : Chip) (n b : Nat) : Bool := (c.rd (R.CAN_MB_RSV n (b / 32))).toNat.testBit (b % 32)
/-- R366, R451: MB62 of IMMO_CAN is the access function's while IMMO_EN = 1. -/
def Chip.mbImmo (c : Chip) (n b : Nat) : Bool :=
  b == 62 && c.flag R.ACC_CFG3 F.ACC_CFG3_IMMO_EN && c.fget R.ACC_CFG3 F.ACC_CFG3_IMMO_CAN == n
/-- R418: MB63 of a selected controller is the network-management helper's. -/
def Chip.mbNm (c : Chip) (n b : Nat) : Bool :=
  b == 63 && n < 8 && c.flag R.NM_CTRL F.NM_CTRL_EN && (c.fget R.NM_CTRL F.NM_CTRL_CTRL_MASK).testBit n

/-- R365: put a received frame's words into buffer b. -/
def Chip.mbFill (c : Chip) (n b : Nat) (ws : List Word) : Chip :=
  (List.range ws.length).foldl (fun c w => c.setMbWord n b w (ws.getD w 0)) c

/-- R365, R369: a frame is stored in receive buffer b, which becomes FULL and raises EV117 + n; one that overwrites a FULL
buffer is counted. -/
def Chip.mbStore (c : Chip) (n b : Nat) (ws : List Word) : Chip :=
  let c := if c.mbFull n b then c.bump (R.CAN_MB_OVR_CNT n) else c
  ((c.mbFill n b ws).setMbFull n b true).raise (117 + n)

/-- R365: a frame accepted for receive buffer b: stored, or held in the pending slot while the buffer is locked. -/
def Chip.mbAccept (c : Chip) (n b : Nat) (ws : List Word) : Chip :=
  let x := c.mbX n b
  if x.owner.isSome then
    let c := if x.slot.isSome then c.bump (R.CAN_MB_OVR_CNT n) else c
    (c.setMbX n b { x with slot := some ws }).fset (R.CAN_MB_STAT n b) F.CAN_MB_STAT_SLOT_HELD 1
  else c.mbStore n b ws

/-- R365: a buffer's lock ends; a frame in the pending slot is stored. -/
def Chip.mbUnlock (c : Chip) (n b : Nat) : Chip :=
  let x := c.mbX n b
  let c := (c.setMbX n b {}).fset (R.CAN_MB_STAT n b) F.CAN_MB_STAT_LOCKED 0 |>.fset (R.CAN_MB_STAT n b) F.CAN_MB_STAT_SLOT_HELD 0
  match x.slot with
  | some ws => c.mbStore n b ws
  | none => c

/-- R363, R365: a read of word w of the buffer window by a requester: a read of W0 of a receive buffer locks it, a read of
its last word by the lock's holder releases it. -/
def Chip.mbRead (c : Chip) (rq : Req) (n w : Nat) : Word × Chip :=
  let b := c.mbSelOf n rq
  let v := c.mbWord n b w
  let x := c.mbX n b
  if c.mbKindOf n b ≠ 1 then (v, c)
  else if w = 0 then
    if x.owner.isNone then (v, (c.setMbX n b { x with owner := some rq.code }).fset (R.CAN_MB_STAT n b) F.CAN_MB_STAT_LOCKED 1) else (v, c)
  else if w = lastWord (c.mbWord n b 1) ∧ x.owner = some rq.code then (v, (c.setMbFull n b false).mbUnlock n b)
  else (v, c)

/-- R365: a lock has been held for more than 1 ms. Assumption log 60 (DEDUCED). -/
def Chip.mbLockTimeout (c : Chip) (n b : Nat) : Chip :=
  if (c.mbX n b).owner.isSome then (c.bump (R.CAN_LOCK_TO_CNT n)).mbUnlock n b else c

/-- R366, R418: a write of a requester to buffer b is ignored. -/
def Chip.mbRefuses (c : Chip) (rq : Req) (n b : Nat) : Bool :=
  rq != .sup && (c.mbPend n b || c.mbReserved n b || c.mbNm n b || c.mbImmo n b) && !(rq == .access && c.mbImmo n b)

/-- R364: word w of a buffer after a write of x over old. -/
def mbMerge (w : Nat) (old x : Word) : Word :=
  if w = 0 then (if mbKind.get x = 3 then mbKind.put x (mbKind.get old) else x)
  else if w = 1 then (old &&& ~~~0xFD800000#32) ||| (x &&& 0xFD800000#32)
  else if w = 2 then old
  else x

/-- R363, R366: a write to word w of the buffer window. -/
def Chip.mbWrite (c : Chip) (rq : Req) (n w : Nat) (x : Word) : Chip :=
  let b := c.mbSelOf n rq
  if c.mbRefuses rq n b then c.lockViolation (R.CAN_MB_W n w) else c.setMbWord n b w (mbMerge w (c.mbWord n b w) x)

/-! ### Transmission (R359 to R362, R369 to R371) -/

/-- R369: the outcomes of CAN_MB_STAT.OUTCOME. -/
inductive TxOutcome where
  | transmitted | lost | error | suspended | busOff | cancelled
  deriving DecidableEq, Repr

def TxOutcome.code : TxOutcome → Nat
  | .transmitted => 1 | .lost => 2 | .error => 3 | .suspended => 4 | .busOff => 5 | .cancelled => 6

def Chip.canEn (c : Chip) (n : Nat) : Bool := c.flag (R.CAN_MODE n) F.CAN_MODE_EN
def Chip.canErr (c : Chip) (n : Nat) : Nat := c.fget (R.CAN_STATUS n) F.CAN_STATUS_ERR_STATE

/-- R362: a transmit request is accepted for a transmit buffer, unless the crystal has failed. Assumption log 60 (DEDUCED). -/
def Chip.txRequest (c : Chip) (n b : Nat) : Chip :=
  if c.mbKindOf n b = 2 ∧ c.flag R.SYS_CLK_STATUS F.SYS_CLK_STATUS_XTAL40_OK ∧ ¬ c.mbPend n b then
    ((c.setMbPend n b true).fset (R.CAN_MB_STAT n b) F.CAN_MB_STAT_ATTEMPTS 0).fset (R.CAN_MB_STAT n b) F.CAN_MB_STAT_CANCEL_LATE 0
  else c

/-- R341: the object by which a CAN_TX command waits for buffer b of controller n, and for any reserved one. -/
def canTxObj (n b : Nat) : Nat := 64 * n + b
def canTxWait (n : Nat) : Nat := 1024 + n

/-- R364: the words a CAN_TX command puts into its buffer, from its payload (spec/11, CAN_TX). -/
def canTxWords (w : List Word) : List Word :=
  let a := w.getD 0 0
  let w0 := mbId.put (mbXtd.put (mbKind.of 2) (Fld.get ⟨11, 1⟩ a)) (Fld.get ⟨0, 29⟩ (w.getD 1 0))
  let w1 := mbDlc.put (mbFdf.put (mbBrs.put (mbOneShot.of (Fld.get ⟨8, 1⟩ a)) (Fld.get ⟨10, 1⟩ a)) (Fld.get ⟨9, 1⟩ a)) (Fld.get ⟨16, 4⟩ a)
  w0 :: w1 :: 0 :: w.drop 2

/-- spec/11, CAN_TX: the oldest waiting command of controller n takes a reserved buffer that is free, unless the crystal has failed (R362). -/
def Chip.canTxNext (c : Chip) (n : Nat) : Chip :=
  if !c.flag R.SYS_CLK_STATUS F.SYS_CLK_STATUS_XTAL40_OK then c
  else match (List.range 64).find? fun b => c.mbReserved n b && !c.mbPend n b with
  | none => c
  | some b =>
    match c.cmds.find? (onObj 0x68 (canTxWait n)) with
    | none => c
    | some k =>
      let c := { c with cmds := c.cmds.map fun (x : Cmd) => if x.rq = k.rq ∧ x.tag = k.tag ∧ x.op = 0x68 then { x with obj := canTxObj n b } else x }
      (c.mbFill n b (canTxWords k.w)).txRequest n b

/-! ### The immobiliser's frames (R450 to R452) -/

/-- R451: bytes 0 to 7 of a frame: the count, release or withdrawal, the deciding slot. -/
def immoHead (count slot : Nat) (release : Bool) : List Byte := beBytes 6 count ++ [.ofNat 8 release.toNat, .ofNat 8 slot]

/-- Four bytes as a word, the first highest. -/
def beWord (l : List Byte) : Word := .ofNat 32 (l.foldl (fun a b => a * 256 + b.toNat) 0)

/-- R451: the next count: the block's next, or the first of the next block, which is reserved in NVM first. -/
def Chip.nextCount (c : Chip) : Nat × Chip :=
  let a := c.acc
  if a.count < a.blockEnd then (a.count, { c with acc := { a with count := a.count + 1 } })
  else (a.nextBlock, { c with acc := { a with count := a.nextBlock + 1, blockEnd := a.nextBlock + 65536, nextBlock := a.nextBlock + 65536 } })

/-- R451: the access function writes MB62 of IMMO_CAN and requests its transmission. -/
def Chip.immoSend (c : Chip) (release : Bool) : Chip :=
  let n := c.fget R.ACC_CFG3 F.ACC_CFG3_IMMO_CAN
  let id := c.fget R.ACC_CFG3 F.ACC_CFG3_IMMO_ID
  let (k, c) := c.nextCount
  let h := immoHead k c.acc.slot release
  let m := Config.immoMac (beBytes 2 id ++ h)
  let w0 := mbId.put (mbKind.of 2) (id * 2 ^ 18)
  let w1 := mbDlc.put (mbFdf.of 1) 10
  ({ c with acc := { c.acc with frameWait := none } }.mbFill n 62
    [w0, w1, 0, beWord (h.take 4), beWord (h.drop 4), (m >>> 32).setWidth 32, m.setWidth 32]).txRequest n 62

/-- R451: a frame falls due: sent, or it waits while the previous one has no outcome yet. -/
def Chip.immoFrame (c : Chip) (release : Bool) : Chip :=
  if c.mbPend (c.fget R.ACC_CFG3 F.ACC_CFG3_IMMO_CAN) 62 then { c with acc := { c.acc with frameWait := some release } }
  else c.immoSend release

def Chip.released (c : Chip) : Bool := c.flag R.ACC_STATE F.ACC_STATE_RELEASED

/-- R450, R472: the IMMOBILISER record of a release or its withdrawal. Assumption log 64 (DEDUCED). -/
def Chip.immoRecord (c : Chip) (release : Bool) (ch : Nat) : Chip :=
  if c.logFull then c.bump R.ACC_UNLOGGED_CNT
  else c.log 0x88 (payload [(0, 1, release.toNat), (1, 1, c.acc.slot), (2, 1, ch), (4, 6, c.acc.count - 1)])

/-- R452: a release ends, its channel already off: the withdrawal frame, RELEASED clears, EV162. -/
def Chip.immoWithdraw (c : Chip) : Chip :=
  if c.released then
    (((c.immoFrame false).fset R.ACC_STATE F.ACC_STATE_RELEASED 0).raise 162).immoRecord false (c.fget R.ACC_CFG0 F.ACC_CFG0_SE_CH)
  else c

/-! ### Outcomes -/

/-- R369, R370: buffer b's transmission ends with an outcome: it is recorded, the buffer is no longer pending, EV117 + n;
a CAN_TX command on it completes (spec/11), and the next waiting frame takes the buffer. Assumption log 59 (PRESUMED). -/
def Chip.txOutcome (c : Chip) (n b : Nat) (o : TxOutcome) : Chip :=
  let c := ((c.setMbPend n b false).fset (R.CAN_MB_STAT n b) F.CAN_MB_STAT_OUTCOME o.code).raise (117 + n)
  let p := onObj 0x68 (canTxObj n b)
  let c := if o = .cancelled then c.finish p .cancelled [] else c.finish p .ok [.ofNat 32 (o.code - 1)]
  let c := match c.acc.frameWait with
    | some r => if b = 62 ∧ n = c.fget R.ACC_CFG3 F.ACC_CFG3_IMMO_CAN then c.immoSend r else c
    | none => c
  if c.canEn n then c.canTxNext n else c

/-- The pending buffers of controller n. -/
def Chip.pendMbs (c : Chip) (n : Nat) : List Nat := (List.range 64).filter fun b => c.mbPend n b

/-- Every pending buffer that keep does not name ends with an outcome. -/
def Chip.endPending (c : Chip) (n : Nat) (o : TxOutcome) (keep : Option Nat) : Chip :=
  ((c.pendMbs n).filter fun b => some b != keep).foldl (fun c b => c.txOutcome n b o) c

/-- R359, R374: the event of an error-state change, and of a BUS_ALONE onset (R361). Assumption log 59 (PRESUMED). -/
def errEvent (n : Nat) : Nat := if n = 8 then 125 else 101 + n
def aloneEvent (n : Nat) : Nat := if n = 8 then 125 else 109 + n

/-- R359: ERR_STATE changes, raising its event. -/
def Chip.setErr (c : Chip) (n st : Nat) : Chip :=
  if c.canErr n = st then c else (c.fset (R.CAN_STATUS n) F.CAN_STATUS_ERR_STATE st).raise (errEvent n)

/-- CAN_ERR shows TEC and REC (TEC saturates at 255 in the view). -/
def Chip.showErr (c : Chip) (n : Nat) : Chip :=
  c.fset (R.CAN_ERR n) F.CAN_ERR_TEC (min 255 (c.can n).tec) |>.fset (R.CAN_ERR n) F.CAN_ERR_REC (min 255 (c.can n).rec_)

/-- R359: the error state that TEC and REC give. -/
def errState (tec rec_ : Nat) : Nat := if 255 < tec then 2 else if 128 ≤ tec ∨ 128 ≤ rec_ then 1 else 0

/-- R359: TEC and REC take new values; the error state follows, and bus-off ends every pending buffer. Assumption log 59 (PRESUMED). -/
def Chip.setTecRec (c : Chip) (n tec rec_ : Nat) : Chip :=
  let st := errState tec rec_
  let was := c.canErr n
  let c := ((c.setCan n { c.can n with tec := tec, rec_ := rec_ }).showErr n).setErr n st
  if st = 2 ∧ was ≠ 2 then
    let c := (c.bump (R.CAN_BUSOFF_CNT n)).setCan n { c.can n with cur := none, recovering := c.flag (R.CAN_MODE n) F.CAN_MODE_AUTO_RECOVER }
    c.endPending n .busOff none
  else c

/-- R371: the controller stops; a CAN_ENABLE command that waits for it completes. -/
def Chip.canStop (c : Chip) (n : Nat) : Chip :=
  let c := c.setCan n { c.can n with cur := none, stopping := false, recovering := false, rejoin := false }
  let c := c.fset (R.CAN_STATUS n) F.CAN_STATUS_TX_ACTIVE 0 |>.fset (R.CAN_STATUS n) F.CAN_STATUS_RX_ACTIVE 0
    |>.fset (R.CAN_STATUS n) F.CAN_STATUS_IDLE 0
  (c.setErr n 3).finish (onObj 0x6A n) .ok []

/-- R371, R350: EN = 0: the frame on the bus runs on, every other pending buffer ends CANCELLED, and CAN_TX commands that
wait for a buffer complete CANCELLED. -/
def Chip.canDisable (c : Chip) (n : Nat) : Chip :=
  if c.canErr n = 3 then c.finish (onObj 0x6A n) .ok []
  else
    let c := (c.endPending n .cancelled (c.can n).cur).finish (onObj 0x68 (canTxWait n)) .cancelled []
    if (c.can n).cur.isSome || c.flag (R.CAN_STATUS n) F.CAN_STATUS_RX_ACTIVE then c.setCan n { c.can n with stopping := true }
    else c.canStop n

/-- R355, R356: the timing admits EN = 1. -/
def Chip.canTimingOk (c : Chip) (n : Nat) : Bool :=
  let a := c.rd (R.CAN_NBT n)
  let d := c.rd (R.CAN_DBT n)
  let n1 := F.CAN_NBT_TSEG1.get a + 1
  let n2 := F.CAN_NBT_TSEG2.get a + 1
  let d1 := F.CAN_DBT_TSEG1.get d + 1
  let d2 := F.CAN_DBT_TSEG2.get d + 1
  decide (80 ≤ (F.CAN_NBT_BRP.get a + 1) * (1 + n1 + n2)) && decide (10 ≤ (F.CAN_DBT_BRP.get d + 1) * (1 + d1 + d2)) &&
  decide (F.CAN_NBT_SJW.get a + 1 ≤ min n1 n2) && decide (F.CAN_DBT_SJW.get d + 1 ≤ min d1 d2)

/-- R356, R359: EN = 1: refused with CFG_BAD, or the controller starts with TEC and REC at zero; a disable that still waits
for a frame's end is over. -/
def Chip.canEnable (c : Chip) (n : Nat) : Chip :=
  if c.canTimingOk n then
    let c := (c.fset (R.CAN_STATUS n) F.CAN_STATUS_CFG_BAD 0).setCan n { c.can n with tec := 0, rec_ := 0, stopping := false, recovering := false }
    ((c.showErr n).setErr n 0 |>.canTxNext n).finish (onObj 0x6A n) .aborted []
  else (c.fset (R.CAN_MODE n) F.CAN_MODE_EN 0).fset (R.CAN_STATUS n) F.CAN_STATUS_CFG_BAD 1

/-- A write of CAN_MODE, its fields stored, old the word it held (R356, R359, R371). Assumption log 60 (DEDUCED). -/
def Chip.canMode (c : Chip) (n : Nat) (old x : Word) : Chip :=
  let c := if F.CAN_MODE_EN.get x = 1 ∧ F.CAN_MODE_EN.get old = 0 then c.canEnable n
    else if F.CAN_MODE_EN.get x = 0 ∧ F.CAN_MODE_EN.get old = 1 then c.canDisable n else c
  if F.CAN_MODE_RECOVER.get x = 1 ∧ c.canErr n = 2 then c.setCan n { c.can n with recovering := true } else c

/-- R356: writes of the timing registers while EN = 1 are lock violations. -/
def Chip.canTimingLocked (c : Chip) (n : Nat) : Bool := c.canEn n
/-- R356: CFG_BAD reads 1 until the timing is corrected. -/
def Chip.canTimingDone (c : Chip) (n : Nat) : Chip := if c.canTimingOk n then c.fset (R.CAN_STATUS n) F.CAN_STATUS_CFG_BAD 0 else c

/-- R369: a write of CAN_TXREQ word w. -/
def Chip.txReqWrite (c : Chip) (n w : Nat) (x : Word) : Chip :=
  ((List.range 32).filter x.toNat.testBit).foldl (fun c k => c.txRequest n (32 * w + k)) c

/-- R370: the cancel of a pending buffer: CANCELLED before its SOF, late after it. -/
def Chip.txCancel (c : Chip) (n b : Nat) : Chip :=
  if c.mbPend n b then
    if (c.can n).cur = some b then c.fset (R.CAN_MB_STAT n b) F.CAN_MB_STAT_CANCEL_LATE 1 else c.txOutcome n b .cancelled
  else c

/-- R370: a write of CAN_TXCANCEL word w. -/
def Chip.txCancelWrite (c : Chip) (n w : Nat) (x : Word) : Chip :=
  ((List.range 32).filter x.toNat.testBit).foldl (fun c k => c.txCancel n (32 * w + k)) c

/-- R17, R362: the crystal fails: every controller falls silent, and every pending buffer ends with ERROR, as do the CAN_TX commands
that wait for a buffer. Assumption log 60 (DEDUCED). -/
def Chip.canSilence (c : Chip) : Chip :=
  (List.range 9).foldl (fun c n =>
    (((c.setCan n { c.can n with cur := none }).fset (R.CAN_STATUS n) F.CAN_STATUS_TX_ACTIVE 0).endPending n .error none).finish
      (onObj 0x68 (canTxWait n)) .ok [2]) c

end Sys2Proof.Machine
end

