-- ==== Sys2Proof/Machine/MeasOps.lean ====
section
/-! DEFINITION. The operations of measurement that starts and trips call: load identification, the cross-coupling test
and reflectometry of a power die (spec/05). -/

namespace Sys2Proof.Machine
open Sys2Proof

/-- R72: the power die and physical die of a channel. -/
def pdie (ch : Nat) : Nat := ch / 48
def physDie (ch : Nat) : Nat := pdie ch + 2
/-- R72: the channel belongs to a paralleled pair. -/
def Chip.paired (c : Chip) (ch : Nat) : Bool := (c.fget (R.PWR_PAIR (pdie ch)) F.PWR_PAIR_PAIR).testBit (ch % 48 / 2)
/-- R72: the channel that stands for it: the even member of a paralleled pair. -/
def Chip.lead (c : Chip) (ch : Nat) : Nat := if c.paired ch then ch / 2 * 2 else ch
def Chip.oddMember (c : Chip) (ch : Nat) : Bool := c.paired ch && ch % 2 == 1
/-- The other member of a pair. -/
def mate (ch : Nat) : Nat := if ch % 2 = 0 then ch + 1 else ch - 1

/-- PWR_TDR_STATUS.STATUS: 1 running, 5 paused. -/
def Chip.tdrStatus (c : Chip) (n : Nat) : Nat := c.fget (R.PWR_TDR_STATUS n) F.PWR_TDR_STATUS_STATUS
def Chip.lidRunning (c : Chip) (n : Nat) : Nat := c.fget (R.PWR_HK_STATUS n) F.PWR_HK_STATUS_LID_RUNNING

/-- R165: the commitment in percent: 50, 6.25 for each identification, 25 for a running reflectometry. Assumption log 33 (DEDUCED). -/
def hkCommit (lids : Nat) (tdr : Bool) : Nat := (5000 + 625 * lids + (if tdr then 2500 else 0)) / 100

/-- PWR_HK_STATUS follows the identifications and the reflectometry that run (R165, R166). -/
def Chip.updateHk (c : Chip) (n lids : Nat) : Chip :=
  c.fset (R.PWR_HK_STATUS n) F.PWR_HK_STATUS_LID_RUNNING lids
    |>.fset (R.PWR_HK_STATUS n) F.PWR_HK_STATUS_COMMIT (hkCommit lids (c.tdrStatus n == 1))
    |>.fbit (R.PWR_HK_STATUS n) F.PWR_HK_STATUS_TDR_PAUSED (c.tdrStatus n == 5)

/-- R166: a running reflectometry pauses at its present step while three or four identifications run. -/
def Chip.tdrPause (c : Chip) (n : Nat) : Chip :=
  if c.tdrStatus n = 1 ∧ 3 ≤ c.lidRunning n then
    (c.fset (R.PWR_TDR_STATUS n) F.PWR_TDR_STATUS_STATUS 5).updateHk n (c.lidRunning n)
  else c

def Chip.lidStatus (c : Chip) (ch : Nat) : Nat := c.fget (R.CH_LID_RESULT ch) F.CH_LID_RESULT_STATUS

/-- R186: an identification ends with a status; SEQ counts the outcome. -/
def Chip.lidEnd (c : Chip) (ch status : Nat) : Chip :=
  let n := ch / 48
  (c.fset (R.CH_LID_RESULT ch) F.CH_LID_RESULT_STATUS status).fbumpWrap (R.CH_LID_RESULT ch) F.CH_LID_RESULT_SEQ
    |>.setChan ch { c.chan ch with lid := none } |>.updateHk n (c.lidRunning n - 1)

/-- R186: the channel leaves STARTING or ON by OFF, a trip or HELD before the result: ABORTED; ARM stays set, and a LID_ARM
command waits for the next start. -/
def Chip.lidAbort (c : Chip) (ch : Nat) : Chip :=
  if c.lidStatus ch = 1 then
    { c.lidEnd ch 3 with cmds := c.cmds.map fun k => if onObj 0x31 ch k then { k with started := false } else k }
  else c

/-- R183: a granted start in ON or SOFT_FUSE (mode m) of an armed channel begins an identification; with four running on the die
it is skipped and counted. Assumption log 34 (DEDUCED). -/
def Chip.lidStart (c : Chip) (ch m : Nat) : Chip :=
  let n := ch / 48
  if c.flag (R.CH_LID_CTRL ch) F.CH_LID_CTRL_ARM ∧ (m = 1 ∨ m = 3) then
    if 4 ≤ c.lidRunning n then
      (c.fset (R.CH_LID_RESULT ch) F.CH_LID_RESULT_STATUS 5).bump (R.PWR_LID_SKIP_CNT n)
    else
      let c := c.setChan ch { c.chan ch with lid := some { t0 := (c.ctr64 (R.PWR_TIME_LO n)).toNat } }
      (c.fset (R.CH_LID_RESULT ch) F.CH_LID_RESULT_STATUS 1 |>.fset (R.CH_LID_RESULT ch) F.CH_LID_RESULT_LIMITED 0
        |>.updateHk n (c.lidRunning n + 1)).tdrPause n |>.startCmds (onObj 0x31 ch)
  else c

/-- A cross-coupling test ends with a status; SEQ counts its end (R181, R182). Assumption log 32 (DEDUCED). -/
def Chip.xcEnd (c : Chip) (n status : Nat) : Chip :=
  (c.setDie n { c.die n with xc := none, reqs := (c.die n).reqs.filter fun r => !r.pulse }).fset
    (R.PWR_XC_STATUS n) F.PWR_XC_STATUS_STATUS status |>.fbumpWrap (R.PWR_XC_STATUS n) F.PWR_XC_STATUS_SEQ

/-- R182: the source's owner applies a driving mode, or the source trips: ABORTED, with zero HIT masks. -/
def Chip.xcAbort (c : Chip) (ch : Nat) : Chip :=
  match (c.die (ch / 48)).xc with
  | some (src, _) => if src = ch % 48 then
      (((c.xcEnd (ch / 48) 3).wr (R.PWR_XC_HIT0 (ch / 48)) 0).wr (R.PWR_XC_HIT1 (ch / 48)) 0).finish (onObj 0x33 ch) .aborted [] else c
  | none => c

/-- The channel of die n's reflectometry run (R187). -/
def Chip.tdrChan (c : Chip) (n : Nat) : Option Nat := (c.die n).tdr.map fun r => 48 * n + F.PWR_TDR_CTRL_SRC.get r.ctrl

/-- R190: a run ends ABORTED and sends no result. -/
def Chip.tdrAbort (c : Chip) (n : Nat) : Chip :=
  match c.tdrChan n with
  | some ch => (((c.setDie n { c.die n with tdr := none }).fset (R.PWR_TDR_STATUS n) F.PWR_TDR_STATUS_STATUS 3).updateHk n
      (c.lidRunning n)).finish (onObj 0x32 ch) .aborted []
  | none => c

/-- R190: the owner applies a driving mode while a run uses the channel, or a member of its pair (R72). -/
def Chip.tdrAbortOn (c : Chip) (ch : Nat) : Chip :=
  match c.tdrChan (pdie ch) with
  | some k => if c.lead k = c.lead ch then c.tdrAbort (pdie ch) else c
  | none => c

/-- R176: no off-state cycle runs on the die during a cross-coupling test or reflectometry. -/
def Chip.endCycles (c : Chip) (n : Nat) : Chip :=
  (List.range 48).foldl (fun c l => if (c.chan (48 * n + l)).cycle = 0 then c
    else c.setChan (48 * n + l) { c.chan (48 * n + l) with cycle := 0 }) c

end Sys2Proof.Machine
end

