-- ==== Sys2Proof/Machine/LightOps.lean ====
section
/-! DEFINITION. The operations of the sinks, the headroom converter and the lighting groups that channel faults and holds
call (spec/06). -/

namespace Sys2Proof.Machine
open Sys2Proof

/-! ### Sinks -/

/-- The states of a sink, with the codes of LS_STATUS.STATE. -/
inductive SinkState where
  | off | on | fault | cool | vledWait | held | limp
  deriving DecidableEq, Repr

def SinkState.code : SinkState → Nat
  | .off => 0 | .on => 1 | .fault => 2 | .cool => 3 | .vledWait => 4 | .held => 5 | .limp => 6
def SinkState.ofCode : Nat → SinkState
  | 1 => .on | 2 => .fault | 3 => .cool | 4 => .vledWait | 5 => .held | 6 => .limp | _ => .off

def Chip.sink (c : Chip) (s : Nat) : SinkX := Tbl.get (fun _ => {}) c.sinks s
def Chip.setSink (c : Chip) (s : Nat) (x : SinkX) : Chip := { c with sinks := Tbl.set (fun _ => {}) c.sinks s x }
def Chip.sinkState (c : Chip) (s : Nat) : SinkState := .ofCode (c.fget (R.LS_STATUS s) F.LS_STATUS_STATE)
def Chip.setSinkState (c : Chip) (s : Nat) (x : SinkState) : Chip := c.fset (R.LS_STATUS s) F.LS_STATUS_STATE x.code
def Chip.sinkInHold (c : Chip) (s : Nat) : Bool := c.sinkState s == .held || c.sinkState s == .limp
/-- R224: the state a sink runs in: in HELD and LIMP it keeps its own. -/
def Chip.sinkRun (c : Chip) (s : Nat) : SinkState := if c.sinkInHold s then .ofCode (c.sink s).sub else c.sinkState s
def Chip.setSinkRun (c : Chip) (s : Nat) (x : SinkState) : Chip :=
  if c.sinkInHold s then c.setSink s { c.sink s with sub := x.code } else c.setSinkState s x

/-- LS_STATUS.FAULT: the code while in FAULT, COOL or VLED_WAIT. -/
def Chip.sinkFaultCode (c : Chip) (s k : Nat) : Chip := c.fset (R.LS_STATUS s) F.LS_STATUS_FAULT k

/-- The group of the values in force; 12 to 15 is none. -/
def Chip.sinkGroup (c : Chip) (s : Nat) : Nat := F.LS_CFG_GROUP.get (c.sink s).act.cfg
/-- The member sinks of group g (R213). -/
def Chip.groupSinks (c : Chip) (g : Nat) : List Nat := (List.range 24).filter fun s => c.sinkGroup s == g

/-! ### Groups (R213 to R216) -/

/-- R213: the channels that LF_CH01 and LF_CH23 words name. -/
def memberChans (a b : Word) : List Nat :=
  (if F.LF_CH01_VALID0.get a = 1 then [F.LF_CH01_CHAN0.get a] else []) ++ (if F.LF_CH01_VALID1.get a = 1 then [F.LF_CH01_CHAN1.get a] else []) ++
  (if F.LF_CH23_VALID2.get b = 1 then [F.LF_CH23_CHAN2.get b] else []) ++ (if F.LF_CH23_VALID3.get b = 1 then [F.LF_CH23_CHAN3.get b] else [])
/-- The member channels of group g. -/
def Chip.groupChans (c : Chip) (g : Nat) : List Nat := memberChans (c.rd (R.LF_CH01 g)) (c.rd (R.LF_CH23 g))

def Chip.groupState (c : Chip) (g : Nat) : Nat := c.fget (R.LF_STATUS g) F.LF_STATUS_STATE
def Chip.engineSrc (c : Chip) (g : Nat) : Bool := c.fget (R.LF_CFG g) F.LF_CFG_SRC == 1
def Chip.groupEngine (c : Chip) (g : Nat) : Nat := c.fget (R.LF_CFG g) F.LF_CFG_ENGINE

/-- The channel is in LATCHED_OFF (6), whether it shows it or holds it. -/
def Chip.chLatched (c : Chip) (ch : Nat) : Bool :=
  let st := c.fget (R.CH_STATUS ch) F.CH_STATUS_STATE
  st == 6 || ((st == 7 || st == 8) && c.fget (R.CH_PROT_STATUS ch) F.CH_PROT_STATUS_HOLD_SUB == 6)

/-- R214: a flasher with SYNC = 1 whose SYNC_PE is engine e shows OUTAGE, as last relayed. -/
def Chip.flasherOut (c : Chip) (e : Nat) : Bool :=
  (List.range 16).any fun j => Tbl.get (fun _ => false) c.flashOut j &&
    c.flag (R.PWR_FLASH_CFG (j / 4) (j % 4)) F.PWR_FLASH_CFG_SYNC && c.fget (R.PWR_FLASH_CFG (j / 4) (j % 4)) F.PWR_FLASH_CFG_SYNC_PE == e

/-- R214: the condition of OUTAGE of group g. -/
def Chip.outage (c : Chip) (g : Nat) : Bool :=
  ((c.groupSinks g).any fun s => c.sinkRun s == .fault || c.sinkRun s == .cool) ||
  ((c.groupChans g).any fun ch => c.chLatched ch || c.flag (R.CH_OL_STATUS ch) F.CH_OL_STATUS_OPEN_ON
      || c.flag (R.CH_OL_STATUS ch) F.CH_OL_STATUS_OPEN_OFF) ||
  (c.engineSrc g && c.flasherOut (c.groupEngine g))

/-- R214: OUTAGE follows its condition; EV077 is raised at its onset. -/
def Chip.updateOutage (c : Chip) (g : Nat) : Chip :=
  let was := c.flag (R.LF_STATUS g) F.LF_STATUS_OUTAGE
  let now := c.outage g
  let c := c.fbit (R.LF_STATUS g) F.LF_STATUS_OUTAGE now
  if now && !was then c.raiseFrom 1 77 else c

def Chip.updateOutages (c : Chip) : Chip := (List.range 12).foldl Chip.updateOutage c

/-- R215: an all-or-none group in ACTIVE enters FAILED. -/
def Chip.groupFail (c : Chip) (g : Nat) : Chip :=
  if c.flag (R.LF_CFG g) F.LF_CFG_AON ∧ c.groupState g = 1 then (c.fset (R.LF_STATUS g) F.LF_STATUS_STATE 2).raiseFrom 1 73 else c

/-- R214, R215: channel ch has entered LATCHED_OFF, or shows cause 4 (open4), or another fault. -/
def Chip.onChanFault (c : Chip) (ch : Nat) (open4 : Bool) : Chip :=
  (List.range 12).foldl (fun c g =>
    if (c.groupChans g).contains ch then
      let c := c.updateOutage g
      if open4 || c.chLatched ch then c.groupFail g else c
    else c) c

/-- R206: a sink's fault of a code: counted, recorded in Q10, EV072; the sink is off and enters st. A sink that enters FAULT
fails its all-or-none group (R215). -/
def Chip.sinkFault (c : Chip) (s code : Nat) (st : SinkState) : Chip :=
  let c := c.setSink s { c.sink s with pulse := none, spill := none }
  let c := (c.fbump (R.LS_FAULT_CNT s) (byteFld (code - 1)) |>.setSinkRun s st |>.sinkFaultCode s code |>.q10From 1 72 s).raiseFrom 1 72
  let g := c.sinkGroup s
  if g < 12 then
    let c := c.updateOutage g
    if st = .fault then c.groupFail g else c
  else c

/-! ### Hold and limp (R224) -/

/-- R224: the LIMP_MODE in force: 0 OFF, 1 ON at LIMP_DUTY, 2 HOLD. -/
def Chip.sinkLimpMode (c : Chip) (s : Nat) : Nat := F.LS_CFG_LIMP_MODE.get (c.sink s).act.cfg

/-- R224, R207: LED_HOLD_TIME expires: a HELD sink takes its LIMP_MODE; OFF turns off a sink that is not faulted. -/
def Chip.sinkLimp (c : Chip) (s : Nat) : Chip :=
  if c.sinkState s = .held then
    let c := c.setSinkState s .limp
    match c.sinkRun s with
    | .on | .vledWait => if c.sinkLimpMode s = 0 then (c.setSinkRun s .off).sinkFaultCode s 0 else c
    | _ => c
  else c

def Chip.ledLimp (c : Chip) : Chip := (List.range 24).foldl Chip.sinkLimp c

/-- R224: the sentinel declares its link lost: every sink that is not OFF enters HELD; with a hold of 0 it takes its
LIMP_MODE at once. -/
def Chip.ledHold (c : Chip) : Chip :=
  let c := (List.range 24).foldl (fun c s =>
    if c.sinkState s = .off ∨ c.sinkInHold s then c else (c.setSink s { c.sink s with sub := (c.sinkState s).code }).setSinkState s .held) c
  if c.fget R.LED_HOLD_TIME F.LED_HOLD_TIME_HOLD = 0 then c.ledLimp else c

/-- R224: STARTUP: every sink is OFF until the supervisor has loaded its calibration and configuration; a fault stays.
Assumption log 88 (DEDUCED). -/
def Chip.sinksOff (c : Chip) : Chip :=
  (List.range 24).foldl (fun c s =>
    let c := c.setSink s { c.sink s with pulse := none, spill := none }
    match c.sinkRun s with
    | .on | .vledWait => (c.setSinkRun s .off).sinkFaultCode s 0
    | _ => c) c

/-- R224: after acknowledgement HELD sinks resume; LIMP sinks stay. -/
def Chip.ledResume (c : Chip) : Chip :=
  (List.range 24).foldl (fun c s => if c.sinkState s = .held then c.setSinkState s (.ofCode (c.sink s).sub) else c) c

end Sys2Proof.Machine
end

