-- ==== Sys2Proof/Machine/Hooks.lean ====
section
/-! DEFINITION. What a trip of a channel causes outside its die (R452), and the bookings of the valves' feed peaks (R242). -/

namespace Sys2Proof.Machine
open Sys2Proof

/-- R452: the START_ENABLE channel has left ON by a fault, so the release ends. -/
def Chip.onTrip (c : Chip) (ch : Nat) : Chip :=
  if c.fget R.ACC_CFG0 F.ACC_CFG0_SE_CH = ch then c.immoWithdraw else c

/-- R242: the booking of a valve's feed peak: PEAK_I, in mA. -/
def Chip.feedPeak (c : Chip) (v : Nat) : Nat :=
  if c.flag (R.VLV_STATUS v) F.VLV_STATUS_FEED_PEAK then 10 * c.fget (R.VLV_PEAK v) F.VLV_PEAK_PEAK_I else 0

/-- R242: the bookings of the feed peaks on power die n, in mA. -/
def Chip.valveBooking (c : Chip) (n : Nat) : Nat := ((List.range 4).map fun j => c.feedPeak (4 * n + j)).sum

end Sys2Proof.Machine
end

