-- ==== Sys2Proof/Machine/ChanOps.lean ====
section
/-! DEFINITION. The operations of a power die's channels and inrush scheduler: states, captured sets, starts, bookings,
grants, trips, disables, holding and limp (spec/03, spec/04). Channels are numbered 0 to 191. -/

namespace Sys2Proof.Machine
open Sys2Proof

/-- R99: the states of a channel, with the codes of CH_STATUS.STATE. -/
inductive ChState where
  | off | starting | on | pwm | limiting | cooldown | latchedOff | held | limp | disabled
  deriving DecidableEq, Repr

def ChState.code : ChState → Nat
  | .off => 0 | .starting => 1 | .on => 2 | .pwm => 3 | .limiting => 4 | .cooldown => 5 | .latchedOff => 6 | .held => 7
  | .limp => 8 | .disabled => 9

/-- The state of a code; 0xA to 0xF are not used. -/
def ChState.ofCode : Nat → ChState
  | 1 => .starting | 2 => .on | 3 => .pwm | 4 => .limiting | 5 => .cooldown | 6 => .latchedOff | 7 => .held | 8 => .limp
  | 9 => .disabled | _ => .off

/-- R99: the states in which the output is driven. -/
def ChState.driven : ChState → Bool
  | .starting | .on | .pwm | .limiting => true
  | _ => false

/-- CH_STATUS.STATE. -/
def Chip.chState (c : Chip) (ch : Nat) : ChState := .ofCode (c.fget (R.CH_STATUS ch) F.CH_STATUS_STATE)
/-- R176: an off-state cycle under way ends where the channel leaves its state. -/
def Chip.setChState (c : Chip) (ch : Nat) (x : ChState) : Chip :=
  (if c.chState ch = x then c else c.setChan ch { c.chan ch with cycle := 0 }).fset (R.CH_STATUS ch) F.CH_STATUS_STATE x.code
/-- CH_PROT_STATUS.HOLD_SUB. -/
def Chip.holdSub (c : Chip) (ch : Nat) : ChState := .ofCode (c.fget (R.CH_PROT_STATUS ch) F.CH_PROT_STATUS_HOLD_SUB)
def Chip.setHoldSub (c : Chip) (ch : Nat) (x : ChState) : Chip := c.fset (R.CH_PROT_STATUS ch) F.CH_PROT_STATUS_HOLD_SUB x.code

/-- The channel is in HELD or LIMP. -/
def Chip.inHold (c : Chip) (ch : Nat) : Bool := c.chState ch == .held || c.chState ch == .limp
/-- R155: the state the channel runs in: HOLD_SUB while it is HELD or LIMP, else its STATE. Assumption log 27 (DEDUCED). -/
def Chip.chRun (c : Chip) (ch : Nat) : ChState := if c.inHold ch then c.holdSub ch else c.chState ch
/-- R156: the running state changes; a HELD or LIMP channel stays so, with HOLD_SUB showing the new state. Assumption log 27 (DEDUCED). -/
def Chip.setChRun (c : Chip) (ch : Nat) (x : ChState) : Chip := if c.inHold ch then c.setHoldSub ch x else c.setChState ch x

/-- R74: CH_STATUS as it reads: an odd member of a pair mirrors the even one, with PAIR_ODD set. -/
def Chip.statusOf (c : Chip) (ch : Nat) : Word :=
  if c.oddMember ch then F.CH_STATUS_PAIR_ODD.put (c.rd (R.CH_STATUS (ch - 1))) 1 else c.rd (R.CH_STATUS ch)

def Chip.activeMode (c : Chip) (ch : Nat) : Nat := c.fget (R.CH_ACTIVE_CMD ch) F.CH_ACTIVE_CMD_MODE
/-- R157: the channel is in LIMP with LIMP_MODE ON (a sealed channel always): its output is fully on at the class ceiling. -/
def Chip.limpOn (c : Chip) (ch : Nat) : Bool :=
  c.chState ch == .limp && (isSealed ch || c.fget (R.CH_LIMP_CFG ch) F.CH_LIMP_CFG_LIMP_MODE == 1)
/-- The mode the channel drives in: ON in LIMP with LIMP_MODE ON (R157), else the active one. -/
def Chip.runMode (c : Chip) (ch : Nat) : Nat := if c.limpOn ch then 1 else c.activeMode ch
/-- R90: the output switches at the channel's PWM period. -/
def Chip.inPwm (c : Chip) (ch : Nat) : Bool :=
  match c.chRun ch with
  | .pwm => true
  | .limiting | .starting => c.runMode ch == 2
  | _ => false

def Chip.pendingGrant (c : Chip) (ch : Nat) : Bool := c.flag (R.CH_STATUS ch) F.CH_STATUS_PENDING_GRANT
/-- R87: the channel is the START_ENABLE channel. -/
def Chip.isStartEnable (c : Chip) (ch : Nat) : Bool := c.flag (R.CH_STATUS ch) F.CH_STATUS_START_ENABLE

/-- R70, R72: the class ceiling in mA, twice for a pair. -/
def Chip.ceiling (c : Chip) (ch : Nat) : Nat :=
  (match chClass (ch % 48) with | 0 => 60000 | 1 => 30000 | _ => 8000) * (if c.paired ch then 2 else 1)

/-- R77: the SOFT_FUSE step of a channel's class in µA, twice for a pair. -/
def Chip.softStep (c : Chip) (ch : Nat) : Nat :=
  (match chClass (ch % 48) with | 0 => 250000 | 1 => 125000 | _ => 62500) * (if c.paired ch then 2 else 1)

/-- R77: the ceiling of SOFT_FUSE in µA: CEIL steps; the class ceiling for 0 and for a product above it. -/
def Chip.softCeiling (c : Chip) (ch : Nat) : Nat :=
  let v := c.fget (R.CH_ACTIVE_CMD ch) F.CH_ACTIVE_CMD_CEIL * c.softStep ch
  if v = 0 ∨ 1000 * c.ceiling ch < v then 1000 * c.ceiling ch else v

/-- R76, R77, R157: the ceiling that the mode sets, in µA. -/
def Chip.modeCeiling (c : Chip) (ch : Nat) : Nat := if c.runMode ch = 3 then c.softCeiling ch else 1000 * c.ceiling ch

/-- R102, R121: the current-limit ceiling in force, in µA: the running segment's while the profile runs, then the mode's.
Assumption log 86 (DESIGN CHOICE): thresholds stand at their typical values. -/
def Chip.ceilingNow (c : Chip) (ch : Nat) : Nat :=
  match c.chRun ch, (c.chan ch).segs with
  | .starting, x :: _ => 1000 * c.ceiling ch * min 100 x.1 / 100
  | _, _ => c.modeCeiling ch

/-- R147: while REVERSE lasts a driven channel is driven fully on. -/
def Chip.fullyOn (c : Chip) (ch : Nat) : Bool :=
  (c.chRun ch).driven && c.flag (R.CH_PROT_STATUS ch) F.CH_PROT_STATUS_REVERSE

/-! ### Events of a power die -/

/-- R135: an event of power die n about a channel: raised and recorded in Q10 over the die's link. -/
def Chip.chEvent (c : Chip) (base ch : Nat) : Chip :=
  (c.q10From (physDie ch) (base + pdie ch) ch).raiseFrom (physDie ch) (base + pdie ch)

/-- R135: the 8-bit counter of a cause. -/
def Chip.countCause (c : Chip) (ch cause : Nat) : Chip := c.fbump (R.CH_CAUSE_CNT ch (cause / 4)) (byteFld (cause % 4))

/-! ### PWM periods (R79 to R83) -/

/-- R79: the period limits of a channel's class in 100 ns ticks. -/
def periodMin (ch : Nat) : Nat := if chClass (ch % 48) = 2 then 400 else 5000
def clampPeriod (ch p : Nat) : Nat := max (periodMin ch) (min 400000 p)

/-- R82: the minimum on-time and off-time of the slew setting in force, in ticks. -/
def Chip.minTime (c : Chip) (ch : Nat) : Nat := 20 * 2 ^ c.fget (R.CH_ACTIVE_CFG ch) F.CH_ACTIVE_CFG_SLEW
/-- R80: the on-time of a period, in ticks. -/
def Chip.rawOn (c : Chip) (ch : Nat) : Nat :=
  c.fget (R.CH_ACTIVE_CMD ch) F.CH_ACTIVE_CMD_DUTY * c.fget (R.CH_ACTIVE_PWM ch) F.CH_ACTIVE_PWM_PERIOD / 4096
/-- R83: the on-time lies where the minimum on-time or off-time departs from it. -/
def Chip.dutyLimited (c : Chip) (ch : Nat) : Bool :=
  c.rawOn ch ≠ 0 && (c.rawOn ch < c.minTime ch || c.fget (R.CH_ACTIVE_PWM ch) F.CH_ACTIVE_PWM_PERIOD - c.rawOn ch < c.minTime ch)
/-- R80, R83: the on-time of a period: lengthened to the minimum, and the whole period where the off-time left is shorter than
the minimum. -/
def Chip.onTime (c : Chip) (ch : Nat) : Nat :=
  let p := c.fget (R.CH_ACTIVE_PWM ch) F.CH_ACTIVE_PWM_PERIOD
  let t := max (c.rawOn ch) (c.minTime ch)
  if c.rawOn ch = 0 then 0 else if p < t + c.minTime ch then p else t

/-- R80, R83, R147: a new PWM period begins with these duty, period and slew; its off-time is suppressed while the channel is
fully on. -/
def Chip.newPeriod (c : Chip) (ch : Nat) (delay : Nat) : Chip :=
  let on := if c.fullyOn ch then c.fget (R.CH_ACTIVE_PWM ch) F.CH_ACTIVE_PWM_PERIOD else c.onTime ch
  (c.setChan ch { c.chan ch with onTicks := on, delay := delay, cycle := 0 }).fbit (R.CH_STATUS ch) F.CH_STATUS_DUTY_LIMITED (c.dutyLimited ch)

/-- The channel no longer switches at a PWM period: nothing shows of a limited duty, a stretch or its repayment (R83, R179). -/
def Chip.leavePwm (c : Chip) (ch : Nat) : Chip :=
  (c.setChan ch { c.chan ch with onTicks := 0, delay := 0, owed := 0 }).fset (R.CH_STATUS ch) F.CH_STATUS_DUTY_LIMITED 0
    |>.fset (R.CH_OL_STATUS ch) F.CH_OL_STATUS_DIAG_STARVED 0 |>.fset (R.CH_OL_STATUS ch) F.CH_OL_STATUS_STRETCHING 0

/-- R81: the delay of the first period, PHASE / 4096 of it. -/
def Chip.phaseDelay (c : Chip) (ch : Nat) : Nat :=
  c.fget (R.CH_ACTIVE_PWM ch) F.CH_ACTIVE_PWM_PHASE * c.fget (R.CH_ACTIVE_PWM ch) F.CH_ACTIVE_PWM_PERIOD / 4096

/-! ### The inrush scheduler (R106 to R116) -/

/-- R106: the booking of a profile that still has these segments to run, in mA. -/
def segsBooking (ceil : Nat) (segs : List (Nat × Nat)) : Nat := (segs.map fun x => ceil * min 100 x.1 / 100).foldl max 0

/-- R106: a channel's booking in mA: the highest remaining segment ceiling while it is starting. -/
def Chip.booking (c : Chip) (ch : Nat) : Nat :=
  if c.chRun ch = .starting && !c.oddMember ch then segsBooking (c.ceiling ch) (c.chan ch).segs else 0

/-- R181: a cross-coupling pulse is booked at 10 % of the source's class ceiling, in mA. -/
def Chip.pulseBook (c : Chip) (ch : Nat) : Nat := c.ceiling ch / 10

/-- The booking of a granted cross-coupling pulse of die n. -/
def Chip.xcBooking (c : Chip) (n : Nat) : Nat :=
  match (c.die n).xc with
  | some (src, true) => c.pulseBook (48 * n + src)
  | _ => 0

/-- R106, R242: the present sum of bookings of power die n in mA, feed peaks of its valves included. -/
def Chip.booked (c : Chip) (n : Nat) : Nat := ((List.range 48).map fun l => c.booking (48 * n + l)).sum + c.xcBooking n + c.valveBooking n

/-- R102, R103: the segments a start of profile k would run: those before the first whose duration is 0. -/
def Chip.profileSegs (c : Chip) (n k : Nat) : List (Nat × Nat) :=
  ((List.range (min 8 (c.fget (R.IP_HDR n k) F.IP_HDR_NSEG))).map fun s =>
    (c.fget (R.IP_SEG n k s) F.IP_SEG_CEIL_PCT, c.fget (R.IP_SEG n k s) F.IP_SEG_DUR)).takeWhile fun x => x.2 ≠ 0

/-- R103: the profile a channel's start runs: the selected one, or GENERIC (6) if that is invalid. -/
def Chip.startProfile (c : Chip) (ch : Nat) : Nat :=
  let k := c.fget (R.CH_ACTIVE_CFG ch) F.CH_ACTIVE_CFG_PROFILE
  if c.profileSegs (pdie ch) k = [] then 6 else k

/-- The booking a start of the channel would make, in mA (R106, R109). -/
def Chip.wouldBook (c : Chip) (ch : Nat) : Nat := segsBooking (c.ceiling ch) (c.profileSegs (pdie ch) (c.startProfile ch))

/-- R108: the request that is first: the lowest priority class, the earliest of it. -/
def firstReq : List StartReq → Option StartReq
  | [] => none
  | r :: l => match firstReq l with
    | none => some r
    | some b => if b.prio < r.prio then some b else some r

/-- The requests of a die without those of a channel. -/
def dropReq (ch : Nat) (l : List StartReq) : List StartReq := l.filter fun r => r.pulse || r.ch != ch

def Chip.setReqs (c : Chip) (n : Nat) (l : List StartReq) : Chip := c.setDie n { c.die n with reqs := l }

/-- R109, R100, R103: a start is granted: the profile is copied, the booking is made (R106), the channel is STARTING,
and CH_START_CNT counts. A retry from COOLDOWN uses one retry, unless its cause was a feed cause (R140). In PWM the PHASE delay of
the first period counts from the grant (R81, R105). Assumption log 30 (DEDUCED), 86 (DESIGN CHOICE). -/
def Chip.grant (c : Chip) (ch : Nat) : Chip :=
  let n := pdie ch
  let k := c.startProfile ch
  let fb := c.profileSegs n (c.fget (R.CH_ACTIVE_CFG ch) F.CH_ACTIVE_CFG_PROFILE) = []
  let retry := c.chRun ch = .cooldown ∧ c.fget (R.CH_STATUS ch) F.CH_STATUS_CAUSE ≠ 9 ∧ c.fget (R.CH_STATUS ch) F.CH_STATUS_CAUSE ≠ 10
  let x := { c.chan ch with segs := c.profileSegs n k, env := c.fget (R.IP_HDR n k) F.IP_HDR_ENV_FACTOR, boDone := false }
  let c := c.setReqs n (dropReq ch (c.die n).reqs) |>.setChan ch x
  let c := if retry then c.fbump (R.CH_PROT_STATUS ch) F.CH_PROT_STATUS_RETRY_NUM else c
  let c := c.fset (R.CH_STATUS ch) F.CH_STATUS_PENDING_GRANT 0 |>.fset (R.CH_STATUS ch) F.CH_STATUS_CAUSE 0
    |>.fbit (R.CH_STATUS ch) F.CH_STATUS_PROFILE_FALLBACK fb |>.bump (R.CH_START_CNT ch) |>.setChRun ch .starting
  let c := if c.runMode ch = 2 then c.newPeriod ch (c.phaseDelay ch) else c
  ((if 190 ≤ ch then c.fset (R.CH_PROT_STATUS ch) F.CH_PROT_STATUS_BYPASS_ON 0 else c).lidStart ch (c.runMode ch)).sealDrive ch

/-- The local channels of die n that a predicate picks, as a mask. -/
def localMask (p : Nat → Bool) : Nat := ((List.range 48).filter p).foldl (fun m l => m + 2 ^ l) 0

/-- R181: the pulse is granted: every other undriven channel whose output is below 50 % of the feed is watched; a pair is
driven as one (R72). Which outputs are below it is free (Config.outputsLow). Assumption log 31 (DESIGN CHOICE). -/
def Chip.xcGrant (c : Chip) (n src : Nat) : Chip :=
  let (k, c) := c.draw
  let low := Config.outputsLow n k
  let m := localMask fun l => c.lead (48 * n + l) != 48 * n + src && !(c.chRun (c.lead (48 * n + l))).driven && low.getLsbD l
  (c.setDie n { c.die n with xc := some (src, true), reqs := (c.die n).reqs.filter fun r => !r.pulse }).wr
    (R.PWR_XC_WATCH0 n) (.ofNat 32 m) |>.wr (R.PWR_XC_WATCH1 n) (.ofNat 32 (m / 2 ^ 32))

/-- A request is granted: its start, or its cross-coupling pulse. -/
def Chip.grantReq (c : Chip) (r : StartReq) : Chip := if r.pulse then c.xcGrant (pdie r.ch) (r.ch % 48) else c.grant r.ch

/-- R112: a grant at the cap, whatever the bookings: counted, recorded in Q10 and raised as EV040 + n. -/
def Chip.capGrant (c : Chip) (r : StartReq) : Chip :=
  (c.grantReq r).bump (R.CH_CAPGRANT_CNT r.ch) |>.bump (R.IS_CAPGRANT_CNT (pdie r.ch)) |>.chEvent 40 r.ch

/-- R109, R115: the first request of die n may be granted in order: its booking fits and no freeze holds it. -/
def Chip.fits (c : Chip) (n : Nat) (r : StartReq) : Bool :=
  !c.flag (R.IS_STATUS n) F.IS_STATUS_FROZEN &&
    c.booked n + (if r.pulse then c.pulseBook r.ch else c.wouldBook r.ch) ≤ 100 * c.fget (R.IS_BUDGET n) F.IS_BUDGET_BUDGET

/-- R109, R110: grant in order as many of the waiting requests as fit, at most k of them. -/
def Chip.grantInOrder (n : Nat) : Nat → Chip → Chip
  | 0, c => c
  | k + 1, c => match firstReq (c.die n).reqs with
    | none => c
    | some r => if c.fits n r then Chip.grantInOrder n k (c.grantReq r) else c

/-- R110: a re-examination of die n's requests. -/
def Chip.reexamine (c : Chip) (n : Nat) : Chip := Chip.grantInOrder n (c.die n).reqs.length c

/-- Treat every request of a list in its order. -/
def Chip.forReqs (f : Chip → StartReq → Chip) : List StartReq → Chip → Chip
  | [], c => c
  | r :: l, c => Chip.forReqs f l (f c r)

/-- R108: the requests of a list, ordered by priority class and within a class as they stand. -/
def byPrio (l : List StartReq) : List StartReq :=
  l.filter (·.prio = 0) ++ l.filter (·.prio = 1) ++ l.filter (·.prio = 2) ++ l.filter (·.prio = 3)

/-- Low half of a die's PWR_TIME, in µs. -/
def Chip.pwrTime (c : Chip) (n : Nat) : Nat := (c.ctr64 (R.PWR_TIME_LO n)).toNat

/-- R113, R116: requests that are granted on arrival whatever the bookings. -/
def Chip.exempt (c : Chip) (r : StartReq) : Bool :=
  (!r.pulse && (isSealed r.ch || c.isStartEnable r.ch)) || !c.flag (R.IS_CTRL (pdie r.ch)) F.IS_CTRL_ENABLE

/-- A channel's request, with its priority class and its arrival (R108). -/
def Chip.requestOf (c : Chip) (ch : Nat) (pulse : Bool) : StartReq :=
  ⟨ch, c.fget (R.CH_ACTIVE_CFG ch) F.CH_ACTIVE_CFG_PRIO, c.pwrTime (pdie ch), pulse⟩

/-- A request joins its die's requests (R108); a channel whose start waits shows PENDING_GRANT (R99). -/
def Chip.enqueue (c : Chip) (r : StartReq) : Chip :=
  let c := c.setReqs (pdie r.ch) ((c.die (pdie r.ch)).reqs ++ [r])
  if r.pulse then c else c.fset (R.CH_STATUS r.ch) F.CH_STATUS_PENDING_GRANT 1

/-- R111: the request is deferred and counted. -/
def Chip.defer (c : Chip) (r : StartReq) : Chip := (c.bump (R.CH_DEFER_CNT r.ch)).bump (R.IS_DEFER_CNT (pdie r.ch))

/-- R108 to R113: the requests of die n that arrive in one cycle, lowest local index first: those of R113 and R116 are
granted at once; then as many as fit are granted in order; what still waits is granted at the cap if DEFER_MAX is 0,
else it is deferred. Among arrivals of one cycle those of R113 and R116 go first. Assumption log 86 (DESIGN CHOICE). -/
def Chip.arriveReqs (c : Chip) (n : Nat) (rs : List StartReq) : Chip :=
  let c := Chip.forReqs Chip.enqueue rs c
  let c := Chip.forReqs (fun c r => if c.exempt r then c.grantReq r else c) rs c
  let c := c.reexamine n
  let wait := (c.die n).reqs.filter fun r => rs.contains r
  if c.fget (R.IS_CTRL n) F.IS_CTRL_DEFER_MAX = 0 then Chip.forReqs Chip.capGrant (byPrio wait) c
  else Chip.forReqs Chip.defer wait c

/-- The starts of these channels are requested in one cycle. -/
def Chip.arrive (c : Chip) (n : Nat) (chs : List Nat) : Chip := c.arriveReqs n (chs.map fun ch => c.requestOf ch false)

/-- R114: a waiting request is withdrawn; no booking is made. -/
def Chip.withdraw (c : Chip) (ch : Nat) : Chip :=
  (c.setReqs (pdie ch) (dropReq ch (c.die (pdie ch)).reqs)).fset (R.CH_STATUS ch) F.CH_STATUS_PENDING_GRANT 0

/-! ### Leaving the driven state -/

/-- The output stops being driven: the running profile ends and its booking with it (R106), PWM ends, and a bypass
conducts again (R152). -/
def Chip.stopDrive (c : Chip) (ch : Nat) : Chip :=
  let was := (c.chRun ch).driven
  let c := (c.setChan ch { c.chan ch with segs := [], boDone := false }).leavePwm ch
  let c := if 190 ≤ ch then c.fset (R.CH_PROT_STATUS ch) F.CH_PROT_STATUS_BYPASS_ON 1 else c
  if was then c.lidAbort ch else c

/-- R96: the pending set is discarded. -/
def Chip.dropPending (c : Chip) (ch : Nat) : Chip :=
  (c.setChan ch { c.chan ch with pend := none, align := false }).fset (R.CH_STATUS ch) F.CH_STATUS_PENDING_APPLY 0

/-- OFF is applied or the channel goes off: retries return to zero (R140), a waiting request is withdrawn (R114). -/
def Chip.goOff (c : Chip) (ch : Nat) : Chip :=
  (c.stopDrive ch).withdraw ch |>.setChRun ch .off |>.fset (R.CH_STATUS ch) F.CH_STATUS_CAUSE 0
    |>.fset (R.CH_PROT_STATUS ch) F.CH_PROT_STATUS_RETRY_NUM 0 |>.fset (R.CH_PROT_STATUS ch) F.CH_PROT_STATUS_COOLING 0

/-- R96, R141: the channel enters LATCHED_OFF: MODE is OFF in both CH_CMD and CH_ACTIVE_CMD, the pending set is
discarded, and the entry raises EV048 + n. -/
def Chip.latchOff (c : Chip) (ch : Nat) : Chip :=
  if c.chRun ch = .latchedOff then c
  else
    (c.stopDrive ch).withdraw ch |>.dropPending ch |>.setChRun ch .latchedOff
      |>.fset (R.CH_CMD ch) F.CH_CMD_MODE 0 |>.fset (R.CH_ACTIVE_CMD ch) F.CH_ACTIVE_CMD_MODE 0 |>.chEvent 48 ch

/-- R350: a disabled channel's LID_ARM that has not started is cancelled, a running one aborted. -/
def Chip.lidDisabled (c : Chip) (ch : Nat) : Chip :=
  (c.finish (fun k => onObj 0x31 ch k && !k.started) .cancelled []).finish (onObj 0x31 ch) .aborted []

/-- R153, R154, R96: the channel enters DISABLED. -/
def Chip.enterDisabled (c : Chip) (ch : Nat) : Chip :=
  ((c.lidDisabled ch).stopDrive ch).withdraw ch |>.dropPending ch |>.setHoldSub ch .off |>.setChState ch .disabled
    |>.fset (R.CH_STATUS ch) F.CH_STATUS_CAUSE 0
    |>.fset (R.CH_PROT_STATUS ch) F.CH_PROT_STATUS_DISABLE_PENDING 0 |>.fset (R.CH_PROT_STATUS ch) F.CH_PROT_STATUS_COOLING 0
    |> fun c => c.finish (onObj 0x14 ch) .ok [c.statusOf ch]

/-! ### Trips (R134 to R142) -/

/-- R136, R142: the fault record of a trip; NEIGHBOUR_INRUSH is set for every trip cause. Assumption log 87 (DESIGN CHOICE). -/
def Chip.faultRecord (c : Chip) (ch cause : Nat) (m : Sample) : Chip :=
  let n := pdie ch
  let hold := c.inHold ch
  let neigh := (List.range 48).any fun l => 48 * n + l ≠ c.lead ch && c.chRun (48 * n + l) == .starting
  let r0 := c.rd (R.CH_FAULT_REC0 ch)
  let r0 := F.CH_FAULT_REC0_SEQ.of (F.CH_FAULT_REC0_SEQ.get r0 + 1)
  let r0 := F.CH_FAULT_REC0_NEIGHBOUR_INRUSH.put r0 neigh.toNat
  let r0 := F.CH_FAULT_REC0_IN_HOLD.put r0 hold.toNat
  let r0 := F.CH_FAULT_REC0_FROZEN.put r0 (c.fget (R.IS_STATUS n) F.IS_STATUS_FROZEN)
  let r0 := F.CH_FAULT_REC0_RETRY_NUM.put r0 (c.fget (R.CH_PROT_STATUS (c.lead ch)) F.CH_PROT_STATUS_RETRY_NUM)
  let r0 := F.CH_FAULT_REC0_PRIOR_STATE.put r0 (c.chRun (c.lead ch)).code
  let r0 := F.CH_FAULT_REC0_CAUSE.put r0 cause
  c.wr (R.CH_FAULT_REC0 ch) r0
    |>.wr (R.CH_FAULT_REC1 ch) (F.CH_FAULT_REC1_I_TRIP.put (F.CH_FAULT_REC1_TJ.of m.tj.toNat) m.i.toNat)
    |>.wr (R.CH_FAULT_REC2 ch) (F.CH_FAULT_REC2_VFEED.put (F.CH_FAULT_REC2_VOUT.of m.vout.toNat) m.vfeed.toNat)
    |>.wr (R.CH_FAULT_TIME ch) (.ofNat 32 (c.pwrTime n))

/-- R135: each trip cause is counted, reported in Q10 and raised as EV044 + n. -/
def Chip.countTrips (c : Chip) (ch : Nat) (causes : List Nat) : Chip := causes.foldl (fun c k => (c.countCause ch k).chEvent 44 ch) c

/-- R135, R136: the trip causes of one PWR cycle: every one is counted, the first is recorded. -/
def Chip.declareTrip (c : Chip) (ch : Nat) (causes : List Nat) (m : Sample) : Chip :=
  (c.faultRecord ch (causes.headD 0) m).countTrips ch causes

/-- R136: the trip causes in the order in which the record and CAUSE take the first. -/
def causeOrder : List Nat := [9, 10, 1, 3, 8, 2, 11, 12]
/-- R136: the causes a trip of cause detects in its PWR cycle, first the one that is recorded. -/
def tripCauses (cause : Nat) (m : Sample) : List Nat :=
  causeOrder.filter fun k => k == cause || (m.also.contains k && (k == 1 || k == 2 || k == 3 || k == 11))

/-- R138, R151: the trip causes leave retries: always on a sealed channel, never with cause 8 on another channel, else if the
first is a feed cause, or fewer than RETRY_MAX retries are used. -/
def Chip.mayRetry (c : Chip) (ch : Nat) (causes : List Nat) : Bool :=
  isSealed ch || (!causes.contains 8 && (causes.headD 0 == 9 || causes.headD 0 == 10 ||
    decide (c.fget (R.CH_PROT_STATUS ch) F.CH_PROT_STATUS_RETRY_NUM < c.fget (R.CH_PROT_CFG ch) F.CH_PROT_CFG_RETRY_MAX)))

/-- R138, R141, R154: what the channel that stands for the pair does after a trip: DISABLED at once while a graceful
disable waits (not in HELD or LIMP, R156), COOLDOWN while retries remain, else LATCHED_OFF. shown is the cause CAUSE shows. -/
def Chip.afterTrip (c : Chip) (ch : Nat) (causes : List Nat) (shown : Nat) : Chip :=
  let retry := c.mayRetry ch causes
  let c := c.setChan ch { c.chan ch with lastTrip := causes.headD 0 }
  if c.flag (R.CH_PROT_STATUS ch) F.CH_PROT_STATUS_DISABLE_PENDING && !c.inHold ch then c.enterDisabled ch
  else if retry then
    (c.stopDrive ch).withdraw ch |>.setChRun ch .cooldown |>.fset (R.CH_STATUS ch) F.CH_STATUS_CAUSE shown
  else (c.latchOff ch).fset (R.CH_STATUS ch) F.CH_STATUS_CAUSE shown

/-- R135: the onset of a reporting cause: counted, reported in Q10 and raised as EV056 + n. -/
def Chip.reportCause (c : Chip) (ch cause : Nat) : Chip := ((c.countCause ch cause).chEvent 56 ch).onChanFault ch (cause == 4)

/-- R127, R132: the cooling condition of the channel's last fault is met; of a pair both junctions count. Assumption log 87
(DEDUCED). -/
def Chip.cooled (c : Chip) (ch : Nat) : Bool :=
  match (c.chan ch).lastTrip with
  | 3 => !c.flag (R.CH_PROT_STATUS ch) F.CH_PROT_STATUS_TJ_WARN &&
    !(c.paired ch && c.flag (R.CH_PROT_STATUS (mate ch)) F.CH_PROT_STATUS_TJ_WARN)
  | 11 => decide ((c.chan ch).level ≤ 1 / 2)
  | _ => true

/-- R139: the retry start of a channel whose back-off has expired is requested if its cooling condition is met; else
COOLING shows that it waits. Assumption log 30 (DEDUCED). -/
def Chip.retryStart (c : Chip) (ch : Nat) : Chip :=
  if c.cooled ch then (c.fset (R.CH_PROT_STATUS ch) F.CH_PROT_STATUS_COOLING 0).arrive (pdie ch) [ch]
  else c.fset (R.CH_PROT_STATUS ch) F.CH_PROT_STATUS_COOLING 1

/-! ### Applying a captured set (R78 to R83, R90 to R99, R158) -/

/-- The captured words enter the active set; a PERIOD outside the class's range is clamped (R79, R90). -/
def Chip.activate (c : Chip) (ch : Nat) (x : ChSet) : Chip :=
  let p := F.CH_PWM_PERIOD.get x.pwm
  let q := clampPeriod ch p
  let cmd := F.CH_ACTIVE_CMD_MODE.put (F.CH_ACTIVE_CMD_CEIL.put (F.CH_ACTIVE_CMD_DUTY.of (F.CH_CMD_DUTY.get x.cmd)) (F.CH_CMD_CEIL.get x.cmd)) (F.CH_CMD_MODE.get x.cmd)
  c.wr (R.CH_ACTIVE_CMD ch) cmd |>.wr (R.CH_ACTIVE_PWM ch) (F.CH_PWM_PERIOD.put x.pwm q) |>.wr (R.CH_ACTIVE_CFG ch) x.cfg
    |>.fbit (R.CH_STATUS ch) F.CH_STATUS_PERIOD_CLAMPED (q ≠ p)

/-- The state a driving mode gives (R76, R99). -/
def modeState (mode : Nat) : ChState := if mode = 2 then .pwm else .on

/-- A driving mode applied to a driven channel is no start (R78): while the profile runs it continues, else the state
follows the mode; a channel that enters PWM starts its first period after its phase delay (R81). was says that the output
switched at its PWM period before. In STARTING the output follows the new active mode at once (R90, R105), and the state does at
the profile's end (R99). Assumption log 86 (DESIGN CHOICE). -/
def Chip.changeMode (c : Chip) (ch mode : Nat) (was : Bool) (out : ChState → Chip → Chip) : Chip :=
  let st := if (c.chan ch).segs ≠ [] then ChState.starting else modeState mode
  let c := out st c
  if mode = 2 then (if was then c else c.newPeriod ch (c.phaseDelay ch)) else c.leavePwm ch

/-- R182, R190: a driving mode applied by the owner ends a cross-coupling test and a reflectometry run of the channel. -/
def Chip.driveApplied (c : Chip) (ch : Nat) : Chip := (c.xcAbort ch).tdrAbortOn ch

/-- R99, R158: mode (already in the active set) takes effect on the channel, whose output switched at its PWM period before or
not (was); a start it asks for is named by the Boolean. LIMITING stays until the current falls (R99). -/
def Chip.takeMode (c : Chip) (ch mode : Nat) (was : Bool) : Chip × Bool :=
  match c.chState ch with
  | .off => if mode = 0 then (c.goOff ch, false) else (c.driveApplied ch, !c.pendingGrant ch)
  | .starting | .on | .pwm =>
    if mode = 0 then (c.goOff ch, false) else ((c.changeMode ch mode was fun st c => c.setChState ch st).driveApplied ch, false)
  | .limiting =>
    if mode = 0 then (c.goOff ch, false) else ((c.changeMode ch mode was fun _ c => c).driveApplied ch, false)
  | .cooldown => if mode = 0 then (c.goOff ch, false) else (c.driveApplied ch, false)
  | .limp =>
    if mode = 0 then (((c.goOff ch).setHoldSub ch .off).setChState ch .off, false)
    else if (c.holdSub ch).driven then
      ((c.changeMode ch mode was fun st c => (c.setHoldSub ch .off).setChState ch st).driveApplied ch, false)
    else ((((c.goOff ch).setHoldSub ch .off).setChState ch .off).driveApplied ch, true)
  | _ => (c, false)

/-- R90: the pending set of a channel is applied. -/
def Chip.applySet (c : Chip) (ch : Nat) : Chip × Bool :=
  match (c.chan ch).pend with
  | none => (c, false)
  | some x => ((c.dropPending ch).activate ch x).takeMode ch (F.CH_CMD_MODE.get x.cmd) (c.inPwm ch)

/-- The pending set of the channel applies OFF. -/
def Chip.offPending (c : Chip) (ch : Nat) : Bool :=
  match (c.chan ch).pend with | some x => F.CH_CMD_MODE.get x.cmd == 0 | none => false

/-- R74, R134 to R137: the trip of causes (the recorded one first) found by channel ch, without the re-examination of the die's
requests. In a paralleled pair the other member reports cause 12, and the pair's even member goes off. In the PWR cycle of an
applied OFF the channel goes to OFF unless cause 8 is among them (R137). A sealed channel's interruption begins (R467). -/
def Chip.tripNow (c : Chip) (ch : Nat) (causes : List Nat) (m : Sample) : Chip :=
  let l := c.lead ch
  let shown := if l = ch then causes.headD 0 else 12
  let c' := c.declareTrip ch causes m
  let c' := if c.paired ch then c'.declareTrip (mate ch) [12] m else c'
  let c' := c'.xcAbort l
  let c' := if m.boundary && c.offPending l && !causes.contains 8
      && !(c.flag (R.CH_PROT_STATUS l) F.CH_PROT_STATUS_DISABLE_PENDING && !c.inHold l)
    then ((c'.setChan l { c'.chan l with lastTrip := causes.headD 0 }).applySet l).1
    else c'.afterTrip l causes shown
  ((c'.onTrip l).onChanFault l false).interruptBegin l (c.chRun l).code shown

/-- R110, R134: a trip of cause, and of those found in the same cycle (R136); the end of a booking re-examines the requests. -/
def Chip.trip (c : Chip) (ch cause : Nat) (m : Sample) : Chip := (c.tripNow ch (tripCauses cause m) m).reexamine (pdie ch)

/-- Apply the pending sets of a list of channels, collecting the starts they ask for, in order. -/
def Chip.applyAll : List Nat → Chip → Chip × List Nat
  | [], c => (c, [])
  | ch :: l, c =>
    let (c, start) := c.applySet ch
    let (c, more) := Chip.applyAll l c
    (c, if start then ch :: more else more)

/-- R90, R91, R94: the channel's shadow is captured; a set not yet applied is replaced and counted. -/
def Chip.capture (c : Chip) (ch : Nat) (align : Bool) : Chip :=
  let c := if (c.chan ch).pend.isSome then c.bump (R.PWR_COMMIT_OVERRUN_CNT (pdie ch)) else c
  (c.setChan ch { c.chan ch with pend := some ⟨c.rd (R.CH_CMD ch), c.rd (R.CH_PWM ch), c.rd (R.CH_CFG ch)⟩, align := align }).fset
    (R.CH_STATUS ch) F.CH_STATUS_PENDING_APPLY 1

/-- R91, R158: a single-channel capture is made in every state but LATCHED_OFF, DISABLED and HELD; in LIMP once the link
is acknowledged. -/
def Chip.mayCapture (c : Chip) (ch : Nat) : Bool :=
  match c.chState ch with
  | .latchedOff | .disabled | .held => false
  | .limp => !(c.link (physDie ch)).lost
  | _ => true

/-- R141: REARM takes a LATCHED_OFF channel to OFF once its cooling condition is met; else COOLING shows that it waits. -/
def Chip.rearm (c : Chip) (ch : Nat) : Chip :=
  if c.chState ch = .latchedOff then
    if c.cooled ch then c.goOff ch else c.fset (R.CH_PROT_STATUS ch) F.CH_PROT_STATUS_COOLING 1
  else c

/-- R76, R84, R91, R141: the fields of a write to CH_CMD by the owner: a reserved MODE leaves MODE unchanged, REARM comes
before APPLY. -/
def Chip.cmdFields (c : Chip) (ch : Nat) (x : Word) : Chip :=
  let c := c.fset (R.CH_CMD ch) F.CH_CMD_DUTY (F.CH_CMD_DUTY.get x) |>.fset (R.CH_CMD ch) F.CH_CMD_CEIL (F.CH_CMD_CEIL.get x)
  let c := if F.CH_CMD_MODE.get x < 4 then c.fset (R.CH_CMD ch) F.CH_CMD_MODE (F.CH_CMD_MODE.get x) else c
  let c := if F.CH_CMD_REARM.get x = 1 then c.rearm ch else c
  if F.CH_CMD_APPLY.get x = 1 ∧ c.mayCapture ch then c.capture ch false else c

/-- R84: the requester code that owns the channel. -/
def Chip.ownerOf (c : Chip) (ch : Nat) : Nat := c.fget (R.CH_OWNER ch) F.CH_OWNER_OWNER

/-- R84, R74, R34: a write to CH_CMD with requester code code. One that is not the owner's (of a pair the even member's) is
ignored and counted in CH_NOTOWNER_CNT and FOREIGN_WR_CNT; the owner's to the odd member of a pair is ignored and counted in
CH_NOTOWNER_CNT. -/
def Chip.writeCmd (c : Chip) (code ch : Nat) (x : Word) : Chip :=
  if c.ownerOf (c.lead ch) = code then (if c.oddMember ch then c.bump (R.CH_NOTOWNER_CNT ch) else c.cmdFields ch x)
  else (c.bump (R.CH_NOTOWNER_CNT ch)).fbump (R.PWR_FOREIGN_WR_CNT (pdie ch)) F.PWR_FOREIGN_WR_CNT_COUNT

/-- R95: a COMMIT skips odd members and channels that are LATCHED_OFF, DISABLED, HELD or LIMP. -/
def Chip.commitSkips (c : Chip) (ch : Nat) : Bool :=
  c.oddMember ch || (match c.chState ch with | .latchedOff | .disabled | .held | .limp => true | _ => false)

/-- R97: the channels of die n that its COMMIT masks select. -/
def Chip.commitMask (c : Chip) (n l : Nat) : Bool :=
  if l < 32 then (c.rd (R.PWR_COMMIT_MASK0 n)).toNat.testBit l else (c.fget (R.PWR_COMMIT_MASK1 n) F.PWR_COMMIT_MASK1_MASK).testBit (l - 32)

/-- R91, R92: GO captures every masked channel in one cycle; with ALIGN they all apply at the next commit tick. -/
def Chip.commitGo (c : Chip) (n : Nat) : Chip :=
  let al := c.flag (R.PWR_COMMIT n) F.PWR_COMMIT_ALIGN
  let c := c.bumpWrap (R.PWR_COMMIT_CNT n)
  ((List.range 48).filter fun l => c.commitMask n l && !c.commitSkips (48 * n + l)).foldl (fun c l => c.capture (48 * n + l) al) c

/-! ### Disabling, holding, limp -/

/-- R153: a disable is requested; one that ends a booking has the die's requests re-examined (R110). In HELD and LIMP it cannot
be delivered. Assumption log 26 (DEDUCED). -/
def Chip.disable (c : Chip) (ch : Nat) (force : Bool) : Chip :=
  if c.inHold ch || c.chState ch == .disabled then c
  else if force || !(c.chState ch).driven then (c.enterDisabled ch).reexamine (pdie ch)
  else (c.withdraw ch).fset (R.CH_PROT_STATUS ch) F.CH_PROT_STATUS_DISABLE_PENDING 1

/-- R154: DIS = 0 takes a DISABLED channel to OFF with its retry count at zero, and ends a graceful wait. Assumption log 26 (DEDUCED). -/
def Chip.enable (c : Chip) (ch : Nat) : Chip :=
  if c.chState ch = .disabled then c.goOff ch
  else (c.fset (R.CH_PROT_STATUS ch) F.CH_PROT_STATUS_DISABLE_PENDING 0).finish (onObj 0x14 ch) .cancelled []

/-- R155: a channel not in DISABLED enters HELD; HOLD_SUB records its state, a pending start from OFF is withdrawn and
its active mode set to OFF, and its pending set is discarded (R96). Assumption log 27 (DEDUCED). -/
def Chip.holdChan (c : Chip) (ch : Nat) : Chip :=
  if c.chState ch = .disabled then c
  else
    let c := if c.chState ch = .off && c.pendingGrant ch
      then (c.withdraw ch).fset (R.CH_ACTIVE_CMD ch) F.CH_ACTIVE_CMD_MODE 0 else c
    ((c.lidAbort ch).dropPending ch).setHoldSub ch (c.chRun ch) |>.setChState ch .held

/-- R157: a HELD channel enters LIMP, counts cause 13 and follows its LIMP_MODE (a sealed channel is always on); a
channel whose HOLD_SUB is LATCHED_OFF stays off. The Boolean asks for a start. Assumption log 27 (DEDUCED). -/
def Chip.limpChan (c : Chip) (ch : Nat) : Chip × Bool :=
  if c.chState ch = .held then
    let c := (c.countCause ch 13).setChState ch .limp
    let c := c.setDie (pdie ch) { c.die (pdie ch) with limped := true }
    if c.holdSub ch = .latchedOff then (c, false)
    else match (if isSealed ch then 1 else c.fget (R.CH_LIMP_CFG ch) F.CH_LIMP_CFG_LIMP_MODE) with
      | 0 => (((c.stopDrive ch).withdraw ch).setHoldSub ch .off |>.fset (R.CH_STATUS ch) F.CH_STATUS_CAUSE 0
        |>.fset (R.CH_PROT_STATUS ch) F.CH_PROT_STATUS_COOLING 0, false)
      | 1 => match c.holdSub ch with
        | .on | .pwm => ((c.leavePwm ch).setHoldSub ch .on, false)
        | .starting | .limiting => (c.leavePwm ch, false)
        | .off => (c, true)
        | _ => (c, false)
      | _ => (c, false)
  else (c, false)

/-- Apply limpChan to a list of channels, collecting the starts. -/
def Chip.limpAll : List Nat → Chip → Chip × List Nat
  | [], c => (c, [])
  | ch :: l, c =>
    let (c, start) := c.limpChan ch
    let (c, more) := Chip.limpAll l c
    (c, if start then ch :: more else more)

def dieChans (n : Nat) : List Nat := (List.range 48).map (48 * n + ·)
/-- R72: the channels of die n, a paralleled pair as its even member. -/
def Chip.leads (c : Chip) (n : Nat) : List Nat := (dieChans n).filter fun ch => !c.oddMember ch

/-- R157: HOLD_TIME of power die n expires. -/
def Chip.limpDie (c : Chip) (n : Nat) : Chip :=
  let (c, starts) := Chip.limpAll (c.leads n) (c.fset (R.PWR_PROT_STATUS n) F.PWR_PROT_STATUS_HOLD_LEFT 0)
  c.arrive n starts

/-- R155: power die n declares its link lost: its channels enter HELD, and HOLD_TIME starts; with HOLD_TIME = 0 they
pass straight to LIMP (R157). -/
def Chip.holdDie (c : Chip) (n : Nat) : Chip :=
  let c := (c.leads n).foldl (fun c ch => c.holdChan ch) c
  let h := c.fget (R.PWR_HOLD_TIME n) F.PWR_HOLD_TIME_HOLD
  if h = 0 then c.limpDie n else c.fset (R.PWR_PROT_STATUS n) F.PWR_PROT_STATUS_HOLD_LEFT h

/-- R158: the link is acknowledged: a HELD channel returns to the state in HOLD_SUB, a LIMP channel whose HOLD_SUB is
LATCHED_OFF enters LATCHED_OFF; other LIMP channels wait for their owners. -/
def Chip.resumeChan (c : Chip) (ch : Nat) : Chip :=
  if c.chState ch = .held ∨ (c.chState ch = .limp ∧ c.holdSub ch = .latchedOff) then
    (c.setChState ch (c.holdSub ch)).setHoldSub ch .off
  else c

/-- R157, R158: the channels of power die n after the acknowledgement; EV052 + n is raised once if any entered LIMP. -/
def Chip.resumeDie (c : Chip) (n : Nat) : Chip :=
  let c := (c.leads n).foldl (fun c ch => c.resumeChan ch) c
  let c := c.fset (R.PWR_PROT_STATUS n) F.PWR_PROT_STATUS_HOLD_LEFT 0
  if (c.die n).limped then (c.setDie n { c.die n with limped := false }).raiseFrom (n + 2) (52 + n) else c

end Sys2Proof.Machine
end

