-- ==== Sys2Proof/Machine/Access.lean ====
section
/-! DEFINITION. The access function and the immobiliser release (spec/15). -/

namespace Sys2Proof.Machine
open Sys2Proof

def Chip.setAcc (c : Chip) (a : AccX) : Chip := { c with acc := a }
def Chip.setRound (c : Chip) (r : Option Round) : Chip := c.setAcc { c.acc with round := r }
def Chip.enrolled (c : Chip) (s : Nat) : Bool := (c.fget R.ACC_ENROLLED F.ACC_ENROLLED_SLOTS).testBit s
def Chip.enrolledSlots (c : Chip) : List Nat := (List.range 10).filter c.enrolled
def Chip.seCh (c : Chip) : Nat := c.fget R.ACC_CFG0 F.ACC_CFG0_SE_CH

/-! ### Triggers (R438, R439) -/

/-- R439: a trigger sets up a round, or is held as the pending one; a pending ACC_LOCATE is never replaced, and what
arrives behind it is merged into the round after it. -/
def Chip.accTrigger (c : Chip) (t : Nat × Option Nat × Nat) : Chip :=
  match c.acc.round with
  | none => (c.setRound (some { trig := t.1, zone := t.2.1, blink := t.2.2 })).fset R.ACC_STATE F.ACC_STATE_ROUND 1
  | some _ => match c.acc.pend with
    | none => c.setAcc { c.acc with pend := some t }
    | some p =>
      if p.1 = 5 then
        if t.1 = 5 then c.bump R.ACC_TRIG_MERGE_CNT
        else
          let c' := c.setAcc { c.acc with pend2 := some t }
          if c.acc.pend2.isSome then c'.bump R.ACC_TRIG_MERGE_CNT else c'
      else (c.setAcc { c.acc with pend := some t }).bump R.ACC_TRIG_MERGE_CNT

/-- R438: the trigger a switch input gives when its VALUE changes to 1. -/
def Chip.inputTrigger (c : Chip) (i : Nat) : Option (Nat × Option Nat × Nat) :=
  let a := c.rd R.ACC_CFG1
  let b := c.rd R.ACC_CFG2
  let sz := some (F.ACC_CFG2_START_ZONE.get b)
  if F.ACC_CFG1_H0_EN.get a = 1 ∧ F.ACC_CFG1_H0_SI.get a = i then some (1, some (F.ACC_CFG1_H0_ZONE.get a), 15)
  else if F.ACC_CFG1_H1_EN.get a = 1 ∧ F.ACC_CFG1_H1_SI.get a = i then some (1, some (F.ACC_CFG1_H1_ZONE.get a), 15)
  else if F.ACC_CFG2_START_EN.get b = 1 ∧ F.ACC_CFG2_START_SI.get b = i then some (3, sz, 15)
  else if F.ACC_CFG2_KEY_EN.get b = 1 ∧ F.ACC_CFG2_KEY_SI.get b = i then some (4, sz, 15)
  else none

def Chip.accInput (c : Chip) (i : Nat) : Chip := match c.inputTrigger i with | some t => c.accTrigger t | none => c

/-! ### Polls and answers (R440 to R444) -/

/-- The k-th order of the elements of a list, n of them picked one after another. -/
def kthOrder : Nat → Nat → List Nat → List Nat
  | 0, _, _ => []
  | n + 1, k, l => match l[k % l.length]? with
    | some x => x :: kthOrder n (k / l.length) (l.erase x)
    | none => []

/-- R21, R447: the radio cannot range: its crystal is lost, or the access die is off or in reset. -/
def Chip.radioOff (c : Chip) : Bool := !c.flag R.SYS_CLK_STATUS F.SYS_CLK_STATUS_RADIO_XTAL_OK || !c.linkUp 7

/-- R441, R443: a poll with a fresh nonce; the first of a round uses the identity order, a retry a fresh random one. -/
def Chip.sendPoll (c : Chip) : Chip :=
  match c.acc.round with
  | some r =>
    if r.started ∧ r.polls < 4 ∧ (r.polls = 0 ∨ (r.ended ∧ r.hit ≠ [])) then
      let (k, c) := c.draw
      let order := if r.polls = 0 then List.range 10 else kthOrder 10 (Config.slotOrder k) (List.range 10)
      let always := if r.polls = 0 then c.enrolledSlots else r.always.filter r.hit.contains
      c.setRound (some { r with polls := r.polls + 1, order := order, nonce := Config.trng k, ended := false, hit := [], always := always, answered := [] })
    else c
  | none => c

/-- R442: the proof a token of this key gives for the two nonces (tag 1), and the module's answer (tag 2). -/
def tokenProof (key nm nt : BitVec 128) : BitVec 128 :=
  Config.aesCmac (Config.aesEncrypt key (nm ^^^ nt)) (1 :: beBytes 16 nm.toNat ++ beBytes 16 nt.toNat)
def moduleProof (key nm nt : BitVec 128) : BitVec 128 :=
  Config.aesCmac (Config.aesEncrypt key (nm ^^^ nt)) (2 :: beBytes 16 nt.toNat ++ beBytes 16 nm.toNat)

def Chip.tokenKey (c : Chip) (s : Nat) : BitVec 128 := Tbl.get (fun _ => 0) c.acc.keys s

/-- R442: a slot's authentication fails. -/
def Chip.authFailed (c : Chip) (r : Round) (s : Nat) : Chip :=
  ((c.setRound (some { r with failed := s :: r.failed.filter (· ≠ s), answered := r.answered.filter (·.1 ≠ s) })).fset
    (R.ACC_SLOT_RES s) F.ACC_SLOT_RES_RESULT 2 |>.bump R.ACC_AUTH_FAIL_CNT).raise 164

/-- R443: a corrupted window of slot s. -/
def Chip.windowHit (c : Chip) (r : Round) (s : Nat) : Chip :=
  let c := (c.setRound (some { r with hit := s :: r.hit.filter (· ≠ s) })).bump R.ACC_COLLISION_CNT
  if r.auth.contains s then c else c.fset (R.ACC_SLOT_RES s) F.ACC_SLOT_RES_RESULT 3

/-- R455, R472: an enrolment ends DENIED, logged as a refused command and as a TOKEN record. -/
def Chip.enrolDenied (c : Chip) (e : Enrol) (ident : BitVec 64) : Chip :=
  let c := ((c.setAcc { c.acc with enrol := none }).log 0x89 (payload [(0, 1, e.slot), (1, 1, 3), (8, 8, ident.toNat)])).refusedCommand e.rq 0x92
    CmdStatus.denied.code (.ofNat 32 e.slot)
  c.finish (fun k => k.op == 0x92 && k.rq == e.rq && k.tag == e.tag) .denied []

/-- R448: a valid use restarts the count of days. -/
def Chip.validUse (c : Chip) : Chip :=
  (c.setAcc { c.acc with lastUse := (c.ctr64 R.SEN_RTC_LO).toNat }).fset R.ACC_STATE F.ACC_STATE_DAYS 0

/-- R455: what the access die hears during an enrolment. Assumption log 64 (DEDUCED). -/
def Chip.enrolHeard (c : Chip) (e : Enrol) (rx : TokenRx) : Chip :=
  match rx with
  | .enrolling ident nt proof cm =>
    if e.given.isSome then c
    else match c.acc.transport.find? (·.1 == ident) with
      | none => c.enrolDenied e ident
      | some t =>
        if tokenProof t.2 e.nonce nt = proof ∧ cm ≤ 30 then
          let (k, c) := c.draw
          (c.setAcc { c.acc with enrol := some { e with given := some (ident, Config.trng k) } }).startCmds
            fun x => x.op == 0x92 && x.rq == e.rq && x.tag == e.tag
        else c.enrolDenied e ident
  | .confirm => match e.given with
    | some (ident, key) =>
      let c := (c.setAcc { c.acc with enrol := none, keys := Tbl.set (fun _ => 0) c.acc.keys e.slot key, ids := Tbl.set (fun _ => 0) c.acc.ids e.slot ident }).fbit R.ACC_ENROLLED (bitFld e.slot) true
      let c := (c.validUse.raise 167).log 0x89 (payload [(0, 1, e.slot), (1, 1, 1), (8, 8, ident.toNat)])
      c.finish (fun k => k.op == 0x92 && k.rq == e.rq && k.tag == e.tag) .ok []
    | none => c
  | _ => c

/-- R441 to R443: what is heard in window w of the present poll. -/
def Chip.tokenHeard (c : Chip) (w : Nat) (rx : TokenRx) : Chip :=
  match c.acc.enrol, c.acc.round with
  | some e, none => c.enrolHeard e rx
  | _, none => c
  | _, some r =>
    match r.order.idxOf? w with
    | none => c
    | some s =>
      if ¬ c.enrolled s ∨ r.ended then c
      else match rx with
        | .noise => c.windowHit r s
        | .answer nt proof =>
          if r.auth.contains s then c
          else if tokenProof (c.tokenKey s) r.nonce nt = proof then c.setRound (some { r with answered := (s, nt) :: r.answered })
          else c.authFailed r s
        | _ => c

/-- R442: the token accepts A_M, or rejects it. -/
def Chip.sessionOpen (c : Chip) (s : Nat) (accepted : Bool) : Chip :=
  match c.acc.round with
  | some r =>
    if r.answered.any (·.1 == s) then
      if accepted then
        (c.setRound (some { r with auth := s :: r.auth.filter (· ≠ s), failed := r.failed.filter (· ≠ s), answered := r.answered.filter (·.1 ≠ s) })).fset
          (R.ACC_SLOT_RES s) F.ACC_SLOT_RES_RESULT 1
      else c.authFailed r s
    else c
  | none => c

/-- The register field that holds the distance of slot s from ANTk. -/
def distReg (s k : Nat) : Nat × Fld :=
  match k with
  | 0 => (R.ACC_SLOT_D01 s, F.ACC_SLOT_D01_D0) | 1 => (R.ACC_SLOT_D01 s, F.ACC_SLOT_D01_D1)
  | 2 => (R.ACC_SLOT_D23 s, F.ACC_SLOT_D23_D2) | _ => (R.ACC_SLOT_D23 s, F.ACC_SLOT_D23_D3)

/-- R445: the distance of slot s from ANTk in cm; 0xFFFF: none. -/
def Chip.dist (c : Chip) (s k : Nat) : Nat := c.fget (distReg s k).1 (distReg s k).2

/-- R436: the port reads open or shorted. Assumption log 64 (DEDUCED). -/
def Chip.antFault (c : Chip) (k : Nat) : Bool := (c.fget R.UWB_STATUS F.UWB_STATUS_ANT_FAULT).testBit k

/-- R445: a ranging exchange of an open session on port k: a distance, or a corrupted window. -/
def Chip.ranged (c : Chip) (s k : Nat) (cm : Option Nat) : Chip :=
  match c.acc.round with
  | some r =>
    if r.auth.contains s ∧ ¬ r.gone.contains s then
      match cm with
      | some d => c.fset (distReg s k).1 (distReg s k).2 (if c.antFault k then 0xFFFF else min d 0xFFFE)
      | none => (c.fset (distReg s k).1 (distReg s k).2 0xFFFF).windowHit r s
    else c
  | none => c

/-! ### The decision (R437, R446, R447) -/

/-- R437: the token of slot s is inside zone z. Assumption log 64 (DEDUCED). -/
def Chip.inside (c : Chip) (s z : Nat) : Bool :=
  let x := c.rd (R.ACC_ZONE z)
  let d := c.dist s (F.ACC_ZONE_ANT_IN.get x)
  let o := c.dist s (F.ACC_ZONE_ANT_OUT.get x)
  F.ACC_ZONE_EN.get x == 1 && d != 0xFFFF && decide (d ≤ F.ACC_ZONE_R_IN.get x) &&
    (F.ACC_ZONE_OUT_EN.get x == 0 || (o != 0xFFFF && decide (F.ACC_ZONE_R_OUT.get x ≤ o)))

/-- The lowest zone that contains the token of slot s; 15: none. -/
def Chip.lowestZone (c : Chip) (s : Nat) : Nat := ((List.range 8).find? fun z => c.inside s z).getD 15
/-- The token's shortest distance from any port. -/
def Chip.nearest (c : Chip) (s : Nat) : Nat := ((List.range 4).map (c.dist s)).foldl min 0xFFFF

/-- The element with the least key, the first of equals. -/
def leastBy (f : Nat → Nat) : List Nat → Option Nat
  | [] => none
  | s :: l => match leastBy f l with
    | none => some s
    | some b => if f b < f s then some b else some s

/-- R446, R447: outcome, deciding slot, zone and distance of a round. Assumption log 64 (DEDUCED). -/
def Chip.decision (c : Chip) (r : Round) : Nat × Nat × Nat × Nat :=
  let auth := (List.range 10).filter fun s => r.auth.contains s && !r.gone.contains s
  let fallback := if auth ≠ [] then 3 else if r.failed ≠ [] then 4 else 2
  match r.trig with
  | 2 => if auth.contains r.blink then (1, r.blink, 15, c.nearest r.blink) else (fallback, 15, 15, 0)
  | 5 => match leastBy c.nearest auth with
    | some s => (1, s, c.lowestZone s, c.nearest s)
    | none => (fallback, 15, 15, 0)
  | _ =>
    let z := r.zone.getD 0
    let key (s : Nat) := c.dist s (c.fget (R.ACC_ZONE z) F.ACC_ZONE_ANT_IN)
    match leastBy key (auth.filter fun s => c.inside s z) with
    | some s => (1, s, z, key s)
    | none => (fallback, 15, 15, 0)

/-- ACC_STATUS and ACC_LOCATE: the last decision as one word (spec/11). -/
def Chip.lastDecision (c : Chip) : Word :=
  let a := c.rd R.ACC_LAST
  .ofNat 32 (F.ACC_LAST_SLOT.get a + F.ACC_LAST_ZONE.get a * 256 + F.ACC_LAST_DIST.get a * 65536)

/-- R450: the start is released: ON for the START_ENABLE channel, a block of counts, the first frame, EV161. Assumption log 64 (DEDUCED). -/
def Chip.release (c : Chip) (slot : Nat) : Chip :=
  let ch := c.seCh
  let w := F.CH_CMD_APPLY.put (F.CH_CMD_MODE.put (c.rd (R.CH_CMD ch)) 1) 1
  let w := F.CH_CMD_REARM.put w (if c.chState ch = .latchedOff then 1 else 0)
  let c := if c.linkUp (physDie ch) then c.writeCmd Req.access.code ch w else c
  let a := c.acc
  let c := c.setAcc { a with slot := slot, count := a.nextBlock, blockEnd := a.nextBlock + 65536, nextBlock := a.nextBlock + 65536 }
  let c := (c.immoFrame true).raise 161
  ((c.fset R.ACC_STATE F.ACC_STATE_RELEASED 1).bump R.ACC_RELEASE_CNT).immoRecord true ch

/-- R450: the conditions of a release beside the outcome and the trigger. -/
def Chip.mayRelease (c : Chip) : Bool :=
  c.mode == 4 && c.flag R.ACC_CFG3 F.ACC_CFG3_IMMO_EN && c.canEn (c.fget R.ACC_CFG3 F.ACC_CFG3_IMMO_CAN)

/-- R452: the release ends by a cause other than a fault: OFF is applied, then the withdrawal. -/
def Chip.immoEnd (c : Chip) : Chip :=
  if c.released then
    let ch := c.seCh
    let w := F.CH_CMD_APPLY.put (F.CH_CMD_REARM.put (F.CH_CMD_MODE.put (c.rd (R.CH_CMD ch)) 0) 0) 1
    (if c.linkUp (physDie ch) then c.writeCmd Req.access.code ch w else c).immoWithdraw
  else c

/-- R447, R472: a round ends with an outcome: ACC_LAST, EV160, the record or ACC_UNLOGGED_CNT; what GRANTED brings (R448 to
R450); an ACC_LOCATE command completes; and the pending trigger sets up the next round. -/
def Chip.roundEnd (c : Chip) (r : Round) (o : Nat × Nat × Nat × Nat) : Chip :=
  let last := F.ACC_LAST_OUTCOME.put (F.ACC_LAST_TRIGGER.put (F.ACC_LAST_SLOT.put (F.ACC_LAST_ZONE.put (F.ACC_LAST_DIST.of o.2.2.2) o.2.2.1) o.2.1) r.trig) o.1
  let c := (List.range 10).foldl (fun c s => c.fset (R.ACC_SLOT_RES s) F.ACC_SLOT_RES_ZONE (if r.auth.contains s then c.lowestZone s else 15)) c
  let c := (c.wr R.ACC_LAST last).raise 160
  let res := ((List.range 10).map fun s => c.fget (R.ACC_SLOT_RES s) F.ACC_SLOT_RES_RESULT * 16 ^ s).sum
  let c := if c.logFull then c.bump R.ACC_UNLOGGED_CNT
    else c.log 0x87 (payload [(0, 1, o.1), (1, 1, r.trig), (2, 1, o.2.1), (3, 1, o.2.2.1), (4, 2, o.2.2.2), (6, 5, res), (12, 4, (c.rd R.ACC_ROUND_CNT).toNat)])
  let c := if o.1 = 1 then
      let c := c.validUse
      if c.flag R.ACC_STATE F.ACC_STATE_POLL_STOPPED then (c.fset R.ACC_STATE F.ACC_STATE_POLL_STOPPED 0).raise 166 else c
    else c
  let c := if o.1 = 1 ∧ (r.trig = 3 ∨ r.trig = 4) ∧ c.mayRelease then c.release o.2.1 else c
  let c := if r.trig = 5 then c.finish (fun k => k.op == 0x91 && k.started) (if o.1 = 7 then .aborted else .ok) [c.lastDecision] else c
  let c := (c.fset R.UWB_STATUS F.UWB_STATUS_ACTIVE 0).fset R.ACC_STATE F.ACC_STATE_ROUND 0
  let next := c.acc.pend
  let c := c.setAcc { c.acc with round := none, pend := c.acc.pend2, pend2 := none }
  match next with
  | some t => c.accTrigger t
  | none => c

/-- R436, R438, R440: a round that is set up starts, in a mode in which D0 runs: the antennas are checked, every slot's result of the last round goes. With
the radio off it ends RADIO_OFF. -/
def Chip.roundStart (c : Chip) (ant : Nat) : Chip :=
  match c.acc.round with
  | some r =>
    if r.started ∨ ¬ c.awake then c
    else
      let c := c.bump R.ACC_ROUND_CNT
      let seq := (c.rd R.ACC_ROUND_CNT).toNat
      let c := (List.range 10).foldl (fun c s => c.wr (R.ACC_SLOT_RES s) (F.ACC_SLOT_RES_ZONE.put (F.ACC_SLOT_RES_SEQ.of seq) 15)
        |>.wr (R.ACC_SLOT_D01 s) 0xFFFFFFFF |>.wr (R.ACC_SLOT_D23 s) 0xFFFFFFFF) c
      let r := { r with started := true }
      let c := if r.trig = 5 then c.startCmds fun k => k.op == 0x91 else c
      if c.radioOff then (c.setRound (some r)).roundEnd r (6, 15, 15, 0)
      else (c.setRound (some r)).wr R.UWB_STATUS (F.UWB_STATUS_ANT_FAULT.put (F.UWB_STATUS_ACTIVE.of 1) ant)
  | none => c

/-- R443, R444: the windows of the present poll have ended: a slot corrupted after all four polls denies the round. -/
def Chip.windowsEnd (c : Chip) : Chip :=
  match c.acc.round with
  | some r =>
    if r.polls = 0 ∨ r.ended then c
    else if r.polls = 4 ∧ (r.always.filter r.hit.contains) ≠ [] then
      ((c.bump R.ACC_JAM_CNT).raise 163).roundEnd r (5, 15, 15, 0)
    else c.setRound (some { r with ended := true })
  | none => c

/-- R446: the round is decided, once no retry is due. A slot whose ranging was corrupted after the fourth poll as after
the others denies it as well (R444, R445). -/
def Chip.roundDecide (c : Chip) : Chip :=
  match c.acc.round with
  | some r =>
    if r.started ∧ 0 < r.polls ∧ r.ended ∧ (r.hit = [] ∨ r.polls = 4) then
      if r.polls = 4 ∧ (r.always.filter r.hit.contains) ≠ [] then ((c.bump R.ACC_JAM_CNT).raise 163).roundEnd r (5, 15, 15, 0)
      else c.roundEnd r (c.decision r)
    else c
  | none => c

/-- R447: a running round is cancelled, by parking entry or an abort; without a round its pending ACC_LOCATE goes. -/
def Chip.roundCancel (c : Chip) : Chip :=
  match c.acc.round with
  | some r => c.roundEnd r (7, 15, 15, 0)
  | none => c

/-- R21, R447: ranging stops; a running round ends RADIO_OFF. -/
def Chip.radioLost (c : Chip) : Chip :=
  match c.acc.round with
  | some r => if r.started then c.roundEnd r (6, 15, 15, 0) else c
  | none => c

/-- R440, R448: the access die listens for blinks now. -/
def Chip.listens (c : Chip) : Bool := (c.mode == 3 || c.mode == 4) && !c.flag R.ACC_STATE F.ACC_STATE_POLL_STOPPED && !c.radioOff

/-- R438, R440: an enrolled token's blink: a trigger; the module polls at once if no round runs. Assumption log 64 (DEDUCED). -/
def Chip.blinkHeard (c : Chip) (s ant : Nat) : Chip :=
  if c.listens && c.enrolled s then
    let free := c.acc.round.isNone
    let c := c.accTrigger (2, none, s)
    if free then (c.roundStart ant).sendPoll else c
  else c

/-! ### Meanings -/

/-- R440. -/
def execAccRoundStart (antFault : BitVec 4) (s : State) : Host.Outcome State Fault Refusal := .next (s.onChip (·.roundStart antFault.toNat))
/-- R441. -/
def execAccPoll (s : State) : Host.Outcome State Fault Refusal := .next (s.onChip (·.sendPoll))
/-- R441, R455. -/
def execAccTokenResponse (w : Fin 10) (rx : TokenRx) (s : State) : Host.Outcome State Fault Refusal := .next (s.onChip (·.tokenHeard w rx))
/-- R443. -/
def execAccSlotWindowsEnd (s : State) : Host.Outcome State Fault Refusal := .next (s.onChip (·.windowsEnd))
/-- R442. -/
def execAccSessionOpen (slot : Fin 10) (accepted : Bool) (s : State) : Host.Outcome State Fault Refusal :=
  .next (s.onChip (·.sessionOpen slot accepted))
/-- R445. -/
def execAccRangingExchange (slot : Fin 10) (port : Fin 4) (cm : Option Nat) (s : State) : Host.Outcome State Fault Refusal :=
  .next (s.onChip (·.ranged slot port cm))
/-- R446. -/
def execAccRoundDecide (s : State) : Host.Outcome State Fault Refusal := .next (s.onChip (·.roundDecide))
/-- R451. -/
def execAccReleasePeriod (s : State) : Host.Outcome State Fault Refusal :=
  .next (s.onChip fun c => if c.released then c.immoFrame true else c)
/-- R440. -/
def execAccBlink (slot : Fin 10) (antFault : BitVec 4) (s : State) : Host.Outcome State Fault Refusal :=
  .next (s.onChip (·.blinkHeard slot antFault.toNat))
/-- R448. -/
def execAccPollDaysExpire (s : State) : Host.Outcome State Fault Refusal :=
  .next (s.onChip fun c =>
    if c.flag R.ACC_STATE F.ACC_STATE_POLL_STOPPED then c
    else ((c.fset R.ACC_STATE F.ACC_STATE_POLL_STOPPED 1).fset R.ACC_STATE F.ACC_STATE_DAYS
      (max (c.fget R.ACC_STATE F.ACC_STATE_DAYS) (c.fget R.ACC_CFG0 F.ACC_CFG0_POLL_DAYS))).raise 165)
/-- R455. -/
def execAccEnrolTimeout (s : State) : Host.Outcome State Fault Refusal :=
  .next (s.onChip fun c => match c.acc.enrol with
    | some e => (c.setAcc { c.acc with enrol := none }).finish (fun k => k.op == 0x92 && k.rq == e.rq && k.tag == e.tag) .timeout []
    | none => c)

end Sys2Proof.Machine
end

