-- ==== Sys2Proof/Machine/Can.lean ====
section
/-! DEFINITION. What happens at the CAN, service and LIN controllers by itself (spec/12). -/

namespace Sys2Proof.Machine
open Sys2Proof

/-! ### Transmission -/

/-- R369: the pending buffer that wins among those of controller n: the lowest identifier, then the lowest number. An FD
buffer does not take part while FD_EN = 0 (R358). Assumption log 60 (DEDUCED). -/
def Chip.txWinner (c : Chip) (n : Nat) : Option Nat :=
  let ok (b : Nat) := c.flag (R.CAN_MODE n) F.CAN_MODE_FD_EN || mbFdf.get (c.mbWord n b 1) == 0
  ((c.pendMbs n).filter ok).foldl (fun w b => match w with
    | none => some b
    | some a => if mbId.get (c.mbWord n b 0) < mbId.get (c.mbWord n a 0) then some b else some a) none

/-- The controller may put dominant bits on the bus now (R358, R359, R371; LISTEN_ONLY; R17). -/
def Chip.canMaySend (c : Chip) (n : Nat) : Bool :=
  c.canEn n && c.canErr n < 2 && !(c.can n).stopping && !(c.can n).rejoin && (c.can n).cur.isNone &&
    !c.flag (R.CAN_MODE n) F.CAN_MODE_LISTEN_ONLY && c.flag R.SYS_CLK_STATUS F.SYS_CLK_STATUS_XTAL40_OK

/-- R369: the bus becomes free: the winner's SOF is sent, or the bus is idle. A reception that was under way has ended,
and with it a controller that was to stop (R371). -/
def Chip.arbitrate (c : Chip) (n : Nat) : Chip :=
  let c := c.fset (R.CAN_STATUS n) F.CAN_STATUS_RX_ACTIVE 0
  if (c.can n).stopping ∧ (c.can n).cur = none then c.canStop n
  else if c.canMaySend n then
    match c.txWinner n with
    | some b =>
      (c.setCan n { c.can n with cur := some b }).fbump (R.CAN_MB_STAT n b) F.CAN_MB_STAT_ATTEMPTS
        |>.fset (R.CAN_STATUS n) F.CAN_STATUS_TX_ACTIVE 1 |>.fset (R.CAN_STATUS n) F.CAN_STATUS_IDLE 0
        |>.startCmds (onObj 0x68 (canTxObj n b))
    | none => c.fset (R.CAN_STATUS n) F.CAN_STATUS_IDLE 1
  else c

/-- R369, R370: an attempt of buffer b that did not succeed ends with an outcome, or b rejoins the next arbitration. Assumption log 60 (DEDUCED). -/
def Chip.txRetry (c : Chip) (n b : Nat) (o : TxOutcome) : Chip :=
  if mbOneShot.get (c.mbWord n b 1) = 1 ∨ c.flag (R.CAN_MB_STAT n b) F.CAN_MB_STAT_CANCEL_LATE ∨ (c.can n).stopping then c.txOutcome n b o
  else { c with cmds := c.cmds.map fun k => if onObj 0x68 (canTxObj n b) k then { k with started := false } else k }

/-- R361: an acknowledge error counts towards BUS_ALONE; the Boolean says that BUS_ALONE is set. -/
def Chip.ackMissed (c : Chip) (n : Nat) : Chip :=
  let k := (c.can n).alone + 1
  let c := c.setCan n { c.can n with alone := k }
  if 16 ≤ k ∧ ¬ c.flag (R.CAN_STATUS n) F.CAN_STATUS_BUS_ALONE then
    ((c.fset (R.CAN_STATUS n) F.CAN_STATUS_BUS_ALONE 1).bump (R.CAN_ALONE_CNT n)).raise (aloneEvent n)
  else c

/-- R361: a frame was acknowledged, or a valid one received. -/
def Chip.notAlone (c : Chip) (n : Nat) : Chip :=
  (c.setCan n { c.can n with alone := 0 }).fset (R.CAN_STATUS n) F.CAN_STATUS_BUS_ALONE 0

/-- R359, R360, R361, R369: the attempt of buffer b ends. The error counters come first; a bus-off entry ends b with the
other pending buffers. Assumption log 59 (PRESUMED). -/
def Chip.attemptEnd (c : Chip) (n b : Nat) (how : TxEnd) : Chip :=
  let c := (c.setCan n { c.can n with cur := none }).fset (R.CAN_STATUS n) F.CAN_STATUS_TX_ACTIVE 0
  let x := c.can n
  match how with
  | .done => ((c.setTecRec n (x.tec - 1) x.rec_).notAlone n).txOutcome n b .transmitted
  | .lost => (c.fset (R.CAN_STATUS n) F.CAN_STATUS_RX_ACTIVE 1).txRetry n b .lost
  | .ackError dom =>
    let c := (if c.canErr n = 1 ∧ ¬ dom then c else c.setTecRec n (x.tec + 8) x.rec_).ackMissed n
    if ¬ c.mbPend n b then c
    else if c.flag (R.CAN_STATUS n) F.CAN_STATUS_BUS_ALONE ∧ c.flag (R.CAN_MODE n) F.CAN_MODE_ALONE_SUSPEND then c.txOutcome n b .suspended
    else c.txRetry n b .error
  | .error counted =>
    let c := if counted then c.setTecRec n (x.tec + 8) x.rec_ else c
    if c.mbPend n b then c.txRetry n b .error else c

/-- R395: the pads of controller n are held, so that nothing it sends reaches the bus; those of the integrated transceivers receive
nothing either. -/
def Chip.canHeld (c : Chip) (n : Nat) : Bool := c.flag R.SYS_PAD_HOLD (bitFld (if n < 6 then 8 else if n < 8 then 1 else 9))
/-- R395: an attempt on held pads ends in an acknowledge error. -/
def heldEnd : TxEnd → TxEnd
  | .ackError dom => .ackError dom
  | _ => .ackError false

/-- R357, R369, R371: a transmit attempt ends; the delay it measured is shown, and a controller that was to stop stops. -/
def Chip.txAttemptEnd (c : Chip) (n : Nat) (how : TxEnd) (tdcv : Nat) : Chip :=
  match (c.can n).cur with
  | none => c
  | some b =>
    let how := if c.canHeld n then heldEnd how else how
    let c := if c.flag (R.CAN_TDC n) F.CAN_TDC_EN ∧ mbFdf.get (c.mbWord n b 1) = 1 ∧ c.fget (R.CAN_TDC n) F.CAN_TDC_TDCF ≤ tdcv
      then c.fset (R.CAN_TDC n) F.CAN_TDC_TDCV tdcv else c
    let c := c.attemptEnd n b how
    if (c.can n).stopping ∧ how ≠ .lost then c.canStop n else c

/-! ### Reception -/

/-- R364: a received frame's words. -/
def frameWords (f : CanFrame) (kind filter : Nat) (sof : Word) : List Word :=
  let w0 := mbId.put (mbXtd.put (mbKind.of kind) f.xtd.toNat) f.id.toNat
  let w1 := mbDlc.put (mbFdf.put (mbBrs.put (mbEsi.put (mbRtr.put (mbFilter.of filter) f.rtr.toNat) f.esi.toNat) f.brs.toNat) f.fdf.toNat) f.dlc
  w0 :: w1 :: sof :: (List.range (lastWord w1 - 2)).map fun k => f.data.getD k 0

/-- R367: the frame matches filter k. -/
def Chip.filterMatch (c : Chip) (n k : Nat) (f : CanFrame) : Bool :=
  let d := c.rd (R.CAN_FLT_ID n k)
  F.CAN_FLT_ID_EN.get d == 1 && F.CAN_FLT_ID_XTD.get d == f.xtd.toNat &&
    (BitVec.ofNat 29 (F.CAN_FLT_ID_ID.get d) ^^^ f.id) &&& BitVec.ofNat 29 (c.fget (R.CAN_FLT_MASK n k) F.CAN_FLT_MASK_MASK) == 0

/-- R367, R368: a valid frame goes to the lowest matching filter's receive buffer, else to the queue, or is discarded. An
accepted frame on a controller of FW_MASK ends the false-wake check (R428). -/
def Chip.filterFrame (c : Chip) (n : Nat) (f : CanFrame) (sof : Word) : Chip :=
  match (List.range 64).find? fun k => c.filterMatch n k f with
  | none => c.bump (R.CAN_RX_NOMATCH_CNT n)
  | some k =>
    let c := if n < 8 ∧ (c.fget R.NM_CTRL F.NM_CTRL_FW_MASK).testBit n then c.fset R.NM_FW_STATUS F.NM_FW_STATUS_ARMED 0 else c
    if c.mbKindOf n k = 1 then c.mbAccept n k (frameWords f 1 k sof)
    else
      let ws := frameWords f 0 k sof
      let c := if ws.length ≤ c.qFree (11 + n) then c else (c.bump (R.CAN_RX_DROP_CNT n)).raise 127
      c.hwPush (11 + n) ws

/-- R358, R395: controller n receives frames: enabled, not bus-off, its pads not held. -/
def Chip.canHears (c : Chip) (n : Nat) : Bool :=
  (c.canEn n || (c.can n).stopping) && decide (c.canErr n < 2) && !(c.can n).rejoin && (!c.canHeld n || (6 ≤ n && n < 8))

/-- R358, R359, R367: a frame is received. REC falls by one after a correct reception, to a value between 119 and 127
from above 127, and rises by one, or by eight, after an error (ISO 11898-1). Assumption log 59 (PRESUMED). -/
def Chip.frameReceived (c : Chip) (n : Nat) (rx : CanRx) (sof : Word) : Chip :=
  if ¬ c.canHears n then c
  else
    let x := c.can n
    let c := c.fset (R.CAN_STATUS n) F.CAN_STATUS_RX_ACTIVE 0
    let c := match rx with
      | .valid f =>
        if f.fdf ∧ ¬ c.flag (R.CAN_MODE n) F.CAN_MODE_FD_EN then c.setCan n { x with rejoin := true }
        else
          let (k, c) := c.draw
          (((c.setTecRec n x.tec (if 127 < x.rec_ then 119 + Config.recAfter k % 9 else x.rec_ - 1)).notAlone n).filterFrame n f sof)
      | .error dom => c.setTecRec n x.tec (x.rec_ + if dom then 8 else 1)
    if (c.can n).stopping ∧ (c.can n).cur = none then c.canStop n else c

/-! ### LIN (R376 to R379) -/

def Chip.lin (c : Chip) (n : Nat) : LinX := Tbl.get (fun _ => {}) c.lins n
def Chip.setLin (c : Chip) (n : Nat) (x : LinX) : Chip := { c with lins := Tbl.set (fun _ => {}) c.lins n x }
def Chip.linRole (c : Chip) (n : Nat) : Nat := c.fget (R.LIN_CTRL n) F.LIN_CTRL_ROLE
def Chip.linState (c : Chip) (n : Nat) : Nat := c.fget (R.LIN_STATUS n) F.LIN_STATUS_STATE
def Chip.setLinState (c : Chip) (n st : Nat) : Chip := c.fset (R.LIN_STATUS n) F.LIN_STATUS_STATE st

/-- R376: the fields of a schedule entry. -/
def schLast : Fld := ⟨31, 1⟩
def schType : Fld := ⟨29, 2⟩
def schPub : Fld := ⟨28, 1⟩
def schClassic : Fld := ⟨27, 1⟩
def schLen : Fld := ⟨20, 4⟩
def schId : Fld := ⟨0, 6⟩

/-- The identifier of an entry: the diagnostic types have their own (R376). -/
def entryId (e : Word) : Nat := if schType.get e = 2 then 0x3C else if schType.get e = 3 then 0x3D else schId.get e

/-- R377: the response table's entry that holds an identifier. -/
def Chip.linResp (c : Chip) (n ident : Nat) : Option Nat :=
  (List.range 16).find? fun r => c.flag (R.LIN_RESP_CFG n r) F.LIN_RESP_CFG_VALID && c.fget (R.LIN_RESP_CFG n r) F.LIN_RESP_CFG_ID == ident

/-- R376, R377: the header of entry k is sent. -/
def Chip.linHeader (c : Chip) (n k : Nat) : Chip :=
  let e := c.rd (R.LIN_SCHED_E n k)
  let pub := schPub.get e = 1 ∧ (c.linResp n (entryId e)).isSome
  (c.setLin n { c.lin n with entry := some e, frame := some (entryId e, decide pub, c.mtimeLo), restart := false, late := false, waking := false }).fset
    (R.LIN_STATUS n) F.LIN_STATUS_ENTRY k

/-- R376: the schedule's next entry. -/
def Chip.linNext (c : Chip) (n : Nat) : Nat :=
  let start := c.fget (R.LIN_SCHED_START n) F.LIN_SCHED_START_ENTRY
  match (c.lin n).entry with
  | some e => if (c.lin n).restart ∨ schLast.get e = 1 then start else (c.fget (R.LIN_STATUS n) F.LIN_STATUS_ENTRY + 1) % 64
  | none => start

/-- R376, R379: the slot and its frame have ended: go-to-sleep is sent, or the next header. -/
def Chip.linGoOn (c : Chip) (n : Nat) : Chip :=
  if (c.lin n).sleepDue then (c.setLin n {}).setLinState n 0 else c.linHeader n (c.linNext n)

/-- R376: a commander's slot ends. -/
def Chip.linSlotEnd (c : Chip) (n : Nat) : Chip :=
  if c.linRole n = 1 ∧ c.linState n = 1 ∧ ¬ (c.lin n).waking then
    if (c.lin n).frame.isSome ∧ (c.lin n).late = false then (c.setLin n { c.lin n with late := true }).fbump (R.LIN_ERR_CNT n) (byteFld 3)
    else if (c.lin n).frame.isSome then c
    else c.linGoOn n
  else c

/-- R395: the transceivers of the LIN controllers are held asleep. -/
def Chip.linHeld (c : Chip) : Bool := c.flag R.SYS_PAD_HOLD (bitFld 10)
/-- R377: a responder receives a header. -/
def Chip.linHeaderIn (c : Chip) (n ident : Nat) : Chip :=
  if c.linRole n = 2 ∧ c.linState n = 1 ∧ !c.linHeld then
    c.setLin n { c.lin n with frame := some (ident, (c.linResp n ident).isSome, c.mtimeLo) }
  else c

/-- R378: the statuses of a LIN packet. -/
inductive LinStatus where
  | ok | noResponse | checksum | bit | framing | collision | sync
  deriving DecidableEq, Repr

def LinStatus.code : LinStatus → Nat
  | .ok => 0 | .noResponse => 1 | .checksum => 2 | .bit => 3 | .framing => 4 | .collision => 5 | .sync => 6

/-- ISO 17987: the inverted eight-bit sum with carry of a protected identifier (classic: none) and the data. Assumption log 61 (PRESUMED). -/
def linSum (l : List Byte) : Nat := 255 - l.foldl (fun a b => let s := a + b.toNat; if 255 < s then s - 255 else s) 0
/-- ISO 17987: an identifier with its two parity bits. Assumption log 61 (PRESUMED). -/
def linPid (ident : Nat) : Nat :=
  let b (k : Nat) : Bool := ident.testBit k
  ident + 64 * ((b 0).xor ((b 1).xor ((b 2).xor (b 4)))).toNat + 128 * (!((b 1).xor ((b 3).xor ((b 4).xor (b 5))))).toNat

/-- The checksum of data is right under the classic, or the enhanced, model. -/
def linClassicOk (d : List Byte) (ck : Nat) : Bool := linSum d == ck
def linEnhancedOk (ident : Nat) (d : List Byte) (ck : Nat) : Bool := linSum (.ofNat 8 (linPid ident) :: d) == ck

/-- R378: one packet of the controller's queue, and an error's count and EV126. -/
def Chip.linPacket (c : Chip) (n ident : Nat) (brk : Word) (st : LinStatus) (classic : Bool) (len : Nat) (d : List Byte) : Chip :=
  let w0 : Word := .ofNat 32 (st.code * 2 ^ 28 + classic.toNat * 2 ^ 27 + len % 16 * 2 ^ 20 + ident % 64)
  let d := (d ++ List.replicate 8 0).take 8
  let c := c.hwPush (20 + n) [w0, brk, beWord (d.take 4), beWord (d.drop 4)]
  match st with
  | .ok => c
  | .noResponse => (c.fbump (R.LIN_ERR_CNT n) (byteFld 0)).raise 126
  | .checksum | .collision => (c.fbump (R.LIN_ERR_CNT n) (byteFld 1)).raise 126
  | _ => (c.fbump (R.LIN_ERR_CNT n) (byteFld 2)).raise 126

/-- The frame on the bus has ended; a slot that ended before it lets the next header follow (R376). -/
def Chip.linFrameDone (c : Chip) (n : Nat) : Chip :=
  let c := c.setLin n { c.lin n with frame := none }
  if (c.lin n).late then c.linGoOn n else c

/-- R376, R378: the checksum model and the length the running frame is expected to have: a commander's entry gives them;
diagnostic frames are classic. -/
def Chip.linClassic (c : Chip) (n ident : Nat) : Bool :=
  ident == 0x3C || ident == 0x3D || (match (c.lin n).entry with | some e => schClassic.get e == 1 | none => false)
def Chip.linLen (c : Chip) (n : Nat) : Nat := match (c.lin n).entry with | some e => schLen.get e | none => 8
/-- The frame is an event-triggered entry of a commander (R378). -/
def Chip.linEvent (c : Chip) (n : Nat) : Bool :=
  c.linRole n == 1 && (match (c.lin n).entry with | some e => schType.get e == 1 | none => false)

/-- R378, R379: a response of these bytes has been received: the last is its checksum. -/
def Chip.linResponse (c : Chip) (n ident : Nat) (brk : Word) (bs : List Byte) : Chip :=
  let d := bs.dropLast
  let ck := (bs.getLastD 0).toNat
  let cl := linClassicOk d ck
  let en := linEnhancedOk ident d ck
  if c.linRole n = 1 then
    let classic := c.linClassic n ident
    let good := if classic then cl else en
    c.linPacket n ident brk (if good then .ok else if c.linEvent n then .collision else .checksum) classic (c.linLen n) d
  else
    let good := cl || (en && ident != 0x3C && ident != 0x3D)
    let c := c.linPacket n ident brk (if good then .ok else .checksum) cl d.length d
    if good ∧ ident = 0x3C ∧ d = [0x00, 0xFF, 0xFF, 0xFF, 0xFF, 0xFF, 0xFF, 0xFF] then c.setLinState n 0 else c

/-- R378: the frame on the bus ends. -/
def Chip.linFrameEnd (c : Chip) (n : Nat) (how : LinEnd) : Chip :=
  match (c.lin n).frame with
  | none => c
  | some (ident, pub, brk) =>
    let err (c : Chip) (st : LinStatus) (bs : List Byte) :=
      c.linPacket n ident brk st (c.linClassic n ident) (if c.linRole n = 1 then c.linLen n else bs.length) bs
    let c := match how with
      | .response bs => if pub || c.linHeld then c else c.linResponse n ident brk bs
      | .sent => c
      | .bit bs => err c .bit bs
      | .framing bs => err c .framing bs
      | .sync => err c .sync []
    c.linFrameDone n

/-- R378: the response has not ended in its time. -/
def Chip.linTimeout (c : Chip) (n : Nat) (bs : List Byte) : Chip :=
  match (c.lin n).frame with
  | some (ident, false, brk) =>
    (c.linPacket n ident brk (if bs = [] then .noResponse else .framing) (c.linClassic n ident)
      (if c.linRole n = 1 then c.linLen n else bs.length) bs).linFrameDone n
  | _ => c

/-- A write of LIN_CTRL, its ROLE stored, old the word it held (R379): a new role starts the controller; WAKE goes before
SLEEP. A controller in bus fault sends nothing. Assumption log 61 (PRESUMED). -/
def Chip.linCtrl (c : Chip) (n : Nat) (old x : Word) : Chip :=
  let role := F.LIN_CTRL_ROLE.get (c.rd (R.LIN_CTRL n))
  let c := if role = F.LIN_CTRL_ROLE.get old then c
    else if role = 0 then (c.setLin n {}).setLinState n 3
    else
      let c := (c.setLin n {}).setLinState n 1
      if role = 1 then c.linHeader n (c.fget (R.LIN_SCHED_START n) F.LIN_SCHED_START_ENTRY) else c
  if F.LIN_CTRL_WAKE.get x = 1 then
    if c.linState n = 0 ∨ c.linState n = 1 then
      let c := c.setLinState n 1
      if role = 1 then c.setLin n { waking := true } else c
    else c
  else if F.LIN_CTRL_SLEEP.get x = 1 ∧ role = 1 ∧ c.linState n = 1 then c.setLin n { c.lin n with sleepDue := true }
  else c

/-- R379: 100 ms after a wake-up pulse a commander resumes at LIN_SCHED_START. Assumption log 61 (PRESUMED). -/
def Chip.linResume (c : Chip) (n : Nat) : Chip :=
  if c.linRole n = 1 ∧ c.linState n = 1 ∧ (c.lin n).waking then
    (c.setLin n { sleepDue := (c.lin n).sleepDue }).linHeader n (c.fget (R.LIN_SCHED_START n) F.LIN_SCHED_START_ENTRY)
  else c

/-- R379: a sleeping controller wakes on a wake-up signal. Assumption log 61 (PRESUMED). -/
def Chip.linWoken (c : Chip) (n : Nat) : Chip :=
  if c.linState n = 0 then
    let c := c.setLinState n 1
    if c.linRole n = 1 then c.setLin n { waking := true } else c
  else c

/-- R379: a dominant bus: bus fault; then active again. -/
def Chip.linFault (c : Chip) (n : Nat) : Chip := if c.linState n = 3 then c else (c.setLin n { entry := (c.lin n).entry }).setLinState n 2
def Chip.linFaultClear (c : Chip) (n : Nat) : Chip := if c.linState n = 2 then c.setLinState n 1 else c

/-! ### Meanings -/

/-- R359. -/
def execCanBusoffRecovered (n : Fin 9) (s : State) : Host.Outcome State Fault Refusal :=
  .next (s.onChip fun c => if c.canErr n = 2 ∧ (c.can n).recovering then (c.setCan n { c.can n with recovering := false }).setTecRec n 0 0 else c)
/-- R369. -/
def execCanArbitrationStart (n : Fin 9) (s : State) : Host.Outcome State Fault Refusal := .next (s.onChip (·.arbitrate n))
/-- R369. -/
def execCanTxAttemptEnd (n : Fin 9) (how : TxEnd) (tdcv : BitVec 7) (s : State) : Host.Outcome State Fault Refusal :=
  .next (s.onChip (·.txAttemptEnd n how tdcv.toNat))
/-- R367. -/
def execCanFrameReceived (n : Fin 9) (rx : CanRx) (sof : Word) (s : State) : Host.Outcome State Fault Refusal :=
  .next (s.onChip (·.frameReceived n rx sof))
/-- R365. -/
def execCanMbLockTimeout (n : Fin 9) (b : Fin 64) (s : State) : Host.Outcome State Fault Refusal := .next (s.onChip (·.mbLockTimeout n b))
/-- R358. -/
def execCanFdFrameRejoin (n : Fin 9) (s : State) : Host.Outcome State Fault Refusal :=
  .next (s.onChip fun c => c.setCan n { c.can n with rejoin := false })
/-- R376. -/
def execLinSlotEnd (n : Fin 4) (s : State) : Host.Outcome State Fault Refusal := .next (s.onChip (·.linSlotEnd n))
/-- R377. -/
def execLinHeaderReceived (n : Fin 4) (ident : BitVec 6) (s : State) : Host.Outcome State Fault Refusal :=
  .next (s.onChip (·.linHeaderIn n ident.toNat))
/-- R378. -/
def execLinFrameReceived (n : Fin 4) (how : LinEnd) (s : State) : Host.Outcome State Fault Refusal := .next (s.onChip (·.linFrameEnd n how))
/-- R378. -/
def execLinResponseTimeout (n : Fin 4) (bytes : List Byte) (s : State) : Host.Outcome State Fault Refusal :=
  .next (s.onChip (·.linTimeout n bytes))
/-- R379. -/
def execLinWakeResume (n : Fin 4) (s : State) : Host.Outcome State Fault Refusal := .next (s.onChip (·.linResume n))
/-- R379. -/
def execLinBusInactivity (n : Fin 4) (s : State) : Host.Outcome State Fault Refusal :=
  .next (s.onChip fun c => if c.linRole n = 2 ∧ c.linState n = 1 then c.setLinState n 0 else c)
/-- R379. -/
def execLinBusFault (n : Fin 4) (s : State) : Host.Outcome State Fault Refusal := .next (s.onChip (·.linFault n))
/-- R379. -/
def execLinBusFaultClear (n : Fin 4) (s : State) : Host.Outcome State Fault Refusal := .next (s.onChip (·.linFaultClear n))

end Sys2Proof.Machine
end

