-- ==== Sys2Proof/Machine/Channel.lean ====
section
/-! DEFINITION. What happens at a power die's channels by itself: commit ticks, PWM periods, the scheduler, limiting,
trips, retries, the feed, holding (spec/03, spec/04). -/

namespace Sys2Proof.Machine
open Sys2Proof

/-! ### Boundaries -/

/-- R153: a graceful disable of a channel waits for the commit tick. -/
def Chip.disableDue (c : Chip) (ch : Nat) : Bool :=
  c.flag (R.CH_PROT_STATUS ch) F.CH_PROT_STATUS_DISABLE_PENDING && !c.inHold ch

/-- R90, R92: the next commit tick is the channel's boundary; a set captured before its channel became the odd member of a
pair waits (R72, assumption log 86, DESIGN CHOICE). -/
def Chip.tickDue (c : Chip) (ch : Nat) : Bool :=
  (c.chan ch).pend.isSome && (!c.inPwm ch || (c.chan ch).align) && !c.oddMember ch

/-- R92: channels that took an aligned set while in PWM start a new period at the tick, delayed by their phase. -/
def Chip.restartPeriods (al : List Nat) (c : Chip) : Chip :=
  al.foldl (fun c ch => if c.inPwm ch then c.newPeriod ch (c.phaseDelay ch) else c) c

/-- R90, R153: the commit tick of power die n: graceful disables of channels not in PWM; the pending sets whose boundary it is,
but for OFF sets of channels whose start waits; the starts they ask for, as arrivals of one cycle, and a re-examination (R110). An
OFF set of a channel that this cycle granted stays for the next boundary (R114: the grant wins); of the others it withdraws
the start. Assumption log 29 (DEDUCED). -/
def Chip.commitTick (c : Chip) (n : Nat) : Chip :=
  let c := (dieChans n).foldl (fun c ch => if c.disableDue ch && !c.inPwm ch then c.enterDisabled ch else c) c
  let due := (dieChans n).filter fun ch => c.tickDue ch
  let offs := due.filter fun ch => c.pendingGrant ch && c.offPending ch
  let now := due.filter fun ch => !(c.pendingGrant ch && c.offPending ch)
  let al := now.filter fun ch => c.inPwm ch
  let (c, starts) := Chip.applyAll now c
  let c := (Chip.restartPeriods al c).arrive n starts
  (Chip.applyAll (offs.filter c.pendingGrant) c).1.reexamine n

/-- R178: T, the effective on-time. -/
def Chip.effectiveOn (c : Chip) (ch : Nat) : Nat := if c.rawOn ch = 0 then 0 else max (c.rawOn ch) (c.minTime ch)
/-- R174: W, the on-time an on-state window needs, in ticks. -/
def Chip.windowOn (c : Chip) (ch : Nat) : Nat :=
  10 * (40 + (2 ^ c.fget (R.CH_ACTIVE_CFG ch) F.CH_ACTIVE_CFG_SLEW - 8))
def Chip.period (c : Chip) (ch : Nat) : Nat := c.fget (R.CH_ACTIVE_PWM ch) F.CH_ACTIVE_PWM_PERIOD
def Chip.duty (c : Chip) (ch : Nat) : Nat := c.fget (R.CH_ACTIVE_CMD ch) F.CH_ACTIVE_CMD_DUTY

/-- R179: no stretch can be made though one is needed: DIAG_STARVED. -/
def Chip.starved (c : Chip) (ch : Nat) : Bool :=
  c.effectiveOn ch != 0 && decide (c.effectiveOn ch < c.windowOn ch) &&
    (!c.flag (R.CH_OL_CFG ch) F.CH_OL_CFG_STRETCH_EN || decide (c.period ch < c.windowOn ch + c.minTime ch))

/-- R178, R179: a stretched pulse is given in this period. -/
def Chip.stretchDue (c : Chip) (ch : Nat) : Bool :=
  c.flag (R.CH_OL_CFG ch) F.CH_OL_CFG_STRETCH_EN && c.chRun ch == .pwm && !c.flag (R.CH_PROT_STATUS ch) F.CH_PROT_STATUS_REVERSE
    && c.effectiveOn ch != 0 && decide (c.effectiveOn ch < c.windowOn ch)
    && decide (c.windowOn ch + c.minTime ch ≤ c.period ch)
    && decide (c.fget (R.CH_OL_CFG ch) F.CH_OL_CFG_STRETCH_N ≤ (c.chan ch).periods)

/-- R178: the on-time of a period that repays, and what is still owed after it. -/
def repay (owed t tmin : Int) : Int × Int :=
  if owed < 0 then (t - owed, 0) else if t ≤ owed then (0, owed - t) else if tmin ≤ t - owed then (t - owed, 0) else (0, owed - t)

/-- R80, R83, R147, R178, R179: a PWM period of the channel begins: fully on with REVERSE, a stretched pulse, a repaying one, or
the plain one; an off-state cycle of the period before is over (R176). -/
def Chip.beginPeriod (c : Chip) (ch : Nat) : Chip :=
  let x : ChanX := { c.chan ch with cycle := 0 }
  let c := c.fbit (R.CH_OL_STATUS ch) F.CH_OL_STATUS_DIAG_STARVED (c.starved ch)
  if c.fullyOn ch then c.setChan ch { x with onTicks := c.period ch, delay := 0, periods := x.periods + 1 }
  else if x.owed ≠ 0 ∧ x.stretched = (c.duty ch, c.period ch) then
    let (on, left) := repay x.owed (c.effectiveOn ch) (c.minTime ch)
    c.setChan ch { x with onTicks := on.toNat, delay := 0, owed := left, periods := x.periods + 1 }
  else if c.stretchDue ch then
    (c.setChan ch { x with onTicks := c.windowOn ch, delay := 0, periods := 1, stretched := (c.duty ch, c.period ch)
                           owed := (c.windowOn ch : Int) - c.effectiveOn ch }).fset (R.CH_OL_STATUS ch) F.CH_OL_STATUS_STRETCHING 1
  else
    ((c.setChan ch { x with owed := 0, periods := x.periods + 1 }).fset (R.CH_OL_STATUS ch) F.CH_OL_STATUS_STRETCHING 0).newPeriod ch 0

/-- R81, R90, R153: the channel's PWM boundary: a graceful disable ends it, a pending set not bound to a tick is applied,
and a new period begins if it is still in PWM. Assumption log 29 (DEDUCED). -/
def Chip.pwmPeriodStart (c : Chip) (ch : Nat) : Chip :=
  if c.inPwm ch then
    if c.disableDue ch then (c.enterDisabled ch).reexamine (pdie ch)
    else
      let (c, starts) := if (c.chan ch).align then (c, false) else c.applySet ch
      let c := if starts then c.arrive (pdie ch) [ch] else c
      (if c.inPwm ch then c.beginPeriod ch else c).reexamine (pdie ch)
  else c

/-! ### The scheduler and profiles -/

/-- R112: the channel's waiting request reaches the cap. -/
def Chip.deferCapExpire (c : Chip) (ch : Nat) : Chip :=
  match (c.die (pdie ch)).reqs.find? (·.ch == ch) with
  | some r => c.capGrant r
  | none => c

/-- R102, R99, R106: the running segment ends and the booking falls; after the last one the channel enters ON or PWM as
its mode (in LIMP with LIMP_MODE ON: ON) gives. The die's requests are re-examined (R110). While REVERSE lasts the timeline
stands (R147). -/
def Chip.segmentEnd (c : Chip) (ch : Nat) : Chip :=
  if c.chRun ch = .starting ∧ ¬ c.fullyOn ch then
    let x := c.chan ch
    let c := c.setChan ch { x with segs := x.segs.drop 1 }
    let c := if x.segs.drop 1 = [] then
        (c.setChan ch { c.chan ch with ranAt := some (c.pwrTime (pdie ch)) }).setChRun ch (modeState (c.runMode ch)) else c
    c.reexamine (pdie ch)
  else c

/-- R99, R121: the load is held at the ceiling in force after STARTING, with a current in mA. -/
def Chip.atCeiling (c : Chip) (ch ma : Nat) : Chip :=
  match c.chRun ch with
  | .on | .pwm => if c.ceilingNow ch ≤ 1000 * ma then c.setChRun ch .limiting else c
  | _ => c

/-- R99: the current falls below the ceiling in force. -/
def Chip.belowCeiling (c : Chip) (ch ma : Nat) : Chip :=
  if c.chRun ch = .limiting ∧ 1000 * ma < c.ceilingNow ch then c.setChRun ch (modeState (c.runMode ch)) else c

/-! ### Trips -/

/-- The state that stands for the channel's pair. -/
def Chip.leadRun (c : Chip) (ch : Nat) : ChState := c.chRun (c.lead ch)

/-- R181: the channel is driven by a cross-coupling pulse. -/
def Chip.pulsed (c : Chip) (ch : Nat) : Bool :=
  match (c.die (pdie ch)).xc with
  | some (src, true) => src == c.lead ch % 48
  | _ => false

/-- R117: a protective trip acts in every state in which the output can be driven. -/
def Chip.tripIf (c : Chip) (ch cause : Nat) (m : Sample) (p : Bool) : Chip := if p then c.trip ch cause m else c

/-- R120. -/
def Chip.hardShort (c : Chip) (ch : Nat) (m : Sample) : Chip := c.tripIf ch 1 m ((c.leadRun ch).driven || c.pulsed ch)
/-- R122: three consecutive samples, in mA, above the ceiling in force × the ENV_FACTOR of the profile last run. -/
def Chip.envelope (c : Chip) (ch : Nat) (ma : Vector Nat 3) (m : Sample) : Chip :=
  let l := c.lead ch
  c.tripIf ch 2 m ((c.chRun l).driven && ma.toList.all fun i => decide (c.ceilingNow l * (c.chan l).env < 100000 * i))
/-- R123, R125: in ON, SOFT_FUSE, PWM on-time and LIMITING, not in STARTING. -/
def Chip.heldShort (c : Chip) (ch : Nat) (m : Sample) : Chip :=
  c.tripIf ch 1 m ((c.leadRun ch).driven && c.leadRun ch != .starting)
/-- R124: with LIMIT_TIME = 0 there is no limit. -/
def Chip.limitTime (c : Chip) (ch : Nat) (m : Sample) : Chip :=
  c.tripIf ch 2 m (c.leadRun ch == .limiting && c.fget (R.CH_PROT_CFG (c.lead ch)) F.CH_PROT_CFG_LIMIT_TIME != 0)
/-- R126: the junction is above the warning level too. -/
def Chip.thermal (c : Chip) (ch : Nat) (m : Sample) : Chip :=
  let c := c.fset (R.CH_PROT_STATUS ch) F.CH_PROT_STATUS_TJ_WARN 1
  c.tripIf ch 3 m ((c.leadRun ch).driven || c.pulsed ch)

/-- R129: the fraction of the clamp rating, in percent, at a junction temperature in °C. -/
def clampFraction (t : Int) : Rat :=
  if t ≤ 25 then 150 else if t ≤ 85 then 150 - 25 * (t - 25) / 60 else if t ≤ 125 then 125 - 15 * (t - 85) / 40
  else if t ≤ 150 then 110 - 10 * (t - 125) / 25 else if t ≤ 165 then 100 - 60 * (t - 150) / 15
  else if t < 175 then 40 - 40 * (t - 165) / 10 else 0

/-- R129, R70: the allowance of a turn-off in 0.1 mJ. -/
def Chip.clampAllow (c : Chip) (ch : Nat) (t : Int) : Rat :=
  (match chClass (ch % 48) with | 0 => 4000 | 1 => 1200 | _ => 400) * (if c.paired ch then 2 else 1) * clampFraction t / 100

/-- R129: the energy of a clamp in 0.1 mJ: the load current times the voltage across the switch, feed minus output, over
time. -/
def clampEnergy (parts : List ClampPart) : Rat := ((parts.map fun p => (p.ma : Int) * (p.vfeed - p.vout) * p.ns).sum : Int) / 10000000000

/-- R130, R154: a clamp ends; tj is the junction at the turn-off, plus 50. CH_CLAMP records its energy and allowance; an
excess declares cause 8, and the channel enters LATCHED_OFF (a sealed one COOLDOWN), or stays DISABLED. -/
def Chip.clampEnd (c : Chip) (ch : Nat) (parts : List ClampPart) (tj : Nat) (m : Sample) : Chip :=
  let allow := c.clampAllow ch ((tj : Int) - 50)
  let e := clampEnergy parts
  let c := c.wr (R.CH_CLAMP ch) (F.CH_CLAMP_E_LAST.put (F.CH_CLAMP_E_ALLOW.of allow.floor.toNat) (fitted 0xFFFF e.floor))
  if allow < e then
    if c.chState (c.lead ch) = .disabled then c.declareTrip ch [8] m
    else c.trip ch 8 m
  else c

/-- R131: the next wire level, from the mean-square current in mA² of the millisecond just ended. Assumption log 13 (DEDUCED). -/
def nextLevel (x msq : Rat) (iRated tau : Nat) : Rat :=
  min 4096 (x + (msq / ((100 * iRated) ^ 2 : Nat) - x) / (100 * tau : Nat))

/-- R131, R132: the wire level of a channel is updated from the squared samples of the last window; WIRE_WARN and CH_WIRE_LEVEL follow; reaching 1 with WIRE_EN
trips a driven channel with cause 11. The odd member of a pair has no level of its own. -/
def Chip.wireUpdate (c : Chip) (ch : Nat) (m : Sample) : Chip :=
  if c.oddMember ch then c
  else
    let x := nextLevel (c.chan ch).level (c.chan ch).msq (c.fget (R.CH_WIRE_CFG ch) F.CH_WIRE_CFG_I_RATED) (c.fget (R.CH_WIRE_CFG ch) F.CH_WIRE_CFG_TAU)
    let lv := F.CH_WIRE_LEVEL_OVER.put (F.CH_WIRE_LEVEL_LEVEL.of (min 0xFFFF (x * 32768).floor.toNat)) (decide (2 ≤ x)).toNat
    let c := c.setChan ch { c.chan ch with level := x } |>.wr (R.CH_WIRE_LEVEL ch) lv
      |>.fbit (R.CH_PROT_STATUS ch) F.CH_PROT_STATUS_WIRE_WARN (decide (4 / 5 ≤ x))
    c.tripIf ch 11 m ((c.chRun ch).driven && c.flag (R.CH_WIRE_CFG ch) F.CH_WIRE_CFG_WIRE_EN && decide (1 ≤ x))

/-! ### Retries -/

/-- R139: the back-off of a channel in COOLDOWN for a cause that retries expires. -/
def Chip.backoffExpire (c : Chip) (ch : Nat) : Chip :=
  if c.chRun ch = .cooldown ∧ c.fget (R.CH_STATUS ch) F.CH_STATUS_CAUSE ≠ 9 ∧ c.fget (R.CH_STATUS ch) F.CH_STATUS_CAUSE ≠ 10
      ∧ ¬ c.pendingGrant ch then
    (c.setChan ch { c.chan ch with boDone := true }).retryStart ch
  else c

/-- R127, R132: the cooling condition of the channel's last fault is reached: its junction is below the warning level
after cause 3 (of a pair, the one the member named has); after cause 11 its level is at most 0.5. A waiting retry is
requested. -/
def Chip.coolingMet (c : Chip) (ch : Nat) : Chip :=
  let l := c.lead ch
  let c := if (c.chan l).lastTrip = 3 then c.fset (R.CH_PROT_STATUS ch) F.CH_PROT_STATUS_TJ_WARN 0 else c
  if c.cooled l then
    let c := c.fset (R.CH_PROT_STATUS l) F.CH_PROT_STATUS_COOLING 0
    if c.chRun l = .cooldown ∧ (c.chan l).boDone ∧ ¬ c.pendingGrant l then c.retryStart l else c
  else c

/-- R140: 1 s in ON, PWM or LIMITING without a trip. -/
def Chip.retryClear (c : Chip) (ch : Nat) : Chip :=
  match c.chRun ch with
  | .on | .pwm | .limiting => c.fset (R.CH_PROT_STATUS ch) F.CH_PROT_STATUS_RETRY_NUM 0
  | _ => c

/-! ### Reverse current and the feed -/

/-- R147: the on-time of the period in progress, fully on or as the duty gives. -/
def Chip.reverseDuty (c : Chip) (ch : Nat) : Chip :=
  if c.inPwm ch then c.setChan ch { c.chan ch with onTicks := if c.fullyOn ch then c.period ch else c.onTime ch } else c

/-- R147: cause 7 at its onset; REVERSE sets. A driven channel is then fully on. -/
def Chip.reverseOn (c : Chip) (ch : Nat) : Chip :=
  if c.flag (R.CH_PROT_STATUS ch) F.CH_PROT_STATUS_REVERSE then c
  else ((c.fset (R.CH_PROT_STATUS ch) F.CH_PROT_STATUS_REVERSE 1).reverseDuty ch).reportCause ch 7

/-- R147: REVERSE clears, and the duty resumes. -/
def Chip.reverseOff (c : Chip) (ch : Nat) : Chip := (c.fset (R.CH_PROT_STATUS ch) F.CH_PROT_STATUS_REVERSE 0).reverseDuty ch

/-- R149, R150: every channel of the die that is driven at the detection and that p picks trips with the feed cause, the odd
member of a pair with cause 12; then the requests are re-examined (R110). Assumption log 44 (DESIGN CHOICE), 87 (DESIGN CHOICE). -/
def Chip.feedTrip (c : Chip) (n cause : Nat) (p : Nat → Bool) (ms : List Sample) : Chip :=
  let hit := (c.leads n).filter fun ch => (c.chRun ch).driven && p ch
  let sample (ch : Nat) : Sample := ms.getD (ch % 48) { i := 0, tj := 0, vfeed := 0, vout := 0 }
  (hit.foldl (fun c ch => c.tripNow ch (tripCauses cause (sample ch)) (sample ch)) c).reexamine n

/-- R149. -/
def Chip.feedUv (c : Chip) (n : Nat) (ms : List Sample) : Chip :=
  (c.fset (R.PWR_PROT_STATUS n) F.PWR_PROT_STATUS_UV 1).feedTrip n 9 (fun _ => true) ms
/-- R150: sealed channels are not turned off. -/
def Chip.feedOv (c : Chip) (n : Nat) (ms : List Sample) : Chip :=
  (c.fset (R.PWR_PROT_STATUS n) F.PWR_PROT_STATUS_OV 1).feedTrip n 10 (fun ch => !isSealed ch) ms

/-- R149, R150: the channels in COOLDOWN for the feed cause request their starts. -/
def Chip.feedRecover (c : Chip) (n cause : Nat) : Chip :=
  c.arrive n ((dieChans n).filter fun ch => c.chRun ch == .cooldown && c.fget (R.CH_STATUS ch) F.CH_STATUS_CAUSE == cause
    && !c.pendingGrant ch)

/-- R143, R194: the mean of ten samples of the feed, in 10 mV, lies more than 3 V below the 10 ms average in force. -/
def Chip.isDip (c : Chip) (n : Nat) (feed : List Nat) : Bool :=
  decide (feed.sum + 3000 < 10 * c.fget (R.PWR_FEED_AVG n) F.PWR_FEED_AVG_AVG10)

/-- R143, R115: a dip freezes new grants; each freeze is counted, a dip inside it only makes it last. Assumption log 28 (DEDUCED). -/
def Chip.feedDip (c : Chip) (n : Nat) (feed : List Nat) : Chip :=
  if c.flag (R.IS_STATUS n) F.IS_STATUS_FROZEN || !c.isDip n feed then c
  else c.fset (R.IS_STATUS n) F.IS_STATUS_FROZEN 1 |>.fset (R.PWR_PROT_STATUS n) F.PWR_PROT_STATUS_FROZEN 1 |>.bump (R.PWR_DIP_CNT n)

/-- R143: the freeze ends and grants resume. -/
def Chip.freezeEnd (c : Chip) (n : Nat) : Chip :=
  (c.fset (R.IS_STATUS n) F.IS_STATUS_FROZEN 0 |>.fset (R.PWR_PROT_STATUS n) F.PWR_PROT_STATUS_FROZEN 0).reexamine n

/-! ### Meanings -/

/-- R90. -/
def execCommitTick (n : Fin 4) (s : State) : Host.Outcome State Fault Refusal := .next (s.onChip (·.commitTick n))
/-- R81, R90, R153, R178. -/
def execPwmPeriodStart (ch : Fin 192) (s : State) : Host.Outcome State Fault Refusal := .next (s.onChip (·.pwmPeriodStart ch))
/-- R110. -/
def execSchedReexamine (n : Fin 4) (s : State) : Host.Outcome State Fault Refusal := .next (s.onChip (·.reexamine n))
/-- R112. -/
def execDeferCapExpire (ch : Fin 192) (s : State) : Host.Outcome State Fault Refusal := .next (s.onChip (·.deferCapExpire ch))
/-- R102. -/
def execProfileSegmentEnd (ch : Fin 192) (s : State) : Host.Outcome State Fault Refusal := .next (s.onChip (·.segmentEnd ch))
/-- R121. -/
def execCurrentAtCeiling (l : LoadAt) (s : State) : Host.Outcome State Fault Refusal := .next (s.onChip (·.atCeiling l.ch l.ma))
/-- R99. -/
def execCurrentBelowCeiling (l : LoadAt) (s : State) : Host.Outcome State Fault Refusal := .next (s.onChip (·.belowCeiling l.ch l.ma))
/-- R120. -/
def execHardShortTrip (ch : Fin 192) (m : Sample) (s : State) : Host.Outcome State Fault Refusal := .next (s.onChip (·.hardShort ch m))
/-- R122. -/
def execEnvelopeOvercurrent (ch : Fin 192) (m : EnvSample) (s : State) : Host.Outcome State Fault Refusal :=
  .next (s.onChip (·.envelope ch m.ma m.toSample))
/-- R123. -/
def execHeldShortTimeout (ch : Fin 192) (m : Sample) (s : State) : Host.Outcome State Fault Refusal := .next (s.onChip (·.heldShort ch m))
/-- R124. -/
def execLimitTimeExpire (ch : Fin 192) (m : Sample) (s : State) : Host.Outcome State Fault Refusal := .next (s.onChip (·.limitTime ch m))
/-- R126. -/
def execThermalShutdown (ch : Fin 192) (m : Sample) (s : State) : Host.Outcome State Fault Refusal := .next (s.onChip (·.thermal ch m))
/-- R126: TJ_WARN sets and clears; no state changes. -/
def execTjWarnChange (ch : Fin 192) (on : Bool) (s : State) : Host.Outcome State Fault Refusal :=
  .next (s.onChip (·.fbit (R.CH_PROT_STATUS ch) F.CH_PROT_STATUS_TJ_WARN on))
/-- R130. -/
def execClampEnd (ch : Fin 192) (parts : List ClampPart) (tj : BitVec 8) (m : Sample) (s : State) : Host.Outcome State Fault Refusal :=
  .next (s.onChip (·.clampEnd ch parts tj.toNat m))
/-- R131. -/
def execWireModelUpdate (ch : Fin 192) (y : SameCycle) (m : Measured) (s : State) : Host.Outcome State Fault Refusal :=
  .next (s.onChip (·.wireUpdate ch ⟨m, y⟩))
/-- R139. -/
def execBackoffExpire (ch : Fin 192) (s : State) : Host.Outcome State Fault Refusal := .next (s.onChip (·.backoffExpire ch))
/-- R127. -/
def execCoolingConditionMet (ch : Fin 192) (s : State) : Host.Outcome State Fault Refusal := .next (s.onChip (·.coolingMet ch))
/-- R140. -/
def execRetryCountClearTimer (ch : Fin 192) (s : State) : Host.Outcome State Fault Refusal := .next (s.onChip (·.retryClear ch))
/-- R147. -/
def execReverseDetect (ch : Fin 192) (s : State) : Host.Outcome State Fault Refusal := .next (s.onChip (·.reverseOn ch))
/-- R147. -/
def execReverseClear (ch : Fin 192) (s : State) : Host.Outcome State Fault Refusal := .next (s.onChip (·.reverseOff ch))
/-- R148. -/
def execFeedScaledChange (n : Fin 4) (below : Bool) (s : State) : Host.Outcome State Fault Refusal :=
  .next (s.onChip (·.fbit (R.PWR_PROT_STATUS n) F.PWR_PROT_STATUS_SCALED below))
/-- R149. -/
def execFeedUndervoltage (n : Fin 4) (ms : List Sample) (s : State) : Host.Outcome State Fault Refusal := .next (s.onChip (·.feedUv n ms))
/-- R149. -/
def execFeedUvRecovery (n : Fin 4) (s : State) : Host.Outcome State Fault Refusal :=
  .next (s.onChip fun c => (c.fset (R.PWR_PROT_STATUS n) F.PWR_PROT_STATUS_UV 0).feedRecover n 9)
/-- R150. -/
def execFeedOvervoltage (n : Fin 4) (ms : List Sample) (s : State) : Host.Outcome State Fault Refusal := .next (s.onChip (·.feedOv n ms))
/-- R150. -/
def execFeedOvRecovery (n : Fin 4) (s : State) : Host.Outcome State Fault Refusal :=
  .next (s.onChip fun c => (c.fset (R.PWR_PROT_STATUS n) F.PWR_PROT_STATUS_OV 0).feedRecover n 10)
/-- R143. -/
def execFeedDipDetect (x : FeedAt) (s : State) : Host.Outcome State Fault Refusal := .next (s.onChip (·.feedDip x.n x.feed))
/-- R143. -/
def execFeedFreezeEnd (n : Fin 4) (s : State) : Host.Outcome State Fault Refusal := .next (s.onChip (·.freezeEnd n))

end Sys2Proof.Machine
end

