-- ==== Sys2Proof/Machine/Measure.lean ====
section
/-! DEFINITION. Measurement (spec/05): 1 ms windows, load identification, streams, open-load diagnosis, the
cross-coupling test, reflectometry, CAN bus health. -/

namespace Sys2Proof.Machine
open Sys2Proof

/-! ### Windows (R164, R167, R169, R194) -/

/-- The mean of a list of samples, rounded toward minus infinity; 0 with no sample. Assumption log 13 (DEDUCED). -/
def meanInt (l : List Int) : Int := l.sum / l.length
def minInt : List Int → Int
  | [] => 0
  | a :: l => l.foldl min a
def maxInt : List Int → Int
  | [] => 0
  | a :: l => l.foldl max a

/-- The window of local channel l: of the even member of a pair, the sums of the two members' samples, at a ceiling where either
is (R164), and the hotter junction. Assumption log 44 (DESIGN CHOICE). -/
def Chip.window (c : Chip) (n l : Nat) (ws : List ChanWin) : ChanWin :=
  let w := ws.getD l ⟨[], [], 50⟩
  if c.paired (48 * n + l) && l % 2 == 0 then
    let o := ws.getD (l + 1) ⟨[], [], 50⟩
    { w with cur := List.zipWith (fun a b => { a with ma := a.ma + b.ma, limited := a.limited || b.limited }) w.cur o.cur
             tj := if w.tj < o.tj then o.tj else w.tj }
  else w

/-- R184: the samples of a start's first 200 µs that local channel l brings; of a pair the sums of the currents (R164). -/
def Chip.earlyOf (c : Chip) (n l : Nat) (early : List (Nat × List EarlySample)) : List EarlySample :=
  let get (k : Nat) := ((early.find? (·.1 == k)).map (·.2)).getD []
  if c.paired (48 * n + l) && l % 2 == 0 then List.zipWith (fun a b => { a with ma := a.ma + b.ma }) (get l) (get (l + 1)) else get l

/-- R169: the energy of a window's samples in units of 40 pJ (1 mA × 10 mV × 4 µs); a negative product adds nothing. -/
def windowEnergy (cur : List ISample) : Nat := (cur.map fun s => (s.ma * s.v).toNat).sum

/-- R169: add energy to the channel's counter of whole millijoules; the fraction below is kept. -/
def Chip.addEnergy (c : Chip) (ch e : Nat) : Chip :=
  let x := c.chan ch
  let a := R.CH_ENERGY_LO ch
  (c.setChan ch { x with eFrac := (x.eFrac + e) % 25000000 }).setCtr64 a (c.ctr64 a + .ofNat 64 ((x.eFrac + e) / 25000000))

/-- R131: the mean of the squared samples of a window, in mA²; 0 with no sample. -/
def meanSquare (cur : List ISample) : Rat := ((cur.map fun s => s.ma * s.ma).sum : Int) / (cur.length : Nat)

/-- R167: all values of a channel's window are written and CH_MEAS_SEQ increments. -/
def Chip.report (c : Chip) (ch : Nat) (w : ChanWin) (avg1 : Nat) : Chip :=
  let i := w.cur.map (·.ma)
  c.wr (R.CH_I_AVG ch) (.ofInt 32 (meanInt i)) |>.wr (R.CH_I_MIN ch) (.ofInt 32 (minInt i)) |>.wr (R.CH_I_MAX ch) (.ofInt 32 (maxInt i))
    |>.wr (R.CH_I_ON ch) (.ofInt 32 (meanInt ((w.cur.filter (·.on)).map (·.ma))))
    |>.wr (R.CH_VOLT ch) (F.CH_VOLT_VOUT.put (F.CH_VOLT_VFEED.of avg1) (BitVec.ofInt 16 (meanInt w.vout)).toNat)
    |>.fset (R.CH_TJ ch) F.CH_TJ_TJ w.tj.toNat |>.fbumpWrap (R.CH_MEAS_SEQ ch) F.CH_MEAS_SEQ_SEQ |>.addEnergy ch (windowEnergy w.cur)
    |> fun c => c.setChan ch { c.chan ch with msq := meanSquare w.cur }

/-! ### Load identification (R183 to R186) -/

/-- The values of an identification (R184): R in Ω, L in H, C in F, K, and TD in ms. -/
structure LidValues where
  r : Rat
  l : Rat
  c : Rat
  k : Rat
  td : Rat
  limited : Bool
  deriving DecidableEq, Repr

/-- The first window whose average is within 10 % of i, as its end time in µs after the grant. -/
def settleTime (t0 : Nat) (i : Rat) : List (Nat × Rat × Rat) → Nat
  | [] => 0
  | (t, a, _) :: l => if |a - i| ≤ |i| / 10 then t - t0 else settleTime t0 i l

/-- A quotient of the identification; free where its divisor is 0 (Config.noQuotient). Assumption log 35 (DESIGN CHOICE). -/
def quot (a b : Rat) : Rat := if b = 0 then Config.noQuotient a else a / b

/-- R184: the five samples (20 µs) from the first whose output passes 90 % of the feed, each with the sample 4 µs before it.
Assumption log 34 (DEDUCED). -/
def edgeSamples (feed : Nat) (l : List EarlySample) : List (EarlySample × EarlySample) :=
  ((l.zip l.tail).dropWhile fun p => decide (10 * p.2.v ≤ 9 * (feed : Int))).take 5

/-- R184: (VOUT − I × R) / (dI/dt) at a sample, in H: dI/dt is the difference from the sample 4 µs before. -/
def inductance (r : Rat) (p : EarlySample × EarlySample) : Rat :=
  quot ((p.2.v : Rat) / 100 - (p.2.ma : Rat) / 1000 * r) ((p.2.ma - p.1.ma : Int) * 250)

/-- R184: L, the mean over the 20 µs; C, from the charge and the integral of VOUT / R over 200 µs and VOUT then. -/
def lidL (x : LidRun) (r : Rat) : Rat :=
  let l := (edgeSamples x.feed x.early).map (inductance r)
  quot l.sum l.length
def lidC (x : LidRun) (r : Rat) : Rat :=
  let q : Rat := (x.early.map (·.ma)).sum / 250000000
  let v : Rat := (x.early.map (·.v)).sum / 25000000
  quot (q - quot v r) (((x.early.getLastD ⟨0, 0⟩).v : Rat) / 100)

/-- R184: the values from the settled current (mA) and voltage (10 mV). Assumption log 13 (DEDUCED). -/
def lidValues (x : LidRun) (is vs : Rat) : LidValues :=
  let r := quot (vs / 100) (is / 1000)
  ⟨r, lidL x r, lidC x r, quot x.peak is, (settleTime x.t0 is x.wins.reverse : Rat) / 1000, x.limited⟩

/-- A value lies within 20 % of a boundary of its rule (R185). -/
def near (v b : Rat) : Bool := decide (|v - b| ≤ b / 5)

/-- R185: the type, as its preset, and the boundaries its rule uses, as (value, boundary). -/
def lidType (x : LidValues) : Nat × List (Rat × Rat) :=
  let uf := x.c * 1000000
  let mh := x.l * 1000
  if 47 ≤ uf ∧ x.td < 5 then (5, [(uf, 47), (x.td, 5)])
  else if 1 ≤ uf ∧ uf < 47 ∧ x.td < 5 then (1, [(uf, 1), (uf, 47), (x.td, 5)])
  else if 10 ≤ mh ∧ x.k < 3 / 2 then (4, [(mh, 10), (x.k, 3 / 2)])
  else if 1 / 20 ≤ mh ∧ mh < 10 ∧ 3 ≤ x.k then (2, [(mh, 1 / 20), (mh, 10), (x.k, 3)])
  else if mh < 1 / 20 ∧ uf < 1 ∧ 5 ≤ x.k ∧ 2 ≤ x.td ∧ x.td ≤ 200 then (0, [(mh, 1 / 20), (uf, 1), (x.k, 5), (x.td, 2), (x.td, 200)])
  else if mh < 1 / 20 ∧ 6 / 5 ≤ x.k ∧ x.k < 5 ∧ 20 ≤ x.td then (3, [(mh, 1 / 20), (x.k, 6 / 5), (x.k, 5), (x.td, 20)])
  else (6, [])

/-- R185: the confidence: 3, less 1 if LIMITED, less 1 if a value is near a boundary of its rule. -/
def lidConf (x : LidValues) : Nat := 3 - x.limited.toNat - ((lidType x).2.any fun p => near p.1 p.2).toNat

/-- A quantity as a 32-bit register shows it. Assumption log 13 (DEDUCED), 35 (DESIGN CHOICE). -/
def regVal (x : Rat) : Word := .ofNat 32 (fitted 0xFFFFFFFF x.floor)

/-- The values of an identification in its registers (R184, R185). -/
def Chip.lidShow (c : Chip) (ch : Nat) (x : LidValues) : Chip :=
  c.wr (R.CH_LID_R ch) (regVal (x.r * 1000)) |>.wr (R.CH_LID_L ch) (regVal (x.l * 1000000000)) |>.wr (R.CH_LID_C ch) (regVal (x.c * 1000000000))
    |>.wr (R.CH_LID_SHAPE ch) (F.CH_LID_SHAPE_K.put (F.CH_LID_SHAPE_TD.of (fitted 0xFFFF (x.td * 10).floor)) (fitted 255 (min 255 (x.k * 10).floor)))
    |>.fset (R.CH_LID_RESULT ch) F.CH_LID_RESULT_TYPE (lidType x).1 |>.fset (R.CH_LID_RESULT ch) F.CH_LID_RESULT_CONF (lidConf x)

/-- R174: the open threshold of a channel in mA; in 2 mA units for a pair. -/
def Chip.onThr (c : Chip) (ch : Nat) : Nat := c.fget (R.CH_OL_THR ch) F.CH_OL_THR_ON_THR * (if c.paired ch then 2 else 1)

/-- LID_ARM completes with the results of the identification (spec/11, opcode 0x31). -/
def Chip.lidReply (c : Chip) (ch : Nat) : Chip :=
  c.finish (onObj 0x31 ch) .ok [c.rd (R.CH_LID_R ch), c.rd (R.CH_LID_L ch), c.rd (R.CH_LID_C ch), c.rd (R.CH_LID_SHAPE ch), c.rd (R.CH_LID_RESULT ch)]

/-- R186: the settled pair is found: NO_LOAD below ON_THR, else DONE. Assumption log 34 (DEDUCED). -/
def Chip.lidFound (c : Chip) (ch : Nat) (x : LidRun) (is vs : Rat) : Chip :=
  let c := c.fset (R.CH_LID_CTRL ch) F.CH_LID_CTRL_ARM 0
  if is < c.onThr ch then ((c.wr (R.CH_LID_R ch) 0xFFFFFFFF).lidEnd ch 6).lidReply ch
  else (((c.lidShow ch (lidValues x is vs)).lidEnd ch 2).raiseFrom (physDie ch) (60 + pdie ch)).lidReply ch

/-- R184: two consecutive averages differ by less than 1 %. -/
def settledPair (a b : Rat) : Bool := decide (a = b) || decide (|a - b| * 100 < max |a| |b|)

/-- R184: a running identification takes a window in. Windows count for the settled pair once they began after the
profile ended; the samples of the first 200 µs are those that come with its first window. -/
def Chip.lidWindow (c : Chip) (ch : Nat) (w : ChanWin) (e : List EarlySample) : Chip :=
  match (c.chan ch).lid with
  | none => c
  | some x =>
    let starting := c.chRun ch = .starting
    let i : Rat := (w.cur.map (·.ma)).sum / w.cur.length
    let v : Rat := w.vout.sum / w.vout.length
    let y := { x with wins := (c.pwrTime (pdie ch), i, v) :: x.wins, settled := if starting then 0 else x.settled + 1
                      peak := max x.peak (maxInt ((w.cur.filter (·.starting)).map (·.ma)))
                      limited := x.limited || w.cur.any (fun s => s.starting && s.limited)
                      early := if x.wins = [] then e else x.early
                      feed := if x.wins = [] then c.fget (R.PWR_FEED_AVG (pdie ch)) F.PWR_FEED_AVG_AVG1 else x.feed }
    let c := c.setChan ch { c.chan ch with lid := some y } |>.fbit (R.CH_LID_RESULT ch) F.CH_LID_RESULT_LIMITED y.limited
    match x.wins with
    | (_, i', v') :: _ => if 3 ≤ y.settled && settledPair i' i then c.lidFound ch y ((i + i') / 2) ((v + v') / 2) else c
    | [] => c

/-- R186: no settled pair within 2 s: R from the last window, GENERIC, no confidence. Assumption log 34 (DEDUCED). -/
def Chip.lidUnsettled (c : Chip) (ch : Nat) : Chip :=
  match (c.chan ch).lid with
  | none => c
  | some x =>
    let r : Rat := match x.wins with | (_, i, v) :: _ => quot (v / 100) (i / 1000) | [] => Config.noQuotient 0
    ((c.fset (R.CH_LID_CTRL ch) F.CH_LID_CTRL_ARM 0 |>.wr (R.CH_LID_R ch) (regVal (r * 1000))
      |>.fset (R.CH_LID_RESULT ch) F.CH_LID_RESULT_TYPE 6 |>.fset (R.CH_LID_RESULT ch) F.CH_LID_RESULT_CONF 0).lidEnd ch 4).lidReply ch

/-- R194: the feed's 1 ms average, its lowest and highest sample, and its 10 ms average, in 10 mV. -/
def Chip.feedWindow (c : Chip) (n : Nat) (feed : List Nat) : Chip :=
  let a := feed.sum / feed.length
  let l := (a :: (c.die n).feedAvgs).take 10
  (c.setDie n { c.die n with feedAvgs := l }).wr (R.PWR_FEED_AVG n) (F.PWR_FEED_AVG_AVG1.put (F.PWR_FEED_AVG_AVG10.of (l.sum / l.length)) a)
    |>.wr (R.PWR_FEED_RANGE n) (F.PWR_FEED_RANGE_MIN.put (F.PWR_FEED_RANGE_MAX.of (feed.foldl max 0)) (feed.foldl min 0xFFFF))

/-- VLV_MEAS (spec/07): each valve's highest sample and mean of the last 1 ms, in 10 mA. -/
def Chip.valveWindow (c : Chip) (n : Nat) (vlv : List (BitVec 16 × BitVec 16)) : Chip :=
  (List.range 4).foldl (fun c j =>
    let m := vlv.getD j (0, 0)
    c.wr (R.VLV_MEAS (4 * n + j)) (F.VLV_MEAS_I_MAX.put (F.VLV_MEAS_I_AVG.of m.2.toNat) m.1.toNat)) c

/-- R167: a 1 ms window of power die n ends. -/
def Chip.measWindow (c : Chip) (n : Nat) (ws : List ChanWin) (feed : List Nat) (early : List (Nat × List EarlySample))
    (vlv : List (BitVec 16 × BitVec 16)) : Chip :=
  let c := (c.feedWindow n feed).valveWindow n vlv
  let avg1 := c.fget (R.PWR_FEED_AVG n) F.PWR_FEED_AVG_AVG1
  (List.range 48).foldl (fun c l =>
    let w := c.window n l ws
    (c.report (48 * n + l) w avg1).lidWindow (48 * n + l) w (c.earlyOf n l early)) c

/-! ### Streams (R171 to R173) -/

/-- R162: the first sample slot of local channel l at or after t, both in half microseconds of PWR_TIME. -/
def slotFrom (l t : Nat) : Nat := if t ≤ l % 8 then l % 8 else (t - l % 8 + 7) / 8 * 8 + l % 8

/-- R173: the settings in PWR_STREAM_CTRL come into force; the next packet's first sample is the first at or after t. -/
def Chip.streamApply (c : Chip) (n t : Nat) : Chip :=
  let x := c.rd (R.PWR_STREAM_CTRL n)
  let l := F.PWR_STREAM_CTRL_SRC.get x
  (c.setDie n { c.die n with decim := F.PWR_STREAM_CTRL_DECIM.get x, streamAt := slotFrom l t }).fset (R.PWR_STREAM_STATUS n)
      F.PWR_STREAM_STATUS_ACTIVE (F.PWR_STREAM_CTRL_EN.get x)
    |>.fset (R.PWR_STREAM_STATUS n) F.PWR_STREAM_STATUS_SRC l

/-- R173: a write to PWR_STREAM_CTRL waits for the packet boundary while a packet is filled. -/
def Chip.streamCtrl (c : Chip) (n : Nat) : Chip :=
  if c.flag (R.PWR_STREAM_STATUS n) F.PWR_STREAM_STATUS_ACTIVE then c else c.streamApply n (2 * c.pwrTime n)

/-- R170, R172: a raw code reached full scale. -/
def clipped (x : BitVec 14) : Bool := x == 0x1FFF || x == 0x2000

/-- R171, R172: a streamed sample: the mean code of consecutive raw samples, of a pair half the sum of its members' (twice the
LSB), odd being the odd member's codes; DRIVEN and CLIP where any of them has it. Assumption log 13 (DEDUCED), 44 (DESIGN CHOICE). -/
def streamSample (pair : Bool) (l : List RawSample) (odd : List (BitVec 14)) : BitVec 16 :=
  let sum : Int := (l.map (·.code.toInt)).sum
  let sum := if pair then sum + (odd.map (·.toInt)).sum else 2 * sum
  BitVec.ofInt 14 (sum / (2 * l.length)) ++ BitVec.ofBool (l.any (·.driven)) ++
    BitVec.ofBool ((l.any fun r => clipped r.code) || (pair && odd.any clipped))

/-- R171: the i-th streamed sample of a packet. -/
def Chip.streamed (c : Chip) (n : Nat) (samples : List RawSample) (odd : List (BitVec 14)) (i : Nat) : BitVec 16 :=
  let ch := 48 * n + c.fget (R.PWR_STREAM_STATUS n) F.PWR_STREAM_STATUS_SRC
  let k := 2 ^ (c.die n).decim
  streamSample (c.paired ch && !c.oddMember ch) ((samples.drop (i * k)).take k) ((odd.drop (i * k)).take k)

/-- R172: the packet of a stream. Assumption log 44 (DESIGN CHOICE). -/
def Chip.streamPacket (c : Chip) (n : Nat) (samples : List RawSample) (odd : List (BitVec 14)) : List Word :=
  let st := c.rd (R.PWR_STREAM_STATUS n)
  .ofNat 32 (n * 2 ^ 30 + F.PWR_STREAM_STATUS_SRC.get st * 2 ^ 24 + (c.die n).decim * 2 ^ 21 + F.PWR_STREAM_STATUS_SEQ.get st) ::
    .ofNat 32 ((c.die n).streamAt / 2) :: (List.range 128).map fun i => c.streamed n samples odd (2 * i + 1) ++ c.streamed n samples odd (2 * i)

/-- R172, R173: a stream's packet is complete: sent, or dropped whole and counted; its number advances either way, and
settings that wait come into force. The samples go on without a gap (R163). Assumption log 32 (DEDUCED). -/
def Chip.streamDone (c : Chip) (n : Nat) (samples : List RawSample) (odd : List (BitVec 14)) : Chip :=
  if c.flag (R.PWR_STREAM_STATUS n) F.PWR_STREAM_STATUS_ACTIVE then
    let ok := c.linkUp (n + 2) && decide (130 ≤ c.qFree (24 + n))
    let next := (c.die n).streamAt + 2048 * 2 ^ (c.die n).decim
    let c := if c.linkUp (n + 2) then c.hwPush (24 + n) (c.streamPacket n samples odd) else c
    let c := if ok then c else c.bump (R.PWR_STREAM_DROP_CNT n)
    (c.fbumpWrap (R.PWR_STREAM_STATUS n) F.PWR_STREAM_STATUS_SEQ).streamApply n next
  else c

/-! ### Open-load diagnosis (R174 to R177) -/

/-- R174: a window may be taken: in ON and SOFT_FUSE, and in PWM where the on-time is at least W; not with REVERSE, nor in the
first 1 ms after STARTING. -/
def Chip.onWindow (c : Chip) (ch : Nat) : Bool :=
  !c.oddMember ch && !c.flag (R.CH_PROT_STATUS ch) F.CH_PROT_STATUS_REVERSE &&
    ((c.chan ch).ranAt.all fun t => decide (t + 1000 ≤ c.pwrTime (pdie ch))) &&
    (c.chRun ch == .on || (c.chRun ch == .pwm && decide (c.windowOn ch ≤ (c.chan ch).onTicks)))

/-- R174: the mean current of an on-state window is below ON_THR: CH_I_AVG in ON and SOFT_FUSE, else the mean of the
window's samples in mA. -/
def Chip.candidate (c : Chip) (ch : Nat) (samples : List Int) : Bool :=
  if c.chRun ch = .on then decide ((c.rd (R.CH_I_AVG ch)).toInt < c.onThr ch) else decide (samples.sum < c.onThr ch * samples.length)

/-- R175: the outcome of an on-state window with these samples. -/
def Chip.onStateWindow (c : Chip) (ch : Nat) (samples : List Int) : Chip :=
  if c.onWindow ch then
    if c.candidate ch samples then
      let k := (c.chan ch).onCand + 1
      let c := c.setChan ch { c.chan ch with onCand := k }
      if c.fget (R.CH_OL_CFG ch) F.CH_OL_CFG_ON_CONFIRM ≤ k then c.fset (R.CH_OL_STATUS ch) F.CH_OL_STATUS_UNCONFIRMED 1 else c
    else
      (c.setChan ch { c.chan ch with onCand := 0 }).fset (R.CH_OL_STATUS ch) F.CH_OL_STATUS_UNCONFIRMED 0
        |>.fset (R.CH_OL_STATUS ch) F.CH_OL_STATUS_OPEN_ON 0
  else c

def Chip.offEn (c : Chip) (ch : Nat) : Bool := c.flag (R.CH_OL_CFG ch) F.CH_OL_CFG_OFF_EN
def Chip.unconfirmed (c : Chip) (ch : Nat) : Bool := c.flag (R.CH_OL_STATUS ch) F.CH_OL_STATUS_UNCONFIRMED

/-- R176: the time in ticks in which the channel's output is undriven: without end in OFF, the off-time in PWM. -/
def Chip.offTime (c : Chip) (ch : Nat) : Nat :=
  match c.chState ch with
  | .off => 4200
  | .pwm => c.period ch - (c.chan ch).onTicks
  | _ => 0

/-- R176, R175: an off-state cycle may begin. -/
def Chip.cycleAllowed (c : Chip) (ch : Nat) : Bool :=
  !isSealed ch && !c.oddMember ch && decide (2200 ≤ c.offTime ch) && (c.offEn ch || c.unconfirmed ch) &&
    c.tdrStatus (pdie ch) != 1 && c.tdrStatus (pdie ch) != 5 && (c.die (pdie ch)).xc.isNone

/-- R176: an off-state cycle begins, unless the clamp still acts (clamped). -/
def Chip.cycleStart (c : Chip) (ch : Nat) (clamped : Bool) : Chip :=
  if c.cycleAllowed ch && !clamped then c.setChan ch { c.chan ch with cycle := 1 } else c

/-- R144, R145, R175: the pull-down phase ends with the output above or below 50 % of the feed. -/
def Chip.pullDownEnd (c : Chip) (ch : Nat) (above : Bool) : Chip :=
  if (c.chan ch).cycle = 1 then
    let was := c.flag (R.CH_PROT_STATUS ch) F.CH_PROT_STATUS_SHORT_SUPPLY
    let c := c.setChan ch { c.chan ch with cycle := if c.offEn ch ∧ 4200 ≤ c.offTime ch then 2 else 0
                                           offOpen := if above then 0 else (c.chan ch).offOpen }
    if above then
      if c.offEn ch then
        let c := c.fset (R.CH_PROT_STATUS ch) F.CH_PROT_STATUS_SHORT_SUPPLY 1
        if was then c else c.reportCause ch 6
      else c
    else
      let c := c.fset (R.CH_PROT_STATUS ch) F.CH_PROT_STATUS_SHORT_SUPPLY 0
      if c.unconfirmed ch ∧ ¬ c.flag (R.CH_OL_STATUS ch) F.CH_OL_STATUS_OPEN_ON then
        (c.fset (R.CH_OL_STATUS ch) F.CH_OL_STATUS_OPEN_ON 1).reportCause ch 4
      else c
  else c

/-- The pull-up threshold in percent of the feed (CH_OL_CFG.OFF_THR). -/
def offThr : Nat → Nat
  | 0 => 50 | 1 => 75 | _ => 90

/-- R177: the pull-up phase ends with reading v of a feed vfeed, both in 10 mV. -/
def Chip.pullUpEnd (c : Chip) (ch v vfeed : Nat) : Chip :=
  if (c.chan ch).cycle = 2 then
    let c := (c.setChan ch { c.chan ch with cycle := 0 }).fset (R.CH_OL_STATUS ch) F.CH_OL_STATUS_VOFF v
    if c.flag (R.CH_PROT_STATUS ch) F.CH_PROT_STATUS_SHORT_SUPPLY then c
    else if vfeed * offThr (c.fget (R.CH_OL_CFG ch) F.CH_OL_CFG_OFF_THR) < 100 * v then
      let k := (c.chan ch).offOpen + 1
      let c := c.setChan ch { c.chan ch with offOpen := k }
      if c.fget (R.CH_OL_CFG ch) F.CH_OL_CFG_OFF_CONFIRM ≤ k ∧ ¬ c.flag (R.CH_OL_STATUS ch) F.CH_OL_STATUS_OPEN_OFF then
        (c.fset (R.CH_OL_STATUS ch) F.CH_OL_STATUS_OPEN_OFF 1).reportCause ch 5
      else c
    else (c.setChan ch { c.chan ch with offOpen := 0 }).fset (R.CH_OL_STATUS ch) F.CH_OL_STATUS_OPEN_OFF 0
  else c

/-! ### Cross-coupling (R180 to R182) -/

/-- R180: a test of the source is refused. -/
def Chip.xcRefused (c : Chip) (n src : Nat) : Bool :=
  48 ≤ src || c.chState (48 * n + src) != .off || c.pendingGrant (48 * n + src) || isSealed (48 * n + src)
    || c.isStartEnable (48 * n + src) || c.oddMember (48 * n + src) || (c.die n).xc.isSome || c.tdrStatus n == 1 || c.tdrStatus n == 5

/-- R180, R181: GO of PWR_XC_CTRL: the pulse is requested like a start, or the test is refused. Assumption log 32 (DEDUCED). -/
def Chip.xcGo (c : Chip) (n : Nat) : Chip :=
  let src := c.fget (R.PWR_XC_CTRL n) F.PWR_XC_CTRL_SRC
  if c.xcRefused n src then c.fset (R.PWR_XC_STATUS n) F.PWR_XC_STATUS_STATUS 4
  else
    let c := c.fset (R.PWR_XC_STATUS n) F.PWR_XC_STATUS_STATUS 1 |>.fset (R.PWR_XC_STATUS n) F.PWR_XC_STATUS_SRC src
      |>.wr (R.PWR_XC_WATCH0 n) 0 |>.wr (R.PWR_XC_WATCH1 n) 0 |>.wr (R.PWR_XC_HIT0 n) 0 |>.wr (R.PWR_XC_HIT1 n) 0
      |>.setDie n { c.die n with xc := some (src, false) }
    (c.endCycles n).arriveReqs n [c.requestOf (48 * n + src) true]

/-- R181: the pulse ends: of the watched channels, those whose output rose are marked. -/
def Chip.xcPulseEnd (c : Chip) (n : Nat) (rose : BitVec 48) : Chip :=
  match (c.die n).xc with
  | some (src, true) =>
    let c := c.wr (R.PWR_XC_HIT0 n) (c.rd (R.PWR_XC_WATCH0 n) &&& rose.setWidth 32)
      |>.wr (R.PWR_XC_HIT1 n) (c.rd (R.PWR_XC_WATCH1 n) &&& (rose >>> 32).setWidth 32)
    let c := (c.xcEnd n 2).raiseFrom (n + 2) (60 + n)
    (c.finish (onObj 0x33 (48 * n + src)) .ok
      [c.rd (R.PWR_XC_WATCH0 n), c.rd (R.PWR_XC_WATCH1 n), c.rd (R.PWR_XC_HIT0 n), c.rd (R.PWR_XC_HIT1 n)]).reexamine n
  | _ => c

/-! ### Reflectometry (R187 to R191) -/

/-- R187: a run on the channel is refused; a pair's state is its even member's (R72). -/
def Chip.tdrRefused (c : Chip) (n src : Nat) : Bool :=
  let st := c.chState (c.lead (48 * n + src))
  48 ≤ src || isSealed (48 * n + src) || (c.die n).xc.isSome || !(st == .off || st == .latchedOff || st == .disabled)

/-- R187, R166: GO of PWR_TDR_CTRL: a run begins, paused at once while three or four identifications run, or it is
refused. The run keeps the settings it began with. During a run GO has no effect. Assumption log 32 (DEDUCED). -/
def Chip.tdrGo (c : Chip) (n : Nat) : Chip :=
  if c.tdrStatus n = 1 ∨ c.tdrStatus n = 5 then c
  else if c.tdrRefused n (c.fget (R.PWR_TDR_CTRL n) F.PWR_TDR_CTRL_SRC) then c.fset (R.PWR_TDR_STATUS n) F.PWR_TDR_STATUS_STATUS 4
  else
    let c := c.fbumpWrap (R.PWR_TDR_STATUS n) F.PWR_TDR_STATUS_SEQ |>.fset (R.PWR_TDR_STATUS n) F.PWR_TDR_STATUS_STEP 0
      |>.fset (R.PWR_TDR_STATUS n) F.PWR_TDR_STATUS_STATUS 1
    let c := c.setDie n { c.die n with tdr := some { ctrl := c.rd (R.PWR_TDR_CTRL n), cfg := c.rd (R.PWR_TDR_CFG n) } }
    ((c.endCycles n).updateHk n (c.lidRunning n)).tdrPause n

/-- R166: the commitment including reflectometry is 90 % or below again. -/
def Chip.tdrResume (c : Chip) (n : Nat) : Chip :=
  if c.tdrStatus n = 5 ∧ c.lidRunning n ≤ 2 then
    (c.fset (R.PWR_TDR_STATUS n) F.PWR_TDR_STATUS_STATUS 1).updateHk n (c.lidRunning n)
  else c

/-- R189: the distance of a delay in ps at velocity factor vf, in cm: t × VF × c / 2, rounded to nearest. Assumption log 32 (DEDUCED). -/
def tdrCm (vf ps : Nat) : Nat := (ps * vf * 299792458 + 1000000000000) / 2000000000000

/-- R189: the class of a reflection coefficient in 1/4096. -/
def tdrKind (rho : Int) : Nat := if 32768 < 10 * rho then 2 else if 10 * rho < -32768 then 3 else if 0 ≤ rho then 0 else 1

/-- Insert a reflection by its delay. -/
def insReflection (r : Reflection) : List Reflection → List Reflection
  | [] => [r]
  | a :: l => if r.ps < a.ps then r :: a :: l else a :: insReflection r l

/-- R189: the reflections reported: at least THR in magnitude, over 0.5 to 60 m, up to 8, nearest first. -/
def tdrEvents (thr vf : Nat) (l : List Reflection) : List Reflection :=
  (((l.filter fun r => decide (thr * 4096 ≤ 100 * r.rho.natAbs) && decide (50 ≤ tdrCm vf r.ps) && decide (tdrCm vf r.ps ≤ 6000)).foldr
    insReflection [])).take 8

/-- R191: the packet of a finished run. -/
def Chip.tdrPacket (c : Chip) (n : Nat) (r : TdrRun) (found : List Reflection) (trace : List Word) : List Word :=
  let x := r.ctrl
  let vf := F.PWR_TDR_CTRL_VF.get x
  let evs := tdrEvents (F.PWR_TDR_CFG_THR.get r.cfg) vf found
  [.ofNat 32 (n * 2 ^ 30 + F.PWR_TDR_CTRL_SRC.get x * 2 ^ 24 + 2 * 2 ^ 20 + evs.length * 2 ^ 16 + c.fget (R.PWR_TDR_STATUS n) F.PWR_TDR_STATUS_SEQ),
   .ofNat 32 (F.PWR_TDR_CTRL_TRACE.get x * 2 ^ 31 + vf * 2 ^ 16)] ++
  (evs.map fun r => .ofNat 32 (tdrCm vf r.ps * 2 ^ 16 + tdrKind r.rho * 2 ^ 14 + (BitVec.ofInt 14 r.rho).toNat)) ++
  (if F.PWR_TDR_CTRL_TRACE.get x = 1 then (List.range 2048).map fun i => trace.getD i 0 else [])

/-- R191: a run finishes its 4096 steps. Assumption log 32 (DEDUCED). -/
def Chip.tdrDone (c : Chip) (n : Nat) (found : List Reflection) (trace : List Word) : Chip :=
  match (c.die n).tdr with
  | some r =>
    if c.tdrStatus n = 1 then
      let c := (c.setDie n { c.die n with tdr := none }).fset (R.PWR_TDR_STATUS n) F.PWR_TDR_STATUS_STATUS 2
        |>.fset (R.PWR_TDR_STATUS n) F.PWR_TDR_STATUS_STEP 4095 |>.updateHk n (c.lidRunning n)
      let c := if c.linkUp (n + 2) then c.hwPush 28 (c.tdrPacket n r found trace) else c
      (c.raiseFrom (n + 2) (60 + n)).finish (onObj 0x32 (48 * n + F.PWR_TDR_CTRL_SRC.get r.ctrl)) .ok [c.rd (R.PWR_TDR_STATUS n)]
    else c
  | none => c

/-- A write of PWR_TDR_CTRL: STOP ends a run, GO starts one (R187, R190). -/
def Chip.tdrCtrl (c : Chip) (n : Nat) (x : Word) : Chip :=
  let c := if F.PWR_TDR_CTRL_STOP.get x = 1 then c.tdrAbort n else c
  if F.PWR_TDR_CTRL_GO.get x = 1 then c.tdrGo n else c

/-! ### CAN bus health (R192, R193) -/

def Chip.cant (c : Chip) (n : Nat) : CantX := Tbl.get (fun _ => {}) c.cants n
def Chip.setCant (c : Chip) (n : Nat) (x : CantX) : Chip := { c with cants := Tbl.set (fun _ => {}) c.cants n x }

def CantX.phase (x : CantX) (step : Bool) : Nat := if step then x.step else x.term
def CantX.withPhase (x : CantX) (step : Bool) (p : Nat) : CantX := if step then { x with step := p } else { x with term := p }

/-- The register of a bus measurement, and its STATUS and SEQ fields: the two share their places. -/
def cantReg (n : Nat) (step : Bool) : Nat := if step then R.SEN_CANT_HLTH_STEP n else R.SEN_CANT_HLTH_TERM n

/-- R192: a measurement is requested; it waits for the bus to be idle. One that has not ended goes on. -/
def Chip.cantStart (c : Chip) (n : Nat) (step : Bool) : Chip :=
  if (c.cant n).phase step = 0 then
    (c.setCant n ((c.cant n).withPhase step 1)).fset (cantReg n step) F.SEN_CANT_HLTH_TERM_STATUS 1
  else c

/-- A measurement ends with a status; SEQ counts its end (R193). -/
def Chip.cantEnd (c : Chip) (n : Nat) (step : Bool) (status : Nat) : Chip :=
  (c.setCant n ((c.cant n).withPhase step 0)).fset (cantReg n step) F.SEN_CANT_HLTH_TERM_STATUS status
    |>.fbumpWrap (cantReg n step) F.SEN_CANT_HLTH_TERM_SEQ

/-- A write of SEN_CANT_HLTH_CTRL requests the measurements it names (R192). -/
def Chip.cantCtrl (c : Chip) (n : Nat) (x : Word) : Chip :=
  let c := if F.SEN_CANT_HLTH_CTRL_MEAS_TERM.get x = 1 then c.cantStart n false else c
  if F.SEN_CANT_HLTH_CTRL_MEAS_STEP.get x = 1 then c.cantStart n true else c

/-- R192: waiting and paused measurements run at an idle bus. -/
def cantIdle (p : Nat) : Nat := if p = 1 ∨ p = 3 then 2 else p
/-- R193: a running measurement pauses. -/
def cantPause (p : Nat) : Nat := if p = 2 then 3 else p

/-- R189, R192: distance and kind of the first impedance step, with the velocity factor of the bus; 0xFFFF where none lies
within 40 m, with a kind the spec does not state (Config.noStepKind). Assumption log 35 (DESIGN CHOICE). -/
def cantFound (vf : Nat) : Option Reflection → Nat × Nat
  | some r => if tdrCm vf r.ps ≤ 4000 then (tdrCm vf r.ps, tdrKind r.rho) else (0xFFFF, Config.noStepKind.toNat)
  | none => (0xFFFF, Config.noStepKind.toNat)

/-- R192, R193: a running measurement completes: R_TERM in 0.1 Ω, or the first step. -/
def Chip.cantDone (c : Chip) (n : Nat) (step : Bool) (ohm : Nat) (found : Option Reflection) : Chip :=
  if (c.cant n).phase step = 2 then
    let x := cantFound (c.fget (R.SEN_CANT_HLTH_CTRL n) F.SEN_CANT_HLTH_CTRL_VF) found
    let c := if step then c.fset (cantReg n step) F.SEN_CANT_HLTH_STEP_DIST x.1 |>.fset (cantReg n step) F.SEN_CANT_HLTH_STEP_KIND x.2
      else c.fset (cantReg n step) F.SEN_CANT_HLTH_TERM_R_TERM ohm
    let c := (c.cantEnd n step 2).raiseFrom 1 70
    c.finish (onObj 0x35 (n + 8 * step.toNat)) .ok [c.rd (cantReg n step)]
  else c

/-- R193: a measurement not finished 1 s after it began ends ABORTED. -/
def Chip.cantTimeout (c : Chip) (n : Nat) (step : Bool) : Chip :=
  if (c.cant n).phase step = 0 then c else (c.cantEnd n step 3).finish (onObj 0x35 (n + 8 * step.toNat)) .aborted []

/-! ### Meanings -/

/-- R167, R184, R194. -/
def execMeasWindowEnd (n : Fin 4) (ws : List ChanWin) (feed : List Nat) (early : List (Nat × List EarlySample))
    (vlv : List (BitVec 16 × BitVec 16)) (s : State) : Host.Outcome State Fault Refusal := .next (s.onChip (·.measWindow n ws feed early vlv))
/-- R186. -/
def execLidUnsettledTimeout (ch : Fin 192) (s : State) : Host.Outcome State Fault Refusal := .next (s.onChip (·.lidUnsettled ch))
/-- R172, R173. -/
def execStreamPacketComplete (n : Fin 4) (samples : List RawSample) (odd : List (BitVec 14)) (s : State) : Host.Outcome State Fault Refusal :=
  .next (s.onChip (·.streamDone n samples odd))
/-- R175. -/
def execOnStateWindowEnd (ch : Fin 192) (samples : List Int) (s : State) : Host.Outcome State Fault Refusal :=
  .next (s.onChip (·.onStateWindow ch samples))
/-- R176. -/
def execOffDiagCycleStart (x : CycleAt) (s : State) : Host.Outcome State Fault Refusal :=
  .next (s.onChip (·.cycleStart x.ch x.clamped))
/-- R144, R145, R175. -/
def execPullDownPhaseEnd (ch : Fin 192) (above : Bool) (s : State) : Host.Outcome State Fault Refusal := .next (s.onChip (·.pullDownEnd ch above))
/-- R177. -/
def execPullUpPhaseEnd (ch : Fin 192) (v vfeed : BitVec 16) (s : State) : Host.Outcome State Fault Refusal :=
  .next (s.onChip (·.pullUpEnd ch v.toNat vfeed.toNat))
/-- R181. -/
def execXcPulseEnd (n : Fin 4) (rose : BitVec 48) (s : State) : Host.Outcome State Fault Refusal := .next (s.onChip (·.xcPulseEnd n rose))
/-- R166. -/
def execTdrResume (n : Fin 4) (s : State) : Host.Outcome State Fault Refusal := .next (s.onChip (·.tdrResume n))
/-- R191. -/
def execTdrRunComplete (n : Fin 4) (found : List Reflection) (trace : List Word) (s : State) : Host.Outcome State Fault Refusal :=
  .next (s.onChip (·.tdrDone n found trace))
/-- R192: an idle bus counts while the controller does not transmit. -/
def execCantBusIdle (n : Fin 6) (s : State) : Host.Outcome State Fault Refusal :=
  .next (s.onChip fun c => if (c.can n).cur.isSome then c else c.setCant n ⟨cantIdle (c.cant n).term, cantIdle (c.cant n).step⟩)
/-- R193. -/
def execCantMeasPause (n : Fin 6) (s : State) : Host.Outcome State Fault Refusal :=
  .next (s.onChip fun c => c.setCant n ⟨cantPause (c.cant n).term, cantPause (c.cant n).step⟩)
/-- R193. -/
def execCantMeasDone (n : Fin 6) (step : Bool) (ohm : BitVec 16) (found : Option Reflection) (s : State) :
    Host.Outcome State Fault Refusal := .next (s.onChip (·.cantDone n step ohm.toNat found))
/-- R193. -/
def execCantMeasTimeout (n : Fin 6) (step : Bool) (s : State) : Host.Outcome State Fault Refusal := .next (s.onChip (·.cantTimeout n step))
/-- R195. -/
def execLplusStaleTimeout (s : State) : Host.Outcome State Fault Refusal := .next (s.onChip (·.fset (R.SEN_RAIL 3) F.SEN_RAIL_STALE 1))

end Sys2Proof.Machine
end

