-- ==== Sys2Proof/Machine/Lighting.lean ====
section
/-! DEFINITION. Lighting (spec/06): sinks and the headroom converter at sub-period boundaries, NTC inputs and derating,
groups, pattern engines, flashers. -/

namespace Sys2Proof.Machine
open Sys2Proof

/-! ### Sinks -/

/-- An 8-bit two's-complement value. -/
def signed8 (v : Nat) : Int := if v < 128 then v else (v : Int) - 256

/-- The value of lane j of engine e. -/
def Chip.lane (c : Chip) (e j : Nat) : Nat :=
  if j % 2 = 0 then c.fget (R.PE_LANE e (j / 2)) F.PE_LANE_LO else c.fget (R.PE_LANE e (j / 2)) F.PE_LANE_HI
def Chip.setLane (e : Nat) (c : Chip) (jv : Nat × Nat) : Chip :=
  if jv.1 % 2 = 0 then c.fset (R.PE_LANE e (jv.1 / 2)) F.PE_LANE_LO jv.2 else c.fset (R.PE_LANE e (jv.1 / 2)) F.PE_LANE_HI jv.2

/-- R218: the duty of a lane value. -/
def Chip.laneDuty (c : Chip) (e j : Nat) : Nat :=
  let v := c.lane e j
  if c.flag (R.PE_CTRL e) F.PE_CTRL_GAMMA then v * v / 4095 else v

/-- R213, R224: the duty D from the sink's source; LIMP_DUTY in LIMP with LIMP_MODE ON. Assumption log 37 (DEDUCED). -/
def Chip.sinkDuty (c : Chip) (s : Nat) : Nat :=
  let x := (c.sink s).act
  let g := F.LS_CFG_GROUP.get x.cfg
  if c.sinkState s = .limp ∧ F.LS_CFG_LIMP_MODE.get x.cfg = 1 then F.LS_CFG_LIMP_DUTY.get x.cfg
  else if 12 ≤ g then F.LS_DUTY_DUTY.get x.duty
  else if c.engineSrc g then c.laneDuty (c.groupEngine g) (F.LS_CFG_LANE.get x.cfg)
  else c.fget (R.LF_LEVEL g) F.LF_LEVEL_LEVEL

/-- R210: the factor F of the sink's group; 1024 outside any group. -/
def Chip.sinkFactor (c : Chip) (s : Nat) : Nat := if 12 ≤ c.sinkGroup s then 1024 else c.fget (R.LF_STATUS (c.sinkGroup s)) F.LF_STATUS_F

/-- R210: the trimmed current code. -/
def codeEff (code : Nat) (trim : Int) : Nat := min 1023 ((code * (512 + trim) + 256) / 512).toNat
/-- R210: the trimmed and derated duty. -/
def dEff (d f : Nat) (trim : Int) : Nat := min 4095 (((d * f / 1024 : Nat) : Int) * (1024 + trim) / 1024).toNat

/-- R197: the sink's set current in 1/1023 of 0.01 mA. -/
def Chip.setCurrent (c : Chip) (s : Nat) : Nat :=
  15000 * codeEff (F.LS_ISET_CODE.get (c.sink s).act.iset) (signed8 (c.fget (R.LS_CAL s) F.LS_CAL_I_TRIM))

/-- R198, R203: the ticks of on-time that sub-period n holds of duty d; with probe the frame is one in which a duty of 8 to
112 is one pulse in sub-period 0. -/
def subTicks (d n : Nat) (probe : Bool) : Nat :=
  if probe && decide (8 ≤ d) && decide (d ≤ 112) then (if n = 0 then d else 0) else d / 16 + (if n < d % 16 then 1 else 0)

/-- R203: the frame under way is one in 16. Assumption log 88 (DEDUCED). -/
def Chip.probeFrame (c : Chip) : Bool := c.ledFrame == 0

/-- R199: the pulse runs past the end of its sub-period of 256 µs. -/
def LedPulse.runsOver (p : LedPulse) : Bool := decide (256 < p.start + p.ticks)

/-- R198, R199: what sink s begins in the sub-period under way, s × 10 µs after its start, with the values in force. Assumption log 88 (DEDUCED). -/
def Chip.sinkPulse (c : Chip) (s d : Nat) : Option LedPulse :=
  let t := subTicks d c.subp c.probeFrame
  if t = 0 then none else some ⟨c.setCurrent s, t, 10 * s⟩

/-- R199, R201: the pulse that a sample taken in the sub-period just ended is of, if it gives an eligible one: it ended there,
and held at least 8 ticks. -/
def Chip.sampled (c : Chip) (m : LedSample) : Option LedPulse :=
  (if m.spilled then (c.sink m.s).spill else (c.sink m.s).pulse.filter fun p => !p.runsOver).filter fun p => decide (8 ≤ p.ticks)

/-- The set current of the pulse that a sample is of. -/
def Chip.sampleSet (c : Chip) (m : LedSample) : Nat := ((c.sampled m).map (·.set)).getD 0

/-- R205: the headroom converter runs. -/
def Chip.hrRuns (c : Chip) : Bool :=
  c.flag R.LED_HR_CTRL F.LED_HR_CTRL_EN && !c.flag R.LED_HR_STATUS F.LED_HR_STATUS_RESTARTING &&
    !c.flag R.LED_HR_STATUS F.LED_HR_STATUS_FAULT_LATCHED

/-- R206, R215, R216, R224: the values in force have the sink on: its EN (in LIMP its LIMP_MODE), its group ACTIVE, and no
STARTUP under way. -/
def Chip.sinkWanted (c : Chip) (s : Nat) : Bool :=
  let x := c.sink s
  (match c.sinkState s, c.sinkLimpMode s with
    | .limp, 0 => false
    | .limp, 1 => true
    | _, _ => x.act.en) &&
    !x.rearmed && c.mode != 5 && (decide (12 ≤ c.sinkGroup s) || c.groupState (c.sinkGroup s) == 1)

/-- The state a sink that is not faulted takes: off, on, or waiting for VLED (R205). Assumption log 37 (DEDUCED). -/
def Chip.sinkSettle (c : Chip) (s : Nat) : Chip :=
  match c.sinkRun s with
  | .off | .on | .vledWait =>
    if c.sinkWanted s then
      if c.hrRuns then (c.setSinkRun s .on).sinkFaultCode s 0 else (c.setSinkRun s .vledWait).sinkFaultCode s 4
    else (c.setSinkRun s .off).sinkFaultCode s 0
  | _ => c

/-- R200, R224: captured values come into force; a LIMP sink leaves LIMP by them. -/
def Chip.sinkTake (c : Chip) (s : Nat) : Chip :=
  match (c.sink s).pend with
  | none => c
  | some p =>
    let c := if c.sinkState s = .limp then c.setSinkState s (c.sinkRun s) else c
    c.setSink s { c.sink s with act := p, pend := none, rearmed := false }

/-- R198 to R203: what a sink does at a sub-period boundary: new values, its state, its duty, and its next pulse; a pulse
that runs over the boundary keeps what it began with. -/
def Chip.sinkApply (c : Chip) (s : Nat) : Chip :=
  let c := (c.sinkTake s).sinkSettle s
  let on := c.sinkRun s == .on
  let d := if on then dEff (c.sinkDuty s) (c.sinkFactor s) (signed8 (c.fget (R.LS_CAL s) F.LS_CAL_D_TRIM)) else 0
  let x := c.sink s
  let c := c.setSink s { x with spill := x.pulse.filter LedPulse.runsOver, pulse := if on then c.sinkPulse s d else none }
  let c := c.fset (R.LS_STATUS s) F.LS_STATUS_D_EFF d |>.fbit (R.LS_STATUS s) F.LS_STATUS_UNTRACKED (on && decide (d < 8))
  if on then c else c.fset (R.LS_STATUS s) F.LS_STATUS_HEADROOM_LOW 0

/-- R201: a sample is of a sink that regulates. -/
def Chip.regulates (c : Chip) (x : LedSample) : Bool := decide (97 * c.sampleSet x ≤ 100 * 1023 * x.i)

/-- VSET is within 0.5 V of VMAX. -/
def Chip.atVmax (c : Chip) : Bool :=
  decide (10 * c.fget R.LED_HR_CTRL F.LED_HR_CTRL_VMAX ≤ c.fget R.LED_HR_STATUS F.LED_HR_STATUS_VSET + 50)

/-- R204, R206: one eligible sample of a sink that is on; low is the lowest headroom of a regulating sink. -/
def Chip.sinkSample (low : Option Nat) (c : Chip) (m : LedSample) : Chip :=
  let s := m.s.val
  if c.sinkRun s = .on then
    let set := c.sampleSet m
    let half := decide (2 * 1023 * m.i < set)
    let x := c.sink s
    let short := match low with
      | some h => decide (h + 10 * F.LS_CFG_SHORT_HR.get x.act.cfg < m.hr)
      | none => false
    let x := { x with opens := if half && c.atVmax then x.opens + 1 else 0, shorts := if short then x.shorts + 1 else 0 }
    let c := c.wr (R.LS_MEAS s) (F.LS_MEAS_HEADROOM.put (F.LS_MEAS_I.of m.i) m.hr)
      |>.fbit (R.LS_STATUS s) F.LS_STATUS_HEADROOM_LOW (!half && !c.regulates m && c.atVmax)
    if 3 ≤ x.opens then (c.setSink s { x with opens := 0, shorts := 0 }).sinkFault s 1 .fault
    else if 3 ≤ x.shorts then (c.setSink s { x with opens := 0, shorts := 0 }).sinkFault s 2 .fault
    else c.setSink s x
  else c

/-- The sample of the lowest headroom of a list, the first of equals. -/
def lowest : List LedSample → Option LedSample
  | [] => none
  | a :: l => match lowest l with
    | some b => if b.hr < a.hr then some b else some a
    | none => some a

/-- R202: the set point's next value in 10 mV. -/
def nextVset (vset hmin target vmax : Nat) : Nat :=
  let v := if hmin < target then vset + min (target - hmin) 100
    else if target + 20 < hmin then vset - min (hmin - target - 10) 25 else vset
  max 1200 (min vmax v)

/-- R202, R204: a set point that the converter has taken lies between 12 V and VMAX; AT_VMAX follows, and away from VMAX no
sink shows HEADROOM_LOW. -/
def Chip.boundVset (c : Chip) : Chip :=
  let v := c.fget R.LED_HR_STATUS F.LED_HR_STATUS_VSET
  let c := if v = 0 then c else c.fset R.LED_HR_STATUS F.LED_HR_STATUS_VSET (max 1200 (min (10 * c.fget R.LED_HR_CTRL F.LED_HR_CTRL_VMAX) v))
  let top := v != 0 && c.atVmax
  let c := c.fbit R.LED_HR_STATUS F.LED_HR_STATUS_AT_VMAX top
  if top then c else (List.range 24).foldl (fun c s => c.fset (R.LS_STATUS s) F.LS_STATUS_HEADROOM_LOW 0) c

/-- R202: the converter moves VSET from the lowest of these eligible headrooms, of the sinks still on and not faulted. -/
def Chip.moveVset (c : Chip) (ms : List LedSample) : Chip :=
  if c.hrRuns then
    let l := ms.filter fun m => c.sinkRun m.s == .on
    (match lowest l with
      | some m => c.fset R.LED_HR_STATUS F.LED_HR_STATUS_NEEDIEST m.s |>.fset R.LED_HR_STATUS F.LED_HR_STATUS_VSET
          (nextVset (c.fget R.LED_HR_STATUS F.LED_HR_STATUS_VSET) m.hr (c.fget R.LED_HR_CTRL F.LED_HR_CTRL_TARGET)
            (10 * c.fget R.LED_HR_CTRL F.LED_HR_CTRL_VMAX))
      | none => c).boundVset
  else c

/-- R198: the next sub-period of the frame, or the next frame's first, begins. -/
def Chip.nextSub (c : Chip) : Chip :=
  if c.subp < 15 then { c with subp := c.subp + 1 } else { c with subp := 0, ledFrame := (c.ledFrame + 1) % 16 }

/-- R198 to R206: a sub-period ends with these samples, and the next one begins. Samples that are not eligible, or of a sink
that is not on, do not count. -/
def Chip.subperiod (c : Chip) (ms : List LedSample) (ilim : Bool) : Chip :=
  let on := ms.filter fun m => c.sinkRun m.s == .on && (c.sampled m).isSome
  let low := (lowest (on.filter c.regulates)).map (·.hr)
  let c := c.fbit R.LED_HR_STATUS F.LED_HR_STATUS_ILIM ilim
  let c := (on.foldl (Chip.sinkSample low) c).moveVset on
  ((List.range 24).foldl Chip.sinkApply c.nextSub).updateOutages

/-- R206: OVERTEMP: a sink that is on or waits for VLED enters COOL. -/
def Chip.sinkHot (c : Chip) (s : Nat) : Chip :=
  match c.sinkRun s with
  | .on | .vledWait => c.sinkFault s 3 .cool
  | _ => c

/-- R206: a COOL sink restarts at the restart level. -/
def Chip.sinkCooled (c : Chip) (s : Nat) : Chip :=
  if c.sinkRun s = .cool then (((c.setSinkRun s .on).sinkFaultCode s 0).sinkSettle s).updateOutages else c

/-- R200: the sink's shadows are captured. -/
def Chip.sinkCapture (c : Chip) (s : Nat) : Chip :=
  c.setSink s { c.sink s with pend := some ⟨c.rd (R.LS_ISET s), c.rd (R.LS_DUTY s), c.rd (R.LS_CFG s), c.flag (R.LS_CTRL s) F.LS_CTRL_EN⟩ }

/-- R207: REARM takes a FAULT sink to OFF. Assumption log 37 (DEDUCED). -/
def Chip.sinkRearm (c : Chip) (s : Nat) : Chip :=
  if c.sinkRun s = .fault then
    ((c.setSink s { c.sink s with rearmed := true, opens := 0, shorts := 0 }).setSinkRun s .off).sinkFaultCode s 0
  else c

/-- A write of LS_CTRL, its EN stored: REARM, then APPLY (R200, R207). -/
def Chip.sinkCtrl (c : Chip) (s : Nat) (x : Word) : Chip :=
  let c := if F.LS_CTRL_REARM.get x = 1 then c.sinkRearm s else c
  if F.LS_CTRL_APPLY.get x = 1 then c.sinkCapture s else c

/-- R200: GO of LED_COMMIT captures every masked sink. -/
def Chip.ledCommit (c : Chip) : Chip :=
  ((List.range 24).filter fun s => (c.fget R.LED_COMMIT_MASK F.LED_COMMIT_MASK_MASK).testBit s).foldl Chip.sinkCapture c

/-! ### The headroom converter (R205) -/

/-- Every sink that is on enters VLED_WAIT by a converter stop, as fault code 4 (R206). -/
def Chip.vledStop (c : Chip) : Chip :=
  (List.range 24).foldl (fun c s => if c.sinkRun s = .on then c.sinkFault s 4 .vledWait else c) c

/-- R205: the converter stops; a fourth stop within 10 s latches it off. -/
def Chip.hrStop (c : Chip) : Chip :=
  if c.hrRuns then
    let t := (c.ctr64 R.SYS_MTIME_LO).toNat
    let stops := t :: c.hrStops.filter fun u => t < u + 10000000
    let latch := 4 ≤ stops.length
    let c := { c with hrStops := stops }.vledStop.bump R.LED_HR_RESTART_CNT
    (c.fbit R.LED_HR_STATUS F.LED_HR_STATUS_FAULT_LATCHED latch |>.fbit R.LED_HR_STATUS F.LED_HR_STATUS_RESTARTING (!latch)).raiseFrom 1 74
  else c

/-- The converter starts from 12 V, and its sinks with it. -/
def Chip.hrBegin (c : Chip) : Chip :=
  let c := (c.fset R.LED_HR_STATUS F.LED_HR_STATUS_RESTARTING 0 |>.fset R.LED_HR_STATUS F.LED_HR_STATUS_VSET 1200).boundVset
  (List.range 24).foldl (fun c s => if c.sinkRun s = .vledWait then c.sinkSettle s else c) c

/-- R205: 100 ms after a stop the converter restarts. -/
def Chip.hrRestart (c : Chip) : Chip :=
  if c.flag R.LED_HR_STATUS F.LED_HR_STATUS_RESTARTING then c.hrBegin else c

/-- A write of LED_HR_CTRL, its fields stored; old is what it held: REARM releases a latched converter, a rise of EN
starts it, with EN = 0 every sink that is on waits (R205), and VSET keeps to VMAX (R202). Assumption log 37 (DEDUCED). -/
def Chip.hrCtrl (c : Chip) (old x : Word) : Chip :=
  let c := c.boundVset
  let c := if F.LED_HR_CTRL_REARM.get x = 1 ∧ c.flag R.LED_HR_STATUS F.LED_HR_STATUS_FAULT_LATCHED then
      ({ c with hrStops := [] }.fset R.LED_HR_STATUS F.LED_HR_STATUS_FAULT_LATCHED 0).hrBegin else c
  if F.LED_HR_CTRL_EN.get x = 1 then (if F.LED_HR_CTRL_EN.get old = 0 then c.hrBegin else c)
  else (List.range 24).foldl (fun c s => if c.sinkRun s = .on then c.sinkSettle s else c) c

/-! ### NTC inputs and derating (R211, R212) -/

/-- atanh z in 2^-48, z in 2^-48, by its series: m terms from z^k / k on. -/
def atanhTerms (z2 : Nat) : Nat → Nat → Nat → Nat
  | 0, _, _ => 0
  | m + 1, p, k => p / k + atanhTerms z2 m (p * z2 / 2 ^ 48) (k + 2)

/-- ln (a / b) in 2^-48 for a ≥ b > 0: halved into [1, 2), then ln x = 2 atanh ((x - 1) / (x + 1)). -/
def lnUp : Nat → Nat → Nat → Nat
  | 0, _, _ => 0
  | f + 1, a, b =>
    if 2 * b ≤ a then 195103586505167 + lnUp f a (2 * b)
    else
      let z := (a - b) * 2 ^ 48 / (a + b)
      2 * atanhTerms (z * z / 2 ^ 48) 24 z 1

/-- ln (a / b) for a, b > 0. Assumption log 39 (DEDUCED). -/
def lnRat (a b : Nat) : Rat := if b ≤ a then (lnUp 64 a b : Rat) / 2 ^ 48 else - (lnUp 64 b a : Rat) / 2 ^ 48

/-- R211: the temperature of a resistance in 0.1 °C plus 500. Free where R25 or B is 0, and where the field cannot hold it
(Config.ntcTemp). Assumption log 35 (DESIGN CHOICE), 39 (DEDUCED). -/
def ntcCode (ohm : Nat) (cfg : Word) : Nat :=
  let b := F.NTC_CFG_B.get cfg
  let r25 := 100 * F.NTC_CFG_R25.get cfg
  if b = 0 ∨ r25 = 0 then (Config.ntcTemp ohm cfg).toNat
  else
    let t : Rat := 1 / (20 / 5963 + lnRat ohm r25 / b) - 5463 / 20
    let v := (t * 10 + 500).floor
    if 0 ≤ v ∧ v ≤ 0xFFFF then v.toNat else (Config.ntcTemp ohm cfg).toNat

def Chip.ntcTemps (c : Chip) (t : Nat) : List Nat := Tbl.get (fun _ => []) c.ntcHist t

/-- R212: one more temperature of NTC t, of which the last 1 s holds 100. -/
def Chip.ntcKeep (c : Chip) (t : Nat) (v : List Nat) : Chip :=
  { c with ntcHist := Tbl.set (fun _ => []) c.ntcHist t ((v ++ c.ntcTemps t).take 100) }

/-- R211: NTC t is converted; in a fault the temperature holds its last value. -/
def Chip.ntcConvert (c : Chip) (t ohm : Nat) : Chip :=
  if ohm < 100 ∨ 1000000 < ohm then
    let was := c.flag (R.NTC_TEMP t) F.NTC_TEMP_FAULT
    let c := (c.fset (R.NTC_TEMP t) F.NTC_TEMP_FAULT 1).ntcKeep t (c.ntcTemps t).head?.toList
    if was then c else c.raiseFrom 1 76
  else
    let v := ntcCode ohm (c.rd (R.NTC_CFG t))
    (c.fset (R.NTC_TEMP t) F.NTC_TEMP_FAULT 0 |>.fset (R.NTC_TEMP t) F.NTC_TEMP_TEMP v).ntcKeep t [v]

/-- R212: the target factor of a mean temperature in 0.1 °C plus 500. -/
def derateTarget (x : Word) (v : Nat) : Nat :=
  let ts := 10 * F.LF_DERATE_T_START.get x
  let te := 10 * F.LF_DERATE_T_END.get x
  let lo := 4 * F.LF_DERATE_F_MIN.get x
  if v ≤ ts then 1024 else if te ≤ v ∨ te ≤ ts then lo else 1024 - (1024 - lo) * (v - ts) / (te - ts)

/-- R212: the factor moves towards its target by at most 8. -/
def derateStep (f target : Nat) : Nat := if f < target then min target (f + 8) else max target (f - 8)

/-- R212: a group with an NTC moves its factor. Assumption log 35 (DESIGN CHOICE), 39 (DEDUCED). -/
def Chip.derate (c : Chip) (g : Nat) : Chip :=
  let t := c.fget (R.LF_CFG g) F.LF_CFG_NTC_SEL
  if t < 8 then
    let x := c.rd (R.LF_DERATE g)
    let l := c.ntcTemps t
    let target := if c.flag (R.NTC_TEMP t) F.NTC_TEMP_FAULT then 4 * F.LF_DERATE_F_FAIL.get x else derateTarget x (if l = [] then Config.ntcMean g else l.sum / l.length)
    let f := derateStep (c.fget (R.LF_STATUS g) F.LF_STATUS_F) target
    c.fset (R.LF_STATUS g) F.LF_STATUS_F f |>.fbit (R.LF_STATUS g) F.LF_STATUS_DERATING (decide (f < 1024))
  else c

/-! ### Groups and their channels -/

/-- R213: the group's output is above zero. Assumption log 36 (DEDUCED). -/
def Chip.groupOutput (c : Chip) (g : Nat) : Bool :=
  c.groupState g == 1 && (if c.engineSrc g then (List.range 8).any fun j => c.lane (c.groupEngine g) j != 0
    else c.fget (R.LF_LEVEL g) F.LF_LEVEL_LEVEL != 0)

/-- The supervisor applies a mode to a channel, its other CH_CMD fields kept. -/
def Chip.supApply (c : Chip) (ch mode : Nat) : Chip :=
  if c.linkUp (physDie ch) then
    c.writeCmd 4 ch (F.CH_CMD_APPLY.put (F.CH_CMD_REARM.put (F.CH_CMD_MODE.put (c.rd (R.CH_CMD ch)) mode) 0) 1)
  else c

/-- R213: the channel already follows the group's output: the set captured last, or the active mode, is ON and the channel
drives, waits or cools down; or it is OFF. -/
def Chip.follows (c : Chip) (ch : Nat) (on : Bool) : Bool :=
  match (c.chan ch).pend with
  | some p => F.CH_CMD_MODE.get p.cmd == on.toNat
  | none => c.activeMode ch == on.toNat && c.chState ch != .limp &&
      (!on || (c.chState ch).driven || c.chState ch == .cooldown || c.pendingGrant ch)

/-- R213, R215, R216: the supervisor applies ON to the member channels while the group's output is above zero, else OFF,
to those that do not follow it. -/
def Chip.groupSync (c : Chip) (g : Nat) : Chip :=
  let on := c.groupOutput g
  (c.groupChans g).foldl (fun c ch => if c.follows ch on then c else c.supApply ch on.toNat) c

/-- A write of LF_CFG, its fields stored: EN = 0 turns the group off and its member channels with it; a rise of EN makes
it ACTIVE (R216). -/
def Chip.groupCfg (c : Chip) (g : Nat) (old x : Word) : Chip :=
  if F.LF_CFG_EN.get x = 0 then
    (c.groupChans g).foldl (fun c ch => if F.LF_CFG_EN.get old = 1 then c.supApply ch 0 else c) (c.fset (R.LF_STATUS g) F.LF_STATUS_STATE 0)
  else if F.LF_CFG_EN.get old = 0 then c.fset (R.LF_STATUS g) F.LF_STATUS_STATE 1 else c

/-! ### Pattern engines (R217 to R219) -/

def Chip.eng (c : Chip) (e : Nat) : EngX := Tbl.get (fun _ => {}) c.engines e
def Chip.setEng (c : Chip) (e : Nat) (x : EngX) : Chip := { c with engines := Tbl.set (fun _ => {}) c.engines e x }
def Chip.lanes (c : Chip) (e : Nat) : List Nat := (List.range 8).map (c.lane e)

/-- Put values into the lanes of a mask. -/
def Chip.putLanes (c : Chip) (e mask : Nat) (v : Nat → Nat) : Chip :=
  (((List.range 8).filter mask.testBit).map fun j => (j, v j)).foldl (Chip.setLane e) c

/-- R217: the ticks of a TIME field. -/
def stepTicks (time : Nat) : Nat := time % 128 * (if time < 128 then 1 else 32)

/-- R217: a lane j ticks into a ramp of t ticks. Assumption log 38 (DEDUCED). -/
def rampAt (a b j t : Nat) : Nat := (a * (t - j) + b * j) / t

/-- R219: an engine ends with a status: SEQ counts, EV075 is raised, its lanes hold or fade. Assumption log 38 (DEDUCED). -/
def Chip.engEnd (c : Chip) (e status : Nat) : Chip :=
  let fade := c.flag (R.PE_CTRL e) F.PE_CTRL_END_MODE
  let zero := fade && c.fget (R.PE_CTRL e) F.PE_CTRL_FADE_T == 0
  let c := c.setEng e { fade := if fade && !zero then some (c.lanes e, 0) else none }
  let c := if zero then c.putLanes e 255 fun _ => 0 else c
  (c.fset (R.PE_STATUS e) F.PE_STATUS_STATUS status |>.fbumpWrap (R.PE_STATUS e) F.PE_STATUS_SEQ).raiseFrom 1 75

/-- R217: an engine that waits for a mark of engine src goes on at its next tick. -/
def wake (src : Nat) (x : EngX) : EngX := if x.waits = some src then { x with waits := none, forever := false, left := 1 } else x

/-- R217, R223: engine e raises its sync mark: engines that wait for it go on, and the mark waits to be relayed to the
flashers that follow it. -/
def Chip.syncMark (c : Chip) (e : Nat) : Chip :=
  let c := (List.range 8).foldl (fun c j => c.setEng j (wake e (c.eng j))) c
  (List.range 16).foldl (fun c j =>
    let f := c.rd (R.PWR_FLASH_CFG (j / 4) (j % 4))
    if F.PWR_FLASH_CFG_EN.get f = 1 ∧ F.PWR_FLASH_CFG_SYNC.get f = 1 ∧ F.PWR_FLASH_CFG_SYNC_PE.get f = e then
      { c with flashMark := Tbl.set (fun _ => false) c.flashMark j true } else c) c

/-- What a step leads to: the engine ends, waits for ticks, or goes on at a step. -/
inductive StepEnd where
  | ends (status : Nat)
  | waits
  | goto (i : Nat)
  deriving DecidableEq, Repr

/-- R217: JOUT: OUTAGE of a group that the engine drives. -/
def Chip.engOutage (c : Chip) (e : Nat) : Bool :=
  (List.range 12).any fun g => c.engineSrc g && c.groupEngine g == e && c.flag (R.LF_STATUS g) F.LF_STATUS_OUTAGE

/-- The engine waits t ticks, or goes on at step i if t is 0. -/
def Chip.engWait (c : Chip) (e i t : Nat) : Chip × StepEnd :=
  if t = 0 then (c, .goto i) else (c.setEng e { c.eng e with left := t }, .waits)

/-- R217: run step i of engine e. Assumption log 38 (DEDUCED). -/
def Chip.engStep (c : Chip) (e i : Nat) : Chip × StepEnd :=
  let x := (c.rd (R.PE_STEP e i)).toNat
  let next := (i + 1) % 64
  let lanes := x / 2 ^ 20 % 256
  let level := x / 2 ^ 8 % 4096
  let t := stepTicks (x % 256)
  let target := x / 2 ^ 8 % 64
  match x / 2 ^ 28 with
  | 0 => (c, .ends 2)
  | 1 => (c.putLanes e lanes fun _ => level).engWait e next t
  | 2 => if t = 0 then (c.putLanes e lanes fun _ => level, .goto next)
    else (c.setEng e { c.eng e with left := t, ramp := some (lanes, c.lanes e, level, t) }, .waits)
  | 3 => c.engWait e next t
  | 4 =>
    let y := c.eng e
    let sel := x / 2 ^ 20 % 2
    let k := (if sel = 0 then y.cnt0 else y.cnt1) + 1
    let k' := if k < x % 256 then k else 0
    (c.setEng e (if sel = 0 then { y with cnt0 := k' } else { y with cnt1 := k' }), .goto (if k < x % 256 then target else next))
  | 5 => (c, .goto (x % 64))
  | 6 => (c, .goto (if c.engOutage e then x % 64 else next))
  | 7 => (c.syncMark e, .goto next)
  | 8 => (c.setEng e { c.eng e with waits := some (x / 2 ^ 8 % 8), forever := decide (t = 0), left := t }, .waits)
  | _ => (c, .ends 4)

/-- R217: run untimed steps until one waits or ends; 64 steps without a tick stop the engine with ERROR. -/
def Chip.engRun (e : Nat) : Nat → Nat → Chip → Chip
  | 0, _, c => c.engEnd e 4
  | f + 1, i, c =>
    let c := c.fset (R.PE_STATUS e) F.PE_STATUS_STEP i
    match c.engStep e i with
    | (c, .ends st) => c.engEnd e st
    | (c, .waits) => c
    | (c, .goto j) => Chip.engRun e f j c

/-- R217: a ramp's lanes when left ticks of it remain. -/
def Chip.rampTick (c : Chip) (e left : Nat) : Chip :=
  match (c.eng e).ramp with
  | some (m, froms, level, t) =>
    let c := c.putLanes e m fun j => rampAt (froms.getD j 0) level (t - left) t
    if left = 0 then c.setEng e { c.eng e with ramp := none } else c
  | none => c

/-- R219: a fade moves on by one tick. Assumption log 38 (DEDUCED). -/
def Chip.fadeTick (c : Chip) (e : Nat) : Chip :=
  match (c.eng e).fade with
  | some (froms, k) =>
    let t := c.fget (R.PE_CTRL e) F.PE_CTRL_FADE_T
    let c := c.putLanes e 255 fun j => if t ≤ k + 1 then 0 else rampAt (froms.getD j 0) 0 (k + 1) t
    c.setEng e { c.eng e with fade := if t ≤ k + 1 then none else some (froms, k + 1) }
  | none => c

/-- R217: the 1 ms tick of engine e. The step that follows a timed one is the next; a wait of WAITS that ends without a
mark goes on as one. -/
def Chip.engTick (c : Chip) (e : Nat) : Chip :=
  if c.fget (R.PE_STATUS e) F.PE_STATUS_STATUS = 1 then
    let x := c.eng e
    if x.forever then c
    else
      let fresh := x.left = 0
      let left := x.left - 1
      let c := (c.setEng e { x with left := left }).rampTick e left
      if left = 0 then
        let i := c.fget (R.PE_STATUS e) F.PE_STATUS_STEP
        Chip.engRun e 64 (if fresh then i else (i + 1) % 64) (c.setEng e { c.eng e with waits := none })
      else c
  else c.fadeTick e

/-- R219: START restarts the engine at START_STEP with its loop counters reset. -/
def Chip.engStart (c : Chip) (e : Nat) : Chip :=
  (c.setEng e {}).fset (R.PE_STATUS e) F.PE_STATUS_STATUS 1
    |>.fset (R.PE_STATUS e) F.PE_STATUS_STEP (c.fget (R.PE_CTRL e) F.PE_CTRL_START_STEP)

/-- R219: STOP ends a running engine. -/
def Chip.engStop (c : Chip) (e : Nat) : Chip := if c.fget (R.PE_STATUS e) F.PE_STATUS_STATUS = 1 then c.engEnd e 3 else c

/-- A write of PE_CTRL, its fields stored: START and STOP together act as STOP (R219). -/
def Chip.engCtrl (c : Chip) (e : Nat) (x : Word) : Chip :=
  if F.PE_CTRL_STOP.get x = 1 then c.engStop e else if F.PE_CTRL_START.get x = 1 then c.engStart e else c

/-! ### Flashers (R221 to R223) -/

def Chip.flashMasks (c : Chip) (n k l : Nat) : Bool :=
  if l < 32 then (c.fget (R.PWR_FLASH_MASK0 n k) F.PWR_FLASH_MASK0_MASK).testBit l
  else (c.fget (R.PWR_FLASH_MASK1 n k) F.PWR_FLASH_MASK1_MASK).testBit (l - 32)

def Chip.flashEn (c : Chip) (n k : Nat) : Bool := c.flag (R.PWR_FLASH_CFG n k) F.PWR_FLASH_CFG_EN

/-- The channels that follow flasher k of die n: masked, in no lower flasher that is on, neither sealed nor the
START_ENABLE channel, no odd member of a pair. -/
def Chip.flashChans (c : Chip) (n k : Nat) : List Nat :=
  ((List.range 48).filter fun l => c.flashMasks n k l && !isSealed (48 * n + l) && !c.isStartEnable (48 * n + l) && !c.oddMember (48 * n + l)
    && (List.range k).all fun j => !(c.flashEn n j && c.flashMasks n j l)).map (48 * n + ·)

/-- R221: the flasher acts on a channel: its active mode is ON or SOFT_FUSE. -/
def Chip.flashActs (c : Chip) (ch : Nat) : Bool := c.activeMode ch == 1 || c.activeMode ch == 3

/-- R222: OUTAGE halves the times of a flasher with OUT_FAST = 1 and SYNC = 0. -/
def Chip.flashFast (c : Chip) (n k : Nat) : Bool :=
  c.flag (R.PWR_FLASH_STATUS n k) F.PWR_FLASH_STATUS_OUTAGE && c.flag (R.PWR_FLASH_CFG n k) F.PWR_FLASH_CFG_OUT_FAST &&
    !c.flag (R.PWR_FLASH_CFG n k) F.PWR_FLASH_CFG_SYNC

/-- R222, R223: the length in µs of a phase that begins now; the off-phase of a flasher with SYNC = 1 has no timer. -/
def Chip.phaseLen (c : Chip) (n k : Nat) (on : Bool) : Nat :=
  if !on && c.flag (R.PWR_FLASH_CFG n k) F.PWR_FLASH_CFG_SYNC then 0
  else c.fget (R.PWR_FLASH_CFG n k) (if on then F.PWR_FLASH_CFG_ON_T else F.PWR_FLASH_CFG_OFF_T) * (if c.flashFast n k then 500 else 1000)

/-- A phase of flasher k of die n begins. -/
def Chip.flashPhase (c : Chip) (n k : Nat) (on : Bool) : Chip :=
  { c.fbit (R.PWR_FLASH_STATUS n k) F.PWR_FLASH_STATUS_PHASE on with
    flashLen := Tbl.set (fun _ => 0) c.flashLen (4 * n + k) (c.phaseLen n k on) }

/-- R221: an on-phase begins: the active modes are applied as starts. -/
def Chip.flashOn (c : Chip) (n k : Nat) : Chip :=
  (c.flashPhase n k true).arrive n
    ((c.flashChans n k).filter fun ch => c.flashActs ch && c.chState ch == .off && !c.pendingGrant ch)

/-- R221, R222: an on-phase ends with these mean currents in 10 mA by local channel: OUTAGE follows them, and the
off-phase applies OFF. -/
def Chip.flashOff (c : Chip) (n k : Nat) (means : List Nat) : Chip :=
  let out := (c.flashChans n k).any fun ch => means.getD (ch % 48) 0 < c.fget (R.PWR_FLASH_MASK1 n k) F.PWR_FLASH_MASK1_OUT_THR
  let c := (c.fbit (R.PWR_FLASH_STATUS n k) F.PWR_FLASH_STATUS_OUTAGE out).flashPhase n k false
  let offs := (c.flashChans n k).filter fun ch => c.flashActs ch &&
    ((c.chState ch).driven || c.chState ch == .off || c.chState ch == .cooldown)
  (offs.foldl Chip.goOff c).reexamine n

/-- R221: a flasher without SYNC starts an on-phase by its own timer. -/
def Chip.flashTimer (c : Chip) (n k : Nat) : Chip :=
  if c.flashEn n k ∧ ¬ c.flag (R.PWR_FLASH_CFG n k) F.PWR_FLASH_CFG_SYNC then c.flashOn n k else c

/-- R223: the supervisor relays a sync mark that waits: an on-phase starts or restarts. -/
def Chip.flashRelay (c : Chip) (n k : Nat) : Chip :=
  if Tbl.get (fun _ => false) c.flashMark (4 * n + k) ∧ c.linkUp (n + 2) then
    let c := { c with flashMark := Tbl.set (fun _ => false) c.flashMark (4 * n + k) false }
    if c.flashEn n k ∧ c.flag (R.PWR_FLASH_CFG n k) F.PWR_FLASH_CFG_SYNC then c.flashOn n k else c
  else c

/-- R214: the supervisor relays a flasher's OUTAGE to the groups of its engine. Assumption log 36 (DEDUCED). -/
def Chip.outageRelay (c : Chip) (n k : Nat) : Chip :=
  if c.linkUp (n + 2) then
    { c with flashOut := Tbl.set (fun _ => false) c.flashOut (4 * n + k) (c.flag (R.PWR_FLASH_STATUS n k) F.PWR_FLASH_STATUS_OUTAGE) }.updateOutages
  else c

/-! ### Meanings -/

/-- R200 to R206. -/
def execLedSubperiodBoundary (samples : List LedSample) (ilim : Bool) (s : State) : Host.Outcome State Fault Refusal :=
  .next (s.onChip (·.subperiod samples ilim))
/-- R206. -/
def execLsThermalShutdown (x : Fin 24) (s : State) : Host.Outcome State Fault Refusal := .next (s.onChip (·.sinkHot x))
/-- R206. -/
def execLsThermalRestart (x : Fin 24) (s : State) : Host.Outcome State Fault Refusal := .next (s.onChip (·.sinkCooled x))
/-- R205. -/
def execLedHrStop (s : State) : Host.Outcome State Fault Refusal := .next (s.onChip (·.hrStop))
/-- R205. -/
def execLedHrRestart (s : State) : Host.Outcome State Fault Refusal := .next (s.onChip (·.hrRestart))
/-- R211. -/
def execNtcConversion (t : Fin 8) (ohm : Nat) (s : State) : Host.Outcome State Fault Refusal := .next (s.onChip (·.ntcConvert t ohm))
/-- R212. -/
def execDerateUpdate (g : Fin 12) (s : State) : Host.Outcome State Fault Refusal := .next (s.onChip (·.derate g))
/-- R213. -/
def execLfMemberChannelSync (g : Fin 12) (s : State) : Host.Outcome State Fault Refusal := .next (s.onChip (·.groupSync g))
/-- R217. -/
def execPeTick (e : Fin 8) (s : State) : Host.Outcome State Fault Refusal := .next (s.onChip (·.engTick e))
/-- R221. -/
def execFlashOnPhaseStart (n : Fin 4) (k : Fin 4) (s : State) : Host.Outcome State Fault Refusal := .next (s.onChip (·.flashTimer n k))
/-- R222. -/
def execFlashOnPhaseEnd (n : Fin 4) (k : Fin 4) (means : List Nat) (s : State) : Host.Outcome State Fault Refusal :=
  .next (s.onChip fun c => if c.flag (R.PWR_FLASH_STATUS n k) F.PWR_FLASH_STATUS_PHASE then c.flashOff n k means else c)
/-- R223. -/
def execFlashSyncRelay (n : Fin 4) (k : Fin 4) (s : State) : Host.Outcome State Fault Refusal := .next (s.onChip (·.flashRelay n k))
/-- R214. -/
def execFlashOutageRelay (n : Fin 4) (k : Fin 4) (s : State) : Host.Outcome State Fault Refusal := .next (s.onChip (·.outageRelay n k))
/-- R224. -/
def execLedHoldTimeExpire (s : State) : Host.Outcome State Fault Refusal :=
  .next (s.onChip fun c => if (c.link 1).lost then c.ledLimp else c)

end Sys2Proof.Machine
end

