-- ==== Sys2Proof/Machine/Valves.lean ====
section
/-! DEFINITION. Valve groups (spec/07). Valve v is V(v), 0 to 15: local valve v % 2 of group v / 2, on power die v / 4. -/

namespace Sys2Proof.Machine
open Sys2Proof

/-- The states of a valve, with the codes of VLV_STATUS.STATE. -/
inductive ValveState where
  | off | waitOverlap | waitBoost | peak | hold | decay | fault | held | limp | disabled
  deriving DecidableEq, Repr

def ValveState.code : ValveState → Nat
  | .off => 0 | .waitOverlap => 1 | .waitBoost => 2 | .peak => 3 | .hold => 4 | .decay => 5 | .fault => 6 | .held => 7
  | .limp => 8 | .disabled => 9
def ValveState.ofCode : Nat → ValveState
  | 1 => .waitOverlap | 2 => .waitBoost | 3 => .peak | 4 => .hold | 5 => .decay | 6 => .fault | 7 => .held | 8 => .limp
  | 9 => .disabled | _ => .off

def Chip.valve (c : Chip) (v : Nat) : ValveX := Tbl.get (fun _ => {}) c.valves v
def Chip.setValve (c : Chip) (v : Nat) (x : ValveX) : Chip := { c with valves := Tbl.set (fun _ => {}) c.valves v x }
def Chip.vState (c : Chip) (v : Nat) : ValveState := .ofCode (c.fget (R.VLV_STATUS v) F.VLV_STATUS_STATE)
def Chip.setVState (c : Chip) (v : Nat) (x : ValveState) : Chip := c.fset (R.VLV_STATUS v) F.VLV_STATUS_STATE x.code
def Chip.vInHold (c : Chip) (v : Nat) : Bool := c.vState v == .held || c.vState v == .limp
/-- R246: the state a valve runs in: HELD and LIMP keep it. -/
def Chip.vRun (c : Chip) (v : Nat) : ValveState := if c.vInHold v then .ofCode (c.valve v).sub else c.vState v
def Chip.setVRun (c : Chip) (v : Nat) (x : ValveState) : Chip :=
  if c.vInHold v then c.setValve v { c.valve v with sub := x.code } else c.setVState v x

def vDie (v : Nat) : Nat := v / 4
/-- R230: the two groups of die n are paralleled. -/
def Chip.vgPaired (c : Chip) (n : Nat) : Bool := c.flag (R.VG_CFG (2 * n)) F.VG_CFG_PAR
/-- The valves of valve v's group, or of both groups while they are paralleled. -/
def Chip.vMembers (c : Chip) (v : Nat) : List Nat :=
  if c.vgPaired (vDie v) then (List.range 4).map (4 * vDie v + ·) else [v / 2 * 2, v / 2 * 2 + 1]
/-- R230: the group whose OVERLAP_MAX, NR_MODE and NR_MAX govern valve v. -/
def Chip.vGov (c : Chip) (v : Nat) : Nat := if c.vgPaired (vDie v) then 2 * vDie v else v / 2

def Chip.vRequested (c : Chip) (v : Nat) : Bool := c.flag (R.VLV_CMD v) F.VLV_CMD_REQ
def Chip.vEnabled (c : Chip) (v : Nat) : Bool := c.flag (R.VLV_CFG v) F.VLV_CFG_EN

/-- The valve holds a peak slot (R233). -/
def Chip.vPeaking (c : Chip) (v : Nat) : Bool := c.vRun v == .waitBoost || c.vRun v == .peak
/-- R233, R230: a peak slot is free for valve v: one slot, two in a paralleled group. -/
def Chip.slotFree (c : Chip) (v : Nat) : Bool :=
  (((c.vMembers v).filter fun w => w ≠ v ∧ c.vPeaking w).length < if c.vgPaired (vDie v) then 2 else 1)

/-- The valve's coil conducts. -/
def Chip.vConducts (c : Chip) (v : Nat) : Bool := c.vRun v == .peak || c.vRun v == .hold || c.vRun v == .decay

/-- R226, R228, R240, R242: the input of the high-side switch of a group whose members are m, was its input so far: VBOOST for a
peak, the feed for a feed peak, in hold the one that HOLD_SRC of the holding valves selects (VBOOST where they differ); while
valves only decay it stays. Assumption log 89 (DEDUCED). -/
def Chip.hsSource (c : Chip) (m : List Nat) (was : HsInput) : HsInput :=
  let peaks := m.filter fun v => c.vRun v == .peak
  let holds := m.filter fun v => c.vRun v == .hold
  if !m.any c.vConducts then .off
  else if peaks.any fun v => !c.flag (R.VLV_STATUS v) F.VLV_STATUS_FEED_PEAK then .vboost
  else if peaks ≠ [] then .feed
  else if holds ≠ [] then (if holds.all fun v => c.flag (R.VLV_CFG v) F.VLV_CFG_HOLD_SRC then .feed else .vboost)
  else was

/-- VG_STATUS and the high-side switch follow the valves of the group, and of both while they are paralleled (R226, R228, R230). -/
def Chip.vgRefresh (c : Chip) (n : Nat) : Chip :=
  [2 * n, 2 * n + 1].foldl (fun c g =>
    let m := c.vMembers (2 * g)
    let c := { c with hsInput := Tbl.set (fun _ => .off) c.hsInput g (c.hsSource m (Tbl.get (fun _ => .off) c.hsInput g)) }
    c.fset (R.VG_STATUS g) F.VG_STATUS_PEAKS (m.filter c.vPeaking).length
      |>.fbit (R.VG_STATUS g) F.VG_STATUS_HS_ON (m.any c.vConducts)
      |>.fbit (R.VG_STATUS g) F.VG_STATUS_PAIRED (c.vgPaired n)) c

def Chip.vWaiting (c : Chip) (n : Nat) : List Nat := Tbl.get (fun _ => []) c.valveWait n
def Chip.setVWaiting (c : Chip) (n : Nat) (l : List Nat) : Chip := { c with valveWait := Tbl.set (fun _ => []) c.valveWait n l }
def Chip.vUnwait (c : Chip) (v : Nat) : Chip := c.setVWaiting (vDie v) ((c.vWaiting (vDie v)).filter (· ≠ v))

/-- VLV_REQ with REQ = 1 (v) and with REQ = 0 (v + 16) complete (spec/11, opcode 0x50). -/
def Chip.vOnDone (c : Chip) (v : Nat) (st : CmdStatus) : Chip := c.finish (onObj 0x50 v) st [c.rd (R.VLV_STATUS v)]
def Chip.vOffDone (c : Chip) (v : Nat) : Chip := c.finish (onObj 0x50 (v + 16)) .ok [c.rd (R.VLV_STATUS v)]

/-- R233, R242: the valve enters PEAK, from VBOOST or from the feed. -/
def Chip.vPeak (c : Chip) (v : Nat) (feed : Bool) : Chip :=
  let c := (c.setVRun v .peak).fbit (R.VLV_STATUS v) F.VLV_STATUS_FEED_PEAK feed |>.bump (R.VLV_ON_CNT v)
  (if feed then c.bump (R.VG_FEEDPEAK_CNT (v / 2)) else c).vOnDone v .ok

/-- R241, R242: VBOOST is ready at power die n. Assumption log 41 (DEDUCED). -/
def Chip.vbReady (c : Chip) (n : Nat) : Bool :=
  c.flag R.VB_CTRL F.VB_CTRL_EN && decide (c.fget (R.PWR_VB_THR n) F.PWR_VB_THR_THR ≤ Tbl.get (fun _ => 0) c.vboost n)

/-- R233 step 2, R242. -/
def Chip.vBoostCheck (c : Chip) (v : Nat) : Chip :=
  if c.vbReady (vDie v) then c.vPeak v false
  else if c.flag (R.VG_CFG (c.vGov v)) F.VG_CFG_NR_MODE then c.vPeak v true
  else (c.setVRun v .waitBoost).bump (R.VG_NR_DEFER_CNT (v / 2))

/-- R233: a request from OFF. -/
def Chip.vRequest (c : Chip) (v : Nat) : Chip :=
  if c.slotFree v then c.vBoostCheck v
  else ((c.setVRun v .waitOverlap).bump (R.VG_OVERLAP_DEFER_CNT (v / 2))).setVWaiting (vDie v) (c.vWaiting (vDie v) ++ [v])

/-- R238: a slot has freed on die n: the waiting requests are granted in order of arrival while a slot is free. -/
def Chip.vServe (c : Chip) (n : Nat) : Chip :=
  (c.vWaiting n).foldl (fun c v => if c.slotFree v then (c.vUnwait v).vBoostCheck v else c) c

/-- After a valve of die n has left PEAK or given up its slot: waiting valves are served, and the scheduler sees the
booking of its feed peak fall (R238, R110, R242). -/
def Chip.vFreed (c : Chip) (n : Nat) : Chip := (c.vServe n).reexamine n

/-- The valve leaves PEAK or HOLD, and its FEED_PEAK and HOLD_LOW no longer show. -/
def Chip.vLeave (c : Chip) (v : Nat) (x : ValveState) : Chip :=
  c.fset (R.VLV_STATUS v) F.VLV_STATUS_FEED_PEAK 0 |>.fset (R.VLV_STATUS v) F.VLV_STATUS_HOLD_LOW 0 |>.setVRun v x

/-- R228, R237: fast decay begins. -/
def Chip.vDecay (c : Chip) (v : Nat) : Chip := (c.vLeave v .decay).vFreed (vDie v)

def Chip.vClearReq (c : Chip) (v : Nat) : Chip := c.fset (R.VLV_CMD v) F.VLV_CMD_REQ 0

/-- A waiting request ends with a completion; the valve is off, or DISABLED while EN = 0 (R237, R239, R242, R245). -/
def Chip.vDrop (c : Chip) (v : Nat) (st : CmdStatus) : Chip :=
  (((c.vUnwait v).setVRun v (if c.vEnabled v then .off else .disabled)).vOnDone v st |>.vOffDone v).vFreed (vDie v)

/-- Codes 1 to 4 are counted in VLV_FAULT_CNT, codes 5 to 7 in VLV_CODE_CNT. -/
def Chip.vCount (c : Chip) (v code : Nat) : Chip :=
  if code ≤ 4 then c.fbump (R.VLV_FAULT_CNT v) (byteFld (code - 1)) else c.fbump (R.VLV_CODE_CNT v) (byteFld (code - 5))

/-- R244: a latching fault of the valve; its slot is not given on yet. Assumption log 40 (DEDUCED). -/
def Chip.vFaultOne (c : Chip) (v code : Nat) : Chip :=
  let c := ((c.vUnwait v).vLeave v .fault).setVState v .fault |>.fset (R.VLV_STATUS v) F.VLV_STATUS_FAULT code |>.vClearReq v |>.vCount v code
    |>.setValve v { sub := 0, hot := code == 1 || code == 4 }
  let c := (c.q10From (vDie v + 2) (64 + vDie v) v).raiseFrom (vDie v + 2) (64 + vDie v)
  (c.vOnDone v .cancelled).vOffDone v

/-- R244, R238: a latching fault of one valve. -/
def Chip.vFault (c : Chip) (v code : Nat) : Chip := (c.vFaultOne v code).vFreed (vDie v)

/-- R244: REARM takes a FAULT valve to OFF (DISABLED while EN = 0), after code 1 or 4 only once its switch has cooled. Assumption log 40 (DEDUCED). -/
def Chip.vRearm (c : Chip) (v : Nat) : Chip :=
  if c.vState v = .fault ∧ ¬ (c.valve v).hot then
    (c.setVState v (if c.vEnabled v then .off else .disabled)).fset (R.VLV_STATUS v) F.VLV_STATUS_FAULT 0
  else c

/-- R246: a LIMP valve leaves LIMP at a write of VLV_CMD. -/
def Chip.vUnlimp (c : Chip) (v : Nat) : Chip := if c.vState v = .limp then (c.setVState v (c.vRun v)).setValve v { c.valve v with sub := 0 } else c

/-- R237: a request written during a decay waits for its end, or waits no longer. -/
def Chip.vAgain (c : Chip) (v : Nat) (on : Bool) : Chip := c.setValve v { c.valve v with again := on }

/-- R233, R237: what REQ, as it stands, makes of the valve's state. -/
def Chip.vTakeReq (c : Chip) (v : Nat) : Chip :=
  if c.vRequested v then
    (match c.vRun v with
      | .off => c.vRequest v
      | .decay => c.vAgain v true
      | _ => c)
  else match c.vRun v with
    | .waitOverlap | .waitBoost => c.vDrop v .cancelled
    | .peak | .hold => c.vDecay v
    | .decay => (c.vAgain v false).vOnDone v .cancelled
    | _ => c.vOffDone v

/-- A request for the valve is under way: it waits, peaks or holds, or waits for a decay to end. -/
def Chip.vActive (c : Chip) (v : Nat) : Bool :=
  match c.vRun v with
  | .waitOverlap | .waitBoost | .peak | .hold => c.vRequested v
  | .decay => (c.valve v).again
  | _ => false

/-- A write of VLV_CMD, its REQ stored (R233, R237, R244, R246). -/
def Chip.vCmd (c : Chip) (v : Nat) (x : Word) : Chip :=
  let c := if F.VLV_CMD_REARM.get x = 1 then c.vRearm v else c
  ((c.vUnlimp v).vTakeReq v).vgRefresh (vDie v)

/-- A write of VLV_CFG, its fields stored (R245). Assumption log 40 (DEDUCED). -/
def Chip.vCfg (c : Chip) (v : Nat) : Chip :=
  let c := if c.vEnabled v then (if c.vState v = .disabled then c.setVState v .off else c)
    else
      let c := c.vUnlimp v
      match c.vRun v with
      | .off => c.setVState v .disabled
      | .waitOverlap | .waitBoost => c.vDrop v .cancelled
      | .peak | .hold => c.vDecay v
      | .decay => (c.vAgain v false).vOnDone v .cancelled
      | _ => c
  c.vgRefresh (vDie v)

/-- R230, R231: a write x of VG_CFG of group g, its other fields stored and PAR not. -/
def Chip.vgPar (c : Chip) (g : Nat) (x : Word) : Chip :=
  if g % 2 = 1 ∨ F.VG_CFG_PAR.get x = c.fget (R.VG_CFG g) F.VG_CFG_PAR then c
  else if (List.range 4).all fun j => c.vState (2 * g + j) == .off || c.vState (2 * g + j) == .disabled then
    (c.fset (R.VG_CFG g) F.VG_CFG_PAR (F.VG_CFG_PAR.get x)).vgRefresh (g / 2)
  else c.bump (R.VG_PAR_REFUSED_CNT g)

/-- R234: PEAK_T ends; i is the highest current of the peak in 10 mA. -/
def Chip.peakEnd (c : Chip) (v i : Nat) : Chip :=
  if c.vRun v = .peak then
    let c := if 4 * i < c.fget (R.VLV_PEAK v) F.VLV_PEAK_PEAK_I then c.vFault v 3 else (c.vLeave v .hold).vFreed (vDie v)
    c.vgRefresh (vDie v)
  else c

/-- R241: the boost controller regulates while it is on and VBOOST, as last seen, is within 2 % of VSET. -/
def Chip.vbStatus (c : Chip) : Chip :=
  let vset := c.fget R.VB_CTRL F.VB_CTRL_VSET
  let en := c.flag R.VB_CTRL F.VB_CTRL_EN
  let c := c.fbit R.VB_STATUS F.VB_STATUS_REGULATING (en && decide (98 * vset ≤ 100 * c.vbRail) && decide (100 * c.vbRail ≤ 102 * vset))
  if en then c else c.fset R.VB_STATUS F.VB_STATUS_ILIM 0

/-- R241: VBOOST at die n is now this, in 0.1 V. Assumption log 41 (DEDUCED). -/
def Chip.vbCompare (c : Chip) (n vboost : Nat) : Chip :=
  { c with vboost := Tbl.set (fun _ => 0) c.vboost n vboost, vbRail := vboost }.vbStatus
/-- R242: valves of die n in WAIT_BOOST pass to PEAK if VBOOST is ready. -/
def Chip.vbReached (c : Chip) (n vboost : Nat) : Chip :=
  let c := c.vbCompare n vboost
  if c.vbReady n then
    ((List.range 4).foldl (fun c j => if c.vRun (4 * n + j) = .waitBoost then c.vPeak (4 * n + j) false else c) c).vgRefresh n
  else c

/-- R242: NR_MAX expires in WAIT_BOOST. -/
def Chip.nrMax (c : Chip) (v : Nat) : Chip :=
  if c.vRun v = .waitBoost then (((c.vClearReq v).bump (R.VG_NR_TO_CNT (v / 2))).vDrop v .timeout).vgRefresh (vDie v) else c

/-- R239: OVERLAP_MAX expires in WAIT_OVERLAP. -/
def Chip.overlapMax (c : Chip) (v : Nat) : Chip :=
  if c.vRun v = .waitOverlap then (((c.vClearReq v).bump (R.VG_OVERLAP_TO_CNT (v / 2))).vDrop v .overlapTimeout).vgRefresh (vDie v) else c

/-- R235: ON_MAX expires; with ON_MAX = 0 there is no limit. -/
def Chip.onMax (c : Chip) (v : Nat) : Chip :=
  if (c.vRun v = .peak ∨ c.vRun v = .hold) ∧ c.fget (R.VLV_CFG v) F.VLV_CFG_ON_MAX ≠ 0 then
    (((c.vClearReq v).vCount v 6).vDecay v).vgRefresh (vDie v)
  else c

/-- R236. -/
def Chip.holdLow (c : Chip) (v : Nat) : Chip :=
  if c.vRun v = .hold ∧ ¬ c.flag (R.VLV_STATUS v) F.VLV_STATUS_HOLD_LOW then
    (c.fset (R.VLV_STATUS v) F.VLV_STATUS_HOLD_LOW 1).vCount v 7
  else c

/-- R243, R129: the select clamp's allowance in 0.1 mJ at a junction temperature in °C. -/
def vClampAllow (t : Int) : Rat := 1500 * clampFraction t / 100

/-- R228, R237, R244, R245: the coil current has reached zero; parts is the clamp, tj the junction temperature at the turn-off
plus 50. A valve with EN = 0 is then DISABLED, HELD or not; a request written during the decay is taken. -/
def Chip.decayEnd (c : Chip) (v : Nat) (parts : List ClampPart) (tj : Nat) : Chip :=
  if c.vRun v = .decay then
    let allow := vClampAllow ((tj : Int) - 50)
    let e := clampEnergy parts
    let c := c.wr (R.VLV_CLAMP v) (F.VLV_CLAMP_E_LAST.put (F.VLV_CLAMP_E_ALLOW.of allow.floor.toNat) (fitted 0xFFFF e.floor))
    let c :=
      if allow < e then c.vFault v 5
      else if ¬ c.vEnabled v then ((c.setVState v .disabled).setValve v { c.valve v with sub := 0, again := false }).vOffDone v
      else
        let again := (c.valve v).again
        let c := ((c.setVRun v .off).vAgain v false).vOffDone v
        if again then c.vRequest v else c
    c.vgRefresh (vDie v)
  else c

/-- R244 code 1: every valve of the group, of both when paralleled, faults; then their slots are given on. Assumption log 40 (DEDUCED). -/
def Chip.highSide (c : Chip) (g : Nat) : Chip :=
  (((c.vMembers (2 * g)).foldl (fun c v => c.vFaultOne v 1) c).vFreed (g / 2)).vgRefresh (g / 2)

/-- R244 codes 2 and 4. -/
def Chip.vSelect (c : Chip) (v code : Nat) : Chip := if c.vConducts v then (c.vFault v code).vgRefresh (vDie v) else c

/-! ### Hold and limp (R246) -/

/-- R246: the die declares its link lost: a waiting request is withdrawn, one that waits for a decay's end with it. -/
def Chip.vHold (c : Chip) (v : Nat) : Chip :=
  let c := c.vAgain v false
  match c.vState v with
  | .disabled | .fault | .held => c
  | .limp => c.setVState v .held
  | .waitOverlap | .waitBoost => (((c.vUnwait v).vClearReq v).vOnDone v .cancelled).setValve v { c.valve v with sub := 0 } |>.setVState v .held
  | st => (c.setValve v { c.valve v with sub := st.code }).setVState v .held

/-- R246: HOLD_TIME expires: LIMP_MODE OFF decays, HOLD keeps holding. -/
def Chip.vLimp (c : Chip) (v : Nat) : Chip :=
  if c.vState v = .held then
    let c := c.setVState v .limp
    if c.fget (R.VLV_CFG v) F.VLV_CFG_LIMP_MODE = 0 then (match c.vRun v with | .peak | .hold => c.vLeave v .decay | _ => c) else c
  else c

/-- R246, R158: after acknowledgement a HELD valve goes on in the state it held. Assumption log 40 (DEDUCED). -/
def Chip.vResume (c : Chip) (v : Nat) : Chip :=
  if c.vState v = .held then
    (c.setVState v (if c.vRun v = .off ∧ ¬ c.vEnabled v then .disabled else c.vRun v)).setValve v { c.valve v with sub := 0 }
  else c

def dieValves (n : Nat) : List Nat := (List.range 4).map (4 * n + ·)
/-- R246, R110: HOLD_TIME expires on die n; the booking of a feed peak that ends falls. -/
def Chip.vLimpDie (c : Chip) (n : Nat) : Chip := (((dieValves n).foldl Chip.vLimp c).vgRefresh n).reexamine n
def Chip.vHoldDie (c : Chip) (n : Nat) : Chip :=
  let c := (dieValves n).foldl Chip.vHold c
  if c.fget (R.PWR_HOLD_TIME n) F.PWR_HOLD_TIME_HOLD = 0 then c.vLimpDie n else c.vgRefresh n
def Chip.vResumeDie (c : Chip) (n : Nat) : Chip := ((dieValves n).foldl Chip.vResume c).vgRefresh n

/-! ### Meanings -/

/-- R234. -/
def execPeakTExpire (v : Fin 16) (i : Nat) (s : State) : Host.Outcome State Fault Refusal := .next (s.onChip (·.peakEnd v i))
/-- R242. -/
def execVboostReady (n : Fin 4) (vboost : BoostAt) (s : State) : Host.Outcome State Fault Refusal :=
  .next (s.onChip fun c => (c.fbit R.VB_STATUS F.VB_STATUS_ILIM vboost.ilim).vbReached n vboost.v)
/-- R242. -/
def execNrMaxExpire (v : Fin 16) (s : State) : Host.Outcome State Fault Refusal := .next (s.onChip (·.nrMax v))
/-- R239. -/
def execOverlapMaxExpire (v : Fin 16) (s : State) : Host.Outcome State Fault Refusal := .next (s.onChip (·.overlapMax v))
/-- R235. -/
def execOnMaxExpire (v : Fin 16) (s : State) : Host.Outcome State Fault Refusal := .next (s.onChip (·.onMax v))
/-- R236. -/
def execHoldLowDetect (v : Fin 16) (s : State) : Host.Outcome State Fault Refusal := .next (s.onChip (·.holdLow v))
/-- R236. -/
def execHoldLowClear (v : Fin 16) (s : State) : Host.Outcome State Fault Refusal :=
  .next (s.onChip (·.fset (R.VLV_STATUS v) F.VLV_STATUS_HOLD_LOW 0))
/-- R228. -/
def execValveDecayEnd (v : Fin 16) (parts : List ClampPart) (tj : BitVec 8) (s : State) : Host.Outcome State Fault Refusal :=
  .next (s.onChip (·.decayEnd v parts tj.toNat))
/-- R244. -/
def execVgHighSideTrip (g : Fin 8) (s : State) : Host.Outcome State Fault Refusal := .next (s.onChip (·.highSide g))
/-- R244. -/
def execVlvSelectOvercurrent (v : Fin 16) (s : State) : Host.Outcome State Fault Refusal := .next (s.onChip (·.vSelect v 2))
/-- R244. -/
def execVlvSelectThermal (v : Fin 16) (s : State) : Host.Outcome State Fault Refusal := .next (s.onChip (·.vSelect v 4))

end Sys2Proof.Machine
end

