-- ==== Sys2Proof/Machine/Field.lean ====
section
/-! DEFINITION. Switch inputs and the field die (spec/08). -/

namespace Sys2Proof.Machine
open Sys2Proof

/-! ### Switch inputs (R249 to R258) -/

def Chip.si (c : Chip) (i : Nat) : SiX := Tbl.get (fun _ => {}) c.sis i
def Chip.setSi (c : Chip) (i : Nat) (x : SiX) : Chip := { c with sis := Tbl.set (fun _ => {}) c.sis i x }
/-- R257: the input is bound to a tamper loop. -/
def Chip.siBound (c : Chip) (i : Nat) : Bool := decide (60 ≤ i) && (c.fget R.SEC_SEAL_MAP F.SEC_SEAL_MAP_BOUND).testBit (i - 60)
def Chip.siValue (c : Chip) (i : Nat) : Bool := c.flag (R.SI_STATUS i) F.SI_STATUS_VALUE

/-- SI_CFG.SCAN in ms. -/
def scanMs : Nat → Nat
  | 0 => 1 | 1 => 2 | 2 => 5 | 3 => 10 | 4 => 20 | _ => 50

/-- R250: the configuration of an input at this moment. -/
def Chip.siRun (c : Chip) (i : Nat) : SiRun :=
  ⟨c.rd (R.SI_CFG i), c.rd (R.SI_THR i), (List.range 7).map fun b => c.fget (R.SI_LT_B (c.fget (R.SI_CFG i) F.SI_CFG_LTAB) b) F.SI_LT_B_BOUND⟩

/-- R249, R250: an input's pulse begins: the sample in progress uses the configuration of this moment. -/
def Chip.siPulse (c : Chip) (i : Nat) : Chip := c.setSi i { c.si i with run := some (c.siRun i) }

/-- R249: the input is enabled, and the last tick was one of its SCAN. -/
def Chip.siDue (c : Chip) (i : Nat) : Bool :=
  c.flag (R.SI_CFG i) F.SI_CFG_EN && c.siTick % scanMs (c.fget (R.SI_CFG i) F.SI_CFG_SCAN) == 0

/-- R249: the groups below upto that have not begun their pulses since the last tick begin them. -/
def Chip.startGroups (c : Chip) (upto : Nat) : Chip :=
  ((List.range 64).filter fun i => decide (c.siNext ≤ i / 8) && decide (i / 8 < upto) && c.siDue i).foldl Chip.siPulse
    { c with siNext := max c.siNext upto }

/-- R249: a 1 ms tick of the AON domain: group 0 begins its pulses, the others follow at 125 µs each, in the modes in which
inputs are sampled at SCAN (R256). -/
def Chip.scanTick (c : Chip) : Chip :=
  if c.awake then { c with siTick := c.siTick + 1, siNext := 0, siSince := 0 }.startGroups 1
  else { c with siTick := c.siTick + 1, siNext := 8 }

/-- R249: us µs pass: group k begins its pulses k × 125 µs after the tick. -/
def Chip.scanPass (c : Chip) (us : Nat) : Chip :=
  if c.siNext < 8 then { c with siSince := c.siSince + us }.startGroups (min 8 ((c.siSince + us) / 125 + 1)) else c

/-- SI_STATE0 and SI_STATE1 follow an input's VALUE. -/
def Chip.siShow (c : Chip) (i : Nat) (v : Bool) : Chip :=
  (c.fbit (R.SI_STATUS i) F.SI_STATUS_VALUE v).fbit (if i < 32 then R.SI_STATE0 else R.SI_STATE1) (bitFld (i % 32)) v

/-- R253, R250: VALUE or BAND changes: counted, recorded and raised as the sample's configuration enables; a change to 1 may
trigger a round (R438). -/
def Chip.siChange (c : Chip) (i : Nat) (cfg : Word) (band : Nat) (v : Bool) : Chip :=
  let up := v && !c.siValue i
  let c := (c.siShow i v).fset (R.SI_STATUS i) F.SI_STATUS_BAND band |>.bump (R.SI_CHG_CNT i)
  let c := if F.SI_CFG_REC.get cfg = 1 then c.q10From 1 80 i else c
  let c := if F.SI_CFG_EV_EN.get cfg = 1 then c.raiseFrom 1 80 else c
  if up && c.awake then c.accInput i else c

/-- R252: the band of a code between the boundaries of a ladder table. -/
def ladderBand (bounds : List Nat) (code : Nat) : Nat := ((List.range 7).find? fun b => code < bounds.getD b 1023).getD 7

/-- R251, R252: one more sample, of level or band k: the count of consecutive samples that agree, and whether deb of them do. -/
def debounce (x : SiX) (k deb : Nat) : SiX × Bool :=
  let n := if x.cand = k ∧ x.cnt ≠ 0 then min 15 (x.cnt + 1) else 1
  ({ x with cand := k, cnt := n }, decide (deb ≤ n))

/-- R251: HIGH at or above THR_HI, LOW at or below THR_LO (THR_HI − 1 if that is not below THR_HI), else as before. Assumption log 42 (DEDUCED). -/
def siLevel (thr : Word) (code : Nat) (last : Bool) : Bool :=
  let hi := F.SI_THR_THR_HI.get thr
  let lo := F.SI_THR_THR_LO.get thr
  if hi ≤ code then true else if code ≤ (if hi ≤ lo then hi - 1 else lo) then false else last

/-- R258: the loop state of a code: 1 INTACT, 2 OPEN, 3 SHORT. Assumption log 42 (DEDUCED). -/
def loopState (thr : Word) (code : Nat) : Nat :=
  if code < F.SI_THR_THR_LO.get thr then 3 else if F.SI_THR_THR_HI.get thr < code then 2 else 1

/-- R258: a bound input's loop state after a sample; each change raises EV081, in the parking modes once the router runs
again, and writes a TAMPER record. -/
def Chip.tamperSample (c : Chip) (i code deb : Nat) (thr : Word) : Chip :=
  let x := c.si i
  let cur := c.fget (R.SI_STATUS i) F.SI_STATUS_TAMPER
  let k := loopState thr code
  if k = cur then c.setSi i { x with tcnt := 0 }
  else
    let n := if x.tcand = k ∧ x.tcnt ≠ 0 then x.tcnt + 1 else 1
    if deb ≤ n then
      let c := (c.setSi i { x with tcand := k, tcnt := 0 }).fset (R.SI_STATUS i) F.SI_STATUS_TAMPER k
      (if c.awake then c.raiseFrom 1 81 else c.raiseEver 81).log 0x85
        (payload [(0, 1, i), (1, 1, cur), (2, 1, k), (3, 1, c.mode), (4, 2, code)])
    else c.setSi i { x with tcand := k, tcnt := n }

/-- R250 to R253, R258: a sample of input i, taken with this configuration. Assumption log 42 (DEDUCED). -/
def Chip.siSample (c : Chip) (i code : Nat) (r : SiRun) : Chip :=
  let code := min 1023 code
  let deb := max 1 (F.SI_CFG_DEB.get r.cfg)
  let c := c.fset (R.SI_STATUS i) F.SI_STATUS_CODE code
  if c.siBound i then c.tamperSample i code deb r.thr
  else if F.SI_CFG_LADDER.get r.cfg = 1 then
    let band := ladderBand r.bounds code
    let (x, agreed) := debounce (c.si i) band deb
    let c := c.setSi i x
    if agreed ∧ (band ≠ c.fget (R.SI_STATUS i) F.SI_STATUS_BAND ∨ (band != 0) ≠ c.siValue i) then c.siChange i r.cfg band (band != 0) else c
  else
    let lv := siLevel r.thr code (c.si i).last
    let v := lv != (F.SI_CFG_INVERT.get r.cfg == 1)
    let (x, agreed) := debounce { c.si i with last := lv } lv.toNat deb
    let c := c.setSi i x
    if agreed ∧ v ≠ c.siValue i then c.siChange i r.cfg (c.fget (R.SI_STATUS i) F.SI_STATUS_BAND) v else c

/-- R253: the counts of agreeing samples start again. -/
def Chip.siClear (c : Chip) (i : Nat) : Chip := c.setSi i { c.si i with cnt := 0, tcnt := 0, restart := false }

/-- R249, R250, R253: the sample of a pulse in progress is converted; a restart of the counts that waited for it follows. -/
def Chip.siConverted (c : Chip) (i code : Nat) : Chip :=
  let c := if c.siNext ≤ i / 8 then c.startGroups (i / 8 + 1) else c
  match (c.si i).run with
  | some r =>
    let c := (c.setSi i { c.si i with run := none }).siSample i code r
    if (c.si i).restart then c.siClear i else c
  | none => c

/-- R53, R254: a read of SI_STATE0 latches SI_STATE1 for the requester. -/
def Chip.siState0 (c : Chip) (rq : Req) : Chip := c.setLatch R.SI_STATE0 rq (c.rd R.SI_STATE1)

/-- R256: the inputs with PATROL = 1. -/
def Chip.patrolInputs (c : Chip) : List Nat := (List.range 64).filter fun i => c.flag (R.SI_CFG i) F.SI_CFG_PATROL

/-- R256: a seventeenth PATROL bit is refused: x is the word to be stored in SI_CFG of input i. -/
def Chip.siPatrolOk (c : Chip) (i : Nat) (x : Word) : Bool :=
  F.SI_CFG_PATROL.get x = 0 || c.flag (R.SI_CFG i) F.SI_CFG_PATROL || decide (c.patrolInputs.length < 16)

/-- R253: a write restarts the count of agreeing samples from the next sample: one in progress still counts as before. -/
def Chip.siRestart (c : Chip) (i : Nat) : Chip :=
  if (c.si i).run.isSome then c.setSi i { c.si i with restart := true } else c.siClear i

/-- A write of SI_CFG: x is the word to store. A refused PATROL bit is counted (R256); the count of agreeing samples restarts
(R253). Assumption log 42 (DEDUCED). -/
def Chip.siCfg (c : Chip) (i : Nat) (x : Word) : Chip :=
  if c.siPatrolOk i x then (c.wr (R.SI_CFG i) x).siRestart i
  else ((c.wr (R.SI_CFG i) (F.SI_CFG_PATROL.put x 0)).bump R.SI_PATROL_REFUSED_CNT).siRestart i

/-- R256, R257: a bound input takes its patrol slot before any other: where 16 others hold one, the highest unbound one loses it.
Assumption log 42 (DEDUCED). -/
def Chip.patrolRoom (c : Chip) (i : Nat) : Chip :=
  if c.patrolInputs.contains i || decide (c.patrolInputs.length < 16) then c
  else match (c.patrolInputs.filter fun j => !c.siBound j).getLast? with
    | some j => c.fset (R.SI_CFG j) F.SI_CFG_PATROL 0
    | none => c

/-- R257, R258, R464: the policy's setting of input 60 + i, the sentinel's link up; an unbound one shows no loop state. -/
def Chip.sealInput (c : Chip) (x : Nat × (Bool × Word × Word)) : Chip :=
  let i := 60 + x.1
  let (bind, cfg, thr) := x.2
  if bind then
    (c.patrolRoom i).wr (R.SI_CFG i) (F.SI_CFG_LADDER.put (F.SI_CFG_PATROL.put (F.SI_CFG_EN.put cfg 1) 1) 0) |>.wr (R.SI_THR i) thr
      |>.fset (R.SI_STATUS i) F.SI_STATUS_LOCKED 1 |>.siRestart i
  else c.fset (R.SI_STATUS i) F.SI_STATUS_LOCKED 0 |>.fset (R.SI_STATUS i) F.SI_STATUS_TAMPER 0

/-- R257: the sentinel's link is up: the bound inputs that the policy's load could not reach are set. -/
def Chip.sealLate (c : Chip) : Chip :=
  (((List.range 4).zip c.policy.inputs).filter fun x => c.siBound (60 + x.1) && !c.flag (R.SI_STATUS (60 + x.1)) F.SI_STATUS_LOCKED).foldl
    Chip.sealInput c

/-! ### Field points (R260 to R269) -/

/-- The states of a field output, with the codes of FP_STATUS.STATE. -/
inductive FpState where
  | off | on | fault | cooldown | waitSupply | held | limp | disabled
  deriving DecidableEq, Repr

def FpState.code : FpState → Nat
  | .off => 0 | .on => 1 | .fault => 2 | .cooldown => 3 | .waitSupply => 4 | .held => 5 | .limp => 6 | .disabled => 7
def FpState.ofCode : Nat → FpState
  | 1 => .on | 2 => .fault | 3 => .cooldown | 4 => .waitSupply | 5 => .held | 6 => .limp | 7 => .disabled | _ => .off

def Chip.fp (c : Chip) (p : Nat) : FpX := Tbl.get (fun _ => {}) c.fps p
def Chip.setFp (c : Chip) (p : Nat) (x : FpX) : Chip := { c with fps := Tbl.set (fun _ => {}) c.fps p x }
def Chip.fpOut (c : Chip) (p : Nat) : Bool := c.fget (R.FP_CFG p) F.FP_CFG_MODE == 2
def Chip.fpEn (c : Chip) (p : Nat) : Bool := c.flag (R.FP_CFG p) F.FP_CFG_EN
def Chip.fpOn (c : Chip) (p : Nat) : Bool := c.flag (R.FP_CMD p) F.FP_CMD_ON
def Chip.fpState (c : Chip) (p : Nat) : FpState := .ofCode (c.fget (R.FP_STATUS p) F.FP_STATUS_STATE)
def Chip.fpInHold (c : Chip) (p : Nat) : Bool := c.fpOut p && (c.fpState p == .held || c.fpState p == .limp)
/-- R269: the state an output runs in while HELD or LIMP. -/
def Chip.fpRun (c : Chip) (p : Nat) : FpState := if c.fpInHold p then .ofCode (c.fp p).sub else c.fpState p

/-- FP_STATUS.VALUE and its bit of FLD_IN_STATE (R261). -/
def Chip.fpShow (c : Chip) (p : Nat) (v : Bool) : Chip :=
  (c.fbit (R.FP_STATUS p) F.FP_STATUS_VALUE v).fbit R.FLD_IN_STATE (bitFld p) v

/-- An output's running state changes: VALUE shows whether it drives; one that stops driving clamps (R264). -/
def Chip.setFpRun (c : Chip) (p : Nat) (x : FpState) : Chip :=
  let was := c.fpRun p == .on
  let c := if c.fpInHold p then c.setFp p { c.fp p with sub := x.code } else c.fset (R.FP_STATUS p) F.FP_STATUS_STATE x.code
  let c := if was && x != .on then c.setFp p { c.fp p with clamping := true } else c
  c.fpShow p (x == .on)

def Chip.supplyFault (c : Chip) : Bool := c.flag R.FLD_SUP_STATUS F.FLD_SUP_STATUS_SUPPLY_FAULT
/-- R267: WIRE_BREAK and OPEN_LOAD are masked. -/
def Chip.fldMasked (c : Chip) : Bool := c.supplyFault && c.fget R.FLD_SUP_CFG F.FLD_SUP_CFG_MODE == 0
/-- R267: SUPPLY_MASKED of every point follows. -/
def Chip.fldMask (c : Chip) : Chip := (List.range 32).foldl (fun c p => c.fbit (R.FP_STATUS p) F.FP_STATUS_SUPPLY_MASKED c.fldMasked) c

/-- FLD_STATUS: any point in HELD, any in LIMP. -/
def Chip.fldRefresh (c : Chip) : Chip :=
  c.fbit R.FLD_STATUS F.FLD_STATUS_HOLDING ((List.range 32).any fun p => c.fpOut p && c.fpState p == .held)
    |>.fbit R.FLD_STATUS F.FLD_STATUS_LIMP ((List.range 32).any fun p => c.fpOut p && c.fpState p == .limp)

/-- R263: each fault is counted, recorded in Q10 and raises EV083. -/
def Chip.fpFaultEvent (c : Chip) (p code : Nat) : Chip :=
  (c.fbump (R.FP_FAULT_CNT p) (byteFld (code - 1)) |>.q10From 6 83 p).raiseFrom 6 83

/-- R261: an input's VALUE changes. -/
def Chip.fpChange (c : Chip) (p : Nat) (v : Bool) : Chip :=
  let c := (c.fpShow p v).fset (R.FP_STATUS p) F.FP_STATUS_STATE v.toNat |>.bump (R.FP_CHG_CNT p)
  let c := if c.flag (R.FP_CFG p) F.FP_CFG_REC then c.q10From 6 82 p else c
  if c.flag (R.FP_CFG p) F.FP_CFG_EV_EN then c.raiseFrom 6 82 else c

/-- R261: an input point that samples. -/
def Chip.fpSamples (c : Chip) (p : Nat) : Bool := !c.fpOut p && c.fpEn p && c.fpState p != .disabled

/-- R261: an input's level has held for FILT. -/
def Chip.fpFiltered (c : Chip) (p : Nat) (level : Bool) : Chip :=
  let v := level != c.flag (R.FP_CFG p) F.FP_CFG_INVERT
  if c.fpSamples p ∧ v ≠ c.flag (R.FP_STATUS p) F.FP_STATUS_VALUE then c.fpChange p v else c

/-- R262, R267. -/
def Chip.wireBreak (c : Chip) (p : Nat) : Chip :=
  if c.fpSamples p ∧ c.flag (R.FP_CFG p) F.FP_CFG_WB_EN ∧ ¬ c.fldMasked ∧ ¬ c.flag (R.FP_STATUS p) F.FP_STATUS_WIRE_BREAK then
    (c.fset (R.FP_STATUS p) F.FP_STATUS_WIRE_BREAK 1).fpFaultEvent p 4
  else c
def Chip.wireBreakClear (c : Chip) (p : Nat) : Chip := if c.fldMasked then c else c.fset (R.FP_STATUS p) F.FP_STATUS_WIRE_BREAK 0

/-- R268: what changed in the field die since was is pushed to D0: FLD_IN_STATE and the FP_STATUS of each point, while the link
is up. -/
def Chip.fldPush (c was : Chip) : Chip :=
  if c.linkUp 6 then
    let ws := ((List.range 32).map fun p => (0x800 + 4 * p, R.FP_STATUS p)).filter fun y => c.rd y.2 ≠ was.rd y.2
    let ws := if ws = [] then ws else (0x7E0, R.FLD_IN_STATE) :: ws
    { c with hsp := { c.hsp with pushed := ws.foldl (fun t y => Tbl.set (fun _ => none) t y.1 (some (c.rd y.2))) c.hsp.pushed } }
  else c

/-- R263, R266: an output that is to drive: ON, or WAIT_SUPPLY while L+ is not valid. -/
def Chip.fpDrive (c : Chip) (p : Nat) : Chip :=
  (c.setFpRun p (if c.supplyFault then .waitSupply else .on)).fset (R.FP_STATUS p) F.FP_STATUS_FAULT 0

/-- An output goes off; OPEN_LOAD stays as it is (R264). -/
def Chip.fpOff (c : Chip) (p : Nat) : Chip := (c.setFpRun p .off).fset (R.FP_STATUS p) F.FP_STATUS_FAULT 0

/-- R263: REARM takes an output from FAULT to OFF once its switch is below 150 °C. -/
def Chip.fpRearm (c : Chip) (p : Nat) : Chip :=
  if c.fpOut p ∧ c.fpRun p = .fault ∧ ¬ (c.fp p).hot then c.fpOff p else c

/-- R269: a LIMP output proceeds from OFF at a write of FP_CMD. -/
def Chip.fpUnlimp (c : Chip) (p : Nat) : Chip :=
  if c.fpOut p ∧ c.fpState p = .limp then
    (c.setFpRun p .off).fset (R.FP_STATUS p) F.FP_STATUS_STATE 0 |>.fset (R.FP_STATUS p) F.FP_STATUS_FAULT 0 |>.fldRefresh
  else c

/-- R263, R266: what ON, as it stands, makes of the output. -/
def Chip.fpTakeOn (c : Chip) (p : Nat) : Chip :=
  if c.fpOut p then
    if c.fpOn p then (match c.fpState p with | .off => if c.fpEn p then c.fpDrive p else c | _ => c)
    else match c.fpState p with
      | .on | .cooldown | .waitSupply => c.fpOff p
      | _ => c
  else c

/-- A write of FP_CMD, its ON stored (R263, R269). -/
def Chip.fpCmd (c : Chip) (p : Nat) (x : Word) : Chip :=
  let c := if F.FP_CMD_REARM.get x = 1 then c.fpRearm p else c
  (c.fpUnlimp p).fpTakeOn p

/-- R263: a fault of an output that drives: FAULT and ON cleared, or COOLDOWN with AUTO_RETRY. -/
def Chip.fpFault (c : Chip) (p code : Nat) (hot : Bool) : Chip :=
  let c := c.fpFaultEvent p code
  let c := if c.flag (R.FP_CFG p) F.FP_CFG_AUTO_RETRY then c.setFpRun p .cooldown
    else (c.setFpRun p .fault).fset (R.FP_CMD p) F.FP_CMD_ON 0
  (c.fset (R.FP_STATUS p) F.FP_STATUS_FAULT code).setFp p
    { c.fp p with hot := hot || (c.fp p).hot, waited := false }

def Chip.fpDrives (c : Chip) (p : Nat) : Bool := c.fpOut p && c.fpRun p == .on

/-- R263: COOLDOWN ends in a restart once 100 ms have passed and the switch is below 150 °C; so does WAIT_SUPPLY with L+ valid
(R266). Assumption log 43 (DEDUCED). -/
def Chip.fpRestart (c : Chip) (p : Nat) : Chip :=
  if c.fpOut p ∧ ¬ (c.fp p).hot ∧ ((c.fpRun p = .cooldown ∧ (c.fp p).waited) ∨ (c.fpRun p = .waitSupply ∧ ¬ c.supplyFault)) then c.fpDrive p
  else c

/-- R264, R267. -/
def Chip.openLoad (c : Chip) (p : Nat) : Chip :=
  if c.fpDrives p ∧ c.flag (R.FP_CFG p) F.FP_CFG_OL_EN ∧ ¬ c.fldMasked ∧ ¬ c.flag (R.FP_STATUS p) F.FP_STATUS_OPEN_LOAD then
    (c.fset (R.FP_STATUS p) F.FP_STATUS_OPEN_LOAD 1).fpFaultEvent p 3
  else c
def Chip.openLoadClear (c : Chip) (p : Nat) : Chip := if c.fldMasked then c else c.fset (R.FP_STATUS p) F.FP_STATUS_OPEN_LOAD 0

/-- R264, R265: the clamp ends; tj is the junction temperature at the turn-off plus 50: an energy above 150 mJ, derated
as in R129, is fault code 2. A point with EN = 0 is then DISABLED. Assumption log 43 (DEDUCED). -/
def Chip.fpClampEnd (c : Chip) (p : Nat) (parts : List ClampPart) (tj : Nat) : Chip :=
  if c.fpOut p ∧ (c.fp p).clamping then
    let c := c.setFp p { c.fp p with clamping := false }
    let excess := vClampAllow ((tj : Int) - 50) < clampEnergy parts
    if ¬ c.fpEn p then
      let c := if excess then c.fpFaultEvent p 2 else c
      c.fset (R.FP_STATUS p) F.FP_STATUS_STATE 7 |>.fldRefresh
    else if excess then
      if c.flag (R.FP_CFG p) F.FP_CFG_AUTO_RETRY ∧ ¬ c.fpOn p then c.fpFaultEvent p 2 else c.fpFault p 2 (decide (200 ≤ tj))
    else c
  else c

/-- R260: the point changes between input and output: it starts from OFF, its VALUE and the flags of the kind it was clear. Assumption
log 43 (DEDUCED). -/
def Chip.fpKind (c : Chip) (p : Nat) : Chip :=
  (c.fset (R.FP_STATUS p) F.FP_STATUS_STATE (if c.fpState p = .disabled then 7 else 0) |>.fset (R.FP_STATUS p) F.FP_STATUS_WIRE_BREAK 0
    |>.fset (R.FP_STATUS p) F.FP_STATUS_OPEN_LOAD 0 |>.fset (R.FP_STATUS p) F.FP_STATUS_FAULT 0).fpShow p false

/-- R265: EN = 0 turns an output off at once, HELD or LIMP too, and leads to DISABLED once it no longer clamps. -/
def Chip.fpStop (c : Chip) (p : Nat) : Chip :=
  let c := if c.fpInHold p then
      let st := (c.fpRun p).code
      c.fset (R.FP_STATUS p) F.FP_STATUS_STATE st
    else c
  let c := match c.fpState p with
    | .on | .cooldown | .waitSupply | .fault => c.fpOff p
    | _ => c
  (if (c.fp p).clamping then c else c.fset (R.FP_STATUS p) F.FP_STATUS_STATE 7).fldRefresh

/-- A write of FP_CFG: x is the word to store, old the word it held. A change of MODE while an output is active is refused
(R260); EN = 0 stops the point, and EN = 1 leads back to OFF with ON = 0 (R265); an input keeps its VALUE over both, and a change of
INVERT inverts it (R261); an output with ON = 1 then drives (R263). Assumption log 43 (DEDUCED). -/
def Chip.fpCfg (c : Chip) (p : Nat) (old x : Word) : Chip :=
  let change := F.FP_CFG_MODE.get x ≠ F.FP_CFG_MODE.get old
  let ok := !(c.fpOut p && c.fpState p != .off && c.fpState p != .disabled)
  let was := c.fpOut p
  let c := if change ∧ ¬ ok then (c.wr (R.FP_CFG p) (F.FP_CFG_MODE.put x (F.FP_CFG_MODE.get old))).bump R.FLD_MODE_REFUSED_CNT
    else c.wr (R.FP_CFG p) x
  let c := if c.fpOut p = was then c else c.fpKind p
  if ¬ c.fpEn p then
    if c.fpOut p then c.fpStop p else c.fset (R.FP_STATUS p) F.FP_STATUS_STATE 7
  else if F.FP_CFG_EN.get old = 0 then
    let c := c.fset (R.FP_CMD p) F.FP_CMD_ON 0
    if c.fpState p = .disabled then
      c.fset (R.FP_STATUS p) F.FP_STATUS_STATE (if c.fpOut p then 0 else c.fget (R.FP_STATUS p) F.FP_STATUS_VALUE)
    else c
  else if ¬ c.fpOut p ∧ ¬ was ∧ F.FP_CFG_INVERT.get old ≠ F.FP_CFG_INVERT.get x then c.fpChange p (!c.flag (R.FP_STATUS p) F.FP_STATUS_VALUE)
  else c.fpTakeOn p

/-- R266: the comparison of L+, in 0.1 V, with its limits. -/
def Chip.fldCompare (c : Chip) (lplus : Nat) : Chip :=
  c.fbit R.FLD_SUP_STATUS F.FLD_SUP_STATUS_UV (decide (lplus < c.fget R.FLD_SUP_CFG F.FLD_SUP_CFG_UV))
    |>.fbit R.FLD_SUP_STATUS F.FLD_SUP_STATUS_OV (decide (c.fget R.FLD_SUP_CFG F.FLD_SUP_CFG_OV < lplus))

/-- R266: SUPPLY_FAULT sets; every output that is ON or in COOLDOWN waits for the supply. -/
def Chip.fldFault (c : Chip) (tooHigh : Bool) : Chip :=
  let c := c.fbit R.FLD_SUP_STATUS F.FLD_SUP_STATUS_OV tooHigh |>.fbit R.FLD_SUP_STATUS F.FLD_SUP_STATUS_UV (!tooHigh)
  if c.supplyFault then c
  else
    let c := ((c.fset R.FLD_SUP_STATUS F.FLD_SUP_STATUS_SUPPLY_FAULT 1).bump R.FLD_SUP_FAULT_CNT).raiseFrom 6 84
    let c := (List.range 32).foldl (fun c p =>
      if c.fpOut p ∧ (c.fpRun p = .on ∨ c.fpRun p = .cooldown) then (c.setFpRun p .waitSupply).fset (R.FP_STATUS p) F.FP_STATUS_FAULT 0 else c) c
    c.fldMask

/-- R266, R263: L+ is within its limits again; each WAIT_SUPPLY output restarts, once its switch is below 150 °C. -/
def Chip.fldRecover (c : Chip) : Chip :=
  if c.supplyFault then ((List.range 32).foldl Chip.fpRestart (c.wr R.FLD_SUP_STATUS 0)).fldMask else c

/-! ### Hold, limp and reset (R269) -/

/-- R269: FLD_HOLD_TIME expires for a HELD output. -/
def Chip.fpLimp (c : Chip) (p : Nat) : Chip :=
  if c.fpOut p ∧ c.fpState p = .held then
    let c := c.fset (R.FP_STATUS p) F.FP_STATUS_STATE 6
    match c.fget (R.FP_CFG p) F.FP_CFG_LIMP_MODE with
    | 0 => if c.fpRun p = .fault then c else c.fpOff p
    | 1 => if c.fpRun p = .fault then c else c.fpDrive p
    | _ => c
  else c

def Chip.fldLimp (c : Chip) : Chip := ((List.range 32).foldl Chip.fpLimp c).fldRefresh

/-- R269: the field die declares its link lost: every output that is not DISABLED enters HELD, from LIMP too. -/
def Chip.fldHold (c : Chip) : Chip :=
  let c := (List.range 32).foldl (fun c p =>
    if c.fpOut p ∧ c.fpState p ≠ .disabled then
      (c.setFp p { c.fp p with sub := (c.fpRun p).code }).fset (R.FP_STATUS p) F.FP_STATUS_STATE 5
    else c) c
  if c.fget R.FLD_HOLD_TIME F.FLD_HOLD_TIME_HOLD = 0 then c.fldLimp else c.fldRefresh

/-- R269, R263: after acknowledgement HELD outputs resume, and do what ON, as it stands, asks. -/
def Chip.fldResume (c : Chip) : Chip :=
  (((List.range 32).foldl (fun c p =>
    if c.fpOut p ∧ c.fpState p = .held then (c.fset (R.FP_STATUS p) F.FP_STATUS_STATE (c.fp p).sub).fpTakeOn p else c) c).fldRefresh).fldPush c

/-- R269: the field die starts again from its reset: every point a type 3 input, its counters at zero. -/
def Chip.fldReset (c : Chip) : Chip := { c.clearRegs 0x40400000 0x40480000 with fps := [] }

/-- R269: the barrier's power is lost: the die stops, its outputs go off, and its link is down. Assumption log 43 (DEDUCED). -/
def Chip.barrierLoss (c : Chip) : Chip :=
  let c := if c.linkUp 6 then c.linkDown 6 else c
  c.fldReset.setLink 6 { c.link 6 with lost := true }

/-! ### Meanings -/

/-- R249. -/
def execSiScanTick (s : State) : Host.Outcome State Fault Refusal := .next (s.onChip (·.scanTick))
/-- R251 to R253. -/
def execSiConversionDone (i : Fin 64) (code : Nat) (s : State) : Host.Outcome State Fault Refusal := .next (s.onChip (·.siConverted i code))
/-- R261. -/
def execFpFilterExpire (p : Fin 32) (level : Bool) (s : State) : Host.Outcome State Fault Refusal := .next (s.onChip fun c => (c.fpFiltered p level).fldPush c)
/-- R262. -/
def execFpWireBreakDetect (p : Fin 32) (s : State) : Host.Outcome State Fault Refusal := .next (s.onChip fun c => (c.wireBreak p).fldPush c)
/-- R262. -/
def execFpWireBreakClear (p : Fin 32) (s : State) : Host.Outcome State Fault Refusal := .next (s.onChip fun c => (c.wireBreakClear p).fldPush c)
/-- R263. -/
def execFpShort (p : Fin 32) (hot : Bool) (s : State) : Host.Outcome State Fault Refusal :=
  .next (s.onChip fun c => (if c.fpDrives p then c.fpFault p 1 hot else c).fldPush c)
/-- R263. -/
def execFpThermalShutdown (p : Fin 32) (s : State) : Host.Outcome State Fault Refusal :=
  .next (s.onChip fun c => (if c.fpDrives p then c.fpFault p 2 true else c).fldPush c)
/-- R263: the 100 ms of a COOLDOWN have passed. -/
def execFpCooldownRestart (p : Fin 32) (s : State) : Host.Outcome State Fault Refusal :=
  .next (s.onChip fun c => (c.setFp p { c.fp p with waited := true }).fpRestart p |>.fldPush c)
/-- R263. -/
def execFpSwitchBelow150c (p : Fin 32) (s : State) : Host.Outcome State Fault Refusal :=
  .next (s.onChip fun c => (c.setFp p { c.fp p with hot := false }).fpRestart p |>.fldPush c)
/-- R264. -/
def execFpOpenLoadDetect (p : Fin 32) (s : State) : Host.Outcome State Fault Refusal := .next (s.onChip fun c => (c.openLoad p).fldPush c)
/-- R264. -/
def execFpOpenLoadClear (p : Fin 32) (s : State) : Host.Outcome State Fault Refusal := .next (s.onChip fun c => (c.openLoadClear p).fldPush c)
/-- R264. -/
def execFpClampEnd (p : Fin 32) (parts : List ClampPart) (tj : BitVec 8) (s : State) : Host.Outcome State Fault Refusal :=
  .next (s.onChip fun c => (c.fpClampEnd p parts tj.toNat).fldPush c)
/-- R266. -/
def execFldSupplyFault (tooHigh : Bool) (s : State) : Host.Outcome State Fault Refusal := .next (s.onChip fun c => (c.fldFault tooHigh).fldPush c)
/-- R266. -/
def execFldSupplyRecover (s : State) : Host.Outcome State Fault Refusal := .next (s.onChip fun c => c.fldRecover.fldPush c)
/-- R268, R266: the 1 ms averages of every point, and L+ in 0.1 V as the die last compared it. -/
def execFpMeasPush (x : FieldMeas) (s : State) : Host.Outcome State Fault Refusal :=
  .next (s.onChip fun c => (List.range 32).foldl (fun c p =>
    c.wr (R.FP_MEAS p) (F.FP_MEAS_V.put (F.FP_MEAS_I.of (x.ms.getD p (0, 0)).2.toNat) (x.ms.getD p (0, 0)).1.toNat)) (c.fldCompare x.lplus))
/-- R269. -/
def execFldHoldTimeExpire (s : State) : Host.Outcome State Fault Refusal := .next (s.onChip fun c => if (c.link 6).lost then c.fldLimp else c)
/-- R269. -/
def execBarrierPowerLoss (s : State) : Host.Outcome State Fault Refusal := .next (s.onChip (·.barrierLoss))

end Sys2Proof.Machine
end

