-- ==== Sys2Proof/Machine/Net.lean ====
section
/-! DEFINITION. The network-management helper and the wake ring (spec/14). -/

namespace Sys2Proof.Machine
open Sys2Proof

/-! ### The helper's frames (R418 to R421) -/

def Chip.ownNode (c : Chip) : Nat := c.fget R.NM_CTRL F.NM_CTRL_NODE
def Chip.ownAwake (c : Chip) : Bool := c.flag R.NM_LOCAL F.NM_LOCAL_AWAKE
/-- R418: the helper works on controller n. -/
def Chip.nmOn (c : Chip) (n : Nat) : Bool :=
  c.flag R.NM_CTRL F.NM_CTRL_EN && (c.fget R.NM_CTRL F.NM_CTRL_CTRL_MASK).testBit n && c.canEn n && c.awake
/-- R418: it may transmit there: never on CAN0 to CAN5 while the CANT pads are held. -/
def Chip.nmMaySend (c : Chip) (n : Nat) : Bool := c.nmOn n && (6 ≤ n || !c.flag R.SYS_PAD_HOLD (bitFld 8))

/-- R419: the module's own frame goes into MB63 and is requested; a frame that is on the bus is left as it is. Assumption log 62 (DEDUCED). -/
def Chip.nmSendOn (c : Chip) (n : Nat) : Chip :=
  if c.nmMaySend n then
    let ident := c.fget R.NM_ID F.NM_ID_BASE * 256 + c.ownNode
    let xtd := c.fget R.NM_ID F.NM_ID_XTD
    let w0 := mbId.put (mbXtd.put (mbKind.of 2) xtd) (if xtd = 1 then ident else ident % 2048 * 2 ^ 18)
    let b1 : Byte := if c.ownAwake then 1 else 2
    let d := beWord [.ofNat 8 c.ownNode, b1, .ofNat 8 (c.fget R.NM_LOCAL F.NM_LOCAL_WAKE_REASON), .ofNat 8 c.nm.count]
    let c := if (c.can n).cur = some 63 then c else (c.mbFill n 63 [w0, mbDlc.of 4, 0, d]).txRequest n 63
    { c with nm := { c.nm with sentOn := n :: c.nm.sentOn.filter (· ≠ n) } }
  else c

/-- R421: the frame on the controllers of a list that may transmit; the counter goes on after a frame. -/
def Chip.nmSendAll (c : Chip) (l : List Nat) : Chip :=
  let l := l.filter c.nmMaySend
  if l = [] then c
  else
    let c := l.foldl Chip.nmSendOn c
    { c with nm := { c.nm with count := (c.nm.count + 1) % 256 } }

/-- R421: the frame on each selected controller. -/
def Chip.nmSend (c : Chip) : Chip := c.nmSendAll (List.range 8)

/-- R421: the first moment after STANDBY entry at which it may transmit on a controller. -/
def Chip.nmFirst (c : Chip) : Chip := c.nmSendAll ((List.range 8).filter fun n => !c.nm.sentOn.contains n)

/-! ### Presence, agreement, lone-awake nodes (R423 to R427) -/

def Chip.nodeBit (c : Chip) (map : Nat → Nat) (b : Nat) : Bool := (c.rd (map (b / 32))).toNat.testBit (b % 32)
def Chip.setNodeBit (c : Chip) (map : Nat → Nat) (b : Nat) (v : Bool) : Chip := c.fbit (map (b / 32)) (bitFld (b % 32)) v
def Chip.present (c : Chip) (b : Nat) : Bool := c.nodeBit R.NM_PRESENT_MAP b
def Chip.nodeAwake (c : Chip) (b : Nat) : Bool := c.nodeBit R.NM_AWAKE_MAP b
def Chip.nodeReady (c : Chip) (b : Nat) : Bool := if b = c.ownNode then !c.ownAwake else c.nm.ready.contains b
/-- The present nodes, the module included. -/
def Chip.presentNodes (c : Chip) : List Nat := (List.range 256).filter c.present

/-- R425: LONE_TIME, in seconds. Assumption log 62 (DEDUCED). -/
def Chip.loneTime (c : Chip) : Nat :=
  if c.flag R.NM_STATUS F.NM_STATUS_LONE_VALID then c.nm.lonePlus + ((c.ctr64 R.SYS_MTIME_LO).toNat - c.nm.loneSince) / 1000000 else 0

/-- LONE_TIME and the running offence's DURATION show the seconds up to now (R425, R426). Assumption log 62 (DEDUCED). -/
def Chip.nmTime (c : Chip) : Chip :=
  let t := c.loneTime
  let c := c.fset R.NM_STATUS F.NM_STATUS_LONE_TIME (min 0xFFFF t)
  match c.nm.entry with
  | some (e, base) => c.wr (R.NM_OFF_DURATION e) (.ofNat 32 (min 0xFFFFFFFF (base + t)))
  | none => c

/-- R425, R426: the lone-awake node, if there is one: the only awake node, and every other one ready. -/
def Chip.loneNode (c : Chip) : Option Nat :=
  if !c.flag R.NM_CTRL F.NM_CTRL_EN then none else
  match c.presentNodes.filter fun b => if b = c.ownNode then c.ownAwake else c.nodeAwake b with
  | [b] => if b ≠ c.ownNode ∧ (c.presentNodes.all fun x => x == b || c.nodeReady x) then some b else none
  | _ => none

/-- R423, R425: ALL_READY and the lone-awake node follow the maps, both only while the helper is enabled; a lone-awake
interval ends or begins. Assumption log 62 (DEDUCED). -/
def Chip.nmRefresh (c : Chip) : Chip :=
  let c := if c.flag R.NM_CTRL F.NM_CTRL_EN then (c.setNodeBit R.NM_PRESENT_MAP c.ownNode true).setNodeBit R.NM_AWAKE_MAP c.ownNode c.ownAwake else c
  let all := c.flag R.NM_CTRL F.NM_CTRL_EN && c.presentNodes.all c.nodeReady
  let c := if all = c.flag R.NM_STATUS F.NM_STATUS_ALL_READY then c else (c.fbit R.NM_STATUS F.NM_STATUS_ALL_READY all).raise 144
  let was := if c.flag R.NM_STATUS F.NM_STATUS_LONE_VALID then some (c.fget R.NM_STATUS F.NM_STATUS_LONE) else none
  if c.loneNode = was then c
  else
    let lone := c.loneNode
    let c := c.nmTime
    let c := { c with nm := { c.nm with begun := false, entry := none, lonePlus := 0, loneSince := (c.ctr64 R.SYS_MTIME_LO).toNat } }
    c.fbit R.NM_STATUS F.NM_STATUS_LONE_VALID lone.isSome |>.fset R.NM_STATUS F.NM_STATUS_LONE (lone.getD 0)
      |>.fset R.NM_STATUS F.NM_STATUS_LONE_TIME 0

/-- R428: the false-wake check succeeds. -/
def Chip.fwStop (c : Chip) : Chip := c.fset R.NM_FW_STATUS F.NM_FW_STATUS_ARMED 0

/-- R420, R423: a frame on a selected controller is examined. -/
def Chip.nmFrame (c : Chip) (n : Nat) (f : CanFrame) : Chip :=
  let ident := if f.xtd then f.id.toNat else f.id.toNat / 2 ^ 18
  let d := (f.data.getD 0 0).toNat
  if ¬ c.nmOn n ∨ ¬ c.canHears n ∨ f.fdf ∨ f.rtr ∨ f.xtd ≠ c.flag R.NM_ID F.NM_ID_XTD ∨ ident / 256 ≠ c.fget R.NM_ID F.NM_ID_BASE
    ∨ ident % 256 = c.ownNode then c
  else if f.dlc < 2 ∨ d / 2 ^ 24 ≠ ident % 256 then c.bump R.NM_BAD_FRAME_CNT
  else
    let b := ident % 256
    let aw := d.testBit 16
    let c := (c.setNodeBit R.NM_PRESENT_MAP b true).setNodeBit R.NM_AWAKE_MAP b aw
    let ready := c.nm.ready.filter (· ≠ b)
    let c := { c with nm := { c.nm with ready := if d.testBit 17 then b :: ready else ready, ctl := Tbl.set (fun _ => 0) c.nm.ctl b n } }
    let c := if aw then c.fwStop else c
    c.nmRefresh

/-- R423: a node leaves the present set. -/
def Chip.nmAbsent (c : Chip) (b : Nat) : Chip :=
  if b = c.ownNode then c
  else
    let c := (c.setNodeBit R.NM_PRESENT_MAP b false).setNodeBit R.NM_AWAKE_MAP b false
    { c with nm := { c.nm with ready := c.nm.ready.filter (· ≠ b) } }.nmRefresh

/-- A write of NM_LOCAL, its AWAKE stored, old the word it held (R421, R428). -/
def Chip.nmLocal (c : Chip) (old : Word) : Chip :=
  let c := if c.ownAwake then c.fwStop else c
  if F.NM_LOCAL_AWAKE.get old = c.ownAwake.toNat then c else c.nmRefresh.nmSend

/-- R425, R426, R472: LONE_TIME reaches OFFENDER_TIME: the offence is entered in the table, or counted as lost; EV145 and
an NM_OFFENCE record. -/
def Chip.offenceBegin (c : Chip) : Chip :=
  if c.flag R.NM_STATUS F.NM_STATUS_LONE_VALID ∧ ¬ c.nm.begun then
    let b := c.fget R.NM_STATUS F.NM_STATUS_LONE
    let c := { c with nm := { c.nm with begun := true, begunAt := some (b, (c.ctr64 R.SYS_MTIME_LO).toNat), lonePlus := c.nm.lonePlus + (c.fget R.NM_CFG F.NM_CFG_OFFENDER_TIME - c.loneTime) } }
    let cnt (e : Nat) := c.fget (R.NM_OFF_ENTRY e) F.NM_OFF_ENTRY_COUNT
    let own := (List.range 16).find? fun e => cnt e ≠ 0 && c.fget (R.NM_OFF_ENTRY e) F.NM_OFF_ENTRY_NODE == b
    let c := match own.orElse fun _ => (List.range 16).find? fun e => cnt e == 0 with
      | some e =>
        let base := if own.isSome then (c.rd (R.NM_OFF_DURATION e)).toNat else 0
        let c := (c.fbump (R.NM_OFF_ENTRY e) F.NM_OFF_ENTRY_COUNT).fset (R.NM_OFF_ENTRY e) F.NM_OFF_ENTRY_NODE b
        { c with nm := { c.nm with entry := some (e, base) } }.nmTime
      | none => (c.bump R.NM_OFF_LOST_CNT).raise 148
    let (count, dur) := match c.nm.entry with
      | some (e, _) => (c.fget (R.NM_OFF_ENTRY e) F.NM_OFF_ENTRY_COUNT, (c.rd (R.NM_OFF_DURATION e)).toNat)
      | none => (0, c.loneTime)
    (c.raise 145).log 0x02 (payload [(0, 1, b), (1, 1, Tbl.get (fun _ => 0) c.nm.ctl b), (2, 1, count), (4, 4, dur)])
  else c

/-- R427: the offender table is emptied; an offence that began in this microsecond stays as its only entry. Assumption log
62 (DEDUCED). -/
def Chip.offClear (c : Chip) : Chip :=
  let c := { c.clearRegs (R.NM_OFF_ENTRY 0) (R.NM_OFF_ENTRY 16) with nm := { c.nm with entry := none } }
  match c.nm.begunAt with
  | some (b, t) =>
    if t = (c.ctr64 R.SYS_MTIME_LO).toNat ∧ c.flag R.NM_STATUS F.NM_STATUS_LONE_VALID then
      let c := c.wr (R.NM_OFF_ENTRY 0) (F.NM_OFF_ENTRY_COUNT.put (F.NM_OFF_ENTRY_NODE.of b) 1)
      { c with nm := { c.nm with entry := some (0, 0) } }.nmTime
    else c
  | none => c

/-! ### The wake ring (R430 to R433) -/

/-- R430, R431: a pulse starts on WAKE_OUT, or is merged into the one in progress; WAKE_IN is then ignored for BLANK. Assumption log 63 (DEDUCED). -/
def Chip.wakeOut (c : Chip) : Chip :=
  if c.flag R.WR_STATUS F.WR_STATUS_OUT_ACTIVE then c
  else (c.bump R.WR_OUT_CNT).fset R.WR_STATUS F.WR_STATUS_OUT_ACTIVE 1 |>.fset R.WR_STATUS F.WR_STATUS_BLANKING 1

/-- R430, R432, R433: a pulse on WAKE_IN: ignored while the bypass is closed; counted as blanked; or accepted (the
Boolean), and forwarded. Assumption log 63 (DEDUCED). -/
def Chip.wakeIn (c : Chip) : Chip × Bool :=
  if c.bypass then (c, false)
  else if c.flag R.WR_STATUS F.WR_STATUS_BLANKING then (c.bump R.WR_BLANKED_CNT, false)
  else
    let c := c.bump R.WR_IN_CNT
    (if c.flag R.WR_CFG F.WR_CFG_FWD_EN then c.wakeOut else c, true)

/-! ### Meanings -/

/-- R420. -/
def execNmFrameReceived (n : Fin 8) (f : CanFrame) (s : State) : Host.Outcome State Fault Refusal := .next (s.onChip (·.nmFrame n f))
/-- R421. -/
def execNmCycleExpire (s : State) : Host.Outcome State Fault Refusal := .next (s.onChip (·.nmSend))
/-- R423. -/
def execNmNodeAbsent (node : Fin 256) (s : State) : Host.Outcome State Fault Refusal := .next (s.onChip (·.nmAbsent node))
/-- R425. -/
def execNmOffenceBegin (s : State) : Host.Outcome State Fault Refusal := .next (s.onChip (·.offenceBegin))
/-- R430. -/
def execWakeOutPulseEnd (s : State) : Host.Outcome State Fault Refusal := .next (s.onChip (·.fset R.WR_STATUS F.WR_STATUS_OUT_ACTIVE 0))
/-- R432. -/
def execWakeBlankEnd (s : State) : Host.Outcome State Fault Refusal := .next (s.onChip (·.fset R.WR_STATUS F.WR_STATUS_BLANKING 0))
/-- R433. -/
def execWakeBypassOpen (s : State) : Host.Outcome State Fault Refusal := .next (s.onChip fun c => { c with bypass := false })

end Sys2Proof.Machine
end

