-- ==== Sys2Proof/Machine/Faceplate.lean ====
section
/-! DEFINITION. The Faceplate window (R317 to R322): its words, a refresh, staleness and the swap. -/

namespace Sys2Proof.Machine
open Sys2Proof

def Chip.setHsp (c : Chip) (h : HspX) : Chip := { c with hsp := h }

/-- A word with values placed at bit positions. -/
def wordOf (l : List (Nat × Nat)) : Word := .ofNat 32 (l.map fun x => x.2 * 2 ^ x.1).sum

/-- R322: the channel status word, not stale. -/
def Chip.fpChan (c : Chip) (ch : Nat) : Word :=
  let s := c.statusOf ch
  let p := R.CH_PROT_STATUS ch
  let o := R.CH_OL_STATUS ch
  wordOf [(30, F.CH_STATUS_SEALED.get s), (29, F.CH_STATUS_START_ENABLE.get s), (28, F.CH_STATUS_PAIR_ODD.get s),
    (27, c.fget p F.CH_PROT_STATUS_TJ_WARN), (26, c.fget p F.CH_PROT_STATUS_WIRE_WARN),
    (25, c.fget o F.CH_OL_STATUS_OPEN_ON), (24, c.fget o F.CH_OL_STATUS_OPEN_OFF),
    (23, c.fget p F.CH_PROT_STATUS_SHORT_SUPPLY), (22, c.fget p F.CH_PROT_STATUS_REVERSE), (21, c.fget p F.CH_PROT_STATUS_BYPASS_ON),
    (20, F.CH_STATUS_PENDING_GRANT.get s), (16, c.fget (R.CH_OWNER ch) F.CH_OWNER_OWNER),
    (12, c.fget p F.CH_PROT_STATUS_HOLD_SUB), (11, c.fget o F.CH_OL_STATUS_UNCONFIRMED),
    (8, c.activeMode ch), (4, F.CH_STATUS_CAUSE.get s), (0, F.CH_STATUS_STATE.get s)]

/-- R322: the valve word, not stale. -/
def Chip.fpValve (c : Chip) (v : Nat) : Word :=
  let s := R.VLV_STATUS v
  wordOf [(16, min 0xFFF (c.fget (R.VLV_MEAS v) F.VLV_MEAS_I_AVG)), (12, c.fget s F.VLV_STATUS_HOLD_LOW), (11, c.fget s F.VLV_STATUS_FEED_PEAK),
    (4, c.fget s F.VLV_STATUS_FAULT), (0, c.fget s F.VLV_STATUS_STATE)]

/-- R322: the CAN and SVC word of controller n, the LIN word, the queue word, the die word. -/
def Chip.fpCan (c : Chip) (n : Nat) : Word :=
  wordOf [(30, c.fget (R.CAN_STATUS n) F.CAN_STATUS_BUS_ALONE), (28, c.fget (R.CAN_STATUS n) F.CAN_STATUS_ERR_STATE),
    (8, c.fget (R.CAN_ERR n) F.CAN_ERR_TEC), (0, c.fget (R.CAN_ERR n) F.CAN_ERR_REC)]
def Chip.fpLin (c : Chip) (n : Nat) : Word := wordOf [(28, c.fget (R.LIN_STATUS n) F.LIN_STATUS_STATE)]
def Chip.fpQueue (c : Chip) (q : Nat) : Word := wordOf [(16, (c.queue q).words), (0, (c.queue q).pkts)]
def Chip.fpDieWord (c : Chip) (d : Nat) : Word :=
  if d = 0 then 0
  else
    let s := R.SYS_LINK_STATUS d
    wordOf [(31, (!c.linkUp d).toNat), (25, c.fget s F.SYS_LINK_STATUS_DEGRADED), (24, c.fget s F.SYS_LINK_STATUS_UP),
      (16, c.fget s F.SYS_LINK_STATUS_REMOTE_STATE),
      (0, if 2 ≤ d ∧ d ≤ 5 then c.fget (R.PWR_PROT_STATUS (d - 2)) F.PWR_PROT_STATUS_HOLD_LEFT else 0)]

/-- R322: the tamper word: TAMPER of SI60 to SI63. -/
def Chip.tamperWord (c : Chip) : Word := wordOf ((List.range 4).map fun j => (2 * j, c.fget (R.SI_STATUS (60 + j)) F.SI_STATUS_TAMPER))

/-- R322: the Faceplate word at an offset as its source shows it now. -/
def Chip.fpLive (c : Chip) (o : Nat) : Word :=
  let k := o / 4
  if o < 0x40 then 0
  else if o < 0x340 then c.fpChan (k - 0x10)
  else if o < 0x640 then c.rd (R.CH_I_AVG (k - 0xD0))
  else if o < 0x700 then
    wordOf ((List.range 4).map fun j => (8 * j, c.fget (R.CH_TJ (o - 0x640 + j)) F.CH_TJ_TJ))
  else if o < 0x740 then c.fpValve (k - 0x1C0)
  else if o < 0x7A0 then c.rd (R.LS_STATUS (k - 0x1D0))
  else if o < 0x7D0 then c.rd (R.LF_STATUS (k - 0x1E8))
  else if o = 0x7D0 then c.rd R.SI_STATE0
  else if o = 0x7D4 then c.rd R.SI_STATE1
  else if o = 0x7D8 then c.tamperWord
  else if o = 0x7E0 then c.rd R.FLD_IN_STATE
  else if o = 0x7E4 then wordOf [(8, (c.rd R.FLD_STATUS).toNat % 4), (0, (c.rd R.FLD_SUP_STATUS).toNat % 8)]
  else if 0x800 ≤ o ∧ o < 0x880 then c.rd (R.FP_STATUS (k - 0x200))
  else if 0x880 ≤ o ∧ o < 0x890 then wordOf [(0, c.fget (R.PWR_FEED_AVG (k - 0x220)) F.PWR_FEED_AVG_AVG1)]
  else if 0x8A0 ≤ o ∧ o < 0x8C0 then c.fpDieWord (k - 0x228)
  else if 0x8C0 ≤ o ∧ o < 0x8E4 then c.fpCan (k - 0x230)
  else if 0x8E4 ≤ o ∧ o < 0x8F4 then c.fpLin (k - 0x239)
  else if 0x900 ≤ o ∧ o < 0x980 then c.fpQueue (k - 0x240)
  else 0

/-- R319: a refresh's word of an offset, if its source gives one: the die's link is up and its data has arrived. The LPLUS word is
stale as well while its register shows STALE (R322). -/
def Chip.fpSource (c : Chip) (o : Nat) : Option Word :=
  let d := fpDie o
  if !c.linkUp d then none
  else if o = 0x89C ∧ c.flag (R.SEN_RAIL 3) F.SEN_RAIL_STALE then none
  else if d = 1 ∨ d = 6 then Tbl.get (fun _ => none) c.hsp.pushed o
  else some (c.fpLive o)

/-- R317: the words that the refresh of a whole millisecond takes. -/
def fpSlow (o : Nat) : Bool := (0x340 ≤ o && o < 0x700) || (0x880 ≤ o && o < 0x8A0)
/-- R322: the words with a STALE bit that a refresh sets. -/
def fpHasStale (o : Nat) : Bool :=
  (0x40 ≤ o && o < 0x340) || (0x700 ≤ o && o < 0x7D0) || o == 0x7D8 || o == 0x7E4 || (0x800 ≤ o && o < 0x8A0) || (0x8C0 ≤ o && o < 0x8F4)

def fpWord (t : Tbl Word) (o : Nat) : Word := Tbl.get (fun _ => 0) t o
def fpPut (t : Tbl Word) (o : Nat) (x : Word) : Tbl Word := Tbl.set (fun _ => 0) t o x
/-- Put STALE into the word of an offset that has the bit. -/
def fpMark (t : Tbl Word) (o : Nat) : Tbl Word := if fpHasStale o then fpPut t o (fpWord t o ||| 0x80000000) else t

/-- The offsets of the fields, header apart. -/
def fpOffsets : List Nat := (List.range 592).map fun k => 0x40 + 4 * k

/-- R317, R319: one field of a refresh. -/
def Chip.fpField (c : Chip) (ms : Bool) (t : Tbl Word) (o : Nat) : Tbl Word :=
  if fpSlow o && !ms then t
  else match c.fpSource o with
    | some x => fpPut t o x
    | none => fpMark t o

/-- Fields of a buffer, by offset, that p holds of. -/
def fpCount (t : Tbl Word) (lo n : Nat) (p : Word → Bool) : Nat := ((List.range n).filter fun k => p (fpWord t (lo + 4 * k))).length
def low4 (x : Word) : Nat := x.toNat % 16
def cause4 (x : Word) : Nat := x.toNat / 16 % 16

/-- R319, R322: the word at an offset of a refresh is stale: its STALE bit is set or, where it has none and a refresh of every 50 µs
takes it, its source gave nothing. A die word's STALE is its link's and marks no field of D0. -/
def Chip.fpStale (c : Chip) (t : Tbl Word) (o : Nat) : Bool :=
  if fpHasStale o then (fpWord t o).getLsbD 31 && !(decide (0x8A0 ≤ o) && decide (o < 0x8C0))
  else !fpSlow o && (c.fpSource o).isNone

/-- R322: header words +0x08 to +0x14 of a refresh. -/
def Chip.fpHeader (c : Chip) (ms : Bool) (t : Tbl Word) : Tbl Word :=
  let t := if ms then fpPut t 4 (fpWord t 4 + 1) else t
  let t := fpPut t 8 c.mtimeLo
  let t := fpPut t 0xC (wordOf [(9, c.fget R.SYS_CLK_STATUS F.SYS_CLK_STATUS_CORE_ON_BACKUP), (8, c.logFull.toNat), (0, c.mode)])
  let t := fpPut t 0x10 (wordOf ((List.range 8).map fun d =>
    (d, (fpOffsets.any fun o => fpDie o == d && c.fpStale t o).toNat)))
  fpPut t 0x14 (wordOf [(24, fpCount t 0x700 16 fun x => low4 x == ValveState.fault.code),
    (16, fpCount t 0x40 192 fun x => 4 ≤ cause4 x && cause4 x ≤ 7),
    (8, fpCount t 0x40 192 fun x => low4 x == ChState.held.code || low4 x == ChState.limp.code),
    (0, fpCount t 0x40 192 fun x => low4 x == ChState.latchedOff.code)])

/-- R317, R318: a 50 µs tick assembles a refresh in the back buffer, or is skipped while a swap waits. Assumption log 73 (DEDUCED). -/
def Chip.fpTick (c : Chip) (ms : Bool) : Chip :=
  if !c.awake || !c.hsp.ready then c
  else if c.hsp.back.isSome then (c.bump R.HSP_FP_SKIP_CNT).raise 20
  else c.setHsp { c.hsp with back := some (c.fpHeader ms (fpOffsets.foldl (c.fpField ms) c.hsp.front)) }

/-- R318: the buffers swap while no frame is open, and FP_SEQ increments. Assumption log 73 (DEDUCED). -/
def Chip.fpSwap (c : Chip) : Chip :=
  match c.hsp.back with
  | some t => if c.hsp.inFrame then c else c.setHsp { c.hsp with front := fpPut t 0 (fpWord c.hsp.front 0 + 1), back := none }
  | none => c

/-- R61, R320: no source is refreshed any more: every field keeps its value and is stale. Assumption log 73 (DEDUCED). -/
def Chip.fpAllStale (c : Chip) : Chip :=
  c.setHsp { c.hsp with front := fpPut (fpOffsets.foldl fpMark c.hsp.front) 0x10 0xFF, back := none, pushed := [] }

end Sys2Proof.Machine
end

