-- ==== Sys2Proof/Machine/ModeOps.lean ====
section
/-! DEFINITION. Modes, clocks, pads, retention, wake sources and the entry into the parking modes (spec/13, R17 to R21). -/

namespace Sys2Proof.Machine
open Sys2Proof

def Chip.setModex (c : Chip) (x : ModeX) : Chip := { c with modex := x }
def Chip.parked (c : Chip) : Bool := c.mode == 1 || c.mode == 2
def Chip.limpCause (c : Chip) : Nat := c.fget R.SYS_MODE F.SYS_MODE_LIMP_CAUSE

/-- R380, R381: SYS_MODE changes, raising EV128. Leaving RUN ends a release (R452), leaving LIMP
opens the dump window (R302); a lost LIMP cause goes; entering
STANDBY, frames are sent as soon as they may be (R421). -/
def Chip.setMode (c : Chip) (m : Nat) : Chip :=
  if c.mode = m then c
  else
    let c := if c.mode = 4 then c.immoEnd else c
    let c := if c.mode = 7 then c.setModex { c.modex with limpWin := true } else c
    let w := F.SYS_MODE_MODE.put (F.SYS_MODE_PREV.put (c.rd R.SYS_MODE) c.mode) m
    let c := (c.wr R.SYS_MODE (if m = 7 then w else F.SYS_MODE_LIMP_CAUSE.put w 0)).raise 128
    if m = 3 then { c with nm := { c.nm with sentOn := [] } }.nmFirst else c

/-- R410: LIMP is entered with its cause; the reset history is cleared; EV133. -/
def Chip.limpEnter (c : Chip) (cause : Nat) : Chip :=
  let c := (c.setMode 7).fset R.SYS_MODE F.SYS_MODE_LIMP_CAUSE cause |>.raise 133
  c.setModex { c.modex with crashes := [] }

/-- R17, R18: the 40 MHz crystal is declared failed: CAN falls silent, CORE runs on the backup, EV010.
The two PLL lock bits are left as they are. Assumption log 84 (DESIGN CHOICE). -/
def Chip.xtalFail (c : Chip) : Chip :=
  (c.fset R.SYS_CLK_STATUS F.SYS_CLK_STATUS_XTAL40_OK 0).canSilence.fset R.SYS_CLK_STATUS F.SYS_CLK_STATUS_CORE_ON_BACKUP 1 |>.raise 10

/-- R17, R381: the failure in a running module, which enters LIMP from STANDBY, RUN and SERVICE. -/
def Chip.xtalLost (c : Chip) : Chip :=
  if c.awake ∧ c.flag R.SYS_CLK_STATUS F.SYS_CLK_STATUS_XTAL40_OK then
    let c := c.xtalFail
    if c.mode = 3 ∨ c.mode = 4 ∨ c.mode = 6 then c.limpEnter 1 else c
  else c

/-- R20, R531: the RTC runs from the 1 MHz RC; the loss is reported over the sentinel's link, once. -/
def Chip.xtal32Lost (c : Chip) : Chip :=
  let was := c.x32
  let c := ({ c with x32 := false }.fset R.SEN_RTC_STATUS F.SEN_RTC_STATUS_ON_RC 1)
  let c := if c.linkUp 1 then c.fset R.SYS_CLK_STATUS F.SYS_CLK_STATUS_XTAL32K_PRESENT 0 else c
  if was then c.raiseFrom 1 11 else c

/-- R531: no crystal runs 1 s after power-on. -/
def Chip.xtal32Absent (c : Chip) : Chip := if c.x32 then c else (c.fset R.SEN_RTC_STATUS F.SEN_RTC_STATUS_ON_RC 1).raiseFrom 1 11

/-- R531: the crystal runs. -/
def Chip.xtal32Runs (c : Chip) : Chip :=
  let c := { c with x32 := true }.fset R.SEN_RTC_STATUS F.SEN_RTC_STATUS_ON_RC 0
  if c.linkUp 1 then c.fset R.SYS_CLK_STATUS F.SYS_CLK_STATUS_XTAL32K_PRESENT 1 else c

/-- R21: the RADIO crystal is lost; ranging stops. -/
def Chip.radioXtalLost (c : Chip) : Chip :=
  ({ c with radio := false }.fset R.SYS_CLK_STATUS F.SYS_CLK_STATUS_RADIO_XTAL_OK 0).radioLost
/-- R21, R531: it runs again. Assumption log 72 (DEDUCED). -/
def Chip.radioXtalBack (c : Chip) : Chip :=
  let c := { c with radio := true }
  if c.linkUp 7 then c.fset R.SYS_CLK_STATUS F.SYS_CLK_STATUS_RADIO_XTAL_OK 1 else c

/-! ### Pads, retention -/

/-- R395, R396: a write of SYS_PAD_RELEASE; CAN frames may then be due at once (R421). -/
def Chip.padRelease (c : Chip) (x : Word) : Chip := (c.wr R.SYS_PAD_HOLD (c.rd R.SYS_PAD_HOLD &&& ~~~x)).nmFirst

/-- R395: the groups that hold pads: INT, EXTCAN, CANT, SVCT, LINT, LEDP. -/
def padGroups : Word := 0xF03

/-- R399: a write of RET_ACK starts zero-filling the LOST banks it names. -/
def Chip.retAck (c : Chip) (x : Word) : Chip :=
  c.setModex { c.modex with filling := c.modex.filling ||| (x &&& c.rd R.RET_STATUS) }

/-- SRAM byte addresses of bank k (spec/09). -/
def sramBase : Nat := 0x20000000
def bankSize : Nat := 0x40000
def bankOf (a : Nat) : Nat := (a - sramBase) / bankSize

/-! ### Wake sources (R393, R401 to R404) -/

/-- R393: a wake source is recorded; SEN_WAKE_FIRST names the first, and the input of the first SI, PATROL or TAMPER wake. -/
def Chip.wakeRecord (c : Chip) (w : WakeAt) : Chip :=
  let had := c.rd R.SEN_WAKE_SRC &&& 0x7000 != 0
  let c := c.fbit R.SEN_WAKE_SRC (bitFld w.bit) true
  let inp := if w.bit.val = 12 ∨ w.bit.val = 13 ∨ w.bit.val = 14 then w.input.val else 0
  if c.flag R.SEN_WAKE_FIRST F.SEN_WAKE_FIRST_VALID then
    if (12 ≤ w.bit.val ∧ w.bit.val ≤ 14) ∧ !had then c.fset R.SEN_WAKE_FIRST F.SEN_WAKE_FIRST_INPUT inp else c
  else c.wr R.SEN_WAKE_FIRST (F.SEN_WAKE_FIRST_INPUT.put (F.SEN_WAKE_FIRST_BIT.put (F.SEN_WAKE_FIRST_VALID.of 1) w.bit) inp)

/-- R421: the wake reason of a first source. -/
def wakeReason (bit : Nat) : Nat :=
  if bit ≤ 5 ∨ bit = 18 then 1 else if bit = 6 then 2 else if bit ≤ 10 then 3 else if bit = 11 then 4
  else if bit = 12 ∨ bit = 13 then 5 else if bit = 14 then 6 else if bit = 15 then 7 else if bit = 16 then 8 else 9

/-! ### The posture of the remote dies (R383 to R385) -/

/-- R385: a driven channel is turned off as the parking modes are entered, and enters OFF. Assumption log 65 (DEDUCED). -/
def Chip.parkChan (c : Chip) (ch : Nat) : Chip :=
  if (c.chRun ch).driven then
    ((c.goOff ch).dropPending ch).fset (R.CH_CMD ch) F.CH_CMD_MODE 0 |>.fset (R.CH_ACTIVE_CMD ch) F.CH_ACTIVE_CMD_MODE 0
      |> fun c => c.setChState ch .off
  else c

/-- R384: the keeper feeds sealed channel ch in PARK and PATROL: the policy holds it and does not give it to its bypass. -/
def Chip.keeperFed (c : Chip) (ch : Nat) : Bool :=
  decide (188 ≤ ch) && c.policyHold ch && !(decide (190 ≤ ch) && (c.fget R.SEC_SEAL_MAP F.SEC_SEAL_MAP_PARK_BYPASS).testBit (ch - 188))
/-- R384: the keeper is engaged. -/
def Chip.keeper (c : Chip) : Bool := c.parked && (List.range 4).any fun k => c.keeperFed (188 + k)

/-- R384, R464: sealed channel ch as PARK and PATROL feed it: by the keeper as it runs, or by its bypass. -/
def Chip.parkSealed (c : Chip) (ch : Nat) : Chip :=
  if c.policyHold ch ∧ !c.keeperFed ch then
    ((c.goOff ch).setChState ch .off).bypassBegin ch
  else c

/-- R385, R245: a valve decays and goes OFF, or DISABLED with EN = 0; DISABLED and FAULT valves keep their state. -/
def Chip.parkValve (c : Chip) (v : Nat) : Chip :=
  match c.vState v with
  | .off | .disabled | .fault => c
  | _ =>
    let c := ((c.vLeave v .off).setVState v (if c.vEnabled v then .off else .disabled)).setValve v { c.valve v with sub := 0, again := false }
    ((c.vClearReq v).vOnDone v .cancelled).vOffDone v

/-- R385, R228: the valves of die n go off, and its high-side switches with them. -/
def Chip.parkValves (c : Chip) (n : Nat) : Chip := ((dieValves n).foldl Chip.parkValve (c.setVWaiting n [])).vgRefresh n

/-- R385: every sink goes off, a faulted one keeping its fault, and every engine ends as by STOP with END_MODE 0. -/
def Chip.parkLights (c : Chip) : Chip :=
  let c := (List.range 8).foldl (fun c e => ((c.fset (R.PE_CTRL e) F.PE_CTRL_END_MODE 0).engStop e).wr (R.PE_CTRL e) (c.rd (R.PE_CTRL e))) c
  (List.range 24).foldl (fun c s =>
    let c := c.setSink s { c.sink s with pend := none, act := { (c.sink s).act with en := false }, pulse := none, spill := none }
    match c.sinkRun s with
    | .off | .on | .vledWait => (c.setSinkState s .off).sinkFaultCode s 0
    | _ => c) c

/-- The registers of dies 6 and 7 that the supervisor keeps over their loss of power (R385). Assumption log 65 (DEDUCED). -/
def keepRegs (t : Tbl Word) : Tbl Word := t.filter fun x => 0x40400000 ≤ x.1 && x.1 < 0x40500000

/-- R385: the field die is unpowered: points start from their configuration again. Its status registers go. -/
def fieldStatus (a : Nat) : Bool :=
  a == R.FLD_STATUS || a == R.FLD_IN_STATE || a == R.FLD_SUP_STATUS ||
    (List.range 32).any fun p => a == R.FP_STATUS p || a == R.FP_MEAS p || a == R.FP_CMD p || a == R.FP_CHG_CNT p || a == R.FP_FAULT_CNT p

/-- R385, R391: the field die's configuration is written back. Assumption log 65 (DEDUCED). -/
def Chip.fieldBack (c : Chip) : Chip :=
  let c := c.fldReset
  let back := c.modex.kept.filter fun x => 0x40400000 ≤ x.1 && x.1 < 0x40480000 && !fieldStatus x.1
  let c := back.foldl (fun c x => c.wr x.1 x.2) c
  (List.range 32).foldl (fun c p => if c.fpEn p then c else c.fset (R.FP_STATUS p) F.FP_STATUS_STATE 7) c

/-- R386, R391: the control die is powered down: of D0 the always-on and the retained registers stay: SYS_MODE, the reset
and wake counts, the pad holds, retention, the host port, the queue pool, the security island, the offender table and the false-wake count.
Assumption log 62 (DEDUCED), 65 (DEDUCED). -/
def keptD0 (a : Nat) : Bool :=
  a == R.SYS_MODE || a == R.SYS_RESET_CAUSE || a == R.SYS_RESET_CNT || a == R.SYS_WAKE_CNT || a == R.SYS_PAD_HOLD ||
  (decide (0x40050000 ≤ a) && decide (a < 0x40060000)) || (decide (0x40030000 ≤ a) && decide (a < 0x40040000)) ||
  (decide (0x40020000 ≤ a) && decide (a < 0x40030000)) || (decide (0x400C0000 ≤ a) && decide (a < 0x40100000)) ||
  a == R.NM_FALSE_WAKE_CNT || (decide (R.NM_OFF_ENTRY 0 ≤ a) && decide (a < R.NM_OFF_ENTRY 16)) || (decide (0x40100000 ≤ a) && decide (a < 0x80000000))

/-- The control die loses its logic state but for what keep names. -/
def Chip.d0Off (c : Chip) (keep : Nat → Bool) : Chip :=
  let far (a : Nat) : Bool := decide (0x40100000 ≤ a) && decide (a < 0x80000000)
  Chip.fpAllStale { c with
    regs := c.regs.filter fun x => keep x.1
    wo1 := c.wo1.filter fun x => keep x.1
    ctr := c.ctr.filter fun x => far x.1
    latch := [], stage := c.stage.filter fun x => far x.1
    links := c.links.map fun x => (x.1, ({ lost := x.2.lost, unacked := x.2.unacked } : Link))
    bus := [], evPend := [], cores := [], mbs := [], mbx := [], mbSel := [], cans := [], lins := []
    nm := {}, loads := [] }

/-! ### Long commands at a parking entry (R348) -/

/-- R348: every command in flight but those p keeps completes CANCELLED. -/
def Chip.cancelLong (c : Chip) (p : Cmd → Bool) : Chip :=
  let c := c.roundCancel
  let g := c.grain
  let g := { g with attWait := [], exp := none, job := match g.job with | some (.attest ..) => none | j => j }
  let c := (c.setGrain g).setAcc { c.acc with enrol := none, pend := none, pend2 := none, round := none }
  c.finish (fun k => !p k) .cancelled []

/-! ### Entering PARK, PATROL and STORAGE (R385, R387, R397, R398) -/

/-- A power die loses its power: its registers and all it holds (R161, R383). -/
def Chip.dieOff (c : Chip) (n : Nat) : Chip :=
  let lo := 48 * n
  let c := c.clearRegs (dieBase (n + 2)) (dieEnd (n + 2))
  { c with chans := c.chans.clear lo (lo + 48), dies := c.dies.clear n (n + 1), valves := c.valves.clear (4 * n) (4 * n + 4)
           valveWait := c.valveWait.clear n (n + 1), vboost := c.vboost.clear n (n + 1), hsInput := c.hsInput.clear (2 * n) (2 * n + 2)
           flashMark := c.flashMark.clear (4 * n) (4 * n + 4), flashOut := c.flashOut.clear (4 * n) (4 * n + 4)
           flashLen := c.flashLen.clear (4 * n) (4 * n + 4)
           sealx := if n = 3 then [] else c.sealx, entBegun := if n = 3 then [] else c.entBegun
           entDone := if n = 3 then [] else c.entDone, entEnd := if n = 3 then [] else c.entEnd }

/-- R133, R160: after a die-local reset every wire level starts at 0.5. -/
def Chip.warmWires (c : Chip) (n : Nat) : Chip :=
  (dieChans n).foldl (fun c ch => (c.setChan ch { c.chan ch with level := 1 / 2 }).wr (R.CH_WIRE_LEVEL ch) 0x4000) c

/-- R387: entry into a parking mode is committed and runs to its end; keep names the command that asked for it. Whether the
32.768 kHz and RADIO crystals run is left as it is. Assumption log 65 (DEDUCED), 84 (DESIGN CHOICE). -/
def Chip.parkEntry (c : Chip) (target : Nat) (keep : Cmd → Bool) : Chip :=
  let c := c.cancelLong keep
  let c := (c.wr R.SEN_WAKE_SRC 0).wr R.SEN_WAKE_FIRST 0
  let c := if target = 0 then c.log 0x90 (payload [(0, 1, 0xC)]) else c
  let c := c.wr R.RET_KEPT (if target = 0 then 0 else c.rd R.RET_SEL)
  let c := (List.range 188).foldl Chip.parkChan c
  let c := (List.range 4).foldl Chip.parkValves c
  let c := c.parkLights
  let c := c.setModex { c.modex with
    droop := 0, changed := 0, supLost := false, filling := 0, resetDue := none, entry := none
    parkedAt := (c.ctr64 R.SEN_RTC_LO).toNat, kept := keepRegs c.regs
    intA := c.interrupted 5, intB := c.interrupted 6 }
  let c := (c.setMode target).wr R.SYS_PAD_HOLD padGroups
  if target = 0 then
    let c := (List.range 4).foldl Chip.dieOff c
    let c := (c.clearRegs 0x40140000 0x401A0000).fldReset.fset R.SEN_RTC_STATUS F.SEN_RTC_STATUS_GAP 1
    let c := c.d0Off fun a => keptD0 a && !(decide (0x40020000 ≤ a) && decide (a < 0x40030000))
    { c with queues := [], cmds := [], heldComps := [], sinks := [], engines := [], ntcHist := [], subp := 0, ledFrame := 0
             hsp := { front := c.hsp.front } }
  else
    let c := (List.range 4).foldl (fun c k => c.parkSealed (188 + k)) c
    c.fldReset.d0Off keptD0

end Sys2Proof.Machine
end

