-- ==== Sys2Proof/Machine/Sram.lean ====
section
/-! DEFINITION. The 8 MiB of SRAM (R282): reading and writing bytes and little-endian words, zero-filling, banks that are
LOST (R399), and what the cores see of a store (R274 to R276). -/

namespace Sys2Proof.Machine
open Sys2Proof

/-- The byte at an address; an unlisted byte reads as 0. Assumption log 4 (DESIGN CHOICE). -/
def Memory.read (m : List Host.Cell) (a : Nat) : Byte := Tbl.get (fun _ => 0) m a
/-- Write one byte, keeping the canonical form. -/
def Memory.write (m : List Host.Cell) (a : Nat) (b : Byte) : List Host.Cell := Tbl.set (fun _ => 0) m a b
/-- Write bytes from an address on. -/
def Memory.writes : List Host.Cell → Nat → List Byte → List Host.Cell
  | m, _, [] => m
  | m, a, b :: l => Memory.writes (Memory.write m a b) (a + 1) l
/-- Zero-fill the addresses of [lo, hi). -/
def Memory.zero (m : List Host.Cell) (lo hi : Nat) : List Host.Cell := Tbl.clear lo hi m
/-- The canonical form: addresses strictly rising, no entry equal to 0. -/
def Memory.wf (m : List Host.Cell) : Bool := Tbl.wf (fun _ => (0 : Byte)) m
/-- The little-endian word at an address. -/
def Memory.word (m : List Host.Cell) (a : Nat) : Word :=
  Memory.read m (a + 3) ++ Memory.read m (a + 2) ++ Memory.read m (a + 1) ++ Memory.read m a
/-- n bytes from an address on. -/
def Memory.bytes (m : List Host.Cell) (a n : Nat) : List Byte := (List.range n).map fun k => Memory.read m (a + k)

def inSram (a : Nat) : Bool := decide (0x20000000 ≤ a) && decide (a < 0x20800000)

/-- R399: the bank of SRAM address a is LOST. -/
def Chip.bankLost (c : Chip) (a : Nat) : Bool := (c.rd R.RET_STATUS).toNat.testBit (bankOf a)

/-- A number put into a rising list without repeats. -/
def insertLine (x : Nat) : List Nat → List Nat
  | [] => [x]
  | y :: l => if x < y then x :: y :: l else if x = y then y :: l else y :: insertLine x l

/-- R274 to R276: a store by rq to the 32-byte line of an address: no instruction cache sees it, and a reservation that
another core holds on the line is gone. Assumption log 22 (DEDUCED). -/
def Chip.lineStored (rq : Req) (line : Nat) (c : Chip) (k : Fin 4) : Chip :=
  let x := c.core k
  c.setCore k { x with stale := insertLine line x.stale
                       reserve := if x.reserve = some line ∧ rq ≠ Req.core k then none else x.reserve }

/-- Assumption log 21 (DESIGN CHOICE). -/
def Chip.storeSeen (c : Chip) (rq : Req) (a n : Nat) : Chip :=
  if n = 0 then c
  else (List.range ((a + n - 1) / 32 - a / 32 + 1)).foldl (fun c j =>
    (List.finRange 4).foldl (Chip.lineStored rq (a / 32 + j)) c) c

/-- A store of bytes into SRAM that no LOST bank stops. -/
def State.put (s : State) (rq : Req) (a : Nat) (bs : List Byte) : State :=
  { s with sram := Memory.writes s.sram a bs, chip := Chip.storeSeen s.chip rq a bs.length }

/-- R60, R399: a store of bytes that lie in SRAM: dropped and recorded with syndrome BLOCK_OFF while the control die is down, and
with syndrome POISON where its bank is LOST. -/
def State.store (s : State) (rq : Req) (a : Nat) (bs : List Byte) : State :=
  if !s.chip.awake then s.onChip fun c => c.failWrite rq .blockOff a
  else if s.chip.bankLost a then s.onChip fun c => c.busError true rq .poison a else s.put rq a bs

/-- The four bytes of a word, lowest first. -/
def wordBytes (x : Word) : List Byte := leBytes 4 x.toNat

/-- Every bank of a mask that is not kept is zero-filled. Assumption log 4 (DESIGN CHOICE). -/
def State.zeroBanks (s : State) (p : Nat → Bool) : State :=
  (List.range 32).foldl (fun s k =>
    if p k then { s with sram := Memory.zero s.sram (sramBase + k * bankSize) (sramBase + (k + 1) * bankSize) } else s) s

end Sys2Proof.Machine
end

