-- ==== Sys2Proof/Machine/Bus.lean ====
section
/-! DEFINITION. Reads and writes of registers (R4 to R6, R31 to R61): what each register's kinds of bits make of a write, what
the written register then does, what a read returns and does. -/

namespace Sys2Proof.Machine
open Sys2Proof

/-! ### Derived values -/

/-- R302: the counter dump window is open, and the engine runs. -/
def Chip.cdeWindow (c : Chip) : Bool := c.mode == 5 || c.mode == 6 || c.modex.limpWin
def Chip.cdeRunning (c : Chip) : Bool := c.flag R.CDE_CTRL F.CDE_CTRL_EN && c.cdeWindow

/-- R448: whole days of RTC time since the last valid use. Assumption log 64 (DEDUCED). -/
def Chip.accDays (c : Chip) : Nat :=
  max (c.fget R.ACC_STATE F.ACC_STATE_DAYS) (min 0xFFFF (((c.ctr64 R.SEN_RTC_LO).toNat - c.acc.lastUse) / 32768 / 86400))

/-- The 64-bit counter that a register is a half of: the address of its low half, whether it is the high half, and whether
software may write it (R53, R54). -/
def ctrHalf (id : RegId) (a : Nat) : Option (Nat × Bool × Bool) :=
  match id with
  | .SYS_MTIME_LO => some (a, false, true)
  | .SYS_MTIME_HI => some (a - 4, true, true)
  | .CH_ENERGY_LO => some (a, false, true)
  | .CH_ENERGY_HI => some (a - 4, true, true)
  | .PWR_TIME_LO => some (a, false, false)
  | .PWR_TIME_HI => some (a - 4, true, false)
  | .SEN_RTC_LO => some (a, false, false)
  | .SEN_RTC_HI => some (a - 4, true, false)
  | _ => none

/-- A half of a 64-bit counter as it stands. -/
def Chip.liveHalf (c : Chip) (lo : Nat) (high : Bool) : Word :=
  if high then (c.ctr64 lo >>> 32).setWidth 32 else (c.ctr64 lo).setWidth 32

/-- R53: a read of the low half latches the high half for the requester. -/
def Chip.readLow (c : Chip) (rq : Req) (lo : Nat) : Word × Chip := (c.liveHalf lo false, c.setLatch lo rq (c.liveHalf lo true))

/-- R54: a write of the high half is staged; a write of the low half applies both. -/
def Chip.writeHigh (c : Chip) (lo : Nat) (x : Word) : Chip := c.setStaged lo x
def Chip.writeLow (c : Chip) (lo : Nat) (x : Word) : Chip := (c.setCtr64 lo (c.staged lo ++ x)).setStaged lo 0

/-! ### Which writes a register takes -/

def isCore (rq : Req) : Bool := rq.code < 4

/-- The channel of a power die's channel register. -/
def chOf (n l : Nat) : Nat := 48 * n + l

/-- R86, R151, R257: the register belongs to the sealed lock group and is closed. -/
def Chip.sealedReg (c : Chip) (id : RegId) (ix : List Nat) : Bool :=
  match id, ix with
  | .CH_OWNER, [n, l] => isSealed (chOf n l)
  | .CH_PROT_CFG, [n, l] => isSealed (chOf n l)
  | .CH_WIRE_CFG, [n, l] => isSealed (chOf n l)
  | .CH_LIMP_CFG, [n, l] => isSealed (chOf n l)
  | .CH_DISABLE, [n, l] => isSealed (chOf n l)
  | .SI_CFG, [i] => c.siBound i
  | .SI_THR, [i] => c.siBound i
  | _, _ => false

/-- R43: the lock group of a control-die register is closed. -/
def Chip.lockClosed (c : Chip) (a : Nat) : Bool :=
  (decide (a < 0x40010000) && c.flag R.SYS_LOCK F.SYS_LOCK_LOCK) ||
    (decide (0x40030000 ≤ a) && decide (a < 0x40040000) && c.flag R.HSP_LOCK F.HSP_LOCK_LOCK)

/-- R466: address a is a register of a sealed channel or of a bound input. -/
def Chip.sealTarget (c : Chip) (a : Nat) : Bool :=
  (decide (R.CH_CMD 188 / 0x100 * 0x100 ≤ a) && decide (a < R.CH_CMD 191 / 0x100 * 0x100 + 0x100)) ||
    (List.range 4).any fun k => c.siBound (60 + k) && (a == R.SI_CFG (60 + k) || a == R.SI_THR (60 + k) || a == R.SI_STATUS (60 + k)
      || a == R.SI_CHG_CNT (60 + k))

/-- R466: a refused write is logged where its target is sealed. -/
def Chip.sealRefused (c : Chip) (rq : Req) (a : Nat) (x : Word) : Chip := if c.sealTarget a then c.refusedWrite rq 1 a x else c

/-- The die's FOREIGN_WR_CNT (R34). -/
def foreignCnt (d : Nat) : Nat := dieHeader d 8

/-- R74: a write to the odd member's CH_PWM or CH_CFG is counted in its CH_NOTOWNER_CNT, whoever sends it. -/
def Chip.oddRefused (c : Chip) (id : RegId) (ix : List Nat) : Chip :=
  match id, ix with
  | .CH_PWM, [n, l] | .CH_CFG, [n, l] => if c.oddMember (chOf n l) then c.bump (R.CH_NOTOWNER_CNT (chOf n l)) else c
  | _, _ => c

/-- R366: the bits of reservation word w of controller n that the supervisor may set: not MB62 and MB63 while they are held, and eight
in all. Assumption log 60 (DEDUCED). -/
def Chip.rsvMask (c : Chip) (n w : Nat) (x : Word) : Word :=
  let other := ones 32 (c.rd (R.CAN_MB_RSV n (1 - w))).toNat
  let l := ((List.range 32).filter fun k => x.getLsbD k && !c.mbImmo n (32 * w + k) && !c.mbNm n (32 * w + k)).take (8 - other)
  .ofNat 32 (l.map (2 ^ ·)).sum

/-- R34: a remote die ignores a write that is not the supervisor's, and counts it. -/
def Chip.foreign (c : Chip) (rq : Req) (a : Nat) (x : Word) : Chip :=
  (c.fbump (foreignCnt (dieOf a)) F.SEN_FOREIGN_WR_CNT_COUNT).sealRefused rq a x

/-- The requesters a control-die register takes writes from, where its description names them. -/
def writerOk (rq : Req) (id : RegId) (ix : List Nat) (a : Nat) : Bool :=
  match id, ix with
  | .HSP_CFG, _ => rq == .sup || rq == .host
  | .HSP_HOST_BANKS, _ => rq == .sup || isCore rq
  | .SYS_PAD_RELEASE, _ => rq == .sup || isCore rq
  | .EVR_SWRAISE, _ => rq == .sup || rq == .host || isCore rq
  | .CAN_MB_RSV, _ => rq == .sup
  | _, _ => !(decide (0x40088000 ≤ a) && decide (a < 0x40089000)) || rq == .sup

/-! ### What a stored word becomes -/

/-- LENGTH and SLOT of a LIN schedule entry as they are stored (R376). -/
def schNorm (x : Word) : Word :=
  let l := schLen.get x
  let x := if l = 0 then schLen.put x 1 else if 8 < l then schLen.put x 8 else x
  (byteFld 1).some1 x

/-- The word a register holds after new is stored over old: reserved values keep the field, others read back clamped, each as
the register's description says. Assumption log 19 (DEDUCED). -/
def regNorm (id : RegId) (ix : List Nat) (old new : Word) : Word :=
  match id, ix with
  | .SYS_WDT_CFG, _ => F.SYS_WDT_CFG_TIMEOUT.some1 new
  | .SYS_BLK_POWER, _ => F.SYS_BLK_POWER_IDLE.some1 new
  | .CDE_CTRL, _ => F.CDE_CTRL_PERIOD.clamp 10 100000 new
  | .CDE_SIZE, _ => F.CDE_SIZE_RECORDS.some1 new
  | .CAN_NBT, _ => F.CAN_NBT_TSEG1.some1 new
  | .LIN_CTRL, _ => F.LIN_CTRL_ROLE.keep (· == 3) old new
  | .LIN_CFG, _ => F.LIN_CFG_BAUD.clamp 1000 20000 new
  | .LIN_SCHED_E, _ => schNorm new
  | .LIN_RESP_CFG, _ => F.LIN_RESP_CFG_LENGTH.clamp 1 8 new
  | .NM_CFG, _ => F.NM_CFG_FALSE_WAKE_TIMEOUT.clamp 100 0xFFFF (F.NM_CFG_OFFENDER_TIME.some1 new)
  | .NM_CYCLE, _ => F.NM_CYCLE_CYCLE.clamp 20 10000 new
  | .PAT_CTRL, _ => F.PAT_CTRL_INTERVAL.clamp 10 10000 new
  | .PAT_SNIFF, _ => F.PAT_SNIFF_SNIFF_INT.clamp 100 10000 (F.PAT_SNIFF_WINDOW.some1 new)
  | .SI_CFG, _ =>
    let x := F.SI_CFG_WAKE_EDGE.keep (· == 3) old new
    let x := F.SI_CFG_IWET.keep (4 < ·) old x
    let x := F.SI_CFG_PULSE.keep (4 < ·) old x
    F.SI_CFG_DEB.some1 (F.SI_CFG_SCAN.keep (5 < ·) old x)
  | .LS_CFG, _ => F.LS_CFG_LIMP_MODE.keep (· == 3) old (F.LS_CFG_SHORT_HR.clamp 20 200 new)
  | .LED_HR_CTRL, _ => F.LED_HR_CTRL_VMAX.clamp 120 600 (F.LED_HR_CTRL_TARGET.clamp 40 150 new)
  | .LED_HOLD_TIME, _ => F.LED_HOLD_TIME_HOLD.clamp 0 1000 new
  | .LF_CFG, _ => F.LF_CFG_SRC.keep (1 < ·) old new
  | .VB_CTRL, _ => F.VB_CTRL_VSET.clamp 360 600 new
  | .SEN_SWK_CTRL, _ => F.SEN_SWK_CTRL_DLC.clamp 0 8 new
  | .SEN_CANT_HLTH_CTRL, _ => F.SEN_CANT_HLTH_CTRL_VF.clamp 50 99 new
  | .WR_CFG, _ => F.WR_CFG_PULSE.clamp 1 100 (F.WR_CFG_BLANK.some1 new)
  | .CH_PROT_CFG, _ => F.CH_PROT_CFG_BACKOFF_BASE.some1 new
  | .CH_WIRE_CFG, _ => F.CH_WIRE_CFG_TAU.some1 (F.CH_WIRE_CFG_I_RATED.some1 new)
  | .CH_LIMP_CFG, _ => F.CH_LIMP_CFG_LIMP_MODE.keep (· == 3) old new
  | .CH_OL_CFG, _ =>
    let x := F.CH_OL_CFG_OFF_THR.keep (· == 3) old new
    let x := F.CH_OL_CFG_OFF_INTERVAL.some1 (F.CH_OL_CFG_ON_CONFIRM.some1 (F.CH_OL_CFG_OFF_CONFIRM.some1 x))
    F.CH_OL_CFG_STRETCH_N.clamp 32 4095 x
  | .PWR_HOLD_TIME, _ => F.PWR_HOLD_TIME_HOLD.clamp 0 1000 new
  | .PWR_STREAM_CTRL, _ => F.PWR_STREAM_CTRL_SRC.keep (47 < ·) old new
  | .PWR_TDR_CTRL, _ => F.PWR_TDR_CTRL_VF.clamp 50 99 new
  | .PWR_TDR_CFG, _ => F.PWR_TDR_CFG_AVG.clamp 1 64 (F.PWR_TDR_CFG_THR.clamp 1 80 new)
  | .PWR_FLASH_CFG, _ => F.PWR_FLASH_CFG_ON_T.some1 (F.PWR_FLASH_CFG_OFF_T.some1 new)
  | .IP_HDR, _ :: k :: _ =>
    if k < 7 then old
    else F.IP_HDR_ENV_FACTOR.clamp 100 255 (if 8 < F.IP_HDR_NSEG.get new then F.IP_HDR_NSEG.put new 8 else new)
  | .IP_SEG, _ :: k :: _ => if k < 7 then old else new
  | .VG_CFG, _ => F.VG_CFG_OVERLAP_MAX.some1 (F.VG_CFG_NR_MAX.some1 new)
  | .VLV_PEAK, _ => F.VLV_PEAK_PEAK_I.clamp 50 600 (F.VLV_PEAK_PEAK_T.clamp 1 1000 new)
  | .VLV_HOLD, _ => F.VLV_HOLD_HOLD_I.clamp 10 200 (F.VLV_HOLD_HOLD_FREQ.clamp 10 200 new)
  | .VLV_CFG, _ => F.VLV_CFG_LIMP_MODE.keep (fun v => v == 1 || v == 3) old new
  | .FLD_HOLD_TIME, _ => F.FLD_HOLD_TIME_HOLD.clamp 0 1000 new
  | .FP_CFG, _ =>
    let x := F.FP_CFG_MODE.keep (· == 3) old new
    let x := F.FP_CFG_LIMP_MODE.keep (· == 3) old x
    F.FP_CFG_WB_TIME.some1 (F.FP_CFG_WB_THR.keep (· == 3) old x)
  | .ACC_CFG0, _ => F.ACC_CFG0_POLL_DAYS.some1 (F.ACC_CFG0_SE_LIMP.keep (fun v => v == 1 || v == 3) old new)
  | .ACC_CFG3, _ => F.ACC_CFG3_PERIOD.some1 new
  | .CSR_MHPMEVENT, _ =>
    let x := F.CSR_MHPMEVENT_MODE.keep (· == 3) old new
    if 0x19 < F.CSR_MHPMEVENT_EVENT.get x then F.CSR_MHPMEVENT_EVENT.put x 0 else x
  | .MSAMP_CTL, _ => F.MSAMP_CTL_BASE.some1 new
  | .MSAMP_SEED, _ => F.MSAMP_SEED_SEED.some1 new
  | .PWR_SEAL_ACK, _ => 0
  | _, _ => new

/-- R42: the bits of x that a register takes, closed ones apart. -/
def openMask (d : RegDesc) (locked closed : Bool) : Word :=
  .ofNat 32 (d.rw + (if locked then 0 else d.rwl) + (if closed then 0 else d.rws))

/-- R42, R49: the word after a write of x over old, and whether a closed field would have changed. -/
def mergeWord (d : RegDesc) (locked closed : Bool) (old x : Word) : Word × Bool :=
  let m := openMask d locked closed
  let shut : Word := .ofNat 32 ((if locked then d.rwl else 0) + (if closed then d.rws else 0))
  ((old &&& ~~~m) ||| (x &&& m), (old ^^^ x) &&& shut != 0)

/-! ### What a written register does -/

/-- R73, R75: pair bits change while both members are OFF or DISABLED; the others are refused and counted, or ignored. -/
def Chip.pairFixed (c : Chip) (n p : Nat) : Bool :=
  (n == 3 && 21 ≤ p) || c.isStartEnable (48 * n + 2 * p) || c.isStartEnable (48 * n + 2 * p + 1)
def Chip.pairFree (c : Chip) (ch : Nat) : Bool := c.chState ch == .disabled || (c.chState ch == .off && !c.pendingGrant ch)
def Chip.pairBit (n : Nat) (x : Word) (c : Chip) (p : Nat) : Chip :=
  let v := x.toNat.testBit p
  let e := 48 * n + 2 * p
  if c.pairFixed n p || v == c.flag (R.PWR_PAIR n) (bitFld p) then c
  else if c.pairFree e && c.pairFree (e + 1) then
    (c.fbit (R.PWR_PAIR n) (bitFld p) v).fbit (R.CH_STATUS e) F.CH_STATUS_PAIRED v
      |>.fbit (R.CH_STATUS (e + 1)) F.CH_STATUS_PAIRED v |>.fbit (R.CH_STATUS (e + 1)) F.CH_STATUS_PAIR_ODD v
  else c.bump (R.PWR_PAIR_REFUSED_CNT n)
def Chip.pairWrite (c : Chip) (n : Nat) (x : Word) : Chip := (List.range 24).foldl (Chip.pairBit n x) c

/-- R88: the shadows are reloaded from the active set. -/
def Chip.reloadShadows (c : Chip) (ch : Nat) : Chip :=
  c.wr (R.CH_CMD ch) (c.rd (R.CH_ACTIVE_CMD ch)) |>.wr (R.CH_PWM ch) (c.rd (R.CH_ACTIVE_PWM ch)) |>.wr (R.CH_CFG ch) (c.rd (R.CH_ACTIVE_CFG ch))

/-- R85, R87, R88: a write of CH_OWNER by the supervisor; one that names the present owner reloads the shadows as well.
Assumption log 86 (DESIGN CHOICE). -/
def Chip.ownerWrite (c : Chip) (ch v : Nat) : Chip :=
  if 6 < v then c
  else if c.isStartEnable ch then (if v = 6 then c.reloadShadows ch else c.bump (R.CH_NOTOWNER_CNT ch))
  else if v = 6 then c.bump (R.CH_NOTOWNER_CNT ch)
  else (c.fset (R.CH_OWNER ch) F.CH_OWNER_OWNER v).reloadShadows ch

/-- R87, R453, R454: channel new becomes the START_ENABLE channel in place of old. -/
def Chip.renameStart (c : Chip) (old new : Nat) : Chip :=
  let c := c.fset (R.CH_STATUS old) F.CH_STATUS_START_ENABLE 0 |>.fset (R.CH_OWNER old) F.CH_OWNER_OWNER 4 |>.reloadShadows old
  c.fset (R.CH_STATUS new) F.CH_STATUS_START_ENABLE 1 |>.fset (R.CH_OWNER new) F.CH_OWNER_OWNER 6 |>.reloadShadows new

/-- R453: SE_LIMP sets the START_ENABLE channel's LIMP_MODE. -/
def Chip.accCfg0 (c : Chip) (old : Word) : Chip :=
  let was := F.ACC_CFG0_SE_CH.get old
  let now := c.seCh
  let c := if was = now then c else if now < 188 ∧ !c.paired now then c.renameStart was now else c.fset R.ACC_CFG0 F.ACC_CFG0_SE_CH was
  c.fset (R.CH_LIMP_CFG c.seCh) F.CH_LIMP_CFG_LIMP_MODE (c.fget R.ACC_CFG0 F.ACC_CFG0_SE_LIMP)

/-- R116: a write of IS_CTRL.ENABLE = 0 grants every waiting request; R112: a write of DEFER_MAX grants at the cap those that
have waited as long. -/
def Chip.isCtrl (c : Chip) (n : Nat) : Chip :=
  let rs := byPrio (c.die n).reqs
  if !c.flag (R.IS_CTRL n) F.IS_CTRL_ENABLE then Chip.forReqs Chip.grantReq rs c
  else Chip.forReqs Chip.capGrant (rs.filter fun r => r.since + 100 * c.fget (R.IS_CTRL n) F.IS_CTRL_DEFER_MAX ≤ c.pwrTime n) c

/-- R423, R425: a write of NM_CTRL: the module's own node is entered anew. -/
def Chip.nmCtrl (c : Chip) (old : Word) : Chip :=
  let b := F.NM_CTRL_NODE.get old
  let c := if F.NM_CTRL_EN.get old = 1 ∧ (b ≠ c.ownNode ∨ !c.flag R.NM_CTRL F.NM_CTRL_EN) then
    (c.setNodeBit R.NM_PRESENT_MAP b false).setNodeBit R.NM_AWAKE_MAP b false else c
  c.nmRefresh.nmFirst

/-- R222: EN = 0 ends a flasher's phase. -/
def Chip.flashCfg (c : Chip) (n k : Nat) : Chip :=
  if c.flashEn n k then c else c.fset (R.PWR_FLASH_STATUS n k) F.PWR_FLASH_STATUS_PHASE 0

/-- The bits set in a mask, below n. -/
def maskBits (n m : Nat) : List Nat := (List.range n).filter m.testBit

/-- What a register does once it holds the written word: ix its indices, old the word before, x the data written. -/
def Chip.wrote (c : Chip) (rq : Req) (id : RegId) (ix : List Nat) (old x : Word) : Chip :=
  match id, ix with
  | .SYS_SWRESET, _ =>
    if F.SYS_SWRESET_KEY.get x = 0x5A5A ∧ F.SYS_SWRESET_GO.get x = 1 then c.setModex { c.modex with resetDue := some 0x11 } else c
  | .SYS_WDT_KICK, _ => if F.SYS_WDT_KICK_KICK.get x = 1 then c.setModex { c.modex with wdtHalf := false } else c
  | .SYS_PAD_RELEASE, _ => c.padRelease x
  | .SYS_LINK_CTRL, [d] => if F.SYS_LINK_CTRL_RETRAIN.get x = 1 ∧ rq = .sup ∧ c.linkUp d then c.linkDown d else c
  | .EVR_SWRAISE, _ => (maskBits 16 x.toNat).foldl (fun c j => c.raise (240 + j)) c
  | .RET_ACK, _ => c.retAck x
  | .CAN_MODE, [n] => (c.canMode n old x).nmFirst
  | .CAN_NBT, [n] => c.canTimingDone n
  | .CAN_DBT, [n] => c.canTimingDone n
  | .CAN_TDC, [n] => c.canTimingDone n
  | .CAN_TXREQ, [n, w] => c.txReqWrite n w x
  | .CAN_TXCANCEL, [n, w] => c.txCancelWrite n w x
  | .LIN_CTRL, [n] => c.linCtrl n old x
  | .LIN_SCHED_START, [n] => c.setLin n { c.lin n with restart := true }
  | .NM_CTRL, _ => c.nmCtrl old
  | .NM_LOCAL, _ => c.nmLocal old
  | .NM_OFF_CLEAR, _ => if F.NM_OFF_CLEAR_CLEAR.get x = 1 then c.offClear else c
  | .SI_THR, [i] => c.siRestart i
  | .LS_CTRL, [s] => c.sinkCtrl s x
  | .LED_HR_CTRL, _ => c.hrCtrl old x
  | .LED_COMMIT, _ => if F.LED_COMMIT_GO.get x = 1 then c.ledCommit else c
  | .LF_CFG, [g] => c.groupCfg g old (c.rd (R.LF_CFG g))
  | .PE_CTRL, [e] => c.engCtrl e x
  | .SEN_CANT_HLTH_CTRL, [n] => c.cantCtrl n x
  | .CH_DISABLE, [n, l] =>
    if F.CH_DISABLE_DIS.get x = 1 then c.disable (chOf n l) (F.CH_DISABLE_FORCE.get x == 1) else c.enable (chOf n l)
  | .PWR_COMMIT, [n] => if F.PWR_COMMIT_GO.get x = 1 then c.commitGo n else c
  | .PWR_STREAM_CTRL, [n] => c.streamCtrl n
  | .PWR_TDR_CTRL, [n] => c.tdrCtrl n x
  | .PWR_XC_CTRL, [n] => if F.PWR_XC_CTRL_GO.get x = 1 then c.xcGo n else c
  | .PWR_FLASH_CFG, [n, k] => c.flashCfg n k
  | .PWR_SEAL_ACK, _ => c.freeEntries x.toNat
  | .IS_CTRL, [n] => c.isCtrl n
  | .IS_BUDGET, [n] => c.reexamine n
  | .VLV_CFG, [n, j, k] => c.vCfg (4 * n + 2 * j + k)
  | .VLV_CMD, [n, j, k] => c.vCmd (4 * n + 2 * j + k) x
  | .VB_CTRL, _ => c.vbStatus
  | .FP_CMD, [p] => (c.fpCmd p x).fldPush c
  | .FLD_SUP_CFG, _ => c.fldMask.fldPush c
  | .ACC_CFG0, _ => c.accCfg0 old
  | _, _ => c

/-- A write of the kinds of R42 to the register d at address a. -/
def Chip.plainWrite (c : Chip) (rq : Req) (d : RegDesc) (ix : List Nat) (a : Nat) (x : Word) : Chip :=
  let old := c.rd a
  let closed := c.sealedReg d.id ix
  let (new, bad) := mergeWord d (c.lockClosed a) closed old x
  let c := c.wr a (regNorm d.id ix old new)
  let c := if bad then (if closed then (c.lockViolation a).refusedWrite rq 1 a x else c.lockViolation a) else c
  if closed then c else c.wrote rq d.id ix old x

/-- R42, R44, R49: a write of a WO1 register. -/
def Chip.onceWrite (c : Chip) (a : Nat) (m x : Word) : Chip :=
  if Tbl.get (fun _ => false) c.wo1 a then c.lockViolation a
  else { c.wr a (x &&& m) with wo1 := Tbl.set (fun _ => false) c.wo1 a true }

/-- R278: one byte of pmpcfg after a write: a locked entry keeps its value, and NA4 cannot be selected (granularity 32). -/
def pmpByte (old x : Nat) : Nat :=
  if 128 ≤ old then old else if x / 8 % 4 = 2 then x % 8 + old / 8 % 4 * 8 + x / 128 * 128 else x % 32 + x / 128 * 128

/-- A write of x by rq to the register at address a, where it lands. Assumption log 26 (DEDUCED). -/
def Chip.regWrite (c : Chip) (rq : Req) (a : Nat) (x : Word) : Chip :=
  let far := dieOf a ≠ 0
  match findReg a with
  | none => if far ∧ rq ≠ .sup then c.foreign rq a x else c
  | some (d, ix) =>
    if far ∧ rq ≠ .sup ∧ d.id ≠ .CH_CMD then (c.oddRefused d.id ix).foreign rq a x
    else if 0x400C0000 ≤ a ∧ a < 0x400D0000 ∧ rq ≠ .sup then (c.lockViolation a).refusedWrite rq 2 a x
    else if d.id ≠ .Q_CFG ∧ !writerOk rq d.id ix a then c
    else if d.wo1 ≠ 0 then c.onceWrite a (.ofNat 32 d.wo1) x
    else match d.id, ix with
    | .CH_CMD, [n, l] =>
      let c' := c.writeCmd rq.code (chOf n l) x
      if c.ownerOf (chOf n l) = rq.code then c' else c'.sealRefused rq a x
    | .CH_PWM, [n, l] => if c.oddMember (chOf n l) then c.oddRefused d.id ix else c.plainWrite rq d ix a x
    | .CH_CFG, [n, l] => if c.oddMember (chOf n l) then c.oddRefused d.id ix else c.plainWrite rq d ix a x
    | .CH_OWNER, [n, l] =>
      if isSealed (chOf n l) then c.plainWrite rq d ix a x else c.ownerWrite (chOf n l) (F.CH_OWNER_OWNER.get x)
    | .CH_DISABLE, [n, l] => if c.inHold (chOf n l) ∧ ¬ isSealed (chOf n l) then c.wr a (mergeWord d false false (c.rd a) x).1 else c.plainWrite rq d ix a x
    | .Q_CFG, [q] => c.qCfgWrite rq q x
    | .Q_PUSH, [q] => c.pushWrite rq q x false
    | .Q_PUSH_EOP, [q] => c.pushWrite rq q x true
    | .Q_PROD_CTRL, [q] => c.prodCtrl rq q x
    | .CAN_MB_SEL, [n] => c.setMbSel n rq (F.CAN_MB_SEL_MB.get x)
    | .CAN_MB_W, [n, w] => c.mbWrite rq n w x
    | .CAN_NBT, [n] => if c.canTimingLocked n then c.lockViolation a else c.plainWrite rq d ix a x
    | .CAN_DBT, [n] => if c.canTimingLocked n then c.lockViolation a else c.plainWrite rq d ix a x
    | .CAN_TDC, [n] => if c.canTimingLocked n then c.lockViolation a else c.plainWrite rq d ix a x
    | .CAN_MB_RSV, [n, w] => if c.canEn n then c else c.plainWrite rq d ix a (c.rsvMask n w x)
    | .CDE_WRPTR, _ => if c.cdeRunning then c.lockCount a else c.plainWrite rq d ix a x
    | .EVR_ROUTE, [_] =>
      let new := (mergeWord d false false (c.rd a) x).1
      c.wr a (if rq = .sup then new else (bitFld 4).put new ((bitFld 4).get (c.rd a)))
    | .PE_STEP, [e, _] => if c.fget (R.PE_STATUS e) F.PE_STATUS_STATUS = 1 then c.lockCount a else c.plainWrite rq d ix a x
    | .SI_CFG, [i] =>
      if c.siBound i then c.plainWrite rq d ix a x
      else c.siCfg i (regNorm d.id ix (c.rd a) (mergeWord d false false (c.rd a) x).1)
    | .FP_CFG, [p] => (c.fpCfg p (c.rd a) (regNorm d.id ix (c.rd a) (mergeWord d false false (c.rd a) x).1)).fldPush c
    | .PWR_PAIR, [n] => c.pairWrite n x
    | .VG_CFG, [n, j] =>
      let new := regNorm d.id ix (c.rd a) (mergeWord d false false (c.rd a) x).1
      (c.wr a (F.VG_CFG_PAR.put new (F.VG_CFG_PAR.get (c.rd a)))).vgPar (2 * n + j) x
    | .CSR_PMPCFG, _ =>
      c.wr a (wordOf ((List.range 4).map fun k => (8 * k, pmpByte ((byteFld k).get (c.rd a)) ((byteFld k).get x))))
    | _, _ =>
      match ctrHalf d.id a with
      | some (lo, high, true) => if high then c.writeHigh lo x else c.writeLow lo x
      | some (_, _, false) => c
      | none => c.plainWrite rq d ix a x

/-! ### Reading -/

/-- The value a direct read by rq would return now, its side effects left out (R37). -/
def Chip.peek (c : Chip) (rq : Req) (a : Nat) : Word :=
  if 0x40038000 ≤ a ∧ a < 0x40039000 then fpWord c.hsp.front (a - 0x40038000)
  else match findReg a with
  | none => 0
  | some (d, ix) =>
    match d.id, ix with
    | .EVR_PEND, [t, w] => ((c.pendAt t) >>> (32 * w)).setWidth 32
    | .EVR_CLAIM, [t] => c.claimWord t
    | .SEC_JOB, _ => if rq = .sup then c.rd a else 0
    | .Q_COUNT, [q] => wordOf [(16, (c.queue q).words), (0, c.qFree q)]
    | .Q_PKTS, [q] => wordOf [(16, (c.queue q).head), (0, (c.queue q).pkts)]
    | .Q_PUSH, [q] => .ofNat 32 (c.qFree q)
    | .Q_PUSH_EOP, [q] => .ofNat 32 (c.qFree q)
    | .Q_POP, [q] => if c.isConsumer rq q then (c.qPop q).1 else 0
    | .Q_STATUS, [q] => wordOf [(2, (c.queue q).mark.isSome.toNat), (1, (c.queue q).inPacket.toNat), (0, (c.queue q).bank)]
    | .SYS_DRAIN, _ => wordOf [(31, 1), (0, (c.busOf rq).failed)]
    | .SYS_LOAD_CMD, _ => F.SYS_LOAD_CMD_IN_FLIGHT.put (c.rd a) (c.cmds.length + c.heldComps.length)
    | .CDE_STATUS, _ => wordOf [(1, c.cdeWindow.toNat), (0, c.cdeRunning.toNat)]
    | .CAN_MB_SEL, [n] => .ofNat 32 (c.mbSelOf n rq)
    | .CAN_MB_W, [n, w] => c.mbWord n (c.mbSelOf n rq) w
    | .NM_STATUS, _ => c.nmTime.rd a
    | .NM_OFF_DURATION, _ => c.nmTime.rd a
    | .ACC_STATE, _ => F.ACC_STATE_DAYS.put (c.rd a) c.accDays
    | .CH_STATUS, [n, l] => c.statusOf (chOf n l)
    | .IS_STATUS, [n] => F.IS_STATUS_PENDING.put (F.IS_STATUS_BOOKED.put (c.rd a) (fitted F.IS_STATUS_BOOKED.max ((c.booked n + 99) / 100 : Nat)))
        (min F.IS_STATUS_PENDING.max (c.die n).reqs.length)
    | .PWR_PROT_STATUS, [n] =>
      F.PWR_PROT_STATUS_HOLDING.put (F.PWR_PROT_STATUS_LIMP.put (c.rd a) ((dieChans n).any fun ch => c.chState ch == .limp).toNat)
        ((dieChans n).any fun ch => c.chState ch == .held).toNat
    | id, _ =>
      match ctrHalf id a with
      | some (lo, high, _) => c.liveHalf lo high
      | none => c.rd a

/-- A direct read by rq of the register at address a, and what it does. -/
def Chip.regRead (c : Chip) (rq : Req) (a : Nat) : Word × Chip :=
  let v := c.peek rq a
  if 0x40038000 ≤ a ∧ a < 0x40039000 then (v, c)
  else match findReg a with
  | none => (v, c)
  | some (d, ix) =>
    match d.id, ix with
    | .EVR_CLAIM, [t] =>
      match c.bestClaim t 256 with
      | some k => (v, c.setPendAt t (c.pendAt t &&& ~~~(1#256 <<< k)))
      | none => (v, c)
    | .Q_POP, [q] => c.popRead rq q
    | .CAN_MB_W, [n, w] => c.mbRead rq n w
    | .SI_STATE0, _ => (v, c.siState0 rq)
    | .SI_STATE1, _ => (c.latchOf R.SI_STATE0 rq, c)
    | .SYS_DRAIN, _ => (v, c.setBus rq { c.busOf rq with failed := 0 })
    | id, _ =>
      match ctrHalf id a with
      | some (lo, false, _) => c.readLow rq lo
      | some (lo, true, _) => (c.latchOf lo rq, c)
      | none => (v, c)

/-! ### Accesses -/

/-- R31: the regions of the address map. -/
inductive Region where
  | rom | nvm | sram | periph | alias_ | hole
  deriving DecidableEq, Repr

/-- R31: addresses 0x4007_xxxx, 0x400B_xxxx, 0x400D_0000 to 0x400F_FFFF and 0x4050_0000 to 0x407F_FFFF belong to no block. -/
def inBlock (a : Nat) : Bool :=
  decide (0x40000000 ≤ a) && decide (a < 0x40500000) && !(decide (0x40070000 ≤ a) && decide (a < 0x40080000))
    && !(decide (0x40089000 ≤ a) && decide (a < 0x40090000)) && !(decide (0x40091000 ≤ a) && decide (a < 0x400A0000))
    && !(decide (0x400B0000 ≤ a) && decide (a < 0x400C0000)) && !(decide (0x400D0000 ≤ a) && decide (a < 0x40100000))

def region (a : Nat) : Region :=
  if a < 0x20000 then .rom else if 0x10000000 ≤ a ∧ a < 0x11000000 then .nvm else if inSram a then .sram
  else if 0x60000000 ≤ a ∧ a < 0x70000000 then .alias_ else if inBlock a then .periph else .hole

/-- R35: the target of an alias address: a word's address and a bit of it. -/
def aliasOf (a : Nat) : Nat × Nat := (0x40000000 + (a - 0x60000000) / 128 * 4, (a - 0x60000000) / 4 % 32)

/-- R386: the gateable block an address lies in. -/
def blockOf (a : Nat) : Option Nat :=
  if 0x40010000 ≤ a ∧ a < 0x40020000 then some 0 else if 0x40020000 ≤ a ∧ a < 0x40030000 then some 1
  else if 0x40040000 ≤ a ∧ a < 0x40050000 then some 2 else if 0x40060000 ≤ a ∧ a < 0x40070000 then some 3
  else if 0x400C0000 ≤ a ∧ a < 0x400D0000 then some 4 else if 0x40080000 ≤ a ∧ a < 0x40089000 then some (5 + (a - 0x40080000) / 0x1000)
  else if 0x40090000 ≤ a ∧ a < 0x40091000 then some (14 + (a - 0x40090000) / 0x400)
  else if 0x400A0000 ≤ a ∧ a < 0x400B0000 then some 18 else none

/-- R59: the access restarts a gated block's clock. Assumption log 25 (DEDUCED). -/
def Chip.touch (c : Chip) (a : Nat) : Chip := match blockOf a with | some b => c.ungate b | none => c

/-- R60, R320, R383, R386: the access finds its block powered off: while the control die is down, every block but the host port's
always-on region, the remote dies behind the links' ends on the control die among them. Assumption log 80 (DEDUCED). -/
def Chip.blockOff (c : Chip) (a : Nat) : Bool :=
  !c.awake && a != R.HSP_CFG && !(decide (0x40038000 ≤ a) && decide (a < 0x40039000))

/-- ORDER_TOKEN of die d (R67). -/
def tokenAddr (d : Nat) : Nat := dieHeader d 4

/-- R35: an address lies in the alias region; and the word that an access to an address reaches. -/
def isAlias (a : Nat) : Bool := decide (0x60000000 ≤ a) && decide (a < 0x70000000)
def target (a : Nat) : Nat := if isAlias a then (aliasOf a).1 else a

/-- The bits of a register that a write can change or pulse. -/
def RegDesc.writes (d : RegDesc) : Nat := d.rw ||| d.rwl ||| d.rws ||| d.w1p ||| d.wo1

/-- R38 to R40: a write of one bit of the word at t, where it lands: a bit that takes no write is left alone, and the other bits
are those the word holds at this moment; of a 64-bit counter the other half stays too. Assumption log 80 (DEDUCED). -/
def Chip.bitWrite (c : Chip) (rq : Req) (t bit : Nat) (x : Word) : Chip :=
  let one (y : Word) : Word := (bitFld bit).put y (x.toNat % 2)
  match findReg t with
  | none => if dieOf t ≠ 0 ∧ rq ≠ .sup then c.foreign rq t x else c
  | some (d, ix) =>
    match d.id, ix with
    | .Q_PUSH, [q] => c.qRefuse q
    | .Q_PUSH_EOP, [q] => c.qRefuse q
    | .CH_CMD, [n, l] => if c.ownerOf (chOf n l) = rq.code ∧ ¬ d.writes.testBit bit then c else c.regWrite rq t (one (c.rd t))
    | id, _ =>
      if dieOf t ≠ 0 ∧ rq ≠ .sup then c.foreign rq t x
      else if ¬ d.writes.testBit bit then c
      else match ctrHalf id t with
      | some (lo, high, true) =>
        if high then c.setStaged lo (one (c.staged lo)) else c.setCtr64 lo (c.liveHalf lo true ++ one (c.liveHalf lo false))
      | some (_, _, false) => c
      | none => c.regWrite rq t (one (c.peek rq t))

/-- A write of x by rq to an address, of an alias word or not, where it lands. -/
def Chip.applyWrite (c : Chip) (rq : Req) (a : Nat) (x : Word) : Chip :=
  if isAlias a then c.bitWrite rq (aliasOf a).1 (aliasOf a).2 x else c.regWrite rq a x

/-- A read by rq of an address, of an alias word (R37: without any side effect) or not, where it arrives. -/
def Chip.farRead (c : Chip) (rq : Req) (a : Nat) : Word × Chip :=
  if isAlias a then (.ofNat 32 ((c.peek rq (aliasOf a).1).toNat.testBit (aliasOf a).2).toNat, c) else c.regRead rq a

/-! ### The frames of a link (R22 to R27) -/

/-- R67: a write lands on its remote die: it counts there, whether the die applies it or ignores it. -/
def Chip.landed (c : Chip) (rq : Req) (a : Nat) (x : Word) : Chip :=
  let d := dieOf (target a)
  let c := (c.bumpWrap (tokenAddr d)).setLink d { c.link d with landed := (c.link d).landed + 1 }
  c.applyWrite rq a x

/-- Mark the frame of a sequence number as landed. -/
def Chip.markLanded (c : Chip) (d seq : Nat) : Chip :=
  c.setLink d { c.link d with sent := (c.link d).sent.map fun f => if f.seq = seq then { f with landed := true } else f }

/-- R22: a read request that has arrived leaves its answer on the remote die. -/
def Chip.readReady (c : Chip) (d : Nat) (f : Sent) : Chip :=
  let (v, c) := (c.markLanded d f.seq).farRead f.rq f.addr
  c.setLink d { c.link d with answers := (c.link d).answers ++ [(f.seq, v)] }

/-- R24: the remote die is in step: it has accepted every frame that D0 sent. -/
def Chip.inStep (c : Chip) (d : Nat) : Bool := (c.link d).rxSeq == (c.link d).txSeq && (c.link d).nack.isNone

/-- R30: n more retries on a link. -/
def Chip.retried (c : Chip) (d n : Nat) : Chip :=
  let l := c.link d
  let c := (c.bump (R.SYS_LINK_RETRY_CNT d) n).setLink d { l with retries := l.retries + n, nack := none }
  if 64 ≤ l.retries + n ∧ !c.flag (R.SYS_LINK_STATUS d) F.SYS_LINK_STATUS_DEGRADED then
    let c := c.fset (R.SYS_LINK_STATUS d) F.SYS_LINK_STATUS_DEGRADED 1
    if c.flag (R.SYS_LINK_CTRL d) F.SYS_LINK_CTRL_EV_DEGRADED_EN then c.raise 9 else c
  else c

/-- Frames up to the one of a sequence number, that one left out, and the others. -/
def fromSeq (seq : Nat) (l : List Sent) : List Sent × List Sent := (l.takeWhile fun f => f.seq ≠ seq, l.dropWhile fun f => f.seq ≠ seq)

/-- R24, R25: the frame of a sequence number and every later one are sent k times more; where that frame has had its eighth
attempt, the transfer fails and the link goes down. Assumption log 16 (DEDUCED). -/
def Chip.resend (c : Chip) (d seq k : Nat) : Chip :=
  let (a, b) := fromSeq seq (c.link d).sent
  match b with
  | [] => c.setLink d { c.link d with nack := none }
  | f :: _ =>
    if 8 < f.tries + k then c.linkDown d
    else
      let c := c.setLink d { c.link d with sent := a ++ b.map fun g => { g with tries := g.tries + k } }
      c.retried d (k * b.length)

/-- R25: the frame at the head fails its eighth attempt: what is left of its attempts has been made, and the link goes down. -/
def Chip.exhaust (c : Chip) (d : Nat) : Chip :=
  match (c.link d).sent with
  | [] => c
  | f :: _ => ((c.resend d f.seq (8 - f.tries))).linkDown d

/-- A frame that is still on its way arrives in its turn. -/
def Chip.arriveNow (d : Nat) (c : Chip) (f : Sent) : Chip :=
  if f.landed then c
  else
    let c := c.setLink d { c.link d with rxSeq := seqNext f.seq, nack := none }
    if f.write then (c.markLanded d f.seq).landed f.rq f.addr f.data else c.readReady d f

/-- R24: before a frame that is sent later, the frames still on their way arrive, those the remote die has refused being sent
again. -/
def Chip.settle (c : Chip) (d : Nat) : Chip :=
  if c.inStep d then c
  else
    let c := match (c.link d).nack with | some seq => c.resend d seq 1 | none => c
    (c.link d).sent.foldl (Chip.arriveNow d) c

/-- R22, R24: a posted write goes out on its link; when the remote die is in step it lands, and stays unacknowledged. -/
def Chip.post (c : Chip) (rq : Req) (a : Nat) (x : Word) : Chip :=
  let d := dieOf (target a)
  let l := c.link d
  let f : Sent := { seq := l.txSeq, rq := rq, write := true, addr := a, data := x, landed := false }
  let c' := c.setLink d { l with txSeq := seqNext l.txSeq, sent := l.sent ++ [f], total := l.total + 1 }
  if c.inStep d then
    ((c'.setLink d { c'.link d with rxSeq := seqNext l.rxSeq }).markLanded d l.txSeq).landed rq a x
  else c'

/-! ### Holds of a requester (R57, R58, R66, R67) -/

/-- R66: deferred reads of the host whose turn has come name SYS_DRAIN (R68, R314). -/
def Chip.hostDrains (c : Chip) : Bool :=
  match c.hsp.busy with
  | some d => d.turn && (List.range d.count).any fun k => (if d.fixed then d.addr else d.addr + 4 * k) == 0x800000 + (R.SYS_DRAIN - 0x40000000)
  | none => false

/-- R57, R58, R66, R67: a requester is held: an access of it waits, or a read of it has not been answered. Assumption log 80 (DEDUCED). -/
def Chip.stalled (c : Chip) (rq : Req) : Bool :=
  !(c.busOf rq).held.isEmpty || (c.busOf rq).drain || (c.busOf rq).order.isSome || (rq == .host && c.hostDrains) ||
    [1, 2, 3, 4, 5, 6, 7].any fun d => (c.link d).sent.any fun f => !f.write && f.rq == rq

/-- An access of a held requester waits for its turn. -/
def Chip.hold (c : Chip) (rq : Req) (h : Held) : Chip := c.setBus rq { c.busOf rq with held := (c.busOf rq).held ++ [h] }

/-- R27, R58, R60: a word write by rq to a peripheral address, or to an alias of one. A ninth write waits. -/
def Chip.writeNow (c : Chip) (rq : Req) (a : Nat) (x : Word) : Chip :=
  let t := target a
  let d := dieOf t
  if c.blockOff t then c.failWrite rq .blockOff a
  else if d = 0 then (c.touch t).applyWrite rq a x
  else if !c.linkUp d then c.failWrite rq .linkFail a
  else if 8 ≤ c.outstanding rq then c.setBus rq { c.busOf rq with held := .write a x :: (c.busOf rq).held }
  else c.post rq a x

/-- R27, R57, R60: a word read by rq of a peripheral address, or of an alias of one: answered at once by a control-die block and by a
remote die whose link is up and in step; else the read request waits behind the link's unacknowledged frames, and holds its
requester. Assumption log 14 (DESIGN CHOICE). -/
def Chip.readNow (c : Chip) (rq : Req) (a : Nat) : Chip :=
  let t := target a
  let d := dieOf t
  if c.blockOff t then c.failRead rq .blockOff a
  else if d = 0 then
    let (v, c) := (c.touch t).farRead rq a
    c.answer rq a v
  else if !c.linkUp d then c.failRead rq .linkFail a
  else
    let l := c.link d
    if c.inStep d then
      let (v, c) := (c.setLink d { l with txSeq := seqNext l.txSeq, rxSeq := seqNext l.rxSeq }).farRead rq a
      c.answer rq a v
    else c.setLink d { l with txSeq := seqNext l.txSeq
                              sent := l.sent ++ [{ seq := l.txSeq, rq := rq, write := false, addr := a, data := 0, landed := false }] }

/-- R66: every posted write that the requester issued before its drain has resolved (later ones wait behind it). -/
def Chip.drained (c : Chip) (rq : Req) : Bool := c.outstanding rq == 0

/-- R66: the drain ends. -/
def Chip.drainEnd (c : Chip) (rq : Req) : Chip :=
  let (v, c) := (c.setBus rq { c.busOf rq with drain := false }).regRead rq R.SYS_DRAIN
  c.answer rq R.SYS_DRAIN v

/-- R66: a read of SYS_DRAIN that is not held. -/
def Chip.drainNow (c : Chip) (rq : Req) : Chip :=
  if c.blockOff R.SYS_DRAIN then c.failRead rq .blockOff R.SYS_DRAIN
  else if c.drained rq then c.drainEnd rq else c.setBus rq { c.busOf rq with drain := true }

/-- R67: a read of ORDER_TOKEN that is not held waits for the writes already sent on the die's link. -/
def Chip.orderNow (c : Chip) (rq : Req) (d : Nat) : Chip :=
  if c.blockOff (tokenAddr d) then c.failRead rq .blockOff (tokenAddr d)
  else if !c.linkUp d then c.failRead rq .linkFail (tokenAddr d)
  else c.setBus rq { c.busOf rq with order := some (d, (c.link d).total) }

/-- R310, R312, R313, R529: a packet of the host for queue q. -/
def Chip.packetNow (c : Chip) (rq : Req) (q : Nat) (ws : List Word) : Chip :=
  if c.blockOff (R.Q_PUSH q) then ws.foldl (fun c _ => c.failWrite rq .blockOff (R.Q_PUSH q)) c else (c.ungate 1).packetWrite rq q ws

/-- An access whose turn has come. -/
def Chip.issue (c : Chip) (rq : Req) : Held → Chip
  | .write a x => c.writeNow rq a x
  | .read a => c.readNow rq a
  | .drain => c.drainNow rq
  | .token d => c.orderNow rq d
  | .packet q ws => c.packetNow rq q ws
  | .reads => match c.hsp.busy with | some d => { c with hsp := { c.hsp with busy := some { d with turn := true } } } | none => c

/-- An access of a requester: it goes out, or waits while the requester is held. -/
def Chip.access (c : Chip) (rq : Req) (h : Held) : Chip := if c.stalled rq then c.hold rq h else c.issue rq h

def Chip.periphWrite (c : Chip) (rq : Req) (a : Nat) (x : Word) : Chip := c.access rq (.write a x)
def Chip.periphRead (c : Chip) (rq : Req) (a : Nat) : Chip := c.access rq (.read a)
def Chip.drainRead (c : Chip) (rq : Req) : Chip := c.access rq .drain
def Chip.orderRead (c : Chip) (rq : Req) (d : Nat) : Chip := if d = 0 then c else c.access rq (.token d)

/-- R57, R58: a hold of the requester has ended: the accesses that waited go out in their order, until one holds it again. -/
def Chip.issueHeld (rq : Req) : Nat → Chip → Chip
  | 0, c => c
  | n + 1, c =>
    match (c.busOf rq).held with
    | [] => c
    | h :: l =>
      let c' := c.setBus rq { c.busOf rq with held := [] }
      if c'.stalled rq then c
      else
        let c' := c'.issue rq h
        let c' := if l = [] then c' else c'.setBus rq { c'.busOf rq with held := (c'.busOf rq).held ++ l }
        Chip.issueHeld rq n c'

/-- As many turns as accesses wait. -/
def Chip.resume (c : Chip) (rq : Req) : Chip := Chip.issueHeld rq (c.busOf rq).held.length c
/-- Every requester whose hold an event may have ended goes on. -/
def Chip.resumeAll (c : Chip) : Chip := allReqs.foldl Chip.resume c

/-- R24, R352: a register write that the supervisor makes for a command, with requester code rq: the frames sent before it land
first, and it has been acknowledged when the command completes. A die whose link is down takes none. -/
def Chip.supWrite (c : Chip) (rq : Req) (a : Nat) (x : Word) : Chip :=
  let d := dieOf a
  if d = 0 then (c.touch a).regWrite rq a x
  else
    let c := if c.linkUp d then c.settle d else c
    if c.linkUp d then (c.setLink d { c.link d with total := (c.link d).total + 1 }).landed rq a x else c

/-- The supervisor's own writes, in order. -/
def Chip.supWrites (c : Chip) (l : List (Nat × Word)) : Chip := l.foldl (fun c x => c.supWrite .sup x.1 x.2) c

/-! ### Accesses of any width -/

def widthBytes : Width → Nat
  | .byte => 1 | .half => 2 | .word => 4

/-- R4, R276: an access to the peripheral region or its aliases that is no aligned word. -/
def badSize (w : Width) (a : Nat) : Bool := w != .word || a % 4 != 0

/-- R31: the peripheral region, the addresses outside every block included. -/
def inPeriph (a : Nat) : Bool := decide (0x40000000 ≤ a) && decide (a < 0x40800000)

/-- R276: a misaligned access that leaves its 32-byte line. -/
def leavesLine (w : Width) (a : Nat) : Bool := a % widthBytes w != 0 && a / 32 != (a + widthBytes w - 1) / 32

/-- A write of a width to an address of the map, as it leaves its requester (R4, R31, R32, R276, R399). A misaligned one to an
address of the peripheral region outside every block has syndrome SIZE. Assumption log 19 (DEDUCED), 80 (DEDUCED). -/
def State.busWrite (s : State) (rq : Req) (w : Width) (a : Nat) (x : Word) : State :=
  match region a with
  | .rom => s.onChip fun c => c.busError true rq .readOnly a
  | .nvm => s.onChip fun c => if isCore rq ∧ leavesLine w a then c.coreTrap rq 6 a else c.busError true rq .readOnly a
  | .sram =>
    if isCore rq ∧ leavesLine w a then s.onChip fun c => c.coreTrap rq 6 a
    else s.store rq a ((wordBytes x).take (widthBytes w))
  | .hole => s.onChip fun c => c.busError true rq (if inPeriph a && badSize w a then .size else .decode) a
  | .periph => s.onChip fun c => if badSize w a then c.busError true rq .size a else c.periphWrite rq a x
  | .alias_ => s.onChip fun c =>
    if badSize w a then c.busError true rq .size a
    else if inBlock (aliasOf a).1 then c.periphWrite rq a x else c.busError true rq .decode a

end Sys2Proof.Machine
end

