-- ==== Sys2Proof/Machine/Links.lean ====
section
/-! DEFINITION. Clocks, the Dowel links and their frames, and accesses of every requester to the address map (spec/01,
spec/02): the meanings of the commands of these two chapters. -/

namespace Sys2Proof.Machine
open Sys2Proof

/-! ### The CRC of a frame (R23) -/

/-- The n low bits of a value, the highest first. -/
def msbBits (n v : Nat) : List Bool := (List.range n).map fun k => v.testBit (n - 1 - k)
/-- CRC-16, polynomial 0x1021: one more bit. -/
def crcStep (r : Nat) (b : Bool) : Nat :=
  let s := r * 2 % 2 ^ 16
  if r.testBit 15 != b then s ^^^ 0x1021 else s
/-- R23: CRC-16 with initial value 0xFFFF over the bits of a frame. Assumption log 15 (DESIGN CHOICE). -/
def crc16 (bits : List Bool) : Nat := bits.foldl crcStep 0xFFFF
/-- The CRC of fields (width, value), in the order in which spec/01 lists them. Assumption log 15 (DESIGN CHOICE). -/
def frameCrc (l : List (Nat × Nat)) : Nat := crc16 (l.flatMap fun x => msbBits x.1 x.2)

/-- The number of the first frame of a link that D0 still waits for: that of its oldest unanswered read, else of its next frame.
Assumption log 15 (DESIGN CHOICE). -/
def Chip.wanted (c : Chip) (d : Nat) : Nat :=
  match (c.link d).sent.find? fun f => !f.write with | some f => f.seq | none => (c.link d).txSeq

/-- R23: a frame with a wrong CRC is discarded, counted and negatively acknowledged: by the remote die (far), or by D0; the
acknowledge names the first frame its sender still wants. Assumption log 15 (DESIGN CHOICE). -/
def Chip.badCrc (c : Chip) (d : Nat) (far : Bool) : Chip :=
  let l := c.link d
  let c := c.bump (R.SYS_LINK_CRCERR_CNT d)
  if far then (if l.nack = none then c.setLink d { l with nack := some l.rxSeq } else c)
  else if l.back = none then c.setLink d { l with back := some (c.wanted d) } else c

/-- A frame is taken by its receiver only on a link that is up, with its CRC right. -/
def Chip.taken (c : Chip) (d : Nat) (far ok : Bool) (f : Chip → Chip) : Chip :=
  if d = 0 ∨ !c.linkUp d then c else if ok then f c else c.badCrc d far

/-! ### Posted writes and reads on a link (R22, R24 to R28) -/

/-- R24: the remote die takes the frame that is next in order; any other is negatively acknowledged. -/
def Chip.inOrder (c : Chip) (d seq : Nat) (f : Chip → Chip) : Chip :=
  let l := c.link d
  if seq = l.rxSeq then f (c.setLink d { l with rxSeq := seqNext seq, nack := none })
  else if l.nack = none then c.setLink d { l with nack := some l.rxSeq } else c

/-- A frame that D0 sent and that has not reached the remote die yet. -/
def Chip.unlanded (c : Chip) (d : Nat) (p : Sent → Bool) : Bool := (c.link d).sent.any fun f => !f.landed && p f

/-- R24, R34: a posted write that D0 sent arrives at its die and lands; a frame of an alias write (R41) names the word it reaches.
Assumption log 80 (DEDUCED). -/
def Chip.writeArrives (c : Chip) (d seq : Nat) (rq : Req) (a : Nat) (x : Word) : Chip :=
  match (c.link d).sent.find? fun f => !f.landed && f.seq == seq && f.write && f.rq == rq && target f.addr == a && f.data == x with
  | some f => c.inOrder d seq fun c => (c.markLanded d seq).landed rq f.addr x
  | none => c

/-- R22: a read request arrives at its die, which has its answer ready. One that D0's fabric has not sent (a diagnosis of the link)
is taken as the link's next frame; of an address that is no aligned word of the die it reads 0. Assumption log 14 (DESIGN CHOICE),
80 (DEDUCED). -/
def Chip.readArrives (c : Chip) (d seq : Nat) (rq : Req) (a : Nat) : Chip :=
  let l := c.link d
  match l.sent.find? fun f => !f.landed && f.seq == seq && !f.write && f.rq == rq && target f.addr == a with
  | some f => c.inOrder d seq fun c => c.readReady d f
  | none =>
    if seq = l.txSeq then
      let f : Sent := { seq := seq, rq := rq, write := false, addr := a, data := 0, landed := false }
      let c := c.setLink d { l with txSeq := seqNext seq, sent := l.sent ++ [f] }
      c.inOrder d seq fun c =>
        if dieOf a = d ∧ a % 4 = 0 then c.readReady d f
        else
          let c := c.markLanded d seq
          c.setLink d { c.link d with answers := (c.link d).answers ++ [(seq, 0)] }
    else c

/-- The syndrome of a code of SYS_BUSFAULT. -/
def Syndrome.ofCode? : Nat → Option Syndrome
  | 1 => some .decode | 2 => some .size | 3 => some .readOnly | 4 => some .timeout | 5 => some .linkFail | 6 => some .blockOff
  | 7 => some .poison | 8 => some .ecc | _ => none

/-- R22, R24, R63: the answer to the oldest unanswered read of the link reaches D0 and ends it; a response to a later one is
discarded and negatively acknowledged. Assumption log 14 (DESIGN CHOICE), 15 (DESIGN CHOICE). -/
def Chip.readAnswered (c : Chip) (d seq : Nat) (x : Word) (err : Nat) : Chip :=
  let l := c.link d
  match l.sent.find? fun f => !f.write with
  | none => c
  | some f =>
    if f.seq ≠ seq then
      (if l.back = none ∧ (l.sent.any fun g => !g.write && g.seq == seq) then c.setLink d { l with back := some f.seq } else c)
    else if !f.landed ∨ (err = 0 ∧ (seq, x) ∉ l.answers) then c
    else
      let c := c.setLink d { l with sent := l.sent.filter (· ≠ f), answers := l.answers.filter (fun y => y.1 ≠ seq), back := none }
      match Syndrome.ofCode? err with
      | some sy => c.failRead f.rq sy f.addr
      | none => c.answer f.rq f.addr x

/-- Frames up to the one of a sequence number, and those after it. -/
def splitSeq (seq : Nat) : List Sent → List Sent × List Sent
  | [] => ([], [])
  | f :: l => if f.seq = seq then ([f], l) else let (a, b) := splitSeq seq l; (f :: a, b)

/-- R24, R27: an acknowledge resolves the posted writes up to the frame it names. -/
def Chip.acknowledged (c : Chip) (d seq : Nat) : Chip :=
  let l := c.link d
  if l.sent.any fun f => f.seq == seq && f.landed then
    let (a, b) := splitSeq seq l.sent
    c.setLink d { l with sent := (a.filter fun f => !(f.write && f.landed)) ++ b }
  else c

/-- R24: a negative acknowledge that names the frame the remote die wants: it and every later one are sent again. Assumption log 16 (DEDUCED). -/
def Chip.negAcked (c : Chip) (d seq : Nat) : Chip := if (c.link d).nack = some seq then c.resend d seq 1 else c

/-! ### Loss, training and acknowledgement of a link (R28 to R30) -/

/-- R28: remote die d declares its link lost. Assumption log 16 (DEDUCED). -/
def Chip.dieLost (c : Chip) (d : Nat) : Chip :=
  if (c.link d).lost then c
  else
    let c := c.setLink d { c.link d with lost := true }
    if 2 ≤ d ∧ d ≤ 5 then (c.holdDie (d - 2)).vHoldDie (d - 2)
    else if d = 1 then c.ledHold else if d = 6 then c.fldHold else c.radioLost

/-- A link goes down at both its ends. Assumption log 16 (DEDUCED). -/
def Chip.linkLost (c : Chip) (d : Nat) : Chip := (if c.linkUp d then c.linkDown d else c).dieLost d

/-- R29, R405, R531: the link is up; a SYS_RESET of the die completes; what the die reports to D0. Assumption log 16 (DEDUCED). -/
def Chip.linkBack (c : Chip) (d : Nat) : Chip :=
  let c := c.fset (R.SYS_LINK_STATUS d) F.SYS_LINK_STATUS_UP 1 |>.fset (R.SYS_LINK_STATUS d) F.SYS_LINK_STATUS_TRAINING 0
  let c := c.setLink d { c.link d with unacked := (c.link d).lost, retries := 0 }
  let c := if c.flag (R.SYS_LINK_CTRL d) F.SYS_LINK_CTRL_EV_UP_EN then c.raise 8 else c
  let c := c.finish (onObj 0x09 d) .ok []
  if d = 1 then c.sealLate.fbit R.SYS_CLK_STATUS F.SYS_CLK_STATUS_XTAL32K_PRESENT c.x32
  else if d = 7 then c.fbit R.SYS_CLK_STATUS F.SYS_CLK_STATUS_RADIO_XTAL_OK c.radio else c

/-- Links train in a running module; in LIMP of repeated resets they are held in training (R410). Assumption log 16 (DEDUCED). -/
def Chip.mayTrain (c : Chip) : Bool := c.awake && c.mode != 5 && !(c.mode == 7 && c.limpCause == 2)

/-- R29: a keep-alive of die d; the first after retraining re-establishes the link. -/
def Chip.keepAlive (c : Chip) (d st hold : Nat) : Chip :=
  let c := if c.linkUp d then c else (c.dieLost d).linkBack d
  let c := c.fset (R.SYS_LINK_STATUS d) F.SYS_LINK_STATUS_REMOTE_STATE st
  if 2 ≤ d ∧ d ≤ 5 then c.fset (R.PWR_PROT_STATUS (d - 2)) F.PWR_PROT_STATUS_HOLD_LEFT hold else c

/-- R29, R158, R467: the supervisor acknowledges a re-established link. -/
def Chip.linkAck (c : Chip) (d : Nat) : Chip :=
  let l := c.link d
  if d ≠ 0 ∧ c.linkUp d ∧ l.unacked then
    let c := c.setLink d { l with lost := false, unacked := false }
    if 2 ≤ d ∧ d ≤ 5 then
      let c := (c.resumeDie (d - 2)).vResumeDie (d - 2)
      if d = 5 then c.writeEntries else c
    else if d = 1 then c.ledResume else if d = 6 then c.fldResume else c
  else c

/-- R30: a 10 ms window of retries ends. -/
def Chip.retryWindow (c : Chip) (d : Nat) : Chip :=
  let l := c.link d
  let c := c.setLink d { l with retries := 0 }
  if l.retries < 64 then c.fset (R.SYS_LINK_STATUS d) F.SYS_LINK_STATUS_DEGRADED 0 else c

/-! ### Status pushes (R195, R268) -/

/-- R195: a supply word at offset o carries a rail's 1 ms average; low is the lowest sample of that millisecond. While
no L+ value crosses the barrier its word is stale, and the register holds. Assumption log 18 (DEDUCED). -/
def Chip.railPush (c : Chip) (o : Nat) (x : Word) (low : Nat) : Chip :=
  if 0x890 ≤ o ∧ o < 0x8A0 then
    let r := (o - 0x890) / 4
    let a := R.SEN_RAIL r
    if F.SEN_RAIL_STALE.get x = 1 then c
    else c.wr a (F.SEN_RAIL_MIN.put (F.SEN_RAIL_AVG.of (F.SEN_RAIL_AVG.get x)) low)
  else c

/-- R268, R317: a pushed word of die d for Faceplate offset o is what its source shows; a supply word, which the frame alone brings, is
the frame's. It is kept as the die's latest. Assumption log 18 (DEDUCED). -/
def Chip.pushWord (d : Nat) (lows : List (BitVec 15)) (c : Chip) (y : Nat × Word) : Chip :=
  let o := y.1
  if fpDie o = d then
    let x := if 0x890 ≤ o ∧ o < 0x8A0 then y.2 else c.fpLive o
    let c := c.setHsp { c.hsp with pushed := Tbl.set (fun _ => none) c.hsp.pushed o (some x) }
    if d = 1 then c.railPush o y.2 ((lows[(o - 0x890) / 4]?.map (·.toNat)).getD (F.SEN_RAIL_AVG.get y.2)) else c
  else c

/-- R317: 1 to 64 words of Faceplate data from word first on, from the sentinel or the field die. Assumption log 18 (DEDUCED). -/
def Chip.statusPush (c : Chip) (d first : Nat) (ws : List Word) (lows : List (BitVec 15)) : Chip :=
  if (d = 1 ∨ d = 6) ∧ 1 ≤ ws.length ∧ ws.length ≤ 64 then
    ((List.range ws.length).map (fun k => 4 * (first + k)) |>.zip ws).foldl (Chip.pushWord d lows) c
  else c

/-! ### Physical memory protection (R278) -/

/-- pmpcfg byte i and pmpaddr i of core k. -/
def Chip.pmpCfg (c : Chip) (k i : Nat) : Nat := c.fget (R.CSR_PMPCFG k (i / 4)) (byteFld (i % 4))
def Chip.pmpAddr (c : Chip) (k i : Nat) : Nat := (c.rd (R.CSR_PMPADDR k i)).toNat

/-- One bits at the low end of a number, at most n. -/
def lowOnes : Nat → Nat → Nat
  | 0, _ => 0
  | n + 1, v => if v % 2 = 1 then 1 + lowOnes n (v / 2) else 0

/-- The byte range of entry i (granularity 32 bytes). Assumption log 20 (PRESUMED). -/
def Chip.pmpRange (c : Chip) (k i : Nat) : Nat × Nat :=
  let a := c.pmpAddr k i
  match c.pmpCfg k i / 8 % 4 with
  | 1 => ((if i = 0 then 0 else c.pmpAddr k (i - 1) / 8 * 32), a / 8 * 32)
  | 3 =>
    let p := a / 4 * 4 + 3
    let t := lowOnes 32 p
    (p / 2 ^ (t + 1) * 2 ^ (t + 1) * 4, p / 2 ^ (t + 1) * 2 ^ (t + 1) * 4 + 2 ^ (t + 3))
  | _ => (0, 0)

/-- R278: core k may make an access of n bytes at address a; what bit of pmpcfg it needs (0 read, 1 write). Assumption log 20 (PRESUMED). -/
def Chip.pmpOk (c : Chip) (k : Nat) (user : Bool) (a n bit : Nat) : Bool :=
  match (List.range 16).find? fun i => decide ((c.pmpRange k i).1 < a + n) && decide (a < (c.pmpRange k i).2) with
  | none => !user
  | some i =>
    let r := c.pmpRange k i
    if r.1 ≤ a ∧ a + n ≤ r.2 then (!user && c.pmpCfg k i < 128) || (c.pmpCfg k i).testBit bit else false

/-- R271: the privilege mode in which a core makes an access. Assumption log 82 (DESIGN CHOICE). -/
def Chip.inMode (c : Chip) (rq : Req) (user : Bool) : Chip :=
  if rq.code < 4 ∧ (c.core rq.code).user ≠ user then c.setCore rq.code { c.core rq.code with user := user } else c

/-- R312: a host access that is not allowed is counted, EV019. -/
def Chip.hostRefused (c : Chip) : Chip := (c.bump R.HSP_REFUSED_CNT).raise 19

def Chip.bankOpen (c : Chip) (a : Nat) : Bool := (c.rd R.HSP_HOST_BANKS).toNat.testBit (bankOf a)

/-- R312: a host write to this peripheral address is forwarded. -/
def Chip.hostMay (c : Chip) (a : Nat) : Bool :=
  match findReg a with
  | some (d, ix) =>
    match d.id, ix with
    | .Q_PUSH, [q] => c.isProducer .host q
    | .Q_PUSH_EOP, [q] => c.isProducer .host q
    | .Q_PROD_CTRL, [q] => c.isProducer .host q
    | .CH_CMD, _ => true
    | .HSP_CFG, _ => true
    | _, _ => false
  | none => false

/-- R311, R312: the host port lets an access of the host to address a through (bit: 0 a read, 1 a write). -/
def Chip.hostPasses (c : Chip) (a bit : Nat) : Bool :=
  if inSram a then c.bankOpen a
  else decide (0x40000000 ≤ a) && decide (a < 0x40800000) && (bit == 0 || c.hostMay (a / 4 * 4))
/-- R312: an access that it does not let through is counted, EV019; a read returns 0. -/
def Chip.hostStopped (c : Chip) (a bit : Nat) : Chip := if bit = 0 then c.hostRefused.answer .host a 0 else c.hostRefused

/-- R278, R312: the access goes on if its requester is no core, or its core's PMP allows it, and the host port lets it through; else
it faults, or is refused. -/
def State.guarded (s : State) (rq : Req) (user : Bool) (a n bit : Nat) (f : State → State) : State :=
  let s := s.onChip (·.inMode rq user)
  if rq = .host ∧ ¬ s.chip.hostPasses a bit then s.onChip (·.hostStopped a bit)
  else if rq.code < 4 ∧ ¬ s.chip.pmpOk rq.code user a n bit then s.onChip fun c => c.coreTrap rq (if bit = 1 then 7 else 5) a else f s

/-- R278: a word access of a requester by a row that does not say its mode: that of its core's last access. Assumption log 82 (DESIGN CHOICE). -/
def State.mayAccess (s : State) (rq : Req) (a bit : Nat) (f : State → State) : State :=
  s.guarded rq (s.chip.core rq.code).user a 4 bit f

/-- A word written, and a word read, by a requester at a peripheral address, its PMP allowing it. Assumption log 19 (DEDUCED). -/
def State.write (s : State) (rq : Req) (a : Nat) (x : Word) : State := s.mayAccess rq a 1 fun s => s.onChip (·.periphWrite rq a x)
def State.read (s : State) (rq : Req) (a : Nat) : State := s.mayAccess rq a 0 fun s => s.onChip (·.periphRead rq a)

/-! ### Reads of the address map (R31, R276, R284, R285, R530) -/

/-- R284: requester rq is allowed to read the NVM at an address: the supervisor's firmware and the staging for the supervisor alone,
the keys for nobody, the rest for every requester. -/
def nvmMay (rq : Req) (a : Nat) : Bool :=
  if a < 0x10080000 then rq == .sup else if a < 0x10400000 then true else if a < 0x10800000 then rq == .sup else decide (a < 0x10E00000)

/-- R470, R474: the byte of the Grain log at an NVM address, where its slot holds a record. -/
def Chip.logByte (c : Chip) (a : Nat) : Option Byte :=
  if 0x10A00000 ≤ a ∧ a < 0x10E00000 then
    match c.grain.recs.find? fun r => r.slot == (a - 0x10A00000) / 64 with
    | some r => r.bytes[a % 64]?
    | none => none
  else none

/-- R284, R285: the byte that rq reads at an NVM address. Assumption log 83 (DESIGN CHOICE). -/
def Chip.nvmRead (c : Chip) (rq : Req) (k a : Nat) : Byte :=
  if nvmMay rq a then (match c.logByte a with | some b => b | none => Config.nvmByte k a) else 0

/-- Bytes as a word, lowest first. -/
def bytesWord (l : List Byte) : Word := l.foldr (fun b x => (x <<< 8) ||| b.setWidth 32) 0

/-- The bytes that a read of a width at an address takes. -/
def readBytes (w : Width) (a : Nat) (f : Nat → Byte) : Word := bytesWord ((List.range (widthBytes w)).map fun k => f (a + k))

/-- R276: a misaligned read of memory by a core that leaves its 32-byte line. -/
def Chip.loadTrap (c : Chip) (rq : Req) (w : Width) (a : Nat) (f : Chip → Chip) : Chip :=
  if isCore rq ∧ leavesLine w a then c.coreTrap rq 4 a else if !c.awake then c.failRead rq .blockOff a else f c

/-- A read of a width at an address of the map (R4, R6, R31, R60, R276, R285, R399). Assumption log 80 (DEDUCED), 83 (DESIGN CHOICE). -/
def State.busRead (s : State) (rq : Req) (w : Width) (a : Nat) : State :=
  s.onChip fun c => match region a with
  | .rom => c.loadTrap rq w a fun c => c.answer rq a (readBytes w a Config.romByte)
  | .nvm => c.loadTrap rq w a fun c => let (k, c) := c.draw; c.answer rq a (readBytes w a (c.nvmRead rq k))
  | .sram => c.loadTrap rq w a fun c => if c.bankLost a then c.failRead rq .poison a else c.answer rq a (readBytes w a (Memory.read s.sram))
  | .hole => c.failRead rq (if inPeriph a && badSize w a then .size else .decode) a
  | .periph =>
    if badSize w a then c.failRead rq .size a
    else if a = R.SYS_DRAIN then c.drainRead rq
    else if dieOf a ≠ 0 ∧ a = tokenAddr (dieOf a) then c.orderRead rq (dieOf a)
    else c.periphRead rq a
  | .alias_ => if badSize w a then c.failRead rq .size a else if inBlock (aliasOf a).1 then c.periphRead rq a else c.failRead rq .decode a

/-! ### Drains, tokens, time-outs (R57, R58, R66, R67) -/

def Chip.drainDone (c : Chip) (rq : Req) : Chip := if (c.busOf rq).drain ∧ c.drained rq then (c.drainEnd rq).resume rq else c

def Chip.orderDone (c : Chip) (rq : Req) (d : Nat) : Chip :=
  match (c.busOf rq).order with
  | some (d', n) =>
    if d' = d ∧ n ≤ (c.link d).landed then
      ((c.setBus rq { c.busOf rq with order := none }).answer rq (tokenAddr d) (c.rd (tokenAddr d))).resume rq
    else c
  | none => c

/-- R13, R57: the control-die blocks of other clock domains than CORE: the CAN, service and LIN controllers, and the clock
monitor's status. -/
def otherClock (a : Nat) : Bool := (decide (0x40080000 ≤ a) && decide (a < 0x40091000)) || (decide (0x40000200 ≤ a) && decide (a < 0x40000300))

/-- R26, R57: the target of an access gives no response within 20 µs: of a frame that has reached its die on an up link; or of an
access that the row itself makes, to an up link's die or to a control-die block of another clock domain. Assumption log 14
(DESIGN CHOICE). -/
def Chip.accessTimeout (c : Chip) (rq : Req) (write : Bool) (a : Nat) : Chip :=
  let d := dieOf (target a)
  let l := c.link d
  if c.blockOff (target a) ∨ !c.linkUp d ∨ (d = 0 ∧ !otherClock (target a)) then c
  else match l.sent.find? fun f => f.landed ∧ f.write = write ∧ f.rq = rq ∧ f.addr = a with
  | some f =>
    ((c.setLink d { l with sent := l.sent.filter (· ≠ f), answers := l.answers.filter fun y => y.1 ≠ f.seq }).failSent .timeout f).resume rq
  | none =>
    if c.stalled rq then c
    else if !write then c.failRead rq .timeout a
    else if d = 0 then c.failWrite rq .timeout a else c

/-! ### Clock gating (R386) -/

/-- R386: activity of block b's own, during which it never gates. Assumption log 25 (DEDUCED). -/
def Chip.blockBusy (c : Chip) (b : Nat) : Bool :=
  if b = 0 then (List.range 7).any fun t => c.interrupted t
  else if b = 1 then (List.range 32).any fun q => !(c.queue q).fill.isEmpty || !(c.queue q).drain.isEmpty
  else if b = 2 then c.cdeRunning
  else if b = 3 then c.erasing || c.upd.checking
  else if b = 4 then c.grain.job.isSome
  else if b < 14 then c.canEn (b - 5)
  else if b < 18 then c.linRole (b - 14) != 0
  else c.flag R.NM_CTRL F.NM_CTRL_EN

/-- Assumption log 25 (DEDUCED). -/
def Chip.idleGate (c : Chip) (b : Nat) : Chip :=
  let a := R.SYS_BLK_POWER b
  if c.awake ∧ c.flag a F.SYS_BLK_POWER_GATE_EN ∧ c.fget a F.SYS_BLK_POWER_STATE = 0 ∧ ¬ c.blockBusy b then c.fset a F.SYS_BLK_POWER_STATE 1 else c

/-! ### Event frames (R287, R293) -/

/-- R287: an event that remote die d raises: the power dies' channels and valves, the recorder of power die 3, the sentinel's
lighting, bus health, inputs and clock, the field die's points. -/
def dieEvent (d e : Nat) : Bool :=
  if d = 1 then [11, 70, 72, 73, 74, 75, 76, 77, 80, 81].contains e
  else if 2 ≤ d ∧ d ≤ 5 then (decide (40 ≤ e) && decide (e < 68) && (e - 40) % 4 == d - 2) || (d == 5 && [198, 199, 200, 201].contains e)
  else if d = 6 then [82, 83, 84].contains e else false

/-- R49, R287, R293: an event frame of die d. A lock violation of the die is counted; a number that the die does not raise is never
raised. -/
def Chip.eventFrom (c : Chip) (d e : Nat) : Chip := if e = 4 then c.lockViolation (dieBase d) else if dieEvent d e then c.raise e else c

/-! ### Meanings -/

/-- R17. -/
def execXtal40Fail (s : State) : Host.Outcome State Fault Refusal := .next (s.onChip (·.xtalLost))
/-- R20. -/
def execXtal32kLoss (s : State) : Host.Outcome State Fault Refusal := .next (s.onChip (·.xtal32Lost))
/-- R531. -/
def execXtal32kStartTimeout (s : State) : Host.Outcome State Fault Refusal := .next (s.onChip (·.xtal32Absent))
/-- R531. -/
def execXtal32kStart (s : State) : Host.Outcome State Fault Refusal := .next (s.onChip (·.xtal32Runs))
/-- R21. -/
def execRadioXtalLoss (s : State) : Host.Outcome State Fault Refusal := .next (s.onChip (·.radioXtalLost))
/-- R21, R531. -/
def execRadioXtalReturn (s : State) : Host.Outcome State Fault Refusal := .next (s.onChip (·.radioXtalBack))

/-- The system address of a die-local address of die d. -/
def dieAddr (d : Nat) (a : BitVec 24) : Nat := dieBase d + a.toNat

/-- R23, R24. -/
def execPostedWriteFrame (d : Fin 8) (addr : BitVec 24) (data : Word) (rq : Req) (seq : BitVec 6) (crc : BitVec 16) (s : State) :
    Host.Outcome State Fault Refusal :=
  .next (s.onChip fun c => c.taken d true (crc.toNat == frameCrc [(24, addr.toNat), (32, data.toNat), (4, rq.code), (6, seq.toNat)])
    fun c => c.writeArrives d seq.toNat rq (dieAddr d addr) data)
/-- R22, R23. -/
def execReadRequestFrame (d : Fin 8) (addr : BitVec 24) (rq : Req) (seq : BitVec 6) (crc : BitVec 16) (s : State) :
    Host.Outcome State Fault Refusal :=
  .next (s.onChip fun c =>
    if d.val ≠ 0 ∧ !c.linkUp d then c.failRead rq .linkFail (dieAddr d addr)
    else c.taken d true (crc.toNat == frameCrc [(24, addr.toNat), (4, rq.code), (6, seq.toNat)])
      fun c => c.readArrives d seq.toNat rq (dieAddr d addr))
/-- R22, R23: the payload is the data or, with err not 0, the error code. -/
def execReadResponseFrame (d : Fin 8) (data : Word) (err : BitVec 4) (seq : BitVec 6) (crc : BitVec 16) (s : State) :
    Host.Outcome State Fault Refusal :=
  .next (s.onChip fun c => c.taken d false (crc.toNat == frameCrc [(32, if err = 0 then data.toNat else err.toNat), (6, seq.toNat)])
    fun c => (c.readAnswered d seq.toNat data err.toNat).resumeAll)
/-- R24. -/
def execAcknowledgeFrame (d : Fin 8) (seq : BitVec 6) (crc : BitVec 16) (s : State) : Host.Outcome State Fault Refusal :=
  .next (s.onChip fun c => c.taken d false (crc.toNat == frameCrc [(6, seq.toNat)]) fun c => c.acknowledged d seq.toNat)
/-- R24, R30. -/
def execNegativeAcknowledgeFrame (d : Fin 8) (seq : BitVec 6) (crc : BitVec 16) (s : State) : Host.Outcome State Fault Refusal :=
  .next (s.onChip fun c => c.taken d false (crc.toNat == frameCrc [(6, seq.toNat)]) fun c => c.negAcked d seq.toNat)
/-- R268, R317. -/
def execStatusPushFrame (d : Fin 8) (first : BitVec 10) (ws : List Word) (lows : List (BitVec 15)) (crc : BitVec 16) (s : State) :
    Host.Outcome State Fault Refusal :=
  .next (s.onChip fun c => c.taken d false (crc.toNat == frameCrc (ws.map fun w => (32, w.toNat)))
    fun c => c.statusPush d first.toNat ws lows)
/-- R287, R288, R292, R293. -/
def execEventFrame (d : Fin 8) (ev : BitVec 8) (detail : BitVec 24) (crc : BitVec 16) (s : State) : Host.Outcome State Fault Refusal :=
  .next (s.onChip fun c => c.taken d false (crc.toNat == frameCrc [(8, ev.toNat), (24, detail.toNat)]) fun c => c.eventFrom d ev.toNat)
/-- R29. -/
def execKeepAliveFrame (d : Fin 8) (st : BitVec 8) (holdLeft : BitVec 16) (crc : BitVec 16) (s : State) :
    Host.Outcome State Fault Refusal :=
  .next (s.onChip fun c =>
    if d.val = 0 ∨ !c.mayTrain then c
    else if crc.toNat ≠ frameCrc [(8, st.toNat), (16, holdLeft.toNat)] then c.badCrc d false
    else c.keepAlive d st.toNat holdLeft.toNat)
/-- R25. -/
def execLinkRetryExhausted (d : Fin 8) (s : State) : Host.Outcome State Fault Refusal :=
  .next (s.onChip fun c => if d.val ≠ 0 ∧ c.linkUp d ∧ (c.link d).sent ≠ [] then (c.exhaust d).resumeAll else c)
/-- R28. -/
def execLinkLossTimeout (d : Fin 8) (s : State) : Host.Outcome State Fault Refusal :=
  .next (s.onChip fun c => if d.val = 0 then c else (c.linkLost d).resumeAll)
/-- R28. -/
def execTrainingSequenceReceived (d : Fin 8) (s : State) : Host.Outcome State Fault Refusal :=
  .next (s.onChip fun c => if d.val = 0 ∨ c.linkUp d then c else c.dieLost d)
/-- R29. -/
def execLinkAcknowledge (d : Fin 8) (s : State) : Host.Outcome State Fault Refusal := .next (s.onChip (·.linkAck d))
/-- R30. -/
def execRetryWindowEnd (d : Fin 8) (s : State) : Host.Outcome State Fault Refusal :=
  .next (s.onChip fun c => if d.val = 0 ∨ !c.linkUp d then c else c.retryWindow d)
/-- R28: a write of RETRAIN. -/
def execSysLinkRetrain (rq : Req) (d : Fin 8) (s : State) : Host.Outcome State Fault Refusal :=
  .next (if d.val = 0 then s else (s.write rq (R.SYS_LINK_CTRL d) (s.chip.rd (R.SYS_LINK_CTRL d) ||| 4)).onChip Chip.resumeAll)
/-- R57. -/
def execAccessTimeout (rq : Req) (write : Bool) (addr : Word) (s : State) : Host.Outcome State Fault Refusal :=
  .next (s.onChip (·.accessTimeout rq write addr.toNat))
/-- R58. -/
def execPostedWriteSlotFree (rq : Req) (s : State) : Host.Outcome State Fault Refusal := .next (s.onChip (·.resume rq))
/-- R4, R31, R42, R278. -/
def execRegisterWrite (rq : Req) (user : Bool) (w : Width) (addr : Word) (data : Word) (s : State) : Host.Outcome State Fault Refusal :=
  .next (s.guarded rq user addr.toNat (widthBytes w) 1 fun s => s.busWrite rq w addr.toNat data)
/-- R43. -/
def execLockGroupClose (rq : Req) (g : LockGroup) (s : State) : Host.Outcome State Fault Refusal :=
  .next (s.write rq (match g with | .sys => R.SYS_LOCK | .hsp => R.HSP_LOCK) 1)
/-- R386. -/
def execBlockIdleGate (b : Fin 19) (s : State) : Host.Outcome State Fault Refusal := .next (s.onChip (·.idleGate b))
/-- R66. -/
def execSysDrainRead (rq : Req) (s : State) : Host.Outcome State Fault Refusal := .next (s.mayAccess rq R.SYS_DRAIN 0 fun s => s.onChip (·.drainRead rq))
/-- R66. -/
def execSysDrainDone (rq : Req) (s : State) : Host.Outcome State Fault Refusal := .next (s.onChip (·.drainDone rq))
/-- R67. -/
def execOrderTokenRead (rq : Req) (d : Fin 8) (s : State) : Host.Outcome State Fault Refusal := .next (s.mayAccess rq (tokenAddr d) 0 fun s => s.onChip (·.orderRead rq d))
/-- R67. -/
def execOrderTokenDone (rq : Req) (d : Fin 8) (s : State) : Host.Outcome State Fault Refusal := .next (s.onChip (·.orderDone rq d))
/-- R35 to R41: a read of an alias word; a read of any other address of the map is what State.busRead says. -/
def execAliasRead (rq : Req) (user : Bool) (w : Width) (addr : Word) (s : State) : Host.Outcome State Fault Refusal :=
  .next (s.guarded rq user addr.toNat (widthBytes w) 0 fun s => s.busRead rq w addr.toNat)
/-- R35 to R41. -/
def execAliasWrite (rq : Req) (user : Bool) (w : Width) (addr : Word) (data : Word) (s : State) : Host.Outcome State Fault Refusal :=
  .next (if region addr.toNat = .alias_ then
      s.guarded rq user addr.toNat (widthBytes w) 1 fun s => s.busWrite rq w addr.toNat data
    else s)

end Sys2Proof.Machine
end

