-- ==== Sys2Proof/Machine/Cores.lean ====
section
/-! DEFINITION. The application cores as the module shows them (spec/09): timers, reservations and atomic accesses, cache and
SRAM errors, the event router's registers, performance counters, instruction sampling and the counter dump engine. -/

namespace Sys2Proof.Machine
open Sys2Proof

/-- Core k runs: the control die is powered, and the core is out of reset. -/
def Chip.coreRuns (c : Chip) (k : Nat) : Bool := c.awake && !(c.core k).inReset

/-! ### Timer and interrupts (R279, R289, R300, R301) -/

def Chip.mtime (c : Chip) : Nat := (c.ctr64 R.SYS_MTIME_LO).toNat
def Chip.mtimecmp (c : Chip) (k : Nat) : Nat := (c.rd (R.SYS_MTIMECMP_HI k)).toNat * 2 ^ 32 + (c.rd (R.SYS_MTIMECMP_LO k)).toNat

/-- R300: a counter of core k has wrapped and requests the overflow interrupt. -/
def Chip.overflowIrq (c : Chip) (k : Nat) : Bool :=
  (List.range 12).any fun j => c.flag (R.CSR_MHPMEVENT k (j + 3)) F.CSR_MHPMEVENT_OF && c.flag (R.CSR_MHPMEVENT k (j + 3)) F.CSR_MHPMEVENT_INTEN

/-- The interrupt bits of core k's mip: MSIP 3, MTIP 7, MEIP 11, counter overflow 16, sampling 17. -/
def Chip.mip (c : Chip) (k : Nat) : Word :=
  wordOf [(3, c.fget (R.SYS_MSIP k) F.SYS_MSIP_MSIP), (7, (decide (c.mtimecmp k ≤ c.mtime)).toNat), (11, (c.interrupted k).toNat),
    (16, (c.overflowIrq k).toNat), (17, (c.flag (R.MSAMP_LAT1 k) F.MSAMP_LAT1_VALID && c.flag (R.MSAMP_CTL k) F.MSAMP_CTL_INTEN).toNat)]

/-- R279: SYS_MTIME reaches core k's compare value. -/
def Chip.timeReaches (c : Chip) (k : Nat) : Chip := c.setCtr64 R.SYS_MTIME_LO (.ofNat 64 (max c.mtime (c.mtimecmp k)))

/-! ### Performance counters (R294 to R300) -/

def ctrAddr (k : Fin 4) (j : Fin 15) : Nat := Ctr64.lo (.hpm k j)

/-- R294, R297: counter j of a core counts: inhibited neither by mcountinhibit nor, in the core's mode, by UINH or MINH. -/
def Chip.counts (c : Chip) (k : Fin 4) (j : Nat) : Bool :=
  c.coreRuns k && !(c.rd (R.CSR_MCOUNTINHIBIT k)).toNat.testBit j &&
    !(decide (3 ≤ j) && c.flag (R.CSR_MHPMEVENT k j) (if (c.core k).user then F.CSR_MHPMEVENT_UINH else F.CSR_MHPMEVENT_MINH))

/-- Counter j advances by n; a wrap sets OF (R300). -/
def Chip.ctrAdd (c : Chip) (k : Fin 4) (j : Fin 15) (n : Nat) : Chip :=
  let v := (c.ctr64 (ctrAddr k j)).toNat + n
  let c := c.setCtr64 (ctrAddr k j) (.ofNat 64 v)
  if 2 ^ 64 ≤ v ∧ 3 ≤ j.val then c.fset (R.CSR_MHPMEVENT k j) F.CSR_MHPMEVENT_OF 1 else c

/-- R298: the largest value of an event in a cycle. -/
def eventMax (e : Nat) : Nat :=
  if 2 ≤ e ∧ e ≤ 6 ∨ e = 0x15 then 2 else if e = 0x0E then 8 else if e = 0x0F then 4 else if e = 0x19 then 15 else 1

/-- R298: the sum of an event's values over the n cycles of draw m. -/
def eventSum (m k n e : Nat) : Nat := Config.eventAdds m k e % (eventMax e * n + 1)
/-- R299: the slots of the n cycles: two for every active cycle, each in exactly one of the classes of codes 0x03 to 0x06. -/
def slotSum (m k n e : Nat) : Nat :=
  let all := 2 * eventSum m k n 1
  let r := Config.eventAdds m k 3 % (all + 1)
  let w := Config.eventAdds m k 4 % (all - r + 1)
  let f := Config.eventAdds m k 5 % (all - r - w + 1)
  if e = 3 then r else if e = 4 then w else if e = 5 then f else all - r - w - f

/-- R296, R298, R299: what a counter of event e adds over the n cycles of draw m, by its mode and threshold. Assumption log 10 (DESIGN CHOICE). -/
def eventCount (m k n e mode thresh : Nat) : Nat :=
  if e = 0 then 0
  else if mode = 0 then (if 3 ≤ e ∧ e ≤ 6 then slotSum m k n e else eventSum m k n e)
  else if mode = 2 ∧ eventMax e ≤ thresh then 0
  else Config.eventAdds m k (e + 32 * mode + 128 * thresh) % (n + 1)

/-- R296: what counter j adds over n cycles: mcycle one a cycle, minstret the instructions retired, the others their events. -/
def Chip.ctrTick (k : Fin 4) (n m : Nat) (c : Chip) (j : Fin 15) : Chip :=
  if j.val = 1 ∨ !c.counts k j then c
  else if j.val = 0 then c.ctrAdd k j n
  else if j.val = 2 then c.ctrAdd k j (eventCount m k n 2 0 0)
  else
    let a := R.CSR_MHPMEVENT k j
    c.ctrAdd k j (eventCount m k n (c.fget a F.CSR_MHPMEVENT_EVENT) (c.fget a F.CSR_MHPMEVENT_MODE) (c.fget a F.CSR_MHPMEVENT_THRESH))

/-- One microsecond of a core's counters; a counter written in the microsecond before is no longer (R55). -/
def Chip.coreTick (n : Nat) (c : Chip) (k : Fin 4) : Chip :=
  let c := if (c.core k).wrote.isSome then c.setCore k { c.core k with wrote := none } else c
  if c.coreRuns k then
    let (m, c) := c.draw
    (List.finRange 15).foldl (Chip.ctrTick k n m) c
  else c

/-- One microsecond of the cores' counters. Assumption log 10 (DESIGN CHOICE). -/
def Chip.coresTick (c : Chip) : Chip :=
  (List.finRange 4).foldl (Chip.coreTick (if c.flag R.SYS_CLK_STATUS F.SYS_CLK_STATUS_CORE_ON_BACKUP then 100 else 200)) c

/-- R55, R300: counter j wraps from all ones to zero; where it was written in the same microsecond, it keeps the written value with the
increment applied. Assumption log 82 (DESIGN CHOICE). -/
def Chip.ctrWraps (c : Chip) (k : Fin 4) (j : Fin 15) : Chip :=
  if c.counts k j then
    (c.setCtr64 (ctrAddr k j) (if (c.core k).wrote = some j.val then c.ctr64 (ctrAddr k j) + 1 else 0)).fset (R.CSR_MHPMEVENT k j) F.CSR_MHPMEVENT_OF 1
  else c

/-- R53, R54, R295: reads and writes of the halves of a counter CSR; a write clears OF (R300). -/
def Chip.ctrClearOf (c : Chip) (k : Fin 4) (j : Fin 15) : Chip :=
  if 3 ≤ j.val then c.fset (R.CSR_MHPMEVENT k j) F.CSR_MHPMEVENT_OF 0 else c
def Chip.csrHigh (c : Chip) (k : Fin 4) (j : Fin 15) (x : Word) : Chip := (c.writeHigh (ctrAddr k j) x).ctrClearOf k j
def Chip.csrLow (c : Chip) (k : Fin 4) (j : Fin 15) (x : Word) : Chip :=
  (((c.writeLow (ctrAddr k j) x).ctrClearOf k j).setCore k { c.core k with wrote := some j.val })

/-- R272: an illegal-instruction exception of core k. Assumption log 11 (DESIGN CHOICE). -/
def Chip.illegal (c : Chip) (k : Fin 4) : Chip := let (m, c) := c.draw; c.coreTrap (Req.core k) 2 (Config.illegalTval m).toNat

/-- R278: pmpaddr i keeps its value while entry i, or a TOR entry i + 1, is locked. Assumption log 20 (PRESUMED). -/
def Chip.pmpAddrLocked (c : Chip) (k i : Nat) : Bool :=
  128 ≤ c.pmpCfg k i || (i < 15 && 128 ≤ c.pmpCfg k (i + 1) && c.pmpCfg k (i + 1) / 8 % 4 == 1)

/-- R301: a write of MSAMP_CTL clears VALID and restarts the interval. Assumption log 23 (DESIGN CHOICE). -/
def Chip.msampCtl (c : Chip) (k : Fin 4) (x : Word) : Chip :=
  let c := c.regWrite (Req.core k) (R.MSAMP_CTL k) x
  (c.fset (R.MSAMP_LAT1 k) F.MSAMP_LAT1_VALID 0).setCore k { c.core k with tagged := false }

/-- R272, R294: a core writes one of its CSRs, all of them of machine mode; in user mode the access is an illegal instruction, and so
is one of time in any mode. Assumption log 78 (DESIGN CHOICE), 82 (DESIGN CHOICE). -/
def Chip.csrWrite (c : Chip) (k : Fin 4) (n : Nat) (x : Word) : Chip :=
  if !c.coreRuns k then c
  else if (c.core k).user ∨ n = 0xB01 ∨ n = 0xB81 then c.illegal k
  else if n = 0x306 then c.lockViolation R.SYS_LOCK
  else if n = 0x7C0 then c.msampCtl k x
  else if h : 0xB00 ≤ n ∧ n < 0xB0F then c.csrLow k ⟨n - 0xB00, by omega⟩ x
  else if h : 0xB80 ≤ n ∧ n < 0xB8F then c.csrHigh k ⟨n - 0xB80, by omega⟩ x
  else if 0x3B0 ≤ n ∧ n < 0x3C0 ∧ c.pmpAddrLocked k (n - 0x3B0) then c
  else c.regWrite (Req.core k) (0x100000000 + k * 0x4000 + 4 * n) x

/-! ### 64-bit counters (R53, R54) -/

/-- R272, R294: an access of core k to its counter j (1 is time): in user mode, and of time in any mode, an illegal instruction; no
other requester reaches it. Assumption log 82 (DESIGN CHOICE). -/
def Chip.hpmAccess (c : Chip) (rq : Req) (k : Fin 4) (j : Fin 15) (f : Chip → Chip) : Chip :=
  if rq ≠ Req.core k ∨ !c.coreRuns k then c else if (c.core k).user ∨ j.val = 1 then c.illegal k else f c

/-- R53 to R55: the four accesses of a 64-bit counter by a requester. -/
def State.ctrReadLow (s : State) (rq : Req) : Ctr64 → State
  | .hpm k j => s.onChip fun c => c.hpmAccess rq k j fun c => let (v, c) := c.readLow rq (ctrAddr k j); c.answer rq (ctrAddr k j) v
  | t => s.read rq (Ctr64.lo t)
def State.ctrReadHigh (s : State) (rq : Req) : Ctr64 → State
  | .hpm k j => s.onChip fun c => c.hpmAccess rq k j fun c => c.answer rq (ctrAddr k j + 0x200) (c.latchOf (ctrAddr k j) rq)
  | t => s.read rq (Ctr64.lo t + 4)
def State.ctrWriteHigh (s : State) (rq : Req) (x : Word) : Ctr64 → State
  | .hpm k j => s.onChip fun c => c.hpmAccess rq k j fun c => c.csrHigh k j x
  | t => s.write rq (Ctr64.lo t + 4) x
def State.ctrWriteLow (s : State) (rq : Req) (x : Word) : Ctr64 → State
  | .hpm k j => s.onChip fun c => c.hpmAccess rq k j fun c => c.csrLow k j x
  | t => s.write rq (Ctr64.lo t) x

/-! ### Instruction sampling (R301) -/

/-- R301: the LFSR, polynomial x^16 + x^14 + x^13 + x^11 + 1. Assumption log 23 (DESIGN CHOICE). -/
def lfsrNext (x : Nat) : Nat := x / 2 + (if (x.testBit 0 != x.testBit 2) != (x.testBit 3 != x.testBit 5) then 2 ^ 15 else 0)

/-- R301: the instructions of an interval: BASE plus the low JITTER bits of the LFSR. -/
def Chip.interval (c : Chip) (k : Nat) : Nat :=
  c.fget (R.MSAMP_CTL k) F.MSAMP_CTL_BASE + c.fget (R.MSAMP_SEED k) F.MSAMP_SEED_SEED % 2 ^ c.fget (R.MSAMP_CTL k) F.MSAMP_CTL_JITTER

/-- R301: one instruction is tagged when the interval's number of instructions has entered decode. Assumption log 23 (DESIGN CHOICE). -/
def Chip.msampTag (c : Chip) (k entered : Nat) : Chip :=
  if entered = c.interval k ∧ c.coreRuns k ∧ c.flag (R.MSAMP_CTL k) F.MSAMP_CTL_EN ∧ !c.flag (R.MSAMP_LAT1 k) F.MSAMP_LAT1_VALID ∧ !(c.core k).tagged then
    (c.setCore k { c.core k with tagged := true }).fset (R.MSAMP_SEED k) F.MSAMP_SEED_SEED (lfsrNext (c.fget (R.MSAMP_SEED k) F.MSAMP_SEED_SEED))
  else c

/-- Assumption log 23 (DESIGN CHOICE). -/
def Chip.msampRecord (c : Chip) (k : Nat) (pc lat0 : Word) (outcome slot retire : Nat) : Chip :=
  if (c.core k).tagged then
    (c.setCore k { c.core k with tagged := false }).wr (R.MSAMP_PC k) pc |>.wr (R.MSAMP_LAT0 k) lat0
      |>.wr (R.MSAMP_LAT1 k) (F.MSAMP_LAT1_RETIRE.put (F.MSAMP_LAT1_SLOT.put (F.MSAMP_LAT1_OUTCOME.put (F.MSAMP_LAT1_VALID.of 1) outcome) slot) retire)
  else c

/-! ### SRAM and cache errors (R277, R283) -/

/-- R283: an error is corrected and counted, EV012; or counted as uncorrectable, EV013. -/
def Chip.eccCorrected (c : Chip) (a : Nat) : Chip := (c.bump R.SRC_ECC_CORR_CNT).wr R.SRC_ECC_LAST (.ofNat 32 a) |>.raise 12
def Chip.eccLost (c : Chip) (a : Nat) : Chip := (c.bump R.SRC_ECC_UNCORR_CNT).wr R.SRC_ECC_LAST (.ofNat 32 a) |>.raise 13

/-- R277: a parity error in a cache line of core k. Assumption log 22 (DEDUCED). -/
def Chip.parity (c : Chip) (k : Fin 4) (a : Nat) (dirty write : Bool) : Chip :=
  if !c.coreRuns k then c
  else if dirty then (c.busError write (Req.core k) .ecc a).coreTrap (Req.core k) (if write then 7 else 5) a |>.eccLost a
  else c.eccCorrected a

/-- R283: a read of SRAM finds an ECC error. Assumption log 22 (DEDUCED). -/
def Chip.sramError (c : Chip) (rq : Req) (a : Nat) (double fetch : Bool) : Chip :=
  if !inSram a ∨ !c.awake then c
  else if double then
    let c := (c.failRead rq .ecc a).eccLost a
    if fetch then c.coreTrap rq 1 a else c
  else c.eccCorrected a

/-! ### Atomic accesses (R276) -/

/-- What an AMO stores over old, with its operand x. Assumption log 21 (DESIGN CHOICE), 79 (PRESUMED). -/
def atomicResult (o : AtomicOp) (old x : Word) : Word :=
  match o with
  | .add => old + x
  | .xor => old ^^^ x
  | .and => old &&& x
  | .or => old ||| x
  | .min => if old.toInt < x.toInt then old else x
  | .max => if old.toInt < x.toInt then x else old
  | .minu => if old.toNat < x.toNat then old else x
  | .maxu => if old.toNat < x.toNat then x else old
  | .lr | .sc | .swap => x

/-- Assumption log 21 (DESIGN CHOICE). -/
def Chip.setReserve (c : Chip) (k : Nat) (r : Option Nat) : Chip := c.setCore k { c.core k with reserve := r }

/-- The cause of an access fault of an atomic access: a load's for LR, else a store's. Assumption log 11 (DESIGN CHOICE). -/
def atomicFault (o : AtomicOp) : Nat := if o = .lr then 5 else 7

/-- R276: an atomic access of core k to an aligned SRAM word. Assumption log 21 (DESIGN CHOICE). -/
def State.atomic (s : State) (k : Fin 4) (o : AtomicOp) (a : Nat) (x : Word) : State :=
  let rq := Req.core k
  let old := Memory.word s.sram a
  let held := (s.chip.core k).reserve = some (a / 32)
  match o with
  | .lr =>
    if s.chip.bankLost a then s.onChip fun c => c.failRead rq .poison a
    else s.onChip fun c => (c.setReserve k (some (a / 32))).answer rq a old
  | .sc =>
    let s' := s.onChip fun c => (c.setReserve k none).answer rq a (if held then 0 else 1)
    if held then s'.store rq a (wordBytes x) else s'
  | o =>
    if s.chip.bankLost a then s.onChip fun c => (c.failRead rq .poison a).coreTrap rq 7 a
    else (s.put rq a (wordBytes (atomicResult o old x))).onChip fun c => c.answer rq a old

/-- R276, R278: its checks. -/
def State.atomicAccess (s : State) (k : Fin 4) (user : Bool) (o : AtomicOp) (a : Nat) (x : Word) : State :=
  let rq := Req.core k
  if !s.chip.coreRuns k then s
  else if (o ≠ .sc ∧ !s.chip.pmpOk k user a 4 0) ∨ (o ≠ .lr ∧ !s.chip.pmpOk k user a 4 1) ∨ !inSram a then
    s.onChip fun c => c.coreTrap rq (atomicFault o) a
  else if a % 4 ≠ 0 then s.onChip fun c => c.coreTrap rq (if Config.atomicMisaligned then atomicFault o - 1 else atomicFault o) a
  else s.atomic k o a x

/-! ### The counter dump engine (R302 to R304) -/

/-- R304: core k's part of a record. -/
def Chip.cdePart (c : Chip) (wfi : BitVec 4) (k : Fin 4) : List Byte :=
  let ctr (j : Fin 15) : List Byte := leBytes 8 (c.ctr64 (ctrAddr k j)).toNat
  ctr 0 ++ ctr 2 ++ ((List.finRange 15).filter (3 ≤ ·.val)).flatMap ctr ++
  wordBytes (wordOf ((31, (wfi.getLsbD k).toNat) :: (30, (c.core k).inReset.toNat) ::
    (List.range 12).map fun j => (j, c.fget (R.CSR_MHPMEVENT k (j + 3)) F.CSR_MHPMEVENT_OF))) ++
  wordBytes (c.rd R.CDE_SEQ) ++ leBytes 8 c.mtime

/-- Assumption log 24 (DESIGN CHOICE). -/
def Chip.cdeRecord (c : Chip) (wfi : BitVec 4) : List Byte := (List.finRange 4).flatMap (c.cdePart wfi)

/-- Where the next record goes. -/
def Chip.cdeAddr (c : Chip) : Nat := (c.rd R.CDE_BASE).toNat + c.fget R.CDE_WRPTR F.CDE_WRPTR_INDEX * 512

/-- R303: the write pointer after a record. -/
def Chip.cdeNext (c : Chip) : Chip :=
  let p := c.fget R.CDE_WRPTR F.CDE_WRPTR_INDEX + 1
  if c.fget R.CDE_SIZE F.CDE_SIZE_RECORDS ≤ p then (c.fset R.CDE_WRPTR F.CDE_WRPTR_INDEX 0).bump R.CDE_WRAP_CNT
  else c.fset R.CDE_WRPTR F.CDE_WRPTR_INDEX p

/-- R303: a snapshot: its record is written, or dropped. Assumption log 24 (DESIGN CHOICE). -/
def State.snapshot (s : State) (wfi : BitVec 4) : State :=
  let c := s.chip
  let a := c.cdeAddr
  if !c.cdeRunning then s
  else
    let s := s.onChip fun c => c.ungate 2
    if inSram a ∧ inSram (a + 511) ∧ !c.bankLost a then
      (s.put .cde a (c.cdeRecord wfi)).onChip fun c => (c.cdeNext).bumpWrap R.CDE_SEQ
    else
      s.onChip fun d =>
        let d := if inSram a ∧ inSram (a + 511) then d.busError true .cde .poison a else d
        ((d.bump R.CDE_DROP_CNT).bumpWrap R.CDE_SEQ).raise 14

/-! ### Meanings -/

/-- R279. -/
def execMtimecmpReached (c : Fin 4) (s : State) : Host.Outcome State Fault Refusal := .next (s.onChip (·.timeReaches c))
/-- R272: the write is ignored, counted and reported. -/
def execMcounterenWrite (c : Fin 4) (data : Word) (s : State) : Host.Outcome State Fault Refusal := .next (s.onChip (·.csrWrite c 0x306 data))
/-- R275. -/
def execFenceI (c : Fin 4) (s : State) : Host.Outcome State Fault Refusal :=
  .next (s.onChip fun h => h.setCore c { h.core c with stale := [] })
/-- R64: it orders the issue of accesses at the core, which the order of the commands already is. -/
def execFenceIo (_c : Fin 4) (_pred _succ : BitVec 4) (s : State) : Host.Outcome State Fault Refusal := .next s
/-- R276. -/
def execAtomicAccess (c : Fin 4) (user : Bool) (op : AtomicOp) (addr : Word) (data : Word) (s : State) : Host.Outcome State Fault Refusal :=
  .next (s.atomicAccess c user op addr.toNat data)
/-- R277. -/
def execCacheParityError (c : Fin 4) (addr : Word) (dirty : Bool) (write : Bool) (s : State) : Host.Outcome State Fault Refusal :=
  .next (s.onChip (·.parity c addr.toNat dirty write))
/-- R283. -/
def execSramEccError (rq : Req) (addr : Word) (double : Bool) (fetch : Bool) (s : State) : Host.Outcome State Fault Refusal :=
  .next (s.onChip (·.sramError rq addr.toNat double fetch))
/-- R289. -/
def execEvrClaimRead (rq : Req) (t : Fin 7) (s : State) : Host.Outcome State Fault Refusal := .next (s.read rq (R.EVR_CLAIM t))
/-- R292. -/
def execEvrSwraiseWrite (rq : Req) (data : Word) (s : State) : Host.Outcome State Fault Refusal :=
  .next (s.write rq R.EVR_SWRAISE data)
/-- R291. -/
def execEvrRouteWrite (rq : Req) (k : Fin 256) (data : Word) (s : State) : Host.Outcome State Fault Refusal :=
  .next (s.write rq (R.EVR_ROUTE k) data)
/-- R300: counter j + 3. -/
def execHpmCounterWrap (c : Fin 4) (j : Fin 12) (s : State) : Host.Outcome State Fault Refusal :=
  .next (s.onChip (·.ctrWraps c ⟨j.val + 3, by omega⟩))
/-- R295, R297, R300. -/
def execHpmCsrWrite (c : Fin 4) (csr : BitVec 12) (data : Word) (s : State) : Host.Outcome State Fault Refusal :=
  .next (s.onChip (·.csrWrite c csr.toNat data))
/-- R301. -/
def execMsampTag (x : DecodeAt) (s : State) : Host.Outcome State Fault Refusal := .next (s.onChip (·.msampTag x.c x.entered))
/-- R301. -/
def execMsampRecord (c : Fin 4) (pc lat0 : Word) (outcome : BitVec 2) (slot : Bool) (retire : BitVec 8) (s : State) :
    Host.Outcome State Fault Refusal :=
  .next (s.onChip (·.msampRecord c pc lat0 outcome.toNat slot.toNat retire.toNat))
/-- R301. -/
def execMsampCtlWrite (c : Fin 4) (data : Word) (s : State) : Host.Outcome State Fault Refusal := .next (s.onChip (·.csrWrite c 0x7C0 data))
/-- R303, R304. -/
def execCdeSnapshot (wfi : BitVec 4) (s : State) : Host.Outcome State Fault Refusal := .next (s.snapshot wfi)
/-- R302. -/
def execCdeWindowClose (s : State) : Host.Outcome State Fault Refusal :=
  .next (s.onChip fun c => c.setModex { c.modex with limpWin := false })
/-- R53. -/
def execCounter64LowRead (rq : Req) (c : Ctr64) (s : State) : Host.Outcome State Fault Refusal := .next (s.ctrReadLow rq c)
/-- R53. -/
def execCounter64HighRead (rq : Req) (c : Ctr64) (s : State) : Host.Outcome State Fault Refusal := .next (s.ctrReadHigh rq c)
/-- R54. -/
def execCounter64HighWrite (rq : Req) (c : Ctr64) (data : Word) (s : State) : Host.Outcome State Fault Refusal :=
  .next (s.ctrWriteHigh rq data c)
/-- R54. -/
def execCounter64LowWrite (rq : Req) (c : Ctr64) (data : Word) (s : State) : Host.Outcome State Fault Refusal :=
  .next (s.ctrWriteLow rq data c)

end Sys2Proof.Machine
end

