-- ==== Sys2Proof/Machine/HostPort.lean ====
section
/-! DEFINITION. The host port's frames (R305 to R316), the Faceplate's refreshes (R317, R318), and the queues' registers (R325 to
R333). -/

namespace Sys2Proof.Machine
open Sys2Proof

/-! ### The status word (R307) -/

/-- R307, R395: the in-frame status word now; INTA and INTB show the pins, which hold their latched level until their pads are released. -/
def Chip.statusWord (c : Chip) : Word :=
  let low (t : Nat) (latched : Bool) : Nat := (if c.flag R.SYS_PAD_HOLD (bitFld 0) then latched else c.interrupted t).toNat
  let x := wordOf [(31, c.hsp.resp.isSome.toNat), (30, c.hsp.busy.isSome.toNat), (29, c.hsp.frameErr.toNat),
    (28, low 5 c.modex.intA), (27, low 6 c.modex.intB), (26, c.logFull.toNat), (25, (fpWord c.hsp.front 0x10 != 0).toNat),
    (24, (decide (32 ≤ c.qFree 0)).toNat), (20, c.mode), (16, (fpWord c.hsp.front 0).toNat % 16),
    (8, min 255 (c.queue 1).head), (6, 1), (0, min 31 (c.queue 1).pkts)]
  (bitFld 5).put x (ones 32 (x.toNat / 32 * 32) % 2)

/-- R305 to R307: HSP_CS_N falls. In STORAGE no frame has any effect (R320). -/
def Chip.csFall (c : Chip) (mode3 : Bool) : Chip :=
  if c.mode = 0 ∨ c.hsp.inFrame then c
  else c.setHsp { c.hsp with inFrame := true, mode3 := mode3, quad := c.flag R.HSP_CFG F.HSP_CFG_QUAD, frameErr := false
                             status := c.statusWord, out := [] }

/-! ### Frames (R309 to R313) -/

/-- R310: the causes for which a frame is refused. -/
inductive FrameErr where
  | short | badOpcode | align | range | deferBusy | part | notReady
  deriving DecidableEq, Repr

def FrameErr.code : FrameErr → Nat
  | .short => 1 | .badOpcode => 2 | .align => 3 | .range => 4 | .deferBusy => 5 | .part => 6 | .notReady => 7

/-- R310: a refused frame is counted and recorded, EV018; the next frame's status shows FRAME_ERR. -/
def Chip.refuseFrame (c : Chip) (e : FrameErr) (op addr : Nat) : Chip :=
  let c := c.setHsp { c.hsp with frameErr := true }
  (c.bump R.HSP_FRAME_ERR_CNT).wr R.HSP_ERR_INFO (F.HSP_ERR_INFO_CODE.put (F.HSP_ERR_INFO_OPCODE.of op) e.code)
    |>.wr R.HSP_ERR_ADDR (.ofNat 32 addr) |>.raise 18

/-- A frame ends: HSP_CS_N rises. -/
def Chip.csRise (c : Chip) : Chip := c.setHsp { c.hsp with inFrame := false }

/-- An open frame with a full header, with what refuses it, ends. Assumption log 74 (DEDUCED). -/
def State.frame (s : State) (op addr : Nat) (why : Option FrameErr) (f : State → State) : State :=
  if !s.chip.hsp.inFrame then s
  else
    let s := s.onChip fun c => c.csRise.bumpWrap R.HSP_FRAME_CNT
    match why with
    | some e => (if e = .part ∧ s.chip.hsp.ready then f s else s).onChip fun c => c.refuseFrame e op addr
    | none => f s

/-- The first cause that holds. Assumption log 74 (DEDUCED). -/
def firstErr : List (Bool × FrameErr) → Option FrameErr
  | [] => none
  | (b, e) :: l => if b then some e else firstErr l

/-- R311: a host address above the Faceplate, in the module's address map. -/
def Chip.hostAddr (c : Chip) (a : Nat) : Nat :=
  if a < 0x800000 then sramBase + c.fget R.HSP_CFG F.HSP_CFG_SRAM_HI * 0x400000 + (a - 0x400000) else 0x40000000 + (a - 0x800000)

def hostRange (a : Nat) : Bool := decide (0x400000 ≤ a) && decide (a < 0x1000000)

/-- R312, R313: one word that the host writes at a host address. -/
def State.hostWrite (s : State) (h : Nat) (x : Word) : State :=
  let a := s.chip.hostAddr h
  if h < 0x800000 then
    if s.chip.bankOpen a then s.store .host a (wordBytes x) else s.onChip Chip.hostRefused
  else if s.chip.hostMay a then s.onChip fun c => c.periphWrite .host a x else s.onChip Chip.hostRefused

/-- Words to consecutive addresses (R309). -/
def State.hostWords : State → Nat → List Word → State
  | s, _, [] => s
  | s, h, x :: l => State.hostWords (s.hostWrite h x) (h + 4) l

/-- The queue whose Q_PUSH a host address is (R309, R311). -/
def hostQueue (h : Nat) : Option Nat :=
  if 0x800000 ≤ h then
    match findReg (0x40000000 + (h - 0x800000)) with
    | some (d, [q]) => if d.id = .Q_PUSH then some q else none
    | _ => none
  else none

/-- R310, R312, R313, R529: a packet for queue q. -/
def Chip.hostPacket (c : Chip) (q : Nat) (ws : List Word) : Chip :=
  if ws = [] then c
  else if !c.isProducer .host q then c.hostRefused
  else c.access .host (.packet q ws)

/-- A frame of write data. -/
def State.writeFrame (s : State) (op addr : Nat) (last : Nat) (part : Bool) (f : State → State) : State :=
  s.frame op addr (firstErr [(addr % 4 != 0, .align), (!(hostRange addr && hostRange last), .range), (part, .part), (!s.chip.hsp.ready, .notReady)]) f

/-- R309: FP_READ: words of the front buffer from an offset on, which wraps. -/
def Chip.fpRead (c : Chip) (o n : Nat) : Chip :=
  c.setHsp { c.hsp with out := (List.range n).map fun k => fpWord c.hsp.front ((o + 4 * k) % 0x1000) }

/-- R315: the words of the waiting response; none if none waits. -/
def Chip.response (c : Chip) : List Word :=
  match c.hsp.resp with
  | none => []
  | some (a, l) =>
    let bad := (List.range l.length).filter fun k => ((l[k]?).map fun x => x.2 != 0).getD false
    wordOf [(31, 1), (30, (!bad.isEmpty).toNat), (24, l.length), (0, a)] ::
      wordOf ((0, ((l.find? fun x => x.2 != 0).map (·.2)).getD 0) :: bad.map fun k => (16 + k, 1)) :: l.map (·.1)

/-- R315: FETCH: the response is released only if its last word was clocked out. -/
def Chip.fetch (c : Chip) (n : Nat) : Chip :=
  let r := c.response
  c.setHsp { c.hsp with out := (List.range n).map fun k => r[k]?.getD 0
                        resp := if r ≠ [] ∧ r.length ≤ n then none else c.hsp.resp }

/-! ### Deferred reads (R314, R316) -/

/-- R314: a frame asks for n reads. -/
def State.readReq (s : State) (op addr n : Nat) (fixed : Bool) : State :=
  let last := if fixed then addr else addr + 4 * (n - 1)
  s.frame op addr (firstErr [(addr % 4 != 0, .align), (!(hostRange addr && hostRange last), .range),
      (s.chip.hsp.busy.isSome || s.chip.hsp.resp.isSome, .deferBusy), (!s.chip.hsp.ready, .notReady)])
    fun s => s.onChip fun c =>
      let w := c.stalled .host
      let c := c.setHsp { c.hsp with busy := some ⟨addr, fixed, n, !w⟩ }
      if w then c.hold .host .reads else c

/-- The host addresses of a request. -/
def Defer.addrs (d : Defer) : List Nat := (List.range d.count).map fun k => if d.fixed then d.addr else d.addr + 4 * k

/-- The read of a host address can complete now: a SYS_DRAIN read once the host's writes have resolved, a remote die's
once its link is in step, so that every write sent on it has landed. -/
def Chip.hostReady (c : Chip) (h : Nat) : Bool :=
  let a := c.hostAddr h
  let d := dieOf a
  if h < 0x800000 then true
  else if a = R.SYS_DRAIN then c.drained .host
  else if d = 0 then true
  else !c.linkUp d || c.inStep d

/-- One deferred read: its data and syndrome (0: none). -/
def State.hostRead (s : State) (h : Nat) : (Word × Nat) × State :=
  let c := s.chip
  let a := c.hostAddr h
  let got (c : Chip) : (Word × Nat) × State := (((c.respOf .host).data, (c.respOf .host).err), { s with chip := c })
  if h < 0x800000 then
    if !c.bankOpen a then ((0, 0), s.onChip Chip.hostRefused)
    else if !c.awake then got (c.failRead .host .blockOff a)
    else if c.bankLost a then got (c.failRead .host .poison a)
    else ((Memory.word s.sram a, 0), s)
  else if inBlock a then got (c.readNow .host a)
  else got (c.failRead .host .decode a)

/-- The reads of a request, in their order. Assumption log 74 (DEDUCED). -/
def State.hostReads : State → List Nat → List (Word × Nat) × State
  | s, [] => ([], s)
  | s, h :: l =>
    let (x, s) := s.hostRead h
    let (xs, s) := State.hostReads s l
    (x :: xs, s)

/-- R314: the last read completes: the response waits, EV017. -/
def State.readsDone (s : State) : State :=
  match s.chip.hsp.busy with
  | none => s
  | some d =>
    if d.turn ∧ d.addrs.all s.chip.hostReady then
      let (xs, s) := (s.onChip fun c => c.setHsp { c.hsp with busy := none }).hostReads d.addrs
      s.onChip fun c => ((c.setHsp { c.hsp with resp := some (d.addr, xs) }).raise 17).resume .host
    else s

/-- R316: a control-die reset completes a request in progress, every word failed. -/
def Chip.failDeferred (c : Chip) : Chip :=
  match c.hsp.busy with
  | none => c
  | some d => c.setHsp { c.hsp with busy := none, resp := some (d.addr, List.replicate d.count (0, Syndrome.blockOff.code)) }

/-- R310: a frame with fewer than 32 clocks, of which the header bits received count, or with an opcode that R309 does not list.
Assumption log 74 (DEDUCED). -/
def Chip.badFrame (c : Chip) (clocks op addr : Nat) : Chip :=
  if !c.hsp.inFrame then c
  else if clocks < 32 then
    let h := (op * 2 ^ 24 + addr) / 2 ^ (32 - clocks) * 2 ^ (32 - clocks)
    c.csRise.refuseFrame .short (h / 2 ^ 24) (h % 2 ^ 24)
  else if [0x00, 0x02, 0x03, 0x05, 0x06, 0x0B, 0x0F].contains op ∨ (0x10 ≤ op ∧ op < 0x30) then c
  else (c.csRise.bumpWrap R.HSP_FRAME_CNT).refuseFrame .badOpcode op addr

/-! ### Completions held (R344) -/

/-- R344: the oldest held completion of a requester is written once its queue has room of 34 words. Assumption log 49 (DEDUCED). -/
def Chip.flushComp (c : Chip) (rq : Req) : Chip :=
  match c.heldComps.find? fun h => h.1 = rq with
  | some h =>
    if 34 ≤ c.qFree (compQueue rq) then { c with heldComps := c.heldComps.erase h }.hwPush (compQueue rq) h.2 else c
  | none => c

/-! ### Meanings -/

/-- R305 to R307. -/
def execHspCsFall (mode3 : Bool) (s : State) : Host.Outcome State Fault Refusal := .next (s.onChip (·.csFall mode3))
/-- R309. -/
def execHspNop (addr : BitVec 24) (s : State) : Host.Outcome State Fault Refusal := .next (s.frame 0x00 addr.toNat none id)
/-- R309 to R313. -/
def execHspWrite (addr : BitVec 24) (ws : List Word) (part : Bool) (s : State) : Host.Outcome State Fault Refusal :=
  .next (s.writeFrame 0x02 addr.toNat (addr.toNat + 4 * (ws.length - 1)) part fun s => s.hostWords addr.toNat ws)
/-- R309 to R313. -/
def execHspWriteFixed (addr : BitVec 24) (ws : List Word) (part : Bool) (s : State) : Host.Outcome State Fault Refusal :=
  .next (s.writeFrame 0x03 addr.toNat addr.toNat part fun s => ws.foldl (fun s x => s.hostWrite addr.toNat x) s)
/-- R315. -/
def execHspFetch (addr : BitVec 24) (words : Nat) (s : State) : Host.Outcome State Fault Refusal :=
  .next (s.frame 0x05 addr.toNat none fun s => s.onChip (·.fetch words))
/-- R309, R310: a packet is delivered whole or not at all. -/
def execHspWritePkt (addr : BitVec 24) (ws : List Word) (part : Bool) (s : State) : Host.Outcome State Fault Refusal :=
  .next (match hostQueue addr.toNat with
    | some q => s.writeFrame 0x06 addr.toNat addr.toNat part fun s => if part then s else s.onChip (·.hostPacket q ws)
    | none => s.frame 0x06 addr.toNat (some (if addr.toNat % 4 ≠ 0 then .align else .range)) id)
/-- R309, R311. -/
def execHspFpRead (addr : BitVec 24) (words : Nat) (s : State) : Host.Outcome State Fault Refusal :=
  .next (s.frame 0x0B addr.toNat (firstErr [(addr.toNat % 4 != 0, .align), (decide (0x1000 ≤ addr.toNat), .range)])
    fun s => s.onChip (·.fpRead addr.toNat words))
/-- R314: n + 1 reads of consecutive addresses. -/
def execHspReadReq (n : Fin 16) (addr : BitVec 24) (s : State) : Host.Outcome State Fault Refusal :=
  .next (s.readReq (0x10 + n.val) addr.toNat (n.val + 1) false)
/-- R314: n + 1 reads of one address. -/
def execHspReadReqFixed (n : Fin 16) (addr : BitVec 24) (s : State) : Host.Outcome State Fault Refusal :=
  .next (s.readReq (0x20 + n.val) addr.toNat (n.val + 1) true)
/-- R314. -/
def execDeferredReadsDone (s : State) : Host.Outcome State Fault Refusal := .next s.readsDone
/-- R310. -/
def execHspShortOrBadOpcodeFrame (clocks : Nat) (op : BitVec 8) (addr : BitVec 24) (s : State) : Host.Outcome State Fault Refusal :=
  .next (s.onChip (·.badFrame clocks op.toNat addr.toNat))
/-- R317; ms: the tick of a whole millisecond. -/
def execFpCaptureTick (ms : Bool) (s : State) : Host.Outcome State Fault Refusal := .next (s.onChip (·.fpTick ms))
/-- R318. -/
def execFpSwap (s : State) : Host.Outcome State Fault Refusal := .next (s.onChip (·.fpSwap))
/-- R326, R327. -/
def execQPushWrite (rq : Req) (q : Fin 32) (data : Word) (s : State) : Host.Outcome State Fault Refusal :=
  .next (s.write rq (R.Q_PUSH q) data)
/-- R326, R327. -/
def execQPushEopWrite (rq : Req) (q : Fin 32) (data : Word) (s : State) : Host.Outcome State Fault Refusal :=
  .next (s.write rq (R.Q_PUSH_EOP q) data)
/-- R326, R329. -/
def execQPopRead (rq : Req) (q : Fin 32) (s : State) : Host.Outcome State Fault Refusal := .next (s.read rq (R.Q_POP q))
/-- R330. -/
def execQMark (rq : Req) (q : Fin 32) (s : State) : Host.Outcome State Fault Refusal :=
  .next (s.write rq (R.Q_PROD_CTRL q) (F.Q_PROD_CTRL_MARK.of 1))
/-- R330. -/
def execQRewind (rq : Req) (q : Fin 32) (s : State) : Host.Outcome State Fault Refusal :=
  .next (s.write rq (R.Q_PROD_CTRL q) (F.Q_PROD_CTRL_REWIND.of 1))
/-- R325. -/
def execQEnable (rq : Req) (q : Fin 32) (data : Word) (s : State) : Host.Outcome State Fault Refusal :=
  .next (s.write rq (R.Q_CFG q) (F.Q_CFG_EN.put data 1))
/-- R529. -/
def execQDisable (rq : Req) (q : Fin 32) (data : Word) (s : State) : Host.Outcome State Fault Refusal :=
  .next (s.write rq (R.Q_CFG q) (F.Q_CFG_EN.put data 0))
/-- R331: a hardware producer's packet. -/
def execHwPacketPush (q : Fin 32) (ws : List Word) (s : State) : Host.Outcome State Fault Refusal :=
  .next (s.onChip fun c => if c.awake ∧ c.fget (R.Q_CFG q) F.Q_CFG_PROD = 0xF then c.hwPush q ws else c)
/-- R344. -/
def execCmdCompletionFlush (rq : Req) (s : State) : Host.Outcome State Fault Refusal := .next (s.onChip (·.flushComp rq))

end Sys2Proof.Machine
end

