-- ==== Sys2Proof/Machine/Writes.lean ====
section
/-! DEFINITION. The commands that write or read one register with a row of its own: a requester's access to that register, with
the bit that names the row forced. What the write does stands with the register (Machine/Bus.lean); a core's PMP is asked
first (State.write, R278). -/

namespace Sys2Proof.Machine
open Sys2Proof

/-- R91. -/
def execChCmdApply (rq : Req) (ch : Fin 192) (data : Word) (s : State) : Host.Outcome State Fault Refusal :=
  .next (s.write rq (R.CH_CMD ch) (F.CH_CMD_APPLY.put data 1))
/-- R141. -/
def execChCmdRearm (rq : Req) (ch : Fin 192) (data : Word) (s : State) : Host.Outcome State Fault Refusal :=
  .next (s.write rq (R.CH_CMD ch) (F.CH_CMD_REARM.put data 1))
/-- R91, R95. -/
def execPwrCommitGo (rq : Req) (n : Fin 4) (data : Word) (s : State) : Host.Outcome State Fault Refusal :=
  .next (s.write rq (R.PWR_COMMIT n) (F.PWR_COMMIT_GO.put data 1))
/-- R116. -/
def execIsBudgetWrite (rq : Req) (n : Fin 4) (data : Word) (s : State) : Host.Outcome State Fault Refusal :=
  .next (s.write rq (R.IS_BUDGET n) (data))
/-- R116. -/
def execIsEnableWrite (rq : Req) (n : Fin 4) (data : Word) (s : State) : Host.Outcome State Fault Refusal :=
  .next (s.write rq (R.IS_CTRL n) (F.IS_CTRL_ENABLE.put data 0))
/-- R112. -/
def execIsDeferMaxWrite (rq : Req) (n : Fin 4) (data : Word) (s : State) : Host.Outcome State Fault Refusal :=
  .next (s.write rq (R.IS_CTRL n) (data))
/-- R73. -/
def execPwrPairWrite (rq : Req) (n : Fin 4) (data : Word) (s : State) : Host.Outcome State Fault Refusal :=
  .next (s.write rq (R.PWR_PAIR n) (data))
/-- R88. -/
def execChOwnerWrite (rq : Req) (ch : Fin 192) (data : Word) (s : State) : Host.Outcome State Fault Refusal :=
  .next (s.write rq (R.CH_OWNER ch) (data))
/-- R153. -/
def execChDisableSet (rq : Req) (ch : Fin 192) (force : Bool) (s : State) : Host.Outcome State Fault Refusal :=
  .next (s.write rq (R.CH_DISABLE ch) (F.CH_DISABLE_FORCE.put (F.CH_DISABLE_DIS.of 1) force.toNat))
/-- R154. -/
def execChEnable (rq : Req) (ch : Fin 192) (s : State) : Host.Outcome State Fault Refusal :=
  .next (s.write rq (R.CH_DISABLE ch) (0))
/-- R173. -/
def execStreamCtrlWrite (rq : Req) (n : Fin 4) (data : Word) (s : State) : Host.Outcome State Fault Refusal :=
  .next (s.write rq (R.PWR_STREAM_CTRL n) (data))
/-- R180. -/
def execXcGo (rq : Req) (n : Fin 4) (data : Word) (s : State) : Host.Outcome State Fault Refusal :=
  .next (s.write rq (R.PWR_XC_CTRL n) (F.PWR_XC_CTRL_GO.put data 1))
/-- R187. -/
def execTdrGo (rq : Req) (n : Fin 4) (data : Word) (s : State) : Host.Outcome State Fault Refusal :=
  .next (s.write rq (R.PWR_TDR_CTRL n) (F.PWR_TDR_CTRL_GO.put data 1))
/-- R190. -/
def execTdrStop (rq : Req) (n : Fin 4) (data : Word) (s : State) : Host.Outcome State Fault Refusal :=
  .next (s.write rq (R.PWR_TDR_CTRL n) (F.PWR_TDR_CTRL_STOP.put data 1))
/-- R192. -/
def execCantMeasTerm (rq : Req) (n : Fin 6) (data : Word) (s : State) : Host.Outcome State Fault Refusal :=
  .next (s.write rq (R.SEN_CANT_HLTH_CTRL n) (F.SEN_CANT_HLTH_CTRL_MEAS_TERM.put data 1))
/-- R192. -/
def execCantMeasStep (rq : Req) (n : Fin 6) (data : Word) (s : State) : Host.Outcome State Fault Refusal :=
  .next (s.write rq (R.SEN_CANT_HLTH_CTRL n) (F.SEN_CANT_HLTH_CTRL_MEAS_STEP.put data 1))
/-- R200. -/
def execLsCtrlApply (rq : Req) (x : Fin 24) (data : Word) (s : State) : Host.Outcome State Fault Refusal :=
  .next (s.write rq (R.LS_CTRL x) (F.LS_CTRL_APPLY.put data 1))
/-- R207. -/
def execLsCtrlRearm (rq : Req) (x : Fin 24) (data : Word) (s : State) : Host.Outcome State Fault Refusal :=
  .next (s.write rq (R.LS_CTRL x) (F.LS_CTRL_REARM.put data 1))
/-- R200. -/
def execLedCommitGo (rq : Req) (data : Word) (s : State) : Host.Outcome State Fault Refusal :=
  .next (s.write rq (R.LED_COMMIT) (F.LED_COMMIT_GO.put data 1))
/-- R205. -/
def execLedHrRearm (rq : Req) (data : Word) (s : State) : Host.Outcome State Fault Refusal :=
  .next (s.write rq (R.LED_HR_CTRL) (F.LED_HR_CTRL_REARM.put data 1))
/-- R216. -/
def execLfDisable (rq : Req) (g : Fin 12) (data : Word) (s : State) : Host.Outcome State Fault Refusal :=
  .next (s.write rq (R.LF_CFG g) (F.LF_CFG_EN.put data 0))
/-- R219. -/
def execPeCtrlStart (rq : Req) (e : Fin 8) (data : Word) (s : State) : Host.Outcome State Fault Refusal :=
  .next (s.write rq (R.PE_CTRL e) (F.PE_CTRL_START.put data 1))
/-- R219. -/
def execPeCtrlStop (rq : Req) (e : Fin 8) (data : Word) (s : State) : Host.Outcome State Fault Refusal :=
  .next (s.write rq (R.PE_CTRL e) (F.PE_CTRL_STOP.put data 1))
/-- R237. -/
def execVlvCmdReqClear (rq : Req) (v : Fin 16) (data : Word) (s : State) : Host.Outcome State Fault Refusal :=
  .next (s.write rq (R.VLV_CMD v) (F.VLV_CMD_REQ.put data 0))
/-- R245. -/
def execVlvDisable (rq : Req) (v : Fin 16) (data : Word) (s : State) : Host.Outcome State Fault Refusal :=
  .next (s.write rq (R.VLV_CFG v) (F.VLV_CFG_EN.put data 0))
/-- R245. -/
def execVlvEnable (rq : Req) (v : Fin 16) (data : Word) (s : State) : Host.Outcome State Fault Refusal :=
  .next (s.write rq (R.VLV_CFG v) (F.VLV_CFG_EN.put data 1))
/-- R231. -/
def execVgParWrite (rq : Req) (g : Fin 8) (data : Word) (s : State) : Host.Outcome State Fault Refusal :=
  .next (s.write rq (R.VG_CFG g) (data))
/-- R263. -/
def execFpCmdOnWrite (rq : Req) (p : Fin 32) (on : Bool) (s : State) : Host.Outcome State Fault Refusal :=
  .next (s.write rq (R.FP_CMD p) (F.FP_CMD_ON.of on.toNat))
/-- R265. -/
def execFpDisable (rq : Req) (p : Fin 32) (data : Word) (s : State) : Host.Outcome State Fault Refusal :=
  .next (s.write rq (R.FP_CFG p) (F.FP_CFG_EN.put data 0))
/-- R260. -/
def execFpModeWrite (rq : Req) (p : Fin 32) (data : Word) (s : State) : Host.Outcome State Fault Refusal :=
  .next (s.write rq (R.FP_CFG p) (data))
/-- R369. -/
def execCanTxreqWrite (rq : Req) (n : Fin 9) (w : Fin 2) (data : Word) (s : State) : Host.Outcome State Fault Refusal :=
  .next (s.write rq (R.CAN_TXREQ n w) (data))
/-- R370. -/
def execCanTxcancelWrite (rq : Req) (n : Fin 9) (w : Fin 2) (data : Word) (s : State) : Host.Outcome State Fault Refusal :=
  .next (s.write rq (R.CAN_TXCANCEL n w) (data))
/-- R356. -/
def execCanEnSet (rq : Req) (n : Fin 9) (data : Word) (s : State) : Host.Outcome State Fault Refusal :=
  .next (s.write rq (R.CAN_MODE n) (F.CAN_MODE_EN.put data 1))
/-- R359. -/
def execCanRecover (rq : Req) (n : Fin 9) (data : Word) (s : State) : Host.Outcome State Fault Refusal :=
  .next (s.write rq (R.CAN_MODE n) (F.CAN_MODE_RECOVER.put data 1))
/-- R379. -/
def execLinSleepWrite (rq : Req) (n : Fin 4) (data : Word) (s : State) : Host.Outcome State Fault Refusal :=
  .next (s.write rq (R.LIN_CTRL n) (F.LIN_CTRL_SLEEP.put data 1))
/-- R379. -/
def execLinWakeWrite (rq : Req) (n : Fin 4) (data : Word) (s : State) : Host.Outcome State Fault Refusal :=
  .next (s.write rq (R.LIN_CTRL n) (F.LIN_CTRL_WAKE.put data 1))
/-- R395. -/
def execPadRelease (rq : Req) (data : Word) (s : State) : Host.Outcome State Fault Refusal :=
  .next (s.write rq (R.SYS_PAD_RELEASE) (data))
/-- R399. -/
def execRetAckWrite (rq : Req) (data : Word) (s : State) : Host.Outcome State Fault Refusal :=
  .next (s.write rq (R.RET_ACK) (data))
/-- R408. -/
def execWdtKick (rq : Req) (s : State) : Host.Outcome State Fault Refusal :=
  .next (s.write rq (R.SYS_WDT_KICK) (F.SYS_WDT_KICK_KICK.of 1))
/-- R421. -/
def execNmLocalAwakeWrite (rq : Req) (data : Word) (s : State) : Host.Outcome State Fault Refusal :=
  .next (s.write rq (R.NM_LOCAL) (data))
/-- R427. -/
def execNmOffClear (rq : Req) (data : Word) (s : State) : Host.Outcome State Fault Refusal :=
  .next (s.write rq (R.NM_OFF_CLEAR) (F.NM_OFF_CLEAR_CLEAR.put data 1))
/-- R467. -/
def execPwrSealAck (rq : Req) (data : Word) (s : State) : Host.Outcome State Fault Refusal :=
  .next (s.write rq (R.PWR_SEAL_ACK) (data))
/-- R233: vboost is VBOOST as it reaches the die, in 0.1 V. -/
def execVlvCmdReqSet (rq : Req) (v : Fin 16) (data : Word) (vboost : Nat) (s : State) : Host.Outcome State Fault Refusal :=
  .next (State.write (s.onChip fun c => if c.linkUp (vDie v + 2) then c.vbCompare (vDie v) vboost else c) rq (R.VLV_CMD v) (F.VLV_CMD_REQ.put data 1))
/-- R244: cool says that the switch is below 150 °C. -/
def execVlvCmdRearm (rq : Req) (v : Fin 16) (data : Word) (cool : Bool) (s : State) : Host.Outcome State Fault Refusal :=
  .next (State.write (s.onChip fun c => if cool then c.setValve v { c.valve v with hot := false } else c) rq (R.VLV_CMD v) (F.VLV_CMD_REARM.put data 1))
/-- R263: cool says that the switch is below 150 °C. -/
def execFpCmdRearm (rq : Req) (p : Fin 32) (data : Word) (cool : Bool) (s : State) : Host.Outcome State Fault Refusal :=
  .next (State.write (s.onChip fun c => if cool then c.setFp p { c.fp p with hot := false } else c) rq (R.FP_CMD p) (F.FP_CMD_REARM.put data 1))
/-- R371: receiving says that a frame is being received. -/
def execCanEnClear (rq : Req) (n : Fin 9) (data : Word) (receiving : Bool) (s : State) : Host.Outcome State Fault Refusal :=
  .next (State.write (s.onChip fun c => if c.canEn n ∧ c.awake then c.fbit (R.CAN_STATUS n) F.CAN_STATUS_RX_ACTIVE receiving else c)
    rq (R.CAN_MODE n) (F.CAN_MODE_EN.put data 0))
/-- R365: a read of W0 of the selected buffer. -/
def execCanMbW0Read (rq : Req) (n : Fin 9) (s : State) : Host.Outcome State Fault Refusal := .next (s.read rq (R.CAN_MB_W n 0))
/-- R365: a read of the last word of the selected buffer. -/
def execCanMbLastRead (rq : Req) (n : Fin 9) (s : State) : Host.Outcome State Fault Refusal :=
  .next (s.read rq (R.CAN_MB_W n (lastWord (s.chip.mbWord n (s.chip.mbSelOf n rq) 1))))
/-- R254. -/
def execSiState0Read (rq : Req) (s : State) : Host.Outcome State Fault Refusal := .next (s.read rq R.SI_STATE0)

end Sys2Proof.Machine
end

