-- ==== Sys2Proof/Machine/LogCmds.lean ====
section
/-! DEFINITION. The Grain log's exports, acknowledgements and erasure (R477 to R480), authority blobs and the policy (R463, R464),
the signer (R461), the recorder's ends (R467, R468), and the load registers (R510). -/

namespace Sys2Proof.Machine
open Sys2Proof

/-! ### Completing one command in flight -/

/-- A command in flight leaves the table and completes. -/
def Chip.endCmd (c : Chip) (k : Cmd) (st : CmdStatus) (res : List Word) : Chip :=
  { c with cmds := c.cmds.filter fun x => !(x.rq == k.rq && x.tag == k.tag) }.complete k.rq k.op k.tag st res (k.flags st)

/-- R339: it fails with a DETAIL: payload word arg, reason, object. -/
def Chip.failCmd (c : Chip) (k : Cmd) (st : CmdStatus) (arg : Nat) (reason : Nat := 0) (obj : Nat := 0xFFFF) : Chip :=
  c.endCmd k st [detail arg reason obj]

/-- Payload word i of a command; w1 is the first. -/
def Cmd.arg (k : Cmd) (i : Nat) : Word := (k.w[i - 1]?).getD 0

/-- R351: it completes DENIED, is logged and raises EV226. -/
def Chip.denyCmd (c : Chip) (k : Cmd) : Chip := (c.refusedCommand k.rq k.op CmdStatus.denied.code (k.arg 1)).failCmd k .denied 0xFF

/-! ### Bytes in SRAM -/

def leNat : List Byte → Nat
  | [] => 0
  | b :: l => b.toNat + 256 * leNat l

/-- Store bytes word by word. -/
def State.storeAll : State → Req → Nat → List Byte → State
  | s, rq, a, b0 :: b1 :: b2 :: b3 :: l => State.storeAll (s.store rq a [b0, b1, b2, b3]) rq (a + 4) l
  | s, _, _, [] => s
  | s, rq, a, l => s.store rq a l

/-- Bytes a to a + n - 1 lie in SRAM and, for the host, in banks open to it (spec/11). -/
def Chip.inRoom (c : Chip) (rq : Req) (a n : Nat) : Bool :=
  inSram a && inSram (a + n - 1) && (rq != .host || (List.range (bankOf (a + n - 1) - bankOf a + 1)).all fun j => c.bankOpen (a + j * bankSize))

/-- A bank of the range is LOST (R399). -/
def Chip.rangeLost (c : Chip) (a n : Nat) : Bool := (List.range (bankOf (a + n - 1) - bankOf a + 1)).any fun j => c.bankLost (a + j * bankSize)

/-! ### Authority blobs (R463) -/

/-- What the checks of R463 find: BAD_ARG with an ARG, DENIED, or the slot, counter and body. -/
inductive Blob where
  | bad (arg : Nat)
  | denied
  | ok (slot counter : Nat) (body : List Byte)

def Chip.authKey (c : Chip) (k : Nat) : List Word := Tbl.get (fun _ => []) c.authKeys k

/-- R463: a blob of a kind, n bytes at address a. Assumption log 48 (DEDUCED). -/
def State.blob (s : State) (kind a n : Nat) : Blob :=
  let m := Memory.bytes s.sram a n
  let field (o w : Nat) : Nat := leNat ((m.drop o).take w)
  let body := field 24 4
  let slot := field 3 1
  if s.chip.rangeLost a n then .bad 1
  else if n < 28 ∨ n ≠ 7884 + body ∨ field 0 2 ≠ kind ∨ field 2 1 ≠ 1 then .bad 2
  else if 4 ≤ slot ∨ !(c s).testBit slot ∨ (m.drop 8).take 16 ≠ deviceId ∨ field 4 4 ≤ (s.chip.rd R.SEC_AUTH_CNT).toNat
      ∨ !Config.verifies (s.chip.authKey slot) (m.take (28 + body)) (m.drop (28 + body)) then .denied
  else .ok slot (field 4 4) ((m.drop 28).take body)
where c (s : State) : Nat := s.chip.fget R.SEC_AUTH F.SEC_AUTH_WRITTEN

/-- R463: a blob that is DENIED. -/
def Chip.denyBlob (c : Chip) (k : Cmd) : Chip := (c.raise 197).denyCmd k

/-- R463: the counter of an accepted blob. -/
def Chip.authCount (c : Chip) (n : Nat) : Chip := c.wr R.SEC_AUTH_CNT (.ofNat 32 n)

/-! ### Acknowledging and erasing the log (R475, R476, R478, R479) -/

/-- R475: folding ends where the main ring has room: a FOLD_SUMMARY record for each folded type, EV196. Assumption log 46 (DEDUCED). -/
def Chip.endFolding (c : Chip) : Chip :=
  if c.grain.folds ≠ [] ∧ c.grain.mainRoom ∨ c.folding ∧ c.grain.mainRoom then
    let was := c.folding
    let fs := c.grain.folds
    let c := (c.setGrain { c.grain with folds := [] }).fset R.SEC_LOG_STATUS F.SEC_LOG_STATUS_FOLDING 0
    let c := fs.foldl (fun c f => c.logAdd 0x03 (payload [(0, 1, f.typ), (4, 4, f.count), (8, 4, f.first), (12, 4, f.last)]) false) c
    if was then c.raise 196 else c
  else c

/-- R476: reserve space is free again: LOG_FULL clears, EV194. -/
def Chip.endFull (c : Chip) : Chip :=
  if c.logFull ∧ c.grain.reserveRoom then (c.fset R.SEC_LOG_STATUS F.SEC_LOG_STATUS_LOG_FULL 0).raise 194 else c

/-- The LINK of the record of a SEQ that may be acknowledged (R478). -/
def Grain.linkOf (g : Grain) (seq : Nat) : Option (BitVec 256) :=
  if seq + 1 = g.mark then g.markLink else (g.recs.find? fun r => r.seq = seq).map (·.link)

/-- R478: the log is acknowledged up to a SEQ. Assumption log 45 (DESIGN CHOICE), 46 (DEDUCED). -/
def Chip.logAck (c : Chip) (seq slot counter : Nat) (link : BitVec 256) : Chip :=
  let old := c.grain.mark
  let c := (c.authCount counter).setGrain { c.grain with mark := seq + 1, markLink := some link, recs := c.grain.recs.filter (seq < ·.seq) }
  let full := c.logFull
  let c := (c.logSync.endFull).endFolding
  (c.log 0x8D (payload [(0, 4, old), (4, 4, seq + 1), (8, 1, slot), (12, 4, counter)])).logLostRecord full

/-- R478: LOG_ACK. -/
def State.ackCmd (s : State) (k : Cmd) : State :=
  match s.blob 2 (k.arg 1).toNat (k.arg 2).toNat with
  | .bad a => s.onChip (·.failCmd k .badArg a)
  | .denied => s.onChip (·.denyBlob k)
  | .ok slot counter body =>
    let seq := leNat (body.take 4)
    let link : BitVec 256 := .ofNat 256 ((body.drop 4).foldl (fun a b => a * 256 + b.toNat) 0)
    s.onChip fun c =>
      if body.length = 36 ∧ c.grain.linkOf seq = some link then
        let c := c.logAck seq slot counter link
        c.endCmd k .ok [.ofNat 32 c.grain.mark]
      else c.failCmd k .badArg 1

/-- R474: the records that the log's slots hold now. -/
def Grain.present (g : Grain) : Nat :=
  (if g.mainCnt ≤ mainSlots ∨ g.mainCnt % 64 = 0 then min g.mainCnt mainSlots else mainSlots - 64 + g.mainCnt % 64) + g.inReserve.length

/-- R479: an erasure starts: the LOG_ERASED record is kept, and records are held. -/
def Chip.eraseStart (c : Chip) (slot counter : Nat) : Chip :=
  let pay := payload [(0, 4, c.grain.nextSeq - 1), (4, 4, c.grain.present), (8, 1, slot), (12, 4, counter)]
  ((c.authCount counter).fset R.SEC_LOG_STATUS F.SEC_LOG_STATUS_ERASING 1).setGrain { c.grain with held := [(0x8E, pay)], folds := [] }

/-- R479: LOG_ERASE. -/
def State.eraseCmd (s : State) (k : Cmd) : State :=
  match s.blob 3 (k.arg 1).toNat (k.arg 2).toNat with
  | .bad a => s.onChip (·.failCmd k .badArg a)
  | .denied => s.onChip (·.denyBlob k)
  | .ok slot counter body => s.onChip fun c => if body ≠ [] then c.failCmd k .badArg 1 else c.eraseStart slot counter

/-- R479: the erasure is done: LOG_ERASED is the first record of the emptied main ring, the held records follow. Assumption log 46 (DEDUCED). -/
def Chip.eraseDone (c : Chip) : Chip :=
  let g := c.grain
  match g.held with
  | [] => c
  | (typ, pay) :: rest =>
    let fold := c.folding
    let full := c.logFull
    let c := (c.fset R.SEC_LOG_STATUS F.SEC_LOG_STATUS_ERASING 0).fset R.SEC_LOG_STATUS F.SEC_LOG_STATUS_FOLDING 0
      |>.fset R.SEC_LOG_STATUS F.SEC_LOG_STATUS_LOG_FULL 0
    let c := (c.setGrain { g with held := [], recs := [], mainCnt := 0, resCnt := 0, sig0 := [], sig1 := [] }).logWrite typ pay false false
    let c := (c.setGrain { c.grain with recs := [], mark := c.grain.nextSeq, markLink := c.grain.link }).logSync
    let c := if fold then c.raise 196 else c
    let c := if full then c.raise 194 else c
    let c := rest.foldl (fun c r => c.logAdd r.1 r.2 true) c
    (c.sealDue.logLostRecord full).finish (fun k => k.op == 0xA6 && k.started) .ok []

/-! ### Exports (R477) -/

/-- The newest record is covered by a completed seal. -/
def Grain.sealed (g : Grain) (seq : Nat) : Bool := g.seals != 0 && seq ≤ g.lastSeal

/-- R477: the records of an export: from the export mark up to the newest seal, or, with n not 0, to the first seal record at or
after n records. Assumption log 45 (DESIGN CHOICE). -/
def Grain.exportRecs (g : Grain) (n : Nat) : List Rec :=
  let all := g.recs.filter (·.seq ≤ g.lastSeal)
  if n = 0 then all
  else
    let (a, b) := (all.take (n - 1), all.drop (n - 1))
    a ++ b.take ((b.takeWhile (·.typ ≠ 0x80)).length + 1)

/-- R477: LOG_EXPORT starts: unsealed records are sealed first. -/
def Chip.exportStart (c : Chip) (k : Cmd) : Chip :=
  let last := c.grain.nextSeq - 1
  let signing : Bool := match c.grain.job with | some (.sealing seq ..) => decide (seq = last) | _ => false
  let c := if c.grain.sealed last ∨ signing ∨ c.grain.nextSeq = 0 then c else c.sealDue
  c.setGrain { c.grain with exp := some ⟨k.rq, k.tag, [], none, 0, 0, 0, last, 0⟩ }

/-- R477: the seal that the export waits for is there, or none can be made. -/
def Chip.exportReady (c : Chip) (last : Nat) : Bool :=
  c.grain.sealed last || ((match c.grain.job with | some (.sealing ..) => false | _ => true) && !c.grain.sealWait)

/-- R477: record packets: 1 to 32 records. -/
def recPacket (pkt : Nat) (rs : List Rec) : List Word :=
  .ofNat 32 (0x01000000 + rs.length * 2 ^ 16 + pkt % 2 ^ 16) :: .ofNat 32 ((rs.head?.map (·.seq)).getD 0) ::
    rs.flatMap fun r => (List.range 16).map fun k => .ofNat 32 (leNat ((r.bytes.drop (4 * k)).take 4))

/-- R477: signature packet i of a seal. Assumption log 45 (DESIGN CHOICE). -/
def sigPacket (pkt i : Nat) (r : Rec) : List Word :=
  .ofNat 32 (0x02000000 + i * 2 ^ 16 + pkt % 2 ^ 16) :: .ofNat 32 r.seq ::
    (List.range (if i = 8 then 176 else 512)).map fun k =>
      .ofNat 32 (leNat ((List.range 4).map fun j => Config.signature (sealMsg r.seq r.link) (2048 * i + 4 * k + j)))

/-- R477: the end packet. -/
def endPacket (seq : Nat) (link : BitVec 256) : List Word :=
  0x03000000 :: .ofNat 32 seq :: (List.range 8).map fun k => .ofNat 32 (leNat (((beBytes 32 link.toNat).drop (4 * k)).take 4))

/-- What an export sends next. -/
inductive ExportNext where
  | records (rs : List Rec)
  | chunk (r : Rec) (i : Nat)
  | last (seq : Nat) (link : BitVec 256)
  | nothing

def Export.next (x : Export) : ExportNext :=
  match x.final with
  | none => .nothing
  | some r => if x.todo ≠ [] then .records (x.todo.take 32) else if x.chunk < 9 then .chunk r x.chunk else .last x.lastSeq x.lastLink

/-- R477: one packet, if Q29 has room for all of it; and whether one was sent. -/
def Chip.exportSend (c : Chip) (x : Export) : Chip × Bool :=
  let put (ws : List Word) (f : Chip → Chip) : Chip × Bool := if ws.length ≤ c.qFree 29 then (f (c.hwPush 29 ws), true) else (c, false)
  match x.next with
  | .nothing => (c, false)
  | .records rs =>
    put (recPacket x.pkt rs) fun c => c.setGrain { c.grain with
      exp := some { x with todo := x.todo.drop 32, pkt := x.pkt + 1, sent := x.sent + rs.length
                           lastSeq := (rs.getLast?.map (·.seq)).getD x.lastSeq, lastLink := (rs.getLast?.map (·.link)).getD x.lastLink } }
  | .chunk r i => put (sigPacket x.pkt i r) fun c => c.setGrain { c.grain with exp := some { x with pkt := x.pkt + 1, chunk := i + 1 } }
  | .last seq link =>
    put (endPacket seq link) fun c => (c.setGrain { c.grain with exp := none }).finish (fun k => k.op == 0xA4 && k.rq == x.rq && k.tag == x.tag) .ok
      [.ofNat 32 x.sent]

/-- The seal has come: what the export sends. -/
def Chip.exportBegin (c : Chip) (x : Export) : Chip :=
  let n := ((c.cmds.find? fun k => k.op == 0xA4 && k.rq == x.rq && k.tag == x.tag).map fun k => (k.arg 1).toNat).getD 0
  let rs := c.grain.exportRecs n
  match rs.getLast? with
  | some r => c.setGrain { c.grain with exp := some { x with todo := rs, final := some r } }
  | none => (c.setGrain { c.grain with exp := none }).finish (fun k => k.op == 0xA4 && k.rq == x.rq && k.tag == x.tag) .ok [0]

/-- R477: the export goes on as far as it can. -/
def Chip.exportRun : Nat → Chip → Chip
  | 0, c => c
  | n + 1, c =>
    match c.grain.exp with
    | none => c
    | some x =>
      if x.final.isNone then (if c.exportReady x.lastSeq then Chip.exportRun n (c.exportBegin x) else c)
      else let (c, sent) := c.exportSend x; if sent then Chip.exportRun n c else c

/-! ### One at a time (R480) -/

def isLogCmd (k : Cmd) : Bool := k.op == 0xA4 || k.op == 0xA5 || k.op == 0xA6

/-- R480: LOG_EXPORT, LOG_ACK and LOG_ERASE start one at a time, in order of acceptance. -/
def State.logNext : Nat → State → State
  | 0, s => s
  | n + 1, s =>
    let l := s.chip.cmds.filter isLogCmd
    if l.any (·.started) then s
    else match l with
      | [] => s
      | k :: _ =>
        let s := s.onChip fun c => c.startCmds fun x => x.rq == k.rq && x.tag == k.tag
        if k.op = 0xA4 then State.logNext n (s.onChip fun c => Chip.exportRun 4096 (c.exportStart k))
        else if k.op = 0xA5 then State.logNext n (s.ackCmd k) else State.logNext n (s.eraseCmd k)

/-- The log commands go on: an export whose queue has room, then those that wait. -/
def State.logPump (s : State) : State :=
  if s.chip.awake then State.logNext 130 (s.onChip (Chip.exportRun 4096)) else s

/-! ### The signer (R461, R473) -/

/-- R473: a seal's signature is written. -/
def Chip.sealDone (c : Chip) (seq slot : Nat) (msg : List Byte) : Chip :=
  let g := { c.grain with job := none, lastSeal := seq, sig0 := if slot = 0 then msg else c.grain.sig0, sig1 := if slot = 0 then c.grain.sig1 else msg }
  ((c.setGrain g).wr R.SEC_SEAL_SEQ (.ofNat 32 seq) |>.fset R.SEC_LOG_STATUS F.SEC_LOG_STATUS_SEALING 0 |>.raise 192).nextJob

/-- R460: an attestation: its body and the device's signature over it. -/
def attestation (body : List Byte) : List Byte := body ++ (List.range 17088).map (Config.signature body)

/-- R461: the running job ends, and the next one starts. Assumption log 48 (DEDUCED). -/
def State.jobDone (s : State) : State :=
  if !s.chip.awake then s
  else match s.chip.grain.job with
  | none => s
  | some (.sealing seq slot msg) => (s.onChip (·.sealDone seq slot msg)).logPump
  | some (.attest rq tag dest body) =>
    (s.storeAll .island dest (attestation body)).onChip fun c =>
      ((c.setGrain { c.grain with job := none }).finish (fun k => k.op == 0xA0 && k.rq == rq && k.tag == tag) .ok [17216]).nextJob

/-! ### The sealed policy (R464) -/

/-- A word of a policy that takes a register's layout: its reserved bits are 0 and its values in range. -/
def layoutOk (id : RegId) (ix : List Nat) (x : Word) : Bool :=
  match (regBlocks.flatMap (·.2.2)).find? fun d => d.id = id with
  | some d => x &&& BitVec.ofNat 32 (d.rw ||| d.rwl ||| d.rws ||| d.w1p ||| d.wo1) == x && regNorm id ix 0 x == x
  | none => false

/-- Word i of a policy body. -/
def bodyWord (b : List Byte) (i : Nat) : Word := .ofNat 32 (leNat ((b.drop (4 * i)).take 4))

def policyChan (b : List Byte) (j : Nat) : Bool × Bool × Word × Word × Word :=
  let w := bodyWord b (1 + 4 * j)
  (w.getLsbD 0, w.getLsbD 1, bodyWord b (2 + 4 * j), bodyWord b (3 + 4 * j), bodyWord b (4 + 4 * j))
def policyInput (b : List Byte) (i : Nat) : Bool × Word × Word :=
  ((bodyWord b (17 + 3 * i)).getLsbD 0, bodyWord b (18 + 3 * i), bodyWord b (19 + 3 * i))

/-- R464: the policy of a body. -/
def policyOf (b : List Byte) : Policy :=
  ⟨(bodyWord b 0).toNat, (List.range 4).map (policyChan b), (List.range 4).map (policyInput b)⟩

/-- R464: the body of a policy is in range; now is the version in force. -/
def policyOk (b : List Byte) (now : Nat) : Bool :=
  b.length == 116 && decide (now < (bodyWord b 0).toNat) &&
  ((List.range 4).all fun j =>
    decide ((bodyWord b (1 + 4 * j)).toNat < if j < 2 then 2 else 4) && layoutOk .CH_PROT_CFG [3, 44 + j] (bodyWord b (2 + 4 * j))
      && layoutOk .CH_WIRE_CFG [3, 44 + j] (bodyWord b (3 + 4 * j)) && layoutOk .CH_CFG [3, 44 + j] (bodyWord b (4 + 4 * j))
      && decide (F.CH_CFG_PROFILE.get (bodyWord b (4 + 4 * j)) ≤ 6)) &&
  (List.range 4).all fun i =>
    decide ((bodyWord b (17 + 3 * i)).toNat < 2) && layoutOk .SI_CFG [60 + i] (bodyWord b (18 + 3 * i)) && layoutOk .SI_THR [60 + i] (bodyWord b (19 + 3 * i))

/-- R462, R464: an accepted policy is stored, every slot still unwritten is closed. -/
def Chip.installPolicy (c : Chip) (slot counter : Nat) (body : List Byte) : Chip :=
  let old := (c.rd R.SEC_POLICY).toNat
  let c := { c with policy := policyOf body }.authCount counter |>.fset R.SEC_AUTH F.SEC_AUTH_SLOTS_CLOSED 1
  c.log 0x84 (payload [(0, 4, old), (4, 4, (policyOf body).version), (8, 1, slot), (12, 4, counter)])

/-- R464: SEAL_INSTALL. -/
def State.installCmd (s : State) (k : Cmd) : State :=
  match s.blob 1 (k.arg 1).toNat (k.arg 2).toNat with
  | .bad a => s.onChip (·.failCmd k .badArg a)
  | .denied => s.onChip (·.denyBlob k)
  | .ok slot counter body => s.onChip fun c =>
    if !policyOk body (c.rd R.SEC_POLICY).toNat then c.failCmd k .badArg 1
    else if c.logFull then c.failCmd k .logFull 0xFF
    else (c.installPolicy slot counter body).endCmd k .ok [bodyWord body 0]

/-! ### Loads (R510) -/

/-- R510: the windows over which PEAK is taken. -/
def peakWindows (k : Nat) : Nat := if k = 2 then 100 else 1000

/-- R510: a window of load k ends: 0 command, 1 fabric, 2 NVM. -/
def Chip.loadWindow (c : Chip) (k util : Nat) : Chip :=
  let h := (util :: Tbl.get (fun _ => []) c.loads k).take (peakWindows k)
  let a := if k = 0 then R.SYS_LOAD_CMD else if k = 1 then R.SYS_LOAD_FABRIC else R.SYS_LOAD_NVM
  ({ c with loads := Tbl.set (fun _ => []) c.loads k h }.fset a F.SYS_LOAD_CMD_UTIL util).fset a F.SYS_LOAD_CMD_PEAK (h.foldl max 0)

/-- The links' utilisation of the same millisecond (SYS_LINK_UTIL), D1's first. -/
def Chip.linkUtils (c : Chip) (l : List (BitVec 8)) : Chip :=
  ((List.range 7).zip l).foldl (fun c x => c.fset (R.SYS_LINK_UTIL (x.1 + 1)) F.SYS_LINK_UTIL_UTIL x.2.toNat) c

/-! ### Meanings -/

/-- R328. -/
def execQBankSwap (q : Fin 32) (s : State) : Host.Outcome State Fault Refusal :=
  let s := s.onChip fun c => if c.awake ∧ c.qEnabled q then c.qSwap q else c
  .next (if q.val = 29 then s.logPump else s)
/-- R473: records have been appended since the last seal. -/
def execSealTimerExpire (s : State) : Host.Outcome State Fault Refusal :=
  .next (s.onChip fun c => if c.grain.dirty ∧ c.awake then c.sealDue else c)
/-- R461, R473. -/
def execSignJobComplete (s : State) : Host.Outcome State Fault Refusal := .next s.jobDone
/-- R467: channel 188 + k has driven for 1 s without a trip. -/
def execSealedInterruptionEnd (k : Fin 4) (byMax : BitVec 16) (limited : Bool) (s : State) : Host.Outcome State Fault Refusal :=
  .next (s.onChip fun c => if (c.chRun (188 + k)).driven then c.interruptEnd (188 + k) byMax.toNat limited else c)
/-- R468. -/
def execBypassIntervalEnd (k : Fin 4) (high avg : BitVec 16) (limited planned : Bool) (s : State) : Host.Outcome State Fault Refusal :=
  .next (s.onChip (·.bypassEnd (188 + k) high.toNat avg.toNat limited planned))
/-- R510. -/
def execLoadWindowEnd (k : Fin 3) (util : BitVec 8) (links : List (BitVec 8)) (s : State) : Host.Outcome State Fault Refusal :=
  .next (s.onChip fun c => if !c.awake then c else
    let c := c.loadWindow k util.toNat
    if k.val = 1 then c.linkUtils links else c)
/-- R274, R479: NVM bytes lo to lo + n - 1 were programmed or erased: no core's cache holds an old copy of them; the erasure
of the whole log ends. -/
def execNvmOpComplete (lo : Word) (n : Nat) (s : State) : Host.Outcome State Fault Refusal :=
  let a := lo.toNat
  let s := s.onChip fun c => (List.finRange 4).foldl (fun c (k : Fin 4) =>
    c.setCore k { c.core k with stale := (c.core k).stale.filter fun l => 32 * l + 32 ≤ a || a + n ≤ 32 * l }) c
  .next (if s.chip.erasing ∧ s.chip.awake ∧ a ≤ 0x10A00000 ∧ 0x10E00000 ≤ a + n then (s.onChip Chip.eraseDone).logPump else s)

end Sys2Proof.Machine
end

