-- ==== Sys2Proof/Machine/Package.lean ====
section
/-! DEFINITION. The Viruo package (R489 to R492): its layout, its parts, and the tests of CHECK_PACKAGE. -/

namespace Sys2Proof.Machine
open Sys2Proof

/-- The little-endian number of n bytes at offset o. -/
def leAt (b : List Byte) (o n : Nat) : Nat := leNat ((b.drop o).take n)
/-- The bytes of [o, o + n) are there and zero. -/
def zeroAt (b : List Byte) (o n : Nat) : Bool := ((b.drop o).take n).all (· == 0)

/-- R489: bytes before the manifest. -/
def pkgHeader : Nat := 1168
/-- R489: length of the manifest's signature. -/
def pkgSigLen : Nat := 7856

/-- A part of a package, by its entry (R489). -/
structure Part where
  kind : Nat
  target : Nat
  version : Word
  off : Nat
  len : Nat
  hash : BitVec 256
  deriving DecidableEq, Repr

/-- R489: the number of parts that the manifest names. -/
def pkgParts (b : List Byte) : Nat := leAt b (pkgHeader + 12) 4
/-- Where part entry k starts. -/
def partAt (k : Nat) : Nat := pkgHeader + 64 + 64 * k
def pkgPart (b : List Byte) (k : Nat) : Part :=
  let o := partAt k
  ⟨leAt b o 1, leAt b (o + 1) 1, .ofNat 32 (leAt b (o + 4) 4), leAt b (o + 8) 4, leAt b (o + 12) 4,
    .ofNat 256 (((b.drop (o + 32)).take 32).foldl (fun a x => a * 256 + x.toNat) 0)⟩
def pkgPartList (b : List Byte) : List Part := (List.range (min 16 (pkgParts b))).map (pkgPart b)

/-- R489: manifest and payload lengths; the package's version and SVN; the schema it expects. -/
def pkgM (b : List Byte) : Nat := leAt b 8 4
def pkgP (b : List Byte) : Nat := leAt b 12 4
def pkgVersion (b : List Byte) : Word := .ofNat 32 (leAt b (pkgHeader + 4) 4)
def pkgSvn (b : List Byte) : Nat := leAt b (pkgHeader + 8) 4
def pkgSchema (b : List Byte) : Nat := leAt b (pkgHeader + 36) 4

/-- The first part that p holds of; 0xFF if none. -/
def firstPart (b : List Byte) (p : Nat → Part → Bool) : Option Nat :=
  (List.range (min 16 (pkgParts b))).find? fun k => p k (pkgPart b k)

/-- Test 1, FORMAT: the package and manifest headers. -/
def headOk (b : List Byte) : Bool :=
  b.take 4 == [0x56, 0x49, 0x52, 0x55] && leAt b 4 2 == 1 && zeroAt b 6 2 && zeroAt b 1164 4 &&
  (b.drop pkgHeader).take 4 == [0x56, 0x4D, 0x46, 0x31] && decide (1 ≤ pkgParts b) && decide (pkgParts b ≤ 16) &&
  pkgM b == 64 + 64 * pkgParts b && b.length == pkgHeader + pkgM b + pkgSigLen + pkgP b &&
  zeroAt b (pkgHeader + 33) 3 && zeroAt b (pkgHeader + 40) 24
def entryBad (b : List Byte) (k : Nat) (p : Part) : Bool :=
  !zeroAt b (partAt k + 2) 2 || !zeroAt b (partAt k + 28) 4 || decide (p.len < 16) || decide (pkgP b < p.off + p.len)

/-- Test 5, SIZE: the length of the plaintexts of kind 1, of kind 2, and of kinds 3 to 5 together, up to part k (R491). -/
def sizeTo (b : List Byte) (p : Nat → Bool) (k : Nat) : Nat :=
  (((pkgPartList b).take (k + 1)).map fun x => if p x.kind then x.len - 16 else 0).sum
def sizeBad (b : List Byte) (k : Nat) (_ : Part) : Bool :=
  decide (0x80000 < sizeTo b (· == 1) k) || decide (0x280000 < sizeTo b (· == 2) k) || decide (0x100000 < sizeTo b (fun t => 3 ≤ t && t ≤ 5) k)

/-- Test 6, TARGET: kinds, targets, duplicates (R491, R492). -/
def targetBad (b : List Byte) (k : Nat) (p : Part) : Bool :=
  !(decide (1 ≤ p.kind) && decide (p.kind ≤ 5)) || (if p.kind = 3 then !(decide (1 ≤ p.target) && decide (p.target ≤ 7)) else p.target != 0) ||
    (((pkgPartList b).take k).any fun x => x.kind == p.kind && x.target == p.target)

/-- R492: the version of the schema that will be active after activation. -/
def Chip.schemaAfter (c : Chip) (b : List Byte) : Nat :=
  (((pkgPartList b).find? fun x => x.kind == 5).map (·.version.toNat)).getD c.upd.schema

/-- Test 2, RECIPIENT: this device or one of its fleet keys (R490). -/
def Chip.recipientOk (c : Chip) (b : List Byte) : Bool :=
  let r := (b.drop (pkgHeader + 16)).take 16
  r == deviceId || c.cfg.fleet.any fun f => r == beBytes 16 f.toNat

/-- The tests of R492 in their order: the result of the first that fails and its part (0xFF: none); 0 if none fails. Assumption log 68 (DEDUCED). -/
def Chip.checkResult (c : Chip) (b : List Byte) : Nat × Nat :=
  let signer := leAt b (pkgHeader + 32) 1
  let manifest := (b.drop pkgHeader).take (pkgM b)
  let part (r : Nat) (o : Option Nat) (next : Nat × Nat) : Nat × Nat := match o with | some k => (r, k) | none => next
  let test (r : Nat) (ok : Bool) (next : Nat × Nat) : Nat × Nat := if ok then next else (r, 0xFF)
  test 1 (headOk b) <| part 1 (firstPart b (entryBad b)) <|
  test 2 (c.recipientOk b) <|
  test 3 (decide (signer ≤ 1) && Config.packageVerifies signer manifest ((b.drop (pkgHeader + pkgM b)).take pkgSigLen)) <|
  test 4 (decide (c.upd.storedSvn ≤ pkgSvn b)) <|
  part 5 (firstPart b (sizeBad b)) <|
  part 6 (firstPart b (targetBad b)) <| test 6 (pkgSchema b == 0 || pkgSchema b == c.schemaAfter b) <|
  test 7 (Config.keyUnwraps b) <| part 7 (firstPart b fun k _ => (Config.partPlain b k).isNone) <|
  part 8 (firstPart b fun k p => (Config.partPlain b k).any fun x => Config.sha256 x != p.hash) <|
  part 9 (firstPart b fun k p => decide (p.kind ≤ 3) && (Config.partPlain b k).any fun x => !Config.imageVerifies p.kind x) (0, 0xFF)

/-! ### The update function's state -/

def Chip.setUpd (c : Chip) (u : UpdX) : Chip := { c with upd := u }
/-- The versions at manufacture: the supervisor's is 3.2 (R2, GET_VERSION), the others are free (Config.firmware). -/
def firmwareAtMade (k : Nat) : Word := if k = 0 then 0x00030200 else Config.firmware k
/-- The firmware version that is active: 0 the supervisor, 1 to 7 the dies, 8 the application. Assumption log 6 (DESIGN CHOICE). -/
def Chip.firmware (c : Chip) (k : Nat) : Word := Tbl.get firmwareAtMade c.upd.vers k
/-- UPD_STATUS w3: the staged package's version; 0 while no whole package is staged. -/
def Chip.stagedVersion (c : Chip) : Word :=
  if c.upd.staging = 2 ∨ c.upd.staging = 3 ∨ c.upd.staging = 5 ∨ (c.upd.staging = 4 ∧ c.upd.result ≠ 10) then pkgVersion c.upd.data else 0

end Sys2Proof.Machine
end

