-- ==== Sys2Proof/Machine/Start.lean ====
section
/-! DEFINITION. Resets of the control die and STARTUP (R89, R208, R209, R405 to R415, R464, R493 to R498). -/

namespace Sys2Proof.Machine
open Sys2Proof

/-! ### Time that passes within one command -/

/-- The real-time clock over a number of µs (R394). -/
def Chip.rtcPass (c : Chip) (us : Nat) : Chip :=
  let t := c.rtcAcc + us * 32768
  ({ c with rtcAcc := t % 1000000 }).setCtr64 R.SEN_RTC_LO (c.ctr64 R.SEN_RTC_LO + BitVec.ofNat 64 (t / 1000000))

/-- The power dies' clocks over a number of µs. -/
def Chip.pwrPass (c : Chip) (us : Nat) : Chip :=
  (List.range 4).foldl (fun c n => c.setCtr64 (R.PWR_TIME_LO n) (c.ctr64 (R.PWR_TIME_LO n) + BitVec.ofNat 64 us)) c

/-- R188: a running reflectometry of die n sends a pulse every µs and steps after every AVG pulses; a paused one stands (R166). -/
def Chip.tdrPass (us : Nat) (c : Chip) (n : Nat) : Chip :=
  match (c.die n).tdr with
  | some r =>
    if c.tdrStatus n = 1 then
      (c.setDie n { c.die n with tdr := some { r with pulses := r.pulses + us } }).fset (R.PWR_TDR_STATUS n) F.PWR_TDR_STATUS_STEP
        (min 4095 ((r.pulses + us) / F.PWR_TDR_CFG_AVG.get r.cfg))
    else c
  | none => c

/-- Assumption log 3 (DESIGN CHOICE). -/
def Chip.timePass (c : Chip) (us : Nat) : Chip :=
  ((List.range 4).foldl (Chip.tdrPass us) (((c.rtcPass us).pwrPass us).scanPass us)).setCtr64 R.SYS_MTIME_LO (c.ctr64 R.SYS_MTIME_LO + BitVec.ofNat 64 us)

/-- A fraction of 2^64 raised to a power, by squaring; fuel bits of the power. Assumption log 71 (DESIGN CHOICE). -/
def fracPow : Nat → Nat → Nat → Nat
  | 0, _, _ => 2 ^ 64
  | n + 1, q, k =>
    let h := fracPow n (q * q / 2 ^ 64) (k / 2)
    if k % 2 = 1 then h * q / 2 ^ 64 else h

/-- R385: wire level x after ms milliseconds of the cooling of R131 with no current. Assumption log 71 (DESIGN CHOICE). -/
def cooledLevel (x : Rat) (tau ms : Nat) : Rat :=
  let d := 100 * tau
  if d = 0 then 0 else x * (fracPow 64 (2 ^ 64 * (d - 1) / d) ms : Rat) / 2 ^ 64

/-- R385: every wire cools over the time spent parked, up to now, but for those that the keeper feeds (R384). Assumption log 71 (DESIGN CHOICE). -/
def Chip.coolWires (c : Chip) : Chip :=
  let ms := ((c.ctr64 R.SEN_RTC_LO).toNat - c.modex.parkedAt) * 1000 / 32768
  (List.range 192).foldl (fun c ch =>
    let x := cooledLevel (c.chan ch).level (c.fget (R.CH_WIRE_CFG ch) F.CH_WIRE_CFG_TAU) ms
    let lv := F.CH_WIRE_LEVEL_OVER.put (F.CH_WIRE_LEVEL_LEVEL.of (min 0xFFFF (x * 32768).floor.toNat)) (decide (2 ≤ x)).toNat
    if (c.chan ch).level = 0 ∨ c.keeperFed ch then c
    else (c.setChan ch { c.chan ch with level := x }).wr (R.CH_WIRE_LEVEL ch) lv
      |>.fbit (R.CH_PROT_STATUS ch) F.CH_PROT_STATUS_WIRE_WARN (decide (4 / 5 ≤ x))) c

/-! ### Resets of remote dies (R160, R269, R405) -/

/-- R453: after power die n's reset its channels carry START_ENABLE as ACC_CFG0 names it. -/
def Chip.startNamed (c : Chip) (n : Nat) : Chip :=
  let c := if n = 3 ∧ c.seCh ≠ 187 then (c.fset (R.CH_STATUS 187) F.CH_STATUS_START_ENABLE 0).fset (R.CH_OWNER 187) F.CH_OWNER_OWNER 4 else c
  if pdie c.seCh = n then
    c.fset (R.CH_STATUS c.seCh) F.CH_STATUS_START_ENABLE 1 |>.fset (R.CH_OWNER c.seCh) F.CH_OWNER_OWNER 6
      |>.fset (R.CH_LIMP_CFG c.seCh) F.CH_LIMP_CFG_LIMP_MODE (c.fget R.ACC_CFG0 F.ACC_CFG0_SE_LIMP)
  else c

/-- What the access die's reset leaves: its configuration, its zones and what it shows of the supervisor's stores. -/
def accKept (a : Nat) : Bool :=
  a == R.ACC_CFG0 || a == R.ACC_CFG1 || a == R.ACC_CFG2 || a == R.ACC_CFG3 || a == R.ACC_STATE || a == R.ACC_LAST || a == R.ACC_ENROLLED ||
    (List.range 8).any fun z => decide (R.ACC_ZONE z ≤ a) && decide (a < R.ACC_ZONE z + 4)

def Chip.accReset (c : Chip) : Chip :=
  { c with regs := c.regs.filter fun x => !(decide (0x40480000 ≤ x.1) && decide (x.1 < 0x40500000)) || accKept x.1 }

/-- A link that is up goes down. -/
def Chip.linkCut (c : Chip) (d : Nat) : Chip := if c.linkUp d then c.linkDown d else c

/-- The power die that a command in flight waits on. -/
def Cmd.onDie (k : Cmd) (n : Nat) : Bool :=
  ((k.op == 0x14 || k.op == 0x31 || k.op == 0x32 || k.op == 0x33) && k.obj / 48 == n) || (k.op == 0x50 && k.obj % 16 / 4 == n)
/-- R350, R405: the commands in flight on a power die that is reset: those not started are cancelled, the others aborted.
Assumption log 58 (DEDUCED). -/
def Chip.endOnDie (c : Chip) (n : Nat) : Chip :=
  (c.finish (fun k => k.onDie n && !k.started) .cancelled []).finish (fun k => k.onDie n) .aborted []

/-- R405: a die-local reset of die d (2 to 7); its link goes down with it. Assumption log 58 (DEDUCED), 70 (DEDUCED). -/
def Chip.dieLocal (c : Chip) (d : Nat) : Chip :=
  if 2 ≤ d ∧ d ≤ 5 then
    let n := d - 2
    let c := if c.released ∧ pdie c.seCh = n then c.immoEnd else c
    let c := ((((c.endOnDie n).linkCut d).dieOff n).warmWires n).startNamed n
    c.setLink d { c.link d with lost := true }
  else if d = 6 then (c.linkCut 6).barrierLoss
  else if d = 7 then ((c.linkCut 7).dieLost 7).accReset
  else c

/-! ### Activation (R493 to R498) -/

/-- R498: the activation outcome, its record owed. -/
def Chip.outcome (c : Chip) (code part : Nat) : Chip := c.setUpd { c.upd with outcome := .ofNat 32 (part % 16 * 256 + code), owed := true }
/-- Staging becomes EMPTY. -/
def Chip.unstage (c : Chip) : Chip := c.setUpd { c.upd with staging := 0, size := 0, data := [], result := 0, failing := 0xFF, checking := false }

/-- R494, R495: COMMIT: the parts' versions are the active ones, the stored SVN rises. The command set stays that of R3's version 3.2,
whichever supervisor version is installed. Assumption log 85 (DESIGN CHOICE). -/
def Chip.commitParts (c : Chip) : Chip :=
  let b := c.upd.data
  let slot (p : Part) : Nat := if p.kind = 1 then 0 else if p.kind = 2 then 8 else p.target
  let vers := (pkgPartList b).foldl (fun t p => if p.kind ≤ 3 then Tbl.set firmwareAtMade t (slot p) p.version else t) c.upd.vers
  let acc := (pkgPartList b).any fun p => p.kind == 3 && p.target == 7
  let c := c.setUpd { c.upd with vers := vers, storedSvn := max c.upd.storedSvn (pkgSvn b), schema := c.schemaAfter b, journal := 0 }
  ((if acc then c.accReset else c).outcome 1 15).unstage

/-- R495, R496: failed parts are restored, the access die's firmware reloaded through a die-local reset; part is the failing one. -/
def Chip.restoreParts (c : Chip) (part : Nat) : Chip :=
  let acc := (pkgPartList c.upd.data).any fun p => p.kind == 3 && p.target == 7
  ((if acc then c.accReset else c).outcome 3 part).unstage

/-- R496: the part whose image the start finds bad: the supervisor's or the application's; 15: the package holds none. -/
def Chip.badImage (c : Chip) (env : StartEnv) : Nat :=
  ((pkgPartList c.upd.data).findIdx? fun p => p.kind == if env.supOk then 2 else 1).getD 15

/-- How an activation leaves the start: it goes on, after a further control-die reset (again), or stays in STARTUP. -/
inductive ActNext where
  | goesOn | again | stays
  deriving DecidableEq, Repr

/-- R494 to R497: what is due is done: an interrupted activation, or that of an ARMED package. Assumption log 68 (DEDUCED). -/
def Chip.updActivate (c : Chip) (env : StartEnv) : Chip × ActNext :=
  let j (n : Nat) (c : Chip) : Chip := c.setUpd { c.upd with journal := n }
  if c.upd.journal = 2 then (j 0 (c.outcome 5 15).unstage, .goesOn)
  else if 3 ≤ c.upd.journal then
    match env.act with
    | .restoreFails p => (j 0 (c.outcome 6 p).unstage, .stays)
    | .cut _ => (j 4 c, .stays)
    | _ => (j 0 (c.outcome 4 15).unstage, .goesOn)
  else if c.upd.staging = 5 then
    match env.act with
    | .commits => if env.supOk ∧ env.appOk then (c.commitParts, .goesOn) else (c.restoreParts (c.badImage env), .again)
    | .rejected p backup => (if backup then (c.outcome 2 p).unstage else j 0 (c.outcome 2 p), .goesOn)
    | .restored p => (c.restoreParts p, .again)
    | .restoreFails p => ((c.outcome 6 p).unstage, .stays)
    | .cut ph => (j (max 1 ph.val) c, .stays)
  else (c, .goesOn)

/-! ### STARTUP (R412) -/

/-- R17 to R19, step 4: the crystal is checked. -/
def Chip.clockCheck (c : Chip) (ok : Bool) : Chip :=
  let c := c.fset R.SYS_CLK_STATUS F.SYS_CLK_STATUS_SUP_PLL_LOCK 1 |>.fbit R.SYS_CLK_STATUS F.SYS_CLK_STATUS_CAN_PLL_LOCK ok
    |>.fbit R.SYS_CLK_STATUS F.SYS_CLK_STATUS_CORE_PLL_LOCK ok
  if ok then c.fset R.SYS_CLK_STATUS F.SYS_CLK_STATUS_XTAL40_OK 1 |>.fset R.SYS_CLK_STATUS F.SYS_CLK_STATUS_CORE_ON_BACKUP 0
  else c.xtalFail

/-- R412, step 6: the links of a mask train; the others stay in training. -/
def Chip.trainLinks (c : Chip) (mask : BitVec 8) : Chip :=
  [1, 2, 3, 4, 5, 6, 7].foldl (fun c d =>
    if mask.getLsbD d then c.linkBack d else c.fset (R.SYS_LINK_STATUS d) F.SYS_LINK_STATUS_TRAINING 1) c

/-- R113, R464: the policy's setting of sealed channel 188 + k, power die 3's link up. -/
def Chip.sealChan (c : Chip) (x : Nat × (Bool × Bool × Word × Word × Word)) : Chip :=
  let ch := 188 + x.1
  let (hold, _, prot, wire, cfg) := x.2
  let c := c.wr (R.CH_PROT_CFG ch) (F.CH_PROT_CFG_RETRY_MAX.put prot (c.fget (R.CH_PROT_CFG ch) F.CH_PROT_CFG_RETRY_MAX))
    |>.wr (R.CH_WIRE_CFG ch) wire |>.wr (R.CH_CFG ch) (F.CH_CFG_PRIO.put cfg 0) |>.wr (R.CH_ACTIVE_CFG ch) (F.CH_CFG_PRIO.put cfg 0)
    |>.fset (R.CH_CMD ch) F.CH_CMD_MODE hold.toNat |>.fset (R.CH_ACTIVE_CMD ch) F.CH_ACTIVE_CMD_MODE hold.toNat
  let c := if hold then (if c.chRun ch = .off ∧ !c.pendingGrant ch then c.arrive 3 [ch] else c)
    else if c.chRun ch = .off then c else c.goOff ch
  if (c.chRun ch).driven ∨ c.flag R.PWR_SEAL_STATUS (bitFld x.1) then c else c.bypassBegin ch

def bitsOf (l : List Bool) : Nat := ((List.range l.length).zip l).foldl (fun a x => a + x.2.toNat * 2 ^ x.1) 0

/-- R412, step 7; R464: the sealed policy is loaded. -/
def Chip.loadPolicy (c : Chip) : Chip :=
  let p := c.policy
  let m := F.SEC_SEAL_MAP_BOUND.put (F.SEC_SEAL_MAP_PARK_BYPASS.put (F.SEC_SEAL_MAP_HOLD.of (bitsOf (p.chans.map (·.1))))
    (bitsOf (p.chans.map (·.2.1)))) (bitsOf (p.inputs.map (·.1)))
  let c := (c.wr R.SEC_SEAL_MAP m).wr R.SEC_POLICY (.ofNat 32 p.version)
  let chans := if p.chans = [] then (List.range 4).map (fun k => (false, false, c.rd (R.CH_PROT_CFG (188 + k)), c.rd (R.CH_WIRE_CFG (188 + k)), c.rd (R.CH_CFG (188 + k)))) else p.chans
  let c := if c.linkUp 5 then ((List.range 4).zip chans).foldl Chip.sealChan c else c
  if c.linkUp 1 then ((List.range 4).zip p.inputs).foldl Chip.sealInput c else c

/-- CRC-32 (IEEE 802.3): one more bit, lowest first. -/
def crc32Bit (r : Nat) (b : Bool) : Nat := if (r % 2 = 1) == b then r / 2 else (r / 2) ^^^ 0xEDB88320
/-- Assumption log 70 (DEDUCED). -/
def crc32 (bs : List Byte) : Nat := (bs.flatMap fun b => (List.range 8).map b.getLsbD).foldl crc32Bit 0xFFFFFFFF ^^^ 0xFFFFFFFF

/-- R208: the colour-channel words of a calibration record, and the sinks they name. Assumption log 70 (DEDUCED). -/
def calWords (w : List Word) : List Word := (w.drop 1).take (min 4 (((w[0]?).getD 0).toNat % 256))
def calSink (x : Word) : Nat := x.toNat / 2 ^ 27
def calOk (w : List Word) : Bool :=
  decide (((w[0]?).getD 0).toNat / 2 ^ 16 = 0x2101) && ((w[7]?).getD 0).toNat == crc32 ((w.take 7).flatMap wordBytes)

/-- R208, R209: one calibration record is loaded or not; the second part: the sinks that the records so far name, loaded or
not. Assumption log 70 (DEDUCED). -/
def Chip.loadCal (x : Chip × List Nat) (w : List Word) : Chip × List Nat :=
  let ws := calWords w
  let ok := calOk w && ws.all fun y => !x.2.contains (calSink y)
  if ok then
    (ws.foldl (fun c y => if calSink y < 24 then
      (c.wr (R.LS_CAL (calSink y)) (y &&& 0x7FFFFFF)).fset (R.LS_STATUS (calSink y)) F.LS_STATUS_CAL_DEFAULT 0 else c) x.1, ws.map calSink ++ x.2)
  else
    (ws.foldl (fun c y => if calSink y < 24 then
      (c.wr (R.LS_CAL (calSink y)) 0).fset (R.LS_STATUS (calSink y)) F.LS_STATUS_CAL_DEFAULT 1 else c) x.1, ws.map calSink ++ x.2)

/-- A register write of the configuration: it takes effect at once where its die can be reached. Assumption log 9 (DESIGN CHOICE), 70 (DEDUCED). -/
def Chip.cfgWrite (c : Chip) (x : Nat × Word) : Chip := c.supWrite .sup x.1 x.2

/-- R412, step 9: the configuration records are in force. Assumption log 9 (DESIGN CHOICE). -/
def Chip.configure (c : Chip) : Chip :=
  let c := { c with cfg := c.stored, quotas := c.stored.quotas }
  let c := c.setAcc { c.acc with transport := c.cfg.transport }
  let c := c.cfg.writes.foldl Chip.cfgWrite c
  if c.linkUp 1 then (c.cfg.cals.foldl Chip.loadCal (c, [])).1 else c

/-- R413: an outage longer than a die's HOLD_TIME leaves it in LIMP. Assumption log 66 (DEDUCED). -/
def Chip.holdOver (c : Chip) (us : Nat) : Chip :=
  let past (h : Nat) : Bool := decide (h * 10000 < us)
  let c := (List.range 4).foldl (fun c n =>
    if (c.link (n + 2)).lost ∧ past (c.fget (R.PWR_HOLD_TIME n) F.PWR_HOLD_TIME_HOLD) then (c.limpDie n).vLimpDie n else c) c
  let c := if (c.link 1).lost ∧ past (c.fget R.LED_HOLD_TIME F.LED_HOLD_TIME_HOLD) then c.ledLimp else c
  if (c.link 6).lost ∧ past (c.fget R.FLD_HOLD_TIME F.FLD_HOLD_TIME_HOLD) then c.fldLimp else c

/-- R29: the links that are up are acknowledged. -/
def Chip.ackLinks (c : Chip) : Chip := [1, 2, 3, 4, 5, 6, 7].foldl Chip.linkAck c

/-- R415: the boot report. kind is START_KIND, app whether the application image is valid. -/
def Chip.bootReport (c : Chip) (kind : Nat) (env : StartEnv) (app : Bool) : Chip :=
  let links := bitsOf ((List.range 8).map fun d => d != 0 && c.linkUp d && !(c.link d).unacked)
  let t := c.ctr64 R.SYS_MTIME_LO
  let ws : List Word := [wordOf [(24, 1), (16, kind), (0, 32)], c.rd R.SYS_RESET_CAUSE,
    if kind = 2 ∨ kind = 3 then c.rd R.SEN_WAKE_SRC else 0, c.rd R.RET_STATUS, c.rd R.RET_KEPT, env.migration,
    c.firmware 0, c.firmware 8, c.firmware 1, c.firmware 2, c.firmware 3, c.firmware 4, c.firmware 5, c.firmware 6, c.firmware 7,
    wordOf [(8, (!app).toNat), (0, 5 + 2 * app.toNat)], c.upd.outcome, .ofNat 32 env.micros, c.rd R.SEC_POLICY, .ofNat 32 links,
    t.setWidth 32, (t >>> 32).setWidth 32, .ofNat 32 c.rtcLo, c.rd R.SYS_RESET_CNT, .ofNat 32 c.limpCause]
  ((List.range 25).zip ws).foldl (fun c x => c.wr (R.SYS_BOOT_REPORT x.1) x.2) c

/-- Records of events that happened while the supervisor was off are written LATE. Assumption log 46 (DEDUCED). -/
def Chip.lateRecords (c : Chip) : Chip :=
  let l := c.grain.late
  l.foldl (fun c r => c.log r.1 r.2 true) (c.setGrain { c.grain with late := [] })

/-- The records of a start (R409, R472, R498). -/
def Chip.startRecords (c : Chip) (kind : Nat) (env : StartEnv) : Chip :=
  let cause := (c.rd R.SYS_RESET_CAUSE).toNat % 256
  let c := if env.torn ∧ c.grain.mainRoom then c.setGrain { c.grain with mainCnt := c.grain.mainCnt + 1 } else c
  let c := match c.modex.loss with
    | some (t, e) => (c.setModex { c.modex with loss := none }).log 0x86 (payload [(0, 8, t), (8, 2, e), (10, 1, cause)])
    | none => c
  let c := c.lateRecords
  let c := if c.upd.owed then
      let code := c.upd.outcome.toNat % 256
      ((c.setUpd { c.upd with owed := false }).log 0x91 (payload [(0, 1, code), (4, 4, (c.firmware 0).toNat), (8, 4, (c.firmware 8).toNat)]) true).raise
        (if code = 1 then 212 else 213)
    else c
  let c := c.log 0x01 (payload [(0, 1, kind), (1, 1, cause), (2, 1, env.migration.toNat / 2 ^ 24), (4, 4, (c.firmware 0).toNat),
    (8, 4, (c.firmware 8).toNat), (12, 4, (c.rd R.SEC_POLICY).toNat)])
  if 2 ≤ env.migration.toNat / 2 ^ 24 then c.raise 214 else c

/-- The application cores are released, or stay in reset (R383); the watchdog's count begins at zero (R408). -/
def Chip.releaseCores (c : Chip) (b : Bool) : Chip :=
  (List.range 4).foldl (fun c k => c.setCore k { inReset := !b }) (c.setModex { c.modex with wdtHalf := false })

/-- R381, R410, R412, R414, step 10: the mode that STARTUP ends in. Assumption log 66 (DEDUCED). -/
def Chip.startEnds (c : Chip) (env : StartEnv) (limp2 : Bool) : Chip :=
  if limp2 then c.limpEnter 2
  else if !env.xtal then (c.limpEnter 1).releaseCores env.appOk
  else if !env.appOk then (c.setUpd { c.upd with fromStart := true }).setMode 6
  else (c.releaseCores true).setMode (if c.cfg.target = 3 then 3 else 4)

/-- R412: STARTUP from step 3 on; kind is START_KIND, limp2 the repeated-resets case of R410. The images restored after a bad
one (R496) are those that verified before. Assumption log 66 (DEDUCED). -/
def Chip.startup (c : Chip) (kind : Nat) (limp2 : Bool) (env : StartEnv) : Chip :=
  let c := (c.setHsp { c.hsp with ready := true }).clockCheck env.xtal
  let (c, next) := c.updActivate env
  if next = .stays ∨ (next = .goesOn ∧ !env.supOk) then c.timePass env.micros
  else
    let kind := if next = .again then 1 else kind
    let env := if next = .again ∧ env.act = .commits then { env with supOk := true, appOk := true } else env
    let c := if next = .again then (c.bump R.SYS_RESET_CNT).wr R.SYS_RESET_CAUSE 0x16 else c
    let c := if limp2 then c.trainLinks 0 else c.trainLinks env.links
    let c := c.loadPolicy.configure
    let c := ((c.timePass env.micros).holdOver env.micros).ackLinks
    let c := c.fset R.NM_LOCAL F.NM_LOCAL_WAKE_REASON (if kind = 4 then 0x0A else 0)
    let c := (c.startRecords kind env).startEnds env limp2
    (c.bootReport kind env env.appOk).raise 130

/-! ### Control-die reset (R346, R396, R405, R406, R410) -/

/-- What a control-die reset leaves of D0: the always-on counts and the host port's configuration, the held sentinel pads, and
what the security island keeps in NVM. Assumption log 67 (DEDUCED). -/
def keptReset (a : Nat) : Bool :=
  a == R.SYS_RESET_CNT || a == R.SYS_WAKE_CNT || a == R.HSP_CFG || a == R.SYS_PAD_HOLD || a == R.SYS_MODE ||
    (decide (0x400C1000 ≤ a) && decide (a < 0x40100000) && a != R.SEC_LOST_CNT) || (decide (0x40100000 ≤ a) && decide (a < 0x80000000))

/-- D0's logic is reset: everything but what keptReset names, the NVM's stores and the remote dies. Assumption log 67 (DEDUCED). -/
def Chip.d0Reset (c : Chip) : Chip :=
  let c := c.failDeferred
  let c := (c.d0Off keptReset).fset R.SYS_PAD_HOLD ⟨0, 8⟩ 0
  let g := c.grain
  let sealing := match g.job with | some (.sealing ..) => true | _ => false
  let u := c.upd
  { c with
    queues := [], cmds := [], heldComps := [], hrStops := []
    modex := { crashes := c.modex.crashes, cell := c.modex.cell, loss := c.modex.loss, limpWin := c.modex.limpWin, late := c.modex.late }
    grain := { g with job := none, sealWait := g.sealWait || sealing, attWait := [], exp := none, refused := [] }
    acc := { keys := c.acc.keys, ids := c.acc.ids, transport := c.acc.transport, lastUse := c.acc.lastUse, nextBlock := c.acc.nextBlock }
    upd := { u with session := 1, checking := false, back := 4, fromStart := false
                    staging := if u.staging = 1 then 4 else u.staging, result := if u.staging = 1 then 10 else u.result } }.fset
      R.SEC_LOG_STATUS F.SEC_LOG_STATUS_SEALING 0

/-- R410: a reset of cause 0x12 to 0x14 that finds two such in the 60 s before it ends in LIMP; and the history. -/
def Chip.crashed (c : Chip) (cause : Nat) : Bool × Chip :=
  if 0x12 ≤ cause ∧ cause ≤ 0x14 then
    let now := (c.ctr64 R.SEN_RTC_LO).toNat
    let near := c.modex.crashes.filter fun t => now ≤ t + 60 * 32768
    (decide (2 ≤ near.length), c.setModex { c.modex with crashes := now :: near })
  else (false, c)

/-- R405: the control die resets with a cause, and STARTUP follows; with kind 4 it is the start from STORAGE (R389), before
which every die was unpowered. Assumption log 66 (DEDUCED). -/
def Chip.controlReset (c : Chip) (cause kind : Nat) (env : StartEnv) : Chip :=
  let was := c.mode
  let c := if was = 4 then c.immoEnd else c
  let c := if was = 1 ∨ was = 2 then c.coolWires else c
  let c := if was = 7 then c.setModex { c.modex with limpWin := true } else c
  let c := if kind = 4 then c else ([1, 2, 3, 4, 5, 6, 7].foldl Chip.dieLost c).sinksOff
  let (limp2, c) := c.crashed cause
  let c := (if kind = 4 then c.d0Reset else c.d0Reset.bump R.SYS_RESET_CNT).wr R.SYS_RESET_CAUSE (.ofNat 32 cause)
  let c := c.wr R.SYS_MODE 0x55
  (if was = 5 then c else c.raise 128).raiseLate.startup kind limp2 env

/-- R400: every SRAM bank is zero-filled. -/
def State.controlReset (s : State) (cause : Nat) (env : StartEnv) : State :=
  { s with chip := s.chip.controlReset cause 1 env, sram := [] }

/-- R389: a wake from STORAGE is a start as after a control-die reset, with START_KIND 4. Assumption log 67 (DEDUCED). -/
def State.storageStart (s : State) (env : StartEnv) : State :=
  { s with chip := s.chip.controlReset 0x21 4 env, sram := [] }

end Sys2Proof.Machine
end

