-- ==== Sys2Proof/Machine/Modes.lean ====
section
/-! DEFINITION. Wakes and warm starts (R388, R391 to R393, R398 to R404, R421, R422, R428 to R431), supply events (R161, R405 to
R409), watchdogs (R408), LIMP retry (R411), and the other resets. -/

namespace Sys2Proof.Machine
open Sys2Proof

/-! ### Warm start (R391, R392) -/

/-- R421, R422, R428: what network management finds after a warm start. -/
def Chip.nmWake (c : Chip) : Chip :=
  let reason := wakeReason (c.fget R.SEN_WAKE_FIRST F.SEN_WAKE_FIRST_BIT)
  let busOnly := c.rd R.SEN_WAKE_SRC &&& ~~~(0x40FBF : Word) == 0
  c.fset R.NM_LOCAL F.NM_LOCAL_WAKE_REASON reason |>.fbit R.NM_LOCAL F.NM_LOCAL_AWAKE (reason != 1 && reason != 3 && reason != 4)
    |>.fbit R.NM_FW_STATUS F.NM_FW_STATUS_CHECKED busOnly |>.fbit R.NM_FW_STATUS F.NM_FW_STATUS_ARMED busOnly

/-- R398, R399: what the retention check finds, lost the banks it marks; a kept bank that was LOST before stays so. -/
def Chip.retCheck (c : Chip) (lost : Word) : Chip :=
  let kept := c.rd R.RET_KEPT
  let c := c.wr R.RET_STATUS (lost ||| (kept &&& c.rd R.RET_STATUS)) |>.wr R.RET_CAUSE_SIG (kept &&& c.modex.changed) |>.wr R.RET_CAUSE_DROOP (kept &&& c.modex.droop)
    |>.bump R.RET_LOST_CNT (ones 32 lost.toNat)
  c.setModex { c.modex with droop := 0, changed := 0, filling := 0 }

/-- R391, step 6: the links train and are acknowledged, a die that cannot be reached declares loss; the field die's
configuration is written back. -/
def Chip.warmLinks (c : Chip) (env : StartEnv) : Chip :=
  let c := c.coolWires.trainLinks env.links
  let c := [1, 2, 3, 4, 5, 6, 7].foldl (fun c d => if env.links.getLsbD d then c else c.dieLost d) c
  (if c.linkUp 6 then c.fieldBack else c.fldReset).ackLinks

/-- R384: a sealed channel that its bypass fed starts again. -/
def Chip.unparkSealed (c : Chip) (ch : Nat) : Chip :=
  if c.policyHold ch ∧ c.chRun ch = .off ∧ !c.pendingGrant ch then c.arrive 3 [ch] else c

/-- R391, R393, R400: the warm start from mode from_; ws the wakes, lost the banks whose check fails. -/
def Chip.wakeUp (c : Chip) (from_ : Nat) (lost : Word) (ws : List WakeAt) (env : StartEnv) : Chip :=
  let c := (c.bump R.SEN_WAKE_CNT).bump R.SYS_WAKE_CNT |>.wr R.SYS_RESET_CAUSE 0x20
  let c := ((c.retCheck lost).nmWake.setMode 3).raiseLate
  let c := (c.clockCheck env.xtal).warmLinks env
  let c := (List.range 4).foldl (fun c k => c.unparkSealed (188 + k)) c
  let c := c.fset R.SYS_PAD_HOLD (bitFld 9) 0 |>.timePass env.micros
  let c := c.lateRecords.releaseCores true
  let c := (c.bootReport (from_ + 1) env true).raise 131
  let c := if c.rd R.RET_STATUS = 0 then c else c.raise 132
  let c := if c.rd R.SEN_WAKE_SRC &&& c.rd R.WR_FWD_LOCAL = 0 then c else c.wakeOut
  let c := ws.foldl (fun c w => if w.bit.val = 12 ∨ w.bit.val = 13 ∧ c.siValue w.input then c.accInput w.input else c) c
  if env.xtal then c else c.limpEnter 1

/-- R391, R392, R398, R400: the warm start. Assumption log 66 (DEDUCED). -/
def State.warmStart (s : State) (ws : List WakeAt) (env : StartEnv) : State :=
  if s.chip.modex.supLost then s.controlReset 0x18 env
  else
    let kept := s.chip.rd R.RET_KEPT
    let lost := kept &&& (s.chip.modex.droop ||| s.chip.modex.changed)
    (s.zeroBanks fun k => !kept.toNat.testBit k).onChip fun c => c.wakeUp s.chip.mode lost ws env

/-- R388: a wake before commitment: the entry does not begin. -/
def Chip.cancelEntry (c : Chip) : Chip :=
  match c.modex.entry with
  | some _ => ((c.setModex { c.modex with entry := none }).finish (fun k => k.op == 0x80) .cancelled []).raise 135
  | none => c

/-- R388, R391, R393: wake sources seen in one AON cycle, lowest bit first. -/
def State.wake (s : State) (ws : List WakeAt) (env : StartEnv) : State :=
  if ws = [] then s
  else if s.chip.parked then (s.onChip fun c => ws.foldl Chip.wakeRecord c).warmStart ws env
  else s.onChip Chip.cancelEntry

/-! ### Wake sources -/

/-- R255: the edge of an input is one that WAKE_EDGE selects. -/
def Chip.edgeWakes (c : Chip) (i : Nat) (rising : Bool) : Bool :=
  let e := c.fget (R.SI_CFG i) F.SI_CFG_WAKE_EDGE
  c.flag (R.SI_CFG i) F.SI_CFG_WAKE_EN && (e == 2 || (e == 0 && rising) || (e == 1 && !rising))

/-- R372: a frame is a wake-up frame of transceiver n. -/
def Chip.swkMatch (c : Chip) (n : Nat) (f : CanFrame) : Bool :=
  let ctl := c.rd (R.SEN_SWK_CTRL n)
  let dlc := F.SEN_SWK_CTRL_DLC.get ctl
  let byteOf (g : Nat → Nat) (k : Nat) : Nat := (c.rd (g (k / 4))).toNat / 2 ^ (8 * (3 - k % 4)) % 256
  let dataOf (k : Nat) : Nat := ((f.data[k / 4]?.getD 0).toNat / 2 ^ (8 * (3 - k % 4))) % 256
  let bytes := List.range (min 8 dlc)
  !f.fdf && f.xtd == (F.SEN_SWK_ID_XTD.get (c.rd (R.SEN_SWK_ID n)) == 1) &&
    ((f.id.toNat ^^^ F.SEN_SWK_ID_ID.get (c.rd (R.SEN_SWK_ID n))) &&& F.SEN_SWK_IDMASK_MASK.get (c.rd (R.SEN_SWK_IDMASK n)) == 0) &&
    f.dlc.val == dlc &&
    (if F.SEN_SWK_CTRL_DMODE.get ctl = 0 then
      dlc == 0 || bytes.any fun k => dataOf k &&& byteOf (R.SEN_SWK_DATA n) k &&& byteOf (R.SEN_SWK_DMASK n) k != 0
    else bytes.all fun k => (dataOf k ^^^ byteOf (R.SEN_SWK_DATA n) k) &&& byteOf (R.SEN_SWK_DMASK n) k == 0)

/-- R372, R373: transceiver n decodes a frame: its error count, and the wakes it gives. -/
def Chip.swkFrame (c : Chip) (n : Fin 4) (rx : CanRx) : Chip × List WakeAt :=
  if !c.parked ∨ !c.flag (R.SEN_SWK_CTRL n) F.SEN_SWK_CTRL_EN then (c, [])
  else
    let e := c.fget (R.SEN_SWK_ERR n) F.SEN_SWK_ERR_COUNT
    match rx with
    | .error _ => (c.fset (R.SEN_SWK_ERR n) F.SEN_SWK_ERR_COUNT (min 63 (e + 1)), if 31 < e + 1 then [⟨18, 0⟩] else [])
    | .valid f =>
      if f.fdf then (c, [])
      else (c.fset (R.SEN_SWK_ERR n) F.SEN_SWK_ERR_COUNT (e - 1), if c.swkMatch n f then [⟨⟨n.val, by omega⟩, 0⟩] else [])

/-- R373: the wake-up pattern on CAN0 to CAN5, or on the service port (8). -/
def State.canPattern (s : State) (n : Fin 9) (env : StartEnv) : State :=
  if n.val = 8 then (if s.chip.mode = 0 then s.storageStart env else s.wake [⟨6, 0⟩] env)
  else if h : n.val < 6 then
    if n.val < 4 ∧ s.chip.flag (R.SEN_SWK_CTRL n) F.SEN_SWK_CTRL_EN then s else s.wake [⟨⟨n.val, by omega⟩, 0⟩] env
  else s

/-! ### The patrol sequencer (R401, R402, R258) -/

/-- R401: the slots: the patrol inputs in ascending order. -/
def Chip.slots (c : Chip) : List (Nat × Nat) := (List.range 16).zip c.patrolInputs

/-- One sample of an input; the tamper wake it gives. -/
def patrolSample (x : Chip × List WakeAt) (y : Fin 64 × Fin 1024) : Chip × List WakeAt :=
  let (c, ws) := x
  let i := y.1
  let bound := c.siBound i
  if (c.patrolInputs.contains i.val) ∧ c.flag (R.SI_CFG i) F.SI_CFG_EN ∧ (c.mode = 2 ∨ bound) then
    let was := c.fget (R.SI_STATUS i) F.SI_STATUS_TAMPER
    let c := c.siSample i y.2 (c.siRun i)
    (c, if bound ∧ c.fget (R.SI_STATUS i) F.SI_STATUS_TAMPER ≠ was then ws ++ [⟨14, i⟩] else ws)
  else (c, ws)

/-- R401: PAT_STATUS shows the slots. -/
def Chip.patStatus (c : Chip) : Chip :=
  let l := c.slots
  let m := (l.map fun x => 2 ^ x.1).sum
  let v := (l.map fun x => if c.siValue x.2 then 2 ^ x.1 else 0).sum
  c.wr R.PAT_STATUS (F.PAT_STATUS_SLOT_MAP.put (F.PAT_STATUS_VALUE.of v) m)

/-- R401: the first slot that differs from the expected pattern. -/
def Chip.mismatch (c : Chip) : Option Nat :=
  (c.slots.find? fun x => !c.siBound x.2 && (c.fget R.PAT_EXPECT F.PAT_EXPECT_CARE).testBit x.1 &&
    c.siValue x.2 != (c.fget R.PAT_EXPECT F.PAT_EXPECT_EXPECT).testBit x.1).map (·.2)

/-- R401, R402: a patrol cycle. -/
def Chip.patrol (c : Chip) (codes : List (Fin 64 × Fin 1024)) : Chip × List WakeAt :=
  if c.mode = 2 ∨ (c.mode = 1 ∧ (List.range 4).any fun k => c.siBound (60 + k)) then
    let (c, ws) := codes.foldl patrolSample (c, [])
    let c := (c.patStatus).bumpWrap R.PAT_CYCLE_CNT
    match (if c.mode = 2 then c.mismatch else none) with
    | some i => (c.bump R.PAT_MISMATCH_CNT, ⟨13, .ofNat 64 i⟩ :: ws)
    | none => (c, ws)
  else (c, [])

/-! ### Supply (R161, R405, R407, R409) -/

/-- R409: what the sentinel holds without supply becomes the supply loss to be logged. -/
def Chip.supplyLoss (c : Chip) : Chip :=
  match c.modex.cell with
  | some t => c.setModex { c.modex with cell := none, loss := some (t, c.grain.epoch % 2 ^ 16) }
  | none => c

/-- R161: the module is without supply: every die is off, and what needs no supply stays. Assumption log 72 (DEDUCED). -/
def State.supplyOff (s : State) : State :=
  let c := s.chip
  let b := c.d0Reset
  let keep (a : Nat) : Bool := (decide (0x400C1000 ≤ a) && decide (a < 0x40100000) && a != R.SEC_LOST_CNT) || a == R.ACC_ENROLLED
  let n : Chip := {
    regs := c.regs.filter fun x => keep x.1
    fresh := c.fresh, records := c.records, stored := c.stored, policy := c.policy, authKeys := c.authKeys
    acc := b.acc, upd := b.upd, modex := { cell := c.modex.cell, loss := c.modex.loss }, grain := { b.grain with late := [] } }
  { s with chip := n.fset R.SEC_LOG_STATUS F.SEC_LOG_STATUS_SEALING 0, sram := [] }

/-- R405: a module power-on: every die resets, what NVM keeps stays, and STARTUP runs. Assumption log 72 (DEDUCED). -/
def State.powerOn (s : State) (cause : Nat) (env : StartEnv) : State :=
  (s.onChip Chip.supplyLoss).supplyOff.onChip fun c =>
    ((c.setGrain { c.grain with epoch := c.grain.epoch + 1 }).wr R.SYS_RESET_CAUSE (.ofNat 32 cause)).startup 0 false env

/-! ### Watchdogs (R408) -/

/-- R408: the application watchdog runs. Assumption log 76 (DEDUCED). -/
def Chip.wdtRuns (c : Chip) : Bool :=
  c.awake && c.flag R.SYS_WDT_CFG F.SYS_WDT_CFG_EN && (List.range 4).any fun k => !(c.core k).inReset

/-! ### False wake (R429) -/

/-- R429: the false-wake timer ends: back to the mode the module was woken from. Assumption log 62 (DEDUCED). -/
def Chip.falseWake (c : Chip) : Chip :=
  let back := (c.rd (R.SYS_BOOT_REPORT 0)).toNat / 2 ^ 16 % 256 - 1
  if c.flag R.NM_FW_STATUS F.NM_FW_STATUS_ARMED ∧ (c.mode = 3 ∨ (c.mode = 7 ∧ c.limpCause = 1)) ∧ (back = 1 ∨ back = 2) then
    ((c.bump R.NM_FALSE_WAKE_CNT).raise 146).parkEntry back fun _ => false
  else c

/-- R399: the zero-fill of bank k is done. -/
def State.fillDone (s : State) (k : Nat) : State :=
  if s.chip.modex.filling.getLsbD k then
    (s.zeroBanks (· == k)).onChip fun c =>
      (c.setModex { c.modex with filling := c.modex.filling &&& ~~~(1#32 <<< k) }).fbit R.RET_STATUS (bitFld k) false
  else s

/-! ### Meanings -/

/-- R157. -/
def execPwrHoldTimeExpire (n : Fin 4) (s : State) : Host.Outcome State Fault Refusal :=
  .next (s.onChip fun c => if (c.link (n + 2)).lost then (c.limpDie n).vLimpDie n else c)
/-- R160, R269, R405. -/
def execDieLocalReset (d : Fin 8) (s : State) : Host.Outcome State Fault Refusal := .next (s.onChip (·.dieLocal d))
/-- R161. -/
def execModuleSupplyLoss (s : State) : Host.Outcome State Fault Refusal := .next s.supplyOff
/-- R255. -/
def execSiWakeEdge (i : Fin 64) (rising : Bool) (env : StartEnv) (s : State) : Host.Outcome State Fault Refusal :=
  .next (if s.chip.edgeWakes i rising then s.wake [⟨12, i⟩] env else s)
/-- R281. -/
def execLockstepMismatch (env : StartEnv) (s : State) : Host.Outcome State Fault Refusal :=
  .next (if s.chip.awake then s.controlReset 0x14 env else s)
/-- R309, R393. -/
def execHspWake (addr : BitVec 24) (env : StartEnv) (s : State) : Host.Outcome State Fault Refusal :=
  .next (s.frame 0x0F addr.toNat none fun s => (s.wake [⟨17, 0⟩] env).onChip (·.raise 21))
/-- R372, R373. -/
def execSwkFrameDecoded (n : Fin 4) (rx : CanRx) (env : StartEnv) (s : State) : Host.Outcome State Fault Refusal :=
  .next ((s.onChip fun c => (c.swkFrame n rx).1).wake (s.chip.swkFrame n rx).2 env)
/-- R373. -/
def execCanWakePattern (n : Fin 9) (env : StartEnv) (s : State) : Host.Outcome State Fault Refusal := .next (s.canPattern n env)
/-- R379. -/
def execLinWakeSignal (n : Fin 4) (env : StartEnv) (s : State) : Host.Outcome State Fault Refusal :=
  .next (if s.chip.awake then (s.wake [⟨⟨7 + n.val, by omega⟩, 0⟩] env).onChip (·.linWoken n) else s.wake [⟨⟨7 + n.val, by omega⟩, 0⟩] env)
/-- R399. -/
def execRetFillComplete (k : Fin 32) (s : State) : Host.Outcome State Fault Refusal := .next (s.fillDone k)
/-- R401, R402. -/
def execPatrolCycle (codes : List (Fin 64 × Fin 1024)) (env : StartEnv) (s : State) : Host.Outcome State Fault Refusal :=
  .next ((s.onChip fun c => (c.patrol codes).1).wake (s.chip.patrol codes).2 env)
/-- R403, R448. -/
def execSniffWindow (slot : Option (Fin 10)) (env : StartEnv) (s : State) : Host.Outcome State Fault Refusal :=
  let c := s.chip
  .next (if c.mode = 2 ∧ c.flag R.PAT_SNIFF F.PAT_SNIFF_EN ∧ !c.flag R.ACC_STATE F.ACC_STATE_POLL_STOPPED ∧ slot.any (fun k => c.enrolled k)
    then s.wake [⟨15, 0⟩] env else s)
/-- R404. -/
def execPatAlarmExpire (env : StartEnv) (s : State) : Host.Outcome State Fault Refusal :=
  .next (if s.chip.parked ∧ s.chip.rd R.PAT_ALARM ≠ 0 then s.wake [⟨16, 0⟩] env else s)
/-- R405, R407, R412. -/
def execModulePowerOn (env : StartEnv) (s : State) : Host.Outcome State Fault Refusal := .next (s.powerOn 0x01 env)
/-- R409. -/
def execVsenFall (s : State) : Host.Outcome State Fault Refusal :=
  .next (s.onChip fun c => c.setModex { c.modex with cell := some (c.modex.cell.getD (c.ctr64 R.SEN_RTC_LO).toNat) })
/-- R405, R407; brown: VSEN stayed above the discrimination level. -/
def execVsenLowTimeout (brown : Bool) (env : StartEnv) (s : State) : Host.Outcome State Fault Refusal :=
  .next (if s.chip.modex.cell.isSome then s.powerOn (if brown then 0x02 else 0x01) env else s)
/-- R409. -/
def execVsenEarlyRecovery (s : State) : Host.Outcome State Fault Refusal :=
  .next (s.onChip fun c => c.setModex { c.modex with cell := none })
/-- R405, R519. -/
def execResetNLow (env : StartEnv) (s : State) : Host.Outcome State Fault Refusal := .next (s.controlReset 0x10 env)
/-- R405: the write of GO with its KEY, and the reset it brings. -/
def execSysSwresetGo (rq : Req) (env : StartEnv) (s : State) : Host.Outcome State Fault Refusal :=
  let t := (s.onChip fun c => c.setModex { c.modex with resetDue := none }).write rq R.SYS_SWRESET 0x5A5A0001
  .next (if t.chip.modex.resetDue = some 0x11 then t.controlReset 0x11 env
    else t.onChip fun c => c.setModex { c.modex with resetDue := s.chip.modex.resetDue })
/-- R408. -/
def execWdtHalfTime (s : State) : Host.Outcome State Fault Refusal :=
  .next (s.onChip fun c => if c.wdtRuns ∧ !c.modex.wdtHalf then (c.setModex { c.modex with wdtHalf := true }).raise 134 else c)
/-- R408. -/
def execWdtTimeout (env : StartEnv) (s : State) : Host.Outcome State Fault Refusal :=
  .next (if s.chip.wdtRuns ∧ s.chip.modex.wdtHalf then s.controlReset 0x12 env else s)
/-- R408. -/
def execSupWdtTimeout (env : StartEnv) (s : State) : Host.Outcome State Fault Refusal :=
  .next (if s.chip.awake then s.controlReset 0x13 env else s)
/-- R411. -/
def execLimpRetryExpire (env : StartEnv) (s : State) : Host.Outcome State Fault Refusal :=
  .next (if s.chip.mode = 7 ∧ s.chip.limpCause = 2 then s.controlReset 0x15 env else s)
/-- R405: 100 µs after the command. -/
def execSysResetDelayExpire (env : StartEnv) (s : State) : Host.Outcome State Fault Refusal :=
  .next (match s.chip.modex.resetDue with | some cause => s.controlReset cause env | none => s)
/-- R429. -/
def execFalseWakeTimeout (s : State) : Host.Outcome State Fault Refusal := .next (s.onChip (·.falseWake))
/-- R430 to R433. -/
def execWakeInPulse (env : StartEnv) (s : State) : Host.Outcome State Fault Refusal :=
  let (c, taken) := s.chip.wakeIn
  let s := { s with chip := c }
  .next (if !taken then s else if c.mode = 0 then s.storageStart env else if c.parked then s.wake [⟨11, 0⟩] env
    else (s.wake [⟨11, 0⟩] env).onChip (·.raise 147))
/-- R398: bank's supply falls below the threshold, none: the supervisor's own; changed: its contents no longer match. -/
def execRetentionDroop (bank : Option (Fin 32)) (changed : Bool) (s : State) : Host.Outcome State Fault Refusal :=
  .next (s.onChip fun c =>
    if !c.parked then c
    else match bank with
    | some k =>
      if (c.rd R.RET_KEPT).toNat.testBit k then
        c.setModex { c.modex with droop := c.modex.droop ||| (1#32 <<< k.val), changed := if changed then c.modex.changed ||| (1#32 <<< k.val) else c.modex.changed }
      else c
    | none => c.setModex { c.modex with supLost := true })

end Sys2Proof.Machine
end

