-- ==== Sys2Proof/Machine/Update.lean ====
section
/-! DEFINITION. The service port's UDS services and the staging of a package (R414, R481 to R488, R492, R493, R499). -/

namespace Sys2Proof.Machine
open Sys2Proof

/-! ### Answers and sessions (R481 to R485) -/

def Chip.say (c : Chip) (l : List Byte) : Chip := c.setUpd { c.upd with reply := l }
/-- A negative response: service sid, code nrc. Assumption log 69 (PRESUMED). -/
def Chip.nrc (c : Chip) (sid nrc : Nat) : Chip := c.say [0x7F, .ofNat 8 sid, .ofNat 8 nrc]

/-- The service port hears requests: the control die is powered, its crystal runs (R17, R19) and its pads are not held (R395).
Assumption log 69 (PRESUMED). -/
def Chip.svcHears (c : Chip) : Bool := c.awake && c.flag R.SYS_CLK_STATUS F.SYS_CLK_STATUS_XTAL40_OK && !c.flag R.SYS_PAD_HOLD (bitFld 9)
/-- R414, R499: only the boot ROM's recovery routine answers. -/
def Chip.recovery (c : Chip) : Bool := c.mode == 5

/-- A request is heard; in recovery only a service that the routine supports is (R499). -/
def Chip.service (c : Chip) (sid : Nat) (inRecovery : Bool) (f : Chip → Chip) : Chip :=
  if !c.svcHears then c else if c.recovery && !inRecovery then c.nrc sid 0x11 else f c

/-- R485: a service of the programming session. -/
def Chip.programming (c : Chip) (sid : Nat) (f : Chip → Chip) : Chip := if c.upd.session = 2 then f c else c.nrc sid 0x7F

/-- R488: a transfer that is broken off. Assumption log 69 (PRESUMED). -/
def Chip.breakOff (c : Chip) : Chip :=
  if c.upd.staging = 1 then c.setUpd { c.upd with staging := 4, result := 10, failing := 0xFF } else c

/-- The session changes: EV215. Assumption log 69 (PRESUMED). -/
def Chip.setSession (c : Chip) (n : Nat) : Chip :=
  if c.upd.session = n then c else (c.setUpd { c.upd with session := n }).raise 215

/-- R381, R482, R488: the session returns to default; SERVICE ends unless it was entered from STARTUP or an activation is armed. -/
def Chip.endSession (c : Chip) : Chip :=
  let c := c.breakOff.setSession 1
  if c.mode = 6 ∧ !c.upd.fromStart ∧ c.upd.staging ≠ 5 then c.setMode c.upd.back else c

/-- R482: DiagnosticSessionControl. -/
def Chip.sessionControl (c : Chip) (n : Nat) : Chip :=
  let yes (c : Chip) : Chip := c.say [0x50, .ofNat 8 n]
  if c.recovery then (if n = 1 ∨ n = 2 then yes ((if n = 1 then c.breakOff else c).setSession n) else c.nrc 0x10 0x22)
  else if ¬ (c.mode = 3 ∨ c.mode = 4 ∨ c.mode = 6) then c.nrc 0x10 0x22
  else if n = 1 then yes c.endSession
  else if n = 2 ∨ n = 3 then
    let c := if n = 3 then c.breakOff else c
    let c := if c.mode = 6 then c else (c.setUpd { c.upd with back := c.mode, fromStart := false }).setMode 6
    yes (c.setSession n)
  else c.nrc 0x10 0x12

/-- R485: ECUReset, hardReset. -/
def State.ecuReset (s : State) (kind : Nat) (env : StartEnv) : State :=
  if !s.chip.svcHears then s
  else if s.chip.upd.session = 1 then s.onChip (·.nrc 0x11 0x7F)
  else if kind ≠ 1 then s.onChip (·.nrc 0x11 0x12)
  else (s.onChip (·.say [0x51, 0x01])).controlReset (if s.chip.upd.staging = 5 then 0x16 else 0x17) env

/-! ### Data identifiers (R486) -/

/-- R460: the device certificate. -/
def certificate : List Byte :=
  [1, 0, 0, 0] ++ deviceId ++ Config.devicePublicKey ++ List.replicate 12 0 ++ (List.range 7856).map Config.certSignature

def Chip.didData (c : Chip) (did : Nat) : Option (List Byte) :=
  let u := c.upd
  if did = 0x5A10 then
    some ([.ofNat 8 u.staging, .ofNat 8 u.result, .ofNat 8 u.failing, .ofNat 8 (c.logFull.toNat + 2 * (decide (u.staging = 1)).toNat)] ++
      beBytes 4 c.stagedVersion.toNat ++ beBytes 4 u.outcome.toNat ++ beBytes 4 u.storedSvn)
  else if did = 0x5A11 then some ((List.range 32).flatMap fun w => beBytes 4 (c.rd (R.SYS_BOOT_REPORT w)).toNat)
  else if did = 0x5A12 then some certificate
  else if did = 0x5A13 then some ((List.range 1184).map Config.encapsulationKey)
  else none

def Chip.readDid (c : Chip) (did : Nat) : Chip :=
  match c.didData did with
  | some d => c.say ([0x62] ++ beBytes 2 did ++ d)
  | none => c.nrc 0x22 0x31

/-! ### Routines (R487, R492) -/

/-- The answer of a routine: sub-function, identifier, results. -/
def Chip.routineSays (c : Chip) (sub rid : Nat) (l : List Byte) : Chip := c.say ([0x71, .ofNat 8 sub] ++ beBytes 2 rid ++ l)
def Chip.checkBytes (c : Chip) : List Byte := [.ofNat 8 c.upd.result, .ofNat 8 c.upd.failing]

def Chip.checkStart (c : Chip) : Chip :=
  if c.upd.staging = 2 ∧ !c.upd.checking then c.setUpd { c.upd with checking := true } else c.nrc 0x31 0x24

/-- R492, R499: what the check finds; the recovery routine takes only Ibulo's packages with a supervisor part. Assumption log 68 (DEDUCED). -/
def Chip.checkFinds (c : Chip) : Nat × Nat :=
  let b := c.upd.data
  let r := c.checkResult b
  if !c.recovery ∨ (r.1 ≠ 0 ∧ r.1 ≤ 3) then r
  else if leAt b (pkgHeader + 32) 1 ≠ 0 then (3, 0xFF)
  else if r.1 ≠ 0 ∧ r.1 ≤ 6 then r
  else if (pkgPartList b).any fun p => p.kind == 1 then r else (6, 0xFF)

def Chip.checkDone (c : Chip) : Chip :=
  if c.upd.checking ∧ c.awake then
    let r := c.checkFinds
    let c := c.setUpd { c.upd with checking := false, result := r.1, failing := r.2, staging := if r.1 = 0 then 3 else 4 }
    (c.raise (if r.1 = 0 then 209 else 210)).routineSays 1 0x5A02 c.checkBytes
  else c

def Chip.arm (c : Chip) : Chip := (c.setUpd { c.upd with staging := 5 }).raise 211

/-- R487: sub-function 0x03. -/
def Chip.routineResults (c : Chip) (rid : Nat) : Chip :=
  if rid = 0x5A02 then (if c.upd.checking then c.nrc 0x31 0x78 else c.routineSays 3 rid c.checkBytes)
  else if rid = 0x5A01 ∨ rid = 0x5A03 ∨ rid = 0x5A04 then c.routineSays 3 rid [] else c.nrc 0x31 0x31

/-! ### Transfers (R488) -/

def Chip.download (c : Chip) (format lengths addr size : Nat) : Chip :=
  if format = 0 ∧ lengths = 0x44 ∧ addr = 0 ∧ size ≤ 4194304 then
    (c.setUpd { c.upd with staging := 1, size := size, data := [], block := 1, result := 0, failing := 0xFF, checking := false }).say
      [0x74, 0x20, 0x10, 0x02]
  else c.nrc 0x34 0x31

def Chip.transfer (c : Chip) (counter : Nat) (bs : List Byte) (programmed : Bool) : Chip :=
  let u := c.upd
  let yes (c : Chip) : Chip := c.say [0x76, .ofNat 8 counter]
  if u.staging ≠ 1 then c.nrc 0x36 0x24
  else if counter = (u.block + 255) % 256 ∧ u.data ≠ [] then yes c
  else if counter ≠ u.block then c.nrc 0x36 0x73
  else if u.size < u.data.length + bs.length then c.nrc 0x36 0x71
  else if 4096 < bs.length then c.nrc 0x36 0x13
  else if !programmed then c.nrc 0x36 0x72
  else yes (c.setUpd { u with data := u.data ++ bs, block := (u.block + 1) % 256 })

def Chip.transferExit (c : Chip) : Chip :=
  if c.upd.staging = 1 ∧ c.upd.size ≤ c.upd.data.length then
    ((c.setUpd { c.upd with staging := 2 }).raise 208).say [0x77]
  else c.nrc 0x37 0x24

/-! ### Meanings -/

/-- R482. -/
def execDiagnosticSessionControl (session : BitVec 8) (s : State) : Host.Outcome State Fault Refusal :=
  .next (s.onChip (·.service 0x10 true (·.sessionControl session.toNat)))
/-- R485. -/
def execEcuReset (kind : BitVec 8) (env : StartEnv) (s : State) : Host.Outcome State Fault Refusal := .next (s.ecuReset kind.toNat env)
/-- R486. -/
def execReadDataByIdentifier (did : BitVec 16) (s : State) : Host.Outcome State Fault Refusal :=
  .next (s.onChip (·.service 0x22 false (·.readDid did.toNat)))
/-- R487. -/
def execEraseStaging (s : State) : Host.Outcome State Fault Refusal :=
  .next (s.onChip (·.service 0x31 false (·.programming 0x31 fun c => c.unstage.routineSays 1 0x5A01 [])))
/-- R487, R492. -/
def execCheckPackage (s : State) : Host.Outcome State Fault Refusal :=
  .next (s.onChip (·.service 0x31 true (·.programming 0x31 Chip.checkStart)))
/-- R492. -/
def execCheckPackageDone (s : State) : Host.Outcome State Fault Refusal := .next (s.onChip (·.checkDone))
/-- R487. -/
def execArmActivation (s : State) : Host.Outcome State Fault Refusal :=
  .next (s.onChip (·.service 0x31 true (·.programming 0x31 fun c =>
    if c.upd.staging ≠ 3 then c.nrc 0x31 0x24 else if c.logFull then c.nrc 0x31 0x22 else c.arm.routineSays 1 0x5A03 [])))
/-- R487. -/
def execDisarm (s : State) : Host.Outcome State Fault Refusal :=
  .next (s.onChip (·.service 0x31 false (·.programming 0x31 fun c =>
    if c.upd.staging ≠ 5 then c.nrc 0x31 0x24 else (c.setUpd { c.upd with staging := 3 }).routineSays 1 0x5A04 [])))
/-- R487. -/
def execRoutineResults (rid : BitVec 16) (s : State) : Host.Outcome State Fault Refusal :=
  .next (s.onChip (·.service 0x31 true (·.programming 0x31 (·.routineResults rid.toNat))))
/-- R487. -/
def execRoutinePendingResponse (s : State) : Host.Outcome State Fault Refusal :=
  .next (s.onChip fun c => if c.upd.checking ∧ c.svcHears then c.nrc 0x31 0x78 else c)
/-- R488. -/
def execRequestDownload (format lengths : BitVec 8) (addr size : Word) (s : State) : Host.Outcome State Fault Refusal :=
  .next (s.onChip (·.service 0x34 true (·.programming 0x34 (·.download format.toNat lengths.toNat addr.toNat size.toNat))))
/-- R488. -/
def execTransferData (counter : BitVec 8) (bytes : List Byte) (programmed : Bool) (s : State) : Host.Outcome State Fault Refusal :=
  .next (s.onChip (·.service 0x36 true (·.programming 0x36 (·.transfer counter.toNat bytes programmed))))
/-- R488. -/
def execRequestTransferExit (s : State) : Host.Outcome State Fault Refusal :=
  .next (s.onChip (·.service 0x37 true (·.programming 0x37 Chip.transferExit)))
/-- R482. -/
def execTesterPresent (s : State) : Host.Outcome State Fault Refusal := .next (s.onChip (·.service 0x3E false (·.say [0x7E, 0x00])))
/-- R483. -/
def execSecurityAccess (_sub : BitVec 8) (s : State) : Host.Outcome State Fault Refusal := .next (s.onChip (·.service 0x27 true (·.nrc 0x27 0x11)))
/-- R482. -/
def execS3Timeout (s : State) : Host.Outcome State Fault Refusal :=
  .next (s.onChip fun c => if c.upd.session ≠ 1 ∧ c.awake then c.endSession else c)
/-- R485. -/
def execUnsupportedServiceRequest (sid : BitVec 8) (s : State) : Host.Outcome State Fault Refusal :=
  .next (s.onChip (·.service sid.toNat true fun c =>
    if [0x10, 0x11, 0x22, 0x31, 0x34, 0x36, 0x37, 0x3E].contains sid.toNat then c else c.nrc sid.toNat 0x11))

end Sys2Proof.Machine
end

