-- ==== Sys2Proof/Machine/CmdTake.lean ====
section
/-! DEFINITION. How the supervisor takes a command packet, checks it and answers it (R334 to R345, R350 to R352): what the
meanings of the command set (spec/11) share. -/

namespace Sys2Proof.Machine
open Sys2Proof

/-! ### Packets (R334, R336, R344) -/

/-- R334: the requesters commands are accepted from. -/
def commands (rq : Req) : Bool := rq == .host || isCore rq
/-- R334: the command queue of a requester. -/
def cmdQueue : Req → Nat
  | .a0 => 2 | .a1 => 3 | .a2 => 4 | .a3 => 5 | _ => 0

/-- R329, R336: the words of the oldest whole packet that the supervisor can pop from a queue. -/
def Chip.headPacket (c : Chip) (q : Nat) : List Word :=
  let l := (c.queue q).drain
  if c.qEnabled q then (l.take (headLen l)).map (·.data) else []

/-- The packet is popped. -/
def Chip.takePacket (c : Chip) (q : Nat) : Chip :=
  let x := c.queue q
  (c.ungate 1).setQueue q { x with drain := x.drain.drop (headLen x.drain) }

/-- R344: a packet of the requester is served: its completion queue has 34 free words, and no completion of it is held.
Assumption log 50 (DESIGN CHOICE). -/
def Chip.serves (c : Chip) (rq : Req) : Bool :=
  c.awake && commands rq && !c.stalled .sup && decide (34 ≤ c.qFree (compQueue rq)) && c.heldComps.all fun h => h.1 != rq

/-- R336: the command a packet of header h and payload ws is. -/
def cmdOf (rq : Req) (h : Word) (ws : List Word) : Cmd := { rq := rq, op := h.toNat / 2 ^ 24, tag := h.toNat / 2 ^ 16 % 128, w := ws }

/-! ### Refusals (R338 to R340, R351) -/

/-- R338, R339: why a command is refused: its status, and the ARG, REASON and OBJECT of its DETAIL; dup sets DUP_TAG. -/
structure Refuse where
  st : CmdStatus
  arg : Nat := 0xFF
  reason : Nat := 0
  obj : Nat := 0xFFFF
  dup : Bool := false
  deriving DecidableEq, Repr

/-- A check: whether it fails, and what it then answers. -/
abbrev Check := Bool × Refuse

/-- R338: the first check that fails decides. -/
def firstFail : List Check → Option Refuse
  | [] => none
  | x :: l => if x.1 then some x.2 else firstFail l

/-- The refusal of a command: BUSY raises EV224 (R343), DENIED is logged and raises EV226 (R351). -/
def Chip.refuse (c : Chip) (k : Cmd) (r : Refuse) : Chip :=
  let c := match r.st with
    | .denied => c.refusedCommand k.rq k.op CmdStatus.denied.code (k.arg 1)
    | .busy => c.raise 224
    | _ => c
  c.complete k.rq k.op k.tag r.st [detail r.arg r.reason r.obj] (if r.dup then 512 else 0)

/-- R341: the table entries a requester holds, and all that are in use. -/
def Chip.ownEntries (c : Chip) (rq : Req) : Nat := (c.cmds.filter fun x => x.rq == rq).length + (c.heldComps.filter fun x => x.1 == rq).length
def Chip.entries (c : Chip) : Nat := c.cmds.length + c.heldComps.length

/-- R335: the requester mask of an opcode's range admits a requester; 0x00 to 0x0F admits all. -/
def Chip.rangeAdmits (c : Chip) (rq : Req) (op : Nat) : Bool := op < 16 || (c.cfg.masks.getD (op / 16 - 1) 0).testBit rq.code

/-- R338: the checks 1 and 3 to 5 that every command meets, LEN as the opcode takes it (lens). -/
def Chip.commonChecks (c : Chip) (k : Cmd) (h : Word) (lens : Cmd → Bool) : List Check :=
  [(k.w.length != h.toNat % 256 || h.getLsbD 23 || h.toNat / 256 % 256 != 0 || 62 < k.w.length || !lens k, { st := .badArg, arg := 0 }),
   (5 < k.op && c.cmds.any fun x => x.rq == k.rq && x.tag == k.tag, { st := .badArg, arg := 0, dup := true }),
   (5 < k.op && (c.quotas.getD k.rq.code 0 ≤ c.ownEntries k.rq || 128 ≤ c.entries), { st := .busy }),
   (!c.rangeAdmits k.rq k.op, { st := .notOwner })]

/-- What becomes of a command row: no packet of it is served now; its command was refused; it is carried out. -/
inductive Intake where
  | none
  | refused (c : Chip)
  | accepted (c : Chip) (k : Cmd)

/-- R338, R344: the packet of opcode op at the front of the requester's queue is taken and checked. Assumption log 50 (DESIGN CHOICE). -/
def Chip.intake (c : Chip) (rq : Req) (op : Nat) (lens : Cmd → Bool) (checks : Chip → Cmd → List Check) : Intake :=
  match c.headPacket (cmdQueue rq) with
  | [] => .none
  | h :: ws =>
    let k := cmdOf rq h ws
    if !c.serves rq || k.op != op then .none
    else
      let c := c.takePacket (cmdQueue rq)
      match firstFail (c.commonChecks k h lens ++ checks c k) with
      | some r => .refused (c.refuse k r)
      | none => .accepted c k

/-- A command row whose effect lies in the module. Assumption log 50 (DESIGN CHOICE). -/
def Chip.command (c : Chip) (rq : Req) (op : Nat) (lens : Cmd → Bool) (checks : Chip → Cmd → List Check) (run : Chip → Cmd → Chip) : Chip :=
  match c.intake rq op lens checks with
  | .none => c
  | .refused c => c
  | .accepted c k => run c k

/-- A command row that reads or writes SRAM. -/
def State.command (s : State) (rq : Req) (op : Nat) (lens : Cmd → Bool) (checks : Chip → Cmd → List Check) (run : State → Cmd → State) : State :=
  match s.chip.intake rq op lens checks with
  | .none => s
  | .refused c => { s with chip := c }
  | .accepted c k => run { s with chip := c } k

/-! ### Completing (R345, R347) -/

/-- An immediate command completes OK. -/
def Chip.done (c : Chip) (k : Cmd) (res : List Word := []) : Chip := c.complete k.rq k.op k.tag .ok res
/-- R352: an immediate command fails after its checks. -/
def Chip.fail (c : Chip) (k : Cmd) (r : Refuse) : Chip := c.refuse k r
/-- R341: a long command holds an entry; obj is what it waits for. -/
def Chip.addCmd (c : Chip) (k : Cmd) (obj : Nat) (started : Bool := false) : Chip :=
  { c with cmds := c.cmds ++ [{ k with obj := obj, started := started }] }

/-! ### Writes (R345, R352) -/

/-! ### Checks -/

/-- Check 7: payload word i is out of range. Assumption log 51 (DEDUCED). -/
def badArg (i : Nat) (p : Bool) : Check := (p, { st := .badArg, arg := i })
/-- Check 7, R337: the bits of payload word i that no field names are 0. Assumption log 51 (DEDUCED). -/
def Cmd.only (k : Cmd) (i mask : Nat) : Check := badArg i ((k.arg i).toNat &&& mask != (k.arg i).toNat)
/-- Check 7, R337: payload word i takes a register's layout. Assumption log 51 (DEDUCED). -/
def Cmd.lay (k : Cmd) (i : Nat) (id : RegId) (ix : List Nat) : Check := badArg i (!layoutOk id ix (k.arg i))
/-- Check 5: the requester is not the owner. Assumption log 52 (DEDUCED). -/
def notOwner (p : Bool) (obj : Nat := 0xFFFF) : Check := (p, { st := .notOwner, obj := obj })
/-- Check 6 (and 5, where the table says so). Assumption log 52 (DEDUCED). -/
def denied (p : Bool) (obj : Nat := 0xFFFF) : Check := (p, { st := .denied, obj := obj })
/-- Check 8: refused by the state, with a REASON. Assumption log 53 (DEDUCED). -/
def refusedBy (reason : Nat) (p : Bool) (obj : Nat := 0xFFFF) : Check := (p, { st := .badArg, reason := reason, obj := obj })
/-- Check 8: the link of die d is down. Assumption log 53 (DEDUCED). -/
def Chip.offLink (c : Chip) (d : Nat) (obj : Nat := 0xFFFF) : Check := (!c.linkUp d, { st := .blockOff, obj := obj })
/-- Check 8: the function is disabled. Assumption log 54 (DEDUCED). -/
def disabledIf (p : Bool) (obj : Nat := 0xFFFF) : Check := (p, { st := .disabled, obj := obj })
/-- Check 5, spec/11: a row for application cores only; one for SERVICE mode only (check 6). -/
def coresOnly (k : Cmd) : Check := notOwner (!isCore k.rq)
def Chip.serviceOnly (c : Chip) : Check := denied (c.mode != 6)
/-- R351: the command needs a record that the full log cannot take. Assumption log 57 (DEDUCED). -/
def Chip.needsLog (c : Chip) : Check := (c.logFull, { st := .logFull })

/-- Bits lo to lo + n - 1 of payload word i. -/
def Cmd.bits (k : Cmd) (i lo n : Nat) : Nat := (k.arg i).toNat / 2 ^ lo % 2 ^ n
/-- Exactly n payload words. -/
def len (n : Nat) (k : Cmd) : Bool := k.w.length == n
/-- lo to hi payload words. -/
def lenIn (lo hi : Nat) (k : Cmd) : Bool := decide (lo ≤ k.w.length) && decide (k.w.length ≤ hi)

/-- The bits of a payload word that name a die, and its number. -/
def Cmd.die (k : Cmd) : Nat := k.bits 1 0 2
/-- The channel a payload names. -/
def Cmd.ch (k : Cmd) : Nat := k.bits 1 0 8

/-- A word of a mask over the channels of a die: its local channels. -/
def maskChans (m0 m1 : Nat) : List Nat := maskBits 32 m0 ++ (maskBits 16 m1).map (32 + ·)

/-- R84, R74: the requester owns the channel; a number past the last channel is left to check 7. -/
def Chip.owns (c : Chip) (k : Cmd) (ch : Nat) : Bool := decide (192 ≤ ch) || c.ownerOf (c.lead ch) == k.rq.code

/-- The lowest local channel of a mask that a predicate picks, as a channel of die n. -/
def lowestOf (n m0 m1 : Nat) (p : Nat → Bool) : Option Nat := ((maskChans m0 m1).map (48 * n + ·)).find? p

/-- A check that fails on the lowest channel of a mask that p picks, whose number is the OBJECT. -/
def maskCheck (x : Option Nat) (r : Refuse) : Check := (x.isSome, { r with obj := x.getD 0xFFFF })

end Sys2Proof.Machine
end

