-- ==== Sys2Proof/Machine/CmdChan.lean ====
section
/-! DEFINITION. The commands of load channels and of measurement (spec/11, 0x10 to 0x1C and 0x30 to 0x35). -/

namespace Sys2Proof.Machine
open Sys2Proof

/-! ### Checks on a channel -/

/-- Checks 5 to 7 on the channel that w1 names: owned by the requester, not sealed, below 192; the other bits of w1 are mask's.
Assumption log 52 (DEDUCED). -/
def Chip.chanChecks (c : Chip) (k : Cmd) (mask : Nat) : List Check :=
  [notOwner (!c.owns k k.ch) k.ch, denied (isSealed k.ch) k.ch, k.only 1 mask, badArg 1 (decide (192 ≤ k.ch))]
/-- Check 8: its die's link is up, and it is not DISABLED. Assumption log 54 (DEDUCED). -/
def Chip.chanState (c : Chip) (ch : Nat) : List Check :=
  [c.offLink (physDie ch) ch, disabledIf (c.chState (c.lead ch) == .disabled) ch]
/-- R74: the odd member of a pair takes no CH_CMD, CH_PWM or CH_CFG. Assumption log 53 (DEDUCED). -/
def Chip.oddCheck (c : Chip) (ch : Nat) : Check := refusedBy 2 (c.oddMember ch) ch
/-- Check 8 for die n. -/
def Chip.dieCheck (c : Chip) (n : Nat) : Check := c.offLink (n + 2) n

/-- R213: the groups that are on and name a channel; those that name it at all. -/
def Chip.inGroup (c : Chip) (ch : Nat) (on : Bool) : Bool :=
  (List.range 12).any fun g => (!on || c.flag (R.LF_CFG g) F.LF_CFG_EN) && (c.groupChans g).contains ch

/-! ### CH_SET to CH_REARM -/

/-- CH_LID_CTRL.ARM of a channel, by the supervisor. -/
def Chip.setArm (c : Chip) (ch v : Nat) : Chip := c.supWrite .sup (R.CH_LID_CTRL ch) (F.CH_LID_CTRL_ARM.put (c.rd (R.CH_LID_CTRL ch)) v)

/-- CH_SET: CH_PWM first where PWM_VALID, then CH_CMD for its owner. -/
def Chip.chSet (c : Chip) (k : Cmd) : Chip :=
  let c := if k.bits 1 8 1 = 1 then c.supWrite .sup (R.CH_PWM k.ch) (k.arg 3) else c
  let c := c.supWrite k.rq (R.CH_CMD k.ch) (k.arg 2)
  c.done k [c.statusOf k.ch]
/-- R352. -/
def execChSet (rq : Req) (s : State) : Host.Outcome State Fault Refusal :=
  .next (s.onChip fun c => c.command rq 0x10 (len 3) (fun c k => c.chanChecks k 0x1FF ++
    [badArg 2 (F.CH_CMD_REARM.get (k.arg 2) == 1 || decide (3 < F.CH_CMD_MODE.get (k.arg 2))), k.lay 2 .CH_CMD [pdie k.ch, k.ch % 48],
     k.lay 3 .CH_PWM [pdie k.ch, k.ch % 48]] ++ c.chanState k.ch ++ [c.oddCheck k.ch]) Chip.chSet)

/-- CH_SET_CFG: the channel's new configuration; the supervisor then arms its identification (R183). Assumption log 34 (DEDUCED). -/
def Chip.chSetCfg (c : Chip) (k : Cmd) : Chip := ((c.supWrite .sup (R.CH_CFG k.ch) (k.arg 2)).setArm k.ch 1).done k
/-- R97. -/
def execChSetCfg (rq : Req) (s : State) : Host.Outcome State Fault Refusal :=
  .next (s.onChip fun c => c.command rq 0x11 (len 2) (fun c k => c.chanChecks k 0xFF ++ [k.lay 2 .CH_CFG [pdie k.ch, k.ch % 48]]
    ++ c.chanState k.ch ++ [c.oddCheck k.ch]) Chip.chSetCfg)

/-- CH_COMMIT: the masks and GO as one step. -/
def Chip.chCommit (c : Chip) (k : Cmd) : Chip :=
  let n := k.die
  let c := c.supWrites [(R.PWR_COMMIT_MASK0 n, k.arg 2), (R.PWR_COMMIT_MASK1 n, k.arg 3),
    (R.PWR_COMMIT n, F.PWR_COMMIT_ALIGN.put (F.PWR_COMMIT_GO.of 1) (k.bits 1 8 1))]
  c.done k [c.rd (R.PWR_COMMIT_CNT n)]
/-- R91, R97. -/
def execChCommit (rq : Req) (s : State) : Host.Outcome State Fault Refusal :=
  .next (s.onChip fun c => c.command rq 0x12 (len 3) (fun c k =>
    let x := lowestOf k.die (k.arg 2).toNat (k.bits 3 0 16) fun ch => !c.owns k ch
    [maskCheck x { st := .notOwner, arg := if x.getD 0 % 48 < 32 then 2 else 3 }, k.only 1 0x103, k.only 3 0xFFFF, c.dieCheck k.die]) Chip.chCommit)

def Chip.chSetOwner (c : Chip) (k : Cmd) : Chip := (c.supWrite .sup (R.CH_OWNER (c.lead k.ch)) (k.arg 2)).done k
/-- R88: the owner, or an application core while the supervisor owns the channel. -/
def execChSetOwner (rq : Req) (s : State) : Host.Outcome State Fault Refusal :=
  .next (s.onChip fun c => c.command rq 0x13 (len 2) (fun c k =>
    [denied (c.isStartEnable k.ch) k.ch, notOwner (!c.owns k k.ch && !(isCore k.rq && c.ownerOf (c.lead k.ch) == 4)) k.ch, denied (isSealed k.ch) k.ch,
     k.only 1 0xFF, badArg 1 (decide (192 ≤ k.ch)), k.only 2 0xF, badArg 2 (decide (5 < k.bits 2 0 4))] ++ c.chanState k.ch ++
    [refusedBy 9 (c.inGroup k.ch true) k.ch]) Chip.chSetOwner)

/-- CH_DISABLE: an enable completes at once, a disable on entering DISABLED (Chip.enterDisabled). -/
def Chip.chDisable (c : Chip) (k : Cmd) : Chip :=
  if k.bits 1 9 1 = 1 then
    let c := c.supWrite .sup (R.CH_DISABLE k.ch) 0
    c.done k [c.statusOf k.ch]
  else (c.addCmd k k.ch true).supWrite .sup (R.CH_DISABLE k.ch) (F.CH_DISABLE_FORCE.put (F.CH_DISABLE_DIS.of 1) (k.bits 1 8 1))
/-- R153, R154: in HELD and LIMP the write cannot take effect. -/
def execChDisable (rq : Req) (s : State) : Host.Outcome State Fault Refusal :=
  .next (s.onChip fun c => c.command rq 0x14 (len 1) (fun c k => c.chanChecks k 0x3FF ++
    [c.offLink (physDie k.ch) k.ch, disabledIf (k.bits 1 9 1 == 0 && c.chState (c.lead k.ch) == .disabled) k.ch,
     refusedBy 2 (c.inHold k.ch) k.ch]) Chip.chDisable)

/-- CH_REARM: REARM for the owner, the other fields as they stand. -/
def Chip.chRearm (c : Chip) (k : Cmd) : Chip :=
  let c := c.supWrite k.rq (R.CH_CMD k.ch) (F.CH_CMD_APPLY.put (F.CH_CMD_REARM.put (c.rd (R.CH_CMD k.ch)) 1) 0)
  c.done k [c.statusOf k.ch, c.rd (R.CH_PROT_STATUS k.ch)]
/-- R141. -/
def execChRearm (rq : Req) (s : State) : Host.Outcome State Fault Refusal :=
  .next (s.onChip fun c => c.command rq 0x15 (len 1) (fun c k => c.chanChecks k 0xFF ++ c.chanState k.ch ++ [c.oddCheck k.ch]) Chip.chRearm)

/-! ### Configuration -/

def Chip.chSetProt (c : Chip) (k : Cmd) : Chip :=
  (c.supWrites [(R.CH_PROT_CFG k.ch, k.arg 2), (R.CH_WIRE_CFG k.ch, k.arg 3), (R.CH_LIMP_CFG k.ch, k.arg 4)]).done k
/-- R151. -/
def execChSetProt (rq : Req) (s : State) : Host.Outcome State Fault Refusal :=
  .next (s.onChip fun c => c.command rq 0x16 (len 4) (fun c k => c.chanChecks k 0xFF ++
    [k.lay 2 .CH_PROT_CFG [pdie k.ch, k.ch % 48], k.lay 3 .CH_WIRE_CFG [pdie k.ch, k.ch % 48], k.lay 4 .CH_LIMP_CFG [pdie k.ch, k.ch % 48]]
    ++ c.chanState k.ch) Chip.chSetProt)

/-- CH_SET_PAIR: the pair's bit; refused by the die, it fails (R73, R352). -/
def Chip.chSetPair (c : Chip) (k : Cmd) : Chip :=
  let n := k.die
  let p := k.bits 1 8 5
  let c := c.supWrite .sup (R.PWR_PAIR n) ((bitFld p).put (c.rd (R.PWR_PAIR n)) (k.bits 1 16 1))
  if c.fget (R.PWR_PAIR n) (bitFld p) = k.bits 1 16 1 then c.done k
  else c.fail k { st := .badArg, reason := 0xFE, obj := 48 * n + 2 * p }
/-- R73, R75. -/
def execChSetPair (rq : Req) (s : State) : Host.Outcome State Fault Refusal :=
  .next (s.onChip fun c => c.command rq 0x17 (len 1) (fun c k =>
    let n := k.die
    let p := k.bits 1 8 5
    let e := 48 * n + 2 * p
    [denied (decide (p < 24) && c.pairFixed n p) e, notOwner (decide (p < 24) && (!c.owns k e || !c.owns k (e + 1))) e,
     k.only 1 0x11F03, badArg 1 (decide (24 ≤ p)), c.dieCheck n]) Chip.chSetPair)

/-- CH_GET: a channel's status and the values of one measurement window. -/
def Chip.chGet (c : Chip) (k : Cmd) : Chip :=
  let ch := k.ch
  c.done k [c.statusOf ch, c.rd (R.CH_PROT_STATUS ch), c.rd (R.CH_OL_STATUS ch), c.rd (R.CH_I_AVG ch), c.rd (R.CH_VOLT ch), c.rd (R.CH_TJ ch)]
/-- R168. -/
def execChGet (rq : Req) (s : State) : Host.Outcome State Fault Refusal :=
  .next (s.onChip fun c => c.command rq 0x18 (len 1) (fun c k =>
    [k.only 1 0xFF, badArg 1 (decide (192 ≤ k.ch)), c.offLink (physDie k.ch) k.ch]) Chip.chGet)

/-- PROFILE_WRITE: a user profile's header and segments. -/
def Chip.profileWrite (c : Chip) (k : Cmd) : Chip :=
  let n := k.die
  let p := k.bits 1 8 4
  (c.supWrites ((R.IP_HDR n p, k.arg 2) :: (List.range 8).map fun j => (R.IP_SEG n p j, k.arg (3 + j)))).done k
/-- R103. -/
def execProfileWrite (rq : Req) (s : State) : Host.Outcome State Fault Refusal :=
  .next (s.onChip fun c => c.command rq 0x19 (len 10) (fun c k =>
    [k.only 1 0xF03, badArg 1 (decide (k.bits 1 8 4 < 7)), k.lay 2 .IP_HDR [k.die, k.bits 1 8 4]] ++
    (List.range 8).map (fun j => k.lay (3 + j) .IP_SEG [k.die, k.bits 1 8 4, j]) ++ [c.dieCheck k.die]) Chip.profileWrite)

def Chip.isSet (c : Chip) (k : Cmd) : Chip := (c.supWrites [(R.IS_CTRL k.die, k.arg 2), (R.IS_BUDGET k.die, k.arg 3)]).done k
/-- R116. -/
def execIsSet (rq : Req) (s : State) : Host.Outcome State Fault Refusal :=
  .next (s.onChip fun c => c.command rq 0x1A (len 3) (fun c k =>
    [k.only 1 3, k.lay 2 .IS_CTRL [k.die], k.lay 3 .IS_BUDGET [k.die], c.dieCheck k.die]) Chip.isSet)

def Chip.holdSet (c : Chip) (k : Cmd) : Chip := (c.supWrite .sup (R.PWR_HOLD_TIME k.die) (k.arg 2)).done k
/-- R157. -/
def execHoldSet (rq : Req) (s : State) : Host.Outcome State Fault Refusal :=
  .next (s.onChip fun c => c.command rq 0x1B (len 2) (fun c k =>
    [k.only 1 3, k.lay 2 .PWR_HOLD_TIME [k.die], c.dieCheck k.die]) Chip.holdSet)

/-- FLASH_SET: a flasher's masks and configuration. -/
def Chip.flashSet (c : Chip) (k : Cmd) : Chip :=
  let n := k.die
  let j := k.bits 1 8 2
  (c.supWrites [(R.PWR_FLASH_MASK0 n j, k.arg 3), (R.PWR_FLASH_MASK1 n j, k.arg 4), (R.PWR_FLASH_CFG n j, k.arg 2)]).done k
/-- R213, R221. -/
def execFlashSet (rq : Req) (s : State) : Host.Outcome State Fault Refusal :=
  .next (s.onChip fun c => c.command rq 0x1C (len 4) (fun c k =>
    let m0 := (k.arg 3).toNat
    let m1 := k.bits 4 0 16
    let x := lowestOf k.die m0 m1 fun ch => !c.owns k ch
    [maskCheck x { st := .notOwner, arg := if x.getD 0 % 48 < 32 then 3 else 4 }, k.only 1 0x303, k.lay 2 .PWR_FLASH_CFG [k.die, k.bits 1 8 2],
     k.lay 3 .PWR_FLASH_MASK0 [k.die, k.bits 1 8 2], k.lay 4 .PWR_FLASH_MASK1 [k.die, k.bits 1 8 2], c.dieCheck k.die,
     maskCheck (lowestOf k.die m0 m1 fun ch => c.inGroup ch false) { st := .badArg, reason := 2 }]) Chip.flashSet)

/-! ### Measurement -/

def Chip.olSet (c : Chip) (k : Cmd) : Chip := (c.supWrites [(R.CH_OL_CFG k.ch, k.arg 2), (R.CH_OL_THR k.ch, k.arg 3)]).done k
/-- R176. -/
def execOlSet (rq : Req) (s : State) : Host.Outcome State Fault Refusal :=
  .next (s.onChip fun c => c.command rq 0x30 (len 3) (fun c k => c.chanChecks k 0xFF ++
    [k.lay 2 .CH_OL_CFG [pdie k.ch, k.ch % 48], k.lay 3 .CH_OL_THR [pdie k.ch, k.ch % 48]] ++ c.chanState k.ch) Chip.olSet)

/-- LID_ARM: completes with the result (Chip.lidReply); it has started while an identification runs. -/
def Chip.lidArm (c : Chip) (k : Cmd) : Chip := (c.addCmd k k.ch (c.lidStatus k.ch == 1)).setArm k.ch 1
/-- R183. -/
def execLidArm (rq : Req) (s : State) : Host.Outcome State Fault Refusal :=
  .next (s.onChip fun c => c.command rq 0x31 (len 2) (fun c k => c.chanChecks k 0xFF ++ [k.only 2 0xFFFF] ++ c.chanState k.ch ++
    [refusedBy 1 (c.cmds.any (onObj 0x31 k.ch)) k.ch]) Chip.lidArm)

/-- R183: the wait of the LID_ARM in flight on a channel expires: ARM is cleared. -/
def Chip.lidWaitOver (c : Chip) (ch : Nat) : Chip :=
  if c.cmds.any fun (x : Cmd) => onObj 0x31 ch x && x.arg 2 != 0 then (c.setArm ch 0).finish (onObj 0x31 ch) .timeout [] else c
/-- R183. -/
def execLidArmWaitExpire (ch : Fin 192) (s : State) : Host.Outcome State Fault Refusal := .next (s.onChip (·.lidWaitOver ch))

/-- TDR_RUN: completes at the end of the run (Chip.tdrDone, Chip.tdrAbort). -/
def Chip.tdrRun (c : Chip) (k : Cmd) : Chip :=
  (c.addCmd k k.ch true).supWrites [(R.PWR_TDR_CFG (pdie k.ch), k.arg 3), (R.PWR_TDR_CTRL (pdie k.ch), F.PWR_TDR_CTRL_GO.put (k.arg 2) 1)]
/-- R187. -/
def execTdrRun (rq : Req) (s : State) : Host.Outcome State Fault Refusal :=
  .next (s.onChip fun c => c.command rq 0x32 (len 3) (fun c k =>
    let n := pdie k.ch
    [denied (isSealed k.ch) k.ch] ++ c.chanChecks k 0xFF ++
    [badArg 2 (F.PWR_TDR_CTRL_SRC.get (k.arg 2) != k.ch % 48 || F.PWR_TDR_CTRL_STOP.get (k.arg 2) == 1), k.lay 2 .PWR_TDR_CTRL [n],
     k.lay 3 .PWR_TDR_CFG [n], c.offLink (physDie k.ch) k.ch,
     refusedBy 2 (c.tdrRefused n (k.ch % 48) || c.tdrStatus n == 1 || c.tdrStatus n == 5) k.ch]) Chip.tdrRun)

/-- XC_TEST: completes at the end of the pulse (Chip.xcPulseEnd, Chip.xcAbort). -/
def Chip.xcTest (c : Chip) (k : Cmd) : Chip :=
  (c.addCmd k k.ch true).supWrite .sup (R.PWR_XC_CTRL (pdie k.ch)) (F.PWR_XC_CTRL_GO.put (F.PWR_XC_CTRL_SRC.of (k.ch % 48)) 1)
/-- R180 to R182. -/
def execXcTest (rq : Req) (s : State) : Host.Outcome State Fault Refusal :=
  .next (s.onChip fun c => c.command rq 0x33 (len 1) (fun c k => c.chanChecks k 0xFF ++ c.chanState k.ch ++
    [refusedBy 2 (c.xcRefused (pdie k.ch) (k.ch % 48)) k.ch]) Chip.xcTest)

def Chip.streamSet (c : Chip) (k : Cmd) : Chip := (c.supWrite .sup (R.PWR_STREAM_CTRL k.die) (k.arg 2)).done k
/-- R173. -/
def execStreamSet (rq : Req) (s : State) : Host.Outcome State Fault Refusal :=
  .next (s.onChip fun c => c.command rq 0x34 (len 2) (fun c k =>
    [k.only 1 3, k.lay 2 .PWR_STREAM_CTRL [k.die], c.dieCheck k.die]) Chip.streamSet)

/-- CANT_HEALTH: completes at the measurement's end (Chip.cantDone, Chip.cantTimeout). -/
def Chip.cantHealth (c : Chip) (k : Cmd) : Chip :=
  let n := k.bits 1 0 3
  let st := k.bits 1 8 1
  (c.addCmd k (n + 8 * st)).supWrite .sup (R.SEN_CANT_HLTH_CTRL n)
    (F.SEN_CANT_HLTH_CTRL_MEAS_STEP.put (F.SEN_CANT_HLTH_CTRL_MEAS_TERM.put (F.SEN_CANT_HLTH_CTRL_VF.of (k.bits 1 16 7)) (1 - st)) st)
/-- R192. -/
def execCantHealth (rq : Req) (s : State) : Host.Outcome State Fault Refusal :=
  .next (s.onChip fun c => c.command rq 0x35 (len 1) (fun c k =>
    let n := k.bits 1 0 3
    [k.only 1 0x7F0107, badArg 1 (decide (5 < n) || decide (k.bits 1 16 7 < 50) || decide (99 < k.bits 1 16 7)), c.offLink 1 n,
     refusedBy 1 ((c.cant n).phase (k.bits 1 8 1 == 1) != 0) n]) Chip.cantHealth)

end Sys2Proof.Machine
end

