-- ==== Sys2Proof/Machine/CmdLight.lean ====
section
/-! DEFINITION. The commands of lighting (spec/11, 0x40 to 0x4C). -/

namespace Sys2Proof.Machine
open Sys2Proof

/-- The sink, group or engine that w1 names. -/
def Cmd.sink (k : Cmd) : Nat := k.bits 1 0 5
def Cmd.group (k : Cmd) : Nat := k.bits 1 0 4
def Cmd.engine (k : Cmd) : Nat := k.bits 1 0 3

/-- Check 7 on a sink, on a group. -/
def Cmd.sinkOk (k : Cmd) (mask : Nat) : List Check := [k.only 1 mask, badArg 1 (decide (24 ≤ k.sink))]
def Cmd.groupOk (k : Cmd) : List Check := [k.only 1 0xF, badArg 1 (decide (12 ≤ k.group))]

/-- R196: a sink is disabled while no value of it, staged, captured or in force, enables it; a group while its EN is 0. A command whose
own words enable the object is not turned away. Assumption log 88 (DEDUCED). -/
def Chip.sinkEnabled (c : Chip) (s : Nat) : Bool :=
  c.flag (R.LS_CTRL s) F.LS_CTRL_EN || (c.sink s).act.en || ((c.sink s).pend.map (·.en)).getD false
def Chip.groupEnabled (c : Chip) (g : Nat) : Bool := c.flag (R.LF_CFG g) F.LF_CFG_EN

/-- LS_SET: the shadows, then a capture if APPLY. -/
def Chip.lsSet (c : Chip) (k : Cmd) : Chip :=
  let s := k.sink
  (c.supWrites [(R.LS_ISET s, k.arg 2), (R.LS_DUTY s, k.arg 3), (R.LS_CTRL s, F.LS_CTRL_APPLY.put (F.LS_CTRL_EN.of (k.bits 4 0 1)) (k.bits 1 8 1))]).done k
/-- R200. -/
def execLsSet (rq : Req) (s : State) : Host.Outcome State Fault Refusal :=
  .next (s.onChip fun c => c.command rq 0x40 (len 4) (fun c k =>
    k.sinkOk 0x11F ++ [k.lay 2 .LS_ISET [k.sink], k.lay 3 .LS_DUTY [k.sink], k.only 4 1, c.offLink 1 k.sink,
      disabledIf (!(c.sinkEnabled k.sink || k.bits 4 0 1 == 1)) k.sink]) Chip.lsSet)

def Chip.lsCfg (c : Chip) (k : Cmd) : Chip := (c.supWrite .sup (R.LS_CFG k.sink) (k.arg 2)).done k
/-- R213. -/
def execLsCfg (rq : Req) (s : State) : Host.Outcome State Fault Refusal :=
  .next (s.onChip fun c => c.command rq 0x41 (len 2) (fun c k => k.sinkOk 0x1F ++ [k.lay 2 .LS_CFG [k.sink], c.offLink 1 k.sink,
    disabledIf (!c.sinkEnabled k.sink) k.sink]) Chip.lsCfg)

/-- R207: the supervisor writes REARM to a sink, its EN as it stands. -/
def Chip.supSinkRearm (c : Chip) (s : Nat) : Chip :=
  c.supWrite .sup (R.LS_CTRL s) (F.LS_CTRL_REARM.put (F.LS_CTRL_EN.of (c.fget (R.LS_CTRL s) F.LS_CTRL_EN)) 1)
def Chip.lsRearm (c : Chip) (k : Cmd) : Chip :=
  let c := c.supSinkRearm k.sink
  c.done k [c.rd (R.LS_STATUS k.sink)]
/-- R207. -/
def execLsRearm (rq : Req) (s : State) : Host.Outcome State Fault Refusal :=
  .next (s.onChip fun c => c.command rq 0x42 (len 1) (fun c k => k.sinkOk 0x1F ++ [c.offLink 1 k.sink,
    disabledIf (!c.sinkEnabled k.sink) k.sink]) Chip.lsRearm)

def Chip.ledCommitCmd (c : Chip) (k : Cmd) : Chip := (c.supWrites [(R.LED_COMMIT_MASK, k.arg 1), (R.LED_COMMIT, F.LED_COMMIT_GO.of 1)]).done k
/-- R200. -/
def execLedCommit (rq : Req) (s : State) : Host.Outcome State Fault Refusal :=
  .next (s.onChip fun c => c.command rq 0x43 (len 1) (fun c k => [k.only 1 0xFFFFFF, c.offLink 1]) Chip.ledCommitCmd)

/-! ### Groups -/

/-- R213: the channel is masked in a flasher of its die. -/
def Chip.inFlasher (c : Chip) (ch : Nat) : Bool := (List.range 4).any fun j => c.flashMasks (pdie ch) j (ch % 48)
/-- The member channels an LF_SET names. -/
def Cmd.members (k : Cmd) : List Nat := memberChans (k.arg 4) (k.arg 5)

def Chip.lfSet (c : Chip) (k : Cmd) : Chip :=
  let g := k.group
  (c.supWrites [(R.LF_LEVEL g, k.arg 3), (R.LF_CH01 g, k.arg 4), (R.LF_CH23 g, k.arg 5), (R.LF_CFG g, k.arg 2)]).done k
/-- R213: refused whole for a member that the supervisor does not own, that is sealed or that a flasher masks. -/
def execLfSet (rq : Req) (s : State) : Host.Outcome State Fault Refusal :=
  .next (s.onChip fun c => c.command rq 0x44 (len 5) (fun c k =>
    [maskCheck (k.members.find? fun ch => decide (ch < 192) && c.ownerOf (c.lead ch) != 4) { st := .notOwner },
     maskCheck (k.members.find? isSealed) { st := .denied }] ++ k.groupOk ++
    [k.lay 2 .LF_CFG [k.group], k.lay 3 .LF_LEVEL [k.group], k.lay 4 .LF_CH01 [k.group], k.lay 5 .LF_CH23 [k.group],
     badArg 4 ((memberChans (k.arg 4) 0).any fun ch => 192 ≤ ch), badArg 5 ((memberChans 0 (k.arg 5)).any fun ch => 192 ≤ ch), c.offLink 1 k.group,
     disabledIf (!(c.groupEnabled k.group || F.LF_CFG_EN.get (k.arg 2) == 1)) k.group, maskCheck (k.members.find? c.inFlasher) { st := .badArg, reason := 2 }]) Chip.lfSet)

def Chip.lfDerate (c : Chip) (k : Cmd) : Chip := (c.supWrite .sup (R.LF_DERATE k.group) (k.arg 2)).done k
/-- R212. -/
def execLfDerate (rq : Req) (s : State) : Host.Outcome State Fault Refusal :=
  .next (s.onChip fun c => c.command rq 0x45 (len 2) (fun c k => k.groupOk ++ [k.lay 2 .LF_DERATE [k.group], c.offLink 1 k.group,
    disabledIf (!c.groupEnabled k.group) k.group]) Chip.lfDerate)

/-- R215: the supervisor writes REARM to a member channel. -/
def Chip.supChanRearm (c : Chip) (ch : Nat) : Chip :=
  c.supWrite .sup (R.CH_CMD ch) (F.CH_CMD_APPLY.put (F.CH_CMD_REARM.put (c.rd (R.CH_CMD ch)) 1) 0)
/-- R215: the members are re-armed, a FAILED group returns to ACTIVE, and its members resume. -/
def Chip.lfRearm (c : Chip) (k : Cmd) : Chip :=
  let g := k.group
  let c := (c.groupSinks g).foldl (fun c s =>
    let c := c.supSinkRearm s
    c.setSink s { c.sink s with rearmed := false }) c
  let c := (c.groupChans g).foldl Chip.supChanRearm c
  let c := if c.groupState g = 2 then c.fset (R.LF_STATUS g) F.LF_STATUS_STATE 1 else c
  let c := (c.updateOutage g).groupSync g
  c.done k [c.rd (R.LF_STATUS g)]
/-- R215. -/
def execLfRearm (rq : Req) (s : State) : Host.Outcome State Fault Refusal :=
  .next (s.onChip fun c => c.command rq 0x46 (len 1) (fun c k => k.groupOk ++ [c.offLink 1 k.group,
    disabledIf (!c.groupEnabled k.group) k.group]) Chip.lfRearm)

/-! ### Pattern engines -/

/-- R219: the engine runs. -/
def Chip.engRuns (c : Chip) (e : Nat) : Bool := c.fget (R.PE_STATUS e) F.PE_STATUS_STATUS == 1

def Chip.peLoad (c : Chip) (k : Cmd) : Chip :=
  (c.supWrites ((List.range (k.w.length - 1)).map fun j => (R.PE_STEP k.engine (k.bits 1 8 6 + j), k.arg (2 + j)))).done k
/-- R220. -/
def execPeLoad (rq : Req) (s : State) : Host.Outcome State Fault Refusal :=
  .next (s.onChip fun c => c.command rq 0x47 (lenIn 2 61) (fun c k =>
    [k.only 1 0x3F07, badArg 1 (decide (64 < k.bits 1 8 6 + (k.w.length - 1))), c.offLink 1 k.engine, refusedBy 3 (c.engRuns k.engine) k.engine]) Chip.peLoad)

def Chip.peStart (c : Chip) (k : Cmd) : Chip := (c.supWrite .sup (R.PE_CTRL k.engine) (k.arg 2)).done k
/-- R219. -/
def execPeStart (rq : Req) (s : State) : Host.Outcome State Fault Refusal :=
  .next (s.onChip fun c => c.command rq 0x48 (len 2) (fun c k =>
    [k.only 1 7, badArg 2 (F.PE_CTRL_START.get (k.arg 2) != 1), k.lay 2 .PE_CTRL [k.engine], c.offLink 1 k.engine]) Chip.peStart)

/-- R219: a STOP; in the engine's tick (tick) one that meets a HALT loses, and the command reports ABORT_LATE. -/
def Chip.peStop (tick : Bool) (c : Chip) (k : Cmd) : Chip :=
  let e := k.engine
  let halted := c.engTick e
  if c.engRuns e && tick && halted.fget (R.PE_STATUS e) F.PE_STATUS_STATUS == 2 then
    halted.complete k.rq k.op k.tag .ok [halted.rd (R.PE_STATUS e)] 2048
  else
    let c := if c.engRuns e then c.supWrite .sup (R.PE_CTRL e) (F.PE_CTRL_START.put (F.PE_CTRL_STOP.put (c.rd (R.PE_CTRL e)) 1) 0) else c
    c.done k [c.rd (R.PE_STATUS e)]
/-- R219: tick says that the stop falls into the engine's tick. -/
def execPeStop (rq : Req) (tick : Bool) (s : State) : Host.Outcome State Fault Refusal :=
  .next (s.onChip fun c => c.command rq 0x49 (len 1) (fun c k => [k.only 1 7, c.offLink 1 k.engine]) (Chip.peStop tick))

/-! ### Converter, temperatures, hold -/

def Chip.ledHrSet (c : Chip) (k : Cmd) : Chip := (c.supWrite .sup R.LED_HR_CTRL (k.arg 1)).done k
/-- R202. -/
def execLedHrSet (rq : Req) (s : State) : Host.Outcome State Fault Refusal :=
  .next (s.onChip fun c => c.command rq 0x4A (len 1) (fun c k => [k.lay 1 .LED_HR_CTRL [], c.offLink 1]) Chip.ledHrSet)

def Chip.ntcSet (c : Chip) (k : Cmd) : Chip := (c.supWrite .sup (R.NTC_CFG k.engine) (k.arg 2)).done k
/-- R211. -/
def execNtcSet (rq : Req) (s : State) : Host.Outcome State Fault Refusal :=
  .next (s.onChip fun c => c.command rq 0x4B (len 2) (fun c k => [k.only 1 7, k.lay 2 .NTC_CFG [k.engine], c.offLink 1 k.engine]) Chip.ntcSet)

def Chip.ledHoldSet (c : Chip) (k : Cmd) : Chip := (c.supWrite .sup R.LED_HOLD_TIME (k.arg 1)).done k
/-- R224. -/
def execLedHoldSet (rq : Req) (s : State) : Host.Outcome State Fault Refusal :=
  .next (s.onChip fun c => c.command rq 0x4C (len 1) (fun c k => [k.lay 1 .LED_HOLD_TIME [], c.offLink 1]) Chip.ledHoldSet)

end Sys2Proof.Machine
end

