-- ==== Sys2Proof/Machine/CmdField.lean ====
section
/-! DEFINITION. The commands of valves, switch inputs and field points (spec/11, 0x50 to 0x64). -/

namespace Sys2Proof.Machine
open Sys2Proof

/-! ### Valves -/

def Cmd.valve (k : Cmd) : Nat := k.bits 1 0 4
/-- A write of VLV_CMD by the supervisor. -/
def Chip.supValve (c : Chip) (v req rearm : Nat) : Chip := c.supWrite .sup (R.VLV_CMD v) (F.VLV_CMD_REARM.put (F.VLV_CMD_REQ.of req) rearm)

/-- VLV_REQ: on, it completes on PEAK entry or as the request ends; a valve already requested, at once; off, it completes at
OFF. vboost is VBOOST at the die, in 0.1 V. Assumption log 40 (DEDUCED). -/
def Chip.vlvReq (vboost : Nat) (c : Chip) (k : Cmd) : Chip :=
  let v := k.valve
  if k.bits 1 8 1 = 1 then
    if c.vActive v ∧ c.vState v ≠ .limp then c.done k [c.rd (R.VLV_STATUS v)]
    else
      let c := ((c.vbCompare (vDie v) vboost).addCmd k v).supValve v 1 0
      if c.vRun v = .peak ∨ c.vRun v = .hold then c.vOnDone v .ok else c
  else
    let c := (c.addCmd k (v + 16) true).supValve v 0 0
    if c.vRun v = .off then c.vOffDone v else c
/-- R233, R237. -/
def execVlvReq (rq : Req) (vboost : Nat) (s : State) : Host.Outcome State Fault Refusal :=
  .next (s.onChip fun c => c.command rq 0x50 (len 1) (fun c k =>
    [k.only 1 0x10F, c.offLink (vDie k.valve + 2) k.valve, disabledIf (!c.vEnabled k.valve) k.valve,
     refusedBy 2 (k.bits 1 8 1 == 1 && c.vState k.valve == .fault) k.valve]) (Chip.vlvReq vboost))

/-- Assumption log 54 (DEDUCED). -/
def Chip.vlvSet (c : Chip) (k : Cmd) : Chip :=
  (c.supWrites [(R.VLV_PEAK k.valve, k.arg 2), (R.VLV_HOLD k.valve, k.arg 3), (R.VLV_CFG k.valve, k.arg 4)]).done k
/-- The indices of a valve's registers: die, group, valve. -/
def vlvIx (v : Nat) : List Nat := [v / 4, v / 2 % 2, v % 2]
/-- R245. -/
def execVlvSet (rq : Req) (s : State) : Host.Outcome State Fault Refusal :=
  .next (s.onChip fun c => c.command rq 0x51 (len 4) (fun c k =>
    [k.only 1 0xF, k.lay 2 .VLV_PEAK (vlvIx k.valve), k.lay 3 .VLV_HOLD (vlvIx k.valve), k.lay 4 .VLV_CFG (vlvIx k.valve),
     c.offLink (vDie k.valve + 2) k.valve, disabledIf (!(c.vEnabled k.valve || F.VLV_CFG_EN.get (k.arg 4) == 1)) k.valve]) Chip.vlvSet)

/-- VLV_REARM: REQ stays with a request under way; cool says that the switch is below 150 °C. -/
def Chip.vlvRearm (cool : Bool) (c : Chip) (k : Cmd) : Chip :=
  let v := k.valve
  let c := if cool then c.setValve v { c.valve v with hot := false } else c
  let c := c.supValve v (c.vActive v).toNat 1
  c.done k [c.rd (R.VLV_STATUS v)]
/-- R244. -/
def execVlvRearm (rq : Req) (cool : Bool) (s : State) : Host.Outcome State Fault Refusal :=
  .next (s.onChip fun c => c.command rq 0x52 (len 1) (fun c k =>
    [k.only 1 0xF, c.offLink (vDie k.valve + 2) k.valve, disabledIf (c.vState k.valve == .disabled) k.valve]) (Chip.vlvRearm cool))

/-- VG_SET: a PAR bit that the die refuses fails the command (R231, R352). -/
def Chip.vgSet (c : Chip) (k : Cmd) : Chip :=
  let g := k.bits 1 0 3
  let c := c.supWrite .sup (R.VG_CFG g) (k.arg 2)
  if c.fget (R.VG_CFG g) F.VG_CFG_PAR = F.VG_CFG_PAR.get (k.arg 2) then c.done k else c.fail k { st := .badArg, reason := 0xFE, obj := g }
/-- R231. -/
def execVgSet (rq : Req) (s : State) : Host.Outcome State Fault Refusal :=
  .next (s.onChip fun c => c.command rq 0x53 (len 2) (fun c k =>
    [k.only 1 7, k.lay 2 .VG_CFG [k.bits 1 0 3 / 2, k.bits 1 0 3 % 2], c.offLink (k.bits 1 0 3 / 2 + 2) (k.bits 1 0 3)]) Chip.vgSet)

/-- R241: 90 % of a VSET in 0.1 V, rounded. Assumption log 41 (DEDUCED). -/
def vbThr (vset : Nat) : Nat := (9 * vset + 5) / 10
/-- R241: every power die's PWR_VB_THR; a die whose link is down keeps its own. -/
def Chip.setVbThr (c : Chip) (vset : Nat) : Chip := c.supWrites ((List.range 4).map fun n => (R.PWR_VB_THR n, F.PWR_VB_THR_THR.of (vbThr vset)))
/-- VB_SET: for a rise VB_CTRL first, for a fall the thresholds first; a die that cannot be reached is reported after. Assumption log 57 (DEDUCED). -/
def Chip.vbSet (c : Chip) (k : Cmd) : Chip :=
  let vset := F.VB_CTRL_VSET.get (k.arg 1)
  let c := if c.fget R.VB_CTRL F.VB_CTRL_VSET < vset then (c.supWrite .sup R.VB_CTRL (k.arg 1)).setVbThr vset
    else (c.setVbThr vset).supWrite .sup R.VB_CTRL (k.arg 1)
  match (List.range 4).find? fun n => !c.linkUp (n + 2) with
  | some n => c.fail k { st := .blockOff, obj := n }
  | none => c.done k
/-- R241. -/
def execVbSet (rq : Req) (s : State) : Host.Outcome State Fault Refusal :=
  .next (s.onChip fun c => c.command rq 0x54 (len 1) (fun c k => [k.lay 1 .VB_CTRL [], c.offLink 1]) Chip.vbSet)

/-! ### Switch inputs -/

def Cmd.input (k : Cmd) : Nat := k.bits 1 0 6

def Chip.siSet (c : Chip) (k : Cmd) : Chip := (c.supWrites [(R.SI_CFG k.input, k.arg 2), (R.SI_THR k.input, k.arg 3)]).done k
/-- R253, R256, R257. -/
def execSiSet (rq : Req) (s : State) : Host.Outcome State Fault Refusal :=
  .next (s.onChip fun c => c.command rq 0x58 (len 3) (fun c k =>
    [denied (c.siBound k.input) k.input, k.only 1 0x3F, k.lay 2 .SI_CFG [k.input], k.lay 3 .SI_THR [k.input], c.offLink 1 k.input,
     disabledIf (!(c.flag (R.SI_CFG k.input) F.SI_CFG_EN || F.SI_CFG_EN.get (k.arg 2) == 1)) k.input,
     refusedBy 4 (!c.siPatrolOk k.input (k.arg 2)) k.input]) Chip.siSet)

def Chip.siLadder (c : Chip) (k : Cmd) : Chip := (c.supWrites ((List.range 7).map fun b => (R.SI_LT_B (k.bits 1 0 3) b, k.arg (2 + b)))).done k
/-- R252. -/
def execSiLadder (rq : Req) (s : State) : Host.Outcome State Fault Refusal :=
  .next (s.onChip fun c => c.command rq 0x59 (len 8) (fun c k =>
    [k.only 1 7] ++ (List.range 7).map (fun b => k.lay (2 + b) .SI_LT_B [k.bits 1 0 3, b]) ++ [c.offLink 1]) Chip.siLadder)

/-- SI_READ: a coherent image of all inputs (R254). -/
def Chip.siRead (c : Chip) (k : Cmd) : Chip :=
  let (x0, c) := c.regRead .sup R.SI_STATE0
  let (x1, c) := c.regRead .sup R.SI_STATE1
  c.done k [x0, x1, c.tamperWord]
/-- R254. -/
def execSiRead (rq : Req) (s : State) : Host.Outcome State Fault Refusal :=
  .next (s.onChip fun c => c.command rq 0x5A (len 0) (fun c _ => [c.offLink 1]) Chip.siRead)

/-! ### Field points -/

def Cmd.point (k : Cmd) : Nat := k.bits 1 0 5

/-- R260: the write changes MODE of an output that is neither OFF nor DISABLED. -/
def Chip.fpModeRefused (c : Chip) (p : Nat) (x : Word) : Bool :=
  c.fpOut p && c.fpState p != .off && c.fpState p != .disabled && F.FP_CFG_MODE.get x != c.fget (R.FP_CFG p) F.FP_CFG_MODE
/-- Assumption log 54 (DEDUCED). -/
def Chip.fpSetCfg (c : Chip) (k : Cmd) : Chip := (c.supWrite .sup (R.FP_CFG k.point) (k.arg 2)).done k
/-- R260. -/
def execFpSetCfg (rq : Req) (s : State) : Host.Outcome State Fault Refusal :=
  .next (s.onChip fun c => c.command rq 0x60 (len 2) (fun c k =>
    [k.only 1 0x1F, k.lay 2 .FP_CFG [k.point], c.offLink 6 k.point, disabledIf (!(c.fpEn k.point || F.FP_CFG_EN.get (k.arg 2) == 1)) k.point, refusedBy 5 (c.fpModeRefused k.point (k.arg 2)) k.point]) Chip.fpSetCfg)

/-- Check 8 on a field output. -/
def Chip.outputChecks (c : Chip) (p : Nat) : List Check := [c.offLink 6 p, disabledIf (!c.fpEn p) p, refusedBy 6 (!c.fpOut p) p]
/-- A write of FP_CMD by the supervisor. -/
def Chip.supPoint (c : Chip) (p on rearm : Nat) : Chip := c.supWrite .sup (R.FP_CMD p) (F.FP_CMD_REARM.put (F.FP_CMD_ON.of on) rearm)

def Chip.fpOutCmd (c : Chip) (k : Cmd) : Chip :=
  let c := c.supPoint k.point (k.bits 1 8 1) 0
  c.done k [c.rd (R.FP_STATUS k.point)]
/-- R263. -/
def execFpOut (rq : Req) (s : State) : Host.Outcome State Fault Refusal :=
  .next (s.onChip fun c => c.command rq 0x61 (len 1) (fun c k => k.only 1 0x11F :: c.outputChecks k.point) Chip.fpOutCmd)

/-- FP_REARM: ON as it stands; cool says that the switch is below 150 °C. -/
def Chip.fpRearmCmd (cool : Bool) (c : Chip) (k : Cmd) : Chip :=
  let p := k.point
  let c := if cool then c.setFp p { c.fp p with hot := false } else c
  let c := c.supPoint p (c.fget (R.FP_CMD p) F.FP_CMD_ON) 1
  c.done k [c.rd (R.FP_STATUS p)]
/-- R263. -/
def execFpRearm (rq : Req) (cool : Bool) (s : State) : Host.Outcome State Fault Refusal :=
  .next (s.onChip fun c => c.command rq 0x62 (len 1) (fun c k => k.only 1 0x1F :: c.outputChecks k.point) (Chip.fpRearmCmd cool))

def Chip.fldSupSet (c : Chip) (k : Cmd) : Chip := (c.supWrite .sup R.FLD_SUP_CFG (k.arg 1)).done k
/-- R267. -/
def execFldSupSet (rq : Req) (s : State) : Host.Outcome State Fault Refusal :=
  .next (s.onChip fun c => c.command rq 0x63 (len 1) (fun c k => [k.lay 1 .FLD_SUP_CFG [], c.offLink 6]) Chip.fldSupSet)

def Chip.fldHoldSet (c : Chip) (k : Cmd) : Chip := (c.supWrite .sup R.FLD_HOLD_TIME (k.arg 1)).done k
/-- R269. -/
def execFldHoldSet (rq : Req) (s : State) : Host.Outcome State Fault Refusal :=
  .next (s.onChip fun c => c.command rq 0x64 (len 1) (fun c k => [k.lay 1 .FLD_HOLD_TIME [], c.offLink 6]) Chip.fldHoldSet)

end Sys2Proof.Machine
end

