-- ==== Sys2Proof/Machine/CmdNet.lean ====
section
/-! DEFINITION. The commands of CAN, LIN and network management (spec/11, 0x68 to 0x70 and 0x83 to 0x86). -/

namespace Sys2Proof.Machine
open Sys2Proof

/-! ### CAN -/

/-- The controller that w1 names. -/
def Cmd.can (k : Cmd) : Nat := k.bits 1 0 4
def Cmd.canOk (k : Cmd) (mask : Nat) : List Check := [k.only 1 mask, badArg 1 (decide (7 < k.can))]

/-- LEN of CAN_TX: 2 + ⌈bytes / 4⌉. -/
def canTxLen (k : Cmd) : Bool := k.w.length == 2 + (frameBytes ((canTxWords k.w).getD 1 0) + 3) / 4
/-- CAN_TX: the frame goes to a free reserved buffer, or waits for one; it completes with its outcome (Chip.txOutcome). -/
def Chip.canTx (c : Chip) (k : Cmd) : Chip := (c.addCmd k (canTxWait k.can)).canTxNext k.can
/-- R362, R370, R374. -/
def execCanTx (rq : Req) (s : State) : Host.Outcome State Fault Refusal :=
  .next (s.onChip fun c => c.command rq 0x68 canTxLen (fun c k =>
    [denied (k.can == 8) 8] ++ k.canOk 0xF0F0F ++ [k.only 2 0x1FFFFFFF, disabledIf (!c.canEn k.can) k.can,
     refusedBy 2 (!c.flag R.SYS_CLK_STATUS F.SYS_CLK_STATUS_XTAL40_OK) k.can]) Chip.canTx)

/-- CAN_CFG: timing and mode; an EN that the controller refuses fails the command (R352). Assumption log 54 (DEDUCED). -/
def Chip.canCfg (c : Chip) (k : Cmd) : Chip :=
  let n := k.can
  let c := c.supWrites [(R.CAN_NBT n, k.arg 2), (R.CAN_DBT n, k.arg 3), (R.CAN_TDC n, k.arg 4), (R.CAN_MODE n, k.arg 5)]
  if c.fget (R.CAN_MODE n) F.CAN_MODE_EN = F.CAN_MODE_EN.get (k.arg 5) then c.done k else c.fail k { st := .badArg, reason := 0xFE, obj := n }
/-- R356. -/
def execCanCfg (rq : Req) (s : State) : Host.Outcome State Fault Refusal :=
  .next (s.onChip fun c => c.command rq 0x69 (len 5) (fun c k =>
    k.canOk 0xF ++ [k.lay 2 .CAN_NBT [k.can], k.lay 3 .CAN_DBT [k.can], k.lay 4 .CAN_TDC [k.can], k.lay 5 .CAN_MODE [k.can],
     refusedBy 7 (c.canEn k.can) k.can]) Chip.canCfg)

/-- CAN_ENABLE: an enable completes at once, refused by the timing with 0xFE; a disable at the end of the current frame
(Chip.canStop). receiving says that a frame is being received. -/
def Chip.canEnableCmd (receiving : Bool) (c : Chip) (k : Cmd) : Chip :=
  let n := k.can
  if k.bits 1 8 1 = 1 then
    let c := c.supWrite .sup (R.CAN_MODE n) (F.CAN_MODE_EN.put (c.rd (R.CAN_MODE n)) 1)
    if c.canEn n then c.done k else c.fail k { st := .badArg, reason := 0xFE, obj := n }
  else
    let c := if c.canEn n then c.fbit (R.CAN_STATUS n) F.CAN_STATUS_RX_ACTIVE receiving else c
    let c := (c.addCmd k n true).supWrite .sup (R.CAN_MODE n) (F.CAN_MODE_EN.put (c.rd (R.CAN_MODE n)) 0)
    if c.canErr n = 3 then c.finish (onObj 0x6A n) .ok [] else c
/-- R350, R356, R371. -/
def execCanEnable (rq : Req) (receiving : Bool) (s : State) : Host.Outcome State Fault Refusal :=
  .next (s.onChip fun c => c.command rq 0x6A (len 1) (fun c k =>
    k.canOk 0x10F ++ [refusedBy 1 (k.bits 1 8 1 == 1 && c.cmds.any (onObj 0x6A k.can)) k.can]) (Chip.canEnableCmd receiving))

def Chip.canFilter (c : Chip) (k : Cmd) : Chip :=
  let f := k.bits 1 8 6
  (c.supWrites [(R.CAN_FLT_ID k.can f, k.arg 2), (R.CAN_FLT_MASK k.can f, k.arg 3)]).done k
/-- R367. -/
def execCanFilter (rq : Req) (s : State) : Host.Outcome State Fault Refusal :=
  .next (s.onChip fun c => c.command rq 0x6B (len 3) (fun _ k =>
    k.canOk 0x3F0F ++ [k.lay 2 .CAN_FLT_ID [k.can, k.bits 1 8 6], k.lay 3 .CAN_FLT_MASK [k.can, k.bits 1 8 6]]) Chip.canFilter)

def Chip.canSelwake (c : Chip) (k : Cmd) : Chip :=
  let n := k.can
  (c.supWrites [(R.SEN_SWK_ID n, k.arg 2), (R.SEN_SWK_IDMASK n, k.arg 3), (R.SEN_SWK_DATA n 0, k.arg 4), (R.SEN_SWK_DATA n 1, k.arg 5),
    (R.SEN_SWK_DMASK n 0, k.arg 6), (R.SEN_SWK_DMASK n 1, k.arg 7)]).done k
/-- R372. -/
def execCanSelwake (rq : Req) (s : State) : Host.Outcome State Fault Refusal :=
  .next (s.onChip fun c => c.command rq 0x6C (len 7) (fun c k =>
    k.canOk 0xF ++ [badArg 1 (decide (3 < k.can)), k.lay 2 .SEN_SWK_ID [k.can], k.lay 3 .SEN_SWK_IDMASK [k.can], c.offLink 1 k.can]) Chip.canSelwake)

/-! ### LIN -/

def Cmd.lin (k : Cmd) : Nat := k.bits 1 0 2

/-- LIN_SCHED: entries from a first one on. -/
def Chip.linSched (c : Chip) (k : Cmd) : Chip :=
  (c.supWrites ((List.range (k.w.length - 1)).map fun j => (R.LIN_SCHED_E k.lin (k.bits 1 8 6 + j), k.arg (2 + j)))).done k
/-- R376: entries in range: reserved bits 0, LENGTH 1 to 8, SLOT not 0. -/
def execLinSched (rq : Req) (s : State) : Host.Outcome State Fault Refusal :=
  .next (s.onChip fun c => c.command rq 0x6D (lenIn 2 62) (fun _ k =>
    [k.only 1 0x3F03, badArg 1 (decide (64 < k.bits 1 8 6 + (k.w.length - 1)))] ++
    ((List.range (k.w.length - 1)).flatMap fun j => [k.only (2 + j) 0xF8F0FF3F, badArg (2 + j) (schNorm (k.arg (2 + j)) != k.arg (2 + j))])) Chip.linSched)

def Chip.linMode (c : Chip) (k : Cmd) : Chip := (c.supWrite .sup (R.LIN_CTRL k.lin) (k.arg 1 &&& 0x3300)).done k
/-- R379. -/
def execLinMode (rq : Req) (s : State) : Host.Outcome State Fault Refusal :=
  .next (s.onChip fun c => c.command rq 0x6E (len 1) (fun _ k => [k.only 1 0x3303, badArg 1 (k.bits 1 8 2 == 3)]) Chip.linMode)

/-- R377: the response table entry for a frame identifier: its own, or the first free one. -/
def Chip.linSlot (c : Chip) (n ident : Nat) : Option Nat :=
  (c.linResp n ident).orElse fun _ => (List.range 16).find? fun r => !c.flag (R.LIN_RESP_CFG n r) F.LIN_RESP_CFG_VALID
/-- LIN_RESP: the data, then the entry. Assumption log 57 (DEDUCED). -/
def Chip.linRespCmd (c : Chip) (k : Cmd) : Chip :=
  let n := k.lin
  match c.linSlot n (k.bits 1 8 6) with
  | none => c.fail k { st := .badArg, arg := 1 }
  | some r =>
    (c.supWrites [(R.LIN_RESP_D0 n r, k.arg 2), (R.LIN_RESP_D1 n r, k.arg 3),
      (R.LIN_RESP_CFG n r, F.LIN_RESP_CFG_VALID.put (F.LIN_RESP_CFG_LENGTH.put (F.LIN_RESP_CFG_ID.of (k.bits 1 8 6)) (k.bits 1 16 4)) 1)]).done k
/-- R377. -/
def execLinResp (rq : Req) (s : State) : Host.Outcome State Fault Refusal :=
  .next (s.onChip fun c => c.command rq 0x6F (len 3) (fun _ k =>
    [k.only 1 0xF3F03, badArg 1 (decide (k.bits 1 16 4 < 1) || decide (8 < k.bits 1 16 4))]) Chip.linRespCmd)

/-- SVC_STATUS: the UDS session, the security level, which is always 0, and whether a transfer runs. -/
def Chip.svcStatus (c : Chip) (k : Cmd) : Chip := c.done k [wordOf [(0, c.upd.session), (16, (c.upd.staging == 1).toNat)]]
/-- R483. -/
def execSvcStatus (rq : Req) (s : State) : Host.Outcome State Fault Refusal :=
  .next (s.onChip fun c => c.command rq 0x70 (len 0) (fun _ _ => []) Chip.svcStatus)

/-! ### Network management -/

/-- NM_SET: the node byte, the controllers, OFFENDER_TIME and FALSE_WAKE_TIMEOUT. -/
def Chip.nmSet (c : Chip) (k : Cmd) : Chip :=
  let ctrl := F.NM_CTRL_CTRL_MASK.put (F.NM_CTRL_NODE.put (c.rd R.NM_CTRL) (k.bits 1 0 8)) (k.bits 1 8 8)
  let cfg := F.NM_CFG_FALSE_WAKE_TIMEOUT.put (F.NM_CFG_OFFENDER_TIME.put (c.rd R.NM_CFG) (k.bits 2 0 16)) (k.bits 3 0 16)
  (c.supWrites [(R.NM_CTRL, ctrl), (R.NM_CFG, cfg)]).done k
/-- R425. -/
def execNmSet (rq : Req) (s : State) : Host.Outcome State Fault Refusal :=
  .next (s.onChip fun c => c.command rq 0x83 (len 3) (fun _ k =>
    [k.only 1 0xFFFF, k.only 2 0xFFFF, badArg 2 (k.bits 2 0 16 == 0), k.only 3 0xFFFF, badArg 3 (decide (k.bits 3 0 16 < 100))]) Chip.nmSet)

def Chip.nmAwake (c : Chip) (k : Cmd) : Chip := (c.supWrite .sup R.NM_LOCAL (F.NM_LOCAL_AWAKE.put (c.rd R.NM_LOCAL) (k.bits 1 0 1))).done k
/-- R421. -/
def execNmAwake (rq : Req) (s : State) : Host.Outcome State Fault Refusal :=
  .next (s.onChip fun c => c.command rq 0x84 (len 1) (fun _ k => [k.only 1 1]) Chip.nmAwake)

/-- NM_OFFENDERS: every entry's node and count, then its duration in s. -/
def Chip.nmOffenders (c : Chip) (k : Cmd) : Chip :=
  c.done k ((List.range 16).flatMap fun e => [c.nmTime.rd (R.NM_OFF_ENTRY e), c.nmTime.rd (R.NM_OFF_DURATION e)])
/-- R426. -/
def execNmOffenders (rq : Req) (s : State) : Host.Outcome State Fault Refusal :=
  .next (s.onChip fun c => c.command rq 0x85 (len 0) (fun _ _ => []) Chip.nmOffenders)

def Chip.wakePulse (c : Chip) (k : Cmd) : Chip := c.wakeOut.done k
/-- R431. -/
def execWakePulse (rq : Req) (s : State) : Host.Outcome State Fault Refusal :=
  .next (s.onChip fun c => c.command rq 0x86 (len 0) (fun c _ => [c.offLink 1]) Chip.wakePulse)

end Sys2Proof.Machine
end

