-- ==== Sys2Proof/Machine/CmdMode.lean ====
section
/-! DEFINITION. The commands of modes, retention, patrol and access (spec/11, 0x80 to 0x82 and 0x90 to 0x94). -/

namespace Sys2Proof.Machine
open Sys2Proof

/-! ### Modes -/

/-- R382: a request for mode t is refused by the mode: a parking mode in RUN; in LIMP, SERVICE and STARTUP everything but PARK
and PATROL in LIMP entered on a crystal failure. Assumption log 56 (DEDUCED). -/
def Chip.modeRefused (c : Chip) (t : Nat) : Bool :=
  decide (5 ≤ c.mode) && !(c.mode == 7 && c.limpCause == 1 && (t == 1 || t == 2))

/-- R382: the checks of MODE_REQ, in the order of its list. Assumption log 56 (DEDUCED). -/
def Chip.modeChecks (c : Chip) (k : Cmd) : List Check :=
  let t := k.bits 1 0 4
  [denied (t == 6 || (t == 0 && (c.policyHold 188 || c.policyHold 189))), k.only 1 0xF, badArg 1 (t == 5 || decide (6 < t)),
   refusedBy 2 (c.mode == 4 && decide (t < 3)), refusedBy 1 (t != c.mode && c.cmds.any fun x => x.op == 0x80),
   refusedBy 2 (t != c.mode && c.modeRefused t)]

/-- MODE_REQ: STANDBY and RUN are entered at once. A parking mode is committed and entered (R348, R387), or with early waits
for its commitment, which a wake may still prevent (R388). A request by the host or a core stops the false-wake
check (R428). Assumption log 56 (DEDUCED). -/
def Chip.modeReq (early : Bool) (c : Chip) (k : Cmd) : Chip :=
  let t := k.bits 1 0 4
  let ok (c : Chip) : Chip := c.done k [.ofNat 32 t]
  if t = c.mode then ok c
  else
    let c := c.fwStop
    if 3 ≤ t then ok (c.setMode t)
    else if early then (c.setModex { c.modex with entry := some t }).addCmd k 0xFFFF
    else (ok c).parkEntry t fun _ => false
/-- R382. -/
def execModeReq (rq : Req) (early : Bool) (s : State) : Host.Outcome State Fault Refusal :=
  .next (s.onChip fun c => c.command rq 0x80 (len 1) Chip.modeChecks (Chip.modeReq early))

/-- R387: an entry that waits is committed: its MODE_REQ completes, every other long command is cancelled. Assumption log 56 (DEDUCED). -/
def Chip.commitEntry (c : Chip) : Chip :=
  match c.modex.entry with
  | some t => (c.finish (fun k => k.op == 0x80) .ok [.ofNat 32 t]).parkEntry t fun _ => false
  | none => c

def Chip.retSet (c : Chip) (k : Cmd) : Chip := (c.supWrite .sup R.RET_SEL (k.arg 1)).done k
/-- R397. -/
def execRetSet (rq : Req) (s : State) : Host.Outcome State Fault Refusal :=
  .next (s.onChip fun c => c.command rq 0x81 (len 1) (fun _ k => [k.lay 1 .RET_SEL []]) Chip.retSet)

def Chip.patrolSet (c : Chip) (k : Cmd) : Chip :=
  (c.supWrites [(R.PAT_CTRL, k.arg 1), (R.PAT_EXPECT, k.arg 2), (R.PAT_SNIFF, k.arg 3), (R.PAT_ALARM, k.arg 4)]).done k
/-- R401. -/
def execPatrolSet (rq : Req) (s : State) : Host.Outcome State Fault Refusal :=
  .next (s.onChip fun c => c.command rq 0x82 (len 4) (fun c k =>
    [k.lay 1 .PAT_CTRL [], k.lay 2 .PAT_EXPECT [], k.lay 3 .PAT_SNIFF [], k.lay 4 .PAT_ALARM [], c.offLink 1]) Chip.patrolSet)

/-! ### Access -/

/-- ACC_STATUS: enrolled slots, the last decision, days since the last use and whether polling has stopped. -/
def Chip.accStatus (c : Chip) (k : Cmd) : Chip :=
  c.done k [.ofNat 32 (c.fget R.ACC_ENROLLED F.ACC_ENROLLED_SLOTS), c.lastDecision,
    wordOf [(0, c.accDays), (16, c.fget R.ACC_STATE F.ACC_STATE_POLL_STOPPED)]]
/-- R448. -/
def execAccStatus (rq : Req) (s : State) : Host.Outcome State Fault Refusal :=
  .next (s.onChip fun c => c.command rq 0x90 (len 0) (fun c _ => [c.offLink 7]) Chip.accStatus)

/-- ACC_LOCATE: a trigger; it completes at the end of its round (Chip.roundEnd); with the access die out of reach it completes BLOCK_OFF (R27). -/
def Chip.accLocate (c : Chip) (k : Cmd) : Chip := (c.addCmd k 0xFFFF).accTrigger (5, none, 15)
/-- R438, R446. -/
def execAccLocate (rq : Req) (s : State) : Host.Outcome State Fault Refusal :=
  .next (s.onChip fun c => c.command rq 0x91 (len 0) (fun c _ => [c.offLink 7]) Chip.accLocate)

/-- The token slot that w1 names. -/
def Cmd.slot (k : Cmd) : Nat := k.bits 1 0 4

/-- ACC_ENROL: the module polls for a token in enrolment mode (Chip.enrolHeard). -/
def Chip.accEnrol (c : Chip) (k : Cmd) : Chip :=
  let (n, c) := c.draw
  (c.addCmd k k.slot).setAcc { c.acc with enrol := some ⟨k.rq, k.tag, k.slot, Config.trng n, none⟩ }
/-- R455. -/
def execAccEnrol (rq : Req) (s : State) : Host.Outcome State Fault Refusal :=
  .next (s.onChip fun c => c.command rq 0x92 (len 1) (fun c k =>
    [c.serviceOnly, k.only 1 0xF, badArg 1 (decide (9 < k.slot)), c.offLink 7, refusedBy 2 (c.enrolled k.slot) k.slot,
     refusedBy 1 c.acc.enrol.isSome k.slot, c.needsLog]) Chip.accEnrol)

/-- R456: a running round excludes a slot from its decision; the slot, no longer enrolled, asks for no retry (R443). -/
def Chip.excludeSlot (c : Chip) (s : Nat) : Chip :=
  match c.acc.round with
  | some r =>
    let without (l : List Nat) := l.filter (· ≠ s)
    let r' := { r with gone := s :: r.gone, hit := without r.hit, always := without r.always }
    let r' := { r' with auth := without r.auth, failed := without r.failed, answered := r.answered.filter (·.1 ≠ s) }
    let c := c.setRound (some r')
    if r.started then c.fset (R.ACC_SLOT_RES s) F.ACC_SLOT_RES_RESULT 4 else c
  | none => c
/-- ACC_REVOKE: the slot's key is destroyed, the slot is free; a TOKEN record. Assumption log 57 (DEDUCED). -/
def Chip.accRevoke (c : Chip) (k : Cmd) : Chip :=
  let s := k.slot
  let ident := Tbl.get (fun _ => 0) c.acc.ids s
  let c := (c.excludeSlot s).fbit R.ACC_ENROLLED (bitFld s) false
  let c := c.setAcc { c.acc with keys := Tbl.set (fun _ => 0) c.acc.keys s 0, ids := Tbl.set (fun _ => 0) c.acc.ids s 0 }
  (c.log 0x89 (payload [(0, 1, s), (1, 1, 2), (8, 8, ident.toNat)])).done k
/-- R456. -/
def execAccRevoke (rq : Req) (s : State) : Host.Outcome State Fault Refusal :=
  .next (s.onChip fun c => c.command rq 0x93 (len 1) (fun c k =>
    [c.serviceOnly, k.only 1 0xF, badArg 1 (decide (9 < k.slot)), c.offLink 7, c.needsLog]) Chip.accRevoke)

/-- R454: a new START_ENABLE channel is refused. -/
def Chip.startRefused (c : Chip) (ch : Nat) : Bool :=
  ch != c.seCh && (c.paired ch || c.inGroup ch false || c.inFlasher ch || c.chState ch != .off || c.chState c.seCh != .off)
/-- R451: IMMO_EN is set with a controller whose MB62 CAN_MB_RSV1 names. -/
def Chip.immoRefused (c : Chip) (x : Word) : Bool :=
  F.ACC_CFG3_IMMO_EN.get x == 1 && c.mbReserved (F.ACC_CFG3_IMMO_CAN.get x) 62
/-- ACC_CFG: the access configuration; a release ends first where its channel or IMMO_EN goes (R452). -/
def Chip.accCfg (c : Chip) (k : Cmd) : Chip :=
  let c := if F.ACC_CFG0_SE_CH.get (k.arg 1) ≠ c.seCh ∨ F.ACC_CFG3_IMMO_EN.get (k.arg 4) = 0 then c.immoEnd else c
  (c.supWrites [(R.ACC_CFG0, k.arg 1), (R.ACC_CFG1, k.arg 2), (R.ACC_CFG2, k.arg 3), (R.ACC_CFG3, k.arg 4)]).done k
/-- R454. -/
def execAccCfg (rq : Req) (s : State) : Host.Outcome State Fault Refusal :=
  .next (s.onChip fun c => c.command rq 0x94 (len 4) (fun c k =>
    let ch := F.ACC_CFG0_SE_CH.get (k.arg 1)
    [c.serviceOnly, denied (isSealed ch) ch, k.lay 1 .ACC_CFG0 [], badArg 1 (decide (192 ≤ ch)), k.lay 2 .ACC_CFG1 [], k.lay 3 .ACC_CFG2 [],
     k.lay 4 .ACC_CFG3 [], c.offLink 7, c.offLink (physDie ch) ch, c.offLink (physDie c.seCh) c.seCh, refusedBy 2 (c.startRefused ch) ch,
     refusedBy 2 (c.immoRefused (k.arg 4))]) Chip.accCfg)

end Sys2Proof.Machine
end

