-- ==== Sys2Proof/Machine/CmdSys.lean ====
section
/-! DEFINITION. The commands of the system, the security island, updates and counters (spec/11, 0x00 to 0x09 and 0xA0 to 0xC1),
and packets of no defined opcode. -/

namespace Sys2Proof.Config
open Sys2Proof.Machine

/-- What stored configuration records say, by record number and word (CFG_WRITE); the spec gives them no format. Assumption log 9 (DESIGN CHOICE). -/
opaque decodeRecords : Tbl (Tbl Word) → BootCfg

end Sys2Proof.Config

namespace Sys2Proof.Machine
open Sys2Proof

/-! ### System -/

def Chip.nop (c : Chip) (k : Cmd) : Chip := c.done k
/-- R347. -/
def execNop (rq : Req) (s : State) : Host.Outcome State Fault Refusal := .next (s.onChip fun c => c.command rq 0x00 (len 0) (fun _ _ => []) Chip.nop)

def Chip.getVersion (c : Chip) (k : Cmd) : Chip := c.done k (c.firmware 0 :: c.firmware 8 :: (List.range 7).map fun d => c.firmware (d + 1))
/-- R3. -/
def execGetVersion (rq : Req) (s : State) : Host.Outcome State Fault Refusal :=
  .next (s.onChip fun c => c.command rq 0x01 (len 0) (fun _ _ => []) Chip.getVersion)

/-- R341: entries in use, the requester's own and its quota; the ranges that admit it. -/
def Chip.getLimits (c : Chip) (k : Cmd) : Chip :=
  c.done k [wordOf [(16, c.entries), (8, c.ownEntries k.rq), (0, c.quotas.getD k.rq.code 0)],
    wordOf ((List.range 13).map fun r => (r, (c.rangeAdmits k.rq (16 * r)).toNat))]
/-- R341. -/
def execGetLimits (rq : Req) (s : State) : Host.Outcome State Fault Refusal :=
  .next (s.onChip fun c => c.command rq 0x04 (len 0) (fun _ _ => []) Chip.getLimits)

def Chip.setQuota (c : Chip) (k : Cmd) : Chip := { c with quotas := c.quotas.set (k.bits 1 0 4) (k.bits 1 8 8) }.done k
/-- R343. -/
def execSetQuota (rq : Req) (s : State) : Host.Outcome State Fault Refusal :=
  .next (s.onChip fun c => c.command rq 0x05 (len 1) (fun _ k =>
    [coresOnly k, k.only 1 0xFF0F, badArg 1 (decide (128 < k.bits 1 8 8) || k.bits 1 0 4 == 4 || decide (5 < k.bits 1 0 4))]) Chip.setQuota)

def Chip.getBootReport (c : Chip) (k : Cmd) : Chip := c.done k ((List.range 32).map fun w => c.rd (R.SYS_BOOT_REPORT w))
/-- R415. -/
def execGetBootReport (rq : Req) (s : State) : Host.Outcome State Fault Refusal :=
  .next (s.onChip fun c => c.command rq 0x06 (len 0) (fun _ _ => []) Chip.getBootReport)

/-- CFG_WRITE: words of a configuration record, used from the next STARTUP; a CONFIG_WRITE record. -/
def Chip.cfgWriteCmd (c : Chip) (k : Cmd) : Chip :=
  let r := k.bits 1 0 16
  let o := k.bits 2 0 16
  let n := k.w.length - 2
  let t := (List.range n).foldl (fun t j => Tbl.set (fun _ => 0) t (o + j) (k.arg (3 + j))) (Tbl.get (fun _ => []) c.records r)
  let rs := Tbl.set (fun _ => []) c.records r t
  let c := { c with records := rs, stored := Config.decodeRecords rs }
  (c.log 0x04 (payload [(0, 2, r), (2, 1, k.rq.code), (4, 4, n)])).done k [.ofNat 32 n]
/-- R466. -/
def execCfgWrite (rq : Req) (s : State) : Host.Outcome State Fault Refusal :=
  .next (s.onChip fun c => c.command rq 0x07 (lenIn 3 62) (fun _ k =>
    [denied (Config.policyRecord (k.bits 1 0 16)), k.only 1 0xFFFF, k.only 2 0xFFFF]) Chip.cfgWriteCmd)

/-- EVR_SET_ROUTE: TARGET bit 4 stays as it is. -/
def Chip.evrSetRoute (c : Chip) (k : Cmd) : Chip :=
  let a := R.EVR_ROUTE (k.bits 1 0 8)
  (c.supWrite .sup a ((bitFld 4).put (k.arg 2) (c.fget a (bitFld 4)))).done k
/-- R291. -/
def execEvrSetRoute (rq : Req) (s : State) : Host.Outcome State Fault Refusal :=
  .next (s.onChip fun c => c.command rq 0x08 (len 2) (fun _ k => [k.only 1 0xFF, k.lay 2 .EVR_ROUTE [k.bits 1 0 8]]) Chip.evrSetRoute)

/-- SYS_RESET: of the control die 100 µs later; of a remote die now, completing when its link is up again (Chip.linkBack). -/
def Chip.sysReset (c : Chip) (k : Cmd) : Chip :=
  let d := k.bits 1 0 4
  if d = 0 then (c.setModex { c.modex with resetDue := some 0x11 }).done k else (c.addCmd k d true).dieLocal d
/-- R351, R405. -/
def execSysReset (rq : Req) (s : State) : Host.Outcome State Fault Refusal :=
  .next (s.onChip fun c => c.command rq 0x09 (len 1) (fun c k =>
    let d := k.bits 1 0 4
    [coresOnly k, denied (d == 5) 5, k.only 1 0xF, badArg 1 (d == 1 || decide (7 < d)), c.offLink d d]) Chip.sysReset)

/-! ### CMD_CANCEL and CMD_ABORT (R349) -/

/-- The opcodes marked C, and those marked A. -/
def cancellable (op : Nat) : Bool := op == 0x31 || op == 0x50 || op == 0x68 || op == 0x80 || op == 0x92
def abortable (op : Nat) : Bool := op == 0x31 || op == 0x32 || op == 0x91 || op == 0xA0 || op == 0xA4

def sameCmd (k x : Cmd) : Bool := x.rq == k.rq && x.tag == k.tag
/-- The command in flight that a CMD_CANCEL or CMD_ABORT names. -/
def Chip.target (c : Chip) (k : Cmd) : Option Cmd := c.cmds.find? fun x => x.rq == k.rq && x.tag == k.bits 1 0 7

/-- R446: a round that an ACC_LOCATE set up and that has not started is dropped; the pending trigger is next. Assumption log 55 (DEDUCED). -/
def Chip.dropLocate (c : Chip) : Chip :=
  match c.acc.round with
  | some r =>
    if r.trig = 5 ∧ ¬ r.started then
      let next := c.acc.pend
      let c := (c.setAcc { c.acc with round := none, pend := c.acc.pend2, pend2 := none }).fset R.ACC_STATE F.ACC_STATE_ROUND 0
      match next with
      | some t => c.accTrigger t
      | none => c
    else match c.acc.pend with
      | some p => if p.1 = 5 then c.setAcc { c.acc with pend := c.acc.pend2, pend2 := none } else c
      | none => c
  | none => c

/-- What the hardware and the supervisor no longer wait for when a command that has not started is withdrawn. -/
def Chip.withdrawn (c : Chip) (x : Cmd) : Chip :=
  if x.op = 0x31 then c.setArm x.obj 0
  else if x.op = 0x50 then c.supValve x.obj 0 0
  else if x.op = 0x68 then (if 1024 ≤ x.obj then c else c.txCancel (x.obj / 64) (x.obj % 64))
  else if x.op = 0x80 then c.setModex { c.modex with entry := none }
  else if x.op = 0x91 then (if c.cmds.any (fun y => y.op == 0x91 && !y.started && !sameCmd x y) then c else c.dropLocate)
  else if x.op = 0x92 then c.setAcc { c.acc with enrol := none }
  else if x.op = 0xA0 then c.setGrain { c.grain with attWait := c.grain.attWait.filter fun a => !(a.rq == x.rq && a.tag == x.tag) }
  else c

/-- What ends when a started command is aborted. Assumption log 55 (DEDUCED). -/
def Chip.aborts (c : Chip) (x : Cmd) : Chip :=
  if x.op = 0x31 then c.setArm x.obj 0
  else if x.op = 0x32 then c.supWrite .sup (R.PWR_TDR_CTRL (pdie x.obj)) (F.PWR_TDR_CTRL_GO.put (F.PWR_TDR_CTRL_STOP.put (c.rd (R.PWR_TDR_CTRL (pdie x.obj))) 1) 0)
  else if x.op = 0x91 then (if c.cmds.any (fun y => y.op == 0x91 && y.started && !sameCmd x y) then c else c.roundCancel)
  else if x.op = 0xA0 then (c.setGrain { c.grain with job := none }).nextJob
  else if x.op = 0xA4 then c.setGrain { c.grain with exp := none }
  else c

/-- R349: a cancel that comes too late is marked; a CAN frame's buffer reports it as well (R370). -/
def Chip.cancelTooLate (c : Chip) (x : Cmd) : Chip :=
  let c := { c with cmds := c.cmds.map fun y => if sameCmd x y then { y with cancelLate := true } else y }
  if x.op = 0x68 ∧ x.obj < 1024 then c.txCancel (x.obj / 64) (x.obj % 64) else c

/-- CMD_CANCEL and its outcome: 0 CANCELLED, 1 LATE, 2 NOT_FOUND, 3 NOT_CANCELLABLE. Assumption log 55 (DEDUCED). -/
def Chip.cmdCancel (c : Chip) (k : Cmd) : Chip :=
  match c.target k with
  | none => c.done k [2]
  | some x =>
    if !cancellable x.op then c.done k [3]
    else if x.started then (c.cancelTooLate x).done k [1]
    else ((c.withdrawn x).finish (sameCmd x) .cancelled []).done k [0]

/-- CMD_ABORT and its outcome: 0 ABORTED, 2 NOT_FOUND, 3 NOT_ABORTABLE, 4 CANCELLED. Assumption log 55 (DEDUCED). -/
def Chip.cmdAbort (c : Chip) (k : Cmd) : Chip :=
  match c.target k with
  | none => c.done k [2]
  | some x =>
    if !abortable x.op then c.done k [3]
    else if x.started then ((c.aborts x).finish (sameCmd x) .aborted []).done k [0]
    else ((c.withdrawn x).finish (sameCmd x) .cancelled []).done k [4]

/-- R349; the log commands behind go on (R480). -/
def execCmdCancel (rq : Req) (s : State) : Host.Outcome State Fault Refusal :=
  .next (s.command rq 0x02 (len 1) (fun _ k => [k.only 1 0x7F]) fun s k => s.onChip (·.cmdCancel k))
/-- R349; the log commands behind go on (R480). -/
def execCmdAbort (rq : Req) (s : State) : Host.Outcome State Fault Refusal :=
  .next (s.command rq 0x03 (len 1) (fun _ k => [k.only 1 0x7F]) fun s k => (s.onChip (·.cmdAbort k)).logPump)

/-! ### The security island -/

/-- SEC_ATTEST: it waits for the signer (State.jobDone); a seal that is being signed is the one it waits for (R461). -/
def Chip.secAttest (c : Chip) (k : Cmd) : Chip :=
  let c := c.addCmd k 0xFFFF
  let signing := c.flag R.SEC_LOG_STATUS F.SEC_LOG_STATUS_SEALING
  (c.setGrain { c.grain with attWait := c.grain.attWait ++ [⟨k.rq, k.tag, (k.arg 5).toNat, k.w.take 4, signing⟩] }).nextJob
/-- R460, R461. -/
def execSecAttest (rq : Req) (s : State) : Host.Outcome State Fault Refusal :=
  .next (s.onChip fun c => c.command rq 0xA0 (len 6) (fun c k =>
    [badArg 5 (!c.inRoom rq (k.arg 5).toNat 17216), badArg 6 (decide ((k.arg 6).toNat < 17216))]) Chip.secAttest)

/-- SEC_CERT: the device certificate is written to SRAM. Assumption log 57 (DEDUCED). -/
def State.secCert (s : State) (k : Cmd) : State := (s.storeAll .island (k.arg 1).toNat certificate).onChip fun c => c.done k [7920]
/-- R460. -/
def execSecCert (rq : Req) (s : State) : Host.Outcome State Fault Refusal :=
  .next (s.command rq 0xA1 (len 2) (fun c k =>
    [badArg 1 (!c.inRoom rq (k.arg 1).toNat 7920), badArg 2 (decide ((k.arg 2).toNat < 7920))]) State.secCert)

/-- Check 7 on a blob in SRAM. Assumption log 48 (DEDUCED). -/
def Chip.blobCheck (c : Chip) (k : Cmd) : Check := badArg 1 (!c.inRoom k.rq (k.arg 1).toNat (max 1 (k.arg 2).toNat))

def State.sealInstall (s : State) (k : Cmd) : State := (s.onChip (·.addCmd k 0xFFFF true)).installCmd k
/-- R464. -/
def execSealInstall (rq : Req) (s : State) : Host.Outcome State Fault Refusal :=
  .next (s.command rq 0xA2 (len 2) (fun c k => [c.blobCheck k]) State.sealInstall)

def Chip.logStatus (c : Chip) (k : Cmd) : Chip :=
  c.done k [.ofNat 32 c.grain.nextSeq, .ofNat 32 c.grain.mark,
    wordOf [(0, c.fget R.SEC_LOG_STATUS F.SEC_LOG_STATUS_RESERVE_USED), (16, c.logFull.toNat), (17, c.folding.toNat)]]
/-- R476. -/
def execLogStatus (rq : Req) (s : State) : Host.Outcome State Fault Refusal :=
  .next (s.onChip fun c => c.command rq 0xA3 (len 0) (fun _ _ => []) Chip.logStatus)

/-- R480: a log command joins those in flight, and starts if none runs. -/
def State.logCmd (s : State) (k : Cmd) : State := State.logNext 130 (s.onChip (·.addCmd k 0xFFFF))
/-- R477: only Q29's consumer. -/
def execLogExport (rq : Req) (s : State) : Host.Outcome State Fault Refusal :=
  .next (s.command rq 0xA4 (len 1) (fun c k => [notOwner (!c.isConsumer k.rq 29)]) State.logCmd)
/-- R478. -/
def execLogAck (rq : Req) (s : State) : Host.Outcome State Fault Refusal :=
  .next (s.command rq 0xA5 (len 2) (fun c k => [c.blobCheck k]) State.logCmd)
/-- R479. -/
def execLogErase (rq : Req) (s : State) : Host.Outcome State Fault Refusal :=
  .next (s.command rq 0xA6 (len 2) (fun c k => [c.blobCheck k]) State.logCmd)

/-- KEY_SLOT_WRITE: an authority public key, once; a KEY_SLOT record. Assumption log 57 (DEDUCED). -/
def Chip.keySlotWrite (c : Chip) (k : Cmd) : Chip :=
  let s := k.bits 1 0 2
  let key := k.w.drop 1
  let h := beBytes 32 (Config.sha256 (key.flatMap fun w => leBytes 4 w.toNat)).toNat
  let c := { c with authKeys := Tbl.set (fun _ => []) c.authKeys s key }.fset R.SEC_AUTH F.SEC_AUTH_WRITTEN
    (c.fget R.SEC_AUTH F.SEC_AUTH_WRITTEN ||| 2 ^ s)
  (c.log 0x8C (payload [(0, 1, s), (4, 12, leNat (h.take 12))])).done k
/-- R462. -/
def execKeySlotWrite (rq : Req) (s : State) : Host.Outcome State Fault Refusal :=
  .next (s.onChip fun c => c.command rq 0xA7 (len 9) (fun c k =>
    [c.serviceOnly, denied ((c.fget R.SEC_AUTH F.SEC_AUTH_WRITTEN).testBit (k.bits 1 0 2) || c.flag R.SEC_AUTH F.SEC_AUTH_SLOTS_CLOSED),
     k.only 1 3, c.needsLog]) Chip.keySlotWrite)

/-! ### Updates and counters -/

def Chip.updStatus (c : Chip) (k : Cmd) : Chip := c.done k [.ofNat 32 c.upd.staging, c.stagedVersion, c.upd.outcome]
/-- R498. -/
def execUpdStatus (rq : Req) (s : State) : Host.Outcome State Fault Refusal :=
  .next (s.onChip fun c => c.command rq 0xB0 (len 0) (fun _ _ => []) Chip.updStatus)

/-- UPD_ACTIVATE: a VALID package is armed; the control die resets with cause UPDATE. -/
def Chip.updActivateCmd (c : Chip) (k : Cmd) : Chip :=
  let c := if c.upd.staging = 3 then c.arm else c
  (c.setModex { c.modex with resetDue := some 0x16 }).done k
/-- R493. -/
def execUpdActivate (rq : Req) (s : State) : Host.Outcome State Fault Refusal :=
  .next (s.onChip fun c => c.command rq 0xB1 (len 0) (fun c k =>
    [coresOnly k, refusedBy 2 (c.mode == 5 || c.mode == 7), refusedBy 8 (c.upd.staging != 3 && c.upd.staging != 5), c.needsLog]) Chip.updActivateCmd)

def Chip.cdeSet (c : Chip) (k : Cmd) : Chip := (c.supWrites [(R.CDE_BASE, k.arg 2), (R.CDE_SIZE, k.arg 3), (R.CDE_CTRL, k.arg 1)]).done k
/-- R302. -/
def execCdeSet (rq : Req) (s : State) : Host.Outcome State Fault Refusal :=
  .next (s.onChip fun c => c.command rq 0xC0 (len 3) (fun _ k => [k.lay 1 .CDE_CTRL [], k.lay 2 .CDE_BASE [], k.lay 3 .CDE_SIZE []]) Chip.cdeSet)

def Chip.cdeGet (c : Chip) (k : Cmd) : Chip := c.done k [c.peek .sup R.CDE_STATUS, c.rd R.CDE_SEQ, c.rd R.CDE_DROP_CNT]
/-- R303. -/
def execCdeGet (rq : Req) (s : State) : Host.Outcome State Fault Refusal :=
  .next (s.onChip fun c => c.command rq 0xC1 (len 0) (fun _ _ => []) Chip.cdeGet)

/-! ### Packets of no defined opcode (R338) -/

/-- The opcodes defined in firmware 3.2. -/
def definedOp (op : Nat) : Bool :=
  decide (op ≤ 0x09) || (decide (0x10 ≤ op) && decide (op ≤ 0x1C)) || (decide (0x30 ≤ op) && decide (op ≤ 0x35)) ||
    (decide (0x40 ≤ op) && decide (op ≤ 0x4C)) || (decide (0x50 ≤ op) && decide (op ≤ 0x54)) || (decide (0x58 ≤ op) && decide (op ≤ 0x5A)) ||
    (decide (0x60 ≤ op) && decide (op ≤ 0x64)) || (decide (0x68 ≤ op) && decide (op ≤ 0x70)) || (decide (0x80 ≤ op) && decide (op ≤ 0x86)) ||
    (decide (0x90 ≤ op) && decide (op ≤ 0x94)) || (decide (0xA0 ≤ op) && decide (op ≤ 0xA7)) || op == 0xB0 || op == 0xB1 || op == 0xC0 || op == 0xC1

/-- R338: checks 1 and 2 on a packet whose opcode is not defined. Assumption log 53 (DEDUCED). -/
def Chip.badOpcode (c : Chip) (rq : Req) : Chip :=
  match c.headPacket (cmdQueue rq) with
  | [] => c
  | h :: ws =>
    let k := cmdOf rq h ws
    if !c.serves rq || definedOp k.op then c
    else
      let c := c.takePacket (cmdQueue rq)
      match firstFail ((c.commonChecks k h fun _ => true).take 1 ++ [(true, { st := .badOpcode, arg := 0 })]) with
      | some r => c.refuse k r
      | none => c
/-- R338. -/
def execBadOpcodeCommand (rq : Req) (s : State) : Host.Outcome State Fault Refusal := .next (s.onChip (·.badOpcode rq))

end Sys2Proof.Machine
end

