-- ==== Sys2Proof/Machine/Dispatch.lean ====
section
/-! DEFINITION. One arm per command, each a direct call of its meaning. -/

namespace Sys2Proof.Machine
open Sys2Proof

/-- The effect of a command on everything but the queue of waiting commands. -/
def exec (i : Instr) (s : State) : Host.Outcome State Fault Refusal :=
  match i with
  | .xtal40Fail => Sys2Proof.Machine.execXtal40Fail s
  | .xtal32kLoss => Sys2Proof.Machine.execXtal32kLoss s
  | .xtal32kStartTimeout => Sys2Proof.Machine.execXtal32kStartTimeout s
  | .radioXtalLoss => Sys2Proof.Machine.execRadioXtalLoss s
  | .postedWriteFrame d addr data rq seq crc => Sys2Proof.Machine.execPostedWriteFrame d addr data rq seq crc s
  | .readRequestFrame d addr rq seq crc => Sys2Proof.Machine.execReadRequestFrame d addr rq seq crc s
  | .readResponseFrame d data err seq crc => Sys2Proof.Machine.execReadResponseFrame d data err seq crc s
  | .acknowledgeFrame d seq crc => Sys2Proof.Machine.execAcknowledgeFrame d seq crc s
  | .negativeAcknowledgeFrame d seq crc => Sys2Proof.Machine.execNegativeAcknowledgeFrame d seq crc s
  | .statusPushFrame d first ws lows crc => Sys2Proof.Machine.execStatusPushFrame d first ws lows crc s
  | .eventFrame d ev detail crc => Sys2Proof.Machine.execEventFrame d ev detail crc s
  | .keepAliveFrame d st holdLeft crc => Sys2Proof.Machine.execKeepAliveFrame d st holdLeft crc s
  | .linkRetryExhausted d => Sys2Proof.Machine.execLinkRetryExhausted d s
  | .linkLossTimeout d => Sys2Proof.Machine.execLinkLossTimeout d s
  | .trainingSequenceReceived d => Sys2Proof.Machine.execTrainingSequenceReceived d s
  | .linkAcknowledge d => Sys2Proof.Machine.execLinkAcknowledge d s
  | .retryWindowEnd d => Sys2Proof.Machine.execRetryWindowEnd d s
  | .sysLinkRetrain rq d => Sys2Proof.Machine.execSysLinkRetrain rq d s
  | .accessTimeout rq write addr => Sys2Proof.Machine.execAccessTimeout rq write addr s
  | .postedWriteSlotFree rq => Sys2Proof.Machine.execPostedWriteSlotFree rq s
  | .registerWrite rq user w addr data => Sys2Proof.Machine.execRegisterWrite rq user w addr data s
  | .lockGroupClose rq g => Sys2Proof.Machine.execLockGroupClose rq g s
  | .blockIdleGate b => Sys2Proof.Machine.execBlockIdleGate b s
  | .sysDrainRead rq => Sys2Proof.Machine.execSysDrainRead rq s
  | .sysDrainDone rq => Sys2Proof.Machine.execSysDrainDone rq s
  | .orderTokenRead rq d => Sys2Proof.Machine.execOrderTokenRead rq d s
  | .orderTokenDone rq d => Sys2Proof.Machine.execOrderTokenDone rq d s
  | .aliasRead rq user w addr => Sys2Proof.Machine.execAliasRead rq user w addr s
  | .aliasWrite rq user w addr data => Sys2Proof.Machine.execAliasWrite rq user w addr data s
  | .counter64LowRead rq c => Sys2Proof.Machine.execCounter64LowRead rq c s
  | .counter64HighRead rq c => Sys2Proof.Machine.execCounter64HighRead rq c s
  | .counter64HighWrite rq c data => Sys2Proof.Machine.execCounter64HighWrite rq c data s
  | .counter64LowWrite rq c data => Sys2Proof.Machine.execCounter64LowWrite rq c data s
  | .chCmdApply rq ch data => Sys2Proof.Machine.execChCmdApply rq ch data s
  | .chCmdRearm rq ch data => Sys2Proof.Machine.execChCmdRearm rq ch data s
  | .pwrCommitGo rq n data => Sys2Proof.Machine.execPwrCommitGo rq n data s
  | .commitTick n => Sys2Proof.Machine.execCommitTick n s
  | .pwmPeriodStart ch => Sys2Proof.Machine.execPwmPeriodStart ch s
  | .schedReexamine n => Sys2Proof.Machine.execSchedReexamine n s
  | .deferCapExpire ch => Sys2Proof.Machine.execDeferCapExpire ch s
  | .profileSegmentEnd ch => Sys2Proof.Machine.execProfileSegmentEnd ch s
  | .isBudgetWrite rq n data => Sys2Proof.Machine.execIsBudgetWrite rq n data s
  | .isEnableWrite rq n data => Sys2Proof.Machine.execIsEnableWrite rq n data s
  | .isDeferMaxWrite rq n data => Sys2Proof.Machine.execIsDeferMaxWrite rq n data s
  | .pwrPairWrite rq n data => Sys2Proof.Machine.execPwrPairWrite rq n data s
  | .chOwnerWrite rq ch data => Sys2Proof.Machine.execChOwnerWrite rq ch data s
  | .currentAtCeiling l => Sys2Proof.Machine.execCurrentAtCeiling l s
  | .currentBelowCeiling l => Sys2Proof.Machine.execCurrentBelowCeiling l s
  | .hardShortTrip ch m => Sys2Proof.Machine.execHardShortTrip ch m s
  | .envelopeOvercurrent ch m => Sys2Proof.Machine.execEnvelopeOvercurrent ch m s
  | .heldShortTimeout ch m => Sys2Proof.Machine.execHeldShortTimeout ch m s
  | .limitTimeExpire ch m => Sys2Proof.Machine.execLimitTimeExpire ch m s
  | .thermalShutdown ch m => Sys2Proof.Machine.execThermalShutdown ch m s
  | .tjWarnChange ch on => Sys2Proof.Machine.execTjWarnChange ch on s
  | .clampEnd ch parts tj m => Sys2Proof.Machine.execClampEnd ch parts tj m s
  | .wireModelUpdate ch y m => Sys2Proof.Machine.execWireModelUpdate ch y m s
  | .backoffExpire ch => Sys2Proof.Machine.execBackoffExpire ch s
  | .coolingConditionMet ch => Sys2Proof.Machine.execCoolingConditionMet ch s
  | .retryCountClearTimer ch => Sys2Proof.Machine.execRetryCountClearTimer ch s
  | .reverseDetect ch => Sys2Proof.Machine.execReverseDetect ch s
  | .reverseClear ch => Sys2Proof.Machine.execReverseClear ch s
  | .feedScaledChange n below => Sys2Proof.Machine.execFeedScaledChange n below s
  | .feedUndervoltage n ms => Sys2Proof.Machine.execFeedUndervoltage n ms s
  | .feedUvRecovery n => Sys2Proof.Machine.execFeedUvRecovery n s
  | .feedOvervoltage n ms => Sys2Proof.Machine.execFeedOvervoltage n ms s
  | .feedOvRecovery n => Sys2Proof.Machine.execFeedOvRecovery n s
  | .feedDipDetect x => Sys2Proof.Machine.execFeedDipDetect x s
  | .feedFreezeEnd n => Sys2Proof.Machine.execFeedFreezeEnd n s
  | .chDisableSet rq ch force => Sys2Proof.Machine.execChDisableSet rq ch force s
  | .chEnable rq ch => Sys2Proof.Machine.execChEnable rq ch s
  | .pwrHoldTimeExpire n => Sys2Proof.Machine.execPwrHoldTimeExpire n s
  | .dieLocalReset d => Sys2Proof.Machine.execDieLocalReset d s
  | .moduleSupplyLoss => Sys2Proof.Machine.execModuleSupplyLoss s
  | .measWindowEnd n ws feed early vlv => Sys2Proof.Machine.execMeasWindowEnd n ws feed early vlv s
  | .lidUnsettledTimeout ch => Sys2Proof.Machine.execLidUnsettledTimeout ch s
  | .streamPacketComplete n samples odd => Sys2Proof.Machine.execStreamPacketComplete n samples odd s
  | .streamCtrlWrite rq n data => Sys2Proof.Machine.execStreamCtrlWrite rq n data s
  | .onStateWindowEnd ch samples => Sys2Proof.Machine.execOnStateWindowEnd ch samples s
  | .offDiagCycleStart x => Sys2Proof.Machine.execOffDiagCycleStart x s
  | .pullDownPhaseEnd ch above => Sys2Proof.Machine.execPullDownPhaseEnd ch above s
  | .pullUpPhaseEnd ch v vfeed => Sys2Proof.Machine.execPullUpPhaseEnd ch v vfeed s
  | .xcGo rq n data => Sys2Proof.Machine.execXcGo rq n data s
  | .xcPulseEnd n rose => Sys2Proof.Machine.execXcPulseEnd n rose s
  | .tdrGo rq n data => Sys2Proof.Machine.execTdrGo rq n data s
  | .tdrStop rq n data => Sys2Proof.Machine.execTdrStop rq n data s
  | .tdrResume n => Sys2Proof.Machine.execTdrResume n s
  | .tdrRunComplete n found trace => Sys2Proof.Machine.execTdrRunComplete n found trace s
  | .cantMeasTerm rq n data => Sys2Proof.Machine.execCantMeasTerm rq n data s
  | .cantMeasStep rq n data => Sys2Proof.Machine.execCantMeasStep rq n data s
  | .cantBusIdle n => Sys2Proof.Machine.execCantBusIdle n s
  | .cantMeasPause n => Sys2Proof.Machine.execCantMeasPause n s
  | .cantMeasDone n step ohm found => Sys2Proof.Machine.execCantMeasDone n step ohm found s
  | .cantMeasTimeout n step => Sys2Proof.Machine.execCantMeasTimeout n step s
  | .lplusStaleTimeout => Sys2Proof.Machine.execLplusStaleTimeout s
  | .ledSubperiodBoundary samples ilim => Sys2Proof.Machine.execLedSubperiodBoundary samples ilim s
  | .lsThermalShutdown x => Sys2Proof.Machine.execLsThermalShutdown x s
  | .lsThermalRestart x => Sys2Proof.Machine.execLsThermalRestart x s
  | .lsCtrlApply rq x data => Sys2Proof.Machine.execLsCtrlApply rq x data s
  | .lsCtrlRearm rq x data => Sys2Proof.Machine.execLsCtrlRearm rq x data s
  | .ledCommitGo rq data => Sys2Proof.Machine.execLedCommitGo rq data s
  | .ledHrStop => Sys2Proof.Machine.execLedHrStop s
  | .ledHrRestart => Sys2Proof.Machine.execLedHrRestart s
  | .ledHrRearm rq data => Sys2Proof.Machine.execLedHrRearm rq data s
  | .ntcConversion t ohm => Sys2Proof.Machine.execNtcConversion t ohm s
  | .derateUpdate g => Sys2Proof.Machine.execDerateUpdate g s
  | .lfMemberChannelSync g => Sys2Proof.Machine.execLfMemberChannelSync g s
  | .lfDisable rq g data => Sys2Proof.Machine.execLfDisable rq g data s
  | .peTick e => Sys2Proof.Machine.execPeTick e s
  | .peCtrlStart rq e data => Sys2Proof.Machine.execPeCtrlStart rq e data s
  | .peCtrlStop rq e data => Sys2Proof.Machine.execPeCtrlStop rq e data s
  | .flashOnPhaseStart n k => Sys2Proof.Machine.execFlashOnPhaseStart n k s
  | .flashOnPhaseEnd n k means => Sys2Proof.Machine.execFlashOnPhaseEnd n k means s
  | .flashSyncRelay n k => Sys2Proof.Machine.execFlashSyncRelay n k s
  | .flashOutageRelay n k => Sys2Proof.Machine.execFlashOutageRelay n k s
  | .ledHoldTimeExpire => Sys2Proof.Machine.execLedHoldTimeExpire s
  | .vlvCmdReqSet rq v data vboost => Sys2Proof.Machine.execVlvCmdReqSet rq v data vboost s
  | .vlvCmdReqClear rq v data => Sys2Proof.Machine.execVlvCmdReqClear rq v data s
  | .vlvCmdRearm rq v data cool => Sys2Proof.Machine.execVlvCmdRearm rq v data cool s
  | .peakTExpire v ma => Sys2Proof.Machine.execPeakTExpire v ma s
  | .vboostReady n vboost => Sys2Proof.Machine.execVboostReady n vboost s
  | .nrMaxExpire v => Sys2Proof.Machine.execNrMaxExpire v s
  | .overlapMaxExpire v => Sys2Proof.Machine.execOverlapMaxExpire v s
  | .onMaxExpire v => Sys2Proof.Machine.execOnMaxExpire v s
  | .holdLowDetect v => Sys2Proof.Machine.execHoldLowDetect v s
  | .holdLowClear v => Sys2Proof.Machine.execHoldLowClear v s
  | .valveDecayEnd v parts tj => Sys2Proof.Machine.execValveDecayEnd v parts tj s
  | .vgHighSideTrip g => Sys2Proof.Machine.execVgHighSideTrip g s
  | .vlvSelectOvercurrent v => Sys2Proof.Machine.execVlvSelectOvercurrent v s
  | .vlvSelectThermal v => Sys2Proof.Machine.execVlvSelectThermal v s
  | .vlvDisable rq v data => Sys2Proof.Machine.execVlvDisable rq v data s
  | .vlvEnable rq v data => Sys2Proof.Machine.execVlvEnable rq v data s
  | .vgParWrite rq g data => Sys2Proof.Machine.execVgParWrite rq g data s
  | .siScanTick => Sys2Proof.Machine.execSiScanTick s
  | .siConversionDone n code => Sys2Proof.Machine.execSiConversionDone n code s
  | .siState0Read rq => Sys2Proof.Machine.execSiState0Read rq s
  | .siWakeEdge n rising env => Sys2Proof.Machine.execSiWakeEdge n rising env s
  | .fpFilterExpire p level => Sys2Proof.Machine.execFpFilterExpire p level s
  | .fpWireBreakDetect p => Sys2Proof.Machine.execFpWireBreakDetect p s
  | .fpWireBreakClear p => Sys2Proof.Machine.execFpWireBreakClear p s
  | .fpCmdOnWrite rq p on => Sys2Proof.Machine.execFpCmdOnWrite rq p on s
  | .fpCmdRearm rq p data cool => Sys2Proof.Machine.execFpCmdRearm rq p data cool s
  | .fpShort p hot => Sys2Proof.Machine.execFpShort p hot s
  | .fpThermalShutdown p => Sys2Proof.Machine.execFpThermalShutdown p s
  | .fpCooldownRestart p => Sys2Proof.Machine.execFpCooldownRestart p s
  | .fpOpenLoadDetect p => Sys2Proof.Machine.execFpOpenLoadDetect p s
  | .fpOpenLoadClear p => Sys2Proof.Machine.execFpOpenLoadClear p s
  | .fpClampEnd p parts tj => Sys2Proof.Machine.execFpClampEnd p parts tj s
  | .fpDisable rq p data => Sys2Proof.Machine.execFpDisable rq p data s
  | .fpModeWrite rq p data => Sys2Proof.Machine.execFpModeWrite rq p data s
  | .fldSupplyFault tooHigh => Sys2Proof.Machine.execFldSupplyFault tooHigh s
  | .fldSupplyRecover => Sys2Proof.Machine.execFldSupplyRecover s
  | .fpMeasPush x => Sys2Proof.Machine.execFpMeasPush x s
  | .fldHoldTimeExpire => Sys2Proof.Machine.execFldHoldTimeExpire s
  | .barrierPowerLoss => Sys2Proof.Machine.execBarrierPowerLoss s
  | .mtimecmpReached c => Sys2Proof.Machine.execMtimecmpReached c s
  | .mcounterenWrite c data => Sys2Proof.Machine.execMcounterenWrite c data s
  | .fenceI c => Sys2Proof.Machine.execFenceI c s
  | .fenceIo c pred succ => Sys2Proof.Machine.execFenceIo c pred succ s
  | .atomicAccess c user op addr data => Sys2Proof.Machine.execAtomicAccess c user op addr data s
  | .cacheParityError c addr dirty write => Sys2Proof.Machine.execCacheParityError c addr dirty write s
  | .sramEccError rq addr double fetch => Sys2Proof.Machine.execSramEccError rq addr double fetch s
  | .lockstepMismatch env => Sys2Proof.Machine.execLockstepMismatch env s
  | .nvmOpComplete lo n => Sys2Proof.Machine.execNvmOpComplete lo n s
  | .evrClaimRead rq t => Sys2Proof.Machine.execEvrClaimRead rq t s
  | .evrSwraiseWrite rq data => Sys2Proof.Machine.execEvrSwraiseWrite rq data s
  | .evrRouteWrite rq k data => Sys2Proof.Machine.execEvrRouteWrite rq k data s
  | .hpmCounterWrap c j => Sys2Proof.Machine.execHpmCounterWrap c j s
  | .hpmCsrWrite c csr data => Sys2Proof.Machine.execHpmCsrWrite c csr data s
  | .msampTag x => Sys2Proof.Machine.execMsampTag x s
  | .msampRecord c pc lat0 outcome slot retire => Sys2Proof.Machine.execMsampRecord c pc lat0 outcome slot retire s
  | .msampCtlWrite c data => Sys2Proof.Machine.execMsampCtlWrite c data s
  | .cdeSnapshot wfi => Sys2Proof.Machine.execCdeSnapshot wfi s
  | .cdeWindowClose => Sys2Proof.Machine.execCdeWindowClose s
  | .hspCsFall mode3 => Sys2Proof.Machine.execHspCsFall mode3 s
  | .hspNop addr => Sys2Proof.Machine.execHspNop addr s
  | .hspWrite addr ws part => Sys2Proof.Machine.execHspWrite addr ws part s
  | .hspWriteFixed addr ws part => Sys2Proof.Machine.execHspWriteFixed addr ws part s
  | .hspFetch addr words => Sys2Proof.Machine.execHspFetch addr words s
  | .hspWritePkt addr ws part => Sys2Proof.Machine.execHspWritePkt addr ws part s
  | .hspFpRead addr words => Sys2Proof.Machine.execHspFpRead addr words s
  | .hspWake addr env => Sys2Proof.Machine.execHspWake addr env s
  | .hspReadReq n addr => Sys2Proof.Machine.execHspReadReq n addr s
  | .hspReadReqFixed n addr => Sys2Proof.Machine.execHspReadReqFixed n addr s
  | .deferredReadsDone => Sys2Proof.Machine.execDeferredReadsDone s
  | .fpCaptureTick ms => Sys2Proof.Machine.execFpCaptureTick ms s
  | .fpSwap => Sys2Proof.Machine.execFpSwap s
  | .qPushWrite rq q data => Sys2Proof.Machine.execQPushWrite rq q data s
  | .qPushEopWrite rq q data => Sys2Proof.Machine.execQPushEopWrite rq q data s
  | .qPopRead rq q => Sys2Proof.Machine.execQPopRead rq q s
  | .qBankSwap q => Sys2Proof.Machine.execQBankSwap q s
  | .qMark rq q => Sys2Proof.Machine.execQMark rq q s
  | .qRewind rq q => Sys2Proof.Machine.execQRewind rq q s
  | .qEnable rq q data => Sys2Proof.Machine.execQEnable rq q data s
  | .qDisable rq q data => Sys2Proof.Machine.execQDisable rq q data s
  | .hwPacketPush q ws => Sys2Proof.Machine.execHwPacketPush q ws s
  | .cmdCompletionFlush rq => Sys2Proof.Machine.execCmdCompletionFlush rq s
  | .nop rq => Sys2Proof.Machine.execNop rq s
  | .getVersion rq => Sys2Proof.Machine.execGetVersion rq s
  | .cmdCancel rq => Sys2Proof.Machine.execCmdCancel rq s
  | .cmdAbort rq => Sys2Proof.Machine.execCmdAbort rq s
  | .getLimits rq => Sys2Proof.Machine.execGetLimits rq s
  | .setQuota rq => Sys2Proof.Machine.execSetQuota rq s
  | .getBootReport rq => Sys2Proof.Machine.execGetBootReport rq s
  | .cfgWrite rq => Sys2Proof.Machine.execCfgWrite rq s
  | .evrSetRoute rq => Sys2Proof.Machine.execEvrSetRoute rq s
  | .sysReset rq => Sys2Proof.Machine.execSysReset rq s
  | .sysResetDelayExpire env => Sys2Proof.Machine.execSysResetDelayExpire env s
  | .chSet rq => Sys2Proof.Machine.execChSet rq s
  | .chSetCfg rq => Sys2Proof.Machine.execChSetCfg rq s
  | .chCommit rq => Sys2Proof.Machine.execChCommit rq s
  | .chSetOwner rq => Sys2Proof.Machine.execChSetOwner rq s
  | .chDisable rq => Sys2Proof.Machine.execChDisable rq s
  | .chRearm rq => Sys2Proof.Machine.execChRearm rq s
  | .chSetProt rq => Sys2Proof.Machine.execChSetProt rq s
  | .chSetPair rq => Sys2Proof.Machine.execChSetPair rq s
  | .chGet rq => Sys2Proof.Machine.execChGet rq s
  | .profileWrite rq => Sys2Proof.Machine.execProfileWrite rq s
  | .isSet rq => Sys2Proof.Machine.execIsSet rq s
  | .holdSet rq => Sys2Proof.Machine.execHoldSet rq s
  | .flashSet rq => Sys2Proof.Machine.execFlashSet rq s
  | .olSet rq => Sys2Proof.Machine.execOlSet rq s
  | .lidArm rq => Sys2Proof.Machine.execLidArm rq s
  | .lidArmWaitExpire ch => Sys2Proof.Machine.execLidArmWaitExpire ch s
  | .tdrRun rq => Sys2Proof.Machine.execTdrRun rq s
  | .xcTest rq => Sys2Proof.Machine.execXcTest rq s
  | .streamSet rq => Sys2Proof.Machine.execStreamSet rq s
  | .cantHealth rq => Sys2Proof.Machine.execCantHealth rq s
  | .lsSet rq => Sys2Proof.Machine.execLsSet rq s
  | .lsCfg rq => Sys2Proof.Machine.execLsCfg rq s
  | .lsRearm rq => Sys2Proof.Machine.execLsRearm rq s
  | .ledCommit rq => Sys2Proof.Machine.execLedCommit rq s
  | .lfSet rq => Sys2Proof.Machine.execLfSet rq s
  | .lfDerate rq => Sys2Proof.Machine.execLfDerate rq s
  | .lfRearm rq => Sys2Proof.Machine.execLfRearm rq s
  | .peLoad rq => Sys2Proof.Machine.execPeLoad rq s
  | .peStart rq => Sys2Proof.Machine.execPeStart rq s
  | .peStop rq tick => Sys2Proof.Machine.execPeStop rq tick s
  | .ledHrSet rq => Sys2Proof.Machine.execLedHrSet rq s
  | .ntcSet rq => Sys2Proof.Machine.execNtcSet rq s
  | .ledHoldSet rq => Sys2Proof.Machine.execLedHoldSet rq s
  | .vlvReq rq vboost => Sys2Proof.Machine.execVlvReq rq vboost s
  | .vlvSet rq => Sys2Proof.Machine.execVlvSet rq s
  | .vlvRearm rq cool => Sys2Proof.Machine.execVlvRearm rq cool s
  | .vgSet rq => Sys2Proof.Machine.execVgSet rq s
  | .vbSet rq => Sys2Proof.Machine.execVbSet rq s
  | .siSet rq => Sys2Proof.Machine.execSiSet rq s
  | .siLadder rq => Sys2Proof.Machine.execSiLadder rq s
  | .siRead rq => Sys2Proof.Machine.execSiRead rq s
  | .fpSetCfg rq => Sys2Proof.Machine.execFpSetCfg rq s
  | .fpOut rq => Sys2Proof.Machine.execFpOut rq s
  | .fpRearm rq cool => Sys2Proof.Machine.execFpRearm rq cool s
  | .fldSupSet rq => Sys2Proof.Machine.execFldSupSet rq s
  | .fldHoldSet rq => Sys2Proof.Machine.execFldHoldSet rq s
  | .canTx rq => Sys2Proof.Machine.execCanTx rq s
  | .canCfg rq => Sys2Proof.Machine.execCanCfg rq s
  | .canEnable rq receiving => Sys2Proof.Machine.execCanEnable rq receiving s
  | .canFilter rq => Sys2Proof.Machine.execCanFilter rq s
  | .canSelwake rq => Sys2Proof.Machine.execCanSelwake rq s
  | .linSched rq => Sys2Proof.Machine.execLinSched rq s
  | .linMode rq => Sys2Proof.Machine.execLinMode rq s
  | .linResp rq => Sys2Proof.Machine.execLinResp rq s
  | .svcStatus rq => Sys2Proof.Machine.execSvcStatus rq s
  | .modeReq rq early => Sys2Proof.Machine.execModeReq rq early s
  | .retSet rq => Sys2Proof.Machine.execRetSet rq s
  | .patrolSet rq => Sys2Proof.Machine.execPatrolSet rq s
  | .nmSet rq => Sys2Proof.Machine.execNmSet rq s
  | .nmAwake rq => Sys2Proof.Machine.execNmAwake rq s
  | .nmOffenders rq => Sys2Proof.Machine.execNmOffenders rq s
  | .wakePulse rq => Sys2Proof.Machine.execWakePulse rq s
  | .accStatus rq => Sys2Proof.Machine.execAccStatus rq s
  | .accLocate rq => Sys2Proof.Machine.execAccLocate rq s
  | .accEnrol rq => Sys2Proof.Machine.execAccEnrol rq s
  | .accEnrolTimeout => Sys2Proof.Machine.execAccEnrolTimeout s
  | .accRevoke rq => Sys2Proof.Machine.execAccRevoke rq s
  | .accCfg rq => Sys2Proof.Machine.execAccCfg rq s
  | .secAttest rq => Sys2Proof.Machine.execSecAttest rq s
  | .secCert rq => Sys2Proof.Machine.execSecCert rq s
  | .sealInstall rq => Sys2Proof.Machine.execSealInstall rq s
  | .logStatus rq => Sys2Proof.Machine.execLogStatus rq s
  | .logExport rq => Sys2Proof.Machine.execLogExport rq s
  | .logAck rq => Sys2Proof.Machine.execLogAck rq s
  | .logErase rq => Sys2Proof.Machine.execLogErase rq s
  | .keySlotWrite rq => Sys2Proof.Machine.execKeySlotWrite rq s
  | .updStatus rq => Sys2Proof.Machine.execUpdStatus rq s
  | .updActivate rq => Sys2Proof.Machine.execUpdActivate rq s
  | .cdeSet rq => Sys2Proof.Machine.execCdeSet rq s
  | .cdeGet rq => Sys2Proof.Machine.execCdeGet rq s
  | .canTxreqWrite rq n w data => Sys2Proof.Machine.execCanTxreqWrite rq n w data s
  | .canTxcancelWrite rq n w data => Sys2Proof.Machine.execCanTxcancelWrite rq n w data s
  | .canEnSet rq n data => Sys2Proof.Machine.execCanEnSet rq n data s
  | .canEnClear rq n data receiving => Sys2Proof.Machine.execCanEnClear rq n data receiving s
  | .canRecover rq n data => Sys2Proof.Machine.execCanRecover rq n data s
  | .canBusoffRecovered n => Sys2Proof.Machine.execCanBusoffRecovered n s
  | .canArbitrationStart n => Sys2Proof.Machine.execCanArbitrationStart n s
  | .canTxAttemptEnd n how tdcv => Sys2Proof.Machine.execCanTxAttemptEnd n how tdcv s
  | .canFrameReceived n rx sof => Sys2Proof.Machine.execCanFrameReceived n rx sof s
  | .canMbW0Read rq n => Sys2Proof.Machine.execCanMbW0Read rq n s
  | .canMbLastRead rq n => Sys2Proof.Machine.execCanMbLastRead rq n s
  | .canMbLockTimeout n b => Sys2Proof.Machine.execCanMbLockTimeout n b s
  | .swkFrameDecoded n rx env => Sys2Proof.Machine.execSwkFrameDecoded n rx env s
  | .canWakePattern n env => Sys2Proof.Machine.execCanWakePattern n env s
  | .linSlotEnd n => Sys2Proof.Machine.execLinSlotEnd n s
  | .linFrameReceived n how => Sys2Proof.Machine.execLinFrameReceived n how s
  | .linResponseTimeout n bytes => Sys2Proof.Machine.execLinResponseTimeout n bytes s
  | .linSleepWrite rq n data => Sys2Proof.Machine.execLinSleepWrite rq n data s
  | .linWakeWrite rq n data => Sys2Proof.Machine.execLinWakeWrite rq n data s
  | .linWakeResume n => Sys2Proof.Machine.execLinWakeResume n s
  | .linBusInactivity n => Sys2Proof.Machine.execLinBusInactivity n s
  | .linWakeSignal n env => Sys2Proof.Machine.execLinWakeSignal n env s
  | .linBusFault n => Sys2Proof.Machine.execLinBusFault n s
  | .linBusFaultClear n => Sys2Proof.Machine.execLinBusFaultClear n s
  | .padRelease rq data => Sys2Proof.Machine.execPadRelease rq data s
  | .retAckWrite rq data => Sys2Proof.Machine.execRetAckWrite rq data s
  | .retFillComplete k => Sys2Proof.Machine.execRetFillComplete k s
  | .patrolCycle codes env => Sys2Proof.Machine.execPatrolCycle codes env s
  | .sniffWindow slot env => Sys2Proof.Machine.execSniffWindow slot env s
  | .patAlarmExpire env => Sys2Proof.Machine.execPatAlarmExpire env s
  | .modulePowerOn env => Sys2Proof.Machine.execModulePowerOn env s
  | .vsenFall => Sys2Proof.Machine.execVsenFall s
  | .vsenLowTimeout brown env => Sys2Proof.Machine.execVsenLowTimeout brown env s
  | .vsenEarlyRecovery => Sys2Proof.Machine.execVsenEarlyRecovery s
  | .resetNLow env => Sys2Proof.Machine.execResetNLow env s
  | .sysSwresetGo rq env => Sys2Proof.Machine.execSysSwresetGo rq env s
  | .wdtKick rq => Sys2Proof.Machine.execWdtKick rq s
  | .wdtHalfTime => Sys2Proof.Machine.execWdtHalfTime s
  | .wdtTimeout env => Sys2Proof.Machine.execWdtTimeout env s
  | .supWdtTimeout env => Sys2Proof.Machine.execSupWdtTimeout env s
  | .limpRetryExpire env => Sys2Proof.Machine.execLimpRetryExpire env s
  | .nmFrameReceived n f => Sys2Proof.Machine.execNmFrameReceived n f s
  | .nmCycleExpire => Sys2Proof.Machine.execNmCycleExpire s
  | .nmLocalAwakeWrite rq data => Sys2Proof.Machine.execNmLocalAwakeWrite rq data s
  | .nmNodeAbsent node => Sys2Proof.Machine.execNmNodeAbsent node s
  | .nmOffenceBegin => Sys2Proof.Machine.execNmOffenceBegin s
  | .nmOffClear rq data => Sys2Proof.Machine.execNmOffClear rq data s
  | .falseWakeTimeout => Sys2Proof.Machine.execFalseWakeTimeout s
  | .wakeInPulse env => Sys2Proof.Machine.execWakeInPulse env s
  | .wakeOutPulseEnd => Sys2Proof.Machine.execWakeOutPulseEnd s
  | .wakeBlankEnd => Sys2Proof.Machine.execWakeBlankEnd s
  | .wakeBypassOpen => Sys2Proof.Machine.execWakeBypassOpen s
  | .accRoundStart antFault => Sys2Proof.Machine.execAccRoundStart antFault s
  | .accPoll => Sys2Proof.Machine.execAccPoll s
  | .accTokenResponse w rx => Sys2Proof.Machine.execAccTokenResponse w rx s
  | .accSlotWindowsEnd => Sys2Proof.Machine.execAccSlotWindowsEnd s
  | .accSessionOpen slot accepted => Sys2Proof.Machine.execAccSessionOpen slot accepted s
  | .accRangingExchange slot port cm => Sys2Proof.Machine.execAccRangingExchange slot port cm s
  | .accRoundDecide => Sys2Proof.Machine.execAccRoundDecide s
  | .accReleasePeriod => Sys2Proof.Machine.execAccReleasePeriod s
  | .accBlink slot antFault => Sys2Proof.Machine.execAccBlink slot antFault s
  | .accPollDaysExpire => Sys2Proof.Machine.execAccPollDaysExpire s
  | .sealTimerExpire => Sys2Proof.Machine.execSealTimerExpire s
  | .signJobComplete => Sys2Proof.Machine.execSignJobComplete s
  | .sealedInterruptionEnd k byMax limited => Sys2Proof.Machine.execSealedInterruptionEnd k byMax limited s
  | .bypassIntervalEnd k high avg limited planned => Sys2Proof.Machine.execBypassIntervalEnd k high avg limited planned s
  | .pwrSealAck rq data => Sys2Proof.Machine.execPwrSealAck rq data s
  | .diagnosticSessionControl session => Sys2Proof.Machine.execDiagnosticSessionControl session s
  | .ecuReset kind env => Sys2Proof.Machine.execEcuReset kind env s
  | .readDataByIdentifier did => Sys2Proof.Machine.execReadDataByIdentifier did s
  | .eraseStaging => Sys2Proof.Machine.execEraseStaging s
  | .checkPackage => Sys2Proof.Machine.execCheckPackage s
  | .checkPackageDone => Sys2Proof.Machine.execCheckPackageDone s
  | .armActivation => Sys2Proof.Machine.execArmActivation s
  | .disarm => Sys2Proof.Machine.execDisarm s
  | .routineResults rid => Sys2Proof.Machine.execRoutineResults rid s
  | .routinePendingResponse => Sys2Proof.Machine.execRoutinePendingResponse s
  | .requestDownload format lengths addr size => Sys2Proof.Machine.execRequestDownload format lengths addr size s
  | .transferData counter bytes programmed => Sys2Proof.Machine.execTransferData counter bytes programmed s
  | .requestTransferExit => Sys2Proof.Machine.execRequestTransferExit s
  | .testerPresent => Sys2Proof.Machine.execTesterPresent s
  | .securityAccess sub => Sys2Proof.Machine.execSecurityAccess sub s
  | .s3Timeout => Sys2Proof.Machine.execS3Timeout s
  | .loadWindowEnd k util links => Sys2Proof.Machine.execLoadWindowEnd k util links s
  | .xtal32kStart => Sys2Proof.Machine.execXtal32kStart s
  | .radioXtalReturn => Sys2Proof.Machine.execRadioXtalReturn s
  | .retentionDroop bank changed => Sys2Proof.Machine.execRetentionDroop bank changed s
  | .canFdFrameRejoin n => Sys2Proof.Machine.execCanFdFrameRejoin n s
  | .linHeaderReceived n ident => Sys2Proof.Machine.execLinHeaderReceived n ident s
  | .hspShortOrBadOpcodeFrame clocks op addr => Sys2Proof.Machine.execHspShortOrBadOpcodeFrame clocks op addr s
  | .badOpcodeCommand rq => Sys2Proof.Machine.execBadOpcodeCommand rq s
  | .unsupportedServiceRequest sid => Sys2Proof.Machine.execUnsupportedServiceRequest sid s
  | .fpSwitchBelow150c p => Sys2Proof.Machine.execFpSwitchBelow150c p s

end Sys2Proof.Machine
end

