-- ==== Sys2Proof/Machine/Time.lean ====
section
/-! DEFINITION. What passes when no command waits: one microsecond (assumption log 3). -/

namespace Sys2Proof.Machine
open Sys2Proof

/-- One microsecond of the clocks: the real-time clock runs in every mode but STORAGE (R394), power die 3's while its keeper is engaged (R384); SYS_MTIME, the power dies' clocks and
the cores' counters run while the control die is powered (R54, R296, R383). Assumption log 3 (DESIGN CHOICE). -/
def Chip.clockTick (c : Chip) : Chip :=
  if c.mode = 0 then c
  else if c.awake then (c.timePass 1).coresTick
  else
    let c := c.rtcPass 1
    if c.keeper then c.setCtr64 (R.PWR_TIME_LO 3) (c.ctr64 (R.PWR_TIME_LO 3) + 1) else c

/-- A microsecond in which no command waits: a parking mode whose entry waits is committed (R387), the clocks run, and a log command
that can go on does (R477). Assumption log 3 (DESIGN CHOICE). -/
def State.idle (s : State) : State := (s.onChip fun c => c.commitEntry.clockTick).logPump

end Sys2Proof.Machine
end

