-- ==== Sys2Proof/Machine/Step.lean ====
section
/-! DEFINITION. One step of the block: the command at the front of the queue, or a microsecond when none waits. -/

namespace Sys2Proof.Machine
open Sys2Proof

/-- The state whose queue holds the commands after the front one. -/
def State.rest (s : State) (l : List Instr) : State := { s with pending := l }

/-- Take the front command and run it with the rest of the queue. Assumption log 2 (DESIGN CHOICE). -/
def step (s : State) : Host.Outcome State Fault Refusal :=
  match s.pending with
  | i :: l => exec i (s.rest l)
  | [] => .next s.idle

/-- The command that a word spells, put at the front of the queue; the table gives no row any bits, so no word spells one.
Assumption log 2 (DESIGN CHOICE). -/
def State.withFetchWord (s : State) (nbits w : Nat) : State :=
  match decodeTableWord nbits w with
  | some i => { s with pending := i :: s.pending }
  | none => s

end Sys2Proof.Machine
end

