-- ==== Sys2Proof/Safety.lean ====
section
/-! DEFINITION. The terms in which statements speak of the module: what stays as it is, where a posted write lands at once, when the
supervisor takes and answers a command packet, and the invariant of memory. -/

namespace Sys2Proof.Machine
open Sys2Proof

/-- Every register outside the address ranges l reads from the register table as before. -/
def Only (l : List (Nat × Nat)) (c c' : Chip) : Prop := ∀ a, (∀ x ∈ l, ¬ (x.1 ≤ a ∧ a < x.2)) → c'.rd a = c.rd a

/-- The blocks of the address map (R31) and the cores' CSRs. -/
def Blk.sys : Nat × Nat := (0x40000000, 0x40010000)
def Blk.evr : Nat × Nat := (0x40010000, 0x40020000)
def Blk.que : Nat × Nat := (0x40020000, 0x40030000)
def Blk.hsp : Nat × Nat := (0x40030000, 0x40040000)
def Blk.cde : Nat × Nat := (0x40040000, 0x40050000)
def Blk.ret : Nat × Nat := (0x40050000, 0x40060000)
def Blk.can : Nat × Nat := (0x40080000, 0x40090000)
def Blk.lin : Nat × Nat := (0x40090000, 0x400A0000)
def Blk.nm : Nat × Nat := (0x400A0000, 0x400B0000)
def Blk.sec : Nat × Nat := (0x400C0000, 0x40100000)
def Blk.sen : Nat × Nat := (0x40100000, 0x40200000)
/-- Power die n. -/
def Blk.pwr (n : Nat) : Nat × Nat := (0x40200000 + n * 0x80000, 0x40280000 + n * 0x80000)
def Blk.fld : Nat × Nat := (0x40400000, 0x40480000)
def Blk.acc : Nat × Nat := (0x40480000, 0x40500000)
def Blk.csr : Nat × Nat := (0x100000000, 0x100010000)
/-- The registers of channel ch. -/
def Blk.chan (ch : Nat) : Nat × Nat := (chBase ch, chBase ch + 0x100)

/-- R278, R311, R312: an access of rq in a mode to n bytes at address a is let through (bit: 0 a read, 1 a write): by the host port
for the host, by its PMP for a core. -/
def Chip.passes (c : Chip) (rq : Req) (user : Bool) (a n bit : Nat) : Bool :=
  (rq != .host || c.hostPasses a bit) && (decide (4 ≤ rq.code) || c.pmpOk rq.code user a n bit)

/-- R278: a word access of rq is let through, a core's in the mode of its last access. -/
def Chip.admits (c : Chip) (rq : Req) (a bit : Nat) : Bool := c.passes rq (c.core rq.code).user a 4 bit

/-- R57, R58, R383: an access of rq to a register of the control die takes effect at once: the die is powered, the requester is
not held, and the access is let through. -/
def Chip.atOnce (c : Chip) (rq : Req) (a bit : Nat) : Bool := c.awake && !c.stalled rq && c.admits rq a bit

/-- R22, R24, R58: a posted write of rq to the remote die that holds address a lands at once: the link is up and both its ends are
in step, the requester is not held and has fewer than eight writes outstanding, and its write is let through. The control die is
powered (R383). -/
def Chip.direct (c : Chip) (rq : Req) (a : Nat) : Bool :=
  c.atOnce rq a 1 && c.linkUp (dieOf a) && c.inStep (dieOf a) && decide (c.outstanding rq < 8)

/-- No access of any requester waits. -/
def Chip.noneWaits (c : Chip) : Bool := allReqs.all fun rq => (c.busOf rq).held.isEmpty

/-- R336: the header of a command packet of n payload words. -/
def cmdHeader (op tag n : Nat) : Word := .ofNat 32 (op * 2 ^ 24 + tag * 2 ^ 16 + n)

/-- R334 to R338, R344: a command of opcode op, tag and payload ws stands at the front of the requester's command queue, the supervisor
serves the requester, and it passes the checks that every command meets: its tag is free, its quota and the table have room, its range
admits the requester. -/
abbrev Chip.offers (c : Chip) (rq : Req) (op tag : Nat) (ws : List Word) : Prop :=
  tag < 128 ∧ c.serves rq = true ∧ c.headPacket (cmdQueue rq) = cmdHeader op tag ws.length :: ws ∧
    (c.cmds.any fun x => x.rq == rq && x.tag == tag) = false ∧ c.ownEntries rq < c.quotas.getD rq.code 0 ∧ c.entries < 128 ∧
    c.rangeAdmits rq op = true

/-- R329: a packet of n payload words has been taken from the requester's command queue. -/
abbrev Chip.popped (c c' : Chip) (rq : Req) (n : Nat) : Prop :=
  (c'.queue (cmdQueue rq)).drain = (c.queue (cmdQueue rq)).drain.drop (n + 1)

/-- R339: the packet is taken, and one completion is written with status st and results res. -/
abbrev Chip.served (c c' : Chip) (rq : Req) (op tag n : Nat) (st : CmdStatus) (res : List Word) : Prop :=
  c.popped c' rq n ∧ (c'.queue (compQueue rq)).fill = (c.queue (compQueue rq)).fill ++ packetWords (c.compPacket op tag st 0 res)

/-- R341: the packet is taken, and the long command stands in the table, waiting for object obj. -/
abbrev Chip.waits (c c' : Chip) (rq : Req) (op tag : Nat) (ws : List Word) (obj : Nat) (started : Bool) : Prop :=
  c.popped c' rq ws.length ∧
    c'.cmds = c.cmds ++ [{ rq := rq, op := op, tag := tag, w := ws, obj := obj, started := started }]

/-- R42: the bits of a register that a write of the supervisor stores, no lock being closed. -/
def writable (id : RegId) : Word :=
  match (regBlocks.flatMap (·.2.2)).find? fun d => d.id = id with
  | some d => .ofNat 32 (d.rw ||| d.rwl ||| d.rws)
  | none => 0

/-- The register at address a holds the writable bits of a word. -/
abbrev Chip.took (c : Chip) (id : RegId) (a : Nat) (x : Word) : Prop := c.rd a &&& writable id = x &&& writable id

/-- The invariant of memory: the cells are in canonical form. -/
def State.MemOk (s : State) : Prop := Memory.wf s.sram = true

end Sys2Proof.Machine
end

