-- ==== Sys2Proof/Certificates/Slice0/Obligations.lean ====
section
/-! DEFINITION. The statements for the provers. Each says of commands, by the rules named in OBLIGATIONS.json, in which states they
complete, what they leave, and what they leave unchanged. -/

open Sys2Proof Sys2Proof.Machine

/-- For every command i and state s whose queue is i followed by l, step answers what exec answers for i on s with queue l. On an empty queue it answers the state after one idle microsecond (the model's choice, assumption log 3). -/
def Obligations.StepRunsTheFrontCommand : Prop :=
  (∀ (i : Instr) (l : List Instr) (s : State), s.pending = i :: l → step s = exec i { s with pending := l }) ∧
  (∀ s : State, s.pending = [] → step s = .next s.idle)

/-- At reset no command waits and no memory byte is listed; SYS_MODE reads 0x55 (STARTUP entered from STARTUP) and SYS_RESET_CAUSE 1; every link is down and training; every channel is in state OFF with GENERIC as its profile and 200 Hz as its PWM period, channel 187 is owned by the access function and every other channel by the supervisor; every event router route reads 0x110 (priority 1 at the supervisor); and the feed budget field of each power die is 0x640 (160 A). The empty queue and memory are the model's own (assumption logs 2 and 4). -/
def Obligations.ResetLeavesTheStatedValues : Prop :=
  (State.reset.pending = [] ∧ State.reset.sram = []) ∧
  (State.reset.chip.rd R.SYS_MODE = 0x55#32 ∧ State.reset.chip.rd R.SYS_RESET_CAUSE = 1#32) ∧
  (∀ d, 1 ≤ d → d < 8 → State.reset.chip.linkUp d = false ∧ State.reset.chip.flag (R.SYS_LINK_STATUS d) F.SYS_LINK_STATUS_TRAINING = true) ∧
  (∀ ch, ch < 192 → State.reset.chip.fget (R.CH_STATUS ch) F.CH_STATUS_STATE = 0 ∧ State.reset.chip.fget (R.CH_CFG ch) F.CH_CFG_PROFILE = 6 ∧ State.reset.chip.fget (R.CH_PWM ch) F.CH_PWM_PERIOD = 50000 ∧ State.reset.chip.fget (R.CH_OWNER ch) F.CH_OWNER_OWNER = if ch = 187 then 6 else 4) ∧
  (∀ k, k < 256 → State.reset.chip.rd (R.EVR_ROUTE k) = 0x110#32) ∧
  (∀ n, n < 4 → State.reset.chip.fget (R.IS_BUDGET n) F.IS_BUDGET_BUDGET = 0x640)

/-- From every state whose memory cells are in canonical form (addresses strictly rising, no entry equal to what an unlisted byte reads as), whatever command is at the front of the queue, a step that answers a next state answers one whose memory is in canonical form. -/
def Obligations.EveryStepKeepsMemoryCanonical : Prop :=
  (∀ s t : State, s.MemOk → step s = .next t → t.MemOk)

/-- The invariant that every step keeps holds of the state after reset. -/
def Obligations.ResetMemoryIsCanonical : Prop :=
  State.reset.MemOk

/-- Whatever command runs in whatever state, the state it answers holds the same waiting commands. -/
def Obligations.CommandsLeaveTheQueueAlone : Prop :=
  (∀ (i : Instr) (s t : State), exec i s = .next t → t.pending = s.pending)

/-- XTAL40_FAIL in STANDBY, RUN or SERVICE with the crystal good: the module enters LIMP with cause 1, XTAL40_OK reads 0 and CORE_ON_BACKUP 1 (R17, R381). XTAL32K_LOSS: the crystal no longer runs, ON_RC reads 1, and XTAL32K_PRESENT reads 0 where the sentinel's link is up; outside the system block, the event router and the sentinel every register is as before (R20). XTAL32K_START_TIMEOUT with no crystal running and the sentinel's link up: ON_RC reads 1 and EV011 is raised (R531). With the crystal running it changes nothing. XTAL32K_START: the crystal runs, ON_RC reads 0, and XTAL32K_PRESENT reads 1 where the sentinel's link is up; outside the system block and the sentinel every register is as before (R531). RADIO_XTAL_LOSS: the crystal is lost and RADIO_XTAL_OK reads 0 (R21). RADIO_XTAL_RETURN: the crystal runs and RADIO_XTAL_OK reads 1 where the link of D7 is up; every other register is as before. -/
def Obligations.ClockAndCrystalRows : Prop :=
  (∀ (s : State), s.chip.awake = true → s.chip.flag R.SYS_CLK_STATUS F.SYS_CLK_STATUS_XTAL40_OK = true → ((s.chip.mode = 3 ∨ s.chip.mode = 4 ∨ s.chip.mode = 6)) → ∃ c', exec (.xtal40Fail) s = .next { s with chip := c' } ∧ c'.mode = 7 ∧ c'.limpCause = 1 ∧ c'.flag R.SYS_CLK_STATUS F.SYS_CLK_STATUS_XTAL40_OK = false ∧ c'.flag R.SYS_CLK_STATUS F.SYS_CLK_STATUS_CORE_ON_BACKUP = true) ∧
  (∀ (s : State), ∃ c', exec (.xtal32kLoss) s = .next { s with chip := c' } ∧ c'.x32 = false ∧ c'.flag R.SEN_RTC_STATUS F.SEN_RTC_STATUS_ON_RC = true ∧ (s.chip.linkUp 1 = true → c'.flag R.SYS_CLK_STATUS F.SYS_CLK_STATUS_XTAL32K_PRESENT = false) ∧ Only [Blk.sys, Blk.evr, Blk.sen] s.chip c') ∧
  (∀ (s : State), s.chip.x32 = false → s.chip.linkUp 1 = true → exec (.xtal32kStartTimeout) s = .next (s.onChip fun c => (c.fset R.SEN_RTC_STATUS F.SEN_RTC_STATUS_ON_RC 1).raise 11)) ∧
  (∀ (s : State), s.chip.x32 = true → exec (.xtal32kStartTimeout) s = .next (s)) ∧
  (∀ (s : State), ∃ c', exec (.xtal32kStart) s = .next { s with chip := c' } ∧ c'.x32 = true ∧ c'.flag R.SEN_RTC_STATUS F.SEN_RTC_STATUS_ON_RC = false ∧ (s.chip.linkUp 1 = true → c'.flag R.SYS_CLK_STATUS F.SYS_CLK_STATUS_XTAL32K_PRESENT = true) ∧ Only [Blk.sys, Blk.sen] s.chip c') ∧
  (∀ (s : State), ∃ c', exec (.radioXtalLoss) s = .next { s with chip := c' } ∧ c'.radio = false ∧ c'.flag R.SYS_CLK_STATUS F.SYS_CLK_STATUS_RADIO_XTAL_OK = false) ∧
  (∀ (s : State), ∃ c', exec (.radioXtalReturn) s = .next { s with chip := c' } ∧ c'.radio = true ∧ (s.chip.linkUp 7 = true → c'.flag R.SYS_CLK_STATUS F.SYS_CLK_STATUS_RADIO_XTAL_OK = true) ∧ (∀ a, a ≠ R.SYS_CLK_STATUS → c'.rd a = s.chip.rd a))

/-- All on a link that is up. A POSTED_WRITE_FRAME with its CRC right that D0 sent and that is next in order advances the number the die accepts next, ends a standing negative acknowledge, marks the frame as landed, and the write lands on its die (R22, R24). A READ_REQUEST_FRAME that D0 sent and that is next in order leaves the answer to be delivered (here of a word outside the alias region): the number accepted next advances and the answer of the die is appended (R22). A READ_RESPONSE_FRAME that carries the answer of the one frame sent, of a requester for which no access waits, delivers the answer to the requester and ends the read (R22). An ACKNOWLEDGE_FRAME of the oldest frame, a landed write, ends it (R24). The NEGATIVE_ACKNOWLEDGE_FRAME that the die sent, of a frame with attempts left: it is withdrawn, the resent frames count as retries and each has one attempt more; only the system block and the event router change (R24, R25, R30). A STATUS_PUSH_FRAME of one word from D1 with its CRC right keeps that word's place in the Faceplate's pushed data; only the sentinel's registers change (R317). An EVENT_FRAME of an event that the die raises is raised (R287); one that it does not raise, and that is not EV004, changes nothing. A frame with a wrong CRC counts in the link's CRC error count, and D0 sends a negative acknowledge unless it has already sent one (R23). -/
def Obligations.FramesOfALinkThatIsUp : Prop :=
  (∀ (d : Fin 8) (addr : BitVec 24) (data : Word) (rq : Req) (seq : BitVec 6) (crc : BitVec 16) (f : Sent) (l : List Sent) (s : State), d ≠ 0 → s.chip.linkUp d = true → crc.toNat = frameCrc [(24, addr.toNat), (32, data.toNat), (4, rq.code), (6, seq.toNat)] → (s.chip.link d).sent = f :: l → f.landed = false ∧ f.seq = seq.toNat ∧ f.write = true ∧ f.rq = rq ∧ target f.addr = dieAddr d addr ∧ f.data = data → (s.chip.link d).rxSeq = seq.toNat → exec (.postedWriteFrame d addr data rq seq crc) s = .next (s.onChip fun c => ((c.setLink d { c.link d with rxSeq := seqNext seq.toNat, nack := none }).markLanded d seq.toNat).landed rq f.addr data)) ∧
  (∀ (d : Fin 8) (addr : BitVec 24) (rq : Req) (seq : BitVec 6) (crc : BitVec 16) (f : Sent) (l : List Sent) (s : State), d ≠ 0 → s.chip.linkUp d = true → crc.toNat = frameCrc [(24, addr.toNat), (4, rq.code), (6, seq.toNat)] → (s.chip.link d).sent = f :: l → f.landed = false ∧ f.seq = seq.toNat ∧ f.write = false ∧ f.rq = rq ∧ f.addr = dieAddr d addr ∧ isAlias f.addr = false → (s.chip.link d).rxSeq = seq.toNat → ∃ c', exec (.readRequestFrame d addr rq seq crc) s = .next { s with chip := c' } ∧ (c'.link d).rxSeq = seqNext seq.toNat ∧ (c'.link d).answers = (s.chip.link d).answers ++ [(seq.toNat, s.chip.peek rq (dieAddr d addr))]) ∧
  (∀ (d : Fin 8) (data : Word) (seq : BitVec 6) (crc : BitVec 16) (f : Sent) (s : State), d ≠ 0 → s.chip.linkUp d = true → crc.toNat = frameCrc [(32, data.toNat), (6, seq.toNat)] → (s.chip.link d).sent = [f] → f.seq = seq.toNat ∧ f.write = false ∧ f.landed = true → (s.chip.link d).answers = [(seq.toNat, data)] → s.chip.noneWaits = true → exec (.readResponseFrame d data 0 seq crc) s = .next (s.onChip fun c => (c.setLink d { c.link d with sent := [], answers := [], back := none }).answer f.rq f.addr data)) ∧
  (∀ (d : Fin 8) (seq : BitVec 6) (crc : BitVec 16) (f : Sent) (l : List Sent) (s : State), d ≠ 0 → s.chip.linkUp d = true → crc.toNat = frameCrc [(6, seq.toNat)] → (s.chip.link d).sent = f :: l → f.seq = seq.toNat ∧ f.write = true ∧ f.landed = true → exec (.acknowledgeFrame d seq crc) s = .next (s.onChip fun c => c.setLink d { c.link d with sent := l })) ∧
  (∀ (d : Fin 8) (seq : BitVec 6) (crc : BitVec 16) (f : Sent) (l : List Sent) (s : State), d ≠ 0 → s.chip.linkUp d = true → crc.toNat = frameCrc [(6, seq.toNat)] → (s.chip.link d).nack = some seq.toNat → (s.chip.link d).sent = f :: l → f.seq = seq.toNat → f.tries < 8 → ∃ c', exec (.negativeAcknowledgeFrame d seq crc) s = .next { s with chip := c' } ∧ (c'.link d).nack = none ∧ (c'.link d).retries = (s.chip.link d).retries + (l.length + 1) ∧ (c'.link d).sent = (f :: l).map (fun g => { g with tries := g.tries + 1 }) ∧ Only [Blk.sys, Blk.evr] s.chip c') ∧
  (∀ (first : BitVec 10) (w : Word) (crc : BitVec 16) (s : State), s.chip.linkUp 1 = true → crc.toNat = frameCrc [(32, w.toNat)] → fpDie (4 * first.toNat) = 1 → ∃ c', exec (.statusPushFrame 1 first [w] [] crc) s = .next { s with chip := c' } ∧ (Tbl.get (fun _ => none) c'.hsp.pushed (4 * first.toNat)).isSome = true ∧ Only [Blk.sen] s.chip c') ∧
  (∀ (d : Fin 8) (ev : BitVec 8) (detail : BitVec 24) (crc : BitVec 16) (s : State), d ≠ 0 → s.chip.linkUp d = true → ev ≠ 4 → crc.toNat = frameCrc [(8, ev.toNat), (24, detail.toNat)] → exec (.eventFrame d ev detail crc) s = .next (if dieEvent d ev.toNat = true then s.onChip (·.raise ev.toNat) else s)) ∧
  (∀ (d : Fin 8) (seq : BitVec 6) (crc : BitVec 16) (s : State), d ≠ 0 → s.chip.linkUp d = true → crc.toNat ≠ frameCrc [(6, seq.toNat)] → ∃ c', exec (.acknowledgeFrame d seq crc) s = .next { s with chip := c' } ∧ c'.rd (R.SYS_LINK_CRCERR_CNT d) = .ofNat 32 (min 0xFFFFFFFF ((s.chip.rd (R.SYS_LINK_CRCERR_CNT d)).toNat + 1)) ∧ (c'.link d).back.isSome = true ∧ (c'.link d).sent = (s.chip.link d).sent ∧ (∀ a, a ≠ R.SYS_LINK_CRCERR_CNT d → c'.rd a = s.chip.rd a))

/-- LINK_RETRY_EXHAUSTED with a frame sent on a link that is up, no access of any requester waiting: the link is down and training, its unacknowledged frames are gone and both ends number from 0 again (R25). LINK_LOSS_TIMEOUT: the link is down and its die has declared it lost (R28). TRAINING_SEQUENCE_RECEIVED on a link that is down: the die has declared it lost (R28). The first good KEEP_ALIVE_FRAME where links may train: the link is up and REMOTE_STATE shows the die's (R29). LINK_ACKNOWLEDGE of a re-established link: it is neither lost nor unacknowledged (R29). RETRY_WINDOW_END on a link that is up: the window's retries start again from 0, and fewer than 64 of them clear DEGRADED; only the system block changes (R30). SYS_LINK_RETRAIN by the supervisor on a link that is up, no access of any requester waiting: the link is down and nothing is left on it (R28). -/
def Obligations.LinkLossTrainingAndAcknowledgement : Prop :=
  (∀ (d : Fin 8) (s : State), d ≠ 0 → s.chip.linkUp d = true → (s.chip.link d).sent ≠ [] → s.chip.noneWaits = true → ∃ c', exec (.linkRetryExhausted d) s = .next { s with chip := c' } ∧ c'.linkUp d = false ∧ c'.flag (R.SYS_LINK_STATUS d) F.SYS_LINK_STATUS_TRAINING = true ∧ (c'.link d).sent = [] ∧ (c'.link d).txSeq = 0 ∧ (c'.link d).rxSeq = 0) ∧
  (∀ (d : Fin 8) (s : State), d ≠ 0 → s.chip.noneWaits = true → ∃ c', exec (.linkLossTimeout d) s = .next { s with chip := c' } ∧ c'.linkUp d = false ∧ (c'.link d).lost = true) ∧
  (∀ (d : Fin 8) (s : State), d ≠ 0 → s.chip.linkUp d = false → ∃ c', exec (.trainingSequenceReceived d) s = .next { s with chip := c' } ∧ (c'.link d).lost = true) ∧
  (∀ (d : Fin 8) (w : BitVec 8) (holdLeft : BitVec 16) (crc : BitVec 16) (s : State), d ≠ 0 → s.chip.mayTrain = true → s.chip.linkUp d = false → crc.toNat = frameCrc [(8, w.toNat), (16, holdLeft.toNat)] → ∃ c', exec (.keepAliveFrame d w holdLeft crc) s = .next { s with chip := c' } ∧ c'.linkUp d = true ∧ c'.fget (R.SYS_LINK_STATUS d) F.SYS_LINK_STATUS_REMOTE_STATE = w.toNat) ∧
  (∀ (d : Fin 8) (s : State), d ≠ 0 → s.chip.linkUp d = true → (s.chip.link d).unacked = true → ∃ c', exec (.linkAcknowledge d) s = .next { s with chip := c' } ∧ (c'.link d).lost = false ∧ (c'.link d).unacked = false) ∧
  (∀ (d : Fin 8) (s : State), d ≠ 0 → s.chip.linkUp d = true → ∃ c', exec (.retryWindowEnd d) s = .next { s with chip := c' } ∧ (c'.link d).retries = 0 ∧ ((s.chip.link d).retries < 64 → c'.flag (R.SYS_LINK_STATUS d) F.SYS_LINK_STATUS_DEGRADED = false) ∧ Only [Blk.sys] s.chip c') ∧
  (∀ (d : Fin 8) (s : State), d ≠ 0 → s.chip.atOnce .sup (R.SYS_LINK_CTRL d) 1 = true → s.chip.linkUp d = true → s.chip.noneWaits = true → ∃ c', exec (.sysLinkRetrain .sup d) s = .next { s with chip := c' } ∧ c'.linkUp d = false ∧ (c'.link d).sent = [])

/-- REGISTER_WRITE of a word to the threshold of an event router target, by a requester that is no core and whose access takes effect at once: the low four bits are the written ones, and every other register but the router's power word is as before (R42). LOCK_GROUP_CLOSE of the SYS group, not closed yet, by a requester whose access takes effect at once: LOCK reads 1 and every other register is as before (R43). SYS_DRAIN_READ with nothing outstanding answers DONE with the number of failed writes, which starts again at 0; registers keep their values (R66). SYS_DRAIN_DONE does the same for a drain that has waited, for which nothing waits behind it; the drain is over (R66). ORDER_TOKEN_READ of a die whose link is up waits for the writes sent on the link so far (R67). ORDER_TOKEN_DONE, when as many writes have landed and nothing waits behind it, answers the die's token (R67). ACCESS_TIMEOUT of a read that a die with an up link and no frame under way does not answer: the requester, not held, gets the bus error TIMEOUT, and SYS_BUSFAULT_ADDR names the address; only the system block and the event router change (R57). POSTED_WRITE_SLOT_FREE: a write to a register of a remote die that waited alone for a slot is sent on its link (R58). BLOCK_IDLE_GATE: an idle block that may gate reads state GATED (R386). -/
def Obligations.AccessesDrainsAndTokens : Prop :=
  (∀ (rq : Req) (u : Bool) (t : Fin 7) (data : Word) (s : State), 4 ≤ rq.code → s.chip.atOnce rq (R.EVR_THRESH t) 1 = true → ∃ c', exec (.registerWrite rq u .word (.ofNat 32 (R.EVR_THRESH t)) data) s = .next { s with chip := c' } ∧ c'.rd (R.EVR_THRESH t) &&& 0xF = data &&& 0xF ∧ (∀ a, a ≠ R.EVR_THRESH t → a ≠ R.SYS_BLK_POWER 0 → c'.rd a = s.chip.rd a)) ∧
  (∀ (rq : Req) (s : State), s.chip.atOnce rq R.SYS_LOCK 1 = true → (Tbl.get (fun _ => false) s.chip.wo1 R.SYS_LOCK = false) → ∃ c', exec (.lockGroupClose rq .sys) s = .next { s with chip := c' } ∧ c'.flag R.SYS_LOCK F.SYS_LOCK_LOCK = true ∧ (∀ a, a ≠ R.SYS_LOCK → c'.rd a = s.chip.rd a)) ∧
  (∀ (rq : Req) (s : State), s.chip.atOnce rq R.SYS_DRAIN 0 = true → s.chip.drained rq = true → ∃ c', exec (.sysDrainRead rq) s = .next { s with chip := c' } ∧ c'.respOf rq = ⟨R.SYS_DRAIN, wordOf [(31, 1), (0, (s.chip.busOf rq).failed)], 0⟩ ∧ (c'.busOf rq).failed = 0 ∧ Only [] s.chip c') ∧
  (∀ (rq : Req) (s : State), (s.chip.busOf rq).drain = true → s.chip.drained rq = true → (s.chip.busOf rq).held = [] → ∃ c', exec (.sysDrainDone rq) s = .next { s with chip := c' } ∧ c'.respOf rq = ⟨R.SYS_DRAIN, wordOf [(31, 1), (0, (s.chip.busOf rq).failed)], 0⟩ ∧ (c'.busOf rq).failed = 0 ∧ (c'.busOf rq).drain = false ∧ Only [] s.chip c') ∧
  (∀ (rq : Req) (d : Fin 8) (s : State), d ≠ 0 → s.chip.atOnce rq (tokenAddr d) 0 = true → s.chip.linkUp d = true → exec (.orderTokenRead rq d) s = .next (s.onChip fun c => c.setBus rq { c.busOf rq with order := some (d, (c.link d).total) })) ∧
  (∀ (rq : Req) (d : Fin 8) (n : Nat) (s : State), (s.chip.busOf rq).order = some (↑d, n) → n ≤ (s.chip.link d).landed → (s.chip.busOf rq).held = [] → exec (.orderTokenDone rq d) s = .next (s.onChip fun c => (c.setBus rq { c.busOf rq with order := none }).answer rq (tokenAddr d) (c.rd (tokenAddr d)))) ∧
  (∀ (rq : Req) (a : Word) (s : State), dieOf a.toNat ≠ 0 → s.chip.awake = true → s.chip.linkUp (dieOf a.toNat) = true → (s.chip.link (dieOf a.toNat)).sent = [] → s.chip.stalled rq = false → ∃ c', exec (.accessTimeout rq false a) s = .next { s with chip := c' } ∧ c'.respOf rq = ⟨a.toNat, 0, 4⟩ ∧ c'.rd R.SYS_BUSFAULT_ADDR = a ∧ Only [Blk.sys, Blk.evr] s.chip c') ∧
  (∀ (rq : Req) (a : Nat) (x : Word) (s : State), (s.chip.busOf rq).held = [.write a x] → isAlias a = false → dieOf a ≠ 0 → (s.chip.setBus rq { s.chip.busOf rq with held := [] }).stalled rq = false → s.chip.awake = true → s.chip.outstanding rq < 8 → s.chip.linkUp (dieOf a) = true → exec (.postedWriteSlotFree rq) s = .next (s.onChip fun c => (c.setBus rq { c.busOf rq with held := [] }).post rq a x)) ∧
  (∀ (b : Fin 19) (s : State), s.chip.awake = true → s.chip.flag (R.SYS_BLK_POWER b) F.SYS_BLK_POWER_GATE_EN = true → s.chip.fget (R.SYS_BLK_POWER b) F.SYS_BLK_POWER_STATE = 0 → s.chip.blockBusy b = false → exec (.blockIdleGate b) s = .next (s.onChip fun c => c.fset (R.SYS_BLK_POWER b) F.SYS_BLK_POWER_STATE 1))

/-- For a requester whose access takes effect at once (the module powered, the requester not held, its PMP or the host port admitting it). ALIAS_READ of a word by a requester that is no core, of bit 0 of a core's software interrupt register: it answers the bit; registers keep their values (R35, R37). ALIAS_WRITE of a word there by the supervisor, the SYS lock group open: MSIP is bit 0 of the written word, and every other register is as before (R36, R38). COUNTER64_LOW_READ of MTIME answers the low half and latches the high half for the requester; registers keep their values (R53). COUNTER64_HIGH_READ answers the latched word; registers keep their values (R53). COUNTER64_HIGH_WRITE, the SYS lock group open, stages the word; the counter and the registers keep their values (R54). COUNTER64_LOW_WRITE, the group open, writes the staged high half and the word, and nothing is staged (R54). -/
def Obligations.AliasesAndWideCounters : Prop :=
  (∀ (rq : Req) (u : Bool) (c : Fin 4) (s : State), 4 ≤ rq.code → s.chip.atOnce rq (0x60000000 + (R.SYS_MSIP c - 0x40000000) * 32) 0 = true → ∃ c', exec (.aliasRead rq u .word (.ofNat 32 (0x60000000 + (R.SYS_MSIP c - 0x40000000) * 32))) s = .next { s with chip := c' } ∧ c'.respOf rq = ⟨0x60000000 + (R.SYS_MSIP c - 0x40000000) * 32, s.chip.rd (R.SYS_MSIP c) &&& 1, 0⟩ ∧ Only [] s.chip c') ∧
  (∀ (u : Bool) (c : Fin 4) (data : Word) (s : State), s.chip.awake = true → s.chip.stalled .sup = false → s.chip.flag R.SYS_LOCK F.SYS_LOCK_LOCK = false → ∃ c', exec (.aliasWrite .sup u .word (.ofNat 32 (0x60000000 + (R.SYS_MSIP c - 0x40000000) * 32)) data) s = .next { s with chip := c' } ∧ c'.fget (R.SYS_MSIP c) F.SYS_MSIP_MSIP = data.toNat % 2 ∧ (∀ a, a ≠ R.SYS_MSIP c → c'.rd a = s.chip.rd a)) ∧
  (∀ (rq : Req) (s : State), s.chip.atOnce rq R.SYS_MTIME_LO 0 = true → ∃ c', exec (.counter64LowRead rq .mtime) s = .next { s with chip := c' } ∧ c'.respOf rq = ⟨R.SYS_MTIME_LO, (s.chip.ctr64 R.SYS_MTIME_LO).setWidth 32, 0⟩ ∧ c'.latchOf R.SYS_MTIME_LO rq = (s.chip.ctr64 R.SYS_MTIME_LO >>> 32).setWidth 32 ∧ Only [] s.chip c') ∧
  (∀ (rq : Req) (s : State), s.chip.atOnce rq R.SYS_MTIME_HI 0 = true → ∃ c', exec (.counter64HighRead rq .mtime) s = .next { s with chip := c' } ∧ c'.respOf rq = ⟨R.SYS_MTIME_HI, s.chip.latchOf R.SYS_MTIME_LO rq, 0⟩ ∧ Only [] s.chip c') ∧
  (∀ (rq : Req) (data : Word) (s : State), s.chip.atOnce rq R.SYS_MTIME_HI 1 = true → s.chip.flag R.SYS_LOCK F.SYS_LOCK_LOCK = false → ∃ c', exec (.counter64HighWrite rq .mtime data) s = .next { s with chip := c' } ∧ c'.staged R.SYS_MTIME_LO = data ∧ c'.ctr64 R.SYS_MTIME_LO = s.chip.ctr64 R.SYS_MTIME_LO ∧ Only [] s.chip c') ∧
  (∀ (rq : Req) (data : Word) (s : State), s.chip.atOnce rq R.SYS_MTIME_LO 1 = true → s.chip.flag R.SYS_LOCK F.SYS_LOCK_LOCK = false → ∃ c', exec (.counter64LowWrite rq .mtime data) s = .next { s with chip := c' } ∧ c'.ctr64 R.SYS_MTIME_LO = s.chip.staged R.SYS_MTIME_LO ++ data ∧ c'.staged R.SYS_MTIME_LO = 0 ∧ Only [] s.chip c')

/-- Registers outside those named keep their values where the Lean says Only. CH_CMD_APPLY by the owner of a channel that is no odd member and not LATCHED_OFF, DISABLED, HELD or LIMP: the shadow words, the command's duty among them, become the pending set; nothing outside the power die changes (R84, R91). CH_CMD_REARM by the owner of a LATCHED_OFF channel whose cooling condition is met: it is in OFF, with CAUSE and RETRY_NUM 0 (R141). PWR_COMMIT_GO by the supervisor: COMMIT_CNT counts and every masked channel that is not skipped has its shadow words as its pending set; nothing outside the die changes (R91, R95). COMMIT_TICK: of every channel whose boundary it is, that waits for no disable and no grant, no set is pending, and the active configuration and mode are the captured ones (R90). PWM_PERIOD_START of a channel in PWM with nothing pending, owed or stretched, no disable and no REVERSE: the period has the on-time of R80 and R83 and is counted; only the channel's registers change. PWR_PAIR_WRITE by the supervisor: a pair bit that is not fixed, both of whose members are free, follows the written one; nothing outside the die changes (R73). CH_OWNER_WRITE by the supervisor, of a code up to 5, for a channel neither sealed nor the START_ENABLE one: the code owns it and CH_CMD is the active word again; nothing outside the die changes (R86, R88). A sealed channel keeps its owner (R86). -/
def Obligations.ChannelCommandsCommitsAndOwners : Prop :=
  (∀ (rq : Req) (ch : Fin 192) (data : Word) (s : State), s.chip.direct rq (R.CH_CMD ch) = true → s.chip.oddMember ch = false → s.chip.ownerOf ch = rq.code → s.chip.chState ch ∉ [ChState.latchedOff, .disabled, .held, .limp] → ∃ c', exec (.chCmdApply rq ch data) s = .next { s with chip := c' } ∧ (c'.chan ch).pend = some ⟨c'.rd (R.CH_CMD ch), s.chip.rd (R.CH_PWM ch), s.chip.rd (R.CH_CFG ch)⟩ ∧ c'.fget (R.CH_CMD ch) F.CH_CMD_DUTY = F.CH_CMD_DUTY.get data ∧ Only [Blk.pwr (pdie ch)] s.chip c') ∧
  (∀ (rq : Req) (ch : Fin 192) (data : Word) (s : State), s.chip.direct rq (R.CH_CMD ch) = true → s.chip.oddMember ch = false → s.chip.ownerOf ch = rq.code → s.chip.chState ch = .latchedOff → s.chip.cooled ch = true → ∃ c', exec (.chCmdRearm rq ch data) s = .next { s with chip := c' } ∧ c'.chState ch = .off ∧ c'.fget (R.CH_STATUS ch) F.CH_STATUS_CAUSE = 0 ∧ c'.fget (R.CH_PROT_STATUS ch) F.CH_PROT_STATUS_RETRY_NUM = 0) ∧
  (∀ (n : Fin 4) (data : Word) (s : State), s.chip.direct .sup (R.PWR_COMMIT n) = true → ∃ c', exec (.pwrCommitGo .sup n data) s = .next { s with chip := c' } ∧ c'.rd (R.PWR_COMMIT_CNT n) = s.chip.rd (R.PWR_COMMIT_CNT n) + 1 ∧ (∀ l < 48, s.chip.commitMask n l = true → s.chip.commitSkips (48 * n + l) = false → (c'.chan (48 * n + l)).pend = some ⟨s.chip.rd (R.CH_CMD (48 * n + l)), s.chip.rd (R.CH_PWM (48 * n + l)), s.chip.rd (R.CH_CFG (48 * n + l))⟩) ∧ Only [Blk.pwr n] s.chip c') ∧
  (∀ (n : Fin 4) (s : State), ∃ c', exec (.commitTick n) s = .next { s with chip := c' } ∧ (∀ l < 48, s.chip.tickDue (48 * n + l) = true → s.chip.disableDue (48 * n + l) = false → s.chip.pendingGrant (48 * n + l) = false → (c'.chan (48 * n + l)).pend = none ∧ ((s.chip.chan (48 * n + l)).pend.all fun x => c'.rd (R.CH_ACTIVE_CFG (48 * n + l)) == x.cfg && c'.activeMode (48 * n + l) == F.CH_CMD_MODE.get x.cmd) = true)) ∧
  (∀ (ch : Fin 192) (s : State), s.chip.inPwm ch = true → s.chip.disableDue ch = false → s.chip.flag (R.CH_PROT_STATUS ch) F.CH_PROT_STATUS_REVERSE = false → (s.chip.chan ch).pend = none → (s.chip.chan ch).owed = 0 → s.chip.stretchDue ch = false → (s.chip.die (pdie ch)).reqs = [] → ∃ c', exec (.pwmPeriodStart ch) s = .next { s with chip := c' } ∧ (c'.chan ch).onTicks = s.chip.onTime ch ∧ (c'.chan ch).periods = (s.chip.chan ch).periods + 1 ∧ Only [Blk.chan ch] s.chip c') ∧
  (∀ (n : Fin 4) (data : Word) (p : Nat) (s : State), p < 24 → s.chip.direct .sup (R.PWR_PAIR n) = true → s.chip.pairFixed n p = false → s.chip.pairFree (48 * n + 2 * p) = true ∧ s.chip.pairFree (48 * n + 2 * p + 1) = true → ∃ c', exec (.pwrPairWrite .sup n data) s = .next { s with chip := c' } ∧ c'.paired (48 * n + 2 * p) = data.toNat.testBit p ∧ Only [Blk.pwr n] s.chip c') ∧
  (∀ (ch : Fin 192) (data : Word) (s : State), s.chip.direct .sup (R.CH_OWNER ch) = true → isSealed ch = false → s.chip.isStartEnable ch = false → F.CH_OWNER_OWNER.get data ≤ 5 → ∃ c', exec (.chOwnerWrite .sup ch data) s = .next { s with chip := c' } ∧ c'.ownerOf ch = F.CH_OWNER_OWNER.get data ∧ c'.rd (R.CH_CMD ch) = s.chip.rd (R.CH_ACTIVE_CMD ch) ∧ Only [Blk.pwr (pdie ch)] s.chip c') ∧
  (∀ (ch : Fin 192) (data : Word) (s : State), s.chip.direct .sup (R.CH_OWNER ch) = true → isSealed ch = true → ∃ c', exec (.chOwnerWrite .sup ch data) s = .next { s with chip := c' } ∧ c'.ownerOf ch = s.chip.ownerOf ch)

/-- SCHED_REEXAMINE while no freeze holds grants, of one request of a channel that it stands for, exactly what fits: the channel is STARTING and waits no more where its booking fits the budget; else nothing changes (R109, R110). With no request it changes nothing. DEFER_CAP_EXPIRE of the one waiting start: the channel is STARTING, no request waits, and the cap grants of the channel and of the die are counted (R112). PROFILE_SEGMENT_END of the last segment of a starting channel that is not in LIMP and has no REVERSE: its state is that of its active mode and no segment is left; only the channel's registers change (R99, R102). IS_BUDGET_WRITE by the supervisor with no request waiting stores the budget; nothing outside the die changes (R116). IS_ENABLE_WRITE by the supervisor with one start waiting: ENABLE reads 0, no request waits and the channel is STARTING (R116). IS_DEFER_MAX_WRITE by the supervisor with no request waiting stores DEFER_MAX; nothing outside the die changes (R116). CURRENT_AT_CEILING of a channel in ON or PWM whose current reaches the ceiling in force: it is LIMITING (R99, R121). CURRENT_BELOW_CEILING of a channel in LIMITING: it is in the state of the mode it drives in (R99). -/
def Obligations.SchedulerRowsDo : Prop :=
  (∀ (n : Fin 4) (r : StartReq) (s : State), (s.chip.die n).reqs = [r] → r.pulse = false ∧ r.ch < 192 ∧ pdie r.ch = n ∧ s.chip.inHold r.ch = false → s.chip.flag (R.IS_STATUS n) F.IS_STATUS_FROZEN = false → ∃ c', exec (.schedReexamine n) s = .next { s with chip := c' } ∧ (s.chip.booked n + s.chip.wouldBook r.ch ≤ 100 * s.chip.fget (R.IS_BUDGET n) F.IS_BUDGET_BUDGET → c'.chState r.ch = .starting ∧ (c'.die n).reqs = []) ∧ (¬ s.chip.booked n + s.chip.wouldBook r.ch ≤ 100 * s.chip.fget (R.IS_BUDGET n) F.IS_BUDGET_BUDGET → c' = s.chip)) ∧
  (∀ (n : Fin 4) (s : State), (s.chip.die n).reqs = [] → exec (.schedReexamine n) s = .next s) ∧
  (∀ (ch : Fin 192) (r : StartReq) (s : State), (s.chip.die (pdie ch)).reqs = [r] → r.ch = ch ∧ r.pulse = false → s.chip.inHold ch = false → ∃ c', exec (.deferCapExpire ch) s = .next { s with chip := c' } ∧ c'.chState ch = .starting ∧ (c'.die (pdie ch)).reqs = [] ∧ c'.rd (R.CH_CAPGRANT_CNT ch) = .ofNat 32 (min 0xFFFFFFFF ((s.chip.rd (R.CH_CAPGRANT_CNT ch)).toNat + 1)) ∧ c'.rd (R.IS_CAPGRANT_CNT (pdie ch)) = .ofNat 32 (min 0xFFFFFFFF ((s.chip.rd (R.IS_CAPGRANT_CNT (pdie ch))).toNat + 1))) ∧
  (∀ (ch : Fin 192) (x : Nat × Nat) (s : State), s.chip.chRun ch = .starting → s.chip.chState ch ≠ .limp → s.chip.flag (R.CH_PROT_STATUS ch) F.CH_PROT_STATUS_REVERSE = false → (s.chip.chan ch).segs = [x] → (s.chip.die (pdie ch)).reqs = [] → ∃ c', exec (.profileSegmentEnd ch) s = .next { s with chip := c' } ∧ c'.chRun ch = modeState (s.chip.activeMode ch) ∧ (c'.chan ch).segs = [] ∧ Only [Blk.chan ch] s.chip c') ∧
  (∀ (n : Fin 4) (data : Word) (s : State), s.chip.direct .sup (R.IS_BUDGET n) = true → (s.chip.die n).reqs = [] → ∃ c', exec (.isBudgetWrite .sup n data) s = .next { s with chip := c' } ∧ c'.fget (R.IS_BUDGET n) F.IS_BUDGET_BUDGET = F.IS_BUDGET_BUDGET.get data ∧ Only [Blk.pwr n] s.chip c') ∧
  (∀ (n : Fin 4) (data : Word) (r : StartReq) (s : State), s.chip.direct .sup (R.IS_CTRL n) = true → (s.chip.die n).reqs = [r] → r.pulse = false ∧ r.prio < 4 ∧ r.ch < 192 ∧ pdie r.ch = n → ∃ c', exec (.isEnableWrite .sup n data) s = .next { s with chip := c' } ∧ c'.flag (R.IS_CTRL n) F.IS_CTRL_ENABLE = false ∧ (c'.die n).reqs = [] ∧ c'.chRun r.ch = .starting) ∧
  (∀ (n : Fin 4) (data : Word) (s : State), s.chip.direct .sup (R.IS_CTRL n) = true → (s.chip.die n).reqs = [] → ∃ c', exec (.isDeferMaxWrite .sup n data) s = .next { s with chip := c' } ∧ c'.fget (R.IS_CTRL n) F.IS_CTRL_DEFER_MAX = F.IS_CTRL_DEFER_MAX.get data ∧ Only [Blk.pwr n] s.chip c') ∧
  (∀ (ch : Fin 192) (ma : Nat) (s : State), (s.chip.chRun ch = .on ∨ s.chip.chRun ch = .pwm) → s.chip.ceilingNow ch ≤ 1000 * ma → ∃ c', exec (.currentAtCeiling ⟨ch, ma⟩) s = .next { s with chip := c' } ∧ c'.chRun ch = .limiting ∧ Only [Blk.chan ch] s.chip c') ∧
  (∀ (ch : Fin 192) (ma : Nat) (s : State), s.chip.chRun ch = .limiting → 1000 * ma < s.chip.ceilingNow ch → ∃ c', exec (.currentBelowCeiling ⟨ch, ma⟩) s = .next { s with chip := c' } ∧ c'.chRun ch = modeState (s.chip.runMode ch) ∧ Only [Blk.chan ch] s.chip c')

/-- From a state in which the bookings of a power die stay within its feed inrush budget, a re-examination of its requests ends in one in which they stay within it, and the budget is unchanged. -/
def Obligations.SchedulerKeepsTheBudget : Prop :=
  (∀ (n : Fin 4) (s t : State), s.chip.booked n ≤ 100 * s.chip.fget (R.IS_BUDGET n) F.IS_BUDGET_BUDGET → exec (.schedReexamine n) s = .next t → t.chip.booked n ≤ 100 * t.chip.fget (R.IS_BUDGET n) F.IS_BUDGET_BUDGET ∧ t.chip.rd (R.IS_BUDGET n) = s.chip.rd (R.IS_BUDGET n))

/-- Below, 'it trips with cause k' is Chip.trip (what a trip leaves is stated of O15); a pair's even member stands for the pair. HARD_SHORT_TRIP of a driven channel: it trips with cause 1 (R120). ENVELOPE_OVERCURRENT of a driven channel whose three samples all lie above the ceiling in force times ENV_FACTOR: it trips with cause 2 (R122). HELD_SHORT_TIMEOUT of a channel driven beyond STARTING: it trips with cause 1 (R123). LIMIT_TIME_EXPIRE in LIMITING with a LIMIT_TIME: it trips with cause 2 (R124). THERMAL_SHUTDOWN of a driven channel: TJ_WARN is set and it trips with cause 3 (R126). CLAMP_END whose energy stays within the allowance: CH_CLAMP holds both, and nothing else changes (R129, R130). One beyond it, unless the channel is DISABLED: CH_CLAMP holds both and it trips with cause 8 (R130). WIRE_MODEL_UPDATE of an undriven channel, no odd member: the level is the next one of R131 and WIRE_WARN shows whether it is at least 0.8; only the channel's registers change. A driven channel with WIRE_EN whose level reaches 1 trips with cause 11: CH_CAUSE_CNT counts that cause (R132). -/
def Obligations.TripCausesOfChannels : Prop :=
  (∀ (ch : Fin 192) (m : Sample) (s : State), (s.chip.leadRun ch).driven = true → exec (.hardShortTrip ch m) s = .next (s.onChip (·.trip ch 1 m))) ∧
  (∀ (ch : Fin 192) (m : EnvSample) (s : State), (s.chip.leadRun ch).driven = true → (∀ k : Fin 3, s.chip.ceilingNow (s.chip.lead ch) * (s.chip.chan (s.chip.lead ch)).env < 100000 * m.ma[k]) → exec (.envelopeOvercurrent ch m) s = .next (s.onChip (·.trip ch 2 m.toSample))) ∧
  (∀ (ch : Fin 192) (m : Sample) (s : State), (s.chip.leadRun ch).driven = true → s.chip.leadRun ch ≠ .starting → exec (.heldShortTimeout ch m) s = .next (s.onChip (·.trip ch 1 m))) ∧
  (∀ (ch : Fin 192) (m : Sample) (s : State), s.chip.leadRun ch = .limiting → s.chip.fget (R.CH_PROT_CFG (s.chip.lead ch)) F.CH_PROT_CFG_LIMIT_TIME ≠ 0 → exec (.limitTimeExpire ch m) s = .next (s.onChip (·.trip ch 2 m))) ∧
  (∀ (ch : Fin 192) (m : Sample) (s : State), (s.chip.leadRun ch).driven = true → exec (.thermalShutdown ch m) s = .next (s.onChip fun c => (c.fset (R.CH_PROT_STATUS ch) F.CH_PROT_STATUS_TJ_WARN 1).trip ch 3 m)) ∧
  (∀ (ch : Fin 192) (parts : List ClampPart) (tj : BitVec 8) (m : Sample) (s : State), clampEnergy parts ≤ s.chip.clampAllow ch ((tj.toNat : Int) - 50) → ∃ c', exec (.clampEnd ch parts tj m) s = .next { s with chip := c' } ∧ c'.fget (R.CH_CLAMP ch) F.CH_CLAMP_E_LAST = (fitted 0xFFFF (clampEnergy parts).floor) ∧ c'.fget (R.CH_CLAMP ch) F.CH_CLAMP_E_ALLOW = (s.chip.clampAllow ch ((tj.toNat : Int) - 50)).floor.toNat % 65536 ∧ (∀ a, a ≠ R.CH_CLAMP ch → c'.rd a = s.chip.rd a)) ∧
  (∀ (ch : Fin 192) (parts : List ClampPart) (tj : BitVec 8) (m : Sample) (s : State), s.chip.clampAllow ch ((tj.toNat : Int) - 50) < clampEnergy parts → s.chip.chState (s.chip.lead ch) ≠ .disabled → exec (.clampEnd ch parts tj m) s = .next (s.onChip fun c => (c.wr (R.CH_CLAMP ch) (F.CH_CLAMP_E_LAST.put (F.CH_CLAMP_E_ALLOW.of (c.clampAllow ch ((tj.toNat : Int) - 50)).floor.toNat) (fitted 0xFFFF (clampEnergy parts).floor))).trip ch 8 m)) ∧
  (∀ (ch : Fin 192) (y : SameCycle) (m : Measured) (s : State), s.chip.oddMember ch = false → (s.chip.chRun ch).driven = false → ∃ c', exec (.wireModelUpdate ch y m) s = .next { s with chip := c' } ∧ (c'.chan ch).level = nextLevel (s.chip.chan ch).level (s.chip.chan ch).msq (s.chip.fget (R.CH_WIRE_CFG ch) F.CH_WIRE_CFG_I_RATED) (s.chip.fget (R.CH_WIRE_CFG ch) F.CH_WIRE_CFG_TAU) ∧ c'.flag (R.CH_PROT_STATUS ch) F.CH_PROT_STATUS_WIRE_WARN = decide (4 / 5 ≤ (c'.chan ch).level) ∧ Only [Blk.chan ch] s.chip c') ∧
  (∀ (ch : Fin 192) (y : SameCycle) (m : Measured) (s : State), s.chip.oddMember ch = false → (s.chip.chRun ch).driven = true → s.chip.flag (R.CH_WIRE_CFG ch) F.CH_WIRE_CFG_WIRE_EN = true → y.also = [] → (1 : Rat) ≤ nextLevel (s.chip.chan ch).level (s.chip.chan ch).msq (s.chip.fget (R.CH_WIRE_CFG ch) F.CH_WIRE_CFG_I_RATED) (s.chip.fget (R.CH_WIRE_CFG ch) F.CH_WIRE_CFG_TAU) → ∃ c', exec (.wireModelUpdate ch y m) s = .next { s with chip := c' } ∧ c'.fget (R.CH_CAUSE_CNT ch 2) (byteFld 3) = min 255 (s.chip.fget (R.CH_CAUSE_CNT ch 2) (byteFld 3) + 1))

/-- A hard short, with no further cause in its cycle and no OFF applied in it, of an unpaired, unsealed channel in ON that is not the START_ENABLE channel, waits for no disable and on whose die no request waits. While fewer than RETRY_MAX retries are used it is in COOLDOWN with cause 1; the fault record names cause 1, the state ON and the current of the trip, and its sequence number has risen by one (R134, R136, R138). Else it is in LATCHED_OFF with cause 1, MODE is OFF in CH_CMD and CH_ACTIVE_CMD, and no set is pending (R96, R138, R141). -/
def Obligations.TripCoolsDownOrLatchesOff : Prop :=
  (∀ (ch : Fin 192) (m : Sample) (s : State), m.also = [] → m.boundary = false → s.chip.chState ch = .on → s.chip.paired ch = false → isSealed ch = false → s.chip.isStartEnable ch = false ∧ s.chip.seCh ≠ ch → s.chip.flag (R.CH_PROT_STATUS ch) F.CH_PROT_STATUS_DISABLE_PENDING = false → (s.chip.die (pdie ch)).reqs = [] → s.chip.fget (R.CH_PROT_STATUS ch) F.CH_PROT_STATUS_RETRY_NUM < s.chip.fget (R.CH_PROT_CFG ch) F.CH_PROT_CFG_RETRY_MAX → ∃ c', exec (.hardShortTrip ch m) s = .next { s with chip := c' } ∧ c'.chState ch = .cooldown ∧ c'.fget (R.CH_STATUS ch) F.CH_STATUS_CAUSE = 1 ∧ c'.fget (R.CH_FAULT_REC0 ch) F.CH_FAULT_REC0_CAUSE = 1 ∧ c'.fget (R.CH_FAULT_REC0 ch) F.CH_FAULT_REC0_SEQ = (s.chip.fget (R.CH_FAULT_REC0 ch) F.CH_FAULT_REC0_SEQ + 1) % 256 ∧ c'.fget (R.CH_FAULT_REC0 ch) F.CH_FAULT_REC0_PRIOR_STATE = 2 ∧ c'.fget (R.CH_FAULT_REC1 ch) F.CH_FAULT_REC1_I_TRIP = m.i.toNat) ∧
  (∀ (ch : Fin 192) (m : Sample) (s : State), m.also = [] → m.boundary = false → s.chip.chState ch = .on → s.chip.paired ch = false → isSealed ch = false → s.chip.isStartEnable ch = false ∧ s.chip.seCh ≠ ch → s.chip.flag (R.CH_PROT_STATUS ch) F.CH_PROT_STATUS_DISABLE_PENDING = false → (s.chip.die (pdie ch)).reqs = [] → s.chip.fget (R.CH_PROT_CFG ch) F.CH_PROT_CFG_RETRY_MAX ≤ s.chip.fget (R.CH_PROT_STATUS ch) F.CH_PROT_STATUS_RETRY_NUM → ∃ c', exec (.hardShortTrip ch m) s = .next { s with chip := c' } ∧ c'.chState ch = .latchedOff ∧ c'.fget (R.CH_STATUS ch) F.CH_STATUS_CAUSE = 1 ∧ c'.activeMode ch = 0 ∧ c'.fget (R.CH_CMD ch) F.CH_CMD_MODE = 0 ∧ (c'.chan ch).pend = none)

/-- BACKOFF_EXPIRE of a channel in COOLDOWN for a cause other than a feed one, with no waiting start: if the cooling condition is met, the start is requested (it is then STARTING, or waits for its grant) and COOLING reads 0 (R139). If it is not met, COOLING reads 1 and no start is requested. COOLING_CONDITION_MET after cause 3 of a channel that is no pair and not in COOLDOWN: TJ_WARN and COOLING read 0; every other register is as before (R127). RETRY_COUNT_CLEAR_TIMER in ON, PWM or LIMITING: RETRY_NUM reads 0; every other register is as before (R140). REVERSE_DETECT with REVERSE not set: it reads 1, and cause 7 is counted (R147). REVERSE_CLEAR: REVERSE reads 0; every other register is as before (R147). TJ_WARN_CHANGE: TJ_WARN shows the new state; every other register is as before (R126). FEED_SCALED_CHANGE: SCALED shows the new state; every other register is as before (R148). -/
def Obligations.RetriesReverseAndWarnings : Prop :=
  (∀ (ch : Fin 192) (s : State), s.chip.chState ch = .cooldown → s.chip.fget (R.CH_STATUS ch) F.CH_STATUS_CAUSE ≠ 9 ∧ s.chip.fget (R.CH_STATUS ch) F.CH_STATUS_CAUSE ≠ 10 → s.chip.pendingGrant ch = false → s.chip.cooled ch = true → (s.chip.die (pdie ch)).reqs = [] → ∃ c', exec (.backoffExpire ch) s = .next { s with chip := c' } ∧ (c'.chState ch = .starting ∨ c'.pendingGrant ch = true) ∧ c'.flag (R.CH_PROT_STATUS ch) F.CH_PROT_STATUS_COOLING = false) ∧
  (∀ (ch : Fin 192) (s : State), s.chip.chRun ch = .cooldown → s.chip.fget (R.CH_STATUS ch) F.CH_STATUS_CAUSE ≠ 9 ∧ s.chip.fget (R.CH_STATUS ch) F.CH_STATUS_CAUSE ≠ 10 → s.chip.pendingGrant ch = false → s.chip.cooled ch = false → ∃ c', exec (.backoffExpire ch) s = .next { s with chip := c' } ∧ c'.flag (R.CH_PROT_STATUS ch) F.CH_PROT_STATUS_COOLING = true ∧ (c'.die (pdie ch)).reqs = (s.chip.die (pdie ch)).reqs ∧ (∀ a, a ≠ R.CH_PROT_STATUS ch → c'.rd a = s.chip.rd a)) ∧
  (∀ (ch : Fin 192) (s : State), (s.chip.chan ch).lastTrip = 3 → s.chip.paired ch = false → s.chip.chRun ch ≠ .cooldown → ∃ c', exec (.coolingConditionMet ch) s = .next { s with chip := c' } ∧ c'.flag (R.CH_PROT_STATUS ch) F.CH_PROT_STATUS_TJ_WARN = false ∧ c'.flag (R.CH_PROT_STATUS ch) F.CH_PROT_STATUS_COOLING = false ∧ (∀ a, a ≠ R.CH_PROT_STATUS ch → c'.rd a = s.chip.rd a)) ∧
  (∀ (ch : Fin 192) (s : State), s.chip.chRun ch ∈ [ChState.on, .pwm, .limiting] → ∃ c', exec (.retryCountClearTimer ch) s = .next { s with chip := c' } ∧ c'.fget (R.CH_PROT_STATUS ch) F.CH_PROT_STATUS_RETRY_NUM = 0 ∧ (∀ a, a ≠ R.CH_PROT_STATUS ch → c'.rd a = s.chip.rd a)) ∧
  (∀ (ch : Fin 192) (s : State), s.chip.flag (R.CH_PROT_STATUS ch) F.CH_PROT_STATUS_REVERSE = false → ∃ c', exec (.reverseDetect ch) s = .next { s with chip := c' } ∧ c'.flag (R.CH_PROT_STATUS ch) F.CH_PROT_STATUS_REVERSE = true ∧ c'.fget (R.CH_CAUSE_CNT ch 1) (byteFld 3) = min 255 (s.chip.fget (R.CH_CAUSE_CNT ch 1) (byteFld 3) + 1)) ∧
  (∀ (ch : Fin 192) (s : State), ∃ c', exec (.reverseClear ch) s = .next { s with chip := c' } ∧ c'.flag (R.CH_PROT_STATUS ch) F.CH_PROT_STATUS_REVERSE = false ∧ (∀ a, a ≠ R.CH_PROT_STATUS ch → c'.rd a = s.chip.rd a)) ∧
  (∀ (ch : Fin 192) (on : Bool) (s : State), ∃ c', exec (.tjWarnChange ch on) s = .next { s with chip := c' } ∧ c'.flag (R.CH_PROT_STATUS ch) F.CH_PROT_STATUS_TJ_WARN = on ∧ (∀ a, a ≠ R.CH_PROT_STATUS ch → c'.rd a = s.chip.rd a)) ∧
  (∀ (n : Fin 4) (below : Bool) (s : State), ∃ c', exec (.feedScaledChange n below) s = .next { s with chip := c' } ∧ c'.flag (R.PWR_PROT_STATUS n) F.PWR_PROT_STATUS_SCALED = below ∧ (∀ a, a ≠ R.PWR_PROT_STATUS n → c'.rd a = s.chip.rd a))

/-- FEED_UNDERVOLTAGE: UV reads 1 and, where no request waited, no leading channel of the die is driven (R149). FEED_UV_RECOVERY: UV reads 0 (R149). FEED_OVERVOLTAGE: OV reads 1 (R150). FEED_OV_RECOVERY: OV reads 0 (R150). FEED_DIP_DETECT outside a freeze, of samples whose mean lies more than 3 V below the 10 ms average: FROZEN reads 1 in IS_STATUS and PWR_PROT_STATUS and DIP_CNT counts; no other register changes (R143). FEED_FREEZE_END: both read 0 (R143). CH_DISABLE_SET by the supervisor of an unsealed channel in OFF, COOLDOWN or LATCHED_OFF, no request waiting on its die: it is DISABLED and no set is pending (R153). A graceful one of a driven channel: DISABLE_PENDING reads 1 and its state stays (R153). CH_ENABLE by the supervisor of an unsealed DISABLED channel: it is in OFF (R154). PWR_HOLD_TIME_EXPIRE on a lost link: no leading channel of the die is HELD (R157). DIE_LOCAL_RESET of a power die: its link is down and lost (R160, R161, R405). MODULE_SUPPLY_LOSS: every link is down, the cores are in reset and the queue of commands stays. -/
def Obligations.FeedsDisablesHoldingAndResets : Prop :=
  (∀ (n : Fin 4) (ms : List Sample) (s : State), (s.chip.die n).reqs = [] → (∀ x ∈ ms, x.boundary = false ∧ x.also = []) → ∃ c', exec (.feedUndervoltage n ms) s = .next { s with chip := c' } ∧ c'.flag (R.PWR_PROT_STATUS n) F.PWR_PROT_STATUS_UV = true ∧ (∀ l < 48, s.chip.oddMember (48 * n + l) = false → (c'.chRun (48 * n + l)).driven = false)) ∧
  (∀ (n : Fin 4) (s : State), ∃ c', exec (.feedUvRecovery n) s = .next { s with chip := c' } ∧ c'.flag (R.PWR_PROT_STATUS n) F.PWR_PROT_STATUS_UV = false) ∧
  (∀ (n : Fin 4) (ms : List Sample) (s : State), ∃ c', exec (.feedOvervoltage n ms) s = .next { s with chip := c' } ∧ c'.flag (R.PWR_PROT_STATUS n) F.PWR_PROT_STATUS_OV = true) ∧
  (∀ (n : Fin 4) (s : State), ∃ c', exec (.feedOvRecovery n) s = .next { s with chip := c' } ∧ c'.flag (R.PWR_PROT_STATUS n) F.PWR_PROT_STATUS_OV = false) ∧
  (∀ (n : Fin 4) (feed : List Nat) (s : State), s.chip.flag (R.IS_STATUS n) F.IS_STATUS_FROZEN = false → feed.sum + 3000 < 10 * s.chip.fget (R.PWR_FEED_AVG n) F.PWR_FEED_AVG_AVG10 → ∃ c', exec (.feedDipDetect ⟨n, feed⟩) s = .next { s with chip := c' } ∧ c'.flag (R.IS_STATUS n) F.IS_STATUS_FROZEN = true ∧ c'.flag (R.PWR_PROT_STATUS n) F.PWR_PROT_STATUS_FROZEN = true ∧ c'.rd (R.PWR_DIP_CNT n) = .ofNat 32 (min 0xFFFFFFFF ((s.chip.rd (R.PWR_DIP_CNT n)).toNat + 1)) ∧ (∀ a, a ≠ R.IS_STATUS n → a ≠ R.PWR_PROT_STATUS n → a ≠ R.PWR_DIP_CNT n → c'.rd a = s.chip.rd a)) ∧
  (∀ (n : Fin 4) (s : State), ∃ c', exec (.feedFreezeEnd n) s = .next { s with chip := c' } ∧ c'.flag (R.IS_STATUS n) F.IS_STATUS_FROZEN = false ∧ c'.flag (R.PWR_PROT_STATUS n) F.PWR_PROT_STATUS_FROZEN = false) ∧
  (∀ (ch : Fin 192) (force : Bool) (s : State), s.chip.direct .sup (R.CH_DISABLE ch) = true → isSealed ch = false → s.chip.chState ch ∈ [ChState.off, .cooldown, .latchedOff] → (s.chip.die (pdie ch)).reqs = [] → ∃ c', exec (.chDisableSet .sup ch force) s = .next { s with chip := c' } ∧ c'.chState ch = .disabled ∧ (c'.chan ch).pend = none) ∧
  (∀ (ch : Fin 192) (s : State), s.chip.direct .sup (R.CH_DISABLE ch) = true → isSealed ch = false → (s.chip.chState ch).driven = true → ∃ c', exec (.chDisableSet .sup ch false) s = .next { s with chip := c' } ∧ c'.flag (R.CH_PROT_STATUS ch) F.CH_PROT_STATUS_DISABLE_PENDING = true ∧ c'.chState ch = s.chip.chState ch) ∧
  (∀ (ch : Fin 192) (s : State), s.chip.direct .sup (R.CH_DISABLE ch) = true → isSealed ch = false → s.chip.chState ch = .disabled → ∃ c', exec (.chEnable .sup ch) s = .next { s with chip := c' } ∧ c'.chState ch = .off) ∧
  (∀ (n : Fin 4) (s : State), (s.chip.link (n + 2)).lost = true → ∃ c', exec (.pwrHoldTimeExpire n) s = .next { s with chip := c' } ∧ (∀ l < 48, s.chip.oddMember (48 * n + l) = false → c'.chState (48 * n + l) ≠ .held)) ∧
  (∀ (d : Fin 8) (s : State), 2 ≤ d.toNat ∧ d.toNat ≤ 5 → ∃ c', exec (.dieLocalReset d) s = .next { s with chip := c' } ∧ c'.linkUp d = false ∧ (c'.link d).lost = true) ∧
  (∀ (s : State), ∃ t, exec (.moduleSupplyLoss) s = .next t ∧ (∀ d, 1 ≤ d → d < 8 → t.chip.linkUp d = false) ∧ (∀ k, k < 4 → (t.chip.core k).inReset = true) ∧ t.pending = s.pending)

/-- MEAS_WINDOW_END with feed samples, no identification running on the die: AVG1 is their mean, and every channel's sequence number rises by one; nothing outside the power die changes (R167, R194). LID_UNSETTLED_TIMEOUT of a running identification: its type is GENERIC with confidence 0, ARM reads 0 and it is over (R186). STREAM_PACKET_COMPLETE with the link down: the packet is counted as dropped and its number advances; nothing outside the die changes (R172). With the link up and room in the queue: the packet of R172 stands at the end of the queue and its number advances. STREAM_CTRL_WRITE by the supervisor while no packet is filled: ACTIVE shows EN and the decimation is the written one; nothing outside the die changes (R173). -/
def Obligations.MeasurementWindowsAndStreams : Prop :=
  (∀ (n : Fin 4) (ws : List ChanWin) (feed : List Nat) (early : List (Nat × List EarlySample)) (vlv : List (BitVec 16 × BitVec 16)) (s : State), feed.length ≠ 0 → (∀ l < 48, (s.chip.chan (48 * n + l)).lid = none) → ∃ c', exec (.measWindowEnd n ws feed early vlv) s = .next { s with chip := c' } ∧ c'.fget (R.PWR_FEED_AVG n) F.PWR_FEED_AVG_AVG1 = feed.sum / feed.length % 65536 ∧ (∀ l < 48, c'.fget (R.CH_MEAS_SEQ (48 * n + l)) F.CH_MEAS_SEQ_SEQ = (s.chip.fget (R.CH_MEAS_SEQ (48 * n + l)) F.CH_MEAS_SEQ_SEQ + 1) % 65536) ∧ Only [Blk.pwr n] s.chip c') ∧
  (∀ (ch : Fin 192) (x : LidRun) (s : State), (s.chip.chan ch).lid = some x → ∃ c', exec (.lidUnsettledTimeout ch) s = .next { s with chip := c' } ∧ c'.fget (R.CH_LID_RESULT ch) F.CH_LID_RESULT_TYPE = 6 ∧ c'.fget (R.CH_LID_RESULT ch) F.CH_LID_RESULT_CONF = 0 ∧ c'.flag (R.CH_LID_CTRL ch) F.CH_LID_CTRL_ARM = false ∧ (c'.chan ch).lid = none) ∧
  (∀ (n : Fin 4) (samples : List RawSample) (odd : List (BitVec 14)) (s : State), s.chip.flag (R.PWR_STREAM_STATUS n) F.PWR_STREAM_STATUS_ACTIVE = true → s.chip.linkUp (n + 2) = false → ∃ c', exec (.streamPacketComplete n samples odd) s = .next { s with chip := c' } ∧ c'.rd (R.PWR_STREAM_DROP_CNT n) = .ofNat 32 (min 0xFFFFFFFF ((s.chip.rd (R.PWR_STREAM_DROP_CNT n)).toNat + 1)) ∧ c'.fget (R.PWR_STREAM_STATUS n) F.PWR_STREAM_STATUS_SEQ = (s.chip.fget (R.PWR_STREAM_STATUS n) F.PWR_STREAM_STATUS_SEQ + 1) % 65536 ∧ Only [Blk.pwr n] s.chip c') ∧
  (∀ (n : Fin 4) (samples : List RawSample) (odd : List (BitVec 14)) (s : State), s.chip.flag (R.PWR_STREAM_STATUS n) F.PWR_STREAM_STATUS_ACTIVE = true → s.chip.linkUp (n + 2) = true → 130 ≤ s.chip.qFree (24 + n) → ∃ c', exec (.streamPacketComplete n samples odd) s = .next { s with chip := c' } ∧ (c'.queue (24 + n)).fill = (s.chip.queue (24 + n)).fill ++ packetWords (s.chip.streamPacket n samples odd) ∧ c'.fget (R.PWR_STREAM_STATUS n) F.PWR_STREAM_STATUS_SEQ = (s.chip.fget (R.PWR_STREAM_STATUS n) F.PWR_STREAM_STATUS_SEQ + 1) % 65536) ∧
  (∀ (n : Fin 4) (data : Word) (s : State), s.chip.direct .sup (R.PWR_STREAM_CTRL n) = true → s.chip.flag (R.PWR_STREAM_STATUS n) F.PWR_STREAM_STATUS_ACTIVE = false → ∃ c', exec (.streamCtrlWrite .sup n data) s = .next { s with chip := c' } ∧ c'.flag (R.PWR_STREAM_STATUS n) F.PWR_STREAM_STATUS_ACTIVE = (F.PWR_STREAM_CTRL_EN.get data == 1) ∧ (c'.die n).decim = F.PWR_STREAM_CTRL_DECIM.get data ∧ Only [Blk.pwr n] s.chip c')

/-- ON_STATE_WINDOW_END in PWM below the threshold: one more candidate, UNCONFIRMED at the confirming count; only the channel's registers change (R174, R175). At or above it: no candidate and neither UNCONFIRMED nor OPEN_ON. OFF_DIAG_CYCLE_START where a cycle is allowed and the clamp has ended: the pull-down phase runs; no register changes (R176). PULL_DOWN_PHASE_END with the output above half of the feed and OFF_EN: SHORT_SUPPLY reads 1 and no open candidate is left (R144). Below it, with UNCONFIRMED: OPEN_ON reads 1, SHORT_SUPPLY 0 (R145, R175). PULL_UP_PHASE_END of a cycle with no SHORT_SUPPLY and a reading not above the threshold: VOFF is the reading, OPEN_OFF reads 0 and the cycle is over; only the channel's registers change (R177). XC_PULSE_END of a granted pulse: HIT0 holds the watched channels that rose, STATUS reads 2 and no test runs (R181). XC_GO by the supervisor that is refused: STATUS reads 4; nothing outside the die changes (R180). One accepted in a freeze, deferrable, no request waiting: STATUS reads 1, the test waits and HIT0 is 0 (R180). TDR_GO by the supervisor, without STOP, of a run not refused, no identification running: STATUS reads 1 (R187). TDR_STOP by the supervisor, without GO, of a run: STATUS reads 3 (R190). TDR_RESUME of a paused run with at most two identifications: STATUS reads 1 (R166). TDR_RUN_COMPLETE of a run: STATUS reads 2 and STEP 4095 (R191). -/
def Obligations.LoadDiagnosisRows : Prop :=
  (∀ (ch : Fin 192) (samples : List Int) (s : State), s.chip.onWindow ch = true → s.chip.chRun ch = .pwm → samples.sum < s.chip.onThr ch * samples.length → ∃ c', exec (.onStateWindowEnd ch samples) s = .next { s with chip := c' } ∧ (c'.chan ch).onCand = (s.chip.chan ch).onCand + 1 ∧ (s.chip.fget (R.CH_OL_CFG ch) F.CH_OL_CFG_ON_CONFIRM ≤ (s.chip.chan ch).onCand + 1 → c'.unconfirmed ch = true) ∧ Only [Blk.chan ch] s.chip c') ∧
  (∀ (ch : Fin 192) (samples : List Int) (s : State), s.chip.onWindow ch = true → s.chip.chRun ch = .pwm → s.chip.onThr ch * samples.length ≤ samples.sum → ∃ c', exec (.onStateWindowEnd ch samples) s = .next { s with chip := c' } ∧ (c'.chan ch).onCand = 0 ∧ c'.unconfirmed ch = false ∧ c'.flag (R.CH_OL_STATUS ch) F.CH_OL_STATUS_OPEN_ON = false ∧ Only [Blk.chan ch] s.chip c') ∧
  (∀ (ch : Fin 192) (s : State), s.chip.cycleAllowed ch = true → ∃ c', exec (.offDiagCycleStart ⟨ch, false⟩) s = .next { s with chip := c' } ∧ (c'.chan ch).cycle = 1 ∧ Only [] s.chip c') ∧
  (∀ (ch : Fin 192) (s : State), (s.chip.chan ch).cycle = 1 → s.chip.offEn ch = true → ∃ c', exec (.pullDownPhaseEnd ch true) s = .next { s with chip := c' } ∧ c'.flag (R.CH_PROT_STATUS ch) F.CH_PROT_STATUS_SHORT_SUPPLY = true ∧ (c'.chan ch).offOpen = 0) ∧
  (∀ (ch : Fin 192) (s : State), (s.chip.chan ch).cycle = 1 → s.chip.unconfirmed ch = true → ∃ c', exec (.pullDownPhaseEnd ch false) s = .next { s with chip := c' } ∧ c'.flag (R.CH_OL_STATUS ch) F.CH_OL_STATUS_OPEN_ON = true ∧ c'.flag (R.CH_PROT_STATUS ch) F.CH_PROT_STATUS_SHORT_SUPPLY = false) ∧
  (∀ (ch : Fin 192) (v vfeed : BitVec 16) (s : State), (s.chip.chan ch).cycle = 2 → s.chip.flag (R.CH_PROT_STATUS ch) F.CH_PROT_STATUS_SHORT_SUPPLY = false → (¬ (vfeed.toNat * offThr (s.chip.fget (R.CH_OL_CFG ch) F.CH_OL_CFG_OFF_THR) < 100 * v.toNat)) → ∃ c', exec (.pullUpPhaseEnd ch v vfeed) s = .next { s with chip := c' } ∧ c'.fget (R.CH_OL_STATUS ch) F.CH_OL_STATUS_VOFF = v.toNat ∧ c'.flag (R.CH_OL_STATUS ch) F.CH_OL_STATUS_OPEN_OFF = false ∧ (c'.chan ch).cycle = 0 ∧ (c'.chan ch).offOpen = 0 ∧ Only [Blk.chan ch] s.chip c') ∧
  (∀ (n : Fin 4) (rose : BitVec 48) (src : Nat) (s : State), (s.chip.die n).xc = some (src, true) → ∃ c', exec (.xcPulseEnd n rose) s = .next { s with chip := c' } ∧ c'.rd (R.PWR_XC_HIT0 n) = s.chip.rd (R.PWR_XC_WATCH0 n) &&& rose.setWidth 32 ∧ c'.fget (R.PWR_XC_STATUS n) F.PWR_XC_STATUS_STATUS = 2 ∧ (c'.die n).xc = none) ∧
  (∀ (n : Fin 4) (data : Word) (s : State), s.chip.direct .sup (R.PWR_XC_CTRL n) = true → s.chip.xcRefused n (F.PWR_XC_CTRL_SRC.get data) = true → ∃ c', exec (.xcGo .sup n data) s = .next { s with chip := c' } ∧ c'.fget (R.PWR_XC_STATUS n) F.PWR_XC_STATUS_STATUS = 4 ∧ Only [Blk.pwr n] s.chip c') ∧
  (∀ (n : Fin 4) (data : Word) (s : State), s.chip.direct .sup (R.PWR_XC_CTRL n) = true → s.chip.xcRefused n (F.PWR_XC_CTRL_SRC.get data) = false → (s.chip.die n).reqs = [] ∧ s.chip.flag (R.IS_STATUS n) F.IS_STATUS_FROZEN = true → s.chip.flag (R.IS_CTRL n) F.IS_CTRL_ENABLE = true ∧ s.chip.fget (R.IS_CTRL n) F.IS_CTRL_DEFER_MAX ≠ 0 → ∃ c', exec (.xcGo .sup n data) s = .next { s with chip := c' } ∧ c'.fget (R.PWR_XC_STATUS n) F.PWR_XC_STATUS_STATUS = 1 ∧ (c'.die n).xc = some (F.PWR_XC_CTRL_SRC.get data, false) ∧ c'.rd (R.PWR_XC_HIT0 n) = 0 ∧ Only [Blk.pwr n] s.chip c') ∧
  (∀ (n : Fin 4) (data : Word) (s : State), s.chip.direct .sup (R.PWR_TDR_CTRL n) = true → F.PWR_TDR_CTRL_STOP.get data = 0 → s.chip.tdrStatus n ≠ 1 ∧ s.chip.tdrStatus n ≠ 5 → s.chip.tdrRefused n (F.PWR_TDR_CTRL_SRC.get data) = false → s.chip.lidRunning n = 0 → ∃ c', exec (.tdrGo .sup n data) s = .next { s with chip := c' } ∧ c'.tdrStatus n = 1 ∧ Only [Blk.pwr n] s.chip c') ∧
  (∀ (n : Fin 4) (data : Word) (s : State), s.chip.direct .sup (R.PWR_TDR_CTRL n) = true → F.PWR_TDR_CTRL_GO.get data = 0 → (s.chip.tdrStatus n = 1 ∨ s.chip.tdrStatus n = 5) → ∃ c', exec (.tdrStop .sup n data) s = .next { s with chip := c' } ∧ c'.tdrStatus n = 3) ∧
  (∀ (n : Fin 4) (s : State), s.chip.tdrStatus n = 5 → s.chip.lidRunning n ≤ 2 → ∃ c', exec (.tdrResume n) s = .next { s with chip := c' } ∧ c'.tdrStatus n = 1 ∧ Only [Blk.pwr n] s.chip c') ∧
  (∀ (n : Fin 4) (found : List Reflection) (trace : List Word) (r : TdrRun) (s : State), s.chip.tdrStatus n = 1 → (s.chip.die n).tdr = some r → ∃ c', exec (.tdrRunComplete n found trace) s = .next { s with chip := c' } ∧ c'.tdrStatus n = 2 ∧ c'.fget (R.PWR_TDR_STATUS n) F.PWR_TDR_STATUS_STEP = 4095)

/-- CANT_MEAS_TERM by the supervisor, the step not asked for, with no termination measurement in progress: it waits for an idle bus and STATUS reads 1; only the sentinel's registers change (R192). CANT_MEAS_STEP likewise for the step. CANT_BUS_IDLE while the controller does not transmit: waiting and paused measurements run; no register changes (R192). CANT_MEAS_PAUSE: running measurements pause; no register changes (R193). CANT_MEAS_DONE of a running termination measurement: R_TERM is its value, STATUS reads 2, SEQ rises by one and it is over (R193). CANT_MEAS_TIMEOUT of one in progress: STATUS reads 3 and it is over (R193). LPLUS_STALE_TIMEOUT: STALE of the L+ rail reads 1; every other register is as before (R195). -/
def Obligations.CanBusHealthRows : Prop :=
  (∀ (n : Fin 6) (data : Word) (s : State), s.chip.direct .sup (R.SEN_CANT_HLTH_CTRL n) = true → F.SEN_CANT_HLTH_CTRL_MEAS_STEP.get data = 0 → (s.chip.cant n).term = 0 → ∃ c', exec (.cantMeasTerm .sup n data) s = .next { s with chip := c' } ∧ (c'.cant n).term = 1 ∧ c'.fget (cantReg n false) F.SEN_CANT_HLTH_TERM_STATUS = 1 ∧ Only [Blk.sen] s.chip c') ∧
  (∀ (n : Fin 6) (data : Word) (s : State), s.chip.direct .sup (R.SEN_CANT_HLTH_CTRL n) = true → F.SEN_CANT_HLTH_CTRL_MEAS_TERM.get data = 0 → (s.chip.cant n).step = 0 → ∃ c', exec (.cantMeasStep .sup n data) s = .next { s with chip := c' } ∧ (c'.cant n).step = 1 ∧ c'.fget (cantReg n true) F.SEN_CANT_HLTH_TERM_STATUS = 1 ∧ Only [Blk.sen] s.chip c') ∧
  (∀ (n : Fin 6) (s : State), (s.chip.can n).cur = none → ∃ c', exec (.cantBusIdle n) s = .next { s with chip := c' } ∧ c'.cant n = ⟨if (s.chip.cant n).term = 1 ∨ (s.chip.cant n).term = 3 then 2 else (s.chip.cant n).term, if (s.chip.cant n).step = 1 ∨ (s.chip.cant n).step = 3 then 2 else (s.chip.cant n).step⟩ ∧ Only [] s.chip c') ∧
  (∀ (n : Fin 6) (s : State), ∃ c', exec (.cantMeasPause n) s = .next { s with chip := c' } ∧ c'.cant n = ⟨if (s.chip.cant n).term = 2 then 3 else (s.chip.cant n).term, if (s.chip.cant n).step = 2 then 3 else (s.chip.cant n).step⟩ ∧ Only [] s.chip c') ∧
  (∀ (n : Fin 6) (ohm : BitVec 16) (found : Option Reflection) (s : State), (s.chip.cant n).term = 2 → ∃ c', exec (.cantMeasDone n false ohm found) s = .next { s with chip := c' } ∧ c'.fget (R.SEN_CANT_HLTH_TERM n) F.SEN_CANT_HLTH_TERM_R_TERM = ohm.toNat % 2 ^ F.SEN_CANT_HLTH_TERM_R_TERM.w ∧ c'.fget (R.SEN_CANT_HLTH_TERM n) F.SEN_CANT_HLTH_TERM_STATUS = 2 ∧ c'.fget (R.SEN_CANT_HLTH_TERM n) F.SEN_CANT_HLTH_TERM_SEQ = (s.chip.fget (R.SEN_CANT_HLTH_TERM n) F.SEN_CANT_HLTH_TERM_SEQ + 1) % 2 ^ F.SEN_CANT_HLTH_TERM_SEQ.w ∧ (c'.cant n).term = 0) ∧
  (∀ (n : Fin 6) (step : Bool) (s : State), (s.chip.cant n).phase step ≠ 0 → ∃ c', exec (.cantMeasTimeout n step) s = .next { s with chip := c' } ∧ c'.fget (cantReg n step) F.SEN_CANT_HLTH_TERM_STATUS = 3 ∧ (c'.cant n).phase step = 0) ∧
  (∀ (s : State), ∃ c', exec (.lplusStaleTimeout) s = .next { s with chip := c' } ∧ c'.flag (R.SEN_RAIL 3) F.SEN_RAIL_STALE = true ∧ (∀ a, a ≠ R.SEN_RAIL 3 → c'.rd a = s.chip.rd a))

/-- Only registers of the sentinel, the system block, the event router and the queues change where the Lean says so. LED_SUBPERIOD_BOUNDARY: every captured set is in force and none is pending; ILIM shows the converter's limit (R200). LS_THERMAL_SHUTDOWN of a sink that is on: it is in COOL with code 3 (R206). LS_THERMAL_RESTART of a COOL sink: it has left COOL (R206). LS_CTRL_APPLY by the supervisor, without REARM: the shadows and the written EN are captured (R200). LS_CTRL_REARM by the supervisor, without APPLY, of a FAULT sink: it is OFF with code 0 (R207). LED_COMMIT_GO by the supervisor: every masked sink's shadows are captured (R200). LED_HR_STOP of the running converter: it runs no more and the stop is counted (R205). LED_HR_RESTART while RESTARTING: it is over, and VSET is 12 V (R205), or VMAX below that. LED_HR_REARM by the supervisor of a latched converter: it is latched no more and its stops are forgotten (R205). -/
def Obligations.SinksAndHeadroomConverter : Prop :=
  (∀ (samples : List LedSample) (ilim : Bool) (s : State), ∃ c', exec (.ledSubperiodBoundary samples ilim) s = .next { s with chip := c' } ∧ (∀ x < 24, (c'.sink x).pend = none ∧ ((s.chip.sink x).pend.all fun p => (c'.sink x).act == p) = true) ∧ c'.flag R.LED_HR_STATUS F.LED_HR_STATUS_ILIM = ilim ∧ Only [Blk.sen, Blk.sys, Blk.evr, Blk.que] s.chip c') ∧
  (∀ (x : Fin 24) (s : State), s.chip.sinkRun x = .on → ∃ c', exec (.lsThermalShutdown x) s = .next { s with chip := c' } ∧ c'.sinkRun x = .cool ∧ c'.fget (R.LS_STATUS x) F.LS_STATUS_FAULT = 3 ∧ Only [Blk.sen, Blk.sys, Blk.evr, Blk.que] s.chip c') ∧
  (∀ (x : Fin 24) (s : State), s.chip.sinkRun x = .cool → ∃ c', exec (.lsThermalRestart x) s = .next { s with chip := c' } ∧ c'.sinkRun x ≠ .cool ∧ Only [Blk.sen, Blk.sys, Blk.evr] s.chip c') ∧
  (∀ (x : Fin 24) (data : Word) (s : State), s.chip.direct .sup (R.LS_CTRL x) = true → F.LS_CTRL_REARM.get data = 0 → ∃ c', exec (.lsCtrlApply .sup x data) s = .next { s with chip := c' } ∧ (c'.sink x).pend = some ⟨s.chip.rd (R.LS_ISET x), s.chip.rd (R.LS_DUTY x), s.chip.rd (R.LS_CFG x), F.LS_CTRL_EN.get data == 1⟩ ∧ Only [Blk.sen] s.chip c') ∧
  (∀ (x : Fin 24) (data : Word) (s : State), s.chip.direct .sup (R.LS_CTRL x) = true → F.LS_CTRL_APPLY.get data = 0 → s.chip.sinkRun x = .fault → ∃ c', exec (.lsCtrlRearm .sup x data) s = .next { s with chip := c' } ∧ c'.sinkRun x = .off ∧ c'.fget (R.LS_STATUS x) F.LS_STATUS_FAULT = 0 ∧ Only [Blk.sen] s.chip c') ∧
  (∀ (data : Word) (s : State), s.chip.direct .sup (R.LED_COMMIT) = true → ∃ c', exec (.ledCommitGo .sup data) s = .next { s with chip := c' } ∧ (∀ x < 24, (s.chip.fget R.LED_COMMIT_MASK F.LED_COMMIT_MASK_MASK).testBit x = true → (c'.sink x).pend = some ⟨s.chip.rd (R.LS_ISET x), s.chip.rd (R.LS_DUTY x), s.chip.rd (R.LS_CFG x), s.chip.flag (R.LS_CTRL x) F.LS_CTRL_EN⟩) ∧ Only [Blk.sen] s.chip c') ∧
  (∀ (s : State), s.chip.hrRuns = true → ∃ c', exec (.ledHrStop) s = .next { s with chip := c' } ∧ c'.hrRuns = false ∧ c'.rd R.LED_HR_RESTART_CNT = .ofNat 32 (min 0xFFFFFFFF ((s.chip.rd R.LED_HR_RESTART_CNT).toNat + 1)) ∧ Only [Blk.sen, Blk.sys, Blk.evr, Blk.que] s.chip c') ∧
  (∀ (s : State), s.chip.flag R.LED_HR_STATUS F.LED_HR_STATUS_RESTARTING = true → ∃ c', exec (.ledHrRestart) s = .next { s with chip := c' } ∧ c'.flag R.LED_HR_STATUS F.LED_HR_STATUS_RESTARTING = false ∧ c'.fget R.LED_HR_STATUS F.LED_HR_STATUS_VSET = 1200 ∧ Only [Blk.sen] s.chip c') ∧
  (∀ (data : Word) (s : State), s.chip.direct .sup (R.LED_HR_CTRL) = true → s.chip.flag R.LED_HR_STATUS F.LED_HR_STATUS_FAULT_LATCHED = true → ∃ c', exec (.ledHrRearm .sup data) s = .next { s with chip := c' } ∧ c'.flag R.LED_HR_STATUS F.LED_HR_STATUS_FAULT_LATCHED = false ∧ c'.hrStops = [] ∧ Only [Blk.sen] s.chip c')

/-- NTC_CONVERSION of a resistance out of range: FAULT reads 1 and TEMP stays (R211). DERATE_UPDATE of a group with an NTC moves F by at most 8; no other register changes (R212). Without an NTC it changes nothing. LF_MEMBER_CHANNEL_SYNC of a group without channels changes nothing (R213). Of a group with one channel that does not follow its output, on an up link, it is the supervisor's CH_CMD write of that mode with APPLY. LF_DISABLE by the supervisor of a group without channels: it is DISABLED with EN 0 (R216). PE_TICK outside a run and a fade changes nothing (R217). In a run at a step word of 0: the engine has ENDED (R217, R219). PE_CTRL_START by the supervisor, without STOP: STATUS RUNNING at the start step (R219). PE_CTRL_STOP by the supervisor of a running engine: STATUS STOPPED (R219). FLASH_ON_PHASE_START of an enabled flasher with its own timer: PHASE 1 (R222). FLASH_ON_PHASE_END in the on-phase: PHASE 0. FLASH_SYNC_RELAY of a waiting mark to a synchronised flasher on an up link: PHASE 1, the mark is gone (R223). FLASH_OUTAGE_RELAY on an up link: the sentinel holds OUTAGE as the flasher shows it (R223). LED_HOLD_TIME_EXPIRE on a lost link: no sink is HELD (R224). -/
def Obligations.GroupsEnginesAndFlashers : Prop :=
  (∀ (t : Fin 8) (ohm : Nat) (s : State), (ohm < 100 ∨ 1000000 < ohm) → ∃ c', exec (.ntcConversion t ohm) s = .next { s with chip := c' } ∧ c'.flag (R.NTC_TEMP t) F.NTC_TEMP_FAULT = true ∧ c'.fget (R.NTC_TEMP t) F.NTC_TEMP_TEMP = s.chip.fget (R.NTC_TEMP t) F.NTC_TEMP_TEMP ∧ Only [Blk.sen, Blk.sys, Blk.evr] s.chip c') ∧
  (∀ (g : Fin 12) (s : State), s.chip.fget (R.LF_CFG g) F.LF_CFG_NTC_SEL < 8 → ∃ c', exec (.derateUpdate g) s = .next { s with chip := c' } ∧ c'.fget (R.LF_STATUS g) F.LF_STATUS_F ≤ s.chip.fget (R.LF_STATUS g) F.LF_STATUS_F + 8 ∧ s.chip.fget (R.LF_STATUS g) F.LF_STATUS_F ≤ c'.fget (R.LF_STATUS g) F.LF_STATUS_F + 8 ∧ (∀ a, a ≠ R.LF_STATUS g → c'.rd a = s.chip.rd a)) ∧
  (∀ (g : Fin 12) (s : State), 8 ≤ s.chip.fget (R.LF_CFG g) F.LF_CFG_NTC_SEL → exec (.derateUpdate g) s = .next (s)) ∧
  (∀ (g : Fin 12) (s : State), s.chip.groupChans g = [] → exec (.lfMemberChannelSync g) s = .next (s)) ∧
  (∀ (g : Fin 12) (ch : Nat) (s : State), s.chip.groupChans g = [ch] → s.chip.follows ch (s.chip.groupOutput g) = false → s.chip.linkUp (physDie ch) = true → exec (.lfMemberChannelSync g) s = .next (s.onChip fun c => c.writeCmd 4 ch (F.CH_CMD_APPLY.put (F.CH_CMD_REARM.put (F.CH_CMD_MODE.put (c.rd (R.CH_CMD ch)) (c.groupOutput g).toNat) 0) 1))) ∧
  (∀ (g : Fin 12) (data : Word) (s : State), s.chip.direct .sup (R.LF_CFG g) = true → s.chip.groupChans g = [] → ∃ c', exec (.lfDisable .sup g data) s = .next { s with chip := c' } ∧ c'.groupState g = 0 ∧ c'.flag (R.LF_CFG g) F.LF_CFG_EN = false ∧ Only [Blk.sen] s.chip c') ∧
  (∀ (e : Fin 8) (s : State), s.chip.fget (R.PE_STATUS e) F.PE_STATUS_STATUS ≠ 1 → (s.chip.eng e).fade = none → exec (.peTick e) s = .next (s)) ∧
  (∀ (e : Fin 8) (s : State), s.chip.fget (R.PE_STATUS e) F.PE_STATUS_STATUS = 1 → (s.chip.eng e).forever = false ∧ (s.chip.eng e).left = 0 ∧ (s.chip.eng e).ramp = none → s.chip.rd (R.PE_STEP e (s.chip.fget (R.PE_STATUS e) F.PE_STATUS_STEP)) = 0 → ∃ c', exec (.peTick e) s = .next { s with chip := c' } ∧ c'.fget (R.PE_STATUS e) F.PE_STATUS_STATUS = 2 ∧ Only [Blk.sen, Blk.sys, Blk.evr] s.chip c') ∧
  (∀ (e : Fin 8) (data : Word) (s : State), s.chip.direct .sup (R.PE_CTRL e) = true → F.PE_CTRL_STOP.get data = 0 → ∃ c', exec (.peCtrlStart .sup e data) s = .next { s with chip := c' } ∧ c'.fget (R.PE_STATUS e) F.PE_STATUS_STATUS = 1 ∧ c'.fget (R.PE_STATUS e) F.PE_STATUS_STEP = F.PE_CTRL_START_STEP.get data ∧ c'.eng e = {} ∧ Only [Blk.sen] s.chip c') ∧
  (∀ (e : Fin 8) (data : Word) (s : State), s.chip.direct .sup (R.PE_CTRL e) = true → s.chip.fget (R.PE_STATUS e) F.PE_STATUS_STATUS = 1 → ∃ c', exec (.peCtrlStop .sup e data) s = .next { s with chip := c' } ∧ c'.fget (R.PE_STATUS e) F.PE_STATUS_STATUS = 3 ∧ Only [Blk.sen, Blk.sys, Blk.evr] s.chip c') ∧
  (∀ (n : Fin 4) (k : Fin 4) (s : State), s.chip.flashEn n k = true → s.chip.flag (R.PWR_FLASH_CFG n k) F.PWR_FLASH_CFG_SYNC = false → ∃ c', exec (.flashOnPhaseStart n k) s = .next { s with chip := c' } ∧ c'.flag (R.PWR_FLASH_STATUS n k) F.PWR_FLASH_STATUS_PHASE = true) ∧
  (∀ (n : Fin 4) (k : Fin 4) (means : List Nat) (s : State), s.chip.flag (R.PWR_FLASH_STATUS n k) F.PWR_FLASH_STATUS_PHASE = true → ∃ c', exec (.flashOnPhaseEnd n k means) s = .next { s with chip := c' } ∧ c'.flag (R.PWR_FLASH_STATUS n k) F.PWR_FLASH_STATUS_PHASE = false) ∧
  (∀ (n : Fin 4) (k : Fin 4) (s : State), (Tbl.get (fun _ => false) s.chip.flashMark (4 * n + k) = true) → s.chip.linkUp (n + 2) = true → s.chip.flashEn n k = true → s.chip.flag (R.PWR_FLASH_CFG n k) F.PWR_FLASH_CFG_SYNC = true → ∃ c', exec (.flashSyncRelay n k) s = .next { s with chip := c' } ∧ c'.flag (R.PWR_FLASH_STATUS n k) F.PWR_FLASH_STATUS_PHASE = true ∧ (Tbl.get (fun _ => false) c'.flashMark (4 * n + k) = false)) ∧
  (∀ (n : Fin 4) (k : Fin 4) (s : State), s.chip.linkUp (n + 2) = true → ∃ c', exec (.flashOutageRelay n k) s = .next { s with chip := c' } ∧ (Tbl.get (fun _ => false) c'.flashOut (4 * n + k) = s.chip.flag (R.PWR_FLASH_STATUS n k) F.PWR_FLASH_STATUS_OUTAGE) ∧ Only [Blk.sen, Blk.sys, Blk.evr] s.chip c') ∧
  (∀ (s : State), (s.chip.link 1).lost = true → ∃ c', exec (.ledHoldTimeExpire) s = .next { s with chip := c' } ∧ (∀ x < 24, c'.sinkState x ≠ .held) ∧ Only [Blk.sen] s.chip c')

/-- VLV_CMD_REQ_SET by the supervisor, without REARM, for a valve in OFF with a free slot, VBOOST on and at its threshold: it is in PEAK, not from the feed (R233, R242). With no free slot it is in WAIT_OVERLAP, last of its die's queue (R237). VLV_CMD_REQ_CLEAR in HOLD, nobody waiting: the valve is in DECAY (R234). PEAK_T_EXPIRE with at least a quarter of the peak current, nobody waiting: it is in HOLD (R236). Below a quarter: it is in FAULT with code 3 (R236). VBOOST_READY with VBOOST on and at the threshold: every valve of the die in WAIT_BOOST is in PEAK (R242). NR_MAX_EXPIRE in WAIT_BOOST, nobody waiting: the valve is OFF, its request cleared and the expiry counted (R242). OVERLAP_MAX_EXPIRE of the one valve in WAIT_OVERLAP: it is OFF, its request cleared and the queue empty (R239). ON_MAX_EXPIRE in HOLD with an ON_MAX, nobody waiting: it is in DECAY with its request cleared (R235). HOLD_LOW_DETECT in HOLD, not yet shown: HOLD_LOW reads 1 and is counted; no other register changes (R243). HOLD_LOW_CLEAR: it reads 0; no other register changes. VALVE_DECAY_END of an enabled valve with no request within the clamp's allowance: it is OFF and VLV_CLAMP shows the energy (R228, R230). -/
def Obligations.ValveRequestsAndPeaks : Prop :=
  (∀ (rq : Req) (v : Fin 16) (data : Word) (vboost : Nat) (s : State), rq = .sup → s.chip.linkUp (vDie v + 2) = true → s.chip.direct rq (R.VLV_CMD v) = true → F.VLV_CMD_REARM.get data = 0 → s.chip.vState v = .off → s.chip.slotFree v = true → s.chip.flag R.VB_CTRL F.VB_CTRL_EN = true → s.chip.fget (R.PWR_VB_THR (vDie v)) F.PWR_VB_THR_THR ≤ vboost → ∃ c', exec (.vlvCmdReqSet rq v data vboost) s = .next { s with chip := c' } ∧ c'.vState v = .peak ∧ c'.flag (R.VLV_STATUS v) F.VLV_STATUS_FEED_PEAK = false) ∧
  (∀ (v : Fin 16) (data : Word) (vboost : Nat) (s : State), s.chip.linkUp (vDie v + 2) = true → s.chip.direct .sup (R.VLV_CMD v) = true → F.VLV_CMD_REARM.get data = 0 → s.chip.vState v = .off → s.chip.slotFree v = false → ∃ c', exec (.vlvCmdReqSet .sup v data vboost) s = .next { s with chip := c' } ∧ c'.vState v = .waitOverlap ∧ c'.vWaiting (vDie v) = s.chip.vWaiting (vDie v) ++ [v.toNat]) ∧
  (∀ (v : Fin 16) (data : Word) (s : State), s.chip.direct .sup (R.VLV_CMD v) = true → F.VLV_CMD_REARM.get data = 0 → s.chip.vState v = .hold → s.chip.vWaiting (vDie v) = [] → ∃ c', exec (.vlvCmdReqClear .sup v data) s = .next { s with chip := c' } ∧ c'.vState v = .decay) ∧
  (∀ (v : Fin 16) (x : Nat) (s : State), s.chip.vRun v = .peak → s.chip.fget (R.VLV_PEAK v) F.VLV_PEAK_PEAK_I ≤ 4 * x → s.chip.vWaiting (vDie v) = [] → ∃ c', exec (.peakTExpire v x) s = .next { s with chip := c' } ∧ c'.vRun v = .hold ∧ c'.flag (R.VLV_STATUS v) F.VLV_STATUS_FEED_PEAK = false) ∧
  (∀ (v : Fin 16) (x : Nat) (s : State), s.chip.vRun v = .peak → 4 * x < s.chip.fget (R.VLV_PEAK v) F.VLV_PEAK_PEAK_I → s.chip.vWaiting (vDie v) = [] → ∃ c', exec (.peakTExpire v x) s = .next { s with chip := c' } ∧ c'.vState v = .fault ∧ c'.fget (R.VLV_STATUS v) F.VLV_STATUS_FAULT = 3) ∧
  (∀ (n : Fin 4) (vboost : Nat) (ilim : Bool) (s : State), s.chip.flag R.VB_CTRL F.VB_CTRL_EN = true → s.chip.fget (R.PWR_VB_THR n) F.PWR_VB_THR_THR ≤ vboost → ∃ c', exec (.vboostReady n ⟨vboost, ilim⟩) s = .next { s with chip := c' } ∧ (∀ j < 4, s.chip.vRun (4 * n + j) = .waitBoost → c'.vRun (4 * n + j) = .peak)) ∧
  (∀ (v : Fin 16) (s : State), s.chip.vRun v = .waitBoost → s.chip.vEnabled v = true → s.chip.vWaiting (vDie v) = [] → ∃ c', exec (.nrMaxExpire v) s = .next { s with chip := c' } ∧ c'.vRun v = .off ∧ c'.vRequested v = false ∧ c'.rd (R.VG_NR_TO_CNT (v / 2)) = .ofNat 32 (min 0xFFFFFFFF ((s.chip.rd (R.VG_NR_TO_CNT (v / 2))).toNat + 1))) ∧
  (∀ (v : Fin 16) (s : State), s.chip.vRun v = .waitOverlap → s.chip.vEnabled v = true → s.chip.vWaiting (vDie v) = [v.toNat] → ∃ c', exec (.overlapMaxExpire v) s = .next { s with chip := c' } ∧ c'.vRun v = .off ∧ c'.vRequested v = false ∧ c'.vWaiting (vDie v) = []) ∧
  (∀ (v : Fin 16) (s : State), s.chip.vRun v = .hold → s.chip.fget (R.VLV_CFG v) F.VLV_CFG_ON_MAX ≠ 0 → s.chip.vWaiting (vDie v) = [] → ∃ c', exec (.onMaxExpire v) s = .next { s with chip := c' } ∧ c'.vRun v = .decay ∧ c'.vRequested v = false) ∧
  (∀ (v : Fin 16) (s : State), s.chip.vRun v = .hold → s.chip.flag (R.VLV_STATUS v) F.VLV_STATUS_HOLD_LOW = false → ∃ c', exec (.holdLowDetect v) s = .next { s with chip := c' } ∧ c'.flag (R.VLV_STATUS v) F.VLV_STATUS_HOLD_LOW = true ∧ c'.fget (R.VLV_CODE_CNT v) (byteFld 2) = min 255 (s.chip.fget (R.VLV_CODE_CNT v) (byteFld 2) + 1) ∧ (∀ a, a ≠ R.VLV_STATUS v → a ≠ R.VLV_CODE_CNT v → c'.rd a = s.chip.rd a)) ∧
  (∀ (v : Fin 16) (s : State), ∃ c', exec (.holdLowClear v) s = .next { s with chip := c' } ∧ c'.flag (R.VLV_STATUS v) F.VLV_STATUS_HOLD_LOW = false ∧ (∀ a, a ≠ R.VLV_STATUS v → c'.rd a = s.chip.rd a)) ∧
  (∀ (v : Fin 16) (parts : List ClampPart) (tj : BitVec 8) (s : State), s.chip.vRun v = .decay → s.chip.vEnabled v = true → s.chip.vRequested v = false → clampEnergy parts ≤ vClampAllow ((tj.toNat : Int) - 50) → ∃ c', exec (.valveDecayEnd v parts tj) s = .next { s with chip := c' } ∧ c'.vRun v = .off ∧ c'.fget (R.VLV_CLAMP v) F.VLV_CLAMP_E_LAST = fitted 0xFFFF (clampEnergy parts).floor)

/-- VG_HIGH_SIDE_TRIP: every valve of the group that is neither DISABLED nor in FAULT is in FAULT with code 1 (R244). VLV_SELECT_OVERCURRENT of a conducting valve, nobody waiting: it is in FAULT with code 2, its request cleared (R244). VLV_SELECT_THERMAL likewise with code 4, its switch hot (R244). VLV_CMD_REARM by the supervisor, without REQ, of an enabled FAULT valve whose switch has cooled: it is OFF with code 0 (R244). VLV_DISABLE by the supervisor in OFF: it is DISABLED with EN 0; nothing outside the die changes (R245). VLV_ENABLE by the supervisor in DISABLED: it is OFF with EN 1; nothing outside the die changes (R245). VG_PAR_WRITE by the supervisor of an even group whose die group is OFF or DISABLED: PAR is the written one; nothing outside the die changes (R231). -/
def Obligations.ValveFaultsAndConfiguration : Prop :=
  (∀ (g : Fin 8) (s : State), ∃ c', exec (.vgHighSideTrip g) s = .next { s with chip := c' } ∧ (∀ j < 2, s.chip.vState (2 * g + j) ≠ .disabled → s.chip.vState (2 * g + j) ≠ .fault → c'.vState (2 * g + j) = .fault ∧ c'.fget (R.VLV_STATUS (2 * g + j)) F.VLV_STATUS_FAULT = 1)) ∧
  (∀ (v : Fin 16) (s : State), s.chip.vConducts v = true → s.chip.vWaiting (vDie v) = [] → ∃ c', exec (.vlvSelectOvercurrent v) s = .next { s with chip := c' } ∧ c'.vState v = .fault ∧ c'.fget (R.VLV_STATUS v) F.VLV_STATUS_FAULT = 2 ∧ c'.vRequested v = false) ∧
  (∀ (v : Fin 16) (s : State), s.chip.vConducts v = true → s.chip.vWaiting (vDie v) = [] → ∃ c', exec (.vlvSelectThermal v) s = .next { s with chip := c' } ∧ c'.vState v = .fault ∧ c'.fget (R.VLV_STATUS v) F.VLV_STATUS_FAULT = 4 ∧ (c'.valve v).hot = true) ∧
  (∀ (v : Fin 16) (data : Word) (s : State), s.chip.direct .sup (R.VLV_CMD v) = true → F.VLV_CMD_REQ.get data = 0 → s.chip.vState v = .fault → s.chip.vEnabled v = true → ∃ c', exec (.vlvCmdRearm .sup v data true) s = .next { s with chip := c' } ∧ c'.vState v = .off ∧ c'.fget (R.VLV_STATUS v) F.VLV_STATUS_FAULT = 0) ∧
  (∀ (v : Fin 16) (data : Word) (s : State), s.chip.direct .sup (R.VLV_CFG v) = true → s.chip.vState v = .off → ∃ c', exec (.vlvDisable .sup v data) s = .next { s with chip := c' } ∧ c'.vState v = .disabled ∧ c'.vEnabled v = false ∧ Only [Blk.pwr (vDie v)] s.chip c') ∧
  (∀ (v : Fin 16) (data : Word) (s : State), s.chip.direct .sup (R.VLV_CFG v) = true → s.chip.vState v = .disabled → ∃ c', exec (.vlvEnable .sup v data) s = .next { s with chip := c' } ∧ c'.vState v = .off ∧ c'.vEnabled v = true ∧ Only [Blk.pwr (vDie v)] s.chip c') ∧
  (∀ (g : Fin 8) (data : Word) (s : State), s.chip.direct .sup (R.VG_CFG g) = true → g.toNat % 2 = 0 → (∀ j < 4, s.chip.vState (2 * g + j) = .off ∨ s.chip.vState (2 * g + j) = .disabled) → ∃ c', exec (.vgParWrite .sup g data) s = .next { s with chip := c' } ∧ c'.fget (R.VG_CFG g) F.VG_CFG_PAR = F.VG_CFG_PAR.get data ∧ Only [Blk.pwr (g / 2)] s.chip c')

/-- SI_SCAN_TICK of a powered module: the scan count rises by one, the groups after the first are due in turn, and of the first group every enabled input whose period divides it starts its pulse; no register changes (R249). SI_CONVERSION_DONE of a pulse in progress: CODE shows the code, at most 1023, and the pulse is over (R250). Of an unbound input, no ladder or INVERT, DEB at most 1, a code at or above THR_HI with VALUE 0: VALUE reads 1 and the change is counted (R251, R253). SI_STATE0_READ of an up link in step, the module powered, the requester not held and its read admitted: it answers SI_STATE0 and latches SI_STATE1 for the requester; no register changes (R254). SI_WAKE_EDGE that wakes nothing changes nothing (R255). One that wakes in PARK, with no wake recorded yet, good crystal and images and no staged or pending package: the module is powered (R255, R388). -/
def Obligations.SwitchInputsSampleAndReport : Prop :=
  (∀ (s : State), s.chip.awake = true → ∃ c', exec (.siScanTick) s = .next { s with chip := c' } ∧ (∀ i < 8, s.chip.flag (R.SI_CFG i) F.SI_CFG_EN = true → (s.chip.siTick + 1) % scanMs (s.chip.fget (R.SI_CFG i) F.SI_CFG_SCAN) = 0 → (c'.si i).run.isSome = true) ∧ c'.siTick = s.chip.siTick + 1 ∧ Only [] s.chip c') ∧
  (∀ (x : Fin 64) (code : Nat) (r : SiRun) (s : State), (s.chip.si x).run = some r → ∃ c', exec (.siConversionDone x code) s = .next { s with chip := c' } ∧ c'.fget (R.SI_STATUS x) F.SI_STATUS_CODE = min 1023 code ∧ (c'.si x).run = none) ∧
  (∀ (x : Fin 64) (code : Nat) (r : SiRun) (s : State), (s.chip.si x).run = some r → s.chip.siBound x = false → F.SI_CFG_LADDER.get r.cfg = 0 ∧ F.SI_CFG_INVERT.get r.cfg = 0 ∧ F.SI_CFG_DEB.get r.cfg ≤ 1 → F.SI_THR_THR_HI.get r.thr ≤ min 1023 code → s.chip.siValue x = false → ∃ c', exec (.siConversionDone x code) s = .next { s with chip := c' } ∧ c'.siValue x = true ∧ c'.rd (R.SI_CHG_CNT x) = .ofNat 32 (min 0xFFFFFFFF ((s.chip.rd (R.SI_CHG_CNT x)).toNat + 1))) ∧
  (∀ (rq : Req) (s : State), s.chip.atOnce rq R.SI_STATE0 0 = true → s.chip.linkUp 1 = true → (s.chip.link 1).rxSeq = (s.chip.link 1).txSeq ∧ (s.chip.link 1).nack = none → ∃ c', exec (.siState0Read rq) s = .next { s with chip := c' } ∧ c'.respOf rq = ⟨R.SI_STATE0, s.chip.rd R.SI_STATE0, 0⟩ ∧ c'.latchOf R.SI_STATE0 rq = s.chip.rd R.SI_STATE1 ∧ Only [] s.chip c') ∧
  (∀ (x : Fin 64) (rising : Bool) (env : StartEnv) (s : State), s.chip.edgeWakes x rising = false → exec (.siWakeEdge x rising env) s = .next (s)) ∧
  (∀ (x : Fin 64) (rising : Bool) (env : StartEnv) (s : State), s.chip.edgeWakes x rising = true → s.chip.mode = 1 → s.chip.flag R.SEN_WAKE_FIRST F.SEN_WAKE_FIRST_VALID = false → env.xtal = true ∧ env.supOk = true ∧ env.appOk = true ∧ env.act = .commits → s.chip.upd.staging = 0 ∧ s.chip.upd.journal = 0 → ∃ t, exec (.siWakeEdge x rising env) s = .next t ∧ t.chip.awake = true)

/-- Registers outside the field die keep their values, those of the system block, the event router and the queues apart where the Lean says so. FP_FILTER_EXPIRE of a sampled input without INVERT whose VALUE differs: VALUE and STATE show the level and the change is counted (R261). FP_WIRE_BREAK_DETECT of a sampled input with WB_EN, the supply not masking it: WIRE_BREAK reads 1 (R262). FP_WIRE_BREAK_CLEAR, not masked: it reads 0. FP_CMD_ON_WRITE of 1 by the supervisor to an enabled output in OFF with its supply valid: it is ON (R263). Of 0 to one that is ON: it is OFF (R263). FP_SHORT of a driving output without AUTO_RETRY: it is in FAULT with code 1, ON cleared (R263). FP_THERMAL_SHUTDOWN likewise with code 2, its switch hot. FP_CMD_REARM by the supervisor, ON 0, of a FAULT output whose switch has cooled: it is OFF with code 0 (R263). FP_COOLDOWN_RESTART of an output in COOLDOWN with a cool switch and a valid supply: it is ON (R263). FP_SWITCH_BELOW_150C of one whose time has passed: it is ON and not hot (R263). FP_OPEN_LOAD_DETECT of a driving output with OL_EN, not masked: OPEN_LOAD reads 1 (R264). FP_OPEN_LOAD_CLEAR, not masked: it reads 0. -/
def Obligations.FieldPointsAndFaults : Prop :=
  (∀ (p : Fin 32) (level : Bool) (s : State), s.chip.fpSamples p = true → s.chip.flag (R.FP_CFG p) F.FP_CFG_INVERT = false → s.chip.flag (R.FP_STATUS p) F.FP_STATUS_VALUE ≠ level → ∃ c', exec (.fpFilterExpire p level) s = .next { s with chip := c' } ∧ c'.flag (R.FP_STATUS p) F.FP_STATUS_VALUE = level ∧ c'.fget (R.FP_STATUS p) F.FP_STATUS_STATE = level.toNat ∧ c'.rd (R.FP_CHG_CNT p) = .ofNat 32 (min 0xFFFFFFFF ((s.chip.rd (R.FP_CHG_CNT p)).toNat + 1)) ∧ Only [Blk.fld, Blk.sys, Blk.evr, Blk.que] s.chip c') ∧
  (∀ (p : Fin 32) (s : State), s.chip.fpSamples p = true → s.chip.flag (R.FP_CFG p) F.FP_CFG_WB_EN = true → s.chip.fldMasked = false → s.chip.flag (R.FP_STATUS p) F.FP_STATUS_WIRE_BREAK = false → ∃ c', exec (.fpWireBreakDetect p) s = .next { s with chip := c' } ∧ c'.flag (R.FP_STATUS p) F.FP_STATUS_WIRE_BREAK = true ∧ Only [Blk.fld, Blk.sys, Blk.evr, Blk.que] s.chip c') ∧
  (∀ (p : Fin 32) (s : State), s.chip.fldMasked = false → ∃ c', exec (.fpWireBreakClear p) s = .next { s with chip := c' } ∧ c'.flag (R.FP_STATUS p) F.FP_STATUS_WIRE_BREAK = false ∧ (∀ a, a ≠ R.FP_STATUS p → c'.rd a = s.chip.rd a)) ∧
  (∀ (p : Fin 32) (s : State), s.chip.direct .sup (R.FP_CMD p) = true → s.chip.fpOut p = true ∧ s.chip.fpEn p = true → s.chip.fpState p = .off → s.chip.supplyFault = false → ∃ c', exec (.fpCmdOnWrite .sup p true) s = .next { s with chip := c' } ∧ c'.fpState p = .on ∧ c'.fpOn p = true ∧ Only [Blk.fld] s.chip c') ∧
  (∀ (p : Fin 32) (s : State), s.chip.direct .sup (R.FP_CMD p) = true → s.chip.fpOut p = true → s.chip.fpState p = .on → ∃ c', exec (.fpCmdOnWrite .sup p false) s = .next { s with chip := c' } ∧ c'.fpState p = .off ∧ c'.fpOn p = false ∧ Only [Blk.fld] s.chip c') ∧
  (∀ (p : Fin 32) (hot : Bool) (s : State), s.chip.fpDrives p = true → s.chip.flag (R.FP_CFG p) F.FP_CFG_AUTO_RETRY = false → ∃ c', exec (.fpShort p hot) s = .next { s with chip := c' } ∧ c'.fpRun p = .fault ∧ c'.fget (R.FP_STATUS p) F.FP_STATUS_FAULT = 1 ∧ c'.fpOn p = false ∧ Only [Blk.fld, Blk.sys, Blk.evr, Blk.que] s.chip c') ∧
  (∀ (p : Fin 32) (s : State), s.chip.fpDrives p = true → s.chip.flag (R.FP_CFG p) F.FP_CFG_AUTO_RETRY = false → ∃ c', exec (.fpThermalShutdown p) s = .next { s with chip := c' } ∧ c'.fpRun p = .fault ∧ c'.fget (R.FP_STATUS p) F.FP_STATUS_FAULT = 2 ∧ (c'.fp p).hot = true ∧ Only [Blk.fld, Blk.sys, Blk.evr, Blk.que] s.chip c') ∧
  (∀ (p : Fin 32) (data : Word) (s : State), s.chip.direct .sup (R.FP_CMD p) = true → F.FP_CMD_ON.get data = 0 → s.chip.fpOut p = true ∧ s.chip.fpState p = .fault → ∃ c', exec (.fpCmdRearm .sup p data true) s = .next { s with chip := c' } ∧ c'.fpState p = .off ∧ c'.fget (R.FP_STATUS p) F.FP_STATUS_FAULT = 0 ∧ Only [Blk.fld] s.chip c') ∧
  (∀ (p : Fin 32) (s : State), s.chip.fpOut p = true ∧ s.chip.fpRun p = .cooldown → (s.chip.fp p).hot = false → s.chip.supplyFault = false → ∃ c', exec (.fpCooldownRestart p) s = .next { s with chip := c' } ∧ c'.fpRun p = .on ∧ Only [Blk.fld] s.chip c') ∧
  (∀ (p : Fin 32) (s : State), s.chip.fpOut p = true ∧ s.chip.fpRun p = .cooldown → (s.chip.fp p).waited = true → s.chip.supplyFault = false → ∃ c', exec (.fpSwitchBelow150c p) s = .next { s with chip := c' } ∧ c'.fpRun p = .on ∧ (c'.fp p).hot = false ∧ Only [Blk.fld] s.chip c') ∧
  (∀ (p : Fin 32) (s : State), s.chip.fpDrives p = true → s.chip.flag (R.FP_CFG p) F.FP_CFG_OL_EN = true → s.chip.fldMasked = false → s.chip.flag (R.FP_STATUS p) F.FP_STATUS_OPEN_LOAD = false → ∃ c', exec (.fpOpenLoadDetect p) s = .next { s with chip := c' } ∧ c'.flag (R.FP_STATUS p) F.FP_STATUS_OPEN_LOAD = true ∧ Only [Blk.fld, Blk.sys, Blk.evr, Blk.que] s.chip c') ∧
  (∀ (p : Fin 32) (s : State), s.chip.fldMasked = false → ∃ c', exec (.fpOpenLoadClear p) s = .next { s with chip := c' } ∧ c'.flag (R.FP_STATUS p) F.FP_STATUS_OPEN_LOAD = false ∧ (∀ a, a ≠ R.FP_STATUS p → c'.rd a = s.chip.rd a))

/-- FP_CLAMP_END of an enabled output within the allowance: the clamping is over; no register changes (R264). FP_DISABLE by the supervisor, MODE output, of an output in OFF that does not clamp: it is DISABLED with EN 0; only the field die changes (R265). FP_MODE_WRITE by the supervisor, EN 1 and MODE 0 or 1, of an output that is ON: it stays an output and the refusal is counted (R260). In OFF, enabled: MODE is the written one (R260). FLD_SUPPLY_FAULT: SUPPLY_FAULT is shown (R266). With none shown before, no output drives (R266). FLD_SUPPLY_RECOVER of a shown fault: none is shown; only the field die changes (R266). FP_MEAS_PUSH: every FP_MEAS holds the point's two values; only the field die changes (R268). FLD_HOLD_TIME_EXPIRE on a lost link: no output is HELD; only the field die changes (R269). BARRIER_POWER_LOSS: the link of D6 is down and lost, and no point is an output. -/
def Obligations.FieldConfigurationSupplyAndHold : Prop :=
  (∀ (p : Fin 32) (parts : List ClampPart) (tj : BitVec 8) (s : State), s.chip.fpOut p = true ∧ (s.chip.fp p).clamping = true → s.chip.fpEn p = true → clampEnergy parts ≤ vClampAllow ((tj.toNat : Int) - 50) → ∃ c', exec (.fpClampEnd p parts tj) s = .next { s with chip := c' } ∧ (c'.fp p).clamping = false ∧ Only [] s.chip c') ∧
  (∀ (p : Fin 32) (data : Word) (s : State), s.chip.direct .sup (R.FP_CFG p) = true → F.FP_CFG_MODE.get data = 2 → s.chip.fpOut p = true ∧ s.chip.fpState p = .off → (s.chip.fp p).clamping = false → ∃ c', exec (.fpDisable .sup p data) s = .next { s with chip := c' } ∧ c'.fpState p = .disabled ∧ c'.fpEn p = false ∧ Only [Blk.fld] s.chip c') ∧
  (∀ (p : Fin 32) (data : Word) (s : State), s.chip.direct .sup (R.FP_CFG p) = true → F.FP_CFG_EN.get data = 1 → F.FP_CFG_MODE.get data < 2 → s.chip.fpOut p = true ∧ s.chip.fpState p = .on → ∃ c', exec (.fpModeWrite .sup p data) s = .next { s with chip := c' } ∧ c'.fpOut p = true ∧ c'.rd R.FLD_MODE_REFUSED_CNT = .ofNat 32 (min 0xFFFFFFFF ((s.chip.rd R.FLD_MODE_REFUSED_CNT).toNat + 1)) ∧ Only [Blk.fld] s.chip c') ∧
  (∀ (p : Fin 32) (data : Word) (s : State), s.chip.direct .sup (R.FP_CFG p) = true → F.FP_CFG_EN.get data = 1 → F.FP_CFG_MODE.get data ≤ 2 → s.chip.fpState p = .off ∧ s.chip.fpEn p = true → ∃ c', exec (.fpModeWrite .sup p data) s = .next { s with chip := c' } ∧ c'.fget (R.FP_CFG p) F.FP_CFG_MODE = F.FP_CFG_MODE.get data) ∧
  (∀ (tooHigh : Bool) (s : State), ∃ c', exec (.fldSupplyFault tooHigh) s = .next { s with chip := c' } ∧ c'.supplyFault = true) ∧
  (∀ (tooHigh : Bool) (s : State), s.chip.supplyFault = false → ∃ c', exec (.fldSupplyFault tooHigh) s = .next { s with chip := c' } ∧ (∀ p < 32, c'.fpDrives p = false)) ∧
  (∀ (s : State), s.chip.supplyFault = true → ∃ c', exec (.fldSupplyRecover) s = .next { s with chip := c' } ∧ c'.supplyFault = false ∧ Only [Blk.fld] s.chip c') ∧
  (∀ (ms : List (BitVec 16 × BitVec 16)) (lplus : Nat) (s : State), ∃ c', exec (.fpMeasPush ⟨ms, lplus⟩) s = .next { s with chip := c' } ∧ (∀ p < 32, c'.rd (R.FP_MEAS p) = F.FP_MEAS_V.put (F.FP_MEAS_I.of (ms.getD p (0, 0)).2.toNat) (ms.getD p (0, 0)).1.toNat) ∧ Only [Blk.fld] s.chip c') ∧
  (∀ (s : State), (s.chip.link 6).lost = true → ∃ c', exec (.fldHoldTimeExpire) s = .next { s with chip := c' } ∧ (∀ p < 32, c'.fpOut p = true → c'.fpState p ≠ .held) ∧ Only [Blk.fld] s.chip c') ∧
  (∀ (s : State), ∃ c', exec (.barrierPowerLoss) s = .next { s with chip := c' } ∧ c'.linkUp 6 = false ∧ (c'.link 6).lost = true ∧ (∀ p < 32, c'.fpOut p = false))

/-- MTIMECMP_REACHED: the time is at least the core's compare value and its timer interrupt bit is set; no register changes (R279). MCOUNTEREN_WRITE by a running core in machine mode: a lock violation of SYS is counted and EV004 raised, no core's state changes, and only the system block and the event router change (R272). FENCE_I: the core's own instruction cache holds no stale line, the other cores are as before; no register changes (R275). FENCE_IO changes nothing (R64). CACHE_PARITY_ERROR in a clean line of a running core: counted as corrected with its address (R277). In a dirty line: counted as uncorrectable, an access fault of the core, syndrome ECC at the address, EV013 (R277). SRAM_ECC_ERROR of a single bit in a powered module: counted as corrected with its address, EV012 (R283). Of two bits: the read fails with ECC, counted as uncorrectable, EV013 (R283). NVM_OP_COMPLETE while no erasure of the log runs: no core's cache holds a stale line of its range; no register changes (R274). -/
def Obligations.CoresTimersFencesAndErrors : Prop :=
  (∀ (c : Fin 4) (s : State), ∃ c', exec (.mtimecmpReached c) s = .next { s with chip := c' } ∧ c'.mtime = max s.chip.mtime (s.chip.mtimecmp c) ∧ (c'.mip c).getLsbD 7 = true ∧ Only [] s.chip c') ∧
  (∀ (c : Fin 4) (data : Word) (s : State), s.chip.coreRuns c = true → (s.chip.core c).user = false → ∃ c', exec (.mcounterenWrite c data) s = .next { s with chip := c' } ∧ c'.fget (R.SYS_LOCKVIOL_CNT 0) F.SYS_LOCKVIOL_CNT_COUNT = min F.SYS_LOCKVIOL_CNT_COUNT.max (s.chip.fget (R.SYS_LOCKVIOL_CNT 0) F.SYS_LOCKVIOL_CNT_COUNT + 1) ∧ c'.rd (R.EVR_CNT 4) = .ofNat 32 (min 0xFFFFFFFF ((s.chip.rd (R.EVR_CNT 4)).toNat + 1)) ∧ (∀ k, c'.core k = s.chip.core k) ∧ Only [Blk.sys, Blk.evr] s.chip c') ∧
  (∀ (c : Fin 4) (s : State), ∃ c', exec (.fenceI c) s = .next { s with chip := c' } ∧ (c'.core c).stale = [] ∧ (∀ k, k ≠ c.val → c'.core k = s.chip.core k) ∧ Only [] s.chip c') ∧
  (∀ (c : Fin 4) (pred succ : BitVec 4) (s : State), exec (.fenceIo c pred succ) s = .next (s)) ∧
  (∀ (c : Fin 4) (addr : Word) (write : Bool) (s : State), s.chip.coreRuns c = true → ∃ c', exec (.cacheParityError c addr false write) s = .next { s with chip := c' } ∧ c'.rd (R.SRC_ECC_CORR_CNT) = .ofNat 32 (min 0xFFFFFFFF ((s.chip.rd (R.SRC_ECC_CORR_CNT)).toNat + 1)) ∧ c'.rd R.SRC_ECC_LAST = addr ∧ c'.rd R.SRC_ECC_UNCORR_CNT = s.chip.rd R.SRC_ECC_UNCORR_CNT ∧ Only [Blk.sys, Blk.evr, Blk.ret] s.chip c') ∧
  (∀ (c : Fin 4) (addr : Word) (write : Bool) (s : State), s.chip.coreRuns c = true → ∃ c', exec (.cacheParityError c addr true write) s = .next { s with chip := c' } ∧ c'.rd (R.SRC_ECC_UNCORR_CNT) = .ofNat 32 (min 0xFFFFFFFF ((s.chip.rd (R.SRC_ECC_UNCORR_CNT)).toNat + 1)) ∧ (c'.core c).trap = some (if write then 7 else 5, addr.toNat) ∧ c'.fget R.SYS_BUSFAULT F.SYS_BUSFAULT_SYNDROME = 8 ∧ c'.rd R.SYS_BUSFAULT_ADDR = addr ∧ c'.rd (R.EVR_CNT 13) = .ofNat 32 (min 0xFFFFFFFF ((s.chip.rd (R.EVR_CNT 13)).toNat + 1))) ∧
  (∀ (rq : Req) (addr : Word) (fetch : Bool) (s : State), inSram addr.toNat = true → s.chip.awake = true → ∃ c', exec (.sramEccError rq addr false fetch) s = .next { s with chip := c' } ∧ c'.rd (R.SRC_ECC_CORR_CNT) = .ofNat 32 (min 0xFFFFFFFF ((s.chip.rd (R.SRC_ECC_CORR_CNT)).toNat + 1)) ∧ c'.rd R.SRC_ECC_LAST = addr ∧ c'.rd (R.EVR_CNT 12) = .ofNat 32 (min 0xFFFFFFFF ((s.chip.rd (R.EVR_CNT 12)).toNat + 1)) ∧ Only [Blk.sys, Blk.evr, Blk.ret] s.chip c') ∧
  (∀ (rq : Req) (addr : Word) (fetch : Bool) (s : State), inSram addr.toNat = true → s.chip.awake = true → ∃ c', exec (.sramEccError rq addr true fetch) s = .next { s with chip := c' } ∧ c'.rd (R.SRC_ECC_UNCORR_CNT) = .ofNat 32 (min 0xFFFFFFFF ((s.chip.rd (R.SRC_ECC_UNCORR_CNT)).toNat + 1)) ∧ c'.respOf rq = ⟨addr.toNat, 0, 8⟩ ∧ c'.fget R.SYS_BUSFAULT F.SYS_BUSFAULT_SYNDROME = 8 ∧ c'.rd (R.EVR_CNT 13) = .ofNat 32 (min 0xFFFFFFFF ((s.chip.rd (R.EVR_CNT 13)).toNat + 1)) ∧ Only [Blk.sys, Blk.evr, Blk.ret] s.chip c') ∧
  (∀ (lo : Word) (n : Nat) (s : State), s.chip.erasing = false → ∃ c', exec (.nvmOpComplete lo n) s = .next { s with chip := c' } ∧ (∀ k : Fin 4, ∀ l ∈ (c'.core k).stale, 32 * l + 32 ≤ lo.toNat ∨ lo.toNat + n ≤ 32 * l) ∧ Only [] s.chip c')

/-- ATOMIC_ACCESS of a running core whose PMP lets it read and write an aligned SRAM word, in a bank that is not LOST but for a failing SC (R276, R278, R399). LR returns the word and reserves its 32-byte line; memory and registers stay. SC with the reservation returns 0 and stores; the reservation is gone; every byte outside the word and every register stays. SC without it returns 1 and stores nothing; the reservation is gone. ADD returns the old word and stores the sum; every byte outside the word and every register stays. SWAP returns the old word and stores the operand; every byte outside the word stays. An atomic access outside SRAM is an access fault of the core; memory and registers stay. -/
def Obligations.AtomicAccessesToSram : Prop :=
  (∀ (c : Fin 4) (user : Bool) (addr data : Word) (s : State), s.chip.coreRuns c = true → inSram addr.toNat = true ∧ addr.toNat % 4 = 0 → s.chip.pmpOk c user addr.toNat 4 0 = true ∧ s.chip.pmpOk c user addr.toNat 4 1 = true → s.chip.bankLost addr.toNat = false → ∃ c', exec (.atomicAccess c user .lr addr data) s = .next { s with chip := c' } ∧ c'.respOf (Req.core c) = ⟨addr.toNat, Memory.word s.sram addr.toNat, 0⟩ ∧ (c'.core c).reserve = some (addr.toNat / 32) ∧ Only [] s.chip c') ∧
  (∀ (c : Fin 4) (user : Bool) (addr data : Word) (s : State), s.chip.coreRuns c = true → inSram addr.toNat = true ∧ addr.toNat % 4 = 0 → s.chip.pmpOk c user addr.toNat 4 0 = true ∧ s.chip.pmpOk c user addr.toNat 4 1 = true → s.chip.bankLost addr.toNat = false → (s.chip.core c).reserve = some (addr.toNat / 32) → ∃ t, exec (.atomicAccess c user .sc addr data) s = .next t ∧ t.chip.respOf (Req.core c) = ⟨addr.toNat, 0, 0⟩ ∧ (t.chip.core c).reserve = none ∧ Memory.word t.sram addr.toNat = data ∧ ((∀ a, a < addr.toNat ∨ addr.toNat + 4 ≤ a → Memory.read t.sram a = Memory.read s.sram a)) ∧ Only [] s.chip t.chip) ∧
  (∀ (c : Fin 4) (user : Bool) (addr data : Word) (s : State), s.chip.coreRuns c = true → inSram addr.toNat = true ∧ addr.toNat % 4 = 0 → s.chip.pmpOk c user addr.toNat 4 0 = true ∧ s.chip.pmpOk c user addr.toNat 4 1 = true → (s.chip.core c).reserve ≠ some (addr.toNat / 32) → ∃ c', exec (.atomicAccess c user .sc addr data) s = .next { s with chip := c' } ∧ c'.respOf (Req.core c) = ⟨addr.toNat, 1, 0⟩ ∧ (c'.core c).reserve = none ∧ Only [] s.chip c') ∧
  (∀ (c : Fin 4) (user : Bool) (addr data : Word) (s : State), s.chip.coreRuns c = true → inSram addr.toNat = true ∧ addr.toNat % 4 = 0 → s.chip.pmpOk c user addr.toNat 4 0 = true ∧ s.chip.pmpOk c user addr.toNat 4 1 = true → s.chip.bankLost addr.toNat = false → ∃ t, exec (.atomicAccess c user .add addr data) s = .next t ∧ t.chip.respOf (Req.core c) = ⟨addr.toNat, Memory.word s.sram addr.toNat, 0⟩ ∧ Memory.word t.sram addr.toNat = Memory.word s.sram addr.toNat + data ∧ ((∀ a, a < addr.toNat ∨ addr.toNat + 4 ≤ a → Memory.read t.sram a = Memory.read s.sram a)) ∧ Only [] s.chip t.chip) ∧
  (∀ (c : Fin 4) (user : Bool) (addr data : Word) (s : State), s.chip.coreRuns c = true → inSram addr.toNat = true ∧ addr.toNat % 4 = 0 → s.chip.pmpOk c user addr.toNat 4 0 = true ∧ s.chip.pmpOk c user addr.toNat 4 1 = true → s.chip.bankLost addr.toNat = false → ∃ t, exec (.atomicAccess c user .swap addr data) s = .next t ∧ t.chip.respOf (Req.core c) = ⟨addr.toNat, Memory.word s.sram addr.toNat, 0⟩ ∧ Memory.word t.sram addr.toNat = data ∧ ((∀ a, a < addr.toNat ∨ addr.toNat + 4 ≤ a → Memory.read t.sram a = Memory.read s.sram a))) ∧
  (∀ (c : Fin 4) (user : Bool) (op : AtomicOp) (addr data : Word) (s : State), s.chip.coreRuns c = true → inSram addr.toNat = false → ∃ c', exec (.atomicAccess c user op addr data) s = .next { s with chip := c' } ∧ (c'.core c).trap = some (if op = .lr then 5 else 7, addr.toNat) ∧ Only [] s.chip c')

/-- HPM_COUNTER_WRAP of a counter that counts and was not written in that microsecond: it is 0 and OF reads 1; only the cores' CSRs change (R300). HPM_CSR_WRITE of the low half of counter 3 to 14 by a running core in machine mode: both halves are written and OF reads 0; only the cores' CSRs change (R54, R300). MSAMP_TAG when as many instructions entered decode as the interval has, sampling enabled, no record held, none tagged: one is tagged and the LFSR steps; only the cores' CSRs change (R301). MSAMP_RECORD of the tagged instruction: its record is kept with VALID, and none is tagged. MSAMP_CTL_WRITE by a running core in machine mode: EN is the written one, VALID reads 0 and none is tagged. CDE_SNAPSHOT in an open window whose region is SRAM that is not LOST: the 512 bytes of its record stand there, every other byte stays, the sequence number rises and nothing is dropped (R302 to R304). One whose region does not begin in SRAM is dropped and counted, EV014; the sequence number rises and the write pointer stays (R303). CDE_WINDOW_CLOSE outside STARTUP and SERVICE: the window is closed; no register changes (R302). -/
def Obligations.CountersSamplingAndDumps : Prop :=
  (∀ (c : Fin 4) (j : Fin 12) (i : Fin 15) (s : State), i.val = j.val + 3 → s.chip.counts c i = true → (s.chip.core c).wrote ≠ some i.val → ∃ c', exec (.hpmCounterWrap c j) s = .next { s with chip := c' } ∧ c'.ctr64 (Ctr64.lo (.hpm c i)) = 0 ∧ c'.flag (R.CSR_MHPMEVENT c i) F.CSR_MHPMEVENT_OF = true ∧ Only [Blk.csr] s.chip c') ∧
  (∀ (c : Fin 4) (j : Fin 15) (data : Word) (s : State), s.chip.coreRuns c = true → (s.chip.core c).user = false → 3 ≤ j.val → ∃ c', exec (.hpmCsrWrite c (.ofNat 12 (0xB00 + j)) data) s = .next { s with chip := c' } ∧ c'.ctr64 (Ctr64.lo (.hpm c j)) = s.chip.staged (Ctr64.lo (.hpm c j)) ++ data ∧ c'.flag (R.CSR_MHPMEVENT c j) F.CSR_MHPMEVENT_OF = false ∧ Only [Blk.csr] s.chip c') ∧
  (∀ (c : Fin 4) (s : State), s.chip.coreRuns c = true → s.chip.flag (R.MSAMP_CTL c) F.MSAMP_CTL_EN = true → s.chip.flag (R.MSAMP_LAT1 c) F.MSAMP_LAT1_VALID = false → (s.chip.core c).tagged = false → ∃ c', exec (.msampTag ⟨c, s.chip.interval c⟩) s = .next { s with chip := c' } ∧ (c'.core c).tagged = true ∧ c'.fget (R.MSAMP_SEED c) F.MSAMP_SEED_SEED = lfsrNext (s.chip.fget (R.MSAMP_SEED c) F.MSAMP_SEED_SEED) ∧ Only [Blk.csr] s.chip c') ∧
  (∀ (c : Fin 4) (pc lat0 : Word) (outcome : BitVec 2) (slot : Bool) (retire : BitVec 8) (s : State), (s.chip.core c).tagged = true → ∃ c', exec (.msampRecord c pc lat0 outcome slot retire) s = .next { s with chip := c' } ∧ (c'.core c).tagged = false ∧ c'.rd (R.MSAMP_PC c) = pc ∧ c'.rd (R.MSAMP_LAT0 c) = lat0 ∧ c'.flag (R.MSAMP_LAT1 c) F.MSAMP_LAT1_VALID = true ∧ c'.fget (R.MSAMP_LAT1 c) F.MSAMP_LAT1_OUTCOME = outcome.toNat ∧ c'.fget (R.MSAMP_LAT1 c) F.MSAMP_LAT1_RETIRE = retire.toNat ∧ Only [Blk.csr] s.chip c') ∧
  (∀ (c : Fin 4) (data : Word) (s : State), s.chip.coreRuns c = true → (s.chip.core c).user = false → ∃ c', exec (.msampCtlWrite c data) s = .next { s with chip := c' } ∧ c'.flag (R.MSAMP_LAT1 c) F.MSAMP_LAT1_VALID = false ∧ (c'.core c).tagged = false ∧ c'.fget (R.MSAMP_CTL c) F.MSAMP_CTL_EN = F.MSAMP_CTL_EN.get data ∧ Only [Blk.csr] s.chip c') ∧
  (∀ (wfi : BitVec 4) (s : State), s.chip.cdeRunning = true → inSram s.chip.cdeAddr = true ∧ inSram (s.chip.cdeAddr + 511) = true ∧ s.chip.bankLost s.chip.cdeAddr = false → ∃ t, exec (.cdeSnapshot wfi) s = .next t ∧ Memory.bytes t.sram s.chip.cdeAddr 512 = s.chip.cdeRecord wfi ∧ ((∀ a, a < s.chip.cdeAddr ∨ s.chip.cdeAddr + 512 ≤ a → Memory.read t.sram a = Memory.read s.sram a)) ∧ t.chip.rd R.CDE_SEQ = s.chip.rd R.CDE_SEQ + 1 ∧ t.chip.rd R.CDE_DROP_CNT = s.chip.rd R.CDE_DROP_CNT ∧ Only [Blk.sys, Blk.cde] s.chip t.chip) ∧
  (∀ (wfi : BitVec 4) (s : State), s.chip.cdeRunning = true → inSram s.chip.cdeAddr = false → ∃ c', exec (.cdeSnapshot wfi) s = .next { s with chip := c' } ∧ c'.rd (R.CDE_DROP_CNT) = .ofNat 32 (min 0xFFFFFFFF ((s.chip.rd (R.CDE_DROP_CNT)).toNat + 1)) ∧ c'.rd R.CDE_SEQ = s.chip.rd R.CDE_SEQ + 1 ∧ c'.rd R.CDE_WRPTR = s.chip.rd R.CDE_WRPTR ∧ c'.rd (R.EVR_CNT 14) = .ofNat 32 (min 0xFFFFFFFF ((s.chip.rd (R.EVR_CNT 14)).toNat + 1)) ∧ Only [Blk.sys, Blk.evr, Blk.cde] s.chip c') ∧
  (∀ (s : State), s.chip.mode ≠ 5 → s.chip.mode ≠ 6 → ∃ c', exec (.cdeWindowClose) s = .next { s with chip := c' } ∧ c'.cdeWindow = false ∧ Only [] s.chip c')

/-- A target is interrupted exactly while a source pending at it has a priority above its threshold; a core's MEIP bit is that. For INTA and INTB the pin is low, as the host port's status bits show, in a module whose INT pads are not held. EVR_CLAIM_READ whose access takes effect at once returns the pending source with the highest priority above the threshold, the lowest number among equals, and removes its pending instance at that target only; with no such source it returns VALID 0 and removes nothing. An alias read of EVR_CLAIM by the supervisor, not held, in a powered module returns the addressed bit of that word and claims nothing. Only the system block changes by a claim (the router's clock restarts, assumption log 25). -/
def Obligations.ClaimsTakeTheHighestSourceFirst : Prop :=
  (∀ (t : Fin 7) (s : State), s.chip.interrupted t = true ↔ ∃ k, k < 256 ∧ (s.chip.pendAt t).getLsbD k = true ∧ s.chip.fget (R.EVR_THRESH t) F.EVR_THRESH_THRESH < s.chip.fget (R.EVR_ROUTE k) F.EVR_ROUTE_PRIO) ∧
  (∀ (k : Fin 4) (s : State), (s.chip.mip k).getLsbD 11 = s.chip.interrupted k) ∧
  (∀ (s : State), s.chip.flag R.SYS_PAD_HOLD (bitFld 0) = false → s.chip.statusWord.getLsbD 28 = s.chip.interrupted 5 ∧ s.chip.statusWord.getLsbD 27 = s.chip.interrupted 6) ∧
  (∀ (rq : Req) (t : Fin 7) (k : Nat) (s : State), s.chip.atOnce rq (R.EVR_CLAIM t) 0 = true → k < 256 → (s.chip.pendAt t).getLsbD k = true → s.chip.fget (R.EVR_THRESH t) F.EVR_THRESH_THRESH < s.chip.fget (R.EVR_ROUTE k) F.EVR_ROUTE_PRIO → ((∀ j, j < 256 → (s.chip.pendAt t).getLsbD j = true → s.chip.fget (R.EVR_ROUTE j) F.EVR_ROUTE_PRIO < s.chip.fget (R.EVR_ROUTE k) F.EVR_ROUTE_PRIO ∨ (s.chip.fget (R.EVR_ROUTE j) F.EVR_ROUTE_PRIO = s.chip.fget (R.EVR_ROUTE k) F.EVR_ROUTE_PRIO ∧ k ≤ j))) → ∃ c', exec (.evrClaimRead rq t) s = .next { s with chip := c' } ∧ c'.respOf rq = ⟨R.EVR_CLAIM t, F.EVR_CLAIM_SOURCE.put (F.EVR_CLAIM_VALID.of 1) k, 0⟩ ∧ c'.pendAt t = s.chip.pendAt t &&& ~~~(1#256 <<< k) ∧ (∀ u, u ≠ t.val → c'.pendAt u = s.chip.pendAt u) ∧ Only [Blk.sys] s.chip c') ∧
  (∀ (rq : Req) (t : Fin 7) (s : State), s.chip.atOnce rq (R.EVR_CLAIM t) 0 = true → s.chip.interrupted t = false → ∃ c', exec (.evrClaimRead rq t) s = .next { s with chip := c' } ∧ c'.respOf rq = ⟨R.EVR_CLAIM t, 0, 0⟩ ∧ (∀ u, c'.pendAt u = s.chip.pendAt u) ∧ Only [Blk.sys] s.chip c') ∧
  (∀ (user : Bool) (t : Fin 7) (b : Fin 32) (s : State), s.chip.awake = true → s.chip.stalled .sup = false → ∃ c', exec (.aliasRead .sup user .word (.ofNat 32 (0x60000000 + (R.EVR_CLAIM t - 0x40000000) * 32 + 4 * b.val))) s = .next { s with chip := c' } ∧ c'.respOf .sup = ⟨0x60000000 + (R.EVR_CLAIM t - 0x40000000) * 32 + 4 * b.val, .ofNat 32 ((s.chip.claimWord t).toNat.testBit b).toNat, 0⟩ ∧ (∀ u, c'.pendAt u = s.chip.pendAt u) ∧ Only [Blk.sys] s.chip c')

/-- In a powered module a raise of a source counts it in its EVR_CNT and sets it pending at every target of its mask; a target of its mask where it is already pending counts the merge, and every other target, every other source's pending bit and every other register but the router's power word stays; a raise with an empty mask is only counted. EVR_SWRAISE_WRITE by the supervisor, the host or a core, whose access takes effect at once, raises the event of each bit written 1, here one bit. EVR_ROUTE_WRITE whose access takes effect at once stores the target mask and the priority, and only the supervisor's write changes the supervisor's bit; no other register of the router changes. -/
def Obligations.RaisesAreCountedPendingOrMerged : Prop :=
  (∀ (c : Chip) (k : Fin 256), c.awake = true → (c.raise k).rd (R.EVR_CNT k) = .ofNat 32 (min 0xFFFFFFFF ((c.rd (R.EVR_CNT k)).toNat + 1))) ∧
  (∀ (c : Chip) (k : Fin 256) (t : Fin 7), c.awake = true → (c.raise k).pendAt t = (if (c.fget (R.EVR_ROUTE k) F.EVR_ROUTE_TARGET).testBit t then c.pendAt t ||| (1#256 <<< k.val) else c.pendAt t)) ∧
  (∀ (c : Chip) (k : Fin 256) (t : Fin 7), c.awake = true → (c.raise k).rd (R.EVR_MERGE_CNT t) = (if (c.fget (R.EVR_ROUTE k) F.EVR_ROUTE_TARGET).testBit t ∧ (c.pendAt t).getLsbD k = true then .ofNat 32 (min 0xFFFFFFFF ((c.rd (R.EVR_MERGE_CNT t)).toNat + 1)) else c.rd (R.EVR_MERGE_CNT t))) ∧
  (∀ (c : Chip) (k : Fin 256) (a : Nat), a ≠ R.EVR_CNT k → (∀ t : Fin 7, a ≠ R.EVR_MERGE_CNT t) → a ≠ R.SYS_BLK_POWER 0 → (c.raise k).rd a = c.rd a) ∧
  (∀ (rq : Req) (j : Fin 16) (s : State), rq.code ≤ 5 → s.chip.atOnce rq R.EVR_SWRAISE 1 = true → exec (.evrSwraiseWrite rq (.ofNat 32 (2 ^ j.val))) s = .next (s.onChip fun c => (c.ungate 0).wr R.EVR_SWRAISE (s.chip.rd R.EVR_SWRAISE) |>.raise (240 + j))) ∧
  (∀ (rq : Req) (k : Fin 256) (data : Word) (s : State), s.chip.atOnce rq (R.EVR_ROUTE k) 1 = true → ∃ c', exec (.evrRouteWrite rq k data) s = .next { s with chip := c' } ∧ c'.fget (R.EVR_ROUTE k) F.EVR_ROUTE_PRIO = F.EVR_ROUTE_PRIO.get data ∧ (∀ t, t < 7 → t ≠ 4 → (c'.fget (R.EVR_ROUTE k) F.EVR_ROUTE_TARGET).testBit t = (F.EVR_ROUTE_TARGET.get data).testBit t) ∧ (c'.fget (R.EVR_ROUTE k) F.EVR_ROUTE_TARGET).testBit 4 = (if rq = .sup then F.EVR_ROUTE_TARGET.get data else s.chip.fget (R.EVR_ROUTE k) F.EVR_ROUTE_TARGET).testBit 4 ∧ Only [Blk.sys, (R.EVR_ROUTE k, R.EVR_ROUTE k + 4)] s.chip c')

/-- HSP_CS_FALL in a mode other than STORAGE, no frame open: a frame is open with the status word of that moment (R305 to R307). HSP_NOP in an open frame: it ends and is counted; no other register changes (R309). HSP_WRITE of one word of a ready port to an aligned SRAM host address in an open bank that is not LOST, powered: the word stands there, every other byte stays, the frame is over; only the frame count changes among the registers (R309, R311). HSP_WRITE_FIXED of two words there: the last stands there, every other byte stays. HSP_WRITE_PKT of a ready port to the push register of an enabled queue of the host that is at a packet start and has room, the host not held: the packet is appended whole and committed (R310, R313). An unaligned HSP_WRITE is refused with code 3, EV018 and the counts (R310). One of a port that is not ready with code 7. HSP_SHORT_OR_BAD_OPCODE_FRAME of fewer than 32 clocks with code 1; the frame is not counted. Of an unlisted opcode of 0x30 or above with code 2. -/
def Obligations.HostFramesWriteAndAreRefused : Prop :=
  (∀ (mode3 : Bool) (s : State), s.chip.mode ≠ 0 → s.chip.hsp.inFrame = false → ∃ c', exec (.hspCsFall mode3) s = .next { s with chip := c' } ∧ c'.hsp.inFrame = true ∧ c'.hsp.frameErr = false ∧ c'.hsp.status = s.chip.statusWord ∧ c'.hsp.quad = s.chip.flag R.HSP_CFG F.HSP_CFG_QUAD ∧ Only [] s.chip c') ∧
  (∀ (addr : BitVec 24) (s : State), s.chip.hsp.inFrame = true → ∃ c', exec (.hspNop addr) s = .next { s with chip := c' } ∧ c'.hsp.inFrame = false ∧ c'.rd R.HSP_FRAME_CNT = s.chip.rd R.HSP_FRAME_CNT + 1 ∧ (∀ a, a ≠ R.HSP_FRAME_CNT → c'.rd a = s.chip.rd a)) ∧
  (∀ (addr : BitVec 24) (x : Word) (s : State), s.chip.hsp.inFrame = true ∧ s.chip.hsp.ready = true → 0x400000 ≤ addr.toNat ∧ addr.toNat < 0x800000 ∧ addr.toNat % 4 = 0 → s.chip.awake = true ∧ s.chip.bankOpen (s.chip.hostAddr addr.toNat) = true ∧ s.chip.bankLost (s.chip.hostAddr addr.toNat) = false → ∃ t, exec (.hspWrite addr [x] false) s = .next t ∧ Memory.word t.sram (s.chip.hostAddr addr.toNat) = x ∧ ((∀ a, a < s.chip.hostAddr addr.toNat ∨ s.chip.hostAddr addr.toNat + 4 ≤ a → Memory.read t.sram a = Memory.read s.sram a)) ∧ t.chip.hsp.inFrame = false ∧ (∀ a, a ≠ R.HSP_FRAME_CNT → t.chip.rd a = s.chip.rd a)) ∧
  (∀ (addr : BitVec 24) (x y : Word) (s : State), s.chip.hsp.inFrame = true ∧ s.chip.hsp.ready = true → 0x400000 ≤ addr.toNat ∧ addr.toNat < 0x800000 ∧ addr.toNat % 4 = 0 → s.chip.awake = true ∧ s.chip.bankOpen (s.chip.hostAddr addr.toNat) = true ∧ s.chip.bankLost (s.chip.hostAddr addr.toNat) = false → ∃ t, exec (.hspWriteFixed addr [x, y] false) s = .next t ∧ Memory.word t.sram (s.chip.hostAddr addr.toNat) = y ∧ ((∀ a, a < s.chip.hostAddr addr.toNat ∨ s.chip.hostAddr addr.toNat + 4 ≤ a → Memory.read t.sram a = Memory.read s.sram a)) ∧ (∀ a, a ≠ R.HSP_FRAME_CNT → t.chip.rd a = s.chip.rd a)) ∧
  (∀ (q : Fin 32) (x : Word) (ws : List Word) (s : State), s.chip.hsp.inFrame = true ∧ s.chip.hsp.ready = true → s.chip.awake = true → s.chip.stalled .host = false → s.chip.isProducer .host q = true ∧ s.chip.qEnabled q = true → (s.chip.queue q).inPacket = false ∧ (s.chip.queue q).dropping = false → ws.length + 1 ≤ s.chip.qFree q → ∃ c', exec (.hspWritePkt (.ofNat 24 (0x800000 + (R.Q_PUSH q - 0x40000000))) (x :: ws) false) s = .next { s with chip := c' } ∧ (c'.queue q).fill = (s.chip.queue q).fill ++ packetWords (x :: ws) ∧ c'.rd (R.Q_PKT_CNT q) = s.chip.rd (R.Q_PKT_CNT q) + 1 ∧ c'.hsp.inFrame = false ∧ Only [Blk.sys, Blk.evr, Blk.que, Blk.hsp] s.chip c') ∧
  (∀ (addr : BitVec 24) (ws : List Word) (part : Bool) (s : State), s.chip.hsp.inFrame = true → s.chip.awake = true → addr.toNat % 4 ≠ 0 → ∃ c', exec (.hspWrite addr ws part) s = .next { s with chip := c' } ∧ c'.fget R.HSP_ERR_INFO F.HSP_ERR_INFO_CODE = 3 ∧ c'.fget R.HSP_ERR_INFO F.HSP_ERR_INFO_OPCODE = 2 ∧ c'.hsp.frameErr = true ∧ c'.rd (R.HSP_FRAME_ERR_CNT) = .ofNat 32 (min 0xFFFFFFFF ((s.chip.rd (R.HSP_FRAME_ERR_CNT)).toNat + 1)) ∧ c'.rd (R.EVR_CNT 18) = .ofNat 32 (min 0xFFFFFFFF ((s.chip.rd (R.EVR_CNT 18)).toNat + 1))) ∧
  (∀ (addr : BitVec 24) (x : Word) (s : State), s.chip.hsp.inFrame = true ∧ s.chip.hsp.ready = false → s.chip.awake = true → 0x400000 ≤ addr.toNat ∧ addr.toNat < 0x800000 ∧ addr.toNat % 4 = 0 → ∃ c', exec (.hspWrite addr [x] false) s = .next { s with chip := c' } ∧ c'.fget R.HSP_ERR_INFO F.HSP_ERR_INFO_CODE = 7 ∧ c'.fget R.HSP_ERR_INFO F.HSP_ERR_INFO_OPCODE = 2 ∧ c'.hsp.frameErr = true ∧ c'.rd (R.HSP_FRAME_ERR_CNT) = .ofNat 32 (min 0xFFFFFFFF ((s.chip.rd (R.HSP_FRAME_ERR_CNT)).toNat + 1)) ∧ c'.rd (R.EVR_CNT 18) = .ofNat 32 (min 0xFFFFFFFF ((s.chip.rd (R.EVR_CNT 18)).toNat + 1))) ∧
  (∀ (clocks : Nat) (op : BitVec 8) (addr : BitVec 24) (s : State), s.chip.hsp.inFrame = true → s.chip.awake = true → clocks < 32 → ∃ c', exec (.hspShortOrBadOpcodeFrame clocks op addr) s = .next { s with chip := c' } ∧ c'.fget R.HSP_ERR_INFO F.HSP_ERR_INFO_CODE = 1 ∧ c'.rd R.HSP_FRAME_CNT = s.chip.rd R.HSP_FRAME_CNT ∧ c'.hsp.inFrame = false ∧ c'.hsp.frameErr = true ∧ c'.rd (R.HSP_FRAME_ERR_CNT) = .ofNat 32 (min 0xFFFFFFFF ((s.chip.rd (R.HSP_FRAME_ERR_CNT)).toNat + 1))) ∧
  (∀ (clocks : Nat) (op : BitVec 8) (addr : BitVec 24) (s : State), s.chip.hsp.inFrame = true → s.chip.awake = true → 32 ≤ clocks → 0x30 ≤ op.toNat → ∃ c', exec (.hspShortOrBadOpcodeFrame clocks op addr) s = .next { s with chip := c' } ∧ c'.fget R.HSP_ERR_INFO F.HSP_ERR_INFO_CODE = 2 ∧ c'.fget R.HSP_ERR_INFO F.HSP_ERR_INFO_OPCODE = op.toNat ∧ c'.hsp.frameErr = true ∧ c'.rd (R.HSP_FRAME_ERR_CNT) = .ofNat 32 (min 0xFFFFFFFF ((s.chip.rd (R.HSP_FRAME_ERR_CNT)).toNat + 1)) ∧ c'.rd (R.EVR_CNT 18) = .ofNat 32 (min 0xFFFFFFFF ((s.chip.rd (R.EVR_CNT 18)).toNat + 1)))

/-- HSP_READ_REQ of a ready port, the host not held, to an aligned range, with no request in progress and no response waiting: the request is in progress and the frame over; only the frame count changes among the registers (R314). HSP_READ_REQ_FIXED likewise. DEFERRED_READS_DONE of a request for one SRAM word in an open bank that is not LOST, powered, nothing else of the host waiting: the response holds the word, EV017 is raised (R314). HSP_FETCH in an open frame: the first words of the response are clocked out, and a response taken whole is released (R315). HSP_FP_READ in an open frame at an aligned offset: words of the front buffer from there on (R309). FP_CAPTURE_TICK of a powered, ready module with an empty back buffer: the front buffer stays; the back one holds the time, the mode word, and of every channel its word, or the old one marked STALE where its link is down; no register changes (R317 to R322). While a swap waits it is skipped and counted, EV020 (R318). FP_SWAP outside a frame: the back buffer is the front one, with FP_SEQ one greater; no register changes (R318). -/
def Obligations.HostReadsAndTheFaceplate : Prop :=
  (∀ (n : Fin 16) (addr : BitVec 24) (s : State), s.chip.hsp.inFrame = true ∧ s.chip.hsp.ready = true → s.chip.stalled .host = false → 0x400000 ≤ addr.toNat ∧ addr.toNat + 4 * n.val < 0x1000000 ∧ addr.toNat % 4 = 0 → s.chip.hsp.busy = none ∧ s.chip.hsp.resp = none → ∃ c', exec (.hspReadReq n addr) s = .next { s with chip := c' } ∧ c'.hsp.busy = some ⟨addr.toNat, false, n.val + 1, true⟩ ∧ c'.hsp.inFrame = false ∧ (∀ a, a ≠ R.HSP_FRAME_CNT → c'.rd a = s.chip.rd a)) ∧
  (∀ (n : Fin 16) (addr : BitVec 24) (s : State), s.chip.hsp.inFrame = true ∧ s.chip.hsp.ready = true → s.chip.stalled .host = false → 0x400000 ≤ addr.toNat ∧ addr.toNat % 4 = 0 → s.chip.hsp.busy = none ∧ s.chip.hsp.resp = none → ∃ c', exec (.hspReadReqFixed n addr) s = .next { s with chip := c' } ∧ c'.hsp.busy = some ⟨addr.toNat, true, n.val + 1, true⟩ ∧ c'.hsp.inFrame = false ∧ (∀ a, a ≠ R.HSP_FRAME_CNT → c'.rd a = s.chip.rd a)) ∧
  (∀ (addr : BitVec 24) (fixed : Bool) (s : State), s.chip.hsp.busy = some ⟨addr.toNat, fixed, 1, true⟩ → (s.chip.busOf .host).held = [] → 0x400000 ≤ addr.toNat ∧ addr.toNat < 0x800000 ∧ addr.toNat % 4 = 0 → s.chip.awake = true ∧ s.chip.bankOpen (s.chip.hostAddr addr.toNat) = true ∧ s.chip.bankLost (s.chip.hostAddr addr.toNat) = false → ∃ c', exec (.deferredReadsDone) s = .next { s with chip := c' } ∧ c'.hsp.busy = none ∧ c'.hsp.resp = some (addr.toNat, [(Memory.word s.sram (s.chip.hostAddr addr.toNat), 0)]) ∧ c'.rd (R.EVR_CNT 17) = .ofNat 32 (min 0xFFFFFFFF ((s.chip.rd (R.EVR_CNT 17)).toNat + 1)) ∧ Only [Blk.sys, Blk.evr] s.chip c') ∧
  (∀ (addr : BitVec 24) (words : Nat) (s : State), s.chip.hsp.inFrame = true → ∃ c', exec (.hspFetch addr words) s = .next { s with chip := c' } ∧ (c'.hsp.out = (List.range words).map fun k => s.chip.response[k]?.getD 0) ∧ c'.hsp.resp = (if s.chip.hsp.resp ≠ none ∧ s.chip.response.length ≤ words then none else s.chip.hsp.resp) ∧ (∀ a, a ≠ R.HSP_FRAME_CNT → c'.rd a = s.chip.rd a)) ∧
  (∀ (addr : BitVec 24) (words : Nat) (s : State), s.chip.hsp.inFrame = true → addr.toNat % 4 = 0 ∧ addr.toNat < 0x1000 → ∃ c', exec (.hspFpRead addr words) s = .next { s with chip := c' } ∧ (c'.hsp.out = (List.range words).map fun k => fpWord s.chip.hsp.front ((addr.toNat + 4 * k) % 0x1000)) ∧ c'.hsp.inFrame = false ∧ (∀ a, a ≠ R.HSP_FRAME_CNT → c'.rd a = s.chip.rd a)) ∧
  (∀ (ms : Bool) (s : State), s.chip.awake = true ∧ s.chip.hsp.ready = true → s.chip.hsp.back = none → ∃ c', exec (.fpCaptureTick ms) s = .next { s with chip := c' } ∧ c'.hsp.front = s.chip.hsp.front ∧ (∃ t, c'.hsp.back = some t ∧ fpWord t 8 = s.chip.mtimeLo ∧ fpWord t 0xC = wordOf [(9, s.chip.fget R.SYS_CLK_STATUS F.SYS_CLK_STATUS_CORE_ON_BACKUP), (8, s.chip.logFull.toNat), (0, s.chip.mode)] ∧ ∀ k < 192, fpWord t (0x40 + 4 * k) = if s.chip.linkUp (2 + k / 48) then s.chip.fpChan k else fpWord s.chip.hsp.front (0x40 + 4 * k) ||| 0x80000000) ∧ Only [] s.chip c') ∧
  (∀ (ms : Bool) (s : State), s.chip.awake = true ∧ s.chip.hsp.ready = true → s.chip.hsp.back ≠ none → ∃ c', exec (.fpCaptureTick ms) s = .next { s with chip := c' } ∧ c'.rd (R.HSP_FP_SKIP_CNT) = .ofNat 32 (min 0xFFFFFFFF ((s.chip.rd (R.HSP_FP_SKIP_CNT)).toNat + 1)) ∧ c'.hsp = s.chip.hsp ∧ c'.rd (R.EVR_CNT 20) = .ofNat 32 (min 0xFFFFFFFF ((s.chip.rd (R.EVR_CNT 20)).toNat + 1))) ∧
  (∀ (t : Tbl Word) (s : State), s.chip.hsp.back = some t → s.chip.hsp.inFrame = false → ∃ c', exec (.fpSwap) s = .next { s with chip := c' } ∧ c'.hsp.back = none ∧ fpWord c'.hsp.front 0 = fpWord s.chip.hsp.front 0 + 1 ∧ (∀ o, o ≠ 0 → fpWord c'.hsp.front o = fpWord t o) ∧ Only [] s.chip c')

/-- Register accesses take effect at once (the module powered, the requester not held, its access admitted). Every other queue stays. Q_PUSH_WRITE by the producer of an enabled queue with room: the word is appended to the filling bank (R326, R327). Q_PUSH_EOP_WRITE there: it is appended with an end mark, and the packet is committed and counted (R327, R328). Q_PUSH_WRITE by another requester that the host port forwards: refused and counted, EV025; queues stay (R326). Q_POP_READ by the consumer: the oldest word of the draining bank is returned and removed (R326, R329). With none: 0 is returned and an underrun counted (R329). Q_BANK_SWAP of an enabled queue other than 29 whose draining bank is empty and whose filling one ends in an end mark: the banks swap (R328). Q_MARK by the producer at a packet start: the mark stands at the filling bank's end (R330). Q_REWIND: the filling bank ends at the mark again (R330). Q_ENABLE by the supervisor of a disabled queue whose configuration allows it: it is enabled and empty, SIZE clamped (R325). Q_DISABLE by the supervisor: it is disabled and empty (R529). HW_PACKET_PUSH of a packet that fits: it is appended whole and counted (R331). One that does not fit is dropped whole and counted, EV024 (R331). -/
def Obligations.QueuesAreFirstInFirstOut : Prop :=
  (∀ (rq : Req) (q : Fin 32) (data : Word) (s : State), s.chip.atOnce rq (R.Q_PUSH q) 1 = true → s.chip.isProducer rq q = true ∧ s.chip.qEnabled q = true → (s.chip.queue q).dropping = false → (s.chip.queue q).fill.length < s.chip.qSize q → ∃ c', exec (.qPushWrite rq q data) s = .next { s with chip := c' } ∧ (c'.queue q).fill = (s.chip.queue q).fill ++ [⟨data, false⟩] ∧ (c'.queue q).drain = (s.chip.queue q).drain ∧ (∀ r, r ≠ q.val → c'.queue r = s.chip.queue r) ∧ Only [Blk.sys] s.chip c') ∧
  (∀ (rq : Req) (q : Fin 32) (data : Word) (s : State), s.chip.atOnce rq (R.Q_PUSH_EOP q) 1 = true → s.chip.isProducer rq q = true ∧ s.chip.qEnabled q = true → (s.chip.queue q).dropping = false → (s.chip.queue q).fill.length < s.chip.qSize q → ∃ c', exec (.qPushEopWrite rq q data) s = .next { s with chip := c' } ∧ (c'.queue q).fill = (s.chip.queue q).fill ++ [⟨data, true⟩] ∧ (c'.queue q).mark = none ∧ c'.rd (R.Q_PKT_CNT q) = s.chip.rd (R.Q_PKT_CNT q) + 1 ∧ (∀ r, r ≠ q.val → c'.queue r = s.chip.queue r) ∧ Only [Blk.sys, Blk.evr, Blk.que] s.chip c') ∧
  (∀ (rq : Req) (q : Fin 32) (data : Word) (s : State), s.chip.atOnce rq (R.Q_PUSH q) 1 = true → s.chip.isProducer rq q = false → ∃ c', exec (.qPushWrite rq q data) s = .next { s with chip := c' } ∧ c'.rd (R.Q_REFUSED_CNT q) = .ofNat 32 (min 0xFFFFFFFF ((s.chip.rd (R.Q_REFUSED_CNT q)).toNat + 1)) ∧ (∀ r, c'.queue r = s.chip.queue r) ∧ c'.rd (R.EVR_CNT 25) = .ofNat 32 (min 0xFFFFFFFF ((s.chip.rd (R.EVR_CNT 25)).toNat + 1)) ∧ Only [Blk.sys, Blk.evr, Blk.que] s.chip c') ∧
  (∀ (rq : Req) (q : Fin 32) (w : QWord) (l : List QWord) (s : State), s.chip.atOnce rq (R.Q_POP q) 0 = true → s.chip.isConsumer rq q = true ∧ s.chip.qEnabled q = true → (s.chip.queue q).drain = w :: l → ∃ c', exec (.qPopRead rq q) s = .next { s with chip := c' } ∧ c'.respOf rq = ⟨R.Q_POP q, w.data, 0⟩ ∧ (c'.queue q).drain = l ∧ (c'.queue q).fill = (s.chip.queue q).fill ∧ (∀ r, r ≠ q.val → c'.queue r = s.chip.queue r) ∧ Only [Blk.sys] s.chip c') ∧
  (∀ (rq : Req) (q : Fin 32) (s : State), s.chip.atOnce rq (R.Q_POP q) 0 = true → s.chip.isConsumer rq q = true ∧ s.chip.qEnabled q = true → (s.chip.queue q).drain = [] → ∃ c', exec (.qPopRead rq q) s = .next { s with chip := c' } ∧ c'.respOf rq = ⟨R.Q_POP q, 0, 0⟩ ∧ c'.rd (R.Q_UNDERRUN_CNT q) = .ofNat 32 (min 0xFFFFFFFF ((s.chip.rd (R.Q_UNDERRUN_CNT q)).toNat + 1)) ∧ (∀ r, c'.queue r = s.chip.queue r) ∧ Only [Blk.sys, Blk.evr, Blk.que] s.chip c') ∧
  (∀ (q : Fin 32) (s : State), s.chip.awake = true → q.val ≠ 29 → s.chip.qEnabled q = true → (s.chip.queue q).drain = [] ∧ (s.chip.queue q).fill ≠ [] ∧ (s.chip.queue q).inPacket = false → ∃ c', exec (.qBankSwap q) s = .next { s with chip := c' } ∧ (c'.queue q).drain = (s.chip.queue q).fill ∧ (c'.queue q).fill = [] ∧ (c'.queue q).bank = 1 - (s.chip.queue q).bank ∧ (∀ r, r ≠ q.val → c'.queue r = s.chip.queue r) ∧ Only [] s.chip c') ∧
  (∀ (rq : Req) (q : Fin 32) (s : State), s.chip.atOnce rq (R.Q_PROD_CTRL q) 1 = true → s.chip.isProducer rq q = true ∧ s.chip.qEnabled q = true → (s.chip.queue q).atStart = true → ∃ c', exec (.qMark rq q) s = .next { s with chip := c' } ∧ c'.queue q = { s.chip.queue q with mark := some (s.chip.queue q).fill.length } ∧ (∀ r, r ≠ q.val → c'.queue r = s.chip.queue r) ∧ Only [Blk.sys] s.chip c') ∧
  (∀ (rq : Req) (q : Fin 32) (k : Nat) (s : State), s.chip.atOnce rq (R.Q_PROD_CTRL q) 1 = true → s.chip.isProducer rq q = true ∧ s.chip.qEnabled q = true → (s.chip.queue q).mark = some k → ∃ c', exec (.qRewind rq q) s = .next { s with chip := c' } ∧ c'.queue q = { s.chip.queue q with fill := (s.chip.queue q).fill.take k, dropping := false } ∧ (∀ r, r ≠ q.val → c'.queue r = s.chip.queue r) ∧ Only [Blk.sys] s.chip c') ∧
  (∀ (q : Fin 32) (data : Word) (s : State), s.chip.atOnce .sup (R.Q_CFG q) 1 = true → s.chip.qEnabled q = false → s.chip.qMayEnable q (qCfgMerge q (s.chip.rd (R.Q_CFG q)) (F.Q_CFG_EN.put data 1)) = true → ∃ c', exec (.qEnable .sup q data) s = .next { s with chip := c' } ∧ c'.qEnabled q = true ∧ c'.queue q = {} ∧ c'.fget (R.Q_CFG q) F.Q_CFG_SIZE = min 256 (F.Q_CFG_SIZE.get data) ∧ (∀ r, r ≠ q.val → c'.queue r = s.chip.queue r) ∧ Only [Blk.sys, (R.Q_CFG q, R.Q_CFG q + 4)] s.chip c') ∧
  (∀ (q : Fin 32) (data : Word) (s : State), s.chip.atOnce .sup (R.Q_CFG q) 1 = true → ∃ c', exec (.qDisable .sup q data) s = .next { s with chip := c' } ∧ c'.qEnabled q = false ∧ c'.queue q = {} ∧ (∀ r, r ≠ q.val → c'.queue r = s.chip.queue r)) ∧
  (∀ (q : Fin 32) (x : Word) (ws : List Word) (s : State), s.chip.awake = true → s.chip.fget (R.Q_CFG q) F.Q_CFG_PROD = 15 → ws.length + 1 ≤ s.chip.qFree q → ∃ c', exec (.hwPacketPush q (x :: ws)) s = .next { s with chip := c' } ∧ (c'.queue q).fill = (s.chip.queue q).fill ++ packetWords (x :: ws) ∧ c'.rd (R.Q_PKT_CNT q) = s.chip.rd (R.Q_PKT_CNT q) + 1 ∧ (∀ r, r ≠ q.val → c'.queue r = s.chip.queue r) ∧ Only [Blk.sys, Blk.evr, Blk.que] s.chip c') ∧
  (∀ (q : Fin 32) (x : Word) (ws : List Word) (s : State), s.chip.awake = true → s.chip.fget (R.Q_CFG q) F.Q_CFG_PROD = 15 → s.chip.qFree q < ws.length + 1 → ∃ c', exec (.hwPacketPush q (x :: ws)) s = .next { s with chip := c' } ∧ (∀ r, c'.queue r = s.chip.queue r) ∧ c'.rd (R.Q_DROP_CNT q) = .ofNat 32 (min 0xFFFFFFFF ((s.chip.rd (R.Q_DROP_CNT q)).toNat + 1)) ∧ c'.rd (R.EVR_CNT 24) = .ofNat 32 (min 0xFFFFFFFF ((s.chip.rd (R.EVR_CNT 24)).toNat + 1)))

/-- A packet that the supervisor takes from the requester's queue is answered once; the command table stays and only the system block, the event router and the queues change where the Lean says so. SI_READ with a payload: BAD_ARG with ARG 0 (R338). SI_READ with a tag in flight: BAD_ARG with DUP_TAG (R334, R338). With the quota reached: BUSY, EV224 (R343). Outside the requester's range mask: NOT_OWNER (R338). BAD_OPCODE_COMMAND of an opcode that is not defined: BAD_OPCODE (R338). CH_SET_CFG of a sealed channel by its owner: DENIED, EV226, and CH_CFG keeps its value (R351). Without a packet, or for a requester that is not served, SI_READ changes nothing. -/
def Obligations.CommandsAreCheckedAndRefused : Prop :=
  (∀ (rq : Req) (tag : Nat) (ws : List Word) (s : State), tag < 128 → ws ≠ [] ∧ ws.length ≤ 62 → s.chip.serves rq = true → s.chip.headPacket (cmdQueue rq) = cmdHeader 0x5A tag ws.length :: ws → ∃ c', exec (.siRead rq) s = .next { s with chip := c' } ∧ s.chip.served c' rq 0x5A tag ws.length .badArg [0xFFFF] ∧ c'.cmds = s.chip.cmds ∧ Only [Blk.sys, Blk.evr, Blk.que] s.chip c') ∧
  (∀ (rq : Req) (tag : Nat) (s : State), tag < 128 → s.chip.serves rq = true → s.chip.headPacket (cmdQueue rq) = [cmdHeader 0x5A tag 0] → ((s.chip.cmds.any fun x => x.rq == rq && x.tag == tag) = true) → ∃ c', exec (.siRead rq) s = .next { s with chip := c' } ∧ (c'.queue (compQueue rq)).fill = (s.chip.queue (compQueue rq)).fill ++ packetWords (s.chip.compPacket 0x5A tag .badArg 512 [0xFFFF]) ∧ c'.cmds = s.chip.cmds ∧ Only [Blk.sys, Blk.evr, Blk.que] s.chip c') ∧
  (∀ (rq : Req) (tag : Nat) (s : State), tag < 128 → s.chip.serves rq = true → s.chip.headPacket (cmdQueue rq) = [cmdHeader 0x5A tag 0] → ((s.chip.cmds.any fun x => x.rq == rq && x.tag == tag) = false) → s.chip.quotas.getD rq.code 0 ≤ s.chip.ownEntries rq → ∃ c', exec (.siRead rq) s = .next { s with chip := c' } ∧ s.chip.served c' rq 0x5A tag 0 .busy [0xFF00FFFF] ∧ c'.rd (R.EVR_CNT 224) = .ofNat 32 (min 0xFFFFFFFF ((s.chip.rd (R.EVR_CNT 224)).toNat + 1)) ∧ c'.cmds = s.chip.cmds ∧ Only [Blk.sys, Blk.evr, Blk.que] s.chip c') ∧
  (∀ (rq : Req) (tag : Nat) (s : State), tag < 128 → s.chip.serves rq = true → s.chip.headPacket (cmdQueue rq) = [cmdHeader 0x5A tag 0] → ((s.chip.cmds.any fun x => x.rq == rq && x.tag == tag) = false) → s.chip.ownEntries rq < s.chip.quotas.getD rq.code 0 ∧ s.chip.entries < 128 → s.chip.rangeAdmits rq 0x5A = false → ∃ c', exec (.siRead rq) s = .next { s with chip := c' } ∧ s.chip.served c' rq 0x5A tag 0 .notOwner [0xFF00FFFF] ∧ c'.cmds = s.chip.cmds ∧ Only [Blk.sys, Blk.evr, Blk.que] s.chip c') ∧
  (∀ (rq : Req) (tag op : Nat) (ws : List Word) (s : State), tag < 128 ∧ op < 256 → definedOp op = false → ws.length ≤ 62 → s.chip.serves rq = true → s.chip.headPacket (cmdQueue rq) = cmdHeader op tag ws.length :: ws → ∃ c', exec (.badOpcodeCommand rq) s = .next { s with chip := c' } ∧ s.chip.served c' rq op tag ws.length .badOpcode [0xFFFF] ∧ c'.cmds = s.chip.cmds ∧ Only [Blk.sys, Blk.evr, Blk.que] s.chip c') ∧
  (∀ (rq : Req) (tag : Nat) (ch : Fin 192) (x : Word) (s : State), s.chip.offers rq 0x11 tag [(.ofNat 32 (ch) : Word), x] → isSealed ch = true → s.chip.ownerOf (s.chip.lead ch) = rq.code → ∃ c', exec (.chSetCfg rq) s = .next { s with chip := c' } ∧ s.chip.served c' rq 0x11 tag 2 .denied [detail 0xFF 0 ch] ∧ c'.rd (R.EVR_CNT 226) = .ofNat 32 (min 0xFFFFFFFF ((s.chip.rd (R.EVR_CNT 226)).toNat + 1)) ∧ c'.rd (R.CH_CFG ch) = s.chip.rd (R.CH_CFG ch)) ∧
  (∀ (rq : Req) (s : State), (s.chip.headPacket (cmdQueue rq) = [] ∨ s.chip.serves rq = false) → exec (.siRead rq) s = .next (s))

/-- Each packet passes the common checks, is taken, and is answered as said. NOP: OK with no result; the table stays. GET_VERSION: OK with the nine version words in use. CMD_CANCEL of a tag not in flight: OK with 2; the table stays. CMD_ABORT with nothing in flight: OK with 2. CMD_CANCEL of the one mode request that waits: it completes CANCELLED, no entry is pending, and CMD_CANCEL completes OK with 0. CMD_ABORT of the one started load identification: it completes ABORTED, then CMD_ABORT OK with 0, and the table is empty. GET_LIMITS: OK with the entries and the ranges. SET_QUOTA by a core: OK, and that quota alone changes. GET_BOOT_REPORT: OK with the 32 words of the report. CFG_WRITE of one word: OK with 1, stored in its record alone; DENIED for a record that the policy governs. EVR_SET_ROUTE: OK; the route's priority and host bit are the written ones, the supervisor's bit stays. SYS_RESET of the control die by a core: OK, and the reset is due. SYS_RESET of the field or access die by a core with its link up: it waits in the table, and that link is down. -/
def Obligations.SystemCommandsDo : Prop :=
  (∀ (rq : Req) (tag : Nat) (s : State), s.chip.offers rq 0 tag [] → ∃ c', exec (.nop rq) s = .next { s with chip := c' } ∧ s.chip.served c' rq 0 tag 0 .ok [] ∧ c'.cmds = s.chip.cmds ∧ Only [Blk.sys, Blk.evr, Blk.que] s.chip c') ∧
  (∀ (rq : Req) (tag : Nat) (s : State), s.chip.offers rq 1 tag [] → ∃ c', exec (.getVersion rq) s = .next { s with chip := c' } ∧ (s.chip.served c' rq 1 tag 0 .ok (s.chip.firmware 0 :: s.chip.firmware 8 :: (List.range 7).map fun d => s.chip.firmware (d + 1))) ∧ Only [Blk.sys, Blk.evr, Blk.que] s.chip c') ∧
  (∀ (rq : Req) (tag : Nat) (x : Fin 128) (s : State), s.chip.offers rq 2 tag [(.ofNat 32 (x) : Word)] → ((s.chip.cmds.any fun y => y.rq == rq && y.tag == x.val) = false) → ∃ c', exec (.cmdCancel rq) s = .next { s with chip := c' } ∧ s.chip.served c' rq 2 tag 1 .ok [2] ∧ c'.cmds = s.chip.cmds ∧ Only [Blk.sys, Blk.evr, Blk.que] s.chip c') ∧
  (∀ (rq : Req) (tag : Nat) (x : Fin 128) (s : State), s.chip.offers rq 3 tag [(.ofNat 32 (x) : Word)] → s.chip.cmds = [] ∧ s.chip.grain.exp = none → ∃ c', exec (.cmdAbort rq) s = .next { s with chip := c' } ∧ s.chip.served c' rq 3 tag 1 .ok [2] ∧ c'.cmds = [] ∧ Only [Blk.sys, Blk.evr, Blk.que] s.chip c') ∧
  (∀ (rq : Req) (tag : Nat) (x : Cmd) (s : State), s.chip.offers rq 2 tag [(.ofNat 32 (x.tag) : Word)] → x.rq = rq ∧ x.op = 0x80 ∧ x.tag < 128 ∧ x.started = false → s.chip.cmds = [x] → ∃ c', exec (.cmdCancel rq) s = .next { s with chip := c' } ∧ c'.cmds = [] ∧ c'.modex.entry = none ∧ (c'.queue (compQueue rq)).fill = (s.chip.queue (compQueue rq)).fill ++ packetWords (s.chip.compPacket 0x80 x.tag .cancelled 0 [detail 0xFF 0 x.obj]) ++ packetWords (s.chip.compPacket 2 tag .ok 0 [0]) ∧ Only [Blk.sys, Blk.evr, Blk.que] s.chip c') ∧
  (∀ (rq : Req) (tag : Nat) (x : Cmd) (s : State), s.chip.offers rq 3 tag [(.ofNat 32 (x.tag) : Word)] → x.rq = rq ∧ x.op = 0x31 ∧ x.tag < 128 ∧ x.started = true → s.chip.cmds = [x] ∧ s.chip.grain.exp = none → ∃ t, exec (.cmdAbort rq) s = .next t ∧ t.chip.cmds = [] ∧ (t.chip.queue (compQueue rq)).fill = (s.chip.queue (compQueue rq)).fill ++ packetWords (s.chip.compPacket 0x31 x.tag .aborted 0 [detail 0xFF 0 x.obj]) ++ packetWords (s.chip.compPacket 3 tag .ok 0 [0])) ∧
  (∀ (rq : Req) (tag : Nat) (s : State), s.chip.offers rq 4 tag [] → ∃ c', exec (.getLimits rq) s = .next { s with chip := c' } ∧ (s.chip.served c' rq 4 tag 0 .ok [wordOf [(16, s.chip.entries), (8, s.chip.ownEntries rq), (0, s.chip.quotas.getD rq.code 0)], wordOf ((List.range 13).map fun r => (r, (s.chip.rangeAdmits rq (16 * r)).toNat))]) ∧ Only [Blk.sys, Blk.evr, Blk.que] s.chip c') ∧
  (∀ (rq : Req) (tag : Nat) (r q : Nat) (s : State), s.chip.offers rq 5 tag [(.ofNat 32 (r + q * 256) : Word)] → isCore rq = true → ((r < 4 ∨ r = 5) ∧ q ≤ 128) → ∃ c', exec (.setQuota rq) s = .next { s with chip := c' } ∧ s.chip.served c' rq 5 tag 1 .ok [] ∧ c'.quotas = s.chip.quotas.set r q ∧ Only [Blk.sys, Blk.evr, Blk.que] s.chip c') ∧
  (∀ (rq : Req) (tag : Nat) (s : State), s.chip.offers rq 6 tag [] → ∃ c', exec (.getBootReport rq) s = .next { s with chip := c' } ∧ (s.chip.served c' rq 6 tag 0 .ok ((List.range 32).map fun w => s.chip.rd (R.SYS_BOOT_REPORT w))) ∧ Only [Blk.sys, Blk.evr, Blk.que] s.chip c') ∧
  (∀ (rq : Req) (tag : Nat) (r o : BitVec 16) (x : Word) (s : State), s.chip.offers rq 7 tag [.ofNat 32 r.toNat, .ofNat 32 o.toNat, x] → ∃ c', exec (.cfgWrite rq) s = .next { s with chip := c' } ∧ (if Config.policyRecord r.toNat = true then s.chip.served c' rq 7 tag 3 .denied [0xFF00FFFF] ∧ c'.records = s.chip.records else s.chip.served c' rq 7 tag 3 .ok [1] ∧ Tbl.get (fun _ => 0) (Tbl.get (fun _ => []) c'.records r.toNat) o.toNat = x ∧ ∀ r', r' ≠ r.toNat → Tbl.get (fun _ => []) c'.records r' = Tbl.get (fun _ => []) s.chip.records r')) ∧
  (∀ (rq : Req) (tag : Nat) (k : Fin 256) (x : Word) (s : State), s.chip.offers rq 8 tag [(.ofNat 32 (k) : Word), x] → layoutOk .EVR_ROUTE [k.val] x = true → ∃ c', exec (.evrSetRoute rq) s = .next { s with chip := c' } ∧ s.chip.served c' rq 8 tag 2 .ok [] ∧ c'.fget (R.EVR_ROUTE k) F.EVR_ROUTE_PRIO = F.EVR_ROUTE_PRIO.get x ∧ (c'.fget (R.EVR_ROUTE k) F.EVR_ROUTE_TARGET).testBit 4 = (s.chip.fget (R.EVR_ROUTE k) F.EVR_ROUTE_TARGET).testBit 4 ∧ (c'.fget (R.EVR_ROUTE k) F.EVR_ROUTE_TARGET).testBit 5 = (F.EVR_ROUTE_TARGET.get x).testBit 5) ∧
  (∀ (rq : Req) (tag : Nat) (s : State), s.chip.offers rq 9 tag [0] → isCore rq = true → ∃ c', exec (.sysReset rq) s = .next { s with chip := c' } ∧ s.chip.served c' rq 9 tag 1 .ok [] ∧ c'.modex.resetDue = some 0x11 ∧ Only [Blk.sys, Blk.evr, Blk.que] s.chip c') ∧
  (∀ (rq : Req) (tag : Nat) (d : Nat) (s : State), s.chip.offers rq 9 tag [(.ofNat 32 (d) : Word)] → isCore rq = true → (d = 6 ∨ d = 7) → s.chip.linkUp d = true → ∃ c', exec (.sysReset rq) s = .next { s with chip := c' } ∧ s.chip.waits c' rq 9 tag [(.ofNat 32 (d) : Word)] (d) true ∧ c'.linkUp d = false)

/-- A packet is offered by its requester, its words fit their registers; of a channel its requester is the owner, it is not sealed, and DISABLED only where said. CH_SET with PWM_VALID: OK with the status; mode, duty and ceiling and the PWM word are written (R352). CH_SET_CFG: OK; CH_CFG holds the word and the identification is armed (R97, R183). CH_COMMIT of no channel: OK; the count of commits is one higher (R91). CH_SET_OWNER of a channel that is no start enable and in no group that is on: OK; the new owner, whose mode word is the active one (R88). CH_DISABLE with ENABLE of a DISABLED single channel: OK; it is OFF (R153). CH_DISABLE of an OFF single channel: OK; it is DISABLED (R153). CH_REARM of a cool LATCHED_OFF channel: OK with both status words; it is OFF (R141). CH_SET_PROT: OK; protection, wire and limp configuration hold the words (R151). CH_SET_PAIR of two free channels of the requester, no fixed pair: OK; they are a pair (R73). CH_GET: OK with six words of status and measurement; only system, event and queue registers change (R168). PROFILE_WRITE of a user profile: OK; header, first and last segment hold the words (R103). IS_SET with no waiting start: OK; both registers hold the words (R116). HOLD_SET: OK; PWR_HOLD_TIME holds the word (R157). FLASH_SET of owned channels in no group: OK; configuration and masks hold the words (R221). -/
def Obligations.ChannelCommandsDo : Prop :=
  (∀ (rq : Req) (tag : Nat) (ch : Fin 192) (x y : Word) (s : State), s.chip.offers rq 0x10 tag [(.ofNat 32 (ch + 256) : Word), x, y] → isSealed ch = false ∧ s.chip.ownerOf (s.chip.lead ch) = rq.code ∧ s.chip.linkUp (physDie ch) = true ∧ s.chip.inStep (physDie ch) = true → s.chip.chState (s.chip.lead ch) ≠ .disabled → s.chip.oddMember ch = false → F.CH_CMD_REARM.get x = 0 ∧ F.CH_CMD_APPLY.get x = 0 ∧ F.CH_CMD_MODE.get x < 4 → layoutOk .CH_CMD [pdie ch, ch % 48] x = true → layoutOk .CH_PWM [pdie ch, ch % 48] y = true → ∃ c', exec (.chSet rq) s = .next { s with chip := c' } ∧ s.chip.served c' rq 0x10 tag 3 .ok [s.chip.statusOf ch] ∧ c'.fget (R.CH_CMD ch) F.CH_CMD_MODE = F.CH_CMD_MODE.get x ∧ c'.fget (R.CH_CMD ch) F.CH_CMD_DUTY = F.CH_CMD_DUTY.get x ∧ c'.fget (R.CH_CMD ch) F.CH_CMD_CEIL = F.CH_CMD_CEIL.get x ∧ c'.took .CH_PWM (R.CH_PWM ch) y ∧ c'.cmds = s.chip.cmds ∧ Only [Blk.sys, Blk.evr, Blk.que, Blk.pwr (pdie ch)] s.chip c') ∧
  (∀ (rq : Req) (tag : Nat) (ch : Fin 192) (x : Word) (s : State), s.chip.offers rq 0x11 tag [(.ofNat 32 (ch) : Word), x] → isSealed ch = false ∧ s.chip.ownerOf (s.chip.lead ch) = rq.code ∧ s.chip.linkUp (physDie ch) = true ∧ s.chip.inStep (physDie ch) = true → s.chip.chState (s.chip.lead ch) ≠ .disabled → s.chip.oddMember ch = false → layoutOk .CH_CFG [pdie ch, ch % 48] x = true → ∃ c', exec (.chSetCfg rq) s = .next { s with chip := c' } ∧ s.chip.served c' rq 0x11 tag 2 .ok [] ∧ c'.took .CH_CFG (R.CH_CFG ch) x ∧ c'.fget (R.CH_LID_CTRL ch) F.CH_LID_CTRL_ARM = 1 ∧  Only [Blk.sys, Blk.evr, Blk.que, Blk.pwr (pdie ch)] s.chip c') ∧
  (∀ (rq : Req) (tag : Nat) (n : Fin 4) (s : State), s.chip.offers rq 0x12 tag [(.ofNat 32 (n) : Word), 0, 0] → s.chip.linkUp (n + 2) = true ∧ s.chip.inStep (n + 2) = true → ∃ c', exec (.chCommit rq) s = .next { s with chip := c' } ∧ s.chip.served c' rq 0x12 tag 3 .ok [s.chip.rd (R.PWR_COMMIT_CNT n) + 1] ∧ c'.rd (R.PWR_COMMIT_CNT n) = s.chip.rd (R.PWR_COMMIT_CNT n) + 1 ∧ Only [Blk.sys, Blk.evr, Blk.que, Blk.pwr n] s.chip c') ∧
  (∀ (rq : Req) (tag : Nat) (ch : Fin 192) (o : Fin 6) (s : State), s.chip.offers rq 0x13 tag [(.ofNat 32 (ch) : Word), (.ofNat 32 (o) : Word)] → isSealed ch = false ∧ s.chip.ownerOf (s.chip.lead ch) = rq.code ∧ s.chip.linkUp (physDie ch) = true ∧ s.chip.inStep (physDie ch) = true → s.chip.chState (s.chip.lead ch) ≠ .disabled → s.chip.isStartEnable ch = false ∧ s.chip.isStartEnable (s.chip.lead ch) = false → s.chip.inGroup ch true = false → ∃ c', exec (.chSetOwner rq) s = .next { s with chip := c' } ∧ s.chip.served c' rq 0x13 tag 2 .ok [] ∧ c'.ownerOf (s.chip.lead ch) = o ∧ c'.rd (R.CH_CMD (s.chip.lead ch)) = s.chip.rd (R.CH_ACTIVE_CMD (s.chip.lead ch)) ∧ Only [Blk.sys, Blk.evr, Blk.que, Blk.pwr (pdie ch)] s.chip c') ∧
  (∀ (rq : Req) (tag : Nat) (ch : Fin 192) (s : State), s.chip.offers rq 0x14 tag [(.ofNat 32 (ch + 512) : Word)] → isSealed ch = false ∧ s.chip.ownerOf (s.chip.lead ch) = rq.code ∧ s.chip.linkUp (physDie ch) = true ∧ s.chip.inStep (physDie ch) = true → s.chip.inHold ch = false ∧ s.chip.chState ch = .disabled ∧ s.chip.cmds = [] → s.chip.paired ch = false → ∃ c', exec (.chDisable rq) s = .next { s with chip := c' } ∧ s.chip.served c' rq 0x14 tag 1 .ok [c'.statusOf ch] ∧ c'.chState ch = .off) ∧
  (∀ (rq : Req) (tag : Nat) (ch : Fin 192) (s : State), s.chip.offers rq 0x14 tag [.ofNat 32 ch] → isSealed ch = false ∧ s.chip.ownerOf (s.chip.lead ch) = rq.code ∧ s.chip.linkUp (physDie ch) = true ∧ s.chip.inStep (physDie ch) = true → s.chip.chState (s.chip.lead ch) ≠ .disabled → s.chip.chState ch = .off ∧ s.chip.paired ch = false → s.chip.cmds = [] → ∃ c', exec (.chDisable rq) s = .next { s with chip := c' } ∧ c'.chState ch = .disabled ∧ c'.cmds = [] ∧ s.chip.served c' rq 0x14 tag 1 .ok [c'.rd (R.CH_STATUS ch)]) ∧
  (∀ (rq : Req) (tag : Nat) (ch : Fin 192) (s : State), s.chip.offers rq 0x15 tag [(.ofNat 32 (ch) : Word)] → isSealed ch = false ∧ s.chip.ownerOf (s.chip.lead ch) = rq.code ∧ s.chip.linkUp (physDie ch) = true ∧ s.chip.inStep (physDie ch) = true → s.chip.chState (s.chip.lead ch) ≠ .disabled → s.chip.oddMember ch = false → s.chip.chState ch = .latchedOff ∧ s.chip.cooled ch = true ∧ s.chip.cmds = [] → ∃ c', exec (.chRearm rq) s = .next { s with chip := c' } ∧ s.chip.served c' rq 0x15 tag 1 .ok [c'.statusOf ch, c'.rd (R.CH_PROT_STATUS ch)] ∧ c'.chState ch = .off) ∧
  (∀ (rq : Req) (tag : Nat) (ch : Fin 192) (x y z : Word) (s : State), s.chip.offers rq 0x16 tag [(.ofNat 32 (ch) : Word), x, y, z] → isSealed ch = false ∧ s.chip.ownerOf (s.chip.lead ch) = rq.code ∧ s.chip.linkUp (physDie ch) = true ∧ s.chip.inStep (physDie ch) = true → s.chip.chState (s.chip.lead ch) ≠ .disabled → layoutOk .CH_PROT_CFG [pdie ch, ch % 48] x = true → layoutOk .CH_WIRE_CFG [pdie ch, ch % 48] y = true → layoutOk .CH_LIMP_CFG [pdie ch, ch % 48] z = true → ∃ c', exec (.chSetProt rq) s = .next { s with chip := c' } ∧ s.chip.served c' rq 0x16 tag 4 .ok [] ∧ c'.took .CH_PROT_CFG (R.CH_PROT_CFG ch) x ∧ c'.took .CH_WIRE_CFG (R.CH_WIRE_CFG ch) y ∧ c'.took .CH_LIMP_CFG (R.CH_LIMP_CFG ch) z ∧ Only [Blk.sys, Blk.evr, Blk.que, Blk.pwr (pdie ch)] s.chip c') ∧
  (∀ (rq : Req) (tag : Nat) (n : Fin 4) (p : Fin 21) (s : State), s.chip.offers rq 0x17 tag [(.ofNat 32 (n + 256 * p + 65536) : Word)] → s.chip.linkUp (n + 2) = true ∧ s.chip.inStep (n + 2) = true → s.chip.ownerOf (s.chip.lead (48 * n + 2 * p)) = rq.code ∧ s.chip.ownerOf (s.chip.lead (48 * n + 2 * p + 1)) = rq.code → s.chip.pairFixed n p = false → s.chip.pairFree (48 * n + 2 * p) = true ∧ s.chip.pairFree (48 * n + 2 * p + 1) = true → ∃ c', exec (.chSetPair rq) s = .next { s with chip := c' } ∧ s.chip.served c' rq 0x17 tag 1 .ok [] ∧ c'.paired (48 * n + 2 * p) = true ∧ Only [Blk.sys, Blk.evr, Blk.que, Blk.pwr n] s.chip c') ∧
  (∀ (rq : Req) (tag : Nat) (ch : Fin 192) (s : State), s.chip.offers rq 0x18 tag [(.ofNat 32 (ch) : Word)] → s.chip.linkUp (physDie ch) = true → ∃ c', exec (.chGet rq) s = .next { s with chip := c' } ∧ s.chip.served c' rq 0x18 tag 1 .ok [s.chip.statusOf ch, s.chip.rd (R.CH_PROT_STATUS ch), s.chip.rd (R.CH_OL_STATUS ch), s.chip.rd (R.CH_I_AVG ch), s.chip.rd (R.CH_VOLT ch), s.chip.rd (R.CH_TJ ch)] ∧ c'.cmds = s.chip.cmds ∧ Only [Blk.sys, Blk.evr, Blk.que] s.chip c') ∧
  (∀ (rq : Req) (tag : Nat) (n : Fin 4) (p : Fin 16) (h a0 a1 a2 a3 a4 a5 a6 a7 : Word) (s : State), s.chip.offers rq 0x19 tag [(.ofNat 32 (n + 256 * p) : Word), h, a0, a1, a2, a3, a4, a5, a6, a7] → 7 ≤ p.val → s.chip.linkUp (n + 2) = true ∧ s.chip.inStep (n + 2) = true → layoutOk .IP_HDR [n.val, p.val] h = true → layoutOk .IP_SEG [n.val, p.val, 0] a0 = true ∧ layoutOk .IP_SEG [n.val, p.val, 1] a1 = true ∧ layoutOk .IP_SEG [n.val, p.val, 2] a2 = true ∧ layoutOk .IP_SEG [n.val, p.val, 3] a3 = true ∧ layoutOk .IP_SEG [n.val, p.val, 4] a4 = true ∧ layoutOk .IP_SEG [n.val, p.val, 5] a5 = true ∧ layoutOk .IP_SEG [n.val, p.val, 6] a6 = true ∧ layoutOk .IP_SEG [n.val, p.val, 7] a7 = true → ∃ c', exec (.profileWrite rq) s = .next { s with chip := c' } ∧ s.chip.served c' rq 0x19 tag 10 .ok [] ∧ c'.took .IP_HDR (R.IP_HDR n p) h ∧ c'.took .IP_SEG (R.IP_SEG n p 0) a0 ∧ c'.took .IP_SEG (R.IP_SEG n p 7) a7 ∧ Only [Blk.sys, Blk.evr, Blk.que, Blk.pwr n] s.chip c') ∧
  (∀ (rq : Req) (tag : Nat) (n : Fin 4) (x y : Word) (s : State), s.chip.offers rq 0x1A tag [(.ofNat 32 (n) : Word), x, y] → s.chip.linkUp (n + 2) = true ∧ s.chip.inStep (n + 2) = true → (s.chip.die n).reqs = [] → layoutOk .IS_CTRL [n.val] x = true → layoutOk .IS_BUDGET [n.val] y = true → ∃ c', exec (.isSet rq) s = .next { s with chip := c' } ∧ s.chip.served c' rq 0x1A tag 3 .ok [] ∧ c'.took .IS_CTRL (R.IS_CTRL n) x ∧ c'.took .IS_BUDGET (R.IS_BUDGET n) y ∧ Only [Blk.sys, Blk.evr, Blk.que, Blk.pwr n] s.chip c') ∧
  (∀ (rq : Req) (tag : Nat) (n : Fin 4) (x : Word) (s : State), s.chip.offers rq 0x1B tag [(.ofNat 32 (n) : Word), x] → s.chip.linkUp (n + 2) = true ∧ s.chip.inStep (n + 2) = true → layoutOk .PWR_HOLD_TIME [n.val] x = true → ∃ c', exec (.holdSet rq) s = .next { s with chip := c' } ∧ s.chip.served c' rq 0x1B tag 2 .ok [] ∧ c'.took .PWR_HOLD_TIME (R.PWR_HOLD_TIME n) x ∧ Only [Blk.sys, Blk.evr, Blk.que, Blk.pwr n] s.chip c') ∧
  (∀ (rq : Req) (tag : Nat) (n j : Fin 4) (x y z : Word) (s : State), s.chip.offers rq 0x1C tag [(.ofNat 32 (n + 256 * j) : Word), x, y, z] → s.chip.linkUp (n + 2) = true ∧ s.chip.inStep (n + 2) = true → (((maskChans y.toNat (z.toNat % 65536)).all fun l => s.chip.ownerOf (s.chip.lead (48 * n + l)) == rq.code && !s.chip.inGroup (48 * n + l) false) = true) → layoutOk .PWR_FLASH_CFG [n.val, j.val] x = true → layoutOk .PWR_FLASH_MASK0 [n.val, j.val] y = true → layoutOk .PWR_FLASH_MASK1 [n.val, j.val] z = true → ∃ c', exec (.flashSet rq) s = .next { s with chip := c' } ∧ s.chip.served c' rq 0x1C tag 4 .ok [] ∧ c'.took .PWR_FLASH_CFG (R.PWR_FLASH_CFG n j) x ∧ c'.took .PWR_FLASH_MASK0 (R.PWR_FLASH_MASK0 n j) y ∧ c'.took .PWR_FLASH_MASK1 (R.PWR_FLASH_MASK1 n j) z ∧ Only [Blk.sys, Blk.evr, Blk.que, Blk.pwr n] s.chip c')

/-- A packet is offered by its requester, who owns the channel it names; the channel is not sealed, and its words fit their registers. OL_SET of a channel that is not DISABLED: OK; both open-load registers hold the words (R176). LID_ARM of such a channel that no LID_ARM waits for: it is armed, and the command waits (R183). LID_ARM_WAIT_EXPIRE, where the host's LID_ARM of the channel with a wait is the one command in flight: it ends TIMEOUT and ARM reads 0 (R183). TDR_RUN of a channel whose run is not refused, the die idle: the run is on or pending, the command waits, PWR_TDR_CFG holds the word (R187). XC_TEST of a channel whose test is not refused, no pulse waiting: the channel is the source of the die's test, and the command waits (R180). STREAM_SET: OK; PWR_STREAM_CTRL holds the word (R171). CANT_HEALTH with a velocity factor of 50 to 99 % where no measurement of its kind runs: the factor is written, the measurement is requested, and the command waits (R192). -/
def Obligations.MeasurementCommandsDo : Prop :=
  (∀ (rq : Req) (tag : Nat) (ch : Fin 192) (x y : Word) (s : State), s.chip.offers rq 0x30 tag [(.ofNat 32 (ch) : Word), x, y] → isSealed ch = false ∧ s.chip.ownerOf (s.chip.lead ch) = rq.code ∧ s.chip.linkUp (physDie ch) = true ∧ s.chip.inStep (physDie ch) = true → s.chip.chState (s.chip.lead ch) ≠ .disabled → layoutOk .CH_OL_CFG [pdie ch, ch % 48] x = true → layoutOk .CH_OL_THR [pdie ch, ch % 48] y = true → ∃ c', exec (.olSet rq) s = .next { s with chip := c' } ∧ s.chip.served c' rq 0x30 tag 3 .ok [] ∧ c'.took .CH_OL_CFG (R.CH_OL_CFG ch) x ∧ c'.took .CH_OL_THR (R.CH_OL_THR ch) y ∧ Only [Blk.sys, Blk.evr, Blk.que, Blk.pwr (pdie ch)] s.chip c') ∧
  (∀ (rq : Req) (tag : Nat) (ch : Fin 192) (w : BitVec 16) (s : State), s.chip.offers rq 0x31 tag [(.ofNat 32 (ch) : Word), (.ofNat 32 (w.toNat) : Word)] → isSealed ch = false ∧ s.chip.ownerOf (s.chip.lead ch) = rq.code ∧ s.chip.linkUp (physDie ch) = true ∧ s.chip.inStep (physDie ch) = true → s.chip.chState (s.chip.lead ch) ≠ .disabled → s.chip.cmds.any (onObj 0x31 ch) = false → ∃ c', exec (.lidArm rq) s = .next { s with chip := c' } ∧ s.chip.waits c' rq 0x31 tag [(.ofNat 32 (ch) : Word), (.ofNat 32 (w.toNat) : Word)] (ch) (s.chip.lidStatus ch == 1) ∧ c'.fget (R.CH_LID_CTRL ch) F.CH_LID_CTRL_ARM = 1 ∧ Only [Blk.sys, Blk.evr, Blk.que, Blk.pwr (pdie ch)] s.chip c') ∧
  (∀ (ch : Fin 192) (k : Cmd) (s : State), s.chip.cmds = [k] → k.op = 0x31 ∧ k.obj = ch ∧ k.rq = .host ∧ k.arg 2 ≠ 0 → s.chip.linkUp (physDie ch) = true ∧ s.chip.inStep (physDie ch) = true → ((s.chip.heldComps.all fun h => h.1 ≠ Req.host) = true ∧ 3 ≤ s.chip.qFree 1) → ∃ c', exec (.lidArmWaitExpire ch) s = .next { s with chip := c' } ∧ c'.cmds = [] ∧ c'.fget (R.CH_LID_CTRL ch) F.CH_LID_CTRL_ARM = 0 ∧ (c'.queue 1).fill = (s.chip.queue 1).fill ++ packetWords (s.chip.compPacket 0x31 k.tag .timeout 0 [detail 0xFF 0 ch])) ∧
  (∀ (rq : Req) (tag : Nat) (ch : Fin 192) (x y : Word) (s : State), s.chip.offers rq 0x32 tag [(.ofNat 32 (ch) : Word), x, y] → isSealed ch = false ∧ s.chip.ownerOf (s.chip.lead ch) = rq.code ∧ s.chip.linkUp (physDie ch) = true ∧ s.chip.inStep (physDie ch) = true → F.PWR_TDR_CTRL_SRC.get x = ch % 48 ∧ F.PWR_TDR_CTRL_STOP.get x = 0 → layoutOk .PWR_TDR_CTRL [pdie ch] x = true → layoutOk .PWR_TDR_CFG [pdie ch] y = true → s.chip.tdrRefused (pdie ch) (ch % 48) = false ∧ s.chip.tdrStatus (pdie ch) ≠ 1 ∧ s.chip.tdrStatus (pdie ch) ≠ 5 → ∃ c', exec (.tdrRun rq) s = .next { s with chip := c' } ∧ s.chip.waits c' rq 0x32 tag [(.ofNat 32 (ch) : Word), x, y] (ch) true ∧ (c'.tdrStatus (pdie ch) = 1 ∨ c'.tdrStatus (pdie ch) = 5) ∧ c'.took .PWR_TDR_CFG (R.PWR_TDR_CFG (pdie ch)) y) ∧
  (∀ (rq : Req) (tag : Nat) (ch : Fin 192) (s : State), s.chip.offers rq 0x33 tag [(.ofNat 32 (ch) : Word)] → isSealed ch = false ∧ s.chip.ownerOf (s.chip.lead ch) = rq.code ∧ s.chip.linkUp (physDie ch) = true ∧ s.chip.inStep (physDie ch) = true → s.chip.chState (s.chip.lead ch) ≠ .disabled → ((s.chip.die (pdie ch)).reqs.any fun r => r.pulse) = false → s.chip.xcRefused (pdie ch) (ch % 48) = false ∧ s.chip.cmds = [] → ∃ c', exec (.xcTest rq) s = .next { s with chip := c' } ∧ s.chip.waits c' rq 0x33 tag [(.ofNat 32 (ch) : Word)] (ch) true ∧ ((c'.die (pdie ch)).xc.map (·.1)) = some (ch % 48)) ∧
  (∀ (rq : Req) (tag : Nat) (n : Fin 4) (x : Word) (s : State), s.chip.offers rq 0x34 tag [(.ofNat 32 (n) : Word), x] → s.chip.linkUp (n + 2) = true ∧ s.chip.inStep (n + 2) = true → layoutOk .PWR_STREAM_CTRL [n.val] x = true → ∃ c', exec (.streamSet rq) s = .next { s with chip := c' } ∧ s.chip.served c' rq 0x34 tag 2 .ok [] ∧ c'.took .PWR_STREAM_CTRL (R.PWR_STREAM_CTRL n) x ∧ Only [Blk.sys, Blk.evr, Blk.que, Blk.pwr n] s.chip c') ∧
  (∀ (rq : Req) (tag : Nat) (n : Fin 6) (e : Bool) (v : Nat) (s : State), s.chip.offers rq 0x35 tag [(.ofNat 32 (n + 256 * e.toNat + 65536 * v) : Word)] → 50 ≤ v ∧ v ≤ 99 → s.chip.linkUp 1 = true ∧ s.chip.inStep 1 = true → (s.chip.cant n).phase e = 0 → ∃ c', exec (.cantHealth rq) s = .next { s with chip := c' } ∧ s.chip.waits c' rq 0x35 tag [(.ofNat 32 (n + 256 * e.toNat + 65536 * v) : Word)] (n + 8 * e.toNat) false ∧ c'.fget (R.SEN_CANT_HLTH_CTRL n) F.SEN_CANT_HLTH_CTRL_VF = v ∧ (c'.cant n).phase e ≠ 0)

/-- A packet is offered by its requester and its words fit their registers; each command completes OK. A sink or group is enabled, or the words enable it (log 88). LS_SET with APPLY: current and duty hold the words, and the sink's next values are these, its configuration and EN (R200). LS_CFG: the register holds the word. LS_REARM of a sink in FAULT: it is OFF (R207). LED_COMMIT: the masked sinks capture current, duty, configuration and enable as they stand, the others capture nothing (R200). LF_SET that turns a group on, its member channels the supervisor's and in no flasher: its registers hold the words, and it is ACTIVE (R213). LF_DERATE: the register holds the word (R212). LF_REARM of a FAILED group without members: it is ACTIVE (R215). PE_LOAD of two steps of an engine that does not run: both steps hold the words (R220). PE_START of an engine that does not run: it runs (R219). PE_STOP outside the tick of an engine that runs: it does not run (R219). LED_HR_SET, NTC_SET: the register holds the word (R202, R211). NTC_SET likewise. LED_HOLD_SET likewise (R224). -/
def Obligations.LightingCommandsDo : Prop :=
  (∀ (rq : Req) (tag : Nat) (x : Fin 24) (i d : Word) (e : Bool) (s : State), s.chip.offers rq 0x40 tag [(.ofNat 32 (x + 256) : Word), i, d, (.ofNat 32 (e.toNat) : Word)] → s.chip.linkUp 1 = true ∧ s.chip.inStep 1 = true → layoutOk .LS_ISET [x.val] i = true → layoutOk .LS_DUTY [x.val] d = true → (s.chip.sinkEnabled x = true ∨ e = true) →  ∃ c', exec (.lsSet rq) s = .next { s with chip := c' } ∧ s.chip.served c' rq 0x40 tag 4 .ok [] ∧ c'.took .LS_ISET (R.LS_ISET x) i ∧ c'.took .LS_DUTY (R.LS_DUTY x) d ∧ (c'.sink x).pend = some ⟨c'.rd (R.LS_ISET x), c'.rd (R.LS_DUTY x), s.chip.rd (R.LS_CFG x), e⟩ ∧ Only [Blk.sys, Blk.evr, Blk.que, Blk.sen] s.chip c') ∧
  (∀ (rq : Req) (tag : Nat) (x : Fin 24) (w : Word) (s : State), s.chip.offers rq 0x41 tag [(.ofNat 32 (x) : Word), w] → s.chip.linkUp 1 = true ∧ s.chip.inStep 1 = true → layoutOk .LS_CFG [x.val] w = true → s.chip.sinkEnabled x = true →  ∃ c', exec (.lsCfg rq) s = .next { s with chip := c' } ∧ s.chip.served c' rq 0x41 tag 2 .ok [] ∧ c'.took .LS_CFG (R.LS_CFG x) w ∧ Only [Blk.sys, Blk.evr, Blk.que, Blk.sen] s.chip c') ∧
  (∀ (rq : Req) (tag : Nat) (x : Fin 24) (s : State), s.chip.offers rq 0x42 tag [(.ofNat 32 (x) : Word)] → s.chip.linkUp 1 = true ∧ s.chip.inStep 1 = true → s.chip.sinkRun x = .fault → s.chip.sinkEnabled x = true →  ∃ c', exec (.lsRearm rq) s = .next { s with chip := c' } ∧ s.chip.served c' rq 0x42 tag 1 .ok [c'.rd (R.LS_STATUS x)] ∧ c'.sinkRun x = .off ∧ Only [Blk.sys, Blk.evr, Blk.que, Blk.sen] s.chip c') ∧
  (∀ (rq : Req) (tag : Nat) (m : BitVec 24) (s : State), s.chip.offers rq 0x43 tag [(.ofNat 32 (m.toNat) : Word)] → s.chip.linkUp 1 = true ∧ s.chip.inStep 1 = true → ∃ c', exec (.ledCommit rq) s = .next { s with chip := c' } ∧ s.chip.served c' rq 0x43 tag 1 .ok [] ∧ (∀ x, x < 24 → (c'.sink x).pend = if m.getLsbD x then some ⟨s.chip.rd (R.LS_ISET x), s.chip.rd (R.LS_DUTY x), s.chip.rd (R.LS_CFG x), s.chip.flag (R.LS_CTRL x) F.LS_CTRL_EN⟩ else (s.chip.sink x).pend) ∧ Only [Blk.sys, Blk.evr, Blk.que, Blk.sen] s.chip c') ∧
  (∀ (rq : Req) (tag : Nat) (g : Fin 12) (w lv c01 c23 : Word) (s : State), s.chip.offers rq 0x44 tag [(.ofNat 32 (g) : Word), w, lv, c01, c23] → s.chip.linkUp 1 = true ∧ s.chip.inStep 1 = true → (((memberChans c01 c23).all fun x => decide (x < 188) && s.chip.ownerOf (s.chip.lead x) == 4 && !s.chip.inFlasher x) = true) → layoutOk .LF_CFG [g.val] w = true → layoutOk .LF_LEVEL [g.val] lv = true → layoutOk .LF_CH01 [g.val] c01 = true → layoutOk .LF_CH23 [g.val] c23 = true → F.LF_CFG_EN.get w = 1 ∧ s.chip.flag (R.LF_CFG g) F.LF_CFG_EN = false → ∃ c', exec (.lfSet rq) s = .next { s with chip := c' } ∧ s.chip.served c' rq 0x44 tag 5 .ok [] ∧ c'.took .LF_CFG (R.LF_CFG g) w ∧ c'.took .LF_LEVEL (R.LF_LEVEL g) lv ∧ c'.took .LF_CH01 (R.LF_CH01 g) c01 ∧ c'.took .LF_CH23 (R.LF_CH23 g) c23 ∧ c'.groupState g = 1 ∧ Only [Blk.sys, Blk.evr, Blk.que, Blk.sen] s.chip c') ∧
  (∀ (rq : Req) (tag : Nat) (g : Fin 12) (w : Word) (s : State), s.chip.offers rq 0x45 tag [(.ofNat 32 (g) : Word), w] → s.chip.linkUp 1 = true ∧ s.chip.inStep 1 = true → layoutOk .LF_DERATE [g.val] w = true → s.chip.groupEnabled g = true →  ∃ c', exec (.lfDerate rq) s = .next { s with chip := c' } ∧ s.chip.served c' rq 0x45 tag 2 .ok [] ∧ c'.took .LF_DERATE (R.LF_DERATE g) w ∧ Only [Blk.sys, Blk.evr, Blk.que, Blk.sen] s.chip c') ∧
  (∀ (rq : Req) (tag : Nat) (g : Fin 12) (s : State), s.chip.offers rq 0x46 tag [(.ofNat 32 (g) : Word)] → s.chip.linkUp 1 = true ∧ s.chip.inStep 1 = true → s.chip.groupState g = 2 → s.chip.groupEnabled g = true →  s.chip.groupChans g = [] ∧ s.chip.groupSinks g = [] → ∃ c', exec (.lfRearm rq) s = .next { s with chip := c' } ∧ s.chip.served c' rq 0x46 tag 1 .ok [c'.rd (R.LF_STATUS g)] ∧ c'.groupState g = 1) ∧
  (∀ (rq : Req) (tag : Nat) (e : Fin 8) (k : Fin 63) (x y : Word) (s : State), s.chip.offers rq 0x47 tag [(.ofNat 32 (e + 256 * k) : Word), x, y] → s.chip.linkUp 1 = true ∧ s.chip.inStep 1 = true → s.chip.engRuns e = false → ∃ c', exec (.peLoad rq) s = .next { s with chip := c' } ∧ s.chip.served c' rq 0x47 tag 3 .ok [] ∧ c'.rd (R.PE_STEP e k) = x ∧ c'.rd (R.PE_STEP e (k + 1)) = y ∧ Only [Blk.sys, Blk.evr, Blk.que, (R.PE_STEP e k, R.PE_STEP e k + 8), Blk.sen] s.chip c') ∧
  (∀ (rq : Req) (tag : Nat) (e : Fin 8) (w : Word) (s : State), s.chip.offers rq 0x48 tag [(.ofNat 32 (e) : Word), w] → s.chip.linkUp 1 = true ∧ s.chip.inStep 1 = true → F.PE_CTRL_START.get w = 1 ∧ F.PE_CTRL_STOP.get w = 0 → layoutOk .PE_CTRL [e.val] w = true → s.chip.engRuns e = false → ∃ c', exec (.peStart rq) s = .next { s with chip := c' } ∧ s.chip.served c' rq 0x48 tag 2 .ok [] ∧ c'.engRuns e = true ∧ c'.took .PE_CTRL (R.PE_CTRL e) w ∧ Only [Blk.sys, Blk.evr, Blk.que, Blk.sen] s.chip c') ∧
  (∀ (rq : Req) (tag : Nat) (e : Fin 8) (s : State), s.chip.offers rq 0x49 tag [(.ofNat 32 (e) : Word)] → s.chip.linkUp 1 = true ∧ s.chip.inStep 1 = true → s.chip.engRuns e = true → ∃ c', exec (.peStop rq false) s = .next { s with chip := c' } ∧ s.chip.served c' rq 0x49 tag 1 .ok [c'.rd (R.PE_STATUS e)] ∧ c'.engRuns e = false ∧ Only [Blk.sys, Blk.evr, Blk.que, Blk.sen] s.chip c') ∧
  (∀ (rq : Req) (tag : Nat) (w : Word) (s : State), s.chip.offers rq 0x4A tag [w] → s.chip.linkUp 1 = true ∧ s.chip.inStep 1 = true → layoutOk .LED_HR_CTRL [] w = true → ∃ c', exec (.ledHrSet rq) s = .next { s with chip := c' } ∧ s.chip.served c' rq 0x4A tag 1 .ok [] ∧ c'.took .LED_HR_CTRL R.LED_HR_CTRL w) ∧
  (∀ (rq : Req) (tag : Nat) (i : Fin 8) (w : Word) (s : State), s.chip.offers rq 0x4B tag [(.ofNat 32 (i) : Word), w] → s.chip.linkUp 1 = true ∧ s.chip.inStep 1 = true → layoutOk .NTC_CFG [i.val] w = true → ∃ c', exec (.ntcSet rq) s = .next { s with chip := c' } ∧ s.chip.served c' rq 0x4B tag 2 .ok [] ∧ c'.took .NTC_CFG (R.NTC_CFG i) w ∧ Only [Blk.sys, Blk.evr, Blk.que, Blk.sen] s.chip c') ∧
  (∀ (rq : Req) (tag : Nat) (w : Word) (s : State), s.chip.offers rq 0x4C tag [w] → s.chip.linkUp 1 = true ∧ s.chip.inStep 1 = true → layoutOk .LED_HOLD_TIME [] w = true → ∃ c', exec (.ledHoldSet rq) s = .next { s with chip := c' } ∧ s.chip.served c' rq 0x4C tag 1 .ok [] ∧ c'.took .LED_HOLD_TIME R.LED_HOLD_TIME w ∧ Only [Blk.sys, Blk.evr, Blk.que, Blk.sen] s.chip c')

/-- A packet is offered by its requester and its words fit their registers; each command completes OK. A function is enabled, or the words enable it (log 54). VLV_REQ on of a valve requested already, not in FAULT: at once with its status; only system, event and queue registers change. VLV_REQ off of a valve in OFF, no command in flight: at once; it stays OFF (R237). VLV_SET of a valve in OFF, no command in flight: the three registers hold the words (R245). VLV_REARM of a valve in FAULT that is cool and not requested: it is OFF (R244). VG_SET that keeps PAR: VG_CFG holds the word (R231). VB_SET with all power dies reachable: VB_CTRL holds the word, each threshold is 90 % of VSET (R241). SI_SET of an input that is not bound and has room in PATROL: both registers hold the words (R253). SI_LADDER: the first and last bound hold the words (R252). SI_READ: both state words of one moment and the tamper word; nothing of the sentinel changes (R254). FP_SET_CFG of a point in OFF without a clamp: FP_CFG holds the word (R260). FP_OUT on of an output in OFF, the supply good: it is ON (R263). FP_OUT off of an output that is ON: it is OFF (R263). FP_REARM of a cool output in FAULT with ON = 0: it is OFF (R263). FLD_SUP_SET: the register holds the word (R266). FLD_HOLD_SET: the register holds the word (R269). -/
def Obligations.ValveInputAndFieldCommandsDo : Prop :=
  (∀ (rq : Req) (tag : Nat) (v : Fin 16) (vb : Nat) (s : State), s.chip.offers rq 0x50 tag [(.ofNat 32 (v + 256) : Word)] → s.chip.linkUp (vDie v + 2) = true ∧ s.chip.inStep (vDie v + 2) = true → s.chip.vEnabled v = true ∧ s.chip.vState v ≠ .fault ∧ s.chip.vRequested v = true → ∃ c', exec (.vlvReq rq vb) s = .next { s with chip := c' } ∧ s.chip.served c' rq 0x50 tag 1 .ok [s.chip.rd (R.VLV_STATUS v)] ∧ c'.cmds = s.chip.cmds ∧ Only [Blk.sys, Blk.evr, Blk.que] s.chip c') ∧
  (∀ (rq : Req) (tag : Nat) (v : Fin 16) (vb : Nat) (s : State), s.chip.offers rq 0x50 tag [(.ofNat 32 (v) : Word)] → s.chip.linkUp (vDie v + 2) = true ∧ s.chip.inStep (vDie v + 2) = true → s.chip.vEnabled v = true ∧ s.chip.vState v = .off ∧ s.chip.cmds = [] → ∃ c', exec (.vlvReq rq vb) s = .next { s with chip := c' } ∧ s.chip.served c' rq 0x50 tag 1 .ok [c'.rd (R.VLV_STATUS v)] ∧ c'.vState v = .off ∧ c'.cmds = []) ∧
  (∀ (rq : Req) (tag : Nat) (v : Fin 16) (x y z : Word) (s : State), s.chip.offers rq 0x51 tag [(.ofNat 32 (v) : Word), x, y, z] → s.chip.linkUp (vDie v + 2) = true ∧ s.chip.inStep (vDie v + 2) = true → (s.chip.vEnabled v = true ∨ F.VLV_CFG_EN.get z = 1) → s.chip.vState v = .off ∧ s.chip.cmds = [] → layoutOk .VLV_PEAK (vlvIx v) x = true → layoutOk .VLV_HOLD (vlvIx v) y = true → layoutOk .VLV_CFG (vlvIx v) z = true → ∃ c', exec (.vlvSet rq) s = .next { s with chip := c' } ∧ s.chip.served c' rq 0x51 tag 4 .ok [] ∧ c'.took .VLV_PEAK (R.VLV_PEAK v) x ∧ c'.took .VLV_HOLD (R.VLV_HOLD v) y ∧ c'.took .VLV_CFG (R.VLV_CFG v) z) ∧
  (∀ (rq : Req) (tag : Nat) (v : Fin 16) (s : State), s.chip.offers rq 0x52 tag [(.ofNat 32 (v) : Word)] → s.chip.linkUp (vDie v + 2) = true ∧ s.chip.inStep (vDie v + 2) = true → s.chip.vState v = .fault ∧ s.chip.vEnabled v = true ∧ s.chip.cmds = [] → s.chip.fget (R.VLV_CMD v) F.VLV_CMD_REQ = 0 → ∃ c', exec (.vlvRearm rq true) s = .next { s with chip := c' } ∧ s.chip.served c' rq 0x52 tag 1 .ok [c'.rd (R.VLV_STATUS v)] ∧ c'.vState v = .off) ∧
  (∀ (rq : Req) (tag : Nat) (g : Fin 8) (x : Word) (s : State), s.chip.offers rq 0x53 tag [(.ofNat 32 (g) : Word), x] → s.chip.linkUp (g.val / 2 + 2) = true ∧ s.chip.inStep (g.val / 2 + 2) = true → layoutOk .VG_CFG [g.val / 2, g.val % 2] x = true → F.VG_CFG_PAR.get x = s.chip.fget (R.VG_CFG g) F.VG_CFG_PAR → ∃ c', exec (.vgSet rq) s = .next { s with chip := c' } ∧ s.chip.served c' rq 0x53 tag 2 .ok [] ∧ c'.took .VG_CFG (R.VG_CFG g) x) ∧
  (∀ (rq : Req) (tag : Nat) (x : Word) (s : State), s.chip.offers rq 0x54 tag [x] → s.chip.linkUp 1 = true ∧ s.chip.inStep 1 = true → (∀ m < 4, s.chip.linkUp (m + 2) = true ∧ s.chip.inStep (m + 2) = true) → layoutOk .VB_CTRL [] x = true → ∃ c', exec (.vbSet rq) s = .next { s with chip := c' } ∧ s.chip.served c' rq 0x54 tag 1 .ok [] ∧ c'.took .VB_CTRL R.VB_CTRL x ∧ (∀ n < 4, c'.fget (R.PWR_VB_THR n) F.PWR_VB_THR_THR = (9 * F.VB_CTRL_VSET.get x + 5) / 10)) ∧
  (∀ (rq : Req) (tag : Nat) (i : Fin 64) (x y : Word) (s : State), s.chip.offers rq 0x58 tag [(.ofNat 32 (i) : Word), x, y] → s.chip.linkUp 1 = true ∧ s.chip.inStep 1 = true → (s.chip.flag (R.SI_CFG i) F.SI_CFG_EN = true ∨ F.SI_CFG_EN.get x = 1) → s.chip.siBound i = false ∧ s.chip.siPatrolOk i x = true → layoutOk .SI_CFG [i.val] x = true → layoutOk .SI_THR [i.val] y = true → ∃ c', exec (.siSet rq) s = .next { s with chip := c' } ∧ s.chip.served c' rq 0x58 tag 3 .ok [] ∧ c'.took .SI_CFG (R.SI_CFG i) x ∧ c'.took .SI_THR (R.SI_THR i) y ∧ Only [Blk.sys, Blk.evr, Blk.que, Blk.sen] s.chip c') ∧
  (∀ (rq : Req) (tag : Nat) (i : Fin 8) (b0 b1 b2 b3 b4 b5 b6 : Word) (s : State), s.chip.offers rq 0x59 tag [(.ofNat 32 (i) : Word), b0, b1, b2, b3, b4, b5, b6] → s.chip.linkUp 1 = true ∧ s.chip.inStep 1 = true → layoutOk .SI_LT_B [i.val, 0] b0 = true ∧ layoutOk .SI_LT_B [i.val, 1] b1 = true ∧ layoutOk .SI_LT_B [i.val, 2] b2 = true ∧ layoutOk .SI_LT_B [i.val, 3] b3 = true ∧ layoutOk .SI_LT_B [i.val, 4] b4 = true ∧ layoutOk .SI_LT_B [i.val, 5] b5 = true ∧ layoutOk .SI_LT_B [i.val, 6] b6 = true → ∃ c', exec (.siLadder rq) s = .next { s with chip := c' } ∧ s.chip.served c' rq 0x59 tag 8 .ok [] ∧ c'.took .SI_LT_B (R.SI_LT_B i 0) b0 ∧ c'.took .SI_LT_B (R.SI_LT_B i 6) b6 ∧ Only [Blk.sys, Blk.evr, Blk.que, Blk.sen] s.chip c') ∧
  (∀ (rq : Req) (tag : Nat) (s : State), s.chip.offers rq 0x5A tag [] → s.chip.linkUp 1 = true → ∃ c', exec (.siRead rq) s = .next { s with chip := c' } ∧ s.chip.served c' rq 0x5A tag 0 .ok [s.chip.rd R.SI_STATE0, s.chip.rd R.SI_STATE1, s.chip.tamperWord] ∧ c'.latchOf R.SI_STATE0 .sup = s.chip.rd R.SI_STATE1 ∧ Only [Blk.sys, Blk.evr, Blk.que] s.chip c') ∧
  (∀ (rq : Req) (tag : Nat) (p : Fin 32) (x : Word) (s : State), s.chip.offers rq 0x60 tag [(.ofNat 32 (p) : Word), x] → s.chip.linkUp 6 = true ∧ s.chip.inStep 6 = true → (s.chip.fpEn p = true ∨ F.FP_CFG_EN.get x = 1) → s.chip.fpState p = .off ∧ (s.chip.fp p).clamping = false → layoutOk .FP_CFG [p.val] x = true → ∃ c', exec (.fpSetCfg rq) s = .next { s with chip := c' } ∧ s.chip.served c' rq 0x60 tag 2 .ok [] ∧ c'.took .FP_CFG (R.FP_CFG p) x ∧ Only [Blk.sys, Blk.evr, Blk.que, Blk.fld] s.chip c') ∧
  (∀ (rq : Req) (tag : Nat) (p : Fin 32) (s : State), s.chip.offers rq 0x61 tag [(.ofNat 32 (p + 256) : Word)] → s.chip.linkUp 6 = true ∧ s.chip.inStep 6 = true → s.chip.fpOut p = true ∧ s.chip.fpEn p = true ∧ s.chip.fpState p = .off ∧ s.chip.supplyFault = false → ∃ c', exec (.fpOut rq) s = .next { s with chip := c' } ∧ s.chip.served c' rq 0x61 tag 1 .ok [c'.rd (R.FP_STATUS p)] ∧ c'.fpState p = .on ∧ c'.fpOn p = true ∧ Only [Blk.sys, Blk.evr, Blk.que, Blk.fld] s.chip c') ∧
  (∀ (rq : Req) (tag : Nat) (p : Fin 32) (s : State), s.chip.offers rq 0x61 tag [(.ofNat 32 (p) : Word)] → s.chip.linkUp 6 = true ∧ s.chip.inStep 6 = true → s.chip.fpOut p = true ∧ s.chip.fpEn p = true ∧ s.chip.fpState p = .on → ∃ c', exec (.fpOut rq) s = .next { s with chip := c' } ∧ s.chip.served c' rq 0x61 tag 1 .ok [c'.rd (R.FP_STATUS p)] ∧ c'.fpState p = .off ∧ c'.fpOn p = false ∧ Only [Blk.sys, Blk.evr, Blk.que, Blk.fld] s.chip c') ∧
  (∀ (rq : Req) (tag : Nat) (p : Fin 32) (s : State), s.chip.offers rq 0x62 tag [(.ofNat 32 (p) : Word)] → s.chip.linkUp 6 = true ∧ s.chip.inStep 6 = true → s.chip.fpOut p = true ∧ s.chip.fpEn p = true ∧ s.chip.fpState p = .fault → s.chip.fpOn p = false → ∃ c', exec (.fpRearm rq true) s = .next { s with chip := c' } ∧ s.chip.served c' rq 0x62 tag 1 .ok [c'.rd (R.FP_STATUS p)] ∧ c'.fpState p = .off ∧ Only [Blk.sys, Blk.evr, Blk.que, Blk.fld] s.chip c') ∧
  (∀ (rq : Req) (tag : Nat) (x : Word) (s : State), s.chip.offers rq 0x63 tag [x] → s.chip.linkUp 6 = true ∧ s.chip.inStep 6 = true → layoutOk .FLD_SUP_CFG [] x = true → ∃ c', exec (.fldSupSet rq) s = .next { s with chip := c' } ∧ s.chip.served c' rq 0x63 tag 1 .ok [] ∧ c'.took .FLD_SUP_CFG R.FLD_SUP_CFG x ∧ Only [Blk.sys, Blk.evr, Blk.que, Blk.fld] s.chip c') ∧
  (∀ (rq : Req) (tag : Nat) (x : Word) (s : State), s.chip.offers rq 0x64 tag [x] → s.chip.linkUp 6 = true ∧ s.chip.inStep 6 = true → layoutOk .FLD_HOLD_TIME [] x = true → ∃ c', exec (.fldHoldSet rq) s = .next { s with chip := c' } ∧ s.chip.served c' rq 0x64 tag 1 .ok [] ∧ c'.took .FLD_HOLD_TIME R.FLD_HOLD_TIME x ∧ Only [Blk.sys, Blk.evr, Blk.que, Blk.fld] s.chip c')

/-- A packet is offered by its requester and its words fit their registers; each command but CAN_TX completes OK. CAN_TX of a classic frame of one word on an enabled controller with the 40 MHz crystal, no command in flight: the lowest free reserved buffer takes identifier and data and is pending, and the command waits for it (R369). CAN_CFG of a controller that is not enabled, EN = 0: timing and mode hold the words (R356). CAN_ENABLE on of a disabled controller with a valid timing, no command in flight: it is enabled and error-active (R356). CAN_ENABLE off of an enabled controller with no frame on the bus: it is disabled and off (R371). CAN_FILTER: identifier and mask hold the words (R367). CAN_SELWAKE with the sentinel's link up and in step: identifier, mask and the second words of data and data mask are written. LIN_SCHED of an entry as the register stores it: the entry holds the word (R376). LIN_MODE: the controller has the role (R376). LIN_RESP of 1 to 8 bytes for an identifier that has a slot: the slot holds the data, identifier, length and VALID (R378). SVC_STATUS: the session and whether a transfer is in progress; only system, event and queue registers change. -/
def Obligations.CanAndLinCommandsDo : Prop :=
  (∀ (rq : Req) (tag : Nat) (n : Fin 8) (b : Fin 64) (ident : BitVec 29) (d : Word) (s : State), s.chip.offers rq 0x68 tag [(.ofNat 32 (n + 262144) : Word), (.ofNat 32 (ident.toNat) : Word), d] → s.chip.canEn n = true ∧ s.chip.flag R.SYS_CLK_STATUS F.SYS_CLK_STATUS_XTAL40_OK = true → (((List.range 64).find? fun m => s.chip.mbReserved n m && !s.chip.mbPend n m) = some b.val) → s.chip.cmds = [] → ∃ c', exec (.canTx rq) s = .next { s with chip := c' } ∧ s.chip.waits c' rq 0x68 tag [(.ofNat 32 (n + 262144) : Word), (.ofNat 32 (ident.toNat) : Word), d] (canTxObj n b) false ∧ c'.mbPend n b = true ∧ mbId.get (c'.mbWord n b 0) = ident.toNat ∧ c'.mbWord n b 3 = d ∧ Only [Blk.sys, Blk.evr, Blk.que, Blk.can] s.chip c') ∧
  (∀ (rq : Req) (tag : Nat) (n : Fin 8) (x y z m : Word) (s : State), s.chip.offers rq 0x69 tag [(.ofNat 32 (n) : Word), x, y, z, m] → s.chip.canEn n = false → layoutOk .CAN_NBT [n.val] x = true → layoutOk .CAN_DBT [n.val] y = true → layoutOk .CAN_TDC [n.val] z = true → layoutOk .CAN_MODE [n.val] m = true → F.CAN_MODE_EN.get m = 0 → ∃ c', exec (.canCfg rq) s = .next { s with chip := c' } ∧ s.chip.served c' rq 0x69 tag 5 .ok [] ∧ c'.took .CAN_NBT (R.CAN_NBT n) x ∧ c'.took .CAN_DBT (R.CAN_DBT n) y ∧ c'.took .CAN_MODE (R.CAN_MODE n) m) ∧
  (∀ (rq : Req) (tag : Nat) (n : Fin 8) (s : State), s.chip.offers rq 0x6A tag [(.ofNat 32 (n + 256) : Word)] → s.chip.canEn n = false ∧ s.chip.canTimingOk n = true ∧ s.chip.cmds = [] → ∃ c', exec (.canEnable rq false) s = .next { s with chip := c' } ∧ s.chip.served c' rq 0x6A tag 1 .ok [] ∧ c'.canEn n = true ∧ c'.canErr n = 0) ∧
  (∀ (rq : Req) (tag : Nat) (n : Fin 8) (s : State), s.chip.offers rq 0x6A tag [(.ofNat 32 (n) : Word)] → s.chip.canEn n = true ∧ (s.chip.can n).cur = none ∧ s.chip.cmds = [] → ∃ c', exec (.canEnable rq false) s = .next { s with chip := c' } ∧ s.chip.served c' rq 0x6A tag 1 .ok [] ∧ c'.canEn n = false ∧ c'.canErr n = 3) ∧
  (∀ (rq : Req) (tag : Nat) (n : Fin 8) (k : Fin 64) (x y : Word) (s : State), s.chip.offers rq 0x6B tag [(.ofNat 32 (n + 256 * k) : Word), x, y] → layoutOk .CAN_FLT_ID [n.val, k.val] x = true → layoutOk .CAN_FLT_MASK [n.val, k.val] y = true → ∃ c', exec (.canFilter rq) s = .next { s with chip := c' } ∧ s.chip.served c' rq 0x6B tag 3 .ok [] ∧ c'.took .CAN_FLT_ID (R.CAN_FLT_ID n k) x ∧ c'.took .CAN_FLT_MASK (R.CAN_FLT_MASK n k) y ∧ Only [Blk.sys, Blk.evr, Blk.que, Blk.can] s.chip c') ∧
  (∀ (rq : Req) (tag : Nat) (n : Fin 4) (x m d0 d1 k0 k1 : Word) (s : State), s.chip.offers rq 0x6C tag [(.ofNat 32 (n) : Word), x, m, d0, d1, k0, k1] → s.chip.linkUp 1 = true ∧ s.chip.inStep 1 = true → layoutOk .SEN_SWK_ID [n.val] x = true → layoutOk .SEN_SWK_IDMASK [n.val] m = true → ∃ c', exec (.canSelwake rq) s = .next { s with chip := c' } ∧ s.chip.served c' rq 0x6C tag 7 .ok [] ∧ c'.took .SEN_SWK_ID (R.SEN_SWK_ID n) x ∧ c'.took .SEN_SWK_IDMASK (R.SEN_SWK_IDMASK n) m ∧ c'.rd (R.SEN_SWK_DATA n 1) = d1 ∧ c'.rd (R.SEN_SWK_DMASK n 1) = k1 ∧ Only [Blk.sys, Blk.evr, Blk.que, Blk.sen] s.chip c') ∧
  (∀ (rq : Req) (tag : Nat) (n : Fin 4) (k : Fin 64) (x : Word) (s : State), s.chip.offers rq 0x6D tag [(.ofNat 32 (n + 256 * k) : Word), x] → x &&& 0xF8F0FF3F = x ∧ schNorm x = x → ∃ c', exec (.linSched rq) s = .next { s with chip := c' } ∧ s.chip.served c' rq 0x6D tag 2 .ok [] ∧ c'.took .LIN_SCHED_E (R.LIN_SCHED_E n k) x ∧ Only [Blk.sys, Blk.evr, Blk.que, Blk.lin] s.chip c') ∧
  (∀ (rq : Req) (tag : Nat) (n : Fin 4) (r : Fin 3) (s : State), s.chip.offers rq 0x6E tag [(.ofNat 32 (n + 256 * r) : Word)] → ∃ c', exec (.linMode rq) s = .next { s with chip := c' } ∧ s.chip.served c' rq 0x6E tag 1 .ok [] ∧ c'.linRole n = r ∧ Only [Blk.sys, Blk.evr, Blk.que, Blk.lin] s.chip c') ∧
  (∀ (rq : Req) (tag : Nat) (n : Fin 4) (ident : BitVec 6) (ln : Nat) (r : Fin 16) (x y : Word) (s : State), s.chip.offers rq 0x6F tag [(.ofNat 32 (n + 256 * ident.toNat + 65536 * ln) : Word), x, y] → 1 ≤ ln ∧ ln ≤ 8 → s.chip.linSlot n ident.toNat = some r.val → ∃ c', exec (.linResp rq) s = .next { s with chip := c' } ∧ s.chip.served c' rq 0x6F tag 3 .ok [] ∧ c'.rd (R.LIN_RESP_D0 n r) = x ∧ c'.rd (R.LIN_RESP_D1 n r) = y ∧ c'.flag (R.LIN_RESP_CFG n r) F.LIN_RESP_CFG_VALID = true ∧ c'.fget (R.LIN_RESP_CFG n r) F.LIN_RESP_CFG_ID = ident.toNat ∧ c'.fget (R.LIN_RESP_CFG n r) F.LIN_RESP_CFG_LENGTH = ln ∧ Only [Blk.sys, Blk.evr, Blk.que, Blk.lin] s.chip c') ∧
  (∀ (rq : Req) (tag : Nat) (s : State), s.chip.offers rq 0x70 tag [] → ∃ c', exec (.svcStatus rq) s = .next { s with chip := c' } ∧ s.chip.served c' rq 0x70 tag 0 .ok [wordOf [(0, s.chip.upd.session), (16, (s.chip.upd.staging == 1).toNat)]] ∧ c'.cmds = s.chip.cmds ∧ Only [Blk.sys, Blk.evr, Blk.que] s.chip c')

/-- An access takes effect at once; a write to CAN8 is the supervisor's. CAN_TXREQ_WRITE of one transmit buffer that is not pending, the 40 MHz crystal running: it is pending with no attempt made (R369). CAN_TXCANCEL_WRITE of a pending buffer that is not on the bus: it is not pending, its outcome CANCELLED (R370). CAN_EN_SET of a disabled controller with a valid timing: it is enabled, error-active, TEC and REC zero (R356, R359). With an invalid timing: it stays disabled with CFG_BAD (R356). CAN_EN_CLEAR of an enabled controller with no frame on the bus: it is disabled and off (R371). CAN_RECOVER in bus-off, EN written 1: the recovery runs, the state is still bus-off (R359). CAN_BUSOFF_RECOVERED of a recovering controller: it is error-active, TEC and REC zero (R359). CAN_MB_W0_READ of a receive buffer without a lock: it answers the word, and the reader holds the lock (R365). CAN_MB_LAST_READ by the reader that holds the lock, no frame waiting: lock and FULL end (R365). CAN_MB_LOCK_TIMEOUT of a locked buffer: the lock ends and is counted; FULL stays (R365). CAN_FD_FRAME_REJOIN: the controller need not rejoin any more; no register and no other controller changes (R358). -/
def Obligations.CanRegistersAndErrorStates : Prop :=
  (∀ (n : Fin 9) (rq : Req) (w : Fin 2) (b : Fin 32) (s : State), s.chip.atOnce rq (R.CAN_TXREQ n w) 1 = true → (n.val < 8 ∨ rq = .sup) →  s.chip.mbKindOf n (32 * w + b) = 2 ∧ s.chip.mbPend n (32 * w + b) = false → s.chip.flag R.SYS_CLK_STATUS F.SYS_CLK_STATUS_XTAL40_OK = true → ∃ c', exec (.canTxreqWrite rq n w (.ofNat 32 (2 ^ b.val))) s = .next { s with chip := c' } ∧ c'.mbPend n (32 * w + b) = true ∧ c'.fget (R.CAN_MB_STAT n (32 * w + b)) F.CAN_MB_STAT_ATTEMPTS = 0 ∧ Only [Blk.sys, Blk.can] s.chip c') ∧
  (∀ (n : Fin 9) (rq : Req) (w : Fin 2) (b : Fin 32) (s : State), s.chip.atOnce rq (R.CAN_TXCANCEL n w) 1 = true → (n.val < 8 ∨ rq = .sup) →  s.chip.mbPend n (32 * w + b) = true ∧ (s.chip.can n).cur ≠ some (32 * w.val + b.val) → s.chip.acc.frameWait = none ∧ s.chip.cmds = [] → ∃ c', exec (.canTxcancelWrite rq n w (.ofNat 32 (2 ^ b.val))) s = .next { s with chip := c' } ∧ c'.mbPend n (32 * w + b) = false ∧ c'.fget (R.CAN_MB_STAT n (32 * w + b)) F.CAN_MB_STAT_OUTCOME = 6 ∧ Only [Blk.sys, Blk.evr, Blk.can] s.chip c') ∧
  (∀ (n : Fin 9) (rq : Req) (data : Word) (s : State), s.chip.atOnce rq (R.CAN_MODE n) 1 = true → (n.val < 8 ∨ rq = .sup) →  s.chip.canEn n = false ∧ s.chip.canTimingOk n = true → ∃ c', exec (.canEnSet rq n data) s = .next { s with chip := c' } ∧ c'.canEn n = true ∧ c'.canErr n = 0 ∧ (c'.can n).tec = 0 ∧ (c'.can n).rec_ = 0) ∧
  (∀ (n : Fin 9) (rq : Req) (data : Word) (s : State), s.chip.atOnce rq (R.CAN_MODE n) 1 = true → (n.val < 8 ∨ rq = .sup) →  s.chip.canEn n = false ∧ s.chip.canTimingOk n = false → F.CAN_MODE_RECOVER.get data = 0 → ∃ c', exec (.canEnSet rq n data) s = .next { s with chip := c' } ∧ c'.canEn n = false ∧ c'.flag (R.CAN_STATUS n) F.CAN_STATUS_CFG_BAD = true) ∧
  (∀ (n : Fin 9) (rq : Req) (data : Word) (s : State), s.chip.atOnce rq (R.CAN_MODE n) 1 = true → (n.val < 8 ∨ rq = .sup) →  s.chip.canEn n = true ∧ (s.chip.can n).cur = none → ∃ c', exec (.canEnClear rq n data false) s = .next { s with chip := c' } ∧ c'.canEn n = false ∧ c'.canErr n = 3) ∧
  (∀ (n : Fin 9) (rq : Req) (data : Word) (s : State), s.chip.atOnce rq (R.CAN_MODE n) 1 = true → (n.val < 8 ∨ rq = .sup) →  s.chip.canErr n = 2 ∧ s.chip.canEn n = true → F.CAN_MODE_EN.get data = 1 → ∃ c', exec (.canRecover rq n data) s = .next { s with chip := c' } ∧ (c'.can n).recovering = true ∧ c'.canErr n = 2) ∧
  (∀ (n : Fin 9) (s : State), s.chip.canErr n = 2 ∧ (s.chip.can n).recovering = true → ∃ c', exec (.canBusoffRecovered n) s = .next { s with chip := c' } ∧ c'.canErr n = 0 ∧ (c'.can n).tec = 0 ∧ (c'.can n).rec_ = 0 ∧ Only [Blk.sys, Blk.evr, Blk.can] s.chip c') ∧
  (∀ (rq : Req) (n : Fin 9) (s : State), s.chip.atOnce rq (R.CAN_MB_W n 0) 0 = true → s.chip.mbKindOf n (s.chip.mbSelOf n rq) = 1 ∧ (s.chip.mbX n (s.chip.mbSelOf n rq)).owner = none → ∃ c', exec (.canMbW0Read rq n) s = .next { s with chip := c' } ∧ c'.respOf rq = ⟨R.CAN_MB_W n 0, s.chip.mbWord n (s.chip.mbSelOf n rq) 0, 0⟩ ∧ (c'.mbX n (s.chip.mbSelOf n rq)).owner = some rq.code ∧ c'.flag (R.CAN_MB_STAT n (s.chip.mbSelOf n rq)) F.CAN_MB_STAT_LOCKED = true ∧ Only [Blk.sys, Blk.can] s.chip c') ∧
  (∀ (rq : Req) (n : Fin 9) (s : State), s.chip.mbSelOf n rq < 64 → s.chip.atOnce rq (R.CAN_MB_W n (lastWord (s.chip.mbWord n (s.chip.mbSelOf n rq) 1))) 0 = true → s.chip.mbKindOf n (s.chip.mbSelOf n rq) = 1 ∧ (s.chip.mbX n (s.chip.mbSelOf n rq)).owner = some rq.code ∧ (s.chip.mbX n (s.chip.mbSelOf n rq)).slot = none → ∃ c', exec (.canMbLastRead rq n) s = .next { s with chip := c' } ∧ (c'.mbX n (s.chip.mbSelOf n rq)).owner = none ∧ c'.mbFull n (s.chip.mbSelOf n rq) = false ∧ c'.flag (R.CAN_MB_STAT n (s.chip.mbSelOf n rq)) F.CAN_MB_STAT_LOCKED = false ∧ Only [Blk.sys, Blk.can] s.chip c') ∧
  (∀ (n : Fin 9) (b : Fin 64) (s : State), (s.chip.mbX n b).owner ≠ none ∧ (s.chip.mbX n b).slot = none → ∃ c', exec (.canMbLockTimeout n b) s = .next { s with chip := c' } ∧ (c'.mbX n b).owner = none ∧ c'.rd (R.CAN_LOCK_TO_CNT n) = .ofNat 32 (min 0xFFFFFFFF ((s.chip.rd (R.CAN_LOCK_TO_CNT n)).toNat + 1)) ∧ c'.mbFull n b = s.chip.mbFull n b ∧ Only [Blk.can] s.chip c') ∧
  (∀ (n : Fin 9) (s : State), (s.chip.can n).rejoin = true → ∃ c', exec (.canFdFrameRejoin n) s = .next { s with chip := c' } ∧ (c'.can n).rejoin = false ∧ (∀ m, m < 9 → m ≠ n.val → c'.can m = s.chip.can m) ∧ Only [] s.chip c')

/-- A controller that receives hears the bus (it is not held, in bus-off or rejoining), is error-active with both counters below 128 (REC below 120 for an error), and is not stopping; one that sends is not held. CAN_ARBITRATION_START of a controller that may send with a winner: the winner is on the bus, its attempt counted, and no pending classic buffer has a lower identifier (R369). CAN_TX_ATTEMPT_END done: the buffer is not pending, its outcome TRANSMITTED, TEC one lower (R359, R369). Lost, by a buffer that is neither ONE_SHOT nor cancelled: it stays pending, and no frame is on the bus (R369). CAN_FRAME_RECEIVED of a valid classic frame that no filter takes: counted as unmatched, REC one lower (R367). Of one whose lowest filter names a receive buffer without a lock: the buffer is full with the frame's time, identifier and data (R364, R367). Of an error: REC is higher by 8 after a dominant bit, else by 1 (R359). -/
def Obligations.CanFramesSendAndReceive : Prop :=
  (∀ (n : Fin 9) (b : Fin 64) (s : State), s.chip.canMaySend n = true → s.chip.txWinner n = some b.val → ∃ c', exec (.canArbitrationStart n) s = .next { s with chip := c' } ∧ (c'.can n).cur = some b.val ∧ c'.flag (R.CAN_STATUS n) F.CAN_STATUS_TX_ACTIVE = true ∧ c'.fget (R.CAN_MB_STAT n b) F.CAN_MB_STAT_ATTEMPTS = min F.CAN_MB_STAT_ATTEMPTS.max (s.chip.fget (R.CAN_MB_STAT n b) F.CAN_MB_STAT_ATTEMPTS + 1) ∧ (∀ m < 64, s.chip.mbPend n m = true → mbFdf.get (s.chip.mbWord n m 1) = 0 → mbId.get (s.chip.mbWord n b 0) ≤ mbId.get (s.chip.mbWord n m 0)) ∧ Only [Blk.can] s.chip c') ∧
  (∀ (n : Fin 9) (b : Fin 64) (tdcv : BitVec 7) (s : State), (s.chip.can n).cur = some b.val ∧ (s.chip.can n).stopping = false → (s.chip.can n).tec < 128 ∧ (s.chip.can n).rec_ < 128 ∧ s.chip.canErr n = 0 ∧ s.chip.canHeld n = false →  s.chip.acc.frameWait = none ∧ s.chip.cmds = [] → ∃ c', exec (.canTxAttemptEnd n .done tdcv) s = .next { s with chip := c' } ∧ (c'.can n).cur = none ∧ (c'.can n).tec = (s.chip.can n).tec - 1 ∧ c'.mbPend n b = false ∧ c'.fget (R.CAN_MB_STAT n b) F.CAN_MB_STAT_OUTCOME = 1) ∧
  (∀ (n : Fin 9) (b : Fin 64) (tdcv : BitVec 7) (s : State), (s.chip.can n).cur = some b.val ∧ (s.chip.can n).stopping = false ∧ s.chip.canHeld n = false →  s.chip.mbPend n b = true ∧ mbOneShot.get (s.chip.mbWord n b 1) = 0 ∧ s.chip.flag (R.CAN_MB_STAT n b) F.CAN_MB_STAT_CANCEL_LATE = false → ∃ c', exec (.canTxAttemptEnd n .lost tdcv) s = .next { s with chip := c' } ∧ (c'.can n).cur = none ∧ c'.mbPend n b = true ∧ Only [Blk.can] s.chip c') ∧
  (∀ (n : Fin 9) (f : CanFrame) (sof : Word) (s : State), s.chip.canHears n = true ∧ s.chip.canErr n = 0 → f.fdf = false → (s.chip.can n).tec < 128 ∧ (s.chip.can n).rec_ < 128 ∧ (s.chip.can n).stopping = false → (∀ k, k < 64 → s.chip.filterMatch n k f = false) → ∃ c', exec (.canFrameReceived n (.valid f) sof) s = .next { s with chip := c' } ∧ c'.rd (R.CAN_RX_NOMATCH_CNT n) = .ofNat 32 (min 0xFFFFFFFF ((s.chip.rd (R.CAN_RX_NOMATCH_CNT n)).toNat + 1)) ∧ (c'.can n).rec_ = (s.chip.can n).rec_ - 1 ∧ Only [Blk.sys, Blk.evr, Blk.can] s.chip c') ∧
  (∀ (n : Fin 9) (k : Fin 64) (f : CanFrame) (sof : Word) (s : State), s.chip.canHears n = true ∧ s.chip.canErr n = 0 → f.fdf = false → (s.chip.can n).tec < 128 ∧ (s.chip.can n).rec_ < 128 ∧ (s.chip.can n).stopping = false → s.chip.filterMatch n k f = true → (∀ j, j < 64 → j < k.val → s.chip.filterMatch n j f = false) → s.chip.mbKindOf n k = 1 ∧ (s.chip.mbX n k).owner = none → ∃ c', exec (.canFrameReceived n (.valid f) sof) s = .next { s with chip := c' } ∧ c'.mbFull n k = true ∧ c'.mbWord n k 2 = sof ∧ mbId.get (c'.mbWord n k 0) = f.id.toNat ∧ (f.dlc = 8 ∧ f.rtr = false → c'.mbWord n k 3 = f.data.getD 0 0 ∧ c'.mbWord n k 4 = f.data.getD 1 0)) ∧
  (∀ (n : Fin 9) (dom : Bool) (sof : Word) (s : State), s.chip.canHears n = true ∧ s.chip.canErr n = 0 → (s.chip.can n).tec < 128 ∧ (s.chip.can n).rec_ < 120 ∧ (s.chip.can n).stopping = false → ∃ c', exec (.canFrameReceived n (.error dom) sof) s = .next { s with chip := c' } ∧ (c'.can n).rec_ = (s.chip.can n).rec_ + (if dom then 8 else 1) ∧ Only [Blk.sys, Blk.evr, Blk.can] s.chip c')

/-- Of a commander or responder that is active unless said. LIN_SLOT_END of a commander with no frame running: the next entry's header goes out (R376). With a frame running that is not late: the frame is late and counted, and runs on (R376). LIN_HEADER_RECEIVED by a responder: it notes the identifier, whether a slot answers it, and the time (R378). LIN_FRAME_RECEIVED by a responder with an enhanced checksum that is no classic one: one packet of header, break time and data; no error counted (R377). LIN_RESPONSE_TIMEOUT with no byte, of a frame that the controller does not answer itself: no frame runs; the missing response is counted (R377). LIN_SLEEP_WRITE at a commander: a go-to-sleep is due, it is still active (R379). LIN_WAKE_WRITE at a sleeping responder: it is active (R379). LIN_WAKE_RESUME of a waking commander: its start entry's frame runs (R379). LIN_BUS_INACTIVITY at a responder: it sleeps (R379). LIN_BUS_FAULT of a controller that is not off: it is in bus fault, no frame runs (R379). LIN_BUS_FAULT_CLEAR in bus fault: it is active (R379). -/
def Obligations.LinControllersDo : Prop :=
  (∀ (n : Fin 4) (s : State), s.chip.linRole n = 1 ∧ s.chip.linState n = 1 → (s.chip.lin n).waking = false ∧ (s.chip.lin n).frame = none ∧ (s.chip.lin n).sleepDue = false → ∃ c', exec (.linSlotEnd n) s = .next { s with chip := c' } ∧ c'.fget (R.LIN_STATUS n) F.LIN_STATUS_ENTRY = s.chip.linNext n % 64 ∧ (c'.lin n).entry = some (s.chip.rd (R.LIN_SCHED_E n (s.chip.linNext n))) ∧ Only [Blk.lin] s.chip c') ∧
  (∀ (n : Fin 4) (s : State), s.chip.linRole n = 1 ∧ s.chip.linState n = 1 → (s.chip.lin n).waking = false ∧ (s.chip.lin n).frame ≠ none ∧ (s.chip.lin n).late = false → ∃ c', exec (.linSlotEnd n) s = .next { s with chip := c' } ∧ (c'.lin n).late = true ∧ (c'.lin n).frame = (s.chip.lin n).frame ∧ c'.fget (R.LIN_ERR_CNT n) (byteFld 3) = min 255 (s.chip.fget (R.LIN_ERR_CNT n) (byteFld 3) + 1) ∧ Only [Blk.lin] s.chip c') ∧
  (∀ (n : Fin 4) (ident : BitVec 6) (s : State), s.chip.linRole n = 2 ∧ s.chip.linState n = 1 → exec (.linHeaderReceived n ident) s = .next (s.onChip fun c => c.setLin n { c.lin n with frame := some (ident.toNat, (c.linResp n ident.toNat).isSome, c.mtimeLo) })) ∧
  (∀ (n : Fin 4) (ident : Nat) (brk : Word) (d : List Byte) (ck : Byte) (s : State), ident < 0x3C ∧ s.chip.linRole n = 2 → (s.chip.lin n).frame = some (ident, false, brk) ∧ (s.chip.lin n).late = false → linEnhancedOk ident d ck.toNat = true ∧ linClassicOk d ck.toNat = false → 4 ≤ s.chip.qFree (20 + n) → ∃ c', exec (.linFrameReceived n (.response (d ++ [ck]))) s = .next { s with chip := c' } ∧ (c'.lin n).frame = none ∧ (c'.queue (20 + n)).fill = (s.chip.queue (20 + n)).fill ++ packetWords [.ofNat 32 (d.length % 16 * 2 ^ 20 + ident % 64), brk, beWord (((d ++ List.replicate 8 0).take 8).take 4), beWord (((d ++ List.replicate 8 0).take 8).drop 4)] ∧ c'.rd (R.LIN_ERR_CNT n) = s.chip.rd (R.LIN_ERR_CNT n)) ∧
  (∀ (n : Fin 4) (ident : Nat) (brk : Word) (s : State), (s.chip.lin n).frame = some (ident, false, brk) ∧ (s.chip.lin n).late = false → ∃ c', exec (.linResponseTimeout n []) s = .next { s with chip := c' } ∧ (c'.lin n).frame = none ∧ c'.fget (R.LIN_ERR_CNT n) (byteFld 0) = min 255 (s.chip.fget (R.LIN_ERR_CNT n) (byteFld 0) + 1)) ∧
  (∀ (n : Fin 4) (rq : Req) (data : Word) (s : State), s.chip.atOnce rq (R.LIN_CTRL n) 1 = true →  s.chip.linRole n = 1 ∧ s.chip.linState n = 1 → F.LIN_CTRL_ROLE.get data = 1 ∧ F.LIN_CTRL_WAKE.get data = 0 → ∃ c', exec (.linSleepWrite rq n data) s = .next { s with chip := c' } ∧ (c'.lin n).sleepDue = true ∧ c'.linState n = 1 ∧ Only [Blk.sys, Blk.lin] s.chip c') ∧
  (∀ (n : Fin 4) (rq : Req) (data : Word) (s : State), s.chip.atOnce rq (R.LIN_CTRL n) 1 = true →  s.chip.linRole n = 2 ∧ s.chip.linState n = 0 → F.LIN_CTRL_ROLE.get data = 2 → ∃ c', exec (.linWakeWrite rq n data) s = .next { s with chip := c' } ∧ c'.linState n = 1 ∧ Only [Blk.sys, Blk.lin] s.chip c') ∧
  (∀ (n : Fin 4) (s : State), s.chip.linRole n = 1 ∧ s.chip.linState n = 1 ∧ (s.chip.lin n).waking = true → ∃ c', exec (.linWakeResume n) s = .next { s with chip := c' } ∧ (c'.lin n).waking = false ∧ (c'.lin n).frame ≠ none ∧ c'.fget (R.LIN_STATUS n) F.LIN_STATUS_ENTRY = s.chip.fget (R.LIN_SCHED_START n) F.LIN_SCHED_START_ENTRY ∧ Only [Blk.lin] s.chip c') ∧
  (∀ (n : Fin 4) (s : State), s.chip.linRole n = 2 ∧ s.chip.linState n = 1 → ∃ c', exec (.linBusInactivity n) s = .next { s with chip := c' } ∧ c'.linState n = 0 ∧ Only [Blk.lin] s.chip c') ∧
  (∀ (n : Fin 4) (s : State), s.chip.linState n ≠ 3 → ∃ c', exec (.linBusFault n) s = .next { s with chip := c' } ∧ c'.linState n = 2 ∧ (c'.lin n).frame = none ∧ Only [Blk.lin] s.chip c') ∧
  (∀ (n : Fin 4) (s : State), s.chip.linState n = 2 → ∃ c', exec (.linBusFaultClear n) s = .next { s with chip := c' } ∧ c'.linState n = 1 ∧ Only [Blk.lin] s.chip c')

/-- A packet is offered by its requester and its words fit their registers; OK is the completion unless said. MODE_REQ for the present mode, STANDBY or RUN: only system, event and queue registers change (R382). For the other of the two, no command in flight, no reset due: it is entered, PREV names the mode left, one mode change is raised (R382). For PARK or PATROL from STANDBY, none in flight, while the entry can be prevented: it waits, the mode stays (R387). Committed, no command in flight, no ranging round: the mode is entered, the selected banks are kept, the pads held, no command is in flight, no core runs, and each driven channel that is not sealed is OFF (R387, R395, R397). For STORAGE, sealed channels 188 and 189 without HOLD: no queue and no bank is kept (R385). For PARK or PATROL from RUN: BAD_ARG 2, the mode stays (R382). RET_SET: the selection holds the word (R397). PATROL_SET with the sentinel's link up and in step: the four registers hold the words (R401). NM_SET with times in range: node, controllers and times are written. NM_AWAKE: NM_LOCAL.AWAKE is the bit (R421). NM_OFFENDERS: the sixteen entries with durations up to now; only system, event and queue registers change (R426). WAKE_PULSE with no pulse in progress: one is counted and starts, with blanking (R431, R432). In a pulse: it is merged, nothing of the ring changes (R431). -/
def Obligations.ModeAndNetworkCommands : Prop :=
  (∀ (rq : Req) (tag : Nat) (t : Nat) (early : Bool) (s : State), s.chip.offers rq 0x80 tag [(.ofNat 32 (t) : Word)] → (t = s.chip.mode ∧ (t = 3 ∨ t = 4)) → ∃ c', exec (.modeReq rq early) s = .next { s with chip := c' } ∧ s.chip.served c' rq 0x80 tag 1 .ok [(.ofNat 32 (t) : Word)] ∧ c'.mode = t ∧ c'.cmds = s.chip.cmds ∧ Only [Blk.sys, Blk.evr, Blk.que] s.chip c') ∧
  (∀ (rq : Req) (tag : Nat) (t : Nat) (early : Bool) (s : State), s.chip.offers rq 0x80 tag [(.ofNat 32 (t) : Word)] → ((t = 3 ∧ s.chip.mode = 4) ∨ (t = 4 ∧ s.chip.mode = 3)) → s.chip.cmds = [] ∧ s.chip.released = false → ∃ c', exec (.modeReq rq early) s = .next { s with chip := c' } ∧ s.chip.served c' rq 0x80 tag 1 .ok [(.ofNat 32 (t) : Word)] ∧ c'.mode = t ∧ c'.fget R.SYS_MODE F.SYS_MODE_PREV = s.chip.mode ∧ c'.rd (R.EVR_CNT 128) = .ofNat 32 (min 0xFFFFFFFF ((s.chip.rd (R.EVR_CNT 128)).toNat + 1)) ∧ Only [Blk.sys, Blk.evr, Blk.que, Blk.nm, Blk.can] s.chip c') ∧
  (∀ (rq : Req) (tag : Nat) (t : Nat) (s : State), s.chip.offers rq 0x80 tag [(.ofNat 32 (t) : Word)] → (t = 1 ∨ t = 2) → s.chip.mode = 3 → ((s.chip.cmds.any fun x => x.op == 0x80) = false) → ∃ c', exec (.modeReq rq true) s = .next { s with chip := c' } ∧ s.chip.waits c' rq 0x80 tag [(.ofNat 32 (t) : Word)] (0xFFFF) false ∧ c'.modex.entry = some t ∧ c'.mode = 3 ∧ Only [Blk.sys, Blk.evr, Blk.que, Blk.nm] s.chip c') ∧
  (∀ (rq : Req) (tag : Nat) (t : Nat) (s : State), s.chip.offers rq 0x80 tag [(.ofNat 32 (t) : Word)] → (t = 1 ∨ t = 2) → s.chip.mode = 3 → s.chip.cmds = [] ∧ s.chip.acc.round = none → ∃ c', exec (.modeReq rq false) s = .next { s with chip := c' } ∧ s.chip.served c' rq 0x80 tag 1 .ok [(.ofNat 32 (t) : Word)] ∧ c'.mode = t ∧ c'.rd R.RET_KEPT = s.chip.rd R.RET_SEL ∧ c'.rd R.SYS_PAD_HOLD = 0xF03 ∧ c'.cmds = [] ∧ c'.cores = [] ∧ (∀ ch, ch < 188 → (s.chip.chRun ch).driven = true → c'.chState ch = .off)) ∧
  (∀ (rq : Req) (tag : Nat) (s : State), s.chip.offers rq 0x80 tag [0] → s.chip.mode = 3 → s.chip.cmds = [] ∧ s.chip.acc.round = none → s.chip.policyHold 188 = false ∧ s.chip.policyHold 189 = false → ∃ c', exec (.modeReq rq false) s = .next { s with chip := c' } ∧ c'.mode = 0 ∧ c'.queues = [] ∧ c'.rd R.RET_KEPT = 0) ∧
  (∀ (rq : Req) (tag : Nat) (t : Nat) (early : Bool) (s : State), s.chip.offers rq 0x80 tag [(.ofNat 32 (t) : Word)] → (t = 1 ∨ t = 2) → s.chip.mode = 4 → ∃ c', exec (.modeReq rq early) s = .next { s with chip := c' } ∧ s.chip.served c' rq 0x80 tag 1 .badArg [detail 0xFF 2 0xFFFF] ∧ c'.mode = 4 ∧ Only [Blk.sys, Blk.evr, Blk.que] s.chip c') ∧
  (∀ (rq : Req) (tag : Nat) (x : Word) (s : State), s.chip.offers rq 0x81 tag [x] → layoutOk .RET_SEL [] x = true → ∃ c', exec (.retSet rq) s = .next { s with chip := c' } ∧ s.chip.served c' rq 0x81 tag 1 .ok [] ∧ c'.took .RET_SEL R.RET_SEL x ∧ Only [Blk.sys, Blk.evr, Blk.que, Blk.ret] s.chip c') ∧
  (∀ (rq : Req) (tag : Nat) (x y z w : Word) (s : State), s.chip.offers rq 0x82 tag [x, y, z, w] → s.chip.linkUp 1 = true ∧ s.chip.inStep 1 = true → layoutOk .PAT_CTRL [] x = true → layoutOk .PAT_EXPECT [] y = true → layoutOk .PAT_SNIFF [] z = true → layoutOk .PAT_ALARM [] w = true → ∃ c', exec (.patrolSet rq) s = .next { s with chip := c' } ∧ s.chip.served c' rq 0x82 tag 4 .ok [] ∧ c'.took .PAT_CTRL R.PAT_CTRL x ∧ c'.took .PAT_EXPECT R.PAT_EXPECT y ∧ c'.took .PAT_SNIFF R.PAT_SNIFF z ∧ c'.took .PAT_ALARM R.PAT_ALARM w ∧ Only [Blk.sys, Blk.evr, Blk.que, Blk.sen] s.chip c') ∧
  (∀ (rq : Req) (tag : Nat) (nd m : BitVec 8) (x y : BitVec 16) (s : State), s.chip.offers rq 0x83 tag [.ofNat 32 (nd.toNat + 256 * m.toNat), .ofNat 32 x.toNat, .ofNat 32 y.toNat] → x ≠ 0 ∧ 100 ≤ y.toNat → ∃ c', exec (.nmSet rq) s = .next { s with chip := c' } ∧ s.chip.served c' rq 0x83 tag 3 .ok [] ∧ c'.fget R.NM_CTRL F.NM_CTRL_NODE = nd.toNat ∧ c'.fget R.NM_CTRL F.NM_CTRL_CTRL_MASK = m.toNat ∧ c'.fget R.NM_CFG F.NM_CFG_OFFENDER_TIME = x.toNat ∧ c'.fget R.NM_CFG F.NM_CFG_FALSE_WAKE_TIMEOUT = y.toNat) ∧
  (∀ (rq : Req) (tag : Nat) (x : Fin 2) (s : State), s.chip.offers rq 0x84 tag [(.ofNat 32 (x) : Word)] → ∃ c', exec (.nmAwake rq) s = .next { s with chip := c' } ∧ s.chip.served c' rq 0x84 tag 1 .ok [] ∧ c'.fget R.NM_LOCAL F.NM_LOCAL_AWAKE = x) ∧
  (∀ (rq : Req) (tag : Nat) (s : State), s.chip.offers rq 0x85 tag [] → ∃ c', exec (.nmOffenders rq) s = .next { s with chip := c' } ∧ (s.chip.served c' rq 0x85 tag 0 .ok ((List.range 16).flatMap fun e => [s.chip.nmTime.rd (R.NM_OFF_ENTRY e), s.chip.nmTime.rd (R.NM_OFF_DURATION e)])) ∧ c'.cmds = s.chip.cmds ∧ Only [Blk.sys, Blk.evr, Blk.que] s.chip c') ∧
  (∀ (rq : Req) (tag : Nat) (s : State), s.chip.offers rq 0x86 tag [] → s.chip.linkUp 1 = true ∧ s.chip.inStep 1 = true → s.chip.flag R.WR_STATUS F.WR_STATUS_OUT_ACTIVE = false → ∃ c', exec (.wakePulse rq) s = .next { s with chip := c' } ∧ s.chip.served c' rq 0x86 tag 0 .ok [] ∧ c'.rd (R.WR_OUT_CNT) = .ofNat 32 (min 0xFFFFFFFF ((s.chip.rd (R.WR_OUT_CNT)).toNat + 1)) ∧ c'.flag R.WR_STATUS F.WR_STATUS_OUT_ACTIVE = true ∧ c'.flag R.WR_STATUS F.WR_STATUS_BLANKING = true ∧ Only [Blk.sys, Blk.evr, Blk.que, Blk.sen] s.chip c') ∧
  (∀ (rq : Req) (tag : Nat) (s : State), s.chip.offers rq 0x86 tag [] → s.chip.linkUp 1 = true ∧ s.chip.inStep 1 = true → s.chip.flag R.WR_STATUS F.WR_STATUS_OUT_ACTIVE = true → ∃ c', exec (.wakePulse rq) s = .next { s with chip := c' } ∧ s.chip.served c' rq 0x86 tag 0 .ok [] ∧ c'.rd R.WR_OUT_CNT = s.chip.rd R.WR_OUT_CNT ∧ Only [Blk.sys, Blk.evr, Blk.que] s.chip c')

/-- A packet is offered by its requester. ACC_STATUS: OK with the enrolled slots, the last decision, the days and whether polling stopped; nothing of the access die changes (R438). ACC_LOCATE with no round: it waits, and a round of trigger LOCATE is set up that has not started (R446). ACC_ENROL of a free slot in SERVICE, no enrolment running, the log not full: it waits for its token, and the slot stays free (R454). ACC_ENROL_TIMEOUT of the one enrolment in flight: the command ends TIMEOUT, no enrolment runs, no slot changes (R455). ACC_REVOKE in SERVICE with the link in step, the log not full: OK; the slot is free, its key is zero, and the other slots are as they were (R456). ACC_CFG in SERVICE of the present START_ENABLE channel, its die reachable and in step: OK; the configuration holds the words, the channel stays START_ENABLE (R439). ACC_REVOKE outside SERVICE: DENIED, one refusal is raised, no slot changes (R448). -/
def Obligations.AccessCommands : Prop :=
  (∀ (rq : Req) (tag : Nat) (s : State), s.chip.offers rq 0x90 tag [] → s.chip.linkUp 7 = true → ∃ c', exec (.accStatus rq) s = .next { s with chip := c' } ∧ s.chip.served c' rq 0x90 tag 0 .ok [.ofNat 32 (s.chip.fget R.ACC_ENROLLED F.ACC_ENROLLED_SLOTS), s.chip.lastDecision, wordOf [(0, s.chip.accDays), (16, s.chip.fget R.ACC_STATE F.ACC_STATE_POLL_STOPPED)]] ∧ c'.cmds = s.chip.cmds ∧ Only [Blk.sys, Blk.evr, Blk.que] s.chip c') ∧
  (∀ (rq : Req) (tag : Nat) (s : State), s.chip.offers rq 0x91 tag [] → s.chip.linkUp 7 = true → s.chip.acc.round = none →  ∃ c', exec (.accLocate rq) s = .next { s with chip := c' } ∧ s.chip.waits c' rq 0x91 tag [] (0xFFFF) false ∧ c'.flag R.ACC_STATE F.ACC_STATE_ROUND = true ∧ (c'.acc.round.map fun r => (r.trig, r.started)) = some (5, false) ∧ Only [Blk.sys, Blk.evr, Blk.que, Blk.acc] s.chip c') ∧
  (∀ (rq : Req) (tag : Nat) (n : Fin 10) (s : State), s.chip.offers rq 0x92 tag [(.ofNat 32 (n) : Word)] → s.chip.mode = 6 ∧ s.chip.linkUp 7 = true → s.chip.enrolled n = false ∧ s.chip.acc.enrol = none ∧ s.chip.logFull = false → ∃ c', exec (.accEnrol rq) s = .next { s with chip := c' } ∧ s.chip.waits c' rq 0x92 tag [(.ofNat 32 (n) : Word)] (n) false ∧ (c'.acc.enrol.map fun e => (e.rq, e.tag, e.slot, e.given)) = some (rq, tag, n.val, none) ∧ c'.enrolled n = false ∧ Only [Blk.sys, Blk.evr, Blk.que] s.chip c') ∧
  (∀ (e : Enrol) (x : Cmd) (s : State), s.chip.acc.enrol = some e ∧ s.chip.acc.frameWait = none → s.chip.cmds = [x] ∧ x.op = 0x92 ∧ x.rq = e.rq ∧ x.tag = e.tag → (34 ≤ s.chip.qFree (compQueue x.rq) ∧ (s.chip.heldComps.all fun h => h.1 ≠ x.rq) = true) → ∃ c', exec (.accEnrolTimeout) s = .next { s with chip := c' } ∧ c'.acc.enrol = none ∧ c'.cmds = [] ∧ (c'.queue (compQueue x.rq)).fill = (s.chip.queue (compQueue x.rq)).fill ++ packetWords (s.chip.compPacket 0x92 x.tag .timeout 0 [detail 0xFF 0 x.obj]) ∧ c'.rd R.ACC_ENROLLED = s.chip.rd R.ACC_ENROLLED ∧ Only [Blk.sys, Blk.evr, Blk.que] s.chip c') ∧
  (∀ (rq : Req) (tag : Nat) (n : Fin 10) (s : State), s.chip.offers rq 0x93 tag [(.ofNat 32 (n) : Word)] → s.chip.mode = 6 ∧ s.chip.linkUp 7 = true ∧ s.chip.inStep 7 = true → s.chip.logFull = false → ∃ c', exec (.accRevoke rq) s = .next { s with chip := c' } ∧ s.chip.served c' rq 0x93 tag 1 .ok [] ∧ c'.enrolled n = false ∧ c'.tokenKey n = 0 ∧ (∀ m, m ≠ n.val → m < 32 → c'.enrolled m = s.chip.enrolled m)) ∧
  (∀ (rq : Req) (tag : Nat) (x y z w : Word) (s : State), s.chip.offers rq 0x94 tag [x, y, z, w] → s.chip.mode = 6 ∧ s.chip.linkUp 7 = true ∧ s.chip.inStep 7 = true ∧ s.chip.linkUp (physDie s.chip.seCh) = true ∧ s.chip.inStep (physDie s.chip.seCh) = true ∧ s.chip.released = false → F.ACC_CFG0_SE_CH.get x = s.chip.seCh ∧ s.chip.seCh < 188 → layoutOk .ACC_CFG0 [] x = true → layoutOk .ACC_CFG1 [] y = true → layoutOk .ACC_CFG2 [] z = true → layoutOk .ACC_CFG3 [] w = true → ∃ c', exec (.accCfg rq) s = .next { s with chip := c' } ∧ s.chip.served c' rq 0x94 tag 4 .ok [] ∧ c'.took .ACC_CFG1 R.ACC_CFG1 y ∧ c'.took .ACC_CFG2 R.ACC_CFG2 z ∧ c'.took .ACC_CFG3 R.ACC_CFG3 w ∧ c'.seCh = s.chip.seCh) ∧
  (∀ (rq : Req) (tag : Nat) (n : Fin 10) (s : State), s.chip.offers rq 0x93 tag [(.ofNat 32 (n) : Word)] → s.chip.mode ≠ 6 → ∃ c', exec (.accRevoke rq) s = .next { s with chip := c' } ∧ s.chip.served c' rq 0x93 tag 1 .denied [detail 0xFF 0 0xFFFF] ∧ c'.rd (R.EVR_CNT 226) = .ofNat 32 (min 0xFFFFFFFF ((s.chip.rd (R.EVR_CNT 226)).toNat + 1)) ∧ c'.rd R.ACC_ENROLLED = s.chip.rd R.ACC_ENROLLED)

/-- A packet is offered by its requester; OK is the completion unless said. A block of memory is in the requester's room, in banks that are not LOST. SEC_ATTEST with room for 17,216 bytes, the signer free, no seal due: it waits for its job of that destination (R460). SEC_CERT with room for 7,920 bytes: the certificate stands there, every other byte as before (R461). SEAL_INSTALL of fewer than 28 bytes, no command in flight: BAD_ARG 2; authority count and policy stay (R463). LOG_STATUS: next sequence, mark, reserve, full and folding. LOG_EXPORT of an empty log by Q29's consumer, no command in flight, the signer free: done with 0 records (R476). LOG_ACK of fewer than 28 bytes likewise: BAD_ARG 2; mark and authority count stay (R477). LOG_ERASE of fewer than 28 bytes likewise: BAD_ARG 2; no record goes (R480). KEY_SLOT_WRITE of an unwritten slot in SERVICE, slots open, the log not full: the slot holds the key and reads written (R462). UPD_STATUS: staging, staged version and last outcome; the update state stays (R493). UPD_ACTIVATE of a VALID package by a core in STANDBY, RUN or SERVICE, the log not full: armed, the reset due with cause 0x16, EV211 (R493). With neither a VALID nor an armed one: BAD_ARG 8; nothing armed (R493). CDE_SET: CDE_CTRL holds the word (R303). CDE_GET: status, sequence and drops. CMD_COMPLETION_FLUSH with room, its requester's held completion first: it is written and no longer held (R344). -/
def Obligations.SecurityCommands : Prop :=
  (∀ (rq : Req) (tag : Nat) (n0 n1 n2 n3 x y : Word) (s : State), s.chip.offers rq 0xA0 tag [n0, n1, n2, n3, x, y] → s.chip.inRoom rq x.toNat 17216 = true ∧ 17216 ≤ y.toNat → s.chip.grain.attWait = [] ∧ s.chip.grain.sealWait = false → s.chip.grain.job = none → ∃ c', exec (.secAttest rq) s = .next { s with chip := c' } ∧ s.chip.waits c' rq 0xA0 tag [n0, n1, n2, n3, x, y] (0xFFFF) true ∧ (match c'.grain.job with | some (.attest r g dest _) => decide (r = rq ∧ g = tag ∧ dest = x.toNat) | _ => false) = true ∧ Only [Blk.sys, Blk.evr, Blk.que] s.chip c') ∧
  (∀ (rq : Req) (tag : Nat) (x y : Word) (s : State), s.chip.offers rq 0xA1 tag [x, y] → s.chip.inRoom rq x.toNat 7920 = true ∧ 7920 ≤ y.toNat ∧ s.chip.rangeLost x.toNat 7920 = false → ∃ t, exec (.secCert rq) s = .next t ∧ s.chip.served t.chip rq 0xA1 tag 2 .ok [7920] ∧ Memory.bytes t.sram x.toNat 7920 = certificate ∧ ((∀ b, (b < x.toNat ∨ x.toNat + 7920 ≤ b) → Memory.read t.sram b = Memory.read s.sram b)) ∧ Only [Blk.sys, Blk.evr, Blk.que] s.chip t.chip) ∧
  (∀ (rq : Req) (tag : Nat) (x y : Word) (s : State), s.chip.offers rq 0xA2 tag [x, y] → s.chip.inRoom rq x.toNat (max 1 y.toNat) = true ∧ s.chip.rangeLost x.toNat y.toNat = false → y.toNat < 28 → s.chip.cmds = [] → ∃ c', exec (.sealInstall rq) s = .next { s with chip := c' } ∧ s.chip.served c' rq 0xA2 tag 2 .badArg [detail 2 0 0xFFFF] ∧ c'.rd R.SEC_AUTH_CNT = s.chip.rd R.SEC_AUTH_CNT ∧ c'.policy = s.chip.policy ∧ c'.cmds = []) ∧
  (∀ (rq : Req) (tag : Nat) (s : State), s.chip.offers rq 0xA3 tag [] → ∃ c', exec (.logStatus rq) s = .next { s with chip := c' } ∧ s.chip.served c' rq 0xA3 tag 0 .ok [.ofNat 32 s.chip.grain.nextSeq, .ofNat 32 s.chip.grain.mark, wordOf [(0, s.chip.fget R.SEC_LOG_STATUS F.SEC_LOG_STATUS_RESERVE_USED), (16, s.chip.logFull.toNat), (17, s.chip.folding.toNat)]] ∧ Only [Blk.sys, Blk.evr, Blk.que] s.chip c') ∧
  (∀ (rq : Req) (tag : Nat) (n : Word) (s : State), s.chip.offers rq 0xA4 tag [n] → s.chip.isConsumer rq 29 = true → s.chip.cmds = [] ∧ s.chip.grain.nextSeq = 0 ∧ s.chip.grain.recs = [] → s.chip.grain.job = none ∧ s.chip.grain.sealWait = false → ∃ c', exec (.logExport rq) s = .next { s with chip := c' } ∧ s.chip.served c' rq 0xA4 tag 1 .ok [0] ∧ c'.grain.exp = none ∧ c'.cmds = []) ∧
  (∀ (rq : Req) (tag : Nat) (x y : Word) (s : State), s.chip.offers rq 0xA5 tag [x, y] → s.chip.inRoom rq x.toNat (max 1 y.toNat) = true ∧ s.chip.rangeLost x.toNat y.toNat = false → y.toNat < 28 → s.chip.cmds = [] → ∃ c', exec (.logAck rq) s = .next { s with chip := c' } ∧ s.chip.served c' rq 0xA5 tag 2 .badArg [detail 2 0 0xFFFF] ∧ c'.grain.mark = s.chip.grain.mark ∧ c'.rd R.SEC_AUTH_CNT = s.chip.rd R.SEC_AUTH_CNT) ∧
  (∀ (rq : Req) (tag : Nat) (x y : Word) (s : State), s.chip.offers rq 0xA6 tag [x, y] → s.chip.inRoom rq x.toNat (max 1 y.toNat) = true ∧ s.chip.rangeLost x.toNat y.toNat = false → y.toNat < 28 → s.chip.cmds = [] → ∃ c', exec (.logErase rq) s = .next { s with chip := c' } ∧ s.chip.served c' rq 0xA6 tag 2 .badArg [detail 2 0 0xFFFF] ∧ c'.erasing = s.chip.erasing ∧ c'.grain.recs = s.chip.grain.recs) ∧
  (∀ (rq : Req) (tag : Nat) (n : Fin 4) (k0 k1 k2 k3 k4 k5 k6 k7 : Word) (s : State), s.chip.offers rq 0xA7 tag [(.ofNat 32 (n) : Word), k0, k1, k2, k3, k4, k5, k6, k7] → s.chip.mode = 6 ∧ s.chip.logFull = false → (s.chip.fget R.SEC_AUTH F.SEC_AUTH_WRITTEN).testBit n = false ∧ s.chip.flag R.SEC_AUTH F.SEC_AUTH_SLOTS_CLOSED = false → ∃ c', exec (.keySlotWrite rq) s = .next { s with chip := c' } ∧ s.chip.served c' rq 0xA7 tag 9 .ok [] ∧ c'.authKey n = [k0, k1, k2, k3, k4, k5, k6, k7] ∧ (c'.fget R.SEC_AUTH F.SEC_AUTH_WRITTEN).testBit n = true) ∧
  (∀ (rq : Req) (tag : Nat) (s : State), s.chip.offers rq 0xB0 tag [] → ∃ c', exec (.updStatus rq) s = .next { s with chip := c' } ∧ s.chip.served c' rq 0xB0 tag 0 .ok [.ofNat 32 s.chip.upd.staging, s.chip.stagedVersion, s.chip.upd.outcome] ∧ c'.upd = s.chip.upd ∧ Only [Blk.sys, Blk.evr, Blk.que] s.chip c') ∧
  (∀ (rq : Req) (tag : Nat) (s : State), s.chip.offers rq 0xB1 tag [] → isCore rq = true → (s.chip.mode = 3 ∨ s.chip.mode = 4 ∨ s.chip.mode = 6) → s.chip.upd.staging = 3 ∧ s.chip.logFull = false → ∃ c', exec (.updActivate rq) s = .next { s with chip := c' } ∧ s.chip.served c' rq 0xB1 tag 0 .ok [] ∧ c'.upd.staging = 5 ∧ c'.modex.resetDue = some 0x16 ∧ c'.rd (R.EVR_CNT 211) = .ofNat 32 (min 0xFFFFFFFF ((s.chip.rd (R.EVR_CNT 211)).toNat + 1)) ∧ Only [Blk.sys, Blk.evr, Blk.que] s.chip c') ∧
  (∀ (rq : Req) (tag : Nat) (s : State), s.chip.offers rq 0xB1 tag [] → isCore rq = true → (s.chip.mode = 3 ∨ s.chip.mode = 4 ∨ s.chip.mode = 6) → s.chip.upd.staging ≠ 3 ∧ s.chip.upd.staging ≠ 5 → ∃ c', exec (.updActivate rq) s = .next { s with chip := c' } ∧ s.chip.served c' rq 0xB1 tag 0 .badArg [detail 0xFF 8 0xFFFF] ∧ c'.upd = s.chip.upd ∧ c'.modex.resetDue = s.chip.modex.resetDue ∧ Only [Blk.sys, Blk.evr, Blk.que] s.chip c') ∧
  (∀ (rq : Req) (tag : Nat) (x y z : Word) (s : State), s.chip.offers rq 0xC0 tag [x, y, z] → layoutOk .CDE_CTRL [] x = true → layoutOk .CDE_BASE [] y = true → layoutOk .CDE_SIZE [] z = true → ∃ c', exec (.cdeSet rq) s = .next { s with chip := c' } ∧ s.chip.served c' rq 0xC0 tag 3 .ok [] ∧ c'.took .CDE_CTRL R.CDE_CTRL x ∧ Only [Blk.sys, Blk.evr, Blk.que, Blk.cde] s.chip c') ∧
  (∀ (rq : Req) (tag : Nat) (s : State), s.chip.offers rq 0xC1 tag [] → ∃ c', exec (.cdeGet rq) s = .next { s with chip := c' } ∧ s.chip.served c' rq 0xC1 tag 0 .ok [s.chip.peek .sup R.CDE_STATUS, s.chip.rd R.CDE_SEQ, s.chip.rd R.CDE_DROP_CNT] ∧ Only [Blk.sys, Blk.evr, Blk.que] s.chip c') ∧
  (∀ (rq : Req) (ws : List Word) (l : List (Req × List Word)) (s : State), s.chip.heldComps = (rq, ws) :: l ∧ commands rq = true → ws ≠ [] ∧ ws.length ≤ 34 ∧ 34 ≤ s.chip.qFree (compQueue rq) → s.chip.awake = true → ∃ c', exec (.cmdCompletionFlush rq) s = .next { s with chip := c' } ∧ c'.heldComps = l ∧ (c'.queue (compQueue rq)).fill = (s.chip.queue (compQueue rq)).fill ++ packetWords ws ∧ Only [Blk.sys, Blk.evr, Blk.que] s.chip c')

/-- A wake: the module is in PARK or PATROL with its supervisor's state kept and a good crystal; it is then in STANDBY with cause WAKE, the source's bit is set, one wake is counted, and of SRAM the kept banks are as they were and all else is 0 (R388, R391, R399). SWK_FRAME_DECODED of a wake-up frame at an enabled transceiver: a wake (R372). CAN_WAKE_PATTERN at CAN0 to CAN5 without selective wake: a wake (R373). CAN_WAKE_PATTERN at CAN8 while MODE_REQ, alone in flight, waits for its entry: the entry is prevented, the command ends, EV135; mode and memory stay (R388). LIN_WAKE_SIGNAL: a wake (R379). HSP_WAKE in a frame: a wake; no frame is open. WAKE_IN_PULSE with the bypass open and no blanking: a wake; the pulse is counted (R430). The same in a running module with no entry waiting: counted, EV147; the mode stays (R430). With the bypass closed: nothing (R433). Within the blanking time: counted as blanked only (R432). SNIFF_WINDOW with a blink of an enrolled slot in PATROL, sniffing enabled and polling not stopped: a wake (R403). Outside PATROL, with polling stopped or no blink: nothing. PAT_ALARM_EXPIRE with an alarm set: a wake (R404). PATROL_CYCLE in PATROL that samples nothing while an input differs: a wake; one mismatch is counted (R401). One with nothing to wake for: one cycle is counted; the mode stays. -/
def Obligations.Wakes : Prop :=
  (∀ (n : Fin 4) (f : CanFrame) (env : StartEnv) (s : State), (s.chip.mode = 1 ∨ s.chip.mode = 2) → s.chip.modex.supLost = false → env.xtal = true → s.chip.flag (R.SEN_SWK_CTRL n) F.SEN_SWK_CTRL_EN = true ∧ f.fdf = false → s.chip.swkMatch n f = true → ∃ t, exec (.swkFrameDecoded n (.valid f) env) s = .next t ∧ t.chip.mode = 3 ∧ t.chip.rd R.SYS_RESET_CAUSE = 0x20 ∧ (t.chip.rd R.SEN_WAKE_SRC).toNat.testBit (n.val) = true ∧ t.chip.rd (R.SEN_WAKE_CNT) = .ofNat 32 (min 0xFFFFFFFF ((s.chip.rd (R.SEN_WAKE_CNT)).toNat + 1)) ∧ (∀ b, inSram b = true → Memory.read t.sram b = if (s.chip.rd R.RET_KEPT).toNat.testBit (bankOf b) then Memory.read s.sram b else 0)) ∧
  (∀ (n : Fin 6) (env : StartEnv) (s : State), (s.chip.mode = 1 ∨ s.chip.mode = 2) → s.chip.modex.supLost = false → env.xtal = true → (n.val < 4 → s.chip.flag (R.SEN_SWK_CTRL n) F.SEN_SWK_CTRL_EN = false) → ∃ t, exec (.canWakePattern (Fin.castLE (by decide) n) env) s = .next t ∧ t.chip.mode = 3 ∧ t.chip.rd R.SYS_RESET_CAUSE = 0x20 ∧ (t.chip.rd R.SEN_WAKE_SRC).toNat.testBit (n.val) = true ∧ t.chip.rd (R.SEN_WAKE_CNT) = .ofNat 32 (min 0xFFFFFFFF ((s.chip.rd (R.SEN_WAKE_CNT)).toNat + 1)) ∧ (∀ b, inSram b = true → Memory.read t.sram b = if (s.chip.rd R.RET_KEPT).toNat.testBit (bankOf b) then Memory.read s.sram b else 0)) ∧
  (∀ (env : StartEnv) (x : Cmd) (m : Nat) (s : State), s.chip.awake = true → s.chip.modex.entry = some m ∧ s.chip.cmds = [x] ∧ x.op = 0x80 → s.chip.acc.frameWait = none → ∃ t, exec (.canWakePattern 8 env) s = .next t ∧ t.chip.mode = s.chip.mode ∧ t.chip.modex.entry = none ∧ t.chip.cmds = [] ∧ t.chip.rd (R.EVR_CNT 135) = .ofNat 32 (min 0xFFFFFFFF ((s.chip.rd (R.EVR_CNT 135)).toNat + 1)) ∧ t.chip.rd R.SEN_WAKE_SRC = s.chip.rd R.SEN_WAKE_SRC ∧ (∀ b, Memory.read t.sram b = Memory.read s.sram b)) ∧
  (∀ (n : Fin 4) (env : StartEnv) (s : State), (s.chip.mode = 1 ∨ s.chip.mode = 2) → s.chip.modex.supLost = false → env.xtal = true → ∃ t, exec (.linWakeSignal n env) s = .next t ∧ t.chip.mode = 3 ∧ t.chip.rd R.SYS_RESET_CAUSE = 0x20 ∧ (t.chip.rd R.SEN_WAKE_SRC).toNat.testBit (7 + n.val) = true ∧ t.chip.rd (R.SEN_WAKE_CNT) = .ofNat 32 (min 0xFFFFFFFF ((s.chip.rd (R.SEN_WAKE_CNT)).toNat + 1)) ∧ (∀ b, inSram b = true → Memory.read t.sram b = if (s.chip.rd R.RET_KEPT).toNat.testBit (bankOf b) then Memory.read s.sram b else 0)) ∧
  (∀ (addr : BitVec 24) (env : StartEnv) (s : State), (s.chip.mode = 1 ∨ s.chip.mode = 2) → s.chip.hsp.inFrame = true → s.chip.modex.supLost = false → env.xtal = true → ∃ t, exec (.hspWake addr env) s = .next t ∧ t.chip.mode = 3 ∧ t.chip.rd R.SYS_RESET_CAUSE = 0x20 ∧ (t.chip.rd R.SEN_WAKE_SRC).toNat.testBit (17) = true ∧ t.chip.rd (R.SEN_WAKE_CNT) = .ofNat 32 (min 0xFFFFFFFF ((s.chip.rd (R.SEN_WAKE_CNT)).toNat + 1)) ∧ (∀ b, inSram b = true → Memory.read t.sram b = if (s.chip.rd R.RET_KEPT).toNat.testBit (bankOf b) then Memory.read s.sram b else 0) ∧ t.chip.hsp.inFrame = false) ∧
  (∀ (env : StartEnv) (s : State), (s.chip.mode = 1 ∨ s.chip.mode = 2) → s.chip.bypass = false ∧ s.chip.flag R.WR_STATUS F.WR_STATUS_BLANKING = false → s.chip.modex.supLost = false → env.xtal = true → ∃ t, exec (.wakeInPulse env) s = .next t ∧ t.chip.mode = 3 ∧ t.chip.rd R.SYS_RESET_CAUSE = 0x20 ∧ (t.chip.rd R.SEN_WAKE_SRC).toNat.testBit (11) = true ∧ t.chip.rd (R.SEN_WAKE_CNT) = .ofNat 32 (min 0xFFFFFFFF ((s.chip.rd (R.SEN_WAKE_CNT)).toNat + 1)) ∧ (∀ b, inSram b = true → Memory.read t.sram b = if (s.chip.rd R.RET_KEPT).toNat.testBit (bankOf b) then Memory.read s.sram b else 0) ∧ t.chip.rd (R.WR_IN_CNT) = .ofNat 32 (min 0xFFFFFFFF ((s.chip.rd (R.WR_IN_CNT)).toNat + 1))) ∧
  (∀ (env : StartEnv) (s : State), s.chip.awake = true ∧ s.chip.modex.entry = none → s.chip.bypass = false ∧ s.chip.flag R.WR_STATUS F.WR_STATUS_BLANKING = false → ∃ c', exec (.wakeInPulse env) s = .next { s with chip := c' } ∧ c'.rd (R.WR_IN_CNT) = .ofNat 32 (min 0xFFFFFFFF ((s.chip.rd (R.WR_IN_CNT)).toNat + 1)) ∧ c'.rd (R.EVR_CNT 147) = .ofNat 32 (min 0xFFFFFFFF ((s.chip.rd (R.EVR_CNT 147)).toNat + 1)) ∧ c'.mode = s.chip.mode ∧ Only [Blk.sys, Blk.evr, Blk.que, Blk.sen] s.chip c') ∧
  (∀ (env : StartEnv) (s : State), s.chip.bypass = true → exec (.wakeInPulse env) s = .next (s)) ∧
  (∀ (env : StartEnv) (s : State), s.chip.bypass = false ∧ s.chip.flag R.WR_STATUS F.WR_STATUS_BLANKING = true → exec (.wakeInPulse env) s = .next (s.onChip fun c => c.bump R.WR_BLANKED_CNT)) ∧
  (∀ (k : Fin 10) (env : StartEnv) (s : State), s.chip.mode = 2 ∧ s.chip.enrolled k = true → s.chip.modex.supLost = false → env.xtal = true → s.chip.flag R.PAT_SNIFF F.PAT_SNIFF_EN = true ∧ s.chip.flag R.ACC_STATE F.ACC_STATE_POLL_STOPPED = false → ∃ t, exec (.sniffWindow (some k) env) s = .next t ∧ t.chip.mode = 3 ∧ t.chip.rd R.SYS_RESET_CAUSE = 0x20 ∧ (t.chip.rd R.SEN_WAKE_SRC).toNat.testBit (15) = true ∧ t.chip.rd (R.SEN_WAKE_CNT) = .ofNat 32 (min 0xFFFFFFFF ((s.chip.rd (R.SEN_WAKE_CNT)).toNat + 1)) ∧ (∀ b, inSram b = true → Memory.read t.sram b = if (s.chip.rd R.RET_KEPT).toNat.testBit (bankOf b) then Memory.read s.sram b else 0)) ∧
  (∀ (slot : Option (Fin 10)) (env : StartEnv) (s : State), (s.chip.mode ≠ 2 ∨ s.chip.flag R.ACC_STATE F.ACC_STATE_POLL_STOPPED = true ∨ slot = none) → exec (.sniffWindow slot env) s = .next (s)) ∧
  (∀ (env : StartEnv) (s : State), (s.chip.mode = 1 ∨ s.chip.mode = 2) → s.chip.modex.supLost = false → env.xtal = true → s.chip.rd R.PAT_ALARM ≠ 0 → ∃ t, exec (.patAlarmExpire env) s = .next t ∧ t.chip.mode = 3 ∧ t.chip.rd R.SYS_RESET_CAUSE = 0x20 ∧ (t.chip.rd R.SEN_WAKE_SRC).toNat.testBit (16) = true ∧ t.chip.rd (R.SEN_WAKE_CNT) = .ofNat 32 (min 0xFFFFFFFF ((s.chip.rd (R.SEN_WAKE_CNT)).toNat + 1)) ∧ (∀ b, inSram b = true → Memory.read t.sram b = if (s.chip.rd R.RET_KEPT).toNat.testBit (bankOf b) then Memory.read s.sram b else 0)) ∧
  (∀ (i : Nat) (env : StartEnv) (s : State), s.chip.mode = 2 ∧ s.chip.patStatus.mismatch = some i ∧ i < 64 → s.chip.modex.supLost = false → env.xtal = true → ∃ t, exec (.patrolCycle [] env) s = .next t ∧ t.chip.mode = 3 ∧ t.chip.rd R.SYS_RESET_CAUSE = 0x20 ∧ (t.chip.rd R.SEN_WAKE_SRC).toNat.testBit (13) = true ∧ t.chip.rd (R.SEN_WAKE_CNT) = .ofNat 32 (min 0xFFFFFFFF ((s.chip.rd (R.SEN_WAKE_CNT)).toNat + 1)) ∧ (∀ b, inSram b = true → Memory.read t.sram b = if (s.chip.rd R.RET_KEPT).toNat.testBit (bankOf b) then Memory.read s.sram b else 0) ∧ t.chip.rd (R.PAT_MISMATCH_CNT) = .ofNat 32 (min 0xFFFFFFFF ((s.chip.rd (R.PAT_MISMATCH_CNT)).toNat + 1))) ∧
  (∀ (codes : List (Fin 64 × Fin 1024)) (env : StartEnv) (s : State), s.chip.mode = 2 → (s.chip.patrol codes).2 = [] → ∃ c', exec (.patrolCycle codes env) s = .next { s with chip := c' } ∧ c'.rd R.PAT_CYCLE_CNT = s.chip.rd R.PAT_CYCLE_CNT + 1 ∧ c'.mode = 2 ∧ Only [Blk.sys, Blk.evr, Blk.sen] s.chip c')

/-- PAD_RELEASE by the supervisor or a core, whose access takes effect at once: the groups named are no longer held, the others as before (R395). RET_ACK_WRITE, its access taking effect at once: the LOST banks named are being filled; they are still LOST (R399). RET_FILL_COMPLETE of a bank being filled: it reads 0 and is no longer LOST; every other byte and the other banks' bits stay (R399). RETENTION_DROOP on a kept bank of a parked module: latched, and whether contents changed; nothing else (R398). On a bank that is not kept, or in a module that is not parked: nothing (R398). On the supervisor's memory of a parked module: its state is lost. WAKE_OUT_PULSE_END: no pulse is in progress; the blanking stays (R430). WAKE_BLANK_END: no blanking; a pulse in progress stays (R432). WAKE_BYPASS_OPEN: the bypass is open; no register changes (R433). FALSE_WAKE_TIMEOUT, armed, in STANDBY, the module woken from PARK or PATROL, no ranging round: it returns there, one false wake is counted, the pads are held, the selected banks kept, no command in flight (R429). Not armed: nothing (R429). VSEN_FALL with no cell written: the RTC's count is the brown-out cell; no register changes (R409). VSEN_EARLY_RECOVERY: the cell holds nothing; no register changes (R409). -/
def Obligations.RetentionPadsAndDroops : Prop :=
  (∀ (rq : Req) (data : Word) (s : State), rq.code ≤ 4 → s.chip.atOnce rq R.SYS_PAD_RELEASE 1 = true → ∃ c', exec (.padRelease rq data) s = .next { s with chip := c' } ∧ c'.rd R.SYS_PAD_HOLD = s.chip.rd R.SYS_PAD_HOLD &&& ~~~data) ∧
  (∀ (rq : Req) (data : Word) (s : State), s.chip.atOnce rq R.RET_ACK 1 = true → ∃ c', exec (.retAckWrite rq data) s = .next { s with chip := c' } ∧ c'.modex.filling = s.chip.modex.filling ||| (data &&& s.chip.rd R.RET_STATUS) ∧ c'.rd R.RET_STATUS = s.chip.rd R.RET_STATUS ∧ Only [Blk.sys] s.chip c') ∧
  (∀ (k : Fin 32) (s : State), s.chip.modex.filling.getLsbD k = true → ∃ t, exec (.retFillComplete k) s = .next t ∧ (∀ b, inSram b = true → Memory.read t.sram b = if bankOf b = k then 0 else Memory.read s.sram b) ∧ t.chip.rd R.RET_STATUS = s.chip.rd R.RET_STATUS &&& ~~~(1#32 <<< k.val) ∧ t.chip.modex.filling.getLsbD k = false ∧ Only [Blk.ret] s.chip t.chip) ∧
  (∀ (k : Fin 32) (g : Bool) (s : State), (s.chip.mode = 1 ∨ s.chip.mode = 2) → (s.chip.rd R.RET_KEPT).toNat.testBit k = true → exec (.retentionDroop (some k) g) s = .next (s.onChip fun c => c.setModex { c.modex with droop := c.modex.droop ||| (1#32 <<< k.val), changed := if g then c.modex.changed ||| (1#32 <<< k.val) else c.modex.changed })) ∧
  (∀ (k : Fin 32) (g : Bool) (s : State), (s.chip.parked = false ∨ (s.chip.rd R.RET_KEPT).toNat.testBit k = false) → exec (.retentionDroop (some k) g) s = .next (s)) ∧
  (∀ (g : Bool) (s : State), (s.chip.mode = 1 ∨ s.chip.mode = 2) → exec (.retentionDroop none g) s = .next (s.onChip fun c => c.setModex { c.modex with supLost := true })) ∧
  (∀ (s : State), s.chip.flag R.WR_STATUS F.WR_STATUS_OUT_ACTIVE = true → ∃ c', exec (.wakeOutPulseEnd) s = .next { s with chip := c' } ∧ c'.flag R.WR_STATUS F.WR_STATUS_OUT_ACTIVE = false ∧ c'.flag R.WR_STATUS F.WR_STATUS_BLANKING = s.chip.flag R.WR_STATUS F.WR_STATUS_BLANKING ∧ Only [(R.WR_STATUS, R.WR_STATUS + 4)] s.chip c') ∧
  (∀ (s : State), s.chip.flag R.WR_STATUS F.WR_STATUS_BLANKING = true → ∃ c', exec (.wakeBlankEnd) s = .next { s with chip := c' } ∧ c'.flag R.WR_STATUS F.WR_STATUS_BLANKING = false ∧ c'.flag R.WR_STATUS F.WR_STATUS_OUT_ACTIVE = s.chip.flag R.WR_STATUS F.WR_STATUS_OUT_ACTIVE ∧ Only [(R.WR_STATUS, R.WR_STATUS + 4)] s.chip c') ∧
  (∀ (s : State), s.chip.bypass = true → ∃ c', exec (.wakeBypassOpen) s = .next { s with chip := c' } ∧ c'.bypass = false ∧ Only [] s.chip c') ∧
  (∀ (m : Nat) (s : State), s.chip.flag R.NM_FW_STATUS F.NM_FW_STATUS_ARMED = true ∧ s.chip.mode = 3 → (m = 1 ∨ m = 2) → (s.chip.rd (R.SYS_BOOT_REPORT 0)).toNat / 2 ^ 16 % 256 = m + 1 → s.chip.acc.round = none → ∃ c', exec (.falseWakeTimeout) s = .next { s with chip := c' } ∧ c'.mode = m ∧ c'.rd (R.NM_FALSE_WAKE_CNT) = .ofNat 32 (min 0xFFFFFFFF ((s.chip.rd (R.NM_FALSE_WAKE_CNT)).toNat + 1)) ∧ c'.rd R.SYS_PAD_HOLD = 0xF03 ∧ c'.rd R.RET_KEPT = s.chip.rd R.RET_SEL ∧ c'.cmds = []) ∧
  (∀ (s : State), s.chip.flag R.NM_FW_STATUS F.NM_FW_STATUS_ARMED = false → exec (.falseWakeTimeout) s = .next (s)) ∧
  (∀ (s : State), s.chip.modex.cell = none → ∃ c', exec (.vsenFall) s = .next { s with chip := c' } ∧ c'.modex.cell = some (s.chip.ctr64 R.SEN_RTC_LO).toNat ∧ c'.mode = s.chip.mode ∧ Only [] s.chip c') ∧
  (∀ (s : State), s.chip.modex.cell ≠ none → ∃ c', exec (.vsenEarlyRecovery) s = .next { s with chip := c' } ∧ c'.modex.cell = none ∧ Only [] s.chip c')

/-- A start: with a good crystal, verified images, no update armed or half done and no configuration writes, the module runs through STARTUP into the target mode, RUN unless the configuration names STANDBY; SRAM reads 0, and the cause is recorded. A reset of the control die is a start that counts one and keeps authority count and policy (R405, R406, R410). MODULE_POWER_ON: a start, cause 1; no reset counted. VSEN_LOW_TIMEOUT with the cell written: a start, cause 1, or 2 after a brown-out (R409). With no cell written: nothing. RESET_N_LOW: a reset, cause 0x10. SYS_SWRESET_GO, its access taking effect at once: a reset, cause 0x11. SYS_RESET_DELAY_EXPIRE with a reset due, cause 0x11 or 0x16: a reset of that cause. With none due: nothing. WDT_TIMEOUT of a watchdog that runs, past half time, no crash before: a reset, cause 0x12 (R408). Of one that does not run: nothing. SUP_WDT_TIMEOUT in a running module, no crash before: a reset, cause 0x13. LOCKSTEP_MISMATCH likewise: cause 0x14 (R281). LIMP_RETRY_EXPIRE in LIMP for crashes: a reset, cause 0x15 (R412). Else: nothing. A crash with two others within 60 s: LIMP of cause 2, the crashes forgotten, every core in reset (R411). RESET_N_LOW with a bad crystal: LIMP of cause 1 on the backup clock (R412). WDT_KICK, its access taking effect at once: the watchdog restarts; only system registers change (R408). WDT_HALF_TIME of a watchdog that runs: EV134, once (R408). -/
def Obligations.ResetsStartTheModule : Prop :=
  (∀ (env : StartEnv) (s : State), env.xtal = true ∧ env.supOk = true ∧ env.appOk = true → s.chip.upd.staging ≠ 5 ∧ s.chip.upd.journal = 0 ∧ s.chip.stored.writes = [] → ∃ t, exec (.modulePowerOn env) s = .next t ∧ t.chip.mode = (if s.chip.stored.target = 3 then 3 else 4) ∧ t.chip.rd R.SYS_RESET_CAUSE = 1 ∧ t.sram = [] ∧ t.chip.rd R.SYS_RESET_CNT = 0 ∧ t.chip.policy = s.chip.policy) ∧
  (∀ (brown : Bool) (env : StartEnv) (s : State), env.xtal = true ∧ env.supOk = true ∧ env.appOk = true → s.chip.upd.staging ≠ 5 ∧ s.chip.upd.journal = 0 ∧ s.chip.stored.writes = [] → s.chip.modex.cell ≠ none → ∃ t, exec (.vsenLowTimeout brown env) s = .next t ∧ t.chip.mode = (if s.chip.stored.target = 3 then 3 else 4) ∧ t.chip.rd R.SYS_RESET_CAUSE = (if brown then 2 else 1) ∧ t.sram = [] ∧ t.chip.modex.cell = none) ∧
  (∀ (brown : Bool) (env : StartEnv) (s : State), s.chip.modex.cell = none → exec (.vsenLowTimeout brown env) s = .next (s)) ∧
  (∀ (env : StartEnv) (s : State), env.xtal = true ∧ env.supOk = true ∧ env.appOk = true → s.chip.upd.staging ≠ 5 ∧ s.chip.upd.journal = 0 ∧ s.chip.stored.writes = [] → ∃ t, exec (.resetNLow env) s = .next t ∧ t.chip.mode = (if s.chip.stored.target = 3 then 3 else 4) ∧ t.chip.rd R.SYS_RESET_CAUSE = 0x10 ∧ t.chip.rd (R.SYS_RESET_CNT) = .ofNat 32 (min 0xFFFFFFFF ((s.chip.rd (R.SYS_RESET_CNT)).toNat + 1)) ∧ t.sram = [] ∧ t.chip.rd R.SEC_AUTH_CNT = s.chip.rd R.SEC_AUTH_CNT ∧ t.chip.policy = s.chip.policy) ∧
  (∀ (rq : Req) (env : StartEnv) (s : State), env.xtal = true ∧ env.supOk = true ∧ env.appOk = true → s.chip.upd.staging ≠ 5 ∧ s.chip.upd.journal = 0 ∧ s.chip.stored.writes = [] → s.chip.atOnce rq R.SYS_SWRESET 1 = true →  ∃ t, exec (.sysSwresetGo rq env) s = .next t ∧ t.chip.mode = (if s.chip.stored.target = 3 then 3 else 4) ∧ t.chip.rd R.SYS_RESET_CAUSE = 0x11 ∧ t.chip.rd (R.SYS_RESET_CNT) = .ofNat 32 (min 0xFFFFFFFF ((s.chip.rd (R.SYS_RESET_CNT)).toNat + 1)) ∧ t.sram = [] ∧ t.chip.rd R.SEC_AUTH_CNT = s.chip.rd R.SEC_AUTH_CNT ∧ t.chip.policy = s.chip.policy) ∧
  (∀ (env : StartEnv) (cause : Nat) (s : State), env.xtal = true ∧ env.supOk = true ∧ env.appOk = true → s.chip.upd.staging ≠ 5 ∧ s.chip.upd.journal = 0 ∧ s.chip.stored.writes = [] → (s.chip.modex.resetDue = some cause ∧ (cause = 0x11 ∨ cause = 0x16)) → ∃ t, exec (.sysResetDelayExpire env) s = .next t ∧ t.chip.mode = (if s.chip.stored.target = 3 then 3 else 4) ∧ t.chip.rd R.SYS_RESET_CAUSE = .ofNat 32 cause ∧ t.chip.rd (R.SYS_RESET_CNT) = .ofNat 32 (min 0xFFFFFFFF ((s.chip.rd (R.SYS_RESET_CNT)).toNat + 1)) ∧ t.sram = [] ∧ t.chip.rd R.SEC_AUTH_CNT = s.chip.rd R.SEC_AUTH_CNT ∧ t.chip.policy = s.chip.policy) ∧
  (∀ (env : StartEnv) (s : State), s.chip.modex.resetDue = none → exec (.sysResetDelayExpire env) s = .next (s)) ∧
  (∀ (env : StartEnv) (s : State), env.xtal = true ∧ env.supOk = true ∧ env.appOk = true → s.chip.upd.staging ≠ 5 ∧ s.chip.upd.journal = 0 ∧ s.chip.stored.writes = [] → s.chip.wdtRuns = true ∧ s.chip.modex.wdtHalf = true ∧ s.chip.modex.crashes = [] → ∃ t, exec (.wdtTimeout env) s = .next t ∧ t.chip.mode = (if s.chip.stored.target = 3 then 3 else 4) ∧ t.chip.rd R.SYS_RESET_CAUSE = 0x12 ∧ t.chip.rd (R.SYS_RESET_CNT) = .ofNat 32 (min 0xFFFFFFFF ((s.chip.rd (R.SYS_RESET_CNT)).toNat + 1)) ∧ t.sram = [] ∧ t.chip.rd R.SEC_AUTH_CNT = s.chip.rd R.SEC_AUTH_CNT ∧ t.chip.policy = s.chip.policy) ∧
  (∀ (env : StartEnv) (s : State), s.chip.wdtRuns = false → exec (.wdtTimeout env) s = .next (s)) ∧
  (∀ (env : StartEnv) (s : State), env.xtal = true ∧ env.supOk = true ∧ env.appOk = true → s.chip.upd.staging ≠ 5 ∧ s.chip.upd.journal = 0 ∧ s.chip.stored.writes = [] → s.chip.awake = true → s.chip.modex.crashes = [] → ∃ t, exec (.supWdtTimeout env) s = .next t ∧ t.chip.mode = (if s.chip.stored.target = 3 then 3 else 4) ∧ t.chip.rd R.SYS_RESET_CAUSE = 0x13 ∧ t.chip.rd (R.SYS_RESET_CNT) = .ofNat 32 (min 0xFFFFFFFF ((s.chip.rd (R.SYS_RESET_CNT)).toNat + 1)) ∧ t.sram = [] ∧ t.chip.rd R.SEC_AUTH_CNT = s.chip.rd R.SEC_AUTH_CNT ∧ t.chip.policy = s.chip.policy) ∧
  (∀ (env : StartEnv) (s : State), env.xtal = true ∧ env.supOk = true ∧ env.appOk = true → s.chip.upd.staging ≠ 5 ∧ s.chip.upd.journal = 0 ∧ s.chip.stored.writes = [] → s.chip.awake = true → s.chip.modex.crashes = [] → ∃ t, exec (.lockstepMismatch env) s = .next t ∧ t.chip.mode = (if s.chip.stored.target = 3 then 3 else 4) ∧ t.chip.rd R.SYS_RESET_CAUSE = 0x14 ∧ t.chip.rd (R.SYS_RESET_CNT) = .ofNat 32 (min 0xFFFFFFFF ((s.chip.rd (R.SYS_RESET_CNT)).toNat + 1)) ∧ t.sram = [] ∧ t.chip.rd R.SEC_AUTH_CNT = s.chip.rd R.SEC_AUTH_CNT ∧ t.chip.policy = s.chip.policy) ∧
  (∀ (env : StartEnv) (s : State), env.xtal = true ∧ env.supOk = true ∧ env.appOk = true → s.chip.upd.staging ≠ 5 ∧ s.chip.upd.journal = 0 ∧ s.chip.stored.writes = [] → s.chip.mode = 7 ∧ s.chip.limpCause = 2 → ∃ t, exec (.limpRetryExpire env) s = .next t ∧ t.chip.mode = (if s.chip.stored.target = 3 then 3 else 4) ∧ t.chip.rd R.SYS_RESET_CAUSE = 0x15 ∧ t.chip.rd (R.SYS_RESET_CNT) = .ofNat 32 (min 0xFFFFFFFF ((s.chip.rd (R.SYS_RESET_CNT)).toNat + 1)) ∧ t.sram = [] ∧ t.chip.rd R.SEC_AUTH_CNT = s.chip.rd R.SEC_AUTH_CNT ∧ t.chip.policy = s.chip.policy) ∧
  (∀ (env : StartEnv) (s : State), (s.chip.mode ≠ 7 ∨ s.chip.limpCause ≠ 2) → exec (.limpRetryExpire env) s = .next (s)) ∧
  (∀ (env : StartEnv) (x y : Nat) (s : State), env.xtal = true ∧ env.supOk = true ∧ env.appOk = true → s.chip.upd.staging ≠ 5 ∧ s.chip.upd.journal = 0 ∧ s.chip.stored.writes = [] → s.chip.awake = true → s.chip.modex.crashes = [x, y] ∧ (s.chip.ctr64 R.SEN_RTC_LO).toNat ≤ x + 60 * 32768 ∧ (s.chip.ctr64 R.SEN_RTC_LO).toNat ≤ y + 60 * 32768 → ∃ t, exec (.supWdtTimeout env) s = .next t ∧ t.chip.mode = 7 ∧ t.chip.limpCause = 2 ∧ t.chip.modex.crashes = [] ∧ (∀ k, k < 4 → (t.chip.core k).inReset = true)) ∧
  (∀ (env : StartEnv) (s : State), env.xtal = false ∧ env.supOk = true ∧ env.appOk = true → s.chip.upd.staging ≠ 5 ∧ s.chip.upd.journal = 0 ∧ s.chip.stored.writes = [] → ∃ t, exec (.resetNLow env) s = .next t ∧ t.chip.mode = 7 ∧ t.chip.limpCause = 1 ∧ t.chip.flag R.SYS_CLK_STATUS F.SYS_CLK_STATUS_CORE_ON_BACKUP = true) ∧
  (∀ (rq : Req) (s : State), s.chip.atOnce rq R.SYS_WDT_KICK 1 = true → ∃ c', exec (.wdtKick rq) s = .next { s with chip := c' } ∧ c'.modex.wdtHalf = false ∧ Only [Blk.sys] s.chip c') ∧
  (∀ (s : State), s.chip.wdtRuns = true ∧ s.chip.modex.wdtHalf = false → ∃ c', exec (.wdtHalfTime) s = .next { s with chip := c' } ∧ c'.modex.wdtHalf = true ∧ c'.rd (R.EVR_CNT 134) = .ofNat 32 (min 0xFFFFFFFF ((s.chip.rd (R.EVR_CNT 134)).toNat + 1)) ∧ c'.mode = s.chip.mode ∧ Only [Blk.sys, Blk.evr, Blk.que] s.chip c')

/-- NM_FRAME_RECEIVED of another node on a selected controller that hears it, its first byte the node: the node is present, awake as its bit says; the presence of other nodes stays (R420, R423). Of one too short or whose first byte is not its node: counted as bad, nothing else (R420). NM_CYCLE_EXPIRE where a controller may send: on each that may, with the 40 MHz crystal and no frame of the helper on the bus, MB63 is pending with the own node and the frame counter; the others' buffers stay; the counter steps (R421). Where none may send: nothing. NM_LOCAL_AWAKE_WRITE, the helper enabled, the access taking effect at once: AWAKE is the bit written; where it changes, each controller that may send then has its frame pending, with the crystal and none of it on the bus (R421). NM_NODE_ABSENT of another node: it is neither present nor awake; the presence of others stays (R423). Of the own node: nothing. NM_OFFENCE_BEGIN of a lone-awake node without an entry: the first free entry names it with COUNT 1, EV145 (R425). With an entry: its COUNT is one higher (at most 255), EV145 (R425). With the table full of others: counted as lost, EV145, EV148; the entries stay (R426). Without a lone-awake node: nothing. NM_OFF_CLEAR, its access taking effect at once, no offence recorded: the table is empty (R427). With an offence that began in this microsecond: it is the table's only entry (R427). -/
def Obligations.NetworkManagementFollowsTheFrames : Prop :=
  (∀ (n : Fin 8) (f : CanFrame) (b : Fin 256) (s : State), s.chip.nmOn n = true ∧ s.chip.canHears n = true →  f.fdf = false ∧ f.rtr = false ∧ f.xtd = s.chip.flag R.NM_ID F.NM_ID_XTD → (if f.xtd then f.id.toNat else f.id.toNat / 2 ^ 18) = s.chip.fget R.NM_ID F.NM_ID_BASE * 256 + b → b.val ≠ s.chip.ownNode → 2 ≤ f.dlc.val ∧ (f.data.getD 0 0).toNat / 2 ^ 24 = b → ∃ c', exec (.nmFrameReceived n f) s = .next { s with chip := c' } ∧ c'.present b = true ∧ c'.nodeAwake b = (f.data.getD 0 0).toNat.testBit 16 ∧ (∀ m < 256, m ≠ b.val ∧ m ≠ s.chip.ownNode → c'.present m = s.chip.present m) ∧ Only [Blk.sys, Blk.evr, Blk.que, Blk.can, Blk.nm] s.chip c') ∧
  (∀ (n : Fin 8) (f : CanFrame) (b : Fin 256) (s : State), s.chip.nmOn n = true ∧ s.chip.canHears n = true →  f.fdf = false ∧ f.rtr = false ∧ f.xtd = s.chip.flag R.NM_ID F.NM_ID_XTD → (if f.xtd then f.id.toNat else f.id.toNat / 2 ^ 18) = s.chip.fget R.NM_ID F.NM_ID_BASE * 256 + b → b.val ≠ s.chip.ownNode → (f.dlc.val < 2 ∨ (f.data.getD 0 0).toNat / 2 ^ 24 ≠ b) → ∃ c', exec (.nmFrameReceived n f) s = .next { s with chip := c' } ∧ c'.rd (R.NM_BAD_FRAME_CNT) = .ofNat 32 (min 0xFFFFFFFF ((s.chip.rd (R.NM_BAD_FRAME_CNT)).toNat + 1)) ∧ c'.nm = s.chip.nm ∧ Only [(R.NM_BAD_FRAME_CNT, R.NM_BAD_FRAME_CNT + 4)] s.chip c') ∧
  (∀ (m : Fin 8) (s : State), s.chip.nmMaySend m = true → ∃ c', exec (.nmCycleExpire) s = .next { s with chip := c' } ∧ c'.nm.count = (s.chip.nm.count + 1) % 256 ∧ (∀ n < 8, s.chip.nmMaySend n = true ∧ (s.chip.can n).cur ≠ some 63 ∧ s.chip.flag R.SYS_CLK_STATUS F.SYS_CLK_STATUS_XTAL40_OK = true → c'.mbPend n 63 = true ∧ (c'.mbWord n 63 3).toNat / 2 ^ 24 = s.chip.ownNode ∧ (c'.mbWord n 63 3).toNat % 256 = s.chip.nm.count % 256) ∧ (∀ n < 8, s.chip.nmMaySend n = false → ((List.range 64).all fun b => c'.mbPend n b == s.chip.mbPend n b) = true) ∧ Only [Blk.can] s.chip c') ∧
  (∀ (s : State), (∀ n, n < 8 → s.chip.nmMaySend n = false) → exec (.nmCycleExpire) s = .next s) ∧
  (∀ (rq : Req) (data : Word) (s : State), s.chip.atOnce rq R.NM_LOCAL 1 = true → s.chip.flag R.NM_CTRL F.NM_CTRL_EN = true → ∃ c', exec (.nmLocalAwakeWrite rq data) s = .next { s with chip := c' } ∧ c'.fget R.NM_LOCAL F.NM_LOCAL_AWAKE = F.NM_LOCAL_AWAKE.get data ∧ (∀ n < 8, s.chip.nmMaySend n = true ∧ (s.chip.can n).cur ≠ some 63 ∧ s.chip.flag R.SYS_CLK_STATUS F.SYS_CLK_STATUS_XTAL40_OK = true ∧ F.NM_LOCAL_AWAKE.get data ≠ s.chip.fget R.NM_LOCAL F.NM_LOCAL_AWAKE → c'.mbPend n 63 = true)) ∧
  (∀ (b : Fin 256) (s : State), b.val ≠ s.chip.ownNode → ∃ c', exec (.nmNodeAbsent b) s = .next { s with chip := c' } ∧ c'.present b = false ∧ c'.nodeAwake b = false ∧ (∀ m < 256, m ≠ b.val ∧ m ≠ s.chip.ownNode → c'.present m = s.chip.present m) ∧ Only [Blk.sys, Blk.evr, Blk.que, Blk.can, Blk.nm] s.chip c') ∧
  (∀ (b : Fin 256) (s : State), b.val = s.chip.ownNode → exec (.nmNodeAbsent b) s = .next (s)) ∧
  (∀ (e : Fin 16) (s : State), s.chip.flag R.NM_STATUS F.NM_STATUS_LONE_VALID = true ∧ s.chip.nm.begun = false ∧ s.chip.awake = true →  ((∀ k < 16, s.chip.fget (R.NM_OFF_ENTRY k) F.NM_OFF_ENTRY_COUNT = 0 ∨ s.chip.fget (R.NM_OFF_ENTRY k) F.NM_OFF_ENTRY_NODE ≠ s.chip.fget R.NM_STATUS F.NM_STATUS_LONE)) → (∀ k < 16, k < e.val → s.chip.fget (R.NM_OFF_ENTRY k) F.NM_OFF_ENTRY_COUNT ≠ 0) → s.chip.fget (R.NM_OFF_ENTRY e) F.NM_OFF_ENTRY_COUNT = 0 → ∃ c', exec (.nmOffenceBegin) s = .next { s with chip := c' } ∧ c'.fget (R.NM_OFF_ENTRY e) F.NM_OFF_ENTRY_COUNT = 1 ∧ c'.fget (R.NM_OFF_ENTRY e) F.NM_OFF_ENTRY_NODE = s.chip.fget R.NM_STATUS F.NM_STATUS_LONE ∧ c'.rd (R.EVR_CNT 145) = .ofNat 32 (min 0xFFFFFFFF ((s.chip.rd (R.EVR_CNT 145)).toNat + 1)) ∧ c'.nm.begun = true) ∧
  (∀ (e : Fin 16) (s : State), s.chip.flag R.NM_STATUS F.NM_STATUS_LONE_VALID = true ∧ s.chip.nm.begun = false ∧ s.chip.awake = true →  s.chip.fget (R.NM_OFF_ENTRY e) F.NM_OFF_ENTRY_COUNT ≠ 0 ∧ s.chip.fget (R.NM_OFF_ENTRY e) F.NM_OFF_ENTRY_NODE = s.chip.fget R.NM_STATUS F.NM_STATUS_LONE → ((∀ k < 16, k < e.val → s.chip.fget (R.NM_OFF_ENTRY k) F.NM_OFF_ENTRY_COUNT = 0 ∨ s.chip.fget (R.NM_OFF_ENTRY k) F.NM_OFF_ENTRY_NODE ≠ s.chip.fget R.NM_STATUS F.NM_STATUS_LONE)) → ∃ c', exec (.nmOffenceBegin) s = .next { s with chip := c' } ∧ c'.fget (R.NM_OFF_ENTRY e) F.NM_OFF_ENTRY_COUNT = min F.NM_OFF_ENTRY_COUNT.max (s.chip.fget (R.NM_OFF_ENTRY e) F.NM_OFF_ENTRY_COUNT + 1) ∧ c'.rd (R.EVR_CNT 145) = .ofNat 32 (min 0xFFFFFFFF ((s.chip.rd (R.EVR_CNT 145)).toNat + 1)) ∧ c'.nm.begun = true) ∧
  (∀ (s : State), s.chip.flag R.NM_STATUS F.NM_STATUS_LONE_VALID = true ∧ s.chip.nm.begun = false ∧ s.chip.nm.entry = none ∧ s.chip.awake = true →  (∀ k < 16, s.chip.fget (R.NM_OFF_ENTRY k) F.NM_OFF_ENTRY_COUNT ≠ 0 ∧ s.chip.fget (R.NM_OFF_ENTRY k) F.NM_OFF_ENTRY_NODE ≠ s.chip.fget R.NM_STATUS F.NM_STATUS_LONE) → ∃ c', exec (.nmOffenceBegin) s = .next { s with chip := c' } ∧ c'.rd (R.NM_OFF_LOST_CNT) = .ofNat 32 (min 0xFFFFFFFF ((s.chip.rd (R.NM_OFF_LOST_CNT)).toNat + 1)) ∧ c'.rd (R.EVR_CNT 145) = .ofNat 32 (min 0xFFFFFFFF ((s.chip.rd (R.EVR_CNT 145)).toNat + 1)) ∧ c'.rd (R.EVR_CNT 148) = .ofNat 32 (min 0xFFFFFFFF ((s.chip.rd (R.EVR_CNT 148)).toNat + 1)) ∧ (∀ k < 16, c'.rd (R.NM_OFF_ENTRY k) = s.chip.rd (R.NM_OFF_ENTRY k))) ∧
  (∀ (s : State), s.chip.flag R.NM_STATUS F.NM_STATUS_LONE_VALID = false → exec (.nmOffenceBegin) s = .next (s)) ∧
  (∀ (rq : Req) (data : Word) (s : State), s.chip.atOnce rq R.NM_OFF_CLEAR 1 = true → s.chip.nm.begunAt = none → ∃ c', exec (.nmOffClear rq data) s = .next { s with chip := c' } ∧ (∀ k < 16, c'.rd (R.NM_OFF_ENTRY k) = 0 ∧ c'.rd (R.NM_OFF_DURATION k) = 0) ∧ c'.nm.entry = none ∧ Only [Blk.sys, (R.NM_OFF_ENTRY 0, R.NM_OFF_ENTRY 16)] s.chip c') ∧
  (∀ (rq : Req) (data : Word) (b : Fin 256) (s : State), s.chip.atOnce rq R.NM_OFF_CLEAR 1 = true → s.chip.nm.begunAt = some (b.val, (s.chip.ctr64 R.SYS_MTIME_LO).toNat) → s.chip.flag R.NM_STATUS F.NM_STATUS_LONE_VALID = true → ∃ c', exec (.nmOffClear rq data) s = .next { s with chip := c' } ∧ c'.fget (R.NM_OFF_ENTRY 0) F.NM_OFF_ENTRY_NODE = b ∧ c'.fget (R.NM_OFF_ENTRY 0) F.NM_OFF_ENTRY_COUNT = 1 ∧ (∀ k < 16, k ≠ 0 → c'.rd (R.NM_OFF_ENTRY k) = 0))

/-- In a running module where an event is raised; r is the round under way. ACC_ROUND_START of a round set up, the radio working: it is counted and started, every distance reads absent, the antennas' faults are shown (R436, R440). With the radio off, no trigger pending: it ends RADIO_OFF, EV160 (R447). ACC_POLL of a started round: the first poll, the slots in their own order (R441). After windows that ended with a corrupted slot, fewer than four polls: the next poll (R443). ACC_TOKEN_RESPONSE in an open window of an enrolled slot with the right proof: the slot has answered (R442). With a wrong proof: RESULT 2, counted, EV164 (R442). With noise: RESULT 3, one collision (R443). ACC_SLOT_WINDOWS_END before the fourth poll or with nothing corrupted: the windows have ended. After four polls with a slot corrupted in each: DENIED by jamming, counted, EV163 (R444). ACC_SESSION_OPEN of a slot that answered: authenticated if accepted, else RESULT 2 (R442). ACC_RANGING_EXCHANGE with a distance, the port good: it is stored, at most 0xFFFE; other ports' stay (R445). Corrupted: no distance, one collision (R445). ACC_ROUND_DECIDE where nothing answered: NO_TOKEN, EV160 (R446). Where one authenticated token is inside the triggering zone of a handle: GRANTED with slot and zone, day 0, EV160 (R446, R448). ACC_RELEASE_PERIOD of a release whose frame's buffer is busy: the frame waits (R451). Without a release: nothing. ACC_BLINK of an enrolled token, listening, no round: a round of trigger BLINK has polled once (R438, R440). ACC_POLL_DAYS_EXPIRE while polling: it stops, EV165 (R448). -/
def Obligations.AccessRounds : Prop :=
  (∀ (a : BitVec 4) (r : Round) (s : State), s.chip.acc.round = some r → r.started = false → s.chip.awake = true →  s.chip.radioOff = false → ∃ c', exec (.accRoundStart a) s = .next { s with chip := c' } ∧ c'.rd (R.ACC_ROUND_CNT) = .ofNat 32 (min 0xFFFFFFFF ((s.chip.rd (R.ACC_ROUND_CNT)).toNat + 1)) ∧ (∀ k < 10, c'.rd (R.ACC_SLOT_D01 k) = 0xFFFFFFFF ∧ c'.rd (R.ACC_SLOT_D23 k) = 0xFFFFFFFF) ∧ c'.acc.round = some { r with started := true } ∧ c'.fget R.UWB_STATUS F.UWB_STATUS_ANT_FAULT = a.toNat ∧ Only [Blk.acc] s.chip c') ∧
  (∀ (a : BitVec 4) (r : Round) (s : State), s.chip.acc.round = some r → r.started = false ∧ s.chip.acc.pend = none → s.chip.radioOff = true → s.chip.awake = true →  ∃ c', exec (.accRoundStart a) s = .next { s with chip := c' } ∧ c'.acc.round = none ∧ c'.fget R.ACC_LAST F.ACC_LAST_OUTCOME = 6 ∧ c'.rd (R.ACC_ROUND_CNT) = .ofNat 32 (min 0xFFFFFFFF ((s.chip.rd (R.ACC_ROUND_CNT)).toNat + 1)) ∧ c'.rd (R.EVR_CNT 160) = .ofNat 32 (min 0xFFFFFFFF ((s.chip.rd (R.EVR_CNT 160)).toNat + 1))) ∧
  (∀ (r : Round) (s : State), s.chip.acc.round = some r → r.started = true ∧ r.polls = 0 → ∃ c', exec (.accPoll) s = .next { s with chip := c' } ∧ (c'.acc.round.map fun q => (q.polls, q.order, q.ended, q.hit)) = some (1, List.range 10, false, []) ∧ ((c'.acc.round.map fun q => q.always) = some s.chip.enrolledSlots) ∧ Only [] s.chip c') ∧
  (∀ (r : Round) (s : State), s.chip.acc.round = some r → r.started = true ∧ 1 ≤ r.polls ∧ r.polls < 4 ∧ r.ended = true ∧ r.hit ≠ [] → ∃ c', exec (.accPoll) s = .next { s with chip := c' } ∧ (c'.acc.round.map fun q => (q.polls, q.ended, q.hit)) = some (r.polls + 1, false, []) ∧ Only [] s.chip c') ∧
  (∀ (k : Fin 10) (nt : BitVec 128) (r : Round) (s : State), s.chip.acc.enrol = none → s.chip.acc.round = some r → r.order = List.range 10 ∧ r.ended = false ∧ s.chip.enrolled k = true ∧ r.auth = [] → ∃ c', exec (.accTokenResponse k (.answer nt (tokenProof (s.chip.tokenKey k) r.nonce nt))) s = .next { s with chip := c' } ∧ c'.acc.round = some { r with answered := (k.val, nt) :: r.answered } ∧ Only [] s.chip c') ∧
  (∀ (k : Fin 10) (nt x : BitVec 128) (r : Round) (s : State), s.chip.acc.enrol = none → s.chip.acc.round = some r → r.order = List.range 10 ∧ r.ended = false ∧ s.chip.enrolled k = true ∧ r.auth = [] → x ≠ 0 → s.chip.awake = true →  ∃ c', exec (.accTokenResponse k (.answer nt (tokenProof (s.chip.tokenKey k) r.nonce nt + x))) s = .next { s with chip := c' } ∧ c'.fget (R.ACC_SLOT_RES k) F.ACC_SLOT_RES_RESULT = 2 ∧ c'.rd (R.ACC_AUTH_FAIL_CNT) = .ofNat 32 (min 0xFFFFFFFF ((s.chip.rd (R.ACC_AUTH_FAIL_CNT)).toNat + 1)) ∧ c'.rd (R.EVR_CNT 164) = .ofNat 32 (min 0xFFFFFFFF ((s.chip.rd (R.EVR_CNT 164)).toNat + 1)) ∧ Only [Blk.sys, Blk.evr, Blk.que, Blk.acc] s.chip c') ∧
  (∀ (k : Fin 10) (r : Round) (s : State), s.chip.acc.enrol = none → s.chip.acc.round = some r → r.order = List.range 10 ∧ r.ended = false ∧ s.chip.enrolled k = true ∧ r.auth = [] → ∃ c', exec (.accTokenResponse k .noise) s = .next { s with chip := c' } ∧ c'.fget (R.ACC_SLOT_RES k) F.ACC_SLOT_RES_RESULT = 3 ∧ c'.rd (R.ACC_COLLISION_CNT) = .ofNat 32 (min 0xFFFFFFFF ((s.chip.rd (R.ACC_COLLISION_CNT)).toNat + 1)) ∧ Only [Blk.acc] s.chip c') ∧
  (∀ (r : Round) (s : State), s.chip.acc.round = some r → 1 ≤ r.polls ∧ r.ended = false → (r.polls < 4 ∨ r.hit = []) → ∃ c', exec (.accSlotWindowsEnd) s = .next { s with chip := c' } ∧ c'.acc.round = some { r with ended := true } ∧ Only [] s.chip c') ∧
  (∀ (r : Round) (k : Nat) (s : State), s.chip.acc.round = some r → r.polls = 4 ∧ r.ended = false ∧ r.always = [k] ∧ r.hit = [k] ∧ s.chip.acc.pend = none → s.chip.awake = true →  ∃ c', exec (.accSlotWindowsEnd) s = .next { s with chip := c' } ∧ c'.acc.round = none ∧ c'.fget R.ACC_LAST F.ACC_LAST_OUTCOME = 5 ∧ c'.rd (R.ACC_JAM_CNT) = .ofNat 32 (min 0xFFFFFFFF ((s.chip.rd (R.ACC_JAM_CNT)).toNat + 1)) ∧ c'.rd (R.EVR_CNT 163) = .ofNat 32 (min 0xFFFFFFFF ((s.chip.rd (R.EVR_CNT 163)).toNat + 1))) ∧
  (∀ (k : Fin 10) (accepted : Bool) (r : Round) (s : State), s.chip.acc.round = some r → ((r.answered.any fun y => y.1 == k.val) = true) → ∃ c', exec (.accSessionOpen k accepted) s = .next { s with chip := c' } ∧ c'.fget (R.ACC_SLOT_RES k) F.ACC_SLOT_RES_RESULT = (if accepted then 1 else 2) ∧ (c'.acc.round.map fun q => q.auth.contains k.val) = some (accepted || r.auth.contains k.val) ∧ Only [Blk.sys, Blk.evr, Blk.que, Blk.acc] s.chip c') ∧
  (∀ (k : Fin 10) (p : Fin 4) (d : Nat) (r : Round) (s : State), s.chip.acc.round = some r → r.auth.contains k.val = true ∧ r.gone = [] → s.chip.antFault p = false → ∃ c', exec (.accRangingExchange k p (some d)) s = .next { s with chip := c' } ∧ c'.dist k p = min d 0xFFFE ∧ (∀ q < 4, q ≠ p.val → c'.dist k q = s.chip.dist k q) ∧ c'.acc = s.chip.acc ∧ Only [Blk.acc] s.chip c') ∧
  (∀ (k : Fin 10) (p : Fin 4) (r : Round) (s : State), s.chip.acc.round = some r → r.auth.contains k.val = true ∧ r.gone = [] → ∃ c', exec (.accRangingExchange k p none) s = .next { s with chip := c' } ∧ c'.dist k p = 0xFFFF ∧ c'.rd (R.ACC_COLLISION_CNT) = .ofNat 32 (min 0xFFFFFFFF ((s.chip.rd (R.ACC_COLLISION_CNT)).toNat + 1)) ∧ Only [Blk.acc] s.chip c') ∧
  (∀ (r : Round) (s : State), s.chip.acc.round = some r → r.started = true ∧ 1 ≤ r.polls ∧ r.ended = true ∧ r.hit = [] ∧ r.auth = [] ∧ r.failed = [] ∧ s.chip.acc.pend = none → s.chip.awake = true →  ∃ c', exec (.accRoundDecide) s = .next { s with chip := c' } ∧ c'.acc.round = none ∧ c'.fget R.ACC_LAST F.ACC_LAST_OUTCOME = 2 ∧ c'.rd (R.EVR_CNT 160) = .ofNat 32 (min 0xFFFFFFFF ((s.chip.rd (R.EVR_CNT 160)).toNat + 1))) ∧
  (∀ (r : Round) (k : Fin 10) (z : Fin 8) (s : State), s.chip.acc.round = some r → r.started = true ∧ 1 ≤ r.polls ∧ r.ended = true ∧ r.hit = [] ∧ r.auth = [k.val] ∧ r.gone = [] ∧ s.chip.acc.pend = none → r.trig = 1 ∧ r.zone = some z.val → s.chip.inside k z = true → s.chip.awake = true →  s.chip.flag R.ACC_STATE F.ACC_STATE_POLL_STOPPED = false → ∃ c', exec (.accRoundDecide) s = .next { s with chip := c' } ∧ c'.acc.round = none ∧ c'.fget R.ACC_LAST F.ACC_LAST_OUTCOME = 1 ∧ c'.fget R.ACC_LAST F.ACC_LAST_SLOT = k ∧ c'.fget R.ACC_LAST F.ACC_LAST_ZONE = z ∧ c'.fget R.ACC_STATE F.ACC_STATE_DAYS = 0 ∧ c'.rd (R.EVR_CNT 160) = .ofNat 32 (min 0xFFFFFFFF ((s.chip.rd (R.EVR_CNT 160)).toNat + 1))) ∧
  (∀ (s : State), s.chip.released = true → s.chip.mbPend (s.chip.fget R.ACC_CFG3 F.ACC_CFG3_IMMO_CAN) 62 = true → exec (.accReleasePeriod) s = .next (s.onChip fun c => c.setAcc { c.acc with frameWait := some true })) ∧
  (∀ (s : State), s.chip.released = false → exec (.accReleasePeriod) s = .next (s)) ∧
  (∀ (k : Fin 10) (a : BitVec 4) (s : State), s.chip.listens = true ∧ s.chip.enrolled k = true ∧ s.chip.acc.round = none → ∃ c', exec (.accBlink k a) s = .next { s with chip := c' } ∧ (c'.acc.round.map fun q => (q.trig, q.blink, q.started, q.polls)) = some (2, k.val, true, 1) ∧ c'.rd (R.ACC_ROUND_CNT) = .ofNat 32 (min 0xFFFFFFFF ((s.chip.rd (R.ACC_ROUND_CNT)).toNat + 1)) ∧ Only [Blk.acc] s.chip c') ∧
  (∀ (s : State), s.chip.flag R.ACC_STATE F.ACC_STATE_POLL_STOPPED = false → s.chip.awake = true → ∃ c', exec (.accPollDaysExpire) s = .next { s with chip := c' } ∧ c'.flag R.ACC_STATE F.ACC_STATE_POLL_STOPPED = true ∧ c'.rd (R.EVR_CNT 165) = .ofNat 32 (min 0xFFFFFFFF ((s.chip.rd (R.EVR_CNT 165)).toNat + 1)) ∧ Only [Blk.sys, Blk.evr, Blk.que, Blk.acc] s.chip c')

/-- SEAL_TIMER_EXPIRE with records unsealed, the signer free, room in the log: a SEAL record is appended, and the signer starts on it in the other seal slot; SEALING reads 1 (R473). With none, or in a module that is not running: nothing. SIGN_JOB_COMPLETE of a seal, nothing waiting for the signer: its SEQ stands in SEC_SEAL_SEQ, SEALING reads 0, EV192 (R473). SEALED_INTERRUPTION_END of a sealed channel that drives, its interruption open, the link of power die 3 up: it is closed, EV199 (R467). BYPASS_INTERVAL_END of a conduction under way, the link up: it is over, EV200 (R468). Of none: nothing. PWR_SEAL_ACK by the supervisor, landing at once: the entries named are free, the others keep kind and payload (R467). LOAD_WINDOW_END of the command engine: its utilisation is shown, and PEAK is no less (R510). Of the fabric, with the links' values: its utilisation and the first link's are shown (R510). -/
def Obligations.TheLogIsSealedAndTheRecorderWorks : Prop :=
  (∀ (s : State), s.chip.grain.dirty = true ∧ s.chip.awake = true ∧ s.chip.erasing = false → s.chip.grain.job = none ∧ s.chip.grain.attWait = [] ∧ s.chip.grain.mainRoom = true → ∃ c', exec (.sealTimerExpire) s = .next { s with chip := c' } ∧ c'.grain.nextSeq = s.chip.grain.nextSeq + 1 ∧ (c'.grain.recs.getLast?.map fun r => (r.typ, r.seq)) = some (0x80, s.chip.grain.nextSeq) ∧ (match c'.grain.job with | some (.sealing q sl msg) => decide (q = s.chip.grain.nextSeq ∧ sl = 1 - s.chip.grain.sealSlot) | _ => false) = true ∧ c'.flag R.SEC_LOG_STATUS F.SEC_LOG_STATUS_SEALING = true ∧ Only [Blk.sec] s.chip c') ∧
  (∀ (s : State), (s.chip.grain.dirty = false ∨ s.chip.awake = false) → exec (.sealTimerExpire) s = .next (s)) ∧
  (∀ (q sl : Nat) (msg : List Byte) (s : State), s.chip.grain.job = some (.sealing q sl msg) ∧ s.chip.awake = true → s.chip.grain.sealWait = false ∧ s.chip.grain.attWait = [] ∧ s.chip.grain.exp = none ∧ s.chip.cmds = [] → ∃ c', exec (.signJobComplete) s = .next { s with chip := c' } ∧ c'.rd R.SEC_SEAL_SEQ = .ofNat 32 q ∧ c'.flag R.SEC_LOG_STATUS F.SEC_LOG_STATUS_SEALING = false ∧ c'.rd (R.EVR_CNT 192) = .ofNat 32 (min 0xFFFFFFFF ((s.chip.rd (R.EVR_CNT 192)).toNat + 1)) ∧ c'.grain.job = none ∧ c'.grain.lastSeal = q ∧ Only [Blk.sys, Blk.evr, Blk.que, Blk.sec] s.chip c') ∧
  (∀ (k : Fin 4) (m : BitVec 16) (lim : Bool) (s : State), (s.chip.chRun (188 + k)).driven = true → s.chip.flag R.PWR_SEAL_STATUS (bitFld k) = true ∧ s.chip.linkUp 5 = true ∧ s.chip.awake = true →  ∃ c', exec (.sealedInterruptionEnd k m lim) s = .next { s with chip := c' } ∧ c'.flag R.PWR_SEAL_STATUS (bitFld k) = false ∧ c'.rd (R.EVR_CNT 199) = .ofNat 32 (min 0xFFFFFFFF ((s.chip.rd (R.EVR_CNT 199)).toNat + 1)) ∧ (c'.sealX (188 + k)).entry = none) ∧
  (∀ (k : Fin 4) (h a : BitVec 16) (lim pl : Bool) (s : State), (s.chip.sealX (188 + k)).byStart ≠ none ∧ s.chip.linkUp 5 = true ∧ s.chip.awake = true →  ∃ c', exec (.bypassIntervalEnd k h a lim pl) s = .next { s with chip := c' } ∧ c'.flag R.PWR_SEAL_STATUS (bitFld (4 + k)) = false ∧ c'.rd (R.EVR_CNT 200) = .ofNat 32 (min 0xFFFFFFFF ((s.chip.rd (R.EVR_CNT 200)).toNat + 1)) ∧ (c'.sealX (188 + k)).byStart = none) ∧
  (∀ (k : Fin 4) (h a : BitVec 16) (lim pl : Bool) (s : State), (s.chip.sealX (188 + k)).byStart = none → exec (.bypassIntervalEnd k h a lim pl) s = .next (s)) ∧
  (∀ (data : Word) (s : State), s.chip.direct .sup R.PWR_SEAL_ACK = true → ∃ c', exec (.pwrSealAck .sup data) s = .next { s with chip := c' } ∧ (∀ e < 16, c'.entryValid e = (s.chip.entryValid e && !data.toNat.testBit e)) ∧ (∀ e < 16, data.toNat.testBit e = false → c'.rd (R.PWR_SEAL_KIND e) = s.chip.rd (R.PWR_SEAL_KIND e) ∧ c'.entryPay e = s.chip.entryPay e)) ∧
  (∀ (u : BitVec 8) (l : List (BitVec 8)) (s : State), s.chip.awake = true → (((Tbl.get (fun _ => []) s.chip.loads 0).all fun v => decide (v < 256)) = true) →  ∃ c', exec (.loadWindowEnd 0 u l) s = .next { s with chip := c' } ∧ c'.fget R.SYS_LOAD_CMD F.SYS_LOAD_CMD_UTIL = u.toNat ∧ u.toNat ≤ c'.fget R.SYS_LOAD_CMD F.SYS_LOAD_CMD_PEAK ∧ Only [(R.SYS_LOAD_CMD, R.SYS_LOAD_CMD + 4)] s.chip c') ∧
  (∀ (u v : BitVec 8) (l : List (BitVec 8)) (s : State), s.chip.awake = true → ∃ c', exec (.loadWindowEnd 1 u (v :: l)) s = .next { s with chip := c' } ∧ c'.fget R.SYS_LOAD_FABRIC F.SYS_LOAD_CMD_UTIL = u.toNat ∧ c'.fget (R.SYS_LINK_UTIL 1) F.SYS_LINK_UTIL_UTIL = v.toNat ∧ Only [Blk.sys] s.chip c')

/-- The service port hears the request. DIAGNOSTIC_SESSION_CONTROL 2 or 3 in STANDBY or RUN, no start released, no transfer: SERVICE in that session, EV215, a positive response (R381, R483). 1 in SERVICE that was entered from STANDBY or RUN, nothing armed: that mode, the default session, EV215 (R483). Any in LIMP: NRC 0x22; nothing else (R483). S3_TIMEOUT of such a session with a transfer under way: the mode SERVICE was entered from, staging INVALID with result 10, EV215 (R483). Of one entered from STARTUP or with an activation armed: still SERVICE, the default session. In the default session: nothing. ECU_RESET 1 outside the default session, with a good start: cause 0x17, one reset counted, SRAM 0, authority count and policy kept, the default session (R486). In the default session: NRC 0x7F; nothing else. Of another kind: NRC 0x12; nothing else. READ_DATA_BY_IDENTIFIER 0x5A10 outside STARTUP: staging, result, failing part, flags, staged version, last outcome, stored SVN (R485). 0x5A11: the boot report. 0x5A12: the certificate. 0x5A13: 1,187 bytes. Any other: NRC 0x31. TESTER_PRESENT: 0x7E. SECURITY_ACCESS: NRC 0x11; the session stays (R482). UNSUPPORTED_SERVICE_REQUEST: NRC 0x11 (R482). A request that is not heard: nothing. -/
def Obligations.UdsSessionsAndIdentifiers : Prop :=
  (∀ (n : BitVec 8) (s : State), s.chip.svcHears = true → (n = 2 ∨ n = 3) → (s.chip.mode = 3 ∨ s.chip.mode = 4) → s.chip.upd.session = 1 ∧ s.chip.upd.staging ≠ 1 → s.chip.released = false → ∃ c', exec (.diagnosticSessionControl n) s = .next { s with chip := c' } ∧ c'.mode = 6 ∧ c'.upd.session = n.toNat ∧ c'.upd.back = s.chip.mode ∧ c'.rd (R.EVR_CNT 215) = .ofNat 32 (min 0xFFFFFFFF ((s.chip.rd (R.EVR_CNT 215)).toNat + 1)) ∧ c'.upd.reply = [0x50, n]) ∧
  (∀ (s : State), s.chip.svcHears = true → s.chip.mode = 6 ∧ s.chip.upd.session ≠ 1 → s.chip.upd.fromStart = false ∧ s.chip.upd.staging ≠ 5 ∧ s.chip.upd.staging ≠ 1 → (s.chip.upd.back = 3 ∨ s.chip.upd.back = 4) → ∃ c', exec (.diagnosticSessionControl 1) s = .next { s with chip := c' } ∧ c'.mode = s.chip.upd.back ∧ c'.upd.session = 1 ∧ c'.rd (R.EVR_CNT 215) = .ofNat 32 (min 0xFFFFFFFF ((s.chip.rd (R.EVR_CNT 215)).toNat + 1)) ∧ c'.upd.reply = [0x50, 1]) ∧
  (∀ (n : BitVec 8) (s : State), s.chip.svcHears = true → s.chip.mode = 7 → ∃ c', exec (.diagnosticSessionControl n) s = .next { s with chip := c' } ∧ c'.upd.reply = [0x7F, 0x10, 0x22] ∧ c'.mode = 7 ∧ Only [] s.chip c') ∧
  (∀ (s : State), s.chip.awake = true → s.chip.upd.session ≠ 1 ∧ s.chip.mode = 6 → s.chip.upd.fromStart = false ∧ s.chip.upd.staging = 1 → (s.chip.upd.back = 3 ∨ s.chip.upd.back = 4) → ∃ c', exec (.s3Timeout) s = .next { s with chip := c' } ∧ c'.mode = s.chip.upd.back ∧ c'.upd.session = 1 ∧ c'.upd.staging = 4 ∧ c'.upd.result = 10 ∧ c'.rd (R.EVR_CNT 215) = .ofNat 32 (min 0xFFFFFFFF ((s.chip.rd (R.EVR_CNT 215)).toNat + 1))) ∧
  (∀ (s : State), s.chip.awake = true → s.chip.upd.session ≠ 1 ∧ s.chip.mode = 6 → (s.chip.upd.fromStart = true ∨ s.chip.upd.staging = 5) → ∃ c', exec (.s3Timeout) s = .next { s with chip := c' } ∧ c'.mode = 6 ∧ c'.upd.session = 1 ∧ Only [Blk.sys, Blk.evr, Blk.que] s.chip c') ∧
  (∀ (s : State), s.chip.upd.session = 1 → exec (.s3Timeout) s = .next (s)) ∧
  (∀ (env : StartEnv) (s : State), env.xtal = true ∧ env.supOk = true ∧ env.appOk = true → s.chip.upd.staging ≠ 5 ∧ s.chip.upd.journal = 0 ∧ s.chip.stored.writes = [] → s.chip.svcHears = true → s.chip.upd.session ≠ 1 → ∃ t, exec (.ecuReset 1 env) s = .next t ∧ t.chip.mode = (if s.chip.stored.target = 3 then 3 else 4) ∧ t.chip.rd R.SYS_RESET_CAUSE = 0x17 ∧ t.chip.rd (R.SYS_RESET_CNT) = .ofNat 32 (min 0xFFFFFFFF ((s.chip.rd (R.SYS_RESET_CNT)).toNat + 1)) ∧ t.sram = [] ∧ t.chip.rd R.SEC_AUTH_CNT = s.chip.rd R.SEC_AUTH_CNT ∧ t.chip.policy = s.chip.policy ∧ t.chip.upd.session = 1) ∧
  (∀ (k : BitVec 8) (env : StartEnv) (s : State), s.chip.svcHears = true → s.chip.upd.session = 1 → ∃ c', exec (.ecuReset k env) s = .next { s with chip := c' } ∧ c'.upd.reply = [0x7F, 0x11, 0x7F] ∧ Only [] s.chip c') ∧
  (∀ (k : BitVec 8) (env : StartEnv) (s : State), s.chip.svcHears = true → s.chip.upd.session ≠ 1 ∧ k ≠ 1 → ∃ c', exec (.ecuReset k env) s = .next { s with chip := c' } ∧ c'.upd.reply = [0x7F, 0x11, 0x12] ∧ Only [] s.chip c') ∧
  (∀ (s : State), s.chip.svcHears = true → s.chip.mode ≠ 5 → ∃ c', exec (.readDataByIdentifier 0x5A10) s = .next { s with chip := c' } ∧ c'.upd.reply = ([0x62, 0x5A, 0x10, .ofNat 8 s.chip.upd.staging, .ofNat 8 s.chip.upd.result, .ofNat 8 s.chip.upd.failing, .ofNat 8 (s.chip.logFull.toNat + 2 * (decide (s.chip.upd.staging = 1)).toNat)] ++ beBytes 4 s.chip.stagedVersion.toNat ++ beBytes 4 s.chip.upd.outcome.toNat ++ beBytes 4 s.chip.upd.storedSvn) ∧ Only [] s.chip c') ∧
  (∀ (s : State), s.chip.svcHears = true → s.chip.mode ≠ 5 → ∃ c', exec (.readDataByIdentifier 0x5A11) s = .next { s with chip := c' } ∧ (c'.upd.reply = ([0x62, 0x5A, 0x11] ++ (List.range 32).flatMap fun w => beBytes 4 (s.chip.rd (R.SYS_BOOT_REPORT w)).toNat)) ∧ Only [] s.chip c') ∧
  (∀ (s : State), s.chip.svcHears = true → s.chip.mode ≠ 5 → ∃ c', exec (.readDataByIdentifier 0x5A12) s = .next { s with chip := c' } ∧ c'.upd.reply.length = 7923 ∧ c'.upd.reply = ([0x62, 0x5A, 0x12] ++ certificate) ∧ Only [] s.chip c') ∧
  (∀ (s : State), s.chip.svcHears = true → s.chip.mode ≠ 5 → ∃ c', exec (.readDataByIdentifier 0x5A13) s = .next { s with chip := c' } ∧ c'.upd.reply.length = 1187 ∧ Only [] s.chip c') ∧
  (∀ (d : BitVec 16) (s : State), s.chip.svcHears = true → s.chip.mode ≠ 5 → (d.toNat < 0x5A10 ∨ 0x5A13 < d.toNat) → ∃ c', exec (.readDataByIdentifier d) s = .next { s with chip := c' } ∧ c'.upd.reply = [0x7F, 0x22, 0x31] ∧ Only [] s.chip c') ∧
  (∀ (s : State), s.chip.svcHears = true → s.chip.mode ≠ 5 → ∃ c', exec (.testerPresent) s = .next { s with chip := c' } ∧ c'.upd.reply = [0x7E, 0] ∧ Only [] s.chip c') ∧
  (∀ (k : BitVec 8) (s : State), s.chip.svcHears = true → ∃ c', exec (.securityAccess k) s = .next { s with chip := c' } ∧ c'.upd.reply = [0x7F, 0x27, 0x11] ∧ c'.upd.session = s.chip.upd.session ∧ Only [] s.chip c') ∧
  (∀ (k : BitVec 8) (s : State), s.chip.svcHears = true → ([0x10, 0x11, 0x22, 0x31, 0x34, 0x36, 0x37, 0x3E] : List (BitVec 8)).contains k = false → ∃ c', exec (.unsupportedServiceRequest k) s = .next { s with chip := c' } ∧ c'.upd.reply = [0x7F, k, 0x11] ∧ Only [] s.chip c') ∧
  (∀ (k : BitVec 16) (s : State), s.chip.svcHears = false → exec (.readDataByIdentifier k) s = .next (s))

/-- The service port hears the request; the session is the programming one. ERASE_STAGING: staging EMPTY, no data. CHECK_PACKAGE of a RECEIVED package: its check runs. In another staging state: NRC 0x24. CHECK_PACKAGE_DONE: VALID with EV209, or INVALID with EV210 and what the check found (R488). With no check: nothing. ARM_ACTIVATION of a VALID package, the log not full: armed, EV211. The log full: NRC 0x22, still VALID. Not VALID: NRC 0x24. DISARM of an armed one: VALID. Else: NRC 0x24. ROUTINE_RESULTS 0x5A02: result and failing part. While the check runs: NRC 0x78. ROUTINE_PENDING_RESPONSE while it runs: NRC 0x78. With no check: nothing. REQUEST_DOWNLOAD of at most 4,194,304 bytes to address 0: RECEIVING, counter 1 due (R487). Of another format, address or size: NRC 0x31. TRANSFER_DATA with the counter due, programmed: its bytes are appended. With the last counter again: acknowledged, not written. With any other: NRC 0x73. Too many bytes: NRC 0x71. Programming failed: NRC 0x72. REQUEST_TRANSFER_EXIT with all bytes: RECEIVED, EV208. With fewer, or not RECEIVING: NRC 0x24. TRANSFER_DATA in another session: NRC 0x7F. -/
def Obligations.UdsStagesAPackage : Prop :=
  (∀ (s : State), s.chip.svcHears = true → s.chip.upd.session = 2 → s.chip.mode ≠ 5 → ∃ c', exec (.eraseStaging) s = .next { s with chip := c' } ∧ c'.upd.staging = 0 ∧ c'.upd.data = [] ∧ c'.upd.reply = [0x71, 1, 0x5A, 1] ∧ Only [] s.chip c') ∧
  (∀ (s : State), s.chip.svcHears = true → s.chip.upd.session = 2 → s.chip.upd.staging = 2 ∧ s.chip.upd.checking = false → ∃ c', exec (.checkPackage) s = .next { s with chip := c' } ∧ c'.upd.checking = true ∧ c'.upd.staging = 2 ∧ Only [] s.chip c') ∧
  (∀ (s : State), s.chip.svcHears = true → s.chip.upd.session = 2 → s.chip.upd.staging ≠ 2 → ∃ c', exec (.checkPackage) s = .next { s with chip := c' } ∧ c'.upd.reply = [0x7F, 0x31, 0x24] ∧ c'.upd.staging = s.chip.upd.staging ∧ Only [] s.chip c') ∧
  (∀ (s : State), s.chip.upd.checking = true ∧ s.chip.awake = true → ∃ c', exec (.checkPackageDone) s = .next { s with chip := c' } ∧ c'.upd.checking = false ∧ c'.upd.result = s.chip.checkFinds.1 ∧ c'.upd.failing = s.chip.checkFinds.2 ∧ c'.upd.staging = (if s.chip.checkFinds.1 = 0 then 3 else 4) ∧ c'.rd (R.EVR_CNT (if s.chip.checkFinds.1 = 0 then 209 else 210)) = .ofNat 32 (min 0xFFFFFFFF ((s.chip.rd (R.EVR_CNT (if s.chip.checkFinds.1 = 0 then 209 else 210))).toNat + 1)) ∧ Only [Blk.sys, Blk.evr, Blk.que] s.chip c') ∧
  (∀ (s : State), s.chip.upd.checking = false → exec (.checkPackageDone) s = .next (s)) ∧
  (∀ (s : State), s.chip.svcHears = true → s.chip.upd.session = 2 → s.chip.upd.staging = 3 ∧ s.chip.logFull = false → ∃ c', exec (.armActivation) s = .next { s with chip := c' } ∧ c'.upd.staging = 5 ∧ c'.rd (R.EVR_CNT 211) = .ofNat 32 (min 0xFFFFFFFF ((s.chip.rd (R.EVR_CNT 211)).toNat + 1)) ∧ c'.upd.reply = [0x71, 1, 0x5A, 3] ∧ Only [Blk.sys, Blk.evr, Blk.que] s.chip c') ∧
  (∀ (s : State), s.chip.svcHears = true → s.chip.upd.session = 2 → s.chip.upd.staging = 3 ∧ s.chip.logFull = true → ∃ c', exec (.armActivation) s = .next { s with chip := c' } ∧ c'.upd.staging = 3 ∧ c'.upd.reply = [0x7F, 0x31, 0x22] ∧ Only [] s.chip c') ∧
  (∀ (s : State), s.chip.svcHears = true → s.chip.upd.session = 2 → s.chip.upd.staging ≠ 3 → ∃ c', exec (.armActivation) s = .next { s with chip := c' } ∧ c'.upd.reply = [0x7F, 0x31, 0x24] ∧ c'.upd.staging = s.chip.upd.staging ∧ Only [] s.chip c') ∧
  (∀ (s : State), s.chip.svcHears = true → s.chip.upd.session = 2 → s.chip.mode ≠ 5 ∧ s.chip.upd.staging = 5 → ∃ c', exec (.disarm) s = .next { s with chip := c' } ∧ c'.upd.staging = 3 ∧ c'.upd.reply = [0x71, 1, 0x5A, 4] ∧ Only [] s.chip c') ∧
  (∀ (s : State), s.chip.svcHears = true → s.chip.upd.session = 2 → s.chip.mode ≠ 5 ∧ s.chip.upd.staging ≠ 5 → ∃ c', exec (.disarm) s = .next { s with chip := c' } ∧ c'.upd.staging = s.chip.upd.staging ∧ c'.upd.reply = [0x7F, 0x31, 0x24] ∧ Only [] s.chip c') ∧
  (∀ (s : State), s.chip.svcHears = true → s.chip.upd.session = 2 → s.chip.upd.checking = false → ∃ c', exec (.routineResults 0x5A02) s = .next { s with chip := c' } ∧ c'.upd.reply = [0x71, 3, 0x5A, 2, .ofNat 8 s.chip.upd.result, .ofNat 8 s.chip.upd.failing] ∧ Only [] s.chip c') ∧
  (∀ (s : State), s.chip.svcHears = true → s.chip.upd.session = 2 → s.chip.upd.checking = true → ∃ c', exec (.routineResults 0x5A02) s = .next { s with chip := c' } ∧ c'.upd.reply = [0x7F, 0x31, 0x78] ∧ Only [] s.chip c') ∧
  (∀ (s : State), s.chip.svcHears = true → s.chip.upd.checking = true → ∃ c', exec (.routinePendingResponse) s = .next { s with chip := c' } ∧ c'.upd.reply = [0x7F, 0x31, 0x78] ∧ c'.upd.checking = true ∧ Only [] s.chip c') ∧
  (∀ (s : State), s.chip.upd.checking = false → exec (.routinePendingResponse) s = .next (s)) ∧
  (∀ (size : Word) (s : State), s.chip.svcHears = true → s.chip.upd.session = 2 → size.toNat ≤ 4194304 → ∃ c', exec (.requestDownload 0 0x44 0 size) s = .next { s with chip := c' } ∧ c'.upd.staging = 1 ∧ c'.upd.size = size.toNat ∧ c'.upd.data = [] ∧ c'.upd.block = 1 ∧ c'.upd.reply = [0x74, 0x20, 0x10, 0x02] ∧ Only [] s.chip c') ∧
  (∀ (fm ln : BitVec 8) (a size : Word) (s : State), s.chip.svcHears = true → s.chip.upd.session = 2 → (fm ≠ 0 ∨ ln ≠ 0x44 ∨ a ≠ 0 ∨ 4194304 < size.toNat) → ∃ c', exec (.requestDownload fm ln a size) s = .next { s with chip := c' } ∧ c'.upd.staging = s.chip.upd.staging ∧ c'.upd.reply = [0x7F, 0x34, 0x31] ∧ Only [] s.chip c') ∧
  (∀ (k : BitVec 8) (b : List Byte) (s : State), s.chip.svcHears = true → s.chip.upd.session = 2 → s.chip.upd.staging = 1 ∧ s.chip.upd.block = k.toNat → b.length ≤ 4096 ∧ s.chip.upd.data.length + b.length ≤ s.chip.upd.size → ∃ c', exec (.transferData k b true) s = .next { s with chip := c' } ∧ c'.upd.data = s.chip.upd.data ++ b ∧ c'.upd.block = (k.toNat + 1) % 256 ∧ c'.upd.staging = 1 ∧ c'.upd.reply = [0x76, k] ∧ Only [] s.chip c') ∧
  (∀ (k : BitVec 8) (b : List Byte) (p : Bool) (s : State), s.chip.svcHears = true → s.chip.upd.session = 2 → s.chip.upd.staging = 1 ∧ s.chip.upd.block = (k.toNat + 1) % 256 ∧ s.chip.upd.data ≠ [] → ∃ c', exec (.transferData k b p) s = .next { s with chip := c' } ∧ c'.upd.data = s.chip.upd.data ∧ c'.upd.block = s.chip.upd.block ∧ c'.upd.reply = [0x76, k] ∧ Only [] s.chip c') ∧
  (∀ (k : BitVec 8) (b : List Byte) (p : Bool) (s : State), s.chip.svcHears = true → s.chip.upd.session = 2 → s.chip.upd.staging = 1 ∧ s.chip.upd.block < 256 ∧ s.chip.upd.block ≠ k.toNat ∧ s.chip.upd.block ≠ (k.toNat + 1) % 256 → ∃ c', exec (.transferData k b p) s = .next { s with chip := c' } ∧ c'.upd.data = s.chip.upd.data ∧ c'.upd.reply = [0x7F, 0x36, 0x73] ∧ Only [] s.chip c') ∧
  (∀ (k : BitVec 8) (b : List Byte) (p : Bool) (s : State), s.chip.svcHears = true → s.chip.upd.session = 2 → s.chip.upd.staging = 1 ∧ s.chip.upd.block = k.toNat ∧ s.chip.upd.size < s.chip.upd.data.length + b.length → ∃ c', exec (.transferData k b p) s = .next { s with chip := c' } ∧ c'.upd.data = s.chip.upd.data ∧ c'.upd.reply = [0x7F, 0x36, 0x71] ∧ Only [] s.chip c') ∧
  (∀ (k : BitVec 8) (b : List Byte) (s : State), s.chip.svcHears = true → s.chip.upd.session = 2 → s.chip.upd.staging = 1 ∧ s.chip.upd.block = k.toNat → b.length ≤ 4096 ∧ s.chip.upd.data.length + b.length ≤ s.chip.upd.size → ∃ c', exec (.transferData k b false) s = .next { s with chip := c' } ∧ c'.upd.data = s.chip.upd.data ∧ c'.upd.reply = [0x7F, 0x36, 0x72] ∧ Only [] s.chip c') ∧
  (∀ (s : State), s.chip.svcHears = true → s.chip.upd.session = 2 → s.chip.upd.staging = 1 ∧ s.chip.upd.size ≤ s.chip.upd.data.length → ∃ c', exec (.requestTransferExit) s = .next { s with chip := c' } ∧ c'.upd.staging = 2 ∧ c'.upd.data = s.chip.upd.data ∧ c'.rd (R.EVR_CNT 208) = .ofNat 32 (min 0xFFFFFFFF ((s.chip.rd (R.EVR_CNT 208)).toNat + 1)) ∧ c'.upd.reply = [0x77] ∧ Only [Blk.sys, Blk.evr, Blk.que] s.chip c') ∧
  (∀ (s : State), s.chip.svcHears = true → s.chip.upd.session = 2 → (s.chip.upd.staging ≠ 1 ∨ s.chip.upd.data.length < s.chip.upd.size) → ∃ c', exec (.requestTransferExit) s = .next { s with chip := c' } ∧ c'.upd.staging = s.chip.upd.staging ∧ c'.upd.reply = [0x7F, 0x37, 0x24] ∧ Only [] s.chip c') ∧
  (∀ (k : BitVec 8) (b : List Byte) (p : Bool) (s : State), s.chip.svcHears = true → s.chip.upd.session ≠ 2 → ∃ c', exec (.transferData k b p) s = .next { s with chip := c' } ∧ c'.upd.reply = [0x7F, 0x36, 0x7F] ∧ c'.upd.data = s.chip.upd.data ∧ Only [] s.chip c')

/-- In a powered module, for an access that the host port or the core's memory protection lets through. An access to an alias word that is not an aligned 32-bit one, a read or a write, and any aligned one whose target lies outside every block, completes with a bus error, recorded with its syndrome, requester, address and kind, counted, raised as EV003, and changes nothing outside the system block and the event router. An aligned word access to an alias of a register's bit is allowed, here a core's MSIP, by a requester that is not held. An alias of an unassigned offset inside a block reads as zero, and a write of it changes no register outside the system block but the count of landed writes of a remote die, and of a requester that is not the supervisor no register of the dies but that count and the die's count of foreign writes (R34); the requester is not held, and the link of a remote die is up, in step and takes the access at once. -/
def Obligations.AliasesFailOrReadZeroWhereNothingIs : Prop :=
  (∀ (rq : Req) (u : Bool) (w : Width) (addr : Word) (s : State), s.chip.awake = true → region addr.toNat = .alias_ → s.chip.passes rq u addr.toNat (widthBytes w) 0 = true → (w ≠ .word ∨ addr.toNat % 4 ≠ 0) → ∃ c', exec (.aliasRead rq u w addr) s = .next { s with chip := c' } ∧ c'.respOf rq = ⟨addr.toNat, 0, 2⟩ ∧ c'.fget R.SYS_BUSFAULT F.SYS_BUSFAULT_SYNDROME = 2 ∧ c'.rd R.SYS_BUSFAULT_ADDR = addr ∧ c'.fget R.SYS_BUSFAULT F.SYS_BUSFAULT_WRITE = 0 ∧ c'.fget R.SYS_BUSFAULT F.SYS_BUSFAULT_REQUESTER = rq.code ∧ c'.rd (R.SYS_BUSFAULT_CNT) = .ofNat 32 (min 0xFFFFFFFF ((s.chip.rd (R.SYS_BUSFAULT_CNT)).toNat + 1)) ∧ c'.rd (R.EVR_CNT 3) = .ofNat 32 (min 0xFFFFFFFF ((s.chip.rd (R.EVR_CNT 3)).toNat + 1)) ∧ Only [Blk.sys, Blk.evr] s.chip c') ∧
  (∀ (rq : Req) (u : Bool) (w : Width) (addr data : Word) (s : State), s.chip.awake = true → region addr.toNat = .alias_ → s.chip.passes rq u addr.toNat (widthBytes w) 1 = true → (w ≠ .word ∨ addr.toNat % 4 ≠ 0) → ∃ c', exec (.aliasWrite rq u w addr data) s = .next { s with chip := c' } ∧ c'.fget R.SYS_BUSFAULT F.SYS_BUSFAULT_SYNDROME = 2 ∧ c'.rd R.SYS_BUSFAULT_ADDR = addr ∧ c'.fget R.SYS_BUSFAULT F.SYS_BUSFAULT_WRITE = 1 ∧ c'.fget R.SYS_BUSFAULT F.SYS_BUSFAULT_REQUESTER = rq.code ∧ c'.rd (R.SYS_BUSFAULT_CNT) = .ofNat 32 (min 0xFFFFFFFF ((s.chip.rd (R.SYS_BUSFAULT_CNT)).toNat + 1)) ∧ c'.rd (R.EVR_CNT 3) = .ofNat 32 (min 0xFFFFFFFF ((s.chip.rd (R.EVR_CNT 3)).toNat + 1)) ∧ Only [Blk.sys, Blk.evr] s.chip c') ∧
  (∀ (rq : Req) (u : Bool) (c : Fin 4) (s : State), s.chip.awake = true → s.chip.stalled rq = false → s.chip.passes rq u (0x60000000 + (R.SYS_MSIP c - 0x40000000) * 32) 4 0 = true → ∃ c', exec (.aliasRead rq u .word (.ofNat 32 (0x60000000 + (R.SYS_MSIP c - 0x40000000) * 32))) s = .next { s with chip := c' } ∧ c'.respOf rq = ⟨0x60000000 + (R.SYS_MSIP c - 0x40000000) * 32, s.chip.rd (R.SYS_MSIP c) &&& 1, 0⟩ ∧ Only [] s.chip c') ∧
  (∀ (rq : Req) (u : Bool) (c : Fin 4) (data : Word) (s : State), s.chip.awake = true → s.chip.stalled rq = false → s.chip.passes rq u (0x60000000 + (R.SYS_MSIP c - 0x40000000) * 32) 4 1 = true → s.chip.flag R.SYS_LOCK F.SYS_LOCK_LOCK = false → ∃ c', exec (.aliasWrite rq u .word (.ofNat 32 (0x60000000 + (R.SYS_MSIP c - 0x40000000) * 32)) data) s = .next { s with chip := c' } ∧ c'.fget (R.SYS_MSIP c) F.SYS_MSIP_MSIP = data.toNat % 2 ∧ (∀ a, a ≠ R.SYS_MSIP c → c'.rd a = s.chip.rd a)) ∧
  (∀ (rq : Req) (u : Bool) (addr : Word) (s : State), s.chip.awake = true → region addr.toNat = .alias_ → s.chip.passes rq u addr.toNat 4 0 = true → addr.toNat % 4 = 0 → inBlock (aliasOf addr.toNat).1 = false → ∃ c', exec (.aliasRead rq u .word addr) s = .next { s with chip := c' } ∧ c'.respOf rq = ⟨addr.toNat, 0, 1⟩ ∧ c'.fget R.SYS_BUSFAULT F.SYS_BUSFAULT_SYNDROME = 1 ∧ c'.rd R.SYS_BUSFAULT_ADDR = addr ∧ c'.fget R.SYS_BUSFAULT F.SYS_BUSFAULT_WRITE = 0 ∧ c'.fget R.SYS_BUSFAULT F.SYS_BUSFAULT_REQUESTER = rq.code ∧ c'.rd (R.SYS_BUSFAULT_CNT) = .ofNat 32 (min 0xFFFFFFFF ((s.chip.rd (R.SYS_BUSFAULT_CNT)).toNat + 1)) ∧ c'.rd (R.EVR_CNT 3) = .ofNat 32 (min 0xFFFFFFFF ((s.chip.rd (R.EVR_CNT 3)).toNat + 1)) ∧ Only [Blk.sys, Blk.evr] s.chip c') ∧
  (∀ (rq : Req) (u : Bool) (addr data : Word) (s : State), s.chip.awake = true → region addr.toNat = .alias_ → s.chip.passes rq u addr.toNat 4 1 = true → addr.toNat % 4 = 0 → inBlock (aliasOf addr.toNat).1 = false → ∃ c', exec (.aliasWrite rq u .word addr data) s = .next { s with chip := c' } ∧ c'.fget R.SYS_BUSFAULT F.SYS_BUSFAULT_SYNDROME = 1 ∧ c'.rd R.SYS_BUSFAULT_ADDR = addr ∧ c'.fget R.SYS_BUSFAULT F.SYS_BUSFAULT_WRITE = 1 ∧ c'.fget R.SYS_BUSFAULT F.SYS_BUSFAULT_REQUESTER = rq.code ∧ c'.rd (R.SYS_BUSFAULT_CNT) = .ofNat 32 (min 0xFFFFFFFF ((s.chip.rd (R.SYS_BUSFAULT_CNT)).toNat + 1)) ∧ c'.rd (R.EVR_CNT 3) = .ofNat 32 (min 0xFFFFFFFF ((s.chip.rd (R.EVR_CNT 3)).toNat + 1)) ∧ Only [Blk.sys, Blk.evr] s.chip c') ∧
  (∀ (rq : Req) (u : Bool) (addr : Word) (s : State), s.chip.awake = true → s.chip.stalled rq = false → region addr.toNat = .alias_ → s.chip.passes rq u addr.toNat 4 0 = true → addr.toNat % 4 = 0 → inBlock (aliasOf addr.toNat).1 = true → findReg (aliasOf addr.toNat).1 = none → ((aliasOf addr.toNat).1 < 0x40038000 ∨ 0x40039000 ≤ (aliasOf addr.toNat).1) → (dieOf (aliasOf addr.toNat).1 = 0 ∨ (s.chip.linkUp (dieOf (aliasOf addr.toNat).1) = true ∧ s.chip.inStep (dieOf (aliasOf addr.toNat).1) = true ∧ s.chip.noneWaits = true)) → ∃ c', exec (.aliasRead rq u .word addr) s = .next { s with chip := c' } ∧ c'.respOf rq = ⟨addr.toNat, 0, 0⟩ ∧ Only [Blk.sys] s.chip c') ∧
  (∀ (rq : Req) (u : Bool) (addr data : Word) (s : State), s.chip.awake = true → s.chip.stalled rq = false → region addr.toNat = .alias_ → s.chip.passes rq u addr.toNat 4 1 = true → addr.toNat % 4 = 0 → inBlock (aliasOf addr.toNat).1 = true → findReg (aliasOf addr.toNat).1 = none → ((aliasOf addr.toNat).1 < 0x40038000 ∨ 0x40039000 ≤ (aliasOf addr.toNat).1) → (dieOf (aliasOf addr.toNat).1 = 0 ∨ (rq = .sup ∧ s.chip.linkUp (dieOf (aliasOf addr.toNat).1) = true ∧ s.chip.inStep (dieOf (aliasOf addr.toNat).1) = true ∧ s.chip.outstanding rq < 8)) → ∃ c', exec (.aliasWrite rq u .word addr data) s = .next { s with chip := c' } ∧ (∀ a, a ≠ tokenAddr (dieOf (aliasOf addr.toNat).1) → (a < 0x40000000 ∨ 0x40010000 ≤ a) → c'.rd a = s.chip.rd a)) ∧
  (∀ (rq : Req) (u : Bool) (addr data : Word) (s : State), s.chip.awake = true → s.chip.stalled rq = false → region addr.toNat = .alias_ → s.chip.passes rq u addr.toNat 4 1 = true → addr.toNat % 4 = 0 → inBlock (aliasOf addr.toNat).1 = true → findReg (aliasOf addr.toNat).1 = none → ((aliasOf addr.toNat).1 < 0x40038000 ∨ 0x40039000 ≤ (aliasOf addr.toNat).1) → dieOf (aliasOf addr.toNat).1 ≠ 0 → rq ≠ .sup → (s.chip.linkUp (dieOf (aliasOf addr.toNat).1) = true ∧ s.chip.inStep (dieOf (aliasOf addr.toNat).1) = true ∧ s.chip.outstanding rq < 8) → ∃ c', exec (.aliasWrite rq u .word addr data) s = .next { s with chip := c' } ∧ (∀ a, a ≠ tokenAddr (dieOf (aliasOf addr.toNat).1) → a ≠ foreignCnt (dieOf (aliasOf addr.toNat).1) → (0x40100000 ≤ a ∧ a < 0x40800000) → c'.rd a = s.chip.rd a))

/-- A write of VG_CFG of group 0 of a power die that lands at once, sent by the supervisor, changes PAR when all four valves of the die are OFF or DISABLED; while one of them is in another state a write that would change PAR leaves it unchanged and counts in VG_PAR_REFUSED_CNT of group 0; a write with the PAR it has changes neither. In each case NR_MODE takes the written value, OVERLAP_MAX and NR_MAX take it too, but 0 is stored as 1, and nothing outside the die's registers changes. -/
def Obligations.ParChangesOnlyWithIdleValves : Prop :=
  (∀ (g : Fin 8) (data : Word) (s : State), s.chip.direct .sup (R.VG_CFG g) = true → g.toNat % 2 = 0 → F.VG_CFG_PAR.get data ≠ s.chip.fget (R.VG_CFG g) F.VG_CFG_PAR → (∀ j < 4, s.chip.vState (2 * g + j) = .off ∨ s.chip.vState (2 * g + j) = .disabled) → ∃ c', exec (.vgParWrite .sup g data) s = .next { s with chip := c' } ∧ c'.fget (R.VG_CFG g) F.VG_CFG_PAR = F.VG_CFG_PAR.get data ∧ c'.rd (R.VG_PAR_REFUSED_CNT g) = s.chip.rd (R.VG_PAR_REFUSED_CNT g) ∧ c'.fget (R.VG_CFG g) F.VG_CFG_OVERLAP_MAX = max 1 (F.VG_CFG_OVERLAP_MAX.get data) ∧ c'.fget (R.VG_CFG g) F.VG_CFG_NR_MODE = F.VG_CFG_NR_MODE.get data ∧ c'.fget (R.VG_CFG g) F.VG_CFG_NR_MAX = max 1 (F.VG_CFG_NR_MAX.get data) ∧ Only [Blk.pwr (g / 2)] s.chip c') ∧
  (∀ (g : Fin 8) (j : Fin 4) (data : Word) (s : State), s.chip.direct .sup (R.VG_CFG g) = true → g.toNat % 2 = 0 → F.VG_CFG_PAR.get data ≠ s.chip.fget (R.VG_CFG g) F.VG_CFG_PAR → s.chip.vState (2 * g + j) ≠ .off ∧ s.chip.vState (2 * g + j) ≠ .disabled → ∃ c', exec (.vgParWrite .sup g data) s = .next { s with chip := c' } ∧ c'.fget (R.VG_CFG g) F.VG_CFG_PAR = s.chip.fget (R.VG_CFG g) F.VG_CFG_PAR ∧ c'.rd (R.VG_PAR_REFUSED_CNT g) = .ofNat 32 (min 0xFFFFFFFF ((s.chip.rd (R.VG_PAR_REFUSED_CNT g)).toNat + 1)) ∧ c'.fget (R.VG_CFG g) F.VG_CFG_OVERLAP_MAX = max 1 (F.VG_CFG_OVERLAP_MAX.get data) ∧ c'.fget (R.VG_CFG g) F.VG_CFG_NR_MODE = F.VG_CFG_NR_MODE.get data ∧ c'.fget (R.VG_CFG g) F.VG_CFG_NR_MAX = max 1 (F.VG_CFG_NR_MAX.get data) ∧ Only [Blk.pwr (g / 2)] s.chip c') ∧
  (∀ (g : Fin 8) (data : Word) (s : State), s.chip.direct .sup (R.VG_CFG g) = true → g.toNat % 2 = 0 → F.VG_CFG_PAR.get data = s.chip.fget (R.VG_CFG g) F.VG_CFG_PAR → ∃ c', exec (.vgParWrite .sup g data) s = .next { s with chip := c' } ∧ c'.fget (R.VG_CFG g) F.VG_CFG_PAR = s.chip.fget (R.VG_CFG g) F.VG_CFG_PAR ∧ c'.rd (R.VG_PAR_REFUSED_CNT g) = s.chip.rd (R.VG_PAR_REFUSED_CNT g) ∧ c'.fget (R.VG_CFG g) F.VG_CFG_OVERLAP_MAX = max 1 (F.VG_CFG_OVERLAP_MAX.get data) ∧ c'.fget (R.VG_CFG g) F.VG_CFG_NR_MODE = F.VG_CFG_NR_MODE.get data ∧ c'.fget (R.VG_CFG g) F.VG_CFG_NR_MAX = max 1 (F.VG_CFG_NR_MAX.get data) ∧ Only [Blk.pwr (g / 2)] s.chip c')

/-- Whatever command runs in whatever state, it answers a next state: none ends in a fault or a refusal. -/
def Obligations.NoCommandStops : Prop :=
  (∀ (i : Instr) (s : State), ∃ t, exec i s = .next t)
end

