-- ==== Sys2Proof/Laws/Fields.lean ====
section
/-! SUPPORT. The laws of a field of a word: what a field holds after a write to it, and that other fields keep theirs. -/

namespace Sys2Proof

theorem Fld.get_lt (f : Fld) (x : Word) : f.get x < 2 ^ f.w := Nat.mod_lt _ (by positivity)

/-- The parts of a number above, in and below a field. -/
theorem Fld.put_toNat (f : Fld) (x : Word) (v : Nat) :
    (f.put x v).toNat = (x.toNat / 2 ^ (f.lo + f.w) * 2 ^ (f.lo + f.w) + v % 2 ^ f.w * 2 ^ f.lo + x.toNat % 2 ^ f.lo) % 2 ^ 32 := by
  simp [Fld.put]

/-- Bit i of a word after a write to a field. -/
theorem Fld.testBit_put (f : Fld) (x : Word) (v i : Nat) :
    (f.put x v).toNat.testBit i =
      (decide (i < 32) && if i < f.lo then x.toNat.testBit i else if i < f.lo + f.w then v.testBit (i - f.lo) else x.toNat.testBit i) := by
  rw [Fld.put_toNat, Nat.testBit_mod_two_pow]
  congr 1
  have h1 : v % 2 ^ f.w * 2 ^ f.lo + x.toNat % 2 ^ f.lo < 2 ^ (f.lo + f.w) := by
    have a := Nat.mod_lt v (Nat.two_pow_pos f.w)
    have b := Nat.mod_lt x.toNat (Nat.two_pow_pos f.lo)
    have : (v % 2 ^ f.w + 1) * 2 ^ f.lo ≤ 2 ^ f.w * 2 ^ f.lo := Nat.mul_le_mul_right _ a
    rw [Nat.pow_add, Nat.mul_comm (2 ^ f.lo)]
    rw [Nat.add_mul] at this
    omega
  rw [Nat.add_assoc, Nat.mul_comm _ (2 ^ (f.lo + f.w)), Nat.testBit_two_pow_mul_add _ h1]
  have h2 := Nat.mod_lt x.toNat (Nat.two_pow_pos f.lo)
  rw [Nat.mul_comm _ (2 ^ f.lo), Nat.testBit_two_pow_mul_add _ h2]
  split
  · next h =>
    split
    · simp_all [Nat.testBit_mod_two_pow]
    · rw [Nat.testBit_mod_two_pow]
      have : i - f.lo < f.w := by omega
      simp [this]
  · next h =>
    rw [Nat.testBit_div_two_pow]
    have : ¬ i < f.lo := by omega
    simp only [this, if_false]
    congr 1; omega

/-- Bit i of a field's value. -/
theorem Fld.testBit_get (f : Fld) (x : Word) (i : Nat) : (f.get x).testBit i = (decide (i < f.w) && x.toNat.testBit (f.lo + i)) := by
  simp [Fld.get, Nat.testBit_mod_two_pow, Nat.testBit_div_two_pow, Nat.add_comm]

/-- A field of the word holds what was put into it. -/
theorem Fld.get_put (f : Fld) (x : Word) (v : Nat) (hf : f.lo + f.w ≤ 32) : f.get (f.put x v) = v % 2 ^ f.w := by
  apply Nat.eq_of_testBit_eq
  intro i
  rw [Fld.testBit_get, Fld.testBit_put, Nat.testBit_mod_two_pow]
  by_cases h : i < f.w
  · have h1 : f.lo + i < 32 := by omega
    have h2 : f.lo + i < f.lo + f.w := by omega
    simp [h, h1]
  · simp [h]

/-- Another field keeps what it held. -/
theorem Fld.get_put_ne (f g : Fld) (x : Word) (v : Nat) (h : g.lo + g.w ≤ f.lo ∨ f.lo + f.w ≤ g.lo) (hg : g.lo + g.w ≤ 32) :
    g.get (f.put x v) = g.get x := by
  apply Nat.eq_of_testBit_eq
  intro i
  rw [Fld.testBit_get, Fld.testBit_get, Fld.testBit_put]
  by_cases hi : i < g.w
  · have h1 : g.lo + i < 32 := by omega
    rcases h with h | h
    · have : g.lo + i < f.lo := by omega
      simp [hi, h1, this]
    · have a : ¬ g.lo + i < f.lo := by omega
      have b : ¬ g.lo + i < f.lo + f.w := by omega
      simp [hi, h1, a, b]
  · simp [hi]

/-- Putting what a field holds changes nothing. -/
theorem Fld.put_get (f : Fld) (x : Word) : f.put x (f.get x) = x := by
  apply BitVec.eq_of_toNat_eq
  apply Nat.eq_of_testBit_eq
  intro i
  rw [Fld.testBit_put]
  by_cases h32 : i < 32
  · simp only [h32, decide_true, Bool.true_and]
    split
    · rfl
    · split
      · rw [Fld.testBit_get]
        have a : i - f.lo < f.w := by omega
        have b : f.lo + (i - f.lo) = i := by omega
        simp [a, b]
      · rfl
  · have := Nat.testBit_lt_two_pow (x := x.toNat) (i := i) (Nat.lt_of_lt_of_le x.isLt (Nat.pow_le_pow_right (by omega) (by omega)))
    simp [h32, this]

end Sys2Proof
end

