-- ==== Sys2Proof/Laws/State.lean ====
section
/-! SUPPORT. What each plain update of the module leaves as it is: one lemma per field per update, so that no later proof unfolds
a record update. -/

namespace Sys2Proof.Machine
open Sys2Proof

/-! ### Chip.wr -/

section
variable (c : Chip) (a : Nat) (x : Word)
@[simp] theorem Chip.wr_wo1 : (c.wr a x).wo1 = c.wo1 := rfl
@[simp] theorem Chip.wr_ctr : (c.wr a x).ctr = c.ctr := rfl
@[simp] theorem Chip.wr_latch : (c.wr a x).latch = c.latch := rfl
@[simp] theorem Chip.wr_stage : (c.wr a x).stage = c.stage := rfl
@[simp] theorem Chip.wr_fresh : (c.wr a x).fresh = c.fresh := rfl
@[simp] theorem Chip.wr_rtcAcc : (c.wr a x).rtcAcc = c.rtcAcc := rfl
@[simp] theorem Chip.wr_links : (c.wr a x).links = c.links := rfl
@[simp] theorem Chip.wr_bus : (c.wr a x).bus = c.bus := rfl
@[simp] theorem Chip.wr_resp : (c.wr a x).resp = c.resp := rfl
@[simp] theorem Chip.wr_evPend : (c.wr a x).evPend = c.evPend := rfl
@[simp] theorem Chip.wr_queues : (c.wr a x).queues = c.queues := rfl
@[simp] theorem Chip.wr_cores : (c.wr a x).cores = c.cores := rfl
@[simp] theorem Chip.wr_chans : (c.wr a x).chans = c.chans := rfl
@[simp] theorem Chip.wr_dies : (c.wr a x).dies = c.dies := rfl
@[simp] theorem Chip.wr_cants : (c.wr a x).cants = c.cants := rfl
@[simp] theorem Chip.wr_cmds : (c.wr a x).cmds = c.cmds := rfl
@[simp] theorem Chip.wr_heldComps : (c.wr a x).heldComps = c.heldComps := rfl
@[simp] theorem Chip.wr_sinks : (c.wr a x).sinks = c.sinks := rfl
@[simp] theorem Chip.wr_subp : (c.wr a x).subp = c.subp := rfl
@[simp] theorem Chip.wr_ledFrame : (c.wr a x).ledFrame = c.ledFrame := rfl
@[simp] theorem Chip.wr_engines : (c.wr a x).engines = c.engines := rfl
@[simp] theorem Chip.wr_flashMark : (c.wr a x).flashMark = c.flashMark := rfl
@[simp] theorem Chip.wr_flashOut : (c.wr a x).flashOut = c.flashOut := rfl
@[simp] theorem Chip.wr_flashLen : (c.wr a x).flashLen = c.flashLen := rfl
@[simp] theorem Chip.wr_hrStops : (c.wr a x).hrStops = c.hrStops := rfl
@[simp] theorem Chip.wr_ntcHist : (c.wr a x).ntcHist = c.ntcHist := rfl
@[simp] theorem Chip.wr_valves : (c.wr a x).valves = c.valves := rfl
@[simp] theorem Chip.wr_valveWait : (c.wr a x).valveWait = c.valveWait := rfl
@[simp] theorem Chip.wr_vboost : (c.wr a x).vboost = c.vboost := rfl
@[simp] theorem Chip.wr_hsInput : (c.wr a x).hsInput = c.hsInput := rfl
@[simp] theorem Chip.wr_vbRail : (c.wr a x).vbRail = c.vbRail := rfl
@[simp] theorem Chip.wr_sis : (c.wr a x).sis = c.sis := rfl
@[simp] theorem Chip.wr_siTick : (c.wr a x).siTick = c.siTick := rfl
@[simp] theorem Chip.wr_siNext : (c.wr a x).siNext = c.siNext := rfl
@[simp] theorem Chip.wr_siSince : (c.wr a x).siSince = c.siSince := rfl
@[simp] theorem Chip.wr_fps : (c.wr a x).fps = c.fps := rfl
@[simp] theorem Chip.wr_mbs : (c.wr a x).mbs = c.mbs := rfl
@[simp] theorem Chip.wr_mbx : (c.wr a x).mbx = c.mbx := rfl
@[simp] theorem Chip.wr_mbSel : (c.wr a x).mbSel = c.mbSel := rfl
@[simp] theorem Chip.wr_cans : (c.wr a x).cans = c.cans := rfl
@[simp] theorem Chip.wr_lins : (c.wr a x).lins = c.lins := rfl
@[simp] theorem Chip.wr_nm : (c.wr a x).nm = c.nm := rfl
@[simp] theorem Chip.wr_bypass : (c.wr a x).bypass = c.bypass := rfl
@[simp] theorem Chip.wr_x32 : (c.wr a x).x32 = c.x32 := rfl
@[simp] theorem Chip.wr_radio : (c.wr a x).radio = c.radio := rfl
@[simp] theorem Chip.wr_acc : (c.wr a x).acc = c.acc := rfl
@[simp] theorem Chip.wr_records : (c.wr a x).records = c.records := rfl
@[simp] theorem Chip.wr_stored : (c.wr a x).stored = c.stored := rfl
@[simp] theorem Chip.wr_cfg : (c.wr a x).cfg = c.cfg := rfl
@[simp] theorem Chip.wr_modex : (c.wr a x).modex = c.modex := rfl
@[simp] theorem Chip.wr_upd : (c.wr a x).upd = c.upd := rfl
@[simp] theorem Chip.wr_quotas : (c.wr a x).quotas = c.quotas := rfl
@[simp] theorem Chip.wr_hsp : (c.wr a x).hsp = c.hsp := rfl
@[simp] theorem Chip.wr_loads : (c.wr a x).loads = c.loads := rfl
@[simp] theorem Chip.wr_grain : (c.wr a x).grain = c.grain := rfl
@[simp] theorem Chip.wr_sealx : (c.wr a x).sealx = c.sealx := rfl
@[simp] theorem Chip.wr_entBegun : (c.wr a x).entBegun = c.entBegun := rfl
@[simp] theorem Chip.wr_entDone : (c.wr a x).entDone = c.entDone := rfl
@[simp] theorem Chip.wr_entEnd : (c.wr a x).entEnd = c.entEnd := rfl
@[simp] theorem Chip.wr_policy : (c.wr a x).policy = c.policy := rfl
@[simp] theorem Chip.wr_authKeys : (c.wr a x).authKeys = c.authKeys := rfl
end

/-! ### Chip.setCtr64 -/

section
variable (c : Chip) (a : Nat) (x : Word64)
@[simp] theorem Chip.setCtr64_regs : (c.setCtr64 a x).regs = c.regs := rfl
@[simp] theorem Chip.setCtr64_wo1 : (c.setCtr64 a x).wo1 = c.wo1 := rfl
@[simp] theorem Chip.setCtr64_latch : (c.setCtr64 a x).latch = c.latch := rfl
@[simp] theorem Chip.setCtr64_stage : (c.setCtr64 a x).stage = c.stage := rfl
@[simp] theorem Chip.setCtr64_fresh : (c.setCtr64 a x).fresh = c.fresh := rfl
@[simp] theorem Chip.setCtr64_rtcAcc : (c.setCtr64 a x).rtcAcc = c.rtcAcc := rfl
@[simp] theorem Chip.setCtr64_links : (c.setCtr64 a x).links = c.links := rfl
@[simp] theorem Chip.setCtr64_bus : (c.setCtr64 a x).bus = c.bus := rfl
@[simp] theorem Chip.setCtr64_resp : (c.setCtr64 a x).resp = c.resp := rfl
@[simp] theorem Chip.setCtr64_evPend : (c.setCtr64 a x).evPend = c.evPend := rfl
@[simp] theorem Chip.setCtr64_queues : (c.setCtr64 a x).queues = c.queues := rfl
@[simp] theorem Chip.setCtr64_cores : (c.setCtr64 a x).cores = c.cores := rfl
@[simp] theorem Chip.setCtr64_chans : (c.setCtr64 a x).chans = c.chans := rfl
@[simp] theorem Chip.setCtr64_dies : (c.setCtr64 a x).dies = c.dies := rfl
@[simp] theorem Chip.setCtr64_cants : (c.setCtr64 a x).cants = c.cants := rfl
@[simp] theorem Chip.setCtr64_cmds : (c.setCtr64 a x).cmds = c.cmds := rfl
@[simp] theorem Chip.setCtr64_heldComps : (c.setCtr64 a x).heldComps = c.heldComps := rfl
@[simp] theorem Chip.setCtr64_sinks : (c.setCtr64 a x).sinks = c.sinks := rfl
@[simp] theorem Chip.setCtr64_subp : (c.setCtr64 a x).subp = c.subp := rfl
@[simp] theorem Chip.setCtr64_ledFrame : (c.setCtr64 a x).ledFrame = c.ledFrame := rfl
@[simp] theorem Chip.setCtr64_engines : (c.setCtr64 a x).engines = c.engines := rfl
@[simp] theorem Chip.setCtr64_flashMark : (c.setCtr64 a x).flashMark = c.flashMark := rfl
@[simp] theorem Chip.setCtr64_flashOut : (c.setCtr64 a x).flashOut = c.flashOut := rfl
@[simp] theorem Chip.setCtr64_flashLen : (c.setCtr64 a x).flashLen = c.flashLen := rfl
@[simp] theorem Chip.setCtr64_hrStops : (c.setCtr64 a x).hrStops = c.hrStops := rfl
@[simp] theorem Chip.setCtr64_ntcHist : (c.setCtr64 a x).ntcHist = c.ntcHist := rfl
@[simp] theorem Chip.setCtr64_valves : (c.setCtr64 a x).valves = c.valves := rfl
@[simp] theorem Chip.setCtr64_valveWait : (c.setCtr64 a x).valveWait = c.valveWait := rfl
@[simp] theorem Chip.setCtr64_vboost : (c.setCtr64 a x).vboost = c.vboost := rfl
@[simp] theorem Chip.setCtr64_hsInput : (c.setCtr64 a x).hsInput = c.hsInput := rfl
@[simp] theorem Chip.setCtr64_vbRail : (c.setCtr64 a x).vbRail = c.vbRail := rfl
@[simp] theorem Chip.setCtr64_sis : (c.setCtr64 a x).sis = c.sis := rfl
@[simp] theorem Chip.setCtr64_siTick : (c.setCtr64 a x).siTick = c.siTick := rfl
@[simp] theorem Chip.setCtr64_siNext : (c.setCtr64 a x).siNext = c.siNext := rfl
@[simp] theorem Chip.setCtr64_siSince : (c.setCtr64 a x).siSince = c.siSince := rfl
@[simp] theorem Chip.setCtr64_fps : (c.setCtr64 a x).fps = c.fps := rfl
@[simp] theorem Chip.setCtr64_mbs : (c.setCtr64 a x).mbs = c.mbs := rfl
@[simp] theorem Chip.setCtr64_mbx : (c.setCtr64 a x).mbx = c.mbx := rfl
@[simp] theorem Chip.setCtr64_mbSel : (c.setCtr64 a x).mbSel = c.mbSel := rfl
@[simp] theorem Chip.setCtr64_cans : (c.setCtr64 a x).cans = c.cans := rfl
@[simp] theorem Chip.setCtr64_lins : (c.setCtr64 a x).lins = c.lins := rfl
@[simp] theorem Chip.setCtr64_nm : (c.setCtr64 a x).nm = c.nm := rfl
@[simp] theorem Chip.setCtr64_bypass : (c.setCtr64 a x).bypass = c.bypass := rfl
@[simp] theorem Chip.setCtr64_x32 : (c.setCtr64 a x).x32 = c.x32 := rfl
@[simp] theorem Chip.setCtr64_radio : (c.setCtr64 a x).radio = c.radio := rfl
@[simp] theorem Chip.setCtr64_acc : (c.setCtr64 a x).acc = c.acc := rfl
@[simp] theorem Chip.setCtr64_records : (c.setCtr64 a x).records = c.records := rfl
@[simp] theorem Chip.setCtr64_stored : (c.setCtr64 a x).stored = c.stored := rfl
@[simp] theorem Chip.setCtr64_cfg : (c.setCtr64 a x).cfg = c.cfg := rfl
@[simp] theorem Chip.setCtr64_modex : (c.setCtr64 a x).modex = c.modex := rfl
@[simp] theorem Chip.setCtr64_upd : (c.setCtr64 a x).upd = c.upd := rfl
@[simp] theorem Chip.setCtr64_quotas : (c.setCtr64 a x).quotas = c.quotas := rfl
@[simp] theorem Chip.setCtr64_hsp : (c.setCtr64 a x).hsp = c.hsp := rfl
@[simp] theorem Chip.setCtr64_loads : (c.setCtr64 a x).loads = c.loads := rfl
@[simp] theorem Chip.setCtr64_grain : (c.setCtr64 a x).grain = c.grain := rfl
@[simp] theorem Chip.setCtr64_sealx : (c.setCtr64 a x).sealx = c.sealx := rfl
@[simp] theorem Chip.setCtr64_entBegun : (c.setCtr64 a x).entBegun = c.entBegun := rfl
@[simp] theorem Chip.setCtr64_entDone : (c.setCtr64 a x).entDone = c.entDone := rfl
@[simp] theorem Chip.setCtr64_entEnd : (c.setCtr64 a x).entEnd = c.entEnd := rfl
@[simp] theorem Chip.setCtr64_policy : (c.setCtr64 a x).policy = c.policy := rfl
@[simp] theorem Chip.setCtr64_authKeys : (c.setCtr64 a x).authKeys = c.authKeys := rfl
@[simp] theorem Chip.setCtr64_rd (p : Nat) : (c.setCtr64 a x).rd p = c.rd p := rfl
@[simp] theorem Chip.setCtr64_fget (p : Nat) (f : Fld) : (c.setCtr64 a x).fget p f = c.fget p f := rfl
@[simp] theorem Chip.setCtr64_flag (p : Nat) (f : Fld) : (c.setCtr64 a x).flag p f = c.flag p f := rfl
end

/-! ### Chip.setLatch -/

section
variable (c : Chip) (a : Nat) (rq : Req) (x : Word)
@[simp] theorem Chip.setLatch_regs : (c.setLatch a rq x).regs = c.regs := rfl
@[simp] theorem Chip.setLatch_wo1 : (c.setLatch a rq x).wo1 = c.wo1 := rfl
@[simp] theorem Chip.setLatch_ctr : (c.setLatch a rq x).ctr = c.ctr := rfl
@[simp] theorem Chip.setLatch_stage : (c.setLatch a rq x).stage = c.stage := rfl
@[simp] theorem Chip.setLatch_fresh : (c.setLatch a rq x).fresh = c.fresh := rfl
@[simp] theorem Chip.setLatch_rtcAcc : (c.setLatch a rq x).rtcAcc = c.rtcAcc := rfl
@[simp] theorem Chip.setLatch_links : (c.setLatch a rq x).links = c.links := rfl
@[simp] theorem Chip.setLatch_bus : (c.setLatch a rq x).bus = c.bus := rfl
@[simp] theorem Chip.setLatch_resp : (c.setLatch a rq x).resp = c.resp := rfl
@[simp] theorem Chip.setLatch_evPend : (c.setLatch a rq x).evPend = c.evPend := rfl
@[simp] theorem Chip.setLatch_queues : (c.setLatch a rq x).queues = c.queues := rfl
@[simp] theorem Chip.setLatch_cores : (c.setLatch a rq x).cores = c.cores := rfl
@[simp] theorem Chip.setLatch_chans : (c.setLatch a rq x).chans = c.chans := rfl
@[simp] theorem Chip.setLatch_dies : (c.setLatch a rq x).dies = c.dies := rfl
@[simp] theorem Chip.setLatch_cants : (c.setLatch a rq x).cants = c.cants := rfl
@[simp] theorem Chip.setLatch_cmds : (c.setLatch a rq x).cmds = c.cmds := rfl
@[simp] theorem Chip.setLatch_heldComps : (c.setLatch a rq x).heldComps = c.heldComps := rfl
@[simp] theorem Chip.setLatch_sinks : (c.setLatch a rq x).sinks = c.sinks := rfl
@[simp] theorem Chip.setLatch_subp : (c.setLatch a rq x).subp = c.subp := rfl
@[simp] theorem Chip.setLatch_ledFrame : (c.setLatch a rq x).ledFrame = c.ledFrame := rfl
@[simp] theorem Chip.setLatch_engines : (c.setLatch a rq x).engines = c.engines := rfl
@[simp] theorem Chip.setLatch_flashMark : (c.setLatch a rq x).flashMark = c.flashMark := rfl
@[simp] theorem Chip.setLatch_flashOut : (c.setLatch a rq x).flashOut = c.flashOut := rfl
@[simp] theorem Chip.setLatch_flashLen : (c.setLatch a rq x).flashLen = c.flashLen := rfl
@[simp] theorem Chip.setLatch_hrStops : (c.setLatch a rq x).hrStops = c.hrStops := rfl
@[simp] theorem Chip.setLatch_ntcHist : (c.setLatch a rq x).ntcHist = c.ntcHist := rfl
@[simp] theorem Chip.setLatch_valves : (c.setLatch a rq x).valves = c.valves := rfl
@[simp] theorem Chip.setLatch_valveWait : (c.setLatch a rq x).valveWait = c.valveWait := rfl
@[simp] theorem Chip.setLatch_vboost : (c.setLatch a rq x).vboost = c.vboost := rfl
@[simp] theorem Chip.setLatch_hsInput : (c.setLatch a rq x).hsInput = c.hsInput := rfl
@[simp] theorem Chip.setLatch_vbRail : (c.setLatch a rq x).vbRail = c.vbRail := rfl
@[simp] theorem Chip.setLatch_sis : (c.setLatch a rq x).sis = c.sis := rfl
@[simp] theorem Chip.setLatch_siTick : (c.setLatch a rq x).siTick = c.siTick := rfl
@[simp] theorem Chip.setLatch_siNext : (c.setLatch a rq x).siNext = c.siNext := rfl
@[simp] theorem Chip.setLatch_siSince : (c.setLatch a rq x).siSince = c.siSince := rfl
@[simp] theorem Chip.setLatch_fps : (c.setLatch a rq x).fps = c.fps := rfl
@[simp] theorem Chip.setLatch_mbs : (c.setLatch a rq x).mbs = c.mbs := rfl
@[simp] theorem Chip.setLatch_mbx : (c.setLatch a rq x).mbx = c.mbx := rfl
@[simp] theorem Chip.setLatch_mbSel : (c.setLatch a rq x).mbSel = c.mbSel := rfl
@[simp] theorem Chip.setLatch_cans : (c.setLatch a rq x).cans = c.cans := rfl
@[simp] theorem Chip.setLatch_lins : (c.setLatch a rq x).lins = c.lins := rfl
@[simp] theorem Chip.setLatch_nm : (c.setLatch a rq x).nm = c.nm := rfl
@[simp] theorem Chip.setLatch_bypass : (c.setLatch a rq x).bypass = c.bypass := rfl
@[simp] theorem Chip.setLatch_x32 : (c.setLatch a rq x).x32 = c.x32 := rfl
@[simp] theorem Chip.setLatch_radio : (c.setLatch a rq x).radio = c.radio := rfl
@[simp] theorem Chip.setLatch_acc : (c.setLatch a rq x).acc = c.acc := rfl
@[simp] theorem Chip.setLatch_records : (c.setLatch a rq x).records = c.records := rfl
@[simp] theorem Chip.setLatch_stored : (c.setLatch a rq x).stored = c.stored := rfl
@[simp] theorem Chip.setLatch_cfg : (c.setLatch a rq x).cfg = c.cfg := rfl
@[simp] theorem Chip.setLatch_modex : (c.setLatch a rq x).modex = c.modex := rfl
@[simp] theorem Chip.setLatch_upd : (c.setLatch a rq x).upd = c.upd := rfl
@[simp] theorem Chip.setLatch_quotas : (c.setLatch a rq x).quotas = c.quotas := rfl
@[simp] theorem Chip.setLatch_hsp : (c.setLatch a rq x).hsp = c.hsp := rfl
@[simp] theorem Chip.setLatch_loads : (c.setLatch a rq x).loads = c.loads := rfl
@[simp] theorem Chip.setLatch_grain : (c.setLatch a rq x).grain = c.grain := rfl
@[simp] theorem Chip.setLatch_sealx : (c.setLatch a rq x).sealx = c.sealx := rfl
@[simp] theorem Chip.setLatch_entBegun : (c.setLatch a rq x).entBegun = c.entBegun := rfl
@[simp] theorem Chip.setLatch_entDone : (c.setLatch a rq x).entDone = c.entDone := rfl
@[simp] theorem Chip.setLatch_entEnd : (c.setLatch a rq x).entEnd = c.entEnd := rfl
@[simp] theorem Chip.setLatch_policy : (c.setLatch a rq x).policy = c.policy := rfl
@[simp] theorem Chip.setLatch_authKeys : (c.setLatch a rq x).authKeys = c.authKeys := rfl
@[simp] theorem Chip.setLatch_rd (p : Nat) : (c.setLatch a rq x).rd p = c.rd p := rfl
@[simp] theorem Chip.setLatch_fget (p : Nat) (f : Fld) : (c.setLatch a rq x).fget p f = c.fget p f := rfl
@[simp] theorem Chip.setLatch_flag (p : Nat) (f : Fld) : (c.setLatch a rq x).flag p f = c.flag p f := rfl
end

/-! ### Chip.setStaged -/

section
variable (c : Chip) (a : Nat) (x : Word)
@[simp] theorem Chip.setStaged_regs : (c.setStaged a x).regs = c.regs := rfl
@[simp] theorem Chip.setStaged_wo1 : (c.setStaged a x).wo1 = c.wo1 := rfl
@[simp] theorem Chip.setStaged_ctr : (c.setStaged a x).ctr = c.ctr := rfl
@[simp] theorem Chip.setStaged_latch : (c.setStaged a x).latch = c.latch := rfl
@[simp] theorem Chip.setStaged_fresh : (c.setStaged a x).fresh = c.fresh := rfl
@[simp] theorem Chip.setStaged_rtcAcc : (c.setStaged a x).rtcAcc = c.rtcAcc := rfl
@[simp] theorem Chip.setStaged_links : (c.setStaged a x).links = c.links := rfl
@[simp] theorem Chip.setStaged_bus : (c.setStaged a x).bus = c.bus := rfl
@[simp] theorem Chip.setStaged_resp : (c.setStaged a x).resp = c.resp := rfl
@[simp] theorem Chip.setStaged_evPend : (c.setStaged a x).evPend = c.evPend := rfl
@[simp] theorem Chip.setStaged_queues : (c.setStaged a x).queues = c.queues := rfl
@[simp] theorem Chip.setStaged_cores : (c.setStaged a x).cores = c.cores := rfl
@[simp] theorem Chip.setStaged_chans : (c.setStaged a x).chans = c.chans := rfl
@[simp] theorem Chip.setStaged_dies : (c.setStaged a x).dies = c.dies := rfl
@[simp] theorem Chip.setStaged_cants : (c.setStaged a x).cants = c.cants := rfl
@[simp] theorem Chip.setStaged_cmds : (c.setStaged a x).cmds = c.cmds := rfl
@[simp] theorem Chip.setStaged_heldComps : (c.setStaged a x).heldComps = c.heldComps := rfl
@[simp] theorem Chip.setStaged_sinks : (c.setStaged a x).sinks = c.sinks := rfl
@[simp] theorem Chip.setStaged_subp : (c.setStaged a x).subp = c.subp := rfl
@[simp] theorem Chip.setStaged_ledFrame : (c.setStaged a x).ledFrame = c.ledFrame := rfl
@[simp] theorem Chip.setStaged_engines : (c.setStaged a x).engines = c.engines := rfl
@[simp] theorem Chip.setStaged_flashMark : (c.setStaged a x).flashMark = c.flashMark := rfl
@[simp] theorem Chip.setStaged_flashOut : (c.setStaged a x).flashOut = c.flashOut := rfl
@[simp] theorem Chip.setStaged_flashLen : (c.setStaged a x).flashLen = c.flashLen := rfl
@[simp] theorem Chip.setStaged_hrStops : (c.setStaged a x).hrStops = c.hrStops := rfl
@[simp] theorem Chip.setStaged_ntcHist : (c.setStaged a x).ntcHist = c.ntcHist := rfl
@[simp] theorem Chip.setStaged_valves : (c.setStaged a x).valves = c.valves := rfl
@[simp] theorem Chip.setStaged_valveWait : (c.setStaged a x).valveWait = c.valveWait := rfl
@[simp] theorem Chip.setStaged_vboost : (c.setStaged a x).vboost = c.vboost := rfl
@[simp] theorem Chip.setStaged_hsInput : (c.setStaged a x).hsInput = c.hsInput := rfl
@[simp] theorem Chip.setStaged_vbRail : (c.setStaged a x).vbRail = c.vbRail := rfl
@[simp] theorem Chip.setStaged_sis : (c.setStaged a x).sis = c.sis := rfl
@[simp] theorem Chip.setStaged_siTick : (c.setStaged a x).siTick = c.siTick := rfl
@[simp] theorem Chip.setStaged_siNext : (c.setStaged a x).siNext = c.siNext := rfl
@[simp] theorem Chip.setStaged_siSince : (c.setStaged a x).siSince = c.siSince := rfl
@[simp] theorem Chip.setStaged_fps : (c.setStaged a x).fps = c.fps := rfl
@[simp] theorem Chip.setStaged_mbs : (c.setStaged a x).mbs = c.mbs := rfl
@[simp] theorem Chip.setStaged_mbx : (c.setStaged a x).mbx = c.mbx := rfl
@[simp] theorem Chip.setStaged_mbSel : (c.setStaged a x).mbSel = c.mbSel := rfl
@[simp] theorem Chip.setStaged_cans : (c.setStaged a x).cans = c.cans := rfl
@[simp] theorem Chip.setStaged_lins : (c.setStaged a x).lins = c.lins := rfl
@[simp] theorem Chip.setStaged_nm : (c.setStaged a x).nm = c.nm := rfl
@[simp] theorem Chip.setStaged_bypass : (c.setStaged a x).bypass = c.bypass := rfl
@[simp] theorem Chip.setStaged_x32 : (c.setStaged a x).x32 = c.x32 := rfl
@[simp] theorem Chip.setStaged_radio : (c.setStaged a x).radio = c.radio := rfl
@[simp] theorem Chip.setStaged_acc : (c.setStaged a x).acc = c.acc := rfl
@[simp] theorem Chip.setStaged_records : (c.setStaged a x).records = c.records := rfl
@[simp] theorem Chip.setStaged_stored : (c.setStaged a x).stored = c.stored := rfl
@[simp] theorem Chip.setStaged_cfg : (c.setStaged a x).cfg = c.cfg := rfl
@[simp] theorem Chip.setStaged_modex : (c.setStaged a x).modex = c.modex := rfl
@[simp] theorem Chip.setStaged_upd : (c.setStaged a x).upd = c.upd := rfl
@[simp] theorem Chip.setStaged_quotas : (c.setStaged a x).quotas = c.quotas := rfl
@[simp] theorem Chip.setStaged_hsp : (c.setStaged a x).hsp = c.hsp := rfl
@[simp] theorem Chip.setStaged_loads : (c.setStaged a x).loads = c.loads := rfl
@[simp] theorem Chip.setStaged_grain : (c.setStaged a x).grain = c.grain := rfl
@[simp] theorem Chip.setStaged_sealx : (c.setStaged a x).sealx = c.sealx := rfl
@[simp] theorem Chip.setStaged_entBegun : (c.setStaged a x).entBegun = c.entBegun := rfl
@[simp] theorem Chip.setStaged_entDone : (c.setStaged a x).entDone = c.entDone := rfl
@[simp] theorem Chip.setStaged_entEnd : (c.setStaged a x).entEnd = c.entEnd := rfl
@[simp] theorem Chip.setStaged_policy : (c.setStaged a x).policy = c.policy := rfl
@[simp] theorem Chip.setStaged_authKeys : (c.setStaged a x).authKeys = c.authKeys := rfl
@[simp] theorem Chip.setStaged_rd (p : Nat) : (c.setStaged a x).rd p = c.rd p := rfl
@[simp] theorem Chip.setStaged_fget (p : Nat) (f : Fld) : (c.setStaged a x).fget p f = c.fget p f := rfl
@[simp] theorem Chip.setStaged_flag (p : Nat) (f : Fld) : (c.setStaged a x).flag p f = c.flag p f := rfl
end

/-! ### Chip.setLink -/

section
variable (c : Chip) (d : Nat) (x : Link)
@[simp] theorem Chip.setLink_regs : (c.setLink d x).regs = c.regs := rfl
@[simp] theorem Chip.setLink_wo1 : (c.setLink d x).wo1 = c.wo1 := rfl
@[simp] theorem Chip.setLink_ctr : (c.setLink d x).ctr = c.ctr := rfl
@[simp] theorem Chip.setLink_latch : (c.setLink d x).latch = c.latch := rfl
@[simp] theorem Chip.setLink_stage : (c.setLink d x).stage = c.stage := rfl
@[simp] theorem Chip.setLink_fresh : (c.setLink d x).fresh = c.fresh := rfl
@[simp] theorem Chip.setLink_rtcAcc : (c.setLink d x).rtcAcc = c.rtcAcc := rfl
@[simp] theorem Chip.setLink_bus : (c.setLink d x).bus = c.bus := rfl
@[simp] theorem Chip.setLink_resp : (c.setLink d x).resp = c.resp := rfl
@[simp] theorem Chip.setLink_evPend : (c.setLink d x).evPend = c.evPend := rfl
@[simp] theorem Chip.setLink_queues : (c.setLink d x).queues = c.queues := rfl
@[simp] theorem Chip.setLink_cores : (c.setLink d x).cores = c.cores := rfl
@[simp] theorem Chip.setLink_chans : (c.setLink d x).chans = c.chans := rfl
@[simp] theorem Chip.setLink_dies : (c.setLink d x).dies = c.dies := rfl
@[simp] theorem Chip.setLink_cants : (c.setLink d x).cants = c.cants := rfl
@[simp] theorem Chip.setLink_cmds : (c.setLink d x).cmds = c.cmds := rfl
@[simp] theorem Chip.setLink_heldComps : (c.setLink d x).heldComps = c.heldComps := rfl
@[simp] theorem Chip.setLink_sinks : (c.setLink d x).sinks = c.sinks := rfl
@[simp] theorem Chip.setLink_subp : (c.setLink d x).subp = c.subp := rfl
@[simp] theorem Chip.setLink_ledFrame : (c.setLink d x).ledFrame = c.ledFrame := rfl
@[simp] theorem Chip.setLink_engines : (c.setLink d x).engines = c.engines := rfl
@[simp] theorem Chip.setLink_flashMark : (c.setLink d x).flashMark = c.flashMark := rfl
@[simp] theorem Chip.setLink_flashOut : (c.setLink d x).flashOut = c.flashOut := rfl
@[simp] theorem Chip.setLink_flashLen : (c.setLink d x).flashLen = c.flashLen := rfl
@[simp] theorem Chip.setLink_hrStops : (c.setLink d x).hrStops = c.hrStops := rfl
@[simp] theorem Chip.setLink_ntcHist : (c.setLink d x).ntcHist = c.ntcHist := rfl
@[simp] theorem Chip.setLink_valves : (c.setLink d x).valves = c.valves := rfl
@[simp] theorem Chip.setLink_valveWait : (c.setLink d x).valveWait = c.valveWait := rfl
@[simp] theorem Chip.setLink_vboost : (c.setLink d x).vboost = c.vboost := rfl
@[simp] theorem Chip.setLink_hsInput : (c.setLink d x).hsInput = c.hsInput := rfl
@[simp] theorem Chip.setLink_vbRail : (c.setLink d x).vbRail = c.vbRail := rfl
@[simp] theorem Chip.setLink_sis : (c.setLink d x).sis = c.sis := rfl
@[simp] theorem Chip.setLink_siTick : (c.setLink d x).siTick = c.siTick := rfl
@[simp] theorem Chip.setLink_siNext : (c.setLink d x).siNext = c.siNext := rfl
@[simp] theorem Chip.setLink_siSince : (c.setLink d x).siSince = c.siSince := rfl
@[simp] theorem Chip.setLink_fps : (c.setLink d x).fps = c.fps := rfl
@[simp] theorem Chip.setLink_mbs : (c.setLink d x).mbs = c.mbs := rfl
@[simp] theorem Chip.setLink_mbx : (c.setLink d x).mbx = c.mbx := rfl
@[simp] theorem Chip.setLink_mbSel : (c.setLink d x).mbSel = c.mbSel := rfl
@[simp] theorem Chip.setLink_cans : (c.setLink d x).cans = c.cans := rfl
@[simp] theorem Chip.setLink_lins : (c.setLink d x).lins = c.lins := rfl
@[simp] theorem Chip.setLink_nm : (c.setLink d x).nm = c.nm := rfl
@[simp] theorem Chip.setLink_bypass : (c.setLink d x).bypass = c.bypass := rfl
@[simp] theorem Chip.setLink_x32 : (c.setLink d x).x32 = c.x32 := rfl
@[simp] theorem Chip.setLink_radio : (c.setLink d x).radio = c.radio := rfl
@[simp] theorem Chip.setLink_acc : (c.setLink d x).acc = c.acc := rfl
@[simp] theorem Chip.setLink_records : (c.setLink d x).records = c.records := rfl
@[simp] theorem Chip.setLink_stored : (c.setLink d x).stored = c.stored := rfl
@[simp] theorem Chip.setLink_cfg : (c.setLink d x).cfg = c.cfg := rfl
@[simp] theorem Chip.setLink_modex : (c.setLink d x).modex = c.modex := rfl
@[simp] theorem Chip.setLink_upd : (c.setLink d x).upd = c.upd := rfl
@[simp] theorem Chip.setLink_quotas : (c.setLink d x).quotas = c.quotas := rfl
@[simp] theorem Chip.setLink_hsp : (c.setLink d x).hsp = c.hsp := rfl
@[simp] theorem Chip.setLink_loads : (c.setLink d x).loads = c.loads := rfl
@[simp] theorem Chip.setLink_grain : (c.setLink d x).grain = c.grain := rfl
@[simp] theorem Chip.setLink_sealx : (c.setLink d x).sealx = c.sealx := rfl
@[simp] theorem Chip.setLink_entBegun : (c.setLink d x).entBegun = c.entBegun := rfl
@[simp] theorem Chip.setLink_entDone : (c.setLink d x).entDone = c.entDone := rfl
@[simp] theorem Chip.setLink_entEnd : (c.setLink d x).entEnd = c.entEnd := rfl
@[simp] theorem Chip.setLink_policy : (c.setLink d x).policy = c.policy := rfl
@[simp] theorem Chip.setLink_authKeys : (c.setLink d x).authKeys = c.authKeys := rfl
@[simp] theorem Chip.setLink_rd (p : Nat) : (c.setLink d x).rd p = c.rd p := rfl
@[simp] theorem Chip.setLink_fget (p : Nat) (f : Fld) : (c.setLink d x).fget p f = c.fget p f := rfl
@[simp] theorem Chip.setLink_flag (p : Nat) (f : Fld) : (c.setLink d x).flag p f = c.flag p f := rfl
end

/-! ### Chip.setBus -/

section
variable (c : Chip) (rq : Req) (x : BusReq)
@[simp] theorem Chip.setBus_regs : (c.setBus rq x).regs = c.regs := rfl
@[simp] theorem Chip.setBus_wo1 : (c.setBus rq x).wo1 = c.wo1 := rfl
@[simp] theorem Chip.setBus_ctr : (c.setBus rq x).ctr = c.ctr := rfl
@[simp] theorem Chip.setBus_latch : (c.setBus rq x).latch = c.latch := rfl
@[simp] theorem Chip.setBus_stage : (c.setBus rq x).stage = c.stage := rfl
@[simp] theorem Chip.setBus_fresh : (c.setBus rq x).fresh = c.fresh := rfl
@[simp] theorem Chip.setBus_rtcAcc : (c.setBus rq x).rtcAcc = c.rtcAcc := rfl
@[simp] theorem Chip.setBus_links : (c.setBus rq x).links = c.links := rfl
@[simp] theorem Chip.setBus_resp : (c.setBus rq x).resp = c.resp := rfl
@[simp] theorem Chip.setBus_evPend : (c.setBus rq x).evPend = c.evPend := rfl
@[simp] theorem Chip.setBus_queues : (c.setBus rq x).queues = c.queues := rfl
@[simp] theorem Chip.setBus_cores : (c.setBus rq x).cores = c.cores := rfl
@[simp] theorem Chip.setBus_chans : (c.setBus rq x).chans = c.chans := rfl
@[simp] theorem Chip.setBus_dies : (c.setBus rq x).dies = c.dies := rfl
@[simp] theorem Chip.setBus_cants : (c.setBus rq x).cants = c.cants := rfl
@[simp] theorem Chip.setBus_cmds : (c.setBus rq x).cmds = c.cmds := rfl
@[simp] theorem Chip.setBus_heldComps : (c.setBus rq x).heldComps = c.heldComps := rfl
@[simp] theorem Chip.setBus_sinks : (c.setBus rq x).sinks = c.sinks := rfl
@[simp] theorem Chip.setBus_subp : (c.setBus rq x).subp = c.subp := rfl
@[simp] theorem Chip.setBus_ledFrame : (c.setBus rq x).ledFrame = c.ledFrame := rfl
@[simp] theorem Chip.setBus_engines : (c.setBus rq x).engines = c.engines := rfl
@[simp] theorem Chip.setBus_flashMark : (c.setBus rq x).flashMark = c.flashMark := rfl
@[simp] theorem Chip.setBus_flashOut : (c.setBus rq x).flashOut = c.flashOut := rfl
@[simp] theorem Chip.setBus_flashLen : (c.setBus rq x).flashLen = c.flashLen := rfl
@[simp] theorem Chip.setBus_hrStops : (c.setBus rq x).hrStops = c.hrStops := rfl
@[simp] theorem Chip.setBus_ntcHist : (c.setBus rq x).ntcHist = c.ntcHist := rfl
@[simp] theorem Chip.setBus_valves : (c.setBus rq x).valves = c.valves := rfl
@[simp] theorem Chip.setBus_valveWait : (c.setBus rq x).valveWait = c.valveWait := rfl
@[simp] theorem Chip.setBus_vboost : (c.setBus rq x).vboost = c.vboost := rfl
@[simp] theorem Chip.setBus_hsInput : (c.setBus rq x).hsInput = c.hsInput := rfl
@[simp] theorem Chip.setBus_vbRail : (c.setBus rq x).vbRail = c.vbRail := rfl
@[simp] theorem Chip.setBus_sis : (c.setBus rq x).sis = c.sis := rfl
@[simp] theorem Chip.setBus_siTick : (c.setBus rq x).siTick = c.siTick := rfl
@[simp] theorem Chip.setBus_siNext : (c.setBus rq x).siNext = c.siNext := rfl
@[simp] theorem Chip.setBus_siSince : (c.setBus rq x).siSince = c.siSince := rfl
@[simp] theorem Chip.setBus_fps : (c.setBus rq x).fps = c.fps := rfl
@[simp] theorem Chip.setBus_mbs : (c.setBus rq x).mbs = c.mbs := rfl
@[simp] theorem Chip.setBus_mbx : (c.setBus rq x).mbx = c.mbx := rfl
@[simp] theorem Chip.setBus_mbSel : (c.setBus rq x).mbSel = c.mbSel := rfl
@[simp] theorem Chip.setBus_cans : (c.setBus rq x).cans = c.cans := rfl
@[simp] theorem Chip.setBus_lins : (c.setBus rq x).lins = c.lins := rfl
@[simp] theorem Chip.setBus_nm : (c.setBus rq x).nm = c.nm := rfl
@[simp] theorem Chip.setBus_bypass : (c.setBus rq x).bypass = c.bypass := rfl
@[simp] theorem Chip.setBus_x32 : (c.setBus rq x).x32 = c.x32 := rfl
@[simp] theorem Chip.setBus_radio : (c.setBus rq x).radio = c.radio := rfl
@[simp] theorem Chip.setBus_acc : (c.setBus rq x).acc = c.acc := rfl
@[simp] theorem Chip.setBus_records : (c.setBus rq x).records = c.records := rfl
@[simp] theorem Chip.setBus_stored : (c.setBus rq x).stored = c.stored := rfl
@[simp] theorem Chip.setBus_cfg : (c.setBus rq x).cfg = c.cfg := rfl
@[simp] theorem Chip.setBus_modex : (c.setBus rq x).modex = c.modex := rfl
@[simp] theorem Chip.setBus_upd : (c.setBus rq x).upd = c.upd := rfl
@[simp] theorem Chip.setBus_quotas : (c.setBus rq x).quotas = c.quotas := rfl
@[simp] theorem Chip.setBus_hsp : (c.setBus rq x).hsp = c.hsp := rfl
@[simp] theorem Chip.setBus_loads : (c.setBus rq x).loads = c.loads := rfl
@[simp] theorem Chip.setBus_grain : (c.setBus rq x).grain = c.grain := rfl
@[simp] theorem Chip.setBus_sealx : (c.setBus rq x).sealx = c.sealx := rfl
@[simp] theorem Chip.setBus_entBegun : (c.setBus rq x).entBegun = c.entBegun := rfl
@[simp] theorem Chip.setBus_entDone : (c.setBus rq x).entDone = c.entDone := rfl
@[simp] theorem Chip.setBus_entEnd : (c.setBus rq x).entEnd = c.entEnd := rfl
@[simp] theorem Chip.setBus_policy : (c.setBus rq x).policy = c.policy := rfl
@[simp] theorem Chip.setBus_authKeys : (c.setBus rq x).authKeys = c.authKeys := rfl
@[simp] theorem Chip.setBus_rd (p : Nat) : (c.setBus rq x).rd p = c.rd p := rfl
@[simp] theorem Chip.setBus_fget (p : Nat) (f : Fld) : (c.setBus rq x).fget p f = c.fget p f := rfl
@[simp] theorem Chip.setBus_flag (p : Nat) (f : Fld) : (c.setBus rq x).flag p f = c.flag p f := rfl
end

/-! ### Chip.answer -/

section
variable (c : Chip) (rq : Req) (a : Nat) (x : Word) (e : Nat)
@[simp] theorem Chip.answer_regs : (c.answer rq a x e).regs = c.regs := rfl
@[simp] theorem Chip.answer_wo1 : (c.answer rq a x e).wo1 = c.wo1 := rfl
@[simp] theorem Chip.answer_ctr : (c.answer rq a x e).ctr = c.ctr := rfl
@[simp] theorem Chip.answer_latch : (c.answer rq a x e).latch = c.latch := rfl
@[simp] theorem Chip.answer_stage : (c.answer rq a x e).stage = c.stage := rfl
@[simp] theorem Chip.answer_fresh : (c.answer rq a x e).fresh = c.fresh := rfl
@[simp] theorem Chip.answer_rtcAcc : (c.answer rq a x e).rtcAcc = c.rtcAcc := rfl
@[simp] theorem Chip.answer_links : (c.answer rq a x e).links = c.links := rfl
@[simp] theorem Chip.answer_bus : (c.answer rq a x e).bus = c.bus := rfl
@[simp] theorem Chip.answer_evPend : (c.answer rq a x e).evPend = c.evPend := rfl
@[simp] theorem Chip.answer_queues : (c.answer rq a x e).queues = c.queues := rfl
@[simp] theorem Chip.answer_cores : (c.answer rq a x e).cores = c.cores := rfl
@[simp] theorem Chip.answer_chans : (c.answer rq a x e).chans = c.chans := rfl
@[simp] theorem Chip.answer_dies : (c.answer rq a x e).dies = c.dies := rfl
@[simp] theorem Chip.answer_cants : (c.answer rq a x e).cants = c.cants := rfl
@[simp] theorem Chip.answer_cmds : (c.answer rq a x e).cmds = c.cmds := rfl
@[simp] theorem Chip.answer_heldComps : (c.answer rq a x e).heldComps = c.heldComps := rfl
@[simp] theorem Chip.answer_sinks : (c.answer rq a x e).sinks = c.sinks := rfl
@[simp] theorem Chip.answer_subp : (c.answer rq a x e).subp = c.subp := rfl
@[simp] theorem Chip.answer_ledFrame : (c.answer rq a x e).ledFrame = c.ledFrame := rfl
@[simp] theorem Chip.answer_engines : (c.answer rq a x e).engines = c.engines := rfl
@[simp] theorem Chip.answer_flashMark : (c.answer rq a x e).flashMark = c.flashMark := rfl
@[simp] theorem Chip.answer_flashOut : (c.answer rq a x e).flashOut = c.flashOut := rfl
@[simp] theorem Chip.answer_flashLen : (c.answer rq a x e).flashLen = c.flashLen := rfl
@[simp] theorem Chip.answer_hrStops : (c.answer rq a x e).hrStops = c.hrStops := rfl
@[simp] theorem Chip.answer_ntcHist : (c.answer rq a x e).ntcHist = c.ntcHist := rfl
@[simp] theorem Chip.answer_valves : (c.answer rq a x e).valves = c.valves := rfl
@[simp] theorem Chip.answer_valveWait : (c.answer rq a x e).valveWait = c.valveWait := rfl
@[simp] theorem Chip.answer_vboost : (c.answer rq a x e).vboost = c.vboost := rfl
@[simp] theorem Chip.answer_hsInput : (c.answer rq a x e).hsInput = c.hsInput := rfl
@[simp] theorem Chip.answer_vbRail : (c.answer rq a x e).vbRail = c.vbRail := rfl
@[simp] theorem Chip.answer_sis : (c.answer rq a x e).sis = c.sis := rfl
@[simp] theorem Chip.answer_siTick : (c.answer rq a x e).siTick = c.siTick := rfl
@[simp] theorem Chip.answer_siNext : (c.answer rq a x e).siNext = c.siNext := rfl
@[simp] theorem Chip.answer_siSince : (c.answer rq a x e).siSince = c.siSince := rfl
@[simp] theorem Chip.answer_fps : (c.answer rq a x e).fps = c.fps := rfl
@[simp] theorem Chip.answer_mbs : (c.answer rq a x e).mbs = c.mbs := rfl
@[simp] theorem Chip.answer_mbx : (c.answer rq a x e).mbx = c.mbx := rfl
@[simp] theorem Chip.answer_mbSel : (c.answer rq a x e).mbSel = c.mbSel := rfl
@[simp] theorem Chip.answer_cans : (c.answer rq a x e).cans = c.cans := rfl
@[simp] theorem Chip.answer_lins : (c.answer rq a x e).lins = c.lins := rfl
@[simp] theorem Chip.answer_nm : (c.answer rq a x e).nm = c.nm := rfl
@[simp] theorem Chip.answer_bypass : (c.answer rq a x e).bypass = c.bypass := rfl
@[simp] theorem Chip.answer_x32 : (c.answer rq a x e).x32 = c.x32 := rfl
@[simp] theorem Chip.answer_radio : (c.answer rq a x e).radio = c.radio := rfl
@[simp] theorem Chip.answer_acc : (c.answer rq a x e).acc = c.acc := rfl
@[simp] theorem Chip.answer_records : (c.answer rq a x e).records = c.records := rfl
@[simp] theorem Chip.answer_stored : (c.answer rq a x e).stored = c.stored := rfl
@[simp] theorem Chip.answer_cfg : (c.answer rq a x e).cfg = c.cfg := rfl
@[simp] theorem Chip.answer_modex : (c.answer rq a x e).modex = c.modex := rfl
@[simp] theorem Chip.answer_upd : (c.answer rq a x e).upd = c.upd := rfl
@[simp] theorem Chip.answer_quotas : (c.answer rq a x e).quotas = c.quotas := rfl
@[simp] theorem Chip.answer_hsp : (c.answer rq a x e).hsp = c.hsp := rfl
@[simp] theorem Chip.answer_loads : (c.answer rq a x e).loads = c.loads := rfl
@[simp] theorem Chip.answer_grain : (c.answer rq a x e).grain = c.grain := rfl
@[simp] theorem Chip.answer_sealx : (c.answer rq a x e).sealx = c.sealx := rfl
@[simp] theorem Chip.answer_entBegun : (c.answer rq a x e).entBegun = c.entBegun := rfl
@[simp] theorem Chip.answer_entDone : (c.answer rq a x e).entDone = c.entDone := rfl
@[simp] theorem Chip.answer_entEnd : (c.answer rq a x e).entEnd = c.entEnd := rfl
@[simp] theorem Chip.answer_policy : (c.answer rq a x e).policy = c.policy := rfl
@[simp] theorem Chip.answer_authKeys : (c.answer rq a x e).authKeys = c.authKeys := rfl
@[simp] theorem Chip.answer_rd (p : Nat) : (c.answer rq a x e).rd p = c.rd p := rfl
@[simp] theorem Chip.answer_fget (p : Nat) (f : Fld) : (c.answer rq a x e).fget p f = c.fget p f := rfl
@[simp] theorem Chip.answer_flag (p : Nat) (f : Fld) : (c.answer rq a x e).flag p f = c.flag p f := rfl
end

/-! ### Chip.setPendAt -/

section
variable (c : Chip) (t : Nat) (x : BitVec 256)
@[simp] theorem Chip.setPendAt_regs : (c.setPendAt t x).regs = c.regs := rfl
@[simp] theorem Chip.setPendAt_wo1 : (c.setPendAt t x).wo1 = c.wo1 := rfl
@[simp] theorem Chip.setPendAt_ctr : (c.setPendAt t x).ctr = c.ctr := rfl
@[simp] theorem Chip.setPendAt_latch : (c.setPendAt t x).latch = c.latch := rfl
@[simp] theorem Chip.setPendAt_stage : (c.setPendAt t x).stage = c.stage := rfl
@[simp] theorem Chip.setPendAt_fresh : (c.setPendAt t x).fresh = c.fresh := rfl
@[simp] theorem Chip.setPendAt_rtcAcc : (c.setPendAt t x).rtcAcc = c.rtcAcc := rfl
@[simp] theorem Chip.setPendAt_links : (c.setPendAt t x).links = c.links := rfl
@[simp] theorem Chip.setPendAt_bus : (c.setPendAt t x).bus = c.bus := rfl
@[simp] theorem Chip.setPendAt_resp : (c.setPendAt t x).resp = c.resp := rfl
@[simp] theorem Chip.setPendAt_queues : (c.setPendAt t x).queues = c.queues := rfl
@[simp] theorem Chip.setPendAt_cores : (c.setPendAt t x).cores = c.cores := rfl
@[simp] theorem Chip.setPendAt_chans : (c.setPendAt t x).chans = c.chans := rfl
@[simp] theorem Chip.setPendAt_dies : (c.setPendAt t x).dies = c.dies := rfl
@[simp] theorem Chip.setPendAt_cants : (c.setPendAt t x).cants = c.cants := rfl
@[simp] theorem Chip.setPendAt_cmds : (c.setPendAt t x).cmds = c.cmds := rfl
@[simp] theorem Chip.setPendAt_heldComps : (c.setPendAt t x).heldComps = c.heldComps := rfl
@[simp] theorem Chip.setPendAt_sinks : (c.setPendAt t x).sinks = c.sinks := rfl
@[simp] theorem Chip.setPendAt_subp : (c.setPendAt t x).subp = c.subp := rfl
@[simp] theorem Chip.setPendAt_ledFrame : (c.setPendAt t x).ledFrame = c.ledFrame := rfl
@[simp] theorem Chip.setPendAt_engines : (c.setPendAt t x).engines = c.engines := rfl
@[simp] theorem Chip.setPendAt_flashMark : (c.setPendAt t x).flashMark = c.flashMark := rfl
@[simp] theorem Chip.setPendAt_flashOut : (c.setPendAt t x).flashOut = c.flashOut := rfl
@[simp] theorem Chip.setPendAt_flashLen : (c.setPendAt t x).flashLen = c.flashLen := rfl
@[simp] theorem Chip.setPendAt_hrStops : (c.setPendAt t x).hrStops = c.hrStops := rfl
@[simp] theorem Chip.setPendAt_ntcHist : (c.setPendAt t x).ntcHist = c.ntcHist := rfl
@[simp] theorem Chip.setPendAt_valves : (c.setPendAt t x).valves = c.valves := rfl
@[simp] theorem Chip.setPendAt_valveWait : (c.setPendAt t x).valveWait = c.valveWait := rfl
@[simp] theorem Chip.setPendAt_vboost : (c.setPendAt t x).vboost = c.vboost := rfl
@[simp] theorem Chip.setPendAt_hsInput : (c.setPendAt t x).hsInput = c.hsInput := rfl
@[simp] theorem Chip.setPendAt_vbRail : (c.setPendAt t x).vbRail = c.vbRail := rfl
@[simp] theorem Chip.setPendAt_sis : (c.setPendAt t x).sis = c.sis := rfl
@[simp] theorem Chip.setPendAt_siTick : (c.setPendAt t x).siTick = c.siTick := rfl
@[simp] theorem Chip.setPendAt_siNext : (c.setPendAt t x).siNext = c.siNext := rfl
@[simp] theorem Chip.setPendAt_siSince : (c.setPendAt t x).siSince = c.siSince := rfl
@[simp] theorem Chip.setPendAt_fps : (c.setPendAt t x).fps = c.fps := rfl
@[simp] theorem Chip.setPendAt_mbs : (c.setPendAt t x).mbs = c.mbs := rfl
@[simp] theorem Chip.setPendAt_mbx : (c.setPendAt t x).mbx = c.mbx := rfl
@[simp] theorem Chip.setPendAt_mbSel : (c.setPendAt t x).mbSel = c.mbSel := rfl
@[simp] theorem Chip.setPendAt_cans : (c.setPendAt t x).cans = c.cans := rfl
@[simp] theorem Chip.setPendAt_lins : (c.setPendAt t x).lins = c.lins := rfl
@[simp] theorem Chip.setPendAt_nm : (c.setPendAt t x).nm = c.nm := rfl
@[simp] theorem Chip.setPendAt_bypass : (c.setPendAt t x).bypass = c.bypass := rfl
@[simp] theorem Chip.setPendAt_x32 : (c.setPendAt t x).x32 = c.x32 := rfl
@[simp] theorem Chip.setPendAt_radio : (c.setPendAt t x).radio = c.radio := rfl
@[simp] theorem Chip.setPendAt_acc : (c.setPendAt t x).acc = c.acc := rfl
@[simp] theorem Chip.setPendAt_records : (c.setPendAt t x).records = c.records := rfl
@[simp] theorem Chip.setPendAt_stored : (c.setPendAt t x).stored = c.stored := rfl
@[simp] theorem Chip.setPendAt_cfg : (c.setPendAt t x).cfg = c.cfg := rfl
@[simp] theorem Chip.setPendAt_modex : (c.setPendAt t x).modex = c.modex := rfl
@[simp] theorem Chip.setPendAt_upd : (c.setPendAt t x).upd = c.upd := rfl
@[simp] theorem Chip.setPendAt_quotas : (c.setPendAt t x).quotas = c.quotas := rfl
@[simp] theorem Chip.setPendAt_hsp : (c.setPendAt t x).hsp = c.hsp := rfl
@[simp] theorem Chip.setPendAt_loads : (c.setPendAt t x).loads = c.loads := rfl
@[simp] theorem Chip.setPendAt_grain : (c.setPendAt t x).grain = c.grain := rfl
@[simp] theorem Chip.setPendAt_sealx : (c.setPendAt t x).sealx = c.sealx := rfl
@[simp] theorem Chip.setPendAt_entBegun : (c.setPendAt t x).entBegun = c.entBegun := rfl
@[simp] theorem Chip.setPendAt_entDone : (c.setPendAt t x).entDone = c.entDone := rfl
@[simp] theorem Chip.setPendAt_entEnd : (c.setPendAt t x).entEnd = c.entEnd := rfl
@[simp] theorem Chip.setPendAt_policy : (c.setPendAt t x).policy = c.policy := rfl
@[simp] theorem Chip.setPendAt_authKeys : (c.setPendAt t x).authKeys = c.authKeys := rfl
@[simp] theorem Chip.setPendAt_rd (p : Nat) : (c.setPendAt t x).rd p = c.rd p := rfl
@[simp] theorem Chip.setPendAt_fget (p : Nat) (f : Fld) : (c.setPendAt t x).fget p f = c.fget p f := rfl
@[simp] theorem Chip.setPendAt_flag (p : Nat) (f : Fld) : (c.setPendAt t x).flag p f = c.flag p f := rfl
end

/-! ### Chip.setQueue -/

section
variable (c : Chip) (q : Nat) (x : Queue)
@[simp] theorem Chip.setQueue_regs : (c.setQueue q x).regs = c.regs := rfl
@[simp] theorem Chip.setQueue_wo1 : (c.setQueue q x).wo1 = c.wo1 := rfl
@[simp] theorem Chip.setQueue_ctr : (c.setQueue q x).ctr = c.ctr := rfl
@[simp] theorem Chip.setQueue_latch : (c.setQueue q x).latch = c.latch := rfl
@[simp] theorem Chip.setQueue_stage : (c.setQueue q x).stage = c.stage := rfl
@[simp] theorem Chip.setQueue_fresh : (c.setQueue q x).fresh = c.fresh := rfl
@[simp] theorem Chip.setQueue_rtcAcc : (c.setQueue q x).rtcAcc = c.rtcAcc := rfl
@[simp] theorem Chip.setQueue_links : (c.setQueue q x).links = c.links := rfl
@[simp] theorem Chip.setQueue_bus : (c.setQueue q x).bus = c.bus := rfl
@[simp] theorem Chip.setQueue_resp : (c.setQueue q x).resp = c.resp := rfl
@[simp] theorem Chip.setQueue_evPend : (c.setQueue q x).evPend = c.evPend := rfl
@[simp] theorem Chip.setQueue_cores : (c.setQueue q x).cores = c.cores := rfl
@[simp] theorem Chip.setQueue_chans : (c.setQueue q x).chans = c.chans := rfl
@[simp] theorem Chip.setQueue_dies : (c.setQueue q x).dies = c.dies := rfl
@[simp] theorem Chip.setQueue_cants : (c.setQueue q x).cants = c.cants := rfl
@[simp] theorem Chip.setQueue_cmds : (c.setQueue q x).cmds = c.cmds := rfl
@[simp] theorem Chip.setQueue_heldComps : (c.setQueue q x).heldComps = c.heldComps := rfl
@[simp] theorem Chip.setQueue_sinks : (c.setQueue q x).sinks = c.sinks := rfl
@[simp] theorem Chip.setQueue_subp : (c.setQueue q x).subp = c.subp := rfl
@[simp] theorem Chip.setQueue_ledFrame : (c.setQueue q x).ledFrame = c.ledFrame := rfl
@[simp] theorem Chip.setQueue_engines : (c.setQueue q x).engines = c.engines := rfl
@[simp] theorem Chip.setQueue_flashMark : (c.setQueue q x).flashMark = c.flashMark := rfl
@[simp] theorem Chip.setQueue_flashOut : (c.setQueue q x).flashOut = c.flashOut := rfl
@[simp] theorem Chip.setQueue_flashLen : (c.setQueue q x).flashLen = c.flashLen := rfl
@[simp] theorem Chip.setQueue_hrStops : (c.setQueue q x).hrStops = c.hrStops := rfl
@[simp] theorem Chip.setQueue_ntcHist : (c.setQueue q x).ntcHist = c.ntcHist := rfl
@[simp] theorem Chip.setQueue_valves : (c.setQueue q x).valves = c.valves := rfl
@[simp] theorem Chip.setQueue_valveWait : (c.setQueue q x).valveWait = c.valveWait := rfl
@[simp] theorem Chip.setQueue_vboost : (c.setQueue q x).vboost = c.vboost := rfl
@[simp] theorem Chip.setQueue_hsInput : (c.setQueue q x).hsInput = c.hsInput := rfl
@[simp] theorem Chip.setQueue_vbRail : (c.setQueue q x).vbRail = c.vbRail := rfl
@[simp] theorem Chip.setQueue_sis : (c.setQueue q x).sis = c.sis := rfl
@[simp] theorem Chip.setQueue_siTick : (c.setQueue q x).siTick = c.siTick := rfl
@[simp] theorem Chip.setQueue_siNext : (c.setQueue q x).siNext = c.siNext := rfl
@[simp] theorem Chip.setQueue_siSince : (c.setQueue q x).siSince = c.siSince := rfl
@[simp] theorem Chip.setQueue_fps : (c.setQueue q x).fps = c.fps := rfl
@[simp] theorem Chip.setQueue_mbs : (c.setQueue q x).mbs = c.mbs := rfl
@[simp] theorem Chip.setQueue_mbx : (c.setQueue q x).mbx = c.mbx := rfl
@[simp] theorem Chip.setQueue_mbSel : (c.setQueue q x).mbSel = c.mbSel := rfl
@[simp] theorem Chip.setQueue_cans : (c.setQueue q x).cans = c.cans := rfl
@[simp] theorem Chip.setQueue_lins : (c.setQueue q x).lins = c.lins := rfl
@[simp] theorem Chip.setQueue_nm : (c.setQueue q x).nm = c.nm := rfl
@[simp] theorem Chip.setQueue_bypass : (c.setQueue q x).bypass = c.bypass := rfl
@[simp] theorem Chip.setQueue_x32 : (c.setQueue q x).x32 = c.x32 := rfl
@[simp] theorem Chip.setQueue_radio : (c.setQueue q x).radio = c.radio := rfl
@[simp] theorem Chip.setQueue_acc : (c.setQueue q x).acc = c.acc := rfl
@[simp] theorem Chip.setQueue_records : (c.setQueue q x).records = c.records := rfl
@[simp] theorem Chip.setQueue_stored : (c.setQueue q x).stored = c.stored := rfl
@[simp] theorem Chip.setQueue_cfg : (c.setQueue q x).cfg = c.cfg := rfl
@[simp] theorem Chip.setQueue_modex : (c.setQueue q x).modex = c.modex := rfl
@[simp] theorem Chip.setQueue_upd : (c.setQueue q x).upd = c.upd := rfl
@[simp] theorem Chip.setQueue_quotas : (c.setQueue q x).quotas = c.quotas := rfl
@[simp] theorem Chip.setQueue_hsp : (c.setQueue q x).hsp = c.hsp := rfl
@[simp] theorem Chip.setQueue_loads : (c.setQueue q x).loads = c.loads := rfl
@[simp] theorem Chip.setQueue_grain : (c.setQueue q x).grain = c.grain := rfl
@[simp] theorem Chip.setQueue_sealx : (c.setQueue q x).sealx = c.sealx := rfl
@[simp] theorem Chip.setQueue_entBegun : (c.setQueue q x).entBegun = c.entBegun := rfl
@[simp] theorem Chip.setQueue_entDone : (c.setQueue q x).entDone = c.entDone := rfl
@[simp] theorem Chip.setQueue_entEnd : (c.setQueue q x).entEnd = c.entEnd := rfl
@[simp] theorem Chip.setQueue_policy : (c.setQueue q x).policy = c.policy := rfl
@[simp] theorem Chip.setQueue_authKeys : (c.setQueue q x).authKeys = c.authKeys := rfl
@[simp] theorem Chip.setQueue_rd (p : Nat) : (c.setQueue q x).rd p = c.rd p := rfl
@[simp] theorem Chip.setQueue_fget (p : Nat) (f : Fld) : (c.setQueue q x).fget p f = c.fget p f := rfl
@[simp] theorem Chip.setQueue_flag (p : Nat) (f : Fld) : (c.setQueue q x).flag p f = c.flag p f := rfl
end

/-! ### Chip.setCore -/

section
variable (c : Chip) (k : Nat) (x : CoreX)
@[simp] theorem Chip.setCore_regs : (c.setCore k x).regs = c.regs := rfl
@[simp] theorem Chip.setCore_wo1 : (c.setCore k x).wo1 = c.wo1 := rfl
@[simp] theorem Chip.setCore_ctr : (c.setCore k x).ctr = c.ctr := rfl
@[simp] theorem Chip.setCore_latch : (c.setCore k x).latch = c.latch := rfl
@[simp] theorem Chip.setCore_stage : (c.setCore k x).stage = c.stage := rfl
@[simp] theorem Chip.setCore_fresh : (c.setCore k x).fresh = c.fresh := rfl
@[simp] theorem Chip.setCore_rtcAcc : (c.setCore k x).rtcAcc = c.rtcAcc := rfl
@[simp] theorem Chip.setCore_links : (c.setCore k x).links = c.links := rfl
@[simp] theorem Chip.setCore_bus : (c.setCore k x).bus = c.bus := rfl
@[simp] theorem Chip.setCore_resp : (c.setCore k x).resp = c.resp := rfl
@[simp] theorem Chip.setCore_evPend : (c.setCore k x).evPend = c.evPend := rfl
@[simp] theorem Chip.setCore_queues : (c.setCore k x).queues = c.queues := rfl
@[simp] theorem Chip.setCore_chans : (c.setCore k x).chans = c.chans := rfl
@[simp] theorem Chip.setCore_dies : (c.setCore k x).dies = c.dies := rfl
@[simp] theorem Chip.setCore_cants : (c.setCore k x).cants = c.cants := rfl
@[simp] theorem Chip.setCore_cmds : (c.setCore k x).cmds = c.cmds := rfl
@[simp] theorem Chip.setCore_heldComps : (c.setCore k x).heldComps = c.heldComps := rfl
@[simp] theorem Chip.setCore_sinks : (c.setCore k x).sinks = c.sinks := rfl
@[simp] theorem Chip.setCore_subp : (c.setCore k x).subp = c.subp := rfl
@[simp] theorem Chip.setCore_ledFrame : (c.setCore k x).ledFrame = c.ledFrame := rfl
@[simp] theorem Chip.setCore_engines : (c.setCore k x).engines = c.engines := rfl
@[simp] theorem Chip.setCore_flashMark : (c.setCore k x).flashMark = c.flashMark := rfl
@[simp] theorem Chip.setCore_flashOut : (c.setCore k x).flashOut = c.flashOut := rfl
@[simp] theorem Chip.setCore_flashLen : (c.setCore k x).flashLen = c.flashLen := rfl
@[simp] theorem Chip.setCore_hrStops : (c.setCore k x).hrStops = c.hrStops := rfl
@[simp] theorem Chip.setCore_ntcHist : (c.setCore k x).ntcHist = c.ntcHist := rfl
@[simp] theorem Chip.setCore_valves : (c.setCore k x).valves = c.valves := rfl
@[simp] theorem Chip.setCore_valveWait : (c.setCore k x).valveWait = c.valveWait := rfl
@[simp] theorem Chip.setCore_vboost : (c.setCore k x).vboost = c.vboost := rfl
@[simp] theorem Chip.setCore_hsInput : (c.setCore k x).hsInput = c.hsInput := rfl
@[simp] theorem Chip.setCore_vbRail : (c.setCore k x).vbRail = c.vbRail := rfl
@[simp] theorem Chip.setCore_sis : (c.setCore k x).sis = c.sis := rfl
@[simp] theorem Chip.setCore_siTick : (c.setCore k x).siTick = c.siTick := rfl
@[simp] theorem Chip.setCore_siNext : (c.setCore k x).siNext = c.siNext := rfl
@[simp] theorem Chip.setCore_siSince : (c.setCore k x).siSince = c.siSince := rfl
@[simp] theorem Chip.setCore_fps : (c.setCore k x).fps = c.fps := rfl
@[simp] theorem Chip.setCore_mbs : (c.setCore k x).mbs = c.mbs := rfl
@[simp] theorem Chip.setCore_mbx : (c.setCore k x).mbx = c.mbx := rfl
@[simp] theorem Chip.setCore_mbSel : (c.setCore k x).mbSel = c.mbSel := rfl
@[simp] theorem Chip.setCore_cans : (c.setCore k x).cans = c.cans := rfl
@[simp] theorem Chip.setCore_lins : (c.setCore k x).lins = c.lins := rfl
@[simp] theorem Chip.setCore_nm : (c.setCore k x).nm = c.nm := rfl
@[simp] theorem Chip.setCore_bypass : (c.setCore k x).bypass = c.bypass := rfl
@[simp] theorem Chip.setCore_x32 : (c.setCore k x).x32 = c.x32 := rfl
@[simp] theorem Chip.setCore_radio : (c.setCore k x).radio = c.radio := rfl
@[simp] theorem Chip.setCore_acc : (c.setCore k x).acc = c.acc := rfl
@[simp] theorem Chip.setCore_records : (c.setCore k x).records = c.records := rfl
@[simp] theorem Chip.setCore_stored : (c.setCore k x).stored = c.stored := rfl
@[simp] theorem Chip.setCore_cfg : (c.setCore k x).cfg = c.cfg := rfl
@[simp] theorem Chip.setCore_modex : (c.setCore k x).modex = c.modex := rfl
@[simp] theorem Chip.setCore_upd : (c.setCore k x).upd = c.upd := rfl
@[simp] theorem Chip.setCore_quotas : (c.setCore k x).quotas = c.quotas := rfl
@[simp] theorem Chip.setCore_hsp : (c.setCore k x).hsp = c.hsp := rfl
@[simp] theorem Chip.setCore_loads : (c.setCore k x).loads = c.loads := rfl
@[simp] theorem Chip.setCore_grain : (c.setCore k x).grain = c.grain := rfl
@[simp] theorem Chip.setCore_sealx : (c.setCore k x).sealx = c.sealx := rfl
@[simp] theorem Chip.setCore_entBegun : (c.setCore k x).entBegun = c.entBegun := rfl
@[simp] theorem Chip.setCore_entDone : (c.setCore k x).entDone = c.entDone := rfl
@[simp] theorem Chip.setCore_entEnd : (c.setCore k x).entEnd = c.entEnd := rfl
@[simp] theorem Chip.setCore_policy : (c.setCore k x).policy = c.policy := rfl
@[simp] theorem Chip.setCore_authKeys : (c.setCore k x).authKeys = c.authKeys := rfl
@[simp] theorem Chip.setCore_rd (p : Nat) : (c.setCore k x).rd p = c.rd p := rfl
@[simp] theorem Chip.setCore_fget (p : Nat) (f : Fld) : (c.setCore k x).fget p f = c.fget p f := rfl
@[simp] theorem Chip.setCore_flag (p : Nat) (f : Fld) : (c.setCore k x).flag p f = c.flag p f := rfl
end

/-! ### Chip.setChan -/

section
variable (c : Chip) (ch : Nat) (x : ChanX)
@[simp] theorem Chip.setChan_regs : (c.setChan ch x).regs = c.regs := rfl
@[simp] theorem Chip.setChan_wo1 : (c.setChan ch x).wo1 = c.wo1 := rfl
@[simp] theorem Chip.setChan_ctr : (c.setChan ch x).ctr = c.ctr := rfl
@[simp] theorem Chip.setChan_latch : (c.setChan ch x).latch = c.latch := rfl
@[simp] theorem Chip.setChan_stage : (c.setChan ch x).stage = c.stage := rfl
@[simp] theorem Chip.setChan_fresh : (c.setChan ch x).fresh = c.fresh := rfl
@[simp] theorem Chip.setChan_rtcAcc : (c.setChan ch x).rtcAcc = c.rtcAcc := rfl
@[simp] theorem Chip.setChan_links : (c.setChan ch x).links = c.links := rfl
@[simp] theorem Chip.setChan_bus : (c.setChan ch x).bus = c.bus := rfl
@[simp] theorem Chip.setChan_resp : (c.setChan ch x).resp = c.resp := rfl
@[simp] theorem Chip.setChan_evPend : (c.setChan ch x).evPend = c.evPend := rfl
@[simp] theorem Chip.setChan_queues : (c.setChan ch x).queues = c.queues := rfl
@[simp] theorem Chip.setChan_cores : (c.setChan ch x).cores = c.cores := rfl
@[simp] theorem Chip.setChan_dies : (c.setChan ch x).dies = c.dies := rfl
@[simp] theorem Chip.setChan_cants : (c.setChan ch x).cants = c.cants := rfl
@[simp] theorem Chip.setChan_cmds : (c.setChan ch x).cmds = c.cmds := rfl
@[simp] theorem Chip.setChan_heldComps : (c.setChan ch x).heldComps = c.heldComps := rfl
@[simp] theorem Chip.setChan_sinks : (c.setChan ch x).sinks = c.sinks := rfl
@[simp] theorem Chip.setChan_subp : (c.setChan ch x).subp = c.subp := rfl
@[simp] theorem Chip.setChan_ledFrame : (c.setChan ch x).ledFrame = c.ledFrame := rfl
@[simp] theorem Chip.setChan_engines : (c.setChan ch x).engines = c.engines := rfl
@[simp] theorem Chip.setChan_flashMark : (c.setChan ch x).flashMark = c.flashMark := rfl
@[simp] theorem Chip.setChan_flashOut : (c.setChan ch x).flashOut = c.flashOut := rfl
@[simp] theorem Chip.setChan_flashLen : (c.setChan ch x).flashLen = c.flashLen := rfl
@[simp] theorem Chip.setChan_hrStops : (c.setChan ch x).hrStops = c.hrStops := rfl
@[simp] theorem Chip.setChan_ntcHist : (c.setChan ch x).ntcHist = c.ntcHist := rfl
@[simp] theorem Chip.setChan_valves : (c.setChan ch x).valves = c.valves := rfl
@[simp] theorem Chip.setChan_valveWait : (c.setChan ch x).valveWait = c.valveWait := rfl
@[simp] theorem Chip.setChan_vboost : (c.setChan ch x).vboost = c.vboost := rfl
@[simp] theorem Chip.setChan_hsInput : (c.setChan ch x).hsInput = c.hsInput := rfl
@[simp] theorem Chip.setChan_vbRail : (c.setChan ch x).vbRail = c.vbRail := rfl
@[simp] theorem Chip.setChan_sis : (c.setChan ch x).sis = c.sis := rfl
@[simp] theorem Chip.setChan_siTick : (c.setChan ch x).siTick = c.siTick := rfl
@[simp] theorem Chip.setChan_siNext : (c.setChan ch x).siNext = c.siNext := rfl
@[simp] theorem Chip.setChan_siSince : (c.setChan ch x).siSince = c.siSince := rfl
@[simp] theorem Chip.setChan_fps : (c.setChan ch x).fps = c.fps := rfl
@[simp] theorem Chip.setChan_mbs : (c.setChan ch x).mbs = c.mbs := rfl
@[simp] theorem Chip.setChan_mbx : (c.setChan ch x).mbx = c.mbx := rfl
@[simp] theorem Chip.setChan_mbSel : (c.setChan ch x).mbSel = c.mbSel := rfl
@[simp] theorem Chip.setChan_cans : (c.setChan ch x).cans = c.cans := rfl
@[simp] theorem Chip.setChan_lins : (c.setChan ch x).lins = c.lins := rfl
@[simp] theorem Chip.setChan_nm : (c.setChan ch x).nm = c.nm := rfl
@[simp] theorem Chip.setChan_bypass : (c.setChan ch x).bypass = c.bypass := rfl
@[simp] theorem Chip.setChan_x32 : (c.setChan ch x).x32 = c.x32 := rfl
@[simp] theorem Chip.setChan_radio : (c.setChan ch x).radio = c.radio := rfl
@[simp] theorem Chip.setChan_acc : (c.setChan ch x).acc = c.acc := rfl
@[simp] theorem Chip.setChan_records : (c.setChan ch x).records = c.records := rfl
@[simp] theorem Chip.setChan_stored : (c.setChan ch x).stored = c.stored := rfl
@[simp] theorem Chip.setChan_cfg : (c.setChan ch x).cfg = c.cfg := rfl
@[simp] theorem Chip.setChan_modex : (c.setChan ch x).modex = c.modex := rfl
@[simp] theorem Chip.setChan_upd : (c.setChan ch x).upd = c.upd := rfl
@[simp] theorem Chip.setChan_quotas : (c.setChan ch x).quotas = c.quotas := rfl
@[simp] theorem Chip.setChan_hsp : (c.setChan ch x).hsp = c.hsp := rfl
@[simp] theorem Chip.setChan_loads : (c.setChan ch x).loads = c.loads := rfl
@[simp] theorem Chip.setChan_grain : (c.setChan ch x).grain = c.grain := rfl
@[simp] theorem Chip.setChan_sealx : (c.setChan ch x).sealx = c.sealx := rfl
@[simp] theorem Chip.setChan_entBegun : (c.setChan ch x).entBegun = c.entBegun := rfl
@[simp] theorem Chip.setChan_entDone : (c.setChan ch x).entDone = c.entDone := rfl
@[simp] theorem Chip.setChan_entEnd : (c.setChan ch x).entEnd = c.entEnd := rfl
@[simp] theorem Chip.setChan_policy : (c.setChan ch x).policy = c.policy := rfl
@[simp] theorem Chip.setChan_authKeys : (c.setChan ch x).authKeys = c.authKeys := rfl
@[simp] theorem Chip.setChan_rd (p : Nat) : (c.setChan ch x).rd p = c.rd p := rfl
@[simp] theorem Chip.setChan_fget (p : Nat) (f : Fld) : (c.setChan ch x).fget p f = c.fget p f := rfl
@[simp] theorem Chip.setChan_flag (p : Nat) (f : Fld) : (c.setChan ch x).flag p f = c.flag p f := rfl
end

/-! ### Chip.setDie -/

section
variable (c : Chip) (n : Nat) (x : DieX)
@[simp] theorem Chip.setDie_regs : (c.setDie n x).regs = c.regs := rfl
@[simp] theorem Chip.setDie_wo1 : (c.setDie n x).wo1 = c.wo1 := rfl
@[simp] theorem Chip.setDie_ctr : (c.setDie n x).ctr = c.ctr := rfl
@[simp] theorem Chip.setDie_latch : (c.setDie n x).latch = c.latch := rfl
@[simp] theorem Chip.setDie_stage : (c.setDie n x).stage = c.stage := rfl
@[simp] theorem Chip.setDie_fresh : (c.setDie n x).fresh = c.fresh := rfl
@[simp] theorem Chip.setDie_rtcAcc : (c.setDie n x).rtcAcc = c.rtcAcc := rfl
@[simp] theorem Chip.setDie_links : (c.setDie n x).links = c.links := rfl
@[simp] theorem Chip.setDie_bus : (c.setDie n x).bus = c.bus := rfl
@[simp] theorem Chip.setDie_resp : (c.setDie n x).resp = c.resp := rfl
@[simp] theorem Chip.setDie_evPend : (c.setDie n x).evPend = c.evPend := rfl
@[simp] theorem Chip.setDie_queues : (c.setDie n x).queues = c.queues := rfl
@[simp] theorem Chip.setDie_cores : (c.setDie n x).cores = c.cores := rfl
@[simp] theorem Chip.setDie_chans : (c.setDie n x).chans = c.chans := rfl
@[simp] theorem Chip.setDie_cants : (c.setDie n x).cants = c.cants := rfl
@[simp] theorem Chip.setDie_cmds : (c.setDie n x).cmds = c.cmds := rfl
@[simp] theorem Chip.setDie_heldComps : (c.setDie n x).heldComps = c.heldComps := rfl
@[simp] theorem Chip.setDie_sinks : (c.setDie n x).sinks = c.sinks := rfl
@[simp] theorem Chip.setDie_subp : (c.setDie n x).subp = c.subp := rfl
@[simp] theorem Chip.setDie_ledFrame : (c.setDie n x).ledFrame = c.ledFrame := rfl
@[simp] theorem Chip.setDie_engines : (c.setDie n x).engines = c.engines := rfl
@[simp] theorem Chip.setDie_flashMark : (c.setDie n x).flashMark = c.flashMark := rfl
@[simp] theorem Chip.setDie_flashOut : (c.setDie n x).flashOut = c.flashOut := rfl
@[simp] theorem Chip.setDie_flashLen : (c.setDie n x).flashLen = c.flashLen := rfl
@[simp] theorem Chip.setDie_hrStops : (c.setDie n x).hrStops = c.hrStops := rfl
@[simp] theorem Chip.setDie_ntcHist : (c.setDie n x).ntcHist = c.ntcHist := rfl
@[simp] theorem Chip.setDie_valves : (c.setDie n x).valves = c.valves := rfl
@[simp] theorem Chip.setDie_valveWait : (c.setDie n x).valveWait = c.valveWait := rfl
@[simp] theorem Chip.setDie_vboost : (c.setDie n x).vboost = c.vboost := rfl
@[simp] theorem Chip.setDie_hsInput : (c.setDie n x).hsInput = c.hsInput := rfl
@[simp] theorem Chip.setDie_vbRail : (c.setDie n x).vbRail = c.vbRail := rfl
@[simp] theorem Chip.setDie_sis : (c.setDie n x).sis = c.sis := rfl
@[simp] theorem Chip.setDie_siTick : (c.setDie n x).siTick = c.siTick := rfl
@[simp] theorem Chip.setDie_siNext : (c.setDie n x).siNext = c.siNext := rfl
@[simp] theorem Chip.setDie_siSince : (c.setDie n x).siSince = c.siSince := rfl
@[simp] theorem Chip.setDie_fps : (c.setDie n x).fps = c.fps := rfl
@[simp] theorem Chip.setDie_mbs : (c.setDie n x).mbs = c.mbs := rfl
@[simp] theorem Chip.setDie_mbx : (c.setDie n x).mbx = c.mbx := rfl
@[simp] theorem Chip.setDie_mbSel : (c.setDie n x).mbSel = c.mbSel := rfl
@[simp] theorem Chip.setDie_cans : (c.setDie n x).cans = c.cans := rfl
@[simp] theorem Chip.setDie_lins : (c.setDie n x).lins = c.lins := rfl
@[simp] theorem Chip.setDie_nm : (c.setDie n x).nm = c.nm := rfl
@[simp] theorem Chip.setDie_bypass : (c.setDie n x).bypass = c.bypass := rfl
@[simp] theorem Chip.setDie_x32 : (c.setDie n x).x32 = c.x32 := rfl
@[simp] theorem Chip.setDie_radio : (c.setDie n x).radio = c.radio := rfl
@[simp] theorem Chip.setDie_acc : (c.setDie n x).acc = c.acc := rfl
@[simp] theorem Chip.setDie_records : (c.setDie n x).records = c.records := rfl
@[simp] theorem Chip.setDie_stored : (c.setDie n x).stored = c.stored := rfl
@[simp] theorem Chip.setDie_cfg : (c.setDie n x).cfg = c.cfg := rfl
@[simp] theorem Chip.setDie_modex : (c.setDie n x).modex = c.modex := rfl
@[simp] theorem Chip.setDie_upd : (c.setDie n x).upd = c.upd := rfl
@[simp] theorem Chip.setDie_quotas : (c.setDie n x).quotas = c.quotas := rfl
@[simp] theorem Chip.setDie_hsp : (c.setDie n x).hsp = c.hsp := rfl
@[simp] theorem Chip.setDie_loads : (c.setDie n x).loads = c.loads := rfl
@[simp] theorem Chip.setDie_grain : (c.setDie n x).grain = c.grain := rfl
@[simp] theorem Chip.setDie_sealx : (c.setDie n x).sealx = c.sealx := rfl
@[simp] theorem Chip.setDie_entBegun : (c.setDie n x).entBegun = c.entBegun := rfl
@[simp] theorem Chip.setDie_entDone : (c.setDie n x).entDone = c.entDone := rfl
@[simp] theorem Chip.setDie_entEnd : (c.setDie n x).entEnd = c.entEnd := rfl
@[simp] theorem Chip.setDie_policy : (c.setDie n x).policy = c.policy := rfl
@[simp] theorem Chip.setDie_authKeys : (c.setDie n x).authKeys = c.authKeys := rfl
@[simp] theorem Chip.setDie_rd (p : Nat) : (c.setDie n x).rd p = c.rd p := rfl
@[simp] theorem Chip.setDie_fget (p : Nat) (f : Fld) : (c.setDie n x).fget p f = c.fget p f := rfl
@[simp] theorem Chip.setDie_flag (p : Nat) (f : Fld) : (c.setDie n x).flag p f = c.flag p f := rfl
end

/-! ### Chip.setCant -/

section
variable (c : Chip) (n : Nat) (x : CantX)
@[simp] theorem Chip.setCant_regs : (c.setCant n x).regs = c.regs := rfl
@[simp] theorem Chip.setCant_wo1 : (c.setCant n x).wo1 = c.wo1 := rfl
@[simp] theorem Chip.setCant_ctr : (c.setCant n x).ctr = c.ctr := rfl
@[simp] theorem Chip.setCant_latch : (c.setCant n x).latch = c.latch := rfl
@[simp] theorem Chip.setCant_stage : (c.setCant n x).stage = c.stage := rfl
@[simp] theorem Chip.setCant_fresh : (c.setCant n x).fresh = c.fresh := rfl
@[simp] theorem Chip.setCant_rtcAcc : (c.setCant n x).rtcAcc = c.rtcAcc := rfl
@[simp] theorem Chip.setCant_links : (c.setCant n x).links = c.links := rfl
@[simp] theorem Chip.setCant_bus : (c.setCant n x).bus = c.bus := rfl
@[simp] theorem Chip.setCant_resp : (c.setCant n x).resp = c.resp := rfl
@[simp] theorem Chip.setCant_evPend : (c.setCant n x).evPend = c.evPend := rfl
@[simp] theorem Chip.setCant_queues : (c.setCant n x).queues = c.queues := rfl
@[simp] theorem Chip.setCant_cores : (c.setCant n x).cores = c.cores := rfl
@[simp] theorem Chip.setCant_chans : (c.setCant n x).chans = c.chans := rfl
@[simp] theorem Chip.setCant_dies : (c.setCant n x).dies = c.dies := rfl
@[simp] theorem Chip.setCant_cmds : (c.setCant n x).cmds = c.cmds := rfl
@[simp] theorem Chip.setCant_heldComps : (c.setCant n x).heldComps = c.heldComps := rfl
@[simp] theorem Chip.setCant_sinks : (c.setCant n x).sinks = c.sinks := rfl
@[simp] theorem Chip.setCant_subp : (c.setCant n x).subp = c.subp := rfl
@[simp] theorem Chip.setCant_ledFrame : (c.setCant n x).ledFrame = c.ledFrame := rfl
@[simp] theorem Chip.setCant_engines : (c.setCant n x).engines = c.engines := rfl
@[simp] theorem Chip.setCant_flashMark : (c.setCant n x).flashMark = c.flashMark := rfl
@[simp] theorem Chip.setCant_flashOut : (c.setCant n x).flashOut = c.flashOut := rfl
@[simp] theorem Chip.setCant_flashLen : (c.setCant n x).flashLen = c.flashLen := rfl
@[simp] theorem Chip.setCant_hrStops : (c.setCant n x).hrStops = c.hrStops := rfl
@[simp] theorem Chip.setCant_ntcHist : (c.setCant n x).ntcHist = c.ntcHist := rfl
@[simp] theorem Chip.setCant_valves : (c.setCant n x).valves = c.valves := rfl
@[simp] theorem Chip.setCant_valveWait : (c.setCant n x).valveWait = c.valveWait := rfl
@[simp] theorem Chip.setCant_vboost : (c.setCant n x).vboost = c.vboost := rfl
@[simp] theorem Chip.setCant_hsInput : (c.setCant n x).hsInput = c.hsInput := rfl
@[simp] theorem Chip.setCant_vbRail : (c.setCant n x).vbRail = c.vbRail := rfl
@[simp] theorem Chip.setCant_sis : (c.setCant n x).sis = c.sis := rfl
@[simp] theorem Chip.setCant_siTick : (c.setCant n x).siTick = c.siTick := rfl
@[simp] theorem Chip.setCant_siNext : (c.setCant n x).siNext = c.siNext := rfl
@[simp] theorem Chip.setCant_siSince : (c.setCant n x).siSince = c.siSince := rfl
@[simp] theorem Chip.setCant_fps : (c.setCant n x).fps = c.fps := rfl
@[simp] theorem Chip.setCant_mbs : (c.setCant n x).mbs = c.mbs := rfl
@[simp] theorem Chip.setCant_mbx : (c.setCant n x).mbx = c.mbx := rfl
@[simp] theorem Chip.setCant_mbSel : (c.setCant n x).mbSel = c.mbSel := rfl
@[simp] theorem Chip.setCant_cans : (c.setCant n x).cans = c.cans := rfl
@[simp] theorem Chip.setCant_lins : (c.setCant n x).lins = c.lins := rfl
@[simp] theorem Chip.setCant_nm : (c.setCant n x).nm = c.nm := rfl
@[simp] theorem Chip.setCant_bypass : (c.setCant n x).bypass = c.bypass := rfl
@[simp] theorem Chip.setCant_x32 : (c.setCant n x).x32 = c.x32 := rfl
@[simp] theorem Chip.setCant_radio : (c.setCant n x).radio = c.radio := rfl
@[simp] theorem Chip.setCant_acc : (c.setCant n x).acc = c.acc := rfl
@[simp] theorem Chip.setCant_records : (c.setCant n x).records = c.records := rfl
@[simp] theorem Chip.setCant_stored : (c.setCant n x).stored = c.stored := rfl
@[simp] theorem Chip.setCant_cfg : (c.setCant n x).cfg = c.cfg := rfl
@[simp] theorem Chip.setCant_modex : (c.setCant n x).modex = c.modex := rfl
@[simp] theorem Chip.setCant_upd : (c.setCant n x).upd = c.upd := rfl
@[simp] theorem Chip.setCant_quotas : (c.setCant n x).quotas = c.quotas := rfl
@[simp] theorem Chip.setCant_hsp : (c.setCant n x).hsp = c.hsp := rfl
@[simp] theorem Chip.setCant_loads : (c.setCant n x).loads = c.loads := rfl
@[simp] theorem Chip.setCant_grain : (c.setCant n x).grain = c.grain := rfl
@[simp] theorem Chip.setCant_sealx : (c.setCant n x).sealx = c.sealx := rfl
@[simp] theorem Chip.setCant_entBegun : (c.setCant n x).entBegun = c.entBegun := rfl
@[simp] theorem Chip.setCant_entDone : (c.setCant n x).entDone = c.entDone := rfl
@[simp] theorem Chip.setCant_entEnd : (c.setCant n x).entEnd = c.entEnd := rfl
@[simp] theorem Chip.setCant_policy : (c.setCant n x).policy = c.policy := rfl
@[simp] theorem Chip.setCant_authKeys : (c.setCant n x).authKeys = c.authKeys := rfl
@[simp] theorem Chip.setCant_rd (p : Nat) : (c.setCant n x).rd p = c.rd p := rfl
@[simp] theorem Chip.setCant_fget (p : Nat) (f : Fld) : (c.setCant n x).fget p f = c.fget p f := rfl
@[simp] theorem Chip.setCant_flag (p : Nat) (f : Fld) : (c.setCant n x).flag p f = c.flag p f := rfl
end

/-! ### Chip.setSink -/

section
variable (c : Chip) (n : Nat) (x : SinkX)
@[simp] theorem Chip.setSink_regs : (c.setSink n x).regs = c.regs := rfl
@[simp] theorem Chip.setSink_wo1 : (c.setSink n x).wo1 = c.wo1 := rfl
@[simp] theorem Chip.setSink_ctr : (c.setSink n x).ctr = c.ctr := rfl
@[simp] theorem Chip.setSink_latch : (c.setSink n x).latch = c.latch := rfl
@[simp] theorem Chip.setSink_stage : (c.setSink n x).stage = c.stage := rfl
@[simp] theorem Chip.setSink_fresh : (c.setSink n x).fresh = c.fresh := rfl
@[simp] theorem Chip.setSink_rtcAcc : (c.setSink n x).rtcAcc = c.rtcAcc := rfl
@[simp] theorem Chip.setSink_links : (c.setSink n x).links = c.links := rfl
@[simp] theorem Chip.setSink_bus : (c.setSink n x).bus = c.bus := rfl
@[simp] theorem Chip.setSink_resp : (c.setSink n x).resp = c.resp := rfl
@[simp] theorem Chip.setSink_evPend : (c.setSink n x).evPend = c.evPend := rfl
@[simp] theorem Chip.setSink_queues : (c.setSink n x).queues = c.queues := rfl
@[simp] theorem Chip.setSink_cores : (c.setSink n x).cores = c.cores := rfl
@[simp] theorem Chip.setSink_chans : (c.setSink n x).chans = c.chans := rfl
@[simp] theorem Chip.setSink_dies : (c.setSink n x).dies = c.dies := rfl
@[simp] theorem Chip.setSink_cants : (c.setSink n x).cants = c.cants := rfl
@[simp] theorem Chip.setSink_cmds : (c.setSink n x).cmds = c.cmds := rfl
@[simp] theorem Chip.setSink_heldComps : (c.setSink n x).heldComps = c.heldComps := rfl
@[simp] theorem Chip.setSink_subp : (c.setSink n x).subp = c.subp := rfl
@[simp] theorem Chip.setSink_ledFrame : (c.setSink n x).ledFrame = c.ledFrame := rfl
@[simp] theorem Chip.setSink_engines : (c.setSink n x).engines = c.engines := rfl
@[simp] theorem Chip.setSink_flashMark : (c.setSink n x).flashMark = c.flashMark := rfl
@[simp] theorem Chip.setSink_flashOut : (c.setSink n x).flashOut = c.flashOut := rfl
@[simp] theorem Chip.setSink_flashLen : (c.setSink n x).flashLen = c.flashLen := rfl
@[simp] theorem Chip.setSink_hrStops : (c.setSink n x).hrStops = c.hrStops := rfl
@[simp] theorem Chip.setSink_ntcHist : (c.setSink n x).ntcHist = c.ntcHist := rfl
@[simp] theorem Chip.setSink_valves : (c.setSink n x).valves = c.valves := rfl
@[simp] theorem Chip.setSink_valveWait : (c.setSink n x).valveWait = c.valveWait := rfl
@[simp] theorem Chip.setSink_vboost : (c.setSink n x).vboost = c.vboost := rfl
@[simp] theorem Chip.setSink_hsInput : (c.setSink n x).hsInput = c.hsInput := rfl
@[simp] theorem Chip.setSink_vbRail : (c.setSink n x).vbRail = c.vbRail := rfl
@[simp] theorem Chip.setSink_sis : (c.setSink n x).sis = c.sis := rfl
@[simp] theorem Chip.setSink_siTick : (c.setSink n x).siTick = c.siTick := rfl
@[simp] theorem Chip.setSink_siNext : (c.setSink n x).siNext = c.siNext := rfl
@[simp] theorem Chip.setSink_siSince : (c.setSink n x).siSince = c.siSince := rfl
@[simp] theorem Chip.setSink_fps : (c.setSink n x).fps = c.fps := rfl
@[simp] theorem Chip.setSink_mbs : (c.setSink n x).mbs = c.mbs := rfl
@[simp] theorem Chip.setSink_mbx : (c.setSink n x).mbx = c.mbx := rfl
@[simp] theorem Chip.setSink_mbSel : (c.setSink n x).mbSel = c.mbSel := rfl
@[simp] theorem Chip.setSink_cans : (c.setSink n x).cans = c.cans := rfl
@[simp] theorem Chip.setSink_lins : (c.setSink n x).lins = c.lins := rfl
@[simp] theorem Chip.setSink_nm : (c.setSink n x).nm = c.nm := rfl
@[simp] theorem Chip.setSink_bypass : (c.setSink n x).bypass = c.bypass := rfl
@[simp] theorem Chip.setSink_x32 : (c.setSink n x).x32 = c.x32 := rfl
@[simp] theorem Chip.setSink_radio : (c.setSink n x).radio = c.radio := rfl
@[simp] theorem Chip.setSink_acc : (c.setSink n x).acc = c.acc := rfl
@[simp] theorem Chip.setSink_records : (c.setSink n x).records = c.records := rfl
@[simp] theorem Chip.setSink_stored : (c.setSink n x).stored = c.stored := rfl
@[simp] theorem Chip.setSink_cfg : (c.setSink n x).cfg = c.cfg := rfl
@[simp] theorem Chip.setSink_modex : (c.setSink n x).modex = c.modex := rfl
@[simp] theorem Chip.setSink_upd : (c.setSink n x).upd = c.upd := rfl
@[simp] theorem Chip.setSink_quotas : (c.setSink n x).quotas = c.quotas := rfl
@[simp] theorem Chip.setSink_hsp : (c.setSink n x).hsp = c.hsp := rfl
@[simp] theorem Chip.setSink_loads : (c.setSink n x).loads = c.loads := rfl
@[simp] theorem Chip.setSink_grain : (c.setSink n x).grain = c.grain := rfl
@[simp] theorem Chip.setSink_sealx : (c.setSink n x).sealx = c.sealx := rfl
@[simp] theorem Chip.setSink_entBegun : (c.setSink n x).entBegun = c.entBegun := rfl
@[simp] theorem Chip.setSink_entDone : (c.setSink n x).entDone = c.entDone := rfl
@[simp] theorem Chip.setSink_entEnd : (c.setSink n x).entEnd = c.entEnd := rfl
@[simp] theorem Chip.setSink_policy : (c.setSink n x).policy = c.policy := rfl
@[simp] theorem Chip.setSink_authKeys : (c.setSink n x).authKeys = c.authKeys := rfl
@[simp] theorem Chip.setSink_rd (p : Nat) : (c.setSink n x).rd p = c.rd p := rfl
@[simp] theorem Chip.setSink_fget (p : Nat) (f : Fld) : (c.setSink n x).fget p f = c.fget p f := rfl
@[simp] theorem Chip.setSink_flag (p : Nat) (f : Fld) : (c.setSink n x).flag p f = c.flag p f := rfl
end

/-! ### Chip.setEng -/

section
variable (c : Chip) (n : Nat) (x : EngX)
@[simp] theorem Chip.setEng_regs : (c.setEng n x).regs = c.regs := rfl
@[simp] theorem Chip.setEng_wo1 : (c.setEng n x).wo1 = c.wo1 := rfl
@[simp] theorem Chip.setEng_ctr : (c.setEng n x).ctr = c.ctr := rfl
@[simp] theorem Chip.setEng_latch : (c.setEng n x).latch = c.latch := rfl
@[simp] theorem Chip.setEng_stage : (c.setEng n x).stage = c.stage := rfl
@[simp] theorem Chip.setEng_fresh : (c.setEng n x).fresh = c.fresh := rfl
@[simp] theorem Chip.setEng_rtcAcc : (c.setEng n x).rtcAcc = c.rtcAcc := rfl
@[simp] theorem Chip.setEng_links : (c.setEng n x).links = c.links := rfl
@[simp] theorem Chip.setEng_bus : (c.setEng n x).bus = c.bus := rfl
@[simp] theorem Chip.setEng_resp : (c.setEng n x).resp = c.resp := rfl
@[simp] theorem Chip.setEng_evPend : (c.setEng n x).evPend = c.evPend := rfl
@[simp] theorem Chip.setEng_queues : (c.setEng n x).queues = c.queues := rfl
@[simp] theorem Chip.setEng_cores : (c.setEng n x).cores = c.cores := rfl
@[simp] theorem Chip.setEng_chans : (c.setEng n x).chans = c.chans := rfl
@[simp] theorem Chip.setEng_dies : (c.setEng n x).dies = c.dies := rfl
@[simp] theorem Chip.setEng_cants : (c.setEng n x).cants = c.cants := rfl
@[simp] theorem Chip.setEng_cmds : (c.setEng n x).cmds = c.cmds := rfl
@[simp] theorem Chip.setEng_heldComps : (c.setEng n x).heldComps = c.heldComps := rfl
@[simp] theorem Chip.setEng_sinks : (c.setEng n x).sinks = c.sinks := rfl
@[simp] theorem Chip.setEng_subp : (c.setEng n x).subp = c.subp := rfl
@[simp] theorem Chip.setEng_ledFrame : (c.setEng n x).ledFrame = c.ledFrame := rfl
@[simp] theorem Chip.setEng_flashMark : (c.setEng n x).flashMark = c.flashMark := rfl
@[simp] theorem Chip.setEng_flashOut : (c.setEng n x).flashOut = c.flashOut := rfl
@[simp] theorem Chip.setEng_flashLen : (c.setEng n x).flashLen = c.flashLen := rfl
@[simp] theorem Chip.setEng_hrStops : (c.setEng n x).hrStops = c.hrStops := rfl
@[simp] theorem Chip.setEng_ntcHist : (c.setEng n x).ntcHist = c.ntcHist := rfl
@[simp] theorem Chip.setEng_valves : (c.setEng n x).valves = c.valves := rfl
@[simp] theorem Chip.setEng_valveWait : (c.setEng n x).valveWait = c.valveWait := rfl
@[simp] theorem Chip.setEng_vboost : (c.setEng n x).vboost = c.vboost := rfl
@[simp] theorem Chip.setEng_hsInput : (c.setEng n x).hsInput = c.hsInput := rfl
@[simp] theorem Chip.setEng_vbRail : (c.setEng n x).vbRail = c.vbRail := rfl
@[simp] theorem Chip.setEng_sis : (c.setEng n x).sis = c.sis := rfl
@[simp] theorem Chip.setEng_siTick : (c.setEng n x).siTick = c.siTick := rfl
@[simp] theorem Chip.setEng_siNext : (c.setEng n x).siNext = c.siNext := rfl
@[simp] theorem Chip.setEng_siSince : (c.setEng n x).siSince = c.siSince := rfl
@[simp] theorem Chip.setEng_fps : (c.setEng n x).fps = c.fps := rfl
@[simp] theorem Chip.setEng_mbs : (c.setEng n x).mbs = c.mbs := rfl
@[simp] theorem Chip.setEng_mbx : (c.setEng n x).mbx = c.mbx := rfl
@[simp] theorem Chip.setEng_mbSel : (c.setEng n x).mbSel = c.mbSel := rfl
@[simp] theorem Chip.setEng_cans : (c.setEng n x).cans = c.cans := rfl
@[simp] theorem Chip.setEng_lins : (c.setEng n x).lins = c.lins := rfl
@[simp] theorem Chip.setEng_nm : (c.setEng n x).nm = c.nm := rfl
@[simp] theorem Chip.setEng_bypass : (c.setEng n x).bypass = c.bypass := rfl
@[simp] theorem Chip.setEng_x32 : (c.setEng n x).x32 = c.x32 := rfl
@[simp] theorem Chip.setEng_radio : (c.setEng n x).radio = c.radio := rfl
@[simp] theorem Chip.setEng_acc : (c.setEng n x).acc = c.acc := rfl
@[simp] theorem Chip.setEng_records : (c.setEng n x).records = c.records := rfl
@[simp] theorem Chip.setEng_stored : (c.setEng n x).stored = c.stored := rfl
@[simp] theorem Chip.setEng_cfg : (c.setEng n x).cfg = c.cfg := rfl
@[simp] theorem Chip.setEng_modex : (c.setEng n x).modex = c.modex := rfl
@[simp] theorem Chip.setEng_upd : (c.setEng n x).upd = c.upd := rfl
@[simp] theorem Chip.setEng_quotas : (c.setEng n x).quotas = c.quotas := rfl
@[simp] theorem Chip.setEng_hsp : (c.setEng n x).hsp = c.hsp := rfl
@[simp] theorem Chip.setEng_loads : (c.setEng n x).loads = c.loads := rfl
@[simp] theorem Chip.setEng_grain : (c.setEng n x).grain = c.grain := rfl
@[simp] theorem Chip.setEng_sealx : (c.setEng n x).sealx = c.sealx := rfl
@[simp] theorem Chip.setEng_entBegun : (c.setEng n x).entBegun = c.entBegun := rfl
@[simp] theorem Chip.setEng_entDone : (c.setEng n x).entDone = c.entDone := rfl
@[simp] theorem Chip.setEng_entEnd : (c.setEng n x).entEnd = c.entEnd := rfl
@[simp] theorem Chip.setEng_policy : (c.setEng n x).policy = c.policy := rfl
@[simp] theorem Chip.setEng_authKeys : (c.setEng n x).authKeys = c.authKeys := rfl
@[simp] theorem Chip.setEng_rd (p : Nat) : (c.setEng n x).rd p = c.rd p := rfl
@[simp] theorem Chip.setEng_fget (p : Nat) (f : Fld) : (c.setEng n x).fget p f = c.fget p f := rfl
@[simp] theorem Chip.setEng_flag (p : Nat) (f : Fld) : (c.setEng n x).flag p f = c.flag p f := rfl
end

/-! ### Chip.setValve -/

section
variable (c : Chip) (v : Nat) (x : ValveX)
@[simp] theorem Chip.setValve_regs : (c.setValve v x).regs = c.regs := rfl
@[simp] theorem Chip.setValve_wo1 : (c.setValve v x).wo1 = c.wo1 := rfl
@[simp] theorem Chip.setValve_ctr : (c.setValve v x).ctr = c.ctr := rfl
@[simp] theorem Chip.setValve_latch : (c.setValve v x).latch = c.latch := rfl
@[simp] theorem Chip.setValve_stage : (c.setValve v x).stage = c.stage := rfl
@[simp] theorem Chip.setValve_fresh : (c.setValve v x).fresh = c.fresh := rfl
@[simp] theorem Chip.setValve_rtcAcc : (c.setValve v x).rtcAcc = c.rtcAcc := rfl
@[simp] theorem Chip.setValve_links : (c.setValve v x).links = c.links := rfl
@[simp] theorem Chip.setValve_bus : (c.setValve v x).bus = c.bus := rfl
@[simp] theorem Chip.setValve_resp : (c.setValve v x).resp = c.resp := rfl
@[simp] theorem Chip.setValve_evPend : (c.setValve v x).evPend = c.evPend := rfl
@[simp] theorem Chip.setValve_queues : (c.setValve v x).queues = c.queues := rfl
@[simp] theorem Chip.setValve_cores : (c.setValve v x).cores = c.cores := rfl
@[simp] theorem Chip.setValve_chans : (c.setValve v x).chans = c.chans := rfl
@[simp] theorem Chip.setValve_dies : (c.setValve v x).dies = c.dies := rfl
@[simp] theorem Chip.setValve_cants : (c.setValve v x).cants = c.cants := rfl
@[simp] theorem Chip.setValve_cmds : (c.setValve v x).cmds = c.cmds := rfl
@[simp] theorem Chip.setValve_heldComps : (c.setValve v x).heldComps = c.heldComps := rfl
@[simp] theorem Chip.setValve_sinks : (c.setValve v x).sinks = c.sinks := rfl
@[simp] theorem Chip.setValve_subp : (c.setValve v x).subp = c.subp := rfl
@[simp] theorem Chip.setValve_ledFrame : (c.setValve v x).ledFrame = c.ledFrame := rfl
@[simp] theorem Chip.setValve_engines : (c.setValve v x).engines = c.engines := rfl
@[simp] theorem Chip.setValve_flashMark : (c.setValve v x).flashMark = c.flashMark := rfl
@[simp] theorem Chip.setValve_flashOut : (c.setValve v x).flashOut = c.flashOut := rfl
@[simp] theorem Chip.setValve_flashLen : (c.setValve v x).flashLen = c.flashLen := rfl
@[simp] theorem Chip.setValve_hrStops : (c.setValve v x).hrStops = c.hrStops := rfl
@[simp] theorem Chip.setValve_ntcHist : (c.setValve v x).ntcHist = c.ntcHist := rfl
@[simp] theorem Chip.setValve_valveWait : (c.setValve v x).valveWait = c.valveWait := rfl
@[simp] theorem Chip.setValve_vboost : (c.setValve v x).vboost = c.vboost := rfl
@[simp] theorem Chip.setValve_hsInput : (c.setValve v x).hsInput = c.hsInput := rfl
@[simp] theorem Chip.setValve_vbRail : (c.setValve v x).vbRail = c.vbRail := rfl
@[simp] theorem Chip.setValve_sis : (c.setValve v x).sis = c.sis := rfl
@[simp] theorem Chip.setValve_siTick : (c.setValve v x).siTick = c.siTick := rfl
@[simp] theorem Chip.setValve_siNext : (c.setValve v x).siNext = c.siNext := rfl
@[simp] theorem Chip.setValve_siSince : (c.setValve v x).siSince = c.siSince := rfl
@[simp] theorem Chip.setValve_fps : (c.setValve v x).fps = c.fps := rfl
@[simp] theorem Chip.setValve_mbs : (c.setValve v x).mbs = c.mbs := rfl
@[simp] theorem Chip.setValve_mbx : (c.setValve v x).mbx = c.mbx := rfl
@[simp] theorem Chip.setValve_mbSel : (c.setValve v x).mbSel = c.mbSel := rfl
@[simp] theorem Chip.setValve_cans : (c.setValve v x).cans = c.cans := rfl
@[simp] theorem Chip.setValve_lins : (c.setValve v x).lins = c.lins := rfl
@[simp] theorem Chip.setValve_nm : (c.setValve v x).nm = c.nm := rfl
@[simp] theorem Chip.setValve_bypass : (c.setValve v x).bypass = c.bypass := rfl
@[simp] theorem Chip.setValve_x32 : (c.setValve v x).x32 = c.x32 := rfl
@[simp] theorem Chip.setValve_radio : (c.setValve v x).radio = c.radio := rfl
@[simp] theorem Chip.setValve_acc : (c.setValve v x).acc = c.acc := rfl
@[simp] theorem Chip.setValve_records : (c.setValve v x).records = c.records := rfl
@[simp] theorem Chip.setValve_stored : (c.setValve v x).stored = c.stored := rfl
@[simp] theorem Chip.setValve_cfg : (c.setValve v x).cfg = c.cfg := rfl
@[simp] theorem Chip.setValve_modex : (c.setValve v x).modex = c.modex := rfl
@[simp] theorem Chip.setValve_upd : (c.setValve v x).upd = c.upd := rfl
@[simp] theorem Chip.setValve_quotas : (c.setValve v x).quotas = c.quotas := rfl
@[simp] theorem Chip.setValve_hsp : (c.setValve v x).hsp = c.hsp := rfl
@[simp] theorem Chip.setValve_loads : (c.setValve v x).loads = c.loads := rfl
@[simp] theorem Chip.setValve_grain : (c.setValve v x).grain = c.grain := rfl
@[simp] theorem Chip.setValve_sealx : (c.setValve v x).sealx = c.sealx := rfl
@[simp] theorem Chip.setValve_entBegun : (c.setValve v x).entBegun = c.entBegun := rfl
@[simp] theorem Chip.setValve_entDone : (c.setValve v x).entDone = c.entDone := rfl
@[simp] theorem Chip.setValve_entEnd : (c.setValve v x).entEnd = c.entEnd := rfl
@[simp] theorem Chip.setValve_policy : (c.setValve v x).policy = c.policy := rfl
@[simp] theorem Chip.setValve_authKeys : (c.setValve v x).authKeys = c.authKeys := rfl
@[simp] theorem Chip.setValve_rd (p : Nat) : (c.setValve v x).rd p = c.rd p := rfl
@[simp] theorem Chip.setValve_fget (p : Nat) (f : Fld) : (c.setValve v x).fget p f = c.fget p f := rfl
@[simp] theorem Chip.setValve_flag (p : Nat) (f : Fld) : (c.setValve v x).flag p f = c.flag p f := rfl
end

/-! ### Chip.setVWaiting -/

section
variable (c : Chip) (n : Nat) (l : List Nat)
@[simp] theorem Chip.setVWaiting_regs : (c.setVWaiting n l).regs = c.regs := rfl
@[simp] theorem Chip.setVWaiting_wo1 : (c.setVWaiting n l).wo1 = c.wo1 := rfl
@[simp] theorem Chip.setVWaiting_ctr : (c.setVWaiting n l).ctr = c.ctr := rfl
@[simp] theorem Chip.setVWaiting_latch : (c.setVWaiting n l).latch = c.latch := rfl
@[simp] theorem Chip.setVWaiting_stage : (c.setVWaiting n l).stage = c.stage := rfl
@[simp] theorem Chip.setVWaiting_fresh : (c.setVWaiting n l).fresh = c.fresh := rfl
@[simp] theorem Chip.setVWaiting_rtcAcc : (c.setVWaiting n l).rtcAcc = c.rtcAcc := rfl
@[simp] theorem Chip.setVWaiting_links : (c.setVWaiting n l).links = c.links := rfl
@[simp] theorem Chip.setVWaiting_bus : (c.setVWaiting n l).bus = c.bus := rfl
@[simp] theorem Chip.setVWaiting_resp : (c.setVWaiting n l).resp = c.resp := rfl
@[simp] theorem Chip.setVWaiting_evPend : (c.setVWaiting n l).evPend = c.evPend := rfl
@[simp] theorem Chip.setVWaiting_queues : (c.setVWaiting n l).queues = c.queues := rfl
@[simp] theorem Chip.setVWaiting_cores : (c.setVWaiting n l).cores = c.cores := rfl
@[simp] theorem Chip.setVWaiting_chans : (c.setVWaiting n l).chans = c.chans := rfl
@[simp] theorem Chip.setVWaiting_dies : (c.setVWaiting n l).dies = c.dies := rfl
@[simp] theorem Chip.setVWaiting_cants : (c.setVWaiting n l).cants = c.cants := rfl
@[simp] theorem Chip.setVWaiting_cmds : (c.setVWaiting n l).cmds = c.cmds := rfl
@[simp] theorem Chip.setVWaiting_heldComps : (c.setVWaiting n l).heldComps = c.heldComps := rfl
@[simp] theorem Chip.setVWaiting_sinks : (c.setVWaiting n l).sinks = c.sinks := rfl
@[simp] theorem Chip.setVWaiting_subp : (c.setVWaiting n l).subp = c.subp := rfl
@[simp] theorem Chip.setVWaiting_ledFrame : (c.setVWaiting n l).ledFrame = c.ledFrame := rfl
@[simp] theorem Chip.setVWaiting_engines : (c.setVWaiting n l).engines = c.engines := rfl
@[simp] theorem Chip.setVWaiting_flashMark : (c.setVWaiting n l).flashMark = c.flashMark := rfl
@[simp] theorem Chip.setVWaiting_flashOut : (c.setVWaiting n l).flashOut = c.flashOut := rfl
@[simp] theorem Chip.setVWaiting_flashLen : (c.setVWaiting n l).flashLen = c.flashLen := rfl
@[simp] theorem Chip.setVWaiting_hrStops : (c.setVWaiting n l).hrStops = c.hrStops := rfl
@[simp] theorem Chip.setVWaiting_ntcHist : (c.setVWaiting n l).ntcHist = c.ntcHist := rfl
@[simp] theorem Chip.setVWaiting_valves : (c.setVWaiting n l).valves = c.valves := rfl
@[simp] theorem Chip.setVWaiting_vboost : (c.setVWaiting n l).vboost = c.vboost := rfl
@[simp] theorem Chip.setVWaiting_hsInput : (c.setVWaiting n l).hsInput = c.hsInput := rfl
@[simp] theorem Chip.setVWaiting_vbRail : (c.setVWaiting n l).vbRail = c.vbRail := rfl
@[simp] theorem Chip.setVWaiting_sis : (c.setVWaiting n l).sis = c.sis := rfl
@[simp] theorem Chip.setVWaiting_siTick : (c.setVWaiting n l).siTick = c.siTick := rfl
@[simp] theorem Chip.setVWaiting_siNext : (c.setVWaiting n l).siNext = c.siNext := rfl
@[simp] theorem Chip.setVWaiting_siSince : (c.setVWaiting n l).siSince = c.siSince := rfl
@[simp] theorem Chip.setVWaiting_fps : (c.setVWaiting n l).fps = c.fps := rfl
@[simp] theorem Chip.setVWaiting_mbs : (c.setVWaiting n l).mbs = c.mbs := rfl
@[simp] theorem Chip.setVWaiting_mbx : (c.setVWaiting n l).mbx = c.mbx := rfl
@[simp] theorem Chip.setVWaiting_mbSel : (c.setVWaiting n l).mbSel = c.mbSel := rfl
@[simp] theorem Chip.setVWaiting_cans : (c.setVWaiting n l).cans = c.cans := rfl
@[simp] theorem Chip.setVWaiting_lins : (c.setVWaiting n l).lins = c.lins := rfl
@[simp] theorem Chip.setVWaiting_nm : (c.setVWaiting n l).nm = c.nm := rfl
@[simp] theorem Chip.setVWaiting_bypass : (c.setVWaiting n l).bypass = c.bypass := rfl
@[simp] theorem Chip.setVWaiting_x32 : (c.setVWaiting n l).x32 = c.x32 := rfl
@[simp] theorem Chip.setVWaiting_radio : (c.setVWaiting n l).radio = c.radio := rfl
@[simp] theorem Chip.setVWaiting_acc : (c.setVWaiting n l).acc = c.acc := rfl
@[simp] theorem Chip.setVWaiting_records : (c.setVWaiting n l).records = c.records := rfl
@[simp] theorem Chip.setVWaiting_stored : (c.setVWaiting n l).stored = c.stored := rfl
@[simp] theorem Chip.setVWaiting_cfg : (c.setVWaiting n l).cfg = c.cfg := rfl
@[simp] theorem Chip.setVWaiting_modex : (c.setVWaiting n l).modex = c.modex := rfl
@[simp] theorem Chip.setVWaiting_upd : (c.setVWaiting n l).upd = c.upd := rfl
@[simp] theorem Chip.setVWaiting_quotas : (c.setVWaiting n l).quotas = c.quotas := rfl
@[simp] theorem Chip.setVWaiting_hsp : (c.setVWaiting n l).hsp = c.hsp := rfl
@[simp] theorem Chip.setVWaiting_loads : (c.setVWaiting n l).loads = c.loads := rfl
@[simp] theorem Chip.setVWaiting_grain : (c.setVWaiting n l).grain = c.grain := rfl
@[simp] theorem Chip.setVWaiting_sealx : (c.setVWaiting n l).sealx = c.sealx := rfl
@[simp] theorem Chip.setVWaiting_entBegun : (c.setVWaiting n l).entBegun = c.entBegun := rfl
@[simp] theorem Chip.setVWaiting_entDone : (c.setVWaiting n l).entDone = c.entDone := rfl
@[simp] theorem Chip.setVWaiting_entEnd : (c.setVWaiting n l).entEnd = c.entEnd := rfl
@[simp] theorem Chip.setVWaiting_policy : (c.setVWaiting n l).policy = c.policy := rfl
@[simp] theorem Chip.setVWaiting_authKeys : (c.setVWaiting n l).authKeys = c.authKeys := rfl
@[simp] theorem Chip.setVWaiting_rd (p : Nat) : (c.setVWaiting n l).rd p = c.rd p := rfl
@[simp] theorem Chip.setVWaiting_fget (p : Nat) (f : Fld) : (c.setVWaiting n l).fget p f = c.fget p f := rfl
@[simp] theorem Chip.setVWaiting_flag (p : Nat) (f : Fld) : (c.setVWaiting n l).flag p f = c.flag p f := rfl
end

/-! ### Chip.setSi -/

section
variable (c : Chip) (i : Nat) (x : SiX)
@[simp] theorem Chip.setSi_regs : (c.setSi i x).regs = c.regs := rfl
@[simp] theorem Chip.setSi_wo1 : (c.setSi i x).wo1 = c.wo1 := rfl
@[simp] theorem Chip.setSi_ctr : (c.setSi i x).ctr = c.ctr := rfl
@[simp] theorem Chip.setSi_latch : (c.setSi i x).latch = c.latch := rfl
@[simp] theorem Chip.setSi_stage : (c.setSi i x).stage = c.stage := rfl
@[simp] theorem Chip.setSi_fresh : (c.setSi i x).fresh = c.fresh := rfl
@[simp] theorem Chip.setSi_rtcAcc : (c.setSi i x).rtcAcc = c.rtcAcc := rfl
@[simp] theorem Chip.setSi_links : (c.setSi i x).links = c.links := rfl
@[simp] theorem Chip.setSi_bus : (c.setSi i x).bus = c.bus := rfl
@[simp] theorem Chip.setSi_resp : (c.setSi i x).resp = c.resp := rfl
@[simp] theorem Chip.setSi_evPend : (c.setSi i x).evPend = c.evPend := rfl
@[simp] theorem Chip.setSi_queues : (c.setSi i x).queues = c.queues := rfl
@[simp] theorem Chip.setSi_cores : (c.setSi i x).cores = c.cores := rfl
@[simp] theorem Chip.setSi_chans : (c.setSi i x).chans = c.chans := rfl
@[simp] theorem Chip.setSi_dies : (c.setSi i x).dies = c.dies := rfl
@[simp] theorem Chip.setSi_cants : (c.setSi i x).cants = c.cants := rfl
@[simp] theorem Chip.setSi_cmds : (c.setSi i x).cmds = c.cmds := rfl
@[simp] theorem Chip.setSi_heldComps : (c.setSi i x).heldComps = c.heldComps := rfl
@[simp] theorem Chip.setSi_sinks : (c.setSi i x).sinks = c.sinks := rfl
@[simp] theorem Chip.setSi_subp : (c.setSi i x).subp = c.subp := rfl
@[simp] theorem Chip.setSi_ledFrame : (c.setSi i x).ledFrame = c.ledFrame := rfl
@[simp] theorem Chip.setSi_engines : (c.setSi i x).engines = c.engines := rfl
@[simp] theorem Chip.setSi_flashMark : (c.setSi i x).flashMark = c.flashMark := rfl
@[simp] theorem Chip.setSi_flashOut : (c.setSi i x).flashOut = c.flashOut := rfl
@[simp] theorem Chip.setSi_flashLen : (c.setSi i x).flashLen = c.flashLen := rfl
@[simp] theorem Chip.setSi_hrStops : (c.setSi i x).hrStops = c.hrStops := rfl
@[simp] theorem Chip.setSi_ntcHist : (c.setSi i x).ntcHist = c.ntcHist := rfl
@[simp] theorem Chip.setSi_valves : (c.setSi i x).valves = c.valves := rfl
@[simp] theorem Chip.setSi_valveWait : (c.setSi i x).valveWait = c.valveWait := rfl
@[simp] theorem Chip.setSi_vboost : (c.setSi i x).vboost = c.vboost := rfl
@[simp] theorem Chip.setSi_hsInput : (c.setSi i x).hsInput = c.hsInput := rfl
@[simp] theorem Chip.setSi_vbRail : (c.setSi i x).vbRail = c.vbRail := rfl
@[simp] theorem Chip.setSi_siTick : (c.setSi i x).siTick = c.siTick := rfl
@[simp] theorem Chip.setSi_siNext : (c.setSi i x).siNext = c.siNext := rfl
@[simp] theorem Chip.setSi_siSince : (c.setSi i x).siSince = c.siSince := rfl
@[simp] theorem Chip.setSi_fps : (c.setSi i x).fps = c.fps := rfl
@[simp] theorem Chip.setSi_mbs : (c.setSi i x).mbs = c.mbs := rfl
@[simp] theorem Chip.setSi_mbx : (c.setSi i x).mbx = c.mbx := rfl
@[simp] theorem Chip.setSi_mbSel : (c.setSi i x).mbSel = c.mbSel := rfl
@[simp] theorem Chip.setSi_cans : (c.setSi i x).cans = c.cans := rfl
@[simp] theorem Chip.setSi_lins : (c.setSi i x).lins = c.lins := rfl
@[simp] theorem Chip.setSi_nm : (c.setSi i x).nm = c.nm := rfl
@[simp] theorem Chip.setSi_bypass : (c.setSi i x).bypass = c.bypass := rfl
@[simp] theorem Chip.setSi_x32 : (c.setSi i x).x32 = c.x32 := rfl
@[simp] theorem Chip.setSi_radio : (c.setSi i x).radio = c.radio := rfl
@[simp] theorem Chip.setSi_acc : (c.setSi i x).acc = c.acc := rfl
@[simp] theorem Chip.setSi_records : (c.setSi i x).records = c.records := rfl
@[simp] theorem Chip.setSi_stored : (c.setSi i x).stored = c.stored := rfl
@[simp] theorem Chip.setSi_cfg : (c.setSi i x).cfg = c.cfg := rfl
@[simp] theorem Chip.setSi_modex : (c.setSi i x).modex = c.modex := rfl
@[simp] theorem Chip.setSi_upd : (c.setSi i x).upd = c.upd := rfl
@[simp] theorem Chip.setSi_quotas : (c.setSi i x).quotas = c.quotas := rfl
@[simp] theorem Chip.setSi_hsp : (c.setSi i x).hsp = c.hsp := rfl
@[simp] theorem Chip.setSi_loads : (c.setSi i x).loads = c.loads := rfl
@[simp] theorem Chip.setSi_grain : (c.setSi i x).grain = c.grain := rfl
@[simp] theorem Chip.setSi_sealx : (c.setSi i x).sealx = c.sealx := rfl
@[simp] theorem Chip.setSi_entBegun : (c.setSi i x).entBegun = c.entBegun := rfl
@[simp] theorem Chip.setSi_entDone : (c.setSi i x).entDone = c.entDone := rfl
@[simp] theorem Chip.setSi_entEnd : (c.setSi i x).entEnd = c.entEnd := rfl
@[simp] theorem Chip.setSi_policy : (c.setSi i x).policy = c.policy := rfl
@[simp] theorem Chip.setSi_authKeys : (c.setSi i x).authKeys = c.authKeys := rfl
@[simp] theorem Chip.setSi_rd (p : Nat) : (c.setSi i x).rd p = c.rd p := rfl
@[simp] theorem Chip.setSi_fget (p : Nat) (f : Fld) : (c.setSi i x).fget p f = c.fget p f := rfl
@[simp] theorem Chip.setSi_flag (p : Nat) (f : Fld) : (c.setSi i x).flag p f = c.flag p f := rfl
end

/-! ### Chip.setFp -/

section
variable (c : Chip) (p : Nat) (x : FpX)
@[simp] theorem Chip.setFp_regs : (c.setFp p x).regs = c.regs := rfl
@[simp] theorem Chip.setFp_wo1 : (c.setFp p x).wo1 = c.wo1 := rfl
@[simp] theorem Chip.setFp_ctr : (c.setFp p x).ctr = c.ctr := rfl
@[simp] theorem Chip.setFp_latch : (c.setFp p x).latch = c.latch := rfl
@[simp] theorem Chip.setFp_stage : (c.setFp p x).stage = c.stage := rfl
@[simp] theorem Chip.setFp_fresh : (c.setFp p x).fresh = c.fresh := rfl
@[simp] theorem Chip.setFp_rtcAcc : (c.setFp p x).rtcAcc = c.rtcAcc := rfl
@[simp] theorem Chip.setFp_links : (c.setFp p x).links = c.links := rfl
@[simp] theorem Chip.setFp_bus : (c.setFp p x).bus = c.bus := rfl
@[simp] theorem Chip.setFp_resp : (c.setFp p x).resp = c.resp := rfl
@[simp] theorem Chip.setFp_evPend : (c.setFp p x).evPend = c.evPend := rfl
@[simp] theorem Chip.setFp_queues : (c.setFp p x).queues = c.queues := rfl
@[simp] theorem Chip.setFp_cores : (c.setFp p x).cores = c.cores := rfl
@[simp] theorem Chip.setFp_chans : (c.setFp p x).chans = c.chans := rfl
@[simp] theorem Chip.setFp_dies : (c.setFp p x).dies = c.dies := rfl
@[simp] theorem Chip.setFp_cants : (c.setFp p x).cants = c.cants := rfl
@[simp] theorem Chip.setFp_cmds : (c.setFp p x).cmds = c.cmds := rfl
@[simp] theorem Chip.setFp_heldComps : (c.setFp p x).heldComps = c.heldComps := rfl
@[simp] theorem Chip.setFp_sinks : (c.setFp p x).sinks = c.sinks := rfl
@[simp] theorem Chip.setFp_subp : (c.setFp p x).subp = c.subp := rfl
@[simp] theorem Chip.setFp_ledFrame : (c.setFp p x).ledFrame = c.ledFrame := rfl
@[simp] theorem Chip.setFp_engines : (c.setFp p x).engines = c.engines := rfl
@[simp] theorem Chip.setFp_flashMark : (c.setFp p x).flashMark = c.flashMark := rfl
@[simp] theorem Chip.setFp_flashOut : (c.setFp p x).flashOut = c.flashOut := rfl
@[simp] theorem Chip.setFp_flashLen : (c.setFp p x).flashLen = c.flashLen := rfl
@[simp] theorem Chip.setFp_hrStops : (c.setFp p x).hrStops = c.hrStops := rfl
@[simp] theorem Chip.setFp_ntcHist : (c.setFp p x).ntcHist = c.ntcHist := rfl
@[simp] theorem Chip.setFp_valves : (c.setFp p x).valves = c.valves := rfl
@[simp] theorem Chip.setFp_valveWait : (c.setFp p x).valveWait = c.valveWait := rfl
@[simp] theorem Chip.setFp_vboost : (c.setFp p x).vboost = c.vboost := rfl
@[simp] theorem Chip.setFp_hsInput : (c.setFp p x).hsInput = c.hsInput := rfl
@[simp] theorem Chip.setFp_vbRail : (c.setFp p x).vbRail = c.vbRail := rfl
@[simp] theorem Chip.setFp_sis : (c.setFp p x).sis = c.sis := rfl
@[simp] theorem Chip.setFp_siTick : (c.setFp p x).siTick = c.siTick := rfl
@[simp] theorem Chip.setFp_siNext : (c.setFp p x).siNext = c.siNext := rfl
@[simp] theorem Chip.setFp_siSince : (c.setFp p x).siSince = c.siSince := rfl
@[simp] theorem Chip.setFp_mbs : (c.setFp p x).mbs = c.mbs := rfl
@[simp] theorem Chip.setFp_mbx : (c.setFp p x).mbx = c.mbx := rfl
@[simp] theorem Chip.setFp_mbSel : (c.setFp p x).mbSel = c.mbSel := rfl
@[simp] theorem Chip.setFp_cans : (c.setFp p x).cans = c.cans := rfl
@[simp] theorem Chip.setFp_lins : (c.setFp p x).lins = c.lins := rfl
@[simp] theorem Chip.setFp_nm : (c.setFp p x).nm = c.nm := rfl
@[simp] theorem Chip.setFp_bypass : (c.setFp p x).bypass = c.bypass := rfl
@[simp] theorem Chip.setFp_x32 : (c.setFp p x).x32 = c.x32 := rfl
@[simp] theorem Chip.setFp_radio : (c.setFp p x).radio = c.radio := rfl
@[simp] theorem Chip.setFp_acc : (c.setFp p x).acc = c.acc := rfl
@[simp] theorem Chip.setFp_records : (c.setFp p x).records = c.records := rfl
@[simp] theorem Chip.setFp_stored : (c.setFp p x).stored = c.stored := rfl
@[simp] theorem Chip.setFp_cfg : (c.setFp p x).cfg = c.cfg := rfl
@[simp] theorem Chip.setFp_modex : (c.setFp p x).modex = c.modex := rfl
@[simp] theorem Chip.setFp_upd : (c.setFp p x).upd = c.upd := rfl
@[simp] theorem Chip.setFp_quotas : (c.setFp p x).quotas = c.quotas := rfl
@[simp] theorem Chip.setFp_hsp : (c.setFp p x).hsp = c.hsp := rfl
@[simp] theorem Chip.setFp_loads : (c.setFp p x).loads = c.loads := rfl
@[simp] theorem Chip.setFp_grain : (c.setFp p x).grain = c.grain := rfl
@[simp] theorem Chip.setFp_sealx : (c.setFp p x).sealx = c.sealx := rfl
@[simp] theorem Chip.setFp_entBegun : (c.setFp p x).entBegun = c.entBegun := rfl
@[simp] theorem Chip.setFp_entDone : (c.setFp p x).entDone = c.entDone := rfl
@[simp] theorem Chip.setFp_entEnd : (c.setFp p x).entEnd = c.entEnd := rfl
@[simp] theorem Chip.setFp_policy : (c.setFp p x).policy = c.policy := rfl
@[simp] theorem Chip.setFp_authKeys : (c.setFp p x).authKeys = c.authKeys := rfl
@[simp] theorem Chip.setFp_rd (p : Nat) : (c.setFp p x).rd p = c.rd p := rfl
@[simp] theorem Chip.setFp_fget (p : Nat) (f : Fld) : (c.setFp p x).fget p f = c.fget p f := rfl
@[simp] theorem Chip.setFp_flag (p : Nat) (f : Fld) : (c.setFp p x).flag p f = c.flag p f := rfl
end

/-! ### Chip.setMbWord -/

section
variable (c : Chip) (n b w : Nat) (x : Word)
@[simp] theorem Chip.setMbWord_regs : (c.setMbWord n b w x).regs = c.regs := rfl
@[simp] theorem Chip.setMbWord_wo1 : (c.setMbWord n b w x).wo1 = c.wo1 := rfl
@[simp] theorem Chip.setMbWord_ctr : (c.setMbWord n b w x).ctr = c.ctr := rfl
@[simp] theorem Chip.setMbWord_latch : (c.setMbWord n b w x).latch = c.latch := rfl
@[simp] theorem Chip.setMbWord_stage : (c.setMbWord n b w x).stage = c.stage := rfl
@[simp] theorem Chip.setMbWord_fresh : (c.setMbWord n b w x).fresh = c.fresh := rfl
@[simp] theorem Chip.setMbWord_rtcAcc : (c.setMbWord n b w x).rtcAcc = c.rtcAcc := rfl
@[simp] theorem Chip.setMbWord_links : (c.setMbWord n b w x).links = c.links := rfl
@[simp] theorem Chip.setMbWord_bus : (c.setMbWord n b w x).bus = c.bus := rfl
@[simp] theorem Chip.setMbWord_resp : (c.setMbWord n b w x).resp = c.resp := rfl
@[simp] theorem Chip.setMbWord_evPend : (c.setMbWord n b w x).evPend = c.evPend := rfl
@[simp] theorem Chip.setMbWord_queues : (c.setMbWord n b w x).queues = c.queues := rfl
@[simp] theorem Chip.setMbWord_cores : (c.setMbWord n b w x).cores = c.cores := rfl
@[simp] theorem Chip.setMbWord_chans : (c.setMbWord n b w x).chans = c.chans := rfl
@[simp] theorem Chip.setMbWord_dies : (c.setMbWord n b w x).dies = c.dies := rfl
@[simp] theorem Chip.setMbWord_cants : (c.setMbWord n b w x).cants = c.cants := rfl
@[simp] theorem Chip.setMbWord_cmds : (c.setMbWord n b w x).cmds = c.cmds := rfl
@[simp] theorem Chip.setMbWord_heldComps : (c.setMbWord n b w x).heldComps = c.heldComps := rfl
@[simp] theorem Chip.setMbWord_sinks : (c.setMbWord n b w x).sinks = c.sinks := rfl
@[simp] theorem Chip.setMbWord_subp : (c.setMbWord n b w x).subp = c.subp := rfl
@[simp] theorem Chip.setMbWord_ledFrame : (c.setMbWord n b w x).ledFrame = c.ledFrame := rfl
@[simp] theorem Chip.setMbWord_engines : (c.setMbWord n b w x).engines = c.engines := rfl
@[simp] theorem Chip.setMbWord_flashMark : (c.setMbWord n b w x).flashMark = c.flashMark := rfl
@[simp] theorem Chip.setMbWord_flashOut : (c.setMbWord n b w x).flashOut = c.flashOut := rfl
@[simp] theorem Chip.setMbWord_flashLen : (c.setMbWord n b w x).flashLen = c.flashLen := rfl
@[simp] theorem Chip.setMbWord_hrStops : (c.setMbWord n b w x).hrStops = c.hrStops := rfl
@[simp] theorem Chip.setMbWord_ntcHist : (c.setMbWord n b w x).ntcHist = c.ntcHist := rfl
@[simp] theorem Chip.setMbWord_valves : (c.setMbWord n b w x).valves = c.valves := rfl
@[simp] theorem Chip.setMbWord_valveWait : (c.setMbWord n b w x).valveWait = c.valveWait := rfl
@[simp] theorem Chip.setMbWord_vboost : (c.setMbWord n b w x).vboost = c.vboost := rfl
@[simp] theorem Chip.setMbWord_hsInput : (c.setMbWord n b w x).hsInput = c.hsInput := rfl
@[simp] theorem Chip.setMbWord_vbRail : (c.setMbWord n b w x).vbRail = c.vbRail := rfl
@[simp] theorem Chip.setMbWord_sis : (c.setMbWord n b w x).sis = c.sis := rfl
@[simp] theorem Chip.setMbWord_siTick : (c.setMbWord n b w x).siTick = c.siTick := rfl
@[simp] theorem Chip.setMbWord_siNext : (c.setMbWord n b w x).siNext = c.siNext := rfl
@[simp] theorem Chip.setMbWord_siSince : (c.setMbWord n b w x).siSince = c.siSince := rfl
@[simp] theorem Chip.setMbWord_fps : (c.setMbWord n b w x).fps = c.fps := rfl
@[simp] theorem Chip.setMbWord_mbx : (c.setMbWord n b w x).mbx = c.mbx := rfl
@[simp] theorem Chip.setMbWord_mbSel : (c.setMbWord n b w x).mbSel = c.mbSel := rfl
@[simp] theorem Chip.setMbWord_cans : (c.setMbWord n b w x).cans = c.cans := rfl
@[simp] theorem Chip.setMbWord_lins : (c.setMbWord n b w x).lins = c.lins := rfl
@[simp] theorem Chip.setMbWord_nm : (c.setMbWord n b w x).nm = c.nm := rfl
@[simp] theorem Chip.setMbWord_bypass : (c.setMbWord n b w x).bypass = c.bypass := rfl
@[simp] theorem Chip.setMbWord_x32 : (c.setMbWord n b w x).x32 = c.x32 := rfl
@[simp] theorem Chip.setMbWord_radio : (c.setMbWord n b w x).radio = c.radio := rfl
@[simp] theorem Chip.setMbWord_acc : (c.setMbWord n b w x).acc = c.acc := rfl
@[simp] theorem Chip.setMbWord_records : (c.setMbWord n b w x).records = c.records := rfl
@[simp] theorem Chip.setMbWord_stored : (c.setMbWord n b w x).stored = c.stored := rfl
@[simp] theorem Chip.setMbWord_cfg : (c.setMbWord n b w x).cfg = c.cfg := rfl
@[simp] theorem Chip.setMbWord_modex : (c.setMbWord n b w x).modex = c.modex := rfl
@[simp] theorem Chip.setMbWord_upd : (c.setMbWord n b w x).upd = c.upd := rfl
@[simp] theorem Chip.setMbWord_quotas : (c.setMbWord n b w x).quotas = c.quotas := rfl
@[simp] theorem Chip.setMbWord_hsp : (c.setMbWord n b w x).hsp = c.hsp := rfl
@[simp] theorem Chip.setMbWord_loads : (c.setMbWord n b w x).loads = c.loads := rfl
@[simp] theorem Chip.setMbWord_grain : (c.setMbWord n b w x).grain = c.grain := rfl
@[simp] theorem Chip.setMbWord_sealx : (c.setMbWord n b w x).sealx = c.sealx := rfl
@[simp] theorem Chip.setMbWord_entBegun : (c.setMbWord n b w x).entBegun = c.entBegun := rfl
@[simp] theorem Chip.setMbWord_entDone : (c.setMbWord n b w x).entDone = c.entDone := rfl
@[simp] theorem Chip.setMbWord_entEnd : (c.setMbWord n b w x).entEnd = c.entEnd := rfl
@[simp] theorem Chip.setMbWord_policy : (c.setMbWord n b w x).policy = c.policy := rfl
@[simp] theorem Chip.setMbWord_authKeys : (c.setMbWord n b w x).authKeys = c.authKeys := rfl
@[simp] theorem Chip.setMbWord_rd (p : Nat) : (c.setMbWord n b w x).rd p = c.rd p := rfl
@[simp] theorem Chip.setMbWord_fget (p : Nat) (f : Fld) : (c.setMbWord n b w x).fget p f = c.fget p f := rfl
@[simp] theorem Chip.setMbWord_flag (p : Nat) (f : Fld) : (c.setMbWord n b w x).flag p f = c.flag p f := rfl
end

/-! ### Chip.setMbX -/

section
variable (c : Chip) (n b : Nat) (x : MbX)
@[simp] theorem Chip.setMbX_regs : (c.setMbX n b x).regs = c.regs := rfl
@[simp] theorem Chip.setMbX_wo1 : (c.setMbX n b x).wo1 = c.wo1 := rfl
@[simp] theorem Chip.setMbX_ctr : (c.setMbX n b x).ctr = c.ctr := rfl
@[simp] theorem Chip.setMbX_latch : (c.setMbX n b x).latch = c.latch := rfl
@[simp] theorem Chip.setMbX_stage : (c.setMbX n b x).stage = c.stage := rfl
@[simp] theorem Chip.setMbX_fresh : (c.setMbX n b x).fresh = c.fresh := rfl
@[simp] theorem Chip.setMbX_rtcAcc : (c.setMbX n b x).rtcAcc = c.rtcAcc := rfl
@[simp] theorem Chip.setMbX_links : (c.setMbX n b x).links = c.links := rfl
@[simp] theorem Chip.setMbX_bus : (c.setMbX n b x).bus = c.bus := rfl
@[simp] theorem Chip.setMbX_resp : (c.setMbX n b x).resp = c.resp := rfl
@[simp] theorem Chip.setMbX_evPend : (c.setMbX n b x).evPend = c.evPend := rfl
@[simp] theorem Chip.setMbX_queues : (c.setMbX n b x).queues = c.queues := rfl
@[simp] theorem Chip.setMbX_cores : (c.setMbX n b x).cores = c.cores := rfl
@[simp] theorem Chip.setMbX_chans : (c.setMbX n b x).chans = c.chans := rfl
@[simp] theorem Chip.setMbX_dies : (c.setMbX n b x).dies = c.dies := rfl
@[simp] theorem Chip.setMbX_cants : (c.setMbX n b x).cants = c.cants := rfl
@[simp] theorem Chip.setMbX_cmds : (c.setMbX n b x).cmds = c.cmds := rfl
@[simp] theorem Chip.setMbX_heldComps : (c.setMbX n b x).heldComps = c.heldComps := rfl
@[simp] theorem Chip.setMbX_sinks : (c.setMbX n b x).sinks = c.sinks := rfl
@[simp] theorem Chip.setMbX_subp : (c.setMbX n b x).subp = c.subp := rfl
@[simp] theorem Chip.setMbX_ledFrame : (c.setMbX n b x).ledFrame = c.ledFrame := rfl
@[simp] theorem Chip.setMbX_engines : (c.setMbX n b x).engines = c.engines := rfl
@[simp] theorem Chip.setMbX_flashMark : (c.setMbX n b x).flashMark = c.flashMark := rfl
@[simp] theorem Chip.setMbX_flashOut : (c.setMbX n b x).flashOut = c.flashOut := rfl
@[simp] theorem Chip.setMbX_flashLen : (c.setMbX n b x).flashLen = c.flashLen := rfl
@[simp] theorem Chip.setMbX_hrStops : (c.setMbX n b x).hrStops = c.hrStops := rfl
@[simp] theorem Chip.setMbX_ntcHist : (c.setMbX n b x).ntcHist = c.ntcHist := rfl
@[simp] theorem Chip.setMbX_valves : (c.setMbX n b x).valves = c.valves := rfl
@[simp] theorem Chip.setMbX_valveWait : (c.setMbX n b x).valveWait = c.valveWait := rfl
@[simp] theorem Chip.setMbX_vboost : (c.setMbX n b x).vboost = c.vboost := rfl
@[simp] theorem Chip.setMbX_hsInput : (c.setMbX n b x).hsInput = c.hsInput := rfl
@[simp] theorem Chip.setMbX_vbRail : (c.setMbX n b x).vbRail = c.vbRail := rfl
@[simp] theorem Chip.setMbX_sis : (c.setMbX n b x).sis = c.sis := rfl
@[simp] theorem Chip.setMbX_siTick : (c.setMbX n b x).siTick = c.siTick := rfl
@[simp] theorem Chip.setMbX_siNext : (c.setMbX n b x).siNext = c.siNext := rfl
@[simp] theorem Chip.setMbX_siSince : (c.setMbX n b x).siSince = c.siSince := rfl
@[simp] theorem Chip.setMbX_fps : (c.setMbX n b x).fps = c.fps := rfl
@[simp] theorem Chip.setMbX_mbs : (c.setMbX n b x).mbs = c.mbs := rfl
@[simp] theorem Chip.setMbX_mbSel : (c.setMbX n b x).mbSel = c.mbSel := rfl
@[simp] theorem Chip.setMbX_cans : (c.setMbX n b x).cans = c.cans := rfl
@[simp] theorem Chip.setMbX_lins : (c.setMbX n b x).lins = c.lins := rfl
@[simp] theorem Chip.setMbX_nm : (c.setMbX n b x).nm = c.nm := rfl
@[simp] theorem Chip.setMbX_bypass : (c.setMbX n b x).bypass = c.bypass := rfl
@[simp] theorem Chip.setMbX_x32 : (c.setMbX n b x).x32 = c.x32 := rfl
@[simp] theorem Chip.setMbX_radio : (c.setMbX n b x).radio = c.radio := rfl
@[simp] theorem Chip.setMbX_acc : (c.setMbX n b x).acc = c.acc := rfl
@[simp] theorem Chip.setMbX_records : (c.setMbX n b x).records = c.records := rfl
@[simp] theorem Chip.setMbX_stored : (c.setMbX n b x).stored = c.stored := rfl
@[simp] theorem Chip.setMbX_cfg : (c.setMbX n b x).cfg = c.cfg := rfl
@[simp] theorem Chip.setMbX_modex : (c.setMbX n b x).modex = c.modex := rfl
@[simp] theorem Chip.setMbX_upd : (c.setMbX n b x).upd = c.upd := rfl
@[simp] theorem Chip.setMbX_quotas : (c.setMbX n b x).quotas = c.quotas := rfl
@[simp] theorem Chip.setMbX_hsp : (c.setMbX n b x).hsp = c.hsp := rfl
@[simp] theorem Chip.setMbX_loads : (c.setMbX n b x).loads = c.loads := rfl
@[simp] theorem Chip.setMbX_grain : (c.setMbX n b x).grain = c.grain := rfl
@[simp] theorem Chip.setMbX_sealx : (c.setMbX n b x).sealx = c.sealx := rfl
@[simp] theorem Chip.setMbX_entBegun : (c.setMbX n b x).entBegun = c.entBegun := rfl
@[simp] theorem Chip.setMbX_entDone : (c.setMbX n b x).entDone = c.entDone := rfl
@[simp] theorem Chip.setMbX_entEnd : (c.setMbX n b x).entEnd = c.entEnd := rfl
@[simp] theorem Chip.setMbX_policy : (c.setMbX n b x).policy = c.policy := rfl
@[simp] theorem Chip.setMbX_authKeys : (c.setMbX n b x).authKeys = c.authKeys := rfl
@[simp] theorem Chip.setMbX_rd (p : Nat) : (c.setMbX n b x).rd p = c.rd p := rfl
@[simp] theorem Chip.setMbX_fget (p : Nat) (f : Fld) : (c.setMbX n b x).fget p f = c.fget p f := rfl
@[simp] theorem Chip.setMbX_flag (p : Nat) (f : Fld) : (c.setMbX n b x).flag p f = c.flag p f := rfl
end

/-! ### Chip.setCan -/

section
variable (c : Chip) (n : Nat) (x : CanX)
@[simp] theorem Chip.setCan_regs : (c.setCan n x).regs = c.regs := rfl
@[simp] theorem Chip.setCan_wo1 : (c.setCan n x).wo1 = c.wo1 := rfl
@[simp] theorem Chip.setCan_ctr : (c.setCan n x).ctr = c.ctr := rfl
@[simp] theorem Chip.setCan_latch : (c.setCan n x).latch = c.latch := rfl
@[simp] theorem Chip.setCan_stage : (c.setCan n x).stage = c.stage := rfl
@[simp] theorem Chip.setCan_fresh : (c.setCan n x).fresh = c.fresh := rfl
@[simp] theorem Chip.setCan_rtcAcc : (c.setCan n x).rtcAcc = c.rtcAcc := rfl
@[simp] theorem Chip.setCan_links : (c.setCan n x).links = c.links := rfl
@[simp] theorem Chip.setCan_bus : (c.setCan n x).bus = c.bus := rfl
@[simp] theorem Chip.setCan_resp : (c.setCan n x).resp = c.resp := rfl
@[simp] theorem Chip.setCan_evPend : (c.setCan n x).evPend = c.evPend := rfl
@[simp] theorem Chip.setCan_queues : (c.setCan n x).queues = c.queues := rfl
@[simp] theorem Chip.setCan_cores : (c.setCan n x).cores = c.cores := rfl
@[simp] theorem Chip.setCan_chans : (c.setCan n x).chans = c.chans := rfl
@[simp] theorem Chip.setCan_dies : (c.setCan n x).dies = c.dies := rfl
@[simp] theorem Chip.setCan_cants : (c.setCan n x).cants = c.cants := rfl
@[simp] theorem Chip.setCan_cmds : (c.setCan n x).cmds = c.cmds := rfl
@[simp] theorem Chip.setCan_heldComps : (c.setCan n x).heldComps = c.heldComps := rfl
@[simp] theorem Chip.setCan_sinks : (c.setCan n x).sinks = c.sinks := rfl
@[simp] theorem Chip.setCan_subp : (c.setCan n x).subp = c.subp := rfl
@[simp] theorem Chip.setCan_ledFrame : (c.setCan n x).ledFrame = c.ledFrame := rfl
@[simp] theorem Chip.setCan_engines : (c.setCan n x).engines = c.engines := rfl
@[simp] theorem Chip.setCan_flashMark : (c.setCan n x).flashMark = c.flashMark := rfl
@[simp] theorem Chip.setCan_flashOut : (c.setCan n x).flashOut = c.flashOut := rfl
@[simp] theorem Chip.setCan_flashLen : (c.setCan n x).flashLen = c.flashLen := rfl
@[simp] theorem Chip.setCan_hrStops : (c.setCan n x).hrStops = c.hrStops := rfl
@[simp] theorem Chip.setCan_ntcHist : (c.setCan n x).ntcHist = c.ntcHist := rfl
@[simp] theorem Chip.setCan_valves : (c.setCan n x).valves = c.valves := rfl
@[simp] theorem Chip.setCan_valveWait : (c.setCan n x).valveWait = c.valveWait := rfl
@[simp] theorem Chip.setCan_vboost : (c.setCan n x).vboost = c.vboost := rfl
@[simp] theorem Chip.setCan_hsInput : (c.setCan n x).hsInput = c.hsInput := rfl
@[simp] theorem Chip.setCan_vbRail : (c.setCan n x).vbRail = c.vbRail := rfl
@[simp] theorem Chip.setCan_sis : (c.setCan n x).sis = c.sis := rfl
@[simp] theorem Chip.setCan_siTick : (c.setCan n x).siTick = c.siTick := rfl
@[simp] theorem Chip.setCan_siNext : (c.setCan n x).siNext = c.siNext := rfl
@[simp] theorem Chip.setCan_siSince : (c.setCan n x).siSince = c.siSince := rfl
@[simp] theorem Chip.setCan_fps : (c.setCan n x).fps = c.fps := rfl
@[simp] theorem Chip.setCan_mbs : (c.setCan n x).mbs = c.mbs := rfl
@[simp] theorem Chip.setCan_mbx : (c.setCan n x).mbx = c.mbx := rfl
@[simp] theorem Chip.setCan_mbSel : (c.setCan n x).mbSel = c.mbSel := rfl
@[simp] theorem Chip.setCan_lins : (c.setCan n x).lins = c.lins := rfl
@[simp] theorem Chip.setCan_nm : (c.setCan n x).nm = c.nm := rfl
@[simp] theorem Chip.setCan_bypass : (c.setCan n x).bypass = c.bypass := rfl
@[simp] theorem Chip.setCan_x32 : (c.setCan n x).x32 = c.x32 := rfl
@[simp] theorem Chip.setCan_radio : (c.setCan n x).radio = c.radio := rfl
@[simp] theorem Chip.setCan_acc : (c.setCan n x).acc = c.acc := rfl
@[simp] theorem Chip.setCan_records : (c.setCan n x).records = c.records := rfl
@[simp] theorem Chip.setCan_stored : (c.setCan n x).stored = c.stored := rfl
@[simp] theorem Chip.setCan_cfg : (c.setCan n x).cfg = c.cfg := rfl
@[simp] theorem Chip.setCan_modex : (c.setCan n x).modex = c.modex := rfl
@[simp] theorem Chip.setCan_upd : (c.setCan n x).upd = c.upd := rfl
@[simp] theorem Chip.setCan_quotas : (c.setCan n x).quotas = c.quotas := rfl
@[simp] theorem Chip.setCan_hsp : (c.setCan n x).hsp = c.hsp := rfl
@[simp] theorem Chip.setCan_loads : (c.setCan n x).loads = c.loads := rfl
@[simp] theorem Chip.setCan_grain : (c.setCan n x).grain = c.grain := rfl
@[simp] theorem Chip.setCan_sealx : (c.setCan n x).sealx = c.sealx := rfl
@[simp] theorem Chip.setCan_entBegun : (c.setCan n x).entBegun = c.entBegun := rfl
@[simp] theorem Chip.setCan_entDone : (c.setCan n x).entDone = c.entDone := rfl
@[simp] theorem Chip.setCan_entEnd : (c.setCan n x).entEnd = c.entEnd := rfl
@[simp] theorem Chip.setCan_policy : (c.setCan n x).policy = c.policy := rfl
@[simp] theorem Chip.setCan_authKeys : (c.setCan n x).authKeys = c.authKeys := rfl
@[simp] theorem Chip.setCan_rd (p : Nat) : (c.setCan n x).rd p = c.rd p := rfl
@[simp] theorem Chip.setCan_fget (p : Nat) (f : Fld) : (c.setCan n x).fget p f = c.fget p f := rfl
@[simp] theorem Chip.setCan_flag (p : Nat) (f : Fld) : (c.setCan n x).flag p f = c.flag p f := rfl
end

/-! ### Chip.setLin -/

section
variable (c : Chip) (n : Nat) (x : LinX)
@[simp] theorem Chip.setLin_regs : (c.setLin n x).regs = c.regs := rfl
@[simp] theorem Chip.setLin_wo1 : (c.setLin n x).wo1 = c.wo1 := rfl
@[simp] theorem Chip.setLin_ctr : (c.setLin n x).ctr = c.ctr := rfl
@[simp] theorem Chip.setLin_latch : (c.setLin n x).latch = c.latch := rfl
@[simp] theorem Chip.setLin_stage : (c.setLin n x).stage = c.stage := rfl
@[simp] theorem Chip.setLin_fresh : (c.setLin n x).fresh = c.fresh := rfl
@[simp] theorem Chip.setLin_rtcAcc : (c.setLin n x).rtcAcc = c.rtcAcc := rfl
@[simp] theorem Chip.setLin_links : (c.setLin n x).links = c.links := rfl
@[simp] theorem Chip.setLin_bus : (c.setLin n x).bus = c.bus := rfl
@[simp] theorem Chip.setLin_resp : (c.setLin n x).resp = c.resp := rfl
@[simp] theorem Chip.setLin_evPend : (c.setLin n x).evPend = c.evPend := rfl
@[simp] theorem Chip.setLin_queues : (c.setLin n x).queues = c.queues := rfl
@[simp] theorem Chip.setLin_cores : (c.setLin n x).cores = c.cores := rfl
@[simp] theorem Chip.setLin_chans : (c.setLin n x).chans = c.chans := rfl
@[simp] theorem Chip.setLin_dies : (c.setLin n x).dies = c.dies := rfl
@[simp] theorem Chip.setLin_cants : (c.setLin n x).cants = c.cants := rfl
@[simp] theorem Chip.setLin_cmds : (c.setLin n x).cmds = c.cmds := rfl
@[simp] theorem Chip.setLin_heldComps : (c.setLin n x).heldComps = c.heldComps := rfl
@[simp] theorem Chip.setLin_sinks : (c.setLin n x).sinks = c.sinks := rfl
@[simp] theorem Chip.setLin_subp : (c.setLin n x).subp = c.subp := rfl
@[simp] theorem Chip.setLin_ledFrame : (c.setLin n x).ledFrame = c.ledFrame := rfl
@[simp] theorem Chip.setLin_engines : (c.setLin n x).engines = c.engines := rfl
@[simp] theorem Chip.setLin_flashMark : (c.setLin n x).flashMark = c.flashMark := rfl
@[simp] theorem Chip.setLin_flashOut : (c.setLin n x).flashOut = c.flashOut := rfl
@[simp] theorem Chip.setLin_flashLen : (c.setLin n x).flashLen = c.flashLen := rfl
@[simp] theorem Chip.setLin_hrStops : (c.setLin n x).hrStops = c.hrStops := rfl
@[simp] theorem Chip.setLin_ntcHist : (c.setLin n x).ntcHist = c.ntcHist := rfl
@[simp] theorem Chip.setLin_valves : (c.setLin n x).valves = c.valves := rfl
@[simp] theorem Chip.setLin_valveWait : (c.setLin n x).valveWait = c.valveWait := rfl
@[simp] theorem Chip.setLin_vboost : (c.setLin n x).vboost = c.vboost := rfl
@[simp] theorem Chip.setLin_hsInput : (c.setLin n x).hsInput = c.hsInput := rfl
@[simp] theorem Chip.setLin_vbRail : (c.setLin n x).vbRail = c.vbRail := rfl
@[simp] theorem Chip.setLin_sis : (c.setLin n x).sis = c.sis := rfl
@[simp] theorem Chip.setLin_siTick : (c.setLin n x).siTick = c.siTick := rfl
@[simp] theorem Chip.setLin_siNext : (c.setLin n x).siNext = c.siNext := rfl
@[simp] theorem Chip.setLin_siSince : (c.setLin n x).siSince = c.siSince := rfl
@[simp] theorem Chip.setLin_fps : (c.setLin n x).fps = c.fps := rfl
@[simp] theorem Chip.setLin_mbs : (c.setLin n x).mbs = c.mbs := rfl
@[simp] theorem Chip.setLin_mbx : (c.setLin n x).mbx = c.mbx := rfl
@[simp] theorem Chip.setLin_mbSel : (c.setLin n x).mbSel = c.mbSel := rfl
@[simp] theorem Chip.setLin_cans : (c.setLin n x).cans = c.cans := rfl
@[simp] theorem Chip.setLin_nm : (c.setLin n x).nm = c.nm := rfl
@[simp] theorem Chip.setLin_bypass : (c.setLin n x).bypass = c.bypass := rfl
@[simp] theorem Chip.setLin_x32 : (c.setLin n x).x32 = c.x32 := rfl
@[simp] theorem Chip.setLin_radio : (c.setLin n x).radio = c.radio := rfl
@[simp] theorem Chip.setLin_acc : (c.setLin n x).acc = c.acc := rfl
@[simp] theorem Chip.setLin_records : (c.setLin n x).records = c.records := rfl
@[simp] theorem Chip.setLin_stored : (c.setLin n x).stored = c.stored := rfl
@[simp] theorem Chip.setLin_cfg : (c.setLin n x).cfg = c.cfg := rfl
@[simp] theorem Chip.setLin_modex : (c.setLin n x).modex = c.modex := rfl
@[simp] theorem Chip.setLin_upd : (c.setLin n x).upd = c.upd := rfl
@[simp] theorem Chip.setLin_quotas : (c.setLin n x).quotas = c.quotas := rfl
@[simp] theorem Chip.setLin_hsp : (c.setLin n x).hsp = c.hsp := rfl
@[simp] theorem Chip.setLin_loads : (c.setLin n x).loads = c.loads := rfl
@[simp] theorem Chip.setLin_grain : (c.setLin n x).grain = c.grain := rfl
@[simp] theorem Chip.setLin_sealx : (c.setLin n x).sealx = c.sealx := rfl
@[simp] theorem Chip.setLin_entBegun : (c.setLin n x).entBegun = c.entBegun := rfl
@[simp] theorem Chip.setLin_entDone : (c.setLin n x).entDone = c.entDone := rfl
@[simp] theorem Chip.setLin_entEnd : (c.setLin n x).entEnd = c.entEnd := rfl
@[simp] theorem Chip.setLin_policy : (c.setLin n x).policy = c.policy := rfl
@[simp] theorem Chip.setLin_authKeys : (c.setLin n x).authKeys = c.authKeys := rfl
@[simp] theorem Chip.setLin_rd (p : Nat) : (c.setLin n x).rd p = c.rd p := rfl
@[simp] theorem Chip.setLin_fget (p : Nat) (f : Fld) : (c.setLin n x).fget p f = c.fget p f := rfl
@[simp] theorem Chip.setLin_flag (p : Nat) (f : Fld) : (c.setLin n x).flag p f = c.flag p f := rfl
end

/-! ### Chip.setAcc -/

section
variable (c : Chip) (x : AccX)
@[simp] theorem Chip.setAcc_regs : (c.setAcc x).regs = c.regs := rfl
@[simp] theorem Chip.setAcc_wo1 : (c.setAcc x).wo1 = c.wo1 := rfl
@[simp] theorem Chip.setAcc_ctr : (c.setAcc x).ctr = c.ctr := rfl
@[simp] theorem Chip.setAcc_latch : (c.setAcc x).latch = c.latch := rfl
@[simp] theorem Chip.setAcc_stage : (c.setAcc x).stage = c.stage := rfl
@[simp] theorem Chip.setAcc_fresh : (c.setAcc x).fresh = c.fresh := rfl
@[simp] theorem Chip.setAcc_rtcAcc : (c.setAcc x).rtcAcc = c.rtcAcc := rfl
@[simp] theorem Chip.setAcc_links : (c.setAcc x).links = c.links := rfl
@[simp] theorem Chip.setAcc_bus : (c.setAcc x).bus = c.bus := rfl
@[simp] theorem Chip.setAcc_resp : (c.setAcc x).resp = c.resp := rfl
@[simp] theorem Chip.setAcc_evPend : (c.setAcc x).evPend = c.evPend := rfl
@[simp] theorem Chip.setAcc_queues : (c.setAcc x).queues = c.queues := rfl
@[simp] theorem Chip.setAcc_cores : (c.setAcc x).cores = c.cores := rfl
@[simp] theorem Chip.setAcc_chans : (c.setAcc x).chans = c.chans := rfl
@[simp] theorem Chip.setAcc_dies : (c.setAcc x).dies = c.dies := rfl
@[simp] theorem Chip.setAcc_cants : (c.setAcc x).cants = c.cants := rfl
@[simp] theorem Chip.setAcc_cmds : (c.setAcc x).cmds = c.cmds := rfl
@[simp] theorem Chip.setAcc_heldComps : (c.setAcc x).heldComps = c.heldComps := rfl
@[simp] theorem Chip.setAcc_sinks : (c.setAcc x).sinks = c.sinks := rfl
@[simp] theorem Chip.setAcc_subp : (c.setAcc x).subp = c.subp := rfl
@[simp] theorem Chip.setAcc_ledFrame : (c.setAcc x).ledFrame = c.ledFrame := rfl
@[simp] theorem Chip.setAcc_engines : (c.setAcc x).engines = c.engines := rfl
@[simp] theorem Chip.setAcc_flashMark : (c.setAcc x).flashMark = c.flashMark := rfl
@[simp] theorem Chip.setAcc_flashOut : (c.setAcc x).flashOut = c.flashOut := rfl
@[simp] theorem Chip.setAcc_flashLen : (c.setAcc x).flashLen = c.flashLen := rfl
@[simp] theorem Chip.setAcc_hrStops : (c.setAcc x).hrStops = c.hrStops := rfl
@[simp] theorem Chip.setAcc_ntcHist : (c.setAcc x).ntcHist = c.ntcHist := rfl
@[simp] theorem Chip.setAcc_valves : (c.setAcc x).valves = c.valves := rfl
@[simp] theorem Chip.setAcc_valveWait : (c.setAcc x).valveWait = c.valveWait := rfl
@[simp] theorem Chip.setAcc_vboost : (c.setAcc x).vboost = c.vboost := rfl
@[simp] theorem Chip.setAcc_hsInput : (c.setAcc x).hsInput = c.hsInput := rfl
@[simp] theorem Chip.setAcc_vbRail : (c.setAcc x).vbRail = c.vbRail := rfl
@[simp] theorem Chip.setAcc_sis : (c.setAcc x).sis = c.sis := rfl
@[simp] theorem Chip.setAcc_siTick : (c.setAcc x).siTick = c.siTick := rfl
@[simp] theorem Chip.setAcc_siNext : (c.setAcc x).siNext = c.siNext := rfl
@[simp] theorem Chip.setAcc_siSince : (c.setAcc x).siSince = c.siSince := rfl
@[simp] theorem Chip.setAcc_fps : (c.setAcc x).fps = c.fps := rfl
@[simp] theorem Chip.setAcc_mbs : (c.setAcc x).mbs = c.mbs := rfl
@[simp] theorem Chip.setAcc_mbx : (c.setAcc x).mbx = c.mbx := rfl
@[simp] theorem Chip.setAcc_mbSel : (c.setAcc x).mbSel = c.mbSel := rfl
@[simp] theorem Chip.setAcc_cans : (c.setAcc x).cans = c.cans := rfl
@[simp] theorem Chip.setAcc_lins : (c.setAcc x).lins = c.lins := rfl
@[simp] theorem Chip.setAcc_nm : (c.setAcc x).nm = c.nm := rfl
@[simp] theorem Chip.setAcc_bypass : (c.setAcc x).bypass = c.bypass := rfl
@[simp] theorem Chip.setAcc_x32 : (c.setAcc x).x32 = c.x32 := rfl
@[simp] theorem Chip.setAcc_radio : (c.setAcc x).radio = c.radio := rfl
@[simp] theorem Chip.setAcc_records : (c.setAcc x).records = c.records := rfl
@[simp] theorem Chip.setAcc_stored : (c.setAcc x).stored = c.stored := rfl
@[simp] theorem Chip.setAcc_cfg : (c.setAcc x).cfg = c.cfg := rfl
@[simp] theorem Chip.setAcc_modex : (c.setAcc x).modex = c.modex := rfl
@[simp] theorem Chip.setAcc_upd : (c.setAcc x).upd = c.upd := rfl
@[simp] theorem Chip.setAcc_quotas : (c.setAcc x).quotas = c.quotas := rfl
@[simp] theorem Chip.setAcc_hsp : (c.setAcc x).hsp = c.hsp := rfl
@[simp] theorem Chip.setAcc_loads : (c.setAcc x).loads = c.loads := rfl
@[simp] theorem Chip.setAcc_grain : (c.setAcc x).grain = c.grain := rfl
@[simp] theorem Chip.setAcc_sealx : (c.setAcc x).sealx = c.sealx := rfl
@[simp] theorem Chip.setAcc_entBegun : (c.setAcc x).entBegun = c.entBegun := rfl
@[simp] theorem Chip.setAcc_entDone : (c.setAcc x).entDone = c.entDone := rfl
@[simp] theorem Chip.setAcc_entEnd : (c.setAcc x).entEnd = c.entEnd := rfl
@[simp] theorem Chip.setAcc_policy : (c.setAcc x).policy = c.policy := rfl
@[simp] theorem Chip.setAcc_authKeys : (c.setAcc x).authKeys = c.authKeys := rfl
@[simp] theorem Chip.setAcc_rd (p : Nat) : (c.setAcc x).rd p = c.rd p := rfl
@[simp] theorem Chip.setAcc_fget (p : Nat) (f : Fld) : (c.setAcc x).fget p f = c.fget p f := rfl
@[simp] theorem Chip.setAcc_flag (p : Nat) (f : Fld) : (c.setAcc x).flag p f = c.flag p f := rfl
@[simp] theorem Chip.setAcc_self : (c.setAcc x).acc = x := rfl
end

/-! ### Chip.setModex -/

section
variable (c : Chip) (x : ModeX)
@[simp] theorem Chip.setModex_regs : (c.setModex x).regs = c.regs := rfl
@[simp] theorem Chip.setModex_wo1 : (c.setModex x).wo1 = c.wo1 := rfl
@[simp] theorem Chip.setModex_ctr : (c.setModex x).ctr = c.ctr := rfl
@[simp] theorem Chip.setModex_latch : (c.setModex x).latch = c.latch := rfl
@[simp] theorem Chip.setModex_stage : (c.setModex x).stage = c.stage := rfl
@[simp] theorem Chip.setModex_fresh : (c.setModex x).fresh = c.fresh := rfl
@[simp] theorem Chip.setModex_rtcAcc : (c.setModex x).rtcAcc = c.rtcAcc := rfl
@[simp] theorem Chip.setModex_links : (c.setModex x).links = c.links := rfl
@[simp] theorem Chip.setModex_bus : (c.setModex x).bus = c.bus := rfl
@[simp] theorem Chip.setModex_resp : (c.setModex x).resp = c.resp := rfl
@[simp] theorem Chip.setModex_evPend : (c.setModex x).evPend = c.evPend := rfl
@[simp] theorem Chip.setModex_queues : (c.setModex x).queues = c.queues := rfl
@[simp] theorem Chip.setModex_cores : (c.setModex x).cores = c.cores := rfl
@[simp] theorem Chip.setModex_chans : (c.setModex x).chans = c.chans := rfl
@[simp] theorem Chip.setModex_dies : (c.setModex x).dies = c.dies := rfl
@[simp] theorem Chip.setModex_cants : (c.setModex x).cants = c.cants := rfl
@[simp] theorem Chip.setModex_cmds : (c.setModex x).cmds = c.cmds := rfl
@[simp] theorem Chip.setModex_heldComps : (c.setModex x).heldComps = c.heldComps := rfl
@[simp] theorem Chip.setModex_sinks : (c.setModex x).sinks = c.sinks := rfl
@[simp] theorem Chip.setModex_subp : (c.setModex x).subp = c.subp := rfl
@[simp] theorem Chip.setModex_ledFrame : (c.setModex x).ledFrame = c.ledFrame := rfl
@[simp] theorem Chip.setModex_engines : (c.setModex x).engines = c.engines := rfl
@[simp] theorem Chip.setModex_flashMark : (c.setModex x).flashMark = c.flashMark := rfl
@[simp] theorem Chip.setModex_flashOut : (c.setModex x).flashOut = c.flashOut := rfl
@[simp] theorem Chip.setModex_flashLen : (c.setModex x).flashLen = c.flashLen := rfl
@[simp] theorem Chip.setModex_hrStops : (c.setModex x).hrStops = c.hrStops := rfl
@[simp] theorem Chip.setModex_ntcHist : (c.setModex x).ntcHist = c.ntcHist := rfl
@[simp] theorem Chip.setModex_valves : (c.setModex x).valves = c.valves := rfl
@[simp] theorem Chip.setModex_valveWait : (c.setModex x).valveWait = c.valveWait := rfl
@[simp] theorem Chip.setModex_vboost : (c.setModex x).vboost = c.vboost := rfl
@[simp] theorem Chip.setModex_hsInput : (c.setModex x).hsInput = c.hsInput := rfl
@[simp] theorem Chip.setModex_vbRail : (c.setModex x).vbRail = c.vbRail := rfl
@[simp] theorem Chip.setModex_sis : (c.setModex x).sis = c.sis := rfl
@[simp] theorem Chip.setModex_siTick : (c.setModex x).siTick = c.siTick := rfl
@[simp] theorem Chip.setModex_siNext : (c.setModex x).siNext = c.siNext := rfl
@[simp] theorem Chip.setModex_siSince : (c.setModex x).siSince = c.siSince := rfl
@[simp] theorem Chip.setModex_fps : (c.setModex x).fps = c.fps := rfl
@[simp] theorem Chip.setModex_mbs : (c.setModex x).mbs = c.mbs := rfl
@[simp] theorem Chip.setModex_mbx : (c.setModex x).mbx = c.mbx := rfl
@[simp] theorem Chip.setModex_mbSel : (c.setModex x).mbSel = c.mbSel := rfl
@[simp] theorem Chip.setModex_cans : (c.setModex x).cans = c.cans := rfl
@[simp] theorem Chip.setModex_lins : (c.setModex x).lins = c.lins := rfl
@[simp] theorem Chip.setModex_nm : (c.setModex x).nm = c.nm := rfl
@[simp] theorem Chip.setModex_bypass : (c.setModex x).bypass = c.bypass := rfl
@[simp] theorem Chip.setModex_x32 : (c.setModex x).x32 = c.x32 := rfl
@[simp] theorem Chip.setModex_radio : (c.setModex x).radio = c.radio := rfl
@[simp] theorem Chip.setModex_acc : (c.setModex x).acc = c.acc := rfl
@[simp] theorem Chip.setModex_records : (c.setModex x).records = c.records := rfl
@[simp] theorem Chip.setModex_stored : (c.setModex x).stored = c.stored := rfl
@[simp] theorem Chip.setModex_cfg : (c.setModex x).cfg = c.cfg := rfl
@[simp] theorem Chip.setModex_upd : (c.setModex x).upd = c.upd := rfl
@[simp] theorem Chip.setModex_quotas : (c.setModex x).quotas = c.quotas := rfl
@[simp] theorem Chip.setModex_hsp : (c.setModex x).hsp = c.hsp := rfl
@[simp] theorem Chip.setModex_loads : (c.setModex x).loads = c.loads := rfl
@[simp] theorem Chip.setModex_grain : (c.setModex x).grain = c.grain := rfl
@[simp] theorem Chip.setModex_sealx : (c.setModex x).sealx = c.sealx := rfl
@[simp] theorem Chip.setModex_entBegun : (c.setModex x).entBegun = c.entBegun := rfl
@[simp] theorem Chip.setModex_entDone : (c.setModex x).entDone = c.entDone := rfl
@[simp] theorem Chip.setModex_entEnd : (c.setModex x).entEnd = c.entEnd := rfl
@[simp] theorem Chip.setModex_policy : (c.setModex x).policy = c.policy := rfl
@[simp] theorem Chip.setModex_authKeys : (c.setModex x).authKeys = c.authKeys := rfl
@[simp] theorem Chip.setModex_rd (p : Nat) : (c.setModex x).rd p = c.rd p := rfl
@[simp] theorem Chip.setModex_fget (p : Nat) (f : Fld) : (c.setModex x).fget p f = c.fget p f := rfl
@[simp] theorem Chip.setModex_flag (p : Nat) (f : Fld) : (c.setModex x).flag p f = c.flag p f := rfl
@[simp] theorem Chip.setModex_self : (c.setModex x).modex = x := rfl
end

/-! ### Chip.setUpd -/

section
variable (c : Chip) (x : UpdX)
@[simp] theorem Chip.setUpd_regs : (c.setUpd x).regs = c.regs := rfl
@[simp] theorem Chip.setUpd_wo1 : (c.setUpd x).wo1 = c.wo1 := rfl
@[simp] theorem Chip.setUpd_ctr : (c.setUpd x).ctr = c.ctr := rfl
@[simp] theorem Chip.setUpd_latch : (c.setUpd x).latch = c.latch := rfl
@[simp] theorem Chip.setUpd_stage : (c.setUpd x).stage = c.stage := rfl
@[simp] theorem Chip.setUpd_fresh : (c.setUpd x).fresh = c.fresh := rfl
@[simp] theorem Chip.setUpd_rtcAcc : (c.setUpd x).rtcAcc = c.rtcAcc := rfl
@[simp] theorem Chip.setUpd_links : (c.setUpd x).links = c.links := rfl
@[simp] theorem Chip.setUpd_bus : (c.setUpd x).bus = c.bus := rfl
@[simp] theorem Chip.setUpd_resp : (c.setUpd x).resp = c.resp := rfl
@[simp] theorem Chip.setUpd_evPend : (c.setUpd x).evPend = c.evPend := rfl
@[simp] theorem Chip.setUpd_queues : (c.setUpd x).queues = c.queues := rfl
@[simp] theorem Chip.setUpd_cores : (c.setUpd x).cores = c.cores := rfl
@[simp] theorem Chip.setUpd_chans : (c.setUpd x).chans = c.chans := rfl
@[simp] theorem Chip.setUpd_dies : (c.setUpd x).dies = c.dies := rfl
@[simp] theorem Chip.setUpd_cants : (c.setUpd x).cants = c.cants := rfl
@[simp] theorem Chip.setUpd_cmds : (c.setUpd x).cmds = c.cmds := rfl
@[simp] theorem Chip.setUpd_heldComps : (c.setUpd x).heldComps = c.heldComps := rfl
@[simp] theorem Chip.setUpd_sinks : (c.setUpd x).sinks = c.sinks := rfl
@[simp] theorem Chip.setUpd_subp : (c.setUpd x).subp = c.subp := rfl
@[simp] theorem Chip.setUpd_ledFrame : (c.setUpd x).ledFrame = c.ledFrame := rfl
@[simp] theorem Chip.setUpd_engines : (c.setUpd x).engines = c.engines := rfl
@[simp] theorem Chip.setUpd_flashMark : (c.setUpd x).flashMark = c.flashMark := rfl
@[simp] theorem Chip.setUpd_flashOut : (c.setUpd x).flashOut = c.flashOut := rfl
@[simp] theorem Chip.setUpd_flashLen : (c.setUpd x).flashLen = c.flashLen := rfl
@[simp] theorem Chip.setUpd_hrStops : (c.setUpd x).hrStops = c.hrStops := rfl
@[simp] theorem Chip.setUpd_ntcHist : (c.setUpd x).ntcHist = c.ntcHist := rfl
@[simp] theorem Chip.setUpd_valves : (c.setUpd x).valves = c.valves := rfl
@[simp] theorem Chip.setUpd_valveWait : (c.setUpd x).valveWait = c.valveWait := rfl
@[simp] theorem Chip.setUpd_vboost : (c.setUpd x).vboost = c.vboost := rfl
@[simp] theorem Chip.setUpd_hsInput : (c.setUpd x).hsInput = c.hsInput := rfl
@[simp] theorem Chip.setUpd_vbRail : (c.setUpd x).vbRail = c.vbRail := rfl
@[simp] theorem Chip.setUpd_sis : (c.setUpd x).sis = c.sis := rfl
@[simp] theorem Chip.setUpd_siTick : (c.setUpd x).siTick = c.siTick := rfl
@[simp] theorem Chip.setUpd_siNext : (c.setUpd x).siNext = c.siNext := rfl
@[simp] theorem Chip.setUpd_siSince : (c.setUpd x).siSince = c.siSince := rfl
@[simp] theorem Chip.setUpd_fps : (c.setUpd x).fps = c.fps := rfl
@[simp] theorem Chip.setUpd_mbs : (c.setUpd x).mbs = c.mbs := rfl
@[simp] theorem Chip.setUpd_mbx : (c.setUpd x).mbx = c.mbx := rfl
@[simp] theorem Chip.setUpd_mbSel : (c.setUpd x).mbSel = c.mbSel := rfl
@[simp] theorem Chip.setUpd_cans : (c.setUpd x).cans = c.cans := rfl
@[simp] theorem Chip.setUpd_lins : (c.setUpd x).lins = c.lins := rfl
@[simp] theorem Chip.setUpd_nm : (c.setUpd x).nm = c.nm := rfl
@[simp] theorem Chip.setUpd_bypass : (c.setUpd x).bypass = c.bypass := rfl
@[simp] theorem Chip.setUpd_x32 : (c.setUpd x).x32 = c.x32 := rfl
@[simp] theorem Chip.setUpd_radio : (c.setUpd x).radio = c.radio := rfl
@[simp] theorem Chip.setUpd_acc : (c.setUpd x).acc = c.acc := rfl
@[simp] theorem Chip.setUpd_records : (c.setUpd x).records = c.records := rfl
@[simp] theorem Chip.setUpd_stored : (c.setUpd x).stored = c.stored := rfl
@[simp] theorem Chip.setUpd_cfg : (c.setUpd x).cfg = c.cfg := rfl
@[simp] theorem Chip.setUpd_modex : (c.setUpd x).modex = c.modex := rfl
@[simp] theorem Chip.setUpd_quotas : (c.setUpd x).quotas = c.quotas := rfl
@[simp] theorem Chip.setUpd_hsp : (c.setUpd x).hsp = c.hsp := rfl
@[simp] theorem Chip.setUpd_loads : (c.setUpd x).loads = c.loads := rfl
@[simp] theorem Chip.setUpd_grain : (c.setUpd x).grain = c.grain := rfl
@[simp] theorem Chip.setUpd_sealx : (c.setUpd x).sealx = c.sealx := rfl
@[simp] theorem Chip.setUpd_entBegun : (c.setUpd x).entBegun = c.entBegun := rfl
@[simp] theorem Chip.setUpd_entDone : (c.setUpd x).entDone = c.entDone := rfl
@[simp] theorem Chip.setUpd_entEnd : (c.setUpd x).entEnd = c.entEnd := rfl
@[simp] theorem Chip.setUpd_policy : (c.setUpd x).policy = c.policy := rfl
@[simp] theorem Chip.setUpd_authKeys : (c.setUpd x).authKeys = c.authKeys := rfl
@[simp] theorem Chip.setUpd_rd (p : Nat) : (c.setUpd x).rd p = c.rd p := rfl
@[simp] theorem Chip.setUpd_fget (p : Nat) (f : Fld) : (c.setUpd x).fget p f = c.fget p f := rfl
@[simp] theorem Chip.setUpd_flag (p : Nat) (f : Fld) : (c.setUpd x).flag p f = c.flag p f := rfl
@[simp] theorem Chip.setUpd_self : (c.setUpd x).upd = x := rfl
end

/-! ### Chip.setHsp -/

section
variable (c : Chip) (x : HspX)
@[simp] theorem Chip.setHsp_regs : (c.setHsp x).regs = c.regs := rfl
@[simp] theorem Chip.setHsp_wo1 : (c.setHsp x).wo1 = c.wo1 := rfl
@[simp] theorem Chip.setHsp_ctr : (c.setHsp x).ctr = c.ctr := rfl
@[simp] theorem Chip.setHsp_latch : (c.setHsp x).latch = c.latch := rfl
@[simp] theorem Chip.setHsp_stage : (c.setHsp x).stage = c.stage := rfl
@[simp] theorem Chip.setHsp_fresh : (c.setHsp x).fresh = c.fresh := rfl
@[simp] theorem Chip.setHsp_rtcAcc : (c.setHsp x).rtcAcc = c.rtcAcc := rfl
@[simp] theorem Chip.setHsp_links : (c.setHsp x).links = c.links := rfl
@[simp] theorem Chip.setHsp_bus : (c.setHsp x).bus = c.bus := rfl
@[simp] theorem Chip.setHsp_resp : (c.setHsp x).resp = c.resp := rfl
@[simp] theorem Chip.setHsp_evPend : (c.setHsp x).evPend = c.evPend := rfl
@[simp] theorem Chip.setHsp_queues : (c.setHsp x).queues = c.queues := rfl
@[simp] theorem Chip.setHsp_cores : (c.setHsp x).cores = c.cores := rfl
@[simp] theorem Chip.setHsp_chans : (c.setHsp x).chans = c.chans := rfl
@[simp] theorem Chip.setHsp_dies : (c.setHsp x).dies = c.dies := rfl
@[simp] theorem Chip.setHsp_cants : (c.setHsp x).cants = c.cants := rfl
@[simp] theorem Chip.setHsp_cmds : (c.setHsp x).cmds = c.cmds := rfl
@[simp] theorem Chip.setHsp_heldComps : (c.setHsp x).heldComps = c.heldComps := rfl
@[simp] theorem Chip.setHsp_sinks : (c.setHsp x).sinks = c.sinks := rfl
@[simp] theorem Chip.setHsp_subp : (c.setHsp x).subp = c.subp := rfl
@[simp] theorem Chip.setHsp_ledFrame : (c.setHsp x).ledFrame = c.ledFrame := rfl
@[simp] theorem Chip.setHsp_engines : (c.setHsp x).engines = c.engines := rfl
@[simp] theorem Chip.setHsp_flashMark : (c.setHsp x).flashMark = c.flashMark := rfl
@[simp] theorem Chip.setHsp_flashOut : (c.setHsp x).flashOut = c.flashOut := rfl
@[simp] theorem Chip.setHsp_flashLen : (c.setHsp x).flashLen = c.flashLen := rfl
@[simp] theorem Chip.setHsp_hrStops : (c.setHsp x).hrStops = c.hrStops := rfl
@[simp] theorem Chip.setHsp_ntcHist : (c.setHsp x).ntcHist = c.ntcHist := rfl
@[simp] theorem Chip.setHsp_valves : (c.setHsp x).valves = c.valves := rfl
@[simp] theorem Chip.setHsp_valveWait : (c.setHsp x).valveWait = c.valveWait := rfl
@[simp] theorem Chip.setHsp_vboost : (c.setHsp x).vboost = c.vboost := rfl
@[simp] theorem Chip.setHsp_hsInput : (c.setHsp x).hsInput = c.hsInput := rfl
@[simp] theorem Chip.setHsp_vbRail : (c.setHsp x).vbRail = c.vbRail := rfl
@[simp] theorem Chip.setHsp_sis : (c.setHsp x).sis = c.sis := rfl
@[simp] theorem Chip.setHsp_siTick : (c.setHsp x).siTick = c.siTick := rfl
@[simp] theorem Chip.setHsp_siNext : (c.setHsp x).siNext = c.siNext := rfl
@[simp] theorem Chip.setHsp_siSince : (c.setHsp x).siSince = c.siSince := rfl
@[simp] theorem Chip.setHsp_fps : (c.setHsp x).fps = c.fps := rfl
@[simp] theorem Chip.setHsp_mbs : (c.setHsp x).mbs = c.mbs := rfl
@[simp] theorem Chip.setHsp_mbx : (c.setHsp x).mbx = c.mbx := rfl
@[simp] theorem Chip.setHsp_mbSel : (c.setHsp x).mbSel = c.mbSel := rfl
@[simp] theorem Chip.setHsp_cans : (c.setHsp x).cans = c.cans := rfl
@[simp] theorem Chip.setHsp_lins : (c.setHsp x).lins = c.lins := rfl
@[simp] theorem Chip.setHsp_nm : (c.setHsp x).nm = c.nm := rfl
@[simp] theorem Chip.setHsp_bypass : (c.setHsp x).bypass = c.bypass := rfl
@[simp] theorem Chip.setHsp_x32 : (c.setHsp x).x32 = c.x32 := rfl
@[simp] theorem Chip.setHsp_radio : (c.setHsp x).radio = c.radio := rfl
@[simp] theorem Chip.setHsp_acc : (c.setHsp x).acc = c.acc := rfl
@[simp] theorem Chip.setHsp_records : (c.setHsp x).records = c.records := rfl
@[simp] theorem Chip.setHsp_stored : (c.setHsp x).stored = c.stored := rfl
@[simp] theorem Chip.setHsp_cfg : (c.setHsp x).cfg = c.cfg := rfl
@[simp] theorem Chip.setHsp_modex : (c.setHsp x).modex = c.modex := rfl
@[simp] theorem Chip.setHsp_upd : (c.setHsp x).upd = c.upd := rfl
@[simp] theorem Chip.setHsp_quotas : (c.setHsp x).quotas = c.quotas := rfl
@[simp] theorem Chip.setHsp_loads : (c.setHsp x).loads = c.loads := rfl
@[simp] theorem Chip.setHsp_grain : (c.setHsp x).grain = c.grain := rfl
@[simp] theorem Chip.setHsp_sealx : (c.setHsp x).sealx = c.sealx := rfl
@[simp] theorem Chip.setHsp_entBegun : (c.setHsp x).entBegun = c.entBegun := rfl
@[simp] theorem Chip.setHsp_entDone : (c.setHsp x).entDone = c.entDone := rfl
@[simp] theorem Chip.setHsp_entEnd : (c.setHsp x).entEnd = c.entEnd := rfl
@[simp] theorem Chip.setHsp_policy : (c.setHsp x).policy = c.policy := rfl
@[simp] theorem Chip.setHsp_authKeys : (c.setHsp x).authKeys = c.authKeys := rfl
@[simp] theorem Chip.setHsp_rd (p : Nat) : (c.setHsp x).rd p = c.rd p := rfl
@[simp] theorem Chip.setHsp_fget (p : Nat) (f : Fld) : (c.setHsp x).fget p f = c.fget p f := rfl
@[simp] theorem Chip.setHsp_flag (p : Nat) (f : Fld) : (c.setHsp x).flag p f = c.flag p f := rfl
@[simp] theorem Chip.setHsp_self : (c.setHsp x).hsp = x := rfl
end

/-! ### Chip.setGrain -/

section
variable (c : Chip) (x : Grain)
@[simp] theorem Chip.setGrain_regs : (c.setGrain x).regs = c.regs := rfl
@[simp] theorem Chip.setGrain_wo1 : (c.setGrain x).wo1 = c.wo1 := rfl
@[simp] theorem Chip.setGrain_ctr : (c.setGrain x).ctr = c.ctr := rfl
@[simp] theorem Chip.setGrain_latch : (c.setGrain x).latch = c.latch := rfl
@[simp] theorem Chip.setGrain_stage : (c.setGrain x).stage = c.stage := rfl
@[simp] theorem Chip.setGrain_fresh : (c.setGrain x).fresh = c.fresh := rfl
@[simp] theorem Chip.setGrain_rtcAcc : (c.setGrain x).rtcAcc = c.rtcAcc := rfl
@[simp] theorem Chip.setGrain_links : (c.setGrain x).links = c.links := rfl
@[simp] theorem Chip.setGrain_bus : (c.setGrain x).bus = c.bus := rfl
@[simp] theorem Chip.setGrain_resp : (c.setGrain x).resp = c.resp := rfl
@[simp] theorem Chip.setGrain_evPend : (c.setGrain x).evPend = c.evPend := rfl
@[simp] theorem Chip.setGrain_queues : (c.setGrain x).queues = c.queues := rfl
@[simp] theorem Chip.setGrain_cores : (c.setGrain x).cores = c.cores := rfl
@[simp] theorem Chip.setGrain_chans : (c.setGrain x).chans = c.chans := rfl
@[simp] theorem Chip.setGrain_dies : (c.setGrain x).dies = c.dies := rfl
@[simp] theorem Chip.setGrain_cants : (c.setGrain x).cants = c.cants := rfl
@[simp] theorem Chip.setGrain_cmds : (c.setGrain x).cmds = c.cmds := rfl
@[simp] theorem Chip.setGrain_heldComps : (c.setGrain x).heldComps = c.heldComps := rfl
@[simp] theorem Chip.setGrain_sinks : (c.setGrain x).sinks = c.sinks := rfl
@[simp] theorem Chip.setGrain_subp : (c.setGrain x).subp = c.subp := rfl
@[simp] theorem Chip.setGrain_ledFrame : (c.setGrain x).ledFrame = c.ledFrame := rfl
@[simp] theorem Chip.setGrain_engines : (c.setGrain x).engines = c.engines := rfl
@[simp] theorem Chip.setGrain_flashMark : (c.setGrain x).flashMark = c.flashMark := rfl
@[simp] theorem Chip.setGrain_flashOut : (c.setGrain x).flashOut = c.flashOut := rfl
@[simp] theorem Chip.setGrain_flashLen : (c.setGrain x).flashLen = c.flashLen := rfl
@[simp] theorem Chip.setGrain_hrStops : (c.setGrain x).hrStops = c.hrStops := rfl
@[simp] theorem Chip.setGrain_ntcHist : (c.setGrain x).ntcHist = c.ntcHist := rfl
@[simp] theorem Chip.setGrain_valves : (c.setGrain x).valves = c.valves := rfl
@[simp] theorem Chip.setGrain_valveWait : (c.setGrain x).valveWait = c.valveWait := rfl
@[simp] theorem Chip.setGrain_vboost : (c.setGrain x).vboost = c.vboost := rfl
@[simp] theorem Chip.setGrain_hsInput : (c.setGrain x).hsInput = c.hsInput := rfl
@[simp] theorem Chip.setGrain_vbRail : (c.setGrain x).vbRail = c.vbRail := rfl
@[simp] theorem Chip.setGrain_sis : (c.setGrain x).sis = c.sis := rfl
@[simp] theorem Chip.setGrain_siTick : (c.setGrain x).siTick = c.siTick := rfl
@[simp] theorem Chip.setGrain_siNext : (c.setGrain x).siNext = c.siNext := rfl
@[simp] theorem Chip.setGrain_siSince : (c.setGrain x).siSince = c.siSince := rfl
@[simp] theorem Chip.setGrain_fps : (c.setGrain x).fps = c.fps := rfl
@[simp] theorem Chip.setGrain_mbs : (c.setGrain x).mbs = c.mbs := rfl
@[simp] theorem Chip.setGrain_mbx : (c.setGrain x).mbx = c.mbx := rfl
@[simp] theorem Chip.setGrain_mbSel : (c.setGrain x).mbSel = c.mbSel := rfl
@[simp] theorem Chip.setGrain_cans : (c.setGrain x).cans = c.cans := rfl
@[simp] theorem Chip.setGrain_lins : (c.setGrain x).lins = c.lins := rfl
@[simp] theorem Chip.setGrain_nm : (c.setGrain x).nm = c.nm := rfl
@[simp] theorem Chip.setGrain_bypass : (c.setGrain x).bypass = c.bypass := rfl
@[simp] theorem Chip.setGrain_x32 : (c.setGrain x).x32 = c.x32 := rfl
@[simp] theorem Chip.setGrain_radio : (c.setGrain x).radio = c.radio := rfl
@[simp] theorem Chip.setGrain_acc : (c.setGrain x).acc = c.acc := rfl
@[simp] theorem Chip.setGrain_records : (c.setGrain x).records = c.records := rfl
@[simp] theorem Chip.setGrain_stored : (c.setGrain x).stored = c.stored := rfl
@[simp] theorem Chip.setGrain_cfg : (c.setGrain x).cfg = c.cfg := rfl
@[simp] theorem Chip.setGrain_modex : (c.setGrain x).modex = c.modex := rfl
@[simp] theorem Chip.setGrain_upd : (c.setGrain x).upd = c.upd := rfl
@[simp] theorem Chip.setGrain_quotas : (c.setGrain x).quotas = c.quotas := rfl
@[simp] theorem Chip.setGrain_hsp : (c.setGrain x).hsp = c.hsp := rfl
@[simp] theorem Chip.setGrain_loads : (c.setGrain x).loads = c.loads := rfl
@[simp] theorem Chip.setGrain_sealx : (c.setGrain x).sealx = c.sealx := rfl
@[simp] theorem Chip.setGrain_entBegun : (c.setGrain x).entBegun = c.entBegun := rfl
@[simp] theorem Chip.setGrain_entDone : (c.setGrain x).entDone = c.entDone := rfl
@[simp] theorem Chip.setGrain_entEnd : (c.setGrain x).entEnd = c.entEnd := rfl
@[simp] theorem Chip.setGrain_policy : (c.setGrain x).policy = c.policy := rfl
@[simp] theorem Chip.setGrain_authKeys : (c.setGrain x).authKeys = c.authKeys := rfl
@[simp] theorem Chip.setGrain_rd (p : Nat) : (c.setGrain x).rd p = c.rd p := rfl
@[simp] theorem Chip.setGrain_fget (p : Nat) (f : Fld) : (c.setGrain x).fget p f = c.fget p f := rfl
@[simp] theorem Chip.setGrain_flag (p : Nat) (f : Fld) : (c.setGrain x).flag p f = c.flag p f := rfl
@[simp] theorem Chip.setGrain_self : (c.setGrain x).grain = x := rfl
end

/-! ### Chip.setSealX -/

section
variable (c : Chip) (ch : Nat) (x : SealX)
@[simp] theorem Chip.setSealX_regs : (c.setSealX ch x).regs = c.regs := rfl
@[simp] theorem Chip.setSealX_wo1 : (c.setSealX ch x).wo1 = c.wo1 := rfl
@[simp] theorem Chip.setSealX_ctr : (c.setSealX ch x).ctr = c.ctr := rfl
@[simp] theorem Chip.setSealX_latch : (c.setSealX ch x).latch = c.latch := rfl
@[simp] theorem Chip.setSealX_stage : (c.setSealX ch x).stage = c.stage := rfl
@[simp] theorem Chip.setSealX_fresh : (c.setSealX ch x).fresh = c.fresh := rfl
@[simp] theorem Chip.setSealX_rtcAcc : (c.setSealX ch x).rtcAcc = c.rtcAcc := rfl
@[simp] theorem Chip.setSealX_links : (c.setSealX ch x).links = c.links := rfl
@[simp] theorem Chip.setSealX_bus : (c.setSealX ch x).bus = c.bus := rfl
@[simp] theorem Chip.setSealX_resp : (c.setSealX ch x).resp = c.resp := rfl
@[simp] theorem Chip.setSealX_evPend : (c.setSealX ch x).evPend = c.evPend := rfl
@[simp] theorem Chip.setSealX_queues : (c.setSealX ch x).queues = c.queues := rfl
@[simp] theorem Chip.setSealX_cores : (c.setSealX ch x).cores = c.cores := rfl
@[simp] theorem Chip.setSealX_chans : (c.setSealX ch x).chans = c.chans := rfl
@[simp] theorem Chip.setSealX_dies : (c.setSealX ch x).dies = c.dies := rfl
@[simp] theorem Chip.setSealX_cants : (c.setSealX ch x).cants = c.cants := rfl
@[simp] theorem Chip.setSealX_cmds : (c.setSealX ch x).cmds = c.cmds := rfl
@[simp] theorem Chip.setSealX_heldComps : (c.setSealX ch x).heldComps = c.heldComps := rfl
@[simp] theorem Chip.setSealX_sinks : (c.setSealX ch x).sinks = c.sinks := rfl
@[simp] theorem Chip.setSealX_subp : (c.setSealX ch x).subp = c.subp := rfl
@[simp] theorem Chip.setSealX_ledFrame : (c.setSealX ch x).ledFrame = c.ledFrame := rfl
@[simp] theorem Chip.setSealX_engines : (c.setSealX ch x).engines = c.engines := rfl
@[simp] theorem Chip.setSealX_flashMark : (c.setSealX ch x).flashMark = c.flashMark := rfl
@[simp] theorem Chip.setSealX_flashOut : (c.setSealX ch x).flashOut = c.flashOut := rfl
@[simp] theorem Chip.setSealX_flashLen : (c.setSealX ch x).flashLen = c.flashLen := rfl
@[simp] theorem Chip.setSealX_hrStops : (c.setSealX ch x).hrStops = c.hrStops := rfl
@[simp] theorem Chip.setSealX_ntcHist : (c.setSealX ch x).ntcHist = c.ntcHist := rfl
@[simp] theorem Chip.setSealX_valves : (c.setSealX ch x).valves = c.valves := rfl
@[simp] theorem Chip.setSealX_valveWait : (c.setSealX ch x).valveWait = c.valveWait := rfl
@[simp] theorem Chip.setSealX_vboost : (c.setSealX ch x).vboost = c.vboost := rfl
@[simp] theorem Chip.setSealX_hsInput : (c.setSealX ch x).hsInput = c.hsInput := rfl
@[simp] theorem Chip.setSealX_vbRail : (c.setSealX ch x).vbRail = c.vbRail := rfl
@[simp] theorem Chip.setSealX_sis : (c.setSealX ch x).sis = c.sis := rfl
@[simp] theorem Chip.setSealX_siTick : (c.setSealX ch x).siTick = c.siTick := rfl
@[simp] theorem Chip.setSealX_siNext : (c.setSealX ch x).siNext = c.siNext := rfl
@[simp] theorem Chip.setSealX_siSince : (c.setSealX ch x).siSince = c.siSince := rfl
@[simp] theorem Chip.setSealX_fps : (c.setSealX ch x).fps = c.fps := rfl
@[simp] theorem Chip.setSealX_mbs : (c.setSealX ch x).mbs = c.mbs := rfl
@[simp] theorem Chip.setSealX_mbx : (c.setSealX ch x).mbx = c.mbx := rfl
@[simp] theorem Chip.setSealX_mbSel : (c.setSealX ch x).mbSel = c.mbSel := rfl
@[simp] theorem Chip.setSealX_cans : (c.setSealX ch x).cans = c.cans := rfl
@[simp] theorem Chip.setSealX_lins : (c.setSealX ch x).lins = c.lins := rfl
@[simp] theorem Chip.setSealX_nm : (c.setSealX ch x).nm = c.nm := rfl
@[simp] theorem Chip.setSealX_bypass : (c.setSealX ch x).bypass = c.bypass := rfl
@[simp] theorem Chip.setSealX_x32 : (c.setSealX ch x).x32 = c.x32 := rfl
@[simp] theorem Chip.setSealX_radio : (c.setSealX ch x).radio = c.radio := rfl
@[simp] theorem Chip.setSealX_acc : (c.setSealX ch x).acc = c.acc := rfl
@[simp] theorem Chip.setSealX_records : (c.setSealX ch x).records = c.records := rfl
@[simp] theorem Chip.setSealX_stored : (c.setSealX ch x).stored = c.stored := rfl
@[simp] theorem Chip.setSealX_cfg : (c.setSealX ch x).cfg = c.cfg := rfl
@[simp] theorem Chip.setSealX_modex : (c.setSealX ch x).modex = c.modex := rfl
@[simp] theorem Chip.setSealX_upd : (c.setSealX ch x).upd = c.upd := rfl
@[simp] theorem Chip.setSealX_quotas : (c.setSealX ch x).quotas = c.quotas := rfl
@[simp] theorem Chip.setSealX_hsp : (c.setSealX ch x).hsp = c.hsp := rfl
@[simp] theorem Chip.setSealX_loads : (c.setSealX ch x).loads = c.loads := rfl
@[simp] theorem Chip.setSealX_grain : (c.setSealX ch x).grain = c.grain := rfl
@[simp] theorem Chip.setSealX_entBegun : (c.setSealX ch x).entBegun = c.entBegun := rfl
@[simp] theorem Chip.setSealX_entDone : (c.setSealX ch x).entDone = c.entDone := rfl
@[simp] theorem Chip.setSealX_entEnd : (c.setSealX ch x).entEnd = c.entEnd := rfl
@[simp] theorem Chip.setSealX_policy : (c.setSealX ch x).policy = c.policy := rfl
@[simp] theorem Chip.setSealX_authKeys : (c.setSealX ch x).authKeys = c.authKeys := rfl
@[simp] theorem Chip.setSealX_rd (p : Nat) : (c.setSealX ch x).rd p = c.rd p := rfl
@[simp] theorem Chip.setSealX_fget (p : Nat) (f : Fld) : (c.setSealX ch x).fget p f = c.fget p f := rfl
@[simp] theorem Chip.setSealX_flag (p : Nat) (f : Fld) : (c.setSealX ch x).flag p f = c.flag p f := rfl
end

/-! ### Chip.setBegun -/

section
variable (c : Chip) (e : Nat) (b : Bool)
@[simp] theorem Chip.setBegun_regs : (c.setBegun e b).regs = c.regs := rfl
@[simp] theorem Chip.setBegun_wo1 : (c.setBegun e b).wo1 = c.wo1 := rfl
@[simp] theorem Chip.setBegun_ctr : (c.setBegun e b).ctr = c.ctr := rfl
@[simp] theorem Chip.setBegun_latch : (c.setBegun e b).latch = c.latch := rfl
@[simp] theorem Chip.setBegun_stage : (c.setBegun e b).stage = c.stage := rfl
@[simp] theorem Chip.setBegun_fresh : (c.setBegun e b).fresh = c.fresh := rfl
@[simp] theorem Chip.setBegun_rtcAcc : (c.setBegun e b).rtcAcc = c.rtcAcc := rfl
@[simp] theorem Chip.setBegun_links : (c.setBegun e b).links = c.links := rfl
@[simp] theorem Chip.setBegun_bus : (c.setBegun e b).bus = c.bus := rfl
@[simp] theorem Chip.setBegun_resp : (c.setBegun e b).resp = c.resp := rfl
@[simp] theorem Chip.setBegun_evPend : (c.setBegun e b).evPend = c.evPend := rfl
@[simp] theorem Chip.setBegun_queues : (c.setBegun e b).queues = c.queues := rfl
@[simp] theorem Chip.setBegun_cores : (c.setBegun e b).cores = c.cores := rfl
@[simp] theorem Chip.setBegun_chans : (c.setBegun e b).chans = c.chans := rfl
@[simp] theorem Chip.setBegun_dies : (c.setBegun e b).dies = c.dies := rfl
@[simp] theorem Chip.setBegun_cants : (c.setBegun e b).cants = c.cants := rfl
@[simp] theorem Chip.setBegun_cmds : (c.setBegun e b).cmds = c.cmds := rfl
@[simp] theorem Chip.setBegun_heldComps : (c.setBegun e b).heldComps = c.heldComps := rfl
@[simp] theorem Chip.setBegun_sinks : (c.setBegun e b).sinks = c.sinks := rfl
@[simp] theorem Chip.setBegun_subp : (c.setBegun e b).subp = c.subp := rfl
@[simp] theorem Chip.setBegun_ledFrame : (c.setBegun e b).ledFrame = c.ledFrame := rfl
@[simp] theorem Chip.setBegun_engines : (c.setBegun e b).engines = c.engines := rfl
@[simp] theorem Chip.setBegun_flashMark : (c.setBegun e b).flashMark = c.flashMark := rfl
@[simp] theorem Chip.setBegun_flashOut : (c.setBegun e b).flashOut = c.flashOut := rfl
@[simp] theorem Chip.setBegun_flashLen : (c.setBegun e b).flashLen = c.flashLen := rfl
@[simp] theorem Chip.setBegun_hrStops : (c.setBegun e b).hrStops = c.hrStops := rfl
@[simp] theorem Chip.setBegun_ntcHist : (c.setBegun e b).ntcHist = c.ntcHist := rfl
@[simp] theorem Chip.setBegun_valves : (c.setBegun e b).valves = c.valves := rfl
@[simp] theorem Chip.setBegun_valveWait : (c.setBegun e b).valveWait = c.valveWait := rfl
@[simp] theorem Chip.setBegun_vboost : (c.setBegun e b).vboost = c.vboost := rfl
@[simp] theorem Chip.setBegun_hsInput : (c.setBegun e b).hsInput = c.hsInput := rfl
@[simp] theorem Chip.setBegun_vbRail : (c.setBegun e b).vbRail = c.vbRail := rfl
@[simp] theorem Chip.setBegun_sis : (c.setBegun e b).sis = c.sis := rfl
@[simp] theorem Chip.setBegun_siTick : (c.setBegun e b).siTick = c.siTick := rfl
@[simp] theorem Chip.setBegun_siNext : (c.setBegun e b).siNext = c.siNext := rfl
@[simp] theorem Chip.setBegun_siSince : (c.setBegun e b).siSince = c.siSince := rfl
@[simp] theorem Chip.setBegun_fps : (c.setBegun e b).fps = c.fps := rfl
@[simp] theorem Chip.setBegun_mbs : (c.setBegun e b).mbs = c.mbs := rfl
@[simp] theorem Chip.setBegun_mbx : (c.setBegun e b).mbx = c.mbx := rfl
@[simp] theorem Chip.setBegun_mbSel : (c.setBegun e b).mbSel = c.mbSel := rfl
@[simp] theorem Chip.setBegun_cans : (c.setBegun e b).cans = c.cans := rfl
@[simp] theorem Chip.setBegun_lins : (c.setBegun e b).lins = c.lins := rfl
@[simp] theorem Chip.setBegun_nm : (c.setBegun e b).nm = c.nm := rfl
@[simp] theorem Chip.setBegun_bypass : (c.setBegun e b).bypass = c.bypass := rfl
@[simp] theorem Chip.setBegun_x32 : (c.setBegun e b).x32 = c.x32 := rfl
@[simp] theorem Chip.setBegun_radio : (c.setBegun e b).radio = c.radio := rfl
@[simp] theorem Chip.setBegun_acc : (c.setBegun e b).acc = c.acc := rfl
@[simp] theorem Chip.setBegun_records : (c.setBegun e b).records = c.records := rfl
@[simp] theorem Chip.setBegun_stored : (c.setBegun e b).stored = c.stored := rfl
@[simp] theorem Chip.setBegun_cfg : (c.setBegun e b).cfg = c.cfg := rfl
@[simp] theorem Chip.setBegun_modex : (c.setBegun e b).modex = c.modex := rfl
@[simp] theorem Chip.setBegun_upd : (c.setBegun e b).upd = c.upd := rfl
@[simp] theorem Chip.setBegun_quotas : (c.setBegun e b).quotas = c.quotas := rfl
@[simp] theorem Chip.setBegun_hsp : (c.setBegun e b).hsp = c.hsp := rfl
@[simp] theorem Chip.setBegun_loads : (c.setBegun e b).loads = c.loads := rfl
@[simp] theorem Chip.setBegun_grain : (c.setBegun e b).grain = c.grain := rfl
@[simp] theorem Chip.setBegun_sealx : (c.setBegun e b).sealx = c.sealx := rfl
@[simp] theorem Chip.setBegun_entDone : (c.setBegun e b).entDone = c.entDone := rfl
@[simp] theorem Chip.setBegun_entEnd : (c.setBegun e b).entEnd = c.entEnd := rfl
@[simp] theorem Chip.setBegun_policy : (c.setBegun e b).policy = c.policy := rfl
@[simp] theorem Chip.setBegun_authKeys : (c.setBegun e b).authKeys = c.authKeys := rfl
@[simp] theorem Chip.setBegun_rd (p : Nat) : (c.setBegun e b).rd p = c.rd p := rfl
@[simp] theorem Chip.setBegun_fget (p : Nat) (f : Fld) : (c.setBegun e b).fget p f = c.fget p f := rfl
@[simp] theorem Chip.setBegun_flag (p : Nat) (f : Fld) : (c.setBegun e b).flag p f = c.flag p f := rfl
end

/-! ### Chip.setRecorded -/

section
variable (c : Chip) (e : Nat) (b : Bool)
@[simp] theorem Chip.setRecorded_regs : (c.setRecorded e b).regs = c.regs := rfl
@[simp] theorem Chip.setRecorded_wo1 : (c.setRecorded e b).wo1 = c.wo1 := rfl
@[simp] theorem Chip.setRecorded_ctr : (c.setRecorded e b).ctr = c.ctr := rfl
@[simp] theorem Chip.setRecorded_latch : (c.setRecorded e b).latch = c.latch := rfl
@[simp] theorem Chip.setRecorded_stage : (c.setRecorded e b).stage = c.stage := rfl
@[simp] theorem Chip.setRecorded_fresh : (c.setRecorded e b).fresh = c.fresh := rfl
@[simp] theorem Chip.setRecorded_rtcAcc : (c.setRecorded e b).rtcAcc = c.rtcAcc := rfl
@[simp] theorem Chip.setRecorded_links : (c.setRecorded e b).links = c.links := rfl
@[simp] theorem Chip.setRecorded_bus : (c.setRecorded e b).bus = c.bus := rfl
@[simp] theorem Chip.setRecorded_resp : (c.setRecorded e b).resp = c.resp := rfl
@[simp] theorem Chip.setRecorded_evPend : (c.setRecorded e b).evPend = c.evPend := rfl
@[simp] theorem Chip.setRecorded_queues : (c.setRecorded e b).queues = c.queues := rfl
@[simp] theorem Chip.setRecorded_cores : (c.setRecorded e b).cores = c.cores := rfl
@[simp] theorem Chip.setRecorded_chans : (c.setRecorded e b).chans = c.chans := rfl
@[simp] theorem Chip.setRecorded_dies : (c.setRecorded e b).dies = c.dies := rfl
@[simp] theorem Chip.setRecorded_cants : (c.setRecorded e b).cants = c.cants := rfl
@[simp] theorem Chip.setRecorded_cmds : (c.setRecorded e b).cmds = c.cmds := rfl
@[simp] theorem Chip.setRecorded_heldComps : (c.setRecorded e b).heldComps = c.heldComps := rfl
@[simp] theorem Chip.setRecorded_sinks : (c.setRecorded e b).sinks = c.sinks := rfl
@[simp] theorem Chip.setRecorded_subp : (c.setRecorded e b).subp = c.subp := rfl
@[simp] theorem Chip.setRecorded_ledFrame : (c.setRecorded e b).ledFrame = c.ledFrame := rfl
@[simp] theorem Chip.setRecorded_engines : (c.setRecorded e b).engines = c.engines := rfl
@[simp] theorem Chip.setRecorded_flashMark : (c.setRecorded e b).flashMark = c.flashMark := rfl
@[simp] theorem Chip.setRecorded_flashOut : (c.setRecorded e b).flashOut = c.flashOut := rfl
@[simp] theorem Chip.setRecorded_flashLen : (c.setRecorded e b).flashLen = c.flashLen := rfl
@[simp] theorem Chip.setRecorded_hrStops : (c.setRecorded e b).hrStops = c.hrStops := rfl
@[simp] theorem Chip.setRecorded_ntcHist : (c.setRecorded e b).ntcHist = c.ntcHist := rfl
@[simp] theorem Chip.setRecorded_valves : (c.setRecorded e b).valves = c.valves := rfl
@[simp] theorem Chip.setRecorded_valveWait : (c.setRecorded e b).valveWait = c.valveWait := rfl
@[simp] theorem Chip.setRecorded_vboost : (c.setRecorded e b).vboost = c.vboost := rfl
@[simp] theorem Chip.setRecorded_hsInput : (c.setRecorded e b).hsInput = c.hsInput := rfl
@[simp] theorem Chip.setRecorded_vbRail : (c.setRecorded e b).vbRail = c.vbRail := rfl
@[simp] theorem Chip.setRecorded_sis : (c.setRecorded e b).sis = c.sis := rfl
@[simp] theorem Chip.setRecorded_siTick : (c.setRecorded e b).siTick = c.siTick := rfl
@[simp] theorem Chip.setRecorded_siNext : (c.setRecorded e b).siNext = c.siNext := rfl
@[simp] theorem Chip.setRecorded_siSince : (c.setRecorded e b).siSince = c.siSince := rfl
@[simp] theorem Chip.setRecorded_fps : (c.setRecorded e b).fps = c.fps := rfl
@[simp] theorem Chip.setRecorded_mbs : (c.setRecorded e b).mbs = c.mbs := rfl
@[simp] theorem Chip.setRecorded_mbx : (c.setRecorded e b).mbx = c.mbx := rfl
@[simp] theorem Chip.setRecorded_mbSel : (c.setRecorded e b).mbSel = c.mbSel := rfl
@[simp] theorem Chip.setRecorded_cans : (c.setRecorded e b).cans = c.cans := rfl
@[simp] theorem Chip.setRecorded_lins : (c.setRecorded e b).lins = c.lins := rfl
@[simp] theorem Chip.setRecorded_nm : (c.setRecorded e b).nm = c.nm := rfl
@[simp] theorem Chip.setRecorded_bypass : (c.setRecorded e b).bypass = c.bypass := rfl
@[simp] theorem Chip.setRecorded_x32 : (c.setRecorded e b).x32 = c.x32 := rfl
@[simp] theorem Chip.setRecorded_radio : (c.setRecorded e b).radio = c.radio := rfl
@[simp] theorem Chip.setRecorded_acc : (c.setRecorded e b).acc = c.acc := rfl
@[simp] theorem Chip.setRecorded_records : (c.setRecorded e b).records = c.records := rfl
@[simp] theorem Chip.setRecorded_stored : (c.setRecorded e b).stored = c.stored := rfl
@[simp] theorem Chip.setRecorded_cfg : (c.setRecorded e b).cfg = c.cfg := rfl
@[simp] theorem Chip.setRecorded_modex : (c.setRecorded e b).modex = c.modex := rfl
@[simp] theorem Chip.setRecorded_upd : (c.setRecorded e b).upd = c.upd := rfl
@[simp] theorem Chip.setRecorded_quotas : (c.setRecorded e b).quotas = c.quotas := rfl
@[simp] theorem Chip.setRecorded_hsp : (c.setRecorded e b).hsp = c.hsp := rfl
@[simp] theorem Chip.setRecorded_loads : (c.setRecorded e b).loads = c.loads := rfl
@[simp] theorem Chip.setRecorded_grain : (c.setRecorded e b).grain = c.grain := rfl
@[simp] theorem Chip.setRecorded_sealx : (c.setRecorded e b).sealx = c.sealx := rfl
@[simp] theorem Chip.setRecorded_entBegun : (c.setRecorded e b).entBegun = c.entBegun := rfl
@[simp] theorem Chip.setRecorded_entEnd : (c.setRecorded e b).entEnd = c.entEnd := rfl
@[simp] theorem Chip.setRecorded_policy : (c.setRecorded e b).policy = c.policy := rfl
@[simp] theorem Chip.setRecorded_authKeys : (c.setRecorded e b).authKeys = c.authKeys := rfl
@[simp] theorem Chip.setRecorded_rd (p : Nat) : (c.setRecorded e b).rd p = c.rd p := rfl
@[simp] theorem Chip.setRecorded_fget (p : Nat) (f : Fld) : (c.setRecorded e b).fget p f = c.fget p f := rfl
@[simp] theorem Chip.setRecorded_flag (p : Nat) (f : Fld) : (c.setRecorded e b).flag p f = c.flag p f := rfl
end

/-! ### Chip.addCmd -/

section
variable (c : Chip) (k : Cmd) (o : Nat) (b : Bool)
@[simp] theorem Chip.addCmd_regs : (c.addCmd k o b).regs = c.regs := rfl
@[simp] theorem Chip.addCmd_wo1 : (c.addCmd k o b).wo1 = c.wo1 := rfl
@[simp] theorem Chip.addCmd_ctr : (c.addCmd k o b).ctr = c.ctr := rfl
@[simp] theorem Chip.addCmd_latch : (c.addCmd k o b).latch = c.latch := rfl
@[simp] theorem Chip.addCmd_stage : (c.addCmd k o b).stage = c.stage := rfl
@[simp] theorem Chip.addCmd_fresh : (c.addCmd k o b).fresh = c.fresh := rfl
@[simp] theorem Chip.addCmd_rtcAcc : (c.addCmd k o b).rtcAcc = c.rtcAcc := rfl
@[simp] theorem Chip.addCmd_links : (c.addCmd k o b).links = c.links := rfl
@[simp] theorem Chip.addCmd_bus : (c.addCmd k o b).bus = c.bus := rfl
@[simp] theorem Chip.addCmd_resp : (c.addCmd k o b).resp = c.resp := rfl
@[simp] theorem Chip.addCmd_evPend : (c.addCmd k o b).evPend = c.evPend := rfl
@[simp] theorem Chip.addCmd_queues : (c.addCmd k o b).queues = c.queues := rfl
@[simp] theorem Chip.addCmd_cores : (c.addCmd k o b).cores = c.cores := rfl
@[simp] theorem Chip.addCmd_chans : (c.addCmd k o b).chans = c.chans := rfl
@[simp] theorem Chip.addCmd_dies : (c.addCmd k o b).dies = c.dies := rfl
@[simp] theorem Chip.addCmd_cants : (c.addCmd k o b).cants = c.cants := rfl
@[simp] theorem Chip.addCmd_heldComps : (c.addCmd k o b).heldComps = c.heldComps := rfl
@[simp] theorem Chip.addCmd_sinks : (c.addCmd k o b).sinks = c.sinks := rfl
@[simp] theorem Chip.addCmd_subp : (c.addCmd k o b).subp = c.subp := rfl
@[simp] theorem Chip.addCmd_ledFrame : (c.addCmd k o b).ledFrame = c.ledFrame := rfl
@[simp] theorem Chip.addCmd_engines : (c.addCmd k o b).engines = c.engines := rfl
@[simp] theorem Chip.addCmd_flashMark : (c.addCmd k o b).flashMark = c.flashMark := rfl
@[simp] theorem Chip.addCmd_flashOut : (c.addCmd k o b).flashOut = c.flashOut := rfl
@[simp] theorem Chip.addCmd_flashLen : (c.addCmd k o b).flashLen = c.flashLen := rfl
@[simp] theorem Chip.addCmd_hrStops : (c.addCmd k o b).hrStops = c.hrStops := rfl
@[simp] theorem Chip.addCmd_ntcHist : (c.addCmd k o b).ntcHist = c.ntcHist := rfl
@[simp] theorem Chip.addCmd_valves : (c.addCmd k o b).valves = c.valves := rfl
@[simp] theorem Chip.addCmd_valveWait : (c.addCmd k o b).valveWait = c.valveWait := rfl
@[simp] theorem Chip.addCmd_vboost : (c.addCmd k o b).vboost = c.vboost := rfl
@[simp] theorem Chip.addCmd_hsInput : (c.addCmd k o b).hsInput = c.hsInput := rfl
@[simp] theorem Chip.addCmd_vbRail : (c.addCmd k o b).vbRail = c.vbRail := rfl
@[simp] theorem Chip.addCmd_sis : (c.addCmd k o b).sis = c.sis := rfl
@[simp] theorem Chip.addCmd_siTick : (c.addCmd k o b).siTick = c.siTick := rfl
@[simp] theorem Chip.addCmd_siNext : (c.addCmd k o b).siNext = c.siNext := rfl
@[simp] theorem Chip.addCmd_siSince : (c.addCmd k o b).siSince = c.siSince := rfl
@[simp] theorem Chip.addCmd_fps : (c.addCmd k o b).fps = c.fps := rfl
@[simp] theorem Chip.addCmd_mbs : (c.addCmd k o b).mbs = c.mbs := rfl
@[simp] theorem Chip.addCmd_mbx : (c.addCmd k o b).mbx = c.mbx := rfl
@[simp] theorem Chip.addCmd_mbSel : (c.addCmd k o b).mbSel = c.mbSel := rfl
@[simp] theorem Chip.addCmd_cans : (c.addCmd k o b).cans = c.cans := rfl
@[simp] theorem Chip.addCmd_lins : (c.addCmd k o b).lins = c.lins := rfl
@[simp] theorem Chip.addCmd_nm : (c.addCmd k o b).nm = c.nm := rfl
@[simp] theorem Chip.addCmd_bypass : (c.addCmd k o b).bypass = c.bypass := rfl
@[simp] theorem Chip.addCmd_x32 : (c.addCmd k o b).x32 = c.x32 := rfl
@[simp] theorem Chip.addCmd_radio : (c.addCmd k o b).radio = c.radio := rfl
@[simp] theorem Chip.addCmd_acc : (c.addCmd k o b).acc = c.acc := rfl
@[simp] theorem Chip.addCmd_records : (c.addCmd k o b).records = c.records := rfl
@[simp] theorem Chip.addCmd_stored : (c.addCmd k o b).stored = c.stored := rfl
@[simp] theorem Chip.addCmd_cfg : (c.addCmd k o b).cfg = c.cfg := rfl
@[simp] theorem Chip.addCmd_modex : (c.addCmd k o b).modex = c.modex := rfl
@[simp] theorem Chip.addCmd_upd : (c.addCmd k o b).upd = c.upd := rfl
@[simp] theorem Chip.addCmd_quotas : (c.addCmd k o b).quotas = c.quotas := rfl
@[simp] theorem Chip.addCmd_hsp : (c.addCmd k o b).hsp = c.hsp := rfl
@[simp] theorem Chip.addCmd_loads : (c.addCmd k o b).loads = c.loads := rfl
@[simp] theorem Chip.addCmd_grain : (c.addCmd k o b).grain = c.grain := rfl
@[simp] theorem Chip.addCmd_sealx : (c.addCmd k o b).sealx = c.sealx := rfl
@[simp] theorem Chip.addCmd_entBegun : (c.addCmd k o b).entBegun = c.entBegun := rfl
@[simp] theorem Chip.addCmd_entDone : (c.addCmd k o b).entDone = c.entDone := rfl
@[simp] theorem Chip.addCmd_entEnd : (c.addCmd k o b).entEnd = c.entEnd := rfl
@[simp] theorem Chip.addCmd_policy : (c.addCmd k o b).policy = c.policy := rfl
@[simp] theorem Chip.addCmd_authKeys : (c.addCmd k o b).authKeys = c.authKeys := rfl
@[simp] theorem Chip.addCmd_rd (p : Nat) : (c.addCmd k o b).rd p = c.rd p := rfl
@[simp] theorem Chip.addCmd_fget (p : Nat) (f : Fld) : (c.addCmd k o b).fget p f = c.fget p f := rfl
@[simp] theorem Chip.addCmd_flag (p : Nat) (f : Fld) : (c.addCmd k o b).flag p f = c.flag p f := rfl
end

/-! ### State.onChip -/

@[simp] theorem State.onChip_chip (s : State) (f : Chip → Chip) : (s.onChip f).chip = f s.chip := rfl
@[simp] theorem State.onChip_sram (s : State) (f : Chip → Chip) : (s.onChip f).sram = s.sram := rfl
@[simp] theorem State.onChip_pending (s : State) (f : Chip → Chip) : (s.onChip f).pending = s.pending := rfl

end Sys2Proof.Machine
end

