-- ==== Sys2Proof/Laws/Table.lean ====
section
/-! SUPPORT. The laws of the sparse tables: reading after writing, writes elsewhere, and the canonical form. They hold of every
list of entries, in canonical form or not, unless they say otherwise. -/

namespace Sys2Proof

variable {α : Type} (d : Nat → α)

@[simp] theorem Tbl.get_nil (k : Nat) : Tbl.get d [] k = d k := rfl

@[simp] theorem Tbl.get_del_self (t : Tbl α) (k : Nat) : Tbl.get d (Tbl.del k t) k = d k := by
  induction t with
  | nil => rfl
  | cons p t ih => obtain ⟨i, b⟩ := p; simp only [Tbl.del]; split <;> simp_all [Tbl.get]

theorem Tbl.get_del_ne (t : Tbl α) {k j : Nat} (h : j ≠ k) : Tbl.get d (Tbl.del k t) j = Tbl.get d t j := by
  induction t with
  | nil => rfl
  | cons p t ih =>
    obtain ⟨i, b⟩ := p
    simp only [Tbl.del]
    split
    · next e => subst e; simp [Tbl.get, ih, Ne.symm h]
    · simp [Tbl.get, ih]

theorem Tbl.get_ins_self (t : Tbl α) (k : Nat) (a : α) (h : ∀ x ∈ t, x.1 ≠ k) : Tbl.get d (Tbl.ins k a t) k = a := by
  induction t with
  | nil => simp [Tbl.ins, Tbl.get]
  | cons p t ih =>
    obtain ⟨i, b⟩ := p
    simp only [Tbl.ins]
    split
    · simp [Tbl.get]
    · have hi : i ≠ k := h (i, b) (by simp)
      simp [Tbl.get, hi, ih fun x hx => h x (by simp [hx])]

theorem Tbl.get_ins_ne (t : Tbl α) {k j : Nat} (a : α) (h : j ≠ k) : Tbl.get d (Tbl.ins k a t) j = Tbl.get d t j := by
  induction t with
  | nil => simp [Tbl.ins, Tbl.get, Ne.symm h]
  | cons p t ih =>
    obtain ⟨i, b⟩ := p
    simp only [Tbl.ins]
    split
    · simp [Tbl.get, Ne.symm h]
    · simp [Tbl.get, ih]

theorem Tbl.mem_del {t : Tbl α} {k : Nat} {x : Nat × α} (h : x ∈ Tbl.del k t) : x ∈ t ∧ x.1 ≠ k := by
  induction t with
  | nil => simp [Tbl.del] at h
  | cons p t ih =>
    obtain ⟨i, b⟩ := p
    simp only [Tbl.del] at h
    split at h
    · exact ⟨by simp [(ih h).1], (ih h).2⟩
    · next hi =>
      rcases List.mem_cons.1 h with rfl | h
      · exact ⟨by simp, hi⟩
      · exact ⟨by simp [(ih h).1], (ih h).2⟩

/-- A read after a write to the same number gives the value written. -/
@[simp] theorem Tbl.get_set_self [DecidableEq α] (t : Tbl α) (k : Nat) (a : α) : Tbl.get d (Tbl.set d t k a) k = a := by
  unfold Tbl.set
  split
  · next h => simp [h]
  · exact Tbl.get_ins_self d _ _ _ fun x hx => (Tbl.mem_del hx).2

/-- A write leaves every other number alone. -/
theorem Tbl.get_set_ne [DecidableEq α] (t : Tbl α) {k j : Nat} (a : α) (h : j ≠ k) :
    Tbl.get d (Tbl.set d t k a) j = Tbl.get d t j := by
  unfold Tbl.set
  split
  · exact Tbl.get_del_ne d t h
  · rw [Tbl.get_ins_ne d _ a h, Tbl.get_del_ne d t h]

theorem Tbl.get_set [DecidableEq α] (t : Tbl α) (k j : Nat) (a : α) :
    Tbl.get d (Tbl.set d t k a) j = if j = k then a else Tbl.get d t j := by
  split
  · next h => subst h; simp
  · next h => exact Tbl.get_set_ne d t a h

/-- A cleared range reads its defaults; every other number reads as before. -/
theorem Tbl.get_clear (t : Tbl α) (lo hi k : Nat) :
    Tbl.get d (Tbl.clear lo hi t) k = if lo ≤ k ∧ k < hi then d k else Tbl.get d t k := by
  induction t with
  | nil => simp [Tbl.clear, Tbl.get]
  | cons p t ih =>
    obtain ⟨i, b⟩ := p
    simp only [Tbl.clear]
    split
    · next h =>
      rw [ih]; split
      · rfl
      · next h' => rw [Tbl.get, if_neg]; rintro rfl; exact h' h
    · next h =>
      by_cases e : i = k
      · subst e; simp [Tbl.get, h]
      · simp [Tbl.get, e, ih]

/-! ### The canonical form -/

/-- Every listed number lies above a bound. -/
theorem Tbl.wfFrom_weaken [DecidableEq α] {t : Tbl α} {b b' : Option Nat} (h : Tbl.wfFrom d b t = true)
    (hb : ∀ j, b' = some j → ∃ i, b = some i ∧ j ≤ i) : Tbl.wfFrom d b' t = true := by
  cases t with
  | nil => simp [Tbl.wfFrom]
  | cons p t =>
    obtain ⟨i, a⟩ := p
    simp only [Tbl.wfFrom, Bool.and_eq_true] at h ⊢
    refine ⟨⟨?_, h.1.2⟩, h.2⟩
    cases b' with
    | none => rfl
    | some j =>
      obtain ⟨i', rfl, hj⟩ := hb j rfl
      have := h.1.1
      simp at this ⊢
      omega

theorem Tbl.wfFrom_tail [DecidableEq α] {t : Tbl α} {b : Option Nat} {i : Nat} {a : α} (h : Tbl.wfFrom d b ((i, a) :: t) = true) :
    Tbl.wfFrom d b t = true := by
  simp only [Tbl.wfFrom, Bool.and_eq_true] at h
  refine Tbl.wfFrom_weaken d h.2 fun j hj => ⟨i, rfl, ?_⟩
  subst hj
  have := h.1.1
  simp at this
  omega

theorem Tbl.wfFrom_del [DecidableEq α] (k : Nat) : ∀ (t : Tbl α) (b : Option Nat), Tbl.wfFrom d b t = true → Tbl.wfFrom d b (Tbl.del k t) = true
  | [], _, _ => rfl
  | (i, a) :: t, b, h => by
    simp only [Tbl.del]
    split
    · exact Tbl.wfFrom_del k t b (Tbl.wfFrom_tail d h)
    · simp only [Tbl.wfFrom, Bool.and_eq_true] at h ⊢
      exact ⟨h.1, Tbl.wfFrom_del k t _ h.2⟩

theorem Tbl.wfFrom_ins [DecidableEq α] {k : Nat} {a : α} (ha : a ≠ d k) : ∀ (t : Tbl α) (b : Option Nat),
    (∀ j, b = some j → j < k) → (∀ x ∈ t, x.1 ≠ k) → Tbl.wfFrom d b t = true → Tbl.wfFrom d b (Tbl.ins k a t) = true
  | [], b, hb, _, _ => by
    simp only [Tbl.ins, Tbl.wfFrom, Bool.and_eq_true]
    refine ⟨⟨?_, by simpa using ha⟩, trivial⟩
    cases b with
    | none => rfl
    | some j => simpa using hb j rfl
  | (i, c) :: t, b, hb, hk, h => by
    simp only [Tbl.ins]
    have hi : i ≠ k := hk (i, c) (by simp)
    split
    · next hlt =>
      simp only [Tbl.wfFrom, Bool.and_eq_true] at h ⊢
      refine ⟨⟨?_, by simpa using ha⟩, ⟨by simpa using hlt, h.1.2⟩, h.2⟩
      cases b with
      | none => rfl
      | some j => simpa using hb j rfl
    · next hlt =>
      simp only [Tbl.wfFrom, Bool.and_eq_true] at h ⊢
      refine ⟨h.1, Tbl.wfFrom_ins ha t (some i) (fun j hj => ?_) (fun x hx => hk x (by simp [hx])) h.2⟩
      cases hj; omega

/-- Writing keeps the canonical form. -/
theorem Tbl.wf_set [DecidableEq α] (t : Tbl α) (k : Nat) (a : α) (h : Tbl.wf d t = true) : Tbl.wf d (Tbl.set d t k a) = true := by
  unfold Tbl.set Tbl.wf at *
  split
  · exact Tbl.wfFrom_del d k t none h
  · next ha =>
    exact Tbl.wfFrom_ins d ha _ none (by simp) (fun x hx => (Tbl.mem_del hx).2) (Tbl.wfFrom_del d k t none h)

theorem Tbl.wfFrom_clear [DecidableEq α] (lo hi : Nat) : ∀ (t : Tbl α) (b : Option Nat),
    Tbl.wfFrom d b t = true → Tbl.wfFrom d b (Tbl.clear lo hi t) = true
  | [], _, _ => rfl
  | (i, a) :: t, b, h => by
    simp only [Tbl.clear]
    split
    · exact Tbl.wfFrom_clear lo hi t b (Tbl.wfFrom_tail d h)
    · simp only [Tbl.wfFrom, Bool.and_eq_true] at h ⊢
      exact ⟨h.1, Tbl.wfFrom_clear lo hi t _ h.2⟩

/-- Forgetting a range keeps the canonical form. -/
theorem Tbl.wf_clear [DecidableEq α] (t : Tbl α) (lo hi : Nat) (h : Tbl.wf d t = true) : Tbl.wf d (Tbl.clear lo hi t) = true :=
  Tbl.wfFrom_clear d lo hi t none h

end Sys2Proof
end

