-- ==== Sys2Proof/Laws/Registers.lean ====
section
/-! SUPPORT. Reading after writing: registers, fields, counters, the tables of hidden state, and what Only says. -/

namespace Sys2Proof.Machine
open Sys2Proof

/-! ### Registers -/

@[simp] theorem Chip.rd_wr_self (c : Chip) (a : Nat) (x : Word) : (c.wr a x).rd a = x := Tbl.get_set_self _ _ _ _
theorem Chip.rd_wr_ne (c : Chip) {a b : Nat} (x : Word) (h : b ≠ a) : (c.wr a x).rd b = c.rd b := Tbl.get_set_ne _ _ _ h
theorem Chip.rd_wr (c : Chip) (a b : Nat) (x : Word) : (c.wr a x).rd b = if b = a then x else c.rd b := Tbl.get_set _ _ _ _ _
@[simp] theorem Chip.fget_wr_self (c : Chip) (a : Nat) (x : Word) (f : Fld) : (c.wr a x).fget a f = f.get x := by simp [Chip.fget]
theorem Chip.fget_wr_ne (c : Chip) {a b : Nat} (x : Word) (f : Fld) (h : b ≠ a) : (c.wr a x).fget b f = c.fget b f := by
  simp [Chip.fget, Chip.rd_wr_ne c x h]

/-- A field holds what was put into it, cut to its width. -/
theorem Chip.fget_fset_self (c : Chip) (a : Nat) (f : Fld) (v : Nat) (hf : f.lo + f.w ≤ 32) : (c.fset a f v).fget a f = v % 2 ^ f.w := by
  simp [Chip.fset, Fld.get_put f _ v hf]
/-- Another field of the same register keeps what it held. -/
theorem Chip.fget_fset_field (c : Chip) (a : Nat) (f g : Fld) (v : Nat) (h : g.lo + g.w ≤ f.lo ∨ f.lo + f.w ≤ g.lo) (hg : g.lo + g.w ≤ 32) :
    (c.fset a f v).fget a g = c.fget a g := by
  simp [Chip.fset, Fld.get_put_ne f g _ v h hg, Chip.fget]
theorem Chip.rd_fset_ne (c : Chip) {a b : Nat} (f : Fld) (v : Nat) (h : b ≠ a) : (c.fset a f v).rd b = c.rd b := Chip.rd_wr_ne c _ h
theorem Chip.fget_fset_ne (c : Chip) {a b : Nat} (f g : Fld) (v : Nat) (h : b ≠ a) : (c.fset a f v).fget b g = c.fget b g :=
  Chip.fget_wr_ne c _ g h
theorem Chip.flag_fbit_self (c : Chip) (a : Nat) (f : Fld) (b : Bool) (hf : f.lo + f.w ≤ 32) (hw : 1 ≤ f.w) : (c.fbit a f b).flag a f = b := by
  have : b.toNat % 2 ^ f.w = b.toNat := Nat.mod_eq_of_lt (lt_of_lt_of_le (b := 2 ^ 1) (by cases b <;> simp) (Nat.pow_le_pow_right (by omega) hw))
  simp only [Chip.flag, Chip.fbit, Chip.fget_fset_self c a f _ hf, this]
  cases b <;> rfl
theorem Chip.rd_bump_self (c : Chip) (a n : Nat) : (c.bump a n).rd a = .ofNat 32 (min 0xFFFFFFFF ((c.rd a).toNat + n)) := by simp [Chip.bump]
theorem Chip.rd_bump_ne (c : Chip) {a b : Nat} (n : Nat) (h : b ≠ a) : (c.bump a n).rd b = c.rd b := Chip.rd_wr_ne c _ h
theorem Chip.rd_clearRegs (c : Chip) (lo hi a : Nat) : (c.clearRegs lo hi).rd a = if lo ≤ a ∧ a < hi then resetWord a else c.rd a :=
  Tbl.get_clear _ _ _ _ _

/-! ### The tables of hidden state -/

@[simp] theorem Chip.link_setLink_self (c : Chip) (d : Nat) (x : Link) : (c.setLink d x).link d = x := Tbl.get_set_self _ _ _ _
theorem Chip.link_setLink_ne (c : Chip) {d j : Nat} (x : Link) (h : j ≠ d) : (c.setLink d x).link j = c.link j := Tbl.get_set_ne _ _ _ h
@[simp] theorem Chip.core_setCore_self (c : Chip) (k : Nat) (x : CoreX) : (c.setCore k x).core k = x := Tbl.get_set_self _ _ _ _
theorem Chip.core_setCore_ne (c : Chip) {k j : Nat} (x : CoreX) (h : j ≠ k) : (c.setCore k x).core j = c.core j := Tbl.get_set_ne _ _ _ h
@[simp] theorem Chip.chan_setChan_self (c : Chip) (ch : Nat) (x : ChanX) : (c.setChan ch x).chan ch = x := Tbl.get_set_self _ _ _ _
theorem Chip.chan_setChan_ne (c : Chip) {ch j : Nat} (x : ChanX) (h : j ≠ ch) : (c.setChan ch x).chan j = c.chan j := Tbl.get_set_ne _ _ _ h
@[simp] theorem Chip.die_setDie_self (c : Chip) (n : Nat) (x : DieX) : (c.setDie n x).die n = x := Tbl.get_set_self _ _ _ _
theorem Chip.die_setDie_ne (c : Chip) {n j : Nat} (x : DieX) (h : j ≠ n) : (c.setDie n x).die j = c.die j := Tbl.get_set_ne _ _ _ h
@[simp] theorem Chip.queue_setQueue_self (c : Chip) (q : Nat) (x : Queue) : (c.setQueue q x).queue q = x := Tbl.get_set_self _ _ _ _
theorem Chip.queue_setQueue_ne (c : Chip) {q j : Nat} (x : Queue) (h : j ≠ q) : (c.setQueue q x).queue j = c.queue j := Tbl.get_set_ne _ _ _ h
@[simp] theorem Chip.pendAt_setPendAt_self (c : Chip) (t : Nat) (x : BitVec 256) : (c.setPendAt t x).pendAt t = x := Tbl.get_set_self _ _ _ _
theorem Chip.pendAt_setPendAt_ne (c : Chip) {t j : Nat} (x : BitVec 256) (h : j ≠ t) : (c.setPendAt t x).pendAt j = c.pendAt j := Tbl.get_set_ne _ _ _ h
@[simp] theorem Chip.ctr64_setCtr64_self (c : Chip) (a : Nat) (x : Word64) : (c.setCtr64 a x).ctr64 a = x := Tbl.get_set_self _ _ _ _
theorem Chip.ctr64_setCtr64_ne (c : Chip) {a j : Nat} (x : Word64) (h : j ≠ a) : (c.setCtr64 a x).ctr64 j = c.ctr64 j := Tbl.get_set_ne _ _ _ h
@[simp] theorem Chip.can_setCan_self (c : Chip) (n : Nat) (x : CanX) : (c.setCan n x).can n = x := Tbl.get_set_self _ _ _ _
theorem Chip.can_setCan_ne (c : Chip) {n j : Nat} (x : CanX) (h : j ≠ n) : (c.setCan n x).can j = c.can j := Tbl.get_set_ne _ _ _ h
@[simp] theorem Chip.lin_setLin_self (c : Chip) (n : Nat) (x : LinX) : (c.setLin n x).lin n = x := Tbl.get_set_self _ _ _ _
theorem Chip.lin_setLin_ne (c : Chip) {n j : Nat} (x : LinX) (h : j ≠ n) : (c.setLin n x).lin j = c.lin j := Tbl.get_set_ne _ _ _ h
@[simp] theorem Chip.valve_setValve_self (c : Chip) (v : Nat) (x : ValveX) : (c.setValve v x).valve v = x := Tbl.get_set_self _ _ _ _
theorem Chip.valve_setValve_ne (c : Chip) {v j : Nat} (x : ValveX) (h : j ≠ v) : (c.setValve v x).valve j = c.valve j := Tbl.get_set_ne _ _ _ h
@[simp] theorem Chip.si_setSi_self (c : Chip) (i : Nat) (x : SiX) : (c.setSi i x).si i = x := Tbl.get_set_self _ _ _ _
theorem Chip.si_setSi_ne (c : Chip) {i j : Nat} (x : SiX) (h : j ≠ i) : (c.setSi i x).si j = c.si j := Tbl.get_set_ne _ _ _ h
@[simp] theorem Chip.fp_setFp_self (c : Chip) (p : Nat) (x : FpX) : (c.setFp p x).fp p = x := Tbl.get_set_self _ _ _ _
theorem Chip.fp_setFp_ne (c : Chip) {p j : Nat} (x : FpX) (h : j ≠ p) : (c.setFp p x).fp j = c.fp j := Tbl.get_set_ne _ _ _ h
@[simp] theorem Chip.sink_setSink_self (c : Chip) (n : Nat) (x : SinkX) : (c.setSink n x).sink n = x := Tbl.get_set_self _ _ _ _
theorem Chip.sink_setSink_ne (c : Chip) {n j : Nat} (x : SinkX) (h : j ≠ n) : (c.setSink n x).sink j = c.sink j := Tbl.get_set_ne _ _ _ h
@[simp] theorem Chip.sealX_setSealX_self (c : Chip) (ch : Nat) (x : SealX) : (c.setSealX ch x).sealX ch = x := Tbl.get_set_self _ _ _ _
theorem Chip.sealX_setSealX_ne (c : Chip) {ch j : Nat} (x : SealX) (h : j ≠ ch) : (c.setSealX ch x).sealX j = c.sealX j := Tbl.get_set_ne _ _ _ h
@[simp] theorem Chip.busOf_setBus_self (c : Chip) (rq : Req) (x : BusReq) : (c.setBus rq x).busOf rq = x := Tbl.get_set_self _ _ _ _
@[simp] theorem Chip.respOf_answer_self (c : Chip) (rq : Req) (a : Nat) (x : Word) (e : Nat) : (c.answer rq a x e).respOf rq = ⟨a, x, e⟩ :=
  Tbl.get_set_self _ _ _ _

/-! ### What Only says -/

@[simp] theorem Only.refl (l : List (Nat × Nat)) (c : Chip) : Only l c c := fun _ _ => rfl
theorem Only.trans {l : List (Nat × Nat)} {c c' c'' : Chip} (h : Only l c c') (h' : Only l c' c'') : Only l c c'' :=
  fun a ha => (h' a ha).trans (h a ha)
theorem Only.mono {l l' : List (Nat × Nat)} {c c' : Chip} (h : Only l c c') (hl : ∀ x ∈ l, x ∈ l') : Only l' c c' :=
  fun a ha => h a fun x hx => ha x (hl x hx)
/-- A module whose register table is the same reads the same. -/
theorem Only.of_regs {l : List (Nat × Nat)} {c c' : Chip} (h : c'.regs = c.regs) : Only l c c' := fun a _ => by simp [Chip.rd, h]
theorem Only.wr {l : List (Nat × Nat)} (c : Chip) (a : Nat) (x : Word) (h : ∃ y ∈ l, y.1 ≤ a ∧ a < y.2) : Only l c (c.wr a x) := by
  intro b hb
  apply Chip.rd_wr_ne
  rintro rfl
  obtain ⟨y, hy, hb'⟩ := h
  exact hb y hy hb'
theorem Only.fset {l : List (Nat × Nat)} (c : Chip) (a : Nat) (f : Fld) (v : Nat) (h : ∃ y ∈ l, y.1 ≤ a ∧ a < y.2) : Only l c (c.fset a f v) :=
  Only.wr c a _ h
theorem Only.bump {l : List (Nat × Nat)} (c : Chip) (a n : Nat) (h : ∃ y ∈ l, y.1 ≤ a ∧ a < y.2) : Only l c (c.bump a n) := Only.wr c a _ h
/-- A fold over steps that each keep to the ranges keeps to them. -/
theorem Only.foldl {α : Type} {l : List (Nat × Nat)} {f : Chip → α → Chip} (h : ∀ c x, Only l c (f c x)) :
    ∀ (xs : List α) (c : Chip), Only l c (xs.foldl f c)
  | [], c => Only.refl l c
  | x :: xs, c => (h c x).trans (Only.foldl h xs (f c x))

end Sys2Proof.Machine
end

