-- ==== Sys2Proof/Laws/Accesses.lean ====
section
/-! SUPPORT. What an access of a requester comes to: let through or stopped, waiting or issued, and what it does at the control die and
at a remote die that takes it at once. -/

namespace Sys2Proof.Machine
open Sys2Proof

/-! ### Let through or stopped (R278, R312) -/

@[simp] theorem State.onChip_id (s : State) : s.onChip (fun c => c) = s := rfl

/-- A core stays in its mode where its access names that mode. -/
theorem Chip.inMode_same (c : Chip) (rq : Req) : c.inMode rq (c.core rq.code).user = c := by simp [Chip.inMode]

theorem Chip.hostPasses_inMode (c : Chip) (rq : Req) (u : Bool) (a bit : Nat) : (c.inMode rq u).hostPasses a bit = c.hostPasses a bit := by
  unfold Chip.inMode; split <;> rfl
theorem Chip.pmpOk_inMode (c : Chip) (rq : Req) (u : Bool) (k : Nat) (v : Bool) (a n bit : Nat) :
    (c.inMode rq u).pmpOk k v a n bit = c.pmpOk k v a n bit := by
  unfold Chip.inMode; split <;> rfl

/-- An access that passes goes on; one that does not is refused to the host, or is an access fault of the core. -/
theorem State.guarded_cases (s : State) (rq : Req) (u : Bool) (a n bit : Nat) (f : State → State) :
    (s.chip.passes rq u a n bit = true ∧ s.guarded rq u a n bit f = f (s.onChip (·.inMode rq u))) ∨
    (s.chip.passes rq u a n bit = false ∧ ((rq = .host ∧ s.guarded rq u a n bit f = (s.onChip (·.inMode rq u)).onChip (·.hostStopped a bit)) ∨
      (rq.code < 4 ∧ s.guarded rq u a n bit f = (s.onChip (·.inMode rq u)).onChip (·.coreTrap rq (if bit = 1 then 7 else 5) a)))) := by
  unfold State.guarded Chip.passes
  simp only [State.onChip, Chip.hostPasses_inMode, Chip.pmpOk_inMode]
  by_cases h : rq = .host
  · subst h
    cases hp : s.chip.hostPasses a bit <;> simp [Req.code]
  · by_cases hc : rq.code < 4
    · cases hp : s.chip.pmpOk rq.code u a n bit <;> simp [h, hc, Nat.not_le.mpr hc]
    · simp [h, hc, Nat.not_lt.mp hc]

/-- A word access that is let through, in the mode of its core's last access. -/
theorem State.mayAccess_admits {s : State} {rq : Req} {a bit : Nat} (f : State → State) (h : s.chip.admits rq a bit = true) :
    s.mayAccess rq a bit f = f s := by
  rcases State.guarded_cases s rq (s.chip.core rq.code).user a 4 bit f with ⟨_, h'⟩ | ⟨h', _⟩
  · simpa [State.mayAccess, State.onChip, Chip.inMode_same] using h'
  · exact absurd h (by simp [Chip.admits, h'])

/-! ### At once (R57, R58, R383) -/

theorem Chip.access_free {c : Chip} {rq : Req} (x : Held) (h : c.stalled rq = false) : c.access rq x = c.issue rq x := by simp [Chip.access, h]
theorem Chip.access_waits {c : Chip} {rq : Req} (x : Held) (h : c.stalled rq = true) : c.access rq x = c.hold rq x := by simp [Chip.access, h]

theorem Chip.blockOff_awake {c : Chip} (a : Nat) (h : c.awake = true) : c.blockOff a = false := by simp [Chip.blockOff, h]

/-- A write to a control-die register that takes effect at once. -/
theorem State.write_atOnce {s : State} {rq : Req} {a : Nat} (x : Word) (h : s.chip.atOnce rq a 1 = true) (hd : dieOf a = 0) (ha : isAlias a = false) :
    s.write rq a x = s.onChip fun c => (c.touch a).regWrite rq a x := by
  simp only [Chip.atOnce, Bool.and_eq_true, Bool.not_eq_true'] at h
  obtain ⟨⟨hw, hs⟩, hp⟩ := h
  rw [State.write, State.mayAccess_admits _ hp]
  simp [State.onChip, Chip.periphWrite, Chip.access_free _ hs, Chip.issue, Chip.writeNow, target, ha, Chip.blockOff_awake _ hw, hd, Chip.applyWrite]

/-- A read of a control-die register that takes effect at once. -/
theorem State.read_atOnce {s : State} {rq : Req} {a : Nat} (h : s.chip.atOnce rq a 0 = true) (hd : dieOf a = 0) (ha : isAlias a = false) :
    s.read rq a = s.onChip fun c => ((c.touch a).regRead rq a).2.answer rq a ((c.touch a).regRead rq a).1 := by
  simp only [Chip.atOnce, Bool.and_eq_true, Bool.not_eq_true'] at h
  obtain ⟨⟨hw, hs⟩, hp⟩ := h
  rw [State.read, State.mayAccess_admits _ hp]
  simp [State.onChip, Chip.periphRead, Chip.access_free _ hs, Chip.issue, Chip.readNow, target, ha, Chip.blockOff_awake _ hw, hd, Chip.farRead]

/-- A write to a register of a remote die that lands at once. -/
theorem State.write_direct {s : State} {rq : Req} {a : Nat} (x : Word) (h : s.chip.direct rq a = true) (hd : dieOf a ≠ 0) (ha : isAlias a = false) :
    s.write rq a x = s.onChip fun c => c.post rq a x := by
  simp only [Chip.direct, Chip.atOnce, Bool.and_eq_true, Bool.not_eq_true', decide_eq_true_eq] at h
  obtain ⟨⟨⟨⟨⟨hw, hs⟩, hp⟩, hl⟩, hi⟩, ho⟩ := h
  rw [State.write, State.mayAccess_admits _ hp]
  simp [State.onChip, Chip.periphWrite, Chip.access_free _ hs, Chip.issue, Chip.writeNow, target, ha, Chip.blockOff_awake _ hw, hd, hl, Nat.not_le.mpr ho]

/-! ### The supervisor's own writes (R24, R352) -/

theorem Chip.settle_inStep {c : Chip} {d : Nat} (h : c.inStep d = true) : c.settle d = c := by simp [Chip.settle, h]
/-- At the control die it takes effect there. -/
theorem Chip.supWrite_near (c : Chip) (rq : Req) {a : Nat} (x : Word) (h : dieOf a = 0) : c.supWrite rq a x = (c.touch a).regWrite rq a x := by
  simp [Chip.supWrite, h]
/-- At a remote die whose link is up and in step it lands; with the link down it does nothing. -/
theorem Chip.supWrite_far {c : Chip} (rq : Req) {a : Nat} (x : Word) (h : dieOf a ≠ 0) (hl : c.linkUp (dieOf a) = true) (hi : c.inStep (dieOf a) = true) :
    c.supWrite rq a x = (c.setLink (dieOf a) { c.link (dieOf a) with total := (c.link (dieOf a)).total + 1 }).landed rq a x := by
  simp [Chip.supWrite, h, hl, Chip.settle_inStep hi]
theorem Chip.supWrite_down {c : Chip} (rq : Req) {a : Nat} (x : Word) (h : dieOf a ≠ 0) (hl : c.linkUp (dieOf a) = false) : c.supWrite rq a x = c := by
  simp [Chip.supWrite, h, hl]

end Sys2Proof.Machine
end

