-- ==== Sys2Proof/Laws/Commands.lean ====
section
/-! SUPPORT. What the operations shared by the command set do: how a packet is taken, when checks pass, a hardware push, a
completion, and the commands in flight that finish. -/

namespace Sys2Proof.Machine
open Sys2Proof

/-! ### Taking a packet (R334 to R338, R344) -/

/-- The checks pass, or one of them decides. -/
theorem firstFail_none {l : List Check} : firstFail l = none ↔ ∀ x ∈ l, x.1 = false := by
  induction l with
  | nil => simp [firstFail]
  | cons x l ih =>
    simp only [firstFail]
    split
    · next h => simp [h]
    · next h => simp [ih, h]
theorem firstFail_cons_pass {x : Check} {l : List Check} (h : x.1 = false) : firstFail (x :: l) = firstFail l := by simp [firstFail, h]
theorem firstFail_cons_fail {x : Check} {l : List Check} (h : x.1 = true) : firstFail (x :: l) = some x.2 := by simp [firstFail, h]
theorem firstFail_append_pass {l l' : List Check} (h : firstFail l = none) : firstFail (l ++ l') = firstFail l' := by
  induction l with
  | nil => rfl
  | cons x l ih =>
    have hx : x.1 = false := firstFail_none.1 h x (by simp)
    rw [List.cons_append, firstFail_cons_pass hx]
    exact ih (by rwa [firstFail_cons_pass hx] at h)

/-- Everything a command row can do: no packet of it is served; a check refuses it; it is carried out. -/
theorem Chip.command_cases (c : Chip) (rq : Req) (op : Nat) (lens : Cmd → Bool) (checks : Chip → Cmd → List Check) (run : Chip → Cmd → Chip) :
    (c.command rq op lens checks run = c ∧ c.intake rq op lens checks = .none) ∨
    (∃ h ws r, c.headPacket (cmdQueue rq) = h :: ws ∧ c.serves rq = true ∧ (cmdOf rq h ws).op = op ∧
      firstFail ((c.takePacket (cmdQueue rq)).commonChecks (cmdOf rq h ws) h lens ++ checks (c.takePacket (cmdQueue rq)) (cmdOf rq h ws)) = some r ∧
      c.command rq op lens checks run = (c.takePacket (cmdQueue rq)).refuse (cmdOf rq h ws) r) ∨
    (∃ h ws, c.headPacket (cmdQueue rq) = h :: ws ∧ c.serves rq = true ∧ (cmdOf rq h ws).op = op ∧
      firstFail ((c.takePacket (cmdQueue rq)).commonChecks (cmdOf rq h ws) h lens ++ checks (c.takePacket (cmdQueue rq)) (cmdOf rq h ws)) = none ∧
      c.command rq op lens checks run = run (c.takePacket (cmdQueue rq)) (cmdOf rq h ws)) := by
  unfold Chip.command Chip.intake
  cases hp : c.headPacket (cmdQueue rq) with
  | nil => exact .inl ⟨rfl, rfl⟩
  | cons h ws =>
    dsimp only
    by_cases hs : (!c.serves rq || (cmdOf rq h ws).op != op) = true
    · rw [if_pos hs]; exact .inl ⟨rfl, rfl⟩
    · rw [if_neg hs]
      simp only [Bool.or_eq_true, Bool.not_eq_true', bne_iff_ne, ne_eq, not_or, Bool.not_eq_false, Decidable.not_not] at hs
      cases hf : firstFail ((c.takePacket (cmdQueue rq)).commonChecks (cmdOf rq h ws) h lens ++
          checks (c.takePacket (cmdQueue rq)) (cmdOf rq h ws)) with
      | some r => exact .inr (.inl ⟨h, ws, r, rfl, hs.1, hs.2, hf, rfl⟩)
      | none => exact .inr (.inr ⟨h, ws, rfl, hs.1, hs.2, hf, rfl⟩)

/-- A packet at the front that passes its checks is carried out. -/
theorem Chip.command_accepts (c : Chip) (rq : Req) (op : Nat) (lens : Cmd → Bool) (checks : Chip → Cmd → List Check) (run : Chip → Cmd → Chip)
    {h : Word} {ws : List Word} (hp : c.headPacket (cmdQueue rq) = h :: ws) (hs : c.serves rq = true) (ho : (cmdOf rq h ws).op = op)
    (hf : firstFail ((c.takePacket (cmdQueue rq)).commonChecks (cmdOf rq h ws) h lens ++ checks (c.takePacket (cmdQueue rq)) (cmdOf rq h ws)) = none) :
    c.command rq op lens checks run = run (c.takePacket (cmdQueue rq)) (cmdOf rq h ws) := by
  unfold Chip.command Chip.intake
  rw [hp]
  simp [hs, ho, hf]

/-- A packet at the front that fails a check is refused. -/
theorem Chip.command_refuses (c : Chip) (rq : Req) (op : Nat) (lens : Cmd → Bool) (checks : Chip → Cmd → List Check) (run : Chip → Cmd → Chip)
    {h : Word} {ws : List Word} {r : Refuse} (hp : c.headPacket (cmdQueue rq) = h :: ws) (hs : c.serves rq = true) (ho : (cmdOf rq h ws).op = op)
    (hf : firstFail ((c.takePacket (cmdQueue rq)).commonChecks (cmdOf rq h ws) h lens ++ checks (c.takePacket (cmdQueue rq)) (cmdOf rq h ws)) = some r) :
    c.command rq op lens checks run = (c.takePacket (cmdQueue rq)).refuse (cmdOf rq h ws) r := by
  unfold Chip.command Chip.intake
  rw [hp]
  simp [hs, ho, hf]

/-- The opcode, tag and payload of a packet whose header cmdHeader wrote. -/
theorem cmdOf_cmdHeader (rq : Req) {op tag : Nat} (ws : List Word) (ho : op < 256) (ht : tag < 128) (hl : ws.length ≤ 62) :
    cmdOf rq (cmdHeader op tag ws.length) ws = { rq := rq, op := op, tag := tag, w := ws } := by
  have h : (cmdHeader op tag ws.length).toNat = op * 2 ^ 24 + tag * 2 ^ 16 + ws.length := by
    simp only [cmdHeader, BitVec.toNat_ofNat]
    apply Nat.mod_eq_of_lt
    omega
  simp only [cmdOf, h, Cmd.mk.injEq, true_and, and_true]
  omega

/-! ### Pushes and completions (R331, R339, R344) -/

/-- A hardware push that fits appends its packet, and counts it. -/
theorem Chip.hwPush_fits (c : Chip) (q : Nat) (ws : List Word) (h : ws ≠ []) (hf : ws.length ≤ c.qFree q) :
    c.hwPush q ws = (c.setQueue q { c.queue q with fill := (c.queue q).fill ++ packetWords ws }).qCommitted q := by
  simp [Chip.hwPush, h, hf]
/-- One that does not fit is dropped whole. -/
theorem Chip.hwPush_drops (c : Chip) (q : Nat) (ws : List Word) (h : ws ≠ []) (hf : c.qFree q < ws.length) : c.hwPush q ws = c.qDrop q := by
  simp [Chip.hwPush, h, hf]

theorem Chip.compPacket_ne_nil (c : Chip) (op tag : Nat) (st : CmdStatus) (fl : Nat) (res : List Word) : c.compPacket op tag st fl res ≠ [] := by
  simp [Chip.compPacket]
@[simp] theorem Chip.compPacket_length (c : Chip) (op tag : Nat) (st : CmdStatus) (fl : Nat) (res : List Word) :
    (c.compPacket op tag st fl res).length = res.length + 2 := by simp [Chip.compPacket]

/-- A completion that fits, none of its requester's being held, is pushed into the completion queue. -/
theorem Chip.complete_fits (c : Chip) (rq : Req) (op tag : Nat) (st : CmdStatus) (res : List Word) (fl : Nat)
    (hh : (c.heldComps.all fun h => h.1 ≠ rq) = true) (hf : res.length + 2 ≤ c.qFree (compQueue rq)) :
    c.complete rq op tag st res fl = c.hwPush (compQueue rq) (c.compPacket op tag st fl res) := by
  unfold Chip.complete Chip.deliver
  rw [if_pos ⟨hh, by simpa using hf⟩]
/-- One that does not is held, which raises EV225. -/
theorem Chip.complete_holds (c : Chip) (rq : Req) (op tag : Nat) (st : CmdStatus) (res : List Word) (fl : Nat)
    (h : (c.heldComps.all fun h => h.1 ≠ rq) = false ∨ c.qFree (compQueue rq) < res.length + 2) :
    c.complete rq op tag st res fl = { c with heldComps := c.heldComps ++ [(rq, c.compPacket op tag st fl res)] }.raise 225 := by
  unfold Chip.complete Chip.deliver
  rw [if_neg]
  rintro ⟨h1, h2⟩
  rcases h with h | h
  · rw [h1] at h; exact absurd h (by simp)
  · simp at h2; omega

/-- Nothing finishes where no command in flight is picked. -/
theorem Chip.finish_none (c : Chip) (p : Cmd → Bool) (st : CmdStatus) (res : List Word) (h : ∀ k ∈ c.cmds, p k = false) : c.finish p st res = c := by
  have h1 : c.cmds.filter p = [] := by simpa [List.filter_eq_nil_iff] using h
  have h2 : (c.cmds.filter fun k => !p k) = c.cmds := by simpa [List.filter_eq_self] using h
  simp [Chip.finish, h1, h2]
@[simp] theorem Chip.finish_nil (c : Chip) (p : Cmd → Bool) (st : CmdStatus) (res : List Word) (h : c.cmds = []) : c.finish p st res = c :=
  Chip.finish_none c p st res (by simp [h])

/-! ### The front of the queue -/

/-- Every meaning answers a next state: the module's commands neither fault nor refuse. -/
theorem next_of_onChip (s : State) (f : Chip → Chip) :
    (Host.Outcome.next (s.onChip f) : Host.Outcome State Fault Refusal) = .next { s with chip := f s.chip } := rfl

end Sys2Proof.Machine
end

