-- ==== Sys2Proof/Laws/Memory.lean ====
section
/-! SUPPORT. The laws of SRAM: reading after writing, writes elsewhere, and that every operation of memory keeps the canonical
form. -/

namespace Sys2Proof.Machine
open Sys2Proof

@[simp] theorem Memory.read_write_self (m : List Host.Cell) (a : Nat) (b : Byte) : Memory.read (Memory.write m a b) a = b :=
  Tbl.get_set_self _ _ _ _
theorem Memory.read_write_ne (m : List Host.Cell) {a x : Nat} (b : Byte) (h : x ≠ a) : Memory.read (Memory.write m a b) x = Memory.read m x :=
  Tbl.get_set_ne _ _ _ h

/-- Bytes written from an address on leave every other byte alone. -/
theorem Memory.read_writes_out (x : Nat) : ∀ (l : List Byte) (m : List Host.Cell) (a : Nat),
    (x < a ∨ a + l.length ≤ x) → Memory.read (Memory.writes m a l) x = Memory.read m x
  | [], _, _, _ => rfl
  | b :: l, m, a, h => by
    simp only [List.length_cons] at h
    rw [Memory.writes, Memory.read_writes_out x l _ _ (by omega), Memory.read_write_ne _ _ (by omega)]

/-- Bytes written from an address on are read back. -/
theorem Memory.read_writes_in : ∀ (l : List Byte) (m : List Host.Cell) (a k : Nat) (h : k < l.length),
    Memory.read (Memory.writes m a l) (a + k) = l[k]
  | b :: l, m, a, 0, _ => by
    show Memory.read (Memory.writes (Memory.write m a b) (a + 1) l) a = b
    rw [Memory.read_writes_out a l _ _ (by omega)]; simp
  | b :: l, m, a, k + 1, h => by
    have h' : k < l.length := by simpa using h
    rw [Memory.writes, show a + (k + 1) = (a + 1) + k by omega, Memory.read_writes_in l _ _ k h']; simp

theorem Memory.read_zero (m : List Host.Cell) (lo hi x : Nat) :
    Memory.read (Memory.zero m lo hi) x = if lo ≤ x ∧ x < hi then 0 else Memory.read m x := Tbl.get_clear _ _ _ _ _

/-! ### The canonical form -/

theorem Memory.wf_write (m : List Host.Cell) (a : Nat) (b : Byte) (h : Memory.wf m = true) : Memory.wf (Memory.write m a b) = true :=
  Tbl.wf_set _ _ _ _ h
theorem Memory.wf_writes : ∀ (l : List Byte) (m : List Host.Cell) (a : Nat), Memory.wf m = true → Memory.wf (Memory.writes m a l) = true
  | [], _, _, h => h
  | _ :: l, _, _, h => Memory.wf_writes l _ _ (Memory.wf_write _ _ _ h)
theorem Memory.wf_zero (m : List Host.Cell) (lo hi : Nat) (h : Memory.wf m = true) : Memory.wf (Memory.zero m lo hi) = true :=
  Tbl.wf_clear _ _ _ _ h

theorem State.memOk_onChip (s : State) (f : Chip → Chip) : (s.onChip f).MemOk ↔ s.MemOk := Iff.rfl
theorem State.memOk_put (s : State) (rq : Req) (a : Nat) (bs : List Byte) (h : s.MemOk) : (s.put rq a bs).MemOk := Memory.wf_writes _ _ _ h
theorem State.memOk_store (s : State) (rq : Req) (a : Nat) (bs : List Byte) (h : s.MemOk) : (s.store rq a bs).MemOk := by
  unfold State.store
  split
  · exact h
  · split
    · exact h
    · exact State.memOk_put s rq a bs h
theorem State.memOk_storeAll (rq : Req) : ∀ (s : State) (a : Nat) (bs : List Byte), s.MemOk → (s.storeAll rq a bs).MemOk
  | s, a, b0 :: b1 :: b2 :: b3 :: l, h => State.memOk_storeAll rq _ _ l (State.memOk_store s rq a _ h)
  | s, a, [], h => h
  | s, a, [b0], h => State.memOk_store s rq a _ h
  | s, a, [b0, b1], h => State.memOk_store s rq a _ h
  | s, a, [b0, b1, b2], h => State.memOk_store s rq a _ h
theorem State.memOk_zeroBanks (s : State) (p : Nat → Bool) (h : s.MemOk) : (s.zeroBanks p).MemOk := by
  unfold State.zeroBanks
  suffices H : ∀ (l : List Nat) (s : State), s.MemOk → (l.foldl (fun s k =>
      if p k then { s with sram := Memory.zero s.sram (sramBase + k * bankSize) (sramBase + (k + 1) * bankSize) } else s) s).MemOk from H _ s h
  intro l
  induction l with
  | nil => exact fun s h => h
  | cons k l ih =>
    intro s h
    refine ih _ ?_
    dsimp only
    split
    · exact Memory.wf_zero _ _ _ h
    · exact h

/-- A store that is not dropped is what its bytes say; the module beside memory only notes it (R274 to R276). -/
theorem State.store_cases (s : State) (rq : Req) (a : Nat) (bs : List Byte) :
    (s.store rq a bs).sram = s.sram ∨ s.store rq a bs = s.put rq a bs := by
  unfold State.store
  split
  · exact .inl rfl
  · split
    · exact .inl rfl
    · exact .inr rfl

end Sys2Proof.Machine
end

