-- ==== Sys2Proof/WellFormed.lean ====
section
/-! DEFINITION. What the spec says of a command's operands beyond their types. The types already bound every number of an
object; the checks below bound what an environment hands over as a list. -/

namespace Sys2Proof

/-- R364: the data bytes of a frame, by its format and DLC; a remote frame has none. -/
def CanFrame.bytes (f : CanFrame) : Nat :=
  if f.rtr then 0 else if f.dlc.val ≤ 8 then f.dlc.val else if !f.fdf then 8
  else [12, 16, 20, 24, 32, 48, 64].getD (f.dlc.val - 9) 64

/-- R364: the data words are those that hold the data bytes; the remote frame is of the classical format. -/
def CanFrame.wf (f : CanFrame) : Bool := f.data.length == (f.bytes + 3) / 4 && !(f.rtr && f.fdf)

/-- The same of what a controller receives. -/
def CanRx.wf : CanRx → Bool
  | .valid f => f.wf
  | .error _ => true

/-- R378: a responder takes at most 9 bytes. -/
def LinEnd.wf : LinEnd → Bool
  | .response b | .bit b | .framing b => decide (b.length ≤ 9)
  | .sent | .sync => true

/-- The operands of a command are such as the spec lets come. A command not named has no check beyond its types. Assumption log 44 (DESIGN CHOICE). -/
def Instr.wf : Instr → Bool
  /- R22: a status push carries 1 to 64 words. -/
  | .statusPushFrame _ _ ws _ _ => decide (1 ≤ ws.length) && decide (ws.length ≤ 64)
  /- R164, R167, R194: a window has the 250 current samples of each of the die's 48 channels and some of its voltage, and the
  feed's 1,000; R184: the 50 samples of a start's first 200 µs. -/
  | .measWindowEnd _ ws feed early _ =>
    ws.length == 48 && (ws.all fun w => w.cur.length == 250 && !w.vout.isEmpty) && feed.length == 1000 && early.all fun e => e.2.length == 50
  /- R136: a sample for each channel of the die. -/
  | .feedUndervoltage _ ms | .feedOvervoltage _ ms => ms.length == 48
  /- R171, R172: a stream's packet holds 256 means of up to 128 samples. -/
  | .streamPacketComplete _ samples odd => decide (256 ≤ samples.length) && decide (samples.length ≤ 32768) && (odd.isEmpty || odd.length == samples.length)
  /- R143, R194: the ten samples of a 10 µs interval. -/
  | .feedDipDetect x => x.feed.length == 10
  /- R174: the five samples of an on-state window. -/
  | .onStateWindowEnd _ samples => samples.length == 5
  /- R268: a word for each field point. -/
  | .fpMeasPush x => x.ms.length == 32
  /- R401: a patrol cycle decodes each input at most once. -/
  | .patrolCycle codes _ => (codes.map (·.1)).dedup.length == codes.length
  | .canFrameReceived _ rx _ | .swkFrameDecoded _ rx _ => rx.wf
  | .nmFrameReceived _ f => f.wf
  | .linFrameReceived _ how => how.wf
  | .linResponseTimeout _ b => decide (b.length ≤ 9)
  | _ => true

end Sys2Proof
end

