-- ==== Sys2Proof/Tests/Slice0.lean ====
section
/-! SUPPORT. The model's own tests: words and values the spec writes out, well-formedness, and states that meet the hypotheses of the
statements. -/

namespace Sys2Proof.Tests
open Sys2Proof Sys2Proof.Machine
set_option Elab.async false

/-- A module in RUN whose seven links are up, with the registers l beside. -/
def chip (l : List (Nat × Word)) : Chip :=
  ([(R.SYS_MODE, 0x54#32), (R.SYS_LINK_STATUS 1, 1), (R.SYS_LINK_STATUS 2, 1), (R.SYS_LINK_STATUS 3, 1), (R.SYS_LINK_STATUS 4, 1),
    (R.SYS_LINK_STATUS 5, 1), (R.SYS_LINK_STATUS 6, 1), (R.SYS_LINK_STATUS 7, 1)] ++ l).foldl (fun c x => c.wr x.1 x.2) {}
def st (l : List (Nat × Word)) : State := { chip := chip l }
/-- The same with more of the module's state. -/
def stx (l : List (Nat × Word)) (f : Chip → Chip) : State := { chip := f (chip l) }

/-- A module in RUN with a command packet of rq at the front of its command queue. -/
def cs (rq : Req) (op tag : Nat) (ws : List Word) (l : List (Nat × Word)) (f : Chip → Chip := id) : State :=
  stx ([(R.Q_CFG (cmdQueue rq), F.Q_CFG_SIZE.put (F.Q_CFG_EN.of 1) 2), (R.Q_CFG (compQueue rq), F.Q_CFG_SIZE.put (F.Q_CFG_EN.of 1) 2)] ++ l)
    fun c => f (c.setQueue (cmdQueue rq) { drain := packetWords (cmdHeader op tag ws.length :: ws) })


/-! ### Values the spec writes out -/

/-- spec/01, "finding a channel's block": CH100 lies on power die 2, local 4, class H, at 0x40300400. -/
theorem test_channel_block : chBase 100 = 0x40300400 ∧ pdie 100 = 2 ∧ 100 % 48 = 4 ∧ chClass 4 = 0 := by decide
/-- spec/01, "setting a link control bit": the alias words of bits 0 and 1 of SYS_LINK_CTRL of D3. -/
theorem test_alias_words : R.SYS_LINK_CTRL 3 = 0x40000160 ∧ aliasOf 0x60002C00 = (0x40000160, 0) ∧ aliasOf 0x60002C04 = (0x40000160, 1) := by decide
/-- The same: the alias write clears EV_UP_EN and leaves EV_DEGRADED_EN. -/
theorem test_alias_write :
    (match execAliasWrite .sup false .word 0x60002C00 0 (st [(R.SYS_LINK_CTRL 3, 3)]) with
     | .next t => t.chip.rd (R.SYS_LINK_CTRL 3)
     | _ => 0xFF) = 2 := by decide +kernel
/-- spec/10, "one polling cycle": host address 0x820010 is Q00's Q_PUSH. -/
theorem test_host_address : (chip []).hostAddr 0x820010 = 0x40020010 ∧ R.Q_PUSH 0 = 0x40020010 := by decide +kernel
/-- spec/11, "the coach host switches CH100": the packet that Q00 holds gives the completion the table writes. -/
theorem test_coach_host :
    (match execChSet .host (cs .host 0x10 5 [0x64, 0x80000001, 0] [(R.CH_OWNER 100, 5)]) with
     | .next t => (t.chip.queue 1).fill.map (·.data)
     | _ => []) = [0x10050002, 0, 0x200] := by decide +kernel
/-- The header of that packet. -/
theorem test_coach_header : cmdHeader 0x10 5 3 = 0x10050003#32 := by decide
/-- spec/03, "30 starts on one feed", step 1: 120 A of LED modules, CH048 makes 168 A, CH049 is deferred. -/
theorem test_thirty_starts :
    (let c := (List.range 8).foldl (fun c k => c.wr (R.CH_ACTIVE_CFG (56 + k)) (F.CH_ACTIVE_CFG_PROFILE.of 1)) (chip [(R.IS_BUDGET 1, 2000),
        (R.CH_ACTIVE_CFG 48, F.CH_ACTIVE_CFG_PRIO.put (F.CH_ACTIVE_CFG_PROFILE.of 2) 1),
        (R.CH_ACTIVE_CFG 49, F.CH_ACTIVE_CFG_PRIO.put (F.CH_ACTIVE_CFG_PROFILE.of 2) 1)])
     let c := c.arrive 1 [48, 49, 56, 57, 58, 59, 60, 61, 62, 63]
     (c.booked 1, (c.die 1).reqs.map (·.ch), c.rd (R.IS_DEFER_CNT 1))) = (168000, [49], 1) := by decide +kernel
/-- spec/05, "a dimmed saloon strip": T = 122 ticks, which SLEW 2 does not limit. -/
theorem test_dimmed_strip :
    (let c := chip [(R.CH_ACTIVE_CMD 130, F.CH_ACTIVE_CMD_DUTY.of 20), (R.CH_ACTIVE_PWM 130, F.CH_ACTIVE_PWM_PERIOD.of 25000),
        (R.CH_ACTIVE_CFG 130, F.CH_ACTIVE_CFG_SLEW.of 2)]
     (c.rawOn 130, c.minTime 130, c.dutyLimited 130)) = (122, 80, false) := by decide +kernel
/-- spec/06, "saloon breathing": halfway up, lane 0 is 2047 and the duty is 1023; 47 × 32 ms make 1,504 ms. -/
theorem test_breathing :
    rampAt 0 4095 752 1504 = 2047 ∧ stepTicks 0xAF = 1504 ∧
      (chip [(R.PE_CTRL 2, F.PE_CTRL_GAMMA.of 1), (R.PE_LANE 2 0, F.PE_LANE_LO.of 2047)]).laneDuty 2 0 = 1023 := by decide +kernel
/-- spec/08, "tipper crane selector": codes in each position's range fall in its band. -/
theorem test_crane_selector :
    [7, 25, 42, 128, 146, 218].map (ladderBand [8, 33, 80, 135, 200, 1023, 1023]) = [0, 1, 2, 3, 4, 5] := by decide +kernel
/-- spec/12, "500 kbit/s and 2 Mbit/s": the reset timing is that of the example. -/
theorem test_can_timing : resetWord (R.CAN_NBT 1) = 0x013E0F0F#32 ∧ resetWord (R.CAN_DBT 1) = 0x010E0303#32 := by decide +kernel

/-! ### Well-formedness -/

/-- A term that each check of Instr.wf refuses. -/
theorem test_ill_formed :
    (Instr.statusPushFrame 1 0 [] [] 0).wf = false ∧
    (Instr.measWindowEnd 0 [] [] [] []).wf = false ∧
    (Instr.feedUndervoltage 0 []).wf = false ∧ (Instr.feedOvervoltage 0 []).wf = false ∧
    (Instr.streamPacketComplete 0 [] []).wf = false ∧ (Instr.feedDipDetect ⟨0, []⟩).wf = false ∧
    (Instr.onStateWindowEnd 0 []).wf = false ∧ (Instr.fpMeasPush ⟨[], 0⟩).wf = false ∧
    (Instr.patrolCycle [(3, 1), (3, 2)] {}).wf = false ∧
    (Instr.canFrameReceived 0 (.valid ⟨false, 5, 8, false, false, false, false, [1]⟩) 0).wf = false ∧
    (Instr.swkFrameDecoded 0 (.valid ⟨false, 5, 8, true, false, false, true, []⟩) {}).wf = false ∧
    (Instr.nmFrameReceived 0 ⟨false, 5, 4, false, false, false, false, []⟩).wf = false ∧
    (Instr.linFrameReceived 0 (.response (List.replicate 10 0))).wf = false ∧
    (Instr.linResponseTimeout 0 (List.replicate 10 0)).wf = false := by decide
/-- The same with operands in range. -/
theorem test_well_formed :
    (Instr.statusPushFrame 1 0 [7] [] 0).wf = true ∧
    (Instr.patrolCycle [(3, 1), (4, 2)] {}).wf = true ∧
    (Instr.canFrameReceived 0 (.valid ⟨false, 5, 8, false, false, false, false, [1, 2]⟩) 0).wf = true ∧
    (Instr.nmFrameReceived 0 ⟨false, 5, 4, false, false, false, false, [1]⟩).wf = true ∧
    (Instr.linFrameReceived 0 (.response [1, 2])).wf = true ∧ (Instr.nop .host).wf = true := by decide

/-! ### The queue -/

/-- A state with a command at the front, and one with none. -/
theorem test_step_front : step { st [] with pending := [.wakeBypassOpen, .wakeBlankEnd] } = exec .wakeBypassOpen { st [] with pending := [.wakeBlankEnd] } := rfl
theorem witness_StepRunsTheFrontCommand :
    ({ st [] with pending := [.wakeBypassOpen, .wakeBlankEnd] } : State).pending = .wakeBypassOpen :: [.wakeBlankEnd] ∧ (st []).pending = [] := ⟨rfl, rfl⟩
/-- A state in canonical form whose step answers a next state. -/
theorem witness_EveryStepKeepsMemoryCanonical :
    ({ st [] with sram := [(0x20000000, 7)], pending := [.wakeBypassOpen] } : State).MemOk ∧
      step { st [] with sram := [(0x20000000, 7)], pending := [.wakeBypassOpen] } =
        .next ({ st [] with sram := [(0x20000000, 7)] }.onChip fun c => { c with bypass := false }) := by
  exact ⟨by unfold State.MemOk; decide, rfl⟩
theorem witness_CommandsLeaveTheQueueAlone : exec .wakeBypassOpen (st []) = .next ((st []).onChip fun c => { c with bypass := false }) := rfl
/-- A die whose bookings lie within its budget, and a command that re-examines it. -/
theorem witness_SchedulerKeepsTheBudget :
    (chip []).booked 1 ≤ 100 * (chip []).fget (R.IS_BUDGET 1) F.IS_BUDGET_BUDGET ∧
      ∃ t, exec (.schedReexamine 1) (st []) = .next t := ⟨by decide +kernel, _, rfl⟩

/-! ### States and operands that meet the hypotheses of the statements -/

/-- States and operands that meet the hypotheses of ResetLeavesTheStatedValues, clause by clause. -/
theorem witness_ResetLeavesTheStatedValues :
    ((fun (d) => 1 ≤ d ∧ d < 8) 3) ∧
    ((fun (ch) => ch < 192) 3) ∧
    ((fun (k) => k < 256) 3) ∧
    ((fun (n) => n < 4) 3) := by
  refine ⟨?_, ?_, ?_, ?_⟩ <;> decide +kernel

/-- States and operands that meet the hypotheses of ClockAndCrystalRows, clause by clause. -/
theorem witness_ClockAndCrystalRows :
    ((fun (s : State) => s.chip.awake = true ∧ s.chip.flag R.SYS_CLK_STATUS F.SYS_CLK_STATUS_XTAL40_OK = true ∧ ((s.chip.mode = 3 ∨ s.chip.mode = 4 ∨ s.chip.mode = 6))) (st [(R.SYS_CLK_STATUS, 1)])) ∧
    ((fun (s : State) => s.chip.x32 = false ∧ s.chip.linkUp 1 = true) (st [])) ∧
    ((fun (s : State) => s.chip.x32 = true) (stx [] ({ · with x32 := true }))) := by
  refine ⟨?_, ?_, ?_⟩ <;> decide +kernel

/-- States and operands that meet the hypotheses of FramesOfALinkThatIsUp, clause by clause. -/
theorem witness_FramesOfALinkThatIsUp :
    ((fun (d : Fin 8) (addr : BitVec 24) (data : Word) (rq : Req) (seq : BitVec 6) (crc : BitVec 16) (f : Sent) (l : List Sent) (s : State) => d ≠ 0 ∧ s.chip.linkUp d = true ∧ crc.toNat = frameCrc [(24, addr.toNat), (32, data.toNat), (4, rq.code), (6, seq.toNat)] ∧ (s.chip.link d).sent = f :: l ∧ f.landed = false ∧ f.seq = seq.toNat ∧ f.write = true ∧ f.rq = rq ∧ target f.addr = dieAddr d addr ∧ f.data = data ∧ (s.chip.link d).rxSeq = seq.toNat) ((2 : Fin 8)) (0x40020#24) (5#32) .sup (0#6) (BitVec.ofNat 16 (frameCrc [(24, 0x40020), (32, 5), (4, 4), (6, 0)])) (Sent.mk 0 .sup true 0x40240020 5 false 1) (([] : List Sent)) (stx [] fun c => c.setLink 2 { txSeq := 1, total := 1, sent := [⟨0, .sup, true, 0x40240020, 5, false, 1⟩] })) ∧
    ((fun (d : Fin 8) (addr : BitVec 24) (rq : Req) (seq : BitVec 6) (crc : BitVec 16) (f : Sent) (l : List Sent) (s : State) => d ≠ 0 ∧ s.chip.linkUp d = true ∧ crc.toNat = frameCrc [(24, addr.toNat), (4, rq.code), (6, seq.toNat)] ∧ (s.chip.link d).sent = f :: l ∧ f.landed = false ∧ f.seq = seq.toNat ∧ f.write = false ∧ f.rq = rq ∧ f.addr = dieAddr d addr ∧ isAlias f.addr = false ∧ (s.chip.link d).rxSeq = seq.toNat) ((2 : Fin 8)) (0x40020#24) .sup (0#6) (BitVec.ofNat 16 (frameCrc [(24, 0x40020), (4, 4), (6, 0)])) (Sent.mk 0 .sup false 0x40240020 0 false 1) (([] : List Sent)) (stx [] fun c => c.setLink 2 { txSeq := 1, sent := [⟨0, .sup, false, 0x40240020, 0, false, 1⟩] })) ∧
    ((fun (d : Fin 8) (data : Word) (seq : BitVec 6) (crc : BitVec 16) (f : Sent) (s : State) => d ≠ 0 ∧ s.chip.linkUp d = true ∧ crc.toNat = frameCrc [(32, data.toNat), (6, seq.toNat)] ∧ (s.chip.link d).sent = [f] ∧ f.seq = seq.toNat ∧ f.write = false ∧ f.landed = true ∧ (s.chip.link d).answers = [(seq.toNat, data)] ∧ s.chip.noneWaits = true) ((2 : Fin 8)) (7#32) (0#6) (BitVec.ofNat 16 (frameCrc [(32, 7), (6, 0)])) (Sent.mk 0 .sup false 0x40240020 0 true 1) (stx [] fun c => c.setLink 2 { txSeq := 1, rxSeq := 1, sent := [⟨0, .sup, false, 0x40240020, 0, true, 1⟩], answers := [(0, 7)] })) ∧
    ((fun (d : Fin 8) (seq : BitVec 6) (crc : BitVec 16) (f : Sent) (l : List Sent) (s : State) => d ≠ 0 ∧ s.chip.linkUp d = true ∧ crc.toNat = frameCrc [(6, seq.toNat)] ∧ (s.chip.link d).sent = f :: l ∧ f.seq = seq.toNat ∧ f.write = true ∧ f.landed = true) ((2 : Fin 8)) (0#6) (BitVec.ofNat 16 (frameCrc [(6, 0)])) (Sent.mk 0 .sup true 0x40240020 0 true 1) (([] : List Sent)) (stx [] fun c => c.setLink 2 { txSeq := 1, rxSeq := 1, sent := [⟨0, .sup, true, 0x40240020, 0, true, 1⟩] })) ∧
    ((fun (d : Fin 8) (seq : BitVec 6) (crc : BitVec 16) (f : Sent) (l : List Sent) (s : State) => d ≠ 0 ∧ s.chip.linkUp d = true ∧ crc.toNat = frameCrc [(6, seq.toNat)] ∧ (s.chip.link d).nack = some seq.toNat ∧ (s.chip.link d).sent = f :: l ∧ f.seq = seq.toNat ∧ f.tries < 8) ((2 : Fin 8)) (0#6) (BitVec.ofNat 16 (frameCrc [(6, 0)])) (Sent.mk 0 .sup true 0x40240020 0 false 1) (([] : List Sent)) (stx [] fun c => c.setLink 2 { txSeq := 1, nack := some 0, sent := [⟨0, .sup, true, 0x40240020, 0, false, 1⟩] })) ∧
    ((fun (first : BitVec 10) (w : Word) (crc : BitVec 16) (s : State) => s.chip.linkUp 1 = true ∧ crc.toNat = frameCrc [(32, w.toNat)] ∧ fpDie (4 * first.toNat) = 1) (0x224#10) (9#32) (BitVec.ofNat 16 (frameCrc [(32, 9)])) (st [])) ∧
    ((fun (d : Fin 8) (ev : BitVec 8) (detail : BitVec 24) (crc : BitVec 16) (s : State) => d ≠ 0 ∧ s.chip.linkUp d = true ∧ ev ≠ 4 ∧ crc.toNat = frameCrc [(8, ev.toNat), (24, detail.toNat)]) ((2 : Fin 8)) (44#8) (0#24) (BitVec.ofNat 16 (frameCrc [(8, 44), (24, 0)])) (st [])) ∧
    ((fun (d : Fin 8) (seq : BitVec 6) (crc : BitVec 16) (s : State) => d ≠ 0 ∧ s.chip.linkUp d = true ∧ crc.toNat ≠ frameCrc [(6, seq.toNat)]) ((2 : Fin 8)) (0#6) (BitVec.ofNat 16 (frameCrc [(6, 0)] + 1)) (st [])) := by
  refine ⟨?_, ?_, ?_, ?_, ?_, ?_, ?_, ?_⟩ <;> decide +kernel

/-- States and operands that meet the hypotheses of LinkLossTrainingAndAcknowledgement, clause by clause. -/
theorem witness_LinkLossTrainingAndAcknowledgement :
    ((fun (d : Fin 8) (s : State) => d ≠ 0 ∧ s.chip.linkUp d = true ∧ (s.chip.link d).sent ≠ [] ∧ s.chip.noneWaits = true) ((2 : Fin 8)) (stx [] fun c => c.setLink 2 { txSeq := 1, sent := [⟨0, .sup, true, 0x40240020, 0, false, 1⟩] })) ∧
    ((fun (d : Fin 8) (s : State) => d ≠ 0 ∧ s.chip.noneWaits = true) ((3 : Fin 8)) (st [])) ∧
    ((fun (d : Fin 8) (s : State) => d ≠ 0 ∧ s.chip.linkUp d = false) ((3 : Fin 8)) (st [(R.SYS_LINK_STATUS 3, 2)])) ∧
    ((fun (d : Fin 8) (w : BitVec 8) (holdLeft : BitVec 16) (crc : BitVec 16) (s : State) => d ≠ 0 ∧ s.chip.mayTrain = true ∧ s.chip.linkUp d = false ∧ crc.toNat = frameCrc [(8, w.toNat), (16, holdLeft.toNat)]) ((3 : Fin 8)) (1#8) (0#16) (BitVec.ofNat 16 (frameCrc [(8, 1), (16, 0)])) (st [(R.SYS_LINK_STATUS 3, 2)])) ∧
    ((fun (d : Fin 8) (s : State) => d ≠ 0 ∧ s.chip.linkUp d = true ∧ (s.chip.link d).unacked = true) ((3 : Fin 8)) (stx [] fun c => c.setLink 3 { lost := true, unacked := true })) ∧
    ((fun (d : Fin 8) (s : State) => d ≠ 0 ∧ s.chip.linkUp d = true) ((3 : Fin 8)) (st [])) ∧
    ((fun (d : Fin 8) (s : State) => d ≠ 0 ∧ s.chip.atOnce .sup (R.SYS_LINK_CTRL d) 1 = true ∧ s.chip.linkUp d = true ∧ s.chip.noneWaits = true) ((3 : Fin 8)) (st [])) := by
  refine ⟨?_, ?_, ?_, ?_, ?_, ?_, ?_⟩ <;> decide +kernel

/-- States and operands that meet the hypotheses of AccessesDrainsAndTokens, clause by clause. -/
theorem witness_AccessesDrainsAndTokens :
    ((fun (rq : Req) (u : Bool) (t : Fin 7) (data : Word) (s : State) => 4 ≤ rq.code ∧ s.chip.atOnce rq (R.EVR_THRESH t) 1 = true) .sup false ((6 : Fin 7)) (0xFF#32) (st [])) ∧
    ((fun (rq : Req) (s : State) => s.chip.atOnce rq R.SYS_LOCK 1 = true ∧ (Tbl.get (fun _ => false) s.chip.wo1 R.SYS_LOCK = false)) .sup (st [])) ∧
    ((fun (rq : Req) (s : State) => s.chip.atOnce rq R.SYS_DRAIN 0 = true ∧ s.chip.drained rq = true) .a0 (stx [] fun c => c.setBus .a0 { failed := 3 })) ∧
    ((fun (rq : Req) (s : State) => (s.chip.busOf rq).drain = true ∧ s.chip.drained rq = true ∧ (s.chip.busOf rq).held = []) .a0 (stx [] fun c => c.setBus .a0 { failed := 3, drain := true })) ∧
    ((fun (rq : Req) (d : Fin 8) (s : State) => d ≠ 0 ∧ s.chip.atOnce rq (tokenAddr d) 0 = true ∧ s.chip.linkUp d = true) .a1 ((4 : Fin 8)) (st [])) ∧
    ((fun (rq : Req) (d : Fin 8) (n : Nat) (s : State) => (s.chip.busOf rq).order = some (↑d, n) ∧ n ≤ (s.chip.link d).landed ∧ (s.chip.busOf rq).held = []) .a1 ((4 : Fin 8)) 0 (stx [] fun c => c.setBus .a1 { order := some (4, 0) })) ∧
    ((fun (rq : Req) (a : Word) (s : State) => dieOf a.toNat ≠ 0 ∧ s.chip.awake = true ∧ s.chip.linkUp (dieOf a.toNat) = true ∧ (s.chip.link (dieOf a.toNat)).sent = [] ∧ s.chip.stalled rq = false) .a1 (0x40200020#32) (st [])) ∧
    ((fun (rq : Req) (a : Nat) (x : Word) (s : State) => (s.chip.busOf rq).held = [.write a x] ∧ isAlias a = false ∧ dieOf a ≠ 0 ∧ (s.chip.setBus rq { s.chip.busOf rq with held := [] }).stalled rq = false ∧ s.chip.awake = true ∧ s.chip.outstanding rq < 8 ∧ s.chip.linkUp (dieOf a) = true) .a1 0x40240020 (1#32) (stx [] fun c => c.setBus .a1 { held := [.write 0x40240020 1] })) ∧
    ((fun (b : Fin 19) (s : State) => s.chip.awake = true ∧ s.chip.flag (R.SYS_BLK_POWER b) F.SYS_BLK_POWER_GATE_EN = true ∧ s.chip.fget (R.SYS_BLK_POWER b) F.SYS_BLK_POWER_STATE = 0 ∧ s.chip.blockBusy b = false) ((18 : Fin 19)) (st [])) := by
  refine ⟨?_, ?_, ?_, ?_, ?_, ?_, ?_, ?_, ?_⟩ <;> decide +kernel

/-- States and operands that meet the hypotheses of AliasesAndWideCounters, clause by clause. -/
theorem witness_AliasesAndWideCounters :
    ((fun (rq : Req) (u : Bool) (c : Fin 4) (s : State) => 4 ≤ rq.code ∧ s.chip.atOnce rq (0x60000000 + (R.SYS_MSIP c - 0x40000000) * 32) 0 = true) .sup false ((2 : Fin 4)) (st [])) ∧
    ((fun (u : Bool) (c : Fin 4) (data : Word) (s : State) => s.chip.awake = true ∧ s.chip.stalled .sup = false ∧ s.chip.flag R.SYS_LOCK F.SYS_LOCK_LOCK = false) false ((2 : Fin 4)) (3#32) (st [])) ∧
    ((fun (rq : Req) (s : State) => s.chip.atOnce rq R.SYS_MTIME_LO 0 = true) .a0 (stx [] fun c => c.setCtr64 R.SYS_MTIME_LO 0x500000007)) ∧
    ((fun (rq : Req) (s : State) => s.chip.atOnce rq R.SYS_MTIME_HI 0 = true) .a0 (stx [] fun c => c.setLatch R.SYS_MTIME_LO .a0 5)) ∧
    ((fun (rq : Req) (data : Word) (s : State) => s.chip.atOnce rq R.SYS_MTIME_HI 1 = true ∧ s.chip.flag R.SYS_LOCK F.SYS_LOCK_LOCK = false) .sup (9#32) (st [])) ∧
    ((fun (rq : Req) (data : Word) (s : State) => s.chip.atOnce rq R.SYS_MTIME_LO 1 = true ∧ s.chip.flag R.SYS_LOCK F.SYS_LOCK_LOCK = false) .sup (9#32) (stx [] fun c => c.setStaged R.SYS_MTIME_LO 4)) := by
  refine ⟨?_, ?_, ?_, ?_, ?_, ?_⟩ <;> decide +kernel

/-- States and operands that meet the hypotheses of ChannelCommandsCommitsAndOwners, clause by clause. -/
theorem witness_ChannelCommandsCommitsAndOwners :
    ((fun (rq : Req) (ch : Fin 192) (data : Word) (s : State) => s.chip.direct rq (R.CH_CMD ch) = true ∧ s.chip.oddMember ch = false ∧ s.chip.ownerOf ch = rq.code ∧ s.chip.chState ch ∉ [ChState.latchedOff, .disabled, .held, .limp]) .sup ((50 : Fin 192)) (0x0FFF0002#32) (st [])) ∧
    ((fun (rq : Req) (ch : Fin 192) (data : Word) (s : State) => s.chip.direct rq (R.CH_CMD ch) = true ∧ s.chip.oddMember ch = false ∧ s.chip.ownerOf ch = rq.code ∧ s.chip.chState ch = .latchedOff ∧ s.chip.cooled ch = true) .sup ((50 : Fin 192)) (0#32) (st [(R.CH_STATUS 50, 6)])) ∧
    ((fun (n : Fin 4) (data : Word) (s : State) => s.chip.direct .sup (R.PWR_COMMIT n) = true) ((1 : Fin 4)) (1#32) (st [(R.PWR_COMMIT_MASK0 1, 4)])) ∧
    ((fun (ch : Fin 192) (s : State) => s.chip.inPwm ch = true ∧ s.chip.disableDue ch = false ∧ s.chip.flag (R.CH_PROT_STATUS ch) F.CH_PROT_STATUS_REVERSE = false ∧ (s.chip.chan ch).pend = none ∧ (s.chip.chan ch).owed = 0 ∧ s.chip.stretchDue ch = false ∧ (s.chip.die (pdie ch)).reqs = []) ((50 : Fin 192)) (st [(R.CH_STATUS 50, 3), (R.CH_ACTIVE_CMD 50, 0x8002), (R.CH_ACTIVE_PWM 50, 50000)])) ∧
    ((fun (n : Fin 4) (data : Word) (p : Nat) (s : State) => p < 24 ∧ s.chip.direct .sup (R.PWR_PAIR n) = true ∧ s.chip.pairFixed n p = false ∧ s.chip.pairFree (48 * n + 2 * p) = true ∧ s.chip.pairFree (48 * n + 2 * p + 1) = true) ((1 : Fin 4)) (2#32) 1 (st [])) ∧
    ((fun (ch : Fin 192) (data : Word) (s : State) => s.chip.direct .sup (R.CH_OWNER ch) = true ∧ isSealed ch = false ∧ s.chip.isStartEnable ch = false ∧ F.CH_OWNER_OWNER.get data ≤ 5) ((50 : Fin 192)) (5#32) (st [])) ∧
    ((fun (ch : Fin 192) (data : Word) (s : State) => s.chip.direct .sup (R.CH_OWNER ch) = true ∧ isSealed ch = true) ((190 : Fin 192)) (2#32) (st [])) := by
  refine ⟨?_, ?_, ?_, ?_, ?_, ?_, ?_⟩ <;> decide +kernel

/-- States and operands that meet the hypotheses of SchedulerRowsDo, clause by clause. -/
theorem witness_SchedulerRowsDo :
    ((fun (n : Fin 4) (r : StartReq) (s : State) => (s.chip.die n).reqs = [r] ∧ r.pulse = false ∧ r.ch < 192 ∧ pdie r.ch = n ∧ s.chip.inHold r.ch = false ∧ s.chip.flag (R.IS_STATUS n) F.IS_STATUS_FROZEN = false) ((1 : Fin 4)) (StartReq.mk 50 0 0 false) (stx [] fun c => c.setReqs 1 [⟨50, 0, 0, false⟩])) ∧
    ((fun (n : Fin 4) (s : State) => (s.chip.die n).reqs = []) ((1 : Fin 4)) (st [])) ∧
    ((fun (ch : Fin 192) (r : StartReq) (s : State) => (s.chip.die (pdie ch)).reqs = [r] ∧ r.ch = ch ∧ r.pulse = false ∧ s.chip.inHold ch = false) ((50 : Fin 192)) (StartReq.mk 50 0 0 false) (stx [] fun c => c.setReqs 1 [⟨50, 0, 0, false⟩])) ∧
    ((fun (ch : Fin 192) (x : Nat × Nat) (s : State) => s.chip.chRun ch = .starting ∧ s.chip.chState ch ≠ .limp ∧ s.chip.flag (R.CH_PROT_STATUS ch) F.CH_PROT_STATUS_REVERSE = false ∧ (s.chip.chan ch).segs = [x] ∧ (s.chip.die (pdie ch)).reqs = []) ((50 : Fin 192)) ((100, 5)) (stx [(R.CH_STATUS 50, 1)] fun c => c.setChan 50 { segs := [(100, 5)] })) ∧
    ((fun (n : Fin 4) (data : Word) (s : State) => s.chip.direct .sup (R.IS_BUDGET n) = true ∧ (s.chip.die n).reqs = []) ((1 : Fin 4)) (0x320#32) (st [])) ∧
    ((fun (n : Fin 4) (data : Word) (r : StartReq) (s : State) => s.chip.direct .sup (R.IS_CTRL n) = true ∧ (s.chip.die n).reqs = [r] ∧ r.pulse = false ∧ r.prio < 4 ∧ r.ch < 192 ∧ pdie r.ch = n) ((1 : Fin 4)) (0#32) (StartReq.mk 50 0 0 false) (stx [] fun c => c.setReqs 1 [⟨50, 0, 0, false⟩])) ∧
    ((fun (n : Fin 4) (data : Word) (s : State) => s.chip.direct .sup (R.IS_CTRL n) = true ∧ (s.chip.die n).reqs = []) ((1 : Fin 4)) (0x80000005#32) (st [])) ∧
    ((fun (ch : Fin 192) (ma : Nat) (s : State) => (s.chip.chRun ch = .on ∨ s.chip.chRun ch = .pwm) ∧ s.chip.ceilingNow ch ≤ 1000 * ma) ((50 : Fin 192)) 60000 (st [(R.CH_STATUS 50, 2)])) ∧
    ((fun (ch : Fin 192) (ma : Nat) (s : State) => s.chip.chRun ch = .limiting ∧ 1000 * ma < s.chip.ceilingNow ch) ((50 : Fin 192)) 5 (st [(R.CH_STATUS 50, 4)])) := by
  refine ⟨?_, ?_, ?_, ?_, ?_, ?_, ?_, ?_, ?_⟩ <;> decide +kernel

/-- States and operands that meet the hypotheses of TripCausesOfChannels, clause by clause. -/
theorem witness_TripCausesOfChannels :
    ((fun (ch : Fin 192) (m : Sample) (s : State) => (s.chip.leadRun ch).driven = true) ((50 : Fin 192)) (⟨⟨1, 2, 3, 4⟩, ⟨[], false⟩⟩ : Sample) (st [(R.CH_STATUS 50, 2)])) ∧
    ((fun (ch : Fin 192) (m : EnvSample) (s : State) => (s.chip.leadRun ch).driven = true ∧ (∀ k : Fin 3, s.chip.ceilingNow (s.chip.lead ch) * (s.chip.chan (s.chip.lead ch)).env < 100000 * m.ma[k])) ((50 : Fin 192)) (⟨⟨⟨1, 2, 3, 4⟩, ⟨[], false⟩⟩, #v[100000, 100000, 100000]⟩ : EnvSample) (st [(R.CH_STATUS 50, 2)])) ∧
    ((fun (ch : Fin 192) (m : Sample) (s : State) => (s.chip.leadRun ch).driven = true ∧ s.chip.leadRun ch ≠ .starting) ((50 : Fin 192)) (⟨⟨1, 2, 3, 4⟩, ⟨[], false⟩⟩ : Sample) (st [(R.CH_STATUS 50, 2)])) ∧
    ((fun (ch : Fin 192) (m : Sample) (s : State) => s.chip.leadRun ch = .limiting ∧ s.chip.fget (R.CH_PROT_CFG (s.chip.lead ch)) F.CH_PROT_CFG_LIMIT_TIME ≠ 0) ((50 : Fin 192)) (⟨⟨1, 2, 3, 4⟩, ⟨[], false⟩⟩ : Sample) (st [(R.CH_STATUS 50, 4)])) ∧
    ((fun (ch : Fin 192) (m : Sample) (s : State) => (s.chip.leadRun ch).driven = true) ((50 : Fin 192)) (⟨⟨1, 2, 3, 4⟩, ⟨[], false⟩⟩ : Sample) (st [(R.CH_STATUS 50, 2)])) ∧
    ((fun (ch : Fin 192) (parts : List ClampPart) (tj : BitVec 8) (m : Sample) (s : State) => clampEnergy parts ≤ s.chip.clampAllow ch ((tj.toNat : Int) - 50)) ((50 : Fin 192)) ([] : List ClampPart) (75#8) (⟨⟨1, 2, 3, 4⟩, ⟨[], false⟩⟩ : Sample) (st [])) ∧
    ((fun (ch : Fin 192) (parts : List ClampPart) (tj : BitVec 8) (m : Sample) (s : State) => s.chip.clampAllow ch ((tj.toNat : Int) - 50) < clampEnergy parts ∧ s.chip.chState (s.chip.lead ch) ≠ .disabled) ((50 : Fin 192)) [⟨30000, 4000, 0, 1000000000⟩] (75#8) (⟨⟨1, 2, 3, 4⟩, ⟨[], false⟩⟩ : Sample) (st [])) ∧
    ((fun (ch : Fin 192) (y : SameCycle) (m : Measured) (s : State) => s.chip.oddMember ch = false ∧ (s.chip.chRun ch).driven = false) ((50 : Fin 192)) (⟨[], false⟩ : SameCycle) (⟨1, 2, 3, 4⟩ : Measured) (stx [] fun c => c.setChan 50 { msq := 1000000 })) ∧
    ((fun (ch : Fin 192) (y : SameCycle) (m : Measured) (s : State) => s.chip.oddMember ch = false ∧ (s.chip.chRun ch).driven = true ∧ s.chip.flag (R.CH_WIRE_CFG ch) F.CH_WIRE_CFG_WIRE_EN = true ∧ y.also = [] ∧ (1 : Rat) ≤ nextLevel (s.chip.chan ch).level (s.chip.chan ch).msq (s.chip.fget (R.CH_WIRE_CFG ch) F.CH_WIRE_CFG_I_RATED) (s.chip.fget (R.CH_WIRE_CFG ch) F.CH_WIRE_CFG_TAU)) ((50 : Fin 192)) (⟨[], false⟩ : SameCycle) (⟨1, 2, 3, 4⟩ : Measured) (stx [(R.CH_STATUS 50, 2), (R.CH_WIRE_CFG 50, 0xFFFFFFFF)] fun c => c.setChan 50 { level := 3 })) := by
  refine ⟨?_, ?_, ?_, ?_, ?_, ?_, ?_, ?_, ?_⟩ <;> decide +kernel

/-- States and operands that meet the hypotheses of TripCoolsDownOrLatchesOff, clause by clause. -/
theorem witness_TripCoolsDownOrLatchesOff :
    ((fun (ch : Fin 192) (m : Sample) (s : State) => m.also = [] ∧ m.boundary = false ∧ s.chip.chState ch = .on ∧ s.chip.paired ch = false ∧ isSealed ch = false ∧ s.chip.isStartEnable ch = false ∧ s.chip.seCh ≠ ch ∧ s.chip.flag (R.CH_PROT_STATUS ch) F.CH_PROT_STATUS_DISABLE_PENDING = false ∧ (s.chip.die (pdie ch)).reqs = [] ∧ s.chip.fget (R.CH_PROT_STATUS ch) F.CH_PROT_STATUS_RETRY_NUM < s.chip.fget (R.CH_PROT_CFG ch) F.CH_PROT_CFG_RETRY_MAX) ((50 : Fin 192)) (⟨⟨1, 2, 3, 4⟩, ⟨[], false⟩⟩ : Sample) (st [(R.CH_STATUS 50, 2)])) ∧
    ((fun (ch : Fin 192) (m : Sample) (s : State) => m.also = [] ∧ m.boundary = false ∧ s.chip.chState ch = .on ∧ s.chip.paired ch = false ∧ isSealed ch = false ∧ s.chip.isStartEnable ch = false ∧ s.chip.seCh ≠ ch ∧ s.chip.flag (R.CH_PROT_STATUS ch) F.CH_PROT_STATUS_DISABLE_PENDING = false ∧ (s.chip.die (pdie ch)).reqs = [] ∧ s.chip.fget (R.CH_PROT_CFG ch) F.CH_PROT_CFG_RETRY_MAX ≤ s.chip.fget (R.CH_PROT_STATUS ch) F.CH_PROT_STATUS_RETRY_NUM) ((50 : Fin 192)) (⟨⟨1, 2, 3, 4⟩, ⟨[], false⟩⟩ : Sample) (st [(R.CH_STATUS 50, 2), (R.CH_PROT_CFG 50, 0)])) := by
  refine ⟨?_, ?_⟩ <;> decide +kernel

/-- States and operands that meet the hypotheses of RetriesReverseAndWarnings, clause by clause. -/
theorem witness_RetriesReverseAndWarnings :
    ((fun (ch : Fin 192) (s : State) => s.chip.chState ch = .cooldown ∧ s.chip.fget (R.CH_STATUS ch) F.CH_STATUS_CAUSE ≠ 9 ∧ s.chip.fget (R.CH_STATUS ch) F.CH_STATUS_CAUSE ≠ 10 ∧ s.chip.pendingGrant ch = false ∧ s.chip.cooled ch = true ∧ (s.chip.die (pdie ch)).reqs = []) ((50 : Fin 192)) (st [(R.CH_STATUS 50, F.CH_STATUS_CAUSE.put 5 1)])) ∧
    ((fun (ch : Fin 192) (s : State) => s.chip.chRun ch = .cooldown ∧ s.chip.fget (R.CH_STATUS ch) F.CH_STATUS_CAUSE ≠ 9 ∧ s.chip.fget (R.CH_STATUS ch) F.CH_STATUS_CAUSE ≠ 10 ∧ s.chip.pendingGrant ch = false ∧ s.chip.cooled ch = false) ((50 : Fin 192)) (stx [(R.CH_STATUS 50, F.CH_STATUS_CAUSE.put 5 3)] fun c => (c.setChan 50 { lastTrip := 3 }).fset (R.CH_PROT_STATUS 50) F.CH_PROT_STATUS_TJ_WARN 1)) ∧
    ((fun (ch : Fin 192) (s : State) => (s.chip.chan ch).lastTrip = 3 ∧ s.chip.paired ch = false ∧ s.chip.chRun ch ≠ .cooldown) ((50 : Fin 192)) (stx [(R.CH_STATUS 50, 6)] fun c => (c.setChan 50 { lastTrip := 3 }).fset (R.CH_PROT_STATUS 50) F.CH_PROT_STATUS_TJ_WARN 1)) ∧
    ((fun (ch : Fin 192) (s : State) => s.chip.chRun ch ∈ [ChState.on, .pwm, .limiting]) ((50 : Fin 192)) (st [(R.CH_STATUS 50, 2)])) ∧
    ((fun (ch : Fin 192) (s : State) => s.chip.flag (R.CH_PROT_STATUS ch) F.CH_PROT_STATUS_REVERSE = false) ((50 : Fin 192)) (st [])) := by
  refine ⟨?_, ?_, ?_, ?_, ?_⟩ <;> decide +kernel

/-- States and operands that meet the hypotheses of FeedsDisablesHoldingAndResets, clause by clause. -/
theorem witness_FeedsDisablesHoldingAndResets :
    ((fun (n : Fin 4) (ms : List Sample) (s : State) => (s.chip.die n).reqs = [] ∧ (∀ x ∈ ms, x.boundary = false ∧ x.also = [])) ((1 : Fin 4)) (([] : List Sample)) (st [(R.CH_STATUS 50, 2)])) ∧
    ((fun (n : Fin 4) (feed : List Nat) (s : State) => s.chip.flag (R.IS_STATUS n) F.IS_STATUS_FROZEN = false ∧ feed.sum + 3000 < 10 * s.chip.fget (R.PWR_FEED_AVG n) F.PWR_FEED_AVG_AVG10) ((1 : Fin 4)) ([900,900,900,900,900,900,900,900,900,900]) (st [(R.PWR_FEED_AVG 1, F.PWR_FEED_AVG_AVG10.of 1300)])) ∧
    ((fun (ch : Fin 192) (force : Bool) (s : State) => s.chip.direct .sup (R.CH_DISABLE ch) = true ∧ isSealed ch = false ∧ s.chip.chState ch ∈ [ChState.off, .cooldown, .latchedOff] ∧ (s.chip.die (pdie ch)).reqs = []) ((50 : Fin 192)) false (st [])) ∧
    ((fun (ch : Fin 192) (s : State) => s.chip.direct .sup (R.CH_DISABLE ch) = true ∧ isSealed ch = false ∧ (s.chip.chState ch).driven = true) ((50 : Fin 192)) (st [(R.CH_STATUS 50, 2)])) ∧
    ((fun (ch : Fin 192) (s : State) => s.chip.direct .sup (R.CH_DISABLE ch) = true ∧ isSealed ch = false ∧ s.chip.chState ch = .disabled) ((50 : Fin 192)) (st [(R.CH_STATUS 50, 9)])) ∧
    ((fun (n : Fin 4) (s : State) => (s.chip.link (n + 2)).lost = true) ((1 : Fin 4)) (stx [(R.CH_STATUS 50, 7)] fun c => c.setLink 3 { lost := true })) ∧
    ((fun (d : Fin 8) (s : State) => 2 ≤ d.toNat ∧ d.toNat ≤ 5) ((3 : Fin 8)) (st [])) := by
  refine ⟨?_, ?_, ?_, ?_, ?_, ?_, ?_⟩ <;> decide +kernel

/-- States and operands that meet the hypotheses of MeasurementWindowsAndStreams, clause by clause. -/
theorem witness_MeasurementWindowsAndStreams :
    ((fun (n : Fin 4) (ws : List ChanWin) (feed : List Nat) (early : List (Nat × List EarlySample)) (vlv : List (BitVec 16 × BitVec 16)) (s : State) => feed.length ≠ 0 ∧ (∀ l < 48, (s.chip.chan (48 * n + l)).lid = none)) ((1 : Fin 4)) (([] : List ChanWin)) ([1300, 1304]) (([] : List (Nat × List EarlySample))) (([] : List (BitVec 16 × BitVec 16))) (st [])) ∧
    ((fun (ch : Fin 192) (x : LidRun) (s : State) => (s.chip.chan ch).lid = some x) ((50 : Fin 192)) ({ t0 := 0 } : LidRun) (stx [] fun c => c.setChan 50 { lid := some { t0 := 0 } })) ∧
    ((fun (n : Fin 4) (samples : List RawSample) (odd : List (BitVec 14)) (s : State) => s.chip.flag (R.PWR_STREAM_STATUS n) F.PWR_STREAM_STATUS_ACTIVE = true ∧ s.chip.linkUp (n + 2) = false) ((1 : Fin 4)) (([] : List RawSample)) ([] : List (BitVec 14)) (st [(R.SYS_LINK_STATUS 3, 2), (R.PWR_STREAM_STATUS 1, 1)])) ∧
    ((fun (n : Fin 4) (samples : List RawSample) (odd : List (BitVec 14)) (s : State) => s.chip.flag (R.PWR_STREAM_STATUS n) F.PWR_STREAM_STATUS_ACTIVE = true ∧ s.chip.linkUp (n + 2) = true ∧ 130 ≤ s.chip.qFree (24 + n)) ((1 : Fin 4)) (([] : List RawSample)) ([] : List (BitVec 14)) (st [(R.PWR_STREAM_STATUS 1, 1), (R.Q_CFG 25, F.Q_CFG_SIZE.put (F.Q_CFG_EN.of 1) 3)])) ∧
    ((fun (n : Fin 4) (data : Word) (s : State) => s.chip.direct .sup (R.PWR_STREAM_CTRL n) = true ∧ s.chip.flag (R.PWR_STREAM_STATUS n) F.PWR_STREAM_STATUS_ACTIVE = false) ((1 : Fin 4)) (0x80000000#32) (st [])) := by
  refine ⟨?_, ?_, ?_, ?_, ?_⟩ <;> decide +kernel

/-- States and operands that meet the hypotheses of LoadDiagnosisRows, clause by clause. -/
theorem witness_LoadDiagnosisRows :
    ((fun (ch : Fin 192) (samples : List Int) (s : State) => s.chip.onWindow ch = true ∧ s.chip.chRun ch = .pwm ∧ samples.sum < s.chip.onThr ch * samples.length) ((50 : Fin 192)) [0, 0] (stx [(R.CH_STATUS 50, 3)] fun c => c.setChan 50 { onTicks := 40000 })) ∧
    ((fun (ch : Fin 192) (samples : List Int) (s : State) => s.chip.onWindow ch = true ∧ s.chip.chRun ch = .pwm ∧ s.chip.onThr ch * samples.length ≤ samples.sum) ((50 : Fin 192)) [90000] (stx [(R.CH_STATUS 50, 3)] fun c => c.setChan 50 { onTicks := 40000 })) ∧
    ((fun (ch : Fin 192) (s : State) => s.chip.cycleAllowed ch = true) ((50 : Fin 192)) (st [(R.CH_OL_CFG 50, 0x80000000), (R.CH_OL_STATUS 50, 0xF)])) ∧
    ((fun (ch : Fin 192) (s : State) => (s.chip.chan ch).cycle = 1 ∧ s.chip.offEn ch = true) ((50 : Fin 192)) (stx [(R.CH_OL_CFG 50, 0xFFFFFFFF)] fun c => c.setChan 50 { cycle := 1 })) ∧
    ((fun (ch : Fin 192) (s : State) => (s.chip.chan ch).cycle = 1 ∧ s.chip.unconfirmed ch = true) ((50 : Fin 192)) (stx [(R.CH_OL_STATUS 50, 0xFFFF)] fun c => c.setChan 50 { cycle := 1 })) ∧
    ((fun (ch : Fin 192) (v vfeed : BitVec 16) (s : State) => (s.chip.chan ch).cycle = 2 ∧ s.chip.flag (R.CH_PROT_STATUS ch) F.CH_PROT_STATUS_SHORT_SUPPLY = false ∧ (¬ (vfeed.toNat * offThr (s.chip.fget (R.CH_OL_CFG ch) F.CH_OL_CFG_OFF_THR) < 100 * v.toNat))) ((50 : Fin 192)) (5#16) (1300#16) (stx [] fun c => c.setChan 50 { cycle := 2 })) ∧
    ((fun (n : Fin 4) (rose : BitVec 48) (src : Nat) (s : State) => (s.chip.die n).xc = some (src, true)) ((1 : Fin 4)) (5#48) 2 (stx [] fun c => c.setDie 1 { xc := some (2, true) })) ∧
    ((fun (n : Fin 4) (data : Word) (s : State) => s.chip.direct .sup (R.PWR_XC_CTRL n) = true ∧ s.chip.xcRefused n (F.PWR_XC_CTRL_SRC.get data) = true) ((1 : Fin 4)) (2#32) (st [(R.CH_STATUS 50, 2)])) ∧
    ((fun (n : Fin 4) (data : Word) (s : State) => s.chip.direct .sup (R.PWR_XC_CTRL n) = true ∧ s.chip.xcRefused n (F.PWR_XC_CTRL_SRC.get data) = false ∧ (s.chip.die n).reqs = [] ∧ s.chip.flag (R.IS_STATUS n) F.IS_STATUS_FROZEN = true ∧ s.chip.flag (R.IS_CTRL n) F.IS_CTRL_ENABLE = true ∧ s.chip.fget (R.IS_CTRL n) F.IS_CTRL_DEFER_MAX ≠ 0) ((1 : Fin 4)) (2#32) (st [(R.IS_STATUS 1, F.IS_STATUS_FROZEN.of 1)])) ∧
    ((fun (n : Fin 4) (data : Word) (s : State) => s.chip.direct .sup (R.PWR_TDR_CTRL n) = true ∧ F.PWR_TDR_CTRL_STOP.get data = 0 ∧ s.chip.tdrStatus n ≠ 1 ∧ s.chip.tdrStatus n ≠ 5 ∧ s.chip.tdrRefused n (F.PWR_TDR_CTRL_SRC.get data) = false ∧ s.chip.lidRunning n = 0) ((1 : Fin 4)) (2#32) (st [])) ∧
    ((fun (n : Fin 4) (data : Word) (s : State) => s.chip.direct .sup (R.PWR_TDR_CTRL n) = true ∧ F.PWR_TDR_CTRL_GO.get data = 0 ∧ (s.chip.tdrStatus n = 1 ∨ s.chip.tdrStatus n = 5)) ((1 : Fin 4)) (0#32) (stx [(R.PWR_TDR_STATUS 1, F.PWR_TDR_STATUS_STATUS.of 1)] fun c => c.setDie 1 { tdr := some ⟨0, 0, 0⟩ })) ∧
    ((fun (n : Fin 4) (s : State) => s.chip.tdrStatus n = 5 ∧ s.chip.lidRunning n ≤ 2) ((1 : Fin 4)) (st [(R.PWR_TDR_STATUS 1, F.PWR_TDR_STATUS_STATUS.of 5)])) ∧
    ((fun (n : Fin 4) (found : List Reflection) (trace : List Word) (r : TdrRun) (s : State) => s.chip.tdrStatus n = 1 ∧ (s.chip.die n).tdr = some r) ((1 : Fin 4)) (([] : List Reflection)) (([] : List Word)) (⟨0, 0, 0⟩ : TdrRun) (stx [(R.PWR_TDR_STATUS 1, F.PWR_TDR_STATUS_STATUS.of 1)] fun c => c.setDie 1 { tdr := some ⟨0, 0, 0⟩ })) := by
  refine ⟨?_, ?_, ?_, ?_, ?_, ?_, ?_, ?_, ?_, ?_, ?_, ?_, ?_⟩ <;> decide +kernel

/-- States and operands that meet the hypotheses of CanBusHealthRows, clause by clause. -/
theorem witness_CanBusHealthRows :
    ((fun (n : Fin 6) (data : Word) (s : State) => s.chip.direct .sup (R.SEN_CANT_HLTH_CTRL n) = true ∧ F.SEN_CANT_HLTH_CTRL_MEAS_STEP.get data = 0 ∧ (s.chip.cant n).term = 0) ((2 : Fin 6)) (0#32) (st [])) ∧
    ((fun (n : Fin 6) (data : Word) (s : State) => s.chip.direct .sup (R.SEN_CANT_HLTH_CTRL n) = true ∧ F.SEN_CANT_HLTH_CTRL_MEAS_TERM.get data = 0 ∧ (s.chip.cant n).step = 0) ((2 : Fin 6)) (0#32) (st [])) ∧
    ((fun (n : Fin 6) (s : State) => (s.chip.can n).cur = none) ((2 : Fin 6)) (stx [] fun c => c.setCant 2 ⟨1, 3⟩)) ∧
    ((fun (n : Fin 6) (ohm : BitVec 16) (found : Option Reflection) (s : State) => (s.chip.cant n).term = 2) ((2 : Fin 6)) (600#16) (none : Option Reflection) (stx [] fun c => c.setCant 2 ⟨2, 0⟩)) ∧
    ((fun (n : Fin 6) (step : Bool) (s : State) => (s.chip.cant n).phase step ≠ 0) ((2 : Fin 6)) true (stx [] fun c => c.setCant 2 ⟨2, 2⟩)) := by
  refine ⟨?_, ?_, ?_, ?_, ?_⟩ <;> decide +kernel

/-- States and operands that meet the hypotheses of SinksAndHeadroomConverter, clause by clause. -/
theorem witness_SinksAndHeadroomConverter :
    ((fun (x : Fin 24) (s : State) => s.chip.sinkRun x = .on) ((3 : Fin 24)) (st [(R.LS_STATUS 3, 1)])) ∧
    ((fun (x : Fin 24) (s : State) => s.chip.sinkRun x = .cool) ((3 : Fin 24)) (st [(R.LS_STATUS 3, 3)])) ∧
    ((fun (x : Fin 24) (data : Word) (s : State) => s.chip.direct .sup (R.LS_CTRL x) = true ∧ F.LS_CTRL_REARM.get data = 0) ((3 : Fin 24)) (1#32) (st [])) ∧
    ((fun (x : Fin 24) (data : Word) (s : State) => s.chip.direct .sup (R.LS_CTRL x) = true ∧ F.LS_CTRL_APPLY.get data = 0 ∧ s.chip.sinkRun x = .fault) ((3 : Fin 24)) (1#32) (st [(R.LS_STATUS 3, 2)])) ∧
    ((fun (data : Word) (s : State) => s.chip.direct .sup (R.LED_COMMIT) = true) (1#32) (st [(R.LED_COMMIT_MASK, 5)])) ∧
    ((fun (s : State) => s.chip.hrRuns = true) (st [(R.LED_HR_CTRL, F.LED_HR_CTRL_EN.put (resetWord R.LED_HR_CTRL) 1)])) ∧
    ((fun (s : State) => s.chip.flag R.LED_HR_STATUS F.LED_HR_STATUS_RESTARTING = true) (st [(R.LED_HR_STATUS, F.LED_HR_STATUS_RESTARTING.of 1)])) ∧
    ((fun (data : Word) (s : State) => s.chip.direct .sup (R.LED_HR_CTRL) = true ∧ s.chip.flag R.LED_HR_STATUS F.LED_HR_STATUS_FAULT_LATCHED = true) (0x30#32) (st [(R.LED_HR_STATUS, F.LED_HR_STATUS_FAULT_LATCHED.of 1)])) := by
  refine ⟨?_, ?_, ?_, ?_, ?_, ?_, ?_, ?_⟩ <;> decide +kernel

/-- States and operands that meet the hypotheses of GroupsEnginesAndFlashers, clause by clause. -/
theorem witness_GroupsEnginesAndFlashers :
    ((fun (t : Fin 8) (ohm : Nat) (s : State) => (ohm < 100 ∨ 1000000 < ohm)) ((2 : Fin 8)) 99 (st [])) ∧
    ((fun (g : Fin 12) (s : State) => s.chip.fget (R.LF_CFG g) F.LF_CFG_NTC_SEL < 8) ((2 : Fin 12)) (st [(R.LF_CFG 2, 0)])) ∧
    ((fun (g : Fin 12) (s : State) => 8 ≤ s.chip.fget (R.LF_CFG g) F.LF_CFG_NTC_SEL) ((2 : Fin 12)) (st [(R.LF_CFG 2, F.LF_CFG_NTC_SEL.of 15)])) ∧
    ((fun (g : Fin 12) (s : State) => s.chip.groupChans g = []) ((2 : Fin 12)) (st [])) ∧
    ((fun (g : Fin 12) (ch : Nat) (s : State) => s.chip.groupChans g = [ch] ∧ s.chip.follows ch (s.chip.groupOutput g) = false ∧ s.chip.linkUp (physDie ch) = true) ((2 : Fin 12)) 50 (st [(R.LF_CH01 2, F.LF_CH01_VALID0.put (F.LF_CH01_CHAN0.of 50) 1), (R.CH_ACTIVE_CMD 50, 1)])) ∧
    ((fun (g : Fin 12) (data : Word) (s : State) => s.chip.direct .sup (R.LF_CFG g) = true ∧ s.chip.groupChans g = []) ((2 : Fin 12)) (0#32) (st [])) ∧
    ((fun (e : Fin 8) (s : State) => s.chip.fget (R.PE_STATUS e) F.PE_STATUS_STATUS ≠ 1 ∧ (s.chip.eng e).fade = none) ((2 : Fin 8)) (st [])) ∧
    ((fun (e : Fin 8) (s : State) => s.chip.fget (R.PE_STATUS e) F.PE_STATUS_STATUS = 1 ∧ (s.chip.eng e).forever = false ∧ (s.chip.eng e).left = 0 ∧ (s.chip.eng e).ramp = none ∧ s.chip.rd (R.PE_STEP e (s.chip.fget (R.PE_STATUS e) F.PE_STATUS_STEP)) = 0) ((2 : Fin 8)) (st [(R.PE_STATUS 2, F.PE_STATUS_STATUS.of 1)])) ∧
    ((fun (e : Fin 8) (data : Word) (s : State) => s.chip.direct .sup (R.PE_CTRL e) = true ∧ F.PE_CTRL_STOP.get data = 0) ((2 : Fin 8)) (0#32) (st [])) ∧
    ((fun (e : Fin 8) (data : Word) (s : State) => s.chip.direct .sup (R.PE_CTRL e) = true ∧ s.chip.fget (R.PE_STATUS e) F.PE_STATUS_STATUS = 1) ((2 : Fin 8)) (0#32) (st [(R.PE_STATUS 2, F.PE_STATUS_STATUS.of 1)])) ∧
    ((fun (n : Fin 4) (k : Fin 4) (s : State) => s.chip.flashEn n k = true ∧ s.chip.flag (R.PWR_FLASH_CFG n k) F.PWR_FLASH_CFG_SYNC = false) ((1 : Fin 4)) ((2 : Fin 4)) (st [(R.PWR_FLASH_CFG 1 2, F.PWR_FLASH_CFG_EN.of 1)])) ∧
    ((fun (n : Fin 4) (k : Fin 4) (means : List Nat) (s : State) => s.chip.flag (R.PWR_FLASH_STATUS n k) F.PWR_FLASH_STATUS_PHASE = true) ((1 : Fin 4)) ((2 : Fin 4)) (([] : List Nat)) (st [(R.PWR_FLASH_STATUS 1 2, F.PWR_FLASH_STATUS_PHASE.of 1)])) ∧
    ((fun (n : Fin 4) (k : Fin 4) (s : State) => (Tbl.get (fun _ => false) s.chip.flashMark (4 * n + k) = true) ∧ s.chip.linkUp (n + 2) = true ∧ s.chip.flashEn n k = true ∧ s.chip.flag (R.PWR_FLASH_CFG n k) F.PWR_FLASH_CFG_SYNC = true) ((1 : Fin 4)) ((2 : Fin 4)) (stx [(R.PWR_FLASH_CFG 1 2, F.PWR_FLASH_CFG_SYNC.put (F.PWR_FLASH_CFG_EN.of 1) 1)] ({ · with flashMark := [(6, true)] }))) ∧
    ((fun (n : Fin 4) (k : Fin 4) (s : State) => s.chip.linkUp (n + 2) = true) ((1 : Fin 4)) ((2 : Fin 4)) (st [])) ∧
    ((fun (s : State) => (s.chip.link 1).lost = true) (stx [(R.LS_STATUS 3, 5)] fun c => c.setLink 1 { lost := true })) := by
  refine ⟨?_, ?_, ?_, ?_, ?_, ?_, ?_, ?_, ?_, ?_, ?_, ?_, ?_, ?_, ?_⟩ <;> decide +kernel

/-- States and operands that meet the hypotheses of ValveRequestsAndPeaks, clause by clause. -/
theorem witness_ValveRequestsAndPeaks :
    ((fun (rq : Req) (v : Fin 16) (data : Word) (vboost : Nat) (s : State) => rq = .sup ∧ s.chip.linkUp (vDie v + 2) = true ∧ s.chip.direct rq (R.VLV_CMD v) = true ∧ F.VLV_CMD_REARM.get data = 0 ∧ s.chip.vState v = .off ∧ s.chip.slotFree v = true ∧ s.chip.flag R.VB_CTRL F.VB_CTRL_EN = true ∧ s.chip.fget (R.PWR_VB_THR (vDie v)) F.PWR_VB_THR_THR ≤ vboost) .sup ((5 : Fin 16)) (0#32) 600 (stx [(R.VLV_STATUS 5, 0), (R.VLV_CFG 5, F.VLV_CFG_EN.of 1), (R.VB_CTRL, F.VB_CTRL_EN.of 1)] id)) ∧
    ((fun (v : Fin 16) (data : Word) (vboost : Nat) (s : State) => s.chip.linkUp (vDie v + 2) = true ∧ s.chip.direct .sup (R.VLV_CMD v) = true ∧ F.VLV_CMD_REARM.get data = 0 ∧ s.chip.vState v = .off ∧ s.chip.slotFree v = false) ((5 : Fin 16)) (0#32) 600 (st [(R.VLV_STATUS 4, 3), (R.VLV_CFG 5, F.VLV_CFG_EN.of 1)])) ∧
    ((fun (v : Fin 16) (data : Word) (s : State) => s.chip.direct .sup (R.VLV_CMD v) = true ∧ F.VLV_CMD_REARM.get data = 0 ∧ s.chip.vState v = .hold ∧ s.chip.vWaiting (vDie v) = []) ((5 : Fin 16)) (0#32) (st [(R.VLV_STATUS 5, 4)])) ∧
    ((fun (v : Fin 16) (x : Nat) (s : State) => s.chip.vRun v = .peak ∧ s.chip.fget (R.VLV_PEAK v) F.VLV_PEAK_PEAK_I ≤ 4 * x ∧ s.chip.vWaiting (vDie v) = []) ((5 : Fin 16)) 400 (st [(R.VLV_STATUS 5, 3)])) ∧
    ((fun (v : Fin 16) (x : Nat) (s : State) => s.chip.vRun v = .peak ∧ 4 * x < s.chip.fget (R.VLV_PEAK v) F.VLV_PEAK_PEAK_I ∧ s.chip.vWaiting (vDie v) = []) ((5 : Fin 16)) 1 (st [(R.VLV_STATUS 5, 3)])) ∧
    ((fun (n : Fin 4) (vboost : Nat) (ilim : Bool) (s : State) => s.chip.flag R.VB_CTRL F.VB_CTRL_EN = true ∧ s.chip.fget (R.PWR_VB_THR n) F.PWR_VB_THR_THR ≤ vboost) ((1 : Fin 4)) 600 false (st [(R.VLV_STATUS 5, 2), (R.VB_CTRL, F.VB_CTRL_EN.of 1)])) ∧
    ((fun (v : Fin 16) (s : State) => s.chip.vRun v = .waitBoost ∧ s.chip.vEnabled v = true ∧ s.chip.vWaiting (vDie v) = []) ((5 : Fin 16)) (st [(R.VLV_STATUS 5, 2), (R.VLV_CFG 5, F.VLV_CFG_EN.of 1)])) ∧
    ((fun (v : Fin 16) (s : State) => s.chip.vRun v = .waitOverlap ∧ s.chip.vEnabled v = true ∧ s.chip.vWaiting (vDie v) = [v.toNat]) ((5 : Fin 16)) (stx [(R.VLV_STATUS 5, 1), (R.VLV_CFG 5, F.VLV_CFG_EN.of 1)] fun c => c.setVWaiting 1 [5])) ∧
    ((fun (v : Fin 16) (s : State) => s.chip.vRun v = .hold ∧ s.chip.fget (R.VLV_CFG v) F.VLV_CFG_ON_MAX ≠ 0 ∧ s.chip.vWaiting (vDie v) = []) ((5 : Fin 16)) (st [(R.VLV_STATUS 5, 4), (R.VLV_CFG 5, F.VLV_CFG_ON_MAX.of 9)])) ∧
    ((fun (v : Fin 16) (s : State) => s.chip.vRun v = .hold ∧ s.chip.flag (R.VLV_STATUS v) F.VLV_STATUS_HOLD_LOW = false) ((5 : Fin 16)) (st [(R.VLV_STATUS 5, 4)])) ∧
    ((fun (v : Fin 16) (parts : List ClampPart) (tj : BitVec 8) (s : State) => s.chip.vRun v = .decay ∧ s.chip.vEnabled v = true ∧ s.chip.vRequested v = false ∧ clampEnergy parts ≤ vClampAllow ((tj.toNat : Int) - 50)) ((5 : Fin 16)) ([] : List ClampPart) (75#8) (st [(R.VLV_STATUS 5, 5), (R.VLV_CFG 5, F.VLV_CFG_EN.of 1)])) := by
  refine ⟨?_, ?_, ?_, ?_, ?_, ?_, ?_, ?_, ?_, ?_, ?_⟩ <;> decide +kernel

/-- States and operands that meet the hypotheses of ValveFaultsAndConfiguration, clause by clause. -/
theorem witness_ValveFaultsAndConfiguration :
    ((fun (v : Fin 16) (s : State) => s.chip.vConducts v = true ∧ s.chip.vWaiting (vDie v) = []) ((5 : Fin 16)) (st [(R.VLV_STATUS 5, 4)])) ∧
    ((fun (v : Fin 16) (s : State) => s.chip.vConducts v = true ∧ s.chip.vWaiting (vDie v) = []) ((5 : Fin 16)) (st [(R.VLV_STATUS 5, 4)])) ∧
    ((fun (v : Fin 16) (data : Word) (s : State) => s.chip.direct .sup (R.VLV_CMD v) = true ∧ F.VLV_CMD_REQ.get data = 0 ∧ s.chip.vState v = .fault ∧ s.chip.vEnabled v = true) ((5 : Fin 16)) (0#32) (st [(R.VLV_STATUS 5, 6), (R.VLV_CFG 5, F.VLV_CFG_EN.of 1)])) ∧
    ((fun (v : Fin 16) (data : Word) (s : State) => s.chip.direct .sup (R.VLV_CFG v) = true ∧ s.chip.vState v = .off) ((5 : Fin 16)) (0#32) (st [(R.VLV_STATUS 5, 0)])) ∧
    ((fun (v : Fin 16) (data : Word) (s : State) => s.chip.direct .sup (R.VLV_CFG v) = true ∧ s.chip.vState v = .disabled) ((5 : Fin 16)) (0#32) (st [(R.VLV_STATUS 5, F.VLV_STATUS_STATE.of 9)])) ∧
    ((fun (g : Fin 8) (data : Word) (s : State) => s.chip.direct .sup (R.VG_CFG g) = true ∧ g.toNat % 2 = 0 ∧ (∀ j < 4, s.chip.vState (2 * g + j) = .off ∨ s.chip.vState (2 * g + j) = .disabled)) ((2 : Fin 8)) (0xFFFFFFFF#32) (st [])) := by
  refine ⟨?_, ?_, ?_, ?_, ?_, ?_⟩ <;> decide +kernel

/-- States and operands that meet the hypotheses of SwitchInputsSampleAndReport, clause by clause. -/
theorem witness_SwitchInputsSampleAndReport :
    ((fun (s : State) => s.chip.awake = true) (st [(R.SI_CFG 3, F.SI_CFG_EN.of 1)])) ∧
    ((fun (x : Fin 64) (code : Nat) (r : SiRun) (s : State) => (s.chip.si x).run = some r) ((3 : Fin 64)) 1500 (⟨0, 0, []⟩ : SiRun) (stx [] fun c => c.setSi 3 { run := some ⟨0, 0, []⟩ })) ∧
    ((fun (x : Fin 64) (code : Nat) (r : SiRun) (s : State) => (s.chip.si x).run = some r ∧ s.chip.siBound x = false ∧ F.SI_CFG_LADDER.get r.cfg = 0 ∧ F.SI_CFG_INVERT.get r.cfg = 0 ∧ F.SI_CFG_DEB.get r.cfg ≤ 1 ∧ F.SI_THR_THR_HI.get r.thr ≤ min 1023 code ∧ s.chip.siValue x = false) ((3 : Fin 64)) 900 (⟨0, 0x2000100, []⟩ : SiRun) (stx [] fun c => c.setSi 3 { run := some ⟨0, 0x2000100, []⟩ })) ∧
    ((fun (rq : Req) (s : State) => s.chip.atOnce rq R.SI_STATE0 0 = true ∧ s.chip.linkUp 1 = true ∧ (s.chip.link 1).rxSeq = (s.chip.link 1).txSeq ∧ (s.chip.link 1).nack = none) .a1 (st [(R.SI_STATE0, 5), (R.SI_STATE1, 6)])) ∧
    ((fun (x : Fin 64) (rising : Bool) (env : StartEnv) (s : State) => s.chip.edgeWakes x rising = false) ((3 : Fin 64)) true (({ xtal := true } : StartEnv)) (st [])) ∧
    ((fun (x : Fin 64) (rising : Bool) (env : StartEnv) (s : State) => s.chip.edgeWakes x rising = true ∧ s.chip.mode = 1 ∧ s.chip.flag R.SEN_WAKE_FIRST F.SEN_WAKE_FIRST_VALID = false ∧ env.xtal = true ∧ env.supOk = true ∧ env.appOk = true ∧ env.act = .commits ∧ s.chip.upd.staging = 0 ∧ s.chip.upd.journal = 0) ((3 : Fin 64)) true (({ xtal := true } : StartEnv)) (st [(R.SYS_MODE, 0x41), (R.SI_CFG 3, F.SI_CFG_WAKE_EN.put (F.SI_CFG_WAKE_EDGE.put (F.SI_CFG_EN.of 1) 2) 1)])) := by
  refine ⟨?_, ?_, ?_, ?_, ?_, ?_⟩ <;> decide +kernel

/-- States and operands that meet the hypotheses of FieldPointsAndFaults, clause by clause. -/
theorem witness_FieldPointsAndFaults :
    ((fun (p : Fin 32) (level : Bool) (s : State) => s.chip.fpSamples p = true ∧ s.chip.flag (R.FP_CFG p) F.FP_CFG_INVERT = false ∧ s.chip.flag (R.FP_STATUS p) F.FP_STATUS_VALUE ≠ level) ((7 : Fin 32)) true (st [(R.FP_CFG 7, F.FP_CFG_EN.of 1), (R.FP_STATUS 7, 0)])) ∧
    ((fun (p : Fin 32) (s : State) => s.chip.fpSamples p = true ∧ s.chip.flag (R.FP_CFG p) F.FP_CFG_WB_EN = true ∧ s.chip.fldMasked = false ∧ s.chip.flag (R.FP_STATUS p) F.FP_STATUS_WIRE_BREAK = false) ((7 : Fin 32)) (st [(R.FP_CFG 7, F.FP_CFG_WB_EN.put (F.FP_CFG_EN.of 1) 1), (R.FP_STATUS 7, 0)])) ∧
    ((fun (p : Fin 32) (s : State) => s.chip.fldMasked = false) ((7 : Fin 32)) (st [])) ∧
    ((fun (p : Fin 32) (s : State) => s.chip.direct .sup (R.FP_CMD p) = true ∧ s.chip.fpOut p = true ∧ s.chip.fpEn p = true ∧ s.chip.fpState p = .off ∧ s.chip.supplyFault = false) ((7 : Fin 32)) (st [(R.FP_CFG 7, F.FP_CFG_MODE.put (F.FP_CFG_EN.of 1) 2), (R.FP_STATUS 7, 0)])) ∧
    ((fun (p : Fin 32) (s : State) => s.chip.direct .sup (R.FP_CMD p) = true ∧ s.chip.fpOut p = true ∧ s.chip.fpState p = .on) ((7 : Fin 32)) (st [(R.FP_CFG 7, F.FP_CFG_MODE.put (F.FP_CFG_EN.of 1) 2), (R.FP_STATUS 7, F.FP_STATUS_STATE.of 1)])) ∧
    ((fun (p : Fin 32) (hot : Bool) (s : State) => s.chip.fpDrives p = true ∧ s.chip.flag (R.FP_CFG p) F.FP_CFG_AUTO_RETRY = false) ((7 : Fin 32)) true (st [(R.FP_CFG 7, F.FP_CFG_MODE.put (F.FP_CFG_EN.of 1) 2), (R.FP_STATUS 7, F.FP_STATUS_STATE.of 1)])) ∧
    ((fun (p : Fin 32) (s : State) => s.chip.fpDrives p = true ∧ s.chip.flag (R.FP_CFG p) F.FP_CFG_AUTO_RETRY = false) ((7 : Fin 32)) (st [(R.FP_CFG 7, F.FP_CFG_MODE.put (F.FP_CFG_EN.of 1) 2), (R.FP_STATUS 7, F.FP_STATUS_STATE.of 1)])) ∧
    ((fun (p : Fin 32) (data : Word) (s : State) => s.chip.direct .sup (R.FP_CMD p) = true ∧ F.FP_CMD_ON.get data = 0 ∧ s.chip.fpOut p = true ∧ s.chip.fpState p = .fault) ((7 : Fin 32)) (0#32) (st [(R.FP_CFG 7, F.FP_CFG_MODE.put (F.FP_CFG_EN.of 1) 2), (R.FP_STATUS 7, F.FP_STATUS_STATE.of 2)])) ∧
    ((fun (p : Fin 32) (s : State) => s.chip.fpOut p = true ∧ s.chip.fpRun p = .cooldown ∧ (s.chip.fp p).hot = false ∧ s.chip.supplyFault = false) ((7 : Fin 32)) (st [(R.FP_CFG 7, F.FP_CFG_MODE.put (F.FP_CFG_EN.of 1) 2), (R.FP_STATUS 7, F.FP_STATUS_STATE.of 3)])) ∧
    ((fun (p : Fin 32) (s : State) => s.chip.fpOut p = true ∧ s.chip.fpRun p = .cooldown ∧ (s.chip.fp p).waited = true ∧ s.chip.supplyFault = false) ((7 : Fin 32)) (stx [(R.FP_CFG 7, F.FP_CFG_MODE.put (F.FP_CFG_EN.of 1) 2), (R.FP_STATUS 7, F.FP_STATUS_STATE.of 3)] fun c => c.setFp 7 { waited := true, hot := true })) ∧
    ((fun (p : Fin 32) (s : State) => s.chip.fpDrives p = true ∧ s.chip.flag (R.FP_CFG p) F.FP_CFG_OL_EN = true ∧ s.chip.fldMasked = false ∧ s.chip.flag (R.FP_STATUS p) F.FP_STATUS_OPEN_LOAD = false) ((7 : Fin 32)) (st [(R.FP_CFG 7, F.FP_CFG_OL_EN.put (F.FP_CFG_MODE.put (F.FP_CFG_EN.of 1) 2) 1), (R.FP_STATUS 7, F.FP_STATUS_STATE.of 1)])) ∧
    ((fun (p : Fin 32) (s : State) => s.chip.fldMasked = false) ((7 : Fin 32)) (st [])) := by
  refine ⟨?_, ?_, ?_, ?_, ?_, ?_, ?_, ?_, ?_, ?_, ?_, ?_⟩ <;> decide +kernel

/-- States and operands that meet the hypotheses of FieldConfigurationSupplyAndHold, clause by clause. -/
theorem witness_FieldConfigurationSupplyAndHold :
    ((fun (p : Fin 32) (parts : List ClampPart) (tj : BitVec 8) (s : State) => s.chip.fpOut p = true ∧ (s.chip.fp p).clamping = true ∧ s.chip.fpEn p = true ∧ clampEnergy parts ≤ vClampAllow ((tj.toNat : Int) - 50)) ((7 : Fin 32)) ([] : List ClampPart) (75#8) (stx [(R.FP_CFG 7, F.FP_CFG_MODE.put (F.FP_CFG_EN.of 1) 2), (R.FP_STATUS 7, 0)] fun c => c.setFp 7 { clamping := true })) ∧
    ((fun (p : Fin 32) (data : Word) (s : State) => s.chip.direct .sup (R.FP_CFG p) = true ∧ F.FP_CFG_MODE.get data = 2 ∧ s.chip.fpOut p = true ∧ s.chip.fpState p = .off ∧ (s.chip.fp p).clamping = false) ((7 : Fin 32)) (F.FP_CFG_MODE.put (F.FP_CFG_EN.of 1) 2) (st [(R.FP_CFG 7, F.FP_CFG_MODE.put (F.FP_CFG_EN.of 1) 2), (R.FP_STATUS 7, 0)])) ∧
    ((fun (p : Fin 32) (data : Word) (s : State) => s.chip.direct .sup (R.FP_CFG p) = true ∧ F.FP_CFG_EN.get data = 1 ∧ F.FP_CFG_MODE.get data < 2 ∧ s.chip.fpOut p = true ∧ s.chip.fpState p = .on) ((7 : Fin 32)) (F.FP_CFG_EN.of 1) (st [(R.FP_CFG 7, F.FP_CFG_MODE.put (F.FP_CFG_EN.of 1) 2), (R.FP_STATUS 7, F.FP_STATUS_STATE.of 1)])) ∧
    ((fun (p : Fin 32) (data : Word) (s : State) => s.chip.direct .sup (R.FP_CFG p) = true ∧ F.FP_CFG_EN.get data = 1 ∧ F.FP_CFG_MODE.get data ≤ 2 ∧ s.chip.fpState p = .off ∧ s.chip.fpEn p = true) ((7 : Fin 32)) (F.FP_CFG_EN.of 1) (st [(R.FP_CFG 7, F.FP_CFG_MODE.put (F.FP_CFG_EN.of 1) 2), (R.FP_STATUS 7, 0)])) ∧
    ((fun (tooHigh : Bool) (s : State) => s.chip.supplyFault = false) false (st [(R.FP_CFG 7, F.FP_CFG_MODE.put (F.FP_CFG_EN.of 1) 2), (R.FP_STATUS 7, F.FP_STATUS_STATE.of 1)])) ∧
    ((fun (s : State) => s.chip.supplyFault = true) (st [(R.FLD_SUP_STATUS, F.FLD_SUP_STATUS_SUPPLY_FAULT.of 1)])) ∧
    ((fun (s : State) => (s.chip.link 6).lost = true) (stx [(R.FP_CFG 7, F.FP_CFG_MODE.put (F.FP_CFG_EN.of 1) 2), (R.FP_STATUS 7, F.FP_STATUS_STATE.of 5)] fun c => c.setLink 6 { lost := true })) := by
  refine ⟨?_, ?_, ?_, ?_, ?_, ?_, ?_⟩ <;> decide +kernel

/-- States and operands that meet the hypotheses of CoresTimersFencesAndErrors, clause by clause. -/
theorem witness_CoresTimersFencesAndErrors :
    ((fun (c : Fin 4) (data : Word) (s : State) => s.chip.coreRuns c = true ∧ (s.chip.core c).user = false) ((1 : Fin 4)) (7#32) (stx [] fun c => (c.setCore 0 { c.core 0 with inReset := false }).setCore 1 { c.core 1 with inReset := false })) ∧
    ((fun (c : Fin 4) (addr : Word) (write : Bool) (s : State) => s.chip.coreRuns c = true) ((1 : Fin 4)) (0x20000040#32) false (stx [] fun c => (c.setCore 0 { c.core 0 with inReset := false }).setCore 1 { c.core 1 with inReset := false })) ∧
    ((fun (c : Fin 4) (addr : Word) (write : Bool) (s : State) => s.chip.coreRuns c = true) ((1 : Fin 4)) (0x20000040#32) true (stx [] fun c => (c.setCore 0 { c.core 0 with inReset := false }).setCore 1 { c.core 1 with inReset := false })) ∧
    ((fun (rq : Req) (addr : Word) (fetch : Bool) (s : State) => inSram addr.toNat = true ∧ s.chip.awake = true) .host (0x20000040#32) false (st [])) ∧
    ((fun (rq : Req) (addr : Word) (fetch : Bool) (s : State) => inSram addr.toNat = true ∧ s.chip.awake = true) .host (0x20000040#32) false (st [])) ∧
    ((fun (lo : Word) (n : Nat) (s : State) => s.chip.erasing = false) (0x10A00000#32) 4096 (stx [] fun c => (c.setCore 0 { c.core 0 with inReset := false }).setCore 1 { c.core 1 with inReset := false, stale := [0x850000, 0x900000] })) := by
  refine ⟨?_, ?_, ?_, ?_, ?_, ?_⟩ <;> decide +kernel

/-- States and operands that meet the hypotheses of AtomicAccessesToSram, clause by clause. -/
theorem witness_AtomicAccessesToSram :
    ((fun (c : Fin 4) (user : Bool) (addr data : Word) (s : State) => s.chip.coreRuns c = true ∧ inSram addr.toNat = true ∧ addr.toNat % 4 = 0 ∧ s.chip.pmpOk c user addr.toNat 4 0 = true ∧ s.chip.pmpOk c user addr.toNat 4 1 = true ∧ s.chip.bankLost addr.toNat = false) ((1 : Fin 4)) false (0x20000040#32) (0#32) (stx [] fun c => (c.setCore 0 { c.core 0 with inReset := false }).setCore 1 { c.core 1 with inReset := false })) ∧
    ((fun (c : Fin 4) (user : Bool) (addr data : Word) (s : State) => s.chip.coreRuns c = true ∧ inSram addr.toNat = true ∧ addr.toNat % 4 = 0 ∧ s.chip.pmpOk c user addr.toNat 4 0 = true ∧ s.chip.pmpOk c user addr.toNat 4 1 = true ∧ s.chip.bankLost addr.toNat = false ∧ (s.chip.core c).reserve = some (addr.toNat / 32)) ((1 : Fin 4)) false (0x20000040#32) (9#32) (stx [] fun c => (c.setCore 0 { c.core 0 with inReset := false }).setCore 1 { c.core 1 with inReset := false, reserve := some 0x1000002 })) ∧
    ((fun (c : Fin 4) (user : Bool) (addr data : Word) (s : State) => s.chip.coreRuns c = true ∧ inSram addr.toNat = true ∧ addr.toNat % 4 = 0 ∧ s.chip.pmpOk c user addr.toNat 4 0 = true ∧ s.chip.pmpOk c user addr.toNat 4 1 = true ∧ (s.chip.core c).reserve ≠ some (addr.toNat / 32)) ((1 : Fin 4)) false (0x20000040#32) (9#32) (stx [] fun c => (c.setCore 0 { c.core 0 with inReset := false }).setCore 1 { c.core 1 with inReset := false })) ∧
    ((fun (c : Fin 4) (user : Bool) (addr data : Word) (s : State) => s.chip.coreRuns c = true ∧ inSram addr.toNat = true ∧ addr.toNat % 4 = 0 ∧ s.chip.pmpOk c user addr.toNat 4 0 = true ∧ s.chip.pmpOk c user addr.toNat 4 1 = true ∧ s.chip.bankLost addr.toNat = false) ((1 : Fin 4)) false (0x20000040#32) (9#32) (stx [] fun c => (c.setCore 0 { c.core 0 with inReset := false }).setCore 1 { c.core 1 with inReset := false })) ∧
    ((fun (c : Fin 4) (user : Bool) (addr data : Word) (s : State) => s.chip.coreRuns c = true ∧ inSram addr.toNat = true ∧ addr.toNat % 4 = 0 ∧ s.chip.pmpOk c user addr.toNat 4 0 = true ∧ s.chip.pmpOk c user addr.toNat 4 1 = true ∧ s.chip.bankLost addr.toNat = false) ((1 : Fin 4)) false (0x20000040#32) (9#32) (stx [] fun c => (c.setCore 0 { c.core 0 with inReset := false }).setCore 1 { c.core 1 with inReset := false })) ∧
    ((fun (c : Fin 4) (user : Bool) (op : AtomicOp) (addr data : Word) (s : State) => s.chip.coreRuns c = true ∧ inSram addr.toNat = false) ((1 : Fin 4)) false AtomicOp.lr (0x40000000#32) (9#32) (stx [] fun c => (c.setCore 0 { c.core 0 with inReset := false }).setCore 1 { c.core 1 with inReset := false })) := by
  refine ⟨?_, ?_, ?_, ?_, ?_, ?_⟩ <;> decide +kernel

/-- States and operands that meet the hypotheses of CountersSamplingAndDumps, clause by clause. -/
theorem witness_CountersSamplingAndDumps :
    ((fun (c : Fin 4) (j : Fin 12) (i : Fin 15) (s : State) => i.val = j.val + 3 ∧ s.chip.counts c i = true ∧ (s.chip.core c).wrote ≠ some i.val) ((1 : Fin 4)) ((2 : Fin 12)) ((5 : Fin 15)) (stx [] fun c => (c.setCore 0 { c.core 0 with inReset := false }).setCore 1 { c.core 1 with inReset := false })) ∧
    ((fun (c : Fin 4) (j : Fin 15) (data : Word) (s : State) => s.chip.coreRuns c = true ∧ (s.chip.core c).user = false ∧ 3 ≤ j.val) ((1 : Fin 4)) ((5 : Fin 15)) (9#32) (stx [] fun c => (c.setCore 0 { c.core 0 with inReset := false }).setCore 1 { c.core 1 with inReset := false })) ∧
    ((fun (c : Fin 4) (s : State) => s.chip.coreRuns c = true ∧ s.chip.flag (R.MSAMP_CTL c) F.MSAMP_CTL_EN = true ∧ s.chip.flag (R.MSAMP_LAT1 c) F.MSAMP_LAT1_VALID = false ∧ (s.chip.core c).tagged = false) ((1 : Fin 4)) (stx [(R.MSAMP_CTL 1, 0x80000001)] fun c => (c.setCore 0 { c.core 0 with inReset := false }).setCore 1 { c.core 1 with inReset := false })) ∧
    ((fun (c : Fin 4) (pc lat0 : Word) (outcome : BitVec 2) (slot : Bool) (retire : BitVec 8) (s : State) => (s.chip.core c).tagged = true) ((1 : Fin 4)) (4#32) (5#32) (1#2) true (7#8) (stx [] fun c => (c.setCore 0 { c.core 0 with inReset := false }).setCore 1 { c.core 1 with inReset := false, tagged := true })) ∧
    ((fun (c : Fin 4) (data : Word) (s : State) => s.chip.coreRuns c = true ∧ (s.chip.core c).user = false) ((1 : Fin 4)) (0x80000007#32) (stx [(R.MSAMP_LAT1 1, 0x80000000)] fun c => (c.setCore 0 { c.core 0 with inReset := false }).setCore 1 { c.core 1 with inReset := false, tagged := true })) ∧
    ((fun (wfi : BitVec 4) (s : State) => s.chip.cdeRunning = true ∧ inSram s.chip.cdeAddr = true ∧ inSram (s.chip.cdeAddr + 511) = true ∧ s.chip.bankLost s.chip.cdeAddr = false) (2#4) (stx [(R.SYS_MODE, 0x56), (R.CDE_CTRL, 0x80000400), (R.CDE_BASE, 0x20001000)] id)) ∧
    ((fun (wfi : BitVec 4) (s : State) => s.chip.cdeRunning = true ∧ inSram s.chip.cdeAddr = false) (2#4) (stx [(R.SYS_MODE, 0x56), (R.CDE_CTRL, 0x80000400)] id)) ∧
    ((fun (s : State) => s.chip.mode ≠ 5 ∧ s.chip.mode ≠ 6) (stx [] fun c => { c with modex := { c.modex with limpWin := true } })) := by
  refine ⟨?_, ?_, ?_, ?_, ?_, ?_, ?_, ?_⟩ <;> decide +kernel

/-- States and operands that meet the hypotheses of ClaimsTakeTheHighestSourceFirst, clause by clause. -/
theorem witness_ClaimsTakeTheHighestSourceFirst :
    ((fun (s : State) => s.chip.flag R.SYS_PAD_HOLD (bitFld 0) = false) (st [])) ∧
    ((fun (rq : Req) (t : Fin 7) (k : Nat) (s : State) => s.chip.atOnce rq (R.EVR_CLAIM t) 0 = true ∧ k < 256 ∧ (s.chip.pendAt t).getLsbD k = true ∧ s.chip.fget (R.EVR_THRESH t) F.EVR_THRESH_THRESH < s.chip.fget (R.EVR_ROUTE k) F.EVR_ROUTE_PRIO ∧ ((∀ j, j < 256 → (s.chip.pendAt t).getLsbD j = true → s.chip.fget (R.EVR_ROUTE j) F.EVR_ROUTE_PRIO < s.chip.fget (R.EVR_ROUTE k) F.EVR_ROUTE_PRIO ∨ (s.chip.fget (R.EVR_ROUTE j) F.EVR_ROUTE_PRIO = s.chip.fget (R.EVR_ROUTE k) F.EVR_ROUTE_PRIO ∧ k ≤ j)))) .host ((5 : Fin 7)) 255 (stx [(R.EVR_ROUTE 3, 0x221), (R.EVR_ROUTE 255, 0x321), (R.EVR_THRESH 5, 1)] fun c => c.setPendAt 5 (1#256 <<< 255 ||| 8))) ∧
    ((fun (rq : Req) (t : Fin 7) (s : State) => s.chip.atOnce rq (R.EVR_CLAIM t) 0 = true ∧ s.chip.interrupted t = false) .host ((5 : Fin 7)) (stx [(R.EVR_THRESH 5, 3)] fun c => c.setPendAt 5 8)) ∧
    ((fun (user : Bool) (t : Fin 7) (b : Fin 32) (s : State) => s.chip.awake = true ∧ s.chip.stalled .sup = false) false ((5 : Fin 7)) ((31 : Fin 32)) (stx [] fun c => c.setPendAt 5 8)) := by
  refine ⟨?_, ?_, ?_, ?_⟩ <;> decide +kernel

/-- States and operands that meet the hypotheses of RaisesAreCountedPendingOrMerged, clause by clause. -/
theorem witness_RaisesAreCountedPendingOrMerged :
    ((fun (c : Chip) (k : Fin 256) => c.awake = true) (chip []) ((5 : Fin 256))) ∧
    ((fun (c : Chip) (k : Fin 256) (t : Fin 7) => c.awake = true) (chip []) ((5 : Fin 256)) ((4 : Fin 7))) ∧
    ((fun (c : Chip) (k : Fin 256) (t : Fin 7) => c.awake = true) (chip []) ((5 : Fin 256)) ((4 : Fin 7))) ∧
    ((fun (c : Chip) (k : Fin 256) (a : Nat) => a ≠ R.EVR_CNT k ∧ (∀ t : Fin 7, a ≠ R.EVR_MERGE_CNT t) ∧ a ≠ R.SYS_BLK_POWER 0) (chip []) ((5 : Fin 256)) 0) ∧
    ((fun (rq : Req) (j : Fin 16) (s : State) => rq.code ≤ 5 ∧ s.chip.atOnce rq R.EVR_SWRAISE 1 = true) .a1 ((15 : Fin 16)) (st [])) ∧
    ((fun (rq : Req) (k : Fin 256) (data : Word) (s : State) => s.chip.atOnce rq (R.EVR_ROUTE k) 1 = true) .a1 ((5 : Fin 256)) (0x12F#32) (st [])) := by
  refine ⟨?_, ?_, ?_, ?_, ?_, ?_⟩ <;> decide +kernel

/-- States and operands that meet the hypotheses of HostFramesWriteAndAreRefused, clause by clause. -/
theorem witness_HostFramesWriteAndAreRefused :
    ((fun (mode3 : Bool) (s : State) => s.chip.mode ≠ 0 ∧ s.chip.hsp.inFrame = false) true (st [])) ∧
    ((fun (addr : BitVec 24) (s : State) => s.chip.hsp.inFrame = true) (0#24) (stx [] fun c => { c with hsp := { c.hsp with inFrame := true } })) ∧
    ((fun (addr : BitVec 24) (x : Word) (s : State) => s.chip.hsp.inFrame = true ∧ s.chip.hsp.ready = true ∧ 0x400000 ≤ addr.toNat ∧ addr.toNat < 0x800000 ∧ addr.toNat % 4 = 0 ∧ s.chip.awake = true ∧ s.chip.bankOpen (s.chip.hostAddr addr.toNat) = true ∧ s.chip.bankLost (s.chip.hostAddr addr.toNat) = false) (0x400010#24) (7#32) (stx [(R.HSP_HOST_BANKS, 0xFFFFFFFF)] fun c => { c with hsp := { c.hsp with inFrame := true, ready := true } })) ∧
    ((fun (addr : BitVec 24) (x y : Word) (s : State) => s.chip.hsp.inFrame = true ∧ s.chip.hsp.ready = true ∧ 0x400000 ≤ addr.toNat ∧ addr.toNat < 0x800000 ∧ addr.toNat % 4 = 0 ∧ s.chip.awake = true ∧ s.chip.bankOpen (s.chip.hostAddr addr.toNat) = true ∧ s.chip.bankLost (s.chip.hostAddr addr.toNat) = false) (0x400010#24) (6#32) (7#32) (stx [(R.HSP_HOST_BANKS, 0xFFFFFFFF)] fun c => { c with hsp := { c.hsp with inFrame := true, ready := true } })) ∧
    ((fun (q : Fin 32) (x : Word) (ws : List Word) (s : State) => s.chip.hsp.inFrame = true ∧ s.chip.hsp.ready = true ∧ s.chip.awake = true ∧ s.chip.stalled .host = false ∧ s.chip.isProducer .host q = true ∧ s.chip.qEnabled q = true ∧ (s.chip.queue q).inPacket = false ∧ (s.chip.queue q).dropping = false ∧ ws.length + 1 ≤ s.chip.qFree q) ((30 : Fin 32)) (7#32) ([8#32]) (stx [(R.Q_CFG 30, F.Q_CFG_PROD.put (F.Q_CFG_SIZE.put (F.Q_CFG_EN.of 1) 2) 5)] fun c => { c with hsp := { c.hsp with inFrame := true, ready := true } })) ∧
    ((fun (addr : BitVec 24) (ws : List Word) (part : Bool) (s : State) => s.chip.hsp.inFrame = true ∧ s.chip.awake = true ∧ addr.toNat % 4 ≠ 0) (0x400011#24) ([7#32]) false (stx [] fun c => { c with hsp := { c.hsp with inFrame := true } })) ∧
    ((fun (addr : BitVec 24) (x : Word) (s : State) => s.chip.hsp.inFrame = true ∧ s.chip.hsp.ready = false ∧ s.chip.awake = true ∧ 0x400000 ≤ addr.toNat ∧ addr.toNat < 0x800000 ∧ addr.toNat % 4 = 0) (0x400010#24) (7#32) (stx [] fun c => { c with hsp := { c.hsp with inFrame := true } })) ∧
    ((fun (clocks : Nat) (op : BitVec 8) (addr : BitVec 24) (s : State) => s.chip.hsp.inFrame = true ∧ s.chip.awake = true ∧ clocks < 32) 9 (2#8) (4#24) (stx [] fun c => { c with hsp := { c.hsp with inFrame := true } })) ∧
    ((fun (clocks : Nat) (op : BitVec 8) (addr : BitVec 24) (s : State) => s.chip.hsp.inFrame = true ∧ s.chip.awake = true ∧ 32 ≤ clocks ∧ 0x30 ≤ op.toNat) 32 (0x30#8) (4#24) (stx [] fun c => { c with hsp := { c.hsp with inFrame := true } })) := by
  refine ⟨?_, ?_, ?_, ?_, ?_, ?_, ?_, ?_, ?_⟩ <;> decide +kernel

/-- States and operands that meet the hypotheses of HostReadsAndTheFaceplate, clause by clause. -/
theorem witness_HostReadsAndTheFaceplate :
    ((fun (n : Fin 16) (addr : BitVec 24) (s : State) => s.chip.hsp.inFrame = true ∧ s.chip.hsp.ready = true ∧ s.chip.stalled .host = false ∧ 0x400000 ≤ addr.toNat ∧ addr.toNat + 4 * n.val < 0x1000000 ∧ addr.toNat % 4 = 0 ∧ s.chip.hsp.busy = none ∧ s.chip.hsp.resp = none) ((3 : Fin 16)) (0x400010#24) (stx [] fun c => { c with hsp := { c.hsp with inFrame := true, ready := true } })) ∧
    ((fun (n : Fin 16) (addr : BitVec 24) (s : State) => s.chip.hsp.inFrame = true ∧ s.chip.hsp.ready = true ∧ s.chip.stalled .host = false ∧ 0x400000 ≤ addr.toNat ∧ addr.toNat % 4 = 0 ∧ s.chip.hsp.busy = none ∧ s.chip.hsp.resp = none) ((3 : Fin 16)) (0xFFFFFC#24) (stx [] fun c => { c with hsp := { c.hsp with inFrame := true, ready := true } })) ∧
    ((fun (addr : BitVec 24) (fixed : Bool) (s : State) => s.chip.hsp.busy = some ⟨addr.toNat, fixed, 1, true⟩ ∧ (s.chip.busOf .host).held = [] ∧ 0x400000 ≤ addr.toNat ∧ addr.toNat < 0x800000 ∧ addr.toNat % 4 = 0 ∧ s.chip.awake = true ∧ s.chip.bankOpen (s.chip.hostAddr addr.toNat) = true ∧ s.chip.bankLost (s.chip.hostAddr addr.toNat) = false) (0x400010#24) false (stx [(R.HSP_HOST_BANKS, 0xFFFFFFFF)] fun c => { c with hsp := { c.hsp with busy := some ⟨0x400010, false, 1, true⟩ } })) ∧
    ((fun (addr : BitVec 24) (words : Nat) (s : State) => s.chip.hsp.inFrame = true) (0#24) 3 (stx [] fun c => { c with hsp := { c.hsp with inFrame := true, resp := some (0x400010, [(9, 0)]) } })) ∧
    ((fun (addr : BitVec 24) (words : Nat) (s : State) => s.chip.hsp.inFrame = true ∧ addr.toNat % 4 = 0 ∧ addr.toNat < 0x1000) (0xFFC#24) 3 (stx [] fun c => { c with hsp := { c.hsp with inFrame := true, front := [(0, 9)] } })) ∧
    ((fun (ms : Bool) (s : State) => s.chip.awake = true ∧ s.chip.hsp.ready = true ∧ s.chip.hsp.back = none) true (stx [] fun c => { c with hsp := { c.hsp with ready := true } })) ∧
    ((fun (ms : Bool) (s : State) => s.chip.awake = true ∧ s.chip.hsp.ready = true ∧ s.chip.hsp.back ≠ none) true (stx [] fun c => { c with hsp := { c.hsp with ready := true, back := some [] } })) ∧
    ((fun (t : Tbl Word) (s : State) => s.chip.hsp.back = some t ∧ s.chip.hsp.inFrame = false) (([(4, 5)] : Tbl Word)) (stx [] fun c => { c with hsp := { c.hsp with back := some [(4, 5)] } })) := by
  refine ⟨?_, ?_, ?_, ?_, ?_, ?_, ?_, ?_⟩ <;> decide +kernel

/-- States and operands that meet the hypotheses of QueuesAreFirstInFirstOut, clause by clause. -/
theorem witness_QueuesAreFirstInFirstOut :
    ((fun (rq : Req) (q : Fin 32) (data : Word) (s : State) => s.chip.atOnce rq (R.Q_PUSH q) 1 = true ∧ s.chip.isProducer rq q = true ∧ s.chip.qEnabled q = true ∧ (s.chip.queue q).dropping = false ∧ (s.chip.queue q).fill.length < s.chip.qSize q) .host ((30 : Fin 32)) (5#32) (stx [(R.Q_CFG 30, F.Q_CFG_CONS.put (F.Q_CFG_PROD.put (F.Q_CFG_SIZE.put (F.Q_CFG_EN.of 1) 2) 5) 4)] fun c => c)) ∧
    ((fun (rq : Req) (q : Fin 32) (data : Word) (s : State) => s.chip.atOnce rq (R.Q_PUSH_EOP q) 1 = true ∧ s.chip.isProducer rq q = true ∧ s.chip.qEnabled q = true ∧ (s.chip.queue q).dropping = false ∧ (s.chip.queue q).fill.length < s.chip.qSize q) .host ((30 : Fin 32)) (5#32) (stx [(R.Q_CFG 30, F.Q_CFG_CONS.put (F.Q_CFG_PROD.put (F.Q_CFG_SIZE.put (F.Q_CFG_EN.of 1) 2) 5) 4)] fun c => c)) ∧
    ((fun (rq : Req) (q : Fin 32) (data : Word) (s : State) => s.chip.atOnce rq (R.Q_PUSH q) 1 = true ∧ s.chip.isProducer rq q = false) .a0 ((30 : Fin 32)) (5#32) (stx [(R.Q_CFG 30, F.Q_CFG_CONS.put (F.Q_CFG_PROD.put (F.Q_CFG_SIZE.put (F.Q_CFG_EN.of 1) 2) 5) 4)] fun c => c)) ∧
    ((fun (rq : Req) (q : Fin 32) (w : QWord) (l : List QWord) (s : State) => s.chip.atOnce rq (R.Q_POP q) 0 = true ∧ s.chip.isConsumer rq q = true ∧ s.chip.qEnabled q = true ∧ (s.chip.queue q).drain = w :: l) .sup ((30 : Fin 32)) ((QWord.mk 7 true)) (([] : List QWord)) (stx [(R.Q_CFG 30, F.Q_CFG_CONS.put (F.Q_CFG_PROD.put (F.Q_CFG_SIZE.put (F.Q_CFG_EN.of 1) 2) 5) 4)] fun c => c.setQueue 30 { drain := [⟨7, true⟩] })) ∧
    ((fun (rq : Req) (q : Fin 32) (s : State) => s.chip.atOnce rq (R.Q_POP q) 0 = true ∧ s.chip.isConsumer rq q = true ∧ s.chip.qEnabled q = true ∧ (s.chip.queue q).drain = []) .sup ((30 : Fin 32)) (stx [(R.Q_CFG 30, F.Q_CFG_CONS.put (F.Q_CFG_PROD.put (F.Q_CFG_SIZE.put (F.Q_CFG_EN.of 1) 2) 5) 4)] fun c => c)) ∧
    ((fun (q : Fin 32) (s : State) => s.chip.awake = true ∧ q.val ≠ 29 ∧ s.chip.qEnabled q = true ∧ (s.chip.queue q).drain = [] ∧ (s.chip.queue q).fill ≠ [] ∧ (s.chip.queue q).inPacket = false) ((30 : Fin 32)) (stx [(R.Q_CFG 30, F.Q_CFG_CONS.put (F.Q_CFG_PROD.put (F.Q_CFG_SIZE.put (F.Q_CFG_EN.of 1) 2) 5) 4)] fun c => c.setQueue 30 { fill := [⟨7, true⟩] })) ∧
    ((fun (rq : Req) (q : Fin 32) (s : State) => s.chip.atOnce rq (R.Q_PROD_CTRL q) 1 = true ∧ s.chip.isProducer rq q = true ∧ s.chip.qEnabled q = true ∧ (s.chip.queue q).atStart = true) .host ((30 : Fin 32)) (stx [(R.Q_CFG 30, F.Q_CFG_CONS.put (F.Q_CFG_PROD.put (F.Q_CFG_SIZE.put (F.Q_CFG_EN.of 1) 2) 5) 4)] fun c => c.setQueue 30 { fill := [⟨7, true⟩] })) ∧
    ((fun (rq : Req) (q : Fin 32) (k : Nat) (s : State) => s.chip.atOnce rq (R.Q_PROD_CTRL q) 1 = true ∧ s.chip.isProducer rq q = true ∧ s.chip.qEnabled q = true ∧ (s.chip.queue q).mark = some k) .host ((30 : Fin 32)) 1 (stx [(R.Q_CFG 30, F.Q_CFG_CONS.put (F.Q_CFG_PROD.put (F.Q_CFG_SIZE.put (F.Q_CFG_EN.of 1) 2) 5) 4)] fun c => c.setQueue 30 { fill := [⟨7, true⟩, ⟨8, false⟩], mark := some 1 })) ∧
    ((fun (q : Fin 32) (data : Word) (s : State) => s.chip.atOnce .sup (R.Q_CFG q) 1 = true ∧ s.chip.qEnabled q = false ∧ s.chip.qMayEnable q (qCfgMerge q (s.chip.rd (R.Q_CFG q)) (F.Q_CFG_EN.put data 1)) = true) ((30 : Fin 32)) (F.Q_CFG_SIZE.of 300) (st [])) ∧
    ((fun (q : Fin 32) (data : Word) (s : State) => s.chip.atOnce .sup (R.Q_CFG q) 1 = true) ((30 : Fin 32)) (0#32) (stx [(R.Q_CFG 30, F.Q_CFG_CONS.put (F.Q_CFG_PROD.put (F.Q_CFG_SIZE.put (F.Q_CFG_EN.of 1) 2) 5) 4)] fun c => c.setQueue 30 { fill := [⟨7, true⟩] })) ∧
    ((fun (q : Fin 32) (x : Word) (ws : List Word) (s : State) => s.chip.awake = true ∧ s.chip.fget (R.Q_CFG q) F.Q_CFG_PROD = 15 ∧ ws.length + 1 ≤ s.chip.qFree q) ((20 : Fin 32)) (7#32) ([8#32]) (stx [(R.Q_CFG 20, F.Q_CFG_CONS.put (F.Q_CFG_PROD.put (F.Q_CFG_SIZE.put (F.Q_CFG_EN.of 1) 2) 15) 4)] fun c => c)) ∧
    ((fun (q : Fin 32) (x : Word) (ws : List Word) (s : State) => s.chip.awake = true ∧ s.chip.fget (R.Q_CFG q) F.Q_CFG_PROD = 15 ∧ s.chip.qFree q < ws.length + 1) ((20 : Fin 32)) (7#32) ([8#32]) (stx [(R.Q_CFG 20, F.Q_CFG_CONS.put (F.Q_CFG_PROD.put (F.Q_CFG_SIZE.put (F.Q_CFG_EN.of 1) 2) 15) 4)] fun c => c.setQueue 20 { fill := List.replicate 128 ⟨0, true⟩ })) := by
  refine ⟨?_, ?_, ?_, ?_, ?_, ?_, ?_, ?_, ?_, ?_, ?_, ?_⟩ <;> decide +kernel

/-- States and operands that meet the hypotheses of CommandsAreCheckedAndRefused, clause by clause. -/
theorem witness_CommandsAreCheckedAndRefused :
    ((fun (rq : Req) (tag : Nat) (ws : List Word) (s : State) => tag < 128 ∧ ws ≠ [] ∧ ws.length ≤ 62 ∧ s.chip.serves rq = true ∧ s.chip.headPacket (cmdQueue rq) = cmdHeader 0x5A tag ws.length :: ws) .host 5 ([7#32]) (cs Req.host 0x5A 5 [7] [])) ∧
    ((fun (rq : Req) (tag : Nat) (s : State) => tag < 128 ∧ s.chip.serves rq = true ∧ s.chip.headPacket (cmdQueue rq) = [cmdHeader 0x5A tag 0] ∧ ((s.chip.cmds.any fun x => x.rq == rq && x.tag == tag) = true)) .host 5 (cs Req.host 0x5A 5 [] [] fun c => { c with cmds := [{ rq := .host, op := 0x31, tag := 5 }] })) ∧
    ((fun (rq : Req) (tag : Nat) (s : State) => tag < 128 ∧ s.chip.serves rq = true ∧ s.chip.headPacket (cmdQueue rq) = [cmdHeader 0x5A tag 0] ∧ ((s.chip.cmds.any fun x => x.rq == rq && x.tag == tag) = false) ∧ s.chip.quotas.getD rq.code 0 ≤ s.chip.ownEntries rq) .host 5 (cs Req.host 0x5A 5 [] [] fun c => { c with quotas := [0, 0, 0, 0, 0, 0] })) ∧
    ((fun (rq : Req) (tag : Nat) (s : State) => tag < 128 ∧ s.chip.serves rq = true ∧ s.chip.headPacket (cmdQueue rq) = [cmdHeader 0x5A tag 0] ∧ ((s.chip.cmds.any fun x => x.rq == rq && x.tag == tag) = false) ∧ s.chip.ownEntries rq < s.chip.quotas.getD rq.code 0 ∧ s.chip.entries < 128 ∧ s.chip.rangeAdmits rq 0x5A = false) .host 5 (cs Req.host 0x5A 5 [] [] fun c => { c with cfg := { c.cfg with masks := [] } })) ∧
    ((fun (rq : Req) (tag op : Nat) (ws : List Word) (s : State) => tag < 128 ∧ op < 256 ∧ definedOp op = false ∧ ws.length ≤ 62 ∧ s.chip.serves rq = true ∧ s.chip.headPacket (cmdQueue rq) = cmdHeader op tag ws.length :: ws) .a2 5 0xF0 ([1#32]) (cs Req.a2 0xF0 5 [1] [])) ∧
    ((fun (rq : Req) (tag : Nat) (ch : Fin 192) (x : Word) (s : State) => s.chip.offers rq 0x11 tag [(.ofNat 32 (ch) : Word), x] ∧ isSealed ch = true ∧ s.chip.ownerOf (s.chip.lead ch) = rq.code) .host 5 ((190 : Fin 192)) (0#32) (cs Req.host 0x11 5 [(.ofNat 32 (((190 : Fin 192))) : Word), (0#32)] [(R.CH_OWNER 190, 5)] id)) ∧
    ((fun (rq : Req) (s : State) => (s.chip.headPacket (cmdQueue rq) = [] ∨ s.chip.serves rq = false)) .access (st [])) := by
  refine ⟨?_, ?_, ?_, ?_, ?_, ?_, ?_⟩ <;> decide +kernel

/-- States and operands that meet the hypotheses of SystemCommandsDo, clause by clause. -/
theorem witness_SystemCommandsDo :
    ((fun (rq : Req) (tag : Nat) (s : State) => s.chip.offers rq 0 tag []) .host 5 (cs Req.host 0 5 [] [] id)) ∧
    ((fun (rq : Req) (tag : Nat) (s : State) => s.chip.offers rq 1 tag []) .host 5 (cs Req.host 1 5 [] [] id)) ∧
    ((fun (rq : Req) (tag : Nat) (x : Fin 128) (s : State) => s.chip.offers rq 2 tag [(.ofNat 32 (x) : Word)] ∧ ((s.chip.cmds.any fun y => y.rq == rq && y.tag == x.val) = false)) .host 5 ((9 : Fin 128)) (cs Req.host 2 5 [(.ofNat 32 (((9 : Fin 128))) : Word)] [] id)) ∧
    ((fun (rq : Req) (tag : Nat) (x : Fin 128) (s : State) => s.chip.offers rq 3 tag [(.ofNat 32 (x) : Word)] ∧ s.chip.cmds = [] ∧ s.chip.grain.exp = none) .host 5 ((9 : Fin 128)) (cs Req.host 3 5 [(.ofNat 32 (((9 : Fin 128))) : Word)] [] id)) ∧
    ((fun (rq : Req) (tag : Nat) (x : Cmd) (s : State) => s.chip.offers rq 2 tag [(.ofNat 32 (x.tag) : Word)] ∧ x.rq = rq ∧ x.op = 0x80 ∧ x.tag < 128 ∧ x.started = false ∧ s.chip.cmds = [x]) .host 5 (Cmd.mk Req.host 0x80 9 [] 0 false false false) (cs Req.host 2 5 [9] [] fun c => { c with cmds := [{ rq := .host, op := 0x80, tag := 9 }] })) ∧
    ((fun (rq : Req) (tag : Nat) (x : Cmd) (s : State) => s.chip.offers rq 3 tag [(.ofNat 32 (x.tag) : Word)] ∧ x.rq = rq ∧ x.op = 0x31 ∧ x.tag < 128 ∧ x.started = true ∧ s.chip.cmds = [x] ∧ s.chip.grain.exp = none) .host 5 (Cmd.mk Req.host 0x31 9 [] 7 true false false) (cs Req.host 3 5 [9] [] fun c => { c with cmds := [{ rq := .host, op := 0x31, tag := 9, obj := 7, started := true }] })) ∧
    ((fun (rq : Req) (tag : Nat) (s : State) => s.chip.offers rq 4 tag []) .host 5 (cs Req.host 4 5 [] [] id)) ∧
    ((fun (rq : Req) (tag : Nat) (r q : Nat) (s : State) => s.chip.offers rq 5 tag [(.ofNat 32 (r + q * 256) : Word)] ∧ isCore rq = true ∧ ((r < 4 ∨ r = 5) ∧ q ≤ 128)) .a1 5 5 7 (cs Req.a1 5 5 [(.ofNat 32 (5 + 7 * 256) : Word)] [] id)) ∧
    ((fun (rq : Req) (tag : Nat) (s : State) => s.chip.offers rq 6 tag []) .host 5 (cs Req.host 6 5 [] [] id)) ∧
    ((fun (rq : Req) (tag : Nat) (r o : BitVec 16) (x : Word) (s : State) => s.chip.offers rq 7 tag [.ofNat 32 r.toNat, .ofNat 32 o.toNat, x]) .host 5 (2#16) (3#16) (7#32) (cs Req.host 7 5 [2, 3, 7] [])) ∧
    ((fun (rq : Req) (tag : Nat) (k : Fin 256) (x : Word) (s : State) => s.chip.offers rq 8 tag [(.ofNat 32 (k) : Word), x] ∧ layoutOk .EVR_ROUTE [k.val] x = true) .host 5 ((3 : Fin 256)) (0x220#32) (cs Req.host 8 5 [(.ofNat 32 (((3 : Fin 256))) : Word), (0x220#32)] [] id)) ∧
    ((fun (rq : Req) (tag : Nat) (s : State) => s.chip.offers rq 9 tag [0] ∧ isCore rq = true) .a0 5 (cs Req.a0 9 5 [0] [] id)) ∧
    ((fun (rq : Req) (tag : Nat) (d : Nat) (s : State) => s.chip.offers rq 9 tag [(.ofNat 32 (d) : Word)] ∧ isCore rq = true ∧ (d = 6 ∨ d = 7) ∧ s.chip.linkUp d = true) .a0 5 7 (cs Req.a0 9 5 [(.ofNat 32 (7) : Word)] [] id)) := by
  refine ⟨?_, ?_, ?_, ?_, ?_, ?_, ?_, ?_, ?_, ?_, ?_, ?_, ?_⟩ <;> decide +kernel

/-- States and operands that meet the hypotheses of ChannelCommandsDo, clause by clause. -/
theorem witness_ChannelCommandsDo :
    ((fun (rq : Req) (tag : Nat) (ch : Fin 192) (x y : Word) (s : State) => s.chip.offers rq 0x10 tag [(.ofNat 32 (ch + 256) : Word), x, y] ∧ isSealed ch = false ∧ s.chip.ownerOf (s.chip.lead ch) = rq.code ∧ s.chip.linkUp (physDie ch) = true ∧ s.chip.inStep (physDie ch) = true ∧ s.chip.chState (s.chip.lead ch) ≠ .disabled ∧ s.chip.oddMember ch = false ∧ F.CH_CMD_REARM.get x = 0 ∧ F.CH_CMD_APPLY.get x = 0 ∧ F.CH_CMD_MODE.get x < 4 ∧ layoutOk .CH_CMD [pdie ch, ch % 48] x = true ∧ layoutOk .CH_PWM [pdie ch, ch % 48] y = true) .host 5 ((7 : Fin 192)) (0x0640001#32) (0x03E8#32) (cs Req.host 0x10 5 [(.ofNat 32 (((7 : Fin 192)) + 256) : Word), (0x0640001#32), (0x03E8#32)] [(R.CH_OWNER 7, 5)] id)) ∧
    ((fun (rq : Req) (tag : Nat) (ch : Fin 192) (x : Word) (s : State) => s.chip.offers rq 0x11 tag [(.ofNat 32 (ch) : Word), x] ∧ isSealed ch = false ∧ s.chip.ownerOf (s.chip.lead ch) = rq.code ∧ s.chip.linkUp (physDie ch) = true ∧ s.chip.inStep (physDie ch) = true ∧ s.chip.chState (s.chip.lead ch) ≠ .disabled ∧ s.chip.oddMember ch = false ∧ layoutOk .CH_CFG [pdie ch, ch % 48] x = true) .host 5 ((100 : Fin 192)) (0x11#32) (cs Req.host 0x11 5 [(.ofNat 32 (((100 : Fin 192))) : Word), (0x11#32)] [(R.CH_OWNER 100, 5)] id)) ∧
    ((fun (rq : Req) (tag : Nat) (n : Fin 4) (s : State) => s.chip.offers rq 0x12 tag [(.ofNat 32 (n) : Word), 0, 0] ∧ s.chip.linkUp (n + 2) = true ∧ s.chip.inStep (n + 2) = true) .host 5 ((2 : Fin 4)) (cs Req.host 0x12 5 [(.ofNat 32 (((2 : Fin 4))) : Word), 0, 0] [] id)) ∧
    ((fun (rq : Req) (tag : Nat) (ch : Fin 192) (o : Fin 6) (s : State) => s.chip.offers rq 0x13 tag [(.ofNat 32 (ch) : Word), (.ofNat 32 (o) : Word)] ∧ isSealed ch = false ∧ s.chip.ownerOf (s.chip.lead ch) = rq.code ∧ s.chip.linkUp (physDie ch) = true ∧ s.chip.inStep (physDie ch) = true ∧ s.chip.chState (s.chip.lead ch) ≠ .disabled ∧ s.chip.isStartEnable ch = false ∧ s.chip.isStartEnable (s.chip.lead ch) = false ∧ s.chip.inGroup ch true = false) .host 5 ((7 : Fin 192)) ((2 : Fin 6)) (cs Req.host 0x13 5 [(.ofNat 32 (((7 : Fin 192))) : Word), (.ofNat 32 (((2 : Fin 6))) : Word)] [(R.CH_OWNER 7, 5)] id)) ∧
    ((fun (rq : Req) (tag : Nat) (ch : Fin 192) (s : State) => s.chip.offers rq 0x14 tag [(.ofNat 32 (ch + 512) : Word)] ∧ isSealed ch = false ∧ s.chip.ownerOf (s.chip.lead ch) = rq.code ∧ s.chip.linkUp (physDie ch) = true ∧ s.chip.inStep (physDie ch) = true ∧ s.chip.inHold ch = false ∧ s.chip.chState ch = .disabled ∧ s.chip.cmds = [] ∧ s.chip.paired ch = false) .host 5 ((7 : Fin 192)) (cs Req.host 0x14 5 [(.ofNat 32 (((7 : Fin 192)) + 512) : Word)] [(R.CH_OWNER 7, 5), (R.CH_STATUS 7, F.CH_STATUS_STATE.of ChState.disabled.code)] id)) ∧
    ((fun (rq : Req) (tag : Nat) (ch : Fin 192) (s : State) => s.chip.offers rq 0x14 tag [.ofNat 32 ch] ∧ isSealed ch = false ∧ s.chip.ownerOf (s.chip.lead ch) = rq.code ∧ s.chip.linkUp (physDie ch) = true ∧ s.chip.inStep (physDie ch) = true ∧ s.chip.chState (s.chip.lead ch) ≠ .disabled ∧ s.chip.chState ch = .off ∧ s.chip.paired ch = false ∧ s.chip.cmds = []) .host 5 ((7 : Fin 192)) (cs Req.host 0x14 5 [7] [(R.CH_OWNER 7, 5), (R.CH_STATUS 7, 0)])) ∧
    ((fun (rq : Req) (tag : Nat) (ch : Fin 192) (s : State) => s.chip.offers rq 0x15 tag [(.ofNat 32 (ch) : Word)] ∧ isSealed ch = false ∧ s.chip.ownerOf (s.chip.lead ch) = rq.code ∧ s.chip.linkUp (physDie ch) = true ∧ s.chip.inStep (physDie ch) = true ∧ s.chip.chState (s.chip.lead ch) ≠ .disabled ∧ s.chip.oddMember ch = false ∧ s.chip.chState ch = .latchedOff ∧ s.chip.cooled ch = true ∧ s.chip.cmds = []) .host 5 ((7 : Fin 192)) (cs Req.host 0x15 5 [(.ofNat 32 (((7 : Fin 192))) : Word)] [(R.CH_OWNER 7, 5), (R.CH_STATUS 7, F.CH_STATUS_STATE.of ChState.latchedOff.code)] id)) ∧
    ((fun (rq : Req) (tag : Nat) (ch : Fin 192) (x y z : Word) (s : State) => s.chip.offers rq 0x16 tag [(.ofNat 32 (ch) : Word), x, y, z] ∧ isSealed ch = false ∧ s.chip.ownerOf (s.chip.lead ch) = rq.code ∧ s.chip.linkUp (physDie ch) = true ∧ s.chip.inStep (physDie ch) = true ∧ s.chip.chState (s.chip.lead ch) ≠ .disabled ∧ layoutOk .CH_PROT_CFG [pdie ch, ch % 48] x = true ∧ layoutOk .CH_WIRE_CFG [pdie ch, ch % 48] y = true ∧ layoutOk .CH_LIMP_CFG [pdie ch, ch % 48] z = true) .host 5 ((7 : Fin 192)) (0x140A0300#32) (0x10001#32) (0#32) (cs Req.host 0x16 5 [(.ofNat 32 (((7 : Fin 192))) : Word), (0x140A0300#32), (0x10001#32), (0#32)] [(R.CH_OWNER 7, 5)] id)) ∧
    ((fun (rq : Req) (tag : Nat) (n : Fin 4) (p : Fin 21) (s : State) => s.chip.offers rq 0x17 tag [(.ofNat 32 (n + 256 * p + 65536) : Word)] ∧ s.chip.linkUp (n + 2) = true ∧ s.chip.inStep (n + 2) = true ∧ s.chip.ownerOf (s.chip.lead (48 * n + 2 * p)) = rq.code ∧ s.chip.ownerOf (s.chip.lead (48 * n + 2 * p + 1)) = rq.code ∧ s.chip.pairFixed n p = false ∧ s.chip.pairFree (48 * n + 2 * p) = true ∧ s.chip.pairFree (48 * n + 2 * p + 1) = true) .host 5 ((1 : Fin 4)) ((2 : Fin 21)) (cs Req.host 0x17 5 [(.ofNat 32 (((1 : Fin 4)) + 256 * ((2 : Fin 21)) + 65536) : Word)] [(R.CH_OWNER 52, 5), (R.CH_OWNER 53, 5)] id)) ∧
    ((fun (rq : Req) (tag : Nat) (ch : Fin 192) (s : State) => s.chip.offers rq 0x18 tag [(.ofNat 32 (ch) : Word)] ∧ s.chip.linkUp (physDie ch) = true) .host 5 ((7 : Fin 192)) (cs Req.host 0x18 5 [(.ofNat 32 (((7 : Fin 192))) : Word)] [] id)) ∧
    ((fun (rq : Req) (tag : Nat) (n : Fin 4) (p : Fin 16) (h a0 a1 a2 a3 a4 a5 a6 a7 : Word) (s : State) => s.chip.offers rq 0x19 tag [(.ofNat 32 (n + 256 * p) : Word), h, a0, a1, a2, a3, a4, a5, a6, a7] ∧ 7 ≤ p.val ∧ s.chip.linkUp (n + 2) = true ∧ s.chip.inStep (n + 2) = true ∧ layoutOk .IP_HDR [n.val, p.val] h = true ∧ layoutOk .IP_SEG [n.val, p.val, 0] a0 = true ∧ layoutOk .IP_SEG [n.val, p.val, 1] a1 = true ∧ layoutOk .IP_SEG [n.val, p.val, 2] a2 = true ∧ layoutOk .IP_SEG [n.val, p.val, 3] a3 = true ∧ layoutOk .IP_SEG [n.val, p.val, 4] a4 = true ∧ layoutOk .IP_SEG [n.val, p.val, 5] a5 = true ∧ layoutOk .IP_SEG [n.val, p.val, 6] a6 = true ∧ layoutOk .IP_SEG [n.val, p.val, 7] a7 = true) .host 5 ((1 : Fin 4)) ((15 : Fin 16)) (0x8201#32) (1#32) (2#32) (3#32) (4#32) (5#32) (6#32) (7#32) (8#32) (cs Req.host 0x19 5 [(.ofNat 32 (((1 : Fin 4)) + 256 * ((15 : Fin 16))) : Word), (0x8201#32), (1#32), (2#32), (3#32), (4#32), (5#32), (6#32), (7#32), (8#32)] [] id)) ∧
    ((fun (rq : Req) (tag : Nat) (n : Fin 4) (x y : Word) (s : State) => s.chip.offers rq 0x1A tag [(.ofNat 32 (n) : Word), x, y] ∧ s.chip.linkUp (n + 2) = true ∧ s.chip.inStep (n + 2) = true ∧ (s.chip.die n).reqs = [] ∧ layoutOk .IS_CTRL [n.val] x = true ∧ layoutOk .IS_BUDGET [n.val] y = true) .host 5 ((1 : Fin 4)) (0x114#32) (5#32) (cs Req.host 0x1A 5 [(.ofNat 32 (((1 : Fin 4))) : Word), (0x114#32), (5#32)] [] id)) ∧
    ((fun (rq : Req) (tag : Nat) (n : Fin 4) (x : Word) (s : State) => s.chip.offers rq 0x1B tag [(.ofNat 32 (n) : Word), x] ∧ s.chip.linkUp (n + 2) = true ∧ s.chip.inStep (n + 2) = true ∧ layoutOk .PWR_HOLD_TIME [n.val] x = true) .host 5 ((1 : Fin 4)) (500#32) (cs Req.host 0x1B 5 [(.ofNat 32 (((1 : Fin 4))) : Word), (500#32)] [] id)) ∧
    ((fun (rq : Req) (tag : Nat) (n j : Fin 4) (x y z : Word) (s : State) => s.chip.offers rq 0x1C tag [(.ofNat 32 (n + 256 * j) : Word), x, y, z] ∧ s.chip.linkUp (n + 2) = true ∧ s.chip.inStep (n + 2) = true ∧ (((maskChans y.toNat (z.toNat % 65536)).all fun l => s.chip.ownerOf (s.chip.lead (48 * n + l)) == rq.code && !s.chip.inGroup (48 * n + l) false) = true) ∧ layoutOk .PWR_FLASH_CFG [n.val, j.val] x = true ∧ layoutOk .PWR_FLASH_MASK0 [n.val, j.val] y = true ∧ layoutOk .PWR_FLASH_MASK1 [n.val, j.val] z = true) .host 5 ((1 : Fin 4)) ((2 : Fin 4)) (0x5354D#32) (7#32) (0#32) (cs Req.host 0x1C 5 [(.ofNat 32 (((1 : Fin 4)) + 256 * ((2 : Fin 4))) : Word), (0x5354D#32), (7#32), (0#32)] [(R.CH_OWNER 48, 5), (R.CH_OWNER 49, 5), (R.CH_OWNER 50, 5)] id)) := by
  refine ⟨?_, ?_, ?_, ?_, ?_, ?_, ?_, ?_, ?_, ?_, ?_, ?_, ?_, ?_⟩ <;> decide +kernel

/-- States and operands that meet the hypotheses of MeasurementCommandsDo, clause by clause. -/
theorem witness_MeasurementCommandsDo :
    ((fun (rq : Req) (tag : Nat) (ch : Fin 192) (x y : Word) (s : State) => s.chip.offers rq 0x30 tag [(.ofNat 32 (ch) : Word), x, y] ∧ isSealed ch = false ∧ s.chip.ownerOf (s.chip.lead ch) = rq.code ∧ s.chip.linkUp (physDie ch) = true ∧ s.chip.inStep (physDie ch) = true ∧ s.chip.chState (s.chip.lead ch) ≠ .disabled ∧ layoutOk .CH_OL_CFG [pdie ch, ch % 48] x = true ∧ layoutOk .CH_OL_THR [pdie ch, ch % 48] y = true) .host 5 ((7 : Fin 192)) (0xD330A100#32) (5#32) (cs Req.host 0x30 5 [(.ofNat 32 (((7 : Fin 192))) : Word), (0xD330A100#32), (5#32)] [(R.CH_OWNER 7, 5)] id)) ∧
    ((fun (rq : Req) (tag : Nat) (ch : Fin 192) (w : BitVec 16) (s : State) => s.chip.offers rq 0x31 tag [(.ofNat 32 (ch) : Word), (.ofNat 32 (w.toNat) : Word)] ∧ isSealed ch = false ∧ s.chip.ownerOf (s.chip.lead ch) = rq.code ∧ s.chip.linkUp (physDie ch) = true ∧ s.chip.inStep (physDie ch) = true ∧ s.chip.chState (s.chip.lead ch) ≠ .disabled ∧ s.chip.cmds.any (onObj 0x31 ch) = false) .host 5 ((7 : Fin 192)) (100#16) (cs Req.host 0x31 5 [(.ofNat 32 (((7 : Fin 192))) : Word), (.ofNat 32 ((100#16).toNat) : Word)] [(R.CH_OWNER 7, 5)] id)) ∧
    ((fun (ch : Fin 192) (k : Cmd) (s : State) => s.chip.cmds = [k] ∧ k.op = 0x31 ∧ k.obj = ch ∧ k.rq = .host ∧ k.arg 2 ≠ 0 ∧ s.chip.linkUp (physDie ch) = true ∧ s.chip.inStep (physDie ch) = true ∧ ((s.chip.heldComps.all fun h => h.1 ≠ Req.host) = true ∧ 3 ≤ s.chip.qFree 1)) ((7 : Fin 192)) (Cmd.mk Req.host 0x31 5 [7, 9] 7 false false false) (stx [(R.Q_CFG 1, F.Q_CFG_SIZE.put (F.Q_CFG_EN.of 1) 2), (R.CH_LID_CTRL 7, 1)] fun c => { c with cmds := [Cmd.mk Req.host 0x31 5 [7, 9] 7 false false false] })) ∧
    ((fun (rq : Req) (tag : Nat) (ch : Fin 192) (x y : Word) (s : State) => s.chip.offers rq 0x32 tag [(.ofNat 32 (ch) : Word), x, y] ∧ isSealed ch = false ∧ s.chip.ownerOf (s.chip.lead ch) = rq.code ∧ s.chip.linkUp (physDie ch) = true ∧ s.chip.inStep (physDie ch) = true ∧ F.PWR_TDR_CTRL_SRC.get x = ch % 48 ∧ F.PWR_TDR_CTRL_STOP.get x = 0 ∧ layoutOk .PWR_TDR_CTRL [pdie ch] x = true ∧ layoutOk .PWR_TDR_CFG [pdie ch] y = true ∧ s.chip.tdrRefused (pdie ch) (ch % 48) = false ∧ s.chip.tdrStatus (pdie ch) ≠ 1 ∧ s.chip.tdrStatus (pdie ch) ≠ 5) .host 5 ((7 : Fin 192)) (0x73E#32) (0x1005#32) (cs Req.host 0x32 5 [(.ofNat 32 (((7 : Fin 192))) : Word), (0x73E#32), (0x1005#32)] [(R.CH_OWNER 7, 5)] id)) ∧
    ((fun (rq : Req) (tag : Nat) (ch : Fin 192) (s : State) => s.chip.offers rq 0x33 tag [(.ofNat 32 (ch) : Word)] ∧ isSealed ch = false ∧ s.chip.ownerOf (s.chip.lead ch) = rq.code ∧ s.chip.linkUp (physDie ch) = true ∧ s.chip.inStep (physDie ch) = true ∧ s.chip.chState (s.chip.lead ch) ≠ .disabled ∧ ((s.chip.die (pdie ch)).reqs.any fun r => r.pulse) = false ∧ s.chip.xcRefused (pdie ch) (ch % 48) = false ∧ s.chip.cmds = []) .host 5 ((7 : Fin 192)) (cs Req.host 0x33 5 [(.ofNat 32 (((7 : Fin 192))) : Word)] [(R.CH_OWNER 7, 5)] id)) ∧
    ((fun (rq : Req) (tag : Nat) (n : Fin 4) (x : Word) (s : State) => s.chip.offers rq 0x34 tag [(.ofNat 32 (n) : Word), x] ∧ s.chip.linkUp (n + 2) = true ∧ s.chip.inStep (n + 2) = true ∧ layoutOk .PWR_STREAM_CTRL [n.val] x = true) .host 5 ((1 : Fin 4)) (0#32) (cs Req.host 0x34 5 [(.ofNat 32 (((1 : Fin 4))) : Word), (0#32)] [] id)) ∧
    ((fun (rq : Req) (tag : Nat) (n : Fin 6) (e : Bool) (v : Nat) (s : State) => s.chip.offers rq 0x35 tag [(.ofNat 32 (n + 256 * e.toNat + 65536 * v) : Word)] ∧ 50 ≤ v ∧ v ≤ 99 ∧ s.chip.linkUp 1 = true ∧ s.chip.inStep 1 = true ∧ (s.chip.cant n).phase e = 0) .host 5 ((2 : Fin 6)) true 66 (cs Req.host 0x35 5 [(.ofNat 32 (((2 : Fin 6)) + 256 * true.toNat + 65536 * 66) : Word)] [] id)) := by
  refine ⟨?_, ?_, ?_, ?_, ?_, ?_, ?_⟩ <;> decide +kernel

/-- States and operands that meet the hypotheses of LightingCommandsDo, clause by clause. -/
theorem witness_LightingCommandsDo :
    ((fun (rq : Req) (tag : Nat) (x : Fin 24) (i d : Word) (e : Bool) (s : State) => s.chip.offers rq 0x40 tag [(.ofNat 32 (x + 256) : Word), i, d, (.ofNat 32 (e.toNat) : Word)] ∧ s.chip.linkUp 1 = true ∧ s.chip.inStep 1 = true ∧ layoutOk .LS_ISET [x.val] i = true ∧ layoutOk .LS_DUTY [x.val] d = true ∧ (s.chip.sinkEnabled x = true ∨ e = true)) .host 5 ((5 : Fin 24)) (0x3FF#32) (0x800#32) true (cs Req.host 0x40 5 [(.ofNat 32 (((5 : Fin 24)) + 256) : Word), (0x3FF#32), (0x800#32), (.ofNat 32 (true.toNat) : Word)] [] id)) ∧
    ((fun (rq : Req) (tag : Nat) (x : Fin 24) (w : Word) (s : State) => s.chip.offers rq 0x41 tag [(.ofNat 32 (x) : Word), w] ∧ s.chip.linkUp 1 = true ∧ s.chip.inStep 1 = true ∧ layoutOk .LS_CFG [x.val] w = true ∧ s.chip.sinkEnabled x = true) .host 5 ((5 : Fin 24)) (0xF03C0001#32) (cs Req.host 0x41 5 [(.ofNat 32 (((5 : Fin 24))) : Word), (0xF03C0001#32)] [(R.LS_CTRL 5, F.LS_CTRL_EN.of 1)] id)) ∧
    ((fun (rq : Req) (tag : Nat) (x : Fin 24) (s : State) => s.chip.offers rq 0x42 tag [(.ofNat 32 (x) : Word)] ∧ s.chip.linkUp 1 = true ∧ s.chip.inStep 1 = true ∧ s.chip.sinkRun x = .fault ∧ s.chip.sinkEnabled x = true) .host 5 ((5 : Fin 24)) (cs Req.host 0x42 5 [(.ofNat 32 (((5 : Fin 24))) : Word)] [(R.LS_CTRL 5, F.LS_CTRL_EN.of 1), (R.LS_STATUS 5, F.LS_STATUS_STATE.of SinkState.fault.code)] id)) ∧
    ((fun (rq : Req) (tag : Nat) (m : BitVec 24) (s : State) => s.chip.offers rq 0x43 tag [(.ofNat 32 (m.toNat) : Word)] ∧ s.chip.linkUp 1 = true ∧ s.chip.inStep 1 = true) .host 5 (5#24) (cs Req.host 0x43 5 [(.ofNat 32 ((5#24).toNat) : Word)] [] id)) ∧
    ((fun (rq : Req) (tag : Nat) (g : Fin 12) (w lv c01 c23 : Word) (s : State) => s.chip.offers rq 0x44 tag [(.ofNat 32 (g) : Word), w, lv, c01, c23] ∧ s.chip.linkUp 1 = true ∧ s.chip.inStep 1 = true ∧ (((memberChans c01 c23).all fun x => decide (x < 188) && s.chip.ownerOf (s.chip.lead x) == 4 && !s.chip.inFlasher x) = true) ∧ layoutOk .LF_CFG [g.val] w = true ∧ layoutOk .LF_LEVEL [g.val] lv = true ∧ layoutOk .LF_CH01 [g.val] c01 = true ∧ layoutOk .LF_CH23 [g.val] c23 = true ∧ F.LF_CFG_EN.get w = 1 ∧ s.chip.flag (R.LF_CFG g) F.LF_CFG_EN = false) .host 5 ((5 : Fin 12)) (F.LF_CFG_EN.put 0xF00000 1) (100#32) (0x8007#32) (0#32) (cs Req.host 0x44 5 [(.ofNat 32 (((5 : Fin 12))) : Word), (F.LF_CFG_EN.put 0xF00000 1), (100#32), (0x8007#32), (0#32)] [(R.CH_OWNER 7, 4)] id)) ∧
    ((fun (rq : Req) (tag : Nat) (g : Fin 12) (w : Word) (s : State) => s.chip.offers rq 0x45 tag [(.ofNat 32 (g) : Word), w] ∧ s.chip.linkUp 1 = true ∧ s.chip.inStep 1 = true ∧ layoutOk .LF_DERATE [g.val] w = true ∧ s.chip.groupEnabled g = true) .host 5 ((5 : Fin 12)) (0x87808080#32) (cs Req.host 0x45 5 [(.ofNat 32 (((5 : Fin 12))) : Word), (0x87808080#32)] [(R.LF_CFG 5, F.LF_CFG_EN.of 1)] id)) ∧
    ((fun (rq : Req) (tag : Nat) (g : Fin 12) (s : State) => s.chip.offers rq 0x46 tag [(.ofNat 32 (g) : Word)] ∧ s.chip.linkUp 1 = true ∧ s.chip.inStep 1 = true ∧ s.chip.groupState g = 2 ∧ s.chip.groupEnabled g = true ∧ s.chip.groupChans g = [] ∧ s.chip.groupSinks g = []) .host 5 ((5 : Fin 12)) (cs Req.host 0x46 5 [(.ofNat 32 (((5 : Fin 12))) : Word)] [(R.LF_CFG 5, F.LF_CFG_EN.of 1), (R.LF_STATUS 5, F.LF_STATUS_STATE.of 2)] id)) ∧
    ((fun (rq : Req) (tag : Nat) (e : Fin 8) (k : Fin 63) (x y : Word) (s : State) => s.chip.offers rq 0x47 tag [(.ofNat 32 (e + 256 * k) : Word), x, y] ∧ s.chip.linkUp 1 = true ∧ s.chip.inStep 1 = true ∧ s.chip.engRuns e = false) .host 5 ((5 : Fin 8)) ((62 : Fin 63)) (5#32) (6#32) (cs Req.host 0x47 5 [(.ofNat 32 (((5 : Fin 8)) + 256 * ((62 : Fin 63))) : Word), (5#32), (6#32)] [] id)) ∧
    ((fun (rq : Req) (tag : Nat) (e : Fin 8) (w : Word) (s : State) => s.chip.offers rq 0x48 tag [(.ofNat 32 (e) : Word), w] ∧ s.chip.linkUp 1 = true ∧ s.chip.inStep 1 = true ∧ F.PE_CTRL_START.get w = 1 ∧ F.PE_CTRL_STOP.get w = 0 ∧ layoutOk .PE_CTRL [e.val] w = true ∧ s.chip.engRuns e = false) .host 5 ((5 : Fin 8)) (F.PE_CTRL_START.put 0x1F40000 1) (cs Req.host 0x48 5 [(.ofNat 32 (((5 : Fin 8))) : Word), (F.PE_CTRL_START.put 0x1F40000 1)] [] id)) ∧
    ((fun (rq : Req) (tag : Nat) (e : Fin 8) (s : State) => s.chip.offers rq 0x49 tag [(.ofNat 32 (e) : Word)] ∧ s.chip.linkUp 1 = true ∧ s.chip.inStep 1 = true ∧ s.chip.engRuns e = true) .host 5 ((5 : Fin 8)) (cs Req.host 0x49 5 [(.ofNat 32 (((5 : Fin 8))) : Word)] [(R.PE_STATUS 5, F.PE_STATUS_STATUS.of 1)] id)) ∧
    ((fun (rq : Req) (tag : Nat) (w : Word) (s : State) => s.chip.offers rq 0x4A tag [w] ∧ s.chip.linkUp 1 = true ∧ s.chip.inStep 1 = true ∧ layoutOk .LED_HR_CTRL [] w = true) .host 5 (0x01E0003C#32) (cs Req.host 0x4A 5 [(0x01E0003C#32)] [] id)) ∧
    ((fun (rq : Req) (tag : Nat) (i : Fin 8) (w : Word) (s : State) => s.chip.offers rq 0x4B tag [(.ofNat 32 (i) : Word), w] ∧ s.chip.linkUp 1 = true ∧ s.chip.inStep 1 = true ∧ layoutOk .NTC_CFG [i.val] w = true) .host 5 ((5 : Fin 8)) (0xD6B0065#32) (cs Req.host 0x4B 5 [(.ofNat 32 (((5 : Fin 8))) : Word), (0xD6B0065#32)] [] id)) ∧
    ((fun (rq : Req) (tag : Nat) (w : Word) (s : State) => s.chip.offers rq 0x4C tag [w] ∧ s.chip.linkUp 1 = true ∧ s.chip.inStep 1 = true ∧ layoutOk .LED_HOLD_TIME [] w = true) .host 5 (100#32) (cs Req.host 0x4C 5 [(100#32)] [] id)) := by
  refine ⟨?_, ?_, ?_, ?_, ?_, ?_, ?_, ?_, ?_, ?_, ?_, ?_, ?_⟩ <;> decide +kernel

/-- States and operands that meet the hypotheses of ValveInputAndFieldCommandsDo, clause by clause. -/
theorem witness_ValveInputAndFieldCommandsDo :
    ((fun (rq : Req) (tag : Nat) (v : Fin 16) (vb : Nat) (s : State) => s.chip.offers rq 0x50 tag [(.ofNat 32 (v + 256) : Word)] ∧ s.chip.linkUp (vDie v + 2) = true ∧ s.chip.inStep (vDie v + 2) = true ∧ s.chip.vEnabled v = true ∧ s.chip.vState v ≠ .fault ∧ s.chip.vRequested v = true) .host 5 ((5 : Fin 16)) 480 (cs Req.host 0x50 5 [(.ofNat 32 (((5 : Fin 16)) + 256) : Word)] [(R.VLV_CFG 5, F.VLV_CFG_EN.of 1), (R.VLV_CMD 5, 1), (R.VLV_STATUS 5, F.VLV_STATUS_STATE.of ValveState.hold.code)] id)) ∧
    ((fun (rq : Req) (tag : Nat) (v : Fin 16) (vb : Nat) (s : State) => s.chip.offers rq 0x50 tag [(.ofNat 32 (v) : Word)] ∧ s.chip.linkUp (vDie v + 2) = true ∧ s.chip.inStep (vDie v + 2) = true ∧ s.chip.vEnabled v = true ∧ s.chip.vState v = .off ∧ s.chip.cmds = []) .host 5 ((5 : Fin 16)) 480 (cs Req.host 0x50 5 [(.ofNat 32 (((5 : Fin 16))) : Word)] [(R.VLV_CFG 5, F.VLV_CFG_EN.of 1), (R.VLV_STATUS 5, F.VLV_STATUS_STATE.of ValveState.off.code)] id)) ∧
    ((fun (rq : Req) (tag : Nat) (v : Fin 16) (x y z : Word) (s : State) => s.chip.offers rq 0x51 tag [(.ofNat 32 (v) : Word), x, y, z] ∧ s.chip.linkUp (vDie v + 2) = true ∧ s.chip.inStep (vDie v + 2) = true ∧ (s.chip.vEnabled v = true ∨ F.VLV_CFG_EN.get z = 1) ∧ s.chip.vState v = .off ∧ s.chip.cmds = [] ∧ layoutOk .VLV_PEAK (vlvIx v) x = true ∧ layoutOk .VLV_HOLD (vlvIx v) y = true ∧ layoutOk .VLV_CFG (vlvIx v) z = true) .host 5 ((5 : Fin 16)) (0x3200C9#32) (0x320033#32) (F.VLV_CFG_EN.of 1) (cs Req.host 0x51 5 [(.ofNat 32 (((5 : Fin 16))) : Word), (0x3200C9#32), (0x320033#32), (F.VLV_CFG_EN.of 1)] [(R.VLV_STATUS 5, F.VLV_STATUS_STATE.of ValveState.off.code)] id)) ∧
    ((fun (rq : Req) (tag : Nat) (v : Fin 16) (s : State) => s.chip.offers rq 0x52 tag [(.ofNat 32 (v) : Word)] ∧ s.chip.linkUp (vDie v + 2) = true ∧ s.chip.inStep (vDie v + 2) = true ∧ s.chip.vState v = .fault ∧ s.chip.vEnabled v = true ∧ s.chip.cmds = [] ∧ s.chip.fget (R.VLV_CMD v) F.VLV_CMD_REQ = 0) .host 5 ((5 : Fin 16)) (cs Req.host 0x52 5 [(.ofNat 32 (((5 : Fin 16))) : Word)] [(R.VLV_CFG 5, F.VLV_CFG_EN.of 1), (R.VLV_STATUS 5, F.VLV_STATUS_STATE.of ValveState.fault.code)] id)) ∧
    ((fun (rq : Req) (tag : Nat) (g : Fin 8) (x : Word) (s : State) => s.chip.offers rq 0x53 tag [(.ofNat 32 (g) : Word), x] ∧ s.chip.linkUp (g.val / 2 + 2) = true ∧ s.chip.inStep (g.val / 2 + 2) = true ∧ layoutOk .VG_CFG [g.val / 2, g.val % 2] x = true ∧ F.VG_CFG_PAR.get x = s.chip.fget (R.VG_CFG g) F.VG_CFG_PAR) .host 5 ((5 : Fin 8)) (0xA0015#32) (cs Req.host 0x53 5 [(.ofNat 32 (((5 : Fin 8))) : Word), (0xA0015#32)] [] id)) ∧
    ((fun (rq : Req) (tag : Nat) (x : Word) (s : State) => s.chip.offers rq 0x54 tag [x] ∧ s.chip.linkUp 1 = true ∧ s.chip.inStep 1 = true ∧ (∀ m < 4, s.chip.linkUp (m + 2) = true ∧ s.chip.inStep (m + 2) = true) ∧ layoutOk .VB_CTRL [] x = true) .host 5 (0x1E1#32) (cs Req.host 0x54 5 [(0x1E1#32)] [] id)) ∧
    ((fun (rq : Req) (tag : Nat) (i : Fin 64) (x y : Word) (s : State) => s.chip.offers rq 0x58 tag [(.ofNat 32 (i) : Word), x, y] ∧ s.chip.linkUp 1 = true ∧ s.chip.inStep 1 = true ∧ (s.chip.flag (R.SI_CFG i) F.SI_CFG_EN = true ∨ F.SI_CFG_EN.get x = 1) ∧ s.chip.siBound i = false ∧ s.chip.siPatrolOk i x = true ∧ layoutOk .SI_CFG [i.val] x = true ∧ layoutOk .SI_THR [i.val] y = true) .host 5 ((5 : Fin 64)) (F.SI_CFG_EN.put 0x2022CC0 1) (0x2000100#32) (cs Req.host 0x58 5 [(.ofNat 32 (((5 : Fin 64))) : Word), (F.SI_CFG_EN.put 0x2022CC0 1), (0x2000100#32)] [] id)) ∧
    ((fun (rq : Req) (tag : Nat) (i : Fin 8) (b0 b1 b2 b3 b4 b5 b6 : Word) (s : State) => s.chip.offers rq 0x59 tag [(.ofNat 32 (i) : Word), b0, b1, b2, b3, b4, b5, b6] ∧ s.chip.linkUp 1 = true ∧ s.chip.inStep 1 = true ∧ layoutOk .SI_LT_B [i.val, 0] b0 = true ∧ layoutOk .SI_LT_B [i.val, 1] b1 = true ∧ layoutOk .SI_LT_B [i.val, 2] b2 = true ∧ layoutOk .SI_LT_B [i.val, 3] b3 = true ∧ layoutOk .SI_LT_B [i.val, 4] b4 = true ∧ layoutOk .SI_LT_B [i.val, 5] b5 = true ∧ layoutOk .SI_LT_B [i.val, 6] b6 = true) .host 5 ((5 : Fin 8)) (1#32) (2#32) (3#32) (4#32) (5#32) (6#32) (7#32) (cs Req.host 0x59 5 [(.ofNat 32 (((5 : Fin 8))) : Word), (1#32), (2#32), (3#32), (4#32), (5#32), (6#32), (7#32)] [] id)) ∧
    ((fun (rq : Req) (tag : Nat) (s : State) => s.chip.offers rq 0x5A tag [] ∧ s.chip.linkUp 1 = true) .host 5 (cs Req.host 0x5A 5 [] [] id)) ∧
    ((fun (rq : Req) (tag : Nat) (p : Fin 32) (x : Word) (s : State) => s.chip.offers rq 0x60 tag [(.ofNat 32 (p) : Word), x] ∧ s.chip.linkUp 6 = true ∧ s.chip.inStep 6 = true ∧ (s.chip.fpEn p = true ∨ F.FP_CFG_EN.get x = 1) ∧ s.chip.fpState p = .off ∧ (s.chip.fp p).clamping = false ∧ layoutOk .FP_CFG [p.val] x = true) .host 5 ((5 : Fin 32)) (F.FP_CFG_MODE.put (F.FP_CFG_EN.put 0x49481E32 1) 2) (cs Req.host 0x60 5 [(.ofNat 32 (((5 : Fin 32))) : Word), (F.FP_CFG_MODE.put (F.FP_CFG_EN.put 0x49481E32 1) 2)] [] id)) ∧
    ((fun (rq : Req) (tag : Nat) (p : Fin 32) (s : State) => s.chip.offers rq 0x61 tag [(.ofNat 32 (p + 256) : Word)] ∧ s.chip.linkUp 6 = true ∧ s.chip.inStep 6 = true ∧ s.chip.fpOut p = true ∧ s.chip.fpEn p = true ∧ s.chip.fpState p = .off ∧ s.chip.supplyFault = false) .host 5 ((7 : Fin 32)) (cs Req.host 0x61 5 [(.ofNat 32 (((7 : Fin 32)) + 256) : Word)] [(R.FP_CFG 7, F.FP_CFG_MODE.put (F.FP_CFG_EN.of 1) 2), (R.FP_STATUS 7, 0)] id)) ∧
    ((fun (rq : Req) (tag : Nat) (p : Fin 32) (s : State) => s.chip.offers rq 0x61 tag [(.ofNat 32 (p) : Word)] ∧ s.chip.linkUp 6 = true ∧ s.chip.inStep 6 = true ∧ s.chip.fpOut p = true ∧ s.chip.fpEn p = true ∧ s.chip.fpState p = .on) .host 5 ((7 : Fin 32)) (cs Req.host 0x61 5 [(.ofNat 32 (((7 : Fin 32))) : Word)] [(R.FP_CFG 7, F.FP_CFG_MODE.put (F.FP_CFG_EN.of 1) 2), (R.FP_STATUS 7, F.FP_STATUS_STATE.of 1)] id)) ∧
    ((fun (rq : Req) (tag : Nat) (p : Fin 32) (s : State) => s.chip.offers rq 0x62 tag [(.ofNat 32 (p) : Word)] ∧ s.chip.linkUp 6 = true ∧ s.chip.inStep 6 = true ∧ s.chip.fpOut p = true ∧ s.chip.fpEn p = true ∧ s.chip.fpState p = .fault ∧ s.chip.fpOn p = false) .host 5 ((7 : Fin 32)) (cs Req.host 0x62 5 [(.ofNat 32 (((7 : Fin 32))) : Word)] [(R.FP_CFG 7, F.FP_CFG_MODE.put (F.FP_CFG_EN.of 1) 2), (R.FP_STATUS 7, F.FP_STATUS_STATE.of 2)] id)) ∧
    ((fun (rq : Req) (tag : Nat) (x : Word) (s : State) => s.chip.offers rq 0x63 tag [x] ∧ s.chip.linkUp 6 = true ∧ s.chip.inStep 6 = true ∧ layoutOk .FLD_SUP_CFG [] x = true) .host 5 (0x14A00B5#32) (cs Req.host 0x63 5 [(0x14A00B5#32)] [] id)) ∧
    ((fun (rq : Req) (tag : Nat) (x : Word) (s : State) => s.chip.offers rq 0x64 tag [x] ∧ s.chip.linkUp 6 = true ∧ s.chip.inStep 6 = true ∧ layoutOk .FLD_HOLD_TIME [] x = true) .host 5 (500#32) (cs Req.host 0x64 5 [(500#32)] [] id)) := by
  refine ⟨?_, ?_, ?_, ?_, ?_, ?_, ?_, ?_, ?_, ?_, ?_, ?_, ?_, ?_, ?_⟩ <;> decide +kernel

/-- States and operands that meet the hypotheses of CanAndLinCommandsDo, clause by clause. -/
theorem witness_CanAndLinCommandsDo :
    ((fun (rq : Req) (tag : Nat) (n : Fin 8) (b : Fin 64) (ident : BitVec 29) (d : Word) (s : State) => s.chip.offers rq 0x68 tag [(.ofNat 32 (n + 262144) : Word), (.ofNat 32 (ident.toNat) : Word), d] ∧ s.chip.canEn n = true ∧ s.chip.flag R.SYS_CLK_STATUS F.SYS_CLK_STATUS_XTAL40_OK = true ∧ (((List.range 64).find? fun m => s.chip.mbReserved n m && !s.chip.mbPend n m) = some b.val) ∧ s.chip.cmds = []) .host 5 ((3 : Fin 8)) ((4 : Fin 64)) (9#29) (7#32) (cs Req.host 0x68 5 [(.ofNat 32 (((3 : Fin 8)) + 262144) : Word), (.ofNat 32 ((9#29).toNat) : Word), (7#32)] [(R.CAN_MODE 3, F.CAN_MODE_EN.of 1), (R.SYS_CLK_STATUS, F.SYS_CLK_STATUS_XTAL40_OK.of 1), (R.CAN_MB_RSV 3 0, 16)] id)) ∧
    ((fun (rq : Req) (tag : Nat) (n : Fin 8) (x y z m : Word) (s : State) => s.chip.offers rq 0x69 tag [(.ofNat 32 (n) : Word), x, y, z, m] ∧ s.chip.canEn n = false ∧ layoutOk .CAN_NBT [n.val] x = true ∧ layoutOk .CAN_DBT [n.val] y = true ∧ layoutOk .CAN_TDC [n.val] z = true ∧ layoutOk .CAN_MODE [n.val] m = true ∧ F.CAN_MODE_EN.get m = 0) .host 5 ((3 : Fin 8)) (0x13E0F0F#32) (0x10E0303#32) (0#32) (F.CAN_MODE_FD_EN.of 1) (cs Req.host 0x69 5 [(.ofNat 32 (((3 : Fin 8))) : Word), (0x13E0F0F#32), (0x10E0303#32), (0#32), (F.CAN_MODE_FD_EN.of 1)] [] id)) ∧
    ((fun (rq : Req) (tag : Nat) (n : Fin 8) (s : State) => s.chip.offers rq 0x6A tag [(.ofNat 32 (n + 256) : Word)] ∧ s.chip.canEn n = false ∧ s.chip.canTimingOk n = true ∧ s.chip.cmds = []) .host 5 ((3 : Fin 8)) (cs Req.host 0x6A 5 [(.ofNat 32 (((3 : Fin 8)) + 256) : Word)] [] id)) ∧
    ((fun (rq : Req) (tag : Nat) (n : Fin 8) (s : State) => s.chip.offers rq 0x6A tag [(.ofNat 32 (n) : Word)] ∧ s.chip.canEn n = true ∧ (s.chip.can n).cur = none ∧ s.chip.cmds = []) .host 5 ((3 : Fin 8)) (cs Req.host 0x6A 5 [(.ofNat 32 (((3 : Fin 8))) : Word)] [(R.CAN_MODE 3, F.CAN_MODE_EN.of 1), (R.CAN_STATUS 3, 0)] id)) ∧
    ((fun (rq : Req) (tag : Nat) (n : Fin 8) (k : Fin 64) (x y : Word) (s : State) => s.chip.offers rq 0x6B tag [(.ofNat 32 (n + 256 * k) : Word), x, y] ∧ layoutOk .CAN_FLT_ID [n.val, k.val] x = true ∧ layoutOk .CAN_FLT_MASK [n.val, k.val] y = true) .host 5 ((3 : Fin 8)) ((63 : Fin 64)) (5#32) (6#32) (cs Req.host 0x6B 5 [(.ofNat 32 (((3 : Fin 8)) + 256 * ((63 : Fin 64))) : Word), (5#32), (6#32)] [] id)) ∧
    ((fun (rq : Req) (tag : Nat) (n : Fin 4) (x m d0 d1 k0 k1 : Word) (s : State) => s.chip.offers rq 0x6C tag [(.ofNat 32 (n) : Word), x, m, d0, d1, k0, k1] ∧ s.chip.linkUp 1 = true ∧ s.chip.inStep 1 = true ∧ layoutOk .SEN_SWK_ID [n.val] x = true ∧ layoutOk .SEN_SWK_IDMASK [n.val] m = true) .host 5 ((3 : Fin 4)) (5#32) (6#32) (1#32) (2#32) (3#32) (4#32) (cs Req.host 0x6C 5 [(.ofNat 32 (((3 : Fin 4))) : Word), (5#32), (6#32), (1#32), (2#32), (3#32), (4#32)] [] id)) ∧
    ((fun (rq : Req) (tag : Nat) (n : Fin 4) (k : Fin 64) (x : Word) (s : State) => s.chip.offers rq 0x6D tag [(.ofNat 32 (n + 256 * k) : Word), x] ∧ x &&& 0xF8F0FF3F = x ∧ schNorm x = x) .host 5 ((3 : Fin 4)) ((63 : Fin 64)) (0x00200A05#32) (cs Req.host 0x6D 5 [(.ofNat 32 (((3 : Fin 4)) + 256 * ((63 : Fin 64))) : Word), (0x00200A05#32)] [] id)) ∧
    ((fun (rq : Req) (tag : Nat) (n : Fin 4) (r : Fin 3) (s : State) => s.chip.offers rq 0x6E tag [(.ofNat 32 (n + 256 * r) : Word)]) .host 5 ((3 : Fin 4)) ((2 : Fin 3)) (cs Req.host 0x6E 5 [(.ofNat 32 (((3 : Fin 4)) + 256 * ((2 : Fin 3))) : Word)] [] id)) ∧
    ((fun (rq : Req) (tag : Nat) (n : Fin 4) (ident : BitVec 6) (ln : Nat) (r : Fin 16) (x y : Word) (s : State) => s.chip.offers rq 0x6F tag [(.ofNat 32 (n + 256 * ident.toNat + 65536 * ln) : Word), x, y] ∧ 1 ≤ ln ∧ ln ≤ 8 ∧ s.chip.linSlot n ident.toNat = some r.val) .host 5 ((3 : Fin 4)) (5#6) 8 ((0 : Fin 16)) (1#32) (2#32) (cs Req.host 0x6F 5 [(.ofNat 32 (((3 : Fin 4)) + 256 * (5#6).toNat + 65536 * 8) : Word), (1#32), (2#32)] [] id)) ∧
    ((fun (rq : Req) (tag : Nat) (s : State) => s.chip.offers rq 0x70 tag []) .host 5 (cs Req.host 0x70 5 [] [] id)) := by
  refine ⟨?_, ?_, ?_, ?_, ?_, ?_, ?_, ?_, ?_, ?_⟩ <;> decide +kernel

/-- States and operands that meet the hypotheses of CanRegistersAndErrorStates, clause by clause. -/
theorem witness_CanRegistersAndErrorStates :
    ((fun (n : Fin 9) (rq : Req) (w : Fin 2) (b : Fin 32) (s : State) => s.chip.atOnce rq (R.CAN_TXREQ n w) 1 = true ∧ (n.val < 8 ∨ rq = .sup) ∧ s.chip.mbKindOf n (32 * w + b) = 2 ∧ s.chip.mbPend n (32 * w + b) = false ∧ s.chip.flag R.SYS_CLK_STATUS F.SYS_CLK_STATUS_XTAL40_OK = true) ((3 : Fin 9)) .a2 ((1 : Fin 2)) ((30 : Fin 32)) (stx [(R.CAN_MODE 3, F.CAN_MODE_EN.of 1), (R.SYS_CLK_STATUS, F.SYS_CLK_STATUS_XTAL40_OK.of 1), (R.CAN_STATUS 3, 0)] fun c => c.setMbWord 3 62 0 (mbKind.of 2))) ∧
    ((fun (n : Fin 9) (rq : Req) (w : Fin 2) (b : Fin 32) (s : State) => s.chip.atOnce rq (R.CAN_TXCANCEL n w) 1 = true ∧ (n.val < 8 ∨ rq = .sup) ∧ s.chip.mbPend n (32 * w + b) = true ∧ (s.chip.can n).cur ≠ some (32 * w.val + b.val) ∧ s.chip.acc.frameWait = none ∧ s.chip.cmds = []) ((3 : Fin 9)) .a1 ((1 : Fin 2)) ((30 : Fin 32)) (stx [(R.CAN_MODE 3, F.CAN_MODE_EN.of 1), (R.SYS_CLK_STATUS, F.SYS_CLK_STATUS_XTAL40_OK.of 1), (R.CAN_STATUS 3, 0)] fun c => c.setMbPend 3 62 true)) ∧
    ((fun (n : Fin 9) (rq : Req) (data : Word) (s : State) => s.chip.atOnce rq (R.CAN_MODE n) 1 = true ∧ (n.val < 8 ∨ rq = .sup) ∧ s.chip.canEn n = false ∧ s.chip.canTimingOk n = true) ((3 : Fin 9)) .a1 (0#32) (st [])) ∧
    ((fun (n : Fin 9) (rq : Req) (data : Word) (s : State) => s.chip.atOnce rq (R.CAN_MODE n) 1 = true ∧ (n.val < 8 ∨ rq = .sup) ∧ s.chip.canEn n = false ∧ s.chip.canTimingOk n = false ∧ F.CAN_MODE_RECOVER.get data = 0) ((3 : Fin 9)) .a1 (0#32) (st [(R.CAN_NBT 3, 0)])) ∧
    ((fun (n : Fin 9) (rq : Req) (data : Word) (s : State) => s.chip.atOnce rq (R.CAN_MODE n) 1 = true ∧ (n.val < 8 ∨ rq = .sup) ∧ s.chip.canEn n = true ∧ (s.chip.can n).cur = none) ((3 : Fin 9)) .a1 (0#32) (stx [(R.CAN_MODE 3, F.CAN_MODE_EN.of 1), (R.SYS_CLK_STATUS, F.SYS_CLK_STATUS_XTAL40_OK.of 1), (R.CAN_STATUS 3, 0)] fun c => c)) ∧
    ((fun (n : Fin 9) (rq : Req) (data : Word) (s : State) => s.chip.atOnce rq (R.CAN_MODE n) 1 = true ∧ (n.val < 8 ∨ rq = .sup) ∧ s.chip.canErr n = 2 ∧ s.chip.canEn n = true ∧ F.CAN_MODE_EN.get data = 1) ((3 : Fin 9)) .a1 (F.CAN_MODE_EN.of 1) (st [(R.CAN_MODE 3, F.CAN_MODE_EN.of 1), (R.CAN_STATUS 3, F.CAN_STATUS_ERR_STATE.of 2)])) ∧
    ((fun (n : Fin 9) (s : State) => s.chip.canErr n = 2 ∧ (s.chip.can n).recovering = true) ((3 : Fin 9)) (stx [(R.CAN_STATUS 3, F.CAN_STATUS_ERR_STATE.of 2)] fun c => c.setCan 3 { tec := 256, recovering := true })) ∧
    ((fun (rq : Req) (n : Fin 9) (s : State) => s.chip.atOnce rq (R.CAN_MB_W n 0) 0 = true ∧ s.chip.mbKindOf n (s.chip.mbSelOf n rq) = 1 ∧ (s.chip.mbX n (s.chip.mbSelOf n rq)).owner = none) .a1 ((3 : Fin 9)) (stx [] fun c => c.setMbWord 3 0 0 (mbKind.of 1))) ∧
    ((fun (rq : Req) (n : Fin 9) (s : State) => s.chip.mbSelOf n rq < 64 ∧ s.chip.atOnce rq (R.CAN_MB_W n (lastWord (s.chip.mbWord n (s.chip.mbSelOf n rq) 1))) 0 = true ∧ s.chip.mbKindOf n (s.chip.mbSelOf n rq) = 1 ∧ (s.chip.mbX n (s.chip.mbSelOf n rq)).owner = some rq.code ∧ (s.chip.mbX n (s.chip.mbSelOf n rq)).slot = none) .a1 ((3 : Fin 9)) (stx [] fun c => (c.setMbWord 3 0 0 (mbKind.of 1)).setMbX 3 0 { owner := some 1 })) ∧
    ((fun (n : Fin 9) (b : Fin 64) (s : State) => (s.chip.mbX n b).owner ≠ none ∧ (s.chip.mbX n b).slot = none) ((3 : Fin 9)) ((5 : Fin 64)) (stx [] fun c => c.setMbX 3 5 { owner := some 1 })) ∧
    ((fun (n : Fin 9) (s : State) => (s.chip.can n).rejoin = true) ((3 : Fin 9)) (stx [] fun c => c.setCan 3 { rejoin := true })) := by
  refine ⟨?_, ?_, ?_, ?_, ?_, ?_, ?_, ?_, ?_, ?_, ?_⟩ <;> decide +kernel

/-- States and operands that meet the hypotheses of CanFramesSendAndReceive, clause by clause. -/
theorem witness_CanFramesSendAndReceive :
    ((fun (n : Fin 9) (b : Fin 64) (s : State) => s.chip.canMaySend n = true ∧ s.chip.txWinner n = some b.val) ((3 : Fin 9)) ((5 : Fin 64)) (stx [(R.CAN_MODE 3, F.CAN_MODE_EN.of 1), (R.SYS_CLK_STATUS, F.SYS_CLK_STATUS_XTAL40_OK.of 1), (R.CAN_STATUS 3, 0)] fun c => (c.setMbPend 3 5 true).setMbPend 3 6 true)) ∧
    ((fun (n : Fin 9) (b : Fin 64) (tdcv : BitVec 7) (s : State) => (s.chip.can n).cur = some b.val ∧ (s.chip.can n).stopping = false ∧ (s.chip.can n).tec < 128 ∧ (s.chip.can n).rec_ < 128 ∧ s.chip.canErr n = 0 ∧ s.chip.canHeld n = false ∧ s.chip.acc.frameWait = none ∧ s.chip.cmds = []) ((3 : Fin 9)) ((5 : Fin 64)) (0#7) (stx [(R.CAN_MODE 3, F.CAN_MODE_EN.of 1), (R.SYS_CLK_STATUS, F.SYS_CLK_STATUS_XTAL40_OK.of 1), (R.CAN_STATUS 3, 0)] fun c => (c.setMbPend 3 5 true).setCan 3 { cur := some 5, tec := 9 })) ∧
    ((fun (n : Fin 9) (b : Fin 64) (tdcv : BitVec 7) (s : State) => (s.chip.can n).cur = some b.val ∧ (s.chip.can n).stopping = false ∧ s.chip.canHeld n = false ∧ s.chip.mbPend n b = true ∧ mbOneShot.get (s.chip.mbWord n b 1) = 0 ∧ s.chip.flag (R.CAN_MB_STAT n b) F.CAN_MB_STAT_CANCEL_LATE = false) ((3 : Fin 9)) ((5 : Fin 64)) (0#7) (stx [(R.CAN_MODE 3, F.CAN_MODE_EN.of 1), (R.SYS_CLK_STATUS, F.SYS_CLK_STATUS_XTAL40_OK.of 1), (R.CAN_STATUS 3, 0)] fun c => (c.setMbPend 3 5 true).setCan 3 { cur := some 5 })) ∧
    ((fun (n : Fin 9) (f : CanFrame) (sof : Word) (s : State) => s.chip.canHears n = true ∧ s.chip.canErr n = 0 ∧ f.fdf = false ∧ (s.chip.can n).tec < 128 ∧ (s.chip.can n).rec_ < 128 ∧ (s.chip.can n).stopping = false ∧ (∀ k, k < 64 → s.chip.filterMatch n k f = false)) ((3 : Fin 9)) ((CanFrame.mk false 5#29 8 false false false false [1, 2])) (9#32) (stx [(R.CAN_MODE 3, F.CAN_MODE_EN.of 1), (R.SYS_CLK_STATUS, F.SYS_CLK_STATUS_XTAL40_OK.of 1), (R.CAN_STATUS 3, 0)] fun c => c.setCan 3 { rec_ := 9 })) ∧
    ((fun (n : Fin 9) (k : Fin 64) (f : CanFrame) (sof : Word) (s : State) => s.chip.canHears n = true ∧ s.chip.canErr n = 0 ∧ f.fdf = false ∧ (s.chip.can n).tec < 128 ∧ (s.chip.can n).rec_ < 128 ∧ (s.chip.can n).stopping = false ∧ s.chip.filterMatch n k f = true ∧ (∀ j, j < 64 → j < k.val → s.chip.filterMatch n j f = false) ∧ s.chip.mbKindOf n k = 1 ∧ (s.chip.mbX n k).owner = none) ((3 : Fin 9)) ((5 : Fin 64)) ((CanFrame.mk false 5#29 8 false false false false [1, 2])) (9#32) (stx [(R.CAN_MODE 3, F.CAN_MODE_EN.of 1), (R.SYS_CLK_STATUS, F.SYS_CLK_STATUS_XTAL40_OK.of 1), (R.CAN_STATUS 3, 0), (R.CAN_FLT_ID 3 5, F.CAN_FLT_ID_EN.put 7 1), (R.CAN_FLT_MASK 3 5, 0)] fun c => c.setMbWord 3 5 0 (mbKind.of 1))) ∧
    ((fun (n : Fin 9) (dom : Bool) (sof : Word) (s : State) => s.chip.canHears n = true ∧ s.chip.canErr n = 0 ∧ (s.chip.can n).tec < 128 ∧ (s.chip.can n).rec_ < 120 ∧ (s.chip.can n).stopping = false) ((3 : Fin 9)) true (9#32) (stx [(R.CAN_MODE 3, F.CAN_MODE_EN.of 1), (R.SYS_CLK_STATUS, F.SYS_CLK_STATUS_XTAL40_OK.of 1), (R.CAN_STATUS 3, 0)] fun c => c)) := by
  refine ⟨?_, ?_, ?_, ?_, ?_, ?_⟩ <;> decide +kernel

/-- States and operands that meet the hypotheses of LinControllersDo, clause by clause. -/
theorem witness_LinControllersDo :
    ((fun (n : Fin 4) (s : State) => s.chip.linRole n = 1 ∧ s.chip.linState n = 1 ∧ (s.chip.lin n).waking = false ∧ (s.chip.lin n).frame = none ∧ (s.chip.lin n).sleepDue = false) ((2 : Fin 4)) (stx [(R.LIN_CTRL 2, F.LIN_CTRL_ROLE.of 1), (R.LIN_STATUS 2, F.LIN_STATUS_STATE.of 1)] fun c => c)) ∧
    ((fun (n : Fin 4) (s : State) => s.chip.linRole n = 1 ∧ s.chip.linState n = 1 ∧ (s.chip.lin n).waking = false ∧ (s.chip.lin n).frame ≠ none ∧ (s.chip.lin n).late = false) ((2 : Fin 4)) (stx [(R.LIN_CTRL 2, F.LIN_CTRL_ROLE.of 1), (R.LIN_STATUS 2, F.LIN_STATUS_STATE.of 1)] fun c => c.setLin 2 { frame := some (5, false, 0) })) ∧
    ((fun (n : Fin 4) (ident : BitVec 6) (s : State) => s.chip.linRole n = 2 ∧ s.chip.linState n = 1) ((2 : Fin 4)) (5#6) (stx [(R.LIN_CTRL 2, F.LIN_CTRL_ROLE.of 2), (R.LIN_STATUS 2, F.LIN_STATUS_STATE.of 1)] fun c => c)) ∧
    ((fun (n : Fin 4) (ident : Nat) (brk : Word) (d : List Byte) (ck : Byte) (s : State) => ident < 0x3C ∧ s.chip.linRole n = 2 ∧ (s.chip.lin n).frame = some (ident, false, brk) ∧ (s.chip.lin n).late = false ∧ linEnhancedOk ident d ck.toNat = true ∧ linClassicOk d ck.toNat = false ∧ 4 ≤ s.chip.qFree (20 + n)) ((2 : Fin 4)) 5 (9#32) ([1#8, 2#8]) (0x77#8) (stx [(R.LIN_CTRL 2, F.LIN_CTRL_ROLE.of 2), (R.LIN_STATUS 2, F.LIN_STATUS_STATE.of 1), (R.Q_CFG 22, F.Q_CFG_SIZE.put (F.Q_CFG_EN.of 1) 2)] fun c => c.setLin 2 { frame := some (5, false, 9) })) ∧
    ((fun (n : Fin 4) (ident : Nat) (brk : Word) (s : State) => (s.chip.lin n).frame = some (ident, false, brk) ∧ (s.chip.lin n).late = false) ((2 : Fin 4)) 5 (9#32) (stx [(R.LIN_CTRL 2, F.LIN_CTRL_ROLE.of 1), (R.LIN_STATUS 2, F.LIN_STATUS_STATE.of 1)] fun c => c.setLin 2 { frame := some (5, false, 9) })) ∧
    ((fun (n : Fin 4) (rq : Req) (data : Word) (s : State) => s.chip.atOnce rq (R.LIN_CTRL n) 1 = true ∧ s.chip.linRole n = 1 ∧ s.chip.linState n = 1 ∧ F.LIN_CTRL_ROLE.get data = 1 ∧ F.LIN_CTRL_WAKE.get data = 0) ((2 : Fin 4)) .a2 (F.LIN_CTRL_ROLE.of 1) (stx [(R.LIN_CTRL 2, F.LIN_CTRL_ROLE.of 1), (R.LIN_STATUS 2, F.LIN_STATUS_STATE.of 1)] fun c => c)) ∧
    ((fun (n : Fin 4) (rq : Req) (data : Word) (s : State) => s.chip.atOnce rq (R.LIN_CTRL n) 1 = true ∧ s.chip.linRole n = 2 ∧ s.chip.linState n = 0 ∧ F.LIN_CTRL_ROLE.get data = 2) ((2 : Fin 4)) .a2 (F.LIN_CTRL_ROLE.of 2) (stx [(R.LIN_CTRL 2, F.LIN_CTRL_ROLE.of 2), (R.LIN_STATUS 2, F.LIN_STATUS_STATE.of 0)] fun c => c)) ∧
    ((fun (n : Fin 4) (s : State) => s.chip.linRole n = 1 ∧ s.chip.linState n = 1 ∧ (s.chip.lin n).waking = true) ((2 : Fin 4)) (stx [(R.LIN_CTRL 2, F.LIN_CTRL_ROLE.of 1), (R.LIN_STATUS 2, F.LIN_STATUS_STATE.of 1)] fun c => c.setLin 2 { waking := true })) ∧
    ((fun (n : Fin 4) (s : State) => s.chip.linRole n = 2 ∧ s.chip.linState n = 1) ((2 : Fin 4)) (stx [(R.LIN_CTRL 2, F.LIN_CTRL_ROLE.of 2), (R.LIN_STATUS 2, F.LIN_STATUS_STATE.of 1)] fun c => c)) ∧
    ((fun (n : Fin 4) (s : State) => s.chip.linState n ≠ 3) ((2 : Fin 4)) (stx [(R.LIN_CTRL 2, F.LIN_CTRL_ROLE.of 1), (R.LIN_STATUS 2, F.LIN_STATUS_STATE.of 1)] fun c => c)) ∧
    ((fun (n : Fin 4) (s : State) => s.chip.linState n = 2) ((2 : Fin 4)) (stx [(R.LIN_CTRL 2, F.LIN_CTRL_ROLE.of 1), (R.LIN_STATUS 2, F.LIN_STATUS_STATE.of 2)] fun c => c)) := by
  refine ⟨?_, ?_, ?_, ?_, ?_, ?_, ?_, ?_, ?_, ?_, ?_⟩ <;> decide +kernel

/-- States and operands that meet the hypotheses of ModeAndNetworkCommands, clause by clause. -/
theorem witness_ModeAndNetworkCommands :
    ((fun (rq : Req) (tag : Nat) (t : Nat) (early : Bool) (s : State) => s.chip.offers rq 0x80 tag [(.ofNat 32 (t) : Word)] ∧ (t = s.chip.mode ∧ (t = 3 ∨ t = 4))) .host 5 4 true (cs Req.host 0x80 5 [(.ofNat 32 (4) : Word)] [] id)) ∧
    ((fun (rq : Req) (tag : Nat) (t : Nat) (early : Bool) (s : State) => s.chip.offers rq 0x80 tag [(.ofNat 32 (t) : Word)] ∧ ((t = 3 ∧ s.chip.mode = 4) ∨ (t = 4 ∧ s.chip.mode = 3)) ∧ s.chip.cmds = [] ∧ s.chip.released = false) .host 5 3 false (cs Req.host 0x80 5 [(.ofNat 32 (3) : Word)] [] id)) ∧
    ((fun (rq : Req) (tag : Nat) (t : Nat) (s : State) => s.chip.offers rq 0x80 tag [(.ofNat 32 (t) : Word)] ∧ (t = 1 ∨ t = 2) ∧ s.chip.mode = 3 ∧ ((s.chip.cmds.any fun x => x.op == 0x80) = false)) .host 5 2 (cs Req.host 0x80 5 [(.ofNat 32 (2) : Word)] [(R.SYS_MODE, 0x43)] id)) ∧
    ((fun (rq : Req) (tag : Nat) (t : Nat) (s : State) => s.chip.offers rq 0x80 tag [(.ofNat 32 (t) : Word)] ∧ (t = 1 ∨ t = 2) ∧ s.chip.mode = 3 ∧ s.chip.cmds = [] ∧ s.chip.acc.round = none) .host 5 1 (cs Req.host 0x80 5 [(.ofNat 32 (1) : Word)] [(R.SYS_MODE, 0x43), (R.RET_SEL, 5)] id)) ∧
    ((fun (rq : Req) (tag : Nat) (s : State) => s.chip.offers rq 0x80 tag [0] ∧ s.chip.mode = 3 ∧ s.chip.cmds = [] ∧ s.chip.acc.round = none ∧ s.chip.policyHold 188 = false ∧ s.chip.policyHold 189 = false) .host 5 (cs Req.host 0x80 5 [0] [(R.SYS_MODE, 0x43), (R.RET_SEL, 5)])) ∧
    ((fun (rq : Req) (tag : Nat) (t : Nat) (early : Bool) (s : State) => s.chip.offers rq 0x80 tag [(.ofNat 32 (t) : Word)] ∧ (t = 1 ∨ t = 2) ∧ s.chip.mode = 4) .host 5 1 false (cs Req.host 0x80 5 [(.ofNat 32 (1) : Word)] [] id)) ∧
    ((fun (rq : Req) (tag : Nat) (x : Word) (s : State) => s.chip.offers rq 0x81 tag [x] ∧ layoutOk .RET_SEL [] x = true) .host 5 (5#32) (cs Req.host 0x81 5 [(5#32)] [] id)) ∧
    ((fun (rq : Req) (tag : Nat) (x y z w : Word) (s : State) => s.chip.offers rq 0x82 tag [x, y, z, w] ∧ s.chip.linkUp 1 = true ∧ s.chip.inStep 1 = true ∧ layoutOk .PAT_CTRL [] x = true ∧ layoutOk .PAT_EXPECT [] y = true ∧ layoutOk .PAT_SNIFF [] z = true ∧ layoutOk .PAT_ALARM [] w = true) .host 5 (100#32) (3#32) (0xA01F4#32) (60#32) (cs Req.host 0x82 5 [(100#32), (3#32), (0xA01F4#32), (60#32)] [] id)) ∧
    ((fun (rq : Req) (tag : Nat) (nd m : BitVec 8) (x y : BitVec 16) (s : State) => s.chip.offers rq 0x83 tag [.ofNat 32 (nd.toNat + 256 * m.toNat), .ofNat 32 x.toNat, .ofNat 32 y.toNat] ∧ x ≠ 0 ∧ 100 ≤ y.toNat) .host 5 (7#8) (3#8) (9#16) (200#16) (cs Req.host 0x83 5 [.ofNat 32 ((7#8).toNat + 256 * (3#8).toNat), .ofNat 32 (9#16).toNat, .ofNat 32 (200#16).toNat] [] id)) ∧
    ((fun (rq : Req) (tag : Nat) (x : Fin 2) (s : State) => s.chip.offers rq 0x84 tag [(.ofNat 32 (x) : Word)]) .host 5 ((1 : Fin 2)) (cs Req.host 0x84 5 [(.ofNat 32 (((1 : Fin 2))) : Word)] [] id)) ∧
    ((fun (rq : Req) (tag : Nat) (s : State) => s.chip.offers rq 0x85 tag []) .host 5 (cs Req.host 0x85 5 [] [] id)) ∧
    ((fun (rq : Req) (tag : Nat) (s : State) => s.chip.offers rq 0x86 tag [] ∧ s.chip.linkUp 1 = true ∧ s.chip.inStep 1 = true ∧ s.chip.flag R.WR_STATUS F.WR_STATUS_OUT_ACTIVE = false) .host 5 (cs Req.host 0x86 5 [] [] id)) ∧
    ((fun (rq : Req) (tag : Nat) (s : State) => s.chip.offers rq 0x86 tag [] ∧ s.chip.linkUp 1 = true ∧ s.chip.inStep 1 = true ∧ s.chip.flag R.WR_STATUS F.WR_STATUS_OUT_ACTIVE = true) .host 5 (cs Req.host 0x86 5 [] [(R.WR_STATUS, F.WR_STATUS_OUT_ACTIVE.of 1)] id)) := by
  refine ⟨?_, ?_, ?_, ?_, ?_, ?_, ?_, ?_, ?_, ?_, ?_, ?_, ?_⟩ <;> decide +kernel

/-- States and operands that meet the hypotheses of AccessCommands, clause by clause. -/
theorem witness_AccessCommands :
    ((fun (rq : Req) (tag : Nat) (s : State) => s.chip.offers rq 0x90 tag [] ∧ s.chip.linkUp 7 = true) .host 5 (cs Req.host 0x90 5 [] [] id)) ∧
    ((fun (rq : Req) (tag : Nat) (s : State) => s.chip.offers rq 0x91 tag [] ∧ s.chip.linkUp 7 = true ∧ s.chip.acc.round = none) .host 5 (cs Req.host 0x91 5 [] [] id)) ∧
    ((fun (rq : Req) (tag : Nat) (n : Fin 10) (s : State) => s.chip.offers rq 0x92 tag [(.ofNat 32 (n) : Word)] ∧ s.chip.mode = 6 ∧ s.chip.linkUp 7 = true ∧ s.chip.enrolled n = false ∧ s.chip.acc.enrol = none ∧ s.chip.logFull = false) .host 5 ((9 : Fin 10)) (cs Req.host 0x92 5 [(.ofNat 32 (((9 : Fin 10))) : Word)] [(R.SYS_MODE, 0x46)] id)) ∧
    ((fun (e : Enrol) (x : Cmd) (s : State) => s.chip.acc.enrol = some e ∧ s.chip.acc.frameWait = none ∧ s.chip.cmds = [x] ∧ x.op = 0x92 ∧ x.rq = e.rq ∧ x.tag = e.tag ∧ (34 ≤ s.chip.qFree (compQueue x.rq) ∧ (s.chip.heldComps.all fun h => h.1 ≠ x.rq) = true)) (Enrol.mk Req.host 5 3 9 none) (Cmd.mk Req.host 0x92 5 [3] 3 false false false) (cs Req.host 0x92 5 [3] [] fun c => { c with cmds := [{ rq := .host, op := 0x92, tag := 5, w := [3], obj := 3 }], acc := { c.acc with enrol := some ⟨.host, 5, 3, 9, none⟩ } })) ∧
    ((fun (rq : Req) (tag : Nat) (n : Fin 10) (s : State) => s.chip.offers rq 0x93 tag [(.ofNat 32 (n) : Word)] ∧ s.chip.mode = 6 ∧ s.chip.linkUp 7 = true ∧ s.chip.inStep 7 = true ∧ s.chip.logFull = false) .host 5 ((9 : Fin 10)) (cs Req.host 0x93 5 [(.ofNat 32 (((9 : Fin 10))) : Word)] [(R.SYS_MODE, 0x46), (R.ACC_ENROLLED, 0x201)] id)) ∧
    ((fun (rq : Req) (tag : Nat) (x y z w : Word) (s : State) => s.chip.offers rq 0x94 tag [x, y, z, w] ∧ s.chip.mode = 6 ∧ s.chip.linkUp 7 = true ∧ s.chip.inStep 7 = true ∧ s.chip.linkUp (physDie s.chip.seCh) = true ∧ s.chip.inStep (physDie s.chip.seCh) = true ∧ s.chip.released = false ∧ F.ACC_CFG0_SE_CH.get x = s.chip.seCh ∧ s.chip.seCh < 188 ∧ layoutOk .ACC_CFG0 [] x = true ∧ layoutOk .ACC_CFG1 [] y = true ∧ layoutOk .ACC_CFG2 [] z = true ∧ layoutOk .ACC_CFG3 [] w = true) .host 5 (0x010000BB#32) (0#32) (0#32) (0x10000#32) (cs Req.host 0x94 5 [(0x010000BB#32), (0#32), (0#32), (0x10000#32)] [(R.SYS_MODE, 0x46), (R.ACC_CFG0, 0x010000BB)] id)) ∧
    ((fun (rq : Req) (tag : Nat) (n : Fin 10) (s : State) => s.chip.offers rq 0x93 tag [(.ofNat 32 (n) : Word)] ∧ s.chip.mode ≠ 6) .host 5 ((9 : Fin 10)) (cs Req.host 0x93 5 [(.ofNat 32 (((9 : Fin 10))) : Word)] [] id)) := by
  refine ⟨?_, ?_, ?_, ?_, ?_, ?_, ?_⟩ <;> decide +kernel

/-- States and operands that meet the hypotheses of SecurityCommands, clause by clause. -/
theorem witness_SecurityCommands :
    ((fun (rq : Req) (tag : Nat) (n0 n1 n2 n3 x y : Word) (s : State) => s.chip.offers rq 0xA0 tag [n0, n1, n2, n3, x, y] ∧ s.chip.inRoom rq x.toNat 17216 = true ∧ 17216 ≤ y.toNat ∧ s.chip.grain.attWait = [] ∧ s.chip.grain.sealWait = false ∧ s.chip.grain.job = none) .a1 5 (1#32) (2#32) (3#32) (4#32) (0x20000000#32) (17216#32) (cs Req.a1 0xA0 5 [(1#32), (2#32), (3#32), (4#32), (0x20000000#32), (17216#32)] [] id)) ∧
    ((fun (rq : Req) (tag : Nat) (x y : Word) (s : State) => s.chip.offers rq 0xA1 tag [x, y] ∧ s.chip.inRoom rq x.toNat 7920 = true ∧ 7920 ≤ y.toNat ∧ s.chip.rangeLost x.toNat 7920 = false) .a1 5 (0x20000000#32) (7920#32) (cs Req.a1 0xA1 5 [(0x20000000#32), (7920#32)] [] id)) ∧
    ((fun (rq : Req) (tag : Nat) (x y : Word) (s : State) => s.chip.offers rq 0xA2 tag [x, y] ∧ s.chip.inRoom rq x.toNat (max 1 y.toNat) = true ∧ s.chip.rangeLost x.toNat y.toNat = false ∧ y.toNat < 28 ∧ s.chip.cmds = []) .a1 5 (0x20000000#32) (20#32) (cs Req.a1 0xA2 5 [(0x20000000#32), (20#32)] [] id)) ∧
    ((fun (rq : Req) (tag : Nat) (s : State) => s.chip.offers rq 0xA3 tag []) .host 5 (cs Req.host 0xA3 5 [] [] id)) ∧
    ((fun (rq : Req) (tag : Nat) (n : Word) (s : State) => s.chip.offers rq 0xA4 tag [n] ∧ s.chip.isConsumer rq 29 = true ∧ s.chip.cmds = [] ∧ s.chip.grain.nextSeq = 0 ∧ s.chip.grain.recs = [] ∧ s.chip.grain.job = none ∧ s.chip.grain.sealWait = false) .a1 5 (0#32) (cs Req.a1 0xA4 5 [(0#32)] [(R.Q_CFG 29, F.Q_CFG_CONS.of 1)] id)) ∧
    ((fun (rq : Req) (tag : Nat) (x y : Word) (s : State) => s.chip.offers rq 0xA5 tag [x, y] ∧ s.chip.inRoom rq x.toNat (max 1 y.toNat) = true ∧ s.chip.rangeLost x.toNat y.toNat = false ∧ y.toNat < 28 ∧ s.chip.cmds = []) .a1 5 (0x20000000#32) (20#32) (cs Req.a1 0xA5 5 [(0x20000000#32), (20#32)] [] id)) ∧
    ((fun (rq : Req) (tag : Nat) (x y : Word) (s : State) => s.chip.offers rq 0xA6 tag [x, y] ∧ s.chip.inRoom rq x.toNat (max 1 y.toNat) = true ∧ s.chip.rangeLost x.toNat y.toNat = false ∧ y.toNat < 28 ∧ s.chip.cmds = []) .a1 5 (0x20000000#32) (20#32) (cs Req.a1 0xA6 5 [(0x20000000#32), (20#32)] [] id)) ∧
    ((fun (rq : Req) (tag : Nat) (n : Fin 4) (k0 k1 k2 k3 k4 k5 k6 k7 : Word) (s : State) => s.chip.offers rq 0xA7 tag [(.ofNat 32 (n) : Word), k0, k1, k2, k3, k4, k5, k6, k7] ∧ s.chip.mode = 6 ∧ s.chip.logFull = false ∧ (s.chip.fget R.SEC_AUTH F.SEC_AUTH_WRITTEN).testBit n = false ∧ s.chip.flag R.SEC_AUTH F.SEC_AUTH_SLOTS_CLOSED = false) .host 5 ((2 : Fin 4)) (0#32) (1#32) (2#32) (3#32) (4#32) (5#32) (6#32) (7#32) (cs Req.host 0xA7 5 [(.ofNat 32 (((2 : Fin 4))) : Word), (0#32), (1#32), (2#32), (3#32), (4#32), (5#32), (6#32), (7#32)] [(R.SYS_MODE, 0x46)] id)) ∧
    ((fun (rq : Req) (tag : Nat) (s : State) => s.chip.offers rq 0xB0 tag []) .host 5 (cs Req.host 0xB0 5 [] [] id)) ∧
    ((fun (rq : Req) (tag : Nat) (s : State) => s.chip.offers rq 0xB1 tag [] ∧ isCore rq = true ∧ (s.chip.mode = 3 ∨ s.chip.mode = 4 ∨ s.chip.mode = 6) ∧ s.chip.upd.staging = 3 ∧ s.chip.logFull = false) .a0 5 (cs Req.a0 0xB1 5 [] [] (fun c => c.setUpd { c.upd with staging := 3 }))) ∧
    ((fun (rq : Req) (tag : Nat) (s : State) => s.chip.offers rq 0xB1 tag [] ∧ isCore rq = true ∧ (s.chip.mode = 3 ∨ s.chip.mode = 4 ∨ s.chip.mode = 6) ∧ s.chip.upd.staging ≠ 3 ∧ s.chip.upd.staging ≠ 5) .a0 5 (cs Req.a0 0xB1 5 [] [] id)) ∧
    ((fun (rq : Req) (tag : Nat) (x y z : Word) (s : State) => s.chip.offers rq 0xC0 tag [x, y, z] ∧ layoutOk .CDE_CTRL [] x = true ∧ layoutOk .CDE_BASE [] y = true ∧ layoutOk .CDE_SIZE [] z = true) .host 5 (10#32) (0x20000000#32) (0x1000#32) (cs Req.host 0xC0 5 [(10#32), (0x20000000#32), (0x1000#32)] [] id)) ∧
    ((fun (rq : Req) (tag : Nat) (s : State) => s.chip.offers rq 0xC1 tag []) .host 5 (cs Req.host 0xC1 5 [] [] id)) ∧
    ((fun (rq : Req) (ws : List Word) (l : List (Req × List Word)) (s : State) => s.chip.heldComps = (rq, ws) :: l ∧ commands rq = true ∧ ws ≠ [] ∧ ws.length ≤ 34 ∧ 34 ≤ s.chip.qFree (compQueue rq) ∧ s.chip.awake = true) .host ([1#32, 2#32]) ([]) (cs Req.host 0 5 [] [] fun c => { c with heldComps := [(.host, [1, 2])] })) := by
  refine ⟨?_, ?_, ?_, ?_, ?_, ?_, ?_, ?_, ?_, ?_, ?_, ?_, ?_, ?_⟩ <;> decide +kernel

/-- States and operands that meet the hypotheses of Wakes, clause by clause. -/
theorem witness_Wakes :
    ((fun (n : Fin 4) (f : CanFrame) (env : StartEnv) (s : State) => (s.chip.mode = 1 ∨ s.chip.mode = 2) ∧ s.chip.modex.supLost = false ∧ env.xtal = true ∧ s.chip.flag (R.SEN_SWK_CTRL n) F.SEN_SWK_CTRL_EN = true ∧ f.fdf = false ∧ s.chip.swkMatch n f = true) ((3 : Fin 4)) ((CanFrame.mk false 5#29 0 false false false false [])) (({} : StartEnv)) (stx [(R.SYS_MODE, 0x41), (R.SEN_SWK_CTRL 3, F.SEN_SWK_CTRL_EN.of 1), (R.SEN_SWK_ID 3, 5)] fun c => c)) ∧
    ((fun (n : Fin 6) (env : StartEnv) (s : State) => (s.chip.mode = 1 ∨ s.chip.mode = 2) ∧ s.chip.modex.supLost = false ∧ env.xtal = true ∧ (n.val < 4 → s.chip.flag (R.SEN_SWK_CTRL n) F.SEN_SWK_CTRL_EN = false)) ((3 : Fin 6)) (({} : StartEnv)) (stx [(R.SYS_MODE, 0x41)] fun c => c)) ∧
    ((fun (env : StartEnv) (x : Cmd) (m : Nat) (s : State) => s.chip.awake = true ∧ s.chip.modex.entry = some m ∧ s.chip.cmds = [x] ∧ x.op = 0x80 ∧ s.chip.acc.frameWait = none) (({} : StartEnv)) (Cmd.mk Req.host 0x80 9 [] 0 false false false) 2 (stx [(R.SYS_MODE, 0x43)] fun c => { c with cmds := [{ rq := .host, op := 0x80, tag := 9 }], modex := { c.modex with entry := some 2 } })) ∧
    ((fun (n : Fin 4) (env : StartEnv) (s : State) => (s.chip.mode = 1 ∨ s.chip.mode = 2) ∧ s.chip.modex.supLost = false ∧ env.xtal = true) ((3 : Fin 4)) (({} : StartEnv)) (stx [(R.SYS_MODE, 0x42)] fun c => c)) ∧
    ((fun (addr : BitVec 24) (env : StartEnv) (s : State) => (s.chip.mode = 1 ∨ s.chip.mode = 2) ∧ s.chip.hsp.inFrame = true ∧ s.chip.modex.supLost = false ∧ env.xtal = true) (0#24) (({} : StartEnv)) (stx [(R.SYS_MODE, 0x42)] fun c => c.setHsp { c.hsp with inFrame := true })) ∧
    ((fun (env : StartEnv) (s : State) => (s.chip.mode = 1 ∨ s.chip.mode = 2) ∧ s.chip.bypass = false ∧ s.chip.flag R.WR_STATUS F.WR_STATUS_BLANKING = false ∧ s.chip.modex.supLost = false ∧ env.xtal = true) (({} : StartEnv)) (stx [(R.SYS_MODE, 0x42)] fun c => { c with bypass := false })) ∧
    ((fun (env : StartEnv) (s : State) => s.chip.awake = true ∧ s.chip.modex.entry = none ∧ s.chip.bypass = false ∧ s.chip.flag R.WR_STATUS F.WR_STATUS_BLANKING = false) (({} : StartEnv)) (stx [] fun c => { c with bypass := false })) ∧
    ((fun (env : StartEnv) (s : State) => s.chip.bypass = true) (({} : StartEnv)) (stx [] fun c => { c with bypass := true })) ∧
    ((fun (env : StartEnv) (s : State) => s.chip.bypass = false ∧ s.chip.flag R.WR_STATUS F.WR_STATUS_BLANKING = true) (({} : StartEnv)) (stx [(R.WR_STATUS, F.WR_STATUS_BLANKING.of 1)] fun c => { c with bypass := false })) ∧
    ((fun (k : Fin 10) (env : StartEnv) (s : State) => s.chip.mode = 2 ∧ s.chip.enrolled k = true ∧ s.chip.modex.supLost = false ∧ env.xtal = true ∧ s.chip.flag R.PAT_SNIFF F.PAT_SNIFF_EN = true ∧ s.chip.flag R.ACC_STATE F.ACC_STATE_POLL_STOPPED = false) ((9 : Fin 10)) (({} : StartEnv)) (stx [(R.SYS_MODE, 0x42), (R.PAT_SNIFF, 0x800A01F4), (R.ACC_ENROLLED, 0x200)] fun c => c)) ∧
    ((fun (slot : Option (Fin 10)) (env : StartEnv) (s : State) => (s.chip.mode ≠ 2 ∨ s.chip.flag R.ACC_STATE F.ACC_STATE_POLL_STOPPED = true ∨ slot = none)) ((none : Option (Fin 10))) (({} : StartEnv)) (st [])) ∧
    ((fun (env : StartEnv) (s : State) => (s.chip.mode = 1 ∨ s.chip.mode = 2) ∧ s.chip.modex.supLost = false ∧ env.xtal = true ∧ s.chip.rd R.PAT_ALARM ≠ 0) (({} : StartEnv)) (stx [(R.SYS_MODE, 0x41), (R.PAT_ALARM, 9)] fun c => c)) ∧
    ((fun (i : Nat) (env : StartEnv) (s : State) => s.chip.mode = 2 ∧ s.chip.patStatus.mismatch = some i ∧ i < 64 ∧ s.chip.modex.supLost = false ∧ env.xtal = true) 5 (({} : StartEnv)) (stx [(R.SYS_MODE, 0x42), (R.SI_CFG 5, F.SI_CFG_EN.put (F.SI_CFG_PATROL.of 1) 1), (R.PAT_EXPECT, 0x10001)] fun c => c)) ∧
    ((fun (codes : List (Fin 64 × Fin 1024)) (env : StartEnv) (s : State) => s.chip.mode = 2 ∧ (s.chip.patrol codes).2 = []) ([]) (({} : StartEnv)) (stx [(R.SYS_MODE, 0x42)] fun c => c)) := by
  refine ⟨?_, ?_, ?_, ?_, ?_, ?_, ?_, ?_, ?_, ?_, ?_, ?_, ?_, ?_⟩ <;> decide +kernel

/-- States and operands that meet the hypotheses of RetentionPadsAndDroops, clause by clause. -/
theorem witness_RetentionPadsAndDroops :
    ((fun (rq : Req) (data : Word) (s : State) => rq.code ≤ 4 ∧ s.chip.atOnce rq R.SYS_PAD_RELEASE 1 = true) .a1 (0x102#32) (st [(R.SYS_PAD_HOLD, 0xF03)])) ∧
    ((fun (rq : Req) (data : Word) (s : State) => s.chip.atOnce rq R.RET_ACK 1 = true) .a1 (6#32) (st [(R.RET_STATUS, 3)])) ∧
    ((fun (k : Fin 32) (s : State) => s.chip.modex.filling.getLsbD k = true) ((3 : Fin 32)) (stx [(R.RET_STATUS, 9)] fun c => c.setModex { c.modex with filling := 8 })) ∧
    ((fun (k : Fin 32) (g : Bool) (s : State) => (s.chip.mode = 1 ∨ s.chip.mode = 2) ∧ (s.chip.rd R.RET_KEPT).toNat.testBit k = true) ((3 : Fin 32)) true (stx [(R.SYS_MODE, 0x41), (R.RET_KEPT, 8)] fun c => c)) ∧
    ((fun (k : Fin 32) (g : Bool) (s : State) => (s.chip.parked = false ∨ (s.chip.rd R.RET_KEPT).toNat.testBit k = false)) ((3 : Fin 32)) true (st [])) ∧
    ((fun (g : Bool) (s : State) => (s.chip.mode = 1 ∨ s.chip.mode = 2)) true (stx [(R.SYS_MODE, 0x41)] fun c => c)) ∧
    ((fun (s : State) => s.chip.flag R.WR_STATUS F.WR_STATUS_OUT_ACTIVE = true) (st [(R.WR_STATUS, F.WR_STATUS_OUT_ACTIVE.of 1)])) ∧
    ((fun (s : State) => s.chip.flag R.WR_STATUS F.WR_STATUS_BLANKING = true) (st [(R.WR_STATUS, F.WR_STATUS_BLANKING.of 1)])) ∧
    ((fun (s : State) => s.chip.bypass = true) (stx [] fun c => { c with bypass := true })) ∧
    ((fun (m : Nat) (s : State) => s.chip.flag R.NM_FW_STATUS F.NM_FW_STATUS_ARMED = true ∧ s.chip.mode = 3 ∧ (m = 1 ∨ m = 2) ∧ (s.chip.rd (R.SYS_BOOT_REPORT 0)).toNat / 2 ^ 16 % 256 = m + 1 ∧ s.chip.acc.round = none) 2 (st [(R.SYS_MODE, 0x23), (R.NM_FW_STATUS, F.NM_FW_STATUS_ARMED.of 1), (R.SYS_BOOT_REPORT 0, 0x01030020)])) ∧
    ((fun (s : State) => s.chip.flag R.NM_FW_STATUS F.NM_FW_STATUS_ARMED = false) (st [])) ∧
    ((fun (s : State) => s.chip.modex.cell = none) (st [])) ∧
    ((fun (s : State) => s.chip.modex.cell ≠ none) (stx [] fun c => c.setModex { c.modex with cell := some 9 })) := by
  refine ⟨?_, ?_, ?_, ?_, ?_, ?_, ?_, ?_, ?_, ?_, ?_, ?_, ?_⟩ <;> decide +kernel

/-- States and operands that meet the hypotheses of ResetsStartTheModule, clause by clause. -/
theorem witness_ResetsStartTheModule :
    ((fun (env : StartEnv) (s : State) => env.xtal = true ∧ env.supOk = true ∧ env.appOk = true ∧ s.chip.upd.staging ≠ 5 ∧ s.chip.upd.journal = 0 ∧ s.chip.stored.writes = []) (({} : StartEnv)) (st [])) ∧
    ((fun (brown : Bool) (env : StartEnv) (s : State) => env.xtal = true ∧ env.supOk = true ∧ env.appOk = true ∧ s.chip.upd.staging ≠ 5 ∧ s.chip.upd.journal = 0 ∧ s.chip.stored.writes = [] ∧ s.chip.modex.cell ≠ none) true (({} : StartEnv)) (stx [] fun c => c.setModex { c.modex with cell := some 9 })) ∧
    ((fun (brown : Bool) (env : StartEnv) (s : State) => s.chip.modex.cell = none) true (({} : StartEnv)) (st [])) ∧
    ((fun (env : StartEnv) (s : State) => env.xtal = true ∧ env.supOk = true ∧ env.appOk = true ∧ s.chip.upd.staging ≠ 5 ∧ s.chip.upd.journal = 0 ∧ s.chip.stored.writes = []) (({} : StartEnv)) (st [])) ∧
    ((fun (rq : Req) (env : StartEnv) (s : State) => env.xtal = true ∧ env.supOk = true ∧ env.appOk = true ∧ s.chip.upd.staging ≠ 5 ∧ s.chip.upd.journal = 0 ∧ s.chip.stored.writes = [] ∧ s.chip.atOnce rq R.SYS_SWRESET 1 = true) .a2 (({} : StartEnv)) (st [])) ∧
    ((fun (env : StartEnv) (cause : Nat) (s : State) => env.xtal = true ∧ env.supOk = true ∧ env.appOk = true ∧ s.chip.upd.staging ≠ 5 ∧ s.chip.upd.journal = 0 ∧ s.chip.stored.writes = [] ∧ (s.chip.modex.resetDue = some cause ∧ (cause = 0x11 ∨ cause = 0x16))) (({} : StartEnv)) 0x11 (stx [] fun c => c.setModex { c.modex with resetDue := some 0x11 })) ∧
    ((fun (env : StartEnv) (s : State) => s.chip.modex.resetDue = none) (({} : StartEnv)) (st [])) ∧
    ((fun (env : StartEnv) (s : State) => env.xtal = true ∧ env.supOk = true ∧ env.appOk = true ∧ s.chip.upd.staging ≠ 5 ∧ s.chip.upd.journal = 0 ∧ s.chip.stored.writes = [] ∧ s.chip.wdtRuns = true ∧ s.chip.modex.wdtHalf = true ∧ s.chip.modex.crashes = []) (({} : StartEnv)) (stx [(R.SYS_WDT_CFG, F.SYS_WDT_CFG_EN.of 1)] fun c => (c.setModex { c.modex with wdtHalf := true }).setCore 0 { c.core 0 with inReset := false })) ∧
    ((fun (env : StartEnv) (s : State) => s.chip.wdtRuns = false) (({} : StartEnv)) (st [])) ∧
    ((fun (env : StartEnv) (s : State) => env.xtal = true ∧ env.supOk = true ∧ env.appOk = true ∧ s.chip.upd.staging ≠ 5 ∧ s.chip.upd.journal = 0 ∧ s.chip.stored.writes = [] ∧ s.chip.awake = true ∧ s.chip.modex.crashes = []) (({} : StartEnv)) (st [])) ∧
    ((fun (env : StartEnv) (s : State) => env.xtal = true ∧ env.supOk = true ∧ env.appOk = true ∧ s.chip.upd.staging ≠ 5 ∧ s.chip.upd.journal = 0 ∧ s.chip.stored.writes = [] ∧ s.chip.awake = true ∧ s.chip.modex.crashes = []) (({} : StartEnv)) (st [])) ∧
    ((fun (env : StartEnv) (s : State) => env.xtal = true ∧ env.supOk = true ∧ env.appOk = true ∧ s.chip.upd.staging ≠ 5 ∧ s.chip.upd.journal = 0 ∧ s.chip.stored.writes = [] ∧ s.chip.mode = 7 ∧ s.chip.limpCause = 2) (({} : StartEnv)) (st [(R.SYS_MODE, 0x2047)])) ∧
    ((fun (env : StartEnv) (s : State) => (s.chip.mode ≠ 7 ∨ s.chip.limpCause ≠ 2)) (({} : StartEnv)) (st [])) ∧
    ((fun (env : StartEnv) (x y : Nat) (s : State) => env.xtal = true ∧ env.supOk = true ∧ env.appOk = true ∧ s.chip.upd.staging ≠ 5 ∧ s.chip.upd.journal = 0 ∧ s.chip.stored.writes = [] ∧ s.chip.awake = true ∧ s.chip.modex.crashes = [x, y] ∧ (s.chip.ctr64 R.SEN_RTC_LO).toNat ≤ x + 60 * 32768 ∧ (s.chip.ctr64 R.SEN_RTC_LO).toNat ≤ y + 60 * 32768) (({} : StartEnv)) 9 5 (stx [] fun c => c.setModex { c.modex with crashes := [9, 5] })) ∧
    ((fun (env : StartEnv) (s : State) => env.xtal = false ∧ env.supOk = true ∧ env.appOk = true ∧ s.chip.upd.staging ≠ 5 ∧ s.chip.upd.journal = 0 ∧ s.chip.stored.writes = []) (({ xtal := false } : StartEnv)) (st [])) ∧
    ((fun (rq : Req) (s : State) => s.chip.atOnce rq R.SYS_WDT_KICK 1 = true) .a2 (stx [] fun c => c.setModex { c.modex with wdtHalf := true })) ∧
    ((fun (s : State) => s.chip.wdtRuns = true ∧ s.chip.modex.wdtHalf = false) (stx [(R.SYS_WDT_CFG, F.SYS_WDT_CFG_EN.of 1)] fun c => c.setCore 0 { c.core 0 with inReset := false })) := by
  refine ⟨?_, ?_, ?_, ?_, ?_, ?_, ?_, ?_, ?_, ?_, ?_, ?_, ?_, ?_, ?_, ?_, ?_⟩ <;> decide +kernel

/-- States and operands that meet the hypotheses of NetworkManagementFollowsTheFrames, clause by clause. -/
theorem witness_NetworkManagementFollowsTheFrames :
    ((fun (n : Fin 8) (f : CanFrame) (b : Fin 256) (s : State) => s.chip.nmOn n = true ∧ s.chip.canHears n = true ∧ f.fdf = false ∧ f.rtr = false ∧ f.xtd = s.chip.flag R.NM_ID F.NM_ID_XTD ∧ (if f.xtd then f.id.toNat else f.id.toNat / 2 ^ 18) = s.chip.fget R.NM_ID F.NM_ID_BASE * 256 + b ∧ b.val ≠ s.chip.ownNode ∧ 2 ≤ f.dlc.val ∧ (f.data.getD 0 0).toNat / 2 ^ 24 = b) ((3 : Fin 8)) ((CanFrame.mk false 0x14140000#29 4 false false false false [0x05010000])) ((5 : Fin 256)) (stx [(R.NM_CTRL, F.NM_CTRL_EN.put (F.NM_CTRL_CTRL_MASK.put (F.NM_CTRL_NODE.of 7) 8) 1), (R.NM_ID, F.NM_ID_BASE.of 5), (R.CAN_MODE 3, F.CAN_MODE_EN.of 1), (R.SYS_CLK_STATUS, F.SYS_CLK_STATUS_XTAL40_OK.of 1), (R.CAN_STATUS 3, 0)] fun c => c)) ∧
    ((fun (n : Fin 8) (f : CanFrame) (b : Fin 256) (s : State) => s.chip.nmOn n = true ∧ s.chip.canHears n = true ∧ f.fdf = false ∧ f.rtr = false ∧ f.xtd = s.chip.flag R.NM_ID F.NM_ID_XTD ∧ (if f.xtd then f.id.toNat else f.id.toNat / 2 ^ 18) = s.chip.fget R.NM_ID F.NM_ID_BASE * 256 + b ∧ b.val ≠ s.chip.ownNode ∧ (f.dlc.val < 2 ∨ (f.data.getD 0 0).toNat / 2 ^ 24 ≠ b)) ((3 : Fin 8)) ((CanFrame.mk false 0x14140000#29 4 false false false false [0x06010000])) ((5 : Fin 256)) (stx [(R.NM_CTRL, F.NM_CTRL_EN.put (F.NM_CTRL_CTRL_MASK.put (F.NM_CTRL_NODE.of 7) 8) 1), (R.NM_ID, F.NM_ID_BASE.of 5), (R.CAN_MODE 3, F.CAN_MODE_EN.of 1), (R.SYS_CLK_STATUS, F.SYS_CLK_STATUS_XTAL40_OK.of 1), (R.CAN_STATUS 3, 0)] fun c => c)) ∧
    ((fun (m : Fin 8) (s : State) => s.chip.nmMaySend m = true) ((3 : Fin 8)) (stx [(R.NM_CTRL, F.NM_CTRL_EN.put (F.NM_CTRL_CTRL_MASK.put (F.NM_CTRL_NODE.of 7) 8) 1), (R.NM_ID, F.NM_ID_BASE.of 5), (R.CAN_MODE 3, F.CAN_MODE_EN.of 1), (R.SYS_CLK_STATUS, F.SYS_CLK_STATUS_XTAL40_OK.of 1), (R.CAN_STATUS 3, 0)] fun c => c)) ∧
    ((fun (s : State) => (∀ n, n < 8 → s.chip.nmMaySend n = false)) (st [])) ∧
    ((fun (rq : Req) (data : Word) (s : State) => s.chip.atOnce rq R.NM_LOCAL 1 = true ∧ s.chip.flag R.NM_CTRL F.NM_CTRL_EN = true) .a1 (F.NM_LOCAL_AWAKE.of 1) (stx [(R.NM_CTRL, F.NM_CTRL_EN.put (F.NM_CTRL_CTRL_MASK.put (F.NM_CTRL_NODE.of 7) 8) 1), (R.NM_ID, F.NM_ID_BASE.of 5), (R.CAN_MODE 3, F.CAN_MODE_EN.of 1), (R.SYS_CLK_STATUS, F.SYS_CLK_STATUS_XTAL40_OK.of 1), (R.CAN_STATUS 3, 0)] fun c => c)) ∧
    ((fun (b : Fin 256) (s : State) => b.val ≠ s.chip.ownNode) ((5 : Fin 256)) (stx [(R.NM_CTRL, F.NM_CTRL_EN.put (F.NM_CTRL_CTRL_MASK.put (F.NM_CTRL_NODE.of 7) 8) 1), (R.NM_ID, F.NM_ID_BASE.of 5), (R.CAN_MODE 3, F.CAN_MODE_EN.of 1), (R.SYS_CLK_STATUS, F.SYS_CLK_STATUS_XTAL40_OK.of 1), (R.CAN_STATUS 3, 0), (R.NM_PRESENT_MAP 0, 0x20)] fun c => c)) ∧
    ((fun (b : Fin 256) (s : State) => b.val = s.chip.ownNode) ((7 : Fin 256)) (stx [(R.NM_CTRL, F.NM_CTRL_EN.put (F.NM_CTRL_CTRL_MASK.put (F.NM_CTRL_NODE.of 7) 8) 1), (R.NM_ID, F.NM_ID_BASE.of 5), (R.CAN_MODE 3, F.CAN_MODE_EN.of 1), (R.SYS_CLK_STATUS, F.SYS_CLK_STATUS_XTAL40_OK.of 1), (R.CAN_STATUS 3, 0)] fun c => c)) ∧
    ((fun (e : Fin 16) (s : State) => s.chip.flag R.NM_STATUS F.NM_STATUS_LONE_VALID = true ∧ s.chip.nm.begun = false ∧ s.chip.awake = true ∧ ((∀ k < 16, s.chip.fget (R.NM_OFF_ENTRY k) F.NM_OFF_ENTRY_COUNT = 0 ∨ s.chip.fget (R.NM_OFF_ENTRY k) F.NM_OFF_ENTRY_NODE ≠ s.chip.fget R.NM_STATUS F.NM_STATUS_LONE)) ∧ (∀ k < 16, k < e.val → s.chip.fget (R.NM_OFF_ENTRY k) F.NM_OFF_ENTRY_COUNT ≠ 0) ∧ s.chip.fget (R.NM_OFF_ENTRY e) F.NM_OFF_ENTRY_COUNT = 0) ((1 : Fin 16)) (stx [(R.NM_CTRL, F.NM_CTRL_EN.put (F.NM_CTRL_CTRL_MASK.put (F.NM_CTRL_NODE.of 7) 8) 1), (R.NM_ID, F.NM_ID_BASE.of 5), (R.CAN_MODE 3, F.CAN_MODE_EN.of 1), (R.SYS_CLK_STATUS, F.SYS_CLK_STATUS_XTAL40_OK.of 1), (R.CAN_STATUS 3, 0), (R.NM_STATUS, F.NM_STATUS_LONE_VALID.put (F.NM_STATUS_LONE.of 5) 1), (R.NM_OFF_ENTRY 0, F.NM_OFF_ENTRY_COUNT.put (F.NM_OFF_ENTRY_NODE.of 6) 2)] fun c => c)) ∧
    ((fun (e : Fin 16) (s : State) => s.chip.flag R.NM_STATUS F.NM_STATUS_LONE_VALID = true ∧ s.chip.nm.begun = false ∧ s.chip.awake = true ∧ s.chip.fget (R.NM_OFF_ENTRY e) F.NM_OFF_ENTRY_COUNT ≠ 0 ∧ s.chip.fget (R.NM_OFF_ENTRY e) F.NM_OFF_ENTRY_NODE = s.chip.fget R.NM_STATUS F.NM_STATUS_LONE ∧ ((∀ k < 16, k < e.val → s.chip.fget (R.NM_OFF_ENTRY k) F.NM_OFF_ENTRY_COUNT = 0 ∨ s.chip.fget (R.NM_OFF_ENTRY k) F.NM_OFF_ENTRY_NODE ≠ s.chip.fget R.NM_STATUS F.NM_STATUS_LONE))) ((1 : Fin 16)) (stx [(R.NM_CTRL, F.NM_CTRL_EN.put (F.NM_CTRL_CTRL_MASK.put (F.NM_CTRL_NODE.of 7) 8) 1), (R.NM_ID, F.NM_ID_BASE.of 5), (R.CAN_MODE 3, F.CAN_MODE_EN.of 1), (R.SYS_CLK_STATUS, F.SYS_CLK_STATUS_XTAL40_OK.of 1), (R.CAN_STATUS 3, 0), (R.NM_STATUS, F.NM_STATUS_LONE_VALID.put (F.NM_STATUS_LONE.of 5) 1), (R.NM_OFF_ENTRY 1, F.NM_OFF_ENTRY_COUNT.put (F.NM_OFF_ENTRY_NODE.of 5) 2)] fun c => c)) ∧
    ((fun (s : State) => s.chip.flag R.NM_STATUS F.NM_STATUS_LONE_VALID = true ∧ s.chip.nm.begun = false ∧ s.chip.nm.entry = none ∧ s.chip.awake = true ∧ (∀ k < 16, s.chip.fget (R.NM_OFF_ENTRY k) F.NM_OFF_ENTRY_COUNT ≠ 0 ∧ s.chip.fget (R.NM_OFF_ENTRY k) F.NM_OFF_ENTRY_NODE ≠ s.chip.fget R.NM_STATUS F.NM_STATUS_LONE)) ((List.range 16).foldl (fun q j => q.onChip fun c => c.wr (R.NM_OFF_ENTRY j) (F.NM_OFF_ENTRY_COUNT.put (F.NM_OFF_ENTRY_NODE.of 9) 2)) (st [(R.NM_STATUS, F.NM_STATUS_LONE_VALID.put (F.NM_STATUS_LONE.of 5) 1)]))) ∧
    ((fun (s : State) => s.chip.flag R.NM_STATUS F.NM_STATUS_LONE_VALID = false) (st [])) ∧
    ((fun (rq : Req) (data : Word) (s : State) => s.chip.atOnce rq R.NM_OFF_CLEAR 1 = true ∧ s.chip.nm.begunAt = none) .a1 (0#32) (st [(R.NM_OFF_ENTRY 5, 7)])) ∧
    ((fun (rq : Req) (data : Word) (b : Fin 256) (s : State) => s.chip.atOnce rq R.NM_OFF_CLEAR 1 = true ∧ s.chip.nm.begunAt = some (b.val, (s.chip.ctr64 R.SYS_MTIME_LO).toNat) ∧ s.chip.flag R.NM_STATUS F.NM_STATUS_LONE_VALID = true) .a1 (0#32) ((9 : Fin 256)) (stx [(R.NM_STATUS, F.NM_STATUS_LONE_VALID.of 1), (R.NM_OFF_ENTRY 5, 7)] fun c => { c with nm := { c.nm with begunAt := some (9, (c.ctr64 R.SYS_MTIME_LO).toNat) } })) := by
  refine ⟨?_, ?_, ?_, ?_, ?_, ?_, ?_, ?_, ?_, ?_, ?_, ?_, ?_⟩ <;> decide +kernel

/-- States and operands that meet the hypotheses of AccessRounds, clause by clause. -/
theorem witness_AccessRounds :
    ((fun (a : BitVec 4) (r : Round) (s : State) => s.chip.acc.round = some r ∧ r.started = false ∧ s.chip.awake = true ∧ s.chip.radioOff = false) (2#4) (({ trig := 1 } : Round)) (stx [(R.SYS_CLK_STATUS, F.SYS_CLK_STATUS_XTAL40_OK.put (F.SYS_CLK_STATUS_RADIO_XTAL_OK.of 1) 1)] fun c => c.setAcc { c.acc with round := some { trig := 1 } })) ∧
    ((fun (a : BitVec 4) (r : Round) (s : State) => s.chip.acc.round = some r ∧ r.started = false ∧ s.chip.acc.pend = none ∧ s.chip.radioOff = true ∧ s.chip.awake = true) (2#4) (({ trig := 1 } : Round)) (stx [] fun c => c.setAcc { c.acc with round := some { trig := 1 } })) ∧
    ((fun (r : Round) (s : State) => s.chip.acc.round = some r ∧ r.started = true ∧ r.polls = 0) (({ trig := 1, started := true } : Round)) (stx [] fun c => c.setAcc { c.acc with round := some { trig := 1, started := true } })) ∧
    ((fun (r : Round) (s : State) => s.chip.acc.round = some r ∧ r.started = true ∧ 1 ≤ r.polls ∧ r.polls < 4 ∧ r.ended = true ∧ r.hit ≠ []) (({ trig := 1, zone := some 2, started := true, polls := 1, order := List.range 10, always := [4], hit := [4], ended := true } : Round)) (stx [] fun c => c.setAcc { c.acc with round := some ({ trig := 1, zone := some 2, started := true, polls := 1, order := List.range 10, always := [4], hit := [4], ended := true } : Round) })) ∧
    ((fun (k : Fin 10) (nt : BitVec 128) (r : Round) (s : State) => s.chip.acc.enrol = none ∧ s.chip.acc.round = some r ∧ r.order = List.range 10 ∧ r.ended = false ∧ s.chip.enrolled k = true ∧ r.auth = []) ((4 : Fin 10)) (9#128) (({ trig := 1, zone := some 2, started := true, polls := 1, order := List.range 10, always := [4] } : Round)) (stx [(R.ACC_ENROLLED, 0x10), (R.ACC_ZONE 2, F.ACC_ZONE_EN.put (F.ACC_ZONE_R_IN.of 100) 1)] fun c => c.setAcc { c.acc with round := some ({ trig := 1, zone := some 2, started := true, polls := 1, order := List.range 10, always := [4] } : Round) })) ∧
    ((fun (k : Fin 10) (nt x : BitVec 128) (r : Round) (s : State) => s.chip.acc.enrol = none ∧ s.chip.acc.round = some r ∧ r.order = List.range 10 ∧ r.ended = false ∧ s.chip.enrolled k = true ∧ r.auth = [] ∧ x ≠ 0 ∧ s.chip.awake = true) ((4 : Fin 10)) (9#128) (1#128) (({ trig := 1, zone := some 2, started := true, polls := 1, order := List.range 10, always := [4] } : Round)) (stx [(R.ACC_ENROLLED, 0x10), (R.ACC_ZONE 2, F.ACC_ZONE_EN.put (F.ACC_ZONE_R_IN.of 100) 1)] fun c => c.setAcc { c.acc with round := some ({ trig := 1, zone := some 2, started := true, polls := 1, order := List.range 10, always := [4] } : Round) })) ∧
    ((fun (k : Fin 10) (r : Round) (s : State) => s.chip.acc.enrol = none ∧ s.chip.acc.round = some r ∧ r.order = List.range 10 ∧ r.ended = false ∧ s.chip.enrolled k = true ∧ r.auth = []) ((4 : Fin 10)) (({ trig := 1, zone := some 2, started := true, polls := 1, order := List.range 10, always := [4] } : Round)) (stx [(R.ACC_ENROLLED, 0x10), (R.ACC_ZONE 2, F.ACC_ZONE_EN.put (F.ACC_ZONE_R_IN.of 100) 1)] fun c => c.setAcc { c.acc with round := some ({ trig := 1, zone := some 2, started := true, polls := 1, order := List.range 10, always := [4] } : Round) })) ∧
    ((fun (r : Round) (s : State) => s.chip.acc.round = some r ∧ 1 ≤ r.polls ∧ r.ended = false ∧ (r.polls < 4 ∨ r.hit = [])) (({ trig := 1, zone := some 2, started := true, polls := 1, order := List.range 10, always := [4] } : Round)) (stx [] fun c => c.setAcc { c.acc with round := some ({ trig := 1, zone := some 2, started := true, polls := 1, order := List.range 10, always := [4] } : Round) })) ∧
    ((fun (r : Round) (k : Nat) (s : State) => s.chip.acc.round = some r ∧ r.polls = 4 ∧ r.ended = false ∧ r.always = [k] ∧ r.hit = [k] ∧ s.chip.acc.pend = none ∧ s.chip.awake = true) (({ trig := 1, started := true, polls := 4, always := [4], hit := [4] } : Round)) 4 (stx [] fun c => c.setAcc { c.acc with round := some { trig := 1, started := true, polls := 4, always := [4], hit := [4] } })) ∧
    ((fun (k : Fin 10) (accepted : Bool) (r : Round) (s : State) => s.chip.acc.round = some r ∧ ((r.answered.any fun y => y.1 == k.val) = true)) ((4 : Fin 10)) true (({ trig := 1, zone := some 2, started := true, polls := 1, order := List.range 10, always := [4], answered := [(4, 9)] } : Round)) (stx [] fun c => c.setAcc { c.acc with round := some ({ trig := 1, zone := some 2, started := true, polls := 1, order := List.range 10, always := [4], answered := [(4, 9)] } : Round) })) ∧
    ((fun (k : Fin 10) (p : Fin 4) (d : Nat) (r : Round) (s : State) => s.chip.acc.round = some r ∧ r.auth.contains k.val = true ∧ r.gone = [] ∧ s.chip.antFault p = false) ((4 : Fin 10)) ((3 : Fin 4)) 70000 (({ trig := 1, zone := some 2, started := true, polls := 1, order := List.range 10, always := [4], auth := [4] } : Round)) (stx [] fun c => c.setAcc { c.acc with round := some ({ trig := 1, zone := some 2, started := true, polls := 1, order := List.range 10, always := [4], auth := [4] } : Round) })) ∧
    ((fun (k : Fin 10) (p : Fin 4) (r : Round) (s : State) => s.chip.acc.round = some r ∧ r.auth.contains k.val = true ∧ r.gone = []) ((4 : Fin 10)) ((3 : Fin 4)) (({ trig := 1, zone := some 2, started := true, polls := 1, order := List.range 10, always := [4], auth := [4] } : Round)) (stx [] fun c => c.setAcc { c.acc with round := some ({ trig := 1, zone := some 2, started := true, polls := 1, order := List.range 10, always := [4], auth := [4] } : Round) })) ∧
    ((fun (r : Round) (s : State) => s.chip.acc.round = some r ∧ r.started = true ∧ 1 ≤ r.polls ∧ r.ended = true ∧ r.hit = [] ∧ r.auth = [] ∧ r.failed = [] ∧ s.chip.acc.pend = none ∧ s.chip.awake = true) (({ trig := 1, zone := some 2, started := true, polls := 1, order := List.range 10, always := [4], ended := true } : Round)) (stx [] fun c => c.setAcc { c.acc with round := some ({ trig := 1, zone := some 2, started := true, polls := 1, order := List.range 10, always := [4], ended := true } : Round) })) ∧
    ((fun (r : Round) (k : Fin 10) (z : Fin 8) (s : State) => s.chip.acc.round = some r ∧ r.started = true ∧ 1 ≤ r.polls ∧ r.ended = true ∧ r.hit = [] ∧ r.auth = [k.val] ∧ r.gone = [] ∧ s.chip.acc.pend = none ∧ r.trig = 1 ∧ r.zone = some z.val ∧ s.chip.inside k z = true ∧ s.chip.awake = true ∧ s.chip.flag R.ACC_STATE F.ACC_STATE_POLL_STOPPED = false) (({ trig := 1, zone := some 2, started := true, polls := 1, order := List.range 10, always := [4], auth := [4], ended := true } : Round)) ((4 : Fin 10)) ((2 : Fin 8)) (stx [(R.ACC_ENROLLED, 0x10), (R.ACC_ZONE 2, F.ACC_ZONE_EN.put (F.ACC_ZONE_R_IN.of 100) 1), (R.ACC_SLOT_D01 4, 0xFFFF0032)] fun c => c.setAcc { c.acc with round := some ({ trig := 1, zone := some 2, started := true, polls := 1, order := List.range 10, always := [4], auth := [4], ended := true } : Round) })) ∧
    ((fun (s : State) => s.chip.released = true ∧ s.chip.mbPend (s.chip.fget R.ACC_CFG3 F.ACC_CFG3_IMMO_CAN) 62 = true) (stx [(R.ACC_STATE, F.ACC_STATE_RELEASED.of 1)] fun c => c.setMbPend 0 62 true)) ∧
    ((fun (s : State) => s.chip.released = false) (st [])) ∧
    ((fun (k : Fin 10) (a : BitVec 4) (s : State) => s.chip.listens = true ∧ s.chip.enrolled k = true ∧ s.chip.acc.round = none) ((4 : Fin 10)) (0#4) (st [(R.ACC_ENROLLED, 0x10), (R.ACC_ZONE 2, F.ACC_ZONE_EN.put (F.ACC_ZONE_R_IN.of 100) 1), (R.SYS_CLK_STATUS, F.SYS_CLK_STATUS_XTAL40_OK.put (F.SYS_CLK_STATUS_RADIO_XTAL_OK.of 1) 1)])) ∧
    ((fun (s : State) => s.chip.flag R.ACC_STATE F.ACC_STATE_POLL_STOPPED = false ∧ s.chip.awake = true) (st [])) := by
  refine ⟨?_, ?_, ?_, ?_, ?_, ?_, ?_, ?_, ?_, ?_, ?_, ?_, ?_, ?_, ?_, ?_, ?_, ?_⟩ <;> decide +kernel

/-- States and operands that meet the hypotheses of TheLogIsSealedAndTheRecorderWorks, clause by clause. -/
theorem witness_TheLogIsSealedAndTheRecorderWorks :
    ((fun (s : State) => s.chip.grain.dirty = true ∧ s.chip.awake = true ∧ s.chip.erasing = false ∧ s.chip.grain.job = none ∧ s.chip.grain.attWait = [] ∧ s.chip.grain.mainRoom = true) (stx [] fun c => c.setGrain { c.grain with dirty := true, nextSeq := 9, sealSlot := 0 })) ∧
    ((fun (s : State) => (s.chip.grain.dirty = false ∨ s.chip.awake = false)) (st [])) ∧
    ((fun (q sl : Nat) (msg : List Byte) (s : State) => s.chip.grain.job = some (.sealing q sl msg) ∧ s.chip.awake = true ∧ s.chip.grain.sealWait = false ∧ s.chip.grain.attWait = [] ∧ s.chip.grain.exp = none ∧ s.chip.cmds = []) 9 0 ([]) (stx [] fun c => c.setGrain { c.grain with job := some (.sealing 9 0 []) })) ∧
    ((fun (k : Fin 4) (m : BitVec 16) (lim : Bool) (s : State) => (s.chip.chRun (188 + k)).driven = true ∧ s.chip.flag R.PWR_SEAL_STATUS (bitFld k) = true ∧ s.chip.linkUp 5 = true ∧ s.chip.awake = true) ((2 : Fin 4)) (3#16) true (stx [(R.PWR_SEAL_STATUS, 4)] fun c => c.setChRun 190 .on)) ∧
    ((fun (k : Fin 4) (h a : BitVec 16) (lim pl : Bool) (s : State) => (s.chip.sealX (188 + k)).byStart ≠ none ∧ s.chip.linkUp 5 = true ∧ s.chip.awake = true) ((2 : Fin 4)) (3#16) (2#16) true false (stx [(R.PWR_SEAL_STATUS, 0x40)] fun c => c.setSealX 190 { byStart := some 9 })) ∧
    ((fun (k : Fin 4) (h a : BitVec 16) (lim pl : Bool) (s : State) => (s.chip.sealX (188 + k)).byStart = none) ((2 : Fin 4)) (3#16) (2#16) true false (st [])) ∧
    ((fun (data : Word) (s : State) => s.chip.direct .sup R.PWR_SEAL_ACK = true) (2#32) (st [(R.PWR_SEAL_KIND 1, F.PWR_SEAL_KIND_VALID.of 1), (R.PWR_SEAL_KIND 2, F.PWR_SEAL_KIND_VALID.of 1)])) ∧
    ((fun (u : BitVec 8) (l : List (BitVec 8)) (s : State) => s.chip.awake = true ∧ (((Tbl.get (fun _ => []) s.chip.loads 0).all fun v => decide (v < 256)) = true)) (50#8) ([]) (st [])) ∧
    ((fun (u v : BitVec 8) (l : List (BitVec 8)) (s : State) => s.chip.awake = true) (50#8) (7#8) ([]) (st [])) := by
  refine ⟨?_, ?_, ?_, ?_, ?_, ?_, ?_, ?_, ?_⟩ <;> decide +kernel

/-- States and operands that meet the hypotheses of UdsSessionsAndIdentifiers, clause by clause. -/
theorem witness_UdsSessionsAndIdentifiers :
    ((fun (n : BitVec 8) (s : State) => s.chip.svcHears = true ∧ (n = 2 ∨ n = 3) ∧ (s.chip.mode = 3 ∨ s.chip.mode = 4) ∧ s.chip.upd.session = 1 ∧ s.chip.upd.staging ≠ 1 ∧ s.chip.released = false) (2#8) (stx [(R.SYS_MODE, 0x54), (R.SYS_CLK_STATUS, F.SYS_CLK_STATUS_XTAL40_OK.of 1)] fun c => c.setUpd { c.upd with session := 1 })) ∧
    ((fun (s : State) => s.chip.svcHears = true ∧ s.chip.mode = 6 ∧ s.chip.upd.session ≠ 1 ∧ s.chip.upd.fromStart = false ∧ s.chip.upd.staging ≠ 5 ∧ s.chip.upd.staging ≠ 1 ∧ (s.chip.upd.back = 3 ∨ s.chip.upd.back = 4)) (stx [(R.SYS_MODE, 0x46), (R.SYS_CLK_STATUS, F.SYS_CLK_STATUS_XTAL40_OK.of 1)] fun c => c.setUpd { c.upd with session := 2, back := 3 })) ∧
    ((fun (n : BitVec 8) (s : State) => s.chip.svcHears = true ∧ s.chip.mode = 7) (2#8) (stx [(R.SYS_MODE, 0x47), (R.SYS_CLK_STATUS, F.SYS_CLK_STATUS_XTAL40_OK.of 1)] fun c => c.setUpd { c.upd with session := 1 })) ∧
    ((fun (s : State) => s.chip.awake = true ∧ s.chip.upd.session ≠ 1 ∧ s.chip.mode = 6 ∧ s.chip.upd.fromStart = false ∧ s.chip.upd.staging = 1 ∧ (s.chip.upd.back = 3 ∨ s.chip.upd.back = 4)) (stx [(R.SYS_MODE, 0x46), (R.SYS_CLK_STATUS, F.SYS_CLK_STATUS_XTAL40_OK.of 1)] fun c => c.setUpd { c.upd with session := 2, back := 4, staging := 1 })) ∧
    ((fun (s : State) => s.chip.awake = true ∧ s.chip.upd.session ≠ 1 ∧ s.chip.mode = 6 ∧ (s.chip.upd.fromStart = true ∨ s.chip.upd.staging = 5)) (stx [(R.SYS_MODE, 0x46), (R.SYS_CLK_STATUS, F.SYS_CLK_STATUS_XTAL40_OK.of 1)] fun c => c.setUpd { c.upd with session := 2, staging := 5 })) ∧
    ((fun (s : State) => s.chip.upd.session = 1) (st [])) ∧
    ((fun (env : StartEnv) (s : State) => env.xtal = true ∧ env.supOk = true ∧ env.appOk = true ∧ s.chip.upd.staging ≠ 5 ∧ s.chip.upd.journal = 0 ∧ s.chip.stored.writes = [] ∧ s.chip.svcHears = true ∧ s.chip.upd.session ≠ 1) (({} : StartEnv)) (stx [(R.SYS_MODE, 0x46), (R.SYS_CLK_STATUS, F.SYS_CLK_STATUS_XTAL40_OK.of 1)] fun c => c.setUpd { c.upd with session := 2 })) ∧
    ((fun (k : BitVec 8) (env : StartEnv) (s : State) => s.chip.svcHears = true ∧ s.chip.upd.session = 1) (1#8) (({} : StartEnv)) (stx [(R.SYS_MODE, 0x46), (R.SYS_CLK_STATUS, F.SYS_CLK_STATUS_XTAL40_OK.of 1)] fun c => c.setUpd { c.upd with session := 1 })) ∧
    ((fun (k : BitVec 8) (env : StartEnv) (s : State) => s.chip.svcHears = true ∧ s.chip.upd.session ≠ 1 ∧ k ≠ 1) (3#8) (({} : StartEnv)) (stx [(R.SYS_MODE, 0x46), (R.SYS_CLK_STATUS, F.SYS_CLK_STATUS_XTAL40_OK.of 1)] fun c => c.setUpd { c.upd with session := 2 })) ∧
    ((fun (s : State) => s.chip.svcHears = true ∧ s.chip.mode ≠ 5) (stx [(R.SYS_MODE, 0x46), (R.SYS_CLK_STATUS, F.SYS_CLK_STATUS_XTAL40_OK.of 1)] fun c => c.setUpd { c.upd with session := 1 })) ∧
    ((fun (s : State) => s.chip.svcHears = true ∧ s.chip.mode ≠ 5) (stx [(R.SYS_MODE, 0x46), (R.SYS_CLK_STATUS, F.SYS_CLK_STATUS_XTAL40_OK.of 1)] fun c => c.setUpd { c.upd with session := 1 })) ∧
    ((fun (s : State) => s.chip.svcHears = true ∧ s.chip.mode ≠ 5) (stx [(R.SYS_MODE, 0x46), (R.SYS_CLK_STATUS, F.SYS_CLK_STATUS_XTAL40_OK.of 1)] fun c => c.setUpd { c.upd with session := 1 })) ∧
    ((fun (s : State) => s.chip.svcHears = true ∧ s.chip.mode ≠ 5) (stx [(R.SYS_MODE, 0x46), (R.SYS_CLK_STATUS, F.SYS_CLK_STATUS_XTAL40_OK.of 1)] fun c => c.setUpd { c.upd with session := 1 })) ∧
    ((fun (d : BitVec 16) (s : State) => s.chip.svcHears = true ∧ s.chip.mode ≠ 5 ∧ (d.toNat < 0x5A10 ∨ 0x5A13 < d.toNat)) (0x5A14#16) (stx [(R.SYS_MODE, 0x46), (R.SYS_CLK_STATUS, F.SYS_CLK_STATUS_XTAL40_OK.of 1)] fun c => c.setUpd { c.upd with session := 1 })) ∧
    ((fun (s : State) => s.chip.svcHears = true ∧ s.chip.mode ≠ 5) (stx [(R.SYS_MODE, 0x46), (R.SYS_CLK_STATUS, F.SYS_CLK_STATUS_XTAL40_OK.of 1)] fun c => c.setUpd { c.upd with session := 1 })) ∧
    ((fun (k : BitVec 8) (s : State) => s.chip.svcHears = true) (1#8) (stx [(R.SYS_MODE, 0x46), (R.SYS_CLK_STATUS, F.SYS_CLK_STATUS_XTAL40_OK.of 1)] fun c => c.setUpd { c.upd with session := 1 })) ∧
    ((fun (k : BitVec 8) (s : State) => s.chip.svcHears = true ∧ ([0x10, 0x11, 0x22, 0x31, 0x34, 0x36, 0x37, 0x3E] : List (BitVec 8)).contains k = false) (0x2E#8) (stx [(R.SYS_MODE, 0x46), (R.SYS_CLK_STATUS, F.SYS_CLK_STATUS_XTAL40_OK.of 1)] fun c => c.setUpd { c.upd with session := 1 })) ∧
    ((fun (k : BitVec 16) (s : State) => s.chip.svcHears = false) (0x5A10#16) (st [(R.SYS_PAD_HOLD, 0x200)])) := by
  refine ⟨?_, ?_, ?_, ?_, ?_, ?_, ?_, ?_, ?_, ?_, ?_, ?_, ?_, ?_, ?_, ?_, ?_, ?_⟩ <;> decide +kernel

/-- States and operands that meet the hypotheses of UdsStagesAPackage, clause by clause. -/
theorem witness_UdsStagesAPackage :
    ((fun (s : State) => s.chip.svcHears = true ∧ s.chip.upd.session = 2 ∧ s.chip.mode ≠ 5) (stx [(R.SYS_MODE, 0x46), (R.SYS_CLK_STATUS, F.SYS_CLK_STATUS_XTAL40_OK.of 1)] fun c => c.setUpd { c.upd with session := 2, staging := 5 })) ∧
    ((fun (s : State) => s.chip.svcHears = true ∧ s.chip.upd.session = 2 ∧ s.chip.upd.staging = 2 ∧ s.chip.upd.checking = false) (stx [(R.SYS_MODE, 0x46), (R.SYS_CLK_STATUS, F.SYS_CLK_STATUS_XTAL40_OK.of 1)] fun c => c.setUpd { c.upd with session := 2, staging := 2 })) ∧
    ((fun (s : State) => s.chip.svcHears = true ∧ s.chip.upd.session = 2 ∧ s.chip.upd.staging ≠ 2) (stx [(R.SYS_MODE, 0x46), (R.SYS_CLK_STATUS, F.SYS_CLK_STATUS_XTAL40_OK.of 1)] fun c => c.setUpd { c.upd with session := 2, staging := 3 })) ∧
    ((fun (s : State) => s.chip.upd.checking = true ∧ s.chip.awake = true) (stx [(R.SYS_MODE, 0x46), (R.SYS_CLK_STATUS, F.SYS_CLK_STATUS_XTAL40_OK.of 1)] fun c => c.setUpd { c.upd with session := 2, staging := 2, checking := true })) ∧
    ((fun (s : State) => s.chip.upd.checking = false) (st [])) ∧
    ((fun (s : State) => s.chip.svcHears = true ∧ s.chip.upd.session = 2 ∧ s.chip.upd.staging = 3 ∧ s.chip.logFull = false) (stx [(R.SYS_MODE, 0x46), (R.SYS_CLK_STATUS, F.SYS_CLK_STATUS_XTAL40_OK.of 1)] fun c => c.setUpd { c.upd with session := 2, staging := 3 })) ∧
    ((fun (s : State) => s.chip.svcHears = true ∧ s.chip.upd.session = 2 ∧ s.chip.upd.staging = 3 ∧ s.chip.logFull = true) (stx [(R.SYS_MODE, 0x46), (R.SYS_CLK_STATUS, F.SYS_CLK_STATUS_XTAL40_OK.of 1), (R.SEC_LOG_STATUS, F.SEC_LOG_STATUS_LOG_FULL.of 1)] fun c => c.setUpd { c.upd with session := 2, staging := 3 })) ∧
    ((fun (s : State) => s.chip.svcHears = true ∧ s.chip.upd.session = 2 ∧ s.chip.upd.staging ≠ 3) (stx [(R.SYS_MODE, 0x46), (R.SYS_CLK_STATUS, F.SYS_CLK_STATUS_XTAL40_OK.of 1)] fun c => c.setUpd { c.upd with session := 2, staging := 2 })) ∧
    ((fun (s : State) => s.chip.svcHears = true ∧ s.chip.upd.session = 2 ∧ s.chip.mode ≠ 5 ∧ s.chip.upd.staging = 5) (stx [(R.SYS_MODE, 0x46), (R.SYS_CLK_STATUS, F.SYS_CLK_STATUS_XTAL40_OK.of 1)] fun c => c.setUpd { c.upd with session := 2, staging := 5 })) ∧
    ((fun (s : State) => s.chip.svcHears = true ∧ s.chip.upd.session = 2 ∧ s.chip.mode ≠ 5 ∧ s.chip.upd.staging ≠ 5) (stx [(R.SYS_MODE, 0x46), (R.SYS_CLK_STATUS, F.SYS_CLK_STATUS_XTAL40_OK.of 1)] fun c => c.setUpd { c.upd with session := 2, staging := 3 })) ∧
    ((fun (s : State) => s.chip.svcHears = true ∧ s.chip.upd.session = 2 ∧ s.chip.upd.checking = false) (stx [(R.SYS_MODE, 0x46), (R.SYS_CLK_STATUS, F.SYS_CLK_STATUS_XTAL40_OK.of 1)] fun c => c.setUpd { c.upd with session := 2, staging := 4, result := 3 })) ∧
    ((fun (s : State) => s.chip.svcHears = true ∧ s.chip.upd.session = 2 ∧ s.chip.upd.checking = true) (stx [(R.SYS_MODE, 0x46), (R.SYS_CLK_STATUS, F.SYS_CLK_STATUS_XTAL40_OK.of 1)] fun c => c.setUpd { c.upd with session := 2, checking := true })) ∧
    ((fun (s : State) => s.chip.svcHears = true ∧ s.chip.upd.checking = true) (stx [(R.SYS_MODE, 0x46), (R.SYS_CLK_STATUS, F.SYS_CLK_STATUS_XTAL40_OK.of 1)] fun c => c.setUpd { c.upd with session := 2, checking := true })) ∧
    ((fun (s : State) => s.chip.upd.checking = false) (st [])) ∧
    ((fun (size : Word) (s : State) => s.chip.svcHears = true ∧ s.chip.upd.session = 2 ∧ size.toNat ≤ 4194304) (4194304#32) (stx [(R.SYS_MODE, 0x46), (R.SYS_CLK_STATUS, F.SYS_CLK_STATUS_XTAL40_OK.of 1)] fun c => c.setUpd { c.upd with session := 2, staging := 3 })) ∧
    ((fun (fm ln : BitVec 8) (a size : Word) (s : State) => s.chip.svcHears = true ∧ s.chip.upd.session = 2 ∧ (fm ≠ 0 ∨ ln ≠ 0x44 ∨ a ≠ 0 ∨ 4194304 < size.toNat)) (0#8) (0x44#8) (0#32) (4194305#32) (stx [(R.SYS_MODE, 0x46), (R.SYS_CLK_STATUS, F.SYS_CLK_STATUS_XTAL40_OK.of 1)] fun c => c.setUpd { c.upd with session := 2, staging := 3 })) ∧
    ((fun (k : BitVec 8) (b : List Byte) (s : State) => s.chip.svcHears = true ∧ s.chip.upd.session = 2 ∧ s.chip.upd.staging = 1 ∧ s.chip.upd.block = k.toNat ∧ b.length ≤ 4096 ∧ s.chip.upd.data.length + b.length ≤ s.chip.upd.size) (255#8) ([1, 2]) (stx [(R.SYS_MODE, 0x46), (R.SYS_CLK_STATUS, F.SYS_CLK_STATUS_XTAL40_OK.of 1)] fun c => c.setUpd { c.upd with session := 2, staging := 1, size := 9, block := 255, data := [7] })) ∧
    ((fun (k : BitVec 8) (b : List Byte) (p : Bool) (s : State) => s.chip.svcHears = true ∧ s.chip.upd.session = 2 ∧ s.chip.upd.staging = 1 ∧ s.chip.upd.block = (k.toNat + 1) % 256 ∧ s.chip.upd.data ≠ []) (255#8) ([1, 2]) true (stx [(R.SYS_MODE, 0x46), (R.SYS_CLK_STATUS, F.SYS_CLK_STATUS_XTAL40_OK.of 1)] fun c => c.setUpd { c.upd with session := 2, staging := 1, size := 9, block := 0, data := [7] })) ∧
    ((fun (k : BitVec 8) (b : List Byte) (p : Bool) (s : State) => s.chip.svcHears = true ∧ s.chip.upd.session = 2 ∧ s.chip.upd.staging = 1 ∧ s.chip.upd.block < 256 ∧ s.chip.upd.block ≠ k.toNat ∧ s.chip.upd.block ≠ (k.toNat + 1) % 256) (5#8) ([1, 2]) true (stx [(R.SYS_MODE, 0x46), (R.SYS_CLK_STATUS, F.SYS_CLK_STATUS_XTAL40_OK.of 1)] fun c => c.setUpd { c.upd with session := 2, staging := 1, size := 9, block := 2 })) ∧
    ((fun (k : BitVec 8) (b : List Byte) (p : Bool) (s : State) => s.chip.svcHears = true ∧ s.chip.upd.session = 2 ∧ s.chip.upd.staging = 1 ∧ s.chip.upd.block = k.toNat ∧ s.chip.upd.size < s.chip.upd.data.length + b.length) (2#8) ([1, 2]) true (stx [(R.SYS_MODE, 0x46), (R.SYS_CLK_STATUS, F.SYS_CLK_STATUS_XTAL40_OK.of 1)] fun c => c.setUpd { c.upd with session := 2, staging := 1, size := 1, block := 2 })) ∧
    ((fun (k : BitVec 8) (b : List Byte) (s : State) => s.chip.svcHears = true ∧ s.chip.upd.session = 2 ∧ s.chip.upd.staging = 1 ∧ s.chip.upd.block = k.toNat ∧ b.length ≤ 4096 ∧ s.chip.upd.data.length + b.length ≤ s.chip.upd.size) (2#8) ([1, 2]) (stx [(R.SYS_MODE, 0x46), (R.SYS_CLK_STATUS, F.SYS_CLK_STATUS_XTAL40_OK.of 1)] fun c => c.setUpd { c.upd with session := 2, staging := 1, size := 9, block := 2 })) ∧
    ((fun (s : State) => s.chip.svcHears = true ∧ s.chip.upd.session = 2 ∧ s.chip.upd.staging = 1 ∧ s.chip.upd.size ≤ s.chip.upd.data.length) (stx [(R.SYS_MODE, 0x46), (R.SYS_CLK_STATUS, F.SYS_CLK_STATUS_XTAL40_OK.of 1)] fun c => c.setUpd { c.upd with session := 2, staging := 1, size := 1, data := [7] })) ∧
    ((fun (s : State) => s.chip.svcHears = true ∧ s.chip.upd.session = 2 ∧ (s.chip.upd.staging ≠ 1 ∨ s.chip.upd.data.length < s.chip.upd.size)) (stx [(R.SYS_MODE, 0x46), (R.SYS_CLK_STATUS, F.SYS_CLK_STATUS_XTAL40_OK.of 1)] fun c => c.setUpd { c.upd with session := 2, staging := 1, size := 2, data := [7] })) ∧
    ((fun (k : BitVec 8) (b : List Byte) (p : Bool) (s : State) => s.chip.svcHears = true ∧ s.chip.upd.session ≠ 2) (2#8) ([1, 2]) true (stx [(R.SYS_MODE, 0x46), (R.SYS_CLK_STATUS, F.SYS_CLK_STATUS_XTAL40_OK.of 1)] fun c => c.setUpd { c.upd with session := 1 })) := by
  refine ⟨?_, ?_, ?_, ?_, ?_, ?_, ?_, ?_, ?_, ?_, ?_, ?_, ?_, ?_, ?_, ?_, ?_, ?_, ?_, ?_, ?_, ?_, ?_, ?_⟩ <;> decide +kernel

/-- States and operands that meet the hypotheses of AliasesFailOrReadZeroWhereNothingIs, clause by clause. -/
theorem witness_AliasesFailOrReadZeroWhereNothingIs :
    ((fun (rq : Req) (u : Bool) (w : Width) (addr : Word) (s : State) => s.chip.awake = true ∧ region addr.toNat = .alias_ ∧ s.chip.passes rq u addr.toNat (widthBytes w) 0 = true ∧ (w ≠ .word ∨ addr.toNat % 4 ≠ 0)) .a1 false Width.word (0x60001002#32) (st [])) ∧
    ((fun (rq : Req) (u : Bool) (w : Width) (addr data : Word) (s : State) => s.chip.awake = true ∧ region addr.toNat = .alias_ ∧ s.chip.passes rq u addr.toNat (widthBytes w) 1 = true ∧ (w ≠ .word ∨ addr.toNat % 4 ≠ 0)) .sup false Width.half (0x60001004#32) (1#32) (st [])) ∧
    ((fun (rq : Req) (u : Bool) (c : Fin 4) (s : State) => s.chip.awake = true ∧ s.chip.stalled rq = false ∧ s.chip.passes rq u (0x60000000 + (R.SYS_MSIP c - 0x40000000) * 32) 4 0 = true) .a2 false ((1 : Fin 4)) (st [])) ∧
    ((fun (rq : Req) (u : Bool) (c : Fin 4) (data : Word) (s : State) => s.chip.awake = true ∧ s.chip.stalled rq = false ∧ s.chip.passes rq u (0x60000000 + (R.SYS_MSIP c - 0x40000000) * 32) 4 1 = true ∧ s.chip.flag R.SYS_LOCK F.SYS_LOCK_LOCK = false) .a2 false ((3 : Fin 4)) (1#32) (st [])) ∧
    ((fun (rq : Req) (u : Bool) (addr : Word) (s : State) => s.chip.awake = true ∧ region addr.toNat = .alias_ ∧ s.chip.passes rq u addr.toNat 4 0 = true ∧ addr.toNat % 4 = 0 ∧ inBlock (aliasOf addr.toNat).1 = false) .a0 false (0x6A000000#32) (st [])) ∧
    ((fun (rq : Req) (u : Bool) (addr data : Word) (s : State) => s.chip.awake = true ∧ region addr.toNat = .alias_ ∧ s.chip.passes rq u addr.toNat 4 1 = true ∧ addr.toNat % 4 = 0 ∧ inBlock (aliasOf addr.toNat).1 = false) .a0 false (0x6A000000#32) (1#32) (st [])) ∧
    ((fun (rq : Req) (u : Bool) (addr : Word) (s : State) => s.chip.awake = true ∧ s.chip.stalled rq = false ∧ region addr.toNat = .alias_ ∧ s.chip.passes rq u addr.toNat 4 0 = true ∧ addr.toNat % 4 = 0 ∧ inBlock (aliasOf addr.toNat).1 = true ∧ findReg (aliasOf addr.toNat).1 = none ∧ ((aliasOf addr.toNat).1 < 0x40038000 ∨ 0x40039000 ≤ (aliasOf addr.toNat).1) ∧ (dieOf (aliasOf addr.toNat).1 = 0 ∨ (s.chip.linkUp (dieOf (aliasOf addr.toNat).1) = true ∧ s.chip.inStep (dieOf (aliasOf addr.toNat).1) = true ∧ s.chip.noneWaits = true))) .a0 false (0x6001FFFC#32) (st [])) ∧
    ((fun (rq : Req) (u : Bool) (addr data : Word) (s : State) => s.chip.awake = true ∧ s.chip.stalled rq = false ∧ region addr.toNat = .alias_ ∧ s.chip.passes rq u addr.toNat 4 1 = true ∧ addr.toNat % 4 = 0 ∧ inBlock (aliasOf addr.toNat).1 = true ∧ findReg (aliasOf addr.toNat).1 = none ∧ ((aliasOf addr.toNat).1 < 0x40038000 ∨ 0x40039000 ≤ (aliasOf addr.toNat).1) ∧ (dieOf (aliasOf addr.toNat).1 = 0 ∨ (rq = .sup ∧ s.chip.linkUp (dieOf (aliasOf addr.toNat).1) = true ∧ s.chip.inStep (dieOf (aliasOf addr.toNat).1) = true ∧ s.chip.outstanding rq < 8))) .sup false (0x64FFFF80#32) (1#32) (st [])) ∧
    ((fun (rq : Req) (u : Bool) (addr data : Word) (s : State) => s.chip.awake = true ∧ s.chip.stalled rq = false ∧ region addr.toNat = .alias_ ∧ s.chip.passes rq u addr.toNat 4 1 = true ∧ addr.toNat % 4 = 0 ∧ inBlock (aliasOf addr.toNat).1 = true ∧ findReg (aliasOf addr.toNat).1 = none ∧ ((aliasOf addr.toNat).1 < 0x40038000 ∨ 0x40039000 ≤ (aliasOf addr.toNat).1) ∧ dieOf (aliasOf addr.toNat).1 ≠ 0 ∧ rq ≠ .sup ∧ (s.chip.linkUp (dieOf (aliasOf addr.toNat).1) = true ∧ s.chip.inStep (dieOf (aliasOf addr.toNat).1) = true ∧ s.chip.outstanding rq < 8)) .a0 false (0x64FFFF80#32) (1#32) (st [])) := by
  refine ⟨?_, ?_, ?_, ?_, ?_, ?_, ?_, ?_, ?_⟩ <;> decide +kernel

/-- States and operands that meet the hypotheses of ParChangesOnlyWithIdleValves, clause by clause. -/
theorem witness_ParChangesOnlyWithIdleValves :
    ((fun (g : Fin 8) (data : Word) (s : State) => s.chip.direct .sup (R.VG_CFG g) = true ∧ g.toNat % 2 = 0 ∧ F.VG_CFG_PAR.get data ≠ s.chip.fget (R.VG_CFG g) F.VG_CFG_PAR ∧ (∀ j < 4, s.chip.vState (2 * g + j) = .off ∨ s.chip.vState (2 * g + j) = .disabled)) ((2 : Fin 8)) (0x80120105#32) (st [])) ∧
    ((fun (g : Fin 8) (j : Fin 4) (data : Word) (s : State) => s.chip.direct .sup (R.VG_CFG g) = true ∧ g.toNat % 2 = 0 ∧ F.VG_CFG_PAR.get data ≠ s.chip.fget (R.VG_CFG g) F.VG_CFG_PAR ∧ s.chip.vState (2 * g + j) ≠ .off ∧ s.chip.vState (2 * g + j) ≠ .disabled) ((2 : Fin 8)) ((3 : Fin 4)) (0x80120105#32) (st [(R.VLV_STATUS 7, 3)])) ∧
    ((fun (g : Fin 8) (data : Word) (s : State) => s.chip.direct .sup (R.VG_CFG g) = true ∧ g.toNat % 2 = 0 ∧ F.VG_CFG_PAR.get data = s.chip.fget (R.VG_CFG g) F.VG_CFG_PAR) ((6 : Fin 8)) (0x120105#32) (st [(R.VLV_STATUS 15, 3)])) := by
  refine ⟨?_, ?_, ?_⟩ <;> decide +kernel

end Sys2Proof.Tests
end

section
/-! SUPPORT. What the raise of an event and a bus error leave: the registers they write, and every other register as it was (R56, R288). -/

namespace Sys2Proof.Machine
open Sys2Proof

/-! ### Raising an event (R288) -/

theorem Chip.awake_iff (c : Chip) : c.awake = true ↔ ¬ c.fget R.SYS_MODE F.SYS_MODE_MODE < 3 := by
  unfold Chip.awake Chip.mode
  rw [decide_eq_true_iff, Nat.not_lt]

/-- Whether the control die is powered shows in SYS_MODE alone. -/
theorem Chip.awake_of_rd {c c' : Chip} (h : c'.rd R.SYS_MODE = c.rd R.SYS_MODE) (ha : c.awake = true) : c'.awake = true := by
  rw [Chip.awake_iff] at ha ⊢
  rwa [Chip.fget, h]

/-- A raise at a target writes no register but the target's merge counter. -/
theorem Chip.rd_raiseAt_ne (k t : Nat) (c : Chip) {a : Nat} (h : a ≠ R.EVR_MERGE_CNT t) : (Chip.raiseAt k t c).rd a = c.rd a := by
  unfold Chip.raiseAt
  split
  · split
    · exact Chip.rd_bump_ne c 1 h
    · rfl
  · rfl

/-- A raise in a mode in which the router is powered: the block's clock runs, the source is counted, and each target takes it. -/
theorem Chip.raise_powered {c : Chip} (k : Nat) (h : c.awake = true) :
    c.raise k = (List.range 7).foldl (fun c t => Chip.raiseAt k t c) ((c.ungate 0).bump (R.EVR_CNT k)) := by
  rw [Chip.raise, if_neg (c.awake_iff.1 h)]
  rfl

theorem Chip.rd_raiseAts_ne (k : Nat) {a : Nat} : ∀ (ts : List Nat) (c : Chip), (∀ t ∈ ts, a ≠ R.EVR_MERGE_CNT t) →
    (ts.foldl (fun c t => Chip.raiseAt k t c) c).rd a = c.rd a
  | [], _, _ => rfl
  | t :: ts, c, h => (Chip.rd_raiseAts_ne k ts _ fun u hu => h u (by simp [hu])).trans (Chip.rd_raiseAt_ne k t c (h t (by simp)))

/-- A raise writes the source's count, the merge counters and the router's clock state alone. -/
theorem Chip.rd_raise_ne (c : Chip) (k : Nat) {a : Nat} (hp : a ≠ R.SYS_BLK_POWER 0) (hk : a ≠ R.EVR_CNT k)
    (hm : ∀ t < 7, a ≠ R.EVR_MERGE_CNT t) : (c.raise k).rd a = c.rd a := by
  by_cases h : c.awake = true
  · rw [Chip.raise_powered k h, Chip.rd_raiseAts_ne k _ _ (fun t ht => hm t (List.mem_range.1 ht)), Chip.rd_bump_ne _ _ hk]
    exact Chip.rd_fset_ne c _ _ hp
  · rw [Chip.awake_iff, not_not] at h
    rw [Chip.raise, if_pos h]

/-- A raise counts its source. -/
theorem Chip.rd_raise_cnt {c : Chip} {k : Nat} (h : c.awake = true) (hk : k < 256) :
    (c.raise k).rd (R.EVR_CNT k) = .ofNat 32 (min 0xFFFFFFFF ((c.rd (R.EVR_CNT k)).toNat + 1)) := by
  have hm : ∀ t ∈ List.range 7, R.EVR_CNT k ≠ R.EVR_MERGE_CNT t := by
    intro t _
    simp only [R.EVR_CNT, R.EVR_MERGE_CNT]
    omega
  have hp : R.EVR_CNT k ≠ R.SYS_BLK_POWER 0 := by
    simp only [R.EVR_CNT, R.SYS_BLK_POWER]
    omega
  rw [Chip.raise_powered k h, Chip.rd_raiseAts_ne k _ _ hm, Chip.rd_bump_self, Chip.ungate, Chip.rd_fset_ne _ _ _ hp]

/-- A raise stays in the system block and the event router. -/
theorem Only.raise (c : Chip) {k : Nat} (hk : k < 256) : Only [Blk.sys, Blk.evr] c (c.raise k) := by
  intro a ha
  have hs := ha Blk.sys (by simp)
  have he := ha Blk.evr (by simp)
  simp only [Blk.sys, Blk.evr] at hs he
  apply Chip.rd_raise_ne
  · simp only [R.SYS_BLK_POWER]
    omega
  · simp only [R.EVR_CNT]
    omega
  · intro t ht
    simp only [R.EVR_MERGE_CNT]
    omega

/-! ### A bus error (R56) -/

/-- Between c and c' one bus error has been recorded, counted and raised as EV003, and nothing outside the system block and the event
router has changed. -/
structure BusErrorSeen (c c' : Chip) (write : Bool) (rq : Req) (sy : Syndrome) (a : Nat) : Prop where
  syndrome : c'.fget R.SYS_BUSFAULT F.SYS_BUSFAULT_SYNDROME = sy.code
  addr : c'.rd R.SYS_BUSFAULT_ADDR = .ofNat 32 a
  write : c'.fget R.SYS_BUSFAULT F.SYS_BUSFAULT_WRITE = write.toNat
  requester : c'.fget R.SYS_BUSFAULT F.SYS_BUSFAULT_REQUESTER = rq.code
  count : c'.rd R.SYS_BUSFAULT_CNT = .ofNat 32 (min 0xFFFFFFFF ((c.rd R.SYS_BUSFAULT_CNT).toNat + 1))
  event : c'.rd (R.EVR_CNT 3) = .ofNat 32 (min 0xFFFFFFFF ((c.rd (R.EVR_CNT 3)).toNat + 1))
  frame : Only [Blk.sys, Blk.evr] c c'

/-- What has been seen of a bus error depends on the register table alone. -/
theorem BusErrorSeen.of_regs {c c₀ c' c₁ : Chip} {write : Bool} {rq : Req} {sy : Syndrome} {a : Nat}
    (h : BusErrorSeen c₀ c₁ write rq sy a) (h₀ : c₀.regs = c.regs) (h₁ : c'.regs = c₁.regs) : BusErrorSeen c c' write rq sy a := by
  have e₀ : ∀ b, c₀.rd b = c.rd b := fun b => by rw [Chip.rd, h₀, Chip.rd]
  have e₁ : ∀ b, c'.rd b = c₁.rd b := fun b => by rw [Chip.rd, h₁, Chip.rd]
  obtain ⟨hs, ha, hw, hr, hn, he, hf⟩ := h
  constructor
  · simpa only [Chip.fget, e₁] using hs
  · simpa only [e₁] using ha
  · simpa only [Chip.fget, e₁] using hw
  · simpa only [Chip.fget, e₁] using hr
  · simpa only [e₀, e₁] using hn
  · simpa only [e₀, e₁] using he
  · intro b hb
    rw [e₁, hf b hb, e₀]

/-- The word that SYS_BUSFAULT shows of a bus error. -/
def busFaultWord (write : Bool) (rq : Req) (sy : Syndrome) : Word :=
  F.SYS_BUSFAULT_SYNDROME.put (F.SYS_BUSFAULT_REQUESTER.put (F.SYS_BUSFAULT_WRITE.of write.toNat) rq.code) sy.code

theorem busFaultWord_fields (write : Bool) (rq : Req) (sy : Syndrome) :
    F.SYS_BUSFAULT_SYNDROME.get (busFaultWord write rq sy) = sy.code ∧
    F.SYS_BUSFAULT_WRITE.get (busFaultWord write rq sy) = write.toNat ∧
    F.SYS_BUSFAULT_REQUESTER.get (busFaultWord write rq sy) = rq.code := by
  cases write <;> cases rq <;> cases sy <;> decide

/-- The registers of a bus error before its event is raised. -/
def Chip.faultNoted (c : Chip) (write : Bool) (rq : Req) (sy : Syndrome) (a : Nat) : Chip :=
  ((c.wr R.SYS_BUSFAULT (busFaultWord write rq sy)).wr R.SYS_BUSFAULT_ADDR (.ofNat 32 a)).bump R.SYS_BUSFAULT_CNT

theorem Chip.awake_faultNoted {c : Chip} (write : Bool) (rq : Req) (sy : Syndrome) (a : Nat) (h : c.awake = true) :
    (c.faultNoted write rq sy a).awake = true := by
  refine Chip.awake_of_rd ?_ h
  rw [Chip.faultNoted, Chip.rd_bump_ne _ _ (by decide), Chip.rd_wr_ne _ _ (by decide), Chip.rd_wr_ne _ _ (by decide)]

/-- While the router is powered, a bus error is noted and its event raised at once. -/
theorem Chip.busError_powered {c : Chip} (write : Bool) (rq : Req) (sy : Syndrome) (a : Nat) (h : c.awake = true) :
    c.busError write rq sy a = (c.faultNoted write rq sy a).raise 3 := by
  show (c.faultNoted write rq sy a).raiseEver 3 = _
  rw [Chip.raiseEver, if_neg ((Chip.awake_iff _).1 (Chip.awake_faultNoted write rq sy a h))]

theorem Only.faultNoted (c : Chip) (write : Bool) (rq : Req) (sy : Syndrome) (a : Nat) :
    Only [Blk.sys, Blk.evr] c (c.faultNoted write rq sy a) :=
  ((Only.wr c _ _ ⟨Blk.sys, by simp, by decide⟩).trans (Only.wr _ _ _ ⟨Blk.sys, by simp, by decide⟩)).trans
    (Only.bump _ _ _ ⟨Blk.sys, by simp, by decide⟩)

/-- A bus error in a powered module. -/
theorem Chip.busError_seen {c : Chip} (write : Bool) (rq : Req) (sy : Syndrome) (a : Nat) (h : c.awake = true) :
    BusErrorSeen c (c.busError write rq sy a) write rq sy a := by
  obtain ⟨hs, hw, hr⟩ := busFaultWord_fields write rq sy
  have hk : (c.faultNoted write rq sy a).awake = true := Chip.awake_faultNoted write rq sy a h
  have keep : ∀ b, b < R.SYS_BLK_POWER 0 → ((c.faultNoted write rq sy a).raise 3).rd b = (c.faultNoted write rq sy a).rd b := by
    intro b hb
    simp only [R.SYS_BLK_POWER] at hb
    apply Chip.rd_raise_ne <;> simp only [R.SYS_BLK_POWER, R.EVR_CNT, R.EVR_MERGE_CNT] <;> omega
  have word : ((c.faultNoted write rq sy a).raise 3).rd R.SYS_BUSFAULT = busFaultWord write rq sy := by
    rw [keep _ (by decide), Chip.faultNoted, Chip.rd_bump_ne _ _ (by decide), Chip.rd_wr_ne _ _ (by decide), Chip.rd_wr_self]
  rw [Chip.busError_powered write rq sy a h]
  constructor
  case syndrome => rw [Chip.fget, word, hs]
  case write => rw [Chip.fget, word, hw]
  case requester => rw [Chip.fget, word, hr]
  case addr => rw [keep _ (by decide), Chip.faultNoted, Chip.rd_bump_ne _ _ (by decide), Chip.rd_wr_self]
  case count =>
    rw [keep _ (by decide), Chip.faultNoted, Chip.rd_bump_self, Chip.rd_wr_ne _ _ (by decide), Chip.rd_wr_ne _ _ (by decide)]
  case event =>
    rw [Chip.rd_raise_cnt hk (by decide), Chip.faultNoted, Chip.rd_bump_ne _ _ (by decide), Chip.rd_wr_ne _ _ (by decide),
      Chip.rd_wr_ne _ _ (by decide)]
  case frame => exact (Only.faultNoted c write rq sy a).trans (Only.raise _ (by decide))

@[simp] theorem Chip.coreTrap_regs (c : Chip) (rq : Req) (cause a : Nat) : (c.coreTrap rq cause a).regs = c.regs := by
  unfold Chip.coreTrap
  split <;> rfl

@[simp] theorem Chip.respOf_coreTrap (c : Chip) (rq rq' : Req) (cause a : Nat) : (c.coreTrap rq cause a).respOf rq' = c.respOf rq' := by
  unfold Chip.coreTrap
  split <;> rfl

/-- A read that fails completes with its syndrome as a bus error. -/
theorem Chip.respOf_failRead (c : Chip) (rq : Req) (sy : Syndrome) (a : Nat) : (c.failRead rq sy a).respOf rq = ⟨a, 0, sy.code⟩ := by
  rw [Chip.failRead, Chip.respOf_coreTrap, Chip.respOf_answer_self]

theorem Chip.failRead_seen {c : Chip} (rq : Req) (sy : Syndrome) (a : Nat) (h : c.awake = true) :
    BusErrorSeen c (c.failRead rq sy a) false rq sy a :=
  (Chip.busError_seen false rq sy a h).of_regs rfl (by simp [Chip.failRead])

end Sys2Proof.Machine
end

section
/-! SUPPORT. What an access to the alias region comes to: a bus error, an answer at once, or a write that lands at once (R35 to R40). -/

namespace Sys2Proof.Machine
open Sys2Proof

/-! ### The alias region (R35) -/

theorem region_alias_iff (a : Nat) : region a = .alias_ ↔ 0x60000000 ≤ a ∧ a < 0x70000000 := by
  unfold region
  constructor
  · intro h
    by_contra hn
    rw [if_neg hn] at h
    split_ifs at h
  · intro h
    have h₁ : ¬ a < 0x20000 := by omega
    have h₂ : ¬ (0x10000000 ≤ a ∧ a < 0x11000000) := by omega
    have h₃ : ¬ inSram a = true := by
      simp only [inSram, Bool.and_eq_true, decide_eq_true_eq]
      omega
    rw [if_neg h₁, if_neg h₂, if_neg h₃, if_pos h]

theorem isAlias_of_region {a : Nat} (h : region a = .alias_) : isAlias a = true := by
  simpa [isAlias] using (region_alias_iff a).1 h

theorem target_of_region {a : Nat} (h : region a = .alias_) : target a = (aliasOf a).1 := by
  rw [target, if_pos (isAlias_of_region h)]

theorem badSize_true {w : Width} {a : Nat} (h : w ≠ .word ∨ a % 4 ≠ 0) : badSize w a = true := by simpa [badSize] using h

theorem badSize_word_aligned {a : Nat} (h : a % 4 = 0) : badSize .word a = false := by simp [badSize, h]

/-! ### The mode of an access (R271) changes nothing that the access looks at -/

section
variable (c : Chip) (rq : Req) (u : Bool)

@[simp] theorem Chip.inMode_regs : (c.inMode rq u).regs = c.regs := by unfold Chip.inMode; split <;> rfl
@[simp] theorem Chip.inMode_rd (a : Nat) : (c.inMode rq u).rd a = c.rd a := by unfold Chip.inMode; split <;> rfl
@[simp] theorem Chip.inMode_flag (a : Nat) (f : Fld) : (c.inMode rq u).flag a f = c.flag a f := by unfold Chip.inMode; split <;> rfl
@[simp] theorem Chip.inMode_awake : (c.inMode rq u).awake = c.awake := by unfold Chip.inMode; split <;> rfl
@[simp] theorem Chip.inMode_stalled (rq' : Req) : (c.inMode rq u).stalled rq' = c.stalled rq' := by unfold Chip.inMode; split <;> rfl
@[simp] theorem Chip.inMode_linkUp (d : Nat) : (c.inMode rq u).linkUp d = c.linkUp d := by unfold Chip.inMode; split <;> rfl
@[simp] theorem Chip.inMode_inStep (d : Nat) : (c.inMode rq u).inStep d = c.inStep d := by unfold Chip.inMode; split <;> rfl
@[simp] theorem Chip.inMode_outstanding (rq' : Req) : (c.inMode rq u).outstanding rq' = c.outstanding rq' := by
  unfold Chip.inMode; split <;> rfl

end

/-! ### An alias row whose access is let through -/

theorem State.guarded_passes {s : State} {rq : Req} {u : Bool} {a n bit : Nat} (f : State → State) (h : s.chip.passes rq u a n bit = true) :
    s.guarded rq u a n bit f = f (s.onChip (·.inMode rq u)) := by
  rcases State.guarded_cases s rq u a n bit f with ⟨_, h'⟩ | ⟨h', _⟩
  · exact h'
  · exact absurd h (by simp [h'])

/-- What a read of an alias address does to the module. -/
def Chip.aliasRead (c : Chip) (rq : Req) (w : Width) (a : Nat) : Chip :=
  if badSize w a then c.failRead rq .size a else if inBlock (aliasOf a).1 then c.periphRead rq a else c.failRead rq .decode a

/-- What a write of an alias address does to the module. -/
def Chip.aliasWrite (c : Chip) (rq : Req) (w : Width) (a : Nat) (x : Word) : Chip :=
  if badSize w a then c.busError true rq .size a else if inBlock (aliasOf a).1 then c.periphWrite rq a x else c.busError true rq .decode a

theorem State.busRead_alias (s : State) (rq : Req) (w : Width) {a : Nat} (h : region a = .alias_) :
    s.busRead rq w a = s.onChip (·.aliasRead rq w a) := by
  simp only [State.busRead, h]
  rfl

theorem State.busWrite_alias (s : State) (rq : Req) (w : Width) {a : Nat} (x : Word) (h : region a = .alias_) :
    s.busWrite rq w a x = s.onChip (·.aliasWrite rq w a x) := by
  simp only [State.busWrite, h]
  rfl

theorem exec_aliasRead {s : State} {rq : Req} {u : Bool} {w : Width} {addr : Word} (hr : region addr.toNat = .alias_)
    (hp : s.chip.passes rq u addr.toNat (widthBytes w) 0 = true) :
    exec (.aliasRead rq u w addr) s = .next { s with chip := (s.chip.inMode rq u).aliasRead rq w addr.toNat } := by
  show Host.Outcome.next (s.guarded rq u addr.toNat (widthBytes w) 0 fun s => s.busRead rq w addr.toNat) = _
  rw [State.guarded_passes _ hp, State.busRead_alias _ _ _ hr]
  rfl

theorem exec_aliasWrite {s : State} {rq : Req} {u : Bool} {w : Width} {addr : Word} (data : Word) (hr : region addr.toNat = .alias_)
    (hp : s.chip.passes rq u addr.toNat (widthBytes w) 1 = true) :
    exec (.aliasWrite rq u w addr data) s = .next { s with chip := (s.chip.inMode rq u).aliasWrite rq w addr.toNat data } := by
  show Host.Outcome.next (if region addr.toNat = .alias_ then
    s.guarded rq u addr.toNat (widthBytes w) 1 fun s => s.busWrite rq w addr.toNat data else s) = _
  rw [if_pos hr, State.guarded_passes _ hp, State.busWrite_alias _ _ _ _ hr]
  rfl

theorem Chip.aliasRead_size (c : Chip) (rq : Req) {w : Width} {a : Nat} (h : w ≠ .word ∨ a % 4 ≠ 0) :
    c.aliasRead rq w a = c.failRead rq .size a := by
  rw [Chip.aliasRead, if_pos (badSize_true h)]

theorem Chip.aliasWrite_size (c : Chip) (rq : Req) {w : Width} {a : Nat} (x : Word) (h : w ≠ .word ∨ a % 4 ≠ 0) :
    c.aliasWrite rq w a x = c.busError true rq .size a := by
  rw [Chip.aliasWrite, if_pos (badSize_true h)]

theorem Chip.aliasRead_decode (c : Chip) (rq : Req) {a : Nat} (h : a % 4 = 0) (hb : inBlock (aliasOf a).1 = false) :
    c.aliasRead rq .word a = c.failRead rq .decode a := by
  simp [Chip.aliasRead, badSize_word_aligned h, hb]

theorem Chip.aliasWrite_decode (c : Chip) (rq : Req) {a : Nat} (x : Word) (h : a % 4 = 0) (hb : inBlock (aliasOf a).1 = false) :
    c.aliasWrite rq .word a x = c.busError true rq .decode a := by
  simp [Chip.aliasWrite, badSize_word_aligned h, hb]

theorem Chip.aliasRead_block (c : Chip) (rq : Req) {a : Nat} (h : a % 4 = 0) (hb : inBlock (aliasOf a).1 = true) :
    c.aliasRead rq .word a = c.periphRead rq a := by
  simp [Chip.aliasRead, badSize_word_aligned h, hb]

theorem Chip.aliasWrite_block (c : Chip) (rq : Req) {a : Nat} (x : Word) (h : a % 4 = 0) (hb : inBlock (aliasOf a).1 = true) :
    c.aliasWrite rq .word a x = c.periphWrite rq a x := by
  simp [Chip.aliasWrite, badSize_word_aligned h, hb]

/-! ### Clock gating (R59) -/

theorem Chip.touch_of_ungated (c : Chip) {a : Nat} (h : blockOf a = none) : c.touch a = c := by rw [Chip.touch, h]

theorem blockOf_lt {a b : Nat} (h : blockOf a = some b) : b < 19 := by
  unfold blockOf at h
  split_ifs at h <;> cases h <;> omega

/-- Restarting a block's clock shows in the system block alone. -/
theorem Only.touch (c : Chip) (a : Nat) : Only [Blk.sys] c (c.touch a) := by
  unfold Chip.touch
  split
  case h_1 b hb =>
    have := blockOf_lt hb
    refine Only.fset c _ _ _ ⟨Blk.sys, by simp, ?_⟩
    simp only [Blk.sys, R.SYS_BLK_POWER]
    omega
  case h_2 => exact Only.refl _ c

/-! ### An aligned word access of a requester that is not held -/

/-- The word that a read of alias address a answers: the bit of its target. -/
def Chip.aliasBit (c : Chip) (rq : Req) (a : Nat) : Word := .ofNat 32 ((c.peek rq (aliasOf a).1).toNat.testBit (aliasOf a).2).toNat

theorem Chip.farRead_alias (c : Chip) (rq : Req) {a : Nat} (h : region a = .alias_) : c.farRead rq a = (c.aliasBit rq a, c) := by
  rw [Chip.farRead, if_pos (isAlias_of_region h)]
  rfl

theorem Chip.applyWrite_alias (c : Chip) (rq : Req) {a : Nat} (x : Word) (h : region a = .alias_) :
    c.applyWrite rq a x = c.bitWrite rq (aliasOf a).1 (aliasOf a).2 x := by
  rw [Chip.applyWrite, if_pos (isAlias_of_region h)]

section
variable {c : Chip} {rq : Req} {a : Nat}

/-- An alias of the control die answers at once. -/
theorem Chip.periphRead_alias_near (ha : region a = .alias_) (hw : c.awake = true) (hs : c.stalled rq = false)
    (hd : dieOf (aliasOf a).1 = 0) :
    c.periphRead rq a = (c.touch (aliasOf a).1).answer rq a ((c.touch (aliasOf a).1).aliasBit rq a) := by
  rw [Chip.periphRead, Chip.access_free _ hs]
  simp [Chip.issue, Chip.readNow, target_of_region ha, Chip.blockOff_awake _ hw, hd, Chip.farRead_alias _ rq ha]

/-- An alias of a remote die whose link is up and in step answers at once. -/
theorem Chip.periphRead_alias_far (ha : region a = .alias_) (hw : c.awake = true) (hs : c.stalled rq = false)
    (hd : dieOf (aliasOf a).1 ≠ 0) (hl : c.linkUp (dieOf (aliasOf a).1) = true) (hi : c.inStep (dieOf (aliasOf a).1) = true) :
    ∃ c' : Chip, c'.regs = c.regs ∧ c.periphRead rq a = c'.answer rq a (c'.aliasBit rq a) := by
  rw [Chip.periphRead, Chip.access_free _ hs]
  simp only [Chip.issue, Chip.readNow, target_of_region ha, Chip.blockOff_awake _ hw, hd, hl, hi, Chip.farRead_alias _ rq ha,
    Bool.not_true, Bool.false_eq_true, reduceIte]
  refine ⟨_, ?_, rfl⟩
  rfl

/-- A write to an alias of the control die lands there at once. -/
theorem Chip.periphWrite_alias_near (x : Word) (ha : region a = .alias_) (hw : c.awake = true) (hs : c.stalled rq = false)
    (hd : dieOf (aliasOf a).1 = 0) :
    c.periphWrite rq a x = (c.touch (aliasOf a).1).bitWrite rq (aliasOf a).1 (aliasOf a).2 x := by
  rw [Chip.periphWrite, Chip.access_free _ hs]
  simp [Chip.issue, Chip.writeNow, target_of_region ha, Chip.blockOff_awake _ hw, hd, Chip.applyWrite_alias _ rq x ha]

/-- A write to an alias of a remote die whose link takes it at once lands there, counted in the die's ORDER_TOKEN (R67). -/
theorem Chip.periphWrite_alias_far (x : Word) (ha : region a = .alias_) (hw : c.awake = true) (hs : c.stalled rq = false)
    (hd : dieOf (aliasOf a).1 ≠ 0) (hl : c.linkUp (dieOf (aliasOf a).1) = true) (hi : c.inStep (dieOf (aliasOf a).1) = true)
    (ho : c.outstanding rq < 8) :
    ∃ c' : Chip, c'.regs = (c.bumpWrap (tokenAddr (dieOf (aliasOf a).1))).regs ∧
      c.periphWrite rq a x = c'.bitWrite rq (aliasOf a).1 (aliasOf a).2 x := by
  rw [Chip.periphWrite, Chip.access_free _ hs]
  simp only [Chip.issue, Chip.writeNow, target_of_region ha, Chip.blockOff_awake _ hw, hd, hl, Nat.not_le.mpr ho, Chip.post, hi,
    Chip.landed, Chip.applyWrite_alias _ rq x ha, Bool.not_true, Bool.false_eq_true, reduceIte]
  refine ⟨_, ?_, rfl⟩
  rfl

end

/-! ### Unassigned offsets (R6, R40) -/

/-- No register stands at address t, and it is no word of the Faceplate window. -/
structure Unassigned (t : Nat) : Prop where
  noReg : findReg t = none
  noFaceplate : t < 0x40038000 ∨ 0x40039000 ≤ t

theorem Chip.peek_unassigned (c : Chip) (rq : Req) {t : Nat} (h : Unassigned t) : c.peek rq t = 0 := by
  have hf : ¬ (0x40038000 ≤ t ∧ t < 0x40039000) := by
    have := h.noFaceplate
    omega
  rw [Chip.peek, if_neg hf]
  simp only [h.noReg]

theorem Chip.aliasBit_unassigned (c : Chip) (rq : Req) {a : Nat} (h : Unassigned (aliasOf a).1) : c.aliasBit rq a = 0 := by
  rw [Chip.aliasBit, c.peek_unassigned rq h]
  simp

/-- A write of a bit at an unassigned offset is ignored, but a remote die counts one that is not the supervisor's (R34). -/
theorem Chip.bitWrite_unassigned (c : Chip) (rq : Req) {t : Nat} (bit : Nat) (x : Word) (h : findReg t = none) :
    c.bitWrite rq t bit x = if dieOf t ≠ 0 ∧ rq ≠ .sup then c.foreign rq t x else c := by
  simp only [Chip.bitWrite, h]

end Sys2Proof.Machine
end

section
/-! SUPPORT. The Grain log keeps to its own registers and to the event it raises (R470 to R476): a record of a refused write changes no
register of a remote die. -/

namespace Sys2Proof.Machine
open Sys2Proof

/-- The blocks that a record of the Grain log changes. -/
def logBlks : List (Nat × Nat) := [Blk.sys, Blk.evr, Blk.sec]

theorem Only.log_raise (c : Chip) {k : Nat} (h : k < 256) : Only logBlks c (c.raise k) := (Only.raise c h).mono (by simp [logBlks])
theorem Only.log_setGrain (c : Chip) (g : Grain) : Only logBlks c (c.setGrain g) := Only.of_regs rfl
theorem Only.log_wr (c : Chip) {a : Nat} (x : Word) (h : 0x400C0000 ≤ a ∧ a < 0x40100000) : Only logBlks c (c.wr a x) :=
  Only.wr c a x ⟨Blk.sec, by simp [logBlks], h⟩
theorem Only.log_fset (c : Chip) {a : Nat} (f : Fld) (v : Nat) (h : 0x400C0000 ≤ a ∧ a < 0x40100000) : Only logBlks c (c.fset a f v) :=
  Only.log_wr c _ h

theorem Only.ite {l : List (Nat × Nat)} {c c₁ c₂ : Chip} (p : Prop) [Decidable p] (h₁ : Only l c c₁) (h₂ : Only l c c₂) :
    Only l c (if p then c₁ else c₂) := by
  split
  · exact h₁
  · exact h₂

theorem Only.logSync (c : Chip) : Only logBlks c c.logSync :=
  (((Only.log_wr c _ (by decide)).trans (Only.log_wr _ _ (by decide))).trans (Only.log_fset _ _ _ (by decide))).trans
    (Only.log_wr _ _ (by decide))

theorem Only.logWrite (c : Chip) (typ : Nat) (pay : BitVec 128) (reserve late : Bool) : Only logBlks c (c.logWrite typ pay reserve late) :=
  (Only.log_setGrain c _).trans (Only.logSync _)

theorem Only.checkFull (c : Chip) : Only logBlks c c.checkFull :=
  Only.ite _ (Only.refl _ c) ((Only.log_fset c _ _ (by decide)).trans (Only.log_raise _ (by decide)))

theorem Only.logLost (c : Chip) : Only logBlks c c.logLost := (Only.log_wr c _ (by decide)).trans (Only.log_setGrain _ _)

theorem Only.logReserve (c : Chip) (typ : Nat) (pay : BitVec 128) (late : Bool) : Only logBlks c (c.logReserve typ pay late) :=
  Only.ite _ ((Only.logWrite c typ pay true late).trans (Only.checkFull _)) (Only.logLost c)

theorem Only.logFold (c : Chip) (typ : Nat) : Only logBlks c (c.logFold typ) := (Only.log_setGrain c _).trans (Only.logSync _)

theorem Only.beginFolding (c : Chip) : Only logBlks c c.beginFolding :=
  Only.ite _ (Only.refl _ c) (((Only.log_fset c _ _ (by decide)).trans (Only.logReserve _ _ _ _)).trans (Only.log_raise _ (by decide)))

theorem Only.logAdd (c : Chip) (typ : Nat) (pay : BitVec 128) (late : Bool) : Only logBlks c (c.logAdd typ pay late) := by
  unfold Chip.logAdd
  split
  case isTrue => -- the ring is being erased: the record is held, folded or lost
    exact Only.ite _ (Only.log_setGrain c _) (Only.ite _ (Only.logFold c typ) (Only.logLost c))
  case isFalse => -- the record goes to the main ring; in a full one it is folded, or goes to the reserve
    refine Only.ite _ (Only.logWrite c typ pay false late) ((Only.beginFolding c).trans ?_)
    exact Only.ite _ (Only.logFold _ typ) (Only.logReserve _ typ pay late)

/-! ### Seals and attestations that a record lets start (R461, R473) -/

theorem Only.startSeal (c : Chip) : Only logBlks c c.startSeal :=
  Only.ite _ (Only.logAdd c _ _ _) (((Only.logAdd c _ _ _).trans (Only.log_setGrain _ _)).trans (Only.log_fset _ _ _ (by decide)))

theorem Only.takeSeal (c : Chip) : Only logBlks c c.takeSeal := (Only.log_setGrain c _).trans (Only.startSeal _)

theorem Only.takeAttest (c : Chip) : Only logBlks c c.takeAttest := by
  unfold Chip.takeAttest
  split
  · exact Only.of_regs rfl
  · exact Only.refl _ c

theorem Only.nextJob (c : Chip) : Only logBlks c c.nextJob := by
  have sealed (p : Prop) [Decidable p] : Only logBlks c (if p then c.takeSeal else c) := Only.ite _ (Only.takeSeal c) (Only.refl _ c)
  exact Only.ite _ (Only.refl _ c) (Only.ite _ (sealed _) ((sealed _).trans (Only.takeAttest _)))

theorem Only.sealDue (c : Chip) : Only logBlks c c.sealDue := (Only.log_setGrain c _).trans (Only.nextJob _)

theorem Only.log (c : Chip) (typ : Nat) (pay : BitVec 128) (late : Bool) : Only logBlks c (c.log typ pay late) :=
  Only.ite _ (Only.ite _ ((Only.logAdd c typ pay late).trans (Only.sealDue _)) (Only.logAdd c typ pay late)) (Only.log_setGrain c _)

/-! ### Refused writes (R34, R50, R466) -/

theorem Only.refusedWrite (c : Chip) (rq : Req) (kind addr : Nat) (data : Word) : Only logBlks c (c.refusedWrite rq kind addr data) :=
  Only.ite _ (Only.log_setGrain c _) ((Only.log_setGrain c _).trans (Only.log _ _ _ _))

theorem Only.sealRefused (c : Chip) (rq : Req) (a : Nat) (x : Word) : Only logBlks c (c.sealRefused rq a x) :=
  Only.ite _ (Only.refusedWrite c rq 1 a x) (Only.refl _ c)

/-- A write that a remote die ignores changes its FOREIGN_WR_CNT, and no other register of a remote die. -/
theorem Chip.rd_foreign (c : Chip) (rq : Req) (t : Nat) (x : Word) {a : Nat} (hf : a ≠ foreignCnt (dieOf t))
    (hd : 0x40100000 ≤ a ∧ a < 0x40800000) : (c.foreign rq t x).rd a = c.rd a := by
  have out : ∀ y ∈ logBlks, ¬ (y.1 ≤ a ∧ a < y.2) := by
    simp [logBlks, Blk.sys, Blk.evr, Blk.sec]
    omega
  exact (Only.sealRefused _ rq t x a out).trans (Chip.rd_fset_ne c _ _ hf)

end Sys2Proof.Machine
end

section
/-! SUPPORT. The alias of a core's MSIP, a register's bit that alias accesses reach (R36, R38). -/

namespace Sys2Proof.Machine
open Sys2Proof

/-- The alias word of the MSIP bit of core k. -/
def msipAlias (k : Fin 4) : Nat := 0x60000000 + (R.SYS_MSIP k - 0x40000000) * 32

section
variable (k : Fin 4)

theorem msipAlias_toNat : (BitVec.ofNat 32 (msipAlias k)).toNat = msipAlias k := by revert k; decide
theorem region_msipAlias : region (msipAlias k) = .alias_ := by revert k; decide
theorem msipAlias_aligned : msipAlias k % 4 = 0 := by revert k; decide
theorem aliasOf_msipAlias : aliasOf (msipAlias k) = (R.SYS_MSIP k, 0) := by revert k; decide
theorem inBlock_msip : inBlock (R.SYS_MSIP k) = true := by revert k; decide
theorem dieOf_msip : dieOf (R.SYS_MSIP k) = 0 := by revert k; decide
theorem blockOf_msip : blockOf (R.SYS_MSIP k) = none := by revert k; decide
theorem msip_lt : R.SYS_MSIP k < 0x40010000 := by revert k; decide

theorem findReg_msip : findReg (R.SYS_MSIP k) = some (⟨.SYS_MSIP, 0x40000430, [(4, 0x4, 0)], 1, 0, 0, 0, 0, 0⟩, [k.val]) := by
  fin_cases k <;> rfl

end

/-- MSIP is bit 0 of its register. -/
theorem msip_get (x : Word) : F.SYS_MSIP_MSIP.get x = (x.getLsbD 0).toNat := by
  simp only [Fld.get, F.SYS_MSIP_MSIP, BitVec.getLsbD, Nat.toNat_testBit, Nat.pow_one]

theorem Chip.peek_msip (c : Chip) (rq : Req) (k : Fin 4) : c.peek rq (R.SYS_MSIP k) = c.rd (R.SYS_MSIP k) := by
  have hf : ¬ (0x40038000 ≤ R.SYS_MSIP k ∧ R.SYS_MSIP k < 0x40039000) := by
    have := msip_lt k
    omega
  rw [Chip.peek, if_neg hf, findReg_msip]
  rfl

theorem ofNat_testBit_zero (x : Word) : BitVec.ofNat 32 (x.toNat.testBit 0).toNat = x &&& 1 := by
  apply BitVec.eq_of_toNat_eq
  rw [BitVec.toNat_and, BitVec.toNat_ofNat, Nat.toNat_testBit]
  simp [Nat.and_one_is_mod]
  omega

theorem Chip.aliasBit_msip (c : Chip) (rq : Req) (k : Fin 4) : c.aliasBit rq (msipAlias k) = c.rd (R.SYS_MSIP k) &&& 1 := by
  rw [Chip.aliasBit, aliasOf_msipAlias, Chip.peek_msip, ofNat_testBit_zero]

/-- The word MSIP's register holds after a write of x over old. -/
def msipMerge (old x : Word) : Word := (old &&& ~~~1) ||| (x &&& 1)

theorem msip_get_merge (old x : Word) : F.SYS_MSIP_MSIP.get (msipMerge old x) = F.SYS_MSIP_MSIP.get x := by
  rw [msip_get, msip_get]
  simp [msipMerge]

/-- A write that lands on MSIP's register, the lock group of the system block being open. -/
theorem Chip.regWrite_msip {c : Chip} (rq : Req) (k : Fin 4) (x : Word) (h : c.flag R.SYS_LOCK F.SYS_LOCK_LOCK = false) :
    c.regWrite rq (R.SYS_MSIP k) x = c.wr (R.SYS_MSIP k) (msipMerge (c.rd (R.SYS_MSIP k)) x) := by
  have hm := msip_lt k
  have h₁ : ¬ (0x400C0000 ≤ R.SYS_MSIP k) := by omega
  have h₂ : ¬ (0x40088000 ≤ R.SYS_MSIP k) := by omega
  have h₃ : ¬ (0x40030000 ≤ R.SYS_MSIP k) := by omega
  have hl : c.lockClosed (R.SYS_MSIP k) = false := by simp [Chip.lockClosed, h, h₃]
  simp [Chip.regWrite, findReg_msip, dieOf_msip, h₁, writerOk, h₂, ctrHalf, Chip.plainWrite, Chip.sealedReg, hl, mergeWord, openMask,
    regNorm, Chip.wrote, msipMerge]

/-- A write of the alias of MSIP, where it lands. -/
theorem Chip.bitWrite_msip {c : Chip} (rq : Req) (k : Fin 4) (x : Word) (h : c.flag R.SYS_LOCK F.SYS_LOCK_LOCK = false) :
    ∃ y, F.SYS_MSIP_MSIP.get y = x.toNat % 2 ∧ c.bitWrite rq (R.SYS_MSIP k) 0 x = c.wr (R.SYS_MSIP k) y := by
  refine ⟨msipMerge (c.rd (R.SYS_MSIP k)) (F.SYS_MSIP_MSIP.put (c.rd (R.SYS_MSIP k)) (x.toNat % 2)), ?_, ?_⟩
  · rw [msip_get_merge, Fld.get_put _ _ _ (by decide)]
    simp [F.SYS_MSIP_MSIP]
  · rw [← Chip.regWrite_msip rq k _ h]
    simp [Chip.bitWrite, findReg_msip, dieOf_msip, RegDesc.writes, ctrHalf, Chip.peek_msip, bitFld, F.SYS_MSIP_MSIP]

end Sys2Proof.Machine
end

section
/-! SUPPORT. The proof of O57: accesses to alias words that are not aligned words, of no block, of a register's bit, and of unassigned offsets
(R36, R40). -/

namespace Sys2Proof.Machine
open Sys2Proof

section
variable {rq : Req} {u : Bool} {s : State}

/-! ### Accesses that fail (R4, R6, R56) -/

/-- The mode of an access is no part of what is seen of a bus error. -/
theorem BusErrorSeen.inMode {c c' : Chip} {write : Bool} {sy : Syndrome} {a : Nat} (h : BusErrorSeen (c.inMode rq u) c' write rq sy a) :
    BusErrorSeen c c' write rq sy a := h.of_regs (Chip.inMode_regs c rq u) rfl

theorem aliasRead_fails_size {w : Width} {addr : Word} (hw : s.chip.awake = true) (hr : region addr.toNat = .alias_)
    (hp : s.chip.passes rq u addr.toNat (widthBytes w) 0 = true) (hb : w ≠ .word ∨ addr.toNat % 4 ≠ 0) :
    ∃ c', exec (.aliasRead rq u w addr) s = .next { s with chip := c' } ∧ c'.respOf rq = ⟨addr.toNat, 0, 2⟩ ∧
      BusErrorSeen s.chip c' false rq .size addr.toNat := by
  rw [exec_aliasRead hr hp, Chip.aliasRead_size _ rq hb]
  exact ⟨_, rfl, Chip.respOf_failRead _ rq .size _, (Chip.failRead_seen rq .size _ (by simpa using hw)).inMode⟩

theorem aliasRead_fails_decode {addr : Word} (hw : s.chip.awake = true) (hr : region addr.toNat = .alias_)
    (hp : s.chip.passes rq u addr.toNat 4 0 = true) (h4 : addr.toNat % 4 = 0) (hb : inBlock (aliasOf addr.toNat).1 = false) :
    ∃ c', exec (.aliasRead rq u .word addr) s = .next { s with chip := c' } ∧ c'.respOf rq = ⟨addr.toNat, 0, 1⟩ ∧
      BusErrorSeen s.chip c' false rq .decode addr.toNat := by
  rw [exec_aliasRead hr hp, Chip.aliasRead_decode _ rq h4 hb]
  exact ⟨_, rfl, Chip.respOf_failRead _ rq .decode _, (Chip.failRead_seen rq .decode _ (by simpa using hw)).inMode⟩

theorem aliasWrite_fails_size {w : Width} {addr : Word} (data : Word) (hw : s.chip.awake = true) (hr : region addr.toNat = .alias_)
    (hp : s.chip.passes rq u addr.toNat (widthBytes w) 1 = true) (hb : w ≠ .word ∨ addr.toNat % 4 ≠ 0) :
    ∃ c', exec (.aliasWrite rq u w addr data) s = .next { s with chip := c' } ∧ BusErrorSeen s.chip c' true rq .size addr.toNat := by
  rw [exec_aliasWrite data hr hp, Chip.aliasWrite_size _ rq data hb]
  exact ⟨_, rfl, (Chip.busError_seen true rq .size _ (by simpa using hw)).inMode⟩

theorem aliasWrite_fails_decode {addr : Word} (data : Word) (hw : s.chip.awake = true) (hr : region addr.toNat = .alias_)
    (hp : s.chip.passes rq u addr.toNat 4 1 = true) (h4 : addr.toNat % 4 = 0) (hb : inBlock (aliasOf addr.toNat).1 = false) :
    ∃ c', exec (.aliasWrite rq u .word addr data) s = .next { s with chip := c' } ∧ BusErrorSeen s.chip c' true rq .decode addr.toNat := by
  rw [exec_aliasWrite data hr hp, Chip.aliasWrite_decode _ rq data h4 hb]
  exact ⟨_, rfl, (Chip.busError_seen true rq .decode _ (by simpa using hw)).inMode⟩

/-! ### Accesses of MSIP's alias -/

theorem aliasRead_msip (k : Fin 4) (hw : s.chip.awake = true) (hs : s.chip.stalled rq = false)
    (hp : s.chip.passes rq u (msipAlias k) 4 0 = true) :
    ∃ c', exec (.aliasRead rq u .word (.ofNat 32 (msipAlias k))) s = .next { s with chip := c' } ∧
      c'.respOf rq = ⟨msipAlias k, s.chip.rd (R.SYS_MSIP k) &&& 1, 0⟩ ∧ Only [] s.chip c' := by
  have ha := aliasOf_msipAlias k
  have hp' : s.chip.passes rq u (BitVec.ofNat 32 (msipAlias k)).toNat (widthBytes .word) 0 = true := by rwa [msipAlias_toNat]
  have hr : region (BitVec.ofNat 32 (msipAlias k)).toNat = .alias_ := by rw [msipAlias_toNat]; exact region_msipAlias k
  have hread : (s.chip.inMode rq u).aliasRead rq .word (msipAlias k) =
      (s.chip.inMode rq u).answer rq (msipAlias k) (s.chip.rd (R.SYS_MSIP k) &&& 1) := by
    rw [Chip.aliasRead_block _ rq (msipAlias_aligned k) (by rw [ha]; exact inBlock_msip k),
      Chip.periphRead_alias_near (region_msipAlias k) (by simpa using hw) (by simpa using hs) (by rw [ha]; exact dieOf_msip k),
      Chip.touch_of_ungated _ (by rw [ha]; exact blockOf_msip k), Chip.aliasBit_msip, Chip.inMode_rd]
  have hexec := exec_aliasRead hr hp'
  rw [msipAlias_toNat, hread] at hexec
  exact ⟨_, hexec, Chip.respOf_answer_self _ _ _ _ _, Only.of_regs ((Chip.answer_regs _ _ _ _ _).trans (Chip.inMode_regs _ _ _))⟩

theorem aliasWrite_msip (k : Fin 4) (data : Word) (hw : s.chip.awake = true) (hs : s.chip.stalled rq = false)
    (hp : s.chip.passes rq u (msipAlias k) 4 1 = true) (hl : s.chip.flag R.SYS_LOCK F.SYS_LOCK_LOCK = false) :
    ∃ c', exec (.aliasWrite rq u .word (.ofNat 32 (msipAlias k)) data) s = .next { s with chip := c' } ∧
      c'.fget (R.SYS_MSIP k) F.SYS_MSIP_MSIP = data.toNat % 2 ∧ (∀ a, a ≠ R.SYS_MSIP k → c'.rd a = s.chip.rd a) := by
  have ha := aliasOf_msipAlias k
  obtain ⟨y, hy, hwrite⟩ := Chip.bitWrite_msip (c := s.chip.inMode rq u) rq k data (by simpa using hl)
  rw [exec_aliasWrite data (by rw [msipAlias_toNat]; exact region_msipAlias k) (by rw [msipAlias_toNat]; exact hp), msipAlias_toNat,
    Chip.aliasWrite_block _ rq data (msipAlias_aligned k) (by rw [ha]; exact inBlock_msip k),
    Chip.periphWrite_alias_near data (region_msipAlias k) (by simpa using hw) (by simpa using hs) (by rw [ha]; exact dieOf_msip k),
    Chip.touch_of_ungated _ (by rw [ha]; exact blockOf_msip k), ha, hwrite]
  refine ⟨_, rfl, ?_, fun a hne => ?_⟩
  · rw [Chip.fget_wr_self, hy]
  · rw [Chip.rd_wr_ne _ _ hne, Chip.inMode_rd]

/-! ### Accesses of unassigned offsets (R6, R34, R40) -/

section
variable {addr : Word} (hw : s.chip.awake = true) (hs : s.chip.stalled rq = false) (hr : region addr.toNat = .alias_)
  (h4 : addr.toNat % 4 = 0) (hb : inBlock (aliasOf addr.toNat).1 = true) (hu : Unassigned (aliasOf addr.toNat).1)
include hw hs hr h4 hb hu

theorem aliasRead_unassigned (hp : s.chip.passes rq u addr.toNat 4 0 = true)
    (hd : dieOf (aliasOf addr.toNat).1 = 0 ∨
      (s.chip.linkUp (dieOf (aliasOf addr.toNat).1) = true ∧ s.chip.inStep (dieOf (aliasOf addr.toNat).1) = true)) :
    ∃ c', exec (.aliasRead rq u .word addr) s = .next { s with chip := c' } ∧ c'.respOf rq = ⟨addr.toNat, 0, 0⟩ ∧
      Only [Blk.sys] s.chip c' := by
  have hw' : (s.chip.inMode rq u).awake = true := by simpa using hw
  have hs' : (s.chip.inMode rq u).stalled rq = false := by simpa using hs
  rw [exec_aliasRead hr hp, Chip.aliasRead_block _ rq h4 hb]
  by_cases hn : dieOf (aliasOf addr.toNat).1 = 0
  · rw [Chip.periphRead_alias_near hr hw' hs' hn, Chip.aliasBit_unassigned _ rq hu]
    refine ⟨_, rfl, Chip.respOf_answer_self _ _ _ _ _, ?_⟩
    have hm : Only [Blk.sys] s.chip (s.chip.inMode rq u) := Only.of_regs (by simp)
    exact (hm.trans (Only.touch _ _)).trans (Only.of_regs (Chip.answer_regs _ _ _ _ _))
  · obtain ⟨hl, hi⟩ := hd.resolve_left hn
    obtain ⟨c', hregs, hread⟩ := Chip.periphRead_alias_far (c := s.chip.inMode rq u) hr hw' hs' hn (by simpa using hl) (by simpa using hi)
    rw [hread, Chip.aliasBit_unassigned _ rq hu]
    exact ⟨_, rfl, Chip.respOf_answer_self _ _ _ _ _, Only.of_regs (by simp [hregs])⟩

variable (data : Word) (hp : s.chip.passes rq u addr.toNat 4 1 = true)
include hp

/-- At the control die such a write changes at most a block's clock state. -/
theorem aliasWrite_unassigned_near (hd : dieOf (aliasOf addr.toNat).1 = 0) :
    ∃ c', exec (.aliasWrite rq u .word addr data) s = .next { s with chip := c' } ∧ Only [Blk.sys] s.chip c' := by
  rw [exec_aliasWrite data hr hp, Chip.aliasWrite_block _ rq data h4 hb,
    Chip.periphWrite_alias_near data hr (by simpa using hw) (by simpa using hs) hd, Chip.bitWrite_unassigned _ rq _ data hu.noReg,
    if_neg (fun h => h.1 hd)]
  have hm : Only [Blk.sys] s.chip (s.chip.inMode rq u) := Only.of_regs (by simp)
  exact ⟨_, rfl, hm.trans (Only.touch _ _)⟩

/-- At a remote die that takes it at once it counts as landed, and the die takes it or, unless it is the supervisor's, counts it as
foreign. -/
theorem aliasWrite_unassigned_far (hd : dieOf (aliasOf addr.toNat).1 ≠ 0) (hl : s.chip.linkUp (dieOf (aliasOf addr.toNat).1) = true)
    (hi : s.chip.inStep (dieOf (aliasOf addr.toNat).1) = true) (ho : s.chip.outstanding rq < 8) :
    ∃ c' : Chip, (∀ a, a ≠ tokenAddr (dieOf (aliasOf addr.toNat).1) → c'.rd a = s.chip.rd a) ∧
      exec (.aliasWrite rq u .word addr data) s =
        .next { s with chip := if rq ≠ .sup then c'.foreign rq (aliasOf addr.toNat).1 data else c' } := by
  obtain ⟨c', hregs, hwrite⟩ := Chip.periphWrite_alias_far (c := s.chip.inMode rq u) data hr (by simpa using hw) (by simpa using hs) hd
    (by simpa using hl) (by simpa using hi) (by simpa using ho)
  refine ⟨c', fun a ha => ?_, ?_⟩
  · rw [Chip.rd, hregs]
    exact (Chip.rd_wr_ne _ _ ha).trans (Chip.inMode_rd _ _ _ _)
  · rw [exec_aliasWrite data hr hp, Chip.aliasWrite_block _ rq data h4 hb, hwrite, Chip.bitWrite_unassigned _ rq _ data hu.noReg]
    simp only [hd, ne_eq, not_false_eq_true, true_and]

theorem aliasWrite_unassigned_ignored
    (hd : dieOf (aliasOf addr.toNat).1 = 0 ∨ (rq = .sup ∧ s.chip.linkUp (dieOf (aliasOf addr.toNat).1) = true ∧
      s.chip.inStep (dieOf (aliasOf addr.toNat).1) = true ∧ s.chip.outstanding rq < 8)) :
    ∃ c', exec (.aliasWrite rq u .word addr data) s = .next { s with chip := c' } ∧
      ∀ a, a ≠ tokenAddr (dieOf (aliasOf addr.toNat).1) → (a < 0x40000000 ∨ 0x40010000 ≤ a) → c'.rd a = s.chip.rd a := by
  by_cases hn : dieOf (aliasOf addr.toNat).1 = 0
  · obtain ⟨c', hexec, honly⟩ := aliasWrite_unassigned_near hw hs hr h4 hb hu data hp hn
    refine ⟨c', hexec, fun a _ ha => honly a ?_⟩
    simp only [Blk.sys, List.forall_mem_cons, List.not_mem_nil, false_imp_iff, implies_true, and_true]
    omega
  · obtain ⟨hsup, hl, hi, ho⟩ := hd.resolve_left hn
    obtain ⟨c', hkeep, hexec⟩ := aliasWrite_unassigned_far hw hs hr h4 hb hu data hp hn hl hi ho
    rw [if_neg (not_not_intro hsup)] at hexec
    exact ⟨c', hexec, fun a ha _ => hkeep a ha⟩

theorem aliasWrite_unassigned_foreign (hd : dieOf (aliasOf addr.toNat).1 ≠ 0) (hrq : rq ≠ .sup)
    (hl : s.chip.linkUp (dieOf (aliasOf addr.toNat).1) = true) (hi : s.chip.inStep (dieOf (aliasOf addr.toNat).1) = true)
    (ho : s.chip.outstanding rq < 8) :
    ∃ c', exec (.aliasWrite rq u .word addr data) s = .next { s with chip := c' } ∧
      ∀ a, a ≠ tokenAddr (dieOf (aliasOf addr.toNat).1) → a ≠ foreignCnt (dieOf (aliasOf addr.toNat).1) →
        0x40100000 ≤ a ∧ a < 0x40800000 → c'.rd a = s.chip.rd a := by
  obtain ⟨c', hkeep, hexec⟩ := aliasWrite_unassigned_far hw hs hr h4 hb hu data hp hd hl hi ho
  rw [if_pos hrq] at hexec
  exact ⟨_, hexec, fun a ht hf ha => (c'.rd_foreign rq _ data hf ha).trans (hkeep a ht)⟩

end

end

/-- Settles O57, clause by clause: accesses that fail with a bus error, accesses of MSIP's alias, accesses of unassigned offsets. -/
theorem aliasesFailOrReadZeroWhereNothingIs : Obligations.AliasesFailOrReadZeroWhereNothingIs := by
  unfold Obligations.AliasesFailOrReadZeroWhereNothingIs
  refine ⟨?readSize, ?writeSize, ?readMsip, ?writeMsip, ?readDecode, ?writeDecode, ?readZero, ?writeIgnored, ?writeForeign⟩
  case readSize =>
    intro rq u w addr s hw hr hp hb
    obtain ⟨c', hexec, hresp, hs, ha, hwr, hrq, hn, he, hf⟩ := aliasRead_fails_size hw hr hp hb
    exact ⟨c', hexec, hresp, hs, by simpa using ha, hwr, hrq, hn, he, hf⟩
  case writeSize =>
    intro rq u w addr data s hw hr hp hb
    obtain ⟨c', hexec, hs, ha, hwr, hrq, hn, he, hf⟩ := aliasWrite_fails_size data hw hr hp hb
    exact ⟨c', hexec, hs, by simpa using ha, hwr, hrq, hn, he, hf⟩
  case readMsip => exact fun rq u k s hw hs hp => aliasRead_msip k hw hs hp
  case writeMsip => exact fun rq u k data s hw hs hp hl => aliasWrite_msip k data hw hs hp hl
  case readDecode =>
    intro rq u addr s hw hr hp h4 hb
    obtain ⟨c', hexec, hresp, hs, ha, hwr, hrq, hn, he, hf⟩ := aliasRead_fails_decode hw hr hp h4 hb
    exact ⟨c', hexec, hresp, hs, by simpa using ha, hwr, hrq, hn, he, hf⟩
  case writeDecode =>
    intro rq u addr data s hw hr hp h4 hb
    obtain ⟨c', hexec, hs, ha, hwr, hrq, hn, he, hf⟩ := aliasWrite_fails_decode data hw hr hp h4 hb
    exact ⟨c', hexec, hs, by simpa using ha, hwr, hrq, hn, he, hf⟩
  case readZero =>
    intro rq u addr s hw hs hr hp h4 hb hn hf hd
    exact aliasRead_unassigned hw hs hr h4 hb ⟨hn, hf⟩ hp (hd.imp_right fun ⟨hl, hi, _⟩ => ⟨hl, hi⟩)
  case writeIgnored =>
    intro rq u addr data s hw hs hr hp h4 hb hn hf hd
    exact aliasWrite_unassigned_ignored hw hs hr h4 hb ⟨hn, hf⟩ data hp hd
  case writeForeign =>
    intro rq u addr data s hw hs hr hp h4 hb hn hf hd hrq ⟨hl, hi, ho⟩
    exact aliasWrite_unassigned_foreign hw hs hr h4 hb ⟨hn, hf⟩ data hp hd hrq hl hi ho

end Sys2Proof.Machine
end

section
/-! SUPPORT. A field of a word as a register stores it: the bits a write may change are the written ones (R42), and a field whose 0 reads
back as 1. -/

namespace Sys2Proof

/-- A field that stores 1 for 0 holds the greater of 1 and its value. -/
theorem Fld.get_some1_self (f : Fld) (x : Word) (hf : f.lo + f.w ≤ 32) (hw : 1 ≤ f.w) : f.get (f.some1 x) = Max.max 1 (f.get x) := by
  have h1 : 1 < 2 ^ f.w := Nat.one_lt_two_pow (by omega)
  unfold Fld.some1
  split
  case isTrue h => rw [Fld.get_put f x 1 hf, Nat.mod_eq_of_lt h1, h]; rfl
  case isFalse h => omega

/-- Storing 1 for 0 in one field leaves another field as it is. -/
theorem Fld.get_some1_ne (f g : Fld) (x : Word) (h : g.lo + g.w ≤ f.lo ∨ f.lo + f.w ≤ g.lo) (hg : g.lo + g.w ≤ 32) :
    g.get (f.some1 x) = g.get x := by
  unfold Fld.some1
  split
  · exact Fld.get_put_ne f g x 1 h hg
  · rfl

end Sys2Proof

namespace Sys2Proof.Machine
open Sys2Proof

/-- A field that a write may change whole takes the written value. -/
theorem Fld.get_mergeWord (f : Fld) (d : RegDesc) (locked closed : Bool) (old x : Word)
    (h : ∀ i < f.w, (openMask d locked closed).getLsbD (f.lo + i) = true) :
    f.get (mergeWord d locked closed old x).1 = f.get x := by
  apply Nat.eq_of_testBit_eq
  intro i
  rw [Fld.testBit_get, Fld.testBit_get]
  by_cases hi : i < f.w
  · have hm := h i hi
    simp only [BitVec.testBit_toNat, mergeWord, BitVec.getLsbD_or, BitVec.getLsbD_and, BitVec.getLsbD_not, hm, Bool.not_true,
      Bool.and_false, Bool.false_or, Bool.and_true]
  · simp [hi]

end Sys2Proof.Machine
end

section
/-! SUPPORT. A posted write that lands at once on its remote die (R22, R24, R67). -/

namespace Sys2Proof.Machine
open Sys2Proof

/-- It is applied there, after it has been counted in the die's ORDER_TOKEN. -/
theorem State.write_lands {s : State} {rq : Req} {a : Nat} (x : Word) (h : s.chip.direct rq a = true) (hd : dieOf a ≠ 0)
    (ha : isAlias a = false) :
    ∃ c : Chip, c.regs = (s.chip.bumpWrap (tokenAddr (dieOf a))).regs ∧ s.write rq a x = { s with chip := c.regWrite rq a x } := by
  have hi : s.chip.inStep (dieOf a) = true := by
    simp only [Chip.direct, Bool.and_eq_true] at h
    obtain ⟨⟨_, hi⟩, _⟩ := h
    exact hi
  rw [State.write_direct x h hd ha]
  simp only [State.onChip, Chip.post, Chip.landed, Chip.applyWrite, target, ha, hi, Bool.false_eq_true, reduceIte]
  refine ⟨_, ?_, rfl⟩
  rfl

end Sys2Proof.Machine
end

section
/-! SUPPORT. VG_CFG of a valve group: where it stands, what a write stores in it, and when the write changes PAR (R225, R230, R231). -/

namespace Sys2Proof.Machine
open Sys2Proof

/-! ### Addresses (R31, R225) -/

theorem tokenAddr_pwr {n : Nat} (h : n < 4) : tokenAddr (n + 2) = 0x40240004 + n * 0x80000 := by
  interval_cases n <;> rfl

/-- The descriptor of VG_CFG. -/
def vgCfgDesc : RegDesc := ⟨.VG_CFG, 0x40270000, [(4, 0x80000, 0), (2, 0x1000, 0)], 0x80FF01FF, 0, 0, 0, 0, 0xA0014⟩

section
variable (g : Fin 8)

theorem dieOf_vgCfg : dieOf (R.VG_CFG g) = g / 2 + 2 := by revert g; decide
theorem isAlias_vgCfg : isAlias (R.VG_CFG g) = false := by revert g; decide
theorem vgCfg_ge : 0x40200000 ≤ R.VG_CFG g := by revert g; decide
theorem findReg_vgCfg : findReg (R.VG_CFG g) = some (vgCfgDesc, [g.val / 2, g.val % 2]) := by fin_cases g <;> rfl

end

/-! ### VG_STATUS follows the valves (R226, R228, R230) -/

/-- A refresh writes no register but the VG_STATUS of the die's groups. -/
theorem Chip.rd_vgRefresh_ne (c : Chip) {n a : Nat} (h : ∀ k, k / 2 = n → a ≠ R.VG_STATUS k) : (c.vgRefresh n).rd a = c.rd a := by
  refine List.foldlRecOn (motive := fun c' : Chip => c'.rd a = c.rd a) _ _ rfl fun c' hc k hk => ?_
  have hk : a ≠ R.VG_STATUS k := h k (by simp only [List.mem_cons, List.not_mem_nil, or_false] at hk; omega)
  simp only [Chip.fbit]
  rw [Chip.rd_fset_ne _ _ _ hk, Chip.rd_fset_ne _ _ _ hk, Chip.rd_fset_ne _ _ _ hk]
  exact hc

theorem Chip.rd_vgRefresh_vgCfg (c : Chip) (n g : Nat) : (c.vgRefresh n).rd (R.VG_CFG g) = c.rd (R.VG_CFG g) := by
  refine Chip.rd_vgRefresh_ne c fun k _ => ?_
  simp only [R.VG_CFG, R.VG_STATUS, vgBase]
  omega

theorem Chip.rd_vgRefresh_refusedCnt (c : Chip) (n g : Nat) :
    (c.vgRefresh n).rd (R.VG_PAR_REFUSED_CNT g) = c.rd (R.VG_PAR_REFUSED_CNT g) := by
  refine Chip.rd_vgRefresh_ne c fun k _ => ?_
  simp only [R.VG_PAR_REFUSED_CNT, R.VG_STATUS, vgBase]
  omega

theorem Only.vgRefresh (c : Chip) (n : Nat) : Only [Blk.pwr n] c (c.vgRefresh n) := by
  intro a ha
  have hp := ha (Blk.pwr n) (by simp)
  simp only [Blk.pwr] at hp
  refine Chip.rd_vgRefresh_ne c fun k hk => ?_
  simp only [R.VG_STATUS, vgBase]
  omega

/-! ### What a write makes of PAR (R231) -/

section
variable {c : Chip} {g : Nat} {x : Word}

/-- A write with the PAR that the group has changes nothing. -/
theorem Chip.vgPar_same (h : F.VG_CFG_PAR.get x = c.fget (R.VG_CFG g) F.VG_CFG_PAR) : c.vgPar g x = c := by
  rw [Chip.vgPar, if_pos (Or.inr h)]

/-- With all four valves idle PAR takes the written value. -/
theorem Chip.vgPar_idle (he : g % 2 = 0) (h : F.VG_CFG_PAR.get x ≠ c.fget (R.VG_CFG g) F.VG_CFG_PAR)
    (hv : ∀ j < 4, c.vState (2 * g + j) = .off ∨ c.vState (2 * g + j) = .disabled) :
    c.vgPar g x = (c.fset (R.VG_CFG g) F.VG_CFG_PAR (F.VG_CFG_PAR.get x)).vgRefresh (g / 2) := by
  rw [Chip.vgPar, if_neg (not_or.2 ⟨by omega, h⟩), if_pos]
  simpa using hv

/-- With one valve of them not idle the write is counted as refused. -/
theorem Chip.vgPar_busy (he : g % 2 = 0) (h : F.VG_CFG_PAR.get x ≠ c.fget (R.VG_CFG g) F.VG_CFG_PAR) {j : Nat} (hj : j < 4)
    (hv : c.vState (2 * g + j) ≠ .off ∧ c.vState (2 * g + j) ≠ .disabled) : c.vgPar g x = c.bump (R.VG_PAR_REFUSED_CNT g) := by
  rw [Chip.vgPar, if_neg (not_or.2 ⟨by omega, h⟩), if_neg]
  intro hall
  have := List.all_eq_true.1 hall j (List.mem_range.2 hj)
  simp [hv.1, hv.2] at this

end

/-- What a write can make of a group: nothing, another PAR, or one refusal more. -/
theorem Chip.vgPar_cases (c : Chip) (g : Nat) (x : Word) :
    c.vgPar g x = c ∨ c.vgPar g x = (c.fset (R.VG_CFG g) F.VG_CFG_PAR (F.VG_CFG_PAR.get x)).vgRefresh (g / 2) ∨
      c.vgPar g x = c.bump (R.VG_PAR_REFUSED_CNT g) := by
  unfold Chip.vgPar
  split
  · exact .inl rfl
  · split
    · exact .inr (.inl rfl)
    · exact .inr (.inr rfl)

theorem vgCfg_ne_refusedCnt (g k : Nat) : R.VG_CFG g ≠ R.VG_PAR_REFUSED_CNT k := by
  simp only [R.VG_CFG, R.VG_PAR_REFUSED_CNT, vgBase]
  omega

/-- The fields of VG_CFG below PAR stay. -/
theorem Chip.fget_vgPar (c : Chip) (g : Nat) (x : Word) (f : Fld) (hf : f.lo + f.w ≤ 31) :
    (c.vgPar g x).fget (R.VG_CFG g) f = c.fget (R.VG_CFG g) f := by
  rcases Chip.vgPar_cases c g x with h | h | h
  · rw [h]
  · rw [h, Chip.fget, Chip.rd_vgRefresh_vgCfg]
    exact Chip.fget_fset_field c _ F.VG_CFG_PAR f _ (.inl hf) (by omega)
  · rw [h]
    exact Chip.fget_wr_ne c _ f (vgCfg_ne_refusedCnt g g)

/-- It stays within the die. -/
theorem Only.vgPar (c : Chip) (g : Nat) (x : Word) : Only [Blk.pwr (g / 2)] c (c.vgPar g x) := by
  rcases Chip.vgPar_cases c g x with h | h | h
  · rw [h]
    exact Only.refl _ c
  · rw [h]
    refine (Only.fset c _ _ _ ⟨Blk.pwr (g / 2), by simp, ?_⟩).trans (Only.vgRefresh _ _)
    simp only [R.VG_CFG, vgBase, Blk.pwr]
    omega
  · rw [h]
    refine Only.bump c _ _ ⟨Blk.pwr (g / 2), by simp, ?_⟩
    simp only [R.VG_PAR_REFUSED_CNT, vgBase, Blk.pwr]
    omega

/-! ### What a write stores (R42, R230, R231) -/

/-- The word that VG_CFG holds after a write of x over old, PAR still the old one. -/
def vgCfgWord (old x : Word) : Word :=
  F.VG_CFG_PAR.put (regNorm .VG_CFG [] old (mergeWord vgCfgDesc false false old x).1) (F.VG_CFG_PAR.get old)

theorem vgCfgWord_par (old x : Word) : F.VG_CFG_PAR.get (vgCfgWord old x) = F.VG_CFG_PAR.get old := by
  rw [vgCfgWord, Fld.get_put _ _ _ (by decide)]
  exact Nat.mod_eq_of_lt (Fld.get_lt _ _)

theorem vgCfgWord_overlapMax (old x : Word) : F.VG_CFG_OVERLAP_MAX.get (vgCfgWord old x) = max 1 (F.VG_CFG_OVERLAP_MAX.get x) := by
  rw [vgCfgWord, Fld.get_put_ne _ _ _ _ (by decide) (by decide), regNorm, Fld.get_some1_self _ _ (by decide) (by decide),
    Fld.get_some1_ne _ _ _ (by decide) (by decide), Fld.get_mergeWord _ _ _ _ _ _ (by decide)]

theorem vgCfgWord_nrMode (old x : Word) : F.VG_CFG_NR_MODE.get (vgCfgWord old x) = F.VG_CFG_NR_MODE.get x := by
  rw [vgCfgWord, Fld.get_put_ne _ _ _ _ (by decide) (by decide), regNorm, Fld.get_some1_ne _ _ _ (by decide) (by decide),
    Fld.get_some1_ne _ _ _ (by decide) (by decide), Fld.get_mergeWord _ _ _ _ _ _ (by decide)]

theorem vgCfgWord_nrMax (old x : Word) : F.VG_CFG_NR_MAX.get (vgCfgWord old x) = max 1 (F.VG_CFG_NR_MAX.get x) := by
  rw [vgCfgWord, Fld.get_put_ne _ _ _ _ (by decide) (by decide), regNorm, Fld.get_some1_ne _ _ _ (by decide) (by decide),
    Fld.get_some1_self _ _ (by decide) (by decide), Fld.get_mergeWord _ _ _ _ _ _ (by decide)]

/-- A write of the supervisor, where it lands. -/
theorem Chip.regWrite_vgCfg (c : Chip) (g : Fin 8) (x : Word) :
    c.regWrite .sup (R.VG_CFG g) x = (c.wr (R.VG_CFG g) (vgCfgWord (c.rd (R.VG_CFG g)) x)).vgPar g x := by
  have hg := vgCfg_ge g
  have h₁ : ¬ (R.VG_CFG g < 0x400D0000) := by omega
  have h₂ : ¬ (R.VG_CFG g < 0x40089000) := by omega
  have hix : 2 * (g.val / 2) + g.val % 2 = g := Nat.div_add_mod g.val 2
  simp [Chip.regWrite, findReg_vgCfg, vgCfgDesc, writerOk, h₁, h₂, hix, vgCfgWord, regNorm]

end Sys2Proof.Machine
end

section
/-! SUPPORT. The proof of O58: a write of VG_CFG stores every field but PAR, and PAR by the state of the die's four valves (R231). -/

namespace Sys2Proof.Machine
open Sys2Proof

/-- Between c and c' the supervisor's word x for VG_CFG of group g has landed and been stored, PAR apart. -/
structure VgCfgStored (c c' : Chip) (g : Fin 8) (x : Word) : Prop where
  word : c'.rd (R.VG_CFG g) = vgCfgWord (c.rd (R.VG_CFG g)) x
  rest : ∀ a, a ≠ R.VG_CFG g → a ≠ tokenAddr (g / 2 + 2) → c'.rd a = c.rd a

/-- The write comes to a stored word, and to what it makes of PAR. -/
theorem exec_vgParWrite {s : State} {g : Fin 8} (x : Word) (h : s.chip.direct .sup (R.VG_CFG g) = true) :
    ∃ c : Chip, VgCfgStored s.chip c g x ∧ exec (.vgParWrite .sup g x) s = .next { s with chip := c.vgPar g x } := by
  obtain ⟨c, hregs, hwrite⟩ := State.write_lands x h (by rw [dieOf_vgCfg]; omega) (isAlias_vgCfg g)
  have hrd : ∀ a, a ≠ tokenAddr (g / 2 + 2) → c.rd a = s.chip.rd a := by
    intro a ha
    rw [Chip.rd, hregs, dieOf_vgCfg]
    exact Chip.rd_wr_ne _ _ ha
  have htok : R.VG_CFG g ≠ tokenAddr (g / 2 + 2) := by
    rw [tokenAddr_pwr (by omega), R.VG_CFG, vgBase]
    omega
  refine ⟨c.wr (R.VG_CFG g) (vgCfgWord (c.rd (R.VG_CFG g)) x), ⟨?_, fun a ha ht => ?_⟩, ?_⟩
  · rw [Chip.rd_wr_self, hrd _ htok]
  · rw [Chip.rd_wr_ne _ _ ha, hrd a ht]
  · rw [← Chip.regWrite_vgCfg, ← hwrite]
    rfl

section
variable {c c' : Chip} {g : Fin 8} {x : Word} (h : VgCfgStored c c' g x)
include h

/-! ### What a stored word leaves as it was -/

theorem VgCfgStored.par : c'.fget (R.VG_CFG g) F.VG_CFG_PAR = c.fget (R.VG_CFG g) F.VG_CFG_PAR := by
  rw [Chip.fget, h.word, vgCfgWord_par, Chip.fget]

theorem VgCfgStored.refusedCnt : c'.rd (R.VG_PAR_REFUSED_CNT g) = c.rd (R.VG_PAR_REFUSED_CNT g) := by
  apply h.rest _ (vgCfg_ne_refusedCnt g g).symm
  rw [tokenAddr_pwr (by omega), R.VG_PAR_REFUSED_CNT, vgBase]
  omega

theorem VgCfgStored.vState (v : Nat) : c'.vState v = c.vState v := by
  rw [Chip.vState, Chip.fget, h.rest, Chip.vState, Chip.fget]
  · simp only [R.VLV_STATUS, R.VG_CFG, vlvBase, vgBase]
    omega
  · simp only [tokenAddr_pwr (show g.val / 2 < 4 by omega), R.VLV_STATUS, vlvBase, vgBase]
    omega

theorem VgCfgStored.only : Only [Blk.pwr (g / 2)] c c' := by
  intro a ha
  have hp := ha (Blk.pwr (g / 2)) (by simp)
  simp only [Blk.pwr] at hp
  apply h.rest
  · simp only [R.VG_CFG, vgBase]
    omega
  · rw [tokenAddr_pwr (by omega)]
    omega

/-! ### The other fields of the same write take effect, whatever becomes of PAR -/

theorem VgCfgStored.overlapMax : (c'.vgPar g x).fget (R.VG_CFG g) F.VG_CFG_OVERLAP_MAX = max 1 (F.VG_CFG_OVERLAP_MAX.get x) := by
  rw [Chip.fget_vgPar _ _ _ _ (by decide), Chip.fget, h.word, vgCfgWord_overlapMax]

theorem VgCfgStored.nrMode : (c'.vgPar g x).fget (R.VG_CFG g) F.VG_CFG_NR_MODE = F.VG_CFG_NR_MODE.get x := by
  rw [Chip.fget_vgPar _ _ _ _ (by decide), Chip.fget, h.word, vgCfgWord_nrMode]

theorem VgCfgStored.nrMax : (c'.vgPar g x).fget (R.VG_CFG g) F.VG_CFG_NR_MAX = max 1 (F.VG_CFG_NR_MAX.get x) := by
  rw [Chip.fget_vgPar _ _ _ _ (by decide), Chip.fget, h.word, vgCfgWord_nrMax]

theorem VgCfgStored.only_vgPar : Only [Blk.pwr (g / 2)] c (c'.vgPar g x) := h.only.trans (Only.vgPar c' g x)

/-! ### What becomes of PAR and of the count of refusals -/

theorem VgCfgStored.par_idle (he : g.val % 2 = 0) (hp : F.VG_CFG_PAR.get x ≠ c.fget (R.VG_CFG g) F.VG_CFG_PAR)
    (hv : ∀ j < 4, c.vState (2 * g + j) = .off ∨ c.vState (2 * g + j) = .disabled) :
    (c'.vgPar g x).fget (R.VG_CFG g) F.VG_CFG_PAR = F.VG_CFG_PAR.get x ∧
      (c'.vgPar g x).rd (R.VG_PAR_REFUSED_CNT g) = c.rd (R.VG_PAR_REFUSED_CNT g) := by
  rw [Chip.vgPar_idle he (by rwa [h.par]) (by simpa only [h.vState] using hv)]
  constructor
  · rw [Chip.fget, Chip.rd_vgRefresh_vgCfg]
    exact (Chip.fget_fset_self c' _ F.VG_CFG_PAR _ (by decide)).trans (Nat.mod_eq_of_lt (Fld.get_lt _ _))
  · rw [Chip.rd_vgRefresh_refusedCnt, Chip.rd_fset_ne _ _ _ (vgCfg_ne_refusedCnt g g).symm, h.refusedCnt]

theorem VgCfgStored.par_busy (he : g.val % 2 = 0) (hp : F.VG_CFG_PAR.get x ≠ c.fget (R.VG_CFG g) F.VG_CFG_PAR) {j : Nat} (hj : j < 4)
    (hv : c.vState (2 * g + j) ≠ .off ∧ c.vState (2 * g + j) ≠ .disabled) :
    (c'.vgPar g x).fget (R.VG_CFG g) F.VG_CFG_PAR = c.fget (R.VG_CFG g) F.VG_CFG_PAR ∧
      (c'.vgPar g x).rd (R.VG_PAR_REFUSED_CNT g) = .ofNat 32 (min 0xFFFFFFFF ((c.rd (R.VG_PAR_REFUSED_CNT g)).toNat + 1)) := by
  rw [Chip.vgPar_busy he (by rwa [h.par]) hj (by rwa [h.vState])]
  constructor
  · rw [Chip.fget, Chip.rd_bump_ne _ _ (vgCfg_ne_refusedCnt g g), ← Chip.fget, h.par]
  · rw [Chip.rd_bump_self, h.refusedCnt]

theorem VgCfgStored.par_same (hp : F.VG_CFG_PAR.get x = c.fget (R.VG_CFG g) F.VG_CFG_PAR) :
    (c'.vgPar g x).fget (R.VG_CFG g) F.VG_CFG_PAR = c.fget (R.VG_CFG g) F.VG_CFG_PAR ∧
      (c'.vgPar g x).rd (R.VG_PAR_REFUSED_CNT g) = c.rd (R.VG_PAR_REFUSED_CNT g) := by
  rw [Chip.vgPar_same (by rwa [h.par])]
  exact ⟨h.par, h.refusedCnt⟩

end

/-- Settles O58: the valves idle, a valve not idle, and a write with the PAR that the group has. -/
theorem parChangesOnlyWithIdleValves : Obligations.ParChangesOnlyWithIdleValves := by
  unfold Obligations.ParChangesOnlyWithIdleValves
  refine ⟨?idle, ?busy, ?same⟩
  case idle =>
    intro g x s hdir he hp hv
    obtain ⟨c, hc, hexec⟩ := exec_vgParWrite x hdir
    obtain ⟨hpar, hcnt⟩ := hc.par_idle he hp hv
    exact ⟨_, hexec, hpar, hcnt, hc.overlapMax, hc.nrMode, hc.nrMax, hc.only_vgPar⟩
  case busy =>
    intro g j x s hdir he hp hv
    obtain ⟨c, hc, hexec⟩ := exec_vgParWrite x hdir
    obtain ⟨hpar, hcnt⟩ := hc.par_busy he hp j.isLt hv
    exact ⟨_, hexec, hpar, hcnt, hc.overlapMax, hc.nrMode, hc.nrMax, hc.only_vgPar⟩
  case same =>
    intro g x s hdir _ hp
    obtain ⟨c, hc, hexec⟩ := exec_vgParWrite x hdir
    obtain ⟨hpar, hcnt⟩ := hc.par_same hp
    exact ⟨_, hexec, hpar, hcnt, hc.overlapMax, hc.nrMode, hc.nrMax, hc.only_vgPar⟩

end Sys2Proof.Machine
end

section
/-! SUPPORT. What stands pending at a target of the event router, and the source that a claim there takes (R289). -/

namespace Sys2Proof.Machine
open Sys2Proof

/-! ### The sources pending at a target -/

section
variable (c : Chip) (t : Nat)

@[simp] theorem Chip.pendAt_bump (a n : Nat) : (c.bump a n).pendAt t = c.pendAt t := rfl
@[simp] theorem Chip.pendAt_answer (rq : Req) (a : Nat) (x : Word) (e : Nat) : (c.answer rq a x e).pendAt t = c.pendAt t := rfl
@[simp] theorem Chip.pendAt_inMode (rq : Req) (u : Bool) : (c.inMode rq u).pendAt t = c.pendAt t := by unfold Chip.inMode; split <;> rfl
@[simp] theorem Chip.pendAt_touch (a : Nat) : (c.touch a).pendAt t = c.pendAt t := by unfold Chip.touch; split <;> rfl

end

/-! ### The source that comes first -/

/-- The priority of source k. -/
abbrev Chip.prioOf (c : Chip) (k : Nat) : Nat := c.fget (R.EVR_ROUTE k) F.EVR_ROUTE_PRIO

/-- Source k is pending at target t with a priority above the target's threshold. -/
def Chip.claimable (c : Chip) (t k : Nat) : Bool := (c.pendAt t).getLsbD k && c.fget (R.EVR_THRESH t) F.EVR_THRESH_THRESH < c.prioOf k

theorem Chip.claimable_iff (c : Chip) (t k : Nat) :
    c.claimable t k = true ↔ (c.pendAt t).getLsbD k = true ∧ c.fget (R.EVR_THRESH t) F.EVR_THRESH_THRESH < c.prioOf k := by
  simp [Chip.claimable]

theorem Chip.bestClaim_succ_of_none {c : Chip} {t n : Nat} (h : c.bestClaim t n = none) :
    c.bestClaim t (n + 1) = if c.claimable t n then some n else none := by
  rw [Chip.bestClaim, h]
  rfl

theorem Chip.bestClaim_succ_of_some {c : Chip} {t n b : Nat} (h : c.bestClaim t n = some b) :
    c.bestClaim t (n + 1) = if c.claimable t n && c.prioOf b < c.prioOf n then some n else some b := by
  rw [Chip.bestClaim, h]
  rfl

/-- Of the sources below n that can be claimed at target t, k has the highest priority and, among equals, the lowest number. -/
structure Chip.First (c : Chip) (t n k : Nat) : Prop where
  lt : k < n
  claimable : c.claimable t k = true
  before : ∀ j < n, c.claimable t j = true → c.prioOf j < c.prioOf k ∨ c.prioOf j = c.prioOf k ∧ k ≤ j

theorem Chip.First.unique {c : Chip} {t n k b : Nat} (hk : c.First t n k) (hb : c.First t n b) : k = b := by
  have h₁ := hk.before b hb.lt hb.claimable
  have h₂ := hb.before k hk.lt hk.claimable
  omega

theorem Chip.First.keeps {c : Chip} {t n b : Nat} (hb : c.First t n b) (hn : c.claimable t n = true → c.prioOf n ≤ c.prioOf b) :
    c.First t (n + 1) b := by
  refine ⟨Nat.lt_succ_of_lt hb.lt, hb.claimable, fun j hj hc => ?_⟩
  rcases Nat.lt_succ_iff_lt_or_eq.1 hj with hj | rfl
  · exact hb.before j hj hc
  · have := hn hc
    have := hb.lt
    omega

theorem Chip.First.yields {c : Chip} {t n b : Nat} (hb : c.First t n b) (hc : c.claimable t n = true) (hn : c.prioOf b < c.prioOf n) :
    c.First t (n + 1) n := by
  refine ⟨Nat.lt_succ_self n, hc, fun j hj hj' => ?_⟩
  rcases Nat.lt_succ_iff_lt_or_eq.1 hj with hj | rfl
  · have := hb.before j hj hj'
    omega
  · exact .inr ⟨rfl, le_rfl⟩

/-- The search answers the source that comes first, and none only where no source can be claimed. -/
theorem Chip.bestClaim_spec (c : Chip) (t n : Nat) :
    (c.bestClaim t n = none ∧ ∀ j < n, c.claimable t j = false) ∨ ∃ k, c.bestClaim t n = some k ∧ c.First t n k := by
  induction n with
  | zero => exact .inl ⟨rfl, fun j hj => absurd hj (Nat.not_lt_zero j)⟩
  | succ n ih =>
    rcases ih with ⟨hnone, hall⟩ | ⟨b, hsome, hb⟩
    · rw [Chip.bestClaim_succ_of_none hnone]
      cases hc : c.claimable t n with
      | false =>
        refine .inl ⟨rfl, fun j hj => ?_⟩
        rcases Nat.lt_succ_iff_lt_or_eq.1 hj with hj | rfl
        · exact hall j hj
        · exact hc
      | true =>
        refine .inr ⟨n, rfl, Nat.lt_succ_self n, hc, fun j hj hj' => ?_⟩
        rcases Nat.lt_succ_iff_lt_or_eq.1 hj with hj | rfl
        · exact absurd hj' (by simp [hall j hj])
        · exact .inr ⟨rfl, le_rfl⟩
    · rw [Chip.bestClaim_succ_of_some hsome]
      by_cases hn : c.claimable t n = true ∧ c.prioOf b < c.prioOf n
      · exact .inr ⟨n, by simp [hn], hb.yields hn.1 hn.2⟩
      · exact .inr ⟨b, if_neg (by simpa using hn), hb.keeps fun hc => by simpa [hc] using hn⟩

theorem Chip.bestClaim_of_first {c : Chip} {t n k : Nat} (h : c.First t n k) : c.bestClaim t n = some k := by
  rcases c.bestClaim_spec t n with ⟨_, hall⟩ | ⟨b, hsome, hb⟩
  · exact absurd h.claimable (by simp [hall k h.lt])
  · rw [hsome, h.unique hb]

theorem Chip.interrupted_iff (c : Chip) (t : Nat) : c.interrupted t = true ↔ ∃ k < 256, c.claimable t k = true := by
  rw [Chip.interrupted]
  rcases c.bestClaim_spec t 256 with ⟨hnone, hall⟩ | ⟨b, hsome, hb⟩
  · simpa [hnone] using hall
  · simpa [hsome] using ⟨b, hb.lt, hb.claimable⟩

theorem Chip.bestClaim_of_not_interrupted {c : Chip} {t : Nat} (h : c.interrupted t = false) : c.bestClaim t 256 = none := by
  simpa [Chip.interrupted] using h

/-- What can be claimed at a target shows in the router's registers and the target's pending sources alone. -/
theorem Chip.bestClaim_congr {c c' : Chip} {t : Nat} (h : Only [Blk.sys] c c') (hp : c'.pendAt t = c.pendAt t) (n : Nat) :
    c'.bestClaim t n = c.bestClaim t n := by
  have keep : ∀ a, 0x40010000 ≤ a → c'.rd a = c.rd a := fun a ha => h a (by simpa [Blk.sys] using fun _ => ha)
  have hprio : ∀ k, c'.prioOf k = c.prioOf k := fun k => by
    rw [Chip.prioOf, Chip.fget, keep _ (by simp only [R.EVR_ROUTE]; omega), Chip.prioOf, Chip.fget]
  have hclaim : ∀ k, c'.claimable t k = c.claimable t k := fun k => by
    rw [Chip.claimable, hp, hprio, Chip.fget, keep _ (by simp only [R.EVR_THRESH]; omega), Chip.claimable, Chip.fget]
  induction n with
  | zero => rfl
  | succ n ih =>
    cases hb : c.bestClaim t n with
    | none => rw [Chip.bestClaim_succ_of_none (ih.trans hb), Chip.bestClaim_succ_of_none hb, hclaim]
    | some b => rw [Chip.bestClaim_succ_of_some (ih.trans hb), Chip.bestClaim_succ_of_some hb, hclaim, hprio, hprio]

theorem Chip.claimWord_congr {c c' : Chip} {t : Nat} (h : Only [Blk.sys] c c') (hp : c'.pendAt t = c.pendAt t) :
    c'.claimWord t = c.claimWord t := by
  unfold Chip.claimWord
  rw [Chip.bestClaim_congr h hp]

theorem Chip.claimWord_of_some {c : Chip} {t k : Nat} (h : c.bestClaim t 256 = some k) :
    c.claimWord t = F.EVR_CLAIM_SOURCE.put (F.EVR_CLAIM_VALID.of 1) k := by
  unfold Chip.claimWord
  rw [h]

theorem Chip.claimWord_of_none {c : Chip} {t : Nat} (h : c.bestClaim t 256 = none) : c.claimWord t = 0 := by
  unfold Chip.claimWord
  rw [h]

end Sys2Proof.Machine
end

section
/-! SUPPORT. A bit of a word that is put together from values at bit positions, and the bits that show whether a target is interrupted
(R289, R307). -/

namespace Sys2Proof.Machine
open Sys2Proof

/-- The number that values placed at bit positions add up to. -/
def placed (l : List (Nat × Nat)) : Nat := (l.map fun x => x.2 * 2 ^ x.1).sum

theorem wordOf_eq (l : List (Nat × Nat)) : wordOf l = .ofNat 32 (placed l) := rfl
theorem placed_cons (p v : Nat) (l : List (Nat × Nat)) : placed ((p, v) :: l) = v * 2 ^ p + placed l := by
  rw [placed, List.map_cons, List.sum_cons, placed]
theorem placed_append (l l' : List (Nat × Nat)) : placed (l ++ l') = placed l + placed l' := by
  rw [placed, List.map_append, List.sum_append, placed, placed]
theorem wordOf_reverse (l : List (Nat × Nat)) : wordOf l.reverse = wordOf l := by
  rw [wordOf_eq, placed, List.map_reverse, List.sum_reverse, wordOf_eq, placed]

/-- A value of w bits at position p, over values that stay below it. -/
theorem placed_cons_lt {p v k : Nat} {l : List (Nat × Nat)} (w : Nat) (hv : v < 2 ^ w) (hl : placed l < 2 ^ p) (hk : p + w ≤ k) :
    placed ((p, v) :: l) < 2 ^ k := by
  rw [placed_cons]
  calc v * 2 ^ p + placed l < (v + 1) * 2 ^ p := by rw [Nat.add_mul]; omega
    _ ≤ 2 ^ w * 2 ^ p := Nat.mul_le_mul_right _ hv
    _ = 2 ^ (p + w) := by rw [← Nat.pow_add, Nat.add_comm]
    _ ≤ 2 ^ k := Nat.pow_le_pow_right (by omega) hk

/-- Values placed above bit k add nothing below bit k + 1. -/
theorem pow_dvd_placed {k : Nat} {l : List (Nat × Nat)} (h : ∀ x ∈ l, k < x.1) : 2 ^ (k + 1) ∣ placed l := by
  refine List.dvd_sum fun y hy => ?_
  obtain ⟨x, hx, rfl⟩ := List.mem_map.1 hy
  exact Dvd.dvd.mul_left (pow_dvd_pow 2 (h x hx)) _

/-- A bit between values placed above it and values that stay below it. -/
theorem getLsbD_wordOf (hi lo : List (Nat × Nat)) {k : Nat} (b : Bool) (hk : k < 32) (hhi : ∀ x ∈ hi, k < x.1)
    (hlo : placed lo < 2 ^ k) : (wordOf (hi ++ (k, b.toNat) :: lo)).getLsbD k = b := by
  obtain ⟨q, hq⟩ := pow_dvd_placed hhi
  have hsum : placed (hi ++ (k, b.toNat) :: lo) = 2 ^ k * (2 * q + b.toNat) + placed lo := by
    rw [placed_append, placed_cons, hq]
    ring
  rw [wordOf_eq, hsum, BitVec.getLsbD_ofNat, Nat.testBit_two_pow_mul_add _ hlo]
  cases b <;> simp [hk, Nat.testBit_zero, Nat.add_mod]

theorem Chip.mip_meip (c : Chip) (k : Nat) : (c.mip k).getLsbD 11 = c.interrupted k := by
  rw [Chip.mip, ← wordOf_reverse]
  refine getLsbD_wordOf [(17, _), (16, _)] [(7, _), (3, _)] (c.interrupted k) (by omega) (by simp) ?_
  refine placed_cons_lt 1 (Bool.toNat_lt _) ?_ (by omega)
  exact placed_cons_lt 1 (Fld.get_lt _ _) (Nat.two_pow_pos 3) (by omega)

/-- The fields of the status word below the bits of the INT pins, PARITY apart. -/
def Chip.statusLow (c : Chip) : List (Nat × Nat) :=
  [(26, c.logFull.toNat), (25, (fpWord c.hsp.front 0x10 != 0).toNat), (24, (decide (32 ≤ c.qFree 0)).toNat), (20, c.mode),
    (16, (fpWord c.hsp.front 0).toNat % 16), (8, min 255 (c.queue 1).head), (6, 1), (0, min 31 (c.queue 1).pkts)]

theorem Chip.placed_statusLow_lt (c : Chip) : placed c.statusLow < 2 ^ 27 := by
  refine placed_cons_lt 1 (Bool.toNat_lt _) ?_ (by omega)
  refine placed_cons_lt 1 (Bool.toNat_lt _) ?_ (by omega)
  refine placed_cons_lt 1 (Bool.toNat_lt _) ?_ (by omega)
  refine placed_cons_lt 4 (Fld.get_lt _ _) ?_ (by omega)
  refine placed_cons_lt 4 (Nat.mod_lt _ (by omega)) ?_ (by omega)
  refine placed_cons_lt 8 (Nat.lt_succ_of_le (Nat.min_le_left 255 _)) ?_ (by omega)
  refine placed_cons_lt 1 Nat.one_lt_two ?_ (by omega)
  exact placed_cons_lt 5 (Nat.lt_succ_of_le (Nat.min_le_left 31 _)) (Nat.two_pow_pos 0) (by omega)

section
variable {c : Chip} (h : c.flag R.SYS_PAD_HOLD (bitFld 0) = false)
include h

/-- The bits from 6 up, where the INT pads are not held. -/
theorem Chip.getLsbD_statusWord {i : Nat} (hi : 6 ≤ i) (h32 : i < 32) :
    c.statusWord.getLsbD i = (wordOf ([(31, c.hsp.resp.isSome.toNat), (30, c.hsp.busy.isSome.toNat), (29, c.hsp.frameErr.toNat),
      (28, (c.interrupted 5).toNat), (27, (c.interrupted 6).toNat)] ++ c.statusLow)).getLsbD i := by
  have h₁ : ¬ i < 5 := by omega
  have h₂ : ¬ i < 6 := by omega
  simp only [Chip.statusWord, h, Bool.false_eq_true, reduceIte]
  rw [← BitVec.testBit_toNat, Fld.testBit_put, ← BitVec.testBit_toNat]
  simp only [bitFld, h₁, h₂, h32, reduceIte, decide_true, Bool.true_and]
  rfl

theorem Chip.statusWord_intA : c.statusWord.getLsbD 28 = c.interrupted 5 := by
  rw [Chip.getLsbD_statusWord h (by omega) (by omega)]
  exact getLsbD_wordOf [(31, _), (30, _), (29, _)] ((27, (c.interrupted 6).toNat) :: c.statusLow) _ (by omega) (by simp)
    (placed_cons_lt 1 (Bool.toNat_lt _) c.placed_statusLow_lt (by omega))

theorem Chip.statusWord_intB : c.statusWord.getLsbD 27 = c.interrupted 6 := by
  rw [Chip.getLsbD_statusWord h (by omega) (by omega)]
  exact getLsbD_wordOf [(31, _), (30, _), (29, _), (28, _)] c.statusLow _ (by omega) (by simp) c.placed_statusLow_lt

end

end Sys2Proof.Machine
end

section
/-! SUPPORT. The proof of O31: the interrupts of a target, a claim, and a read of EVR_CLAIM through its alias (R37, R289). -/

namespace Sys2Proof.Machine
open Sys2Proof

/-! ### EVR_CLAIM (R31, R289) -/

/-- The descriptor of EVR_CLAIM. -/
def evrClaimDesc : RegDesc := ⟨.EVR_CLAIM, 0x40011004, [(7, 0x100, 0)], 0, 0, 0, 0, 0, 0⟩

/-- The alias word of bit b of EVR_CLAIM at target t. -/
def claimAlias (t : Fin 7) (b : Fin 32) : Nat := 0x60000000 + (R.EVR_CLAIM t - 0x40000000) * 32 + 4 * b.val

section
variable (t : Fin 7)

theorem findReg_evrClaim : findReg (R.EVR_CLAIM t) = some (evrClaimDesc, [t.val]) := by fin_cases t <;> rfl
theorem dieOf_evrClaim : dieOf (R.EVR_CLAIM t) = 0 := by revert t; decide
theorem isAlias_evrClaim : isAlias (R.EVR_CLAIM t) = false := by revert t; decide
theorem inBlock_evrClaim : inBlock (R.EVR_CLAIM t) = true := by revert t; decide
theorem not_faceplate_evrClaim : ¬ (0x40038000 ≤ R.EVR_CLAIM t ∧ R.EVR_CLAIM t < 0x40039000) := by revert t; decide

variable (b : Fin 32)

theorem claimAlias_eq : claimAlias t b = 0x60220080 + 0x2000 * t.val + 4 * b.val := by
  simp only [claimAlias, R.EVR_CLAIM]
  omega

theorem claimAlias_toNat : (BitVec.ofNat 32 (claimAlias t b)).toNat = claimAlias t b := by
  rw [BitVec.toNat_ofNat, claimAlias_eq]
  omega

theorem region_claimAlias : region (claimAlias t b) = .alias_ := by
  rw [region_alias_iff, claimAlias_eq]
  omega

theorem claimAlias_aligned : claimAlias t b % 4 = 0 := by
  rw [claimAlias_eq]
  omega

theorem aliasOf_claimAlias : aliasOf (claimAlias t b) = (R.EVR_CLAIM t, b.val) := by
  simp only [aliasOf, claimAlias_eq, R.EVR_CLAIM, Prod.mk.injEq]
  omega

end

theorem Chip.peek_evrClaim (c : Chip) (rq : Req) (t : Fin 7) : c.peek rq (R.EVR_CLAIM t) = c.claimWord t := by
  rw [Chip.peek, if_neg (not_faceplate_evrClaim t), findReg_evrClaim]
  rfl

/-- A claim removes its source at the target. -/
theorem Chip.regRead_evrClaim_some {c : Chip} (rq : Req) {t : Fin 7} {k : Nat} (h : c.bestClaim t 256 = some k) :
    c.regRead rq (R.EVR_CLAIM t) = (c.claimWord t, c.setPendAt t (c.pendAt t &&& ~~~(1#256 <<< k))) := by
  rw [Chip.regRead, if_neg (not_faceplate_evrClaim t), findReg_evrClaim, Chip.peek_evrClaim]
  simp only [evrClaimDesc, h]

theorem Chip.regRead_evrClaim_none {c : Chip} (rq : Req) {t : Fin 7} (h : c.bestClaim t 256 = none) :
    c.regRead rq (R.EVR_CLAIM t) = (c.claimWord t, c) := by
  rw [Chip.regRead, if_neg (not_faceplate_evrClaim t), findReg_evrClaim, Chip.peek_evrClaim]
  simp only [evrClaimDesc, h]

/-! ### Claims -/

section
variable {s : State} {rq : Req} {t : Fin 7} (h : s.chip.atOnce rq (R.EVR_CLAIM t) 0 = true)
include h

theorem exec_evrClaimRead {v : Word} {c : Chip} (hr : (s.chip.touch (R.EVR_CLAIM t)).regRead rq (R.EVR_CLAIM t) = (v, c)) :
    exec (.evrClaimRead rq t) s = .next { s with chip := c.answer rq (R.EVR_CLAIM t) v } := by
  show Host.Outcome.next (s.read rq (R.EVR_CLAIM t)) = _
  rw [State.read_atOnce h (dieOf_evrClaim t) (isAlias_evrClaim t), State.onChip, hr]

theorem evrClaimRead_takes {k : Nat} (hk : s.chip.First t 256 k) :
    ∃ c', exec (.evrClaimRead rq t) s = .next { s with chip := c' } ∧
      c'.respOf rq = ⟨R.EVR_CLAIM t, F.EVR_CLAIM_SOURCE.put (F.EVR_CLAIM_VALID.of 1) k, 0⟩ ∧
      c'.pendAt t = s.chip.pendAt t &&& ~~~(1#256 <<< k) ∧ (∀ u, u ≠ t.val → c'.pendAt u = s.chip.pendAt u) ∧
      Only [Blk.sys] s.chip c' := by
  have ht : (s.chip.touch (R.EVR_CLAIM t)).bestClaim t 256 = some k :=
    (Chip.bestClaim_congr (Only.touch _ _) (Chip.pendAt_touch _ _ _) 256).trans (Chip.bestClaim_of_first hk)
  refine ⟨_, exec_evrClaimRead h (Chip.regRead_evrClaim_some rq ht), ?_, ?_, fun u hu => ?_, (Only.touch _ _).trans (Only.of_regs rfl)⟩
  · rw [Chip.respOf_answer_self, Chip.claimWord_of_some ht]
  · rw [Chip.pendAt_answer, Chip.pendAt_setPendAt_self, Chip.pendAt_touch]
  · rw [Chip.pendAt_answer, Chip.pendAt_setPendAt_ne _ _ hu, Chip.pendAt_touch]

theorem evrClaimRead_takes_none (hn : s.chip.interrupted t = false) :
    ∃ c', exec (.evrClaimRead rq t) s = .next { s with chip := c' } ∧ c'.respOf rq = ⟨R.EVR_CLAIM t, 0, 0⟩ ∧
      (∀ u, c'.pendAt u = s.chip.pendAt u) ∧ Only [Blk.sys] s.chip c' := by
  have ht : (s.chip.touch (R.EVR_CLAIM t)).bestClaim t 256 = none :=
    (Chip.bestClaim_congr (Only.touch _ _) (Chip.pendAt_touch _ _ _) 256).trans (Chip.bestClaim_of_not_interrupted hn)
  refine ⟨_, exec_evrClaimRead h (Chip.regRead_evrClaim_none rq ht), ?_, fun u => ?_, (Only.touch _ _).trans (Only.of_regs rfl)⟩
  · rw [Chip.respOf_answer_self, Chip.claimWord_of_none ht]
  · rw [Chip.pendAt_answer, Chip.pendAt_touch]

end

/-! ### The alias of EVR_CLAIM -/

theorem Chip.passes_sup (c : Chip) (u : Bool) (a n bit : Nat) : c.passes .sup u a n bit = true := by
  simp [Chip.passes, Req.code]

theorem Chip.aliasBit_evrClaim (c : Chip) (rq : Req) (t : Fin 7) (b : Fin 32) :
    c.aliasBit rq (claimAlias t b) = .ofNat 32 ((c.claimWord t).toNat.testBit b).toNat := by
  rw [Chip.aliasBit, aliasOf_claimAlias, Chip.peek_evrClaim]

/-- What the alias answers is the claim's word, which the restart of the router's clock leaves as it is. -/
theorem Chip.aliasRead_evrClaim {c : Chip} (t : Fin 7) (b : Fin 32) (hw : c.awake = true) (hs : c.stalled .sup = false) :
    c.aliasRead .sup .word (claimAlias t b) = (c.touch (R.EVR_CLAIM t)).answer .sup (claimAlias t b)
      (.ofNat 32 ((c.claimWord t).toNat.testBit b).toNat) := by
  have ha := aliasOf_claimAlias t b
  rw [Chip.aliasRead_block _ .sup (claimAlias_aligned t b) (by rw [ha]; exact inBlock_evrClaim t),
    Chip.periphRead_alias_near (region_claimAlias t b) hw hs (by rw [ha]; exact dieOf_evrClaim t), ha, Chip.aliasBit_evrClaim,
    Chip.claimWord_congr (Only.touch c _) (Chip.pendAt_touch _ _ _)]

theorem aliasRead_evrClaim (u : Bool) (t : Fin 7) (b : Fin 32) {s : State} (hw : s.chip.awake = true) (hs : s.chip.stalled .sup = false) :
    ∃ c', exec (.aliasRead .sup u .word (.ofNat 32 (claimAlias t b))) s = .next { s with chip := c' } ∧
      c'.respOf .sup = ⟨claimAlias t b, .ofNat 32 ((s.chip.claimWord t).toNat.testBit b).toNat, 0⟩ ∧
      (∀ v, c'.pendAt v = s.chip.pendAt v) ∧ Only [Blk.sys] s.chip c' := by
  have hm : Only [Blk.sys] s.chip (s.chip.inMode .sup u) := Only.of_regs (Chip.inMode_regs _ _ _)
  have hr : region (BitVec.ofNat 32 (claimAlias t b)).toNat = .alias_ := by
    rw [claimAlias_toNat]
    exact region_claimAlias t b
  refine ⟨_, exec_aliasRead hr (Chip.passes_sup _ _ _ _ _), ?_⟩
  rw [claimAlias_toNat, Chip.aliasRead_evrClaim t b (by simpa using hw) (by simpa using hs),
    Chip.claimWord_congr hm (Chip.pendAt_inMode _ _ _ _)]
  refine ⟨Chip.respOf_answer_self _ _ _ _ _, fun v => ?_, (hm.trans (Only.touch _ _)).trans (Only.of_regs (Chip.answer_regs _ _ _ _ _))⟩
  rw [Chip.pendAt_answer, Chip.pendAt_touch, Chip.pendAt_inMode]

/-- Settles O31: the interrupt of a target, where it shows, claims with and without a source, and the alias of EVR_CLAIM. -/
theorem claimsTakeTheHighestSourceFirst : Obligations.ClaimsTakeTheHighestSourceFirst := by
  unfold Obligations.ClaimsTakeTheHighestSourceFirst
  refine ⟨?interrupt, ?meip, ?pins, ?claim, ?claimNone, ?aliased⟩
  case interrupt =>
    intro t s
    simp only [Chip.interrupted_iff, Chip.claimable_iff]
  case meip => exact fun k s => s.chip.mip_meip k
  case pins => exact fun s h => ⟨Chip.statusWord_intA h, Chip.statusWord_intB h⟩
  case claim =>
    intro rq t k s h hk hp hprio hfirst
    refine evrClaimRead_takes h ⟨hk, (Chip.claimable_iff _ _ _).2 ⟨hp, hprio⟩, fun j hj hc => ?_⟩
    exact hfirst j hj ((Chip.claimable_iff _ _ _).1 hc).1
  case claimNone => exact fun rq t s h hn => evrClaimRead_takes_none h hn
  case aliased => exact fun u t b s hw hs => aliasRead_evrClaim u t b hw hs

end Sys2Proof.Machine
end

section
/-! SUPPORT. What a raise does at each target of the event router (R288). -/

namespace Sys2Proof.Machine
open Sys2Proof

/-! ### What a raise of source k looks at and changes at target t -/

/-- Between c and c' nothing has changed of what a raise of source k looks at and changes at target t: the source's mask, the target's
pending sources and its merge counter. -/
structure SameAt (k t : Nat) (c c' : Chip) : Prop where
  route : c'.fget (R.EVR_ROUTE k) F.EVR_ROUTE_TARGET = c.fget (R.EVR_ROUTE k) F.EVR_ROUTE_TARGET
  pend : c'.pendAt t = c.pendAt t
  merges : c'.rd (R.EVR_MERGE_CNT t) = c.rd (R.EVR_MERGE_CNT t)

theorem SameAt.refl (k t : Nat) (c : Chip) : SameAt k t c c := ⟨rfl, rfl, rfl⟩

theorem SameAt.trans {k t : Nat} {c c' c'' : Chip} (h : SameAt k t c c') (h' : SameAt k t c' c'') : SameAt k t c c'' :=
  ⟨h'.route.trans h.route, h'.pend.trans h.pend, h'.merges.trans h.merges⟩

theorem evrRoute_ne_mergeCnt {k : Nat} (hk : k < 256) (t : Nat) : R.EVR_ROUTE k ≠ R.EVR_MERGE_CNT t := by
  simp only [R.EVR_ROUTE, R.EVR_MERGE_CNT]
  omega

/-- A pending source is pending still when its bit is set again. -/
theorem or_bit_of_getLsbD {x : BitVec 256} {k : Nat} (h : x.getLsbD k = true) : x ||| (1#256 <<< k) = x := by
  apply BitVec.eq_of_getLsbD_eq
  intro i _
  by_cases hi : i = k
  · subst hi
    simp [h]
  · have hbit : (1#256 <<< k).getLsbD i = false := by
      rw [← BitVec.twoPow_eq, BitVec.getLsbD_twoPow, decide_eq_false (Ne.symm hi), Bool.and_false]
    rw [BitVec.getLsbD_or, hbit, Bool.or_false]

section
variable (c : Chip) (k t : Nat)

theorem Chip.pendAt_raiseAt_ne {u : Nat} (h : u ≠ t) : (Chip.raiseAt k t c).pendAt u = c.pendAt u := by
  unfold Chip.raiseAt
  split
  · split
    · exact Chip.pendAt_bump c u _ _
    · exact Chip.pendAt_setPendAt_ne c _ h
  · rfl

/-- A target of the mask has the source pending. -/
theorem Chip.pendAt_raiseAt_self : (Chip.raiseAt k t c).pendAt t =
    if (c.fget (R.EVR_ROUTE k) F.EVR_ROUTE_TARGET).testBit t then c.pendAt t ||| (1#256 <<< k) else c.pendAt t := by
  unfold Chip.raiseAt
  split
  · split
    case isTrue hp => rw [Chip.pendAt_bump, or_bit_of_getLsbD hp]
    case isFalse => exact Chip.pendAt_setPendAt_self _ _ _
  · rfl

/-- A target of the mask where the source is pending already counts the merge. -/
theorem Chip.rd_raiseAt_mergeCnt : (Chip.raiseAt k t c).rd (R.EVR_MERGE_CNT t) =
    if (c.fget (R.EVR_ROUTE k) F.EVR_ROUTE_TARGET).testBit t ∧ (c.pendAt t).getLsbD k = true then
      .ofNat 32 (min 0xFFFFFFFF ((c.rd (R.EVR_MERGE_CNT t)).toNat + 1)) else c.rd (R.EVR_MERGE_CNT t) := by
  unfold Chip.raiseAt
  by_cases hm : (c.fget (R.EVR_ROUTE k) F.EVR_ROUTE_TARGET).testBit t = true
  · by_cases hp : (c.pendAt t).getLsbD k = true
    · rw [if_pos hm, if_pos hp, if_pos ⟨hm, hp⟩, Chip.rd_bump_self]
    · rw [if_pos hm, if_neg hp, if_neg fun h => hp h.2]
      rfl
  · rw [if_neg hm, if_neg fun h => hm h.1]

end

/-- A raise at another target leaves all of it. -/
theorem SameAt.raiseAt {k t u : Nat} (hk : k < 256) (h : t ≠ u) (c : Chip) : SameAt k t c (Chip.raiseAt k u c) := by
  refine ⟨?_, Chip.pendAt_raiseAt_ne c k u h, Chip.rd_raiseAt_ne k u c ?_⟩
  · rw [Chip.fget, Chip.rd_raiseAt_ne k u c (evrRoute_ne_mergeCnt hk u), Chip.fget]
  · simp only [R.EVR_MERGE_CNT]
    omega

theorem SameAt.raiseAts {k t : Nat} (hk : k < 256) : ∀ (us : List Nat) (c : Chip), t ∉ us →
    SameAt k t c (us.foldl (fun c u => Chip.raiseAt k u c) c)
  | [], c, _ => SameAt.refl k t c
  | u :: us, c, h => (SameAt.raiseAt hk (by simp_all) c).trans (SameAt.raiseAts hk us _ (by simp_all))

/-- The source's count and the router's clock state are none of it. -/
theorem SameAt.counted {k t : Nat} (hk : k < 256) (c : Chip) : SameAt k t c ((c.ungate 0).bump (R.EVR_CNT k)) := by
  have keep : ∀ a, 0x40010000 ≤ a → a ≠ R.EVR_CNT k → ((c.ungate 0).bump (R.EVR_CNT k)).rd a = c.rd a := by
    intro a ha hne
    rw [Chip.rd_bump_ne _ _ hne, Chip.ungate, Chip.rd_fset_ne _ _ _ (by simp only [R.SYS_BLK_POWER]; omega)]
  refine ⟨?_, rfl, ?_⟩
  · rw [Chip.fget, keep _ (by simp only [R.EVR_ROUTE]; omega) (by simp only [R.EVR_ROUTE, R.EVR_CNT]; omega), Chip.fget]
  · exact keep _ (by simp only [R.EVR_MERGE_CNT]; omega) (by simp only [R.EVR_MERGE_CNT, R.EVR_CNT]; omega)

/-- At each target a raise in a powered module does what a raise at that target alone does. -/
theorem Chip.raise_at {c : Chip} {k t : Nat} (hk : k < 256) (ht : t < 7) (h : c.awake = true) :
    ∃ c₀, SameAt k t c c₀ ∧ SameAt k t (Chip.raiseAt k t c₀) (c.raise k) := by
  have hsplit : List.range 7 = List.range t ++ t :: List.range' (t + 1) (6 - t) := by
    interval_cases t <;> rfl
  rw [Chip.raise_powered k h, hsplit, List.foldl_append, List.foldl_cons]
  refine ⟨_, (SameAt.counted hk c).trans (SameAt.raiseAts hk _ _ (by simp)), SameAt.raiseAts hk _ _ ?_⟩
  simp only [List.mem_range'_1]
  omega

section
variable {c : Chip} {k t : Nat} (hk : k < 256) (ht : t < 7) (h : c.awake = true)
include hk ht h

theorem Chip.pendAt_raise : (c.raise k).pendAt t =
    if (c.fget (R.EVR_ROUTE k) F.EVR_ROUTE_TARGET).testBit t then c.pendAt t ||| (1#256 <<< k) else c.pendAt t := by
  obtain ⟨c₀, h₀, h₁⟩ := Chip.raise_at hk ht h
  rw [h₁.pend, Chip.pendAt_raiseAt_self, h₀.route, h₀.pend]

theorem Chip.rd_raise_mergeCnt : (c.raise k).rd (R.EVR_MERGE_CNT t) =
    if (c.fget (R.EVR_ROUTE k) F.EVR_ROUTE_TARGET).testBit t ∧ (c.pendAt t).getLsbD k = true then
      .ofNat 32 (min 0xFFFFFFFF ((c.rd (R.EVR_MERGE_CNT t)).toNat + 1)) else c.rd (R.EVR_MERGE_CNT t) := by
  obtain ⟨c₀, h₀, h₁⟩ := Chip.raise_at hk ht h
  rw [h₁.merges, Chip.rd_raiseAt_mergeCnt, h₀.route, h₀.pend, h₀.merges]

end

end Sys2Proof.Machine
end

section
/-! SUPPORT. The proof of O32: a raise, and the writes of EVR_SWRAISE and of a source's route (R288, R291, R292). -/

namespace Sys2Proof.Machine
open Sys2Proof

/-! ### EVR_SWRAISE (R292) -/

/-- The descriptor of EVR_SWRAISE. -/
def evrSwraiseDesc : RegDesc := ⟨.EVR_SWRAISE, 0x40010800, [], 0, 0, 0, 0xFFFF, 0, 0⟩

theorem findReg_evrSwraise : findReg R.EVR_SWRAISE = some (evrSwraiseDesc, []) := rfl

theorem writerOk_evrSwraise {rq : Req} (ix : List Nat) (a : Nat) (h : rq.code ≤ 5) : writerOk rq .EVR_SWRAISE ix a = true := by
  show (rq == .sup || rq == .host || isCore rq) = true
  revert h
  cases rq <;> decide

/-- A register without a stored bit stays as it is, whatever is written. -/
theorem mergeWord_of_pulses {d : RegDesc} (locked closed : Bool) (old x : Word) (h₁ : d.rw = 0) (h₂ : d.rwl = 0) (h₃ : d.rws = 0) :
    mergeWord d locked closed old x = (old, false) := by
  have hm : openMask d locked closed = 0#32 := by simp [openMask, h₁, h₂, h₃]
  simp only [mergeWord, hm, h₂, h₃, BitVec.not_zero, BitVec.and_allOnes, BitVec.and_zero, BitVec.or_zero, ite_self]
  simp

theorem maskBits_swraise (j : Fin 16) : maskBits 16 (BitVec.ofNat 32 (2 ^ j.val)).toNat = [j.val] := by
  revert j
  decide

theorem Chip.regWrite_evrSwraise (c : Chip) {rq : Req} (x : Word) (h : rq.code ≤ 5) :
    c.regWrite rq R.EVR_SWRAISE x =
      (maskBits 16 x.toNat).foldl (fun c j => c.raise (240 + j)) (c.wr R.EVR_SWRAISE (c.rd R.EVR_SWRAISE)) := by
  have hd : dieOf R.EVR_SWRAISE = 0 := by decide
  have hs : ¬ (0x400C0000 ≤ R.EVR_SWRAISE) := by decide
  have hw := writerOk_evrSwraise (rq := rq) [] R.EVR_SWRAISE h
  simp [Chip.regWrite, findReg_evrSwraise, evrSwraiseDesc, hd, hs, hw, ctrHalf, Chip.plainWrite, Chip.sealedReg,
    mergeWord_of_pulses, regNorm, Chip.wrote]

theorem exec_evrSwraiseWrite {s : State} {rq : Req} (j : Fin 16) (hrq : rq.code ≤ 5) (h : s.chip.atOnce rq R.EVR_SWRAISE 1 = true) :
    exec (.evrSwraiseWrite rq (.ofNat 32 (2 ^ j.val))) s =
      .next (s.onChip fun c => ((c.ungate 0).wr R.EVR_SWRAISE (s.chip.rd R.EVR_SWRAISE)).raise (240 + j)) := by
  show Host.Outcome.next (s.write rq R.EVR_SWRAISE (.ofNat 32 (2 ^ j.val))) = _
  have hold : (s.chip.ungate 0).rd R.EVR_SWRAISE = s.chip.rd R.EVR_SWRAISE := Chip.rd_fset_ne _ _ _ (by decide)
  have hgate : s.chip.touch R.EVR_SWRAISE = s.chip.ungate 0 := rfl
  rw [State.write_atOnce _ h (by decide) (by decide)]
  simp only [State.onChip, hgate, Chip.regWrite_evrSwraise _ _ hrq, hold, maskBits_swraise, List.foldl_cons, List.foldl_nil]

/-! ### EVR_ROUTE (R291) -/

/-- The first descriptor of a list that has a copy at the address is the one found there. -/
theorem findIn_cons {d : RegDesc} {l : List RegDesc} {a : Nat} {ix : List Nat} (hb : d.base ≤ a)
    (hr : repIndex d.reps (a - d.base) = some ix) : findIn (d :: l) a = some (d, ix) := by
  rw [findIn, if_pos hb, hr]

/-- The descriptor of EVR_ROUTE. -/
def evrRouteDesc : RegDesc := ⟨.EVR_ROUTE, 0x40010000, [(256, 0x4, 0)], 0xF7F, 0, 0, 0, 0, 0x110⟩

section
variable (k : Fin 256)

theorem evrRoute_ge : 0x40010000 ≤ R.EVR_ROUTE k := by simp only [R.EVR_ROUTE]; omega
theorem evrRoute_lt : R.EVR_ROUTE k < 0x40010400 := by simp only [R.EVR_ROUTE]; omega

theorem findReg_evrRoute : findReg (R.EVR_ROUTE k) = some (evrRouteDesc, [k.val]) := by
  have hlo := evrRoute_ge k
  have hhi := evrRoute_lt k
  have hdesc : blockDescs regBlocks (R.EVR_ROUTE k) = evrRegs := by
    rw [regBlocks, blockDescs, if_neg (by omega), blockDescs, if_pos (by omega)]
  have hoff : R.EVR_ROUTE k - evrRouteDesc.base = k.val * 0x4 := Nat.add_sub_cancel_left _ _
  have hrep : repIndex evrRouteDesc.reps (k.val * 0x4) = some [k.val] := by simp [repIndex, evrRouteDesc, k.isLt]
  rw [findReg, hdesc]
  exact findIn_cons (d := evrRouteDesc) hlo (by rw [hoff, hrep])

theorem dieOf_evrRoute : dieOf (R.EVR_ROUTE k) = 0 := by
  have := evrRoute_lt k
  unfold dieOf
  rw [if_neg (by omega), if_neg (by omega), if_neg (by omega), if_neg (by omega)]

theorem isAlias_evrRoute : isAlias (R.EVR_ROUTE k) = false := by
  have := evrRoute_lt k
  rw [isAlias, decide_eq_false (by omega), Bool.false_and]

end

/-- The word that a route holds after a write of x over old: TARGET's supervisor bit is the supervisor's alone. -/
def routeWord (rq : Req) (old x : Word) : Word :=
  if rq = .sup then (mergeWord evrRouteDesc false false old x).1
  else (bitFld 4).put (mergeWord evrRouteDesc false false old x).1 ((bitFld 4).get old)

theorem routeWord_prio (rq : Req) (old x : Word) : F.EVR_ROUTE_PRIO.get (routeWord rq old x) = F.EVR_ROUTE_PRIO.get x := by
  unfold routeWord
  split
  · exact Fld.get_mergeWord _ _ _ _ _ _ (by decide)
  · rw [Fld.get_put_ne _ _ _ _ (by decide) (by decide), Fld.get_mergeWord _ _ _ _ _ _ (by decide)]

theorem merged_target (old x : Word) : F.EVR_ROUTE_TARGET.get (mergeWord evrRouteDesc false false old x).1 = F.EVR_ROUTE_TARGET.get x :=
  Fld.get_mergeWord _ _ _ _ _ _ (by decide)

/-- Bit t of TARGET is bit t of the word. -/
theorem testBit_target (x : Word) {t : Nat} (h : t < 7) : (F.EVR_ROUTE_TARGET.get x).testBit t = x.toNat.testBit t := by
  rw [Fld.testBit_get]
  simp [F.EVR_ROUTE_TARGET, h]

/-- Bit t of TARGET after bit 4 of the word has been put back. -/
theorem testBit_target_put (x old : Word) {t : Nat} (h : t < 7) :
    (F.EVR_ROUTE_TARGET.get ((bitFld 4).put x ((bitFld 4).get old))).testBit t =
      if t = 4 then (F.EVR_ROUTE_TARGET.get old).testBit t else (F.EVR_ROUTE_TARGET.get x).testBit t := by
  have h32 : t < 32 := by omega
  rw [testBit_target _ h, testBit_target _ h, testBit_target _ h, Fld.testBit_put, decide_eq_true h32, Bool.true_and]
  have hlo : (bitFld 4).lo = 4 := rfl
  have hw : (bitFld 4).w = 1 := rfl
  by_cases h₄ : t < (bitFld 4).lo
  · rw [if_pos h₄, if_neg (by omega)]
  · rw [if_neg h₄]
    by_cases h₅ : t < (bitFld 4).lo + (bitFld 4).w
    · obtain rfl : t = 4 := by omega
      rw [if_pos h₅, if_pos rfl, Fld.testBit_get]
      rfl
    · rw [if_neg h₅, if_neg (by omega)]

theorem routeWord_target (rq : Req) (old x : Word) {t : Nat} (ht : t < 7) (h : t ≠ 4) :
    (F.EVR_ROUTE_TARGET.get (routeWord rq old x)).testBit t = (F.EVR_ROUTE_TARGET.get x).testBit t := by
  unfold routeWord
  split
  · rw [merged_target]
  · rw [testBit_target_put _ _ ht, if_neg h, merged_target]

theorem routeWord_target_sup (old x : Word) :
    (F.EVR_ROUTE_TARGET.get (routeWord .sup old x)).testBit 4 = (F.EVR_ROUTE_TARGET.get x).testBit 4 := by
  rw [routeWord, if_pos rfl, merged_target]

theorem routeWord_target_other {rq : Req} (old x : Word) (h : rq ≠ .sup) :
    (F.EVR_ROUTE_TARGET.get (routeWord rq old x)).testBit 4 = (F.EVR_ROUTE_TARGET.get old).testBit 4 := by
  rw [routeWord, if_neg h, testBit_target_put _ _ (by omega), if_pos rfl]

theorem Chip.regWrite_evrRoute (c : Chip) (rq : Req) (k : Fin 256) (x : Word) :
    c.regWrite rq (R.EVR_ROUTE k) x = c.wr (R.EVR_ROUTE k) (routeWord rq (c.rd (R.EVR_ROUTE k)) x) := by
  have hk := evrRoute_lt k
  have h₁ : ¬ (0x400C0000 ≤ R.EVR_ROUTE k) := by omega
  have h₂ : ¬ (0x40088000 ≤ R.EVR_ROUTE k) := by omega
  simp [Chip.regWrite, findReg_evrRoute, evrRouteDesc, dieOf_evrRoute, h₁, h₂, writerOk, routeWord]

theorem evrRouteWrite_stores {s : State} {rq : Req} {k : Fin 256} (data : Word) (h : s.chip.atOnce rq (R.EVR_ROUTE k) 1 = true) :
    ∃ c', exec (.evrRouteWrite rq k data) s = .next { s with chip := c' } ∧
      c'.rd (R.EVR_ROUTE k) = routeWord rq (s.chip.rd (R.EVR_ROUTE k)) data ∧
      Only [Blk.sys, (R.EVR_ROUTE k, R.EVR_ROUTE k + 4)] s.chip c' := by
  have ht : Only [Blk.sys] s.chip (s.chip.touch (R.EVR_ROUTE k)) := Only.touch _ _
  have hold : (s.chip.touch (R.EVR_ROUTE k)).rd (R.EVR_ROUTE k) = s.chip.rd (R.EVR_ROUTE k) := by
    exact ht _ (by simpa [Blk.sys] using fun _ => evrRoute_ge k)
  refine ⟨(s.chip.touch (R.EVR_ROUTE k)).regWrite rq (R.EVR_ROUTE k) data, ?_, ?_, ?_⟩
  · exact congrArg Host.Outcome.next (State.write_atOnce data h (dieOf_evrRoute k) (isAlias_evrRoute k))
  · rw [Chip.regWrite_evrRoute, Chip.rd_wr_self, hold]
  · rw [Chip.regWrite_evrRoute]
    exact (ht.mono (by simp)).trans (Only.wr _ _ _ ⟨(R.EVR_ROUTE k, R.EVR_ROUTE k + 4), by simp, by simp⟩)

/-- Settles O32: a raise at the counts, the targets and the other registers, and the writes of EVR_SWRAISE and of a route. -/
theorem raisesAreCountedPendingOrMerged : Obligations.RaisesAreCountedPendingOrMerged := by
  unfold Obligations.RaisesAreCountedPendingOrMerged
  refine ⟨?counted, ?pending, ?merged, ?others, ?swraise, ?route⟩
  case counted => exact fun c k h => Chip.rd_raise_cnt h k.isLt
  case pending => exact fun c k t h => Chip.pendAt_raise k.isLt t.isLt h
  case merged => exact fun c k t h => Chip.rd_raise_mergeCnt k.isLt t.isLt h
  case others => exact fun c k a hk hm hp => Chip.rd_raise_ne c k hp hk fun t ht => hm ⟨t, ht⟩
  case swraise => exact fun rq j s hrq h => exec_evrSwraiseWrite j hrq h
  case route =>
    intro rq k data s h
    obtain ⟨c', hexec, hword, honly⟩ := evrRouteWrite_stores data h
    refine ⟨c', hexec, ?_, fun t ht ht4 => ?_, ?_, honly⟩
    · rw [Chip.fget, hword, routeWord_prio]
    · rw [Chip.fget, hword, routeWord_target _ _ _ ht ht4]
    · rw [Chip.fget, hword]
      split
      case isTrue hsup => rw [hsup, routeWord_target_sup]
      case isFalse hsup => rw [routeWord_target_other _ _ hsup, Chip.fget]

end Sys2Proof.Machine
end

section
/-! SUPPORT. What every command keeps: it answers a next state, the queue of waiting commands stays, and memory stays in canonical form. -/

namespace Sys2Proof.Machine
open Sys2Proof

/-- t follows s with the same waiting commands, and with memory in canonical form where it was in s. -/
def State.Follows (s t : State) : Prop := t.pending = s.pending ∧ (s.MemOk → t.MemOk)

namespace State.Follows

theorem refl (s : State) : s.Follows s := ⟨rfl, id⟩
theorem trans {s t u : State} (h : s.Follows t) (h' : t.Follows u) : s.Follows u := ⟨h'.1.trans h.1, h'.2 ∘ h.2⟩
theorem onChip {s t : State} (f : Chip → Chip) (h : s.Follows t) : s.Follows (t.onChip f) := h
theorem on (s : State) (f : Chip → Chip) : s.Follows (s.onChip f) := refl s
theorem chip (s : State) (c : Chip) : s.Follows { s with chip := c } := refl s
theorem empty (s : State) (c : Chip) : s.Follows { s with chip := c, sram := [] } := ⟨rfl, fun _ => rfl⟩
theorem ite {s t u : State} {p : Prop} [Decidable p] (h : s.Follows t) (h' : s.Follows u) : s.Follows (if p then t else u) := by
  split
  · exact h
  · exact h'

/-! ### Memory (R282, R399) -/

theorem put (s : State) (rq : Req) (a : Nat) (bs : List Byte) : s.Follows (s.put rq a bs) := ⟨rfl, memOk_put s rq a bs⟩
theorem store (s : State) (rq : Req) (a : Nat) (bs : List Byte) : s.Follows (s.store rq a bs) := by
  refine ⟨?_, memOk_store s rq a bs⟩
  unfold State.store
  split_ifs <;> rfl
theorem storeAll (rq : Req) : ∀ (s : State) (a : Nat) (bs : List Byte), s.Follows (s.storeAll rq a bs)
  | s, _, _ :: _ :: _ :: _ :: l => (store s rq _ _).trans (storeAll rq _ _ l)
  | s, _, [] => refl s
  | s, _, [_] => store s rq _ _
  | s, _, [_, _] => store s rq _ _
  | s, _, [_, _, _] => store s rq _ _
theorem foldl {α : Type} {f : State → α → State} (h : ∀ (s : State) (a : α), s.Follows (f s a)) : ∀ (l : List α) (s : State), s.Follows (l.foldl f s)
  | [], s => refl s
  | a :: l, s => (h s a).trans (foldl h l _)
theorem zeroBanks (s : State) (p : Nat → Bool) : s.Follows (s.zeroBanks p) :=
  foldl (f := fun (s : State) (k : Nat) => if p k then { s with sram := Memory.zero s.sram _ _ } else s)
    (fun s _ => ite ⟨rfl, fun h => Memory.wf_zero s.sram _ _ h⟩ (refl s)) _ s
theorem controlReset (s : State) (cause : Nat) (env : StartEnv) : s.Follows (s.controlReset cause env) := empty s _
theorem storageStart (s : State) (env : StartEnv) : s.Follows (s.storageStart env) := empty s _
theorem supplyOff (s : State) : s.Follows s.supplyOff := empty s _
theorem powerOn (s : State) (cause : Nat) (env : StartEnv) : s.Follows (s.powerOn cause env) :=
  (supplyOff (s.onChip _)).onChip _
theorem fillDone (s : State) (k : Nat) : s.Follows (s.fillDone k) := ite ((zeroBanks s _).onChip _) (refl s)

/-! ### Accesses of the address map (R4, R31, R278) -/

theorem guarded (s : State) (rq : Req) (user : Bool) (a n bit : Nat) {f : State → State} (h : ∀ s : State, s.Follows (f s)) :
    s.Follows (s.guarded rq user a n bit f) :=
  ite (chip s _) (ite (chip s _) ((chip s _).trans (h _)))
theorem write (s : State) (rq : Req) (a : Nat) (x : Word) : s.Follows (s.write rq a x) := guarded _ _ _ _ _ _ fun s => on s _
theorem read (s : State) (rq : Req) (a : Nat) : s.Follows (s.read rq a) := guarded _ _ _ _ _ _ fun s => on s _
theorem busWrite (s : State) (rq : Req) (w : Width) (a : Nat) (x : Word) : s.Follows (s.busWrite rq w a x) := by
  unfold State.busWrite
  cases region a
  case sram => exact ite (on s _) (store s _ _ _)
  all_goals exact on s _
theorem atomicAccess (s : State) (k : Fin 4) (user : Bool) (o : AtomicOp) (a : Nat) (x : Word) : s.Follows (s.atomicAccess k user o a x) := by
  refine ite (refl s) (ite (on s _) (ite (on s _) ?_))
  cases o
  case lr => exact ite (on s _) (on s _)
  case sc => exact ite ((on s _).trans (store _ _ _ _)) (on s _)
  all_goals exact ite (on s _) ((put s _ _ _).onChip _)
theorem ctrReadLow (s : State) (rq : Req) (t : Ctr64) : s.Follows (s.ctrReadLow rq t) := by
  cases t
  case hpm => exact on s _
  all_goals exact read s _ _
theorem ctrReadHigh (s : State) (rq : Req) (t : Ctr64) : s.Follows (s.ctrReadHigh rq t) := by
  cases t
  case hpm => exact on s _
  all_goals exact read s _ _
theorem ctrWriteHigh (s : State) (rq : Req) (x : Word) (t : Ctr64) : s.Follows (s.ctrWriteHigh rq x t) := by
  cases t
  case hpm => exact on s _
  all_goals exact write s _ _ _
theorem ctrWriteLow (s : State) (rq : Req) (x : Word) (t : Ctr64) : s.Follows (s.ctrWriteLow rq x t) := by
  cases t
  case hpm => exact on s _
  all_goals exact write s _ _ _
theorem snapshot (s : State) (wfi : BitVec 4) : s.Follows (s.snapshot wfi) :=
  ite (refl s) (ite (((chip s _).trans (put _ _ _ _)).onChip _) (chip s _))

/-! ### The host port (R306 to R316) -/

theorem frame (s : State) (op addr : Nat) (why : Option FrameErr) {f : State → State} (h : ∀ s : State, s.Follows (f s)) :
    s.Follows (s.frame op addr why f) := by
  refine ite (refl s) ?_
  cases why with
  | none => exact (chip s _).trans (h _)
  | some e => exact ((chip s _).trans (ite (h _) (refl _))).onChip _
theorem hostWrite (s : State) (a : Nat) (x : Word) : s.Follows (s.hostWrite a x) :=
  ite (ite (store s _ _ _) (on s _)) (ite (on s _) (on s _))
theorem hostWords : ∀ (l : List Word) (s : State) (a : Nat), s.Follows (s.hostWords a l)
  | [], s, _ => refl s
  | x :: l, s, a => (hostWrite s a x).trans (hostWords l _ _)
theorem hostRead (s : State) (a : Nat) : s.Follows (s.hostRead a).2 := by
  unfold State.hostRead
  dsimp only
  split_ifs <;> exact chip s _
theorem hostReads : ∀ (l : List Nat) (s : State), s.Follows (s.hostReads l).2
  | [], s => refl s
  | a :: l, s => (hostRead s a).trans (hostReads l _)
theorem readsDone (s : State) : s.Follows s.readsDone := by
  unfold State.readsDone
  split
  case h_1 => exact refl s
  case h_2 d _ => exact ite (((on s _).trans (hostReads d.addrs _)).onChip _) (refl s)

/-! ### Commands that read or write SRAM (R460 to R480) -/

/-- A command whose blob decides (R463) works on the module alone. Stated of a function that equals State.ackCmd and not of State.ackCmd
itself: the kernel would evaluate the blob to compare the two. The same of the two commands below. -/
theorem of_eq_ackCmd {f : State → Cmd → State} (hf : f = State.ackCmd) (s : State) (k : Cmd) : s.Follows (f s k) := by
  delta State.ackCmd at hf
  subst hf
  beta_reduce
  cases s.blob 2 (k.arg 1).toNat (k.arg 2).toNat <;> exact on s _
theorem of_eq_eraseCmd {f : State → Cmd → State} (hf : f = State.eraseCmd) (s : State) (k : Cmd) : s.Follows (f s k) := by
  delta State.eraseCmd at hf
  subst hf
  beta_reduce
  cases s.blob 3 (k.arg 1).toNat (k.arg 2).toNat <;> exact on s _
theorem of_eq_installCmd {f : State → Cmd → State} (hf : f = State.installCmd) (s : State) (k : Cmd) : s.Follows (f s k) := by
  delta State.installCmd at hf
  subst hf
  beta_reduce
  cases s.blob 1 (k.arg 1).toNat (k.arg 2).toNat <;> exact on s _
theorem ackCmd (s : State) (k : Cmd) : s.Follows (s.ackCmd k) := of_eq_ackCmd rfl s k
theorem eraseCmd (s : State) (k : Cmd) : s.Follows (s.eraseCmd k) := of_eq_eraseCmd rfl s k
theorem installCmd (s : State) (k : Cmd) : s.Follows (s.installCmd k) := of_eq_installCmd rfl s k
theorem logNext : ∀ (n : Nat) (s : State), s.Follows (State.logNext n s)
  | 0, s => refl s
  | n + 1, s => by
    refine ite (refl s) ?_
    cases s.chip.cmds.filter isLogCmd with
    | nil => exact refl s
    | cons k l =>
      exact (on s _).trans (ite ((on _ _).trans (logNext n _)) (ite ((ackCmd _ k).trans (logNext n _)) ((eraseCmd _ k).trans (logNext n _))))
theorem logPump (s : State) : s.Follows s.logPump := ite ((on s _).trans (logNext _ _)) (refl s)
theorem jobDone (s : State) : s.Follows s.jobDone := by
  refine ite (refl s) ?_
  cases s.chip.grain.job with
  | none => exact refl s
  | some j =>
    cases j with
    | sealing => exact (on s _).trans (logPump _)
    | attest => exact (storeAll _ s _ _).onChip _
theorem command (s : State) (rq : Req) (op : Nat) (lens : Cmd → Bool) (checks : Chip → Cmd → List Check) {run : State → Cmd → State}
    (h : ∀ (s : State) (k : Cmd), s.Follows (run s k)) : s.Follows (s.command rq op lens checks run) := by
  unfold State.command
  split
  · exact refl s
  · exact chip s _
  · exact (chip s _).trans (h _ _)

/-! ### Wakes and resets (R388, R405, R485) -/

theorem warmStart (s : State) (ws : List WakeAt) (env : StartEnv) : s.Follows (s.warmStart ws env) :=
  ite (controlReset s _ _) ((zeroBanks s _).onChip _)
theorem wake (s : State) (ws : List WakeAt) (env : StartEnv) : s.Follows (s.wake ws env) :=
  ite (refl s) (ite ((on s _).trans (warmStart _ _ _)) (on s _))
theorem canPattern (s : State) (n : Fin 9) (env : StartEnv) : s.Follows (s.canPattern n env) := by
  unfold State.canPattern
  split_ifs
  · exact storageStart s _
  · exact wake s _ _
  · exact refl s
  · exact wake s _ _
  · exact refl s
theorem ecuReset (s : State) (kind : Nat) (env : StartEnv) : s.Follows (s.ecuReset kind env) :=
  ite (refl s) (ite (on s _) (ite (on s _) ((on s _).trans (controlReset _ _ _))))
theorem idle (s : State) : s.Follows s.idle := (on s _).trans (logPump _)

/-- Every command answers a next state that follows the one it runs in. A command not named works on the module alone. -/
theorem of_exec (i : Instr) (s : State) : ∃ t, exec i s = .next t ∧ s.Follows t := by
  cases i
  case sysLinkRetrain => exact ⟨_, rfl, ite (refl s) ((write s _ _ _).onChip _)⟩
  case registerWrite => exact ⟨_, rfl, guarded _ _ _ _ _ _ fun s => busWrite s _ _ _ _⟩
  case lockGroupClose => exact ⟨_, rfl, write s _ _ _⟩
  case sysDrainRead => exact ⟨_, rfl, guarded _ _ _ _ _ _ fun s => on s _⟩
  case orderTokenRead => exact ⟨_, rfl, guarded _ _ _ _ _ _ fun s => on s _⟩
  case aliasRead => exact ⟨_, rfl, guarded _ _ _ _ _ _ fun s => on s _⟩
  case aliasWrite => exact ⟨_, rfl, ite (guarded _ _ _ _ _ _ fun s => busWrite s _ _ _ _) (refl s)⟩
  case atomicAccess => exact ⟨_, rfl, atomicAccess s _ _ _ _ _⟩
  case cdeSnapshot => exact ⟨_, rfl, snapshot s _⟩
  case counter64LowRead => exact ⟨_, rfl, ctrReadLow s _ _⟩
  case counter64HighRead => exact ⟨_, rfl, ctrReadHigh s _ _⟩
  case counter64HighWrite => exact ⟨_, rfl, ctrWriteHigh s _ _ _⟩
  case counter64LowWrite => exact ⟨_, rfl, ctrWriteLow s _ _ _⟩
  case hspNop => exact ⟨_, rfl, frame s _ _ _ fun s => refl s⟩
  case hspWrite => exact ⟨_, rfl, frame s _ _ _ fun s => hostWords _ s _⟩
  case hspWriteFixed => exact ⟨_, rfl, frame s _ _ _ fun s => foldl (fun s x => hostWrite s _ x) _ s⟩
  case hspFetch => exact ⟨_, rfl, frame s _ _ _ fun s => on s _⟩
  case hspWritePkt addr ws part =>
    refine ⟨_, rfl, ?_⟩
    cases hostQueue addr.toNat with
    | none => exact frame s _ _ _ fun s => refl s
    | some q => exact frame s _ _ _ fun s => ite (refl s) (on s _)
  case hspFpRead => exact ⟨_, rfl, frame s _ _ _ fun s => on s _⟩
  case hspReadReq => exact ⟨_, rfl, frame s _ _ _ fun s => on s _⟩
  case hspReadReqFixed => exact ⟨_, rfl, frame s _ _ _ fun s => on s _⟩
  case hspWake => exact ⟨_, rfl, frame s _ _ _ fun s => (wake s _ _).onChip _⟩
  case deferredReadsDone => exact ⟨_, rfl, readsDone s⟩
  case qBankSwap => exact ⟨_, rfl, ite ((chip s _).trans (logPump _)) (chip s _)⟩
  case signJobComplete => exact ⟨_, rfl, jobDone s⟩
  case nvmOpComplete => exact ⟨_, rfl, ite ((chip s _).trans (logPump _)) (chip s _)⟩
  case moduleSupplyLoss => exact ⟨_, rfl, supplyOff s⟩
  case siWakeEdge => exact ⟨_, rfl, ite (wake s _ _) (refl s)⟩
  case lockstepMismatch => exact ⟨_, rfl, ite (controlReset s _ _) (refl s)⟩
  case swkFrameDecoded => exact ⟨_, rfl, (on s _).trans (wake _ _ _)⟩
  case canWakePattern => exact ⟨_, rfl, canPattern s _ _⟩
  case linWakeSignal => exact ⟨_, rfl, ite ((wake s _ _).onChip _) (wake s _ _)⟩
  case retFillComplete => exact ⟨_, rfl, fillDone s _⟩
  case patrolCycle => exact ⟨_, rfl, (on s _).trans (wake _ _ _)⟩
  case sniffWindow => exact ⟨_, rfl, ite (wake s _ _) (refl s)⟩
  case patAlarmExpire => exact ⟨_, rfl, ite (wake s _ _) (refl s)⟩
  case modulePowerOn => exact ⟨_, rfl, powerOn s _ _⟩
  case vsenLowTimeout => exact ⟨_, rfl, ite (powerOn s _ _) (refl s)⟩
  case resetNLow => exact ⟨_, rfl, controlReset s _ _⟩
  case sysSwresetGo =>
    exact ⟨_, rfl, ((on s _).trans (write _ _ _ _)).trans (ite (controlReset _ _ _) (on _ _))⟩
  case wdtTimeout => exact ⟨_, rfl, ite (controlReset s _ _) (refl s)⟩
  case supWdtTimeout => exact ⟨_, rfl, ite (controlReset s _ _) (refl s)⟩
  case limpRetryExpire => exact ⟨_, rfl, ite (controlReset s _ _) (refl s)⟩
  case sysResetDelayExpire =>
    refine ⟨_, rfl, ?_⟩
    cases s.chip.modex.resetDue with
    | none => exact refl s
    | some cause => exact controlReset s _ _
  case wakeInPulse =>
    exact ⟨_, rfl, (chip s _).trans (ite (refl _) (ite (storageStart _ _) (ite (wake _ _ _) ((wake _ _ _).onChip _))))⟩
  case ecuReset => exact ⟨_, rfl, ecuReset s _ _⟩
  case cmdCancel => exact ⟨_, rfl, command s _ _ _ _ fun s _ => on s _⟩
  case cmdAbort => exact ⟨_, rfl, command s _ _ _ _ fun s _ => (on s _).trans (logPump _)⟩
  case secCert => exact ⟨_, rfl, command s _ _ _ _ fun s _ => (storeAll _ s _ _).onChip _⟩
  case sealInstall => exact ⟨_, rfl, command s _ _ _ _ fun s k => (on s _).trans (installCmd _ k)⟩
  case logExport => exact ⟨_, rfl, command s _ _ _ _ fun s _ => (on s _).trans (logNext _ _)⟩
  case logAck => exact ⟨_, rfl, command s _ _ _ _ fun s _ => (on s _).trans (logNext _ _)⟩
  case logErase => exact ⟨_, rfl, command s _ _ _ _ fun s _ => (on s _).trans (logNext _ _)⟩
  case evrSwraiseWrite | evrRouteWrite | qPushWrite | qPushEopWrite | qMark | qRewind | qEnable | qDisable | chCmdApply |
      chCmdRearm | pwrCommitGo | isBudgetWrite | isEnableWrite | isDeferMaxWrite | pwrPairWrite | chOwnerWrite | chDisableSet |
      chEnable | streamCtrlWrite | xcGo | tdrGo | tdrStop | cantMeasTerm | cantMeasStep | lsCtrlApply | lsCtrlRearm | ledCommitGo
      | ledHrRearm | lfDisable | peCtrlStart | peCtrlStop | vlvCmdReqClear | vlvDisable | vlvEnable | vgParWrite | fpCmdOnWrite |
      fpDisable | fpModeWrite | canTxreqWrite | canTxcancelWrite | canEnSet | canRecover | linSleepWrite | linWakeWrite |
      padRelease | retAckWrite | wdtKick | nmLocalAwakeWrite | nmOffClear | pwrSealAck =>
    exact ⟨_, rfl, write s _ _ _⟩
  case vlvCmdReqSet | vlvCmdRearm | fpCmdRearm | canEnClear =>
    exact ⟨_, rfl, (on s _).trans (write _ _ _ _)⟩
  case evrClaimRead | qPopRead | canMbW0Read | canMbLastRead | siState0Read =>
    exact ⟨_, rfl, read s _ _⟩
  all_goals exact ⟨_, rfl, chip s _⟩

end State.Follows

end Sys2Proof.Machine
end

section
/-! SUPPORT. The statements on every command at once: O1, O3, O4, O5 and O59. -/

namespace Sys2Proof.Machine
open Sys2Proof

/-- Settles O1: a step by the queue's two cases. -/
theorem stepRunsTheFrontCommand : Obligations.StepRunsTheFrontCommand := by
  refine ⟨fun i l s h => ?_, fun s h => ?_⟩
  · rw [step, h]
    rfl
  · rw [step, h]

/-- Settles O4: no byte is listed at reset. -/
theorem resetMemoryIsCanonical : Obligations.ResetMemoryIsCanonical := rfl

/-- Settles O3: the front command, or the idle microsecond, keeps memory in canonical form. -/
theorem everyStepKeepsMemoryCanonical : Obligations.EveryStepKeepsMemoryCanonical := by
  intro s t hs ht
  cases hp : s.pending with
  | nil =>
    rw [stepRunsTheFrontCommand.2 s hp, Host.Outcome.next.injEq] at ht
    exact ht ▸ (State.Follows.idle s).2 hs
  | cons i l =>
    obtain ⟨u, hu, hf⟩ := State.Follows.of_exec i (s.rest l)
    rw [stepRunsTheFrontCommand.1 i l s hp] at ht
    have htu : t = u := Host.Outcome.next.inj (ht.symm.trans hu)
    exact htu ▸ hf.2 hs

/-- Settles O5: the answered state is the one that follows. -/
theorem commandsLeaveTheQueueAlone : Obligations.CommandsLeaveTheQueueAlone := by
  intro i s t ht
  obtain ⟨u, hu, hf⟩ := State.Follows.of_exec i s
  have htu : t = u := Host.Outcome.next.inj (ht.symm.trans hu)
  exact htu ▸ hf.1

/-- Settles O59: each command's arm answers a next state. -/
theorem noCommandStops : Obligations.NoCommandStops := by
  intro i s
  obtain ⟨t, ht, -⟩ := State.Follows.of_exec i s
  exact ⟨t, ht⟩

end Sys2Proof.Machine
end

section
/-! SUPPORT. The refutation of O7: a read request of the high half of a latched pair answers the latch. -/

namespace Sys2Proof.Machine
open Sys2Proof

/-- The supervisor's read request of SI_STATE1, on its way to the sentinel. -/
def si1Request : Sent := { seq := 0, rq := .sup, write := false, addr := R.SI_STATE1, data := 0, landed := false }

/-- The sentinel's link is up, si1Request is on its way, and the supervisor's last read of SI_STATE0 has latched 1 of SI_STATE1, which
reads 0. -/
def si1Latched : State :=
  { chip := { regs := [(R.SYS_LINK_STATUS 1, F.SYS_LINK_STATUS_UP.of 1)], links := [(1, { sent := [si1Request] })]
              latch := [(R.SI_STATE0 * 16 + Req.sup.code, 1)] } }

/-- The die-local address of SI_STATE1. -/
def si1Local : BitVec 24 := 0x042004

/-- The frame of that request, its CRC right. -/
def si1Frame : Instr := .readRequestFrame 1 si1Local .sup 0 (.ofNat 16 (frameCrc [(24, si1Local.toNat), (4, Req.sup.code), (6, 0)]))

theorem si1Latched_answers : ∃ c', exec si1Frame si1Latched = .next { si1Latched with chip := c' } ∧ (c'.link 1).answers = [(0, 1)] :=
  ⟨_, rfl, by decide +kernel⟩

/-- Refutes O7: the answer to a READ_REQUEST_FRAME of SI_STATE1 is the half that the requester's read of SI_STATE0 latched (R254), not
the register's present value; with 1 latched and 0 in the register the die answers 1. -/
theorem not_framesOfALinkThatIsUp : ¬ Obligations.FramesOfALinkThatIsUp := by
  unfold Obligations.FramesOfALinkThatIsUp
  rintro ⟨-, read, -⟩
  obtain ⟨c', he, -, ha⟩ := read 1 si1Local .sup 0 (.ofNat 16 (frameCrc [(24, si1Local.toNat), (4, Req.sup.code), (6, 0)])) si1Request []
    si1Latched (by decide) (by decide +kernel) (by decide +kernel) (by decide +kernel) (by decide +kernel) (by decide +kernel)
  obtain ⟨c₁, he₁, ha₁⟩ := si1Latched_answers
  obtain rfl : c' = c₁ := by simpa using he.symm.trans he₁
  have h : (si1Latched.chip.link 1).answers ++ [(0, si1Latched.chip.peek .sup (dieAddr 1 si1Local))] = [(0, 1)] := ha.symm.trans ha₁
  exact absurd h (by decide +kernel)

end Sys2Proof.Machine
end

section
/-! SUPPORT. The proof of O10: an alias bit, and the halves of SYS_MTIME (R35 to R38, R53, R54). -/

namespace Sys2Proof.Machine
open Sys2Proof

/-! ### The halves of a 64-bit counter (R53, R54) -/

theorem latchOf_setLatch_self (c : Chip) (a : Nat) (rq : Req) (x : Word) : (c.setLatch a rq x).latchOf a rq = x := Tbl.get_set_self _ _ _ _
theorem staged_setStaged_self (c : Chip) (a : Nat) (x : Word) : (c.setStaged a x).staged a = x := Tbl.get_set_self _ _ _ _

section
variable (c : Chip) (rq : Req) (x : Word)

theorem Chip.regRead_mtimeLo : c.regRead rq R.SYS_MTIME_LO = c.readLow rq R.SYS_MTIME_LO := rfl
theorem Chip.regRead_mtimeHi : c.regRead rq R.SYS_MTIME_HI = (c.latchOf R.SYS_MTIME_LO rq, c) := rfl
theorem Chip.regWrite_mtimeLo : c.regWrite rq R.SYS_MTIME_LO x = c.writeLow R.SYS_MTIME_LO x := rfl
theorem Chip.regWrite_mtimeHi : c.regWrite rq R.SYS_MTIME_HI x = c.writeHigh R.SYS_MTIME_LO x := rfl

end

theorem Chip.atOnce_awake {c : Chip} {rq : Req} {a bit : Nat} (h : c.atOnce rq a bit = true) :
    c.awake = true ∧ c.stalled rq = false ∧ c.admits rq a bit = true := by
  simpa [Chip.atOnce, and_assoc] using h

/-- A requester that is no core has no privilege mode. -/
theorem Chip.passes_noCore {c : Chip} {rq : Req} (hc : 4 ≤ rq.code) (u v : Bool) (a n m bit : Nat) :
    c.passes rq u a n bit = c.passes rq v a m bit := by
  simp [Chip.passes, hc]

theorem Chip.passes_of_atOnce {c : Chip} {rq : Req} {a bit : Nat} (u : Bool) (n : Nat) (hc : 4 ≤ rq.code) (h : c.atOnce rq a bit = true) :
    c.passes rq u a n bit = true := by
  obtain ⟨-, -, hp⟩ := Chip.atOnce_awake h
  rw [Chip.passes_noCore hc u (c.core rq.code).user a n 4 bit]
  exact hp

/-- Settles O10: the access is let through and takes effect at once, and each register's meaning is its half's. -/
theorem aliasesAndWideCounters : Obligations.AliasesAndWideCounters := by
  unfold Obligations.AliasesAndWideCounters
  refine ⟨?aliasRead, ?aliasWrite, ?lowRead, ?highRead, ?highWrite, ?lowWrite⟩
  case aliasRead =>
    intro rq u k s hc h
    obtain ⟨hw, hs, -⟩ := Chip.atOnce_awake h
    exact aliasRead_msip k hw hs (Chip.passes_of_atOnce u 4 hc h)
  case aliasWrite =>
    intro u k data s hw hs hl
    exact aliasWrite_msip k data hw hs (by simp [Chip.passes, Req.code]) hl
  case lowRead =>
    intro rq s h
    refine ⟨_, congrArg Host.Outcome.next (State.read_atOnce h rfl rfl), ?_, ?_, Only.of_regs rfl⟩
    · exact Chip.respOf_answer_self _ _ _ _ _
    · exact latchOf_setLatch_self _ _ _ _
  case highRead =>
    intro rq s h
    exact ⟨_, congrArg Host.Outcome.next (State.read_atOnce h rfl rfl), Chip.respOf_answer_self _ _ _ _ _, Only.of_regs rfl⟩
  case highWrite =>
    intro rq data s h hl
    exact ⟨_, congrArg Host.Outcome.next (State.write_atOnce data h rfl rfl), staged_setStaged_self _ _ _, rfl, Only.of_regs rfl⟩
  case lowWrite =>
    intro rq data s h hl
    refine ⟨_, congrArg Host.Outcome.next (State.write_atOnce data h rfl rfl), ?_, ?_, Only.of_regs rfl⟩
    · exact Tbl.get_set_self _ _ _ _
    · exact staged_setStaged_self _ _ _

end Sys2Proof.Machine
end

section
/-! SUPPORT. The proof of O9: register writes, drains, order tokens, time-outs and clock gating. -/

namespace Sys2Proof.Machine
open Sys2Proof

/-! ### Writes of a threshold and of SYS_LOCK (R42, R43) -/

section
variable (t : Fin 7)

/-- The descriptor of the thresholds. -/
def evrThreshDesc : RegDesc := ⟨.EVR_THRESH, 0x40011000, [(7, 0x100, 0)], 0xF, 0, 0, 0, 0, 0⟩

theorem evrThresh_toNat : (BitVec.ofNat 32 (R.EVR_THRESH t)).toNat = R.EVR_THRESH t := by revert t; decide
theorem evrThresh_region : region (R.EVR_THRESH t) = .periph := by revert t; decide
theorem evrThresh_aligned : badSize .word (R.EVR_THRESH t) = false := by revert t; decide
theorem evrThresh_die : dieOf (R.EVR_THRESH t) = 0 := by revert t; decide
theorem evrThresh_alias : isAlias (R.EVR_THRESH t) = false := by revert t; decide
theorem evrThresh_block : blockOf (R.EVR_THRESH t) = some 0 := by revert t; decide
theorem findReg_evrThresh : findReg (R.EVR_THRESH t) = some (evrThreshDesc, [t.val]) := by fin_cases t <;> rfl

theorem Chip.regWrite_evrThresh (c : Chip) (rq : Req) (x : Word) :
    c.regWrite rq (R.EVR_THRESH t) x = c.wr (R.EVR_THRESH t) ((c.rd (R.EVR_THRESH t) &&& ~~~0xF) ||| (x &&& 0xF)) := by
  have h₁ : ¬ (0x400C0000 ≤ R.EVR_THRESH t) := by revert t; decide
  have h₂ : ¬ (0x40088000 ≤ R.EVR_THRESH t) := by revert t; decide
  have h₃ : c.lockClosed (R.EVR_THRESH t) = false := by
    have h₄ : ¬ R.EVR_THRESH t < 0x40010000 := by revert t; decide
    have h₅ : ¬ 0x40030000 ≤ R.EVR_THRESH t := by revert t; decide
    simp [Chip.lockClosed, h₄, h₅]
  simp [Chip.regWrite, findReg_evrThresh, evrThreshDesc, evrThresh_die, h₁, h₂, h₃, writerOk, ctrHalf, Chip.plainWrite, Chip.sealedReg,
    mergeWord, openMask, regNorm, Chip.wrote]

theorem low_of_merge (old x : Word) : ((old &&& ~~~0xF) ||| (x &&& 0xF)) &&& 0xF = x &&& 0xF := by
  ext i hi
  simp only [BitVec.getElem_and, BitVec.getElem_or, BitVec.getElem_not]
  cases (0xF : Word)[i] <;> simp

end

/-- A word write to an aligned register of the control die by a requester that is no core. -/
theorem exec_registerWrite_near {s : State} {rq : Req} {u : Bool} {a : Nat} (x : Word) (hc : 4 ≤ rq.code) (h : s.chip.atOnce rq a 1 = true)
    (ha : (BitVec.ofNat 32 a).toNat = a) (hr : region a = .periph) (hb : badSize .word a = false) (hd : dieOf a = 0)
    (hal : isAlias a = false) :
    exec (.registerWrite rq u .word (.ofNat 32 a) x) s = .next (s.onChip fun c => (c.touch a).regWrite rq a x) := by
  have hm : s.chip.inMode rq u = s.chip := by simp [Chip.inMode, Nat.not_lt.mpr hc]
  have hw : s.write rq a x = s.onChip (·.periphWrite rq a x) := State.mayAccess_admits _ (Chip.atOnce_awake h).2.2
  show Host.Outcome.next (s.guarded rq u _ 4 1 fun s => s.busWrite rq .word _ x) = _
  rw [ha, State.guarded_passes _ (Chip.passes_of_atOnce u 4 hc h), ← State.write_atOnce x h hd hal, hw]
  simp [State.onChip, hm, State.busWrite, hr, hb]

theorem registerWrite_threshold {rq : Req} {u : Bool} (t : Fin 7) (x : Word) {s : State} (hc : 4 ≤ rq.code)
    (h : s.chip.atOnce rq (R.EVR_THRESH t) 1 = true) :
    ∃ c', exec (.registerWrite rq u .word (.ofNat 32 (R.EVR_THRESH t)) x) s = .next { s with chip := c' } ∧
      c'.rd (R.EVR_THRESH t) &&& 0xF = x &&& 0xF ∧ (∀ a, a ≠ R.EVR_THRESH t → a ≠ R.SYS_BLK_POWER 0 → c'.rd a = s.chip.rd a) := by
  refine ⟨_, exec_registerWrite_near x hc h (evrThresh_toNat t) (evrThresh_region t) (evrThresh_aligned t) (evrThresh_die t) (evrThresh_alias t),
    ?_, fun a ha hp => ?_⟩
  · show ((s.chip.touch (R.EVR_THRESH t)).regWrite rq (R.EVR_THRESH t) x).rd _ &&& 0xF = _
    rw [Chip.regWrite_evrThresh, Chip.rd_wr_self, low_of_merge]
  · show ((s.chip.touch (R.EVR_THRESH t)).regWrite rq (R.EVR_THRESH t) x).rd a = _
    rw [Chip.regWrite_evrThresh, Chip.rd_wr_ne _ _ ha, Chip.touch, evrThresh_block]
    exact Chip.rd_fset_ne _ _ _ hp

theorem lockGroupClose_sys {rq : Req} {s : State} (h : s.chip.atOnce rq R.SYS_LOCK 1 = true)
    (ho : Tbl.get (fun _ => false) s.chip.wo1 R.SYS_LOCK = false) :
    ∃ c', exec (.lockGroupClose rq .sys) s = .next { s with chip := c' } ∧ c'.flag R.SYS_LOCK F.SYS_LOCK_LOCK = true ∧
      (∀ a, a ≠ R.SYS_LOCK → c'.rd a = s.chip.rd a) := by
  have hw : s.chip.regWrite rq R.SYS_LOCK 1 =
      { s.chip.wr R.SYS_LOCK (1 &&& 1) with wo1 := Tbl.set (fun _ => false) s.chip.wo1 R.SYS_LOCK true } := by
    show s.chip.onceWrite R.SYS_LOCK 1 1 = _
    rw [Chip.onceWrite, ho]
    rfl
  refine ⟨_, congrArg Host.Outcome.next (State.write_atOnce 1 h rfl rfl), ?_, fun a ha => ?_⟩
  · show (s.chip.regWrite rq R.SYS_LOCK 1).flag _ _ = true
    rw [hw]
    show (s.chip.wr R.SYS_LOCK (1 &&& 1)).flag _ _ = true
    simp [Chip.flag, F.SYS_LOCK_LOCK, Fld.get]
  · show (s.chip.regWrite rq R.SYS_LOCK 1).rd a = _
    rw [hw]
    exact Chip.rd_wr_ne (a := R.SYS_LOCK) s.chip (1 &&& 1) ha

/-! ### Drains and tokens (R66, R67) -/

theorem busOf_answer (c : Chip) (rq : Req) (a : Nat) (x : Word) (e : Nat) (rq' : Req) : (c.answer rq a x e).busOf rq' = c.busOf rq' := rfl

/-- Nothing goes on where nothing of the requester waits. -/
theorem Chip.resume_none {c : Chip} {rq : Req} (h : (c.busOf rq).held = []) : c.resume rq = c := by
  rw [Chip.resume, h]
  rfl

theorem Chip.regRead_drain (c : Chip) (rq : Req) :
    c.regRead rq R.SYS_DRAIN = (wordOf [(31, 1), (0, (c.busOf rq).failed)], c.setBus rq { c.busOf rq with failed := 0 }) := rfl

/-- The end of a drain answers the number of failed writes, which starts again. -/
theorem Chip.drainEnd_eq (c : Chip) (rq : Req) :
    c.drainEnd rq = (((c.setBus rq { c.busOf rq with drain := false }).setBus rq { c.busOf rq with drain := false, failed := 0 }).answer rq
      R.SYS_DRAIN (wordOf [(31, 1), (0, (c.busOf rq).failed)])) := by
  rw [Chip.drainEnd, Chip.regRead_drain, Chip.busOf_setBus_self]

theorem Chip.busOf_drainEnd (c : Chip) (rq : Req) : (c.drainEnd rq).busOf rq = { c.busOf rq with drain := false, failed := 0 } := by
  rw [Chip.drainEnd_eq, busOf_answer, Chip.busOf_setBus_self]

theorem Chip.respOf_drainEnd (c : Chip) (rq : Req) :
    (c.drainEnd rq).respOf rq = ⟨R.SYS_DRAIN, wordOf [(31, 1), (0, (c.busOf rq).failed)], 0⟩ := by
  rw [Chip.drainEnd_eq, Chip.respOf_answer_self]

theorem Only.drainEnd (c : Chip) (rq : Req) : Only [] c (c.drainEnd rq) := by
  rw [Chip.drainEnd_eq]
  exact Only.of_regs rfl

/-- A read of SYS_DRAIN with nothing outstanding ends at once. -/
theorem exec_sysDrainRead {s : State} {rq : Req} (h : s.chip.atOnce rq R.SYS_DRAIN 0 = true) (hd : s.chip.drained rq = true) :
    exec (.sysDrainRead rq) s = .next { s with chip := s.chip.drainEnd rq } := by
  obtain ⟨hw, hs, hp⟩ := Chip.atOnce_awake h
  refine (congrArg Host.Outcome.next (State.mayAccess_admits _ hp)).trans ?_
  simp [State.onChip, Chip.drainRead, Chip.access_free _ hs, Chip.issue, Chip.drainNow, Chip.blockOff_awake _ hw, hd]

/-- A drain that has waited ends; nothing waits behind it. -/
theorem exec_sysDrainDone {s : State} {rq : Req} (hw : (s.chip.busOf rq).drain = true) (hd : s.chip.drained rq = true)
    (hh : (s.chip.busOf rq).held = []) : exec (.sysDrainDone rq) s = .next { s with chip := s.chip.drainEnd rq } := by
  have hr : ((s.chip.drainEnd rq).busOf rq).held = [] := by rw [Chip.busOf_drainEnd]; exact hh
  show Host.Outcome.next (s.onChip (·.drainDone rq)) = _
  simp only [State.onChip, Chip.drainDone, hw, hd, and_self, if_true, Chip.resume_none hr]

theorem tokenAddr_alias (d : Fin 8) : isAlias (tokenAddr d) = false := by revert d; decide

theorem exec_orderTokenRead {s : State} {rq : Req} {d : Fin 8} (hd : d ≠ 0) (h : s.chip.atOnce rq (tokenAddr d) 0 = true)
    (hl : s.chip.linkUp d = true) :
    exec (.orderTokenRead rq d) s = .next (s.onChip fun c => c.setBus rq { c.busOf rq with order := some (d, (c.link d).total) }) := by
  obtain ⟨hw, hs, hp⟩ := Chip.atOnce_awake h
  have hd' : d.val ≠ 0 := fun h => hd (Fin.ext h)
  refine (congrArg Host.Outcome.next (State.mayAccess_admits _ hp)).trans ?_
  simp [State.onChip, Chip.orderRead, hd, Chip.access_free _ hs, Chip.issue, Chip.orderNow, Chip.blockOff_awake _ hw, hl]

theorem exec_orderTokenDone {s : State} {rq : Req} {d : Fin 8} {n : Nat} (ho : (s.chip.busOf rq).order = some (↑d, n))
    (hn : n ≤ (s.chip.link d).landed) (hh : (s.chip.busOf rq).held = []) :
    exec (.orderTokenDone rq d) s =
      .next (s.onChip fun c => (c.setBus rq { c.busOf rq with order := none }).answer rq (tokenAddr d) (c.rd (tokenAddr d))) := by
  have hr : (((s.chip.setBus rq { s.chip.busOf rq with order := none }).answer rq (tokenAddr d) (s.chip.rd (tokenAddr d))).busOf rq).held = [] := by
    rw [busOf_answer, Chip.busOf_setBus_self]
    exact hh
  show Host.Outcome.next (s.onChip (·.orderDone rq d)) = _
  simp only [State.onChip, Chip.orderDone, ho, hn, and_self, if_true, Chip.resume_none hr]

/-! ### Time-outs and slots (R57, R58) -/

theorem target_of_remote {a : Nat} (h : dieOf a ≠ 0) : isAlias a = false ∧ target a = a := by
  have ha : isAlias a = false := by
    by_contra hn
    simp only [Bool.not_eq_false, isAlias, Bool.and_eq_true, decide_eq_true_eq] at hn
    obtain ⟨hlo, hhi⟩ := hn
    exact h (by rw [dieOf, if_neg (by omega), if_neg (by omega), if_neg (by omega), if_neg (by omega)])
  exact ⟨ha, by simp [target, ha]⟩

theorem Chip.accessTimeout_read {c : Chip} {rq : Req} {a : Nat} (hd : dieOf a ≠ 0) (hw : c.awake = true) (hl : c.linkUp (dieOf a) = true)
    (hs : (c.link (dieOf a)).sent = []) (hf : c.stalled rq = false) : c.accessTimeout rq false a = c.failRead rq .timeout a := by
  obtain ⟨-, ht⟩ := target_of_remote hd
  simp [Chip.accessTimeout, ht, Chip.blockOff_awake _ hw, hl, hd, hs, hf]

/-- The one write that waited for a slot goes out. -/
theorem Chip.resume_write {c : Chip} {rq : Req} {a : Nat} {x : Word} (hh : (c.busOf rq).held = [.write a x]) (hd : dieOf a ≠ 0) (hf : (c.setBus rq { c.busOf rq with held := [] }).stalled rq = false) (hw : c.awake = true)
    (ho : c.outstanding rq < 8) (hl : c.linkUp (dieOf a) = true) :
    c.resume rq = (c.setBus rq { c.busOf rq with held := [] }).post rq a x := by
  obtain ⟨-, ht⟩ := target_of_remote hd
  have hw' : (c.setBus rq { c.busOf rq with held := [] }).awake = true := hw
  have hl' : (c.setBus rq { c.busOf rq with held := [] }).linkUp (dieOf a) = true := hl
  have ho' : ¬ 8 ≤ (c.setBus rq { c.busOf rq with held := [] }).outstanding rq := Nat.not_le.mpr ho
  simp [Chip.resume, hh, Chip.issueHeld, hf, Chip.issue, Chip.writeNow, ht, hd, Chip.blockOff_awake _ hw', hl', ho']

/-- Settles O9: each access is let through and takes effect at once, or ends a hold behind which nothing else waits. -/
theorem accessesDrainsAndTokens : Obligations.AccessesDrainsAndTokens := by
  unfold Obligations.AccessesDrainsAndTokens
  refine ⟨?threshold, ?lock, ?drainRead, ?drainDone, ?tokenRead, ?tokenDone, ?timeout, ?slot, ?gate⟩
  case threshold => exact fun rq u t data s hc h => registerWrite_threshold t data hc h
  case lock => exact fun rq s h ho => lockGroupClose_sys h ho
  case drainRead =>
    intro rq s h hd
    exact ⟨_, exec_sysDrainRead h hd, Chip.respOf_drainEnd _ _, by rw [Chip.busOf_drainEnd], Only.drainEnd _ _⟩
  case drainDone =>
    intro rq s hw hd hh
    exact ⟨_, exec_sysDrainDone hw hd hh, Chip.respOf_drainEnd _ _, by rw [Chip.busOf_drainEnd], by rw [Chip.busOf_drainEnd],
      Only.drainEnd _ _⟩
  case tokenRead => exact fun rq d s hd h hl => exec_orderTokenRead hd h hl
  case tokenDone => exact fun rq d n s ho hn hh => exec_orderTokenDone ho hn hh
  case timeout =>
    intro rq a s hd hw hl hs hf
    have seen := Chip.failRead_seen rq .timeout a.toNat hw
    refine ⟨_, congrArg (fun c : Chip => (.next { s with chip := c } : Host.Outcome State Fault Refusal)) (Chip.accessTimeout_read hd hw hl hs hf),
      Chip.respOf_failRead _ _ _ _, ?_, seen.frame⟩
    rw [seen.addr, BitVec.ofNat_toNat, BitVec.setWidth_eq]
  case slot =>
    intro rq a x s hh _ hd hf hw ho hl
    exact congrArg (fun c : Chip => (.next { s with chip := c } : Host.Outcome State Fault Refusal)) (Chip.resume_write hh hd hf hw ho hl)
  case gate =>
    intro b s hw hg hz hb
    show Host.Outcome.next (s.onChip (·.idleGate b)) = _
    simp only [State.onChip, Chip.idleGate, hw, hg, hz, hb, Bool.false_eq_true, not_false_eq_true, and_self, if_true]

end Sys2Proof.Machine
end

section
/-! SUPPORT. The proof of O2: the reset values of the registers, channel by channel and route by route. -/

namespace Sys2Proof.Machine
open Sys2Proof

theorem reset_links : ∀ d : Fin 8, 1 ≤ d.val →
    State.reset.chip.linkUp d = false ∧ State.reset.chip.flag (R.SYS_LINK_STATUS d) F.SYS_LINK_STATUS_TRAINING = true := by
  decide +kernel

theorem reset_channels : ∀ ch : Fin 192, State.reset.chip.fget (R.CH_STATUS ch) F.CH_STATUS_STATE = 0 ∧
    State.reset.chip.fget (R.CH_CFG ch) F.CH_CFG_PROFILE = 6 ∧ State.reset.chip.fget (R.CH_PWM ch) F.CH_PWM_PERIOD = 50000 ∧
    State.reset.chip.fget (R.CH_OWNER ch) F.CH_OWNER_OWNER = if ch.val = 187 then 6 else 4 := by
  decide +kernel

theorem reset_routes : ∀ k : Fin 256, State.reset.chip.rd (R.EVR_ROUTE k) = 0x110#32 := by decide +kernel

theorem reset_budgets : ∀ n : Fin 4, State.reset.chip.fget (R.IS_BUDGET n) F.IS_BUDGET_BUDGET = 0x640 := by decide +kernel

/-- Settles O2: no register is listed at reset, so each reads its reset value. -/
theorem resetLeavesTheStatedValues : Obligations.ResetLeavesTheStatedValues := by
  unfold Obligations.ResetLeavesTheStatedValues
  refine ⟨⟨rfl, rfl⟩, ⟨by decide +kernel, by decide +kernel⟩, ?_, ?_, ?_, ?_⟩
  · exact fun d h1 h8 => reset_links ⟨d, h8⟩ h1
  · exact fun ch h => reset_channels ⟨ch, h⟩
  · exact fun k h => reset_routes ⟨k, h⟩
  · exact fun n h => reset_budgets ⟨n, h⟩

end Sys2Proof.Machine
end

section
/-! SUPPORT. The refutations of O49, O51 and O55: the list of events that wait for the router holds numbers of any size, and a raise of one
past the last source counts at an address past EVR_CNT. -/

namespace Sys2Proof.Machine
open Sys2Proof

/-- The source number whose count lies at address a. -/
def sourceAt (a : Nat) : Nat := (a - R.EVR_CNT 0) / 4

/-- A module in which an event waits for the router whose count lies at address a. Every remote die has declared its link lost, and the
firmware versions are given, so that a start depends on no free value. -/
def waitingEvent (a : Nat) : Chip :=
  { links := (List.range 7).map fun d => (d + 1, { lost := true })
    upd := { vers := (List.range 9).map fun k => (k, 1) }
    modex := { late := [sourceAt a] } }

/-- A start that no link survives. -/
def unlinkedStart : StartEnv := { links := 0 }

/-! ### A reset of the control die -/

def lateAuthCount : State := { chip := waitingEvent R.SEC_AUTH_CNT }

theorem lateAuthCount_reset : (lateAuthCount.controlReset 0x10 unlinkedStart).chip.rd R.SEC_AUTH_CNT ≠ lateAuthCount.chip.rd R.SEC_AUTH_CNT := by
  decide +kernel

/-- Refutes O51: a reset raises the events that waited for the router, here one whose count is the word of the authority count, which the
reset then does not keep. -/
theorem not_resetsStartTheModule : ¬ Obligations.ResetsStartTheModule := by
  unfold Obligations.ResetsStartTheModule
  rintro ⟨-, -, -, reset, -⟩
  obtain ⟨t, ht, -, -, -, -, hauth, -⟩ := reset unlinkedStart lateAuthCount (by decide) (by decide +kernel)
  obtain rfl : lateAuthCount.controlReset 0x10 unlinkedStart = t := Host.Outcome.next.inj ht
  exact lateAuthCount_reset hauth

/-- The same in a programming session, with the crystal running. -/
def lateInSession : State :=
  { chip := { waitingEvent R.SEC_AUTH_CNT with
      regs := [(R.SYS_CLK_STATUS, F.SYS_CLK_STATUS_XTAL40_OK.of 1)], upd := { (waitingEvent 0).upd with session := 2 } } }

theorem lateInSession_reset : (lateInSession.ecuReset 1 unlinkedStart).chip.rd R.SEC_AUTH_CNT ≠ lateInSession.chip.rd R.SEC_AUTH_CNT := by
  decide +kernel

/-- Refutes O55: ECU_RESET raises the events that waited for the router, here one whose count is the word of the authority count. -/
theorem not_udsSessionsAndIdentifiers : ¬ Obligations.UdsSessionsAndIdentifiers := by
  unfold Obligations.UdsSessionsAndIdentifiers
  rintro ⟨-, -, -, -, -, -, reset, -⟩
  obtain ⟨t, ht, -, -, -, -, hauth, -⟩ :=
    reset unlinkedStart lateInSession (by decide) (by decide +kernel) (by decide +kernel) (by decide +kernel)
  obtain rfl : lateInSession.ecuReset 1 unlinkedStart = t := Host.Outcome.next.inj ht
  exact lateInSession_reset hauth

/-! ### A wake -/

/-- A parked module with an alarm set, in which an event waits whose count is the count of wakes. -/
def lateWakeCount : State :=
  { chip := { waitingEvent R.SEN_WAKE_CNT with regs := [(R.SYS_MODE, F.SYS_MODE_MODE.of 1), (R.PAT_ALARM, 1)] } }

theorem lateWakeCount_wake : (lateWakeCount.wake [⟨16, 0⟩] unlinkedStart).chip.rd R.SEN_WAKE_CNT ≠
    .ofNat 32 (min 0xFFFFFFFF ((lateWakeCount.chip.rd R.SEN_WAKE_CNT).toNat + 1)) := by
  decide +kernel

theorem lateWakeCount_alarm : exec (.patAlarmExpire unlinkedStart) lateWakeCount = .next (lateWakeCount.wake [⟨16, 0⟩] unlinkedStart) := by
  show Host.Outcome.next (if lateWakeCount.chip.parked ∧ lateWakeCount.chip.rd R.PAT_ALARM ≠ 0 then _ else lateWakeCount) = _
  rw [if_pos (by decide +kernel)]

/-- Refutes O49: a wake raises the events that waited for the router, here one whose count is the word of SEN_WAKE_CNT, which then counts
two. -/
theorem not_wakes : ¬ Obligations.Wakes := by
  unfold Obligations.Wakes
  rintro ⟨-, -, -, -, -, -, -, -, -, -, -, alarm, -⟩
  obtain ⟨t, ht, -, -, -, hcount, -⟩ :=
    alarm unlinkedStart lateWakeCount (by decide +kernel) (by decide +kernel) (by decide) (by decide +kernel)
  obtain rfl : lateWakeCount.wake [⟨16, 0⟩] unlinkedStart = t := Host.Outcome.next.inj (lateWakeCount_alarm.symm.trans ht)
  exact lateWakeCount_wake hcount

end Sys2Proof.Machine
end

section
/-! SUPPORT. The refutations of O43, O45 and O52. The first and the third are states that no run reaches: a selected buffer past the last
one, and an offence entered past the table's end. That of O45 is a held pad. -/

namespace Sys2Proof.Machine
open Sys2Proof

/-- What a statement claims of the chip after a command holds of the chip of the state that the command answers. -/
theorem State.claim_of_exec {i : Instr} {s t : State} {P : Chip → Prop} (ht : exec i s = .next t)
    (h : ∃ c', exec i s = .next { s with chip := c' } ∧ P c') : P t.chip := by
  obtain ⟨c', he, hp⟩ := h
  obtain rfl : t = { s with chip := c' } := Host.Outcome.next.inj (ht.symm.trans he)
  exact hp

/-! ### A buffer selected past the last one -/

/-- The buffer number whose CAN_MB_STAT of CAN0 has the address of LIN_CTRL of LIN0. -/
def strayBuffer : Nat := (R.LIN_CTRL 0 - R.CAN_MB_STAT 0 0) / 4

/-- The supervisor has selected strayBuffer, which counts as a receive buffer: its read of CAN_MB_W0 changes LIN_CTRL of LIN0. -/
def straySelected : { s : State // (s.read .sup (R.CAN_MB_W 0 0)).chip.rd (R.LIN_CTRL 0) ≠ s.chip.rd (R.LIN_CTRL 0) } :=
  ⟨{ chip := { mbSel := [(Req.sup.code, strayBuffer)], mbs := [(32 * strayBuffer, mbKind.of 1)] } }, by decide +kernel⟩

/-- Refutes O43: CAN_MB_W0_READ marks the lock in the CAN_MB_STAT of the selected buffer, which the statement does not bound: of a number
past 63 the address lies outside the CAN block. -/
theorem not_canRegistersAndErrorStates : ¬ Obligations.CanRegistersAndErrorStates := by
  unfold Obligations.CanRegistersAndErrorStates
  rintro ⟨-, -, -, -, -, -, -, w0Read, -⟩
  obtain ⟨-, -, -, honly⟩ := State.claim_of_exec rfl (w0Read .sup 0 straySelected.1 (by decide +kernel) (by decide +kernel))
  exact straySelected.2 (honly (R.LIN_CTRL 0) (by decide +kernel))

/-! ### A LIN transceiver held asleep -/

/-- LIN0 is an active responder, and the pads of the LIN transceivers are held (R395). -/
def linAsleep : State :=
  { chip := { regs := [(R.SYS_PAD_HOLD, (bitFld 10).of 1), (R.LIN_CTRL 0, F.LIN_CTRL_ROLE.of 2), (R.LIN_STATUS 0, F.LIN_STATUS_STATE.of 1)] } }

/-- Refutes O45: a responder whose transceiver is held asleep (R395) hears no header, which the clause of LIN_HEADER_RECEIVED leaves out. -/
theorem not_linControllersDo : ¬ Obligations.LinControllersDo := by
  unfold Obligations.LinControllersDo
  rintro ⟨-, -, header, -⟩
  have he := congrArg (fun s : State => (s.chip.lin 0).frame) (Host.Outcome.next.inj (header 0 0 linAsleep (by decide +kernel)))
  exact absurd he (by decide +kernel)

/-! ### An offence entered past the table's end -/

/-- The entry number whose NM_OFF_DURATION lies in the security island's block. -/
def strayEntry : Nat := (Blk.sec.1 + 4 - R.NM_OFF_DURATION 0) / 8

/-- A lone-awake node whose running offence has the number strayEntry and lasts 5 s. -/
def strayOffence : State :=
  { chip := { regs := [(R.NM_STATUS, F.NM_STATUS_LONE_VALID.of 1)], nm := { entry := some (strayEntry, 5) } } }

theorem strayOffence_absent : (strayOffence.chip.nmAbsent 1).rd (R.NM_OFF_DURATION strayEntry) ≠ strayOffence.chip.rd (R.NM_OFF_DURATION strayEntry) := by
  decide +kernel

/-- Refutes O52: when the lone-awake node ends, the running offence's duration is written, here past the end of the offender table. -/
theorem not_networkManagementFollowsTheFrames : ¬ Obligations.NetworkManagementFollowsTheFrames := by
  unfold Obligations.NetworkManagementFollowsTheFrames
  rintro ⟨-, -, -, -, -, absent, -⟩
  obtain ⟨-, -, -, honly⟩ := State.claim_of_exec rfl (absent 1 strayOffence (by decide +kernel))
  exact strayOffence_absent (honly (R.NM_OFF_DURATION strayEntry) (by decide +kernel))

end Sys2Proof.Machine
end

section
/-! SUPPORT. The refutations of O19, O23, O25 and O30. In three of them a register and what the module holds beside it disagree, or the
mode and the snapshot window do: states that no run reaches, but that the clauses admit. That of O25 is a late conversion. -/

namespace Sys2Proof.Machine
open Sys2Proof

/-! ### A reflectometry that only its STATUS knows -/

/-- PWR_TDR_STATUS of power die 0 reads RUNNING, the die holds no run, and the die's link is up: the register write of TDR_STOP by the
supervisor ends no run. -/
def statusOnlyTdr : { s : State // (s.write .sup (R.PWR_TDR_CTRL 0) (F.PWR_TDR_CTRL_STOP.of 1)).chip.tdrStatus 0 ≠ 3 } :=
  ⟨{ chip := { regs := [(R.SYS_MODE, F.SYS_MODE_MODE.of 4), (R.SYS_LINK_STATUS 2, F.SYS_LINK_STATUS_UP.of 1),
      (R.PWR_TDR_STATUS 0, F.PWR_TDR_STATUS_STATUS.of 1)] } }, by decide +kernel⟩

/-- Refutes O19: TDR_STOP ends the run that the die holds; of a die that holds none, PWR_TDR_STATUS keeps its value. -/
theorem not_loadDiagnosisRows : ¬ Obligations.LoadDiagnosisRows := by
  unfold Obligations.LoadDiagnosisRows
  rintro ⟨-, -, -, -, -, -, -, -, -, -, tdrStop, -⟩
  exact statusOnlyTdr.2 (State.claim_of_exec rfl
    (tdrStop 0 (F.PWR_TDR_CTRL_STOP.of 1) statusOnlyTdr.1 (by decide +kernel) (by decide +kernel) (by decide +kernel)))

/-! ### A request that waits for the end of a decay, with REQ = 0 -/

/-- Valve 0 decays, enabled and with REQ = 0, and a request waits for the decay's end. -/
def decayAgain : State :=
  { chip := { regs := [(R.VLV_CFG 0, F.VLV_CFG_EN.of 1), (R.VLV_STATUS 0, F.VLV_STATUS_STATE.of 5)], valves := [(0, { again := true })] } }

theorem decayAgain_end : (decayAgain.chip.decayEnd 0 [] 0).vRun 0 ≠ .off := by
  decide +kernel

/-- Refutes O23: the request that waits for the decay's end (R237) is taken there, and the clause excludes it by REQ alone. -/
theorem not_valveRequestsAndPeaks : ¬ Obligations.ValveRequestsAndPeaks := by
  unfold Obligations.ValveRequestsAndPeaks
  rintro ⟨-, -, -, -, -, -, -, -, -, -, -, decayEnd⟩
  obtain ⟨hoff, -⟩ := State.claim_of_exec rfl
    (decayEnd 0 [] 0 decayAgain (by decide +kernel) (by decide +kernel) (by decide +kernel) (by decide +kernel))
  exact decayAgain_end hoff

/-! ### A conversion later than the next pulse -/

/-- A sample that was begun with INVERT = 0 and the reset thresholds. -/
def plainSample : SiRun := ⟨0, 0, []⟩

/-- Input 0 has INVERT = 1 now, and its next pulse is due before the conversion of the sample in progress. -/
def lateConversion : State :=
  { chip := { regs := [(R.SI_CFG 0, F.SI_CFG_EN.put (F.SI_CFG_INVERT.of 1) 1)], sis := [(0, { run := some plainSample })], siNext := 0 } }

theorem lateConversion_value : (lateConversion.chip.siConverted 0 1023).siValue 0 = false := by
  decide +kernel

/-- Refutes O25: a conversion that comes when the input's group is due (R249) is that of the new pulse, with the configuration of its
moment (R250): here one that inverts. -/
theorem not_switchInputsSampleAndReport : ¬ Obligations.SwitchInputsSampleAndReport := by
  unfold Obligations.SwitchInputsSampleAndReport
  rintro ⟨-, -, converted, -⟩
  obtain ⟨hvalue, -⟩ := State.claim_of_exec rfl
    (converted 0 1023 plainSample lateConversion (by decide +kernel) (by decide +kernel) (by decide +kernel) (by decide +kernel)
      (by decide +kernel))
  exact absurd (lateConversion_value.symm.trans hvalue) (by decide)

/-! ### A snapshot window while the event router is off -/

/-- PARK, with the window of a left LIMP still open, and a counter dump region at address 0. -/
def parkedDump : State :=
  { chip := { regs := [(R.SYS_MODE, F.SYS_MODE_MODE.of 1), (R.CDE_CTRL, F.CDE_CTRL_EN.of 1), (R.CDE_BASE, 0)], modex := { limpWin := true } } }

theorem parkedDump_snapshot : (parkedDump.snapshot 0).chip.rd (R.EVR_CNT 14) = 0 := by
  decide +kernel

/-- Refutes O30: in a mode in which the event router is off, a dropped record raises no EV014. -/
theorem not_countersSamplingAndDumps : ¬ Obligations.CountersSamplingAndDumps := by
  unfold Obligations.CountersSamplingAndDumps
  rintro ⟨-, -, -, -, -, -, dropped, -⟩
  obtain ⟨-, -, -, hcount, -⟩ := State.claim_of_exec rfl (dropped 0 parkedDump (by decide +kernel) (by decide +kernel))
  exact absurd (parkedDump_snapshot.symm.trans hcount) (by decide +kernel)

end Sys2Proof.Machine
end

section
/-! SUPPORT. The refutations of O37, O41 and O47: SYS_RESET of the access die ends the round of an ACC_LOCATE in flight, VLV_REQ takes a
valve out of LIMP, and ACC_CFG is refused where a command buffer holds MB62. -/

namespace Sys2Proof.Machine
open Sys2Proof

/-- The state that a command answers. -/
def State.after (s : State) (i : Instr) : State :=
  match exec i s with
  | .next t => t
  | _ => s

/-- What a statement claims of the chip after a command holds of the chip of the state after it. -/
theorem State.claim_after {i : Instr} {s : State} {P : Chip → Prop} (h : ∃ c', exec i s = .next { s with chip := c' } ∧ P c') :
    P (s.after i).chip := by
  obtain ⟨c', he, hp⟩ := h
  simpa only [State.after, he] using hp

/-- A module in a mode, with the links of a list of dies up, in which core 0's command queue holds one packet and its completion queue is
empty. -/
def offering (mode : Nat) (dies : List Nat) (ws : List Word) (regs : Tbl Word) : Chip :=
  { regs := [(R.SYS_MODE, F.SYS_MODE_MODE.of mode), (R.Q_CFG 2, F.Q_CFG_EN.of 1), (R.Q_CFG 6, F.Q_CFG_SIZE.put (F.Q_CFG_EN.of 1) 1)] ++
      dies.map (fun d => (R.SYS_LINK_STATUS d, F.SYS_LINK_STATUS_UP.of 1)) ++ regs
    queues := [(2, { drain := packetWords ws })] }

/-! ### A reset of the access die during an ACC_LOCATE -/

/-- The host's ACC_LOCATE, its round started. -/
def locating : Cmd := { rq := .host, op := 0x91, tag := 0, obj := 0xFFFF, started := true }

/-- Core 0 asks for a reset of the access die while the round of the host's ACC_LOCATE runs: one command is in flight after it. -/
def resetWhileLocating : { s : State // (s.after (.sysReset .a0)).chip.cmds.length = 1 } :=
  ⟨{ chip := { offering 4 [7] [cmdHeader 9 0 1, 7] [] with cmds := [locating], acc := { round := some { trig := 5, started := true } } } },
    by decide +kernel⟩

/-- Refutes O37: a reset of the access die ends the running round (R447), and an ACC_LOCATE in flight leaves the table with it. -/
theorem not_systemCommandsDo : ¬ Obligations.SystemCommandsDo := by
  unfold Obligations.SystemCommandsDo
  rintro ⟨-, -, -, -, -, -, -, -, -, -, -, -, reset⟩
  obtain ⟨⟨-, hcmds⟩, -⟩ := State.claim_after
    (reset .a0 0 7 resetWhileLocating.1 (by decide +kernel) (by decide) (by decide) (by decide +kernel))
  exact absurd (resetWhileLocating.2.symm.trans (congrArg List.length hcmds)) (by decide +kernel)

/-! ### VLV_REQ of a valve in LIMP -/

/-- Valve 0 is in LIMP with its request standing, and core 0 requests it again. -/
def limpRequested : State :=
  { chip := offering 4 [2] [cmdHeader 0x50 0 1, 256]
      [(R.VLV_CFG 0, F.VLV_CFG_EN.of 1), (R.VLV_CMD 0, F.VLV_CMD_REQ.of 1), (R.VLV_STATUS 0, F.VLV_STATUS_STATE.of 8)] }

theorem limpRequested_status : (limpRequested.after (.vlvReq .a0 0)).chip.rd (R.VLV_STATUS 0) ≠ limpRequested.chip.rd (R.VLV_STATUS 0) := by
  decide +kernel

/-- Refutes O41: VLV_REQ takes a requested valve out of LIMP (R246), which changes a register of its die. -/
theorem not_valveInputAndFieldCommandsDo : ¬ Obligations.ValveInputAndFieldCommandsDo := by
  unfold Obligations.ValveInputAndFieldCommandsDo
  rintro ⟨requested, -⟩
  obtain ⟨-, -, honly⟩ := State.claim_after
    (requested .a0 0 0 0 limpRequested (by decide +kernel) (by decide +kernel) (by decide +kernel))
  exact limpRequested_status (honly (R.VLV_STATUS 0) (by decide +kernel))

/-! ### ACC_CFG with MB62 reserved -/

/-- IMMO_EN with controller 0. -/
def immoOn : Word := F.ACC_CFG3_PERIOD.put (F.ACC_CFG3_IMMO_EN.of 1) 1

/-- The START_ENABLE channel of the reset state. -/
def startAt187 : Word := F.ACC_CFG0_POLL_DAYS.put (F.ACC_CFG0_SE_CH.of 187) 1

/-- SERVICE, with MB62 of CAN0 reserved for CAN_TX, and core 0 asks for IMMO_EN with CAN0; the START_ENABLE channel stays 187. -/
def immoReserved : State :=
  { chip := offering 6 [5, 7] [cmdHeader 0x94 0 4, startAt187, 0, 0, immoOn]
      [(R.CAN_MB_RSV 0 1, (bitFld 30).of 1)] }

theorem immoReserved_cfg : ¬ (immoReserved.after (.accCfg .a0)).chip.took .ACC_CFG3 R.ACC_CFG3 immoOn := by
  decide +kernel

/-- Refutes O47: ACC_CFG is refused where IMMO_EN is to be set with a controller whose MB62 is reserved for CAN_TX (R451), which the clause
does not exclude. -/
theorem not_accessCommands : ¬ Obligations.AccessCommands := by
  unfold Obligations.AccessCommands
  rintro ⟨-, -, -, -, -, cfg, -⟩
  obtain ⟨-, -, -, hcfg3, -⟩ := State.claim_after (cfg .a0 0 startAt187 0 0 immoOn immoReserved (by decide +kernel) (by decide +kernel)
    (by decide +kernel) (by decide +kernel) (by decide +kernel) (by decide +kernel) (by decide +kernel))
  exact immoReserved_cfg hcfg3

end Sys2Proof.Machine
end

section
/-! SUPPORT. What a raise, a count and a field leave of the module beside the registers. -/

namespace Sys2Proof.Machine
open Sys2Proof

/-- c' differs from c in registers and in pending events alone. -/
def Noted (c c' : Chip) : Prop := c' = { c with regs := c'.regs, evPend := c'.evPend }

namespace Noted

variable {c c' c'' : Chip}

@[simp] theorem refl (c : Chip) : Noted c c := rfl
theorem trans (h : Noted c c') (h' : Noted c' c'') : Noted c c'' := by
  unfold Noted at h h' ⊢
  rw [h'] at *
  rw [h]
theorem ite {p : Prop} [Decidable p] (h : Noted c c') (h' : Noted c c'') : Noted c (if p then c' else c'') := by
  split
  · exact h
  · exact h'
@[simp] theorem wr (c : Chip) (a : Nat) (x : Word) : Noted c (c.wr a x) := rfl
@[simp] theorem fset (c : Chip) (a : Nat) (f : Fld) (v : Nat) : Noted c (c.fset a f v) := rfl
@[simp] theorem fbit (c : Chip) (a : Nat) (f : Fld) (b : Bool) : Noted c (c.fbit a f b) := rfl
@[simp] theorem bump (c : Chip) (a n : Nat) : Noted c (c.bump a n) := rfl
@[simp] theorem fbump (c : Chip) (a : Nat) (f : Fld) : Noted c (c.fbump a f) := rfl
@[simp] theorem ungate (c : Chip) (b : Nat) : Noted c (c.ungate b) := rfl
@[simp] theorem setPendAt (c : Chip) (t : Nat) (x : BitVec 256) : Noted c (c.setPendAt t x) := rfl
theorem raiseAt (k t : Nat) (c : Chip) : Noted c (Chip.raiseAt k t c) := ite (ite (bump c _ 1) (setPendAt c _ _)) (refl c)
theorem raiseAts (k : Nat) : ∀ (ts : List Nat) (c : Chip), Noted c (ts.foldl (fun c t => Chip.raiseAt k t c) c)
  | [], c => refl c
  | t :: ts, c => (raiseAt k t c).trans (raiseAts k ts _)
@[simp] theorem raise (c : Chip) (k : Nat) : Noted c (c.raise k) := by
  by_cases h : c.awake = true
  · rw [Chip.raise_powered k h]
    exact ((ungate c 0).trans (bump _ _ 1)).trans (raiseAts k _ _)
  · rw [Chip.awake_iff, not_not] at h
    rw [Chip.raise, if_pos h]
    exact refl c

theorem field {α : Type} (f : Chip → α) (h : Noted c c') : f c' = f { c with regs := c'.regs, evPend := c'.evPend } := congrArg f h
theorem upd (h : Noted c c') : c'.upd = c.upd := h.field Chip.upd
theorem acc (h : Noted c c') : c'.acc = c.acc := h.field Chip.acc
theorem nm (h : Noted c c') : c'.nm = c.nm := h.field Chip.nm
theorem links (h : Noted c c') : c'.links = c.links := h.field Chip.links
theorem queues (h : Noted c c') : c'.queues = c.queues := h.field Chip.queues
theorem cmds (h : Noted c c') : c'.cmds = c.cmds := h.field Chip.cmds
theorem grain (h : Noted c c') : c'.grain = c.grain := h.field Chip.grain
theorem modex (h : Noted c c') : c'.modex = c.modex := h.field Chip.modex
theorem chans (h : Noted c c') : c'.chans = c.chans := h.field Chip.chans
theorem dies (h : Noted c c') : c'.dies = c.dies := h.field Chip.dies

end Noted

end Sys2Proof.Machine
end
section
/-! PROOF. The routines and the transfer of a package on the service port (R485, R487, R488, R492). -/

namespace Sys2Proof.Machine
open Sys2Proof

/-- A command that works on the module alone, where what it makes of the module is known. -/
theorem State.next_chip {s : State} {f : Chip → Chip} {c : Chip} (h : f s.chip = c) :
    (Host.Outcome.next (s.onChip f) : Host.Outcome State Fault Refusal) = .next { s with chip := c } := by
  rw [← h]
  rfl

theorem Chip.awake_of_svcHears {c : Chip} (h : c.svcHears = true) : c.awake = true := by
  simp only [Chip.svcHears, Bool.and_eq_true] at h
  exact h.1.1

theorem Chip.service_inRecovery {c : Chip} (h : c.svcHears = true) (sid : Nat) (f : Chip → Chip) : c.service sid true f = f c := by
  simp [Chip.service, h]

theorem Chip.service_normal {c : Chip} (h : c.svcHears = true) (hm : c.mode ≠ 5) (sid : Nat) (r : Bool) (f : Chip → Chip) :
    c.service sid r f = f c := by
  simp [Chip.service, Chip.recovery, h, hm]

theorem Chip.programming_on {c : Chip} (h : c.upd.session = 2) (sid : Nat) (f : Chip → Chip) : c.programming sid f = f c := if_pos h
theorem Chip.programming_off {c : Chip} (h : c.upd.session ≠ 2) (sid : Nat) (f : Chip → Chip) : c.programming sid f = c.nrc sid 0x7F := if_neg h

/-- A service that recovery supports, in the programming session. -/
theorem Chip.programmed {c : Chip} (h : c.svcHears = true) (hs : c.upd.session = 2) (sid : Nat) (f : Chip → Chip) :
    c.service sid true (·.programming sid f) = f c := by
  rw [Chip.service_inRecovery h, Chip.programming_on hs]

theorem Only.say (l : List (Nat × Nat)) (c : Chip) (bs : List Byte) : Only l c (c.say bs) := Only.of_regs rfl

/-- A raise after a change of the update state alone: counted, and told to the router's targets. -/
theorem Chip.raised_after_setUpd {c : Chip} (x : UpdX) {k : Nat} (hk : k < 256) (h : c.awake = true) :
    ((c.setUpd x).raise k).upd = x ∧
      ((c.setUpd x).raise k).rd (R.EVR_CNT k) = .ofNat 32 (min 0xFFFFFFFF ((c.rd (R.EVR_CNT k)).toNat + 1)) ∧
      Only [Blk.sys, Blk.evr, Blk.que] c ((c.setUpd x).raise k) :=
  ⟨(Noted.raise (c.setUpd x) k).upd, Chip.rd_raise_cnt (c := c.setUpd x) h hk, (Only.raise (c.setUpd x) hk).mono (by simp)⟩


/-- A command that is a service of the programming session, heard in it. -/
theorem State.programs {s : State} (h : s.chip.svcHears = true) (hs : s.chip.upd.session = 2) (sid : Nat) {f g : Chip → Chip}
    (hg : g = fun c => c.service sid true (·.programming sid f)) :
    (Host.Outcome.next (s.onChip g) : Host.Outcome State Fault Refusal) = .next { s with chip := f s.chip } := by
  exact State.next_chip (hg ▸ Chip.programmed h hs sid f)

/-- The same of a service that recovery does not support. -/
theorem State.programs_normal {s : State} (h : s.chip.svcHears = true) (hs : s.chip.upd.session = 2) (hm : s.chip.mode ≠ 5) (sid : Nat)
    {f g : Chip → Chip} (hg : g = fun c => c.service sid false (·.programming sid f)) :
    (Host.Outcome.next (s.onChip g) : Host.Outcome State Fault Refusal) = .next { s with chip := f s.chip } := by
  exact State.next_chip (hg ▸ (Chip.service_normal h hm sid false _).trans (Chip.programming_on hs sid f))

theorem Chip.checkStart_received {c : Chip} (h : c.upd.staging = 2 ∧ c.upd.checking = false) :
    c.checkStart = c.setUpd { c.upd with checking := true } := if_pos ⟨h.1, by rw [h.2]; rfl⟩
theorem Chip.checkStart_else {c : Chip} (h : c.upd.staging ≠ 2) : c.checkStart = c.nrc 0x31 0x24 := if_neg fun h' => h h'.1

/-- The update state once its check has ended (R492). -/
def Chip.checked (c : Chip) : UpdX :=
  let u := { c.upd with checking := false, staging := if c.checkFinds.1 = 0 then 3 else 4 }
  { u with result := c.checkFinds.1, failing := c.checkFinds.2 }

theorem Chip.checkDone_running {c : Chip} (h : c.upd.checking = true ∧ c.awake = true) :
    c.checkDone = ((c.setUpd c.checked).raise (if c.checkFinds.1 = 0 then 209 else 210)).routineSays 1 0x5A02
      [.ofNat 8 c.checkFinds.1, .ofNat 8 c.checkFinds.2] := if_pos h

theorem Chip.checkDone_none {c : Chip} (h : c.upd.checking = false) : c.checkDone = c := if_neg (by simp [h])

theorem Chip.download_taken (c : Chip) {size : Nat} (h : size ≤ 4194304) :
    c.download 0 0x44 0 size =
      (c.setUpd { c.upd with staging := 1, size := size, data := [], block := 1, result := 0, failing := 0xFF, checking := false }).say
        [0x74, 0x20, 0x10, 0x02] := if_pos ⟨rfl, rfl, rfl, h⟩

theorem Chip.transferExit_whole {c : Chip} (h : c.upd.staging = 1 ∧ c.upd.size ≤ c.upd.data.length) :
    c.transferExit = ((c.setUpd { c.upd with staging := 2 }).raise 208).say [0x77] := if_pos h
theorem Chip.transferExit_else {c : Chip} (h : c.upd.staging ≠ 1 ∨ c.upd.data.length < c.upd.size) : c.transferExit = c.nrc 0x37 0x24 :=
  if_neg (by omega)

/-! ### The counter of a transfer (R488) -/

/-- The counter before the one due. -/
theorem counter_before {b k : Nat} (hb : b < 256) (h : k = (b + 255) % 256) : b = (k + 1) % 256 := by omega
theorem counter_after {b k : Nat} (hk : k < 256) (h : b = (k + 1) % 256) : k = (b + 255) % 256 := by omega

section transfer
variable {c : Chip} {k : Nat} {bs : List Byte} {p : Bool}

theorem Chip.transfer_again (h : c.upd.staging = 1) (hk : k = (c.upd.block + 255) % 256) (hd : c.upd.data ≠ []) :
    c.transfer k bs p = c.say [0x76, .ofNat 8 k] := by
  rw [Chip.transfer, if_neg (not_not.2 h), if_pos ⟨hk, hd⟩]

theorem Chip.transfer_wrong (h : c.upd.staging = 1) (hk : k ≠ (c.upd.block + 255) % 256) (hb : k ≠ c.upd.block) :
    c.transfer k bs p = c.nrc 0x36 0x73 := by
  rw [Chip.transfer, if_neg (not_not.2 h), if_neg fun h' => hk h'.1, if_pos hb]

/-- What stands of a transfer whose counter is the one due. -/
theorem Chip.transfer_due (h : c.upd.staging = 1) (hb : c.upd.block = k) (hk : k < 256) :
    c.transfer k bs p = if c.upd.size < c.upd.data.length + bs.length then c.nrc 0x36 0x71
      else if 4096 < bs.length then c.nrc 0x36 0x13
      else if !p then c.nrc 0x36 0x72
      else (c.setUpd { c.upd with data := c.upd.data ++ bs, block := (k + 1) % 256 }).say [0x76, .ofNat 8 k] := by
  have hne : k ≠ (c.upd.block + 255) % 256 := by omega
  rw [Chip.transfer, if_neg (not_not.2 h), if_neg fun h' => hne h'.1, if_neg (not_not.2 hb.symm), hb]

end transfer


/-- Settles O56: every service of the programming session is one branch of its handler, and a raise after it keeps the update state. -/
theorem udsStagesAPackage : Obligations.UdsStagesAPackage := by
  unfold Obligations.UdsStagesAPackage
  refine ⟨?erase, ?check, ?checkElse, ?done, ?doneNone, ?arm, ?armFull, ?armElse, ?disarm, ?disarmElse, ?results, ?resultsRunning, ?pending,
    ?pendingNone, ?download, ?downloadElse, ?data, ?again, ?wrong, ?tooMany, ?unprogrammed, ?exit, ?exitElse, ?session⟩
  case erase => exact fun s hh hs hm => ⟨_, State.programs_normal hh hs hm 0x31 rfl, rfl, rfl, rfl, Only.of_regs rfl⟩
  case check =>
    refine fun s hh hs hst => ⟨_, State.programs hh hs 0x31 rfl, ?_⟩
    rw [Chip.checkStart_received hst]
    exact ⟨rfl, hst.1, Only.of_regs rfl⟩
  case checkElse =>
    refine fun s hh hs hst => ⟨_, State.programs hh hs 0x31 rfl, ?_⟩
    rw [Chip.checkStart_else hst]
    exact ⟨rfl, rfl, Only.of_regs rfl⟩
  case done =>
    refine fun s h => ⟨_, State.next_chip (Chip.checkDone_running h), ?_⟩
    have hk : (if s.chip.checkFinds.1 = 0 then 209 else 210) < 256 := by split <;> decide
    obtain ⟨hu, hc, ho⟩ := Chip.raised_after_setUpd s.chip.checked hk h.2
    exact ⟨congrArg UpdX.checking hu, congrArg UpdX.result hu, congrArg UpdX.failing hu, congrArg UpdX.staging hu, hc, ho.trans (Only.say _ _ _)⟩
  case doneNone => exact fun s h => State.next_chip (Chip.checkDone_none h)
  case arm =>
    refine fun s hh hs hst => ⟨_, State.programs hh hs 0x31 rfl, ?_⟩
    rw [if_neg (not_not.2 hst.1), if_neg (by simp [hst.2])]
    obtain ⟨hu, hc, ho⟩ := Chip.raised_after_setUpd { s.chip.upd with staging := 5 } (k := 211) (by decide) (Chip.awake_of_svcHears hh)
    exact ⟨congrArg UpdX.staging hu, hc, rfl, ho.trans (Only.say _ _ _)⟩
  case armFull =>
    refine fun s hh hs hst => ⟨_, State.programs hh hs 0x31 rfl, ?_⟩
    rw [if_neg (not_not.2 hst.1), if_pos hst.2]
    exact ⟨hst.1, rfl, Only.of_regs rfl⟩
  case armElse =>
    refine fun s hh hs hst => ⟨_, State.programs hh hs 0x31 rfl, ?_⟩
    rw [if_pos hst]
    exact ⟨rfl, rfl, Only.of_regs rfl⟩
  case disarm =>
    refine fun s hh hs hst => ⟨_, State.programs_normal hh hs hst.1 0x31 rfl, ?_⟩
    rw [if_neg (not_not.2 hst.2)]
    exact ⟨rfl, rfl, Only.of_regs rfl⟩
  case disarmElse =>
    refine fun s hh hs hst => ⟨_, State.programs_normal hh hs hst.1 0x31 rfl, ?_⟩
    rw [if_pos hst.2]
    exact ⟨rfl, rfl, Only.of_regs rfl⟩
  case results =>
    refine fun s hh hs hc => ⟨_, State.programs hh hs 0x31 rfl, ?_⟩
    show (Chip.routineResults s.chip 0x5A02).upd.reply = _ ∧ Only [] s.chip (Chip.routineResults s.chip 0x5A02)
    rw [Chip.routineResults, if_pos rfl, if_neg (by simp [hc])]
    exact ⟨rfl, Only.of_regs rfl⟩
  case resultsRunning =>
    refine fun s hh hs hc => ⟨_, State.programs hh hs 0x31 rfl, ?_⟩
    show (Chip.routineResults s.chip 0x5A02).upd.reply = _ ∧ Only [] s.chip (Chip.routineResults s.chip 0x5A02)
    rw [Chip.routineResults, if_pos rfl, if_pos hc]
    exact ⟨rfl, Only.of_regs rfl⟩
  case pending =>
    refine fun s hh hc => ⟨_, State.next_chip (c := s.chip.nrc 0x31 0x78) (if_pos ⟨hc, hh⟩), rfl, hc, Only.of_regs rfl⟩
  case pendingNone => exact fun s h => State.next_chip (if_neg (by simp [h]))
  case download =>
    refine fun size s hh hs hsize => ⟨_, State.programs hh hs 0x34 rfl, ?_⟩
    rw [show (0 : BitVec 8).toNat = 0 from rfl, show (0x44 : BitVec 8).toNat = 0x44 from rfl, show (0 : Word).toNat = 0 from rfl,
      Chip.download_taken _ hsize]
    exact ⟨rfl, rfl, rfl, rfl, rfl, Only.of_regs rfl⟩
  case downloadElse =>
    refine fun fm ln a size s hh hs hbad => ⟨_, State.programs hh hs 0x34 rfl, ?_⟩
    have hn : ¬ (fm.toNat = 0 ∧ ln.toNat = 0x44 ∧ a.toNat = 0 ∧ size.toNat ≤ 4194304) := by
      rintro ⟨h₁, h₂, h₃, h₄⟩
      obtain h | h | h | h := hbad
      · exact h (BitVec.eq_of_toNat_eq h₁)
      · exact h (BitVec.eq_of_toNat_eq h₂)
      · exact h (BitVec.eq_of_toNat_eq h₃)
      · omega
    rw [Chip.download, if_neg hn]
    exact ⟨rfl, rfl, Only.of_regs rfl⟩
  case data =>
    refine fun k b s hh hs hst hl => ⟨_, State.programs hh hs 0x36 rfl, ?_⟩
    rw [Chip.transfer_due hst.1 hst.2 k.isLt, if_neg (Nat.not_lt.2 hl.2), if_neg (Nat.not_lt.2 hl.1), if_neg (by decide), BitVec.ofNat_toNat]
    exact ⟨rfl, rfl, hst.1, by simp [Chip.say], Only.of_regs rfl⟩
  case again =>
    refine fun k b p s hh hs hst => ⟨_, State.programs hh hs 0x36 rfl, ?_⟩
    rw [Chip.transfer_again hst.1 (counter_after k.isLt hst.2.1) hst.2.2]
    exact ⟨rfl, rfl, by simp [Chip.say], Only.of_regs rfl⟩
  case wrong =>
    refine fun k b p s hh hs hst => ⟨_, State.programs hh hs 0x36 rfl, ?_⟩
    rw [Chip.transfer_wrong hst.1 (fun h => hst.2.2.2 (counter_before hst.2.1 h)) hst.2.2.1.symm]
    exact ⟨rfl, rfl, Only.of_regs rfl⟩
  case tooMany =>
    refine fun k b p s hh hs hst => ⟨_, State.programs hh hs 0x36 rfl, ?_⟩
    rw [Chip.transfer_due hst.1 hst.2.1 k.isLt, if_pos hst.2.2]
    exact ⟨rfl, rfl, Only.of_regs rfl⟩
  case unprogrammed =>
    refine fun k b s hh hs hst hl => ⟨_, State.programs hh hs 0x36 rfl, ?_⟩
    rw [Chip.transfer_due hst.1 hst.2 k.isLt, if_neg (Nat.not_lt.2 hl.2), if_neg (Nat.not_lt.2 hl.1), if_pos (by decide)]
    exact ⟨rfl, rfl, Only.of_regs rfl⟩
  case exit =>
    refine fun s hh hs hst => ⟨_, State.programs hh hs 0x37 rfl, ?_⟩
    rw [Chip.transferExit_whole hst]
    obtain ⟨hu, hc, ho⟩ := Chip.raised_after_setUpd { s.chip.upd with staging := 2 } (k := 208) (by decide) (Chip.awake_of_svcHears hh)
    exact ⟨congrArg UpdX.staging hu, (congrArg UpdX.data hu :), hc, rfl, ho.trans (Only.say _ _ _)⟩
  case exitElse =>
    refine fun s hh hs hst => ⟨_, State.programs hh hs 0x37 rfl, ?_⟩
    rw [Chip.transferExit_else hst]
    exact ⟨rfl, rfl, Only.of_regs rfl⟩
  case session =>
    refine fun k b p s hh hs => ⟨_, State.next_chip (c := s.chip.nrc 0x36 0x7F)
      ((Chip.service_inRecovery hh 0x36 _).trans (Chip.programming_off hs 0x36 _)), rfl, rfl, Only.of_regs rfl⟩

end Sys2Proof.Machine
end

section
/-! SUPPORT. What raises, pushes and completions leave of the module: they stay in the event router, the queues and the command table. -/

namespace Sys2Proof.Machine
open Sys2Proof

theorem Only.sub {l l' : List (Nat × Nat)} {c c' : Chip} (h : Only l c c') (hl : ∀ x ∈ l, ∃ y ∈ l', y.1 ≤ x.1 ∧ x.2 ≤ y.2) : Only l' c c' := by
  refine fun a ha => h a fun x hx hax => ?_
  obtain ⟨y, hy, h₁, h₂⟩ := hl x hx
  exact ha y hy (by omega)

/-- The clock state of the event router and of the queues, the router's counters, and the queues' registers. -/
def servedRegs : List (Nat × Nat) := [(0x40000500, 0x40000508), (0x40010400, 0x40010800), (0x40011000, 0x40011700), Blk.que]

/-- c' differs from c in what raises, pushes and completions change: the registers above, pending events, queues, the command table, held
completions, and the number of the next free value. -/
structure Served (c c' : Chip) : Prop where
  rest : c' = { c with regs := c'.regs, evPend := c'.evPend, queues := c'.queues, cmds := c'.cmds, heldComps := c'.heldComps, fresh := c'.fresh }
  only : Only servedRegs c c'

namespace Served

variable {c c' c'' : Chip}

@[simp] theorem refl (c : Chip) : Served c c := ⟨rfl, Only.refl _ c⟩
theorem trans (h : Served c c') (h' : Served c' c'') : Served c c'' := by
  refine ⟨?_, h.only.trans h'.only⟩
  have h₁ := h.rest
  have h₂ := h'.rest
  rw [h₂] at *
  rw [h₁]
theorem ite {p : Prop} [Decidable p] (h : Served c c') (h' : Served c c'') : Served c (if p then c' else c'') := by
  split
  · exact h
  · exact h'
theorem foldl {α : Type} {f : Chip → α → Chip} (h : ∀ c x, Served c (f c x)) : ∀ (xs : List α) (c : Chip), Served c (xs.foldl f c)
  | [], c => refl c
  | x :: xs, c => (h c x).trans (foldl h xs _)
theorem noted (h : Noted c c') (ho : Only servedRegs c c') : Served c c' := ⟨by
  unfold Noted at h
  rw [h], ho⟩

theorem field {α : Type} (f : Chip → α) (h : Served c c') :
    f c' = f { c with regs := c'.regs, evPend := c'.evPend, queues := c'.queues, cmds := c'.cmds, heldComps := c'.heldComps, fresh := c'.fresh } :=
  congrArg f h.rest

theorem link (h : Served c c') (d : Nat) : c'.link d = c.link d := h.field (·.link d)
theorem core (h : Served c c') (k : Nat) : c'.core k = c.core k := h.field (·.core k)
theorem chan (h : Served c c') (ch : Nat) : c'.chan ch = c.chan ch := h.field (·.chan ch)
theorem die (h : Served c c') (n : Nat) : c'.die n = c.die n := h.field (·.die n)
theorem cant (h : Served c c') (n : Nat) : c'.cant n = c.cant n := h.field (·.cant n)
theorem sink (h : Served c c') (n : Nat) : c'.sink n = c.sink n := h.field (·.sink n)
theorem eng (h : Served c c') (n : Nat) : c'.eng n = c.eng n := h.field (·.eng n)
theorem valve (h : Served c c') (v : Nat) : c'.valve v = c.valve v := h.field (·.valve v)
theorem vWaiting (h : Served c c') (n : Nat) : c'.vWaiting n = c.vWaiting n := h.field (·.vWaiting n)
theorem si (h : Served c c') (i : Nat) : c'.si i = c.si i := h.field (·.si i)
theorem fp (h : Served c c') (p : Nat) : c'.fp p = c.fp p := h.field (·.fp p)
theorem can (h : Served c c') (n : Nat) : c'.can n = c.can n := h.field (·.can n)
theorem lin (h : Served c c') (n : Nat) : c'.lin n = c.lin n := h.field (·.lin n)
theorem ctr64 (h : Served c c') (a : Nat) : c'.ctr64 a = c.ctr64 a := h.field (·.ctr64 a)
theorem latchOf (h : Served c c') (a : Nat) (rq : Req) : c'.latchOf a rq = c.latchOf a rq := h.field (·.latchOf a rq)
theorem staged (h : Served c c') (a : Nat) : c'.staged a = c.staged a := h.field (·.staged a)
theorem busOf (h : Served c c') (rq : Req) : c'.busOf rq = c.busOf rq := h.field (·.busOf rq)
theorem respOf (h : Served c c') (rq : Req) : c'.respOf rq = c.respOf rq := h.field (·.respOf rq)
theorem sealX (h : Served c c') (ch : Nat) : c'.sealX ch = c.sealX ch := h.field (·.sealX ch)
theorem mbX (h : Served c c') (n : Nat) (b : Nat) : c'.mbX n b = c.mbX n b := h.field (·.mbX n b)
theorem mbWord (h : Served c c') (n : Nat) (b : Nat) (w : Nat) : c'.mbWord n b w = c.mbWord n b w := h.field (·.mbWord n b w)
theorem upd (h : Served c c') : c'.upd = c.upd := h.field (·.upd)
theorem acc (h : Served c c') : c'.acc = c.acc := h.field (·.acc)
theorem nm (h : Served c c') : c'.nm = c.nm := h.field (·.nm)
theorem modex (h : Served c c') : c'.modex = c.modex := h.field (·.modex)
theorem grain (h : Served c c') : c'.grain = c.grain := h.field (·.grain)
theorem links (h : Served c c') : c'.links = c.links := h.field (·.links)
theorem vbRail (h : Served c c') : c'.vbRail = c.vbRail := h.field (·.vbRail)
theorem siNext (h : Served c c') : c'.siNext = c.siNext := h.field (·.siNext)
theorem hsp (h : Served c c') : c'.hsp = c.hsp := h.field (·.hsp)
theorem chans (h : Served c c') : c'.chans = c.chans := h.field (·.chans)
theorem dies (h : Served c c') : c'.dies = c.dies := h.field (·.dies)
theorem bus (h : Served c c') : c'.bus = c.bus := h.field (·.bus)

theorem blocks (h : Served c c') : Only [Blk.sys, Blk.evr, Blk.que] c c' := h.only.sub (by decide)

/-- The registers that no raise, push or completion writes. -/
theorem rd (h : Served c c') {a : Nat}
    (ha : a < 0x40000500 ∨ 0x40000508 ≤ a ∧ a < 0x40010400 ∨ 0x40010800 ≤ a ∧ a < 0x40011000 ∨ 0x40030000 ≤ a) : c'.rd a = c.rd a := by
  refine h.only a fun x hx => ?_
  simp only [servedRegs, Blk.que, List.mem_cons, List.not_mem_nil, or_false] at hx
  obtain rfl | rfl | rfl | rfl := hx <;> omega
theorem rd_die (h : Served c c') {a : Nat} (ha : 0x40030000 ≤ a) : c'.rd a = c.rd a := h.rd (.inr (.inr (.inr ha)))
theorem fget_die (h : Served c c') {a : Nat} (f : Fld) (ha : 0x40030000 ≤ a) : c'.fget a f = c.fget a f := congrArg f.get (h.rd_die ha)
theorem flag_die (h : Served c c') {a : Nat} (f : Fld) (ha : 0x40030000 ≤ a) : c'.flag a f = c.flag a f := congrArg (f.get · == 1) (h.rd_die ha)
theorem mode (h : Served c c') : c'.mode = c.mode := congrArg F.SYS_MODE_MODE.get (h.rd (a := R.SYS_MODE) (by decide))
theorem awake (h : Served c c') : c'.awake = c.awake := by rw [Chip.awake, Chip.awake, h.mode]
theorem linkUp (h : Served c c') {d : Nat} (hd : d < 8) : c'.linkUp d = c.linkUp d := by
  have := h.rd (a := R.SYS_LINK_STATUS d) (.inl (by simp only [R.SYS_LINK_STATUS]; omega))
  rw [Chip.linkUp, Chip.linkUp, Chip.flag, Chip.flag, Chip.fget, Chip.fget, this]

/-! ### Events (R45, R288) -/

theorem wr (c : Chip) {a : Nat} (x : Word) (h : ∃ y ∈ servedRegs, y.1 ≤ a ∧ a < y.2) : Served c (c.wr a x) := noted (Noted.wr c a x) (Only.wr c a x h)

theorem raise (c : Chip) {k : Nat} (hk : k < 256) : Served c (c.raise k) := by
  refine noted (Noted.raise c k) fun a ha => Chip.rd_raise_ne c k ?_ ?_ ?_
  · have := ha (0x40000500, 0x40000508) (by decide)
    simp only [R.SYS_BLK_POWER]
    omega
  · have := ha (0x40010400, 0x40010800) (by decide)
    simp only [R.EVR_CNT]
    omega
  · intro t ht
    have := ha (0x40011000, 0x40011700) (by decide)
    simp only [R.EVR_MERGE_CNT]
    omega
theorem raiseFrom (c : Chip) (d : Nat) {k : Nat} (hk : k < 256) : Served c (c.raiseFrom d k) := ite (raise c hk) (refl c)

/-! ### Queues (R327 to R331) -/

theorem setQueue (c : Chip) (q : Nat) (x : Queue) : Served c (c.setQueue q x) := ⟨rfl, Only.of_regs rfl⟩
theorem queueReg {q o : Nat} (hq : q < 32) (ho : o < 0x40) : ∃ y ∈ servedRegs, y.1 ≤ 0x40020000 + o + q * 0x40 ∧ 0x40020000 + o + q * 0x40 < y.2 :=
  ⟨Blk.que, by decide, by simp only [Blk.que]; omega⟩
theorem ungate_que (c : Chip) : Served c (c.ungate 1) := wr c _ ⟨(0x40000500, 0x40000508), by decide⟩
theorem qDrop (c : Chip) {q : Nat} (hq : q < 32) : Served c (c.qDrop q) :=
  (wr c _ (queueReg (o := 0x24) hq (by decide))).trans (raise _ (by decide))
theorem qRefuse (c : Chip) {q : Nat} (hq : q < 32) : Served c (c.qRefuse q) :=
  (wr c _ (queueReg (o := 0x28) hq (by decide))).trans (raise _ (by decide))
theorem queueEvent_lt {q k : Nat} (hq : q < 32) (h : queueEvent q = some k) : k < 256 := by
  unfold queueEvent at h
  split_ifs at h <;> simp only [Option.some.injEq] at h <;> omega
theorem qCommitted (c : Chip) {q : Nat} (hq : q < 32) : Served c (c.qCommitted q) := by
  have h : Served c ((c.ungate 1).bumpWrap (R.Q_PKT_CNT q)) := (ungate_que c).trans (wr _ _ (queueReg (o := 0xC) hq (by decide)))
  unfold Chip.qCommitted
  cases hk : queueEvent q with
  | none => exact h
  | some k => exact h.trans (raise _ (queueEvent_lt hq hk))
theorem hwPush (c : Chip) {q : Nat} (hq : q < 32) (ws : List Word) : Served c (c.hwPush q ws) :=
  ite (refl c) (ite ((setQueue c q _).trans (qCommitted _ hq)) (qDrop c hq))
theorem qPush (c : Chip) {q : Nat} (hq : q < 32) (x : Word) (eop : Bool) : Served c (c.qPush q x eop) :=
  ite (setQueue c q _) (ite (ite ((setQueue c q _).trans (qCommitted _ hq)) (setQueue c q _)) ((setQueue c q _).trans (qDrop _ hq)))
theorem q10 (c : Chip) (k obj : Nat) : Served c (c.q10 k obj) :=
  (show Served c c.draw.2 from ⟨rfl, Only.of_regs rfl⟩).trans (hwPush _ (by decide) _)
theorem q10From (c : Chip) (d k obj : Nat) : Served c (c.q10From d k obj) := ite (q10 c k obj) (refl c)

/-! ### Completions (R339, R344) -/

theorem compQueue_lt (rq : Req) : compQueue rq < 32 := by cases rq <;> decide
theorem setHeld (c : Chip) (l : List (Req × List Word)) : Served c { c with heldComps := l } := ⟨rfl, Only.of_regs rfl⟩
theorem setCmds (c : Chip) (l : List Cmd) : Served c { c with cmds := l } := ⟨rfl, Only.of_regs rfl⟩
theorem addCmd (c : Chip) (k : Cmd) (obj : Nat) (st : Bool) : Served c (c.addCmd k obj st) := setCmds c _
theorem deliver (c : Chip) (rq : Req) (ws : List Word) : Served c (c.deliver rq ws) :=
  ite (hwPush c (compQueue_lt rq) ws) ((setHeld c _).trans (raise _ (by decide)))
theorem complete (c : Chip) (rq : Req) (op tag : Nat) (st : CmdStatus) (res : List Word) (fl : Nat) :
    Served c (c.complete rq op tag st res fl) := deliver c rq _
theorem finish (c : Chip) (p : Cmd → Bool) (st : CmdStatus) (res : List Word) : Served c (c.finish p st res) :=
  (setCmds c _).trans (foldl (fun (c : Chip) (k : Cmd) => complete c k.rq k.op k.tag st _ _) _ _)

end Served

end Sys2Proof.Machine
end
section
/-! SUPPORT. A write of a register outside the lock groups, and one that lands at once on its remote die (R24, R42, R67). -/

namespace Sys2Proof.Machine
open Sys2Proof

theorem writerOk_sup (id : RegId) (ix : List Nat) (a : Nat) : writerOk .sup id ix a = true := by
  unfold writerOk
  split <;> simp

/-- The word that an open register holds after a write of x over old. -/
def storedWord (d : RegDesc) (ix : List Nat) (old x : Word) : Word := regNorm d.id ix old (mergeWord d false false old x).1

theorem mergeWord_unlocked {d : RegDesc} (locked closed : Bool) (old x : Word) (hl : d.rwl = 0) (hs : d.rws = 0) :
    mergeWord d locked closed old x = ((mergeWord d false false old x).1, false) := by
  simp [mergeWord, openMask, hl, hs]

/-- A register outside the lock groups and the sealed ones stores the word, and does what the written word asks for. -/
theorem Chip.plainWrite_unlocked {c : Chip} {rq : Req} {d : RegDesc} {ix : List Nat} {a : Nat} {x : Word} (hl : d.rwl = 0) (hs : d.rws = 0)
    (hc : c.sealedReg d.id ix = false) :
    c.plainWrite rq d ix a x = (c.wr a (storedWord d ix (c.rd a) x)).wrote rq d.id ix (c.rd a) x := by
  simp [Chip.plainWrite, hc, mergeWord_unlocked (c.lockClosed a) false (c.rd a) x hl hs, storedWord]

/-! ### A write that lands at once on its remote die (R24, R67) -/

/-- c' is c after a frame to die d that has landed: the die's order token counts it, and the link has sent it. -/
structure Travelled (d : Nat) (c c' : Chip) : Prop where
  rest : c' = { c with regs := (c.bumpWrap (tokenAddr d)).regs, links := c'.links }

namespace Travelled

variable {d : Nat} {c c' : Chip}

theorem field {α : Type} (f : Chip → α) (h : Travelled d c c') : f c' = f { c with regs := (c.bumpWrap (tokenAddr d)).regs, links := c'.links } :=
  congrArg f h.rest
theorem core (h : Travelled d c c') (k : Nat) : c'.core k = c.core k := h.field (·.core k)
theorem chan (h : Travelled d c c') (ch : Nat) : c'.chan ch = c.chan ch := h.field (·.chan ch)
theorem die (h : Travelled d c c') (n : Nat) : c'.die n = c.die n := h.field (·.die n)
theorem cant (h : Travelled d c c') (n : Nat) : c'.cant n = c.cant n := h.field (·.cant n)
theorem sink (h : Travelled d c c') (n : Nat) : c'.sink n = c.sink n := h.field (·.sink n)
theorem eng (h : Travelled d c c') (n : Nat) : c'.eng n = c.eng n := h.field (·.eng n)
theorem valve (h : Travelled d c c') (v : Nat) : c'.valve v = c.valve v := h.field (·.valve v)
theorem vWaiting (h : Travelled d c c') (n : Nat) : c'.vWaiting n = c.vWaiting n := h.field (·.vWaiting n)
theorem si (h : Travelled d c c') (i : Nat) : c'.si i = c.si i := h.field (·.si i)
theorem fp (h : Travelled d c c') (p : Nat) : c'.fp p = c.fp p := h.field (·.fp p)
theorem can (h : Travelled d c c') (n : Nat) : c'.can n = c.can n := h.field (·.can n)
theorem lin (h : Travelled d c c') (n : Nat) : c'.lin n = c.lin n := h.field (·.lin n)
theorem ctr64 (h : Travelled d c c') (a : Nat) : c'.ctr64 a = c.ctr64 a := h.field (·.ctr64 a)
theorem latchOf (h : Travelled d c c') (a : Nat) (rq : Req) : c'.latchOf a rq = c.latchOf a rq := h.field (·.latchOf a rq)
theorem staged (h : Travelled d c c') (a : Nat) : c'.staged a = c.staged a := h.field (·.staged a)
theorem busOf (h : Travelled d c c') (rq : Req) : c'.busOf rq = c.busOf rq := h.field (·.busOf rq)
theorem respOf (h : Travelled d c c') (rq : Req) : c'.respOf rq = c.respOf rq := h.field (·.respOf rq)
theorem sealX (h : Travelled d c c') (ch : Nat) : c'.sealX ch = c.sealX ch := h.field (·.sealX ch)
theorem mbX (h : Travelled d c c') (n : Nat) (b : Nat) : c'.mbX n b = c.mbX n b := h.field (·.mbX n b)
theorem mbWord (h : Travelled d c c') (n : Nat) (b : Nat) (w : Nat) : c'.mbWord n b w = c.mbWord n b w := h.field (·.mbWord n b w)
theorem upd (h : Travelled d c c') : c'.upd = c.upd := h.field (·.upd)
theorem acc (h : Travelled d c c') : c'.acc = c.acc := h.field (·.acc)
theorem nm (h : Travelled d c c') : c'.nm = c.nm := h.field (·.nm)
theorem modex (h : Travelled d c c') : c'.modex = c.modex := h.field (·.modex)
theorem grain (h : Travelled d c c') : c'.grain = c.grain := h.field (·.grain)
theorem vbRail (h : Travelled d c c') : c'.vbRail = c.vbRail := h.field (·.vbRail)
theorem siNext (h : Travelled d c c') : c'.siNext = c.siNext := h.field (·.siNext)
theorem hsp (h : Travelled d c c') : c'.hsp = c.hsp := h.field (·.hsp)
theorem chans (h : Travelled d c c') : c'.chans = c.chans := h.field (·.chans)
theorem dies (h : Travelled d c c') : c'.dies = c.dies := h.field (·.dies)
theorem bus (h : Travelled d c c') : c'.bus = c.bus := h.field (·.bus)
theorem rd (h : Travelled d c c') {a : Nat} (ha : a ≠ tokenAddr d) : c'.rd a = c.rd a := by
  rw [h.field (·.rd a)]
  exact Chip.rd_wr_ne c _ ha
theorem only (h : Travelled d c c') {l : List (Nat × Nat)} (hl : ∃ y ∈ l, y.1 ≤ tokenAddr d ∧ tokenAddr d < y.2) : Only l c c' :=
  (Only.wr c (tokenAddr d) _ hl).trans (Only.of_regs (h.field (·.regs)))

end Travelled

/-- The module once a posted write of x to a has gone out on the link of die d and has landed there, before the die applies it. -/
def Chip.sentTo (c : Chip) (d : Nat) (rq : Req) (a : Nat) (x : Word) : Chip :=
  let l := c.link d
  let f : Sent := { seq := l.txSeq, rq := rq, write := true, addr := a, data := x, landed := false }
  let c := c.setLink d { l with txSeq := seqNext l.txSeq, sent := l.sent ++ [f], total := l.total + 1 }
  let c := (c.setLink d { c.link d with rxSeq := seqNext l.rxSeq }).markLanded d l.txSeq
  (c.bumpWrap (tokenAddr d)).setLink d { c.link d with landed := (c.link d).landed + 1 }

theorem Travelled.of_links {c c' : Chip} (d : Nat) (l : Link) (h : c' = { c with links := c'.links }) : Travelled d c ((c'.bumpWrap (tokenAddr d)).setLink d l) := by
  rw [h]
  exact ⟨rfl⟩

theorem setLink_links {c c' : Chip} (d : Nat) (l : Link) (h : c' = { c with links := c'.links }) :
    c'.setLink d l = { c with links := (c'.setLink d l).links } := by
  rw [h]
  rfl

theorem Travelled.sentTo (c : Chip) (d : Nat) (rq : Req) (a : Nat) (x : Word) : Travelled d c (c.sentTo d rq a x) :=
  Travelled.of_links d _ (setLink_links d _ (setLink_links d _ (setLink_links d _ rfl)))

theorem Chip.post_inStep {c : Chip} (rq : Req) {a : Nat} (x : Word) (ha : isAlias a = false) (hi : c.inStep (dieOf a) = true) :
    c.post rq a x = (c.sentTo (dieOf a) rq a x).regWrite rq a x := by
  have ht : Machine.target a = a := by simp [Machine.target, ha]
  unfold Chip.post Chip.landed Chip.applyWrite
  rw [ht, if_pos hi, if_neg (by simp [ha])]
  rfl

theorem State.write_travels {s : State} {rq : Req} {a : Nat} (x : Word) (h : s.chip.direct rq a = true) (hd : dieOf a ≠ 0)
    (ha : isAlias a = false) :
    ∃ c : Chip, Travelled (dieOf a) s.chip c ∧ s.write rq a x = { s with chip := c.regWrite rq a x } := by
  have hi : s.chip.inStep (dieOf a) = true := by
    simp only [Chip.direct, Bool.and_eq_true] at h
    exact h.1.2
  refine ⟨_, Travelled.sentTo s.chip (dieOf a) rq a x, ?_⟩
  rw [State.write_direct x h hd ha, ← Chip.post_inStep rq x ha hi]
  rfl

end Sys2Proof.Machine
end
section
/-! PROOF. The measurements of CAN bus health, and the L+ rail (R192, R193, R195). -/

namespace Sys2Proof.Machine
open Sys2Proof

/-- The descriptor of SEN_CANT_HLTH_CTRL. -/
def cantCtrlDesc : RegDesc := ⟨.SEN_CANT_HLTH_CTRL, 0x40180080, [(6, 0x100, 0)], 0x7F0000, 0, 0, 3, 0, 0x420000⟩

theorem findReg_cantCtrl (n : Fin 6) : findReg (R.SEN_CANT_HLTH_CTRL n) = some (cantCtrlDesc, [n.val]) := by fin_cases n <;> rfl
theorem dieOf_cantCtrl (n : Fin 6) : dieOf (R.SEN_CANT_HLTH_CTRL n) = 1 := by revert n; decide
theorem isAlias_cantCtrl (n : Fin 6) : isAlias (R.SEN_CANT_HLTH_CTRL n) = false := by revert n; decide

theorem Chip.regWrite_cantCtrl (c : Chip) (n : Fin 6) (x : Word) :
    ∃ w, c.regWrite .sup (R.SEN_CANT_HLTH_CTRL n) x = (c.wr (R.SEN_CANT_HLTH_CTRL n) w).cantCtrl n x := by
  have h : c.regWrite .sup (R.SEN_CANT_HLTH_CTRL n) x = c.plainWrite .sup cantCtrlDesc [n.val] (R.SEN_CANT_HLTH_CTRL n) x := by
    simp [Chip.regWrite, findReg_cantCtrl, cantCtrlDesc, writerOk_sup, ctrHalf]
  exact ⟨_, h.trans (Chip.plainWrite_unlocked rfl rfl rfl)⟩

theorem cantCtrl_sen (n : Fin 6) : ∃ y ∈ [Blk.sen], y.1 ≤ R.SEN_CANT_HLTH_CTRL n ∧ R.SEN_CANT_HLTH_CTRL n < y.2 :=
  ⟨Blk.sen, by simp, by revert n; decide⟩
theorem cantReg_sen (n : Fin 6) (step : Bool) : ∃ y ∈ [Blk.sen], y.1 ≤ cantReg n step ∧ cantReg n step < y.2 :=
  ⟨Blk.sen, by simp, by revert n step; decide⟩

/-- A measurement that is not in progress waits for an idle bus. -/
theorem Chip.cantStart_idle {c : Chip} {n : Fin 6} {step : Bool} (h : (c.cant n).phase step = 0) :
    ((c.cantStart n step).cant n).phase step = 1 ∧ (c.cantStart n step).fget (cantReg n step) F.SEN_CANT_HLTH_TERM_STATUS = 1 ∧
      Only [Blk.sen] c (c.cantStart n step) := by
  have he : c.cantStart n step = (c.setCant n ((c.cant n).withPhase step 1)).fset (cantReg n step) F.SEN_CANT_HLTH_TERM_STATUS 1 := if_pos h
  have hc : (c.cantStart n step).cant n = (c.cant n).withPhase step 1 := by
    rw [he]
    exact Tbl.get_set_self _ _ _ _
  refine ⟨?_, ?_, ?_⟩
  · rw [hc]
    cases step <;> rfl
  · rw [he, Chip.fget_fset_self _ _ _ _ (by decide)]
    rfl
  · rw [he]
    exact (Only.of_regs (c' := c.setCant n _) rfl).trans (Only.fset _ _ _ _ (cantReg_sen n step))

/-- The supervisor's request of one measurement, the other not asked for. -/
theorem cantMeas_requested {n : Fin 6} {step : Bool} {x : Word} {s : State} (h : s.chip.direct .sup (R.SEN_CANT_HLTH_CTRL n) = true)
    (hx : ∀ c : Chip, c.cantCtrl n x = c.cantStart n step) (hp : (s.chip.cant n).phase step = 0) :
    ∃ c', Host.Outcome.next (s.write .sup (R.SEN_CANT_HLTH_CTRL n) x) = (.next { s with chip := c' } : Host.Outcome State Fault Refusal) ∧
      (c'.cant n).phase step = 1 ∧ c'.fget (cantReg n step) F.SEN_CANT_HLTH_TERM_STATUS = 1 ∧ Only [Blk.sen] s.chip c' := by
  obtain ⟨c, hc, hw⟩ := State.write_travels x h (by rw [dieOf_cantCtrl]; decide) (isAlias_cantCtrl n)
  obtain ⟨w, hreg⟩ := Chip.regWrite_cantCtrl c n x
  rw [hreg, hx] at hw
  refine ⟨_, congrArg Host.Outcome.next hw, ?_⟩
  have hp' : ((c.wr (R.SEN_CANT_HLTH_CTRL n) w).cant n).phase step = 0 := (congrArg (CantX.phase · step) (hc.cant n)).trans hp
  obtain ⟨hphase, hstatus, honly⟩ := Chip.cantStart_idle hp'
  exact ⟨hphase, hstatus, ((hc.only ⟨Blk.sen, by simp, by rw [dieOf_cantCtrl]; decide⟩).trans (Only.wr c _ _ (cantCtrl_sen n))).trans honly⟩

theorem Chip.cantCtrl_term {x : Word} (hs : F.SEN_CANT_HLTH_CTRL_MEAS_STEP.get x = 0) (n : Nat) (c : Chip) :
    c.cantCtrl n (F.SEN_CANT_HLTH_CTRL_MEAS_TERM.put x 1) = c.cantStart n false := by
  have ht := Fld.get_put F.SEN_CANT_HLTH_CTRL_MEAS_TERM x 1 (by decide)
  have hs' := Fld.get_put_ne F.SEN_CANT_HLTH_CTRL_MEAS_TERM F.SEN_CANT_HLTH_CTRL_MEAS_STEP x 1 (by decide) (by decide)
  simp only [Chip.cantCtrl, ht, hs', hs, zero_ne_one, reduceIte]
  exact if_pos rfl

theorem Chip.cantCtrl_step {x : Word} (ht : F.SEN_CANT_HLTH_CTRL_MEAS_TERM.get x = 0) (n : Nat) (c : Chip) :
    c.cantCtrl n (F.SEN_CANT_HLTH_CTRL_MEAS_STEP.put x 1) = c.cantStart n true := by
  have hs := Fld.get_put F.SEN_CANT_HLTH_CTRL_MEAS_STEP x 1 (by decide)
  have ht' := Fld.get_put_ne F.SEN_CANT_HLTH_CTRL_MEAS_STEP F.SEN_CANT_HLTH_CTRL_MEAS_TERM x 1 (by decide) (by decide)
  simp only [Chip.cantCtrl, hs, ht', ht, zero_ne_one, reduceIte]
  exact if_pos rfl

/-- A measurement that ends: its status, one end more, and no phase. -/
theorem Chip.cantEnd_says (c : Chip) (n : Fin 6) (step : Bool) (st : Nat) :
    ((c.cantEnd n step st).cant n).phase step = 0 ∧
      (c.cantEnd n step st).fget (cantReg n step) F.SEN_CANT_HLTH_TERM_STATUS = st % 2 ^ F.SEN_CANT_HLTH_TERM_STATUS.w ∧
      (c.cantEnd n step st).fget (cantReg n step) F.SEN_CANT_HLTH_TERM_SEQ =
        (c.fget (cantReg n step) F.SEN_CANT_HLTH_TERM_SEQ + 1) % 2 ^ F.SEN_CANT_HLTH_TERM_SEQ.w ∧
      (c.cantEnd n step st).fget (cantReg n step) F.SEN_CANT_HLTH_TERM_R_TERM = c.fget (cantReg n step) F.SEN_CANT_HLTH_TERM_R_TERM := by
  refine ⟨?_, ?_, ?_, ?_⟩
  · have hc : (c.cantEnd n step st).cant n = (c.cant n).withPhase step 0 := Tbl.get_set_self _ _ _ _
    rw [hc]
    cases step <;> rfl
  · unfold Chip.cantEnd Chip.fbumpWrap
    rw [Chip.fget_fset_field _ _ _ _ _ (by decide) (by decide), Chip.fget_fset_self _ _ _ _ (by decide)]
  · unfold Chip.cantEnd Chip.fbumpWrap
    rw [Chip.fget_fset_self _ _ _ _ (by decide), Chip.fget_fset_field _ _ _ _ _ (by decide) (by decide)]
    rfl
  · unfold Chip.cantEnd Chip.fbumpWrap
    rw [Chip.fget_fset_field _ _ _ _ _ (by decide) (by decide), Chip.fget_fset_field _ _ _ _ _ (by decide) (by decide)]
    rfl

theorem cantReg_die (n : Fin 6) (step : Bool) : 0x40030000 ≤ cantReg n step := by revert n step; decide

/-- A termination measurement that is done. -/
theorem Chip.cantDone_term {c : Chip} {n : Nat} (h : (c.cant n).term = 2) (ohm : Nat) (found : Option Reflection) :
    c.cantDone n false ohm found =
      (((c.fset (cantReg n false) F.SEN_CANT_HLTH_TERM_R_TERM ohm).cantEnd n false 2).raiseFrom 1 70).finish (onObj 0x35 (n + 8 * false.toNat)) .ok
        [(((c.fset (cantReg n false) F.SEN_CANT_HLTH_TERM_R_TERM ohm).cantEnd n false 2).raiseFrom 1 70).rd (cantReg n false)] :=
  if_pos h

/-- It leaves its value and its status in its register, counts one end more, and is over. -/
theorem Chip.cantDone_says {c : Chip} {n : Fin 6} (h : (c.cant n).term = 2) (ohm : Nat) (found : Option Reflection) :
    (c.cantDone n false ohm found).fget (cantReg n false) F.SEN_CANT_HLTH_TERM_R_TERM = ohm % 2 ^ F.SEN_CANT_HLTH_TERM_R_TERM.w ∧
      (c.cantDone n false ohm found).fget (cantReg n false) F.SEN_CANT_HLTH_TERM_STATUS = 2 % 2 ^ F.SEN_CANT_HLTH_TERM_STATUS.w ∧
      (c.cantDone n false ohm found).fget (cantReg n false) F.SEN_CANT_HLTH_TERM_SEQ =
        (c.fget (cantReg n false) F.SEN_CANT_HLTH_TERM_SEQ + 1) % 2 ^ F.SEN_CANT_HLTH_TERM_SEQ.w ∧
      ((c.cantDone n false ohm found).cant n).phase false = 0 := by
  have hsv : Served ((c.fset (cantReg n false) F.SEN_CANT_HLTH_TERM_R_TERM ohm).cantEnd n false 2) (c.cantDone n false ohm found) := by
    rw [Chip.cantDone_term h]
    exact (Served.raiseFrom _ 1 (by decide)).trans (Served.finish _ _ _ _)
  have hseq₀ := Chip.fget_fset_field c (cantReg n false) F.SEN_CANT_HLTH_TERM_R_TERM F.SEN_CANT_HLTH_TERM_SEQ ohm (by decide) (by decide)
  have hohm₀ := Chip.fget_fset_self c (cantReg n false) F.SEN_CANT_HLTH_TERM_R_TERM ohm (by decide)
  obtain ⟨hphase, hstatus, hseq, hohm⟩ := Chip.cantEnd_says (c.fset (cantReg n false) F.SEN_CANT_HLTH_TERM_R_TERM ohm) n false 2
  rw [hseq₀] at hseq
  rw [hohm₀] at hohm
  have hd := cantReg_die n false
  exact ⟨(hsv.fget_die _ hd).trans hohm, (hsv.fget_die _ hd).trans hstatus, (hsv.fget_die _ hd).trans hseq,
    (congrArg (CantX.phase · false) (hsv.cant n)).trans hphase⟩

/-- Settles O20: a request and the end of a measurement write its own register and phase, and what tells of them stays in the queues. -/
theorem canBusHealthRows : Obligations.CanBusHealthRows := by
  unfold Obligations.CanBusHealthRows
  refine ⟨?term, ?step, ?idle, ?pause, ?done, ?timeout, ?stale⟩
  case term => exact fun n data s h hs hp => cantMeas_requested (step := false) h (Chip.cantCtrl_term hs n) hp
  case step => exact fun n data s h ht hp => cantMeas_requested (step := true) h (Chip.cantCtrl_step ht n) hp
  case idle =>
    intro n s hcur
    exact ⟨_, State.next_chip (if_neg (by simp [hcur])), Tbl.get_set_self _ _ _ _, Only.of_regs rfl⟩
  case pause => exact fun n s => ⟨_, rfl, Tbl.get_set_self _ _ _ _, Only.of_regs rfl⟩
  case done =>
    exact fun n ohm found s h => ⟨_, rfl, Chip.cantDone_says h ohm.toNat found⟩
  case timeout =>
    intro n step s h
    have he : s.chip.cantTimeout n step = (s.chip.cantEnd n step 3).finish (onObj 0x35 (n + 8 * step.toNat)) .aborted [] := if_neg h
    have hsv : Served (s.chip.cantEnd n step 3) (s.chip.cantTimeout n step) := he ▸ Served.finish _ _ _ _
    obtain ⟨hphase, hstatus, -, -⟩ := Chip.cantEnd_says s.chip n step 3
    exact ⟨_, rfl, (hsv.fget_die _ (cantReg_die n step)).trans hstatus, (congrArg (CantX.phase · step) (hsv.cant n)).trans hphase⟩
  case stale =>
    refine fun s => ⟨_, rfl, ?_, fun a ha => Chip.rd_fset_ne _ _ _ ha⟩
    rw [Chip.flag, Chip.fget_fset_self _ _ _ _ (by decide)]
    rfl

end Sys2Proof.Machine
end

section
/-! PROOF. Timers, fences, cache and SRAM errors of the application cores (R64, R272, R274, R275, R277, R279, R283). -/

namespace Sys2Proof.Machine
open Sys2Proof

theorem ofNat_toNat32 (x : Word) : BitVec.ofNat 32 x.toNat = x := by simp

/-- A raise leaves the counts of the other sources. -/
theorem Chip.rd_raise_cnt_ne (c : Chip) {k j : Nat} (h : j ≠ k) (hj : j < 256) : (c.raise k).rd (R.EVR_CNT j) = c.rd (R.EVR_CNT j) := by
  apply Chip.rd_raise_ne
  · simp only [R.EVR_CNT, R.SYS_BLK_POWER]
    omega
  · simp only [R.EVR_CNT]
    omega
  · intro t ht
    simp only [R.EVR_CNT, R.EVR_MERGE_CNT]
    omega

/-! ### Time and its interrupt (R279) -/

theorem Chip.mip_mtip (c : Chip) (k : Nat) : (c.mip k).getLsbD 7 = decide (c.mtimecmp k ≤ c.mtime) := by
  rw [Chip.mip, ← wordOf_reverse]
  exact getLsbD_wordOf [(17, _), (16, _), (11, _)] [(3, _)] (decide (c.mtimecmp k ≤ c.mtime)) (by omega) (by simp)
    (placed_cons_lt 1 (Fld.get_lt _ _) (Nat.two_pow_pos 3) (by omega))

theorem Chip.mtimecmp_lt (c : Chip) (k : Nat) : c.mtimecmp k < 2 ^ 64 := by
  have h₁ := (c.rd (R.SYS_MTIMECMP_HI k)).isLt
  have h₂ := (c.rd (R.SYS_MTIMECMP_LO k)).isLt
  unfold Chip.mtimecmp
  omega

theorem Chip.mtime_timeReaches (c : Chip) (k : Nat) : (c.timeReaches k).mtime = max c.mtime (c.mtimecmp k) := by
  have h : max c.mtime (c.mtimecmp k) < 2 ^ 64 := max_lt (c.ctr64 R.SYS_MTIME_LO).isLt (c.mtimecmp_lt k)
  rw [Chip.mtime, Chip.timeReaches, Chip.ctr64_setCtr64_self, BitVec.toNat_ofNat, Nat.mod_eq_of_lt h]

theorem Chip.mtimecmp_timeReaches (c : Chip) (k : Nat) : (c.timeReaches k).mtimecmp k = c.mtimecmp k := rfl

/-! ### A write of mcounteren (R49, R272) -/

theorem Chip.lockViolation_sys (c : Chip) :
    c.lockViolation R.SYS_LOCK = (c.fbump (R.SYS_LOCKVIOL_CNT 0) F.SYS_LOCKVIOL_CNT_COUNT).raise 4 := by
  have hd : dieOf R.SYS_LOCK = 0 := by decide
  have hi : lockViolIndex R.SYS_LOCK = 0 := by decide
  have hl : ∀ c : Chip, c.linkUp 0 = true := fun _ => rfl
  rw [Chip.lockViolation, Chip.lockCount, Chip.raiseFrom, hd, hi, if_pos (hl c), if_pos (hl _)]

theorem Chip.csrWrite_mcounteren {c : Chip} {k : Fin 4} (x : Word) (hr : c.coreRuns k = true) (hu : (c.core k).user = false) :
    c.csrWrite k 0x306 x = c.lockViolation R.SYS_LOCK := by
  unfold Chip.csrWrite
  rw [if_neg (by simp [hr]), if_neg (by simp [hu]), if_pos rfl]

theorem Chip.awake_of_coreRuns {c : Chip} {k : Nat} (h : c.coreRuns k = true) : c.awake = true := by
  simp only [Chip.coreRuns, Bool.and_eq_true] at h
  exact h.1

theorem Chip.lockViolation_sys_says {c : Chip} (h : c.awake = true) :
    (c.lockViolation R.SYS_LOCK).fget (R.SYS_LOCKVIOL_CNT 0) F.SYS_LOCKVIOL_CNT_COUNT =
        min F.SYS_LOCKVIOL_CNT_COUNT.max (c.fget (R.SYS_LOCKVIOL_CNT 0) F.SYS_LOCKVIOL_CNT_COUNT + 1) ∧
      (c.lockViolation R.SYS_LOCK).rd (R.EVR_CNT 4) = .ofNat 32 (min 0xFFFFFFFF ((c.rd (R.EVR_CNT 4)).toNat + 1)) ∧
      (∀ k, (c.lockViolation R.SYS_LOCK).core k = c.core k) ∧ Only [Blk.sys, Blk.evr] c (c.lockViolation R.SYS_LOCK) := by
  rw [Chip.lockViolation_sys]
  have hsv := Served.raise (c.fbump (R.SYS_LOCKVIOL_CNT 0) F.SYS_LOCKVIOL_CNT_COUNT) (k := 4) (by decide)
  have hb : (c.fbump (R.SYS_LOCKVIOL_CNT 0) F.SYS_LOCKVIOL_CNT_COUNT).awake = true := Chip.awake_of_rd (Chip.rd_fset_ne c _ _ (by decide)) h
  refine ⟨?_, ?_, fun k => hsv.core k, ?_⟩
  · rw [Chip.fget, hsv.rd (.inl (by decide)), ← Chip.fget, Chip.fbump, Chip.fget_fset_self _ _ _ _ (by decide)]
    refine Nat.mod_eq_of_lt (lt_of_le_of_lt (min_le_left _ _) (by decide))
  · rw [Chip.rd_raise_cnt hb (by decide)]
    exact congrArg (fun w : Word => BitVec.ofNat 32 (min 0xFFFFFFFF (w.toNat + 1))) (Chip.rd_fset_ne c _ _ (by decide))
  · exact (Only.fset c _ _ _ ⟨Blk.sys, by simp, by decide⟩).trans (Only.raise _ (by decide))

/-! ### ECC and parity errors (R277, R283) -/

theorem Chip.rd_of_regs {c c' : Chip} (h : c'.regs = c.regs) (b : Nat) : c'.rd b = c.rd b := by rw [Chip.rd, h, Chip.rd]

theorem Chip.rd_faultNoted_ne (c : Chip) (write : Bool) (rq : Req) (sy : Syndrome) (a : Nat) {b : Nat} (h : b ≠ R.SYS_BUSFAULT)
    (h' : b ≠ R.SYS_BUSFAULT_ADDR) (h'' : b ≠ R.SYS_BUSFAULT_CNT) : (c.faultNoted write rq sy a).rd b = c.rd b := by
  rw [Chip.faultNoted, Chip.rd_bump_ne _ _ h'', Chip.rd_wr_ne _ _ h', Chip.rd_wr_ne _ _ h]

/-- A bus error raises EV003 alone, and the module stays powered. -/
theorem Chip.busError_keeps {c : Chip} (write : Bool) (rq : Req) (sy : Syndrome) (a : Nat) (h : c.awake = true) :
    (c.busError write rq sy a).awake = true ∧ ∀ j < 256, j ≠ 3 → (c.busError write rq sy a).rd (R.EVR_CNT j) = c.rd (R.EVR_CNT j) := by
  rw [Chip.busError_powered write rq sy a h]
  refine ⟨?_, fun j hj hne => ?_⟩
  · rw [(Served.raise _ (by decide)).awake]
    exact Chip.awake_faultNoted write rq sy a h
  · rw [Chip.rd_raise_cnt_ne _ hne hj]
    apply Chip.rd_faultNoted_ne <;> simp only [R.EVR_CNT, R.SYS_BUSFAULT, R.SYS_BUSFAULT_ADDR, R.SYS_BUSFAULT_CNT] <;> omega

/-- An error counted at cnt, with its address, that raises event k. -/
def Chip.eccNoted (c : Chip) (cnt a k : Nat) : Chip := ((c.bump cnt).wr R.SRC_ECC_LAST (.ofNat 32 a)).raise k

theorem Chip.eccNoted_says (c : Chip) {cnt k : Nat} (a : Nat) (hk : k < 256) (hc : cnt = R.SRC_ECC_CORR_CNT ∨ cnt = R.SRC_ECC_UNCORR_CNT) :
    (c.eccNoted cnt a k).rd cnt = .ofNat 32 (min 0xFFFFFFFF ((c.rd cnt).toNat + 1)) ∧
      (c.eccNoted cnt a k).rd R.SRC_ECC_LAST = .ofNat 32 a ∧
      (∀ b, 0x40030000 ≤ b → b ≠ cnt → b ≠ R.SRC_ECC_LAST → (c.eccNoted cnt a k).rd b = c.rd b) ∧
      Only [Blk.sys, Blk.evr, Blk.ret] c (c.eccNoted cnt a k) ∧
      ∀ b, b < 0x40000500 → (c.eccNoted cnt a k).rd b = c.rd b := by
  have hsv := Served.raise ((c.bump cnt).wr R.SRC_ECC_LAST (.ofNat 32 a)) hk
  have hlo : 0x40050000 ≤ cnt ∧ cnt < 0x40060000 ∧ cnt ≠ R.SRC_ECC_LAST := by
    obtain rfl | rfl := hc <;> decide
  have hlast : 0x40050000 ≤ R.SRC_ECC_LAST ∧ R.SRC_ECC_LAST < 0x40060000 := by decide
  obtain ⟨h₁, h₂, h₃⟩ := hlo
  refine ⟨?_, ?_, fun b hb hn hl => ?_, ?_, fun b hb => ?_⟩
  · rw [Chip.eccNoted, hsv.rd_die (by omega), Chip.rd_wr_ne _ _ h₃, Chip.rd_bump_self]
  · rw [Chip.eccNoted, hsv.rd_die (by omega), Chip.rd_wr_self]
  · rw [Chip.eccNoted, hsv.rd_die hb, Chip.rd_wr_ne _ _ hl, Chip.rd_bump_ne _ _ hn]
  · exact ((Only.bump c cnt 1 ⟨Blk.ret, by simp, h₁, h₂⟩).trans (Only.wr _ _ _ ⟨Blk.ret, by simp, hlast⟩)).trans
      ((Only.raise _ hk).mono (by simp))
  · rw [Chip.eccNoted, hsv.rd (.inl hb), Chip.rd_wr_ne _ _ (by omega), Chip.rd_bump_ne _ _ (by omega)]

theorem Chip.eccNoted_event {c : Chip} {cnt k : Nat} (a : Nat) (hk : k < 256) (hc : 0x40050000 ≤ cnt) (h : c.awake = true) :
    (c.eccNoted cnt a k).rd (R.EVR_CNT k) = .ofNat 32 (min 0xFFFFFFFF ((c.rd (R.EVR_CNT k)).toNat + 1)) := by
  have hrd : ∀ b, b < 0x40050000 → ((c.bump cnt).wr R.SRC_ECC_LAST (.ofNat 32 a)).rd b = c.rd b := by
    intro b hb
    rw [Chip.rd_wr_ne _ _ (by simp only [R.SRC_ECC_LAST]; omega), Chip.rd_bump_ne _ _ (by omega)]
  have ha : ((c.bump cnt).wr R.SRC_ECC_LAST (.ofNat 32 a)).awake = true := Chip.awake_of_rd (hrd _ (by decide)) h
  rw [Chip.eccNoted, Chip.rd_raise_cnt ha hk, hrd _ (by simp only [R.EVR_CNT]; omega)]

theorem Noted.core {c c' : Chip} (h : Noted c c') (k : Nat) : c'.core k = c.core k := h.field (·.core k)
theorem Noted.respOf {c c' : Chip} (h : Noted c c') (rq : Req) : c'.respOf rq = c.respOf rq := h.field (·.respOf rq)
theorem Noted.eccLost (c : Chip) (a : Nat) : Noted c (c.eccLost a) := ((Noted.bump c _ 1).trans (Noted.wr _ _ _)).trans (Noted.raise _ _)

theorem Chip.eccCorrected_eq (c : Chip) (a : Nat) : c.eccCorrected a = c.eccNoted R.SRC_ECC_CORR_CNT a 12 := rfl
theorem Chip.eccLost_eq (c : Chip) (a : Nat) : c.eccLost a = c.eccNoted R.SRC_ECC_UNCORR_CNT a 13 := rfl

/-- What is seen of a bus error of syndrome ECC, with the error counted after it: c₁ is the module between the two. -/
theorem BusErrorSeen.eccLost {c c₁ : Chip} {write : Bool} {rq : Req} {a : Nat} (h : c.awake = true)
    (h₁ : c₁.regs = (c.busError write rq .ecc a).regs) :
    (c₁.eccLost a).rd R.SRC_ECC_UNCORR_CNT = .ofNat 32 (min 0xFFFFFFFF ((c.rd R.SRC_ECC_UNCORR_CNT).toNat + 1)) ∧
      (c₁.eccLost a).fget R.SYS_BUSFAULT F.SYS_BUSFAULT_SYNDROME = 8 ∧ (c₁.eccLost a).rd R.SYS_BUSFAULT_ADDR = .ofNat 32 a ∧
      (c₁.eccLost a).rd (R.EVR_CNT 13) = .ofNat 32 (min 0xFFFFFFFF ((c.rd (R.EVR_CNT 13)).toNat + 1)) ∧
      Only [Blk.sys, Blk.evr, Blk.ret] c (c₁.eccLost a) := by
  have hseen : BusErrorSeen c c₁ write rq .ecc a := (Chip.busError_seen write rq .ecc a h).of_regs rfl h₁
  obtain ⟨hw, hev⟩ := Chip.busError_keeps write rq .ecc a h
  have hw₁ : c₁.awake = true := Chip.awake_of_rd (Chip.rd_of_regs h₁ _) hw
  have hev₁ : c₁.rd (R.EVR_CNT 13) = c.rd (R.EVR_CNT 13) := (Chip.rd_of_regs h₁ _).trans (hev 13 (by decide) (by decide))
  have hcnt₁ : c₁.rd R.SRC_ECC_UNCORR_CNT = c.rd R.SRC_ECC_UNCORR_CNT := hseen.frame _ (by decide)
  obtain ⟨hcnt, -, -, honly, hlow⟩ := Chip.eccNoted_says c₁ (k := 13) a (by decide) (.inr rfl)
  have hevent := Chip.eccNoted_event (cnt := R.SRC_ECC_UNCORR_CNT) (k := 13) a (by decide) (by decide) hw₁
  rw [hcnt₁] at hcnt
  rw [hev₁] at hevent
  exact ⟨hcnt, (congrArg F.SYS_BUSFAULT_SYNDROME.get (hlow _ (by decide))).trans hseen.syndrome, (hlow _ (by decide)).trans hseen.addr, hevent,
    (hseen.frame.mono (by simp)).trans honly⟩

theorem Chip.parity_clean {c : Chip} {k : Fin 4} (a : Nat) (write : Bool) (h : c.coreRuns k = true) :
    c.parity k a false write = c.eccNoted R.SRC_ECC_CORR_CNT a 12 := by
  unfold Chip.parity
  rw [if_neg (by simp [h]), if_neg (by simp), Chip.eccCorrected_eq]

/-- The core of a parity error in a dirty line, before the error is counted. -/
def Chip.dirtyFault (c : Chip) (k : Fin 4) (a : Nat) (write : Bool) : Chip :=
  (c.busError write (Req.core k) .ecc a).coreTrap (Req.core k) (if write then 7 else 5) a

theorem Chip.parity_dirty {c : Chip} {k : Fin 4} (a : Nat) (write : Bool) (h : c.coreRuns k = true) :
    c.parity k a true write = (c.dirtyFault k a write).eccLost a := by
  unfold Chip.parity
  rw [if_neg (by simp [h]), if_pos rfl]
  rfl

theorem Chip.trap_coreTrap (c : Chip) (k : Fin 4) (cause a : Nat) : ((c.coreTrap (Req.core k) cause a).core k).trap = some (cause, a) := by
  have hk : (Req.core k).code = k := by fin_cases k <;> rfl
  unfold Chip.coreTrap
  rw [hk, if_pos k.isLt, Chip.core_setCore_self]

theorem Chip.sramError_single {c : Chip} (rq : Req) {a : Nat} (fetch : Bool) (hi : inSram a = true) (h : c.awake = true) :
    c.sramError rq a false fetch = c.eccNoted R.SRC_ECC_CORR_CNT a 12 := by
  unfold Chip.sramError
  rw [if_neg (by simp [hi, h]), if_neg (by simp), Chip.eccCorrected_eq]

/-- Of a read that fails by two bits, with or without a fetch: the registers are those of the failed read and its error. -/
theorem Chip.sramError_double {c : Chip} (rq : Req) {a : Nat} (fetch : Bool) (hi : inSram a = true) (h : c.awake = true) :
    (c.sramError rq a true fetch).regs = ((c.failRead rq .ecc a).eccLost a).regs ∧
      ∀ rq', (c.sramError rq a true fetch).respOf rq' = ((c.failRead rq .ecc a).eccLost a).respOf rq' := by
  unfold Chip.sramError
  rw [if_neg (by simp [hi, h]), if_pos rfl]
  cases fetch
  · rw [if_neg (by decide)]
    exact ⟨rfl, fun _ => rfl⟩
  · rw [if_pos rfl]
    exact ⟨Chip.coreTrap_regs _ _ _ _, fun _ => Chip.respOf_coreTrap _ _ _ _ _⟩

/-! ### Stale cache lines (R274) -/

/-- A core's stale lines outside a range of the memory alone stay. -/
def Chip.unstale (a n : Nat) (c : Chip) (k : Fin 4) : Chip :=
  c.setCore k { c.core k with stale := (c.core k).stale.filter fun l => 32 * l + 32 ≤ a || a + n ≤ 32 * l }

theorem Chip.stale_unstale (a n : Nat) (c : Chip) (j k : Fin 4) :
    (((c.unstale a n j).core k).stale = (c.core k).stale ∧ j ≠ k) ∨
      (j = k ∧ ((c.unstale a n j).core k).stale = (c.core k).stale.filter fun l => 32 * l + 32 ≤ a || a + n ≤ 32 * l) := by
  by_cases h : j = k
  · subst h
    exact .inr ⟨rfl, by rw [Chip.unstale, Chip.core_setCore_self]⟩
  · exact .inl ⟨by rw [Chip.unstale, Chip.core_setCore_ne _ _ (fun h' => h (Fin.ext h'.symm))], h⟩

theorem Chip.stale_unstale_all (a n : Nat) (k : Fin 4) : ∀ (ks : List (Fin 4)) (c : Chip), k ∈ ks ∨
      (∀ l ∈ (c.core k).stale, 32 * l + 32 ≤ a ∨ a + n ≤ 32 * l) →
    ∀ l ∈ ((ks.foldl (Chip.unstale a n) c).core k).stale, 32 * l + 32 ≤ a ∨ a + n ≤ 32 * l
  | [], c, h => h.resolve_left (by simp)
  | j :: ks, c, h => by
    refine Chip.stale_unstale_all a n k ks (c.unstale a n j) ?_
    obtain ⟨hs, hne⟩ | ⟨-, hs⟩ := Chip.stale_unstale a n c j k
    · rw [hs]
      exact h.imp_left fun hk => (List.mem_cons.1 hk).resolve_left (Ne.symm hne)
    · refine .inr fun l hl => ?_
      rw [hs, List.mem_filter] at hl
      simpa using hl.2

theorem Only.unstale (a n : Nat) (ks : List (Fin 4)) (c : Chip) : Only [] c (ks.foldl (Chip.unstale a n) c) :=
  Only.foldl (f := Chip.unstale a n) (fun _ _ => Only.of_regs rfl) ks c

theorem Chip.rd_unstale (a n : Nat) (ks : List (Fin 4)) (c : Chip) (b : Nat) : (ks.foldl (Chip.unstale a n) c).rd b = c.rd b :=
  Only.unstale a n ks c b (by simp)

/-- Settles O28: each of these commands is one of the operations above on the module. -/
theorem coresTimersFencesAndErrors : Obligations.CoresTimersFencesAndErrors := by
  unfold Obligations.CoresTimersFencesAndErrors
  refine ⟨?time, ?mcounteren, ?fenceI, fun _ _ _ _ => rfl, ?clean, ?dirty, ?single, ?double, ?nvm⟩
  case time =>
    refine fun k s => ⟨_, rfl, s.chip.mtime_timeReaches k, ?_, Only.of_regs rfl⟩
    rw [Chip.mip_mtip, Chip.mtime_timeReaches, Chip.mtimecmp_timeReaches, decide_eq_true_eq]
    exact le_max_right _ _
  case mcounteren =>
    exact fun k data s hr hu => ⟨_, State.next_chip (Chip.csrWrite_mcounteren data hr hu), Chip.lockViolation_sys_says (Chip.awake_of_coreRuns hr)⟩
  case fenceI =>
    refine fun k s => ⟨_, rfl, ?_, fun j hj => Chip.core_setCore_ne _ _ hj, Only.of_regs rfl⟩
    exact congrArg CoreX.stale (Chip.core_setCore_self _ _ _)
  case clean =>
    intro k addr write s hr
    obtain ⟨hcnt, hlast, hrest, honly, -⟩ := Chip.eccNoted_says s.chip (k := 12) addr.toNat (by decide) (.inl rfl)
    rw [ofNat_toNat32] at hlast
    exact ⟨_, State.next_chip (Chip.parity_clean _ _ hr), hcnt, hlast, hrest _ (by decide) (by decide) (by decide), honly⟩
  case dirty =>
    intro k addr write s hr
    have hw := Chip.awake_of_coreRuns hr
    obtain ⟨hcnt, hsy, haddr, hev, -⟩ := BusErrorSeen.eccLost (c₁ := s.chip.dirtyFault k addr.toNat write) hw (Chip.coreTrap_regs _ _ _ _)
    rw [ofNat_toNat32] at haddr
    refine ⟨_, State.next_chip (Chip.parity_dirty _ _ hr), hcnt, ?_, hsy, haddr, hev⟩
    exact (congrArg CoreX.trap ((Noted.eccLost _ _).core k)).trans (Chip.trap_coreTrap _ _ _ _)
  case single =>
    intro rq addr fetch s hi hw
    obtain ⟨hcnt, hlast, -, honly, -⟩ := Chip.eccNoted_says s.chip (k := 12) addr.toNat (by decide) (.inl rfl)
    rw [ofNat_toNat32] at hlast
    exact ⟨_, State.next_chip (Chip.sramError_single rq fetch hi hw), hcnt, hlast, Chip.eccNoted_event _ (by decide) (by decide) hw, honly⟩
  case double =>
    intro rq addr fetch s hi hw
    obtain ⟨hregs, hresp⟩ := Chip.sramError_double rq fetch hi hw
    obtain ⟨hcnt, hsy, -, hev, honly⟩ := BusErrorSeen.eccLost (write := false) (rq := rq) (c₁ := s.chip.failRead rq .ecc addr.toNat) hw
      (Chip.coreTrap_regs _ _ _ _)
    have hrd := Chip.rd_of_regs hregs
    exact ⟨_, rfl, (hrd _).trans hcnt, ((hresp rq).trans ((Noted.eccLost _ _).respOf rq)).trans (Chip.respOf_failRead _ _ _ _), (congrArg F.SYS_BUSFAULT_SYNDROME.get (hrd _)).trans hsy, (hrd _).trans hev, honly.trans (Only.of_regs hregs)⟩
  case nvm =>
    intro lo n s he
    have he' : ((List.finRange 4).foldl (Chip.unstale lo.toNat n) s.chip).erasing = false := by
      rw [← he]
      exact congrArg (F.SEC_LOG_STATUS_ERASING.get · == 1) (Chip.rd_unstale _ _ _ _ _)
    refine ⟨(List.finRange 4).foldl (Chip.unstale lo.toNat n) s.chip, congrArg Host.Outcome.next (if_neg ?_), ?_, Only.unstale _ _ _ _⟩
    · rintro ⟨h, -⟩
      exact absurd (he'.symm.trans h) (by decide)
    · exact fun k => Chip.stale_unstale_all _ _ k _ _ (.inl (List.mem_finRange k))

end Sys2Proof.Machine
end

section
/-! SUPPORT. Words in SRAM, and what a store leaves of the module (R274 to R276, R282). -/

namespace Sys2Proof.Machine
open Sys2Proof

theorem toNat_append_add {m n : Nat} (x : BitVec m) (y : BitVec n) : (x ++ y).toNat = x.toNat * 2 ^ n + y.toNat := by
  rw [BitVec.toNat_append, ← Nat.shiftLeft_add_eq_or_of_lt y.isLt, Nat.shiftLeft_eq]

/-- The bytes of a word, put together again. -/
theorem word_of_bytes (x : Word) :
    (BitVec.ofNat 8 (x.toNat / 256 / 256 / 256) ++ BitVec.ofNat 8 (x.toNat / 256 / 256) ++ BitVec.ofNat 8 (x.toNat / 256) ++ BitVec.ofNat 8 x.toNat : Word) = x := by
  apply BitVec.eq_of_toNat_eq
  rw [toNat_append_add, toNat_append_add, toNat_append_add]
  simp only [BitVec.toNat_ofNat]
  have := x.isLt
  omega

@[simp] theorem wordBytes_length (x : Word) : (wordBytes x).length = 4 := rfl

theorem Memory.word_writes (m : List Host.Cell) (a : Nat) (x : Word) : Memory.word (Memory.writes m a (wordBytes x)) a = x := by
  have h : ∀ (k : Nat) (hk : k < 4), Memory.read (Memory.writes m a (wordBytes x)) (a + k) = (wordBytes x)[k]'hk :=
    fun k hk => Memory.read_writes_in (wordBytes x) m a k hk
  rw [Memory.word, h 3 (by decide), h 2 (by decide), h 1 (by decide), ← Nat.add_zero a, Nat.add_zero a, show Memory.read _ a = _ from h 0 (by decide)]
  exact word_of_bytes x

/-- A store touches its own bytes alone. -/
theorem Memory.read_writes_word (m : List Host.Cell) {a b : Nat} (x : Word) (h : b < a ∨ a + 4 ≤ b) :
    Memory.read (Memory.writes m a (wordBytes x)) b = Memory.read m b := Memory.read_writes_out b (wordBytes x) m a h

/-- c' differs from c in what the cores hold alone. -/
def CoresOnly (c c' : Chip) : Prop := c' = { c with cores := c'.cores }

namespace CoresOnly

variable {c c' c'' : Chip}

theorem refl (c : Chip) : CoresOnly c c := rfl
theorem trans (h : CoresOnly c c') (h' : CoresOnly c' c'') : CoresOnly c c'' := by
  unfold CoresOnly at h h' ⊢
  rw [h'] at *
  rw [h]
theorem foldl {α : Type} {f : Chip → α → Chip} (h : ∀ c x, CoresOnly c (f c x)) : ∀ (xs : List α) (c : Chip), CoresOnly c (xs.foldl f c)
  | [], c => refl c
  | x :: xs, c => (h c x).trans (foldl h xs _)
theorem setCore (c : Chip) (k : Nat) (x : CoreX) : CoresOnly c (c.setCore k x) := rfl
theorem coreTrap (c : Chip) (rq : Req) (cause a : Nat) : CoresOnly c (c.coreTrap rq cause a) := by
  unfold Chip.coreTrap
  split
  · exact setCore c _ _
  · exact refl c
theorem storeSeen (c : Chip) (rq : Req) (a n : Nat) : CoresOnly c (c.storeSeen rq a n) := by
  unfold Chip.storeSeen
  split
  · exact refl c
  · exact foldl (fun c j => foldl (fun c k => setCore c _ _) _ c) _ c
theorem field {α : Type} (f : Chip → α) (h : CoresOnly c c') : f c' = f { c with cores := c'.cores } := congrArg f h
theorem regs (h : CoresOnly c c') : c'.regs = c.regs := h.field (·.regs)
theorem respOf (h : CoresOnly c c') (rq : Req) : c'.respOf rq = c.respOf rq := h.field (·.respOf rq)
theorem queues (h : CoresOnly c c') : c'.queues = c.queues := h.field (·.queues)
theorem hsp (h : CoresOnly c c') : c'.hsp = c.hsp := h.field (·.hsp)
theorem only (h : CoresOnly c c') (l : List (Nat × Nat)) : Only l c c' := Only.of_regs h.regs

end CoresOnly

/-- A store makes no reservation. -/
theorem Chip.reserve_lineStored (rq : Req) (line : Nat) (c : Chip) (j : Fin 4) (k : Nat) (h : (c.core k).reserve = none) :
    ((Chip.lineStored rq line c j).core k).reserve = none := by
  unfold Chip.lineStored
  by_cases hk : k = j.val
  · rw [hk] at h ⊢
    rw [Chip.core_setCore_self]
    simp [h]
  · rw [Chip.core_setCore_ne _ _ hk, h]

theorem Chip.reserve_storeSeen (c : Chip) (rq : Req) (a n k : Nat) (h : (c.core k).reserve = none) :
    ((c.storeSeen rq a n).core k).reserve = none := by
  unfold Chip.storeSeen
  split
  · exact h
  · refine List.foldlRecOn _ _ (motive := fun c => (Chip.core c k).reserve = none) h fun c hc j _ => ?_
    exact List.foldlRecOn _ _ (motive := fun c => (Chip.core c k).reserve = none) hc fun c hc i _ => Chip.reserve_lineStored rq _ c i k hc

end Sys2Proof.Machine
end
section
/-! PROOF. What LR, SC and the atomic memory operations do (R276, R278, R399). -/

namespace Sys2Proof.Machine
open Sys2Proof

section
variable {s : State} {k : Fin 4} {u : Bool} {a : Nat}

/-- The checks of an atomic access to an aligned SRAM word that the core may read and write. -/
theorem State.atomicAccess_passes (o : AtomicOp) (x : Word) (hr : s.chip.coreRuns k = true) (ha : inSram a = true ∧ a % 4 = 0)
    (hp : s.chip.pmpOk k u a 4 0 = true ∧ s.chip.pmpOk k u a 4 1 = true) : s.atomicAccess k u o a x = s.atomic k o a x := by
  unfold State.atomicAccess
  rw [if_neg (by simp [hr]), if_neg (by simp [hp.1, hp.2, ha.1]), if_neg (by simp [ha.2])]

theorem State.atomicAccess_outside (o : AtomicOp) (x : Word) (hr : s.chip.coreRuns k = true) (ha : inSram a = false) :
    s.atomicAccess k u o a x = s.onChip fun c => c.coreTrap (Req.core k) (atomicFault o) a := by
  unfold State.atomicAccess
  rw [if_neg (by simp [hr]), if_pos (by simp [ha])]

/-- An AMO of a bank that is not LOST: the old word is answered, the result stored. -/
theorem State.atomic_amo {o : AtomicOp} (ho : o ≠ .lr ∧ o ≠ .sc) (x : Word) (hb : s.chip.bankLost a = false) :
    s.atomic k o a x = (s.put (Req.core k) a (wordBytes (atomicResult o (Memory.word s.sram a) x))).onChip
      fun c => c.answer (Req.core k) a (Memory.word s.sram a) := by
  obtain ⟨hl, hs⟩ := ho
  cases o
  case lr => exact absurd rfl hl
  case sc => exact absurd rfl hs
  all_goals exact if_neg (by simp [hb])

/-- What an AMO leaves. -/
theorem State.atomic_amo_says {o : AtomicOp} (ho : o ≠ .lr ∧ o ≠ .sc) (x : Word) (hb : s.chip.bankLost a = false) :
    (s.atomic k o a x).chip.respOf (Req.core k) = ⟨a, Memory.word s.sram a, 0⟩ ∧
      Memory.word (s.atomic k o a x).sram a = atomicResult o (Memory.word s.sram a) x ∧
      (∀ b, b < a ∨ a + 4 ≤ b → Memory.read (s.atomic k o a x).sram b = Memory.read s.sram b) ∧ Only [] s.chip (s.atomic k o a x).chip := by
  rw [State.atomic_amo ho x hb]
  exact ⟨Chip.respOf_answer_self _ _ _ _ _, Memory.word_writes _ _ _, fun b hb => Memory.read_writes_word _ _ hb,
    ((CoresOnly.storeSeen s.chip (Req.core k) a 4).only []).trans (Only.of_regs rfl)⟩

theorem State.atomic_sc_held (x : Word) (hw : s.chip.awake = true) (hb : s.chip.bankLost a = false)
    (h : (s.chip.core k).reserve = some (a / 32)) :
    s.atomic k .sc a x = (s.onChip fun c => (c.setReserve k none).answer (Req.core k) a 0).put (Req.core k) a (wordBytes x) := by
  have hs : s.atomic k .sc a x =
      if (s.chip.core k).reserve = some (a / 32) then
        (s.onChip fun c => (c.setReserve k none).answer (Req.core k) a (if (s.chip.core k).reserve = some (a / 32) then 0 else 1)).store (Req.core k) a (wordBytes x)
      else s.onChip fun c => (c.setReserve k none).answer (Req.core k) a (if (s.chip.core k).reserve = some (a / 32) then 0 else 1) := rfl
  rw [hs, if_pos h, if_pos h, State.store, if_neg, if_neg]
  · exact fun hl => absurd (hb.symm.trans hl) (by decide)
  · show ¬ (!s.chip.awake) = true
    simp [hw]

theorem State.atomic_sc_free (x : Word) (h : (s.chip.core k).reserve ≠ some (a / 32)) :
    s.atomic k .sc a x = s.onChip fun c => (c.setReserve k none).answer (Req.core k) a 1 := by
  have hs : s.atomic k .sc a x =
      if (s.chip.core k).reserve = some (a / 32) then
        (s.onChip fun c => (c.setReserve k none).answer (Req.core k) a (if (s.chip.core k).reserve = some (a / 32) then 0 else 1)).store (Req.core k) a (wordBytes x)
      else s.onChip fun c => (c.setReserve k none).answer (Req.core k) a (if (s.chip.core k).reserve = some (a / 32) then 0 else 1) := rfl
  rw [hs, if_neg h, if_neg h]

theorem State.atomic_lr (x : Word) (hb : s.chip.bankLost a = false) :
    s.atomic k .lr a x = s.onChip fun c => (c.setReserve k (some (a / 32))).answer (Req.core k) a (Memory.word s.sram a) :=
  if_neg (by simp [hb])

end

theorem Chip.reserve_setReserve (c : Chip) (k : Nat) (r : Option Nat) : ((c.setReserve k r).core k).reserve = r := by
  rw [Chip.setReserve, Chip.core_setCore_self]

/-- Settles O29: an access that passes its checks is one of the atomic operations on the word, and one outside SRAM a trap. -/
theorem atomicAccessesToSram : Obligations.AtomicAccessesToSram := by
  unfold Obligations.AtomicAccessesToSram
  refine ⟨?lr, ?scHeld, ?scFree, ?add, ?swap, ?outside⟩
  case lr =>
    intro k u addr data s hr ha hp hb
    refine ⟨_, congrArg Host.Outcome.next ((State.atomicAccess_passes .lr data hr ha hp).trans (State.atomic_lr data hb)), ?_⟩
    exact ⟨Chip.respOf_answer_self _ _ _ _ _, Chip.reserve_setReserve s.chip k (some (addr.toNat / 32)), Only.of_regs rfl⟩
  case scHeld =>
    intro k u addr data s hr ha hp hb hh
    refine ⟨_, congrArg Host.Outcome.next ((State.atomicAccess_passes .sc data hr ha hp).trans
      (State.atomic_sc_held data (Chip.awake_of_coreRuns hr) hb hh)), ?_⟩
    have hc := CoresOnly.storeSeen ((s.chip.setReserve k none).answer (Req.core k) addr.toNat 0) (Req.core k) addr.toNat 4
    exact ⟨(hc.respOf _).trans (Chip.respOf_answer_self _ _ _ _ _), Chip.reserve_storeSeen _ _ _ _ _ (Chip.reserve_setReserve s.chip k none),
      Memory.word_writes _ _ _, fun b hb => Memory.read_writes_word _ _ hb, (Only.of_regs rfl).trans (hc.only [])⟩
  case scFree =>
    intro k u addr data s hr ha hp hn
    refine ⟨_, congrArg Host.Outcome.next ((State.atomicAccess_passes .sc data hr ha hp).trans (State.atomic_sc_free data hn)), ?_⟩
    exact ⟨Chip.respOf_answer_self _ _ _ _ _, Chip.reserve_setReserve s.chip k none, Only.of_regs rfl⟩
  case add =>
    intro k u addr data s hr ha hp hb
    exact ⟨_, congrArg Host.Outcome.next (State.atomicAccess_passes .add data hr ha hp), State.atomic_amo_says (by decide) data hb⟩
  case swap =>
    intro k u addr data s hr ha hp hb
    obtain ⟨hresp, hword, hrest, -⟩ := State.atomic_amo_says (s := s) (k := k) (o := .swap) (by decide) data hb
    exact ⟨_, congrArg Host.Outcome.next (State.atomicAccess_passes .swap data hr ha hp), hresp, hword, hrest⟩
  case outside =>
    intro k u op addr data s hr ha
    refine ⟨_, congrArg Host.Outcome.next (State.atomicAccess_outside op data hr ha), Chip.trap_coreTrap _ _ _ _, ?_⟩
    exact (CoresOnly.coreTrap s.chip _ _ _).only []

end Sys2Proof.Machine
end

section
/-! SUPPORT. What restarting a block's clock leaves, and the registers of the queues (R59, R325 to R330). -/

namespace Sys2Proof.Machine
open Sys2Proof

theorem Noted.touch (c : Chip) (a : Nat) : Noted c (c.touch a) := by
  unfold Chip.touch
  split
  · exact Noted.ungate c _
  · exact Noted.refl c

theorem Chip.rd_touch (c : Chip) (a : Nat) {b : Nat} (h : b < 0x40000500 ∨ 0x40000600 ≤ b) : (c.touch a).rd b = c.rd b := by
  unfold Chip.touch
  split
  case h_1 k hk =>
    have := blockOf_lt hk
    refine Chip.rd_fset_ne c _ _ ?_
    simp only [R.SYS_BLK_POWER]
    omega
  case h_2 => rfl

theorem Chip.queue_touch (c : Chip) (a q : Nat) : (c.touch a).queue q = c.queue q := by rw [Chip.queue, (Noted.touch c a).queues, Chip.queue]
theorem Chip.awake_touch {c : Chip} (a : Nat) (h : c.awake = true) : (c.touch a).awake = true :=
  Chip.awake_of_rd (Chip.rd_touch c a (.inl (by decide))) h

/-- A raise leaves every register past the event router. -/
theorem Chip.rd_raise_far (c : Chip) {k b : Nat} (hk : k < 256) (hb : 0x40020000 ≤ b) : (c.raise k).rd b = c.rd b := by
  refine Only.raise c hk b ?_
  simp only [Blk.sys, Blk.evr, List.mem_cons, List.not_mem_nil, or_false, forall_eq_or_imp, forall_eq]
  omega

theorem Chip.queue_raise (c : Chip) (k q : Nat) : (c.raise k).queue q = c.queue q := by rw [Chip.queue, (Noted.raise c k).queues, Chip.queue]

/-! ### Where the registers stand -/

section
variable (q : Fin 32)

def qPushDesc : RegDesc := ⟨.Q_PUSH, 0x40020010, [(32, 0x40, 0)], 0xFFFFFFFF, 0, 0, 0, 0, 0⟩
def qPushEopDesc : RegDesc := ⟨.Q_PUSH_EOP, 0x40020014, [(32, 0x40, 0)], 0xFFFFFFFF, 0, 0, 0, 0, 0⟩
def qPopDesc : RegDesc := ⟨.Q_POP, 0x40020018, [(32, 0x40, 0)], 0, 0, 0, 0, 0, 0⟩
def qProdCtrlDesc : RegDesc := ⟨.Q_PROD_CTRL, 0x4002001C, [(32, 0x40, 0)], 0, 0, 0, 3, 0, 0⟩
def qCfgDesc : RegDesc := ⟨.Q_CFG, 0x40020000, [(32, 0x40, 0)], 0xFFFFC3FF, 0, 0, 0, 0, 0⟩

theorem findReg_qPush : findReg (R.Q_PUSH q) = some (qPushDesc, [q.val]) := by fin_cases q <;> rfl
theorem findReg_qPushEop : findReg (R.Q_PUSH_EOP q) = some (qPushEopDesc, [q.val]) := by fin_cases q <;> rfl
theorem findReg_qPop : findReg (R.Q_POP q) = some (qPopDesc, [q.val]) := by fin_cases q <;> rfl
theorem findReg_qProdCtrl : findReg (R.Q_PROD_CTRL q) = some (qProdCtrlDesc, [q.val]) := by fin_cases q <;> rfl
theorem findReg_qCfg : findReg (R.Q_CFG q) = some (qCfgDesc, [q.val]) := by fin_cases q <;> rfl

/-- An offset in the registers of a queue. -/
theorem dieOf_queueReg {o : Nat} (h : o < 0x40) : dieOf (0x40020000 + o + q * 0x40) = 0 := by
  unfold dieOf
  rw [if_neg (by omega), if_neg (by omega), if_neg (by omega), if_neg (by omega)]
theorem isAlias_queueReg {o : Nat} (h : o < 0x40) : isAlias (0x40020000 + o + q * 0x40) = false := by
  have : ¬ 0x60000000 ≤ 0x40020000 + o + q * 0x40 := by omega
  simp [isAlias, this]

variable (c : Chip) (rq : Req) (x : Word)

theorem Chip.regWrite_qPush : c.regWrite rq (R.Q_PUSH q) x = c.pushWrite rq q x false := by
  have h₁ : ¬ 0x400C0000 ≤ R.Q_PUSH q := by simp only [R.Q_PUSH]; omega
  have h₂ : ¬ 0x40088000 ≤ R.Q_PUSH q := by simp only [R.Q_PUSH]; omega
  have hd : dieOf (R.Q_PUSH q) = 0 := dieOf_queueReg q (o := 0x10) (by decide)
  simp [Chip.regWrite, findReg_qPush, qPushDesc, writerOk, hd, h₁, h₂]

theorem Chip.regWrite_qPushEop : c.regWrite rq (R.Q_PUSH_EOP q) x = c.pushWrite rq q x true := by
  have h₁ : ¬ 0x400C0000 ≤ R.Q_PUSH_EOP q := by simp only [R.Q_PUSH_EOP]; omega
  have h₂ : ¬ 0x40088000 ≤ R.Q_PUSH_EOP q := by simp only [R.Q_PUSH_EOP]; omega
  have hd : dieOf (R.Q_PUSH_EOP q) = 0 := dieOf_queueReg q (o := 0x14) (by decide)
  simp [Chip.regWrite, findReg_qPushEop, qPushEopDesc, writerOk, hd, h₁, h₂]

theorem Chip.regWrite_qProdCtrl : c.regWrite rq (R.Q_PROD_CTRL q) x = c.prodCtrl rq q x := by
  have h₁ : ¬ 0x400C0000 ≤ R.Q_PROD_CTRL q := by simp only [R.Q_PROD_CTRL]; omega
  have h₂ : ¬ 0x40088000 ≤ R.Q_PROD_CTRL q := by simp only [R.Q_PROD_CTRL]; omega
  have hd : dieOf (R.Q_PROD_CTRL q) = 0 := dieOf_queueReg q (o := 0x1C) (by decide)
  simp [Chip.regWrite, findReg_qProdCtrl, qProdCtrlDesc, writerOk, hd, h₁, h₂]

theorem Chip.regWrite_qCfg : c.regWrite .sup (R.Q_CFG q) x = c.qCfgWrite .sup q x := by
  simp [Chip.regWrite, findReg_qCfg, qCfgDesc]

theorem Chip.regRead_qPop : c.regRead rq (R.Q_POP q) = c.popRead rq q := by
  have h : ¬ (0x40038000 ≤ R.Q_POP q ∧ R.Q_POP q < 0x40039000) := by simp only [R.Q_POP]; omega
  rw [Chip.regRead, if_neg h, findReg_qPop]
  rfl

end

/-! ### Writes and reads that take effect at once -/

section
variable {s : State} {rq : Req} (q : Fin 32) (x : Word)

theorem State.write_qPush (h : s.chip.atOnce rq (R.Q_PUSH q) 1 = true) :
    s.write rq (R.Q_PUSH q) x = { s with chip := (s.chip.touch (R.Q_PUSH q)).pushWrite rq q x false } := by
  rw [State.write_atOnce x h (dieOf_queueReg q (o := 0x10) (by decide)) (isAlias_queueReg q (o := 0x10) (by decide)), ← Chip.regWrite_qPush]
  rfl
theorem State.write_qPushEop (h : s.chip.atOnce rq (R.Q_PUSH_EOP q) 1 = true) :
    s.write rq (R.Q_PUSH_EOP q) x = { s with chip := (s.chip.touch (R.Q_PUSH_EOP q)).pushWrite rq q x true } := by
  rw [State.write_atOnce x h (dieOf_queueReg q (o := 0x14) (by decide)) (isAlias_queueReg q (o := 0x14) (by decide)), ← Chip.regWrite_qPushEop]
  rfl
theorem State.write_qProdCtrl (h : s.chip.atOnce rq (R.Q_PROD_CTRL q) 1 = true) :
    s.write rq (R.Q_PROD_CTRL q) x = { s with chip := (s.chip.touch (R.Q_PROD_CTRL q)).prodCtrl rq q x } := by
  rw [State.write_atOnce x h (dieOf_queueReg q (o := 0x1C) (by decide)) (isAlias_queueReg q (o := 0x1C) (by decide)), ← Chip.regWrite_qProdCtrl]
  rfl
theorem State.write_qCfg (h : s.chip.atOnce .sup (R.Q_CFG q) 1 = true) :
    s.write .sup (R.Q_CFG q) x = { s with chip := (s.chip.touch (R.Q_CFG q)).qCfgWrite .sup q x } := by
  rw [State.write_atOnce x h (dieOf_queueReg q (o := 0) (by decide)) (isAlias_queueReg q (o := 0) (by decide)), ← Chip.regWrite_qCfg]
  rfl
theorem State.read_qPop (h : s.chip.atOnce rq (R.Q_POP q) 0 = true) :
    s.read rq (R.Q_POP q) = { s with chip := ((s.chip.touch (R.Q_POP q)).popRead rq q).2.answer rq (R.Q_POP q) ((s.chip.touch (R.Q_POP q)).popRead rq q).1 } := by
  rw [State.read_atOnce h (dieOf_queueReg q (o := 0x18) (by decide)) (isAlias_queueReg q (o := 0x18) (by decide)), ← Chip.regRead_qPop]
  rfl

end

/-! ### What an access of a queue leaves -/

section
variable (c : Chip) (a q : Nat)

theorem Chip.qCfg_touch : (c.touch a).rd (R.Q_CFG q) = c.rd (R.Q_CFG q) := Chip.rd_touch c a (.inr (by simp only [R.Q_CFG]; omega))
theorem Chip.isProducer_touch (rq : Req) : (c.touch a).isProducer rq q = c.isProducer rq q := by
  rw [Chip.isProducer, Chip.fget, Chip.qCfg_touch, Chip.isProducer, Chip.fget]
theorem Chip.isConsumer_touch (rq : Req) : (c.touch a).isConsumer rq q = c.isConsumer rq q := by
  rw [Chip.isConsumer, Chip.fget, Chip.qCfg_touch, Chip.isConsumer, Chip.fget]
theorem Chip.qEnabled_touch : (c.touch a).qEnabled q = c.qEnabled q := by
  rw [Chip.qEnabled, Chip.flag, Chip.fget, Chip.qCfg_touch, Chip.qEnabled, Chip.flag, Chip.fget]
theorem Chip.qMayEnable_touch (x : Word) : (c.touch a).qMayEnable q x = c.qMayEnable q x := by
  simp only [Chip.qMayEnable, Chip.qEnabled_touch, Chip.qCfg_touch]
theorem Chip.qSize_touch : (c.touch a).qSize q = c.qSize q := by rw [Chip.qSize, Chip.fget, Chip.qCfg_touch, Chip.qSize, Chip.fget]

end

/-- The queue after a push into its filling bank. -/
def Queue.push (s : Queue) (x : Word) (eop : Bool) : Queue := { s with fill := s.fill ++ [⟨x, eop⟩], mark := if eop then none else s.mark }

/-- A push into a bank with room, no packet being dropped. -/
theorem Chip.qPush_room {c : Chip} {q : Nat} (x : Word) (eop : Bool) (hd : (c.queue q).dropping = false) (hr : (c.queue q).fill.length < c.qSize q) :
    c.qPush q x eop =
      if eop then (c.setQueue q ((c.queue q).push x eop)).qCommitted q else c.setQueue q ((c.queue q).push x eop) := by
  unfold Chip.qPush
  rw [if_neg (by simp [hd]), if_pos hr]
  rfl

/-- A committed packet is counted, and told of. -/
theorem Chip.qCommitted_says (c : Chip) (q : Fin 32) :
    (c.qCommitted q).rd (R.Q_PKT_CNT q) = c.rd (R.Q_PKT_CNT q) + 1 ∧ ∀ r, (c.qCommitted q).queue r = c.queue r := by
  have hne : R.Q_PKT_CNT q ≠ R.SYS_BLK_POWER 1 := by simp only [R.Q_PKT_CNT, R.SYS_BLK_POWER]; omega
  have hb : ((c.ungate 1).bumpWrap (R.Q_PKT_CNT q)).rd (R.Q_PKT_CNT q) = c.rd (R.Q_PKT_CNT q) + 1 := by
    rw [Chip.bumpWrap, Chip.rd_wr_self, Chip.ungate, Chip.rd_fset_ne _ _ _ hne]
  unfold Chip.qCommitted
  cases hk : queueEvent q with
  | none => exact ⟨hb, fun _ => rfl⟩
  | some k =>
    refine ⟨?_, fun r => Chip.queue_raise _ k r⟩
    rw [← hb]
    exact Chip.rd_raise_far _ (Served.queueEvent_lt q.isLt hk) (by simp only [R.Q_PKT_CNT]; omega)

/-- An access that a queue refuses, or a packet that it drops, is counted at a register of the queue and raises an event. -/
theorem Chip.counted_raised {c : Chip} {a k : Nat} (hk : k < 256) (ha : 0x40020000 ≤ a) (hw : c.awake = true) :
    ((c.bump a).raise k).rd a = .ofNat 32 (min 0xFFFFFFFF ((c.rd a).toNat + 1)) ∧
      ((c.bump a).raise k).rd (R.EVR_CNT k) = .ofNat 32 (min 0xFFFFFFFF ((c.rd (R.EVR_CNT k)).toNat + 1)) ∧
      (∀ r, ((c.bump a).raise k).queue r = c.queue r) ∧ ((c.bump a).raise k).resp = c.resp := by
  have hk' : R.EVR_CNT k < 0x40020000 := by simp only [R.EVR_CNT]; omega
  have hb : (c.bump a).awake = true := Chip.awake_of_rd (Chip.rd_bump_ne c 1 (by simp only [R.SYS_MODE]; omega)) hw
  refine ⟨?_, ?_, fun r => Chip.queue_raise _ k r, ((Noted.bump c a 1).trans (Noted.raise _ k)).field (·.resp)⟩
  · rw [Chip.rd_raise_far _ hk ha, Chip.rd_bump_self]
  · rw [Chip.rd_raise_cnt hb hk, Chip.rd_bump_ne _ _ (by omega)]

end Sys2Proof.Machine
end

section
/-! PROOF. What the queues' registers do (R325 to R331, R529). -/

namespace Sys2Proof.Machine
open Sys2Proof

theorem Only.setQueue (l : List (Nat × Nat)) (c : Chip) (q : Nat) (x : Queue) : Only l c (c.setQueue q x) := Only.of_regs rfl
theorem Chip.queue_setQueue_others (c : Chip) (q : Nat) (x : Queue) : ∀ r, r ≠ q → (c.setQueue q x).queue r = c.queue r :=
  fun _ h => Chip.queue_setQueue_ne c x h

/-! ### The stored configuration (R325) -/

/-- A field above the unused bits of Q_CFG. -/
theorem Fld.get_qCfgMask (f : Fld) (x : Word) (hlo : 14 ≤ f.lo) (h : x.toNat / 2 ^ 14 * 2 ^ 14 % 2 ^ 32 + x.toNat % 2 ^ 10 < 2 ^ 32) :
    f.get ⟨⟨x.toNat / 2 ^ 14 * 2 ^ 14 % 2 ^ 32 + x.toNat % 2 ^ 10, h⟩⟩ = f.get x := by
  have hx := x.isLt
  have hdiv : (x.toNat / 2 ^ 14 * 2 ^ 14 % 2 ^ 32 + x.toNat % 2 ^ 10) / 2 ^ 14 = x.toNat / 2 ^ 14 := by omega
  obtain ⟨d, hd⟩ := Nat.exists_eq_add_of_le hlo
  show (x.toNat / 2 ^ 14 * 2 ^ 14 % 2 ^ 32 + x.toNat % 2 ^ 10) / 2 ^ f.lo % 2 ^ f.w = x.toNat / 2 ^ f.lo % 2 ^ f.w
  rw [hd, Nat.pow_add, ← Nat.div_div_eq_div_mul, ← Nat.div_div_eq_div_mul, hdiv]

/-- EN and SIZE of the stored word: the written ones, SIZE at most 256. -/
theorem qCfgMerge_en (q : Nat) (old x : Word) : F.Q_CFG_EN.get (qCfgMerge q old x) = F.Q_CFG_EN.get x := by
  unfold qCfgMerge
  rw [Fld.get_qCfgMask _ _ (by decide)]
  split <;> split <;> simp only [Fld.get_put_ne F.Q_CFG_SIZE F.Q_CFG_EN _ _ (by decide) (by decide),
    Fld.get_put_ne F.Q_CFG_PROD F.Q_CFG_EN _ _ (by decide) (by decide), Fld.get_put_ne F.Q_CFG_CONS F.Q_CFG_EN _ _ (by decide) (by decide)]

theorem qCfgMerge_size (q : Nat) (old x : Word) : F.Q_CFG_SIZE.get (qCfgMerge q old x) = min 256 (F.Q_CFG_SIZE.get x) := by
  have h : F.Q_CFG_SIZE.get (F.Q_CFG_SIZE.put x (min 256 (F.Q_CFG_SIZE.get x))) = min 256 (F.Q_CFG_SIZE.get x) := by
    rw [Fld.get_put _ _ _ (by decide)]
    exact Nat.mod_eq_of_lt (lt_of_le_of_lt (min_le_left _ _) (by decide))
  rw [← h]
  unfold qCfgMerge
  rw [Fld.get_qCfgMask _ _ (by decide), h]
  split <;> split <;> simp only [Fld.get_put_ne F.Q_CFG_PROD F.Q_CFG_SIZE _ _ (by decide) (by decide),
    Fld.get_put_ne F.Q_CFG_CONS F.Q_CFG_SIZE _ _ (by decide) (by decide), h]

/-- An enable that the configuration allows. -/
theorem Chip.qCfgWrite_enables {c : Chip} {q : Nat} {x : Word} (hx : F.Q_CFG_EN.get x = 1) (he : c.qEnabled q = false)
    (hm : c.qMayEnable q (qCfgMerge q (c.rd (R.Q_CFG q)) x) = true) :
    c.qCfgWrite .sup q x = (c.wr (R.Q_CFG q) (qCfgMerge q (c.rd (R.Q_CFG q)) x)).setQueue q {} := by
  unfold Chip.qCfgWrite
  rw [if_neg (by simp)]
  simp only [hx, he, hm, one_ne_zero, Bool.false_eq_true, reduceIte]

/-- A disable empties the queue, and its word has EN = 0. -/
theorem Chip.qCfgWrite_disables {c : Chip} {q : Nat} {x : Word} (hx : F.Q_CFG_EN.get x = 0) :
    ∃ (w : Word) (p : Prop) (_ : Decidable p), F.Q_CFG_EN.get w = 0 ∧
      c.qCfgWrite .sup q x = if p then ((c.wr (R.Q_CFG q) w).setQueue q {}).lockCount (R.Q_CFG q) else (c.wr (R.Q_CFG q) w).setQueue q {} := by
  unfold Chip.qCfgWrite
  rw [if_neg (by simp), if_pos hx]
  refine ⟨_, _, _, ?_, rfl⟩
  split
  · rw [Fld.get_put_ne F.Q_CFG_SIZE F.Q_CFG_EN _ _ (by decide) (by decide), Fld.get_put_ne F.Q_CFG_BASE F.Q_CFG_EN _ _ (by decide) (by decide),
      qCfgMerge_en, hx]
  · rw [qCfgMerge_en, hx]

/-- A count of a refused pointer write leaves the queues and their configuration. -/
theorem Chip.lockCount_que (c : Chip) (q : Fin 32) (r : Nat) :
    (c.lockCount (R.Q_CFG q)).queue r = c.queue r ∧ (c.lockCount (R.Q_CFG q)).rd (R.Q_CFG q) = c.rd (R.Q_CFG q) := by
  have hi : lockViolIndex (R.Q_CFG q) = 2 := by revert q; decide
  unfold Chip.lockCount
  split
  · refine ⟨rfl, Chip.rd_fset_ne _ _ _ ?_⟩
    rw [hi]
    simp only [R.Q_CFG, R.SYS_LOCKVIOL_CNT]
    omega
  · exact ⟨rfl, rfl⟩

/-! ### Marks and swaps (R328, R330) -/

theorem Chip.prodCtrl_mark {c : Chip} {rq : Req} {q : Nat} (hp : c.isProducer rq q = true ∧ c.qEnabled q = true) (ha : (c.queue q).atStart = true) :
    c.prodCtrl rq q (F.Q_PROD_CTRL_MARK.of 1) = c.setQueue q { c.queue q with mark := some (c.queue q).fill.length } := by
  have hm : F.Q_PROD_CTRL_MARK.get (F.Q_PROD_CTRL_MARK.of 1) = 1 := by decide
  have hr : F.Q_PROD_CTRL_REWIND.get (F.Q_PROD_CTRL_MARK.of 1) ≠ 1 := by decide
  unfold Chip.prodCtrl Chip.qMark
  rw [if_pos (by simp [hp.1, hp.2]), if_neg hr, if_pos hm, if_pos ha]

theorem Chip.prodCtrl_rewind {c : Chip} {rq : Req} {q k : Nat} (hp : c.isProducer rq q = true ∧ c.qEnabled q = true) (hk : (c.queue q).mark = some k) :
    c.prodCtrl rq q (F.Q_PROD_CTRL_REWIND.of 1) = c.setQueue q { c.queue q with fill := (c.queue q).fill.take k, dropping := false } := by
  have hm : F.Q_PROD_CTRL_MARK.get (F.Q_PROD_CTRL_REWIND.of 1) ≠ 1 := by decide
  have hr : F.Q_PROD_CTRL_REWIND.get (F.Q_PROD_CTRL_REWIND.of 1) = 1 := by decide
  unfold Chip.prodCtrl Chip.qRewind
  rw [if_pos (by simp [hp.1, hp.2]), if_neg hm, if_pos hr]
  simp only [hk]

theorem Chip.qSwap_full {c : Chip} {q : Nat} (h : (c.queue q).drain = [] ∧ (c.queue q).fill ≠ [] ∧ (c.queue q).inPacket = false) :
    c.qSwap q = c.setQueue q { c.queue q with fill := [], drain := (c.queue q).fill, bank := 1 - (c.queue q).bank, mark := (c.queue q).mark.map fun _ => 0 } :=
  if_pos (by simp [h.1, h.2.1, h.2.2])

/-! ### Pushes and pops -/

theorem Chip.pushWrite_taken {c : Chip} {rq : Req} {q : Nat} (x : Word) (eop : Bool) (hp : c.isProducer rq q = true ∧ c.qEnabled q = true) :
    c.pushWrite rq q x eop = c.qPush q x eop := if_pos (by simp [hp.1, hp.2])

theorem Chip.popRead_some {c : Chip} {rq : Req} {q : Nat} {w : QWord} {l : List QWord} (hp : c.isConsumer rq q = true ∧ c.qEnabled q = true)
    (h : (c.queue q).drain = w :: l) : c.popRead rq q = (w.data, c.setQueue q { c.queue q with drain := l }) := by
  unfold Chip.popRead Chip.qPop
  rw [if_pos hp.1, h]
  exact if_pos hp.2

theorem Chip.popRead_none {c : Chip} {rq : Req} {q : Nat} (hp : c.isConsumer rq q = true ∧ c.qEnabled q = true) (h : (c.queue q).drain = []) :
    c.popRead rq q = (0, (c.bump (R.Q_UNDERRUN_CNT q)).raise 25) := by
  unfold Chip.popRead Chip.qPop
  rw [if_pos hp.1, h]

/-- Registers of the queues, the system block and the event router. -/
theorem Only.queueCount (c : Chip) (q : Fin 32) {o k : Nat} (ho : o < 0x40) (hk : k < 256) :
    Only [Blk.sys, Blk.evr, Blk.que] c ((c.bump (0x40020000 + o + q * 0x40)).raise k) :=
  (Only.bump c _ 1 ⟨Blk.que, by simp, by simp only [Blk.que]; omega⟩).trans ((Only.raise _ hk).mono (by simp))

theorem Chip.atOnce_powered {c : Chip} {rq : Req} {a bit : Nat} (h : c.atOnce rq a bit = true) : c.awake = true := (Chip.atOnce_awake h).1

/-- Settles O35: each access restarts the queues' clock and is then one operation on the queue. -/
theorem queuesAreFirstInFirstOut : Obligations.QueuesAreFirstInFirstOut := by
  unfold Obligations.QueuesAreFirstInFirstOut
  refine ⟨?push, ?eop, ?refused, ?pop, ?underrun, ?swap, ?mark, ?rewind, ?enable, ?disable, ?packet, ?dropped⟩
  case push =>
    intro rq q data s h hp hd hr
    have hp' : (s.chip.touch (R.Q_PUSH q)).isProducer rq q = true ∧ (s.chip.touch (R.Q_PUSH q)).qEnabled q = true := by
      rwa [Chip.isProducer_touch, Chip.qEnabled_touch]
    have hw := Chip.pushWrite_taken data false hp'
    rw [Chip.qPush_room _ _ (by rw [Chip.queue_touch, hd]) (by rwa [Chip.queue_touch, Chip.qSize_touch]), if_neg (by decide)] at hw
    refine ⟨_, congrArg Host.Outcome.next (State.write_qPush q data h), ?_⟩
    rw [hw, Chip.queue_setQueue_self, Chip.queue_touch]
    refine ⟨rfl, rfl, fun r hr => ?_, (Only.touch _ _).trans (Only.setQueue _ _ _ _)⟩
    rw [Chip.queue_setQueue_ne _ _ hr, Chip.queue_touch]
  case eop =>
    intro rq q data s h hp hd hr
    have hp' : (s.chip.touch (R.Q_PUSH_EOP q)).isProducer rq q = true ∧ (s.chip.touch (R.Q_PUSH_EOP q)).qEnabled q = true := by
      rwa [Chip.isProducer_touch, Chip.qEnabled_touch]
    have hw := Chip.pushWrite_taken data true hp'
    rw [Chip.qPush_room _ _ (by rw [Chip.queue_touch, hd]) (by rwa [Chip.queue_touch, Chip.qSize_touch]), if_pos rfl] at hw
    refine ⟨_, congrArg Host.Outcome.next (State.write_qPushEop q data h), ?_⟩
    rw [hw]
    obtain ⟨hcnt, hq⟩ := Chip.qCommitted_says ((s.chip.touch (R.Q_PUSH_EOP q)).setQueue q (((s.chip.touch (R.Q_PUSH_EOP q)).queue q).push data true)) q
    refine ⟨?_, ?_, ?_, fun r hr => ?_, ?_⟩
    · rw [hq, Chip.queue_setQueue_self, Chip.queue_touch]
      rfl
    · rw [hq, Chip.queue_setQueue_self]
      rfl
    · exact hcnt.trans (congrArg (· + 1) (Chip.rd_touch s.chip _ (.inr (by simp only [R.Q_PKT_CNT]; omega))))
    · rw [hq, Chip.queue_setQueue_ne _ _ hr, Chip.queue_touch]
    · exact (((Only.touch _ _).mono (by simp)).trans (Only.setQueue _ _ _ _)).trans (Served.qCommitted _ q.isLt).blocks
  case refused =>
    intro rq q data s h hp
    have hw : (s.chip.touch (R.Q_PUSH q)).pushWrite rq q data false = ((s.chip.touch (R.Q_PUSH q)).bump (R.Q_REFUSED_CNT q)).raise 25 :=
      if_neg (by simp [Chip.isProducer_touch, hp])
    obtain ⟨hcnt, hev, hq, -⟩ := Chip.counted_raised (c := s.chip.touch (R.Q_PUSH q)) (a := R.Q_REFUSED_CNT q) (k := 25) (by decide)
      (by simp only [R.Q_REFUSED_CNT]; omega) (Chip.awake_touch _ (Chip.atOnce_powered h))
    rw [Chip.rd_touch _ _ (.inr (by simp only [R.Q_REFUSED_CNT]; omega))] at hcnt
    rw [Chip.rd_touch _ _ (.inr (by decide))] at hev
    refine ⟨_, congrArg Host.Outcome.next (State.write_qPush q data h), ?_⟩
    rw [hw]
    exact ⟨hcnt, fun r => (hq r).trans (Chip.queue_touch _ _ r), hev,
      ((Only.touch _ _).mono (by simp)).trans (Only.queueCount _ q (o := 0x28) (by decide) (by decide))⟩
  case pop =>
    intro rq q w l s h hp hd
    have hw : (s.chip.touch (R.Q_POP q)).popRead rq q = _ := Chip.popRead_some (w := w) (l := l)
      (by rwa [Chip.isConsumer_touch, Chip.qEnabled_touch]) (by rwa [Chip.queue_touch])
    refine ⟨_, congrArg Host.Outcome.next (State.read_qPop q h), ?_⟩
    rw [hw]
    refine ⟨Chip.respOf_answer_self _ _ _ _ _, ?_, ?_, fun r hr => ?_, (Only.touch _ _).trans (Only.of_regs rfl)⟩
    · exact congrArg Queue.drain (Chip.queue_setQueue_self _ _ _)
    · exact (congrArg Queue.fill (Chip.queue_setQueue_self _ _ _)).trans (congrArg Queue.fill (Chip.queue_touch s.chip (R.Q_POP q) q) :)
    · exact (Chip.queue_setQueue_ne _ _ hr).trans (Chip.queue_touch _ _ _)
  case underrun =>
    intro rq q s h hp hd
    have hw : (s.chip.touch (R.Q_POP q)).popRead rq q = _ := Chip.popRead_none
      (by rwa [Chip.isConsumer_touch, Chip.qEnabled_touch]) (by rwa [Chip.queue_touch])
    obtain ⟨hcnt, -, hq, -⟩ := Chip.counted_raised (c := s.chip.touch (R.Q_POP q)) (a := R.Q_UNDERRUN_CNT q) (k := 25) (by decide)
      (by simp only [R.Q_UNDERRUN_CNT]; omega) (Chip.awake_touch _ (Chip.atOnce_powered h))
    rw [Chip.rd_touch _ _ (.inr (by simp only [R.Q_UNDERRUN_CNT]; omega))] at hcnt
    refine ⟨_, congrArg Host.Outcome.next (State.read_qPop q h), ?_⟩
    rw [hw]
    exact ⟨Chip.respOf_answer_self _ _ _ _ _, hcnt, fun r => (hq r).trans (Chip.queue_touch _ _ r),
      (((Only.touch _ _).mono (by simp)).trans (Only.queueCount _ q (o := 0x2C) (by decide) (by decide))).trans (Only.of_regs rfl)⟩
  case swap =>
    intro q s hw hq he hs
    refine ⟨_, congrArg Host.Outcome.next ((if_neg hq).trans (congrArg (fun c => { s with chip := c }) ((if_pos ⟨hw, he⟩).trans (Chip.qSwap_full hs)))), ?_⟩
    rw [Chip.queue_setQueue_self]
    exact ⟨rfl, rfl, rfl, Chip.queue_setQueue_others _ _ _, Only.setQueue _ _ _ _⟩
  case mark =>
    intro rq q s h hp hs
    have hw := Chip.prodCtrl_mark (c := s.chip.touch (R.Q_PROD_CTRL q)) (rq := rq) (q := q)
      (by rwa [Chip.isProducer_touch, Chip.qEnabled_touch]) (by rwa [Chip.queue_touch])
    refine ⟨_, congrArg Host.Outcome.next (State.write_qProdCtrl q _ h), ?_⟩
    rw [hw, Chip.queue_setQueue_self, Chip.queue_touch]
    exact ⟨rfl, fun r hr => (Chip.queue_setQueue_ne _ _ hr).trans (Chip.queue_touch _ _ _), (Only.touch _ _).trans (Only.setQueue _ _ _ _)⟩
  case rewind =>
    intro rq q k s h hp hk
    have hw := Chip.prodCtrl_rewind (c := s.chip.touch (R.Q_PROD_CTRL q)) (rq := rq) (q := q) (k := k)
      (by rwa [Chip.isProducer_touch, Chip.qEnabled_touch]) (by rwa [Chip.queue_touch])
    refine ⟨_, congrArg Host.Outcome.next (State.write_qProdCtrl q _ h), ?_⟩
    rw [hw, Chip.queue_setQueue_self, Chip.queue_touch]
    exact ⟨rfl, fun r hr => (Chip.queue_setQueue_ne _ _ hr).trans (Chip.queue_touch _ _ _), (Only.touch _ _).trans (Only.setQueue _ _ _ _)⟩
  case enable =>
    intro q data s h he hm
    have hx : F.Q_CFG_EN.get (F.Q_CFG_EN.put data 1) = 1 := Fld.get_put _ _ _ (by decide)
    have hm' : (s.chip.touch (R.Q_CFG q)).qMayEnable q (qCfgMerge q ((s.chip.touch (R.Q_CFG q)).rd (R.Q_CFG q)) (F.Q_CFG_EN.put data 1)) = true := by
      rwa [Chip.qMayEnable_touch, Chip.qCfg_touch]
    have hw := Chip.qCfgWrite_enables (c := s.chip.touch (R.Q_CFG q)) hx (by rw [Chip.qEnabled_touch, he]) hm'
    refine ⟨_, congrArg Host.Outcome.next (State.write_qCfg q _ h), ?_⟩
    have hcfg : ∀ w, (((s.chip.touch (R.Q_CFG q)).wr (R.Q_CFG q) w).setQueue q {}).rd (R.Q_CFG q) = w := fun w => Chip.rd_wr_self _ _ _
    rw [hw, Chip.queue_setQueue_self]
    refine ⟨?_, rfl, ?_, fun r hr => ?_, ?_⟩
    · rw [Chip.qEnabled, Chip.flag, Chip.fget, hcfg, qCfgMerge_en, hx]
      rfl
    · rw [Chip.fget, hcfg, qCfgMerge_size, Fld.get_put_ne F.Q_CFG_EN F.Q_CFG_SIZE _ _ (by decide) (by decide)]
    · exact (Chip.queue_setQueue_ne _ _ hr).trans (Chip.queue_touch _ _ _)
    · refine ((Only.touch _ _).mono (by simp)).trans ((Only.wr _ _ _ ?_).trans (Only.setQueue _ _ _ _))
      exact ⟨(R.Q_CFG q, R.Q_CFG q + 4), by simp, le_rfl, by omega⟩
  case disable =>
    intro q data s h
    have hx : F.Q_CFG_EN.get (F.Q_CFG_EN.put data 0) = 0 := Fld.get_put _ _ _ (by decide)
    obtain ⟨w, p, hdec, hen, hw⟩ := Chip.qCfgWrite_disables (c := s.chip.touch (R.Q_CFG q)) (q := q) hx
    refine ⟨_, congrArg Host.Outcome.next (State.write_qCfg q _ h), ?_⟩
    have hrd : ((s.chip.touch (R.Q_CFG q)).qCfgWrite .sup q (F.Q_CFG_EN.put data 0)).rd (R.Q_CFG q) = w := by
      rw [hw]
      split
      · exact (Chip.lockCount_que _ q 0).2.trans (Chip.rd_wr_self _ _ _)
      · exact Chip.rd_wr_self _ _ _
    have hq : ∀ r, ((s.chip.touch (R.Q_CFG q)).qCfgWrite .sup q (F.Q_CFG_EN.put data 0)).queue r =
        (((s.chip.touch (R.Q_CFG q)).wr (R.Q_CFG q) w).setQueue q {}).queue r := by
      intro r
      rw [hw]
      split
      · exact (Chip.lockCount_que _ q r).1
      · rfl
    refine ⟨?_, (hq q).trans (Chip.queue_setQueue_self _ _ _), fun r hr => ?_⟩
    · rw [Chip.qEnabled, Chip.flag, Chip.fget, hrd, hen]
      rfl
    · exact ((hq r).trans (Chip.queue_setQueue_ne _ _ hr)).trans (Chip.queue_touch _ _ _)
  case packet =>
    intro q x ws s hw hprod hfree
    obtain ⟨hcnt, hq⟩ := Chip.qCommitted_says (s.chip.setQueue q { s.chip.queue q with fill := (s.chip.queue q).fill ++ packetWords (x :: ws) }) q
    refine ⟨_, State.next_chip ((if_pos ⟨hw, hprod⟩).trans (Chip.hwPush_fits _ _ _ (by simp) hfree)), ?_, hcnt, fun r hr => ?_, ?_⟩
    · rw [hq, Chip.queue_setQueue_self]
    · rw [hq, Chip.queue_setQueue_ne _ _ hr]
    · exact (Only.setQueue _ s.chip _ _).trans (Served.qCommitted _ q.isLt).blocks
  case dropped =>
    intro q x ws s hw hprod hfree
    obtain ⟨hcnt, hev, hq, -⟩ := Chip.counted_raised (c := s.chip) (a := R.Q_DROP_CNT q) (k := 24) (by decide)
      (by simp only [R.Q_DROP_CNT]; omega) hw
    exact ⟨_, State.next_chip ((if_pos ⟨hw, hprod⟩).trans (Chip.hwPush_drops _ _ _ (by simp) hfree)), hq, hcnt, hev⟩

end Sys2Proof.Machine
end

section
/-! SUPPORT. How a frame of the host port ends, and what its refusal leaves (R309, R310). -/

namespace Sys2Proof.Machine
open Sys2Proof

theorem State.onChip_onChip (s : State) (f g : Chip → Chip) : (s.onChip f).onChip g = s.onChip fun c => g (f c) := rfl

/-- The module once an open frame with a full header has ended. -/
def Chip.framed (c : Chip) : Chip := c.csRise.bumpWrap R.HSP_FRAME_CNT

section
variable (c : Chip)

@[simp] theorem Chip.inFrame_framed : c.framed.hsp.inFrame = false := rfl
theorem Chip.hsp_framed : c.framed.hsp = { c.hsp with inFrame := false } := rfl
theorem Chip.rd_framed_cnt : c.framed.rd R.HSP_FRAME_CNT = c.rd R.HSP_FRAME_CNT + 1 := Chip.rd_wr_self _ _ _
theorem Chip.rd_framed {a : Nat} (h : a ≠ R.HSP_FRAME_CNT) : c.framed.rd a = c.rd a := Chip.rd_wr_ne _ _ h
theorem Chip.awake_framed (h : c.awake = true) : c.framed.awake = true := Chip.awake_of_rd (Chip.rd_framed c (by decide)) h
theorem Only.framed : Only [Blk.hsp] c c.framed := (Only.of_regs (c' := c.csRise) rfl).trans (Only.wr _ _ _ ⟨Blk.hsp, by simp, by decide⟩)
theorem Chip.hostAddr_framed (a : Nat) : c.framed.hostAddr a = c.hostAddr a := by
  rw [Chip.hostAddr, Chip.fget, Chip.rd_framed c (by decide), Chip.hostAddr, Chip.fget]
theorem Chip.bankOpen_framed (a : Nat) : c.framed.bankOpen a = c.bankOpen a := by rw [Chip.bankOpen, Chip.rd_framed c (by decide), Chip.bankOpen]
theorem Chip.bankLost_framed (a : Nat) : c.framed.bankLost a = c.bankLost a := by rw [Chip.bankLost, Chip.rd_framed c (by decide), Chip.bankLost]
theorem Chip.qFree_framed (q : Nat) : c.framed.qFree q = c.qFree q := by
  have hcfg : c.framed.rd (R.Q_CFG q) = c.rd (R.Q_CFG q) := Chip.rd_framed c (by simp only [R.Q_CFG, R.HSP_FRAME_CNT]; omega)
  unfold Chip.qFree Chip.qEnabled Chip.qSize Chip.flag Chip.fget
  rw [hcfg]
  rfl
theorem Chip.sram_framed {a : Nat} (h : c.bankOpen (c.hostAddr a) = true ∧ c.bankLost (c.hostAddr a) = false) :
    c.framed.bankOpen (c.framed.hostAddr a) = true ∧ c.framed.bankLost (c.framed.hostAddr a) = false := by
  rwa [Chip.hostAddr_framed, Chip.bankOpen_framed, Chip.bankLost_framed]
theorem Chip.stalled_framed (rq : Req) : c.framed.stalled rq = c.stalled rq := rfl

end

section
variable {s : State} (op addr : Nat) (f : State → State)

theorem State.frame_open (why : Option FrameErr) (h : s.chip.hsp.inFrame = true) : s.frame op addr why f =
    match why with
    | some e =>
      (if e = .part ∧ (s.onChip Chip.framed).chip.hsp.ready then f (s.onChip Chip.framed) else s.onChip Chip.framed).onChip fun c => c.refuseFrame e op addr
    | none => f (s.onChip Chip.framed) := by
  unfold State.frame
  rw [if_neg (by simp [h])]
  rfl

theorem State.frame_passes (h : s.chip.hsp.inFrame = true) : s.frame op addr none f = f (s.onChip Chip.framed) := State.frame_open op addr f none h

theorem State.frame_refused {e : FrameErr} (h : s.chip.hsp.inFrame = true) (he : e ≠ .part) :
    s.frame op addr (some e) f = s.onChip fun c => c.framed.refuseFrame e op addr := by
  rw [State.frame_open op addr f _ h]
  show State.onChip (if e = .part ∧ (s.onChip Chip.framed).chip.hsp.ready = true then _ else _) _ = _
  rw [if_neg fun hp => he hp.1, State.onChip_onChip]

end

/-- A refused frame is recorded and counted, and EV018 raised. -/
theorem Chip.refuseFrame_says {c : Chip} (e : FrameErr) {op : Nat} (addr : Nat) (hw : c.awake = true) (ho : op < 256) :
    (c.refuseFrame e op addr).fget R.HSP_ERR_INFO F.HSP_ERR_INFO_CODE = e.code ∧
      (c.refuseFrame e op addr).fget R.HSP_ERR_INFO F.HSP_ERR_INFO_OPCODE = op ∧
      (c.refuseFrame e op addr).hsp = { c.hsp with frameErr := true } ∧
      (c.refuseFrame e op addr).rd R.HSP_FRAME_CNT = c.rd R.HSP_FRAME_CNT ∧
      (c.refuseFrame e op addr).rd R.HSP_FRAME_ERR_CNT = .ofNat 32 (min 0xFFFFFFFF ((c.rd R.HSP_FRAME_ERR_CNT).toNat + 1)) ∧
      (c.refuseFrame e op addr).rd (R.EVR_CNT 18) = .ofNat 32 (min 0xFFFFFFFF ((c.rd (R.EVR_CNT 18)).toNat + 1)) := by
  have he : e.code < 2 ^ F.HSP_ERR_INFO_CODE.w := by cases e <;> decide
  obtain ⟨w, hw₁⟩ : ∃ w, w = F.HSP_ERR_INFO_CODE.put (F.HSP_ERR_INFO_OPCODE.of op) e.code := ⟨_, rfl⟩
  obtain ⟨d, hd⟩ : ∃ d : Chip, d = (((c.setHsp { c.hsp with frameErr := true }).bump R.HSP_FRAME_ERR_CNT).wr R.HSP_ERR_INFO w).wr R.HSP_ERR_ADDR (.ofNat 32 addr) :=
    ⟨_, rfl⟩
  have hr : c.refuseFrame e op addr = d.raise 18 := by
    rw [hd, hw₁]
    rfl
  have hs : Served d (c.refuseFrame e op addr) := hr ▸ Served.raise d (by decide)
  have hinfo : d.rd R.HSP_ERR_INFO = w := by rw [hd, Chip.rd_wr_ne _ _ (by decide), Chip.rd_wr_self]
  have hrest : ∀ a, a ≠ R.HSP_FRAME_ERR_CNT → a ≠ R.HSP_ERR_INFO → a ≠ R.HSP_ERR_ADDR → d.rd a = c.rd a := by
    intro a h₁ h₂ h₃
    rw [hd, Chip.rd_wr_ne _ _ h₃, Chip.rd_wr_ne _ _ h₂, Chip.rd_bump_ne _ _ h₁]
    rfl
  refine ⟨?_, ?_, ?_, ?_, ?_, ?_⟩
  · rw [hs.fget_die _ (by decide), Chip.fget, hinfo, hw₁, Fld.get_put _ _ _ (by decide), Nat.mod_eq_of_lt he]
  · rw [hs.fget_die _ (by decide), Chip.fget, hinfo, hw₁, Fld.get_put_ne F.HSP_ERR_INFO_CODE F.HSP_ERR_INFO_OPCODE _ _ (by decide) (by decide), Fld.of,
      Fld.get_put _ _ _ (by decide)]
    exact Nat.mod_eq_of_lt ho
  · rw [hs.hsp, hd]
    rfl
  · rw [hs.rd_die (by decide), hrest _ (by decide) (by decide) (by decide)]
  · rw [hs.rd_die (by decide), hd, Chip.rd_wr_ne _ _ (by decide), Chip.rd_wr_ne _ _ (by decide), Chip.rd_bump_self]
    rfl
  · have hm : d.awake = true := Chip.awake_of_rd (hrest _ (by decide) (by decide) (by decide)) hw
    rw [hr, Chip.rd_raise_cnt hm (by decide), hrest _ (by decide) (by decide) (by decide)]

end Sys2Proof.Machine
end
section
/-! PROOF. Frames of the host port that open, write and are refused (R305 to R313). -/

namespace Sys2Proof.Machine
open Sys2Proof

/-! ### Words to SRAM (R311, R312) -/

/-- A word to SRAM of an open bank that is not LOST. -/
theorem State.hostWrite_sram {s : State} {h : Nat} (x : Word) (hh : h < 0x800000) (hw : s.chip.awake = true)
    (hb : s.chip.bankOpen (s.chip.hostAddr h) = true ∧ s.chip.bankLost (s.chip.hostAddr h) = false) :
    s.hostWrite h x = s.put .host (s.chip.hostAddr h) (wordBytes x) := by
  unfold State.hostWrite State.store
  simp [hh, hb.1, hb.2, hw]

section
variable {s : State} {addr : BitVec 24}

/-- The causes of a refusal, of an aligned host address of SRAM and a whole frame to a ready port. -/
theorem firstErr_sram (hh : 0x400000 ≤ addr.toNat ∧ addr.toNat < 0x800000 ∧ addr.toNat % 4 = 0) (ready : Bool) :
    firstErr [(addr.toNat % 4 != 0, .align), (!(hostRange addr.toNat && hostRange addr.toNat), .range), (false, .part), (!ready, .notReady)] =
      if ready then none else some .notReady := by
  obtain ⟨h₁, h₂, h₃⟩ := hh
  have h₄ : addr.toNat < 0x1000000 := by omega
  cases ready <;> simp [firstErr, hostRange, h₁, h₃, h₄]

theorem State.writeFrame_sram (hf : s.chip.hsp.inFrame = true ∧ s.chip.hsp.ready = true)
    (hh : 0x400000 ≤ addr.toNat ∧ addr.toNat < 0x800000 ∧ addr.toNat % 4 = 0) (op : Nat) (f : State → State) :
    s.writeFrame op addr.toNat addr.toNat false f = f (s.onChip Chip.framed) := by
  rw [State.writeFrame, firstErr_sram hh, if_pos hf.2, State.frame_passes _ _ _ hf.1]

/-- A frame of one word ends where it begins. -/
theorem execHspWrite_word (x : Word) :
    execHspWrite addr [x] false s = .next (s.writeFrame 0x02 addr.toNat addr.toNat false fun s => s.hostWrite addr.toNat x) := rfl
theorem execHspWriteFixed_words (x y : Word) : execHspWriteFixed addr [x, y] false s =
    .next (s.writeFrame 0x03 addr.toNat addr.toNat false fun s => (s.hostWrite addr.toNat x).hostWrite addr.toNat y) := rfl

/-- What a word of a frame to SRAM leaves. -/
theorem State.hostWrite_says {s₀ : State} (x : Word) (hh : addr.toNat < 0x800000) (hw : s₀.chip.awake = true)
    (hb : s₀.chip.bankOpen (s₀.chip.hostAddr addr.toNat) = true ∧ s₀.chip.bankLost (s₀.chip.hostAddr addr.toNat) = false) :
    CoresOnly s₀.chip (s₀.hostWrite addr.toNat x).chip ∧ Memory.word (s₀.hostWrite addr.toNat x).sram (s₀.chip.hostAddr addr.toNat) = x ∧
      ∀ a, a < s₀.chip.hostAddr addr.toNat ∨ s₀.chip.hostAddr addr.toNat + 4 ≤ a →
        Memory.read (s₀.hostWrite addr.toNat x).sram a = Memory.read s₀.sram a := by
  rw [State.hostWrite_sram x hh hw hb]
  exact ⟨CoresOnly.storeSeen s₀.chip .host (s₀.chip.hostAddr addr.toNat) 4, Memory.word_writes _ _ _, fun a ha => Memory.read_writes_word _ _ ha⟩

end

/-- An access to SRAM asks the registers alone. -/
theorem CoresOnly.hostAddr {c c' : Chip} (h : CoresOnly c c') (a : Nat) : c'.hostAddr a = c.hostAddr a := h.field (·.hostAddr a)
theorem CoresOnly.sram {c c' : Chip} (h : CoresOnly c c') {a : Nat} (ha : c.bankOpen (c.hostAddr a) = true ∧ c.bankLost (c.hostAddr a) = false) :
    c'.bankOpen (c'.hostAddr a) = true ∧ c'.bankLost (c'.hostAddr a) = false := by
  rwa [h.hostAddr, h.field (·.bankOpen _), h.field (·.bankLost _)]
theorem CoresOnly.awake {c c' : Chip} (h : CoresOnly c c') : c'.awake = c.awake := h.field (·.awake)
theorem CoresOnly.rd {c c' : Chip} (h : CoresOnly c c') (a : Nat) : c'.rd a = c.rd a := h.field (·.rd a)

/-! ### Packets (R310, R313) -/

section
variable (q : Fin 32)

theorem qPush_host : (BitVec.ofNat 24 (0x800000 + (R.Q_PUSH q - 0x40000000))).toNat = 0x800000 + (R.Q_PUSH q - 0x40000000) := by
  revert q
  decide

theorem hostQueue_qPush : hostQueue (0x800000 + (R.Q_PUSH q - 0x40000000)) = some q.val := by
  have ha : 0x40000000 + (0x800000 + (R.Q_PUSH q - 0x40000000) - 0x800000) = R.Q_PUSH q := by
    simp only [R.Q_PUSH]
    omega
  rw [hostQueue, if_pos (Nat.le_add_right _ _), ha, findReg_qPush]
  rfl

theorem Chip.ungate_asks (c : Chip) (rq : Req) :
    (c.ungate 1).isProducer rq q = c.isProducer rq q ∧ (c.ungate 1).qEnabled q = c.qEnabled q ∧ (c.ungate 1).qSize q = c.qSize q := by
  have h : (c.ungate 1).rd (R.Q_CFG q) = c.rd (R.Q_CFG q) := Chip.rd_fset_ne c _ _ (by simp only [R.Q_CFG, R.SYS_BLK_POWER]; omega)
  simp only [Chip.isProducer, Chip.qEnabled, Chip.qSize, Chip.flag, Chip.fget, h, and_self]

end

/-- The words of a packet one by one, into a bank with room: the packet is appended, and committed once. -/
theorem Chip.pushed_packet (q : Fin 32) (ws : List Word) : ∀ (x : Word) (c : Chip), (c.queue q).dropping = false →
    (c.queue q).fill.length + ws.length + 1 ≤ c.qSize q →
    (((packetWords (x :: ws)).foldl (fun c w => c.qPush q w.data w.eop) c).queue q).fill = (c.queue q).fill ++ packetWords (x :: ws) ∧
      ((packetWords (x :: ws)).foldl (fun c w => c.qPush q w.data w.eop) c).rd (R.Q_PKT_CNT q) = c.rd (R.Q_PKT_CNT q) + 1 := by
  induction ws with
  | nil =>
    intro x c hd hr
    have hp := Chip.qPush_room (c := c) (q := q) x true hd (by simp at hr; omega)
    rw [if_pos rfl] at hp
    obtain ⟨hcnt, hq⟩ := Chip.qCommitted_says (c.setQueue q ((c.queue q).push x true)) q
    refine ⟨?_, ?_⟩
    · show ((c.qPush q x true).queue q).fill = _
      rw [hp, hq, Chip.queue_setQueue_self]
      rfl
    · show (c.qPush q x true).rd _ = _
      rw [hp, hcnt]
      rfl
  | cons y ws ih =>
    intro x c hd hr
    have hp := Chip.qPush_room (c := c) (q := q) x false hd (by simp at hr; omega)
    rw [if_neg (by decide)] at hp
    have hfill : ((c.setQueue q ((c.queue q).push x false)).queue q).fill = (c.queue q).fill ++ [⟨x, false⟩] := by
      rw [Chip.queue_setQueue_self]
      rfl
    obtain ⟨hq, hcnt⟩ := ih y (c.setQueue q ((c.queue q).push x false)) (by rw [Chip.queue_setQueue_self]; exact hd) (by
      have hsize : (c.setQueue q ((c.queue q).push x false)).qSize q = c.qSize q := rfl
      rw [hfill, hsize]
      simp only [List.length_append, List.length_cons, List.length_nil] at hr ⊢
      omega)
    rw [show packetWords (x :: y :: ws) = ⟨x, false⟩ :: packetWords (y :: ws) from rfl, List.foldl_cons, hp]
    exact ⟨by rw [hq, hfill, List.append_assoc]; rfl, hcnt⟩

theorem Chip.hostPacket_pushes {c : Chip} {q : Fin 32} {ws : List Word} (hn : ws ≠ []) (hw : c.awake = true) (hs : c.stalled .host = false)
    (hp : c.isProducer .host q = true ∧ c.qEnabled q = true) :
    c.hostPacket q ws = (packetWords ws).foldl (fun c w => c.qPush q w.data w.eop) (c.ungate 1) := by
  obtain ⟨hprod, hen, -⟩ := Chip.ungate_asks q c .host
  rw [Chip.hostPacket, if_neg hn, if_neg (by simp [hp.1]), Chip.access_free _ hs]
  show c.packetNow .host q ws = _
  rw [Chip.packetNow, if_neg (by simp [Chip.blockOff_awake _ hw]), Chip.packetWrite, if_pos (by simp [hprod, hen, hp.1, hp.2])]

/-- A packet of the producer to an enabled queue with room. -/
theorem Chip.hostPacket_says {c : Chip} {q : Fin 32} {x : Word} {ws : List Word} (hw : c.awake = true) (hs : c.stalled .host = false)
    (hp : c.isProducer .host q = true ∧ c.qEnabled q = true) (hd : (c.queue q).dropping = false) (hr : ws.length + 1 ≤ c.qFree q) :
    ((c.hostPacket q (x :: ws)).queue q).fill = (c.queue q).fill ++ packetWords (x :: ws) ∧
      (c.hostPacket q (x :: ws)).rd (R.Q_PKT_CNT q) = c.rd (R.Q_PKT_CNT q) + 1 ∧ Served c (c.hostPacket q (x :: ws)) := by
  obtain ⟨-, -, hsize⟩ := Chip.ungate_asks q c .host
  have hq : (c.ungate 1).queue q = c.queue q := by rw [Chip.queue, (Noted.ungate c 1).queues, Chip.queue]
  have hroom : (c.queue q).fill.length + ws.length + 1 ≤ c.qSize q := by
    rw [Chip.qFree, if_pos hp.2] at hr
    omega
  obtain ⟨hfill, hcnt⟩ := Chip.pushed_packet q ws x (c.ungate 1) (by rwa [hq]) (by rwa [hsize, hq])
  rw [hq] at hfill
  rw [Chip.hostPacket_pushes (by simp) hw hs hp]
  refine ⟨hfill, ?_, (Served.ungate_que c).trans (Served.foldl (f := fun c (w : QWord) => c.qPush q w.data w.eop) (fun c w => Served.qPush c q.isLt w.data w.eop) _ _)⟩
  rw [hcnt, Chip.ungate, Chip.rd_fset_ne _ _ _ (by simp only [R.Q_PKT_CNT, R.SYS_BLK_POWER]; omega)]

theorem firstErr_qPush (q : Fin 32) :
    firstErr [((0x800000 + (R.Q_PUSH q - 0x40000000)) % 4 != 0, .align), (!(hostRange (0x800000 + (R.Q_PUSH q - 0x40000000)) &&
      hostRange (0x800000 + (R.Q_PUSH q - 0x40000000))), .range), (false, .part), (!true, .notReady)] = none := by
  revert q
  decide

theorem execHspWritePkt_push {s : State} (q : Fin 32) (ws : List Word) (hf : s.chip.hsp.inFrame = true ∧ s.chip.hsp.ready = true) :
    execHspWritePkt (.ofNat 24 (0x800000 + (R.Q_PUSH q - 0x40000000))) ws false s = .next { s with chip := s.chip.framed.hostPacket q ws } := by
  unfold execHspWritePkt
  rw [qPush_host, hostQueue_qPush]
  simp only [State.writeFrame, hf.2, firstErr_qPush, State.frame_passes _ _ _ hf.1]
  rfl

/-- Settles O33: an open frame ends with its words stored, its packet pushed, or the first cause of its refusal. -/
theorem hostFramesWriteAndAreRefused : Obligations.HostFramesWriteAndAreRefused := by
  unfold Obligations.HostFramesWriteAndAreRefused
  refine ⟨?fall, ?nop, ?write, ?fixed, ?packet, ?align, ?notReady, ?short, ?badOpcode⟩
  case fall =>
    intro mode3 s hm hf
    exact ⟨_, State.next_chip (if_neg (by simp [hm, hf])), rfl, rfl, rfl, rfl, Only.of_regs rfl⟩
  case nop =>
    intro addr s hf
    exact ⟨_, congrArg Host.Outcome.next (State.frame_passes _ _ id hf), rfl, Chip.rd_framed_cnt _, fun a ha => Chip.rd_framed _ ha⟩
  case write =>
    intro addr x s hf hh ⟨hw, hb⟩
    refine ⟨_, (execHspWrite_word x).trans (congrArg Host.Outcome.next (State.writeFrame_sram hf hh _ _)), ?_⟩
    obtain ⟨hc, hword, hrest⟩ := State.hostWrite_says (s₀ := s.onChip Chip.framed) (addr := addr) x hh.2.1 (Chip.awake_framed _ hw)
      (Chip.sram_framed s.chip hb)
    rw [← Chip.hostAddr_framed]
    exact ⟨hword, hrest, congrArg HspX.inFrame hc.hsp, fun a ha => (hc.rd a).trans (Chip.rd_framed _ ha)⟩
  case fixed =>
    intro addr x y s hf hh ⟨hw, hb⟩
    refine ⟨_, (execHspWriteFixed_words x y).trans (congrArg Host.Outcome.next (State.writeFrame_sram hf hh _ _)), ?_⟩
    obtain ⟨hc, -, hrest⟩ := State.hostWrite_says (s₀ := s.onChip Chip.framed) (addr := addr) x hh.2.1 (Chip.awake_framed _ hw)
      (Chip.sram_framed s.chip hb)
    obtain ⟨hc', hword', hrest'⟩ := State.hostWrite_says (s₀ := (s.onChip Chip.framed).hostWrite addr.toNat x) (addr := addr) y hh.2.1
      (hc.awake.trans (Chip.awake_framed _ hw)) (hc.sram (Chip.sram_framed s.chip hb))
    rw [hc.hostAddr] at hword' hrest'
    rw [← Chip.hostAddr_framed]
    exact ⟨hword', fun a ha => (hrest' a ha).trans (hrest a ha), fun a ha => (hc'.rd a).trans ((hc.rd a).trans (Chip.rd_framed _ ha))⟩
  case packet =>
    intro q x ws s hf hw hs hp hq hr
    have hcfg : s.chip.framed.rd (R.Q_CFG q) = s.chip.rd (R.Q_CFG q) := Chip.rd_framed _ (by simp only [R.Q_CFG, R.HSP_FRAME_CNT]; omega)
    obtain ⟨hfill, hcnt, hv⟩ := Chip.hostPacket_says (c := s.chip.framed) (q := q) (x := x) (ws := ws) (Chip.awake_framed _ hw) hs
      (by simpa only [Chip.isProducer, Chip.qEnabled, Chip.flag, Chip.fget, hcfg] using hp) hq.2
      (by rwa [Chip.qFree_framed])
    refine ⟨s.chip.framed.hostPacket q (x :: ws), ?_, hfill, ?_, congrArg HspX.inFrame hv.hsp, ((Only.framed _).mono (by simp)).trans (hv.blocks.mono (by simp))⟩
    · rw [← execHspWritePkt_push q (x :: ws) hf]
      rfl
    · rw [hcnt, Chip.rd_framed _ (by simp only [R.Q_PKT_CNT, R.HSP_FRAME_CNT]; omega)]
  case align =>
    intro addr ws part s hf hw ha
    have he : execHspWrite addr ws part s = .next { s with chip := s.chip.framed.refuseFrame .align 2 addr.toNat } := by
      have hk : ∀ l, firstErr ((addr.toNat % 4 != 0, .align) :: l) = some .align := fun l => if_pos (by simp [ha])
      rw [execHspWrite, State.writeFrame, hk, State.frame_refused _ _ _ hf (by decide)]
      rfl
    obtain ⟨hcode, hop, herr, -, hcnt, hev⟩ := Chip.refuseFrame_says .align addr.toNat (Chip.awake_framed _ hw) (op := 2) (by decide)
    rw [Chip.rd_framed _ (by decide)] at hcnt hev
    exact ⟨_, he, hcode, hop, congrArg HspX.frameErr herr, hcnt, hev⟩
  case notReady =>
    intro addr x s hf hw hh
    have he : execHspWrite addr [x] false s = .next { s with chip := s.chip.framed.refuseFrame .notReady 2 addr.toNat } := by
      rw [execHspWrite_word, State.writeFrame, firstErr_sram hh, if_neg (by simp [hf.2]), State.frame_refused _ _ _ hf.1 (by decide)]
      rfl
    obtain ⟨hcode, hop, herr, -, hcnt, hev⟩ := Chip.refuseFrame_says .notReady addr.toNat (Chip.awake_framed _ hw) (op := 2) (by decide)
    rw [Chip.rd_framed _ (by decide)] at hcnt hev
    exact ⟨_, he, hcode, hop, congrArg HspX.frameErr herr, hcnt, hev⟩
  case short =>
    intro clocks op addr s hf hw hc
    obtain ⟨h, hh⟩ : ∃ h, h = (op.toNat * 2 ^ 24 + addr.toNat) / 2 ^ (32 - clocks) * 2 ^ (32 - clocks) := ⟨_, rfl⟩
    have he : s.chip.badFrame clocks op.toNat addr.toNat = s.chip.csRise.refuseFrame .short (h / 2 ^ 24) (h % 2 ^ 24) := by
      rw [Chip.badFrame, if_neg (by simp [hf]), if_pos hc, hh]
    have ho : h / 2 ^ 24 < 256 := by
      have h₁ := op.isLt
      have h₂ := addr.isLt
      have h₃ : h ≤ op.toNat * 2 ^ 24 + addr.toNat := hh ▸ Nat.div_mul_le_self _ _
      omega
    obtain ⟨hcode, -, herr, hfr, hcnt, -⟩ := Chip.refuseFrame_says .short (h % 2 ^ 24) (c := s.chip.csRise) hw ho
    exact ⟨_, State.next_chip he, hcode, hfr, congrArg HspX.inFrame herr, congrArg HspX.frameErr herr, hcnt⟩
  case badOpcode =>
    intro clocks op addr s hf hw hc ho
    have he : s.chip.badFrame clocks op.toNat addr.toNat = s.chip.framed.refuseFrame .badOpcode op.toNat addr.toNat := by
      rw [Chip.badFrame, if_neg (by simp [hf]), if_neg (by omega), if_neg]
      · rfl
      · simp only [List.contains_eq_mem, List.mem_cons, List.not_mem_nil, or_false, decide_eq_true_eq]
        omega
    obtain ⟨hcode, hop, herr, -, hcnt, hev⟩ := Chip.refuseFrame_says .badOpcode addr.toNat (Chip.awake_framed _ hw) op.isLt
    rw [Chip.rd_framed _ (by decide)] at hcnt hev
    exact ⟨_, State.next_chip he, hcode, hop, congrArg HspX.frameErr herr, hcnt, hev⟩

end Sys2Proof.Machine
end

section
/-! PROOF. Frames of the host port that read, deferred reads, refreshes and swaps (R309, R314 to R322). -/

namespace Sys2Proof.Machine
open Sys2Proof

/-! ### Requests for reads (R314) -/

/-- A request of aligned addresses in range, by a host that is not held. -/
theorem State.readReq_starts {s : State} {addr n : Nat} {fixed : Bool} (op : Nat) (hf : s.chip.hsp.inFrame = true ∧ s.chip.hsp.ready = true)
    (hs : s.chip.stalled .host = false) (ha : 0x400000 ≤ addr ∧ addr < 0x1000000 ∧ addr % 4 = 0) (hl : fixed = false → addr + 4 * (n - 1) < 0x1000000)
    (hb : s.chip.hsp.busy = none ∧ s.chip.hsp.resp = none) :
    s.readReq op addr n fixed = s.onChip fun c => c.framed.setHsp { c.framed.hsp with busy := some ⟨addr, fixed, n, true⟩ } := by
  obtain ⟨h₁, h₂, h₃⟩ := ha
  have hk : firstErr [(addr % 4 != 0, .align), (!(hostRange addr && hostRange (if fixed then addr else addr + 4 * (n - 1))), .range),
      (s.chip.hsp.busy.isSome || s.chip.hsp.resp.isSome, .deferBusy), (!s.chip.hsp.ready, .notReady)] = none := by
    cases fixed with
    | true => simp [firstErr, hostRange, h₁, h₂, h₃, hb, hf.2]
    | false =>
      have h₄ : 0x400000 ≤ addr + 4 * (n - 1) := by omega
      have h₅ := hl rfl
      simp [firstErr, hostRange, h₁, h₂, h₃, h₄, h₅, hb, hf.2]
  have hn : s.chip.framed.stalled .host = false := (Chip.stalled_framed s.chip .host).trans hs
  unfold State.readReq
  dsimp only
  rw [hk, State.frame_passes _ _ _ hf.1]
  simp only [State.onChip, hn]
  rfl

/-! ### Deferred reads that complete (R314) -/

/-- A read of an SRAM word in an open bank that is not LOST. -/
theorem State.hostRead_sram {s : State} {h : Nat} (hh : h < 0x800000) (hw : s.chip.awake = true)
    (hb : s.chip.bankOpen (s.chip.hostAddr h) = true ∧ s.chip.bankLost (s.chip.hostAddr h) = false) :
    s.hostRead h = ((Memory.word s.sram (s.chip.hostAddr h), 0), s) := by
  unfold State.hostRead
  rw [if_pos hh, if_neg (by simp [hb.1]), if_neg (by simp [hw]), if_neg (by simp [hb.2])]

section
variable (c : Chip) (x : HspX)

theorem Chip.rd_setHsp (a : Nat) : (c.setHsp x).rd a = c.rd a := rfl
theorem Only.setHsp (l : List (Nat × Nat)) : Only l c (c.setHsp x) := Only.of_regs rfl
theorem Chip.awake_setHsp : (c.setHsp x).awake = c.awake := rfl
theorem Chip.busOf_setHsp (rq : Req) : (c.setHsp x).busOf rq = c.busOf rq := rfl
theorem Chip.hostAddr_setHsp (a : Nat) : (c.setHsp x).hostAddr a = c.hostAddr a := by
  rw [Chip.hostAddr, Chip.fget, Chip.rd_setHsp, Chip.hostAddr, Chip.fget]
theorem Chip.sram_setHsp {a : Nat} (h : c.bankOpen (c.hostAddr a) = true ∧ c.bankLost (c.hostAddr a) = false) :
    (c.setHsp x).bankOpen ((c.setHsp x).hostAddr a) = true ∧ (c.setHsp x).bankLost ((c.setHsp x).hostAddr a) = false := by
  rwa [Chip.hostAddr_setHsp, Chip.bankOpen, Chip.bankLost, Chip.rd_setHsp, Chip.rd_setHsp]

end

/-- The module once the one read of a request has answered. -/
def Chip.reqAnswered (c : Chip) (h : Nat) (x : Word) : Chip := c.setHsp { c.hsp with busy := none, resp := some (h, [(x, 0)]) }

theorem State.readsDone_word {s : State} {h : Nat} {fixed : Bool} (hb : s.chip.hsp.busy = some ⟨h, fixed, 1, true⟩) (hh : h < 0x800000)
    (hw : s.chip.awake = true) (ho : s.chip.bankOpen (s.chip.hostAddr h) = true ∧ s.chip.bankLost (s.chip.hostAddr h) = false)
    (hheld : (s.chip.busOf .host).held = []) :
    s.readsDone = { s with chip := (s.chip.reqAnswered h (Memory.word s.sram (s.chip.hostAddr h))).raise 17 } := by
  have ha : Defer.addrs ⟨h, fixed, 1, true⟩ = [h] := by cases fixed <;> rfl
  have hr : s.chip.hostReady h = true := if_pos hh
  have hd := State.hostRead_sram (s := { s with chip := s.chip.setHsp { s.chip.hsp with busy := none } }) hh
    ((Chip.awake_setHsp _ _).trans hw) (Chip.sram_setHsp _ _ ho)
  rw [Chip.hostAddr_setHsp] at hd
  have he : s.readsDone = s.onChip fun c => ((c.reqAnswered h (Memory.word s.sram (s.chip.hostAddr h))).raise 17).resume .host := by
    unfold State.readsDone
    rw [hb]
    simp only [ha, List.all_cons, List.all_nil, hr, Bool.and_self, and_self, reduceIte, State.hostReads, State.onChip, hd]
    rfl
  have hn : (((s.chip.reqAnswered h (Memory.word s.sram (s.chip.hostAddr h))).raise 17).busOf .host).held = [] := by
    rwa [(Served.raise _ (by decide)).busOf, Chip.reqAnswered, Chip.busOf_setHsp]
  rw [he, State.onChip, Chip.resume_none hn]

/-! ### Responses (R315) -/

theorem Chip.response_nil_iff (c : Chip) : c.response ≠ [] ↔ c.hsp.resp ≠ none := by
  unfold Chip.response
  split <;> simp [*]

/-! ### Words of the Faceplate (R317 to R322) -/

@[simp] theorem fpWord_fpPut_self (t : Tbl Word) (o : Nat) (x : Word) : fpWord (fpPut t o x) o = x := Tbl.get_set_self _ _ _ _
theorem fpWord_fpPut_ne (t : Tbl Word) {o o' : Nat} (x : Word) (h : o' ≠ o) : fpWord (fpPut t o x) o' = fpWord t o' := Tbl.get_set_ne _ _ _ h

theorem fpWord_fpMark_ne (t : Tbl Word) {o o' : Nat} (h : o' ≠ o) : fpWord (fpMark t o) o' = fpWord t o' := by
  unfold fpMark
  split
  · exact fpWord_fpPut_ne t _ h
  · rfl

section
variable (c : Chip) (ms : Bool)

/-- A field of a refresh leaves the other offsets. -/
theorem Chip.fpField_ne (t : Tbl Word) {o o' : Nat} (h : o' ≠ o) : fpWord (c.fpField ms t o) o' = fpWord t o' := by
  unfold Chip.fpField
  split
  · rfl
  · split
    · exact fpWord_fpPut_ne t _ h
    · exact fpWord_fpMark_ne t h

/-- What a field of a refresh puts at its own offset depends on the word there alone. -/
theorem Chip.fpField_congr {t t' : Tbl Word} {o : Nat} (h : fpWord t o = fpWord t' o) : fpWord (c.fpField ms t o) o = fpWord (c.fpField ms t' o) o := by
  unfold Chip.fpField fpMark
  split
  · exact h
  · split
    · rw [fpWord_fpPut_self, fpWord_fpPut_self]
    · split
      · rw [fpWord_fpPut_self, fpWord_fpPut_self, h]
      · exact h

/-- A refresh of distinct offsets: each holds what its own field puts there. -/
theorem Chip.fpField_foldl {o : Nat} : ∀ (l : List Nat) (t : Tbl Word), l.Nodup →
    fpWord (l.foldl (c.fpField ms) t) o = if o ∈ l then fpWord (c.fpField ms t o) o else fpWord t o
  | [], _, _ => rfl
  | x :: l, t, h => by
    obtain ⟨hx, hl⟩ := List.nodup_cons.mp h
    rw [List.foldl_cons, Chip.fpField_foldl l _ hl]
    by_cases ho : o = x
    · rw [if_neg (ho ▸ hx), if_pos (ho ▸ List.mem_cons_self), ho]
    · have hne := Chip.fpField_ne c ms t ho
      rw [hne, Chip.fpField_congr c ms hne]
      simp [ho]

/-- The word of a channel after a refresh: the live one, or the old one marked stale. -/
theorem Chip.fpField_chan (t : Tbl Word) {k : Nat} (hk : k < 192) : fpWord (c.fpField ms t (0x40 + 4 * k)) (0x40 + 4 * k) =
    if c.linkUp (2 + k / 48) then c.fpChan k else fpWord t (0x40 + 4 * k) ||| 0x80000000 := by
  have hd : fpDie (0x40 + 4 * k) = 2 + k / 48 := by
    rw [fpDie, if_pos (by omega)]
    omega
  have hslow : fpSlow (0x40 + 4 * k) = false := by
    simp [fpSlow]
    omega
  have hstale : fpHasStale (0x40 + 4 * k) = true := by
    have h : 0x40 + 4 * k < 0x340 := by omega
    simp [fpHasStale, h]
  have hlive : c.fpLive (0x40 + 4 * k) = c.fpChan k := by
    unfold Chip.fpLive
    rw [if_neg (by omega), if_pos (by omega)]
    congr 1
    omega
  have hsrc : c.fpSource (0x40 + 4 * k) = if c.linkUp (2 + k / 48) then some (c.fpChan k) else none := by
    unfold Chip.fpSource
    rw [hd, hlive]
    by_cases h : c.linkUp (2 + k / 48) = true
    · simp [h]
      omega
    · simp [h]
  unfold Chip.fpField
  rw [if_neg (by simp [hslow]), hsrc]
  by_cases h : c.linkUp (2 + k / 48) = true
  · rw [if_pos h, if_pos h]
    exact fpWord_fpPut_self _ _ _
  · rw [if_neg h, if_neg h]
    simp [fpMark, hstale]

/-- The header's words leave the fields. -/
theorem Chip.fpHeader_field (t : Tbl Word) {o : Nat} (h : 0x40 ≤ o) : fpWord (c.fpHeader ms t) o = fpWord t o := by
  unfold Chip.fpHeader
  simp only [fpWord_fpPut_ne _ _ (show o ≠ 0x14 by omega), fpWord_fpPut_ne _ _ (show o ≠ 0x10 by omega), fpWord_fpPut_ne _ _ (show o ≠ 0xC by omega),
    fpWord_fpPut_ne _ _ (show o ≠ 8 by omega)]
  split
  · exact fpWord_fpPut_ne _ _ (by omega)
  · rfl

theorem Chip.fpHeader_time (t : Tbl Word) : fpWord (c.fpHeader ms t) 8 = c.mtimeLo := by
  unfold Chip.fpHeader
  simp only [fpWord_fpPut_ne _ _ (show 8 ≠ 0x14 by decide), fpWord_fpPut_ne _ _ (show 8 ≠ 0x10 by decide), fpWord_fpPut_ne _ _ (show 8 ≠ 0xC by decide),
    fpWord_fpPut_self]

theorem Chip.fpHeader_mode (t : Tbl Word) : fpWord (c.fpHeader ms t) 0xC =
    wordOf [(9, c.fget R.SYS_CLK_STATUS F.SYS_CLK_STATUS_CORE_ON_BACKUP), (8, c.logFull.toNat), (0, c.mode)] := by
  unfold Chip.fpHeader
  simp only [fpWord_fpPut_ne _ _ (show 0xC ≠ 0x14 by decide), fpWord_fpPut_ne _ _ (show 0xC ≠ 0x10 by decide), fpWord_fpPut_self]

end

theorem fpOffsets_nodup : fpOffsets.Nodup := List.nodup_range.map fun a b h => by simpa using h
theorem chan_mem_fpOffsets {k : Nat} (h : k < 192) : 0x40 + 4 * k ∈ fpOffsets := List.mem_map.mpr ⟨k, List.mem_range.mpr (by omega), rfl⟩

/-- Settles O34: a frame that reads writes the host port's own state, and a refresh one buffer. -/
theorem hostReadsAndTheFaceplate : Obligations.HostReadsAndTheFaceplate := by
  unfold Obligations.HostReadsAndTheFaceplate
  refine ⟨?req, ?reqFixed, ?done, ?fetch, ?fpRead, ?tick, ?skip, ?swap⟩
  case req =>
    intro n addr s hf hs ⟨h₁, h₂, h₃⟩ hb
    refine ⟨_, congrArg Host.Outcome.next (State.readReq_starts _ hf hs ⟨h₁, by omega, h₃⟩ (fun _ => ?_) hb), rfl, rfl, fun a ha => Chip.rd_framed _ ha⟩
    rw [Nat.add_sub_cancel]
    exact h₂
  case reqFixed =>
    intro n addr s hf hs ⟨h₁, h₂⟩ hb
    exact ⟨_, congrArg Host.Outcome.next (State.readReq_starts _ hf hs ⟨h₁, addr.isLt, h₂⟩ (fun h => absurd h (by decide)) hb), rfl, rfl,
      fun a ha => Chip.rd_framed _ ha⟩
  case done =>
    intro addr fixed s hb hheld ⟨h₁, h₂, h₃⟩ ⟨hw, ho⟩
    obtain ⟨c, hc⟩ : ∃ c, c = s.chip.reqAnswered addr.toNat (Memory.word s.sram (s.chip.hostAddr addr.toNat)) := ⟨_, rfl⟩
    have hcw : c.awake = true := hc ▸ hw
    have hrd : ∀ a, c.rd a = s.chip.rd a := fun a => hc ▸ Chip.rd_setHsp _ _ a
    have hv : Served c (c.raise 17) := Served.raise c (by decide)
    have he := State.readsDone_word hb h₂ hw ho hheld
    rw [← hc] at he
    refine ⟨_, congrArg Host.Outcome.next he, ?_, ?_, ?_, ?_⟩
    · rw [hv.hsp, hc]
      rfl
    · rw [hv.hsp, hc]
      rfl
    · rw [Chip.rd_raise_cnt hcw (by decide), hrd]
    · exact (hc ▸ Only.setHsp s.chip _ _ : Only [Blk.sys, Blk.evr] s.chip c).trans (Only.raise c (by decide))
  case fetch =>
    intro addr words s hf
    refine ⟨_, congrArg Host.Outcome.next (State.frame_passes _ _ _ hf), rfl, ?_, fun a ha => Chip.rd_framed _ ha⟩
    have hi : (s.chip.response ≠ [] ∧ s.chip.response.length ≤ words) ↔ (s.chip.hsp.resp ≠ none ∧ s.chip.response.length ≤ words) :=
      and_congr_left fun _ => Chip.response_nil_iff s.chip
    exact if_congr hi rfl rfl
  case fpRead =>
    intro addr words s hf ⟨h₁, h₂⟩
    have hk : firstErr [(addr.toNat % 4 != 0, .align), (decide (0x1000 ≤ addr.toNat), .range)] = none := by simp [firstErr, h₁, h₂]
    refine ⟨_, congrArg Host.Outcome.next ((congrArg (State.frame s _ _ · _) hk).trans (State.frame_passes _ _ _ hf)), rfl, rfl, fun a ha => Chip.rd_framed _ ha⟩
  case tick =>
    intro ms s hw hb
    refine ⟨_, State.next_chip ((if_neg (by simp [hw.1, hw.2])).trans (if_neg (by simp [hb]))), rfl, ⟨_, rfl, ?_, ?_, fun k hk => ?_⟩, Only.of_regs rfl⟩
    · exact Chip.fpHeader_time s.chip ms _
    · exact Chip.fpHeader_mode s.chip ms _
    · rw [Chip.fpHeader_field _ _ _ (by omega), Chip.fpField_foldl _ _ _ _ fpOffsets_nodup, if_pos (chan_mem_fpOffsets hk), Chip.fpField_chan _ _ _ hk]
  case skip =>
    intro ms s hw hb
    have hd : (s.chip.bump R.HSP_FP_SKIP_CNT).awake = true := Chip.awake_of_rd (Chip.rd_bump_ne _ _ (by decide)) hw.1
    have hv : Served (s.chip.bump R.HSP_FP_SKIP_CNT) ((s.chip.bump R.HSP_FP_SKIP_CNT).raise 20) := Served.raise _ (by decide)
    refine ⟨_, State.next_chip ((if_neg (by simp [hw.1, hw.2])).trans (if_pos (Option.isSome_iff_ne_none.mpr hb))), ?_, hv.hsp, ?_⟩
    · rw [hv.rd_die (by decide), Chip.rd_bump_self]
    · rw [Chip.rd_raise_cnt hd (by decide), Chip.rd_bump_ne _ _ (by decide)]
  case swap =>
    intro t s hb hf
    have he : s.chip.fpSwap = s.chip.setHsp { s.chip.hsp with front := fpPut t 0 (fpWord s.chip.hsp.front 0 + 1), back := none } := by
      unfold Chip.fpSwap
      rw [hb]
      exact if_neg (by simp [hf])
    exact ⟨_, State.next_chip he, rfl, fpWord_fpPut_self _ _ _, fun o ho => fpWord_fpPut_ne _ _ ho, Only.of_regs rfl⟩

end Sys2Proof.Machine
end

section
/-! SUPPORT. What a record of the Grain log, a packet of the queues and a completion leave of the module, and which events they can raise
(R327 to R331, R339, R344, R470 to R476). -/

namespace Sys2Proof.Machine
open Sys2Proof

/-- The events of committed and dropped packets, of held completions, and of a log that fills. -/
def tellEvents : List Nat :=
  [16, 24, 26, 27, 28, 29, 30, 32, 33, 34, 35, 36, 37, 38, 39, 88, 89, 90, 91, 92, 93, 94, 95, 96, 97, 98, 99, 100, 193, 195, 225]

/-- c' differs from c in the log, in what raises, pushes and completions change, and in registers of the security block and of l; no other
event than those above is raised. -/
structure Told (l : List (Nat × Nat)) (c c' : Chip) : Prop where
  rest : c' = { c with regs := c'.regs, evPend := c'.evPend, queues := c'.queues, cmds := c'.cmds, heldComps := c'.heldComps, fresh := c'.fresh, grain := c'.grain }
  only : Only (l ++ Blk.sec :: servedRegs) c c'
  quiet : ∀ k, k < 256 → k ∉ tellEvents → c'.rd (R.EVR_CNT k) = c.rd (R.EVR_CNT k)

namespace Told

variable {l : List (Nat × Nat)} {c c' c'' : Chip}

@[simp] theorem refl (l : List (Nat × Nat)) (c : Chip) : Told l c c := ⟨rfl, Only.refl _ c, fun _ _ _ => rfl⟩
theorem trans (h : Told l c c') (h' : Told l c' c'') : Told l c c'' := by
  refine ⟨?_, h.only.trans h'.only, fun k hk hn => (h'.quiet k hk hn).trans (h.quiet k hk hn)⟩
  have h₁ := h.rest
  have h₂ := h'.rest
  rw [h₂] at *
  rw [h₁]
theorem ite {p : Prop} [Decidable p] (h : Told l c c') (h' : Told l c c'') : Told l c (if p then c' else c'') := by
  split
  · exact h
  · exact h'
theorem foldl {α : Type} {f : Chip → α → Chip} (h : ∀ c x, Told l c (f c x)) : ∀ (xs : List α) (c : Chip), Told l c (xs.foldl f c)
  | [], c => refl l c
  | x :: xs, c => (h c x).trans (foldl h xs _)
theorem mono {l' : List (Nat × Nat)} (h : Told l c c') (hl : l ⊆ l') : Told l' c c' :=
  ⟨h.rest, h.only.mono (List.append_subset.mpr ⟨fun _ hx => List.mem_append_left _ (hl hx), List.subset_append_right _ _⟩), h.quiet⟩

theorem field {α : Type} (f : Chip → α) (h : Told l c c') : f c' =
    f { c with regs := c'.regs, evPend := c'.evPend, queues := c'.queues, cmds := c'.cmds, heldComps := c'.heldComps, fresh := c'.fresh, grain := c'.grain } :=
  congrArg f h.rest
theorem acc (h : Told l c c') : c'.acc = c.acc := h.field (·.acc)
theorem upd (h : Told l c c') : c'.upd = c.upd := h.field (·.upd)
theorem nm (h : Told l c c') : c'.nm = c.nm := h.field (·.nm)
theorem modex (h : Told l c c') : c'.modex = c.modex := h.field (·.modex)
theorem chans (h : Told l c c') : c'.chans = c.chans := h.field (·.chans)
theorem links (h : Told l c c') : c'.links = c.links := h.field (·.links)
theorem sealX (h : Told l c c') (ch : Nat) : c'.sealX ch = c.sealX ch := h.field (·.sealX ch)

/-- The registers outside the log's block and the list that no record, push or completion writes. -/
theorem rd (h : Told l c c') {a : Nat} (hl : ∀ x ∈ l, a < x.1 ∨ x.2 ≤ a) (hs : a < 0x400C0000 ∨ 0x40100000 ≤ a)
    (ha : a < 0x40000500 ∨ 0x40000508 ≤ a ∧ a < 0x40010400 ∨ 0x40010800 ≤ a ∧ a < 0x40011000 ∨ 0x40030000 ≤ a) : c'.rd a = c.rd a := by
  refine h.only a fun x hx => ?_
  simp only [servedRegs, Blk.que, Blk.sec, List.mem_append, List.mem_cons, List.not_mem_nil, or_false] at hx
  obtain hx | rfl | rfl | rfl | rfl | rfl := hx
  · have := hl x hx
    omega
  all_goals omega
theorem mode (h : Told l c c') (hl : ∀ x ∈ l, R.SYS_MODE < x.1 ∨ x.2 ≤ R.SYS_MODE) : c'.mode = c.mode :=
  congrArg F.SYS_MODE_MODE.get (h.rd hl (by decide) (by decide))

theorem wr (c : Chip) {a : Nat} (x : Word) (h : ∃ y ∈ l ++ Blk.sec :: servedRegs, y.1 ≤ a ∧ a < y.2) (ha : a < 0x40010400 ∨ 0x40010800 ≤ a) :
    Told l c (c.wr a x) := by
  refine ⟨rfl, Only.wr c a x h, fun k hk _ => Chip.rd_wr_ne c x ?_⟩
  simp only [R.EVR_CNT]
  omega
theorem sec (c : Chip) {a : Nat} (x : Word) (h : 0x400C0000 ≤ a ∧ a < 0x40100000) : Told l c (c.wr a x) :=
  wr c x ⟨Blk.sec, by simp, h⟩ (by omega)
theorem queueReg (c : Chip) {q o : Nat} (x : Word) (hq : q < 32) (ho : o < 0x40) : Told l c (c.wr (0x40020000 + o + q * 0x40) x) :=
  wr c x ⟨Blk.que, by simp [servedRegs], by simp only [Blk.que]; omega⟩ (by omega)
theorem ungate_que (c : Chip) : Told l c (c.ungate 1) :=
  wr c _ ⟨(0x40000500, 0x40000508), by simp [servedRegs], by decide⟩ (by decide)

theorem raise (c : Chip) {k : Nat} (hk : k ∈ tellEvents) : Told l c (c.raise k) := by
  have hlt : k < 256 := by
    have : ∀ k ∈ tellEvents, k < 256 := by decide
    exact this k hk
  have h := Served.raise c hlt
  refine ⟨?_, h.only.mono (fun _ hx => by simp [hx]), fun j hj hn => Chip.rd_raise_cnt_ne c (fun he => hn (he ▸ hk)) hj⟩
  have h₁ := Noted.raise c k
  unfold Noted at h₁
  rw [h₁]

/-! ### Queues and completions -/

theorem setQueue (c : Chip) (q : Nat) (x : Queue) : Told l c (c.setQueue q x) := ⟨rfl, Only.of_regs rfl, fun _ _ _ => rfl⟩
theorem queueEvent_mem {q k : Nat} (hq : q < 32) (h : queueEvent q = some k) : k ∈ tellEvents := by
  have : ∀ q < 32, ∀ k ∈ queueEvent q, k ∈ tellEvents := by decide
  exact this q hq k h
theorem qDrop (c : Chip) {q : Nat} (hq : q < 32) : Told l c (c.qDrop q) :=
  (queueReg c (o := 0x24) _ hq (by decide)).trans (raise _ (by decide))
theorem qCommitted (c : Chip) {q : Nat} (hq : q < 32) : Told l c (c.qCommitted q) := by
  have h : Told l c ((c.ungate 1).bumpWrap (R.Q_PKT_CNT q)) := (ungate_que c).trans (queueReg _ (o := 0xC) _ hq (by decide))
  unfold Chip.qCommitted
  cases hk : queueEvent q with
  | none => exact h
  | some k => exact h.trans (raise _ (queueEvent_mem hq hk))
theorem hwPush (c : Chip) {q : Nat} (hq : q < 32) (ws : List Word) : Told l c (c.hwPush q ws) :=
  ite (refl l c) (ite ((setQueue c q _).trans (qCommitted _ hq)) (qDrop c hq))
theorem q10 (c : Chip) (k obj : Nat) : Told l c (c.q10 k obj) :=
  (show Told l c c.draw.2 from ⟨rfl, Only.of_regs rfl, fun _ _ _ => rfl⟩).trans (hwPush _ (by decide) _)
theorem setHeld (c : Chip) (x : List (Req × List Word)) : Told l c { c with heldComps := x } := ⟨rfl, Only.of_regs rfl, fun _ _ _ => rfl⟩
theorem setCmds (c : Chip) (x : List Cmd) : Told l c { c with cmds := x } := ⟨rfl, Only.of_regs rfl, fun _ _ _ => rfl⟩
theorem startCmds (c : Chip) (p : Cmd → Bool) : Told l c (c.startCmds p) := setCmds c _
theorem deliver (c : Chip) (rq : Req) (ws : List Word) : Told l c (c.deliver rq ws) :=
  ite (hwPush c (Served.compQueue_lt rq) ws) ((setHeld c _).trans (raise _ (by decide)))
theorem complete (c : Chip) (rq : Req) (op tag : Nat) (st : CmdStatus) (res : List Word) (fl : Nat) :
    Told l c (c.complete rq op tag st res fl) := deliver c rq _
theorem finish (c : Chip) (p : Cmd → Bool) (st : CmdStatus) (res : List Word) : Told l c (c.finish p st res) :=
  (setCmds c _).trans (foldl (fun (c : Chip) (k : Cmd) => complete c k.rq k.op k.tag st _ _) _ _)

/-! ### Records (R470 to R476) -/

theorem setGrain (c : Chip) (g : Grain) : Told l c (c.setGrain g) := ⟨rfl, Only.of_regs rfl, fun _ _ _ => rfl⟩
theorem logSync (c : Chip) : Told l c c.logSync :=
  (((sec c _ (by decide)).trans (sec _ _ (by decide))).trans (sec _ _ (by decide))).trans (sec _ _ (by decide))
theorem logWrite (c : Chip) (typ : Nat) (pay : BitVec 128) (reserve late : Bool) : Told l c (c.logWrite typ pay reserve late) :=
  (setGrain c _).trans (logSync _)
theorem checkFull (c : Chip) : Told l c c.checkFull := ite (refl l c) ((sec c _ (by decide)).trans (raise _ (by decide)))
theorem logLost (c : Chip) : Told l c c.logLost := (sec c _ (by decide)).trans (setGrain _ _)
theorem logReserve (c : Chip) (typ : Nat) (pay : BitVec 128) (late : Bool) : Told l c (c.logReserve typ pay late) :=
  ite ((logWrite c typ pay true late).trans (checkFull _)) (logLost c)
theorem logFold (c : Chip) (typ : Nat) : Told l c (c.logFold typ) := (setGrain c _).trans (logSync _)
theorem beginFolding (c : Chip) : Told l c c.beginFolding :=
  ite (refl l c) (((sec c _ (by decide)).trans (logReserve _ _ _ _)).trans (raise _ (by decide)))
theorem logAdd (c : Chip) (typ : Nat) (pay : BitVec 128) (late : Bool) : Told l c (c.logAdd typ pay late) :=
  ite (ite (setGrain c _) (ite (logFold c typ) (logLost c)))
    (ite (logWrite c typ pay false late) ((beginFolding c).trans (ite (logFold _ typ) (logReserve _ typ pay late))))
theorem startSeal (c : Chip) : Told l c c.startSeal :=
  ite (logAdd c _ _ _) (((logAdd c _ _ _).trans (setGrain _ _)).trans (sec _ _ (by decide)))
theorem takeSeal (c : Chip) : Told l c c.takeSeal := (setGrain c _).trans (startSeal _)
theorem takeAttest (c : Chip) : Told l c c.takeAttest := by
  unfold Chip.takeAttest
  split
  · exact (setGrain c _).trans (startCmds _ _)
  · exact refl l c
theorem nextJob (c : Chip) : Told l c c.nextJob := by
  have sealed (p : Prop) [Decidable p] : Told l c (if p then c.takeSeal else c) := ite (takeSeal c) (refl l c)
  exact ite (refl l c) (ite (sealed _) ((sealed _).trans (takeAttest _)))
theorem sealDue (c : Chip) : Told l c c.sealDue := (setGrain c _).trans (nextJob _)
theorem log (c : Chip) (typ : Nat) (pay : BitVec 128) (late : Bool) : Told l c (c.log typ pay late) :=
  ite (ite ((logAdd c typ pay late).trans (sealDue _)) (logAdd c typ pay late)) (setGrain c _)

end Told

end Sys2Proof.Machine
end

section
/-! PROOF. How an access round polls, authenticates, ranges and decides (R438 to R448). -/

namespace Sys2Proof.Machine
open Sys2Proof

/-! ### How a round ends (R447) -/

/-- ACC_LAST of a round that ends with an outcome, slot, zone and distance. -/
def decidedWord (r : Round) (o : Nat × Nat × Nat × Nat) : Word :=
  F.ACC_LAST_OUTCOME.put (F.ACC_LAST_TRIGGER.put (F.ACC_LAST_SLOT.put (F.ACC_LAST_ZONE.put (F.ACC_LAST_DIST.of o.2.2.2) o.2.2.1) o.2.1) r.trig) o.1

section
variable (c : Chip) (r : Round) (o : Nat × Nat × Nat × Nat)

/-- The zones of the slots and the decision are shown. -/
def Chip.roundShown : Chip :=
  ((List.range 10).foldl (fun c s => c.fset (R.ACC_SLOT_RES s) F.ACC_SLOT_RES_ZONE (if r.auth.contains s then c.lowestZone s else 15)) c).wr R.ACC_LAST (decidedWord r o)

/-- The round is logged, or counted in a full log. -/
def Chip.roundLogged : Chip :=
  let res := ((List.range 10).map fun s => c.fget (R.ACC_SLOT_RES s) F.ACC_SLOT_RES_RESULT * 16 ^ s).sum
  if c.logFull then c.bump R.ACC_UNLOGGED_CNT
  else c.log 0x87 (payload [(0, 1, o.1), (1, 1, r.trig), (2, 1, o.2.1), (3, 1, o.2.2.1), (4, 2, o.2.2.2), (6, 5, res), (12, 4, (c.rd R.ACC_ROUND_CNT).toNat)])

/-- What a grant brings. -/
def Chip.roundUsed : Chip :=
  if o.1 = 1 then
    let c := c.validUse
    if c.flag R.ACC_STATE F.ACC_STATE_POLL_STOPPED then (c.fset R.ACC_STATE F.ACC_STATE_POLL_STOPPED 0).raise 166 else c
  else c

/-- A locating command completes. -/
def Chip.roundCompleted : Chip :=
  if r.trig = 5 then c.finish (fun k => k.op == 0x91 && k.started) (if o.1 = 7 then .aborted else .ok) [c.lastDecision] else c

/-- The round is over. -/
def Chip.roundOver : Chip :=
  let c := (c.fset R.UWB_STATUS F.UWB_STATUS_ACTIVE 0).fset R.ACC_STATE F.ACC_STATE_ROUND 0
  c.setAcc { c.acc with round := none, pend := c.acc.pend2, pend2 := none }

/-- The pending trigger sets up the next round. -/
def Chip.roundNext : Chip :=
  match c.acc.pend with
  | some t => c.roundOver.accTrigger t
  | none => c.roundOver

theorem Chip.roundEnd_stages : c.roundEnd r o =
    (let d := (((c.roundShown r o).raise 160).roundLogged r o).roundUsed o
     (if o.1 = 1 ∧ (r.trig = 3 ∨ r.trig = 4) ∧ d.mayRelease then d.release o.2.1 else d).roundCompleted r o).roundNext := rfl

/-! What each stage leaves. -/

theorem Chip.rd_roundShown {a : Nat} (ha : a < 0x404A0000) (hl : a ≠ R.ACC_LAST) : (c.roundShown r o).rd a = c.rd a := by
  rw [Chip.roundShown, Chip.rd_wr_ne _ _ hl]
  refine List.foldlRecOn _ _ (motive := fun d => Chip.rd d a = c.rd a) rfl fun d hd s _ => ?_
  rw [Chip.rd_fset_ne _ _ _ (by simp only [R.ACC_SLOT_RES]; omega), hd]
theorem Chip.last_roundShown : (c.roundShown r o).rd R.ACC_LAST = decidedWord r o := Chip.rd_wr_self _ _ _
theorem Noted.roundShown : Noted c (c.roundShown r o) := by
  refine Noted.trans ?_ (Noted.wr _ _ _)
  exact List.foldlRecOn _ _ (motive := fun d => Noted c d) (Noted.refl c) fun d hd s _ => hd.trans (Noted.fset d _ _ _)

theorem Told.roundLogged : Told [(R.ACC_UNLOGGED_CNT, R.ACC_UNLOGGED_CNT + 4)] c (c.roundLogged r o) :=
  Told.ite (Told.wr c _ ⟨(R.ACC_UNLOGGED_CNT, R.ACC_UNLOGGED_CNT + 4), by simp, by decide⟩ (by decide)) (Told.log c _ _ _)
theorem Told.roundCompleted : Told [(R.ACC_UNLOGGED_CNT, R.ACC_UNLOGGED_CNT + 4)] c (c.roundCompleted r o) := Told.ite (Told.finish c _ _ _) (Told.refl _ c)

theorem Chip.roundUsed_not {o : Nat × Nat × Nat × Nat} (h : o.1 ≠ 1) : c.roundUsed o = c := if_neg h

end

/-- A register of the access die that no record, push or completion writes. -/
theorem Told.rd_acc {c c' : Chip} (h : Told [(R.ACC_UNLOGGED_CNT, R.ACC_UNLOGGED_CNT + 4)] c c') {a : Nat} (ha : 0x40480000 ≤ a) (hu : a < R.ACC_UNLOGGED_CNT ∨ R.ACC_UNLOGGED_CNT + 4 ≤ a) :
    c'.rd a = c.rd a :=
  h.rd (by simpa using hu) (.inr (by omega)) (by omega)

/-- A grant while polling goes on: the days start again. -/
theorem Chip.roundUsed_granted {c : Chip} {o : Nat × Nat × Nat × Nat} (h : o.1 = 1) (hp : c.flag R.ACC_STATE F.ACC_STATE_POLL_STOPPED = false) :
    c.roundUsed o = c.validUse := by
  have hv : c.validUse.flag R.ACC_STATE F.ACC_STATE_POLL_STOPPED = false := by
    rw [Chip.flag, Chip.validUse, Chip.fget_fset_field _ _ _ _ _ (by decide) (by decide)]
    exact hp
  unfold Chip.roundUsed
  rw [if_pos h]
  exact if_neg (by simp [hv])

theorem Chip.acc_raise (c : Chip) (k : Nat) : (c.raise k).acc = c.acc := (Noted.raise c k).acc

/-- Where the next round is to come from, after a round that releases no start. -/
theorem Chip.roundUsed_says {c : Chip} {o : Nat × Nat × Nat × Nat} (hp : o.1 = 1 → c.flag R.ACC_STATE F.ACC_STATE_POLL_STOPPED = false) :
    (c.roundUsed o).acc.pend = c.acc.pend ∧ (∀ a, a ≠ R.ACC_STATE → (c.roundUsed o).rd a = c.rd a) ∧
      (o.1 = 1 → (c.roundUsed o).fget R.ACC_STATE F.ACC_STATE_DAYS = 0) := by
  by_cases h : o.1 = 1
  · rw [Chip.roundUsed_granted h (hp h)]
    exact ⟨rfl, fun a ha => Chip.rd_fset_ne _ _ _ ha, fun _ => Chip.fget_fset_self _ _ _ _ (by decide)⟩
  · rw [Chip.roundUsed_not c h]
    exact ⟨rfl, fun _ _ => rfl, fun h' => absurd h' h⟩

theorem Chip.roundNext_idle {c : Chip} (h : c.acc.pend = none) : c.roundNext = c.roundOver := by
  unfold Chip.roundNext
  rw [h]

theorem Chip.rd_setAcc (c : Chip) (x : AccX) (a : Nat) : (c.setAcc x).rd a = c.rd a := rfl
theorem Chip.rd_roundOver (c : Chip) {a : Nat} (hu : a ≠ R.UWB_STATUS) (ha : a ≠ R.ACC_STATE) : c.roundOver.rd a = c.rd a := by
  rw [Chip.roundOver, Chip.rd_setAcc, Chip.rd_fset_ne _ _ _ ha, Chip.rd_fset_ne _ _ _ hu]
theorem Chip.days_roundOver (c : Chip) : c.roundOver.fget R.ACC_STATE F.ACC_STATE_DAYS = c.fget R.ACC_STATE F.ACC_STATE_DAYS := by
  rw [Chip.fget, Chip.roundOver, Chip.rd_setAcc, ← Chip.fget, Chip.fget_fset_field _ _ _ _ _ (by decide) (by decide), Chip.fget_fset_ne _ _ _ _ (by decide)]
@[simp] theorem Chip.round_roundOver (c : Chip) : c.roundOver.acc.round = none := rfl

/-- A round that ends without a release and with no trigger pending. -/
theorem Chip.roundEnd_says {c : Chip} {r : Round} {o : Nat × Nat × Nat × Nat} (hw : c.awake = true) (hpend : c.acc.pend = none)
    (hr : o.1 = 1 → r.trig ≠ 3 ∧ r.trig ≠ 4) (hp : o.1 = 1 → c.flag R.ACC_STATE F.ACC_STATE_POLL_STOPPED = false) :
    (c.roundEnd r o).acc.round = none ∧ (c.roundEnd r o).rd R.ACC_LAST = decidedWord r o ∧
      (o.1 = 1 → (c.roundEnd r o).fget R.ACC_STATE F.ACC_STATE_DAYS = 0) ∧
      (c.roundEnd r o).rd (R.EVR_CNT 160) = .ofNat 32 (min 0xFFFFFFFF ((c.rd (R.EVR_CNT 160)).toNat + 1)) ∧
      (c.roundEnd r o).rd (R.EVR_CNT 163) = c.rd (R.EVR_CNT 163) ∧
      (∀ a, R.ACC_ROUND_CNT ≤ a ∧ a ≤ R.ACC_JAM_CNT → (c.roundEnd r o).rd a = c.rd a) := by
  have hreg : ∀ a, R.ACC_ROUND_CNT ≤ a ∧ a ≤ R.ACC_JAM_CNT → 0x40480000 ≤ a ∧ a < 0x404A0000 ∧ a ≠ R.ACC_LAST ∧ a ≠ R.ACC_STATE ∧ a ≠ R.UWB_STATUS ∧ a < R.ACC_UNLOGGED_CNT := by
    intro a ha
    simp only [R.ACC_ROUND_CNT, R.ACC_JAM_CNT] at ha
    simp only [R.ACC_LAST, R.ACC_STATE, R.UWB_STATUS, R.ACC_UNLOGGED_CNT]
    omega
  obtain ⟨c₁, h₁⟩ : ∃ d, d = c.roundShown r o := ⟨_, rfl⟩
  have hw₁ : c₁.awake = true := Chip.awake_of_rd (h₁ ▸ Chip.rd_roundShown c r o (by decide) (by decide)) hw
  obtain ⟨c₂, h₂⟩ : ∃ d, d = c₁.raise 160 := ⟨_, rfl⟩
  have hv₂ : Served c₁ c₂ := h₂ ▸ Served.raise c₁ (by decide)
  obtain ⟨c₃, h₃⟩ : ∃ d, d = c₂.roundLogged r o := ⟨_, rfl⟩
  have hv₃ : Told _ c₂ c₃ := h₃ ▸ Told.roundLogged c₂ r o
  have hrd₃ : ∀ a, 0x40480000 ≤ a ∧ a < 0x404A0000 → a ≠ R.ACC_LAST → (a < R.ACC_UNLOGGED_CNT ∨ R.ACC_UNLOGGED_CNT + 4 ≤ a) → c₃.rd a = c.rd a := by
    intro a ha hl hu
    rw [hv₃.rd_acc ha.1 hu, hv₂.rd_die (by omega), h₁, Chip.rd_roundShown c r o ha.2 hl]
  have hlast₃ : c₃.rd R.ACC_LAST = decidedWord r o := by
    rw [hv₃.rd_acc (by decide) (by decide), hv₂.rd_die (by decide), h₁, Chip.last_roundShown]
  have hpend₃ : c₃.acc.pend = none := by rw [hv₃.acc, hv₂.acc, h₁, (Noted.roundShown c r o).acc, hpend]
  obtain ⟨c₄, h₄⟩ : ∃ d, d = c₃.roundUsed o := ⟨_, rfl⟩
  have hp₃ : o.1 = 1 → c₃.flag R.ACC_STATE F.ACC_STATE_POLL_STOPPED = false := by
    intro h
    rw [Chip.flag, Chip.fget, hrd₃ _ (by decide) (by decide) (by decide)]
    exact hp h
  obtain ⟨hpend₄, hrd₄, hdays₄⟩ := Chip.roundUsed_says hp₃
  rw [← h₄] at hpend₄ hrd₄ hdays₄
  obtain ⟨c₅, h₅⟩ : ∃ d, d = c₄.roundCompleted r o := ⟨_, rfl⟩
  have hv₅ : Told _ c₄ c₅ := h₅ ▸ Told.roundCompleted c₄ r o
  have he : c.roundEnd r o = c₅.roundNext := by
    rw [Chip.roundEnd_stages, h₅, h₄, h₃, h₂, h₁]
    exact congrArg (fun d => (Chip.roundCompleted d r o).roundNext) (if_neg fun h => by have := hr h.1; omega)
  rw [Chip.roundNext_idle (by rw [hv₅.acc, hpend₄, hpend₃])] at he
  have hrd : ∀ a, a ≠ R.UWB_STATUS → a ≠ R.ACC_STATE → (c.roundEnd r o).rd a = c₅.rd a := by
    intro a hu ha
    rw [he, Chip.rd_roundOver c₅ hu ha]
  have hev : ∀ k, k < 256 → k ∉ tellEvents → (c.roundEnd r o).rd (R.EVR_CNT k) = c₂.rd (R.EVR_CNT k) := by
    intro k hk hn
    have ha : R.EVR_CNT k < 0x40010800 := by simp only [R.EVR_CNT]; omega
    rw [hrd _ (by simp only [R.UWB_STATUS]; omega) (by simp only [R.ACC_STATE]; omega), hv₅.quiet k hk hn, hrd₄ _ (by simp only [R.ACC_STATE]; omega), hv₃.quiet k hk hn]
  refine ⟨?_, ?_, ?_, ?_, ?_, ?_⟩
  · rw [he, Chip.round_roundOver]
  · rw [hrd _ (by decide) (by decide), hv₅.rd_acc (by decide) (by decide), hrd₄ _ (by decide), hlast₃]
  · intro h
    rw [he, Chip.days_roundOver, Chip.fget, hv₅.rd_acc (by decide) (by decide)]
    exact hdays₄ h
  · rw [hev 160 (by decide) (by decide), h₂, Chip.rd_raise_cnt hw₁ (by decide), h₁, Chip.rd_roundShown c r o (by decide) (by decide)]
  · rw [hev 163 (by decide) (by decide), h₂, Chip.rd_raise_cnt_ne _ (by decide) (by decide), h₁, Chip.rd_roundShown c r o (by decide) (by decide)]
  · intro a ha
    obtain ⟨ha₁, ha₂, hl, hs, hu, hn⟩ := hreg a ha
    rw [hrd a hu hs, hv₅.rd_acc ha₁ (.inl hn), hrd₄ a hs, hrd₃ a ⟨ha₁, ha₂⟩ hl (.inl hn)]

/-- The fields of the decision's word. -/
theorem decidedWord_fields (r : Round) (o : Nat × Nat × Nat × Nat) :
    F.ACC_LAST_OUTCOME.get (decidedWord r o) = o.1 % 16 ∧ F.ACC_LAST_SLOT.get (decidedWord r o) = o.2.1 % 16 ∧ F.ACC_LAST_ZONE.get (decidedWord r o) = o.2.2.1 % 16 := by
  unfold decidedWord
  refine ⟨Fld.get_put _ _ _ (by decide), ?_, ?_⟩
  · rw [Fld.get_put_ne F.ACC_LAST_OUTCOME F.ACC_LAST_SLOT _ _ (by decide) (by decide), Fld.get_put_ne F.ACC_LAST_TRIGGER F.ACC_LAST_SLOT _ _ (by decide) (by decide),
      Fld.get_put _ _ _ (by decide)]
    rfl
  · rw [Fld.get_put_ne F.ACC_LAST_OUTCOME F.ACC_LAST_ZONE _ _ (by decide) (by decide), Fld.get_put_ne F.ACC_LAST_TRIGGER F.ACC_LAST_ZONE _ _ (by decide) (by decide),
      Fld.get_put_ne F.ACC_LAST_SLOT F.ACC_LAST_ZONE _ _ (by decide) (by decide), Fld.get_put _ _ _ (by decide)]
    rfl

end Sys2Proof.Machine
end

section
/-! PROOF. The rows of an access round (R438 to R448). -/

namespace Sys2Proof.Machine
open Sys2Proof

/-! ### The start of a round (R436, R440) -/

/-- The results of the last round go. -/
def Chip.slotsCleared (c : Chip) (seq : Nat) : Chip :=
  (List.range 10).foldl (fun c s => c.wr (R.ACC_SLOT_RES s) (F.ACC_SLOT_RES_ZONE.put (F.ACC_SLOT_RES_SEQ.of seq) 15)
    |>.wr (R.ACC_SLOT_D01 s) 0xFFFFFFFF |>.wr (R.ACC_SLOT_D23 s) 0xFFFFFFFF) c

section
variable (c : Chip) (seq : Nat)

theorem Noted.slotsCleared : Noted c (c.slotsCleared seq) :=
  List.foldlRecOn _ _ (motive := fun d => Noted c d) (Noted.refl c) fun _ hd _ _ => hd.trans (((Noted.wr _ _ _).trans (Noted.wr _ _ _)).trans (Noted.wr _ _ _))

theorem Chip.rd_slotsCleared {a : Nat} (ha : a < 0x404A0000) : (c.slotsCleared seq).rd a = c.rd a := by
  refine List.foldlRecOn _ _ (motive := fun d => Chip.rd d a = c.rd a) rfl fun d hd s _ => ?_
  rw [Chip.rd_wr_ne _ _ (by simp only [R.ACC_SLOT_D23]; omega), Chip.rd_wr_ne _ _ (by simp only [R.ACC_SLOT_D01]; omega),
    Chip.rd_wr_ne _ _ (by simp only [R.ACC_SLOT_RES]; omega), hd]

/-- The distances of slots of a list, once their results have gone. -/
theorem Chip.dists_cleared (k : Nat) (w : Word) : ∀ (l : List Nat) (c : Chip), k ∈ l ∨ c.rd (R.ACC_SLOT_D01 k) = 0xFFFFFFFF ∧ c.rd (R.ACC_SLOT_D23 k) = 0xFFFFFFFF →
    (l.foldl (fun c s => c.wr (R.ACC_SLOT_RES s) w |>.wr (R.ACC_SLOT_D01 s) 0xFFFFFFFF |>.wr (R.ACC_SLOT_D23 s) 0xFFFFFFFF) c).rd (R.ACC_SLOT_D01 k) = 0xFFFFFFFF ∧
      (l.foldl (fun c s => c.wr (R.ACC_SLOT_RES s) w |>.wr (R.ACC_SLOT_D01 s) 0xFFFFFFFF |>.wr (R.ACC_SLOT_D23 s) 0xFFFFFFFF) c).rd (R.ACC_SLOT_D23 k) = 0xFFFFFFFF
  | [], _, h => h.resolve_left (by simp)
  | s :: l, c, h => by
    refine Chip.dists_cleared k w l _ ?_
    by_cases hk : k = s
    · subst hk
      refine .inr ⟨?_, Chip.rd_wr_self _ _ _⟩
      rw [Chip.rd_wr_ne _ _ (by simp only [R.ACC_SLOT_D01, R.ACC_SLOT_D23]; omega), Chip.rd_wr_self]
    · refine h.imp (fun hm => (List.mem_cons.mp hm).resolve_left hk) fun hd => ?_
      have h₁ : ∀ a, a = R.ACC_SLOT_D01 k ∨ a = R.ACC_SLOT_D23 k →
          (((c.wr (R.ACC_SLOT_RES s) w).wr (R.ACC_SLOT_D01 s) 0xFFFFFFFF).wr (R.ACC_SLOT_D23 s) 0xFFFFFFFF).rd a = c.rd a := by
        intro a ha
        simp only [R.ACC_SLOT_D01, R.ACC_SLOT_D23] at ha
        rw [Chip.rd_wr_ne _ _ (by simp only [R.ACC_SLOT_D23]; omega), Chip.rd_wr_ne _ _ (by simp only [R.ACC_SLOT_D01]; omega),
          Chip.rd_wr_ne _ _ (by simp only [R.ACC_SLOT_RES]; omega)]
      rw [h₁ _ (.inl rfl), h₁ _ (.inr rfl)]
      exact hd

theorem Only.slotsCleared : Only [Blk.acc] c (c.slotsCleared seq) := by
  intro a ha
  have hb := ha Blk.acc (by simp)
  simp only [Blk.acc] at hb
  refine List.foldlRecOn _ _ (motive := fun d => Chip.rd d a = c.rd a) rfl fun d hd s hs => ?_
  have hs := List.mem_range.mp hs
  rw [Chip.rd_wr_ne _ _ (by simp only [R.ACC_SLOT_D23]; omega), Chip.rd_wr_ne _ _ (by simp only [R.ACC_SLOT_D01]; omega),
    Chip.rd_wr_ne _ _ (by simp only [R.ACC_SLOT_RES]; omega), hd]

end

/-- The module once a round has been counted and its slots cleared, before its radio is asked. -/
def Chip.roundOpened (c : Chip) (r : Round) : Chip :=
  let d := (c.bump R.ACC_ROUND_CNT).slotsCleared ((c.bump R.ACC_ROUND_CNT).rd R.ACC_ROUND_CNT).toNat
  if r.trig = 5 then d.startCmds fun k => k.op == 0x91 else d

section
variable (c : Chip) (r : Round)

/-- What opening a round leaves: the hidden state but the commands in flight, and the registers but its count and its slots. -/
theorem Chip.roundOpened_says :
    (c.roundOpened r).rd R.ACC_ROUND_CNT = .ofNat 32 (min 0xFFFFFFFF ((c.rd R.ACC_ROUND_CNT).toNat + 1)) ∧
      (∀ k < 10, (c.roundOpened r).rd (R.ACC_SLOT_D01 k) = 0xFFFFFFFF ∧ (c.roundOpened r).rd (R.ACC_SLOT_D23 k) = 0xFFFFFFFF) ∧
      (∀ a, a < 0x404A0000 → a ≠ R.ACC_ROUND_CNT → (c.roundOpened r).rd a = c.rd a) ∧
      (c.roundOpened r).acc = c.acc ∧ Only [Blk.acc] c (c.roundOpened r) := by
  obtain ⟨b, hb⟩ : ∃ b, b = c.bump R.ACC_ROUND_CNT := ⟨_, rfl⟩
  obtain ⟨d, hd⟩ : ∃ d, d = b.slotsCleared (b.rd R.ACC_ROUND_CNT).toNat := ⟨_, rfl⟩
  have ho : c.roundOpened r = if r.trig = 5 then d.startCmds fun k => k.op == 0x91 else d := by
    rw [hd, hb]
    rfl
  have hrd : ∀ a, (c.roundOpened r).rd a = d.rd a := by
    intro a
    rw [ho]
    split <;> rfl
  have hacc : (c.roundOpened r).acc = d.acc := by
    rw [ho]
    split <;> rfl
  have hdist : ∀ k < 10, d.rd (R.ACC_SLOT_D01 k) = 0xFFFFFFFF ∧ d.rd (R.ACC_SLOT_D23 k) = 0xFFFFFFFF := fun k hk => by
    rw [hd]
    exact Chip.dists_cleared k _ _ _ (.inl (List.mem_range.mpr hk))
  refine ⟨?_, fun k hk => ?_, fun a ha hn => ?_, ?_, ?_⟩
  · rw [hrd, hd, Chip.rd_slotsCleared _ _ (by decide), hb, Chip.rd_bump_self]
  · rw [hrd, hrd]
    exact hdist k hk
  · rw [hrd, hd, Chip.rd_slotsCleared _ _ ha, hb, Chip.rd_bump_ne _ _ hn]
  · rw [hacc, hd, (Noted.slotsCleared b _).acc, hb, (Noted.bump c _ _).acc]
  · have h₁ : Only [Blk.acc] c b := hb ▸ Only.bump c _ _ ⟨Blk.acc, by simp, by decide⟩
    have h₂ : Only [Blk.acc] b d := hd ▸ Only.slotsCleared b _
    exact (h₁.trans h₂).trans fun a _ => hrd a

theorem Chip.radioOff_opened : (c.roundOpened r).radioOff = c.radioOff := by
  obtain ⟨-, -, hrd, -⟩ := Chip.roundOpened_says c r
  unfold Chip.radioOff Chip.linkUp Chip.flag Chip.fget
  rw [hrd _ (by decide) (by decide), hrd _ (by decide) (by decide)]

theorem Chip.roundStart_opens {c : Chip} {r : Round} (a : Nat) (hr : c.acc.round = some r) (hs : r.started = false) (hw : c.awake = true) :
    c.roundStart a =
      if c.radioOff then ((c.roundOpened r).setRound (some { r with started := true })).roundEnd { r with started := true } (6, 15, 15, 0)
      else ((c.roundOpened r).setRound (some { r with started := true })).wr R.UWB_STATUS (F.UWB_STATUS_ANT_FAULT.put (F.UWB_STATUS_ACTIVE.of 1) a) := by
  rw [← Chip.radioOff_opened c r]
  unfold Chip.roundStart
  rw [hr]
  exact if_neg (by simp [hs, hw])

theorem Chip.rd_setRound (x : Option Round) (a : Nat) : (c.setRound x).rd a = c.rd a := rfl
theorem Only.setRound (l : List (Nat × Nat)) (x : Option Round) : Only l c (c.setRound x) := Only.of_regs rfl

/-- A round that starts, its radio working. -/
theorem Chip.roundStart_says {c : Chip} {r : Round} {a : Nat} (hr : c.acc.round = some r) (hs : r.started = false) (hw : c.awake = true) (hoff : c.radioOff = false)
    (ha : a < 16) :
    (c.roundStart a).rd R.ACC_ROUND_CNT = .ofNat 32 (min 0xFFFFFFFF ((c.rd R.ACC_ROUND_CNT).toNat + 1)) ∧
      (∀ k < 10, (c.roundStart a).rd (R.ACC_SLOT_D01 k) = 0xFFFFFFFF ∧ (c.roundStart a).rd (R.ACC_SLOT_D23 k) = 0xFFFFFFFF) ∧
      (c.roundStart a).acc.round = some { r with started := true } ∧ (c.roundStart a).fget R.UWB_STATUS F.UWB_STATUS_ANT_FAULT = a ∧
      Only [Blk.acc] c (c.roundStart a) := by
  have he := Chip.roundStart_opens a hr hs hw
  rw [if_neg (by simp [hoff])] at he
  obtain ⟨hcnt, hdist, -, -, honly⟩ := Chip.roundOpened_says c r
  have hrd : ∀ b, b ≠ R.UWB_STATUS → (c.roundStart a).rd b = (c.roundOpened r).rd b := by
    intro b hb
    rw [he, Chip.rd_wr_ne _ _ hb, Chip.rd_setRound]
  refine ⟨?_, fun k hk => ?_, ?_, ?_, ?_⟩
  · rw [hrd _ (by decide), hcnt]
  · rw [hrd _ (by simp only [R.ACC_SLOT_D01, R.UWB_STATUS]; omega), hrd _ (by simp only [R.ACC_SLOT_D23, R.UWB_STATUS]; omega)]
    exact hdist k hk
  · rw [he]
    rfl
  · rw [he, Chip.fget, Chip.rd_wr_self, Fld.get_put _ _ _ (by decide)]
    exact Nat.mod_eq_of_lt ha
  · rw [he]
    exact (honly.trans (Only.setRound _ _ _)).trans (Only.wr _ _ _ ⟨Blk.acc, by simp, by decide⟩)

end

/-! ### Polls and windows (R441 to R444) -/

/-- The round after a poll. -/
def Round.polled (r : Round) (order : List Nat) (nonce : BitVec 128) (always : List Nat) : Round :=
  { r with polls := r.polls + 1, order := order, nonce := nonce, ended := false, hit := [], always := always, answered := [] }

/-- A poll that is due: the round counts it, in a new order. -/
theorem Chip.sendPoll_due {c : Chip} {r : Round} (hr : c.acc.round = some r) (h : r.started = true ∧ r.polls < 4 ∧ (r.polls = 0 ∨ r.ended = true ∧ r.hit ≠ [])) :
    ∃ nonce, c.sendPoll = c.draw.2.setRound (some (r.polled (if r.polls = 0 then List.range 10 else kthOrder 10 (Config.slotOrder c.fresh) (List.range 10)) nonce
      (if r.polls = 0 then c.draw.2.enrolledSlots else r.always.filter r.hit.contains))) := by
  unfold Chip.sendPoll
  rw [hr]
  exact ⟨_, if_pos h⟩

/-- The round after the token of slot k has accepted. -/
def Round.opened (r : Round) (k : Nat) : Round :=
  { r with auth := k :: r.auth.filter (· ≠ k), failed := r.failed.filter (· ≠ k), answered := r.answered.filter (·.1 ≠ k) }

theorem idxOf_order (k : Fin 10) : (List.range 10).idxOf? k.val = some k.val := by
  revert k
  decide

/-- What is heard in a window of the first order while the windows are open, of an enrolled slot without a session. -/
theorem Chip.tokenHeard_open {c : Chip} {r : Round} {k : Fin 10} (rx : TokenRx) (he : c.acc.enrol = none) (hr : c.acc.round = some r)
    (h : r.order = List.range 10 ∧ r.ended = false ∧ c.enrolled k = true ∧ r.auth = []) :
    c.tokenHeard k rx = match rx with
      | .noise => c.windowHit r k
      | .answer nt proof =>
        if tokenProof (c.tokenKey k) r.nonce nt = proof then c.setRound (some { r with answered := (k.val, nt) :: r.answered }) else c.authFailed r k
      | _ => c := by
  obtain ⟨ho, hend, hen, hauth⟩ := h
  unfold Chip.tokenHeard
  simp only [he, hr, ho, idxOf_order, hen, hend, hauth]
  cases rx <;> simp

section
variable (c : Chip) (r : Round) (k : Fin 10)

theorem slotRes_acc : ∃ y ∈ [Blk.acc], y.1 ≤ R.ACC_SLOT_RES k ∧ R.ACC_SLOT_RES k < y.2 := ⟨Blk.acc, by simp, by simp only [Blk.acc, R.ACC_SLOT_RES]; omega⟩

/-- A failed authentication is shown and counted, and EV164 raised. -/
theorem Chip.authFailed_says :
    (c.authFailed r k).fget (R.ACC_SLOT_RES k) F.ACC_SLOT_RES_RESULT = 2 ∧
      (c.authFailed r k).rd R.ACC_AUTH_FAIL_CNT = .ofNat 32 (min 0xFFFFFFFF ((c.rd R.ACC_AUTH_FAIL_CNT).toNat + 1)) ∧
      (c.awake = true → (c.authFailed r k).rd (R.EVR_CNT 164) = .ofNat 32 (min 0xFFFFFFFF ((c.rd (R.EVR_CNT 164)).toNat + 1))) ∧
      ((c.authFailed r k).acc.round.map (·.auth)) = some r.auth ∧ Only [Blk.sys, Blk.evr, Blk.que, Blk.acc] c (c.authFailed r k) := by
  obtain ⟨b, hb⟩ : ∃ b, b = c.setRound (some { r with failed := k.val :: r.failed.filter (· ≠ k.val), answered := r.answered.filter (·.1 ≠ k.val) }) := ⟨_, rfl⟩
  obtain ⟨d, hd⟩ : ∃ d, d = (b.fset (R.ACC_SLOT_RES k) F.ACC_SLOT_RES_RESULT 2).bump R.ACC_AUTH_FAIL_CNT := ⟨_, rfl⟩
  have he : c.authFailed r k = d.raise 164 := by
    rw [hd, hb]
    rfl
  have hv : Served d (c.authFailed r k) := he ▸ Served.raise d (by decide)
  have hbr : ∀ a, b.rd a = c.rd a := fun a => hb ▸ Chip.rd_setRound c _ a
  have hrd : ∀ a, a < 0x40480000 → d.rd a = c.rd a := by
    intro a ha
    rw [hd, Chip.rd_bump_ne _ _ (by simp only [R.ACC_AUTH_FAIL_CNT]; omega), Chip.rd_fset_ne _ _ _ (by simp only [R.ACC_SLOT_RES]; omega), hbr]
  refine ⟨?_, ?_, fun hw => ?_, ?_, ?_⟩
  · rw [hv.fget_die _ (by simp only [R.ACC_SLOT_RES]; omega), hd, Chip.bump, Chip.fget_wr_ne _ _ _ (by simp only [R.ACC_SLOT_RES, R.ACC_AUTH_FAIL_CNT]; omega),
      Chip.fget_fset_self _ _ _ _ (by decide)]
    rfl
  · rw [hv.rd_die (by decide), hd, Chip.rd_bump_self, Chip.rd_fset_ne _ _ _ (by simp only [R.ACC_SLOT_RES, R.ACC_AUTH_FAIL_CNT]; omega), hbr]
  · rw [he, Chip.rd_raise_cnt (Chip.awake_of_rd (hrd _ (by decide)) hw) (by decide), hrd _ (by decide)]
  · have hacc : d.acc = b.acc := hd ▸ ((Noted.fset b _ _ _).trans (Noted.bump _ _ _)).acc
    rw [hv.acc, hacc, hb]
    rfl
  · have h₁ : Only [Blk.acc] c b := hb ▸ Only.setRound c _ _
    have h₂ : Only [Blk.acc] b d := hd ▸ (Only.fset b _ _ _ (slotRes_acc k)).trans (Only.bump _ _ _ ⟨Blk.acc, by simp, by decide⟩)
    exact ((h₁.trans h₂).mono (by simp)).trans (hv.blocks.mono (by simp))

/-- A corrupted window is counted; of a slot without a session it is shown. -/
theorem Chip.windowHit_says :
    (r.auth.contains k.val = false → (c.windowHit r k).fget (R.ACC_SLOT_RES k) F.ACC_SLOT_RES_RESULT = 3) ∧
      (c.windowHit r k).rd R.ACC_COLLISION_CNT = .ofNat 32 (min 0xFFFFFFFF ((c.rd R.ACC_COLLISION_CNT).toNat + 1)) ∧
      (∀ a, (∀ s, a ≠ R.ACC_SLOT_RES s) → a ≠ R.ACC_COLLISION_CNT → (c.windowHit r k).rd a = c.rd a) ∧ Only [Blk.acc] c (c.windowHit r k) := by
  obtain ⟨b, hb⟩ : ∃ b, b = (c.setRound (some { r with hit := k.val :: r.hit.filter (· ≠ k.val) })).bump R.ACC_COLLISION_CNT := ⟨_, rfl⟩
  have he : c.windowHit r k = if r.auth.contains k.val then b else b.fset (R.ACC_SLOT_RES k) F.ACC_SLOT_RES_RESULT 3 := by
    rw [hb]
    rfl
  have hcnt : b.rd R.ACC_COLLISION_CNT = .ofNat 32 (min 0xFFFFFFFF ((c.rd R.ACC_COLLISION_CNT).toNat + 1)) := by
    rw [hb, Chip.rd_bump_self, Chip.rd_setRound]
  have hob : Only [Blk.acc] c b := hb ▸ (Only.setRound c _ _).trans (Only.bump _ _ _ ⟨Blk.acc, by simp, by decide⟩)
  refine ⟨fun h => ?_, ?_, fun a hs ha => ?_, ?_⟩
  · rw [he, if_neg (by rw [h]; decide), Chip.fget_fset_self _ _ _ _ (by decide)]
    rfl
  · rw [he]
    split
    · exact hcnt
    · rw [Chip.rd_fset_ne _ _ _ (by simp only [R.ACC_SLOT_RES, R.ACC_COLLISION_CNT]; omega), hcnt]
  · have hba : b.rd a = c.rd a := by rw [hb, Chip.rd_bump_ne _ _ ha, Chip.rd_setRound]
    rw [he]
    split
    · exact hba
    · rw [Chip.rd_fset_ne _ _ _ (hs k), hba]
  · rw [he]
    exact Only.ite _ hob (hob.trans (Only.fset _ _ _ _ (slotRes_acc k)))

end

/-! ### Ranging (R445) -/

/-- The fields of two ports lie apart. -/
theorem distReg_apart (s : Fin 10) {p q : Fin 4} (h : q ≠ p) : (distReg s q).1 ≠ (distReg s p).1 ∨
    ((distReg s q).2.lo + (distReg s q).2.w ≤ (distReg s p).2.lo ∨ (distReg s p).2.lo + (distReg s p).2.w ≤ (distReg s q).2.lo) ∧
      (distReg s q).2.lo + (distReg s q).2.w ≤ 32 := by
  revert s p q
  decide

section
variable (c : Chip) (s : Fin 10) (p : Fin 4) (v : Nat)

theorem Chip.dist_fset_self : (c.fset (distReg s p).1 (distReg s p).2 v).dist s p = v % 2 ^ 16 := by
  have hw : (distReg s p).2.lo + (distReg s p).2.w ≤ 32 ∧ (distReg s p).2.w = 16 := by revert s p; decide
  rw [Chip.dist, Chip.fget_fset_self _ _ _ _ hw.1, hw.2]

theorem Chip.dist_fset_ne {q : Fin 4} (h : q ≠ p) : (c.fset (distReg s p).1 (distReg s p).2 v).dist s q = c.dist s q := by
  by_cases ha : (distReg s q).1 = (distReg s p).1
  · obtain ⟨hf, hw⟩ := (distReg_apart s h).resolve_left (fun hn => hn ha)
    rw [Chip.dist, ha, Chip.fget_fset_field _ _ _ _ _ hf hw, Chip.dist, ha]
  · rw [Chip.dist, Chip.fget_fset_ne _ _ _ _ ha, Chip.dist]

theorem distReg_acc : ∃ y ∈ [Blk.acc], y.1 ≤ (distReg s p).1 ∧ (distReg s p).1 < y.2 := ⟨Blk.acc, by simp, by revert s p; decide⟩
theorem distReg_ne : (∀ t, (distReg s p).1 ≠ R.ACC_SLOT_RES t) ∧ (distReg s p).1 ≠ R.ACC_COLLISION_CNT := by
  have h : (distReg s p).1 % 16 ≠ 0 ∧ (distReg s p).1 ≠ R.ACC_COLLISION_CNT := by revert s p; decide
  refine ⟨fun t ht => h.1 ?_, h.2⟩
  rw [ht]
  simp only [R.ACC_SLOT_RES]
  omega

end

/-! ### The decision (R446) -/

theorem Chip.decision_nothing (c : Chip) {r : Round} (ha : r.auth = []) (hf : r.failed = []) : c.decision r = (2, 15, 15, 0) := by
  unfold Chip.decision
  simp only [ha, hf]
  split <;> rfl

theorem sessions_one (k : Fin 10) : ((List.range 10).filter fun s => [k.val].contains s && !([] : List Nat).contains s) = [k.val] := by
  revert k
  decide

/-- One authenticated token inside the triggering zone of a handle. -/
theorem Chip.decision_granted {c : Chip} {r : Round} {k : Fin 10} {z : Nat} (ha : r.auth = [k.val]) (hg : r.gone = []) (ht : r.trig = 1) (hz : r.zone = some z)
    (hi : c.inside k z = true) : ∃ d, c.decision r = (1, k.val, z, d) := by
  unfold Chip.decision
  rw [ha, hg, sessions_one, ht, hz]
  simp [hi, leastBy]

theorem filter_contains_nil (l : List Nat) : l.filter ([] : List Nat).contains = [] := by simp

/-- A round that is decided where no window of its poll was corrupted. -/
theorem Chip.roundDecide_clear {c : Chip} {r : Round} (hr : c.acc.round = some r) (h : r.started = true ∧ 1 ≤ r.polls ∧ r.ended = true ∧ r.hit = []) :
    c.roundDecide = c.roundEnd r (c.decision r) := by
  obtain ⟨hs, hp, he, hh⟩ := h
  unfold Chip.roundDecide
  rw [hr]
  refine (if_pos ⟨hs, hp, he, .inl hh⟩).trans (if_neg ?_)
  rw [hh, filter_contains_nil]
  simp

/-- Settles O53: each row writes the round and the registers of its own fact; a round that ends is shown, logged and over. -/
theorem accessRounds : Obligations.AccessRounds := by
  unfold Obligations.AccessRounds
  refine ⟨?start, ?radioOff, ?firstPoll, ?nextPoll, ?answer, ?wrong, ?noise, ?windows, ?jammed, ?session, ?range, ?corrupted, ?nothing, ?granted, ?busy, ?noRelease, ?blink, ?days⟩
  case start =>
    exact fun a r s hr hs hw hoff => ⟨_, rfl, Chip.roundStart_says hr hs hw hoff a.isLt⟩
  case radioOff =>
    intro a r s hr ⟨hs, hp⟩ hoff hw
    have he := Chip.roundStart_opens a.toNat hr hs hw
    rw [if_pos hoff] at he
    obtain ⟨hcnt, -, hrd, hacc, -⟩ := Chip.roundOpened_says s.chip r
    obtain ⟨d, hd⟩ : ∃ d, d = (s.chip.roundOpened r).setRound (some { r with started := true }) := ⟨_, rfl⟩
    have hdr : ∀ b, d.rd b = (s.chip.roundOpened r).rd b := fun b => hd ▸ Chip.rd_setRound _ _ b
    have hdw : d.awake = true := Chip.awake_of_rd ((hdr _).trans (hrd _ (by decide) (by decide))) hw
    have hdp : d.acc.pend = none := by
      rw [hd]
      exact (congrArg AccX.pend hacc).trans hp
    obtain ⟨hround, hlast, -, hev, -, hregs⟩ := Chip.roundEnd_says (r := { r with started := true }) (o := (6, 15, 15, 0)) hdw hdp (fun h => absurd h (by decide))
      (fun h => absurd h (by decide))
    rw [← hd] at he
    refine ⟨_, State.next_chip he, hround, ?_, ?_, ?_⟩
    · exact (congrArg F.ACC_LAST_OUTCOME.get hlast).trans (decidedWord_fields _ _).1
    · rw [hregs _ (by decide), hdr, hcnt]
    · rw [hev, hdr, hrd _ (by decide) (by decide)]
  case firstPoll =>
    intro r s hr ⟨hs, hp⟩
    obtain ⟨nonce, he⟩ := Chip.sendPoll_due hr ⟨hs, by omega, .inl hp⟩
    rw [if_pos hp, if_pos hp] at he
    refine ⟨_, State.next_chip he, ?_, rfl, Only.of_regs rfl⟩
    show some (r.polls + 1, _, _, _) = _
    rw [hp]
    rfl
  case nextPoll =>
    intro r s hr ⟨hs, hp, hq, hend, hh⟩
    obtain ⟨nonce, he⟩ := Chip.sendPoll_due hr ⟨hs, hq, .inr ⟨hend, hh⟩⟩
    exact ⟨_, State.next_chip he, rfl, Only.of_regs rfl⟩
  case answer =>
    intro k nt r s he hr h
    exact ⟨_, State.next_chip ((Chip.tokenHeard_open _ he hr h).trans (if_pos rfl)), rfl, Only.of_regs rfl⟩
  case wrong =>
    intro k nt x r s he hr h hx hw
    have hne : tokenProof (s.chip.tokenKey k) r.nonce nt ≠ tokenProof (s.chip.tokenKey k) r.nonce nt + x := by simpa using hx
    obtain ⟨hres, hcnt, hev, -, honly⟩ := Chip.authFailed_says s.chip r k
    exact ⟨_, State.next_chip ((Chip.tokenHeard_open _ he hr h).trans (if_neg hne)), hres, hcnt, hev hw, honly⟩
  case noise =>
    intro k r s he hr h
    obtain ⟨hres, hcnt, -, honly⟩ := Chip.windowHit_says s.chip r k
    exact ⟨_, State.next_chip (Chip.tokenHeard_open _ he hr h), hres (by rw [h.2.2.2]; rfl), hcnt, honly⟩
  case windows =>
    intro r s hr ⟨hp, hend⟩ h
    have hn : ¬ (r.polls = 4 ∧ r.always.filter r.hit.contains ≠ []) := by
      rintro ⟨h4, hf⟩
      obtain h | h := h
      · omega
      · rw [h, filter_contains_nil] at hf
        exact hf rfl
    have he : s.chip.windowsEnd = s.chip.setRound (some { r with ended := true }) := by
      unfold Chip.windowsEnd
      rw [hr]
      exact (if_neg (by simp [hend]; omega)).trans (if_neg hn)
    exact ⟨_, State.next_chip he, rfl, Only.of_regs rfl⟩
  case jammed =>
    intro r k s hr ⟨hp, hend, hal, hh, hpend⟩ hw
    obtain ⟨d, hd⟩ : ∃ d, d = (s.chip.bump R.ACC_JAM_CNT).raise 163 := ⟨_, rfl⟩
    have he : s.chip.windowsEnd = d.roundEnd r (5, 15, 15, 0) := by
      rw [hd]
      unfold Chip.windowsEnd
      rw [hr]
      exact (if_neg (by simp [hend]; omega)).trans (if_pos ⟨hp, by simp [hal, hh]⟩)
    obtain ⟨hcnt, hev, -, -⟩ := Chip.counted_raised (c := s.chip) (a := R.ACC_JAM_CNT) (k := 163) (by decide) (by decide) hw
    rw [← hd] at hcnt hev
    have hn : Noted s.chip d := hd ▸ (Noted.bump s.chip _ _).trans (Noted.raise _ _)
    have hdw : d.awake = true := by
      have hv : Served (s.chip.bump R.ACC_JAM_CNT) d := hd ▸ Served.raise _ (by decide)
      rw [hv.awake]
      exact Chip.awake_of_rd (Chip.rd_bump_ne _ _ (by decide)) hw
    obtain ⟨hround, hlast, -, -, hjam, hregs⟩ := Chip.roundEnd_says (r := r) (o := (5, 15, 15, 0)) hdw (by rw [hn.acc, hpend]) (fun h => absurd h (by decide))
      (fun h => absurd h (by decide))
    refine ⟨_, State.next_chip he, hround, ?_, ?_, ?_⟩
    · exact (congrArg F.ACC_LAST_OUTCOME.get hlast).trans (decidedWord_fields _ _).1
    · rw [hregs _ (by decide), hcnt]
    · rw [hjam, hev]
  case session =>
    intro k accepted r s hr ha
    cases accepted with
    | true =>
      have he : s.chip.sessionOpen k true = (s.chip.setRound (some (r.opened k))).fset (R.ACC_SLOT_RES k) F.ACC_SLOT_RES_RESULT 1 := by
        unfold Chip.sessionOpen
        rw [hr]
        exact (if_pos ha).trans (if_pos rfl)
      refine ⟨_, State.next_chip he, ?_, ?_, ?_⟩
      · rw [Chip.fget_fset_self _ _ _ _ (by decide)]
        rfl
      · rw [(Noted.fset _ _ _ _).acc]
        show some ((r.opened k).auth.contains k.val) = _
        simp [Round.opened]
      · exact ((Only.setRound _ _ _).trans (Only.fset _ _ _ _ (slotRes_acc k))).mono (by simp)
    | false =>
      have he : s.chip.sessionOpen k false = s.chip.authFailed r k := by
        unfold Chip.sessionOpen
        rw [hr]
        exact (if_pos ha).trans (if_neg (by decide))
      obtain ⟨hres, -, -, hauth, honly⟩ := Chip.authFailed_says s.chip r k
      obtain ⟨q, hq, hqa⟩ := Option.map_eq_some_iff.mp hauth
      refine ⟨_, State.next_chip he, hres, ?_, honly⟩
      rw [hq, Option.map_some, hqa, Bool.false_or]
  case range =>
    intro k p d r s hr ⟨ha, hg⟩ hf
    have he : s.chip.ranged k p (some d) = s.chip.fset (distReg k p).1 (distReg k p).2 (min d 0xFFFE) := by
      unfold Chip.ranged
      rw [hr]
      refine (if_pos ⟨ha, by simp [hg]⟩).trans ?_
      simp [hf]
    refine ⟨_, State.next_chip he, ?_, fun q hq hn => ?_, rfl, Only.fset _ _ _ _ (distReg_acc k p)⟩
    · rw [Chip.dist_fset_self]
      exact Nat.mod_eq_of_lt (lt_of_le_of_lt (min_le_right _ _) (by decide))
    · exact Chip.dist_fset_ne s.chip k p _ (q := ⟨q, hq⟩) (fun h => hn (congrArg Fin.val h))
  case corrupted =>
    intro k p r s hr ⟨ha, hg⟩
    obtain ⟨d, hd⟩ : ∃ d, d = s.chip.fset (distReg k p).1 (distReg k p).2 0xFFFF := ⟨_, rfl⟩
    have he : s.chip.ranged k p none = d.windowHit r k := by
      rw [hd]
      unfold Chip.ranged
      rw [hr]
      exact if_pos ⟨ha, by simp [hg]⟩
    obtain ⟨-, hcnt, hrest, honly⟩ := Chip.windowHit_says d r k
    have hdist : d.dist k p = 0xFFFF := by
      rw [hd, Chip.dist_fset_self]
      rfl
    refine ⟨_, State.next_chip he, ?_, ?_, (hd ▸ Only.fset s.chip _ _ _ (distReg_acc k p) : Only [Blk.acc] s.chip d).trans honly⟩
    · rw [← hdist, Chip.dist, Chip.fget, hrest _ (distReg_ne k p).1 (distReg_ne k p).2, Chip.dist, Chip.fget]
    · rw [hcnt, hd, Chip.rd_fset_ne _ _ _ (distReg_ne k p).2.symm]
  case nothing =>
    intro r s hr ⟨hs, hp, hend, hh, ha, hf, hpend⟩ hw
    have he := Chip.roundDecide_clear hr ⟨hs, hp, hend, hh⟩
    rw [Chip.decision_nothing s.chip ha hf] at he
    obtain ⟨hround, hlast, -, hev, -⟩ := Chip.roundEnd_says (r := r) (o := (2, 15, 15, 0)) hw hpend (fun h => absurd h (by decide)) (fun h => absurd h (by decide))
    refine ⟨_, State.next_chip he, hround, ?_, hev⟩
    exact (congrArg F.ACC_LAST_OUTCOME.get hlast).trans (decidedWord_fields _ _).1
  case granted =>
    intro r k z s hr ⟨hs, hp, hend, hh, ha, hg, hpend⟩ ⟨ht, hz⟩ hi hw hstop
    obtain ⟨d, hd⟩ := Chip.decision_granted ha hg ht hz hi
    have he := Chip.roundDecide_clear hr ⟨hs, hp, hend, hh⟩
    rw [hd] at he
    obtain ⟨hround, hlast, hdays, hev, -⟩ := Chip.roundEnd_says (r := r) (o := (1, k.val, z.val, d)) hw hpend (fun _ => by rw [ht]; decide) (fun _ => hstop)
    obtain ⟨hout, hslot, hzone⟩ := decidedWord_fields r (1, k.val, z.val, d)
    refine ⟨_, State.next_chip he, hround, ?_, ?_, ?_, hdays rfl, hev⟩
    · exact (congrArg F.ACC_LAST_OUTCOME.get hlast).trans hout
    · exact (congrArg F.ACC_LAST_SLOT.get hlast).trans (hslot.trans (Nat.mod_eq_of_lt (k.isLt.trans (by decide))))
    · exact (congrArg F.ACC_LAST_ZONE.get hlast).trans (hzone.trans (Nat.mod_eq_of_lt (z.isLt.trans (by decide))))
  case busy => exact fun s hr hp => State.next_chip ((if_pos hr).trans (if_pos hp))
  case noRelease => exact fun s hr => State.next_chip (if_neg (by rw [hr]; decide))
  case blink =>
    intro k a s ⟨hl, hen, hr⟩
    simp only [Chip.listens, Bool.and_eq_true, Bool.or_eq_true, beq_iff_eq, Bool.not_eq_true'] at hl
    obtain ⟨⟨hmode, hstop⟩, hoff⟩ := hl
    have hw : s.chip.awake = true := by
      rw [Chip.awake, decide_eq_true_eq]
      omega
    obtain ⟨b, hb⟩ : ∃ b, b = s.chip.setRound (some { trig := 2, zone := none, blink := k.val }) := ⟨_, rfl⟩
    obtain ⟨d, hd⟩ : ∃ d, d = b.fset R.ACC_STATE F.ACC_STATE_ROUND 1 := ⟨_, rfl⟩
    have hbr : ∀ a, b.rd a = s.chip.rd a := fun a => hb ▸ Chip.rd_setRound _ _ a
    have hrd : ∀ a, a ≠ R.ACC_STATE → d.rd a = s.chip.rd a := fun a ha => by rw [hd, Chip.rd_fset_ne _ _ _ ha, hbr]
    have hround : d.acc.round = some { trig := 2, zone := none, blink := k.val } := by
      have hacc : d.acc = b.acc := hd ▸ (Noted.fset b _ _ _).acc
      rw [hacc, hb]
      rfl
    have hdoff : d.radioOff = false := by
      unfold Chip.radioOff Chip.linkUp Chip.flag Chip.fget
      rw [hrd _ (by decide), hrd _ (by decide)]
      exact hoff
    obtain ⟨hcnt, -, hstarted, -, honly⟩ := Chip.roundStart_says (a := a.toNat) hround rfl (Chip.awake_of_rd (hrd _ (by decide)) hw) hdoff a.isLt
    obtain ⟨nonce, hpoll⟩ := Chip.sendPoll_due hstarted ⟨rfl, Nat.zero_lt_succ 3, .inl rfl⟩
    have he : s.chip.blinkHeard k a.toNat = (d.roundStart a.toNat).sendPoll := by
      have ht : s.chip.accTrigger (2, none, k.val) = d := by
        rw [hd, hb]
        unfold Chip.accTrigger
        rw [hr]
      unfold Chip.blinkHeard
      rw [if_pos (by simp [Chip.listens, hmode, hstop, hoff, hen]), ht]
      exact if_pos (by simp [hr])
    have hso : Only [Blk.acc] s.chip d :=
      (hb ▸ Only.setRound s.chip _ _ : Only [Blk.acc] s.chip b).trans (hd ▸ Only.fset b _ _ _ ⟨Blk.acc, by simp, by decide⟩)
    refine ⟨_, State.next_chip (he.trans hpoll), rfl, ?_, (hso.trans honly).trans (Only.of_regs rfl)⟩
    rw [hrd _ (by decide)] at hcnt
    exact hcnt
  case days =>
    intro s hf hw
    obtain ⟨d, hd⟩ : ∃ d, d = (s.chip.fset R.ACC_STATE F.ACC_STATE_POLL_STOPPED 1).fset R.ACC_STATE F.ACC_STATE_DAYS
      (max (s.chip.fget R.ACC_STATE F.ACC_STATE_DAYS) (s.chip.fget R.ACC_CFG0 F.ACC_CFG0_POLL_DAYS)) := ⟨_, rfl⟩
    have hv : Served d (d.raise 165) := Served.raise d (by decide)
    have hrd : ∀ a, a ≠ R.ACC_STATE → d.rd a = s.chip.rd a := fun a ha => by rw [hd, Chip.rd_fset_ne _ _ _ ha, Chip.rd_fset_ne _ _ _ ha]
    have hso : Only [Blk.acc] s.chip d :=
      hd ▸ (Only.fset s.chip _ _ _ ⟨Blk.acc, by simp, by decide⟩).trans (Only.fset _ _ _ _ ⟨Blk.acc, by simp, by decide⟩)
    refine ⟨_, State.next_chip ((if_neg (by simp [hf])).trans (congrArg (Chip.raise · 165) hd.symm)), ?_, ?_, (hso.mono (by simp)).trans (hv.blocks.mono (by simp))⟩
    · rw [hv.flag_die _ (by decide), hd, Chip.flag, Chip.fget_fset_field _ _ _ _ _ (by decide) (by decide), Chip.fget_fset_self _ _ _ _ (by decide)]
      rfl
    · rw [Chip.rd_raise_cnt (Chip.awake_of_rd (hrd _ (by decide)) hw) (by decide), hrd _ (by decide)]

end Sys2Proof.Machine
end

section
/-! PROOF. Seals, the recorder of power die 3, and the load registers (R467, R468, R473, R510). -/

namespace Sys2Proof.Machine
open Sys2Proof

/-! ### Seals (R461, R473) -/

/-- A record of a log that is not being erased and whose main ring has room. -/
theorem Chip.logAdd_main {c : Chip} (typ : Nat) (pay : BitVec 128) (late : Bool) (he : c.erasing = false) (hr : c.grain.mainRoom = true) :
    c.logAdd typ pay late = c.logWrite typ pay false late := by
  unfold Chip.logAdd
  rw [if_neg (by simp [he]), if_pos hr]

theorem Chip.grain_logSync (c : Chip) : c.logSync.grain = c.grain :=
  (((((Noted.wr c _ _).trans (Noted.wr _ _ _)).trans (Noted.fset _ _ _ _)).trans (Noted.wr _ _ _)).grain :)
theorem Chip.grain_setGrain (c : Chip) (g : Grain) : (c.setGrain g).grain = g := rfl
theorem Chip.rd_setGrain (c : Chip) (g : Grain) (a : Nat) : (c.setGrain g).rd a = c.rd a := rfl
theorem Chip.flag_setGrain (c : Chip) (g : Grain) (a : Nat) (f : Fld) : (c.setGrain g).flag a f = c.flag a f := rfl

theorem Only.sec (c : Chip) {a : Nat} (x : Word) (h : 0x400C0000 ≤ a ∧ a < 0x40100000) : Only [Blk.sec] c (c.wr a x) := Only.wr c a x ⟨Blk.sec, by simp, h⟩
theorem Only.setGrain (l : List (Nat × Nat)) (c : Chip) (g : Grain) : Only l c (c.setGrain g) := Only.of_regs rfl

/-- A record of the main ring: the next SEQ, at the end of the chain. -/
theorem Chip.logWrite_says (c : Chip) (typ : Nat) (pay : BitVec 128) :
    (c.logWrite typ pay false false).grain.nextSeq = c.grain.nextSeq + 1 ∧
      ((c.logWrite typ pay false false).grain.recs.getLast?.map fun r => (r.typ, r.seq)) = some (typ, c.grain.nextSeq) ∧
      Only [Blk.sec] c (c.logWrite typ pay false false) := by
  obtain ⟨r, hr⟩ : ∃ r, r = c.grain.mkRec typ pay false false (c.ctr64 R.SEN_RTC_LO).toNat := ⟨_, rfl⟩
  have hrec : (r.typ, r.seq) = (typ, c.grain.nextSeq) := hr ▸ rfl
  rw [Chip.logWrite, ← hr]
  refine ⟨?_, ?_, (Only.setGrain _ c (c.grain.push r)).trans ?_⟩
  · rw [Chip.grain_logSync, Chip.grain_setGrain]
    rfl
  · rw [Chip.grain_logSync, Chip.grain_setGrain, Grain.push, List.getLast?_append_of_ne_nil _ (by simp)]
    exact congrArg some hrec
  · exact (((Only.sec _ _ (by decide)).trans (Only.sec _ _ (by decide))).trans (Only.sec _ _ (by decide))).trans (Only.sec _ _ (by decide))

/-- The log once the signer has taken the seal of its newest record. -/
def Grain.signing (g : Grain) (seals slot : Nat) : Grain :=
  { g with seals := seals, sealSlot := slot, dirty := false, job := some (.sealing (g.nextSeq - 1) slot (sealMsg (g.nextSeq - 1) g.lastLink)) }

theorem Chip.startSeal_eq (c : Chip) : c.startSeal =
    (let d := c.logAdd 0x80 (payload [(0, 4, c.grain.seals), (4, 4, c.grain.lastSeal), (8, 1, 1 - c.grain.sealSlot)]) false
     if d.grain.nextSeq = c.grain.nextSeq then d
     else (d.setGrain (d.grain.signing (c.grain.seals + 1) (1 - c.grain.sealSlot))).fset R.SEC_LOG_STATUS F.SEC_LOG_STATUS_SEALING 1) := rfl

/-- A seal that starts while the log can take its record. -/
theorem Chip.startSeal_says {c : Chip} (he : c.erasing = false) (hr : c.grain.mainRoom = true) :
    c.startSeal.grain.nextSeq = c.grain.nextSeq + 1 ∧ (c.startSeal.grain.recs.getLast?.map fun r => (r.typ, r.seq)) = some (0x80, c.grain.nextSeq) ∧
      (∃ msg, c.startSeal.grain.job = some (.sealing c.grain.nextSeq (1 - c.grain.sealSlot) msg)) ∧
      c.startSeal.flag R.SEC_LOG_STATUS F.SEC_LOG_STATUS_SEALING = true ∧ Only [Blk.sec] c c.startSeal := by
  obtain ⟨pay, hp⟩ : ∃ pay, pay = payload [(0, 4, c.grain.seals), (4, 4, c.grain.lastSeal), (8, 1, 1 - c.grain.sealSlot)] := ⟨_, rfl⟩
  obtain ⟨d, hd⟩ : ∃ d, d = c.logWrite 0x80 pay false false := ⟨_, rfl⟩
  obtain ⟨hseq, hrec, honly⟩ := Chip.logWrite_says c 0x80 pay
  rw [← hd] at hseq hrec honly
  have hs : c.startSeal = (d.setGrain (d.grain.signing (c.grain.seals + 1) (1 - c.grain.sealSlot))).fset R.SEC_LOG_STATUS F.SEC_LOG_STATUS_SEALING 1 := by
    have ha : c.logAdd 0x80 pay false = d := (Chip.logAdd_main _ _ _ he hr).trans hd.symm
    rw [Chip.startSeal_eq, ← hp, ha]
    exact if_neg (by omega)
  have hgr : c.startSeal.grain = d.grain.signing (c.grain.seals + 1) (1 - c.grain.sealSlot) := by rw [hs, (Noted.fset _ _ _ _).grain, Chip.grain_setGrain]
  rw [hgr]
  refine ⟨hseq, hrec, ⟨sealMsg (d.grain.nextSeq - 1) d.grain.lastLink, ?_⟩, ?_, ?_⟩
  · rw [Grain.signing, hseq, Nat.add_sub_cancel]
  · rw [hs, Chip.flag, Chip.fget_fset_self _ _ _ _ (by decide)]
    rfl
  · rw [hs]
    exact (honly.trans (Only.setGrain _ _ _)).trans (Only.sec _ _ (by decide))

/-- The log once its waiting seal is taken. -/
def Grain.taken (g : Grain) : Grain := { g with sealWait := false, attWait := g.attWait.map fun x => { x with waited := true } }

theorem Chip.takeSeal_eq (c : Chip) : c.takeSeal = (c.setGrain c.grain.taken).startSeal := rfl

/-- A seal that falls due while the signer is free and nothing waits for it starts at once. -/
theorem Chip.sealDue_starts {c : Chip} (hw : c.awake = true) (he : c.erasing = false) (hj : c.grain.job = none) (ha : c.grain.attWait = [])
    (hr : c.grain.mainRoom = true) : ∃ g : Grain, g.nextSeq = c.grain.nextSeq ∧ g.sealSlot = c.grain.sealSlot ∧ g.mainRoom = true ∧
      c.sealDue = (c.setGrain g).startSeal := by
  obtain ⟨d, hd⟩ : ∃ d, d = c.setGrain { c.grain with sealWait := true } := ⟨_, rfl⟩
  have hg : d.grain = { c.grain with sealWait := true } := hd ▸ rfl
  have hdr : ∀ a, d.rd a = c.rd a := fun a => hd ▸ Chip.rd_setGrain _ _ a
  have hde : d.erasing = false := by
    rw [Chip.erasing, Chip.flag, Chip.fget, hdr]
    exact he
  have hset : d.setGrain d.grain.taken = c.setGrain d.grain.taken := by rw [hd]; rfl
  have hroom : d.grain.taken.mainRoom = true := by rw [hg]; exact hr
  obtain ⟨-, -, ⟨msg, hjob⟩, -, -⟩ := Chip.startSeal_says (c := c.setGrain d.grain.taken) (by rw [Chip.erasing, Chip.flag_setGrain]; exact he) hroom
  refine ⟨d.grain.taken, ?_, ?_, hroom, ?_⟩
  · rw [hg]
    rfl
  · rw [hg]
    rfl
  · have hready : d.sealReady = true := by
      rw [Chip.sealReady, hg, hde, Chip.awake_of_rd (hdr _) hw]
      rfl
    have hjob₀ : d.grain.job.isSome = false := by rw [hg]; simp [hj]
    have hwait : d.grain.attWait = [] := by rw [hg]; exact ha
    show (c.setGrain { c.grain with sealWait := true }).nextJob = _
    rw [← hd, Chip.nextJob, if_neg (by simp [hjob₀]), hwait]
    simp only [hready, Bool.and_self, reduceIte, Chip.takeSeal_eq, hset]
    rw [if_pos (by rw [hjob]; rfl)]

/-- A signer with nothing to do stays free. -/
theorem Chip.nextJob_idle {c : Chip} (hs : c.grain.sealWait = false) (ha : c.grain.attWait = []) : c.nextJob = c := by
  have hr : c.sealReady = false := by simp [Chip.sealReady, hs]
  unfold Chip.nextJob Chip.takeAttest
  simp [hr, ha]

/-- The log once a seal is signed. -/
def Grain.signed (g : Grain) (seq slot : Nat) (msg : List Byte) : Grain :=
  { g with job := none, lastSeal := seq, sig0 := if slot = 0 then msg else g.sig0, sig1 := if slot = 0 then g.sig1 else msg }

/-- The module once the signature of a seal is written. -/
def Chip.sealShown (c : Chip) (seq slot : Nat) (msg : List Byte) : Chip :=
  ((c.setGrain (c.grain.signed seq slot msg)).wr R.SEC_SEAL_SEQ (.ofNat 32 seq)).fset R.SEC_LOG_STATUS F.SEC_LOG_STATUS_SEALING 0

theorem Chip.sealDone_eq (c : Chip) (seq slot : Nat) (msg : List Byte) : c.sealDone seq slot msg = ((c.sealShown seq slot msg).raise 192).nextJob := rfl

/-- Without log commands and without an export nothing goes on. -/
theorem State.logPump_idle {s : State} (hx : s.chip.grain.exp = none) (hc : s.chip.cmds = []) : s.logPump = s := by
  have hrun : Chip.exportRun 4096 s.chip = s.chip := by
    rw [show 4096 = 4095 + 1 from rfl, Chip.exportRun, hx]
  have hnext : State.logNext 130 s = s := by
    rw [show 130 = 129 + 1 from rfl, State.logNext, hc]
    rfl
  unfold State.logPump
  split
  · rw [State.onChip, hrun]
    exact hnext
  · rfl

/-- The end of a signature for which nothing waits. -/
theorem State.jobDone_seal {s : State} {q sl : Nat} {msg : List Byte} (hj : s.chip.grain.job = some (.sealing q sl msg)) (hw : s.chip.awake = true)
    (hs : s.chip.grain.sealWait = false) (ha : s.chip.grain.attWait = []) (hx : s.chip.grain.exp = none) (hc : s.chip.cmds = []) :
    s.jobDone = { s with chip := (s.chip.sealShown q sl msg).raise 192 } := by
  have hn : Noted (s.chip.setGrain (s.chip.grain.signed q sl msg)) ((s.chip.sealShown q sl msg).raise 192) :=
    ((Noted.wr _ _ _).trans (Noted.fset _ _ _ _)).trans (Noted.raise _ _)
  have hg : ((s.chip.sealShown q sl msg).raise 192).grain = s.chip.grain.signed q sl msg := by rw [hn.grain, Chip.grain_setGrain]
  have hcmds : ((s.chip.sealShown q sl msg).raise 192).cmds = [] := by rw [hn.cmds]; exact hc
  have hidle : s.chip.sealDone q sl msg = (s.chip.sealShown q sl msg).raise 192 := by
    rw [Chip.sealDone_eq, Chip.nextJob_idle]
    · rw [hg]
      exact hs
    · rw [hg]
      exact ha
  unfold State.jobDone
  rw [if_neg (by simp [hw]), hj]
  show (s.onChip (·.sealDone q sl msg)).logPump = _
  rw [State.onChip, hidle, State.logPump_idle]
  · rw [hg]
    exact hx
  · exact hcmds

/-! ### The recorder of power die 3 (R467, R468) -/

/-- c' keeps what a trailing record of an entry leaves: the sealed channels, the low half of PWR_SEAL_STATUS, and the counts of all events but
those that the log and the queues raise. -/
structure EntryKept (c c' : Chip) : Prop where
  sealx : c'.sealx = c.sealx
  status : ∀ f : Fld, f.lo + f.w ≤ 16 → c'.fget R.PWR_SEAL_STATUS f = c.fget R.PWR_SEAL_STATUS f
  quiet : ∀ k, k < 256 → k ∉ tellEvents → c'.rd (R.EVR_CNT k) = c.rd (R.EVR_CNT k)

namespace EntryKept

variable {c c' c'' : Chip}

theorem refl (c : Chip) : EntryKept c c := ⟨rfl, fun _ _ => rfl, fun _ _ _ => rfl⟩
theorem trans (h : EntryKept c c') (h' : EntryKept c' c'') : EntryKept c c'' :=
  ⟨h'.sealx.trans h.sealx, fun f hf => (h'.status f hf).trans (h.status f hf), fun k hk hn => (h'.quiet k hk hn).trans (h.quiet k hk hn)⟩
theorem ite {p : Prop} [Decidable p] (h : EntryKept c c') (h' : EntryKept c c'') : EntryKept c (if p then c' else c'') := by
  split
  · exact h
  · exact h'
theorem told (h : Told [] c c') : EntryKept c c' :=
  ⟨h.field (·.sealx), fun f _ => congrArg f.get (h.rd (a := R.PWR_SEAL_STATUS) (by simp) (by decide) (by decide)), h.quiet⟩
theorem setBegun (c : Chip) (e : Nat) (b : Bool) : EntryKept c (c.setBegun e b) := ⟨rfl, fun _ _ => rfl, fun _ _ _ => rfl⟩
theorem setRecorded (c : Chip) (e : Nat) (b : Bool) : EntryKept c (c.setRecorded e b) := ⟨rfl, fun _ _ => rfl, fun _ _ _ => rfl⟩

/-- A register of an entry. -/
theorem wr (c : Chip) {a : Nat} (x : Word) (h : R.PWR_SEAL_STATUS < a) : EntryKept c (c.wr a x) := by
  refine ⟨rfl, fun f _ => Chip.fget_wr_ne c x f (by omega), fun k hk _ => Chip.rd_wr_ne c x ?_⟩
  simp only [R.PWR_SEAL_STATUS] at h
  simp only [R.EVR_CNT]
  omega
theorem entryCount (c : Chip) : EntryKept c c.entryCount := by
  obtain ⟨n, hn⟩ : ∃ n, c.entryCount = c.fset R.PWR_SEAL_STATUS F.PWR_SEAL_STATUS_ENTRIES n := ⟨_, rfl⟩
  rw [hn]
  refine ⟨(Noted.fset c _ _ _).field (·.sealx), fun f hf => ?_, fun k hk _ => Chip.rd_fset_ne c _ _ ?_⟩
  · exact Chip.fget_fset_field c R.PWR_SEAL_STATUS F.PWR_SEAL_STATUS_ENTRIES f _ (.inl hf) (by omega)
  · simp only [R.EVR_CNT, R.PWR_SEAL_STATUS]
    omega
theorem setEntry (c : Chip) (e typ : Nat) (isOpen : Bool) (pay : BitVec 128) : EntryKept c (c.setEntry e typ isOpen pay) := by
  have hk : EntryKept c (c.wr (R.PWR_SEAL_KIND e) (F.PWR_SEAL_KIND_VALID.put (F.PWR_SEAL_KIND_OPEN.put (F.PWR_SEAL_KIND_TYPE.of typ) isOpen.toNat) 1)) :=
    wr c _ (by simp only [R.PWR_SEAL_KIND, R.PWR_SEAL_STATUS]; omega)
  refine EntryKept.trans ?_ (entryCount _)
  refine List.foldlRecOn _ _ (motive := fun d => EntryKept c d) hk fun d hd w _ => hd.trans (wr d _ ?_)
  simp only [R.PWR_SEAL_DATA, R.PWR_SEAL_STATUS]
  omega
theorem logEntry (late : Bool) (c : Chip) (e : Nat) : EntryKept c (Chip.logEntry late c e) := told (Told.log c _ _ _)
theorem writeEntry (late : Bool) (c : Chip) (e : Nat) : EntryKept c (Chip.writeEntry late c e) := by
  have hbegin (p : Prop) [Decidable p] : EntryKept c (if p then Chip.logEntry late (c.setBegun e true) e else c) :=
    ite ((setBegun c e true).trans (logEntry late _ e)) (refl c)
  have hend (d : Chip) (p : Prop) [Decidable p] (pay : BitVec 128) : EntryKept d (if p then d.setEntry e 0x82 false pay else d) := ite (setEntry d _ _ _ _) (refl d)
  exact ite ((hbegin _).trans (ite (refl _) ((hend _ _ _).trans ((setRecorded _ e true).trans (logEntry late _ e))))) (refl c)
theorem setEntEnd (c : Chip) (x : Tbl (BitVec 128)) : EntryKept c { c with entEnd := x } := ⟨rfl, fun _ _ => rfl, fun _ _ _ => rfl⟩

end EntryKept

section
variable (c : Chip)

theorem Chip.rd_setSealX (ch : Nat) (x : SealX) (a : Nat) : (c.setSealX ch x).rd a = c.rd a := rfl

/-- The module once a flag of PWR_SEAL_STATUS has gone, with a sealed channel's new state, and the event is raised. -/
def Chip.sealEnded (c : Chip) (bit ch : Nat) (x : SealX) (ev : Nat) : Chip := ((c.fbit R.PWR_SEAL_STATUS (bitFld bit) false).setSealX ch x).raiseFrom 5 ev

theorem Chip.sealEnded_says {bit ch ev : Nat} (x : SealX) (hb : bit < 16) (hev : ev < 256) (hl : c.linkUp 5 = true) (hw : c.awake = true) :
    (c.sealEnded bit ch x ev).flag R.PWR_SEAL_STATUS (bitFld bit) = false ∧ (c.sealEnded bit ch x ev).sealX ch = x ∧
      (c.sealEnded bit ch x ev).rd (R.EVR_CNT ev) = .ofNat 32 (min 0xFFFFFFFF ((c.rd (R.EVR_CNT ev)).toNat + 1)) := by
  obtain ⟨b, hbb⟩ : ∃ b, b = c.fbit R.PWR_SEAL_STATUS (bitFld bit) false := ⟨_, rfl⟩
  obtain ⟨d, hd⟩ : ∃ d, d = b.setSealX ch x := ⟨_, rfl⟩
  have hdr : ∀ a, d.rd a = b.rd a := fun a => hd ▸ Chip.rd_setSealX _ _ _ a
  have hbr : ∀ a, a < R.PWR_SEAL_STATUS → b.rd a = c.rd a := fun a ha => hbb ▸ Chip.rd_fset_ne c _ _ (by omega)
  have hup : d.linkUp 5 = true := by
    rw [Chip.linkUp, Chip.flag, Chip.fget, hdr, hbr _ (by decide)]
    exact hl
  have he : c.sealEnded bit ch x ev = d.raise ev := by
    rw [Chip.sealEnded, ← hbb, ← hd]
    exact if_pos hup
  have hv : Served d (c.sealEnded bit ch x ev) := he ▸ Served.raise d hev
  refine ⟨?_, ?_, ?_⟩
  · rw [hv.flag_die _ (by decide), Chip.flag, Chip.fget, hdr, hbb]
    exact Chip.flag_fbit_self c _ _ _ (by simp only [bitFld]; omega) le_rfl
  · rw [hv.sealX, hd, Chip.sealX_setSealX_self]
  · rw [he, Chip.rd_raise_cnt (Chip.awake_of_rd ((hdr _).trans (hbr _ (by decide))) hw) hev, hdr, hbr]
    simp only [R.EVR_CNT, R.PWR_SEAL_STATUS]
    omega

end

/-- What an entry's records leave of the end that they tell of. -/
theorem EntryKept.ended {c d : Chip} (h : EntryKept c d) {bit ch ev : Nat} {x : SealX} {w : Word} (hb : bit < 16) (hev : ev < 256) (hn : ev ∉ tellEvents)
    (hc : c.flag R.PWR_SEAL_STATUS (bitFld bit) = false ∧ c.sealX ch = x ∧ c.rd (R.EVR_CNT ev) = w) :
    d.flag R.PWR_SEAL_STATUS (bitFld bit) = false ∧ d.rd (R.EVR_CNT ev) = w ∧ d.sealX ch = x := by
  obtain ⟨hf, hx, hr⟩ := hc
  refine ⟨?_, (h.quiet ev hev hn).trans hr, ?_⟩
  · rw [Chip.flag, h.status _ (by simp only [bitFld]; omega)]
    exact hf
  · rw [Chip.sealX, h.sealx]
    exact hx

/-! ### The load registers (R510) -/

theorem foldl_max_le (b : Nat) : ∀ (l : List Nat) (m : Nat), m ≤ b → (∀ v ∈ l, v ≤ b) → l.foldl max m ≤ b
  | [], _, hm, _ => hm
  | v :: l, _, hm, h => foldl_max_le b l _ (max_le hm (h v List.mem_cons_self)) fun w hw => h w (List.mem_cons_of_mem _ hw)
theorem le_foldl_max : ∀ (l : List Nat) (m : Nat), m ≤ l.foldl max m
  | [], _ => le_rfl
  | v :: l, m => (le_max_left m v).trans (le_foldl_max l _)

section
variable (c : Chip) (a u v : Nat)

/-- The two fields of a load register. -/
theorem Chip.load_fields (hu : u < 256) (hv : v < 256) :
    ((c.fset a F.SYS_LOAD_CMD_UTIL u).fset a F.SYS_LOAD_CMD_PEAK v).fget a F.SYS_LOAD_CMD_UTIL = u ∧
      ((c.fset a F.SYS_LOAD_CMD_UTIL u).fset a F.SYS_LOAD_CMD_PEAK v).fget a F.SYS_LOAD_CMD_PEAK = v := by
  rw [Chip.fget_fset_field _ _ _ _ _ (by decide) (by decide), Chip.fget_fset_self _ _ _ _ (by decide), Chip.fget_fset_self _ _ _ _ (by decide)]
  exact ⟨Nat.mod_eq_of_lt hu, Nat.mod_eq_of_lt hv⟩

end

/-- The windows of load k that its peak looks at, with the newest, and the module that holds them. -/
def Chip.loadSeen (c : Chip) (k util : Nat) : List Nat := (util :: Tbl.get (fun _ => []) c.loads k).take (peakWindows k)
def Chip.loadKept (c : Chip) (k util : Nat) : Chip := { c with loads := Tbl.set (fun _ => []) c.loads k (c.loadSeen k util) }

theorem Only.loadKept (l : List (Nat × Nat)) (c : Chip) (k util : Nat) : Only l c (c.loadKept k util) := Only.of_regs rfl

theorem Chip.loadWindow_command (c : Chip) (u : Nat) : c.loadWindow 0 u =
    ((c.loadKept 0 u).fset R.SYS_LOAD_CMD F.SYS_LOAD_CMD_UTIL u).fset R.SYS_LOAD_CMD F.SYS_LOAD_CMD_PEAK ((c.loadSeen 0 u).foldl max 0) := rfl
theorem Chip.loadWindow_fabric (c : Chip) (u : Nat) : c.loadWindow 1 u =
    ((c.loadKept 1 u).fset R.SYS_LOAD_FABRIC F.SYS_LOAD_CMD_UTIL u).fset R.SYS_LOAD_FABRIC F.SYS_LOAD_CMD_PEAK ((c.loadSeen 1 u).foldl max 0) := rfl

/-- The utilisations of links other than d leave those of d. -/
theorem Chip.linkUtils_rd {a : Nat} : ∀ (l : List (Nat × BitVec 8)) (c : Chip), (∀ x ∈ l, a ≠ R.SYS_LINK_UTIL (x.1 + 1)) →
    (l.foldl (fun c x => c.fset (R.SYS_LINK_UTIL (x.1 + 1)) F.SYS_LINK_UTIL_UTIL x.2.toNat) c).rd a = c.rd a
  | [], _, _ => rfl
  | x :: l, c, h => by
    rw [List.foldl_cons, Chip.linkUtils_rd l _ fun y hy => h y (List.mem_cons_of_mem _ hy), Chip.rd_fset_ne _ _ _ (h x List.mem_cons_self)]

theorem linkUtils_mem {l : List (BitVec 8)} {x : Nat × BitVec 8} (h : x ∈ (List.range 7).zip l) : x.1 < 7 := List.mem_range.mp (List.of_mem_zip h).1

/-- The links' utilisations: D1's is the first. -/
theorem Chip.linkUtils_says (c : Chip) (v : BitVec 8) (l : List (BitVec 8)) :
    (c.linkUtils (v :: l)).fget (R.SYS_LINK_UTIL 1) F.SYS_LINK_UTIL_UTIL = v.toNat ∧ (∀ a, 0x40000200 ≤ a → (c.linkUtils (v :: l)).rd a = c.rd a) ∧
      Only [Blk.sys] c (c.linkUtils (v :: l)) := by
  have hz : (List.range 7).zip (v :: l) = (0, v) :: ([1, 2, 3, 4, 5, 6] : List Nat).zip l := rfl
  refine ⟨?_, fun a ha => Chip.linkUtils_rd _ c fun x hx => ?_, fun a ha => Chip.linkUtils_rd _ c fun x hx => ?_⟩
  · rw [Chip.linkUtils, hz, List.foldl_cons, Chip.fget, Chip.linkUtils_rd, ← Chip.fget, Chip.fget_fset_self _ _ _ _ (by decide)]
    · exact Nat.mod_eq_of_lt v.isLt
    · intro x hx
      have h₁ : ∀ n ∈ [1, 2, 3, 4, 5, 6], 1 ≤ n := by decide
      have h₂ := h₁ _ (List.of_mem_zip hx).1
      simp only [R.SYS_LINK_UTIL]
      omega
  · have := linkUtils_mem hx
    simp only [R.SYS_LINK_UTIL]
    omega
  · have h₁ := linkUtils_mem hx
    have h₂ := ha Blk.sys (by simp)
    simp only [Blk.sys] at h₂
    simp only [R.SYS_LINK_UTIL]
    omega

/-! ### Entries that the supervisor frees (R467) -/

/-- The descriptor of PWR_SEAL_ACK. -/
def sealAckDesc : RegDesc := ⟨.PWR_SEAL_ACK, 0x403C0B04, [], 0, 0, 0, 0xFFFF, 0, 0⟩

theorem findReg_sealAck : findReg R.PWR_SEAL_ACK = some (sealAckDesc, []) := rfl

theorem Chip.regWrite_sealAck (c : Chip) (x : Word) : ∃ w, c.regWrite .sup R.PWR_SEAL_ACK x = (c.wr R.PWR_SEAL_ACK w).freeEntries x.toNat := by
  have h : c.regWrite .sup R.PWR_SEAL_ACK x = c.plainWrite .sup sealAckDesc [] R.PWR_SEAL_ACK x := by
    simp [Chip.regWrite, findReg_sealAck, sealAckDesc, writerOk_sup, ctrHalf]
  exact ⟨_, h.trans (Chip.plainWrite_unlocked rfl rfl rfl)⟩

/-- The registers of the entries stand apart from the order token and from one another. -/
theorem sealEntry_token (e w : Nat) : R.PWR_SEAL_KIND e ≠ tokenAddr (dieOf R.PWR_SEAL_ACK) ∧ R.PWR_SEAL_DATA e w ≠ tokenAddr (dieOf R.PWR_SEAL_ACK) := by
  have h : tokenAddr (dieOf R.PWR_SEAL_ACK) < 0x403C0C00 := by decide
  simp only [R.PWR_SEAL_KIND, R.PWR_SEAL_DATA]
  omega

/-- An entry's kind after the entries of a list are freed. -/
theorem Chip.freed_kind (e : Nat) : ∀ (l : List Nat) (c : Chip),
    (l.foldl (fun c e => c.wr (R.PWR_SEAL_KIND e) 0) c).rd (R.PWR_SEAL_KIND e) = if e ∈ l then 0 else c.rd (R.PWR_SEAL_KIND e)
  | [], _ => rfl
  | x :: l, c => by
    rw [List.foldl_cons, Chip.freed_kind e l]
    by_cases h : e = x
    · subst h
      rw [Chip.rd_wr_self]
      simp
    · rw [Chip.rd_wr_ne _ _ (by simp only [R.PWR_SEAL_KIND]; omega)]
      simp [h]

theorem Chip.freed_other {a : Nat} (h : ∀ e, a ≠ R.PWR_SEAL_KIND e) (l : List Nat) (c : Chip) :
    (l.foldl (fun c e => c.wr (R.PWR_SEAL_KIND e) 0) c).rd a = c.rd a :=
  List.foldlRecOn _ _ (motive := fun d => Chip.rd d a = c.rd a) rfl fun d hd e _ => by rw [Chip.rd_wr_ne _ _ (h e), hd]

theorem Chip.freeEntries_rd (c : Chip) (mask : Nat) {a : Nat} (h : a ≠ R.PWR_SEAL_STATUS) :
    (c.freeEntries mask).rd a = (((List.range 16).filter mask.testBit).foldl (fun c e => c.wr (R.PWR_SEAL_KIND e) 0) c).rd a := Chip.rd_fset_ne _ _ _ h

/-- Settles O54: a seal that starts or is signed is the log's own, an end of the recorder one flag and its event, and a load its register. -/
theorem theLogIsSealedAndTheRecorderWorks : Obligations.TheLogIsSealedAndTheRecorderWorks := by
  unfold Obligations.TheLogIsSealedAndTheRecorderWorks
  refine ⟨?due, ?notDue, ?signed, ?interruption, ?bypass, ?noBypass, ?ack, ?command, ?fabric⟩
  case due =>
    intro s ⟨hd, hw, he⟩ ⟨hj, ha, hr⟩
    obtain ⟨g, hseq, hslot, hroom, hdue⟩ := Chip.sealDue_starts hw he hj ha hr
    obtain ⟨hn, hrec, ⟨msg, hjob⟩, hflag, honly⟩ := Chip.startSeal_says (c := s.chip.setGrain g) (by rw [Chip.erasing, Chip.flag_setGrain]; exact he) hroom
    rw [Chip.grain_setGrain] at hn hrec hjob
    rw [hseq] at hn hrec hjob
    refine ⟨_, State.next_chip ((if_pos ⟨hd, hw⟩).trans hdue), hn, hrec, ?_, hflag, (Only.setGrain _ _ _).trans honly⟩
    rw [hjob, hslot]
    simp
  case notDue =>
    intro s h
    refine State.next_chip (if_neg fun hp => ?_)
    rcases h with h | h
    · rw [h] at hp
      exact absurd hp.1 (by decide)
    · rw [h] at hp
      exact absurd hp.2 (by decide)
  case signed =>
    intro q sl msg s ⟨hj, hw⟩ ⟨hs, ha, hx, hc⟩
    obtain ⟨d, hd⟩ : ∃ d, d = s.chip.sealShown q sl msg := ⟨_, rfl⟩
    have he := State.jobDone_seal hj hw hs ha hx hc
    rw [← hd] at he
    have hv : Served d (d.raise 192) := Served.raise d (by decide)
    have hg : d.grain = s.chip.grain.signed q sl msg := by
      rw [hd, Chip.sealShown, ((Noted.wr _ _ _).trans (Noted.fset _ _ _ _)).grain, Chip.grain_setGrain]
    have hrd : ∀ a, a ≠ R.SEC_SEAL_SEQ → a ≠ R.SEC_LOG_STATUS → d.rd a = s.chip.rd a := by
      intro a h₁ h₂
      rw [hd, Chip.sealShown, Chip.rd_fset_ne _ _ _ h₂, Chip.rd_wr_ne _ _ h₁, Chip.rd_setGrain]
    refine ⟨_, congrArg Host.Outcome.next he, ?_, ?_, ?_, ?_, ?_, ?_⟩
    · rw [hv.rd_die (by decide), hd, Chip.sealShown, Chip.rd_fset_ne _ _ _ (by decide), Chip.rd_wr_self]
    · rw [hv.flag_die _ (by decide), hd, Chip.sealShown, Chip.flag, Chip.fget_fset_self _ _ _ _ (by decide)]
      rfl
    · rw [Chip.rd_raise_cnt (Chip.awake_of_rd (hrd _ (by decide) (by decide)) hw) (by decide), hrd _ (by decide) (by decide)]
    · rw [hv.grain, hg]
      rfl
    · rw [hv.grain, hg]
      rfl
    · have ho : Only [Blk.sec] s.chip d := by
        rw [hd, Chip.sealShown]
        exact ((Only.setGrain _ _ _).trans (Only.sec _ _ (by decide))).trans (Only.sec _ _ (by decide))
      exact (ho.mono (by simp)).trans (hv.blocks.mono (by simp))
  case interruption =>
    intro k m lim s hdr ⟨hf, hl, hw⟩
    obtain ⟨pay, he⟩ : ∃ pay, s.chip.interruptEnd (188 + k) m.toNat lim =
        (let c := s.chip.sealEnded k (188 + k) { s.chip.sealX (188 + k) with entry := none } 199
         match (s.chip.sealX (188 + k)).entry with
         | some e =>
           if c.begun e then (c.setEntry e 0x82 false pay).writeEntry false e
           else ({ c with entEnd := Tbl.set (fun _ => 0) c.entEnd e pay }.fset (R.PWR_SEAL_KIND e) F.PWR_SEAL_KIND_OPEN 0).writeEntry true e
         | none => c) := by
      have hk : 188 + k.val - 188 = k := Nat.add_sub_cancel_left _ _
      unfold Chip.interruptEnd
      rw [hk]
      exact ⟨_, if_pos hf⟩
    obtain ⟨c, hc⟩ : ∃ c, c = s.chip.sealEnded k (188 + k) { s.chip.sealX (188 + k) with entry := none } 199 := ⟨_, rfl⟩
    have hsays := Chip.sealEnded_says s.chip (bit := k) (ch := 188 + k) { s.chip.sealX (188 + k) with entry := none } (ev := 199) (by omega) (by decide) hl hw
    rw [← hc] at he hsays
    have hkept : EntryKept c (s.chip.interruptEnd (188 + k) m.toNat lim) := by
      rw [he]
      cases (s.chip.sealX (188 + k)).entry with
      | none => exact EntryKept.refl c
      | some e =>
        refine EntryKept.ite ((EntryKept.setEntry c _ _ _ _).trans (EntryKept.writeEntry _ _ _)) ?_
        refine ((EntryKept.setEntEnd c _).trans (EntryKept.wr _ _ ?_)).trans (EntryKept.writeEntry _ _ _)
        simp only [R.PWR_SEAL_KIND, R.PWR_SEAL_STATUS]
        omega
    obtain ⟨hflag, hev, hx⟩ := hkept.ended (by omega) (by decide) (by decide) hsays
    exact ⟨_, State.next_chip (if_pos hdr), hflag, hev, congrArg SealX.entry hx⟩
  case bypass =>
    intro k h a lim pl s ⟨hb, hl, hw⟩
    obtain ⟨t, ht⟩ := Option.ne_none_iff_exists'.mp hb
    obtain ⟨pay, he⟩ : ∃ pay, s.chip.bypassEnd (188 + k) h.toNat a.toNat lim pl =
        (let c := s.chip.sealEnded (4 + k) (188 + k) { s.chip.sealX (188 + k) with byStart := none, byEntry := none } 200
         match (s.chip.sealX (188 + k)).byEntry with
         | some e => (c.setEntry e 0x83 false pay).writeEntry false e
         | none => c) := by
      have hk : 4 + (188 + k.val) - 188 = 4 + k := by omega
      unfold Chip.bypassEnd
      rw [hk]
      simp only [ht]
      exact ⟨_, rfl⟩
    obtain ⟨c, hc⟩ : ∃ c, c = s.chip.sealEnded (4 + k) (188 + k) { s.chip.sealX (188 + k) with byStart := none, byEntry := none } 200 := ⟨_, rfl⟩
    have hsays := Chip.sealEnded_says s.chip (bit := 4 + k) (ch := 188 + k) { s.chip.sealX (188 + k) with byStart := none, byEntry := none } (ev := 200)
      (by omega) (by decide) hl hw
    rw [← hc] at he hsays
    have hkept : EntryKept c (s.chip.bypassEnd (188 + k) h.toNat a.toNat lim pl) := by
      rw [he]
      cases (s.chip.sealX (188 + k)).byEntry with
      | none => exact EntryKept.refl c
      | some e => exact (EntryKept.setEntry c _ _ _ _).trans (EntryKept.writeEntry _ _ _)
    obtain ⟨hflag, hev, hx⟩ := hkept.ended (by omega) (by decide) (by decide) hsays
    exact ⟨_, rfl, hflag, hev, congrArg SealX.byStart hx⟩
  case noBypass =>
    intro k h a lim pl s hb
    refine State.next_chip ?_
    simp only [Chip.bypassEnd, hb]
  case ack =>
    intro data s h
    obtain ⟨c, hc, hw⟩ := State.write_travels data h (by decide) (by decide)
    obtain ⟨w, hreg⟩ := Chip.regWrite_sealAck c data
    rw [hreg] at hw
    have hkind : ∀ e, ((c.wr R.PWR_SEAL_ACK w).freeEntries data.toNat).rd (R.PWR_SEAL_KIND e) =
        if e ∈ (List.range 16).filter data.toNat.testBit then 0 else s.chip.rd (R.PWR_SEAL_KIND e) := by
      intro e
      rw [Chip.freeEntries_rd _ _ (by simp only [R.PWR_SEAL_KIND, R.PWR_SEAL_STATUS]; omega), Chip.freed_kind,
        Chip.rd_wr_ne _ _ (by simp only [R.PWR_SEAL_KIND, R.PWR_SEAL_ACK]; omega), hc.rd (sealEntry_token e 0).1]
    have hdata : ∀ e, ∀ w' < 4, ((c.wr R.PWR_SEAL_ACK w).freeEntries data.toNat).rd (R.PWR_SEAL_DATA e w') = s.chip.rd (R.PWR_SEAL_DATA e w') := by
      intro e w' hw'
      rw [Chip.freeEntries_rd _ _ (by simp only [R.PWR_SEAL_DATA, R.PWR_SEAL_STATUS]; omega),
        Chip.freed_other (fun k => by simp only [R.PWR_SEAL_DATA, R.PWR_SEAL_KIND]; omega),
        Chip.rd_wr_ne _ _ (by simp only [R.PWR_SEAL_DATA, R.PWR_SEAL_ACK]; omega), hc.rd (sealEntry_token e w').2]
    refine ⟨_, congrArg Host.Outcome.next hw, fun e he => ?_, fun e he hn => ⟨?_, ?_⟩⟩
    · rw [Chip.entryValid, Chip.flag, Chip.fget, hkind]
      cases hb : data.toNat.testBit e with
      | true =>
        rw [if_pos (by simp [he, hb]), Bool.not_true, Bool.and_false]
        rfl
      | false =>
        rw [if_neg (by simp [hb])]
        simp [Chip.entryValid, Chip.flag, Chip.fget]
    · rw [hkind, if_neg (by simp [hn])]
    · rw [Chip.entryPay, hdata e 3 (by decide), hdata e 2 (by decide), hdata e 1 (by decide), hdata e 0 (by decide), Chip.entryPay]
  case command =>
    intro u l s hw hl
    have hmem : ∀ v ∈ Tbl.get (fun _ => []) s.chip.loads 0, v ≤ 255 := fun v hv => by
      have := List.all_eq_true.mp hl v hv
      simp only [decide_eq_true_eq] at this
      omega
    have hmax : (s.chip.loadSeen 0 u.toNat).foldl max 0 < 256 := by
      refine Nat.lt_succ_of_le (foldl_max_le 255 _ _ (by decide) fun v hv => ?_)
      rcases List.mem_cons.mp (List.mem_of_mem_take hv) with rfl | hv
      · exact Nat.le_of_lt_succ u.isLt
      · exact hmem v hv
    have hu : u.toNat ≤ (s.chip.loadSeen 0 u.toNat).foldl max 0 := by
      rw [Chip.loadSeen, show peakWindows 0 = 999 + 1 from rfl, List.take_succ_cons, List.foldl_cons]
      exact (le_max_right _ _).trans (le_foldl_max _ _)
    obtain ⟨hutil, hpeak⟩ := Chip.load_fields (s.chip.loadKept 0 u.toNat) R.SYS_LOAD_CMD u.toNat _ u.isLt hmax
    refine ⟨_, State.next_chip ((if_neg (by simp [hw])).trans ((if_neg (by decide)).trans (Chip.loadWindow_command s.chip u.toNat))), hutil,
      hu.trans (le_of_eq hpeak.symm), ((Only.loadKept _ _ _ _).trans (Only.fset _ _ _ _ ?_)).trans (Only.fset _ _ _ _ ?_)⟩
    all_goals exact ⟨_, List.mem_singleton_self _, by decide⟩
  case fabric =>
    intro u v l s hw
    obtain ⟨d, hd⟩ : ∃ d, d = s.chip.loadWindow 1 u.toNat := ⟨_, rfl⟩
    obtain ⟨hv, hrd, honly⟩ := Chip.linkUtils_says d v l
    refine ⟨_, State.next_chip ((if_neg (by simp [hw])).trans ((if_pos rfl).trans (congrArg (Chip.linkUtils · (v :: l)) hd.symm))), ?_, hv, ?_⟩
    · rw [Chip.fget, hrd _ (by decide), ← Chip.fget, hd, Chip.loadWindow_fabric, Chip.fget_fset_field _ _ _ _ _ (by decide) (by decide), Chip.fget_fset_self _ _ _ _ (by decide)]
      exact Nat.mod_eq_of_lt u.isLt
    · have hdo : Only [Blk.sys] s.chip d := by
        rw [hd, Chip.loadWindow_fabric]
        exact ((Only.loadKept _ _ _ _).trans (Only.fset _ _ _ _ ⟨Blk.sys, by simp, by decide⟩)).trans (Only.fset _ _ _ _ ⟨Blk.sys, by simp, by decide⟩)
      exact hdo.trans honly

end Sys2Proof.Machine
end

section
/-! SUPPORT. Which fields of the power dies' registers the operations of a start, a period and a grant write
(R102 to R112). -/

namespace Sys2Proof.Machine
open Sys2Proof

/-- Two fields of a word share no bit. -/
abbrev Apart (f g : Fld) : Prop := g.lo + g.w ≤ f.lo ∨ f.lo + f.w ≤ g.lo

/-- The whole word. -/
def wholeFld : Fld := ⟨0, 32⟩
theorem get_wholeFld (x : Word) : wholeFld.get x = x.toNat := by
  have : x.toNat < 4294967296 := x.isLt
  simpa [Fld.get, wholeFld] using Nat.mod_eq_of_lt this

/-- Of the power dies' registers only fields that W names may have changed. -/
def Spares (W : Nat × Fld → Prop) (c c' : Chip) : Prop :=
  ∀ a f, 0x40200000 ≤ a → a < 0x40400000 → f.lo + f.w ≤ 32 → (∀ g, W (a, g) → Apart f g) → c'.fget a f = c.fget a f

namespace Spares

variable {W W' : Nat × Fld → Prop} {c c' c'' : Chip}

theorem of_regs (h : c'.regs = c.regs) : Spares W c c' := fun a f _ _ _ _ => by rw [Chip.fget, Chip.fget, Chip.rd, Chip.rd, h]
theorem refl (c : Chip) : Spares W c c := of_regs rfl
theorem trans (h : Spares W c c') (h' : Spares W c' c'') : Spares W c c'' :=
  fun a f h₁ h₂ h₃ h₄ => (h' a f h₁ h₂ h₃ h₄).trans (h a f h₁ h₂ h₃ h₄)
theorem mono (h : Spares W c c') (hw : ∀ p, W p → W' p) : Spares W' c c' :=
  fun a f h₁ h₂ h₃ h₄ => h a f h₁ h₂ h₃ fun g hg => h₄ g (hw _ hg)
theorem ite {p : Prop} [Decidable p] (h : p → Spares W c c') (h' : ¬ p → Spares W c c'') : Spares W c (if p then c' else c'') := by
  split
  · exact h ‹_›
  · exact h' ‹_›
theorem foldl {α : Type} {f : Chip → α → Chip} {xs : List α} (h : ∀ x ∈ xs, ∀ c, Spares W c (f c x)) (c : Chip) :
    Spares W c (xs.foldl f c) := by
  induction xs generalizing c with
  | nil => exact refl c
  | cons x xs ih => exact (h x (by simp) c).trans (ih (fun y hy => h y (by simp [hy])) _)

theorem fset (c : Chip) {a : Nat} {g : Fld} (v : Nat) (h : W (a, g)) : Spares W c (c.fset a g v) := by
  intro b f _ _ hf hw
  by_cases hb : b = a
  · subst hb
    exact Chip.fget_fset_field c b g f v (Or.symm (hw g h)) hf
  · exact Chip.fget_fset_ne c g f v hb
theorem fbit (c : Chip) {a : Nat} {g : Fld} (b : Bool) (h : W (a, g)) : Spares W c (c.fbit a g b) := fset c _ h
theorem fbump (c : Chip) {a : Nat} {g : Fld} (h : W (a, g)) : Spares W c (c.fbump a g) := fset c _ h
theorem wr (c : Chip) {a : Nat} (x : Word) (h : W (a, wholeFld)) : Spares W c (c.wr a x) := by
  intro b f _ _ hf hw
  by_cases hb : b = a
  · subst hb
    have h0 := hw _ h
    have : f.w = 0 := by
      simp only [Apart, wholeFld] at h0
      omega
    simp [Chip.fget, Fld.get, this, Nat.mod_one]
  · exact Chip.fget_wr_ne c x f hb
theorem bump (c : Chip) {a : Nat} (n : Nat) (h : W (a, wholeFld)) : Spares W c (c.bump a n) := wr c _ h
theorem served (h : Served c c') : Spares W c c' := fun _ f h₁ _ _ _ => h.fget_die f (by omega)

/-- A field of a register of which the whole is in W. -/
theorem fset_whole (c : Chip) {a : Nat} (g : Fld) (v : Nat) (h : W (a, wholeFld)) : Spares W c (c.fset a g v) := wr c _ h
theorem rd (h : Spares W c c') {a : Nat} (h₁ : 0x40200000 ≤ a) (h₂ : a < 0x40400000) (hw : ∀ g, ¬ W (a, g)) : c'.rd a = c.rd a := by
  have := h a wholeFld h₁ h₂ (by decide) fun g hg => absurd hg (hw g)
  simp only [Chip.fget, get_wholeFld] at this
  exact BitVec.eq_of_toNat_eq this

end Spares

/-! ### What a start writes -/

/-- What a grant writes after the channel has entered STARTING. -/
def runFields (ch : Nat) : List (Nat × Fld) :=
  [(R.CH_STATUS ch, F.CH_STATUS_DUTY_LIMITED), (R.CH_PROT_STATUS ch, F.CH_PROT_STATUS_BYPASS_ON), (R.CH_LID_RESULT ch, wholeFld),
    (R.PWR_LID_SKIP_CNT (pdie ch), wholeFld), (R.PWR_HK_STATUS (pdie ch), wholeFld), (R.PWR_TDR_STATUS (pdie ch), wholeFld)]

/-- What it writes before. -/
def readyFields (ch : Nat) : List (Nat × Fld) :=
  [(R.CH_STATUS ch, F.CH_STATUS_CAUSE), (R.CH_STATUS ch, F.CH_STATUS_PENDING_GRANT), (R.CH_STATUS ch, F.CH_STATUS_PROFILE_FALLBACK),
    (R.CH_PROT_STATUS ch, F.CH_PROT_STATUS_RETRY_NUM), (R.CH_START_CNT ch, wholeFld)]

/-- The fields of channel ch, and the registers of its die, that a grant writes. -/
def startFields (ch : Nat) : List (Nat × Fld) :=
  readyFields ch ++ [(R.CH_STATUS ch, F.CH_STATUS_STATE), (R.CH_PROT_STATUS ch, F.CH_PROT_STATUS_HOLD_SUB)] ++ runFields ch

/-- R109, R100, R103: the grant of a start, up to the state STARTING. -/
def Chip.readied (c : Chip) (ch : Nat) : Chip :=
  let n := pdie ch
  let k := c.startProfile ch
  let fb := c.profileSegs n (c.fget (R.CH_ACTIVE_CFG ch) F.CH_ACTIVE_CFG_PROFILE) = []
  let retry := c.chRun ch = .cooldown ∧ c.fget (R.CH_STATUS ch) F.CH_STATUS_CAUSE ≠ 9 ∧ c.fget (R.CH_STATUS ch) F.CH_STATUS_CAUSE ≠ 10
  let x := { c.chan ch with segs := c.profileSegs n k, env := c.fget (R.IP_HDR n k) F.IP_HDR_ENV_FACTOR, boDone := false }
  let c := c.setReqs n (dropReq ch (c.die n).reqs) |>.setChan ch x
  (if retry then c.fbump (R.CH_PROT_STATUS ch) F.CH_PROT_STATUS_RETRY_NUM else c).fset (R.CH_STATUS ch) F.CH_STATUS_PENDING_GRANT 0
    |>.fset (R.CH_STATUS ch) F.CH_STATUS_CAUSE 0 |>.fbit (R.CH_STATUS ch) F.CH_STATUS_PROFILE_FALLBACK fb |>.bump (R.CH_START_CNT ch)

/-- What follows: the first period, a bypass that opens, a load identification, and a sealed channel's time. -/
def Chip.runStart (c : Chip) (ch : Nat) : Chip :=
  let c := if c.runMode ch = 2 then c.newPeriod ch (c.phaseDelay ch) else c
  ((if 190 ≤ ch then c.fset (R.CH_PROT_STATUS ch) F.CH_PROT_STATUS_BYPASS_ON 0 else c).lidStart ch (c.runMode ch)).sealDrive ch

theorem Chip.grant_eq (c : Chip) (ch : Nat) : c.grant ch = ((c.readied ch).setChRun ch .starting).runStart ch := rfl

namespace Spares

variable {W : Nat × Fld → Prop} {ch n : Nat}

theorem setHoldSub (c : Chip) (x : ChState) (h : W (R.CH_PROT_STATUS ch, F.CH_PROT_STATUS_HOLD_SUB)) : Spares W c (c.setHoldSub ch x) := fset c _ h
theorem setChan (c : Chip) (ch : Nat) (x : ChanX) : Spares W c (c.setChan ch x) := of_regs rfl
theorem setDie (c : Chip) (n : Nat) (x : DieX) : Spares W c (c.setDie n x) := of_regs rfl
theorem setChState (c : Chip) (x : ChState) (h : W (R.CH_STATUS ch, F.CH_STATUS_STATE)) : Spares W c (c.setChState ch x) :=
  (ite (fun _ => refl c) fun _ => setChan c ch _).trans (fset _ _ h)
theorem setChRun (c : Chip) (x : ChState) (h : W (R.CH_PROT_STATUS ch, F.CH_PROT_STATUS_HOLD_SUB)) (h' : W (R.CH_STATUS ch, F.CH_STATUS_STATE)) :
    Spares W c (c.setChRun ch x) := ite (fun _ => setHoldSub c x h) fun _ => setChState c x h'
theorem newPeriod (c : Chip) (d : Nat) (h : W (R.CH_STATUS ch, F.CH_STATUS_DUTY_LIMITED)) : Spares W c (c.newPeriod ch d) :=
  (setChan c ch _).trans (fbit _ _ h)
theorem updateHk (c : Chip) (l : Nat) (h : W (R.PWR_HK_STATUS n, wholeFld)) : Spares W c (c.updateHk n l) :=
  ((fset_whole c _ _ h).trans (fset_whole _ _ _ h)).trans (fset_whole _ _ _ h)
theorem tdrPause (c : Chip) (h : W (R.PWR_HK_STATUS n, wholeFld)) (h' : W (R.PWR_TDR_STATUS n, wholeFld)) : Spares W c (c.tdrPause n) :=
  ite (fun _ => (fset_whole c _ _ h').trans (updateHk _ _ h)) fun _ => refl c
theorem startCmds (c : Chip) (p : Cmd → Bool) : Spares W c (c.startCmds p) := of_regs rfl
theorem lidStart (c : Chip) (m : Nat) (h : W (R.CH_LID_RESULT ch, wholeFld)) (hn : ∀ p ∈ [R.PWR_LID_SKIP_CNT (pdie ch), R.PWR_HK_STATUS (pdie ch),
    R.PWR_TDR_STATUS (pdie ch)], W (p, wholeFld)) : Spares W c (c.lidStart ch m) := by
  simp only [List.forall_mem_cons, pdie] at hn
  obtain ⟨hs, hh, ht, -⟩ := hn
  refine ite (fun _ => ite (fun _ => (fset_whole c _ _ h).trans (bump _ 1 hs)) fun _ => ?_) fun _ => refl c
  exact (((((setChan c ch _).trans (fset_whole _ _ _ h)).trans (fset_whole _ _ _ h)).trans (updateHk _ _ hh)).trans
    (tdrPause _ hh ht)).trans (startCmds _ _)
theorem sealDrive (c : Chip) (ch : Nat) : Spares W c (c.sealDrive ch) := ite (fun _ => of_regs rfl) fun _ => refl c

theorem readied (c : Chip) (ch : Nat) : Spares (· ∈ readyFields ch) c (c.readied ch) := by
  unfold Chip.readied
  exact ((((((setDie c _ _).trans (setChan _ _ _)).trans (ite (fun _ => fbump _ (by simp [readyFields])) fun _ => refl _)).trans
    (fset _ _ (by simp [readyFields]))).trans (fset _ _ (by simp [readyFields]))).trans (fbit _ _ (by simp [readyFields]))).trans
      (bump _ 1 (by simp [readyFields]))

theorem runStart (c : Chip) (ch : Nat) : Spares (· ∈ runFields ch) c (c.runStart ch) := by
  unfold Chip.runStart
  exact (((ite (fun _ => newPeriod _ _ (by simp [runFields])) fun _ => refl _).trans
    (ite (fun _ => fset _ _ (by simp [runFields])) fun _ => refl _)).trans
    (lidStart _ _ (by simp [runFields]) (by simp [runFields]))).trans (sealDrive _ ch)

/-- A grant writes the channel's start fields alone. -/
theorem grant (c : Chip) (ch : Nat) : Spares (· ∈ startFields ch) c (c.grant ch) :=
  (((readied c ch).mono fun _ h => List.mem_append_left _ (List.mem_append_left _ h)).trans
    (setChRun _ _ (by simp) (by simp))).trans ((runStart _ ch).mono fun _ h => List.mem_append_right _ h)

end Spares

end Sys2Proof.Machine
end

section
/-! SUPPORT. The states of a channel, and what the arrival of one start request leads to (R99, R108 to R113). -/

namespace Sys2Proof.Machine
open Sys2Proof

@[simp] theorem ChState.ofCode_code (x : ChState) : ChState.ofCode x.code = x := by cases x <;> rfl
theorem ChState.code_lt (x : ChState) : x.code < 16 := by cases x <;> decide

theorem chReg_lo (ch o : Nat) : 0x40200000 ≤ chBase ch + o := by
  unfold chBase
  omega
theorem chReg_hi {ch o : Nat} (h : ch < 192) (ho : o < 0x100) : chBase ch + o < 0x40400000 := by
  unfold chBase
  omega

@[simp] theorem Chip.rd_setChan (c : Chip) (ch : Nat) (x : ChanX) (a : Nat) : (c.setChan ch x).rd a = c.rd a := rfl
@[simp] theorem Chip.fget_setChan (c : Chip) (ch : Nat) (x : ChanX) (a : Nat) (f : Fld) : (c.setChan ch x).fget a f = c.fget a f := rfl
@[simp] theorem Chip.flag_setChan (c : Chip) (ch : Nat) (x : ChanX) (a : Nat) (f : Fld) : (c.setChan ch x).flag a f = c.flag a f := rfl
@[simp] theorem Chip.rd_setDie (c : Chip) (n : Nat) (x : DieX) (a : Nat) : (c.setDie n x).rd a = c.rd a := rfl
@[simp] theorem Chip.fget_setDie (c : Chip) (n : Nat) (x : DieX) (a : Nat) (f : Fld) : (c.setDie n x).fget a f = c.fget a f := rfl

/-! ### States -/

/-- What a channel's state, its hold and its running state are read from. -/
theorem Spares.state {W : Nat × Fld → Prop} {c c' : Chip} {ch : Nat} (h : Spares W c c') (hch : ch < 192)
    (hw : ∀ g, W (R.CH_STATUS ch, g) → Apart F.CH_STATUS_STATE g) : c'.chState ch = c.chState ch :=
  congrArg ChState.ofCode (h _ _ (chReg_lo _ _) (chReg_hi hch (by decide)) (by decide) hw)

theorem Chip.chState_setChState (c : Chip) (ch : Nat) (x : ChState) : (c.setChState ch x).chState ch = x := by
  rw [Chip.setChState, Chip.chState, Chip.fget_fset_self _ _ _ _ (by decide)]
  exact (congrArg ChState.ofCode (Nat.mod_eq_of_lt (ChState.code_lt x))).trans (ChState.ofCode_code x)
theorem Chip.chRun_of_not_inHold {c : Chip} {ch : Nat} (h : c.inHold ch = false) : c.chRun ch = c.chState ch := by simp [Chip.chRun, h]
theorem Chip.setChRun_of_not_inHold {c : Chip} {ch : Nat} (h : c.inHold ch = false) (x : ChState) : c.setChRun ch x = c.setChState ch x := by
  simp [Chip.setChRun, h]
theorem Chip.inHold_eq {c : Chip} {ch : Nat} {x : ChState} (h : c.chState ch = x) : c.inHold ch = (x == .held || x == .limp) := by
  rw [Chip.inHold, h]

/-! ### What is no register -/

section
variable (c : Chip) (a : Nat) (f : Fld)
@[simp] theorem Chip.dies_wr (x : Word) : (c.wr a x).dies = c.dies := (rfl)
@[simp] theorem Chip.dies_fset (v : Nat) : (c.fset a f v).dies = c.dies := (rfl)
@[simp] theorem Chip.dies_fbit (b : Bool) : (c.fbit a f b).dies = c.dies := (rfl)
@[simp] theorem Chip.dies_bump (n : Nat) : (c.bump a n).dies = c.dies := (rfl)
@[simp] theorem Chip.dies_fbump : (c.fbump a f).dies = c.dies := (rfl)
@[simp] theorem Chip.dies_fbumpWrap : (c.fbumpWrap a f).dies = c.dies := (rfl)
@[simp] theorem Chip.dies_setChan (ch : Nat) (x : ChanX) : (c.setChan ch x).dies = c.dies := (rfl)
@[simp] theorem Chip.dies_setSealX (ch : Nat) (x : SealX) : (c.setSealX ch x).dies = c.dies := (rfl)
@[simp] theorem Chip.dies_startCmds (p : Cmd → Bool) : (c.startCmds p).dies = c.dies := (rfl)
@[simp] theorem Chip.chans_wr (x : Word) : (c.wr a x).chans = c.chans := (rfl)
@[simp] theorem Chip.chans_fset (v : Nat) : (c.fset a f v).chans = c.chans := (rfl)
@[simp] theorem Chip.chans_fbit (b : Bool) : (c.fbit a f b).chans = c.chans := (rfl)
@[simp] theorem Chip.chans_bump (n : Nat) : (c.bump a n).chans = c.chans := (rfl)
@[simp] theorem Chip.chans_fbump : (c.fbump a f).chans = c.chans := (rfl)
@[simp] theorem Chip.chans_fbumpWrap : (c.fbumpWrap a f).chans = c.chans := (rfl)
@[simp] theorem Chip.chans_setDie (n : Nat) (x : DieX) : (c.setDie n x).chans = c.chans := (rfl)
@[simp] theorem Chip.chans_setSealX (ch : Nat) (x : SealX) : (c.setSealX ch x).chans = c.chans := (rfl)
@[simp] theorem Chip.chans_startCmds (p : Cmd → Bool) : (c.startCmds p).chans = c.chans := (rfl)
end

/-! ### Grants -/

@[simp] theorem Chip.dies_setChState (c : Chip) (ch : Nat) (x : ChState) : (c.setChState ch x).dies = c.dies := by
  rw [Chip.setChState, Chip.dies_fset]
  split <;> rfl
@[simp] theorem Chip.dies_setChRun (c : Chip) (ch : Nat) (x : ChState) : (c.setChRun ch x).dies = c.dies := by
  rw [Chip.setChRun, Chip.setHoldSub, apply_ite Chip.dies]
  simp
@[simp] theorem Chip.dies_newPeriod (c : Chip) (ch d : Nat) : (c.newPeriod ch d).dies = c.dies := by simp [Chip.newPeriod]
@[simp] theorem Chip.dies_updateHk (c : Chip) (n l : Nat) : (c.updateHk n l).dies = c.dies := by simp [Chip.updateHk]
@[simp] theorem Chip.dies_tdrPause (c : Chip) (n : Nat) : (c.tdrPause n).dies = c.dies := by
  simp [Chip.tdrPause, apply_ite Chip.dies]
@[simp] theorem Chip.dies_lidStart (c : Chip) (ch m : Nat) : (c.lidStart ch m).dies = c.dies := by
  simp [Chip.lidStart, apply_ite Chip.dies]
@[simp] theorem Chip.dies_sealDrive (c : Chip) (ch : Nat) : (c.sealDrive ch).dies = c.dies := by
  simp [Chip.sealDrive, apply_ite Chip.dies]
theorem Chip.dies_runStart (c : Chip) (ch : Nat) : (c.runStart ch).dies = c.dies := by
  simp [Chip.runStart, apply_ite Chip.dies]
theorem Chip.dies_readied (c : Chip) (ch : Nat) :
    (c.readied ch).dies = (c.setReqs (pdie ch) (dropReq ch (c.die (pdie ch)).reqs)).dies := by
  simp [Chip.readied, apply_ite Chip.dies, Chip.setReqs]

/-- A grant takes the channel's requests from its die's. -/
theorem Chip.reqs_grant (c : Chip) (ch : Nat) : ((c.grant ch).die (pdie ch)).reqs = dropReq ch (c.die (pdie ch)).reqs := by
  rw [Chip.die, Chip.grant_eq, Chip.dies_runStart, Chip.dies_setChRun, Chip.dies_readied]
  exact congrArg DieX.reqs (Chip.die_setDie_self c _ _)

theorem mem_runFields {ch a lo w : Nat} (h : (a, (⟨lo, w⟩ : Fld)) ∈ runFields ch) :
    a = chBase ch + 0x1C ∧ lo = 12 ∧ w = 1 ∨ a = chBase ch + 0x3C ∧ lo = 7 ∧ w = 1 ∨ a = chBase ch + 0xD0 ∨
      a = 0x40240804 + ch / 48 * 0x80000 ∨ a = 0x40240800 + ch / 48 * 0x80000 ∨ a = 0x40240608 + ch / 48 * 0x80000 := by
  simp only [runFields, List.mem_cons, Prod.mk.injEq, List.not_mem_nil, or_false, F.CH_STATUS_DUTY_LIMITED, F.CH_PROT_STATUS_BYPASS_ON,
    Fld.mk.injEq, R.CH_STATUS, R.CH_PROT_STATUS, R.CH_LID_RESULT, R.PWR_LID_SKIP_CNT, R.PWR_HK_STATUS, R.PWR_TDR_STATUS, pdie] at h
  obtain h | h | ⟨h, -⟩ | ⟨h, -⟩ | ⟨h, -⟩ | ⟨h, -⟩ := h <;> simp [h]

theorem mem_readyFields {ch a lo w : Nat} (h : (a, (⟨lo, w⟩ : Fld)) ∈ readyFields ch) :
    a = chBase ch + 0x1C ∧ lo = 4 ∧ w = 4 ∨ a = chBase ch + 0x1C ∧ lo = 8 ∧ w = 1 ∨ a = chBase ch + 0x1C ∧ lo = 14 ∧ w = 1 ∨
      a = chBase ch + 0x3C ∧ lo = 16 ∧ w = 4 ∨ a = chBase ch + 0x24 := by
  simp only [readyFields, List.mem_cons, Prod.mk.injEq, List.not_mem_nil, or_false, F.CH_STATUS_CAUSE, F.CH_STATUS_PENDING_GRANT,
    F.CH_STATUS_PROFILE_FALLBACK, F.CH_PROT_STATUS_RETRY_NUM, Fld.mk.injEq, R.CH_STATUS, R.CH_PROT_STATUS, R.CH_START_CNT] at h
  obtain h | h | h | h | ⟨h, -⟩ := h <;> simp [h]

theorem mem_startFields {ch a lo w : Nat} (h : (a, (⟨lo, w⟩ : Fld)) ∈ startFields ch) :
    a = chBase ch + 0x1C ∧ (lo = 0 ∧ w = 4 ∨ lo = 4 ∧ w = 4 ∨ lo = 8 ∧ w = 1 ∨ lo = 12 ∧ w = 1 ∨ lo = 14 ∧ w = 1) ∨
      a = chBase ch + 0x3C ∧ (lo = 16 ∧ w = 4 ∨ lo = 20 ∧ w = 4 ∨ lo = 7 ∧ w = 1) ∨ a = chBase ch + 0x24 ∨ a = chBase ch + 0xD0 ∨
      a = 0x40240804 + ch / 48 * 0x80000 ∨ a = 0x40240800 + ch / 48 * 0x80000 ∨ a = 0x40240608 + ch / 48 * 0x80000 := by
  simp only [startFields, List.mem_append] at h
  obtain (h | h) | h := h
  · obtain ⟨ha, h⟩ | ⟨ha, h⟩ | ⟨ha, h⟩ | ⟨ha, h⟩ | h := mem_readyFields h <;> simp [*]
  · simp only [List.mem_cons, Prod.mk.injEq, List.not_mem_nil, or_false, F.CH_STATUS_STATE, F.CH_PROT_STATUS_HOLD_SUB, Fld.mk.injEq,
      R.CH_STATUS, R.CH_PROT_STATUS] at h
    obtain ⟨ha, hl⟩ | ⟨ha, hl⟩ := h
    · exact .inl ⟨ha, .inl hl⟩
    · exact .inr (.inl ⟨ha, .inr (.inl hl)⟩)
  · obtain ⟨ha, h⟩ | ⟨ha, h⟩ | h | h | h | h := mem_runFields h <;> simp [*]

/-- A granted channel is STARTING. -/
theorem Chip.chState_grant {c : Chip} {ch : Nat} (hch : ch < 192) (h : c.inHold ch = false) : (c.grant ch).chState ch = .starting := by
  have hr : (c.readied ch).chState ch = c.chState ch := by
    refine (Spares.readied c ch).state hch ?_
    rintro ⟨lo, w⟩ hg
    have := mem_readyFields hg
    simp only [Apart, R.CH_STATUS, F.CH_STATUS_STATE] at this ⊢
    omega
  rw [Chip.grant_eq, (Spares.runStart _ ch).state hch ?_, Chip.setChRun_of_not_inHold (by rw [Chip.inHold, hr]; exact h),
    Chip.chState_setChState]
  rintro ⟨lo, w⟩ hg
  have := mem_runFields hg
  simp only [Apart, R.CH_STATUS, chBase, F.CH_STATUS_STATE] at this ⊢
  omega

/-! ### One arrival -/

theorem Chip.dies_enqueue (c : Chip) (r : StartReq) :
    (c.enqueue r).dies = (c.setReqs (pdie r.ch) ((c.die (pdie r.ch)).reqs ++ [r])).dies := by
  simp [Chip.enqueue, Chip.setReqs, apply_ite Chip.dies]
theorem Chip.reqs_enqueue (c : Chip) (r : StartReq) : ((c.enqueue r).die (pdie r.ch)).reqs = (c.die (pdie r.ch)).reqs ++ [r] := by
  rw [Chip.die, Chip.dies_enqueue]
  exact congrArg DieX.reqs (Chip.die_setDie_self c _ _)

theorem Chip.reexamine_none {c : Chip} {n : Nat} (h : (c.die n).reqs = []) : c.reexamine n = c := by
  rw [Chip.reexamine, h]
  rfl
theorem Chip.reexamine_one {c : Chip} {n : Nat} {r : StartReq} (h : (c.die n).reqs = [r]) :
    c.reexamine n = if c.fits n r then c.grantReq r else c := by
  simp [Chip.reexamine, h, Chip.grantInOrder, firstReq]
theorem Chip.grantReq_start {c : Chip} {r : StartReq} (h : r.pulse = false) : c.grantReq r = c.grant r.ch := if_neg (by simp [h])
theorem byPrio_one {r : StartReq} (h : r.prio < 4) : byPrio [r] = [r] := by
  have : r.prio = 0 ∨ r.prio = 1 ∨ r.prio = 2 ∨ r.prio = 3 := by omega
  obtain h | h | h | h := this <;> simp [byPrio, h]

/-- Requests of which none is granted in order: at the cap if DEFER_MAX is 0, else deferred. -/
def Chip.putOff (c : Chip) (n : Nat) (wait : List StartReq) : Chip :=
  if c.fget (R.IS_CTRL n) F.IS_CTRL_DEFER_MAX = 0 then Chip.forReqs Chip.capGrant (byPrio wait) c
  else Chip.forReqs Chip.defer wait c
/-- Requests that arrive in one cycle, on the module in which they have joined their die's. -/
def Chip.settleReqs (c : Chip) (n : Nat) (rs : List StartReq) : Chip :=
  let c := (Chip.forReqs (fun c r => if c.exempt r then c.grantReq r else c) rs c).reexamine n
  c.putOff n ((c.die n).reqs.filter fun r => rs.contains r)
theorem Chip.arriveReqs_eq (c : Chip) (n : Nat) (rs : List StartReq) : c.arriveReqs n rs = (Chip.forReqs Chip.enqueue rs c).settleReqs n rs := rfl

theorem Chip.forReqs_one (f : Chip → StartReq → Chip) (r : StartReq) (c : Chip) : Chip.forReqs f [r] c = f c r := rfl
theorem Chip.putOff_none (c : Chip) (n : Nat) : c.putOff n [] = c := ite_self c
theorem Chip.putOff_one {c : Chip} {n : Nat} {r : StartReq} (h : r.prio < 4) :
    c.putOff n [r] = if c.fget (R.IS_CTRL n) F.IS_CTRL_DEFER_MAX = 0 then c.capGrant r else c.defer r := by
  rw [Chip.putOff, byPrio_one h, Chip.forReqs_one, Chip.forReqs_one]
theorem Chip.settleReqs_one {d : Chip} {n : Nat} {r : StartReq} (hn : pdie r.ch = n) (hp : r.pulse = false)
    (hq : (d.die n).reqs = [r]) :
    d.settleReqs n [r] = if d.exempt r ∨ d.fits n r then d.grant r.ch else d.putOff n [r] := by
  have hg : ((d.grant r.ch).die n).reqs = [] := by
    rw [← hn, Chip.reqs_grant, hn, hq]
    simp [dropReq, hp]
  have hgranted : (Chip.forReqs (fun c r => if c.exempt r then c.grantReq r else c) [r] d).reexamine n =
      if d.exempt r ∨ d.fits n r then d.grant r.ch else d := by
    rw [Chip.forReqs_one]
    by_cases he : d.exempt r = true
    · rw [if_pos he, if_pos (.inl he), Chip.grantReq_start hp, Chip.reexamine_none hg]
    · rw [if_neg he, Chip.reexamine_one hq, Chip.grantReq_start hp]
      simp [he]
  rw [Chip.settleReqs, hgranted]
  by_cases hb : d.exempt r = true ∨ d.fits n r = true
  · rw [if_pos hb, if_pos hb, hg, List.filter_nil, Chip.putOff_none]
  · rw [if_neg hb, if_neg hb, hq, List.filter_cons_of_pos (by simp), List.filter_nil]

/-- The request alone of its die, when it arrives: granted, granted at the cap, or deferred (R108 to R113). -/
theorem Chip.arrive_one {c : Chip} {ch : Nat} (h : (c.die (pdie ch)).reqs = []) :
    ∃ r, r.ch = ch ∧ r.pulse = false ∧ (c.arrive (pdie ch) [ch] = (c.enqueue r).grant ch ∨
      c.arrive (pdie ch) [ch] = (c.enqueue r).capGrant r ∨ c.arrive (pdie ch) [ch] = (c.enqueue r).defer r) := by
  obtain ⟨r, hr⟩ : ∃ r, r = c.requestOf ch false := ⟨_, rfl⟩
  have hprio : r.prio < 4 := hr ▸ Nat.mod_lt _ (by decide)
  have hp : r.pulse = false := congrArg StartReq.pulse hr
  have he : c.arrive (pdie ch) [ch] = (c.enqueue r).settleReqs (pdie ch) [r] := hr ▸ rfl
  obtain rfl : r.ch = ch := congrArg StartReq.ch hr
  have hq : ((c.enqueue r).die (pdie r.ch)).reqs = [r] := by rw [Chip.reqs_enqueue, h, List.nil_append]
  refine ⟨r, rfl, hp, ?_⟩
  rw [he, Chip.settleReqs_one rfl hp hq, Chip.putOff_one hprio]
  split_ifs
  · exact .inl rfl
  · exact .inr (.inl rfl)
  · exact .inr (.inr rfl)

end Sys2Proof.Machine
end

section
/-! PROOF. Back-off, cooling, the retry count, reverse current and warnings (R126, R127, R139, R140, R147, R148). -/

namespace Sys2Proof.Machine
open Sys2Proof

theorem Chip.chEvent_served (c : Chip) {base ch : Nat} (hb : base < 250) (hch : ch < 192) : Served c (c.chEvent base ch) :=
  (Served.q10From c _ _ _).trans (Served.raiseFrom _ _ (by unfold pdie; omega))

/-- What a grant at the cap writes after the grant. -/
def capFields (ch : Nat) : List (Nat × Fld) := [(R.CH_CAPGRANT_CNT ch, wholeFld), (R.IS_CAPGRANT_CNT (pdie ch), wholeFld)]
theorem mem_capFields {ch a lo w : Nat} (h : (a, (⟨lo, w⟩ : Fld)) ∈ capFields ch) : a = chBase ch + 0x2C ∨ a = 0x40260010 + ch / 48 * 0x80000 := by
  simp only [capFields, List.mem_cons, Prod.mk.injEq, List.not_mem_nil, or_false, R.CH_CAPGRANT_CNT, R.IS_CAPGRANT_CNT, pdie] at h
  exact h.imp And.left And.left
theorem Spares.capGrant {c : Chip} {r : StartReq} (hr : r.ch < 192) (hp : r.pulse = false) :
    Spares (· ∈ capFields r.ch) (c.grant r.ch) (c.capGrant r) := by
  rw [Chip.capGrant, Chip.grantReq_start hp]
  exact ((bump _ 1 (by simp [capFields])).trans (bump _ 1 (by simp [capFields]))).trans (served (Chip.chEvent_served _ (by decide) hr))
theorem Spares.defer (c : Chip) (r : StartReq) :
    Spares (· ∈ [(R.CH_DEFER_CNT r.ch, wholeFld), (R.IS_DEFER_CNT (pdie r.ch), wholeFld)]) c (c.defer r) :=
  (bump _ 1 (by simp)).trans (bump _ 1 (by simp))
theorem Spares.enqueue (c : Chip) (r : StartReq) : Spares (· = (R.CH_STATUS r.ch, F.CH_STATUS_PENDING_GRANT)) c (c.enqueue r) :=
  (setDie c _ _).trans (ite (fun _ => refl _) fun _ => fset _ _ rfl)


/-- What the arrival of a start request alone writes. -/
def arriveFields (ch : Nat) : List (Nat × Fld) :=
  startFields ch ++ capFields ch ++ [(R.CH_DEFER_CNT ch, wholeFld), (R.IS_DEFER_CNT (pdie ch), wholeFld)]

theorem Spares.flag {W : Nat × Fld → Prop} {c c' : Chip} (h : Spares W c c') (a : Nat) (f : Fld) (h₁ : 0x40200000 ≤ a) (h₂ : a < 0x40400000)
    (h₃ : f.lo + f.w ≤ 32) (hw : ∀ g, W (a, g) → Apart f g) : c'.flag a f = c.flag a f := congrArg (· == 1) (h a f h₁ h₂ h₃ hw)

theorem Chip.pendingGrant_enqueue (c : Chip) {r : StartReq} (h : r.pulse = false) : (c.enqueue r).pendingGrant r.ch = true := by
  rw [Chip.enqueue, if_neg (by simp [h]), Chip.pendingGrant, Chip.flag, Chip.fget_fset_self _ _ _ _ (by decide)]
  rfl

/-- A start that no other request meets: the channel is STARTING, or it waits (R99, R108 to R113). -/
theorem Chip.arrive_one_says {c : Chip} {ch : Nat} (hch : ch < 192) (h : (c.die (pdie ch)).reqs = []) (hh : c.inHold ch = false) :
    ((c.arrive (pdie ch) [ch]).chState ch = .starting ∨ (c.arrive (pdie ch) [ch]).pendingGrant ch = true) ∧
      Spares (· ∈ arriveFields ch) c (c.arrive (pdie ch) [ch]) := by
  obtain ⟨r, rfl, hp, ha⟩ := Chip.arrive_one h
  have he : Spares (· ∈ arriveFields r.ch) c (c.enqueue r) := (Spares.enqueue c r).mono (by simp [arriveFields, startFields, readyFields])
  have hi : (c.enqueue r).inHold r.ch = false := by
    rw [Chip.inHold, (Spares.enqueue c r).state hch (by rintro g ⟨-, rfl⟩; decide)]
    exact hh
  have hg : Spares (· ∈ arriveFields r.ch) (c.enqueue r) ((c.enqueue r).grant r.ch) := (Spares.grant _ _).mono (by simp +contextual [arriveFields])
  obtain ha | ha | ha := ha <;> rw [ha]
  · exact ⟨.inl (Chip.chState_grant hch hi), he.trans hg⟩
  · refine ⟨.inl ?_, (he.trans hg).trans ((Spares.capGrant hch hp).mono (by simp +contextual [arriveFields]))⟩
    rw [(Spares.capGrant hch hp).state hch ?_, Chip.chState_grant hch hi]
    rintro ⟨lo, w⟩ hg
    have := mem_capFields hg
    simp only [Apart, R.CH_STATUS, chBase, F.CH_STATUS_STATE] at this ⊢
    omega
  · refine ⟨.inr ?_, he.trans ((Spares.defer _ r).mono (by simp +contextual [arriveFields]))⟩
    refine ((Spares.defer _ r).flag (R.CH_STATUS r.ch) F.CH_STATUS_PENDING_GRANT (chReg_lo _ _) (chReg_hi hch (by decide)) (by decide)
      fun g hg => ?_).trans (Chip.pendingGrant_enqueue c hp)
    simp [R.CH_STATUS, R.CH_DEFER_CNT, R.IS_DEFER_CNT, chBase] at hg
    omega

theorem Spares.low {W : Nat × Fld → Prop} (c : Chip) {a : Nat} (x : Word) (h : a < 0x40200000) : Spares W c (c.wr a x) :=
  fun b f hb _ _ _ => Chip.fget_wr_ne c x f (by omega)

theorem Spares.updateOutage {W : Nat × Fld → Prop} (c : Chip) {g : Nat} (hg : g < 12) : Spares W c (c.updateOutage g) := by
  have hs : Spares W c (c.fbit (R.LF_STATUS g) F.LF_STATUS_OUTAGE (c.outage g)) := low c _ (by unfold R.LF_STATUS; omega)
  exact ite (fun _ => hs.trans (served (Served.raiseFrom _ _ (by decide)))) fun _ => hs
theorem Spares.groupFail {W : Nat × Fld → Prop} (c : Chip) {g : Nat} (hg : g < 12) : Spares W c (c.groupFail g) := 
  ite (fun _ => (low c _ (by unfold R.LF_STATUS; omega)).trans (served (Served.raiseFrom _ _ (by decide)))) fun _ => refl c
theorem Spares.onChanFault {W : Nat × Fld → Prop} (c : Chip) (ch : Nat) (o : Bool) : Spares W c (c.onChanFault ch o) := by
  refine foldl (fun g hg d => ite (fun _ => ?_) fun _ => refl d) c
  have hg := List.mem_range.1 hg
  exact (updateOutage d hg).trans (ite (fun _ => groupFail _ hg) fun _ => refl _)

theorem Spares.reportCause {c : Chip} {ch cause : Nat} (hch : ch < 192) :
    Spares (· = (R.CH_CAUSE_CNT ch (cause / 4), byteFld (cause % 4))) c (c.reportCause ch cause) :=
  ((fbump (W := (· = (R.CH_CAUSE_CNT ch (cause / 4), byteFld (cause % 4)))) c rfl).trans
    (served (Chip.chEvent_served (base := 56) _ (by decide) hch))).trans (onChanFault _ _ _)

/-! ### The statement -/

theorem mem_arriveFields {ch a lo w : Nat} (h : (a, (⟨lo, w⟩ : Fld)) ∈ arriveFields ch) :
    (a, (⟨lo, w⟩ : Fld)) ∈ startFields ch ∨ a = chBase ch + 0x28 ∨ a = chBase ch + 0x2C ∨
      a = 0x4026000C + ch / 48 * 0x80000 ∨ a = 0x40260010 + ch / 48 * 0x80000 := by
  simp only [arriveFields, List.mem_append] at h
  obtain (h | h) | h := h
  · exact .inl h
  · have := mem_capFields h
    tauto
  · simp only [List.mem_cons, Prod.mk.injEq, List.not_mem_nil, or_false, R.CH_DEFER_CNT, R.IS_DEFER_CNT, pdie] at h
    tauto

theorem cooling_apart {ch : Nat} : ∀ g, (R.CH_PROT_STATUS ch, g) ∈ arriveFields ch → Apart F.CH_PROT_STATUS_COOLING g := by
  rintro ⟨lo, w⟩ hg
  simp only [R.CH_PROT_STATUS, Apart, F.CH_PROT_STATUS_COOLING] at hg ⊢
  obtain hg | hg := mem_arriveFields hg
  · have := mem_startFields hg
    simp only [chBase] at this
    omega
  · simp only [chBase] at hg
    omega

/-- A channel's retry start is requested when nothing else of its die waits (R139). -/
theorem Chip.retryStart_cooled {c : Chip} {ch : Nat} (hch : ch < 192) (h : c.cooled ch = true) (hq : (c.die (pdie ch)).reqs = [])
    (hh : c.inHold ch = false) :
    ((c.retryStart ch).chState ch = .starting ∨ (c.retryStart ch).pendingGrant ch = true) ∧
      (c.retryStart ch).flag (R.CH_PROT_STATUS ch) F.CH_PROT_STATUS_COOLING = false := by
  obtain ⟨d, hd⟩ : ∃ d, d = c.fset (R.CH_PROT_STATUS ch) F.CH_PROT_STATUS_COOLING 0 := ⟨_, rfl⟩
  have hs : Spares (· = (R.CH_PROT_STATUS ch, F.CH_PROT_STATUS_COOLING)) c d := hd ▸ Spares.fset c _ rfl
  have hr : c.retryStart ch = d.arrive (pdie ch) [ch] := (if_pos h).trans (by rw [hd])
  have hi : d.inHold ch = false := by
    rw [Chip.inHold, hs.state hch (by simp [R.CH_STATUS, R.CH_PROT_STATUS])]
    exact hh
  have hq' : (d.die (pdie ch)).reqs = [] := by
    rw [Chip.die, hd, Chip.dies_fset]
    exact hq
  obtain ⟨h₁, h₂⟩ := Chip.arrive_one_says hch hq' hi
  rw [hr]
  refine ⟨h₁, ?_⟩
  rw [h₂.flag (R.CH_PROT_STATUS ch) _ (chReg_lo _ _) (chReg_hi hch (by decide)) (by decide) cooling_apart, hd, Chip.flag, Chip.fget_fset_self _ _ _ _ (by decide)]
  rfl


theorem Chip.lead_of_unpaired {c : Chip} {ch : Nat} (h : c.paired ch = false) : c.lead ch = ch := if_neg (by simp [h])

theorem Chip.flag_fset_zero (c : Chip) (a : Nat) (f : Fld) (hf : f.lo + f.w ≤ 32) : (c.fset a f 0).flag a f = false := by
  rw [Chip.flag, Chip.fget_fset_self c a f 0 hf, Nat.zero_mod]
  rfl

theorem Spares.run {W : Nat × Fld → Prop} {c c' : Chip} {ch : Nat} (h : Spares W c c') (hch : ch < 192)
    (hw : ∀ g, W (R.CH_STATUS ch, g) → Apart F.CH_STATUS_STATE g) (hw' : ∀ g, W (R.CH_PROT_STATUS ch, g) → Apart F.CH_PROT_STATUS_HOLD_SUB g) :
    c'.chRun ch = c.chRun ch := by
  have hs := h.state hch hw
  have hh : c'.holdSub ch = c.holdSub ch := congrArg ChState.ofCode (h _ _ (chReg_lo _ _) (chReg_hi hch (by decide)) (by decide) hw')
  rw [Chip.chRun, Chip.inHold, hs, hh]
  rfl

/-- The two warnings of the junction end together where no retry waits (R127). -/
theorem Chip.coolingMet_thermal {c : Chip} {ch : Nat} (hch : ch < 192) (ht : (c.chan ch).lastTrip = 3) (hp : c.paired ch = false)
    (hr : c.chRun ch ≠ .cooldown) :
    c.coolingMet ch = (c.fset (R.CH_PROT_STATUS ch) F.CH_PROT_STATUS_TJ_WARN 0).fset (R.CH_PROT_STATUS ch) F.CH_PROT_STATUS_COOLING 0 := by
  obtain ⟨d, hd⟩ : ∃ d, d = c.fset (R.CH_PROT_STATUS ch) F.CH_PROT_STATUS_TJ_WARN 0 := ⟨_, rfl⟩
  obtain ⟨e, he⟩ : ∃ e, e = d.fset (R.CH_PROT_STATUS ch) F.CH_PROT_STATUS_COOLING 0 := ⟨_, rfl⟩
  have hdt : d.flag (R.CH_PROT_STATUS ch) F.CH_PROT_STATUS_TJ_WARN = false := hd ▸ Chip.flag_fset_zero _ _ _ (by decide)
  have hdp : d.paired ch = false := by
    rw [← hp, hd, Chip.paired, Chip.fget_fset_ne]
    · rfl
    · simp only [R.PWR_PAIR, R.CH_PROT_STATUS, chBase]
      omega
  have hdc : d.cooled ch = true := by
    have : (d.chan ch).lastTrip = 3 := by
      rw [Chip.chan, hd, Chip.chans_fset]
      exact ht
    simp [Chip.cooled, this, hdt, hdp]
  have hw : ∀ g, (g = F.CH_PROT_STATUS_TJ_WARN ∨ g = F.CH_PROT_STATUS_COOLING) → Apart F.CH_PROT_STATUS_HOLD_SUB g := by
    rintro g (rfl | rfl) <;> decide
  have hrun : e.chRun ch = c.chRun ch := by
    refine Spares.run (W := fun p => p.1 = R.CH_PROT_STATUS ch ∧ (p.2 = F.CH_PROT_STATUS_TJ_WARN ∨ p.2 = F.CH_PROT_STATUS_COOLING)) ?_ hch
      (by simp [R.CH_STATUS, R.CH_PROT_STATUS]) fun g hg => hw g hg.2
    rw [he, hd]
    exact (Spares.fset _ _ ⟨rfl, .inl rfl⟩).trans (Spares.fset _ _ ⟨rfl, .inr rfl⟩)
  rw [← hd, ← he, Chip.coolingMet, Chip.lead_of_unpaired hp]
  dsimp only
  rw [if_pos ht, ← hd, if_pos hdc, ← he, if_neg]
  rw [hrun]
  exact fun h => hr h.1

theorem Spares.reverseDuty {W : Nat × Fld → Prop} (c : Chip) (ch : Nat) : Spares W c (c.reverseDuty ch) := ite (fun _ => setChan c ch _) fun _ => refl c
theorem Chip.rd_reverseDuty (c : Chip) (ch a : Nat) : (c.reverseDuty ch).rd a = c.rd a := by
  unfold Chip.reverseDuty
  split <;> rfl

/-- The counter of a reporting cause (R135). -/
theorem Chip.cause_reported {c : Chip} {ch cause : Nat} (hch : ch < 192) (hk : cause < 16) :
    (c.reportCause ch cause).fget (R.CH_CAUSE_CNT ch (cause / 4)) (byteFld (cause % 4)) =
      min 255 (c.fget (R.CH_CAUSE_CNT ch (cause / 4)) (byteFld (cause % 4)) + 1) := by
  have hb : (byteFld (cause % 4)).lo + (byteFld (cause % 4)).w ≤ 32 := by
    simp only [byteFld]
    omega
  have hs : Spares (fun _ => False) (c.countCause ch cause) (c.reportCause ch cause) :=
    (Spares.served (Chip.chEvent_served (base := 56) _ (by decide) hch)).trans (Spares.onChanFault _ _ _)
  have hlt : min 255 (c.fget (R.CH_CAUSE_CNT ch (cause / 4)) (byteFld (cause % 4)) + 1) < 2 ^ 8 := by omega
  rw [hs _ _ (by unfold R.CH_CAUSE_CNT chBase; omega) (by unfold R.CH_CAUSE_CNT chBase; omega) hb (fun _ h => h.elim), Chip.countCause,
    Chip.fbump, Chip.fget_fset_self _ _ _ _ hb]
  exact Nat.mod_eq_of_lt hlt

/-- Settles O16: the retry's start or its wait, the cooling condition, the retry count, REVERSE with its cause, and the two warnings. -/
theorem retriesReverseAndWarnings : Obligations.RetriesReverseAndWarnings := by
  unfold Obligations.RetriesReverseAndWarnings
  refine ⟨?_, ?_, ?_, ?_, ?_, ?_, ?_, ?_⟩
  case refine_1 =>
    intro ch s hst hc hp hcool hq
    have hi : s.chip.inHold ch = false := by
      rw [Chip.inHold_eq hst]
      rfl
    obtain ⟨d, hd⟩ : ∃ d, d = s.chip.setChan ch { s.chip.chan ch with boDone := true } := ⟨_, rfl⟩
    have hdc : d.cooled ch = s.chip.cooled ch := by
      rw [hd]
      simp only [Chip.cooled, Chip.chan_setChan_self]
      rfl
    have hr := Chip.retryStart_cooled (c := d) ch.isLt (hdc.trans hcool) (by rw [hd]; exact hq) (by rw [hd]; exact hi)
    refine ⟨d.retryStart ch, State.next_chip ?_, hr⟩
    rw [hd]
    exact if_pos ⟨(Chip.chRun_of_not_inHold hi).trans hst, hc.1, hc.2, by simp [hp]⟩
  case refine_2 =>
    intro ch s hst hc hp hcool
    obtain ⟨d, hd⟩ : ∃ d, d = s.chip.setChan ch { s.chip.chan ch with boDone := true } := ⟨_, rfl⟩
    have hdc : d.cooled ch = false := by
      rw [hd, ← hcool]
      simp only [Chip.cooled, Chip.chan_setChan_self]
      rfl
    refine ⟨d.fset (R.CH_PROT_STATUS ch) F.CH_PROT_STATUS_COOLING 1, State.next_chip ?_, ?_, ?_, fun a ha => ?_⟩
    · refine (if_pos ⟨hst, hc.1, hc.2, by simp [hp]⟩).trans ?_
      rw [← hd]
      exact if_neg (by simp [hdc])
    · rw [Chip.flag, Chip.fget_fset_self _ _ _ _ (by decide)]
      rfl
    · rw [Chip.die, Chip.dies_fset, hd]
      rfl
    · rw [Chip.rd_fset_ne _ _ _ ha, hd]
      rfl
  case refine_3 =>
    intro ch s ht hp hst
    refine ⟨_, State.next_chip (Chip.coolingMet_thermal ch.isLt ht hp hst), ?_, Chip.flag_fset_zero _ _ _ (by decide), fun a ha => ?_⟩
    · rw [Chip.flag, Chip.fget_fset_field _ _ _ _ _ (by decide) (by decide)]
      exact Chip.flag_fset_zero _ _ _ (by decide)
    · rw [Chip.rd_fset_ne _ _ _ ha, Chip.rd_fset_ne _ _ _ ha]
  case refine_4 =>
    intro ch s hst
    refine ⟨s.chip.fset (R.CH_PROT_STATUS ch) F.CH_PROT_STATUS_RETRY_NUM 0, State.next_chip ?_, ?_, fun a ha => Chip.rd_fset_ne _ _ _ ha⟩
    · rw [Chip.retryClear]
      split <;> simp_all
    · rw [Chip.fget_fset_self _ _ _ _ (by decide), Nat.zero_mod]
  case refine_5 =>
    intro ch s hr
    obtain ⟨d, hd⟩ : ∃ d, d = s.chip.fset (R.CH_PROT_STATUS ch) F.CH_PROT_STATUS_REVERSE 1 := ⟨_, rfl⟩
    refine ⟨(d.reverseDuty ch).reportCause ch 7, State.next_chip ((if_neg (by simp [hr])).trans (by rw [hd])), ?_, ?_⟩
    · rw [(Spares.reportCause ch.isLt).flag (R.CH_PROT_STATUS ch) _ (chReg_lo _ _) (chReg_hi ch.isLt (by decide)) (by decide)
        (by simp [R.CH_PROT_STATUS, R.CH_CAUSE_CNT]), Chip.flag, Chip.fget, Chip.rd_reverseDuty, hd]
      exact Chip.flag_fbit_self _ _ _ true (by decide) (by decide)
    · refine (Chip.cause_reported ch.isLt (cause := 7) (by decide)).trans ?_
      rw [Chip.fget, Chip.rd_reverseDuty, hd, Chip.rd_fset_ne _ _ _ (by simp [R.CH_PROT_STATUS, R.CH_CAUSE_CNT])]
      rfl
  case refine_6 =>
    intro ch s
    obtain ⟨d, hd⟩ : ∃ d, d = s.chip.fset (R.CH_PROT_STATUS ch) F.CH_PROT_STATUS_REVERSE 0 := ⟨_, rfl⟩
    refine ⟨d.reverseDuty ch, State.next_chip (by rw [hd]; rfl), ?_, fun a ha => ?_⟩
    · rw [Chip.flag, Chip.fget, Chip.rd_reverseDuty, hd]
      exact Chip.flag_fset_zero _ _ _ (by decide)
    · rw [Chip.rd_reverseDuty, hd, Chip.rd_fset_ne _ _ _ ha]
  case refine_7 =>
    exact fun ch on s => ⟨_, rfl, Chip.flag_fbit_self _ _ _ _ (by decide) (by decide), fun a ha => Chip.rd_fset_ne _ _ _ ha⟩
  case refine_8 =>
    exact fun n on s => ⟨_, rfl, Chip.flag_fbit_self _ _ _ _ (by decide) (by decide), fun a ha => Chip.rd_fset_ne _ _ _ ha⟩

end Sys2Proof.Machine
end

section
/-! SUPPORT. Which registers a scheduler's examination and a valve's grant write (R109, R110, R233, R242). -/

namespace Sys2Proof.Machine
open Sys2Proof

/-- What the grants of a scheduler write, on whatever die. -/
def SchedWrites (p : Nat × Fld) : Prop :=
  (∃ ch, p ∈ startFields ch) ∨ ∃ n, p = (R.PWR_XC_WATCH0 n, wholeFld) ∨ p = (R.PWR_XC_WATCH1 n, wholeFld)

/-- All of it lies in the first registers of a die: its channels', and those of its diagnosis. -/
theorem SchedWrites.low {a : Nat} {g : Fld} (h : SchedWrites (a, g)) : 0x40200000 ≤ a ∧ (a - 0x40200000) % 0x80000 < 0x40900 := by
  obtain ⟨ch, h⟩ | ⟨n, h | h⟩ := h
  · have h := mem_startFields (lo := g.lo) (w := g.w) h
    simp only [chBase] at h
    omega
  · obtain rfl : a = _ := congrArg Prod.fst h
    simp only [R.PWR_XC_WATCH0]
    omega
  · obtain rfl : a = _ := congrArg Prod.fst h
    simp only [R.PWR_XC_WATCH1]
    omega

namespace Spares

theorem xcGrant (c : Chip) (n src : Nat) : Spares SchedWrites c (c.xcGrant n src) :=
  (((of_regs rfl : Spares SchedWrites c c.draw.2).trans (setDie _ _ _)).trans (wr _ _ (.inr ⟨n, .inl rfl⟩))).trans
    (wr _ _ (.inr ⟨n, .inr rfl⟩))
theorem grantReq (c : Chip) (r : StartReq) : Spares SchedWrites c (c.grantReq r) :=
  ite (fun _ => xcGrant c _ _) fun _ => (grant c r.ch).mono fun _ h => .inl ⟨_, h⟩
theorem grantInOrder (n : Nat) : ∀ (k : Nat) (c : Chip), Spares SchedWrites c (Chip.grantInOrder n k c)
  | 0, c => refl c
  | k + 1, c => by
    rw [Chip.grantInOrder]
    split
    · exact refl c
    · exact ite (fun _ => (grantReq c _).trans (grantInOrder n k _)) fun _ => refl c
theorem reexamine (c : Chip) (n : Nat) : Spares SchedWrites c (c.reexamine n) := grantInOrder n _ c

end Spares

/-! ### What no grant touches -/

/-- Beside registers c' differs from c in the power dies' channels and requests, in sealed channels' times, and in what the
queues and the command table serve. -/
def PowerOnly (c c' : Chip) : Prop :=
  c' = { c with regs := c'.regs, evPend := c'.evPend, queues := c'.queues, cmds := c'.cmds, heldComps := c'.heldComps, fresh := c'.fresh,
                chans := c'.chans, dies := c'.dies, sealx := c'.sealx }

namespace PowerOnly

variable {c c' c'' : Chip}

theorem refl (c : Chip) : PowerOnly c c := rfl
theorem trans (h : PowerOnly c c') (h' : PowerOnly c' c'') : PowerOnly c c'' := by
  unfold PowerOnly at h h' ⊢
  rw [h'] at *
  rw [h]
theorem ite {p : Prop} [Decidable p] (h : p → PowerOnly c c') (h' : ¬ p → PowerOnly c c'') : PowerOnly c (if p then c' else c'') := by
  split
  · exact h ‹_›
  · exact h' ‹_›
theorem foldl {α : Type} {f : Chip → α → Chip} {xs : List α} (h : ∀ x ∈ xs, ∀ c, PowerOnly c (f c x)) (c : Chip) :
    PowerOnly c (xs.foldl f c) := by
  induction xs generalizing c with
  | nil => exact refl c
  | cons x xs ih => exact (h x (by simp) c).trans (ih (fun y hy => h y (by simp [hy])) _)
theorem served (h : Served c c') : PowerOnly c c' := by
  unfold PowerOnly
  rw [h.rest]
theorem noted (h : Noted c c') : PowerOnly c c' := by
  unfold PowerOnly
  rw [h]
theorem field {α : Type} (f : Chip → α) (h : PowerOnly c c') :
    f c' = f { c with regs := c'.regs, evPend := c'.evPend, queues := c'.queues, cmds := c'.cmds, heldComps := c'.heldComps,
                      fresh := c'.fresh, chans := c'.chans, dies := c'.dies, sealx := c'.sealx } := congrArg f h
theorem valve (h : PowerOnly c c') (v : Nat) : c'.valve v = c.valve v := h.field (·.valve v)
theorem vWaiting (h : PowerOnly c c') (n : Nat) : c'.vWaiting n = c.vWaiting n := h.field (·.vWaiting n)
theorem link (h : PowerOnly c c') (d : Nat) : c'.link d = c.link d := h.field (·.link d)

theorem fset (c : Chip) (a : Nat) (f : Fld) (v : Nat) : PowerOnly c (c.fset a f v) := rfl
theorem fbit (c : Chip) (a : Nat) (f : Fld) (b : Bool) : PowerOnly c (c.fbit a f b) := rfl
theorem fbump (c : Chip) (a : Nat) (f : Fld) : PowerOnly c (c.fbump a f) := rfl
theorem fbumpWrap (c : Chip) (a : Nat) (f : Fld) : PowerOnly c (c.fbumpWrap a f) := rfl
theorem bump (c : Chip) (a n : Nat) : PowerOnly c (c.bump a n) := rfl
theorem wr (c : Chip) (a : Nat) (x : Word) : PowerOnly c (c.wr a x) := rfl
theorem setChan (c : Chip) (ch : Nat) (x : ChanX) : PowerOnly c (c.setChan ch x) := rfl
theorem setDie (c : Chip) (n : Nat) (x : DieX) : PowerOnly c (c.setDie n x) := rfl
theorem setSealX (c : Chip) (ch : Nat) (x : SealX) : PowerOnly c (c.setSealX ch x) := rfl
theorem startCmds (c : Chip) (p : Cmd → Bool) : PowerOnly c (c.startCmds p) := rfl
theorem draw (c : Chip) : PowerOnly c c.draw.2 := rfl

theorem setChState (c : Chip) (ch : Nat) (x : ChState) : PowerOnly c (c.setChState ch x) :=
  (ite (fun _ => refl c) fun _ => setChan c ch _).trans (fset _ _ _ _)
theorem setChRun (c : Chip) (ch : Nat) (x : ChState) : PowerOnly c (c.setChRun ch x) := ite (fun _ => fset c _ _ _) fun _ => setChState c ch x
theorem newPeriod (c : Chip) (ch d : Nat) : PowerOnly c (c.newPeriod ch d) := (setChan c ch _).trans (fbit _ _ _ _)
theorem updateHk (c : Chip) (n l : Nat) : PowerOnly c (c.updateHk n l) := ((fset c _ _ _).trans (fset _ _ _ _)).trans (fbit _ _ _ _)
theorem tdrPause (c : Chip) (n : Nat) : PowerOnly c (c.tdrPause n) := ite (fun _ => (fset c _ _ _).trans (updateHk _ _ _)) fun _ => refl c
theorem lidStart (c : Chip) (ch m : Nat) : PowerOnly c (c.lidStart ch m) := by
  refine ite (fun _ => ite (fun _ => (fset c _ _ _).trans (bump _ _ 1)) fun _ => ?_) fun _ => refl c
  exact (((((setChan c ch _).trans (fset _ _ _ _)).trans (fset _ _ _ _)).trans (updateHk _ _ _)).trans (tdrPause _ _)).trans (startCmds _ _)
theorem sealDrive (c : Chip) (ch : Nat) : PowerOnly c (c.sealDrive ch) := ite (fun _ => setSealX c ch _) fun _ => refl c
theorem readied (c : Chip) (ch : Nat) : PowerOnly c (c.readied ch) := by
  unfold Chip.readied
  exact ((((((setDie c _ _).trans (setChan _ _ _)).trans (ite (fun _ => fbump _ _ _) fun _ => refl _)).trans
    (fset _ _ _ _)).trans (fset _ _ _ _)).trans (fbit _ _ _ _)).trans (bump _ _ 1)
theorem runStart (c : Chip) (ch : Nat) : PowerOnly c (c.runStart ch) := by
  unfold Chip.runStart
  exact (((ite (fun _ => newPeriod _ _ _) fun _ => refl _).trans (ite (fun _ => fset _ _ _ _) fun _ => refl _)).trans
    (lidStart _ _ _)).trans (sealDrive _ ch)
theorem grant (c : Chip) (ch : Nat) : PowerOnly c (c.grant ch) := ((readied c ch).trans (setChRun _ _ _)).trans (runStart _ ch)
theorem xcGrant (c : Chip) (n src : Nat) : PowerOnly c (c.xcGrant n src) :=
  (((draw c).trans (setDie _ _ _)).trans (wr _ _ _)).trans (wr _ _ _)
theorem grantReq (c : Chip) (r : StartReq) : PowerOnly c (c.grantReq r) := ite (fun _ => xcGrant c _ _) fun _ => grant c r.ch
theorem grantInOrder (n : Nat) : ∀ (k : Nat) (c : Chip), PowerOnly c (Chip.grantInOrder n k c)
  | 0, c => refl c
  | k + 1, c => by
    rw [Chip.grantInOrder]
    split
    · exact refl c
    · exact ite (fun _ => (grantReq c _).trans (grantInOrder n k _)) fun _ => refl c
theorem reexamine (c : Chip) (n : Nat) : PowerOnly c (c.reexamine n) := grantInOrder n _ c

end PowerOnly

/-! ### Valves -/

/-- The registers of valve v that its states write, and the counters of its group. -/
def ValveWrites (v : Nat) (p : Nat × Fld) : Prop :=
  p.1 ∈ [R.VLV_STATUS v, R.VLV_CMD v, R.VLV_FAULT_CNT v, R.VLV_CODE_CNT v, R.VLV_ON_CNT v, R.VG_FEEDPEAK_CNT (v / 2), R.VG_NR_DEFER_CNT (v / 2)]

namespace Spares

variable {v : Nat}

theorem setVState (c : Chip) (x : ValveState) : Spares (ValveWrites v) c (c.setVState v x) := fset c _ (by simp [ValveWrites])
theorem setValve {W : Nat × Fld → Prop} (c : Chip) (v : Nat) (x : ValveX) : Spares W c (c.setValve v x) := of_regs rfl
theorem setVRun (c : Chip) (x : ValveState) : Spares (ValveWrites v) c (c.setVRun v x) :=
  ite (fun _ => setValve c v _) fun _ => setVState c x
theorem vUnwait {W : Nat × Fld → Prop} (c : Chip) (v : Nat) : Spares W c (c.vUnwait v) := of_regs rfl
theorem vPeak (c : Chip) (feed : Bool) : Spares (ValveWrites v) c (c.vPeak v feed) :=
  ((((setVRun c _).trans (fbit _ _ (by simp [ValveWrites]))).trans (bump _ 1 (by simp [ValveWrites]))).trans
    (ite (fun _ => bump _ 1 (by simp [ValveWrites])) fun _ => refl _)).trans (served (Served.finish _ _ _ _))
theorem vBoostCheck (c : Chip) : Spares (ValveWrites v) c (c.vBoostCheck v) :=
  ite (fun _ => vPeak c _) fun _ => ite (fun _ => vPeak c _) fun _ => (setVRun c _).trans (bump _ 1 (by simp [ValveWrites]))
theorem vServe (c : Chip) (n : Nat) : Spares (fun p => ∃ v ∈ c.vWaiting n, ValveWrites v p) c (c.vServe n) :=
  foldl (fun v hv d => ite (fun _ => (vUnwait d v).trans ((vBoostCheck _).mono fun _ h => ⟨v, hv, h⟩)) fun _ => refl d) c
theorem vFreed (c : Chip) (n : Nat) : Spares (fun p => SchedWrites p ∨ ∃ v ∈ c.vWaiting n, ValveWrites v p) c (c.vFreed n) :=
  ((vServe c n).mono fun _ h => .inr h).trans ((reexamine _ n).mono fun _ h => .inl h)
theorem vLeave (c : Chip) (x : ValveState) : Spares (ValveWrites v) c (c.vLeave v x) :=
  ((fset c _ (by simp [ValveWrites])).trans (fset _ _ (by simp [ValveWrites]))).trans (setVRun _ _)
theorem vCount (c : Chip) (code : Nat) : Spares (ValveWrites v) c (c.vCount v code) :=
  ite (fun _ => fbump c (by simp [ValveWrites])) fun _ => fbump c (by simp [ValveWrites])
theorem vgRefresh (c : Chip) (n : Nat) : Spares (fun p => ∃ k, p.1 = R.VG_STATUS k) c (c.vgRefresh n) := by
  intro a f _ _ hf hw
  by_cases ha : ∃ k, a = R.VG_STATUS k
  · have h0 := hw wholeFld ha
    have : f.w = 0 := by
      simp only [Apart, wholeFld] at h0
      omega
    simp [Chip.fget, Fld.get, this, Nat.mod_one]
  · exact congrArg f.get (Chip.rd_vgRefresh_ne c fun k _ h => ha ⟨k, h⟩)

/-- What a fault leaves to be said: its event, and the commands that it ends. -/
theorem vFaultOne (c : Chip) (hv : v < 16) (code : Nat) : Spares (ValveWrites v) c (c.vFaultOne v code) := by
  have hd : vDie v < 4 := by
    unfold vDie
    omega
  unfold Chip.vFaultOne
  extract_lets c₁ c₂
  have h₁ : Spares (ValveWrites v) c c₁ :=
    ((((((vUnwait c v).trans (vLeave _ _)).trans (setVState _ _)).trans (fset _ _ (by simp [ValveWrites]))).trans
      (fset _ _ (by simp [ValveWrites]))).trans (vCount _ _)).trans (setValve _ _ _)
  exact (h₁.trans (served ((Served.q10From _ _ _ _).trans (Served.raiseFrom _ _ (by omega))))).trans
    (served ((Served.finish _ _ _ _).trans (Served.finish _ _ _ _)))

/-- The state of a valve that W does not write. -/
theorem vState {W : Nat × Fld → Prop} {c c' : Chip} (h : Spares W c c') (hv : v < 16)
    (hw : ∀ g, W (R.VLV_STATUS v, g) → Apart F.VLV_STATUS_STATE g) : c'.vState v = c.vState v := by
  refine congrArg ValveState.ofCode (h _ _ ?_ ?_ (by decide) hw) <;> simp only [R.VLV_STATUS, vlvBase, vgBase] <;> omega

end Spares

/-- A valve's registers are no other valve's and none of what a scheduler writes. -/
theorem ValveWrites.ne_reg {v w o : Nat} {g : Fld} (h : ValveWrites w (vlvBase v + o, g)) (ho : o < 0x40) : w = v := by
  simp only [ValveWrites, List.mem_cons, List.not_mem_nil, or_false, R.VLV_STATUS, R.VLV_CMD, R.VLV_FAULT_CNT, R.VLV_CODE_CNT, R.VLV_ON_CNT,
    R.VG_FEEDPEAK_CNT, R.VG_NR_DEFER_CNT, vlvBase, vgBase] at h
  omega
theorem SchedWrites.not_valve {v o : Nat} {g : Fld} (ho : o < 0x40) : ¬ SchedWrites (vlvBase v + o, g) := by
  intro h
  have := h.low
  simp only [vlvBase, vgBase] at this
  omega

end Sys2Proof.Machine
end

section
/-! PROOF. Faults, re-arming, disabling and paralleling of valves (R231, R244, R245). -/

namespace Sys2Proof.Machine
open Sys2Proof

section
variable (c : Chip) (a : Nat) (f : Fld)
@[simp] theorem Chip.vWaiting_fset (v n : Nat) : (c.fset a f v).vWaiting n = c.vWaiting n := (rfl)
@[simp] theorem Chip.vWaiting_setValve (v : Nat) (x : ValveX) (n : Nat) : (c.setValve v x).vWaiting n = c.vWaiting n := (rfl)
@[simp] theorem Chip.vWaiting_fbump (n : Nat) : (c.fbump a f).vWaiting n = c.vWaiting n := (rfl)
@[simp] theorem Chip.vWaiting_setVState (v : Nat) (x : ValveState) (n : Nat) : (c.setVState v x).vWaiting n = c.vWaiting n :=
  Chip.vWaiting_fset _ _ _ _ _
@[simp] theorem Chip.vWaiting_vCount (v k n : Nat) : (c.vCount v k).vWaiting n = c.vWaiting n := by
  unfold Chip.vCount
  split <;> simp
@[simp] theorem Chip.vWaiting_setVRun (v : Nat) (x : ValveState) (n : Nat) : (c.setVRun v x).vWaiting n = c.vWaiting n := by
  unfold Chip.setVRun
  split <;> simp
@[simp] theorem Chip.vWaiting_vLeave (v : Nat) (x : ValveState) (n : Nat) : (c.vLeave v x).vWaiting n = c.vWaiting n := by simp [Chip.vLeave]
@[simp] theorem Chip.vWaiting_vUnwait_self (v : Nat) : (c.vUnwait v).vWaiting (vDie v) = (c.vWaiting (vDie v)).filter (· ≠ v) :=
  Tbl.get_set_self _ _ _ _
end

@[simp] theorem ValveState.ofCode_code (x : ValveState) : ValveState.ofCode x.code = x := by cases x <;> rfl
theorem ValveState.code_lt (x : ValveState) : x.code < 16 := by cases x <;> decide
theorem Chip.vState_setVState (c : Chip) (v : Nat) (x : ValveState) : (c.setVState v x).vState v = x := by
  rw [Chip.setVState, Chip.vState, Chip.fget_fset_self _ _ _ _ (by decide)]
  exact (congrArg ValveState.ofCode (Nat.mod_eq_of_lt (ValveState.code_lt x))).trans (ValveState.ofCode_code x)

/-- What is shown of a valve: its state and the code of its fault. -/
structure Chip.ShowsFault (c : Chip) (v code : Nat) : Prop where
  state : c.vState v = .fault
  code : c.fget (R.VLV_STATUS v) F.VLV_STATUS_FAULT = code
  req : c.vRequested v = false

/-- Other valves' writes, a scheduler's and the group's own leave it. -/
theorem Chip.ShowsFault.of_rd {c c' : Chip} {v code : Nat} (h : c.ShowsFault v code) (hs : c'.rd (R.VLV_STATUS v) = c.rd (R.VLV_STATUS v))
    (hc : c'.rd (R.VLV_CMD v) = c.rd (R.VLV_CMD v)) : c'.ShowsFault v code := by
  obtain ⟨h₁, h₂, h₃⟩ := h
  refine ⟨?_, ?_, ?_⟩
  · rw [← h₁, Chip.vState, Chip.fget, hs]
    rfl
  · rw [← h₂, Chip.fget, hs]
    rfl
  · rw [← h₃, Chip.vRequested, Chip.flag, Chip.fget, hc]
    rfl
theorem Chip.ShowsFault.spares {W : Nat × Fld → Prop} {c c' : Chip} {v code : Nat} (h : c.ShowsFault v code) (hv : v < 16) (hs : Spares W c c')
    (hw : ∀ o < 0x40, ∀ g, ¬ W (vlvBase v + o, g)) : c'.ShowsFault v code := by
  have hr (o : Nat) (ho : o < 0x40) : c'.rd (vlvBase v + o) = c.rd (vlvBase v + o) := by
    refine hs.rd ?_ ?_ (hw o ho) <;> simp only [vlvBase, vgBase] <;> omega
  exact h.of_rd (hr 0x10 (by decide)) (hr 0xC (by decide))

/-- The registers, the position and the waiting list of a valve at its fault, before the event is told (R244). -/
def Chip.faulted (c : Chip) (v code : Nat) : Chip :=
  ((c.vUnwait v).vLeave v .fault).setVState v .fault |>.fset (R.VLV_STATUS v) F.VLV_STATUS_FAULT code |>.vClearReq v |>.vCount v code
    |>.setValve v { sub := 0, hot := code == 1 || code == 4 }
theorem Chip.vFaultOne_served (c : Chip) {v : Nat} (hv : v < 16) (code : Nat) : Served (c.faulted v code) (c.vFaultOne v code) := by
  have hd : vDie v < 4 := by
    unfold vDie
    omega
  exact ((Served.q10From _ _ _ _).trans (Served.raiseFrom _ _ (by omega))).trans ((Served.finish _ _ _ _).trans (Served.finish _ _ _ _))


theorem Chip.rd_vCount_ne (c : Chip) {v k a : Nat} (h₁ : a ≠ R.VLV_FAULT_CNT v) (h₂ : a ≠ R.VLV_CODE_CNT v) : (c.vCount v k).rd a = c.rd a := by
  unfold Chip.vCount
  split
  · exact Chip.rd_fset_ne c _ _ h₁
  · exact Chip.rd_fset_ne c _ _ h₂

theorem Chip.faulted_shows (c : Chip) {v code : Nat} (hcode : code < 16) : (c.faulted v code).ShowsFault v code := by
  obtain ⟨d, hd⟩ : ∃ d, d = ((c.vUnwait v).vLeave v .fault).setVState v .fault := ⟨_, rfl⟩
  have hst : d.vState v = .fault := hd ▸ Chip.vState_setVState _ _ _
  have hc : (((d.fset (R.VLV_STATUS v) F.VLV_STATUS_FAULT code).vClearReq v)).ShowsFault v code := by
    refine ⟨?_, ?_, ?_⟩
    · rw [← hst, Chip.vClearReq, Chip.vState, Chip.fget_fset_ne _ _ _ _ (by simp [R.VLV_STATUS, R.VLV_CMD]),
        Chip.fget_fset_field _ _ _ _ _ (by decide) (by decide)]
      rfl
    · rw [Chip.vClearReq, Chip.fget_fset_ne _ _ _ _ (by simp [R.VLV_STATUS, R.VLV_CMD]), Chip.fget_fset_self _ _ _ _ (by decide)]
      exact Nat.mod_eq_of_lt hcode
    · exact Chip.flag_fset_zero _ _ _ (by decide)
  rw [Chip.faulted, ← hd]
  refine hc.of_rd ?_ ?_ <;> refine (Chip.rd_vCount_ne _ ?_ ?_) <;> simp [R.VLV_STATUS, R.VLV_CMD, R.VLV_FAULT_CNT, R.VLV_CODE_CNT]

theorem Chip.vFaultOne_says (c : Chip) {v code : Nat} (hv : v < 16) (hcode : code < 16) :
    (c.vFaultOne v code).ShowsFault v code ∧ ((c.vFaultOne v code).valve v).hot = (code == 1 || code == 4) ∧
      (c.vFaultOne v code).vWaiting (vDie v) = (c.vWaiting (vDie v)).filter (· ≠ v) := by
  have hs := Chip.vFaultOne_served c hv code
  refine ⟨(Chip.faulted_shows c hcode).of_rd (hs.rd_die ?_) (hs.rd_die ?_), ?_, ?_⟩
  · simp only [R.VLV_STATUS, vlvBase, vgBase]
    omega
  · simp only [R.VLV_CMD, vlvBase, vgBase]
    omega
  · rw [hs.valve, Chip.faulted, Chip.valve_setValve_self]
  · rw [hs.vWaiting]
    simp [Chip.faulted, Chip.vClearReq]

/-- A fault that has given its slot on and is shown in VG_STATUS still shows. -/
theorem Chip.ShowsFault.freed {c : Chip} {v code n m : Nat} (h : c.ShowsFault v code) (hv : v < 16) (hw : v ∉ c.vWaiting n) :
    ((c.vFreed n).vgRefresh m).ShowsFault v code := by
  refine (h.spares hv (Spares.vFreed c n) ?_).spares hv (Spares.vgRefresh _ m) ?_
  · rintro o ho g (hg | ⟨w, hw', hg⟩)
    · exact SchedWrites.not_valve ho hg
    · exact hw (hg.ne_reg ho ▸ hw')
  · rintro o ho g ⟨k, hk⟩
    simp only [R.VG_STATUS, vlvBase, vgBase] at hk
    omega

/-- Every valve of a list faults in turn (R244 code 1). -/
theorem Chip.faults_show {n : Nat} : ∀ (l : List Nat) (c : Chip) (p : Nat → Prop), (∀ v ∈ l, v < 16 ∧ vDie v = n) →
    (∀ v, p v → v < 16 ∧ c.ShowsFault v 1 ∧ v ∉ c.vWaiting n) →
    ∀ v, p v ∨ v ∈ l → (l.foldl (fun c v => c.vFaultOne v 1) c).ShowsFault v 1 ∧ v ∉ (l.foldl (fun c v => c.vFaultOne v 1) c).vWaiting n
  | [], c, p, _, hp, v, hv => (hp v (by simpa using hv)).2
  | x :: l, c, p, hl, hp, v, hv => by
    obtain ⟨hx, rfl⟩ := hl x (by simp)
    obtain ⟨h₁, -, h₃⟩ := Chip.vFaultOne_says c hx (code := 1) (by decide)
    refine Chip.faults_show l (c.vFaultOne x 1) (fun v => p v ∨ v = x) (fun v hv => hl v (by simp [hv])) ?_ v (by simp only [List.mem_cons] at hv; tauto)
    rintro v (hv | rfl)
    · obtain ⟨hv16, hs, hw⟩ := hp v hv
      refine ⟨hv16, ?_, by simp [h₃, hw]⟩
      by_cases hvx : v = x
      · rw [hvx]
        exact h₁
      · exact hs.spares hv16 (Spares.vFaultOne c hx 1) fun o ho g hg => hvx (hg.ne_reg ho).symm
    · exact ⟨hx, h₁, by simp [h₃]⟩


theorem Chip.vServe_none {c : Chip} {n : Nat} (h : c.vWaiting n = []) : c.vServe n = c := by
  rw [Chip.vServe, h]
  rfl

theorem Chip.valve_fset (c : Chip) (a : Nat) (f : Fld) (x v : Nat) : (c.fset a f x).valve v = c.valve v := rfl
theorem Chip.valve_setHs (c : Chip) (l : Tbl HsInput) (v : Nat) : ({ c with hsInput := l } : Chip).valve v = c.valve v := rfl
theorem Chip.valve_vgRefresh (c : Chip) (n v : Nat) : (c.vgRefresh n).valve v = c.valve v := by
  refine List.foldlRecOn (motive := fun c' : Chip => c'.valve v = c.valve v) _ _ rfl fun c' hc k _ => ?_
  simp only [Chip.fbit]
  rw [Chip.valve_fset, Chip.valve_fset, Chip.valve_fset, Chip.valve_setHs, hc]

/-- The status of a valve at a refresh. -/
theorem Chip.rd_vgRefresh_valve (c : Chip) {v o : Nat} (n : Nat) (ho : o < 0x40) : (c.vgRefresh n).rd (vlvBase v + o) = c.rd (vlvBase v + o) := by
  refine Chip.rd_vgRefresh_ne c fun k _ => ?_
  simp only [R.VG_STATUS, vlvBase, vgBase]
  omega

/-! ### What a write of a valve's registers stores -/

def vlvCfgDesc : RegDesc := ⟨.VLV_CFG, 0x40270108, [(4, 0x80000, 0), (2, 0x1000, 0), (2, 0x40, 0)], 0xF0000FFF, 0, 0, 0, 0, 0xC0000000⟩
def vlvCmdDesc : RegDesc := ⟨.VLV_CMD, 0x4027010C, [(4, 0x80000, 0), (2, 0x1000, 0), (2, 0x40, 0)], 1, 0, 0, 2, 0, 0⟩

theorem Chip.wrote_vlvCfg (c : Chip) (n j k : Nat) (old x : Word) : c.wrote .sup .VLV_CFG [n, j, k] old x = c.vCfg (4 * n + 2 * j + k) := rfl
theorem Chip.wrote_vlvCmd (c : Chip) (n j k : Nat) (old x : Word) : c.wrote .sup .VLV_CMD [n, j, k] old x = c.vCmd (4 * n + 2 * j + k) x := rfl

theorem stored_vlvCfg_index (l : List Nat) (old x : Word) : storedWord vlvCfgDesc l old x = storedWord vlvCfgDesc [] old x := rfl
theorem stored_vlvCmd_index (l : List Nat) (old x : Word) : storedWord vlvCmdDesc l old x = storedWord vlvCmdDesc [] old x := rfl

theorem Chip.regWrite_as_vlvCfg {a n j k : Nat} (h : findReg a = some (vlvCfgDesc, [n, j, k])) (c : Chip) (x : Word) :
    c.regWrite .sup a x = c.plainWrite .sup vlvCfgDesc [n, j, k] a x := by simp [Chip.regWrite, h, vlvCfgDesc, writerOk_sup, ctrHalf]
theorem Chip.regWrite_as_vlvCmd {a n j k : Nat} (h : findReg a = some (vlvCmdDesc, [n, j, k])) (c : Chip) (x : Word) :
    c.regWrite .sup a x = c.plainWrite .sup vlvCmdDesc [n, j, k] a x := by simp [Chip.regWrite, h, vlvCmdDesc, writerOk_sup, ctrHalf]

section
variable (v : Fin 16)
theorem findReg_vlvCfg : findReg (R.VLV_CFG v) = some (vlvCfgDesc, [v.val / 4, v.val % 4 / 2, v.val % 2]) := by fin_cases v <;> rfl
theorem findReg_vlvCmd : findReg (R.VLV_CMD v) = some (vlvCmdDesc, [v.val / 4, v.val % 4 / 2, v.val % 2]) := by fin_cases v <;> rfl
theorem dieOf_vlvCfg : dieOf (R.VLV_CFG v) = v.val / 4 + 2 := by revert v; decide
theorem dieOf_vlvCmd : dieOf (R.VLV_CMD v) = v.val / 4 + 2 := by revert v; decide
theorem isAlias_vlvCfg : isAlias (R.VLV_CFG v) = false := by revert v; decide
theorem isAlias_vlvCmd : isAlias (R.VLV_CMD v) = false := by revert v; decide

theorem Chip.regWrite_vlvCfg (c : Chip) (x : Word) :
    c.regWrite .sup (R.VLV_CFG v) x = (c.wr (R.VLV_CFG v) (storedWord vlvCfgDesc [] (c.rd (R.VLV_CFG v)) x)).vCfg v := by
  have hix : 4 * (v.val / 4) + 2 * (v.val % 4 / 2) + v.val % 2 = v := by omega
  rw [Chip.regWrite_as_vlvCfg (findReg_vlvCfg v), Chip.plainWrite_unlocked rfl rfl rfl, show vlvCfgDesc.id = .VLV_CFG from rfl, Chip.wrote_vlvCfg, hix, stored_vlvCfg_index]
theorem Chip.regWrite_vlvCmd (c : Chip) (x : Word) :
    c.regWrite .sup (R.VLV_CMD v) x = (c.wr (R.VLV_CMD v) (storedWord vlvCmdDesc [] (c.rd (R.VLV_CMD v)) x)).vCmd v x := by
  have hix : 4 * (v.val / 4) + 2 * (v.val % 4 / 2) + v.val % 2 = v := by omega
  rw [Chip.regWrite_as_vlvCmd (findReg_vlvCmd v), Chip.plainWrite_unlocked rfl rfl rfl, show vlvCmdDesc.id = .VLV_CMD from rfl, Chip.wrote_vlvCmd, hix, stored_vlvCmd_index]
end


/-- A write to a valve's register on its way: what the die's word holds then, and what else is as it was. -/
theorem Travelled.rd_valve {c c' : Chip} {v : Nat} (h : Travelled (v / 4 + 2) c c') (hv : v < 16) {o : Nat} (ho : o < 0x40) :
    c'.rd (vlvBase v + o) = c.rd (vlvBase v + o) := by
  refine h.rd ?_
  rw [tokenAddr_pwr (by omega)]
  simp only [vlvBase, vgBase]
  omega
theorem Travelled.only_valve {c c' : Chip} {v : Nat} (h : Travelled (v / 4 + 2) c c') (hv : v < 16) : Only [Blk.pwr (vDie v)] c c' := by
  refine h.only ⟨Blk.pwr (vDie v), by simp, ?_⟩
  rw [tokenAddr_pwr (by omega)]
  simp only [Blk.pwr, vDie]
  omega
theorem Only.valveReg (c : Chip) {v o : Nat} (x : Word) (ho : o < 0x40) : Only [Blk.pwr (vDie v)] c (c.wr (vlvBase v + o) x) := by
  refine Only.wr c _ _ ⟨Blk.pwr (vDie v), by simp, ?_⟩
  simp only [Blk.pwr, vDie, vlvBase, vgBase]
  omega

theorem Chip.vUnlimp_off {c : Chip} {v : Nat} (h : c.vState v ≠ .limp) : c.vUnlimp v = c := if_neg h
theorem Chip.vRun_of_state {c : Chip} {v : Nat} {x : ValveState} (h : c.vState v = x) (hx : x ≠ .held ∧ x ≠ .limp) : c.vRun v = x := by
  simp [Chip.vRun, Chip.vInHold, h, hx.1, hx.2]

/-- EN written 0 of a valve in OFF, and 1 of one in DISABLED (R245). -/
theorem Chip.vCfg_disables {c : Chip} {v : Nat} (h : c.vState v = .off) (he : c.vEnabled v = false) :
    c.vCfg v = (c.setVState v .disabled).vgRefresh (vDie v) := by
  have hr : c.vRun v = .off := Chip.vRun_of_state h (by decide)
  simp [Chip.vCfg, he, Chip.vUnlimp_off (show c.vState v ≠ .limp by rw [h]; decide), hr]
theorem Chip.vCfg_enables {c : Chip} {v : Nat} (h : c.vState v = .disabled) (he : c.vEnabled v = true) :
    c.vCfg v = (c.setVState v .off).vgRefresh (vDie v) := by
  simp [Chip.vCfg, he, h]

theorem storedEn (old x : Word) : F.VLV_CFG_EN.get (storedWord vlvCfgDesc [] old x) = F.VLV_CFG_EN.get x := by
  have hk : ∀ y, F.VLV_CFG_EN.get (F.VLV_CFG_LIMP_MODE.keep (fun v => v == 1 || v == 3) old y) = F.VLV_CFG_EN.get y := by
    intro y
    unfold Fld.keep
    split
    · exact Fld.get_put_ne _ _ _ _ (by decide) (by decide)
    · rfl
  exact (hk _).trans (Fld.get_mergeWord _ _ _ _ _ _ (by decide))

/-- The state that a valve's write leaves it in, and its EN. -/
theorem Chip.stateWritten (c : Chip) {v : Nat} (x : ValveState) :
    ((c.setVState v x).vgRefresh (vDie v)).vState v = x ∧ ((c.setVState v x).vgRefresh (vDie v)).vEnabled v = c.vEnabled v ∧
      Only [Blk.pwr (vDie v)] c ((c.setVState v x).vgRefresh (vDie v)) := by
  refine ⟨?_, ?_, (Only.valveReg c (o := 0x10) _ (by decide)).trans (Only.vgRefresh _ _)⟩
  · exact (congrArg (fun w => ValveState.ofCode (F.VLV_STATUS_STATE.get w)) (Chip.rd_vgRefresh_valve _ _ (by decide : 0x10 < 0x40))).trans
      (Chip.vState_setVState c v x)
  · refine congrArg (fun w => F.VLV_CFG_EN.get w == 1) ((Chip.rd_vgRefresh_valve _ _ (by decide : 8 < 0x40)).trans (Chip.rd_fset_ne _ _ _ ?_))
    simp [R.VLV_STATUS]

/-- The supervisor's word for VLV_CFG is stored; the die acts on it. -/
theorem vlvCfg_lands {s : State} {v : Fin 16} (x : Word) (h : s.chip.direct .sup (R.VLV_CFG v) = true) :
    ∃ d : Chip, d.vEnabled v = (F.VLV_CFG_EN.get x == 1) ∧ d.vState v = s.chip.vState v ∧ Only [Blk.pwr (vDie v)] s.chip d ∧
      s.write .sup (R.VLV_CFG v) x = { s with chip := d.vCfg v } := by
  obtain ⟨c, hc, hw⟩ := State.write_travels x h (by rw [dieOf_vlvCfg]; omega) (isAlias_vlvCfg v)
  rw [dieOf_vlvCfg] at hc
  rw [Chip.regWrite_vlvCfg] at hw
  refine ⟨c.wr (R.VLV_CFG v) (storedWord vlvCfgDesc [] (c.rd (R.VLV_CFG v)) x), ?_, ?_,
    (hc.only_valve v.isLt).trans (Only.valveReg c (o := 8) _ (by decide)), hw⟩
  · rw [Chip.vEnabled, Chip.flag, Chip.fget_wr_self, storedEn]
  · refine congrArg (fun w => ValveState.ofCode (F.VLV_STATUS_STATE.get w)) ((Chip.rd_wr_ne c _ ?_).trans (hc.rd_valve v.isLt (o := 0x10) (by decide)))
    simp [R.VLV_STATUS, R.VLV_CFG]

theorem storedReq (old x : Word) : F.VLV_CMD_REQ.get (storedWord vlvCmdDesc [] old x) = F.VLV_CMD_REQ.get x :=
  Fld.get_mergeWord _ _ _ _ _ _ (by decide)

/-- The supervisor's word for VLV_CMD is stored; the die acts on it. -/
theorem vlvCmd_lands {s : State} {v : Fin 16} (x : Word) (h : s.chip.direct .sup (R.VLV_CMD v) = true) :
    ∃ d : Chip, d.vRequested v = (F.VLV_CMD_REQ.get x == 1) ∧ (∀ o < 0x40, o ≠ 0xC → d.rd (vlvBase v + o) = s.chip.rd (vlvBase v + o)) ∧
      d.valve v = s.chip.valve v ∧ s.write .sup (R.VLV_CMD v) x = { s with chip := d.vCmd v x } := by
  obtain ⟨c, hc, hw⟩ := State.write_travels x h (by rw [dieOf_vlvCmd]; omega) (isAlias_vlvCmd v)
  rw [dieOf_vlvCmd] at hc
  rw [Chip.regWrite_vlvCmd] at hw
  refine ⟨_, ?_, fun o ho hne => ?_, (PowerOnly.wr c _ _).valve v |>.trans (hc.valve v), hw⟩
  · rw [Chip.vRequested, Chip.flag, Chip.fget_wr_self, storedReq]
  · refine (Chip.rd_wr_ne c _ ?_).trans (hc.rd_valve v.isLt ho)
    simpa [R.VLV_CMD] using hne

theorem Chip.direct_setValve (c : Chip) (v : Nat) (x : ValveX) (rq : Req) (a : Nat) : (c.setValve v x).direct rq a = c.direct rq a := rfl

/-- REARM of a valve in FAULT whose switch has cooled, enabled and not requested (R244). -/
theorem Chip.vCmd_rearms {c : Chip} {v : Nat} {x : Word} (hv : v < 16) (hx : F.VLV_CMD_REARM.get x = 1) (hs : c.vState v = .fault)
    (hh : (c.valve v).hot = false) (he : c.vEnabled v = true) (hr : c.vRequested v = false) :
    (c.vCmd v x).vState v = .off ∧ (c.vCmd v x).fget (R.VLV_STATUS v) F.VLV_STATUS_FAULT = 0 := by
  obtain ⟨d, hd⟩ : ∃ d, d = (c.setVState v .off).fset (R.VLV_STATUS v) F.VLV_STATUS_FAULT 0 := ⟨_, rfl⟩
  have hrearm : c.vRearm v = d := by
    rw [Chip.vRearm, if_pos ⟨hs, by simp [hh]⟩, if_pos he, hd]
  have hds : d.vState v = .off := by
    rw [hd, Chip.vState, Chip.fget_fset_field _ _ _ _ _ (by decide) (by decide)]
    exact Chip.vState_setVState _ _ _
  have hdr : d.vRequested v = false := by
    rw [← hr, hd]
    refine congrArg (fun w => F.VLV_CMD_REQ.get w == 1) ((Chip.rd_fset_ne _ _ _ ?_).trans (Chip.rd_fset_ne _ _ _ ?_)) <;>
      simp [R.VLV_CMD, R.VLV_STATUS]
  have htake : d.vTakeReq v = d.vOffDone v := by
    simp [Chip.vTakeReq, hdr, Chip.vRun_of_state hds (by decide)]
  have he : c.vCmd v x = (d.vOffDone v).vgRefresh (vDie v) := by
    rw [Chip.vCmd, if_pos hx, hrearm]
    rw [Chip.vUnlimp_off (by rw [hds]; decide), htake]
  have hrd : (c.vCmd v x).rd (R.VLV_STATUS v) = d.rd (R.VLV_STATUS v) := by
    rw [he]
    refine (Chip.rd_vgRefresh_valve _ _ (by decide)).trans ((Served.finish _ _ _ _).rd_die ?_)
    simp only [vlvBase, vgBase]
    omega
  constructor
  · rw [← hds, Chip.vState, Chip.fget, hrd]
    rfl
  · rw [Chip.fget, hrd, hd]
    exact Chip.fget_fset_self _ _ _ _ (by decide)

/-! ### The statement -/

/-- The high-side switch of a group trips: every valve of it shows code 1 (R244). -/
theorem Chip.highSide_shows (c : Chip) {g : Nat} (hg : g < 8) {j : Nat} (hj : j < 2) : (c.highSide g).ShowsFault (2 * g + j) 1 := by
  have hm : ∀ v ∈ c.vMembers (2 * g), v < 16 ∧ vDie v = g / 2 := by
    unfold Chip.vMembers vDie
    split
    · simp only [List.mem_map, List.mem_range]
      rintro v ⟨k, hk, rfl⟩
      omega
    · simp only [List.mem_cons, List.not_mem_nil, or_false]
      omega
  have hj' : 2 * g + j ∈ c.vMembers (2 * g) := by
    unfold Chip.vMembers vDie
    split
    · simp only [List.mem_map, List.mem_range]
      exact ⟨2 * g + j - 4 * (2 * g / 4), by omega, by omega⟩
    · simp only [List.mem_cons, List.not_mem_nil, or_false]
      omega
  obtain ⟨hs, hw⟩ := Chip.faults_show (c.vMembers (2 * g)) c (fun _ => False) hm (by simp) (2 * g + j) (.inr hj')
  exact hs.freed (by omega) hw

/-- A fault of a conducting valve, nobody waiting (R244). -/
theorem Chip.vSelect_says {c : Chip} {v code : Nat} (hv : v < 16) (hcode : code < 16) (hw : c.vWaiting (vDie v) = []) :
    (((c.vFault v code).vgRefresh (vDie v)).ShowsFault v code) ∧
      (((c.vFault v code).vgRefresh (vDie v)).valve v).hot = (code == 1 || code == 4) := by
  obtain ⟨h₁, h₂, h₃⟩ := Chip.vFaultOne_says c hv hcode
  rw [hw, List.filter_nil] at h₃
  refine ⟨h₁.freed hv (by simp [h₃]), ?_⟩
  rw [Chip.valve_vgRefresh, Chip.vFault, Chip.vFreed, Chip.vServe_none h₃, (PowerOnly.reexamine _ _).valve, h₂]

/-- Settles O24: faults of a group and of a valve, re-arming, EN written both ways, and PAR with idle valves. -/
theorem valveFaultsAndConfiguration : Obligations.ValveFaultsAndConfiguration := by
  unfold Obligations.ValveFaultsAndConfiguration
  refine ⟨?_, ?_, ?_, ?_, ?_, ?_, ?_⟩
  case refine_1 =>
    exact fun g s => ⟨_, rfl, fun j hj _ _ => ⟨(Chip.highSide_shows _ g.isLt hj).state, (Chip.highSide_shows _ g.isLt hj).code⟩⟩
  case refine_2 =>
    intro v s hc hw
    obtain ⟨h, -⟩ := Chip.vSelect_says (code := 2) v.isLt (by decide) hw
    exact ⟨_, State.next_chip (if_pos hc), h.state, h.code, h.req⟩
  case refine_3 =>
    intro v s hc hw
    obtain ⟨h, hh⟩ := Chip.vSelect_says (code := 4) v.isLt (by decide) hw
    exact ⟨_, State.next_chip (if_pos hc), h.state, h.code, hh⟩
  case refine_4 =>
    intro v data s h hreq hst hen
    obtain ⟨t, ht⟩ : ∃ t, t = s.onChip (·.setValve v { s.chip.valve v with hot := false }) := ⟨_, rfl⟩
    have hdir : t.chip.direct .sup (R.VLV_CMD v) = true := by rw [ht]; exact (Chip.direct_setValve _ _ _ _ _).trans h
    obtain ⟨d, hr, hrd, hval, hw⟩ := vlvCmd_lands (F.VLV_CMD_REARM.put data 1) hdir
    have hreg : ∀ o < 0x40, o ≠ 0xC → d.rd (vlvBase v + o) = s.chip.rd (vlvBase v + o) := fun o h₁ h₂ => (hrd o h₁ h₂).trans (by rw [ht]; rfl)
    obtain ⟨h₁, h₂⟩ := Chip.vCmd_rearms (c := d) (x := F.VLV_CMD_REARM.put data 1) v.isLt (Fld.get_put _ _ _ (by decide))
      ((congrArg (fun w => ValveState.ofCode (F.VLV_STATUS_STATE.get w)) (hreg 0x10 (by decide) (by decide))).trans hst)
      (by rw [hval, ht]; exact congrArg ValveX.hot (Chip.valve_setValve_self _ _ _))
      ((congrArg (fun w => F.VLV_CFG_EN.get w == 1) (hreg 8 (by decide) (by decide))).trans hen)
      (by rw [hr, Fld.get_put_ne _ _ _ _ (by decide) (by decide), hreq]; rfl)
    refine ⟨_, congrArg Host.Outcome.next ?_, h₁, h₂⟩
    rw [ht] at hw
    exact hw
  case refine_5 =>
    intro v data s h hst
    obtain ⟨d, hen, hds, ho, hw⟩ := vlvCfg_lands (F.VLV_CFG_EN.put data 0) h
    rw [Fld.get_put _ _ _ (by decide)] at hen
    rw [Chip.vCfg_disables (hds.trans hst) hen] at hw
    obtain ⟨h₁, h₂, h₃⟩ := Chip.stateWritten d (v := v) .disabled
    exact ⟨_, congrArg Host.Outcome.next hw, h₁, h₂.trans hen, ho.trans h₃⟩
  case refine_6 =>
    intro v data s h hst
    obtain ⟨d, hen, hds, ho, hw⟩ := vlvCfg_lands (F.VLV_CFG_EN.put data 1) h
    rw [Fld.get_put _ _ _ (by decide)] at hen
    rw [Chip.vCfg_enables (hds.trans hst) hen] at hw
    obtain ⟨h₁, h₂, h₃⟩ := Chip.stateWritten d (v := v) .off
    exact ⟨_, congrArg Host.Outcome.next hw, h₁, h₂.trans hen, ho.trans h₃⟩
  case refine_7 =>
    intro g data s h he hv
    obtain ⟨c, hc, hx⟩ := exec_vgParWrite data h
    refine ⟨_, hx, ?_, hc.only_vgPar⟩
    by_cases hp : F.VG_CFG_PAR.get data = s.chip.fget (R.VG_CFG g) F.VG_CFG_PAR
    · rw [(hc.par_same hp).1, hp]
    · exact (hc.par_idle he hp hv).1

end Sys2Proof.Machine
end

section
/-! PROOF. Windows, an identification that does not settle, and streams (R167, R171 to R173, R186, R194). -/

namespace Sys2Proof.Machine
open Sys2Proof

/-! ### A window of a channel -/

/-- The registers of a channel's window, its sequence number among them, before the energy is added. -/
def Chip.shown (c : Chip) (ch : Nat) (w : ChanWin) (avg1 : Nat) : Chip :=
  c.wr (R.CH_I_AVG ch) (.ofInt 32 (meanInt (w.cur.map (·.ma)))) |>.wr (R.CH_I_MIN ch) (.ofInt 32 (minInt (w.cur.map (·.ma))))
    |>.wr (R.CH_I_MAX ch) (.ofInt 32 (maxInt (w.cur.map (·.ma))))
    |>.wr (R.CH_I_ON ch) (.ofInt 32 (meanInt ((w.cur.filter (·.on)).map (·.ma))))
    |>.wr (R.CH_VOLT ch) (F.CH_VOLT_VOUT.put (F.CH_VOLT_VFEED.of avg1) (BitVec.ofInt 16 (meanInt w.vout)).toNat)
    |>.fset (R.CH_TJ ch) F.CH_TJ_TJ w.tj.toNat

theorem Chip.report_eq (c : Chip) (ch : Nat) (w : ChanWin) (avg1 : Nat) :
    c.report ch w avg1 = (((c.shown ch w avg1).fbumpWrap (R.CH_MEAS_SEQ ch) F.CH_MEAS_SEQ_SEQ).addEnergy ch (windowEnergy w.cur)).setChan ch
      { (((c.shown ch w avg1).fbumpWrap (R.CH_MEAS_SEQ ch) F.CH_MEAS_SEQ_SEQ).addEnergy ch (windowEnergy w.cur)).chan ch with msq := meanSquare w.cur } := rfl

theorem Chip.rd_addEnergy (c : Chip) (ch e a : Nat) : (c.addEnergy ch e).rd a = c.rd a := rfl
theorem Chip.chans_setCtr64 (c : Chip) (a : Nat) (x : Word64) : (c.setCtr64 a x).chans = c.chans := rfl

theorem Chip.rd_shown_ne (c : Chip) {ch a : Nat} (w : ChanWin) (avg1 : Nat) (h : a < chBase ch + 0x60 ∨ chBase ch + 0x78 ≤ a) :
    (c.shown ch w avg1).rd a = c.rd a := by
  have hne : ∀ o, 0x60 ≤ o → o < 0x78 → a ≠ chBase ch + o := by omega
  have hw (d : Chip) (o : Nat) (x : Word) (h₁ : 0x60 ≤ o) (h₂ : o < 0x78) : (d.wr (chBase ch + o) x).rd a = d.rd a := Chip.rd_wr_ne d x (hne o h₁ h₂)
  exact (hw _ 0x74 _ (by decide) (by decide)).trans <| (hw _ 0x70 _ (by decide) (by decide)).trans <| (hw _ 0x6C _ (by decide) (by decide)).trans <|
    (hw _ 0x68 _ (by decide) (by decide)).trans <| (hw _ 0x64 _ (by decide) (by decide)).trans (hw _ 0x60 _ (by decide) (by decide))

/-- A window's report counts once; outside the channel's measurement registers it writes nothing. -/
theorem Chip.seq_report (c : Chip) (ch : Nat) (w : ChanWin) (avg1 : Nat) :
    (c.report ch w avg1).fget (R.CH_MEAS_SEQ ch) F.CH_MEAS_SEQ_SEQ = (c.fget (R.CH_MEAS_SEQ ch) F.CH_MEAS_SEQ_SEQ + 1) % 65536 := by
  rw [Chip.report_eq, Chip.fget, Chip.rd_setChan, Chip.rd_addEnergy, ← Chip.fget, Chip.fbumpWrap, Chip.fget_fset_self _ _ _ _ (by decide),
    Chip.fget, Chip.rd_shown_ne (ch := ch) c w avg1 (by unfold R.CH_MEAS_SEQ; omega)]
  rfl
theorem Chip.rd_report_ne (c : Chip) {ch a : Nat} (w : ChanWin) (avg1 : Nat) (h : a < chBase ch + 0x60 ∨ chBase ch + 0x7C ≤ a) :
    (c.report ch w avg1).rd a = c.rd a := by
  rw [Chip.report_eq, Chip.rd_setChan, Chip.rd_addEnergy, Chip.fbumpWrap, Chip.rd_fset_ne _ _ _ (by unfold R.CH_MEAS_SEQ; omega),
    Chip.rd_shown_ne c w avg1 (by omega)]


theorem Chip.chans_shown (c : Chip) (ch : Nat) (w : ChanWin) (avg1 : Nat) : (c.shown ch w avg1).chans = c.chans := by
  rw [Chip.shown, Chip.chans_fset, Chip.chans_wr, Chip.chans_wr, Chip.chans_wr, Chip.chans_wr, Chip.chans_wr]
theorem Chip.lid_addEnergy (c : Chip) (ch e k : Nat) : ((c.addEnergy ch e).chan k).lid = (c.chan k).lid := by
  unfold Chip.addEnergy
  extract_lets x a
  rw [Chip.chan, Chip.chans_setCtr64]
  by_cases h : k = ch
  · subst h
    exact (congrArg ChanX.lid (Chip.chan_setChan_self _ _ _)).trans rfl
  · exact congrArg ChanX.lid (Chip.chan_setChan_ne _ _ h)
theorem Chip.lid_report (c : Chip) (ch : Nat) (w : ChanWin) (avg1 k : Nat) : ((c.report ch w avg1).chan k).lid = (c.chan k).lid := by
  obtain ⟨d, hd⟩ : ∃ d, d = (c.shown ch w avg1).fbumpWrap (R.CH_MEAS_SEQ ch) F.CH_MEAS_SEQ_SEQ := ⟨_, rfl⟩
  have hdc : d.chan k = c.chan k := by rw [hd, Chip.chan, Chip.chans_fbumpWrap, Chip.chans_shown, Chip.chan]
  rw [Chip.report_eq, ← hd]
  obtain ⟨e, he⟩ : ∃ e, e = d.addEnergy ch (windowEnergy w.cur) := ⟨_, rfl⟩
  rw [← hdc, ← Chip.lid_addEnergy d ch (windowEnergy w.cur), ← he]
  by_cases h : k = ch
  · subst h
    exact (congrArg ChanX.lid (Chip.chan_setChan_self _ _ _)).trans rfl
  · exact congrArg ChanX.lid (Chip.chan_setChan_ne _ _ h)

/-- The reports of the die's first k channels, none of which is being identified. -/
theorem Chip.reports_say (c : Chip) (n : Nat) (ws : List ChanWin) (avg1 : Nat) (early : List (Nat × List EarlySample)) 
    (hl : ∀ l < 48, (c.chan (48 * n + l)).lid = none) (k : Nat) (hk : k ≤ 48) :
    let f := fun (c : Chip) (l : Nat) => (c.report (48 * n + l) (c.window n l ws) avg1).lidWindow (48 * n + l) (c.window n l ws) (c.earlyOf n l early)
    (∀ l < 48, (((List.range k).foldl f c).chan (48 * n + l)).lid = none) ∧
      (∀ l < 48, ((List.range k).foldl f c).fget (R.CH_MEAS_SEQ (48 * n + l)) F.CH_MEAS_SEQ_SEQ =
        if l < k then (c.fget (R.CH_MEAS_SEQ (48 * n + l)) F.CH_MEAS_SEQ_SEQ + 1) % 65536 else c.fget (R.CH_MEAS_SEQ (48 * n + l)) F.CH_MEAS_SEQ_SEQ) ∧
      ∀ a, (∀ l < 48, a < chBase (48 * n + l) + 0x60 ∨ chBase (48 * n + l) + 0x7C ≤ a) → ((List.range k).foldl f c).rd a = c.rd a := by
  intro f
  induction k with
  | zero => exact ⟨hl, by simp, fun _ _ => rfl⟩
  | succ k ih =>
    obtain ⟨h₁, h₂, h₃⟩ := ih (by omega)
    rw [List.range_succ, List.foldl_append]
    obtain ⟨d, hd⟩ : ∃ d, d = (List.range k).foldl f c := ⟨_, rfl⟩
    rw [← hd] at h₁ h₂ h₃ ⊢
    have hf : f d k = d.report (48 * n + k) (d.window n k ws) avg1 := by
      show Chip.lidWindow _ _ _ _ = _
      rw [Chip.lidWindow, Chip.lid_report, h₁ k (by omega)]
    rw [List.foldl_cons, List.foldl_nil, hf]
    refine ⟨fun l hl => (Chip.lid_report _ _ _ _ _).trans (h₁ l hl), fun l hl => ?_, fun a ha => (Chip.rd_report_ne d _ _ (ha k (by omega))).trans (h₃ a ha)⟩
    obtain rfl | hlk := eq_or_ne l k
    · rw [Chip.seq_report, h₂ l hl, if_neg (lt_irrefl l), if_pos (Nat.lt_succ_self l)]
    · rw [Chip.fget, Chip.rd_report_ne, ← Chip.fget, h₂ l hl]
      · simp only [show (l < k + 1) = (l < k) by simp; omega]
      · simp only [R.CH_MEAS_SEQ, chBase]
        omega

/-! ### The feed's and the valves' windows -/

theorem Chip.measWindow_eq (c : Chip) (n : Nat) (ws : List ChanWin) (feed : List Nat) (early : List (Nat × List EarlySample))
    (vlv : List (BitVec 16 × BitVec 16)) (d : Chip) (hd : d = (c.feedWindow n feed).valveWindow n vlv) :
    c.measWindow n ws feed early vlv = (List.range 48).foldl (fun c l => (c.report (48 * n + l) (c.window n l ws)
      (d.fget (R.PWR_FEED_AVG n) F.PWR_FEED_AVG_AVG1)).lidWindow (48 * n + l) (c.window n l ws) (c.earlyOf n l early)) d := by
  rw [hd]
  rfl

theorem Chip.rd_valveWindow_ne (c : Chip) {n a : Nat} (vlv : List (BitVec 16 × BitVec 16)) (h : ∀ j < 4, a ≠ R.VLV_MEAS (4 * n + j)) :
    (c.valveWindow n vlv).rd a = c.rd a :=
  List.foldlRecOn (motive := fun c' : Chip => c'.rd a = c.rd a) _ _ rfl fun _ hc j hj => (Chip.rd_wr_ne _ _ (h j (List.mem_range.1 hj))).trans hc
theorem Chip.chans_valveWindow (c : Chip) (n : Nat) (vlv : List (BitVec 16 × BitVec 16)) : (c.valveWindow n vlv).chans = c.chans :=
  List.foldlRecOn (motive := fun c' : Chip => c'.chans = c.chans) _ _ rfl fun _ hc _ _ => (Chip.chans_wr _ _ _).trans hc


theorem Chip.chans_feedWindow (c : Chip) (n : Nat) (feed : List Nat) : (c.feedWindow n feed).chans = c.chans := by
  rw [Chip.feedWindow, Chip.chans_wr, Chip.chans_wr, Chip.chans_setDie]

/-- The feed's averages and the valves' currents leave the channels as they are. -/
theorem Chip.feedWindow_says (c : Chip) {n : Nat} (feed : List Nat) (vlv : List (BitVec 16 × BitVec 16)) :
    ((c.feedWindow n feed).valveWindow n vlv).fget (R.PWR_FEED_AVG n) F.PWR_FEED_AVG_AVG1 = feed.sum / feed.length % 65536 ∧
      ((c.feedWindow n feed).valveWindow n vlv).chans = c.chans ∧
      ∀ a, a ≠ R.PWR_FEED_AVG n → a ≠ R.PWR_FEED_RANGE n → (∀ j < 4, a ≠ R.VLV_MEAS (4 * n + j)) → ((c.feedWindow n feed).valveWindow n vlv).rd a = c.rd a := by
  refine ⟨?_, (Chip.chans_valveWindow _ _ _).trans (Chip.chans_feedWindow c n feed), fun a h₁ h₂ h₃ => ?_⟩
  · rw [Chip.fget, Chip.rd_valveWindow_ne, Chip.feedWindow, Chip.rd_wr_ne _ _ (by simp [R.PWR_FEED_AVG, R.PWR_FEED_RANGE]), Chip.rd_wr_self,
      Fld.get_put _ _ _ (by decide)]
    · rfl
    · intro j hj
      simp only [R.PWR_FEED_AVG, R.VLV_MEAS, vlvBase, vgBase]
      omega
  · rw [Chip.rd_valveWindow_ne _ _ h₃, Chip.feedWindow, Chip.rd_wr_ne _ _ h₂, Chip.rd_wr_ne _ _ h₁]
    rfl

/-! ### An identification that does not settle -/

/-- What is written of it, R first (R186). -/
def Chip.unsettled (c : Chip) (ch : Nat) (r : Rat) : Chip :=
  c.fset (R.CH_LID_CTRL ch) F.CH_LID_CTRL_ARM 0 |>.wr (R.CH_LID_R ch) (regVal (r * 1000))
    |>.fset (R.CH_LID_RESULT ch) F.CH_LID_RESULT_TYPE 6 |>.fset (R.CH_LID_RESULT ch) F.CH_LID_RESULT_CONF 0
theorem Chip.lidUnsettled_eq {c : Chip} {ch : Nat} {x : LidRun} (h : (c.chan ch).lid = some x) :
    ∃ r, c.lidUnsettled ch = ((c.unsettled ch r).lidEnd ch 4).lidReply ch := by
  unfold Chip.lidUnsettled
  rw [h]
  exact ⟨_, rfl⟩

/-- The fields of an end, and the registers of its die. -/
def endFields (ch : Nat) : List (Nat × Fld) :=
  [(R.CH_LID_RESULT ch, F.CH_LID_RESULT_STATUS), (R.CH_LID_RESULT ch, F.CH_LID_RESULT_SEQ), (R.PWR_HK_STATUS (pdie ch), wholeFld)]
theorem Spares.lidEnd (c : Chip) (ch st : Nat) : Spares (· ∈ endFields ch) c (c.lidEnd ch st) :=
  (((fset c _ (by simp [endFields])).trans (fset _ _ (by simp [endFields]))).trans (setChan _ _ _)).trans (updateHk _ _ (by simp [endFields, pdie]))
@[simp] theorem Chip.chans_updateHk (c : Chip) (n l : Nat) : (c.updateHk n l).chans = c.chans := by simp [Chip.updateHk]
theorem Chip.lid_lidEnd (c : Chip) (ch st : Nat) : ((c.lidEnd ch st).chan ch).lid = none := by
  unfold Chip.lidEnd
  rw [Chip.chan, Chip.chans_updateHk]
  exact (congrArg ChanX.lid (Chip.chan_setChan_self _ _ _)).trans rfl

theorem Chip.lidOver_says {ch : Nat} (hch : ch < 192) (c : Chip) (r : Rat) :
    (((c.unsettled ch r).lidEnd ch 4).lidReply ch).fget (R.CH_LID_RESULT ch) F.CH_LID_RESULT_TYPE = 6 ∧
      (((c.unsettled ch r).lidEnd ch 4).lidReply ch).fget (R.CH_LID_RESULT ch) F.CH_LID_RESULT_CONF = 0 ∧
      (((c.unsettled ch r).lidEnd ch 4).lidReply ch).flag (R.CH_LID_CTRL ch) F.CH_LID_CTRL_ARM = false ∧
      ((((c.unsettled ch r).lidEnd ch 4).lidReply ch).chan ch).lid = none := by
  have hs : Served ((c.unsettled ch r).lidEnd ch 4) (((c.unsettled ch r).lidEnd ch 4).lidReply ch) := Served.finish _ _ _ _
  have he := Spares.lidEnd (c.unsettled ch r) ch 4
  have hapart (f : Fld) (h₁ : Apart f F.CH_LID_RESULT_STATUS) (h₂ : Apart f F.CH_LID_RESULT_SEQ) : 
      ∀ g, (R.CH_LID_RESULT ch, g) ∈ endFields ch → Apart f g := by
    intro g hg
    simp [endFields, R.CH_LID_RESULT, R.PWR_HK_STATUS, chBase, pdie] at hg
    obtain rfl | rfl | ⟨hg, rfl⟩ := hg
    · exact h₁
    · exact h₂
    · omega
  refine ⟨?_, ?_, ?_, ?_⟩
  · rw [hs.fget_die _ (by simp only [R.CH_LID_RESULT, chBase]; omega), he (R.CH_LID_RESULT ch) F.CH_LID_RESULT_TYPE (chReg_lo _ _) (chReg_hi hch (by decide)) (by decide)
      (hapart _ (by decide) (by decide)), Chip.unsettled, Chip.fget_fset_field _ _ _ _ _ (by decide) (by decide), Chip.fget_fset_self _ _ _ _ (by decide)]
    rfl
  · rw [hs.fget_die _ (by simp only [R.CH_LID_RESULT, chBase]; omega), he (R.CH_LID_RESULT ch) F.CH_LID_RESULT_CONF (chReg_lo _ _) (chReg_hi hch (by decide)) (by decide)
      (hapart _ (by decide) (by decide)),
      Chip.unsettled, Chip.fget_fset_self _ _ _ _ (by decide), Nat.zero_mod]
  · rw [hs.flag_die _ (by simp only [R.CH_LID_CTRL, chBase]; omega), he.flag (R.CH_LID_CTRL ch) _ (chReg_lo _ _) (chReg_hi hch (by decide)) (by decide) ?_, Chip.unsettled,
      Chip.flag, Chip.fget_fset_ne _ _ _ _ (by simp [R.CH_LID_CTRL, R.CH_LID_RESULT]), Chip.fget_fset_ne _ _ _ _ (by simp [R.CH_LID_CTRL, R.CH_LID_RESULT]),
      Chip.fget_wr_ne _ _ _ (by simp [R.CH_LID_CTRL, R.CH_LID_R]), Chip.fget_fset_self _ _ _ _ (by decide), Nat.zero_mod]
    · rfl
    · intro g hg
      simp [endFields, R.CH_LID_RESULT, R.CH_LID_CTRL, R.PWR_HK_STATUS, chBase, pdie] at hg
      omega
  · rw [hs.chan, Chip.lid_lidEnd]

/-! ### Streams -/

theorem Chip.streamPacket_length (c : Chip) (n : Nat) (samples : List RawSample) (odd : List (BitVec 14)) :
    (c.streamPacket n samples odd).length = 130 := by simp [Chip.streamPacket]

/-- Settings that come into force write the stream's status alone, its number apart. -/
theorem Chip.streamApply_says (c : Chip) (n t : Nat) :
    (c.streamApply n t).flag (R.PWR_STREAM_STATUS n) F.PWR_STREAM_STATUS_ACTIVE = (c.fget (R.PWR_STREAM_CTRL n) F.PWR_STREAM_CTRL_EN == 1) ∧
      (c.streamApply n t).fget (R.PWR_STREAM_STATUS n) F.PWR_STREAM_STATUS_SEQ = c.fget (R.PWR_STREAM_STATUS n) F.PWR_STREAM_STATUS_SEQ ∧
      ((c.streamApply n t).die n).decim = c.fget (R.PWR_STREAM_CTRL n) F.PWR_STREAM_CTRL_DECIM ∧
      (∀ q, (c.streamApply n t).queue q = c.queue q) ∧
      ∀ a, a ≠ R.PWR_STREAM_STATUS n → (c.streamApply n t).rd a = c.rd a := by
  unfold Chip.streamApply
  extract_lets x l
  obtain ⟨d, hd⟩ : ∃ d, d = c.setDie n { c.die n with decim := F.PWR_STREAM_CTRL_DECIM.get x, streamAt := slotFrom l t } := ⟨_, rfl⟩
  rw [← hd]
  refine ⟨?_, ?_, ?_, fun q => ?_, fun a ha => ?_⟩
  · rw [Chip.flag, Chip.fget_fset_field _ _ _ _ _ (by decide) (by decide), Chip.fget_fset_self _ _ _ _ (by decide)]
    exact congrArg (· == 1) (Nat.mod_eq_of_lt (Fld.get_lt F.PWR_STREAM_CTRL_EN _))
  · rw [Chip.fget_fset_field _ _ _ _ _ (by decide) (by decide), Chip.fget_fset_field _ _ _ _ _ (by decide) (by decide), hd]
    rfl
  · rw [Chip.die, Chip.dies_fset, Chip.dies_fset, hd]
    exact (congrArg DieX.decim (Chip.die_setDie_self _ _ _)).trans rfl
  · rw [Chip.queue, (Noted.fset _ _ _ _).queues, (Noted.fset _ _ _ _).queues, hd]
    rfl
  · rw [Chip.rd_fset_ne _ _ _ ha, Chip.rd_fset_ne _ _ _ ha, hd]
    rfl


/-- A packet that is complete, once it has been sent or dropped (R172, R173). -/
theorem Chip.streamDone_says {c d : Chip} {n : Nat} (samples : List RawSample) (odd : List (BitVec 14)) {t : Nat}
    (h : c.streamDone n samples odd = (d.fbumpWrap (R.PWR_STREAM_STATUS n) F.PWR_STREAM_STATUS_SEQ).streamApply n t)
    (hd : d.rd (R.PWR_STREAM_STATUS n) = c.rd (R.PWR_STREAM_STATUS n)) :
    (c.streamDone n samples odd).fget (R.PWR_STREAM_STATUS n) F.PWR_STREAM_STATUS_SEQ =
        (c.fget (R.PWR_STREAM_STATUS n) F.PWR_STREAM_STATUS_SEQ + 1) % 65536 ∧
      (∀ q, (c.streamDone n samples odd).queue q = d.queue q) ∧
      ∀ a, a ≠ R.PWR_STREAM_STATUS n → (c.streamDone n samples odd).rd a = d.rd a := by
  obtain ⟨-, hseq, -, hq, hrd⟩ := Chip.streamApply_says (d.fbumpWrap (R.PWR_STREAM_STATUS n) F.PWR_STREAM_STATUS_SEQ) n t
  rw [h]
  refine ⟨?_, fun q => ?_, fun a ha => (hrd a ha).trans (Chip.rd_fset_ne _ _ _ ha)⟩
  · rw [hseq, Chip.fbumpWrap, Chip.fget_fset_self _ _ _ _ (by decide), Chip.fget, hd]
    rfl
  · rw [hq, Chip.fbumpWrap, Chip.queue, (Noted.fset _ _ _ _).queues]
    rfl

theorem Chip.streamDone_lost {c : Chip} {n : Nat} (samples : List RawSample) (odd : List (BitVec 14))
    (h : c.flag (R.PWR_STREAM_STATUS n) F.PWR_STREAM_STATUS_ACTIVE = true) (hl : c.linkUp (n + 2) = false) :
    ∃ t, c.streamDone n samples odd = ((c.bump (R.PWR_STREAM_DROP_CNT n)).fbumpWrap (R.PWR_STREAM_STATUS n) F.PWR_STREAM_STATUS_SEQ).streamApply n t := by
  refine ⟨(c.die n).streamAt + 2048 * 2 ^ (c.die n).decim, (if_pos h).trans ?_⟩
  simp [hl]
theorem Chip.streamDone_sent {c : Chip} {n : Nat} (samples : List RawSample) (odd : List (BitVec 14))
    (h : c.flag (R.PWR_STREAM_STATUS n) F.PWR_STREAM_STATUS_ACTIVE = true) (hl : c.linkUp (n + 2) = true) (hf : 130 ≤ c.qFree (24 + n)) :
    ∃ t, c.streamDone n samples odd =
      ((c.hwPush (24 + n) (c.streamPacket n samples odd)).fbumpWrap (R.PWR_STREAM_STATUS n) F.PWR_STREAM_STATUS_SEQ).streamApply n t := by
  refine ⟨(c.die n).streamAt + 2048 * 2 ^ (c.die n).decim, (if_pos h).trans ?_⟩
  simp [hl, hf]

def streamCtrlDesc : RegDesc := ⟨.PWR_STREAM_CTRL, 0x40240400, [(4, 0x80000, 0)], 0x8000073F, 0, 0, 0, 0, 0⟩
theorem findReg_streamCtrl (n : Fin 4) : findReg (R.PWR_STREAM_CTRL n) = some (streamCtrlDesc, [n.val]) := by fin_cases n <;> rfl
theorem dieOf_streamCtrl (n : Fin 4) : dieOf (R.PWR_STREAM_CTRL n) = n.val + 2 := by revert n; decide
theorem isAlias_streamCtrl (n : Fin 4) : isAlias (R.PWR_STREAM_CTRL n) = false := by revert n; decide
/-- A field that another one's reserved values do not touch. -/
theorem get_keep_ne (f g : Fld) (p : Nat → Bool) (old x : Word) (h : Apart f g) (hf : f.lo + f.w ≤ 32) : f.get (g.keep p old x) = f.get x := by
  unfold Fld.keep
  split
  · exact Fld.get_put_ne g f _ _ (Or.symm h) hf
  · rfl
/-- The fields of the stored word but SRC are the written ones. -/
theorem stored_streamCtrl (l : List Nat) (old x : Word) (f : Fld) (h : Apart f F.PWR_STREAM_CTRL_SRC) (hf : f.lo + f.w ≤ 32)
    (hm : ∀ i < f.w, (openMask streamCtrlDesc false false).getLsbD (f.lo + i) = true) : f.get (storedWord streamCtrlDesc l old x) = f.get x :=
  (get_keep_ne f _ (47 < ·) old _ h hf).trans (Fld.get_mergeWord f _ _ _ _ _ hm)
theorem Chip.wrote_streamCtrl (c : Chip) (n : Nat) (old x : Word) : c.wrote .sup streamCtrlDesc.id [n] old x = c.streamCtrl n := rfl
theorem Chip.regWrite_as_streamCtrl {a n : Nat} (h : findReg a = some (streamCtrlDesc, [n])) (c : Chip) (x : Word) :
    c.regWrite .sup a x = (c.wr a (storedWord streamCtrlDesc [n] (c.rd a) x)).streamCtrl n := by
  have hp : c.regWrite .sup a x = c.plainWrite .sup streamCtrlDesc [n] a x := by simp [Chip.regWrite, h, streamCtrlDesc, writerOk_sup, ctrHalf]
  rw [hp, Chip.plainWrite_unlocked rfl rfl rfl, Chip.wrote_streamCtrl]

theorem Only.pwrReg {c c' : Chip} {n : Nat} (h : ∀ a, (a < 0x40200000 + n * 0x80000 ∨ 0x40280000 + n * 0x80000 ≤ a) → c'.rd a = c.rd a) :
    Only [Blk.pwr n] c c' := by
  intro a ha
  have := ha (Blk.pwr n) (by simp)
  simp only [Blk.pwr] at this
  exact h a (by omega)

/-- Settles O18: the windows of a die, an identification that does not settle, a packet lost and one sent, and a stream's settings. -/
theorem measurementWindowsAndStreams : Obligations.MeasurementWindowsAndStreams := by
  unfold Obligations.MeasurementWindowsAndStreams
  refine ⟨?_, ?_, ?_, ?_, ?_⟩
  case refine_1 =>
    intro n ws feed early vlv s _ hl
    obtain ⟨d, hd⟩ : ∃ d, d = (s.chip.feedWindow n feed).valveWindow n vlv := ⟨_, rfl⟩
    obtain ⟨havg, hch, hrd⟩ := Chip.feedWindow_says s.chip (n := n) feed vlv
    rw [← hd] at havg hch hrd
    obtain ⟨-, h₂, h₃⟩ := Chip.reports_say d n ws (d.fget (R.PWR_FEED_AVG n) F.PWR_FEED_AVG_AVG1) early
      (fun l h => by rw [Chip.chan, hch]; exact hl l h) 48 (le_refl _)
    refine ⟨_, State.next_chip (Chip.measWindow_eq _ _ _ _ _ _ d hd), ?_, fun l h => ?_, Only.pwrReg fun a ha => (h₃ a ?_).trans (hrd a ?_ ?_ ?_)⟩
    · rw [Chip.fget, h₃, ← Chip.fget, havg]
      simp only [R.PWR_FEED_AVG, chBase]
      omega
    · rw [h₂ l h, if_pos h, Chip.fget, hrd]
      · rfl
      all_goals simp only [R.CH_MEAS_SEQ, R.PWR_FEED_AVG, R.PWR_FEED_RANGE, R.VLV_MEAS, chBase, vlvBase, vgBase]; omega
    · intro l hl
      simp only [chBase]
      omega
    · simp only [R.PWR_FEED_AVG]
      omega
    · simp only [R.PWR_FEED_RANGE]
      omega
    · intro j hj
      simp only [R.VLV_MEAS, vlvBase, vgBase]
      omega
  case refine_2 =>
    intro ch x s h
    obtain ⟨r, hr⟩ := Chip.lidUnsettled_eq h
    obtain ⟨h₁, h₂, h₃, h₄⟩ := Chip.lidOver_says ch.isLt s.chip r
    exact ⟨_, State.next_chip hr, h₁, h₂, h₃, h₄⟩
  case refine_3 =>
    intro n samples odd s h hl
    obtain ⟨t, ht⟩ := Chip.streamDone_lost samples odd h hl
    obtain ⟨hseq, -, hrd⟩ := Chip.streamDone_says samples odd ht (Chip.rd_wr_ne _ _ (by simp [R.PWR_STREAM_STATUS, R.PWR_STREAM_DROP_CNT]))
    refine ⟨_, rfl, ?_, hseq, Only.pwrReg fun a ha => (hrd a ?_).trans (Chip.rd_wr_ne _ _ ?_)⟩
    · rw [hrd _ (by simp [R.PWR_STREAM_STATUS, R.PWR_STREAM_DROP_CNT]), Chip.rd_bump_self]
    all_goals simp only [R.PWR_STREAM_STATUS, R.PWR_STREAM_DROP_CNT]; omega
  case refine_4 =>
    intro n samples odd s h hl hf
    obtain ⟨t, ht⟩ := Chip.streamDone_sent samples odd h hl hf
    obtain ⟨hseq, hq, -⟩ := Chip.streamDone_says samples odd ht ((Served.hwPush _ (by omega) _).rd_die (by simp only [R.PWR_STREAM_STATUS]; omega))
    refine ⟨_, rfl, ?_, hseq⟩
    rw [hq, Chip.hwPush_fits _ _ _ (by simp [Chip.streamPacket]) (by rwa [Chip.streamPacket_length])]
    obtain ⟨-, hc⟩ := Chip.qCommitted_says (s.chip.setQueue (24 + n) { s.chip.queue (24 + n) with fill := (s.chip.queue (24 + n)).fill ++ packetWords (s.chip.streamPacket n samples odd) }) ⟨24 + n, by omega⟩
    rw [hc]
    exact congrArg Queue.fill (Chip.queue_setQueue_self _ _ _)
  case refine_5 =>
    intro n data s h ha
    obtain ⟨c, hc, hw⟩ := State.write_travels data h (by rw [dieOf_streamCtrl]; omega) (isAlias_streamCtrl n)
    rw [dieOf_streamCtrl] at hc
    rw [Chip.regWrite_as_streamCtrl (findReg_streamCtrl n)] at hw
    obtain ⟨d, hd⟩ : ∃ d, d = c.wr (R.PWR_STREAM_CTRL n) (storedWord streamCtrlDesc [n.val] (c.rd (R.PWR_STREAM_CTRL n)) data) := ⟨_, rfl⟩
    have hne : R.PWR_STREAM_STATUS n ≠ tokenAddr (n + 2) := by
      rw [tokenAddr_pwr n.isLt]
      simp only [R.PWR_STREAM_STATUS]
      omega
    have hoff : d.flag (R.PWR_STREAM_STATUS n) F.PWR_STREAM_STATUS_ACTIVE = false := by
      rw [← ha, hd, Chip.flag, Chip.fget_wr_ne _ _ _ (by simp [R.PWR_STREAM_STATUS, R.PWR_STREAM_CTRL]), Chip.fget, hc.rd hne]
      rfl
    have he : d.streamCtrl n = d.streamApply n (2 * d.pwrTime n) := if_neg (by simp [hoff])
    rw [← hd, he] at hw
    obtain ⟨hact, -, hdec, -, hrd⟩ := Chip.streamApply_says d n (2 * d.pwrTime n)
    refine ⟨_, congrArg Host.Outcome.next hw, hact.trans ?_, hdec.trans ?_, Only.pwrReg fun a hx => (hrd a ?_).trans ?_⟩
    · rw [hd, Chip.fget_wr_self]
      exact congrArg (· == 1) (stored_streamCtrl _ _ _ F.PWR_STREAM_CTRL_EN (by decide) (by decide) (by decide))
    · rw [hd, Chip.fget_wr_self]
      exact stored_streamCtrl _ _ _ F.PWR_STREAM_CTRL_DECIM (by decide) (by decide) (by decide)
    · simp only [R.PWR_STREAM_STATUS]
      omega
    · rw [hd, Chip.rd_wr_ne _ _ (by simp only [R.PWR_STREAM_CTRL]; omega), hc.rd (by rw [tokenAddr_pwr n.isLt]; omega)]

end Sys2Proof.Machine
end

section
/-! SUPPORT. What an operation on one point of the field die writes, and what state it leaves the point in (R260 to R269). -/

namespace Sys2Proof.Machine
open Sys2Proof

/-! ### What an operation on one point leaves alone -/

/-- Of the registers, c' differs from c at most in the status of point p and the two words that gather the points' states; no other point's
switch differs. -/
structure PointWrites (p : Nat) (c c' : Chip) : Prop where
  rd : ∀ a, a ≠ R.FP_STATUS p → a ≠ R.FLD_IN_STATE → a ≠ R.FLD_STATUS → c'.rd a = c.rd a
  fp : ∀ q, q ≠ p → c'.fp q = c.fp q

namespace PointWrites
variable {p q : Nat} {c c' c'' : Chip}

theorem refl (c : Chip) : PointWrites p c c := ⟨fun _ _ _ _ => rfl, fun _ _ => rfl⟩
theorem trans (h : PointWrites p c c') (h' : PointWrites p c' c'') : PointWrites p c c'' :=
  ⟨fun a h₁ h₂ h₃ => (h'.rd a h₁ h₂ h₃).trans (h.rd a h₁ h₂ h₃), fun q hq => (h'.fp q hq).trans (h.fp q hq)⟩
theorem ite {P : Prop} [Decidable P] (h : P → PointWrites p c c') (h' : ¬ P → PointWrites p c c'') : PointWrites p c (if P then c' else c'') := by
  split
  · exact h ‹_›
  · exact h' ‹_›

theorem status (c : Chip) (p : Nat) (f : Fld) (v : Nat) : PointWrites p c (c.fset (R.FP_STATUS p) f v) :=
  ⟨fun _ h _ _ => Chip.rd_fset_ne _ _ _ h, fun _ _ => rfl⟩
theorem inState (c : Chip) (p : Nat) (f : Fld) (v : Nat) : PointWrites p c (c.fset R.FLD_IN_STATE f v) :=
  ⟨fun _ _ h _ => Chip.rd_fset_ne _ _ _ h, fun _ _ => rfl⟩
theorem held (c : Chip) (p : Nat) (f : Fld) (v : Nat) : PointWrites p c (c.fset R.FLD_STATUS f v) :=
  ⟨fun _ _ _ h => Chip.rd_fset_ne _ _ _ h, fun _ _ => rfl⟩
theorem setFp (c : Chip) (p : Nat) (x : FpX) : PointWrites p c (c.setFp p x) :=
  ⟨fun _ _ _ _ => rfl, fun _ hq => Tbl.get_set_ne _ _ _ hq⟩

theorem fpShow (c : Chip) (p : Nat) (v : Bool) : PointWrites p c (c.fpShow p v) := (status c p _ _).trans (inState _ p _ _)
theorem fldRefresh (c : Chip) (p : Nat) : PointWrites p c c.fldRefresh := (held c p _ _).trans (held _ p _ _)
theorem setFpRun (c : Chip) (p : Nat) (x : FpState) : PointWrites p c (c.setFpRun p x) := by
  unfold Chip.setFpRun
  exact (ite (fun _ => setFp c p _) (fun _ => status c p _ _)).trans <| (ite (fun _ => setFp _ p _) (fun _ => refl _)).trans (fpShow _ p _)
theorem fpOff (c : Chip) (p : Nat) : PointWrites p c (c.fpOff p) := (setFpRun c p _).trans (status _ p _ _)
theorem fpDrive (c : Chip) (p : Nat) : PointWrites p c (c.fpDrive p) := (setFpRun c p _).trans (status _ p _ _)
theorem fpRearm (c : Chip) (p : Nat) : PointWrites p c (c.fpRearm p) := ite (fun _ => fpOff c p) (fun _ => refl c)
theorem fpUnlimp (c : Chip) (p : Nat) : PointWrites p c (c.fpUnlimp p) :=
  ite (fun _ => (setFpRun c p _).trans <| (status _ p _ _).trans <| (status _ p _ _).trans (fldRefresh _ p)) (fun _ => refl c)
theorem fpTakeOn (c : Chip) (p : Nat) : PointWrites p c (c.fpTakeOn p) := by
  unfold Chip.fpTakeOn
  refine ite (fun _ => ite (fun _ => ?_) (fun _ => ?_)) (fun _ => refl c)
  · split
    · exact ite (fun _ => fpDrive c p) (fun _ => refl c)
    · exact refl c
  · split
    · exact fpOff c p
    · exact fpOff c p
    · exact fpOff c p
    · exact refl c
theorem fpCmd (c : Chip) (p : Nat) (x : Word) : PointWrites p c (c.fpCmd p x) :=
  (ite (fun _ => fpRearm c p) (fun _ => refl c)).trans <| (fpUnlimp _ p).trans (fpTakeOn _ p)
theorem fpRestart (c : Chip) (p : Nat) : PointWrites p c (c.fpRestart p) := ite (fun _ => fpDrive c p) (fun _ => refl c)
theorem fpLimp (c : Chip) (p : Nat) : PointWrites p c (c.fpLimp p) := by
  unfold Chip.fpLimp
  refine ite (fun _ => ?_) (fun _ => refl c)
  extract_lets d
  refine (status c p F.FP_STATUS_STATE 6 : PointWrites p c d).trans ?_
  split
  · exact ite (fun _ => refl _) (fun _ => fpOff _ p)
  · exact ite (fun _ => refl _) (fun _ => fpDrive _ p)
  · exact refl _
theorem fpKind (c : Chip) (p : Nat) : PointWrites p c (c.fpKind p) :=
  (status c p _ _).trans <| (status _ p _ _).trans <| (status _ p _ _).trans <| (status _ p _ _).trans (fpShow _ p _)
theorem fpStop (c : Chip) (p : Nat) : PointWrites p c (c.fpStop p) := by
  unfold Chip.fpStop
  extract_lets _ d e
  have hd : PointWrites p c d := ite (fun _ => status c p _ _) (fun _ => refl c)
  have he : PointWrites p d e → PointWrites p c ((if (e.fp p).clamping then e else e.fset (R.FP_STATUS p) F.FP_STATUS_STATE 7).fldRefresh) := fun h =>
    hd.trans <| h.trans <| (ite (fun _ => refl _) (fun _ => status _ p _ _)).trans (fldRefresh _ p)
  refine he ?_
  unfold e
  split
  · exact fpOff _ p
  · exact fpOff _ p
  · exact fpOff _ p
  · exact fpOff _ p
  · exact refl _

theorem only (h : PointWrites p c c') (hp : p < 32) : Only [Blk.fld] c c' := fun a ha => by
  have hm := ha Blk.fld (by simp)
  simp only [Blk.fld] at hm
  refine h.rd a ?_ ?_ ?_
  · unfold R.FP_STATUS; omega
  · unfold R.FLD_IN_STATE; omega
  · unfold R.FLD_STATUS; omega

/-- A register of a point other than its status. -/
theorem rd_of (h : PointWrites p c c') {a : Nat} (ha : 0x40410000 ≤ a) (hne : a ≠ R.FP_STATUS p) : c'.rd a = c.rd a :=
  h.rd a hne (by unfold R.FLD_IN_STATE; omega) (by unfold R.FLD_STATUS; omega)
theorem cfg (h : PointWrites p c c') (q : Nat) : c'.rd (R.FP_CFG q) = c.rd (R.FP_CFG q) :=
  h.rd_of (by unfold R.FP_CFG; omega) (by unfold R.FP_CFG R.FP_STATUS; omega)
theorem cmd (h : PointWrites p c c') (q : Nat) : c'.rd (R.FP_CMD q) = c.rd (R.FP_CMD q) :=
  h.rd_of (by unfold R.FP_CMD; omega) (by unfold R.FP_CMD R.FP_STATUS; omega)
theorem fpOut (h : PointWrites p c c') (q : Nat) : c'.fpOut q = c.fpOut q := by rw [Chip.fpOut, Chip.fget, h.cfg]; rfl
theorem fpEn (h : PointWrites p c c') (q : Nat) : c'.fpEn q = c.fpEn q := by rw [Chip.fpEn, Chip.flag, Chip.fget, h.cfg]; rfl
theorem fpOn (h : PointWrites p c c') (q : Nat) : c'.fpOn q = c.fpOn q := by rw [Chip.fpOn, Chip.flag, Chip.fget, h.cmd]; rfl
theorem fpState (h : PointWrites p c c') (hq : q ≠ p) : c'.fpState q = c.fpState q := by
  rw [Chip.fpState, Chip.fget, h.rd_of (by unfold R.FP_STATUS; omega) (by unfold R.FP_STATUS; omega)]; rfl
theorem fpRun (h : PointWrites p c c') (hq : q ≠ p) : c'.fpRun q = c.fpRun q := by
  have hh : c'.fpInHold q = c.fpInHold q := by rw [Chip.fpInHold, h.fpOut, h.fpState hq]; rfl
  rw [Chip.fpRun, hh, h.fpState hq, h.fp q hq]
  rfl
end PointWrites

/-! ### The state an operation leaves a point in -/

@[simp] theorem FpState.ofCode_code (x : FpState) : FpState.ofCode x.code = x := by cases x <;> rfl
theorem FpState.code_lt (x : FpState) : x.code < 16 := by cases x <;> decide

theorem Chip.fp_fset (c : Chip) (a : Nat) (f : Fld) (v p : Nat) : (c.fset a f v).fp p = c.fp p := (rfl)

/-- The status of a point and its switch determine its state; writes that spare both leave it. -/
theorem Chip.fpState_of {c c' : Chip} {p : Nat} (h : c'.fget (R.FP_STATUS p) F.FP_STATUS_STATE = c.fget (R.FP_STATUS p) F.FP_STATUS_STATE) :
    c'.fpState p = c.fpState p := congrArg FpState.ofCode h
theorem Chip.fpRun_of {c c' : Chip} {p : Nat} (ho : c'.fpOut p = c.fpOut p) (hs : c'.fpState p = c.fpState p) (hx : (c'.fp p).sub = (c.fp p).sub) :
    c'.fpRun p = c.fpRun p := by
  have hh : c'.fpInHold p = c.fpInHold p := by rw [Chip.fpInHold, ho, hs]; rfl
  rw [Chip.fpRun, hh, hs, hx]
  rfl

theorem Chip.state_fset_field (c : Chip) (p : Nat) (f : Fld) (v : Nat) (h : 4 ≤ f.lo) :
    (c.fset (R.FP_STATUS p) f v).fget (R.FP_STATUS p) F.FP_STATUS_STATE = c.fget (R.FP_STATUS p) F.FP_STATUS_STATE :=
  Chip.fget_fset_field _ _ _ _ _ (.inl h) (by decide)
theorem Chip.status_fpShow (c : Chip) (p : Nat) (v : Bool) (f : Fld) (h : Apart F.FP_STATUS_VALUE f) (hf : f.lo + f.w ≤ 32) :
    (c.fpShow p v).fget (R.FP_STATUS p) f = c.fget (R.FP_STATUS p) f :=
  (Chip.fget_fset_ne _ _ _ _ (by unfold R.FP_STATUS R.FLD_IN_STATE; omega)).trans (Chip.fget_fset_field _ _ _ _ _ h hf)
theorem Chip.fpState_fset_state (c : Chip) (p : Nat) (x : FpState) : (c.fset (R.FP_STATUS p) F.FP_STATUS_STATE x.code).fpState p = x := by
  rw [Chip.fpState, Chip.fget_fset_self _ _ _ _ (by decide)]
  exact (congrArg FpState.ofCode (Nat.mod_eq_of_lt (FpState.code_lt x))).trans (FpState.ofCode_code x)

/-- The state, before what stops driving is marked and VALUE follows. -/
def Chip.runStored (c : Chip) (p : Nat) (x : FpState) : Chip :=
  if c.fpInHold p then c.setFp p { c.fp p with sub := x.code } else c.fset (R.FP_STATUS p) F.FP_STATUS_STATE x.code

theorem Chip.runStored_writes (c : Chip) (p : Nat) (x : FpState) : PointWrites p c (c.runStored p x) :=
  .ite (fun _ => .setFp c p _) (fun _ => .status c p _ _)
theorem Chip.fpRun_runStored (c : Chip) (p : Nat) (x : FpState) (hx : x ≠ .held ∧ x ≠ .limp) : (c.runStored p x).fpRun p = x := by
  rw [Chip.runStored]
  by_cases h : c.fpInHold p = true
  · rw [if_pos h]
    have hh : (c.setFp p { c.fp p with sub := x.code }).fpInHold p = true := h
    rw [Chip.fpRun, if_pos hh, Chip.fp_setFp_self, FpState.ofCode_code]
  · rw [if_neg h]
    have hs := Chip.fpState_fset_state c p x
    rw [Chip.fpRun, Chip.fpInHold, hs]
    simp [hx.1, hx.2]
theorem Chip.fpState_runStored (c : Chip) (p : Nat) (x : FpState) : (c.runStored p x).fpState p = if c.fpInHold p then c.fpState p else x := by
  rw [Chip.runStored]
  split
  · rfl
  · exact Chip.fpState_fset_state c p x

theorem Chip.clamped_writes (c : Chip) (p : Nat) (P : Prop) [Decidable P] (v : Bool) :
    PointWrites p c ((if P then c.setFp p { c.fp p with clamping := true } else c).fpShow p v) :=
  (PointWrites.ite (fun _ => .setFp _ p _) (fun _ => .refl _)).trans (.fpShow _ p v)
theorem Chip.status_clamped (c : Chip) (p : Nat) (P : Prop) [Decidable P] (v : Bool) (f : Fld) (h : Apart F.FP_STATUS_VALUE f) (hf : f.lo + f.w ≤ 32) :
    ((if P then c.setFp p { c.fp p with clamping := true } else c).fpShow p v).fget (R.FP_STATUS p) f = c.fget (R.FP_STATUS p) f := by
  rw [Chip.status_fpShow _ _ _ _ h hf]
  split <;> rfl
theorem Chip.sub_clamped (c : Chip) (p : Nat) (P : Prop) [Decidable P] (v : Bool) :
    (((if P then c.setFp p { c.fp p with clamping := true } else c).fpShow p v).fp p).sub = (c.fp p).sub := by
  rw [Chip.fpShow, Chip.fbit, Chip.fbit, Chip.fp_fset, Chip.fp_fset]
  split
  · rw [Chip.fp_setFp_self]
  · rfl

theorem Chip.fpState_setFpRun (c : Chip) (p : Nat) (x : FpState) : (c.setFpRun p x).fpState p = if c.fpInHold p then c.fpState p else x :=
  (Chip.fpState_of (Chip.status_clamped _ _ _ _ _ (by decide) (by decide))).trans (Chip.fpState_runStored c p x)
theorem Chip.fpRun_setFpRun (c : Chip) (p : Nat) (x : FpState) (hx : x ≠ .held ∧ x ≠ .limp) : (c.setFpRun p x).fpRun p = x :=
  (Chip.fpRun_of ((Chip.clamped_writes _ p _ _).fpOut p) (Chip.fpState_of (Chip.status_clamped _ _ _ _ _ (by decide) (by decide))) (Chip.sub_clamped _ _ _ _)).trans
    (Chip.fpRun_runStored c p x hx)

theorem Chip.hot_setFpRun (c : Chip) (p : Nat) (x : FpState) : ((c.setFpRun p x).fp p).hot = (c.fp p).hot := by
  have hs : ((c.runStored p x).fp p).hot = (c.fp p).hot := by
    rw [Chip.runStored]
    split
    · rw [Chip.fp_setFp_self]
    · rfl
  rw [← hs, Chip.setFpRun, Chip.fpShow, Chip.fbit, Chip.fbit, Chip.fp_fset, Chip.fp_fset]
  split
  · rw [Chip.fp_setFp_self]
    rfl
  · rfl

theorem Chip.fpRun_setFp (c : Chip) {p : Nat} {x : FpX} (h : x.sub = (c.fp p).sub) : (c.setFp p x).fpRun p = c.fpRun p :=
  Chip.fpRun_of rfl rfl (by rw [Chip.fp_setFp_self, h])
theorem Chip.fpState_fset_fault (c : Chip) (p v : Nat) : (c.fset (R.FP_STATUS p) F.FP_STATUS_FAULT v).fpState p = c.fpState p :=
  Chip.fpState_of (Chip.state_fset_field c p _ v (by decide))
theorem Chip.fpRun_fset_fault (c : Chip) (p v : Nat) : (c.fset (R.FP_STATUS p) F.FP_STATUS_FAULT v).fpRun p = c.fpRun p :=
  Chip.fpRun_of ((PointWrites.status c p _ v).fpOut p) (Chip.fpState_fset_fault c p v) rfl
theorem Chip.fpState_fpOff {c : Chip} {p : Nat} (h : c.fpInHold p = false) : (c.fpOff p).fpState p = .off := by
  rw [Chip.fpOff, Chip.fpState_fset_fault, Chip.fpState_setFpRun, h]; rfl
theorem Chip.fpRun_fpDrive {c : Chip} (p : Nat) (h : c.supplyFault = false) : (c.fpDrive p).fpRun p = .on := by
  rw [Chip.fpDrive, Chip.fpRun_fset_fault, h]
  exact Chip.fpRun_setFpRun c p .on (by decide)
theorem Chip.fpState_fpDrive {c : Chip} {p : Nat} (h : c.fpInHold p = false) (hs : c.supplyFault = false) : (c.fpDrive p).fpState p = .on := by
  rw [Chip.fpDrive, Chip.fpState_fset_fault, Chip.fpState_setFpRun, h, hs]; rfl
theorem Chip.fpInHold_of_state {c : Chip} {p : Nat} {x : FpState} (h : c.fpState p = x) (hx : x ≠ .held ∧ x ≠ .limp) : c.fpInHold p = false := by
  simp [Chip.fpInHold, h, hx.1, hx.2]
theorem Chip.fpRun_of_state {c : Chip} {p : Nat} {x : FpState} (h : c.fpState p = x) (hx : x ≠ .held ∧ x ≠ .limp) : c.fpRun p = x := by
  rw [Chip.fpRun, Chip.fpInHold_of_state h hx]
  simpa using h
theorem Chip.fpUnlimp_off {c : Chip} {p : Nat} (h : c.fpState p ≠ .limp) : c.fpUnlimp p = c := if_neg fun hh => h hh.2

/-! ### Fault events, the push to D0, and the supervisor's writes -/

theorem Chip.fldPush_regs (c was : Chip) : (c.fldPush was).regs = c.regs := by
  unfold Chip.fldPush
  split <;> rfl
theorem Chip.fldPush_fps (c was : Chip) : (c.fldPush was).fps = c.fps := by
  unfold Chip.fldPush
  split <;> rfl
theorem Chip.fp_fldPush (c was : Chip) (p : Nat) : (c.fldPush was).fp p = c.fp p := by rw [Chip.fp, Chip.fldPush_fps]; rfl
theorem Chip.fldPush_writes (c was : Chip) (p : Nat) : PointWrites p c (c.fldPush was) :=
  ⟨fun _ _ _ _ => Chip.rd_of_regs (Chip.fldPush_regs c was) _, fun q _ => c.fp_fldPush was q⟩
theorem Chip.rd_fldPush (c was : Chip) (a : Nat) : (c.fldPush was).rd a = c.rd a := Chip.rd_of_regs (Chip.fldPush_regs c was) a
theorem Chip.fget_fldPush (c was : Chip) (a : Nat) (f : Fld) : (c.fldPush was).fget a f = c.fget a f := congrArg f.get (c.rd_fldPush was a)
theorem Chip.flag_fldPush (c was : Chip) (a : Nat) (f : Fld) : (c.fldPush was).flag a f = c.flag a f := congrArg (· == 1) (c.fget_fldPush was a f)
theorem Chip.fpState_fldPush (c was : Chip) (p : Nat) : (c.fldPush was).fpState p = c.fpState p := Chip.fpState_of (c.fget_fldPush was _ _)
theorem Chip.fpOut_fldPush (c was : Chip) (p : Nat) : (c.fldPush was).fpOut p = c.fpOut p := congrArg (· == 2) (c.fget_fldPush was _ _)
theorem Chip.fpRun_fldPush (c was : Chip) (p : Nat) : (c.fldPush was).fpRun p = c.fpRun p :=
  Chip.fpRun_of (c.fpOut_fldPush was p) (c.fpState_fldPush was p) (by rw [Chip.fp_fldPush])
theorem Only.fldPush (l : List (Nat × Nat)) (c was : Chip) : Only l c (c.fldPush was) := .of_regs (Chip.fldPush_regs c was)

theorem Only.fldReg {l : List (Nat × Nat)} (h : Blk.fld ∈ l) (c : Chip) {a : Nat} (f : Fld) (v : Nat) (ha : 0x40400000 ≤ a ∧ a < 0x40480000) :
    Only l c (c.fset a f v) := .fset c a f v ⟨Blk.fld, h, ha⟩

/-- A fault's count, its record and its event: at the field die only the count changes. -/
theorem Chip.fpFaultEvent_counts (c : Chip) (p k : Nat) :
    ∃ d : Chip, (∃ v, d = c.fset (R.FP_FAULT_CNT p) (byteFld (k - 1)) v) ∧ Served d (c.fpFaultEvent p k) :=
  ⟨_, ⟨_, rfl⟩, (Served.q10From _ 6 83 p).trans (Served.raiseFrom _ 6 (by decide))⟩
theorem Chip.rd_fpFaultEvent (c : Chip) (p k : Nat) {a : Nat} (ha : 0x40030000 ≤ a) (hne : a ≠ R.FP_FAULT_CNT p) :
    (c.fpFaultEvent p k).rd a = c.rd a := by
  obtain ⟨d, ⟨v, rfl⟩, hd⟩ := c.fpFaultEvent_counts p k
  exact (hd.rd_die ha).trans (Chip.rd_fset_ne _ _ _ hne)
theorem Chip.fp_fpFaultEvent (c : Chip) (p k q : Nat) : (c.fpFaultEvent p k).fp q = c.fp q := by
  obtain ⟨d, ⟨v, rfl⟩, hd⟩ := c.fpFaultEvent_counts p k
  exact (hd.fp q).trans (Chip.fp_fset _ _ _ _ _)
theorem Only.fpFaultEvent (c : Chip) {p : Nat} (k : Nat) (hp : p < 32) : Only [Blk.fld, Blk.sys, Blk.evr, Blk.que] c (c.fpFaultEvent p k) := by
  obtain ⟨d, ⟨v, rfl⟩, hd⟩ := c.fpFaultEvent_counts p k
  exact (Only.fldReg (by simp) _ _ _ (by unfold R.FP_FAULT_CNT; omega)).trans (hd.blocks.mono (by simp))

def fpCfgDesc : RegDesc := ⟨.FP_CFG, 0x40410000, [(32, 0x100, 0)], 0xFFF8FFFF, 0, 0, 0, 0, 0x49481E32⟩
def fpCmdDesc : RegDesc := ⟨.FP_CMD, 0x40410004, [(32, 0x100, 0)], 1, 0, 0, 2, 0, 0⟩
theorem findReg_fpCfg (p : Fin 32) : findReg (R.FP_CFG p) = some (fpCfgDesc, [p.val]) := by fin_cases p <;> rfl
theorem findReg_fpCmd (p : Fin 32) : findReg (R.FP_CMD p) = some (fpCmdDesc, [p.val]) := by fin_cases p <;> rfl
theorem dieOf_fpCfg (p : Fin 32) : dieOf (R.FP_CFG p) = 6 := by revert p; decide
theorem dieOf_fpCmd (p : Fin 32) : dieOf (R.FP_CMD p) = 6 := by revert p; decide
theorem isAlias_fpCfg (p : Fin 32) : isAlias (R.FP_CFG p) = false := by revert p; decide
theorem isAlias_fpCmd (p : Fin 32) : isAlias (R.FP_CMD p) = false := by revert p; decide

theorem Chip.wrote_fpCmd (c : Chip) (p : Nat) (old x : Word) : c.wrote .sup fpCmdDesc.id [p] old x = (c.fpCmd p x).fldPush c := rfl
theorem Chip.regWrite_as_fpCmd {a p : Nat} (h : findReg a = some (fpCmdDesc, [p])) (c : Chip) (x : Word) :
    c.regWrite .sup a x = ((c.wr a (storedWord fpCmdDesc [p] (c.rd a) x)).fpCmd p x).fldPush (c.wr a (storedWord fpCmdDesc [p] (c.rd a) x)) := by
  have hp : c.regWrite .sup a x = c.plainWrite .sup fpCmdDesc [p] a x := by simp [Chip.regWrite, h, fpCmdDesc, writerOk_sup, ctrHalf]
  rw [hp, Chip.plainWrite_unlocked rfl rfl rfl, Chip.wrote_fpCmd]

/-- The word that a write of x stores over old in FP_CFG. -/
def fpCfgWord (old x : Word) : Word := regNorm .FP_CFG [] old (mergeWord fpCfgDesc false false old x).1
theorem Chip.regWrite_as_fpCfg {a p : Nat} (h : findReg a = some (fpCfgDesc, [p])) (c : Chip) (x : Word) :
    c.regWrite .sup a x = (c.fpCfg p (c.rd a) (fpCfgWord (c.rd a) x)).fldPush c := by
  simp [Chip.regWrite, h, fpCfgDesc, writerOk_sup, fpCfgWord, regNorm]
end Sys2Proof.Machine
end

section
/-! PROOF. Points of the field die: levels, faults, restarts and the supervisor's commands (R261 to R264). -/

namespace Sys2Proof.Machine
open Sys2Proof

/-! ### A write of FP_CMD -/

/-- The supervisor's word for FP_CMD is stored; the die acts on it. -/
theorem fpCmd_lands {s : State} {p : Fin 32} (x : Word) (h : s.chip.direct .sup (R.FP_CMD p) = true) :
    ∃ d : Chip, d.fpOn p = (F.FP_CMD_ON.get x == 1) ∧ (∀ a, 0x40410000 ≤ a → a ≠ R.FP_CMD p → d.rd a = s.chip.rd a) ∧ (∀ q, d.fp q = s.chip.fp q) ∧
      Only [Blk.fld] s.chip d ∧ s.write .sup (R.FP_CMD p) x = { s with chip := (d.fpCmd p x).fldPush d } := by
  obtain ⟨c, hc, hw⟩ := State.write_travels x h (by rw [dieOf_fpCmd]; decide) (isAlias_fpCmd p)
  rw [dieOf_fpCmd] at hc
  rw [Chip.regWrite_as_fpCmd (findReg_fpCmd p)] at hw
  refine ⟨c.wr (R.FP_CMD p) (storedWord fpCmdDesc [p.val] (c.rd (R.FP_CMD p)) x), ?_, fun a ha hne => ?_, fun q => hc.fp q, ?_, hw⟩
  · rw [Chip.fpOn, Chip.flag, Chip.fget_wr_self]
    exact congrArg (· == 1) (Fld.get_mergeWord _ _ _ _ _ _ (by decide))
  · refine (Chip.rd_wr_ne _ _ hne).trans (hc.rd ?_)
    exact Nat.ne_of_gt (Nat.lt_of_lt_of_le (by decide : tokenAddr 6 < 0x40410000) ha)
  · refine (hc.only ⟨Blk.fld, by simp, by decide⟩).trans (Only.wr _ _ _ ⟨Blk.fld, by simp, ?_⟩)
    simp only [Blk.fld, R.FP_CMD]
    omega

/-- What a point's configuration, status and supply say, seen through a write of its FP_CMD. -/
theorem Chip.point_seen {c d : Chip} {p : Nat} (h : ∀ a, 0x40410000 ≤ a → a ≠ R.FP_CMD p → d.rd a = c.rd a) :
    d.fpOut p = c.fpOut p ∧ d.fpEn p = c.fpEn p ∧ d.fpState p = c.fpState p ∧ d.supplyFault = c.supplyFault ∨ 32 ≤ p := by
  by_cases hp : p < 32
  · have hf {a : Nat} (f : Fld) (ha : 0x40410000 ≤ a) (hne : a ≠ R.FP_CMD p) : d.fget a f = c.fget a f := congrArg f.get (h a ha hne)
    exact .inl ⟨congrArg (· == 2) (hf _ (by unfold R.FP_CFG; omega) (by unfold R.FP_CFG R.FP_CMD; omega)),
      congrArg (· == 1) (hf _ (by unfold R.FP_CFG; omega) (by unfold R.FP_CFG R.FP_CMD; omega)),
      Chip.fpState_of (hf _ (by unfold R.FP_STATUS; omega) (by unfold R.FP_STATUS R.FP_CMD; omega)),
      congrArg (· == 1) (hf _ (by decide) (by unfold R.FLD_SUP_STATUS R.FP_CMD; omega))⟩
  · exact .inr (Nat.le_of_not_lt hp)

theorem Chip.fpCmd_drives {c : Chip} {p : Nat} {x : Word} (hx : F.FP_CMD_REARM.get x ≠ 1) (ho : c.fpOut p = true) (he : c.fpEn p = true)
    (hon : c.fpOn p = true) (hs : c.fpState p = .off) : c.fpCmd p x = c.fpDrive p := by
  rw [Chip.fpCmd, if_neg hx, Chip.fpUnlimp_off (by rw [hs]; decide)]
  simp [Chip.fpTakeOn, ho, he, hon, hs]
theorem Chip.fpCmd_stops {c : Chip} {p : Nat} {x : Word} (hx : F.FP_CMD_REARM.get x ≠ 1) (ho : c.fpOut p = true)
    (hon : c.fpOn p = false) (hs : c.fpState p = .on) : c.fpCmd p x = c.fpOff p := by
  rw [Chip.fpCmd, if_neg hx, Chip.fpUnlimp_off (by rw [hs]; decide)]
  simp [Chip.fpTakeOn, ho, hon, hs]
theorem Chip.fpCmd_rearms {c : Chip} {p : Nat} {x : Word} (hx : F.FP_CMD_REARM.get x = 1) (ho : c.fpOut p = true) (hon : c.fpOn p = false)
    (hs : c.fpState p = .fault) (hot : (c.fp p).hot = false) : c.fpCmd p x = c.fpOff p := by
  have hr : c.fpRearm p = c.fpOff p := if_pos ⟨ho, Chip.fpRun_of_state hs (by decide), by simp [hot]⟩
  have hd := PointWrites.fpOff c p
  have hst : (c.fpOff p).fpState p = .off := Chip.fpState_fpOff (Chip.fpInHold_of_state hs (by decide))
  rw [Chip.fpCmd, if_pos hx, hr, Chip.fpUnlimp_off (by rw [hst]; decide)]
  simp [Chip.fpTakeOn, hd.fpOut, ho, hd.fpOn, hon, hst]

/-! ### Levels -/

/-- An input's change up to its record and event: VALUE, STATE and the count. -/
def Chip.levelShown (c : Chip) (p : Nat) (v : Bool) : Chip :=
  (c.fpShow p v).fset (R.FP_STATUS p) F.FP_STATUS_STATE v.toNat |>.bump (R.FP_CHG_CNT p)

theorem Chip.fpChange_served (c : Chip) (p : Nat) (v : Bool) : Served (c.levelShown p v) (c.fpChange p v) := by
  unfold Chip.fpChange
  extract_lets d e
  have he : Served d e := .ite (.q10From d 6 82 p) (.refl d)
  exact he.trans (.ite (.raiseFrom e 6 (by decide)) (.refl e))
theorem Only.levelShown (c : Chip) {p : Nat} (v : Bool) (hp : p < 32) : Only [Blk.fld] c (c.levelShown p v) := by
  refine (((PointWrites.fpShow c p v).trans (.status _ p _ _)).only hp).trans (Only.bump _ _ _ ⟨Blk.fld, by simp, ?_⟩)
  simp only [Blk.fld, R.FP_CHG_CNT]
  omega
theorem Chip.levelShown_says (c : Chip) (p : Nat) (v : Bool) :
    (c.levelShown p v).flag (R.FP_STATUS p) F.FP_STATUS_VALUE = v ∧ (c.levelShown p v).fget (R.FP_STATUS p) F.FP_STATUS_STATE = v.toNat ∧
      (c.levelShown p v).rd (R.FP_CHG_CNT p) = .ofNat 32 (min 0xFFFFFFFF ((c.rd (R.FP_CHG_CNT p)).toNat + 1)) := by
  have hne : R.FP_STATUS p ≠ R.FP_CHG_CNT p := by unfold R.FP_STATUS R.FP_CHG_CNT; omega
  have hst (f : Fld) : (c.levelShown p v).fget (R.FP_STATUS p) f = ((c.fpShow p v).fset (R.FP_STATUS p) F.FP_STATUS_STATE v.toNat).fget (R.FP_STATUS p) f :=
    congrArg f.get (Chip.rd_bump_ne _ _ hne)
  refine ⟨?_, ?_, ?_⟩
  · have hv : (c.fpShow p v).flag (R.FP_STATUS p) F.FP_STATUS_VALUE = v := by
      rw [Chip.flag, Chip.fpShow, Chip.fbit, Chip.fget_fset_ne _ _ _ _ (by unfold R.FP_STATUS R.FLD_IN_STATE; omega)]
      exact Chip.flag_fbit_self _ _ _ _ (by decide) (by decide)
    rw [Chip.flag, hst, Chip.fget_fset_field _ _ _ _ _ (by decide) (by decide)]
    exact hv
  · rw [hst, Chip.fget_fset_self _ _ _ _ (by decide)]
    cases v <;> rfl
  · rw [Chip.levelShown, Chip.rd_bump_self, Chip.rd_fset_ne _ _ _ hne.symm,
      (PointWrites.fpShow c p v).rd_of (by unfold R.FP_CHG_CNT; omega) hne.symm]

/-! ### Flags and faults -/

/-- A flag of a point's status that sets with a fault event. -/
theorem Chip.flagged_says (c : Chip) {p : Nat} (f : Fld) (k : Nat) (hp : p < 32) (hf : f.lo + f.w ≤ 32) (hw : 1 ≤ f.w) :
    (((c.fset (R.FP_STATUS p) f 1).fpFaultEvent p k).fldPush c).flag (R.FP_STATUS p) f = true ∧
      Only [Blk.fld, Blk.sys, Blk.evr, Blk.que] c (((c.fset (R.FP_STATUS p) f 1).fpFaultEvent p k).fldPush c) := by
  refine ⟨?_, ?_⟩
  · rw [Chip.flag_fldPush, Chip.flag, Chip.fget, Chip.rd_fpFaultEvent _ _ _ (by unfold R.FP_STATUS; omega) (by unfold R.FP_STATUS R.FP_FAULT_CNT; omega)]
    exact Chip.flag_fbit_self c _ f true hf hw
  · exact ((PointWrites.status c p f 1).only hp |>.mono (by simp)).trans <| (Only.fpFaultEvent _ k hp).trans (Only.fldPush _ _ c)

/-- A flag of a point's status that clears. -/
theorem Chip.cleared_says (c : Chip) {p : Nat} (f : Fld) (hf : f.lo + f.w ≤ 32) :
    ((c.fset (R.FP_STATUS p) f 0).fldPush c).flag (R.FP_STATUS p) f = false ∧
      ∀ a, a ≠ R.FP_STATUS p → ((c.fset (R.FP_STATUS p) f 0).fldPush c).rd a = c.rd a := by
  refine ⟨?_, fun a ha => ?_⟩
  · rw [Chip.flag_fldPush, Chip.flag_fset_zero _ _ _ hf]
  · rw [Chip.rd_fldPush, Chip.rd_fset_ne _ _ _ ha]

/-- A fault of an output without AUTO_RETRY, its switch hot or not. -/
theorem Chip.fpFault_says (c : Chip) {p k : Nat} (hot : Bool) (hp : p < 32) (hk : k < 16) (ha : c.flag (R.FP_CFG p) F.FP_CFG_AUTO_RETRY = false) :
    (c.fpFault p k hot).fpRun p = .fault ∧ (c.fpFault p k hot).fget (R.FP_STATUS p) F.FP_STATUS_FAULT = k ∧ (c.fpFault p k hot).fpOn p = false ∧
      ((c.fpFault p k hot).fp p).hot = (hot || (c.fp p).hot) ∧ Only [Blk.fld, Blk.sys, Blk.evr, Blk.que] c (c.fpFault p k hot) := by
  obtain ⟨d, hd⟩ : ∃ d, d = c.fpFaultEvent p k := ⟨_, rfl⟩
  have had : d.flag (R.FP_CFG p) F.FP_CFG_AUTO_RETRY = false := by
    rw [hd, Chip.flag, Chip.fget, Chip.rd_fpFaultEvent _ _ _ (by unfold R.FP_CFG; omega) (by unfold R.FP_CFG R.FP_FAULT_CNT; omega)]
    exact ha
  have hoc : Only [Blk.fld, Blk.sys, Blk.evr, Blk.que] c d := by rw [hd]; exact Only.fpFaultEvent c k hp
  have hdhot : (d.fp p).hot = (c.fp p).hot := by rw [hd, Chip.fp_fpFaultEvent]
  obtain ⟨e, he⟩ : ∃ e, e = d.setFpRun p .fault := ⟨_, rfl⟩
  have hpe : PointWrites p d e := he ▸ .setFpRun d p .fault
  have hrun : e.fpRun p = .fault := he ▸ Chip.fpRun_setFpRun d p .fault (by decide)
  have hehot : (e.fp p).hot = (d.fp p).hot := by
    rw [he]; exact Chip.hot_setFpRun d p .fault
  obtain ⟨g, hg⟩ : ∃ g, g = e.fset (R.FP_CMD p) F.FP_CMD_ON 0 := ⟨_, rfl⟩
  have hgs : g.rd (R.FP_STATUS p) = e.rd (R.FP_STATUS p) := by rw [hg]; exact Chip.rd_fset_ne _ _ _ (by unfold R.FP_STATUS R.FP_CMD; omega)
  have hgc : g.rd (R.FP_CFG p) = e.rd (R.FP_CFG p) := by rw [hg]; exact Chip.rd_fset_ne _ _ _ (by unfold R.FP_CFG R.FP_CMD; omega)
  have hgx : g.fp p = e.fp p := by rw [hg, Chip.fp_fset]
  have hgr : g.fpRun p = .fault := (Chip.fpRun_of (congrArg (fun w => F.FP_CFG_MODE.get w == 2) hgc) (Chip.fpState_of (congrArg F.FP_STATUS_STATE.get hgs))
    (by rw [hgx])).trans hrun
  have hgo : g.fpOn p = false := by rw [hg]; exact Chip.flag_fset_zero _ _ _ (by decide)
  have heq : c.fpFault p k hot = (g.fset (R.FP_STATUS p) F.FP_STATUS_FAULT k).setFp p { g.fp p with hot := hot || (g.fp p).hot, waited := false } := by
    rw [hg, he, Chip.fpFault, ← hd, had]
    rfl
  have hlast : PointWrites p g (c.fpFault p k hot) := by rw [heq]; exact (PointWrites.status g p _ _).trans (.setFp _ p _)
  refine ⟨?_, ?_, ?_, ?_, ?_⟩
  · rw [heq]
    refine (Chip.fpRun_setFp _ ?_).trans ((Chip.fpRun_fset_fault g p k).trans hgr)
    rw [Chip.fp_fset]
  · rw [heq]
    exact (Chip.fget_fset_self g _ _ _ (by decide)).trans (Nat.mod_eq_of_lt hk)
  · rw [hlast.fpOn, hgo]
  · rw [heq, Chip.fp_setFp_self, hgx, hehot, hdhot]
  · refine hoc.trans <| ((hpe.only hp).mono (by simp)).trans <| Only.trans ?_ ((hlast.only hp).mono (by simp))
    rw [hg]
    exact Only.fldReg (by simp) _ _ _ (by unfold R.FP_CMD; omega)

/-- An output that restarts drives. -/
theorem Chip.fpRestart_says {c : Chip} {p : Nat} (hp : p < 32) (ho : c.fpOut p = true) (hr : c.fpRun p = .cooldown) (hhot : (c.fp p).hot = false)
    (hw : (c.fp p).waited = true) (hs : c.supplyFault = false) :
    (c.fpRestart p).fpRun p = .on ∧ ((c.fpRestart p).fp p).hot = false ∧ Only [Blk.fld] c (c.fpRestart p) := by
  have he : c.fpRestart p = c.fpDrive p := if_pos ⟨ho, by simp [hhot], .inl ⟨hr, hw⟩⟩
  refine ⟨by rw [he, Chip.fpRun_fpDrive p hs], ?_, (PointWrites.fpRestart c p).only hp⟩
  rw [he, Chip.fpDrive, Chip.fp_fset, Chip.hot_setFpRun, hhot]

/-- Proves O26: each row is the state its operation leaves the point in; outside the field die only the fault event's registers change. -/
theorem fieldPointsAndFaults : Obligations.FieldPointsAndFaults := by
  unfold Obligations.FieldPointsAndFaults
  have hseen {p : Fin 32} {c d : Chip} (h : ∀ a, 0x40410000 ≤ a → a ≠ R.FP_CMD p → d.rd a = c.rd a) :
      d.fpOut p = c.fpOut p ∧ d.fpEn p = c.fpEn p ∧ d.fpState p = c.fpState p ∧ d.supplyFault = c.supplyFault :=
    (Chip.point_seen h).resolve_right (Nat.not_le_of_lt p.isLt)
  refine ⟨fun p level s hsam hinv hne => ?_, fun p s hsam hen hm hwb => ?_, fun p s hm => ?_, fun p s h ho hst hsup => ?_, fun p s h ho hst => ?_,
    fun p hot s hd ha => ?_, fun p s hd ha => ?_, fun p data s h hon hst => ?_, fun p s ho hhot hsup => ?_, fun p s ho hwt hsup => ?_,
    fun p s hd hen hm hol => ?_, fun p s hm => ?_⟩
  case _ =>
    have he : s.chip.fpFiltered p level = s.chip.fpChange p level := by
      rw [Chip.fpFiltered, hinv, show (level != false) = level by cases level <;> rfl]
      exact if_pos ⟨hsam, hne.symm⟩
    have hsv := Chip.fpChange_served s.chip p level
    obtain ⟨hv, hs, hc⟩ := s.chip.levelShown_says p level
    refine ⟨_, State.next_chip (c := (s.chip.fpChange p level).fldPush s.chip) (by rw [he]), ?_, ?_, ?_, ?_⟩
    · rw [Chip.flag_fldPush, hsv.flag_die _ (by unfold R.FP_STATUS; omega), hv]
    · rw [Chip.fget_fldPush, hsv.fget_die _ (by unfold R.FP_STATUS; omega), hs]
    · rw [Chip.rd_fldPush, hsv.rd_die (by unfold R.FP_CHG_CNT; omega), hc]
    · exact ((Only.levelShown s.chip level p.isLt).mono (by simp)).trans <| (hsv.blocks.mono (by simp)).trans (Only.fldPush _ _ _)
  case _ =>
    have he : s.chip.wireBreak p = (s.chip.fset (R.FP_STATUS p) F.FP_STATUS_WIRE_BREAK 1).fpFaultEvent p 4 :=
      if_pos ⟨hsam, hen, by simp [hm], by simp [hwb]⟩
    have h := s.chip.flagged_says F.FP_STATUS_WIRE_BREAK 4 p.isLt (by decide) (by decide)
    rw [← he] at h
    exact ⟨_, rfl, h⟩
  case _ =>
    have he : s.chip.wireBreakClear p = s.chip.fset (R.FP_STATUS p) F.FP_STATUS_WIRE_BREAK 0 := if_neg (by simp [hm])
    have h := s.chip.cleared_says (p := p) F.FP_STATUS_WIRE_BREAK (by decide)
    rw [← he] at h
    exact ⟨_, rfl, h⟩
  case _ =>
    obtain ⟨d, hon, hrd, hx, hd, hw⟩ := fpCmd_lands (F.FP_CMD_ON.of true.toNat) h
    obtain ⟨h₁, h₂, h₃, h₄⟩ := hseen hrd
    have he : d.fpCmd p (F.FP_CMD_ON.of true.toNat) = d.fpDrive p :=
      Chip.fpCmd_drives (by decide) (h₁.trans ho.1) (h₂.trans ho.2) (hon.trans (by decide)) (h₃.trans hst)
    rw [he] at hw
    refine ⟨_, congrArg Host.Outcome.next hw, ?_, ?_, ?_⟩
    · rw [Chip.fpState_fldPush, Chip.fpState_fpDrive (Chip.fpInHold_of_state (h₃.trans hst) (by decide)) (h₄.trans hsup)]
    · rw [(Chip.fldPush_writes _ _ p.val).fpOn, (PointWrites.fpDrive d p).fpOn, hon]
      decide
    · exact hd.trans <| ((PointWrites.fpDrive d p).only p.isLt).trans (Only.fldPush _ _ _)
  case _ =>
    obtain ⟨d, hon, hrd, hx, hd, hw⟩ := fpCmd_lands (F.FP_CMD_ON.of false.toNat) h
    obtain ⟨h₁, h₂, h₃, h₄⟩ := hseen hrd
    have he : d.fpCmd p (F.FP_CMD_ON.of false.toNat) = d.fpOff p :=
      Chip.fpCmd_stops (by decide) (h₁.trans ho) (hon.trans (by decide)) (h₃.trans hst)
    rw [he] at hw
    refine ⟨_, congrArg Host.Outcome.next hw, ?_, ?_, ?_⟩
    · rw [Chip.fpState_fldPush, Chip.fpState_fpOff (Chip.fpInHold_of_state (h₃.trans hst) (by decide))]
    · rw [(Chip.fldPush_writes _ _ p.val).fpOn, (PointWrites.fpOff d p).fpOn, hon]
      decide
    · exact hd.trans <| ((PointWrites.fpOff d p).only p.isLt).trans (Only.fldPush _ _ _)
  case _ =>
    obtain ⟨h₁, h₂, h₃, h₄, h₅⟩ := s.chip.fpFault_says hot p.isLt (by decide : 1 < 16) ha
    refine ⟨_, State.next_chip (c := (s.chip.fpFault p 1 hot).fldPush s.chip) (by rw [if_pos hd]), ?_, ?_, ?_, h₅.trans (Only.fldPush _ _ _)⟩
    · rw [Chip.fpRun_fldPush, h₁]
    · rw [Chip.fget_fldPush, h₂]
    · rw [(Chip.fldPush_writes _ _ p.val).fpOn, h₃]
  case _ =>
    obtain ⟨h₁, h₂, h₃, h₄, h₅⟩ := s.chip.fpFault_says true p.isLt (by decide : 2 < 16) ha
    refine ⟨_, State.next_chip (c := (s.chip.fpFault p 2 true).fldPush s.chip) (by rw [if_pos hd]), ?_, ?_, ?_, h₅.trans (Only.fldPush _ _ _)⟩
    · rw [Chip.fpRun_fldPush, h₁]
    · rw [Chip.fget_fldPush, h₂]
    · rw [Chip.fp_fldPush, h₄]
      rfl
  case _ =>
    obtain ⟨c, hc⟩ : ∃ c, c = s.chip.setFp p { s.chip.fp p with hot := false } := ⟨_, rfl⟩
    have hcp : PointWrites p s.chip c := hc ▸ .setFp s.chip p _
    have hcs : c.fpState p = s.chip.fpState p := by rw [hc]; rfl
    have hhot : (c.fp p).hot = false := by rw [hc, Chip.fp_setFp_self]
    have hdir : c.direct .sup (R.FP_CMD p) = true := by rw [hc]; exact h
    obtain ⟨d, hdon, hrd, hx, hd, hw⟩ := fpCmd_lands (s := { s with chip := c }) (F.FP_CMD_REARM.put data 1) hdir
    obtain ⟨h₁, h₂, h₃, h₄⟩ := hseen hrd
    have hds : d.fpState p = .fault := h₃.trans (hcs.trans hst.2)
    have he : d.fpCmd p (F.FP_CMD_REARM.put data 1) = d.fpOff p :=
      Chip.fpCmd_rearms (Fld.get_put _ _ _ (by decide)) (h₁.trans ((hcp.fpOut p).trans hst.1))
        (by rw [hdon, Fld.get_put_ne _ _ _ _ (by decide) (by decide), hon]; rfl) hds (by rw [hx]; exact hhot)
    rw [he] at hw
    subst hc
    refine ⟨_, congrArg Host.Outcome.next hw, ?_, ?_, ?_⟩
    · rw [Chip.fpState_fldPush, Chip.fpState_fpOff (Chip.fpInHold_of_state hds (by decide))]
    · rw [Chip.fget_fldPush]
      exact Chip.fget_fset_self _ _ _ _ (by decide)
    · exact hd.trans <| ((PointWrites.fpOff d p).only p.isLt).trans (Only.fldPush _ _ _)
  case _ =>
    obtain ⟨c, hc⟩ : ∃ c, c = s.chip.setFp p { s.chip.fp p with waited := true } := ⟨_, rfl⟩
    have hr : c.fpRun p = .cooldown := by
      rw [hc, Chip.fpRun_setFp]
      exacts [ho.2, rfl]
    obtain ⟨h₁, -, h₃⟩ := Chip.fpRestart_says (c := c) p.isLt (by rw [hc]; exact ho.1) hr (by rw [hc, Chip.fp_setFp_self]; exact hhot)
      (by rw [hc, Chip.fp_setFp_self]) (by rw [hc]; exact hsup)
    have hcp : PointWrites p s.chip c := hc ▸ .setFp s.chip p _
    refine ⟨_, State.next_chip (c := (c.fpRestart p).fldPush s.chip) (by rw [hc]), ?_, (hcp.only p.isLt).trans <| h₃.trans (Only.fldPush _ _ _)⟩
    rw [Chip.fpRun_fldPush, h₁]
  case _ =>
    obtain ⟨c, hc⟩ : ∃ c, c = s.chip.setFp p { s.chip.fp p with hot := false } := ⟨_, rfl⟩
    have hr : c.fpRun p = .cooldown := by
      rw [hc, Chip.fpRun_setFp]
      exacts [ho.2, rfl]
    obtain ⟨h₁, h₂, h₃⟩ := Chip.fpRestart_says (c := c) p.isLt (by rw [hc]; exact ho.1) hr (by rw [hc, Chip.fp_setFp_self])
      (by rw [hc, Chip.fp_setFp_self]; exact hwt) (by rw [hc]; exact hsup)
    have hcp : PointWrites p s.chip c := hc ▸ .setFp s.chip p _
    refine ⟨_, State.next_chip (c := (c.fpRestart p).fldPush s.chip) (by rw [hc]), ?_, ?_, (hcp.only p.isLt).trans <| h₃.trans (Only.fldPush _ _ _)⟩
    · rw [Chip.fpRun_fldPush, h₁]
    · rw [Chip.fp_fldPush, h₂]
  case _ =>
    have he : s.chip.openLoad p = (s.chip.fset (R.FP_STATUS p) F.FP_STATUS_OPEN_LOAD 1).fpFaultEvent p 3 :=
      if_pos ⟨hd, hen, by simp [hm], by simp [hol]⟩
    have h := s.chip.flagged_says F.FP_STATUS_OPEN_LOAD 3 p.isLt (by decide) (by decide)
    rw [← he] at h
    exact ⟨_, rfl, h⟩
  case _ =>
    have he : s.chip.openLoadClear p = s.chip.fset (R.FP_STATUS p) F.FP_STATUS_OPEN_LOAD 0 := if_neg (by simp [hm])
    have h := s.chip.cleared_says (p := p) F.FP_STATUS_OPEN_LOAD (by decide)
    rw [← he] at h
    exact ⟨_, rfl, h⟩
end Sys2Proof.Machine
end

section
/-! PROOF. Configuration, supply, clamps and holding of the field die (R260, R264 to R269). -/

namespace Sys2Proof.Machine
open Sys2Proof

/-! ### Operations on every point -/

/-- Of the registers, c' differs from c at most in the statuses of the points and the two words that gather their states. -/
def FieldWrites (c c' : Chip) : Prop :=
  ∀ a, (∀ p < 32, a ≠ R.FP_STATUS p) → a ≠ R.FLD_IN_STATE → a ≠ R.FLD_STATUS → c'.rd a = c.rd a

theorem FieldWrites.trans {c c' c'' : Chip} (h : FieldWrites c c') (h' : FieldWrites c' c'') : FieldWrites c c'' :=
  fun a h₁ h₂ h₃ => (h' a h₁ h₂ h₃).trans (h a h₁ h₂ h₃)
theorem PointWrites.field {p : Nat} {c c' : Chip} (h : PointWrites p c c') (hp : p < 32) : FieldWrites c c' := fun a h₁ h₂ h₃ => h.rd a (h₁ p hp) h₂ h₃
theorem FieldWrites.foldl {f : Chip → Nat → Chip} (hf : ∀ c p, PointWrites p c (f c p)) :
    ∀ (l : List Nat) (c : Chip), (∀ p ∈ l, p < 32) → FieldWrites c (l.foldl f c)
  | [], _, _ => fun _ _ _ _ => rfl
  | p :: l, c, h => ((hf c p).field (h p (by simp))).trans (foldl hf l (f c p) fun q hq => h q (by simp [hq]))
theorem FieldWrites.all {f : Chip → Nat → Chip} (hf : ∀ c p, PointWrites p c (f c p)) (c : Chip) : FieldWrites c ((List.range 32).foldl f c) :=
  .foldl hf _ c fun _ hp => List.mem_range.1 hp
theorem FieldWrites.only {c c' : Chip} (h : FieldWrites c c') : Only [Blk.fld] c c' := fun a ha => by
  have hm := ha Blk.fld (by simp)
  simp only [Blk.fld] at hm
  refine h a (fun p hp => ?_) ?_ ?_
  · unfold R.FP_STATUS; omega
  · unfold R.FLD_IN_STATE; omega
  · unfold R.FLD_STATUS; omega
theorem FieldWrites.supplyFault {c c' : Chip} (h : FieldWrites c c') : c'.supplyFault = c.supplyFault :=
  congrArg (fun w => F.FLD_SUP_STATUS_SUPPLY_FAULT.get w == 1)
    (h R.FLD_SUP_STATUS (fun p _ => by unfold R.FLD_SUP_STATUS R.FP_STATUS; omega) (by decide) (by decide))

/-- What each operation makes true of its point, and the operations on the other points keep, holds of every point at the end. -/
theorem points_all {f : Chip → Nat → Chip} {P : Chip → Nat → Prop} (hf : ∀ c p, PointWrites p c (f c p)) (hP : ∀ c p, P (f c p) p)
    (hk : ∀ {c c' p q}, PointWrites p c c' → q ≠ p → P c q → P c' q) : ∀ (l : List Nat) (c : Chip) (q : Nat), q ∈ l ∨ P c q → P (l.foldl f c) q
  | [], _, _, h => h.resolve_left (by simp)
  | p :: l, c, q, h => by
    refine points_all hf hP hk l (f c p) q ?_
    by_cases hq : q = p
    · exact .inr (hq ▸ hP c p)
    · rcases h with h | h
      · exact .inl ((List.mem_cons.1 h).resolve_left hq)
      · exact .inr (hk (hf c p) hq h)

theorem PointWrites.masked (c : Chip) (p : Nat) : PointWrites p c (c.fbit (R.FP_STATUS p) F.FP_STATUS_SUPPLY_MASKED c.fldMasked) := .status c p _ _
theorem Chip.fldMask_writes (c : Chip) : FieldWrites c c.fldMask := .all PointWrites.masked c
theorem Chip.fpRun_masked (c : Chip) (p q : Nat) (b : Bool) : (c.fbit (R.FP_STATUS p) F.FP_STATUS_SUPPLY_MASKED b).fpRun q = c.fpRun q := by
  have hw : PointWrites p c (c.fbit (R.FP_STATUS p) F.FP_STATUS_SUPPLY_MASKED b) := .status c p _ _
  by_cases h : q = p
  · subst h
    exact Chip.fpRun_of (hw.fpOut q) (Chip.fpState_of (Chip.state_fset_field c q _ _ (by decide))) rfl
  · exact hw.fpRun h
theorem Chip.fpDrives_masks (q : Nat) : ∀ (l : List Nat) (c : Chip),
    (l.foldl (fun c p => c.fbit (R.FP_STATUS p) F.FP_STATUS_SUPPLY_MASKED c.fldMasked) c).fpDrives q = c.fpDrives q
  | [], _ => rfl
  | p :: l, c => (fpDrives_masks q l _).trans (by rw [Chip.fpDrives, (PointWrites.masked c p).fpOut, Chip.fpRun_masked]; rfl)

/-! ### The supply -/

/-- An output that drives or cools down waits for the supply. -/
def Chip.supplyGone (c : Chip) (p : Nat) : Chip :=
  if c.fpOut p ∧ (c.fpRun p = .on ∨ c.fpRun p = .cooldown) then (c.setFpRun p .waitSupply).fset (R.FP_STATUS p) F.FP_STATUS_FAULT 0 else c
/-- The supply's status, its count and its event. -/
def Chip.supplyShown (c : Chip) : Chip := ((c.fset R.FLD_SUP_STATUS F.FLD_SUP_STATUS_SUPPLY_FAULT 1).bump R.FLD_SUP_FAULT_CNT).raiseFrom 6 84
def Chip.limitsShown (c : Chip) (tooHigh : Bool) : Chip :=
  c.fbit R.FLD_SUP_STATUS F.FLD_SUP_STATUS_OV tooHigh |>.fbit R.FLD_SUP_STATUS F.FLD_SUP_STATUS_UV (!tooHigh)

theorem Chip.fldFault_eq (c : Chip) (tooHigh : Bool) : c.fldFault tooHigh =
    if (c.limitsShown tooHigh).supplyFault then c.limitsShown tooHigh
    else ((List.range 32).foldl Chip.supplyGone (c.limitsShown tooHigh).supplyShown).fldMask := rfl
theorem Chip.supplyFault_limitsShown (c : Chip) (tooHigh : Bool) : (c.limitsShown tooHigh).supplyFault = c.supplyFault :=
  congrArg (· == 1) ((Chip.fget_fset_field _ _ _ _ _ (by decide) (by decide)).trans (Chip.fget_fset_field _ _ _ _ _ (by decide) (by decide)))
theorem Chip.supplyFault_supplyShown (c : Chip) : c.supplyShown.supplyFault = true := by
  have hs : Served ((c.fset R.FLD_SUP_STATUS F.FLD_SUP_STATUS_SUPPLY_FAULT 1).bump R.FLD_SUP_FAULT_CNT) c.supplyShown := .raiseFrom _ 6 (by decide)
  rw [Chip.supplyFault, hs.flag_die _ (by decide), Chip.flag, Chip.fget, Chip.rd_bump_ne _ _ (by decide)]
  exact Chip.flag_fbit_self c _ _ true (by decide) (by decide)

theorem Chip.supplyGone_writes (c : Chip) (p : Nat) : PointWrites p c (c.supplyGone p) :=
  .ite (fun _ => (PointWrites.setFpRun c p _).trans (.status _ p _ _)) (fun _ => .refl c)
theorem Chip.fpDrives_supplyGone (c : Chip) (p : Nat) : (c.supplyGone p).fpDrives p = false := by
  rw [Chip.supplyGone]
  split
  next h => simp [Chip.fpDrives, Chip.fpRun_fset_fault, Chip.fpRun_setFpRun c p .waitSupply (by decide)]
  next h =>
    simp only [Chip.fpDrives, Bool.and_eq_false_iff, beq_eq_false_iff_ne]
    by_cases ho : c.fpOut p = true
    · exact .inr fun hr => h ⟨ho, .inl hr⟩
    · exact .inl (by simpa using ho)
theorem Chip.fpDrives_supplyLost (c : Chip) {q : Nat} (hq : q < 32) : (((List.range 32).foldl Chip.supplyGone c).fldMask).fpDrives q = false := by
  rw [Chip.fldMask, Chip.fpDrives_masks]
  refine points_all (P := fun c p => c.fpDrives p = false) Chip.supplyGone_writes Chip.fpDrives_supplyGone (fun hw hne h => ?_) _ c q (.inl (List.mem_range.2 hq))
  rw [Chip.fpDrives, hw.fpOut, hw.fpRun hne]
  exact h
theorem Chip.fpDrives_fldPush (c was : Chip) (p : Nat) : (c.fldPush was).fpDrives p = c.fpDrives p := by
  rw [Chip.fpDrives, Chip.fpOut_fldPush, Chip.fpRun_fldPush]
  rfl
theorem Chip.supplyFault_fldPush (c was : Chip) : (c.fldPush was).supplyFault = c.supplyFault := c.flag_fldPush was _ _

/-! ### The measurements that the die pushes -/

theorem Chip.rd_wrs_ne {g : Nat → Nat} {x : Nat → Word} {a : Nat} : ∀ (l : List Nat) (c : Chip), (∀ p ∈ l, a ≠ g p) →
    (l.foldl (fun c p => c.wr (g p) (x p)) c).rd a = c.rd a
  | [], _, _ => rfl
  | p :: l, c, h => (rd_wrs_ne (g := g) (x := x) l (c.wr (g p) (x p)) fun q hq => h q (by simp [hq])).trans (Chip.rd_wr_ne _ _ (h p (by simp)))
/-- Words written in turn to addresses that differ. -/
theorem Chip.rd_wrs {g : Nat → Nat} {x : Nat → Word} (hg : ∀ p q, g p = g q → p = q) {p : Nat} (l : List Nat) (c : Chip) (h : p ∈ l) :
    (l.foldl (fun c p => c.wr (g p) (x p)) c).rd (g p) = x p := by
  induction l generalizing c with
  | nil => simp at h
  | cons q l ih =>
    by_cases hp : p ∈ l
    · exact ih (c.wr (g q) (x q)) hp
    · have hpq : p = q := (List.mem_cons.1 h).resolve_right hp
      have hne : ∀ r ∈ l, g p ≠ g r := fun r hr he => hp (hg p r he ▸ hr)
      rw [List.foldl_cons, Chip.rd_wrs_ne l _ hne, ← hpq, Chip.rd_wr_self]

/-! ### LIMP -/

theorem Chip.fpLimp_leaves_held (c : Chip) (p : Nat) : (c.fpLimp p).fpOut p = true → (c.fpLimp p).fpState p ≠ .held := by
  intro ho
  rw [(PointWrites.fpLimp c p).fpOut] at ho
  unfold Chip.fpLimp
  split
  next h =>
    extract_lets d
    have hd : d.fpState p = .limp := Chip.fpState_fset_state c p .limp
    have hh : d.fpInHold p = true := by
      have : d.fpOut p = true := ((PointWrites.status c p _ _).fpOut p).trans h.1
      simp [Chip.fpInHold, this, hd]
    have hoff : (d.fpOff p).fpState p = .limp := by rw [Chip.fpOff, Chip.fpState_fset_fault, Chip.fpState_setFpRun, hh, if_pos rfl, hd]
    have hdrv : (d.fpDrive p).fpState p = .limp := by rw [Chip.fpDrive, Chip.fpState_fset_fault, Chip.fpState_setFpRun, hh, if_pos rfl, hd]
    split
    · split
      · rw [hd]; decide
      · rw [hoff]; decide
    · split
      · rw [hd]; decide
      · rw [hdrv]; decide
    · rw [hd]; decide
  next h => exact fun hs => h ⟨ho, hs⟩
theorem Chip.fldLimp_writes (c : Chip) : FieldWrites c c.fldLimp := (FieldWrites.all PointWrites.fpLimp c).trans ((PointWrites.fldRefresh _ 0).field (by decide))
theorem Chip.fldLimp_leaves_held (c : Chip) {q : Nat} (hq : q < 32) : c.fldLimp.fpOut q = true → c.fldLimp.fpState q ≠ .held := by
  have hall := points_all (P := fun c p => c.fpOut p = true → c.fpState p ≠ .held) PointWrites.fpLimp Chip.fpLimp_leaves_held
    (fun hw hne h => by rw [hw.fpOut, hw.fpState hne]; exact h) (List.range 32) c q (.inl (List.mem_range.2 hq))
  have hr := PointWrites.fldRefresh ((List.range 32).foldl Chip.fpLimp c) (q + 1)
  intro ho
  rw [Chip.fldLimp, hr.fpOut] at ho
  rw [Chip.fldLimp, hr.fpState (by omega)]
  exact hall ho

/-! ### A write of FP_CFG -/

/-- The supervisor's word for FP_CFG reaches the die, which acts on it. -/
theorem fpCfg_lands {s : State} {p : Fin 32} (x : Word) (h : s.chip.direct .sup (R.FP_CFG p) = true) :
    ∃ d : Chip, (∀ a, 0x40400100 ≤ a → d.rd a = s.chip.rd a) ∧ (∀ q, d.fp q = s.chip.fp q) ∧ Only [Blk.fld] s.chip d ∧
      s.write .sup (R.FP_CFG p) x = { s with chip := (d.fpCfg p (d.rd (R.FP_CFG p)) (fpCfgWord (d.rd (R.FP_CFG p)) x)).fldPush d } := by
  obtain ⟨c, hc, hw⟩ := State.write_travels x h (by rw [dieOf_fpCfg]; decide) (isAlias_fpCfg p)
  rw [dieOf_fpCfg] at hc
  rw [Chip.regWrite_as_fpCfg (findReg_fpCfg p)] at hw
  exact ⟨c, fun a ha => hc.rd (Nat.ne_of_gt (Nat.lt_of_lt_of_le (by decide : tokenAddr 6 < 0x40400100) ha)), fun q => hc.fp q,
    hc.only ⟨Blk.fld, by simp, by decide⟩, hw⟩

theorem fpCfgWord_en (old x : Word) : F.FP_CFG_EN.get (fpCfgWord old x) = F.FP_CFG_EN.get x :=
  (Fld.get_some1_ne _ _ _ (by decide) (by decide)).trans <| (get_keep_ne _ _ _ _ _ (by decide) (by decide)).trans <|
    (get_keep_ne _ _ _ _ _ (by decide) (by decide)).trans <| (get_keep_ne _ _ _ _ _ (by decide) (by decide)).trans <| Fld.get_mergeWord _ _ _ _ _ _ (by decide)
theorem get_keep_free (f : Fld) {q : Nat → Bool} {old x : Word} (h : q (f.get x) = false) : f.get (f.keep q old x) = f.get x := by
  rw [Fld.keep, h]
  rfl
theorem fpCfgWord_mode {old x : Word} (h : F.FP_CFG_MODE.get x ≤ 2) : F.FP_CFG_MODE.get (fpCfgWord old x) = F.FP_CFG_MODE.get x := by
  have hm : F.FP_CFG_MODE.get (mergeWord fpCfgDesc false false old x).1 = F.FP_CFG_MODE.get x := Fld.get_mergeWord _ _ _ _ _ _ (by decide)
  refine (Fld.get_some1_ne _ _ _ (by decide) (by decide)).trans <| (get_keep_ne _ _ _ _ _ (by decide) (by decide)).trans <|
    (get_keep_ne _ _ _ _ _ (by decide) (by decide)).trans <| (get_keep_free _ ?_).trans hm
  rw [hm, beq_eq_false_iff_ne]
  omega

theorem Chip.fpEn_wr (c : Chip) (p : Nat) (x : Word) : (c.wr (R.FP_CFG p) x).fpEn p = (F.FP_CFG_EN.get x == 1) := congrArg (· == 1) (Chip.fget_wr_self c _ _ _)
theorem Chip.fpOut_wr (c : Chip) (p : Nat) (x : Word) : (c.wr (R.FP_CFG p) x).fpOut p = (F.FP_CFG_MODE.get x == 2) := congrArg (· == 2) (Chip.fget_wr_self c _ _ _)
theorem Chip.fpState_wr (c : Chip) (p : Nat) (x : Word) : (c.wr (R.FP_CFG p) x).fpState p = c.fpState p :=
  Chip.fpState_of (congrArg F.FP_STATUS_STATE.get (Chip.rd_wr_ne c x (by unfold R.FP_STATUS R.FP_CFG; omega)))

/-- A change of an active output's mode is refused and counted; the rest of the word is stored. -/
def Chip.pointRefused (c : Chip) (p : Nat) (old x : Word) : Chip :=
  (c.wr (R.FP_CFG p) (F.FP_CFG_MODE.put x (F.FP_CFG_MODE.get old))).bump R.FLD_MODE_REFUSED_CNT
/-- The word as stored: a change of an active output's mode is refused. -/
def Chip.pointStored (c : Chip) (p : Nat) (old x : Word) : Chip :=
  if F.FP_CFG_MODE.get x ≠ F.FP_CFG_MODE.get old ∧ ¬ (!(c.fpOut p && c.fpState p != .off && c.fpState p != .disabled)) = true then c.pointRefused p old x
  else c.wr (R.FP_CFG p) x
/-- A point that changes between input and output starts from OFF. -/
def Chip.pointTurned (c : Chip) (p : Nat) (was : Bool) : Chip := if c.fpOut p = was then c else c.fpKind p
/-- What EN, INVERT and ON make of the point then. -/
def Chip.pointActs (c : Chip) (p : Nat) (old x : Word) (was : Bool) : Chip :=
  if ¬ c.fpEn p then
    if c.fpOut p then c.fpStop p else c.fset (R.FP_STATUS p) F.FP_STATUS_STATE 7
  else if F.FP_CFG_EN.get old = 0 then
    let c := c.fset (R.FP_CMD p) F.FP_CMD_ON 0
    if c.fpState p = .disabled then
      c.fset (R.FP_STATUS p) F.FP_STATUS_STATE (if c.fpOut p then 0 else c.fget (R.FP_STATUS p) F.FP_STATUS_VALUE)
    else c
  else if ¬ c.fpOut p ∧ ¬ was ∧ F.FP_CFG_INVERT.get old ≠ F.FP_CFG_INVERT.get x then c.fpChange p (!c.flag (R.FP_STATUS p) F.FP_STATUS_VALUE)
  else c.fpTakeOn p
theorem Chip.fpCfg_eq (c : Chip) (p : Nat) (old x : Word) :
    c.fpCfg p old x = ((c.pointStored p old x).pointTurned p (c.fpOut p)).pointActs p old x (c.fpOut p) := rfl

/-- EN = 0 of an output. -/
theorem Chip.fpCfg_stops {c : Chip} {p : Nat} {old x : Word} (hx : F.FP_CFG_MODE.get x = 2) (hold : F.FP_CFG_MODE.get old = 2) (ho : c.fpOut p = true)
    (he : F.FP_CFG_EN.get x = 0) : c.fpCfg p old x = (c.wr (R.FP_CFG p) x).fpStop p := by
  have h₁ := c.fpOut_wr p x
  have h₂ := c.fpEn_wr p x
  rw [hx] at h₁
  rw [he] at h₂
  have hst : c.pointStored p old x = c.wr (R.FP_CFG p) x := if_neg fun h => h.1 (hx.trans hold.symm)
  rw [Chip.fpCfg_eq, hst, Chip.pointTurned, if_pos (by rw [h₁, ho]; rfl), Chip.pointActs, if_pos (by simp [h₂]), if_pos (by rw [h₁]; rfl)]
theorem Chip.fpStop_off {c : Chip} {p : Nat} (hs : c.fpState p = .off) (hx : (c.fp p).clamping = false) :
    c.fpStop p = (c.fset (R.FP_STATUS p) F.FP_STATUS_STATE 7).fldRefresh := by
  simp [Chip.fpStop, Chip.fpInHold_of_state hs (by decide), hs, hx]

theorem Chip.fpCfg_refuses {c : Chip} {p : Nat} {old x : Word} (hx : F.FP_CFG_MODE.get x < 2) (he : F.FP_CFG_EN.get x = 1)
    (hold : F.FP_CFG_MODE.get old = 2) (ho : c.fpOut p = true) (hs : c.fpState p = .on) :
    ∃ e, (e = c.pointRefused p old x ∨ e = (c.pointRefused p old x).fset (R.FP_CMD p) F.FP_CMD_ON 0) ∧ PointWrites p e (c.fpCfg p old x) := by
  obtain ⟨d, hd⟩ : ∃ d, d = c.pointRefused p old x := ⟨_, rfl⟩
  have hcfg : d.rd (R.FP_CFG p) = F.FP_CFG_MODE.put x (F.FP_CFG_MODE.get old) := by
    rw [hd, Chip.pointRefused, Chip.rd_bump_ne _ _ (by unfold R.FP_CFG R.FLD_MODE_REFUSED_CNT; omega), Chip.rd_wr_self]
  have hdo : d.fpOut p = true := by
    rw [Chip.fpOut, Chip.fget, hcfg, Fld.get_put _ _ _ (by decide), hold]
    rfl
  have hde : d.fpEn p = true := by
    rw [Chip.fpEn, Chip.flag, Chip.fget, hcfg, Fld.get_put_ne _ _ _ _ (by decide) (by decide), he]
    rfl
  have hds : (d.fset (R.FP_CMD p) F.FP_CMD_ON 0).fpState p ≠ .disabled := by
    have hst : d.fpState p = .on := by
      rw [hd]
      refine (Chip.fpState_of (congrArg F.FP_STATUS_STATE.get (Chip.rd_bump_ne _ _ ?_))).trans ((c.fpState_wr p _).trans hs)
      unfold R.FP_STATUS R.FLD_MODE_REFUSED_CNT; omega
    rw [Chip.fpState_of (c := d) (congrArg F.FP_STATUS_STATE.get (Chip.rd_fset_ne _ _ _ (by unfold R.FP_STATUS R.FP_CMD; omega))), hst]
    decide
  have hst : c.pointStored p old x = d := hd ▸ if_pos ⟨by omega, by simp [ho, hs]⟩
  have hacts : c.fpCfg p old x = d.pointActs p old x (c.fpOut p) := by rw [Chip.fpCfg_eq, hst, Chip.pointTurned, if_pos (hdo.trans ho.symm)]
  rw [hacts]
  by_cases hen : F.FP_CFG_EN.get old = 0
  · have heq : d.pointActs p old x (c.fpOut p) = d.fset (R.FP_CMD p) F.FP_CMD_ON 0 := by
      rw [Chip.pointActs, if_neg (by simp [hde]), if_pos hen]
      exact if_neg hds
    exact ⟨d.fset (R.FP_CMD p) F.FP_CMD_ON 0, .inr (by rw [hd]), by rw [heq]; exact PointWrites.refl _⟩
  · have heq : d.pointActs p old x (c.fpOut p) = d.fpTakeOn p := by
      rw [Chip.pointActs, if_neg (by simp [hde]), if_neg hen, if_neg (by simp [hdo])]
    exact ⟨d, .inl hd, by rw [heq]; exact PointWrites.fpTakeOn d p⟩

/-- An enabled point in OFF that stays enabled takes the word. -/
theorem Chip.fpCfg_stores {c : Chip} {p : Nat} {old x : Word} (hp : p < 32) (he : F.FP_CFG_EN.get x = 1) (hold : F.FP_CFG_EN.get old ≠ 0) (hs : c.fpState p = .off) :
    (c.fpCfg p old x).rd (R.FP_CFG p) = x := by
  obtain ⟨d, hd⟩ : ∃ d, d = c.wr (R.FP_CFG p) x := ⟨_, rfl⟩
  obtain ⟨e, hE⟩ : ∃ e, e = d.pointTurned p (c.fpOut p) := ⟨_, rfl⟩
  have hw : PointWrites p d e := hE ▸ .ite (fun _ => .refl d) (fun _ => .fpKind d p)
  have hex : e.rd (R.FP_CFG p) = x := by rw [hw.cfg, hd, Chip.rd_wr_self]
  have hee : e.fpEn p = true := by rw [Chip.fpEn, Chip.flag, Chip.fget, hex, he]; rfl
  have hst : c.pointStored p old x = d := hd ▸ if_neg fun h => h.2 (by simp [hs])
  have heq : c.fpCfg p old x =
      if ¬ e.fpOut p ∧ ¬ c.fpOut p ∧ F.FP_CFG_INVERT.get old ≠ F.FP_CFG_INVERT.get x then e.fpChange p (!e.flag (R.FP_STATUS p) F.FP_STATUS_VALUE)
      else e.fpTakeOn p := by
    rw [Chip.fpCfg_eq, hst, ← hE, Chip.pointActs, if_neg (by simp [hee]), if_neg hold]
  rw [heq]
  split
  · rw [(Chip.fpChange_served e p _).rd_die (by unfold R.FP_CFG; omega), Chip.levelShown, Chip.rd_bump_ne _ _ (by unfold R.FP_CFG R.FP_CHG_CNT; omega),
      ((PointWrites.fpShow e p _).trans (.status _ p _ _)).cfg, hex]
  · rw [(PointWrites.fpTakeOn e p).cfg, hex]

/-! ### Links that go down, and the barrier -/

/-- The registers that a failing access may write: the bus fault, and what its event serves. -/
def failedRegs : List (Nat × Nat) := (0x40000304, 0x40000310) :: servedRegs
/-- c' differs from c in what failing accesses change: the registers above, pending events, requesters, their answers, the cores, and the
events that wait for the router. -/
structure Failed (c c' : Chip) : Prop where
  rest : c' = { c with regs := c'.regs, evPend := c'.evPend, queues := c'.queues, cmds := c'.cmds, heldComps := c'.heldComps, fresh := c'.fresh, bus := c'.bus, resp := c'.resp, cores := c'.cores, modex := c'.modex }
  only : Only failedRegs c c'

namespace Failed
variable {c c' c'' : Chip}

theorem refl (c : Chip) : Failed c c := ⟨rfl, .refl _ c⟩
theorem trans (h : Failed c c') (h' : Failed c' c'') : Failed c c'' := by
  refine ⟨?_, h.only.trans h'.only⟩
  have h₁ := h.rest
  have h₂ := h'.rest
  rw [h₁] at h₂
  exact h₂
theorem ite {P : Prop} [Decidable P] (h : Failed c c') (h' : Failed c c'') : Failed c (if P then c' else c'') := by split <;> assumption
theorem foldl {α : Type} {f : Chip → α → Chip} (hf : ∀ c x, Failed c (f c x)) : ∀ (l : List α) (c : Chip), Failed c (l.foldl f c)
  | [], c => refl c
  | x :: l, c => (hf c x).trans (foldl hf l (f c x))
theorem of_served (h : Served c c') : Failed c c' := by
  refine ⟨?_, h.only.mono fun _ hx => List.mem_cons_of_mem _ hx⟩
  have h₁ := h.rest
  rw [h₁]
theorem fault (c : Chip) {a : Nat} (x : Word) (ha : 0x40000304 ≤ a ∧ a < 0x40000310) : Failed c (c.wr a x) :=
  ⟨rfl, .wr c a x ⟨_, List.mem_cons_self, ha⟩⟩
theorem raiseEver (c : Chip) (k : Nat) (hk : k < 256) : Failed c (c.raiseEver k) := ite ⟨rfl, .of_regs rfl⟩ (of_served (.raise c hk))
theorem busError (c : Chip) (write : Bool) (rq : Req) (sy : Syndrome) (a : Nat) : Failed c (c.busError write rq sy a) :=
  (fault c _ (by decide)).trans <| (fault _ _ (by decide)).trans <| (fault _ _ (by decide)).trans (raiseEver _ 3 (by decide))
theorem setBus (c : Chip) (rq : Req) (b : BusReq) : Failed c (c.setBus rq b) := ⟨rfl, .of_regs rfl⟩
theorem answer (c : Chip) (rq : Req) (a : Nat) (x : Word) (err : Nat) : Failed c (c.answer rq a x err) := ⟨rfl, .of_regs rfl⟩
theorem coreTrap (c : Chip) (rq : Req) (cause a : Nat) : Failed c (c.coreTrap rq cause a) := ite ⟨rfl, .of_regs rfl⟩ (refl c)
theorem failWrite (c : Chip) (rq : Req) (sy : Syndrome) (a : Nat) : Failed c (c.failWrite rq sy a) := (busError c true rq sy a).trans (setBus _ rq _)
theorem failRead (c : Chip) (rq : Req) (sy : Syndrome) (a : Nat) : Failed c (c.failRead rq sy a) :=
  (busError c false rq sy a).trans <| (answer _ rq a 0 sy.code).trans (coreTrap _ rq 5 a)
theorem failSent (sy : Syndrome) (c : Chip) (x : Sent) : Failed c (c.failSent sy x) := ite (failWrite c _ _ _) (failRead c _ _ _)
theorem failOrder (d : Nat) (c : Chip) (rq : Req) : Failed c (c.failOrder d rq) := by
  unfold Chip.failOrder
  split
  · exact ite ((setBus c rq _).trans (failRead _ rq _ _)) (refl c)
  · exact refl c

theorem rd (h : Failed c c') {a : Nat} (ha : a < 0x40000304 ∨ 0x40030000 ≤ a) : c'.rd a = c.rd a :=
  h.only a fun y hy => by
    simp only [failedRegs, servedRegs, Blk.que, List.mem_cons, List.not_mem_nil, or_false] at hy
    rcases hy with rfl | rfl | rfl | rfl | rfl <;> dsimp only <;> omega
theorem linkUp (h : Failed c c') {d : Nat} (hd : d < 8) : c'.linkUp d = c.linkUp d :=
  congrArg (fun w => d == 0 || F.SYS_LINK_STATUS_UP.get w == 1) (h.rd (.inl (by unfold R.SYS_LINK_STATUS; omega)))
theorem link (h : Failed c c') (d : Nat) : c'.link d = c.link d := by
  have hr := h.rest
  rw [hr]
  rfl
end Failed

/-- The status and the count of a link that goes down. -/
def Chip.linkCounted (c : Chip) (d : Nat) : Chip :=
  c.fset (R.SYS_LINK_STATUS d) F.SYS_LINK_STATUS_UP 0 |>.fset (R.SYS_LINK_STATUS d) F.SYS_LINK_STATUS_TRAINING 1 |>.bump (R.SYS_LINK_DOWN_CNT d)
/-- What the module holds of a die's Faceplate words is cut. -/
def Chip.pushesCut (c : Chip) (d : Nat) : Chip := c.setHsp { c.hsp with pushed := c.hsp.pushed.filter fun x => fpDie x.1 ≠ d }
/-- A link that goes down, before its frames fail: its registers, its traffic, and what it had pushed. -/
def Chip.linkDropped (c : Chip) (d : Nat) : Chip :=
  ((c.linkCounted d).setLink d { lost := (c.link d).lost, unacked := (c.link d).unacked }).pushesCut d
theorem Chip.linkDown_fails (c : Chip) (d : Nat) : Failed (c.linkDropped d) (c.linkDown d) :=
  (Failed.foldl (Failed.failSent .linkFail) _ _).trans (Failed.foldl (Failed.failOrder d) _ _)
theorem Chip.linkUp_setLink (c : Chip) (d k : Nat) (l : Link) : (c.setLink k l).linkUp d = c.linkUp d := (rfl)
theorem Chip.rd_setLink (c : Chip) (d a : Nat) (l : Link) : (c.setLink d l).rd a = c.rd a := (rfl)
theorem Chip.rd_pushesCut (c : Chip) (d a : Nat) : (c.pushesCut d).rd a = c.rd a := (rfl)
theorem Chip.linkUp_linkDropped (c : Chip) {d : Nat} (hd : d ≠ 0) : (c.linkDropped d).linkUp d = false := by
  have hr : (c.linkDropped d).rd (R.SYS_LINK_STATUS d) =
      ((c.fset (R.SYS_LINK_STATUS d) F.SYS_LINK_STATUS_UP 0).fset (R.SYS_LINK_STATUS d) F.SYS_LINK_STATUS_TRAINING 1).rd (R.SYS_LINK_STATUS d) := by
    rw [Chip.linkDropped, Chip.rd_pushesCut, Chip.rd_setLink, Chip.linkCounted, Chip.rd_bump_ne _ _ (by unfold R.SYS_LINK_STATUS R.SYS_LINK_DOWN_CNT; omega)]
  have hup : (c.linkDropped d).fget (R.SYS_LINK_STATUS d) F.SYS_LINK_STATUS_UP = 0 := by
    rw [Chip.fget, hr, ← Chip.fget, Chip.fget_fset_field _ _ _ _ _ (by decide) (by decide), Chip.fget_fset_self _ _ _ _ (by decide)]
    rfl
  rw [Chip.linkUp, Chip.flag, hup, beq_false_of_ne hd]
  rfl
theorem Chip.linkUp_linkDown (c : Chip) {d : Nat} (hd : d ≠ 0) (hd8 : d < 8) : (c.linkDown d).linkUp d = false :=
  ((c.linkDown_fails d).linkUp hd8).trans (c.linkUp_linkDropped hd)

theorem Chip.rd_fldReset (c : Chip) (a : Nat) : c.fldReset.rd a = if 0x40400000 ≤ a ∧ a < 0x40480000 then resetWord a else c.rd a := Chip.rd_clearRegs c _ _ a
theorem Chip.linkUp_fldReset (c : Chip) : c.fldReset.linkUp 6 = c.linkUp 6 := by
  rw [Chip.linkUp, Chip.flag, Chip.fget, Chip.rd_fldReset, if_neg (by decide)]
  rfl
theorem mode_reset (p : Fin 32) : F.FP_CFG_MODE.get (resetWord (R.FP_CFG p)) = 1 := by revert p; decide
theorem Chip.fpOut_reset (c : Chip) (p : Fin 32) : c.fldReset.fpOut p = false := by
  have h : c.fldReset.rd (R.FP_CFG p) = resetWord (R.FP_CFG p) :=
    (c.rd_fldReset _).trans (if_pos (by unfold R.FP_CFG; omega))
  rw [Chip.fpOut, Chip.fget, h, mode_reset p]
  rfl

/-- Proves O27: each row is the state its operation leaves the point, the supply or the link in. -/
theorem fieldConfigurationSupplyAndHold : Obligations.FieldConfigurationSupplyAndHold := by
  unfold Obligations.FieldConfigurationSupplyAndHold
  refine ⟨fun p parts tj s ho he hc => ?_, fun p data s h hmode ho hclamp => ?_, fun p data s h hen hmode ho => ?_, fun p data s h hen hmode hs => ?_,
    fun tooHigh s => ?_, fun tooHigh s hs => ?_, fun s hs => ?_, fun ms lplus s => ?_, fun s hl => ?_, fun s => ?_⟩
  case _ =>
    obtain ⟨d, hd⟩ : ∃ d, d = s.chip.setFp p { s.chip.fp p with clamping := false } := ⟨_, rfl⟩
    have hend : s.chip.fpClampEnd p parts tj.toNat = d := by
      have hde : d.fpEn p = true := by rw [hd]; exact he
      rw [Chip.fpClampEnd, if_pos ho, ← hd]
      simp only [hde, not_true_eq_false, if_false, if_neg (not_lt.2 hc)]
    refine ⟨_, State.next_chip (c := d.fldPush s.chip) (by rw [hend]), ?_, ?_⟩
    · rw [Chip.fp_fldPush, hd, Chip.fp_setFp_self]
    · exact (Only.of_regs (by rw [hd]; rfl)).trans (Only.fldPush _ _ _)
  case _ =>
    obtain ⟨d, hrd, hx, hd, hw⟩ := fpCfg_lands (F.FP_CFG_EN.put data 0) h
    have hst : d.fpState p = .off := (Chip.fpState_of (congrArg F.FP_STATUS_STATE.get (hrd _ (by unfold R.FP_STATUS; omega)))).trans ho.2
    have hout : d.fpOut p = true := (congrArg (fun w => F.FP_CFG_MODE.get w == 2) (hrd _ (by unfold R.FP_CFG; omega))).trans ho.1
    obtain ⟨y, hy⟩ : ∃ y, y = fpCfgWord (d.rd (R.FP_CFG p)) (F.FP_CFG_EN.put data 0) := ⟨_, rfl⟩
    have hput : F.FP_CFG_MODE.get (F.FP_CFG_EN.put data 0) = 2 := (Fld.get_put_ne _ _ _ _ (by decide) (by decide)).trans hmode
    have hym : F.FP_CFG_MODE.get y = 2 := by rw [hy, fpCfgWord_mode (by rw [hput]), hput]
    have hye : F.FP_CFG_EN.get y = 0 := by rw [hy, fpCfgWord_en, Fld.get_put _ _ _ (by decide)]; rfl
    obtain ⟨e, hE⟩ : ∃ e, e = d.wr (R.FP_CFG p) y := ⟨_, rfl⟩
    have hes : e.fpState p = .off := by rw [hE, Chip.fpState_wr, hst]
    have hstop : d.fpCfg p (d.rd (R.FP_CFG p)) y = (e.fset (R.FP_STATUS p) F.FP_STATUS_STATE 7).fldRefresh := by
      rw [Chip.fpCfg_stops hym (by simpa [Chip.fpOut, Chip.fget] using hout) hout hye, ← hE, Chip.fpStop_off hes (by rw [hE]; exact (congrArg FpX.clamping (hx p)).trans hclamp)]
    rw [← hy, hstop] at hw
    have hpw : PointWrites p e ((e.fset (R.FP_STATUS p) F.FP_STATUS_STATE 7).fldRefresh) := (PointWrites.status e p _ _).trans (.fldRefresh _ p)
    refine ⟨_, congrArg Host.Outcome.next hw, ?_, ?_, ?_⟩
    · rw [Chip.fpState_fldPush, (PointWrites.fldRefresh _ (p.val + 1)).fpState (by omega)]
      exact Chip.fpState_fset_state e p .disabled
    · rw [(Chip.fldPush_writes _ _ p.val).fpEn, hpw.fpEn, hE, Chip.fpEn_wr, hye]
      rfl
    · refine hd.trans <| Only.trans ?_ <| (hpw.only p.isLt).trans (Only.fldPush _ _ _)
      rw [hE]
      exact Only.wr _ _ _ ⟨Blk.fld, by simp, by simp only [Blk.fld, R.FP_CFG]; omega⟩
  case _ =>
    obtain ⟨d, hrd, hx, hd, hw⟩ := fpCfg_lands data h
    have hst : d.fpState p = .on := (Chip.fpState_of (congrArg F.FP_STATUS_STATE.get (hrd _ (by unfold R.FP_STATUS; omega)))).trans ho.2
    have hout : d.fpOut p = true := (congrArg (fun w => F.FP_CFG_MODE.get w == 2) (hrd _ (by unfold R.FP_CFG; omega))).trans ho.1
    have hold : F.FP_CFG_MODE.get (d.rd (R.FP_CFG p)) = 2 := by simpa [Chip.fpOut, Chip.fget] using hout
    obtain ⟨old, hOld⟩ : ∃ old, old = d.rd (R.FP_CFG p) := ⟨_, rfl⟩
    obtain ⟨y, hy⟩ : ∃ y, y = fpCfgWord old data := ⟨_, rfl⟩
    rw [← hOld, ← hy] at hw
    rw [← hOld] at hold
    obtain ⟨e, he, hpw⟩ := Chip.fpCfg_refuses (c := d) (p := p) (old := old) (x := y) (by rw [hy, fpCfgWord_mode (by omega)]; exact hmode)
      (by rw [hy, fpCfgWord_en, hen]) hold hout hst
    have hcfg : (d.pointRefused p old y).rd (R.FP_CFG p) = F.FP_CFG_MODE.put y (F.FP_CFG_MODE.get old) := by
      rw [Chip.pointRefused, Chip.rd_bump_ne _ _ (by unfold R.FP_CFG R.FLD_MODE_REFUSED_CNT; omega), Chip.rd_wr_self]
    have hcnt : (d.pointRefused p old y).rd R.FLD_MODE_REFUSED_CNT = .ofNat 32 (min 0xFFFFFFFF ((d.rd R.FLD_MODE_REFUSED_CNT).toNat + 1)) := by
      rw [Chip.pointRefused, Chip.rd_bump_self, Chip.rd_wr_ne _ _ (by unfold R.FLD_MODE_REFUSED_CNT R.FP_CFG; omega)]
    have hkeep : ∀ a, a ≠ R.FP_CMD p → e.rd a = (d.pointRefused p old y).rd a := by
      rcases he with rfl | rfl
      · exact fun _ _ => rfl
      · exact fun a ha => Chip.rd_fset_ne _ _ _ ha
    have hof : Only [Blk.fld] d (d.pointRefused p old y) :=
      (Only.wr _ _ _ ⟨Blk.fld, by simp, by simp only [Blk.fld, R.FP_CFG]; omega⟩).trans (Only.bump _ _ _ ⟨Blk.fld, by simp, by decide⟩)
    have hoe : Only [Blk.fld] (d.pointRefused p old y) e := fun a ha => hkeep a fun heq => ha Blk.fld (by simp) (by
      subst heq
      simp only [Blk.fld, R.FP_CMD]
      omega)
    refine ⟨_, congrArg Host.Outcome.next hw, ?_, ?_, ?_⟩
    · rw [Chip.fpOut_fldPush, hpw.fpOut, Chip.fpOut, Chip.fget, hkeep _ (by unfold R.FP_CFG R.FP_CMD; omega), hcfg, Fld.get_put _ _ _ (by decide), hold]
      rfl
    · rw [Chip.rd_fldPush, hpw.rd _ (by unfold R.FLD_MODE_REFUSED_CNT R.FP_STATUS; omega) (by decide) (by decide),
        hkeep _ (by unfold R.FLD_MODE_REFUSED_CNT R.FP_CMD; omega), hcnt, hrd _ (by decide)]
    · exact hd.trans <| hof.trans <| hoe.trans <| (hpw.only p.isLt).trans (Only.fldPush _ _ _)
  case _ =>
    obtain ⟨d, hrd, hx, hd, hw⟩ := fpCfg_lands data h
    have hst : d.fpState p = .off := (Chip.fpState_of (congrArg F.FP_STATUS_STATE.get (hrd _ (by unfold R.FP_STATUS; omega)))).trans hs.1
    have hold : F.FP_CFG_EN.get (d.rd (R.FP_CFG p)) ≠ 0 := by
      have he := hs.2
      rw [Chip.fpEn, Chip.flag, Chip.fget, ← hrd _ (by unfold R.FP_CFG; omega), beq_iff_eq] at he
      omega
    refine ⟨_, congrArg Host.Outcome.next hw, ?_⟩
    rw [Chip.fget_fldPush, Chip.fget, Chip.fpCfg_stores p.isLt (by rw [fpCfgWord_en, hen]) hold hst, fpCfgWord_mode hmode]
  case _ =>
    refine ⟨_, rfl, (Chip.supplyFault_fldPush _ _).trans ?_⟩
    rw [Chip.fldFault_eq]
    split
    next h => exact h
    next h => rw [(Chip.fldMask_writes _).supplyFault, (FieldWrites.all Chip.supplyGone_writes _).supplyFault, Chip.supplyFault_supplyShown]
  case _ =>
    refine ⟨_, rfl, fun p hp => (Chip.fpDrives_fldPush _ _ p).trans ?_⟩
    rw [Chip.fldFault_eq, if_neg (by rw [Chip.supplyFault_limitsShown, hs]; decide)]
    exact Chip.fpDrives_supplyLost _ hp
  case _ =>
    have hw : FieldWrites (s.chip.wr R.FLD_SUP_STATUS 0) s.chip.fldRecover := by
      rw [Chip.fldRecover, if_pos hs]
      exact (FieldWrites.all PointWrites.fpRestart _).trans (Chip.fldMask_writes _)
    refine ⟨_, rfl, (Chip.supplyFault_fldPush _ _).trans ?_, ?_⟩
    · rw [hw.supplyFault, Chip.supplyFault, Chip.flag, Chip.fget_wr_self]
      decide
    · exact (Only.wr _ _ _ ⟨Blk.fld, by simp, by decide⟩).trans <| hw.only.trans (Only.fldPush _ _ _)
  case _ =>
    refine ⟨_, rfl, fun p hp => ?_, ?_⟩
    · exact Chip.rd_wrs (g := R.FP_MEAS) (fun p q h => by unfold R.FP_MEAS at h; omega) _ _ (List.mem_range.2 hp)
    · refine Only.trans (c' := s.chip.fldCompare lplus) ?_ fun a ha => Chip.rd_wrs_ne (g := R.FP_MEAS) _ _ fun p hp heq => ?_
      · exact (Only.fldReg (by simp) _ _ _ (by decide)).trans (Only.fldReg (by simp) _ _ _ (by decide))
      · have hp := List.mem_range.1 hp
        refine ha Blk.fld (by simp) ?_
        simp only [Blk.fld, heq, R.FP_MEAS]
        omega
  case _ =>
    refine ⟨_, State.next_chip (c := s.chip.fldLimp) (if_pos hl), fun p hp => s.chip.fldLimp_leaves_held hp, s.chip.fldLimp_writes.only⟩
  case _ =>
    obtain ⟨d, hd⟩ : ∃ d, d = if s.chip.linkUp 6 then s.chip.linkDown 6 else s.chip := ⟨_, rfl⟩
    have hup : d.linkUp 6 = false := by
      rw [hd]
      split
      next h => exact s.chip.linkUp_linkDown (by decide) (by decide)
      next h => simpa using h
    have he : s.chip.barrierLoss = d.fldReset.setLink 6 { d.link 6 with lost := true } := by rw [hd]; rfl
    refine ⟨_, State.next_chip he, ?_, ?_, fun p hp => ?_⟩
    · rw [Chip.linkUp_setLink, Chip.linkUp_fldReset, hup]
    · exact congrArg Link.lost (Chip.link_setLink_self _ _ _)
    · exact d.fpOut_reset ⟨p, hp⟩
end Sys2Proof.Machine
end

section
/-! PROOF. Sinks and the headroom converter (R200 to R207). -/

namespace Sys2Proof.Machine
open Sys2Proof

/-! ### The state of a sink -/

@[simp] theorem SinkState.ofCode_code (x : SinkState) : SinkState.ofCode x.code = x := by cases x <;> rfl
theorem SinkState.code_lt (x : SinkState) : x.code < 16 := by cases x <;> decide

theorem Chip.sink_fset (c : Chip) (a : Nat) (f : Fld) (v x : Nat) : (c.fset a f v).sink x = c.sink x := (rfl)
theorem Chip.sinkState_of {c c' : Chip} {x : Nat} (h : c'.fget (R.LS_STATUS x) F.LS_STATUS_STATE = c.fget (R.LS_STATUS x) F.LS_STATUS_STATE) :
    c'.sinkState x = c.sinkState x := congrArg SinkState.ofCode h
theorem Chip.sinkRun_of {c c' : Chip} {x : Nat} (hs : c'.sinkState x = c.sinkState x) (hx : (c'.sink x).sub = (c.sink x).sub) :
    c'.sinkRun x = c.sinkRun x := by
  have hh : c'.sinkInHold x = c.sinkInHold x := by rw [Chip.sinkInHold, hs]; rfl
  rw [Chip.sinkRun, hh, hs, hx]
  rfl
/-- A status word of the sink that keeps STATE, and its entry. -/
theorem Chip.sinkRun_fset_field (c : Chip) (x : Nat) (f : Fld) (v : Nat) (h : 4 ≤ f.lo) : (c.fset (R.LS_STATUS x) f v).sinkRun x = c.sinkRun x :=
  Chip.sinkRun_of (Chip.sinkState_of (Chip.fget_fset_field _ _ _ _ _ (.inl h) (by decide))) rfl
theorem Chip.sinkRun_sinkFaultCode (c : Chip) (x k : Nat) : (c.sinkFaultCode x k).sinkRun x = c.sinkRun x := c.sinkRun_fset_field x _ k (by decide)
theorem Chip.sinkRun_setSink (c : Chip) {x : Nat} {y : SinkX} (h : y.sub = (c.sink x).sub) : (c.setSink x y).sinkRun x = c.sinkRun x :=
  Chip.sinkRun_of rfl (by rw [Chip.sink_setSink_self, h])
theorem Chip.sinkState_setSinkState (c : Chip) (x : Nat) (y : SinkState) : (c.setSinkState x y).sinkState x = y := by
  rw [Chip.sinkState, Chip.setSinkState, Chip.fget_fset_self _ _ _ _ (by decide)]
  exact (congrArg SinkState.ofCode (Nat.mod_eq_of_lt (SinkState.code_lt y))).trans (SinkState.ofCode_code y)
theorem Chip.sinkRun_setSinkRun (c : Chip) (x : Nat) (y : SinkState) (hy : y ≠ .held ∧ y ≠ .limp) : (c.setSinkRun x y).sinkRun x = y := by
  rw [Chip.setSinkRun]
  by_cases h : c.sinkInHold x = true
  · rw [if_pos h]
    have hh : (c.setSink x { c.sink x with sub := y.code }).sinkInHold x = true := h
    rw [Chip.sinkRun, if_pos hh, Chip.sink_setSink_self, SinkState.ofCode_code]
  · rw [if_neg h]
    have hs := c.sinkState_setSinkState x y
    rw [Chip.sinkRun, Chip.sinkInHold, hs]
    simp [hy.1, hy.2]

/-! ### What the operations leave alone -/

theorem Only.senReg {l : List (Nat × Nat)} (h : Blk.sen ∈ l) (c : Chip) {a : Nat} (f : Fld) (v : Nat) (ha : 0x40100000 ≤ a ∧ a < 0x40200000) :
    Only l c (c.fset a f v) := .fset c a f v ⟨Blk.sen, h, ha⟩
theorem Only.senWr {l : List (Nat × Nat)} (h : Blk.sen ∈ l) (c : Chip) {a : Nat} (x : Word) (ha : 0x40100000 ≤ a ∧ a < 0x40200000) :
    Only l c (c.wr a x) := .wr c a x ⟨Blk.sen, h, ha⟩

/-- c' differs from c, of the registers from the sentinel on, in the status of the groups. -/
structure GroupWrites (c c' : Chip) : Prop where
  noted : Noted c c'
  rd : ∀ a, 0x40030000 ≤ a → (∀ g < 12, a ≠ R.LF_STATUS g) → c'.rd a = c.rd a
  only : Only [Blk.sen, Blk.sys, Blk.evr] c c'

namespace GroupWrites
variable {c c' c'' : Chip}

theorem refl (c : Chip) : GroupWrites c c := ⟨.refl c, fun _ _ _ => rfl, .refl _ c⟩
theorem trans (h : GroupWrites c c') (h' : GroupWrites c' c'') : GroupWrites c c'' :=
  ⟨h.noted.trans h'.noted, fun a h₁ h₂ => (h'.rd a h₁ h₂).trans (h.rd a h₁ h₂), h.only.trans h'.only⟩
theorem ite {P : Prop} [Decidable P] (h : GroupWrites c c') (h' : GroupWrites c c'') : GroupWrites c (if P then c' else c'') := by split <;> assumption
theorem raised (c : Chip) {k : Nat} (hk : k < 256) : GroupWrites c (c.raiseFrom 1 k) :=
  ⟨.ite (.raise c k) (.refl c), fun _ ha _ => (Served.raiseFrom c 1 hk).rd_die ha, by
    unfold Chip.raiseFrom
    split
    · exact (Only.raise c hk).sub (by decide)
    · exact .refl _ c⟩
theorem status (c : Chip) {g : Nat} (hg : g < 12) (f : Fld) (v : Nat) : GroupWrites c (c.fset (R.LF_STATUS g) f v) :=
  ⟨.fset c _ f v, fun _ _ h => Chip.rd_fset_ne _ _ _ (h g hg), .senReg (by simp) c f v (by unfold R.LF_STATUS; omega)⟩
theorem updateOutage (c : Chip) {g : Nat} (hg : g < 12) : GroupWrites c (c.updateOutage g) := by
  unfold Chip.updateOutage
  exact (status c hg _ _).trans (.ite (.raised _ (by decide)) (.refl _))
theorem groupFail (c : Chip) {g : Nat} (hg : g < 12) : GroupWrites c (c.groupFail g) := .ite ((status c hg _ _).trans (.raised _ (by decide))) (.refl c)
theorem foldl {f : Chip → Nat → Chip} (hf : ∀ c g, g < 12 → GroupWrites c (f c g)) : ∀ (l : List Nat) (c : Chip), (∀ g ∈ l, g < 12) → GroupWrites c (l.foldl f c)
  | [], c, _ => refl c
  | g :: l, c, h => (hf c g (h g (by simp))).trans (foldl hf l (f c g) fun q hq => h q (by simp [hq]))
theorem updateOutages (c : Chip) : GroupWrites c c.updateOutages := foldl (fun c _ hg => updateOutage c hg) _ c fun _ hg => List.mem_range.1 hg

theorem sink (h : GroupWrites c c') (x : Nat) : c'.sink x = c.sink x := h.noted.field (·.sink x)
theorem fget_led (h : GroupWrites c c') {a : Nat} (f : Fld) (ha : 0x40100000 ≤ a) (hn : ∀ g < 12, a ≠ R.LF_STATUS g) : c'.fget a f = c.fget a f :=
  congrArg f.get (h.rd a (by omega) hn)
theorem sinkRun (h : GroupWrites c c') {x : Nat} (hx : x < 24) : c'.sinkRun x = c.sinkRun x :=
  Chip.sinkRun_of (Chip.sinkState_of (h.fget_led _ (by unfold R.LS_STATUS; omega) fun g hg => by unfold R.LS_STATUS R.LF_STATUS; omega)) (by rw [h.sink])
theorem sinkStatus (h : GroupWrites c c') {x : Nat} (hx : x < 24) (f : Fld) : c'.fget (R.LS_STATUS x) f = c.fget (R.LS_STATUS x) f :=
  h.fget_led f (by unfold R.LS_STATUS; omega) fun g hg => by unfold R.LS_STATUS R.LF_STATUS; omega
end GroupWrites

/-- A sink's fault up to its record and event: its pulse ends, it is counted, and its state and code show. -/
def Chip.sinkFaulted (c : Chip) (x code : Nat) (st : SinkState) : Chip :=
  (((c.setSink x { c.sink x with pulse := none, spill := none }).fbump (R.LS_FAULT_CNT x) (byteFld (code - 1))).setSinkRun x st).sinkFaultCode x code
def Chip.sinkTold (c : Chip) (x : Nat) : Chip := (c.q10From 1 72 x).raiseFrom 1 72
theorem Chip.sinkTold_served (c : Chip) (x : Nat) : Served c (c.sinkTold x) := (Served.q10From c 1 72 x).trans (.raiseFrom _ 1 (by decide))
theorem Chip.sinkFault_eq (c : Chip) (x code : Nat) (st : SinkState) : c.sinkFault x code st =
    let d := (c.sinkFaulted x code st).sinkTold x
    if d.sinkGroup x < 12 then (if st = .fault then (d.updateOutage (d.sinkGroup x)).groupFail (d.sinkGroup x) else d.updateOutage (d.sinkGroup x)) else d := rfl
theorem Chip.sinkFault_groups (c : Chip) (x code : Nat) (st : SinkState) : GroupWrites ((c.sinkFaulted x code st).sinkTold x) (c.sinkFault x code st) := by
  rw [Chip.sinkFault_eq]
  extract_lets d
  split
  next h => exact .ite ((GroupWrites.updateOutage d h).trans (.groupFail _ h)) (.updateOutage d h)
  next h => exact .refl d

/-- The operations on sinks keep what the sinks have captured and have in force, and ILIM; they write the sentinel's registers, and raise
events. -/
structure SinkOps (c c' : Chip) : Prop where
  only : Only [Blk.sen, Blk.sys, Blk.evr, Blk.que] c c'
  pend : ∀ x, (c'.sink x).pend = (c.sink x).pend
  act : ∀ x, (c'.sink x).act = (c.sink x).act
  ilim : c'.flag R.LED_HR_STATUS F.LED_HR_STATUS_ILIM = c.flag R.LED_HR_STATUS F.LED_HR_STATUS_ILIM

namespace SinkOps
variable {c c' c'' : Chip}

theorem refl (c : Chip) : SinkOps c c := ⟨.refl _ c, fun _ => rfl, fun _ => rfl, rfl⟩
theorem trans (h : SinkOps c c') (h' : SinkOps c' c'') : SinkOps c c'' :=
  ⟨h.only.trans h'.only, fun x => (h'.pend x).trans (h.pend x), fun x => (h'.act x).trans (h.act x), h'.ilim.trans h.ilim⟩
theorem ite {P : Prop} [Decidable P] (h : SinkOps c c') (h' : SinkOps c c'') : SinkOps c (if P then c' else c'') := by split <;> assumption
theorem foldl {α : Type} {f : Chip → α → Chip} (hf : ∀ c x, SinkOps c (f c x)) : ∀ (l : List α) (c : Chip), SinkOps c (l.foldl f c)
  | [], c => refl c
  | x :: l, c => (hf c x).trans (foldl hf l (f c x))
theorem foldl_mem {f : Chip → Nat → Chip} {n : Nat} (hf : ∀ c x, x < n → SinkOps c (f c x)) : ∀ (l : List Nat) (c : Chip), (∀ x ∈ l, x < n) → SinkOps c (l.foldl f c)
  | [], c, _ => refl c
  | x :: l, c, h => (hf c x (h x (by simp))).trans (foldl_mem hf l (f c x) fun q hq => h q (by simp [hq]))
theorem range {f : Chip → Nat → Chip} {n : Nat} (hf : ∀ c x, x < n → SinkOps c (f c x)) (c : Chip) : SinkOps c ((List.range n).foldl f c) :=
  foldl_mem hf _ c fun _ hx => List.mem_range.1 hx
theorem wr (c : Chip) {a : Nat} (x : Word) (ha : 0x40150000 ≤ a ∧ a < 0x40200000) (h : a ≠ R.LED_HR_STATUS) : SinkOps c (c.wr a x) :=
  ⟨.senWr (by simp) c x (by omega), fun _ => rfl, fun _ => rfl, congrArg (fun w => F.LED_HR_STATUS_ILIM.get w == 1) (Chip.rd_wr_ne c x h.symm)⟩
theorem hr (c : Chip) (f : Fld) (v : Nat) (h : Apart f F.LED_HR_STATUS_ILIM) : SinkOps c (c.fset R.LED_HR_STATUS f v) :=
  ⟨.senReg (by simp) c f v (by decide), fun _ => rfl, fun _ => rfl, congrArg (· == 1) (Chip.fget_fset_field _ _ _ _ _ h (by decide))⟩
theorem served (h : Served c c') : SinkOps c c' :=
  ⟨h.blocks.mono (by simp), fun x => by rw [h.sink], fun x => by rw [h.sink], h.flag_die _ (by decide)⟩
theorem groups (h : GroupWrites c c') : SinkOps c c' :=
  ⟨h.only.mono (by simp), fun x => by rw [h.sink], fun x => by rw [h.sink],
    congrArg (· == 1) (h.fget_led _ (by decide) fun g hg => by unfold R.LED_HR_STATUS R.LF_STATUS; omega)⟩
theorem setSink (c : Chip) (x : Nat) {y : SinkX} (hp : y.pend = (c.sink x).pend) (ha : y.act = (c.sink x).act) : SinkOps c (c.setSink x y) := by
  refine ⟨.of_regs rfl, fun z => ?_, fun z => ?_, rfl⟩
  · by_cases h : z = x
    · rw [h, Chip.sink_setSink_self, hp]
    · rw [Chip.sink_setSink_ne _ _ h]
  · by_cases h : z = x
    · rw [h, Chip.sink_setSink_self, ha]
    · rw [Chip.sink_setSink_ne _ _ h]
theorem status (c : Chip) {x : Nat} (hx : x < 24) (f : Fld) (v : Nat) : SinkOps c (c.fset (R.LS_STATUS x) f v) :=
  wr c _ (by unfold R.LS_STATUS; omega) (by unfold R.LS_STATUS R.LED_HR_STATUS; omega)
theorem code (c : Chip) {x : Nat} (hx : x < 24) (k : Nat) : SinkOps c (c.sinkFaultCode x k) := status c hx _ _
theorem counted (c : Chip) {x : Nat} (hx : x < 24) (f : Fld) : SinkOps c (c.fbump (R.LS_FAULT_CNT x) f) :=
  wr c _ (by unfold R.LS_FAULT_CNT; omega) (by unfold R.LS_FAULT_CNT R.LED_HR_STATUS; omega)
theorem setSinkRun (c : Chip) {x : Nat} (hx : x < 24) (y : SinkState) : SinkOps c (c.setSinkRun x y) := by
  unfold Chip.setSinkRun Chip.setSinkState
  exact ite (setSink c x rfl rfl) (status c hx _ _)
theorem sinkFault (c : Chip) {x : Nat} (hx : x < 24) (k : Nat) (st : SinkState) : SinkOps c (c.sinkFault x k st) := by
  obtain ⟨d, hd⟩ : ∃ d, d = c.setSink x { c.sink x with pulse := none, spill := none } := ⟨_, rfl⟩
  obtain ⟨e, he⟩ : ∃ e, e = d.fbump (R.LS_FAULT_CNT x) (byteFld (k - 1)) := ⟨_, rfl⟩
  have hcd : SinkOps c d := hd ▸ setSink c x rfl rfl
  have hde : SinkOps d e := he ▸ counted d hx _
  have hf : SinkOps e (c.sinkFaulted x k st) := by
    rw [Chip.sinkFaulted, ← hd, ← he]
    exact (setSinkRun e hx st).trans (code _ hx k)
  exact hcd.trans <| hde.trans <| hf.trans <| (SinkOps.served (Chip.sinkTold_served _ x)).trans (.groups (c.sinkFault_groups x k st))
theorem sinkSettle (c : Chip) {x : Nat} (hx : x < 24) : SinkOps c (c.sinkSettle x) := by
  unfold Chip.sinkSettle
  have hw : SinkOps c (if c.sinkWanted x then if c.hrRuns then (c.setSinkRun x .on).sinkFaultCode x 0 else (c.setSinkRun x .vledWait).sinkFaultCode x 4
      else (c.setSinkRun x .off).sinkFaultCode x 0) :=
    .ite (.ite ((setSinkRun c hx _).trans (code _ hx _)) ((setSinkRun c hx _).trans (code _ hx _))) ((setSinkRun c hx _).trans (code _ hx _))
  split
  · exact hw
  · exact hw
  · exact hw
  · exact refl c
theorem sinkSample (low : Option Nat) (c : Chip) (m : LedSample) : SinkOps c (c.sinkSample low m) := by
  unfold Chip.sinkSample
  extract_lets s set half x short y d
  have hs : s < 24 := m.s.isLt
  have hd : SinkOps c d := by
    have hw : SinkOps c (c.wr (R.LS_MEAS s) (F.LS_MEAS_HEADROOM.put (F.LS_MEAS_I.of m.i) m.hr)) :=
      wr c _ (by unfold R.LS_MEAS; omega) (by unfold R.LS_MEAS R.LED_HR_STATUS; omega)
    exact hw.trans (status _ hs _ _)
  have hp : y.pend = (c.sink s).pend := rfl
  have ha : y.act = (c.sink s).act := rfl
  clear_value d
  have hk (w : SinkX) (hp : w.pend = (c.sink s).pend) (ha : w.act = (c.sink s).act) : SinkOps c (d.setSink s w) :=
    hd.trans (setSink d s (hp.trans (hd.pend s).symm) (ha.trans (hd.act s).symm))
  split
  · split
    · exact (hk { y with opens := 0, shorts := 0 } hp ha).trans (sinkFault _ hs 1 .fault)
    · split
      · exact (hk { y with opens := 0, shorts := 0 } hp ha).trans (sinkFault _ hs 2 .fault)
      · exact hk y hp ha
  · exact refl c
theorem boundVset (c : Chip) : SinkOps c c.boundVset := by
  unfold Chip.boundVset
  extract_lets v d top e
  have hd : SinkOps c d := .ite (.refl c) (.hr c _ _ (by decide))
  have he : SinkOps d e := .hr d _ _ (by decide)
  exact hd.trans <| he.trans <| .ite (.refl e) (range (fun c x hx => status c hx _ _) e)
theorem moveVset (c : Chip) (ms : List LedSample) : SinkOps c (c.moveVset ms) := by
  unfold Chip.moveVset
  refine ite ?_ (refl c)
  extract_lets l
  refine SinkOps.trans ?_ (boundVset _)
  split
  · exact (hr c _ _ (by decide)).trans (hr _ _ _ (by decide))
  · exact refl c
theorem nextSub (c : Chip) : SinkOps c c.nextSub := .ite ⟨.of_regs rfl, fun _ => rfl, fun _ => rfl, rfl⟩ ⟨.of_regs rfl, fun _ => rfl, fun _ => rfl, rfl⟩
end SinkOps
end Sys2Proof.Machine
end

section
/-! PROOF. Sinks and the headroom converter: the rows (R200 to R207). -/

namespace Sys2Proof.Machine
open Sys2Proof

/-! ### Captured values come into force -/

/-- The values that a sink has in force once what it captured is taken. -/
def Chip.sinkNext (c : Chip) (x : Nat) : SinkSet := (c.sink x).pend.getD (c.sink x).act

/-- From c to c' captured values may come into force, and no others do. -/
structure SinkTakes (c c' : Chip) : Prop where
  only : Only [Blk.sen, Blk.sys, Blk.evr, Blk.que] c c'
  next : ∀ x, c'.sinkNext x = c.sinkNext x
  taken : ∀ x, (c.sink x).pend = none → (c'.sink x).pend = none
  ilim : c'.flag R.LED_HR_STATUS F.LED_HR_STATUS_ILIM = c.flag R.LED_HR_STATUS F.LED_HR_STATUS_ILIM

theorem SinkTakes.trans {c c' c'' : Chip} (h : SinkTakes c c') (h' : SinkTakes c' c'') : SinkTakes c c'' :=
  ⟨h.only.trans h'.only, fun x => (h'.next x).trans (h.next x), fun x hx => h'.taken x (h.taken x hx), h'.ilim.trans h.ilim⟩
theorem SinkOps.takes {c c' : Chip} (h : SinkOps c c') : SinkTakes c c' :=
  ⟨h.only, fun x => by rw [Chip.sinkNext, h.pend, h.act, ← Chip.sinkNext], fun x hx => (h.pend x).trans hx, h.ilim⟩

theorem Chip.sinkTake_takes (c : Chip) {x : Nat} (hx : x < 24) : SinkTakes c (c.sinkTake x) ∧ ((c.sinkTake x).sink x).pend = none := by
  unfold Chip.sinkTake
  split
  next h => exact ⟨(SinkOps.refl c).takes, h⟩
  next p h =>
    extract_lets d
    have hd : SinkOps c d := .ite (.status c hx _ _) (.refl c)
    clear_value d
    have hp : (d.sink x).pend = some p := (hd.pend x).trans h
    refine ⟨hd.takes.trans ⟨.of_regs rfl, fun y => ?_, fun y hy => ?_, rfl⟩, by rw [Chip.sink_setSink_self]⟩
    · by_cases hyx : y = x
      · subst hyx
        rw [Chip.sinkNext, Chip.sinkNext, Chip.sink_setSink_self, hp]
        rfl
      · rw [Chip.sinkNext, Chip.sink_setSink_ne _ _ hyx, ← Chip.sinkNext]
    · by_cases hyx : y = x
      · rw [hyx, Chip.sink_setSink_self]
      · rw [Chip.sink_setSink_ne _ _ hyx, hy]
theorem Chip.sinkApply_takes (c : Chip) {x : Nat} (hx : x < 24) : SinkTakes c (c.sinkApply x) ∧ ((c.sinkApply x).sink x).pend = none := by
  obtain ⟨ht, hp⟩ := c.sinkTake_takes hx
  have ho : SinkOps (c.sinkTake x) (c.sinkApply x) := by
    unfold Chip.sinkApply
    extract_lets d on duty y e g
    have hd : SinkOps (c.sinkTake x) d := .sinkSettle _ hx
    have he : SinkOps d e := .setSink d x rfl rfl
    have hg : SinkOps e g := (SinkOps.status e hx _ _).trans (.status _ hx _ _)
    exact hd.trans <| he.trans <| hg.trans <| .ite (.refl g) (.status g hx _ _)
  exact ⟨ht.trans ho.takes, (ho.pend x).trans hp⟩
theorem Chip.sinksApplied : ∀ (l : List Nat) (c : Chip), (∀ x ∈ l, x < 24) →
    SinkTakes c (l.foldl Chip.sinkApply c) ∧ ∀ x ∈ l, ((l.foldl Chip.sinkApply c).sink x).pend = none
  | [], c, _ => ⟨(SinkOps.refl c).takes, by simp⟩
  | y :: l, c, h => by
    obtain ⟨ht, hp⟩ := c.sinkApply_takes (h y (by simp))
    obtain ⟨hts, hps⟩ := sinksApplied l (c.sinkApply y) fun x hx => h x (by simp [hx])
    refine ⟨ht.trans hts, fun x hx => ?_⟩
    rcases List.mem_cons.1 hx with rfl | hx
    · exact hts.taken x hp
    · exact hps x hx

theorem Chip.subperiod_says (c : Chip) (ms : List LedSample) (ilim : Bool) :
    SinkTakes (c.fbit R.LED_HR_STATUS F.LED_HR_STATUS_ILIM ilim) (c.subperiod ms ilim) ∧ ∀ x < 24, ((c.subperiod ms ilim).sink x).pend = none := by
  unfold Chip.subperiod
  extract_lets on low d e
  have he : SinkOps d e := (SinkOps.foldl (SinkOps.sinkSample low) on d).trans (.moveVset _ on)
  obtain ⟨hts, hps⟩ := Chip.sinksApplied (List.range 24) e.nextSub fun x hx => List.mem_range.1 hx
  have hl := SinkOps.groups (GroupWrites.updateOutages ((List.range 24).foldl Chip.sinkApply e.nextSub))
  exact ⟨he.takes.trans <| (SinkOps.nextSub e).takes.trans <| hts.trans hl.takes, fun x hx => (hl.pend x).trans (hps x (List.mem_range.2 hx))⟩

/-! ### Faults and restarts -/

theorem Served.sinkRun {c c' : Chip} (h : Served c c') (x : Nat) : c'.sinkRun x = c.sinkRun x :=
  Chip.sinkRun_of (Chip.sinkState_of (h.fget_die _ (by unfold R.LS_STATUS; omega))) (by rw [h.sink])
theorem Chip.sinkFault_says (c : Chip) {x k : Nat} {st : SinkState} (hx : x < 24) (hk : k < 16) (hst : st ≠ .held ∧ st ≠ .limp) :
    (c.sinkFault x k st).sinkRun x = st ∧ (c.sinkFault x k st).fget (R.LS_STATUS x) F.LS_STATUS_FAULT = k := by
  have hs := Chip.sinkTold_served (c.sinkFaulted x k st) x
  have hg := c.sinkFault_groups x k st
  refine ⟨?_, ?_⟩
  · rw [hg.sinkRun hx, hs.sinkRun, Chip.sinkFaulted, Chip.sinkRun_sinkFaultCode, Chip.sinkRun_setSinkRun _ _ _ hst]
  · rw [hg.sinkStatus hx, hs.fget_die _ (by unfold R.LS_STATUS; omega), Chip.sinkFaulted, Chip.sinkFaultCode, Chip.fget_fset_self _ _ _ _ (by decide)]
    exact Nat.mod_eq_of_lt hk

/-- A sink that is off, on or waiting settles in one of these states. -/
theorem Chip.sinkRun_sinkSettle (c : Chip) (x : Nat) (h : c.sinkRun x = .on) : (c.sinkSettle x).sinkRun x ≠ .cool := by
  have hs (st : SinkState) (k : Nat) (hst : st ≠ .held ∧ st ≠ .limp) (hc : st ≠ .cool) : ((c.setSinkRun x st).sinkFaultCode x k).sinkRun x ≠ .cool := by
    rw [Chip.sinkRun_sinkFaultCode, Chip.sinkRun_setSinkRun _ _ _ hst]
    exact hc
  rw [Chip.sinkSettle, h]
  dsimp only
  split
  · split
    · exact hs _ _ (by decide) (by decide)
    · exact hs _ _ (by decide) (by decide)
  · exact hs _ _ (by decide) (by decide)

theorem Only.setSinkRun (c : Chip) {x : Nat} (hx : x < 24) (y : SinkState) : Only [Blk.sen] c (c.setSinkRun x y) :=
  Only.ite _ (.of_regs rfl) (.senReg (by simp) c _ _ (by unfold R.LS_STATUS; omega))
theorem Only.sinkFaultCode (c : Chip) {x : Nat} (hx : x < 24) (k : Nat) : Only [Blk.sen] c (c.sinkFaultCode x k) :=
  .senReg (by simp) c _ _ (by unfold R.LS_STATUS; omega)
theorem Only.sinkSettle (c : Chip) {x : Nat} (hx : x < 24) : Only [Blk.sen] c (c.sinkSettle x) := by
  unfold Chip.sinkSettle
  have hs (st : SinkState) (k : Nat) : Only [Blk.sen] c ((c.setSinkRun x st).sinkFaultCode x k) := (Only.setSinkRun c hx st).trans (.sinkFaultCode _ hx k)
  have hw : Only [Blk.sen] c (if c.sinkWanted x then if c.hrRuns then (c.setSinkRun x .on).sinkFaultCode x 0 else (c.setSinkRun x .vledWait).sinkFaultCode x 4
      else (c.setSinkRun x .off).sinkFaultCode x 0) := Only.ite _ (Only.ite _ (hs _ _) (hs _ _)) (hs _ _)
  split
  · exact hw
  · exact hw
  · exact hw
  · exact .refl _ c

/-! ### The converter -/

/-- What the converter's moves leave alone: of its status they set VSET and AT_VMAX, and otherwise the statuses of the sinks. -/
structure HrMoves (c c' : Chip) : Prop where
  only : Only [Blk.sen] c c'
  hr : ∀ f, Apart F.LED_HR_STATUS_VSET f → Apart F.LED_HR_STATUS_AT_VMAX f → f.lo + f.w ≤ 32 → c'.fget R.LED_HR_STATUS f = c.fget R.LED_HR_STATUS f
  stops : c'.hrStops = c.hrStops

theorem Chip.hrStops_fset (c : Chip) (a : Nat) (f : Fld) (v : Nat) : (c.fset a f v).hrStops = c.hrStops := (rfl)
theorem Chip.hrStops_setSink (c : Chip) (x : Nat) (y : SinkX) : (c.setSink x y).hrStops = c.hrStops := (rfl)
theorem Chip.fget_setSink (c : Chip) (x : Nat) (y : SinkX) (a : Nat) (f : Fld) : (c.setSink x y).fget a f = c.fget a f := (rfl)

namespace HrMoves
variable {c c' c'' : Chip}

theorem refl (c : Chip) : HrMoves c c := ⟨.refl _ c, fun _ _ _ _ => rfl, rfl⟩
theorem trans (h : HrMoves c c') (h' : HrMoves c' c'') : HrMoves c c'' :=
  ⟨h.only.trans h'.only, fun f h₁ h₂ h₃ => (h'.hr f h₁ h₂ h₃).trans (h.hr f h₁ h₂ h₃), h'.stops.trans h.stops⟩
theorem ite {P : Prop} [Decidable P] (h : HrMoves c c') (h' : HrMoves c c'') : HrMoves c (if P then c' else c'') := by split <;> assumption
theorem range {f : Chip → Nat → Chip} (hf : ∀ c x, x < 24 → HrMoves c (f c x)) (c : Chip) : HrMoves c ((List.range 24).foldl f c) := by
  have h : ∀ (l : List Nat) (c : Chip), (∀ x ∈ l, x < 24) → HrMoves c (l.foldl f c) := fun l => by
    induction l with
    | nil => exact fun c _ => refl c
    | cons x l ih => exact fun c h => (hf c x (h x (by simp))).trans (ih (f c x) fun y hy => h y (by simp [hy]))
  exact h _ c fun _ hx => List.mem_range.1 hx
theorem sink (c : Chip) {x : Nat} (hx : x < 24) (f : Fld) (v : Nat) : HrMoves c (c.fset (R.LS_STATUS x) f v) :=
  ⟨.senReg (by simp) c f v (by unfold R.LS_STATUS; omega),
    fun g _ _ _ => Chip.fget_fset_ne _ _ _ _ (by unfold R.LS_STATUS R.LED_HR_STATUS; omega), Chip.hrStops_fset _ _ _ _⟩
theorem setSink (c : Chip) (x : Nat) (y : SinkX) : HrMoves c (c.setSink x y) :=
  ⟨.of_regs rfl, fun _ _ _ _ => Chip.fget_setSink _ _ _ _ _, Chip.hrStops_setSink _ _ _⟩
theorem vset (c : Chip) (v : Nat) : HrMoves c (c.fset R.LED_HR_STATUS F.LED_HR_STATUS_VSET v) :=
  ⟨.senReg (by simp) c _ v (by decide), fun _ h _ hf => Chip.fget_fset_field _ _ _ _ _ h hf, Chip.hrStops_fset _ _ _ _⟩
theorem atVmax (c : Chip) (v : Nat) : HrMoves c (c.fset R.LED_HR_STATUS F.LED_HR_STATUS_AT_VMAX v) :=
  ⟨.senReg (by simp) c _ v (by decide), fun _ _ h hf => Chip.fget_fset_field _ _ _ _ _ h hf, Chip.hrStops_fset _ _ _ _⟩
theorem boundVset (c : Chip) : HrMoves c c.boundVset := by
  unfold Chip.boundVset
  extract_lets v d top e
  have hd : HrMoves c d := .ite (.refl c) (.vset c _)
  have he : HrMoves d e := .atVmax d _
  exact hd.trans <| he.trans <| .ite (.refl e) (range (fun c x hx => sink c hx _ _) e)
theorem sinkSettle (c : Chip) {x : Nat} (hx : x < 24) : HrMoves c (c.sinkSettle x) := by
  have hs (st : SinkState) (k : Nat) : HrMoves c ((c.setSinkRun x st).sinkFaultCode x k) := by
    unfold Chip.setSinkRun Chip.sinkFaultCode Chip.setSinkState
    exact (ite (setSink c x _) (sink c hx _ _)).trans (sink _ hx _ _)
  unfold Chip.sinkSettle
  have hw : HrMoves c (if c.sinkWanted x then if c.hrRuns then (c.setSinkRun x .on).sinkFaultCode x 0 else (c.setSinkRun x .vledWait).sinkFaultCode x 4
      else (c.setSinkRun x .off).sinkFaultCode x 0) := .ite (.ite (hs _ _) (hs _ _)) (hs _ _)
  split
  · exact hw
  · exact hw
  · exact hw
  · exact .refl c
theorem flag (h : HrMoves c c') (f : Fld) (h₁ : Apart F.LED_HR_STATUS_VSET f) (h₂ : Apart F.LED_HR_STATUS_AT_VMAX f) (h₃ : f.lo + f.w ≤ 32) :
    c'.flag R.LED_HR_STATUS f = c.flag R.LED_HR_STATUS f := congrArg (· == 1) (h.hr f h₁ h₂ h₃)
end HrMoves

/-- The status with which the converter starts. -/
def Chip.hrStarted (c : Chip) : Chip := c.fset R.LED_HR_STATUS F.LED_HR_STATUS_RESTARTING 0 |>.fset R.LED_HR_STATUS F.LED_HR_STATUS_VSET 1200
theorem Chip.hrBegin_eq (c : Chip) :
    c.hrBegin = (List.range 24).foldl (fun c s => if c.sinkRun s = .vledWait then c.sinkSettle s else c) c.hrStarted.boundVset := rfl
theorem Chip.hrBegin_moves (c : Chip) : HrMoves (c.fset R.LED_HR_STATUS F.LED_HR_STATUS_RESTARTING 0) c.hrBegin := by
  rw [Chip.hrBegin_eq]
  exact (HrMoves.vset _ 1200).trans <| (HrMoves.boundVset _).trans <| .range (fun c x hx => .ite (.sinkSettle c hx) (.refl c)) _
theorem Chip.vset_sinkSettles (c : Chip) (p : Chip → Nat → Prop) [∀ c s, Decidable (p c s)] :
    ((List.range 24).foldl (fun c s => if p c s then c.sinkSettle s else c) c).fget R.LED_HR_STATUS F.LED_HR_STATUS_VSET = c.fget R.LED_HR_STATUS F.LED_HR_STATUS_VSET := by
  have hs (c : Chip) (x : Nat) (hx : x < 24) : (c.sinkSettle x).fget R.LED_HR_STATUS F.LED_HR_STATUS_VSET = c.fget R.LED_HR_STATUS F.LED_HR_STATUS_VSET := by
    have hst (st : SinkState) (k : Nat) : ((c.setSinkRun x st).sinkFaultCode x k).fget R.LED_HR_STATUS F.LED_HR_STATUS_VSET = c.fget R.LED_HR_STATUS F.LED_HR_STATUS_VSET := by
      have hne : R.LED_HR_STATUS ≠ R.LS_STATUS x := by unfold R.LS_STATUS R.LED_HR_STATUS; omega
      rw [Chip.sinkFaultCode, Chip.fget_fset_ne _ _ _ _ hne, Chip.setSinkRun, Chip.setSinkState]
      split
      · exact Chip.fget_setSink _ _ _ _ _
      · exact Chip.fget_fset_ne _ _ _ _ hne
    unfold Chip.sinkSettle
    split
    case h_4 => rfl
    all_goals
      split
      · split
        · exact hst _ _
        · exact hst _ _
      · exact hst _ _
  have h : ∀ (l : List Nat) (c : Chip), (∀ x ∈ l, x < 24) →
      (l.foldl (fun c s => if p c s then c.sinkSettle s else c) c).fget R.LED_HR_STATUS F.LED_HR_STATUS_VSET = c.fget R.LED_HR_STATUS F.LED_HR_STATUS_VSET := fun l => by
    induction l with
    | nil => exact fun _ _ => rfl
    | cons x l ih =>
      refine fun c h => (ih _ fun y hy => h y (by simp [hy])).trans ?_
      dsimp only
      split
      · exact hs c x (h x (by simp))
      · rfl
  exact h _ c fun _ hx => List.mem_range.1 hx
theorem Chip.vset_boundVset {c : Chip} (h : c.fget R.LED_HR_STATUS F.LED_HR_STATUS_VSET = 1200) :
    c.boundVset.fget R.LED_HR_STATUS F.LED_HR_STATUS_VSET = 1200 := by
  unfold Chip.boundVset
  extract_lets v d top e
  have hd : d.fget R.LED_HR_STATUS F.LED_HR_STATUS_VSET = 1200 := by
    have hv : v = 1200 := h
    unfold d
    rw [hv, if_neg (by decide), Chip.fget_fset_self _ _ _ _ (by decide), max_eq_left (Nat.min_le_right _ _)]
    rfl
  have he : e.fget R.LED_HR_STATUS F.LED_HR_STATUS_VSET = 1200 := (Chip.fget_fset_field _ _ _ _ _ (by decide) (by decide)).trans hd
  split
  · exact he
  · have hl : ∀ (l : List Nat) (c : Chip), (∀ x ∈ l, x < 24) →
        (l.foldl (fun c s => c.fset (R.LS_STATUS s) F.LS_STATUS_HEADROOM_LOW 0) c).fget R.LED_HR_STATUS F.LED_HR_STATUS_VSET = c.fget R.LED_HR_STATUS F.LED_HR_STATUS_VSET := fun l => by
      induction l with
      | nil => exact fun _ _ => rfl
      | cons x l ih =>
        refine fun c h => (ih _ fun y hy => h y (by simp [hy])).trans (Chip.fget_fset_ne _ _ _ _ ?_)
        have := h x (by simp)
        unfold R.LS_STATUS R.LED_HR_STATUS
        omega
    exact (hl _ e fun _ hx => List.mem_range.1 hx).trans he

/-- A stop's registers before its event: the converter restarts later, or latches off. -/
def Chip.hrStopped (c : Chip) (latch : Bool) : Chip :=
  c.fbit R.LED_HR_STATUS F.LED_HR_STATUS_FAULT_LATCHED latch |>.fbit R.LED_HR_STATUS F.LED_HR_STATUS_RESTARTING (!latch)
theorem Chip.hrRuns_hrStopped (c : Chip) (latch : Bool) : ((c.hrStopped latch).raiseFrom 1 74).hrRuns = false := by
  have hs := Served.raiseFrom (c.hrStopped latch) 1 (k := 74) (by decide)
  rw [Chip.hrRuns, hs.flag_die _ (by decide), hs.flag_die _ (by decide), hs.flag_die _ (by decide)]
  have hr : (c.hrStopped latch).flag R.LED_HR_STATUS F.LED_HR_STATUS_RESTARTING = !latch := Chip.flag_fbit_self _ _ _ _ (by decide) (by decide)
  have hl : (c.hrStopped latch).flag R.LED_HR_STATUS F.LED_HR_STATUS_FAULT_LATCHED = latch :=
    (congrArg (· == 1) (Chip.fget_fset_field _ _ _ _ _ (by decide) (by decide))).trans (Chip.flag_fbit_self c _ _ latch (by decide) (by decide))
  rw [hr, hl]
  cases latch <;> simp
end Sys2Proof.Machine
end

section
/-! PROOF. Sinks and the headroom converter: the supervisor's writes, and the rows (R200 to R207). -/

namespace Sys2Proof.Machine
open Sys2Proof

/-! ### The supervisor's writes -/

def lsCtrlDesc : RegDesc := ⟨.LS_CTRL, 0x40150010, [(24, 0x20, 0)], 1, 0, 0, 6, 0, 0⟩
def ledCommitDesc : RegDesc := ⟨.LED_COMMIT, 0x40150414, [], 0, 0, 0, 1, 0, 0⟩
def ledHrCtrlDesc : RegDesc := ⟨.LED_HR_CTRL, 0x40150400, [], 0x83FF00FF, 0, 0, 0x40000000, 0, 0x1E0003C⟩
theorem findReg_lsCtrl (x : Fin 24) : findReg (R.LS_CTRL x) = some (lsCtrlDesc, [x.val]) := by fin_cases x <;> rfl
theorem findReg_ledCommit : findReg R.LED_COMMIT = some (ledCommitDesc, []) := by rfl
theorem findReg_ledHrCtrl : findReg R.LED_HR_CTRL = some (ledHrCtrlDesc, []) := by rfl
theorem dieOf_lsCtrl (x : Fin 24) : dieOf (R.LS_CTRL x) = 1 := by revert x; decide
theorem isAlias_lsCtrl (x : Fin 24) : isAlias (R.LS_CTRL x) = false := by revert x; decide

theorem Chip.wrote_lsCtrl (c : Chip) (s : Nat) (old x : Word) : c.wrote .sup lsCtrlDesc.id [s] old x = c.sinkCtrl s x := rfl
theorem Chip.wrote_ledCommit (c : Chip) (old x : Word) : c.wrote .sup ledCommitDesc.id [] old x = if F.LED_COMMIT_GO.get x = 1 then c.ledCommit else c := rfl
theorem Chip.wrote_ledHrCtrl (c : Chip) (old x : Word) : c.wrote .sup ledHrCtrlDesc.id [] old x = c.hrCtrl old x := rfl
theorem Chip.regWrite_as_lsCtrl {a s : Nat} (h : findReg a = some (lsCtrlDesc, [s])) (c : Chip) (x : Word) :
    c.regWrite .sup a x = (c.wr a (storedWord lsCtrlDesc [s] (c.rd a) x)).sinkCtrl s x := by
  have hp : c.regWrite .sup a x = c.plainWrite .sup lsCtrlDesc [s] a x := by simp [Chip.regWrite, h, lsCtrlDesc, writerOk_sup, ctrHalf]
  rw [hp, Chip.plainWrite_unlocked rfl rfl rfl, Chip.wrote_lsCtrl]
theorem Chip.regWrite_as_ledCommit {a : Nat} (h : findReg a = some (ledCommitDesc, [])) (c : Chip) {x : Word} (hx : F.LED_COMMIT_GO.get x = 1) :
    c.regWrite .sup a x = (c.wr a (storedWord ledCommitDesc [] (c.rd a) x)).ledCommit := by
  have hp : c.regWrite .sup a x = c.plainWrite .sup ledCommitDesc [] a x := by simp [Chip.regWrite, h, ledCommitDesc, writerOk_sup, ctrHalf]
  rw [hp, Chip.plainWrite_unlocked rfl rfl rfl, Chip.wrote_ledCommit, if_pos hx]
theorem Chip.regWrite_as_ledHrCtrl {a : Nat} (h : findReg a = some (ledHrCtrlDesc, [])) (c : Chip) (x : Word) :
    c.regWrite .sup a x = (c.wr a (storedWord ledHrCtrlDesc [] (c.rd a) x)).hrCtrl (c.rd a) x := by
  have hp : c.regWrite .sup a x = c.plainWrite .sup ledHrCtrlDesc [] a x := by simp [Chip.regWrite, h, ledHrCtrlDesc, writerOk_sup, ctrHalf]
  rw [hp, Chip.plainWrite_unlocked rfl rfl rfl, Chip.wrote_ledHrCtrl]

/-- A write to a register of the sentinel on its way: the word is stored there, and the sentinel's other registers hold what they held. -/
theorem Travelled.rd_sen {c c' : Chip} (h : Travelled 1 c c') {a : Nat} (ha : 0x40100100 ≤ a) : c'.rd a = c.rd a :=
  h.rd (Nat.ne_of_gt (Nat.lt_of_lt_of_le (by decide : tokenAddr 1 < 0x40100100) ha))
theorem Travelled.only_sen {c c' : Chip} (h : Travelled 1 c c') : Only [Blk.sen] c c' := h.only ⟨Blk.sen, by simp, by decide⟩

/-- What a write of LS_CTRL finds: EN as written, the sink's entry and the other registers as they were. -/
theorem lsCtrl_lands {s : State} {n : Fin 24} (x : Word) (h : s.chip.direct .sup (R.LS_CTRL n) = true) :
    ∃ d : Chip, d.flag (R.LS_CTRL n) F.LS_CTRL_EN = (F.LS_CTRL_EN.get x == 1) ∧ (∀ a, 0x40100100 ≤ a → a ≠ R.LS_CTRL n → d.rd a = s.chip.rd a) ∧
      d.sink n = s.chip.sink n ∧ Only [Blk.sen] s.chip d ∧ s.write .sup (R.LS_CTRL n) x = { s with chip := d.sinkCtrl n x } := by
  obtain ⟨c, hc, hw⟩ := State.write_travels x h (by rw [dieOf_lsCtrl]; decide) (isAlias_lsCtrl n)
  rw [dieOf_lsCtrl] at hc
  rw [Chip.regWrite_as_lsCtrl (findReg_lsCtrl n)] at hw
  refine ⟨c.wr (R.LS_CTRL n) (storedWord lsCtrlDesc [n.val] (c.rd (R.LS_CTRL n)) x), ?_, fun a ha hne => (Chip.rd_wr_ne _ _ hne).trans (hc.rd_sen ha), hc.sink n,
    hc.only_sen.trans (.senWr (by simp) _ _ (by unfold R.LS_CTRL; omega)), hw⟩
  rw [Chip.flag, Chip.fget_wr_self]
  exact congrArg (· == 1) (Fld.get_mergeWord _ _ _ _ _ _ (by decide))

theorem Chip.sinkCtrl_captures {c : Chip} {n : Nat} {x : Word} (ha : F.LS_CTRL_APPLY.get x = 1) (hr : F.LS_CTRL_REARM.get x ≠ 1) :
    c.sinkCtrl n x = c.sinkCapture n := by
  rw [Chip.sinkCtrl, if_neg hr, if_pos ha]
theorem Chip.sinkCtrl_rearms {c : Chip} {n : Nat} {x : Word} (ha : F.LS_CTRL_APPLY.get x ≠ 1) (hr : F.LS_CTRL_REARM.get x = 1) :
    c.sinkCtrl n x = c.sinkRearm n := by
  rw [Chip.sinkCtrl, if_pos hr, if_neg ha]

/-- The shadow words of a sink, as a capture takes them. -/
def Chip.sinkShadow (c : Chip) (x : Nat) : SinkSet := ⟨c.rd (R.LS_ISET x), c.rd (R.LS_DUTY x), c.rd (R.LS_CFG x), c.flag (R.LS_CTRL x) F.LS_CTRL_EN⟩
theorem Chip.pend_sinkCapture (c : Chip) (x : Nat) : ((c.sinkCapture x).sink x).pend = some (c.sinkShadow x) := by
  rw [Chip.sinkCapture, Chip.sink_setSink_self]
  rfl
theorem Chip.sinksCaptured (x : Nat) : ∀ (l : List Nat) (c : Chip), (l.foldl Chip.sinkCapture c).regs = c.regs ∧
    (x ∈ l → ((l.foldl Chip.sinkCapture c).sink x).pend = some (c.sinkShadow x)) ∧ (x ∉ l → (l.foldl Chip.sinkCapture c).sink x = c.sink x)
  | [], c => ⟨rfl, by simp, fun _ => rfl⟩
  | y :: l, c => by
    obtain ⟨hr, hin, hout⟩ := sinksCaptured x l (c.sinkCapture y)
    refine ⟨hr, fun hx => ?_, fun hx => ?_⟩
    · by_cases hl : x ∈ l
      · exact hin hl
      · have hxy : x = y := (List.mem_cons.1 hx).resolve_right hl
        rw [List.foldl_cons, hout hl, ← hxy, Chip.pend_sinkCapture]
    · have hxy : x ≠ y := fun h => hx (by simp [h])
      rw [List.foldl_cons, hout fun h => hx (by simp [h]), Chip.sinkCapture, Chip.sink_setSink_ne _ _ hxy]

/-! ### The converter: stops, and a write of its control word -/

/-- The stops noted, and every sink that is on waiting, a stop is counted. -/
def Chip.hrCounted (c : Chip) (stops : List Nat) : Chip := ({ c with hrStops := stops } : Chip).vledStop.bump R.LED_HR_RESTART_CNT
theorem Chip.hrStop_stops {c : Chip} (h : c.hrRuns = true) :
    ∃ (stops : List Nat) (latch : Bool), c.hrStop = ((c.hrCounted stops).hrStopped latch).raiseFrom 1 74 := by
  unfold Chip.hrStop
  rw [if_pos h]
  exact ⟨_, _, rfl⟩
theorem Chip.rd_setStops (c : Chip) (l : List Nat) (a : Nat) : ({ c with hrStops := l } : Chip).rd a = c.rd a := (rfl)
theorem Chip.rd_sinkFault_cnt (c : Chip) {x : Nat} (hx : x < 24) (k : Nat) (st : SinkState) :
    (c.sinkFault x k st).rd R.LED_HR_RESTART_CNT = c.rd R.LED_HR_RESTART_CNT := by
  rw [(c.sinkFault_groups x k st).rd _ (by decide) fun g hg => by unfold R.LED_HR_RESTART_CNT R.LF_STATUS; omega,
    (Chip.sinkTold_served _ x).rd_die (by decide), Chip.sinkFaulted, Chip.sinkFaultCode,
    Chip.rd_fset_ne _ _ _ (by unfold R.LED_HR_RESTART_CNT R.LS_STATUS; omega)]
  have hs (d : Chip) : (d.setSinkRun x st).rd R.LED_HR_RESTART_CNT = d.rd R.LED_HR_RESTART_CNT := by
    rw [Chip.setSinkRun, Chip.setSinkState]
    split
    · rfl
    · exact Chip.rd_fset_ne _ _ _ (by unfold R.LED_HR_RESTART_CNT R.LS_STATUS; omega)
  rw [hs, Chip.fbump, Chip.rd_fset_ne _ _ _ (by unfold R.LED_HR_RESTART_CNT R.LS_FAULT_CNT; omega)]
  rfl
theorem Chip.vledStop_says (c : Chip) :
    Only [Blk.sen, Blk.sys, Blk.evr, Blk.que] c c.vledStop ∧ c.vledStop.rd R.LED_HR_RESTART_CNT = c.rd R.LED_HR_RESTART_CNT := by
  have h : ∀ (l : List Nat) (c : Chip), (∀ x ∈ l, x < 24) →
      Only [Blk.sen, Blk.sys, Blk.evr, Blk.que] c (l.foldl (fun c s => if c.sinkRun s = .on then c.sinkFault s 4 .vledWait else c) c) ∧
        (l.foldl (fun c s => if c.sinkRun s = .on then c.sinkFault s 4 .vledWait else c) c).rd R.LED_HR_RESTART_CNT = c.rd R.LED_HR_RESTART_CNT := fun l => by
    induction l with
    | nil => exact fun c _ => ⟨.refl _ c, rfl⟩
    | cons x l ih =>
      intro c hl
      have hx := hl x (by simp)
      obtain ⟨ho, hr⟩ := ih (if c.sinkRun x = .on then c.sinkFault x 4 .vledWait else c) fun y hy => hl y (by simp [hy])
      refine ⟨Only.trans (Only.ite _ (SinkOps.sinkFault c hx 4 .vledWait).only (.refl _ c)) ho, hr.trans ?_⟩
      split
      · exact c.rd_sinkFault_cnt hx 4 .vledWait
      · rfl
  exact h _ c fun _ hx => List.mem_range.1 hx

/-- A latched converter is released: its stops are forgotten. -/
def Chip.hrReleased (c : Chip) : Chip := ({ c with hrStops := [] } : Chip).fset R.LED_HR_STATUS F.LED_HR_STATUS_FAULT_LATCHED 0
/-- What EN makes of the converter. -/
def Chip.hrSwitched (c : Chip) (old x : Word) : Chip :=
  if F.LED_HR_CTRL_EN.get x = 1 then (if F.LED_HR_CTRL_EN.get old = 0 then c.hrBegin else c)
  else (List.range 24).foldl (fun c s => if c.sinkRun s = .on then c.sinkSettle s else c) c
theorem Chip.hrCtrl_eq (c : Chip) (old x : Word) : c.hrCtrl old x =
    (if F.LED_HR_CTRL_REARM.get x = 1 ∧ c.boundVset.flag R.LED_HR_STATUS F.LED_HR_STATUS_FAULT_LATCHED then c.boundVset.hrReleased.hrBegin
      else c.boundVset).hrSwitched old x := rfl
theorem Chip.hrCtrl_releases {c : Chip} {old x : Word} (hx : F.LED_HR_CTRL_REARM.get x = 1) (h : c.flag R.LED_HR_STATUS F.LED_HR_STATUS_FAULT_LATCHED = true) :
    c.hrCtrl old x = (c.boundVset.hrReleased.hrBegin).hrSwitched old x := by
  have hb : c.boundVset.flag R.LED_HR_STATUS F.LED_HR_STATUS_FAULT_LATCHED = true :=
    ((HrMoves.boundVset c).flag _ (by decide) (by decide) (by decide)).trans h
  rw [Chip.hrCtrl_eq, if_pos ⟨hx, hb⟩]

/-- A start of the converter, seen by what it may not change. -/
theorem Chip.hrBegin_keeps (c : Chip) : Only [Blk.sen] c c.hrBegin ∧
    c.hrBegin.flag R.LED_HR_STATUS F.LED_HR_STATUS_FAULT_LATCHED = c.flag R.LED_HR_STATUS F.LED_HR_STATUS_FAULT_LATCHED ∧ c.hrBegin.hrStops = c.hrStops := by
  have hm := c.hrBegin_moves
  refine ⟨(Only.senReg (by simp) c _ _ (by decide)).trans hm.only, ?_, hm.stops.trans (Chip.hrStops_fset _ _ _ _)⟩
  exact (hm.flag _ (by decide) (by decide) (by decide)).trans (congrArg (· == 1) (Chip.fget_fset_field _ _ _ _ _ (by decide) (by decide)))
theorem Chip.hrSwitched_keeps (c : Chip) (old x : Word) : Only [Blk.sen] c (c.hrSwitched old x) ∧
    (c.hrSwitched old x).flag R.LED_HR_STATUS F.LED_HR_STATUS_FAULT_LATCHED = c.flag R.LED_HR_STATUS F.LED_HR_STATUS_FAULT_LATCHED ∧
      (c.hrSwitched old x).hrStops = c.hrStops := by
  unfold Chip.hrSwitched
  split
  · split
    · exact c.hrBegin_keeps
    · exact ⟨.refl _ c, rfl, rfl⟩
  · have hm : HrMoves c ((List.range 24).foldl (fun c s => if c.sinkRun s = .on then c.sinkSettle s else c) c) :=
      .range (fun c x hx => .ite (.sinkSettle c hx) (.refl c)) c
    exact ⟨hm.only, hm.flag _ (by decide) (by decide) (by decide), hm.stops⟩
theorem Chip.hrReleased_says (c : Chip) : Only [Blk.sen] c c.hrReleased ∧ c.hrReleased.flag R.LED_HR_STATUS F.LED_HR_STATUS_FAULT_LATCHED = false ∧
    c.hrReleased.hrStops = [] :=
  ⟨Only.trans (c' := ({ c with hrStops := [] } : Chip)) (.of_regs rfl) (.senReg (by simp) _ _ _ (by decide)), Chip.flag_fset_zero _ _ _ (by decide), Chip.hrStops_fset _ _ _ _⟩

/-- Proves O21: each row is the state its operation leaves the sink or the converter in; registers of other blocks keep their values. -/
theorem sinksAndHeadroomConverter : Obligations.SinksAndHeadroomConverter := by
  unfold Obligations.SinksAndHeadroomConverter
  refine ⟨fun samples ilim s => ?_, fun x s hon => ?_, fun x s hcool => ?_, fun x data s h hr => ?_, fun x data s h ha hf => ?_, fun data s h => ?_,
    fun s hr => ?_, fun s hr => ?_, fun data s h hl => ?_⟩
  case _ =>
    obtain ⟨ht, hp⟩ := s.chip.subperiod_says samples ilim
    refine ⟨_, rfl, fun x hx => ⟨hp x hx, ?_⟩, ?_, ?_⟩
    · have hn := ht.next x
      rw [Chip.sinkNext, hp x hx, Option.getD_none] at hn
      cases hs : (s.chip.sink x).pend with
      | none => rfl
      | some p =>
        have hv : (s.chip.fbit R.LED_HR_STATUS F.LED_HR_STATUS_ILIM ilim).sinkNext x = p := by
          rw [Chip.sinkNext, Chip.fbit, Chip.sink_fset, hs]
          rfl
        simpa using hn.trans hv
    · exact ht.ilim.trans (Chip.flag_fbit_self _ _ _ _ (by decide) (by decide))
    · exact (Only.senReg (by simp) s.chip _ _ (by decide)).trans ht.only
  case _ =>
    obtain ⟨h₁, h₂⟩ := s.chip.sinkFault_says (k := 3) (st := .cool) x.isLt (by decide) (by decide)
    refine ⟨_, State.next_chip (c := s.chip.sinkFault x 3 .cool) (by rw [Chip.sinkHot, hon]), h₁, h₂, (SinkOps.sinkFault s.chip x.isLt 3 .cool).only⟩
  case _ =>
    obtain ⟨d, hd⟩ : ∃ d, d = (s.chip.setSinkRun x .on).sinkFaultCode x 0 := ⟨_, rfl⟩
    have hrun : d.sinkRun x = .on := by rw [hd, Chip.sinkRun_sinkFaultCode, Chip.sinkRun_setSinkRun _ _ _ (by decide)]
    have he : s.chip.sinkCooled x = (d.sinkSettle x).updateOutages := by rw [hd]; exact if_pos hcool
    have hg := GroupWrites.updateOutages (d.sinkSettle x)
    refine ⟨_, State.next_chip he, ?_, ?_⟩
    · rw [hg.sinkRun x.isLt]
      exact d.sinkRun_sinkSettle x hrun
    · have hod : Only [Blk.sen] s.chip d := by
        rw [hd]
        exact (Only.setSinkRun _ x.isLt _).trans (.sinkFaultCode _ x.isLt _)
      exact ((hod.trans (.sinkSettle d x.isLt)).mono (by simp)).trans hg.only
  case _ =>
    obtain ⟨d, hen, hrd, hx, hd, hw⟩ := lsCtrl_lands (F.LS_CTRL_APPLY.put data 1) h
    have he : d.sinkCtrl x (F.LS_CTRL_APPLY.put data 1) = d.sinkCapture x :=
      Chip.sinkCtrl_captures (Fld.get_put _ _ _ (by decide)) (by rw [Fld.get_put_ne _ _ _ _ (by decide) (by decide), hr]; decide)
    rw [he] at hw
    refine ⟨_, congrArg Host.Outcome.next hw, ?_, hd.trans (.of_regs rfl)⟩
    rw [Chip.pend_sinkCapture, Chip.sinkShadow, hen, Fld.get_put_ne _ _ _ _ (by decide) (by decide),
      hrd _ (by unfold R.LS_ISET; omega) (by unfold R.LS_ISET R.LS_CTRL; omega), hrd _ (by unfold R.LS_DUTY; omega) (by unfold R.LS_DUTY R.LS_CTRL; omega),
      hrd _ (by unfold R.LS_CFG; omega) (by unfold R.LS_CFG R.LS_CTRL; omega)]
  case _ =>
    obtain ⟨d, hen, hrd, hx, hd, hw⟩ := lsCtrl_lands (F.LS_CTRL_REARM.put data 1) h
    have he : d.sinkCtrl x (F.LS_CTRL_REARM.put data 1) = d.sinkRearm x :=
      Chip.sinkCtrl_rearms (by rw [Fld.get_put_ne _ _ _ _ (by decide) (by decide), ha]; decide) (Fld.get_put _ _ _ (by decide))
    have hrun : d.sinkRun x = .fault :=
      (Chip.sinkRun_of (Chip.sinkState_of (congrArg F.LS_STATUS_STATE.get (hrd _ (by unfold R.LS_STATUS; omega) (by unfold R.LS_STATUS R.LS_CTRL; omega)))) (by rw [hx])).trans hf
    have hre : d.sinkRearm x = ((d.setSink x { d.sink x with rearmed := true, opens := 0, shorts := 0 }).setSinkRun x .off).sinkFaultCode x 0 := if_pos hrun
    rw [he, hre] at hw
    refine ⟨_, congrArg Host.Outcome.next hw, ?_, ?_, ?_⟩
    · rw [Chip.sinkRun_sinkFaultCode, Chip.sinkRun_setSinkRun _ _ _ (by decide)]
    · exact Chip.fget_fset_self _ _ _ _ (by decide)
    · exact hd.trans <| Only.trans (.of_regs rfl) <| (Only.setSinkRun (d.setSink x _) x.isLt .off).trans (.sinkFaultCode _ x.isLt 0)
  case _ =>
    obtain ⟨c, hc, hw⟩ := State.write_travels (F.LED_COMMIT_GO.put data 1) h (by decide) (by decide)
    rw [show dieOf R.LED_COMMIT = 1 by decide] at hc
    rw [Chip.regWrite_as_ledCommit findReg_ledCommit _ (Fld.get_put _ _ _ (by decide))] at hw
    obtain ⟨d, hd⟩ : ∃ d, d = c.wr R.LED_COMMIT (storedWord ledCommitDesc [] (c.rd R.LED_COMMIT) (F.LED_COMMIT_GO.put data 1)) := ⟨_, rfl⟩
    have hrd (a : Nat) (ha : 0x40100100 ≤ a) (hne : a ≠ R.LED_COMMIT) : d.rd a = s.chip.rd a := by
      rw [hd, Chip.rd_wr_ne _ _ hne, hc.rd_sen ha]
    rw [← hd] at hw
    refine ⟨_, congrArg Host.Outcome.next hw, fun x hx hm => ?_, ?_⟩
    · obtain ⟨-, hin, -⟩ := Chip.sinksCaptured x ((List.range 24).filter fun s => (d.fget R.LED_COMMIT_MASK F.LED_COMMIT_MASK_MASK).testBit s) d
      have hmask : (d.fget R.LED_COMMIT_MASK F.LED_COMMIT_MASK_MASK).testBit x = true := by
        rw [Chip.fget, hrd _ (by decide) (by decide)]
        exact hm
      refine (hin (List.mem_filter.2 ⟨List.mem_range.2 hx, hmask⟩)).trans ?_
      rw [Chip.sinkShadow, Chip.flag, Chip.fget, hrd _ (by unfold R.LS_ISET; omega) (by unfold R.LS_ISET R.LED_COMMIT; omega),
        hrd _ (by unfold R.LS_DUTY; omega) (by unfold R.LS_DUTY R.LED_COMMIT; omega),
        hrd _ (by unfold R.LS_CFG; omega) (by unfold R.LS_CFG R.LED_COMMIT; omega),
        hrd _ (by unfold R.LS_CTRL; omega) (by unfold R.LS_CTRL R.LED_COMMIT; omega)]
      rfl
    · have hod : Only [Blk.sen] c d := by
        rw [hd]
        exact .senWr (by simp) _ _ (by decide)
      exact hc.only_sen.trans <| hod.trans (.of_regs (Chip.sinksCaptured 0 _ d).1)
  case _ =>
    obtain ⟨stops, latch, he⟩ := Chip.hrStop_stops hr
    obtain ⟨hv, hcnt⟩ := Chip.vledStop_says ({ s.chip with hrStops := stops } : Chip)
    obtain ⟨d, hd⟩ : ∃ d, d = s.chip.hrCounted stops := ⟨_, rfl⟩
    have hdc : d.rd R.LED_HR_RESTART_CNT = .ofNat 32 (min 0xFFFFFFFF ((s.chip.rd R.LED_HR_RESTART_CNT).toNat + 1)) := by
      rw [hd, Chip.hrCounted, Chip.rd_bump_self, hcnt, Chip.rd_setStops]
    have hod : Only [Blk.sen, Blk.sys, Blk.evr, Blk.que] s.chip d := by
      rw [hd]
      exact Only.trans (.of_regs rfl) <| hv.trans (Only.bump _ _ _ ⟨Blk.sen, by simp, by decide⟩)
    rw [← hd] at he
    have hs := Served.raiseFrom (d.hrStopped latch) 1 (k := 74) (by decide)
    refine ⟨_, State.next_chip he, Chip.hrRuns_hrStopped d latch, ?_, ?_⟩
    · rw [hs.rd_die (by decide), Chip.hrStopped, Chip.fbit, Chip.fbit, Chip.rd_fset_ne _ _ _ (by decide), Chip.rd_fset_ne _ _ _ (by decide), hdc]
    · refine hod.trans <| Only.trans ?_ (hs.blocks.mono (by simp))
      exact (Only.senReg (by simp) d _ _ (by decide)).trans (.senReg (by simp) _ _ _ (by decide))
  case _ =>
    obtain ⟨d, hd⟩ : ∃ d, d = s.chip.fset R.LED_HR_STATUS F.LED_HR_STATUS_RESTARTING 0 := ⟨_, rfl⟩
    have hm : HrMoves d s.chip.hrBegin := hd ▸ s.chip.hrBegin_moves
    refine ⟨_, State.next_chip (c := s.chip.hrBegin) (if_pos hr), ?_, ?_, ?_⟩
    · rw [hm.flag _ (by decide) (by decide) (by decide), hd, Chip.flag_fset_zero _ _ _ (by decide)]
    · rw [Chip.hrBegin_eq, Chip.vset_sinkSettles _ fun c s => c.sinkRun s = .vledWait]
      exact Chip.vset_boundVset (Chip.fget_fset_self _ _ _ _ (by decide))
    · exact s.chip.hrBegin_keeps.1
  case _ =>
    obtain ⟨c, hc, hw⟩ := State.write_travels (F.LED_HR_CTRL_REARM.put data 1) h (by decide) (by decide)
    rw [show dieOf R.LED_HR_CTRL = 1 by decide] at hc
    rw [Chip.regWrite_as_ledHrCtrl findReg_ledHrCtrl] at hw
    obtain ⟨d, hd⟩ : ∃ d, d = c.wr R.LED_HR_CTRL (storedWord ledHrCtrlDesc [] (c.rd R.LED_HR_CTRL) (F.LED_HR_CTRL_REARM.put data 1)) := ⟨_, rfl⟩
    have hdl : d.flag R.LED_HR_STATUS F.LED_HR_STATUS_FAULT_LATCHED = true := by
      rw [hd, Chip.flag, Chip.fget, Chip.rd_wr_ne _ _ (by decide), hc.rd_sen (by decide)]
      exact hl
    have hod : Only [Blk.sen] c d := by
      rw [hd]
      exact .senWr (by simp) _ _ (by decide)
    rw [← hd, Chip.hrCtrl_releases (Fld.get_put _ _ _ (by decide)) hdl] at hw
    obtain ⟨o₁, f₁, s₁⟩ := d.boundVset.hrReleased_says
    obtain ⟨o₂, f₂, s₂⟩ := d.boundVset.hrReleased.hrBegin_keeps
    obtain ⟨o₃, f₃, s₃⟩ := d.boundVset.hrReleased.hrBegin.hrSwitched_keeps (c.rd R.LED_HR_CTRL) (F.LED_HR_CTRL_REARM.put data 1)
    exact ⟨_, congrArg Host.Outcome.next hw, f₃.trans (f₂.trans f₁), s₃.trans (s₂.trans s₁),
      hc.only_sen.trans <| hod.trans <| (HrMoves.boundVset d).only.trans <| o₁.trans <| o₂.trans o₃⟩
end Sys2Proof.Machine
end

section
/-! SUPPORT. What a channel that stops, and requests that arrive, write at the power dies. -/

namespace Sys2Proof.Machine
open Sys2Proof

/-- The fields that a channel which stops being driven writes. -/
def stopFields (ch : Nat) : List (Nat × Fld) :=
  [(R.CH_STATUS ch, F.CH_STATUS_DUTY_LIMITED), (R.CH_OL_STATUS ch, F.CH_OL_STATUS_DIAG_STARVED), (R.CH_OL_STATUS ch, F.CH_OL_STATUS_STRETCHING),
    (R.CH_PROT_STATUS ch, F.CH_PROT_STATUS_BYPASS_ON)] ++ endFields ch
/-- The fields that a channel which goes off writes. -/
def offFields (ch : Nat) : List (Nat × Fld) :=
  [(R.CH_STATUS ch, F.CH_STATUS_PENDING_GRANT), (R.CH_STATUS ch, F.CH_STATUS_STATE), (R.CH_PROT_STATUS ch, F.CH_PROT_STATUS_HOLD_SUB),
    (R.CH_STATUS ch, F.CH_STATUS_CAUSE), (R.CH_PROT_STATUS ch, F.CH_PROT_STATUS_RETRY_NUM), (R.CH_PROT_STATUS ch, F.CH_PROT_STATUS_COOLING)] ++ stopFields ch

theorem stopFields_end {ch : Nat} (p : Nat × Fld) (h : p ∈ endFields ch) : p ∈ stopFields ch := List.mem_append_right _ h
theorem offFields_stop {ch : Nat} (p : Nat × Fld) (h : p ∈ stopFields ch) : p ∈ offFields ch := List.mem_append_right _ h

namespace Spares

theorem setCmds {W : Nat × Fld → Prop} (c : Chip) (l : List Cmd) : Spares W c { c with cmds := l } := of_regs rfl
theorem lidAbort (c : Chip) (ch : Nat) : Spares (· ∈ endFields ch) c (c.lidAbort ch) := by
  unfold Chip.lidAbort
  refine ite (fun _ => ?_) fun _ => refl c
  obtain ⟨d, hd⟩ : ∃ d, d = c.lidEnd ch 3 := ⟨_, rfl⟩
  have he : Spares (· ∈ endFields ch) c d := hd ▸ lidEnd c ch 3
  rw [← hd]
  exact he.trans (setCmds d _)
theorem leavePwm (c : Chip) (ch : Nat) : Spares (· ∈ stopFields ch) c (c.leavePwm ch) :=
  (setChan c ch _).trans <| (fset _ 0 (by simp [stopFields])).trans <| (fset _ 0 (by simp [stopFields])).trans (fset _ 0 (by simp [stopFields]))
theorem stopDrive (c : Chip) (ch : Nat) : Spares (· ∈ stopFields ch) c (c.stopDrive ch) := by
  unfold Chip.stopDrive
  extract_lets was x d e
  have hd : Spares (· ∈ stopFields ch) c d := (setChan c ch _).trans (leavePwm _ ch)
  have he : Spares (· ∈ stopFields ch) d e := ite (fun _ => fset d 1 (by simp [stopFields])) fun _ => refl d
  exact hd.trans <| he.trans <| ite (fun _ => (lidAbort e ch).mono stopFields_end) fun _ => refl e
theorem withdraw (c : Chip) (ch : Nat) : Spares (· = (R.CH_STATUS ch, F.CH_STATUS_PENDING_GRANT)) c (c.withdraw ch) :=
  (setDie c _ _).trans (fset _ 0 rfl)
theorem setChRunOff (c : Chip) (ch : Nat) (x : ChState) : Spares (· ∈ offFields ch) c (c.setChRun ch x) :=
  ite (fun _ => setHoldSub c x (by simp [offFields])) fun _ => setChState c x (by simp [offFields])
theorem stopped (c : Chip) (ch : Nat) : Spares (· ∈ offFields ch) c ((c.stopDrive ch).withdraw ch) :=
  ((stopDrive c ch).mono offFields_stop).trans <|
    (withdraw _ ch).mono fun p hp => by simp [offFields, hp]
theorem goOff (c : Chip) (ch : Nat) : Spares (· ∈ offFields ch) c (c.goOff ch) :=
  (stopped c ch).trans <| (setChRunOff _ ch _).trans <| (fset _ 0 (by simp [offFields])).trans <| (fset _ 0 (by simp [offFields])).trans
    (fset _ 0 (by simp [offFields]))
end Spares

/-- The registers of a power die outside its flashers: those of its channels and its diagnosis, and those of its scheduler and valves. -/
def OutsideFlashers (p : Nat × Fld) : Prop := (p.1 - 0x40200000) % 0x80000 < 0x40900 ∨ 0x60000 ≤ (p.1 - 0x40200000) % 0x80000

theorem offFields_low {ch : Nat} {p : Nat × Fld} (h : p ∈ offFields ch) : OutsideFlashers p := by
  have hc (o : Nat) (ho : o < 0x100) : (chBase ch + o - 0x40200000) % 0x80000 < 0x40900 := by
    simp only [chBase]
    omega
  have hk (n : Nat) : (R.PWR_HK_STATUS n - 0x40200000) % 0x80000 < 0x40900 := by
    simp only [R.PWR_HK_STATUS]
    omega
  simp only [offFields, stopFields, endFields, List.mem_append, List.mem_cons, List.not_mem_nil, or_false] at h
  refine .inl ?_
  rcases h with (rfl | rfl | rfl | rfl | rfl | rfl) | (rfl | rfl | rfl | rfl) | rfl | rfl | rfl
  · exact hc 0x1C (by decide)
  · exact hc 0x1C (by decide)
  · exact hc 0x3C (by decide)
  · exact hc 0x1C (by decide)
  · exact hc 0x3C (by decide)
  · exact hc 0x3C (by decide)
  · exact hc 0x1C (by decide)
  · exact hc 0xB8 (by decide)
  · exact hc 0xB8 (by decide)
  · exact hc 0x3C (by decide)
  · exact hc 0xD0 (by decide)
  · exact hc 0xD0 (by decide)
  · exact hk _

/-- Requests of channels of the module, none of a pulse. -/
def StartsOf (rs : List StartReq) : Prop := ∀ r ∈ rs, r.ch < 192 ∧ r.pulse = false

namespace Spares

theorem forReqs {W : Nat × Fld → Prop} {f : Chip → StartReq → Chip} {p : StartReq → Prop} (hf : ∀ c r, p r → Spares W c (f c r)) :
    ∀ (rs : List StartReq) (c : Chip), (∀ r ∈ rs, p r) → Spares W c (Chip.forReqs f rs c)
  | [], c, _ => refl c
  | r :: rs, c, h => (hf c r (h r (by simp))).trans (forReqs hf rs (f c r) fun q hq => h q (by simp [hq]))

theorem chanCount (c : Chip) {ch o : Nat} (n : Nat) (ho : o < 0x100) : Spares OutsideFlashers c (c.bump (chBase ch + o) n) :=
  bump c n (.inl (by simp only [chBase]; omega))
theorem enqueueLow (c : Chip) (r : StartReq) : Spares OutsideFlashers c (c.enqueue r) :=
  (enqueue c r).mono fun p hp => by
    rw [hp, OutsideFlashers]
    simp only [R.CH_STATUS, chBase]
    omega
theorem grantReqLow (c : Chip) (r : StartReq) : Spares OutsideFlashers c (c.grantReq r) := (grantReq c r).mono fun _ hp => .inl hp.low.2
theorem reexamineLow (c : Chip) (n : Nat) : Spares OutsideFlashers c (c.reexamine n) := (reexamine c n).mono fun _ hp => .inl hp.low.2
theorem capGrantLow (c : Chip) {r : StartReq} (hr : r.ch < 192) : Spares OutsideFlashers c (c.capGrant r) :=
  (grantReqLow c r).trans <| (chanCount _ 1 (by decide : 0x2C < 0x100)).trans <| (bump _ 1 (.inr (by simp only [R.IS_CAPGRANT_CNT]; omega))).trans
    (served (Chip.chEvent_served _ (by decide) hr))
theorem deferLow (c : Chip) (r : StartReq) : Spares OutsideFlashers c (c.defer r) :=
  (chanCount c 1 (by decide : 0x28 < 0x100)).trans (bump _ 1 (.inr (by simp only [R.IS_DEFER_CNT]; omega)))
/-- Requests that arrive: whatever is granted or waits, no flasher's register changes. -/
theorem arriveReqs (c : Chip) (n : Nat) {rs : List StartReq} (h : ∀ r ∈ rs, r.ch < 192) : Spares OutsideFlashers c (c.arriveReqs n rs) := by
  unfold Chip.arriveReqs
  extract_lets d e g wait
  have hd : Spares OutsideFlashers c d := forReqs (p := fun _ => True) (fun c r _ => enqueueLow c r) rs c fun _ _ => trivial
  have he : Spares OutsideFlashers d e :=
    forReqs (p := fun _ => True) (fun c r _ => ite (fun _ => grantReqLow c r) fun _ => refl c) rs d fun _ _ => trivial
  have hg : Spares OutsideFlashers e g := reexamineLow e n
  have hw : ∀ r ∈ wait, r.ch < 192 := fun r hr => h r (by simpa using (List.mem_filter.1 hr).2)
  refine hd.trans <| he.trans <| hg.trans <| ite (fun _ => ?_) fun _ => forReqs (p := fun _ => True) (fun c r _ => deferLow c r) wait g fun _ _ => trivial
  refine forReqs (p := fun r => r.ch < 192) (fun c r hr => capGrantLow c hr) (byPrio wait) g fun r hr => hw r ?_
  simp only [byPrio, List.mem_append, List.mem_filter] at hr
  tauto
theorem arrive (c : Chip) (n : Nat) {chs : List Nat} (h : ∀ ch ∈ chs, ch < 192) : Spares OutsideFlashers c (c.arrive n chs) :=
  arriveReqs c n fun r hr => by
    obtain ⟨ch, hch, rfl⟩ := List.mem_map.1 hr
    exact h ch hch
end Spares

namespace PowerOnly

theorem forReqs {f : Chip → StartReq → Chip} {p : StartReq → Prop} (hf : ∀ c r, p r → PowerOnly c (f c r)) :
    ∀ (rs : List StartReq) (c : Chip), (∀ r ∈ rs, p r) → PowerOnly c (Chip.forReqs f rs c)
  | [], c, _ => refl c
  | r :: rs, c, h => (hf c r (h r (by simp))).trans (forReqs hf rs (f c r) fun q hq => h q (by simp [hq]))
theorem enqueue (c : Chip) (r : StartReq) : PowerOnly c (c.enqueue r) := (setDie c _ _).trans (ite (fun _ => refl _) fun _ => fset _ _ _ _)
theorem capGrant (c : Chip) {r : StartReq} (hr : r.ch < 192) : PowerOnly c (c.capGrant r) :=
  (grantReq c r).trans <| (bump _ _ _).trans <| (bump _ _ _).trans (served (Chip.chEvent_served _ (by decide) hr))
theorem arriveReqs (c : Chip) (n : Nat) {rs : List StartReq} (h : ∀ r ∈ rs, r.ch < 192) : PowerOnly c (c.arriveReqs n rs) := by
  unfold Chip.arriveReqs
  extract_lets d e g wait
  have hd : PowerOnly c d := forReqs (p := fun _ => True) (fun c r _ => enqueue c r) rs c fun _ _ => trivial
  have he : PowerOnly d e := forReqs (p := fun _ => True) (fun c r _ => ite (fun _ => grantReq c r) fun _ => refl c) rs d fun _ _ => trivial
  have hg : PowerOnly e g := reexamine e n
  have hw : ∀ r ∈ wait, r.ch < 192 := fun r hr => h r (by simpa using (List.mem_filter.1 hr).2)
  refine hd.trans <| he.trans <| hg.trans <| ite (fun _ => ?_) fun _ =>
    forReqs (p := fun _ => True) (fun c r _ => (bump c _ _).trans (bump _ _ _)) wait g fun _ _ => trivial
  refine forReqs (p := fun r => r.ch < 192) (fun c r hr => capGrant c hr) (byPrio wait) g fun r hr => hw r ?_
  simp only [byPrio, List.mem_append, List.mem_filter] at hr
  tauto
theorem arrive (c : Chip) (n : Nat) {chs : List Nat} (h : ∀ ch ∈ chs, ch < 192) : PowerOnly c (c.arrive n chs) :=
  arriveReqs c n fun r hr => by
    obtain ⟨ch, hch, rfl⟩ := List.mem_map.1 hr
    exact h ch hch
end PowerOnly
end Sys2Proof.Machine
end

section
/-! PROOF. NTC inputs, groups, pattern engines, flashers and the sentinel's hold time (R211 to R224). -/

namespace Sys2Proof.Machine
open Sys2Proof

/-! ### Derating -/

theorem derateTarget_le (x : Word) (v : Nat) : derateTarget x v ≤ 1024 := by
  have hf : F.LF_DERATE_F_MIN.get x < 2 ^ 8 := Fld.get_lt _ _
  unfold derateTarget
  extract_lets ts te lo
  split
  · exact Nat.le_refl _
  · split
    · unfold lo
      omega
    · exact Nat.sub_le _ _
theorem derateStep_near (f target : Nat) : derateStep f target ≤ f + 8 ∧ f ≤ derateStep f target + 8 ∧ (derateStep f target ≤ max f target) := by
  unfold derateStep
  split <;> omega

/-- A group with an NTC moves its factor by at most 8. -/
theorem Chip.derate_says (c : Chip) (g : Nat) :
    (c.derate g).fget (R.LF_STATUS g) F.LF_STATUS_F ≤ c.fget (R.LF_STATUS g) F.LF_STATUS_F + 8 ∧
      c.fget (R.LF_STATUS g) F.LF_STATUS_F ≤ (c.derate g).fget (R.LF_STATUS g) F.LF_STATUS_F + 8 ∧
      ∀ a, a ≠ R.LF_STATUS g → (c.derate g).rd a = c.rd a := by
  unfold Chip.derate
  extract_lets t x l target f
  split
  · have hold : c.fget (R.LF_STATUS g) F.LF_STATUS_F < 2 ^ 11 := Fld.get_lt _ _
    have htgt : target ≤ 1024 := by
      have hf : F.LF_DERATE_F_FAIL.get x < 2 ^ 8 := Fld.get_lt _ _
      unfold target
      split
      · omega
      · exact derateTarget_le _ _
    obtain ⟨h₁, h₂, h₃⟩ := derateStep_near (c.fget (R.LF_STATUS g) F.LF_STATUS_F) target
    have hfit : f < 2 ^ 11 := lt_of_le_of_lt h₃ (by omega)
    have hget : ((c.fset (R.LF_STATUS g) F.LF_STATUS_F f).fbit (R.LF_STATUS g) F.LF_STATUS_DERATING (decide (f < 1024))).fget (R.LF_STATUS g) F.LF_STATUS_F = f := by
      rw [Chip.fbit, Chip.fget_fset_field _ _ _ _ _ (by decide) (by decide), Chip.fget_fset_self _ _ _ _ (by decide)]
      exact Nat.mod_eq_of_lt hfit
    rw [hget]
    exact ⟨h₁, h₂, fun a ha => (Chip.rd_fset_ne _ _ _ ha).trans (Chip.rd_fset_ne _ _ _ ha)⟩
  · exact ⟨Nat.le_add_right _ _, Nat.le_add_right _ _, fun _ _ => rfl⟩

/-- An input out of range before its event: FAULT shows, and the temperature holds. -/
def Chip.ntcFailed (c : Chip) (t : Nat) : Chip := (c.fset (R.NTC_TEMP t) F.NTC_TEMP_FAULT 1).ntcKeep t (c.ntcTemps t).head?.toList
theorem Chip.ntcConvert_bad (c : Chip) (t : Nat) {ohm : Nat} (h : ohm < 100 ∨ 1000000 < ohm) :
    c.ntcConvert t ohm = if c.flag (R.NTC_TEMP t) F.NTC_TEMP_FAULT then c.ntcFailed t else (c.ntcFailed t).raiseFrom 1 76 := if_pos h
theorem Chip.rd_ntcKeep (c : Chip) (t a : Nat) (l : List Nat) : (c.ntcKeep t l).rd a = c.rd a := (rfl)
/-- A resistance out of range: FAULT shows, and the temperature stays. -/
theorem Chip.ntcConvert_fails (c : Chip) {t ohm : Nat} (ht : t < 8) (h : ohm < 100 ∨ 1000000 < ohm) :
    (c.ntcConvert t ohm).flag (R.NTC_TEMP t) F.NTC_TEMP_FAULT = true ∧
      (c.ntcConvert t ohm).fget (R.NTC_TEMP t) F.NTC_TEMP_TEMP = c.fget (R.NTC_TEMP t) F.NTC_TEMP_TEMP ∧
      Only [Blk.sen, Blk.sys, Blk.evr] c (c.ntcConvert t ohm) := by
  have hrd (a : Nat) : (c.ntcFailed t).rd a = (c.fset (R.NTC_TEMP t) F.NTC_TEMP_FAULT 1).rd a := Chip.rd_ntcKeep _ _ _ _
  have hg : GroupWrites (c.ntcFailed t) (c.ntcConvert t ohm) := by
    rw [Chip.ntcConvert_bad c t h]
    exact .ite (.refl _) (.raised _ (by decide))
  have hnt : ∀ g < 12, R.NTC_TEMP t ≠ R.LF_STATUS g := fun g hg => by unfold R.NTC_TEMP R.LF_STATUS; omega
  refine ⟨?_, ?_, ?_⟩
  · rw [Chip.flag, hg.fget_led _ (by unfold R.NTC_TEMP; omega) hnt, Chip.fget, hrd]
    exact Chip.flag_fbit_self c _ _ true (by decide) (by decide)
  · rw [hg.fget_led _ (by unfold R.NTC_TEMP; omega) hnt, Chip.fget, hrd]
    exact Chip.fget_fset_field _ _ _ _ _ (by decide) (by decide)
  · refine Only.trans (c' := c.fset (R.NTC_TEMP t) F.NTC_TEMP_FAULT 1) (.senReg (by simp) c _ _ (by unfold R.NTC_TEMP; omega)) ?_
    exact Only.trans (fun a _ => hrd a) hg.only

/-! ### Engines -/

theorem Chip.rd_setEng (c : Chip) (e a : Nat) (x : EngX) : (c.setEng e x).rd a = c.rd a := (rfl)
theorem Chip.eng_setEng_self (c : Chip) (e : Nat) (x : EngX) : (c.setEng e x).eng e = x := Tbl.get_set_self _ _ _ _
theorem Chip.eng_fset (c : Chip) (a : Nat) (f : Fld) (v e : Nat) : (c.fset a f v).eng e = c.eng e := (rfl)

theorem Only.putLanes (c : Chip) {e : Nat} (mask : Nat) (v : Nat → Nat) (he : e < 8) : Only [Blk.sen] c (c.putLanes e mask v) := by
  have h : ∀ (l : List (Nat × Nat)) (c : Chip), (∀ x ∈ l, x.1 < 8) → Only [Blk.sen] c (l.foldl (Chip.setLane e) c) := fun l => by
    induction l with
    | nil => exact fun c _ => .refl _ c
    | cons x l ih =>
      intro c hl
      have hx := hl x (by simp)
      refine Only.trans ?_ (ih (c.setLane e x) fun y hy => hl y (by simp [hy]))
      exact Only.ite _ (.senReg (by simp) c _ _ (by unfold R.PE_LANE; omega)) (.senReg (by simp) c _ _ (by unfold R.PE_LANE; omega))
  refine h _ c fun x hx => ?_
  obtain ⟨j, hj, rfl⟩ := List.mem_map.1 hx
  exact List.mem_range.1 (List.mem_filter.1 hj).1

/-- The end of an engine: its status shows it. -/
theorem Chip.engEnd_says (c : Chip) {e st : Nat} (he : e < 8) (hst : st < 16) :
    (c.engEnd e st).fget (R.PE_STATUS e) F.PE_STATUS_STATUS = st ∧ Only [Blk.sen, Blk.sys, Blk.evr] c (c.engEnd e st) := by
  unfold Chip.engEnd
  extract_lets fade zero d g
  have hg : Only [Blk.sen] c g := Only.trans (c' := d) (.of_regs rfl) (Only.ite _ (.putLanes d _ _ he) (.refl _ d))
  clear_value g
  obtain ⟨k, hk⟩ : ∃ k, k = (g.fset (R.PE_STATUS e) F.PE_STATUS_STATUS st).fbumpWrap (R.PE_STATUS e) F.PE_STATUS_SEQ := ⟨_, rfl⟩
  have hr : GroupWrites k (k.raiseFrom 1 75) := .raised k (by decide)
  rw [← hk]
  refine ⟨?_, (hg.mono (by simp)).trans <| Only.trans ?_ hr.only⟩
  · rw [hr.fget_led _ (by unfold R.PE_STATUS; omega) fun x hx => by unfold R.PE_STATUS R.LF_STATUS; omega, hk, Chip.fbumpWrap,
      Chip.fget_fset_field _ _ _ _ _ (by decide) (by decide), Chip.fget_fset_self _ _ _ _ (by decide)]
    exact Nat.mod_eq_of_lt hst
  · rw [hk]
    exact (Only.senReg (by simp) g _ _ (by unfold R.PE_STATUS; omega)).trans (.senReg (by simp) _ _ _ (by unfold R.PE_STATUS; omega))

/-- A step word of 0 ends the engine. -/
theorem Chip.engRun_ends (c : Chip) {e i : Nat} (f : Nat) (hi : i < 64) (h : c.rd (R.PE_STEP e i) = 0) :
    Chip.engRun e (f + 1) i c = (c.fset (R.PE_STATUS e) F.PE_STATUS_STEP i).engEnd e 2 := by
  obtain ⟨d, hd⟩ : ∃ d, d = c.fset (R.PE_STATUS e) F.PE_STATUS_STEP i := ⟨_, rfl⟩
  have hx : (d.rd (R.PE_STEP e i)).toNat = 0 := by
    rw [hd, Chip.rd_fset_ne _ _ _ (by unfold R.PE_STEP R.PE_STATUS; omega), h]
    rfl
  have hs : d.engStep e i = (d, .ends 2) := by
    unfold Chip.engStep
    simp only [hx]
    rfl
  rw [Chip.engRun, ← hd, hs]

/-- One tick less of the step under way, and the wait for a mark over. -/
def Chip.engLeft (c : Chip) (e : Nat) : Chip := c.setEng e { c.eng e with left := (c.eng e).left - 1 }
def Chip.engWoken (c : Chip) (e : Nat) : Chip := c.setEng e { c.eng e with waits := none }
theorem Chip.engTick_running {c : Chip} {e : Nat} (hs : c.fget (R.PE_STATUS e) F.PE_STATUS_STATUS = 1) (hf : (c.eng e).forever = false) :
    c.engTick e = if (c.eng e).left - 1 = 0 then
        Chip.engRun e 64 (if (c.eng e).left = 0 then ((c.engLeft e).rampTick e ((c.eng e).left - 1)).fget (R.PE_STATUS e) F.PE_STATUS_STEP
          else (((c.engLeft e).rampTick e ((c.eng e).left - 1)).fget (R.PE_STATUS e) F.PE_STATUS_STEP + 1) % 64)
          (((c.engLeft e).rampTick e ((c.eng e).left - 1)).engWoken e)
      else (c.engLeft e).rampTick e ((c.eng e).left - 1) := by
  rw [Chip.engTick, if_pos hs]
  exact if_neg (by rw [hf]; decide)

/-- A tick of a running engine that waits for nothing, at a step word of 0. -/
theorem Chip.engTick_ends {c : Chip} {e : Nat} (he : e < 8) (hs : c.fget (R.PE_STATUS e) F.PE_STATUS_STATUS = 1) (hf : (c.eng e).forever = false)
    (hl : (c.eng e).left = 0) (hr : (c.eng e).ramp = none) (h : c.rd (R.PE_STEP e (c.fget (R.PE_STATUS e) F.PE_STATUS_STEP)) = 0) :
    (c.engTick e).fget (R.PE_STATUS e) F.PE_STATUS_STATUS = 2 ∧ Only [Blk.sen, Blk.sys, Blk.evr] c (c.engTick e) := by
  obtain ⟨d, hd⟩ : ∃ d, d = c.engLeft e := ⟨_, rfl⟩
  obtain ⟨g, hg⟩ : ∃ g, g = d.engWoken e := ⟨_, rfl⟩
  have hdr (a : Nat) : d.rd a = c.rd a := by rw [hd, Chip.engLeft, Chip.rd_setEng]
  have hrd (a : Nat) : g.rd a = c.rd a := by rw [hg, Chip.engWoken, Chip.rd_setEng, hdr]
  have hramp : d.rampTick e 0 = d := by
    have hn : (d.eng e).ramp = none := by rw [hd, Chip.engLeft, Chip.eng_setEng_self]; exact hr
    rw [Chip.rampTick, hn]
  have hi : c.fget (R.PE_STATUS e) F.PE_STATUS_STEP < 64 := Fld.get_lt _ _
  have hdi : d.fget (R.PE_STATUS e) F.PE_STATUS_STEP = c.fget (R.PE_STATUS e) F.PE_STATUS_STEP := congrArg F.PE_STATUS_STEP.get (hdr _)
  have heq : c.engTick e = Chip.engRun e 64 (c.fget (R.PE_STATUS e) F.PE_STATUS_STEP) g := by
    rw [Chip.engTick_running hs hf, hl, ← hd, hramp, hdi, ← hg]
    rfl
  rw [heq, Chip.engRun_ends g 63 hi ((hrd _).trans h)]
  obtain ⟨k, hk⟩ : ∃ k, k = g.fset (R.PE_STATUS e) F.PE_STATUS_STEP (c.fget (R.PE_STATUS e) F.PE_STATUS_STEP) := ⟨_, rfl⟩
  rw [← hk]
  obtain ⟨h₁, h₂⟩ := k.engEnd_says (st := 2) he (by decide)
  refine ⟨h₁, Only.trans (c' := g) (fun a _ => hrd a) (Only.trans ?_ h₂)⟩
  rw [hk]
  exact .senReg (by simp) g _ _ (by unfold R.PE_STATUS; omega)

/-! ### The supervisor's writes -/

def lfCfgDesc : RegDesc := ⟨.LF_CFG, 0x40150500, [(12, 0x20, 0)], 0xF7F00000, 0, 0, 0, 0, 0xF00000⟩
def peCtrlDesc : RegDesc := ⟨.PE_CTRL, 0x40151000, [(8, 0x200, 0)], 0x3FFF003F, 0, 0, 0xC0000000, 0, 0x1F40000⟩
theorem findReg_lfCfg (g : Fin 12) : findReg (R.LF_CFG g) = some (lfCfgDesc, [g.val]) := by fin_cases g <;> rfl
theorem findReg_peCtrl (e : Fin 8) : findReg (R.PE_CTRL e) = some (peCtrlDesc, [e.val]) := by fin_cases e <;> rfl
theorem dieOf_lfCfg (g : Fin 12) : dieOf (R.LF_CFG g) = 1 := by revert g; decide
theorem dieOf_peCtrl (e : Fin 8) : dieOf (R.PE_CTRL e) = 1 := by revert e; decide
theorem isAlias_lfCfg (g : Fin 12) : isAlias (R.LF_CFG g) = false := by revert g; decide
theorem isAlias_peCtrl (e : Fin 8) : isAlias (R.PE_CTRL e) = false := by revert e; decide

theorem Chip.wrote_lfCfg (c : Chip) (g : Nat) (old x : Word) : c.wrote .sup lfCfgDesc.id [g] old x = c.groupCfg g old (c.rd (R.LF_CFG g)) := rfl
theorem Chip.wrote_peCtrl (c : Chip) (e : Nat) (old x : Word) : c.wrote .sup peCtrlDesc.id [e] old x = c.engCtrl e x := rfl
theorem Chip.regWrite_as_lfCfg {a g : Nat} (h : findReg a = some (lfCfgDesc, [g])) (c : Chip) (x : Word) :
    c.regWrite .sup a x = (c.wr a (storedWord lfCfgDesc [g] (c.rd a) x)).groupCfg g (c.rd a) ((c.wr a (storedWord lfCfgDesc [g] (c.rd a) x)).rd (R.LF_CFG g)) := by
  have hp : c.regWrite .sup a x = c.plainWrite .sup lfCfgDesc [g] a x := by simp [Chip.regWrite, h, lfCfgDesc, writerOk_sup, ctrHalf]
  rw [hp, Chip.plainWrite_unlocked rfl rfl rfl, Chip.wrote_lfCfg]
theorem Chip.regWrite_as_peCtrl {a e : Nat} (h : findReg a = some (peCtrlDesc, [e])) (c : Chip) (x : Word) :
    c.regWrite .sup a x = (c.wr a (storedWord peCtrlDesc [e] (c.rd a) x)).engCtrl e x := by
  have hp : c.regWrite .sup a x = c.plainWrite .sup peCtrlDesc [e] a x := by simp [Chip.regWrite, h, peCtrlDesc, writerOk_sup, ctrHalf]
  rw [hp, Chip.plainWrite_unlocked rfl rfl rfl, Chip.wrote_peCtrl]

theorem storedGroupEn (l : List Nat) (old x : Word) : F.LF_CFG_EN.get (storedWord lfCfgDesc l old x) = F.LF_CFG_EN.get x :=
  (get_keep_ne F.LF_CFG_EN _ (1 < ·) old _ (by decide) (by decide)).trans (Fld.get_mergeWord _ _ _ _ _ _ (by decide))

/-- EN = 0 of a group without channels turns it off. -/
theorem lfCfg_disables {s : State} {g : Fin 12} {x : Word} (h : s.chip.direct .sup (R.LF_CFG g) = true) (hx : F.LF_CFG_EN.get x = 0) (hg : s.chip.groupChans g = []) :
    ∃ d : Chip, d.fget (R.LF_CFG g) F.LF_CFG_EN = 0 ∧ Only [Blk.sen] s.chip d ∧
      s.write .sup (R.LF_CFG g) x = { s with chip := d.fset (R.LF_STATUS g) F.LF_STATUS_STATE 0 } := by
  obtain ⟨c, hc, hw⟩ := State.write_travels x h (by rw [dieOf_lfCfg]; decide) (isAlias_lfCfg g)
  rw [dieOf_lfCfg] at hc
  rw [Chip.regWrite_as_lfCfg (findReg_lfCfg g)] at hw
  obtain ⟨d, hd⟩ : ∃ d, d = c.wr (R.LF_CFG g) (storedWord lfCfgDesc [g.val] (c.rd (R.LF_CFG g)) x) := ⟨_, rfl⟩
  have hen : F.LF_CFG_EN.get (d.rd (R.LF_CFG g)) = 0 := by rw [hd, Chip.rd_wr_self, storedGroupEn, hx]
  have hch : d.groupChans g = [] := by
    rw [Chip.groupChans, hd, Chip.rd_wr_ne _ _ (by unfold R.LF_CH01 R.LF_CFG; omega), Chip.rd_wr_ne _ _ (by unfold R.LF_CH23 R.LF_CFG; omega),
      hc.rd_sen (by unfold R.LF_CH01; omega), hc.rd_sen (by unfold R.LF_CH23; omega)]
    exact hg
  rw [← hd, Chip.groupCfg, if_pos hen, hch] at hw
  refine ⟨d, hen, hc.only_sen.trans ?_, hw⟩
  rw [hd]
  exact .senWr (by simp) c _ (by unfold R.LF_CFG; omega)

/-- What a write of PE_CTRL finds: START_STEP as written, the engine's status as it was. -/
theorem peCtrl_lands {s : State} {e : Fin 8} (x : Word) (h : s.chip.direct .sup (R.PE_CTRL e) = true) :
    ∃ d : Chip, d.fget (R.PE_CTRL e) F.PE_CTRL_START_STEP = F.PE_CTRL_START_STEP.get x ∧ d.rd (R.PE_STATUS e) = s.chip.rd (R.PE_STATUS e) ∧
      Only [Blk.sen] s.chip d ∧ s.write .sup (R.PE_CTRL e) x = { s with chip := d.engCtrl e x } := by
  obtain ⟨c, hc, hw⟩ := State.write_travels x h (by rw [dieOf_peCtrl]; decide) (isAlias_peCtrl e)
  rw [dieOf_peCtrl] at hc
  rw [Chip.regWrite_as_peCtrl (findReg_peCtrl e)] at hw
  refine ⟨c.wr (R.PE_CTRL e) (storedWord peCtrlDesc [e.val] (c.rd (R.PE_CTRL e)) x), ?_, ?_, hc.only_sen.trans (.senWr (by simp) c _ (by unfold R.PE_CTRL; omega)), hw⟩
  · rw [Chip.fget_wr_self]
    exact Fld.get_mergeWord _ _ _ _ _ _ (by decide)
  · rw [Chip.rd_wr_ne _ _ (by unfold R.PE_STATUS R.PE_CTRL; omega), hc.rd_sen (by unfold R.PE_STATUS; omega)]

/-! ### Flashers -/

theorem Chip.flashChans_lt (c : Chip) {n k : Nat} (hn : n < 4) : ∀ ch ∈ c.flashChans n k, ch < 192 := by
  intro ch h
  obtain ⟨l, hl, rfl⟩ := List.mem_map.1 h
  have := List.mem_range.1 (List.mem_filter.1 hl).1
  omega
/-- What spares the flashers' registers keeps a phase. -/
theorem Spares.phase {c c' : Chip} (h : Spares OutsideFlashers c c') {n k : Nat} (hn : n < 4) (hk : k < 4) :
    c'.flag (R.PWR_FLASH_STATUS n k) F.PWR_FLASH_STATUS_PHASE = c.flag (R.PWR_FLASH_STATUS n k) F.PWR_FLASH_STATUS_PHASE := by
  refine congrArg (· == 1) (h _ _ (by unfold R.PWR_FLASH_STATUS; omega) (by unfold R.PWR_FLASH_STATUS; omega) (by decide) fun g hg => ?_)
  simp only [OutsideFlashers, R.PWR_FLASH_STATUS] at hg
  omega
def Chip.setFlashLen (c : Chip) (l : Tbl Nat) : Chip := { c with flashLen := l }
theorem Chip.rd_setFlashLen (c : Chip) (l : Tbl Nat) (a : Nat) : (c.setFlashLen l).rd a = c.rd a := (rfl)
theorem Chip.flashMark_setFlashLen (c : Chip) (l : Tbl Nat) : (c.setFlashLen l).flashMark = c.flashMark := (rfl)
theorem Chip.flashMark_fset (c : Chip) (a : Nat) (f : Fld) (v : Nat) : (c.fset a f v).flashMark = c.flashMark := (rfl)
theorem Chip.flashPhase_eq (c : Chip) (n k : Nat) (on : Bool) : c.flashPhase n k on =
    (c.fbit (R.PWR_FLASH_STATUS n k) F.PWR_FLASH_STATUS_PHASE on).setFlashLen (Tbl.set (fun _ => 0) c.flashLen (4 * n + k) (c.phaseLen n k on)) := rfl
theorem Chip.phase_flashPhase (c : Chip) (n k : Nat) (on : Bool) : (c.flashPhase n k on).flag (R.PWR_FLASH_STATUS n k) F.PWR_FLASH_STATUS_PHASE = on := by
  rw [Chip.flashPhase_eq, Chip.flag, Chip.fget, Chip.rd_setFlashLen]
  exact Chip.flag_fbit_self c _ _ on (by decide) (by decide)
theorem Chip.phase_flashOn (c : Chip) {n k : Nat} (hn : n < 4) (hk : k < 4) : (c.flashOn n k).flag (R.PWR_FLASH_STATUS n k) F.PWR_FLASH_STATUS_PHASE = true :=
  ((Spares.arrive _ n fun ch h => c.flashChans_lt hn ch (List.mem_filter.1 h).1).phase hn hk).trans (c.phase_flashPhase n k true)
theorem Chip.phase_flashOff (c : Chip) {n k : Nat} (means : List Nat) (hn : n < 4) (hk : k < 4) :
    (c.flashOff n k means).flag (R.PWR_FLASH_STATUS n k) F.PWR_FLASH_STATUS_PHASE = false := by
  unfold Chip.flashOff
  extract_lets out d offs
  have hs : Spares OutsideFlashers d ((offs.foldl Chip.goOff d).reexamine n) :=
    Spares.trans (Spares.foldl (fun ch _ c => (Spares.goOff c ch).mono fun _ h => offFields_low h) d) (Spares.reexamineLow _ n)
  rw [hs.phase hn hk]
  exact Chip.phase_flashPhase _ n k false
theorem Chip.flashMark_flashOn (c : Chip) {n : Nat} (k : Nat) (hn : n < 4) : (c.flashOn n k).flashMark = c.flashMark := by
  obtain ⟨d, hd⟩ : ∃ d, d = c.flashPhase n k true := ⟨_, rfl⟩
  have ha : PowerOnly d (c.flashOn n k) := by
    rw [Chip.flashOn, ← hd]
    exact .arrive d n fun ch h => c.flashChans_lt hn ch (List.mem_filter.1 h).1
  have hm : (c.flashOn n k).flashMark = d.flashMark := ha.field (·.flashMark)
  rw [hm, hd, Chip.flashPhase_eq, Chip.flashMark_setFlashLen, Chip.fbit, Chip.flashMark_fset]

/-! ### The sentinel's hold time -/

theorem Chip.sinkLimp_writes (c : Chip) (x a : Nat) (h : a ≠ R.LS_STATUS x) : (c.sinkLimp x).rd a = c.rd a := by
  have hr (d : Chip) (st : SinkState) : (d.setSinkRun x st).rd a = d.rd a := by
    rw [Chip.setSinkRun, Chip.setSinkState]
    split
    · rfl
    · exact Chip.rd_fset_ne _ _ _ h
  have hc (d : Chip) : ((d.setSinkRun x .off).sinkFaultCode x 0).rd a = d.rd a := (Chip.rd_fset_ne _ _ _ h).trans (hr d _)
  have hs : (c.setSinkState x .limp).rd a = c.rd a := Chip.rd_fset_ne _ _ _ h
  unfold Chip.sinkLimp
  split
  · extract_lets d
    have hd : d.rd a = c.rd a := hs
    split
    · split
      · exact (hc d).trans hd
      · exact hd
    · split
      · exact (hc d).trans hd
      · exact hd
    · exact hd
  · rfl
theorem Chip.sinkLimp_leaves_held (c : Chip) (x : Nat) : (c.sinkLimp x).sinkState x ≠ .held := by
  unfold Chip.sinkLimp
  split
  next h =>
    extract_lets d
    have hd : d.sinkState x = .limp := c.sinkState_setSinkState x .limp
    have hoff : ((d.setSinkRun x .off).sinkFaultCode x 0).sinkState x = .limp := by
      have hh : d.sinkInHold x = true := by simp [Chip.sinkInHold, hd]
      rw [Chip.sinkFaultCode, Chip.sinkState_of (Chip.fget_fset_field _ _ F.LS_STATUS_FAULT F.LS_STATUS_STATE _ (by decide) (by decide)), Chip.setSinkRun, if_pos hh]
      exact hd
    split
    · split
      · rw [hoff]; decide
      · rw [hd]; decide
    · split
      · rw [hoff]; decide
      · rw [hd]; decide
    · rw [hd]; decide
  next h => exact h
theorem Chip.ledLimp_says : ∀ (l : List Nat) (c : Chip) (x : Nat), (∀ y ∈ l, y < 24) →
    Only [Blk.sen] c (l.foldl Chip.sinkLimp c) ∧ (x ∈ l ∨ c.sinkState x ≠ .held → (l.foldl Chip.sinkLimp c).sinkState x ≠ .held)
  | [], c, _, _ => ⟨.refl _ c, fun h => h.resolve_left (by simp)⟩
  | y :: l, c, x, hl => by
    have hy := hl y (by simp)
    obtain ⟨ho, hs⟩ := ledLimp_says l (c.sinkLimp y) x fun z hz => hl z (by simp [hz])
    refine ⟨Only.trans (fun a ha => c.sinkLimp_writes y a fun he => ?_) ho, fun h => hs ?_⟩
    · refine ha Blk.sen (by simp) ?_
      simp only [Blk.sen, he, R.LS_STATUS]
      omega
    · by_cases hxy : x = y
      · exact .inr (hxy ▸ c.sinkLimp_leaves_held y)
      · rcases h with h | h
        · exact .inl ((List.mem_cons.1 h).resolve_left hxy)
        · refine .inr ?_
          rw [Chip.sinkState_of (congrArg F.LS_STATUS_STATE.get (c.sinkLimp_writes y _ (by unfold R.LS_STATUS; omega)))]
          exact h

/-- Proves O22: each row is the state its operation leaves the input, the group, the engine, the flasher or the sinks in. -/
theorem groupsEnginesAndFlashers : Obligations.GroupsEnginesAndFlashers := by
  unfold Obligations.GroupsEnginesAndFlashers
  refine ⟨fun t ohm s h => ⟨_, rfl, s.chip.ntcConvert_fails t.isLt h⟩, fun g s _ => ⟨_, rfl, s.chip.derate_says g⟩, fun g s h => ?_, fun g s h => ?_,
    fun g ch s hg hf hl => ?_, fun g data s h hg => ?_, fun e s hs hf => ?_, fun e s hs hx h => ?_, fun e data s h hstop => ?_, fun e data s h hs => ?_,
    fun n k s he hsync => ?_, fun n k means s hp => ?_, fun n k s hm hl he hsync => ?_, fun n k s hl => ?_, fun s hl => ?_⟩
  case _ => exact State.next_chip (c := s.chip) (if_neg (Nat.not_lt_of_le h))
  case _ => exact State.next_chip (c := s.chip) (by rw [Chip.groupSync, h]; rfl)
  case _ =>
    refine congrArg Host.Outcome.next ?_
    have he : s.chip.groupSync g = s.chip.writeCmd 4 ch (F.CH_CMD_APPLY.put (F.CH_CMD_REARM.put (F.CH_CMD_MODE.put (s.chip.rd (R.CH_CMD ch))
        (s.chip.groupOutput g).toNat) 0) 1) := by
      rw [Chip.groupSync, hg]
      simp only [List.foldl_cons, List.foldl_nil, hf, Bool.false_eq_true, if_false]
      exact if_pos hl
    exact congrArg (fun d => ({ s with chip := d } : State)) he
  case _ =>
    obtain ⟨d, hen, hd, hw⟩ := lfCfg_disables (x := F.LF_CFG_EN.put data 0) h (Fld.get_put _ _ _ (by decide)) hg
    refine ⟨_, congrArg Host.Outcome.next hw, Chip.fget_fset_self _ _ _ _ (by decide), ?_, hd.trans (.senReg (by simp) d _ _ (by unfold R.LF_STATUS; omega))⟩
    rw [Chip.flag, Chip.fget_fset_ne _ _ _ _ (by unfold R.LF_CFG R.LF_STATUS; omega), hen]
    rfl
  case _ =>
    refine State.next_chip (c := s.chip) ?_
    rw [Chip.engTick, if_neg hs, Chip.fadeTick, hf]
  case _ => exact ⟨_, rfl, Chip.engTick_ends e.isLt hs hx.1 hx.2.1 hx.2.2 h⟩
  case _ =>
    obtain ⟨d, hst, -, hd, hw⟩ := peCtrl_lands (F.PE_CTRL_START.put data 1) h
    have hx : F.PE_CTRL_START.get (F.PE_CTRL_START.put data 1) = 1 := Fld.get_put _ _ _ (by decide)
    have he : d.engCtrl e (F.PE_CTRL_START.put data 1) = d.engStart e := by
      rw [Chip.engCtrl, if_neg (by rw [Fld.get_put_ne _ _ _ _ (by decide) (by decide), hstop]; decide), if_pos hx]
    rw [he] at hw
    refine ⟨_, congrArg Host.Outcome.next hw, ?_, ?_, ?_, ?_⟩
    · rw [Chip.engStart, Chip.fget_fset_field _ _ _ _ _ (by decide) (by decide), Chip.fget_fset_self _ _ _ _ (by decide)]
      rfl
    · rw [Chip.engStart, Chip.fget_fset_self _ _ _ _ (by decide), hst, Fld.get_put_ne _ _ _ _ (by decide) (by decide)]
      exact Nat.mod_eq_of_lt (Fld.get_lt F.PE_CTRL_START_STEP data)
    · rw [Chip.engStart, Chip.eng_fset, Chip.eng_fset, Chip.eng_setEng_self]
    · refine hd.trans <| Only.trans (c' := d.setEng e {}) (.of_regs rfl) ?_
      exact (Only.senReg (by simp) _ _ _ (by unfold R.PE_STATUS; omega)).trans (.senReg (by simp) _ _ _ (by unfold R.PE_STATUS; omega))
  case _ =>
    obtain ⟨d, -, hst, hd, hw⟩ := peCtrl_lands (F.PE_CTRL_STOP.put data 1) h
    have hx : F.PE_CTRL_STOP.get (F.PE_CTRL_STOP.put data 1) = 1 := Fld.get_put _ _ _ (by decide)
    have he : d.engCtrl e (F.PE_CTRL_STOP.put data 1) = d.engEnd e 3 := by
      rw [Chip.engCtrl, if_pos hx, Chip.engStop, if_pos (by rw [Chip.fget, hst]; exact hs)]
    rw [he] at hw
    obtain ⟨h₁, h₂⟩ := d.engEnd_says (st := 3) e.isLt (by decide)
    exact ⟨_, congrArg Host.Outcome.next hw, h₁, (hd.mono (by simp)).trans h₂⟩
  case _ => exact ⟨_, State.next_chip (c := s.chip.flashOn n k) (if_pos ⟨he, by simp [hsync]⟩), s.chip.phase_flashOn n.isLt k.isLt⟩
  case _ => exact ⟨_, State.next_chip (c := s.chip.flashOff n k means) (if_pos hp), s.chip.phase_flashOff means n.isLt k.isLt⟩
  case _ =>
    obtain ⟨d, hd⟩ : ∃ d : Chip, d = { s.chip with flashMark := Tbl.set (fun _ => false) s.chip.flashMark (4 * n + k) false } := ⟨_, rfl⟩
    have hcfg : d.flashEn n k ∧ d.flag (R.PWR_FLASH_CFG n k) F.PWR_FLASH_CFG_SYNC := by rw [hd]; exact ⟨he, hsync⟩
    have hrel : s.chip.flashRelay n k = d.flashOn n k := by
      rw [Chip.flashRelay, if_pos ⟨hm, hl⟩, ← hd]
      exact if_pos hcfg
    refine ⟨_, State.next_chip hrel, d.phase_flashOn n.isLt k.isLt, ?_⟩
    rw [d.flashMark_flashOn k n.isLt, hd]
    exact Tbl.get_set_self (fun _ => false) s.chip.flashMark (4 * n + k) false
  case _ =>
    obtain ⟨d, hd⟩ : ∃ d : Chip, d = { s.chip with flashOut := Tbl.set (fun _ => false) s.chip.flashOut (4 * n + k) (s.chip.flag (R.PWR_FLASH_STATUS n k) F.PWR_FLASH_STATUS_OUTAGE) } :=
      ⟨_, rfl⟩
    have hrel : s.chip.outageRelay n k = d.updateOutages := by rw [hd]; exact if_pos hl
    have hg := GroupWrites.updateOutages d
    refine ⟨_, State.next_chip hrel, ?_, Only.trans (.of_regs (by rw [hd])) hg.only⟩
    have ho : d.updateOutages.flashOut = d.flashOut := hg.noted.field (·.flashOut)
    rw [ho, hd]
    exact Tbl.get_set_self (fun _ => false) s.chip.flashOut (4 * n + k) _
  case _ =>
    have h := Chip.ledLimp_says (List.range 24) s.chip
    exact ⟨_, State.next_chip (c := s.chip.ledLimp) (if_pos hl), fun x hx => (h x fun _ hy => List.mem_range.1 hy).2 (.inl (List.mem_range.2 hx)),
      (h 0 fun _ hy => List.mem_range.1 hy).1⟩
end Sys2Proof.Machine
end

section
/-! SUPPORT. What a trip of a channel writes, and what it leaves alone (R134 to R142, R452, R467). -/

namespace Sys2Proof.Machine
open Sys2Proof

/-! ### Beside the channel: the release and the sealed channel's interruption -/

/-- The entries of the recorder of power die 3. -/
def SealWrites (p : Nat × Fld) : Prop := 0x403C0B00 ≤ p.1 ∧ p.1 < 0x403C0E00

/-- The channels and the requests of the power dies are as they were, and their registers but for those of the recorder. -/
structure Beside (c c' : Chip) : Prop where
  chans : c'.chans = c.chans
  dies : c'.dies = c.dies
  regs : Spares SealWrites c c'

namespace Beside

variable {c c' c'' : Chip}

theorem refl (c : Chip) : Beside c c := ⟨rfl, rfl, .refl c⟩
theorem trans (h : Beside c c') (h' : Beside c' c'') : Beside c c'' := ⟨h'.chans.trans h.chans, h'.dies.trans h.dies, h.regs.trans h'.regs⟩
theorem ite {p : Prop} [Decidable p] (h : p → Beside c c') (h' : ¬ p → Beside c c'') : Beside c (if p then c' else c'') := by
  split
  case isTrue hp => exact h hp
  case isFalse hp => exact h' hp
theorem foldl {α : Type} {f : Chip → α → Chip} {xs : List α} (h : ∀ x ∈ xs, ∀ c, Beside c (f c x)) (c : Chip) : Beside c (xs.foldl f c) :=
  List.foldlRecOn xs f (motive := fun d => Beside c d) (refl c) fun d hd x hx => hd.trans (h x hx d)
theorem served (h : Served c c') : Beside c c' := ⟨h.field (·.chans), h.field (·.dies), .served h⟩
theorem told (h : Told [] c c') : Beside c c' :=
  ⟨h.chans, h.field (·.dies), fun a f h₁ _ _ _ => congrArg f.get (h.rd (by simp) (by omega) (by omega))⟩
theorem of_regs (hc : c'.chans = c.chans) (hd : c'.dies = c.dies) (h : c'.regs = c.regs) : Beside c c' := ⟨hc, hd, .of_regs h⟩
theorem noted (h : Noted c c') (hs : Spares SealWrites c c') : Beside c c' := ⟨h.field (·.chans), h.field (·.dies), hs⟩
/-- A register outside the power dies, or one of the recorder. -/
theorem wr (c : Chip) {a : Nat} (x : Word) (h : a < 0x40200000 ∨ 0x40400000 ≤ a ∨ 0x403C0B00 ≤ a ∧ a < 0x403C0E00) : Beside c (c.wr a x) := by
  refine ⟨(rfl), (rfl), ?_⟩
  obtain h | h | h := h
  · exact .low c x h
  · exact fun b f _ hb _ _ => Chip.fget_wr_ne c x f (by omega)
  · exact .wr c x h
theorem raise (c : Chip) {k : Nat} (hk : k < 256) : Beside c (c.raise k) := served (.raise c hk)
theorem raiseFrom (c : Chip) (d : Nat) {k : Nat} (hk : k < 256) : Beside c (c.raiseFrom d k) := served (.raiseFrom c d hk)
theorem log (c : Chip) (typ : Nat) (pay : BitVec 128) (late : Bool) : Beside c (c.log typ pay late) := told (.log c typ pay late)

/-! ### Groups (R214, R215) -/

theorem onChanFault (c : Chip) (ch : Nat) (o : Bool) : Beside c (c.onChanFault ch o) := by
  refine foldl (fun g hg d => ite (fun _ => ?_) fun _ => refl d) c
  have hg := List.mem_range.1 hg
  exact (noted (GroupWrites.updateOutage d hg).noted (.updateOutage d hg)).trans
    (ite (fun _ => noted (GroupWrites.groupFail _ hg).noted (.groupFail _ hg)) fun _ => refl _)

/-! ### The release of the START_ENABLE channel (R452) -/

theorem setMbWord (c : Chip) (n b w : Nat) (x : Word) : Beside c (c.setMbWord n b w x) := of_regs rfl rfl rfl
theorem mbFill (c : Chip) (n b : Nat) (ws : List Word) : Beside c (c.mbFill n b ws) := foldl (fun _ _ d => setMbWord d _ _ _ _) c
theorem canReg (c : Chip) {n o : Nat} (x : Word) (hn : n < 8) (ho : o < 0x1000) : Beside c (c.wr (0x40080000 + o + n * 0x1000) x) :=
  wr c x (.inl (by omega))
theorem mbBit_can {n : Nat} (hn : n < 8) (b : Nat) : (mbBit (R.CAN_TXPEND n 0) (R.CAN_TXPEND n 1) b).1 < 0x40200000 := by
  unfold mbBit
  split <;> (simp only [R.CAN_TXPEND]; omega)
theorem txRequest (c : Chip) {n b : Nat} (hn : n < 8) (hb : b < 64) : Beside c (c.txRequest n b) := by
  have hs : R.CAN_MB_STAT n b < 0x40200000 := by
    simp only [R.CAN_MB_STAT]
    omega
  exact ite (fun _ => (wr c _ (.inl hs)).trans <| (wr _ _ (.inl (mbBit_can hn b))).trans <| (wr _ _ (.inl hs)).trans (wr _ _ (.inl hs)))
    fun _ => refl c
theorem nextCount (c : Chip) : Beside c c.nextCount.2 := by
  unfold Chip.nextCount
  extract_lets a
  split <;> exact of_regs rfl rfl rfl
theorem setAcc (c : Chip) (x : AccX) : Beside c { c with acc := x } := of_regs rfl rfl rfl
theorem immoSend (c : Chip) (release : Bool) : Beside c (c.immoSend release) := by
  have hn : c.fget R.ACC_CFG3 F.ACC_CFG3_IMMO_CAN < 8 := Fld.get_lt F.ACC_CFG3_IMMO_CAN _
  exact (nextCount c).trans <| (setAcc _ _).trans <| (mbFill _ _ _ _).trans (txRequest _ hn (by decide))
theorem immoFrame (c : Chip) (release : Bool) : Beside c (c.immoFrame release) := ite (fun _ => setAcc c _) fun _ => immoSend c release
theorem immoRecord (c : Chip) (release : Bool) (ch : Nat) : Beside c (c.immoRecord release ch) :=
  ite (fun _ => wr c _ (.inr (.inl (by decide)))) fun _ => log c _ _ _
theorem onTrip (c : Chip) (ch : Nat) : Beside c (c.onTrip ch) :=
  ite (fun _ => ite (fun _ => (immoFrame c false).trans <| (wr _ _ (.inr (.inl (by decide)))).trans <| (raise _ (by decide)).trans
    (immoRecord _ _ _)) fun _ => refl c) fun _ => refl c

/-! ### The interruption of a sealed channel (R467) -/

theorem entryReg (c : Chip) {o : Nat} (x : Word) (ho : o < 0x300) : Beside c (c.wr (0x403C0B00 + o) x) := wr c x (.inr (.inr (by omega)))
theorem sealStatus (c : Chip) (f : Fld) (v : Nat) : Beside c (c.fset R.PWR_SEAL_STATUS f v) := entryReg c (o := 0) _ (by decide)
theorem setSealX (c : Chip) (ch : Nat) (x : SealX) : Beside c (c.setSealX ch x) := of_regs rfl rfl rfl
theorem setBegun (c : Chip) (e : Nat) (b : Bool) : Beside c (c.setBegun e b) := of_regs rfl rfl rfl
theorem setRecorded (c : Chip) (e : Nat) (b : Bool) : Beside c (c.setRecorded e b) := of_regs rfl rfl rfl
theorem setGrain (c : Chip) (g : Grain) : Beside c (c.setGrain g) := of_regs rfl rfl rfl
theorem setEntry (c : Chip) {e : Nat} (typ : Nat) (isOpen : Bool) (pay : BitVec 128) (he : e < 16) : Beside c (c.setEntry e typ isOpen pay) := by
  have hk (x : Word) : Beside c (c.wr (R.PWR_SEAL_KIND e) x) := wr c x (.inr (.inr (by simp only [R.PWR_SEAL_KIND]; omega)))
  refine ((hk _).trans (foldl (fun w hw d => wr d _ (.inr (.inr ?_))) _)).trans (sealStatus _ _ _)
  have := List.mem_range.1 hw
  simp only [R.PWR_SEAL_DATA]
  omega
theorem logEntry (late : Bool) (c : Chip) (e : Nat) : Beside c (Chip.logEntry late c e) := log c _ _ _
theorem writeEntry (late : Bool) (c : Chip) {e : Nat} (he : e < 16) : Beside c (Chip.writeEntry late c e) := by
  have hbegin (p : Prop) [Decidable p] : Beside c (if p then Chip.logEntry late (c.setBegun e true) e else c) :=
    ite (fun _ => (setBegun c e true).trans (logEntry late _ e)) fun _ => refl c
  have hend (d : Chip) (p : Prop) [Decidable p] (pay : BitVec 128) : Beside d (if p then d.setEntry e 0x82 false pay else d) :=
    ite (fun _ => setEntry d _ _ _ he) fun _ => refl d
  exact ite (fun _ => (hbegin _).trans (ite (fun _ => refl _) fun _ => (hend _ _ _).trans ((setRecorded _ e true).trans (logEntry late _ e))))
    fun _ => refl c
theorem logLostRecord (c : Chip) (cl : Bool) : Beside c (c.logLostRecord cl) := ite (fun _ => refl c) fun _ => (log c _ _ _).trans (setGrain _ _)
theorem entryLost (c : Chip) : Beside c c.entryLost :=
  (entryReg c (o := 8) _ (by decide)).trans <| (raiseFrom _ 5 (by decide)).trans <| (setGrain _ _).trans (logLostRecord _ _)
theorem entryFree_lt {c : Chip} {e : Nat} (h : c.entryFree = some e) : e < 16 := List.mem_range.1 (List.mem_of_find?_eq_some h)
theorem interruptBegin (c : Chip) (ch before cause : Nat) : Beside c (c.interruptBegin ch before cause) := by
  unfold Chip.interruptBegin
  extract_lets x t pay byp d
  have hd : Beside c d := (sealStatus c _ _).trans (raiseFrom _ 5 (by decide))
  refine ite (fun _ => ite (fun _ => setSealX c ch _) fun _ => hd.trans ?_) fun _ => refl c
  cases he : d.entryFree with
  | none => exact (setSealX d ch _).trans (entryLost _)
  | some e =>
    have he := entryFree_lt he
    exact (setSealX d ch _).trans <| (setEntry _ _ _ _ he).trans <| (setBegun _ e false).trans <| (setRecorded _ e false).trans (writeEntry _ _ he)

end Beside

end Sys2Proof.Machine
end

section
/-! SUPPORT. What a channel does after its trip is declared: its own registers but for its records, and its die's diagnosis (R138 to R142). -/

namespace Sys2Proof.Machine
open Sys2Proof

/-- The registers of channel ch but for its fault record and its counts of causes, the diagnosis registers of the dies, and the
recorder. -/
def AfterTrip (ch : Nat) (p : Nat × Fld) : Prop :=
  (∃ o, (o < 0x44 ∨ 0xB0 ≤ o) ∧ o < 0x100 ∧ p.1 = chBase ch + o) ∨
    (∃ n o, 0x40600 ≤ o ∧ o < 0x40900 ∧ p.1 = 0x40200000 + n * 0x80000 + o) ∨ SealWrites p

theorem AfterTrip.chan {ch : Nat} (o : Nat) (g : Fld) (ho : (o < 0x44 ∨ 0xB0 ≤ o) ∧ o < 0x100) : AfterTrip ch (chBase ch + o, g) :=
  .inl ⟨o, ho.1, ho.2, rfl⟩
theorem AfterTrip.die {ch : Nat} (n a : Nat) (g : Fld) (ha : 0x40240600 + n * 0x80000 ≤ a ∧ a < 0x40240900 + n * 0x80000) : AfterTrip ch (a, g) :=
  .inr (.inl ⟨n, a - (0x40200000 + n * 0x80000), by omega, by omega, by simp only; omega⟩)
theorem AfterTrip.off {ch : Nat} {p : Nat × Fld} (h : p ∈ offFields ch) : AfterTrip ch p := by
  simp only [offFields, stopFields, endFields, List.mem_append, List.mem_cons, List.not_mem_nil, or_false] at h
  rcases h with (rfl | rfl | rfl | rfl | rfl | rfl) | (rfl | rfl | rfl | rfl) | rfl | rfl | rfl
  · exact .chan 0x1C _ (by decide)
  · exact .chan 0x1C _ (by decide)
  · exact .chan 0x3C _ (by decide)
  · exact .chan 0x1C _ (by decide)
  · exact .chan 0x3C _ (by decide)
  · exact .chan 0x3C _ (by decide)
  · exact .chan 0x1C _ (by decide)
  · exact .chan 0xB8 _ (by decide)
  · exact .chan 0xB8 _ (by decide)
  · exact .chan 0x3C _ (by decide)
  · exact .chan 0xD0 _ (by decide)
  · exact .chan 0xD0 _ (by decide)
  · exact .die (pdie ch) _ _ (by simp only [R.PWR_HK_STATUS]; omega)

/-- What follows the declared trip of a channel: its registers, and no request joins a die's. -/
structure Tripped (ch : Nat) (c c' : Chip) : Prop where
  regs : Spares (AfterTrip ch) c c'
  idle : ∀ n, (c.die n).reqs = [] → (c'.die n).reqs = []

namespace Tripped

variable {ch : Nat} {c c' c'' : Chip}

theorem refl (c : Chip) : Tripped ch c c := ⟨.refl c, fun _ h => h⟩
theorem trans (h : Tripped ch c c') (h' : Tripped ch c' c'') : Tripped ch c c'' := ⟨h.regs.trans h'.regs, fun n hn => h'.idle n (h.idle n hn)⟩
theorem ite {p : Prop} [Decidable p] (h : p → Tripped ch c c') (h' : ¬ p → Tripped ch c c'') : Tripped ch c (if p then c' else c'') := by
  split
  case isTrue hp => exact h hp
  case isFalse hp => exact h' hp
theorem of_dies (hr : Spares (AfterTrip ch) c c') (hd : c'.dies = c.dies) : Tripped ch c c' :=
  ⟨hr, fun n hn => by rw [Chip.die, hd]; exact hn⟩
theorem served (h : Served c c') : Tripped ch c c' := of_dies (.served h) (h.field (·.dies))
theorem beside (h : Beside c c') : Tripped ch c c' := of_dies (h.regs.mono fun _ hp => .inr (.inr hp)) h.dies
theorem finish (c : Chip) (p : Cmd → Bool) (st : CmdStatus) (res : List Word) : Tripped ch c (c.finish p st res) := served (.finish c p st res)
theorem setChan (c : Chip) (k : Nat) (x : ChanX) : Tripped ch c (c.setChan k x) := of_dies (.of_regs rfl) rfl

/-- A register of the channel. -/
theorem reg (c : Chip) (o : Nat) (f : Fld) (v : Nat) (ho : (o < 0x44 ∨ 0xB0 ≤ o) ∧ o < 0x100) : Tripped ch c (c.fset (chBase ch + o) f v) :=
  of_dies (.fset c v (.chan o f ho)) (Chip.dies_fset _ _ _ _)
theorem wr (c : Chip) (o : Nat) (x : Word) (ho : (o < 0x44 ∨ 0xB0 ≤ o) ∧ o < 0x100) : Tripped ch c (c.wr (chBase ch + o) x) :=
  of_dies (.wr c x (.chan o _ ho)) (Chip.dies_wr _ _ _)
theorem cmd (c : Chip) (f : Fld) (v : Nat) : Tripped ch c (c.fset (R.CH_CMD ch) f v) := reg c 0 f v (by decide)
/-- A register of a die's diagnosis. -/
theorem dieReg (c : Chip) (n a : Nat) (x : Word) (ha : 0x40240600 + n * 0x80000 ≤ a ∧ a < 0x40240900 + n * 0x80000) : Tripped ch c (c.wr a x) :=
  of_dies (.wr c x (.die n a _ ha)) (Chip.dies_wr _ _ _)
/-- A die whose requests are among those that waited. -/
theorem setDie (c : Chip) (n : Nat) (x : DieX) (h : (c.die n).reqs = [] → x.reqs = []) : Tripped ch c (c.setDie n x) := by
  refine ⟨.setDie c n x, fun k hk => ?_⟩
  by_cases hkn : k = n
  · subst hkn
    rw [Chip.die_setDie_self]
    exact h hk
  · rwa [Chip.die_setDie_ne _ _ hkn]
theorem chEvent (c : Chip) {base : Nat} (hb : base < 250) (hch : ch < 192) : Tripped ch c (c.chEvent base ch) := served (Chip.chEvent_served c hb hch)

/-! ### Leaving the driven state -/

theorem setChState (c : Chip) (x : ChState) : Tripped ch c (c.setChState ch x) :=
  of_dies (.setChState c x (.chan 0x1C _ (by decide))) (Chip.dies_setChState c ch x)
theorem setHoldSub (c : Chip) (x : ChState) : Tripped ch c (c.setHoldSub ch x) := reg c 0x3C _ _ (by decide)
theorem setChRun (c : Chip) (x : ChState) : Tripped ch c (c.setChRun ch x) := ite (fun _ => setHoldSub c x) fun _ => setChState c x
theorem updateHk (c : Chip) (n l : Nat) : Tripped ch c (c.updateHk n l) :=
  of_dies (.updateHk c l (.die n _ _ (by simp only [R.PWR_HK_STATUS]; omega))) (Chip.dies_updateHk c n l)
theorem lidEnd (c : Chip) (st : Nat) : Tripped ch c (c.lidEnd ch st) :=
  (reg c 0xD0 _ _ (by decide)).trans <| (reg _ 0xD0 _ _ (by decide)).trans <| (setChan _ ch _).trans (updateHk _ _ _)
theorem lidAbort (c : Chip) : Tripped ch c (c.lidAbort ch) := by
  refine ite (fun _ => ?_) fun _ => refl c
  obtain ⟨d, hd⟩ : ∃ d, d = c.lidEnd ch 3 := ⟨_, rfl⟩
  rw [← hd]
  exact (hd ▸ lidEnd c 3 : Tripped ch c d).trans (of_dies (.of_regs rfl) rfl)
theorem leavePwm (c : Chip) : Tripped ch c (c.leavePwm ch) :=
  (setChan c ch _).trans <| (reg _ 0x1C _ _ (by decide)).trans <| (reg _ 0xB8 _ _ (by decide)).trans (reg _ 0xB8 _ _ (by decide))
theorem stopDrive (c : Chip) : Tripped ch c (c.stopDrive ch) := by
  unfold Chip.stopDrive
  extract_lets was x d e
  have hd : Tripped ch c d := (setChan c ch _).trans (leavePwm _)
  have he : Tripped ch d e := ite (fun _ => reg d 0x3C _ _ (by decide)) fun _ => refl d
  exact hd.trans <| he.trans <| ite (fun _ => lidAbort e) fun _ => refl e
theorem dropReq_nil (k : Nat) : dropReq k [] = [] := rfl
theorem withdraw (c : Chip) : Tripped ch c (c.withdraw ch) :=
  (setDie c _ _ fun h => by simp only [h, dropReq_nil]).trans (reg _ 0x1C _ _ (by decide))
theorem dropPending (c : Chip) : Tripped ch c (c.dropPending ch) := (setChan c ch _).trans (reg _ 0x1C _ _ (by decide))
theorem stopped (c : Chip) : Tripped ch c ((c.stopDrive ch).withdraw ch) := (stopDrive c).trans (withdraw _)
theorem goOff (c : Chip) : Tripped ch c (c.goOff ch) :=
  (stopped c).trans <| (setChRun _ _).trans <| (reg _ 0x1C _ _ (by decide)).trans <| (reg _ 0x3C _ _ (by decide)).trans (reg _ 0x3C _ _ (by decide))
theorem latchOff (c : Chip) (hch : ch < 192) : Tripped ch c (c.latchOff ch) :=
  ite (fun _ => refl c) fun _ => (stopped c).trans <| (dropPending _).trans <| (setChRun _ _).trans <| (cmd _ _ _).trans <|
    (reg _ 0x10 _ _ (by decide)).trans (chEvent _ (by decide) hch)
theorem enterDisabled (c : Chip) : Tripped ch c (c.enterDisabled ch) :=
  (finish c _ _ _).trans <| (finish _ _ _ _).trans <| (stopped _).trans <| (dropPending _).trans <| (setHoldSub _ _).trans <|
    (setChState _ _).trans <| (reg _ 0x1C _ _ (by decide)).trans <| (reg _ 0x3C _ _ (by decide)).trans <|
    (reg _ 0x3C _ _ (by decide)).trans (finish _ _ _ _)

/-! ### The set that its cycle applies -/

theorem xcEnd (c : Chip) (n st : Nat) : Tripped ch c (c.xcEnd n st) :=
  (setDie c n _ fun h => by simp only [h, List.filter_nil]).trans <| (dieReg _ n _ _ (by simp only [R.PWR_XC_STATUS]; omega)).trans
    (dieReg _ n _ _ (by simp only [R.PWR_XC_STATUS]; omega))
theorem xcAbort (c : Chip) (k : Nat) : Tripped ch c (c.xcAbort k) := by
  unfold Chip.xcAbort
  split
  · exact ite (fun _ => (xcEnd c _ _).trans <| (dieReg _ (k / 48) _ _ (by simp only [R.PWR_XC_HIT0]; omega)).trans <|
      (dieReg _ (k / 48) _ _ (by simp only [R.PWR_XC_HIT1]; omega)).trans (finish _ _ _ _)) fun _ => refl c
  · exact refl c
theorem tdrAbort (c : Chip) (n : Nat) : Tripped ch c (c.tdrAbort n) := by
  unfold Chip.tdrAbort
  split
  · obtain ⟨d, hd⟩ : ∃ d, d = c.setDie n { c.die n with tdr := none } := ⟨_, rfl⟩
    have h : Tripped ch c d := hd ▸ setDie c n _ fun h => h
    have ht : Tripped ch d (d.fset (R.PWR_TDR_STATUS n) F.PWR_TDR_STATUS_STATUS 3) := dieReg d n _ _ (by simp only [R.PWR_TDR_STATUS]; omega)
    rw [← hd]
    exact (h.trans ht).trans ((updateHk _ _ _).trans (finish _ _ _ _))
  · exact refl c
theorem tdrAbortOn (c : Chip) (k : Nat) : Tripped ch c (c.tdrAbortOn k) := by
  unfold Chip.tdrAbortOn
  split
  · exact ite (fun _ => tdrAbort c _) fun _ => refl c
  · exact refl c
theorem driveApplied (c : Chip) (k : Nat) : Tripped ch c (c.driveApplied k) := (xcAbort c k).trans (tdrAbortOn _ k)
theorem newPeriod (c : Chip) (d : Nat) : Tripped ch c (c.newPeriod ch d) := (setChan c ch _).trans (reg _ 0x1C _ _ (by decide))
theorem changeMode (c : Chip) (mode : Nat) (was : Bool) {out : ChState → Chip → Chip} (h : ∀ st d, Tripped ch d (out st d)) :
    Tripped ch c (c.changeMode ch mode was out) :=
  (h _ c).trans (ite (fun _ => ite (fun _ => refl _) fun _ => newPeriod _ _) fun _ => leavePwm _)
theorem activate (c : Chip) (x : ChSet) : Tripped ch c (c.activate ch x) :=
  (wr c 0x10 _ (by decide)).trans <| (wr _ 0x14 _ (by decide)).trans <| (wr _ 0x18 _ (by decide)).trans (reg _ 0x1C _ _ (by decide))
theorem takeMode (c : Chip) (mode : Nat) (was : Bool) : Tripped ch c (c.takeMode ch mode was).1 := by
  have hoff (k : Chip × Bool) (hk : Tripped ch c k.1) : Tripped ch c (if mode = 0 then (c.goOff ch, false) else k).1 := by
    split
    · exact goOff c
    · exact hk
  have hlimp (d : Chip) : Tripped ch d ((d.setHoldSub ch .off).setChState ch .off) := (setHoldSub d _).trans (setChState _ _)
  unfold Chip.takeMode
  split
  · exact hoff _ (driveApplied c ch)
  · exact hoff _ ((changeMode c mode was fun st d => setChState d st).trans (driveApplied _ ch))
  · exact hoff _ ((changeMode c mode was fun st d => setChState d st).trans (driveApplied _ ch))
  · exact hoff _ ((changeMode c mode was fun st d => setChState d st).trans (driveApplied _ ch))
  · exact hoff _ ((changeMode c mode was fun _ d => refl d).trans (driveApplied _ ch))
  · exact hoff _ (driveApplied c ch)
  · split
    · exact (goOff c).trans (hlimp _)
    · split
      · exact (changeMode c mode was fun st d => (setHoldSub d .off).trans (setChState _ st)).trans (driveApplied _ ch)
      · exact ((goOff c).trans (hlimp _)).trans (driveApplied _ ch)
  · exact refl c
theorem applySet (c : Chip) : Tripped ch c (c.applySet ch).1 := by
  unfold Chip.applySet
  split
  · exact refl c
  · exact (dropPending c).trans <| (activate _ _).trans (takeMode _ _ _)

/-! ### The trip -/

theorem afterTrip (c : Chip) (causes : List Nat) (shown : Nat) (hch : ch < 192) : Tripped ch c (c.afterTrip ch causes shown) :=
  (setChan c ch _).trans <| ite (fun _ => enterDisabled _) fun _ => ite
    (fun _ => (stopped _).trans <| (setChRun _ _).trans (reg _ 0x1C _ _ (by decide)))
    fun _ => (latchOff _ hch).trans (reg _ 0x1C _ _ (by decide))

end Tripped

end Sys2Proof.Machine
end

section
/-! PROOF. Which measurements trip a channel, with which cause (R117 to R136). -/

namespace Sys2Proof.Machine
open Sys2Proof

/-! ### The declaration of a trip -/

/-- The fault record of channel ch, and its counts of causes. -/
def RecordWrites (ch : Nat) (p : Nat × Fld) : Prop := ∃ o, (0x44 ≤ o ∧ o < 0x54 ∨ 0xA0 ≤ o ∧ o < 0xB0) ∧ p.1 = chBase ch + o

theorem RecordWrites.at {ch : Nat} (o : Nat) (g : Fld) (ho : 0x44 ≤ o ∧ o < 0x54 ∨ 0xA0 ≤ o ∧ o < 0xB0) : RecordWrites ch (chBase ch + o, g) :=
  ⟨o, ho, rfl⟩
theorem Spares.faultRecord (c : Chip) (ch cause : Nat) (m : Sample) : Spares (RecordWrites ch) c (c.faultRecord ch cause m) :=
  (wr c _ (.at 0x44 _ (by decide))).trans <| (wr _ _ (.at 0x48 _ (by decide))).trans <| (wr _ _ (.at 0x4C _ (by decide))).trans
    (wr _ _ (.at 0x50 _ (by decide)))
theorem Spares.countCause (c : Chip) {ch k : Nat} (hk : k < 16) : Spares (RecordWrites ch) c (c.countCause ch k) := by
  refine fbump c ⟨0xA0 + k / 4 * 4, .inr (by omega), ?_⟩
  simp only [R.CH_CAUSE_CNT]
  omega
theorem Spares.countTrips (c : Chip) {ch : Nat} (hch : ch < 192) {ks : List Nat} (hk : ∀ k ∈ ks, k < 16) :
    Spares (RecordWrites ch) c (c.countTrips ch ks) :=
  foldl (fun k hx c => (countCause c (hk k hx)).trans (served (Chip.chEvent_served _ (by decide) hch))) c
theorem Spares.declareTrip (c : Chip) {ch : Nat} (hch : ch < 192) {ks : List Nat} (hk : ∀ k ∈ ks, k < 16) (m : Sample) :
    Spares (RecordWrites ch) c (c.declareTrip ch ks m) := (faultRecord c ch _ m).trans (countTrips _ hch hk)

theorem tripCauses_lt (cause : Nat) (m : Sample) : ∀ k ∈ tripCauses cause m, k < 16 := by
  intro k hk
  have : ∀ k ∈ causeOrder, k < 16 := by decide
  exact this k (List.mem_filter.1 hk).1
theorem tripCauses_alone {cause : Nat} {m : Sample} (h : m.also = []) : tripCauses cause m = causeOrder.filter (· == cause) := by
  simp [tripCauses, h]

theorem mate_lt {ch : Nat} (h : ch < 192) : mate ch < 192 := by
  unfold mate
  split <;> omega
theorem mate_ne (ch : Nat) : mate ch ≠ ch := by
  unfold mate
  split <;> omega
theorem Chip.lead_lt (c : Chip) {ch : Nat} (h : ch < 192) : c.lead ch < 192 := by
  unfold Chip.lead
  split <;> omega
theorem Chip.lead_of_even {c : Chip} {ch : Nat} (h : c.oddMember ch = false) : c.lead ch = ch := by
  unfold Chip.oddMember at h
  unfold Chip.lead
  split
  case isTrue hp =>
    rw [hp] at h
    have : ch % 2 ≠ 1 := by simpa using h
    omega
  case isFalse => rfl

/-- The trip as the channel and its pair's other member declare it. -/
def Chip.declared (c : Chip) (ch : Nat) (causes : List Nat) (m : Sample) : Chip :=
  if c.paired ch then (c.declareTrip ch causes m).declareTrip (mate ch) [12] m else c.declareTrip ch causes m

/-- In the PWR cycle of a trip of causes an OFF is applied to the channel that stands for the pair, instead of its trip (R137). -/
def Chip.offWins (c : Chip) (l : Nat) (causes : List Nat) (m : Sample) : Bool :=
  m.boundary && c.offPending l && !causes.contains 8 && !(c.flag (R.CH_PROT_STATUS l) F.CH_PROT_STATUS_DISABLE_PENDING && !c.inHold l)
/-- What becomes of the channel l that stands for the pair, once the trip is declared (d). -/
def Chip.turnedOff (d : Chip) (l : Nat) (causes : List Nat) (shown : Nat) (off : Bool) : Chip :=
  if off then ((d.setChan l { d.chan l with lastTrip := causes.headD 0 }).applySet l).1 else d.afterTrip l causes shown
theorem Chip.tripNow_eq (c : Chip) (ch : Nat) (causes : List Nat) (m : Sample) : c.tripNow ch causes m =
    ((((((c.declared ch causes m).xcAbort (c.lead ch)).turnedOff (c.lead ch) causes (if c.lead ch = ch then causes.headD 0 else 12)
      (c.offWins (c.lead ch) causes m)).onTrip (c.lead ch)).onChanFault (c.lead ch) false).interruptBegin (c.lead ch) (c.chRun (c.lead ch)).code
      (if c.lead ch = ch then causes.headD 0 else 12)) := rfl
theorem Tripped.turnedOff (d : Chip) {l : Nat} (hl : l < 192) (causes : List Nat) (shown : Nat) (off : Bool) :
    Tripped l d (d.turnedOff l causes shown off) :=
  ite (fun _ => (setChan d l _).trans (applySet _)) fun _ => afterTrip d causes shown hl

/-- What a trip does once it is declared. -/
theorem Chip.tripNow_tripped (c : Chip) {ch : Nat} (hch : ch < 192) (causes : List Nat) (m : Sample) :
    Tripped (c.lead ch) (c.declared ch causes m) (c.tripNow ch causes m) := by
  rw [Chip.tripNow_eq]
  generalize c.declared ch causes m = d
  exact (Tripped.xcAbort d _).trans <| (Tripped.turnedOff _ (c.lead_lt hch) _ _ _).trans <| (Tripped.beside (.onTrip _ _)).trans <|
    (Tripped.beside (.onChanFault _ _ _)).trans (.beside (.interruptBegin _ _ _ _))

/-! ### The count of a cause -/

theorem Chip.fget_countCause (c : Chip) (ch k : Nat) :
    (c.countCause ch k).fget (R.CH_CAUSE_CNT ch (k / 4)) (byteFld (k % 4)) = min 255 (c.fget (R.CH_CAUSE_CNT ch (k / 4)) (byteFld (k % 4)) + 1) := by
  rw [Chip.countCause, Chip.fbump, Chip.fget_fset_self _ _ _ _ (by simp only [byteFld]; omega)]
  refine Nat.mod_eq_of_lt (b := 2 ^ 8) ?_
  change min 255 _ < _
  omega
theorem Chip.fget_faultRecord (c : Chip) (ch cause k : Nat) (f : Fld) (m : Sample) :
    (c.faultRecord ch cause m).fget (R.CH_CAUSE_CNT ch k) f = c.fget (R.CH_CAUSE_CNT ch k) f := by
  unfold Chip.faultRecord
  extract_lets
  rw [Chip.fget_wr_ne _ _ _ (by simp only [R.CH_CAUSE_CNT, R.CH_FAULT_TIME]; omega), Chip.fget_wr_ne _ _ _ (by simp only [R.CH_CAUSE_CNT, R.CH_FAULT_REC2]; omega),
    Chip.fget_wr_ne _ _ _ (by simp only [R.CH_CAUSE_CNT, R.CH_FAULT_REC1]; omega), Chip.fget_wr_ne _ _ _ (by simp only [R.CH_CAUSE_CNT, R.CH_FAULT_REC0]; omega)]

theorem SchedWrites.not_cause {ch k : Nat} (hk : k < 16) {g : Fld} : ¬ SchedWrites (R.CH_CAUSE_CNT ch (k / 4), g) := by
  rintro (⟨j, h⟩ | ⟨n, h | h⟩)
  · have h := mem_startFields (lo := g.lo) (w := g.w) h
    simp only [R.CH_CAUSE_CNT, chBase] at h
    omega
  all_goals
    have h := congrArg Prod.fst h
    simp only [R.CH_CAUSE_CNT, R.PWR_XC_WATCH0, R.PWR_XC_WATCH1, chBase] at h
    omega

section
variable {c : Chip} {ch k : Nat} (hch : ch < 192) (hk : k < 16)
include hch hk

theorem causeCnt_hi : R.CH_CAUSE_CNT ch (k / 4) < 0x40400000 := by
  simp only [R.CH_CAUSE_CNT, chBase]
  omega
theorem Chip.fget_declareTrip (m : Sample) : (c.declareTrip ch [k] m).fget (R.CH_CAUSE_CNT ch (k / 4)) (byteFld (k % 4)) =
    min 255 (c.fget (R.CH_CAUSE_CNT ch (k / 4)) (byteFld (k % 4)) + 1) := by
  have hs (d : Chip) : Served d (d.chEvent 44 ch) := Chip.chEvent_served d (by decide) hch
  rw [Chip.declareTrip, Chip.countTrips, List.foldl_cons, List.foldl_nil, List.headD_cons, (hs _).fget_die _ (by simp only [R.CH_CAUSE_CNT, chBase]; omega), Chip.fget_countCause, Chip.fget_faultRecord]
/-- Of a pair the even member's count of its cause is its own. -/
theorem Chip.fget_declared (m : Sample) : (c.declared ch [k] m).fget (R.CH_CAUSE_CNT ch (k / 4)) (byteFld (k % 4)) =
    min 255 (c.fget (R.CH_CAUSE_CNT ch (k / 4)) (byteFld (k % 4)) + 1) := by
  unfold Chip.declared
  split
  case isFalse => exact Chip.fget_declareTrip hch hk m
  case isTrue =>
    have hs := Spares.declareTrip (c.declareTrip ch [k] m) (mate_lt hch) (ks := [12]) (by decide) m
    rw [hs _ _ (by simp only [R.CH_CAUSE_CNT, chBase]; omega) (causeCnt_hi hch hk) (by simp only [byteFld]; omega), Chip.fget_declareTrip hch hk m]
    rintro g ⟨o, ho, hp⟩
    have := mate_lt hch
    have := mate_ne ch
    simp only [R.CH_CAUSE_CNT, chBase] at hp
    omega
/-- R135: a trip counts its cause. -/
theorem Chip.fget_tripNow (hl : c.oddMember ch = false) (m : Sample) : (c.tripNow ch [k] m).fget (R.CH_CAUSE_CNT ch (k / 4)) (byteFld (k % 4)) =
    min 255 (c.fget (R.CH_CAUSE_CNT ch (k / 4)) (byteFld (k % 4)) + 1) := by
  have hs := (c.tripNow_tripped hch [k] m).regs
  rw [hs _ _ (by simp only [R.CH_CAUSE_CNT, chBase]; omega) (causeCnt_hi hch hk) (by simp only [byteFld]; omega), Chip.fget_declared hch hk m]
  rw [Chip.lead_of_even hl]
  rintro g (⟨o, ho, ho', hp⟩ | ⟨n, o, ho, ho', hp⟩ | ⟨hp, hp'⟩)
  · simp only [R.CH_CAUSE_CNT] at hp
    omega
  · simp only [R.CH_CAUSE_CNT, chBase] at hp
    omega
  · simp only [R.CH_CAUSE_CNT, chBase] at hp hp'
    omega
theorem Chip.fget_trip (hl : c.oddMember ch = false) (m : Sample) (hm : tripCauses k m = [k]) :
    (c.trip ch k m).fget (R.CH_CAUSE_CNT ch (k / 4)) (byteFld (k % 4)) = min 255 (c.fget (R.CH_CAUSE_CNT ch (k / 4)) (byteFld (k % 4)) + 1) := by
  rw [Chip.trip, hm, Spares.reexamine _ _ _ _ (by simp only [R.CH_CAUSE_CNT, chBase]; omega) (causeCnt_hi hch hk) (by simp only [byteFld]; omega)
    (fun g hg => absurd hg (SchedWrites.not_cause hk)), Chip.fget_tripNow hch hk hl m]
end

end Sys2Proof.Machine
end

section
/-! PROOF. Which measurements trip a channel, with which cause: the statement (R117 to R136). -/

namespace Sys2Proof.Machine
open Sys2Proof

/-! ### The wire model (R131, R132) -/

/-- The wire level of a channel's next update. -/
def Chip.nextWire (c : Chip) (ch : Nat) : Rat :=
  nextLevel (c.chan ch).level (c.chan ch).msq (c.fget (R.CH_WIRE_CFG ch) F.CH_WIRE_CFG_I_RATED) (c.fget (R.CH_WIRE_CFG ch) F.CH_WIRE_CFG_TAU)
/-- The wire level of a channel is updated, before any trip. -/
def Chip.levelUpdated (c : Chip) (ch : Nat) : Chip :=
  c.setChan ch { c.chan ch with level := c.nextWire ch } |>.wr (R.CH_WIRE_LEVEL ch)
      (F.CH_WIRE_LEVEL_OVER.put (F.CH_WIRE_LEVEL_LEVEL.of (min 0xFFFF (c.nextWire ch * 32768).floor.toNat)) (decide (2 ≤ c.nextWire ch)).toNat)
    |>.fbit (R.CH_PROT_STATUS ch) F.CH_PROT_STATUS_WIRE_WARN (decide (4 / 5 ≤ c.nextWire ch))

theorem Chip.wireUpdate_even {c : Chip} {ch : Nat} (h : c.oddMember ch = false) (m : Sample) :
    c.wireUpdate ch m = (c.levelUpdated ch).tripIf ch 11 m (((c.levelUpdated ch).chRun ch).driven &&
      (c.levelUpdated ch).flag (R.CH_WIRE_CFG ch) F.CH_WIRE_CFG_WIRE_EN && decide (1 ≤ c.nextWire ch)) :=
  if_neg (by simp [h])

section
variable (c : Chip) {ch : Nat} (hch : ch < 192)

theorem Chip.only_levelUpdated (ch : Nat) : Only [Blk.chan ch] c (c.levelUpdated ch) := by
  refine ((Only.of_regs rfl).trans (Only.wr _ _ _ ⟨_, List.mem_singleton_self _, ?_⟩)).trans (Only.fset _ _ _ _ ⟨_, List.mem_singleton_self _, ?_⟩)
  · simp only [Blk.chan, R.CH_WIRE_LEVEL]
    omega
  · simp only [Blk.chan, R.CH_PROT_STATUS]
    omega
theorem Chip.chan_levelUpdated (ch : Nat) : ((c.levelUpdated ch).chan ch).level = c.nextWire ch := by
  have h : (c.levelUpdated ch).chan ch = (c.setChan ch { c.chan ch with level := c.nextWire ch }).chan ch := by
    rw [Chip.levelUpdated, Chip.chan, Chip.chans_fbit, Chip.chans_wr]
    rfl
  rw [h, Chip.chan_setChan_self]
theorem Chip.warn_levelUpdated (ch : Nat) : (c.levelUpdated ch).flag (R.CH_PROT_STATUS ch) F.CH_PROT_STATUS_WIRE_WARN = decide (4 / 5 ≤ c.nextWire ch) :=
  Chip.flag_fbit_self _ _ _ _ (by decide) (by decide)
theorem Spares.levelUpdated (ch : Nat) :
    Spares (fun p => p = (R.CH_WIRE_LEVEL ch, wholeFld) ∨ p = (R.CH_PROT_STATUS ch, F.CH_PROT_STATUS_WIRE_WARN)) c (c.levelUpdated ch) :=
  (setChan c ch _).trans <| (wr _ _ (.inl rfl)).trans (fbit _ _ (.inr rfl))

include hch
theorem Chip.chRun_levelUpdated : (c.levelUpdated ch).chRun ch = c.chRun ch := by
  refine (Spares.levelUpdated c ch).run hch ?_ ?_
  · rintro g (h | h)
    all_goals
      have h := congrArg Prod.fst h
      simp only [R.CH_STATUS, R.CH_WIRE_LEVEL, R.CH_PROT_STATUS] at h
      omega
  · rintro g (h | h)
    · have h := congrArg Prod.fst h
      simp only [R.CH_WIRE_LEVEL, R.CH_PROT_STATUS] at h
      omega
    · obtain rfl : g = F.CH_PROT_STATUS_WIRE_WARN := congrArg Prod.snd h
      decide
theorem Chip.fget_levelUpdated {o : Nat} (f : Fld) (hf : f.lo + f.w ≤ 32) (ho : o < 0x100) (h : o ≠ 0x40 ∧ o ≠ 0x3C) :
    (c.levelUpdated ch).fget (chBase ch + o) f = c.fget (chBase ch + o) f := by
  refine Spares.levelUpdated c ch _ f (chReg_lo _ _) (chReg_hi hch ho) hf ?_
  rintro g (hp | hp)
  all_goals
    have hp := congrArg Prod.fst hp
    simp only [R.CH_WIRE_LEVEL, R.CH_PROT_STATUS] at hp
    omega
theorem Chip.oddMember_levelUpdated : (c.levelUpdated ch).oddMember ch = c.oddMember ch := by
  have h : (c.levelUpdated ch).rd (R.PWR_PAIR (pdie ch)) = c.rd (R.PWR_PAIR (pdie ch)) := by
    refine c.only_levelUpdated ch _ fun x hx => ?_
    rw [List.mem_singleton.1 hx]
    simp only [Blk.chan, R.PWR_PAIR, chBase, pdie]
    omega
  rw [Chip.oddMember, Chip.paired, Chip.fget, h]
  rfl
end

/-- R132: the wire model of a driven channel reaches 1: cause 11 is counted. -/
theorem Chip.fget_wireUpdate {c : Chip} {ch : Nat} (hch : ch < 192) (ho : c.oddMember ch = false) (hd : (c.chRun ch).driven = true)
    (he : c.flag (R.CH_WIRE_CFG ch) F.CH_WIRE_CFG_WIRE_EN = true) (h1 : (1 : Rat) ≤ c.nextWire ch) {m : Sample} (hm : m.also = []) :
    (c.wireUpdate ch m).fget (R.CH_CAUSE_CNT ch 2) (byteFld 3) = min 255 (c.fget (R.CH_CAUSE_CNT ch 2) (byteFld 3) + 1) := by
  have hen : (c.levelUpdated ch).flag (R.CH_WIRE_CFG ch) F.CH_WIRE_CFG_WIRE_EN = true := by
    rw [Chip.flag, R.CH_WIRE_CFG, Chip.fget_levelUpdated c hch _ (by decide) (by decide) (by decide)]
    exact he
  have hp : ((c.levelUpdated ch).chRun ch).driven && (c.levelUpdated ch).flag (R.CH_WIRE_CFG ch) F.CH_WIRE_CFG_WIRE_EN && decide (1 ≤ c.nextWire ch) := by
    rw [Chip.chRun_levelUpdated c hch, hd, hen, decide_eq_true h1]
    rfl
  have hc : (c.levelUpdated ch).fget (R.CH_CAUSE_CNT ch 2) (byteFld 3) = c.fget (R.CH_CAUSE_CNT ch 2) (byteFld 3) :=
    Chip.fget_levelUpdated c hch (o := 0xA8) _ (by decide) (by decide) (by decide)
  rw [Chip.wireUpdate_even ho, Chip.tripIf, if_pos hp, ← hc]
  exact Chip.fget_trip (k := 11) hch (by decide) ((Chip.oddMember_levelUpdated c hch).trans ho) m ((tripCauses_alone hm).trans (by decide))

/-! ### The statement -/

theorem State.next_trip {f g : Chip → Chip} {s : State} (h : f s.chip = g s.chip) :
    (Host.Outcome.next (s.onChip f) : Host.Outcome State Fault Refusal) = .next (s.onChip g) := by
  rw [State.onChip, State.onChip, h]
theorem Chip.tripIf_true {c : Chip} {ch cause : Nat} {m : Sample} {p : Bool} (h : p = true) : c.tripIf ch cause m p = c.trip ch cause m := if_pos h

theorem Chip.envelope_trips {c : Chip} {ch : Nat} {m : EnvSample} (hd : (c.leadRun ch).driven = true)
    (h : ∀ k : Fin 3, c.ceilingNow (c.lead ch) * (c.chan (c.lead ch)).env < 100000 * m.ma[k]) :
    c.envelope ch m.ma m.toSample = c.trip ch 2 m.toSample := by
  refine Chip.tripIf_true ?_
  rw [Bool.and_eq_true, List.all_eq_true]
  refine ⟨hd, fun i hi => decide_eq_true ?_⟩
  obtain ⟨k, hk, rfl⟩ := Vector.mem_iff_getElem.1 (Vector.mem_toList_iff.1 hi)
  exact h ⟨k, hk⟩

/-- What CH_CLAMP holds after a clamp. -/
def clampWord (allow e : Rat) : Word := F.CH_CLAMP_E_LAST.put (F.CH_CLAMP_E_ALLOW.of allow.floor.toNat) (fitted 0xFFFF e.floor)
theorem fitted_lt (v : Int) : fitted 0xFFFF v < 0x10000 := by
  unfold fitted
  split <;> omega
theorem clampWord_last (allow e : Rat) : F.CH_CLAMP_E_LAST.get (clampWord allow e) = fitted 0xFFFF e.floor := by
  rw [clampWord, Fld.get_put _ _ _ (by decide)]
  exact Nat.mod_eq_of_lt (fitted_lt _)
theorem clampWord_allow (allow e : Rat) : F.CH_CLAMP_E_ALLOW.get (clampWord allow e) = allow.floor.toNat % 65536 := by
  rw [clampWord, Fld.get_put_ne _ _ _ _ (by decide) (by decide), Fld.of, Fld.get_put _ _ _ (by decide)]
  rfl

theorem Chip.lead_of_pair {c c' : Chip} {ch : Nat} (h : c'.rd (R.PWR_PAIR (pdie ch)) = c.rd (R.PWR_PAIR (pdie ch))) : c'.lead ch = c.lead ch := by
  rw [Chip.lead, Chip.lead, Chip.paired, Chip.paired, Chip.fget, Chip.fget, h]
theorem Chip.leadRun_warned (c : Chip) {ch : Nat} (hch : ch < 192) :
    (c.fset (R.CH_PROT_STATUS ch) F.CH_PROT_STATUS_TJ_WARN 1).leadRun ch = c.leadRun ch := by
  have hs : Spares (· = (R.CH_PROT_STATUS ch, F.CH_PROT_STATUS_TJ_WARN)) c (c.fset (R.CH_PROT_STATUS ch) F.CH_PROT_STATUS_TJ_WARN 1) := .fset c 1 rfl
  rw [Chip.leadRun, Chip.leadRun, Chip.lead_of_pair (Chip.rd_fset_ne c _ _ (by simp only [R.PWR_PAIR, R.CH_PROT_STATUS, chBase, pdie]; omega))]
  refine hs.run (c.lead_lt hch) (fun g hg => ?_) fun g hg => ?_
  · have := congrArg Prod.fst hg
    simp only [R.CH_STATUS, R.CH_PROT_STATUS, chBase] at this
    omega
  · obtain rfl : g = F.CH_PROT_STATUS_TJ_WARN := congrArg Prod.snd hg
    decide
theorem Chip.clamp_lead {c : Chip} {ch : Nat} {x : Word} :
    (c.wr (R.CH_CLAMP ch) x).chState ((c.wr (R.CH_CLAMP ch) x).lead ch) = c.chState (c.lead ch) := by
  rw [Chip.lead_of_pair (Chip.rd_wr_ne c _ (by simp only [R.PWR_PAIR, R.CH_CLAMP, chBase, pdie]; omega))]
  exact congrArg ChState.ofCode (Chip.fget_wr_ne c _ _ (by simp only [R.CH_STATUS, R.CH_CLAMP, chBase]; omega))

/-- Settles O14: the trips are Chip.trip by definition; the clamp's record and the wire model's level and count are written out. -/
theorem tripCausesOfChannels : Obligations.TripCausesOfChannels := by
  unfold Obligations.TripCausesOfChannels
  refine ⟨?_, ?_, ?_, ?_, ?_, ?_, ?_, ?_, ?_⟩
  case refine_1 =>
    intro ch m s h
    exact State.next_trip (Chip.tripIf_true (by rw [h]; rfl))
  case refine_2 =>
    intro ch m s h hk
    exact State.next_trip (Chip.envelope_trips h hk)
  case refine_3 =>
    intro ch m s h hn
    exact State.next_trip (Chip.tripIf_true (by simp [h, hn]))
  case refine_4 =>
    intro ch m s h hn
    exact State.next_trip (Chip.tripIf_true (by simp [h, hn]))
  case refine_5 =>
    intro ch m s h
    have hr := s.chip.leadRun_warned ch.isLt
    exact State.next_trip (Chip.tripIf_true (by rw [hr, h]; rfl))
  case refine_6 =>
    intro ch parts tj m s h
    refine ⟨s.chip.wr (R.CH_CLAMP ch) (clampWord (s.chip.clampAllow ch ((tj.toNat : Int) - 50)) (clampEnergy parts)), State.next_chip ?_, ?_, ?_, ?_⟩
    · exact if_neg (not_lt.2 h)
    · rw [Chip.fget_wr_self, clampWord_last]
    · rw [Chip.fget_wr_self, clampWord_allow]
    · exact fun a ha => Chip.rd_wr_ne _ _ ha
  case refine_7 =>
    intro ch parts tj m s h hd
    refine State.next_trip ?_
    exact (if_pos h).trans (if_neg (by rw [Chip.clamp_lead]; exact hd))
  case refine_8 =>
    intro ch y m s ho hd
    refine ⟨s.chip.levelUpdated ch, State.next_chip ?_, s.chip.chan_levelUpdated ch, ?_, s.chip.only_levelUpdated ch⟩
    · rw [Chip.wireUpdate_even ho, Chip.chRun_levelUpdated _ ch.isLt, hd]
      rfl
    · rw [Chip.warn_levelUpdated, Chip.chan_levelUpdated]
  case refine_9 =>
    intro ch y m s ho hd he hy h1
    exact ⟨_, rfl, Chip.fget_wireUpdate ch.isLt ho hd he h1 hy⟩

end Sys2Proof.Machine
end

section
/-! PROOF. What a trip leaves of an ordinary channel (R134 to R141). -/

namespace Sys2Proof.Machine
open Sys2Proof

/-! ### The fault record (R136) -/

section
variable (c : Chip) (ch cause : Nat) (m : Sample)

theorem Chip.rec0_faultRecord (f : Fld) : (c.faultRecord ch cause m).fget (R.CH_FAULT_REC0 ch) f = f.get ((c.faultRecord ch cause m).rd (R.CH_FAULT_REC0 ch)) := rfl
theorem Chip.rec0_cause : (c.faultRecord ch cause m).fget (R.CH_FAULT_REC0 ch) F.CH_FAULT_REC0_CAUSE = cause % 16 := by
  unfold Chip.faultRecord
  extract_lets n hold neigh r₁ r₂ r₃ r₄ r₅ r₆ r₇ r₈
  rw [Chip.fget_wr_ne _ _ _ (by simp only [R.CH_FAULT_REC0, R.CH_FAULT_TIME]; omega), Chip.fget_wr_ne _ _ _ (by simp only [R.CH_FAULT_REC0, R.CH_FAULT_REC2]; omega),
    Chip.fget_wr_ne _ _ _ (by simp only [R.CH_FAULT_REC0, R.CH_FAULT_REC1]; omega), Chip.fget_wr_self]
  exact Fld.get_put _ _ _ (by decide)
theorem Chip.rec0_prior : (c.faultRecord ch cause m).fget (R.CH_FAULT_REC0 ch) F.CH_FAULT_REC0_PRIOR_STATE = (c.chRun (c.lead ch)).code := by
  unfold Chip.faultRecord
  extract_lets n hold neigh r₁ r₂ r₃ r₄ r₅ r₆ r₇ r₈
  rw [Chip.fget_wr_ne _ _ _ (by simp only [R.CH_FAULT_REC0, R.CH_FAULT_TIME]; omega), Chip.fget_wr_ne _ _ _ (by simp only [R.CH_FAULT_REC0, R.CH_FAULT_REC2]; omega),
    Chip.fget_wr_ne _ _ _ (by simp only [R.CH_FAULT_REC0, R.CH_FAULT_REC1]; omega), Chip.fget_wr_self, Fld.get_put_ne _ _ _ _ (by decide) (by decide)]
  exact (Fld.get_put _ _ _ (by decide)).trans (Nat.mod_eq_of_lt (ChState.code_lt _))
theorem Chip.rec0_seq : (c.faultRecord ch cause m).fget (R.CH_FAULT_REC0 ch) F.CH_FAULT_REC0_SEQ =
    (c.fget (R.CH_FAULT_REC0 ch) F.CH_FAULT_REC0_SEQ + 1) % 256 := by
  unfold Chip.faultRecord
  extract_lets n hold neigh r₁ r₂ r₃ r₄ r₅ r₆ r₇ r₈
  have h : F.CH_FAULT_REC0_SEQ.get r₈ = F.CH_FAULT_REC0_SEQ.get r₂ := by
    repeat refine (Fld.get_put_ne _ _ _ _ (by decide) (by decide)).trans ?_
    rfl
  rw [Chip.fget_wr_ne _ _ _ (by simp only [R.CH_FAULT_REC0, R.CH_FAULT_TIME]; omega), Chip.fget_wr_ne _ _ _ (by simp only [R.CH_FAULT_REC0, R.CH_FAULT_REC2]; omega),
    Chip.fget_wr_ne _ _ _ (by simp only [R.CH_FAULT_REC0, R.CH_FAULT_REC1]; omega), Chip.fget_wr_self, h]
  exact Fld.get_put _ _ _ (by decide)
theorem Chip.rec1_trip : (c.faultRecord ch cause m).fget (R.CH_FAULT_REC1 ch) F.CH_FAULT_REC1_I_TRIP = m.i.toNat := by
  unfold Chip.faultRecord
  extract_lets n hold neigh r₁ r₂ r₃ r₄ r₅ r₆ r₇ r₈
  rw [Chip.fget_wr_ne _ _ _ (by simp only [R.CH_FAULT_REC1, R.CH_FAULT_TIME]; omega), Chip.fget_wr_ne _ _ _ (by simp only [R.CH_FAULT_REC1, R.CH_FAULT_REC2]; omega),
    Chip.fget_wr_self]
  exact (Fld.get_put _ _ _ (by decide)).trans (Nat.mod_eq_of_lt m.i.isLt)

/-- The counts of causes are no part of the record. -/
theorem Spares.countOnly (c : Chip) {ch : Nat} (hch : ch < 192) (ks : List Nat) :
    Spares (fun p => 0xA0 ≤ p.1 - chBase ch) c (c.countTrips ch ks) := by
  refine foldl (fun k _ c => Spares.trans (fbump c ?_) (served (Chip.chEvent_served _ (by decide) hch))) c
  simp only [R.CH_CAUSE_CNT]
  omega
end

/-! ### A trip of a channel that stands alone -/

/-- The diagnosis registers of the dies. -/
def DiagWrites (p : Nat × Fld) : Prop := 0x40600 ≤ (p.1 - 0x40200000) % 0x80000
theorem DiagWrites.not_chan {ch o : Nat} {g : Fld} (ho : o < 0x100) : ¬ DiagWrites (chBase ch + o, g) := by
  simp only [DiagWrites, chBase]
  omega
theorem Spares.xcAbort (c : Chip) (k : Nat) : Spares DiagWrites c (c.xcAbort k) := by
  have hd (n a : Nat) (h : 0x40240600 + n * 0x80000 ≤ a ∧ a < 0x40280000 + n * 0x80000) (g : Fld) : DiagWrites (a, g) := by
    simp only [DiagWrites]
    omega
  unfold Chip.xcAbort
  split
  · exact ite (fun _ => (setDie c _ _).trans <| (fset _ _ (hd (k / 48) _ (by simp only [R.PWR_XC_STATUS]; omega) _)).trans <|
      (fset _ _ (hd (k / 48) _ (by simp only [R.PWR_XC_STATUS]; omega) _)).trans <| (wr _ _ (hd (k / 48) _ (by simp only [R.PWR_XC_HIT0]; omega) _)).trans <|
      (wr _ _ (hd (k / 48) _ (by simp only [R.PWR_XC_HIT1]; omega) _)).trans (served (.finish _ _ _ _))) fun _ => refl c
  · exact refl c

theorem Chip.dies_countCause (c : Chip) (ch k : Nat) : (c.countCause ch k).dies = c.dies := Chip.dies_fbump c _ _
theorem Chip.dies_countTrips (c : Chip) {ch : Nat} (hch : ch < 192) (ks : List Nat) : (c.countTrips ch ks).dies = c.dies := by
  have hk (d : Chip) (k : Nat) : ((d.countCause ch k).chEvent 44 ch).dies = d.dies :=
    (Chip.chEvent_served (d.countCause ch k) (by decide : 44 < 250) hch).dies.trans (Chip.dies_countCause d ch k)
  unfold Chip.countTrips
  induction ks generalizing c with
  | nil => rfl
  | cons k ks ih => rw [List.foldl_cons, ih, hk]
theorem Chip.dies_declareTrip (c : Chip) {ch : Nat} (hch : ch < 192) (ks : List Nat) (m : Sample) : (c.declareTrip ch ks m).dies = c.dies := by
  rw [Chip.declareTrip, Chip.dies_countTrips _ hch, Chip.faultRecord]
  simp only [Chip.dies_wr]
theorem Chip.dies_declared (c : Chip) {ch : Nat} (hch : ch < 192) (ks : List Nat) (m : Sample) : (c.declared ch ks m).dies = c.dies := by
  unfold Chip.declared
  split
  · rw [Chip.dies_declareTrip _ (mate_lt hch), Chip.dies_declareTrip _ hch]
  · exact Chip.dies_declareTrip _ hch _ _

/-- The channel's own fields, but for its record, are as they were once the trip is declared and its test is over. -/
theorem Chip.fget_declared_xc {c : Chip} {ch o : Nat} (hch : ch < 192) (hp : c.paired ch = false) {ks : List Nat} (hk : ∀ k ∈ ks, k < 16) (m : Sample)
    (f : Fld) (hf : f.lo + f.w ≤ 32) (ho : (o < 0x44 ∨ 0xB0 ≤ o) ∧ o < 0x100) :
    ((c.declared ch ks m).xcAbort ch).fget (chBase ch + o) f = c.fget (chBase ch + o) f := by
  have hd : c.declared ch ks m = c.declareTrip ch ks m := if_neg (by simp [hp])
  rw [Spares.xcAbort _ ch _ f (chReg_lo _ _) (chReg_hi hch ho.2) hf (fun g hg => absurd hg (DiagWrites.not_chan ho.2)), hd]
  refine Spares.declareTrip c hch hk m _ f (chReg_lo _ _) (chReg_hi hch ho.2) hf ?_
  rintro g ⟨o', ho', hp'⟩
  simp only at hp'
  omega

/-- Where no request waits, nothing is re-examined. -/
theorem Chip.trip_quiet {c : Chip} {ch : Nat} (hch : ch < 192) (hq : (c.die (pdie ch)).reqs = []) (cause : Nat) (m : Sample) :
    c.trip ch cause m = c.tripNow ch (tripCauses cause m) m := by
  refine Chip.reexamine_none ((c.tripNow_tripped hch _ m).idle _ ?_)
  rw [Chip.die, Chip.dies_declared c hch]
  exact hq
theorem Chip.turnedOff_false (d : Chip) (l : Nat) (ks : List Nat) (shown : Nat) : d.turnedOff l ks shown false = d.afterTrip l ks shown := if_neg (by decide)
/-- A channel that stands alone trips outside its boundary. -/
theorem Chip.tripNow_alone {c : Chip} {ch : Nat} (hp : c.paired ch = false) {m : Sample} (hb : m.boundary = false) (ks : List Nat) :
    Beside (((c.declared ch ks m).xcAbort ch).afterTrip ch ks (ks.headD 0)) (c.tripNow ch ks m) := by
  have hoff : c.offWins ch ks m = false := by simp [Chip.offWins, hb]
  rw [Chip.tripNow_eq, Chip.lead_of_unpaired hp, hoff, if_pos rfl, Chip.turnedOff_false]
  generalize ((c.declared ch ks m).xcAbort ch).afterTrip ch ks (ks.headD 0) = d
  exact (Beside.onTrip _ _).trans <| (Beside.onChanFault _ _ _).trans (.interruptBegin _ _ _ _)

/-! ### Cooling down and latching off -/

theorem mem_stopFields {ch a : Nat} {g : Fld} (h : (a, g) ∈ stopFields ch) :
    a = chBase ch + 0x1C ∧ g = F.CH_STATUS_DUTY_LIMITED ∨ a = chBase ch + 0xB8 ∨ a = chBase ch + 0x3C ∧ g = F.CH_PROT_STATUS_BYPASS_ON ∨
      a = chBase ch + 0xD0 ∨ a = 0x40240800 + pdie ch * 0x80000 := by
  simp only [stopFields, endFields, List.mem_append, List.mem_cons, List.not_mem_nil, or_false, Prod.mk.injEq] at h
  obtain (h | ⟨h, -⟩ | ⟨h, -⟩ | h) | ⟨h, -⟩ | ⟨h, -⟩ | ⟨h, -⟩ := h
  · exact .inl h
  · exact .inr (.inl h)
  · exact .inr (.inl h)
  · exact .inr (.inr (.inl h))
  · exact .inr (.inr (.inr (.inl h)))
  · exact .inr (.inr (.inr (.inl h)))
  · exact .inr (.inr (.inr (.inr h)))

/-- The fields that say whether a trip leaves retries and whether a disable waits. -/
theorem Chip.chState_stopped {c : Chip} {ch : Nat} (hch : ch < 192) : ((c.stopDrive ch).withdraw ch).chState ch = c.chState ch := by
  refine (((Spares.stopDrive c ch).mono fun p hp => Or.inl hp).trans ((Spares.withdraw _ ch).mono fun p hp => Or.inr hp) :
    Spares (fun p => p ∈ stopFields ch ∨ p = (R.CH_STATUS ch, F.CH_STATUS_PENDING_GRANT)) c _).state hch ?_
  rintro g (h | h)
  · obtain ⟨-, rfl⟩ | h | ⟨h, -⟩ | h | h := mem_stopFields h
    · decide
    all_goals
      simp only [R.CH_STATUS, chBase] at h
      omega
  · obtain rfl : g = F.CH_STATUS_PENDING_GRANT := congrArg Prod.snd h
    decide

theorem Chip.chState_dropPending (c : Chip) (ch : Nat) : (c.dropPending ch).chState ch = c.chState ch :=
  congrArg ChState.ofCode ((Chip.fget_fset_field _ _ _ _ _ (by decide) (by decide)).trans (Chip.fget_setChan _ _ _ _ _))

theorem Chip.pend_dropPending (c : Chip) (ch : Nat) : ((c.dropPending ch).chan ch).pend = none := by
  rw [Chip.dropPending, Chip.chan, Chip.chans_fset]
  exact congrArg ChanX.pend (Chip.chan_setChan_self c ch _)
theorem Chip.pend_setChState (c : Chip) (ch : Nat) (x : ChState) : ((c.setChState ch x).chan ch).pend = (c.chan ch).pend := by
  rw [Chip.setChState, Chip.chan, Chip.chans_fset]
  split
  · rfl
  · change ((c.setChan ch { c.chan ch with cycle := 0 }).chan ch).pend = _
    rw [Chip.chan_setChan_self]

/-- R96: what the latched channel shows at last. -/
theorem Chip.latched_says {c : Chip} {ch shown : Nat} (hch : ch < 192) (hs : shown < 16) (h : c.chState ch = .latchedOff) (hp : (c.chan ch).pend = none)
    {c' : Chip} (hc' : c' = (((c.fset (R.CH_CMD ch) F.CH_CMD_MODE 0).fset (R.CH_ACTIVE_CMD ch) F.CH_ACTIVE_CMD_MODE 0).chEvent 48 ch).fset
      (R.CH_STATUS ch) F.CH_STATUS_CAUSE shown) :
    c'.chState ch = .latchedOff ∧ c'.fget (R.CH_STATUS ch) F.CH_STATUS_CAUSE = shown ∧ c'.activeMode ch = 0 ∧
      c'.fget (R.CH_CMD ch) F.CH_CMD_MODE = 0 ∧ (c'.chan ch).pend = none := by
  obtain ⟨d, hd⟩ : ∃ d, d = (c.fset (R.CH_CMD ch) F.CH_CMD_MODE 0).fset (R.CH_ACTIVE_CMD ch) F.CH_ACTIVE_CMD_MODE 0 := ⟨_, rfl⟩
  rw [← hd] at hc'
  have he : Served d (d.chEvent 48 ch) := Chip.chEvent_served d (by decide) hch
  have hf (o : Nat) (f : Fld) (ho : o ≠ 0x1C) : c'.fget (chBase ch + o) f = d.fget (chBase ch + o) f := by
    rw [hc', Chip.fget_fset_ne _ _ _ _ (by simp only [R.CH_STATUS]; omega), he.fget_die f (by have := chReg_lo ch o; omega)]
  have hst : d.fget (R.CH_STATUS ch) F.CH_STATUS_STATE = c.fget (R.CH_STATUS ch) F.CH_STATUS_STATE := by
    rw [hd, Chip.fget_fset_ne _ _ _ _ (by simp only [R.CH_STATUS, R.CH_ACTIVE_CMD]; omega),
      Chip.fget_fset_ne _ _ _ _ (by simp only [R.CH_STATUS, R.CH_CMD]; omega)]
  refine ⟨?_, ?_, (hf 0x10 _ (by decide)).trans ?_, (hf 0 _ (by decide)).trans ?_, ?_⟩
  · rw [Chip.chState, hc', Chip.fget_fset_field _ _ _ _ _ (by decide) (by decide), he.fget_die _ (by have := chReg_lo ch 0x1C; simp only [R.CH_STATUS]; omega), hst]
    exact h
  · rw [hc', Chip.fget_fset_self _ _ _ _ (by decide)]
    exact Nat.mod_eq_of_lt hs
  · rw [hd]
    exact (Chip.fget_fset_self _ _ _ _ (by decide)).trans (Nat.zero_mod _)
  · rw [hd, Chip.fget_fset_ne _ _ _ _ (by simp only [R.CH_ACTIVE_CMD]; omega)]
    exact (Chip.fget_fset_self _ _ _ _ (by decide)).trans (Nat.zero_mod _)
  · have hcs : c'.chans = c.chans := by
      rw [hc', Chip.chans_fset]
      exact (he.field (·.chans)).trans (show d.chans = c.chans by rw [hd, Chip.chans_fset, Chip.chans_fset])
    rw [Chip.chan, hcs]
    exact hp

section
variable {c : Chip} {ch : Nat} {ks : List Nat} {shown : Nat} (hch : ch < 192) (hst : c.chState ch = .on)
  (hdp : c.flag (R.CH_PROT_STATUS ch) F.CH_PROT_STATUS_DISABLE_PENDING = false) (hs : shown < 16)
include hch hst hdp hs

/-- R138: while retries remain the channel cools down. -/
theorem Chip.afterTrip_cools (hr : c.mayRetry ch ks = true) :
    (c.afterTrip ch ks shown).chState ch = .cooldown ∧ (c.afterTrip ch ks shown).fget (R.CH_STATUS ch) F.CH_STATUS_CAUSE = shown := by
  obtain ⟨d, hd⟩ : ∃ d, d = c.setChan ch { c.chan ch with lastTrip := ks.headD 0 } := ⟨_, rfl⟩
  have hda : c.afterTrip ch ks shown = ((((d.stopDrive ch).withdraw ch).setChRun ch .cooldown).fset (R.CH_STATUS ch) F.CH_STATUS_CAUSE shown) := by
    rw [Chip.afterTrip, ← hd, if_neg (by rw [hd, Chip.flag_setChan, hdp]; simp), if_pos hr]
  have hds : d.chState ch = .on := by
    rw [hd, Chip.chState, Chip.fget_setChan]
    exact hst
  have hg : ((d.stopDrive ch).withdraw ch).inHold ch = false := by rw [Chip.inHold_eq ((Chip.chState_stopped hch).trans hds)]; rfl
  rw [hda, Chip.setChRun_of_not_inHold hg]
  generalize (d.stopDrive ch).withdraw ch = e
  constructor
  · exact (congrArg ChState.ofCode (Chip.fget_fset_field _ _ _ _ _ (by decide) (by decide))).trans (Chip.chState_setChState e ch _)
  · rw [Chip.fget_fset_self _ _ _ _ (by decide)]
    exact Nat.mod_eq_of_lt hs

/-- R141: with no retry left the channel latches off, its mode OFF and no set pending. -/
theorem Chip.afterTrip_latches (hr : c.mayRetry ch ks = false) :
    (c.afterTrip ch ks shown).chState ch = .latchedOff ∧ (c.afterTrip ch ks shown).fget (R.CH_STATUS ch) F.CH_STATUS_CAUSE = shown ∧
      (c.afterTrip ch ks shown).activeMode ch = 0 ∧ (c.afterTrip ch ks shown).fget (R.CH_CMD ch) F.CH_CMD_MODE = 0 ∧
      ((c.afterTrip ch ks shown).chan ch).pend = none := by
  obtain ⟨d, hd⟩ : ∃ d, d = c.setChan ch { c.chan ch with lastTrip := ks.headD 0 } := ⟨_, rfl⟩
  have hda : c.afterTrip ch ks shown = (d.latchOff ch).fset (R.CH_STATUS ch) F.CH_STATUS_CAUSE shown := by
    rw [Chip.afterTrip, ← hd, if_neg (by rw [hd, Chip.flag_setChan, hdp]; simp), if_neg (by simp [hr])]
  have hds : d.chState ch = .on := by
    rw [hd, Chip.chState, Chip.fget_setChan]
    exact hst
  have hg : (((d.stopDrive ch).withdraw ch).dropPending ch).inHold ch = false := by
    rw [Chip.inHold_eq ((Chip.chState_dropPending _ _).trans ((Chip.chState_stopped hch).trans hds))]
    rfl
  have hl : d.chRun ch ≠ .latchedOff := by
    rw [Chip.chRun_of_not_inHold (by rw [Chip.inHold_eq hds]; rfl), hds]
    decide
  rw [hda, Chip.latchOff, if_neg hl, Chip.setChRun_of_not_inHold hg]
  generalize (d.stopDrive ch).withdraw ch = e
  exact Chip.latched_says hch hs (Chip.chState_setChState _ ch _) ((Chip.pend_setChState _ ch _).trans (Chip.pend_dropPending e ch)) rfl
end

/-! ### The statement -/

theorem SealWrites.not_chan {ch o : Nat} {g : Fld} (ho : o < 0x100) : ¬ SealWrites (chBase ch + o, g) := by
  simp only [SealWrites, chBase]
  omega
theorem Beside.fget_chan {c c' : Chip} (h : Beside c c') {ch o : Nat} (f : Fld) (hch : ch < 192) (hf : f.lo + f.w ≤ 32) (ho : o < 0x100) :
    c'.fget (chBase ch + o) f = c.fget (chBase ch + o) f :=
  h.regs _ f (chReg_lo _ _) (chReg_hi hch ho) hf fun _ hg => absurd hg (SealWrites.not_chan ho)

/-- What a trip declares of a channel that stands alone stands in its record. -/
theorem Chip.record_tripNow {c : Chip} {ch o : Nat} (hch : ch < 192) (hp : c.paired ch = false) (ks : List Nat) (m : Sample) (f : Fld)
    (hf : f.lo + f.w ≤ 32) (ho : 0x44 ≤ o ∧ o < 0x54) :
    (c.tripNow ch ks m).fget (chBase ch + o) f = (c.faultRecord ch (ks.headD 0) m).fget (chBase ch + o) f := by
  have hd : c.declared ch ks m = (c.faultRecord ch (ks.headD 0) m).countTrips ch ks := if_neg (by simp [hp])
  have ht := (c.tripNow_tripped hch ks m).regs
  rw [Chip.lead_of_unpaired hp, hd] at ht
  have hlo := chReg_lo ch o
  have hhi := chReg_hi hch (o := o) (by omega)
  rw [ht _ f hlo hhi hf ?_, Spares.countOnly _ hch ks _ f hlo hhi hf fun g hg => by simp only at hg; omega]
  rintro g (⟨o', ho', ho'', hp⟩ | ⟨n, o', ho', ho'', hp⟩ | hp)
  · simp only at hp
    omega
  · simp only [chBase] at hp
    omega
  · exact absurd hp (SealWrites.not_chan (by omega))

theorem Chip.hardShort_alone {c : Chip} {ch : Nat} {m : Sample} (hch : ch < 192) (hm : m.also = []) (hst : c.chState ch = .on) (hp : c.paired ch = false)
    (hq : (c.die (pdie ch)).reqs = []) : c.hardShort ch m = c.tripNow ch [1] m := by
  have hr : c.leadRun ch = .on := by
    rw [Chip.leadRun, Chip.lead_of_unpaired hp, Chip.chRun_of_not_inHold (by rw [Chip.inHold_eq hst]; rfl), hst]
  rw [Chip.hardShort, Chip.tripIf_true (by rw [hr]; rfl), Chip.trip_quiet hch hq, tripCauses_alone hm]
  rfl
/-- What the trip finds of the channel, its cause declared and its test over. -/
theorem Chip.found_declared {c : Chip} {ch : Nat} {m : Sample} (hch : ch < 192) (hst : c.chState ch = .on) (hp : c.paired ch = false)
    (hsl : isSealed ch = false) (hdp : c.flag (R.CH_PROT_STATUS ch) F.CH_PROT_STATUS_DISABLE_PENDING = false) : let d := (c.declared ch [1] m).xcAbort ch
    d.chState ch = .on ∧ d.flag (R.CH_PROT_STATUS ch) F.CH_PROT_STATUS_DISABLE_PENDING = false ∧
      d.mayRetry ch [1] = decide (c.fget (R.CH_PROT_STATUS ch) F.CH_PROT_STATUS_RETRY_NUM < c.fget (R.CH_PROT_CFG ch) F.CH_PROT_CFG_RETRY_MAX) := by
  have hf (o : Nat) (f : Fld) (hf : f.lo + f.w ≤ 32) (ho : (o < 0x44 ∨ 0xB0 ≤ o) ∧ o < 0x100) :
      ((c.declared ch [1] m).xcAbort ch).fget (chBase ch + o) f = c.fget (chBase ch + o) f :=
    Chip.fget_declared_xc hch hp (by decide) m f hf ho
  intro d
  refine ⟨(congrArg ChState.ofCode (hf 0x1C _ (by decide) (by decide))).trans hst, ?_, ?_⟩
  · rw [Chip.flag, R.CH_PROT_STATUS, hf 0x3C _ (by decide) (by decide)]
    exact hdp
  · rw [Chip.mayRetry, hsl, R.CH_PROT_STATUS, R.CH_PROT_CFG, hf 0x3C _ (by decide) (by decide), hf 0x30 _ (by decide) (by decide)]
    rfl

/-- Settles O15: the trip's record, then the cooling down or the latching off of the channel, which nothing later undoes. -/
theorem tripCoolsDownOrLatchesOff : Obligations.TripCoolsDownOrLatchesOff := by
  unfold Obligations.TripCoolsDownOrLatchesOff
  refine ⟨?_, ?_⟩
  case refine_1 =>
    intro ch m s hm hb hst hp hsl _ hdp hq hr
    obtain ⟨hst', hdp', hr'⟩ := Chip.found_declared (m := m) ch.isLt hst hp hsl hdp
    obtain ⟨h₁, h₂⟩ := Chip.afterTrip_cools ch.isLt hst' hdp' (shown := 1) (by decide) (hr'.trans (decide_eq_true hr))
    have he := Chip.tripNow_alone hp hb [1]
    have hrec (o : Nat) (f : Fld) (hf : f.lo + f.w ≤ 32) (ho : 0x44 ≤ o ∧ o < 0x54) := Chip.record_tripNow ch.isLt hp [1] m f hf ho
    refine ⟨s.chip.tripNow ch [1] m, State.next_chip (Chip.hardShort_alone ch.isLt hm hst hp hq),
      (congrArg ChState.ofCode (he.fget_chan _ ch.isLt (by decide) (by decide : 0x1C < 0x100))).trans h₁, (he.fget_chan _ ch.isLt (by decide) (by decide : 0x1C < 0x100)).trans h₂,
      (hrec 0x44 _ (by decide) (by decide)).trans (s.chip.rec0_cause ch 1 m), (hrec 0x44 _ (by decide) (by decide)).trans (s.chip.rec0_seq ch 1 m),
      (hrec 0x44 _ (by decide) (by decide)).trans ?_, (hrec 0x48 _ (by decide) (by decide)).trans (s.chip.rec1_trip ch 1 m)⟩
    refine (s.chip.rec0_prior ch 1 m).trans ?_
    rw [Chip.lead_of_unpaired hp, Chip.chRun_of_not_inHold (by rw [Chip.inHold_eq hst]; rfl), hst]
    rfl
  case refine_2 =>
    intro ch m s hm hb hst hp hsl _ hdp hq hr
    obtain ⟨hst', hdp', hr'⟩ := Chip.found_declared (m := m) ch.isLt hst hp hsl hdp
    obtain ⟨h₁, h₂, h₃, h₄, h₅⟩ := Chip.afterTrip_latches ch.isLt hst' hdp' (shown := 1) (by decide) (hr'.trans (decide_eq_false (not_lt.2 hr)))
    have he := Chip.tripNow_alone hp hb [1]
    refine ⟨s.chip.tripNow ch [1] m, State.next_chip (Chip.hardShort_alone ch.isLt hm hst hp hq),
      (congrArg ChState.ofCode (he.fget_chan _ ch.isLt (by decide) (by decide : 0x1C < 0x100))).trans h₁, (he.fget_chan _ ch.isLt (by decide) (by decide : 0x1C < 0x100)).trans h₂,
      (he.fget_chan _ ch.isLt (by decide) (by decide : 0x10 < 0x100)).trans h₃, (he.fget_chan _ ch.isLt (by decide) (by decide : 0 < 0x100)).trans h₄, ?_⟩
    rw [Chip.chan, he.chans]
    exact h₅

end Sys2Proof.Machine
end

section
/-! PROOF. Grants in order never book a power die beyond its budget (R106 to R110). -/

namespace Sys2Proof.Machine
open Sys2Proof

/-! ### Sums of bookings -/

/-- A list in which one place at most gains e. -/
theorem sum_map_le {f g : Nat → Nat} {i e : Nat} : ∀ {xs : List Nat}, xs.Nodup → (i ∈ xs → g i ≤ f i + e) → (∀ l ∈ xs, l ≠ i → g l = f l) →
    (xs.map g).sum ≤ (xs.map f).sum + e
  | [], _, _, _ => by simp
  | x :: xs, h, hi, hn => by
    obtain ⟨hx, h⟩ := List.nodup_cons.1 h
    rw [List.map_cons, List.map_cons, List.sum_cons, List.sum_cons]
    by_cases hxi : x = i
    · subst hxi
      rw [show xs.map g = xs.map f from List.map_congr_left fun l hl => hn l (List.mem_cons_of_mem _ hl) fun he => hx (he ▸ hl)]
      have := hi List.mem_cons_self
      omega
    · have := sum_map_le h (fun hm => hi (List.mem_cons_of_mem _ hm)) fun l hl => hn l (List.mem_cons_of_mem _ hl)
      have := hn x List.mem_cons_self hxi
      omega

/-! ### The profile of a started channel -/

/-- Every channel has the same segments left to run. -/
def SameSegs (c c' : Chip) : Prop := ∀ k, (c'.chan k).segs = (c.chan k).segs

namespace SameSegs

variable {c c' c'' : Chip}

theorem refl (c : Chip) : SameSegs c c := fun _ => rfl
theorem trans (h : SameSegs c c') (h' : SameSegs c' c'') : SameSegs c c'' := fun k => (h' k).trans (h k)
theorem ite {p : Prop} [Decidable p] (h : p → SameSegs c c') (h' : ¬ p → SameSegs c c'') : SameSegs c (if p then c' else c'') := by
  split
  case isTrue hp => exact h hp
  case isFalse hp => exact h' hp
theorem of_chans (h : c'.chans = c.chans) : SameSegs c c' := fun k => by rw [Chip.chan, h]; rfl
theorem setChan (c : Chip) {ch : Nat} {x : ChanX} (h : x.segs = (c.chan ch).segs) : SameSegs c (c.setChan ch x) := by
  intro k
  by_cases hk : k = ch
  · subst hk
    rwa [Chip.chan_setChan_self]
  · rw [Chip.chan_setChan_ne _ _ hk]
theorem fset (c : Chip) (a : Nat) (f : Fld) (v : Nat) : SameSegs c (c.fset a f v) := of_chans (Chip.chans_fset _ _ _ _)
theorem fbit (c : Chip) (a : Nat) (f : Fld) (b : Bool) : SameSegs c (c.fbit a f b) := of_chans (Chip.chans_fbit _ _ _ _)
theorem bump (c : Chip) (a n : Nat) : SameSegs c (c.bump a n) := of_chans (Chip.chans_bump _ _ _)
theorem setChState (c : Chip) (ch : Nat) (x : ChState) : SameSegs c (c.setChState ch x) := by
  have h : SameSegs c (c.setChan ch { c.chan ch with cycle := 0 }) := setChan c rfl
  have h' : SameSegs c (if c.chState ch = x then c else c.setChan ch { c.chan ch with cycle := 0 }) := ite (fun _ => refl c) fun _ => h
  exact h'.trans (fset _ _ _ _)
theorem setChRun (c : Chip) (ch : Nat) (x : ChState) : SameSegs c (c.setChRun ch x) := ite (fun _ => fset c _ _ _) fun _ => setChState c ch x
theorem newPeriod (c : Chip) (ch d : Nat) : SameSegs c (c.newPeriod ch d) := by
  unfold Chip.newPeriod
  extract_lets on
  have h : SameSegs c (c.setChan ch { c.chan ch with onTicks := on, delay := d, cycle := 0 }) := setChan c rfl
  exact h.trans (fbit _ _ _ _)
theorem updateHk (c : Chip) (n l : Nat) : SameSegs c (c.updateHk n l) := of_chans (Chip.chans_updateHk c n l)
theorem tdrPause (c : Chip) (n : Nat) : SameSegs c (c.tdrPause n) := ite (fun _ => (fset c _ _ _).trans (updateHk _ _ _)) fun _ => refl c
theorem lidStart (c : Chip) (ch m : Nat) : SameSegs c (c.lidStart ch m) := by
  unfold Chip.lidStart
  extract_lets n src d
  have hd : SameSegs c d := setChan c rfl
  refine ite (fun _ => ite (fun _ => (fset c _ _ _).trans (bump _ _ _)) fun _ => hd.trans ?_) fun _ => refl c
  generalize d = e
  exact (fset e _ _ _).trans <| (fset _ _ _ _).trans <| (updateHk _ _ _).trans <| (tdrPause _ _).trans (of_chans (Chip.chans_startCmds _ _))
theorem runStart (c : Chip) (ch : Nat) : SameSegs c (c.runStart ch) := by
  have h₁ (p : Prop) [Decidable p] : SameSegs c (if p then c.newPeriod ch (c.phaseDelay ch) else c) := ite (fun _ => newPeriod c _ _) fun _ => refl c
  have h₂ (d : Chip) (p : Prop) [Decidable p] : SameSegs d (if p then d.fset (R.CH_PROT_STATUS ch) F.CH_PROT_STATUS_BYPASS_ON 0 else d) :=
    ite (fun _ => fset d _ _ _) fun _ => refl d
  exact (h₁ _).trans <| (h₂ _ _).trans <| (lidStart _ _ _).trans (ite (fun _ => of_chans (Chip.chans_setSealX _ _ _)) fun _ => refl _)
end SameSegs

/-- R109: a granted start runs its profile's segments; no other channel's change. -/
theorem Chip.segs_grant (c : Chip) (ch k : Nat) :
    ((c.grant ch).chan k).segs = if k = ch then c.profileSegs (pdie ch) (c.startProfile ch) else (c.chan k).segs := by
  have hr : ((c.readied ch).chan k).segs = if k = ch then c.profileSegs (pdie ch) (c.startProfile ch) else (c.chan k).segs := by
    unfold Chip.readied
    extract_lets n p fb retry src x d
    have hd : (d.chan k).segs = if k = ch then x.segs else (c.chan k).segs := by
      change (((c.setReqs n (dropReq ch (c.die n).reqs)).setChan ch x).chan k).segs = _
      by_cases hk : k = ch
      · rw [if_pos hk, hk, Chip.chan_setChan_self]
      · rw [if_neg hk, Chip.chan_setChan_ne _ _ hk]
        rfl
    have he : SameSegs d (if retry then d.fbump (R.CH_PROT_STATUS ch) F.CH_PROT_STATUS_RETRY_NUM else d) :=
      .ite (fun _ => .of_chans (Chip.chans_fbump _ _ _)) fun _ => .refl d
    exact ((he.trans (.fset _ _ _ _)).trans (.fset _ _ _ _) |>.trans (.fbit _ _ _ _) |>.trans (.bump _ _ _) <| k).trans hd
  rw [Chip.grant_eq, SameSegs.runStart _ ch k, SameSegs.setChRun _ ch _ k, hr]

end Sys2Proof.Machine
end

section
/-! PROOF. Grants in order never book a power die beyond its budget: the statement (R106 to R110). -/

namespace Sys2Proof.Machine
open Sys2Proof

/-! ### What a booking is read from -/

/-- Every die's pairs are as they were. -/
def PairsKept (c c' : Chip) : Prop := ∀ a, a % 0x80000 = 0x40200 → c'.rd a = c.rd a

namespace PairsKept

variable {c c' c'' : Chip}

theorem of_regs (h : c'.regs = c.regs) : PairsKept c c' := fun a _ => by rw [Chip.rd, Chip.rd, h]
theorem refl (c : Chip) : PairsKept c c := fun _ _ => rfl
theorem trans (h : PairsKept c c') (h' : PairsKept c' c'') : PairsKept c c'' := fun a ha => (h' a ha).trans (h a ha)
theorem ite {p : Prop} [Decidable p] (h : p → PairsKept c c') (h' : ¬ p → PairsKept c c'') : PairsKept c (if p then c' else c'') := by
  split
  case isTrue hp => exact h hp
  case isFalse hp => exact h' hp
theorem wr (c : Chip) {a : Nat} (x : Word) (h : a % 0x80000 ≠ 0x40200) : PairsKept c (c.wr a x) := fun _ hb => Chip.rd_wr_ne c x fun he => h (he ▸ hb)
theorem chanReg (c : Chip) (ch o : Nat) (x : Word) (ho : o < 0x100) : PairsKept c (c.wr (chBase ch + o) x) :=
  wr c x (by simp only [chBase]; omega)
theorem setChan (c : Chip) (ch : Nat) (x : ChanX) : PairsKept c (c.setChan ch x) := of_regs rfl
theorem setDie (c : Chip) (n : Nat) (x : DieX) : PairsKept c (c.setDie n x) := of_regs rfl
theorem setChState (c : Chip) (ch : Nat) (x : ChState) : PairsKept c (c.setChState ch x) :=
  (ite (fun _ => refl c) fun _ => setChan c ch _).trans (chanReg _ ch 0x1C _ (by decide))
theorem setChRun (c : Chip) (ch : Nat) (x : ChState) : PairsKept c (c.setChRun ch x) :=
  ite (fun _ => chanReg c ch 0x3C _ (by decide)) fun _ => setChState c ch x
theorem newPeriod (c : Chip) (ch d : Nat) : PairsKept c (c.newPeriod ch d) := (setChan c ch _).trans (chanReg _ ch 0x1C _ (by decide))
theorem updateHk (c : Chip) (n l : Nat) : PairsKept c (c.updateHk n l) := by
  have h (d : Chip) (x : Word) : PairsKept d (d.wr (R.PWR_HK_STATUS n) x) := wr d x (by simp only [R.PWR_HK_STATUS]; omega)
  exact ((h c _).trans (h _ _)).trans (h _ _)
theorem tdrPause (c : Chip) (n : Nat) : PairsKept c (c.tdrPause n) :=
  ite (fun _ => (wr c _ (by simp only [R.PWR_TDR_STATUS]; omega)).trans (updateHk _ _ _)) fun _ => refl c
theorem startCmds (c : Chip) (p : Cmd → Bool) : PairsKept c (c.startCmds p) := of_regs rfl
theorem lidStart (c : Chip) (ch m : Nat) : PairsKept c (c.lidStart ch m) := by
  refine ite (fun _ => ite (fun _ => (chanReg c ch 0xD0 _ (by decide)).trans (wr _ _ (by simp only [R.PWR_LID_SKIP_CNT]; omega))) fun _ => ?_) fun _ => refl c
  exact (setChan c ch _).trans <| (chanReg _ ch 0xD0 _ (by decide)).trans <| (chanReg _ ch 0xD0 _ (by decide)).trans <| (updateHk _ _ _).trans <|
    (tdrPause _ _).trans (startCmds _ _)
theorem sealDrive (c : Chip) (ch : Nat) : PairsKept c (c.sealDrive ch) := ite (fun _ => of_regs rfl) fun _ => refl c
theorem readied (c : Chip) (ch : Nat) : PairsKept c (c.readied ch) := by
  have hr (d : Chip) (p : Prop) [Decidable p] : PairsKept d (if p then d.fbump (R.CH_PROT_STATUS ch) F.CH_PROT_STATUS_RETRY_NUM else d) :=
    ite (fun _ => chanReg d ch 0x3C _ (by decide)) fun _ => refl d
  exact (setDie c _ _).trans <| (setChan _ ch _).trans <| (hr _ _).trans <| (chanReg _ ch 0x1C _ (by decide)).trans <|
    (chanReg _ ch 0x1C _ (by decide)).trans <| (chanReg _ ch 0x1C _ (by decide)).trans (chanReg _ ch 0x24 _ (by decide))
theorem runStart (c : Chip) (ch : Nat) : PairsKept c (c.runStart ch) := by
  have h₁ (p : Prop) [Decidable p] : PairsKept c (if p then c.newPeriod ch (c.phaseDelay ch) else c) := ite (fun _ => newPeriod c _ _) fun _ => refl c
  have h₂ (d : Chip) (p : Prop) [Decidable p] : PairsKept d (if p then d.fset (R.CH_PROT_STATUS ch) F.CH_PROT_STATUS_BYPASS_ON 0 else d) :=
    ite (fun _ => chanReg d ch 0x3C _ (by decide)) fun _ => refl d
  exact (h₁ _).trans <| (h₂ _ _).trans <| (lidStart _ _ _).trans (sealDrive _ _)
theorem grant (c : Chip) (ch : Nat) : PairsKept c (c.grant ch) := ((readied c ch).trans (setChRun _ _ _)).trans (runStart _ ch)
theorem xcGrant (c : Chip) (n src : Nat) : PairsKept c (c.xcGrant n src) :=
  (((of_regs rfl : PairsKept c c.draw.2).trans (setDie _ _ _)).trans (wr _ _ (by simp only [R.PWR_XC_WATCH0]; omega))).trans
    (wr _ _ (by simp only [R.PWR_XC_WATCH1]; omega))

theorem paired (h : PairsKept c c') (k : Nat) : c'.paired k = c.paired k := by
  rw [Chip.paired, Chip.paired, Chip.fget, Chip.fget, h _ (by simp only [R.PWR_PAIR]; omega)]
theorem ceiling (h : PairsKept c c') (k : Nat) : c'.ceiling k = c.ceiling k := by rw [Chip.ceiling, Chip.ceiling, h.paired]
theorem oddMember (h : PairsKept c c') (k : Nat) : c'.oddMember k = c.oddMember k := by rw [Chip.oddMember, Chip.oddMember, h.paired]
/-- A die's pulse books what it did while it is the die's test. -/
theorem xcBooking (h : PairsKept c c') {n : Nat} (hx : (c'.die n).xc = (c.die n).xc) : c'.xcBooking n = c.xcBooking n := by
  have hp (k : Nat) : c'.pulseBook k = c.pulseBook k := congrArg (· / 10) (h.ceiling k)
  simp only [Chip.xcBooking, hx, hp]
end PairsKept

/-- Grants leave every budget and every valve as it was. -/
theorem SchedWrites.not_budget (n : Nat) (g : Fld) : ¬ SchedWrites (R.IS_BUDGET n, g) := by
  rintro (⟨j, h⟩ | ⟨m, h | h⟩)
  · have h := mem_startFields (lo := g.lo) (w := g.w) h
    simp only [R.IS_BUDGET, chBase] at h
    omega
  all_goals
    have h := congrArg Prod.fst h
    simp only [R.IS_BUDGET, R.PWR_XC_WATCH0, R.PWR_XC_WATCH1] at h
    omega

theorem Spares.valveBooking {c c' : Chip} (h : Spares SchedWrites c c') {n : Nat} (hn : n < 4) : c'.valveBooking n = c.valveBooking n := by
  have hv (v : Nat) (hv : v < 16) : c'.feedPeak v = c.feedPeak v := by
    have hr (o : Nat) (ho : o < 0x40) : c'.rd (vlvBase v + o) = c.rd (vlvBase v + o) :=
      h.rd (by simp only [vlvBase, vgBase]; omega) (by simp only [vlvBase, vgBase]; omega) fun g => SchedWrites.not_valve ho
    rw [Chip.feedPeak, Chip.feedPeak, Chip.flag, Chip.flag, Chip.fget, Chip.fget, Chip.fget, Chip.fget, R.VLV_STATUS, R.VLV_PEAK, hr _ (by decide)]
    have hp := hr 0 (by decide)
    rw [Nat.add_zero] at hp
    rw [hp]
  refine congrArg List.sum (List.map_congr_left fun j hj => hv _ ?_)
  have := List.mem_range.1 hj
  omega

/-- A channel's booking stands while its running state and its segments do. -/
theorem Chip.booking_of_run {c c' : Chip} {k : Nat} (hc : c'.ceiling k = c.ceiling k) (ho : c'.oddMember k = c.oddMember k) (hr : c'.chRun k = c.chRun k)
    (hs : (c'.chan k).segs = (c.chan k).segs) : c'.booking k = c.booking k := by
  rw [Chip.booking, Chip.booking, hc, ho, hr, hs]

/-! ### What a grant books -/

theorem Chip.booking_grant_ne (c : Chip) {ch k : Nat} (hk : k < 192) (hne : k ≠ ch) : (c.grant ch).booking k = c.booking k := by
  have hg : Spares (· ∈ startFields ch) c (c.grant ch) := .grant c ch
  have hs : Spares SchedWrites c (c.grant ch) := hg.mono fun p hp => .inl ⟨ch, hp⟩
  refine Chip.booking_of_run ((PairsKept.grant c ch).ceiling k) ((PairsKept.grant c ch).oddMember k) (hg.run hk (fun g h => ?_) fun g h => ?_) ?_
  · have h := mem_startFields (lo := g.lo) (w := g.w) h
    simp only [R.CH_STATUS, chBase] at h
    omega
  · have h := mem_startFields (lo := g.lo) (w := g.w) h
    simp only [R.CH_PROT_STATUS, chBase] at h
    omega
  · rw [Chip.segs_grant, if_neg hne]
/-- R106: a start books no more than it asked for. -/
theorem Chip.booking_grant_self (c : Chip) (ch : Nat) : (c.grant ch).booking ch ≤ c.wouldBook ch := by
  unfold Chip.booking
  split
  · rw [(PairsKept.grant c ch).ceiling ch, Chip.segs_grant, if_pos rfl]
    exact le_rfl
  · exact Nat.zero_le _
theorem Chip.xc_grant (c : Chip) (ch n : Nat) : ((c.grant ch).die n).xc = (c.die n).xc := by
  rw [Chip.die, Chip.grant_eq, Chip.dies_runStart, Chip.dies_setChRun, Chip.dies_readied]
  change ((c.setDie (pdie ch) { c.die (pdie ch) with reqs := dropReq ch (c.die (pdie ch)).reqs }).die n).xc = _
  by_cases h : n = pdie ch
  · rw [h, Chip.die_setDie_self]
  · rw [Chip.die_setDie_ne _ _ h]

/-- The bookings of a die's channels. -/
def Chip.chanBookings (c : Chip) (n : Nat) : Nat := ((List.range 48).map fun l => c.booking (48 * n + l)).sum
theorem Chip.booked_eq (c : Chip) (n : Nat) : c.booked n = c.chanBookings n + c.xcBooking n + c.valveBooking n := rfl

theorem Chip.chanBookings_grant (c : Chip) (ch : Nat) {n : Nat} (hn : n < 4) : (c.grant ch).chanBookings n ≤ c.chanBookings n + c.wouldBook ch := by
  refine sum_map_le (i := ch - 48 * n) List.nodup_range (fun hi => ?_) fun l hl hne => ?_
  · have := List.mem_range.1 hi
    by_cases he : 48 * n + (ch - 48 * n) = ch
    · rw [he]
      exact (c.booking_grant_self ch).trans (Nat.le_add_left _ _)
    · rw [Chip.booking_grant_ne c (by omega) he]
      exact Nat.le_add_right _ _
  · have := List.mem_range.1 hl
    exact Chip.booking_grant_ne c (by omega) (by omega)

theorem Chip.booked_grant (c : Chip) (ch : Nat) {n : Nat} (hn : n < 4) : (c.grant ch).booked n ≤ c.booked n + c.wouldBook ch := by
  have hs : Spares SchedWrites c (c.grant ch) := (Spares.grant c ch).mono fun p hp => .inl ⟨ch, hp⟩
  have := c.chanBookings_grant ch hn
  rw [Chip.booked_eq, Chip.booked_eq, hs.valveBooking hn, (PairsKept.grant c ch).xcBooking (c.xc_grant ch n)]
  omega

/-! ### What a pulse books -/

theorem Chip.chans_xcGrant (c : Chip) (n src : Nat) : (c.xcGrant n src).chans = c.chans := (Chip.chans_wr _ _ _).trans (Chip.chans_wr _ _ _)
theorem Chip.xc_xcGrant (c : Chip) (n src m : Nat) : ((c.xcGrant n src).die m).xc = if m = n then some (src, true) else (c.die m).xc := by
  have hd : (c.xcGrant n src).dies = (c.draw.2.setDie n { c.draw.2.die n with xc := some (src, true), reqs := (c.draw.2.die n).reqs.filter fun r => !r.pulse }).dies :=
    (Chip.dies_wr _ _ _).trans (Chip.dies_wr _ _ _)
  rw [Chip.die, hd]
  change ((c.draw.2.setDie n _).die m).xc = _
  by_cases h : m = n
  · rw [if_pos h, h, Chip.die_setDie_self]
  · rw [if_neg h, Chip.die_setDie_ne _ _ h]
    rfl
theorem Chip.booked_xcGrant (c : Chip) (ch : Nat) {n : Nat} (hn : n < 4) :
    (c.xcGrant (pdie ch) (ch % 48)).booked n ≤ c.booked n + c.pulseBook ch := by
  have hs : Spares SchedWrites c (c.xcGrant (pdie ch) (ch % 48)) := .xcGrant c _ _
  have hp : PairsKept c (c.xcGrant (pdie ch) (ch % 48)) := .xcGrant c _ _
  have hb : (c.xcGrant (pdie ch) (ch % 48)).chanBookings n = c.chanBookings n := by
    refine congrArg List.sum (List.map_congr_left fun l hl => ?_)
    have hl := List.mem_range.1 hl
    have hx (k : Nat) (g : Fld) (o : Nat) (ho : o < 0x100) :
        ¬ ∃ m, ((chBase k + o, g) : Nat × Fld) = (R.PWR_XC_WATCH0 m, wholeFld) ∨ ((chBase k + o, g) : Nat × Fld) = (R.PWR_XC_WATCH1 m, wholeFld) := by
      rintro ⟨m, h | h⟩
      all_goals
        have h := congrArg Prod.fst h
        simp only [R.PWR_XC_WATCH0, R.PWR_XC_WATCH1, chBase] at h
        omega
    have hw : Spares (fun p => ∃ m, p = (R.PWR_XC_WATCH0 m, wholeFld) ∨ p = (R.PWR_XC_WATCH1 m, wholeFld)) c (c.xcGrant (pdie ch) (ch % 48)) :=
      (((Spares.of_regs rfl : Spares _ c c.draw.2).trans (.setDie _ _ _)).trans (.wr _ _ ⟨_, .inl rfl⟩)).trans (.wr _ _ ⟨_, .inr rfl⟩)
    refine Chip.booking_of_run (hp.ceiling _) (hp.oddMember _) (hw.run (by omega) (fun g h => absurd h (hx _ g 0x1C (by decide)))
      fun g h => absurd h (hx _ g 0x3C (by decide))) ?_
    rw [Chip.chan, Chip.chans_xcGrant]
    rfl
  rw [Chip.booked_eq, Chip.booked_eq, hs.valveBooking hn, hb]
  by_cases h : n = pdie ch
  · have hx : (c.xcGrant (pdie ch) (ch % 48)).xcBooking n = c.pulseBook ch := by
      have hxc := c.xc_xcGrant (pdie ch) (ch % 48) n
      rw [if_pos h] at hxc
      have he : 48 * n + ch % 48 = ch := by rw [h, pdie]; omega
      rw [Chip.xcBooking, hxc]
      exact (congrArg (Chip.pulseBook _) he).trans (congrArg (· / 10) (hp.ceiling ch))
    omega
  · rw [hp.xcBooking ((c.xc_xcGrant _ _ n).trans (if_neg h))]
    omega

/-! ### The statement -/

theorem Chip.booked_grantReq (c : Chip) (r : StartReq) {n : Nat} (hn : n < 4) :
    (c.grantReq r).booked n ≤ c.booked n + if r.pulse then c.pulseBook r.ch else c.wouldBook r.ch := by
  unfold Chip.grantReq
  split
  · exact c.booked_xcGrant r.ch hn
  · exact c.booked_grant r.ch hn
theorem Spares.budget {c c' : Chip} (h : Spares SchedWrites c c') {n : Nat} (hn : n < 4) : c'.rd (R.IS_BUDGET n) = c.rd (R.IS_BUDGET n) :=
  h.rd (by simp only [R.IS_BUDGET]; omega) (by simp only [R.IS_BUDGET]; omega) (SchedWrites.not_budget n)

/-- R106: the die's bookings stay within its budget. -/
def Chip.withinBudget (c : Chip) (n : Nat) : Prop := c.booked n ≤ 100 * c.fget (R.IS_BUDGET n) F.IS_BUDGET_BUDGET

theorem Chip.withinBudget_grantReq {c : Chip} {n : Nat} {r : StartReq} (hn : n < 4) (h : c.fits n r = true) : (c.grantReq r).withinBudget n := by
  have hb : c.booked n + (if r.pulse then c.pulseBook r.ch else c.wouldBook r.ch) ≤ 100 * c.fget (R.IS_BUDGET n) F.IS_BUDGET_BUDGET :=
    of_decide_eq_true (Bool.and_eq_true_iff.1 h).2
  rw [Chip.withinBudget, Chip.fget, (Spares.grantReq c r).budget hn]
  exact (c.booked_grantReq r hn).trans hb
theorem Chip.withinBudget_grantInOrder {n : Nat} (hn : n < 4) (k : Nat) {c : Chip} (h : c.withinBudget n) :
    (Chip.grantInOrder n k c).withinBudget n := by
  induction k generalizing c with
  | zero => rwa [Chip.grantInOrder]
  | succ k ih =>
    rw [Chip.grantInOrder]
    split
    · exact h
    · split
      case isTrue hf => exact ih (Chip.withinBudget_grantReq hn hf)
      case isFalse => exact h

/-- Settles O13, by induction on the grants of a re-examination: each books at most what its request was found to fit with. -/
theorem schedulerKeepsTheBudget : Obligations.SchedulerKeepsTheBudget := by
  unfold Obligations.SchedulerKeepsTheBudget
  intro n s t h ht
  obtain rfl : s.onChip (·.reexamine n) = t := Host.Outcome.next.inj ht
  exact ⟨Chip.withinBudget_grantInOrder n.isLt _ h, (Spares.reexamine s.chip n).budget n.isLt⟩

end Sys2Proof.Machine
end

section
/-! SUPPORT. The decoder at a channel's registers (R70). -/

namespace Sys2Proof.Machine
open Sys2Proof

/-- The index levels of a channel's register: its die, and the channel there. -/
def chanReps : List (Nat × Nat × Nat) := [(4, 0x80000, 0), (48, 0x100, 0)]

/-- The descriptor of the channel register at offset o, in a list in which only channel registers and plain die registers stand before it. -/
def chanDesc (o : Nat) : List RegDesc → Option RegDesc
  | [] => none
  | d :: l =>
    if d.reps = chanReps ∧ d.base = 0x40200000 + o then some d
    else if d.reps = chanReps ∧ 0x40200000 ≤ d.base ∧ d.base < 0x40200100 ∨ d.reps = [(4, 0x80000, 0)] ∧ 0x40240000 ≤ d.base ∧ d.base < 0x40280000
      then chanDesc o l else none

theorem repIndex_chan {ch : Nat} (o : Nat) (hch : ch < 192) : repIndex chanReps (chBase ch + o - (0x40200000 + o)) = some [ch / 48, ch % 48] := by
  have h : chBase ch + o - (0x40200000 + o) = ch / 48 * 0x80000 + ch % 48 * 0x100 := by
    simp only [chBase]
    omega
  have h₁ : (ch / 48 * 0x80000 + ch % 48 * 0x100) / 0x80000 = ch / 48 := by omega
  have h₂ : (ch / 48 * 0x80000 + ch % 48 * 0x100) % 0x80000 = ch % 48 * 0x100 := by omega
  have h₃ : ch % 48 * 0x100 / 0x100 = ch % 48 := Nat.mul_div_cancel _ (by decide)
  have h₄ : ch % 48 * 0x100 % 0x100 = 0 := Nat.mul_mod_left _ _
  rw [h, chanReps, repIndex, h₁, h₂, if_pos (by omega), repIndex, h₃, h₄, if_pos (by omega), repIndex, if_pos rfl]
  simp
theorem repIndex_chan_ne {ch o b : Nat} (ho : o < 0x100) (hb : 0x40200000 ≤ b) (hb' : b < 0x40200100) (hne : b ≠ 0x40200000 + o) (hle : b ≤ chBase ch + o) :
    repIndex chanReps (chBase ch + o - b) = none := by
  have h : (chBase ch + o - b) % 0x80000 % 0x100 ≠ 0 := by
    simp only [chBase] at hle ⊢
    omega
  rw [chanReps, repIndex, repIndex, repIndex, if_neg h]
  split
  · split <;> rfl
  · rfl
theorem repIndex_die_ne {ch o b : Nat} (ho : o < 0x100) (hb : 0x40240000 ≤ b) (hb' : b < 0x40280000) (hle : b ≤ chBase ch + o) :
    repIndex [(4, 0x80000, 0)] (chBase ch + o - b) = none := by
  have h : (chBase ch + o - b) % 0x80000 ≠ 0 := by
    simp only [chBase] at hle ⊢
    omega
  rw [repIndex, repIndex, if_neg h]
  split <;> rfl

section
variable {ch o : Nat} (hch : ch < 192) (ho : o < 0x100)
include hch ho

theorem findIn_chan {d : RegDesc} {l : List RegDesc} (h : chanDesc o l = some d) : findIn l (chBase ch + o) = some (d, [ch / 48, ch % 48]) := by
  induction l with
  | nil => cases h
  | cons e l ih =>
    rw [chanDesc] at h
    split at h
    case isTrue he =>
      obtain ⟨hr, hb⟩ := he
      cases h
      refine findIn_cons (by rw [hb]; simp only [chBase]; omega) ?_
      rw [hr, hb]
      exact repIndex_chan o hch
    case isFalse he =>
      split at h
      case isFalse => cases h
      case isTrue hs =>
        rw [findIn]
        split
        case isFalse => exact ih h
        case isTrue hle =>
          have hn : repIndex e.reps (chBase ch + o - e.base) = none := by
            obtain ⟨hr, hb, hb'⟩ | ⟨hr, hb, hb'⟩ := hs
            · rw [hr]
              exact repIndex_chan_ne ho hb hb' (fun hbo => he ⟨hr, hbo⟩) hle
            · rw [hr]
              exact repIndex_die_ne ho hb hb' hle
          rw [hn]
          exact ih h

theorem findReg_chan {d : RegDesc} (h : chanDesc o pwrRegs = some d) : findReg (chBase ch + o) = some (d, [ch / 48, ch % 48]) := by
  have hlo := chReg_lo ch o
  have hhi := chReg_hi hch ho
  have hb : blockDescs regBlocks (chBase ch + o) = pwrRegs := by
    simp only [regBlocks, blockDescs]
    repeat rw [if_neg (by omega)]
    rw [if_pos (by omega)]
  rw [findReg, hb]
  exact findIn_chan hch ho h
theorem dieOf_chan : dieOf (chBase ch + o) = pdie ch + 2 := by
  have hlo := chReg_lo ch o
  have hhi := chReg_hi hch ho
  unfold dieOf
  rw [if_neg (by omega), if_pos (by omega)]
  simp only [chBase, pdie]
  omega
theorem isAlias_chan : isAlias (chBase ch + o) = false := by
  have hhi := chReg_hi hch ho
  rw [isAlias, decide_eq_false (by omega), Bool.false_and]
end
end Sys2Proof.Machine
end

section
/-! SUPPORT. What a feed fault, a disable and an expired hold leave of the channels of a die (R149 to R157). -/

namespace Sys2Proof.Machine
open Sys2Proof

/-! ### Running states -/

theorem Chip.chRun_setChRun (c : Chip) (ch : Nat) {x : ChState} (hx : x ≠ .held ∧ x ≠ .limp) : (c.setChRun ch x).chRun ch = x := by
  unfold Chip.setChRun
  split
  case isTrue h =>
    have hs : (c.setHoldSub ch x).chState ch = c.chState ch :=
      congrArg ChState.ofCode (Chip.fget_fset_ne _ _ _ _ (by simp only [R.CH_STATUS, R.CH_PROT_STATUS]; omega))
    have hh : (c.setHoldSub ch x).holdSub ch = x := by
      rw [Chip.holdSub, Chip.setHoldSub, Chip.fget_fset_self _ _ _ _ (by decide)]
      exact (congrArg ChState.ofCode (Nat.mod_eq_of_lt (ChState.code_lt x))).trans (ChState.ofCode_code x)
    rw [Chip.chRun, if_pos (by rw [Chip.inHold, hs]; exact h), hh]
  case isFalse h =>
    have hi : (c.setChState ch x).inHold ch = false := by
      rw [Chip.inHold_eq (Chip.chState_setChState c ch x)]
      simp [hx]
    rw [Chip.chRun_of_not_inHold hi, Chip.chState_setChState]

/-- A field of CH_STATUS beside the state. -/
theorem Chip.chRun_fset_status (c : Chip) {ch : Nat} (hch : ch < 192) (f : Fld) (v : Nat) (hf : Apart F.CH_STATUS_STATE f) :
    (c.fset (R.CH_STATUS ch) f v).chRun ch = c.chRun ch := by
  have hs : Spares (· = (R.CH_STATUS ch, f)) c (c.fset (R.CH_STATUS ch) f v) := .fset c v rfl
  refine hs.run hch (fun g h => ?_) fun g h => ?_
  · obtain rfl : g = f := congrArg Prod.snd h
    exact hf
  · have := congrArg Prod.fst h
    simp only [R.CH_STATUS, R.CH_PROT_STATUS] at this
    omega

/-- The end of an entry into DISABLED: its flags, and the command that waits for it. -/
def Chip.disabledShown (c : Chip) (ch : Nat) : Chip :=
  let d := c.fset (R.CH_STATUS ch) F.CH_STATUS_CAUSE 0
    |>.fset (R.CH_PROT_STATUS ch) F.CH_PROT_STATUS_DISABLE_PENDING 0 |>.fset (R.CH_PROT_STATUS ch) F.CH_PROT_STATUS_COOLING 0
  d.finish (onObj 0x14 ch) .ok [d.statusOf ch]
theorem Chip.enterDisabled_eq (c : Chip) (ch : Nat) : c.enterDisabled ch =
    ((((((c.lidDisabled ch).stopDrive ch).withdraw ch).dropPending ch).setHoldSub ch .off).setChState ch .disabled).disabledShown ch := rfl

theorem Spares.disabledShown (c : Chip) (ch : Nat) :
    Spares (fun p => p = (R.CH_STATUS ch, F.CH_STATUS_CAUSE) ∨ p.1 = R.CH_PROT_STATUS ch) c (c.disabledShown ch) :=
  (fset c 0 (.inl rfl)).trans <| (fset _ 0 (.inr rfl)).trans <| (fset _ 0 (.inr rfl)).trans (served (.finish _ _ _ _))
theorem Chip.chans_disabledShown (c : Chip) (ch : Nat) : (c.disabledShown ch).chans = c.chans := by
  have hd : (c.fset (R.CH_STATUS ch) F.CH_STATUS_CAUSE 0 |>.fset (R.CH_PROT_STATUS ch) F.CH_PROT_STATUS_DISABLE_PENDING 0 |>.fset
      (R.CH_PROT_STATUS ch) F.CH_PROT_STATUS_COOLING 0).chans = c.chans := by rw [Chip.chans_fset, Chip.chans_fset, Chip.chans_fset]
  exact (Served.finish _ _ _ _).chans.trans hd

/-- R153: the channel is DISABLED, no set pending. -/
theorem Chip.chState_enterDisabled (c : Chip) {ch : Nat} (hch : ch < 192) : (c.enterDisabled ch).chState ch = .disabled := by
  rw [Chip.enterDisabled_eq, (Spares.disabledShown _ ch).state hch ?_, Chip.chState_setChState]
  rintro g (h | h)
  · obtain rfl : g = F.CH_STATUS_CAUSE := congrArg Prod.snd h
    decide
  · simp only [R.CH_STATUS, R.CH_PROT_STATUS] at h
    omega
theorem Chip.pend_enterDisabled (c : Chip) (ch : Nat) : ((c.enterDisabled ch).chan ch).pend = none := by
  rw [Chip.enterDisabled_eq, Chip.chan, Chip.chans_disabledShown]
  refine (Chip.pend_setChState _ ch _).trans ?_
  rw [Chip.chan, Chip.setHoldSub, Chip.chans_fset]
  exact Chip.pend_dropPending _ ch

/-- R138: a trip that leaves a retry, or meets a disable that waits, ends with the channel off. -/
theorem Chip.afterTrip_idle (c : Chip) {ch : Nat} (hch : ch < 192) {ks : List Nat} (shown : Nat) (hr : c.mayRetry ch ks = true) :
    ((c.afterTrip ch ks shown).chRun ch).driven = false := by
  unfold Chip.afterTrip
  extract_lets retry x d
  split
  · rw [Chip.chRun_of_not_inHold (by rw [Chip.inHold_eq (Chip.chState_enterDisabled d hch)]; rfl), Chip.chState_enterDisabled d hch]
    rfl
  · rw [Chip.chRun_fset_status _ hch _ _ (by decide), Chip.chRun_setChRun _ _ (by decide)]
    rfl

/-! ### The trips of a feed fault (R149, R150) -/

/-- What a trip found by channel ch writes, of which channel l stands for the pair. -/
def TripWrites (ch l : Nat) (p : Nat × Fld) : Prop := RecordWrites ch p ∨ RecordWrites (mate ch) p ∨ AfterTrip l p

theorem Spares.tripNow (c : Chip) {ch : Nat} (hch : ch < 192) {ks : List Nat} (hk : ∀ k ∈ ks, k < 16) (m : Sample) :
    Spares (TripWrites ch (c.lead ch)) c (c.tripNow ch ks m) := by
  have h₁ : Spares (TripWrites ch (c.lead ch)) c (c.declareTrip ch ks m) := (declareTrip c hch hk m).mono fun _ => .inl
  have h₂ : Spares (TripWrites ch (c.lead ch)) c (c.declared ch ks m) :=
    ite (fun _ => h₁.trans ((declareTrip _ (mate_lt hch) (by decide) m).mono fun _ h => .inr (.inl h))) fun _ => h₁
  exact h₂.trans ((c.tripNow_tripped hch ks m).regs.mono fun _ h => .inr (.inr h))

theorem TripWrites.not_pair {ch l n : Nat} {g : Fld} : ¬ TripWrites ch l (R.PWR_PAIR n, g) := by
  rintro (⟨o, ho, hp⟩ | ⟨o, ho, hp⟩ | ⟨o, ho, ho', hp⟩ | ⟨n, o, ho, ho', hp⟩ | hp)
  · simp only [R.PWR_PAIR, chBase] at hp
    omega
  · simp only [R.PWR_PAIR, chBase] at hp
    omega
  · simp only [R.PWR_PAIR, chBase] at hp
    omega
  · simp only [R.PWR_PAIR] at hp
    omega
  · simp only [SealWrites, R.PWR_PAIR] at hp
    omega
/-- A register of a channel that stands for no member of the pair, outside its record. -/
theorem TripWrites.not_chan {ch l k o : Nat} {g : Fld} (hk : k ≠ l) (ho : o < 0x44) : ¬ TripWrites ch l (chBase k + o, g) := by
  rintro (⟨o', ho', hp⟩ | ⟨o', ho', hp⟩ | ⟨o', ho', ho'', hp⟩ | ⟨n, o', ho', ho'', hp⟩ | hp)
  · simp only [chBase] at hp
    omega
  · simp only [chBase] at hp
    omega
  · simp only [chBase] at hp
    omega
  · simp only [chBase] at hp
    omega
  · exact SealWrites.not_chan (by omega) hp

theorem Chip.oddMember_of_pair {c c' : Chip} {ch : Nat} (h : c'.rd (R.PWR_PAIR (pdie ch)) = c.rd (R.PWR_PAIR (pdie ch))) :
    c'.oddMember ch = c.oddMember ch := by
  rw [Chip.oddMember, Chip.oddMember, Chip.paired, Chip.paired, Chip.fget, Chip.fget, h]

/-- The trip of a channel that stands for its pair, outside its boundary. -/
theorem Chip.tripNow_even {c : Chip} {ch : Nat} (he : c.oddMember ch = false) {m : Sample} (hb : m.boundary = false) (ks : List Nat) :
    Beside (((c.declared ch ks m).xcAbort ch).afterTrip ch ks (ks.headD 0)) (c.tripNow ch ks m) := by
  have hoff : c.offWins ch ks m = false := by simp [Chip.offWins, hb]
  rw [Chip.tripNow_eq, Chip.lead_of_even he, hoff, if_pos rfl, Chip.turnedOff_false]
  generalize ((c.declared ch ks m).xcAbort ch).afterTrip ch ks (ks.headD 0) = d
  exact (Beside.onTrip _ _).trans <| (Beside.onChanFault _ _ _).trans (.interruptBegin _ _ _ _)

section
variable {c : Chip} {ch : Nat} {m : Sample} (hch : ch < 192)
include hch

/-- R149: a channel that a feed undervoltage trips is no longer driven. -/
theorem Chip.uvTrip_idle (he : c.oddMember ch = false) (hb : m.boundary = false) : ((c.tripNow ch [9] m).chRun ch).driven = false := by
  have hr : (((c.declared ch [9] m).xcAbort ch).mayRetry ch [9]) = true := Bool.or_true _
  rw [(Chip.tripNow_even he hb [9]).regs.run hch (fun g h => absurd h (SealWrites.not_chan (o := 0x1C) (by decide)))
    (fun g h => absurd h (SealWrites.not_chan (o := 0x3C) (by decide)))]
  exact Chip.afterTrip_idle _ hch _ hr
/-- The other channels run as they did. -/
theorem Chip.uvTrip_ne {k : Nat} (hk : k < 192) (hne : k ≠ ch) (he : c.oddMember ch = false) : (c.tripNow ch [9] m).chRun k = c.chRun k := by
  have hs := Spares.tripNow c hch (ks := [9]) (by decide) m
  rw [Chip.lead_of_even he] at hs
  exact hs.run hk (fun g h => absurd h (TripWrites.not_chan hne (o := 0x1C) (by decide))) fun g h => absurd h (TripWrites.not_chan hne (o := 0x3C) (by decide))
theorem Chip.oddMember_tripNow {k : Nat} (hk : k < 192) {ks : List Nat} (hks : ∀ k ∈ ks, k < 16) : (c.tripNow ch ks m).oddMember k = c.oddMember k :=
  Chip.oddMember_of_pair ((Spares.tripNow c hch hks m).rd (by simp only [R.PWR_PAIR]; omega) (by simp only [R.PWR_PAIR, pdie]; omega) fun _ =>
    TripWrites.not_pair)
theorem Chip.reqs_tripNow (ks : List Nat) (m : Sample) {n : Nat} (hq : (c.die n).reqs = []) : ((c.tripNow ch ks m).die n).reqs = [] := by
  refine (c.tripNow_tripped hch ks m).idle n ?_
  rw [Chip.die, Chip.dies_declared c hch]
  exact hq
end

/-- R149: once every driven channel that stands for a pair has tripped, none of them is driven. -/
theorem Chip.uvTrips_idle {n : Nat} (sample : Nat → Sample) (hs : ∀ ch, (sample ch).boundary = false) (l : List Nat) {c : Chip}
    (hl : ∀ ch ∈ l, ch < 192 ∧ c.oddMember ch = false) (hq : (c.die n).reqs = []) :
    ((l.foldl (fun c ch => c.tripNow ch [9] (sample ch)) c).die n).reqs = [] ∧
      ∀ k < 192, (c.chRun k).driven = false ∨ k ∈ l → ((l.foldl (fun c ch => c.tripNow ch [9] (sample ch)) c).chRun k).driven = false := by
  induction l generalizing c with
  | nil => exact ⟨hq, fun k _ h => h.elim id fun h => absurd h List.not_mem_nil⟩
  | cons ch l ih =>
    obtain ⟨hch, hev⟩ := hl ch List.mem_cons_self
    have hodd (k : Nat) (hk : k < 192) := Chip.oddMember_tripNow (c := c) (m := sample ch) hch hk (ks := [9]) (by decide)
    obtain ⟨h₁, h₂⟩ := ih (c := c.tripNow ch [9] (sample ch)) (fun k hk => by
      obtain ⟨hk', ho⟩ := hl k (List.mem_cons_of_mem _ hk)
      exact ⟨hk', (hodd k hk').trans ho⟩) (Chip.reqs_tripNow hch _ _ hq)
    refine ⟨h₁, fun k hk h => h₂ k hk ?_⟩
    by_cases hkc : k = ch
    · subst hkc
      exact .inl (Chip.uvTrip_idle hch hev (hs k))
    · rw [Chip.uvTrip_ne hch hk hkc hev]
      exact h.imp_right fun h => (List.mem_cons.1 h).resolve_left hkc

end Sys2Proof.Machine
end

section
/-! SUPPORT. The status of a power die through grants, trips and an expired hold (R143, R149, R157). -/

namespace Sys2Proof.Machine
open Sys2Proof

/-! ### The die's protection and scheduler status -/

/-- Outside PWR_PROT_STATUS and IS_STATUS of every die. -/
def OffStatus (p : Nat × Fld) : Prop := p.1 % 0x80000 ≠ 0x40304 ∧ p.1 % 0x80000 ≠ 0x60008

theorem OffStatus.chan {ch o : Nat} {g : Fld} (ho : o < 0x100) : OffStatus (chBase ch + o, g) := by
  simp only [OffStatus, chBase]
  omega
theorem SchedWrites.offStatus {p : Nat × Fld} (h : SchedWrites p) : OffStatus p := by
  obtain ⟨a, g⟩ := p
  obtain ⟨ch, h⟩ | ⟨n, h | h⟩ := h
  · have h := mem_startFields (lo := g.lo) (w := g.w) h
    simp only [chBase] at h
    simp only [OffStatus]
    omega
  all_goals
    obtain rfl : a = _ := congrArg Prod.fst h
    simp only [OffStatus, R.PWR_XC_WATCH0, R.PWR_XC_WATCH1]
    omega
theorem TripWrites.offStatus {ch l : Nat} {p : Nat × Fld} (h : TripWrites ch l p) : OffStatus p := by
  obtain ⟨a, g⟩ := p
  obtain ⟨o, ho, hp⟩ | ⟨o, ho, hp⟩ | ⟨o, ho, ho', hp⟩ | ⟨n, o, ho, ho', hp⟩ | hp := h
  · obtain rfl : a = _ := hp
    exact .chan (by omega)
  · obtain rfl : a = _ := hp
    exact .chan (by omega)
  · obtain rfl : a = _ := hp
    exact .chan ho'
  · simp only at hp
    simp only [OffStatus]
    omega
  · simp only [SealWrites] at hp
    simp only [OffStatus]
    omega

namespace Spares

theorem enqueueOff (c : Chip) (r : StartReq) : Spares OffStatus c (c.enqueue r) := (enqueue c r).mono fun p hp => by
  rw [hp]
  exact .chan (o := 0x1C) (by decide)
theorem grantReqOff (c : Chip) (r : StartReq) : Spares OffStatus c (c.grantReq r) := (grantReq c r).mono fun _ hp => hp.offStatus
theorem reexamineOff (c : Chip) (n : Nat) : Spares OffStatus c (c.reexamine n) := (reexamine c n).mono fun _ hp => hp.offStatus
theorem capGrantOff (c : Chip) {r : StartReq} (hr : r.ch < 192) : Spares OffStatus c (c.capGrant r) :=
  (grantReqOff c r).trans <| (bump _ 1 (.chan (o := 0x2C) (by decide))).trans <|
    (bump _ 1 (by simp only [OffStatus, R.IS_CAPGRANT_CNT]; omega)).trans (served (Chip.chEvent_served _ (by decide) hr))
theorem deferOff (c : Chip) (r : StartReq) : Spares OffStatus c (c.defer r) :=
  (bump c 1 (.chan (o := 0x28) (by decide))).trans (bump _ 1 (by simp only [OffStatus, R.IS_DEFER_CNT]; omega))
end Spares

/-! ### Requests that arrive, for any relation that every step of theirs keeps -/

/-- What holds of every step of an arrival holds of the arrival. -/
theorem Chip.arriveReqs_rel {Q : Chip → Chip → Prop} (hrefl : ∀ c, Q c c) (htrans : ∀ {c c' c''}, Q c c' → Q c' c'' → Q c c'')
    (hen : ∀ c r, Q c (c.enqueue r)) (hgr : ∀ c r, Q c (c.grantReq r)) (hre : ∀ c n, Q c (c.reexamine n))
    (hcap : ∀ c (r : StartReq), r.ch < 192 → Q c (c.capGrant r)) (hdef : ∀ c r, Q c (c.defer r)) (c : Chip) (n : Nat) {rs : List StartReq}
    (h : ∀ r ∈ rs, r.ch < 192) : Q c (c.arriveReqs n rs) := by
  have hall {f : Chip → StartReq → Chip} {p : StartReq → Prop} (hf : ∀ c r, p r → Q c (f c r)) :
      ∀ (rs : List StartReq) (c : Chip), (∀ r ∈ rs, p r) → Q c (Chip.forReqs f rs c) := by
    intro rs
    induction rs with
    | nil => exact fun c _ => hrefl c
    | cons r rs ih => exact fun c h => htrans (hf c r (h r List.mem_cons_self)) (ih _ fun q hq => h q (List.mem_cons_of_mem _ hq))
  have hgx (c : Chip) (r : StartReq) : Q c (if c.exempt r then c.grantReq r else c) := by
    split
    · exact hgr c r
    · exact hrefl c
  unfold Chip.arriveReqs
  extract_lets d e g wait
  have hd : Q c d := hall (p := fun _ => True) (fun c r _ => hen c r) rs c fun _ _ => trivial
  have he : Q d e := hall (p := fun _ => True) (fun c r _ => hgx c r) rs d fun _ _ => trivial
  have hw : ∀ r ∈ wait, r.ch < 192 := fun r hr => h r (by simpa using (List.mem_filter.1 hr).2)
  refine htrans hd (htrans he (htrans (hre e n) ?_))
  split
  · refine hall (p := fun r => r.ch < 192) (fun c r hr => hcap c r hr) (byPrio wait) g fun r hr => hw r ?_
    simp only [byPrio, List.mem_append, List.mem_filter] at hr
    tauto
  · exact hall (p := fun _ => True) (fun c r _ => hdef c r) wait g fun _ _ => trivial
theorem Chip.arrive_rel {Q : Chip → Chip → Prop} (hrefl : ∀ c, Q c c) (htrans : ∀ {c c' c''}, Q c c' → Q c' c'' → Q c c'')
    (hen : ∀ c r, Q c (c.enqueue r)) (hgr : ∀ c r, Q c (c.grantReq r)) (hre : ∀ c n, Q c (c.reexamine n))
    (hcap : ∀ c (r : StartReq), r.ch < 192 → Q c (c.capGrant r)) (hdef : ∀ c r, Q c (c.defer r)) (c : Chip) (n : Nat) {chs : List Nat}
    (h : ∀ ch ∈ chs, ch < 192) : Q c (c.arrive n chs) :=
  Chip.arriveReqs_rel hrefl htrans hen hgr hre hcap hdef c n fun r hr => by
    obtain ⟨ch, hch, rfl⟩ := List.mem_map.1 hr
    exact h ch hch
theorem Spares.arriveOff (c : Chip) (n : Nat) {chs : List Nat} (h : ∀ ch ∈ chs, ch < 192) : Spares OffStatus c (c.arrive n chs) :=
  Chip.arrive_rel .refl .trans enqueueOff grantReqOff reexamineOff (fun c _ => capGrantOff c) deferOff c n h

section
variable {c c' : Chip} (h : Spares OffStatus c c') {n : Nat} (hn : n < 4)
include h hn

theorem Spares.protStatus : c'.rd (R.PWR_PROT_STATUS n) = c.rd (R.PWR_PROT_STATUS n) :=
  h.rd (by simp only [R.PWR_PROT_STATUS]; omega) (by simp only [R.PWR_PROT_STATUS]; omega) fun g hg => by
    simp only [OffStatus, R.PWR_PROT_STATUS] at hg
    omega
theorem Spares.isStatus : c'.rd (R.IS_STATUS n) = c.rd (R.IS_STATUS n) :=
  h.rd (by simp only [R.IS_STATUS]; omega) (by simp only [R.IS_STATUS]; omega) fun g hg => by
    simp only [OffStatus, R.IS_STATUS] at hg
    omega
end

theorem mem_dieChans {n ch : Nat} (hn : n < 4) (h : ch ∈ dieChans n) : ch < 192 := by
  obtain ⟨l, hl, rfl⟩ := List.mem_map.1 h
  have := List.mem_range.1 hl
  omega
theorem mem_leads {c : Chip} {n ch : Nat} (hn : n < 4) (h : ch ∈ c.leads n) : ch < 192 ∧ c.oddMember ch = false := by
  obtain ⟨hm, ho⟩ := List.mem_filter.1 h
  exact ⟨mem_dieChans hn hm, by simpa using ho⟩
/-- R149, R150: the feed's trips and the re-examination after them. -/
theorem Spares.feedTrip (c : Chip) {n : Nat} (hn : n < 4) (cause : Nat) (p : Nat → Bool) (ms : List Sample) : Spares OffStatus c (c.feedTrip n cause p ms) := by
  unfold Chip.feedTrip
  extract_lets hit sample
  refine (foldl (fun ch hm d => ?_) c).trans (reexamineOff _ n)
  exact (tripNow d (mem_leads hn (List.mem_filter.1 hm).1).1 (tripCauses_lt _ _) _).mono fun _ hp => hp.offStatus

/-! ### No channel stays HELD (R157) -/

/-- No channel has entered HELD. -/
def Unheld (c c' : Chip) : Prop := ∀ k < 192, c.chState k ≠ .held → c'.chState k ≠ .held

namespace Unheld

variable {c c' c'' : Chip}

theorem refl (c : Chip) : Unheld c c := fun _ _ h => h
theorem trans (h : Unheld c c') (h' : Unheld c' c'') : Unheld c c'' := fun k hk hs => h' k hk (h k hk hs)
theorem of_spares {W : Nat × Fld → Prop} (h : Spares W c c') (hw : ∀ k g, k < 192 → W (R.CH_STATUS k, g) → Apart F.CH_STATUS_STATE g) : Unheld c c' :=
  fun k hk hs => by rwa [h.state hk fun g hg => hw k g hk hg]
theorem setChRun (c : Chip) (ch : Nat) : Unheld c (c.setChRun ch .starting) := by
  intro k hk h
  by_cases hkc : k = ch
  · subst hkc
    unfold Chip.setChRun
    split
    · have hs : (c.setHoldSub k .starting).chState k = c.chState k :=
        congrArg ChState.ofCode (Chip.fget_fset_ne _ _ _ _ (by simp only [R.CH_STATUS, R.CH_PROT_STATUS]; omega))
      rwa [hs]
    · rw [Chip.chState_setChState]
      decide
  · have hs : Spares (fun p => p.1 = R.CH_PROT_STATUS ch ∨ p.1 = R.CH_STATUS ch) c (c.setChRun ch .starting) := .setChRun c _ (.inl rfl) (.inr rfl)
    rwa [hs.state hk]
    rintro g (h | h)
    · simp only [R.CH_STATUS, R.CH_PROT_STATUS, chBase] at h
      omega
    · simp only [R.CH_STATUS, chBase] at h
      omega
theorem readied (c : Chip) (ch : Nat) : Unheld c (c.readied ch) :=
  of_spares (.readied c ch) fun k g hk hg => by
    have := mem_readyFields (lo := g.lo) (w := g.w) hg
    simp only [R.CH_STATUS, chBase] at this
    simp only [Apart, F.CH_STATUS_STATE]
    omega
theorem runStart (c : Chip) (ch : Nat) : Unheld c (c.runStart ch) :=
  of_spares (.runStart c ch) fun k g hk hg => by
    have := mem_runFields (lo := g.lo) (w := g.w) hg
    simp only [R.CH_STATUS, chBase] at this
    simp only [Apart, F.CH_STATUS_STATE]
    omega
theorem grant (c : Chip) (ch : Nat) : Unheld c (c.grant ch) := ((readied c ch).trans (setChRun _ ch)).trans (runStart _ ch)
theorem xcGrant (c : Chip) (n src : Nat) : Unheld c (c.xcGrant n src) := by
  have hw : Spares (fun p => ∃ m, p.1 = R.PWR_XC_WATCH0 m ∨ p.1 = R.PWR_XC_WATCH1 m) c (c.xcGrant n src) :=
    (((Spares.of_regs rfl : Spares _ c c.draw.2).trans (.setDie _ _ _)).trans (.wr _ _ ⟨n, .inl rfl⟩)).trans (.wr _ _ ⟨n, .inr rfl⟩)
  refine of_spares hw fun k g hk hg => ?_
  obtain ⟨m, h | h⟩ := hg
  · simp only [R.CH_STATUS, R.PWR_XC_WATCH0, chBase] at h
    omega
  · simp only [R.CH_STATUS, R.PWR_XC_WATCH1, chBase] at h
    omega
theorem grantReq (c : Chip) (r : StartReq) : Unheld c (c.grantReq r) := by
  unfold Chip.grantReq
  split
  · exact xcGrant c _ _
  · exact grant c _
theorem grantInOrder (n k : Nat) (c : Chip) : Unheld c (Chip.grantInOrder n k c) := by
  induction k generalizing c with
  | zero =>
    rw [Chip.grantInOrder]
    exact refl c
  | succ k ih =>
    rw [Chip.grantInOrder]
    split
    · exact refl c
    · split
      · exact (grantReq c _).trans (ih _)
      · exact refl c
theorem reexamine (c : Chip) (n : Nat) : Unheld c (c.reexamine n) := grantInOrder n _ c
theorem bump_ne (c : Chip) {a : Nat} (m : Nat) (h : ∀ k, a ≠ R.CH_STATUS k) : Unheld c (c.bump a m) := fun k _ hs => by
  rwa [Chip.chState, Chip.bump, Chip.fget_wr_ne _ _ _ (h k).symm]
theorem enqueue (c : Chip) (r : StartReq) : Unheld c (c.enqueue r) := of_spares (.enqueue c r) fun k g _ hg => by
  obtain rfl : g = F.CH_STATUS_PENDING_GRANT := congrArg Prod.snd hg
  decide
theorem defer (c : Chip) (r : StartReq) : Unheld c (c.defer r) :=
  (bump_ne c 1 fun k => by simp only [R.CH_DEFER_CNT, R.CH_STATUS, chBase]; omega).trans
    (bump_ne _ 1 fun k => by simp only [R.IS_DEFER_CNT, R.CH_STATUS, chBase]; omega)
theorem served (h : Served c c') : Unheld c c' := of_spares (W := fun _ => False) (.served h) fun _ _ _ h => h.elim
theorem capGrant (c : Chip) {r : StartReq} (hr : r.ch < 192) : Unheld c (c.capGrant r) :=
  (grantReq c r).trans <| (bump_ne _ 1 fun k => by simp only [R.CH_CAPGRANT_CNT, R.CH_STATUS, chBase]; omega).trans <|
    (bump_ne _ 1 fun k => by simp only [R.IS_CAPGRANT_CNT, R.CH_STATUS, chBase]; omega).trans (served (Chip.chEvent_served _ (by decide) hr))
theorem arrive (c : Chip) (n : Nat) {chs : List Nat} (h : ∀ ch ∈ chs, ch < 192) : Unheld c (c.arrive n chs) :=
  Chip.arrive_rel refl trans enqueue grantReq reexamine (fun c _ => capGrant c) defer c n h
end Unheld

end Sys2Proof.Machine
end

section
/-! SUPPORT. An expired hold, a die's own reset, and the loss of the module's supply (R157 to R161, R405). -/

namespace Sys2Proof.Machine
open Sys2Proof

/-! ### HOLD_TIME expires (R157) -/

namespace Unheld

theorem setChan (c : Chip) (ch : Nat) (x : ChanX) : Unheld c (c.setChan ch x) := fun _ _ h => h
theorem setDie (c : Chip) (n : Nat) (x : DieX) : Unheld c (c.setDie n x) := fun _ _ h => h
theorem fset_ne (c : Chip) {a : Nat} (f : Fld) (v : Nat) (h : ∀ k, a ≠ R.CH_STATUS k) : Unheld c (c.fset a f v) := fun k _ hs => by
  rwa [Chip.chState, Chip.fget_fset_ne _ _ _ _ (h k).symm]
theorem fset_apart (c : Chip) (a : Nat) {f : Fld} (v : Nat) (h : Apart F.CH_STATUS_STATE f) : Unheld c (c.fset a f v) :=
  of_spares (W := fun p => p.2 = f) (.fset c v rfl) fun _ g _ hg => by
    obtain rfl : g = f := hg
    exact h
theorem prot_ne (ch k : Nat) : R.CH_PROT_STATUS ch ≠ R.CH_STATUS k := by
  simp only [R.CH_PROT_STATUS, R.CH_STATUS, chBase]
  omega
theorem stopDrive (c : Chip) (ch : Nat) : Unheld c (c.stopDrive ch) :=
  of_spares (.stopDrive c ch) fun k g _ hg => by
    obtain ⟨-, rfl⟩ | h | ⟨h, -⟩ | h | h := mem_stopFields hg
    · decide
    all_goals
      simp only [R.CH_STATUS, chBase] at h
      omega
theorem leavePwm (c : Chip) (ch : Nat) : Unheld c (c.leavePwm ch) :=
  of_spares (.leavePwm c ch) fun k g _ hg => by
    obtain ⟨-, rfl⟩ | h | ⟨h, -⟩ | h | h := mem_stopFields hg
    · decide
    all_goals
      simp only [R.CH_STATUS, chBase] at h
      omega
theorem withdraw (c : Chip) (ch : Nat) : Unheld c (c.withdraw ch) := (setDie c _ _).trans (fset_apart _ _ _ (by decide))
theorem setHoldSub (c : Chip) (ch : Nat) (x : ChState) : Unheld c (c.setHoldSub ch x) := fset_ne c _ _ (prot_ne ch)
theorem setLimp (c : Chip) (ch : Nat) : Unheld c (c.setChState ch .limp) := by
  intro k hk h
  by_cases hkc : k = ch
  · subst hkc
    rw [Chip.chState_setChState]
    decide
  · have hs : Spares (fun p => p.1 = R.CH_STATUS ch) c (c.setChState ch .limp) := .setChState c _ rfl
    rwa [hs.state hk]
    intro g h
    simp only [R.CH_STATUS, chBase] at h
    omega

end Unheld

/-- A HELD channel that enters LIMP, before it follows its LIMP_MODE. -/
def Chip.limping (c : Chip) (ch : Nat) : Chip :=
  let c := (c.countCause ch 13).setChState ch .limp
  c.setDie (pdie ch) { c.die (pdie ch) with limped := true }
theorem Chip.limping_eq (c : Chip) (ch : Nat) : c.limping ch = ((c.countCause ch 13).setChState ch .limp).setDie (pdie ch)
    { ((c.countCause ch 13).setChState ch .limp).die (pdie ch) with limped := true } := rfl
theorem Chip.chState_limping (c : Chip) (ch : Nat) : (c.limping ch).chState ch = .limp := by
  rw [Chip.limping, Chip.chState, Chip.fget_setDie]
  exact Chip.chState_setChState _ ch _
theorem Unheld.limping (c : Chip) (ch : Nat) : Unheld c (c.limping ch) := by
  have h : Unheld c (c.countCause ch 13) := fset_ne c _ _ fun k => by
    simp only [R.CH_CAUSE_CNT, R.CH_STATUS, chBase]
    omega
  exact h.trans <| (setLimp _ ch).trans (setDie _ _ _)

theorem Unheld.limpOff (d : Chip) (ch : Nat) : Unheld d ((((d.stopDrive ch).withdraw ch).setHoldSub ch .off |>.fset (R.CH_STATUS ch) F.CH_STATUS_CAUSE 0).fset
    (R.CH_PROT_STATUS ch) F.CH_PROT_STATUS_COOLING 0) :=
  (stopDrive d ch).trans <| (withdraw _ ch).trans <| (setHoldSub _ ch _).trans <| (fset_apart _ _ _ (by decide)).trans (fset_ne _ _ _ (prot_ne ch))
/-- R157: a channel that has entered LIMP follows its LIMP_MODE. -/
theorem Chip.limpChan_held {c : Chip} {ch : Nat} (h : c.chState ch = .held) : Unheld (c.limping ch) (c.limpChan ch).1 := by
  simp only [Chip.limpChan, if_pos h]
  rw [← Chip.limping_eq]
  generalize c.limping ch = d
  split
  · exact .refl d
  · split
    · exact Unheld.limpOff d ch
    · split
      · exact (Unheld.leavePwm d ch).trans (Unheld.setHoldSub _ ch _)
      · exact (Unheld.leavePwm d ch).trans (Unheld.setHoldSub _ ch _)
      · exact Unheld.leavePwm d ch
      · exact Unheld.leavePwm d ch
      · exact .refl d
      · exact .refl d
    · exact .refl d
theorem Unheld.limpChan (c : Chip) (ch : Nat) : Unheld c (c.limpChan ch).1 := by
  by_cases h : c.chState ch = .held
  · exact (limping c ch).trans (Chip.limpChan_held h)
  · rw [Chip.limpChan, if_neg h]
    exact refl c
theorem Chip.limpChan_self (c : Chip) {ch : Nat} (hch : ch < 192) : (c.limpChan ch).1.chState ch ≠ .held := by
  by_cases h : c.chState ch = .held
  · exact Chip.limpChan_held h ch hch (by rw [Chip.chState_limping]; decide)
  · rwa [Chip.limpChan, if_neg h]

theorem Chip.limpAll_cons (ch : Nat) (l : List Nat) (c : Chip) : Chip.limpAll (ch :: l) c =
    ((Chip.limpAll l (c.limpChan ch).1).1, if (c.limpChan ch).2 then ch :: (Chip.limpAll l (c.limpChan ch).1).2 else (Chip.limpAll l (c.limpChan ch).1).2) := rfl
theorem Chip.limpAll_says (l : List Nat) (c : Chip) (hl : ∀ ch ∈ l, ch < 192) :
    Unheld c (Chip.limpAll l c).1 ∧ (∀ ch ∈ l, (Chip.limpAll l c).1.chState ch ≠ .held) ∧ ∀ ch ∈ (Chip.limpAll l c).2, ch < 192 := by
  induction l generalizing c with
  | nil => exact ⟨.refl c, fun _ h => absurd h List.not_mem_nil, fun _ h => absurd h List.not_mem_nil⟩
  | cons ch l ih =>
    have hch := hl ch List.mem_cons_self
    obtain ⟨h₁, h₂, h₃⟩ := ih (c.limpChan ch).1 fun k hk => hl k (List.mem_cons_of_mem _ hk)
    rw [Chip.limpAll_cons]
    refine ⟨(Unheld.limpChan c ch).trans h₁, fun k hk => ?_, fun k hk => ?_⟩
    · obtain rfl | hk := List.mem_cons.1 hk
      · exact h₁ k hch (c.limpChan_self hch)
      · exact h₂ k hk
    · simp only at hk
      split at hk
      · obtain rfl | hk := List.mem_cons.1 hk
        · exact hch
        · exact h₃ k hk
      · exact h₃ k hk

theorem ValveWrites.not_status {v k : Nat} {g : Fld} : ¬ ValveWrites v (R.CH_STATUS k, g) := by
  simp only [ValveWrites, List.mem_cons, List.not_mem_nil, or_false, R.VLV_STATUS, R.VLV_CMD, R.VLV_FAULT_CNT, R.VLV_CODE_CNT, R.VLV_ON_CNT,
    R.VG_FEEDPEAK_CNT, R.VG_NR_DEFER_CNT, R.CH_STATUS, chBase, vlvBase, vgBase]
  omega
theorem Unheld.vLimp (c : Chip) (v : Nat) : Unheld c (c.vLimp v) := by
  have hs : Spares (ValveWrites v) c (c.vLimp v) := by
    unfold Chip.vLimp
    refine .ite (fun _ => ?_) fun _ => .refl c
    refine Spares.trans (.setVState c .limp) (.ite (fun _ => ?_) fun _ => .refl _)
    split
    · exact .vLeave _ _
    · exact .vLeave _ _
    · exact .refl _
  exact of_spares hs fun k g _ h => absurd h ValveWrites.not_status
theorem Unheld.foldl {f : Chip → Nat → Chip} (h : ∀ c x, Unheld c (f c x)) (l : List Nat) (c : Chip) : Unheld c (l.foldl f c) :=
  List.foldlRecOn l f (motive := fun (d : Chip) => Unheld c d) (refl c) fun d hd x _ => hd.trans (h d x)
theorem Unheld.vLimpDie (c : Chip) (n : Nat) : Unheld c (c.vLimpDie n) := by
  refine (foldl vLimp (dieValves n) c).trans <| Unheld.trans (of_spares (.vgRefresh _ n) fun k g _ h => ?_) (reexamine _ n)
  obtain ⟨j, h⟩ := h
  simp only [R.VG_STATUS, R.CH_STATUS, chBase, vgBase] at h
  omega
/-- R157: no channel that stands for its pair is HELD once HOLD_TIME has expired. -/
theorem Chip.limpDie_says (c : Chip) {n ch : Nat} (hn : n < 4) (h : ch ∈ c.leads n) : ((c.limpDie n).vLimpDie n).chState ch ≠ .held := by
  have hl : ∀ ch ∈ c.leads n, ch < 192 := fun ch h => (mem_leads hn h).1
  obtain ⟨-, h₂, h₃⟩ := Chip.limpAll_says (c.leads n) (c.fset (R.PWR_PROT_STATUS n) F.PWR_PROT_STATUS_HOLD_LEFT 0) hl
  have hd : c.limpDie n = (Chip.limpAll (c.leads n) (c.fset (R.PWR_PROT_STATUS n) F.PWR_PROT_STATUS_HOLD_LEFT 0)).1.arrive n
    (Chip.limpAll (c.leads n) (c.fset (R.PWR_PROT_STATUS n) F.PWR_PROT_STATUS_HOLD_LEFT 0)).2 := rfl
  rw [hd]
  exact ((Unheld.arrive _ n h₃).trans (Unheld.vLimpDie _ n)) ch (hl ch h) (h₂ ch h)

/-! ### A die's own reset (R160, R405) -/

theorem Chip.linkUp_linkCut (c : Chip) {d : Nat} (hd : d ≠ 0) (hd8 : d < 8) : (c.linkCut d).linkUp d = false := by
  unfold Chip.linkCut
  split
  case isTrue => exact Chip.linkUp_linkDown c hd hd8
  case isFalse h => exact Bool.eq_false_of_not_eq_true h

theorem Chip.linkUp_of_rd {c c' : Chip} {d : Nat} (h : c'.rd (R.SYS_LINK_STATUS d) = c.rd (R.SYS_LINK_STATUS d)) : c'.linkUp d = c.linkUp d := by
  rw [Chip.linkUp, Chip.linkUp, Chip.flag, Chip.flag, Chip.fget, Chip.fget, h]

theorem Chip.rd_dieOff_low (c : Chip) {n a : Nat} (ha : a < 0x40100000) : (c.dieOff n).rd a = c.rd a := by
  have hd : (c.dieOff n).rd a = (c.clearRegs (dieBase (n + 2)) (dieEnd (n + 2))).rd a := rfl
  have hb : 0x40100000 ≤ dieBase (n + 2) := by
    unfold dieBase
    split_ifs <;> omega
  rw [hd, Chip.rd_clearRegs, if_neg (by omega)]
theorem Chip.rd_warmWires_low (c : Chip) {n a : Nat} (ha : a < 0x40200000) : (c.warmWires n).rd a = c.rd a :=
  List.foldlRecOn (dieChans n) _ (motive := fun (d : Chip) => d.rd a = c.rd a) rfl fun d hd ch _ =>
    (Chip.rd_wr_ne _ _ (by simp only [R.CH_WIRE_LEVEL, chBase]; omega)).trans hd
theorem Chip.rd_startNamed_low (c : Chip) {n a : Nat} (ha : a < 0x40200000) : (c.startNamed n).rd a = c.rd a := by
  have hf (d : Chip) (k o : Nat) (f : Fld) (v : Nat) : (d.fset (chBase k + o) f v).rd a = d.rd a :=
    Chip.rd_fset_ne _ _ _ (by simp only [chBase]; omega)
  have h₁ (p : Prop) [Decidable p] : (if p then (c.fset (R.CH_STATUS 187) F.CH_STATUS_START_ENABLE 0).fset (R.CH_OWNER 187) F.CH_OWNER_OWNER 4 else c).rd a = c.rd a := by
    split
    · exact (hf _ 187 0xC _ _).trans (hf _ 187 0x1C _ _)
    · rfl
  unfold Chip.startNamed
  extract_lets d
  split
  · exact ((hf _ _ 0x38 _ _).trans <| (hf _ _ 0xC _ _).trans (hf _ _ 0x1C _ _)).trans (h₁ _)
  · exact h₁ _

/-- A power die after its reset, before its link counts as lost. -/
def Chip.dieCleared (c : Chip) (d : Nat) : Chip := (((c.linkCut d).dieOff (d - 2)).warmWires (d - 2)).startNamed (d - 2)
theorem Chip.dieLocal_power (c : Chip) {d : Nat} (h₂ : 2 ≤ d) (h₅ : d ≤ 5) :
    ∃ b : Chip, c.dieLocal d = (b.dieCleared d).setLink d { (b.dieCleared d).link d with lost := true } := by
  unfold Chip.dieLocal
  rw [if_pos ⟨h₂, h₅⟩]
  exact ⟨_, rfl⟩
/-- A power die that resets itself: its link is down, and lost. -/
theorem Chip.dieLocal_says (c : Chip) {d : Nat} (h₂ : 2 ≤ d) (h₅ : d ≤ 5) : (c.dieLocal d).linkUp d = false ∧ ((c.dieLocal d).link d).lost = true := by
  obtain ⟨b, hb⟩ := c.dieLocal_power h₂ h₅
  have ha : R.SYS_LINK_STATUS d < 0x40100000 := by
    simp only [R.SYS_LINK_STATUS]
    omega
  rw [hb]
  refine ⟨?_, by rw [Chip.link_setLink_self]⟩
  rw [Chip.linkUp_setLink, Chip.linkUp_of_rd (c := b.linkCut d), Chip.linkUp_linkCut b (by omega) (by omega)]
  rw [Chip.dieCleared, Chip.rd_startNamed_low _ (by omega), Chip.rd_warmWires_low _ (by omega), Chip.rd_dieOff_low _ ha]

/-! ### The module without supply (R161) -/

theorem Tbl.get_filter_not {α : Type} (d : Nat → α) (p : Nat → Bool) {k : Nat} (h : p k = false) (t : Tbl α) :
    Tbl.get d (t.filter fun x => p x.1) k = d k := by
  induction t with
  | nil => rfl
  | cons x t ih =>
    obtain ⟨i, b⟩ := x
    by_cases hi : p i
    · rw [List.filter_cons, if_pos hi, Tbl.get, if_neg, ih]
      rintro rfl
      exact absurd hi (by simp [h])
    · rw [List.filter_cons, if_neg hi, ih]

theorem linkReset : ∀ d < 8, F.SYS_LINK_STATUS_UP.get (resetWord (R.SYS_LINK_STATUS d)) = 0 := by decide

/-- The registers that need no supply. -/
def supplyKept (a : Nat) : Bool := (decide (0x400C1000 ≤ a) && decide (a < 0x40100000) && a != R.SEC_LOST_CNT) || a == R.ACC_ENROLLED

/-- A module that holds nothing but registers of the unpowered, and no core's state: no link is up and every core is in reset. -/
theorem Chip.unpowered_says {c n : Chip} {x : Nat} (hr : n.regs = c.regs.filter fun x => supplyKept x.1) (hc : n.cores = []) :
    (∀ d, 1 ≤ d → d < 8 → (n.fset R.SEC_LOG_STATUS F.SEC_LOG_STATUS_SEALING x).linkUp d = false) ∧
      ∀ k, ((n.fset R.SEC_LOG_STATUS F.SEC_LOG_STATUS_SEALING x).core k).inReset = true := by
  refine ⟨fun d h₁ h₈ => ?_, fun k => ?_⟩
  · have hk : supplyKept (R.SYS_LINK_STATUS d) = false := by
      have : ∀ d < 8, supplyKept (R.SYS_LINK_STATUS d) = false := by decide
      exact this d h₈
    have hrd : n.rd (R.SYS_LINK_STATUS d) = resetWord (R.SYS_LINK_STATUS d) := by
      rw [Chip.rd, hr]
      exact Tbl.get_filter_not _ _ hk _
    rw [Chip.linkUp_of_rd (c := n) (Chip.rd_fset_ne _ _ _ (by simp only [R.SYS_LINK_STATUS, R.SEC_LOG_STATUS]; omega)), Chip.linkUp, Chip.flag, Chip.fget, hrd,
      linkReset d h₈, beq_false_of_ne (by omega)]
    rfl
  · rw [(Noted.fset n _ _ _).field (·.core k)]
    change (Tbl.get _ n.cores k).inReset = true
    rw [hc]
    rfl
theorem State.supplyOff_says (s : State) :
    (∀ d, 1 ≤ d → d < 8 → s.supplyOff.chip.linkUp d = false) ∧ ∀ k, (s.supplyOff.chip.core k).inReset = true := Chip.unpowered_says rfl rfl

end Sys2Proof.Machine
end

section
/-! PROOF. Feed faults, dips, disables, HOLD_TIME, die-local resets and the module supply (R143 to R161). -/

namespace Sys2Proof.Machine
open Sys2Proof

/-! ### A write of a channel's register by the supervisor -/

theorem Chip.plainWrite_open {c : Chip} {rq : Req} {d : RegDesc} {ix : List Nat} {a : Nat} {x : Word} (hl : d.rwl = 0)
    (hc : c.sealedReg d.id ix = false) :
    c.plainWrite rq d ix a x = (c.wr a (storedWord d ix (c.rd a) x)).wrote rq d.id ix (c.rd a) x := by
  have hm : mergeWord d (c.lockClosed a) false (c.rd a) x = ((mergeWord d false false (c.rd a) x).1, false) := by simp [mergeWord, openMask, hl]
  simp [Chip.plainWrite, hc, hm, storedWord]

/-- The registers and the requests that a frame to a channel's die leaves. -/
structure ChanLands (ch o : Nat) (c d : Chip) : Prop where
  fget : ∀ o' f, o' < 0x100 → o' ≠ o → d.fget (chBase ch + o') f = c.fget (chBase ch + o') f
  dies : d.dies = c.dies
  chans : d.chans = c.chans

theorem tokenAddr_chan {ch : Nat} (hch : ch < 192) : tokenAddr (pdie ch + 2) = 0x40240004 + pdie ch * 0x80000 :=
  tokenAddr_pwr (by simp only [pdie]; omega)
/-- A frame that has landed on a channel's die, and the word that it writes. -/
theorem Travelled.chanLands {c d : Chip} {ch : Nat} (o : Nat) (hch : ch < 192) (h : Travelled (pdie ch + 2) c d) (x : Word) :
    ChanLands ch o c (d.wr (chBase ch + o) x) := by
  refine ⟨fun o' f ho' hne => ?_, (Chip.dies_wr _ _ _).trans h.dies, (Chip.chans_wr _ _ _).trans h.chans⟩
  rw [Chip.fget_wr_ne _ _ _ (by omega), Chip.fget, h.rd (by rw [tokenAddr_chan hch]; simp only [chBase, pdie]; omega)]
  rfl
theorem ChanLands.chState {c d : Chip} {ch o : Nat} (h : ChanLands ch o c d) (ho : 0x1C ≠ o) : d.chState ch = c.chState ch :=
  congrArg ChState.ofCode (h.fget 0x1C _ (by decide) ho)

/-! ### CH_DISABLE (R153, R154) -/

def chDisableDesc : RegDesc := ⟨.CH_DISABLE, 0x40200058, [(4, 0x80000, 0), (48, 0x100, 0)], 0, 0, 3, 0, 0, 0⟩
theorem chanDesc_disable : chanDesc 0x58 pwrRegs = some chDisableDesc := by decide

theorem Chip.wrote_chDisable (c : Chip) (n l : Nat) (old x : Word) : c.wrote .sup chDisableDesc.id [n, l] old x =
    if F.CH_DISABLE_DIS.get x = 1 then c.disable (48 * n + l) (F.CH_DISABLE_FORCE.get x == 1) else c.enable (48 * n + l) := rfl
theorem Chip.regWrite_as_chDisable {a n l : Nat} (h : findReg a = some (chDisableDesc, [n, l])) {c : Chip} (hi : c.inHold (48 * n + l) = false)
    (hs : isSealed (48 * n + l) = false) (x : Word) : c.regWrite .sup a x =
    if F.CH_DISABLE_DIS.get x = 1 then (c.wr a (storedWord chDisableDesc [n, l] (c.rd a) x)).disable (48 * n + l) (F.CH_DISABLE_FORCE.get x == 1)
    else (c.wr a (storedWord chDisableDesc [n, l] (c.rd a) x)).enable (48 * n + l) := by
  have hp : c.regWrite .sup a x = c.plainWrite .sup chDisableDesc [n, l] a x := by simp [Chip.regWrite, h, chDisableDesc, writerOk_sup, chOf, hi]
  rw [hp, Chip.plainWrite_open rfl (show c.sealedReg chDisableDesc.id [n, l] = false from hs), Chip.wrote_chDisable]

/-- The supervisor's write of CH_DISABLE, once it has landed. -/
theorem chDisable_lands {s : State} {ch : Nat} (hch : ch < 192) (x : Word) (h : s.chip.direct .sup (R.CH_DISABLE ch) = true) (hs : isSealed ch = false)
    (hi : s.chip.inHold ch = false) : ∃ d, ChanLands ch 0x58 s.chip d ∧ s.write .sup (R.CH_DISABLE ch) x = { s with chip :=
      (if F.CH_DISABLE_DIS.get x = 1 then d.disable ch (F.CH_DISABLE_FORCE.get x == 1) else d.enable ch) } := by
  have hdie : dieOf (R.CH_DISABLE ch) = pdie ch + 2 := dieOf_chan hch (by decide : 0x58 < 0x100)
  obtain ⟨c, hc, hw⟩ := State.write_travels x h (by omega) (isAlias_chan hch (by decide : 0x58 < 0x100))
  rw [hdie] at hc
  have he : 48 * (ch / 48) + ch % 48 = ch := Nat.div_add_mod ch 48
  have hst : c.chState ch = s.chip.chState ch := by
    rw [Chip.chState, Chip.fget, hc.rd (by rw [tokenAddr_chan hch]; simp only [R.CH_STATUS, chBase, pdie]; omega)]
    rfl
  have hic : c.inHold ch = false := by
    rw [Chip.inHold, hst]
    exact hi
  refine ⟨_, hc.chanLands 0x58 hch (storedWord chDisableDesc [ch / 48, ch % 48] (c.rd (R.CH_DISABLE ch)) x), ?_⟩
  rw [hw, Chip.regWrite_as_chDisable (show findReg (R.CH_DISABLE ch) = _ from findReg_chan hch (by decide) chanDesc_disable) (by rw [he]; exact hic) (by rw [he]; exact hs), he]
  rfl

theorem Chip.chState_withdraw (c : Chip) (ch : Nat) : (c.withdraw ch).chState ch = c.chState ch :=
  congrArg ChState.ofCode (Chip.fget_fset_field _ _ _ _ _ (by decide) (by decide))

/-- R153: a graceful disable of a channel that drives waits for its boundary. -/
theorem Chip.disable_graceful {c : Chip} {ch : Nat} (h : (c.chState ch).driven = true) :
    (c.disable ch false).flag (R.CH_PROT_STATUS ch) F.CH_PROT_STATUS_DISABLE_PENDING = true ∧ (c.disable ch false).chState ch = c.chState ch := by
  have hd : c.disable ch false = (c.withdraw ch).fset (R.CH_PROT_STATUS ch) F.CH_PROT_STATUS_DISABLE_PENDING 1 := by
    unfold Chip.disable Chip.inHold
    cases hs : c.chState ch <;> simp_all [ChState.driven]
  rw [hd]
  refine ⟨Chip.flag_fbit_self _ _ _ true (by decide) (by decide), Eq.trans ?_ (Chip.chState_withdraw c ch)⟩
  exact congrArg ChState.ofCode (Chip.fget_fset_ne _ _ _ _ (by simp only [R.CH_STATUS, R.CH_PROT_STATUS]; omega))

/-- R153: a disable of a channel that does not drive takes effect at once. -/
theorem Chip.disable_now {c : Chip} {ch : Nat} (hch : ch < 192) (h : c.chState ch ∈ [ChState.off, .cooldown, .latchedOff])
    (hq : (c.die (pdie ch)).reqs = []) (force : Bool) :
    (c.disable ch force).chState ch = .disabled ∧ ((c.disable ch force).chan ch).pend = none := by
  have hd : c.disable ch force = c.enterDisabled ch := by
    have hx : c.disable ch force = (c.enterDisabled ch).reexamine (pdie ch) := by
      simp only [List.mem_cons, List.not_mem_nil, or_false] at h
      unfold Chip.disable Chip.inHold
      obtain hs | hs | hs := h <;> simp [hs, ChState.driven]
    rw [hx]
    exact Chip.reexamine_none ((Tripped.enterDisabled c).idle _ hq)
  rw [hd]
  exact ⟨Chip.chState_enterDisabled c hch, Chip.pend_enterDisabled c ch⟩

/-- R154: an enabled channel is in OFF. -/
theorem Chip.chState_enable {c : Chip} {ch : Nat} (hch : ch < 192) (h : c.chState ch = .disabled) : (c.enable ch).chState ch = .off := by
  have hg : ((c.stopDrive ch).withdraw ch).inHold ch = false := by rw [Chip.inHold_eq ((Chip.chState_stopped hch).trans h)]; rfl
  rw [Chip.enable, if_pos h, Chip.goOff, Chip.setChRun_of_not_inHold hg]
  generalize (c.stopDrive ch).withdraw ch = e
  have hne : R.CH_STATUS ch ≠ R.CH_PROT_STATUS ch := by simp only [R.CH_STATUS, R.CH_PROT_STATUS]; omega
  rw [Chip.chState, Chip.fget_fset_ne _ _ _ _ hne, Chip.fget_fset_ne _ _ _ _ hne, Chip.fget_fset_field _ _ _ _ _ (by decide) (by decide)]
  exact Chip.chState_setChState e ch _

/-! ### The feed (R143, R149, R150) -/

section
variable {n : Nat} (hn : n < 4)
include hn

theorem Chip.protStatus_after {c c' : Chip} (h : Spares OffStatus c c') (f : Fld) : c'.flag (R.PWR_PROT_STATUS n) f = c.flag (R.PWR_PROT_STATUS n) f := by
  rw [Chip.flag, Chip.flag, Chip.fget, Chip.fget, h.protStatus hn]

theorem Spares.feedRecover (c : Chip) (cause : Nat) : Spares OffStatus c (c.feedRecover n cause) :=
  arriveOff c n fun _ h => mem_dieChans hn (List.mem_filter.1 h).1

/-- R149: where nothing further is sampled, every driven channel that stands for a pair trips. -/
theorem Chip.feedTrip_idle {c : Chip} {ms : List Sample} (hq : (c.die n).reqs = []) (hm : ∀ x ∈ ms, x.boundary = false ∧ x.also = []) {l : Nat} (hl : l < 48)
    (ho : c.oddMember (48 * n + l) = false) : ((c.feedTrip n 9 (fun _ => true) ms).chRun (48 * n + l)).driven = false := by
  unfold Chip.feedTrip
  extract_lets hit sample
  have hs (ch : Nat) : (sample ch).boundary = false ∧ (sample ch).also = [] := by
    by_cases hi : ch % 48 < ms.length
    · simpa [sample, hi] using hm _ (List.getElem_mem hi)
    · simp [sample, hi]
  have hc (ch : Nat) : tripCauses 9 (sample ch) = [9] := tripCauses_alone (hs ch).2
  simp only [hc]
  obtain ⟨h₁, h₂⟩ := Chip.uvTrips_idle (c := c) sample (fun ch => (hs ch).1) hit (fun ch h => mem_leads hn (List.mem_filter.1 h).1) hq
  rw [Chip.reexamine_none h₁]
  refine h₂ _ (by omega) ?_
  by_cases hd : (c.chRun (48 * n + l)).driven = true
  · exact .inr (List.mem_filter.2 ⟨List.mem_filter.2 ⟨List.mem_map.2 ⟨l, List.mem_range.2 hl, rfl⟩, by simp [ho]⟩, by simp [hd]⟩)
  · exact .inl (by simpa using hd)

theorem Chip.feedUv_idle {c : Chip} {ms : List Sample} (hq : (c.die n).reqs = []) (hm : ∀ x ∈ ms, x.boundary = false ∧ x.also = []) {l : Nat} (hl : l < 48)
    (ho : c.oddMember (48 * n + l) = false) : ((c.feedUv n ms).chRun (48 * n + l)).driven = false := by
  refine Chip.feedTrip_idle hn ?_ hm hl ?_
  · rw [Chip.die, Chip.dies_fset]
    exact hq
  · refine (Chip.oddMember_of_pair (Chip.rd_fset_ne _ _ _ ?_)).trans ho
    simp only [R.PWR_PROT_STATUS, R.PWR_PAIR, pdie]
    omega

theorem Chip.feedUv_shown (c : Chip) (ms : List Sample) : (c.feedUv n ms).flag (R.PWR_PROT_STATUS n) F.PWR_PROT_STATUS_UV = true :=
  (Chip.protStatus_after hn (.feedTrip _ hn _ _ _) _).trans (Chip.flag_fbit_self _ _ _ true (by decide) (by decide))
theorem Chip.feedOv_shown (c : Chip) (ms : List Sample) : (c.feedOv n ms).flag (R.PWR_PROT_STATUS n) F.PWR_PROT_STATUS_OV = true :=
  (Chip.protStatus_after hn (.feedTrip _ hn _ _ _) _).trans (Chip.flag_fbit_self _ _ _ true (by decide) (by decide))
theorem Chip.feedRecover_shown (c : Chip) (cause : Nat) {f : Fld} (hf : f.lo + f.w ≤ 32) :
    ((c.fset (R.PWR_PROT_STATUS n) f 0).feedRecover n cause).flag (R.PWR_PROT_STATUS n) f = false :=
  (Chip.protStatus_after hn (.feedRecover hn _ _) _).trans (Chip.flag_fset_zero _ _ _ hf)

/-- R143: the freeze ends. -/
theorem Chip.freezeEnd_shown (c : Chip) :
    (c.freezeEnd n).flag (R.IS_STATUS n) F.IS_STATUS_FROZEN = false ∧ (c.freezeEnd n).flag (R.PWR_PROT_STATUS n) F.PWR_PROT_STATUS_FROZEN = false := by
  unfold Chip.freezeEnd
  constructor
  · rw [Chip.flag, Chip.fget, (Spares.reexamineOff _ n).isStatus hn]
    exact (congrArg (· == 1) (Chip.fget_fset_ne _ _ _ _ (by simp only [R.IS_STATUS, R.PWR_PROT_STATUS]; omega))).trans (Chip.flag_fset_zero c _ _ (by decide))
  · exact (Chip.protStatus_after hn (.reexamineOff _ n) _).trans (Chip.flag_fset_zero _ _ _ (by decide))
end

/-- R143: a dip freezes the die. -/
theorem Chip.feedDip_freezes {c : Chip} {n : Nat} {feed : List Nat} (hf : c.flag (R.IS_STATUS n) F.IS_STATUS_FROZEN = false)
    (hd : feed.sum + 3000 < 10 * c.fget (R.PWR_FEED_AVG n) F.PWR_FEED_AVG_AVG10) :
    (c.feedDip n feed).flag (R.IS_STATUS n) F.IS_STATUS_FROZEN = true ∧ (c.feedDip n feed).flag (R.PWR_PROT_STATUS n) F.PWR_PROT_STATUS_FROZEN = true ∧
      (c.feedDip n feed).rd (R.PWR_DIP_CNT n) = .ofNat 32 (min 0xFFFFFFFF ((c.rd (R.PWR_DIP_CNT n)).toNat + 1)) ∧
      ∀ a, a ≠ R.IS_STATUS n → a ≠ R.PWR_PROT_STATUS n → a ≠ R.PWR_DIP_CNT n → (c.feedDip n feed).rd a = c.rd a := by
  have h₁ : R.IS_STATUS n ≠ R.PWR_PROT_STATUS n := by simp only [R.IS_STATUS, R.PWR_PROT_STATUS]; omega
  have h₂ : R.PWR_DIP_CNT n ≠ R.IS_STATUS n := by simp only [R.IS_STATUS, R.PWR_DIP_CNT]; omega
  have h₃ : R.PWR_DIP_CNT n ≠ R.PWR_PROT_STATUS n := by simp only [R.PWR_DIP_CNT, R.PWR_PROT_STATUS]; omega
  have he : c.feedDip n feed = (((c.fbit (R.IS_STATUS n) F.IS_STATUS_FROZEN true).fbit (R.PWR_PROT_STATUS n) F.PWR_PROT_STATUS_FROZEN true).bump
      (R.PWR_DIP_CNT n)) := by simp [Chip.feedDip, Chip.isDip, hf, hd, Chip.fbit]
  rw [he]
  refine ⟨?_, ?_, ?_, fun a ha hb hd => ?_⟩
  · rw [Chip.flag, Chip.fget, Chip.rd_bump_ne _ _ h₂.symm, Chip.fbit, Chip.rd_fset_ne _ _ _ h₁]
    exact Chip.flag_fbit_self c _ _ true (by decide) (by decide)
  · rw [Chip.flag, Chip.fget, Chip.rd_bump_ne _ _ h₃.symm]
    exact Chip.flag_fbit_self _ _ _ true (by decide) (by decide)
  · rw [Chip.rd_bump_self, Chip.fbit, Chip.rd_fset_ne _ _ _ h₃, Chip.fbit, Chip.rd_fset_ne _ _ _ h₂]
  · rw [Chip.rd_bump_ne _ _ hd, Chip.fbit, Chip.rd_fset_ne _ _ _ hb, Chip.fbit, Chip.rd_fset_ne _ _ _ ha]

/-! ### The supervisor disables and enables a channel -/

section
variable {s : State} {ch : Nat} (hch : ch < 192) (h : s.chip.direct .sup (R.CH_DISABLE ch) = true) (hs : isSealed ch = false)
include hch h hs

theorem disableNow_lands (hst : s.chip.chState ch ∈ [ChState.off, .cooldown, .latchedOff]) (hq : (s.chip.die (pdie ch)).reqs = []) (force : Bool) :
    ∃ c, s.write .sup (R.CH_DISABLE ch) (F.CH_DISABLE_FORCE.put (F.CH_DISABLE_DIS.of 1) force.toNat) = { s with chip := c } ∧ c.chState ch = .disabled ∧
      (c.chan ch).pend = none := by
  have hi : s.chip.inHold ch = false := by
    simp only [List.mem_cons, List.not_mem_nil, or_false] at hst
    unfold Chip.inHold
    obtain hs | hs | hs := hst <;> simp [hs]
  obtain ⟨d, hd, hw⟩ := chDisable_lands hch (F.CH_DISABLE_FORCE.put (F.CH_DISABLE_DIS.of 1) force.toNat) h hs hi
  rw [if_pos (by cases force <;> decide)] at hw
  refine ⟨_, hw, Chip.disable_now hch ?_ ?_ _⟩
  · rwa [hd.chState (by decide)]
  · rwa [Chip.die, hd.dies]

theorem disableGraceful_lands (hdr : (s.chip.chState ch).driven = true) :
    ∃ c, s.write .sup (R.CH_DISABLE ch) (F.CH_DISABLE_FORCE.put (F.CH_DISABLE_DIS.of 1) false.toNat) = { s with chip := c } ∧
      c.flag (R.CH_PROT_STATUS ch) F.CH_PROT_STATUS_DISABLE_PENDING = true ∧ c.chState ch = s.chip.chState ch := by
  have hi : s.chip.inHold ch = false := by
    unfold Chip.inHold
    cases hst : s.chip.chState ch <;> simp_all [ChState.driven]
  obtain ⟨d, hd, hw⟩ := chDisable_lands hch (F.CH_DISABLE_FORCE.put (F.CH_DISABLE_DIS.of 1) false.toNat) h hs hi
  rw [if_pos (by decide), show (F.CH_DISABLE_FORCE.get (F.CH_DISABLE_FORCE.put (F.CH_DISABLE_DIS.of 1) false.toNat) == 1) = false from by decide] at hw
  have hds := hd.chState (by decide)
  obtain ⟨h₁, h₂⟩ := Chip.disable_graceful (c := d) (ch := ch) (by rwa [hds])
  exact ⟨_, hw, h₁, h₂.trans hds⟩

theorem enable_lands (hst : s.chip.chState ch = .disabled) : ∃ c, s.write .sup (R.CH_DISABLE ch) 0 = { s with chip := c } ∧ c.chState ch = .off := by
  obtain ⟨d, hd, hw⟩ := chDisable_lands hch 0 h hs (by rw [Chip.inHold, hst]; rfl)
  rw [if_neg (by decide)] at hw
  exact ⟨_, hw, Chip.chState_enable hch ((hd.chState (by decide)).trans hst)⟩
end

theorem State.supplyOff_rest (s : State) : ∃ c, s.supplyOff = { s with chip := c, sram := [] } := ⟨_, rfl⟩
theorem moduleSupplyLoss_says (s : State) : ∃ t, exec (.moduleSupplyLoss) s = .next t ∧ (∀ d, 1 ≤ d → d < 8 → t.chip.linkUp d = false) ∧
    (∀ k, k < 4 → (t.chip.core k).inReset = true) ∧ t.pending = s.pending := by
  obtain ⟨h₁, h₂⟩ := s.supplyOff_says
  obtain ⟨c, hc⟩ := s.supplyOff_rest
  exact ⟨s.supplyOff, rfl, h₁, fun k _ => h₂ k, by rw [hc]⟩
theorem pwrHoldTimeExpire_says (n : Fin 4) {s : State} (hl : (s.chip.link (n + 2)).lost = true) : ∃ c, exec (.pwrHoldTimeExpire n) s = .next { s with chip := c } ∧
    ∀ l < 48, s.chip.oddMember (48 * n + l) = false → c.chState (48 * n + l) ≠ .held :=
  ⟨_, State.next_chip (if_pos hl), fun l hlt ho => Chip.limpDie_says _ n.2 (List.mem_filter.2 ⟨List.mem_map.2 ⟨l, List.mem_range.2 hlt, rfl⟩, by simp [ho]⟩)⟩
theorem dieLocalReset_says (d : Fin 8) (s : State) (h : 2 ≤ d.toNat ∧ d.toNat ≤ 5) : ∃ c, exec (.dieLocalReset d) s = .next { s with chip := c } ∧
    c.linkUp d = false ∧ (c.link d).lost = true := ⟨_, State.next_chip rfl, Chip.dieLocal_says _ h.1 h.2⟩

/-- Settles O17: a feed's trips leave no leading channel driven, and the arrivals and grants after a recovery or a thaw leave the die's own status
registers alone. -/
theorem feedsDisablesHoldingAndResets : Obligations.FeedsDisablesHoldingAndResets := by
  unfold Obligations.FeedsDisablesHoldingAndResets
  refine ⟨fun n ms s hq hm => ?_, fun n s => ?_, fun n ms s => ?_, fun n s => ?_, fun n feed s hf hd => ?_, fun n s => ?_, fun ch force s h hs hst hq => ?_,
    fun ch s h hs hd => ?_, fun ch s h hs hd => ?_, fun n s hl => ?_, fun d s hd => ?_, fun s => ?_⟩
  · exact ⟨_, State.next_chip rfl, Chip.feedUv_shown n.2 _ _, fun l hl ho => Chip.feedUv_idle n.2 hq hm hl ho⟩
  · exact ⟨_, State.next_chip rfl, Chip.feedRecover_shown n.2 _ _ (by decide)⟩
  · exact ⟨_, State.next_chip rfl, Chip.feedOv_shown n.2 _ _⟩
  · exact ⟨_, State.next_chip rfl, Chip.feedRecover_shown n.2 _ _ (by decide)⟩
  · exact ⟨_, State.next_chip rfl, Chip.feedDip_freezes hf hd⟩
  · exact ⟨_, State.next_chip rfl, Chip.freezeEnd_shown n.2 _⟩
  · obtain ⟨c, hw, hc⟩ := disableNow_lands ch.2 h hs hst hq force
    exact ⟨c, congrArg _ hw, hc⟩
  · obtain ⟨c, hw, hc⟩ := disableGraceful_lands ch.2 h hs hd
    exact ⟨c, congrArg _ hw, hc⟩
  · obtain ⟨c, hw, hc⟩ := enable_lands ch.2 h hs hd
    exact ⟨c, congrArg _ hw, hc⟩
  · exact pwrHoldTimeExpire_says n hl
  · exact dieLocalReset_says d s hd
  · exact moduleSupplyLoss_says s

end Sys2Proof.Machine
end

section
/-! PROOF. What an arbitration, the end of an attempt and a received frame do (R359 to R371). -/

namespace Sys2Proof.Machine
open Sys2Proof

/-! ### Buffers and the winner of an arbitration (R363 to R369) -/

theorem Chip.mbWord_setMbWord (c : Chip) {n b v w : Nat} (x : Word) :
    (c.setMbWord n b v x).mbWord n b w = if w = v then x else c.mbWord n b w := by
  rw [Chip.mbWord, Chip.setMbWord, Tbl.get_set]
  refine ite_congr (propext (by omega)) (fun _ => rfl) fun _ => rfl

/-- R364, R365: the words of a received frame stand in the buffer. -/
theorem Chip.mbWord_mbFill (c : Chip) {n b : Nat} {ws : List Word} {w : Nat} (hw : w < ws.length) :
    (c.mbFill n b ws).mbWord n b w = ws.getD w 0 := by
  have h : ∀ k ≤ ws.length, w < k →
      ((List.range k).foldl (fun c j => c.setMbWord n b j (ws.getD j 0)) c).mbWord n b w = ws.getD w 0 := by
    intro k hk hwk
    induction k with
    | zero => omega
    | succ k ih =>
      rw [List.range_succ, List.foldl_append, List.foldl_cons, List.foldl_nil, Chip.mbWord_setMbWord]
      split
      case isTrue h => rw [h]
      case isFalse h => exact ih (by omega) (by omega)
  exact h _ le_rfl hw

/-- The lowest value of f stands at the end of a fold that keeps the lower one. -/
theorem foldl_least {f : Nat → Nat} (l : List Nat) (w : Option Nat) {b : Nat}
    (h : l.foldl (fun w b => match w with | none => some b | some a => if f b < f a then some b else some a) w = some b) :
    (∀ a, w = some a → f b ≤ f a) ∧ ∀ a ∈ l, f b ≤ f a := by
  induction l generalizing w with
  | nil => exact ⟨fun a ha => by rw [Option.some.inj (h.symm.trans ha)], fun _ h => absurd h List.not_mem_nil⟩
  | cons x l ih =>
    rw [List.foldl_cons] at h
    obtain ⟨h₁, h₂⟩ := ih _ h
    cases w with
    | none =>
      refine ⟨fun a ha => absurd ha (by simp), fun a ha => ?_⟩
      rcases List.mem_cons.1 ha with rfl | ha
      · exact h₁ _ rfl
      · exact h₂ a ha
    | some a' =>
      by_cases hx : f x < f a'
      · have := h₁ x (if_pos hx)
        refine ⟨fun a ha => ?_, fun a ha => ?_⟩
        · obtain rfl := Option.some.inj ha
          omega
        · rcases List.mem_cons.1 ha with rfl | ha
          · exact this
          · exact h₂ a ha
      · have := h₁ a' (if_neg hx)
        refine ⟨fun a ha => ?_, fun a ha => ?_⟩
        · obtain rfl := Option.some.inj ha
          exact this
        · rcases List.mem_cons.1 ha with rfl | ha
          · omega
          · exact h₂ a ha

/-- R369: no pending classic buffer has a lower identifier than the winner. -/
theorem Chip.txWinner_least {c : Chip} {n b : Nat} (h : c.txWinner n = some b) {m : Nat} (hm : m < 64) (hp : c.mbPend n m = true)
    (hf : mbFdf.get (c.mbWord n m 1) = 0) : mbId.get (c.mbWord n b 0) ≤ mbId.get (c.mbWord n m 0) :=
  (foldl_least (f := fun b => mbId.get (c.mbWord n b 0)) _ none h).2 m
    (List.mem_filter.2 ⟨List.mem_filter.2 ⟨List.mem_range.2 hm, hp⟩, by simp [hf]⟩)

/-! ### The registers of a controller -/

theorem Noted.can {c c' : Chip} (h : Noted c c') (n : Nat) : c'.can n = c.can n := h.field (·.can n)
theorem Noted.mbWord {c c' : Chip} (h : Noted c c') (n b w : Nat) : c'.mbWord n b w = c.mbWord n b w := h.field (·.mbWord n b w)
theorem Noted.mbX {c c' : Chip} (h : Noted c c') (n b : Nat) : c'.mbX n b = c.mbX n b := h.field (·.mbX n b)
theorem Chip.fget_startCmds (c : Chip) (p : Cmd → Bool) (a : Nat) (f : Fld) : (c.startCmds p).fget a f = c.fget a f := rfl
theorem Only.startCmds (l : List (Nat × Nat)) (c : Chip) (p : Cmd → Bool) : Only l c (c.startCmds p) := .of_regs rfl
theorem Chip.can_startCmds (c : Chip) (p : Cmd → Bool) (n : Nat) : (c.startCmds p).can n = c.can n := rfl

theorem Chip.mbPend_of_rd {c c' : Chip} {n b : Nat} (h : c'.rd (R.CAN_MB_STAT n b) = c.rd (R.CAN_MB_STAT n b)) : c'.mbPend n b = c.mbPend n b := by
  rw [Chip.mbPend, Chip.mbPend, Chip.flag, Chip.flag, Chip.fget, Chip.fget, h]

section
variable (c : Chip) (n : Nat)

theorem Chip.rd_rxActive {a : Nat} (v : Nat) (h : a ≠ R.CAN_STATUS n) : (c.fset (R.CAN_STATUS n) F.CAN_STATUS_RX_ACTIVE v).rd a = c.rd a :=
  Chip.rd_fset_ne _ _ _ h
theorem Chip.canErr_rxActive (v : Nat) : (c.fset (R.CAN_STATUS n) F.CAN_STATUS_RX_ACTIVE v).canErr n = c.canErr n :=
  Chip.fget_fset_field _ _ _ _ _ (by decide) (by decide)

theorem Chip.canMaySend_rxActive (v : Nat) : (c.fset (R.CAN_STATUS n) F.CAN_STATUS_RX_ACTIVE v).canMaySend n = c.canMaySend n := by
  have hm : (c.fset (R.CAN_STATUS n) F.CAN_STATUS_RX_ACTIVE v).rd (R.CAN_MODE n) = c.rd (R.CAN_MODE n) := c.rd_rxActive n v (by simp only [R.CAN_MODE, R.CAN_STATUS]; omega)
  have hx : (c.fset (R.CAN_STATUS n) F.CAN_STATUS_RX_ACTIVE v).rd R.SYS_CLK_STATUS = c.rd R.SYS_CLK_STATUS :=
    c.rd_rxActive n v (by simp only [R.SYS_CLK_STATUS, R.CAN_STATUS]; omega)
  have hc : (c.fset (R.CAN_STATUS n) F.CAN_STATUS_RX_ACTIVE v).can n = c.can n := Noted.can (.fset c _ _ _) n
  simp only [Chip.canMaySend, Chip.canEn, Chip.flag, Chip.fget, hm, hx, hc, Chip.canErr_rxActive]
theorem Chip.txWinner_rxActive (v : Nat) : (c.fset (R.CAN_STATUS n) F.CAN_STATUS_RX_ACTIVE v).txWinner n = c.txWinner n := by
  have hm : (c.fset (R.CAN_STATUS n) F.CAN_STATUS_RX_ACTIVE v).rd (R.CAN_MODE n) = c.rd (R.CAN_MODE n) := c.rd_rxActive n v (by simp only [R.CAN_MODE, R.CAN_STATUS]; omega)
  have hw (b w : Nat) : (c.fset (R.CAN_STATUS n) F.CAN_STATUS_RX_ACTIVE v).mbWord n b w = c.mbWord n b w := Noted.mbWord (.fset c _ _ _) n b w
  have hp : (c.fset (R.CAN_STATUS n) F.CAN_STATUS_RX_ACTIVE v).pendMbs n = c.pendMbs n :=
    List.filter_congr fun b _ => Chip.mbPend_of_rd (c.rd_rxActive n v (by simp only [R.CAN_MB_STAT, R.CAN_STATUS]; omega))
  simp only [Chip.txWinner, Chip.flag, Chip.fget, hm, hw, hp]
end

/-- R369: the bus becomes free for a controller that may send and has a winner. -/
theorem Chip.arbitrate_sends {c : Chip} {n b : Nat} (hm : c.canMaySend n = true) (hw : c.txWinner n = some b) :
    c.arbitrate n = (((((c.fset (R.CAN_STATUS n) F.CAN_STATUS_RX_ACTIVE 0).setCan n { c.can n with cur := some b }).fbump (R.CAN_MB_STAT n b) F.CAN_MB_STAT_ATTEMPTS).fset
      (R.CAN_STATUS n) F.CAN_STATUS_TX_ACTIVE 1).fset (R.CAN_STATUS n) F.CAN_STATUS_IDLE 0).startCmds (onObj 0x68 (canTxObj n b)) := by
  have hs : (c.can n).stopping = false := by
    simp only [Chip.canMaySend, Bool.and_eq_true, Bool.not_eq_true'] at hm
    exact hm.1.1.1.1.2
  have hc : (c.fset (R.CAN_STATUS n) F.CAN_STATUS_RX_ACTIVE 0).can n = c.can n := Noted.can (.fset c _ _ _) n
  simp only [Chip.arbitrate, hc, hs, Bool.false_eq_true, false_and, if_false, Chip.canMaySend_rxActive, hm, if_true, Chip.txWinner_rxActive, hw]

theorem mem_canBlk {n a : Nat} (hn : n < 9) (h : 0x40080000 + n * 0x1000 ≤ a ∧ a < 0x40081000 + n * 0x1000) : ∃ y ∈ [Blk.can], y.1 ≤ a ∧ a < y.2 :=
  ⟨_, List.mem_singleton_self _, by simp only [Blk.can]; omega⟩

theorem Chip.arbitrate_says {c : Chip} {n b : Nat} (hn : n < 9) (hb : b < 64) (hm : c.canMaySend n = true) (hw : c.txWinner n = some b) :
    ((c.arbitrate n).can n).cur = some b ∧ (c.arbitrate n).flag (R.CAN_STATUS n) F.CAN_STATUS_TX_ACTIVE = true ∧
      (c.arbitrate n).fget (R.CAN_MB_STAT n b) F.CAN_MB_STAT_ATTEMPTS =
        min F.CAN_MB_STAT_ATTEMPTS.max (c.fget (R.CAN_MB_STAT n b) F.CAN_MB_STAT_ATTEMPTS + 1) ∧ Only [Blk.can] c (c.arbitrate n) := by
  have hne : R.CAN_MB_STAT n b ≠ R.CAN_STATUS n := by simp only [R.CAN_MB_STAT, R.CAN_STATUS]; omega
  have hst : ∃ y ∈ [Blk.can], y.1 ≤ R.CAN_STATUS n ∧ R.CAN_STATUS n < y.2 := mem_canBlk hn (by simp only [R.CAN_STATUS]; omega)
  have hmb : ∃ y ∈ [Blk.can], y.1 ≤ R.CAN_MB_STAT n b ∧ R.CAN_MB_STAT n b < y.2 := mem_canBlk hn (by simp only [R.CAN_MB_STAT]; omega)
  rw [Chip.arbitrate_sends hm hw]
  have hd : (c.fset (R.CAN_STATUS n) F.CAN_STATUS_RX_ACTIVE 0).fget (R.CAN_MB_STAT n b) F.CAN_MB_STAT_ATTEMPTS =
      c.fget (R.CAN_MB_STAT n b) F.CAN_MB_STAT_ATTEMPTS := Chip.fget_fset_ne _ _ _ _ hne
  have ho : Only [Blk.can] c (c.fset (R.CAN_STATUS n) F.CAN_STATUS_RX_ACTIVE 0) := .fset _ _ _ _ hst
  generalize c.fset (R.CAN_STATUS n) F.CAN_STATUS_RX_ACTIVE 0 = d at hd ho ⊢
  have hcan : (d.setCan n { c.can n with cur := some b }).can n = { c.can n with cur := some b } := Chip.can_setCan_self d n _
  have hf : (d.setCan n { c.can n with cur := some b }).fget (R.CAN_MB_STAT n b) F.CAN_MB_STAT_ATTEMPTS = c.fget (R.CAN_MB_STAT n b) F.CAN_MB_STAT_ATTEMPTS := hd
  replace ho : Only [Blk.can] c (d.setCan n { c.can n with cur := some b }) := ho.trans (.of_regs rfl)
  generalize d.setCan n { c.can n with cur := some b } = e at hcan hf ho ⊢
  refine ⟨?_, ?_, ?_, ?_⟩
  · rw [Chip.can_startCmds, Noted.can (.fset _ _ _ _), Noted.can (.fset _ _ _ _), Noted.can (.fbump _ _ _), hcan]
  · rw [Chip.flag, Chip.fget_startCmds, Chip.fget_fset_field _ _ _ _ _ (by decide) (by decide), Chip.fget_fset_self _ _ _ _ (by decide)]
    decide
  · rw [Chip.fget_startCmds, Chip.fget_fset_ne _ _ _ _ hne, Chip.fget_fset_ne _ _ _ _ hne, Chip.fbump, Chip.fget_fset_self _ _ _ _ (by decide), hf]
    refine Nat.mod_eq_of_lt (lt_of_le_of_lt (min_le_left _ _) (by decide))
  · exact ho.trans <| (Only.fset _ _ _ _ hmb).trans <| (Only.fset _ _ _ _ hst).trans <| (Only.fset _ _ _ _ hst).trans (.startCmds _ _ _)

/-- A change of a controller's own registers and of nothing else but its bookkeeping and the pool of free values. -/
structure ErrsShown (n : Nat) (c c' : Chip) : Prop where
  rest : c' = { c with regs := c'.regs, cans := c'.cans, fresh := c'.fresh }
  rd : ∀ a, a ≠ R.CAN_STATUS n → a ≠ R.CAN_ERR n → c'.rd a = c.rd a

namespace ErrsShown

variable {n : Nat} {c c' c'' : Chip}

theorem trans (h : ErrsShown n c c') (h' : ErrsShown n c' c'') : ErrsShown n c c'' :=
  ⟨by
    have h₁ := h.rest
    have h₂ := h'.rest
    rw [h₁] at h₂
    exact h₂, fun a ha hb => (h'.rd a ha hb).trans (h.rd a ha hb)⟩
theorem status (c : Chip) (f : Fld) (v : Nat) : ErrsShown n c (c.fset (R.CAN_STATUS n) f v) := ⟨rfl, fun _ ha _ => Chip.rd_fset_ne _ _ _ ha⟩
theorem err (c : Chip) (f : Fld) (v : Nat) : ErrsShown n c (c.fset (R.CAN_ERR n) f v) := ⟨rfl, fun _ _ ha => Chip.rd_fset_ne _ _ _ ha⟩
theorem setCan (c : Chip) (x : CanX) : ErrsShown n c (c.setCan n x) := ⟨rfl, fun _ _ _ => rfl⟩
theorem drawn (c : Chip) : ErrsShown n c c.draw.2 := ⟨rfl, fun _ _ _ => rfl⟩
theorem field {α : Type} (f : Chip → α) (h : ErrsShown n c c') : f c' = f { c with regs := c'.regs, cans := c'.cans, fresh := c'.fresh } :=
  congrArg f h.rest
theorem only (h : ErrsShown n c c') (hn : n < 9) : Only [Blk.can] c c' := fun a ha => by
  have := ha Blk.can (List.mem_singleton_self _)
  simp only [Blk.can] at this
  exact h.rd a (by simp only [R.CAN_STATUS]; omega) (by simp only [R.CAN_ERR]; omega)
theorem notAlone (c : Chip) : ErrsShown n c (c.notAlone n) := (setCan c _).trans (status _ _ _)
theorem showErr (c : Chip) : ErrsShown n c (c.showErr n) := (err c _ _).trans (err _ _ _)
end ErrsShown

/-- R359: a controller that is error-active and stays so shows its new counters. -/
theorem Chip.setTecRec_active {c : Chip} {n t r : Nat} (he : c.canErr n = 0) (ht : t < 128) (hr : r < 128) :
    c.setTecRec n t r = (c.setCan n { c.can n with tec := t, rec_ := r }).showErr n := by
  have hst : errState t r = 0 := by rw [errState, if_neg (by omega), if_neg (by omega)]
  have hn : ((c.setCan n { c.can n with tec := t, rec_ := r }).showErr n).canErr n = 0 := by
    rw [Chip.canErr, Chip.showErr, Chip.fget_fset_ne _ _ _ _ (by simp only [R.CAN_STATUS, R.CAN_ERR]; omega),
      Chip.fget_fset_ne _ _ _ _ (by simp only [R.CAN_STATUS, R.CAN_ERR]; omega)]
    exact he
  simp only [Chip.setTecRec, hst, Chip.setErr, hn, if_true]
  rw [if_neg (by simp)]
theorem Chip.can_showErr (c : Chip) (n : Nat) : (c.showErr n).can n = c.can n := by
  have h : Noted c (c.showErr n) := (Noted.fset c _ _ _).trans (.fset _ _ _ _)
  exact h.can n
theorem Chip.can_notAlone (c : Chip) (n : Nat) : (c.notAlone n).can n = { c.can n with alone := 0 } := Chip.can_setCan_self c n _
theorem ErrsShown.setTecRec {c : Chip} {n t r : Nat} (he : c.canErr n = 0) (ht : t < 128) (hr : r < 128) :
    ErrsShown n c (c.setTecRec n t r) ∧ (c.setTecRec n t r).can n = { c.can n with tec := t, rec_ := r } := by
  rw [Chip.setTecRec_active he ht hr]
  exact ⟨(setCan c _).trans (showErr _), (Chip.can_showErr _ n).trans (Chip.can_setCan_self c n _)⟩

/-! ### The end of an attempt (R359, R369) -/

/-- R369: an outcome while no command is in flight and no immobiliser frame waits. -/
theorem Chip.txOutcome_quiet {c : Chip} {n b : Nat} {o : TxOutcome} (hc : c.cmds = []) (hf : c.acc.frameWait = none) :
    c.txOutcome n b o = ((c.setMbPend n b false).fset (R.CAN_MB_STAT n b) F.CAN_MB_STAT_OUTCOME o.code).raise (117 + n) := by
  have hn : Noted c (((c.setMbPend n b false).fset (R.CAN_MB_STAT n b) F.CAN_MB_STAT_OUTCOME o.code).raise (117 + n)) :=
    ((Noted.fbit c _ _ _).trans (.fbit _ _ _ _)).trans <| (Noted.fset _ _ _ _).trans (.raise _ _)
  have hc' := hn.cmds.trans hc
  have hf' : (((c.setMbPend n b false).fset (R.CAN_MB_STAT n b) F.CAN_MB_STAT_OUTCOME o.code).raise (117 + n)).acc.frameWait = none := by
    rw [hn.acc]
    exact hf
  unfold Chip.txOutcome
  generalize ((c.setMbPend n b false).fset (R.CAN_MB_STAT n b) F.CAN_MB_STAT_OUTCOME o.code).raise (117 + n) = d at hc' hf' ⊢
  simp only [Chip.finish_nil _ _ _ _ hc', ite_self, hf', Chip.canTxNext, hc', List.find?_nil]
  split
  · split
    · rfl
    · split <;> rfl
  · rfl

theorem mbBit_ne {n b k : Nat} (hb : b < 64) : R.CAN_MB_STAT n b ≠ (mbBit (R.CAN_TXPEND n 0) (R.CAN_TXPEND n 1) k).1 ∧
    R.CAN_MB_STAT n b ≠ (mbBit (R.CAN_RXFULL n 0) (R.CAN_RXFULL n 1) k).1 := by
  simp only [mbBit, R.CAN_MB_STAT, R.CAN_TXPEND, R.CAN_RXFULL]
  constructor <;> (split <;> omega)

/-- What an outcome leaves of its buffer. -/
theorem Chip.outcome_shown (c : Chip) {n b : Nat} (hn : n < 9) (hb : b < 64) (o : TxOutcome) :
    (((c.setMbPend n b false).fset (R.CAN_MB_STAT n b) F.CAN_MB_STAT_OUTCOME o.code).raise (117 + n)).mbPend n b = false ∧
      (((c.setMbPend n b false).fset (R.CAN_MB_STAT n b) F.CAN_MB_STAT_OUTCOME o.code).raise (117 + n)).fget (R.CAN_MB_STAT n b) F.CAN_MB_STAT_OUTCOME = o.code := by
  have hr := (Served.raise ((c.setMbPend n b false).fset (R.CAN_MB_STAT n b) F.CAN_MB_STAT_OUTCOME o.code) (k := 117 + n) (by omega)).rd (a := R.CAN_MB_STAT n b)
    (by simp only [R.CAN_MB_STAT]; omega)
  constructor
  · rw [Chip.mbPend_of_rd hr, Chip.mbPend, Chip.flag, Chip.fget_fset_field _ _ _ _ _ (by decide) (by decide), Chip.setMbPend, Chip.fbit,
      Chip.fget_fset_ne _ _ _ _ (mbBit_ne hb).1]
    exact Chip.flag_fbit_self c _ _ false (by decide) (by decide)
  · rw [Chip.fget, hr]
    refine (Chip.fget_fset_self _ _ _ _ (by decide)).trans ?_
    cases o <;> rfl

/-- R357: what the delay that an attempt measured changes. -/
def Chip.tdcShown (c : Chip) (n b tdcv : Nat) : Chip :=
  if c.flag (R.CAN_TDC n) F.CAN_TDC_EN ∧ mbFdf.get (c.mbWord n b 1) = 1 ∧ c.fget (R.CAN_TDC n) F.CAN_TDC_TDCF ≤ tdcv
  then c.fset (R.CAN_TDC n) F.CAN_TDC_TDCV tdcv else c
theorem Chip.tdcShown_noted (c : Chip) (n b tdcv : Nat) : Noted c (c.tdcShown n b tdcv) := .ite (.fset _ _ _ _) (.refl c)
theorem Chip.rd_tdcShown (c : Chip) (n b tdcv : Nat) {a : Nat} (h : a ≠ R.CAN_TDC n) : (c.tdcShown n b tdcv).rd a = c.rd a := by
  unfold Chip.tdcShown
  split
  · exact Chip.rd_fset_ne _ _ _ h
  · rfl
/-- R369: an attempt of a controller whose pads are not held ends. -/
theorem Chip.txAttemptEnd_eq {c : Chip} {n b : Nat} (hc : (c.can n).cur = some b) (hh : c.canHeld n = false) (how : TxEnd) (tdcv : Nat) :
    c.txAttemptEnd n how tdcv = if ((((c.tdcShown n b tdcv).attemptEnd n b how).can n).stopping ∧ how ≠ .lost) then
      ((c.tdcShown n b tdcv).attemptEnd n b how).canStop n else (c.tdcShown n b tdcv).attemptEnd n b how := by
  simp only [Chip.txAttemptEnd, hc, hh]
  rfl

/-- The controller's frame is no longer on the bus. -/
def Chip.attemptOver (c : Chip) (n : Nat) : Chip := (c.setCan n { c.can n with cur := none }).fset (R.CAN_STATUS n) F.CAN_STATUS_TX_ACTIVE 0
theorem Chip.attemptOver_says (c : Chip) (n : Nat) :
    ErrsShown n c (c.attemptOver n) ∧ (c.attemptOver n).can n = { c.can n with cur := none } ∧ (c.attemptOver n).canErr n = c.canErr n :=
  ⟨(ErrsShown.setCan c _).trans (.status _ _ _), (Noted.can (.fset _ _ _ _) n).trans (Chip.can_setCan_self c n _),
    Chip.fget_fset_field (c.setCan n _) _ _ _ _ (by decide) (by decide)⟩
theorem Chip.attemptEnd_done (c : Chip) (n b : Nat) : c.attemptEnd n b .done =
    (((c.attemptOver n).setTecRec n (((c.attemptOver n).can n).tec - 1) ((c.attemptOver n).can n).rec_).notAlone n).txOutcome n b .transmitted := rfl
theorem Chip.attemptEnd_lost (c : Chip) (n b : Nat) : c.attemptEnd n b .lost =
    ((c.attemptOver n).fset (R.CAN_STATUS n) F.CAN_STATUS_RX_ACTIVE 1).txRetry n b .lost := rfl

theorem Chip.attemptEnd_transmits {c : Chip} {n b : Nat} (hn : n < 9) (hb : b < 64) (ht : (c.can n).tec < 128) (hr : (c.can n).rec_ < 128) (he : c.canErr n = 0)
    (hf : c.acc.frameWait = none) (hc : c.cmds = []) :
    ((c.attemptEnd n b .done).can n).cur = none ∧ ((c.attemptEnd n b .done).can n).tec = (c.can n).tec - 1 ∧
      ((c.attemptEnd n b .done).can n).stopping = (c.can n).stopping ∧
      (c.attemptEnd n b .done).mbPend n b = false ∧ (c.attemptEnd n b .done).fget (R.CAN_MB_STAT n b) F.CAN_MB_STAT_OUTCOME = 1 := by
  obtain ⟨h₁, h₂, h₃⟩ := c.attemptOver_says n
  rw [Chip.attemptEnd_done]
  generalize c.attemptOver n = d at h₁ h₂ h₃ ⊢
  rw [h₂]
  obtain ⟨k₁, k₂⟩ := ErrsShown.setTecRec (c := d) (n := n) (t := (c.can n).tec - 1) (r := (c.can n).rec_) (h₃.trans he) (by omega) hr
  generalize d.setTecRec n ((c.can n).tec - 1) (c.can n).rec_ = e at k₁ k₂ ⊢
  have h : ErrsShown n c (e.notAlone n) := (h₁.trans k₁).trans (.notAlone e)
  have hcan : (e.notAlone n).can n = { c.can n with cur := none, tec := (c.can n).tec - 1, alone := 0 } := by
    rw [Chip.can_notAlone, k₂, h₂]
  generalize e.notAlone n = g at h hcan ⊢
  rw [Chip.txOutcome_quiet ((h.field (·.cmds)).trans hc) ((h.field (·.acc.frameWait)).trans hf)]
  have hcan' : (((g.setMbPend n b false).fset (R.CAN_MB_STAT n b) F.CAN_MB_STAT_OUTCOME TxOutcome.transmitted.code).raise (117 + n)).can n = g.can n :=
    (((Noted.fbit g _ _ _).trans (.fbit _ _ _ _)).trans <| (Noted.fset _ _ _ _).trans (.raise _ _)).field (·.can n)
  rw [hcan', hcan]
  exact ⟨rfl, rfl, rfl, g.outcome_shown hn hb .transmitted⟩

/-- R369: a lost arbitration leaves a buffer that is to be tried again as it was. -/
theorem Chip.attemptEnd_loses {c : Chip} {n b : Nat} (hn : n < 9) (hs : (c.can n).stopping = false) (ho : mbOneShot.get (c.mbWord n b 1) = 0)
    (hl : c.flag (R.CAN_MB_STAT n b) F.CAN_MB_STAT_CANCEL_LATE = false) :
    ((c.attemptEnd n b .lost).can n).cur = none ∧ (c.attemptEnd n b .lost).mbPend n b = c.mbPend n b ∧ Only [Blk.can] c (c.attemptEnd n b .lost) := by
  obtain ⟨h₁, h₂, -⟩ := c.attemptOver_says n
  rw [Chip.attemptEnd_lost]
  have h : ErrsShown n c ((c.attemptOver n).fset (R.CAN_STATUS n) F.CAN_STATUS_RX_ACTIVE 1) := h₁.trans (.status _ _ _)
  have hcan : ((c.attemptOver n).fset (R.CAN_STATUS n) F.CAN_STATUS_RX_ACTIVE 1).can n = { c.can n with cur := none } := h₂
  generalize (c.attemptOver n).fset (R.CAN_STATUS n) F.CAN_STATUS_RX_ACTIVE 1 = d at h hcan ⊢
  have hmb : d.rd (R.CAN_MB_STAT n b) = c.rd (R.CAN_MB_STAT n b) :=
    h.rd _ (by simp only [R.CAN_MB_STAT, R.CAN_STATUS]; omega) (by simp only [R.CAN_MB_STAT, R.CAN_ERR]; omega)
  have hw : mbOneShot.get (d.mbWord n b 1) = 0 := (congrArg _ (h.field (·.mbWord n b 1))).trans ho
  have hcl : d.flag (R.CAN_MB_STAT n b) F.CAN_MB_STAT_CANCEL_LATE = false := by
    rw [Chip.flag, Chip.fget, hmb]
    exact hl
  have hst : (d.can n).stopping = false := by
    rw [hcan]
    exact hs
  rw [Chip.txRetry, if_neg (by simp [hw, hcl, hst])]
  exact ⟨congrArg CanX.cur hcan, Chip.mbPend_of_rd hmb, (h.only hn).trans (.of_regs rfl)⟩

end Sys2Proof.Machine
end

section
/-! PROOF. Frames that a CAN controller receives, and what the controllers do with frames (R358 to R369). -/

namespace Sys2Proof.Machine
open Sys2Proof

/-! ### Reception (R358, R359, R364, R367) -/

/-- A reception before the filters: the counters of an error-active controller that stays so, a correct frame being no longer alone. -/
def Chip.heard (c : Chip) (n : Nat) : Chip :=
  let x := c.can n
  let c := c.fset (R.CAN_STATUS n) F.CAN_STATUS_RX_ACTIVE 0
  (c.draw.2.setTecRec n x.tec (if 127 < x.rec_ then 119 + Config.recAfter c.draw.1 % 9 else x.rec_ - 1)).notAlone n

section
variable {c : Chip} {n : Nat} (hh : c.canHears n = true) (he : c.canErr n = 0) (ht : (c.can n).tec < 128) (hs : (c.can n).stopping = false)

theorem Chip.frameReceived_valid {f : CanFrame} (sof : Word) (hf : f.fdf = false) (hh : c.canHears n = true) :
    c.frameReceived n (.valid f) sof = if ((c.heard n).filterFrame n f sof |>.can n).stopping ∧ ((c.heard n).filterFrame n f sof |>.can n).cur = none then
      ((c.heard n).filterFrame n f sof).canStop n else (c.heard n).filterFrame n f sof := by
  simp only [Chip.frameReceived, hh, not_true_eq_false, if_false, hf, Bool.false_eq_true, false_and]
  rfl
theorem Chip.frameReceived_error (dom : Bool) (sof : Word) (hh : c.canHears n = true) :
    c.frameReceived n (.error dom) sof = if (((c.fset (R.CAN_STATUS n) F.CAN_STATUS_RX_ACTIVE 0).setTecRec n (c.can n).tec ((c.can n).rec_ + if dom then 8 else 1)).can n).stopping ∧
        (((c.fset (R.CAN_STATUS n) F.CAN_STATUS_RX_ACTIVE 0).setTecRec n (c.can n).tec ((c.can n).rec_ + if dom then 8 else 1)).can n).cur = none then
      ((c.fset (R.CAN_STATUS n) F.CAN_STATUS_RX_ACTIVE 0).setTecRec n (c.can n).tec ((c.can n).rec_ + if dom then 8 else 1)).canStop n
    else (c.fset (R.CAN_STATUS n) F.CAN_STATUS_RX_ACTIVE 0).setTecRec n (c.can n).tec ((c.can n).rec_ + if dom then 8 else 1) := by
  simp only [Chip.frameReceived, hh, not_true_eq_false, if_false]

include he ht
theorem Chip.heard_says (hr : (c.can n).rec_ < 128) :
    ErrsShown n c (c.heard n) ∧ (c.heard n).can n = { c.can n with rec_ := (c.can n).rec_ - 1, alone := 0 } := by
  unfold Chip.heard
  extract_lets x d
  have h₁ : ErrsShown n c d.draw.2 := (ErrsShown.status c _ _).trans (.drawn _)
  have h₂ : d.draw.2.can n = c.can n := rfl
  have h₃ : d.draw.2.canErr n = c.canErr n := c.canErr_rxActive n 0
  have hx : x.rec_ < 128 := hr
  rw [if_neg (by omega)]
  generalize d.draw.2 = e at h₁ h₂ h₃ ⊢
  obtain ⟨k₁, k₂⟩ := ErrsShown.setTecRec (c := e) (n := n) (t := x.tec) (r := x.rec_ - 1) (h₃.trans he) ht (by omega)
  generalize e.setTecRec n x.tec (x.rec_ - 1) = g at k₁ k₂ ⊢
  exact ⟨(h₁.trans k₁).trans (.notAlone g), by rw [Chip.can_notAlone, k₂, h₂]⟩

/-- R359: an error of an error-active controller that stays so. -/
theorem Chip.errorHeard_says {r : Nat} (hr : r < 128) :
    ErrsShown n c ((c.fset (R.CAN_STATUS n) F.CAN_STATUS_RX_ACTIVE 0).setTecRec n (c.can n).tec r) ∧
      ((c.fset (R.CAN_STATUS n) F.CAN_STATUS_RX_ACTIVE 0).setTecRec n (c.can n).tec r).can n = { c.can n with rec_ := r } := by
  obtain ⟨k₁, k₂⟩ := ErrsShown.setTecRec (c := c.fset (R.CAN_STATUS n) F.CAN_STATUS_RX_ACTIVE 0) (n := n) (t := (c.can n).tec) (r := r)
    ((c.canErr_rxActive n 0).trans he) ht hr
  refine ⟨(ErrsShown.status c _ _).trans k₁, k₂.trans ?_⟩
  have hc : (c.fset (R.CAN_STATUS n) F.CAN_STATUS_RX_ACTIVE 0).can n = c.can n := Noted.can (.fset c _ _ _) n
  rw [hc]
end

theorem Chip.filterMatch_of_rd {c c' : Chip} {n k : Nat} (f : CanFrame) (h : c'.rd (R.CAN_FLT_ID n k) = c.rd (R.CAN_FLT_ID n k))
    (h' : c'.rd (R.CAN_FLT_MASK n k) = c.rd (R.CAN_FLT_MASK n k)) : c'.filterMatch n k f = c.filterMatch n k f := by
  simp only [Chip.filterMatch, Chip.fget, h, h']
theorem ErrsShown.filterMatch {c c' : Chip} {n k : Nat} (h : ErrsShown n c c') (f : CanFrame) : c'.filterMatch n k f = c.filterMatch n k f :=
  Chip.filterMatch_of_rd f (h.rd _ (by simp only [R.CAN_FLT_ID, R.CAN_STATUS]; omega) (by simp only [R.CAN_FLT_ID, R.CAN_ERR]; omega))
    (h.rd _ (by simp only [R.CAN_FLT_MASK, R.CAN_STATUS]; omega) (by simp only [R.CAN_FLT_MASK, R.CAN_ERR]; omega))

theorem Chip.filterFrame_none {c : Chip} {n : Nat} {f : CanFrame} {sof : Word} (h : ∀ k, k < 64 → c.filterMatch n k f = false) :
    c.filterFrame n f sof = c.bump (R.CAN_RX_NOMATCH_CNT n) := by
  have hf : ((List.range 64).find? fun k => c.filterMatch n k f) = none := List.find?_eq_none.2 fun k hk => by simp [h k (List.mem_range.1 hk)]
  simp only [Chip.filterFrame, hf]

/-- The false-wake check that an accepted frame ends (R428). -/
def Chip.checkEnded (c : Chip) (n : Nat) : Chip :=
  if n < 8 ∧ (c.fget R.NM_CTRL F.NM_CTRL_FW_MASK).testBit n then c.fset R.NM_FW_STATUS F.NM_FW_STATUS_ARMED 0 else c
theorem Chip.checkEnded_noted (c : Chip) (n : Nat) : Noted c (c.checkEnded n) := .ite (.fset _ _ _ _) (.refl c)

theorem Chip.filterFrame_buffer {c : Chip} {n k : Nat} {f : CanFrame} {sof : Word} (hk : k < 64) (h : c.filterMatch n k f = true)
    (hlow : ∀ j, j < 64 → j < k → c.filterMatch n j f = false) (hb : c.mbKindOf n k = 1) (ho : (c.mbX n k).owner = none) :
    c.filterFrame n f sof = (c.checkEnded n).mbStore n k (frameWords f 1 k sof) := by
  have hf : ((List.range 64).find? fun k => c.filterMatch n k f) = some k :=
    List.find?_range_eq_some.2 ⟨h, List.mem_range.2 hk, fun j hj => by simp [hlow j (hj.trans hk) hj]⟩
  have hn := c.checkEnded_noted n
  have hb' : (c.checkEnded n).mbKindOf n k = 1 := (hn.field (·.mbKindOf n k)).trans hb
  have ho' : ((c.checkEnded n).mbX n k).owner = none := (congrArg MbX.owner (hn.field (·.mbX n k))).trans ho
  have he : c.filterFrame n f sof = if (c.checkEnded n).mbKindOf n k = 1 then (c.checkEnded n).mbAccept n k (frameWords f 1 k sof) else
      (if (frameWords f 0 k sof).length ≤ (c.checkEnded n).qFree (11 + n) then c.checkEnded n else ((c.checkEnded n).bump (R.CAN_RX_DROP_CNT n)).raise 127).hwPush
        (11 + n) (frameWords f 0 k sof) := by
    simp only [Chip.filterFrame, hf]
    rfl
  rw [he, if_pos hb']
  simp only [Chip.mbAccept, ho', Option.isSome_none, Bool.false_eq_true, if_false]

/-- A fill of a buffer changes nothing but words of buffers. -/
theorem Chip.mbFill_rest (c : Chip) (n b : Nat) (ws : List Word) : ∃ m, c.mbFill n b ws = { c with mbs := m } :=
  List.foldlRecOn _ _ (motive := fun (d : Chip) => ∃ m, d = { c with mbs := m }) ⟨c.mbs, rfl⟩ fun d hd w _ => by
    obtain ⟨m, rfl⟩ := hd
    exact ⟨_, rfl⟩

/-- R365: what a stored frame leaves. -/
theorem Chip.mbStore_says (c : Chip) {n b : Nat} (hn : n < 9) (hb : b < 64) (ws : List Word) :
    (c.mbStore n b ws).mbFull n b = true ∧ (∀ w < ws.length, (c.mbStore n b ws).mbWord n b w = ws.getD w 0) ∧ (c.mbStore n b ws).can n = c.can n := by
  unfold Chip.mbStore
  extract_lets d
  have hd : Noted c d := .ite (.bump _ _ _) (.refl c)
  have hcan : (d.mbFill n b ws).can n = c.can n := by
    obtain ⟨m, hm⟩ := d.mbFill_rest n b ws
    rw [hm]
    exact hd.field (·.can n)
  have hw : ∀ w < ws.length, (d.mbFill n b ws).mbWord n b w = ws.getD w 0 := fun w hw => d.mbWord_mbFill hw
  generalize d.mbFill n b ws = e at hcan hw ⊢
  have hr := Served.raise (e.setMbFull n b true) (k := 117 + n) (by omega)
  have hf : Noted e (e.setMbFull n b true) := (Noted.fbit _ _ _ _).trans (.fbit _ _ _ _)
  refine ⟨?_, fun w h => ?_, ?_⟩
  · rw [Chip.mbFull, Chip.flag, Chip.fget, hr.rd (by simp only [R.CAN_MB_STAT]; omega), Chip.setMbFull, Chip.fbit, Chip.rd_fset_ne _ _ _ (mbBit_ne hb).2]
    exact Chip.flag_fbit_self e _ _ true (by decide) (by decide)
  · rw [hr.mbWord, hf.mbWord]
    exact hw w h
  · rw [hr.can, hf.can]
    exact hcan

/-- The second word of a received frame. -/
def rxWord1 (f : CanFrame) (k : Nat) : Word :=
  mbDlc.put (mbFdf.put (mbBrs.put (mbEsi.put (mbRtr.put (mbFilter.of k) f.rtr.toNat) f.esi.toNat) f.brs.toNat) f.fdf.toNat) f.dlc
theorem frameWords_eq (f : CanFrame) (kind k : Nat) (sof : Word) : frameWords f kind k sof = mbId.put (mbXtd.put (mbKind.of kind) f.xtd.toNat) f.id.toNat ::
    rxWord1 f k :: sof :: (List.range (lastWord (rxWord1 f k) - 2)).map fun k => f.data.getD k 0 := rfl

theorem mbId_get_put (w : Word) (x : BitVec 29) : mbId.get (mbId.put w x.toNat) = x.toNat := by
  have hlt : x.toNat < 2 ^ mbId.w := by
    rw [show mbId.w = 29 from rfl]
    exact x.isLt
  rw [Fld.get_put mbId w x.toNat (by decide), Nat.mod_eq_of_lt hlt]
theorem third_word (w₀ w₁ x : Word) (l : List Word) : 2 < (w₀ :: w₁ :: x :: l).length ∧ (w₀ :: w₁ :: x :: l).getD 2 0 = x := by simp

/-- R364: the words of a frame begin with its identifier and its time. -/
theorem frameWords_head (f : CanFrame) (kind k : Nat) (sof : Word) : 2 < (frameWords f kind k sof).length ∧ (frameWords f kind k sof).getD 2 0 = sof ∧
    mbId.get ((frameWords f kind k sof).getD 0 0) = f.id.toNat := by
  rw [frameWords_eq, List.getD_cons_zero]
  obtain ⟨h₁, h₂⟩ := third_word (mbId.put (mbXtd.put (mbKind.of kind) f.xtd.toNat) f.id.toNat) (rxWord1 f k) sof
    ((List.range (lastWord (rxWord1 f k) - 2)).map fun k => f.data.getD k 0)
  exact ⟨h₁, h₂, mbId_get_put _ _⟩
theorem rxWord1_last {f : CanFrame} {k : Nat} (hd : f.dlc = 8) (hr : f.rtr = false) : lastWord (rxWord1 f k) = 4 := by
  have h₁ : mbDlc.get (rxWord1 f k) = 8 := by
    rw [rxWord1, hd]
    exact (Fld.get_put _ _ _ (by decide)).trans (by decide)
  have h₂ : mbRtr.get (rxWord1 f k) = 0 := by
    rw [rxWord1, Fld.get_put_ne _ _ _ _ (by decide) (by decide), Fld.get_put_ne _ _ _ _ (by decide) (by decide), Fld.get_put_ne _ _ _ _ (by decide) (by decide),
      Fld.get_put_ne _ _ _ _ (by decide) (by decide), hr]
    exact Fld.get_put _ _ _ (by decide)
  simp [lastWord, frameBytes, h₁, h₂]
/-- R364: the data words of a classic frame of eight bytes. -/
theorem frameWords_data {f : CanFrame} {kind k : Nat} {sof : Word} (hd : f.dlc = 8) (hr : f.rtr = false) :
    (frameWords f kind k sof).length = 5 ∧ (frameWords f kind k sof).getD 3 0 = f.data.getD 0 0 ∧ (frameWords f kind k sof).getD 4 0 = f.data.getD 1 0 := by
  rw [frameWords_eq, rxWord1_last hd hr]
  exact ⟨rfl, rfl, rfl⟩

theorem txAttemptEnd_done (n : Fin 9) (b : Fin 64) (tdcv : BitVec 7) {s : State} (hc : (s.chip.can n).cur = some b.val ∧ (s.chip.can n).stopping = false)
    (he : (s.chip.can n).tec < 128 ∧ (s.chip.can n).rec_ < 128 ∧ s.chip.canErr n = 0 ∧ s.chip.canHeld n = false)
    (hf : s.chip.acc.frameWait = none ∧ s.chip.cmds = []) : ∃ c, exec (.canTxAttemptEnd n .done tdcv) s = .next { s with chip := c } ∧
      (c.can n).cur = none ∧ (c.can n).tec = (s.chip.can n).tec - 1 ∧ c.mbPend n b = false ∧ c.fget (R.CAN_MB_STAT n b) F.CAN_MB_STAT_OUTCOME = 1 := by
  have h := s.chip.tdcShown_noted n b tdcv.toNat
  have hd : (s.chip.tdcShown n b tdcv.toNat).can n = s.chip.can n := h.field (·.can n)
  have herr : (s.chip.tdcShown n b tdcv.toNat).canErr n = 0 := by
    rw [Chip.canErr, Chip.fget, s.chip.rd_tdcShown n b tdcv.toNat (by simp only [R.CAN_STATUS, R.CAN_TDC]; omega)]
    exact he.2.2.1
  obtain ⟨h₁, h₂, h₃, h₄, h₅⟩ := Chip.attemptEnd_transmits (c := s.chip.tdcShown n b tdcv.toNat) n.2 b.2 (by rw [hd]; exact he.1) (by rw [hd]; exact he.2.1) herr
    (by rw [h.acc]; exact hf.1) (h.cmds.trans hf.2)
  exact ⟨_, State.next_chip ((Chip.txAttemptEnd_eq hc.1 he.2.2.2 _ _).trans (if_neg (by rw [h₃, hd]; simp [hc.2]))), h₁, h₂.trans (by rw [hd]), h₄, h₅⟩

theorem txAttemptEnd_lost (n : Fin 9) (b : Fin 64) (tdcv : BitVec 7) {s : State} (hc : (s.chip.can n).cur = some b.val ∧ (s.chip.can n).stopping = false ∧ s.chip.canHeld n = false)
    (hb : s.chip.mbPend n b = true ∧ mbOneShot.get (s.chip.mbWord n b 1) = 0 ∧ s.chip.flag (R.CAN_MB_STAT n b) F.CAN_MB_STAT_CANCEL_LATE = false) :
    ∃ c, exec (.canTxAttemptEnd n .lost tdcv) s = .next { s with chip := c } ∧ (c.can n).cur = none ∧ c.mbPend n b = true ∧ Only [Blk.can] s.chip c := by
  have h := s.chip.tdcShown_noted n b tdcv.toNat
  have hmb : (s.chip.tdcShown n b tdcv.toNat).rd (R.CAN_MB_STAT n b) = s.chip.rd (R.CAN_MB_STAT n b) :=
    s.chip.rd_tdcShown n b tdcv.toNat (by simp only [R.CAN_MB_STAT, R.CAN_TDC]; omega)
  have hl : (s.chip.tdcShown n b tdcv.toNat).flag (R.CAN_MB_STAT n b) F.CAN_MB_STAT_CANCEL_LATE = false := by
    rw [Chip.flag, Chip.fget, hmb]
    exact hb.2.2
  have ho : Only [Blk.can] s.chip (s.chip.tdcShown n b tdcv.toNat) := fun a ha => s.chip.rd_tdcShown n b tdcv.toNat (by
    have := ha Blk.can (List.mem_singleton_self _)
    simp only [Blk.can] at this
    simp only [R.CAN_TDC]
    omega)
  obtain ⟨h₁, h₂, h₃⟩ := Chip.attemptEnd_loses (c := s.chip.tdcShown n b tdcv.toNat) n.2 ((congrArg CanX.stopping (h.field (·.can n))).trans hc.2.1)
    ((congrArg _ (h.field (·.mbWord n b 1))).trans hb.2.1) hl
  exact ⟨_, State.next_chip ((Chip.txAttemptEnd_eq hc.1 hc.2.2 _ _).trans (if_neg (by simp))), h₁, h₂.trans ((Chip.mbPend_of_rd hmb).trans hb.1), ho.trans h₃⟩

section
variable (n : Fin 9) {f : CanFrame} (sof : Word) {s : State} (hh : s.chip.canHears n = true ∧ s.chip.canErr n = 0) (hf : f.fdf = false)
  (hx : (s.chip.can n).tec < 128 ∧ (s.chip.can n).rec_ < 128 ∧ (s.chip.can n).stopping = false)
include hh hf hx

theorem frameReceived_unmatched (hk : ∀ k, k < 64 → s.chip.filterMatch n k f = false) : ∃ c, exec (.canFrameReceived n (.valid f) sof) s = .next { s with chip := c } ∧
    c.rd (R.CAN_RX_NOMATCH_CNT n) = .ofNat 32 (min 0xFFFFFFFF ((s.chip.rd (R.CAN_RX_NOMATCH_CNT n)).toNat + 1)) ∧ (c.can n).rec_ = (s.chip.can n).rec_ - 1 ∧
    Only [Blk.sys, Blk.evr, Blk.can] s.chip c := by
  obtain ⟨h₁, h₂⟩ := Chip.heard_says (c := s.chip) hh.2 hx.1 hx.2.1
  have hcan : ((s.chip.heard n).bump (R.CAN_RX_NOMATCH_CNT n)).can n = (s.chip.heard n).can n := Noted.can (.bump _ _ _) n
  have he : s.chip.frameReceived n (.valid f) sof = (s.chip.heard n).bump (R.CAN_RX_NOMATCH_CNT n) := by
    rw [Chip.frameReceived_valid sof hf hh.1, Chip.filterFrame_none fun k hlt => (h₁.filterMatch f).trans (hk k hlt), if_neg]
    rw [hcan, h₂]
    simp [hx.2.2]
  refine ⟨_, State.next_chip he, ?_, ?_, ?_⟩
  · rw [Chip.rd_bump_self, h₁.rd _ (by simp only [R.CAN_RX_NOMATCH_CNT, R.CAN_STATUS]; omega) (by simp only [R.CAN_RX_NOMATCH_CNT, R.CAN_ERR]; omega)]
  · rw [hcan, h₂]
  · exact ((h₁.only n.2).trans (.bump _ _ _ (mem_canBlk n.2 (by simp only [R.CAN_RX_NOMATCH_CNT]; omega)))).sub (by simp)

theorem frameReceived_stored (k : Fin 64) (hm : s.chip.filterMatch n k f = true) (hlow : ∀ j, j < 64 → j < k.val → s.chip.filterMatch n j f = false)
    (hb : s.chip.mbKindOf n k = 1 ∧ (s.chip.mbX n k).owner = none) : ∃ c, exec (.canFrameReceived n (.valid f) sof) s = .next { s with chip := c } ∧
    c.mbFull n k = true ∧ c.mbWord n k 2 = sof ∧ mbId.get (c.mbWord n k 0) = f.id.toNat ∧
    (f.dlc = 8 ∧ f.rtr = false → c.mbWord n k 3 = f.data.getD 0 0 ∧ c.mbWord n k 4 = f.data.getD 1 0) := by
  obtain ⟨h₁, h₂⟩ := Chip.heard_says (c := s.chip) hh.2 hx.1 hx.2.1
  have hff := Chip.filterFrame_buffer (c := s.chip.heard n) (sof := sof) k.2 ((h₁.filterMatch f).trans hm) (fun j hj hjk => (h₁.filterMatch f).trans (hlow j hj hjk))
    ((h₁.field (·.mbKindOf n k)).trans hb.1) ((congrArg MbX.owner (h₁.field (·.mbX n k))).trans hb.2)
  obtain ⟨hfull, hw, hcan⟩ := ((s.chip.heard n).checkEnded n).mbStore_says n.2 k.2 (frameWords f 1 k sof)
  have he : s.chip.frameReceived n (.valid f) sof = ((s.chip.heard n).checkEnded n).mbStore n k (frameWords f 1 k sof) := by
    rw [Chip.frameReceived_valid sof hf hh.1, hff, if_neg]
    rw [hcan, ((s.chip.heard n).checkEnded_noted n).can, h₂]
    simp [hx.2.2]
  obtain ⟨hl, hsof, hid⟩ := frameWords_head f 1 k sof
  refine ⟨_, State.next_chip he, hfull, (hw 2 hl).trans hsof, (congrArg _ (hw 0 (by omega))).trans hid, fun hd => ?_⟩
  obtain ⟨hl', h3, h4⟩ := frameWords_data (kind := 1) (k := k) (sof := sof) hd.1 hd.2
  exact ⟨(hw 3 (by omega)).trans h3, (hw 4 (by omega)).trans h4⟩
end

/-- Settles O44: an error-active controller that stays so keeps its error state, an outcome with nothing waiting ends in the buffer's own registers, and
the winner of an arbitration is the least of a fold. -/
theorem canFramesSendAndReceive : Obligations.CanFramesSendAndReceive := by
  unfold Obligations.CanFramesSendAndReceive
  refine ⟨fun n b s hm hw => ?_, fun n b tdcv s hc he hf => ?_, fun n b tdcv s hc hb => ?_, fun n f sof s hh hf hx hk => ?_,
    fun n k f sof s hh hf hx hm hlow hb => ?_, fun n dom sof s hh hx => ?_⟩
  · obtain ⟨h₁, h₂, h₃, h₄⟩ := Chip.arbitrate_says n.2 b.2 hm hw
    exact ⟨_, State.next_chip rfl, h₁, h₂, h₃, fun m hm hp hf => Chip.txWinner_least hw hm hp hf, h₄⟩
  · exact txAttemptEnd_done n b tdcv hc he hf
  · exact txAttemptEnd_lost n b tdcv hc hb
  · exact frameReceived_unmatched n sof hh hf hx hk
  · exact frameReceived_stored n sof hh hf hx k hm hlow hb
  · obtain ⟨h₁, h₂⟩ := Chip.errorHeard_says (c := s.chip) hh.2 hx.1 (r := (s.chip.can n).rec_ + if dom then 8 else 1) (by split <;> omega)
    refine ⟨_, State.next_chip ((Chip.frameReceived_error dom sof hh.1).trans (if_neg ?_)), congrArg CanX.rec_ h₂, (h₁.only n.2).sub ?_⟩
    · rw [h₂]
      simp [hx.2.2]
    · simp

end Sys2Proof.Machine
end

section
/-! SUPPORT. What entering a parking mode leaves of the command table and of the retained registers (R385, R387, R391). -/

namespace Sys2Proof.Machine
open Sys2Proof

/-! ### An empty command table stays empty -/

/-- A command table that is empty stays empty. -/
def Emptied (c c' : Chip) : Prop := c.cmds = [] → c'.cmds = []

namespace Emptied

variable {c c' c'' : Chip}

theorem of_cmds (h : c'.cmds = c.cmds) : Emptied c c' := h.trans
theorem refl (c : Chip) : Emptied c c := id
theorem trans (h : Emptied c c') (h' : Emptied c' c'') : Emptied c c'' := h' ∘ h
theorem ite {p : Prop} [Decidable p] (h : Emptied c c') (h' : Emptied c c'') : Emptied c (if p then c' else c'') := by
  split
  · exact h
  · exact h'
theorem noted (h : Noted c c') : Emptied c c' := of_cmds h.cmds
theorem setGrain (c : Chip) (g : Grain) : Emptied c (c.setGrain g) := of_cmds rfl
theorem startCmds (c : Chip) (p : Cmd → Bool) : Emptied c (c.startCmds p) := fun h => by rw [Chip.startCmds, h, List.map_nil]
theorem finish (c : Chip) (p : Cmd → Bool) (st : CmdStatus) (res : List Word) : Emptied c (c.finish p st res) := fun h => by
  rwa [Chip.finish_nil c p st res h]

theorem logSync (c : Chip) : Emptied c c.logSync :=
  noted (((Noted.wr c _ _).trans (.wr _ _ _)).trans ((Noted.fset _ _ _ _).trans (.wr _ _ _)))
theorem logWrite (c : Chip) (typ : Nat) (pay : BitVec 128) (reserve late : Bool) : Emptied c (c.logWrite typ pay reserve late) :=
  (setGrain c _).trans (logSync _)
theorem checkFull (c : Chip) : Emptied c c.checkFull := ite (refl c) (noted ((Noted.fset _ _ _ _).trans (.raise _ _)))
theorem logLost (c : Chip) : Emptied c c.logLost := (noted (.bump _ _ _)).trans (setGrain _ _)
theorem logReserve (c : Chip) (typ : Nat) (pay : BitVec 128) (late : Bool) : Emptied c (c.logReserve typ pay late) :=
  ite ((logWrite c typ pay true late).trans (checkFull _)) (logLost c)
theorem logFold (c : Chip) (typ : Nat) : Emptied c (c.logFold typ) := (setGrain c _).trans (logSync _)
theorem beginFolding (c : Chip) : Emptied c c.beginFolding :=
  ite (refl c) (((noted (.fset _ _ _ _)).trans (logReserve _ _ _ _)).trans (noted (.raise _ _)))
theorem logAdd (c : Chip) (typ : Nat) (pay : BitVec 128) (late : Bool) : Emptied c (c.logAdd typ pay late) :=
  ite (ite (setGrain c _) (ite (logFold c typ) (logLost c)))
    (ite (logWrite c typ pay false late) ((beginFolding c).trans (ite (logFold _ typ) (logReserve _ typ pay late))))
theorem startSeal (c : Chip) : Emptied c c.startSeal :=
  ite (logAdd c _ _ _) (((logAdd c _ _ _).trans (setGrain _ _)).trans (noted (.fset _ _ _ _)))
theorem takeSeal (c : Chip) : Emptied c c.takeSeal := (setGrain c _).trans (startSeal _)
theorem takeAttest (c : Chip) : Emptied c c.takeAttest := by
  unfold Chip.takeAttest
  split
  · exact (setGrain c _).trans (startCmds _ _)
  · exact refl c
theorem nextJob (c : Chip) : Emptied c c.nextJob := by
  have sealed (p : Prop) [Decidable p] : Emptied c (if p then c.takeSeal else c) := ite (takeSeal c) (refl c)
  exact ite (refl c) (ite (sealed _) ((sealed _).trans (takeAttest _)))
theorem log (c : Chip) (typ : Nat) (pay : BitVec 128) (late : Bool) : Emptied c (c.log typ pay late) :=
  ite (ite ((logAdd c typ pay late).trans ((setGrain _ _).trans (nextJob _))) (logAdd c typ pay late)) (setGrain c _)
theorem logLostRecord (c : Chip) (cl : Bool) : Emptied c (c.logLostRecord cl) := ite (refl c) ((log c _ _ _).trans (setGrain _ _))
end Emptied

/-! ### The retained registers that an entry sets or counts in -/

/-- The mode, the pad holds, the banks kept and selected, and the count of false wakes. -/
def parkRegs : List Nat := [R.SYS_MODE, R.SYS_PAD_HOLD, R.RET_KEPT, R.RET_SEL, R.NM_FALSE_WAKE_CNT]

/-- What empties dies on the way into a parking mode: no command is added, and the registers above stay. -/
structure Parking (c c' : Chip) : Prop where
  cmds : Emptied c c'
  rd : ∀ a ∈ parkRegs, c'.rd a = c.rd a

theorem parkRegs_low : ∀ a ∈ parkRegs, a < 0x40000500 ∨ 0x40030000 ≤ a ∧ a < 0x400C0000 := by decide

namespace Parking

variable {c c' c'' : Chip}

theorem refl (c : Chip) : Parking c c := ⟨.refl c, fun _ _ => rfl⟩
theorem trans (h : Parking c c') (h' : Parking c' c'') : Parking c c'' := ⟨h.cmds.trans h'.cmds, fun a ha => (h'.rd a ha).trans (h.rd a ha)⟩
theorem ite {p : Prop} [Decidable p] (h : Parking c c') (h' : Parking c c'') : Parking c (if p then c' else c'') := by
  split
  · exact h
  · exact h'
theorem foldl {α : Type} {f : Chip → α → Chip} (h : ∀ c x, Parking c (f c x)) : ∀ (xs : List α) (c : Chip), Parking c (xs.foldl f c)
  | [], c => refl c
  | x :: xs, c => (h c x).trans (foldl h xs _)
/-- What is no register and no command. -/
theorem of_regs (hr : c'.regs = c.regs) (hc : c'.cmds = c.cmds) : Parking c c' := ⟨.of_cmds hc, fun a _ => by rw [Chip.rd, Chip.rd, hr]⟩
theorem wr (c : Chip) {a : Nat} (x : Word) (ha : 0x400C0000 ≤ a) : Parking c (c.wr a x) := ⟨.of_cmds rfl, fun b hb => Chip.rd_wr_ne c x (by
  have := parkRegs_low b hb
  omega)⟩
theorem fset (c : Chip) {a : Nat} (f : Fld) (v : Nat) (ha : 0x400C0000 ≤ a) : Parking c (c.fset a f v) := wr c _ ha
theorem fbit (c : Chip) {a : Nat} (f : Fld) (b : Bool) (ha : 0x400C0000 ≤ a) : Parking c (c.fbit a f b) := wr c _ ha
theorem fbumpWrap (c : Chip) {a : Nat} (f : Fld) (ha : 0x400C0000 ≤ a) : Parking c (c.fbumpWrap a f) := wr c _ ha
theorem bump (c : Chip) {a : Nat} (n : Nat) (ha : 0x400C0000 ≤ a) : Parking c (c.bump a n) := wr c _ ha
theorem served (h : Served c c') (hc : Emptied c c') : Parking c c' := ⟨hc, fun a ha => h.rd (by
  have := parkRegs_low a ha
  omega)⟩
theorem raise (c : Chip) {k : Nat} (hk : k < 256) : Parking c (c.raise k) := served (.raise c hk) (.noted (.raise c k))
theorem raiseFrom (c : Chip) (d : Nat) {k : Nat} (hk : k < 256) : Parking c (c.raiseFrom d k) := ite (raise c hk) (refl c)
theorem finish (c : Chip) (p : Cmd → Bool) (st : CmdStatus) (res : List Word) : Parking c (c.finish p st res) :=
  served (.finish c p st res) (.finish c p st res)
theorem log (c : Chip) (typ : Nat) (pay : BitVec 128) (late : Bool) : Parking c (c.log typ pay late) :=
  ⟨.log c typ pay late, fun a ha => (Told.log (l := []) c typ pay late).rd (fun _ h => absurd h List.not_mem_nil) (by
    have := parkRegs_low a ha
    omega) (by
    have := parkRegs_low a ha
    omega)⟩
theorem setGrain (c : Chip) (g : Grain) : Parking c (c.setGrain g) := of_regs rfl rfl
theorem setModex (c : Chip) (x : ModeX) : Parking c (c.setModex x) := of_regs rfl rfl
theorem setChan (c : Chip) (ch : Nat) (x : ChanX) : Parking c (c.setChan ch x) := of_regs rfl rfl
theorem setDie (c : Chip) (n : Nat) (x : DieX) : Parking c (c.setDie n x) := of_regs rfl rfl
theorem setValve (c : Chip) (v : Nat) (x : ValveX) : Parking c (c.setValve v x) := of_regs rfl rfl
theorem setSink (c : Chip) (v : Nat) (x : SinkX) : Parking c (c.setSink v x) := of_regs rfl rfl
theorem setEng (c : Chip) (v : Nat) (x : EngX) : Parking c (c.setEng v x) := of_regs rfl rfl
theorem setSealX (c : Chip) (v : Nat) (x : SealX) : Parking c (c.setSealX v x) := of_regs rfl rfl

/-! ### Channels (R385) -/

theorem chanReg (c : Chip) (ch o : Nat) (f : Fld) (v : Nat) : Parking c (c.fset (chBase ch + o) f v) := fset c f v (by simp only [chBase]; omega)
theorem leavePwm (c : Chip) (ch : Nat) : Parking c (c.leavePwm ch) :=
  (((setChan c ch _).trans (chanReg _ ch 0x1C _ _)).trans (fset _ _ _ (by simp only [R.CH_OL_STATUS, chBase]; omega))).trans
    (fset _ _ _ (by simp only [R.CH_OL_STATUS, chBase]; omega))
theorem updateHk (c : Chip) (n lids : Nat) : Parking c (c.updateHk n lids) :=
  ((fset c _ _ (by simp only [R.PWR_HK_STATUS]; omega)).trans (fset _ _ _ (by simp only [R.PWR_HK_STATUS]; omega))).trans
    (fbit _ _ _ (by simp only [R.PWR_HK_STATUS]; omega))
theorem lidEnd (c : Chip) (ch st : Nat) : Parking c (c.lidEnd ch st) :=
  (((fset c _ _ (by simp only [R.CH_LID_RESULT, chBase]; omega)).trans (fbumpWrap _ _ (by simp only [R.CH_LID_RESULT, chBase]; omega))).trans
    (setChan _ ch _)).trans (updateHk _ _ _)
theorem lidAbort (c : Chip) (ch : Nat) : Parking c (c.lidAbort ch) := by
  unfold Chip.lidAbort
  refine ite ?_ (refl c)
  obtain ⟨d, hd⟩ : ∃ d, d = c.lidEnd ch 3 := ⟨_, rfl⟩
  have he : Parking c d := hd ▸ lidEnd c ch 3
  rw [← hd]
  exact ⟨fun hc => List.map_eq_nil_iff.2 hc, he.rd⟩
theorem stopDrive (c : Chip) (ch : Nat) : Parking c (c.stopDrive ch) := by
  unfold Chip.stopDrive
  extract_lets was x d e
  have hd : Parking c d := (setChan c ch _).trans (leavePwm _ ch)
  have he : Parking d e := ite (chanReg d ch 0x3C _ _) (refl d)
  exact hd.trans <| he.trans <| ite (lidAbort e ch) (refl e)
theorem withdraw (c : Chip) (ch : Nat) : Parking c (c.withdraw ch) := (setDie c _ _).trans (chanReg _ ch 0x1C _ _)
theorem setHoldSub (c : Chip) (ch : Nat) (x : ChState) : Parking c (c.setHoldSub ch x) := chanReg c ch 0x3C _ _
theorem setChState (c : Chip) (ch : Nat) (x : ChState) : Parking c (c.setChState ch x) := by
  have h : Parking c (if c.chState ch = x then c else c.setChan ch { c.chan ch with cycle := 0 }) := ite (refl c) (setChan c ch _)
  exact h.trans (chanReg _ ch 0x1C _ _)
theorem setChRun (c : Chip) (ch : Nat) (x : ChState) : Parking c (c.setChRun ch x) := ite (setHoldSub c ch x) (setChState c ch x)
theorem goOff (c : Chip) (ch : Nat) : Parking c (c.goOff ch) :=
  ((((stopDrive c ch).trans (withdraw _ ch)).trans (setChRun _ ch _)).trans (chanReg _ ch 0x1C _ _)).trans
    ((chanReg _ ch 0x3C _ _).trans (chanReg _ ch 0x3C _ _))
theorem dropPending (c : Chip) (ch : Nat) : Parking c (c.dropPending ch) := (setChan c ch _).trans (chanReg _ ch 0x1C _ _)
theorem parkChan (c : Chip) (ch : Nat) : Parking c (c.parkChan ch) :=
  ite (((((goOff c ch).trans (dropPending _ ch)).trans (fset _ _ _ (by simp only [R.CH_CMD, chBase]; omega))).trans
    (fset _ _ _ (by simp only [R.CH_ACTIVE_CMD, chBase]; omega))).trans (setChState _ ch _)) (refl c)

/-! ### Valves and lights (R385) -/

theorem vlvReg (c : Chip) {v a : Nat} (f : Fld) (x : Nat) (ha : vlvBase v ≤ a) : Parking c (c.fset a f x) := fset c f x (by
  simp only [vlvBase, vgBase] at ha
  omega)
theorem setVState (c : Chip) (v : Nat) (x : ValveState) : Parking c (c.setVState v x) := vlvReg c (v := v) _ _ (by simp only [R.VLV_STATUS]; omega)
theorem vLeave (c : Chip) (v : Nat) (x : ValveState) : Parking c (c.vLeave v x) :=
  ((vlvReg c (v := v) _ _ (by simp only [R.VLV_STATUS]; omega)).trans (vlvReg _ (v := v) _ _ (by simp only [R.VLV_STATUS]; omega))).trans
    (ite (setValve _ v _) (setVState _ v x))
theorem parkValve (c : Chip) (v : Nat) : Parking c (c.parkValve v) := by
  have h : Parking c ((((((c.vLeave v .off).setVState v (if c.vEnabled v then .off else .disabled)).setValve v { c.valve v with sub := 0, again := false }).vClearReq v).vOnDone v
      .cancelled).vOffDone v) :=
    (((((vLeave c v _).trans (setVState _ v _)).trans (setValve _ v _)).trans (vlvReg _ (v := v) _ _ (by simp only [R.VLV_CMD]; omega))).trans (finish _ _ _ _)).trans
      (finish _ _ _ _)
  unfold Chip.parkValve
  split
  case h_4 => exact h
  all_goals exact refl c
theorem vgRefresh (c : Chip) (n : Nat) : Parking c (c.vgRefresh n) := by
  refine foldl (fun (c : Chip) (g : Nat) => ?_) _ c
  have ha : 0x400C0000 ≤ R.VG_STATUS g := by simp only [R.VG_STATUS, vgBase]; omega
  exact (((of_regs rfl rfl : Parking c { c with hsInput := Tbl.set (fun _ => .off) c.hsInput g (c.hsSource (c.vMembers (2 * g)) (Tbl.get (fun _ => .off) c.hsInput g)) }).trans
    (fset _ _ _ ha)).trans (fbit _ _ _ ha)).trans (fbit _ _ _ ha)
theorem parkValves (c : Chip) (n : Nat) : Parking c (c.parkValves n) :=
  ((of_regs rfl rfl : Parking c (c.setVWaiting n [])).trans (foldl parkValve _ _)).trans (vgRefresh _ n)
theorem putLanes (c : Chip) (e mask : Nat) (v : Nat → Nat) : Parking c (c.putLanes e mask v) :=
  foldl (fun (c : Chip) (jv : Nat × Nat) => ite (fset c _ _ (by simp only [R.PE_LANE]; omega)) (fset c _ _ (by simp only [R.PE_LANE]; omega))) _ c
theorem engEnd (c : Chip) (e st : Nat) : Parking c (c.engEnd e st) := by
  unfold Chip.engEnd
  extract_lets fade zero d g
  have hd : Parking c d := setEng c e _
  have hg : Parking d g := ite (putLanes d e 255 _) (refl d)
  exact ((hd.trans hg).trans (fset _ _ _ (by simp only [R.PE_STATUS]; omega))).trans
    ((fbumpWrap _ _ (by simp only [R.PE_STATUS]; omega)).trans (raiseFrom _ 1 (by decide)))
theorem parkEng (c : Chip) (e : Nat) : Parking c (((c.fset (R.PE_CTRL e) F.PE_CTRL_END_MODE 0).engStop e).wr (R.PE_CTRL e) (c.rd (R.PE_CTRL e))) := by
  have ha : 0x400C0000 ≤ R.PE_CTRL e := by simp only [R.PE_CTRL]; omega
  exact ((fset c _ _ ha).trans (ite (engEnd _ e 3) (refl _))).trans (wr _ _ ha)
theorem sinkReg (c : Chip) (x : Nat) (f : Fld) (v : Nat) : Parking c (c.fset (R.LS_STATUS x) f v) := fset c f v (by simp only [R.LS_STATUS]; omega)
end Parking

/-- R385: sink s goes off; a fault keeps its code. -/
def Chip.parkSink (c : Chip) (s : Nat) : Chip :=
  let c := c.setSink s { c.sink s with pend := none, act := { (c.sink s).act with en := false }, pulse := none, spill := none }
  match c.sinkRun s with
  | .off | .on | .vledWait => (c.setSinkState s .off).sinkFaultCode s 0
  | _ => c
/-- R385: engine e ends as by STOP with END_MODE 0. -/
def Chip.parkEng (c : Chip) (e : Nat) : Chip := ((c.fset (R.PE_CTRL e) F.PE_CTRL_END_MODE 0).engStop e).wr (R.PE_CTRL e) (c.rd (R.PE_CTRL e))
theorem Chip.parkLights_eq (c : Chip) : c.parkLights = (List.range 24).foldl Chip.parkSink ((List.range 8).foldl Chip.parkEng c) := rfl

namespace Parking

variable {c c' c'' : Chip}

theorem parkSink (c : Chip) (s : Nat) : Parking c (c.parkSink s) := by
  unfold Chip.parkSink
  extract_lets x y d
  have hd : Parking c d := setSink c s _
  split
  case h_4 => exact hd
  all_goals exact (hd.trans (sinkReg _ s _ _)).trans (sinkReg _ s _ _)
theorem parkLights (c : Chip) : Parking c c.parkLights := by
  rw [Chip.parkLights_eq]
  exact (foldl parkEng _ c).trans (foldl parkSink _ _)

/-! ### Sealed channels (R384) -/

theorem sealReg (c : Chip) {a : Nat} (x : Word) (ha : 0x403C0B00 ≤ a) : Parking c (c.wr a x) := wr c x (by omega)
theorem entryCount (c : Chip) : Parking c c.entryCount := fset c _ _ (by decide)
theorem setEntry (c : Chip) (e typ : Nat) (o : Bool) (pay : BitVec 128) : Parking c (c.setEntry e typ o pay) :=
  ((wr c _ (by simp only [R.PWR_SEAL_KIND]; omega)).trans (foldl (fun (c : Chip) (w : Nat) => wr c _ (by simp only [R.PWR_SEAL_DATA]; omega)) _ _)).trans (entryCount _)
theorem entryLost (c : Chip) : Parking c c.entryLost :=
  (bump c 1 (by decide)).trans <| (raiseFrom _ 5 (by decide)).trans <| (setGrain _ _).trans <|
    ite (refl _) ((log _ _ _ _).trans (setGrain _ _))
theorem setBegun (c : Chip) (e : Nat) (b : Bool) : Parking c (c.setBegun e b) := of_regs rfl rfl
theorem setRecorded (c : Chip) (e : Nat) (b : Bool) : Parking c (c.setRecorded e b) := of_regs rfl rfl
theorem bypassBegin (c : Chip) (ch : Nat) : Parking c (c.bypassBegin ch) := by
  unfold Chip.bypassBegin
  extract_lets x t d
  have hd : Parking c d := fbit c _ _ (by decide)
  refine ite ?_ (refl c)
  cases d.entryFree with
  | none => exact (hd.trans (setSealX d ch _)).trans (entryLost _)
  | some e => exact ((hd.trans (setSealX d ch _)).trans (setEntry _ e _ _ _)).trans ((setBegun _ e true).trans (setRecorded _ e false))
theorem parkSealed (c : Chip) (ch : Nat) : Parking c (c.parkSealed ch) :=
  ite (((goOff c ch).trans (setChState _ ch _)).trans (bypassBegin _ ch)) (refl c)
end Parking

end Sys2Proof.Machine
end

section
/-! SUPPORT. Entering PARK or PATROL (R385, R387, R391, R395, R397). -/

namespace Sys2Proof.Machine
open Sys2Proof

/-- A power-down of the control die keeps what is kept. -/
theorem Tbl.get_filter_kept {α : Type} (d : Nat → α) (p : Nat → Bool) {k : Nat} (h : p k = true) (t : Tbl α) :
    Tbl.get d (t.filter fun x => p x.1) k = Tbl.get d t k := by
  induction t with
  | nil => rfl
  | cons x t ih =>
    obtain ⟨i, b⟩ := x
    by_cases hi : p i
    · rw [List.filter_cons, if_pos hi, Tbl.get, Tbl.get, ih]
    · rw [List.filter_cons, if_neg hi, ih, Tbl.get, if_neg]
      rintro rfl
      exact hi h
theorem Chip.rd_d0Off {c : Chip} {keep : Nat → Bool} {a : Nat} (h : keep a = true) : (c.d0Off keep).rd a = c.rd a :=
  Tbl.get_filter_kept resetWord keep h c.regs
theorem Chip.cmds_d0Off (c : Chip) (keep : Nat → Bool) : (c.d0Off keep).cmds = c.cmds := rfl
theorem Chip.cores_d0Off (c : Chip) (keep : Nat → Bool) : (c.d0Off keep).cores = [] := rfl
theorem keptD0_park : ∀ a ∈ parkRegs, keptD0 a = true := by decide

/-! ### The stages of an entry -/

/-- Long commands end, the wake sources are cleared, and the selected banks are to be kept. -/
def Chip.parkCut (c : Chip) (keep : Cmd → Bool) : Chip :=
  let d := ((c.cancelLong keep).wr R.SEN_WAKE_SRC 0).wr R.SEN_WAKE_FIRST 0
  d.wr R.RET_KEPT (d.rd R.RET_SEL)
/-- Channels, valves and lights go off. -/
def Chip.parkDies (c : Chip) : Chip := ((List.range 4).foldl Chip.parkValves ((List.range 188).foldl Chip.parkChan c)).parkLights
/-- What is remembered over the mode. -/
def Chip.parkState (c : Chip) : Chip :=
  c.setModex { c.modex with
    droop := 0, changed := 0, supLost := false, filling := 0, resetDue := none, entry := none
    parkedAt := (c.ctr64 R.SEN_RTC_LO).toNat, kept := keepRegs c.regs
    intA := c.interrupted 5, intB := c.interrupted 6 }
/-- The sealed channels as the mode feeds them. -/
def Chip.parkSeals (c : Chip) : Chip := (List.range 4).foldl (fun c k => c.parkSealed (188 + k)) c

theorem Chip.parkEntry_eq (c : Chip) {target : Nat} (h : target ≠ 0) (keep : Cmd → Bool) :
    c.parkEntry target keep = ((((c.parkCut keep).parkDies.parkState.setMode target).wr R.SYS_PAD_HOLD padGroups).parkSeals.fldReset).d0Off keptD0 := by
  simp only [Chip.parkEntry, if_neg h]
  rfl

/-! ### Completions leave the table to what they complete -/

theorem Noted.bumpWrap (c : Chip) (a : Nat) : Noted c (c.bumpWrap a) := rfl
theorem Chip.cmds_qCommitted (c : Chip) (q : Nat) : (c.qCommitted q).cmds = c.cmds := by
  unfold Chip.qCommitted
  extract_lets d
  have h : d.cmds = c.cmds := (Noted.cmds (.bumpWrap (c.ungate 1) _)).trans (Noted.cmds (.ungate c 1))
  clear_value d
  cases queueEvent q with
  | none => exact h
  | some k => exact (Noted.cmds (.raise d k)).trans h
theorem Chip.cmds_hwPush (c : Chip) (q : Nat) (ws : List Word) : (c.hwPush q ws).cmds = c.cmds := by
  unfold Chip.hwPush
  split
  · rfl
  · split
    · exact Chip.cmds_qCommitted _ q
    · exact ((Noted.bump c _ _).trans (.raise _ _)).cmds
theorem Chip.cmds_complete (c : Chip) (rq : Req) (op tag : Nat) (st : CmdStatus) (res : List Word) (fl : Nat) : (c.complete rq op tag st res fl).cmds = c.cmds := by
  unfold Chip.complete Chip.deliver
  split
  · exact Chip.cmds_hwPush _ _ _
  · exact (Noted.raise _ _).cmds
theorem Chip.cmds_finish (c : Chip) (p : Cmd → Bool) (st : CmdStatus) (res : List Word) : (c.finish p st res).cmds = c.cmds.filter fun k => !p k :=
  List.foldlRecOn (c.cmds.filter p) _ (motive := fun (d : Chip) => d.cmds = c.cmds.filter fun k => !p k) rfl fun d hd _ _ => (Chip.cmds_complete d _ _ _ _ _ _).trans hd

section
variable {c : Chip}

/-- R348: with no ranging round, a cancellation of every command empties the table. -/
theorem Chip.cancelLong_says (hr : c.acc.round = none) {keep : Cmd → Bool} (hk : ∀ x ∈ c.cmds, keep x = false) :
    (c.cancelLong keep).cmds = [] ∧ ∀ a ∈ parkRegs, (c.cancelLong keep).rd a = c.rd a := by
  have hcut : c.roundCancel = c := by simp [Chip.roundCancel, hr]
  unfold Chip.cancelLong
  rw [hcut]
  extract_lets g x g' y d
  have hd : d.cmds = c.cmds := rfl
  have hrd : d.regs = c.regs := rfl
  clear_value d
  constructor
  · rw [Chip.cmds_finish, List.filter_eq_nil_iff.2]
    intro x hx
    rw [hd] at hx
    simp [hk x hx]
  · intro a ha
    have := parkRegs_low a ha
    rw [(Served.finish d _ _ _).rd (by omega), Chip.rd, hrd]
    rfl

theorem Chip.parkCut_says (hr : c.acc.round = none) {keep : Cmd → Bool} (hk : ∀ x ∈ c.cmds, keep x = false) :
    (c.parkCut keep).cmds = [] ∧ (c.parkCut keep).rd R.RET_KEPT = c.rd R.RET_SEL ∧ ∀ a ∈ parkRegs, a ≠ R.RET_KEPT → (c.parkCut keep).rd a = c.rd a := by
  obtain ⟨h₁, h₂⟩ := Chip.cancelLong_says hr hk
  unfold Chip.parkCut
  extract_lets d
  have hd : Parking (c.cancelLong keep) d := (Parking.wr _ _ (by decide)).trans (.wr _ _ (by decide))
  refine ⟨(Noted.wr d _ _).cmds.trans (hd.cmds h₁), ?_, fun a ha hne => ?_⟩
  · rw [Chip.rd_wr_self, hd.rd _ (by decide), h₂ _ (by decide)]
  · rw [Chip.rd_wr_ne _ _ hne, hd.rd a ha, h₂ a ha]
theorem Parking.parkDies (c : Chip) : Parking c c.parkDies :=
  ((foldl parkChan _ c).trans (foldl parkValves _ _)).trans (parkLights _)
theorem Parking.parkState (c : Chip) : Parking c c.parkState := setModex c _
theorem Parking.parkSeals (c : Chip) : Parking c c.parkSeals := foldl (fun (c : Chip) (k : Nat) => parkSealed c (188 + k)) _ c
theorem Parking.fldReset (c : Chip) : Parking c c.fldReset :=
  ⟨.of_cmds rfl, fun a ha => (Chip.rd_clearRegs c 0x40400000 0x40480000 a).trans (if_neg (by
    have := parkRegs_low a ha
    omega))⟩
theorem Parking.d0Off (c : Chip) : Parking c (c.d0Off keptD0) := ⟨.of_cmds (c.cmds_d0Off _), fun a ha => Chip.rd_d0Off (keptD0_park a ha)⟩

/-- R380: a mode is entered from STANDBY. -/
theorem Chip.setMode_says (h : c.mode = 3) {m : Nat} (hm : m = 1 ∨ m = 2) :
    (c.setMode m).mode = m ∧ (c.setMode m).cmds = c.cmds ∧ ∀ a ∈ parkRegs, a ≠ R.SYS_MODE → (c.setMode m).rd a = c.rd a := by
  have he : c.setMode m = (c.wr R.SYS_MODE (F.SYS_MODE_LIMP_CAUSE.put (F.SYS_MODE_MODE.put (F.SYS_MODE_PREV.put (c.rd R.SYS_MODE) c.mode) m) 0)).raise 128 := by
    unfold Chip.setMode
    rw [if_neg (by omega)]
    simp only [h, show ¬ ((3 : Nat) = 4) by decide, show ¬ ((3 : Nat) = 7) by decide, if_false, show ¬ (m = 7) by omega, show ¬ (m = 3) by omega]
  rw [he]
  have hr := Parking.raise (c.wr R.SYS_MODE (F.SYS_MODE_LIMP_CAUSE.put (F.SYS_MODE_MODE.put (F.SYS_MODE_PREV.put (c.rd R.SYS_MODE) c.mode) m) 0)) (k := 128) (by decide)
  refine ⟨?_, ?_, fun a ha hne => ?_⟩
  · rw [Chip.mode, Chip.fget, hr.rd _ (by decide), Chip.rd_wr_self, Fld.get_put_ne _ _ _ _ (by decide) (by decide), Fld.get_put _ _ _ (by decide)]
    rcases hm with rfl | rfl <;> rfl
  · rw [(Noted.raise _ _).cmds, (Noted.wr _ _ _).cmds]
  · rw [hr.rd a ha, Chip.rd_wr_ne _ _ hne]

/-- R385, R387, R395, R397: the module enters PARK or PATROL from STANDBY. -/
theorem Chip.parkEntry_says (h : c.mode = 3) {m : Nat} (hm : m = 1 ∨ m = 2) (hr : c.acc.round = none) {keep : Cmd → Bool} (hk : ∀ x ∈ c.cmds, keep x = false) :
    (c.parkEntry m keep).mode = m ∧ (c.parkEntry m keep).rd R.SYS_PAD_HOLD = padGroups ∧ (c.parkEntry m keep).rd R.RET_KEPT = c.rd R.RET_SEL ∧
      (c.parkEntry m keep).rd R.NM_FALSE_WAKE_CNT = c.rd R.NM_FALSE_WAKE_CNT ∧ (c.parkEntry m keep).cmds = [] ∧ (c.parkEntry m keep).cores = [] := by
  rw [c.parkEntry_eq (by omega)]
  refine ⟨?_, ?_, ?_, ?_, ?_, Chip.cores_d0Off _ _⟩
  all_goals
    obtain ⟨h₁, h₂, h₃⟩ := Chip.parkCut_says hr hk
    generalize c.parkCut keep = d at h₁ h₂ h₃ ⊢
    have hd := (Parking.parkDies d).trans (.parkState _)
    generalize d.parkDies.parkState = e at hd ⊢
    have hmode : e.mode = 3 := (congrArg F.SYS_MODE_MODE.get ((hd.rd _ (by decide)).trans (h₃ _ (by decide) (by decide)))).trans h
    obtain ⟨k₁, k₂, k₃⟩ := Chip.setMode_says hmode hm
    generalize e.setMode m = g at k₁ k₂ k₃ ⊢
    have hg := ((Parking.parkSeals (g.wr R.SYS_PAD_HOLD padGroups)).trans (.fldReset _)).trans (.d0Off _)
  · rw [Chip.mode, Chip.fget, hg.rd _ (by decide), Chip.rd_wr_ne _ _ (by decide)]
    exact k₁
  · rw [hg.rd _ (by decide), Chip.rd_wr_self]
  · rw [hg.rd _ (by decide), Chip.rd_wr_ne _ _ (by decide), k₃ _ (by decide) (by decide), hd.rd _ (by decide), h₂]
  · rw [hg.rd _ (by decide), Chip.rd_wr_ne _ _ (by decide), k₃ _ (by decide) (by decide), hd.rd _ (by decide), h₃ _ (by decide) (by decide)]
  · exact hg.cmds ((Noted.wr g _ _).cmds.trans (k₂.trans (hd.cmds h₁)))
end

end Sys2Proof.Machine
end

section
/-! PROOF. Retention, pad release, and the ends of short waits (R395 to R399, R409, R429 to R433). -/

namespace Sys2Proof.Machine
open Sys2Proof

/-! ### Frames of network management (R419, R421) -/

theorem Only.setMbPend (c : Chip) {n b : Nat} (hn : n < 9) (hb : b < 64) (v : Bool) : Only [Blk.can] c (c.setMbPend n b v) := by
  refine (Only.fset c (R.CAN_MB_STAT n b) _ _ (mem_canBlk hn (by simp only [R.CAN_MB_STAT]; omega))).trans (Only.fset _ _ _ _ (mem_canBlk hn ?_))
  simp only [mbBit, R.CAN_TXPEND]
  split <;> omega
theorem Only.txRequest (c : Chip) {n b : Nat} (hn : n < 9) (hb : b < 64) : Only [Blk.can] c (c.txRequest n b) := by
  have hm : ∃ y ∈ [Blk.can], y.1 ≤ R.CAN_MB_STAT n b ∧ R.CAN_MB_STAT n b < y.2 := mem_canBlk hn (by simp only [R.CAN_MB_STAT]; omega)
  exact Only.ite _ (((Only.setMbPend c hn hb true).trans (.fset _ _ _ _ hm)).trans (.fset _ _ _ _ hm)) (.refl _ c)
theorem Only.mbFill (l : List (Nat × Nat)) (c : Chip) (n b : Nat) (ws : List Word) : Only l c (c.mbFill n b ws) := by
  obtain ⟨m, hm⟩ := c.mbFill_rest n b ws
  rw [hm]
  exact .of_regs rfl
theorem Only.nmSendOn (c : Chip) {n : Nat} (hn : n < 9) : Only [Blk.can] c (c.nmSendOn n) := by
  unfold Chip.nmSendOn
  refine Only.ite _ ?_ (.refl _ c)
  extract_lets ident xtd w0 b1 d e
  have he : Only [Blk.can] c e := Only.ite _ (.refl _ c) ((Only.mbFill _ c n 63 _).trans (.txRequest _ hn (by decide)))
  exact he.trans (.of_regs rfl)
theorem Only.nmSendAll (c : Chip) {l : List Nat} (hl : ∀ n ∈ l, n < 9) : Only [Blk.can] c (c.nmSendAll l) := by
  unfold Chip.nmSendAll
  extract_lets k e
  refine Only.ite _ (.refl _ c) ?_
  have he : Only [Blk.can] c e := List.foldlRecOn k _ (motive := fun (d : Chip) => Only [Blk.can] c d) (.refl _ c) fun d hd n hn =>
    hd.trans (.nmSendOn d (hl n (List.mem_filter.1 hn).1))
  exact he.trans (.of_regs rfl)
theorem Only.nmFirst (c : Chip) : Only [Blk.can] c c.nmFirst := .nmSendAll c fun n h => by
  have := List.mem_range.1 (List.mem_filter.1 h).1
  omega

/-! ### Pads and retention (R395, R399) -/

def padReleaseDesc : RegDesc := ⟨.SYS_PAD_RELEASE, 0x40000028, [], 0, 0, 0, 0xFFFFFFFF, 0, 0⟩
theorem findReg_padRelease : findReg R.SYS_PAD_RELEASE = some (padReleaseDesc, []) := by rfl
def retAckDesc : RegDesc := ⟨.RET_ACK, 0x40050008, [], 0, 0, 0, 0xFFFFFFFF, 0, 0⟩
theorem findReg_retAck : findReg R.RET_ACK = some (retAckDesc, []) := by rfl

theorem storedWord_pulse (old x : Word) : storedWord padReleaseDesc [] old x = old ∧ storedWord retAckDesc [] old x = old := by
  have h : old &&& 4294967295#32 = old := by rw [show 4294967295#32 = BitVec.allOnes 32 from rfl, BitVec.and_allOnes]
  simp [storedWord, regNorm, mergeWord, openMask, padReleaseDesc, retAckDesc, h]

theorem Chip.wrote_padRelease (c : Chip) (rq : Req) (old x : Word) : c.wrote rq padReleaseDesc.id [] old x = c.padRelease x := rfl
theorem Chip.wrote_retAck (c : Chip) (rq : Req) (old x : Word) : c.wrote rq retAckDesc.id [] old x = c.retAck x := rfl
theorem Chip.rd_wr_read (c : Chip) (a b : Nat) : (c.wr a (c.rd a)).rd b = c.rd b := by
  by_cases h : b = a
  · rw [h, Chip.rd_wr_self]
  · exact Chip.rd_wr_ne c _ h

theorem Chip.regWrite_padRelease (c : Chip) {rq : Req} (h : rq.code ≤ 4) (x : Word) :
    c.regWrite rq R.SYS_PAD_RELEASE x = (c.wr R.SYS_PAD_RELEASE (c.rd R.SYS_PAD_RELEASE)).padRelease x := by
  have hp : c.regWrite rq R.SYS_PAD_RELEASE x = c.plainWrite rq padReleaseDesc [] R.SYS_PAD_RELEASE x := by
    have hw : writerOk rq .SYS_PAD_RELEASE [] R.SYS_PAD_RELEASE = true := by
      revert h
      cases rq <;> decide
    have hd : dieOf R.SYS_PAD_RELEASE = 0 := rfl
    simp [Chip.regWrite, findReg_padRelease, padReleaseDesc, hw, hd, ctrHalf, show ¬ (0x400C0000 ≤ R.SYS_PAD_RELEASE) by decide]
  rw [hp, Chip.plainWrite_unlocked rfl rfl rfl, Chip.wrote_padRelease, (storedWord_pulse _ x).1]
theorem Chip.regWrite_retAck (c : Chip) (rq : Req) (x : Word) : c.regWrite rq R.RET_ACK x = (c.wr R.RET_ACK (c.rd R.RET_ACK)).retAck x := by
  have hp : c.regWrite rq R.RET_ACK x = c.plainWrite rq retAckDesc [] R.RET_ACK x := by
    have hw : writerOk rq .RET_ACK [] R.RET_ACK = true := by
      cases rq <;> decide
    have hd : dieOf R.RET_ACK = 0 := rfl
    simp [Chip.regWrite, findReg_retAck, retAckDesc, hw, hd, ctrHalf, show ¬ (0x400C0000 ≤ R.RET_ACK) by decide]
  rw [hp, Chip.plainWrite_unlocked rfl rfl rfl, Chip.wrote_retAck, (storedWord_pulse _ x).2]

theorem padRelease_says (rq : Req) (data : Word) {s : State} (hq : rq.code ≤ 4) (h : s.chip.atOnce rq R.SYS_PAD_RELEASE 1 = true) :
    ∃ c, exec (.padRelease rq data) s = .next { s with chip := c } ∧ c.rd R.SYS_PAD_HOLD = s.chip.rd R.SYS_PAD_HOLD &&& ~~~data := by
  refine ⟨_, congrArg _ (State.write_atOnce data h rfl rfl), ?_⟩
  beta_reduce
  rw [Chip.regWrite_padRelease _ hq, Chip.padRelease, Only.nmFirst _ _ (fun x hx => ?_), Chip.rd_wr_self, Chip.rd_wr_read, Chip.rd_touch _ _ (by decide)]
  obtain rfl := List.mem_singleton.1 hx
  decide

theorem retAckWrite_says (rq : Req) (data : Word) {s : State} (h : s.chip.atOnce rq R.RET_ACK 1 = true) :
    ∃ c, exec (.retAckWrite rq data) s = .next { s with chip := c } ∧ c.modex.filling = s.chip.modex.filling ||| (data &&& s.chip.rd R.RET_STATUS) ∧
      c.rd R.RET_STATUS = s.chip.rd R.RET_STATUS ∧ Only [Blk.sys] s.chip c := by
  refine ⟨_, congrArg _ (State.write_atOnce data h rfl rfl), ?_⟩
  beta_reduce
  rw [Chip.regWrite_retAck]
  have ht := Noted.touch s.chip R.RET_ACK
  have hr : (s.chip.touch R.RET_ACK).rd R.RET_STATUS = s.chip.rd R.RET_STATUS := Chip.rd_touch _ _ (by decide)
  have ho := Only.touch s.chip R.RET_ACK
  generalize s.chip.touch R.RET_ACK = c at ht hr ho ⊢
  have hw (b : Nat) := c.rd_wr_read R.RET_ACK b
  have hm : (c.wr R.RET_ACK (c.rd R.RET_ACK)).modex = s.chip.modex := (Noted.modex (.wr c _ _)).trans ht.modex
  generalize c.wr R.RET_ACK (c.rd R.RET_ACK) = d at hw hm ⊢
  refine ⟨?_, (hw _).trans hr, fun a ha => (hw a).trans (ho a ha)⟩
  show d.modex.filling ||| (data &&& d.rd R.RET_STATUS) = _
  rw [hm, hw, hr]

/-! ### The fill of a lost bank (R399) -/

/-- A byte after bank k was filled. -/
theorem State.read_zeroBank (s : State) {k : Nat} (hk : k < 32) (b : Nat) : Memory.read (s.zeroBanks (· == k)).sram b =
    if sramBase + k * bankSize ≤ b ∧ b < sramBase + (k + 1) * bankSize then 0 else Memory.read s.sram b := by
  have h : ∀ n, Memory.read ((List.range n).foldl (fun (s : State) j =>
      if (j == k) = true then { s with sram := Memory.zero s.sram (sramBase + j * bankSize) (sramBase + (j + 1) * bankSize) } else s) s).sram b =
      if k < n ∧ sramBase + k * bankSize ≤ b ∧ b < sramBase + (k + 1) * bankSize then 0 else Memory.read s.sram b := by
    intro n
    induction n with
    | zero => simp
    | succ n ih =>
      rw [List.range_succ, List.foldl_append, List.foldl_cons, List.foldl_nil]
      by_cases hn : n = k
      · subst hn
        rw [if_pos (by simp)]
        show Memory.read (Memory.zero _ _ _) b = _
        rw [Memory.read_zero, ih, if_neg (by omega : ¬ (n < n ∧ _))]
        exact ite_congr (propext ⟨fun h => ⟨by omega, h⟩, fun h => h.2⟩) (fun _ => rfl) fun _ => rfl
      · rw [if_neg (by simp [hn]), ih]
        exact ite_congr (propext ⟨fun h => ⟨by omega, h.2⟩, fun h => ⟨by omega, h.2⟩⟩) (fun _ => rfl) fun _ => rfl
  refine (h 32).trans (ite_congr (propext ⟨fun h => h.2, fun h => ⟨hk, h⟩⟩) (fun _ => rfl) fun _ => rfl)
theorem State.chip_zeroBanks (s : State) (p : Nat → Bool) : (s.zeroBanks p).chip = s.chip :=
  List.foldlRecOn _ _ (motive := fun (t : State) => t.chip = s.chip) rfl fun t ht _ _ => by
    split
    · exact ht
    · exact ht

theorem getLsbD_eq_bitFld (x : Word) (j : Nat) : x.getLsbD j = decide ((bitFld j).get x = 1) := by
  simp only [BitVec.getLsbD, Nat.testBit_eq_decide_div_mod_eq, Fld.get, bitFld, pow_one]
/-- A bit of a word is cleared. -/
theorem bitFld_put_zero (x : Word) {k : Nat} (hk : k < 32) : (bitFld k).put x 0 = x &&& ~~~(1#32 <<< k) := by
  refine BitVec.eq_of_getLsbD_eq fun j hj => ?_
  rw [getLsbD_eq_bitFld]
  by_cases h : j = k
  · subst h
    rw [Fld.get_put _ _ _ (by simp only [bitFld]; omega)]
    simp [hj]
  · rw [Fld.get_put_ne _ _ _ _ (by simp only [bitFld]; omega) (by simp only [bitFld]; omega), ← getLsbD_eq_bitFld]
    simp only [BitVec.getLsbD_and, BitVec.getLsbD_not, BitVec.getLsbD_shiftLeft, BitVec.getLsbD_one, hj]
    simp
    omega

theorem retFillComplete_says (k : Fin 32) {s : State} (h : s.chip.modex.filling.getLsbD k = true) : ∃ t, exec (.retFillComplete k) s = .next t ∧
    (∀ b, inSram b = true → Memory.read t.sram b = if bankOf b = k then 0 else Memory.read s.sram b) ∧
    t.chip.rd R.RET_STATUS = s.chip.rd R.RET_STATUS &&& ~~~(1#32 <<< k.val) ∧ t.chip.modex.filling.getLsbD k = false ∧ Only [Blk.ret] s.chip t.chip := by
  have he : s.fillDone k = (s.zeroBanks (· == k.val)).onChip fun c =>
      (c.setModex { c.modex with filling := c.modex.filling &&& ~~~(1#32 <<< k.val) }).fbit R.RET_STATUS (bitFld k) false := if_pos h
  refine ⟨s.fillDone k, rfl, ?_⟩
  rw [he, State.onChip, State.chip_zeroBanks]
  refine ⟨fun b hb => ?_, ?_, ?_, ?_⟩
  · refine (State.read_zeroBank s k.2 b).trans (ite_congr (propext ?_) (fun _ => rfl) fun _ => rfl)
    simp only [inSram, Bool.and_eq_true, decide_eq_true_eq] at hb
    simp only [bankOf, sramBase, bankSize]
    omega
  · exact (Chip.rd_wr_self _ _ _).trans (bitFld_put_zero _ k.2)
  · show (s.chip.modex.filling &&& ~~~(1#32 <<< k.val)).getLsbD k = false
    simp
  · exact (Only.of_regs rfl : Only [Blk.ret] s.chip (s.chip.setModex _)).trans (.fset _ _ _ _ ⟨Blk.ret, List.mem_singleton_self _, by decide⟩)

/-! ### Droops (R398) -/

theorem Chip.parked_of_mode {c : Chip} (h : c.mode = 1 ∨ c.mode = 2) : c.parked = true := by
  rw [Chip.parked]
  rcases h with h | h <;> rw [h] <;> rfl
theorem State.next_same {s : State} {f : Chip → Chip} (h : f s.chip = s.chip) :
    (Host.Outcome.next (s.onChip f) : Host.Outcome State Fault Refusal) = .next s := State.next_chip h

/-! ### The pulse of the wake ring (R430, R432) -/

theorem Chip.ringField_ends (c : Chip) {f g : Fld} (hf : f.lo + f.w ≤ 32) (hg : g.lo + g.w ≤ 32) (h : g.lo + g.w ≤ f.lo ∨ f.lo + f.w ≤ g.lo) :
    (c.fset R.WR_STATUS f 0).flag R.WR_STATUS f = false ∧ (c.fset R.WR_STATUS f 0).flag R.WR_STATUS g = c.flag R.WR_STATUS g ∧
      Only [(R.WR_STATUS, R.WR_STATUS + 4)] c (c.fset R.WR_STATUS f 0) :=
  ⟨Chip.flag_fset_zero c _ f hf, congrArg (· == 1) (Chip.fget_fset_field c _ f g 0 h hg), .fset _ _ _ _ ⟨_, List.mem_singleton_self _, by simp⟩⟩

/-! ### False wakes (R429) -/

theorem Chip.falseWake_says {c : Chip} {m : Nat} (ha : c.flag R.NM_FW_STATUS F.NM_FW_STATUS_ARMED = true) (h : c.mode = 3) (hm : m = 1 ∨ m = 2)
    (hb : (c.rd (R.SYS_BOOT_REPORT 0)).toNat / 2 ^ 16 % 256 = m + 1) (hr : c.acc.round = none) :
    c.falseWake.mode = m ∧ c.falseWake.rd R.NM_FALSE_WAKE_CNT = .ofNat 32 (min 0xFFFFFFFF ((c.rd R.NM_FALSE_WAKE_CNT).toNat + 1)) ∧
      c.falseWake.rd R.SYS_PAD_HOLD = 0xF03 ∧ c.falseWake.rd R.RET_KEPT = c.rd R.RET_SEL ∧ c.falseWake.cmds = [] := by
  have he : c.falseWake = ((c.bump R.NM_FALSE_WAKE_CNT).raise 146).parkEntry m fun _ => false := by
    unfold Chip.falseWake
    rw [hb, Nat.add_sub_cancel, if_pos ⟨ha, .inl h, hm⟩]
  rw [he]
  have hn : Noted c ((c.bump R.NM_FALSE_WAKE_CNT).raise 146) := (Noted.bump _ _ _).trans (.raise _ _)
  have hp := Parking.raise (c.bump R.NM_FALSE_WAKE_CNT) (k := 146) (by decide)
  have hcnt : ((c.bump R.NM_FALSE_WAKE_CNT).raise 146).rd R.NM_FALSE_WAKE_CNT = .ofNat 32 (min 0xFFFFFFFF ((c.rd R.NM_FALSE_WAKE_CNT).toNat + 1)) :=
    (hp.rd _ (by decide)).trans (Chip.rd_bump_self _ _ _)
  have hsel : ((c.bump R.NM_FALSE_WAKE_CNT).raise 146).rd R.RET_SEL = c.rd R.RET_SEL := (hp.rd _ (by decide)).trans (Chip.rd_bump_ne _ _ (by decide))
  have hmode : ((c.bump R.NM_FALSE_WAKE_CNT).raise 146).rd R.SYS_MODE = c.rd R.SYS_MODE := (hp.rd _ (by decide)).trans (Chip.rd_bump_ne _ _ (by decide))
  generalize (c.bump R.NM_FALSE_WAKE_CNT).raise 146 = d at hn hcnt hsel hmode ⊢
  obtain ⟨h₁, h₂, h₃, h₄, h₅, -⟩ := Chip.parkEntry_says (c := d) ((congrArg F.SYS_MODE_MODE.get hmode).trans h) hm (by rw [hn.acc]; exact hr)
    (keep := fun _ => false) (fun _ _ => rfl)
  exact ⟨h₁, h₄.trans hcnt, h₂, h₃.trans hsel, h₅⟩

/-- Settles O50: what entering a parking mode leaves of the retained registers, the fill of one bank, and single writes of fields. -/
theorem retentionPadsAndDroops : Obligations.RetentionPadsAndDroops := by
  unfold Obligations.RetentionPadsAndDroops
  refine ⟨fun rq data s hq h => padRelease_says rq data hq h, fun rq data s h => retAckWrite_says rq data h, fun k s h => retFillComplete_says k h,
    fun k g s hm hk => ?_, fun k g s h => ?_, fun g s hm => ?_, fun s _ => ?_, fun s _ => ?_, fun s _ => ?_, fun m s h hm hb hr => ?_, fun s h => ?_, fun s h => ?_,
    fun s h => ?_⟩
  · refine State.next_chip ?_
    simp [Chip.parked_of_mode hm, hk]
  · refine State.next_same ?_
    rcases h with h | h <;> simp [h]
  · refine State.next_chip ?_
    simp [Chip.parked_of_mode hm]
  · exact ⟨_, State.next_chip rfl, Chip.ringField_ends _ (by decide) (by decide) (by decide)⟩
  · exact ⟨_, State.next_chip rfl, Chip.ringField_ends _ (by decide) (by decide) (by decide)⟩
  · exact ⟨_, State.next_chip rfl, rfl, .of_regs rfl⟩
  · exact ⟨_, State.next_chip rfl, Chip.falseWake_says h.1 h.2 hm hb hr⟩
  · refine State.next_same ?_
    simp only [Chip.falseWake, h, Bool.false_eq_true, false_and, if_false]
  · exact ⟨_, State.next_chip rfl, by rw [h]; rfl, rfl, .of_regs rfl⟩
  · exact ⟨_, State.next_chip rfl, rfl, .of_regs rfl⟩

end Sys2Proof.Machine
end

section
/-! PROOF. What the inrush scheduler's rows do (R99, R102, R109 to R116, R121). -/

namespace Sys2Proof.Machine
open Sys2Proof

/-! ### A granted start (R109) -/

theorem Chip.chRun_grant (c : Chip) {ch : Nat} (hch : ch < 192) : (c.grant ch).chRun ch = .starting := by
  rw [Chip.grant_eq, (Spares.runStart _ ch).run hch, Chip.chRun_setChRun _ _ (by decide)]
  all_goals
    rintro ⟨lo, w⟩ hg
    have := mem_runFields hg
    simp only [Apart, R.CH_STATUS, R.CH_PROT_STATUS, F.CH_STATUS_STATE, F.CH_PROT_STATUS_HOLD_SUB] at this ⊢
    simp only [chBase] at this
    omega
theorem Chip.reqs_grant_one {c : Chip} {r : StartReq} (hp : r.pulse = false) (hq : (c.die (pdie r.ch)).reqs = [r]) : ((c.grant r.ch).die (pdie r.ch)).reqs = [] := by
  rw [Chip.reqs_grant, hq]
  simp [dropReq, hp]

/-- R109, R110: a re-examination of the one request of a channel that it stands for. -/
theorem Chip.reexamine_says {c : Chip} {n : Nat} {r : StartReq} (hq : (c.die n).reqs = [r]) (hp : r.pulse = false) (hch : r.ch < 192) (hd : pdie r.ch = n)
    (hi : c.inHold r.ch = false) (hf : c.flag (R.IS_STATUS n) F.IS_STATUS_FROZEN = false) :
    (c.booked n + c.wouldBook r.ch ≤ 100 * c.fget (R.IS_BUDGET n) F.IS_BUDGET_BUDGET → (c.reexamine n).chState r.ch = .starting ∧ ((c.reexamine n).die n).reqs = []) ∧
      (¬ c.booked n + c.wouldBook r.ch ≤ 100 * c.fget (R.IS_BUDGET n) F.IS_BUDGET_BUDGET → c.reexamine n = c) := by
  have hfits : c.fits n r = decide (c.booked n + c.wouldBook r.ch ≤ 100 * c.fget (R.IS_BUDGET n) F.IS_BUDGET_BUDGET) := by simp [Chip.fits, hf, hp]
  rw [Chip.reexamine_one hq, hfits, Chip.grantReq_start hp]
  constructor
  · intro h
    rw [if_pos (by simpa using h)]
    refine ⟨Chip.chState_grant hch hi, ?_⟩
    rw [← hd] at hq ⊢
    exact Chip.reqs_grant_one hp hq
  · intro h
    exact if_neg (by simpa using h)

/-- R112: the cap grants the one waiting start. -/
theorem Chip.capGrant_says {c : Chip} {r : StartReq} (hp : r.pulse = false) (hch : r.ch < 192) (hq : (c.die (pdie r.ch)).reqs = [r]) (hi : c.inHold r.ch = false) :
    (c.capGrant r).chState r.ch = .starting ∧ ((c.capGrant r).die (pdie r.ch)).reqs = [] ∧
      (c.capGrant r).rd (R.CH_CAPGRANT_CNT r.ch) = .ofNat 32 (min 0xFFFFFFFF ((c.rd (R.CH_CAPGRANT_CNT r.ch)).toNat + 1)) ∧
      (c.capGrant r).rd (R.IS_CAPGRANT_CNT (pdie r.ch)) = .ofNat 32 (min 0xFFFFFFFF ((c.rd (R.IS_CAPGRANT_CNT (pdie r.ch))).toNat + 1)) := by
  have hst := Chip.chState_grant hch hi
  have hrq := Chip.reqs_grant_one hp hq
  have hg := Spares.grant c r.ch
  have hch' : (c.grant r.ch).rd (R.CH_CAPGRANT_CNT r.ch) = c.rd (R.CH_CAPGRANT_CNT r.ch) := hg.rd (by simp only [R.CH_CAPGRANT_CNT, chBase]; omega)
    (by simp only [R.CH_CAPGRANT_CNT, chBase]; omega) fun g h => by
      have := mem_startFields (lo := g.lo) (w := g.w) h
      simp only [R.CH_CAPGRANT_CNT, chBase] at this
      omega
  have his : (c.grant r.ch).rd (R.IS_CAPGRANT_CNT (pdie r.ch)) = c.rd (R.IS_CAPGRANT_CNT (pdie r.ch)) := hg.rd (by simp only [R.IS_CAPGRANT_CNT]; omega)
    (by simp only [R.IS_CAPGRANT_CNT, pdie]; omega) fun g h => by
      have := mem_startFields (lo := g.lo) (w := g.w) h
      simp only [R.IS_CAPGRANT_CNT, pdie, chBase] at this
      omega
  unfold Chip.capGrant
  rw [Chip.grantReq_start hp]
  generalize c.grant r.ch = d at hst hrq hch' his ⊢
  have hne : R.CH_CAPGRANT_CNT r.ch ≠ R.IS_CAPGRANT_CNT (pdie r.ch) := by simp only [R.CH_CAPGRANT_CNT, R.IS_CAPGRANT_CNT, chBase, pdie]; omega
  have hs := Chip.chEvent_served ((d.bump (R.CH_CAPGRANT_CNT r.ch)).bump (R.IS_CAPGRANT_CNT (pdie r.ch))) (base := 40) (by decide) hch
  generalize hx : ((d.bump (R.CH_CAPGRANT_CNT r.ch)).bump (R.IS_CAPGRANT_CNT (pdie r.ch))).chEvent 40 r.ch = x at hs ⊢
  refine ⟨?_, ?_, ?_, ?_⟩
  · rw [Chip.chState, Chip.fget, hs.rd (by simp only [R.CH_STATUS, chBase]; omega),
      Chip.rd_bump_ne _ _ (by simp only [R.CH_STATUS, R.IS_CAPGRANT_CNT, chBase, pdie]; omega), Chip.rd_bump_ne _ _ (by simp only [R.CH_STATUS, R.CH_CAPGRANT_CNT]; omega)]
    exact hst
  · rw [hs.die, Chip.die, Chip.dies_bump, Chip.dies_bump]
    exact hrq
  · rw [hs.rd (by simp only [R.CH_CAPGRANT_CNT, chBase]; omega), Chip.rd_bump_ne _ _ hne, Chip.rd_bump_self, hch']
  · rw [hs.rd (by simp only [R.IS_CAPGRANT_CNT]; omega), Chip.rd_bump_self, Chip.rd_bump_ne _ _ hne.symm, his]

/-! ### The running state of a channel (R99, R102, R121) -/

theorem Only.chanReg (c : Chip) (ch : Nat) {o : Nat} (ho : o < 0x100) (f : Fld) (v : Nat) : Only [Blk.chan ch] c (c.fset (chBase ch + o) f v) :=
  .fset _ _ _ _ ⟨_, List.mem_singleton_self _, by simp only [Blk.chan]; omega⟩
theorem Only.setChRun (c : Chip) (ch : Nat) (x : ChState) : Only [Blk.chan ch] c (c.setChRun ch x) := by
  have h : Only [Blk.chan ch] c (if c.chState ch = x then c else c.setChan ch { c.chan ch with cycle := 0 }) := Only.ite _ (.refl _ c) (.of_regs rfl)
  exact Only.ite _ (.chanReg c ch (o := 0x3C) (by decide) _ _) (h.trans (.chanReg _ ch (o := 0x1C) (by decide) _ _))
theorem modeState_free (m : Nat) : modeState m ≠ .held ∧ modeState m ≠ .limp := by
  unfold modeState
  split <;> decide
theorem Chip.segs_setChRun (c : Chip) (ch : Nat) (x : ChState) : ((c.setChRun ch x).chan ch).segs = (c.chan ch).segs := by
  unfold Chip.setChRun
  split
  · rw [Chip.chan, Chip.setHoldSub, Chip.chans_fset]
    rfl
  · rw [Chip.setChState, Chip.chan, Chip.chans_fset]
    split
    · rfl
    · show ((c.setChan ch { c.chan ch with cycle := 0 }).chan ch).segs = _
      rw [Chip.chan_setChan_self]

/-- The running segment of a start is over. -/
def Chip.segDropped (c : Chip) (ch : Nat) : Chip := c.setChan ch { c.chan ch with segs := (c.chan ch).segs.drop 1 }
/-- The profile of a start is over. -/
def Chip.startOver (c : Chip) (ch : Nat) : Chip := (c.setChan ch { c.chan ch with ranAt := some (c.pwrTime (pdie ch)) }).setChRun ch (modeState (c.runMode ch))
theorem Chip.segmentEnd_eq {c : Chip} {ch : Nat} (hs : c.chRun ch = .starting) (hf : ¬ c.fullyOn ch = true) (hx : (c.chan ch).segs.drop 1 = []) :
    c.segmentEnd ch = ((c.segDropped ch).startOver ch).reexamine (pdie ch) := by
  simp only [Chip.segmentEnd, if_pos (And.intro hs hf), if_pos hx]
  rfl
theorem Chip.segDropped_says (c : Chip) (ch : Nat) : ((c.segDropped ch).chan ch).segs = (c.chan ch).segs.drop 1 ∧ (c.segDropped ch).runMode ch = c.runMode ch ∧
    (c.segDropped ch).dies = c.dies ∧ Only [Blk.chan ch] c (c.segDropped ch) := by
  refine ⟨?_, rfl, rfl, .of_regs rfl⟩
  rw [Chip.segDropped, Chip.chan_setChan_self]
theorem Chip.startOver_says (c : Chip) (ch : Nat) : (c.startOver ch).chRun ch = modeState (c.runMode ch) ∧ ((c.startOver ch).chan ch).segs = (c.chan ch).segs ∧
    (c.startOver ch).dies = c.dies ∧ Only [Blk.chan ch] c (c.startOver ch) := by
  have hseg : ((c.setChan ch { c.chan ch with ranAt := some (c.pwrTime (pdie ch)) }).chan ch).segs = (c.chan ch).segs := by rw [Chip.chan_setChan_self]
  have hd : (c.setChan ch { c.chan ch with ranAt := some (c.pwrTime (pdie ch)) }).dies = c.dies := rfl
  have ho : Only [Blk.chan ch] c (c.setChan ch { c.chan ch with ranAt := some (c.pwrTime (pdie ch)) }) := .of_regs rfl
  unfold Chip.startOver
  generalize c.setChan ch { c.chan ch with ranAt := some (c.pwrTime (pdie ch)) } = d at hseg hd ho ⊢
  exact ⟨Chip.chRun_setChRun d ch (modeState_free _), (Chip.segs_setChRun d ch _).trans hseg, (Chip.dies_setChRun d ch _).trans hd, ho.trans (.setChRun d ch _)⟩

/-- R102: the last segment of a start's profile ends. -/
theorem Chip.segmentEnd_says {c : Chip} {ch : Nat} {x : Nat × Nat} (hs : c.chRun ch = .starting) (hl : c.chState ch ≠ .limp)
    (hr : c.flag (R.CH_PROT_STATUS ch) F.CH_PROT_STATUS_REVERSE = false) (hx : (c.chan ch).segs = [x]) (hq : (c.die (pdie ch)).reqs = []) :
    (c.segmentEnd ch).chRun ch = modeState (c.activeMode ch) ∧ ((c.segmentEnd ch).chan ch).segs = [] ∧ Only [Blk.chan ch] c (c.segmentEnd ch) := by
  have hf : ¬ c.fullyOn ch = true := by simp [Chip.fullyOn, hr]
  have hm : c.runMode ch = c.activeMode ch := if_neg (by simp [Chip.limpOn, hl])
  obtain ⟨h₁, h₂, h₃, h₄⟩ := c.segDropped_says ch
  obtain ⟨k₁, k₂, k₃, k₄⟩ := (c.segDropped ch).startOver_says ch
  rw [Chip.segmentEnd_eq hs hf (by rw [hx]; rfl), Chip.reexamine_none (by rw [Chip.die, k₃, h₃]; exact hq)]
  refine ⟨by rw [k₁, h₂, hm], by rw [k₂, h₁, hx]; rfl, h₄.trans k₄⟩

/-! ### IS_BUDGET and IS_CTRL (R112, R116) -/

def isBudgetDesc : RegDesc := ⟨.IS_BUDGET, 0x40260004, [(4, 0x80000, 0)], 0xFFF, 0, 0, 0, 0, 0x640⟩
theorem findReg_isBudget (n : Fin 4) : findReg (R.IS_BUDGET n) = some (isBudgetDesc, [n.val]) := by fin_cases n <;> rfl
def isCtrlDesc : RegDesc := ⟨.IS_CTRL, 0x40260000, [(4, 0x80000, 0)], 0x1FF, 0, 0, 0, 0, 0x114⟩
theorem findReg_isCtrl (n : Fin 4) : findReg (R.IS_CTRL n) = some (isCtrlDesc, [n.val]) := by fin_cases n <;> rfl
theorem isSched_place (n : Fin 4) : dieOf (R.IS_BUDGET n) = n.val + 2 ∧ isAlias (R.IS_BUDGET n) = false ∧ dieOf (R.IS_CTRL n) = n.val + 2 ∧
    isAlias (R.IS_CTRL n) = false := by
  revert n
  decide

theorem stored_isBudget (l : List Nat) (old x : Word) : F.IS_BUDGET_BUDGET.get (storedWord isBudgetDesc l old x) = F.IS_BUDGET_BUDGET.get x :=
  Fld.get_mergeWord _ _ _ _ _ _ (by decide)
theorem stored_isCtrl (l : List Nat) (old x : Word) (f : Fld) (h : ∀ i < f.w, (openMask isCtrlDesc false false).getLsbD (f.lo + i) = true) :
    f.get (storedWord isCtrlDesc l old x) = f.get x := Fld.get_mergeWord f _ _ _ _ _ h
theorem Chip.wrote_isBudget (c : Chip) (n : Nat) (old x : Word) : c.wrote .sup isBudgetDesc.id [n] old x = c.reexamine n := rfl
theorem Chip.wrote_isCtrl (c : Chip) (n : Nat) (old x : Word) : c.wrote .sup isCtrlDesc.id [n] old x = c.isCtrl n := rfl
theorem Chip.regWrite_as_isBudget {a n : Nat} (h : findReg a = some (isBudgetDesc, [n])) (c : Chip) (x : Word) :
    c.regWrite .sup a x = (c.wr a (storedWord isBudgetDesc [n] (c.rd a) x)).reexamine n := by
  have hp : c.regWrite .sup a x = c.plainWrite .sup isBudgetDesc [n] a x := by simp [Chip.regWrite, h, isBudgetDesc, writerOk_sup, ctrHalf]
  rw [hp, Chip.plainWrite_unlocked rfl rfl rfl, Chip.wrote_isBudget]
theorem Chip.regWrite_as_isCtrl {a n : Nat} (h : findReg a = some (isCtrlDesc, [n])) (c : Chip) (x : Word) :
    c.regWrite .sup a x = (c.wr a (storedWord isCtrlDesc [n] (c.rd a) x)).isCtrl n := by
  have hp : c.regWrite .sup a x = c.plainWrite .sup isCtrlDesc [n] a x := by simp [Chip.regWrite, h, isCtrlDesc, writerOk_sup, ctrHalf]
  rw [hp, Chip.plainWrite_unlocked rfl rfl rfl, Chip.wrote_isCtrl]

/-- A frame that has landed on a power die, and a word that it writes there. -/
theorem Travelled.only_pwr {c d : Chip} {n : Nat} (hn : n < 4) (h : Travelled (n + 2) c d) {a : Nat} (ha : 0x40200000 + n * 0x80000 ≤ a ∧ a < 0x40280000 + n * 0x80000)
    (x : Word) : Only [Blk.pwr n] c (d.wr a x) :=
  Only.pwrReg fun b hb => (Chip.rd_wr_ne _ _ (by omega)).trans (h.rd (by rw [tokenAddr_pwr hn]; omega))

/-- A write of the budget by the supervisor, once it has landed. -/
theorem isBudget_lands (n : Fin 4) {s : State} (x : Word) (h : s.chip.direct .sup (R.IS_BUDGET n) = true) : ∃ d : Chip, s.write .sup (R.IS_BUDGET n) x =
    { s with chip := d.reexamine n } ∧ d.dies = s.chip.dies ∧ d.fget (R.IS_BUDGET n) F.IS_BUDGET_BUDGET = F.IS_BUDGET_BUDGET.get x ∧ Only [Blk.pwr n] s.chip d := by
  obtain ⟨hd, ha, -⟩ := isSched_place n
  obtain ⟨c, hc, hw⟩ := State.write_travels x h (by omega) ha
  rw [hd] at hc
  rw [Chip.regWrite_as_isBudget (findReg_isBudget n)] at hw
  refine ⟨_, hw, (Chip.dies_wr _ _ _).trans hc.dies, ?_, hc.only_pwr n.2 (by simp only [R.IS_BUDGET]; omega) _⟩
  rw [Chip.fget_wr_self]
  exact stored_isBudget _ _ _
/-- A write of IS_CTRL by the supervisor, once it has landed. -/
theorem isCtrl_lands (n : Fin 4) {s : State} (x : Word) (h : s.chip.direct .sup (R.IS_CTRL n) = true) : ∃ d : Chip, s.write .sup (R.IS_CTRL n) x =
    { s with chip := d.isCtrl n } ∧ d.dies = s.chip.dies ∧ d.fget (R.IS_CTRL n) F.IS_CTRL_DEFER_MAX = F.IS_CTRL_DEFER_MAX.get x ∧
      d.fget (R.IS_CTRL n) F.IS_CTRL_ENABLE = F.IS_CTRL_ENABLE.get x ∧ Only [Blk.pwr n] s.chip d := by
  obtain ⟨-, -, hd, ha⟩ := isSched_place n
  obtain ⟨c, hc, hw⟩ := State.write_travels x h (by omega) ha
  rw [hd] at hc
  rw [Chip.regWrite_as_isCtrl (findReg_isCtrl n)] at hw
  refine ⟨_, hw, (Chip.dies_wr _ _ _).trans hc.dies, ?_, ?_, hc.only_pwr n.2 (by simp only [R.IS_CTRL]; omega) _⟩
  · rw [Chip.fget_wr_self]
    exact stored_isCtrl _ _ _ _ (by decide)
  · rw [Chip.fget_wr_self]
    exact stored_isCtrl _ _ _ _ (by decide)

/-- R116: scheduling is off, and the one waiting start is granted. -/
theorem Chip.isCtrl_grants {c : Chip} {n : Nat} {r : StartReq} (hq : (c.die n).reqs = [r]) (hp : r.prio < 4) (he : c.flag (R.IS_CTRL n) F.IS_CTRL_ENABLE = false)
    (hr : r.pulse = false) : c.isCtrl n = c.grant r.ch := by
  simp only [Chip.isCtrl, hq, byPrio_one hp, he, Bool.not_false, if_true, Chip.forReqs_one, Chip.grantReq_start hr]
theorem Chip.isCtrl_idle {c : Chip} {n : Nat} (hq : (c.die n).reqs = []) : c.isCtrl n = c := by
  simp only [Chip.isCtrl, hq]
  exact ite_self c

/-- R116: scheduling is switched off while one start waits. -/
theorem isEnableWrite_grants (n : Fin 4) (data : Word) {r : StartReq} {s : State} (h : s.chip.direct .sup (R.IS_CTRL n) = true) (hq : (s.chip.die n).reqs = [r])
    (hp : r.pulse = false) (hpr : r.prio < 4) (hch : r.ch < 192) (hd : pdie r.ch = n) : ∃ c, exec (.isEnableWrite .sup n data) s = .next { s with chip := c } ∧
      c.flag (R.IS_CTRL n) F.IS_CTRL_ENABLE = false ∧ (c.die n).reqs = [] ∧ c.chRun r.ch = .starting := by
  obtain ⟨d, hw, hdq, -, he, -⟩ := isCtrl_lands n (F.IS_CTRL_ENABLE.put data 0) h
  have hen : d.flag (R.IS_CTRL n) F.IS_CTRL_ENABLE = false := by
    rw [Chip.flag, he, Fld.get_put _ _ _ (by decide)]
    rfl
  have hdr : (d.die n).reqs = [r] := by rw [Chip.die, hdq]; exact hq
  rw [Chip.isCtrl_grants hdr hpr hen hp] at hw
  refine ⟨_, congrArg Host.Outcome.next hw, ?_, ?_, Chip.chRun_grant d hch⟩
  · rw [Chip.flag, Chip.fget, (Spares.grant d r.ch).rd (by simp only [R.IS_CTRL]; omega) (by simp only [R.IS_CTRL]; omega) fun g hg => ?_]
    · exact hen
    · have := mem_startFields (lo := g.lo) (w := g.w) hg
      simp only [R.IS_CTRL, chBase] at this
      omega
  · rw [← hd] at hdr ⊢
    exact Chip.reqs_grant_one hp hdr

/-- Settles O12: one request makes a re-examination a single grant, and what a grant and a change of running state write is known. -/
theorem schedulerRowsDo : Obligations.SchedulerRowsDo := by
  unfold Obligations.SchedulerRowsDo
  refine ⟨fun n r s hq ⟨hp, hch, hd, hi⟩ hf => ⟨_, State.next_chip rfl, Chip.reexamine_says hq hp hch hd hi hf⟩,
    fun n s hq => State.next_same (Chip.reexamine_none hq), fun ch r s hq ⟨hr, hp⟩ hi => ?_, fun ch x s hs hl hr hx hq => ⟨_, State.next_chip rfl, Chip.segmentEnd_says hs hl hr hx hq⟩,
    fun n data s h hq => ?_, fun n data r s h hq ⟨hp, hpr, hch, hd⟩ => ?_, fun n data s h hq => ?_, fun ch ma s hs hm => ?_, fun ch ma s hs hm => ?_⟩
  · have he : s.chip.deferCapExpire ch = s.chip.capGrant r := by simp [Chip.deferCapExpire, hq, hr]
    have hg := Chip.capGrant_says (c := s.chip) (r := r) hp (by rw [hr]; exact ch.2) (by rw [hr]; exact hq) (by rw [hr]; exact hi)
    rw [hr] at hg
    exact ⟨_, State.next_chip he, hg⟩
  · obtain ⟨d, hw, hdq, hb, ho⟩ := isBudget_lands n data h
    rw [Chip.reexamine_none (by rw [Chip.die, hdq]; exact hq)] at hw
    exact ⟨d, congrArg Host.Outcome.next hw, hb, ho⟩
  · exact isEnableWrite_grants n data h hq hp hpr hch hd
  · obtain ⟨d, hw, hdq, hb, -, ho⟩ := isCtrl_lands n data h
    rw [Chip.isCtrl_idle (by rw [Chip.die, hdq]; exact hq)] at hw
    exact ⟨d, congrArg Host.Outcome.next hw, hb, ho⟩
  · have he : s.chip.atCeiling ch ma = s.chip.setChRun ch .limiting := by
      unfold Chip.atCeiling
      rcases hs with hs | hs <;> simp [hs, hm]
    exact ⟨_, State.next_chip he, Chip.chRun_setChRun _ _ (by decide), .setChRun _ _ _⟩
  · exact ⟨_, State.next_chip (if_pos ⟨hs, hm⟩), Chip.chRun_setChRun _ _ (modeState_free _), .setChRun _ _ _⟩

end Sys2Proof.Machine
end

section
/-! SUPPORT. A channel's pending set and active configuration, which only its own boundary takes (R90). -/

namespace Sys2Proof.Machine
open Sys2Proof

/-- The channel has the same set pending, bound to the same boundary, and the same active mode and configuration. -/
structure SetKept (ch : Nat) (c c' : Chip) : Prop where
  pend : (c'.chan ch).pend = (c.chan ch).pend
  align : (c'.chan ch).align = (c.chan ch).align
  cmd : c'.rd (R.CH_ACTIVE_CMD ch) = c.rd (R.CH_ACTIVE_CMD ch)
  cfg : c'.rd (R.CH_ACTIVE_CFG ch) = c.rd (R.CH_ACTIVE_CFG ch)

namespace SetKept

variable {ch : Nat} {c c' c'' : Chip}

theorem refl (c : Chip) : SetKept ch c c := ⟨rfl, rfl, rfl, rfl⟩
theorem trans (h : SetKept ch c c') (h' : SetKept ch c' c'') : SetKept ch c c'' :=
  ⟨h'.pend.trans h.pend, h'.align.trans h.align, h'.cmd.trans h.cmd, h'.cfg.trans h.cfg⟩
theorem ite {p : Prop} [Decidable p] (h : p → SetKept ch c c') (h' : ¬ p → SetKept ch c c'') : SetKept ch c (if p then c' else c'') := by
  split
  case isTrue hp => exact h hp
  case isFalse hp => exact h' hp
theorem foldl {α : Type} {f : Chip → α → Chip} {xs : List α} (h : ∀ x ∈ xs, ∀ c, SetKept ch c (f c x)) (c : Chip) : SetKept ch c (xs.foldl f c) :=
  List.foldlRecOn xs f (motive := fun d => SetKept ch c d) (refl c) fun d hd x hx => hd.trans (h x hx d)
theorem of_chans (hc : c'.chans = c.chans) (h : ∀ o, o = 0x10 ∨ o = 0x18 → c'.rd (chBase ch + o) = c.rd (chBase ch + o)) : SetKept ch c c' :=
  ⟨by rw [Chip.chan, hc]; rfl, by rw [Chip.chan, hc]; rfl, h 0x10 (.inl rfl), h 0x18 (.inr rfl)⟩
theorem served (h : Served c c') : SetKept ch c c' := of_chans (h.field (·.chans)) fun o ho => h.rd (by simp only [chBase]; omega)
theorem finish (c : Chip) (p : Cmd → Bool) (st : CmdStatus) (res : List Word) : SetKept ch c (c.finish p st res) := served (.finish c p st res)
theorem setDie (c : Chip) (n : Nat) (x : DieX) : SetKept ch c (c.setDie n x) := ⟨rfl, rfl, rfl, rfl⟩
theorem setChan_ne (c : Chip) {k : Nat} (x : ChanX) (h : ch ≠ k) : SetKept ch c (c.setChan k x) := by
  have he := Chip.chan_setChan_ne c x h
  exact ⟨congrArg ChanX.pend he, congrArg ChanX.align he, rfl, rfl⟩
/-- What a channel holds beside its pending set. -/
theorem setChan (c : Chip) {k : Nat} {x : ChanX} (hp : x.pend = (c.chan k).pend) (ha : x.align = (c.chan k).align) : SetKept ch c (c.setChan k x) := by
  by_cases h : ch = k
  · subst h
    exact ⟨by rw [Chip.chan_setChan_self]; exact hp, by rw [Chip.chan_setChan_self]; exact ha, rfl, rfl⟩
  · exact setChan_ne c x h
theorem wr (c : Chip) {a : Nat} (x : Word) (h : a ≠ chBase ch + 0x10 ∧ a ≠ chBase ch + 0x18) : SetKept ch c (c.wr a x) :=
  of_chans (Chip.chans_wr _ _ _) fun o ho => Chip.rd_wr_ne c x fun he => by
    obtain ho | ho := ho <;> (subst ho; omega)
/-- A register of any channel but those of the active set. -/
theorem reg (c : Chip) (k o : Nat) (f : Fld) (v : Nat) (ho : o ≠ 0x10 ∧ o ≠ 0x18 ∧ o < 0x100) : SetKept ch c (c.fset (chBase k + o) f v) :=
  wr c _ (by simp only [chBase]; omega)
theorem bump (c : Chip) (k o n : Nat) (ho : o ≠ 0x10 ∧ o ≠ 0x18 ∧ o < 0x100) : SetKept ch c (c.bump (chBase k + o) n) :=
  wr c _ (by simp only [chBase]; omega)
/-- A register of a power die beyond its channels. -/
theorem dieReg (c : Chip) {a : Nat} (x : Word) (h : 0x40000 ≤ a % 0x80000) : SetKept ch c (c.wr a x) := wr c _ (by simp only [chBase]; omega)

/-! ### Leaving the driven state -/

theorem setChState (c : Chip) (k : Nat) (x : ChState) : SetKept ch c (c.setChState k x) := by
  have h : SetKept ch c (c.setChan k { c.chan k with cycle := 0 }) := setChan c rfl rfl
  have h' : SetKept ch c (if c.chState k = x then c else c.setChan k { c.chan k with cycle := 0 }) := ite (fun _ => refl c) fun _ => h
  exact h'.trans (reg _ k 0x1C _ _ (by decide))
theorem setHoldSub (c : Chip) (k : Nat) (x : ChState) : SetKept ch c (c.setHoldSub k x) := reg c k 0x3C _ _ (by decide)
theorem setChRun (c : Chip) (k : Nat) (x : ChState) : SetKept ch c (c.setChRun k x) := ite (fun _ => setHoldSub c k x) fun _ => setChState c k x
theorem updateHk (c : Chip) (n l : Nat) : SetKept ch c (c.updateHk n l) := by
  have h (d : Chip) (x : Word) : SetKept ch d (d.wr (R.PWR_HK_STATUS n) x) := dieReg d x (by simp only [R.PWR_HK_STATUS]; omega)
  exact ((h c _).trans (h _ _)).trans (h _ _)
theorem lidEnd (c : Chip) (k st : Nat) : SetKept ch c (c.lidEnd k st) := by
  have hl (d : Chip) (h : d.chans = c.chans) : SetKept ch d (d.setChan k { c.chan k with lid := none }) := by
    have hk : c.chan k = d.chan k := by rw [Chip.chan, Chip.chan, h]
    have hp : (c.chan k).pend = (d.chan k).pend := by rw [hk]
    have ha : (c.chan k).align = (d.chan k).align := by rw [hk]
    exact setChan d hp ha
  exact (reg c k 0xD0 _ _ (by decide)).trans <| (reg _ k 0xD0 _ _ (by decide)).trans <|
    (hl _ ((Chip.chans_fbumpWrap _ _ _).trans (Chip.chans_fset _ _ _ _))).trans (updateHk _ _ _)
theorem lidAbort (c : Chip) (k : Nat) : SetKept ch c (c.lidAbort k) := by
  refine ite (fun _ => ?_) fun _ => refl c
  obtain ⟨d, hd⟩ : ∃ d, d = c.lidEnd k 3 := ⟨_, rfl⟩
  rw [← hd]
  exact (hd ▸ lidEnd c k 3 : SetKept ch c d).trans (of_chans rfl fun _ _ => rfl)
theorem leavePwm (c : Chip) (k : Nat) : SetKept ch c (c.leavePwm k) := by
  have h : SetKept ch c (c.setChan k { c.chan k with onTicks := 0, delay := 0, owed := 0 }) := setChan c rfl rfl
  exact h.trans <| (reg _ k 0x1C _ _ (by decide)).trans <| (reg _ k 0xB8 _ _ (by decide)).trans (reg _ k 0xB8 _ _ (by decide))
theorem stopDrive (c : Chip) (k : Nat) : SetKept ch c (c.stopDrive k) := by
  unfold Chip.stopDrive
  extract_lets was x d e
  have hs : SetKept ch c (c.setChan k { c.chan k with segs := [], boDone := false }) := setChan c rfl rfl
  have hd : SetKept ch c d := hs.trans (leavePwm _ k)
  have he : SetKept ch d e := ite (fun _ => reg d k 0x3C _ _ (by decide)) fun _ => refl d
  exact hd.trans <| he.trans <| ite (fun _ => lidAbort e k) fun _ => refl e
theorem withdraw (c : Chip) (k : Nat) : SetKept ch c (c.withdraw k) := (setDie c _ _).trans (reg _ k 0x1C _ _ (by decide))
theorem goOff (c : Chip) (k : Nat) : SetKept ch c (c.goOff k) :=
  (stopDrive c k).trans <| (withdraw _ k).trans <| (setChRun _ k _).trans <| (reg _ k 0x1C _ _ (by decide)).trans <|
    (reg _ k 0x3C _ _ (by decide)).trans (reg _ k 0x3C _ _ (by decide))
theorem dropPending_ne (c : Chip) {k : Nat} (h : ch ≠ k) : SetKept ch c (c.dropPending k) := (setChan_ne c _ h).trans (reg _ k 0x1C _ _ (by decide))
theorem enterDisabled_ne (c : Chip) {k : Nat} (h : ch ≠ k) : SetKept ch c (c.enterDisabled k) :=
  (finish c _ _ _).trans <| (finish _ _ _ _).trans <| (stopDrive _ k).trans <| (withdraw _ k).trans <| (dropPending_ne _ h).trans <|
    (setHoldSub _ k _).trans <| (setChState _ k _).trans <| (reg _ k 0x1C _ _ (by decide)).trans <| (reg _ k 0x3C _ _ (by decide)).trans <|
    (reg _ k 0x3C _ _ (by decide)).trans (finish _ _ _ _)

/-! ### A mode that takes effect -/

theorem xcEnd (c : Chip) (n st : Nat) : SetKept ch c (c.xcEnd n st) :=
  (setDie c n _).trans <| (dieReg _ _ (by simp only [R.PWR_XC_STATUS]; omega)).trans (dieReg _ _ (by simp only [R.PWR_XC_STATUS]; omega))
theorem xcAbort (c : Chip) (k : Nat) : SetKept ch c (c.xcAbort k) := by
  unfold Chip.xcAbort
  split
  · exact ite (fun _ => (xcEnd c _ _).trans <| (dieReg _ _ (by simp only [R.PWR_XC_HIT0]; omega)).trans <|
      (dieReg _ _ (by simp only [R.PWR_XC_HIT1]; omega)).trans (finish _ _ _ _)) fun _ => refl c
  · exact refl c
theorem tdrAbort (c : Chip) (n : Nat) : SetKept ch c (c.tdrAbort n) := by
  unfold Chip.tdrAbort
  split
  · have ht (d : Chip) : SetKept ch d (d.fset (R.PWR_TDR_STATUS n) F.PWR_TDR_STATUS_STATUS 3) := dieReg d _ (by simp only [R.PWR_TDR_STATUS]; omega)
    exact (setDie c n _).trans <| (ht _).trans <| (updateHk _ _ _).trans (finish _ _ _ _)
  · exact refl c
theorem tdrAbortOn (c : Chip) (k : Nat) : SetKept ch c (c.tdrAbortOn k) := by
  unfold Chip.tdrAbortOn
  split
  · exact ite (fun _ => tdrAbort c _) fun _ => refl c
  · exact refl c
theorem driveApplied (c : Chip) (k : Nat) : SetKept ch c (c.driveApplied k) := (xcAbort c k).trans (tdrAbortOn _ k)
theorem newPeriod (c : Chip) (k d : Nat) : SetKept ch c (c.newPeriod k d) := by
  unfold Chip.newPeriod
  extract_lets on
  have h : SetKept ch c (c.setChan k { c.chan k with onTicks := on, delay := d, cycle := 0 }) := setChan c rfl rfl
  exact h.trans (reg _ k 0x1C _ _ (by decide))
theorem changeMode (c : Chip) (k mode : Nat) (was : Bool) {out : ChState → Chip → Chip} (h : ∀ st d, SetKept ch d (out st d)) :
    SetKept ch c (c.changeMode k mode was out) :=
  (h _ c).trans (ite (fun _ => ite (fun _ => refl _) fun _ => newPeriod _ k _) fun _ => leavePwm _ k)
theorem takeMode (c : Chip) (k mode : Nat) (was : Bool) : SetKept ch c (c.takeMode k mode was).1 := by
  have hoff (x : Chip × Bool) (hx : SetKept ch c x.1) : SetKept ch c (if mode = 0 then (c.goOff k, false) else x).1 := by
    split
    · exact goOff c k
    · exact hx
  have hlimp (d : Chip) : SetKept ch d ((d.setHoldSub k .off).setChState k .off) := (setHoldSub d k _).trans (setChState _ k _)
  have hmode := (changeMode c k mode was fun st d => setChState d k st).trans (driveApplied (ch := ch) _ k)
  unfold Chip.takeMode
  split
  · exact hoff _ (driveApplied c k)
  · exact hoff _ hmode
  · exact hoff _ hmode
  · exact hoff _ hmode
  · exact hoff _ ((changeMode c k mode was fun _ d => refl d).trans (driveApplied _ k))
  · exact hoff _ (driveApplied c k)
  · split
    · exact (goOff c k).trans (hlimp _)
    · split
      · exact (changeMode c k mode was fun st d => (setHoldSub d k .off).trans (setChState _ k st)).trans (driveApplied _ k)
      · exact ((goOff c k).trans (hlimp _)).trans (driveApplied _ k)
  · exact refl c
theorem activate_ne (c : Chip) {k : Nat} (x : ChSet) (h : ch ≠ k) : SetKept ch c (c.activate k x) := by
  have hw (d : Chip) (o : Nat) (y : Word) (ho : o < 0x100) : SetKept ch d (d.wr (chBase k + o) y) := wr d y (by simp only [chBase]; omega)
  exact (hw c 0x10 _ (by decide)).trans <| (hw _ 0x14 _ (by decide)).trans <| (hw _ 0x18 _ (by decide)).trans (reg _ k 0x1C _ _ (by decide))
theorem applySet_ne (c : Chip) {k : Nat} (h : ch ≠ k) : SetKept ch c (c.applySet k).1 := by
  unfold Chip.applySet
  split
  · exact refl c
  · exact (dropPending_ne c h).trans <| (activate_ne _ _ h).trans (takeMode _ k _ _)
theorem applyAll_ne : ∀ (ks : List Nat) (c : Chip), ch ∉ ks → SetKept ch c (Chip.applyAll ks c).1
  | [], c, _ => refl c
  | k :: ks, c, h => by
    obtain ⟨hk, hks⟩ := not_or.1 (mt List.mem_cons.2 h)
    exact (applySet_ne c hk).trans (applyAll_ne ks _ hks)
theorem restartPeriods (al : List Nat) (c : Chip) : SetKept ch c (Chip.restartPeriods al c) :=
  foldl (fun k _ c => ite (fun _ => newPeriod c k _) fun _ => refl c) c

/-! ### Grants and arrivals -/

theorem readied (c : Chip) (k : Nat) : SetKept ch c (c.readied k) := by
  have hr (d : Chip) (p : Prop) [Decidable p] : SetKept ch d (if p then d.fbump (R.CH_PROT_STATUS k) F.CH_PROT_STATUS_RETRY_NUM else d) :=
    ite (fun _ => reg d k 0x3C _ _ (by decide)) fun _ => refl d
  unfold Chip.readied
  extract_lets n p fb retry src x d
  have hx : SetKept ch (c.setReqs n (dropReq k (c.die n).reqs)) ((c.setReqs n (dropReq k (c.die n).reqs)).setChan k x) := setChan _ rfl rfl
  have hd : SetKept ch c d := (setDie c n _).trans hx
  clear_value d
  exact hd.trans <| (hr d _).trans <| (reg _ k 0x1C _ _ (by decide)).trans <| (reg _ k 0x1C _ _ (by decide)).trans <|
    (reg _ k 0x1C _ _ (by decide)).trans (bump _ k 0x24 1 (by decide))
theorem tdrPause (c : Chip) (n : Nat) : SetKept ch c (c.tdrPause n) :=
  ite (fun _ => (dieReg c _ (by simp only [R.PWR_TDR_STATUS]; omega)).trans (updateHk _ _ _)) fun _ => refl c
theorem startCmds (c : Chip) (p : Cmd → Bool) : SetKept ch c (c.startCmds p) := of_chans (Chip.chans_startCmds _ _) fun _ _ => rfl
theorem sealDrive (c : Chip) (k : Nat) : SetKept ch c (c.sealDrive k) :=
  ite (fun _ => of_chans (Chip.chans_setSealX _ _ _) fun _ _ => rfl) fun _ => refl _
theorem lidStart (c : Chip) (k m : Nat) : SetKept ch c (c.lidStart k m) := by
  unfold Chip.lidStart
  extract_lets n src d
  have hd : SetKept ch c d := setChan c rfl rfl
  have hskip (d : Chip) : SetKept ch d (d.bump (R.PWR_LID_SKIP_CNT n)) := dieReg d _ (by simp only [R.PWR_LID_SKIP_CNT]; omega)
  refine ite (fun _ => ite (fun _ => (reg c k 0xD0 _ _ (by decide)).trans (hskip _)) fun _ => hd.trans ?_) fun _ => refl c
  generalize d = e
  exact (reg e k 0xD0 _ _ (by decide)).trans <| (reg _ k 0xD0 _ _ (by decide)).trans <| (updateHk _ _ _).trans <| (tdrPause _ _).trans (startCmds _ _)
theorem runStart (c : Chip) (k : Nat) : SetKept ch c (c.runStart k) := by
  have h₁ (p : Prop) [Decidable p] : SetKept ch c (if p then c.newPeriod k (c.phaseDelay k) else c) := ite (fun _ => newPeriod c k _) fun _ => refl c
  have h₂ (d : Chip) (p : Prop) [Decidable p] : SetKept ch d (if p then d.fset (R.CH_PROT_STATUS k) F.CH_PROT_STATUS_BYPASS_ON 0 else d) :=
    ite (fun _ => reg d k 0x3C _ _ (by decide)) fun _ => refl d
  exact (h₁ _).trans <| (h₂ _ _).trans <| (lidStart _ k _).trans (sealDrive _ k)
theorem grant (c : Chip) (k : Nat) : SetKept ch c (c.grant k) := ((readied c k).trans (setChRun _ k _)).trans (runStart _ k)
theorem xcGrant (c : Chip) (n src : Nat) : SetKept ch c (c.xcGrant n src) :=
  (((of_chans rfl fun _ _ => rfl : SetKept ch c c.draw.2).trans (setDie _ n _)).trans (dieReg _ _ (by simp only [R.PWR_XC_WATCH0]; omega))).trans
    (dieReg _ _ (by simp only [R.PWR_XC_WATCH1]; omega))
theorem grantReq (c : Chip) (r : StartReq) : SetKept ch c (c.grantReq r) := ite (fun _ => xcGrant c _ _) fun _ => grant c _
theorem enqueue (c : Chip) (r : StartReq) : SetKept ch c (c.enqueue r) :=
  (setDie c _ _).trans (ite (fun _ => refl _) fun _ => reg _ r.ch 0x1C _ _ (by decide))
theorem capGrant (c : Chip) {r : StartReq} (hr : r.ch < 192) : SetKept ch c (c.capGrant r) :=
  (grantReq c r).trans <| (bump _ r.ch 0x2C 1 (by decide)).trans <|
    (dieReg _ _ (by simp only [R.IS_CAPGRANT_CNT]; omega)).trans (served (Chip.chEvent_served _ (by decide) hr))
theorem defer (c : Chip) (r : StartReq) : SetKept ch c (c.defer r) :=
  (bump c r.ch 0x28 1 (by decide)).trans (dieReg _ _ (by simp only [R.IS_DEFER_CNT]; omega))
theorem grantInOrder (n k : Nat) (c : Chip) : SetKept ch c (Chip.grantInOrder n k c) := by
  induction k generalizing c with
  | zero =>
    rw [Chip.grantInOrder]
    exact refl c
  | succ k ih =>
    rw [Chip.grantInOrder]
    split
    · exact refl c
    · split
      · exact (grantReq c _).trans (ih _)
      · exact refl c
theorem reexamine (c : Chip) (n : Nat) : SetKept ch c (c.reexamine n) := grantInOrder n _ c
theorem arrive (c : Chip) (n : Nat) {chs : List Nat} (h : ∀ k ∈ chs, k < 192) : SetKept ch c (c.arrive n chs) :=
  Chip.arrive_rel refl trans enqueue grantReq reexamine (fun c _ => capGrant c) defer c n h

end SetKept

end Sys2Proof.Machine
end

section
/-! SUPPORT. Writes of a channel's command and owner (R84 to R91, R141). -/

namespace Sys2Proof.Machine
open Sys2Proof

/-! ### Captures (R91) -/

section
variable (c : Chip) (ch : Nat) (al : Bool)

theorem Chip.rd_capture {a : Nat} (h : a ≠ R.CH_STATUS ch) (h' : a ≠ R.PWR_COMMIT_OVERRUN_CNT (pdie ch)) : (c.capture ch al).rd a = c.rd a := by
  unfold Chip.capture
  extract_lets d
  have hd : d.rd a = c.rd a := by
    unfold d
    split
    · exact Chip.rd_bump_ne _ _ h'
    · rfl
  exact (Chip.rd_fset_ne _ _ _ h).trans hd
theorem Chip.pend_capture_ne {k : Nat} (h : k ≠ ch) : ((c.capture ch al).chan k).pend = (c.chan k).pend := by
  unfold Chip.capture
  extract_lets d src
  have hd : d.chans = c.chans := by
    unfold d
    split
    · exact Chip.chans_bump _ _ _
    · rfl
  rw [Chip.chan, Chip.chans_fset]
  refine (congrArg ChanX.pend (Chip.chan_setChan_ne d _ h)).trans ?_
  rw [Chip.chan, hd]
  rfl
theorem Chip.pend_capture : ((c.capture ch al).chan ch).pend = some ⟨c.rd (R.CH_CMD ch), c.rd (R.CH_PWM ch), c.rd (R.CH_CFG ch)⟩ := by
  unfold Chip.capture
  extract_lets d src
  have hd (o : Nat) (ho : o < 0x100) : d.rd (chBase ch + o) = c.rd (chBase ch + o) := by
    unfold d
    split
    · exact Chip.rd_bump_ne _ _ (by simp only [R.PWR_COMMIT_OVERRUN_CNT, pdie, chBase]; omega)
    · rfl
  rw [Chip.chan, Chip.chans_fset]
  refine (congrArg ChanX.pend (Chip.chan_setChan_self d _ _)).trans ?_
  exact congrArg some (congr (congr (congrArg ChSet.mk (hd 0 (by decide))) (hd 4 (by decide))) (hd 8 (by decide)))
/-- A field of the channel's status but PENDING_APPLY. -/
theorem Chip.status_capture (f : Fld) (hf : Apart F.CH_STATUS_PENDING_APPLY f) (hw : f.lo + f.w ≤ 32) : (c.capture ch al).fget (R.CH_STATUS ch) f = c.fget (R.CH_STATUS ch) f := by
  unfold Chip.capture
  extract_lets d
  have hd : d.fget (R.CH_STATUS ch) f = c.fget (R.CH_STATUS ch) f := by
    unfold d
    split
    · rw [Chip.fget, Chip.rd_bump_ne _ _ (by simp only [R.CH_STATUS, R.PWR_COMMIT_OVERRUN_CNT, pdie, chBase]; omega)]
      rfl
    · rfl
  have hk (y : ChanX) : (d.setChan ch y).fget (R.CH_STATUS ch) f = d.fget (R.CH_STATUS ch) f := rfl
  exact (Chip.fget_fset_field _ _ _ _ _ hf hw).trans ((hk _).trans hd)
theorem Only.capture {ch n : Nat} (hch : pdie ch = n) : Only [Blk.pwr n] c (c.capture ch al) :=
  Only.pwrReg fun a ha => Chip.rd_capture c ch al (by simp only [R.CH_STATUS, chBase, pdie] at hch ⊢; omega)
    (by simp only [R.PWR_COMMIT_OVERRUN_CNT]; omega)
theorem Chip.fget_capture (o : Nat) (ho : o < 0x100) (f : Fld) (h : o ≠ 0x1C) : (c.capture ch al).fget (chBase ch + o) f = c.fget (chBase ch + o) f := by
  rw [Chip.fget, Chip.rd_capture]
  · rfl
  · simp only [R.CH_STATUS]; omega
  · simp only [R.PWR_COMMIT_OVERRUN_CNT, pdie, chBase]; omega
end

/-! ### CH_CMD (R84, R141) -/

/-- CH_CMD takes the fields of a written word. -/
def Chip.cmdWritten (c : Chip) (ch : Nat) (x : Word) : Chip :=
  let c := c.fset (R.CH_CMD ch) F.CH_CMD_DUTY (F.CH_CMD_DUTY.get x) |>.fset (R.CH_CMD ch) F.CH_CMD_CEIL (F.CH_CMD_CEIL.get x)
  if F.CH_CMD_MODE.get x < 4 then c.fset (R.CH_CMD ch) F.CH_CMD_MODE (F.CH_CMD_MODE.get x) else c
/-- R141: a written word rearms the channel, or not. -/
def Chip.cmdRearmed (c : Chip) (ch : Nat) (x : Word) : Chip := if F.CH_CMD_REARM.get x = 1 then c.rearm ch else c
theorem Chip.cmdFields_eq (c : Chip) (ch : Nat) (x : Word) : c.cmdFields ch x =
    if F.CH_CMD_APPLY.get x = 1 ∧ ((c.cmdWritten ch x).cmdRearmed ch x).mayCapture ch then ((c.cmdWritten ch x).cmdRearmed ch x).capture ch false
    else (c.cmdWritten ch x).cmdRearmed ch x := rfl

theorem Chip.chans_cmdWritten (c : Chip) (ch : Nat) (x : Word) : (c.cmdWritten ch x).chans = c.chans := by
  unfold Chip.cmdWritten
  extract_lets d
  have hd : d.chans = c.chans := (Chip.chans_fset _ _ _ _).trans (Chip.chans_fset _ _ _ _)
  split
  · exact (Chip.chans_fset _ _ _ _).trans hd
  · exact hd
theorem Chip.rd_cmdWritten (c : Chip) (ch : Nat) (x : Word) {a : Nat} (h : a ≠ R.CH_CMD ch) : (c.cmdWritten ch x).rd a = c.rd a := by
  unfold Chip.cmdWritten
  extract_lets d
  have hd : d.rd a = c.rd a := (Chip.rd_fset_ne _ _ _ h).trans (Chip.rd_fset_ne _ _ _ h)
  split
  · exact (Chip.rd_fset_ne _ _ _ h).trans hd
  · exact hd
theorem Chip.duty_cmdWritten (c : Chip) (ch : Nat) (x : Word) : (c.cmdWritten ch x).fget (R.CH_CMD ch) F.CH_CMD_DUTY = F.CH_CMD_DUTY.get x := by
  unfold Chip.cmdWritten
  extract_lets d
  have hd : d.fget (R.CH_CMD ch) F.CH_CMD_DUTY = F.CH_CMD_DUTY.get x := by
    refine (Chip.fget_fset_field _ _ _ _ _ (by decide) (by decide)).trans ((Chip.fget_fset_self _ _ _ _ (by decide)).trans ?_)
    exact Nat.mod_eq_of_lt (Fld.get_lt _ _)
  split
  · exact (Chip.fget_fset_field _ _ _ _ _ (by decide) (by decide)).trans hd
  · exact hd
theorem Chip.fget_cmdWritten (c : Chip) (ch : Nat) (x : Word) (k o : Nat) (f : Fld) (ho : 0 < o ∧ o < 0x100) :
    (c.cmdWritten ch x).fget (chBase k + o) f = c.fget (chBase k + o) f := by
  rw [Chip.fget, Chip.rd_cmdWritten _ _ _ (by simp only [R.CH_CMD, chBase]; omega)]
  rfl
theorem Chip.chState_cmdWritten (c : Chip) (ch : Nat) (x : Word) (k : Nat) : (c.cmdWritten ch x).chState k = c.chState k :=
  congrArg ChState.ofCode (c.fget_cmdWritten ch x k 0x1C _ (by decide))

/-- What decides that a channel has cooled. -/
theorem Chip.cooled_congr {c d : Chip} {ch : Nat} (hc : d.chans = c.chans) (hp : ∀ k, d.rd (R.CH_PROT_STATUS k) = c.rd (R.CH_PROT_STATUS k))
    (hq : d.rd (R.PWR_PAIR (pdie ch)) = c.rd (R.PWR_PAIR (pdie ch))) : d.cooled ch = c.cooled ch := by
  have hx : d.chan ch = c.chan ch := by rw [Chip.chan, hc]; rfl
  have hpair : d.paired ch = c.paired ch := by rw [Chip.paired, Chip.paired, Chip.fget, Chip.fget, hq]
  simp only [Chip.cooled, hx, hpair, Chip.flag, Chip.fget, hp]

/-- R84, R91: the owner's command of a channel that takes one. -/
theorem Chip.cmdFields_apply {c : Chip} {ch : Nat} {x : Word} (hx : F.CH_CMD_APPLY.get x = 1) (hs : c.chState ch ∉ [ChState.latchedOff, .disabled, .held, .limp]) :
    c.cmdFields ch x = (c.cmdWritten ch x).capture ch false := by
  have hst := c.chState_cmdWritten ch x ch
  have hr : (c.cmdWritten ch x).cmdRearmed ch x = c.cmdWritten ch x := by
    have hl : (c.cmdWritten ch x).chState ch ≠ .latchedOff := fun h => hs (by rw [← hst, h]; decide)
    rw [Chip.cmdRearmed, Chip.rearm, if_neg hl, ite_self]
  have hm : (c.cmdWritten ch x).mayCapture ch = true := by
    unfold Chip.mayCapture
    rw [hst]
    cases h : c.chState ch <;> simp_all
  rw [Chip.cmdFields_eq, hr, if_pos ⟨hx, hm⟩]
/-- A channel outside HELD and LIMP that goes off. -/
theorem Chip.goOff_says {c : Chip} {ch : Nat} (hch : ch < 192) (hi : c.inHold ch = false) : (c.goOff ch).chState ch = .off ∧
    (c.goOff ch).fget (R.CH_STATUS ch) F.CH_STATUS_CAUSE = 0 ∧ (c.goOff ch).fget (R.CH_PROT_STATUS ch) F.CH_PROT_STATUS_RETRY_NUM = 0 := by
  have hg : ((c.stopDrive ch).withdraw ch).inHold ch = false := (Chip.inHold_eq (Chip.chState_stopped hch)).trans hi
  have hne : R.CH_STATUS ch ≠ R.CH_PROT_STATUS ch := by simp only [R.CH_STATUS, R.CH_PROT_STATUS]; omega
  rw [Chip.goOff, Chip.setChRun_of_not_inHold hg]
  generalize (c.stopDrive ch).withdraw ch = e
  refine ⟨?_, ?_, ?_⟩
  · rw [Chip.chState, Chip.fget_fset_ne _ _ _ _ hne, Chip.fget_fset_ne _ _ _ _ hne, Chip.fget_fset_field _ _ _ _ _ (by decide) (by decide)]
    exact Chip.chState_setChState e ch _
  · rw [Chip.fget_fset_ne _ _ _ _ hne, Chip.fget_fset_ne _ _ _ _ hne, Chip.fget_fset_self _ _ _ _ (by decide)]
    rfl
  · rw [Chip.fget_fset_field _ _ _ _ _ (by decide) (by decide), Chip.fget_fset_self _ _ _ _ (by decide)]
    rfl
/-- R141: the owner's command re-arms a channel that has cooled. -/
theorem Chip.cmdFields_rearm {c : Chip} {ch : Nat} (hch : ch < 192) {x : Word} (hx : F.CH_CMD_REARM.get x = 1) (hs : c.chState ch = .latchedOff)
    (hc : c.cooled ch = true) : (c.cmdFields ch x).chState ch = .off ∧ (c.cmdFields ch x).fget (R.CH_STATUS ch) F.CH_STATUS_CAUSE = 0 ∧
      (c.cmdFields ch x).fget (R.CH_PROT_STATUS ch) F.CH_PROT_STATUS_RETRY_NUM = 0 := by
  have hcool : (c.cmdWritten ch x).cooled ch = true := (Chip.cooled_congr (c.chans_cmdWritten ch x)
    (fun k => c.rd_cmdWritten ch x (by simp only [R.CH_PROT_STATUS, R.CH_CMD, chBase]; omega))
    (c.rd_cmdWritten ch x (by simp only [R.PWR_PAIR, R.CH_CMD, pdie, chBase]; omega))).trans hc
  have hr : (c.cmdWritten ch x).cmdRearmed ch x = (c.cmdWritten ch x).goOff ch := by
    rw [Chip.cmdRearmed, if_pos hx, Chip.rearm, if_pos ((c.chState_cmdWritten ch x ch).trans hs), if_pos hcool]
  have hg := Chip.goOff_says (c := c.cmdWritten ch x) hch (by rw [Chip.inHold, c.chState_cmdWritten ch x ch, hs]; rfl)
  rw [Chip.cmdFields_eq, hr]
  split
  · obtain ⟨h₁, h₂, h₃⟩ := hg
    refine ⟨?_, ?_, (Chip.fget_capture _ ch false 0x3C (by decide) _ (by decide)).trans h₃⟩
    · exact (congrArg ChState.ofCode (Chip.status_capture _ ch false _ (by decide) (by decide))).trans h₁
    · exact (Chip.status_capture _ ch false _ (by decide) (by decide)).trans h₂
  · exact hg

/-! ### CH_OWNER (R85 to R88) -/

theorem Chip.reloadShadows_says (c : Chip) (ch : Nat) : (c.reloadShadows ch).rd (R.CH_CMD ch) = c.rd (R.CH_ACTIVE_CMD ch) ∧
    ∀ a, a ≠ R.CH_CMD ch → a ≠ R.CH_PWM ch → a ≠ R.CH_CFG ch → (c.reloadShadows ch).rd a = c.rd a := by
  refine ⟨?_, fun a h₁ h₂ h₃ => (Chip.rd_wr_ne _ _ h₃).trans <| (Chip.rd_wr_ne _ _ h₂).trans (Chip.rd_wr_ne _ _ h₁)⟩
  refine (Chip.rd_wr_ne _ _ ?_).trans <| (Chip.rd_wr_ne _ _ ?_).trans (Chip.rd_wr_self _ _ _)
  all_goals
    simp only [R.CH_CMD, R.CH_PWM, R.CH_CFG]
    omega
/-- R85, R88: another owner than the access function for an ordinary channel. -/
theorem Chip.ownerWrite_says {c : Chip} {ch v : Nat} (hs : c.isStartEnable ch = false) (hv : v ≤ 5) : (c.ownerWrite ch v).ownerOf ch = v ∧
    (c.ownerWrite ch v).rd (R.CH_CMD ch) = c.rd (R.CH_ACTIVE_CMD ch) ∧ Only [Blk.chan ch] c (c.ownerWrite ch v) := by
  have he : c.ownerWrite ch v = (c.fset (R.CH_OWNER ch) F.CH_OWNER_OWNER v).reloadShadows ch := by
    rw [Chip.ownerWrite, if_neg (by omega), if_neg (by simp [hs]), if_neg (by omega)]
  obtain ⟨h₁, h₂⟩ := (c.fset (R.CH_OWNER ch) F.CH_OWNER_OWNER v).reloadShadows_says ch
  rw [he]
  refine ⟨?_, ?_, fun a ha => ?_⟩
  · rw [Chip.ownerOf, Chip.fget, h₂ _ (by simp only [R.CH_OWNER, R.CH_CMD]; omega) (by simp only [R.CH_OWNER, R.CH_PWM]; omega)
      (by simp only [R.CH_OWNER, R.CH_CFG]; omega)]
    exact (Chip.fget_fset_self _ _ _ _ (by decide)).trans (Nat.mod_eq_of_lt (lt_of_le_of_lt hv (by decide)))
  · exact h₁.trans (Chip.rd_fset_ne _ _ _ (by simp only [R.CH_OWNER, R.CH_ACTIVE_CMD]; omega))
  · have := ha (Blk.chan ch) (by simp)
    simp only [Blk.chan] at this
    rw [h₂ a (by simp only [R.CH_CMD]; omega) (by simp only [R.CH_PWM]; omega) (by simp only [R.CH_CFG]; omega)]
    exact Chip.rd_fset_ne _ _ _ (by simp only [R.CH_OWNER]; omega)

/-! ### The registers as they are found -/

def chCmdDesc : RegDesc := ⟨.CH_CMD, 0x40200000, [(4, 0x80000, 0), (48, 0x100, 0)], 0xFFFFF07, 0, 0, 0xC0000000, 0, 0⟩
theorem chanDesc_cmd : chanDesc 0 pwrRegs = some chCmdDesc := by decide
def chOwnerDesc : RegDesc := ⟨.CH_OWNER, 0x4020000C, [(4, 0x80000, 0), (48, 0x100, 0)], 0, 0, 0xF, 0, 0, 4⟩
theorem chanDesc_owner : chanDesc 0xC pwrRegs = some chOwnerDesc := by decide

section
variable {a n l : Nat} {c : Chip}

theorem Chip.regWrite_as_chCmd (h : findReg a = some (chCmdDesc, [n, l])) (ha : 0x40200000 ≤ a) {rq : Req} (hr : c.ownerOf (48 * n + l) = rq.code)
    (ho : c.oddMember (48 * n + l) = false) (x : Word) : c.regWrite rq a x = c.cmdFields (48 * n + l) x := by
  have hw : writerOk rq .CH_CMD [n, l] a = true := by simp [writerOk]; omega
  have hp : c.regWrite rq a x = c.writeCmd rq.code (48 * n + l) x := by
    simp [Chip.regWrite, h, chCmdDesc, hw, chOf, hr, show ¬ (a < 0x400D0000) by omega]
  rw [hp, Chip.writeCmd, Chip.lead_of_even ho, if_pos hr, if_neg (by simp [ho])]
theorem Chip.regWrite_as_chOwner (h : findReg a = some (chOwnerDesc, [n, l])) (hs : isSealed (48 * n + l) = false) (x : Word) :
    c.regWrite .sup a x = c.ownerWrite (48 * n + l) (F.CH_OWNER_OWNER.get x) := by
  simp [Chip.regWrite, h, chOwnerDesc, writerOk_sup, chOf, hs]
theorem Chip.regWrite_as_sealedOwner (h : findReg a = some (chOwnerDesc, [n, l])) (hs : isSealed (48 * n + l) = true) (x : Word) :
    c.regWrite .sup a x = c.plainWrite .sup chOwnerDesc [n, l] a x := by
  simp [Chip.regWrite, h, chOwnerDesc, writerOk_sup, chOf, hs]
end

theorem lt_ite {p : Prop} [Decidable p] {x y n : Nat} (hx : p → x < n) (hy : ¬ p → y < n) : (if p then x else y) < n := by
  split
  case isTrue h => exact hx h
  case isFalse h => exact hy h
/-- R49, R51: a violation is counted in the system block and raised. -/
theorem Chip.rd_lockViolation (c : Chip) {a b : Nat} (hb : 0x40030000 ≤ b) (ha : a < 0x40800000) : (c.lockViolation a).rd b = c.rd b := by
  have hi : lockViolIndex a < 128 := by
    unfold lockViolIndex
    repeat refine lt_ite (fun _ => by omega) fun _ => ?_
    decide
  have hc : (c.lockCount a).rd b = c.rd b := by
    unfold Chip.lockCount
    split
    · exact Chip.rd_fset_ne _ _ _ (by simp only [R.SYS_LOCKVIOL_CNT]; omega)
    · rfl
  exact ((Served.raiseFrom _ _ (by decide)).rd (by omega)).trans hc
/-- R86: a sealed channel keeps its owner. -/
theorem Chip.owner_sealed (c : Chip) {n l ch : Nat} (hch : ch < 192) (h : isSealed (48 * n + l) = true) (x : Word) :
    (c.plainWrite .sup chOwnerDesc [n, l] (R.CH_OWNER ch) x).ownerOf ch = c.ownerOf ch := by
  have hs : c.sealedReg chOwnerDesc.id [n, l] = true := h
  have hm : (mergeWord chOwnerDesc (c.lockClosed (R.CH_OWNER ch)) true (c.rd (R.CH_OWNER ch)) x).1 = c.rd (R.CH_OWNER ch) := by
    have ho : openMask chOwnerDesc (c.lockClosed (R.CH_OWNER ch)) true = 0 := by simp [openMask, chOwnerDesc]
    have hx : x &&& 0 = 0#32 := BitVec.and_zero
    have hz : ~~~(0 : Word) = BitVec.allOnes 32 := by decide
    simp only [mergeWord, ho, hz, BitVec.and_allOnes, hx, BitVec.or_zero]
  have ha : 0x40200000 ≤ R.CH_OWNER ch ∧ R.CH_OWNER ch < 0x40400000 := by simp only [R.CH_OWNER, chBase]; omega
  rw [Chip.ownerOf, Chip.ownerOf, Chip.fget, Chip.fget]
  refine congrArg _ ?_
  simp only [Chip.plainWrite, hs, hm, if_true]
  have hw : (c.wr (R.CH_OWNER ch) (regNorm chOwnerDesc.id [n, l] (c.rd (R.CH_OWNER ch)) (c.rd (R.CH_OWNER ch)))).rd (R.CH_OWNER ch) = c.rd (R.CH_OWNER ch) :=
    (Chip.rd_wr_self _ _ _).trans rfl
  generalize c.wr (R.CH_OWNER ch) _ = d at hw ⊢
  split
  · exact (Only.refusedWrite _ _ _ _ _ _ (by simp only [logBlks, Blk.sys, Blk.evr, Blk.sec, List.forall_mem_cons]; simp; omega)).trans ((d.rd_lockViolation (by omega) (by omega)).trans hw)
  · exact hw

end Sys2Proof.Machine
end

section
/-! SUPPORT. What a commit, a commit tick and a written pair do to one channel of a die (R73, R90 to R95). -/

namespace Sys2Proof.Machine
open Sys2Proof

/-- A list's one step for an element, between steps for others: what holds before it, and what it brings about, is kept. -/
theorem foldl_once {α β : Type} {f : β → α → β} {I J : β → Prop} {a : α} {l : List α} (ha : a ∈ l) (hl : l.Nodup)
    (hI : ∀ x b, x ≠ a → I b → I (f b x)) (ha' : ∀ b, I b → J (f b a)) (hJ : ∀ x b, x ≠ a → J b → J (f b x)) {b : β} (hb : I b) : J (l.foldl f b) := by
  obtain ⟨l₁, l₂, rfl⟩ := List.append_of_mem ha
  obtain ⟨h₁, h₂⟩ := List.nodup_middle.1 hl |> List.nodup_cons.1
  rw [List.mem_append, not_or] at h₁
  have hfirst : I (l₁.foldl f b) := List.foldlRecOn l₁ f hb fun d hd x hx => hI x d (fun he => h₁.1 (he ▸ hx)) hd
  rw [List.foldl_append, List.foldl_cons]
  exact List.foldlRecOn l₂ f (ha' _ hfirst) fun d hd x hx => hJ x d (fun he => h₁.2 (he ▸ hx)) hd

/-! ### PWR_COMMIT (R91, R95) -/

/-- The captures of one cycle: every channel's shadow is the one it was. -/
structure Captures (n : Nat) (ls : List Nat) (c d : Chip) : Prop where
  rd : ∀ a, (∀ k, a ≠ R.CH_STATUS k) → (∀ k, a ≠ R.PWR_COMMIT_OVERRUN_CNT k) → d.rd a = c.rd a
  pend : ∀ l ∈ ls, (d.chan (48 * n + l)).pend = some ⟨c.rd (R.CH_CMD (48 * n + l)), c.rd (R.CH_PWM (48 * n + l)), c.rd (R.CH_CFG (48 * n + l))⟩
  only : Only [Blk.pwr n] c d

theorem shadow_apart (ch o : Nat) (ho : o < 0x1C) : (∀ k, chBase ch + o ≠ R.CH_STATUS k) ∧ ∀ k, chBase ch + o ≠ R.PWR_COMMIT_OVERRUN_CNT k := by
  constructor <;> intro k <;> simp only [R.CH_STATUS, R.PWR_COMMIT_OVERRUN_CNT, chBase] <;> omega
theorem Captures.foldl {n : Nat} (al : Bool) : ∀ (ls done : List Nat) (c d : Chip), (∀ l ∈ ls, l < 48) → Captures n done c d →
    Captures n (done ++ ls) c (ls.foldl (fun c l => c.capture (48 * n + l) al) d)
  | [], done, c, d, _, h => by rwa [List.append_nil]
  | l :: ls, done, c, d, hl, h => by
    rw [List.append_cons]
    refine foldl al ls _ c _ (fun k hk => hl k (List.mem_cons_of_mem _ hk)) ⟨fun a h₁ h₂ => ?_, fun k hk => ?_, ?_⟩
    · exact (Chip.rd_capture _ _ _ (h₁ _) (h₂ _)).trans (h.rd a h₁ h₂)
    · by_cases hkl : k = l
      · have hw (o : Nat) (ho : o < 0x1C) : d.rd (chBase (48 * n + l) + o) = c.rd (chBase (48 * n + l) + o) :=
          h.rd _ (shadow_apart _ o ho).1 (shadow_apart _ o ho).2
        have h₀ := hw 0 (by decide)
        have h₄ := hw 4 (by decide)
        have h₈ := hw 8 (by decide)
        rw [hkl, Chip.pend_capture]
        exact congrArg some (congr (congr (congrArg ChSet.mk h₀) h₄) h₈)
      · rw [Chip.pend_capture_ne _ _ _ (by omega)]
        exact h.pend k ((List.mem_append.1 hk).resolve_right (by simpa using hkl))
    · exact h.only.trans (.capture _ _ (by have := hl l List.mem_cons_self; simp only [pdie]; omega))

/-- Every register is as it was but for a die's token and the command and count of its commits. -/
def GoKept (c d : Chip) : Prop := ∀ a, a % 0x80000 ≠ 0x40004 → a % 0x80000 ≠ 0x40108 → a % 0x80000 ≠ 0x4010C → d.rd a = c.rd a
namespace GoKept
variable {c d : Chip} (h : GoKept c d)
include h
theorem chan (ch o : Nat) (ho : o < 0x100) : d.rd (chBase ch + o) = c.rd (chBase ch + o) := by
  refine h _ ?_ ?_ ?_ <;> simp only [chBase] <;> omega
theorem shadow (ch : Nat) : (⟨d.rd (R.CH_CMD ch), d.rd (R.CH_PWM ch), d.rd (R.CH_CFG ch)⟩ : ChSet) = ⟨c.rd (R.CH_CMD ch), c.rd (R.CH_PWM ch), c.rd (R.CH_CFG ch)⟩ := by
  have h₀ := h.chan ch 0 (by decide)
  have h₄ := h.chan ch 4 (by decide)
  have h₈ := h.chan ch 8 (by decide)
  exact congr (congr (congrArg ChSet.mk h₀) h₄) h₈
theorem mask (n l : Nat) : d.commitMask n l = c.commitMask n l := by
  have h₀ : d.rd (R.PWR_COMMIT_MASK0 n) = c.rd (R.PWR_COMMIT_MASK0 n) := by refine h _ ?_ ?_ ?_ <;> simp only [R.PWR_COMMIT_MASK0] <;> omega
  have h₁ : d.rd (R.PWR_COMMIT_MASK1 n) = c.rd (R.PWR_COMMIT_MASK1 n) := by refine h _ ?_ ?_ ?_ <;> simp only [R.PWR_COMMIT_MASK1] <;> omega
  simp only [Chip.commitMask, Chip.fget, h₀, h₁]
theorem skips (ch : Nat) : d.commitSkips ch = c.commitSkips ch := by
  have hs : d.chState ch = c.chState ch := congrArg (fun w => ChState.ofCode (F.CH_STATUS_STATE.get w)) (h.chan ch 0x1C (by decide))
  have hp : d.rd (R.PWR_PAIR (pdie ch)) = c.rd (R.PWR_PAIR (pdie ch)) := by refine h _ ?_ ?_ ?_ <;> simp only [R.PWR_PAIR] <;> omega
  rw [Chip.commitSkips, Chip.commitSkips, hs, Chip.oddMember_of_pair hp]
end GoKept

theorem Chip.goCount_says (c : Chip) (n : Nat) : (c.bumpWrap (R.PWR_COMMIT_CNT n)).rd (R.PWR_COMMIT_CNT n) = c.rd (R.PWR_COMMIT_CNT n) + 1 ∧
    GoKept c (c.bumpWrap (R.PWR_COMMIT_CNT n)) ∧ Only [Blk.pwr n] c (c.bumpWrap (R.PWR_COMMIT_CNT n)) :=
  ⟨Chip.rd_wr_self c _ _, fun a _ _ ha => Chip.rd_wr_ne c _ (by rintro rfl; simp only [R.PWR_COMMIT_CNT] at ha; omega),
    Only.pwrReg fun a ha => Chip.rd_wr_ne c _ (by simp only [R.PWR_COMMIT_CNT]; omega)⟩
/-- The captures of a masked COMMIT, from the channels that it does not skip. -/
def Chip.captureAll (c : Chip) (n : Nat) (al : Bool) : Chip :=
  ((List.range 48).filter fun l => c.commitMask n l && !c.commitSkips (48 * n + l)).foldl (fun c l => c.capture (48 * n + l) al) c
theorem Chip.commitGo_eq (c : Chip) (n : Nat) : c.commitGo n = (c.bumpWrap (R.PWR_COMMIT_CNT n)).captureAll n (c.flag (R.PWR_COMMIT n) F.PWR_COMMIT_ALIGN) := rfl
theorem Captures.captureAll (c : Chip) (n : Nat) (al : Bool) :
    Captures n ((List.range 48).filter fun l => c.commitMask n l && !c.commitSkips (48 * n + l)) c (c.captureAll n al) :=
  Captures.foldl al ((List.range 48).filter fun l => c.commitMask n l && !c.commitSkips (48 * n + l)) [] c c
    (fun _ hl => List.mem_range.1 (List.mem_filter.1 hl).1) ⟨fun _ _ _ => rfl, fun _ h => absurd h List.not_mem_nil, .refl _ c⟩

/-- R91, R95: GO counts, and captures every masked channel that is not skipped. -/
theorem Chip.commitGo_says (c : Chip) (n : Nat) : (c.commitGo n).rd (R.PWR_COMMIT_CNT n) = c.rd (R.PWR_COMMIT_CNT n) + 1 ∧
    (∀ l < 48, c.commitMask n l = true → c.commitSkips (48 * n + l) = false → ((c.commitGo n).chan (48 * n + l)).pend =
      some ⟨c.rd (R.CH_CMD (48 * n + l)), c.rd (R.CH_PWM (48 * n + l)), c.rd (R.CH_CFG (48 * n + l))⟩) ∧ Only [Blk.pwr n] c (c.commitGo n) := by
  obtain ⟨hcnt, hk, hd⟩ := c.goCount_says n
  rw [Chip.commitGo_eq]
  generalize c.bumpWrap (R.PWR_COMMIT_CNT n) = d at hcnt hk hd ⊢
  have hc := Captures.captureAll d n (c.flag (R.PWR_COMMIT n) F.PWR_COMMIT_ALIGN)
  refine ⟨?_, fun l hl hm hs => ?_, hd.trans hc.only⟩
  · rw [hc.rd _ (fun k => by simp only [R.CH_STATUS, R.PWR_COMMIT_CNT, chBase]; omega)
      (fun k => by simp only [R.PWR_COMMIT_OVERRUN_CNT, R.PWR_COMMIT_CNT]; omega), hcnt]
  · rw [hc.pend l (List.mem_filter.2 ⟨List.mem_range.2 hl, by rw [hk.mask, hk.skips, hm, hs]; rfl⟩), hk.shadow]

/-! ### PWR_PAIR (R73) -/

/-- The registers that a pair's own bit is decided by, and not its bit. -/
structure PairBefore (n p : Nat) (c d : Chip) : Prop where
  even : d.rd (R.CH_STATUS (48 * n + 2 * p)) = c.rd (R.CH_STATUS (48 * n + 2 * p))
  odd : d.rd (R.CH_STATUS (48 * n + 2 * p + 1)) = c.rd (R.CH_STATUS (48 * n + 2 * p + 1))

/-- The bit of pair q changes. -/
def Chip.setPair (c : Chip) (n q : Nat) (v : Bool) : Chip :=
  (c.fbit (R.PWR_PAIR n) (bitFld q) v).fbit (R.CH_STATUS (48 * n + 2 * q)) F.CH_STATUS_PAIRED v
    |>.fbit (R.CH_STATUS (48 * n + 2 * q + 1)) F.CH_STATUS_PAIRED v |>.fbit (R.CH_STATUS (48 * n + 2 * q + 1)) F.CH_STATUS_PAIR_ODD v
theorem Chip.pairBit_eq (c : Chip) (n q : Nat) (x : Word) : c.pairBit n x q =
    if c.pairFixed n q || x.toNat.testBit q == c.flag (R.PWR_PAIR n) (bitFld q) then c
    else if c.pairFree (48 * n + 2 * q) && c.pairFree (48 * n + 2 * q + 1) then c.setPair n q (x.toNat.testBit q) else c.bump (R.PWR_PAIR_REFUSED_CNT n) := rfl

theorem Chip.rd_setPair (c : Chip) (n q : Nat) (v : Bool) {a : Nat} (h₀ : a ≠ R.PWR_PAIR n) (h₁ : a ≠ R.CH_STATUS (48 * n + 2 * q))
    (h₂ : a ≠ R.CH_STATUS (48 * n + 2 * q + 1)) : (c.setPair n q v).rd a = c.rd a :=
  (Chip.rd_fset_ne _ _ _ h₂).trans <| (Chip.rd_fset_ne _ _ _ h₂).trans <| (Chip.rd_fset_ne _ _ _ h₁).trans (Chip.rd_fset_ne _ _ _ h₀)
theorem Chip.pairReg_setPair (c : Chip) (n q : Nat) (v : Bool) : (c.setPair n q v).rd (R.PWR_PAIR n) = (c.fbit (R.PWR_PAIR n) (bitFld q) v).rd (R.PWR_PAIR n) := by
  have h (k : Nat) : R.PWR_PAIR n ≠ R.CH_STATUS k := by simp only [R.PWR_PAIR, R.CH_STATUS, chBase]; omega
  exact (Chip.rd_fset_ne _ _ _ (h _)).trans <| (Chip.rd_fset_ne _ _ _ (h _)).trans (Chip.rd_fset_ne _ _ _ (h _))
theorem Only.pairBit (c : Chip) {n q : Nat} (hq : q < 24) (x : Word) : Only [Blk.pwr n] c (c.pairBit n x q) := by
  refine Only.pwrReg fun a ha => ?_
  rw [Chip.pairBit_eq]
  split
  · rfl
  · split
    · exact Chip.rd_setPair c n q _ (by simp only [R.PWR_PAIR]; omega) (by simp only [R.CH_STATUS, chBase]; omega) (by simp only [R.CH_STATUS, chBase]; omega)
    · exact Chip.rd_bump_ne _ _ (by simp only [R.PWR_PAIR_REFUSED_CNT]; omega)
theorem Only.pairWrite (c : Chip) (n : Nat) (x : Word) : Only [Blk.pwr n] c (c.pairWrite n x) :=
  List.foldlRecOn _ (Chip.pairBit n x) (motive := fun d => Only [Blk.pwr n] c d) (.refl _ c) fun d hd _ hq => hd.trans (.pairBit d (List.mem_range.1 hq) x)

/-- The bit of one pair leaves the members and the bits of the others alone. -/
theorem Chip.rd_pairBit (c : Chip) (n q : Nat) (x : Word) {a : Nat} (h₀ : a ≠ R.PWR_PAIR n) (h₁ : a ≠ R.CH_STATUS (48 * n + 2 * q))
    (h₂ : a ≠ R.CH_STATUS (48 * n + 2 * q + 1)) (h₃ : a ≠ R.PWR_PAIR_REFUSED_CNT n) : (c.pairBit n x q).rd a = c.rd a := by
  rw [Chip.pairBit_eq]
  split
  · rfl
  · split
    · exact Chip.rd_setPair c n q _ h₀ h₁ h₂
    · exact Chip.rd_bump_ne _ _ h₃
theorem Chip.flag_pairBit_ne (c : Chip) {n p q : Nat} (x : Word) (hp : p < 24) (h : q ≠ p) :
    (c.pairBit n x q).flag (R.PWR_PAIR n) (bitFld p) = c.flag (R.PWR_PAIR n) (bitFld p) := by
  rw [Chip.pairBit_eq]
  split
  · rfl
  · split
    · rw [Chip.flag, Chip.fget, Chip.pairReg_setPair]
      exact congrArg (· == 1) (Chip.fget_fset_field _ _ _ _ _ (by simp only [bitFld]; omega) (by simp only [bitFld]; omega))
    · rw [Chip.flag, Chip.fget, Chip.rd_bump_ne _ _ (by simp only [R.PWR_PAIR, R.PWR_PAIR_REFUSED_CNT]; omega)]
      rfl

/-- R73: a pair bit follows the written one where both of its members are free. -/
theorem Chip.pairWrite_says {c : Chip} {n p : Nat} (x : Word) (hp : p < 24) (hx : c.pairFixed n p = false) (hf : c.pairFree (48 * n + 2 * p) = true)
    (hf' : c.pairFree (48 * n + 2 * p + 1) = true) : (c.pairWrite n x).flag (R.PWR_PAIR n) (bitFld p) = x.toNat.testBit p := by
  refine foldl_once (f := Chip.pairBit n x) (I := PairBefore n p c) (J := fun d => d.flag (R.PWR_PAIR n) (bitFld p) = x.toNat.testBit p)
    (List.mem_range.2 hp) List.nodup_range (fun q d hq hd => ⟨?_, ?_⟩) (fun d hd => ?_) (fun q d hq hd => (d.flag_pairBit_ne x hp hq).trans hd) ⟨rfl, rfl⟩
  · exact (d.rd_pairBit n q x (by simp only [R.CH_STATUS, R.PWR_PAIR, chBase]; omega) (by simp only [R.CH_STATUS, chBase]; omega)
      (by simp only [R.CH_STATUS, chBase]; omega) (by simp only [R.CH_STATUS, R.PWR_PAIR_REFUSED_CNT, chBase]; omega)).trans hd.even
  · exact (d.rd_pairBit n q x (by simp only [R.CH_STATUS, R.PWR_PAIR, chBase]; omega) (by simp only [R.CH_STATUS, chBase]; omega)
      (by simp only [R.CH_STATUS, chBase]; omega) (by simp only [R.CH_STATUS, R.PWR_PAIR_REFUSED_CNT, chBase]; omega)).trans hd.odd
  · have hx' : d.pairFixed n p = false := by rw [← hx]; simp only [Chip.pairFixed, Chip.isStartEnable, Chip.flag, Chip.fget, hd.even, hd.odd]
    have he : d.pairFree (48 * n + 2 * p) = true := by
      rw [← hf]; simp only [Chip.pairFree, Chip.chState, Chip.pendingGrant, Chip.flag, Chip.fget, hd.even]
    have ho : d.pairFree (48 * n + 2 * p + 1) = true := by
      rw [← hf']; simp only [Chip.pairFree, Chip.chState, Chip.pendingGrant, Chip.flag, Chip.fget, hd.odd]
    rw [Chip.pairBit_eq, hx', he, ho]
    by_cases hv : x.toNat.testBit p = d.flag (R.PWR_PAIR n) (bitFld p)
    · rw [if_pos (by simp [hv])]
      exact hv.symm
    · rw [if_neg (by simpa using hv), if_pos (by rfl), Chip.flag, Chip.fget, Chip.pairReg_setPair]
      exact Chip.flag_fbit_self _ _ _ _ (by simp only [bitFld]; omega) (by simp only [bitFld]; omega)
theorem Chip.paired_eq_flag (c : Chip) {n p : Nat} (hp : p < 24) : c.paired (48 * n + 2 * p) = c.flag (R.PWR_PAIR n) (bitFld p) := by
  have hd : pdie (48 * n + 2 * p) = n := by simp only [pdie]; omega
  have hb : (48 * n + 2 * p) % 48 / 2 = p := by omega
  have ht : (F.PWR_PAIR_PAIR.get (c.rd (R.PWR_PAIR n))).testBit p = (c.rd (R.PWR_PAIR n)).toNat.testBit p := by
    rw [Fld.get, show F.PWR_PAIR_PAIR.w = 24 from rfl, show F.PWR_PAIR_PAIR.lo = 0 from rfl, Nat.testBit_mod_two_pow, pow_zero, Nat.div_one]
    simp [hp]
  rw [Chip.paired, hd, hb, Chip.fget, ht]
  exact (getLsbD_eq_bitFld _ _).trans (by simp [Chip.flag, Chip.fget, beq_eq_decide])

/-! ### A PWM period that begins (R80 to R83) -/

/-- Every register but one is as it was. -/
def SameBut (b : Nat) (c d : Chip) : Prop := ∀ a, a ≠ b → d.rd a = c.rd a
namespace SameBut
variable {c d : Chip} {ch : Nat} (h : SameBut (R.CH_OL_STATUS ch) c d)
include h
theorem chan (k : Nat) {o : Nat} (ho : o < 0xB8) (f : Fld) : d.fget (chBase k + o) f = c.fget (chBase k + o) f := by
  rw [Chip.fget, h _ (by simp only [R.CH_OL_STATUS, chBase]; omega)]
  rfl
theorem olCfg (f : Fld) : d.fget (R.CH_OL_CFG ch) f = c.fget (R.CH_OL_CFG ch) f := chan h ch (o := 0xB0) (by decide) f
theorem chRun : d.chRun ch = c.chRun ch := by
  have hs : d.chState ch = c.chState ch := congrArg ChState.ofCode (chan h ch (o := 0x1C) (by decide) _)
  have hh : d.holdSub ch = c.holdSub ch := congrArg ChState.ofCode (chan h ch (o := 0x3C) (by decide) _)
  rw [Chip.chRun, Chip.chRun, Chip.inHold, Chip.inHold, hs, hh]
theorem flag (o : Nat) (ho : o < 0xB8) (f : Fld) : d.flag (chBase ch + o) f = c.flag (chBase ch + o) f := congrArg (· == 1) (chan h ch ho f)
theorem minTime : d.minTime ch = c.minTime ch := congrArg (fun x => 20 * 2 ^ x) (chan h ch (o := 0x18) (by decide) _)
theorem windowOn : d.windowOn ch = c.windowOn ch := congrArg (fun x => 10 * (40 + (2 ^ x - 8))) (chan h ch (o := 0x18) (by decide) _)
theorem period : d.period ch = c.period ch := chan h ch (o := 0x14) (by decide) _
theorem rawOn : d.rawOn ch = c.rawOn ch := by
  have hd : d.fget (R.CH_ACTIVE_CMD ch) F.CH_ACTIVE_CMD_DUTY = c.fget (R.CH_ACTIVE_CMD ch) F.CH_ACTIVE_CMD_DUTY := chan h ch (o := 0x10) (by decide) _
  have hp : d.fget (R.CH_ACTIVE_PWM ch) F.CH_ACTIVE_PWM_PERIOD = c.fget (R.CH_ACTIVE_PWM ch) F.CH_ACTIVE_PWM_PERIOD := period h
  rw [Chip.rawOn, Chip.rawOn, hd, hp]
theorem effectiveOn : d.effectiveOn ch = c.effectiveOn ch := by rw [Chip.effectiveOn, Chip.effectiveOn, rawOn h, minTime h]
theorem onTime : d.onTime ch = c.onTime ch := by
  have hp : d.fget (R.CH_ACTIVE_PWM ch) F.CH_ACTIVE_PWM_PERIOD = c.fget (R.CH_ACTIVE_PWM ch) F.CH_ACTIVE_PWM_PERIOD := period h
  rw [Chip.onTime, Chip.onTime, rawOn h, minTime h, hp]
theorem stretchDue (hx : (d.chan ch).periods = (c.chan ch).periods) : d.stretchDue ch = c.stretchDue ch := by
  have hr : d.flag (R.CH_PROT_STATUS ch) F.CH_PROT_STATUS_REVERSE = c.flag (R.CH_PROT_STATUS ch) F.CH_PROT_STATUS_REVERSE := flag h 0x3C (by decide) _
  have he : d.flag (R.CH_OL_CFG ch) F.CH_OL_CFG_STRETCH_EN = c.flag (R.CH_OL_CFG ch) F.CH_OL_CFG_STRETCH_EN := congrArg (· == 1) (olCfg h _)
  simp only [Chip.stretchDue, he, hr, chRun h, effectiveOn h, windowOn h, minTime h, period h, olCfg h, hx]
end SameBut

/-- What a plain period begins from: nothing owed, one period more, no stretch shown. -/
def Chip.plainPeriod (c : Chip) (ch : Nat) (y : ChanX) : Chip := (c.setChan ch y).fset (R.CH_OL_STATUS ch) F.CH_OL_STATUS_STRETCHING 0
theorem Chip.chan_plainPeriod (c : Chip) (ch : Nat) (y : ChanX) : (c.plainPeriod ch y).chan ch = y := by
  rw [Chip.plainPeriod, Chip.chan, Chip.chans_fset]
  exact Chip.chan_setChan_self c ch y
theorem SameBut.plainPeriod (c : Chip) (ch : Nat) (y : ChanX) : SameBut (R.CH_OL_STATUS ch) c (c.plainPeriod ch y) := fun _ ha =>
  Chip.rd_fset_ne _ _ _ ha
theorem Chip.fullyOn_of_flag {c : Chip} {ch : Nat} (h : c.flag (R.CH_PROT_STATUS ch) F.CH_PROT_STATUS_REVERSE = false) : c.fullyOn ch = false := by
  rw [Chip.fullyOn, h, Bool.and_false]
theorem Chip.newPeriod_says {c : Chip} {ch : Nat} (hf : c.fullyOn ch = false) (t : Nat) : ((c.newPeriod ch t).chan ch).onTicks = c.onTime ch ∧
    ((c.newPeriod ch t).chan ch).periods = (c.chan ch).periods ∧ Only [Blk.chan ch] c (c.newPeriod ch t) ∧ (c.newPeriod ch t).dies = c.dies := by
  have he : c.newPeriod ch t = (c.setChan ch { c.chan ch with onTicks := c.onTime ch, delay := t, cycle := 0 }).fbit (R.CH_STATUS ch)
      F.CH_STATUS_DUTY_LIMITED (c.dutyLimited ch) := by
    rw [Chip.newPeriod, if_neg (by simp [hf])]
  have hc : (c.newPeriod ch t).chan ch = { c.chan ch with onTicks := c.onTime ch, delay := t, cycle := 0 } := by
    rw [he, Chip.chan, Chip.chans_fbit]
    exact Chip.chan_setChan_self c ch _
  have ho (x : ChanX) : Only [Blk.chan ch] c (c.setChan ch x) := .of_regs rfl
  refine ⟨by rw [hc], by rw [hc], ?_, ?_⟩
  · rw [he]
    exact (ho _).trans (Only.chanReg _ ch (o := 0x1C) (by decide) _ _)
  · rw [he, Chip.dies_fbit]
    rfl
/-- The channel in its next period, with nothing owed. -/
def ChanX.nextPeriod (x : ChanX) : ChanX := { x with cycle := 0, owed := 0, periods := x.periods + 1 }
/-- DIAG_STARVED shows whether no stretch can be made. -/
def Chip.starvedShown (c : Chip) (ch : Nat) : Chip := c.fbit (R.CH_OL_STATUS ch) F.CH_OL_STATUS_DIAG_STARVED (c.starved ch)
theorem Chip.starvedShown_says (c : Chip) (ch : Nat) : SameBut (R.CH_OL_STATUS ch) c (c.starvedShown ch) ∧ Only [Blk.chan ch] c (c.starvedShown ch) ∧
    (c.starvedShown ch).dies = c.dies ∧ (c.starvedShown ch).chans = c.chans :=
  ⟨fun _ ha => Chip.rd_fset_ne c _ _ ha, .chanReg c ch (o := 0xB8) (by decide) _ _, Chip.dies_fbit _ _ _ _, Chip.chans_fbit _ _ _ _⟩
theorem Chip.plainPeriod_says (c : Chip) (ch : Nat) (y : ChanX) : Only [Blk.chan ch] c (c.plainPeriod ch y) ∧ (c.plainPeriod ch y).dies = c.dies :=
  ⟨(Only.of_regs rfl : Only [Blk.chan ch] c (c.setChan ch y)).trans (Only.chanReg _ ch (o := 0xB8) (by decide) _ _), (Chip.dies_fset _ _ _ _).trans rfl⟩
theorem Chip.beginPeriod_plain {c : Chip} {ch : Nat} (hf : (c.starvedShown ch).fullyOn ch = false) (ho : (c.chan ch).owed = 0)
    (hs : (c.starvedShown ch).stretchDue ch = false) : c.beginPeriod ch = ((c.starvedShown ch).plainPeriod ch (c.chan ch).nextPeriod).newPeriod ch 0 := by
  unfold Chip.beginPeriod
  rw [← Chip.starvedShown]
  generalize c.starvedShown ch = d at hf hs ⊢
  rw [if_neg (by simp [hf]), if_neg (by simp [ho]), if_neg (by simp [hs])]
  rfl
/-- R80, R83: a plain period of a channel that owes and stretches nothing. -/
theorem Chip.beginPeriod_says {c : Chip} {ch : Nat} (hr : c.flag (R.CH_PROT_STATUS ch) F.CH_PROT_STATUS_REVERSE = false) (ho : (c.chan ch).owed = 0)
    (hs : c.stretchDue ch = false) : ((c.beginPeriod ch).chan ch).onTicks = c.onTime ch ∧ ((c.beginPeriod ch).chan ch).periods = (c.chan ch).periods + 1 ∧
      Only [Blk.chan ch] c (c.beginPeriod ch) ∧ (c.beginPeriod ch).dies = c.dies := by
  obtain ⟨hd, hdo, hdd, hdc⟩ := c.starvedShown_says ch
  have hrd : (c.starvedShown ch).flag (R.CH_PROT_STATUS ch) F.CH_PROT_STATUS_REVERSE = false := (hd.flag 0x3C (by decide) _).trans hr
  rw [Chip.beginPeriod_plain (Chip.fullyOn_of_flag hrd) ho ((hd.stretchDue (by rw [Chip.chan, hdc]; rfl)).trans hs)]
  generalize c.starvedShown ch = d at hd hdo hdd hdc hrd ⊢
  have hp := SameBut.plainPeriod d ch (c.chan ch).nextPeriod
  have hk := Chip.chan_plainPeriod d ch (c.chan ch).nextPeriod
  obtain ⟨hpo, hpd⟩ := d.plainPeriod_says ch (c.chan ch).nextPeriod
  generalize d.plainPeriod ch (c.chan ch).nextPeriod = e at hp hk hpo hpd ⊢
  obtain ⟨h₁, h₂, h₃, h₄⟩ := Chip.newPeriod_says (c := e) (ch := ch) (Chip.fullyOn_of_flag ((hp.flag 0x3C (by decide) _).trans hrd)) 0
  exact ⟨h₁.trans ((hp.onTime).trans hd.onTime), h₂.trans (by rw [hk]; rfl), hdo.trans (hpo.trans h₃), h₄.trans (hpd.trans hdd)⟩
/-- R80, R81: the boundary of a channel in PWM with nothing to apply, to end or to repay. -/
theorem Chip.pwmPeriodStart_says {c : Chip} {ch : Nat} (hp : c.inPwm ch = true) (hd : c.disableDue ch = false)
    (hr : c.flag (R.CH_PROT_STATUS ch) F.CH_PROT_STATUS_REVERSE = false) (hx : (c.chan ch).pend = none) (ho : (c.chan ch).owed = 0)
    (hs : c.stretchDue ch = false) (hq : (c.die (pdie ch)).reqs = []) : c.pwmPeriodStart ch = c.beginPeriod ch := by
  have ha : (if (c.chan ch).align then (c, false) else c.applySet ch) = (c, false) := by
    rw [Chip.applySet, hx]
    exact ite_self _
  simp only [Chip.pwmPeriodStart, hp, hd, ha, if_true, Bool.false_eq_true, if_false]
  exact Chip.reexamine_none (by rw [Chip.die, (Chip.beginPeriod_says hr ho hs).2.2.2]; exact hq)

end Sys2Proof.Machine
end

section
/-! PROOF. Captures, commits, PWM periods, pairs and owners of channels (R73 to R95, R141). -/

namespace Sys2Proof.Machine
open Sys2Proof

/-! ### The commit tick (R90, R153) -/

/-- The channel's registers and its die's pairs are as they were. -/
structure RegsKept (ch : Nat) (c d : Chip) : Prop where
  chan : ∀ o, o < 0x100 → d.rd (chBase ch + o) = c.rd (chBase ch + o)
  pair : d.rd (R.PWR_PAIR (pdie ch)) = c.rd (R.PWR_PAIR (pdie ch))

theorem Tripped.regsKept {k ch : Nat} {c d : Chip} (h : Tripped k c d) (hch : ch < 192) (hne : ch ≠ k) : RegsKept ch c d := by
  refine ⟨fun o ho => h.regs.rd (by simp only [chBase]; omega) (by simp only [chBase]; omega) ?_, h.regs.rd ?_ ?_ ?_⟩
  · rintro g (⟨o', -, ho', hp⟩ | ⟨n, o', h₁, h₂, hp⟩ | hp)
    · simp only [chBase] at hp
      omega
    · simp only [chBase] at hp
      omega
    · simp only [SealWrites, chBase] at hp
      omega
  · simp only [R.PWR_PAIR]
    omega
  · simp only [R.PWR_PAIR, pdie]
    omega
  · rintro g (⟨o', -, ho', hp⟩ | ⟨n, o', h₁, h₂, hp⟩ | hp)
    · simp only [R.PWR_PAIR, chBase] at hp
      omega
    · simp only [R.PWR_PAIR] at hp
      omega
    · simp only [SealWrites, R.PWR_PAIR, pdie] at hp
      omega

namespace RegsKept
variable {ch : Nat} {c d : Chip} (h : RegsKept ch c d)
include h
theorem fget (o : Nat) (ho : o < 0x100) (f : Fld) : d.fget (chBase ch + o) f = c.fget (chBase ch + o) f := congrArg f.get (h.chan o ho)
theorem chState : d.chState ch = c.chState ch := congrArg ChState.ofCode (fget h 0x1C (by decide) _)
theorem inHold : d.inHold ch = c.inHold ch := Chip.inHold_eq (chState h)
theorem chRun : d.chRun ch = c.chRun ch := by
  have hh : d.holdSub ch = c.holdSub ch := congrArg ChState.ofCode (fget h 0x3C (by decide) _)
  rw [Chip.chRun, Chip.chRun, inHold h, chState h, hh]
theorem runMode : d.runMode ch = c.runMode ch := by
  have hm : d.activeMode ch = c.activeMode ch := fget h 0x10 (by decide) _
  have hl : d.fget (R.CH_LIMP_CFG ch) F.CH_LIMP_CFG_LIMP_MODE = c.fget (R.CH_LIMP_CFG ch) F.CH_LIMP_CFG_LIMP_MODE :=
    fget h 0x38 (by decide) _
  rw [Chip.runMode, Chip.runMode, Chip.limpOn, Chip.limpOn, chState h, hl, hm]
theorem inPwm : d.inPwm ch = c.inPwm ch := by rw [Chip.inPwm, Chip.inPwm, chRun h, runMode h]
theorem disableDue : d.disableDue ch = c.disableDue ch := by
  have hf : d.flag (R.CH_PROT_STATUS ch) F.CH_PROT_STATUS_DISABLE_PENDING = c.flag (R.CH_PROT_STATUS ch) F.CH_PROT_STATUS_DISABLE_PENDING :=
    congrArg (· == 1) (fget h 0x3C (by decide) _)
  rw [Chip.disableDue, Chip.disableDue, hf, inHold h]
theorem pendingGrant : d.pendingGrant ch = c.pendingGrant ch := congrArg (· == 1) (fget h 0x1C (by decide) _)
theorem tickDue (hk : SetKept ch c d) : d.tickDue ch = c.tickDue ch := by
  rw [Chip.tickDue, Chip.tickDue, hk.pend, hk.align, inPwm h, Chip.oddMember_of_pair h.pair]
end RegsKept

/-- A channel whose pending set this tick applies, however the other channels fare. -/
structure Due (ch : Nat) (o : Option ChSet) (c : Chip) : Prop where
  tick : c.tickDue ch = true
  stays : c.disableDue ch = false
  granted : c.pendingGrant ch = false
  pend : (c.chan ch).pend = o
/-- The channel's set is applied. -/
structure Applied (ch : Nat) (o : Option ChSet) (c : Chip) : Prop where
  pend : (c.chan ch).pend = none
  active : (o.all fun x => c.rd (R.CH_ACTIVE_CFG ch) == x.cfg && c.activeMode ch == F.CH_CMD_MODE.get x.cmd) = true

theorem Due.kept {ch : Nat} {o : Option ChSet} {c d : Chip} (h : Due ch o c) (hr : RegsKept ch c d) (hs : SetKept ch c d) : Due ch o d :=
  ⟨(hr.tickDue hs).trans h.tick, hr.disableDue.trans h.stays, hr.pendingGrant.trans h.granted, hs.pend.trans h.pend⟩
theorem Applied.kept {ch : Nat} {o : Option ChSet} {c d : Chip} (h : Applied ch o c) (hs : SetKept ch c d) : Applied ch o d := by
  refine ⟨hs.pend.trans h.pend, ?_⟩
  rw [hs.cfg, Chip.activeMode, Chip.fget, hs.cmd]
  exact h.active

/-- R90: the set that was pending is the active one. -/
theorem Chip.activate_says (c : Chip) (ch : Nat) (x : ChSet) : (c.activate ch x).rd (R.CH_ACTIVE_CFG ch) = x.cfg ∧
    (c.activate ch x).activeMode ch = F.CH_CMD_MODE.get x.cmd ∧ (c.activate ch x).chans = c.chans := by
  have hne (a b : Nat) (h : a < b) : chBase ch + a ≠ chBase ch + b := by omega
  have hm : F.CH_ACTIVE_CMD_MODE.get (F.CH_ACTIVE_CMD_MODE.put (F.CH_ACTIVE_CMD_CEIL.put (F.CH_ACTIVE_CMD_DUTY.of (F.CH_CMD_DUTY.get x.cmd))
      (F.CH_CMD_CEIL.get x.cmd)) (F.CH_CMD_MODE.get x.cmd)) = F.CH_CMD_MODE.get x.cmd :=
    (Fld.get_put _ _ _ (by decide)).trans (Nat.mod_eq_of_lt (Fld.get_lt F.CH_CMD_MODE _))
  refine ⟨?_, ?_, ?_⟩
  · exact (Chip.rd_fset_ne _ _ _ (hne 0x18 0x1C (by decide))).trans (Chip.rd_wr_self _ _ _)
  · refine Eq.trans (congrArg F.CH_ACTIVE_CMD_MODE.get ?_) hm
    exact (Chip.rd_fset_ne _ _ _ (hne 0x10 0x1C (by decide))).trans <| (Chip.rd_wr_ne _ _ (hne 0x10 0x18 (by decide))).trans <|
      (Chip.rd_wr_ne _ _ (hne 0x10 0x14 (by decide))).trans (Chip.rd_wr_self _ _ _)
  · exact (Chip.chans_fbit _ _ _ _).trans <| (Chip.chans_wr _ _ _).trans <| (Chip.chans_wr _ _ _).trans (Chip.chans_wr _ _ _)
theorem Chip.applySet_says {c : Chip} {ch : Nat} {o : Option ChSet} (h : (c.chan ch).pend = o) (ho : o.isSome = true) : Applied ch o (c.applySet ch).1 := by
  obtain ⟨x, rfl⟩ := Option.isSome_iff_exists.1 ho
  rw [Chip.applySet, h]
  refine Applied.kept ?_ (.takeMode _ ch _ _)
  obtain ⟨h₁, h₂, h₃⟩ := (c.dropPending ch).activate_says ch x
  refine ⟨?_, by simp [h₁, h₂]⟩
  rw [Chip.chan, h₃]
  exact Chip.pend_dropPending c ch

theorem Chip.applyAll_cons (k : Nat) (ks : List Nat) (c : Chip) : (Chip.applyAll (k :: ks) c).1 = (Chip.applyAll ks (c.applySet k).1).1 := rfl
theorem Chip.starts_sub : ∀ (ks : List Nat) (c : Chip) (k : Nat), k ∈ (Chip.applyAll ks c).2 → k ∈ ks
  | [], _, _, h => h
  | k' :: ks, c, k, h => by
    simp only [Chip.applyAll] at h
    split at h
    · exact List.mem_cons.2 ((List.mem_cons.1 h).imp_right (starts_sub ks _ k))
    · exact List.mem_cons_of_mem _ (starts_sub ks _ k h)
theorem Chip.applyAll_says {ch : Nat} {o : Option ChSet} (ho : o.isSome = true) {ks : List Nat} (hm : ch ∈ ks) (hn : ks.Nodup) {c : Chip}
    (hp : (c.chan ch).pend = o) : Applied ch o (Chip.applyAll ks c).1 := by
  induction ks generalizing c with
  | nil => exact absurd hm List.not_mem_nil
  | cons k ks ih =>
    rw [Chip.applyAll_cons]
    obtain ⟨hk, hn⟩ := List.nodup_cons.1 hn
    by_cases hne : ch = k
    · rw [← hne] at hk ⊢
      exact (Chip.applySet_says hp ho).kept (.applyAll_ne ks _ hk)
    · exact ih (List.mem_of_ne_of_mem hne hm) hn ((SetKept.applySet_ne c hne).pend.trans hp)

/-- R90: a channel whose boundary the commit tick is, with no disable and no start that waits. -/
theorem Chip.commitTick_says {c : Chip} {n l : Nat} (hn : n < 4) (hl : l < 48) {o : Option ChSet} (h : Due (48 * n + l) o c) : Applied (48 * n + l) o (c.commitTick n) := by
  have hmem : 48 * n + l ∈ dieChans n := List.mem_map.2 ⟨l, List.mem_range.2 hl, rfl⟩
  have hnd : (dieChans n).Nodup := List.Nodup.map (fun a b hab => by simpa using hab) List.nodup_range
  have hch : 48 * n + l < 192 := mem_dieChans hn hmem
  unfold Chip.commitTick
  extract_lets d due offs now al
  have hd : Due (48 * n + l) o d := by
    refine List.foldlRecOn _ _ h fun e he k _ => ?_
    split
    case isTrue hk =>
      have hne : 48 * n + l ≠ k := by
        rintro rfl
        rw [he.stays] at hk
        simp at hk
      exact he.kept ((Tripped.enterDisabled e).regsKept hch hne) (.enterDisabled_ne e hne)
    case isFalse => exact he
  have hnow : 48 * n + l ∈ now := List.mem_filter.2 ⟨List.mem_filter.2 ⟨hmem, hd.tick⟩, by simp [hd.granted]⟩
  have hoff : 48 * n + l ∉ offs := fun hm => by
    have := (List.mem_filter.1 hm).2
    rw [hd.granted] at this
    simp at this
  have ho : o.isSome = true := by
    have := hd.tick
    rw [Chip.tickDue, hd.pend] at this
    simp only [Bool.and_eq_true] at this
    exact this.1.1
  have hnowN : now.Nodup := (hnd.filter _).filter _
  have hlt (k : Nat) (hk : k ∈ now) : k < 192 := mem_dieChans hn (List.mem_filter.1 (List.mem_filter.1 hk).1).1
  have ha := Chip.applyAll_says ho hnow hnowN hd.pend
  have hs := Chip.starts_sub now d
  clear_value d offs now al
  refine Applied.kept (Applied.kept (Applied.kept (Applied.kept ha (.restartPeriods al _)) (.arrive _ n fun k hk => hlt k (hs k hk))) ?_) (.reexamine _ n)
  exact .applyAll_ne _ _ fun hm => hoff (List.mem_filter.1 hm).1

end Sys2Proof.Machine
end

section
/-! PROOF. Captures, commits, PWM periods, pairs and owners of channels: the statement (R73 to R95, R141). -/

namespace Sys2Proof.Machine
open Sys2Proof

/-! ### A frame to a channel that has landed -/

/-- A frame that has landed on a channel's die: what the channel's rows read, and the die it stays in. -/
structure ChanFrame (ch : Nat) (c d : Chip) : Prop where
  chan : ∀ o, o < 0x100 → d.rd (chBase ch + o) = c.rd (chBase ch + o)
  prot : ∀ k, d.rd (R.CH_PROT_STATUS k) = c.rd (R.CH_PROT_STATUS k)
  pair : d.rd (R.PWR_PAIR (pdie ch)) = c.rd (R.PWR_PAIR (pdie ch))
  chans : d.chans = c.chans
  only : Only [Blk.pwr (pdie ch)] c d

theorem Travelled.chanFrame {c d : Chip} {ch : Nat} (hch : ch < 192) (h : Travelled (pdie ch + 2) c d) : ChanFrame ch c d := by
  have ht := tokenAddr_chan hch
  refine ⟨fun o ho => h.rd ?_, fun k => h.rd ?_, h.rd ?_, h.chans, Only.pwrReg fun a ha => h.rd ?_⟩
  · rw [ht]
    simp only [chBase, pdie]
    omega
  · rw [ht]
    simp only [R.CH_PROT_STATUS, chBase, pdie]
    omega
  · rw [ht]
    simp only [R.PWR_PAIR]
    omega
  · rw [ht]
    simp only [pdie] at ha ⊢
    omega

namespace ChanFrame
variable {ch : Nat} {c d : Chip} (h : ChanFrame ch c d)
include h
theorem fget (o : Nat) (ho : o < 0x100) (f : Fld) : d.fget (chBase ch + o) f = c.fget (chBase ch + o) f := congrArg f.get (h.chan o ho)
theorem ownerOf : d.ownerOf ch = c.ownerOf ch := fget h 0xC (by decide) _
theorem chState : d.chState ch = c.chState ch := congrArg ChState.ofCode (fget h 0x1C (by decide) _)
theorem oddMember : d.oddMember ch = c.oddMember ch := Chip.oddMember_of_pair h.pair
theorem cooled : d.cooled ch = c.cooled ch := Chip.cooled_congr h.chans h.prot h.pair
theorem isStartEnable : d.isStartEnable ch = c.isStartEnable ch := congrArg (· == 1) (fget h 0x1C (by decide) _)
end ChanFrame

/-- A write to a channel's register, once it has landed. -/
theorem chanWrite_lands {s : State} {rq : Req} {ch o : Nat} (hch : ch < 192) (ho : o < 0x100) (x : Word) (h : s.chip.direct rq (chBase ch + o) = true) :
    ∃ d, ChanFrame ch s.chip d ∧ s.write rq (chBase ch + o) x = { s with chip := d.regWrite rq (chBase ch + o) x } := by
  have hd : dieOf (chBase ch + o) = pdie ch + 2 := dieOf_chan hch ho
  obtain ⟨c, hc, hw⟩ := State.write_travels x h (by omega) (isAlias_chan hch ho)
  rw [hd] at hc
  exact ⟨c, hc.chanFrame hch, hw⟩

/-- The owner's write of CH_CMD, once it has landed. -/
theorem chCmd_lands {s : State} {rq : Req} {ch : Nat} (hch : ch < 192) (x : Word) (h : s.chip.direct rq (R.CH_CMD ch) = true)
    (ho : s.chip.oddMember ch = false) (hr : s.chip.ownerOf ch = rq.code) :
    ∃ d, ChanFrame ch s.chip d ∧ s.write rq (R.CH_CMD ch) x = { s with chip := d.cmdFields ch x } := by
  obtain ⟨d, hd, hw⟩ := chanWrite_lands (o := 0) hch (by decide) x h
  have he : 48 * (ch / 48) + ch % 48 = ch := Nat.div_add_mod ch 48
  have hx := Chip.regWrite_as_chCmd (c := d) (rq := rq) (findReg_chan hch (by decide) chanDesc_cmd) (by simp only [chBase]; omega)
    (by rw [he]; exact hd.ownerOf.trans hr) (by rw [he]; exact hd.oddMember.trans ho) x
  rw [he] at hx
  rw [hx] at hw
  exact ⟨d, hd, hw⟩

theorem Only.cmdWritten (c : Chip) (ch : Nat) (x : Word) : Only [Blk.chan ch] c (c.cmdWritten ch x) := fun a ha => by
  have := ha (Blk.chan ch) (by simp)
  simp only [Blk.chan] at this
  exact c.rd_cmdWritten ch x (by simp only [R.CH_CMD]; omega)
theorem Only.pwr_of_chan {c d : Chip} {ch : Nat} (h : Only [Blk.chan ch] c d) : Only [Blk.pwr (pdie ch)] c d :=
  Only.pwrReg fun a ha => h a (by simp only [List.forall_mem_singleton, Blk.chan]; simp only [chBase, pdie] at ha ⊢; omega)

theorem chCmdApply_captures (rq : Req) (ch : Fin 192) (data : Word) {s : State} (h : s.chip.direct rq (R.CH_CMD ch) = true) (ho : s.chip.oddMember ch = false)
    (hr : s.chip.ownerOf ch = rq.code) (hs : s.chip.chState ch ∉ [ChState.latchedOff, .disabled, .held, .limp]) :
    ∃ c, exec (.chCmdApply rq ch data) s = .next { s with chip := c } ∧
      (c.chan ch).pend = some ⟨c.rd (R.CH_CMD ch), s.chip.rd (R.CH_PWM ch), s.chip.rd (R.CH_CFG ch)⟩ ∧
      c.fget (R.CH_CMD ch) F.CH_CMD_DUTY = F.CH_CMD_DUTY.get data ∧ Only [Blk.pwr (pdie ch)] s.chip c := by
  obtain ⟨d, hd, hw⟩ := chCmd_lands ch.2 (F.CH_CMD_APPLY.put data 1) h ho hr
  rw [Chip.cmdFields_apply (Fld.get_put _ _ _ (by decide)) (by rw [hd.chState]; exact hs)] at hw
  have hc := (d.cmdWritten ch (F.CH_CMD_APPLY.put data 1)).rd_capture ch.val false (a := R.CH_CMD ch) (by simp only [R.CH_CMD, R.CH_STATUS]; omega)
    (by simp only [R.CH_CMD, R.PWR_COMMIT_OVERRUN_CNT, chBase, pdie]; omega)
  have hk (o : Nat) (ho : 0 < o ∧ o < 0x100) : (d.cmdWritten ch (F.CH_CMD_APPLY.put data 1)).rd (chBase ch + o) = s.chip.rd (chBase ch + o) :=
    (d.rd_cmdWritten ch _ (by simp only [R.CH_CMD]; omega)).trans (hd.chan o ho.2)
  have hp := hk 4 (by decide)
  have hf := hk 8 (by decide)
  refine ⟨_, congrArg Host.Outcome.next hw, ?_, ?_, hd.only.trans ((Only.cmdWritten d ch _).pwr_of_chan.trans (.capture _ _ rfl))⟩
  · rw [Chip.pend_capture, hc]
    exact congrArg some (congr (congrArg (ChSet.mk _) hp) hf)
  · rw [Chip.fget, hc]
    exact (d.duty_cmdWritten ch _).trans (Fld.get_put_ne _ _ _ _ (by decide) (by decide))
theorem chCmdRearm_rearms (rq : Req) (ch : Fin 192) (data : Word) {s : State} (h : s.chip.direct rq (R.CH_CMD ch) = true) (ho : s.chip.oddMember ch = false)
    (hr : s.chip.ownerOf ch = rq.code) (hs : s.chip.chState ch = .latchedOff) (hk : s.chip.cooled ch = true) :
    ∃ c, exec (.chCmdRearm rq ch data) s = .next { s with chip := c } ∧ c.chState ch = .off ∧ c.fget (R.CH_STATUS ch) F.CH_STATUS_CAUSE = 0 ∧
      c.fget (R.CH_PROT_STATUS ch) F.CH_PROT_STATUS_RETRY_NUM = 0 := by
  obtain ⟨d, hd, hw⟩ := chCmd_lands ch.2 (F.CH_CMD_REARM.put data 1) h ho hr
  exact ⟨_, congrArg Host.Outcome.next hw, Chip.cmdFields_rearm ch.2 (Fld.get_put _ _ _ (by decide)) (hd.chState.trans hs) (hd.cooled.trans hk)⟩

/-! ### PWR_COMMIT and PWR_PAIR -/

def pwrCommitDesc : RegDesc := ⟨.PWR_COMMIT, 0x40240108, [(4, 0x80000, 0)], 2, 0, 0, 1, 0, 0⟩
theorem findReg_pwrCommit (n : Fin 4) : findReg (R.PWR_COMMIT n) = some (pwrCommitDesc, [n.val]) := by fin_cases n <;> rfl
def pwrPairDesc : RegDesc := ⟨.PWR_PAIR, 0x40240200, [(4, 0x80000, 0)], 0xFFFFFF, 0, 0, 0, 0, 0⟩
theorem findReg_pwrPair (n : Fin 4) : findReg (R.PWR_PAIR n) = some (pwrPairDesc, [n.val]) := by fin_cases n <;> rfl
theorem isCommit_place (n : Fin 4) : dieOf (R.PWR_COMMIT n) = n.val + 2 ∧ isAlias (R.PWR_COMMIT n) = false ∧ dieOf (R.PWR_PAIR n) = n.val + 2 ∧
    isAlias (R.PWR_PAIR n) = false := by
  revert n
  decide
theorem Chip.wrote_pwrCommit (c : Chip) (n : Nat) (old x : Word) : c.wrote .sup pwrCommitDesc.id [n] old x = if F.PWR_COMMIT_GO.get x = 1 then c.commitGo n else c := rfl
theorem Chip.regWrite_as_pwrCommit {a n : Nat} (h : findReg a = some (pwrCommitDesc, [n])) (c : Chip) {x : Word} (hx : F.PWR_COMMIT_GO.get x = 1) :
    c.regWrite .sup a x = (c.wr a (storedWord pwrCommitDesc [n] (c.rd a) x)).commitGo n := by
  have hp : c.regWrite .sup a x = c.plainWrite .sup pwrCommitDesc [n] a x := by simp [Chip.regWrite, h, pwrCommitDesc, writerOk_sup, ctrHalf]
  rw [hp, Chip.plainWrite_unlocked rfl rfl rfl, Chip.wrote_pwrCommit, if_pos hx]
theorem Chip.regWrite_as_pwrPair {a n : Nat} (h : findReg a = some (pwrPairDesc, [n])) (c : Chip) (x : Word) : c.regWrite .sup a x = c.pairWrite n x := by
  simp [Chip.regWrite, h, pwrPairDesc, writerOk_sup]

theorem commitGo_lands (n : Fin 4) (data : Word) {s : State} (h : s.chip.direct .sup (R.PWR_COMMIT n) = true) : ∃ d : Chip,
    s.write .sup (R.PWR_COMMIT n) (F.PWR_COMMIT_GO.put data 1) = { s with chip := d.commitGo n } ∧ GoKept s.chip d ∧
      d.rd (R.PWR_COMMIT_CNT n) = s.chip.rd (R.PWR_COMMIT_CNT n) ∧ Only [Blk.pwr n] s.chip d := by
  obtain ⟨hd, ha, -⟩ := isCommit_place n
  obtain ⟨c, hc, hw⟩ := State.write_travels (F.PWR_COMMIT_GO.put data 1) h (by omega) ha
  rw [hd] at hc
  rw [Chip.regWrite_as_pwrCommit (findReg_pwrCommit n) _ (Fld.get_put _ _ _ (by decide))] at hw
  have hrd {a : Nat} (h₁ : a ≠ tokenAddr (n.val + 2)) (h₂ : a ≠ R.PWR_COMMIT n) (x : Word) : (c.wr (R.PWR_COMMIT n) x).rd a = s.chip.rd a :=
    (Chip.rd_wr_ne _ _ h₂).trans (hc.rd h₁)
  rw [tokenAddr_pwr n.2] at hrd
  refine ⟨_, hw, fun a h₁ h₂ _ => hrd ?_ ?_ _, hrd ?_ ?_ _, hc.only_pwr n.2 (by simp only [R.PWR_COMMIT]; omega) _⟩
  · rintro rfl
    omega
  · rintro rfl
    simp only [R.PWR_COMMIT] at h₂
    omega
  · simp only [R.PWR_COMMIT_CNT]
    omega
  · simp only [R.PWR_COMMIT_CNT, R.PWR_COMMIT]
    omega
theorem pwrCommitGo_says (n : Fin 4) (data : Word) {s : State} (h : s.chip.direct .sup (R.PWR_COMMIT n) = true) :
    ∃ c, exec (.pwrCommitGo .sup n data) s = .next { s with chip := c } ∧ c.rd (R.PWR_COMMIT_CNT n) = s.chip.rd (R.PWR_COMMIT_CNT n) + 1 ∧
      (∀ l < 48, s.chip.commitMask n l = true → s.chip.commitSkips (48 * n + l) = false → (c.chan (48 * n + l)).pend =
        some ⟨s.chip.rd (R.CH_CMD (48 * n + l)), s.chip.rd (R.CH_PWM (48 * n + l)), s.chip.rd (R.CH_CFG (48 * n + l))⟩) ∧ Only [Blk.pwr n] s.chip c := by
  obtain ⟨d, hw, hk, hcnt, hd⟩ := commitGo_lands n data h
  obtain ⟨h₁, h₂, h₃⟩ := d.commitGo_says n
  refine ⟨_, congrArg Host.Outcome.next hw, h₁.trans (by rw [hcnt]), fun l hl hm hs => ?_, hd.trans h₃⟩
  rw [h₂ l hl ((hk.mask _ _).trans hm) ((hk.skips _).trans hs), hk.shadow]

theorem pwrPairWrite_says (n : Fin 4) (data : Word) {p : Nat} {s : State} (hp : p < 24) (h : s.chip.direct .sup (R.PWR_PAIR n) = true)
    (hx : s.chip.pairFixed n p = false) (hf : s.chip.pairFree (48 * n + 2 * p) = true) (hf' : s.chip.pairFree (48 * n + 2 * p + 1) = true) :
    ∃ c, exec (.pwrPairWrite .sup n data) s = .next { s with chip := c } ∧ c.paired (48 * n + 2 * p) = data.toNat.testBit p ∧ Only [Blk.pwr n] s.chip c := by
  obtain ⟨-, -, hd, ha⟩ := isCommit_place n
  obtain ⟨c, hc, hw⟩ := State.write_travels data h (by omega) ha
  rw [hd] at hc
  rw [Chip.regWrite_as_pwrPair (findReg_pwrPair n)] at hw
  have hst (k : Nat) : c.rd (R.CH_STATUS k) = s.chip.rd (R.CH_STATUS k) := hc.rd (by rw [tokenAddr_pwr n.2]; simp only [R.CH_STATUS, chBase]; omega)
  have hfree (k : Nat) : c.pairFree k = s.chip.pairFree k := by simp only [Chip.pairFree, Chip.chState, Chip.pendingGrant, Chip.flag, Chip.fget, hst]
  have hfix : c.pairFixed n p = s.chip.pairFixed n p := by simp only [Chip.pairFixed, Chip.isStartEnable, Chip.flag, Chip.fget, hst]
  have ho : Only [Blk.pwr n] s.chip c := Only.pwrReg fun b hb => hc.rd (by rw [tokenAddr_pwr n.2]; omega)
  refine ⟨_, congrArg Host.Outcome.next hw, ?_, ho.trans (.pairWrite c n data)⟩
  rw [Chip.paired_eq_flag _ hp]
  exact Chip.pairWrite_says data hp (hfix.trans hx) ((hfree _).trans hf) ((hfree _).trans hf')

/-! ### CH_OWNER -/

theorem chOwnerWrite_says (ch : Fin 192) (data : Word) {s : State} (h : s.chip.direct .sup (R.CH_OWNER ch) = true) (hs : isSealed ch = false)
    (he : s.chip.isStartEnable ch = false) (hv : F.CH_OWNER_OWNER.get data ≤ 5) : ∃ c, exec (.chOwnerWrite .sup ch data) s = .next { s with chip := c } ∧
      c.ownerOf ch = F.CH_OWNER_OWNER.get data ∧ c.rd (R.CH_CMD ch) = s.chip.rd (R.CH_ACTIVE_CMD ch) ∧ Only [Blk.pwr (pdie ch)] s.chip c := by
  obtain ⟨d, hd, hw⟩ := chanWrite_lands (o := 0xC) ch.2 (by decide) data h
  have hc : 48 * (ch.val / 48) + ch.val % 48 = ch := Nat.div_add_mod ch.val 48
  have hx := Chip.regWrite_as_chOwner (c := d) (findReg_chan ch.2 (by decide) chanDesc_owner) (by rw [hc]; exact hs) data
  rw [hc] at hx
  rw [hx] at hw
  obtain ⟨h₁, h₂, h₃⟩ := Chip.ownerWrite_says (hd.isStartEnable.trans he) hv
  exact ⟨_, congrArg Host.Outcome.next hw, h₁, h₂.trans (hd.chan 0x10 (by decide)), hd.only.trans h₃.pwr_of_chan⟩
theorem chOwnerWrite_sealed (ch : Fin 192) (data : Word) {s : State} (h : s.chip.direct .sup (R.CH_OWNER ch) = true) (hs : isSealed ch = true) :
    ∃ c, exec (.chOwnerWrite .sup ch data) s = .next { s with chip := c } ∧ c.ownerOf ch = s.chip.ownerOf ch := by
  obtain ⟨d, hd, hw⟩ := chanWrite_lands (o := 0xC) ch.2 (by decide) data h
  have hc : 48 * (ch.val / 48) + ch.val % 48 = ch := Nat.div_add_mod ch.val 48
  have hs' : isSealed (48 * (ch.val / 48) + ch.val % 48) = true := by rw [hc]; exact hs
  rw [Chip.regWrite_as_sealedOwner (findReg_chan ch.2 (by decide) chanDesc_owner) hs' data] at hw
  exact ⟨_, congrArg Host.Outcome.next hw, (d.owner_sealed ch.2 hs' data).trans hd.ownerOf⟩

/-- Settles O11: captures, a commit tick and a pair bit are followed for one channel, which the steps for the others leave alone. -/
theorem channelCommandsCommitsAndOwners : Obligations.ChannelCommandsCommitsAndOwners := by
  unfold Obligations.ChannelCommandsCommitsAndOwners
  refine ⟨fun rq ch data s h ho hr hs => chCmdApply_captures rq ch data h ho hr hs, fun rq ch data s h ho hr hs hk => chCmdRearm_rearms rq ch data h ho hr hs hk,
    fun n data s h => pwrCommitGo_says n data h, fun n s => ⟨_, State.next_chip rfl, fun l hl ht hd hg => ?_⟩, fun ch s hp hd hr hx ho hs hq => ?_,
    fun n data p s hp h hx hf => pwrPairWrite_says n data hp h hx hf.1 hf.2, fun ch data s h hs he hv => chOwnerWrite_says ch data h hs he hv,
    fun ch data s h hs => chOwnerWrite_sealed ch data h hs⟩
  · have ha := Chip.commitTick_says n.2 hl ⟨ht, hd, hg, rfl⟩
    exact ⟨ha.pend, ha.active⟩
  · obtain ⟨h₁, h₂, h₃, -⟩ := Chip.beginPeriod_says hr ho hs
    exact ⟨_, State.next_chip (Chip.pwmPeriodStart_says hp hd hr hx ho hs hq), h₁, h₂, h₃⟩

end Sys2Proof.Machine
end

section
/-! SUPPORT. A command packet that is taken from its queue, and the completion that answers it (R334 to R345). -/

namespace Sys2Proof.Machine
open Sys2Proof

/-! ### Taking a packet (R329, R336) -/

theorem headLen_le : ∀ l : List QWord, headLen l ≤ l.length
  | [] => le_refl _
  | w :: l => by
    have := headLen_le l
    simp only [headLen, List.length_cons]
    split_ifs <;> omega
/-- The words of the packet at the front of a queue. -/
theorem Chip.headLen_of_headPacket {c : Chip} {q : Nat} {h : Word} {ws : List Word} (hp : c.headPacket q = h :: ws) :
    headLen (c.queue q).drain = ws.length + 1 := by
  have hl := congrArg List.length hp
  unfold Chip.headPacket at hl
  have hle := headLen_le (c.queue q).drain
  split at hl
  · rw [List.length_map, List.length_take, min_eq_left hle] at hl
    exact hl
  · simp at hl

theorem compQueue_mem (rq : Req) : compQueue rq = 1 ∨ 6 ≤ compQueue rq ∧ compQueue rq < 10 := by
  cases rq <;> decide
theorem cmdQueue_mem (rq : Req) : cmdQueue rq = 0 ∨ 2 ≤ cmdQueue rq ∧ cmdQueue rq < 6 := by
  cases rq <;> decide
theorem compQueue_ne_cmdQueue (rq rq' : Req) : compQueue rq ≠ cmdQueue rq' := by
  have := compQueue_mem rq
  have := cmdQueue_mem rq'
  omega
theorem compQueue_lt (rq : Req) : compQueue rq < 32 := by
  have := compQueue_mem rq
  omega

/-- A packet of n payload words has been taken from the requester's queue, and nothing else has changed. -/
structure Taken (rq : Req) (n : Nat) (c d : Chip) : Prop where
  rest : d = { c with regs := (c.ungate 1).regs, queues := d.queues }
  drain : (d.queue (cmdQueue rq)).drain = (c.queue (cmdQueue rq)).drain.drop (n + 1)
  others : ∀ q, q ≠ cmdQueue rq → d.queue q = c.queue q

/-- A change of registers, and then of a queue. -/
theorem Chip.setQueue_of_regs {c d : Chip} (h : d = { c with regs := d.regs }) (q : Nat) (x : Queue) :
    d.setQueue q x = { c with regs := d.regs, queues := (d.setQueue q x).queues } := by
  obtain ⟨r, hr⟩ : ∃ r, r = d.regs := ⟨_, rfl⟩
  rw [← hr] at h ⊢
  subst h
  rfl
theorem Chip.takePacket_taken {c : Chip} {rq : Req} {h : Word} {ws : List Word} (hp : c.headPacket (cmdQueue rq) = h :: ws) :
    Taken rq ws.length c (c.takePacket (cmdQueue rq)) := by
  refine ⟨Chip.setQueue_of_regs (d := c.ungate 1) rfl _ _, ?_, fun q hq => ?_⟩
  · rw [Chip.takePacket, Chip.queue_setQueue_self, Chip.headLen_of_headPacket hp]
  · rw [Chip.takePacket, Chip.queue_setQueue_ne _ _ hq, Chip.queue, (Noted.ungate c 1).queues]
    rfl

namespace Taken
variable {rq : Req} {n : Nat} {c d : Chip} (h : Taken rq n c d)
include h
theorem field {α : Type} (f : Chip → α) : f d = f { c with regs := (c.ungate 1).regs, queues := d.queues } := congrArg f h.rest
theorem rd {a : Nat} (ha : a ≠ 0x40000504) : d.rd a = c.rd a := (h.field (·.rd a)).trans (Chip.rd_fset_ne c _ _ ha)
theorem only (l : List (Nat × Nat)) (hl : Blk.sys ∈ l) : Only l c d := fun a ha => h.rd fun he => by
  have := ha _ hl
  simp only [Blk.sys] at this
  omega
theorem cmds : d.cmds = c.cmds := h.field (·.cmds)
theorem heldComps : d.heldComps = c.heldComps := h.field (·.heldComps)
theorem quotas : d.quotas = c.quotas := h.field (·.quotas)
theorem cfg : d.cfg = c.cfg := h.field (·.cfg)
theorem chans : d.chans = c.chans := h.field (·.chans)
theorem dies : d.dies = c.dies := h.field (·.dies)
theorem cans : d.cans = c.cans := h.field (·.cans)
theorem mbs : d.mbs = c.mbs := h.field (·.mbs)
theorem ctr : d.ctr = c.ctr := h.field (·.ctr)
theorem can (k : Nat) : d.can k = c.can k := by
  rw [Chip.can, h.cans]
  rfl
theorem mbWord (k b w : Nat) : d.mbWord k b w = c.mbWord k b w := by
  rw [Chip.mbWord, h.mbs]
  rfl
theorem links : d.links = c.links := h.field (·.links)
theorem grain : d.grain = c.grain := h.field (·.grain)
theorem upd : d.upd = c.upd := h.field (·.upd)
theorem acc : d.acc = c.acc := h.field (·.acc)
theorem nm : d.nm = c.nm := h.field (·.nm)
theorem modex : d.modex = c.modex := h.field (·.modex)
theorem ctr64 (a : Nat) : d.ctr64 a = c.ctr64 a := by
  rw [Chip.ctr64, h.ctr]
  rfl
theorem fget {a : Nat} (ha : a ≠ 0x40000504) (f : Fld) : d.fget a f = c.fget a f := congrArg f.get (h.rd ha)
theorem flag {a : Nat} (ha : a ≠ 0x40000504) (f : Fld) : d.flag a f = c.flag a f := congrArg (· == 1) (h.fget ha f)
theorem mode : d.mode = c.mode := h.fget (by decide) _
theorem linkUp {k : Nat} (hk : k < 8) : d.linkUp k = c.linkUp k :=
  congrArg (k == 0 || ·) (h.flag (by simp only [R.SYS_LINK_STATUS]; omega) _)
theorem ownEntries (r : Req) : d.ownEntries r = c.ownEntries r := by rw [Chip.ownEntries, Chip.ownEntries, h.cmds, h.heldComps]
theorem entries : d.entries = c.entries := by rw [Chip.entries, Chip.entries, h.cmds, h.heldComps]
theorem rangeAdmits (r : Req) (op : Nat) : d.rangeAdmits r op = c.rangeAdmits r op := by rw [Chip.rangeAdmits, Chip.rangeAdmits, h.cfg]
end Taken

/-! ### Between the taking and the answer -/

/-- What the requester's answer rests on is as it was. -/
structure Unanswered (rq : Req) (c d : Chip) : Prop where
  comp : d.queue (compQueue rq) = c.queue (compQueue rq)
  drain : (d.queue (cmdQueue rq)).drain = (c.queue (cmdQueue rq)).drain
  held : d.heldComps = c.heldComps
  cfg : d.rd (R.Q_CFG (compQueue rq)) = c.rd (R.Q_CFG (compQueue rq))
  time : d.mtimeLo = c.mtimeLo

namespace Unanswered
variable {rq : Req} {c d e : Chip}
theorem refl (c : Chip) : Unanswered rq c c := ⟨rfl, rfl, rfl, rfl, rfl⟩
theorem trans (h : Unanswered rq c d) (h' : Unanswered rq d e) : Unanswered rq c e :=
  ⟨h'.comp.trans h.comp, h'.drain.trans h.drain, h'.held.trans h.held, h'.cfg.trans h.cfg, h'.time.trans h.time⟩
theorem ite {p : Prop} [Decidable p] (h : p → Unanswered rq c d) (h' : ¬ p → Unanswered rq c e) : Unanswered rq c (if p then d else e) := by
  split
  case isTrue hp => exact h hp
  case isFalse hp => exact h' hp
theorem foldl {α : Type} {f : Chip → α → Chip} {xs : List α} (h : ∀ x ∈ xs, ∀ c, Unanswered rq c (f c x)) (c : Chip) : Unanswered rq c (xs.foldl f c) :=
  List.foldlRecOn xs f (motive := fun d => Unanswered rq c d) (refl c) fun d hd x hx => hd.trans (h x hx d)
/-- A change that leaves the queues, the held completions, the time and the queues' registers alone. -/
theorem of_queues (hq : d.queues = c.queues) (hh : d.heldComps = c.heldComps) (ht : d.ctr64 R.SYS_MTIME_LO = c.ctr64 R.SYS_MTIME_LO)
    (hr : ∀ q, q < 32 → d.rd (R.Q_CFG q) = c.rd (R.Q_CFG q)) : Unanswered rq c d :=
  ⟨by rw [Chip.queue, hq]; rfl, by rw [Chip.queue, hq]; rfl, hh, hr _ (compQueue_lt rq), congrArg (BitVec.setWidth 32) ht⟩
theorem noted (h : Noted c d) (hr : ∀ q, q < 32 → d.rd (R.Q_CFG q) = c.rd (R.Q_CFG q)) : Unanswered rq c d :=
  of_queues h.queues (h.field (·.heldComps)) (h.field (·.ctr64 _)) hr
theorem wr (c : Chip) {a : Nat} (x : Word) (h : a < 0x40020000 ∨ 0x40020800 ≤ a) : Unanswered rq c (c.wr a x) :=
  noted (.wr c a x) fun q hq => Chip.rd_wr_ne c x (by simp only [R.Q_CFG]; omega)
theorem fset (c : Chip) {a : Nat} (f : Fld) (v : Nat) (h : a < 0x40020000 ∨ 0x40020800 ≤ a) : Unanswered rq c (c.fset a f v) := wr c _ h
theorem queueCfg_ne {a q : Nat} (h : a < 0x40020000 ∨ 0x40020800 ≤ a ∨ a % 0x40 ≠ 0) (hq : q < 32) : R.Q_CFG q ≠ a := by
  simp only [R.Q_CFG]
  omega
theorem raise (c : Chip) {k : Nat} (hk : k < 256) : Unanswered rq c (c.raise k) :=
  noted (.raise c k) fun q hq => (Only.raise c hk) _ (by simp only [List.forall_mem_cons, Blk.sys, Blk.evr, R.Q_CFG]; simp; omega)
end Unanswered

/-! ### The answer (R339, R344) -/

theorem Chip.fill_qCommitted (c : Chip) (q r : Nat) : (c.qCommitted q).queue r = c.queue r := by
  have hd : ((c.ungate 1).bumpWrap (R.Q_PKT_CNT q)).queues = c.queues := (Noted.queues (.bumpWrap (c.ungate 1) _)).trans (Noted.queues (.ungate c 1))
  unfold Chip.qCommitted
  extract_lets d
  have hd : d.queues = c.queues := hd
  clear_value d
  have hx : d.queue r = c.queue r := by rw [Chip.queue, hd]; rfl
  cases queueEvent q with
  | none => exact hx
  | some k => exact (Chip.queue_raise d k r).trans hx

/-- A completion that fits is the last packet of its queue; the other queues are as they were. -/
theorem Chip.complete_says {c : Chip} {rq : Req} {st : CmdStatus} {res : List Word} (op tag fl : Nat) (hh : (c.heldComps.all fun h => h.1 ≠ rq) = true)
    (hf : res.length + 2 ≤ c.qFree (compQueue rq)) : ((c.complete rq op tag st res fl).queue (compQueue rq)).fill =
      (c.queue (compQueue rq)).fill ++ packetWords (c.compPacket op tag st fl res) ∧
      ∀ q, q ≠ compQueue rq → (c.complete rq op tag st res fl).queue q = c.queue q := by
  rw [Chip.complete_fits c rq op tag st res fl hh hf, Chip.hwPush_fits c _ _ (Chip.compPacket_ne_nil _ _ _ _ _ _) (by simpa using hf)]
  refine ⟨?_, fun q hq => ?_⟩
  · rw [Chip.fill_qCommitted, Chip.queue_setQueue_self]
  · rw [Chip.fill_qCommitted, Chip.queue_setQueue_ne _ _ hq]

/-- The requester's answer has room. -/
structure Ready (rq : Req) (c : Chip) : Prop where
  held : (c.heldComps.all fun h => h.1 ≠ rq) = true
  free : 34 ≤ c.qFree (compQueue rq)
theorem Ready.of_serves {rq : Req} {c : Chip} (h : c.serves rq = true) : Ready rq c := by
  simp only [Chip.serves, Bool.and_eq_true, decide_eq_true_eq] at h
  exact ⟨by simpa [bne_iff_ne] using h.2, h.1.2⟩
theorem Chip.qFree_congr {c d : Chip} {q : Nat} (hr : d.rd (R.Q_CFG q) = c.rd (R.Q_CFG q)) (hq : d.queue q = c.queue q) : d.qFree q = c.qFree q := by
  have he : d.qEnabled q = c.qEnabled q := congrArg (fun w => F.Q_CFG_EN.get w == 1) hr
  have hz : d.qSize q = c.qSize q := congrArg (fun w => 64 * F.Q_CFG_SIZE.get w) hr
  rw [Chip.qFree, Chip.qFree, he, hz, hq]
theorem Taken.unanswered_comp {rq : Req} {n : Nat} {c d : Chip} (h : Taken rq n c d) : d.queue (compQueue rq) = c.queue (compQueue rq) ∧
    d.rd (R.Q_CFG (compQueue rq)) = c.rd (R.Q_CFG (compQueue rq)) ∧ d.mtimeLo = c.mtimeLo :=
  ⟨h.others _ (compQueue_ne_cmdQueue rq rq), h.rd (by simp only [R.Q_CFG]; omega), congrArg (BitVec.setWidth 32) (h.ctr64 _)⟩

section
variable {rq : Req} {n : Nat} {c d e : Chip} (hs : c.serves rq = true) (ht : Taken rq n c d) (hu : Unanswered rq d e)
include hs ht hu

theorem answer_says (op tag fl : Nat) (st : CmdStatus) {res : List Word} (hr : res.length ≤ 32) : c.popped (e.complete rq op tag st res fl) rq n ∧
    ((e.complete rq op tag st res fl).queue (compQueue rq)).fill = (c.queue (compQueue rq)).fill ++ packetWords (c.compPacket op tag st fl res) := by
  obtain ⟨hq, hc, hm⟩ := ht.unanswered_comp
  have hready := Ready.of_serves hs
  have hfree : e.qFree (compQueue rq) = c.qFree (compQueue rq) := Chip.qFree_congr (hu.cfg.trans hc) (hu.comp.trans hq)
  obtain ⟨h₁, h₂⟩ := Chip.complete_says (c := e) (rq := rq) (st := st) (res := res) op tag fl (by rw [hu.held, ht.heldComps]; exact hready.held)
    (by have := hready.free; omega)
  refine ⟨?_, ?_⟩
  · show (_ : Queue).drain = _
    rw [h₂ _ (compQueue_ne_cmdQueue rq rq).symm, hu.drain, ht.drain]
  · have hp : e.compPacket op tag st fl res = c.compPacket op tag st fl res := by rw [Chip.compPacket, Chip.compPacket, hu.time, hm]
    rw [h₁, hu.comp, hq, hp]
/-- R339: the packet is taken, and one completion answers it. -/
theorem served_says (op tag : Nat) (st : CmdStatus) {res : List Word} (hr : res.length ≤ 32) : c.served (e.complete rq op tag st res) rq op tag n st res :=
  answer_says hs ht hu op tag 0 st hr
end

/-- A completion is told to its queue alone. -/
theorem Only.complete (c : Chip) (rq : Req) (op tag : Nat) (st : CmdStatus) (res : List Word) (fl : Nat) :
    Only [Blk.sys, Blk.evr, Blk.que] c (c.complete rq op tag st res fl) := by
  refine (Served.complete c rq op tag st res fl).only.sub fun x hx => ?_
  simp only [servedRegs, List.mem_cons, List.not_mem_nil, or_false] at hx
  obtain rfl | rfl | rfl | rfl := hx
  · exact ⟨Blk.sys, by simp, by decide⟩
  · exact ⟨Blk.evr, by simp, by decide⟩
  · exact ⟨Blk.evr, by simp, by decide⟩
  · exact ⟨Blk.que, by simp, by decide⟩
/-- A register beyond the system block, the router and the queues. -/
theorem Chip.rd_complete (c : Chip) (rq : Req) (op tag : Nat) (st : CmdStatus) (res : List Word) (fl : Nat) {a : Nat} (h : 0x40030000 ≤ a) :
    (c.complete rq op tag st res fl).rd a = c.rd a := (Served.complete c rq op tag st res fl).rd (by omega)

/-! ### An offered packet (R334 to R338) -/

section
variable {c : Chip} {rq : Req} {op tag : Nat} {ws : List Word}

/-- The command that the header and the payload are. -/
def cmdFor (rq : Req) (op tag : Nat) (ws : List Word) : Cmd := { rq := rq, op := op, tag := tag, w := ws }

theorem cmdHeader_toNat (hl : ws.length ≤ 62) (ho : op < 256) (ht : tag < 128) : (cmdHeader op tag ws.length).toNat = op * 2 ^ 24 + tag * 2 ^ 16 + ws.length := by
  simp only [cmdHeader, BitVec.toNat_ofNat]
  apply Nat.mod_eq_of_lt
  omega
/-- R336: the header is well formed. -/
theorem header_ok (hl : ws.length ≤ 62) (ho : op < 256) (ht : tag < 128) : ((ws.length != (cmdHeader op tag ws.length).toNat % 256 ||
    (cmdHeader op tag ws.length).getLsbD 23 || (cmdHeader op tag ws.length).toNat / 256 % 256 != 0 || decide (62 < ws.length)) : Bool) = false := by
  have hn := cmdHeader_toNat (ws := ws) hl ho ht
  have h₁ : (cmdHeader op tag ws.length).toNat % 256 = ws.length := by omega
  have h₂ : (cmdHeader op tag ws.length).toNat / 256 % 256 = 0 := by omega
  have h₃ : (cmdHeader op tag ws.length).getLsbD 23 = false := by
    rw [BitVec.getLsbD, Nat.testBit_eq_decide_div_mod_eq]
    exact decide_eq_false (by omega)
  rw [h₁, h₂, h₃]
  simp [hl]

/-- A packet that passes the common checks meets those of its row. -/
theorem offers_command (h : c.offers rq op tag ws) (ho : op < 256) (hl : ws.length ≤ 62) : c.serves rq = true ∧ ∃ d, Taken rq ws.length c d ∧
    ∀ lens checks run, lens (cmdFor rq op tag ws) = true → c.command rq op lens checks run =
      (firstFail (checks d (cmdFor rq op tag ws))).elim (run d (cmdFor rq op tag ws)) (d.refuse (cmdFor rq op tag ws)) := by
  obtain ⟨htag, hs, hp, hdup, hq, he, hr⟩ := h
  have hk : cmdOf rq (cmdHeader op tag ws.length) ws = cmdFor rq op tag ws := cmdOf_cmdHeader rq ws ho htag hl
  have ht := Chip.takePacket_taken hp
  refine ⟨hs, c.takePacket (cmdQueue rq), ht, fun lens checks run hlen => ?_⟩
  have hcom : firstFail ((c.takePacket (cmdQueue rq)).commonChecks (cmdFor rq op tag ws) (cmdHeader op tag ws.length) lens) = none := by
    have hx := header_ok (ws := ws) hl ho htag
    refine firstFail_none.2 fun x hm => ?_
    simp only [Chip.commonChecks, List.mem_cons, List.not_mem_nil, or_false] at hm
    obtain rfl | rfl | rfl | rfl := hm
    · show (_ || !lens (cmdFor rq op tag ws)) = false
      rw [hlen]
      exact (Bool.or_false _).trans hx
    · show (_ && (c.takePacket (cmdQueue rq)).cmds.any _) = false
      rw [ht.cmds]
      exact (congrArg (_ && ·) hdup).trans (Bool.and_false _)
    · show (decide (5 < op) && (decide ((c.takePacket (cmdQueue rq)).quotas.getD rq.code 0 ≤ (c.takePacket (cmdQueue rq)).ownEntries rq) ||
        decide (128 ≤ (c.takePacket (cmdQueue rq)).entries))) = false
      rw [ht.ownEntries, ht.quotas, ht.entries, decide_eq_false (Nat.not_le.2 hq), decide_eq_false (Nat.not_le.2 he), Bool.or_false, Bool.and_false]
    · show (!(c.takePacket (cmdQueue rq)).rangeAdmits rq op) = false
      rw [ht.rangeAdmits, hr]
      rfl
  cases hf : firstFail (checks (c.takePacket (cmdQueue rq)) (cmdFor rq op tag ws)) with
  | none =>
    refine (Chip.command_accepts c rq op lens checks run hp hs (by rw [hk]; rfl) ?_).trans (by rw [hk]; rfl)
    rw [hk, firstFail_append_pass hcom, hf]
  | some r =>
    refine (Chip.command_refuses c rq op lens checks run (r := r) hp hs (by rw [hk]; rfl) ?_).trans (by rw [hk]; rfl)
    rw [hk, firstFail_append_pass hcom, hf]
/-- A packet that passes the common checks and those of its row is carried out. -/
theorem offers_accepts (h : c.offers rq op tag ws) (ho : op < 256) (hl : ws.length ≤ 62) : c.serves rq = true ∧ ∃ d, Taken rq ws.length c d ∧
    ∀ lens checks run, lens (cmdFor rq op tag ws) = true → (∀ x ∈ checks d (cmdFor rq op tag ws), x.1 = false) →
      c.command rq op lens checks run = run d (cmdFor rq op tag ws) := by
  obtain ⟨hs, d, ht, hx⟩ := offers_command h ho hl
  refine ⟨hs, d, ht, fun lens checks run hlen hc => ?_⟩
  rw [hx lens checks run hlen, firstFail_none.2 hc]
  rfl
end

end Sys2Proof.Machine
end

section
/-! SUPPORT. Records of the log, and the refusals of a command, between its packet and its answer (R338, R351, R470 to R476). -/

namespace Sys2Proof.Machine
open Sys2Proof

namespace Unanswered
variable {rq : Req} {c d : Chip}

theorem setGrain (c : Chip) (g : Grain) : Unanswered rq c (c.setGrain g) := ⟨rfl, rfl, rfl, rfl, rfl⟩
theorem startCmds (c : Chip) (p : Cmd → Bool) : Unanswered rq c (c.startCmds p) := ⟨rfl, rfl, rfl, rfl, rfl⟩
theorem setChan (c : Chip) (k : Nat) (x : ChanX) : Unanswered rq c (c.setChan k x) := ⟨rfl, rfl, rfl, rfl, rfl⟩
theorem setDie (c : Chip) (n : Nat) (x : DieX) : Unanswered rq c (c.setDie n x) := ⟨rfl, rfl, rfl, rfl, rfl⟩
theorem sec (c : Chip) {a : Nat} (x : Word) (h : 0x400C0000 ≤ a ∧ a < 0x40100000) : Unanswered rq c (c.wr a x) := wr c x (by omega)
theorem logSync (c : Chip) : Unanswered rq c c.logSync :=
  (((sec c _ (by decide)).trans (sec _ _ (by decide))).trans (sec _ _ (by decide))).trans (sec _ _ (by decide))
theorem logWrite (c : Chip) (typ : Nat) (pay : BitVec 128) (reserve late : Bool) : Unanswered rq c (c.logWrite typ pay reserve late) :=
  (setGrain c _).trans (logSync _)
theorem checkFull (c : Chip) : Unanswered rq c c.checkFull :=
  ite (fun _ => refl c) fun _ => (sec c _ (by decide)).trans (raise _ (by decide))
theorem logLost (c : Chip) : Unanswered rq c c.logLost := (sec c _ (by decide)).trans (setGrain _ _)
theorem logReserve (c : Chip) (typ : Nat) (pay : BitVec 128) (late : Bool) : Unanswered rq c (c.logReserve typ pay late) :=
  ite (fun _ => (logWrite c typ pay true late).trans (checkFull _)) fun _ => logLost c
theorem logFold (c : Chip) (typ : Nat) : Unanswered rq c (c.logFold typ) := (setGrain c _).trans (logSync _)
theorem beginFolding (c : Chip) : Unanswered rq c c.beginFolding :=
  ite (fun _ => refl c) fun _ => ((sec c _ (by decide)).trans (logReserve _ _ _ _)).trans (raise _ (by decide))
theorem logAdd (c : Chip) (typ : Nat) (pay : BitVec 128) (late : Bool) : Unanswered rq c (c.logAdd typ pay late) :=
  ite (fun _ => ite (fun _ => setGrain c _) fun _ => ite (fun _ => logFold c typ) fun _ => logLost c)
    fun _ => ite (fun _ => logWrite c typ pay false late) fun _ => (beginFolding c).trans (ite (fun _ => logFold _ typ) fun _ => logReserve _ typ pay late)
theorem startSeal (c : Chip) : Unanswered rq c c.startSeal :=
  ite (fun _ => logAdd c _ _ _) fun _ => ((logAdd c _ _ _).trans (setGrain _ _)).trans (sec _ _ (by decide))
theorem takeSeal (c : Chip) : Unanswered rq c c.takeSeal := (setGrain c _).trans (startSeal _)
theorem takeAttest (c : Chip) : Unanswered rq c c.takeAttest := by
  unfold Chip.takeAttest
  split
  · exact (setGrain c _).trans (startCmds _ _)
  · exact refl c
theorem nextJob (c : Chip) : Unanswered rq c c.nextJob := by
  have sealed (p : Prop) [Decidable p] : Unanswered rq c (if p then c.takeSeal else c) := ite (fun _ => takeSeal c) fun _ => refl c
  exact ite (fun _ => refl c) fun _ => ite (fun _ => sealed _) fun _ => (sealed _).trans (takeAttest _)
theorem sealDue (c : Chip) : Unanswered rq c c.sealDue := (setGrain c _).trans (nextJob _)
theorem log (c : Chip) (typ : Nat) (pay : BitVec 128) (late : Bool) : Unanswered rq c (c.log typ pay late) :=
  ite (fun _ => ite (fun _ => (logAdd c typ pay late).trans (sealDue _)) fun _ => logAdd c typ pay late) fun _ => setGrain c _
theorem refusedCommand (c : Chip) (r : Req) (op st : Nat) (x : Word) : Unanswered rq c (c.refusedCommand r op st x) :=
  (log c _ _ _).trans (raise _ (by decide))
end Unanswered

/-! ### Refusals -/

/-- A refusal that is a completion and no more. -/
theorem Chip.refuse_plain (c : Chip) (k : Cmd) {r : Refuse} (h : r.st ≠ .denied ∧ r.st ≠ .busy) :
    c.refuse k r = c.complete k.rq k.op k.tag r.st [detail r.arg r.reason r.obj] (if r.dup then 512 else 0) := by
  obtain ⟨st, arg, reason, obj, dup⟩ := r
  cases st <;> simp_all [Chip.refuse]

/-- A header at the front of the queue of a requester that is served is taken, and its common checks decide first. -/
theorem front_command {c : Chip} {rq : Req} {op tag : Nat} {ws : List Word} (hs : c.serves rq = true) (htag : tag < 128)
    (hp : c.headPacket (cmdQueue rq) = cmdHeader op tag ws.length :: ws) (ho : op < 256) (hl : ws.length ≤ 62) : ∃ d, Taken rq ws.length c d ∧
    ∀ lens checks run r, firstFail (d.commonChecks (cmdFor rq op tag ws) (cmdHeader op tag ws.length) lens ++ checks d (cmdFor rq op tag ws)) = some r →
      c.command rq op lens checks run = d.refuse (cmdFor rq op tag ws) r := by
  have hk : cmdOf rq (cmdHeader op tag ws.length) ws = cmdFor rq op tag ws := cmdOf_cmdHeader rq ws ho htag hl
  refine ⟨c.takePacket (cmdQueue rq), Chip.takePacket_taken hp, fun lens checks run r hf => ?_⟩
  refine (Chip.command_refuses c rq op lens checks run (r := r) hp hs (by rw [hk]; rfl) (by rw [hk]; exact hf)).trans (by rw [hk])

section
variable {c d : Chip} {rq : Req} {op tag : Nat} {ws : List Word} (ht : Taken rq ws.length c d)
include ht

/-- A plain refusal answers, and leaves the command table. -/
theorem refused_says (hs : c.serves rq = true) {r : Refuse} (h : r.st ≠ .denied ∧ r.st ≠ .busy) : c.popped (d.refuse (cmdFor rq op tag ws) r) rq ws.length ∧
    ((d.refuse (cmdFor rq op tag ws) r).queue (compQueue rq)).fill = (c.queue (compQueue rq)).fill ++
      packetWords (c.compPacket op tag r.st (if r.dup then 512 else 0) [detail r.arg r.reason r.obj]) ∧
    (d.refuse (cmdFor rq op tag ws) r).cmds = c.cmds ∧ Only [Blk.sys, Blk.evr, Blk.que] c (d.refuse (cmdFor rq op tag ws) r) := by
  rw [Chip.refuse_plain d _ h]
  obtain ⟨h₁, h₂⟩ := answer_says hs ht (.refl d) op tag (if r.dup then 512 else 0) r.st (res := [detail r.arg r.reason r.obj]) (by simp)
  exact ⟨h₁, h₂, (Chip.cmds_complete _ _ _ _ _ _ _).trans ht.cmds, (ht.only _ (by simp)).trans (.complete _ _ _ _ _ _ _)⟩
/-- R343: a refusal for want of room raises EV224. -/
theorem busy_says (hs : c.serves rq = true) : c.served (d.refuse (cmdFor rq op tag ws) { st := .busy }) rq op tag ws.length .busy [0xFF00FFFF] ∧
    (d.refuse (cmdFor rq op tag ws) { st := .busy }).rd (R.EVR_CNT 224) = .ofNat 32 (min 0xFFFFFFFF ((c.rd (R.EVR_CNT 224)).toNat + 1)) ∧
    (d.refuse (cmdFor rq op tag ws) { st := .busy }).cmds = c.cmds ∧ Only [Blk.sys, Blk.evr, Blk.que] c (d.refuse (cmdFor rq op tag ws) { st := .busy }) := by
  have hx : d.refuse (cmdFor rq op tag ws) { st := .busy } = (d.raise 224).complete rq op tag .busy [0xFF00FFFF] := rfl
  have ha : c.awake = true := by
    simp only [Chip.serves, Bool.and_eq_true] at hs
    exact hs.1.1.1.1
  have had : d.awake = true := Chip.awake_of_rd (ht.rd (by decide)) ha
  have hn : (224 : Nat) ∉ tellEvents := by decide
  rw [hx]
  refine ⟨served_says hs ht (.raise d (by decide)) op tag .busy (by simp), ?_, ?_, ?_⟩
  · rw [(Told.complete (l := []) _ _ _ _ _ _ _).quiet 224 (by decide) hn, Chip.rd_raise_cnt had (by decide), ht.rd (by decide)]
  · rw [Chip.cmds_complete, (Noted.raise d 224).cmds, ht.cmds]
  · refine (ht.only _ (by simp)).trans (Only.trans ?_ (.complete _ _ _ _ _ _ _))
    exact (Only.raise d (by decide)).mono (by simp)
/-- R351: a denied command is logged and raises EV226. -/
theorem denied_says (hs : c.serves rq = true) (obj : Nat) : c.served (d.refuse (cmdFor rq op tag ws) { st := .denied, obj := obj }) rq op tag ws.length .denied
    [detail 0xFF 0 obj] ∧
    (d.refuse (cmdFor rq op tag ws) { st := .denied, obj := obj }).rd (R.EVR_CNT 226) = .ofNat 32 (min 0xFFFFFFFF ((c.rd (R.EVR_CNT 226)).toNat + 1)) ∧
    ∀ a, 0x40100000 ≤ a → (d.refuse (cmdFor rq op tag ws) { st := .denied, obj := obj }).rd a = c.rd a := by
  obtain ⟨e, he⟩ : ∃ e, e = d.log 0x8A (payload [(0, 1, rq.code), (1, 1, op), (2, 1, CmdStatus.denied.code), (4, 4, ((cmdFor rq op tag ws).arg 1).toNat)]) := ⟨_, rfl⟩
  have hx : d.refuse (cmdFor rq op tag ws) { st := .denied, obj := obj } = (e.raise 226).complete rq op tag .denied [detail 0xFF 0 obj] := by rw [he]; rfl
  have hl : Told [] d e := he ▸ Told.log d _ _ _
  have hu : Unanswered rq d e := he ▸ Unanswered.log d _ _ _
  have ha : c.awake = true := by
    simp only [Chip.serves, Bool.and_eq_true] at hs
    exact hs.1.1.1.1
  have hae : e.awake = true := Chip.awake_of_rd ((hl.rd (by simp) (by decide) (by decide)).trans (ht.rd (by decide))) ha
  have hn : (226 : Nat) ∉ tellEvents := by decide
  rw [hx]
  refine ⟨served_says hs ht (hu.trans (.raise e (by decide))) op tag .denied (by simp), ?_, fun a h => ?_⟩
  · rw [(Told.complete (l := []) _ _ _ _ _ _ _).quiet 226 (by decide) hn, Chip.rd_raise_cnt hae (by decide), hl.quiet 226 (by decide) hn, ht.rd (by decide)]
  · rw [Chip.rd_complete _ _ _ _ _ _ _ (by omega), (Served.raise e (by decide)).rd (by omega), hl.rd (by simp) (by omega) (by omega), ht.rd (by omega)]
end

end Sys2Proof.Machine
end

section
/-! PROOF. The common checks of a command packet (R334 to R343, R351). -/

namespace Sys2Proof.Machine
open Sys2Proof

section
variable {c d : Chip} {rq : Req} {op tag : Nat} {ws : List Word}

/-- Check 1 passes, and the others decide. -/
theorem commonChecks_header (hl : ws.length ≤ 62) (ho : op < 256) (ht : tag < 128) {lens : Cmd → Bool} (hx : lens (cmdFor rq op tag ws) = true) (l : List Check) :
    firstFail (d.commonChecks (cmdFor rq op tag ws) (cmdHeader op tag ws.length) lens ++ l) =
      firstFail ((d.commonChecks (cmdFor rq op tag ws) (cmdHeader op tag ws.length) lens).tail ++ l) := by
  refine firstFail_cons_pass (x := (_, { st := .badArg, arg := 0 })) ?_
  show (_ || !lens (cmdFor rq op tag ws)) = false
  rw [hx]
  exact (Bool.or_false _).trans (header_ok hl ho ht)
/-- R338: a payload of the wrong length is refused first. -/
theorem commonChecks_length {lens : Cmd → Bool} (hx : lens (cmdFor rq op tag ws) = false) (l : List Check) :
    firstFail (d.commonChecks (cmdFor rq op tag ws) (cmdHeader op tag ws.length) lens ++ l) = some { st := .badArg, arg := 0 } := by
  refine firstFail_cons_fail (x := (_, { st := .badArg, arg := 0 })) ?_
  show (_ || !lens (cmdFor rq op tag ws)) = true
  rw [hx]
  exact Bool.or_true _
end

/-- R334, R338: a tag in flight. -/
theorem siRead_dup {s : State} {rq : Req} {tag : Nat} (htag : tag < 128) (hs : s.chip.serves rq = true)
    (hp : s.chip.headPacket (cmdQueue rq) = [cmdHeader 0x5A tag 0]) (hd : (s.chip.cmds.any fun x => x.rq == rq && x.tag == tag) = true) :
    ∃ d, Taken rq 0 s.chip d ∧ s.chip.command rq 0x5A (len 0) (fun c _ => [c.offLink 1]) Chip.siRead =
      d.refuse (cmdFor rq 0x5A tag []) { st := .badArg, arg := 0, dup := true } := by
  obtain ⟨d, ht, hc⟩ := front_command (ws := []) hs htag hp (by decide) (by decide)
  refine ⟨d, ht, hc _ _ _ _ ?_⟩
  rw [commonChecks_header (by decide) (by decide) htag rfl]
  refine firstFail_cons_fail (x := (_, { st := .badArg, arg := 0, dup := true })) ?_
  show (true && d.cmds.any _) = true
  rw [ht.cmds, Bool.true_and]
  exact hd
/-- R343: the quota is used up. -/
theorem siRead_busy {s : State} {rq : Req} {tag : Nat} (htag : tag < 128) (hs : s.chip.serves rq = true)
    (hp : s.chip.headPacket (cmdQueue rq) = [cmdHeader 0x5A tag 0]) (hd : (s.chip.cmds.any fun x => x.rq == rq && x.tag == tag) = false)
    (hq : s.chip.quotas.getD rq.code 0 ≤ s.chip.ownEntries rq) : ∃ d, Taken rq 0 s.chip d ∧
      s.chip.command rq 0x5A (len 0) (fun c _ => [c.offLink 1]) Chip.siRead = d.refuse (cmdFor rq 0x5A tag []) { st := .busy } := by
  obtain ⟨d, ht, hc⟩ := front_command (ws := []) hs htag hp (by decide) (by decide)
  refine ⟨d, ht, hc _ _ _ _ ?_⟩
  rw [commonChecks_header (by decide) (by decide) htag rfl]
  refine (firstFail_cons_pass (x := (_, { st := .badArg, arg := 0, dup := true })) ?_).trans (firstFail_cons_fail (x := (_, { st := .busy })) ?_)
  · show (true && d.cmds.any _) = false
    rw [ht.cmds, Bool.true_and]
    exact hd
  · show (true && (decide (d.quotas.getD rq.code 0 ≤ d.ownEntries rq) || decide (128 ≤ d.entries))) = true
    rw [ht.quotas, ht.ownEntries, decide_eq_true hq]
    rfl
/-- R335: the range's mask does not admit the requester. -/
theorem siRead_masked {s : State} {rq : Req} {tag : Nat} (htag : tag < 128) (hs : s.chip.serves rq = true)
    (hp : s.chip.headPacket (cmdQueue rq) = [cmdHeader 0x5A tag 0]) (hd : (s.chip.cmds.any fun x => x.rq == rq && x.tag == tag) = false)
    (hq : s.chip.ownEntries rq < s.chip.quotas.getD rq.code 0) (he : s.chip.entries < 128) (hr : s.chip.rangeAdmits rq 0x5A = false) :
    ∃ d, Taken rq 0 s.chip d ∧ s.chip.command rq 0x5A (len 0) (fun c _ => [c.offLink 1]) Chip.siRead = d.refuse (cmdFor rq 0x5A tag []) { st := .notOwner } := by
  obtain ⟨d, ht, hc⟩ := front_command (ws := []) hs htag hp (by decide) (by decide)
  refine ⟨d, ht, hc _ _ _ _ ?_⟩
  rw [commonChecks_header (by decide) (by decide) htag rfl]
  refine (firstFail_cons_pass (x := (_, { st := .badArg, arg := 0, dup := true })) ?_).trans <|
    (firstFail_cons_pass (x := (_, { st := .busy })) ?_).trans (firstFail_cons_fail (x := (_, { st := .notOwner })) ?_)
  · show (true && d.cmds.any _) = false
    rw [ht.cmds, Bool.true_and]
    exact hd
  · show (true && (decide (d.quotas.getD rq.code 0 ≤ d.ownEntries rq) || decide (128 ≤ d.entries))) = false
    rw [ht.quotas, ht.ownEntries, ht.entries, decide_eq_false (Nat.not_le.2 hq), decide_eq_false (Nat.not_le.2 he)]
    rfl
  · show (!d.rangeAdmits rq 0x5A) = true
    rw [ht.rangeAdmits, hr]
    rfl
/-- R338: an opcode that is not defined. -/
theorem badOpcode_says {s : State} {rq : Req} {op tag : Nat} {ws : List Word} (htag : tag < 128) (ho : op < 256) (hd : definedOp op = false) (hl : ws.length ≤ 62)
    (hs : s.chip.serves rq = true) (hp : s.chip.headPacket (cmdQueue rq) = cmdHeader op tag ws.length :: ws) :
    ∃ d, Taken rq ws.length s.chip d ∧ s.chip.badOpcode rq = d.refuse (cmdFor rq op tag ws) { st := .badOpcode, arg := 0 } := by
  have hk : cmdOf rq (cmdHeader op tag ws.length) ws = cmdFor rq op tag ws := cmdOf_cmdHeader rq ws ho htag hl
  refine ⟨s.chip.takePacket (cmdQueue rq), Chip.takePacket_taken hp, ?_⟩
  have hf : firstFail (((s.chip.takePacket (cmdQueue rq)).commonChecks (cmdFor rq op tag ws) (cmdHeader op tag ws.length) fun _ => true).take 1 ++
      [(true, { st := .badOpcode, arg := 0 })]) = some { st := .badOpcode, arg := 0 } := by
    refine (firstFail_cons_pass (x := (_, { st := .badArg, arg := 0 })) ?_).trans (firstFail_cons_fail (x := (true, { st := .badOpcode, arg := 0 })) rfl)
    exact (Bool.or_false _).trans (header_ok hl ho htag)
  have hd' : definedOp (cmdFor rq op tag ws).op = false := hd
  simp only [Chip.badOpcode, hp, hk, hs, hd', hf, Bool.not_true, Bool.or_self, Bool.false_eq_true, if_false]
/-- R351: a configuration for a sealed channel, by its owner. -/
theorem chSetCfg_sealed {s : State} {rq : Req} {tag : Nat} {ch : Fin 192} {x : Word} (h : s.chip.offers rq 0x11 tag [(.ofNat 32 ch : Word), x])
    (hs : isSealed ch = true) (ho : s.chip.ownerOf (s.chip.lead ch) = rq.code) : ∃ c, exec (.chSetCfg rq) s = .next { s with chip := c } ∧
      s.chip.served c rq 0x11 tag 2 .denied [detail 0xFF 0 ch] ∧ c.rd (R.EVR_CNT 226) = .ofNat 32 (min 0xFFFFFFFF ((s.chip.rd (R.EVR_CNT 226)).toNat + 1)) ∧
      c.rd (R.CH_CFG ch) = s.chip.rd (R.CH_CFG ch) := by
  obtain ⟨hsv, d, ht, hc⟩ := offers_command h (by decide) (by simp)
  obtain ⟨hp, hn, hk⟩ := denied_says (op := 0x11) (tag := tag) ht hsv ch
  have hch : (cmdFor rq 0x11 tag [(.ofNat 32 ch : Word), x]).ch = ch := by
    simp only [Cmd.ch, Cmd.bits, Cmd.arg, cmdFor, List.getElem?_cons_zero, Nat.sub_self, Option.getD_some, BitVec.toNat_ofNat, pow_zero, Nat.div_one]
    omega
  have howns : d.owns (cmdFor rq 0x11 tag [(.ofNat 32 ch : Word), x]) ch = true := by
    have hlead : d.lead ch = s.chip.lead ch := by rw [Chip.lead, Chip.lead, Chip.paired, Chip.paired, ht.fget (by simp only [R.PWR_PAIR]; omega)]
    have : d.ownerOf (s.chip.lead ch) = s.chip.ownerOf (s.chip.lead ch) := ht.fget (by simp only [R.CH_OWNER, chBase]; omega) _
    simp [Chip.owns, cmdFor, hlead, this, ho]
  refine ⟨_, State.next_chip ((hc _ _ _ ?_).trans ?_), hp, hn, hk _ (by simp only [R.CH_CFG, chBase]; omega)⟩
  · rfl
  · have hf (l : List Check) : firstFail (d.chanChecks (cmdFor rq 0x11 tag [(.ofNat 32 ch : Word), x]) 0xFF ++ l) = some { st := .denied, obj := ch } := by
      unfold Chip.chanChecks
      rw [hch]
      refine (firstFail_cons_pass (x := notOwner _ _) ?_).trans (firstFail_cons_fail (x := denied _ _) ?_)
      · simp [notOwner, howns]
      · exact hs
    rw [List.append_assoc, List.append_assoc, hf]
    rfl

/-- Settles O36: a packet at the front of a queue that is served is taken, and the first check that fails decides its completion. -/
theorem commandsAreCheckedAndRefused : Obligations.CommandsAreCheckedAndRefused := by
  unfold Obligations.CommandsAreCheckedAndRefused
  refine ⟨fun rq tag ws s htag hws hs hp => ?_, fun rq tag s htag hs hp hd => ?_, fun rq tag s htag hs hp hd hq => ?_,
    fun rq tag s htag hs hp hd hq hr => ?_, fun rq tag op ws s htag hd hl hs hp => ?_, fun rq tag ch x s h hs ho => chSetCfg_sealed h hs ho, fun rq s h => ?_⟩
  · obtain ⟨d, ht, hc⟩ := front_command hs htag hp (by decide) hws.2
    obtain ⟨h₁, h₂, h₃, h₄⟩ := refused_says (op := 0x5A) (tag := tag) ht hs (r := { st := .badArg, arg := 0 }) (by decide)
    refine ⟨_, State.next_chip (hc _ _ _ _ (commonChecks_length ?_ _)), ⟨h₁, h₂⟩, h₃, h₄⟩
    simpa [len, cmdFor] using hws.1
  · obtain ⟨d, ht, hc⟩ := siRead_dup htag hs hp hd
    obtain ⟨-, h₂, h₃, h₄⟩ := refused_says (op := 0x5A) (tag := tag) (ws := []) ht hs (r := { st := .badArg, arg := 0, dup := true }) (by decide)
    exact ⟨_, State.next_chip hc, h₂, h₃, h₄⟩
  · obtain ⟨d, ht, hc⟩ := siRead_busy htag hs hp hd hq
    exact ⟨_, State.next_chip hc, busy_says (ws := []) ht hs⟩
  · obtain ⟨d, ht, hc⟩ := siRead_masked htag hs hp hd hq.1 hq.2 hr
    obtain ⟨h₁, h₂, h₃, h₄⟩ := refused_says (op := 0x5A) (tag := tag) (ws := []) ht hs (r := { st := .notOwner }) (by decide)
    exact ⟨_, State.next_chip hc, ⟨h₁, h₂⟩, h₃, h₄⟩
  · obtain ⟨d, ht, hc⟩ := badOpcode_says htag.1 htag.2 hd hl hs hp
    obtain ⟨h₁, h₂, h₃, h₄⟩ := refused_says (op := op) (tag := tag) ht hs (r := { st := .badOpcode, arg := 0 }) (by decide)
    exact ⟨_, State.next_chip hc, ⟨h₁, h₂⟩, h₃, h₄⟩
  · refine State.next_same ?_
    obtain ⟨hk, -⟩ | ⟨h', ws, r, hp, hs, -, -⟩ | ⟨h', ws, hp, hs, -, -⟩ := s.chip.command_cases rq 0x5A (len 0) (fun c _ => [c.offLink 1]) Chip.siRead
    · exact hk
    all_goals
      rw [hp, hs] at h
      simp at h

end Sys2Proof.Machine
end

section
/-! SUPPORT. The decoder at the registers of a block of like units, and the supervisor's writes there for a command (R345, R352). -/

namespace Sys2Proof.Machine
open Sys2Proof

/-! ### Units of a block -/

/-- The descriptor at offset o of a unit, with its indices there, in a list of registers that m units of s bytes from B on repeat. -/
def unitFind (m s B o : Nat) : List RegDesc → Option (RegDesc × List Nat)
  | [] => none
  | d :: l =>
    match d.reps with
    | (m', s', 0) :: t =>
      if m' = m ∧ s' = s ∧ B ≤ d.base ∧ d.base < B + s then
        if d.base ≤ B + o then
          match repIndex t (B + o - d.base) with
          | some ix => some (d, ix)
          | none => unitFind m s B o l
        else if repIndex t (s + (B + o) - d.base) = none then unitFind m s B o l else none
      else none
    | _ => none

theorem repIndex_unit {m s k r : Nat} (hr : r < s) (t : List (Nat × Nat × Nat)) :
    repIndex ((m, s, 0) :: t) (k * s + r) = if k < m then (repIndex t r).map (k :: ·) else none := by
  have hd : (k * s + r) / s = k := by rw [Nat.add_comm, Nat.add_mul_div_right _ _ (by omega), Nat.div_eq_of_lt hr, Nat.zero_add]
  have hm : (k * s + r) % s = r := by rw [Nat.add_comm, Nat.add_mul_mod_self_right, Nat.mod_eq_of_lt hr]
  rw [repIndex, hd, hm, Nat.zero_add]

theorem findIn_unit {m s B o n : Nat} (hn : n < m) (ho : o < s) {l : List RegDesc} {d : RegDesc} {ix : List Nat} (h : unitFind m s B o l = some (d, ix)) :
    findIn l (B + n * s + o) = some (d, n :: ix) := by
  induction l with
  | nil => cases h
  | cons e l ih =>
    rw [unitFind] at h
    split at h
    next m' s' t he =>
      split at h
      case isFalse => cases h
      case isTrue hc =>
        obtain ⟨rfl, rfl, hb, hb'⟩ := hc
        rw [findIn]
        split at h
        case isTrue hle =>
          have hx : B + n * s' + o - e.base = n * s' + (B + o - e.base) := by omega
          have hr : repIndex e.reps (B + n * s' + o - e.base) = (repIndex t (B + o - e.base)).map (n :: ·) := by
            rw [he, hx, repIndex_unit (by omega), if_pos hn]
          rw [if_pos (by omega), hr]
          cases hix : repIndex t (B + o - e.base) with
          | none =>
            rw [hix] at h
            exact ih h
          | some x =>
            rw [hix] at h
            simp only [Option.some.injEq, Prod.mk.injEq] at h
            obtain ⟨rfl, rfl⟩ := h
            rfl
        case isFalse hle =>
          split at h
          case isFalse => cases h
          case isTrue ht =>
            split
            case isFalse => exact ih h
            case isTrue hba =>
              have hn1 : 1 ≤ n := by
                by_contra hz
                rw [show n = 0 by omega] at hba
                omega
              obtain ⟨k, rfl⟩ : ∃ k, n = k + 1 := ⟨n - 1, by omega⟩
              have hx : B + (k + 1) * s' + o - e.base = k * s' + (s' + (B + o) - e.base) := by
                rw [Nat.add_mul]
                omega
              have hr : repIndex e.reps (B + (k + 1) * s' + o - e.base) = none := by
                rw [he, hx, repIndex_unit (by omega), if_pos (by omega), ht]
                rfl
              rw [hr]
              exact ih h
    next => cases h

/-! ### A controller of the CAN and LIN blocks -/

theorem blockDescs_can {a : Nat} (h : 0x40080000 ≤ a ∧ a < 0x40089000) : blockDescs regBlocks a = canRegs := by
  simp only [regBlocks, blockDescs]
  repeat rw [if_neg (by omega)]
  rw [if_pos (by omega)]
theorem blockDescs_lin {a : Nat} (h : 0x40090000 ≤ a ∧ a < 0x40091000) : blockDescs regBlocks a = linRegs := by
  simp only [regBlocks, blockDescs]
  repeat rw [if_neg (by omega)]
  rw [if_pos (by omega)]
theorem findReg_can {n o : Nat} (hn : n < 9) (ho : o < 0x1000) {d : RegDesc} {ix : List Nat} (h : unitFind 9 0x1000 0x40080000 o canRegs = some (d, ix)) :
    findReg (0x40080000 + n * 0x1000 + o) = some (d, n :: ix) := by
  rw [findReg, blockDescs_can (by omega)]
  exact findIn_unit hn ho h
theorem findReg_lin {n o : Nat} (hn : n < 4) (ho : o < 0x400) {d : RegDesc} {ix : List Nat} (h : unitFind 4 0x400 0x40090000 o linRegs = some (d, ix)) :
    findReg (0x40090000 + n * 0x400 + o) = some (d, n :: ix) := by
  rw [findReg, blockDescs_lin (by omega)]
  exact findIn_unit hn ho h

end Sys2Proof.Machine
end

section
/-! SUPPORT. The registers that a command writes: what they take, and what stays as it was (R42, R337, R345, R352). -/

namespace Sys2Proof.Machine
open Sys2Proof

/-! ### Writes of registers that only store -/

/-- The registers whose writes do more than store a word, and those that may be closed or shared. -/
def busyIds : List RegId := [.CH_CMD, .CH_PWM, .CH_CFG, .CH_OWNER, .CH_DISABLE, .Q_CFG, .Q_PUSH, .Q_PUSH_EOP, .Q_PROD_CTRL, .CAN_MB_SEL, .CAN_MB_W,
  .CAN_NBT, .CAN_DBT, .CAN_TDC, .CAN_MB_RSV, .CDE_WRPTR, .EVR_ROUTE, .PE_STEP, .SI_CFG, .FP_CFG, .PWR_PAIR, .VG_CFG, .CSR_PMPCFG, .SYS_MTIME_LO,
  .SYS_MTIME_HI, .CH_ENERGY_LO, .CH_ENERGY_HI, .PWR_TIME_LO, .PWR_TIME_HI, .SEN_RTC_LO, .SEN_RTC_HI]
/-- The registers whose written word has an effect beyond itself. -/
def actingIds : List RegId := [.SYS_SWRESET, .SYS_WDT_KICK, .SYS_PAD_RELEASE, .SYS_LINK_CTRL, .EVR_SWRAISE, .RET_ACK, .CAN_MODE, .CAN_NBT, .CAN_DBT,
  .CAN_TDC, .CAN_TXREQ, .CAN_TXCANCEL, .LIN_CTRL, .LIN_SCHED_START, .NM_CTRL, .NM_LOCAL, .NM_OFF_CLEAR, .SI_THR, .LS_CTRL, .LED_HR_CTRL, .LED_COMMIT,
  .LF_CFG, .PE_CTRL, .SEN_CANT_HLTH_CTRL, .CH_DISABLE, .PWR_COMMIT, .PWR_STREAM_CTRL, .PWR_TDR_CTRL, .PWR_XC_CTRL, .PWR_FLASH_CFG, .PWR_SEAL_ACK,
  .IS_CTRL, .IS_BUDGET, .VLV_CFG, .VLV_CMD, .VB_CTRL, .FP_CMD, .FLD_SUP_CFG, .ACC_CFG0]

theorem ctrHalf_none {id : RegId} (a : Nat) (hi : id ∉ busyIds) : ctrHalf id a = none := by
  unfold ctrHalf
  split
  case h_9 => rfl
  all_goals exact absurd (by decide) hi
theorem Chip.regWrite_plain (c : Chip) {a : Nat} {D : RegDesc} {ix : List Nat} (x : Word) (hf : findReg a = some (D, ix)) (hi : D.id ∉ busyIds) (ho : D.wo1 = 0) :
    c.regWrite .sup a x = c.plainWrite .sup D ix a x := by
  have hh := ctrHalf_none a hi
  unfold Chip.regWrite
  rw [hf]
  simp only [ne_eq, not_true_eq_false, false_and, and_false, if_false, writerOk_sup, Bool.not_true, Bool.false_eq_true, ho]
  generalize D.id = id at hi hh ⊢
  split
  case h_24 => rw [hh]
  all_goals exact absurd (by decide) hi
theorem Chip.wrote_quiet (c : Chip) (rq : Req) {id : RegId} (ix : List Nat) (old x : Word) (hi : id ∉ actingIds) : c.wrote rq id ix old x = c := by
  unfold Chip.wrote
  split
  case h_40 => rfl
  all_goals exact absurd (by decide) hi

/-! ### What has changed -/

/-- The words of the blocks' clocks. -/
def clockReg (b : Nat) : Prop := 0x40000500 ≤ b ∧ b < 0x40000600
/-- Registers at the addresses A, the blocks' clocks and the links' counts of writes have changed, and nothing else. -/
structure Wrote (A : List Nat) (c d : Chip) : Prop where
  rest : d = { c with regs := d.regs, links := d.links }
  rd : ∀ b, b ∉ A → ¬ clockReg b → d.rd b = c.rd b
  step : ∀ k, d.inStep k = c.inStep k

theorem Chip.inStep_of_links {c d : Chip} (h : d.links = c.links) (k : Nat) : d.inStep k = c.inStep k := by
  rw [Chip.inStep, Chip.inStep, Chip.link, Chip.link, h]

namespace Wrote
variable {A B : List Nat} {c d e : Chip}
theorem refl (c : Chip) : Wrote A c c := ⟨rfl, fun _ _ _ => rfl, fun _ => rfl⟩
theorem trans (h : Wrote A c d) (h' : Wrote B d e) : Wrote (A ++ B) c e := by
  obtain ⟨r, hr⟩ : ∃ r, r = e.regs := ⟨_, rfl⟩
  obtain ⟨l, hl⟩ : ∃ l, l = e.links := ⟨_, rfl⟩
  refine ⟨?_, fun b hb hn => ?_, fun k => (h'.step k).trans (h.step k)⟩
  · have h₁ := h.rest
    have h₂ := h'.rest
    rw [← hr, ← hl] at h₂ ⊢
    rw [h₂, h₁]
  · rw [List.mem_append, not_or] at hb
    exact (h'.rd b hb.2 hn).trans (h.rd b hb.1 hn)
theorem mono (h : Wrote A c d) (hs : A ⊆ B) : Wrote B c d := ⟨h.rest, fun b hb => h.rd b fun hm => hb (hs hm), h.step⟩
theorem of_wr (c : Chip) (a : Nat) (x : Word) : Wrote [a] c (c.wr a x) :=
  ⟨rfl, fun _ hb _ => Chip.rd_wr_ne c x fun he => hb (he ▸ List.mem_singleton_self _), Chip.inStep_of_links rfl⟩
theorem of_fset (c : Chip) (a : Nat) (f : Fld) (v : Nat) : Wrote [a] c (c.fset a f v) := of_wr c a _
theorem field {α : Type} (h : Wrote A c d) (f : Chip → α) : f d = f { c with regs := d.regs, links := d.links } := congrArg f h.rest
theorem cmds (h : Wrote A c d) : d.cmds = c.cmds := h.field (·.cmds)
theorem heldComps (h : Wrote A c d) : d.heldComps = c.heldComps := h.field (·.heldComps)
theorem queues (h : Wrote A c d) : d.queues = c.queues := h.field (·.queues)
theorem chans (h : Wrote A c d) : d.chans = c.chans := h.field (·.chans)
theorem dies (h : Wrote A c d) : d.dies = c.dies := h.field (·.dies)
theorem cans (h : Wrote A c d) : d.cans = c.cans := h.field (·.cans)
theorem lins (h : Wrote A c d) : d.lins = c.lins := h.field (·.lins)
theorem nm (h : Wrote A c d) : d.nm = c.nm := h.field (·.nm)
theorem ctr (h : Wrote A c d) : d.ctr = c.ctr := h.field (·.ctr)
theorem fget (h : Wrote A c d) {b : Nat} (hb : b ∉ A) (hn : ¬ clockReg b) (f : Fld) : d.fget b f = c.fget b f := congrArg f.get (h.rd b hb hn)
theorem flag (h : Wrote A c d) {b : Nat} (hb : b ∉ A) (hn : ¬ clockReg b) (f : Fld) : d.flag b f = c.flag b f := congrArg (· == 1) (h.fget hb hn f)
/-- Between a packet and its answer, where no register of the queues is written. -/
theorem unanswered (h : Wrote A c d) {rq : Req} (hq : ∀ a ∈ A, a < 0x40020000 ∨ 0x40020800 ≤ a) : Unanswered rq c d := by
  refine .of_queues h.queues h.heldComps (h.field (·.ctr64 _)) fun q hlt => h.rd _ (fun hm => ?_) ?_
  · have := hq _ hm
    simp only [R.Q_CFG] at this
    omega
  · simp only [clockReg, R.Q_CFG]
    omega
theorem only (h : Wrote A c d) {l : List (Nat × Nat)} (hs : Blk.sys ∈ l) (hA : ∀ a ∈ A, ∃ y ∈ l, y.1 ≤ a ∧ a < y.2) : Only l c d := by
  refine fun b hb => h.rd b (fun hm => ?_) fun hn => ?_
  · obtain ⟨y, hy, h₁⟩ := hA b hm
    have := hb y hy
    omega
  · have := hb _ hs
    simp only [Blk.sys, clockReg] at this hn
    omega
end Wrote

/-! ### The supervisor's write reaches its die -/

theorem Wrote.touch (c : Chip) (a : Nat) : Wrote [] c (c.touch a) := by
  unfold Chip.touch
  split
  case h_1 b hb =>
    have := blockOf_lt hb
    have h := of_fset c (R.SYS_BLK_POWER b) F.SYS_BLK_POWER_STATE 0
    refine ⟨h.rest, fun x _ hx => h.rd x (fun hm => hx ?_) hx, h.step⟩
    simp only [List.mem_singleton, R.SYS_BLK_POWER] at hm
    simp only [clockReg]
    omega
  case h_2 => exact refl c
theorem Wrote.of_setLink (c : Chip) (d : Nat) (l : Link) (hl : l.rxSeq = (c.link d).rxSeq ∧ l.txSeq = (c.link d).txSeq ∧ l.nack = (c.link d).nack) :
    Wrote [] c (c.setLink d l) := by
  obtain ⟨h₁, h₂, h₃⟩ := hl
  refine ⟨rfl, fun _ _ _ => rfl, fun k => ?_⟩
  rw [Chip.inStep, Chip.inStep]
  by_cases hk : k = d
  case pos => rw [hk, Chip.link_setLink_self, h₁, h₂, h₃]
  case neg => rw [Chip.link_setLink_ne _ _ hk]

/-- A write at the control die. -/
theorem Chip.supWrite_atHome (c : Chip) {a : Nat} (x : Word) (hd : dieOf a = 0) :
    ∃ e, Wrote [] c e ∧ c.supWrite .sup a x = e.regWrite .sup a x :=
  ⟨c.touch a, .touch c a, Chip.supWrite_near c _ x hd⟩
/-- A write that lands on a remote die. -/
theorem Chip.supWrite_lands (c : Chip) {a : Nat} (x : Word) (hd : dieOf a ≠ 0) (ha : isAlias a = false) (hl : c.linkUp (dieOf a) = true)
    (hi : c.inStep (dieOf a) = true) : ∃ e, Wrote [tokenAddr (dieOf a)] c e ∧ c.supWrite .sup a x = e.regWrite .sup a x := by
  obtain ⟨d, hd'⟩ : ∃ d, d = c.setLink (dieOf a) { c.link (dieOf a) with total := (c.link (dieOf a)).total + 1 } := ⟨_, rfl⟩
  have h₁ : Wrote [] c d := hd' ▸ .of_setLink c _ _ ⟨rfl, rfl, rfl⟩
  have h₂ : Wrote [tokenAddr (dieOf a)] d (d.bumpWrap (tokenAddr (dieOf a))) := .of_wr d _ _
  have h₃ : Wrote [] (d.bumpWrap (tokenAddr (dieOf a))) ((d.bumpWrap (tokenAddr (dieOf a))).setLink (dieOf a) { d.link (dieOf a) with landed := (d.link (dieOf a)).landed + 1 }) :=
    .of_setLink _ _ _ ⟨rfl, rfl, rfl⟩
  refine ⟨_, ((h₁.trans h₂).trans h₃).mono (by simp), ?_⟩
  have ht : Machine.target a = a := by simp [Machine.target, ha]
  rw [Chip.supWrite_far _ x hd hl hi, ← hd', Chip.landed, Chip.applyWrite, ht, if_neg (by simp [ha])]

/-! ### A register that stores the word -/

section
variable {c : Chip} {a : Nat} {D : RegDesc} {ix : List Nat} (x : Word) (hf : findReg a = some (D, ix)) (hi : D.id ∉ busyIds) (ho : D.wo1 = 0) (hl : D.rwl = 0)
include hf hi ho hl

theorem Chip.regWrite_stores (hs : c.sealedReg D.id ix = false) :
    c.regWrite .sup a x = (c.wr a (storedWord D ix (c.rd a) x)).wrote .sup D.id ix (c.rd a) x :=
  (c.regWrite_plain x hf hi ho).trans (Chip.plainWrite_open hl hs)
theorem Chip.regWrite_config (hq : D.id ∉ actingIds) (hs : c.sealedReg D.id ix = false) : c.regWrite .sup a x = c.wr a (storedWord D ix (c.rd a) x) :=
  (Chip.regWrite_stores x hf hi ho hl hs).trans (Chip.wrote_quiet _ _ _ _ _ hq)
end

/-! ### Several registers of one die -/

/-- The address is of a register whose written word is stored, and has no effect beyond itself. -/
structure Plain (a : Nat) (D : RegDesc) (ix : List Nat) : Prop where
  found : findReg a = some (D, ix)
  idle : D.id ∉ busyIds
  quiet : D.id ∉ actingIds
  often : D.wo1 = 0
  unlocked : D.rwl = 0
  unsealed : ∀ e : Chip, e.sealedReg D.id ix = false
/-- Where the links count a landed write. -/
def tokens (d : Nat) : List Nat := if d = 0 then [] else [tokenAddr d]
/-- The supervisor's writes reach die d at once. -/
def Chip.reaches (c : Chip) (d : Nat) : Prop := d = 0 ∨ c.linkUp d = true ∧ c.inStep d = true

theorem dieOf_lt (a : Nat) : dieOf a < 8 := by
  unfold dieOf
  split_ifs <;> omega
theorem tokenAddr_ge {d : Nat} (hd : d < 8) (h : d ≠ 0) : 0x40100000 ≤ tokenAddr d ∧ tokenAddr d < 0x40500000 := by
  interval_cases d
  · exact absurd rfl h
  all_goals decide
theorem dieOf_ge {a : Nat} (h : dieOf a ≠ 0) : 0x40100000 ≤ a ∧ a < 0x40500000 := by
  unfold dieOf at h
  split_ifs at h <;> omega
theorem mem_tokens {d t : Nat} (hd : d < 8) (h : t ∈ tokens d) : 0x40100000 ≤ t ∧ t < 0x40500000 := by
  unfold tokens at h
  split at h
  case isTrue => exact absurd h List.not_mem_nil
  case isFalse h₀ => exact List.mem_singleton.1 h ▸ tokenAddr_ge hd h₀

theorem Wrote.reaches {c e : Chip} {A : List Nat} (h : Wrote A c e) {d : Nat} (hd : d < 8) (hA : d ≠ 0 → ∀ a ∈ A, 0x40100000 ≤ a) (hr : c.reaches d) : e.reaches d := by
  obtain h₀ | ⟨hl, hi⟩ := hr
  case inl => exact .inl h₀
  case inr =>
    by_cases h₀ : d = 0
    case pos => exact .inl h₀
    case neg =>
      refine .inr ⟨?_, (h.step d).trans hi⟩
      rw [← hl]
      refine congrArg (d == 0 || ·) (h.flag (fun hm => ?_) ?_ _)
      · have := hA h₀ _ hm
        simp only [R.SYS_LINK_STATUS] at this
        omega
      · simp only [clockReg, R.SYS_LINK_STATUS]
        omega

section
variable {c : Chip} {d : Nat}

/-- The supervisor's write reaches the die of its register. -/
theorem Chip.supWrite_reaches {a : Nat} (x : Word) (hr : c.reaches (dieOf a)) : ∃ e, Wrote (tokens (dieOf a)) c e ∧ c.supWrite .sup a x = e.regWrite .sup a x := by
  by_cases h₀ : dieOf a = 0
  case pos =>
    obtain ⟨e, he, hw⟩ := c.supWrite_atHome x h₀
    exact ⟨e, he.mono (List.nil_subset _), hw⟩
  case neg =>
    obtain h | ⟨hl, hi⟩ := hr
    case inl => exact absurd h h₀
    case inr =>
      have ha : isAlias a = false := by
        have := dieOf_ge h₀
        simp only [isAlias, Bool.and_eq_false_iff, decide_eq_false_iff_not]
        omega
      obtain ⟨e, he, hw⟩ := c.supWrite_lands x h₀ ha hl hi
      refine ⟨e, he.mono ?_, hw⟩
      rw [tokens, if_neg h₀]
      exact List.Subset.refl _
theorem Chip.supWrite_plain {a : Nat} {D : RegDesc} {ix : List Nat} (x : Word) (hp : Plain a D ix) (hr : c.reaches (dieOf a)) (hn : ¬ clockReg a)
    (ht : a ∉ tokens (dieOf a)) : Wrote (a :: tokens (dieOf a)) c (c.supWrite .sup a x) ∧ (c.supWrite .sup a x).rd a = storedWord D ix (c.rd a) x := by
  obtain ⟨e, he, hw⟩ := c.supWrite_reaches x hr
  rw [hw, Chip.regWrite_config x hp.found hp.idle hp.often hp.unlocked hp.quiet (hp.unsealed e)]
  refine ⟨(he.trans (.of_wr e a _)).mono (by simp), ?_⟩
  rw [Chip.rd_wr_self, he.rd a ht hn]

/-- A list of registers of die d, each written once. -/
theorem Chip.supWrites_plain {l : List (Nat × Word)} (hd : d < 8) (hr : c.reaches d) (hn : (l.map (·.1)).Nodup)
    (hl : ∀ p ∈ l, dieOf p.1 = d ∧ ¬ clockReg p.1 ∧ p.1 ∉ tokens d ∧ ∃ D ix, Plain p.1 D ix) :
    Wrote (l.map (·.1) ++ tokens d) c (c.supWrites l) ∧ ∀ p ∈ l, ∀ D ix, Plain p.1 D ix → (c.supWrites l).rd p.1 = storedWord D ix (c.rd p.1) p.2 := by
  induction l generalizing c with
  | nil => exact ⟨.refl c, fun p hp => absurd hp List.not_mem_nil⟩
  | cons p l ih =>
    obtain ⟨rfl, hck, ht, D, ix, hp⟩ := hl p List.mem_cons_self
    obtain ⟨h₁, h₂⟩ := Chip.supWrite_plain p.2 hp hr hck ht
    rw [List.map_cons, List.nodup_cons] at hn
    have hge : dieOf p.1 ≠ 0 → ∀ a ∈ p.1 :: tokens (dieOf p.1), 0x40100000 ≤ a := fun h₀ a ha => by
      obtain rfl | ha := List.mem_cons.1 ha
      · exact (dieOf_ge h₀).1
      · exact (mem_tokens hd ha).1
    obtain ⟨h₃, h₄⟩ := ih (h₁.reaches hd hge hr) hn.2 fun q hq => hl q (List.mem_cons_of_mem _ hq)
    have hw : c.supWrites (p :: l) = (c.supWrite .sup p.1 p.2).supWrites l := rfl
    rw [hw]
    refine ⟨(h₁.trans h₃).mono fun a ha => ?_, fun q hq D' ix' hp' => ?_⟩
    · simp only [List.mem_append, List.mem_cons, List.map_cons] at ha ⊢
      tauto
    · obtain rfl | hq' := List.mem_cons.1 hq
      · obtain ⟨rfl, rfl⟩ : D = D' ∧ ix = ix' := by
          have := hp.found.symm.trans hp'.found
          simpa using this
        rw [h₃.rd _ (fun hm => (List.mem_append.1 hm).elim hn.1 ht) hck, h₂]
      · rw [h₄ q hq' D' ix' hp', h₁.rd _ (fun hm => ?_) (hl q hq).2.1]
        obtain h | h := List.mem_cons.1 hm
        · exact hn.1 (h ▸ List.mem_map_of_mem hq')
        · exact (hl q hq).2.2.1 h
end

end Sys2Proof.Machine
end

section
/-! SUPPORT. A word that takes a register's layout is stored as it is (R42, R337, assumption log 19). -/

namespace Sys2Proof.Machine
open Sys2Proof

/-! ### Fields that are stored clamped, or kept -/

/-- What a register stores in some of its fields: a function of the field as it was and as it is written. -/
def normAll (l : List (Fld × (Nat → Nat → Nat))) (old z : Word) : Word := l.foldr (fun p z => p.1.put z (p.2 (p.1.get old) (p.1.get z))) z

/-- The fields of a list lie in the word and do not overlap. -/
abbrev apartAll (l : List (Fld × (Nat → Nat → Nat))) : Prop :=
  (l.map (·.1)).Pairwise (fun f g => f.lo + f.w ≤ g.lo ∨ g.lo + g.w ≤ f.lo) ∧ ∀ f ∈ l.map (·.1), f.lo + f.w ≤ 32

theorem Fld.put_mod (f : Fld) (x : Word) (v : Nat) : f.put x (v % 2 ^ f.w) = f.put x v := by
  rw [Fld.put, Fld.put, Nat.mod_mod]

theorem get_normAll_ne {l : List (Fld × (Nat → Nat → Nat))} {f : Fld} (hf : f.lo + f.w ≤ 32)
    (h : ∀ g ∈ l.map (·.1), f.lo + f.w ≤ g.lo ∨ g.lo + g.w ≤ f.lo) (old z : Word) : f.get (normAll l old z) = f.get z := by
  induction l with
  | nil => rfl
  | cons p l ih =>
    rw [List.map_cons, List.forall_mem_cons] at h
    exact (Fld.get_put_ne p.1 f _ _ h.1 hf).trans (ih h.2)
/-- A word that is stored as it is over 0 holds in each field a value that is. -/
theorem normAll_fixed {l : List (Fld × (Nat → Nat → Nat))} (ha : apartAll l) {x : Word} (h : normAll l 0 x = x) :
    ∀ p ∈ l, p.2 0 (p.1.get x) % 2 ^ p.1.w = p.1.get x := by
  induction l with
  | nil => exact fun p hp => absurd hp List.not_mem_nil
  | cons p l ih =>
    obtain ⟨hpw, hin⟩ := ha
    rw [List.map_cons, List.pairwise_cons] at hpw
    rw [List.map_cons, List.forall_mem_cons] at hin
    have hz : p.1.get (normAll l 0 x) = p.1.get x := get_normAll_ne hin.1 hpw.1 0 x
    have h₀ : p.1.get 0 = 0 := by simp [Fld.get]
    have hx : p.1.put (normAll l 0 x) (p.2 0 (p.1.get x)) = x := by
      rw [← hz, ← h₀]
      exact h
    have hv : p.2 0 (p.1.get x) % 2 ^ p.1.w = p.1.get x := by
      rw [← Fld.get_put p.1 (normAll l 0 x) _ hin.1, hx]
    have hn : normAll l 0 x = x := by
      rw [← Fld.put_mod, hv, ← hz, Fld.put_get] at hx
      exact hx
    exact List.forall_mem_cons.2 ⟨hv, ih ⟨hpw.2, hin.2⟩ hn⟩
/-- A word all of whose fields are stored as they are is stored as it is. -/
theorem normAll_eq {l : List (Fld × (Nat → Nat → Nat))} {old y : Word} (h : ∀ p ∈ l, p.2 (p.1.get old) (p.1.get y) % 2 ^ p.1.w = p.1.get y) :
    normAll l old y = y := by
  induction l with
  | nil => rfl
  | cons p l ih =>
    have ht := ih fun q hq => h q (List.mem_cons_of_mem _ hq)
    show p.1.put (normAll l old y) (p.2 (p.1.get old) (p.1.get (normAll l old y))) = y
    rw [ht, ← Fld.put_mod, h p List.mem_cons_self, Fld.put_get]

def clampTo (lo hi : Nat) (_ v : Nat) : Nat := Nat.max lo (Nat.min hi v)
def someOne (_ v : Nat) : Nat := if v = 0 then 1 else v
def keepOn (p : Nat → Bool) (o v : Nat) : Nat := if p v then o else v

theorem Fld.clamp_eq (f : Fld) (lo hi : Nat) (old x : Word) : f.clamp lo hi x = f.put x (clampTo lo hi (f.get old) (f.get x)) := rfl
theorem Fld.some1_eq (f : Fld) (old x : Word) : f.some1 x = f.put x (someOne (f.get old) (f.get x)) := by
  unfold Fld.some1 someOne
  split
  · rfl
  · rw [Fld.put_get]
theorem Fld.keep_eq (f : Fld) (p : Nat → Bool) (old x : Word) : f.keep p old x = f.put x (keepOn p (f.get old) (f.get x)) := by
  unfold Fld.keep keepOn
  split
  · rfl
  · rw [Fld.put_get]

/-- What is stored as it is over 0 is so over every value. -/
def Steady (φ : Nat → Nat → Nat) : Prop := ∀ w o v, φ 0 v % 2 ^ w = v → φ o v % 2 ^ w = v
theorem steady_clampTo (lo hi : Nat) : Steady (clampTo lo hi) := fun _ _ _ h => h
theorem steady_someOne : Steady someOne := fun _ _ _ h => h
theorem steady_keepOn {p : Nat → Bool} (hp : p 0 = false) : Steady (keepOn p) := fun w o v h => by
  unfold keepOn at h ⊢
  cases hv : p v with
  | false => rwa [hv] at h
  | true =>
    rw [hv, if_pos rfl, Nat.zero_mod] at h
    rw [← h, hp] at hv
    cases hv

/-! ### A word of a register's layout -/

theorem layoutOk_norm {id : RegId} {ix : List Nat} {x : Word} (h : layoutOk id ix x = true) : regNorm id ix 0 x = x := by
  unfold layoutOk at h
  split at h
  · simp only [Bool.and_eq_true, beq_iff_eq] at h
    exact h.2
  · cases h

/-- The written bits of a merged word are the written ones. -/
theorem merge_and (D : RegDesc) (old x : Word) : (mergeWord D false false old x).1 &&& openMask D false false = x &&& openMask D false false := by
  simp only [mergeWord]
  ext i hi
  simp only [BitVec.getElem_and, BitVec.getElem_or, BitVec.getElem_not]
  cases (openMask D false false)[i] <;> simp

section
variable {c : Chip} {a : Nat} {D : RegDesc} {ix : List Nat} {old x : Word}

/-- A stored word that the register takes as it is. -/
theorem Chip.took_stored (hr : c.rd a = storedWord D ix old x) (hm : openMask D false false = writable D.id)
    (hn : regNorm D.id ix old (mergeWord D false false old x).1 = (mergeWord D false false old x).1) : c.took D.id a x := by
  rw [Chip.took, hr, storedWord, hn, ← hm]
  exact merge_and D old x
theorem Chip.took_norm (l : List (Fld × (Nat → Nat → Nat))) (hr : c.rd a = storedWord D ix old x) (hm : openMask D false false = writable D.id)
    (hN : ∀ o z, regNorm D.id ix o z = normAll l o z) (hl : apartAll l) (hs : ∀ p ∈ l, Steady p.2)
    (ho : ∀ p ∈ l, ∀ i < p.1.w, (openMask D false false).getLsbD (p.1.lo + i) = true) (hx : regNorm D.id ix 0 x = x) : c.took D.id a x := by
  refine Chip.took_stored hr hm ((hN _ _).trans (normAll_eq fun p hp => hs p hp _ _ _ ?_))
  rw [Fld.get_mergeWord p.1 D false false old x (ho p hp)]
  exact normAll_fixed hl ((hN 0 x).symm.trans hx) p hp
theorem Chip.took_layout (l : List (Fld × (Nat → Nat → Nat))) (hr : c.rd a = storedWord D ix old x) (hm : openMask D false false = writable D.id)
    (hN : ∀ o z, regNorm D.id ix o z = normAll l o z) (hl : apartAll l) (hs : ∀ p ∈ l, Steady p.2)
    (ho : ∀ p ∈ l, ∀ i < p.1.w, (openMask D false false).getLsbD (p.1.lo + i) = true) (hx : layoutOk D.id ix x = true) : c.took D.id a x :=
  Chip.took_norm l hr hm hN hl hs ho (layoutOk_norm hx)
end

end Sys2Proof.Machine
end

section
/-! SUPPORT. What a controller's transmissions leave of its setup, and of a command that is not answered yet (R345, R365 to R371). -/

namespace Sys2Proof.Machine
open Sys2Proof

/-! ### A changed buffer -/

theorem Unanswered.mbFill (rq : Req) (c : Chip) (n b : Nat) (ws : List Word) : Unanswered rq c (c.mbFill n b ws) := by
  obtain ⟨m, hm⟩ := c.mbFill_rest n b ws
  rw [hm]
  exact ⟨rfl, rfl, rfl, rfl, rfl⟩

/-- Buffers and what stands in them may have changed: the controllers' setup and the commands in flight have not, nor what an answer rests on. -/
structure Sends (rq : Req) (c d : Chip) : Prop where
  rd : ∀ a, 0x40080000 ≤ a → a % 0x1000 < 0x30 → d.rd a = c.rd a
  cans : d.cans = c.cans
  cmds : d.cmds = c.cmds
  ans : Unanswered rq c d

namespace Sends
variable {rq : Req} {c d e : Chip}
theorem refl (c : Chip) : Sends rq c c := ⟨fun _ _ _ => rfl, rfl, rfl, .refl c⟩
theorem trans (h : Sends rq c d) (h' : Sends rq d e) : Sends rq c e :=
  ⟨fun a h₁ h₂ => (h'.rd a h₁ h₂).trans (h.rd a h₁ h₂), h'.cans.trans h.cans, h'.cmds.trans h.cmds, h.ans.trans h'.ans⟩
theorem ite {p : Prop} [Decidable p] (h : Sends rq c d) (h' : Sends rq c e) : Sends rq c (if p then d else e) := by
  split
  · exact h
  · exact h'
theorem wr (c : Chip) {a : Nat} (x : Word) (h : 0x40080000 ≤ a ∧ 0x30 ≤ a % 0x1000) : Sends rq c (c.wr a x) := by
  refine ⟨fun b h₁ h₂ => Chip.rd_wr_ne c x ?_, rfl, rfl, .wr c x (by omega)⟩
  rintro rfl
  omega
theorem fset (c : Chip) {a : Nat} (f : Fld) (v : Nat) (h : 0x40080000 ≤ a ∧ 0x30 ≤ a % 0x1000) : Sends rq c (c.fset a f v) := wr c _ h
theorem raise (c : Chip) {k : Nat} (hk : k < 256) : Sends rq c (c.raise k) :=
  ⟨fun a h _ => (Served.raise c hk).rd (by omega), (Noted.raise c k).field (·.cans), (Noted.raise c k).cmds, .raise c hk⟩
theorem setAcc (c : Chip) (x : AccX) : Sends rq c { c with acc := x } := ⟨fun _ _ _ => rfl, rfl, rfl, ⟨rfl, rfl, rfl, rfl, rfl⟩⟩
theorem setNm (c : Chip) (x : NmX) : Sends rq c { c with nm := x } := ⟨fun _ _ _ => rfl, rfl, rfl, ⟨rfl, rfl, rfl, rfl, rfl⟩⟩
theorem mbFill (c : Chip) (n b : Nat) (ws : List Word) : Sends rq c (c.mbFill n b ws) := by
  obtain ⟨m, hm⟩ := c.mbFill_rest n b ws
  rw [hm]
  exact ⟨fun _ _ _ => rfl, rfl, rfl, ⟨rfl, rfl, rfl, rfl, rfl⟩⟩
theorem bufferStat {b : Nat} (n : Nat) (hb : b < 64) : 0x40080000 ≤ R.CAN_MB_STAT n b ∧ 0x30 ≤ R.CAN_MB_STAT n b % 0x1000 := by
  simp only [R.CAN_MB_STAT]
  omega
theorem setMbPend (c : Chip) (n : Nat) {b : Nat} (hb : b < 64) (v : Bool) : Sends rq c (c.setMbPend n b v) := by
  refine (fset c _ _ (bufferStat n hb)).trans (fset _ _ _ ?_)
  simp only [mbBit, R.CAN_TXPEND]
  split <;> omega
theorem txRequest (c : Chip) (n : Nat) {b : Nat} (hb : b < 64) : Sends rq c (c.txRequest n b) :=
  ite (((setMbPend c n hb true).trans (fset _ _ _ (bufferStat n hb))).trans (fset _ _ _ (bufferStat n hb))) (refl c)
theorem nextCount (c : Chip) : Sends rq c c.nextCount.2 := by
  unfold Chip.nextCount
  dsimp only
  split
  · exact setAcc c _
  · exact setAcc c _
theorem immoSend (c : Chip) (release : Bool) : Sends rq c (c.immoSend release) := by
  unfold Chip.immoSend
  extract_lets n id
  exact (((nextCount c).trans (setAcc _ _)).trans (mbFill _ _ _ _)).trans (txRequest _ _ (by decide))
theorem nmSendOn (c : Chip) (n : Nat) : Sends rq c (c.nmSendOn n) := by
  unfold Chip.nmSendOn
  refine ite ?_ (refl c)
  extract_lets ident xtd w0 b1 d e
  have he : Sends rq c e := ite (refl c) ((mbFill c n 63 _).trans (txRequest _ _ (by decide)))
  exact he.trans (setNm _ _)
theorem nmSendAll (c : Chip) (l : List Nat) : Sends rq c (c.nmSendAll l) := by
  unfold Chip.nmSendAll
  extract_lets k e
  have he : Sends rq c e := List.foldlRecOn k _ (motive := fun (d : Chip) => Sends rq c d) (refl c) fun d hd n _ => hd.trans (nmSendOn d n)
  exact ite (refl c) (he.trans (setNm _ _))
theorem nmFirst (c : Chip) : Sends rq c c.nmFirst := nmSendAll c _

theorem fget (h : Sends rq c d) {a : Nat} (h₁ : 0x40080000 ≤ a) (h₂ : a % 0x1000 < 0x30) (f : Fld) : d.fget a f = c.fget a f := congrArg f.get (h.rd a h₁ h₂)
theorem canEn (h : Sends rq c d) (n : Nat) : d.canEn n = c.canEn n :=
  congrArg (· == 1) (h.fget (by simp only [R.CAN_MODE]; omega) (by simp only [R.CAN_MODE]; omega) _)
theorem canErr (h : Sends rq c d) (n : Nat) : d.canErr n = c.canErr n :=
  h.fget (by simp only [R.CAN_STATUS]; omega) (by simp only [R.CAN_STATUS]; omega) _
theorem can (h : Sends rq c d) (n : Nat) : d.can n = c.can n := by rw [Chip.can, h.cans]; rfl

/-- A pending buffer of a controller that is not enabled ends, where no command of transmission is in flight. -/
theorem txOutcome (c : Chip) {n b : Nat} (hn : n < 9) (hb : b < 64) (o : TxOutcome) (hk : ∀ k ∈ c.cmds, k.op ≠ 0x68) (he : c.canEn n = false) :
    Sends rq c (c.txOutcome n b o) := by
  obtain ⟨d, hd⟩ : ∃ d, d = ((c.setMbPend n b false).fset (R.CAN_MB_STAT n b) F.CAN_MB_STAT_OUTCOME o.code).raise (117 + n) := ⟨_, rfl⟩
  have h : Sends rq c d := hd ▸ (((setMbPend c n hb false).trans (fset _ _ _ (bufferStat n hb))).trans (raise _ (by omega)))
  have hf (st : CmdStatus) (res : List Word) : d.finish (onObj 0x68 (canTxObj n b)) st res = d := by
    refine Chip.finish_none d _ st res fun k hm => ?_
    simp only [onObj, Bool.and_eq_false_iff, beq_eq_false_iff_ne]
    exact .inl (hk k (h.cmds ▸ hm))
  unfold Chip.txOutcome
  rw [← hd]
  simp only [hf, ite_self]
  have hlast {e : Chip} (hi : Sends rq d e) : Sends rq c (if e.canEn n = true then e.canTxNext n else e) := by
    rw [if_neg (by rw [(h.trans hi).canEn, he]; simp)]
    exact h.trans hi
  cases d.acc.frameWait with
  | none => exact hlast (refl d)
  | some r => exact hlast (ite (immoSend d r) (refl d))
theorem endPending (c : Chip) {n : Nat} (hn : n < 9) (o : TxOutcome) (keep : Option Nat) (hk : ∀ k ∈ c.cmds, k.op ≠ 0x68) (he : c.canEn n = false) :
    Sends rq c (c.endPending n o keep) := by
  refine List.foldlRecOn _ _ (motive := fun (d : Chip) => Sends rq c d) (refl c) fun d hd b hm => hd.trans ?_
  have hb : b < 64 := List.mem_range.1 (List.mem_filter.1 (List.mem_filter.1 hm).1).1
  exact txOutcome d hn hb o (fun k hk' => hk k (hd.cmds ▸ hk')) ((hd.canEn n).trans he)
end Sends

end Sys2Proof.Machine
end

section
/-! PROOF. The commands of CAN and LIN (spec/11, 0x68 to 0x70). -/

namespace Sys2Proof.Machine
open Sys2Proof

/-! ### CAN_TX -/

theorem word_toNat {v : Nat} (h : v < 2 ^ 32) : (.ofNat 32 v : Word).toNat = v := by
  rw [BitVec.toNat_ofNat, Nat.mod_eq_of_lt h]

theorem canTxLen_word (rq : Req) (tag : Nat) (n : Fin 8) (x d : Word) : canTxLen (cmdFor rq 0x68 tag [(.ofNat 32 (n + 262144) : Word), x, d]) = true := by
  have h : frameBytes ((canTxWords [(.ofNat 32 (n + 262144) : Word), x, d]).getD 1 0) = 4 := by
    show frameBytes _ = 4
    simp only [canTxWords, List.getD_cons_zero, List.getD_cons_succ]
    revert n
    decide
  simp only [canTxLen, cmdFor, h]
  rfl
theorem canTx_mask (n : Fin 8) : (.ofNat 32 (n + 262144) : Word).toNat &&& 0xF0F0F = (.ofNat 32 (n + 262144) : Word).toNat := by
  revert n
  decide
theorem ident_mask (i : BitVec 29) : (.ofNat 32 i.toNat : Word).toNat &&& 0x1FFFFFFF = (.ofNat 32 i.toNat : Word).toNat := by
  have h := i.isLt
  rw [word_toNat (by omega), show 0x1FFFFFFF = 2 ^ 29 - 1 from rfl, Nat.and_two_pow_sub_one_eq_mod, Nat.mod_eq_of_lt h]

/-- The one command that waits for a buffer takes the free reserved one. -/
theorem Chip.canTxNext_takes {c : Chip} {n b : Nat} {k : Cmd} (hx : c.flag R.SYS_CLK_STATUS F.SYS_CLK_STATUS_XTAL40_OK = true)
    (hb : ((List.range 64).find? fun m => c.mbReserved n m && !c.mbPend n m) = some b) (hk : c.cmds = [k]) (ho : k.op = 0x68) (hj : k.obj = canTxWait n) :
    c.canTxNext n = (({ c with cmds := [{ k with obj := canTxObj n b }] } : Chip).mbFill n b (canTxWords k.w)).txRequest n b := by
  have hf : c.cmds.find? (onObj 0x68 (canTxWait n)) = some k := by simp [hk, onObj, ho, hj]
  have hm : (c.cmds.map fun (x : Cmd) => if x.rq = k.rq ∧ x.tag = k.tag ∧ x.op = 0x68 then { x with obj := canTxObj n b } else x) = [{ k with obj := canTxObj n b }] := by
    simp [hk, ho]
  rw [Chip.canTxNext, hx]
  simp only [hb, hf, hm, Bool.not_true, Bool.false_eq_true, if_false]
/-- A request that is taken. -/
theorem Chip.txRequest_says {c : Chip} {n b : Nat} (hb : b < 64) (hk : c.mbKindOf n b = 2) (hx : c.flag R.SYS_CLK_STATUS F.SYS_CLK_STATUS_XTAL40_OK = true)
    (hp : c.mbPend n b = false) : (c.txRequest n b).mbPend n b = true ∧ (∀ w, (c.txRequest n b).mbWord n b w = c.mbWord n b w) := by
  rw [Chip.txRequest, if_pos ⟨hk, hx, by simp [hp]⟩]
  have hw : Noted c (((c.setMbPend n b true).fset (R.CAN_MB_STAT n b) F.CAN_MB_STAT_ATTEMPTS 0).fset (R.CAN_MB_STAT n b) F.CAN_MB_STAT_CANCEL_LATE 0) :=
    (((Noted.fbit c _ _ _).trans (.fbit _ _ _ _)).trans (.fset _ _ _ _)).trans (.fset _ _ _ _)
  refine ⟨?_, fun w => hw.mbWord n b w⟩
  have h₁ : (c.setMbPend n b true).fget (R.CAN_MB_STAT n b) F.CAN_MB_STAT_TX_PEND = 1 := by
    rw [Chip.setMbPend, Chip.fbit, Chip.fget_fset_ne _ _ _ _ (mbBit_ne hb).1, Chip.fbit, Chip.fget_fset_self _ _ _ _ (by decide)]
    rfl
  rw [Chip.mbPend, Chip.flag, Chip.fget_fset_field _ _ _ _ _ (by decide) (by decide), Chip.fget_fset_field _ _ _ _ _ (by decide) (by decide), h₁]
  rfl

theorem canTxWords_head (w x y : Word) (i : BitVec 29) (h : x = .ofNat 32 i.toNat) : mbKind.get ((canTxWords [w, x, y]).getD 0 0) = 2 ∧
    mbId.get ((canTxWords [w, x, y]).getD 0 0) = i.toNat ∧ (canTxWords [w, x, y]).getD 3 0 = y ∧ (canTxWords [w, x, y]).length = 4 := by
  have hi : Fld.get ⟨0, 29⟩ x = i.toNat := by
    have := i.isLt
    rw [h, Fld.get, word_toNat (by omega)]
    simp only [pow_zero, Nat.div_one]
    exact Nat.mod_eq_of_lt this
  refine ⟨?_, ?_, rfl, rfl⟩
  · simp only [canTxWords, List.getD_cons_zero]
    rw [Fld.get_put_ne mbId mbKind _ _ (by decide) (by decide), Fld.get_put_ne mbXtd mbKind _ _ (by decide) (by decide), Fld.of, Fld.get_put mbKind _ _ (by decide)]
    rfl
  · simp only [canTxWords, List.getD_cons_zero, List.getD_cons_succ]
    rw [hi]
    exact mbId_get_put _ i

theorem canTx_waits {s : State} {rq : Req} {tag : Nat} {n : Fin 8} {b : Fin 64} {ident : BitVec 29} {x : Word}
    (h : s.chip.offers rq 0x68 tag [(.ofNat 32 (n + 262144) : Word), (.ofNat 32 ident.toNat : Word), x])
    (he : s.chip.canEn n = true) (hx : s.chip.flag R.SYS_CLK_STATUS F.SYS_CLK_STATUS_XTAL40_OK = true)
    (hb : ((List.range 64).find? fun m => s.chip.mbReserved n m && !s.chip.mbPend n m) = some b.val) (hk : s.chip.cmds = []) :
    ∃ c', exec (.canTx rq) s = .next { s with chip := c' } ∧
      s.chip.waits c' rq 0x68 tag [(.ofNat 32 (n + 262144) : Word), (.ofNat 32 ident.toNat : Word), x] (canTxObj n b) false ∧ c'.mbPend n b = true ∧
      mbId.get (c'.mbWord n b 0) = ident.toNat ∧ c'.mbWord n b 3 = x ∧ Only [Blk.sys, Blk.evr, Blk.que, Blk.can] s.chip c' := by
  obtain ⟨hs, d, ht, hc⟩ := offers_accepts h (by decide) (by simp)
  have hn : (cmdFor rq 0x68 tag [(.ofNat 32 (n + 262144) : Word), (.ofNat 32 ident.toNat : Word), x]).can = n := by
    show (.ofNat 32 (n + 262144) : Word).toNat / 2 ^ 0 % 2 ^ 4 = n
    rw [word_toNat (by omega)]
    omega
  have hx' : d.flag R.SYS_CLK_STATUS F.SYS_CLK_STATUS_XTAL40_OK = true := (ht.flag (by decide) _).trans hx
  have he' : d.canEn n = true := (ht.flag (by simp only [R.CAN_MODE]; omega) _).trans he
  have hp' (m : Nat) : d.mbPend n m = s.chip.mbPend n m := Chip.mbPend_of_rd (ht.rd (by simp only [R.CAN_MB_STAT]; omega))
  have hb' : ((List.range 64).find? fun m => d.mbReserved n m && !d.mbPend n m) = some b.val := by
    rw [← hb]
    refine congrArg₂ _ (funext fun m => ?_) rfl
    rw [hp', Chip.mbReserved, Chip.mbReserved, ht.rd (by simp only [R.CAN_MB_RSV]; omega)]
  have hfree : s.chip.mbPend n b = false := by
    have := List.find?_some hb
    simp only [Bool.and_eq_true, Bool.not_eq_true'] at this
    exact this.2
  obtain ⟨k, hkd⟩ : ∃ k, k = cmdFor rq 0x68 tag [(.ofNat 32 (n + 262144) : Word), (.ofNat 32 ident.toNat : Word), x] := ⟨_, rfl⟩
  rw [← hkd] at hc hn
  obtain ⟨e, hed⟩ : ∃ e : Chip, e = { d with cmds := [{ k with obj := canTxObj n b }] } := ⟨_, rfl⟩
  have hrun : Chip.canTx d k = (e.mbFill n b (canTxWords k.w)).txRequest n b := by
    have hck : (d.addCmd k (canTxWait n)).cmds = [{ k with obj := canTxWait n, started := false }] := by
      show d.cmds ++ _ = _
      rw [ht.cmds, hk]
      rfl
    rw [Chip.canTx, hn, Chip.canTxNext_takes (c := d.addCmd k (canTxWait n)) hx' hb' hck (by rw [hkd]; rfl) rfl, hed, hkd]
    rfl
  have hlen : canTxLen k = true := hkd ▸ canTxLen_word rq tag n _ x
  have hchecks : ∀ y ∈ [denied (k.can == 8) 8] ++ k.canOk 0xF0F0F ++ [k.only 2 0x1FFFFFFF, disabledIf (!d.canEn k.can) k.can,
      refusedBy 2 (!d.flag R.SYS_CLK_STATUS F.SYS_CLK_STATUS_XTAL40_OK) k.can], y.1 = false := by
    have h₁ : k.arg 1 = .ofNat 32 (n + 262144) := by rw [hkd]; rfl
    have h₂ : k.arg 2 = .ofNat 32 ident.toNat := by rw [hkd]; rfl
    have hlt : decide (7 < n.val) = false := decide_eq_false (by omega)
    have hne : (n.val == 8) = false := beq_eq_false_iff_ne.2 (by omega)
    simp only [Cmd.canOk, Cmd.only, badArg, denied, disabledIf, refusedBy, hn, h₁, h₂, canTx_mask, ident_mask, he', hx', hlt, hne, bne_self_eq_false, Bool.not_true,
      List.cons_append, List.nil_append, List.forall_mem_cons, true_and, List.not_mem_nil, false_imp_iff, implies_true]
  obtain ⟨h₁, h₂, h₃, h₄⟩ := canTxWords_head (.ofNat 32 (n + 262144)) (.ofNat 32 ident.toNat) x ident rfl
  have hw : canTxWords k.w = canTxWords [(.ofNat 32 (n + 262144) : Word), (.ofNat 32 ident.toNat : Word), x] := by rw [hkd]; rfl
  rw [← hw] at h₁ h₂ h₃ h₄
  have hfill {j : Nat} (hj : j < 4) : (e.mbFill n b (canTxWords k.w)).mbWord n b j = (canTxWords k.w).getD j 0 := Chip.mbWord_mbFill e (by omega)
  have hrd (a : Nat) : (e.mbFill n b (canTxWords k.w)).rd a = d.rd a := by
    obtain ⟨m, hm⟩ := e.mbFill_rest n b (canTxWords k.w)
    rw [hm, hed]
    rfl
  obtain ⟨hpend, hword⟩ := Chip.txRequest_says (c := e.mbFill n b (canTxWords k.w)) b.2 (by rw [Chip.mbKindOf, hfill (by omega), h₁])
    (by rw [Chip.flag, Chip.fget, hrd]; exact hx') (by rw [Chip.mbPend_of_rd (hrd _), hp', hfree])
  have hsend : Sends rq e ((e.mbFill n b (canTxWords k.w)).txRequest n b) := (Sends.mbFill e n b _).trans (.txRequest _ n b.2)
  have hun : Unanswered rq d e := hed ▸ ⟨rfl, rfl, rfl, rfl, rfl⟩
  refine ⟨_, State.next_chip ((hc _ _ _ hlen hchecks).trans hrun), ⟨?_, ?_⟩, hpend, ?_, ?_, ?_⟩
  · rw [Chip.popped, (hun.trans hsend.ans).drain]
    exact ht.drain
  · rw [hsend.cmds, hk, hed, hkd]
    rfl
  · rw [hword, hfill (by omega), h₂]
  · rw [hword, hfill (by omega), h₃]
  · refine (ht.only _ (by simp)).trans ?_
    have h₅ : Only [Blk.can] (e.mbFill n b (canTxWords k.w)) ((e.mbFill n b (canTxWords k.w)).txRequest n b) := .txRequest _ (by omega) b.2
    exact fun a ha => (h₅ a fun y hy => ha y (by simp_all)).trans (hrd a)

end Sys2Proof.Machine
end

section
/-! PROOF. The commands that set a CAN controller up, enable and disable it (spec/11, 0x69 to 0x6B). -/

namespace Sys2Proof.Machine
open Sys2Proof

/-! ### The registers -/

theorem findReg_canAt {n o a : Nat} (hn : n < 9) (ho : o < 0x1000) (ha : a = 0x40080000 + n * 0x1000 + o) {d : RegDesc} {ix : List Nat}
    (h : unitFind 9 0x1000 0x40080000 o canRegs = some (d, ix)) : findReg a = some (d, n :: ix) := ha ▸ findReg_can hn ho h

/-- The descriptors of the timing registers, of CAN_MODE and of the filters. -/
def nbtDesc : RegDesc := ⟨.CAN_NBT, 0x40080004, [(9, 0x1000, 0)], 0xFFFF7F7F, 0, 0, 0, 0, 0x13E0F0F⟩
def dbtDesc : RegDesc := ⟨.CAN_DBT, 0x40080008, [(9, 0x1000, 0)], 0x3F3F1F1F, 0, 0, 0, 0, 0x10E0303⟩
def tdcDesc : RegDesc := ⟨.CAN_TDC, 0x4008000C, [(9, 0x1000, 0)], 0x807F7F00, 0, 0, 0, 0, 0⟩
def modeDesc : RegDesc := ⟨.CAN_MODE, 0x40080000, [(9, 0x1000, 0)], 0xF8000000, 0, 0, 0x4000000, 0, 0x50000000⟩
def fltIdDesc : RegDesc := ⟨.CAN_FLT_ID, 0x40080200, [(9, 0x1000, 0), (64, 0x8, 0)], 0xBFFFFFFF, 0, 0, 0, 0, 0⟩
def fltMaskDesc : RegDesc := ⟨.CAN_FLT_MASK, 0x40080204, [(9, 0x1000, 0), (64, 0x8, 0)], 0x1FFFFFFF, 0, 0, 0, 0, 0⟩

section
variable {n : Nat} (hn : n < 9)
include hn
theorem findReg_nbt : findReg (R.CAN_NBT n) = some (nbtDesc, [n]) := findReg_canAt hn (o := 4) (by decide) (by simp only [R.CAN_NBT]; omega) (by decide)
theorem findReg_dbt : findReg (R.CAN_DBT n) = some (dbtDesc, [n]) := findReg_canAt hn (o := 8) (by decide) (by simp only [R.CAN_DBT]; omega) (by decide)
theorem findReg_tdc : findReg (R.CAN_TDC n) = some (tdcDesc, [n]) := findReg_canAt hn (o := 12) (by decide) (by simp only [R.CAN_TDC]; omega) (by decide)
theorem findReg_mode : findReg (R.CAN_MODE n) = some (modeDesc, [n]) := findReg_canAt hn (o := 0) (by decide) (by simp only [R.CAN_MODE]; omega) (by decide)
theorem findReg_fltId (k : Fin 64) : findReg (R.CAN_FLT_ID n k) = some (fltIdDesc, [n, k.val]) :=
  findReg_canAt hn (o := 0x200 + k * 8) (by omega) (by simp only [R.CAN_FLT_ID]; omega) (by revert k; decide)
theorem findReg_fltMask (k : Fin 64) : findReg (R.CAN_FLT_MASK n k) = some (fltMaskDesc, [n, k.val]) :=
  findReg_canAt hn (o := 0x204 + k * 8) (by omega) (by simp only [R.CAN_FLT_MASK]; omega) (by revert k; decide)
theorem dieOf_canAt {a o : Nat} (ho : o < 0x1000) (ha : a = 0x40080000 + n * 0x1000 + o) : dieOf a = 0 ∧ ¬ clockReg a := by
  refine ⟨?_, by simp only [clockReg]; omega⟩
  unfold dieOf
  repeat rw [if_neg (by omega)]
end

/-! ### Timing -/

/-- A timing register takes the word while the controller is not enabled; CFG_BAD may clear. -/
theorem Chip.supWrite_timing {c : Chip} {n a : Nat} {D : RegDesc} (x : Word) (hd : dieOf a = 0 ∧ ¬ clockReg a)
    (hs : a ≠ R.CAN_STATUS n) (hD : D.rwl = 0) (hr : ∀ e : Chip, e.canEn n = false → e.regWrite .sup a x = e.plainWrite .sup D [n] a x)
    (hw : ∀ (e : Chip) (old : Word), e.wrote .sup D.id [n] old x = e.canTimingDone n) (hq : ∀ e : Chip, e.sealedReg D.id [n] = false) (he : c.canEn n = false) :
    Wrote [a, R.CAN_STATUS n] c (c.supWrite .sup a x) ∧ (c.supWrite .sup a x).rd a = storedWord D [n] (c.rd a) x := by
  obtain ⟨e, h, hx⟩ := c.supWrite_atHome x hd.1
  have he' : e.canEn n = false := (h.flag List.not_mem_nil (by simp only [clockReg, R.CAN_MODE]; omega) _).trans he
  rw [hx, hr e he', Chip.plainWrite_open hD (hq e), hw, h.rd a List.not_mem_nil hd.2]
  obtain ⟨f, hf⟩ : ∃ f, f = e.wr a (storedWord D [n] (c.rd a) x) := ⟨_, rfl⟩
  have h₁ : Wrote [a] c f := hf ▸ (h.trans (.of_wr e a _)).mono (by simp)
  have h₂ : f.rd a = storedWord D [n] (c.rd a) x := by rw [hf, Chip.rd_wr_self]
  rw [← hf, Chip.canTimingDone]
  split
  · exact ⟨h₁.trans (.of_fset f _ _ _), (Chip.rd_fset_ne f _ _ hs).trans h₂⟩
  · exact ⟨h₁.mono (by simp), h₂⟩

section
variable {c : Chip} {n : Nat} (hn : n < 9) (he : c.canEn n = false) (x : Word)
include hn he
theorem Chip.supWrite_nbt : Wrote [R.CAN_NBT n, R.CAN_STATUS n] c (c.supWrite .sup (R.CAN_NBT n) x) ∧
    (c.supWrite .sup (R.CAN_NBT n) x).rd (R.CAN_NBT n) = storedWord nbtDesc [n] (c.rd (R.CAN_NBT n)) x :=
  Chip.supWrite_timing x (dieOf_canAt hn (o := 4) (by decide) (by simp only [R.CAN_NBT]; omega)) (by simp only [R.CAN_NBT, R.CAN_STATUS]; omega) rfl
    (fun e h => by simp [Chip.regWrite, findReg_nbt hn, writerOk_sup, nbtDesc, Chip.canTimingLocked, h]) (fun _ _ => rfl) (fun _ => rfl) he
theorem Chip.supWrite_dbt : Wrote [R.CAN_DBT n, R.CAN_STATUS n] c (c.supWrite .sup (R.CAN_DBT n) x) ∧
    (c.supWrite .sup (R.CAN_DBT n) x).rd (R.CAN_DBT n) = storedWord dbtDesc [n] (c.rd (R.CAN_DBT n)) x :=
  Chip.supWrite_timing x (dieOf_canAt hn (o := 8) (by decide) (by simp only [R.CAN_DBT]; omega)) (by simp only [R.CAN_DBT, R.CAN_STATUS]; omega) rfl
    (fun e h => by simp [Chip.regWrite, findReg_dbt hn, writerOk_sup, dbtDesc, Chip.canTimingLocked, h]) (fun _ _ => rfl) (fun _ => rfl) he
theorem Chip.supWrite_tdc : Wrote [R.CAN_TDC n, R.CAN_STATUS n] c (c.supWrite .sup (R.CAN_TDC n) x) ∧
    (c.supWrite .sup (R.CAN_TDC n) x).rd (R.CAN_TDC n) = storedWord tdcDesc [n] (c.rd (R.CAN_TDC n)) x :=
  Chip.supWrite_timing x (dieOf_canAt hn (o := 12) (by decide) (by simp only [R.CAN_TDC]; omega)) (by simp only [R.CAN_TDC, R.CAN_STATUS]; omega) rfl
    (fun e h => by simp [Chip.regWrite, findReg_tdc hn, writerOk_sup, tdcDesc, Chip.canTimingLocked, h]) (fun _ _ => rfl) (fun _ => rfl) he
end

/-! ### CAN_MODE -/

/-- The word is stored, and then acts. -/
theorem Chip.supWrite_mode (c : Chip) {n : Nat} (hn : n < 9) (x : Word) : ∃ f, Wrote [R.CAN_MODE n] c f ∧
    f.rd (R.CAN_MODE n) = storedWord modeDesc [n] (c.rd (R.CAN_MODE n)) x ∧ c.supWrite .sup (R.CAN_MODE n) x = (f.canMode n (c.rd (R.CAN_MODE n)) x).nmFirst := by
  obtain ⟨hd, hck⟩ := dieOf_canAt hn (a := R.CAN_MODE n) (o := 0) (by decide) (by simp only [R.CAN_MODE]; omega)
  obtain ⟨e, h, hx⟩ := c.supWrite_atHome x hd
  have hr := h.rd (R.CAN_MODE n) List.not_mem_nil hck
  refine ⟨e.wr (R.CAN_MODE n) (storedWord modeDesc [n] (c.rd (R.CAN_MODE n)) x), (h.trans (.of_wr e _ _)).mono (by simp), Chip.rd_wr_self _ _ _, ?_⟩
  rw [hx, Chip.regWrite_stores x (findReg_mode hn) (by decide) rfl rfl rfl, hr]
  rfl

theorem storedMode (l : List Nat) (old x : Word) : F.CAN_MODE_EN.get (storedWord modeDesc l old x) = F.CAN_MODE_EN.get x :=
  Fld.get_mergeWord F.CAN_MODE_EN modeDesc false false old x (by decide)
theorem get_en_put (w : Word) (v : Nat) (h : v < 2) : F.CAN_MODE_EN.get (F.CAN_MODE_EN.put w v) = v := by
  rw [Fld.get_put _ _ _ (by decide)]
  exact Nat.mod_eq_of_lt h

/-- A write that neither enables nor disables. -/
theorem Chip.canMode_idle {c : Chip} {rq : Req} {n : Nat} {old x : Word} (h₀ : F.CAN_MODE_EN.get x = 0) (h₁ : F.CAN_MODE_EN.get old ≠ 1) :
    (∀ a, (c.canMode n old x).rd a = c.rd a) ∧ Unanswered rq c (c.canMode n old x) := by
  have h₂ : ¬ (F.CAN_MODE_EN.get x = 1 ∧ F.CAN_MODE_EN.get old = 0) := by omega
  have h₃ : ¬ (F.CAN_MODE_EN.get x = 0 ∧ F.CAN_MODE_EN.get old = 1) := fun h => h₁ h.2
  unfold Chip.canMode
  rw [if_neg h₂, if_neg h₃]
  dsimp only
  split
  · exact ⟨fun _ => rfl, ⟨rfl, rfl, rfl, rfl, rfl⟩⟩
  · exact ⟨fun _ => rfl, .refl c⟩

/-! ### CAN_CFG -/

theorem served_after {c d e : Chip} {rq : Req} {op tag n : Nat} {st : CmdStatus} {res : List Word} (h : c.served d rq op tag n st res) (hu : Unanswered rq d e) :
    c.served e rq op tag n st res := ⟨hu.drain.trans h.1, (congrArg Queue.fill hu.comp).trans h.2⟩

theorem controller_mask (n : Fin 8) : (.ofNat 32 n : Word).toNat &&& 0xF = (.ofNat 32 n : Word).toNat := by
  revert n
  decide
theorem Cmd.can_of {k : Cmd} {n v : Nat} (h : k.arg 1 = .ofNat 32 v) (hv : v < 2 ^ 32) (hm : v % 16 = n) : k.can = n := by
  show (k.arg 1).toNat / 2 ^ 0 % 2 ^ 4 = n
  rw [h, word_toNat hv]
  omega

/-- What the four writes leave. -/
theorem Chip.canCfg_writes {d : Chip} {rq : Req} {n : Fin 8} {x y z m : Word} (he : d.canEn n = false) (hx : layoutOk .CAN_NBT [n.val] x = true)
    (h₀ : F.CAN_MODE_EN.get m = 0) :
    ∃ e, d.supWrites [(R.CAN_NBT n, x), (R.CAN_DBT n, y), (R.CAN_TDC n, z), (R.CAN_MODE n, m)] = e ∧ Unanswered rq d e ∧ e.took .CAN_NBT (R.CAN_NBT n) x ∧
      e.took .CAN_DBT (R.CAN_DBT n) y ∧ e.took .CAN_MODE (R.CAN_MODE n) m ∧ e.fget (R.CAN_MODE n) F.CAN_MODE_EN = 0 := by
  have h9 : n.val < 9 := by omega
  have hmode : ¬ clockReg (R.CAN_MODE n) := by simp only [clockReg, R.CAN_MODE]; omega
  obtain ⟨h₁, r₁⟩ := Chip.supWrite_nbt h9 he x
  obtain ⟨d₁, hd₁⟩ : ∃ d₁, d₁ = d.supWrite .sup (R.CAN_NBT n) x := ⟨_, rfl⟩
  rw [← hd₁] at h₁ r₁
  have e₁ : d₁.canEn n = false := (h₁.flag (by simp [R.CAN_MODE, R.CAN_NBT, R.CAN_STATUS]) hmode _).trans he
  obtain ⟨h₂, r₂⟩ := Chip.supWrite_dbt h9 e₁ y
  obtain ⟨d₂, hd₂⟩ : ∃ d₂, d₂ = d₁.supWrite .sup (R.CAN_DBT n) y := ⟨_, rfl⟩
  rw [← hd₂] at h₂ r₂
  have e₂ : d₂.canEn n = false := (h₂.flag (by simp [R.CAN_MODE, R.CAN_DBT, R.CAN_STATUS]) hmode _).trans e₁
  obtain ⟨h₃, -⟩ := Chip.supWrite_tdc h9 e₂ z
  obtain ⟨d₃, hd₃⟩ : ∃ d₃, d₃ = d₂.supWrite .sup (R.CAN_TDC n) z := ⟨_, rfl⟩
  rw [← hd₃] at h₃
  have e₃ : d₃.canEn n = false := (h₃.flag (by simp [R.CAN_MODE, R.CAN_TDC, R.CAN_STATUS]) hmode _).trans e₂
  obtain ⟨f, h₄, r₄, hw⟩ := d₃.supWrite_mode h9 m
  obtain ⟨g₁, g₂⟩ := Chip.canMode_idle (c := f) (rq := rq) h₀ (old := d₃.rd (R.CAN_MODE n)) (by simpa [Chip.canEn, Chip.flag, Chip.fget] using e₃)
  have hsend := Sends.nmFirst (rq := rq) (f.canMode n (d₃.rd (R.CAN_MODE n)) m)
  have hck₁ : ¬ clockReg (R.CAN_NBT n) := by simp only [clockReg, R.CAN_NBT]; omega
  have hck₂ : ¬ clockReg (R.CAN_DBT n) := by simp only [clockReg, R.CAN_DBT]; omega
  have hkeep (a : Nat) (ha : 0x40080000 ≤ a ∧ a % 0x1000 < 0x30) (hne : a ≠ R.CAN_MODE n) : (d₃.supWrite .sup (R.CAN_MODE n) m).rd a = d₃.rd a := by
    rw [hw, hsend.rd a ha.1 ha.2, g₁, h₄.rd a (by simpa using hne) (by simp only [clockReg]; omega)]
  have hnbt : (d₃.supWrite .sup (R.CAN_MODE n) m).rd (R.CAN_NBT n) = storedWord nbtDesc [n.val] (d.rd (R.CAN_NBT n)) x := by
    rw [hkeep _ (by simp only [R.CAN_NBT]; omega) (by simp only [R.CAN_NBT, R.CAN_MODE]; omega),
      h₃.rd _ (by simp [R.CAN_NBT, R.CAN_TDC, R.CAN_STATUS]) hck₁, h₂.rd _ (by simp [R.CAN_NBT, R.CAN_DBT, R.CAN_STATUS]) hck₁, r₁]
  have hdbt : (d₃.supWrite .sup (R.CAN_MODE n) m).rd (R.CAN_DBT n) = storedWord dbtDesc [n.val] (d₁.rd (R.CAN_DBT n)) y := by
    rw [hkeep _ (by simp only [R.CAN_DBT]; omega) (by simp only [R.CAN_DBT, R.CAN_MODE]; omega),
      h₃.rd _ (by simp [R.CAN_DBT, R.CAN_TDC, R.CAN_STATUS]) hck₂, r₂]
  have hmd : (d₃.supWrite .sup (R.CAN_MODE n) m).rd (R.CAN_MODE n) = storedWord modeDesc [n.val] (d₃.rd (R.CAN_MODE n)) m := by
    rw [hw, hsend.rd _ (by simp only [R.CAN_MODE]; omega) (by simp only [R.CAN_MODE]; omega), g₁, r₄]
  refine ⟨d₃.supWrite .sup (R.CAN_MODE n) m, by rw [hd₃, hd₂, hd₁]; rfl, ?_, ?_, ?_, ?_, ?_⟩
  · have hq (a b : Nat) (ha : 0x40080000 ≤ a) (hb : 0x40080000 ≤ b) : ∀ x ∈ [a, b], x < 0x40020000 ∨ 0x40020800 ≤ x := by
      simp only [List.forall_mem_cons, List.not_mem_nil, false_imp_iff, implies_true, and_true]
      omega
    have hst : 0x40080000 ≤ R.CAN_STATUS n := by simp only [R.CAN_STATUS]; omega
    have u₁ : Unanswered rq d d₁ := h₁.unanswered (hq _ _ (by simp only [R.CAN_NBT]; omega) hst)
    have u₂ : Unanswered rq d₁ d₂ := h₂.unanswered (hq _ _ (by simp only [R.CAN_DBT]; omega) hst)
    have u₃ : Unanswered rq d₂ d₃ := h₃.unanswered (hq _ _ (by simp only [R.CAN_TDC]; omega) hst)
    have u₄ : Unanswered rq d₃ f := h₄.unanswered (by simp only [List.forall_mem_cons, R.CAN_MODE]; simp; omega)
    rw [hw]
    exact (((u₁.trans u₂).trans u₃).trans u₄).trans (g₂.trans hsend.ans)
  · exact Chip.took_layout (D := nbtDesc) [(F.CAN_NBT_TSEG1, someOne)] hnbt (by decide) (fun o z => Fld.some1_eq _ o z) (by simp [apartAll, F.CAN_NBT_TSEG1])
      (by simp [steady_someOne]) (by decide) hx
  · exact Chip.took_stored (D := dbtDesc) hdbt (by decide) rfl
  · exact Chip.took_stored (D := modeDesc) hmd (by decide) rfl
  · rw [Chip.fget, hmd, storedMode, h₀]

theorem canCfg_serves {s : State} {rq : Req} {tag : Nat} {n : Fin 8} {x y z m : Word}
    (h : s.chip.offers rq 0x69 tag [(.ofNat 32 n : Word), x, y, z, m]) (he : s.chip.canEn n = false) (hx : layoutOk .CAN_NBT [n.val] x = true)
    (hy : layoutOk .CAN_DBT [n.val] y = true) (hz : layoutOk .CAN_TDC [n.val] z = true) (hm : layoutOk .CAN_MODE [n.val] m = true) (h₀ : F.CAN_MODE_EN.get m = 0) :
    ∃ c', exec (.canCfg rq) s = .next { s with chip := c' } ∧ s.chip.served c' rq 0x69 tag 5 .ok [] ∧ c'.took .CAN_NBT (R.CAN_NBT n) x ∧
      c'.took .CAN_DBT (R.CAN_DBT n) y ∧ c'.took .CAN_MODE (R.CAN_MODE n) m := by
  obtain ⟨hs, d, ht, hc⟩ := offers_accepts h (by decide) (by simp)
  obtain ⟨k, hkd⟩ : ∃ k, k = cmdFor rq 0x69 tag [(.ofNat 32 n : Word), x, y, z, m] := ⟨_, rfl⟩
  rw [← hkd] at hc
  have h9 : n.val < 9 := by omega
  have hn : k.can = n := Cmd.can_of (by rw [hkd]; rfl) (by omega) (by omega)
  have he' : d.canEn n = false := (ht.flag (by simp only [R.CAN_MODE]; omega) _).trans he
  have hrun : s.chip.command rq 0x69 (len 5) (fun c k => k.canOk 0xF ++ [k.lay 2 .CAN_NBT [k.can], k.lay 3 .CAN_DBT [k.can], k.lay 4 .CAN_TDC [k.can],
      k.lay 5 .CAN_MODE [k.can], refusedBy 7 (c.canEn k.can) k.can]) Chip.canCfg = d.canCfg k := by
    refine hc _ _ _ (by rw [hkd]; rfl) ?_
    have h₁ : k.arg 1 = .ofNat 32 n := by rw [hkd]; rfl
    have h₂ : k.arg 2 = x := by rw [hkd]; rfl
    have h₃ : k.arg 3 = y := by rw [hkd]; rfl
    have h₄ : k.arg 4 = z := by rw [hkd]; rfl
    have h₅ : k.arg 5 = m := by rw [hkd]; rfl
    have hlt : decide (7 < n.val) = false := decide_eq_false (by omega)
    simp only [Cmd.canOk, Cmd.only, Cmd.lay, badArg, refusedBy, hn, h₁, h₂, h₃, h₄, h₅, controller_mask, he', hx, hy, hz, hm, hlt, bne_self_eq_false, Bool.not_true,
      List.cons_append, List.nil_append, List.forall_mem_cons, true_and, List.not_mem_nil, false_imp_iff, implies_true]
  obtain ⟨e, hw, hu, t₁, t₂, t₃, hen⟩ := Chip.canCfg_writes (rq := rq) (y := y) (z := z) he' hx h₀
  have hk : d.canCfg k = e.complete rq 0x69 tag .ok [] := by
    obtain ⟨a₂, a₃, a₄, a₅⟩ : k.arg 2 = x ∧ k.arg 3 = y ∧ k.arg 4 = z ∧ k.arg 5 = m := by
      rw [hkd]
      exact ⟨rfl, rfl, rfl, rfl⟩
    unfold Chip.canCfg
    dsimp only
    rw [hn, a₂, a₃, a₄, a₅, hw, if_pos (hen.trans h₀.symm), hkd]
    rfl
  have hrd {a : Nat} (ha : 0x40080000 ≤ a) : (e.complete rq 0x69 tag .ok []).rd a = e.rd a := Chip.rd_complete _ _ _ _ _ _ _ (by omega)
  refine ⟨_, State.next_chip (hrun.trans hk), served_says hs ht hu 0x69 tag .ok (by simp), ?_, ?_, ?_⟩
  · rw [Chip.took, hrd (by simp only [R.CAN_NBT]; omega)]
    exact t₁
  · rw [Chip.took, hrd (by simp only [R.CAN_DBT]; omega)]
    exact t₂
  · rw [Chip.took, hrd (by simp only [R.CAN_MODE]; omega)]
    exact t₃

end Sys2Proof.Machine
end

section
/-! PROOF. CAN_ENABLE (R356, R359, R371). -/

namespace Sys2Proof.Machine
open Sys2Proof

theorem Chip.canErr_setErr (c : Chip) {n st : Nat} (hn : n < 9) (hs : st < 4) : (c.setErr n st).canErr n = st := by
  unfold Chip.setErr
  split
  case isTrue h => exact h
  case isFalse =>
    have hk : errEvent n < 256 := by
      unfold errEvent
      split <;> omega
    rw [Chip.canErr, Chip.fget, (Served.raise _ hk).rd (by simp only [R.CAN_STATUS]; omega)]
    exact (Chip.fget_fset_self _ _ _ _ (by decide)).trans (Nat.mod_eq_of_lt hs)

/-- The status and the error counters of a controller may have changed: the rest of its setup and the commands in flight have not. -/
structure Restates (rq : Req) (n : Nat) (c d : Chip) : Prop where
  rd : ∀ a, 0x40080000 ≤ a → a ≠ R.CAN_STATUS n → a ≠ R.CAN_ERR n → a % 0x1000 < 0x30 → d.rd a = c.rd a
  cmds : d.cmds = c.cmds
  ans : Unanswered rq c d

namespace Restates
variable {rq : Req} {n : Nat} {c d e : Chip}
theorem refl (c : Chip) : Restates rq n c c := ⟨fun _ _ _ _ _ => rfl, rfl, .refl c⟩
theorem trans (h : Restates rq n c d) (h' : Restates rq n d e) : Restates rq n c e :=
  ⟨fun a h₁ h₂ h₃ h₄ => (h'.rd a h₁ h₂ h₃ h₄).trans (h.rd a h₁ h₂ h₃ h₄), h'.cmds.trans h.cmds, h.ans.trans h'.ans⟩
theorem of_sends (h : Sends rq c d) : Restates rq n c d := ⟨fun a h₁ _ _ h₂ => h.rd a h₁ h₂, h.cmds, h.ans⟩
theorem status (c : Chip) (f : Fld) (v : Nat) : Restates rq n c (c.fset (R.CAN_STATUS n) f v) :=
  ⟨fun _ _ h _ _ => Chip.rd_fset_ne c f v h, rfl, .fset c f v (by simp only [R.CAN_STATUS]; omega)⟩
theorem showErr (c : Chip) : Restates rq n c (c.showErr n) := by
  have h (c : Chip) (f : Fld) (v : Nat) : Restates rq n c (c.fset (R.CAN_ERR n) f v) :=
    ⟨fun _ _ _ h _ => Chip.rd_fset_ne c f v h, rfl, .fset c f v (by simp only [R.CAN_ERR]; omega)⟩
  exact (h c _ _).trans (h _ _ _)
theorem setCan (c : Chip) (x : CanX) : Restates rq n c (c.setCan n x) := ⟨fun _ _ _ _ _ => rfl, rfl, ⟨rfl, rfl, rfl, rfl, rfl⟩⟩
theorem setErr (c : Chip) (hn : n < 9) (st : Nat) : Restates rq n c (c.setErr n st) := by
  unfold Chip.setErr
  split
  · exact refl c
  · have hk : errEvent n < 256 := by
      unfold errEvent
      split <;> omega
    exact (status c _ _).trans (of_sends (.raise _ hk))
theorem mode (h : Restates rq n c d) : d.rd (R.CAN_MODE n) = c.rd (R.CAN_MODE n) := by
  refine h.rd _ ?_ ?_ ?_ ?_
  all_goals
    simp only [R.CAN_MODE, R.CAN_STATUS, R.CAN_ERR]
    omega
end Restates

/-- A write of CAN_MODE at a controller that is not in bus-off after it. -/
theorem Chip.canMode_of {c e : Chip} {n : Nat} {old x : Word} (he : (if F.CAN_MODE_EN.get x = 1 ∧ F.CAN_MODE_EN.get old = 0 then c.canEnable n
    else if F.CAN_MODE_EN.get x = 0 ∧ F.CAN_MODE_EN.get old = 1 then c.canDisable n else c) = e) (h : e.canErr n ≠ 2) : c.canMode n old x = e := by
  unfold Chip.canMode
  rw [he]
  exact if_neg fun hr => h hr.2

/-! ### Enabling -/

/-- With no command in flight a controller starts with its counters at zero. -/
theorem Chip.canEnable_says {c : Chip} {rq : Req} {n : Nat} (hn : n < 9) (ht : c.canTimingOk n = true) (hk : c.cmds = []) :
    (c.canEnable n).canErr n = 0 ∧ Restates rq n c (c.canEnable n) := by
  obtain ⟨d, hd⟩ : ∃ d, d = (c.fset (R.CAN_STATUS n) F.CAN_STATUS_CFG_BAD 0).setCan n
    { c.can n with tec := 0, rec_ := 0, stopping := false, recovering := false } := ⟨_, rfl⟩
  have hq : c.canEnable n = (((d.showErr n).setErr n 0).canTxNext n).finish (onObj 0x6A n) .aborted [] := by
    rw [Chip.canEnable, if_pos ht, hd]
  rw [hq]
  have h₁ : Restates rq n c d := hd ▸ (Restates.status c _ _).trans (.setCan _ _)
  have h₂ : Restates rq n d ((d.showErr n).setErr n 0) := (Restates.showErr d).trans (.setErr _ hn 0)
  have h₃ := Chip.canErr_setErr (d.showErr n) (st := 0) hn (by decide)
  generalize (d.showErr n).setErr n 0 = e at h₂ h₃ ⊢
  have hke : e.cmds = [] := (h₂.cmds.trans h₁.cmds).trans hk
  have hx : e.canTxNext n = e := by
    unfold Chip.canTxNext
    rw [hke]
    split
    · rfl
    · split <;> rfl
  rw [hx, Chip.finish_nil _ _ _ _ hke]
  exact ⟨h₃, h₁.trans h₂⟩

theorem canTimingOk_congr {c d : Chip} {n : Nat} (h₁ : d.rd (R.CAN_NBT n) = c.rd (R.CAN_NBT n)) (h₂ : d.rd (R.CAN_DBT n) = c.rd (R.CAN_DBT n)) :
    d.canTimingOk n = c.canTimingOk n := by
  rw [Chip.canTimingOk, Chip.canTimingOk, h₁, h₂]

/-- EN written 1 while it reads 0. -/
theorem Chip.supWrite_enables {c : Chip} {rq : Req} {n : Nat} (hn : n < 9) (he : c.canEn n = false) (ht : c.canTimingOk n = true) (hk : c.cmds = []) :
    ∃ e, c.supWrite .sup (R.CAN_MODE n) (F.CAN_MODE_EN.put (c.rd (R.CAN_MODE n)) 1) = e ∧ Unanswered rq c e ∧ e.canEn n = true ∧ e.canErr n = 0 := by
  obtain ⟨x, hx⟩ : ∃ x, x = F.CAN_MODE_EN.put (c.rd (R.CAN_MODE n)) 1 := ⟨_, rfl⟩
  have hx₁ : F.CAN_MODE_EN.get x = 1 := hx ▸ get_en_put _ 1 (by decide)
  have hold : F.CAN_MODE_EN.get (c.rd (R.CAN_MODE n)) = 0 := by
    have hlt := Fld.get_lt F.CAN_MODE_EN (c.rd (R.CAN_MODE n))
    have hne : F.CAN_MODE_EN.get (c.rd (R.CAN_MODE n)) ≠ 1 := by simpa [Chip.canEn, Chip.flag, Chip.fget] using he
    rw [show F.CAN_MODE_EN.w = 1 from rfl] at hlt
    omega
  obtain ⟨f, h₁, h₂, h₃⟩ := c.supWrite_mode hn x
  have hrd (a : Nat) (ha : 0x40080000 ≤ a) (hne : a ≠ R.CAN_MODE n) : f.rd a = c.rd a := h₁.rd a (by simpa using hne) (by simp only [clockReg]; omega)
  have hft : f.canTimingOk n = true := by
    rw [← ht]
    refine canTimingOk_congr (hrd _ ?_ ?_) (hrd _ ?_ ?_)
    all_goals
      simp only [R.CAN_NBT, R.CAN_DBT, R.CAN_MODE]
      omega
  obtain ⟨g₁, g₂⟩ := Chip.canEnable_says (rq := rq) hn hft (h₁.cmds.trans hk)
  have hm : f.canMode n (c.rd (R.CAN_MODE n)) x = f.canEnable n := Chip.canMode_of (if_pos ⟨hx₁, hold⟩) (by rw [g₁]; omega)
  have hs := Sends.nmFirst (rq := rq) (f.canEnable n)
  rw [← hx, h₃, hm]
  refine ⟨_, rfl, (h₁.unanswered (by simp only [List.forall_mem_cons, R.CAN_MODE]; simp; omega)).trans (g₂.ans.trans hs.ans), ?_, (hs.canErr n).trans g₁⟩
  rw [hs.canEn, Chip.canEn, Chip.flag, Chip.fget, g₂.mode, h₂, storedMode, hx₁]
  rfl

theorem enable_mask (n : Fin 8) : (.ofNat 32 (n + 256) : Word).toNat &&& 0x10F = (.ofNat 32 (n + 256) : Word).toNat := by
  revert n
  decide

theorem canEnable_serves {s : State} {rq : Req} {tag : Nat} {n : Fin 8} (h : s.chip.offers rq 0x6A tag [(.ofNat 32 (n + 256) : Word)])
    (he : s.chip.canEn n = false) (htm : s.chip.canTimingOk n = true) (hk : s.chip.cmds = []) :
    ∃ c', exec (.canEnable rq false) s = .next { s with chip := c' } ∧ s.chip.served c' rq 0x6A tag 1 .ok [] ∧ c'.canEn n = true ∧ c'.canErr n = 0 := by
  obtain ⟨hs, d, ht, hc⟩ := offers_accepts h (by decide) (by simp)
  obtain ⟨k, hkd⟩ : ∃ k, k = cmdFor rq 0x6A tag [(.ofNat 32 (n + 256) : Word)] := ⟨_, rfl⟩
  rw [← hkd] at hc
  have hn : k.can = n := Cmd.can_of (by rw [hkd]; rfl) (by omega) (by omega)
  have h₁ : k.arg 1 = .ofNat 32 (n + 256) := by rw [hkd]; rfl
  have hbit : k.bits 1 8 1 = 1 := by
    rw [Cmd.bits, h₁, word_toNat (by omega)]
    omega
  have he' : d.canEn n = false := (ht.flag (by simp only [R.CAN_MODE]; omega) _).trans he
  have htm' : d.canTimingOk n = true := (canTimingOk_congr (ht.rd (by simp only [R.CAN_NBT]; omega)) (ht.rd (by simp only [R.CAN_DBT]; omega))).trans htm
  have hk' : d.cmds = [] := ht.cmds.trans hk
  have hlt : decide (7 < n.val) = false := decide_eq_false (by omega)
  obtain ⟨e, hw, hu, h₂, h₃⟩ := Chip.supWrite_enables (rq := rq) (by omega : n.val < 9) he' htm' hk'
  have hrun : d.canEnableCmd false k = e.complete rq 0x6A tag .ok [] := by
    unfold Chip.canEnableCmd
    dsimp only
    rw [if_pos hbit, hn, hw, if_pos h₂, hkd]
    rfl
  have hrd {a : Nat} (ha : 0x40080000 ≤ a) : (e.complete rq 0x6A tag .ok []).rd a = e.rd a := Chip.rd_complete _ _ _ _ _ _ _ (by omega)
  refine ⟨_, State.next_chip ((hc _ _ _ (by rw [hkd]; rfl) ?_).trans hrun), served_says hs ht hu 0x6A tag .ok (by simp), ?_, ?_⟩
  · simp only [Cmd.canOk, Cmd.only, badArg, refusedBy, hn, h₁, enable_mask, hk', hlt, bne_self_eq_false, List.any_nil, Bool.and_false,
      List.cons_append, List.nil_append, List.forall_mem_cons, true_and, List.not_mem_nil, false_imp_iff, implies_true]
  · exact (congrArg (F.CAN_MODE_EN.get · == 1) (hrd (by simp only [R.CAN_MODE]; omega))).trans h₂
  · exact (congrArg F.CAN_STATUS_ERR_STATE.get (hrd (by simp only [R.CAN_STATUS]; omega))).trans h₃

end Sys2Proof.Machine
end

section
/-! PROOF. A disable of a controller with no frame on the bus (R350, R371). -/

namespace Sys2Proof.Machine
open Sys2Proof

/-- The table is empty. -/
def Chip.noCmds (c : Chip) : Chip := { c with cmds := [] }
theorem Unanswered.noCmds (rq : Req) (c : Chip) : Unanswered rq c c.noCmds := ⟨rfl, rfl, rfl, rfl, rfl⟩
/-- The one command in flight ends OK. -/
theorem Chip.finish_only {c : Chip} {k : Cmd} {p : Cmd → Bool} (res : List Word) (hk : c.cmds = [k]) (hp : p k = true) :
    c.finish p .ok res = c.noCmds.complete k.rq k.op k.tag .ok res (k.flags .ok) := by
  have h₁ : c.cmds.filter p = [k] := by simp [hk, hp]
  have h₂ : (c.cmds.filter fun k => !p k) = [] := by simp [hk, hp]
  simp [Chip.finish, h₁, h₂, Chip.noCmds]

theorem Chip.canStop_eq (c : Chip) (n : Nat) : ∃ g, c.canStop n = g.finish (onObj 0x6A n) .ok [] ∧ ∀ {rq : Req}, n < 9 → g.canErr n = 3 ∧ Restates rq n c g := by
  refine ⟨_, rfl, fun hn => ⟨Chip.canErr_setErr _ hn (by decide), ?_⟩⟩
  exact ((((Restates.setCan c _).trans (.status _ _ _)).trans (.status _ _ _)).trans (.status _ _ _)).trans (.setErr _ hn 3)

/-- No frame is on the bus, and no command transmits: the controller stops, and the command that waits for it ends. -/
theorem Chip.canDisable_says {c : Chip} {rq : Req} {n : Nat} (hn : n < 9) (hk : ∀ k ∈ c.cmds, k.op ≠ 0x68) (he : c.canEn n = false) (hc : (c.can n).cur = none)
    (hr : c.flag (R.CAN_STATUS n) F.CAN_STATUS_RX_ACTIVE = false) :
    ∃ g, c.canDisable n = g.finish (onObj 0x6A n) .ok [] ∧ g.canErr n = 3 ∧ Restates rq n c g := by
  by_cases h₃ : c.canErr n = 3
  case pos => exact ⟨c, if_pos h₃, h₃, .refl c⟩
  case neg =>
    have hs := Sends.endPending (rq := rq) c hn .cancelled (c.can n).cur hk he
    obtain ⟨d, hd⟩ : ∃ d, d = c.endPending n .cancelled (c.can n).cur := ⟨_, rfl⟩
    rw [← hd] at hs
    have hf : d.finish (onObj 0x68 (canTxWait n)) .cancelled [] = d := by
      refine Chip.finish_none d _ _ _ fun k hm => ?_
      simp only [onObj, Bool.and_eq_false_iff, beq_eq_false_iff_ne]
      exact .inl (hk k (hs.cmds ▸ hm))
    have hq : ((d.can n).cur.isSome || d.flag (R.CAN_STATUS n) F.CAN_STATUS_RX_ACTIVE) = false := by
      rw [hs.can, hc, Chip.flag, hs.fget (by simp only [R.CAN_STATUS]; omega) (by simp only [R.CAN_STATUS]; omega)]
      exact hr
    obtain ⟨g, h₄, h₅⟩ := d.canStop_eq n
    obtain ⟨h₆, h₇⟩ := h₅ (rq := rq) hn
    refine ⟨g, ?_, h₆, (Restates.of_sends hs).trans h₇⟩
    rw [← h₄, Chip.canDisable, if_neg h₃, ← hd, hf]
    exact if_neg (by simp [hq])

/-- A disable of an enabled controller: the reception ends, and the command waits for the controller to stop. -/
theorem Chip.canEnableCmd_off {d a : Chip} {k : Cmd} {n : Nat} (hn : k.can = n) (hb : k.bits 1 8 1 = 0) (he : d.canEn n = true)
    (ha : a = (d.fbit (R.CAN_STATUS n) F.CAN_STATUS_RX_ACTIVE false).addCmd k n true) : d.canEnableCmd false k =
      if (a.supWrite .sup (R.CAN_MODE n) (F.CAN_MODE_EN.put (a.rd (R.CAN_MODE n)) 0)).canErr n = 3 then
        (a.supWrite .sup (R.CAN_MODE n) (F.CAN_MODE_EN.put (a.rd (R.CAN_MODE n)) 0)).finish (onObj 0x6A n) .ok []
      else a.supWrite .sup (R.CAN_MODE n) (F.CAN_MODE_EN.put (a.rd (R.CAN_MODE n)) 0) := by
  have h₁ : k.bits 1 8 1 ≠ 1 := by omega
  unfold Chip.canEnableCmd
  rw [if_neg h₁, hn, he, ha]
  rfl

theorem disable_mask (n : Fin 8) : (.ofNat 32 n : Word).toNat &&& 0x10F = (.ofNat 32 n : Word).toNat := by
  revert n
  decide
theorem canDisable_serves {s : State} {rq : Req} {tag : Nat} {n : Fin 8} (h : s.chip.offers rq 0x6A tag [(.ofNat 32 n : Word)])
    (he : s.chip.canEn n = true) (hcur : (s.chip.can n).cur = none) (hk : s.chip.cmds = []) :
    ∃ c', exec (.canEnable rq false) s = .next { s with chip := c' } ∧ s.chip.served c' rq 0x6A tag 1 .ok [] ∧ c'.canEn n = false ∧ c'.canErr n = 3 := by
  obtain ⟨hs, d, ht, hc⟩ := offers_accepts h (by decide) (by simp)
  obtain ⟨k, hkd⟩ : ∃ k, k = cmdFor rq 0x6A tag [(.ofNat 32 n : Word)] := ⟨_, rfl⟩
  rw [← hkd] at hc
  have h9 : n.val < 9 := by omega
  have hn : k.can = n := Cmd.can_of (by rw [hkd]; rfl) (by omega) (by omega)
  have h₁ : k.arg 1 = .ofNat 32 n := by rw [hkd]; rfl
  have hbit : k.bits 1 8 1 = 0 := by
    rw [Cmd.bits, h₁, word_toNat (by omega)]
    omega
  have he' : d.canEn n = true := (ht.flag (by simp only [R.CAN_MODE]; omega) _).trans he
  have hlt : decide (7 < n.val) = false := decide_eq_false (by omega)
  -- the frame that is received has ended, and the command stands in the table
  obtain ⟨a, ha⟩ : ∃ a : Chip, a = (d.fbit (R.CAN_STATUS n) F.CAN_STATUS_RX_ACTIVE false).addCmd k n true := ⟨_, rfl⟩
  have hak : a.cmds = [{ k with obj := n, started := true }] := by
    rw [ha]
    show d.cmds ++ _ = _
    rw [ht.cmds, hk]
    rfl
  have hau : Unanswered rq d a := by
    rw [ha]
    exact (Unanswered.fset d _ _ (by simp only [R.CAN_STATUS]; omega)).trans ⟨rfl, rfl, rfl, rfl, rfl⟩
  have hacan : a.can n = d.can n := by rw [ha]; rfl
  have hard {b : Nat} (hb : b ≠ R.CAN_STATUS n) : a.rd b = d.rd b := by
    rw [ha]
    exact Chip.rd_fset_ne d _ _ hb
  have harx : a.flag (R.CAN_STATUS n) F.CAN_STATUS_RX_ACTIVE = false := by
    rw [ha]
    exact Chip.flag_fbit_self d _ _ false (by decide) (by decide)
  obtain ⟨x, hx⟩ : ∃ x, x = F.CAN_MODE_EN.put (a.rd (R.CAN_MODE n)) 0 := ⟨_, rfl⟩
  have hx₀ : F.CAN_MODE_EN.get x = 0 := hx ▸ get_en_put _ 0 (by decide)
  have hold : F.CAN_MODE_EN.get (a.rd (R.CAN_MODE n)) = 1 := by
    rw [hard (by simp only [R.CAN_MODE, R.CAN_STATUS]; omega)]
    simpa [Chip.canEn, Chip.flag, Chip.fget] using he'
  obtain ⟨f, f₁, f₂, f₃⟩ := a.supWrite_mode h9 x
  have hfst : f.rd (R.CAN_STATUS n) = a.rd (R.CAN_STATUS n) :=
    f₁.rd _ (by simp [R.CAN_STATUS, R.CAN_MODE]) (by simp only [clockReg, R.CAN_STATUS]; omega)
  have hfen : f.canEn n = false := by
    rw [Chip.canEn, Chip.flag, Chip.fget, f₂, storedMode, hx₀]
    rfl
  obtain ⟨g, g₁, g₂, g₃⟩ := Chip.canDisable_says (c := f) (rq := rq) h9 (by rw [f₁.cmds, hak, hkd]; simp [cmdFor]) hfen
    (by rw [Chip.can, f₁.cans]; exact (congrArg CanX.cur (hacan.trans (ht.can n))).trans hcur)
    (by rw [Chip.flag, Chip.fget, hfst]; exact harx)
  have hgk : g.cmds = [{ k with obj := n, started := true }] := g₃.cmds.trans (f₁.cmds.trans hak)
  have hgf : g.finish (onObj 0x6A n) .ok [] = g.noCmds.complete rq 0x6A tag .ok [] := by
    obtain ⟨k', hk'⟩ : ∃ k' : Cmd, k' = { k with obj := n, started := true } := ⟨_, rfl⟩
    obtain ⟨h₃, h₄, h₅, h₆, h₇⟩ : k'.rq = rq ∧ k'.op = 0x6A ∧ k'.tag = tag ∧ k'.obj = n ∧ k'.flags .ok = 0 := by
      rw [hk', hkd]
      exact ⟨rfl, rfl, rfl, rfl, by simp [Cmd.flags, cmdFor]⟩
    rw [← hk'] at hgk
    have hp : onObj 0x6A n k' = true := by rw [onObj, h₄, h₆, beq_self_eq_true, beq_self_eq_true]; rfl
    have hx := Chip.finish_only [] hgk hp
    rw [h₃, h₄, h₅, h₇] at hx
    exact hx
  have hgu : Unanswered rq d g.noCmds :=
    (hau.trans (f₁.unanswered (by simp only [List.forall_mem_cons, R.CAN_MODE]; simp; omega))).trans (g₃.ans.trans (.noCmds rq g))
  obtain ⟨e, hed⟩ : ∃ e, e = g.noCmds.complete rq 0x6A tag .ok [] := ⟨_, rfl⟩
  have hes : s.chip.served e rq 0x6A tag 1 .ok [] := hed ▸ served_says hs ht hgu 0x6A tag .ok (by simp)
  have hek : e.cmds = [] := hed ▸ Chip.cmds_complete _ _ _ _ _ _ _
  have herd {b : Nat} (hb : 0x40080000 ≤ b) : e.rd b = g.rd b := hed ▸ Chip.rd_complete _ _ _ _ _ _ _ (by omega)
  have heerr : e.canErr n = 3 := (congrArg F.CAN_STATUS_ERR_STATE.get (herd (by simp only [R.CAN_STATUS]; omega))).trans g₂
  have heen : e.canEn n = false := by
    rw [Chip.canEn, Chip.flag, Chip.fget, herd (by simp only [R.CAN_MODE]; omega), g₃.mode]
    exact hfen
  have hmode : f.canMode n (a.rd (R.CAN_MODE n)) x = e := by
    have h₂ : e.canErr n ≠ 2 := by rw [heerr]; decide
    have h₃ : ¬ (F.CAN_MODE_EN.get x = 1 ∧ F.CAN_MODE_EN.get (a.rd (R.CAN_MODE n)) = 0) := fun hb => by rw [hx₀] at hb; exact absurd hb.1 (by decide)
    exact Chip.canMode_of ((if_neg h₃).trans ((if_pos ⟨hx₀, hold⟩).trans (g₁.trans (hgf.trans hed.symm)))) h₂
  have hfirst := Sends.nmFirst (rq := rq) e
  have hrun : d.canEnableCmd false k = e.nmFirst := by
    have hw : a.supWrite .sup (R.CAN_MODE n) x = e.nmFirst := by rw [f₃, hmode]
    have hfk : e.nmFirst.finish (onObj 0x6A n) .ok [] = e.nmFirst := Chip.finish_nil _ _ _ _ (hfirst.cmds.trans hek)
    rw [Chip.canEnableCmd_off hn hbit he' ha, ← hx, hw, hfk, ite_self]
  refine ⟨_, State.next_chip ((hc _ _ _ (by rw [hkd]; rfl) ?_).trans hrun), served_after hes hfirst.ans, (hfirst.canEn n).trans heen, (hfirst.canErr n).trans heerr⟩
  simp only [Cmd.canOk, Cmd.only, badArg, refusedBy, hn, h₁, disable_mask, hbit, hlt, bne_self_eq_false, Bool.false_and, Nat.reduceBEq,
      List.cons_append, List.nil_append, List.forall_mem_cons, true_and, List.not_mem_nil, false_imp_iff, implies_true]

end Sys2Proof.Machine
end

section
/-! PROOF. The commands that only write registers of CAN, of selective wake and of LIN (spec/11, 0x6B to 0x70). -/

namespace Sys2Proof.Machine
open Sys2Proof

/-! ### A command that writes registers of one die and completes -/

/-- A register of die n, in block b, that a command writes and that only stores. -/
structure Setting (n : Nat) (b : Nat × Nat) (a : Nat) (D : RegDesc) (ix : List Nat) : Prop extends Plain a D ix where
  die : dieOf a = n
  free : ¬ clockReg a ∧ a ∉ tokens n
  block : 0x40030000 ≤ a ∧ b.1 ≤ a ∧ a < b.2

/-- The completion of a command leaves what registers beyond the queues took. -/
theorem took_complete {c : Chip} {id : RegId} {a : Nat} {x : Word} (rq : Req) (op tag : Nat) (st : CmdStatus) (res : List Word) (ha : 0x40030000 ≤ a)
    (h : c.took id a x) : (c.complete rq op tag st res).took id a x := by
  rw [Chip.took, Chip.rd_complete _ _ _ _ _ _ _ ha]
  exact h

/-- The writes of a command, and its completion. -/
theorem writes_serve {c d : Chip} {rq : Req} {op tag dn n : Nat} {l : List (Nat × Word)} {b : Nat × Nat} (res : List Word) (hs : c.serves rq = true) (ht : Taken rq n c d)
    (hr : res.length ≤ 32) (hd : dn < 8) (hre : d.reaches dn) (hn : (l.map (·.1)).Nodup) (hl : ∀ p ∈ l, ∃ D ix, Setting dn b p.1 D ix)
    (hbt : ∀ t ∈ tokens dn, b.1 ≤ t ∧ t < b.2) : c.served ((d.supWrites l).complete rq op tag .ok res) rq op tag n .ok res ∧
      (∀ p ∈ l, ∀ D ix, Plain p.1 D ix → ((d.supWrites l).complete rq op tag .ok res).rd p.1 = storedWord D ix (c.rd p.1) p.2) ∧
      Only [Blk.sys, Blk.evr, Blk.que, b] c ((d.supWrites l).complete rq op tag .ok res) := by
  obtain ⟨h₁, h₂⟩ := Chip.supWrites_plain hd hre hn fun p hp => by
    obtain ⟨D, ix, h⟩ := hl p hp
    exact ⟨h.die, h.free.1, h.free.2, D, ix, h.toPlain⟩
  have hb (p : Nat × Word) (hp : p ∈ l) : 0x40030000 ≤ p.1 ∧ b.1 ≤ p.1 ∧ p.1 < b.2 := by
    obtain ⟨D, ix, h⟩ := hl p hp
    exact h.block
  have hmem (a : Nat) (ha : a ∈ l.map (·.1) ++ tokens dn) : 0x40020800 ≤ a ∧ b.1 ≤ a ∧ a < b.2 := by
    obtain ha | ha := List.mem_append.1 ha
    · obtain ⟨p, hp, rfl⟩ := List.mem_map.1 ha
      have := hb p hp
      omega
    · have := hbt a ha
      have := mem_tokens hd ha
      omega
  refine ⟨served_says hs ht (h₁.unanswered fun a ha => .inr (hmem a ha).1) op tag .ok hr, fun p hp D ix hP => ?_, ?_⟩
  · rw [Chip.rd_complete _ _ _ _ _ _ _ (hb p hp).1, h₂ p hp D ix hP, ht.rd (by have := (hb p hp).1; omega)]
  · refine (ht.only _ (by simp)).trans ((h₁.only (by simp) fun a ha => ⟨b, by simp, (hmem a ha).2⟩).trans ?_)
    exact (Only.complete _ _ _ _ _ _ _).mono (by simp)

/-! ### CAN_FILTER -/

theorem filter_mask (n : Fin 8) (k : Fin 64) : (.ofNat 32 (n + 256 * k) : Word).toNat &&& 0x3F0F = (.ofNat 32 (n + 256 * k) : Word).toNat := by
  rw [word_toNat (by omega)]
  revert n k
  decide +kernel

section
variable {n : Nat} (hn : n < 9)
include hn
/-- A register of a controller. -/
theorem setting_can {a o : Nat} (ho : o < 0x1000) (ha : a = 0x40080000 + n * 0x1000 + o) {D : RegDesc} {ix : List Nat} (hp : Plain a D ix) : Setting 0 Blk.can a D ix :=
  { hp with
    die := (dieOf_canAt hn ho ha).1
    free := ⟨(dieOf_canAt hn ho ha).2, List.not_mem_nil⟩
    block := by simp only [Blk.can]; omega }
theorem setting_fltId (k : Fin 64) : Setting 0 Blk.can (R.CAN_FLT_ID n k) fltIdDesc [n, k.val] :=
  setting_can hn (o := 0x200 + 8 * k) (by omega) (by simp only [R.CAN_FLT_ID]; omega) ⟨findReg_fltId hn k, by decide, by decide, rfl, rfl, fun _ => rfl⟩
theorem setting_fltMask (k : Fin 64) : Setting 0 Blk.can (R.CAN_FLT_MASK n k) fltMaskDesc [n, k.val] :=
  setting_can hn (o := 0x204 + 8 * k) (by omega) (by simp only [R.CAN_FLT_MASK]; omega) ⟨findReg_fltMask hn k, by decide, by decide, rfl, rfl, fun _ => rfl⟩
end

theorem canFilter_serves {s : State} {rq : Req} {tag : Nat} {n : Fin 8} {f : Fin 64} {x y : Word}
    (h : s.chip.offers rq 0x6B tag [(.ofNat 32 (n + 256 * f) : Word), x, y]) (hx : layoutOk .CAN_FLT_ID [n.val, f.val] x = true)
    (hy : layoutOk .CAN_FLT_MASK [n.val, f.val] y = true) :
    ∃ c', exec (.canFilter rq) s = .next { s with chip := c' } ∧ s.chip.served c' rq 0x6B tag 3 .ok [] ∧ c'.took .CAN_FLT_ID (R.CAN_FLT_ID n f) x ∧
      c'.took .CAN_FLT_MASK (R.CAN_FLT_MASK n f) y ∧ Only [Blk.sys, Blk.evr, Blk.que, Blk.can] s.chip c' := by
  obtain ⟨hs, d, ht, hc⟩ := offers_accepts h (by decide) (by simp)
  obtain ⟨k, hkd⟩ : ∃ k, k = cmdFor rq 0x6B tag [(.ofNat 32 (n + 256 * f) : Word), x, y] := ⟨_, rfl⟩
  rw [← hkd] at hc
  have h₁ : k.arg 1 = .ofNat 32 (n + 256 * f) := by rw [hkd]; rfl
  have h₂ : k.arg 2 = x := by rw [hkd]; rfl
  have h₃ : k.arg 3 = y := by rw [hkd]; rfl
  have hn : k.can = n := Cmd.can_of h₁ (by omega) (by omega)
  have hf : k.bits 1 8 6 = f := by
    rw [Cmd.bits, h₁, word_toNat (by omega)]
    omega
  have hlt : decide (7 < n.val) = false := decide_eq_false (by omega)
  have pi := setting_fltId (n := n) (by omega) f
  have pm := setting_fltMask (n := n) (by omega) f
  obtain ⟨h₄, h₅, h₆⟩ := writes_serve (op := 0x6B) (tag := tag) (dn := 0) (l := [(R.CAN_FLT_ID n f, x), (R.CAN_FLT_MASK n f, y)]) (b := Blk.can) [] hs ht
    (by simp) (by decide) (.inl rfl) (by simp [R.CAN_FLT_ID, R.CAN_FLT_MASK])
    (List.forall_mem_cons.2 ⟨⟨_, _, pi⟩, List.forall_mem_singleton.2 ⟨_, _, pm⟩⟩) (by simp [tokens])
  simp only [List.forall_mem_cons, List.not_mem_nil, false_imp_iff, implies_true, and_true] at h₅
  refine ⟨_, State.next_chip ((hc _ _ _ (by rw [hkd]; rfl) ?_).trans (by rw [Chip.canFilter, hn, hf, h₂, h₃, hkd]; rfl)), h₄,
    Chip.took_stored (D := fltIdDesc) (h₅.1 _ _ pi.toPlain) (by decide) rfl, Chip.took_stored (D := fltMaskDesc) (h₅.2 _ _ pm.toPlain) (by decide) rfl, h₆⟩
  simp only [Cmd.canOk, Cmd.only, Cmd.lay, badArg, hn, hf, h₁, h₂, h₃, hx, hy, filter_mask, hlt, bne_self_eq_false, Bool.not_true,
    List.cons_append, List.nil_append, List.forall_mem_cons, true_and, List.not_mem_nil, false_imp_iff, implies_true]

end Sys2Proof.Machine
end

section
/-! PROOF. The commands of selective wake, of LIN and of the service port (spec/11, 0x6C to 0x70). -/

namespace Sys2Proof.Machine
open Sys2Proof

theorem Taken.reaches {rq : Req} {n : Nat} {c d : Chip} (h : Taken rq n c d) {k : Nat} (hk : k < 8) (hl : c.linkUp k = true) (hi : c.inStep k = true) : d.reaches k :=
  .inr ⟨(h.linkUp hk).trans hl, (Chip.inStep_of_links h.links k).trans hi⟩

/-- A register that stores every bit. -/
theorem stored_all {D : RegDesc} (ix : List Nat) (old x : Word) (hm : openMask D false false = BitVec.allOnes 32) (hn : ∀ w, regNorm D.id ix old w = w) :
    storedWord D ix old x = x := by
  rw [storedWord, hn]
  simp only [mergeWord, hm, BitVec.not_allOnes, BitVec.and_zero, BitVec.zero_or, BitVec.and_allOnes]

/-! ### CAN_SELWAKE -/

theorem tokens_one : tokens 1 = [0x40100004] := rfl
/-- A register of the sentinel, of no die header. -/
theorem setting_sen {a : Nat} (ha : 0x40100010 ≤ a ∧ a < 0x40200000) {D : RegDesc} {ix : List Nat} (hp : Plain a D ix) : Setting 1 Blk.sen a D ix :=
  { hp with
    die := if_pos (by omega)
    free := ⟨by simp only [clockReg]; omega, by rw [tokens_one, List.mem_singleton]; omega⟩
    block := by simp only [Blk.sen]; omega }

/-- The descriptors of the registers of selective wake. -/
def swkIdDesc : RegDesc := ⟨.SEN_SWK_ID, 0x40180004, [(4, 0x100, 0)], 0x3FFFFFFF, 0, 0, 0, 0, 0⟩
def swkMaskDesc : RegDesc := ⟨.SEN_SWK_IDMASK, 0x40180008, [(4, 0x100, 0)], 0x1FFFFFFF, 0, 0, 0, 0, 0x1FFFFFFF⟩
def swkDataDesc : RegDesc := ⟨.SEN_SWK_DATA, 0x4018000C, [(4, 0x100, 0), (2, 0x4, 0)], 0xFFFFFFFF, 0, 0, 0, 0, 0⟩
def swkDmaskDesc : RegDesc := ⟨.SEN_SWK_DMASK, 0x40180014, [(4, 0x100, 0), (2, 0x4, 0)], 0xFFFFFFFF, 0, 0, 0, 0, 0xFFFFFFFF⟩

section
variable (n : Fin 4) (w : Fin 2)
theorem setting_swkId : Setting 1 Blk.sen (R.SEN_SWK_ID n) swkIdDesc [n.val] :=
  setting_sen (by simp only [R.SEN_SWK_ID]; omega) ⟨by fin_cases n <;> rfl, by decide, by decide, rfl, rfl, fun _ => rfl⟩
theorem setting_swkMask : Setting 1 Blk.sen (R.SEN_SWK_IDMASK n) swkMaskDesc [n.val] :=
  setting_sen (by simp only [R.SEN_SWK_IDMASK]; omega) ⟨by fin_cases n <;> rfl, by decide, by decide, rfl, rfl, fun _ => rfl⟩
theorem setting_swkData : Setting 1 Blk.sen (R.SEN_SWK_DATA n w) swkDataDesc [n.val, w.val] :=
  setting_sen (by simp only [R.SEN_SWK_DATA]; omega) ⟨by fin_cases n <;> fin_cases w <;> rfl, by decide, by decide, rfl, rfl, fun _ => rfl⟩
theorem setting_swkDmask : Setting 1 Blk.sen (R.SEN_SWK_DMASK n w) swkDmaskDesc [n.val, w.val] :=
  setting_sen (by simp only [R.SEN_SWK_DMASK]; omega) ⟨by fin_cases n <;> fin_cases w <;> rfl, by decide, by decide, rfl, rfl, fun _ => rfl⟩
end

theorem canSelwake_serves {s : State} {rq : Req} {tag : Nat} {n : Fin 4} {x m d₀ d₁ k₀ k₁ : Word}
    (h : s.chip.offers rq 0x6C tag [(.ofNat 32 n : Word), x, m, d₀, d₁, k₀, k₁]) (hl : s.chip.linkUp 1 = true) (hi : s.chip.inStep 1 = true)
    (hx : layoutOk .SEN_SWK_ID [n.val] x = true) (hm : layoutOk .SEN_SWK_IDMASK [n.val] m = true) :
    ∃ c', exec (.canSelwake rq) s = .next { s with chip := c' } ∧ s.chip.served c' rq 0x6C tag 7 .ok [] ∧ c'.took .SEN_SWK_ID (R.SEN_SWK_ID n) x ∧
      c'.took .SEN_SWK_IDMASK (R.SEN_SWK_IDMASK n) m ∧ c'.rd (R.SEN_SWK_DATA n 1) = d₁ ∧ c'.rd (R.SEN_SWK_DMASK n 1) = k₁ ∧
      Only [Blk.sys, Blk.evr, Blk.que, Blk.sen] s.chip c' := by
  obtain ⟨hs, d, ht, hc⟩ := offers_accepts h (by decide) (by simp)
  obtain ⟨k, hkd⟩ : ∃ k, k = cmdFor rq 0x6C tag [(.ofNat 32 n : Word), x, m, d₀, d₁, k₀, k₁] := ⟨_, rfl⟩
  rw [← hkd] at hc
  obtain ⟨a₁, a₂, a₃, a₄, a₅, a₆, a₇⟩ : k.arg 1 = .ofNat 32 n ∧ k.arg 2 = x ∧ k.arg 3 = m ∧ k.arg 4 = d₀ ∧ k.arg 5 = d₁ ∧ k.arg 6 = k₀ ∧ k.arg 7 = k₁ := by
    rw [hkd]
    exact ⟨rfl, rfl, rfl, rfl, rfl, rfl, rfl⟩
  have hn : k.can = n := Cmd.can_of a₁ (by omega) (by omega)
  have hlt : decide (7 < n.val) = false := decide_eq_false (by omega)
  have hlt' : decide (3 < n.val) = false := decide_eq_false (by omega)
  have hmask : (.ofNat 32 n : Word).toNat &&& 0xF = (.ofNat 32 n : Word).toNat := controller_mask ⟨n, by omega⟩
  have hlk : d.linkUp 1 = true := (ht.linkUp (by decide)).trans hl
  have hne : ([(R.SEN_SWK_ID n, x), (R.SEN_SWK_IDMASK n, m), (R.SEN_SWK_DATA n 0, d₀), (R.SEN_SWK_DATA n 1, d₁), (R.SEN_SWK_DMASK n 0, k₀), (R.SEN_SWK_DMASK n 1, k₁)].map
      (·.1)).Nodup := by
    simp [R.SEN_SWK_ID, R.SEN_SWK_IDMASK, R.SEN_SWK_DATA, R.SEN_SWK_DMASK]
    omega
  have p₃ := setting_swkData n 1
  have p₄ := setting_swkDmask n 1
  obtain ⟨h₄, h₅, h₆⟩ := writes_serve (op := 0x6C) (tag := tag) (b := Blk.sen) [] hs ht (by simp) (by decide) (ht.reaches (k := 1) (by decide) hl hi) hne
    (List.forall_mem_cons.2 ⟨⟨_, _, setting_swkId n⟩, List.forall_mem_cons.2 ⟨⟨_, _, setting_swkMask n⟩, List.forall_mem_cons.2 ⟨⟨_, _, setting_swkData n 0⟩,
      List.forall_mem_cons.2 ⟨⟨_, _, p₃⟩, List.forall_mem_cons.2 ⟨⟨_, _, setting_swkDmask n 0⟩, List.forall_mem_singleton.2 ⟨_, _, p₄⟩⟩⟩⟩⟩⟩)
    (by rw [tokens_one]; decide)
  simp only [List.forall_mem_cons, List.not_mem_nil, false_imp_iff, implies_true, and_true] at h₅
  obtain ⟨r₁, r₂, -, r₃, -, r₄⟩ := h₅
  refine ⟨_, State.next_chip ((hc _ _ _ (by rw [hkd]; rfl) ?_).trans (by rw [Chip.canSelwake, hn, a₂, a₃, a₄, a₅, a₆, a₇, hkd]; rfl)), h₄,
    Chip.took_stored (D := swkIdDesc) (r₁ _ _ (setting_swkId n).toPlain) (by decide) rfl, Chip.took_stored (D := swkMaskDesc) (r₂ _ _ (setting_swkMask n).toPlain) (by decide) rfl,
    ?_, ?_, h₆⟩
  · simp only [Cmd.canOk, Cmd.only, Cmd.lay, badArg, Chip.offLink, hn, a₁, a₂, a₃, hx, hm, hmask, hlk, hlt, hlt', bne_self_eq_false, Bool.not_true,
      List.cons_append, List.nil_append, List.forall_mem_cons, true_and, List.not_mem_nil, false_imp_iff, implies_true]
  · exact (r₃ _ _ p₃.toPlain).trans (stored_all _ _ _ (by decide) fun _ => rfl)
  · exact (r₄ _ _ p₄.toPlain).trans (stored_all _ _ _ (by decide) fun _ => rfl)

/-! ### LIN_SCHED -/

theorem findReg_linAt {n o a : Nat} (hn : n < 4) (ho : o < 0x400) (ha : a = 0x40090000 + n * 0x400 + o) {d : RegDesc} {ix : List Nat}
    (h : unitFind 4 0x400 0x40090000 o linRegs = some (d, ix)) : findReg a = some (d, n :: ix) := ha ▸ findReg_lin hn ho h

/-- The descriptors of the registers of LIN. -/
def schedDesc : RegDesc := ⟨.LIN_SCHED_E, 0x40090100, [(4, 0x400, 0), (64, 0x4, 0)], 0xF8F0FF3F, 0, 0, 0, 0, 0⟩
def linCtrlDesc : RegDesc := ⟨.LIN_CTRL, 0x40090000, [(4, 0x400, 0)], 0x300, 0, 0, 0x3000, 0, 0⟩
def respCfgDesc : RegDesc := ⟨.LIN_RESP_CFG, 0x40090200, [(4, 0x400, 0), (16, 0x10, 0)], 0x88F0003F, 0, 0, 0, 0, 0x100000⟩
def respD0Desc : RegDesc := ⟨.LIN_RESP_D0, 0x40090204, [(4, 0x400, 0), (16, 0x10, 0)], 0xFFFFFFFF, 0, 0, 0, 0, 0⟩
def respD1Desc : RegDesc := ⟨.LIN_RESP_D1, 0x40090208, [(4, 0x400, 0), (16, 0x10, 0)], 0xFFFFFFFF, 0, 0, 0, 0, 0⟩

theorem dieOf_lin {a : Nat} (h : 0x40090000 ≤ a ∧ a < 0x40091000) : dieOf a = 0 ∧ ¬ clockReg a := by
  refine ⟨?_, by simp only [clockReg]; omega⟩
  unfold dieOf
  repeat rw [if_neg (by omega)]
theorem setting_lin {a : Nat} (h : 0x40090000 ≤ a ∧ a < 0x40091000) {D : RegDesc} {ix : List Nat} (hp : Plain a D ix) : Setting 0 Blk.lin a D ix :=
  { hp with
    die := (dieOf_lin h).1
    free := ⟨(dieOf_lin h).2, List.not_mem_nil⟩
    block := by simp only [Blk.lin]; omega }

section
variable (n : Fin 4) (k : Fin 64) (r : Fin 16)
theorem setting_sched : Setting 0 Blk.lin (R.LIN_SCHED_E n k) schedDesc [n.val, k.val] :=
  setting_lin (by simp only [R.LIN_SCHED_E]; omega) ⟨findReg_linAt n.2 (o := 0x100 + k * 4) (by omega) (by simp only [R.LIN_SCHED_E]; omega) (by revert k; decide),
    by decide, by decide, rfl, rfl, fun _ => rfl⟩
theorem setting_respCfg : Setting 0 Blk.lin (R.LIN_RESP_CFG n r) respCfgDesc [n.val, r.val] :=
  setting_lin (by simp only [R.LIN_RESP_CFG]; omega) ⟨findReg_linAt n.2 (o := 0x200 + r * 0x10) (by omega) (by simp only [R.LIN_RESP_CFG]; omega) (by revert r; decide),
    by decide, by decide, rfl, rfl, fun _ => rfl⟩
theorem setting_respD0 : Setting 0 Blk.lin (R.LIN_RESP_D0 n r) respD0Desc [n.val, r.val] :=
  setting_lin (by simp only [R.LIN_RESP_D0]; omega) ⟨findReg_linAt n.2 (o := 0x204 + r * 0x10) (by omega) (by simp only [R.LIN_RESP_D0]; omega) (by revert r; decide),
    by decide, by decide, rfl, rfl, fun _ => rfl⟩
theorem setting_respD1 : Setting 0 Blk.lin (R.LIN_RESP_D1 n r) respD1Desc [n.val, r.val] :=
  setting_lin (by simp only [R.LIN_RESP_D1]; omega) ⟨findReg_linAt n.2 (o := 0x208 + r * 0x10) (by omega) (by simp only [R.LIN_RESP_D1]; omega) (by revert r; decide),
    by decide, by decide, rfl, rfl, fun _ => rfl⟩
end

theorem sched_mask (n : Fin 4) (k : Fin 64) : (.ofNat 32 (n + 256 * k) : Word).toNat &&& 0x3F03 = (.ofNat 32 (n + 256 * k) : Word).toNat := by
  rw [word_toNat (by omega)]
  revert n k
  decide +kernel
theorem Cmd.lin_of {k : Cmd} {n v : Nat} (h : k.arg 1 = .ofNat 32 v) (hv : v < 2 ^ 32) (hm : v % 4 = n) : k.lin = n := by
  show (k.arg 1).toNat / 2 ^ 0 % 2 ^ 2 = n
  rw [h, word_toNat hv]
  omega

/-- The fields of a schedule entry that are stored clamped. -/
def schedNorm : List (Fld × (Nat → Nat → Nat)) := [(byteFld 1, someOne), (schLen, clampTo 1 8)]
theorem schNorm_eq (old x : Word) : schNorm x = normAll schedNorm old x := by
  have hl : (if schLen.get x = 0 then schLen.put x 1 else if 8 < schLen.get x then schLen.put x 8 else x) = schLen.put x (clampTo 1 8 (schLen.get old) (schLen.get x)) := by
    unfold clampTo
    split
    case isTrue h => rw [h]; rfl
    case isFalse h =>
      have h₁ : Nat.max 1 (Nat.min 8 (schLen.get x)) = Nat.min 8 (schLen.get x) := Nat.max_eq_right (Nat.le_min.2 ⟨by decide, by omega⟩)
      rw [h₁]
      split
      case isTrue h₂ => rw [show Nat.min 8 (schLen.get x) = 8 from Nat.min_eq_left (by omega)]
      case isFalse h₂ => rw [show Nat.min 8 (schLen.get x) = schLen.get x from Nat.min_eq_right (by omega), Fld.put_get]
  show (byteFld 1).some1 _ = _
  rw [hl, Fld.some1_eq _ old]
  rfl

theorem linSched_serves {s : State} {rq : Req} {tag : Nat} {n : Fin 4} {e : Fin 64} {x : Word} (h : s.chip.offers rq 0x6D tag [(.ofNat 32 (n + 256 * e) : Word), x])
    (hm : x &&& 0xF8F0FF3F = x) (hx : schNorm x = x) :
    ∃ c', exec (.linSched rq) s = .next { s with chip := c' } ∧ s.chip.served c' rq 0x6D tag 2 .ok [] ∧ c'.took .LIN_SCHED_E (R.LIN_SCHED_E n e) x ∧
      Only [Blk.sys, Blk.evr, Blk.que, Blk.lin] s.chip c' := by
  obtain ⟨hs, d, ht, hc⟩ := offers_accepts h (by decide) (by simp)
  obtain ⟨k, hkd⟩ : ∃ k, k = cmdFor rq 0x6D tag [(.ofNat 32 (n + 256 * e) : Word), x] := ⟨_, rfl⟩
  rw [← hkd] at hc
  have a₁ : k.arg 1 = .ofNat 32 (n + 256 * e) := by rw [hkd]; rfl
  have a₂ : k.arg 2 = x := by rw [hkd]; rfl
  have hw : k.w.length - 1 = 1 := by rw [hkd]; rfl
  have hn : k.lin = n := Cmd.lin_of a₁ (by omega) (by omega)
  have he : k.bits 1 8 6 = e := by
    rw [Cmd.bits, a₁, word_toNat (by omega)]
    omega
  have p := setting_sched n e
  have hm' : x.toNat &&& 0xF8F0FF3F = x.toNat := by
    have := congrArg BitVec.toNat hm
    simpa using this
  obtain ⟨h₄, h₅, h₆⟩ := writes_serve (op := 0x6D) (tag := tag) (l := [(R.LIN_SCHED_E n e, x)]) (b := Blk.lin) [] hs ht (by simp) (by decide) (.inl rfl) (by simp)
    (List.forall_mem_singleton.2 ⟨_, _, p⟩) (by simp [tokens])
  have hst := h₅ _ (List.mem_singleton_self _) _ _ p.toPlain
  refine ⟨_, State.next_chip ((hc _ _ _ (by rw [hkd]; rfl) ?_).trans (by
    rw [Chip.linSched, hw, hn, he]
    simp only [List.range_one, List.map_cons, List.map_nil, Nat.add_zero, a₂]
    rw [hkd]
    rfl)), h₄, Chip.took_norm (D := schedDesc) schedNorm hst (by decide) (fun o z => schNorm_eq o z) (by decide) (by simp [schedNorm, steady_someOne, steady_clampTo])
      (by decide) hx, h₆⟩
  have hlt : decide (64 < e.val + 1) = false := decide_eq_false (by omega)
  simp only [Cmd.only, badArg, hw, he, a₁, a₂, hm', hx, sched_mask, hlt, List.range_one, List.flatMap_cons, List.flatMap_nil, Nat.add_zero, List.append_nil, bne_self_eq_false,
    List.cons_append, List.nil_append, List.forall_mem_cons, true_and, List.not_mem_nil, false_imp_iff, implies_true]

end Sys2Proof.Machine
end

section
/-! PROOF. LIN_MODE, LIN_RESP and SVC_STATUS (R377, R379, R483). -/

namespace Sys2Proof.Machine
open Sys2Proof

/-! ### LIN_MODE -/

/-- A controller's state and status have changed, and what an answer rests on has not. -/
structure LinMoved (rq : Req) (n : Nat) (c d : Chip) : Prop where
  rd : ∀ a, a ≠ R.LIN_STATUS n → d.rd a = c.rd a
  ans : Unanswered rq c d

namespace LinMoved
variable {rq : Req} {n : Nat} {c d e : Chip}
theorem refl (c : Chip) : LinMoved rq n c c := ⟨fun _ _ => rfl, .refl c⟩
theorem trans (h : LinMoved rq n c d) (h' : LinMoved rq n d e) : LinMoved rq n c e := ⟨fun a ha => (h'.rd a ha).trans (h.rd a ha), h.ans.trans h'.ans⟩
theorem ite {p : Prop} [Decidable p] (h : LinMoved rq n c d) (h' : LinMoved rq n c e) : LinMoved rq n c (if p then d else e) := by
  split
  · exact h
  · exact h'
theorem setLin (c : Chip) (x : LinX) : LinMoved rq n c (c.setLin n x) := ⟨fun _ _ => rfl, ⟨rfl, rfl, rfl, rfl, rfl⟩⟩
theorem status (c : Chip) (f : Fld) (v : Nat) : LinMoved rq n c (c.fset (R.LIN_STATUS n) f v) :=
  ⟨fun _ h => Chip.rd_fset_ne c f v h, .fset c f v (by simp only [R.LIN_STATUS]; omega)⟩
theorem setLinState (c : Chip) (st : Nat) : LinMoved rq n c (c.setLinState n st) := status c _ st
theorem linHeader (c : Chip) (k : Nat) : LinMoved rq n c (c.linHeader n k) := (setLin c _).trans (status _ _ k)
/-- A write that asks for neither a wake nor a sleep. -/
theorem linCtrl (c : Chip) {old x : Word} (hw : F.LIN_CTRL_WAKE.get x = 0) (hs : F.LIN_CTRL_SLEEP.get x = 0) : LinMoved rq n c (c.linCtrl n old x) := by
  have h₁ : ¬ F.LIN_CTRL_WAKE.get x = 1 := by omega
  have h₂ (p q : Prop) : ¬ (F.LIN_CTRL_SLEEP.get x = 1 ∧ p ∧ q) := fun h => by omega
  unfold Chip.linCtrl
  dsimp only
  rw [if_neg h₁, if_neg (h₂ _ _)]
  have h₃ := (setLin (rq := rq) (n := n) c {}).trans (setLinState _ 1)
  exact ite (refl c) (ite ((setLin c _).trans (setLinState _ _)) (ite (h₃.trans (linHeader _ _)) h₃))
end LinMoved

theorem role_word (n : Fin 4) (r : Fin 3) : F.LIN_CTRL_ROLE.get ((.ofNat 32 (n + 256 * r) : Word) &&& 0x3300) = r ∧
    F.LIN_CTRL_WAKE.get ((.ofNat 32 (n + 256 * r) : Word) &&& 0x3300) = 0 ∧ F.LIN_CTRL_SLEEP.get ((.ofNat 32 (n + 256 * r) : Word) &&& 0x3300) = 0 ∧
    (.ofNat 32 (n + 256 * r) : Word).toNat &&& 0x3303 = (.ofNat 32 (n + 256 * r) : Word).toNat := by
  revert n r
  decide
/-- A role that is not reserved is stored. -/
theorem storedRole (l : List Nat) (old x : Word) (h : F.LIN_CTRL_ROLE.get x < 3) : F.LIN_CTRL_ROLE.get (storedWord linCtrlDesc l old x) = F.LIN_CTRL_ROLE.get x := by
  have hm : F.LIN_CTRL_ROLE.get (mergeWord linCtrlDesc false false old x).1 = F.LIN_CTRL_ROLE.get x :=
    Fld.get_mergeWord F.LIN_CTRL_ROLE linCtrlDesc false false old x (by decide)
  show F.LIN_CTRL_ROLE.get (F.LIN_CTRL_ROLE.keep (· == 3) old _) = _
  have hne : (F.LIN_CTRL_ROLE.get x == 3) = false := beq_eq_false_iff_ne.2 (by omega)
  rw [Fld.keep, hm, hne]
  exact hm

theorem linMode_serves {s : State} {rq : Req} {tag : Nat} {n : Fin 4} {r : Fin 3} (h : s.chip.offers rq 0x6E tag [(.ofNat 32 (n + 256 * r) : Word)]) :
    ∃ c', exec (.linMode rq) s = .next { s with chip := c' } ∧ s.chip.served c' rq 0x6E tag 1 .ok [] ∧ c'.linRole n = r ∧
      Only [Blk.sys, Blk.evr, Blk.que, Blk.lin] s.chip c' := by
  obtain ⟨hs, d, ht, hc⟩ := offers_accepts h (by decide) (by simp)
  obtain ⟨k, hkd⟩ : ∃ k, k = cmdFor rq 0x6E tag [(.ofNat 32 (n + 256 * r) : Word)] := ⟨_, rfl⟩
  rw [← hkd] at hc
  have a₁ : k.arg 1 = .ofNat 32 (n + 256 * r) := by rw [hkd]; rfl
  have hn : k.lin = n := Cmd.lin_of a₁ (by omega) (by omega)
  have hr : (k.bits 1 8 2 == 3) = false := by
    rw [Cmd.bits, a₁, word_toNat (by omega)]
    exact beq_eq_false_iff_ne.2 (by omega)
  obtain ⟨h₁, h₂, h₃, h₄⟩ := role_word n r
  obtain ⟨x, hx⟩ : ∃ x, x = (.ofNat 32 (n + 256 * r) : Word) &&& 0x3300 := ⟨_, rfl⟩
  rw [← hx] at h₁ h₂ h₃
  obtain ⟨hd, hck⟩ := dieOf_lin (a := R.LIN_CTRL n) (by simp only [R.LIN_CTRL]; omega)
  obtain ⟨e, he, hw⟩ := d.supWrite_atHome x hd
  obtain ⟨f, hf⟩ : ∃ f, f = e.wr (R.LIN_CTRL n) (storedWord linCtrlDesc [n.val] (e.rd (R.LIN_CTRL n)) x) := ⟨_, rfl⟩
  have hreg : e.regWrite .sup (R.LIN_CTRL n) x = f.linCtrl n (e.rd (R.LIN_CTRL n)) x := by
    rw [Chip.regWrite_stores x (findReg_linAt n.2 (o := 0) (d := linCtrlDesc) (ix := []) (by decide) (by simp only [R.LIN_CTRL]; omega) (by decide)) (by decide) rfl rfl rfl, hf]
    rfl
  have h₅ : Wrote [R.LIN_CTRL n] d f := hf ▸ (he.trans (.of_wr e _ _)).mono (by simp)
  have h₆ := LinMoved.linCtrl (rq := rq) (n := n) f (old := e.rd (R.LIN_CTRL n)) h₂ h₃
  rw [← hreg, ← hw] at h₆
  have hu : Unanswered rq d (d.supWrite .sup (R.LIN_CTRL n) x) :=
    (h₅.unanswered (by simp only [List.forall_mem_cons, R.LIN_CTRL]; simp; omega)).trans h₆.ans
  refine ⟨_, State.next_chip ((hc _ _ _ (by rw [hkd]; rfl) ?_).trans (by rw [Chip.linMode, hn, a₁, ← hx, hkd]; rfl)), served_says hs ht hu 0x6E tag .ok (by simp), ?_, ?_⟩
  · simp only [Cmd.only, badArg, a₁, h₄, hr, bne_self_eq_false, List.forall_mem_cons, true_and, List.not_mem_nil, false_imp_iff, implies_true]
  · rw [Chip.linRole, Chip.fget, Chip.rd_complete _ _ _ _ _ _ _ (by simp only [R.LIN_CTRL]; omega), h₆.rd _ (by simp only [R.LIN_CTRL, R.LIN_STATUS]; omega), hf,
      Chip.rd_wr_self, storedRole _ _ _ (by omega), h₁]
  · have h₇ : Only [Blk.sys, Blk.evr, Blk.que, Blk.lin] d f := h₅.only (by simp) fun a ha => ⟨Blk.lin, by simp, by
      rw [List.mem_singleton.1 ha]
      simp only [R.LIN_CTRL, Blk.lin]
      omega⟩
    have h₈ : Only [Blk.sys, Blk.evr, Blk.que, Blk.lin] f (d.supWrite .sup (R.LIN_CTRL n) x) := fun a ha => h₆.rd a (by
      have := ha Blk.lin (by simp)
      simp only [R.LIN_STATUS, Blk.lin] at this ⊢
      omega)
    exact (ht.only _ (by simp)).trans ((h₇.trans h₈).trans ((Only.complete _ _ _ _ _ _ _).mono (by simp)))

/-! ### LIN_RESP -/

/-- The bytes of a mask apply to those of the word. -/
theorem land_byte (x y : Nat) : x &&& y = (x % 256 &&& y % 256) + 256 * (x / 256 &&& y / 256) := by
  have h₁ : (x &&& y) / 2 ^ 8 = x / 2 ^ 8 &&& y / 2 ^ 8 := Nat.and_div_two_pow
  have h₂ : (x &&& y) % 2 ^ 8 = x % 2 ^ 8 &&& y % 2 ^ 8 := Nat.and_mod_two_pow
  rw [show 256 = 2 ^ 8 from rfl, ← h₁, ← h₂]
  exact (Nat.mod_add_div _ _).symm
theorem resp_mask (n : Fin 4) (i : BitVec 6) {ln : Nat} (h : ln ≤ 8) : (.ofNat 32 (n + 256 * i.toNat + 65536 * ln) : Word).toNat &&& 0xF3F03 =
    (.ofNat 32 (n + 256 * i.toNat + 65536 * ln) : Word).toNat := by
  have hi := i.isLt
  have h₀ : n.val &&& 3 = n := by
    revert n
    decide
  have h₁ : i.toNat &&& 63 = i.toNat := (Nat.and_two_pow_sub_one_eq_mod i.toNat 6).trans (Nat.mod_eq_of_lt hi)
  have h₂ : ln &&& 15 = ln := (Nat.and_two_pow_sub_one_eq_mod ln 4).trans (Nat.mod_eq_of_lt (by omega))
  rw [word_toNat (by omega), land_byte, show (n.val + 256 * i.toNat + 65536 * ln) % 256 = n by omega,
    show (n.val + 256 * i.toNat + 65536 * ln) / 256 = i.toNat + 256 * ln by omega, land_byte (i.toNat + 256 * ln), show (i.toNat + 256 * ln) % 256 = i.toNat by omega,
    show (i.toNat + 256 * ln) / 256 = ln by omega]
  simp only [Nat.reduceMod, Nat.reduceDiv, h₀, h₁, h₂]
  omega

/-- The word of a response's entry. -/
def respWord (ident ln : Nat) : Word := F.LIN_RESP_CFG_VALID.put (F.LIN_RESP_CFG_LENGTH.put (F.LIN_RESP_CFG_ID.of ident) ln) 1
theorem respWord_says {ident ln : Nat} (hi : ident < 64) (hl : ln ≤ 8) : F.LIN_RESP_CFG_VALID.get (respWord ident ln) = 1 ∧
    F.LIN_RESP_CFG_ID.get (respWord ident ln) = ident ∧ F.LIN_RESP_CFG_LENGTH.get (respWord ident ln) = ln := by
  unfold respWord
  refine ⟨(Fld.get_put _ _ _ (by decide)).trans rfl, ?_, ?_⟩
  · rw [Fld.get_put_ne F.LIN_RESP_CFG_VALID F.LIN_RESP_CFG_ID _ _ (by decide) (by decide), Fld.get_put_ne F.LIN_RESP_CFG_LENGTH F.LIN_RESP_CFG_ID _ _ (by decide) (by decide),
      Fld.of, Fld.get_put _ _ _ (by decide)]
    exact Nat.mod_eq_of_lt hi
  · rw [Fld.get_put_ne F.LIN_RESP_CFG_VALID F.LIN_RESP_CFG_LENGTH _ _ (by decide) (by decide), Fld.get_put _ _ _ (by decide)]
    exact Nat.mod_eq_of_lt (show ln < 2 ^ 4 by omega)
/-- An entry with a length from 1 to 8 is stored as it is written. -/
theorem storedResp (l : List Nat) (old x : Word) (h : 1 ≤ F.LIN_RESP_CFG_LENGTH.get x ∧ F.LIN_RESP_CFG_LENGTH.get x ≤ 8) :
    F.LIN_RESP_CFG_VALID.get (storedWord respCfgDesc l old x) = F.LIN_RESP_CFG_VALID.get x ∧
      F.LIN_RESP_CFG_ID.get (storedWord respCfgDesc l old x) = F.LIN_RESP_CFG_ID.get x ∧
      F.LIN_RESP_CFG_LENGTH.get (storedWord respCfgDesc l old x) = F.LIN_RESP_CFG_LENGTH.get x := by
  have hm : F.LIN_RESP_CFG_LENGTH.get (mergeWord respCfgDesc false false old x).1 = F.LIN_RESP_CFG_LENGTH.get x :=
    Fld.get_mergeWord F.LIN_RESP_CFG_LENGTH respCfgDesc false false old x (by decide)
  have hst : storedWord respCfgDesc l old x = (mergeWord respCfgDesc false false old x).1 := by
    show F.LIN_RESP_CFG_LENGTH.clamp 1 8 _ = _
    rw [Fld.clamp, hm, show Nat.max 1 (Nat.min 8 (F.LIN_RESP_CFG_LENGTH.get x)) = F.LIN_RESP_CFG_LENGTH.get x by
      rw [show Nat.min 8 (F.LIN_RESP_CFG_LENGTH.get x) = F.LIN_RESP_CFG_LENGTH.get x from Nat.min_eq_right h.2]
      exact Nat.max_eq_right h.1, ← hm, Fld.put_get]
  rw [hst]
  exact ⟨Fld.get_mergeWord _ respCfgDesc false false old x (by decide), Fld.get_mergeWord _ respCfgDesc false false old x (by decide), hm⟩

theorem Taken.linSlot {rq : Req} {m : Nat} {c d : Chip} (h : Taken rq m c d) (n ident : Nat) : d.linSlot n ident = c.linSlot n ident := by
  have hv (r : Nat) (f : Fld) : d.fget (R.LIN_RESP_CFG n r) f = c.fget (R.LIN_RESP_CFG n r) f := h.fget (by simp only [R.LIN_RESP_CFG]; omega) f
  simp only [Chip.linSlot, Chip.linResp, Chip.flag, hv]

theorem linResp_serves {s : State} {rq : Req} {tag : Nat} {n : Fin 4} {ident : BitVec 6} {ln : Nat} {r : Fin 16} {x y : Word}
    (h : s.chip.offers rq 0x6F tag [(.ofNat 32 (n + 256 * ident.toNat + 65536 * ln) : Word), x, y]) (hl : 1 ≤ ln ∧ ln ≤ 8) (hr : s.chip.linSlot n ident.toNat = some r.val) :
    ∃ c', exec (.linResp rq) s = .next { s with chip := c' } ∧ s.chip.served c' rq 0x6F tag 3 .ok [] ∧ c'.rd (R.LIN_RESP_D0 n r) = x ∧ c'.rd (R.LIN_RESP_D1 n r) = y ∧
      c'.flag (R.LIN_RESP_CFG n r) F.LIN_RESP_CFG_VALID = true ∧ c'.fget (R.LIN_RESP_CFG n r) F.LIN_RESP_CFG_ID = ident.toNat ∧
      c'.fget (R.LIN_RESP_CFG n r) F.LIN_RESP_CFG_LENGTH = ln ∧ Only [Blk.sys, Blk.evr, Blk.que, Blk.lin] s.chip c' := by
  obtain ⟨hs, d, ht, hc⟩ := offers_accepts h (by decide) (by simp)
  obtain ⟨k, hkd⟩ : ∃ k, k = cmdFor rq 0x6F tag [(.ofNat 32 (n + 256 * ident.toNat + 65536 * ln) : Word), x, y] := ⟨_, rfl⟩
  rw [← hkd] at hc
  have hid := ident.isLt
  have a₁ : k.arg 1 = .ofNat 32 (n + 256 * ident.toNat + 65536 * ln) := by rw [hkd]; rfl
  have a₂ : k.arg 2 = x := by rw [hkd]; rfl
  have a₃ : k.arg 3 = y := by rw [hkd]; rfl
  have hn : k.lin = n := Cmd.lin_of a₁ (by omega) (by omega)
  have hi : k.bits 1 8 6 = ident.toNat := by
    rw [Cmd.bits, a₁, word_toNat (by omega)]
    omega
  have hb : k.bits 1 16 4 = ln := by
    rw [Cmd.bits, a₁, word_toNat (by omega)]
    omega
  have hr' : d.linSlot n ident.toNat = some r.val := (ht.linSlot _ _).trans hr
  have p₀ := setting_respD0 n r
  have p₁ := setting_respD1 n r
  have p₂ := setting_respCfg n r
  obtain ⟨h₄, h₅, h₆⟩ := writes_serve (op := 0x6F) (tag := tag) (l := [(R.LIN_RESP_D0 n r, x), (R.LIN_RESP_D1 n r, y), (R.LIN_RESP_CFG n r, respWord ident.toNat ln)])
    (b := Blk.lin) [] hs ht (by simp) (by decide) (.inl rfl) (by simp [R.LIN_RESP_D0, R.LIN_RESP_D1, R.LIN_RESP_CFG])
    (List.forall_mem_cons.2 ⟨⟨_, _, p₀⟩, List.forall_mem_cons.2 ⟨⟨_, _, p₁⟩, List.forall_mem_singleton.2 ⟨_, _, p₂⟩⟩⟩) (by simp [tokens])
  simp only [List.forall_mem_cons, List.not_mem_nil, false_imp_iff, implies_true, and_true] at h₅
  obtain ⟨r₀, r₁, r₂⟩ := h₅
  obtain ⟨w₁, w₂, w₃⟩ := respWord_says (ident := ident.toNat) (ln := ln) hid hl.2
  obtain ⟨v₁, v₂, v₃⟩ := storedResp [n.val, r.val] (s.chip.rd (R.LIN_RESP_CFG n r)) (respWord ident.toNat ln) (by rw [w₃]; exact hl)
  have hrun : d.linRespCmd k = (d.supWrites [(R.LIN_RESP_D0 n r, x), (R.LIN_RESP_D1 n r, y), (R.LIN_RESP_CFG n r, respWord ident.toNat ln)]).complete rq 0x6F tag .ok [] := by
    unfold Chip.linRespCmd
    dsimp only
    rw [hn, hi, hr', a₂, a₃, hb]
    rw [hkd]
    rfl
  refine ⟨_, State.next_chip ((hc _ _ _ (by rw [hkd]; rfl) ?_).trans hrun), h₄, (r₀ _ _ p₀.toPlain).trans (stored_all _ _ _ (by decide) fun _ => rfl),
    (r₁ _ _ p₁.toPlain).trans (stored_all _ _ _ (by decide) fun _ => rfl), ?_, ?_, ?_, h₆⟩
  · have h₁ : decide (ln < 1) = false := decide_eq_false (by omega)
    have h₂ : decide (8 < ln) = false := decide_eq_false (by omega)
    simp only [Cmd.only, badArg, a₁, resp_mask n ident hl.2, hb, h₁, h₂, bne_self_eq_false, Bool.or_self, List.forall_mem_cons, true_and, List.not_mem_nil, false_imp_iff, implies_true]
  · rw [Chip.flag, Chip.fget, r₂ _ _ p₂.toPlain, v₁, w₁]
    rfl
  · rw [Chip.fget, r₂ _ _ p₂.toPlain, v₂, w₂]
  · rw [Chip.fget, r₂ _ _ p₂.toPlain, v₃, w₃]

/-! ### SVC_STATUS -/

theorem svcStatus_serves {s : State} {rq : Req} {tag : Nat} (h : s.chip.offers rq 0x70 tag []) :
    ∃ c', exec (.svcStatus rq) s = .next { s with chip := c' } ∧
      s.chip.served c' rq 0x70 tag 0 .ok [wordOf [(0, s.chip.upd.session), (16, (s.chip.upd.staging == 1).toNat)]] ∧ c'.cmds = s.chip.cmds ∧
      Only [Blk.sys, Blk.evr, Blk.que] s.chip c' := by
  obtain ⟨hs, d, ht, hc⟩ := offers_accepts h (by decide) (by simp)
  have hrun : d.svcStatus (cmdFor rq 0x70 tag []) = d.complete rq 0x70 tag .ok [wordOf [(0, s.chip.upd.session), (16, (s.chip.upd.staging == 1).toNat)]] := by
    rw [Chip.svcStatus, ht.upd]
    rfl
  exact ⟨_, State.next_chip ((hc _ _ _ rfl fun x hx => absurd hx List.not_mem_nil).trans hrun), served_says hs ht (.refl d) 0x70 tag .ok (by simp),
    (Chip.cmds_complete _ _ _ _ _ _ _).trans ht.cmds, (ht.only _ (by simp)).trans (.complete _ _ _ _ _ _ _)⟩

/-- Settles O42: each command writes its registers, with what they cause, and completes, or waits. -/
theorem canAndLinCommandsDo : Obligations.CanAndLinCommandsDo := by
  unfold Obligations.CanAndLinCommandsDo
  exact ⟨fun rq tag n b ident d s h hs hb hk => canTx_waits h hs.1 hs.2 hb hk, fun rq tag n x y z m s h he hx hy hz hm h₀ => canCfg_serves h he hx hy hz hm h₀,
    fun rq tag n s h hs => canEnable_serves h hs.1 hs.2.1 hs.2.2, fun rq tag n s h hs => canDisable_serves h hs.1 hs.2.1 hs.2.2,
    fun rq tag n k x y s h hx hy => canFilter_serves h hx hy, fun rq tag n x m d₀ d₁ k₀ k₁ s h hs hx hm => canSelwake_serves h hs.1 hs.2 hx hm,
    fun rq tag n k x s h hs => linSched_serves h hs.1 hs.2, fun rq tag n r s h => linMode_serves h, fun rq tag n ident ln r x y s h hl hr => linResp_serves h hl hr,
    fun rq tag s h => svcStatus_serves h⟩

end Sys2Proof.Machine
end

section
/-! SUPPORT. The registers of lighting that a command writes (spec/11, 0x40 to 0x4C). -/

namespace Sys2Proof.Machine
open Sys2Proof

/-! ### The decoder at the units of the sentinel -/

/-- The copies of a register lie below B. -/
def RegDesc.below (d : RegDesc) (B : Nat) : Bool :=
  match d.reps with
  | [] => decide (d.base < B)
  | (m, s, _) :: _ => decide (0 < s) && decide (d.base + m * s ≤ B)
theorem repIndex_beyond {d : RegDesc} {B a : Nat} (h : d.below B = true) (ha : B ≤ a) : repIndex d.reps (a - d.base) = none := by
  unfold RegDesc.below at h
  split at h
  next hr =>
    have := of_decide_eq_true h
    rw [hr, repIndex]
    exact if_neg (by omega)
  next m s f l hr =>
    rw [Bool.and_eq_true, decide_eq_true_eq, decide_eq_true_eq] at h
    rw [hr, repIndex]
    refine if_neg fun hlt => ?_
    have := Nat.lt_mul_of_div_lt hlt h.1
    omega
theorem findIn_beyond {B a : Nat} (ha : B ≤ a) {l : List RegDesc} (k : Nat) (h : (l.take k).all (·.below B) = true) : findIn l a = findIn (l.drop k) a := by
  induction l generalizing k with
  | nil => rw [List.drop_nil]
  | cons d l ih =>
    cases k with
    | zero => rfl
    | succ k =>
      rw [List.take_succ_cons, List.all_cons, Bool.and_eq_true] at h
      rw [List.drop_succ_cons, ← ih k h.2, findIn, repIndex_beyond h.1 ha]
      exact ite_self _
theorem blockDescs_sen {a : Nat} (h : 0x40100000 ≤ a ∧ a < 0x40200000) : blockDescs regBlocks a = senRegs := by
  simp only [regBlocks, blockDescs]
  repeat rw [if_neg (by omega)]
  rw [if_pos (by omega)]
/-- A unit of the sentinel whose registers begin at B, beyond the first k descriptors. -/
theorem findReg_sen {m s B o n a : Nat} (k : Nat) (hk : (senRegs.take k).all (·.below B) = true) {d : RegDesc} {ix : List Nat}
    (h : unitFind m s B o (senRegs.drop k) = some (d, ix)) (ha : a = B + n * s + o) (hB : 0x40100000 ≤ B ∧ a < 0x40200000) (hn : n < m) (ho : o < s) :
    findReg a = some (d, n :: ix) := by
  subst ha
  rw [findReg, blockDescs_sen (by omega), findIn_beyond (by omega) k hk]
  exact findIn_unit hn ho h

/-- The descriptors of the registers of lighting that only store. -/
def isetDesc : RegDesc := ⟨.LS_ISET, 0x40150000, [(24, 0x20, 0)], 0x3FF, 0, 0, 0, 0, 0⟩
def dutyDesc : RegDesc := ⟨.LS_DUTY, 0x40150004, [(24, 0x20, 0)], 0xFFF, 0, 0, 0, 0, 0⟩
def lsCfgDesc : RegDesc := ⟨.LS_CFG, 0x40150008, [(24, 0x20, 0)], 0xF7FFCFFF, 0, 0, 0, 0, 0xF03C0000⟩
def commitMaskDesc : RegDesc := ⟨.LED_COMMIT_MASK, 0x40150410, [], 0xFFFFFF, 0, 0, 0, 0, 0⟩
def ledHoldDesc : RegDesc := ⟨.LED_HOLD_TIME, 0x40150418, [], 0x3FF, 0, 0, 0, 0, 0x32⟩
def levelDesc : RegDesc := ⟨.LF_LEVEL, 0x40150504, [(12, 0x20, 0)], 0xFFF, 0, 0, 0, 0, 0⟩
def derateDesc : RegDesc := ⟨.LF_DERATE, 0x40150508, [(12, 0x20, 0)], 0xFFFFFFFF, 0, 0, 0, 0, 0x879B8080⟩
def ch01Desc : RegDesc := ⟨.LF_CH01, 0x4015050C, [(12, 0x20, 0)], 0x80FF80FF, 0, 0, 0, 0, 0⟩
def ch23Desc : RegDesc := ⟨.LF_CH23, 0x40150510, [(12, 0x20, 0)], 0x80FF80FF, 0, 0, 0, 0, 0⟩
def peStepDesc : RegDesc := ⟨.PE_STEP, 0x40151100, [(8, 0x200, 0), (64, 0x4, 0)], 0xFFFFFFFF, 0, 0, 0, 0, 0⟩
def ntcCfgDesc : RegDesc := ⟨.NTC_CFG, 0x40160000, [(8, 0x10, 0)], 0xFFFFFFFF, 0, 0, 0, 0, 0xD6B0064⟩

section
variable (x : Fin 24) (g : Fin 12)
theorem findReg_sink {o a : Nat} (ha : a = 0x40150000 + x * 0x20 + o) (ho : o < 0x20) {d : RegDesc} {ix : List Nat}
    (h : unitFind 24 0x20 0x40150000 o (senRegs.drop 25) = some (d, ix)) : findReg a = some (d, x.val :: ix) :=
  findReg_sen 25 (by decide) h ha (by omega) x.2 ho
theorem findReg_group {o a : Nat} (ha : a = 0x40150500 + g * 0x20 + o) (ho : o < 0x20) {d : RegDesc} {ix : List Nat}
    (h : unitFind 12 0x20 0x40150500 o (senRegs.drop 39) = some (d, ix)) : findReg a = some (d, g.val :: ix) :=
  findReg_sen 39 (by decide) h ha (by omega) g.2 ho
theorem setting_iset : Setting 1 Blk.sen (R.LS_ISET x) isetDesc [x.val] :=
  setting_sen (by simp only [R.LS_ISET]; omega) ⟨findReg_sink x (o := 0) (by simp only [R.LS_ISET]; omega) (by decide) (by decide), by decide, by decide, rfl, rfl, fun _ => rfl⟩
theorem setting_duty : Setting 1 Blk.sen (R.LS_DUTY x) dutyDesc [x.val] :=
  setting_sen (by simp only [R.LS_DUTY]; omega) ⟨findReg_sink x (o := 4) (by simp only [R.LS_DUTY]; omega) (by decide) (by decide), by decide, by decide, rfl, rfl, fun _ => rfl⟩
theorem setting_lsCfg : Setting 1 Blk.sen (R.LS_CFG x) lsCfgDesc [x.val] :=
  setting_sen (by simp only [R.LS_CFG]; omega) ⟨findReg_sink x (o := 8) (by simp only [R.LS_CFG]; omega) (by decide) (by decide), by decide, by decide, rfl, rfl, fun _ => rfl⟩
theorem setting_level : Setting 1 Blk.sen (R.LF_LEVEL g) levelDesc [g.val] :=
  setting_sen (by simp only [R.LF_LEVEL]; omega) ⟨findReg_group g (o := 4) (by simp only [R.LF_LEVEL]; omega) (by decide) (by decide), by decide, by decide, rfl, rfl, fun _ => rfl⟩
theorem setting_derate : Setting 1 Blk.sen (R.LF_DERATE g) derateDesc [g.val] :=
  setting_sen (by simp only [R.LF_DERATE]; omega) ⟨findReg_group g (o := 8) (by simp only [R.LF_DERATE]; omega) (by decide) (by decide), by decide, by decide, rfl, rfl, fun _ => rfl⟩
theorem setting_ch01 : Setting 1 Blk.sen (R.LF_CH01 g) ch01Desc [g.val] :=
  setting_sen (by simp only [R.LF_CH01]; omega) ⟨findReg_group g (o := 12) (by simp only [R.LF_CH01]; omega) (by decide) (by decide), by decide, by decide, rfl, rfl, fun _ => rfl⟩
theorem setting_ch23 : Setting 1 Blk.sen (R.LF_CH23 g) ch23Desc [g.val] :=
  setting_sen (by simp only [R.LF_CH23]; omega) ⟨findReg_group g (o := 16) (by simp only [R.LF_CH23]; omega) (by decide) (by decide), by decide, by decide, rfl, rfl, fun _ => rfl⟩
end
theorem setting_commitMask : Setting 1 Blk.sen R.LED_COMMIT_MASK commitMaskDesc [] :=
  setting_sen (by decide) ⟨rfl, by decide, by decide, rfl, rfl, fun _ => rfl⟩
theorem setting_ledHold : Setting 1 Blk.sen R.LED_HOLD_TIME ledHoldDesc [] :=
  setting_sen (by decide) ⟨rfl, by decide, by decide, rfl, rfl, fun _ => rfl⟩
theorem setting_ntcCfg (i : Fin 8) : Setting 1 Blk.sen (R.NTC_CFG i) ntcCfgDesc [i.val] :=
  setting_sen (by simp only [R.NTC_CFG]; omega) ⟨findReg_sen (m := 8) (s := 0x10) (B := 0x40160000) (o := 0) 49 (by decide) (by decide) (by simp only [R.NTC_CFG]; omega)
    (by simp only [R.NTC_CFG]; omega) i.2 (by decide), by decide, by decide, rfl, rfl, fun _ => rfl⟩
theorem findReg_peStep (e : Fin 8) (k : Fin 64) : findReg (R.PE_STEP e k) = some (peStepDesc, [e.val, k.val]) :=
  findReg_sen (m := 8) (s := 0x200) (B := 0x40151000) (o := 0x100 + 4 * k) 45 (by decide) (by revert k; decide) (by simp only [R.PE_STEP]; omega)
    (by simp only [R.PE_STEP]; omega) e.2 (by omega)

/-! ### A command that writes one register of the sentinel, and completes -/

/-- What a command's one plain register of the sentinel takes. -/
theorem sets_one {s : State} {d : Chip} {rq : Req} {op tag n a : Nat} {D : RegDesc} {ix : List Nat} (x : Word) (hs : s.chip.serves rq = true) (ht : Taken rq n s.chip d)
    (hl : s.chip.linkUp 1 = true) (hi : s.chip.inStep 1 = true) (hp : Setting 1 Blk.sen a D ix) :
    s.chip.served ((d.supWrite .sup a x).complete rq op tag .ok []) rq op tag n .ok [] ∧
      ((d.supWrite .sup a x).complete rq op tag .ok []).rd a = storedWord D ix (s.chip.rd a) x ∧
      Only [Blk.sys, Blk.evr, Blk.que, Blk.sen] s.chip ((d.supWrite .sup a x).complete rq op tag .ok []) := by
  obtain ⟨h₁, h₂, h₃⟩ := writes_serve (op := op) (tag := tag) (l := [(a, x)]) (b := Blk.sen) [] hs ht (by simp) (by decide) (ht.reaches (k := 1) (by decide) hl hi) (by simp)
    (List.forall_mem_singleton.2 ⟨_, _, hp⟩) (by rw [tokens_one]; decide)
  exact ⟨h₁, h₂ _ (List.mem_singleton_self _) _ _ hp.toPlain, h₃⟩

end Sys2Proof.Machine
end

section
/-! PROOF. The commands of lighting that only write registers (spec/11, 0x41, 0x45, 0x47, 0x4B, 0x4C). -/

namespace Sys2Proof.Machine
open Sys2Proof

theorem Cmd.bits_of {k : Cmd} {j lo w v n : Nat} (h : k.arg j = .ofNat 32 v) (hv : v < 2 ^ 32) (hm : v / 2 ^ lo % 2 ^ w = n) : k.bits j lo w = n := by
  rw [Cmd.bits, h, word_toNat hv, hm]
theorem only_small {k : Cmd} {j v : Nat} (mask w : Nat) (h : k.arg j = .ofNat 32 v) (hv : v < 2 ^ w) (hw : w < 32) (hm : mask = 2 ^ w - 1) : (k.only j mask).1 = false := by
  have := Nat.pow_lt_pow_right (a := 2) (by decide) hw
  rw [Cmd.only, badArg, h, word_toNat (by omega), hm, Nat.and_two_pow_sub_one_eq_mod, Nat.mod_eq_of_lt hv]
  exact bne_self_eq_false v

section
variable {rq : Req} {n : Nat} {c d : Chip}
theorem Taken.offLink (h : Taken rq n c d) (arg : Nat) {m : Nat} (hm : m < 8) (hl : c.linkUp m = true) : (d.offLink m arg).1 = false := by
  rw [Chip.offLink, (h.linkUp hm).trans hl]
  rfl
theorem Taken.sink (h : Taken rq n c d) (x : Nat) : d.sink x = c.sink x := by
  rw [Chip.sink, h.field (·.sinks)]
  rfl
theorem Taken.sinkEnabled (h : Taken rq n c d) (x : Nat) : d.sinkEnabled x = c.sinkEnabled x := by
  rw [Chip.sinkEnabled, Chip.sinkEnabled, h.flag (by simp only [R.LS_CTRL]; omega), h.sink]
theorem Taken.groupEnabled (h : Taken rq n c d) (g : Nat) : d.groupEnabled g = c.groupEnabled g := h.flag (by simp only [R.LF_CFG]; omega) _
theorem Taken.engRuns (h : Taken rq n c d) (e : Nat) : d.engRuns e = c.engRuns e := congrArg (· == 1) (h.fget (by simp only [R.PE_STATUS]; omega) _)
end

/-- The fields of LS_CFG that are stored clamped, or kept. -/
def lsCfgNorm : List (Fld × (Nat → Nat → Nat)) := [(F.LS_CFG_LIMP_MODE, keepOn (· == 3)), (F.LS_CFG_SHORT_HR, clampTo 20 200)]
theorem lsCfgNorm_eq (l : List Nat) (o z : Word) : regNorm .LS_CFG l o z = normAll lsCfgNorm o z := by
  show F.LS_CFG_LIMP_MODE.keep (· == 3) o (F.LS_CFG_SHORT_HR.clamp 20 200 z) = _
  rw [Fld.clamp_eq _ _ _ o, Fld.keep_eq]
  rfl

/-! ### PE_LOAD -/

theorem peStep_mask (e : Fin 8) (i : Fin 63) : (.ofNat 32 (e + 256 * i) : Word).toNat &&& 0x3F07 = (.ofNat 32 (e + 256 * i) : Word).toNat := by
  have h₁ : e.val &&& 7 = e := (Nat.and_two_pow_sub_one_eq_mod e 3).trans (Nat.mod_eq_of_lt e.2)
  have h₂ : i.val &&& 63 = i := (Nat.and_two_pow_sub_one_eq_mod i 6).trans (Nat.mod_eq_of_lt (by omega))
  rw [word_toNat (by omega), land_byte, show (e.val + 256 * i) % 256 = e by omega, show (e.val + 256 * i) / 256 = i by omega]
  simp only [Nat.reduceMod, Nat.reduceDiv, h₁, h₂]
/-- A step of an engine that does not run takes the word. -/
theorem peStep_lands {c : Chip} (e : Fin 8) {k : Nat} (hk : k < 64) (x : Word) (hr : c.reaches 1) (he : c.engRuns e = false) :
    Wrote [R.PE_STEP e k, 0x40100004] c (c.supWrite .sup (R.PE_STEP e k) x) ∧ (c.supWrite .sup (R.PE_STEP e k) x).rd (R.PE_STEP e k) = x := by
  have hd : dieOf (R.PE_STEP e k) = 1 := if_pos (by simp only [R.PE_STEP]; omega)
  obtain ⟨d, h₁, hw⟩ := c.supWrite_reaches (a := R.PE_STEP e k) x (by rw [hd]; exact hr)
  rw [hd, tokens_one] at h₁
  have hst : d.fget (R.PE_STATUS e) F.PE_STATUS_STATUS ≠ 1 := by
    rw [h₁.fget (by simp only [List.mem_singleton, R.PE_STATUS]; omega) (by simp only [clockReg, R.PE_STATUS]; omega)]
    exact fun h => absurd ((beq_iff_eq).2 h) (by simpa [Chip.engRuns] using he)
  have hp : d.regWrite .sup (R.PE_STEP e k) x = d.plainWrite .sup peStepDesc [e.val, k] (R.PE_STEP e k) x := by
    simp [Chip.regWrite, findReg_peStep e ⟨k, hk⟩, peStepDesc, writerOk_sup, hst]
  rw [hw, hp, Chip.plainWrite_open rfl rfl, Chip.wrote_quiet _ _ _ _ _ (by decide)]
  exact ⟨(h₁.trans (.of_wr d _ _)).mono (by simp), (Chip.rd_wr_self _ _ _).trans (stored_all _ _ _ (by decide) fun _ => rfl)⟩

section
variable {s : State} {rq : Req} {tag : Nat} (hl : s.chip.linkUp 1 = true) (hi : s.chip.inStep 1 = true)
include hl hi

theorem lsCfg_serves {x : Fin 24} {w : Word} (h : s.chip.offers rq 0x41 tag [(.ofNat 32 x : Word), w]) (hw : layoutOk .LS_CFG [x.val] w = true)
    (he : s.chip.sinkEnabled x = true) :
    ∃ c', exec (.lsCfg rq) s = .next { s with chip := c' } ∧ s.chip.served c' rq 0x41 tag 2 .ok [] ∧ c'.took .LS_CFG (R.LS_CFG x) w ∧
      Only [Blk.sys, Blk.evr, Blk.que, Blk.sen] s.chip c' := by
  obtain ⟨hs, d, ht, hc⟩ := offers_accepts h (by decide) (by simp)
  obtain ⟨k, hkd⟩ : ∃ k, k = cmdFor rq 0x41 tag [(.ofNat 32 x : Word), w] := ⟨_, rfl⟩
  rw [← hkd] at hc
  have a₁ : k.arg 1 = .ofNat 32 x := by rw [hkd]; rfl
  have a₂ : k.arg 2 = w := by rw [hkd]; rfl
  have hx : k.sink = x := Cmd.bits_of a₁ (by omega) (by omega)
  have hlt : decide (24 ≤ x.val) = false := decide_eq_false (by omega)
  obtain ⟨h₁, h₂, h₃⟩ := sets_one (op := 0x41) (tag := tag) w hs ht hl hi (setting_lsCfg x)
  refine ⟨_, State.next_chip ((hc _ _ _ (by rw [hkd]; rfl) ?_).trans (by rw [Chip.lsCfg, hx, a₂, hkd]; rfl)), h₁,
    Chip.took_layout lsCfgNorm h₂ (by decide) (lsCfgNorm_eq _) (by decide) (by simp [lsCfgNorm, steady_keepOn, steady_clampTo]) (by decide) hw, h₃⟩
  simp only [Cmd.sinkOk, Cmd.lay, badArg, disabledIf, hx, a₂, only_small 0x1F 5 a₁ (by omega) (by decide) rfl, hlt, hw, ht.offLink x (m := 1) (by decide) hl, ht.sinkEnabled, he,
    Bool.not_true, List.cons_append, List.nil_append, List.forall_mem_cons, true_and, List.not_mem_nil, false_imp_iff, implies_true]

theorem lfDerate_serves {g : Fin 12} {w : Word} (h : s.chip.offers rq 0x45 tag [(.ofNat 32 g : Word), w]) (hw : layoutOk .LF_DERATE [g.val] w = true)
    (he : s.chip.groupEnabled g = true) :
    ∃ c', exec (.lfDerate rq) s = .next { s with chip := c' } ∧ s.chip.served c' rq 0x45 tag 2 .ok [] ∧ c'.took .LF_DERATE (R.LF_DERATE g) w ∧
      Only [Blk.sys, Blk.evr, Blk.que, Blk.sen] s.chip c' := by
  obtain ⟨hs, d, ht, hc⟩ := offers_accepts h (by decide) (by simp)
  obtain ⟨k, hkd⟩ : ∃ k, k = cmdFor rq 0x45 tag [(.ofNat 32 g : Word), w] := ⟨_, rfl⟩
  rw [← hkd] at hc
  have a₁ : k.arg 1 = .ofNat 32 g := by rw [hkd]; rfl
  have a₂ : k.arg 2 = w := by rw [hkd]; rfl
  have hg : k.group = g := Cmd.bits_of a₁ (by omega) (by omega)
  have hlt : decide (12 ≤ g.val) = false := decide_eq_false (by omega)
  obtain ⟨h₁, h₂, h₃⟩ := sets_one (op := 0x45) (tag := tag) w hs ht hl hi (setting_derate g)
  refine ⟨_, State.next_chip ((hc _ _ _ (by rw [hkd]; rfl) ?_).trans (by rw [Chip.lfDerate, hg, a₂, hkd]; rfl)), h₁,
    Chip.took_stored (D := derateDesc) h₂ (by decide) rfl, h₃⟩
  simp only [Cmd.groupOk, Cmd.lay, badArg, disabledIf, hg, a₂, only_small 0xF 4 a₁ (by omega) (by decide) rfl, hlt, hw, ht.offLink g (m := 1) (by decide) hl, ht.groupEnabled, he,
    Bool.not_true, List.cons_append, List.nil_append, List.forall_mem_cons, true_and, List.not_mem_nil, false_imp_iff, implies_true]

theorem ntcSet_serves {i : Fin 8} {w : Word} (h : s.chip.offers rq 0x4B tag [(.ofNat 32 i : Word), w]) (hw : layoutOk .NTC_CFG [i.val] w = true) :
    ∃ c', exec (.ntcSet rq) s = .next { s with chip := c' } ∧ s.chip.served c' rq 0x4B tag 2 .ok [] ∧ c'.took .NTC_CFG (R.NTC_CFG i) w ∧
      Only [Blk.sys, Blk.evr, Blk.que, Blk.sen] s.chip c' := by
  obtain ⟨hs, d, ht, hc⟩ := offers_accepts h (by decide) (by simp)
  obtain ⟨k, hkd⟩ : ∃ k, k = cmdFor rq 0x4B tag [(.ofNat 32 i : Word), w] := ⟨_, rfl⟩
  rw [← hkd] at hc
  have a₁ : k.arg 1 = .ofNat 32 i := by rw [hkd]; rfl
  have a₂ : k.arg 2 = w := by rw [hkd]; rfl
  have hg : k.engine = i := Cmd.bits_of a₁ (by omega) (by omega)
  obtain ⟨h₁, h₂, h₃⟩ := sets_one (op := 0x4B) (tag := tag) w hs ht hl hi (setting_ntcCfg i)
  refine ⟨_, State.next_chip ((hc _ _ _ (by rw [hkd]; rfl) ?_).trans (by rw [Chip.ntcSet, hg, a₂, hkd]; rfl)), h₁,
    Chip.took_stored (D := ntcCfgDesc) h₂ (by decide) rfl, h₃⟩
  simp only [Cmd.lay, badArg, hg, a₂, only_small 7 3 a₁ (by omega) (by decide) rfl, hw, ht.offLink i (m := 1) (by decide) hl,
    Bool.not_true, List.forall_mem_cons, true_and, List.not_mem_nil, false_imp_iff, implies_true]

theorem ledHoldSet_serves {w : Word} (h : s.chip.offers rq 0x4C tag [w]) (hw : layoutOk .LED_HOLD_TIME [] w = true) :
    ∃ c', exec (.ledHoldSet rq) s = .next { s with chip := c' } ∧ s.chip.served c' rq 0x4C tag 1 .ok [] ∧ c'.took .LED_HOLD_TIME R.LED_HOLD_TIME w ∧
      Only [Blk.sys, Blk.evr, Blk.que, Blk.sen] s.chip c' := by
  obtain ⟨hs, d, ht, hc⟩ := offers_accepts h (by decide) (by simp)
  obtain ⟨k, hkd⟩ : ∃ k, k = cmdFor rq 0x4C tag [w] := ⟨_, rfl⟩
  rw [← hkd] at hc
  have a₁ : k.arg 1 = w := by rw [hkd]; rfl
  obtain ⟨h₁, h₂, h₃⟩ := sets_one (op := 0x4C) (tag := tag) w hs ht hl hi setting_ledHold
  refine ⟨_, State.next_chip ((hc _ _ _ (by rw [hkd]; rfl) ?_).trans (by rw [Chip.ledHoldSet, a₁, hkd]; rfl)), h₁,
    Chip.took_layout [(F.LED_HOLD_TIME_HOLD, clampTo 0 1000)] h₂ (by decide) (fun _ _ => rfl) (by decide) (by simp [steady_clampTo]) (by decide) hw, h₃⟩
  simp only [Cmd.lay, badArg, a₁, hw, ht.offLink 0xFFFF (m := 1) (by decide) hl, Bool.not_true, List.forall_mem_cons, true_and, List.not_mem_nil, false_imp_iff, implies_true]

theorem peLoad_serves {e : Fin 8} {i : Fin 63} {x y : Word} (h : s.chip.offers rq 0x47 tag [(.ofNat 32 (e + 256 * i) : Word), x, y]) (he : s.chip.engRuns e = false) :
    ∃ c', exec (.peLoad rq) s = .next { s with chip := c' } ∧ s.chip.served c' rq 0x47 tag 3 .ok [] ∧ c'.rd (R.PE_STEP e i) = x ∧ c'.rd (R.PE_STEP e (i + 1)) = y ∧
      Only [Blk.sys, Blk.evr, Blk.que, (R.PE_STEP e i, R.PE_STEP e i + 8), Blk.sen] s.chip c' := by
  obtain ⟨hs, d, ht, hc⟩ := offers_accepts h (by decide) (by simp)
  obtain ⟨k, hkd⟩ : ∃ k, k = cmdFor rq 0x47 tag [(.ofNat 32 (e + 256 * i) : Word), x, y] := ⟨_, rfl⟩
  rw [← hkd] at hc
  obtain ⟨a₁, a₂, a₃, hw⟩ : k.arg 1 = .ofNat 32 (e + 256 * i) ∧ k.arg (2 + 0) = x ∧ k.arg (2 + 1) = y ∧ k.w.length - 1 = 2 := by
    rw [hkd]
    exact ⟨rfl, rfl, rfl, rfl⟩
  have hg : k.engine = e := Cmd.bits_of a₁ (by omega) (by omega)
  have hi₁ : k.bits 1 8 6 = i := Cmd.bits_of a₁ (by omega) (by omega)
  have hr : d.reaches 1 := ht.reaches (by decide) hl hi
  have hde : d.engRuns e = false := (ht.engRuns e).trans he
  obtain ⟨f, hf⟩ : ∃ f, f = d.supWrite .sup (R.PE_STEP e i) x := ⟨_, rfl⟩
  obtain ⟨h₁, h₂⟩ := peStep_lands e (k := i) (by omega) x hr hde
  rw [← hf] at h₁ h₂
  have hfe : f.engRuns e = false := by
    rw [← hde]
    exact congrArg (· == 1) (h₁.fget (by simp only [List.mem_cons, List.not_mem_nil, or_false, R.PE_STATUS, R.PE_STEP]; omega) (by simp only [clockReg, R.PE_STATUS]; omega) _)
  obtain ⟨h₃, h₄⟩ := peStep_lands e (k := i + 1) (by omega) y (h₁.reaches (by decide) (by simp [R.PE_STEP]; omega) hr) hfe
  obtain ⟨g, hg'⟩ : ∃ g, g = f.supWrite .sup (R.PE_STEP e (i + 1)) y := ⟨_, rfl⟩
  rw [← hg'] at h₃ h₄
  have h₅ := h₁.trans h₃
  have hge : ∀ a ∈ [R.PE_STEP e i, 0x40100004] ++ [R.PE_STEP e (i + 1), 0x40100004], 0x40100000 ≤ a ∧ a < 0x40200000 := by
    simp only [List.cons_append, List.nil_append, List.forall_mem_cons, R.PE_STEP]
    simp
    omega
  have hrun : d.peLoad k = g.complete rq 0x47 tag .ok [] := by
    unfold Chip.peLoad
    rw [hw, hg, hi₁]
    show ((d.supWrite .sup (R.PE_STEP e (i + 0)) (k.arg (2 + 0))).supWrite .sup (R.PE_STEP e (i + 1)) (k.arg (2 + 1))).done k = _
    rw [a₂, a₃, Nat.add_zero, ← hf, ← hg', hkd]
    rfl
  refine ⟨_, State.next_chip ((hc _ _ _ (by rw [hkd]; rfl) ?_).trans hrun), served_says hs ht (h₅.unanswered fun a ha => .inr (by have := hge a ha; omega)) 0x47 tag .ok (by simp),
    ?_, ?_, ?_⟩
  · have h₆ : (k.only 1 0x3F07).1 = false := by
      rw [Cmd.only, badArg, a₁]
      rw [peStep_mask e i]
      exact bne_self_eq_false _
    have h₇ : decide (64 < i.val + 2) = false := decide_eq_false (by omega)
    simp only [badArg, refusedBy, hg, hi₁, hw, h₆, h₇, hde, ht.offLink e (m := 1) (by decide) hl, List.forall_mem_cons, true_and, List.not_mem_nil, false_imp_iff, implies_true]
  · rw [Chip.rd_complete _ _ _ _ _ _ _ (by simp only [R.PE_STEP]; omega),
      h₃.rd _ (by simp only [List.mem_cons, List.not_mem_nil, or_false, R.PE_STEP]; omega) (by simp only [clockReg, R.PE_STEP]; omega), h₂]
  · rw [Chip.rd_complete _ _ _ _ _ _ _ (by simp only [R.PE_STEP]; omega), h₄]
  · exact (ht.only _ (by simp)).trans ((h₅.only (by simp) fun a ha => ⟨Blk.sen, by simp, hge a ha⟩).trans ((Only.complete _ _ _ _ _ _ _).mono (by simp)))

end
end Sys2Proof.Machine
end

section
/-! PROOF. The commands of the sinks and of the converter (spec/11, 0x40, 0x42, 0x43, 0x4A). -/

namespace Sys2Proof.Machine
open Sys2Proof

/-! ### Registers that store, and then one that acts -/

section
variable {c : Chip} {n : Nat}
/-- The supervisor's writes of a list, whose last is to a register that acts. -/
theorem Chip.supWrites_act {l : List (Nat × Word)} {a : Nat} (x : Word) (hn : n < 8) (hr : c.reaches n) (hd : (l.map (·.1)).Nodup)
    (hl : ∀ p ∈ l, dieOf p.1 = n ∧ ¬ clockReg p.1 ∧ p.1 ∉ tokens n ∧ ∃ D ix, Plain p.1 D ix) (ha : dieOf a = n) :
    ∃ e, Wrote (l.map (·.1) ++ tokens n) c e ∧ (∀ p ∈ l, ∀ D ix, Plain p.1 D ix → e.rd p.1 = storedWord D ix (c.rd p.1) p.2) ∧
      c.supWrites (l ++ [(a, x)]) = e.regWrite .sup a x := by
  obtain ⟨h₁, h₂⟩ := Chip.supWrites_plain hn hr hd hl
  have hge : n ≠ 0 → ∀ b ∈ l.map (·.1) ++ tokens n, 0x40100000 ≤ b := fun h₀ b hb => by
    obtain hb | hb := List.mem_append.1 hb
    · obtain ⟨p, hp, rfl⟩ := List.mem_map.1 hb
      exact (dieOf_ge (by rw [(hl p hp).1]; exact h₀)).1
    · exact (mem_tokens hn hb).1
  obtain ⟨e, h₃, h₄⟩ := (c.supWrites l).supWrite_reaches (a := a) x (by rw [ha]; exact h₁.reaches hn hge hr)
  rw [ha] at h₃
  refine ⟨e, (h₁.trans h₃).mono (by simp), fun p hp D ix hpl => ?_, ?_⟩
  · obtain ⟨-, hck, ht, -⟩ := hl p hp
    rw [h₃.rd _ ht hck, h₂ p hp D ix hpl]
  · have : c.supWrites (l ++ [(a, x)]) = (c.supWrites l).supWrite .sup a x := List.foldl_append ..
    rw [this, h₄]
end

/-- A command's writes at the sentinel, with what the last of them causes, and its completion. -/
theorem acts_serve {c d e f : Chip} {rq : Req} {op tag n : Nat} {A : List Nat} {res : List Word} (hs : c.serves rq = true) (ht : Taken rq n c d) (hr : res.length ≤ 32)
    (hw : Wrote A d e) (hA : ∀ a ∈ A, 0x40100000 ≤ a ∧ a < 0x40200000) (hu : Unanswered rq e f) (ho : Only [Blk.sys, Blk.evr, Blk.que, Blk.sen] e f) :
    c.served (f.complete rq op tag .ok res) rq op tag n .ok res ∧ Only [Blk.sys, Blk.evr, Blk.que, Blk.sen] c (f.complete rq op tag .ok res) :=
  ⟨served_says hs ht ((hw.unanswered fun a ha => .inr (by have := hA a ha; omega)).trans hu) op tag .ok hr,
    (ht.only _ (by simp)).trans ((hw.only (by simp) fun a ha => ⟨Blk.sen, by simp, hA a ha⟩).trans (ho.trans ((Only.complete _ _ _ _ _ _ _).mono (by simp))))⟩

/-! ### What the sinks and the converter show -/

/-- Of the registers, the status of the converter and of the sinks alone have changed, and what an answer rests on has not. -/
structure LedShown (rq : Req) (c d : Chip) : Prop where
  rd : ∀ a, a ≠ R.LED_HR_STATUS → (∀ x < 24, a ≠ R.LS_STATUS x) → d.rd a = c.rd a
  ans : Unanswered rq c d

namespace LedShown
variable {rq : Req} {c d e : Chip}
theorem refl (c : Chip) : LedShown rq c c := ⟨fun _ _ _ => rfl, .refl c⟩
theorem trans (h : LedShown rq c d) (h' : LedShown rq d e) : LedShown rq c e := ⟨fun a h₁ h₂ => (h'.rd a h₁ h₂).trans (h.rd a h₁ h₂), h.ans.trans h'.ans⟩
theorem ite {p : Prop} [Decidable p] (h : LedShown rq c d) (h' : LedShown rq c e) : LedShown rq c (if p then d else e) := by
  split
  · exact h
  · exact h'
theorem range {f : Chip → Nat → Chip} (h : ∀ c x, x < 24 → LedShown rq c (f c x)) (c : Chip) : LedShown rq c ((List.range 24).foldl f c) :=
  List.foldlRecOn _ f (motive := fun d => LedShown rq c d) (refl c) fun d hd x hx => hd.trans (h d x (List.mem_range.1 hx))
theorem setSink (c : Chip) (x : Nat) (y : SinkX) : LedShown rq c (c.setSink x y) := ⟨fun _ _ _ => rfl, ⟨rfl, rfl, rfl, rfl, rfl⟩⟩
theorem stops (c : Chip) (l : List Nat) : LedShown rq c { c with hrStops := l } := ⟨fun _ _ _ => rfl, ⟨rfl, rfl, rfl, rfl, rfl⟩⟩
theorem sink (c : Chip) {x : Nat} (hx : x < 24) (f : Fld) (v : Nat) : LedShown rq c (c.fset (R.LS_STATUS x) f v) :=
  ⟨fun _ _ h => Chip.rd_fset_ne c f v (h x hx), .fset c f v (by simp only [R.LS_STATUS]; omega)⟩
theorem hr (c : Chip) (f : Fld) (v : Nat) : LedShown rq c (c.fset R.LED_HR_STATUS f v) :=
  ⟨fun _ h _ => Chip.rd_fset_ne c f v h, .fset c f v (by decide)⟩
theorem setSinkRun (c : Chip) {x : Nat} (hx : x < 24) (y : SinkState) : LedShown rq c (c.setSinkRun x y) := ite (setSink c x _) (sink c hx _ _)
theorem shown (c : Chip) {x : Nat} (hx : x < 24) (y : SinkState) (k : Nat) : LedShown rq c ((c.setSinkRun x y).sinkFaultCode x k) :=
  (setSinkRun c hx y).trans (sink _ hx _ k)
theorem sinkSettle (c : Chip) {x : Nat} (hx : x < 24) : LedShown rq c (c.sinkSettle x) := by
  have hw : LedShown rq c (if c.sinkWanted x then if c.hrRuns then (c.setSinkRun x .on).sinkFaultCode x 0 else (c.setSinkRun x .vledWait).sinkFaultCode x 4
      else (c.setSinkRun x .off).sinkFaultCode x 0) := ite (ite (shown c hx _ _) (shown c hx _ _)) (shown c hx _ _)
  unfold Chip.sinkSettle
  split
  case h_4 => exact refl c
  all_goals exact hw
theorem boundVset (c : Chip) : LedShown rq c c.boundVset := by
  unfold Chip.boundVset
  extract_lets v d top e
  have hd : LedShown rq c d := ite (refl c) (hr c _ _)
  have he : LedShown rq d e := hr d _ _
  exact hd.trans (he.trans (ite (refl e) (range (fun c x hx => sink c hx _ _) e)))
theorem hrBegin (c : Chip) : LedShown rq c c.hrBegin := by
  rw [Chip.hrBegin_eq]
  exact ((hr c _ 0).trans (hr _ _ 1200)).trans ((boundVset _).trans (range (fun c x hx => ite (sinkSettle c hx) (refl c)) _))
theorem hrSwitched (c : Chip) (old x : Word) : LedShown rq c (c.hrSwitched old x) := by
  unfold Chip.hrSwitched
  exact ite (ite (hrBegin c) (refl c)) (range (fun c x hx => ite (sinkSettle c hx) (refl c)) c)
theorem hrCtrl (c : Chip) (old x : Word) : LedShown rq c (c.hrCtrl old x) := by
  rw [Chip.hrCtrl_eq]
  have h₁ : LedShown rq c.boundVset c.boundVset.hrReleased.hrBegin := ((stops _ []).trans (hr _ _ 0)).trans (hrBegin _)
  exact ((boundVset c).trans (ite h₁ (refl _))).trans (hrSwitched _ old x)
theorem sinkRearm (c : Chip) {x : Nat} (hx : x < 24) : LedShown rq c (c.sinkRearm x) := ite ((setSink c x _).trans (shown _ hx _ 0)) (refl c)
theorem captures (l : List Nat) (c : Chip) : LedShown rq c (l.foldl Chip.sinkCapture c) :=
  List.foldlRecOn l Chip.sinkCapture (motive := fun d => LedShown rq c d) (refl c) fun _ hd _ _ => hd.trans (setSink _ _ _)
theorem only (h : LedShown rq c d) {l : List (Nat × Nat)} (hl : Blk.sen ∈ l) : Only l c d := fun a ha => h.rd a
  (fun he => by have := ha _ hl; simp only [Blk.sen, he, R.LED_HR_STATUS] at this; omega)
  fun x hx he => by have := ha _ hl; simp only [Blk.sen, he, R.LS_STATUS] at this; omega
end LedShown

theorem setCtrl_word (e : Bool) : F.LS_CTRL_EN.get (F.LS_CTRL_APPLY.put (F.LS_CTRL_EN.of e.toNat) 1) = e.toNat ∧
    F.LS_CTRL_APPLY.get (F.LS_CTRL_APPLY.put (F.LS_CTRL_EN.of e.toNat) 1) = 1 ∧ F.LS_CTRL_REARM.get (F.LS_CTRL_APPLY.put (F.LS_CTRL_EN.of e.toNat) 1) ≠ 1 := by
  cases e <;> decide
theorem apply_mask (x : Fin 24) : (.ofNat 32 (x + 256) : Word).toNat &&& 0x11F = (.ofNat 32 (x + 256) : Word).toNat := by
  revert x
  decide

theorem commit_mask (m : BitVec 24) : (.ofNat 32 m.toNat : Word).toNat &&& 0xFFFFFF = (.ofNat 32 m.toNat : Word).toNat := by
  have := m.isLt
  rw [word_toNat (by omega)]
  exact (Nat.and_two_pow_sub_one_eq_mod _ 24).trans (Nat.mod_eq_of_lt this)

section
variable {s : State} {rq : Req} {tag : Nat} (hl : s.chip.linkUp 1 = true) (hi : s.chip.inStep 1 = true)
include hl hi

/-! ### LS_SET -/

theorem lsSet_serves {x : Fin 24} {i w : Word} {e : Bool} (h : s.chip.offers rq 0x40 tag [(.ofNat 32 (x.val + 256) : Word), i, w, (.ofNat 32 e.toNat : Word)])
    (hi₁ : layoutOk .LS_ISET [x.val] i = true) (hw : layoutOk .LS_DUTY [x.val] w = true) (he : s.chip.sinkEnabled x = true ∨ e = true) :
    ∃ c', exec (.lsSet rq) s = .next { s with chip := c' } ∧ s.chip.served c' rq 0x40 tag 4 .ok [] ∧ c'.took .LS_ISET (R.LS_ISET x) i ∧
      c'.took .LS_DUTY (R.LS_DUTY x) w ∧ (c'.sink x).pend = some ⟨c'.rd (R.LS_ISET x), c'.rd (R.LS_DUTY x), s.chip.rd (R.LS_CFG x), e⟩ ∧
      Only [Blk.sys, Blk.evr, Blk.que, Blk.sen] s.chip c' := by
  obtain ⟨hs, d, ht, hc⟩ := offers_accepts h (by decide) (by simp)
  obtain ⟨k, hkd⟩ : ∃ k, k = cmdFor rq 0x40 tag [(.ofNat 32 (x.val + 256) : Word), i, w, (.ofNat 32 e.toNat : Word)] := ⟨_, rfl⟩
  rw [← hkd] at hc
  obtain ⟨a₁, a₂, a₃, a₄⟩ : k.arg 1 = .ofNat 32 (x.val + 256) ∧ k.arg 2 = i ∧ k.arg 3 = w ∧ k.arg 4 = .ofNat 32 e.toNat := by
    rw [hkd]
    exact ⟨rfl, rfl, rfl, rfl⟩
  have he₂ : e.toNat < 2 := by cases e <;> decide
  have hx : k.sink = x := Cmd.bits_of a₁ (by omega) (by omega)
  have hap : k.bits 1 8 1 = 1 := Cmd.bits_of a₁ (by omega) (by omega)
  have hen : k.bits 4 0 1 = e.toNat := Cmd.bits_of a₄ (by omega) (by omega)
  have pi := setting_iset x
  have pd := setting_duty x
  obtain ⟨f, h₁, h₂, h₃⟩ := Chip.supWrites_act (c := d) (l := [(R.LS_ISET x, i), (R.LS_DUTY x, w)]) (a := R.LS_CTRL x) (n := 1)
    (F.LS_CTRL_APPLY.put (F.LS_CTRL_EN.of e.toNat) 1) (by decide) (ht.reaches (by decide) hl hi) (by simp [R.LS_ISET, R.LS_DUTY])
    (List.forall_mem_cons.2 ⟨⟨pi.die, pi.free.1, pi.free.2, _, _, pi.toPlain⟩, List.forall_mem_singleton.2 ⟨pd.die, pd.free.1, pd.free.2, _, _, pd.toPlain⟩⟩) (dieOf_lsCtrl x)
  simp only [List.forall_mem_cons, List.not_mem_nil, false_imp_iff, implies_true, and_true] at h₂
  obtain ⟨w₁, w₂, w₃⟩ := setCtrl_word e
  obtain ⟨y, hy⟩ : ∃ y, y = F.LS_CTRL_APPLY.put (F.LS_CTRL_EN.of e.toNat) 1 := ⟨_, rfl⟩
  rw [← hy] at w₁ w₂ w₃ h₃
  obtain ⟨g, hg⟩ : ∃ g, g = f.wr (R.LS_CTRL x) (storedWord lsCtrlDesc [x.val] (f.rd (R.LS_CTRL x)) y) := ⟨_, rfl⟩
  rw [Chip.regWrite_as_lsCtrl (findReg_lsCtrl x), ← hg, Chip.sinkCtrl_captures w₂ w₃] at h₃
  have h₄ : Wrote [R.LS_ISET x, R.LS_DUTY x, 0x40100004, R.LS_CTRL x] d g := hg ▸ (h₁.trans (.of_wr f _ _)).mono (by rw [tokens_one]; simp)
  have hA : ∀ a ∈ [R.LS_ISET x, R.LS_DUTY x, 0x40100004, R.LS_CTRL x], 0x40100000 ≤ a ∧ a < 0x40200000 := by
    simp only [List.forall_mem_cons, R.LS_ISET, R.LS_DUTY, R.LS_CTRL]
    simp
    omega
  have hsh : LedShown rq g (g.sinkCapture x) := .setSink _ _ _
  obtain ⟨h₅, h₆⟩ := acts_serve (op := 0x40) (tag := tag) (res := []) hs ht (by simp) h₄ hA hsh.ans (hsh.only (by simp))
  obtain ⟨v, hv⟩ : ∃ v, v = (g.sinkCapture x).complete rq 0x40 tag .ok [] := ⟨_, rfl⟩
  rw [← hv] at h₅ h₆
  have hvr {a : Nat} (ha : 0x40030000 ≤ a) : v.rd a = g.rd a := hv ▸ Chip.rd_complete _ _ _ _ _ _ _ ha
  have hgi : g.rd (R.LS_ISET x) = storedWord isetDesc [x.val] (d.rd (R.LS_ISET x)) i := by
    rw [hg, Chip.rd_wr_ne _ _ (by simp only [R.LS_ISET, R.LS_CTRL]; omega), h₂.1 _ _ pi.toPlain]
  have hgd : g.rd (R.LS_DUTY x) = storedWord dutyDesc [x.val] (d.rd (R.LS_DUTY x)) w := by
    rw [hg, Chip.rd_wr_ne _ _ (by simp only [R.LS_DUTY, R.LS_CTRL]; omega), h₂.2 _ _ pd.toPlain]
  have hvi := hvr (a := R.LS_ISET x) (by simp only [R.LS_ISET]; omega)
  have hvd := hvr (a := R.LS_DUTY x) (by simp only [R.LS_DUTY]; omega)
  refine ⟨v, State.next_chip ((hc _ _ _ (by rw [hkd]; rfl) ?_).trans ?_), h₅, Chip.took_stored (D := isetDesc) (hvi.trans hgi) (by decide) rfl,
    Chip.took_stored (D := dutyDesc) (hvd.trans hgd) (by decide) rfl, ?_, h₆⟩
  · have hlt : decide (24 ≤ x.val) = false := decide_eq_false (by omega)
    have hm : (k.only 1 0x11F).1 = false := by
      rw [Cmd.only, badArg, a₁, apply_mask]
      exact bne_self_eq_false _
    have hdis : (!(d.sinkEnabled x || e.toNat == 1)) = false := by
      rw [ht.sinkEnabled]
      obtain he | he := he
      · rw [he]; rfl
      · rw [he, Bool.or_comm]; rfl
    simp only [Cmd.sinkOk, Cmd.lay, badArg, disabledIf, hx, hen, a₂, a₃, hm, only_small 1 1 a₄ he₂ (by decide) rfl, hlt, hi₁, hw, ht.offLink x (m := 1) (by decide) hl, hdis,
      Bool.not_true, List.cons_append, List.nil_append, List.forall_mem_cons, true_and, List.not_mem_nil, false_imp_iff, implies_true]
  · unfold Chip.lsSet
    dsimp only
    rw [hx, a₂, a₃, hen, hap, ← hy]
    have := congrArg (Chip.done · k) h₃
    rw [hv]
    refine this.trans ?_
    rw [hkd]
    rfl
  · have hcfg : g.rd (R.LS_CFG x) = s.chip.rd (R.LS_CFG x) := by
      rw [h₄.rd _ (by simp [R.LS_CFG, R.LS_ISET, R.LS_DUTY, R.LS_CTRL]; omega) (by simp only [clockReg, R.LS_CFG]; omega), ht.rd (by simp only [R.LS_CFG]; omega)]
    have hge : g.flag (R.LS_CTRL x) F.LS_CTRL_EN = e := by
      have : F.LS_CTRL_EN.get (storedWord lsCtrlDesc [x.val] (f.rd (R.LS_CTRL x)) y) = F.LS_CTRL_EN.get y := Fld.get_mergeWord _ _ _ _ _ _ (by decide)
      rw [hg, Chip.flag, Chip.fget, Chip.rd_wr_self, this, w₁]
      cases e <;> rfl
    rw [hvi, hvd, ← hcfg, ← hge, hv, (Served.complete _ _ _ _ _ _ _).sink, Chip.pend_sinkCapture]
    rfl

/-! ### LS_REARM -/

theorem lsRearm_serves {x : Fin 24} (h : s.chip.offers rq 0x42 tag [(.ofNat 32 x : Word)]) (hf : s.chip.sinkRun x = .fault) (he : s.chip.sinkEnabled x = true) :
    ∃ c', exec (.lsRearm rq) s = .next { s with chip := c' } ∧ s.chip.served c' rq 0x42 tag 1 .ok [c'.rd (R.LS_STATUS x)] ∧ c'.sinkRun x = .off ∧
      Only [Blk.sys, Blk.evr, Blk.que, Blk.sen] s.chip c' := by
  obtain ⟨hs, d, ht, hc⟩ := offers_accepts h (by decide) (by simp)
  obtain ⟨k, hkd⟩ : ∃ k, k = cmdFor rq 0x42 tag [(.ofNat 32 x : Word)] := ⟨_, rfl⟩
  rw [← hkd] at hc
  have a₁ : k.arg 1 = .ofNat 32 x := by rw [hkd]; rfl
  have hx : k.sink = x := Cmd.bits_of a₁ (by omega) (by omega)
  obtain ⟨y, hy⟩ : ∃ y, y = F.LS_CTRL_REARM.put (F.LS_CTRL_EN.of (d.fget (R.LS_CTRL x) F.LS_CTRL_EN)) 1 := ⟨_, rfl⟩
  have w₁ : F.LS_CTRL_REARM.get y = 1 := hy ▸ Fld.get_put _ _ _ (by decide)
  have w₂ : F.LS_CTRL_APPLY.get y ≠ 1 := by
    rw [hy, Fld.get_put_ne _ _ _ _ (by decide) (by decide), Fld.of, Fld.get_put_ne _ _ _ _ (by decide) (by decide)]
    decide
  obtain ⟨f, h₁, h₂⟩ := d.supWrite_reaches (a := R.LS_CTRL x) y (by rw [dieOf_lsCtrl]; exact ht.reaches (by decide) hl hi)
  rw [dieOf_lsCtrl, tokens_one] at h₁
  obtain ⟨g, hg⟩ : ∃ g, g = f.wr (R.LS_CTRL x) (storedWord lsCtrlDesc [x.val] (f.rd (R.LS_CTRL x)) y) := ⟨_, rfl⟩
  rw [Chip.regWrite_as_lsCtrl (findReg_lsCtrl x), ← hg, Chip.sinkCtrl_rearms w₂ w₁] at h₂
  have h₃ : Wrote [0x40100004, R.LS_CTRL x] d g := hg ▸ (h₁.trans (.of_wr f _ _)).mono (by simp)
  have hA : ∀ a ∈ [0x40100004, R.LS_CTRL x], 0x40100000 ≤ a ∧ a < 0x40200000 := by
    simp only [List.forall_mem_cons, R.LS_CTRL]
    simp
    omega
  have hgrun : g.sinkRun x = .fault := by
    rw [← hf]
    refine Chip.sinkRun_of (congrArg SinkState.ofCode ?_) ?_
    · rw [h₃.fget (by simp [R.LS_STATUS, R.LS_CTRL]; omega) (by simp only [clockReg, R.LS_STATUS]; omega), ht.fget (by simp only [R.LS_STATUS]; omega)]
    · rw [Chip.sink, h₃.field (·.sinks)]
      exact congrArg SinkX.sub (ht.sink x)
  have hsh : LedShown rq g (g.sinkRearm x) := .sinkRearm g x.2
  obtain ⟨v, hv⟩ : ∃ v, v = g.sinkRearm x := ⟨_, rfl⟩
  rw [← hv] at hsh h₂
  have hrun : v.sinkRun x = .off := by
    rw [hv, Chip.sinkRearm, if_pos hgrun, Chip.sinkRun_sinkFaultCode, Chip.sinkRun_setSinkRun _ _ _ (by decide)]
  obtain ⟨h₅, h₆⟩ := acts_serve (op := 0x42) (tag := tag) (res := [v.rd (R.LS_STATUS x)]) hs ht (by simp) h₃ hA hsh.ans (hsh.only (by simp))
  obtain ⟨u, hu⟩ : ∃ u, u = v.complete rq 0x42 tag .ok [v.rd (R.LS_STATUS x)] := ⟨_, rfl⟩
  have hus := Served.complete v rq 0x42 tag .ok [v.rd (R.LS_STATUS x)] 0
  have hur : u.rd (R.LS_STATUS x) = v.rd (R.LS_STATUS x) := hu ▸ Chip.rd_complete _ _ _ _ _ _ _ (by simp only [R.LS_STATUS]; omega)
  rw [← hu] at h₅ h₆ hus
  rw [← hur] at h₅
  refine ⟨u, State.next_chip ((hc _ _ _ (by rw [hkd]; rfl) ?_).trans ?_), h₅, ?_, h₆⟩
  · have hlt : decide (24 ≤ x.val) = false := decide_eq_false (by omega)
    simp only [Cmd.sinkOk, badArg, disabledIf, hx, only_small 0x1F 5 a₁ (by omega) (by decide) rfl, hlt, ht.offLink x (m := 1) (by decide) hl, ht.sinkEnabled, he,
      Bool.not_true, List.cons_append, List.nil_append, List.forall_mem_cons, true_and, List.not_mem_nil, false_imp_iff, implies_true]
  · have hw : d.supSinkRearm x = v := by rw [Chip.supSinkRearm, ← hy, h₂]
    unfold Chip.lsRearm
    dsimp only
    rw [hx, hw, hu, hkd]
    rfl
  · rw [← hrun]
    exact Chip.sinkRun_of (congrArg (SinkState.ofCode ∘ F.LS_STATUS_STATE.get) hur) (by rw [hus.sink])

/-! ### LED_COMMIT -/

theorem ledCommit_serves {m : BitVec 24} (h : s.chip.offers rq 0x43 tag [(.ofNat 32 m.toNat : Word)]) :
    ∃ c', exec (.ledCommit rq) s = .next { s with chip := c' } ∧ s.chip.served c' rq 0x43 tag 1 .ok [] ∧
      (∀ x, x < 24 → (c'.sink x).pend = if m.getLsbD x then some ⟨s.chip.rd (R.LS_ISET x), s.chip.rd (R.LS_DUTY x), s.chip.rd (R.LS_CFG x), s.chip.flag (R.LS_CTRL x) F.LS_CTRL_EN⟩
        else (s.chip.sink x).pend) ∧ Only [Blk.sys, Blk.evr, Blk.que, Blk.sen] s.chip c' := by
  obtain ⟨hs, d, ht, hc⟩ := offers_accepts h (by decide) (by simp)
  obtain ⟨k, hkd⟩ : ∃ k, k = cmdFor rq 0x43 tag [(.ofNat 32 m.toNat : Word)] := ⟨_, rfl⟩
  rw [← hkd] at hc
  have hm := m.isLt
  have a₁ : k.arg 1 = .ofNat 32 m.toNat := by rw [hkd]; rfl
  have pm := setting_commitMask
  obtain ⟨f, h₁, h₂, h₃⟩ := Chip.supWrites_act (c := d) (l := [(R.LED_COMMIT_MASK, .ofNat 32 m.toNat)]) (a := R.LED_COMMIT) (n := 1) (F.LED_COMMIT_GO.of 1) (by decide)
    (ht.reaches (by decide) hl hi) (by simp) (List.forall_mem_singleton.2 ⟨pm.die, pm.free.1, pm.free.2, _, _, pm.toPlain⟩) (by decide)
  have hmask := h₂ _ (List.mem_singleton_self _) _ _ pm.toPlain
  obtain ⟨g, hg⟩ : ∃ g, g = f.wr R.LED_COMMIT (storedWord ledCommitDesc [] (f.rd R.LED_COMMIT) (F.LED_COMMIT_GO.of 1)) := ⟨_, rfl⟩
  rw [Chip.regWrite_as_ledCommit findReg_ledCommit _ (by decide), ← hg] at h₃
  have h₄ : Wrote [R.LED_COMMIT_MASK, 0x40100004, R.LED_COMMIT] d g := hg ▸ (h₁.trans (.of_wr f _ _)).mono (by rw [tokens_one]; simp)
  have hsh : LedShown rq g g.ledCommit := .captures _ g
  obtain ⟨h₅, h₆⟩ := acts_serve (op := 0x43) (tag := tag) (res := []) hs ht (by simp) h₄ (by decide) hsh.ans (hsh.only (by simp))
  refine ⟨g.ledCommit.complete rq 0x43 tag .ok [], State.next_chip ((hc _ _ _ (by rw [hkd]; rfl) ?_).trans ?_), h₅, fun x hx => ?_, h₆⟩
  · have h₇ : (k.only 1 0xFFFFFF).1 = false := by
      rw [Cmd.only, badArg, a₁, commit_mask]
      exact bne_self_eq_false _
    simp only [h₇, ht.offLink 0xFFFF (m := 1) (by decide) hl, List.forall_mem_cons, true_and, List.not_mem_nil, false_imp_iff, implies_true]
  · unfold Chip.ledCommitCmd
    rw [a₁]
    refine (congrArg (Chip.done · k) h₃).trans ?_
    rw [hkd]
    rfl
  · have hgm : g.fget R.LED_COMMIT_MASK F.LED_COMMIT_MASK_MASK = m.toNat := by
      rw [hg, Chip.fget, Chip.rd_wr_ne _ _ (by decide), hmask]
      refine (Fld.get_mergeWord F.LED_COMMIT_MASK_MASK _ _ _ _ _ (by decide)).trans ?_
      show (.ofNat 32 m.toNat : Word).toNat / 2 ^ 0 % 2 ^ 24 = m.toNat
      rw [word_toNat (by omega)]
      omega
    have hrd {a : Nat} (ha : 0x40150000 ≤ a ∧ a < 0x40150400) : g.rd a = s.chip.rd a := by
      rw [h₄.rd _ (by simp only [List.mem_cons, List.not_mem_nil, or_false, R.LED_COMMIT_MASK, R.LED_COMMIT]; omega) (by simp only [clockReg]; omega), ht.rd (by omega)]
    obtain ⟨-, hin, hout⟩ := Chip.sinksCaptured x ((List.range 24).filter fun s => (g.fget R.LED_COMMIT_MASK F.LED_COMMIT_MASK_MASK).testBit s) g
    rw [(Served.complete _ _ _ _ _ _ _).sink]
    have hbit : m.getLsbD x = m.toNat.testBit x := rfl
    by_cases hb : m.getLsbD x = true
    case pos =>
      rw [if_pos hb]
      refine (hin (List.mem_filter.2 ⟨List.mem_range.2 hx, by rw [hgm, ← hbit, hb]⟩)).trans ?_
      rw [Chip.sinkShadow, Chip.flag, Chip.fget, hrd (by simp only [R.LS_ISET]; omega), hrd (by simp only [R.LS_DUTY]; omega), hrd (by simp only [R.LS_CFG]; omega),
        hrd (by simp only [R.LS_CTRL]; omega)]
      rfl
    case neg =>
      rw [if_neg hb]
      refine (congrArg SinkX.pend (hout fun hmem => hb ?_)).trans ?_
      · have := (List.mem_filter.1 hmem).2
        rw [hgm] at this
        exact hbit.trans this
      · rw [Chip.sink, h₄.field (·.sinks)]
        exact congrArg SinkX.pend (ht.sink x)

/-! ### LED_HR_SET -/

theorem ledHrSet_serves {w : Word} (h : s.chip.offers rq 0x4A tag [w]) (hw : layoutOk .LED_HR_CTRL [] w = true) :
    ∃ c', exec (.ledHrSet rq) s = .next { s with chip := c' } ∧ s.chip.served c' rq 0x4A tag 1 .ok [] ∧ c'.took .LED_HR_CTRL R.LED_HR_CTRL w := by
  obtain ⟨hs, d, ht, hc⟩ := offers_accepts h (by decide) (by simp)
  obtain ⟨k, hkd⟩ : ∃ k, k = cmdFor rq 0x4A tag [w] := ⟨_, rfl⟩
  rw [← hkd] at hc
  have a₁ : k.arg 1 = w := by rw [hkd]; rfl
  obtain ⟨f, h₁, h₂⟩ := d.supWrite_reaches (a := R.LED_HR_CTRL) w (ht.reaches (k := 1) (by decide) hl hi)
  obtain ⟨g, hg⟩ : ∃ g, g = f.wr R.LED_HR_CTRL (storedWord ledHrCtrlDesc [] (f.rd R.LED_HR_CTRL) w) := ⟨_, rfl⟩
  rw [Chip.regWrite_as_ledHrCtrl findReg_ledHrCtrl, ← hg] at h₂
  have h₃ : Wrote [0x40100004, R.LED_HR_CTRL] d g := hg ▸ (h₁.trans (.of_wr f _ _)).mono (by decide)
  have hsh := LedShown.hrCtrl (rq := rq) g (f.rd R.LED_HR_CTRL) w
  obtain ⟨h₅, -⟩ := acts_serve (op := 0x4A) (tag := tag) (res := []) hs ht (by simp) h₃ (by decide) hsh.ans (hsh.only (by simp))
  obtain ⟨v, hv⟩ : ∃ v, v = (g.hrCtrl (f.rd R.LED_HR_CTRL) w).complete rq 0x4A tag .ok [] := ⟨_, rfl⟩
  rw [← hv] at h₅
  have hrd : v.rd R.LED_HR_CTRL = storedWord ledHrCtrlDesc [] (f.rd R.LED_HR_CTRL) w := by
    rw [hv, Chip.rd_complete _ _ _ _ _ _ _ (by decide), hsh.rd _ (by decide) fun x hx => by simp only [R.LED_HR_CTRL, R.LS_STATUS]; omega, hg, Chip.rd_wr_self]
  refine ⟨v, State.next_chip ((hc _ _ _ (by rw [hkd]; rfl) ?_).trans (by rw [Chip.ledHrSet, a₁, h₂, hv, hkd]; rfl)), h₅,
    Chip.took_layout (D := ledHrCtrlDesc) [(F.LED_HR_CTRL_VMAX, clampTo 120 600), (F.LED_HR_CTRL_TARGET, clampTo 40 150)] hrd (by decide) (fun _ _ => rfl) (by decide)
      (by simp [steady_clampTo]) (by decide) hw⟩
  simp only [Cmd.lay, badArg, a₁, hw, ht.offLink 0xFFFF (m := 1) (by decide) hl, Bool.not_true, List.forall_mem_cons, true_and, List.not_mem_nil, false_imp_iff, implies_true]

end

end Sys2Proof.Machine
end

section
/-! PROOF. The commands of the groups and of the pattern engines (spec/11, 0x44, 0x46, 0x48, 0x49). -/

namespace Sys2Proof.Machine
open Sys2Proof

section
variable {rq : Req} {n : Nat} {c d : Chip} (h : Taken rq n c d)
include h
theorem Taken.ownerOf (ch : Nat) : d.ownerOf ch = c.ownerOf ch := h.fget (by simp only [R.CH_OWNER, chBase]; omega) _
theorem Taken.paired (ch : Nat) : d.paired ch = c.paired ch :=
  congrArg (Nat.testBit · _) (h.fget (by simp only [R.PWR_PAIR]; omega) F.PWR_PAIR_PAIR)
theorem Taken.lead (ch : Nat) : d.lead ch = c.lead ch := by rw [Chip.lead, Chip.lead, h.paired]
theorem Taken.inFlasher (ch : Nat) : d.inFlasher ch = c.inFlasher ch := by
  have h₀ (m k : Nat) : d.fget (R.PWR_FLASH_MASK0 m k) F.PWR_FLASH_MASK0_MASK = c.fget (R.PWR_FLASH_MASK0 m k) F.PWR_FLASH_MASK0_MASK :=
    h.fget (by simp only [R.PWR_FLASH_MASK0]; omega) _
  have h₁ (m k : Nat) : d.fget (R.PWR_FLASH_MASK1 m k) F.PWR_FLASH_MASK1_MASK = c.fget (R.PWR_FLASH_MASK1 m k) F.PWR_FLASH_MASK1_MASK :=
    h.fget (by simp only [R.PWR_FLASH_MASK1]; omega) _
  simp only [Chip.inFlasher, Chip.flashMasks, h₀, h₁]
end

/-! ### LF_SET -/

/-- A channel that the words name with the other word 0 is named by both. -/
theorem mem_memberChans (a b : Word) : (∀ ch ∈ memberChans a 0, ch ∈ memberChans a b) ∧ ∀ ch ∈ memberChans 0 b, ch ∈ memberChans a b := by
  have h₁ : memberChans a 0 = (if F.LF_CH01_VALID0.get a = 1 then [F.LF_CH01_CHAN0.get a] else []) ++ (if F.LF_CH01_VALID1.get a = 1 then [F.LF_CH01_CHAN1.get a] else []) ++ [] ++ [] := rfl
  have h₂ : memberChans 0 b = [] ++ [] ++ (if F.LF_CH23_VALID2.get b = 1 then [F.LF_CH23_CHAN2.get b] else []) ++ (if F.LF_CH23_VALID3.get b = 1 then [F.LF_CH23_CHAN3.get b] else []) := rfl
  rw [h₁, h₂, memberChans]
  simp only [List.append_nil, List.nil_append, List.mem_append]
  exact ⟨fun _ h => .inl (.inl h), fun _ h => h.elim (fun h => .inl (.inr h)) .inr⟩

/-- The source of a group's output is kept where it is written reserved. -/
def lfCfgNorm : List (Fld × (Nat → Nat → Nat)) := [(F.LF_CFG_SRC, keepOn (1 < ·))]
theorem lfCfgNorm_eq (l : List Nat) (o z : Word) : regNorm .LF_CFG l o z = normAll lfCfgNorm o z := by
  show F.LF_CFG_SRC.keep (1 < ·) o z = _
  rw [Fld.keep_eq]
  rfl

section
variable {s : State} {rq : Req} {tag : Nat} (hl : s.chip.linkUp 1 = true) (hi : s.chip.inStep 1 = true)
include hl hi

theorem lfSet_serves {g : Fin 12} {w lv c₁ c₂ : Word} (h : s.chip.offers rq 0x44 tag [(.ofNat 32 g : Word), w, lv, c₁, c₂])
    (hm : ((memberChans c₁ c₂).all fun x => decide (x < 188) && s.chip.ownerOf (s.chip.lead x) == 4 && !s.chip.inFlasher x) = true)
    (hw : layoutOk .LF_CFG [g.val] w = true) (hv : layoutOk .LF_LEVEL [g.val] lv = true) (h₁ : layoutOk .LF_CH01 [g.val] c₁ = true)
    (h₂ : layoutOk .LF_CH23 [g.val] c₂ = true) (he : F.LF_CFG_EN.get w = 1 ∧ s.chip.flag (R.LF_CFG g) F.LF_CFG_EN = false) :
    ∃ c', exec (.lfSet rq) s = .next { s with chip := c' } ∧ s.chip.served c' rq 0x44 tag 5 .ok [] ∧ c'.took .LF_CFG (R.LF_CFG g) w ∧ c'.took .LF_LEVEL (R.LF_LEVEL g) lv ∧
      c'.took .LF_CH01 (R.LF_CH01 g) c₁ ∧ c'.took .LF_CH23 (R.LF_CH23 g) c₂ ∧ c'.groupState g = 1 ∧ Only [Blk.sys, Blk.evr, Blk.que, Blk.sen] s.chip c' := by
  obtain ⟨hs, d, ht, hc⟩ := offers_accepts h (by decide) (by simp)
  obtain ⟨k, hkd⟩ : ∃ k, k = cmdFor rq 0x44 tag [(.ofNat 32 g : Word), w, lv, c₁, c₂] := ⟨_, rfl⟩
  rw [← hkd] at hc
  obtain ⟨a₁, a₂, a₃, a₄, a₅⟩ : k.arg 1 = .ofNat 32 g ∧ k.arg 2 = w ∧ k.arg 3 = lv ∧ k.arg 4 = c₁ ∧ k.arg 5 = c₂ := by
    rw [hkd]
    exact ⟨rfl, rfl, rfl, rfl, rfl⟩
  have hg : k.group = g := Cmd.bits_of a₁ (by omega) (by omega)
  have p₁ := setting_level g
  have p₂ := setting_ch01 g
  have p₃ := setting_ch23 g
  obtain ⟨f, h₃, h₄, h₅⟩ := Chip.supWrites_act (c := d) (l := [(R.LF_LEVEL g, lv), (R.LF_CH01 g, c₁), (R.LF_CH23 g, c₂)]) (a := R.LF_CFG g) (n := 1) w (by decide)
    (ht.reaches (by decide) hl hi) (by simp [R.LF_LEVEL, R.LF_CH01, R.LF_CH23])
    (List.forall_mem_cons.2 ⟨⟨p₁.die, p₁.free.1, p₁.free.2, _, _, p₁.toPlain⟩, List.forall_mem_cons.2 ⟨⟨p₂.die, p₂.free.1, p₂.free.2, _, _, p₂.toPlain⟩,
      List.forall_mem_singleton.2 ⟨p₃.die, p₃.free.1, p₃.free.2, _, _, p₃.toPlain⟩⟩⟩) (dieOf_lfCfg g)
  simp only [List.forall_mem_cons, List.not_mem_nil, false_imp_iff, implies_true, and_true] at h₄
  obtain ⟨r₁, r₂, r₃⟩ := h₄
  obtain ⟨y, hy⟩ : ∃ y, y = storedWord lfCfgDesc [g.val] (f.rd (R.LF_CFG g)) w := ⟨_, rfl⟩
  obtain ⟨u, hu⟩ : ∃ u, u = f.wr (R.LF_CFG g) y := ⟨_, rfl⟩
  have hen : F.LF_CFG_EN.get (u.rd (R.LF_CFG g)) = 1 := by rw [hu, Chip.rd_wr_self, hy, storedGroupEn, he.1]
  have hold : F.LF_CFG_EN.get (f.rd (R.LF_CFG g)) = 0 := by
    have hrd : f.rd (R.LF_CFG g) = s.chip.rd (R.LF_CFG g) := by
      rw [h₃.rd _ (by simp [tokens_one, R.LF_CFG, R.LF_LEVEL, R.LF_CH01, R.LF_CH23]; omega) (by simp only [clockReg, R.LF_CFG]; omega), ht.rd (by simp only [R.LF_CFG]; omega)]
    have h₀ : F.LF_CFG_EN.get (s.chip.rd (R.LF_CFG g)) ≠ 1 := fun hh => absurd (beq_iff_eq.2 hh) (by simpa [Chip.flag, Chip.fget] using he.2)
    have hb : F.LF_CFG_EN.get (s.chip.rd (R.LF_CFG g)) < 2 := Fld.get_lt F.LF_CFG_EN _
    rw [hrd]
    omega
  rw [Chip.regWrite_as_lfCfg (findReg_lfCfg g), ← hy, ← hu, Chip.groupCfg, if_neg (by rw [hen]; decide), if_pos hold] at h₅
  have h₆ : Wrote [R.LF_LEVEL g, R.LF_CH01 g, R.LF_CH23 g, 0x40100004, R.LF_CFG g] d u := hu ▸ (h₃.trans (.of_wr f _ _)).mono (by rw [tokens_one]; simp)
  have hA : ∀ a ∈ [R.LF_LEVEL g, R.LF_CH01 g, R.LF_CH23 g, 0x40100004, R.LF_CFG g], 0x40100000 ≤ a ∧ a < 0x40200000 := by
    simp only [List.forall_mem_cons, R.LF_LEVEL, R.LF_CH01, R.LF_CH23, R.LF_CFG]
    simp
    omega
  obtain ⟨v, hvd⟩ : ∃ v, v = u.fset (R.LF_STATUS g) F.LF_STATUS_STATE 1 := ⟨_, rfl⟩
  rw [← hvd] at h₅
  have hst : v.groupState g = 1 := by
    rw [hvd]
    exact Chip.fget_fset_self _ _ _ _ (by decide)
  have hrd {a : Nat} (ha : a ≠ R.LF_STATUS g) : v.rd a = u.rd a := hvd ▸ Chip.rd_fset_ne _ _ _ ha
  obtain ⟨h₇, h₈⟩ := acts_serve (f := v) (op := 0x44) (tag := tag) (res := []) hs ht (by simp) h₆ hA (hvd ▸ .fset u _ _ (by simp only [R.LF_STATUS]; omega))
    (hvd ▸ .senReg (by simp) u _ _ (by simp only [R.LF_STATUS]; omega))
  obtain ⟨z, hz⟩ : ∃ z, z = v.complete rq 0x44 tag .ok [] := ⟨_, rfl⟩
  rw [← hz] at h₇ h₈
  have hzr {a : Nat} (ha : 0x40030000 ≤ a) (hne : a ≠ R.LF_STATUS g) : z.rd a = u.rd a := by rw [hz, Chip.rd_complete _ _ _ _ _ _ _ ha, hrd hne]
  have hur {a : Nat} (hne : a ≠ R.LF_CFG g) : u.rd a = f.rd a := hu ▸ Chip.rd_wr_ne _ _ hne
  have z₁ : z.rd (R.LF_LEVEL g) = storedWord levelDesc [g.val] (d.rd (R.LF_LEVEL g)) lv := by
    rw [hzr (by simp only [R.LF_LEVEL]; omega) (by simp only [R.LF_LEVEL, R.LF_STATUS]; omega), hur (by simp only [R.LF_LEVEL, R.LF_CFG]; omega), r₁ _ _ p₁.toPlain]
  have z₂ : z.rd (R.LF_CH01 g) = storedWord ch01Desc [g.val] (d.rd (R.LF_CH01 g)) c₁ := by
    rw [hzr (by simp only [R.LF_CH01]; omega) (by simp only [R.LF_CH01, R.LF_STATUS]; omega), hur (by simp only [R.LF_CH01, R.LF_CFG]; omega), r₂ _ _ p₂.toPlain]
  have z₃ : z.rd (R.LF_CH23 g) = storedWord ch23Desc [g.val] (d.rd (R.LF_CH23 g)) c₂ := by
    rw [hzr (by simp only [R.LF_CH23]; omega) (by simp only [R.LF_CH23, R.LF_STATUS]; omega), hur (by simp only [R.LF_CH23, R.LF_CFG]; omega), r₃ _ _ p₃.toPlain]
  have z₄ : z.rd (R.LF_CFG g) = storedWord lfCfgDesc [g.val] (f.rd (R.LF_CFG g)) w := by
    rw [hzr (by simp only [R.LF_CFG]; omega) (by simp only [R.LF_CFG, R.LF_STATUS]; omega), hu, Chip.rd_wr_self, hy]
  refine ⟨z, State.next_chip ((hc _ _ _ (by rw [hkd]; rfl) ?_).trans ?_), h₇,
    Chip.took_layout lfCfgNorm z₄ (by decide) (lfCfgNorm_eq _) (by decide) (by simp [lfCfgNorm, steady_keepOn]) (by decide) hw,
    Chip.took_stored (D := levelDesc) z₁ (by decide) rfl, Chip.took_stored (D := ch01Desc) z₂ (by decide) rfl, Chip.took_stored (D := ch23Desc) z₃ (by decide) rfl, ?_, h₈⟩
  · rw [List.all_eq_true] at hm
    have hmem (ch : Nat) (hch : ch ∈ memberChans c₁ c₂) : ch < 188 ∧ s.chip.ownerOf (s.chip.lead ch) = 4 ∧ s.chip.inFlasher ch = false := by
      simpa [Bool.and_eq_true, and_assoc] using hm ch hch
    have hms : k.members = memberChans c₁ c₂ := by rw [Cmd.members, a₄, a₅]
    have q₁ : (k.members.find? fun ch => decide (ch < 192) && d.ownerOf (d.lead ch) != 4) = none := List.find?_eq_none.2 fun ch hch => by
      rw [hms] at hch
      rw [ht.ownerOf, ht.lead, (hmem ch hch).2.1]
      simp
    have q₂ : k.members.find? isSealed = none := List.find?_eq_none.2 fun ch hch => by
      rw [hms] at hch
      have := (hmem ch hch).1
      simp only [isSealed, Bool.and_eq_true, decide_eq_true_eq]
      omega
    have q₃ : k.members.find? d.inFlasher = none := List.find?_eq_none.2 fun ch hch => by
      rw [hms] at hch
      rw [ht.inFlasher, (hmem ch hch).2.2]
      decide
    obtain ⟨m₁, m₂⟩ := mem_memberChans c₁ c₂
    have q₄ : ((memberChans c₁ 0).any fun ch => decide (192 ≤ ch)) = false := List.any_eq_false.2 fun ch hch => by
      have := (hmem ch (m₁ ch hch)).1
      simp only [decide_eq_true_eq]
      omega
    have q₅ : ((memberChans 0 c₂).any fun ch => decide (192 ≤ ch)) = false := List.any_eq_false.2 fun ch hch => by
      have := (hmem ch (m₂ ch hch)).1
      simp only [decide_eq_true_eq]
      omega
    have hlt : decide (12 ≤ g.val) = false := decide_eq_false (by omega)
    simp only [Cmd.groupOk, Cmd.lay, badArg, disabledIf, maskCheck, hg, a₂, a₃, a₄, a₅, q₁, q₂, q₃, q₄, q₅, only_small 0xF 4 a₁ (by omega) (by decide) rfl, hlt, hw, hv, h₁, h₂,
      ht.offLink g (m := 1) (by decide) hl, he.1, beq_self_eq_true, Bool.or_true, Option.isSome_none, Bool.not_true, List.cons_append, List.nil_append, List.forall_mem_cons, true_and,
      List.not_mem_nil, false_imp_iff, implies_true]
  · unfold Chip.lfSet
    dsimp only
    rw [hg, a₂, a₃, a₄, a₅]
    refine (congrArg (Chip.done · k) h₅).trans ?_
    rw [hz, hkd]
    rfl
  · rw [← hst]
    exact congrArg F.LF_STATUS_STATE.get (hz ▸ Chip.rd_complete _ _ _ _ _ _ _ (by simp only [R.LF_STATUS]; omega))

/-! ### LF_REARM -/

omit hi in
theorem lfRearm_serves {g : Fin 12} (h : s.chip.offers rq 0x46 tag [(.ofNat 32 g : Word)]) (hf : s.chip.groupState g = 2) (he : s.chip.groupEnabled g = true)
    (hn : s.chip.groupChans g = [] ∧ s.chip.groupSinks g = []) :
    ∃ c', exec (.lfRearm rq) s = .next { s with chip := c' } ∧ s.chip.served c' rq 0x46 tag 1 .ok [c'.rd (R.LF_STATUS g)] ∧ c'.groupState g = 1 := by
  obtain ⟨hs, d, ht, hc⟩ := offers_accepts h (by decide) (by simp)
  obtain ⟨k, hkd⟩ : ∃ k, k = cmdFor rq 0x46 tag [(.ofNat 32 g : Word)] := ⟨_, rfl⟩
  rw [← hkd] at hc
  have a₁ : k.arg 1 = .ofNat 32 g := by rw [hkd]; rfl
  have hg : k.group = g := Cmd.bits_of a₁ (by omega) (by omega)
  have hch : d.groupChans g = [] := by
    rw [Chip.groupChans, ht.rd (by simp only [R.LF_CH01]; omega), ht.rd (by simp only [R.LF_CH23]; omega)]
    exact hn.1
  have hsk : d.groupSinks g = [] := by
    have hx (x : Nat) : d.sinkGroup x = s.chip.sinkGroup x := congrArg (fun y => F.LS_CFG_GROUP.get (SinkX.act y).cfg) (ht.sink x)
    simp only [Chip.groupSinks, hx]
    exact hn.2
  have hst : d.groupState g = 2 := (ht.fget (by simp only [R.LF_STATUS]; omega) _).trans hf
  obtain ⟨u, hu⟩ : ∃ u, u = d.fset (R.LF_STATUS g) F.LF_STATUS_STATE 1 := ⟨_, rfl⟩
  have hgw := GroupWrites.updateOutage u g.2
  have hvc : (u.updateOutage g).groupChans g = [] := by
    rw [Chip.groupChans, hgw.rd _ (by simp only [R.LF_CH01]; omega) fun x hx => by simp only [R.LF_CH01, R.LF_STATUS]; omega,
      hgw.rd _ (by simp only [R.LF_CH23]; omega) fun x hx => by simp only [R.LF_CH23, R.LF_STATUS]; omega, hu,
      Chip.rd_fset_ne _ _ _ (by simp only [R.LF_CH01, R.LF_STATUS]; omega), Chip.rd_fset_ne _ _ _ (by simp only [R.LF_CH23, R.LF_STATUS]; omega)]
    exact hch
  have hv₁ : (u.updateOutage g).groupState g = 1 := by
    have h₁ (b : Bool) : (u.fbit (R.LF_STATUS g) F.LF_STATUS_OUTAGE b).groupState g = 1 := by
      rw [Chip.groupState, Chip.fbit, Chip.fget_fset_field _ _ _ _ _ (by decide) (by decide), hu]
      exact Chip.fget_fset_self _ _ _ _ (by decide)
    unfold Chip.updateOutage
    dsimp only
    split
    · rw [Chip.groupState, Chip.fget, (Served.raiseFrom _ 1 (by decide)).rd_die (by simp only [R.LF_STATUS]; omega)]
      exact h₁ _
    · exact h₁ _
  obtain ⟨v, hv⟩ : ∃ v, v = u.updateOutage g := ⟨_, rfl⟩
  rw [← hv] at hgw hvc hv₁
  have hsync : v.groupSync g = v := by rw [Chip.groupSync, hvc]; rfl
  have hans : Unanswered rq d v := by
    have h₀ : Unanswered rq d u := hu ▸ .fset d _ _ (by simp only [R.LF_STATUS]; omega)
    exact h₀.trans (.noted hgw.noted fun q hq => hgw.only _ (by simp [Blk.sen, Blk.sys, Blk.evr, R.Q_CFG]; omega))
  have h₁ := served_says hs ht hans 0x46 tag .ok (res := [v.rd (R.LF_STATUS g)]) (by simp)
  obtain ⟨z, hz⟩ : ∃ z, z = v.complete rq 0x46 tag .ok [v.rd (R.LF_STATUS g)] := ⟨_, rfl⟩
  have hzr : z.rd (R.LF_STATUS g) = v.rd (R.LF_STATUS g) := hz ▸ Chip.rd_complete _ _ _ _ _ _ _ (by simp only [R.LF_STATUS]; omega)
  rw [← hz, ← hzr] at h₁
  refine ⟨z, State.next_chip ((hc _ _ _ (by rw [hkd]; rfl) ?_).trans ?_), h₁, (congrArg F.LF_STATUS_STATE.get hzr).trans hv₁⟩
  · have hlt : decide (12 ≤ g.val) = false := decide_eq_false (by omega)
    simp only [Cmd.groupOk, badArg, disabledIf, hg, only_small 0xF 4 a₁ (by omega) (by decide) rfl, hlt, ht.offLink g (m := 1) (by decide) hl, ht.groupEnabled, he,
      Bool.not_true, List.cons_append, List.nil_append, List.forall_mem_cons, true_and, List.not_mem_nil, false_imp_iff, implies_true]
  · unfold Chip.lfRearm
    dsimp only
    rw [hg, hsk, List.foldl_nil, hch, List.foldl_nil, if_pos hst, ← hu, ← hv, hsync, hz, hkd]
    rfl

/-! ### PE_START and PE_STOP -/

theorem peStart_serves {e : Fin 8} {w : Word} (h : s.chip.offers rq 0x48 tag [(.ofNat 32 e : Word), w]) (hw : F.PE_CTRL_START.get w = 1 ∧ F.PE_CTRL_STOP.get w = 0)
    (hw₁ : layoutOk .PE_CTRL [e.val] w = true) :
    ∃ c', exec (.peStart rq) s = .next { s with chip := c' } ∧ s.chip.served c' rq 0x48 tag 2 .ok [] ∧ c'.engRuns e = true ∧ c'.took .PE_CTRL (R.PE_CTRL e) w ∧
      Only [Blk.sys, Blk.evr, Blk.que, Blk.sen] s.chip c' := by
  obtain ⟨hs, d, ht, hc⟩ := offers_accepts h (by decide) (by simp)
  obtain ⟨k, hkd⟩ : ∃ k, k = cmdFor rq 0x48 tag [(.ofNat 32 e : Word), w] := ⟨_, rfl⟩
  rw [← hkd] at hc
  have a₁ : k.arg 1 = .ofNat 32 e := by rw [hkd]; rfl
  have a₂ : k.arg 2 = w := by rw [hkd]; rfl
  have hg : k.engine = e := Cmd.bits_of a₁ (by omega) (by omega)
  obtain ⟨f, h₁, h₂⟩ := d.supWrite_reaches (a := R.PE_CTRL e) w (by rw [dieOf_peCtrl]; exact ht.reaches (by decide) hl hi)
  rw [dieOf_peCtrl, tokens_one] at h₁
  obtain ⟨u, hu⟩ : ∃ u, u = f.wr (R.PE_CTRL e) (storedWord peCtrlDesc [e.val] (f.rd (R.PE_CTRL e)) w) := ⟨_, rfl⟩
  rw [Chip.regWrite_as_peCtrl (findReg_peCtrl e), ← hu, Chip.engCtrl, if_neg (by rw [hw.2]; decide), if_pos hw.1] at h₂
  have h₃ : Wrote [0x40100004, R.PE_CTRL e] d u := hu ▸ (h₁.trans (.of_wr f _ _)).mono (by simp)
  have hA : ∀ a ∈ [0x40100004, R.PE_CTRL e], 0x40100000 ≤ a ∧ a < 0x40200000 := by
    simp only [List.forall_mem_cons, R.PE_CTRL]
    simp
    omega
  have hse : Unanswered rq u (u.setEng e {}) := ⟨rfl, rfl, rfl, rfl, rfl⟩
  obtain ⟨v, hv⟩ : ∃ v, v = u.engStart e := ⟨_, rfl⟩
  have hans : Unanswered rq u v := by
    rw [hv, Chip.engStart]
    exact hse.trans ((Unanswered.fset _ _ _ (by simp only [R.PE_STATUS]; omega)).trans (.fset _ _ _ (by simp only [R.PE_STATUS]; omega)))
  have ho : Only [Blk.sys, Blk.evr, Blk.que, Blk.sen] u v := by
    rw [hv, Chip.engStart]
    exact Only.trans (c' := u.setEng e {}) (.of_regs rfl) ((Only.senReg (by simp) _ _ _ (by simp only [R.PE_STATUS]; omega)).trans (.senReg (by simp) _ _ _ (by simp only [R.PE_STATUS]; omega)))
  obtain ⟨h₄, h₅⟩ := acts_serve (op := 0x48) (tag := tag) (res := []) hs ht (by simp) h₃ hA hans ho
  obtain ⟨z, hz⟩ : ∃ z, z = v.complete rq 0x48 tag .ok [] := ⟨_, rfl⟩
  rw [← hz] at h₄ h₅
  have hzr {a : Nat} (ha : 0x40030000 ≤ a) : z.rd a = v.rd a := hz ▸ Chip.rd_complete _ _ _ _ _ _ _ ha
  have hzc : z.rd (R.PE_CTRL e) = storedWord peCtrlDesc [e.val] (f.rd (R.PE_CTRL e)) w := by
    have hne : R.PE_CTRL e ≠ R.PE_STATUS e := by simp only [R.PE_CTRL, R.PE_STATUS]; omega
    rw [hzr (by simp only [R.PE_CTRL]; omega), hv, Chip.engStart, Chip.rd_fset_ne _ _ _ hne, Chip.rd_fset_ne _ _ _ hne, Chip.rd_setEng, hu, Chip.rd_wr_self]
  refine ⟨z, State.next_chip ((hc _ _ _ (by rw [hkd]; rfl) ?_).trans (by rw [Chip.peStart, hg, a₂, h₂, ← hv, hz, hkd]; rfl)), h₄, ?_,
    Chip.took_stored (D := peCtrlDesc) hzc (by decide) rfl, h₅⟩
  · simp only [Cmd.lay, badArg, hg, a₂, hw.1, hw₁, only_small 7 3 a₁ (by omega) (by decide) rfl, ht.offLink e (m := 1) (by decide) hl, bne_self_eq_false, Bool.not_true,
      List.forall_mem_cons, true_and, List.not_mem_nil, false_imp_iff, implies_true]
  · rw [Chip.engRuns, Chip.fget, hzr (by simp only [R.PE_STATUS]; omega), hv]
    refine beq_iff_eq.2 ?_
    show (u.engStart e).fget (R.PE_STATUS e) F.PE_STATUS_STATUS = 1
    rw [Chip.engStart, Chip.fget_fset_field _ _ _ _ _ (by decide) (by decide), Chip.fget_fset_self _ _ _ _ (by decide)]
    rfl

end

/-- The end of an engine leaves what an answer rests on. -/
theorem Unanswered.engEnd (rq : Req) (c : Chip) (e st : Nat) : Unanswered rq c (c.engEnd e st) := by
  have hlane (l : List (Nat × Nat)) (c : Chip) : Unanswered rq c (l.foldl (Chip.setLane e) c) := .foldl (fun x _ c => by
    unfold Chip.setLane
    exact .ite (fun _ => .fset c _ _ (by simp only [R.PE_LANE]; omega)) fun _ => .fset c _ _ (by simp only [R.PE_LANE]; omega)) c
  have hset (x : EngX) : Unanswered rq c (c.setEng e x) := ⟨rfl, rfl, rfl, rfl, rfl⟩
  have hst (c : Chip) (f : Fld) (v : Nat) : Unanswered rq c (c.fset (R.PE_STATUS e) f v) := .fset c f v (by simp only [R.PE_STATUS]; omega)
  unfold Chip.engEnd
  extract_lets fade zero d g
  have hg : Unanswered rq c g := (hset _).trans (.ite (fun _ => hlane _ d) fun _ => .refl d)
  exact hg.trans (((hst g _ _).trans (hst _ _ _)).trans (.ite (fun _ => .raise _ (by decide)) fun _ => .refl _))

section
variable {s : State} {rq : Req} {tag : Nat} (hl : s.chip.linkUp 1 = true) (hi : s.chip.inStep 1 = true)
include hl hi
theorem peStop_serves {e : Fin 8} (h : s.chip.offers rq 0x49 tag [(.ofNat 32 e : Word)]) (he : s.chip.engRuns e = true) :
    ∃ c', exec (.peStop rq false) s = .next { s with chip := c' } ∧ s.chip.served c' rq 0x49 tag 1 .ok [c'.rd (R.PE_STATUS e)] ∧ c'.engRuns e = false ∧
      Only [Blk.sys, Blk.evr, Blk.que, Blk.sen] s.chip c' := by
  obtain ⟨hs, d, ht, hc⟩ := offers_accepts h (by decide) (by simp)
  obtain ⟨k, hkd⟩ : ∃ k, k = cmdFor rq 0x49 tag [(.ofNat 32 e : Word)] := ⟨_, rfl⟩
  rw [← hkd] at hc
  have a₁ : k.arg 1 = .ofNat 32 e := by rw [hkd]; rfl
  have hg : k.engine = e := Cmd.bits_of a₁ (by omega) (by omega)
  have hde : d.engRuns e = true := (ht.engRuns e).trans he
  obtain ⟨y, hy⟩ : ∃ y, y = F.PE_CTRL_START.put (F.PE_CTRL_STOP.put (d.rd (R.PE_CTRL e)) 1) 0 := ⟨_, rfl⟩
  have hstop : F.PE_CTRL_STOP.get y = 1 := by
    rw [hy, Fld.get_put_ne _ _ _ _ (by decide) (by decide)]
    exact Fld.get_put _ _ _ (by decide)
  obtain ⟨f, h₁, h₂⟩ := d.supWrite_reaches (a := R.PE_CTRL e) y (by rw [dieOf_peCtrl]; exact ht.reaches (by decide) hl hi)
  rw [dieOf_peCtrl, tokens_one] at h₁
  obtain ⟨u, hu⟩ : ∃ u, u = f.wr (R.PE_CTRL e) (storedWord peCtrlDesc [e.val] (f.rd (R.PE_CTRL e)) y) := ⟨_, rfl⟩
  have h₃ : Wrote [0x40100004, R.PE_CTRL e] d u := hu ▸ (h₁.trans (.of_wr f _ _)).mono (by simp)
  have hA : ∀ a ∈ [0x40100004, R.PE_CTRL e], 0x40100000 ≤ a ∧ a < 0x40200000 := by
    simp only [List.forall_mem_cons, R.PE_CTRL]
    simp
    omega
  have hur : u.fget (R.PE_STATUS e) F.PE_STATUS_STATUS = 1 := by
    rw [h₃.fget (by simp [R.PE_STATUS, R.PE_CTRL]; omega) (by simp only [clockReg, R.PE_STATUS]; omega)]
    exact beq_iff_eq.1 hde
  rw [Chip.regWrite_as_peCtrl (findReg_peCtrl e), ← hu, Chip.engCtrl, if_pos hstop, Chip.engStop, if_pos hur] at h₂
  obtain ⟨h₄, h₅⟩ := u.engEnd_says (st := 3) e.2 (by decide)
  have hans := Unanswered.engEnd rq u e 3
  obtain ⟨v, hv⟩ : ∃ v, v = u.engEnd e 3 := ⟨_, rfl⟩
  rw [← hv] at h₂ h₄ h₅ hans
  obtain ⟨h₆, h₇⟩ := acts_serve (op := 0x49) (tag := tag) (res := [v.rd (R.PE_STATUS e)]) hs ht (by simp) h₃ hA hans (h₅.mono (by simp))
  obtain ⟨z, hz⟩ : ∃ z, z = v.complete rq 0x49 tag .ok [v.rd (R.PE_STATUS e)] := ⟨_, rfl⟩
  have hzr : z.rd (R.PE_STATUS e) = v.rd (R.PE_STATUS e) := hz ▸ Chip.rd_complete _ _ _ _ _ _ _ (by simp only [R.PE_STATUS]; omega)
  rw [← hz] at h₆ h₇
  rw [← hzr] at h₆
  refine ⟨z, State.next_chip ((hc _ _ _ (by rw [hkd]; rfl) ?_).trans ?_), h₆, ?_, h₇⟩
  · simp only [hg, only_small 7 3 a₁ (by omega) (by decide) rfl, ht.offLink e (m := 1) (by decide) hl, List.forall_mem_cons, true_and, List.not_mem_nil, false_imp_iff, implies_true]
  · unfold Chip.peStop
    dsimp only
    rw [hg, hde, if_neg (by simp), if_pos rfl, ← hy, h₂, hz, hkd]
    rfl
  · rw [Chip.engRuns, Chip.fget, hzr]
    exact beq_eq_false_iff_ne.2 (by rw [show F.PE_STATUS_STATUS.get (v.rd (R.PE_STATUS e)) = 3 from h₄]; decide)
end

/-- Settles O40: each command writes its registers, with what they cause, and completes. -/
theorem lightingCommandsDo : Obligations.LightingCommandsDo := by
  unfold Obligations.LightingCommandsDo
  exact ⟨fun rq tag x i w e s h hl hi hw he => lsSet_serves hl.1 hl.2 h hi hw he, fun rq tag x w s h hl hw he => lsCfg_serves hl.1 hl.2 h hw he,
    fun rq tag x s h hl hf he => lsRearm_serves hl.1 hl.2 h hf he, fun rq tag m s h hl => ledCommit_serves hl.1 hl.2 h,
    fun rq tag g w lv c₁ c₂ s h hl hm hw hv h₁ h₂ he => lfSet_serves hl.1 hl.2 h hm hw hv h₁ h₂ he, fun rq tag g w s h hl hw he => lfDerate_serves hl.1 hl.2 h hw he,
    fun rq tag g s h hl hf he hn => lfRearm_serves hl.1 h hf he hn, fun rq tag e k x y s h hl he => peLoad_serves hl.1 hl.2 h he,
    fun rq tag e w s h hl hw hw₁ he => peStart_serves hl.1 hl.2 h hw hw₁, fun rq tag e s h hl he => peStop_serves hl.1 hl.2 h he,
    fun rq tag w s h hl hw => ledHrSet_serves hl.1 hl.2 h hw, fun rq tag i w s h hl hw => ntcSet_serves hl.1 hl.2 h hw,
    fun rq tag w s h hl hw => ledHoldSet_serves hl.1 hl.2 h hw⟩

end Sys2Proof.Machine
end

section
/-! SUPPORT. The registers of a power die that a command writes (spec/11, 0x10 to 0x1C and 0x30 to 0x34). -/

namespace Sys2Proof.Machine
open Sys2Proof

/-! ### Registers that only store -/

/-- A register of a power die, but its token. -/
theorem setting_pwr {n a : Nat} (hn : n < 4) (ha : 0x40200000 + n * 0x80000 ≤ a ∧ a < 0x40280000 + n * 0x80000 ∧ a ≠ 0x40240004 + n * 0x80000) {D : RegDesc}
    {ix : List Nat} (hp : Plain a D ix) : Setting (n + 2) (Blk.pwr n) a D ix :=
  { hp with
    die := by
      unfold dieOf
      rw [if_neg (by omega), if_pos (by omega)]
      omega
    free := ⟨by simp only [clockReg]; omega, by
      rw [tokens, if_neg (by omega), List.mem_singleton, tokenAddr_pwr hn]
      exact ha.2.2⟩
    block := by simp only [Blk.pwr]; omega }
theorem tokens_pwr {n : Nat} (hn : n < 4) : tokens (n + 2) = [0x40240004 + n * 0x80000] := by rw [tokens, if_neg (by omega), tokenAddr_pwr hn]
theorem token_pwr {n : Nat} (hn : n < 4) : ∀ t ∈ tokens (n + 2), (Blk.pwr n).1 ≤ t ∧ t < (Blk.pwr n).2 := by
  rw [tokens_pwr hn, List.forall_mem_singleton]
  simp only [Blk.pwr]
  omega

theorem repIndex_past {ch o b m i : Nat} (ho : o < 0x100) (hb : 0x40200000 ≤ b) (hm : b + m * 4 ≤ 0x40200000 + o) :
    repIndex (chanReps ++ [(m, 4, i)]) (chBase ch + o - b) = none := by
  have h : (chBase ch + o - b) % 0x80000 % 0x100 = 0x40200000 + o - b := by
    simp only [chBase]
    omega
  have hlt : ¬ (0x40200000 + o - b) / 4 < m := Nat.not_lt.2 ((Nat.le_div_iff_mul_le (by decide)).2 (by omega))
  rw [chanReps, List.cons_append, List.cons_append, List.nil_append, repIndex, repIndex, repIndex, h, if_neg hlt]
  split
  · split <;> rfl
  · rfl
/-- The descriptor is of words of a power die, none of them a channel's at offset 0xB0 or beyond. -/
abbrev RegDesc.beforeLoad (d : RegDesc) : Prop :=
  (d.reps = chanReps ∧ 0x40200000 ≤ d.base ∧ d.base < 0x402000B0) ∨ (d.reps = [(4, 0x80000, 0)] ∧ 0x40240000 ≤ d.base ∧ d.base < 0x40280000) ∨
    (d.reps = chanReps ++ [((d.reps.getD 2 (0, 0, 0)).1, 4, (d.reps.getD 2 (0, 0, 0)).2.2)] ∧ 0x40200000 ≤ d.base ∧ d.base + (d.reps.getD 2 (0, 0, 0)).1 * 4 ≤ 0x402000B0)
theorem findIn_past {ch o : Nat} (ho : 0xB0 ≤ o ∧ o < 0x100) {l l' : List RegDesc} (h : ∀ d ∈ l, d.beforeLoad) :
    findIn (l ++ l') (chBase ch + o) = findIn l' (chBase ch + o) := by
  induction l with
  | nil => rfl
  | cons d l ih =>
    rw [List.forall_mem_cons] at h
    rw [List.cons_append, findIn, ih h.2]
    split
    case isFalse => rfl
    case isTrue hle =>
      have hn : repIndex d.reps (chBase ch + o - d.base) = none := by
        obtain ⟨hr, hb, hb'⟩ | ⟨hr, hb, hb'⟩ | ⟨hr, hb, hm⟩ := h.1
        · rw [hr]
          exact repIndex_chan_ne ho.2 hb (by omega) (by omega) hle
        · rw [hr]
          exact repIndex_die_ne ho.2 hb hb' hle
        · rw [hr]
          exact repIndex_past ho.2 hb (by omega)
      rw [hn]

section
variable {ch : Nat} (hch : ch < 192)
include hch
/-- A register of a channel. -/
theorem setting_chan {o : Nat} (ho : o < 0x100) {D : RegDesc} (h : findReg (chBase ch + o) = some (D, [ch / 48, ch % 48]))
    (hi : D.id ∉ busyIds ∧ D.id ∉ actingIds ∧ D.wo1 = 0 ∧ D.rwl = 0) (hs : ∀ e : Chip, e.sealedReg D.id [ch / 48, ch % 48] = false) :
    Setting (physDie ch) (Blk.pwr (pdie ch)) (chBase ch + o) D [ch / 48, ch % 48] := by
  obtain ⟨h₁, h₂, h₃, h₄⟩ := hi
  refine setting_pwr (by simp only [pdie]; omega) ?_ ⟨h, h₁, h₂, h₃, h₄, hs⟩
  simp only [chBase, pdie]
  omega
theorem findReg_load {o : Nat} (ho : 0xB0 ≤ o ∧ o < 0x100) {d : RegDesc} (h : chanDesc o (pwrRegs.drop 38) = some d) :
    findReg (chBase ch + o) = some (d, [ch / 48, ch % 48]) := by
  have hlo := chReg_lo ch o
  have hhi := chReg_hi hch ho.2
  have hb : blockDescs regBlocks (chBase ch + o) = pwrRegs := by
    simp only [regBlocks, blockDescs]
    repeat rw [if_neg (by omega)]
    rw [if_pos (by omega)]
  rw [findReg, hb, ← List.take_append_drop 38 pwrRegs, findIn_past ho (by decide), findIn_chan hch ho.2 h]

/-- The descriptors of the registers of a channel that only store. -/
def olCfgDesc : RegDesc := ⟨.CH_OL_CFG, 0x402000B0, [(4, 0x80000, 0), (48, 0x100, 0)], 0xFFFFFFFF, 0, 0, 0, 0, 0xD330A100⟩
def olThrDesc : RegDesc := ⟨.CH_OL_THR, 0x402000B4, [(4, 0x80000, 0), (48, 0x100, 0)], 0x3FF, 0, 0, 0, 0, 0⟩
def lidCtrlDesc : RegDesc := ⟨.CH_LID_CTRL, 0x402000BC, [(4, 0x80000, 0), (48, 0x100, 0)], 0x80000000, 0, 0, 0, 0, 0⟩
def protCfgDesc : RegDesc := ⟨.CH_PROT_CFG, 0x40200030, [(4, 0x80000, 0), (48, 0x100, 0)], 0, 0, 0xFFFF0F00, 0, 0, 0x140A0300⟩
def wireCfgDesc : RegDesc := ⟨.CH_WIRE_CFG, 0x40200034, [(4, 0x80000, 0), (48, 0x100, 0)], 0, 0, 0x8FFF03FF, 0, 0, 0x80000000⟩
def limpCfgDesc : RegDesc := ⟨.CH_LIMP_CFG, 0x40200038, [(4, 0x80000, 0), (48, 0x100, 0)], 0, 0, 3, 0, 0, 0⟩

theorem setting_olCfg : Setting (physDie ch) (Blk.pwr (pdie ch)) (R.CH_OL_CFG ch) olCfgDesc [ch / 48, ch % 48] :=
  setting_chan hch (o := 0xB0) (by decide) (findReg_load hch (by decide) (by decide)) (by decide) fun _ => rfl
theorem setting_olThr : Setting (physDie ch) (Blk.pwr (pdie ch)) (R.CH_OL_THR ch) olThrDesc [ch / 48, ch % 48] :=
  setting_chan hch (o := 0xB4) (by decide) (findReg_load hch (by decide) (by decide)) (by decide) fun _ => rfl
theorem setting_lidCtrl : Setting (physDie ch) (Blk.pwr (pdie ch)) (R.CH_LID_CTRL ch) lidCtrlDesc [ch / 48, ch % 48] :=
  setting_chan hch (o := 0xBC) (by decide) (findReg_load hch (by decide) (by decide)) (by decide) fun _ => rfl
variable (hs : isSealed ch = false)
include hs
theorem setting_protCfg : Setting (physDie ch) (Blk.pwr (pdie ch)) (R.CH_PROT_CFG ch) protCfgDesc [ch / 48, ch % 48] :=
  setting_chan hch (o := 0x30) (by decide) (findReg_chan hch (by decide) (by decide)) (by decide) fun _ => (congrArg isSealed (by simp only [chOf]; omega)).trans hs
theorem setting_wireCfg : Setting (physDie ch) (Blk.pwr (pdie ch)) (R.CH_WIRE_CFG ch) wireCfgDesc [ch / 48, ch % 48] :=
  setting_chan hch (o := 0x34) (by decide) (findReg_chan hch (by decide) (by decide)) (by decide) fun _ => (congrArg isSealed (by simp only [chOf]; omega)).trans hs
theorem setting_limpCfg : Setting (physDie ch) (Blk.pwr (pdie ch)) (R.CH_LIMP_CFG ch) limpCfgDesc [ch / 48, ch % 48] :=
  setting_chan hch (o := 0x38) (by decide) (findReg_chan hch (by decide) (by decide)) (by decide) fun _ => (congrArg isSealed (by simp only [chOf]; omega)).trans hs
end

/-- The descriptors of the registers of a power die that only store. -/
def holdTimeDesc : RegDesc := ⟨.PWR_HOLD_TIME, 0x40240300, [(4, 0x80000, 0)], 0x3FF, 0, 0, 0, 0, 0x32⟩
def tdrCfgDesc : RegDesc := ⟨.PWR_TDR_CFG, 0x40240604, [(4, 0x80000, 0)], 0x7F7F, 0, 0, 0, 0, 0x1005⟩
def commitMask0Desc : RegDesc := ⟨.PWR_COMMIT_MASK0, 0x40240100, [(4, 0x80000, 0)], 0xFFFFFFFF, 0, 0, 0, 0, 0⟩
def commitMask1Desc : RegDesc := ⟨.PWR_COMMIT_MASK1, 0x40240104, [(4, 0x80000, 0)], 0xFFFF, 0, 0, 0, 0, 0⟩
theorem setting_holdTime (n : Fin 4) : Setting (n + 2) (Blk.pwr n) (R.PWR_HOLD_TIME n) holdTimeDesc [n.val] :=
  setting_pwr n.2 (by simp only [R.PWR_HOLD_TIME]; omega) ⟨by fin_cases n <;> rfl, by decide, by decide, rfl, rfl, fun _ => rfl⟩
theorem setting_tdrCfg (n : Fin 4) : Setting (n + 2) (Blk.pwr n) (R.PWR_TDR_CFG n) tdrCfgDesc [n.val] :=
  setting_pwr n.2 (by simp only [R.PWR_TDR_CFG]; omega) ⟨by fin_cases n <;> rfl, by decide, by decide, rfl, rfl, fun _ => rfl⟩
theorem setting_commitMask0 (n : Fin 4) : Setting (n + 2) (Blk.pwr n) (R.PWR_COMMIT_MASK0 n) commitMask0Desc [n.val] :=
  setting_pwr n.2 (by simp only [R.PWR_COMMIT_MASK0]; omega) ⟨by fin_cases n <;> rfl, by decide, by decide, rfl, rfl, fun _ => rfl⟩
theorem setting_commitMask1 (n : Fin 4) : Setting (n + 2) (Blk.pwr n) (R.PWR_COMMIT_MASK1 n) commitMask1Desc [n.val] :=
  setting_pwr n.2 (by simp only [R.PWR_COMMIT_MASK1]; omega) ⟨by fin_cases n <;> rfl, by decide, by decide, rfl, rfl, fun _ => rfl⟩

/-! ### What the die clamps or keeps -/

def olNorm : List (Fld × (Nat → Nat → Nat)) := [(F.CH_OL_CFG_STRETCH_N, clampTo 32 4095), (F.CH_OL_CFG_OFF_INTERVAL, someOne), (F.CH_OL_CFG_ON_CONFIRM, someOne),
  (F.CH_OL_CFG_OFF_CONFIRM, someOne), (F.CH_OL_CFG_OFF_THR, keepOn (· == 3))]
theorem olNorm_eq (l : List Nat) (o z : Word) : regNorm .CH_OL_CFG l o z = normAll olNorm o z := by
  show F.CH_OL_CFG_STRETCH_N.clamp 32 4095 (F.CH_OL_CFG_OFF_INTERVAL.some1 (F.CH_OL_CFG_ON_CONFIRM.some1 (F.CH_OL_CFG_OFF_CONFIRM.some1
    (F.CH_OL_CFG_OFF_THR.keep (· == 3) o z)))) = _
  rw [Fld.keep_eq, Fld.some1_eq _ o, Fld.some1_eq _ o, Fld.some1_eq _ o, Fld.clamp_eq _ _ _ o]
  rfl
def wireNorm : List (Fld × (Nat → Nat → Nat)) := [(F.CH_WIRE_CFG_TAU, someOne), (F.CH_WIRE_CFG_I_RATED, someOne)]
theorem wireNorm_eq (l : List Nat) (o z : Word) : regNorm .CH_WIRE_CFG l o z = normAll wireNorm o z := by
  show F.CH_WIRE_CFG_TAU.some1 (F.CH_WIRE_CFG_I_RATED.some1 z) = _
  rw [Fld.some1_eq _ o, Fld.some1_eq _ o]
  rfl
def protNorm : List (Fld × (Nat → Nat → Nat)) := [(F.CH_PROT_CFG_BACKOFF_BASE, someOne)]
theorem protNorm_eq (l : List Nat) (o z : Word) : regNorm .CH_PROT_CFG l o z = normAll protNorm o z := by
  show F.CH_PROT_CFG_BACKOFF_BASE.some1 z = _
  rw [Fld.some1_eq _ o]
  rfl
def limpNorm : List (Fld × (Nat → Nat → Nat)) := [(F.CH_LIMP_CFG_LIMP_MODE, keepOn (· == 3))]
theorem limpNorm_eq (l : List Nat) (o z : Word) : regNorm .CH_LIMP_CFG l o z = normAll limpNorm o z := by
  show F.CH_LIMP_CFG_LIMP_MODE.keep (· == 3) o z = _
  rw [Fld.keep_eq]
  rfl

/-! ### Commands that only store -/

section
variable {s : State} {d : Chip} {rq : Req} {op tag k n : Nat} (hn : n < 4) (hl : s.chip.linkUp (n + 2) = true) (hi : s.chip.inStep (n + 2) = true)
  (hs : s.chip.serves rq = true) (ht : Taken rq k s.chip d)
include hn hl hi ht
theorem Taken.reaches_pwr : d.reaches (n + 2) := ht.reaches (by omega) hl hi
include hs
/-- What plain registers of a power die take that a command writes. -/
theorem sets_pwr {l : List (Nat × Word)} (hd : (l.map (·.1)).Nodup) (hp : ∀ p ∈ l, ∃ D ix, Setting (n + 2) (Blk.pwr n) p.1 D ix) :
    s.chip.served ((d.supWrites l).complete rq op tag .ok []) rq op tag k .ok [] ∧
      (∀ p ∈ l, ∀ D ix, Plain p.1 D ix → ((d.supWrites l).complete rq op tag .ok []).rd p.1 = storedWord D ix (s.chip.rd p.1) p.2) ∧
      Only [Blk.sys, Blk.evr, Blk.que, Blk.pwr n] s.chip ((d.supWrites l).complete rq op tag .ok []) :=
  writes_serve [] hs ht (by simp) (by omega) (ht.reaches_pwr hn hl hi) hd hp (token_pwr hn)
end

/-- A command's writes at a power die, with what the last of them causes, and its completion. -/
theorem acts_pwr {c d e f : Chip} {rq : Req} {op tag k n : Nat} {A : List Nat} {res : List Word} (hs : c.serves rq = true) (ht : Taken rq k c d) (hr : res.length ≤ 32)
    (hw : Wrote A d e) (hA : ∀ a ∈ A, 0x40200000 + n * 0x80000 ≤ a ∧ a < 0x40280000 + n * 0x80000) (hu : Unanswered rq e f)
    (ho : Only [Blk.sys, Blk.evr, Blk.que, Blk.pwr n] e f) :
    c.served (f.complete rq op tag .ok res) rq op tag k .ok res ∧ Only [Blk.sys, Blk.evr, Blk.que, Blk.pwr n] c (f.complete rq op tag .ok res) :=
  ⟨served_says hs ht ((hw.unanswered fun a ha => .inr (by have := hA a ha; omega)).trans hu) op tag .ok hr,
    (ht.only _ (by simp)).trans ((hw.only (by simp) fun a ha => ⟨Blk.pwr n, by simp, hA a ha⟩).trans (ho.trans ((Only.complete _ _ _ _ _ _ _).mono (by simp))))⟩

/-! ### The checks on a channel -/

section
variable {c d : Chip} {rq : Req} {n : Nat} (ht : Taken rq n c d) {k : Cmd} {ch : Fin 192}
include ht
theorem Taken.linkUp_phys (h : c.linkUp (physDie ch) = true) (x : Nat) : (d.offLink (physDie ch) x).1 = false :=
  ht.offLink x (by simp only [physDie, pdie]; omega) h
theorem Taken.chanChecks {mask : Nat} (hk : k.ch = ch) (ho : c.ownerOf (c.lead ch) = k.rq.code) (hs : isSealed ch = false) (hm : (k.only 1 mask).1 = false) :
    ∀ x ∈ d.chanChecks k mask, x.1 = false := by
  have h₁ : d.owns k ch = true := by
    rw [Chip.owns, ht.lead, ht.ownerOf, ho, beq_self_eq_true, Bool.or_true]
  have h₂ : decide (192 ≤ ch.val) = false := decide_eq_false (by omega)
  simp only [Chip.chanChecks, notOwner, denied, badArg, hk, hs, h₁, h₂, hm, Bool.not_true, List.forall_mem_cons, true_and, List.not_mem_nil, false_imp_iff, implies_true]
theorem Taken.chState (x : Nat) : d.chState x = c.chState x := congrArg ChState.ofCode (ht.fget (by simp only [R.CH_STATUS, chBase]; omega) F.CH_STATUS_STATE)
theorem Taken.chanState (hk : k.ch = ch) (hl : c.linkUp (physDie ch) = true) (hst : c.chState (c.lead ch) ≠ .disabled) : ∀ x ∈ d.chanState k.ch, x.1 = false := by
  have h₁ : (d.chState (d.lead ch) == ChState.disabled) = false := by
    rw [ht.lead, ht.chState]
    exact beq_false_of_ne hst
  simp only [Chip.chanState, disabledIf, hk, h₁, ht.linkUp_phys hl, List.forall_mem_cons, true_and, List.not_mem_nil, false_imp_iff, implies_true]
theorem Taken.oddCheck (hk : k.ch = ch) (ho : c.oddMember ch = false) : (d.oddCheck k.ch).1 = false := by
  rw [Chip.oddCheck, refusedBy, hk, Chip.oddMember, ht.paired]
  exact ho
end

end Sys2Proof.Machine
end

section
/-! PROOF. The commands that only store on a channel or a power die (spec/11, 0x15 to 0x1B, 0x30). -/

namespace Sys2Proof.Machine
open Sys2Proof

section
variable {s : State} {rq : Req} {tag : Nat} {ch : Fin 192}

theorem Cmd.ch_of {k : Cmd} {v : Nat} (h : k.arg 1 = .ofNat 32 v) (hv : v < 2 ^ 32) (hm : v % 256 = ch) : k.ch = ch := Cmd.bits_of h hv (by omega)
theorem Chip.supWrite_one (c : Chip) (a : Nat) (x : Word) : c.supWrite .sup a x = c.supWrites [(a, x)] := rfl

/-! ### OL_SET -/

section
variable (hs' : isSealed ch = false) (ho : s.chip.ownerOf (s.chip.lead ch) = rq.code) (hl : s.chip.linkUp (physDie ch) = true) (hi : s.chip.inStep (physDie ch) = true)
include hs' ho hl hi

theorem olSet_serves {x y : Word} (h : s.chip.offers rq 0x30 tag [(.ofNat 32 ch : Word), x, y]) (hst : s.chip.chState (s.chip.lead ch) ≠ .disabled)
    (hx : layoutOk .CH_OL_CFG [pdie ch, ch % 48] x = true) (hy : layoutOk .CH_OL_THR [pdie ch, ch % 48] y = true) :
    ∃ c', exec (.olSet rq) s = .next { s with chip := c' } ∧ s.chip.served c' rq 0x30 tag 3 .ok [] ∧ c'.took .CH_OL_CFG (R.CH_OL_CFG ch) x ∧
      c'.took .CH_OL_THR (R.CH_OL_THR ch) y ∧ Only [Blk.sys, Blk.evr, Blk.que, Blk.pwr (pdie ch)] s.chip c' := by
  obtain ⟨hs, d, ht, hc⟩ := offers_accepts h (by decide) (by simp)
  obtain ⟨k, hkd⟩ : ∃ k, k = cmdFor rq 0x30 tag [(.ofNat 32 ch : Word), x, y] := ⟨_, rfl⟩
  rw [← hkd] at hc
  obtain ⟨a₁, a₂, a₃, hrq⟩ : k.arg 1 = .ofNat 32 ch ∧ k.arg 2 = x ∧ k.arg 3 = y ∧ k.rq = rq := by
    rw [hkd]
    exact ⟨rfl, rfl, rfl, rfl⟩
  have hch : k.ch = ch := Cmd.ch_of a₁ (by omega) (by omega)
  have px := setting_olCfg ch.2
  have py := setting_olThr ch.2
  obtain ⟨h₁, h₂, h₃⟩ := sets_pwr (op := 0x30) (tag := tag) (n := pdie ch) (l := [(R.CH_OL_CFG ch, x), (R.CH_OL_THR ch, y)]) (by simp only [pdie]; omega) hl hi hs ht
    (by simp [R.CH_OL_CFG, R.CH_OL_THR]) (List.forall_mem_cons.2 ⟨⟨_, _, px⟩, List.forall_mem_singleton.2 ⟨_, _, py⟩⟩)
  simp only [List.forall_mem_cons, List.not_mem_nil, false_imp_iff, implies_true, and_true] at h₂
  refine ⟨_, State.next_chip ((hc _ _ _ (by rw [hkd]; rfl) ?_).trans (by rw [Chip.olSet, hch, a₂, a₃, hkd]; rfl)), h₁,
    Chip.took_layout olNorm (h₂.1 _ _ px.toPlain) (by decide) (olNorm_eq _) (by decide) (by simp [olNorm, steady_clampTo, steady_someOne, steady_keepOn]) (by decide) hx,
    Chip.took_stored (D := olThrDesc) (h₂.2 _ _ py.toPlain) (by decide) rfl, h₃⟩
  refine List.forall_mem_append.2 ⟨List.forall_mem_append.2 ⟨ht.chanChecks hch (hrq ▸ ho) hs' (only_small 0xFF 8 a₁ (by omega) (by decide) rfl), ?_⟩, ht.chanState hch hl hst⟩
  rw [pdie] at hx hy
  simp only [Cmd.lay, badArg, hch, a₂, a₃, pdie, hx, hy, Bool.not_true, List.forall_mem_cons, true_and, List.not_mem_nil, false_imp_iff, implies_true]

/-! ### CH_SET_PROT -/

theorem chSetProt_serves {x y z : Word} (h : s.chip.offers rq 0x16 tag [(.ofNat 32 ch : Word), x, y, z]) (hst : s.chip.chState (s.chip.lead ch) ≠ .disabled)
    (hx : layoutOk .CH_PROT_CFG [pdie ch, ch % 48] x = true) (hy : layoutOk .CH_WIRE_CFG [pdie ch, ch % 48] y = true)
    (hz : layoutOk .CH_LIMP_CFG [pdie ch, ch % 48] z = true) :
    ∃ c', exec (.chSetProt rq) s = .next { s with chip := c' } ∧ s.chip.served c' rq 0x16 tag 4 .ok [] ∧ c'.took .CH_PROT_CFG (R.CH_PROT_CFG ch) x ∧
      c'.took .CH_WIRE_CFG (R.CH_WIRE_CFG ch) y ∧ c'.took .CH_LIMP_CFG (R.CH_LIMP_CFG ch) z ∧ Only [Blk.sys, Blk.evr, Blk.que, Blk.pwr (pdie ch)] s.chip c' := by
  obtain ⟨hs, d, ht, hc⟩ := offers_accepts h (by decide) (by simp)
  obtain ⟨k, hkd⟩ : ∃ k, k = cmdFor rq 0x16 tag [(.ofNat 32 ch : Word), x, y, z] := ⟨_, rfl⟩
  rw [← hkd] at hc
  obtain ⟨a₁, a₂, a₃, a₄, hrq⟩ : k.arg 1 = .ofNat 32 ch ∧ k.arg 2 = x ∧ k.arg 3 = y ∧ k.arg 4 = z ∧ k.rq = rq := by
    rw [hkd]
    exact ⟨rfl, rfl, rfl, rfl, rfl⟩
  have hch : k.ch = ch := Cmd.ch_of a₁ (by omega) (by omega)
  have px := setting_protCfg ch.2 hs'
  have py := setting_wireCfg ch.2 hs'
  have pz := setting_limpCfg ch.2 hs'
  obtain ⟨h₁, h₂, h₃⟩ := sets_pwr (op := 0x16) (tag := tag) (n := pdie ch) (l := [(R.CH_PROT_CFG ch, x), (R.CH_WIRE_CFG ch, y), (R.CH_LIMP_CFG ch, z)]) (by simp only [pdie]; omega)
    hl hi hs ht (by simp [R.CH_PROT_CFG, R.CH_WIRE_CFG, R.CH_LIMP_CFG])
    (List.forall_mem_cons.2 ⟨⟨_, _, px⟩, List.forall_mem_cons.2 ⟨⟨_, _, py⟩, List.forall_mem_singleton.2 ⟨_, _, pz⟩⟩⟩)
  simp only [List.forall_mem_cons, List.not_mem_nil, false_imp_iff, implies_true, and_true] at h₂
  obtain ⟨r₁, r₂, r₃⟩ := h₂
  refine ⟨_, State.next_chip ((hc _ _ _ (by rw [hkd]; rfl) ?_).trans (by rw [Chip.chSetProt, hch, a₂, a₃, a₄, hkd]; rfl)), h₁,
    Chip.took_layout protNorm (r₁ _ _ px.toPlain) (by decide) (protNorm_eq _) (by decide) (by simp [protNorm, steady_someOne]) (by decide) hx,
    Chip.took_layout wireNorm (r₂ _ _ py.toPlain) (by decide) (wireNorm_eq _) (by decide) (by simp [wireNorm, steady_someOne]) (by decide) hy,
    Chip.took_layout limpNorm (r₃ _ _ pz.toPlain) (by decide) (limpNorm_eq _) (by decide) (by simp [limpNorm, steady_keepOn]) (by decide) hz, h₃⟩
  refine List.forall_mem_append.2 ⟨List.forall_mem_append.2 ⟨ht.chanChecks hch (hrq ▸ ho) hs' (only_small 0xFF 8 a₁ (by omega) (by decide) rfl), ?_⟩, ht.chanState hch hl hst⟩
  rw [pdie] at hx hy hz
  simp only [Cmd.lay, badArg, hch, a₂, a₃, a₄, pdie, hx, hy, hz, Bool.not_true, List.forall_mem_cons, true_and, List.not_mem_nil, false_imp_iff, implies_true]
end

/-! ### CH_GET -/

theorem Taken.statusOf {n : Nat} {c d : Chip} (ht : Taken rq n c d) (x : Nat) : d.statusOf x = c.statusOf x := by
  have h (y : Nat) : d.rd (R.CH_STATUS y) = c.rd (R.CH_STATUS y) := ht.rd (by simp only [R.CH_STATUS, chBase]; omega)
  rw [Chip.statusOf, Chip.statusOf, Chip.oddMember, Chip.oddMember, ht.paired, h, h]
theorem chGet_serves (h : s.chip.offers rq 0x18 tag [(.ofNat 32 ch : Word)]) (hl : s.chip.linkUp (physDie ch) = true) :
    ∃ c', exec (.chGet rq) s = .next { s with chip := c' } ∧ s.chip.served c' rq 0x18 tag 1 .ok
      [s.chip.statusOf ch, s.chip.rd (R.CH_PROT_STATUS ch), s.chip.rd (R.CH_OL_STATUS ch), s.chip.rd (R.CH_I_AVG ch), s.chip.rd (R.CH_VOLT ch), s.chip.rd (R.CH_TJ ch)] ∧
      c'.cmds = s.chip.cmds ∧ Only [Blk.sys, Blk.evr, Blk.que] s.chip c' := by
  obtain ⟨hs, d, ht, hc⟩ := offers_accepts h (by decide) (by simp)
  obtain ⟨k, hkd⟩ : ∃ k, k = cmdFor rq 0x18 tag [(.ofNat 32 ch : Word)] := ⟨_, rfl⟩
  rw [← hkd] at hc
  have a₁ : k.arg 1 = .ofNat 32 ch := by rw [hkd]; rfl
  have hch : k.ch = ch := Cmd.ch_of a₁ (by omega) (by omega)
  have hrd {o : Nat} : d.rd (chBase ch + o) = s.chip.rd (chBase ch + o) := ht.rd (by simp only [chBase]; omega)
  obtain ⟨res, hres⟩ : ∃ res, res = [s.chip.statusOf ch, s.chip.rd (R.CH_PROT_STATUS ch), s.chip.rd (R.CH_OL_STATUS ch), s.chip.rd (R.CH_I_AVG ch), s.chip.rd (R.CH_VOLT ch),
    s.chip.rd (R.CH_TJ ch)] := ⟨_, rfl⟩
  have hrun : d.chGet k = d.complete rq 0x18 tag .ok res := by
    rw [Chip.chGet, hch, ht.statusOf, R.CH_PROT_STATUS, R.CH_OL_STATUS, R.CH_I_AVG, R.CH_VOLT, R.CH_TJ, hrd, hrd, hrd, hrd, hrd, hkd, hres]
    rfl
  rw [← hres]
  refine ⟨_, State.next_chip ((hc _ _ _ (by rw [hkd]; rfl) ?_).trans hrun), served_says hs ht (.refl d) 0x18 tag .ok (by simp [hres]), ?_, ?_⟩
  · have h₁ : decide (192 ≤ ch.val) = false := decide_eq_false (by omega)
    simp only [badArg, hch, only_small 0xFF 8 a₁ (by omega) (by decide) rfl, h₁, ht.linkUp_phys hl, List.forall_mem_cons, true_and, List.not_mem_nil, false_imp_iff, implies_true]
  · exact (Chip.cmds_complete _ _ _ _ _ _ _).trans ht.cmds
  · exact (ht.only _ (by simp)).trans ((Only.complete _ _ _ _ _ _ _).mono (by simp))
end

/-! ### HOLD_SET -/

section
variable {s : State} {rq : Req} {tag : Nat} {n : Fin 4} (hl : s.chip.linkUp (n + 2) = true) (hi : s.chip.inStep (n + 2) = true)
include hl

theorem Taken.dieCheck {k : Nat} {d : Chip} (ht : Taken rq k s.chip d) : (d.dieCheck n).1 = false := ht.offLink n (m := n + 2) (by omega) hl
include hi
theorem holdSet_serves {x : Word} (h : s.chip.offers rq 0x1B tag [(.ofNat 32 n : Word), x]) (hx : layoutOk .PWR_HOLD_TIME [n.val] x = true) :
    ∃ c', exec (.holdSet rq) s = .next { s with chip := c' } ∧ s.chip.served c' rq 0x1B tag 2 .ok [] ∧ c'.took .PWR_HOLD_TIME (R.PWR_HOLD_TIME n) x ∧
      Only [Blk.sys, Blk.evr, Blk.que, Blk.pwr n] s.chip c' := by
  obtain ⟨hs, d, ht, hc⟩ := offers_accepts h (by decide) (by simp)
  obtain ⟨k, hkd⟩ : ∃ k, k = cmdFor rq 0x1B tag [(.ofNat 32 n : Word), x] := ⟨_, rfl⟩
  rw [← hkd] at hc
  obtain ⟨a₁, a₂⟩ : k.arg 1 = .ofNat 32 n ∧ k.arg 2 = x := by
    rw [hkd]
    exact ⟨rfl, rfl⟩
  have hd : k.die = n := Cmd.bits_of a₁ (by omega) (by omega)
  have px := setting_holdTime n
  obtain ⟨h₁, h₂, h₃⟩ := sets_pwr (op := 0x1B) (tag := tag) (l := [(R.PWR_HOLD_TIME n, x)]) n.2 hl hi hs ht (by simp) (List.forall_mem_singleton.2 ⟨_, _, px⟩)
  refine ⟨_, State.next_chip ((hc _ _ _ (by rw [hkd]; rfl) ?_).trans (by rw [Chip.holdSet, hd, a₂, hkd, Chip.supWrite_one]; rfl)), h₁,
    Chip.took_layout [(F.PWR_HOLD_TIME_HOLD, clampTo 0 1000)] (h₂ _ (List.mem_singleton_self _) _ _ px.toPlain) (by decide) (fun _ _ => rfl) (by decide)
      (by simp [steady_clampTo]) (by decide) hx, h₃⟩
  simp only [Cmd.lay, badArg, hd, a₂, only_small 3 2 a₁ (by omega) (by decide) rfl, hx, ht.dieCheck hl, Bool.not_true, List.forall_mem_cons, true_and, List.not_mem_nil,
    false_imp_iff, implies_true]
end

end Sys2Proof.Machine
end

section
/-! PROOF. PROFILE_WRITE (spec/11, 0x19). -/

namespace Sys2Proof.Machine
open Sys2Proof

/-! ### The registers that every power die has -/

/-- The descriptors of the registers that every power die has, and of those that die 3 alone has. -/
def pwrUnits : List RegDesc := pwrRegs.filter fun d => d.reps.head? == some (4, 0x80000, 0)

theorem findIn_filter {p : RegDesc → Bool} {a : Nat} {l : List RegDesc} (h : ∀ d ∈ l, p d = false → d.base ≤ a → repIndex d.reps (a - d.base) = none) :
    findIn l a = findIn (l.filter p) a := by
  induction l with
  | nil => rfl
  | cons d l ih =>
    rw [List.forall_mem_cons] at h
    cases hp : p d with
    | true => rw [List.filter_cons_of_pos hp, findIn, findIn, ih h.2]
    | false =>
      rw [List.filter_cons_of_neg (by simp [hp]), ← ih h.2, findIn]
      split
      case isTrue hle => rw [h.1 hp hle]
      case isFalse => rfl
/-- The registers that die 3 alone has lie from 0x403C0B00 to 0x403C0E04. -/
theorem pwrRegs_sealed : ∀ d ∈ pwrRegs, (d.reps.head? == some (4, 0x80000, 0)) = false → 0x403C0B00 ≤ d.base ∧ d.below 0x403C0E04 = true := by decide
theorem findReg_pwr {n o : Nat} (hn : n < 4) (ho : o < 0x80000) (hs : o < 0x40B00 ∨ 0x40E04 ≤ o) {d : RegDesc} {ix : List Nat}
    (h : unitFind 4 0x80000 0x40200000 o pwrUnits = some (d, ix)) : findReg (0x40200000 + n * 0x80000 + o) = some (d, n :: ix) := by
  have hb : blockDescs regBlocks (0x40200000 + n * 0x80000 + o) = pwrRegs := by
    simp only [regBlocks, blockDescs]
    repeat rw [if_neg (by omega)]
    rw [if_pos (by omega)]
  rw [findReg, hb, findIn_filter (p := fun d => d.reps.head? == some (4, 0x80000, 0)) fun d hd hp hle => ?_]
  · exact findIn_unit hn ho h
  · obtain ⟨h₁, h₂⟩ := pwrRegs_sealed d hd hp
    exact repIndex_beyond h₂ (by omega)

/-! ### The user profiles -/

def ipHdrDesc : RegDesc := ⟨.IP_HDR, 0x40250000, [(4, 0x80000, 0), (16, 0x100, 0)], 0xFF0F, 0, 0, 0, 0, 0x8200⟩
def ipSegDesc : RegDesc := ⟨.IP_SEG, 0x40250004, [(4, 0x80000, 0), (16, 0x100, 0), (8, 0x4, 0)], 0x7FFFFF, 0, 0, 0, 0, 0⟩
section
variable (n : Fin 4) (p : Fin 16)
theorem setting_ipHdr : Setting (n + 2) (Blk.pwr n) (R.IP_HDR n p) ipHdrDesc [n.val, p.val] := by
  have ha : R.IP_HDR n p = 0x40200000 + n * 0x80000 + (0x50000 + p * 0x100) := by
    simp only [R.IP_HDR]
    omega
  refine setting_pwr n.2 (by omega) ⟨?_, by decide, by decide, rfl, rfl, fun _ => rfl⟩
  rw [ha]
  exact findReg_pwr n.2 (by omega) (by omega) (by clear ha; revert p; decide)
theorem setting_ipSeg (j : Fin 8) : Setting (n + 2) (Blk.pwr n) (R.IP_SEG n p j) ipSegDesc [n.val, p.val, j.val] := by
  have ha : R.IP_SEG n p j = 0x40200000 + n * 0x80000 + (0x50004 + p * 0x100 + j * 4) := by
    simp only [R.IP_SEG]
    omega
  refine setting_pwr n.2 (by omega) ⟨?_, by decide, by decide, rfl, rfl, fun _ => rfl⟩
  rw [ha]
  exact findReg_pwr n.2 (by omega) (by omega) (by clear ha; revert p j; decide +kernel)
end

/-- A user profile's header takes at most 8 segments, and an envelope factor of at least 1.00. -/
def hdrNorm : List (Fld × (Nat → Nat → Nat)) := [(F.IP_HDR_ENV_FACTOR, clampTo 100 255), (F.IP_HDR_NSEG, clampTo 0 8)]
theorem hdrNorm_eq {n p : Nat} (hp : 7 ≤ p) (o z : Word) : regNorm .IP_HDR [n, p] o z = normAll hdrNorm o z := by
  have h : regNorm .IP_HDR [n, p] o z = if p < 7 then o else F.IP_HDR_ENV_FACTOR.clamp 100 255 (if 8 < F.IP_HDR_NSEG.get z then F.IP_HDR_NSEG.put z 8 else z) := rfl
  have h₁ : (if 8 < F.IP_HDR_NSEG.get z then F.IP_HDR_NSEG.put z 8 else z) = F.IP_HDR_NSEG.put z (clampTo 0 8 (F.IP_HDR_NSEG.get o) (F.IP_HDR_NSEG.get z)) := by
    have hc : clampTo 0 8 (F.IP_HDR_NSEG.get o) (F.IP_HDR_NSEG.get z) = min 8 (F.IP_HDR_NSEG.get z) := Nat.zero_max _
    rw [hc]
    split
    case isTrue h => rw [Nat.min_eq_left (by omega)]
    case isFalse h => rw [Nat.min_eq_right (by omega), Fld.put_get]
  rw [h, if_neg (by omega), h₁, Fld.clamp_eq _ _ _ o]
  rfl
theorem segNorm_eq {n p j : Nat} (hp : 7 ≤ p) (o z : Word) : regNorm .IP_SEG [n, p, j] o z = z := by
  have h : regNorm .IP_SEG [n, p, j] o z = if p < 7 then o else z := rfl
  rw [h, if_neg (by omega)]

theorem profile_mask (n : Fin 4) (p : Fin 16) : (.ofNat 32 (n + 256 * p) : Word).toNat &&& 0xF03 = (.ofNat 32 (n + 256 * p) : Word).toNat := by
  revert n p
  decide
theorem profileWrite_serves {s : State} {rq : Req} {tag : Nat} {n : Fin 4} {p : Fin 16} {y a0 a1 a2 a3 a4 a5 a6 a7 : Word} (hl : s.chip.linkUp (n + 2) = true)
    (hi : s.chip.inStep (n + 2) = true) (h : s.chip.offers rq 0x19 tag [(.ofNat 32 (n + 256 * p) : Word), y, a0, a1, a2, a3, a4, a5, a6, a7]) (hp : 7 ≤ p.val)
    (hy : layoutOk .IP_HDR [n.val, p.val] y = true) (h₀ : layoutOk .IP_SEG [n.val, p.val, 0] a0 = true) (h₁ : layoutOk .IP_SEG [n.val, p.val, 1] a1 = true)
    (h₂ : layoutOk .IP_SEG [n.val, p.val, 2] a2 = true) (h₃ : layoutOk .IP_SEG [n.val, p.val, 3] a3 = true) (h₄ : layoutOk .IP_SEG [n.val, p.val, 4] a4 = true)
    (h₅ : layoutOk .IP_SEG [n.val, p.val, 5] a5 = true) (h₆ : layoutOk .IP_SEG [n.val, p.val, 6] a6 = true) (h₇ : layoutOk .IP_SEG [n.val, p.val, 7] a7 = true) :
    ∃ c', exec (.profileWrite rq) s = .next { s with chip := c' } ∧ s.chip.served c' rq 0x19 tag 10 .ok [] ∧ c'.took .IP_HDR (R.IP_HDR n p) y ∧
      c'.took .IP_SEG (R.IP_SEG n p 0) a0 ∧ c'.took .IP_SEG (R.IP_SEG n p 7) a7 ∧ Only [Blk.sys, Blk.evr, Blk.que, Blk.pwr n] s.chip c' := by
  obtain ⟨hs, d, ht, hc⟩ := offers_accepts h (by decide) (by simp)
  obtain ⟨k, hkd⟩ : ∃ k, k = cmdFor rq 0x19 tag [(.ofNat 32 (n + 256 * p) : Word), y, a0, a1, a2, a3, a4, a5, a6, a7] := ⟨_, rfl⟩
  rw [← hkd] at hc
  obtain ⟨a₁, a₂⟩ : k.arg 1 = .ofNat 32 (n + 256 * p) ∧ k.arg 2 = y := by
    rw [hkd]
    exact ⟨rfl, rfl⟩
  have hsegs : (List.range 8).map (fun j => k.arg (3 + j)) = [a0, a1, a2, a3, a4, a5, a6, a7] := by rw [hkd]; rfl
  have hd : k.die = n := Cmd.bits_of a₁ (by omega) (by omega)
  have hk : k.bits 1 8 4 = p := Cmd.bits_of a₁ (by omega) (by omega)
  obtain ⟨l, hld⟩ : ∃ l, l = (R.IP_HDR n p, y) :: (List.range 8).map fun j => (R.IP_SEG n p j, k.arg (3 + j)) := ⟨_, rfl⟩
  have hset : ∀ x ∈ l, ∃ D ix, Setting (n + 2) (Blk.pwr n) x.1 D ix := by
    rw [hld, List.forall_mem_cons]
    refine ⟨⟨_, _, setting_ipHdr n p⟩, fun x hx => ?_⟩
    obtain ⟨j, hj, rfl⟩ := List.mem_map.1 hx
    exact ⟨_, _, setting_ipSeg n p ⟨j, List.mem_range.1 hj⟩⟩
  have hnd : (l.map (·.1)).Nodup := by
    have hm : l.map (·.1) = R.IP_HDR n p :: (List.range 8).map fun j => R.IP_SEG n p j := by
      rw [hld, List.map_cons, List.map_map]
      rfl
    rw [hm, List.nodup_cons]
    refine ⟨fun hmem => ?_, List.nodup_range.map fun i j hij => ?_⟩
    · obtain ⟨j, -, hj⟩ := List.mem_map.1 hmem
      simp only [R.IP_SEG, R.IP_HDR] at hj
      omega
    · simp only [R.IP_SEG] at hij
      omega
  obtain ⟨q₁, q₂, q₃⟩ := sets_pwr (op := 0x19) (tag := tag) n.2 hl hi hs ht hnd hset
  have hmem (j : Fin 8) : (R.IP_SEG n p j, k.arg (3 + j)) ∈ l := hld ▸ List.mem_cons_of_mem _ (List.mem_map.2 ⟨j, List.mem_range.2 j.2, rfl⟩)
  have hseg (j : Fin 8) := q₂ _ (hmem j) _ _ (setting_ipSeg n p j).toPlain
  have e₀ : k.arg (3 + (0 : Fin 8)) = a0 := by rw [hkd]; rfl
  have e₇ : k.arg (3 + (7 : Fin 8)) = a7 := by rw [hkd]; rfl
  refine ⟨_, State.next_chip ((hc _ _ _ (by rw [hkd]; rfl) ?_).trans (by rw [Chip.profileWrite, hd, hk, a₂, ← hld, hkd]; rfl)), q₁,
    Chip.took_layout hdrNorm (q₂ (R.IP_HDR n p, y) (hld ▸ List.mem_cons_self) _ _ (setting_ipHdr n p).toPlain) (by decide) (hdrNorm_eq hp) (by decide)
      (by simp [hdrNorm, steady_clampTo]) (by decide) hy,
    e₀ ▸ Chip.took_stored (D := ipSegDesc) (hseg 0) (by decide) (segNorm_eq hp _ _), e₇ ▸ Chip.took_stored (D := ipSegDesc) (hseg 7) (by decide) (segNorm_eq hp _ _), q₃⟩
  have hlay : ∀ j ∈ List.range 8, (k.lay (3 + j) .IP_SEG [n.val, p.val, j]).1 = false := by
    have e (j : Nat) : (k.lay (3 + j) .IP_SEG [n.val, p.val, j]).1 = !layoutOk .IP_SEG [n.val, p.val, j] (k.arg (3 + j)) := rfl
    rw [hkd] at e ⊢
    intro j hj
    rw [e]
    have := List.mem_range.1 hj
    interval_cases j
    · exact congrArg (!·) h₀
    · exact congrArg (!·) h₁
    · exact congrArg (!·) h₂
    · exact congrArg (!·) h₃
    · exact congrArg (!·) h₄
    · exact congrArg (!·) h₅
    · exact congrArg (!·) h₆
    · exact congrArg (!·) h₇
  have hm : (k.only 1 0xF03).1 = false := by
    rw [Cmd.only, badArg, a₁, profile_mask]
    exact bne_self_eq_false _
  have hlt : decide (p.val < 7) = false := decide_eq_false (by omega)
  refine List.forall_mem_append.2 ⟨List.forall_mem_append.2 ⟨?_, fun x hx => ?_⟩, List.forall_mem_singleton.2 (by rw [hd]; exact ht.dieCheck hl)⟩
  · rw [hd, hk]
    simp only [Cmd.lay, badArg, a₂, hm, hlt, hy, Bool.not_true, List.forall_mem_cons, true_and, List.not_mem_nil, false_imp_iff, implies_true]
  · obtain ⟨j, hj, rfl⟩ := List.mem_map.1 hx
    rw [hd, hk]
    exact hlay j hj

end Sys2Proof.Machine
end

section
/-! PROOF. The commands of load identification, of streams and of bus health (spec/11, 0x31, 0x34, 0x35; R173, R183, R192). -/

namespace Sys2Proof.Machine
open Sys2Proof

/-! ### A command that waits (R341) -/

theorem Unanswered.addCmd (rq : Req) (c : Chip) (k : Cmd) (obj : Nat) (b : Bool) : Unanswered rq c (c.addCmd k obj b) := ⟨rfl, rfl, rfl, rfl, rfl⟩
theorem waits_says {rq : Req} {op tag obj : Nat} {ws : List Word} {c d f : Chip} {k : Cmd} {b : Bool} (ht : Taken rq ws.length c d) (hk : k = cmdFor rq op tag ws)
    (hu : Unanswered rq (d.addCmd k obj b) f) (hc : f.cmds = (d.addCmd k obj b).cmds) : c.waits f rq op tag ws obj b := by
  refine ⟨?_, ?_⟩
  · rw [Chip.popped, ((Unanswered.addCmd rq d k obj b).trans hu).drain]
    exact ht.drain
  · rw [hc, hk]
    show d.cmds ++ _ = _
    rw [ht.cmds]
    rfl
/-- What a command's writes change, once it stands in the table. -/
theorem waits_only {rq : Req} {n : Nat} {c d f : Chip} {k : Cmd} {obj : Nat} {b : Bool} {l : List (Nat × Nat)} (ht : Taken rq n c d) (hs : Blk.sys ∈ l)
    (h : Only l (d.addCmd k obj b) f) : Only l c f := (ht.only l hs).trans h

/-! ### LID_ARM -/

section
variable {ch : Nat} (hch : ch < 192)
theorem mem_chanBlock {o : Nat} (ho : o < 0x100) : 0x40200000 + pdie ch * 0x80000 ≤ chBase ch + o ∧ chBase ch + o < 0x40280000 + pdie ch * 0x80000 := by
  simp only [chBase, pdie]
  omega
include hch
/-- The registers that the supervisor's write of ARM touches. -/
theorem armWrites {a : Nat} (h : a ∈ R.CH_LID_CTRL ch :: tokens (physDie ch)) : 0x40200000 + pdie ch * 0x80000 ≤ a ∧ a < 0x40280000 + pdie ch * 0x80000 := by
  obtain rfl | ha := List.mem_cons.1 h
  · exact mem_chanBlock (by decide)
  · have := token_pwr (n := pdie ch) (by simp only [pdie]; omega) a ha
    simp only [Blk.pwr] at this
    omega
theorem Chip.setArm_says {c : Chip} (hr : c.reaches (physDie ch)) {v : Nat} (hv : v < 2) :
    Wrote (R.CH_LID_CTRL ch :: tokens (physDie ch)) c (c.setArm ch v) ∧ (c.setArm ch v).fget (R.CH_LID_CTRL ch) F.CH_LID_CTRL_ARM = v := by
  have hp := setting_lidCtrl hch
  obtain ⟨h₁, h₂⟩ := Chip.supWrite_plain (c := c) (F.CH_LID_CTRL_ARM.put (c.rd (R.CH_LID_CTRL ch)) v) hp.toPlain (by rw [hp.die]; exact hr) hp.free.1 (by rw [hp.die]; exact hp.free.2)
  rw [hp.die] at h₁
  refine ⟨h₁, ?_⟩
  rw [Chip.setArm, Chip.fget, h₂]
  refine (Fld.get_mergeWord F.CH_LID_CTRL_ARM _ _ _ _ _ (by decide)).trans ?_
  rw [Fld.get_put _ _ _ (by decide)]
  exact Nat.mod_eq_of_lt hv
end

section
variable {s : State} {rq : Req} {tag : Nat} {ch : Fin 192} (hl : s.chip.linkUp (physDie ch) = true) (hi : s.chip.inStep (physDie ch) = true)
include hl hi

theorem lidArm_waits {w : BitVec 16} (h : s.chip.offers rq 0x31 tag [(.ofNat 32 ch : Word), (.ofNat 32 w.toNat : Word)]) (hs' : isSealed ch = false)
    (ho : s.chip.ownerOf (s.chip.lead ch) = rq.code) (hst : s.chip.chState (s.chip.lead ch) ≠ .disabled) (ha : s.chip.cmds.any (onObj 0x31 ch) = false) :
    ∃ c', exec (.lidArm rq) s = .next { s with chip := c' } ∧
      s.chip.waits c' rq 0x31 tag [(.ofNat 32 ch : Word), (.ofNat 32 w.toNat : Word)] ch (s.chip.lidStatus ch == 1) ∧ c'.fget (R.CH_LID_CTRL ch) F.CH_LID_CTRL_ARM = 1 ∧
      Only [Blk.sys, Blk.evr, Blk.que, Blk.pwr (pdie ch)] s.chip c' := by
  obtain ⟨hs, d, ht, hc⟩ := offers_accepts h (by decide) (by simp)
  obtain ⟨k, hkd⟩ : ∃ k, k = cmdFor rq 0x31 tag [(.ofNat 32 ch : Word), (.ofNat 32 w.toNat : Word)] := ⟨_, rfl⟩
  rw [← hkd] at hc
  have hw := w.isLt
  obtain ⟨a₁, a₂, hrq⟩ : k.arg 1 = .ofNat 32 ch ∧ k.arg 2 = .ofNat 32 w.toNat ∧ k.rq = rq := by
    rw [hkd]
    exact ⟨rfl, rfl, rfl⟩
  have hch : k.ch = ch := Cmd.ch_of a₁ (by omega) (by omega)
  have hlid : d.lidStatus ch = s.chip.lidStatus ch := ht.fget (by simp only [R.CH_LID_RESULT, chBase]; omega) _
  have hr : (d.addCmd k ch (s.chip.lidStatus ch == 1)).reaches (physDie ch) := ht.reaches (by simp only [physDie, pdie]; omega) hl hi
  obtain ⟨h₁, h₂⟩ := Chip.setArm_says ch.2 hr (v := 1) (by decide)
  refine ⟨_, State.next_chip ((hc _ _ _ (by rw [hkd]; rfl) ?_).trans (by rw [Chip.lidArm, hch, hlid])),
    waits_says ht hkd (h₁.unanswered fun a ha => .inr (by have := armWrites ch.2 ha; omega)) h₁.cmds, h₂,
    waits_only ht (by simp) (h₁.only (by simp) fun a ha => ⟨Blk.pwr (pdie ch), by simp, armWrites ch.2 ha⟩)⟩
  refine List.forall_mem_append.2 ⟨List.forall_mem_append.2 ⟨List.forall_mem_append.2 ⟨ht.chanChecks hch (hrq ▸ ho) hs' (only_small 0xFF 8 a₁ (by omega) (by decide) rfl), ?_⟩,
    ht.chanState hch hl hst⟩, ?_⟩
  · exact List.forall_mem_singleton.2 (only_small 0xFFFF 16 a₂ hw (by decide) rfl)
  · rw [hch]
    exact List.forall_mem_singleton.2 (ht.cmds ▸ ha)

/-! ### The wait of a LID_ARM ends (R183) -/

theorem lidArm_expires {k : Cmd} (hk : s.chip.cmds = [k]) (hop : k.op = 0x31) (hob : k.obj = ch) (hrq : k.rq = .host) (hw : k.arg 2 ≠ 0)
    (hh : (s.chip.heldComps.all fun h => h.1 ≠ Req.host) = true) (hf : 3 ≤ s.chip.qFree 1) :
    ∃ c', exec (.lidArmWaitExpire ch) s = .next { s with chip := c' } ∧ c'.cmds = [] ∧ c'.fget (R.CH_LID_CTRL ch) F.CH_LID_CTRL_ARM = 0 ∧
      (c'.queue 1).fill = (s.chip.queue 1).fill ++ packetWords (s.chip.compPacket 0x31 k.tag .timeout 0 [detail 0xFF 0 ch]) := by
  have hp : onObj 0x31 ch k = true := by rw [onObj, hop, hob, beq_self_eq_true, beq_self_eq_true]; rfl
  obtain ⟨h₁, h₂⟩ := Chip.setArm_says ch.2 (c := s.chip) (.inr ⟨hl, hi⟩) (v := 0) (by decide)
  obtain ⟨d, hd⟩ : ∃ d, d = s.chip.setArm ch 0 := ⟨_, rfl⟩
  rw [← hd] at h₁ h₂
  have hu : Unanswered .host s.chip d := h₁.unanswered fun a ha => .inr (by have := armWrites ch.2 ha; omega)
  have hwait : (s.chip.cmds.any fun (x : Cmd) => onObj 0x31 ch x && x.arg 2 != 0) = true := by
    rw [hk, List.any_cons, hp, bne_iff_ne.2 hw]
    rfl
  have hq : d.qFree 1 = s.chip.qFree 1 := Chip.qFree_congr hu.cfg hu.comp
  have hob' : k.object = ch := by rw [Cmd.object, if_neg (by omega), if_neg (by omega), if_neg (by omega), hob]
  have hfin : d.finish (onObj 0x31 ch) .timeout [] = d.noCmds.complete .host 0x31 k.tag .timeout [detail 0xFF 0 ch] 0 := by
    have hdk : d.cmds = [k] := h₁.cmds.trans hk
    have h₁ : d.cmds.filter (onObj 0x31 ch) = [k] := by simp [hdk, hp]
    have h₂ : (d.cmds.filter fun k => !onObj 0x31 ch k) = [] := by simp [hdk, hp]
    rw [Chip.finish, h₁, h₂, List.foldl_cons, List.foldl_nil, hrq, hop, hob', if_neg (by decide), Cmd.flags, if_neg (by decide)]
    rfl
  have hrun : s.chip.lidWaitOver ch = d.noCmds.complete .host 0x31 k.tag .timeout [detail 0xFF 0 ch] 0 := by rw [Chip.lidWaitOver, if_pos hwait, ← hd, hfin]
  obtain ⟨h₃, -⟩ := Chip.complete_says (c := d.noCmds) (rq := .host) (st := .timeout) (res := [detail 0xFF 0 ch]) 0x31 k.tag 0 (hu.held ▸ hh) (hq ▸ hf)
  have hu' : Unanswered .host s.chip d.noCmds := hu.trans (.noCmds _ d)
  have hpk : d.noCmds.compPacket 0x31 k.tag .timeout 0 [detail 0xFF 0 ch] = s.chip.compPacket 0x31 k.tag .timeout 0 [detail 0xFF 0 ch] := by
    rw [Chip.compPacket, Chip.compPacket, hu'.time]
  have hfill : (d.noCmds.queue 1).fill = (s.chip.queue 1).fill := congrArg Queue.fill hu'.comp
  refine ⟨_, State.next_chip hrun, Chip.cmds_complete _ _ _ _ _ _ _, ?_, ?_⟩
  · rw [← h₂, Chip.fget, Chip.rd_complete _ _ _ _ _ _ _ (by simp only [R.CH_LID_CTRL, chBase]; omega)]
    rfl
  · rw [← hpk, ← hfill]
    exact h₃
end

end Sys2Proof.Machine
end

section
/-! SUPPORT. What an operation of a power die leaves as it was: the other registers, the queues, and the commands that do not wait for a
load identification (R34, R183). -/

namespace Sys2Proof.Machine
open Sys2Proof

/-- Registers of power die n have changed, and the queues, the completions held and the clocks have not, nor the commands in flight where none
waits for a load identification. -/
structure DieWork (n : Nat) (c d : Chip) : Prop where
  rd : ∀ a, (a < 0x40200000 + n * 0x80000 ∨ 0x40280000 + n * 0x80000 ≤ a) → d.rd a = c.rd a
  queues : d.queues = c.queues
  held : d.heldComps = c.heldComps
  ctr : d.ctr = c.ctr
  cmds : (∀ k ∈ c.cmds, k.op ≠ 0x31) → d.cmds = c.cmds

namespace DieWork
variable {n : Nat} {c d e : Chip}
theorem refl (c : Chip) : DieWork n c c := ⟨fun _ _ => rfl, rfl, rfl, rfl, fun _ => rfl⟩
theorem trans (h : DieWork n c d) (h' : DieWork n d e) : DieWork n c e := by
  refine ⟨fun a ha => (h'.rd a ha).trans (h.rd a ha), h'.queues.trans h.queues, h'.held.trans h.held, h'.ctr.trans h.ctr, fun hk => ?_⟩
  have hd := h.cmds hk
  exact (h'.cmds (hd ▸ hk)).trans hd
theorem ite {p : Prop} [Decidable p] (h : p → DieWork n c d) (h' : ¬ p → DieWork n c e) : DieWork n c (if p then d else e) := by
  split
  case isTrue hp => exact h hp
  case isFalse hp => exact h' hp
theorem foldl {α : Type} {f : Chip → α → Chip} {xs : List α} (h : ∀ x ∈ xs, ∀ c, DieWork n c (f c x)) (c : Chip) : DieWork n c (xs.foldl f c) :=
  List.foldlRecOn xs f (motive := fun d => DieWork n c d) (refl c) fun d hd x hx => hd.trans (h x hx d)
theorem wr (c : Chip) {a : Nat} (x : Word) (h : 0x40200000 + n * 0x80000 ≤ a ∧ a < 0x40280000 + n * 0x80000) : DieWork n c (c.wr a x) :=
  ⟨fun b hb => Chip.rd_wr_ne c x (by omega), rfl, rfl, rfl, fun _ => rfl⟩
theorem fset (c : Chip) {a : Nat} (f : Fld) (v : Nat) (h : 0x40200000 + n * 0x80000 ≤ a ∧ a < 0x40280000 + n * 0x80000) : DieWork n c (c.fset a f v) := wr c _ h
theorem chan (c : Chip) {ch o : Nat} (f : Fld) (v : Nat) (ho : o < 0x100) : DieWork (pdie ch) c (c.fset (chBase ch + o) f v) := fset c f v (mem_chanBlock ho)
theorem setChan (c : Chip) (ch : Nat) (x : ChanX) : DieWork n c (c.setChan ch x) := ⟨fun _ _ => rfl, rfl, rfl, rfl, fun _ => rfl⟩
theorem setDie (c : Chip) (m : Nat) (x : DieX) : DieWork n c (c.setDie m x) := ⟨fun _ _ => rfl, rfl, rfl, rfl, fun _ => rfl⟩
theorem setReqs (c : Chip) (m : Nat) (l : List StartReq) : DieWork n c (c.setReqs m l) := setDie c m _
theorem setSealX (c : Chip) (ch : Nat) (x : SealX) : DieWork n c (c.setSealX ch x) := ⟨fun _ _ => rfl, rfl, rfl, rfl, fun _ => rfl⟩
theorem draw (c : Chip) : DieWork n c c.draw.2 := ⟨fun _ _ => rfl, rfl, rfl, rfl, fun _ => rfl⟩
theorem startCmds (c : Chip) (ch : Nat) : DieWork n c (c.startCmds (onObj 0x31 ch)) := by
  refine ⟨fun _ _ => rfl, rfl, rfl, rfl, fun h => (List.map_congr_left fun k hk => if_neg ?_).trans (List.map_id' _)⟩
  rw [onObj, beq_false_of_ne (h k hk)]
  simp

/-! ### Channels and identifications -/

theorem setChState (c : Chip) (ch : Nat) (x : ChState) : DieWork (pdie ch) c (c.setChState ch x) :=
  (ite (fun _ => refl c) fun _ => setChan c ch _).trans (chan _ _ _ (by decide))
theorem setChRun (c : Chip) (ch : Nat) (x : ChState) : DieWork (pdie ch) c (c.setChRun ch x) :=
  ite (fun _ => chan c (o := 0x3C) _ _ (by decide)) fun _ => setChState c ch x
theorem newPeriod (c : Chip) (ch d : Nat) : DieWork (pdie ch) c (c.newPeriod ch d) := (setChan c ch _).trans (chan _ _ _ (by decide))
theorem updateHk (c : Chip) (n l : Nat) : DieWork n c (c.updateHk n l) := by
  have h : 0x40200000 + n * 0x80000 ≤ R.PWR_HK_STATUS n ∧ R.PWR_HK_STATUS n < 0x40280000 + n * 0x80000 := by
    simp only [R.PWR_HK_STATUS]
    omega
  exact ((fset c _ _ h).trans (fset _ _ _ h)).trans (fset _ _ _ h)
theorem tdrPause (c : Chip) (n : Nat) : DieWork n c (c.tdrPause n) :=
  ite (fun _ => (fset c _ _ (by simp only [R.PWR_TDR_STATUS]; omega)).trans (updateHk _ _ _)) fun _ => refl c
theorem lidStart (c : Chip) (ch m : Nat) : DieWork (pdie ch) c (c.lidStart ch m) := by
  have h (c : Chip) (f : Fld) (v : Nat) : DieWork (pdie ch) c (c.fset (R.CH_LID_RESULT ch) f v) := chan c f v (by decide)
  refine ite (fun _ => ite (fun _ => (h c _ _).trans (wr _ _ ?_)) fun _ => ?_) fun _ => refl c
  · simp only [R.PWR_LID_SKIP_CNT, pdie]
    omega
  · exact (((((setChan c ch _).trans (h _ _ _)).trans (h _ _ _)).trans (updateHk _ _ _)).trans (tdrPause _ _)).trans (startCmds _ _)
theorem sealDrive (c : Chip) (ch : Nat) : DieWork n c (c.sealDrive ch) := ite (fun _ => setSealX c ch _) fun _ => refl c
theorem endCycles (c : Chip) (n : Nat) : DieWork n c (c.endCycles n) := foldl (fun _ _ d => ite (fun _ => refl d) fun _ => setChan d _ _) c

/-! ### The scheduler -/

theorem readied (c : Chip) (ch : Nat) : DieWork (pdie ch) c (c.readied ch) := by
  unfold Chip.readied
  exact ((((((setDie c _ _).trans (setChan _ _ _)).trans (ite (fun _ => chan _ (o := 0x3C) _ _ (by decide)) fun _ => refl _)).trans (chan _ _ _ (by decide))).trans
    (chan _ _ _ (by decide))).trans (chan _ _ _ (by decide))).trans (wr _ _ (mem_chanBlock (by decide)))
theorem runStart (c : Chip) (ch : Nat) : DieWork (pdie ch) c (c.runStart ch) := by
  unfold Chip.runStart
  exact (((ite (fun _ => newPeriod _ _ _) fun _ => refl _).trans (ite (fun _ => chan _ (o := 0x3C) _ _ (by decide)) fun _ => refl _)).trans (lidStart _ _ _)).trans (sealDrive _ ch)
theorem grant (c : Chip) (ch : Nat) : DieWork (pdie ch) c (c.grant ch) := ((readied c ch).trans (setChRun _ _ _)).trans (runStart _ ch)
theorem xcGrant (c : Chip) (n src : Nat) : DieWork n c (c.xcGrant n src) :=
  (((draw c).trans (setDie _ _ _)).trans (wr _ _ (by simp only [R.PWR_XC_WATCH0]; omega))).trans (wr _ _ (by simp only [R.PWR_XC_WATCH1]; omega))

theorem unanswered (h : DieWork n c d) (rq : Req) : Unanswered rq c d :=
  .of_queues h.queues h.held (by rw [Chip.ctr64, h.ctr]; rfl) fun q hq => h.rd _ (by simp only [R.Q_CFG]; omega)
theorem only (h : DieWork n c d) {l : List (Nat × Nat)} (hl : Blk.pwr n ∈ l) : Only l c d := fun a ha => h.rd a (by
  have := ha _ hl
  simp only [Blk.pwr] at this
  omega)
end DieWork

end Sys2Proof.Machine
end

section
/-! PROOF. STREAM_SET, TDR_RUN and CANT_HEALTH (spec/11, 0x32, 0x34, 0x35; R173, R187, R192). -/

namespace Sys2Proof.Machine
open Sys2Proof

/-! ### STREAM_SET -/

theorem DieWork.streamCtrl (c : Chip) (n : Nat) : DieWork n c (c.streamCtrl n) := by
  have h : 0x40200000 + n * 0x80000 ≤ R.PWR_STREAM_STATUS n ∧ R.PWR_STREAM_STATUS n < 0x40280000 + n * 0x80000 := by
    simp only [R.PWR_STREAM_STATUS]
    omega
  exact ite (fun _ => refl c) fun _ => ((setDie c _ _).trans (fset _ _ _ h)).trans (fset _ _ _ h)
theorem Chip.rd_streamCtrl (c : Chip) (n : Nat) {a : Nat} (h : a ≠ R.PWR_STREAM_STATUS n) : (c.streamCtrl n).rd a = c.rd a := by
  unfold Chip.streamCtrl
  split
  · rfl
  · obtain ⟨-, -, -, -, hr⟩ := Chip.streamApply_says c n (2 * c.pwrTime n)
    exact hr a h
/-- The reserved sources of a stream keep the field. -/
def streamNorm : List (Fld × (Nat → Nat → Nat)) := [(F.PWR_STREAM_CTRL_SRC, keepOn (47 < ·))]
theorem streamNorm_eq (l : List Nat) (o z : Word) : regNorm .PWR_STREAM_CTRL l o z = normAll streamNorm o z := by
  show F.PWR_STREAM_CTRL_SRC.keep (47 < ·) o z = _
  rw [Fld.keep_eq]
  rfl
/-- The registers of a power die that a command writes and its token lie in the die's block. -/
theorem inPwr {n : Nat} (hn : n < 4) {l : List Nat} (h : ∀ a ∈ l, 0x40200000 + n * 0x80000 ≤ a ∧ a < 0x40280000 + n * 0x80000) :
    ∀ a ∈ l ++ tokens (n + 2), 0x40200000 + n * 0x80000 ≤ a ∧ a < 0x40280000 + n * 0x80000 :=
  List.forall_mem_append.2 ⟨h, token_pwr hn⟩

section
variable {s : State} {rq : Req} {tag : Nat} {n : Fin 4} (hl : s.chip.linkUp (n + 2) = true) (hi : s.chip.inStep (n + 2) = true)
include hl hi

theorem streamSet_serves {x : Word} (h : s.chip.offers rq 0x34 tag [(.ofNat 32 n : Word), x]) (hx : layoutOk .PWR_STREAM_CTRL [n.val] x = true) :
    ∃ c', exec (.streamSet rq) s = .next { s with chip := c' } ∧ s.chip.served c' rq 0x34 tag 2 .ok [] ∧ c'.took .PWR_STREAM_CTRL (R.PWR_STREAM_CTRL n) x ∧
      Only [Blk.sys, Blk.evr, Blk.que, Blk.pwr n] s.chip c' := by
  obtain ⟨hs, d, ht, hc⟩ := offers_accepts h (by decide) (by simp)
  obtain ⟨k, hkd⟩ : ∃ k, k = cmdFor rq 0x34 tag [(.ofNat 32 n : Word), x] := ⟨_, rfl⟩
  rw [← hkd] at hc
  obtain ⟨a₁, a₂⟩ : k.arg 1 = .ofNat 32 n ∧ k.arg 2 = x := by
    rw [hkd]
    exact ⟨rfl, rfl⟩
  have hd : k.die = n := Cmd.bits_of a₁ (by omega) (by omega)
  obtain ⟨f, h₁, h₂⟩ := d.supWrite_reaches (a := R.PWR_STREAM_CTRL n) x (by rw [dieOf_streamCtrl]; exact ht.reaches_pwr n.2 hl hi)
  rw [dieOf_streamCtrl] at h₁
  obtain ⟨g, hg⟩ : ∃ g, g = f.wr (R.PWR_STREAM_CTRL n) (storedWord streamCtrlDesc [n.val] (f.rd (R.PWR_STREAM_CTRL n)) x) := ⟨_, rfl⟩
  rw [Chip.regWrite_as_streamCtrl (findReg_streamCtrl n), ← hg] at h₂
  have h₃ : Wrote ([R.PWR_STREAM_CTRL n] ++ tokens (n + 2)) d g := hg ▸ (h₁.trans (.of_wr f _ _)).mono (by simp)
  have hA := inPwr n.2 (l := [R.PWR_STREAM_CTRL n]) (List.forall_mem_singleton.2 (by simp only [R.PWR_STREAM_CTRL]; omega))
  have hw := DieWork.streamCtrl g n
  obtain ⟨h₄, h₅⟩ := acts_pwr (op := 0x34) (tag := tag) (res := []) hs ht (by simp) h₃ hA (hw.unanswered rq) (hw.only (by simp))
  have hrd : ((g.streamCtrl n).complete rq 0x34 tag .ok []).rd (R.PWR_STREAM_CTRL n) = storedWord streamCtrlDesc [n.val] (f.rd (R.PWR_STREAM_CTRL n)) x := by
    rw [Chip.rd_complete _ _ _ _ _ _ _ (by simp only [R.PWR_STREAM_CTRL]; omega), Chip.rd_streamCtrl _ _ (by simp only [R.PWR_STREAM_CTRL, R.PWR_STREAM_STATUS]; omega), hg,
      Chip.rd_wr_self]
  refine ⟨_, State.next_chip ((hc _ _ _ (by rw [hkd]; rfl) ?_).trans (by rw [Chip.streamSet, hd, a₂, h₂, hkd]; rfl)), h₄,
    Chip.took_layout streamNorm hrd (by decide) (streamNorm_eq _) (by decide) (by simp [streamNorm, steady_keepOn]) (by decide) hx, h₅⟩
  simp only [Cmd.lay, badArg, hd, a₂, only_small 3 2 a₁ (by omega) (by decide) rfl, hx, ht.dieCheck hl, Bool.not_true, List.forall_mem_cons, true_and, List.not_mem_nil,
    false_imp_iff, implies_true]
end

/-! ### CANT_HEALTH -/

/-- The word that a request of a bus measurement writes. -/
def cantWord (v st : Nat) : Word := F.SEN_CANT_HLTH_CTRL_MEAS_STEP.put (F.SEN_CANT_HLTH_CTRL_MEAS_TERM.put (F.SEN_CANT_HLTH_CTRL_VF.of v) (1 - st)) st
theorem cantWord_says {v : Nat} (hv : 50 ≤ v ∧ v ≤ 99) (e : Bool) : F.SEN_CANT_HLTH_CTRL_VF.get (cantWord v e.toNat) = v ∧
    F.SEN_CANT_HLTH_CTRL_MEAS_TERM.get (cantWord v e.toNat) = 1 - e.toNat ∧ F.SEN_CANT_HLTH_CTRL_MEAS_STEP.get (cantWord v e.toNat) = e.toNat := by
  obtain ⟨h, h'⟩ := hv
  cases e <;> interval_cases v <;> decide
/-- The velocity factor that is stored is the written one, clamped. -/
theorem cantWord_stored (l : List Nat) (old x : Word) : F.SEN_CANT_HLTH_CTRL_VF.get (storedWord cantCtrlDesc l old x) =
    clampTo 50 99 0 (F.SEN_CANT_HLTH_CTRL_VF.get x) := by
  have h : storedWord cantCtrlDesc l old x = F.SEN_CANT_HLTH_CTRL_VF.clamp 50 99 (mergeWord cantCtrlDesc false false old x).1 := rfl
  have hm := Fld.get_mergeWord F.SEN_CANT_HLTH_CTRL_VF cantCtrlDesc false false old x (by decide)
  rw [h, Fld.clamp_eq _ _ _ old, Fld.get_put _ _ _ (by decide), hm]
  refine Nat.mod_eq_of_lt ?_
  show max 50 (min 99 _) < 128
  omega
theorem clampTo_of_mem {lo hi v : Nat} (h : lo ≤ v ∧ v ≤ hi) (o : Nat) : clampTo lo hi o v = v := by
  show max lo (min hi v) = v
  omega
theorem Chip.cantCtrl_requests (c : Chip) (n : Nat) {v : Nat} (hv : 50 ≤ v ∧ v ≤ 99) (e : Bool) : c.cantCtrl n (cantWord v e.toNat) = c.cantStart n e := by
  obtain ⟨-, h₁, h₂⟩ := cantWord_says hv e
  cases e with
  | false => exact (if_neg (by rw [h₂]; decide)).trans (if_pos h₁)
  | true => exact (if_pos h₂).trans (congrArg (Chip.cantStart · n true) (if_neg (by rw [h₁]; decide)))
theorem Chip.rd_cantStart (c : Chip) (n : Nat) (e : Bool) {a : Nat} (h : a ≠ cantReg n e) : (c.cantStart n e).rd a = c.rd a := by
  unfold Chip.cantStart
  split
  · exact Chip.rd_fset_ne _ _ _ h
  · rfl
/-- A request of a measurement changes its status alone. -/
theorem Chip.cantStart_kept (c : Chip) (n : Fin 6) (e : Bool) (rq : Req) : Unanswered rq c (c.cantStart n e) ∧ (c.cantStart n e).cmds = c.cmds := by
  obtain ⟨y, hy, h₁, -⟩ := cantReg_sen n e
  have h₂ : 0x40020800 ≤ cantReg n e := by
    rw [List.mem_singleton.1 hy] at h₁
    simp only [Blk.sen] at h₁
    omega
  by_cases h : (c.cant n).phase e = 0
  case pos =>
    have hx : c.cantStart n e = (c.setCant n ((c.cant n).withPhase e 1)).fset (cantReg n e) F.SEN_CANT_HLTH_TERM_STATUS 1 := if_pos h
    have hu : Unanswered rq c (c.setCant n ((c.cant n).withPhase e 1)) := ⟨rfl, rfl, rfl, rfl, rfl⟩
    have hk : (c.setCant n ((c.cant n).withPhase e 1)).cmds = c.cmds := rfl
    rw [hx]
    generalize c.setCant n ((c.cant n).withPhase e 1) = d at hu hk
    exact ⟨hu.trans (Unanswered.fset d _ _ (.inr h₂)), hk⟩
  case neg =>
    have hx : c.cantStart n e = c := if_neg h
    rw [hx]
    exact ⟨.refl c, rfl⟩

theorem cant_mask (n : Fin 6) (e : Bool) (v : Fin 128) : (.ofNat 32 (n + 256 * e.toNat + 65536 * v) : Word).toNat &&& 0x7F0107 =
    (.ofNat 32 (n + 256 * e.toNat + 65536 * v) : Word).toNat := by
  cases e
  · revert n v
    decide +kernel
  · revert n v
    decide +kernel
theorem cantHealth_waits {s : State} {rq : Req} {tag : Nat} {n : Fin 6} {e : Bool} {v : Nat} (hl : s.chip.linkUp 1 = true) (hi : s.chip.inStep 1 = true)
    (h : s.chip.offers rq 0x35 tag [(.ofNat 32 (n + 256 * e.toNat + 65536 * v) : Word)]) (hv : 50 ≤ v ∧ v ≤ 99) (hp : (s.chip.cant n).phase e = 0) :
    ∃ c', exec (.cantHealth rq) s = .next { s with chip := c' } ∧
      s.chip.waits c' rq 0x35 tag [(.ofNat 32 (n + 256 * e.toNat + 65536 * v) : Word)] (n + 8 * e.toNat) false ∧
      c'.fget (R.SEN_CANT_HLTH_CTRL n) F.SEN_CANT_HLTH_CTRL_VF = v ∧ (c'.cant n).phase e ≠ 0 := by
  obtain ⟨hs, d, ht, hc⟩ := offers_accepts h (by decide) (by simp)
  obtain ⟨k, hkd⟩ : ∃ k, k = cmdFor rq 0x35 tag [(.ofNat 32 (n + 256 * e.toNat + 65536 * v) : Word)] := ⟨_, rfl⟩
  rw [← hkd] at hc
  have a₁ : k.arg 1 = .ofNat 32 (n + 256 * e.toNat + 65536 * v) := by rw [hkd]; rfl
  have he : e.toNat < 2 := by cases e <;> decide
  have hn : k.bits 1 0 3 = n := Cmd.bits_of a₁ (by omega) (by omega)
  have hst : k.bits 1 8 1 = e.toNat := Cmd.bits_of a₁ (by omega) (by omega)
  have hvf : k.bits 1 16 7 = v := Cmd.bits_of a₁ (by omega) (by omega)
  have heb : (e.toNat == 1) = e := by cases e <;> rfl
  have hcant (m : Nat) : d.cant m = s.chip.cant m := by
    rw [Chip.cant, ht.field (·.cants)]
    rfl
  obtain ⟨b, hb⟩ : ∃ b, b = d.addCmd k (n + 8 * e.toNat) := ⟨_, rfl⟩
  have hbr : b.reaches (dieOf (R.SEN_CANT_HLTH_CTRL n)) := by
    rw [dieOf_cantCtrl, hb]
    exact ht.reaches (k := 1) (by decide) hl hi
  obtain ⟨f, h₁, h₂⟩ := b.supWrite_reaches (a := R.SEN_CANT_HLTH_CTRL n) (cantWord v e.toNat) hbr
  have hreg : f.regWrite .sup (R.SEN_CANT_HLTH_CTRL n) (cantWord v e.toNat) =
      (f.wr (R.SEN_CANT_HLTH_CTRL n) (storedWord cantCtrlDesc [n.val] (f.rd (R.SEN_CANT_HLTH_CTRL n)) (cantWord v e.toNat))).cantCtrl n (cantWord v e.toNat) :=
    Chip.regWrite_stores _ (findReg_cantCtrl n) (by decide) rfl rfl rfl
  obtain ⟨y, hy⟩ : ∃ y, y = storedWord cantCtrlDesc [n.val] (f.rd (R.SEN_CANT_HLTH_CTRL n)) (cantWord v e.toNat) := ⟨_, rfl⟩
  rw [← hy] at hreg
  obtain ⟨g, hg⟩ : ∃ g, g = f.wr (R.SEN_CANT_HLTH_CTRL n) y := ⟨_, rfl⟩
  rw [hreg, ← hg, Chip.cantCtrl_requests _ _ hv] at h₂
  rw [dieOf_cantCtrl, tokens_one] at h₁
  have h₃ : Wrote [0x40100004, R.SEN_CANT_HLTH_CTRL n] b g := hg ▸ h₁.trans (.of_wr f _ _)
  have hA : ∀ a ∈ [0x40100004, R.SEN_CANT_HLTH_CTRL n], a < 0x40020000 ∨ 0x40020800 ≤ a := by
    simp only [List.forall_mem_cons, R.SEN_CANT_HLTH_CTRL]
    simp
    omega
  have hgc : (g.cant n).phase e = 0 := by
    rw [← hp, ← hcant]
    rw [Chip.cant, h₃.field (·.cants), hb]
    rfl
  obtain ⟨h₄, -, -⟩ := Chip.cantStart_idle hgc
  obtain ⟨h₅, h₆⟩ := g.cantStart_kept n e rq
  rw [hb] at h₃ h₂
  refine ⟨g.cantStart n e, State.next_chip ((hc _ _ _ (by rw [hkd]; rfl) ?_).trans ?_), waits_says ht hkd ((h₃.unanswered hA).trans h₅) (h₆.trans h₃.cmds), ?_, ?_⟩
  · have q₁ : (k.only 1 0x7F0107).1 = false := by
      rw [Cmd.only, badArg, a₁, cant_mask n e ⟨v, by omega⟩]
      exact bne_self_eq_false _
    have q₂ : decide (5 < n.val) = false := decide_eq_false (by omega)
    have q₃ : decide (v < 50) = false := decide_eq_false (by omega)
    have q₄ : decide (99 < v) = false := decide_eq_false (by omega)
    have q₅ : ((s.chip.cant n).phase e != 0) = false := by rw [hp]; rfl
    simp only [badArg, refusedBy, hn, hst, hvf, heb, hcant, q₁, q₂, q₃, q₄, q₅, ht.offLink n (m := 1) (by decide) hl, Bool.or_false, List.forall_mem_cons, true_and,
      List.not_mem_nil, false_imp_iff, implies_true]
  · unfold Chip.cantHealth
    dsimp only
    rw [hn, hst, hvf]
    exact h₂
  · rw [Chip.fget, Chip.rd_cantStart _ _ _ (by simp only [cantReg]; split <;> simp only [R.SEN_CANT_HLTH_CTRL, R.SEN_CANT_HLTH_STEP, R.SEN_CANT_HLTH_TERM] <;> omega), hg, Chip.rd_wr_self, hy,
      cantWord_stored, (cantWord_says hv e).1, clampTo_of_mem hv]
  · rw [h₄]
    decide

/-! ### TDR_RUN -/

def tdrCtrlDesc : RegDesc := ⟨.PWR_TDR_CTRL, 0x40240600, [(4, 0x80000, 0)], 0x3FFF, 0, 0, 0xC0000000, 0, 0x3E⟩
theorem findReg_tdrCtrl (n : Fin 4) : findReg (R.PWR_TDR_CTRL n) = some (tdrCtrlDesc, [n.val]) := by fin_cases n <;> rfl
theorem dieOf_tdrCtrl (n : Fin 4) : dieOf (R.PWR_TDR_CTRL n) = n.val + 2 := by revert n; decide
def tdrCfgNorm : List (Fld × (Nat → Nat → Nat)) := [(F.PWR_TDR_CFG_AVG, clampTo 1 64), (F.PWR_TDR_CFG_THR, clampTo 1 80)]

/-- A reflectometry run begins: what its status shows, and the settings it keeps. -/
def Chip.tdrMarked (c : Chip) (n : Nat) : Chip :=
  c.fbumpWrap (R.PWR_TDR_STATUS n) F.PWR_TDR_STATUS_SEQ |>.fset (R.PWR_TDR_STATUS n) F.PWR_TDR_STATUS_STEP 0 |>.fset (R.PWR_TDR_STATUS n) F.PWR_TDR_STATUS_STATUS 1
def Chip.tdrSettled (c : Chip) (n : Nat) : Chip :=
  c.setDie n { c.die n with tdr := some { ctrl := c.rd (R.PWR_TDR_CTRL n), cfg := c.rd (R.PWR_TDR_CFG n) } }
theorem Chip.tdrGo_begins {c : Chip} {n : Nat} (h₁ : c.tdrStatus n ≠ 1 ∧ c.tdrStatus n ≠ 5) (h₂ : c.tdrRefused n (c.fget (R.PWR_TDR_CTRL n) F.PWR_TDR_CTRL_SRC) = false) :
    c.tdrGo n = ((((c.tdrMarked n).tdrSettled n).endCycles n).updateHk n (((c.tdrMarked n).tdrSettled n).lidRunning n)).tdrPause n := by
  have h : ¬ (c.tdrStatus n = 1 ∨ c.tdrStatus n = 5) := by tauto
  have hr : ¬ c.tdrRefused n (c.fget (R.PWR_TDR_CTRL n) F.PWR_TDR_CTRL_SRC) = true := by
    rw [h₂]
    decide
  rw [Chip.tdrGo, if_neg h, if_neg hr]
  rfl
theorem DieWork.tdrMarked (c : Chip) (n : Nat) : DieWork n c (c.tdrMarked n) := by
  have hin : 0x40200000 + n * 0x80000 ≤ R.PWR_TDR_STATUS n ∧ R.PWR_TDR_STATUS n < 0x40280000 + n * 0x80000 := by
    simp only [R.PWR_TDR_STATUS]
    omega
  exact ((fset c _ _ hin).trans (fset _ _ _ hin)).trans (fset _ _ _ hin)
theorem Chip.rd_tdrMarked (c : Chip) (n : Nat) {a : Nat} (ha : a ≠ R.PWR_TDR_STATUS n) : (c.tdrMarked n).rd a = c.rd a := by
  rw [Chip.tdrMarked, Chip.rd_fset_ne _ _ _ ha, Chip.rd_fset_ne _ _ _ ha, Chip.fbumpWrap, Chip.rd_fset_ne _ _ _ ha]
theorem Chip.endCycles_kept (c : Chip) (n : Nat) : (∀ a, (c.endCycles n).rd a = c.rd a) ∧ (c.endCycles n).cmds = c.cmds := by
  refine List.foldlRecOn _ _ (motive := fun (d : Chip) => (∀ a, d.rd a = c.rd a) ∧ d.cmds = c.cmds) ⟨fun _ => rfl, rfl⟩ fun d hd l _ => ?_
  split
  · exact hd
  · exact ⟨fun a => hd.1 a, hd.2⟩
theorem Chip.cmds_fset (c : Chip) (a : Nat) (f : Fld) (v : Nat) : (c.fset a f v).cmds = c.cmds := rfl
theorem Chip.cmds_setDie (c : Chip) (n : Nat) (x : DieX) : (c.setDie n x).cmds = c.cmds := rfl
theorem Chip.rd_updateHk (c : Chip) (n l : Nat) {a : Nat} (h : a ≠ R.PWR_HK_STATUS n) : (c.updateHk n l).rd a = c.rd a := by
  rw [Chip.updateHk, Chip.fbit, Chip.rd_fset_ne _ _ _ h, Chip.rd_fset_ne _ _ _ h, Chip.rd_fset_ne _ _ _ h]
theorem Chip.cmds_updateHk (c : Chip) (n l : Nat) : (c.updateHk n l).cmds = c.cmds := by
  rw [Chip.updateHk, Chip.fbit, Chip.cmds_fset, Chip.cmds_fset, Chip.cmds_fset]
theorem Chip.tdrStatus_updateHk (c : Chip) (n l : Nat) : (c.updateHk n l).tdrStatus n = c.tdrStatus n :=
  congrArg F.PWR_TDR_STATUS_STATUS.get (c.rd_updateHk n l (by simp only [R.PWR_TDR_STATUS, R.PWR_HK_STATUS]; omega))
/-- A running reflectometry goes on or pauses. -/
theorem Chip.tdrPause_says {c : Chip} {n : Nat} (h : c.tdrStatus n = 1) : ((c.tdrPause n).tdrStatus n = 1 ∨ (c.tdrPause n).tdrStatus n = 5) ∧
    (c.tdrPause n).cmds = c.cmds ∧ ∀ a, a ≠ R.PWR_TDR_STATUS n → a ≠ R.PWR_HK_STATUS n → (c.tdrPause n).rd a = c.rd a := by
  obtain ⟨p, hp⟩ : ∃ p, p = c.fset (R.PWR_TDR_STATUS n) F.PWR_TDR_STATUS_STATUS 5 := ⟨_, rfl⟩
  have hps : p.tdrStatus n = 5 := by
    rw [hp]
    exact Chip.fget_fset_self _ _ _ _ (by decide)
  have hpk : p.cmds = c.cmds := by rw [hp, Chip.cmds_fset]
  unfold Chip.tdrPause
  rw [← hp]
  split
  case isTrue =>
    rw [Chip.tdrStatus_updateHk, Chip.cmds_updateHk]
    refine ⟨.inr hps, hpk, fun a h₁ h₂ => ?_⟩
    rw [Chip.rd_updateHk _ _ _ h₂, hp, Chip.rd_fset_ne _ _ _ h₁]
  case isFalse => exact ⟨.inl h, rfl, fun _ _ _ => rfl⟩
/-- A run begins, or pauses at once. -/
theorem Chip.tdrGo_says {c : Chip} {n : Nat} (h₁ : c.tdrStatus n ≠ 1 ∧ c.tdrStatus n ≠ 5) (h₂ : c.tdrRefused n (c.fget (R.PWR_TDR_CTRL n) F.PWR_TDR_CTRL_SRC) = false) :
    ((c.tdrGo n).tdrStatus n = 1 ∨ (c.tdrGo n).tdrStatus n = 5) ∧ (c.tdrGo n).cmds = c.cmds ∧ DieWork n c (c.tdrGo n) ∧
      ∀ a, a ≠ R.PWR_TDR_STATUS n → a ≠ R.PWR_HK_STATUS n → (c.tdrGo n).rd a = c.rd a := by
  rw [Chip.tdrGo_begins h₁ h₂]
  obtain ⟨e, he⟩ : ∃ e, e = c.tdrMarked n := ⟨_, rfl⟩
  have hes : e.tdrStatus n = 1 := by
    rw [he]
    exact Chip.fget_fset_self _ _ _ _ (by decide)
  have hek : e.cmds = c.cmds := by rw [he, Chip.tdrMarked, Chip.cmds_fset, Chip.cmds_fset, Chip.fbumpWrap, Chip.cmds_fset]
  rw [← he]
  obtain ⟨hr, hk⟩ := (e.tdrSettled n).endCycles_kept n
  obtain ⟨g, hg⟩ : ∃ g, g = (e.tdrSettled n).endCycles n := ⟨_, rfl⟩
  rw [← hg] at hr hk ⊢
  have hdw : DieWork n c g := (he ▸ DieWork.tdrMarked c n : DieWork n c e).trans ((DieWork.setDie e n _).trans (hg ▸ DieWork.endCycles (e.tdrSettled n) n))
  have hgk : g.cmds = c.cmds := by rw [hk, Chip.tdrSettled, Chip.cmds_setDie, hek]
  have hgs : g.tdrStatus n = 1 := (congrArg F.PWR_TDR_STATUS_STATUS.get (hr _)).trans hes
  have hgr (a : Nat) (ha : a ≠ R.PWR_TDR_STATUS n) : g.rd a = c.rd a := by
    rw [hr]
    show e.rd a = _
    rw [he, c.rd_tdrMarked n ha]
  obtain ⟨w, hw⟩ : ∃ w, w = g.updateHk n ((e.tdrSettled n).lidRunning n) := ⟨_, rfl⟩
  have hws : w.tdrStatus n = 1 := by rw [hw, Chip.tdrStatus_updateHk, hgs]
  have hwd : DieWork n g w := hw ▸ DieWork.updateHk g n _
  rw [← hw]
  obtain ⟨h₃, h₄, h₅⟩ := Chip.tdrPause_says hws
  refine ⟨h₃, ?_, hdw.trans (hwd.trans (.tdrPause w n)), fun a h₆ h₇ => ?_⟩
  · rw [h₄, hw, Chip.cmds_updateHk, hgk]
  · rw [h₅ a h₆ h₇, hw, Chip.rd_updateHk _ _ _ h₇, hgr a h₆]

/-- The control word of a run that a command begins. -/
theorem tdrWord_says {x : Word} {src : Nat} (hs : F.PWR_TDR_CTRL_SRC.get x = src) (hp : F.PWR_TDR_CTRL_STOP.get x = 0) :
    F.PWR_TDR_CTRL_STOP.get (F.PWR_TDR_CTRL_GO.put x 1) ≠ 1 ∧ F.PWR_TDR_CTRL_GO.get (F.PWR_TDR_CTRL_GO.put x 1) = 1 ∧
      ∀ (l : List Nat) (old : Word), F.PWR_TDR_CTRL_SRC.get (storedWord tdrCtrlDesc l old (F.PWR_TDR_CTRL_GO.put x 1)) = src := by
  refine ⟨?_, Fld.get_put _ _ _ (by decide), fun l old => ?_⟩
  · rw [Fld.get_put_ne _ _ _ _ (by decide) (by decide), hp]
    decide
  · have h : storedWord tdrCtrlDesc l old (F.PWR_TDR_CTRL_GO.put x 1) = F.PWR_TDR_CTRL_VF.clamp 50 99 (mergeWord tdrCtrlDesc false false old (F.PWR_TDR_CTRL_GO.put x 1)).1 := rfl
    rw [h, Fld.clamp_eq _ _ _ old, Fld.get_put_ne _ _ _ _ (by decide) (by decide), Fld.get_mergeWord _ _ _ _ _ _ (by decide),
      Fld.get_put_ne _ _ _ _ (by decide) (by decide), hs]

section
variable {s : State} {rq : Req} {tag : Nat} {ch : Fin 192} (hl : s.chip.linkUp (physDie ch) = true) (hi : s.chip.inStep (physDie ch) = true)
include hl hi

theorem tdrRun_waits {x y : Word} (h : s.chip.offers rq 0x32 tag [(.ofNat 32 ch : Word), x, y]) (hs' : isSealed ch = false)
    (ho : s.chip.ownerOf (s.chip.lead ch) = rq.code) (hsrc : F.PWR_TDR_CTRL_SRC.get x = ch % 48) (hstop : F.PWR_TDR_CTRL_STOP.get x = 0)
    (hx : layoutOk .PWR_TDR_CTRL [pdie ch] x = true) (hy : layoutOk .PWR_TDR_CFG [pdie ch] y = true) (hrf : s.chip.tdrRefused (pdie ch) (ch % 48) = false)
    (h₁ : s.chip.tdrStatus (pdie ch) ≠ 1) (h₅ : s.chip.tdrStatus (pdie ch) ≠ 5) :
    ∃ c', exec (.tdrRun rq) s = .next { s with chip := c' } ∧ s.chip.waits c' rq 0x32 tag [(.ofNat 32 ch : Word), x, y] ch true ∧
      (c'.tdrStatus (pdie ch) = 1 ∨ c'.tdrStatus (pdie ch) = 5) ∧ c'.took .PWR_TDR_CFG (R.PWR_TDR_CFG (pdie ch)) y := by
  obtain ⟨hs, d, ht, hc⟩ := offers_accepts h (by decide) (by simp)
  obtain ⟨k, hkd⟩ : ∃ k, k = cmdFor rq 0x32 tag [(.ofNat 32 ch : Word), x, y] := ⟨_, rfl⟩
  rw [← hkd] at hc
  obtain ⟨a₁, a₂, a₃, hrq⟩ : k.arg 1 = .ofNat 32 ch ∧ k.arg 2 = x ∧ k.arg 3 = y ∧ k.rq = rq := by
    rw [hkd]
    exact ⟨rfl, rfl, rfl, rfl⟩
  have hch : k.ch = ch := Cmd.ch_of a₁ (by omega) (by omega)
  obtain ⟨n, hn⟩ : ∃ n : Fin 4, n.val = pdie ch := ⟨⟨pdie ch, by simp only [pdie]; omega⟩, rfl⟩
  have hph : physDie ch = n + 2 := by rw [physDie, hn]
  rw [← hn] at hx hy hrf h₁ h₅ ⊢
  obtain ⟨b, hb⟩ : ∃ b, b = d.addCmd k ch true := ⟨_, rfl⟩
  have hbr : b.reaches (n + 2) := by
    rw [hb, ← hph]
    exact ht.reaches (by rw [hph]; omega) hl hi
  have py := setting_tdrCfg n
  obtain ⟨f, h₂, h₃, h₄⟩ := Chip.supWrites_act (c := b) (l := [(R.PWR_TDR_CFG n, y)]) (a := R.PWR_TDR_CTRL n) (n := n + 2) (F.PWR_TDR_CTRL_GO.put x 1) (by omega) hbr (by simp)
    (List.forall_mem_singleton.2 ⟨py.die, py.free.1, py.free.2, _, _, py.toPlain⟩) (dieOf_tdrCtrl n)
  have hcfg := h₃ _ (List.mem_singleton_self _) _ _ py.toPlain
  obtain ⟨w₁, w₂, w₃⟩ := tdrWord_says hsrc hstop
  have hreg : f.regWrite .sup (R.PWR_TDR_CTRL n) (F.PWR_TDR_CTRL_GO.put x 1) =
      (f.wr (R.PWR_TDR_CTRL n) (storedWord tdrCtrlDesc [n.val] (f.rd (R.PWR_TDR_CTRL n)) (F.PWR_TDR_CTRL_GO.put x 1))).tdrCtrl n (F.PWR_TDR_CTRL_GO.put x 1) :=
    Chip.regWrite_stores _ (findReg_tdrCtrl n) (by decide) rfl rfl rfl
  obtain ⟨z, hz⟩ : ∃ z, z = storedWord tdrCtrlDesc [n.val] (f.rd (R.PWR_TDR_CTRL n)) (F.PWR_TDR_CTRL_GO.put x 1) := ⟨_, rfl⟩
  obtain ⟨g, hg⟩ : ∃ g, g = f.wr (R.PWR_TDR_CTRL n) z := ⟨_, rfl⟩
  have hgo (c : Chip) : c.tdrCtrl n (F.PWR_TDR_CTRL_GO.put x 1) = c.tdrGo n := by
    rw [Chip.tdrCtrl, if_neg w₁, if_pos w₂]
  rw [hreg, ← hz, ← hg, hgo] at h₄
  have h₆ : Wrote (([R.PWR_TDR_CFG n] ++ tokens (n + 2)) ++ [R.PWR_TDR_CTRL n]) b g := hg ▸ h₂.trans (.of_wr f _ _)
  have hin : ∀ a ∈ ([R.PWR_TDR_CFG n] ++ tokens (n + 2)) ++ [R.PWR_TDR_CTRL n], 0x40020800 ≤ a := by
    refine List.forall_mem_append.2 ⟨fun a ha => ?_, ?_⟩
    · have := inPwr n.2 (l := [R.PWR_TDR_CFG n]) (List.forall_mem_singleton.2 (by simp only [R.PWR_TDR_CFG]; omega)) a ha
      omega
    · rw [List.forall_mem_singleton]
      simp only [R.PWR_TDR_CTRL]
      omega
  have hgr {a : Nat} (ha : a ≠ R.PWR_TDR_CFG n ∧ a ≠ R.PWR_TDR_CTRL n ∧ a ≠ 0x40240004 + n * 0x80000) (hk : 0x40030000 ≤ a) : g.rd a = s.chip.rd a := by
    obtain ⟨ha₁, ha₂, ha₃⟩ := ha
    rw [h₆.rd a (by rw [tokens_pwr n.2]; simp [ha₁, ha₂, ha₃]) (by simp only [clockReg]; omega), hb]
    exact ht.rd (by omega)
  have hst (l : Nat) : g.chState l = s.chip.chState l := congrArg (ChState.ofCode ∘ F.CH_STATUS_STATE.get) (hgr
    (by simp only [R.CH_STATUS, chBase, R.PWR_TDR_CFG, R.PWR_TDR_CTRL]; omega) (by simp only [R.CH_STATUS, chBase]; omega))
  have hpair (l : Nat) : g.paired l = s.chip.paired l := congrArg (fun w => (F.PWR_PAIR_PAIR.get w).testBit (l % 48 / 2)) (hgr
    (by simp only [R.PWR_PAIR, R.PWR_TDR_CFG, R.PWR_TDR_CTRL]; omega) (by simp only [R.PWR_PAIR]; omega))
  have hdie : g.die n = s.chip.die n := by
    rw [Chip.die, h₆.dies, hb]
    show Tbl.get _ d.dies _ = _
    rw [ht.dies]
    rfl
  have htdr : g.tdrStatus n = s.chip.tdrStatus n := congrArg F.PWR_TDR_STATUS_STATUS.get (hgr
    (by simp only [R.PWR_TDR_STATUS, R.PWR_TDR_CFG, R.PWR_TDR_CTRL]; omega) (by simp only [R.PWR_TDR_STATUS]; omega))
  have hgsrc : g.fget (R.PWR_TDR_CTRL n) F.PWR_TDR_CTRL_SRC = ch % 48 := by rw [hg, Chip.fget, Chip.rd_wr_self, hz, w₃]
  have hgrf : g.tdrRefused n (g.fget (R.PWR_TDR_CTRL n) F.PWR_TDR_CTRL_SRC) = false := by
    rw [hgsrc, ← hrf, Chip.tdrRefused, Chip.tdrRefused, Chip.lead, Chip.lead, hst, hpair, hdie]
  obtain ⟨r₁, r₂, r₃, r₄⟩ := Chip.tdrGo_says (c := g) (n := n) (by rw [htdr]; exact ⟨h₁, h₅⟩) hgrf
  have hrd : (g.tdrGo n).rd (R.PWR_TDR_CFG n) = storedWord tdrCfgDesc [n.val] (b.rd (R.PWR_TDR_CFG n)) y := by
    rw [r₄ _ (by simp only [R.PWR_TDR_CFG, R.PWR_TDR_STATUS]; omega) (by simp only [R.PWR_TDR_CFG, R.PWR_HK_STATUS]; omega), hg,
      Chip.rd_wr_ne _ _ (by simp only [R.PWR_TDR_CFG, R.PWR_TDR_CTRL]; omega), hcfg]
  rw [hb] at h₄ h₆
  refine ⟨g.tdrGo n, State.next_chip ((hc _ _ _ (by rw [hkd]; rfl) ?_).trans ?_),
    waits_says ht hkd ((h₆.unanswered fun a ha => .inr (hin a ha)).trans (r₃.unanswered rq)) (r₂.trans h₆.cmds), r₁,
    Chip.took_layout tdrCfgNorm hrd (by decide) (fun _ _ => rfl) (by decide) (by simp [tdrCfgNorm, steady_clampTo]) (by decide) hy⟩
  · have hdt : d.tdrStatus n = s.chip.tdrStatus n := ht.fget (by simp only [R.PWR_TDR_STATUS]; omega) _
    have q₁ : d.tdrRefused n (ch % 48) = false := by
      rw [← hrf, Chip.tdrRefused, Chip.tdrRefused, ht.lead, ht.chState, Chip.die, ht.dies]
      rfl
    have q₂ : (s.chip.tdrStatus n == 1) = false := beq_false_of_ne h₁
    have q₃ : (s.chip.tdrStatus n == 5) = false := beq_false_of_ne h₅
    refine List.forall_mem_append.2 ⟨List.forall_mem_append.2 ⟨?_, ht.chanChecks hch (hrq ▸ ho) hs' (only_small 0xFF 8 a₁ (by omega) (by decide) rfl)⟩, ?_⟩
    · rw [hch]
      exact List.forall_mem_singleton.2 hs'
    · rw [hch, ← hn]
      simp only [Cmd.lay, badArg, refusedBy, a₂, a₃, hx, hy, hsrc, hstop, ht.linkUp_phys hl, hdt, q₁, q₂, q₃, bne_self_eq_false, Bool.not_true, Bool.or_false,
        List.forall_mem_cons, List.not_mem_nil, false_imp_iff, implies_true, and_true]
      rfl
  · rw [Chip.tdrRun, hch, a₂, a₃, ← hn]
    exact h₄
end

end Sys2Proof.Machine
end

section
/-! PROOF. XC_TEST, and the commands of measurement (spec/11, 0x30 to 0x35; R180 to R182). -/

namespace Sys2Proof.Machine
open Sys2Proof

/-! ### Records and events of a channel -/

namespace Unanswered
variable {rq : Req}
theorem counter (c : Chip) {a : Nat} (x : Word) (h : a < 0x40020000 ∨ 0x40020800 ≤ a ∨ a % 0x40 ≠ 0) : Unanswered rq c (c.wr a x) :=
  noted (.wr c a x) fun _ hq => Chip.rd_wr_ne c x (queueCfg_ne h hq)
theorem setQueue (c : Chip) {q : Nat} (x : Queue) (h : q ≠ compQueue rq ∧ q ≠ cmdQueue rq) : Unanswered rq c (c.setQueue q x) :=
  ⟨Chip.queue_setQueue_ne _ _ h.1.symm, congrArg Queue.drain (Chip.queue_setQueue_ne _ _ h.2.symm), rfl, rfl, rfl⟩
theorem qDrop (c : Chip) (q : Nat) : Unanswered rq c (c.qDrop q) := (counter c _ (by simp only [R.Q_DROP_CNT]; omega)).trans (raise _ (by decide))
theorem qCommitted (c : Chip) {q : Nat} (hq : q < 32) : Unanswered rq c (c.qCommitted q) := by
  have hb : R.SYS_BLK_POWER 1 < 0x40020000 := by decide
  have h : Unanswered rq c ((c.ungate 1).bumpWrap (R.Q_PKT_CNT q)) := (counter c _ (.inl hb)).trans (counter _ _ (by simp only [R.Q_PKT_CNT]; omega))
  unfold Chip.qCommitted
  cases hk : queueEvent q with
  | none => exact h
  | some k => exact h.trans (raise _ (Served.queueEvent_lt hq hk))
theorem hwPush (c : Chip) {q : Nat} (hq : q < 32) (ws : List Word) (h : q ≠ compQueue rq ∧ q ≠ cmdQueue rq) : Unanswered rq c (c.hwPush q ws) :=
  ite (fun _ => refl c) fun _ => ite (fun _ => (setQueue c _ h).trans (qCommitted _ hq)) fun _ => qDrop c q
theorem q10From (c : Chip) (d k obj : Nat) : Unanswered rq c (c.q10From d k obj) := by
  have hc := compQueue_mem rq
  have hq := cmdQueue_mem rq
  have hd : Unanswered rq c c.draw.2 := ⟨rfl, rfl, rfl, rfl, rfl⟩
  exact ite (fun _ => hd.trans (hwPush _ (by decide) _ (by omega))) fun _ => refl c
theorem chEvent (c : Chip) {base ch : Nat} (hb : base < 250) (hch : ch < 192) : Unanswered rq c (c.chEvent base ch) :=
  (q10From c _ _ _).trans (ite (fun _ => raise _ (by simp only [pdie]; omega)) fun _ => refl _)
end Unanswered

/-! ### The arrival of requests leaves a command that waits -/

/-- What an answer rests on is as it was, and the commands in flight are, where none waits for a load identification. -/
structure Still (rq : Req) (c d : Chip) : Prop where
  ans : Unanswered rq c d
  cmds : (∀ k ∈ c.cmds, k.op ≠ 0x31) → d.cmds = c.cmds

theorem Chip.cmds_chEvent (c : Chip) (base ch : Nat) : (c.chEvent base ch).cmds = c.cmds := by
  have h₁ (d : Chip) (n k obj : Nat) : (d.q10From n k obj).cmds = d.cmds := by
    have hd : d.draw.2.cmds = d.cmds := rfl
    unfold Chip.q10From Chip.q10
    dsimp only
    split
    · rw [Chip.cmds_hwPush, hd]
    · rfl
  have h₂ (d : Chip) (n k : Nat) : (d.raiseFrom n k).cmds = d.cmds := by
    unfold Chip.raiseFrom
    split
    · exact (Noted.raise d k).cmds
    · rfl
  rw [Chip.chEvent, h₂, h₁]

namespace Still
variable {rq : Req} {c d e : Chip}
theorem refl (c : Chip) : Still rq c c := ⟨.refl c, fun _ => rfl⟩
theorem trans (h : Still rq c d) (h' : Still rq d e) : Still rq c e :=
  ⟨h.ans.trans h'.ans, fun hk => (h'.cmds (h.cmds hk ▸ hk)).trans (h.cmds hk)⟩
theorem work {n : Nat} (h : DieWork n c d) : Still rq c d := ⟨h.unanswered rq, h.cmds⟩
theorem grantReq (c : Chip) (r : StartReq) : Still rq c (c.grantReq r) := by
  unfold Chip.grantReq
  split
  · exact work (.xcGrant c _ _)
  · exact work (.grant c _)
theorem reexamine (c : Chip) (n : Nat) : Still rq c (c.reexamine n) := by
  have h (k : Nat) (c : Chip) : Still rq c (Chip.grantInOrder n k c) := by
    induction k generalizing c with
    | zero => exact refl c
    | succ k ih =>
      rw [Chip.grantInOrder]
      split
      · exact refl c
      · split
        · exact (grantReq c _).trans (ih _)
        · exact refl c
  exact h _ c
theorem bump (c : Chip) {a : Nat} (h : 0x40020800 ≤ a) : Still rq c (c.bump a) := ⟨.wr c _ (.inr h), fun _ => rfl⟩
theorem enqueue (c : Chip) (r : StartReq) : Still rq c (c.enqueue r) := by
  have h (d : Chip) : Still rq d (d.fset (R.CH_STATUS r.ch) F.CH_STATUS_PENDING_GRANT 1) := work (.chan d (o := 0x1C) _ _ (by decide))
  have hs : Still rq c (c.setReqs (pdie r.ch) ((c.die (pdie r.ch)).reqs ++ [r])) := work (n := 0) (.setDie c _ _)
  unfold Chip.enqueue
  dsimp only
  split
  · exact hs
  · exact hs.trans (h _)
theorem capGrant (c : Chip) {r : StartReq} (hr : r.ch < 192) : Still rq c (c.capGrant r) :=
  (((grantReq c r).trans (bump _ (by simp only [R.CH_CAPGRANT_CNT, chBase]; omega))).trans (bump _ (by simp only [R.IS_CAPGRANT_CNT]; omega))).trans
    ⟨.chEvent _ (by decide) hr, fun _ => Chip.cmds_chEvent _ _ _⟩
theorem defer (c : Chip) (r : StartReq) : Still rq c (c.defer r) :=
  (bump c (by simp only [R.CH_DEFER_CNT, chBase]; omega)).trans (bump _ (by simp only [R.IS_DEFER_CNT]; omega))
theorem arriveReqs (c : Chip) (n : Nat) {rs : List StartReq} (h : ∀ r ∈ rs, r.ch < 192) : Still rq c (c.arriveReqs n rs) :=
  Chip.arriveReqs_rel refl trans enqueue grantReq reexamine (fun c _ hr => capGrant c hr) defer c n h
end Still

/-! ### The source of a test that waits -/

/-- The test of die n has source src, and so has each pulse that the die's requests hold. -/
structure XcHeld (n src : Nat) (c : Chip) : Prop where
  xc : (c.die n).xc.map (·.1) = some src
  pulses : ∀ r ∈ (c.die n).reqs, r.pulse = true → r.ch = 48 * n + src

theorem firstReq_mem {l : List StartReq} {r : StartReq} (h : firstReq l = some r) : r ∈ l := by
  induction l generalizing r with
  | nil => cases h
  | cons a l ih =>
    rw [firstReq] at h
    cases hf : firstReq l with
    | none =>
      rw [hf] at h
      exact Option.some.inj h ▸ List.mem_cons_self
    | some b =>
      rw [hf] at h
      dsimp only at h
      split at h
      · exact Option.some.inj h ▸ List.mem_cons_of_mem _ (ih hf)
      · exact Option.some.inj h ▸ List.mem_cons_self
theorem Chip.mem_reqs_grant {c : Chip} {ch n : Nat} {r : StartReq} (h : r ∈ ((c.grant ch).die n).reqs) : r ∈ (c.die n).reqs := by
  by_cases hn : n = pdie ch
  case pos =>
    rw [hn, Chip.reqs_grant] at h
    rw [hn]
    exact (List.mem_filter.1 h).1
  case neg =>
    have hd : (c.grant ch).die n = c.die n := by
      rw [Chip.die, Chip.grant_eq, Chip.dies_runStart, Chip.dies_setChRun, Chip.dies_readied]
      exact Chip.die_setDie_ne _ _ hn
    rwa [hd] at h

theorem Chip.dies_defer (c : Chip) (r : StartReq) : (c.defer r).dies = c.dies := by rw [Chip.defer, Chip.dies_bump, Chip.dies_bump]

namespace XcHeld
variable {n src : Nat} {c d : Chip}
theorem of_dies (h : XcHeld n src c) (hd : d.dies = c.dies) : XcHeld n src d := by
  have he : d.die n = c.die n := by
    rw [Chip.die, hd]
    rfl
  exact ⟨he ▸ h.xc, he ▸ h.pulses⟩
theorem xcGrant (c : Chip) (n src : Nat) : XcHeld n src (c.xcGrant n src) := by
  refine ⟨?_, fun r hr hp => ?_⟩
  · rw [c.xc_xcGrant n src n, if_pos rfl]
    rfl
  · have hd : (c.xcGrant n src).dies = (c.draw.2.setDie n { c.draw.2.die n with xc := some (src, true), reqs := (c.draw.2.die n).reqs.filter fun r => !r.pulse }).dies :=
      (Chip.dies_wr _ _ _).trans (Chip.dies_wr _ _ _)
    rw [Chip.die, hd] at hr
    change r ∈ ((c.draw.2.setDie n _).die n).reqs at hr
    rw [Chip.die_setDie_self] at hr
    have := (List.mem_filter.1 hr).2
    rw [hp] at this
    cases this
variable (hs : src < 48)
include hs
/-- A request that holds to the source, granted. -/
theorem grantReq (h : XcHeld n src c) {r : StartReq} (hr : r.pulse = true → r.ch = 48 * n + src) : XcHeld n src (c.grantReq r) := by
  unfold Chip.grantReq
  split
  case isTrue hp =>
    have he := hr hp
    have h₁ : pdie r.ch = n := by
      rw [he, pdie]
      omega
    have h₂ : r.ch % 48 = src := by omega
    rw [h₁, h₂]
    exact xcGrant c n src
  case isFalse => exact ⟨(congrArg _ (c.xc_grant r.ch n)).trans h.xc, fun q hq => h.pulses q (Chip.mem_reqs_grant hq)⟩
theorem reexamine (h : XcHeld n src c) : XcHeld n src (c.reexamine n) := by
  have hg (k : Nat) {c : Chip} (h : XcHeld n src c) : XcHeld n src (Chip.grantInOrder n k c) := by
    induction k generalizing c with
    | zero => exact h
    | succ k ih =>
      rw [Chip.grantInOrder]
      split
      · exact h
      next r hr =>
        split
        · exact ih (h.grantReq hs (h.pulses r (firstReq_mem hr)))
        · exact h
  exact hg _ h
theorem enqueue (h : XcHeld n src c) {r : StartReq} (hr : r.ch = 48 * n + src) : XcHeld n src (c.enqueue r) := by
  have hn : pdie r.ch = n := by
    rw [hr, pdie]
    omega
  have hq := c.reqs_enqueue r
  have hx : ((c.enqueue r).die n).xc = (c.die n).xc := by
    have hd : (c.enqueue r).dies = (c.setReqs n ((c.die n).reqs ++ [r])).dies := by
      unfold Chip.enqueue
      dsimp only
      rw [hn]
      split
      · rfl
      · exact Chip.dies_fset _ _ _ _
    rw [Chip.die, hd]
    show ((c.setReqs n ((c.die n).reqs ++ [r])).die n).xc = _
    rw [Chip.setReqs, Chip.die_setDie_self]
  rw [hn] at hq
  refine ⟨(congrArg _ hx).trans h.xc, fun q hm hp => ?_⟩
  rw [hq, List.mem_append, List.mem_singleton] at hm
  obtain hm | rfl := hm
  · exact h.pulses q hm hp
  · exact hr
theorem capGrant (h : XcHeld n src c) {r : StartReq} (hr : r.ch = 48 * n + src) (hch : r.ch < 192) : XcHeld n src (c.capGrant r) := by
  refine (h.grantReq hs fun _ => hr).of_dies ?_
  have hv (d : Chip) : (d.chEvent 40 r.ch).dies = d.dies := by
    rw [(Chip.chEvent_served d (by decide) hch).rest]
  rw [Chip.capGrant, hv, Chip.dies_bump, Chip.dies_bump]
/-- A pulse that arrives leaves the test with its source. -/
theorem arriveReqs (h : XcHeld n src c) {r : StartReq} (hr : r.ch = 48 * n + src) (hch : r.ch < 192) : XcHeld n src (c.arriveReqs n [r]) := by
  unfold Chip.arriveReqs
  extract_lets d e g wait
  have hd : XcHeld n src d := h.enqueue hs hr
  have he : XcHeld n src e := by
    show XcHeld n src (if d.exempt r then d.grantReq r else d)
    split
    · exact hd.grantReq hs fun _ => hr
    · exact hd
  have hg : XcHeld n src g := he.reexamine hs
  have hwait : ∀ q ∈ wait, q = r := fun q hq => by simpa using (List.mem_filter.1 hq).2
  have hall {f : Chip → StartReq → Chip} (hf : ∀ c, XcHeld n src c → XcHeld n src (f c r)) : ∀ (l : List StartReq) (c : Chip), (∀ q ∈ l, q = r) → XcHeld n src c →
      XcHeld n src (Chip.forReqs f l c) := by
    intro l
    induction l with
    | nil => exact fun c _ hc => hc
    | cons q l ih =>
      intro c hl hc
      rw [List.forall_mem_cons] at hl
      rw [Chip.forReqs, hl.1]
      exact ih _ hl.2 (hf c hc)
  split
  · refine hall (fun c hc => hc.capGrant hs hr hch) (byPrio wait) g (fun q hq => hwait q ?_) hg
    simp only [byPrio, List.mem_append, List.mem_filter] at hq
    tauto
  · exact hall (fun c hc => hc.of_dies (c.dies_defer r)) wait g hwait hg
end XcHeld

/-! ### XC_TEST -/

def xcCtrlDesc : RegDesc := ⟨.PWR_XC_CTRL, 0x40240700, [(4, 0x80000, 0)], 0x3F, 0, 0, 0x80000000, 0, 0⟩
theorem findReg_xcCtrl (n : Fin 4) : findReg (R.PWR_XC_CTRL n) = some (xcCtrlDesc, [n.val]) := by fin_cases n <;> rfl
theorem dieOf_xcCtrl (n : Fin 4) : dieOf (R.PWR_XC_CTRL n) = n.val + 2 := by revert n; decide
/-- What a test that is accepted shows before its pulse arrives. -/
def Chip.xcMarked (c : Chip) (n src : Nat) : Chip :=
  c.fset (R.PWR_XC_STATUS n) F.PWR_XC_STATUS_STATUS 1 |>.fset (R.PWR_XC_STATUS n) F.PWR_XC_STATUS_SRC src
    |>.wr (R.PWR_XC_WATCH0 n) 0 |>.wr (R.PWR_XC_WATCH1 n) 0 |>.wr (R.PWR_XC_HIT0 n) 0 |>.wr (R.PWR_XC_HIT1 n) 0
def Chip.xcPosed (c : Chip) (n src : Nat) : Chip := (c.xcMarked n src).setDie n { c.die n with xc := some (src, false) }
theorem Chip.xcGo_arrives {c : Chip} {n : Nat} (h : c.xcRefused n (c.fget (R.PWR_XC_CTRL n) F.PWR_XC_CTRL_SRC) = false) :
    c.xcGo n = ((c.xcPosed n (c.fget (R.PWR_XC_CTRL n) F.PWR_XC_CTRL_SRC)).endCycles n).arriveReqs n
      [(c.xcPosed n (c.fget (R.PWR_XC_CTRL n) F.PWR_XC_CTRL_SRC)).requestOf (48 * n + c.fget (R.PWR_XC_CTRL n) F.PWR_XC_CTRL_SRC) true] := by
  rw [Chip.xcGo, if_neg (by rw [h]; decide)]
  rfl
theorem DieWork.xcPosed (c : Chip) (n src : Nat) : DieWork n c (c.xcPosed n src) := by
  have h : ∀ a ∈ [R.PWR_XC_STATUS n, R.PWR_XC_WATCH0 n, R.PWR_XC_WATCH1 n, R.PWR_XC_HIT0 n, R.PWR_XC_HIT1 n], 0x40200000 + n * 0x80000 ≤ a ∧ a < 0x40280000 + n * 0x80000 := by
    simp only [List.forall_mem_cons, R.PWR_XC_STATUS, R.PWR_XC_WATCH0, R.PWR_XC_WATCH1, R.PWR_XC_HIT0, R.PWR_XC_HIT1]
    simp
  simp only [List.forall_mem_cons, List.not_mem_nil, false_imp_iff, implies_true, and_true] at h
  obtain ⟨h₁, h₂, h₃, h₄, h₅⟩ := h
  exact ((((((fset c _ _ h₁).trans (fset _ _ _ h₁)).trans (wr _ _ h₂)).trans (wr _ _ h₃)).trans (wr _ _ h₄)).trans (wr _ _ h₅)).trans (setDie _ _ _)
theorem Chip.dies_endCycles (c : Chip) (n : Nat) : (c.endCycles n).dies = c.dies := by
  refine List.foldlRecOn _ _ (motive := fun (d : Chip) => d.dies = c.dies) rfl fun d hd l _ => ?_
  split
  · exact hd
  · exact hd

/-- An accepted test, its pulse requested: the source is the one asked for. -/
theorem Chip.xcGo_says {c : Chip} {n src : Nat} (rq : Req) (hn : n < 4) (hs : src < 48) (hc : c.fget (R.PWR_XC_CTRL n) F.PWR_XC_CTRL_SRC = src) (hr : c.xcRefused n src = false)
    (hp : ((c.die n).reqs.any fun r => r.pulse) = false) : ((c.xcGo n).die n).xc.map (·.1) = some src ∧ Still rq c (c.xcGo n) := by
  have h := Chip.xcGo_arrives (c := c) (n := n) (by rw [hc]; exact hr)
  rw [hc] at h
  rw [h]
  obtain ⟨d, hd⟩ : ∃ d, d = c.xcPosed n src := ⟨_, rfl⟩
  have hdie : d.die n = { c.die n with xc := some (src, false) } := by rw [hd, Chip.xcPosed, Chip.die_setDie_self]
  have hw : DieWork n c d := hd ▸ .xcPosed c n src
  have hx : XcHeld n src d := by
    refine ⟨by rw [hdie]; rfl, fun r hr hpr => ?_⟩
    rw [hdie] at hr
    have := (List.any_eq_false.1 hp) r hr
    exact absurd hpr this
  rw [← hd]
  have hch : 48 * n + src < 192 := by omega
  refine ⟨((hx.of_dies (d.dies_endCycles n)).arriveReqs hs rfl hch).xc, ?_⟩
  exact (Still.work (hw.trans (.endCycles d n))).trans (.arriveReqs _ n (List.forall_mem_singleton.2 hch))

theorem xcWord_says {src : Nat} (hs : src < 48) : F.PWR_XC_CTRL_GO.get (F.PWR_XC_CTRL_GO.put (F.PWR_XC_CTRL_SRC.of src) 1) = 1 ∧
    ∀ (l : List Nat) (old : Word), F.PWR_XC_CTRL_SRC.get (storedWord xcCtrlDesc l old (F.PWR_XC_CTRL_GO.put (F.PWR_XC_CTRL_SRC.of src) 1)) = src := by
  refine ⟨Fld.get_put _ _ _ (by decide), fun l old => ?_⟩
  have h : storedWord xcCtrlDesc l old (F.PWR_XC_CTRL_GO.put (F.PWR_XC_CTRL_SRC.of src) 1) =
    (mergeWord xcCtrlDesc false false old (F.PWR_XC_CTRL_GO.put (F.PWR_XC_CTRL_SRC.of src) 1)).1 := rfl
  rw [h, Fld.get_mergeWord _ _ _ _ _ _ (by decide), Fld.get_put_ne _ _ _ _ (by decide) (by decide), Fld.of, Fld.get_put _ _ _ (by decide)]
  exact Nat.mod_eq_of_lt (by simp only [F.PWR_XC_CTRL_SRC]; omega)

theorem xcTest_waits {s : State} {rq : Req} {tag : Nat} {ch : Fin 192} (hl : s.chip.linkUp (physDie ch) = true) (hi : s.chip.inStep (physDie ch) = true)
    (h : s.chip.offers rq 0x33 tag [(.ofNat 32 ch : Word)]) (hs' : isSealed ch = false) (ho : s.chip.ownerOf (s.chip.lead ch) = rq.code)
    (hst : s.chip.chState (s.chip.lead ch) ≠ .disabled) (hp : ((s.chip.die (pdie ch)).reqs.any fun r => r.pulse) = false)
    (hrf : s.chip.xcRefused (pdie ch) (ch % 48) = false) (hk : s.chip.cmds = []) :
    ∃ c', exec (.xcTest rq) s = .next { s with chip := c' } ∧ s.chip.waits c' rq 0x33 tag [(.ofNat 32 ch : Word)] ch true ∧
      ((c'.die (pdie ch)).xc.map (·.1)) = some (ch.val % 48) := by
  obtain ⟨hs, d, ht, hc⟩ := offers_accepts h (by decide) (by simp)
  obtain ⟨k, hkd⟩ : ∃ k, k = cmdFor rq 0x33 tag [(.ofNat 32 ch : Word)] := ⟨_, rfl⟩
  rw [← hkd] at hc
  obtain ⟨a₁, hrq, hop⟩ : k.arg 1 = .ofNat 32 ch ∧ k.rq = rq ∧ k.op = 0x33 := by
    rw [hkd]
    exact ⟨rfl, rfl, rfl⟩
  have hch : k.ch = ch := Cmd.ch_of a₁ (by omega) (by omega)
  obtain ⟨n, hn⟩ : ∃ n : Fin 4, n.val = pdie ch := ⟨⟨pdie ch, by simp only [pdie]; omega⟩, rfl⟩
  have hph : physDie ch = n + 2 := by rw [physDie, hn]
  rw [← hn] at hp hrf ⊢
  obtain ⟨src, hsrc⟩ : ∃ src, src = ch.val % 48 := ⟨_, rfl⟩
  have hlt : src < 48 := by omega
  rw [← hsrc] at hrf ⊢
  obtain ⟨b, hb⟩ : ∃ b, b = d.addCmd k ch true := ⟨_, rfl⟩
  have hbr : b.reaches (n + 2) := by
    rw [hb, ← hph]
    exact ht.reaches (by rw [hph]; omega) hl hi
  obtain ⟨x, hx⟩ : ∃ x, x = F.PWR_XC_CTRL_GO.put (F.PWR_XC_CTRL_SRC.of src) 1 := ⟨_, rfl⟩
  obtain ⟨w₁, w₂⟩ := xcWord_says hlt
  rw [← hx] at w₁ w₂
  obtain ⟨f, h₂, h₄⟩ := b.supWrite_reaches (a := R.PWR_XC_CTRL n) x (by rw [dieOf_xcCtrl]; exact hbr)
  rw [dieOf_xcCtrl] at h₂
  obtain ⟨z, hz⟩ : ∃ z, z = storedWord xcCtrlDesc [n.val] (f.rd (R.PWR_XC_CTRL n)) x := ⟨_, rfl⟩
  obtain ⟨g, hg⟩ : ∃ g, g = f.wr (R.PWR_XC_CTRL n) z := ⟨_, rfl⟩
  have hreg : f.regWrite .sup (R.PWR_XC_CTRL n) x = g.xcGo n := by
    have h₀ : f.regWrite .sup (R.PWR_XC_CTRL n) x = (if F.PWR_XC_CTRL_GO.get x = 1 then
        Chip.xcGo (f.wr (R.PWR_XC_CTRL n) (storedWord xcCtrlDesc [n.val] (f.rd (R.PWR_XC_CTRL n)) x)) n
        else f.wr (R.PWR_XC_CTRL n) (storedWord xcCtrlDesc [n.val] (f.rd (R.PWR_XC_CTRL n)) x)) :=
      Chip.regWrite_stores _ (findReg_xcCtrl n) (by decide) rfl rfl rfl
    rw [h₀, if_pos w₁, hg, hz]
  rw [hreg] at h₄
  have h₆ : Wrote (tokens (n + 2) ++ [R.PWR_XC_CTRL n]) b g := hg ▸ h₂.trans (.of_wr f _ _)
  have hin : ∀ a ∈ tokens (n + 2) ++ [R.PWR_XC_CTRL n], 0x40020800 ≤ a := by
    refine List.forall_mem_append.2 ⟨fun a ha => ?_, ?_⟩
    · have := token_pwr n.2 a ha
      simp only [Blk.pwr] at this
      omega
    · rw [List.forall_mem_singleton]
      simp only [R.PWR_XC_CTRL]
      omega
  have hgr {a : Nat} (ha : a ≠ R.PWR_XC_CTRL n ∧ a ≠ 0x40240004 + n * 0x80000) (hk : 0x40030000 ≤ a) : g.rd a = s.chip.rd a := by
    obtain ⟨ha₁, ha₂⟩ := ha
    rw [h₆.rd a (by rw [tokens_pwr n.2]; simp [ha₁, ha₂]) (by simp only [clockReg]; omega), hb]
    exact ht.rd (by omega)
  have hdie : g.die n = s.chip.die n := by
    rw [Chip.die, h₆.dies, hb]
    show Tbl.get _ d.dies _ = _
    rw [ht.dies]
    rfl
  have hxr {e : Chip} (hd : e.die n = s.chip.die n) (hr : ∀ a, a ≠ R.PWR_XC_CTRL n → a ≠ 0x40240004 + n * 0x80000 → 0x40030000 ≤ a → e.rd a = s.chip.rd a) :
      e.xcRefused n src = false := by
    have h₁ : e.chState (48 * n + src) = s.chip.chState (48 * n + src) := congrArg (ChState.ofCode ∘ F.CH_STATUS_STATE.get) (hr _
      (by simp only [R.CH_STATUS, chBase, R.PWR_XC_CTRL]; omega) (by simp only [R.CH_STATUS, chBase]; omega) (by simp only [R.CH_STATUS, chBase]; omega))
    have h₂ : e.pendingGrant (48 * n + src) = s.chip.pendingGrant (48 * n + src) := congrArg (F.CH_STATUS_PENDING_GRANT.get · == 1) (hr _
      (by simp only [R.CH_STATUS, chBase, R.PWR_XC_CTRL]; omega) (by simp only [R.CH_STATUS, chBase]; omega) (by simp only [R.CH_STATUS, chBase]; omega))
    have h₃ : e.oddMember (48 * n + src) = s.chip.oddMember (48 * n + src) := by
      have : e.paired (48 * n + src) = s.chip.paired (48 * n + src) := congrArg (fun w => (F.PWR_PAIR_PAIR.get w).testBit ((48 * n + src) % 48 / 2)) (hr _
        (by simp only [R.PWR_PAIR, R.PWR_XC_CTRL]; omega) (by simp only [R.PWR_PAIR]; omega) (by simp only [R.PWR_PAIR]; omega))
      rw [Chip.oddMember, Chip.oddMember, this]
    have h₄ : e.isStartEnable (48 * n + src) = s.chip.isStartEnable (48 * n + src) :=
      congrArg (F.CH_STATUS_START_ENABLE.get · == 1) (hr _ (by simp only [R.CH_STATUS, chBase, R.PWR_XC_CTRL]; omega)
        (by simp only [R.CH_STATUS, chBase]; omega) (by simp only [R.CH_STATUS, chBase]; omega))
    have h₅ : e.tdrStatus n = s.chip.tdrStatus n := congrArg F.PWR_TDR_STATUS_STATUS.get (hr _
      (by simp only [R.PWR_TDR_STATUS, R.PWR_XC_CTRL]; omega) (by simp only [R.PWR_TDR_STATUS]; omega) (by simp only [R.PWR_TDR_STATUS]; omega))
    rw [← hrf, Chip.xcRefused, Chip.xcRefused, h₁, h₂, h₃, h₄, h₅, hd]
  have hgs : g.fget (R.PWR_XC_CTRL n) F.PWR_XC_CTRL_SRC = src := by rw [hg, Chip.fget, Chip.rd_wr_self, hz, w₂]
  obtain ⟨r₁, r₂⟩ := Chip.xcGo_says (c := g) rq n.2 hlt hgs (hxr hdie fun a h₁ h₂ h₃ => hgr ⟨h₁, h₂⟩ h₃) (by rw [hdie]; exact hp)
  have hgk : g.cmds = [{ k with obj := ch, started := true }] := by
    rw [h₆.cmds, hb]
    show d.cmds ++ _ = _
    rw [ht.cmds, hk]
    rfl
  have r₃ : (g.xcGo n).cmds = g.cmds := r₂.cmds (by
    rw [hgk, List.forall_mem_singleton]
    show k.op ≠ 0x31
    rw [hop]
    decide)
  rw [hb] at h₄ h₆
  refine ⟨g.xcGo n, State.next_chip ((hc _ _ _ (by rw [hkd]; rfl) ?_).trans ?_),
    waits_says ht hkd ((h₆.unanswered fun a ha => .inr (hin a ha)).trans r₂.ans) (r₃.trans h₆.cmds), r₁⟩
  · refine List.forall_mem_append.2 ⟨List.forall_mem_append.2 ⟨ht.chanChecks hch (hrq ▸ ho) hs' (only_small 0xFF 8 a₁ (by omega) (by decide) rfl), ht.chanState hch hl hst⟩, ?_⟩
    rw [hch, ← hn, ← hsrc]
    exact List.forall_mem_singleton.2 (hxr (by rw [Chip.die, ht.dies]; rfl) fun a _ _ h₃ => ht.rd (by omega))
  · rw [Chip.xcTest, hch, ← hn, ← hsrc, ← hx]
    exact h₄

/-- Settles O39: each command's registers take its words, with what they begin, and it completes or waits. -/
theorem measurementCommandsDo : Obligations.MeasurementCommandsDo := by
  unfold Obligations.MeasurementCommandsDo
  refine ⟨?_, ?_, ?_, ?_, ?_, ?_, ?_⟩
  case refine_1 => exact fun rq tag ch x y s h ⟨hs, ho, hl, hi⟩ hst hx hy => olSet_serves hs ho hl hi h hst hx hy
  case refine_2 => exact fun rq tag ch w s h ⟨hs, ho, hl, hi⟩ hst ha => lidArm_waits hl hi h hs ho hst ha
  case refine_3 => exact fun ch k s hk ⟨hop, hob, hrq, hw⟩ ⟨hl, hi⟩ ⟨hh, hf⟩ => lidArm_expires hl hi hk hop hob hrq hw hh hf
  case refine_4 => exact fun rq tag ch x y s h ⟨hs, ho, hl, hi⟩ ⟨hsrc, hstop⟩ hx hy ⟨hrf, h₁, h₅⟩ => tdrRun_waits hl hi h hs ho hsrc hstop hx hy hrf h₁ h₅
  case refine_5 => exact fun rq tag ch s h ⟨hs, ho, hl, hi⟩ hst hp ⟨hrf, hk⟩ => xcTest_waits hl hi h hs ho hst hp hrf hk
  case refine_6 => exact fun rq tag n x s h ⟨hl, hi⟩ hx => streamSet_serves hl hi h hx
  case refine_7 => exact fun rq tag n e v s h hv ⟨hl, hi⟩ hp => cantHealth_waits hl hi h hv hp

end Sys2Proof.Machine
end

section
/-! SUPPORT. What a power die leaves as it was when a channel goes off, is disabled or takes a command of its owner (R84, R96, R141, R153). -/

namespace Sys2Proof.Machine
open Sys2Proof

/-! ### Leaving the driven state -/

namespace DieWork
variable {n : Nat} {c d e : Chip}
theorem leavePwm (c : Chip) (ch : Nat) : DieWork (pdie ch) c (c.leavePwm ch) :=
  (((setChan c ch _).trans (chan _ (o := 0x1C) _ _ (by decide))).trans (chan _ (o := 0xB8) _ _ (by decide))).trans (chan _ (o := 0xB8) _ _ (by decide))
theorem withdraw (c : Chip) (ch : Nat) : DieWork (pdie ch) c (c.withdraw ch) := (setReqs c _ _).trans (chan _ (o := 0x1C) _ _ (by decide))
theorem dropPending (c : Chip) (ch : Nat) : DieWork (pdie ch) c (c.dropPending ch) := (setChan c ch _).trans (chan _ (o := 0x1C) _ _ (by decide))
theorem setHoldSub (c : Chip) (ch : Nat) (x : ChState) : DieWork (pdie ch) c (c.setHoldSub ch x) := chan c (o := 0x3C) _ _ (by decide)
/-- The identifications of a channel wait again for a start. -/
theorem idled (h : DieWork n c e) (ch : Nat) : DieWork n c { e with cmds := c.cmds.map fun k => if onObj 0x31 ch k then { k with started := false } else k } := by
  refine ⟨h.rd, h.queues, h.held, h.ctr, fun hk => (List.map_congr_left fun k hm => if_neg ?_).trans (List.map_id' _)⟩
  rw [onObj, beq_false_of_ne (hk k hm)]
  simp
theorem lidEnd (c : Chip) (ch st : Nat) : DieWork (pdie ch) c (c.lidEnd ch st) :=
  (((chan c (o := 0xD0) _ _ (by decide)).trans (chan _ (o := 0xD0) _ _ (by decide))).trans (setChan _ ch _)).trans (updateHk _ _ _)
theorem lidAbort (c : Chip) (ch : Nat) : DieWork (pdie ch) c (c.lidAbort ch) := by
  unfold Chip.lidAbort
  exact ite (fun _ => (lidEnd c ch 3).idled ch) fun _ => refl c
theorem stopDrive (c : Chip) (ch : Nat) : DieWork (pdie ch) c (c.stopDrive ch) := by
  unfold Chip.stopDrive
  exact (((setChan c ch _).trans (leavePwm _ _)).trans (ite (fun _ => chan _ (o := 0x3C) _ _ (by decide)) fun _ => refl _)).trans (ite (fun _ => lidAbort _ _) fun _ => refl _)
theorem goOff (c : Chip) (ch : Nat) : DieWork (pdie ch) c (c.goOff ch) :=
  (((((stopDrive c ch).trans (withdraw _ _)).trans (setChRun _ _ _)).trans (chan _ (o := 0x1C) _ _ (by decide))).trans (chan _ (o := 0x3C) _ _ (by decide))).trans
    (chan _ (o := 0x3C) _ _ (by decide))
theorem cmdWritten (c : Chip) (ch : Nat) (x : Word) : DieWork (pdie ch) c (c.cmdWritten ch x) := by
  unfold Chip.cmdWritten
  exact ((chan c (o := 0) _ _ (by decide)).trans (chan _ (o := 0) _ _ (by decide))).trans (ite (fun _ => chan _ (o := 0) _ _ (by decide)) fun _ => refl _)
theorem rearm (c : Chip) (ch : Nat) : DieWork (pdie ch) c (c.rearm ch) :=
  ite (fun _ => ite (fun _ => goOff c ch) fun _ => chan c (o := 0x3C) _ _ (by decide)) fun _ => refl c
theorem ownerWrite (c : Chip) (ch v : Nat) : DieWork (pdie ch) c (c.ownerWrite ch v) := by
  have h (c : Chip) : DieWork (pdie ch) c (c.reloadShadows ch) :=
    ((wr c _ (mem_chanBlock (o := 0) (by decide))).trans (wr _ _ (mem_chanBlock (by decide)))).trans (wr _ _ (mem_chanBlock (by decide)))
  have hb (c : Chip) : DieWork (pdie ch) c (c.bump (R.CH_NOTOWNER_CNT ch)) := wr c _ (mem_chanBlock (by decide))
  exact ite (fun _ => refl c) fun _ => ite (fun _ => ite (fun _ => h c) fun _ => hb c) fun _ => ite (fun _ => hb c) fun _ => (chan c (o := 0xC) _ _ (by decide)).trans (h _)
end DieWork

end Sys2Proof.Machine
end

section
/-! PROOF. CH_SET, CH_SET_CFG, CH_COMMIT and CH_SET_OWNER (spec/11, 0x10 to 0x13; R88, R91, R97, R183, R352). -/

namespace Sys2Proof.Machine
open Sys2Proof

/-! ### The registers of a channel that the odd member of a pair has not -/

def chPwmDesc : RegDesc := ⟨.CH_PWM, 0x40200004, [(4, 0x80000, 0), (48, 0x100, 0)], 0xFFF7FFFF, 0, 0, 0, 0, 0xC350⟩
def chCfgDesc : RegDesc := ⟨.CH_CFG, 0x40200008, [(4, 0x80000, 0), (48, 0x100, 0)], 0x1FF, 0, 0, 0, 0, 0xF6⟩

section
variable {a n l : Nat} {c : Chip}
theorem Chip.regWrite_as_chPwm (h : findReg a = some (chPwmDesc, [n, l])) (ho : c.oddMember (48 * n + l) = false) (x : Word) :
    c.regWrite .sup a x = c.wr a (storedWord chPwmDesc [n, l] (c.rd a) x) := by
  have hp : c.regWrite .sup a x = c.plainWrite .sup chPwmDesc [n, l] a x := by simp [Chip.regWrite, h, chPwmDesc, writerOk_sup, chOf, ho]
  rw [hp, Chip.plainWrite_open rfl rfl]
  exact Chip.wrote_quiet _ _ _ _ _ (by decide)
theorem Chip.regWrite_as_chCfg (h : findReg a = some (chCfgDesc, [n, l])) (ho : c.oddMember (48 * n + l) = false) (x : Word) :
    c.regWrite .sup a x = c.wr a (storedWord chCfgDesc [n, l] (c.rd a) x) := by
  have hp : c.regWrite .sup a x = c.plainWrite .sup chCfgDesc [n, l] a x := by simp [Chip.regWrite, h, chCfgDesc, writerOk_sup, chOf, ho]
  rw [hp, Chip.plainWrite_open rfl rfl]
  exact Chip.wrote_quiet _ _ _ _ _ (by decide)
end

/-! ### Writes that land on a channel -/

theorem Chip.write_lands (c : Chip) (rq : Req) {a : Nat} (x : Word) (hd : dieOf a ≠ 0) (ha : isAlias a = false) (hl : c.linkUp (dieOf a) = true)
    (hi : c.inStep (dieOf a) = true) : ∃ e, Wrote [tokenAddr (dieOf a)] c e ∧ c.supWrite rq a x = e.regWrite rq a x := by
  obtain ⟨d, hd'⟩ : ∃ d, d = c.setLink (dieOf a) { c.link (dieOf a) with total := (c.link (dieOf a)).total + 1 } := ⟨_, rfl⟩
  have h₁ : Wrote [] c d := hd' ▸ .of_setLink c _ _ ⟨rfl, rfl, rfl⟩
  have h₂ : Wrote [tokenAddr (dieOf a)] d (d.bumpWrap (tokenAddr (dieOf a))) := .of_wr d _ _
  have h₃ : Wrote [] (d.bumpWrap (tokenAddr (dieOf a))) ((d.bumpWrap (tokenAddr (dieOf a))).setLink (dieOf a) { d.link (dieOf a) with landed := (d.link (dieOf a)).landed + 1 }) :=
    .of_setLink _ _ _ ⟨rfl, rfl, rfl⟩
  refine ⟨_, ((h₁.trans h₂).trans h₃).mono (by simp), ?_⟩
  have ht : Machine.target a = a := by simp [Machine.target, ha]
  rw [Chip.supWrite_far rq x hd hl hi, ← hd', Chip.landed, Chip.applyWrite, ht, if_neg (by simp [ha])]

section
variable {ch : Nat} (hch : ch < 192)
include hch
theorem physDie_lt : physDie ch < 6 := by
  simp only [physDie, pdie]
  omega
theorem die_chan (o : Nat) (ho : o < 0x100) : dieOf (chBase ch + o) = physDie ch := dieOf_chan hch ho
theorem tokens_chan : tokens (physDie ch) = [0x40240004 + pdie ch * 0x80000] := tokens_pwr (n := pdie ch) (by simp only [pdie]; omega)
theorem clear_chan {o : Nat} (ho : o < 0x100) : chBase ch + o ∉ tokens (physDie ch) ∧ ¬ clockReg (chBase ch + o) := by
  rw [tokens_chan hch, List.mem_singleton]
  simp only [clockReg, chBase, pdie]
  omega
/-- A write lands on a channel's die: the die's other words are as they were. -/
theorem Chip.landed_chan {c : Chip} (hr : c.reaches (physDie ch)) (rq : Req) {o : Nat} (ho : o < 0x100) (x : Word) :
    ∃ e, Wrote (tokens (physDie ch)) c e ∧ c.supWrite rq (chBase ch + o) x = e.regWrite rq (chBase ch + o) x := by
  have h₀ : physDie ch ≠ 0 := by simp only [physDie]; omega
  have hd := die_chan hch o ho
  obtain h | ⟨hl, hi⟩ := hr
  · exact absurd h h₀
  · obtain ⟨e, h₁, h₂⟩ := c.write_lands rq x (a := chBase ch + o) (by omega) (isAlias_chan hch ho) (by rw [hd]; exact hl) (by rw [hd]; exact hi)
    rw [hd] at h₁
    exact ⟨e, by rw [tokens, if_neg h₀]; exact h₁, h₂⟩
variable {A : List Nat} {c e : Chip} (h : Wrote A c e) (hA : ∀ a ∈ A, a ∈ tokens (physDie ch) ∨ a = R.CH_PWM ch ∨ a = R.CH_CFG ch ∨ a = R.CH_DISABLE ch)
include h hA
/-- What decides about a channel is as it was. -/
theorem Wrote.chanRd {o : Nat} (ho : o < 0x100 ∧ o ≠ 4 ∧ o ≠ 8 ∧ o ≠ 0x58) : e.rd (chBase ch + o) = c.rd (chBase ch + o) := by
  obtain ⟨h₁, h₂⟩ := clear_chan hch ho.1
  refine h.rd _ (fun hm => ?_) h₂
  obtain hm | hm | hm | hm := hA _ hm
  · exact h₁ hm
  all_goals
    simp only [R.CH_PWM, R.CH_CFG, R.CH_DISABLE] at hm
    omega
theorem Wrote.pairRd : e.rd (R.PWR_PAIR (pdie ch)) = c.rd (R.PWR_PAIR (pdie ch)) := by
  refine h.rd _ (fun hm => ?_) (by simp only [clockReg, R.PWR_PAIR]; omega)
  obtain hm | hm | hm | hm := hA _ hm
  · rw [tokens_chan hch, List.mem_singleton] at hm
    simp only [R.PWR_PAIR] at hm
    omega
  all_goals
    simp only [R.PWR_PAIR, R.CH_PWM, R.CH_CFG, R.CH_DISABLE, chBase, pdie] at hm
    omega
theorem Wrote.oddMember : e.oddMember ch = c.oddMember ch := Chip.oddMember_of_pair (h.pairRd hch hA)
theorem Wrote.ownerOf : e.ownerOf ch = c.ownerOf ch := congrArg F.CH_OWNER_OWNER.get (h.chanRd hch hA (o := 0xC) (by decide))
theorem Wrote.chState : e.chState ch = c.chState ch := congrArg (fun w => ChState.ofCode (F.CH_STATUS_STATE.get w)) (h.chanRd hch hA (o := 0x1C) (by decide))
omit h in
theorem inPwrBlock : ∀ a ∈ A, 0x40200000 + pdie ch * 0x80000 ≤ a ∧ a < 0x40280000 + pdie ch * 0x80000 := fun a ha => by
  obtain hm | rfl | rfl | rfl := hA a ha
  · exact armWrites hch (List.mem_cons_of_mem _ hm)
  all_goals exact mem_chanBlock (by decide)
end

/-- The owner's write of CH_CMD, at the channel. -/
theorem Chip.cmd_lands {c : Chip} {rq : Req} {ch : Nat} (hch : ch < 192) (hr : c.reaches (physDie ch)) (ho : c.oddMember ch = false) (hw : c.ownerOf ch = rq.code) (x : Word) :
    ∃ e, Wrote (tokens (physDie ch)) c e ∧ c.supWrite rq (R.CH_CMD ch) x = e.cmdFields ch x := by
  obtain ⟨e, h₁, h₂⟩ := Chip.landed_chan hch hr rq (o := 0) (by decide) x
  have he : 48 * (ch / 48) + ch % 48 = ch := Nat.div_add_mod ch 48
  have hA : ∀ a ∈ tokens (physDie ch), a ∈ tokens (physDie ch) ∨ a = R.CH_PWM ch ∨ a = R.CH_CFG ch ∨ a = R.CH_DISABLE ch := fun _ => .inl
  have hx := Chip.regWrite_as_chCmd (c := e) (rq := rq) (findReg_chan hch (by decide) chanDesc_cmd) (by simp only [chBase]; omega)
    (by rw [he, h₁.ownerOf hch hA]; exact hw) (by rw [he, h₁.oddMember hch hA]; exact ho) x
  rw [he] at hx
  exact ⟨e, h₁, h₂.trans hx⟩
/-- The supervisor's write of CH_PWM. -/
theorem Chip.pwm_lands {c : Chip} {ch : Nat} (hch : ch < 192) (hr : c.reaches (physDie ch)) (ho : c.oddMember ch = false) (x : Word) :
    Wrote (R.CH_PWM ch :: tokens (physDie ch)) c (c.supWrite .sup (R.CH_PWM ch) x) ∧
      (c.supWrite .sup (R.CH_PWM ch) x).rd (R.CH_PWM ch) = storedWord chPwmDesc [ch / 48, ch % 48] (c.rd (R.CH_PWM ch)) x := by
  obtain ⟨e, h₁, h₂⟩ := Chip.landed_chan hch hr .sup (o := 4) (by decide) x
  obtain ⟨h₃, h₄⟩ := clear_chan hch (o := 4) (by decide)
  have he : 48 * (ch / 48) + ch % 48 = ch := Nat.div_add_mod ch 48
  rw [R.CH_PWM, h₂, Chip.regWrite_as_chPwm (findReg_chan hch (by decide) (by decide)) (by rw [he, h₁.oddMember hch fun _ => .inl]; exact ho)]
  exact ⟨(h₁.trans (.of_wr e _ _)).mono (by simp), by rw [Chip.rd_wr_self, h₁.rd _ h₃ h₄]⟩
/-- The supervisor's write of CH_CFG. -/
theorem Chip.cfg_lands {c : Chip} {ch : Nat} (hch : ch < 192) (hr : c.reaches (physDie ch)) (ho : c.oddMember ch = false) (x : Word) :
    Wrote (R.CH_CFG ch :: tokens (physDie ch)) c (c.supWrite .sup (R.CH_CFG ch) x) ∧
      (c.supWrite .sup (R.CH_CFG ch) x).rd (R.CH_CFG ch) = storedWord chCfgDesc [ch / 48, ch % 48] (c.rd (R.CH_CFG ch)) x := by
  obtain ⟨e, h₁, h₂⟩ := Chip.landed_chan hch hr .sup (o := 8) (by decide) x
  obtain ⟨h₃, h₄⟩ := clear_chan hch (o := 8) (by decide)
  have he : 48 * (ch / 48) + ch % 48 = ch := Nat.div_add_mod ch 48
  rw [R.CH_CFG, h₂, Chip.regWrite_as_chCfg (findReg_chan hch (by decide) (by decide)) (by rw [he, h₁.oddMember hch fun _ => .inl]; exact ho)]
  exact ⟨(h₁.trans (.of_wr e _ _)).mono (by simp), by rw [Chip.rd_wr_self, h₁.rd _ h₃ h₄]⟩
theorem Chip.statusOf_even {c : Chip} {ch : Nat} (h : c.oddMember ch = false) : c.statusOf ch = c.rd (R.CH_STATUS ch) := by
  rw [Chip.statusOf, h]
  rfl

end Sys2Proof.Machine
end

section
/-! PROOF. CH_SET, CH_SET_CFG, CH_COMMIT and CH_SET_OWNER (spec/11, 0x10 to 0x13; R88, R91, R97, R183, R352). -/

namespace Sys2Proof.Machine
open Sys2Proof

/-! ### CH_CMD as it is written -/

theorem Chip.cmds_cmdWritten (c : Chip) (ch : Nat) (x : Word) : (c.cmdWritten ch x).cmds = c.cmds := by
  unfold Chip.cmdWritten
  extract_lets d
  have hd : d.cmds = c.cmds := (Chip.cmds_fset _ _ _ _).trans (Chip.cmds_fset _ _ _ _)
  split
  · exact (Chip.cmds_fset _ _ _ _).trans hd
  · exact hd
theorem Chip.ceil_cmdWritten (c : Chip) (ch : Nat) (x : Word) : (c.cmdWritten ch x).fget (R.CH_CMD ch) F.CH_CMD_CEIL = F.CH_CMD_CEIL.get x := by
  unfold Chip.cmdWritten
  extract_lets d
  have hd : d.fget (R.CH_CMD ch) F.CH_CMD_CEIL = F.CH_CMD_CEIL.get x := (Chip.fget_fset_self _ _ _ _ (by decide)).trans (Nat.mod_eq_of_lt (Fld.get_lt _ _))
  split
  · exact (Chip.fget_fset_field _ _ _ _ _ (by decide) (by decide)).trans hd
  · exact hd
theorem Chip.mode_cmdWritten (c : Chip) (ch : Nat) {x : Word} (h : F.CH_CMD_MODE.get x < 4) : (c.cmdWritten ch x).fget (R.CH_CMD ch) F.CH_CMD_MODE = F.CH_CMD_MODE.get x := by
  unfold Chip.cmdWritten
  dsimp only
  rw [if_pos h, Chip.fget_fset_self _ _ _ _ (by decide)]
  exact Nat.mod_eq_of_lt (Fld.get_lt _ _)
theorem Chip.cmdFields_plain (c : Chip) (ch : Nat) {x : Word} (h₁ : F.CH_CMD_REARM.get x = 0) (h₂ : F.CH_CMD_APPLY.get x = 0) : c.cmdFields ch x = c.cmdWritten ch x := by
  have hr : (c.cmdWritten ch x).cmdRearmed ch x = c.cmdWritten ch x := if_neg (by omega)
  rw [Chip.cmdFields_eq, hr, if_neg fun h => by omega]

section
variable {s : State} {rq : Req} {tag : Nat} {ch : Fin 192} (hs' : isSealed ch = false) (ho : s.chip.ownerOf (s.chip.lead ch) = rq.code)
  (hl : s.chip.linkUp (physDie ch) = true) (hi : s.chip.inStep (physDie ch) = true)
include hs' ho hl hi

theorem chSet_serves {x y : Word} (h : s.chip.offers rq 0x10 tag [(.ofNat 32 (ch + 256) : Word), x, y]) (hst : s.chip.chState (s.chip.lead ch) ≠ .disabled)
    (hodd : s.chip.oddMember ch = false) (hra : F.CH_CMD_REARM.get x = 0) (hap : F.CH_CMD_APPLY.get x = 0) (hmo : F.CH_CMD_MODE.get x < 4)
    (hx : layoutOk .CH_CMD [pdie ch, ch % 48] x = true) (hy : layoutOk .CH_PWM [pdie ch, ch % 48] y = true) :
    ∃ c', exec (.chSet rq) s = .next { s with chip := c' } ∧ s.chip.served c' rq 0x10 tag 3 .ok [s.chip.statusOf ch] ∧
      c'.fget (R.CH_CMD ch) F.CH_CMD_MODE = F.CH_CMD_MODE.get x ∧ c'.fget (R.CH_CMD ch) F.CH_CMD_DUTY = F.CH_CMD_DUTY.get x ∧
      c'.fget (R.CH_CMD ch) F.CH_CMD_CEIL = F.CH_CMD_CEIL.get x ∧ c'.took .CH_PWM (R.CH_PWM ch) y ∧ c'.cmds = s.chip.cmds ∧
      Only [Blk.sys, Blk.evr, Blk.que, Blk.pwr (pdie ch)] s.chip c' := by
  obtain ⟨hs, d, ht, hc⟩ := offers_accepts h (by decide) (by simp)
  obtain ⟨k, hkd⟩ : ∃ k, k = cmdFor rq 0x10 tag [(.ofNat 32 (ch + 256) : Word), x, y] := ⟨_, rfl⟩
  rw [← hkd] at hc
  obtain ⟨a₁, a₂, a₃, hrq⟩ : k.arg 1 = .ofNat 32 (ch + 256) ∧ k.arg 2 = x ∧ k.arg 3 = y ∧ k.rq = rq := by
    rw [hkd]
    exact ⟨rfl, rfl, rfl, rfl⟩
  have hch : k.ch = ch := Cmd.ch_of a₁ (by omega) (by omega)
  have hpv : k.bits 1 8 1 = 1 := Cmd.bits_of a₁ (by omega) (by omega)
  have hdr : d.reaches (physDie ch) := ht.reaches (by simp only [physDie, pdie]; omega) hl hi
  have hdo : d.oddMember ch = false := by rw [Chip.oddMember, ht.paired]; exact hodd
  obtain ⟨p₁, p₂⟩ := Chip.pwm_lands ch.2 hdr hdo y
  have hA : ∀ a ∈ R.CH_PWM ch :: tokens (physDie ch), a ∈ tokens (physDie ch) ∨ a = R.CH_PWM ch ∨ a = R.CH_CFG ch ∨ a = R.CH_DISABLE ch :=
    List.forall_mem_cons.2 ⟨.inr (.inl rfl), fun _ => .inl⟩
  obtain ⟨e, he⟩ : ∃ e, e = d.supWrite .sup (R.CH_PWM ch) y := ⟨_, rfl⟩
  rw [← he] at p₁ p₂
  have her : e.reaches (physDie ch) := p₁.reaches (by have := physDie_lt ch.2; omega) (fun _ a ha => by have := inPwrBlock ch.2 hA a ha; omega) hdr
  have hown : e.ownerOf ch = rq.code := by
    rw [p₁.ownerOf ch.2 hA, ht.ownerOf, ← ho, Chip.lead_of_even hodd]
  obtain ⟨f, q₁, q₂⟩ := Chip.cmd_lands ch.2 her ((p₁.oddMember ch.2 hA).trans hdo) hown x
  rw [Chip.cmdFields_plain f ch hra hap] at q₂
  have hA' : ∀ a ∈ (R.CH_PWM ch :: tokens (physDie ch)) ++ tokens (physDie ch), a ∈ tokens (physDie ch) ∨ a = R.CH_PWM ch ∨ a = R.CH_CFG ch ∨ a = R.CH_DISABLE ch :=
    List.forall_mem_append.2 ⟨hA, fun _ => .inl⟩
  have hw := p₁.trans q₁
  have hg := DieWork.cmdWritten f ch x
  obtain ⟨g, hgd⟩ : ∃ g, g = f.cmdWritten ch x := ⟨_, rfl⟩
  have hgr {o : Nat} (h : 0 < o ∧ o < 0x100) : g.rd (chBase ch + o) = f.rd (chBase ch + o) := hgd ▸ f.rd_cmdWritten ch x (by simp only [R.CH_CMD]; omega)
  have hgp : g.rd (R.PWR_PAIR (pdie ch)) = f.rd (R.PWR_PAIR (pdie ch)) := hgd ▸ f.rd_cmdWritten ch x (by simp only [R.PWR_PAIR, R.CH_CMD, chBase, pdie]; omega)
  have hgk : g.cmds = s.chip.cmds := hgd ▸ ((f.cmds_cmdWritten ch x).trans (hw.cmds.trans ht.cmds))
  have hgo : g.oddMember ch = false := (Chip.oddMember_of_pair hgp).trans ((hw.oddMember ch.2 hA').trans hdo)
  have hgs : g.statusOf ch = s.chip.statusOf ch := by
    rw [Chip.statusOf_even hgo, Chip.statusOf_even hodd]
    exact (hgr (o := 0x1C) (by decide)).trans ((hw.chanRd ch.2 hA' (by decide)).trans (ht.rd (by simp only [chBase]; omega)))
  have m₁ := f.mode_cmdWritten ch hmo
  have m₂ := f.duty_cmdWritten ch x
  have m₃ := f.ceil_cmdWritten ch x
  rw [← hgd] at hg m₁ m₂ m₃ q₂
  obtain ⟨r₁, r₂⟩ := acts_pwr (op := 0x10) (tag := tag) (res := [s.chip.statusOf ch]) hs ht (by simp) hw (inPwrBlock ch.2 hA') (hg.unanswered rq) (hg.only (by simp))
  have hrc (o : Nat) : (g.complete rq 0x10 tag .ok [s.chip.statusOf ch]).rd (chBase ch + o) = g.rd (chBase ch + o) :=
    Chip.rd_complete _ _ _ _ _ _ _ (by simp only [chBase]; omega)
  have hfc (w : Fld) : (g.complete rq 0x10 tag .ok [s.chip.statusOf ch]).fget (R.CH_CMD ch) w = g.fget (R.CH_CMD ch) w := congrArg w.get (hrc 0)
  refine ⟨_, State.next_chip ((hc _ _ _ (by rw [hkd]; rfl) ?_).trans (?_ : d.chSet k = g.complete rq 0x10 tag .ok [s.chip.statusOf ch])), r₁, (hfc _).trans m₁, (hfc _).trans m₂,
    (hfc _).trans m₃, Chip.took_stored (D := chPwmDesc) (ix := [ch / 48, ch % 48]) (old := d.rd (R.CH_PWM ch)) ?_ (by decide) rfl, (Chip.cmds_complete _ _ _ _ _ _ _).trans hgk, r₂⟩
  · have h₁ : (F.CH_CMD_REARM.get x == 1) = false := by rw [hra]; rfl
    have h₂ : decide (3 < F.CH_CMD_MODE.get x) = false := decide_eq_false (by omega)
    refine List.forall_mem_append.2 ⟨List.forall_mem_append.2 ⟨List.forall_mem_append.2 ⟨ht.chanChecks hch (hrq ▸ ho) hs' (only_small 0x1FF 9 a₁ (by omega) (by decide) rfl), ?_⟩,
      ht.chanState hch hl hst⟩, List.forall_mem_singleton.2 (ht.oddCheck hch hodd)⟩
    simp only [Cmd.lay, badArg, hch, a₂, a₃, h₁, h₂, hx, hy, Bool.or_false, Bool.not_true, List.forall_mem_cons, true_and, List.not_mem_nil, false_imp_iff, implies_true]
  · unfold Chip.chSet
    dsimp only
    rw [if_pos hpv, hch, a₃, a₂, ← he, hrq, q₂, hgs, hkd]
    rfl
  · rw [R.CH_PWM, hrc, hgr (by decide), q₁.rd _ (clear_chan ch.2 (by decide)).1 (clear_chan ch.2 (by decide)).2]
    exact p₂

theorem chSetCfg_serves {x : Word} (h : s.chip.offers rq 0x11 tag [(.ofNat 32 ch : Word), x]) (hst : s.chip.chState (s.chip.lead ch) ≠ .disabled)
    (hodd : s.chip.oddMember ch = false) (hx : layoutOk .CH_CFG [pdie ch, ch % 48] x = true) :
    ∃ c', exec (.chSetCfg rq) s = .next { s with chip := c' } ∧ s.chip.served c' rq 0x11 tag 2 .ok [] ∧ c'.took .CH_CFG (R.CH_CFG ch) x ∧
      c'.fget (R.CH_LID_CTRL ch) F.CH_LID_CTRL_ARM = 1 ∧ Only [Blk.sys, Blk.evr, Blk.que, Blk.pwr (pdie ch)] s.chip c' := by
  obtain ⟨hs, d, ht, hc⟩ := offers_accepts h (by decide) (by simp)
  obtain ⟨k, hkd⟩ : ∃ k, k = cmdFor rq 0x11 tag [(.ofNat 32 ch : Word), x] := ⟨_, rfl⟩
  rw [← hkd] at hc
  obtain ⟨a₁, a₂, hrq⟩ : k.arg 1 = .ofNat 32 ch ∧ k.arg 2 = x ∧ k.rq = rq := by
    rw [hkd]
    exact ⟨rfl, rfl, rfl⟩
  have hch : k.ch = ch := Cmd.ch_of a₁ (by omega) (by omega)
  have hdr : d.reaches (physDie ch) := ht.reaches (by simp only [physDie, pdie]; omega) hl hi
  obtain ⟨p₁, p₂⟩ := Chip.cfg_lands ch.2 hdr (by rw [Chip.oddMember, ht.paired]; exact hodd) x
  have hA : ∀ a ∈ R.CH_CFG ch :: tokens (physDie ch), a ∈ tokens (physDie ch) ∨ a = R.CH_PWM ch ∨ a = R.CH_CFG ch ∨ a = R.CH_DISABLE ch :=
    List.forall_mem_cons.2 ⟨.inr (.inr (.inl rfl)), fun _ => .inl⟩
  obtain ⟨e, he⟩ : ∃ e, e = d.supWrite .sup (R.CH_CFG ch) x := ⟨_, rfl⟩
  rw [← he] at p₁ p₂
  obtain ⟨q₁, q₂⟩ := Chip.setArm_says ch.2 (p₁.reaches (by have := physDie_lt ch.2; omega) (fun _ a ha => by have := inPwrBlock ch.2 hA a ha; omega) hdr) (v := 1) (by decide)
  obtain ⟨g, hg⟩ : ∃ g, g = e.setArm ch 1 := ⟨_, rfl⟩
  rw [← hg] at q₁ q₂
  obtain ⟨r₁, r₂⟩ := acts_pwr (op := 0x11) (tag := tag) (res := []) hs ht (by simp) (p₁.trans q₁) (List.forall_mem_append.2 ⟨inPwrBlock ch.2 hA, fun a => armWrites ch.2⟩)
    (.refl g) (.refl _ g)
  have hrc (o : Nat) : (g.complete rq 0x11 tag .ok []).rd (chBase ch + o) = g.rd (chBase ch + o) := Chip.rd_complete _ _ _ _ _ _ _ (by simp only [chBase]; omega)
  refine ⟨_, State.next_chip ((hc _ _ _ (by rw [hkd]; rfl) ?_).trans (?_ : d.chSetCfg k = g.complete rq 0x11 tag .ok [])), r₁,
    Chip.took_stored (D := chCfgDesc) (ix := [ch / 48, ch % 48]) (old := d.rd (R.CH_CFG ch)) ?_ (by decide) rfl, (congrArg F.CH_LID_CTRL_ARM.get (hrc 0xBC)).trans q₂, r₂⟩
  · refine List.forall_mem_append.2 ⟨List.forall_mem_append.2 ⟨List.forall_mem_append.2 ⟨ht.chanChecks hch (hrq ▸ ho) hs' (only_small 0xFF 8 a₁ (by omega) (by decide) rfl), ?_⟩,
      ht.chanState hch hl hst⟩, List.forall_mem_singleton.2 (ht.oddCheck hch hodd)⟩
    simp only [Cmd.lay, badArg, hch, a₂, hx, Bool.not_true, List.forall_mem_cons, true_and, List.not_mem_nil, false_imp_iff, implies_true]
  · rw [Chip.chSetCfg, hch, a₂, ← he, ← hg, hkd]
    rfl
  · rw [R.CH_CFG, hrc, q₁.rd _ (fun hm => ?_) (clear_chan ch.2 (by decide)).2]
    · exact p₂
    · obtain hm | hm := List.mem_cons.1 hm
      · simp only [R.CH_LID_CTRL] at hm
        omega
      · exact (clear_chan ch.2 (by decide)).1 hm
end

end Sys2Proof.Machine
end

section
/-! PROOF. CH_COMMIT and CH_SET_OWNER (spec/11, 0x12 and 0x13; R88, R91). -/

namespace Sys2Proof.Machine
open Sys2Proof

/-! ### CH_COMMIT of no channel -/

theorem Chip.captureAll_none {c : Chip} {n : Nat} (al : Bool) (h : ∀ l < 48, c.commitMask n l = false) : c.captureAll n al = c := by
  have hf : ((List.range 48).filter fun l => c.commitMask n l && !c.commitSkips (48 * n + l)) = [] := by
    rw [List.filter_eq_nil_iff]
    intro l hl
    rw [h l (List.mem_range.1 hl), Bool.false_and]
    decide
  rw [Chip.captureAll, hf]
  rfl
/-- GO with both masks 0 counts, and does no more. -/
theorem Chip.commitGo_none {c : Chip} {n : Nat} (h₀ : wholeFld.get (c.rd (R.PWR_COMMIT_MASK0 n)) = 0) (h₁ : c.fget (R.PWR_COMMIT_MASK1 n) F.PWR_COMMIT_MASK1_MASK = 0) :
    c.commitGo n = c.bumpWrap (R.PWR_COMMIT_CNT n) := by
  rw [Chip.commitGo_eq]
  refine Chip.captureAll_none _ fun l _ => ?_
  have r₀ : (c.bumpWrap (R.PWR_COMMIT_CNT n)).rd (R.PWR_COMMIT_MASK0 n) = c.rd (R.PWR_COMMIT_MASK0 n) :=
    Chip.rd_wr_ne _ _ (by simp only [R.PWR_COMMIT_MASK0, R.PWR_COMMIT_CNT]; omega)
  have r₁ : (c.bumpWrap (R.PWR_COMMIT_CNT n)).fget (R.PWR_COMMIT_MASK1 n) F.PWR_COMMIT_MASK1_MASK = 0 :=
    (congrArg F.PWR_COMMIT_MASK1_MASK.get (Chip.rd_wr_ne _ _ (by simp only [R.PWR_COMMIT_MASK1, R.PWR_COMMIT_CNT]; omega))).trans h₁
  have z : (c.rd (R.PWR_COMMIT_MASK0 n)).toNat = 0 := (get_wholeFld _).symm.trans h₀
  rw [Chip.commitMask, r₀, r₁, z, Nat.zero_testBit, Nat.zero_testBit, ite_self]

theorem lowestOf_none (n : Nat) (p : Nat → Bool) : lowestOf n 0 0 p = none := by
  have h : maskChans 0 0 = [] := by decide
  rw [lowestOf, h]
  rfl
theorem commitArg_mask (n : Fin 4) : (.ofNat 32 n : Word).toNat &&& 0x103 = (.ofNat 32 n : Word).toNat := by
  revert n
  decide
section
variable {s : State} {rq : Req} {tag : Nat} {n : Fin 4} (hl : s.chip.linkUp (n + 2) = true) (hi : s.chip.inStep (n + 2) = true)
include hl hi

theorem chCommit_serves (h : s.chip.offers rq 0x12 tag [(.ofNat 32 n : Word), 0, 0]) :
    ∃ c', exec (.chCommit rq) s = .next { s with chip := c' } ∧ s.chip.served c' rq 0x12 tag 3 .ok [s.chip.rd (R.PWR_COMMIT_CNT n) + 1] ∧
      c'.rd (R.PWR_COMMIT_CNT n) = s.chip.rd (R.PWR_COMMIT_CNT n) + 1 ∧ Only [Blk.sys, Blk.evr, Blk.que, Blk.pwr n] s.chip c' := by
  obtain ⟨hs, d, ht, hc⟩ := offers_accepts h (by decide) (by simp)
  obtain ⟨k, hkd⟩ : ∃ k, k = cmdFor rq 0x12 tag [(.ofNat 32 n : Word), 0, 0] := ⟨_, rfl⟩
  rw [← hkd] at hc
  obtain ⟨a₁, a₂, a₃⟩ : k.arg 1 = .ofNat 32 n ∧ k.arg 2 = 0 ∧ k.arg 3 = 0 := by
    rw [hkd]
    exact ⟨rfl, rfl, rfl⟩
  have hd : k.die = n := Cmd.bits_of a₁ (by omega) (by omega)
  have hal : k.bits 1 8 1 = 0 := Cmd.bits_of a₁ (by omega) (by omega)
  have hm : k.bits 3 0 16 = 0 := by
    rw [Cmd.bits, a₃]
    decide
  have pa := setting_commitMask0 n
  have pb := setting_commitMask1 n
  obtain ⟨e, w₁, w₂, w₃⟩ := Chip.supWrites_act (n := n + 2) (l := [(R.PWR_COMMIT_MASK0 n, 0), (R.PWR_COMMIT_MASK1 n, 0)]) (a := R.PWR_COMMIT n)
    (F.PWR_COMMIT_ALIGN.put (F.PWR_COMMIT_GO.of 1) 0) (by omega) (ht.reaches_pwr n.2 hl hi) (by simp [R.PWR_COMMIT_MASK0, R.PWR_COMMIT_MASK1])
    (List.forall_mem_cons.2 ⟨⟨pa.die, pa.free.1, pa.free.2, _, _, pa.toPlain⟩, List.forall_mem_singleton.2 ⟨pb.die, pb.free.1, pb.free.2, _, _, pb.toPlain⟩⟩)
    (isCommit_place n).1
  simp only [List.forall_mem_cons, List.not_mem_nil, false_imp_iff, implies_true, and_true] at w₂
  obtain ⟨m₀, m₁⟩ := w₂
  rw [Chip.regWrite_as_pwrCommit (findReg_pwrCommit n) _ (by decide)] at w₃
  obtain ⟨y, hy⟩ : ∃ y, y = storedWord pwrCommitDesc [n.val] (e.rd (R.PWR_COMMIT n)) (F.PWR_COMMIT_ALIGN.put (F.PWR_COMMIT_GO.of 1) 0) := ⟨_, rfl⟩
  rw [← hy] at w₃
  obtain ⟨f, hf⟩ : ∃ f, f = e.wr (R.PWR_COMMIT n) y := ⟨_, rfl⟩
  have f₀ : wholeFld.get (f.rd (R.PWR_COMMIT_MASK0 n)) = 0 := by
    rw [hf, Chip.rd_wr_ne _ _ (by simp only [R.PWR_COMMIT_MASK0, R.PWR_COMMIT]; omega), m₀ _ _ pa.toPlain]
    exact (Fld.get_mergeWord wholeFld commitMask0Desc false false _ 0 (by decide)).trans (by decide)
  have f₁ : f.fget (R.PWR_COMMIT_MASK1 n) F.PWR_COMMIT_MASK1_MASK = 0 := by
    rw [hf, Chip.fget, Chip.rd_wr_ne _ _ (by simp only [R.PWR_COMMIT_MASK1, R.PWR_COMMIT]; omega), m₁ _ _ pb.toPlain]
    exact (Fld.get_mergeWord F.PWR_COMMIT_MASK1_MASK commitMask1Desc false false _ 0 (by decide)).trans (by decide)
  obtain ⟨g, hg⟩ : ∃ g, g = f.bumpWrap (R.PWR_COMMIT_CNT n) := ⟨_, rfl⟩
  rw [← hf, Chip.commitGo_none f₀ f₁, ← hg] at w₃
  have hfw : Wrote ([R.PWR_COMMIT_MASK0 n, R.PWR_COMMIT_MASK1 n, R.PWR_COMMIT n] ++ tokens (n + 2)) d f := hf ▸ (w₁.trans (.of_wr e _ _)).mono fun a ha => by
    simp only [List.map_cons, List.map_nil, List.mem_append, List.mem_cons, List.not_mem_nil, or_false] at ha ⊢
    tauto
  have hgw := hfw.trans (show Wrote [R.PWR_COMMIT_CNT n] f g from hg ▸ .of_wr f _ _)
  have hcnt : g.rd (R.PWR_COMMIT_CNT n) = s.chip.rd (R.PWR_COMMIT_CNT n) + 1 := by
    have hm : R.PWR_COMMIT_CNT n ∉ [R.PWR_COMMIT_MASK0 n, R.PWR_COMMIT_MASK1 n, R.PWR_COMMIT n] ++ tokens (n + 2) := by
      simp only [tokens_pwr n.2, List.mem_append, List.mem_cons, List.not_mem_nil, or_false, R.PWR_COMMIT_MASK0, R.PWR_COMMIT_MASK1, R.PWR_COMMIT, R.PWR_COMMIT_CNT]
      omega
    rw [hg, (f.goCount_says n).1, hfw.rd _ hm (by simp only [clockReg, R.PWR_COMMIT_CNT]; omega), ht.rd (by simp only [R.PWR_COMMIT_CNT]; omega)]
  have hA : ∀ a ∈ [R.PWR_COMMIT_MASK0 n, R.PWR_COMMIT_MASK1 n, R.PWR_COMMIT n] ++ tokens (n + 2) ++ [R.PWR_COMMIT_CNT n],
      0x40200000 + n * 0x80000 ≤ a ∧ a < 0x40280000 + n * 0x80000 := by
    refine List.forall_mem_append.2 ⟨inPwr n.2 ?_, List.forall_mem_singleton.2 (by simp only [R.PWR_COMMIT_CNT]; omega)⟩
    simp only [List.forall_mem_cons, R.PWR_COMMIT_MASK0, R.PWR_COMMIT_MASK1, R.PWR_COMMIT, List.not_mem_nil, false_imp_iff, implies_true, and_true]
    omega
  obtain ⟨r₁, r₂⟩ := acts_pwr (op := 0x12) (tag := tag) (res := [s.chip.rd (R.PWR_COMMIT_CNT n) + 1]) hs ht (by simp) hgw hA (.refl g) (.refl _ g)
  refine ⟨_, State.next_chip ((hc _ _ _ (by rw [hkd]; rfl) ?_).trans (?_ : d.chCommit k = g.complete rq 0x12 tag .ok [s.chip.rd (R.PWR_COMMIT_CNT n) + 1])), r₁,
    (Chip.rd_complete _ _ _ _ _ _ _ (by simp only [R.PWR_COMMIT_CNT]; omega)).trans hcnt, r₂⟩
  · have h₁ : (k.only 3 0xFFFF).1 = false := by
      rw [Cmd.only, badArg, a₃]
      decide
    have h₂ : ((k.arg 2).toNat) = 0 := by rw [a₂]; rfl
    have h₃ : (k.only 1 0x103).1 = false := by
      rw [Cmd.only, badArg, a₁, commitArg_mask n]
      exact bne_self_eq_false _
    simp only [maskCheck, hm, h₂, lowestOf_none, h₁, h₃, hd, ht.dieCheck hl, Option.isSome_none, List.forall_mem_cons, true_and,
      List.not_mem_nil, false_imp_iff, implies_true]
  · unfold Chip.chCommit
    dsimp only
    rw [hd, a₂, a₃, hal]
    have hw : d.supWrites [(R.PWR_COMMIT_MASK0 n, 0), (R.PWR_COMMIT_MASK1 n, 0), (R.PWR_COMMIT n, F.PWR_COMMIT_ALIGN.put (F.PWR_COMMIT_GO.of 1) 0)] = g := w₃
    rw [hw, hcnt, hkd]
    rfl
end

/-! ### CH_SET_OWNER -/

section
variable {s : State} {rq : Req} {tag : Nat} {ch : Fin 192}

theorem Chip.lead_says (c : Chip) (k : Nat) : c.lead k = k ∨ c.lead k = k / 2 * 2 := by
  unfold Chip.lead
  split
  · exact .inr rfl
  · exact .inl rfl
theorem Chip.lead_place (c : Chip) (k : Nat) : c.lead k / 48 = k / 48 ∧ isSealed (c.lead k) = isSealed k := by
  have h (l : Nat) (hl : l = k ∨ l = k / 2 * 2) : l / 48 = k / 48 ∧ isSealed l = isSealed k := by
    refine ⟨by omega, ?_⟩
    rw [isSealed, isSealed, Bool.eq_iff_iff]
    simp only [Bool.and_eq_true, decide_eq_true_eq]
    omega
  exact h _ (c.lead_says k)
theorem Taken.inGroup {m : Nat} {c d : Chip} (ht : Taken rq m c d) (k : Nat) (on : Bool) : d.inGroup k on = c.inGroup k on := by
  have r (g : Nat) : d.rd (R.LF_CH01 g) = c.rd (R.LF_CH01 g) ∧ d.rd (R.LF_CH23 g) = c.rd (R.LF_CH23 g) ∧ d.rd (R.LF_CFG g) = c.rd (R.LF_CFG g) :=
    ⟨ht.rd (by simp only [R.LF_CH01]; omega), ht.rd (by simp only [R.LF_CH23]; omega), ht.rd (by simp only [R.LF_CFG]; omega)⟩
  simp only [Chip.inGroup, Chip.groupChans, Chip.flag, Chip.fget, (r _).1, (r _).2.1, (r _).2.2]
theorem owner_arg (o : Fin 6) : F.CH_OWNER_OWNER.get (.ofNat 32 o : Word) = o := by
  revert o
  decide
theorem chSetOwner_serves {o : Fin 6} (h : s.chip.offers rq 0x13 tag [(.ofNat 32 ch : Word), (.ofNat 32 o : Word)]) (hs' : isSealed ch = false)
    (ho : s.chip.ownerOf (s.chip.lead ch) = rq.code) (hl : s.chip.linkUp (physDie ch) = true) (hi : s.chip.inStep (physDie ch) = true)
    (hst : s.chip.chState (s.chip.lead ch) ≠ .disabled) (he : s.chip.isStartEnable ch = false) (he' : s.chip.isStartEnable (s.chip.lead ch) = false)
    (hg : s.chip.inGroup ch true = false) : ∃ c', exec (.chSetOwner rq) s = .next { s with chip := c' } ∧ s.chip.served c' rq 0x13 tag 2 .ok [] ∧
      c'.ownerOf (s.chip.lead ch) = o ∧ c'.rd (R.CH_CMD (s.chip.lead ch)) = s.chip.rd (R.CH_ACTIVE_CMD (s.chip.lead ch)) ∧
      Only [Blk.sys, Blk.evr, Blk.que, Blk.pwr (pdie ch)] s.chip c' := by
  obtain ⟨hs, d, ht, hc⟩ := offers_accepts h (by decide) (by simp)
  obtain ⟨k, hkd⟩ : ∃ k, k = cmdFor rq 0x13 tag [(.ofNat 32 ch : Word), (.ofNat 32 o : Word)] := ⟨_, rfl⟩
  rw [← hkd] at hc
  obtain ⟨a₁, a₂, hrq⟩ : k.arg 1 = .ofNat 32 ch ∧ k.arg 2 = .ofNat 32 o ∧ k.rq = rq := by
    rw [hkd]
    exact ⟨rfl, rfl, rfl⟩
  have hch : k.ch = ch := Cmd.ch_of a₁ (by omega) (by omega)
  obtain ⟨l, hld⟩ : ∃ l, l = s.chip.lead ch := ⟨_, rfl⟩
  obtain ⟨p₁, p₂⟩ := s.chip.lead_place ch
  have hlt : l < 192 := hld ▸ s.chip.lead_lt ch.2
  rw [← hld] at p₁ p₂ he'
  have hpd : pdie l = pdie ch := p₁
  have hpp : physDie l = physDie ch := by rw [physDie, physDie, hpd]
  have hdr : d.reaches (physDie l) := hpp ▸ ht.reaches (by simp only [physDie, pdie]; omega) hl hi
  obtain ⟨e, w₁, w₂⟩ := Chip.landed_chan hlt hdr .sup (o := 0xC) (by decide) (.ofNat 32 o)
  have hA : ∀ a ∈ tokens (physDie l), a ∈ tokens (physDie l) ∨ a = R.CH_PWM l ∨ a = R.CH_CFG l ∨ a = R.CH_DISABLE l := fun _ => .inl
  have hc₁ : 48 * (l / 48) + l % 48 = l := Nat.div_add_mod l 48
  have hx := Chip.regWrite_as_chOwner (c := e) (findReg_chan hlt (by decide) chanDesc_owner) (by rw [hc₁, p₂]; exact hs') (.ofNat 32 o)
  rw [hc₁, owner_arg] at hx
  have hes : e.isStartEnable l = false :=
    (congrArg (fun w => F.CH_STATUS_START_ENABLE.get w == 1) ((w₁.chanRd hlt hA (o := 0x1C) (by decide)).trans (ht.rd (by simp only [chBase]; omega)))).trans he'
  obtain ⟨q₁, q₂, q₃⟩ := Chip.ownerWrite_says (c := e) (v := o) hes (by omega)
  have hw := DieWork.ownerWrite e l o
  obtain ⟨g, hgd⟩ : ∃ g, g = e.ownerWrite l o := ⟨_, rfl⟩
  rw [← hgd] at hx q₁ q₂ q₃ hw
  rw [hx] at w₂
  obtain ⟨r₁, r₂⟩ := acts_pwr (op := 0x13) (tag := tag) (res := []) hs ht (by simp) w₁ (inPwrBlock hlt hA) (hw.unanswered rq) (hw.only (by simp))
  have hrc (x : Nat) : (g.complete rq 0x13 tag .ok []).rd (chBase l + x) = g.rd (chBase l + x) := Chip.rd_complete _ _ _ _ _ _ _ (by simp only [chBase]; omega)
  rw [← hld, ← hpd]
  refine ⟨_, State.next_chip ((hc _ _ _ (by rw [hkd]; rfl) ?_).trans (?_ : d.chSetOwner k = g.complete rq 0x13 tag .ok [])), r₁,
    (congrArg F.CH_OWNER_OWNER.get (hrc 0xC)).trans q₁, (hrc 0).trans (q₂.trans ((w₁.chanRd hlt hA (o := 0x10) (by decide)).trans (ht.rd (by simp only [chBase]; omega)))), r₂⟩
  · have h₁ : d.isStartEnable ch = false := (congrArg (· == 1) (ht.fget (by simp only [R.CH_STATUS, chBase]; omega) F.CH_STATUS_START_ENABLE)).trans he
    have h₂ : d.owns k ch = true := by
      rw [Chip.owns, ht.lead, ht.ownerOf, ho, hrq, beq_self_eq_true, Bool.or_true]
    have h₃ : decide (192 ≤ ch.val) = false := decide_eq_false (by omega)
    have h₄ : k.bits 2 0 4 = o := Cmd.bits_of a₂ (by omega) (by omega)
    have h₅ : decide (5 < o.val) = false := decide_eq_false (by omega)
    have h₆ : d.inGroup ch true = false := (ht.inGroup _ _).trans hg
    refine List.forall_mem_append.2 ⟨List.forall_mem_append.2 ⟨?_, ht.chanState hch hl hst⟩, ?_⟩
    · simp only [denied, notOwner, badArg, hch, h₁, h₂, h₃, h₄, h₅, hs', only_small 0xFF 8 a₁ (by omega) (by decide) rfl, only_small 0xF 4 a₂ (by omega) (by decide) rfl,
        Bool.not_true, Bool.false_and, List.forall_mem_cons, true_and, List.not_mem_nil, false_imp_iff, implies_true]
    · rw [hch]
      exact List.forall_mem_singleton.2 h₆
  · rw [Chip.chSetOwner, hch, a₂, ht.lead, ← hld]
    exact (congrArg (Chip.done · k) w₂).trans (by rw [hkd]; rfl)
end

end Sys2Proof.Machine
end

section
/-! PROOF. CH_DISABLE and CH_REARM (spec/11, 0x14 and 0x15; R141, R153, R154). -/

namespace Sys2Proof.Machine
open Sys2Proof

/-! ### Grants of other channels -/

/-- No start of the channel waits. -/
def Chip.noStart (c : Chip) (n ch : Nat) : Prop := ∀ r ∈ (c.die n).reqs, r.pulse = true ∨ r.ch ≠ ch
section
variable {ch : Nat} (hch : ch < 192)
include hch
theorem status_mem : 0x40200000 ≤ R.CH_STATUS ch ∧ R.CH_STATUS ch < 0x40400000 := by
  simp only [R.CH_STATUS, chBase]
  omega
theorem Chip.status_grantReq (c : Chip) {r : StartReq} (hr : r.pulse = true ∨ r.ch ≠ ch) : (c.grantReq r).rd (R.CH_STATUS ch) = c.rd (R.CH_STATUS ch) := by
  unfold Chip.grantReq
  split
  case isTrue =>
    refine (Chip.rd_wr_ne _ _ ?_).trans ((Chip.rd_wr_ne _ _ ?_).trans rfl)
    all_goals
      simp only [R.CH_STATUS, R.PWR_XC_WATCH0, R.PWR_XC_WATCH1, chBase]
      omega
  case isFalse hp =>
    have hne := hr.resolve_left hp
    refine (Spares.grant c r.ch).rd (status_mem hch).1 (status_mem hch).2 fun g hg => ?_
    have := mem_startFields (lo := g.lo) (w := g.w) hg
    simp only [R.CH_STATUS, chBase] at this
    omega
omit hch in
theorem Chip.noStart_grantReq {c : Chip} {n : Nat} (h : c.noStart n ch) (r : StartReq) : (c.grantReq r).noStart n ch := by
  unfold Chip.grantReq
  split
  case isFalse => exact fun q hq => h q (Chip.mem_reqs_grant hq)
  case isTrue =>
    have hd : (c.xcGrant (pdie r.ch) (r.ch % 48)).dies = (c.draw.2.setDie (pdie r.ch) { c.draw.2.die (pdie r.ch) with
        xc := some (r.ch % 48, true), reqs := (c.draw.2.die (pdie r.ch)).reqs.filter fun r => !r.pulse }).dies := (Chip.dies_wr _ _ _).trans (Chip.dies_wr _ _ _)
    intro q hq
    rw [Chip.die, hd] at hq
    change q ∈ ((c.draw.2.setDie (pdie r.ch) _).die n).reqs at hq
    by_cases hn : n = pdie r.ch
    case pos =>
      rw [hn, Chip.die_setDie_self] at hq
      exact h q (hn ▸ (List.mem_filter.1 hq).1)
    case neg =>
      rw [Chip.die_setDie_ne _ _ hn] at hq
      exact h q hq
/-- A re-examination leaves a channel alone whose start does not wait. -/
theorem Chip.status_reexamine {c : Chip} {n : Nat} (h : c.noStart n ch) : (c.reexamine n).rd (R.CH_STATUS ch) = c.rd (R.CH_STATUS ch) := by
  have hg (k : Nat) {c : Chip} (h : c.noStart n ch) : (Chip.grantInOrder n k c).rd (R.CH_STATUS ch) = c.rd (R.CH_STATUS ch) := by
    induction k generalizing c with
    | zero => rfl
    | succ k ih =>
      rw [Chip.grantInOrder]
      split
      · rfl
      next r hr =>
        split
        · exact (ih (Chip.noStart_grantReq h r)).trans (c.status_grantReq hch (h r (firstReq_mem hr)))
        · rfl
  exact hg _ h
end

/-! ### CH_DISABLE, once it has landed -/

theorem Chip.disable_lands {c : Chip} {ch : Nat} (hch : ch < 192) (hr : c.reaches (physDie ch)) (hi : c.inHold ch = false) (hs : isSealed ch = false) (x : Word) :
    ∃ e, Wrote (R.CH_DISABLE ch :: tokens (physDie ch)) c e ∧ c.supWrite .sup (R.CH_DISABLE ch) x =
      if F.CH_DISABLE_DIS.get x = 1 then e.disable ch (F.CH_DISABLE_FORCE.get x == 1) else e.enable ch := by
  obtain ⟨e, h₁, h₂⟩ := Chip.landed_chan hch hr .sup (o := 0x58) (by decide) x
  have hA : ∀ a ∈ tokens (physDie ch), a ∈ tokens (physDie ch) ∨ a = R.CH_PWM ch ∨ a = R.CH_CFG ch ∨ a = R.CH_DISABLE ch := fun _ => .inl
  have he : 48 * (ch / 48) + ch % 48 = ch := Nat.div_add_mod ch 48
  have hie : e.inHold ch = false := (Chip.inHold_eq (h₁.chState hch hA)).trans hi
  rw [Chip.regWrite_as_chDisable (findReg_chan hch (by decide) chanDesc_disable) (by rw [he]; exact hie) (by rw [he]; exact hs), he] at h₂
  exact ⟨_, (h₁.trans (.of_wr e _ _)).mono (by simp [R.CH_DISABLE]), h₂⟩
theorem Chip.statusOf_congr {c d : Chip} {ch : Nat} (hs : ∀ k, d.rd (R.CH_STATUS k) = c.rd (R.CH_STATUS k)) (hp : d.rd (R.PWR_PAIR (pdie ch)) = c.rd (R.PWR_PAIR (pdie ch))) :
    d.statusOf ch = c.statusOf ch := by
  rw [Chip.statusOf, Chip.statusOf, Chip.oddMember_of_pair hp, hs, hs]
theorem Chip.statusOf_complete (c : Chip) (ch : Nat) (rq : Req) (op tag : Nat) (st : CmdStatus) (res : List Word) (fl : Nat) :
    (c.complete rq op tag st res fl).statusOf ch = c.statusOf ch :=
  Chip.statusOf_congr (fun _ => Chip.rd_complete _ _ _ _ _ _ _ (by simp only [R.CH_STATUS, chBase]; omega)) (Chip.rd_complete _ _ _ _ _ _ _ (by simp only [R.PWR_PAIR]; omega))
theorem Chip.chState_complete (c : Chip) (ch : Nat) (rq : Req) (op tag : Nat) (st : CmdStatus) (res : List Word) (fl : Nat) :
    (c.complete rq op tag st res fl).chState ch = c.chState ch :=
  congrArg (fun w => ChState.ofCode (F.CH_STATUS_STATE.get w)) (Chip.rd_complete _ _ _ _ _ _ _ (by simp only [R.CH_STATUS, chBase]; omega))

section
variable {s : State} {rq : Req} {tag : Nat} {ch : Fin 192} (hs' : isSealed ch = false) (ho : s.chip.ownerOf (s.chip.lead ch) = rq.code)
  (hl : s.chip.linkUp (physDie ch) = true) (hi : s.chip.inStep (physDie ch) = true)
include hs' ho hl hi

theorem chDisable_enables (h : s.chip.offers rq 0x14 tag [(.ofNat 32 (ch + 512) : Word)]) (hst : s.chip.chState ch = .disabled) :
    ∃ c', exec (.chDisable rq) s = .next { s with chip := c' } ∧ s.chip.served c' rq 0x14 tag 1 .ok [c'.statusOf ch] ∧ c'.chState ch = .off := by
  obtain ⟨hs, d, ht, hc⟩ := offers_accepts h (by decide) (by simp)
  obtain ⟨k, hkd⟩ : ∃ k, k = cmdFor rq 0x14 tag [(.ofNat 32 (ch + 512) : Word)] := ⟨_, rfl⟩
  rw [← hkd] at hc
  obtain ⟨a₁, hrq⟩ : k.arg 1 = .ofNat 32 (ch + 512) ∧ k.rq = rq := by
    rw [hkd]
    exact ⟨rfl, rfl⟩
  have hch : k.ch = ch := Cmd.ch_of a₁ (by omega) (by omega)
  have hen : k.bits 1 9 1 = 1 := Cmd.bits_of a₁ (by omega) (by omega)
  have hdi : d.inHold ch = false := by rw [Chip.inHold, ht.chState, hst]; rfl
  have hA : ∀ a ∈ R.CH_DISABLE ch :: tokens (physDie ch), a ∈ tokens (physDie ch) ∨ a = R.CH_PWM ch ∨ a = R.CH_CFG ch ∨ a = R.CH_DISABLE ch :=
    List.forall_mem_cons.2 ⟨.inr (.inr (.inr rfl)), fun _ => .inl⟩
  obtain ⟨e, w₁, w₂⟩ := Chip.disable_lands ch.2 (c := d) (ht.reaches (by simp only [physDie, pdie]; omega) hl hi) hdi hs' 0
  rw [if_neg (by decide)] at w₂
  have hes : e.chState ch = .disabled := (w₁.chState ch.2 hA).trans ((ht.chState ch).trans hst)
  have hoff := Chip.chState_enable ch.2 hes
  have hg : DieWork (pdie ch) e (e.enable ch) := by
    rw [Chip.enable, if_pos hes]
    exact .goOff e ch
  obtain ⟨g, hgd⟩ : ∃ g, g = e.enable ch := ⟨_, rfl⟩
  rw [← hgd] at w₂ hoff hg
  obtain ⟨r₁, -⟩ := acts_pwr (op := 0x14) (tag := tag) (res := [g.statusOf ch]) hs ht (by simp) w₁ (inPwrBlock ch.2 hA) (hg.unanswered rq) (hg.only (by simp))
  refine ⟨_, State.next_chip ((hc _ _ _ (by rw [hkd]; rfl) ?_).trans (?_ : d.chDisable k = g.complete rq 0x14 tag .ok [g.statusOf ch])), by rw [Chip.statusOf_complete]; exact r₁,
    (Chip.chState_complete _ _ _ _ _ _ _ _).trans hoff⟩
  · refine List.forall_mem_append.2 ⟨ht.chanChecks hch (hrq ▸ ho) hs' (only_small 0x3FF 10 a₁ (by omega) (by decide) rfl), ?_⟩
    have h₁ : (k.bits 1 9 1 == 0) = false := by rw [hen]; rfl
    simp only [disabledIf, refusedBy, hch, h₁, hdi, ht.linkUp_phys hl, Bool.false_and, List.forall_mem_cons, true_and, List.not_mem_nil, false_imp_iff, implies_true]
  · rw [Chip.chDisable, if_pos hen, hch, w₂, hkd]
    rfl

/-! ### A channel that is disabled -/

omit hs' ho hl hi in
theorem DieWork.shown (c : Chip) (ch : Nat) : DieWork (pdie ch) c (c.fset (R.CH_STATUS ch) F.CH_STATUS_CAUSE 0
    |>.fset (R.CH_PROT_STATUS ch) F.CH_PROT_STATUS_DISABLE_PENDING 0 |>.fset (R.CH_PROT_STATUS ch) F.CH_PROT_STATUS_COOLING 0) :=
  ((chan c (o := 0x1C) _ _ (by decide)).trans (chan _ (o := 0x3C) _ _ (by decide))).trans (chan _ (o := 0x3C) _ _ (by decide))
omit hs' ho hl hi in
/-- A channel enters DISABLED for the one command in flight, which that ends. -/
theorem Chip.enterDisabled_alone {c : Chip} {ch : Nat} {k : Cmd} (hk : c.cmds = [k]) (hop : k.op = 0x14) (hob : k.obj = ch) : ∃ m, DieWork (pdie ch) c m ∧
    c.enterDisabled ch = m.noCmds.complete k.rq k.op k.tag .ok [m.statusOf ch] (k.flags .ok) ∧ m.noStart (pdie ch) ch := by
  have hlid : c.lidDisabled ch = c := by
    have h₁ : ∀ x ∈ c.cmds, onObj 0x31 ch x = false := by
      rw [hk, List.forall_mem_singleton, onObj, hop]
      rfl
    rw [Chip.lidDisabled, Chip.finish_none c _ _ _ fun x hx => by rw [h₁ x hx]; rfl, Chip.finish_none c _ _ _ h₁]
  obtain ⟨w, hw⟩ : ∃ w, w = (c.stopDrive ch).withdraw ch := ⟨_, rfl⟩
  have d₁ : DieWork (pdie ch) c w := hw ▸ (DieWork.stopDrive c ch).trans (.withdraw _ ch)
  have hns : w.noStart (pdie ch) ch := fun r hr => by
    have hd : (w.die (pdie ch)).reqs = dropReq ch ((c.stopDrive ch).die (pdie ch)).reqs := by
      rw [hw, Chip.withdraw, Chip.die, Chip.dies_fset]
      exact congrArg DieX.reqs (Chip.die_setDie_self _ _ _)
    rw [hd, dropReq, List.mem_filter] at hr
    simpa using hr.2
  obtain ⟨v, hv⟩ : ∃ v, v = ((w.dropPending ch).setHoldSub ch .off).setChState ch .disabled := ⟨_, rfl⟩
  have d₂ : DieWork (pdie ch) w v := hv ▸ ((DieWork.dropPending w ch).trans (.setHoldSub _ ch _)).trans (.setChState _ ch _)
  have hvd : v.dies = w.dies := by rw [hv, Chip.dies_setChState, Chip.setHoldSub, Chip.dies_fset, Chip.dropPending, Chip.dies_fset, Chip.dies_setChan]
  have d₃ := DieWork.shown v ch
  have hmd : (v.fset (R.CH_STATUS ch) F.CH_STATUS_CAUSE 0 |>.fset (R.CH_PROT_STATUS ch) F.CH_PROT_STATUS_DISABLE_PENDING 0 |>.fset (R.CH_PROT_STATUS ch)
      F.CH_PROT_STATUS_COOLING 0).dies = v.dies := by rw [Chip.dies_fset, Chip.dies_fset, Chip.dies_fset]
  have he : c.enterDisabled ch = v.disabledShown ch := by rw [Chip.enterDisabled_eq, hlid, ← hw, ← hv]
  have hsh : v.disabledShown ch = (v.fset (R.CH_STATUS ch) F.CH_STATUS_CAUSE 0 |>.fset (R.CH_PROT_STATUS ch) F.CH_PROT_STATUS_DISABLE_PENDING 0 |>.fset (R.CH_PROT_STATUS ch)
      F.CH_PROT_STATUS_COOLING 0).finish (onObj 0x14 ch) .ok [(v.fset (R.CH_STATUS ch) F.CH_STATUS_CAUSE 0 |>.fset (R.CH_PROT_STATUS ch) F.CH_PROT_STATUS_DISABLE_PENDING 0
      |>.fset (R.CH_PROT_STATUS ch) F.CH_PROT_STATUS_COOLING 0).statusOf ch] := rfl
  generalize (v.fset (R.CH_STATUS ch) F.CH_STATUS_CAUSE 0 |>.fset (R.CH_PROT_STATUS ch) F.CH_PROT_STATUS_DISABLE_PENDING 0 |>.fset (R.CH_PROT_STATUS ch)
    F.CH_PROT_STATUS_COOLING 0) = m at d₃ hmd hsh
  have dm := (d₁.trans d₂).trans d₃
  have hmk : m.cmds = [k] := (dm.cmds (by rw [hk, List.forall_mem_singleton, hop]; decide)).trans hk
  refine ⟨m, dm, ?_, fun r hr => hns r ?_⟩
  · rw [he, hsh]
    exact Chip.finish_only _ hmk (by simp [onObj, hop, hob])
  · rw [Chip.die, hmd, hvd] at hr
    exact hr
omit hs' ho hl hi in
theorem Unanswered.served {c d e : Chip} {op n : Nat} {st : CmdStatus} {res : List Word} (h : Unanswered rq d e) (hs : c.served d rq op tag n st res) :
    c.served e rq op tag n st res := ⟨h.drain.trans hs.1, (congrArg Queue.fill h.comp).trans hs.2⟩

theorem chDisable_disables (h : s.chip.offers rq 0x14 tag [(.ofNat 32 ch : Word)]) (hst : s.chip.chState ch = .off) (hp : s.chip.paired ch = false) (hk : s.chip.cmds = []) :
    ∃ c', exec (.chDisable rq) s = .next { s with chip := c' } ∧ c'.chState ch = .disabled ∧ c'.cmds = [] ∧
      s.chip.served c' rq 0x14 tag 1 .ok [c'.rd (R.CH_STATUS ch)] := by
  obtain ⟨hs, d, ht, hc⟩ := offers_accepts h (by decide) (by simp)
  obtain ⟨k, hkd⟩ : ∃ k, k = cmdFor rq 0x14 tag [(.ofNat 32 ch : Word)] := ⟨_, rfl⟩
  rw [← hkd] at hc
  obtain ⟨a₁, hrq⟩ : k.arg 1 = .ofNat 32 ch ∧ k.rq = rq := by
    rw [hkd]
    exact ⟨rfl, rfl⟩
  have hch : k.ch = ch := Cmd.ch_of a₁ (by omega) (by omega)
  have hen : k.bits 1 9 1 = 0 := Cmd.bits_of a₁ (by omega) (by omega)
  have hfo : k.bits 1 8 1 = 0 := Cmd.bits_of a₁ (by omega) (by omega)
  have hdi : d.inHold ch = false := by rw [Chip.inHold, ht.chState, hst]; rfl
  have hA : ∀ a ∈ R.CH_DISABLE ch :: tokens (physDie ch), a ∈ tokens (physDie ch) ∨ a = R.CH_PWM ch ∨ a = R.CH_CFG ch ∨ a = R.CH_DISABLE ch :=
    List.forall_mem_cons.2 ⟨.inr (.inr (.inr rfl)), fun _ => .inl⟩
  have hr : d.reaches (physDie ch) := ht.reaches (by simp only [physDie, pdie]; omega) hl hi
  obtain ⟨e, w₁, w₂⟩ := Chip.disable_lands ch.2 (c := d.addCmd k ch true) hr hdi hs' (F.CH_DISABLE_FORCE.put (F.CH_DISABLE_DIS.of 1) 0)
  rw [if_pos (by decide)] at w₂
  have hes : e.chState ch = .off := (w₁.chState ch.2 hA).trans ((ht.chState ch).trans hst)
  have hed : e.disable ch (F.CH_DISABLE_FORCE.get (F.CH_DISABLE_FORCE.put (F.CH_DISABLE_DIS.of 1) 0) == 1) = (e.enterDisabled ch).reexamine (pdie ch) := by
    rw [Chip.disable, Chip.inHold, hes, if_neg (by decide), if_pos (by decide)]
  have hek : e.cmds = [{ k with obj := ch, started := true }] := by
    rw [w₁.cmds]
    show d.cmds ++ _ = _
    rw [ht.cmds, hk]
    rfl
  obtain ⟨m, hm, hx, hns⟩ := Chip.enterDisabled_alone (ch := ch) hek (by rw [hkd]; rfl) rfl
  have hdis := e.chState_enterDisabled ch.2
  have hpair : (e.enterDisabled ch).rd (R.PWR_PAIR (pdie ch)) = e.rd (R.PWR_PAIR (pdie ch)) :=
    (Tripped.enterDisabled e).regs.rd (by simp only [R.PWR_PAIR]; omega) (by simp only [R.PWR_PAIR, pdie]; omega) fun g hg => TripWrites.not_pair (ch := 0) (.inr (.inr hg))
  have hodd : m.oddMember ch = false := by
    rw [Chip.oddMember_of_pair (c := d.addCmd k ch true)]
    · rw [Chip.oddMember]
      show (d.paired ch && _) = false
      rw [ht.paired, hp]
      rfl
    · refine Eq.trans ?_ (w₁.pairRd ch.2 hA)
      rw [← hpair, hx, Chip.rd_complete _ _ _ _ _ _ _ (by simp only [R.PWR_PAIR]; omega)]
      rfl
  rw [Chip.statusOf_even hodd] at hx
  have hfl : ({ k with obj := ch, started := true } : Cmd).flags .ok = 0 := by
    rw [hkd]
    simp [Cmd.flags, cmdFor]
  have hro : ({ k with obj := ch, started := true } : Cmd).rq = rq ∧ ({ k with obj := ch, started := true } : Cmd).op = 0x14 ∧
      ({ k with obj := ch, started := true } : Cmd).tag = tag := by rw [hkd]; exact ⟨rfl, rfl, rfl⟩
  rw [hfl, hro.1, hro.2.1, hro.2.2] at hx
  have hu : Unanswered rq d m.noCmds :=
    (((Unanswered.addCmd rq d k ch true).trans (w₁.unanswered fun a ha => .inr (by have := inPwrBlock ch.2 hA a ha; omega))).trans (hm.unanswered rq)).trans (.noCmds rq m)
  have hsv := served_says hs ht hu 0x14 tag .ok (res := [m.rd (R.CH_STATUS ch)]) (by simp)
  have hgk := Chip.cmds_complete m.noCmds rq 0x14 tag .ok [m.rd (R.CH_STATUS ch)] 0
  have hgr : (m.noCmds.complete rq 0x14 tag .ok [m.rd (R.CH_STATUS ch)]).rd (R.CH_STATUS ch) = m.rd (R.CH_STATUS ch) :=
    Chip.rd_complete _ _ _ _ _ _ _ (by simp only [R.CH_STATUS, chBase]; omega)
  have hgd : (m.noCmds.complete rq 0x14 tag .ok [m.rd (R.CH_STATUS ch)]).noStart (pdie ch) ch := fun r hr => hns r (by
    rw [(Served.complete _ _ _ _ _ _ _).die] at hr
    exact hr)
  obtain ⟨g, hg⟩ : ∃ g, g = m.noCmds.complete rq 0x14 tag .ok [m.rd (R.CH_STATUS ch)] := ⟨_, rfl⟩
  rw [← hg] at hx hsv hgk hgr hgd
  have hst' := Chip.status_reexamine ch.2 hgd
  have hstill := Still.reexamine (rq := rq) g (pdie ch)
  have hgk' : g.cmds = [] := hgk
  refine ⟨g.reexamine (pdie ch), State.next_chip ((hc _ _ _ (by rw [hkd]; rfl) ?_).trans ?_), ?_, ?_, ?_⟩
  · refine List.forall_mem_append.2 ⟨ht.chanChecks hch (hrq ▸ ho) hs' (only_small 0x3FF 10 a₁ (by omega) (by decide) rfl), ?_⟩
    have h₁ : (d.chState (d.lead ch) == ChState.disabled) = false := by
      rw [ht.lead, Chip.lead, hp, ht.chState]
      simp [hst]
    simp only [disabledIf, refusedBy, hch, h₁, hdi, ht.linkUp_phys hl, Bool.and_false, List.forall_mem_cons, true_and, List.not_mem_nil, false_imp_iff, implies_true]
  · rw [Chip.chDisable, if_neg (by rw [hen]; decide), hch, hfo, w₂, hed, hx]
  · rw [← hdis, hx]
    exact congrArg (fun w => ChState.ofCode (F.CH_STATUS_STATE.get w)) hst'
  · rw [hstill.cmds (by rw [hgk']; exact fun k hk => absurd hk List.not_mem_nil), hgk']
  · rw [hst', hgr]
    exact hstill.ans.served hsv

/-! ### CH_REARM -/

theorem chRearm_serves (h : s.chip.offers rq 0x15 tag [(.ofNat 32 ch : Word)]) (hst : s.chip.chState (s.chip.lead ch) ≠ .disabled) (hodd : s.chip.oddMember ch = false)
    (hlo : s.chip.chState ch = .latchedOff) (hcool : s.chip.cooled ch = true) : ∃ c', exec (.chRearm rq) s = .next { s with chip := c' } ∧
      s.chip.served c' rq 0x15 tag 1 .ok [c'.statusOf ch, c'.rd (R.CH_PROT_STATUS ch)] ∧ c'.chState ch = .off := by
  obtain ⟨hs, d, ht, hc⟩ := offers_accepts h (by decide) (by simp)
  obtain ⟨k, hkd⟩ : ∃ k, k = cmdFor rq 0x15 tag [(.ofNat 32 ch : Word)] := ⟨_, rfl⟩
  rw [← hkd] at hc
  obtain ⟨a₁, hrq⟩ : k.arg 1 = .ofNat 32 ch ∧ k.rq = rq := by
    rw [hkd]
    exact ⟨rfl, rfl⟩
  have hch : k.ch = ch := Cmd.ch_of a₁ (by omega) (by omega)
  have hown : d.ownerOf ch = rq.code := by rw [ht.ownerOf, ← ho, Chip.lead_of_even hodd]
  have hdo : d.oddMember ch = false := by rw [Chip.oddMember, ht.paired]; exact hodd
  obtain ⟨x, hx⟩ : ∃ x, x = F.CH_CMD_APPLY.put (F.CH_CMD_REARM.put (d.rd (R.CH_CMD ch)) 1) 0 := ⟨_, rfl⟩
  have hx₁ : F.CH_CMD_REARM.get x = 1 := by
    rw [hx, Fld.get_put_ne _ _ _ _ (by decide) (by decide), Fld.get_put _ _ _ (by decide)]
    rfl
  have hx₂ : F.CH_CMD_APPLY.get x = 0 := by
    rw [hx, Fld.get_put _ _ _ (by decide)]
    rfl
  have hA : ∀ a ∈ tokens (physDie ch), a ∈ tokens (physDie ch) ∨ a = R.CH_PWM ch ∨ a = R.CH_CFG ch ∨ a = R.CH_DISABLE ch := fun _ => .inl
  obtain ⟨e, w₁, w₂⟩ := Chip.cmd_lands (rq := rq) ch.2 (ht.reaches (by simp only [physDie, pdie]; omega) hl hi) hdo hown x
  have hes : e.chState ch = .latchedOff := (w₁.chState ch.2 hA).trans ((ht.chState ch).trans hlo)
  have hec : e.cooled ch = true := by
    rw [← hcool]
    refine Chip.cooled_congr (w₁.chans.trans (ht.field (·.chans))) (fun j => ?_) ((w₁.pairRd ch.2 hA).trans (ht.rd (by simp only [R.PWR_PAIR]; omega)))
    refine (w₁.rd _ (fun hm => ?_) (by simp only [clockReg, R.CH_PROT_STATUS, chBase]; omega)).trans (ht.rd (by simp only [R.CH_PROT_STATUS, chBase]; omega))
    rw [tokens_chan ch.2, List.mem_singleton] at hm
    simp only [R.CH_PROT_STATUS, chBase, pdie] at hm
    omega
  obtain ⟨hoff, -, -⟩ := Chip.cmdFields_rearm ch.2 hx₁ hes hec
  have hg : DieWork (pdie ch) e (e.cmdFields ch x) := by
    rw [Chip.cmdFields_eq, if_neg fun h => by omega, Chip.cmdRearmed, if_pos hx₁]
    exact (DieWork.cmdWritten e ch x).trans (.rearm _ ch)
  obtain ⟨g, hgd⟩ : ∃ g, g = e.cmdFields ch x := ⟨_, rfl⟩
  rw [← hgd] at w₂ hoff hg
  obtain ⟨r₁, -⟩ := acts_pwr (op := 0x15) (tag := tag) (res := [g.statusOf ch, g.rd (R.CH_PROT_STATUS ch)]) hs ht (by simp) w₁ (inPwrBlock ch.2 hA) (hg.unanswered rq) (hg.only (by simp))
  have hpr : (g.complete rq 0x15 tag .ok [g.statusOf ch, g.rd (R.CH_PROT_STATUS ch)]).rd (R.CH_PROT_STATUS ch) = g.rd (R.CH_PROT_STATUS ch) :=
    Chip.rd_complete _ _ _ _ _ _ _ (by simp only [R.CH_PROT_STATUS, chBase]; omega)
  refine ⟨_, State.next_chip ((hc _ _ _ (by rw [hkd]; rfl) ?_).trans (?_ : d.chRearm k = g.complete rq 0x15 tag .ok [g.statusOf ch, g.rd (R.CH_PROT_STATUS ch)])),
    by rw [Chip.statusOf_complete, hpr]; exact r₁, (Chip.chState_complete _ _ _ _ _ _ _ _).trans hoff⟩
  · exact List.forall_mem_append.2 ⟨List.forall_mem_append.2 ⟨ht.chanChecks hch (hrq ▸ ho) hs' (only_small 0xFF 8 a₁ (by omega) (by decide) rfl), ht.chanState hch hl hst⟩,
      List.forall_mem_singleton.2 (ht.oddCheck hch hodd)⟩
  · unfold Chip.chRearm
    dsimp only
    rw [hch, hrq, ← hx, w₂, hkd]
    rfl
end

end Sys2Proof.Machine
end

section
/-! PROOF. CH_SET_PAIR, IS_SET, FLASH_SET, and the commands of channels (spec/11, 0x10 to 0x1C; R73, R116, R221). -/

namespace Sys2Proof.Machine
open Sys2Proof

/-! ### CH_SET_PAIR -/

theorem DieWork.pairBit (c : Chip) {n q : Nat} (hq : q < 24) (x : Word) : DieWork n c (c.pairBit n x q) := by
  have h₁ : 0x40200000 + n * 0x80000 ≤ R.PWR_PAIR n ∧ R.PWR_PAIR n < 0x40280000 + n * 0x80000 := by
    simp only [R.PWR_PAIR]
    omega
  have h₂ : 0x40200000 + n * 0x80000 ≤ R.PWR_PAIR_REFUSED_CNT n ∧ R.PWR_PAIR_REFUSED_CNT n < 0x40280000 + n * 0x80000 := by
    simp only [R.PWR_PAIR_REFUSED_CNT]
    omega
  have h₃ (l : Nat) (hl : l < 48) : 0x40200000 + n * 0x80000 ≤ R.CH_STATUS (48 * n + l) ∧ R.CH_STATUS (48 * n + l) < 0x40280000 + n * 0x80000 := by
    simp only [R.CH_STATUS, chBase]
    omega
  have h₄ := h₃ (2 * q) (by omega)
  have h₅ := h₃ (2 * q + 1) (by omega)
  rw [Chip.pairBit_eq]
  exact ite (fun _ => refl c) fun _ => ite (fun _ => (((fset c _ _ h₁).trans (fset _ _ _ h₄)).trans (fset _ _ _ h₅)).trans (fset _ _ _ h₅)) fun _ => wr c _ h₂
theorem DieWork.pairWrite (c : Chip) (n : Nat) (x : Word) : DieWork n c (c.pairWrite n x) := foldl (fun _ hq d => pairBit d (List.mem_range.1 hq) x) c

theorem pair_mask (n : Fin 4) (p : Fin 21) : (.ofNat 32 (n + 256 * p + 65536) : Word).toNat &&& 0x11F03 = (.ofNat 32 (n + 256 * p + 65536) : Word).toNat := by
  revert n p
  decide
section
variable {s : State} {rq : Req} {tag : Nat} {n : Fin 4} (hl : s.chip.linkUp (n + 2) = true) (hi : s.chip.inStep (n + 2) = true)
include hl hi

theorem chSetPair_serves {p : Fin 21} (h : s.chip.offers rq 0x17 tag [(.ofNat 32 (n + 256 * p + 65536) : Word)])
    (ho : s.chip.ownerOf (s.chip.lead (48 * n + 2 * p)) = rq.code ∧ s.chip.ownerOf (s.chip.lead (48 * n + 2 * p + 1)) = rq.code) (hx : s.chip.pairFixed n p = false)
    (hf : s.chip.pairFree (48 * n + 2 * p) = true ∧ s.chip.pairFree (48 * n + 2 * p + 1) = true) :
    ∃ c', exec (.chSetPair rq) s = .next { s with chip := c' } ∧ s.chip.served c' rq 0x17 tag 1 .ok [] ∧ c'.paired (48 * n + 2 * p) = true ∧
      Only [Blk.sys, Blk.evr, Blk.que, Blk.pwr n] s.chip c' := by
  obtain ⟨hs, d, ht, hc⟩ := offers_accepts h (by decide) (by simp)
  obtain ⟨k, hkd⟩ : ∃ k, k = cmdFor rq 0x17 tag [(.ofNat 32 (n + 256 * p + 65536) : Word)] := ⟨_, rfl⟩
  rw [← hkd] at hc
  obtain ⟨a₁, hrq⟩ : k.arg 1 = .ofNat 32 (n + 256 * p + 65536) ∧ k.rq = rq := by
    rw [hkd]
    exact ⟨rfl, rfl⟩
  have hd : k.die = n := Cmd.bits_of a₁ (by omega) (by omega)
  have hp : k.bits 1 8 5 = p := Cmd.bits_of a₁ (by omega) (by omega)
  have hv : k.bits 1 16 1 = 1 := Cmd.bits_of a₁ (by omega) (by omega)
  obtain ⟨x, hxd⟩ : ∃ x, x = (bitFld p).put (d.rd (R.PWR_PAIR n)) 1 := ⟨_, rfl⟩
  have hbit : x.toNat.testBit p = true := by
    have h₁ : (bitFld p).get x = 1 := by
      rw [hxd, Fld.get_put _ _ _ (by simp only [bitFld]; omega)]
      rfl
    have := getLsbD_eq_bitFld x p
    rw [h₁] at this
    exact this
  obtain ⟨e, w₁, w₂⟩ := d.supWrite_reaches (a := R.PWR_PAIR n) x (by rw [(isCommit_place n).2.2.1]; exact ht.reaches_pwr n.2 hl hi)
  rw [(isCommit_place n).2.2.1] at w₁
  rw [Chip.regWrite_as_pwrPair (findReg_pwrPair n)] at w₂
  have hst (j : Nat) : e.rd (R.CH_STATUS j) = s.chip.rd (R.CH_STATUS j) := by
    refine (w₁.rd _ (fun hm => ?_) (by simp only [clockReg, R.CH_STATUS, chBase]; omega)).trans (ht.rd (by simp only [R.CH_STATUS, chBase]; omega))
    rw [tokens_pwr n.2, List.mem_singleton] at hm
    simp only [R.CH_STATUS, chBase] at hm
    omega
  have hfree (j : Nat) : e.pairFree j = s.chip.pairFree j := by simp only [Chip.pairFree, Chip.chState, Chip.pendingGrant, Chip.flag, Chip.fget, hst]
  have hfix : e.pairFixed n p = s.chip.pairFixed n p := by simp only [Chip.pairFixed, Chip.isStartEnable, Chip.flag, Chip.fget, hst]
  have hsay := Chip.pairWrite_says x (p := p.val) (by omega) (hfix.trans hx) ((hfree _).trans hf.1) ((hfree _).trans hf.2)
  have hw := DieWork.pairWrite e n x
  obtain ⟨g, hg⟩ : ∃ g, g = e.pairWrite n x := ⟨_, rfl⟩
  rw [← hg] at w₂ hsay hw
  rw [hbit] at hsay
  obtain ⟨r₁, r₂⟩ := acts_pwr (op := 0x17) (tag := tag) (res := []) hs ht (by simp) w₁ (fun a ha => token_pwr n.2 a ha) (hw.unanswered rq) (hw.only (by simp))
  refine ⟨_, State.next_chip ((hc _ _ _ (by rw [hkd]; rfl) ?_).trans (?_ : d.chSetPair k = g.complete rq 0x17 tag .ok [])), r₁, ?_, r₂⟩
  · have h₁ : d.pairFixed n p = false := by
      have hst (j : Nat) : d.rd (R.CH_STATUS j) = s.chip.rd (R.CH_STATUS j) := ht.rd (by simp only [R.CH_STATUS, chBase]; omega)
      rw [← hx]
      simp only [Chip.pairFixed, Chip.isStartEnable, Chip.flag, Chip.fget, hst]
    have h₂ : d.owns k (48 * n + 2 * p) = true := by rw [Chip.owns, ht.lead, ht.ownerOf, ho.1, hrq, beq_self_eq_true, Bool.or_true]
    have h₃ : d.owns k (48 * n + 2 * p + 1) = true := by rw [Chip.owns, ht.lead, ht.ownerOf, ho.2, hrq, beq_self_eq_true, Bool.or_true]
    have h₄ : decide (24 ≤ p.val) = false := decide_eq_false (by omega)
    have h₅ : (k.only 1 0x11F03).1 = false := by
      rw [Cmd.only, badArg, a₁, pair_mask n p, bne_self_eq_false]
    simp only [denied, notOwner, badArg, hd, hp, h₁, h₂, h₃, h₄, h₅, ht.dieCheck hl, Bool.and_false, Bool.not_true, Bool.or_self, List.forall_mem_cons, true_and, List.not_mem_nil,
      false_imp_iff, implies_true]
  · have hset : g.fget (R.PWR_PAIR n) (bitFld p) = 1 := by simpa [Chip.flag] using hsay
    unfold Chip.chSetPair
    dsimp only
    rw [hd, hp, hv, ← hxd, w₂, if_pos hset, hkd]
    rfl
  · have hrp : (g.complete rq 0x17 tag .ok []).rd (R.PWR_PAIR n) = g.rd (R.PWR_PAIR n) := Chip.rd_complete _ _ _ _ _ _ _ (by simp only [R.PWR_PAIR]; omega)
    rw [Chip.paired_eq_flag _ (by omega), Chip.flag, Chip.fget, hrp]
    exact hsay

/-! ### IS_SET with no waiting start -/

omit hl hi in
/-- A write of a scheduler's register on a die for which nothing waits only stores. -/
theorem Chip.sched_lands {c : Chip} (hr : c.reaches (n + 2)) (hq : (c.die n).reqs = []) (x : Word) :
    (Wrote (R.IS_CTRL n :: tokens (n + 2)) c (c.supWrite .sup (R.IS_CTRL n) x) ∧
      (c.supWrite .sup (R.IS_CTRL n) x).rd (R.IS_CTRL n) = storedWord isCtrlDesc [n.val] (c.rd (R.IS_CTRL n)) x) ∧
    (Wrote (R.IS_BUDGET n :: tokens (n + 2)) c (c.supWrite .sup (R.IS_BUDGET n) x) ∧
      (c.supWrite .sup (R.IS_BUDGET n) x).rd (R.IS_BUDGET n) = storedWord isBudgetDesc [n.val] (c.rd (R.IS_BUDGET n)) x) := by
  obtain ⟨hb, -, hd, -⟩ := isSched_place n
  have hreq {e : Chip} (h : Wrote (tokens (n + 2)) c e) (a : Nat) (y : Word) : ((e.wr a y).die n).reqs = [] := by
    rw [Chip.die, Chip.dies_wr, h.dies]
    exact hq
  have hout {a : Nat} (h₁ : a ≠ 0x40240004 + n * 0x80000) (h₂ : 0x40200000 ≤ a) : a ∉ tokens (n + 2) ∧ ¬ clockReg a := by
    rw [tokens_pwr n.2, List.mem_singleton]
    exact ⟨h₁, by simp only [clockReg]; omega⟩
  constructor
  · obtain ⟨e, w₁, w₂⟩ := c.supWrite_reaches (a := R.IS_CTRL n) x (by rw [hd]; exact hr)
    obtain ⟨h₁, h₂⟩ := hout (a := R.IS_CTRL n) (by simp only [R.IS_CTRL]; omega) (by simp only [R.IS_CTRL]; omega)
    rw [hd] at w₁
    rw [w₂, Chip.regWrite_as_isCtrl (findReg_isCtrl n), Chip.isCtrl_idle (hreq w₁ _ _)]
    exact ⟨(w₁.trans (.of_wr e _ _)).mono (by simp), by rw [Chip.rd_wr_self, w₁.rd _ h₁ h₂]⟩
  · obtain ⟨e, w₁, w₂⟩ := c.supWrite_reaches (a := R.IS_BUDGET n) x (by rw [hb]; exact hr)
    obtain ⟨h₁, h₂⟩ := hout (a := R.IS_BUDGET n) (by simp only [R.IS_BUDGET]; omega) (by simp only [R.IS_BUDGET]; omega)
    rw [hb] at w₁
    rw [w₂, Chip.regWrite_as_isBudget (findReg_isBudget n), Chip.reexamine_none (hreq w₁ _ _)]
    exact ⟨(w₁.trans (.of_wr e _ _)).mono (by simp), by rw [Chip.rd_wr_self, w₁.rd _ h₁ h₂]⟩
omit hl hi in
theorem Chip.supWrites_two (c : Chip) (a b : Nat) (x y : Word) : c.supWrites [(a, x), (b, y)] = (c.supWrite .sup a x).supWrite .sup b y := rfl
theorem isSet_serves {x y : Word} (h : s.chip.offers rq 0x1A tag [(.ofNat 32 n : Word), x, y]) (hq : (s.chip.die n).reqs = [])
    (hx : layoutOk .IS_CTRL [n.val] x = true) (hy : layoutOk .IS_BUDGET [n.val] y = true) :
    ∃ c', exec (.isSet rq) s = .next { s with chip := c' } ∧ s.chip.served c' rq 0x1A tag 3 .ok [] ∧ c'.took .IS_CTRL (R.IS_CTRL n) x ∧
      c'.took .IS_BUDGET (R.IS_BUDGET n) y ∧ Only [Blk.sys, Blk.evr, Blk.que, Blk.pwr n] s.chip c' := by
  obtain ⟨hs, d, ht, hc⟩ := offers_accepts h (by decide) (by simp)
  obtain ⟨k, hkd⟩ : ∃ k, k = cmdFor rq 0x1A tag [(.ofNat 32 n : Word), x, y] := ⟨_, rfl⟩
  rw [← hkd] at hc
  obtain ⟨a₁, a₂, a₃⟩ : k.arg 1 = .ofNat 32 n ∧ k.arg 2 = x ∧ k.arg 3 = y := by
    rw [hkd]
    exact ⟨rfl, rfl, rfl⟩
  have hd : k.die = n := Cmd.bits_of a₁ (by omega) (by omega)
  have hdr := ht.reaches_pwr n.2 hl hi
  have hdq : (d.die n).reqs = [] := by
    rw [Chip.die, ht.dies]
    exact hq
  obtain ⟨⟨p₁, p₂⟩, -⟩ := Chip.sched_lands hdr hdq x
  obtain ⟨e, he⟩ : ∃ e, e = d.supWrite .sup (R.IS_CTRL n) x := ⟨_, rfl⟩
  rw [← he] at p₁ p₂
  have hA₁ : ∀ a ∈ R.IS_CTRL n :: tokens (n + 2), 0x40200000 + n * 0x80000 ≤ a ∧ a < 0x40280000 + n * 0x80000 :=
    List.forall_mem_cons.2 ⟨by simp only [R.IS_CTRL]; omega, token_pwr n.2⟩
  have hA₂ : ∀ a ∈ R.IS_BUDGET n :: tokens (n + 2), 0x40200000 + n * 0x80000 ≤ a ∧ a < 0x40280000 + n * 0x80000 :=
    List.forall_mem_cons.2 ⟨by simp only [R.IS_BUDGET]; omega, token_pwr n.2⟩
  obtain ⟨-, q₁, q₂⟩ := Chip.sched_lands (c := e) (n := n) (p₁.reaches (by omega) (fun _ a ha => by have := hA₁ a ha; omega) hdr) (by rw [Chip.die, p₁.dies]; exact hdq) y
  obtain ⟨g, hg⟩ : ∃ g, g = e.supWrite .sup (R.IS_BUDGET n) y := ⟨_, rfl⟩
  rw [← hg] at q₁ q₂
  obtain ⟨r₁, r₂⟩ := acts_pwr (op := 0x1A) (tag := tag) (res := []) hs ht (by simp) (p₁.trans q₁) (List.forall_mem_append.2 ⟨hA₁, hA₂⟩) (.refl g) (.refl _ g)
  have hrc {a : Nat} (ha : 0x40030000 ≤ a) : (g.complete rq 0x1A tag .ok []).rd a = g.rd a := Chip.rd_complete _ _ _ _ _ _ _ ha
  refine ⟨_, State.next_chip ((hc _ _ _ (by rw [hkd]; rfl) ?_).trans (?_ : d.isSet k = g.complete rq 0x1A tag .ok [])), r₁,
    Chip.took_stored (D := isCtrlDesc) (ix := [n.val]) (old := d.rd (R.IS_CTRL n)) ?_ (by decide) rfl,
    Chip.took_stored (D := isBudgetDesc) (ix := [n.val]) (old := e.rd (R.IS_BUDGET n)) ?_ (by decide) rfl, r₂⟩
  · simp only [Cmd.lay, badArg, hd, a₂, a₃, only_small 3 2 a₁ (by omega) (by decide) rfl, hx, hy, ht.dieCheck hl, Bool.not_true, List.forall_mem_cons, true_and, List.not_mem_nil,
      false_imp_iff, implies_true]
  · rw [Chip.isSet, hd, a₂, a₃, Chip.supWrites_two, ← he, ← hg, hkd]
    rfl
  · rw [hrc (by simp only [R.IS_CTRL]; omega), q₁.rd _ (fun hm => ?_) (by simp only [clockReg, R.IS_CTRL]; omega)]
    · exact p₂
    · rw [tokens_pwr n.2] at hm
      simp only [List.mem_cons, List.not_mem_nil, or_false, R.IS_CTRL, R.IS_BUDGET] at hm
      omega
  · rw [hrc (by simp only [R.IS_BUDGET]; omega)]
    exact q₂
end

end Sys2Proof.Machine
end

section
/-! PROOF. FLASH_SET, and the commands of channels (spec/11, 0x10 to 0x1C; R221). -/

namespace Sys2Proof.Machine
open Sys2Proof

/-! ### The registers of a flasher -/

def flashCfgDesc : RegDesc := ⟨.PWR_FLASH_CFG, 0x40240900, [(4, 0x80000, 0), (4, 0x10, 0)], 0xFC0FFFFF, 0, 0, 0, 0, 0x5354D⟩
def flashMask0Desc : RegDesc := ⟨.PWR_FLASH_MASK0, 0x40240904, [(4, 0x80000, 0), (4, 0x10, 0)], 0xFFFFFFFF, 0, 0, 0, 0, 0⟩
def flashMask1Desc : RegDesc := ⟨.PWR_FLASH_MASK1, 0x40240908, [(4, 0x80000, 0), (4, 0x10, 0)], 0xFFFFFFFF, 0, 0, 0, 0, 0⟩
section
variable (n j : Fin 4)
theorem findReg_flashCfg : findReg (R.PWR_FLASH_CFG n j) = some (flashCfgDesc, [n.val, j.val]) := by
  have ha : R.PWR_FLASH_CFG n j = 0x40200000 + n * 0x80000 + (0x40900 + j * 0x10) := by
    simp only [R.PWR_FLASH_CFG]
    omega
  rw [ha]
  exact findReg_pwr n.2 (by omega) (by omega) (by clear ha; revert j; decide)
theorem setting_flashMask0 : Setting (n + 2) (Blk.pwr n) (R.PWR_FLASH_MASK0 n j) flashMask0Desc [n.val, j.val] := by
  have ha : R.PWR_FLASH_MASK0 n j = 0x40200000 + n * 0x80000 + (0x40904 + j * 0x10) := by
    simp only [R.PWR_FLASH_MASK0]
    omega
  refine setting_pwr n.2 (by omega) ⟨?_, by decide, by decide, rfl, rfl, fun _ => rfl⟩
  rw [ha]
  exact findReg_pwr n.2 (by omega) (by omega) (by clear ha; revert j; decide)
theorem setting_flashMask1 : Setting (n + 2) (Blk.pwr n) (R.PWR_FLASH_MASK1 n j) flashMask1Desc [n.val, j.val] := by
  have ha : R.PWR_FLASH_MASK1 n j = 0x40200000 + n * 0x80000 + (0x40908 + j * 0x10) := by
    simp only [R.PWR_FLASH_MASK1]
    omega
  refine setting_pwr n.2 (by omega) ⟨?_, by decide, by decide, rfl, rfl, fun _ => rfl⟩
  rw [ha]
  exact findReg_pwr n.2 (by omega) (by omega) (by clear ha; revert j; decide)
end
def flashNorm : List (Fld × (Nat → Nat → Nat)) := [(F.PWR_FLASH_CFG_ON_T, someOne), (F.PWR_FLASH_CFG_OFF_T, someOne)]
theorem flashNorm_eq (l : List Nat) (o z : Word) : regNorm .PWR_FLASH_CFG l o z = normAll flashNorm o z := by
  show F.PWR_FLASH_CFG_ON_T.some1 (F.PWR_FLASH_CFG_OFF_T.some1 z) = _
  rw [Fld.some1_eq _ o, Fld.some1_eq _ o]
  rfl
/-- A flasher that is switched off shows no on-phase; nothing else changes. -/
theorem Chip.flashCfg_says (c : Chip) {n k : Nat} (hk : k < 4) : DieWork n c (c.flashCfg n k) ∧ ∀ a, a ≠ R.PWR_FLASH_STATUS n k → (c.flashCfg n k).rd a = c.rd a := by
  unfold Chip.flashCfg
  split
  · exact ⟨.refl c, fun _ _ => rfl⟩
  · exact ⟨.fset c _ _ (by simp only [R.PWR_FLASH_STATUS]; omega), fun a ha => Chip.rd_fset_ne _ _ _ ha⟩

theorem lowestOf_eq_none {n m0 m1 : Nat} {p : Nat → Bool} (h : ∀ l ∈ maskChans m0 m1, p (48 * n + l) = false) : lowestOf n m0 m1 p = none := by
  rw [lowestOf, List.find?_eq_none]
  intro x hx
  obtain ⟨l, hl, rfl⟩ := List.mem_map.1 hx
  rw [h l hl]
  decide
theorem flash_mask (n j : Fin 4) : (.ofNat 32 (n + 256 * j) : Word).toNat &&& 0x303 = (.ofNat 32 (n + 256 * j) : Word).toNat := by
  revert n j
  decide

section
variable {s : State} {rq : Req} {tag : Nat} {n j : Fin 4} (hl : s.chip.linkUp (n + 2) = true) (hi : s.chip.inStep (n + 2) = true)
include hl hi

theorem flashSet_serves {x y z : Word} (h : s.chip.offers rq 0x1C tag [(.ofNat 32 (n + 256 * j) : Word), x, y, z])
    (ho : ((maskChans y.toNat (z.toNat % 65536)).all fun l => s.chip.ownerOf (s.chip.lead (48 * n + l)) == rq.code && !s.chip.inGroup (48 * n + l) false) = true)
    (hx : layoutOk .PWR_FLASH_CFG [n.val, j.val] x = true) (hy : layoutOk .PWR_FLASH_MASK0 [n.val, j.val] y = true) (hz : layoutOk .PWR_FLASH_MASK1 [n.val, j.val] z = true) :
    ∃ c', exec (.flashSet rq) s = .next { s with chip := c' } ∧ s.chip.served c' rq 0x1C tag 4 .ok [] ∧ c'.took .PWR_FLASH_CFG (R.PWR_FLASH_CFG n j) x ∧
      c'.took .PWR_FLASH_MASK0 (R.PWR_FLASH_MASK0 n j) y ∧ c'.took .PWR_FLASH_MASK1 (R.PWR_FLASH_MASK1 n j) z ∧ Only [Blk.sys, Blk.evr, Blk.que, Blk.pwr n] s.chip c' := by
  obtain ⟨hs, d, ht, hc⟩ := offers_accepts h (by decide) (by simp)
  obtain ⟨k, hkd⟩ : ∃ k, k = cmdFor rq 0x1C tag [(.ofNat 32 (n + 256 * j) : Word), x, y, z] := ⟨_, rfl⟩
  rw [← hkd] at hc
  obtain ⟨a₁, a₂, a₃, a₄, hrq⟩ : k.arg 1 = .ofNat 32 (n + 256 * j) ∧ k.arg 2 = x ∧ k.arg 3 = y ∧ k.arg 4 = z ∧ k.rq = rq := by
    rw [hkd]
    exact ⟨rfl, rfl, rfl, rfl, rfl⟩
  have hd : k.die = n := Cmd.bits_of a₁ (by omega) (by omega)
  have hj : k.bits 1 8 2 = j := Cmd.bits_of a₁ (by omega) (by omega)
  have hm : k.bits 4 0 16 = z.toNat % 65536 := by
    rw [Cmd.bits, a₄]
    simp
  have pa := setting_flashMask0 n j
  have pb := setting_flashMask1 n j
  have hdie : dieOf (R.PWR_FLASH_CFG n j) = n + 2 := by
    have hb : 0x40200000 + n * 0x80000 ≤ R.PWR_FLASH_CFG n j ∧ R.PWR_FLASH_CFG n j < 0x40280000 + n * 0x80000 := by
      simp only [R.PWR_FLASH_CFG]
      omega
    unfold dieOf
    rw [if_neg (by omega), if_pos (by omega)]
    omega
  obtain ⟨e, w₁, w₂, w₃⟩ := Chip.supWrites_act (n := n + 2) (l := [(R.PWR_FLASH_MASK0 n j, y), (R.PWR_FLASH_MASK1 n j, z)]) (a := R.PWR_FLASH_CFG n j) x (by omega)
    (ht.reaches_pwr n.2 hl hi) (by simp [R.PWR_FLASH_MASK0, R.PWR_FLASH_MASK1])
    (List.forall_mem_cons.2 ⟨⟨pa.die, pa.free.1, pa.free.2, _, _, pa.toPlain⟩, List.forall_mem_singleton.2 ⟨pb.die, pb.free.1, pb.free.2, _, _, pb.toPlain⟩⟩) hdie
  simp only [List.forall_mem_cons, List.not_mem_nil, false_imp_iff, implies_true, and_true] at w₂
  obtain ⟨m₀, m₁⟩ := w₂
  have hreg : e.regWrite .sup (R.PWR_FLASH_CFG n j) x = (e.wr (R.PWR_FLASH_CFG n j) (storedWord flashCfgDesc [n.val, j.val] (e.rd (R.PWR_FLASH_CFG n j)) x)).flashCfg n j :=
    Chip.regWrite_stores _ (findReg_flashCfg n j) (by decide) rfl rfl rfl
  obtain ⟨v, hv⟩ : ∃ v, v = storedWord flashCfgDesc [n.val, j.val] (e.rd (R.PWR_FLASH_CFG n j)) x := ⟨_, rfl⟩
  obtain ⟨f, hf⟩ : ∃ f, f = e.wr (R.PWR_FLASH_CFG n j) v := ⟨_, rfl⟩
  rw [hreg, ← hv, ← hf] at w₃
  obtain ⟨q₁, q₂⟩ := f.flashCfg_says (n := n) j.2
  obtain ⟨g, hg⟩ : ∃ g, g = f.flashCfg n j := ⟨_, rfl⟩
  rw [← hg] at w₃ q₁ q₂
  have hfw : Wrote ([R.PWR_FLASH_MASK0 n j, R.PWR_FLASH_MASK1 n j, R.PWR_FLASH_CFG n j] ++ tokens (n + 2)) d f := hf ▸ (w₁.trans (.of_wr e _ _)).mono fun a ha => by
    simp only [List.map_cons, List.map_nil, List.mem_append, List.mem_cons, List.not_mem_nil, or_false] at ha ⊢
    tauto
  have hA : ∀ a ∈ [R.PWR_FLASH_MASK0 n j, R.PWR_FLASH_MASK1 n j, R.PWR_FLASH_CFG n j] ++ tokens (n + 2), 0x40200000 + n * 0x80000 ≤ a ∧ a < 0x40280000 + n * 0x80000 := by
    refine inPwr n.2 ?_
    simp only [List.forall_mem_cons, R.PWR_FLASH_MASK0, R.PWR_FLASH_MASK1, R.PWR_FLASH_CFG, List.not_mem_nil, false_imp_iff, implies_true, and_true]
    omega
  obtain ⟨r₁, r₂⟩ := acts_pwr (op := 0x1C) (tag := tag) (res := []) hs ht (by simp) hfw hA (q₁.unanswered rq) (q₁.only (by simp))
  have hrc {a : Nat} (ha : 0x40030000 ≤ a) (h : a ≠ R.PWR_FLASH_STATUS n j) : (g.complete rq 0x1C tag .ok []).rd a = f.rd a := (Chip.rd_complete _ _ _ _ _ _ _ ha).trans (q₂ a h)
  refine ⟨_, State.next_chip ((hc _ _ _ (by rw [hkd]; rfl) ?_).trans (?_ : d.flashSet k = g.complete rq 0x1C tag .ok [])), r₁,
    Chip.took_layout (old := e.rd (R.PWR_FLASH_CFG n j)) (D := flashCfgDesc) (ix := [n.val, j.val]) flashNorm ?_ (by decide) (flashNorm_eq _) (by decide) (by simp [flashNorm, steady_someOne])
      (by decide) hx,
    Chip.took_stored (D := flashMask0Desc) (ix := [n.val, j.val]) (old := d.rd (R.PWR_FLASH_MASK0 n j)) ?_ (by decide) rfl,
    Chip.took_stored (D := flashMask1Desc) (ix := [n.val, j.val]) (old := d.rd (R.PWR_FLASH_MASK1 n j)) ?_ (by decide) rfl, r₂⟩
  · have hall : ∀ l ∈ maskChans y.toNat (z.toNat % 65536), d.owns k (48 * n + l) = true ∧ d.inGroup (48 * n + l) false = false := fun l hl => by
      obtain ⟨h₁, h₂⟩ : s.chip.ownerOf (s.chip.lead (48 * n + l)) = rq.code ∧ s.chip.inGroup (48 * n + l) false = false := by
        simpa using List.all_eq_true.1 ho l hl
      refine ⟨by rw [Chip.owns, ht.lead, ht.ownerOf, h₁, hrq, beq_self_eq_true, Bool.or_true], ?_⟩
      exact (ht.inGroup _ _).trans h₂
    have h₁ : (lowestOf n y.toNat (z.toNat % 65536) fun ch => !d.owns k ch) = none := lowestOf_eq_none fun l hl => by rw [(hall l hl).1]; rfl
    have h₂ : (lowestOf n y.toNat (z.toNat % 65536) fun ch => d.inGroup ch false) = none := lowestOf_eq_none fun l hl => (hall l hl).2
    have h₃ : (k.only 1 0x303).1 = false := by rw [Cmd.only, badArg, a₁, flash_mask n j, bne_self_eq_false]
    simp only [maskCheck, Cmd.lay, badArg, hd, hj, hm, a₂, a₃, a₄, h₁, h₂, h₃, hx, hy, hz, ht.dieCheck hl, Bool.not_true, Option.isSome_none, List.forall_mem_cons, true_and,
      List.not_mem_nil, false_imp_iff, implies_true]
  · have hw : d.supWrites [(R.PWR_FLASH_MASK0 n j, y), (R.PWR_FLASH_MASK1 n j, z), (R.PWR_FLASH_CFG n j, x)] = g := w₃
    rw [Chip.flashSet, hd, hj, a₂, a₃, a₄, hw, hkd]
    rfl
  · rw [hrc (by simp only [R.PWR_FLASH_CFG]; omega) (by simp only [R.PWR_FLASH_CFG, R.PWR_FLASH_STATUS]; omega), hf, Chip.rd_wr_self]
    exact hv
  · rw [hrc (by simp only [R.PWR_FLASH_MASK0]; omega) (by simp only [R.PWR_FLASH_MASK0, R.PWR_FLASH_STATUS]; omega), hf,
      Chip.rd_wr_ne _ _ (by simp only [R.PWR_FLASH_MASK0, R.PWR_FLASH_CFG]; omega)]
    exact m₀ _ _ pa.toPlain
  · rw [hrc (by simp only [R.PWR_FLASH_MASK1]; omega) (by simp only [R.PWR_FLASH_MASK1, R.PWR_FLASH_STATUS]; omega), hf,
      Chip.rd_wr_ne _ _ (by simp only [R.PWR_FLASH_MASK1, R.PWR_FLASH_CFG]; omega)]
    exact m₁ _ _ pb.toPlain
end

/-- Settles O38: each command's writes reach the channel or the die, which takes its words and does what they cause, and it completes. -/
theorem channelCommandsDo : Obligations.ChannelCommandsDo := by
  unfold Obligations.ChannelCommandsDo
  refine ⟨?_, ?_, ?_, ?_, ?_, ?_, ?_, ?_, ?_, ?_, ?_, ?_, ?_, ?_⟩
  case refine_1 => exact fun rq tag ch x y s h ⟨hs, ho, hl, hi⟩ hst hodd ⟨hr, ha, hm⟩ hx hy => chSet_serves hs ho hl hi h hst hodd hr ha hm hx hy
  case refine_2 => exact fun rq tag ch x s h ⟨hs, ho, hl, hi⟩ hst hodd hx => chSetCfg_serves hs ho hl hi h hst hodd hx
  case refine_3 => exact fun rq tag n s h ⟨hl, hi⟩ => chCommit_serves hl hi h
  case refine_4 => exact fun rq tag ch o s h ⟨hs, ho, hl, hi⟩ hst ⟨he, he'⟩ hg => chSetOwner_serves h hs ho hl hi hst he he' hg
  case refine_5 => exact fun rq tag ch s h ⟨hs, ho, hl, hi⟩ ⟨_, hst, _⟩ _ => chDisable_enables hs ho hl hi h hst
  case refine_6 => exact fun rq tag ch s h ⟨hs, ho, hl, hi⟩ _ ⟨hst, hp⟩ hk => chDisable_disables hs ho hl hi h hst hp hk
  case refine_7 => exact fun rq tag ch s h ⟨hs, ho, hl, hi⟩ hst hodd ⟨hlo, hc, _⟩ => chRearm_serves hs ho hl hi h hst hodd hlo hc
  case refine_8 => exact fun rq tag ch x y z s h ⟨hs, ho, hl, hi⟩ hst hx hy hz => chSetProt_serves hs ho hl hi h hst hx hy hz
  case refine_9 => exact fun rq tag n p s h ⟨hl, hi⟩ ho hx hf => chSetPair_serves hl hi h ho hx hf
  case refine_10 => exact fun rq tag ch s h hl => chGet_serves h hl
  case refine_11 =>
    exact fun rq tag n p y a0 a1 a2 a3 a4 a5 a6 a7 s h hp ⟨hl, hi⟩ hy ⟨h₀, h₁, h₂, h₃, h₄, h₅, h₆, h₇⟩ => profileWrite_serves hl hi h hp hy h₀ h₁ h₂ h₃ h₄ h₅ h₆ h₇
  case refine_12 => exact fun rq tag n x y s h ⟨hl, hi⟩ hq hx hy => isSet_serves hl hi h hq hx hy
  case refine_13 => exact fun rq tag n x s h ⟨hl, hi⟩ hx => holdSet_serves hl hi h hx
  case refine_14 => exact fun rq tag n j x y z s h ⟨hl, hi⟩ ho hx hy hz => flashSet_serves hl hi h ho hx hy hz

end Sys2Proof.Machine
end
